-- ==== Sys2Proof/Word.lean ====
section
/-! DEFINITION. The words of the 9X: 32-bit register words, bytes and 64-bit values (R4, R5). -/

namespace Sys2Proof

/-- A register word (R4: bit 0 is the least significant). -/
abbrev Word := BitVec 32

/-- A byte of memory or of a packet. -/
abbrev Byte := BitVec 8

/-- Bytes in address or arrival order. -/
abbrev Bytes := List Byte

end Sys2Proof
end

