-- ==== Sys2Proof/Syntax.lean ====
section
/-! DEFINITION. The commands of the 9X: one constructor for each row of spec/opcode_table.json, with the operands that
the row takes from outside the block. -/

namespace Sys2Proof

/-- Where a host access lands: BAR0, BAR4, configuration space, its MSI-X capability (log 3), or, by the offload host, BAR0, configuration
space or the MSI-X capability of the offload function (R22, R23, R414). -/
inductive HostSpace where
  | bar0 | bar4 | cfg | cfgMsix | oflBar0 | oflCfg | oflMsix
  deriving DecidableEq, Repr

/-- The three resets of the host port (R74). -/
inductive HostResetKind where
  | flr | hot | perst
  deriving DecidableEq, Repr

/-- The units a frame passes through on its main path and the branches (R139). -/
inductive FlowUnit where
  | rct | cap | rcu | recorder | dvt | outf
  | branch (b : Nat)
  deriving DecidableEq, Repr

/-- A CSI-2 packet header as the receiver delivers it: data type, virtual channel, the 16-bit word count or frame or
line number, and the outcome of its ECC and checksum. -/
structure CsiHdr where
  dt : Nat
  vc : Nat
  wc : Nat
  eccOk : Bool
  eccFixed : Bool
  crcOk : Bool
  deriving DecidableEq, Repr

/-- What MEDIA_SCAN finds behind a root port (R261). -/
structure MediaPort where
  port : Nat
  nsid : Nat
  /-- serial number, model number and NSID from Identify (R268) -/
  identity : Bytes
  blocks : Nat
  /-- data bytes and metadata bytes of the active LBA format -/
  lbaData : Nat
  lbaMeta : Nat
  /-- maximum data transfer size in bytes, 0 for no limit -/
  mdts : Nat
  deriving DecidableEq, Repr

/-- A motion vector of a coded picture (R341): left edge and width of its block in luma samples, and the vector in quarter samples. -/
structure CodedMv where
  x : Nat
  w : Nat
  h : Int
  v : Int
  deriving DecidableEq, Repr

/-- HRD parameters of a sequence and its buffering period (R343): cbr_flag, bit rate in bit/s, CPB size in bits, and
initial_cpb_removal_delay. -/
structure CodedHrd where
  cbr : Bool
  rate : Nat
  cpb : Nat
  delay : Nat
  deriving DecidableEq, Repr

/-- What the parameter sets and SEI messages before a picture signal (R333, R338, R340, R343, R347): the VUI, the HRD parameters, the
profile, tier and level, the picture size; constrained_intra_pred_flag and diff_cu_qp_delta_depth of the PPS; recovery_poc_cnt,
exact_match_flag and broken_link_flag of a recovery point SEI; the content light level. -/
structure CodedSets where
  primaries : Nat
  transfer : Nat
  matrix : Nat
  fullRange : Nat
  tick : Nat
  scale : Nat
  fixedRate : Bool
  hrd : Option CodedHrd
  profile : Nat
  tier : Nat
  level : Nat
  width : Nat
  height : Nat
  constrainedIntra : Bool
  qpDepth : Nat
  recovery : Option (Nat × Bool × Bool)
  light : Option (Nat × Nat)
  deriving DecidableEq, Repr

/-- A coded picture as the HEVC coder delivers it (the bitstream is ITU-T H.265's, outside the spec's text): its Annex B
bytes without filler data, the bits of each CTU in coding order, its motion vectors, its slices, and the parameter sets before it. -/
structure CodedAu where
  data : Bytes
  ctuBits : List Nat
  mvs : List CodedMv
  slices : Nat
  sets : Option CodedSets
  deriving DecidableEq, Repr

/-- The active sequence of an IRAP picture (R333, R357): its profile (0 Main, 1 Main 10, 2 Main 4:2:2 10, 3 Main 4:4:4 12 Intra, more for
any other), 30 × its level, coded picture size, chroma_format_idc, the greater bit depth, and the pictures of its decoded picture buffer. -/
structure DecSeq where
  profile : Nat
  level : Nat
  width : Nat
  height : Nat
  chroma : Nat
  depth : Nat
  pictures : Nat
  deriving DecidableEq, Repr

/-- What parsing a chunk yields: the pictures that start in it, as the decoder names them; the sequence of an IRAP picture among them;
whether a recovery point is among them; the faults met, as causes of EV_VCD_ERR; and the NAL units discarded. -/
structure DecodeResult where
  starts : List Nat
  irap : Option DecSeq
  recovered : Bool
  faults : List Nat
  discarded : Nat
  deriving DecidableEq, Repr

/-- A decoded picture in output order: the name it was started under, its conformance-cropped size, chroma_format_idc, bit
depths, samples of its planes in raster order, PicOrderCntVal, concealed CTUs, whether it is damaged, and primaries,
transfer, matrix and full-range flag of its VUI (2 where absent). -/
structure DecodedPic where
  id : Nat
  width : Nat
  height : Nat
  chroma : Nat
  lumaDepth : Nat
  chromaDepth : Nat
  y : List Nat
  cb : List Nat
  cr : List Nat
  poc : Int
  concealed : Nat
  damaged : Bool
  primaries : Nat
  transfer : Nat
  matrix : Nat
  fullRange : Nat
  deriving DecidableEq, Repr

/-- A frame that an SDI input has received (R381): raster code, whether the payload is Y'CbCr 4:2:2 at 10 bits, whether its
ST 352 colorimetry is BT.2020, its size, luma and chroma (Cb, Cr, ...) samples in raster order, and line CRC errors. -/
structure SdiFrame where
  raster : Nat
  payloadOk : Bool
  bt2020 : Bool
  width : Nat
  height : Nat
  luma : List Nat
  chroma : List Nat
  crcErrors : Nat
  deriving DecidableEq, Repr

/-- The ECC outcome of an HBM access. -/
inductive EccErr where
  | none | correctable | uncorrectable
  deriving DecidableEq, Repr

/-- A client request to HBM: its number, client and updraft class (R48, R390: 0 HI, 1 NORM, 2 BULK, 3 RT). -/
structure HbmReq where
  id : Nat
  client : Nat
  cls : Nat
  write : Bool
  addr : Nat
  data : Bytes
  len : Nat
  err : EccErr
  deriving DecidableEq, Repr

/-- An NVMe command as fetched from a submission queue. -/
structure NvmeCmd where
  sq : Nat
  /-- opcode (R419) -/
  opc : Nat
  cid : Nat
  nsid : Nat
  fuse : Nat
  psdt : Nat
  prp1 : Nat
  prp2 : Nat
  cdw10 : Nat
  cdw11 : Nat
  cdw12 : Nat
  cdw13 : Nat
  cdw14 : Nat
  cdw15 : Nat
  deriving DecidableEq, Repr

/-- A sky message as it arrives: the path, the hop limit of its datagram, its bytes. -/
structure SkyMsg where
  path : Nat
  hop : Nat
  /-- IPv6 source and destination address, and the UDP destination port (R469, R470) -/
  src : Nat
  dst : Nat
  port : Nat
  bytes : Bytes
  deriving DecidableEq, Repr

/-- How an I2C try ends. -/
inductive I2cResult where
  | ok (data : Bytes)
  | nack
  | arbLost
  | timeout
  deriving DecidableEq, Repr

/-- The DATA register of a low-speed FIFO. -/
inductive FifoPort where
  | i2c | spi | uart
  deriving DecidableEq, Repr

/-- What a Barometer plan measures (R545, R546): per power domain the worst slack in ps, the slack predicted 24 h ahead at offset
0 and the slope in ps per mV; per clock domain the highest cap in % of nominal that meets the guard; the margin predicted in
powered hours, all-ones for none; the smallest HBM margin in taps, the MRAM read margin in %, the smallest eye width in mUI
with its lane and port class; the hours spent in each temperature band. -/
structure BaroMeas where
  slack : List Int
  ahead : List Int
  slope : List Nat
  caps : List Nat
  predict : Nat
  taps : Nat
  mram : Nat
  eye : Nat
  lane : Nat
  cls : Nat
  bands : List Nat
  deriving DecidableEq, Repr

/-- What a dawn step finds outside the 9X: the content of the SPI NOR device at step 5, the channels that failed training at
step 6, what Barometer measures at step 7. -/
structure DawnInput where
  image : Bytes
  failed : List Nat
  meas : BaroMeas
  deriving DecidableEq, Repr

/-- A USB control request. -/
structure UsbReq where
  bmRequestType : Nat
  bRequest : Nat
  wValue : Nat
  wIndex : Nat
  wLength : Nat
  deriving DecidableEq, Repr

/-- A command: an access of the host, a packet on a link, a pin or protocol event, or an internal event of the 9X that
the spec lists as a step (one row of the opcode table each). -/
inductive Instr where
  /-- REGISTER_WRITE. A host write of `size` bytes (byte enables `be`) at an offset (R26). -/
  | registerWrite (sp : HostSpace) (off : Nat) (size : Nat) (be : Nat) (v : Nat)
  /-- OFF_DOMAIN_ACCESS. A BAR0 access to a unit whose domain is off (R30). -/
  | offDomainAccess (off : Nat) (rd : Bool)
  /-- LO_READ_LATCH. A read of `size` bytes by requester `rq`: of a _LO register, of its _HI half, or of anything else that the host ports answer (R23, R24, R26, R27). -/
  | loReadLatch (rq : Nat) (off : Nat) (sp : HostSpace := .bar0) (size : Nat := 4)
  /-- MIRROR_READ. A read of the mirror copy of a live offset (R29). -/
  | mirrorRead (off : Nat)
  /-- FENCE_READ. A read of ORD_FENCE (R37). -/
  | fenceRead
  /-- SEM_ACQUIRE. The events of one cycle on semaphore `n`: acquire attempts, release writes and owner resets, by owner ID (R41, R46). -/
  | semAcquire (n : Nat) (reqs : List Nat) (rels : List Nat) (rsts : List Nat)
  /-- SEM_RELEASE. Requester `rq` writes 1 to ORD_SEMn_CTL.release (R42). -/
  | semRelease (n : Nat) (rq : Nat)
  /-- SEM_ORPHAN_CLEAR. Requester `rq` writes 1 to ORD_SEMn_CTL.orphan (R44). -/
  | semOrphanClear (n : Nat) (rq : Nat)
  /-- UPDRAFT_PROMOTION. Request `id` of arbiter kind `arb` (0 XW, 1 FAB, 2 HBM, 3 CMDQ, 4 TRL), which entered in class `cls` (0 HI, 1 NORM, 2 BULK, else RT), has waited past its limit (R49). -/
  | updraftPromotion (arb : Nat) (id : Nat) (cls : Nat := 2)
  /-- BULK_ARM. A write of `v`, with arm = 1, to BULK_CTRL (R54). -/
  | bulkArm (v : Nat)
  /-- BULK_WRITE. A host write to BAR2: the bytes with their enables (R55). -/
  | bulkWrite (data : List (Bool × Byte))
  /-- BULK_READ. A host read of `n` bytes of BAR2 (R55). -/
  | bulkRead (n : Nat)
  /-- EVENT_RECORD_PUBLISH. The raised record of source unit `src` that the Trail drains next is published (R62). -/
  | eventRecordPublish (src : Nat)
  /-- EVQ_HEAD_DOORBELL. A write of EVQn_HEAD through BAR4 or BAR0 (R62). -/
  | evqHeadDoorbell (q : Nat) (v : Nat)
  /-- HELD_RECORD_FLUSH. Space has freed in queue `q` (R64). -/
  | heldRecordFlush (q : Nat)
  /-- EVQ_IMOD_TIMEOUT. The moderation time of queue `q` has run out (R63). -/
  | evqImodTimeout (q : Nat)
  /-- EVQ_RESET. A write of 1 to EVQn_CTRL.reset (R62). -/
  | evqReset (q : Nat)
  /-- CMDQ_TAIL_DOORBELL. A write of CMDQr_TAIL through BAR4 or BAR0 (R67). -/
  | cmdqTailDoorbell (r : Nat) (v : Nat)
  /-- CMDQ_POLL. A 1 µs re-read of the zero length word of ring `r` (R68). -/
  | cmdqPoll (r : Nat)
  /-- CMDQ_PACKET_START. Firmware starts the next runnable packet (R69). -/
  | cmdqPacketStart
  /-- CMDQ_PACKET_COMPLETE. Started packet `id` ends (R70). -/
  | cmdqPacketComplete (id : Nat)
  /-- NOP. The NOP packet at the head of ring `r` is consumed (R65). -/
  | nop (r : Nat)
  /-- ECHO. Started packet `id` runs as ECHO (R65). -/
  | echo (id : Nat)
  /-- CMDQ_FLUSH. The packet boundary at which a flush of ring `r` takes effect (R72). -/
  | cmdqFlush (r : Nat)
  /-- HOST_FUNCTION_RESET. A reset of the host function (R74). -/
  | hostFunctionReset (kind : HostResetKind)
  /-- DEV_COMMIT. A write of `v`, with go = 1, to DEV_COMMIT (R119). -/
  | devCommit (v : Nat)
  /-- FRONT_ISSUE. The first qualifying boundary of ref_pipe: the first packet of the frame with this counter is accepted (R125, R128). -/
  | frontIssue (counter : Nat)
  /-- IDLE_COMMIT_ISSUE. The epoch instant of a commit whose ref_pipe is idle (R131). -/
  | idleCommitIssue
  /-- UNIT_EPOCH_SWITCH. The first sample of frame `fid` of pipeline `p` reaches a unit (R134). -/
  | unitEpochSwitch (unit : FlowUnit) (p : Nat) (fid : Nat)
  /-- FRAME_LEAVES_UNIT. A frame has left a unit (R139). -/
  | frameLeavesUnit (unit : FlowUnit) (p : Nat) (fid : Nat)
  /-- PATCH_DRAIN_END. Every old frame has left the patched pipeline (R144). -/
  | patchDrainEnd (p : Nat)
  /-- DEV_SNAP. A write of 1 to DEV_SNAP.go (R147). -/
  | devSnap
  /-- SNAP_COMPLETE. The mirror is readable (R149). -/
  | snapComplete
  /-- RATE_LIMITED_RECORD. A rate-limited record is due (R598). -/
  | rateLimitedRecord (typ : Nat) (inst : Nat)
  /-- VALIDATE. DRV op 0b0000 starts (R104). -/
  | drvValidate (arg : Nat)
  /-- STAGE_PATCH. DRV op 0b0001 starts (R113). -/
  | drvStagePatch (arg : Nat)
  /-- WRITE_SLOT_A. DRV op 0b0010 starts (R110). -/
  | drvWriteSlotA (arg : Nat)
  /-- WRITE_SLOT_B. DRV op 0b0011 starts (R110). -/
  | drvWriteSlotB (arg : Nat)
  /-- CLEAR_FAILED_DAWN_COUNT. DRV op 0b0100 starts (R108). -/
  | drvClearFailedDawn (arg : Nat)
  /-- DISCARD_STAGED_PATCHES. DRV op 0b0101 starts (R113). -/
  | drvDiscardPatches (arg : Nat)
  /-- RAISE_FLOOR. DRV op 0b0110 starts (R103). -/
  | drvRaiseFloor (arg : Nat)
  /-- LOAD_FULL_IMAGE. DRV op 0b0111 starts (R115). -/
  | drvLoadFullImage (arg : Nat)
  /-- FUSE_KEY. DRV op 0b1000 starts (R101). -/
  | drvFuseKey (arg : Nat)
  /-- REVOKE_KEY. DRV op 0b1001 starts on key slot `arg` (R102). -/
  | drvRevokeKey (arg : Nat)
  /-- DRV_OPERATION_END. The running DRV operation ends (R116). -/
  | drvOperationEnd
  /-- SLK_BLOCK. A 64b/66b block arrives: 2-bit sync header and 64 scrambled bits (R154). -/
  | slkBlock (lane : Nat) (sync : Nat) (payload : Nat)
  /-- ALIGN_BLOCK. A descrambled ALIGN block arrives on a lane (R158). -/
  | alignBlock (lane : Nat) (payload : Nat)
  /-- REACQUIRE. A write of 1 to SFE_Gg_CTRL.reacquire (R155). -/
  | reacquire (g : Nat)
  /-- REACQUIRE_TIMEOUT. 10 ms after reacquire was set (R155). -/
  | reacquireTimeout (g : Nat)
  /-- FS. An FS packet of group `g` (R163). -/
  | fs (g : Nat) (pkt : Bytes)
  /-- FE. An FE packet of group `g` (R169). -/
  | fe (g : Nat) (pkt : Bytes)
  /-- LINE. A LINE packet of group `g` (R167); `full` says whether the ingest write buffer has overflowed (R185). -/
  | line (g : Nat) (pkt : Bytes) (full : Bool := false)
  /-- OBLINE. An OBLINE packet of group `g` (R167); `full` as for a LINE (R185). -/
  | obline (g : Nat) (pkt : Bytes) (full : Bool := false)
  /-- EMBED. An EMBED packet of group `g` (R163). -/
  | embed (g : Nat) (pkt : Bytes)
  /-- FRAME_TIMEOUT. The frame timeout of a stream expires (R170). -/
  | frameTimeout (stream : Nat)
  /-- CSI2_FS. A CSI-2 frame start (R183). -/
  | csi2Fs (port : Nat) (hdr : CsiHdr)
  /-- CSI2_FE. A CSI-2 frame end (R183). -/
  | csi2Fe (port : Nat) (hdr : CsiHdr)
  /-- CSI2_RAW_LONG_PACKET. A CSI-2 raw long packet (R183); `full` as for a LINE (R185). -/
  | csi2Raw (port : Nat) (hdr : CsiHdr) (data : Bytes) (full : Bool := false)
  /-- CSI2_EMBEDDED_PACKET. A CSI-2 embedded-data packet (R183). -/
  | csi2Embedded (port : Nat) (hdr : CsiHdr) (data : Bytes)
  /-- CSI2_IGNORED_SHORT_PACKET. An LS, LE or generic short packet (R181). -/
  | csi2Ignored (port : Nat) (hdr : CsiHdr)
  /-- SG_EDGE. A shutter generator edge time is reached (R187). -/
  | sgEdge (g : Nat)
  /-- SG_PULSE_END. A shutter pulse ends (R188). -/
  | sgPulseEnd (g : Nat)
  /-- RCT_FRAME. An RCT tile corrects its stripe of a frame (R199). -/
  | rctFrame (tile : Nat) (fid : Nat)
  /-- CAP_FRAME. CAP receives a corrected frame (R227). -/
  | capFrame (p : Nat) (fid : Nat)
  /-- CAP_SOFTWARE_TRIGGER. A write of `v`, with go = 1, to CAP_Pp_TRIG (R234). -/
  | capSoftwareTrigger (p : Nat) (v : Nat)
  /-- CAP_TIME_TRIGGER. Device time reaches CAP_Pp_TTIME (R234). -/
  | capTimeTrigger (p : Nat)
  /-- CAP_DRAIN. A write of `v`, with go = 1, to CAP_Pp_DRAIN (R238). -/
  | capDrain (p : Nat) (v : Nat)
  /-- REISSUE_FRAME. CAP re-issues the next frame of the draining segment (R238). -/
  | reissueFrame (p : Nat)
  /-- SEGMENT_RELEASE. A write of `v` to CAP_Pp_SEGREL (R239). -/
  | segmentRelease (p : Nat) (v : Nat)
  /-- RCU_FRAME. An RCU tile codes its tile columns of a frame (R242). -/
  | rcuFrame (tile : Nat) (fid : Nat)
  /-- MEDIA_SCAN. Packet MEDIA_SCAN runs; what is found behind the root ports (R261). -/
  | mediaScan (id : Nat) (ports : List MediaPort)
  /-- MEDIA_FORMAT. Packet MEDIA_FORMAT runs with a new volume UUID (R266). -/
  | mediaFormat (id : Nat) (uuid : Nat) (now : Nat)
  /-- MEDIA_OPEN. Packet MEDIA_OPEN runs (R289). -/
  | mediaOpen (id : Nat)
  /-- MEDIA_CLOSE. Packet MEDIA_CLOSE runs (R278). -/
  | mediaClose (id : Nat)
  /-- TAKE_START. Packet TAKE_START runs (R280). -/
  | takeStart (id : Nat)
  /-- TAKE_STOP. Packet TAKE_STOP runs (R280). -/
  | takeStop (id : Nat)
  /-- CHECKPOINT. Packet CHECKPOINT runs (R278). -/
  | checkpoint (id : Nat)
  /-- REBUILD. Packet REBUILD runs (R283). -/
  | rebuild (id : Nat)
  /-- ROW_ISSUE. REC issues the next row of the take of pipeline `p` (R275). -/
  | rowIssue (p : Nat)
  /-- ROW_WRITE_COMPLETE. The Write commands of a row end, those of `failed` members with an error (R281). -/
  | rowWriteComplete (row : Nat) (failed : List Nat)
  /-- MEMBER_COMMAND_TIMEOUT. A command to a member outlasts its timeout: the write of row `cmd`, or the Flush (R262). -/
  | memberCommandTimeout (member : Nat) (cmd : Option Nat := none)
  /-- REC_COMMIT. The commit interval of REC ends (R276). -/
  | recCommit
  /-- MEDIA_FENCE_COMPLETE. The media fence completes on every live member (R276). -/
  | mediaFenceComplete
  /-- REBUILD_ROW. REC reconstructs the next row onto the replacement (R283). -/
  | rebuildRow (readFailed : List Nat)
  /-- DUSK_LANDING_DONE. REC's landing completes (R284). -/
  | duskLandingDone
  /-- ZST_JOB. A ZST engine takes its next descriptor (R291). -/
  | zstJob (e : Nat)
  /-- ZST_JOB_COMPLETE. The job of a ZST engine ends (R295). -/
  | zstJobComplete (e : Nat)
  /-- DVT_FRAME. A DVT tile develops its stripe of a frame (R302). -/
  | dvtFrame (tile : Nat) (fid : Nat)
  /-- OUTF_FRAME. An OUTF engine packs a branch frame; `full` says that its input queue overflows (R317). -/
  | outfFrame (p : Nat) (b : Nat) (fid : Nat) (full : Bool := false)
  /-- OUTF_PUBLISH. The oldest written branch frame is due for publication (R325). -/
  | outfPublish (p : Nat) (b : Nat)
  /-- PEER_CREDIT_WRITE. An endpoint writes a credit to the inbound window of port `r` (R328). -/
  | peerCreditWrite (r : Nat) (off : Nat) (v : Nat)
  /-- ENCODE_PICTURE. An encode core codes its next published slot (R337). -/
  | encodePicture (k : Nat) (au : CodedAu)
  /-- RTP_SEND_AU. The RTP sender sends the next access-unit record; is the link of its port up (R351, R352). -/
  | rtpSendAu (k : Nat) (up : Bool := true)
  /-- DECODE_DESCRIPTOR. The decode core parses the next chunk (R353). -/
  | decodeDescriptor (res : DecodeResult)
  /-- DECODED_PICTURE_OUTPUT. A decoded picture is due for output (R354). -/
  | decodedPictureOutput (pic : DecodedPic)
  /-- DISPLAY_FRAME_START. A display frame starts (R360). -/
  | displayFrameStart
  /-- VBLANK_LATCH. Vertical blanking opens (R366). -/
  | vblankLatch
  /-- EV_DISP_LOCK. The raster lock reference is lost or returns (R361). -/
  | evDispLock (locked : Bool)
  /-- EV_DISP_UNDERRUN. A layer's line is not fetched in time (R372). -/
  | evDispUnderrun (layer : Nat) (line : Nat) (poison : Bool)
  /-- DSI_TRANSFER_START. A tearing-effect edge reaches a DSI port (R378). -/
  | dsiTransferStart (d : Nat)
  /-- DSI_TRANSFER_END. A DSI frame transfer ends (R378). -/
  | dsiTransferEnd (d : Nat)
  /-- TE_LOST. 100 ms without a tearing-effect edge (R378). -/
  | teLost (d : Nat)
  /-- DSI_COMMAND. A write of `v`, with go = 1, to DISP_Dd_CMD (R379). -/
  | dsiCommand (d : Nat) (v : Nat)
  /-- DSI_RESPONSE_TIMEOUT. 1 ms after turnaround without a response (R379). -/
  | dsiResponseTimeout (d : Nat)
  /-- SDI_INPUT_FRAME. An SDI input has received a frame (R381). -/
  | sdiInputFrame (i : Nat) (f : SdiFrame)
  /-- EV_SDI_IN. An SDI input loses or gains lock (R381). -/
  | evSdiIn (i : Nat) (locked : Bool) (std : Nat) (transfer : Nat)
  /-- REFRESH_TICK. The shared refresh tick (R395). -/
  | refreshTick
  /-- HBM_TEMP_REPORT. A stack reports its temperature (R396). -/
  | hbmTempReport (stack : Nat) (temp : Int)
  /-- HBM_REQUEST. The client requests that wait, in order of arrival, are served in the order of their classes (R48, R394). -/
  | hbmRequest (rqs : List HbmReq)
  /-- SCRUB_READ. The scrub reads the next mapped access (R400). -/
  | scrubRead (err : EccErr)
  /-- CAPAR_ALERT. A command/address parity alert (R401). -/
  | caparAlert (ch : Nat) (again : Bool)
  /-- EV_HBM_PANIC. A real-time client's margin, in ns, falls below mark (R392). -/
  | evHbmPanic (client : Nat) (margin : Nat := 0)
  /-- PANIC_DROP. A client's margin, in ns, rises above mark plus hysteresis; the MEM cycles that each channel has spent with its panic raised (R392). -/
  | panicDrop (client : Nat) (margin : Nat := 0) (cycles : List (Nat × Nat) := [])
  /-- CHANNEL_RELEASE. A frozen channel is released (R406). -/
  | channelRelease (ch : Nat) (byHost : Bool)
  /-- EV_HBM_RESYNC. A channel's resync ends (R406). -/
  | evHbmResync (ch : Nat) (trainOk : Bool) (ms : Nat)
  /-- PPR. A write of `v`, with go = 1, to HBMC_CH_PPR (R409). -/
  | ppr (ch : Nat) (v : Nat) (ok : Bool)
  /-- MARGIN_SCAN. Firmware scans a channel's margins (R408). -/
  | marginScan (ch : Nat) (eyes : List (Nat × Nat))
  /-- CONTROLLER_ENABLE. CC.EN goes to 1 (R415). -/
  | controllerEnable (cc : Nat)
  /-- CONTROLLER_RESET. CC.EN goes to 0 (R432). -/
  | controllerReset
  /-- OFFLOAD_LINK_RESET. A reset on the offload link (R413). -/
  | offloadLinkReset
  /-- CONTROLLER_SHUTDOWN. CC.SHN is written (R433). -/
  | controllerShutdown (shn : Nat)
  /-- NVME_SQ_DOORBELL. A submission queue tail doorbell (R424). -/
  | nvmeSqDoorbell (q : Nat) (tail : Nat)
  /-- DELETE_IO_SQ. Admin command 0x00 (R419). -/
  | nvmeDeleteIoSq (c : NvmeCmd)
  /-- DELETE_IO_CQ. Admin command 0x04 (R419). -/
  | nvmeDeleteIoCq (c : NvmeCmd)
  /-- CREATE_IO_SQ. Admin command 0x01 (R419). -/
  | nvmeCreateIoSq (c : NvmeCmd)
  /-- CREATE_IO_CQ. Admin command 0x05 (R419). -/
  | nvmeCreateIoCq (c : NvmeCmd)
  /-- GET_LOG_PAGE. Admin command 0x02 (R421). -/
  | nvmeGetLogPage (c : NvmeCmd)
  /-- IDENTIFY. Admin command 0x06 (R419). -/
  | nvmeIdentify (c : NvmeCmd)
  /-- ABORT. Admin command 0x08 (R419). -/
  | nvmeAbort (c : NvmeCmd)
  /-- SET_FEATURES. Admin command 0x09 (R420). -/
  | nvmeSetFeatures (c : NvmeCmd)
  /-- GET_FEATURES. Admin command 0x0A (R420). -/
  | nvmeGetFeatures (c : NvmeCmd)
  /-- ASYNCHRONOUS_EVENT_REQUEST. Admin command 0x0C (R422). -/
  | nvmeAsyncEvent (c : NvmeCmd)
  /-- FIRMWARE_IMAGE_DOWNLOAD. Admin command 0x11 with its data (R434). -/
  | nvmeFwDownload (c : NvmeCmd) (data : Bytes)
  /-- FIRMWARE_COMMIT. Admin command 0x10 (R434). -/
  | nvmeFwCommit (c : NvmeCmd) (authentic : Bool)
  /-- FIRMWARE_ACTIVATION. The requested module is activated (R435). -/
  | firmwareActivation (starts : Bool)
  /-- DEVICE_SELF_TEST. Admin command 0x14 (R439). -/
  | nvmeSelfTest (c : NvmeCmd)
  /-- SELF_TEST_STEP. One self-test step (R440). -/
  | selfTestStep (ok : Bool)
  /-- NVME_FLUSH. I/O command Flush (R431). -/
  | nvmeFlush (c : NvmeCmd)
  /-- NVME_WRITE. I/O command Write with its data (R426). -/
  | nvmeWrite (c : NvmeCmd) (data : Bytes)
  /-- NVME_READ. I/O command Read (R429). -/
  | nvmeRead (c : NvmeCmd)
  /-- NVME_COMPARE. I/O command Compare with its data (R419). -/
  | nvmeCompare (c : NvmeCmd) (data : Bytes)
  /-- NVME_WRITE_ZEROES. I/O command Write Zeroes (R419). -/
  | nvmeWriteZeroes (c : NvmeCmd)
  /-- NVME_VERIFY. I/O command Verify (R419). -/
  | nvmeVerify (c : NvmeCmd)
  /-- MEMBER_READ_FAIL. Member access `io` of the offload port fails or times out (R430). -/
  | memberReadFail (io : Nat) (timeout : Bool)
  /-- EXCHANGE_ROW_WRITEBACK. A dirty exchange-cache row is written to the members (R426). -/
  | exchangeRowWriteback (row : Nat)
  /-- POWER_STATE_REACHED. Entry to or exit from a power state completes (R437). -/
  | powerStateReached
  /-- APST_TRANSITION. An APST idle time has passed (R438). -/
  | apstTransition
  /-- TB_INC_UPDATE. A write of TIME_TBn_INC_HI (R445). -/
  | tbIncUpdate (n : Nat) (hi : Nat)
  /-- EV_TIME_STEP. A write of TIME_TBn_ADJ_HI (R445). -/
  | evTimeStep (n : Nat) (hi : Nat)
  /-- BEAT. A write of 1 to TIME_TBn_HEALTH.beat (R447). -/
  | beat (n : Nat)
  /-- DROP. A write of 1 to TIME_TBn_HEALTH.drop (R447). -/
  | drop (n : Nat)
  /-- TRACKING_LAPSE. The tracking window of a base expires (R447). -/
  | trackingLapse (n : Nat)
  /-- DT_SWITCH. A write of `v`, with go = 1, to TIME_DT_CTRL (R450). -/
  | dtSwitch (v : Nat)
  /-- EV_TIME_SLEW_DONE. The DT offset reaches 0 (R449). -/
  | evTimeSlewDone
  /-- TIME_CAPTURE. A write of `v`, with go = 1, to TIME_CAP (R452). -/
  | timeCapture (v : Nat)
  /-- PTP_TRANSMIT. A write of `v`, with go = 1, to TIME_PTp_TXCTRL (R457). -/
  | ptpTransmit (p : Nat) (v : Nat)
  /-- TXQ_POP. A write of 1 to TIME_PTp_TXQ_CTRL.pop (R458). -/
  | txqPop (p : Nat)
  /-- PTP_RECEIVE. A PTP frame arrives (R459). -/
  | ptpReceive (p : Nat) (frame : Bytes)
  /-- GENLOCK_REFERENCE. A genlock frame reference of a format, by its code in TIME_GL_STAT.format (R461). -/
  | genlockReference (std : Nat)
  /-- GENLOCK_LOSS. Two frame periods without a reference (R461). -/
  | genlockLoss
  /-- LTC_IN_FRAME. A valid LTC frame is decoded: its drop-frame flag, and its period in TB3 ns (R462). -/
  | ltcInFrame (tc : Nat) (ub : Nat) (df : Bool) (period : Nat)
  /-- LTC_IN_LOSS. Three frame periods without a valid LTC frame (R462). -/
  | ltcInLoss
  /-- LTC_OUT_FRAME. An LTC out frame starts at a TB3 grid instant (R463). -/
  | ltcOutFrame
  /-- LTC_JAM. A write of TIME_LTCO_JAM (R463). -/
  | ltcJam (v : Nat)
  /-- TRIGGER_EDGE. An edge at an input line, with the length in ns of the shorter pulse that it bounds (R464). -/
  | triggerEdge (line : Nat) (rising : Bool) (width : Nat := 0)
  /-- PULSE_SCHEDULER_EDGE. A pulse scheduler edge time is reached (R467). -/
  | pulseSchedulerEdge (k : Nat)
  /-- SKY_ENABLE. SKY_CTRL.enable goes to 1 (R476). -/
  | skyEnable
  /-- ANNOUNCE_TIMER. An announce interval ends (R476). -/
  | announceTimer
  /-- FORMATION_DECISION. Three intervals after the first ANNOUNCE (R476). -/
  | formationDecision
  /-- ANNOUNCE. An ANNOUNCE arrives (R474). -/
  | skyAnnounce (m : SkyMsg)
  /-- ASSIGN. An ASSIGN arrives (R477). -/
  | skyAssign (m : SkyMsg)
  /-- REQUEST. A REQUEST arrives (R480). -/
  | skyRequest (m : SkyMsg)
  /-- PREPARE. A PREPARE arrives (R481). -/
  | skyPrepare (m : SkyMsg)
  /-- ACK. An ACK arrives (R481). -/
  | skyAck (m : SkyMsg)
  /-- COMMIT. A COMMIT or ABORT arrives (R482). -/
  | skyCommit (m : SkyMsg)
  /-- ARRIVE. An ARRIVE arrives (R485). -/
  | skyArrive (m : SkyMsg)
  /-- RELEASE. A RELEASE arrives (R485). -/
  | skyRelease (m : SkyMsg)
  /-- SNAP. A SNAP arrives (R486). -/
  | skySnap (m : SkyMsg)
  /-- RESET. A RESET arrives (R487). -/
  | skyReset (m : SkyMsg)
  /-- DONE. A DONE arrives (R474). -/
  | skyDone (m : SkyMsg)
  /-- LOST. A LOST arrives (R488). -/
  | skyLost (m : SkyMsg)
  /-- SKY_OP_COMMIT. SKY_OP op 1 (R481). -/
  | skyOpCommit (arg : Nat)
  /-- SKY_OP_BARRIER. SKY_OP op 2 (R485). -/
  | skyOpBarrier (arg : Nat)
  /-- SKY_OP_SNAPSHOT. SKY_OP op 3 (R486). -/
  | skyOpSnapshot (arg : Nat)
  /-- SKY_OP_RESET. SKY_OP op 4 (R487). -/
  | skyOpReset (arg : Nat)
  /-- ACK_DEADLINE. A relay's ACK deadline passes (R481). -/
  | ackDeadline
  /-- ROOT_DECISION. The root's decision time comes (R481). -/
  | rootDecision
  /-- BARRIER_END. DT reaches the barrier's T (R485). -/
  | barrierEnd
  /-- SNAP_CAPTURE. DT reaches the snapshot's T (R486). -/
  | snapCapture
  /-- SKY_RESET_ACT. DT reaches the reset's T (R487). -/
  | skyResetAct
  /-- AL_SKY_PATH. A path counts as down, or up again (R471). -/
  | alSkyPath (path : Nat) (up : Bool)
  /-- CHILD_LOST. A child is silent for 3 intervals (R488). -/
  | childLost (node : Nat)
  /-- ROOT_LOST. The root is silent for 3 intervals (R488). -/
  | rootLost
  /-- SKY_KEY. Packet SKY_KEY runs (R489). -/
  | skyKey (id : Nat)
  /-- AUD_START. A write of `v`, with go = 1, to AUD_START_CTRL (R497). -/
  | audStart (v : Nat)
  /-- SAMPLE_FRAME. A scheduled sample frame of port `n` falls (R495). -/
  | sampleFrame (n : Nat) (captured : Bytes)
  /-- AUDIO_INPUT_FRAME. An input frame enters the elastic buffer of port `n` (R500). -/
  | audioInputFrame (n : Nat) (data : Bytes) (cs : List Nat)
  /-- EV_AUD_LOCK. An audio input gains or loses lock (R493). -/
  | evAudLock (n : Nat) (locked : Bool)
  /-- SMBUS_READ. An SMBus read transaction, after a command byte or without one (R509, R510). -/
  | smbusRead (addr : Nat) (cmd : Option Nat) (n : Nat)
  /-- SMBUS_WRITE. An SMBus write transaction: the bytes after the command, and a PEC byte if one follows them (R511, R512). -/
  | smbusWrite (addr : Nat) (cmd : Nat) (data : Bytes) (crc : Option Nat)
  /-- SMBUS_TIMEOUT. A line held low for 25 ms (R513). -/
  | smbusTimeout
  /-- I2C_GO. A write of `v`, with go = 1, to LSP_Ic_CTRL (R514). -/
  | i2cGo (c : Nat) (v : Nat)
  /-- I2C_TRY_END. An I2C try ends (R515). -/
  | i2cTryEnd (c : Nat) (res : I2cResult)
  /-- I2C_RETRY_DELAY. The backoff delay expires (R515). -/
  | i2cRetryDelay (c : Nat)
  /-- I2C_FLUSH. A write of 1 to LSP_Ic_CTRL.flush (R517). -/
  | i2cFlush (c : Nat)
  /-- SPI_GO. A write of `v`, with go = 1, to LSP_SPIs_CTRL (R519). -/
  | spiGo (c : Nat) (v : Nat)
  /-- FIFO_PUSH. A write of a DATA register (R507). -/
  | fifoPush (f : FifoPort) (i : Nat) (v : Nat)
  /-- FIFO_POP. A read of a DATA register (R507). -/
  | fifoPop (f : FifoPort) (i : Nat)
  /-- UART_RX_BYTE. A UART byte is received (R522). -/
  | uartRxByte (u : Nat) (b : Nat) (frameErr : Bool) (parityErr : Bool) (brk : Bool)
  /-- USB_BUS_RESET. A USB bus reset; `ctl` is the bRequest of a control transfer that has not reached its status stage, `hs` whether the high-speed handshake succeeds (R525). -/
  | usbBusReset (ctl : Option Nat) (hs : Bool)
  /-- USB_OUT_PACKET. A bulk OUT packet (R524). -/
  | usbOutPacket (data : Bytes)
  /-- USB_IN_PACKET. A bulk IN token (R524). -/
  | usbInPacket
  /-- USB_SUSPEND. 3 ms of bus idle (R524). -/
  | usbSuspend
  /-- USB_RESUME. Bus activity (R524). -/
  | usbResume
  /-- DFU_DNLOAD. A DFU_DNLOAD block (R523). -/
  | dfuDnload (blk : Nat) (data : Bytes)
  /-- DFU_MANIFEST. DFU manifestation (R523). -/
  | dfuManifest
  /-- DFU_DETACH. DFU_DETACH (R523). -/
  | dfuDetach
  /-- SD_INFO. Packet SD_INFO runs (R526). -/
  | sdInfo (id : Nat)
  /-- SD_READ. Packet SD_READ runs: the card's data, and what ended it: 0 nothing, 1 a card error, 2 a removal (R526). -/
  | sdRead (id : Nat) (data : Bytes) (stop : Nat)
  /-- SD_WRITE. Packet SD_WRITE runs: the card takes `good` blocks, and what stops it before the rest: 0 nothing, 1 a card error, 2 a removal, 3 a removal between the next block's data phase and its busy end (R527). -/
  | sdWrite (id : Nat) (good : Nat) (stop : Nat)
  /-- EV_SD_CARD. A card is inserted or removed (R527). -/
  | evSdCard (present : Bool) (mode : Nat)
  /-- GPIO_SET. A write to LSP_GPIO_SETb (R528). -/
  | gpioSet (b : Nat) (v : Nat)
  /-- GPIO_CLR. A write to LSP_GPIO_CLRb (R528). -/
  | gpioClr (b : Nat) (v : Nat)
  /-- HEALTH_ERROR. A detected error of source `kind`, `inst`; for XW_PAR, `cls` (1 RCT, 2 RCU, 3 DVT) and `tile` name the stripe whose data crossed the port (R533, R537). -/
  | healthError (kind : Nat) (inst : Nat) (cls : Nat) (tile : Nat)
  /-- REPLAY_COMPLETE. A stripe replay finishes (R539). -/
  | replayComplete (cls : Nat) (tile : Nat) (good : Bool)
  /-- GUST_LEAK_TICK. A leak timer ticks (R532). -/
  | gustLeakTick (kind : Nat)
  /-- TEST_FAILED_PAIR. HLT_CMD op 1 (R544). -/
  | testFailedPair (v : Nat) (pass : Bool)
  /-- CLEAR_RETIRED_MARK. HLT_CMD op 2 (R542). -/
  | clearRetiredMark (v : Nat)
  /-- BARO_PLAN_COMMAND. A write of `v`, with go = 1, to BARO_CTRL (R546). -/
  | baroPlanCommand (v : Nat)
  /-- BARO_PERIODIC_PLAN. 24 h of powered time (R546). -/
  | baroPeriodicPlan
  /-- EV_BARO_PLAN. A plan completes with its measurements (R549). -/
  | evBaroPlan (m : BaroMeas)
  /-- RAIL_OFFSET_STEP. The offset of rail `r` rises one step of 5 mV; `ok`: its regulator took VOUT_COMMAND (R547). -/
  | railOffsetStep (r : Nat) (ok : Bool)
  /-- TRAIL_SPACE_FREED. A Trail destination frees space (R556). -/
  | trailSpaceFreed (dest : Nat)
  /-- TRACE_SAMPLING_RELAX. 10 ms below a quarter (R555). -/
  | traceSamplingRelax (dest : Nat)
  /-- BB_SEAL. A write of 1 to TRL_BB_CTRL.seal (R560). -/
  | bbSeal
  /-- POWER_ON_RESET. PORST_N goes low and is released with these straps (R573). -/
  | powerOnReset (straps : Nat) (railsOk : Bool) (serial : Nat)
  /-- DAWN_STEP. Dawn completes its step (R576). -/
  | dawnStep (r : DawnInput)
  /-- WATCHDOG_RESET. 3 s without ready (R107). -/
  | watchdogReset
  /-- DEVICE_RESET. A write of `v` to CPR_RESET (R574). -/
  | deviceReset (v : Nat)
  /-- VWARN_CROSSING. VSENSE falls below VWARN (R581). -/
  | vwarnCrossing (mv : Nat)
  /-- VCRIT_CROSSING. VSENSE falls below VCRIT (R582). -/
  | vcritCrossing (mv : Nat)
  /-- DUSK_HOLD_END. VSENSE has stayed above VWARN plus hysteresis for 10 ms (R579). -/
  | duskHoldEnd (mv : Nat)
  /-- EV_CPR_DUSK_END. VSENSE returns above VWARN plus hysteresis (R583). -/
  | evCprDuskEnd (mv : Nat)
  /-- DOMAIN_SWITCH. A write of `v`, with go = 1, to CPR_PD_CTRL (R570). -/
  | domainSwitch (v : Nat)
  /-- EV_CPR_PD. The domain switch completes (R569). -/
  | evCprPd
  /-- STANDBY_ENTER. A write of 1 to CPR_STANDBY.enter (R584). -/
  | standbyEnter (v : Nat)
  /-- STANDBY_ENTERED. Standby entry completes (R584). -/
  | standbyEntered
  /-- STANDBY_EXIT. A write of 1 to CPR_STANDBY.exit (R585). -/
  | standbyExit (v : Nat)
  /-- STANDBY_EXITED. Standby exit completes (R585). -/
  | standbyExited
  /-- THERMAL_TRIP. A die reading of 115 °C or more (R593). -/
  | thermalTrip (temp : Int)
  /-- PIPELINE_IDLE. No frame start for twice the nominal period (R126). -/
  | pipelineIdle (p : Nat)
  /-- LANDING_WRITE_DEADLINE. 6 ms after VWARN: the members still owing a row write (R284). -/
  | landingWriteDeadline (owing : List Nat)
  /-- PCIE_LINK_STATE_CHANGE. A root port or the offload link comes up or goes down (R328). -/
  | pcieLinkStateChange (ofl : Bool) (r : Nat) (up : Bool) (gen : Nat) (width : Nat)
  /-- DSI_READ_RESPONSE. A panel response arrives (R379). -/
  | dsiReadResponse (d : Nat) (data : Bytes) (report : Nat)
  /-- EXCHANGE_PARITY_RESYNC_END. The exchange parity recomputation finishes (R428). -/
  | exchangeParityResyncEnd
  /-- OFFLOAD_MEMBER_IO_DONE. Member access `io` of the offload port completes (R429). -/
  | offloadMemberIoDone (io : Nat)
  /-- SCHEDULED_PULSE_END. A scheduled pulse ends (R467). -/
  | scheduledPulseEnd (k : Nat)
  /-- SPI_TRANSFER_END. An SPI transfer has shifted its bytes (R519). -/
  | spiTransferEnd (c : Nat) (data : Bytes)
  /-- UART_TX_BYTE. A UART byte has been sent (R521). -/
  | uartTxByte (u : Nat)
  /-- USB_CONTROL_REQUEST. A USB control request completes its status stage (R523). -/
  | usbControlRequest (rq : UsbReq)
  /-- USB_VBUS_CHANGE. VBUS appears or disappears (R595). -/
  | usbVbusChange (present : Bool)
  deriving DecidableEq, Repr

end Sys2Proof
end

