-- ==== Sys2Proof/Config.lean ====
section
/-! DEFINITION. What the spec leaves open: free values, and the standards it names without restating them. Every constant
here has no body, so no proof can see a value of it; each is named in the assumption log. -/

namespace Sys2Proof.Config

/-- A free value of the spec: the `n`-th one the machine needs (log 2). -/
opaque freeValue : Nat → Nat

/-- A free byte of the spec (content called undefined, R2; log 2). -/
opaque freeByte : Nat → Byte

/-- A free byte of HBM whose content is undefined: which free values, and the plan address (R2, log 2). -/
opaque undefByte : (seed addr : Nat) → Byte

/-- SHA-384 (R101), as FIPS 180-4 defines it: outside the spec's text (log 4). -/
opaque sha384 : Bytes → Vector Byte 48

/-- Whether an ECDSA P-384 signature (r, s) by an uncompressed public key verifies over a message (R100; log 4). -/
opaque ecdsaVerify : (key msg r s : Bytes) → Bool

/-- The content of the compressed block that the match finder makes of block `i` of a frame's input, at level + 16 × w (R292, log 4). -/
opaque zstdBlock : (params : Nat) → (input : Bytes) → (i : Nat) → Bytes

/-- The output of a compressed block, after the frame's earlier blocks and their output; `none` where it is malformed (R293, log 4). -/
opaque zstdInflate : (seen out block : Bytes) → Option Bytes

/-- Content_Checksum of a frame's content (R292, R293, log 4). -/
opaque contentChecksum : Bytes → Nat

/-- Which of the results that lie within 2 units in the last place a pow, exp, ln or log2 gives: function code and the bit
patterns of its operands; used modulo 5 (log 16). -/
opaque ulpChoice : (fn x y : Nat) → Nat

/-- What converting a NaN or an infinity to an integer gives where the spec states no result (log 16). -/
opaque nanInt : Int

/-- MAC address of Ethernet port `p`: the device's own, which the spec gives no value (log 4). -/
opaque portMac : (port : Nat) → Nat

/-- HMAC-SHA-256 (R472), as RFC 2104 and FIPS 180-4 define it (log 4). -/
opaque hmacSha256 : (key msg : Bytes) → Vector Byte 32

/-- SHA-384 of Mbamet's own signing key, fused in slot 0 from manufacture (R101, log 4). -/
opaque mbametKey : Vector Byte 48

/-- The version of an offload module as OFL_FWREV shows it, and its 8 ASCII characters in Identify Controller (R415, R434):
the package's contents are not described (log 4). -/
opaque moduleRev : Bytes → Nat
opaque moduleFr : Bytes → Vector Byte 8

/-- Whether a sample scaled by gain / Nr is rounded up, which the spec does not state (R498, log 37). -/
opaque rampUp : (sample : Int) → (gain nr : Nat) → Bool

end Sys2Proof.Config
end

