-- ==== Sys2Proof/Machine/RegDefs.lean ====
section
/-! DEFINITION. What a register table of the spec says, as data: a register (offset, instances, reset word), a field
(bit range, type, permitted values) and a table row. The tables themselves are in Machine/Regs*.lean. -/

namespace Sys2Proof.Machine

/-- The field types of the register tables (R32; `cntSat` is a CNT field whose Meaning column says it saturates, R35). -/
inductive Kind where
  | rw | rws | ro | st | w1c | w1s | cnt | cntSat | go
  deriving DecidableEq, Repr

/-- Which values of a field are not reserved encodings (R9). Binary32 rules judge the bit pattern. -/
inductive Allowed where
  /-- every value is permitted -/
  | any
  | le (n : Nat)
  | ge (n : Nat)
  | range (lo hi : Nat)
  | oneOf (l : List Nat)
  | mult (n : Nat)
  /-- a two's-complement value of the field's width whose magnitude is at most `n` -/
  | signedAbs (n : Nat)
  /-- a finite binary32 -/
  | finite
  /-- a finite binary32 above 0 -/
  | posFinite
  /-- a finite binary32 of at least 0 (R201) -/
  | nonnegFinite
  /-- a binary32 v with 0 ≤ v < 1 (R313) -/
  | belowOne
  /-- a finite binary32 above 1 (R313) -/
  | aboveOne
  /-- OUTF_Bb_CTRL.fmt: judged against the branch's BRANCH record (R321) -/
  | branchFmt
  /-- CAP_Pp_DEPTH.depth: judged against the pipeline's ingest copy (R233) -/
  | capDepth
  /-- SFE_Sn_GEOM.height: judged against the stream's STREAM record -/
  | geomHeight
  /-- SFE_Sn_GEOM.width: judged against the stream's STREAM record -/
  | geomWidth
  deriving DecidableEq, Repr

/-- A register: BAR0 offset of instance 0 (R6), its instance dimensions as (count, stride), its reset word (R7), the
reset words of instances that differ (by the last instance index) and whether its fields are held once per pipeline
(the RWS registers of the tiles, R191). -/
structure Reg where
  off : Nat
  dims : List (Nat × Nat)
  rst : Nat
  exc : List (Nat × Nat)
  perPipe : Bool
  deriving DecidableEq, Repr

/-- A field of a register. -/
structure Fld where
  reg : Reg
  hi : Nat
  lo : Nat
  kind : Kind
  allowed : Allowed
  deriving DecidableEq, Repr

/-- A register with its fields. -/
structure RegRow where
  reg : Reg
  flds : List Fld
  deriving DecidableEq, Repr

end Sys2Proof.Machine
end

