-- ==== Sys2Proof/Machine/State.lean ====
section
/-! DEFINITION. Everything the spec gives the 9X to hold: the register file, the memories, what each unit keeps beside its
registers, the record of what has left the block, and the queue of waiting commands. Plain data throughout. -/

namespace Sys2Proof.Machine

/-- Registers that hold something other than their reset word: (key, word), keys strictly rising. -/
abbrev RegFile := List (Nat × Word)

/-- A memory: (address, byte), addresses strictly rising, no entry equal to 0 (what an unlisted address reads as). -/
abbrev Mem := List Host.Cell

/-- An event record (R58). `dst` is the queue of a completion record, which its packet names (R61). -/
structure Rec where
  typ : Nat
  src : Nat
  inst : Nat
  epoch : Nat
  fid : Nat
  time : Nat
  payload : Nat
  dst : Nat
  deriving DecidableEq, Repr

/-- Something the 9X has sent out of the block, in order (the model's own record of its outputs; log 5). -/
inductive Out where
  /-- the value a host read returned -/
  | read (rq off v : Nat)
  /-- bytes a BAR2 read returned; `poison` is the EP bit of the completion (R57) -/
  | bytes (b : Bytes) (poison : Bool)
  /-- a read answered with Unsupported Request (R74) -/
  | unsupported
  /-- an MSI-X message: address, data -/
  | msix (vector addr data : Nat)
  /-- a frame on an Ethernet port -/
  | eth (port : Nat) (frame : Bytes)
  /-- a level of a trigger/GPIO line, genlock or LTC output -/
  | line (n : Nat) (level : Bool) (time : Nat)
  /-- a write to a PCIe address behind media root port `r` -/
  | peer (r addr : Nat) (b : Bytes)
  /-- an MSI-X message on the offload link -/
  | oflMsix (vector addr data : Nat)
  /-- an HBM read returned to a client; `poison` marks a poisoned response (R403) -/
  | hbm (client addr : Nat) (b : Bytes) (poison : Bool)
  /-- a sample frame played by audio port `n`; from 16 on, samples embedded in audio group g of SDI output o, n = 16 + 8o + g -/
  | audio (n : Nat) (b : Bytes)
  /-- bytes on a low-speed port: 0 SMBus, 1 I2C, 2 SPI, 3 UART, 4 USB, 5 SD, 6 PMBus; 7 LTC out: timecode, user bits and drop-frame flag -/
  | port (cls i : Nat) (b : Bytes)
  /-- a packet or frame on a DSI port -/
  | dsi (d : Nat) (b : Bytes)
  /-- the picture of a display frame on an SDI output: link standard, ST 352 colorimetry and transfer, audio groups, and its
  10-bit samples as YC422P10 lines -/
  | sdi (o link mtx xfer audio : Nat) (b : Bytes)
  deriving DecidableEq, Repr

/-- An entry of a coalescing table (R553): the last full record, its count, and whether it is the fixed entry of its source. -/
structure Held where
  last : Rec
  count : Nat
  fixed : Bool
  deriving DecidableEq, Repr

/-- A Trail destination (R551, R552): EVQs 0 to 15, 16 the HBM ring, 17 syslog, 18 the black box. -/
structure Dest where
  /-- alarms held in the coalescing table, oldest entry first (R553) -/
  held : List Held
  /-- dropped events not yet counted in a LOSS record, with the times of the first and last drop (R554) -/
  lost : Nat
  firstDrop : Nat
  lastDrop : Nat
  /-- held completion records, oldest first (R64) -/
  compl : List Rec
  /-- records staged and not yet drained (ring, syslog and black box; an EVQ stages none in this model, log 6) -/
  staged : List Rec
  squall : Bool
  /-- log2 of the trace sampling factor N (R555) -/
  log2N : Nat
  /-- traces seen since the last one sampled -/
  traceCnt : Nat
  /-- EVQ: records written and not signalled (R63) -/
  unsig : Nat
  /-- when the last staged record was drained, and since when the queue has stayed below a quarter, on the model's clock (R555, R558,
  R559) -/
  drained : Nat
  lowSince : Nat
  deriving DecidableEq, Repr

/-- The armed state of a watermark (R52), by the BAR0 offset of its WSTAT register: the ones waiting to re-arm. -/
abbrev Disarmed := List Nat

/-- A packet that firmware has started (R69) or is looking at. -/
structure Packet where
  id : Nat
  ring : Nat
  start : Nat
  len : Nat
  opcode : Nat
  route : Nat
  tag : Nat
  body : Bytes
  /-- the result once its work has ended: ST_ type and command-specific data (R70) -/
  result : Option (Nat × Nat)
  /-- its completion record is discarded (R74) -/
  discard : Bool
  deriving DecidableEq, Repr

/-- A command ring beside its registers. -/
structure Ring where
  /-- free-running byte count of the next packet to start; CMDQr_HEAD follows it as packets complete -/
  cursor : Nat
  /-- doorbells seen: tail value and order of arrival (R69) -/
  bells : List (Nat × Nat)
  /-- completed packets whose space lies above HEAD: (start, length) -/
  done : List (Nat × Nat)
  deriving DecidableEq, Repr

/-- A bulk session (R54): the setup taken when it was armed (log 9), and the row and column of the next byte. -/
structure Bulk where
  target : Nat
  mode : Nat
  rd : Bool
  addr : Nat
  width : Nat
  stride : Nat
  rows : Nat
  row : Nat
  col : Nat
  deriving DecidableEq, Repr

/-! ### The stream graph (R81, R82, R85, R92) -/

structure StreamRec where
  id : Nat
  source : Nat
  group : Nat
  stream : Nat
  width : Nat
  height : Nat
  container : Nat
  exposures : Nat
  mosaic : Nat
  period : Nat
  deriving DecidableEq, Repr

structure PipeRec where
  pipe : Nat
  prot : Bool
  deriving DecidableEq, Repr

/-- A TILE record: class 1 RCT, 2 RCU, 3 DVT. -/
structure TileRec where
  pipe : Nat
  cls : Nat
  mask : Nat
  deriving DecidableEq, Repr

structure BranchRec where
  pipe : Nat
  branch : Nat
  kind : Nat
  look : Nat
  width : Nat
  height : Nat
  consumer : Nat
  inst : Nat
  deriving DecidableEq, Repr

structure BufferRec where
  id : Nat
  part : Nat
  depth : Nat
  offset : Nat
  deriving DecidableEq, Repr

structure EdgeRec where
  src : Nat
  dst : Nat
  via : Nat
  buffer : Nat
  cls : Nat
  bw : Nat
  deriving DecidableEq, Repr

structure PartRec where
  id : Nat
  prot : Bool
  realtime : Bool
  zero : Bool
  owner : Nat
  base : Nat
  size : Nat
  deriving DecidableEq, Repr

structure PortRec where
  cls : Nat
  index : Nat
  enable : Bool
  first : Nat
  count : Nat
  param : Nat
  deriving DecidableEq, Repr

/-- The structure that a Dravya image or patch sets up. -/
structure Graph where
  streams : List StreamRec
  pipes : List PipeRec
  tiles : List TileRec
  branches : List BranchRec
  buffers : List BufferRec
  edges : List EdgeRec
  parts : List PartRec
  ports : List PortRec
  deriving DecidableEq, Repr

/-- A physical extent that a patch gives a partition (R389): partition, first byte, bytes (0 where the patch deletes it),
protected. -/
structure PartMap where
  id : Nat
  pbase : Nat
  size : Nat
  prot : Bool
  deriving DecidableEq, Repr

/-- A LUTS blob as a patch or an image applies it (R97 to R99): block index or 0xFFFF, pipeline, offset, bytes. -/
structure BlobData where
  target : Nat
  pipe : Nat
  off : Nat
  b : Bytes
  deriving DecidableEq, Repr

/-- A staged patch (R113): its pipeline, its records, its PRESET writes (offset, mask, value), its LUT blobs, the plan ranges that
read 0 or are undefined once it takes effect (R88) and the extents of its partitions. -/
structure Patch where
  pipe : Nat
  graph : Graph
  presets : List (Nat × Nat × Nat)
  blobs : List BlobData
  maps : List PartMap
  /-- plan ranges that become new: base, size, zero at load (R88) -/
  fresh : List (Nat × Nat × Bool)
  /-- extents of the old structure that the patch gives up, held until its epoch settles (R144) -/
  old : List PartMap
  /-- a new partition takes space that this patch frees, so the drain drops frames (R145) -/
  drops : Bool
  deriving DecidableEq, Repr

/-! ### Epochs -/

/-- An epoch record (R142): the RWS values in effect and the structure. -/
structure EpochRec where
  num : Nat
  regs : RegFile
  graph : Graph
  /-- of a sky commit: sky epoch, T and frames late (R484) -/
  sky : Option (Nat × Nat × Nat)
  deriving DecidableEq, Repr

/-- The pending front (R119, R121). -/
structure Front where
  num : Nat
  regs : RegFile
  graph : Graph
  patches : List Patch
  cond : Nat
  refPipe : Nat
  frame : Nat
  time : Nat
  /-- when the write arrived, in ns of `clk` -/
  arrival : Nat
  /-- this front was prepared by the sky agent (R122) -/
  sky : Bool
  /-- the sky agent holds the COMMIT (R483) -/
  go : Bool
  /-- the target boundary has passed -/
  targetSeen : Bool
  /-- boundaries of ref_pipe passed after the target -/
  passed : Nat
  /-- why the commit is late (R130), 0 while it is not -/
  late : Nat
  deriving DecidableEq, Repr

/-- An entry of the static defect map (R210). -/
structure Defect where
  x : Nat
  y : Nat
  kind : Nat
  mask : Nat
  len : Nat
  deriving DecidableEq, Repr

/-- The part of a pipeline's defect map that an RCT tile has loaded into its store, and for which epoch (R212). -/
structure DefStore where
  tile : Nat
  pipe : Nat
  epoch : Nat
  entries : List Defect
  deriving DecidableEq, Repr

/-- A pipeline's place in the epochs. -/
structure PipeSt where
  /-- epoch of the last front taken -/
  epoch : Nat
  /-- fronts issued and not yet taken, oldest first -/
  due : List Nat
  /-- no frame start for twice the nominal period (R126) -/
  idle : Bool
  /-- device times of the last 65,536 boundaries, newest first: what a commit's time condition looks back at (R127, R130) -/
  bounds : List Nat
  /-- draining for a patch (R144): frames wait, and frames dropped so far (R145) -/
  draining : Bool
  dropped : Nat
  /-- the drain drops frames (R145) -/
  drops : Bool
  /-- epochs of the patches whose drain has not ended, oldest first -/
  drainOf : List Nat
  /-- FRAME_ID of the previous frame of the pipeline that reached CAP, and n of its cycle (R228) -/
  prevFid : Option Nat
  prevN : Nat
  /-- FRAME_ID of the last frame opened for the pipeline and not dropped (R129) -/
  lastFid : Option Nat
  /-- SFE_Pp_FIDCTRL.seq in effect for the last frame opened (R172) -/
  lastSeq : Nat
  /-- OB levels R and K of the previous frame, and its epoch (R205) -/
  obPrev : Option (Nat × List Nat × List Nat)
  /-- TNR reference that the previous frame in DVT wrote: plane and seq (R306) -/
  tnr : Option (Nat × Nat)
  /-- a sky epoch taken whose first frame has not reached REC (R484) -/
  skyMark : Option Nat
  deriving DecidableEq, Repr

/-- An exposure sample of a line is `W` words; a frame in flight, from its boundary until it has left every unit. -/
structure Frame where
  pipe : Nat
  stream : Nat
  fid : Nat
  epoch : Nat
  time : Nat
  fsw : Nat
  /-- slot of the ingest copy -/
  slot : Nat
  width : Nat
  height : Nat
  /-- embedded data -/
  embed : Bytes
  /-- units it still has to leave -/
  units : List FlowUnit
  /-- units its first sample has reached -/
  entered : List FlowUnit
  /-- corrected words of R196 as the RCT tiles have emitted them, keyed by row × 65,536 + column -/
  words : List (Nat × Nat)
  /-- counts that STS sums, per tile (R225) -/
  stats : List (Nat × List Nat)
  /-- exposures whose OB rows were not all released before their first active line (R205) -/
  obStale : List Nat
  /-- embedded data of the stream's most recent closed frame when this one opened (R206) -/
  tempEmbed : Option Bytes
  /-- coded tiles of RCU by ty × 65,536 + tx (R242), and the largest certificate -/
  coded : List (Nat × Bytes)
  cert : Nat
  /-- the frame summary record that STS wrote for it (R288) -/
  summary : Option Bytes
  /-- the noise model that CAP attaches, g then σr per exposure, and kact (R231) -/
  model : Option (List Nat × Nat)
  /-- it waits for a patch drain (R144) -/
  waiting : Bool
  /-- tiles that still owe their stripe, per class: (class, tile) -/
  owes : List (Nat × Nat)
  /-- developed pixels: look, row × 65,536 + column, and R, G, B as binary32 words packed from bit 0 (R310) -/
  looks : List (Nat × Nat × Nat)
  /-- TNR reference plane read and written (R306) -/
  tnrRead : Option Nat
  tnrWrite : Option Nat
  /-- the epoch the frame entered with, for a re-issued frame (R137) -/
  origEpoch : Nat
  /-- per-frame results waiting for the frame to leave its unit (R150): unit, register key, word -/
  results : List (FlowUnit × Nat × Word)
  /-- lines lost from the ingest copy that the live feed still carries, by key (exposure, line): R185 -/
  spill : List (Nat × List Nat)
  deriving DecidableEq, Repr

/-- A snapshot (R147, R148): the registers at capture, the RWS values of the epoch captured, the domains that were on, and
the structure that says which pipeline's set a tile block shows. -/
structure MirrorSt where
  regs : RegFile
  rws : RegFile
  on : Nat
  graph : Graph
  deriving DecidableEq, Repr

/-- A spare that processes a faulty tile's stripes (R143): class 1 RCT, 2 RCU, 3 DVT. -/
structure Subst where
  pipe : Nat
  cls : Nat
  faulty : Nat
  spare : Nat
  /-- the epoch at whose front it became the tile assignment; frames of older epochs keep to it -/
  since : Option Nat
  deriving DecidableEq, Repr

/-! ### Sensor ingest -/

/-- A Sensor Link lane beside SFE_Ll_STAT: descrambler, lock counters, ALIGN tracking and its deskew buffer (R153 to R159). -/
structure Lane where
  scr : Nat
  valids : Nat
  /-- whether each of the last 64 blocks was a block error, newest first -/
  hist : List Bool
  /-- logical number and coded lane count of the last ALIGN block -/
  logical : Option Nat
  countCode : Nat
  /-- blocks since the last ALIGN block, or since its expected place -/
  since : Nat
  misses : Nat
  bip : Nat
  /-- descrambled blocks since the ALIGN block, oldest first: data flag and payload -/
  buf : List (Bool × Nat)
  deriving DecidableEq, Repr

/-- A lane group: the logical lane whose block comes next, the packet being assembled, and packets assembled whole. -/
structure GroupSt where
  next : Nat
  /-- 64-bit words of the open packet, oldest first -/
  pkt : Option (List Nat)
  ready : List Bytes
  deriving DecidableEq, Repr

/-- Where samples of an open frame come from: the whole stream, or one die of a mosaic (R177, R178). -/
structure Src where
  /-- placement entry, and the die's stream within the group -/
  entry : Nat
  die : Nat
  w : Nat
  h : Nat
  x0 : Nat
  y0 : Nat
  flipH : Bool
  flipV : Bool
  /-- 0 not opened, 1 open, 2 closed, 3 excluded (R179) -/
  st : Nat
  /-- the die's own counter (R179) -/
  cnt : Nat
  /-- received samples by key (area 0 active or 1 OB row, exposure, line, column) -/
  got : List (Nat × Nat)
  /-- released lines by key (area, exposure, line), newest first (R175) -/
  rel : List (Nat × List Nat)
  /-- per area × 4 + exposure: next line to release, and one above the highest line received -/
  next : List (Nat × Nat)
  top : List (Nat × Nat)
  deriving DecidableEq, Repr

/-- A frame that a stream has open (R168). -/
structure OpenFrame where
  fid : Nat
  epoch : Nat
  pipe : Option Nat
  counter : Nat
  /-- the CSI-2 frame number is 0: no counter checks (R183) -/
  free : Bool
  fsw : Nat
  dt : Nat
  clk : Nat
  width : Nat
  height : Nat
  obRows : Nat
  obCols : Nat
  slot : Option Nat
  trig : Option (Nat × Nat)
  embed : Bytes
  padded : Nat
  /-- lines lost from the copy and not padded (R185) -/
  lost : Nat
  obStale : List Nat
  tempEmbed : Option Bytes
  /-- raw long packets seen (R183) -/
  raws : Nat
  srcs : List Src
  deriving DecidableEq, Repr

/-- A stream node of the loaded graph. -/
structure StreamSt where
  opened : Option OpenFrame
  lastClosed : Option Nat
  fid : Nat
  lastCounter : Nat
  seen : Bool
  slot : Nat
  /-- excluded dies with the counter they were excluded at (R179) -/
  excl : List (Nat × Nat)
  /-- embedded data of the last closed frame (R206) -/
  lastEmbed : Option Bytes
  deriving DecidableEq, Repr

/-- An edge generator: a shutter generator or a pulse scheduler (R187, R466). -/
structure Gen where
  /-- mode, base, period in 1/65,536 ns, start, width, line, polarity: the settings in effect -/
  cfg : List Nat
  /-- number of the next edge -/
  next : Option Nat
  /-- the pulse that it drives: the clock at which it ends, its line and whether it is active low (R188) -/
  on : Option (Nat × Nat × Bool)
  /-- unmatched edges: time and width (R189) -/
  kept : List (Nat × Nat)
  deriving DecidableEq, Repr

/-! ### Capture -/

/-- A ring segment (R236): its frames in slot order as (slot, FRAME_ID, boundary time), and what it waits for. -/
structure Seg where
  frames : List (Nat × Nat × Nat)
  /-- frame of the latest trigger, and whether it has closed -/
  trigFid : Nat
  trigClosed : Bool
  /-- post frames still to come -/
  post : Nat
  /-- frames re-issued so far -/
  done : Nat
  deriving DecidableEq, Repr

/-- The synthetic shutter's cycle under way (R229, R230). -/
structure Synth where
  cyc : Nat
  kact : Nat
  fid : Nat
  epoch : Nat
  time : Nat
  fsw : Nat
  stream : Nat
  width : Nat
  height : Nat
  /-- slot of the first contribution -/
  slot : Nat
  /-- per pixel key: the largest variance so far; values, tags and sat bits lie in the planes (R232) -/
  vmax : List (Nat × Nat)
  deriving DecidableEq, Repr

structure CapSt where
  /-- frames in unsealed slots, oldest first: slot, FRAME_ID, boundary time, closed -/
  ring : List (Nat × Nat × Nat × Bool)
  /-- boundary time of the newest frame that has left the unsealed ring -/
  gone : Option Nat
  /-- slots of the ingest buffer (R233) -/
  depth : Nat
  segs : List Seg
  /-- triggers waiting for their trigger frame: t, and t + TADJ -/
  trigs : List (Nat × Int)
  /-- boundary times of the trigger frames decided (R237: coinciding triggers count as one) -/
  trigSeen : List Nat
  /-- the TTIME value that has triggered -/
  ttimeDone : Option Nat
  /-- sealed segments in the order they were sealed, and whether each is queued for re-issue -/
  order : List (Nat × Bool)
  /-- epoch of the frame that each slot holds (R135) -/
  tags : List (Nat × Nat)
  synth : Option Synth
  deriving DecidableEq, Repr

/-! ### Branches -/

/-- A branch frame, or batch, that OUTF has written and not yet published (R324, R325): slot, frame count k, FRAME_ID of its
first and last frame, epoch, boundary time, frames in the slot, and WRITTEN after it (R327). -/
structure BranchFrame where
  slot : Nat
  k : Nat
  fid : Nat
  last : Nat
  epoch : Nat
  time : Nat
  frames : Nat
  written : Nat
  /-- plan address of the slot -/
  base : Nat
  /-- the clock at which its last line was written -/
  at_ : Nat
  deriving DecidableEq, Repr

/-- A published slot (R325, R381): what it holds, and the layers that have latched it. -/
structure PubFrame where
  slot : Nat
  k : Nat
  fid : Nat
  epoch : Nat
  time : Nat
  /-- plan address of the slot -/
  base : Nat
  latched : List Nat
  deriving DecidableEq, Repr

/-- The batch that a branch is writing (R326): its slot, frames so far, FRAME_ID of the first; `skip` when the batch is being
skipped (R328). -/
structure Batch where
  slot : Nat
  frames : Nat
  fid : Nat
  skip : Bool
  deriving DecidableEq, Repr

/-- An OUTF engine (R317 to R328). -/
structure OutfSt where
  /-- crop x, y, w, h and destination x, y, w, h in effect (R318) -/
  geom : List Nat
  geomEpoch : Option Nat
  /-- frames written -/
  k : Nat
  /-- slot after the last one taken -/
  next : Nat
  batch : Option Batch
  pend : List BranchFrame
  /-- what the slots hold, oldest published first -/
  pub : List PubFrame
  deriving DecidableEq, Repr

/-! ### Video coder -/

/-- A picture that an encode core codes next: its frame, its type as byte 36 of the access-unit record, its PicOrderCntVal. -/
structure EncPic where
  frame : PubFrame
  typ : Nat
  poc : Nat
  deriving DecidableEq, Repr

/-- An encode core (R330 to R352). -/
structure EncSt where
  /-- the epoch of the last configuration check, and whether it passed -/
  epoch : Option Nat
  ok : Bool
  /-- number k + 1 of the newest branch frame taken -/
  taken : Nat
  /-- held frames in seq order, not yet in a mini-GOP -/
  queue : List PubFrame
  /-- pictures of the current mini-GOP in decode order -/
  order : List EncPic
  /-- the next picture is forced, and follows a drop (R348) -/
  force : Bool
  dropped : Bool
  /-- a picture has been coded since the core started -/
  coded : Bool
  count : Nat
  /-- pictures in display order since the last IDR, and place in the refresh cycle -/
  sinceIdr : Nat
  cyc : Nat
  /-- a frame has been released because the core was disabled, and the numbers k of the frames with which it starts again -/
  off : Bool
  starts : List Nat
  /-- CPB fullness in units of 10^-6 bit after the last removal; the boundary time of the picture that carries the buffering period, and
  the clock ticks from there to the last removal (R338, R344) -/
  full : Int
  bpTime : Option Nat
  ticks : Int
  /-- QP and bits of the last picture of types I, P and B -/
  last : List (Option (Nat × Nat))
  /-- the access-unit ring in effect -/
  base : Nat
  size : Nat
  /-- the RTP sender: read count, next sequence number, discarding (R351, R352) -/
  rtpRd : Nat
  rtpSeq : Nat
  rtpSkip : Bool
  /-- takes for which REC has attached, and those whose proxy chunks have begun (R349) -/
  takes : List Nat
  proxies : List Nat
  deriving DecidableEq, Repr

/-- A picture that the decode core holds: the name it was started under, its presentation time, whether it was decoded while outputs were
flagged damaged (R357), and the output settings under which its decoding started (R331): slot 0, slots, slot stride in bytes, and
host_out. -/
structure DecHeld where
  id : Nat
  pts : Nat
  damaged : Bool
  base : Nat
  slots : Nat
  stride : Nat
  hostOut : Bool
  deriving DecidableEq, Repr

/-- An output picture: its number, slot, presentation time, and the slot's address. -/
structure DecOut where
  k : Nat
  slot : Nat
  pts : Nat
  base : Nat
  deriving DecidableEq, Repr

/-- The decode core (R353 to R357). -/
structure DecSt where
  /-- pictures started and not yet output -/
  held : List DecHeld
  /-- the next chunk is discontinuous -/
  disc : Bool
  /-- output pictures that DISP has not released (R368) -/
  out : List DecOut
  deriving DecidableEq, Repr

/-! ### Monitoring outputs -/

/-- A layer (R362 to R372). -/
structure LayerSt where
  /-- the source it was latched from: kind, index -/
  kind : Nat
  index : Nat
  /-- the slot that it holds and shows: for kind 2 the slot of the picture, k in `k` -/
  shown : Option PubFrame
  /-- blanked from this line on (R372) -/
  blank : Option Nat
  /-- it underran in the previous display frame -/
  under : Bool
  /-- its last latch changed what it shows -/
  changed : Bool
  deriving DecidableEq, Repr

/-- A DSI port (R376 to R380). -/
structure DsiSt where
  /-- the buffer written next -/
  next : Nat
  /-- newest completed buffer that has not been sent, and the buffer being transferred -/
  done : Option Nat
  xfer : Option Nat
  /-- consecutive unchanged frames -/
  still : Nat
  /-- a command that waits for the transfer to end, and one that waits for its response -/
  wait : Bool
  turn : Bool
  /-- a transfer waits for the command to end; no tearing-effect edge has come for 100 ms -/
  due : Bool
  lost : Bool
  deriving DecidableEq, Repr

/-- An SDI input (R381). -/
structure SdiSt where
  k : Nat
  next : Nat
  pub : List PubFrame
  deriving DecidableEq, Repr

structure DispSt where
  /-- the DISP epoch in effect -/
  epoch : Nat
  /-- DISP epochs that wait for a blanking: epoch, device time of the epoch instant, µs to the blanking it missed -/
  due : List (Nat × Nat × Option Nat)
  /-- a display frame is being scanned out -/
  running : Bool
  /-- a DISP epoch took effect at the last blanking -/
  fresh : Bool
  /-- the grid number of the last frame start while the raster is locked to TB3 (R360) -/
  grid : Option Nat
  layers : List LayerSt
  dsi : List DsiSt
  sdi : List SdiSt
  deriving DecidableEq, Repr

/-! ### Recorder and compression -/

/-- A candidate namespace of MEDIA_SCAN (R260, R261): its root port, what Identify gives, its blocks. -/
structure Cand where
  port : Nat
  nsid : Nat
  identity : Bytes
  blocks : Nat
  eligible : Bool
  deriving DecidableEq, Repr

/-- A take table entry (R269). -/
structure Take where
  num : Nat
  state : Nat
  flags : Nat
  pipe : Nat
  streams : Nat
  firstFid : Nat
  lastFid : Nat
  firstTime : Nat
  lastTime : Nat
  firstTb3 : Nat
  frames : Nat
  firstExt : Nat
  extCount : Nat
  firstIdx : Nat
  idxCount : Nat
  bytes : Nat
  mode : Nat
  q : Nat
  epoch : Nat
  label : Bytes
  deriving DecidableEq, Repr

/-- An extent table entry (R270); its index is its place in the table. -/
structure Extent where
  take : Nat
  seq : Nat
  row : Nat
  count : Nat
  next : Nat
  /-- leading rows of it that the last commit's cut held: the row count that the table shows (R276) -/
  done : Nat
  deriving DecidableEq, Repr

/-- A chunk on its way to media, or a lost range: the fields of its index entry (R272) and how many of its rows are still to
be written. -/
structure Chunk where
  kind : Nat
  pipe : Nat
  take : Nat
  fid : Nat
  lastFid : Nat
  cause : Nat
  vlba : Nat
  len : Nat
  fsw : Nat
  time : Nat
  epoch : Nat
  cert : Nat
  /-- rows of it still to be written -/
  rows : List Nat
  deriving DecidableEq, Repr

/-- A row being written: its volume row, what it is (0 take data, 1 journal, 2 table, 3 superblock), its take, its data. -/
structure MediaRow where
  row : Nat
  kind : Nat
  take : Nat
  data : Bytes
  /-- when it was issued -/
  at_ : Nat
  /-- members whose command has timed out -/
  late : List Nat
  deriving DecidableEq, Repr

/-- Audio of a port since the last commit (R287). -/
structure AudBuf where
  port : Nat
  time : Nat
  rate : Nat
  channels : Nat
  fades : Nat
  samples : Bytes
  deriving DecidableEq, Repr

/-- A take that records, or that has ended and still drains to media. -/
structure LiveTake where
  num : Nat
  pipe : Nat
  fromFid : Nat
  stopAt : Option Nat
  core : Nat
  audio : Nat
  /-- chunk bytes that no issued row holds yet; they start at the first of `rows` -/
  buf : Bytes
  /-- rows allocated to the take and not yet issued -/
  rows : List Nat
  chunks : List Chunk
  /-- the take has ended, with the cause of EV_REC_TAKE -/
  closed : Option Nat
  /-- metadata of frames since the last commit, with the first FRAME_ID (R288) -/
  metadata : Bytes
  metaFid : Nat
  audBuf : List AudBuf
  /-- FRAME_IDs of its raw chunks from the first that is not durable on, and which of them are (R277) -/
  raws : List (Nat × Bool)
  /-- REC_Pp_DURABLE of the take -/
  durable : Option Nat
  /-- FRAME_ID and boundary time of its last frame (R269) -/
  last : Option (Nat × Nat)
  deriving DecidableEq, Repr

/-- A metadata job of REC (R288, R291): its engine, its take, FRAME_ID, epoch and input. -/
structure RecJob where
  engine : Nat
  take : Nat
  fid : Nat
  epoch : Nat
  input : Bytes
  deriving DecidableEq, Repr

/-- A coded frame in the recorder buffer (R279): position, length, FRAME_ID, and whether a chunk still needs it. -/
structure BufFrame where
  start : Nat
  len : Nat
  fid : Nat
  deriving DecidableEq, Repr

/-- An open recording volume (R263 to R274). -/
structure Volume where
  m : Nat
  r : Nat
  uuid : Nat
  rows : Nat
  label : Bytes
  formatTime : Nat
  ids : List Nat
  failed : Nat
  /-- start VLBA and blocks, by region index (R266) -/
  regions : List (Nat × Nat)
  nextTake : Nat
  ckpt : Nat
  firstReplay : Nat
  /-- next journal sequence -/
  seq : Nat
  /-- media unit of each member: root port and namespace (R259) -/
  ports : List Nat
  rebuilding : Nat
  progress : Nat
  takes : List Take
  extents : List Extent
  index : List Chunk
  /-- data rows not yet allocated start here -/
  nextRow : Nat
  deriving DecidableEq, Repr

structure RecSt where
  cands : List Cand
  scanned : Bool
  vol : Option Volume
  landed : Bool
  dead : Bool
  /-- takes that record or still drain, in the order they started -/
  takes : List LiveTake
  /-- coded frames in each pipeline's buffer, and the write position (R279) -/
  bufs : List (List BufFrame × Nat)
  flight : List MediaRow
  /-- lost entries waiting for a commit -/
  losts : List Chunk
  /-- the commit: 0 none, 1 first fence, 2 journal row, 3 second fence (R276) -/
  phase : Nat
  /-- the checkpoint: 0 none, 1 table rows, 2 fence, 3 head superblock, 4 tail superblock, 5 fence (R278) -/
  cphase : Nat
  /-- the entries of the commit in progress -/
  jTakes : List Take
  jExts : List (Nat × Extent)
  jIdx : List Chunk
  /-- take entries as last journaled -/
  lastTakes : List Take
  /-- the MEMBERS record has changed -/
  dirtyMembers : Bool
  /-- entries changed since the last checkpoint: region and entry number -/
  dirtyEntries : List (Nat × Nat)
  wantCkpt : Bool
  /-- first sequence that the checkpoint in progress leaves to replay, and the packets that it serves (R278) -/
  ckptAt : Nat
  serving : List (Nat × Nat)
  /-- when the last media fence began -/
  fenceAt : Nat
  /-- packets that wait for a checkpoint: id, and 0 CHECKPOINT, 1 MEDIA_CLOSE, 2 MEDIA_CLOSE that waits for the offload port only,
  16 + n TAKE_STOP of take n -/
  waiters : List (Nat × Nat)
  /-- metadata jobs that wait for their engine, oldest first (R291) -/
  jobs : List RecJob
  /-- REBUILD: member -/
  rebuild : Option Nat
  dusk : Bool
  deriving DecidableEq, Repr

/-- A ZST job in progress (R295): descriptor address, host ring, op, flags, EVQ, tag, destination, result. -/
structure ZstJob where
  addr : Nat
  inHost : Bool
  op : Nat
  flags : Nat
  q : Nat
  tag : Nat
  dst : Nat
  out : Bytes
  code : Nat
  /-- the metadata job that it is, if REC's (R291) -/
  rec_ : Option RecJob
  deriving DecidableEq, Repr

/-- Memory-independent part of the units; one structure each. -/
structure TimeSt where
  /-- nanoseconds since reset on a clock of the model's own, to judge T_FS and time-outs (log 7) -/
  clk : Nat
  /-- the four bases in units of 2^-32 ns (R443) -/
  tb : List Nat
  /-- increments in effect -/
  inc : List Nat
  /-- DT offset in units of 2^-32 ns (R448) -/
  ofs : Int
  /-- remaining tracking time of each base in ns; 0 not tracking -/
  track : List Nat
  /-- transmit time-stamp queue of each Ethernet port, oldest first (R458): the TXQ_ID word, ns, fraction -/
  txq : List (List (Nat × Nat × Nat))
  /-- last genlock reference in TB3 ns, while within two frame periods (R461) -/
  glRef : Option Nat
  /-- end of the last decoded LTC frame in TB3 ns, and its timecode (R462) -/
  ltcRef : Option (Nat × Nat)
  /-- grid index of the next LTC out frame, and its timecode (R463) -/
  ltcNext : Option (Nat × Nat)
  /-- an armed jam: timecode, and the grid index it is for -/
  ltcJam : Option (Nat × Nat)
  deriving DecidableEq, Repr

/-! ### HBM -/

/-- The HBM controllers beside their registers (R383 to R409). -/
structure HbmSt where
  /-- frozen channels, and channels in resync, ascending -/
  down : List Nat
  sync : List Nat
  /-- frozen channels that train again before their resync (R407) -/
  retrain : List Nat
  /-- open rows: channel × 96 + pseudo-channel × 48 + bank, and the row (R398) -/
  rows : List (Nat × Nat)
  /-- plan address of the next scrub read -/
  scrub : Nat
  /-- clients that have panic raised (R392) -/
  panic : List Nat
  /-- main delays on their way: channel × 72 + lane, target (R408) -/
  delays : List (Nat × Nat)
  /-- a change of tREFI that takes effect at the next tick: hot, stack, °C (R396) -/
  hot : Option (Bool × Nat × Nat)
  /-- the refresh tick runs; it stops in self-refresh (R397) -/
  ticking : Bool
  deriving DecidableEq, Repr

/-! ### Health -/

/-- A gust counter (R531 to R533). -/
structure Gust where
  level : Nat
  errs : Nat
  lasting : Nat
  deriving DecidableEq, Repr

/-- A stripe replay (R537 to R541): the stripe's class and tile, and the tile that recomputes it. -/
structure Replay where
  pipe : Nat
  cls : Nat
  tile : Nat
  fid : Nat
  runner : Nat
  deriving DecidableEq, Repr

/-- A Crosswind port (R84, R536): the edge that it carries as (from, to), whether it is retired. -/
structure XwPort where
  edge : Option (Nat × Nat)
  retired : Bool
  deriving DecidableEq, Repr

structure HltSt where
  gusts : List (Nat × Gust)
  replays : List Replay
  /-- stripes that are undefined for their frame (R540) -/
  spoilt : List Replay
  xw : List XwPort
  /-- link generation limits: source instance of R531 and generation -/
  derated : List (Nat × Nat)
  /-- channels whose margin scan is due more often (R536) -/
  scans : List Nat
  /-- a failed pair is held in reset (R544) -/
  failedPair : Bool
  /-- by kind: when its leak timer ticked last, on the model's clock, and its period in ns as the last error of the kind found it, 0 before
  any (R532, R534) -/
  leaks : List (Nat × Nat)
  deriving DecidableEq, Repr

/-- Barometer (R545 to R549). -/
structure BaroSt where
  /-- cause of the plan that runs: 0 dawn, 1 periodic, 2 command -/
  plan : Option Nat
  /-- planned offset of each domain in 5 mV steps -/
  target : List Nat
  /-- when the last plan ended, on the model's clock (R546) -/
  planned : Nat
  deriving DecidableEq, Repr

/-- MRAM persistent settings and fuses: what survives every reset (R573). -/
structure NvSt where
  floor : Nat
  /-- failed-dawn count of slot A (R107) -/
  fails : Nat
  /-- retired tiles, as HLT_RETIRED shows them (R542) -/
  retired : Nat
  /-- powered seconds of the 9X -/
  secs : Nat
  logWr : Nat
  /-- the rail table: BARO_Dd.rail and LSP_PMB_RAILr, once stored (R518) -/
  rails : Option (List Nat × List Nat)
  /-- soft repairs by channel: PPR words (R409) -/
  repairs : List (Nat × Nat)
  /-- hard repairs by channel -/
  hard : List (Nat × Nat)
  /-- TRL_BB_STAT's other_sealed, half and cause -/
  bb : Nat × Nat × Nat
  fused : Nat
  revoked : Nat
  /-- key hashes by slot -/
  keys : List (Nat × Bytes)
  /-- UUIDs of recording volumes opened and not closed (R428, log 32) -/
  unclosed : List Nat
  deriving DecidableEq, Repr

/-! ### Offload port -/

structure OflSq where
  id : Nat
  base : Nat
  size : Nat
  cq : Nat
  head : Nat
  tail : Nat
  deriving DecidableEq, Repr

structure OflCq where
  id : Nat
  base : Nat
  size : Nat
  vector : Nat
  ien : Bool
  head : Nat
  tail : Nat
  phase : Bool
  deriving DecidableEq, Repr

/-- A command that is not yet complete (R424): what it waits for is in `ios`, `rows` and `flush`. -/
structure OflCmd where
  id : Nat
  sq : Nat
  cid : Nat
  opc : Nat
  ns : Nat
  lba : Nat
  n : Nat
  prp1 : Nat
  prp2 : Nat
  /-- data from the host (Compare, a Write that waits for cache space) -/
  data : Bytes
  /-- what member reads have returned: member, member LBA, bytes (R429) -/
  got : List (Nat × Nat × Bytes)
  /-- exchange rows that it waits for (R426, R431) -/
  rows : List Nat
  fua : Bool
  /-- it waits for cache space -/
  wait : Bool
  /-- what it will complete with once its member accesses have ended -/
  fail : Option (Nat × Nat)
  deriving DecidableEq, Repr

/-- A member access (R425): of command `cmd`, on member `m`, `n` blocks from member LBA `lba`, for the range of the command that
starts at namespace LBA `first`. -/
structure OflIo where
  id : Nat
  cmd : Nat
  m : Nat
  lba : Nat
  n : Nat
  first : Nat
  issued : Bool
  deriving DecidableEq, Repr

/-- The self-test that runs (R439). -/
structure OflTest where
  op : Nat
  ns : Nat
  seg : Nat
  step : Nat
  /-- first failed segment, and failing LBA -/
  failed : Option (Nat × Option Nat)
  deriving DecidableEq, Repr

structure OflSt where
  cc : Nat
  csts : Nat
  aqa : Nat
  asq : Nat
  acq : Nat
  intms : Nat
  sqs : List OflSq
  cqs : List OflCq
  /-- the queue being fetched from, and commands fetched from it this turn (R424) -/
  turn : Nat × Nat
  cmds : List OflCmd
  ios : List OflIo
  nextId : Nat
  /-- completions not yet posted: queue, cid, dword 0, status, oldest first -/
  posts : List (Nat × Nat × Nat × Nat)
  /-- outstanding Asynchronous Event Requests, and events not yet reported: type + 256 × information + 65,536 × log page -/
  aers : List Nat
  events : List Nat
  /-- event types masked until their log page is read -/
  masked : List Nat
  /-- current feature values by FID -/
  feats : List (Nat × Nat)
  /-- the Autonomous Power State Transition table -/
  apst : Bytes
  changed : List Nat
  /-- Error Information entries, newest first, and their count -/
  errors : List Bytes
  errCount : Nat
  /-- SMART counts: 512-byte units read and written, host reads, writes, power cycles, unsafe shutdowns, media errors -/
  smart : List Nat
  /-- the exchange cache: bytes by NS2 byte address, and the dirty LBAs in the order they were dirtied (R426) -/
  cache : Mem
  dirty : List Nat
  /-- member writes stopped at VWARN (R428) -/
  dusk : Bool
  slot2 : Bytes
  download : Bytes
  /-- running module's slot -/
  slot : Nat
  /-- an activation: slot, and the Firmware Commit that asked for it -/
  activate : Option (Nat × Nat)
  /-- power: the state in entry or exit, and the last operational state set; a state asked for during an entry (R437) -/
  psNext : Option Nat
  psOp : Nat
  psWant : Option Nat
  psAuto : Bool
  test : Option OflTest
  /-- the last 20 results, newest first -/
  results : List Bytes
  msix : RegFile
  msixEnable : Bool
  msixMask : Bool
  msixPba : List Nat
  /-- a shutdown waits for the cache to be written -/
  shut : Bool
  deriving DecidableEq, Repr

/-! ### Sky -/

/-- A node heard on the sky (R474 to R477): serial, priority, node ID, the last sky epoch it named, and the sequences accepted from
it: generation, newest, the newest 64 as a mask (R473); whether it is formed, and whether it was heard in this formation. -/
structure SkyPeer where
  serial : Nat
  prio : Nat
  node : Option Nat
  epoch : Nat
  gen : Nat
  newest : Nat
  seen : Nat
  formed : Bool
  heard : Bool
  /-- when its last ANNOUNCE was heard, on the model's clock (R488) -/
  at_ : Nat
  /-- its link-local address on paths A and B, learned from its ANNOUNCE (R470) -/
  addrs : List (Option Nat)
  deriving DecidableEq, Repr

/-- A global operation at the root (R480): op, requested T, serial of the requester. -/
structure SkyReq where
  op : Nat
  time : Nat
  who : Nat
  deriving DecidableEq, Repr

/-- What a child has answered for its subtree (R481): accepting, refusing, serial of the first refusing node and its reason. -/
structure SkyAck where
  child : Nat
  yes : Nat
  no : Nat
  who : Nat
  why : Nat
  deriving DecidableEq, Repr

structure SkySt where
  seq : Nat
  /-- when the formation began, and when the last ANNOUNCE was sent, on the model's clock (R476) -/
  formedAt : Nat
  announced : Nat
  peers : List SkyPeer
  /-- best priority and serial seen in this formation; highest generation and sky epoch heard -/
  best : Nat × Nat
  bestGen : Nat
  bestEpoch : Nat
  /-- the root: serials by node ID; a member: the serials it has learned, 0 where unknown -/
  members : List Nat
  /-- the operation that runs at the root with its number (sky epoch or snapshot), and the queue (R480) -/
  run : Option (SkyReq × Nat)
  queue : List SkyReq
  /-- the commit: E and T of the PREPARE, this node's answer (0 accepted, else the reason), answers of the children,
  and whether this node's ACK has gone up -/
  prep : Option (Nat × Nat)
  own : Nat
  acks : List SkyAck
  acked : Bool
  /-- E that a COMMIT is held for -/
  held : Option Nat
  /-- the barrier: own arrival, arrivals below as (child, ID, nodes), the ARRIVE has gone up, the release ID and time -/
  arrived : Option Nat
  arrivals : List (Nat × Nat × Nat)
  arriveSent : Bool
  release : Option (Nat × Nat)
  /-- the snapshot: number and T; the last number used; it came late -/
  snap : Option (Nat × Nat)
  snapNum : Nat
  snapLate : Bool
  /-- the sky reset's T -/
  reset : Option Nat
  /-- results in this subtree not yet reported: op, number, child (or this node's ID), result -/
  dones : List (Nat × Nat × Nat × Nat)
  /-- the request that this node's host made -/
  asked : Option SkyReq
  keys : List Bytes
  deriving DecidableEq, Repr

/-! ### Audio -/

/-- A fade (R499 to R501): 0 full gain, 1 ramping out, 2 silent, 3 ramping in; the gain in steps of 1/Nr; the cause. -/
structure Fade where
  mode : Nat
  gain : Nat
  cause : Nat
  deriving DecidableEq, Repr

/-- An elastic buffer (R500): received frames of samples, oldest first; filling with silence, or dropping, until 4 ms. -/
structure Elastic where
  buf : List (List Nat)
  filling : Bool
  dropping : Bool
  fade : Fade
  deriving DecidableEq, Repr

structure AudPort where
  /-- start time S in units of 2^-32 ns of TB3 -/
  start : Int
  /-- AUD_Pn_FMT in effect when it started -/
  fmt : Nat
  stopping : Bool
  /-- it has been named by a start whose time S has not come (R497) -/
  armed : Bool
  /-- the fade of an output, or of an input with its elastic buffer -/
  elastic : Elastic
  /-- per channel pair: muted, found by preamble, clean frames since (at its top value when none counts) -/
  mutes : List (Bool × Bool × Nat)
  /-- last 16-bit word of each pair, for the preamble -/
  words : List Nat
  /-- ramp-outs since its last frame (R501) -/
  outs : Nat
  deriving DecidableEq, Repr

/-- A start under way (R497): ports that have yet to start, ports that have started, and what EV_AUD_START will say. -/
structure AudGo where
  left : List Nat
  begun : List Nat
  busy : Bool
  late : Bool
  deriving DecidableEq, Repr

structure AudSt where
  ports : List AudPort
  starting : Option AudGo
  /-- synthesisers A and B: accumulator, and TB3 (2^-32 ns) of the clock in which the last master edge fell (R494) -/
  acc : List Nat
  edge : List Nat
  /-- SDI audio groups, by output × 8 + group: samples not yet embedded, and display frames since the first (R503) -/
  groups : List Elastic
  cadence : List Nat
  deriving DecidableEq, Repr

/-! ### Low-speed ports -/

/-- An I2C transfer (R514, R515): tries so far, whether one is on the bus, the bytes it writes, its target address and read length,
and when its last try ended, on the model's clock. -/
structure I2cRun where
  tries : Nat
  bus : Bool
  tx : Bytes
  addr : Nat
  rlen : Nat
  since : Nat
  deriving DecidableEq, Repr

/-- An I2C controller (R514 to R517): FIFOs, the transfer, and a flush that waits for its try. -/
structure I2cSt where
  tx : Bytes
  rx : Bytes
  run : Option I2cRun
  flush : Bool
  deriving DecidableEq, Repr

/-- An SPI transfer as its go found CTRL (R519). -/
structure SpiRun where
  cs : Nat
  mode : Nat
  hold : Bool
  len : Nat
  deriving DecidableEq, Repr

/-- An SPI controller (R519): FIFOs, the transfer, and the chip select held after one, with its mode. -/
structure SpiSt where
  tx : Bytes
  rx : Bytes
  run : Option SpiRun
  held : Option (Nat × Nat)
  deriving DecidableEq, Repr

/-- A UART (R521, R522): FIFOs; a received byte carries its flags in bits 9 to 11 as LSP_Uu_DATA does. -/
structure UartSt where
  tx : Bytes
  rx : List Nat
  deriving DecidableEq, Repr

structure LspSt where
  i2c : List I2cSt
  spi : List SpiSt
  uart : List UartSt
  /-- USB: configuration value, the interface's alternate settings are none; DFU: state and status, bytes received (R523) -/
  config : Nat
  dfuState : Nat
  dfuStatus : Nat
  dfuLen : Nat
  /-- VBUS is present -/
  vbus : Bool
  /-- the last IN packet was full, so that a zero-length packet ends the transfer (R524) -/
  inFull : Bool
  deriving DecidableEq, Repr

/-! ### Power, resets and dawn -/

structure CprSt where
  /-- a domain switch in progress: domain, on (R569) -/
  switch : Option (Nat × Bool)
  /-- a dusk hold, or a thermal trip: every domain but PD0 is in reset (R582, R593) -/
  hold : Bool
  trip : Bool
  /-- a device reset that waits for a landing (R574) -/
  resetDue : Bool
  /-- when the dawn began, in ns of `clk`; the next step; it is halted (R578) -/
  dawnAt : Nat
  step : Nat
  halted : Bool
  /-- the dawn: the image source (as BOOTSEL), slot A failed or was passed over (AL_DRV_FALLBACK payload), safe -/
  source : Nat
  fallback : Nat
  safe : Bool
  /-- a host or USB load operation has started the rest of the dawn (R105) -/
  loadGo : Bool
  /-- the watchdog is armed, from this time -/
  armed : Option Nat
  /-- the ROM minimal image has been entered -/
  rom : Bool
  deriving DecidableEq, Repr

/-- Commands of the firmware side and of DRV in progress. -/
structure DrvSt where
  /-- the running operation: op, result code, section type, offset -/
  run : Option (Nat × Nat × Nat × Nat)
  staged : List Patch
  /-- the patch, or the key hash, that the running operation produced -/
  patch : Option Patch
  /-- header that a slot write still has to write (R110) -/
  hdr : Bytes
  /-- copy of the loaded image in reserved HBM (R585) -/
  image : Bytes
  deriving DecidableEq, Repr

/-- Faults: the machine stops. -/
inductive Fault where
  /-- Raised by POWER_ON_RESET when a rail is out of tolerance at PORST_N release: the state after it is undefined
  (R590). Safe: nothing is claimed of the machine there. -/
  | railsOutOfTolerance
  deriving DecidableEq, Repr

/-- Refusals: the model gives the command no meaning. -/
inductive Refusal where
  /-- Raised by an arm of exec whose command has no meaning yet. Safe: nothing is claimed of it. -/
  | notModelled (mnemonic : String)
  deriving DecidableEq, Repr

/-- The 9X. -/
structure State where
  pending : List Instr
  regs : RegFile
  mirror : MirrorSt
  /-- the _HI halves latched per requester (R27): (requester, _HI offset, value) -/
  latch : List (Nat × Nat × Nat)
  /-- _LO halves written and not yet in effect (R28): register key and word -/
  lowHalf : List (Nat × Nat)
  host : Mem
  /-- memory of the offload host -/
  ohost : Mem
  hbm : Mem
  /-- plan ranges of HBM whose content is undefined: first byte, bytes, and the free values that they hold (R2, R88, R573, log 2) -/
  undef : List (Nat × Nat × Nat)
  mram : Mem
  /-- LUT RAM of the units: block index × 2^32 + offset (R53) -/
  lut : Mem
  /-- kernel-table bytes of OUTF that have been written since reset (the others hold the reset kernel) -/
  lutSet : List Nat
  /-- MSI-X table, keyed by dword index, pending bits, Enable and Function Mask -/
  msixTable : RegFile
  msixPba : List Nat
  msixEnable : Bool
  msixMask : Bool
  out : List Out
  raised : List Rec
  /-- occurrences of rate-limited records not yet reported (R598) -/
  limited : List Rec
  /-- rate-limited records raised so far: type, instance, and the clock of the last one (R190, R598) -/
  limitedAt : List (Nat × Nat × Nat)
  /-- the ingest write buffer has overflowed: lines released now are lost from the copy (R185) -/
  sfeFull : Bool
  /-- what the RCT tiles hold of the defect maps (R212) -/
  defStores : List DefStore
  dests : List Dest
  disarmed : Disarmed
  packets : List Packet
  rings : List Ring
  nextId : Nat
  /-- mirror reads held until DEV_SNAP.go clears: live offset and bytes (R26, R149) -/
  heldReads : List (Nat × Nat)
  bulk : Bulk
  /-- arbiter requests promoted: (arbiter, id, class reached, time on `clk` at which its wait timer restarted) (R49) -/
  promo : List (Nat × Nat × Nat × Nat)
  front : Option Front
  epochs : List EpochRec
  /-- patches that took part in an epoch not yet settled -/
  patchesOf : List (Nat × Patch)
  pipes : List PipeSt
  frames : List Frame
  graph : Graph
  lanes : List Lane
  groups : List GroupSt
  streams : List StreamSt
  sgs : List Gen
  pss : List Gen
  caps : List CapSt
  subst : List Subst
  time : TimeSt
  drv : DrvSt
  /-- what the members' namespaces hold: root port × 2^60 + byte of the namespace -/
  media : Mem
  recorder : RecSt
  zst : List (Option ZstJob)
  /-- descriptors of each ZST ring, and of the decode core's, that stood in it at the last host function reset (R74) -/
  oldJobs : List Nat
  outfs : List OutfSt
  encs : List EncSt
  dec : DecSt
  disp : DispSt
  hbmc : HbmSt
  hlt : HltSt
  baro : BaroSt
  nv : NvSt
  ofl : OflSt
  sky : SkySt
  aud : AudSt
  lsp : LspSt
  cpr : CprSt
  /-- counter of free values drawn so far (the model's own field; log 2) -/
  free : Nat
  deriving DecidableEq, Repr

def Dest.init : Dest := ⟨[], 0, 0, 0, [], [], false, 0, 0, 0, 0, 0⟩

def Ring.init : Ring := ⟨0, [], []⟩

def PipeSt.init : PipeSt := ⟨0, [], true, [], false, 0, false, [], none, 1, none, 0, none, none, none⟩

def Lane.init : Lane := ⟨0, 0, [], none, 0, 0, 0, 0, []⟩

def GroupSt.init : GroupSt := ⟨0, none, []⟩

def StreamSt.init : StreamSt := ⟨none, none, 0, 0, false, 0, [], none⟩

def Gen.init : Gen := ⟨[], none, none, []⟩

def Seg.init : Seg := ⟨[], 0, false, 0, 0⟩

def CapSt.init : CapSt := ⟨[], none, 0, List.replicate 16 Seg.init, [], [], none, [], [], none⟩

def Graph.empty : Graph := ⟨[], [], [], [], [], [], [], []⟩

def TimeSt.init : TimeSt :=
  ⟨0, [0, 0, 0, 0], [0x200000000, 0x200000000, 0x200000000, 0x200000000], 0, [0, 0, 0, 0], List.replicate 6 [], none,
    none, none, none⟩

def HbmSt.init : HbmSt := ⟨[], [], [], [], 0, [], [], none, true⟩

def Gust.init : Gust := ⟨0, 0, 0⟩

def HltSt.init : HltSt := ⟨[], [], [], List.replicate 64 ⟨none, false⟩, [], [], false, List.replicate 11 (0, 0)⟩

def BaroSt.init : BaroSt := ⟨none, List.replicate 24 0, 0⟩

/-- A 9X as it leaves manufacture: slot 0 holds Mbamet's key, whose hash the spec does not give (R101, log 4). -/
def NvSt.init : NvSt := ⟨0, 0, 0, 0, 0, none, [], [], (0, 0, 0), 1, 0, [], []⟩

def OflSt.init : OflSt :=
  ⟨0, 0, 0, 0, 0, 0, [], [], (0, 0), [], [], 0, [], [], [], [], [], [], [], [], 0, [0, 0, 0, 0, 0, 0, 0], [], [], false, [], [], 1,
    none, none, 0, none, false, none, [], [], false, false, [], false⟩

def SkySt.init : SkySt :=
  ⟨0, 0, 0, [], (0, 0), 0, 0, [], none, [], none, 0, [], false, none, none, [], false, none, none, 0, false, none, [], none,
    [List.replicate 32 0, List.replicate 32 0]⟩

def Fade.init : Fade := ⟨2, 0, 0⟩

def Elastic.init : Elastic := ⟨[], true, false, Fade.init⟩

/-- More clean frames than any mute or its ramp counts (R502). -/
def cleanTop : Nat := 4480

def AudPort.init : AudPort := ⟨0, 0, false, false, Elastic.init, List.replicate 8 (false, false, cleanTop), List.replicate 8 0, 0⟩

def AudSt.init : AudSt := ⟨List.replicate 14 AudPort.init, none, [0, 0], [0, 0], List.replicate 64 Elastic.init, List.replicate 64 0⟩

def I2cSt.init : I2cSt := ⟨[], [], none, false⟩
def SpiSt.init : SpiSt := ⟨[], [], none, none⟩
def UartSt.init : UartSt := ⟨[], []⟩

def LspSt.init : LspSt :=
  ⟨List.replicate 8 I2cSt.init, List.replicate 4 SpiSt.init, List.replicate 2 UartSt.init, 0, 0, 0, 0, false, false⟩

/-- Power has just come up: a dawn stands at its first step, with the watchdog armed (R107, R576). -/
def CprSt.init : CprSt := ⟨none, false, false, false, 0, 1, false, 0, 0, false, false, some 0, false⟩

def DrvSt.init : DrvSt := ⟨none, [], none, [], []⟩

def OutfSt.init : OutfSt := ⟨[0, 0, 0, 0, 0, 0, 0, 0], none, 0, 0, none, [], []⟩

def EncSt.init : EncSt :=
  ⟨none, false, 0, [], [], false, false, false, 0, 0, 0, false, [], 0, none, 0, [none, none, none], 0, 0, 0, 0, false, [], []⟩

def DecSt.init : DecSt := ⟨[], false, []⟩

def LayerSt.init : LayerSt := ⟨0, 0, none, none, false, false⟩

def DsiSt.init : DsiSt := ⟨0, none, none, 0, false, false, false, false⟩

def SdiSt.init : SdiSt := ⟨0, 0, []⟩

def DispSt.init : DispSt :=
  ⟨0, [], false, false, none, List.replicate 4 LayerSt.init, List.replicate 2 DsiSt.init, List.replicate 2 SdiSt.init⟩

def RecSt.init : RecSt :=
  ⟨[], false, none, false, false, [], List.replicate 8 ([], 0), [], [], 0, 0, [], [], [], [], false, [], false, 0, [], 0, [], [],
    none, false⟩

/-- The 9X at the end of a power-on reset with every strap open, before the first step of its dawn (R7, R571, R573, R576): the
register file lists nothing, so every register reads its reset word; only PD0 is on; memories list nothing, HBM being undefined
throughout; no command waits.
What the spec gives no reset value for holds 0 (log 1). -/
def State.reset : State where
  pending := []
  regs := []
  mirror := ⟨[], [], 0, Graph.empty⟩
  latch := []
  lowHalf := []
  host := []
  ohost := []
  hbm := []
  undef := [(0, 0x2400000000, 0)]
  mram := []
  lut := []
  lutSet := []
  msixTable := []
  msixPba := []
  msixEnable := false
  msixMask := false
  out := []
  raised := []
  limited := []
  limitedAt := []
  sfeFull := false
  defStores := []
  dests := List.replicate 19 Dest.init
  disarmed := []
  packets := []
  rings := List.replicate 4 Ring.init
  nextId := 0
  heldReads := []
  bulk := ⟨0, 0, false, 0, 0, 0, 0, 0, 0⟩
  promo := []
  front := none
  epochs := [⟨0, [], Graph.empty, none⟩]
  patchesOf := []
  pipes := List.replicate 8 PipeSt.init
  frames := []
  graph := Graph.empty
  lanes := List.replicate 64 Lane.init
  groups := List.replicate 16 GroupSt.init
  streams := List.replicate 64 StreamSt.init
  sgs := List.replicate 8 Gen.init
  pss := List.replicate 4 Gen.init
  caps := List.replicate 8 CapSt.init
  subst := []
  time := TimeSt.init
  drv := DrvSt.init
  media := []
  recorder := RecSt.init
  zst := [none, none]
  oldJobs := [0, 0, 0]
  outfs := List.replicate 64 OutfSt.init
  encs := [EncSt.init, EncSt.init]
  dec := DecSt.init
  disp := DispSt.init
  hbmc := HbmSt.init
  hlt := HltSt.init
  baro := BaroSt.init
  nv := NvSt.init
  ofl := OflSt.init
  sky := SkySt.init
  aud := AudSt.init
  lsp := LspSt.init
  cpr := CprSt.init
  free := 1

end Sys2Proof.Machine
end

