-- ==== Sys2Proof/Machine/Store.lean ====
section
/-! DEFINITION. Keyed stores in one canonical form (keys strictly rising, no entry at its default): the form of the
register file and of every memory. -/

namespace Sys2Proof.Machine

/-- The entry of `k`, or the default. -/
def lookAt {α : Type} (d : α) : List (Nat × α) → Nat → α
  | [], _ => d
  | (k', v) :: t, k => if k' = k then v else lookAt d t k

/-- Write `v` at `k`, keeping keys rising; the default is not listed. -/
def setAt {α : Type} [DecidableEq α] (d : α) (k : Nat) (v : α) : List (Nat × α) → List (Nat × α)
  | [] => if v = d then [] else [(k, v)]
  | (k', v') :: t =>
    if k < k' then (if v = d then (k', v') :: t else (k, v) :: (k', v') :: t)
    else if k = k' then (if v = d then t else (k, v) :: t)
    else (k', v') :: setAt d k v t

/-- Every key of the list lies above `k`. -/
def keysAbove {α : Type} (k : Nat) (l : List (Nat × α)) : Bool := l.all fun e => k < e.1

/-- Keys strictly rising. -/
def rising {α : Type} : List (Nat × α) → Bool
  | [] => true
  | (k, _) :: t => keysAbove k t && rising t

/-- The canonical form of a memory: addresses strictly rising, and no entry equal to 0, which an unlisted address reads
as (R53 for MRAM; a DESIGN CHOICE for the others, log 8). -/
def Mem.wf (m : Mem) : Bool := rising m && m.all fun e => e.2 ≠ 0

def Mem.get (m : Mem) (a : Nat) : Byte := lookAt 0 m a

def Mem.set (m : Mem) (a : Nat) (b : Byte) : Mem := setAt 0 a b m

/-- The `n` bytes from address `a`. -/
def Mem.read (m : Mem) (a n : Nat) : Bytes := (List.range n).map fun i => m.get (a + i)

/-- Write bytes from address `a`. -/
def Mem.write (m : Mem) (a : Nat) : Bytes → Mem
  | [] => m
  | b :: t => Mem.write (m.set a b) (a + 1) t

/-- Write `n` zeros from address `a`. -/
def Mem.zero (m : Mem) (a n : Nat) : Mem := m.filter fun e => ¬(a ≤ e.1 ∧ e.1 < a + n)

/-- The value of little-endian bytes (R5). -/
def leNat : Bytes → Nat
  | [] => 0
  | b :: t => b.toNat + 256 * leNat t

/-- `n` little-endian bytes of a value (R5). -/
def leBytes : Nat → Nat → Bytes
  | 0, _ => []
  | n + 1, v => BitVec.ofNat 8 v :: leBytes n (v / 256)

/-- The value of big-endian bytes. -/
def beNat (b : Bytes) : Nat := leNat b.reverse

/-- `n` big-endian bytes of a value. -/
def beBytes (n v : Nat) : Bytes := (leBytes n v).reverse

def Mem.readLe (m : Mem) (a n : Nat) : Nat := leNat (m.read a n)

def Mem.writeLe (m : Mem) (a n v : Nat) : Mem := m.write a (leBytes n v)

/-- The little-endian value of `n` bytes at byte `i` of a byte string; bytes past its end read 0. -/
def fieldLe (b : Bytes) (i n : Nat) : Nat := leNat ((b.drop i).take n)

/-- Bits hi..lo of a value (R4). -/
def bits (v hi lo : Nat) : Nat := v / 2 ^ lo % 2 ^ (hi + 1 - lo)

def bit (v i : Nat) : Bool := v / 2 ^ i % 2 = 1

/-- The two's-complement reading of the low `n` bits of a value. -/
def signed (n v : Nat) : Int := if v % 2 ^ n < 2 ^ (n - 1) then v % 2 ^ n else (v % 2 ^ n : Nat) - (2 ^ n : Nat)

/-- The low `n` bits of the two's complement of an integer. -/
def unsigned (n : Nat) (i : Int) : Nat := (i % (2 ^ n : Nat)).toNat

def b2n (b : Bool) : Nat := if b then 1 else 0

/-- v rounded up to a multiple of m. -/
def roundUp (v m : Nat) : Nat := (v + m - 1) / m * m

def ceilDiv (a b : Nat) : Nat := (a + b - 1) / b

/-- Replace element `i` of a list. -/
def modNth {α : Type} (l : List α) (i : Nat) (f : α → α) : List α := l.modify i f

/-- The first element of a list that a test accepts, with the rest. -/
def takeFirst {α : Type} (p : α → Bool) : List α → Option (α × List α)
  | [] => none
  | x :: t => if p x then some (x, t) else (takeFirst p t).map fun r => (r.1, x :: r.2)

/-- A sum over a list. -/
def sumOf {α : Type} (f : α → Nat) (l : List α) : Nat := l.foldl (fun a x => a + f x) 0

/-- ASCII text. -/
def textBytes (t : String) : Bytes := t.toList.map fun c => BitVec.ofNat 8 c.toNat

/-- `n` upper-case hexadecimal digits. -/
def hexPad : Nat → Nat → Bytes
  | 0, _ => []
  | n + 1, v => hexPad n (v / 16) ++ [BitVec.ofNat 8 (if v % 16 < 10 then 48 + v % 16 else 55 + v % 16)]

/-- One step of a reflected CRC over a bit register. -/
def crcStep (poly : Nat) (c : Nat) : Nat := if c % 2 = 1 then (c / 2) ^^^ poly else c / 2

def crcByte (poly : Nat) (c : Nat) (b : Byte) : Nat := (crcStep poly)^[8] (c ^^^ b.toNat)

/-- CRC-32C (Castagnoli), reflected, initial value and final XOR all ones. -/
def crc32c (b : Bytes) : Nat := (b.foldl (crcByte 0x82F63B78) 0xFFFFFFFF) ^^^ 0xFFFFFFFF

/-- One step of an unreflected 16-bit CRC with polynomial 0x1021. -/
def crc16Step (c : Nat) : Nat := if c / 0x8000 % 2 = 1 then (c * 2 % 0x10000) ^^^ 0x1021 else c * 2 % 0x10000

def crc16Byte (c : Nat) (b : Byte) : Nat := crc16Step^[8] (c ^^^ (b.toNat * 256))

/-- A place in a sorted list, by a strict order. -/
def insertBy {α : Type} (lt : α → α → Bool) (x : α) : List α → List α
  | [] => [x]
  | y :: t => if lt x y then x :: y :: t else y :: insertBy lt x t

/-- Sorted, stable. -/
def sortBy {α : Type} (lt : α → α → Bool) (l : List α) : List α := l.foldl (fun acc x => insertBy lt x acc) []

end Sys2Proof.Machine
end

