-- ==== Sys2Proof/Machine/F32.lean ====
section
/-! DEFINITION. IEEE 754 binary32 with round-to-nearest-even (R11): values are exact, each operation rounds once. sqrt and
exp2 are correctly rounded (R199); exp, ln, log2 and pow are correct to within 2 units in the last place, and which of the
permitted results they give is free (log 16). -/

namespace Sys2Proof.Machine

/-- A binary32 value. A number is mant × 2^exp, rounded as binary32 holds it. -/
inductive F32 where
  | nan
  | inf (neg : Bool)
  | num (neg : Bool) (mant : Nat) (exp : Int)
  deriving DecidableEq, Repr

namespace F32

def zero : F32 := .num false 0 0

/-- The value of a 32-bit pattern. -/
def ofBits (w : Nat) : F32 :=
  let s := bit w 31
  let e := bits w 30 23
  let f := bits w 22 0
  if e = 255 then (if f = 0 then .inf s else .nan)
  else if e = 0 then .num s f (-149)
  else .num s (2 ^ 23 + f) ((e : Int) - 150)

/-- n × 2^k for an exponent of either sign, as a fraction. -/
def scaled (n : Nat) (k : Int) : Nat × Nat := if 0 ≤ k then (n * 2 ^ k.toNat, 1) else (n, 2 ^ (-k).toNat)

/-- n / d rounded to the nearest integer, ties to even. -/
def divRne (n d : Nat) : Nat :=
  let q := n / d
  let r := n % d
  if 2 * r < d then q else if d < 2 * r then q + 1 else if q % 2 = 0 then q else q + 1

/-- floor(log2(n / d)) for n, d > 0. -/
def floorLog2 (n d : Nat) : Int :=
  let g : Int := (Nat.log2 n : Int) - (Nat.log2 d : Int)
  let a := scaled d g
  if a.1 * 1 ≤ n * a.2 then g else g - 1

/-- The binary32 nearest to n / d, ties to even; beyond the largest it is an infinity. -/
def round (neg : Bool) (n d : Nat) : F32 :=
  if n = 0 then .num neg 0 0
  else
    let lg := floorLog2 n d
    let e : Int := max (lg - 23) (-149)
    let a := scaled d e
    let m := divRne (n * a.2) a.1
    let r : Nat × Int := if m = 2 ^ 24 then (2 ^ 23, e + 1) else (m, e)
    if 104 < r.2 then .inf neg else .num neg r.1 r.2

/-- The 32-bit pattern of a value; a NaN is the quiet one. -/
def toBits : F32 → Nat
  | .nan => 0x7FC00000
  | .inf s => b2n s * 2 ^ 31 + 0x7F800000
  | .num s m e =>
    if m = 0 then b2n s * 2 ^ 31
    else if m < 2 ^ 23 then b2n s * 2 ^ 31 + m * 2 ^ (e + 149).toNat
    else b2n s * 2 ^ 31 + (e + 150).toNat * 2 ^ 23 + (m - 2 ^ 23)

/-- The integer m × 2^(e + k) with its sign, for k large enough. -/
def asInt (neg : Bool) (m : Nat) (e low : Int) : Int := (if neg then -1 else 1) * (m * 2 ^ (e - low).toNat : Nat)

def neg : F32 → F32
  | .nan => .nan
  | .inf s => .inf !s
  | .num s m e => .num (!s) m e

def abs : F32 → F32
  | .nan => .nan
  | .inf _ => .inf false
  | .num _ m e => .num false m e

def add : F32 → F32 → F32
  | .nan, _ => .nan
  | _, .nan => .nan
  | .inf a, .inf b => if a = b then .inf a else .nan
  | .inf a, _ => .inf a
  | _, .inf b => .inf b
  | .num s m e, .num t n f =>
    let low := min e f
    let v := asInt s m e low + asInt t n f low
    if v = 0 then .num (s && t) 0 0
    else
      let a := scaled v.natAbs low
      round (v < 0) a.1 a.2

def sub (a b : F32) : F32 := add a (neg b)

def mul : F32 → F32 → F32
  | .nan, _ => .nan
  | _, .nan => .nan
  | .inf a, .inf b => .inf (a != b)
  | .inf a, .num t n _ => if n = 0 then .nan else .inf (a != t)
  | .num s m _, .inf b => if m = 0 then .nan else .inf (s != b)
  | .num s m e, .num t n f =>
    let a := scaled (m * n) (e + f)
    round (s != t) a.1 a.2

def div : F32 → F32 → F32
  | .nan, _ => .nan
  | _, .nan => .nan
  | .inf _, .inf _ => .nan
  | .inf a, .num t _ _ => .inf (a != t)
  | .num s _ _, .inf b => .num (s != b) 0 0
  | .num s m e, .num t n f =>
    if n = 0 then (if m = 0 then .nan else .inf (s != t))
    else
      let a := scaled 1 (e - f)
      round (s != t) (m * a.1) (n * a.2)

/-- An integer, rounded. -/
def ofInt (i : Int) : F32 := round (i < 0) i.natAbs 1

def ofNat (n : Nat) : F32 := round false n 1

/-- n / d, rounded once. -/
def ofRat (n : Int) (d : Nat) : F32 := round (n < 0) n.natAbs d

/-- A decimal constant of the spec: n / 10^k, rounded once. -/
def dec (n : Int) (k : Nat) : F32 := ofRat n (10 ^ k)

/-- a < b; false when either is a NaN. -/
def lt : F32 → F32 → Bool
  | .nan, _ => false
  | _, .nan => false
  | .inf a, .inf b => a && !b
  | .inf a, _ => a
  | _, .inf b => !b
  | .num s m e, .num t n f => let low := min e f; asInt s m e low < asInt t n f low

def le (a b : F32) : Bool := match a, b with
  | .nan, _ => false
  | _, .nan => false
  | _, _ => !(lt b a)

def fmax (a b : F32) : F32 := if lt a b then b else a
def fmin (a b : F32) : F32 := if lt b a then b else a

/-- Integer square root, bit by bit. -/
def isqrtFrom (n : Nat) : Nat → Nat → Nat
  | 0, r => r
  | k + 1, r => let t := r + 2 ^ k; isqrtFrom n k (if t * t ≤ n then t else r)

def isqrt (n : Nat) : Nat := isqrtFrom n (Nat.log2 n / 2 + 1) 0

/-- Correctly rounded square root; of a negative number it is a NaN. -/
def sqrt : F32 → F32
  | .nan => .nan
  | .inf s => if s then .nan else .inf false
  | .num s m e =>
    if m = 0 then .num s 0 0
    else if s then .nan
    else
      -- an even exponent, and 64 more bits than the result needs; a sticky bit stands for the rest
      let e2 := if e % 2 = 0 then e - 128 else e - 129
      let n := m * 2 ^ (e - e2).toNat
      let r := isqrt n
      let st := 2 * r + (if r * r = n then 0 else 1)
      let a := scaled st (e2 / 2 - 1)
      round false a.1 a.2

/-- Nearest integer, ties to even; an infinity or NaN has none, and what comes out is free (log 16). -/
def rne : F32 → Int
  | .num s m e =>
    let a := scaled m e
    (if s then -1 else 1) * (divRne a.1 a.2 : Int)
  | _ => Config.nanInt

def floor : F32 → Int
  | .num s m e =>
    let a := scaled m e
    (if s then -(a.1 : Int) else (a.1 : Int)) / (a.2 : Int)
  | _ => Config.nanInt

def ceil (x : F32) : Int := -(floor (neg x))

/-- Rounded to the nearest integer, ties to even, and clamped to lo .. hi; what a NaN gives is free within them (log 16). -/
def toIntClamp (x : F32) (lo hi : Int) : Int :=
  match x with
  | .nan => min (max Config.nanInt lo) hi
  | .inf s => if s then lo else hi
  | _ => min (max (rne x) lo) hi

/-- A binary16 pattern as binary32; a NaN or infinity reads as 0 (R312). -/
def ofHalf (w : Nat) : F32 :=
  let s := bit w 15
  let e := bits w 14 10
  let f := bits w 9 0
  if e = 31 then zero
  else
    let a := if e = 0 then scaled f (-24) else scaled (1024 + f) ((e : Int) - 25)
    round s a.1 a.2

/-- The binary16 nearest to a value, ties to even, saturating at ±65,504 (R326); a NaN is 0 (R322). -/
def toHalf (x : F32) : Nat :=
  match x with
  | .nan => 0
  | .inf s => b2n s * 2 ^ 15 + 0x7BFF
  | .num s m e =>
    if m = 0 then b2n s * 2 ^ 15
    else
      let a := scaled m e
      let lg := max (floorLog2 a.1 a.2) (-14)
      let u := scaled 1 (lg - 10)
      let q := divRne (a.1 * u.2) (a.2 * u.1)
      -- q counts units of 2^(lg − 10); 2,048 of them are the next binade
      let v := (if q < 1024 then q else (lg + 14).toNat * 1024 + q)
      b2n s * 2 ^ 15 + min v 0x7BFF

def isNan : F32 → Bool
  | .nan => true
  | _ => false

/-! ### exp2, and the functions that are only bounded -/

/-- Fraction bits of the fixed-point work. -/
def fx : Nat := 200

/-- ln 2 × 2^200. -/
def ln2fx : Nat := 1113844574712631719546256151097547306333272293549090750737802

/-- exp(r) for 0 ≤ r < 1 in fixed point, by its series. -/
def expSeries (r : Nat) : Nat → Nat → Nat → Nat → Nat
  | 0, _, _, acc => acc
  | n + 1, k, term, acc => let t := term * r / 2 ^ fx / k; expSeries r n (k + 1) t (acc + t)

/-- 2^(x / 2^200) as a fraction, for an integer x: exact where x is a multiple of 2^200, else within 2^-190 of it. -/
def pow2fx (x : Int) : Nat × Int :=
  let ip := x / (2 ^ fx : Nat)
  let fr := (x % (2 ^ fx : Nat)).toNat
  if fr = 0 then (1, ip)
  else (2 * expSeries (fr * ln2fx / 2 ^ fx) 60 1 (2 ^ fx) (2 ^ fx) + 1, ip - (fx : Int) - 1)

/-- Correctly rounded 2^x. -/
def exp2 : F32 → F32
  | .nan => .nan
  | .inf s => if s then zero else .inf false
  | .num s m e =>
    let a := scaled m e
    if 2 ^ 10 * a.2 ≤ a.1 then (if s then zero else .inf false)
    else
      let r := pow2fx ((if s then -1 else 1) * ((a.1 * 2 ^ fx / a.2 : Nat) : Int))
      let b := scaled r.1 r.2
      round false b.1 b.2

/-- log2(n / d) in fixed point: bit by bit from repeated squaring of a value in [1, 2). -/
def log2Bits : Nat → Nat → Nat → Nat
  | 0, _, acc => acc
  | k + 1, y, acc =>
    let q := y * y / 2 ^ fx
    if 2 ^ (fx + 1) ≤ q then log2Bits k (q / 2) (2 * acc + 1) else log2Bits k q (2 * acc)

/-- log2(n / d) × 2^120. -/
def log2fx (n d : Nat) : Int :=
  let g := floorLog2 n d
  let a := scaled d g
  let y := n * a.2 * 2 ^ fx / a.1
  g * (2 ^ 120 : Nat) + (log2Bits 120 y 0 : Nat)

/-- Move a finite value by k units in the last place. -/
def ulps (x : F32) (k : Int) : F32 :=
  match x with
  | .num s m e =>
    if k = 0 then x
    else
      let b : Int := if s then -((toBits (.num false m e) : Nat) : Int) else (toBits x : Nat)
      let c := b + k
      if c.natAbs < 0x7F800000 then (if c < 0 then neg (ofBits c.natAbs) else ofBits c.natAbs) else x
  | _ => x

/-- A result within 2 units in the last place of the one given: which is free (log 16). -/
def near (fn : Nat) (x y : F32) (r : F32) : F32 := ulps r ((Config.ulpChoice fn (toBits x) (toBits y) % 5 : Nat) - 2)

/-- v × 2^-k as a value, rounded once. -/
def ofFx (v : Int) (k : Nat) : F32 := ofRat v (2 ^ k)

def log2 (x : F32) : F32 :=
  match x with
  | .nan => .nan
  | .inf s => if s then .nan else .inf false
  | .num s m e =>
    if m = 0 then .inf true
    else if s then .nan
    else let a := scaled m e; near 2 x zero (ofFx (log2fx a.1 a.2) 120)

def ln (x : F32) : F32 :=
  match x with
  | .nan => .nan
  | .inf s => if s then .nan else .inf false
  | .num s m e =>
    if m = 0 then .inf true
    else if s then .nan
    else let a := scaled m e; near 1 x zero (ofFx (log2fx a.1 a.2 * (ln2fx : Nat)) (120 + fx))

/-- 2^(v × 2^-k), rounded, for |v × 2^-k| below 2^10. -/
def pow2Of (v : Int) (k : Nat) : F32 :=
  if (2 ^ (k + 10) : Nat) ≤ v.natAbs then (if v < 0 then zero else .inf false)
  else
    let r := pow2fx (v * (2 ^ fx : Nat) / (2 ^ k : Nat))
    let b := scaled r.1 r.2
    round false b.1 b.2

def exp (x : F32) : F32 :=
  match x with
  | .nan => .nan
  | .inf s => if s then zero else .inf false
  | .num s m e =>
    let a := scaled m e
    if 2 ^ 10 * a.2 ≤ a.1 then (if s then zero else .inf false)
    else
      -- x / ln 2 in fixed point
      near 3 x zero (pow2Of ((if s then -1 else 1) * ((a.1 * 2 ^ (2 * fx) / a.2 / ln2fx : Nat) : Int)) fx)

/-- x^y for x ≥ 0; a negative base is a NaN. -/
def pow (x y : F32) : F32 :=
  match x, y with
  | .nan, _ => .nan
  | _, .nan => .nan
  | _, .num _ 0 _ => ofNat 1
  | .inf s, y => if s then .nan else if lt zero y then .inf false else zero
  | .num s m e, .inf t =>
    if s && m ≠ 0 then .nan
    else if lt (ofNat 1) (.num s m e) then (if t then zero else .inf false)
    else if lt (.num s m e) (ofNat 1) then (if t then .inf false else zero) else ofNat 1
  | .num s m e, .num t n f =>
    if m = 0 then (if t then .inf false else zero)
    else if s then .nan
    else
      let a := scaled m e
      let b := scaled n f
      near 4 (.num s m e) (.num t n f)
        (pow2Of (log2fx a.1 a.2 * (if t then -1 else 1) * ((b.1 * 2 ^ 160 / b.2 : Nat) : Int)) 280)

end F32

end Sys2Proof.Machine
end

