-- ==== Sys2Proof/Machine/RegsCamera.lean ====
section
/-! DEFINITION. The registers of SFE, RCT, STS, RCU and CAP, written from the register tables of the
chapters 05, 06, 07 of spec/: for each register its BAR0 offset (R6), its instances, its reset word (R7) and its fields
(bit range, R4; type, R32; permitted values, R9). -/

namespace Sys2Proof.Machine

/-! ### SFE -/

def R.SFE_G_CTRL : Reg := ⟨0x101000, [(0x10, 0x100)], 0, [], false⟩
def Fl.SFE_G_CTRL_reacquire : Fld := ⟨R.SFE_G_CTRL, 0, 0, .go, .any⟩
def R.SFE_G_STAT : Reg := ⟨0x101004, [(0x10, 0x100)], 0, [], false⟩
def Fl.SFE_G_STAT_up : Fld := ⟨R.SFE_G_STAT, 31, 31, .st, .any⟩
def Fl.SFE_G_STAT_skew : Fld := ⟨R.SFE_G_STAT, 18, 16, .st, .any⟩
def Fl.SFE_G_STAT_went_down : Fld := ⟨R.SFE_G_STAT, 9, 9, .w1c, .any⟩
def Fl.SFE_G_STAT_deskew_fail : Fld := ⟨R.SFE_G_STAT, 8, 8, .w1c, .any⟩
def Fl.SFE_G_STAT_lanes : Fld := ⟨R.SFE_G_STAT, 6, 0, .st, .any⟩
def R.SFE_G_CNT : Reg := ⟨0x101008, [(0x10, 0x100)], 0, [], false⟩
def Fl.SFE_G_CNT_down_count : Fld := ⟨R.SFE_G_CNT, 31, 16, .cntSat, .any⟩
def Fl.SFE_G_CNT_bad_pkt : Fld := ⟨R.SFE_G_CNT, 15, 0, .cntSat, .any⟩
def R.SFE_L_STAT : Reg := ⟨0x104000, [(0x40, 0x40)], 0, [], false⟩
def Fl.SFE_L_STAT_state : Fld := ⟨R.SFE_L_STAT, 27, 24, .st, .any⟩
def Fl.SFE_L_STAT_logical : Fld := ⟨R.SFE_L_STAT, 21, 16, .st, .any⟩
def Fl.SFE_L_STAT_group : Fld := ⟨R.SFE_L_STAT, 11, 8, .st, .any⟩
def Fl.SFE_L_STAT_delay : Fld := ⟨R.SFE_L_STAT, 2, 0, .st, .any⟩
def R.SFE_L_ERR : Reg := ⟨0x104004, [(0x40, 0x40)], 0, [], false⟩
def Fl.SFE_L_ERR_sync_err : Fld := ⟨R.SFE_L_ERR, 31, 16, .cntSat, .any⟩
def Fl.SFE_L_ERR_bip_err : Fld := ⟨R.SFE_L_ERR, 15, 0, .cntSat, .any⟩
def R.SFE_S_CTRL : Reg := ⟨0x108000, [(0x40, 0x80)], 0, [], false⟩
def Fl.SFE_S_CTRL_pad : Fld := ⟨R.SFE_S_CTRL, 31, 16, .rws, .any⟩
def Fl.SFE_S_CTRL_pad_mode : Fld := ⟨R.SFE_S_CTRL, 15, 14, .rws, .le 2⟩
def Fl.SFE_S_CTRL_crc_pad : Fld := ⟨R.SFE_S_CTRL, 13, 13, .rws, .any⟩
def Fl.SFE_S_CTRL_reorder : Fld := ⟨R.SFE_S_CTRL, 8, 0, .rws, .le 256⟩
def R.SFE_S_GEOM : Reg := ⟨0x108004, [(0x40, 0x80)], 0, [], false⟩
def Fl.SFE_S_GEOM_height : Fld := ⟨R.SFE_S_GEOM, 31, 16, .rws, .geomHeight⟩
def Fl.SFE_S_GEOM_width : Fld := ⟨R.SFE_S_GEOM, 15, 0, .rws, .geomWidth⟩
def R.SFE_S_OB : Reg := ⟨0x108008, [(0x40, 0x80)], 0, [], false⟩
def Fl.SFE_S_OB_ob_rows : Fld := ⟨R.SFE_S_OB, 13, 8, .rws, .le 32⟩
def Fl.SFE_S_OB_ob_cols : Fld := ⟨R.SFE_S_OB, 5, 0, .rws, .le 32⟩
def R.SFE_S_TIMING : Reg := ⟨0x10800c, [(0x40, 0x80)], 0x64, [], false⟩
def Fl.SFE_S_TIMING_timeout : Fld := ⟨R.SFE_S_TIMING, 31, 16, .rws, .any⟩
def Fl.SFE_S_TIMING_die_skew : Fld := ⟨R.SFE_S_TIMING, 15, 0, .rws, .any⟩
def R.SFE_S_LASTFSW : Reg := ⟨0x108010, [(0x40, 0x80)], 0, [], false⟩
def Fl.SFE_S_LASTFSW_fsw : Fld := ⟨R.SFE_S_LASTFSW, 31, 0, .ro, .any⟩
def R.SFE_S_LASTFID_LO : Reg := ⟨0x108014, [(0x40, 0x80)], 0, [], false⟩
def Fl.SFE_S_LASTFID_LO_frame_id : Fld := ⟨R.SFE_S_LASTFID_LO, 31, 0, .ro, .any⟩
def R.SFE_S_LASTFID_HI : Reg := ⟨0x108018, [(0x40, 0x80)], 0, [], false⟩
def Fl.SFE_S_LASTFID_HI_frame_id : Fld := ⟨R.SFE_S_LASTFID_HI, 31, 0, .ro, .any⟩
def R.SFE_S_FRAMES : Reg := ⟨0x10801c, [(0x40, 0x80)], 0, [], false⟩
def Fl.SFE_S_FRAMES_count : Fld := ⟨R.SFE_S_FRAMES, 31, 0, .cnt, .any⟩
def R.SFE_S_ERRCNT : Reg := ⟨0x108020, [(0x40, 0x80)], 0, [], false⟩
def Fl.SFE_S_ERRCNT_flagged : Fld := ⟨R.SFE_S_ERRCNT, 31, 16, .cntSat, .any⟩
def Fl.SFE_S_ERRCNT_crc_err : Fld := ⟨R.SFE_S_ERRCNT, 15, 0, .cntSat, .any⟩
def R.SFE_S_PADCNT : Reg := ⟨0x108024, [(0x40, 0x80)], 0, [], false⟩
def Fl.SFE_S_PADCNT_lines : Fld := ⟨R.SFE_S_PADCNT, 31, 0, .cnt, .any⟩
def R.SFE_P_FIDSET_LO : Reg := ⟨0x10c000, [(8, 0x10)], 0, [], false⟩
def Fl.SFE_P_FIDSET_LO_frame_id : Fld := ⟨R.SFE_P_FIDSET_LO, 31, 0, .rws, .any⟩
def R.SFE_P_FIDSET_HI : Reg := ⟨0x10c004, [(8, 0x10)], 0, [], false⟩
def Fl.SFE_P_FIDSET_HI_frame_id : Fld := ⟨R.SFE_P_FIDSET_HI, 31, 0, .rws, .any⟩
def R.SFE_P_FIDCTRL : Reg := ⟨0x10c008, [(8, 0x10)], 0, [], false⟩
def Fl.SFE_P_FIDCTRL_seq : Fld := ⟨R.SFE_P_FIDCTRL, 7, 0, .rws, .any⟩
def R.SFE_PLACE_SRC : Reg := ⟨0x110000, [(0x100, 0x10)], 0, [], false⟩
def Fl.SFE_PLACE_SRC_valid : Fld := ⟨R.SFE_PLACE_SRC, 31, 31, .rws, .any⟩
def Fl.SFE_PLACE_SRC_logical : Fld := ⟨R.SFE_PLACE_SRC, 29, 24, .rws, .any⟩
def Fl.SFE_PLACE_SRC_die : Fld := ⟨R.SFE_PLACE_SRC, 21, 16, .rws, .any⟩
def Fl.SFE_PLACE_SRC_flip_v : Fld := ⟨R.SFE_PLACE_SRC, 9, 9, .rws, .any⟩
def Fl.SFE_PLACE_SRC_flip_h : Fld := ⟨R.SFE_PLACE_SRC, 8, 8, .rws, .any⟩
def R.SFE_PLACE_POS : Reg := ⟨0x110004, [(0x100, 0x10)], 0, [], false⟩
def Fl.SFE_PLACE_POS_y0 : Fld := ⟨R.SFE_PLACE_POS, 31, 16, .rws, .any⟩
def Fl.SFE_PLACE_POS_x0 : Fld := ⟨R.SFE_PLACE_POS, 15, 0, .rws, .any⟩
def R.SFE_PLACE_SIZE : Reg := ⟨0x110008, [(0x100, 0x10)], 0, [], false⟩
def Fl.SFE_PLACE_SIZE_h : Fld := ⟨R.SFE_PLACE_SIZE, 31, 16, .rws, .any⟩
def Fl.SFE_PLACE_SIZE_w : Fld := ⟨R.SFE_PLACE_SIZE, 15, 0, .rws, .any⟩
def R.SFE_SG_CTRL : Reg := ⟨0x120000, [(8, 0x40)], 0, [], false⟩
def Fl.SFE_SG_CTRL_mode : Fld := ⟨R.SFE_SG_CTRL, 31, 30, .rws, .le 2⟩
def Fl.SFE_SG_CTRL_polarity : Fld := ⟨R.SFE_SG_CTRL, 29, 29, .rws, .any⟩
def Fl.SFE_SG_CTRL_base : Fld := ⟨R.SFE_SG_CTRL, 28, 28, .rws, .any⟩
def Fl.SFE_SG_CTRL_line : Fld := ⟨R.SFE_SG_CTRL, 21, 16, .rws, .le 47⟩
def Fl.SFE_SG_CTRL_check : Fld := ⟨R.SFE_SG_CTRL, 7, 7, .rws, .any⟩
def Fl.SFE_SG_CTRL_stream : Fld := ⟨R.SFE_SG_CTRL, 5, 0, .rws, .any⟩
def R.SFE_SG_PERIOD : Reg := ⟨0x120004, [(8, 0x40)], 0, [], false⟩
def Fl.SFE_SG_PERIOD_ns : Fld := ⟨R.SFE_SG_PERIOD, 31, 0, .rws, .any⟩
def R.SFE_SG_PFRAC : Reg := ⟨0x120008, [(8, 0x40)], 0, [], false⟩
def Fl.SFE_SG_PFRAC_frac : Fld := ⟨R.SFE_SG_PFRAC, 15, 0, .rws, .any⟩
def R.SFE_SG_START_LO : Reg := ⟨0x12000c, [(8, 0x40)], 0, [], false⟩
def Fl.SFE_SG_START_LO_time : Fld := ⟨R.SFE_SG_START_LO, 31, 0, .rws, .any⟩
def R.SFE_SG_START_HI : Reg := ⟨0x120010, [(8, 0x40)], 0, [], false⟩
def Fl.SFE_SG_START_HI_time : Fld := ⟨R.SFE_SG_START_HI, 31, 0, .rws, .any⟩
def R.SFE_SG_WIDTH : Reg := ⟨0x120014, [(8, 0x40)], 0, [], false⟩
def Fl.SFE_SG_WIDTH_ns : Fld := ⟨R.SFE_SG_WIDTH, 31, 0, .rws, .any⟩
def R.SFE_SG_LAT : Reg := ⟨0x120018, [(8, 0x40)], 0, [], false⟩
def Fl.SFE_SG_LAT_ns : Fld := ⟨R.SFE_SG_LAT, 31, 0, .rws, .any⟩
def R.SFE_SG_TOL : Reg := ⟨0x12001c, [(8, 0x40)], 0x3e8, [], false⟩
def Fl.SFE_SG_TOL_ns : Fld := ⟨R.SFE_SG_TOL, 31, 0, .rws, .any⟩
def R.SFE_SG_CNT : Reg := ⟨0x120020, [(8, 0x40)], 0, [], false⟩
def Fl.SFE_SG_CNT_missed : Fld := ⟨R.SFE_SG_CNT, 31, 16, .cntSat, .any⟩
def Fl.SFE_SG_CNT_late : Fld := ⟨R.SFE_SG_CNT, 15, 0, .cntSat, .any⟩
def R.SFE_C_STAT : Reg := ⟨0x130000, [(4, 0x100)], 0, [], false⟩
def Fl.SFE_C_STAT_hs : Fld := ⟨R.SFE_C_STAT, 3, 3, .st, .any⟩
def Fl.SFE_C_STAT_ecc_fail : Fld := ⟨R.SFE_C_STAT, 1, 1, .w1c, .any⟩
def Fl.SFE_C_STAT_crc_fail : Fld := ⟨R.SFE_C_STAT, 0, 0, .w1c, .any⟩
def R.SFE_C_CNT : Reg := ⟨0x130004, [(4, 0x100)], 0, [], false⟩
def Fl.SFE_C_CNT_ecc_fixed : Fld := ⟨R.SFE_C_CNT, 31, 16, .cntSat, .any⟩
def Fl.SFE_C_CNT_dropped : Fld := ⟨R.SFE_C_CNT, 15, 0, .cntSat, .any⟩

def Tb.SFE0 : List RegRow :=
  [⟨R.SFE_G_CTRL, [Fl.SFE_G_CTRL_reacquire]⟩,
   ⟨R.SFE_G_STAT, [Fl.SFE_G_STAT_up, Fl.SFE_G_STAT_skew, Fl.SFE_G_STAT_went_down, Fl.SFE_G_STAT_deskew_fail, Fl.SFE_G_STAT_lanes]⟩,
   ⟨R.SFE_G_CNT, [Fl.SFE_G_CNT_down_count, Fl.SFE_G_CNT_bad_pkt]⟩,
   ⟨R.SFE_L_STAT, [Fl.SFE_L_STAT_state, Fl.SFE_L_STAT_logical, Fl.SFE_L_STAT_group, Fl.SFE_L_STAT_delay]⟩,
   ⟨R.SFE_L_ERR, [Fl.SFE_L_ERR_sync_err, Fl.SFE_L_ERR_bip_err]⟩,
   ⟨R.SFE_S_CTRL, [Fl.SFE_S_CTRL_pad, Fl.SFE_S_CTRL_pad_mode, Fl.SFE_S_CTRL_crc_pad, Fl.SFE_S_CTRL_reorder]⟩,
   ⟨R.SFE_S_GEOM, [Fl.SFE_S_GEOM_height, Fl.SFE_S_GEOM_width]⟩,
   ⟨R.SFE_S_OB, [Fl.SFE_S_OB_ob_rows, Fl.SFE_S_OB_ob_cols]⟩,
   ⟨R.SFE_S_TIMING, [Fl.SFE_S_TIMING_timeout, Fl.SFE_S_TIMING_die_skew]⟩,
   ⟨R.SFE_S_LASTFSW, [Fl.SFE_S_LASTFSW_fsw]⟩,
   ⟨R.SFE_S_LASTFID_LO, [Fl.SFE_S_LASTFID_LO_frame_id]⟩,
   ⟨R.SFE_S_LASTFID_HI, [Fl.SFE_S_LASTFID_HI_frame_id]⟩,
   ⟨R.SFE_S_FRAMES, [Fl.SFE_S_FRAMES_count]⟩,
   ⟨R.SFE_S_ERRCNT, [Fl.SFE_S_ERRCNT_flagged, Fl.SFE_S_ERRCNT_crc_err]⟩,
   ⟨R.SFE_S_PADCNT, [Fl.SFE_S_PADCNT_lines]⟩,
   ⟨R.SFE_P_FIDSET_LO, [Fl.SFE_P_FIDSET_LO_frame_id]⟩,
   ⟨R.SFE_P_FIDSET_HI, [Fl.SFE_P_FIDSET_HI_frame_id]⟩,
   ⟨R.SFE_P_FIDCTRL, [Fl.SFE_P_FIDCTRL_seq]⟩,
   ⟨R.SFE_PLACE_SRC, [Fl.SFE_PLACE_SRC_valid, Fl.SFE_PLACE_SRC_logical, Fl.SFE_PLACE_SRC_die, Fl.SFE_PLACE_SRC_flip_v, Fl.SFE_PLACE_SRC_flip_h]⟩,
   ⟨R.SFE_PLACE_POS, [Fl.SFE_PLACE_POS_y0, Fl.SFE_PLACE_POS_x0]⟩]
def Tb.SFE1 : List RegRow :=
  [⟨R.SFE_PLACE_SIZE, [Fl.SFE_PLACE_SIZE_h, Fl.SFE_PLACE_SIZE_w]⟩,
   ⟨R.SFE_SG_CTRL, [Fl.SFE_SG_CTRL_mode, Fl.SFE_SG_CTRL_polarity, Fl.SFE_SG_CTRL_base, Fl.SFE_SG_CTRL_line, Fl.SFE_SG_CTRL_check, Fl.SFE_SG_CTRL_stream]⟩,
   ⟨R.SFE_SG_PERIOD, [Fl.SFE_SG_PERIOD_ns]⟩,
   ⟨R.SFE_SG_PFRAC, [Fl.SFE_SG_PFRAC_frac]⟩,
   ⟨R.SFE_SG_START_LO, [Fl.SFE_SG_START_LO_time]⟩,
   ⟨R.SFE_SG_START_HI, [Fl.SFE_SG_START_HI_time]⟩,
   ⟨R.SFE_SG_WIDTH, [Fl.SFE_SG_WIDTH_ns]⟩,
   ⟨R.SFE_SG_LAT, [Fl.SFE_SG_LAT_ns]⟩,
   ⟨R.SFE_SG_TOL, [Fl.SFE_SG_TOL_ns]⟩,
   ⟨R.SFE_SG_CNT, [Fl.SFE_SG_CNT_missed, Fl.SFE_SG_CNT_late]⟩,
   ⟨R.SFE_C_STAT, [Fl.SFE_C_STAT_hs, Fl.SFE_C_STAT_ecc_fail, Fl.SFE_C_STAT_crc_fail]⟩,
   ⟨R.SFE_C_CNT, [Fl.SFE_C_CNT_ecc_fixed, Fl.SFE_C_CNT_dropped]⟩]
def Tb.SFE : List RegRow := Tb.SFE0 ++ Tb.SFE1

/-! ### RCT -/

def R.RCT_STAGE : Reg := ⟨0x200000, [(9, 0x10000)], 0, [], true⟩
def Fl.RCT_STAGE_bank : Fld := ⟨R.RCT_STAGE, 16, 16, .rws, .any⟩
def Fl.RCT_STAGE_cfa : Fld := ⟨R.RCT_STAGE, 15, 14, .rws, .le 2⟩
def Fl.RCT_STAGE_xt_en : Fld := ⟨R.RCT_STAGE, 11, 11, .rws, .any⟩
def Fl.RCT_STAGE_static_en : Fld := ⟨R.RCT_STAGE, 10, 10, .rws, .any⟩
def Fl.RCT_STAGE_dyn : Fld := ⟨R.RCT_STAGE, 9, 8, .rws, .le 2⟩
def Fl.RCT_STAGE_ff_en : Fld := ⟨R.RCT_STAGE, 7, 7, .rws, .any⟩
def Fl.RCT_STAGE_dark_en : Fld := ⟨R.RCT_STAGE, 6, 6, .rws, .any⟩
def Fl.RCT_STAGE_ob : Fld := ⟨R.RCT_STAGE, 5, 4, .rws, .any⟩
def Fl.RCT_STAGE_merge : Fld := ⟨R.RCT_STAGE, 3, 2, .rws, .le 2⟩
def Fl.RCT_STAGE_lin : Fld := ⟨R.RCT_STAGE, 0, 0, .rws, .any⟩
def R.RCT_MERGE : Reg := ⟨0x200004, [(9, 0x10000)], 0, [], true⟩
def Fl.RCT_MERGE_mthr : Fld := ⟨R.RCT_MERGE, 7, 0, .rws, .any⟩
def R.RCT_OB : Reg := ⟨0x200008, [(9, 0x10000)], 0, [], true⟩
def Fl.RCT_OB_row_skip : Fld := ⟨R.RCT_OB, 12, 8, .rws, .any⟩
def Fl.RCT_OB_col_skip : Fld := ⟨R.RCT_OB, 4, 0, .rws, .any⟩
def R.RCT_DPC : Reg := ⟨0x20000c, [(9, 0x10000)], 0x40, [], true⟩
def Fl.RCT_DPC_dthr : Fld := ⟨R.RCT_DPC, 7, 0, .rws, .any⟩
def R.RCT_PITCH : Reg := ⟨0x200010, [(9, 0x10000)], 0, [], true⟩
def Fl.RCT_PITCH_pitch : Fld := ⟨R.RCT_PITCH, 19, 0, .rws, .mult 64⟩
def R.RCT_FLAT_LO : Reg := ⟨0x200014, [(9, 0x10000)], 0, [], true⟩
def Fl.RCT_FLAT_LO_addr : Fld := ⟨R.RCT_FLAT_LO, 31, 6, .rws, .any⟩
def R.RCT_FLAT_HI : Reg := ⟨0x200018, [(9, 0x10000)], 0, [], true⟩
def Fl.RCT_FLAT_HI_addr : Fld := ⟨R.RCT_FLAT_HI, 31, 0, .rws, .any⟩
def R.RCT_DEF_LO : Reg := ⟨0x20001c, [(9, 0x10000)], 0, [], true⟩
def Fl.RCT_DEF_LO_addr : Fld := ⟨R.RCT_DEF_LO, 31, 6, .rws, .any⟩
def R.RCT_DEF_HI : Reg := ⟨0x200020, [(9, 0x10000)], 0, [], true⟩
def Fl.RCT_DEF_HI_addr : Fld := ⟨R.RCT_DEF_HI, 31, 0, .rws, .any⟩
def R.RCT_DEF_COUNT : Reg := ⟨0x200024, [(9, 0x10000)], 0, [], true⟩
def Fl.RCT_DEF_COUNT_entries : Fld := ⟨R.RCT_DEF_COUNT, 23, 0, .rws, .any⟩
def R.RCT_TSRC : Reg := ⟨0x200030, [(9, 0x10000)], 0, [], true⟩
def Fl.RCT_TSRC_src : Fld := ⟨R.RCT_TSRC, 31, 31, .rws, .any⟩
def Fl.RCT_TSRC_big : Fld := ⟨R.RCT_TSRC, 30, 30, .rws, .any⟩
def Fl.RCT_TSRC_offset : Fld := ⟨R.RCT_TSRC, 15, 0, .rws, .any⟩
def R.RCT_TVAL : Reg := ⟨0x200034, [(9, 0x10000)], 0, [], true⟩
def Fl.RCT_TVAL_value : Fld := ⟨R.RCT_TVAL, 31, 0, .rws, .finite⟩
def R.RCT_TOFF : Reg := ⟨0x200038, [(9, 0x10000)], 0, [], true⟩
def Fl.RCT_TOFF_value : Fld := ⟨R.RCT_TOFF, 31, 0, .rws, .finite⟩
def R.RCT_TREF : Reg := ⟨0x20003c, [(9, 0x10000)], 0, [], true⟩
def Fl.RCT_TREF_value : Fld := ⟨R.RCT_TREF, 31, 0, .rws, .finite⟩
def R.RCT_TSCALE : Reg := ⟨0x200040, [(9, 0x10000)], 0x3f800000, [], true⟩
def Fl.RCT_TSCALE_value : Fld := ⟨R.RCT_TSCALE, 31, 0, .rws, .finite⟩
def R.RCT_TDBL : Reg := ⟨0x200044, [(9, 0x10000)], 0x40c00000, [], true⟩
def Fl.RCT_TDBL_value : Fld := ⟨R.RCT_TDBL, 31, 0, .rws, .posFinite⟩
def R.RCT_EXP_PED : Reg := ⟨0x200100, [(9, 0x10000), (4, 0x40)], 0, [], true⟩
def Fl.RCT_EXP_PED_value : Fld := ⟨R.RCT_EXP_PED, 31, 0, .rws, .finite⟩
def R.RCT_EXP_K : Reg := ⟨0x200104, [(9, 0x10000), (4, 0x40)], 0x3f800000, [], true⟩
def Fl.RCT_EXP_K_value : Fld := ⟨R.RCT_EXP_K, 31, 0, .rws, .posFinite⟩
def R.RCT_EXP_NMG : Reg := ⟨0x20010c, [(9, 0x10000), (4, 0x40)], 0x3f800000, [], true⟩
def Fl.RCT_EXP_NMG_value : Fld := ⟨R.RCT_EXP_NMG, 31, 0, .rws, .posFinite⟩
def R.RCT_EXP_NMSR : Reg := ⟨0x200110, [(9, 0x10000), (4, 0x40)], 0x3f800000, [], true⟩
def Fl.RCT_EXP_NMSR_value : Fld := ⟨R.RCT_EXP_NMSR, 31, 0, .rws, .posFinite⟩
def R.RCT_EXP_TRATIO : Reg := ⟨0x200114, [(9, 0x10000), (4, 0x40)], 0x3f800000, [], true⟩
def Fl.RCT_EXP_TRATIO_value : Fld := ⟨R.RCT_EXP_TRATIO, 31, 0, .rws, .nonnegFinite⟩
def R.RCT_EXP_CLIP : Reg := ⟨0x200108, [(9, 0x10000), (4, 0x40)], 0xffffff, [], true⟩
def Fl.RCT_EXP_CLIP_clip : Fld := ⟨R.RCT_EXP_CLIP, 23, 0, .rws, .any⟩
def R.RCT_EXP_DARK_LO : Reg := ⟨0x200118, [(9, 0x10000), (4, 0x40)], 0, [], true⟩
def Fl.RCT_EXP_DARK_LO_addr : Fld := ⟨R.RCT_EXP_DARK_LO, 31, 6, .rws, .any⟩
def R.RCT_EXP_DARK_HI : Reg := ⟨0x20011c, [(9, 0x10000), (4, 0x40)], 0, [], true⟩
def Fl.RCT_EXP_DARK_HI_addr : Fld := ⟨R.RCT_EXP_DARK_HI, 31, 0, .rws, .any⟩
def R.RCT_EXP_DSHIFT : Reg := ⟨0x200120, [(9, 0x10000), (4, 0x40)], 4, [], true⟩
def Fl.RCT_EXP_DSHIFT_dshift : Fld := ⟨R.RCT_EXP_DSHIFT, 3, 0, .rws, .le 12⟩
def R.RCT_STATUS : Reg := ⟨0x200200, [(9, 0x10000)], 0, [], false⟩
def Fl.RCT_STATUS_defmap_order : Fld := ⟨R.RCT_STATUS, 3, 3, .w1c, .any⟩
def Fl.RCT_STATUS_range : Fld := ⟨R.RCT_STATUS, 2, 2, .w1c, .any⟩
def Fl.RCT_STATUS_poison : Fld := ⟨R.RCT_STATUS, 1, 1, .w1c, .any⟩
def Fl.RCT_STATUS_busy : Fld := ⟨R.RCT_STATUS, 0, 0, .st, .any⟩
def R.RCT_LASTFID_LO : Reg := ⟨0x200204, [(9, 0x10000)], 0, [], false⟩
def Fl.RCT_LASTFID_LO_frame_id : Fld := ⟨R.RCT_LASTFID_LO, 31, 0, .ro, .any⟩
def R.RCT_LASTFID_HI : Reg := ⟨0x200208, [(9, 0x10000)], 0, [], false⟩
def Fl.RCT_LASTFID_HI_frame_id : Fld := ⟨R.RCT_LASTFID_HI, 31, 0, .ro, .any⟩

def Tb.RCT0 : List RegRow :=
  [⟨R.RCT_STAGE, [Fl.RCT_STAGE_bank, Fl.RCT_STAGE_cfa, Fl.RCT_STAGE_xt_en, Fl.RCT_STAGE_static_en, Fl.RCT_STAGE_dyn, Fl.RCT_STAGE_ff_en, Fl.RCT_STAGE_dark_en, Fl.RCT_STAGE_ob, Fl.RCT_STAGE_merge, Fl.RCT_STAGE_lin]⟩,
   ⟨R.RCT_MERGE, [Fl.RCT_MERGE_mthr]⟩,
   ⟨R.RCT_OB, [Fl.RCT_OB_row_skip, Fl.RCT_OB_col_skip]⟩,
   ⟨R.RCT_DPC, [Fl.RCT_DPC_dthr]⟩,
   ⟨R.RCT_PITCH, [Fl.RCT_PITCH_pitch]⟩,
   ⟨R.RCT_FLAT_LO, [Fl.RCT_FLAT_LO_addr]⟩,
   ⟨R.RCT_FLAT_HI, [Fl.RCT_FLAT_HI_addr]⟩,
   ⟨R.RCT_DEF_LO, [Fl.RCT_DEF_LO_addr]⟩,
   ⟨R.RCT_DEF_HI, [Fl.RCT_DEF_HI_addr]⟩,
   ⟨R.RCT_DEF_COUNT, [Fl.RCT_DEF_COUNT_entries]⟩,
   ⟨R.RCT_TSRC, [Fl.RCT_TSRC_src, Fl.RCT_TSRC_big, Fl.RCT_TSRC_offset]⟩,
   ⟨R.RCT_TVAL, [Fl.RCT_TVAL_value]⟩,
   ⟨R.RCT_TOFF, [Fl.RCT_TOFF_value]⟩,
   ⟨R.RCT_TREF, [Fl.RCT_TREF_value]⟩,
   ⟨R.RCT_TSCALE, [Fl.RCT_TSCALE_value]⟩,
   ⟨R.RCT_TDBL, [Fl.RCT_TDBL_value]⟩,
   ⟨R.RCT_EXP_PED, [Fl.RCT_EXP_PED_value]⟩,
   ⟨R.RCT_EXP_K, [Fl.RCT_EXP_K_value]⟩,
   ⟨R.RCT_EXP_NMG, [Fl.RCT_EXP_NMG_value]⟩,
   ⟨R.RCT_EXP_NMSR, [Fl.RCT_EXP_NMSR_value]⟩]
def Tb.RCT1 : List RegRow :=
  [⟨R.RCT_EXP_TRATIO, [Fl.RCT_EXP_TRATIO_value]⟩,
   ⟨R.RCT_EXP_CLIP, [Fl.RCT_EXP_CLIP_clip]⟩,
   ⟨R.RCT_EXP_DARK_LO, [Fl.RCT_EXP_DARK_LO_addr]⟩,
   ⟨R.RCT_EXP_DARK_HI, [Fl.RCT_EXP_DARK_HI_addr]⟩,
   ⟨R.RCT_EXP_DSHIFT, [Fl.RCT_EXP_DSHIFT_dshift]⟩,
   ⟨R.RCT_STATUS, [Fl.RCT_STATUS_defmap_order, Fl.RCT_STATUS_range, Fl.RCT_STATUS_poison, Fl.RCT_STATUS_busy]⟩,
   ⟨R.RCT_LASTFID_LO, [Fl.RCT_LASTFID_LO_frame_id]⟩,
   ⟨R.RCT_LASTFID_HI, [Fl.RCT_LASTFID_HI_frame_id]⟩]
def Tb.RCT : List RegRow := Tb.RCT0 ++ Tb.RCT1

/-! ### STS -/

def R.STS_CTRL : Reg := ⟨0x300000, [(8, 0x100)], 0, [], false⟩
def Fl.STS_CTRL_decim : Fld := ⟨R.STS_CTRL, 31, 24, .rws, .any⟩
def Fl.STS_CTRL_ev_en : Fld := ⟨R.STS_CTRL, 16, 16, .rw, .any⟩
def Fl.STS_CTRL_shift : Fld := ⟨R.STS_CTRL, 12, 8, .rws, .le 24⟩
def Fl.STS_CTRL_lin : Fld := ⟨R.STS_CTRL, 4, 4, .rws, .any⟩
def Fl.STS_CTRL_sum_en : Fld := ⟨R.STS_CTRL, 3, 3, .rws, .any⟩
def Fl.STS_CTRL_sharp_en : Fld := ⟨R.STS_CTRL, 2, 2, .rws, .any⟩
def Fl.STS_CTRL_zone_en : Fld := ⟨R.STS_CTRL, 1, 1, .rws, .any⟩
def Fl.STS_CTRL_hist_en : Fld := ⟨R.STS_CTRL, 0, 0, .rws, .any⟩
def R.STS_CHMAP : Reg := ⟨0x300004, [(8, 0x100)], 0, [], false⟩
def Fl.STS_CHMAP_map : Fld := ⟨R.STS_CHMAP, 31, 0, .rws, .any⟩
def R.STS_GRID : Reg := ⟨0x300008, [(8, 0x100)], 0, [], false⟩
def Fl.STS_GRID_core : Fld := ⟨R.STS_GRID, 31, 24, .rws, .any⟩
def Fl.STS_GRID_sharp_ch : Fld := ⟨R.STS_GRID, 17, 16, .rws, .any⟩
def Fl.STS_GRID_zy_m1 : Fld := ⟨R.STS_GRID, 13, 8, .rws, .le 47⟩
def Fl.STS_GRID_zx_m1 : Fld := ⟨R.STS_GRID, 5, 0, .rws, .any⟩
def R.STS_RING_LO : Reg := ⟨0x300010, [(8, 0x100)], 0, [], false⟩
def Fl.STS_RING_LO_addr : Fld := ⟨R.STS_RING_LO, 31, 12, .rw, .any⟩
def R.STS_RING_HI : Reg := ⟨0x300014, [(8, 0x100)], 0, [], false⟩
def Fl.STS_RING_HI_addr : Fld := ⟨R.STS_RING_HI, 31, 0, .rw, .any⟩
def R.STS_RING_SIZE : Reg := ⟨0x300018, [(8, 0x100)], 0, [], false⟩
def Fl.STS_RING_SIZE_pages : Fld := ⟨R.STS_RING_SIZE, 23, 0, .rw, .any⟩
def R.STS_WR : Reg := ⟨0x30001c, [(8, 0x100)], 0, [], false⟩
def Fl.STS_WR_bytes : Fld := ⟨R.STS_WR, 31, 0, .ro, .any⟩
def R.STS_RD : Reg := ⟨0x300020, [(8, 0x100)], 0, [], false⟩
def Fl.STS_RD_bytes : Fld := ⟨R.STS_RD, 31, 0, .rw, .any⟩
def R.STS_LOSS : Reg := ⟨0x300024, [(8, 0x100)], 0, [], false⟩
def Fl.STS_LOSS_count : Fld := ⟨R.STS_LOSS, 31, 0, .cntSat, .any⟩
def R.STS_LASTFID_LO : Reg := ⟨0x300028, [(8, 0x100)], 0, [], false⟩
def Fl.STS_LASTFID_LO_frame_id : Fld := ⟨R.STS_LASTFID_LO, 31, 0, .ro, .any⟩
def R.STS_LASTFID_HI : Reg := ⟨0x30002c, [(8, 0x100)], 0, [], false⟩
def Fl.STS_LASTFID_HI_frame_id : Fld := ⟨R.STS_LASTFID_HI, 31, 0, .ro, .any⟩
def R.STS_STAT : Reg := ⟨0x300030, [(8, 0x100)], 0, [], false⟩
def Fl.STS_STAT_range : Fld := ⟨R.STS_STAT, 0, 0, .w1c, .any⟩

def Tb.STS : List RegRow :=
  [⟨R.STS_CTRL, [Fl.STS_CTRL_decim, Fl.STS_CTRL_ev_en, Fl.STS_CTRL_shift, Fl.STS_CTRL_lin, Fl.STS_CTRL_sum_en, Fl.STS_CTRL_sharp_en, Fl.STS_CTRL_zone_en, Fl.STS_CTRL_hist_en]⟩,
   ⟨R.STS_CHMAP, [Fl.STS_CHMAP_map]⟩,
   ⟨R.STS_GRID, [Fl.STS_GRID_core, Fl.STS_GRID_sharp_ch, Fl.STS_GRID_zy_m1, Fl.STS_GRID_zx_m1]⟩,
   ⟨R.STS_RING_LO, [Fl.STS_RING_LO_addr]⟩,
   ⟨R.STS_RING_HI, [Fl.STS_RING_HI_addr]⟩,
   ⟨R.STS_RING_SIZE, [Fl.STS_RING_SIZE_pages]⟩,
   ⟨R.STS_WR, [Fl.STS_WR_bytes]⟩,
   ⟨R.STS_RD, [Fl.STS_RD_bytes]⟩,
   ⟨R.STS_LOSS, [Fl.STS_LOSS_count]⟩,
   ⟨R.STS_LASTFID_LO, [Fl.STS_LASTFID_LO_frame_id]⟩,
   ⟨R.STS_LASTFID_HI, [Fl.STS_LASTFID_HI_frame_id]⟩,
   ⟨R.STS_STAT, [Fl.STS_STAT_range]⟩]

/-! ### RCU -/

def R.RCU_MODE : Reg := ⟨0x400000, [(9, 0x10000)], 0x102000, [], true⟩
def Fl.RCU_MODE_qmin : Fld := ⟨R.RCU_MODE, 23, 16, .rws, .range 1 128⟩
def Fl.RCU_MODE_q : Fld := ⟨R.RCU_MODE, 15, 8, .rws, .range 1 128⟩
def Fl.RCU_MODE_mode : Fld := ⟨R.RCU_MODE, 1, 0, .rws, .le 2⟩
def R.RCU_RATE : Reg := ⟨0x400004, [(9, 0x10000)], 0x30, [], true⟩
def Fl.RCU_RATE_bps16 : Fld := ⟨R.RCU_RATE, 9, 0, .rws, .any⟩
def R.RCU_STATUS : Reg := ⟨0x400100, [(9, 0x10000)], 0, [], false⟩
def Fl.RCU_STATUS_busy : Fld := ⟨R.RCU_STATUS, 0, 0, .st, .any⟩
def R.RCU_LASTFID_LO : Reg := ⟨0x400104, [(9, 0x10000)], 0, [], false⟩
def Fl.RCU_LASTFID_LO_frame_id : Fld := ⟨R.RCU_LASTFID_LO, 31, 0, .ro, .any⟩
def R.RCU_LASTFID_HI : Reg := ⟨0x400108, [(9, 0x10000)], 0, [], false⟩
def Fl.RCU_LASTFID_HI_frame_id : Fld := ⟨R.RCU_LASTFID_HI, 31, 0, .ro, .any⟩
def R.RCU_LASTCERT : Reg := ⟨0x40010c, [(9, 0x10000)], 0, [], false⟩
def Fl.RCU_LASTCERT_cert : Fld := ⟨R.RCU_LASTCERT, 15, 0, .ro, .any⟩
def R.RCU_LASTBYTES : Reg := ⟨0x400110, [(9, 0x10000)], 0, [], false⟩
def Fl.RCU_LASTBYTES_bytes : Fld := ⟨R.RCU_LASTBYTES, 31, 0, .ro, .any⟩
def R.RCU_ESC : Reg := ⟨0x400114, [(9, 0x10000)], 0, [], false⟩
def Fl.RCU_ESC_count : Fld := ⟨R.RCU_ESC, 31, 0, .cntSat, .any⟩
def R.RCU_MEAN : Reg := ⟨0x400118, [(9, 0x10000)], 0, [], false⟩
def Fl.RCU_MEAN_count : Fld := ⟨R.RCU_MEAN, 31, 0, .cntSat, .any⟩

def Tb.RCU : List RegRow :=
  [⟨R.RCU_MODE, [Fl.RCU_MODE_qmin, Fl.RCU_MODE_q, Fl.RCU_MODE_mode]⟩,
   ⟨R.RCU_RATE, [Fl.RCU_RATE_bps16]⟩,
   ⟨R.RCU_STATUS, [Fl.RCU_STATUS_busy]⟩,
   ⟨R.RCU_LASTFID_LO, [Fl.RCU_LASTFID_LO_frame_id]⟩,
   ⟨R.RCU_LASTFID_HI, [Fl.RCU_LASTFID_HI_frame_id]⟩,
   ⟨R.RCU_LASTCERT, [Fl.RCU_LASTCERT_cert]⟩,
   ⟨R.RCU_LASTBYTES, [Fl.RCU_LASTBYTES_bytes]⟩,
   ⟨R.RCU_ESC, [Fl.RCU_ESC_count]⟩,
   ⟨R.RCU_MEAN, [Fl.RCU_MEAN_count]⟩]

/-! ### CAP -/

def R.CAP_MODE : Reg := ⟨0x500000, [(8, 0x1000)], 0x500, [], false⟩
def Fl.CAP_MODE_retrig : Fld := ⟨R.CAP_MODE, 11, 11, .rws, .any⟩
def Fl.CAP_MODE_auto_drain : Fld := ⟨R.CAP_MODE, 10, 10, .rws, .any⟩
def Fl.CAP_MODE_review : Fld := ⟨R.CAP_MODE, 9, 9, .rws, .any⟩
def Fl.CAP_MODE_live_dev : Fld := ⟨R.CAP_MODE, 8, 8, .rws, .any⟩
def Fl.CAP_MODE_rec_src : Fld := ⟨R.CAP_MODE, 5, 4, .rws, .le 2⟩
def Fl.CAP_MODE_mode : Fld := ⟨R.CAP_MODE, 1, 0, .rws, .any⟩
def R.CAP_CYCLE : Reg := ⟨0x500004, [(8, 0x1000)], 0, [], false⟩
def Fl.CAP_CYCLE_phase : Fld := ⟨R.CAP_CYCLE, 23, 16, .rws, .any⟩
def Fl.CAP_CYCLE_k_m1 : Fld := ⟨R.CAP_CYCLE, 15, 8, .rws, .any⟩
def Fl.CAP_CYCLE_n_m1 : Fld := ⟨R.CAP_CYCLE, 7, 0, .rws, .any⟩
def R.CAP_GAIN : Reg := ⟨0x500008, [(8, 0x1000)], 0x3f800000, [], false⟩
def Fl.CAP_GAIN_value : Fld := ⟨R.CAP_GAIN, 31, 0, .rws, .posFinite⟩
def R.CAP_ACC_LO : Reg := ⟨0x50000c, [(8, 0x1000)], 0, [], false⟩
def Fl.CAP_ACC_LO_addr : Fld := ⟨R.CAP_ACC_LO, 31, 12, .rws, .any⟩
def R.CAP_ACC_HI : Reg := ⟨0x500010, [(8, 0x1000)], 0, [], false⟩
def Fl.CAP_ACC_HI_addr : Fld := ⟨R.CAP_ACC_HI, 31, 0, .rws, .any⟩
def R.CAP_DEPTH : Reg := ⟨0x500014, [(8, 0x1000)], 0, [], false⟩
def Fl.CAP_DEPTH_count : Fld := ⟨R.CAP_DEPTH, 23, 0, .rws, .capDepth⟩
def R.CAP_PRE : Reg := ⟨0x500018, [(8, 0x1000)], 0, [], false⟩
def Fl.CAP_PRE_count : Fld := ⟨R.CAP_PRE, 23, 0, .rws, .any⟩
def R.CAP_POST : Reg := ⟨0x50001c, [(8, 0x1000)], 0, [], false⟩
def Fl.CAP_POST_count : Fld := ⟨R.CAP_POST, 23, 0, .rws, .any⟩
def R.CAP_TRIG : Reg := ⟨0x500020, [(8, 0x1000)], 0, [], false⟩
def Fl.CAP_TRIG_edge : Fld := ⟨R.CAP_TRIG, 17, 16, .rws, .le 2⟩
def Fl.CAP_TRIG_line : Fld := ⟨R.CAP_TRIG, 13, 8, .rws, .le 47⟩
def Fl.CAP_TRIG_src : Fld := ⟨R.CAP_TRIG, 5, 4, .rws, .le 2⟩
def Fl.CAP_TRIG_go : Fld := ⟨R.CAP_TRIG, 0, 0, .go, .any⟩
def R.CAP_TADJ : Reg := ⟨0x500024, [(8, 0x1000)], 0, [], false⟩
def Fl.CAP_TADJ_ns : Fld := ⟨R.CAP_TADJ, 31, 0, .rws, .any⟩
def R.CAP_TTIME_LO : Reg := ⟨0x500028, [(8, 0x1000)], 0, [], false⟩
def Fl.CAP_TTIME_LO_time : Fld := ⟨R.CAP_TTIME_LO, 31, 0, .rws, .any⟩
def R.CAP_TTIME_HI : Reg := ⟨0x50002c, [(8, 0x1000)], 0, [], false⟩
def Fl.CAP_TTIME_HI_time : Fld := ⟨R.CAP_TTIME_HI, 31, 0, .rws, .any⟩
def R.CAP_DRAIN : Reg := ⟨0x500030, [(8, 0x1000)], 0, [], false⟩
def Fl.CAP_DRAIN_seg : Fld := ⟨R.CAP_DRAIN, 11, 8, .rw, .any⟩
def Fl.CAP_DRAIN_go : Fld := ⟨R.CAP_DRAIN, 0, 0, .go, .any⟩
def R.CAP_SEGREL : Reg := ⟨0x500034, [(8, 0x1000)], 0, [], false⟩
def Fl.CAP_SEGREL_release : Fld := ⟨R.CAP_SEGREL, 15, 0, .w1s, .any⟩
def R.CAP_STAT : Reg := ⟨0x500038, [(8, 0x1000)], 0, [], false⟩
def Fl.CAP_STAT_acc_range : Fld := ⟨R.CAP_STAT, 26, 26, .w1c, .any⟩
def Fl.CAP_STAT_trig_refused : Fld := ⟨R.CAP_STAT, 25, 25, .w1c, .any⟩
def Fl.CAP_STAT_depth_refused : Fld := ⟨R.CAP_STAT, 24, 24, .w1c, .any⟩
def Fl.CAP_STAT_draining : Fld := ⟨R.CAP_STAT, 17, 17, .st, .any⟩
def Fl.CAP_STAT_open : Fld := ⟨R.CAP_STAT, 16, 16, .st, .any⟩
def Fl.CAP_STAT_sealed : Fld := ⟨R.CAP_STAT, 15, 0, .st, .any⟩
def R.CAP_CNT : Reg := ⟨0x50003c, [(8, 0x1000)], 0, [], false⟩
def Fl.CAP_CNT_refused : Fld := ⟨R.CAP_CNT, 31, 16, .cntSat, .any⟩
def Fl.CAP_CNT_accepted : Fld := ⟨R.CAP_CNT, 15, 0, .cntSat, .any⟩
def R.CAP_SEG_FIRST_LO : Reg := ⟨0x500100, [(8, 0x1000), (0x10, 0x10)], 0, [], false⟩
def Fl.CAP_SEG_FIRST_LO_frame_id : Fld := ⟨R.CAP_SEG_FIRST_LO, 31, 0, .st, .any⟩
def R.CAP_SEG_FIRST_HI : Reg := ⟨0x500104, [(8, 0x1000), (0x10, 0x10)], 0, [], false⟩
def Fl.CAP_SEG_FIRST_HI_frame_id : Fld := ⟨R.CAP_SEG_FIRST_HI, 31, 0, .st, .any⟩
def R.CAP_SEG_INFO : Reg := ⟨0x500108, [(8, 0x1000), (0x10, 0x10)], 0, [], false⟩
def Fl.CAP_SEG_INFO_short : Fld := ⟨R.CAP_SEG_INFO, 28, 28, .st, .any⟩
def Fl.CAP_SEG_INFO_state : Fld := ⟨R.CAP_SEG_INFO, 27, 24, .st, .any⟩
def Fl.CAP_SEG_INFO_count : Fld := ⟨R.CAP_SEG_INFO, 23, 0, .st, .any⟩
def R.CAP_SEG_PRE : Reg := ⟨0x50010c, [(8, 0x1000), (0x10, 0x10)], 0, [], false⟩
def Fl.CAP_SEG_PRE_pre : Fld := ⟨R.CAP_SEG_PRE, 23, 0, .st, .any⟩

def Tb.CAP : List RegRow :=
  [⟨R.CAP_MODE, [Fl.CAP_MODE_retrig, Fl.CAP_MODE_auto_drain, Fl.CAP_MODE_review, Fl.CAP_MODE_live_dev, Fl.CAP_MODE_rec_src, Fl.CAP_MODE_mode]⟩,
   ⟨R.CAP_CYCLE, [Fl.CAP_CYCLE_phase, Fl.CAP_CYCLE_k_m1, Fl.CAP_CYCLE_n_m1]⟩,
   ⟨R.CAP_GAIN, [Fl.CAP_GAIN_value]⟩,
   ⟨R.CAP_ACC_LO, [Fl.CAP_ACC_LO_addr]⟩,
   ⟨R.CAP_ACC_HI, [Fl.CAP_ACC_HI_addr]⟩,
   ⟨R.CAP_DEPTH, [Fl.CAP_DEPTH_count]⟩,
   ⟨R.CAP_PRE, [Fl.CAP_PRE_count]⟩,
   ⟨R.CAP_POST, [Fl.CAP_POST_count]⟩,
   ⟨R.CAP_TRIG, [Fl.CAP_TRIG_edge, Fl.CAP_TRIG_line, Fl.CAP_TRIG_src, Fl.CAP_TRIG_go]⟩,
   ⟨R.CAP_TADJ, [Fl.CAP_TADJ_ns]⟩,
   ⟨R.CAP_TTIME_LO, [Fl.CAP_TTIME_LO_time]⟩,
   ⟨R.CAP_TTIME_HI, [Fl.CAP_TTIME_HI_time]⟩,
   ⟨R.CAP_DRAIN, [Fl.CAP_DRAIN_seg, Fl.CAP_DRAIN_go]⟩,
   ⟨R.CAP_SEGREL, [Fl.CAP_SEGREL_release]⟩,
   ⟨R.CAP_STAT, [Fl.CAP_STAT_acc_range, Fl.CAP_STAT_trig_refused, Fl.CAP_STAT_depth_refused, Fl.CAP_STAT_draining, Fl.CAP_STAT_open, Fl.CAP_STAT_sealed]⟩,
   ⟨R.CAP_CNT, [Fl.CAP_CNT_refused, Fl.CAP_CNT_accepted]⟩,
   ⟨R.CAP_SEG_FIRST_LO, [Fl.CAP_SEG_FIRST_LO_frame_id]⟩,
   ⟨R.CAP_SEG_FIRST_HI, [Fl.CAP_SEG_FIRST_HI_frame_id]⟩,
   ⟨R.CAP_SEG_INFO, [Fl.CAP_SEG_INFO_short, Fl.CAP_SEG_INFO_state, Fl.CAP_SEG_INFO_count]⟩,
   ⟨R.CAP_SEG_PRE, [Fl.CAP_SEG_PRE_pre]⟩]

end Sys2Proof.Machine
end

