-- ==== Sys2Proof/Machine/RegsHost.lean ====
section
/-! DEFINITION. The registers of DEV, ORD, EVQ, CMDQ, BULK and DRV, written from the register tables of the
chapters 02, 03 of spec/: for each register its BAR0 offset (R6), its instances, its reset word (R7) and its fields
(bit range, R4; type, R32; permitted values, R9). -/

namespace Sys2Proof.Machine

/-! ### DEV -/

def R.DEV_ID : Reg := ⟨0, [], 0x9040100, [], false⟩
def Fl.DEV_ID_part_id : Fld := ⟨R.DEV_ID, 31, 16, .ro, .any⟩
def Fl.DEV_ID_major_rev : Fld := ⟨R.DEV_ID, 15, 8, .ro, .any⟩
def Fl.DEV_ID_minor_rev : Fld := ⟨R.DEV_ID, 7, 0, .ro, .any⟩
def R.DEV_SERIAL_LO : Reg := ⟨4, [], 0, [], false⟩
def Fl.DEV_SERIAL_LO_serial : Fld := ⟨R.DEV_SERIAL_LO, 31, 0, .ro, .any⟩
def R.DEV_SERIAL_HI : Reg := ⟨8, [], 0, [], false⟩
def Fl.DEV_SERIAL_HI_serial : Fld := ⟨R.DEV_SERIAL_HI, 31, 0, .ro, .any⟩
def R.DEV_STRAP : Reg := ⟨0xc, [], 0, [], false⟩
def Fl.DEV_STRAP_mediahold : Fld := ⟨R.DEV_STRAP, 15, 15, .ro, .any⟩
def Fl.DEV_STRAP_safe : Fld := ⟨R.DEV_STRAP, 14, 14, .ro, .any⟩
def Fl.DEV_STRAP_skyrole : Fld := ⟨R.DEV_STRAP, 13, 12, .ro, .any⟩
def Fl.DEV_STRAP_smbadr : Fld := ⟨R.DEV_STRAP, 10, 8, .ro, .any⟩
def Fl.DEV_STRAP_hostw : Fld := ⟨R.DEV_STRAP, 5, 4, .ro, .any⟩
def Fl.DEV_STRAP_bootsel : Fld := ⟨R.DEV_STRAP, 2, 0, .ro, .any⟩
def R.DEV_STATUS : Reg := ⟨0x10, [], 0, [], false⟩
def Fl.DEV_STATUS_mirror_valid : Fld := ⟨R.DEV_STATUS, 5, 5, .st, .any⟩
def Fl.DEV_STATUS_off_access : Fld := ⟨R.DEV_STATUS, 4, 4, .w1c, .any⟩
def Fl.DEV_STATUS_pair : Fld := ⟨R.DEV_STATUS, 3, 3, .st, .any⟩
def Fl.DEV_STATUS_slot : Fld := ⟨R.DEV_STATUS, 2, 2, .st, .any⟩
def Fl.DEV_STATUS_safe : Fld := ⟨R.DEV_STATUS, 1, 1, .st, .any⟩
def Fl.DEV_STATUS_ready : Fld := ⟨R.DEV_STATUS, 0, 0, .st, .any⟩
def R.DEV_COMMIT : Reg := ⟨0x20, [], 0, [], false⟩
def Fl.DEV_COMMIT_ref_pipe : Fld := ⟨R.DEV_COMMIT, 10, 8, .rw, .any⟩
def Fl.DEV_COMMIT_cond : Fld := ⟨R.DEV_COMMIT, 5, 4, .rw, .le 2⟩
def Fl.DEV_COMMIT_go : Fld := ⟨R.DEV_COMMIT, 0, 0, .go, .any⟩
def R.DEV_COMMIT_FRAME_LO : Reg := ⟨0x24, [], 0, [], false⟩
def Fl.DEV_COMMIT_FRAME_LO_frame : Fld := ⟨R.DEV_COMMIT_FRAME_LO, 31, 0, .rw, .any⟩
def R.DEV_COMMIT_FRAME_HI : Reg := ⟨0x28, [], 0, [], false⟩
def Fl.DEV_COMMIT_FRAME_HI_frame : Fld := ⟨R.DEV_COMMIT_FRAME_HI, 31, 0, .rw, .any⟩
def R.DEV_COMMIT_TIME_LO : Reg := ⟨0x2c, [], 0, [], false⟩
def Fl.DEV_COMMIT_TIME_LO_time : Fld := ⟨R.DEV_COMMIT_TIME_LO, 31, 0, .rw, .any⟩
def R.DEV_COMMIT_TIME_HI : Reg := ⟨0x30, [], 0, [], false⟩
def Fl.DEV_COMMIT_TIME_HI_time : Fld := ⟨R.DEV_COMMIT_TIME_HI, 31, 0, .rw, .any⟩
def R.DEV_COMMIT_STAT : Reg := ⟨0x34, [], 0, [], false⟩
def Fl.DEV_COMMIT_STAT_late_count : Fld := ⟨R.DEV_COMMIT_STAT, 31, 16, .cntSat, .any⟩
def Fl.DEV_COMMIT_STAT_commit_late : Fld := ⟨R.DEV_COMMIT_STAT, 1, 1, .w1c, .any⟩
def Fl.DEV_COMMIT_STAT_pending : Fld := ⟨R.DEV_COMMIT_STAT, 0, 0, .st, .any⟩
def R.DEV_EPOCH_IN : Reg := ⟨0x40, [], 0, [], false⟩
def Fl.DEV_EPOCH_IN_epoch : Fld := ⟨R.DEV_EPOCH_IN, 31, 0, .ro, .any⟩
def R.DEV_EPOCH_OUT : Reg := ⟨0x44, [], 0, [], false⟩
def Fl.DEV_EPOCH_OUT_epoch : Fld := ⟨R.DEV_EPOCH_OUT, 31, 0, .ro, .any⟩
def R.DEV_SNAP : Reg := ⟨0x50, [], 0, [], false⟩
def Fl.DEV_SNAP_go : Fld := ⟨R.DEV_SNAP, 0, 0, .go, .any⟩
def R.DEV_SNAP_EPOCH : Reg := ⟨0x54, [], 0, [], false⟩
def Fl.DEV_SNAP_EPOCH_epoch : Fld := ⟨R.DEV_SNAP_EPOCH, 31, 0, .ro, .any⟩
def R.DEV_SNAP_TIME_LO : Reg := ⟨0x58, [], 0, [], false⟩
def Fl.DEV_SNAP_TIME_LO_time : Fld := ⟨R.DEV_SNAP_TIME_LO, 31, 0, .ro, .any⟩
def R.DEV_SNAP_TIME_HI : Reg := ⟨0x5c, [], 0, [], false⟩
def Fl.DEV_SNAP_TIME_HI_time : Fld := ⟨R.DEV_SNAP_TIME_HI, 31, 0, .ro, .any⟩
def R.DEV_SCRATCH : Reg := ⟨0xf0, [], 0, [], false⟩
def Fl.DEV_SCRATCH_value : Fld := ⟨R.DEV_SCRATCH, 31, 0, .rw, .any⟩

def Tb.DEV : List RegRow :=
  [⟨R.DEV_ID, [Fl.DEV_ID_part_id, Fl.DEV_ID_major_rev, Fl.DEV_ID_minor_rev]⟩,
   ⟨R.DEV_SERIAL_LO, [Fl.DEV_SERIAL_LO_serial]⟩,
   ⟨R.DEV_SERIAL_HI, [Fl.DEV_SERIAL_HI_serial]⟩,
   ⟨R.DEV_STRAP, [Fl.DEV_STRAP_mediahold, Fl.DEV_STRAP_safe, Fl.DEV_STRAP_skyrole, Fl.DEV_STRAP_smbadr, Fl.DEV_STRAP_hostw, Fl.DEV_STRAP_bootsel]⟩,
   ⟨R.DEV_STATUS, [Fl.DEV_STATUS_mirror_valid, Fl.DEV_STATUS_off_access, Fl.DEV_STATUS_pair, Fl.DEV_STATUS_slot, Fl.DEV_STATUS_safe, Fl.DEV_STATUS_ready]⟩,
   ⟨R.DEV_COMMIT, [Fl.DEV_COMMIT_ref_pipe, Fl.DEV_COMMIT_cond, Fl.DEV_COMMIT_go]⟩,
   ⟨R.DEV_COMMIT_FRAME_LO, [Fl.DEV_COMMIT_FRAME_LO_frame]⟩,
   ⟨R.DEV_COMMIT_FRAME_HI, [Fl.DEV_COMMIT_FRAME_HI_frame]⟩,
   ⟨R.DEV_COMMIT_TIME_LO, [Fl.DEV_COMMIT_TIME_LO_time]⟩,
   ⟨R.DEV_COMMIT_TIME_HI, [Fl.DEV_COMMIT_TIME_HI_time]⟩,
   ⟨R.DEV_COMMIT_STAT, [Fl.DEV_COMMIT_STAT_late_count, Fl.DEV_COMMIT_STAT_commit_late, Fl.DEV_COMMIT_STAT_pending]⟩,
   ⟨R.DEV_EPOCH_IN, [Fl.DEV_EPOCH_IN_epoch]⟩,
   ⟨R.DEV_EPOCH_OUT, [Fl.DEV_EPOCH_OUT_epoch]⟩,
   ⟨R.DEV_SNAP, [Fl.DEV_SNAP_go]⟩,
   ⟨R.DEV_SNAP_EPOCH, [Fl.DEV_SNAP_EPOCH_epoch]⟩,
   ⟨R.DEV_SNAP_TIME_LO, [Fl.DEV_SNAP_TIME_LO_time]⟩,
   ⟨R.DEV_SNAP_TIME_HI, [Fl.DEV_SNAP_TIME_HI_time]⟩,
   ⟨R.DEV_SCRATCH, [Fl.DEV_SCRATCH_value]⟩]

/-! ### ORD -/

def R.ORD_FENCE : Reg := ⟨0x10000, [], 0, [], false⟩
def Fl.ORD_FENCE_token : Fld := ⟨R.ORD_FENCE, 31, 0, .rw, .any⟩
def R.ORD_UPDRAFT_NORM : Reg := ⟨0x10010, [], 0x32, [], false⟩
def Fl.ORD_UPDRAFT_NORM_limit : Fld := ⟨R.ORD_UPDRAFT_NORM, 15, 0, .rw, .ge 1⟩
def R.ORD_UPDRAFT_BULK : Reg := ⟨0x10014, [], 0xc8, [], false⟩
def Fl.ORD_UPDRAFT_BULK_limit : Fld := ⟨R.ORD_UPDRAFT_BULK, 15, 0, .rw, .ge 1⟩
def R.ORD_PROMO_XW : Reg := ⟨0x10020, [], 0, [], false⟩
def Fl.ORD_PROMO_XW_count : Fld := ⟨R.ORD_PROMO_XW, 31, 0, .cnt, .any⟩
def R.ORD_PROMO_FAB : Reg := ⟨0x10024, [], 0, [], false⟩
def Fl.ORD_PROMO_FAB_count : Fld := ⟨R.ORD_PROMO_FAB, 31, 0, .cnt, .any⟩
def R.ORD_PROMO_HBM : Reg := ⟨0x10028, [], 0, [], false⟩
def Fl.ORD_PROMO_HBM_count : Fld := ⟨R.ORD_PROMO_HBM, 31, 0, .cnt, .any⟩
def R.ORD_PROMO_CMDQ : Reg := ⟨0x1002c, [], 0, [], false⟩
def Fl.ORD_PROMO_CMDQ_count : Fld := ⟨R.ORD_PROMO_CMDQ, 31, 0, .cnt, .any⟩
def R.ORD_PROMO_TRL : Reg := ⟨0x10030, [], 0, [], false⟩
def Fl.ORD_PROMO_TRL_count : Fld := ⟨R.ORD_PROMO_TRL, 31, 0, .cnt, .any⟩
def R.ORD_SEM_ACQ : Reg := ⟨0x10100, [(0x40, 8)], 0, [], false⟩
def Fl.ORD_SEM_ACQ_granted : Fld := ⟨R.ORD_SEM_ACQ, 31, 31, .ro, .any⟩
def Fl.ORD_SEM_ACQ_orphan : Fld := ⟨R.ORD_SEM_ACQ, 30, 30, .ro, .any⟩
def Fl.ORD_SEM_ACQ_owner : Fld := ⟨R.ORD_SEM_ACQ, 7, 0, .ro, .any⟩
def R.ORD_SEM_CTL : Reg := ⟨0x10104, [(0x40, 8)], 0, [], false⟩
def Fl.ORD_SEM_CTL_held : Fld := ⟨R.ORD_SEM_CTL, 16, 16, .st, .any⟩
def Fl.ORD_SEM_CTL_orphan : Fld := ⟨R.ORD_SEM_CTL, 8, 8, .w1c, .any⟩
def Fl.ORD_SEM_CTL_release : Fld := ⟨R.ORD_SEM_CTL, 0, 0, .go, .any⟩

def Tb.ORD : List RegRow :=
  [⟨R.ORD_FENCE, [Fl.ORD_FENCE_token]⟩,
   ⟨R.ORD_UPDRAFT_NORM, [Fl.ORD_UPDRAFT_NORM_limit]⟩,
   ⟨R.ORD_UPDRAFT_BULK, [Fl.ORD_UPDRAFT_BULK_limit]⟩,
   ⟨R.ORD_PROMO_XW, [Fl.ORD_PROMO_XW_count]⟩,
   ⟨R.ORD_PROMO_FAB, [Fl.ORD_PROMO_FAB_count]⟩,
   ⟨R.ORD_PROMO_HBM, [Fl.ORD_PROMO_HBM_count]⟩,
   ⟨R.ORD_PROMO_CMDQ, [Fl.ORD_PROMO_CMDQ_count]⟩,
   ⟨R.ORD_PROMO_TRL, [Fl.ORD_PROMO_TRL_count]⟩,
   ⟨R.ORD_SEM_ACQ, [Fl.ORD_SEM_ACQ_granted, Fl.ORD_SEM_ACQ_orphan, Fl.ORD_SEM_ACQ_owner]⟩,
   ⟨R.ORD_SEM_CTL, [Fl.ORD_SEM_CTL_held, Fl.ORD_SEM_CTL_orphan, Fl.ORD_SEM_CTL_release]⟩]

/-! ### EVQ -/

def R.EVQ_BASE_LO : Reg := ⟨0x20000, [(0x10, 0x40)], 0, [], false⟩
def Fl.EVQ_BASE_LO_base : Fld := ⟨R.EVQ_BASE_LO, 31, 6, .rw, .any⟩
def R.EVQ_BASE_HI : Reg := ⟨0x20004, [(0x10, 0x40)], 0, [], false⟩
def Fl.EVQ_BASE_HI_base : Fld := ⟨R.EVQ_BASE_HI, 31, 0, .rw, .any⟩
def R.EVQ_CTRL : Reg := ⟨0x20008, [(0x10, 0x40)], 0x60000, [], false⟩
def Fl.EVQ_CTRL_log2size : Fld := ⟨R.EVQ_CTRL, 20, 16, .rw, .range 6 15⟩
def Fl.EVQ_CTRL_alarm_now : Fld := ⟨R.EVQ_CTRL, 2, 2, .rw, .any⟩
def Fl.EVQ_CTRL_reset : Fld := ⟨R.EVQ_CTRL, 1, 1, .go, .any⟩
def Fl.EVQ_CTRL_enable : Fld := ⟨R.EVQ_CTRL, 0, 0, .rw, .any⟩
def R.EVQ_IMOD : Reg := ⟨0x2000c, [(0x10, 0x40)], 1, [], false⟩
def Fl.EVQ_IMOD_timeout : Fld := ⟨R.EVQ_IMOD, 31, 16, .rw, .any⟩
def Fl.EVQ_IMOD_count : Fld := ⟨R.EVQ_IMOD, 15, 0, .rw, .ge 1⟩
def R.EVQ_TAILWB_LO : Reg := ⟨0x20010, [(0x10, 0x40)], 0, [], false⟩
def Fl.EVQ_TAILWB_LO_addr : Fld := ⟨R.EVQ_TAILWB_LO, 31, 2, .rw, .any⟩
def R.EVQ_TAILWB_HI : Reg := ⟨0x20014, [(0x10, 0x40)], 0, [], false⟩
def Fl.EVQ_TAILWB_HI_addr : Fld := ⟨R.EVQ_TAILWB_HI, 31, 0, .rw, .any⟩
def R.EVQ_HEAD : Reg := ⟨0x20018, [(0x10, 0x40)], 0, [], false⟩
def Fl.EVQ_HEAD_head : Fld := ⟨R.EVQ_HEAD, 31, 0, .rw, .any⟩
def R.EVQ_TAIL : Reg := ⟨0x2001c, [(0x10, 0x40)], 0, [], false⟩
def Fl.EVQ_TAIL_tail : Fld := ⟨R.EVQ_TAIL, 31, 0, .ro, .any⟩
def R.EVQ_WMARK : Reg := ⟨0x20020, [(0x10, 0x40)], 0x10000, [], false⟩
def Fl.EVQ_WMARK_hyst : Fld := ⟨R.EVQ_WMARK, 31, 16, .rw, .any⟩
def Fl.EVQ_WMARK_mark : Fld := ⟨R.EVQ_WMARK, 15, 0, .rw, .any⟩
def R.EVQ_WSTAT : Reg := ⟨0x20024, [(0x10, 0x40)], 0, [], false⟩
def Fl.EVQ_WSTAT_level_at_cross : Fld := ⟨R.EVQ_WSTAT, 31, 16, .ro, .any⟩
def Fl.EVQ_WSTAT_crossed : Fld := ⟨R.EVQ_WSTAT, 0, 0, .w1c, .any⟩
def R.EVQ_LEVEL : Reg := ⟨0x20028, [(0x10, 0x40)], 0, [], false⟩
def Fl.EVQ_LEVEL_full : Fld := ⟨R.EVQ_LEVEL, 16, 16, .st, .any⟩
def Fl.EVQ_LEVEL_level : Fld := ⟨R.EVQ_LEVEL, 15, 0, .st, .any⟩
def R.EVQ_WCNT : Reg := ⟨0x2002c, [(0x10, 0x40)], 0, [], false⟩
def Fl.EVQ_WCNT_count : Fld := ⟨R.EVQ_WCNT, 31, 0, .cnt, .any⟩
def R.EVQ_LOSS : Reg := ⟨0x20030, [(0x10, 0x40)], 0, [], false⟩
def Fl.EVQ_LOSS_count : Fld := ⟨R.EVQ_LOSS, 31, 0, .cntSat, .any⟩
def R.EVQ_ROUTE : Reg := ⟨0x20800, [(0x40, 4)], 0x20000, [], false⟩
def Fl.EVQ_ROUTE_al_en : Fld := ⟨R.EVQ_ROUTE, 17, 17, .rw, .any⟩
def Fl.EVQ_ROUTE_ev_en : Fld := ⟨R.EVQ_ROUTE, 16, 16, .rw, .any⟩
def Fl.EVQ_ROUTE_alarm_q : Fld := ⟨R.EVQ_ROUTE, 11, 8, .rw, .any⟩
def Fl.EVQ_ROUTE_event_q : Fld := ⟨R.EVQ_ROUTE, 3, 0, .rw, .any⟩

def Tb.EVQ : List RegRow :=
  [⟨R.EVQ_BASE_LO, [Fl.EVQ_BASE_LO_base]⟩,
   ⟨R.EVQ_BASE_HI, [Fl.EVQ_BASE_HI_base]⟩,
   ⟨R.EVQ_CTRL, [Fl.EVQ_CTRL_log2size, Fl.EVQ_CTRL_alarm_now, Fl.EVQ_CTRL_reset, Fl.EVQ_CTRL_enable]⟩,
   ⟨R.EVQ_IMOD, [Fl.EVQ_IMOD_timeout, Fl.EVQ_IMOD_count]⟩,
   ⟨R.EVQ_TAILWB_LO, [Fl.EVQ_TAILWB_LO_addr]⟩,
   ⟨R.EVQ_TAILWB_HI, [Fl.EVQ_TAILWB_HI_addr]⟩,
   ⟨R.EVQ_HEAD, [Fl.EVQ_HEAD_head]⟩,
   ⟨R.EVQ_TAIL, [Fl.EVQ_TAIL_tail]⟩,
   ⟨R.EVQ_WMARK, [Fl.EVQ_WMARK_hyst, Fl.EVQ_WMARK_mark]⟩,
   ⟨R.EVQ_WSTAT, [Fl.EVQ_WSTAT_level_at_cross, Fl.EVQ_WSTAT_crossed]⟩,
   ⟨R.EVQ_LEVEL, [Fl.EVQ_LEVEL_full, Fl.EVQ_LEVEL_level]⟩,
   ⟨R.EVQ_WCNT, [Fl.EVQ_WCNT_count]⟩,
   ⟨R.EVQ_LOSS, [Fl.EVQ_LOSS_count]⟩,
   ⟨R.EVQ_ROUTE, [Fl.EVQ_ROUTE_al_en, Fl.EVQ_ROUTE_ev_en, Fl.EVQ_ROUTE_alarm_q, Fl.EVQ_ROUTE_event_q]⟩]

/-! ### CMDQ -/

def R.CMDQ_BASE_LO : Reg := ⟨0x30000, [(4, 0x40)], 0, [], false⟩
def Fl.CMDQ_BASE_LO_base : Fld := ⟨R.CMDQ_BASE_LO, 31, 12, .rw, .any⟩
def R.CMDQ_BASE_HI : Reg := ⟨0x30004, [(4, 0x40)], 0, [], false⟩
def Fl.CMDQ_BASE_HI_base : Fld := ⟨R.CMDQ_BASE_HI, 31, 0, .rw, .any⟩
def R.CMDQ_CTRL : Reg := ⟨0x30008, [(4, 0x40)], 0xc0010, [], false⟩
def Fl.CMDQ_CTRL_log2size : Fld := ⟨R.CMDQ_CTRL, 20, 16, .rw, .range 12 20⟩
def Fl.CMDQ_CTRL_class : Fld := ⟨R.CMDQ_CTRL, 5, 4, .rw, .le 2⟩
def Fl.CMDQ_CTRL_flush : Fld := ⟨R.CMDQ_CTRL, 1, 1, .go, .any⟩
def Fl.CMDQ_CTRL_enable : Fld := ⟨R.CMDQ_CTRL, 0, 0, .rw, .any⟩
def R.CMDQ_TAIL : Reg := ⟨0x3000c, [(4, 0x40)], 0, [], false⟩
def Fl.CMDQ_TAIL_tail : Fld := ⟨R.CMDQ_TAIL, 31, 0, .rw, .any⟩
def R.CMDQ_HEAD : Reg := ⟨0x30010, [(4, 0x40)], 0, [], false⟩
def Fl.CMDQ_HEAD_head : Fld := ⟨R.CMDQ_HEAD, 31, 0, .ro, .any⟩
def R.CMDQ_STAT : Reg := ⟨0x30014, [(4, 0x40)], 0, [], false⟩
def Fl.CMDQ_STAT_badpkt : Fld := ⟨R.CMDQ_STAT, 2, 2, .w1c, .any⟩
def Fl.CMDQ_STAT_waiting : Fld := ⟨R.CMDQ_STAT, 1, 1, .st, .any⟩
def Fl.CMDQ_STAT_halted : Fld := ⟨R.CMDQ_STAT, 0, 0, .st, .any⟩
def R.CMDQ_EXEC : Reg := ⟨0x30018, [(4, 0x40)], 0, [], false⟩
def Fl.CMDQ_EXEC_count : Fld := ⟨R.CMDQ_EXEC, 31, 0, .cnt, .any⟩
def R.CMDQ_WMARK : Reg := ⟨0x3001c, [(4, 0x40)], 0x10000, [], false⟩
def Fl.CMDQ_WMARK_hyst : Fld := ⟨R.CMDQ_WMARK, 31, 16, .rw, .any⟩
def Fl.CMDQ_WMARK_mark : Fld := ⟨R.CMDQ_WMARK, 15, 0, .rw, .any⟩
def R.CMDQ_WSTAT : Reg := ⟨0x30020, [(4, 0x40)], 0, [], false⟩
def Fl.CMDQ_WSTAT_level_at_cross : Fld := ⟨R.CMDQ_WSTAT, 31, 16, .ro, .any⟩
def Fl.CMDQ_WSTAT_crossed : Fld := ⟨R.CMDQ_WSTAT, 0, 0, .w1c, .any⟩
def R.CMDQ_LEVEL : Reg := ⟨0x30024, [(4, 0x40)], 0, [], false⟩
def Fl.CMDQ_LEVEL_backlog : Fld := ⟨R.CMDQ_LEVEL, 14, 0, .st, .any⟩
def R.CMDQ_WCNT : Reg := ⟨0x30028, [(4, 0x40)], 0, [], false⟩
def Fl.CMDQ_WCNT_count : Fld := ⟨R.CMDQ_WCNT, 31, 0, .cnt, .any⟩

def Tb.CMDQ : List RegRow :=
  [⟨R.CMDQ_BASE_LO, [Fl.CMDQ_BASE_LO_base]⟩,
   ⟨R.CMDQ_BASE_HI, [Fl.CMDQ_BASE_HI_base]⟩,
   ⟨R.CMDQ_CTRL, [Fl.CMDQ_CTRL_log2size, Fl.CMDQ_CTRL_class, Fl.CMDQ_CTRL_flush, Fl.CMDQ_CTRL_enable]⟩,
   ⟨R.CMDQ_TAIL, [Fl.CMDQ_TAIL_tail]⟩,
   ⟨R.CMDQ_HEAD, [Fl.CMDQ_HEAD_head]⟩,
   ⟨R.CMDQ_STAT, [Fl.CMDQ_STAT_badpkt, Fl.CMDQ_STAT_waiting, Fl.CMDQ_STAT_halted]⟩,
   ⟨R.CMDQ_EXEC, [Fl.CMDQ_EXEC_count]⟩,
   ⟨R.CMDQ_WMARK, [Fl.CMDQ_WMARK_hyst, Fl.CMDQ_WMARK_mark]⟩,
   ⟨R.CMDQ_WSTAT, [Fl.CMDQ_WSTAT_level_at_cross, Fl.CMDQ_WSTAT_crossed]⟩,
   ⟨R.CMDQ_LEVEL, [Fl.CMDQ_LEVEL_backlog]⟩,
   ⟨R.CMDQ_WCNT, [Fl.CMDQ_WCNT_count]⟩]

/-! ### BULK -/

def R.BULK_CTRL : Reg := ⟨0x50000, [], 0, [], false⟩
def Fl.BULK_CTRL_arm : Fld := ⟨R.BULK_CTRL, 31, 31, .go, .any⟩
def Fl.BULK_CTRL_dir : Fld := ⟨R.BULK_CTRL, 8, 8, .rw, .any⟩
def Fl.BULK_CTRL_target : Fld := ⟨R.BULK_CTRL, 5, 4, .rw, .le 2⟩
def Fl.BULK_CTRL_mode : Fld := ⟨R.BULK_CTRL, 1, 0, .rw, .le 2⟩
def R.BULK_ADDR_LO : Reg := ⟨0x50004, [], 0, [], false⟩
def Fl.BULK_ADDR_LO_addr : Fld := ⟨R.BULK_ADDR_LO, 31, 2, .rw, .any⟩
def R.BULK_ADDR_HI : Reg := ⟨0x50008, [], 0, [], false⟩
def Fl.BULK_ADDR_HI_addr : Fld := ⟨R.BULK_ADDR_HI, 15, 0, .rw, .any⟩
def R.BULK_WIDTH : Reg := ⟨0x5000c, [], 0, [], false⟩
def Fl.BULK_WIDTH_width : Fld := ⟨R.BULK_WIDTH, 23, 0, .rw, .any⟩
def R.BULK_STRIDE : Reg := ⟨0x50010, [], 0, [], false⟩
def Fl.BULK_STRIDE_stride : Fld := ⟨R.BULK_STRIDE, 31, 0, .rw, .any⟩
def R.BULK_ROWS : Reg := ⟨0x50014, [], 0, [], false⟩
def Fl.BULK_ROWS_rows : Fld := ⟨R.BULK_ROWS, 23, 0, .rw, .any⟩
def R.BULK_CUR_LO : Reg := ⟨0x50018, [], 0, [], false⟩
def Fl.BULK_CUR_LO_addr : Fld := ⟨R.BULK_CUR_LO, 31, 0, .ro, .any⟩
def R.BULK_CUR_HI : Reg := ⟨0x5001c, [], 0, [], false⟩
def Fl.BULK_CUR_HI_addr : Fld := ⟨R.BULK_CUR_HI, 31, 0, .ro, .any⟩
def R.BULK_STAT : Reg := ⟨0x50020, [], 0, [], false⟩
def Fl.BULK_STAT_setup : Fld := ⟨R.BULK_STAT, 6, 6, .w1c, .any⟩
def Fl.BULK_STAT_dusk : Fld := ⟨R.BULK_STAT, 5, 5, .w1c, .any⟩
def Fl.BULK_STAT_poison : Fld := ⟨R.BULK_STAT, 4, 4, .w1c, .any⟩
def Fl.BULK_STAT_range : Fld := ⟨R.BULK_STAT, 3, 3, .w1c, .any⟩
def Fl.BULK_STAT_prot : Fld := ⟨R.BULK_STAT, 2, 2, .w1c, .any⟩
def Fl.BULK_STAT_overrun : Fld := ⟨R.BULK_STAT, 1, 1, .w1c, .any⟩
def Fl.BULK_STAT_active : Fld := ⟨R.BULK_STAT, 0, 0, .st, .any⟩
def R.BULK_BYTES : Reg := ⟨0x50024, [], 0, [], false⟩
def Fl.BULK_BYTES_count : Fld := ⟨R.BULK_BYTES, 31, 0, .cnt, .any⟩

def Tb.BULK : List RegRow :=
  [⟨R.BULK_CTRL, [Fl.BULK_CTRL_arm, Fl.BULK_CTRL_dir, Fl.BULK_CTRL_target, Fl.BULK_CTRL_mode]⟩,
   ⟨R.BULK_ADDR_LO, [Fl.BULK_ADDR_LO_addr]⟩,
   ⟨R.BULK_ADDR_HI, [Fl.BULK_ADDR_HI_addr]⟩,
   ⟨R.BULK_WIDTH, [Fl.BULK_WIDTH_width]⟩,
   ⟨R.BULK_STRIDE, [Fl.BULK_STRIDE_stride]⟩,
   ⟨R.BULK_ROWS, [Fl.BULK_ROWS_rows]⟩,
   ⟨R.BULK_CUR_LO, [Fl.BULK_CUR_LO_addr]⟩,
   ⟨R.BULK_CUR_HI, [Fl.BULK_CUR_HI_addr]⟩,
   ⟨R.BULK_STAT, [Fl.BULK_STAT_setup, Fl.BULK_STAT_dusk, Fl.BULK_STAT_poison, Fl.BULK_STAT_range, Fl.BULK_STAT_prot, Fl.BULK_STAT_overrun, Fl.BULK_STAT_active]⟩,
   ⟨R.BULK_BYTES, [Fl.BULK_BYTES_count]⟩]

/-! ### DRV -/

def R.DRV_CTRL : Reg := ⟨0x40000, [], 0, [], false⟩
def Fl.DRV_CTRL_arg : Fld := ⟨R.DRV_CTRL, 10, 8, .rw, .le 3⟩
def Fl.DRV_CTRL_op : Fld := ⟨R.DRV_CTRL, 7, 4, .rw, .le 9⟩
def Fl.DRV_CTRL_go : Fld := ⟨R.DRV_CTRL, 0, 0, .go, .any⟩
def R.DRV_LEN : Reg := ⟨0x4000c, [], 0, [], false⟩
def Fl.DRV_LEN_length : Fld := ⟨R.DRV_LEN, 24, 0, .rw, .le 0x1000000⟩
def R.DRV_STAT : Reg := ⟨0x40010, [], 0, [], false⟩
def Fl.DRV_STAT_fail_count : Fld := ⟨R.DRV_STAT, 23, 20, .st, .any⟩
def Fl.DRV_STAT_source : Fld := ⟨R.DRV_STAT, 18, 16, .st, .any⟩
def Fl.DRV_STAT_staged : Fld := ⟨R.DRV_STAT, 15, 8, .st, .any⟩
def Fl.DRV_STAT_fallback : Fld := ⟨R.DRV_STAT, 3, 3, .st, .any⟩
def Fl.DRV_STAT_error : Fld := ⟨R.DRV_STAT, 2, 2, .w1c, .any⟩
def Fl.DRV_STAT_done : Fld := ⟨R.DRV_STAT, 1, 1, .w1c, .any⟩
def Fl.DRV_STAT_busy : Fld := ⟨R.DRV_STAT, 0, 0, .st, .any⟩
def R.DRV_ERR : Reg := ⟨0x40014, [], 0, [], false⟩
def Fl.DRV_ERR_section : Fld := ⟨R.DRV_ERR, 15, 8, .ro, .any⟩
def Fl.DRV_ERR_code : Fld := ⟨R.DRV_ERR, 7, 0, .ro, .any⟩
def R.DRV_ERR_OFF : Reg := ⟨0x40018, [], 0, [], false⟩
def Fl.DRV_ERR_OFF_offset : Fld := ⟨R.DRV_ERR_OFF, 31, 0, .ro, .any⟩
def R.DRV_IMG_VER : Reg := ⟨0x40020, [], 0, [], false⟩
def Fl.DRV_IMG_VER_version : Fld := ⟨R.DRV_IMG_VER, 31, 0, .ro, .any⟩
def R.DRV_IMG_INFO : Reg := ⟨0x40024, [], 0, [], false⟩
def Fl.DRV_IMG_INFO_key_index : Fld := ⟨R.DRV_IMG_INFO, 17, 16, .ro, .any⟩
def Fl.DRV_IMG_INFO_fmt_minor : Fld := ⟨R.DRV_IMG_INFO, 15, 0, .ro, .any⟩
def R.DRV_KEYS : Reg := ⟨0x40030, [], 1, [], false⟩
def Fl.DRV_KEYS_revoked : Fld := ⟨R.DRV_KEYS, 11, 8, .ro, .any⟩
def Fl.DRV_KEYS_fused : Fld := ⟨R.DRV_KEYS, 3, 0, .ro, .any⟩
def R.DRV_FLOOR : Reg := ⟨0x40034, [], 0, [], false⟩
def Fl.DRV_FLOOR_floor : Fld := ⟨R.DRV_FLOOR, 31, 0, .ro, .any⟩
def R.DRV_XW_FREE : Reg := ⟨0x40038, [], 0x40, [], false⟩
def Fl.DRV_XW_FREE_ports : Fld := ⟨R.DRV_XW_FREE, 6, 0, .st, .any⟩
def R.DRV_SRC_LO : Reg := ⟨0x40040, [], 0xc0000000, [], false⟩
def Fl.DRV_SRC_LO_addr : Fld := ⟨R.DRV_SRC_LO, 31, 0, .ro, .any⟩
def R.DRV_SRC_HI : Reg := ⟨0x40044, [], 0x23, [], false⟩
def Fl.DRV_SRC_HI_addr : Fld := ⟨R.DRV_SRC_HI, 31, 0, .ro, .any⟩

def Tb.DRV : List RegRow :=
  [⟨R.DRV_CTRL, [Fl.DRV_CTRL_arg, Fl.DRV_CTRL_op, Fl.DRV_CTRL_go]⟩,
   ⟨R.DRV_LEN, [Fl.DRV_LEN_length]⟩,
   ⟨R.DRV_STAT, [Fl.DRV_STAT_fail_count, Fl.DRV_STAT_source, Fl.DRV_STAT_staged, Fl.DRV_STAT_fallback, Fl.DRV_STAT_error, Fl.DRV_STAT_done, Fl.DRV_STAT_busy]⟩,
   ⟨R.DRV_ERR, [Fl.DRV_ERR_section, Fl.DRV_ERR_code]⟩,
   ⟨R.DRV_ERR_OFF, [Fl.DRV_ERR_OFF_offset]⟩,
   ⟨R.DRV_IMG_VER, [Fl.DRV_IMG_VER_version]⟩,
   ⟨R.DRV_IMG_INFO, [Fl.DRV_IMG_INFO_key_index, Fl.DRV_IMG_INFO_fmt_minor]⟩,
   ⟨R.DRV_KEYS, [Fl.DRV_KEYS_revoked, Fl.DRV_KEYS_fused]⟩,
   ⟨R.DRV_FLOOR, [Fl.DRV_FLOOR_floor]⟩,
   ⟨R.DRV_XW_FREE, [Fl.DRV_XW_FREE_ports]⟩,
   ⟨R.DRV_SRC_LO, [Fl.DRV_SRC_LO_addr]⟩,
   ⟨R.DRV_SRC_HI, [Fl.DRV_SRC_HI_addr]⟩]

end Sys2Proof.Machine
end

