-- ==== Sys2Proof/Machine/RegsMedia.lean ====
section
/-! DEFINITION. The registers of REC, MPC, ZST, DVT, OUTF and VCE, written from the register tables of the
chapters 08, 09, 10 of spec/: for each register its BAR0 offset (R6), its instances, its reset word (R7) and its fields
(bit range, R4; type, R32; permitted values, R9). -/

namespace Sys2Proof.Machine

/-! ### REC -/

def R.REC_CFG : Reg := ⟨0x600000, [], 0xfa0043, [], false⟩
def Fl.REC_CFG_tmo_ms : Fld := ⟨R.REC_CFG, 31, 16, .rw, .ge 1⟩
def Fl.REC_CFG_engine : Fld := ⟨R.REC_CFG, 7, 7, .rw, .any⟩
def Fl.REC_CFG_rebuild_pct : Fld := ⟨R.REC_CFG, 6, 4, .rw, .any⟩
def Fl.REC_CFG_mlevel : Fld := ⟨R.REC_CFG, 3, 0, .rw, .range 1 9⟩
def R.REC_COMMIT_MS : Reg := ⟨0x600004, [], 0x64, [], false⟩
def Fl.REC_COMMIT_MS_commit_ms : Fld := ⟨R.REC_COMMIT_MS, 9, 0, .rw, .range 10 1000⟩
def R.REC_STAT : Reg := ⟨0x600010, [], 0, [], false⟩
def Fl.REC_STAT_recording : Fld := ⟨R.REC_STAT, 7, 7, .st, .any⟩
def Fl.REC_STAT_member_fault : Fld := ⟨R.REC_STAT, 6, 6, .st, .any⟩
def Fl.REC_STAT_dusk_done : Fld := ⟨R.REC_STAT, 5, 5, .w1c, .any⟩
def Fl.REC_STAT_too_many : Fld := ⟨R.REC_STAT, 4, 4, .w1c, .any⟩
def Fl.REC_STAT_state : Fld := ⟨R.REC_STAT, 3, 0, .st, .any⟩
def R.REC_FAILED : Reg := ⟨0x600014, [], 0, [], false⟩
def Fl.REC_FAILED_mask : Fld := ⟨R.REC_FAILED, 31, 0, .st, .any⟩
def R.REC_REBUILD : Reg := ⟨0x600018, [], 0, [], false⟩
def Fl.REC_REBUILD_active : Fld := ⟨R.REC_REBUILD, 31, 31, .st, .any⟩
def Fl.REC_REBUILD_member : Fld := ⟨R.REC_REBUILD, 20, 16, .st, .any⟩
def Fl.REC_REBUILD_permille : Fld := ⟨R.REC_REBUILD, 9, 0, .st, .any⟩
def R.REC_COMMIT_SEQ_LO : Reg := ⟨0x600020, [], 0, [], false⟩
def Fl.REC_COMMIT_SEQ_LO_seq : Fld := ⟨R.REC_COMMIT_SEQ_LO, 31, 0, .ro, .any⟩
def R.REC_COMMIT_SEQ_HI : Reg := ⟨0x600024, [], 0, [], false⟩
def Fl.REC_COMMIT_SEQ_HI_seq : Fld := ⟨R.REC_COMMIT_SEQ_HI, 31, 0, .ro, .any⟩
def R.REC_FREE_LO : Reg := ⟨0x600028, [], 0, [], false⟩
def Fl.REC_FREE_LO_rows : Fld := ⟨R.REC_FREE_LO, 31, 0, .ro, .any⟩
def R.REC_FREE_HI : Reg := ⟨0x60002c, [], 0, [], false⟩
def Fl.REC_FREE_HI_rows : Fld := ⟨R.REC_FREE_HI, 31, 0, .ro, .any⟩
def R.REC_P_BUF : Reg := ⟨0x600100, [(8, 0x20)], 0x40, [], false⟩
def Fl.REC_P_BUF_unit_mib : Fld := ⟨R.REC_P_BUF, 11, 0, .rws, .ge 1⟩
def R.REC_P_DURABLE_LO : Reg := ⟨0x600104, [(8, 0x20)], 0, [], false⟩
def Fl.REC_P_DURABLE_LO_frame_id : Fld := ⟨R.REC_P_DURABLE_LO, 31, 0, .ro, .any⟩
def R.REC_P_DURABLE_HI : Reg := ⟨0x600108, [(8, 0x20)], 0, [], false⟩
def Fl.REC_P_DURABLE_HI_frame_id : Fld := ⟨R.REC_P_DURABLE_HI, 31, 0, .ro, .any⟩
def R.REC_P_LOST : Reg := ⟨0x60010c, [(8, 0x20)], 0, [], false⟩
def Fl.REC_P_LOST_count : Fld := ⟨R.REC_P_LOST, 31, 0, .cntSat, .any⟩

def Tb.REC : List RegRow :=
  [⟨R.REC_CFG, [Fl.REC_CFG_tmo_ms, Fl.REC_CFG_engine, Fl.REC_CFG_rebuild_pct, Fl.REC_CFG_mlevel]⟩,
   ⟨R.REC_COMMIT_MS, [Fl.REC_COMMIT_MS_commit_ms]⟩,
   ⟨R.REC_STAT, [Fl.REC_STAT_recording, Fl.REC_STAT_member_fault, Fl.REC_STAT_dusk_done, Fl.REC_STAT_too_many, Fl.REC_STAT_state]⟩,
   ⟨R.REC_FAILED, [Fl.REC_FAILED_mask]⟩,
   ⟨R.REC_REBUILD, [Fl.REC_REBUILD_active, Fl.REC_REBUILD_member, Fl.REC_REBUILD_permille]⟩,
   ⟨R.REC_COMMIT_SEQ_LO, [Fl.REC_COMMIT_SEQ_LO_seq]⟩,
   ⟨R.REC_COMMIT_SEQ_HI, [Fl.REC_COMMIT_SEQ_HI_seq]⟩,
   ⟨R.REC_FREE_LO, [Fl.REC_FREE_LO_rows]⟩,
   ⟨R.REC_FREE_HI, [Fl.REC_FREE_HI_rows]⟩,
   ⟨R.REC_P_BUF, [Fl.REC_P_BUF_unit_mib]⟩,
   ⟨R.REC_P_DURABLE_LO, [Fl.REC_P_DURABLE_LO_frame_id]⟩,
   ⟨R.REC_P_DURABLE_HI, [Fl.REC_P_DURABLE_HI_frame_id]⟩,
   ⟨R.REC_P_LOST, [Fl.REC_P_LOST_count]⟩]

/-! ### MPC -/

def R.MPC_RP_STAT : Reg := ⟨0xd00000, [(0x20, 0x100)], 0, [], false⟩
def Fl.MPC_RP_STAT_up : Fld := ⟨R.MPC_RP_STAT, 31, 31, .st, .any⟩
def Fl.MPC_RP_STAT_speed : Fld := ⟨R.MPC_RP_STAT, 30, 28, .st, .any⟩
def Fl.MPC_RP_STAT_width : Fld := ⟨R.MPC_RP_STAT, 20, 16, .st, .any⟩
def Fl.MPC_RP_STAT_switch : Fld := ⟨R.MPC_RP_STAT, 8, 8, .st, .any⟩
def Fl.MPC_RP_STAT_ns : Fld := ⟨R.MPC_RP_STAT, 7, 0, .st, .any⟩
def R.MPC_RP_ERR : Reg := ⟨0xd00004, [(0x20, 0x100)], 0, [], false⟩
def Fl.MPC_RP_ERR_uncorr : Fld := ⟨R.MPC_RP_ERR, 31, 16, .cntSat, .any⟩
def Fl.MPC_RP_ERR_corr : Fld := ⟨R.MPC_RP_ERR, 15, 0, .cntSat, .any⟩
def R.MPC_RP_INWIN_LO : Reg := ⟨0xd00008, [(0x20, 0x100)], 0, [], false⟩
def Fl.MPC_RP_INWIN_LO_addr : Fld := ⟨R.MPC_RP_INWIN_LO, 31, 12, .rw, .any⟩
def R.MPC_RP_INWIN_HI : Reg := ⟨0xd0000c, [(0x20, 0x100)], 0, [], false⟩
def Fl.MPC_RP_INWIN_HI_addr : Fld := ⟨R.MPC_RP_INWIN_HI, 31, 0, .rw, .any⟩
def R.MPC_RP_PEERBAR_LO : Reg := ⟨0xd00010, [(0x20, 0x100)], 0, [], false⟩
def Fl.MPC_RP_PEERBAR_LO_addr : Fld := ⟨R.MPC_RP_PEERBAR_LO, 31, 0, .ro, .any⟩
def R.MPC_RP_PEERBAR_HI : Reg := ⟨0xd00014, [(0x20, 0x100)], 0, [], false⟩
def Fl.MPC_RP_PEERBAR_HI_addr : Fld := ⟨R.MPC_RP_PEERBAR_HI, 31, 0, .ro, .any⟩

def Tb.MPC : List RegRow :=
  [⟨R.MPC_RP_STAT, [Fl.MPC_RP_STAT_up, Fl.MPC_RP_STAT_speed, Fl.MPC_RP_STAT_width, Fl.MPC_RP_STAT_switch, Fl.MPC_RP_STAT_ns]⟩,
   ⟨R.MPC_RP_ERR, [Fl.MPC_RP_ERR_uncorr, Fl.MPC_RP_ERR_corr]⟩,
   ⟨R.MPC_RP_INWIN_LO, [Fl.MPC_RP_INWIN_LO_addr]⟩,
   ⟨R.MPC_RP_INWIN_HI, [Fl.MPC_RP_INWIN_HI_addr]⟩,
   ⟨R.MPC_RP_PEERBAR_LO, [Fl.MPC_RP_PEERBAR_LO_addr]⟩,
   ⟨R.MPC_RP_PEERBAR_HI, [Fl.MPC_RP_PEERBAR_HI_addr]⟩]

/-! ### ZST -/

def R.ZST_RING_LO : Reg := ⟨0x1400000, [(2, 0x100)], 0, [], false⟩
def Fl.ZST_RING_LO_addr : Fld := ⟨R.ZST_RING_LO, 31, 6, .rw, .any⟩
def R.ZST_RING_HI : Reg := ⟨0x1400004, [(2, 0x100)], 0, [], false⟩
def Fl.ZST_RING_HI_addr : Fld := ⟨R.ZST_RING_HI, 31, 0, .rw, .any⟩
def R.ZST_CTRL : Reg := ⟨0x1400008, [(2, 0x100)], 0x60010, [], false⟩
def Fl.ZST_CTRL_log2size : Fld := ⟨R.ZST_CTRL, 20, 16, .rw, .range 4 16⟩
def Fl.ZST_CTRL_class : Fld := ⟨R.ZST_CTRL, 5, 4, .rw, .le 2⟩
def Fl.ZST_CTRL_host : Fld := ⟨R.ZST_CTRL, 1, 1, .rw, .any⟩
def Fl.ZST_CTRL_enable : Fld := ⟨R.ZST_CTRL, 0, 0, .rw, .any⟩
def R.ZST_TAIL : Reg := ⟨0x140000c, [(2, 0x100)], 0, [], false⟩
def Fl.ZST_TAIL_tail : Fld := ⟨R.ZST_TAIL, 31, 0, .rw, .any⟩
def R.ZST_HEAD : Reg := ⟨0x1400010, [(2, 0x100)], 0, [], false⟩
def Fl.ZST_HEAD_head : Fld := ⟨R.ZST_HEAD, 31, 0, .ro, .any⟩
def R.ZST_JOBS : Reg := ⟨0x1400014, [(2, 0x100)], 0, [], false⟩
def Fl.ZST_JOBS_failed : Fld := ⟨R.ZST_JOBS, 31, 16, .cntSat, .any⟩
def Fl.ZST_JOBS_done : Fld := ⟨R.ZST_JOBS, 15, 0, .cnt, .any⟩

def Tb.ZST : List RegRow :=
  [⟨R.ZST_RING_LO, [Fl.ZST_RING_LO_addr]⟩,
   ⟨R.ZST_RING_HI, [Fl.ZST_RING_HI_addr]⟩,
   ⟨R.ZST_CTRL, [Fl.ZST_CTRL_log2size, Fl.ZST_CTRL_class, Fl.ZST_CTRL_host, Fl.ZST_CTRL_enable]⟩,
   ⟨R.ZST_TAIL, [Fl.ZST_TAIL_tail]⟩,
   ⟨R.ZST_HEAD, [Fl.ZST_HEAD_head]⟩,
   ⟨R.ZST_JOBS, [Fl.ZST_JOBS_failed, Fl.ZST_JOBS_done]⟩]

/-! ### DVT -/

def R.DVT_CTRL : Reg := ⟨0x700000, [(0xd, 0x10000)], 0, [], true⟩
def Fl.DVT_CTRL_tnr_en : Fld := ⟨R.DVT_CTRL, 1, 1, .rws, .any⟩
def Fl.DVT_CTRL_snr_en : Fld := ⟨R.DVT_CTRL, 0, 0, .rws, .any⟩
def R.DVT_CFA : Reg := ⟨0x700004, [(0xd, 0x10000)], 0x94, [], true⟩
def Fl.DVT_CFA_map : Fld := ⟨R.DVT_CFA, 31, 0, .rws, .any⟩
def R.DVT_SNR : Reg := ⟨0x700008, [(0xd, 0x10000)], 0x4030, [], true⟩
def Fl.DVT_SNR_strength : Fld := ⟨R.DVT_SNR, 15, 8, .rws, .le 128⟩
def Fl.DVT_SNR_sthr : Fld := ⟨R.DVT_SNR, 7, 0, .rws, .any⟩
def R.DVT_TNR : Reg := ⟨0x70000c, [(0xd, 0x10000)], 0x4030, [], true⟩
def Fl.DVT_TNR_seq : Fld := ⟨R.DVT_TNR, 23, 16, .rws, .any⟩
def Fl.DVT_TNR_alpha : Fld := ⟨R.DVT_TNR, 15, 8, .rws, .ge 1⟩
def Fl.DVT_TNR_tthr : Fld := ⟨R.DVT_TNR, 7, 0, .rws, .any⟩
def R.DVT_TNR_ADDR_LO : Reg := ⟨0x700010, [(0xd, 0x10000)], 0, [], true⟩
def Fl.DVT_TNR_ADDR_LO_addr : Fld := ⟨R.DVT_TNR_ADDR_LO, 31, 12, .rws, .any⟩
def R.DVT_TNR_ADDR_HI : Reg := ⟨0x700014, [(0xd, 0x10000)], 0, [], true⟩
def Fl.DVT_TNR_ADDR_HI_addr : Fld := ⟨R.DVT_TNR_ADDR_HI, 31, 0, .rws, .any⟩
def R.DVT_SCALE : Reg := ⟨0x700018, [(0xd, 0x10000)], 0x3f800000, [], true⟩
def Fl.DVT_SCALE_value : Fld := ⟨R.DVT_SCALE, 31, 0, .rws, .posFinite⟩
def R.DVT_WB_R : Reg := ⟨0x70001c, [(0xd, 0x10000)], 0x3f800000, [], true⟩
def Fl.DVT_WB_R_value : Fld := ⟨R.DVT_WB_R, 31, 0, .rws, .posFinite⟩
def R.DVT_WB_G : Reg := ⟨0x700020, [(0xd, 0x10000)], 0x3f800000, [], true⟩
def Fl.DVT_WB_G_value : Fld := ⟨R.DVT_WB_G, 31, 0, .rws, .posFinite⟩
def R.DVT_WB_B : Reg := ⟨0x700024, [(0xd, 0x10000)], 0x3f800000, [], true⟩
def Fl.DVT_WB_B_value : Fld := ⟨R.DVT_WB_B, 31, 0, .rws, .posFinite⟩
def R.DVT_CCT : Reg := ⟨0x700028, [(0xd, 0x10000)], 0x45cb4000, [], true⟩
def Fl.DVT_CCT_value : Fld := ⟨R.DVT_CCT, 31, 0, .rws, .posFinite⟩
def R.DVT_CCTA : Reg := ⟨0x70002c, [(0xd, 0x10000)], 0x45328000, [], true⟩
def Fl.DVT_CCTA_value : Fld := ⟨R.DVT_CCTA, 31, 0, .rws, .posFinite⟩
def R.DVT_CCTD : Reg := ⟨0x700030, [(0xd, 0x10000)], 0x45cb4000, [], true⟩
def Fl.DVT_CCTD_value : Fld := ⟨R.DVT_CCTD, 31, 0, .rws, .posFinite⟩
def R.DVT_MA : Reg := ⟨0x700040, [(0xd, 0x10000), (9, 4)], 0, [(0, 0x3f800000), (4, 0x3f800000), (8, 0x3f800000)], true⟩
def Fl.DVT_MA_value : Fld := ⟨R.DVT_MA, 31, 0, .rws, .finite⟩
def R.DVT_MD : Reg := ⟨0x700080, [(0xd, 0x10000), (9, 4)], 0, [(0, 0x3f800000), (4, 0x3f800000), (8, 0x3f800000)], true⟩
def Fl.DVT_MD_value : Fld := ⟨R.DVT_MD, 31, 0, .rws, .finite⟩
def R.DVT_STATUS : Reg := ⟨0x700200, [(0xd, 0x10000)], 0, [], false⟩
def Fl.DVT_STATUS_poison : Fld := ⟨R.DVT_STATUS, 3, 3, .w1c, .any⟩
def Fl.DVT_STATUS_range : Fld := ⟨R.DVT_STATUS, 2, 2, .w1c, .any⟩
def Fl.DVT_STATUS_tnr_valid : Fld := ⟨R.DVT_STATUS, 1, 1, .st, .any⟩
def Fl.DVT_STATUS_busy : Fld := ⟨R.DVT_STATUS, 0, 0, .st, .any⟩
def R.DVT_LASTFID_LO : Reg := ⟨0x700204, [(0xd, 0x10000)], 0, [], false⟩
def Fl.DVT_LASTFID_LO_frame_id : Fld := ⟨R.DVT_LASTFID_LO, 31, 0, .ro, .any⟩
def R.DVT_LASTFID_HI : Reg := ⟨0x700208, [(0xd, 0x10000)], 0, [], false⟩
def Fl.DVT_LASTFID_HI_frame_id : Fld := ⟨R.DVT_LASTFID_HI, 31, 0, .ro, .any⟩
def R.DVT_L_CTRL : Reg := ⟨0x700400, [(0xd, 0x10000), (8, 0x100)], 0, [], true⟩
def Fl.DVT_L_CTRL_tf : Fld := ⟨R.DVT_L_CTRL, 29, 28, .rws, .any⟩
def Fl.DVT_L_CTRL_gc_en : Fld := ⟨R.DVT_L_CTRL, 24, 24, .rws, .any⟩
def Fl.DVT_L_CTRL_cube_en : Fld := ⟨R.DVT_L_CTRL, 20, 20, .rws, .any⟩
def Fl.DVT_L_CTRL_cube_slot : Fld := ⟨R.DVT_L_CTRL, 19, 16, .rws, .le 11⟩
def Fl.DVT_L_CTRL_sh_mode : Fld := ⟨R.DVT_L_CTRL, 13, 12, .rws, .le 2⟩
def Fl.DVT_L_CTRL_sh_slot : Fld := ⟨R.DVT_L_CTRL, 4, 0, .rws, .le 23⟩
def R.DVT_L_SIG : Reg := ⟨0x700404, [(0xd, 0x10000), (8, 0x100)], 0x101, [], true⟩
def Fl.DVT_L_SIG_transfer : Fld := ⟨R.DVT_L_SIG, 15, 8, .rws, .any⟩
def Fl.DVT_L_SIG_primaries : Fld := ⟨R.DVT_L_SIG, 7, 0, .rws, .any⟩
def R.DVT_L_GAIN : Reg := ⟨0x700408, [(0xd, 0x10000), (8, 0x100)], 0x3f800000, [], true⟩
def Fl.DVT_L_GAIN_value : Fld := ⟨R.DVT_L_GAIN, 31, 0, .rws, .finite⟩
def R.DVT_L_SHLO : Reg := ⟨0x70040c, [(0xd, 0x10000), (8, 0x100)], 0xc1400000, [], true⟩
def Fl.DVT_L_SHLO_value : Fld := ⟨R.DVT_L_SHLO, 31, 0, .rws, .finite⟩
def R.DVT_L_SHHI : Reg := ⟨0x700410, [(0xd, 0x10000), (8, 0x100)], 0x40800000, [], true⟩
def Fl.DVT_L_SHHI_value : Fld := ⟨R.DVT_L_SHHI, 31, 0, .rws, .finite⟩
def R.DVT_L_GCTH : Reg := ⟨0x700414, [(0xd, 0x10000), (8, 0x100)], 0x3f4ccccd, [], true⟩
def Fl.DVT_L_GCTH_value : Fld := ⟨R.DVT_L_GCTH, 31, 0, .rws, .belowOne⟩
def R.DVT_L_GCLIM : Reg := ⟨0x700418, [(0xd, 0x10000), (8, 0x100)], 0x3f99999a, [], true⟩
def Fl.DVT_L_GCLIM_value : Fld := ⟨R.DVT_L_GCLIM, 31, 0, .rws, .aboveOne⟩
def R.DVT_L_GAMMA : Reg := ⟨0x70041c, [(0xd, 0x10000), (8, 0x100)], 0x4019999a, [], true⟩
def Fl.DVT_L_GAMMA_value : Fld := ⟨R.DVT_L_GAMMA, 31, 0, .rws, .posFinite⟩
def R.DVT_L_PQREF : Reg := ⟨0x700420, [(0xd, 0x10000), (8, 0x100)], 0x42c80000, [], true⟩
def Fl.DVT_L_PQREF_value : Fld := ⟨R.DVT_L_PQREF, 31, 0, .rws, .posFinite⟩
def R.DVT_L_MOUT : Reg := ⟨0x700440, [(0xd, 0x10000), (8, 0x100), (9, 4)], 0, [(0, 0x3f800000), (4, 0x3f800000), (8, 0x3f800000)], true⟩
def Fl.DVT_L_MOUT_value : Fld := ⟨R.DVT_L_MOUT, 31, 0, .rws, .finite⟩

def Tb.DVT0 : List RegRow :=
  [⟨R.DVT_CTRL, [Fl.DVT_CTRL_tnr_en, Fl.DVT_CTRL_snr_en]⟩,
   ⟨R.DVT_CFA, [Fl.DVT_CFA_map]⟩,
   ⟨R.DVT_SNR, [Fl.DVT_SNR_strength, Fl.DVT_SNR_sthr]⟩,
   ⟨R.DVT_TNR, [Fl.DVT_TNR_seq, Fl.DVT_TNR_alpha, Fl.DVT_TNR_tthr]⟩,
   ⟨R.DVT_TNR_ADDR_LO, [Fl.DVT_TNR_ADDR_LO_addr]⟩,
   ⟨R.DVT_TNR_ADDR_HI, [Fl.DVT_TNR_ADDR_HI_addr]⟩,
   ⟨R.DVT_SCALE, [Fl.DVT_SCALE_value]⟩,
   ⟨R.DVT_WB_R, [Fl.DVT_WB_R_value]⟩,
   ⟨R.DVT_WB_G, [Fl.DVT_WB_G_value]⟩,
   ⟨R.DVT_WB_B, [Fl.DVT_WB_B_value]⟩,
   ⟨R.DVT_CCT, [Fl.DVT_CCT_value]⟩,
   ⟨R.DVT_CCTA, [Fl.DVT_CCTA_value]⟩,
   ⟨R.DVT_CCTD, [Fl.DVT_CCTD_value]⟩,
   ⟨R.DVT_MA, [Fl.DVT_MA_value]⟩,
   ⟨R.DVT_MD, [Fl.DVT_MD_value]⟩,
   ⟨R.DVT_STATUS, [Fl.DVT_STATUS_poison, Fl.DVT_STATUS_range, Fl.DVT_STATUS_tnr_valid, Fl.DVT_STATUS_busy]⟩,
   ⟨R.DVT_LASTFID_LO, [Fl.DVT_LASTFID_LO_frame_id]⟩,
   ⟨R.DVT_LASTFID_HI, [Fl.DVT_LASTFID_HI_frame_id]⟩,
   ⟨R.DVT_L_CTRL, [Fl.DVT_L_CTRL_tf, Fl.DVT_L_CTRL_gc_en, Fl.DVT_L_CTRL_cube_en, Fl.DVT_L_CTRL_cube_slot, Fl.DVT_L_CTRL_sh_mode, Fl.DVT_L_CTRL_sh_slot]⟩,
   ⟨R.DVT_L_SIG, [Fl.DVT_L_SIG_transfer, Fl.DVT_L_SIG_primaries]⟩]
def Tb.DVT1 : List RegRow :=
  [⟨R.DVT_L_GAIN, [Fl.DVT_L_GAIN_value]⟩,
   ⟨R.DVT_L_SHLO, [Fl.DVT_L_SHLO_value]⟩,
   ⟨R.DVT_L_SHHI, [Fl.DVT_L_SHHI_value]⟩,
   ⟨R.DVT_L_GCTH, [Fl.DVT_L_GCTH_value]⟩,
   ⟨R.DVT_L_GCLIM, [Fl.DVT_L_GCLIM_value]⟩,
   ⟨R.DVT_L_GAMMA, [Fl.DVT_L_GAMMA_value]⟩,
   ⟨R.DVT_L_PQREF, [Fl.DVT_L_PQREF_value]⟩,
   ⟨R.DVT_L_MOUT, [Fl.DVT_L_MOUT_value]⟩]
def Tb.DVT : List RegRow := Tb.DVT0 ++ Tb.DVT1

/-! ### OUTF -/

def R.OUTF_CTRL : Reg := ⟨0x800000, [(0x40, 0x100)], 0xff0000, [], false⟩
def Fl.OUTF_CTRL_ev_en : Fld := ⟨R.OUTF_CTRL, 31, 31, .rw, .any⟩
def Fl.OUTF_CTRL_bank : Fld := ⟨R.OUTF_CTRL, 28, 28, .rws, .any⟩
def Fl.OUTF_CTRL_bgr : Fld := ⟨R.OUTF_CTRL, 25, 25, .rws, .any⟩
def Fl.OUTF_CTRL_mono : Fld := ⟨R.OUTF_CTRL, 24, 24, .rws, .any⟩
def Fl.OUTF_CTRL_alpha : Fld := ⟨R.OUTF_CTRL, 23, 16, .rws, .any⟩
def Fl.OUTF_CTRL_ycc : Fld := ⟨R.OUTF_CTRL, 12, 12, .rws, .any⟩
def Fl.OUTF_CTRL_narrow : Fld := ⟨R.OUTF_CTRL, 8, 8, .rws, .any⟩
def Fl.OUTF_CTRL_fmt : Fld := ⟨R.OUTF_CTRL, 3, 0, .rws, .branchFmt⟩
def R.OUTF_CROPXY : Reg := ⟨0x800004, [(0x40, 0x100)], 0, [], false⟩
def Fl.OUTF_CROPXY_y_or_h : Fld := ⟨R.OUTF_CROPXY, 31, 16, .rws, .any⟩
def Fl.OUTF_CROPXY_x_or_w : Fld := ⟨R.OUTF_CROPXY, 15, 0, .rws, .any⟩
def R.OUTF_CROPWH : Reg := ⟨0x800008, [(0x40, 0x100)], 0, [], false⟩
def Fl.OUTF_CROPWH_y_or_h : Fld := ⟨R.OUTF_CROPWH, 31, 16, .rws, .any⟩
def Fl.OUTF_CROPWH_x_or_w : Fld := ⟨R.OUTF_CROPWH, 15, 0, .rws, .any⟩
def R.OUTF_DSTXY : Reg := ⟨0x80000c, [(0x40, 0x100)], 0, [], false⟩
def Fl.OUTF_DSTXY_y_or_h : Fld := ⟨R.OUTF_DSTXY, 31, 16, .rws, .any⟩
def Fl.OUTF_DSTXY_x_or_w : Fld := ⟨R.OUTF_DSTXY, 15, 0, .rws, .any⟩
def R.OUTF_DSTWH : Reg := ⟨0x800010, [(0x40, 0x100)], 0, [], false⟩
def Fl.OUTF_DSTWH_y_or_h : Fld := ⟨R.OUTF_DSTWH, 31, 16, .rws, .any⟩
def Fl.OUTF_DSTWH_x_or_w : Fld := ⟨R.OUTF_DSTWH, 15, 0, .rws, .any⟩
def R.OUTF_FILL0 : Reg := ⟨0x800014, [(0x40, 0x100)], 0, [], false⟩
def Fl.OUTF_FILL0_value : Fld := ⟨R.OUTF_FILL0, 31, 0, .rws, .finite⟩
def R.OUTF_FILL1 : Reg := ⟨0x800018, [(0x40, 0x100)], 0, [], false⟩
def Fl.OUTF_FILL1_value : Fld := ⟨R.OUTF_FILL1, 31, 0, .rws, .finite⟩
def R.OUTF_FILL2 : Reg := ⟨0x80001c, [(0x40, 0x100)], 0, [], false⟩
def Fl.OUTF_FILL2_value : Fld := ⟨R.OUTF_FILL2, 31, 0, .rws, .finite⟩
def R.OUTF_PITCH : Reg := ⟨0x800020, [(0x40, 0x100)], 0, [], false⟩
def Fl.OUTF_PITCH_value : Fld := ⟨R.OUTF_PITCH, 23, 0, .rws, .mult 64⟩
def R.OUTF_STRIDE : Reg := ⟨0x800024, [(0x40, 0x100)], 0, [], false⟩
def Fl.OUTF_STRIDE_value : Fld := ⟨R.OUTF_STRIDE, 23, 0, .rws, .any⟩
def R.OUTF_BATCH : Reg := ⟨0x800028, [(0x40, 0x100)], 1, [], false⟩
def Fl.OUTF_BATCH_n : Fld := ⟨R.OUTF_BATCH, 4, 0, .rws, .range 1 16⟩
def R.OUTF_MEAN : Reg := ⟨0x800030, [(0x40, 0x100), (3, 4)], 0, [], false⟩
def Fl.OUTF_MEAN_value : Fld := ⟨R.OUTF_MEAN, 31, 0, .rws, .finite⟩
def R.OUTF_TSCALE : Reg := ⟨0x80003c, [(0x40, 0x100), (3, 4)], 0x3f800000, [], false⟩
def Fl.OUTF_TSCALE_value : Fld := ⟨R.OUTF_TSCALE, 31, 0, .rws, .finite⟩
def R.OUTF_PEER_LO : Reg := ⟨0x800050, [(0x40, 0x100)], 0, [], false⟩
def Fl.OUTF_PEER_LO_addr : Fld := ⟨R.OUTF_PEER_LO, 31, 12, .rws, .any⟩
def R.OUTF_PEER_HI : Reg := ⟨0x800054, [(0x40, 0x100)], 0, [], false⟩
def Fl.OUTF_PEER_HI_addr : Fld := ⟨R.OUTF_PEER_HI, 31, 0, .rws, .any⟩
def R.OUTF_PSLOTS : Reg := ⟨0x800058, [(0x40, 0x100)], 1, [], false⟩
def Fl.OUTF_PSLOTS_slots : Fld := ⟨R.OUTF_PSLOTS, 15, 0, .rws, .ge 1⟩
def R.OUTF_PSTRIDE : Reg := ⟨0x80005c, [(0x40, 0x100)], 0, [], false⟩
def Fl.OUTF_PSTRIDE_bytes : Fld := ⟨R.OUTF_PSTRIDE, 31, 0, .rws, .mult 4096⟩
def R.OUTF_DB_LO : Reg := ⟨0x800060, [(0x40, 0x100)], 0, [], false⟩
def Fl.OUTF_DB_LO_addr : Fld := ⟨R.OUTF_DB_LO, 31, 4, .rws, .any⟩
def R.OUTF_DB_HI : Reg := ⟨0x800064, [(0x40, 0x100)], 0, [], false⟩
def Fl.OUTF_DB_HI_addr : Fld := ⟨R.OUTF_DB_HI, 31, 0, .rws, .any⟩
def R.OUTF_WRITTEN : Reg := ⟨0x800068, [(0x40, 0x100)], 0, [], false⟩
def Fl.OUTF_WRITTEN_count : Fld := ⟨R.OUTF_WRITTEN, 31, 0, .ro, .any⟩
def R.OUTF_CONSUMED : Reg := ⟨0x80006c, [(0x40, 0x100)], 0, [], false⟩
def Fl.OUTF_CONSUMED_count : Fld := ⟨R.OUTF_CONSUMED, 31, 0, .ro, .any⟩
def R.OUTF_FRAMES : Reg := ⟨0x800070, [(0x40, 0x100)], 0, [], false⟩
def Fl.OUTF_FRAMES_count : Fld := ⟨R.OUTF_FRAMES, 31, 0, .cnt, .any⟩
def R.OUTF_SKIP : Reg := ⟨0x800074, [(0x40, 0x100)], 0, [], false⟩
def Fl.OUTF_SKIP_count : Fld := ⟨R.OUTF_SKIP, 31, 0, .cntSat, .any⟩
def R.OUTF_NAN : Reg := ⟨0x800078, [(0x40, 0x100)], 0, [], false⟩
def Fl.OUTF_NAN_count : Fld := ⟨R.OUTF_NAN, 31, 0, .cntSat, .any⟩
def R.OUTF_LASTFID_LO : Reg := ⟨0x80007c, [(0x40, 0x100)], 0, [], false⟩
def Fl.OUTF_LASTFID_LO_frame_id : Fld := ⟨R.OUTF_LASTFID_LO, 31, 0, .ro, .any⟩
def R.OUTF_LASTFID_HI : Reg := ⟨0x800080, [(0x40, 0x100)], 0, [], false⟩
def Fl.OUTF_LASTFID_HI_frame_id : Fld := ⟨R.OUTF_LASTFID_HI, 31, 0, .ro, .any⟩
def R.OUTF_STAT : Reg := ⟨0x800084, [(0x40, 0x100)], 0, [], false⟩
def Fl.OUTF_STAT_skip_cause : Fld := ⟨R.OUTF_STAT, 7, 4, .st, .any⟩
def Fl.OUTF_STAT_geom_refused : Fld := ⟨R.OUTF_STAT, 2, 2, .w1c, .any⟩
def Fl.OUTF_STAT_peer_down : Fld := ⟨R.OUTF_STAT, 1, 1, .st, .any⟩
def Fl.OUTF_STAT_busy : Fld := ⟨R.OUTF_STAT, 0, 0, .st, .any⟩

def Tb.OUTF0 : List RegRow :=
  [⟨R.OUTF_CTRL, [Fl.OUTF_CTRL_ev_en, Fl.OUTF_CTRL_bank, Fl.OUTF_CTRL_bgr, Fl.OUTF_CTRL_mono, Fl.OUTF_CTRL_alpha, Fl.OUTF_CTRL_ycc, Fl.OUTF_CTRL_narrow, Fl.OUTF_CTRL_fmt]⟩,
   ⟨R.OUTF_CROPXY, [Fl.OUTF_CROPXY_y_or_h, Fl.OUTF_CROPXY_x_or_w]⟩,
   ⟨R.OUTF_CROPWH, [Fl.OUTF_CROPWH_y_or_h, Fl.OUTF_CROPWH_x_or_w]⟩,
   ⟨R.OUTF_DSTXY, [Fl.OUTF_DSTXY_y_or_h, Fl.OUTF_DSTXY_x_or_w]⟩,
   ⟨R.OUTF_DSTWH, [Fl.OUTF_DSTWH_y_or_h, Fl.OUTF_DSTWH_x_or_w]⟩,
   ⟨R.OUTF_FILL0, [Fl.OUTF_FILL0_value]⟩,
   ⟨R.OUTF_FILL1, [Fl.OUTF_FILL1_value]⟩,
   ⟨R.OUTF_FILL2, [Fl.OUTF_FILL2_value]⟩,
   ⟨R.OUTF_PITCH, [Fl.OUTF_PITCH_value]⟩,
   ⟨R.OUTF_STRIDE, [Fl.OUTF_STRIDE_value]⟩,
   ⟨R.OUTF_BATCH, [Fl.OUTF_BATCH_n]⟩,
   ⟨R.OUTF_MEAN, [Fl.OUTF_MEAN_value]⟩,
   ⟨R.OUTF_TSCALE, [Fl.OUTF_TSCALE_value]⟩,
   ⟨R.OUTF_PEER_LO, [Fl.OUTF_PEER_LO_addr]⟩,
   ⟨R.OUTF_PEER_HI, [Fl.OUTF_PEER_HI_addr]⟩,
   ⟨R.OUTF_PSLOTS, [Fl.OUTF_PSLOTS_slots]⟩,
   ⟨R.OUTF_PSTRIDE, [Fl.OUTF_PSTRIDE_bytes]⟩,
   ⟨R.OUTF_DB_LO, [Fl.OUTF_DB_LO_addr]⟩,
   ⟨R.OUTF_DB_HI, [Fl.OUTF_DB_HI_addr]⟩,
   ⟨R.OUTF_WRITTEN, [Fl.OUTF_WRITTEN_count]⟩]
def Tb.OUTF1 : List RegRow :=
  [⟨R.OUTF_CONSUMED, [Fl.OUTF_CONSUMED_count]⟩,
   ⟨R.OUTF_FRAMES, [Fl.OUTF_FRAMES_count]⟩,
   ⟨R.OUTF_SKIP, [Fl.OUTF_SKIP_count]⟩,
   ⟨R.OUTF_NAN, [Fl.OUTF_NAN_count]⟩,
   ⟨R.OUTF_LASTFID_LO, [Fl.OUTF_LASTFID_LO_frame_id]⟩,
   ⟨R.OUTF_LASTFID_HI, [Fl.OUTF_LASTFID_HI_frame_id]⟩,
   ⟨R.OUTF_STAT, [Fl.OUTF_STAT_skip_cause, Fl.OUTF_STAT_geom_refused, Fl.OUTF_STAT_peer_down, Fl.OUTF_STAT_busy]⟩]
def Tb.OUTF : List RegRow := Tb.OUTF0 ++ Tb.OUTF1

/-! ### VCE -/

def R.VCE_CTRL : Reg := ⟨0x900000, [(2, 0x1000)], 0x990080, [], false⟩
def Fl.VCE_CTRL_ev_en : Fld := ⟨R.VCE_CTRL, 31, 31, .rw, .any⟩
def Fl.VCE_CTRL_profile : Fld := ⟨R.VCE_CTRL, 27, 26, .rws, .le 2⟩
def Fl.VCE_CTRL_tier : Fld := ⟨R.VCE_CTRL, 25, 25, .rws, .any⟩
def Fl.VCE_CTRL_level_idc : Fld := ⟨R.VCE_CTRL, 23, 16, .rws, .oneOf [30,60,63,90,93,120,123,150,153,156,180,183,186]⟩
def Fl.VCE_CTRL_rc : Fld := ⟨R.VCE_CTRL, 15, 14, .rws, .le 2⟩
def Fl.VCE_CTRL_slice_row : Fld := ⟨R.VCE_CTRL, 12, 12, .rws, .any⟩
def Fl.VCE_CTRL_gdr : Fld := ⟨R.VCE_CTRL, 9, 9, .rws, .any⟩
def Fl.VCE_CTRL_tskip : Fld := ⟨R.VCE_CTRL, 8, 8, .rws, .any⟩
def Fl.VCE_CTRL_sao : Fld := ⟨R.VCE_CTRL, 7, 7, .rws, .any⟩
def Fl.VCE_CTRL_enable : Fld := ⟨R.VCE_CTRL, 0, 0, .rws, .any⟩
def R.VCE_GOP : Reg := ⟨0x900004, [(2, 0x1000)], 0x3c00, [], false⟩
def Fl.VCE_GOP_idr_period : Fld := ⟨R.VCE_GOP, 31, 16, .rws, .any⟩
def Fl.VCE_GOP_gdr_period : Fld := ⟨R.VCE_GOP, 15, 8, .rws, .ge 2⟩
def Fl.VCE_GOP_mgop : Fld := ⟨R.VCE_GOP, 5, 4, .rws, .any⟩
def Fl.VCE_GOP_refs_m1 : Fld := ⟨R.VCE_GOP, 1, 0, .rws, .any⟩
def R.VCE_TICK : Reg := ⟨0x900008, [(2, 0x1000)], 0, [], false⟩
def Fl.VCE_TICK_value : Fld := ⟨R.VCE_TICK, 31, 0, .rws, .any⟩
def R.VCE_SCALE : Reg := ⟨0x90000c, [(2, 0x1000)], 0, [], false⟩
def Fl.VCE_SCALE_value : Fld := ⟨R.VCE_SCALE, 31, 0, .rws, .any⟩
def R.VCE_RATE : Reg := ⟨0x900010, [(2, 0x1000)], 0, [], false⟩
def Fl.VCE_RATE_value : Fld := ⟨R.VCE_RATE, 31, 0, .rws, .any⟩
def R.VCE_CPB : Reg := ⟨0x900014, [(2, 0x1000)], 0, [], false⟩
def Fl.VCE_CPB_value : Fld := ⟨R.VCE_CPB, 31, 0, .rws, .any⟩
def R.VCE_QP : Reg := ⟨0x900018, [(2, 0x1000)], 0x33002024, [], false⟩
def Fl.VCE_QP_qp_max : Fld := ⟨R.VCE_QP, 31, 24, .rws, .le 51⟩
def Fl.VCE_QP_qp_min : Fld := ⟨R.VCE_QP, 23, 16, .rws, .le 51⟩
def Fl.VCE_QP_qp_init : Fld := ⟨R.VCE_QP, 15, 8, .rws, .le 51⟩
def Fl.VCE_QP_dqp_p : Fld := ⟨R.VCE_QP, 7, 4, .rws, .any⟩
def Fl.VCE_QP_dqp_b : Fld := ⟨R.VCE_QP, 3, 0, .rws, .any⟩
def R.VCE_CLL : Reg := ⟨0x90001c, [(2, 0x1000)], 0, [], false⟩
def Fl.VCE_CLL_max_cll : Fld := ⟨R.VCE_CLL, 31, 16, .rws, .any⟩
def Fl.VCE_CLL_max_fall : Fld := ⟨R.VCE_CLL, 15, 0, .rws, .any⟩
def R.VCE_WORK_LO : Reg := ⟨0x900020, [(2, 0x1000)], 0, [], false⟩
def Fl.VCE_WORK_LO_addr : Fld := ⟨R.VCE_WORK_LO, 31, 12, .rws, .any⟩
def R.VCE_WORK_HI : Reg := ⟨0x900024, [(2, 0x1000)], 0, [], false⟩
def Fl.VCE_WORK_HI_addr : Fld := ⟨R.VCE_WORK_HI, 31, 0, .rws, .any⟩
def R.VCE_ORING_LO : Reg := ⟨0x900028, [(2, 0x1000)], 0, [], false⟩
def Fl.VCE_ORING_LO_addr : Fld := ⟨R.VCE_ORING_LO, 31, 12, .rws, .any⟩
def R.VCE_ORING_HI : Reg := ⟨0x90002c, [(2, 0x1000)], 0, [], false⟩
def Fl.VCE_ORING_HI_addr : Fld := ⟨R.VCE_ORING_HI, 31, 0, .rws, .any⟩
def R.VCE_ORING_SIZE : Reg := ⟨0x900030, [(2, 0x1000)], 0x40, [], false⟩
def Fl.VCE_ORING_SIZE_mib : Fld := ⟨R.VCE_ORING_SIZE, 15, 0, .rws, .ge 1⟩
def R.VCE_OWR : Reg := ⟨0x900034, [(2, 0x1000)], 0, [], false⟩
def Fl.VCE_OWR_bytes : Fld := ⟨R.VCE_OWR, 31, 0, .ro, .any⟩
def R.VCE_OHOST : Reg := ⟨0x900038, [(2, 0x1000)], 0, [], false⟩
def Fl.VCE_OHOST_bytes : Fld := ⟨R.VCE_OHOST, 31, 0, .rw, .any⟩
def R.VCE_OCTL : Reg := ⟨0x90003c, [(2, 0x1000)], 0, [], false⟩
def Fl.VCE_OCTL_host_en : Fld := ⟨R.VCE_OCTL, 0, 0, .rw, .any⟩
def R.VCE_STAT : Reg := ⟨0x900040, [(2, 0x1000)], 0, [], false⟩
def Fl.VCE_STAT_held : Fld := ⟨R.VCE_STAT, 23, 16, .st, .any⟩
def Fl.VCE_STAT_cause : Fld := ⟨R.VCE_STAT, 11, 8, .st, .any⟩
def Fl.VCE_STAT_cfg_refused : Fld := ⟨R.VCE_STAT, 2, 2, .w1c, .any⟩
def Fl.VCE_STAT_coding : Fld := ⟨R.VCE_STAT, 1, 1, .st, .any⟩
def Fl.VCE_STAT_busy : Fld := ⟨R.VCE_STAT, 0, 0, .st, .any⟩
def R.VCE_PICS : Reg := ⟨0x900044, [(2, 0x1000)], 0, [], false⟩
def Fl.VCE_PICS_count : Fld := ⟨R.VCE_PICS, 31, 0, .cnt, .any⟩
def R.VCE_DROP : Reg := ⟨0x900048, [(2, 0x1000)], 0, [], false⟩
def Fl.VCE_DROP_count : Fld := ⟨R.VCE_DROP, 31, 0, .cntSat, .any⟩
def R.VCE_FLOOR : Reg := ⟨0x90004c, [(2, 0x1000)], 0, [], false⟩
def Fl.VCE_FLOOR_count : Fld := ⟨R.VCE_FLOOR, 31, 0, .cntSat, .any⟩
def R.VCE_LASTFID_LO : Reg := ⟨0x900050, [(2, 0x1000)], 0, [], false⟩
def Fl.VCE_LASTFID_LO_frame_id : Fld := ⟨R.VCE_LASTFID_LO, 31, 0, .ro, .any⟩
def R.VCE_LASTFID_HI : Reg := ⟨0x900054, [(2, 0x1000)], 0, [], false⟩
def Fl.VCE_LASTFID_HI_frame_id : Fld := ⟨R.VCE_LASTFID_HI, 31, 0, .ro, .any⟩
def R.VCE_ROI_POS : Reg := ⟨0x900100, [(2, 0x1000), (0x10, 0x10)], 0, [], false⟩
def Fl.VCE_ROI_POS_y_or_h : Fld := ⟨R.VCE_ROI_POS, 31, 16, .rws, .any⟩
def Fl.VCE_ROI_POS_x_or_w : Fld := ⟨R.VCE_ROI_POS, 15, 0, .rws, .any⟩
def R.VCE_ROI_SIZE : Reg := ⟨0x900104, [(2, 0x1000), (0x10, 0x10)], 0, [], false⟩
def Fl.VCE_ROI_SIZE_y_or_h : Fld := ⟨R.VCE_ROI_SIZE, 31, 16, .rws, .any⟩
def Fl.VCE_ROI_SIZE_x_or_w : Fld := ⟨R.VCE_ROI_SIZE, 15, 0, .rws, .any⟩
def R.VCE_ROI_CTL : Reg := ⟨0x900108, [(2, 0x1000), (0x10, 0x10)], 0, [], false⟩
def Fl.VCE_ROI_CTL_en : Fld := ⟨R.VCE_ROI_CTL, 31, 31, .rws, .any⟩
def Fl.VCE_ROI_CTL_dqp : Fld := ⟨R.VCE_ROI_CTL, 7, 0, .rws, .signedAbs 51⟩
def R.VCE_RTP_CTRL : Reg := ⟨0x900200, [(2, 0x1000)], 0x4000, [], false⟩
def Fl.VCE_RTP_CTRL_en : Fld := ⟨R.VCE_RTP_CTRL, 31, 31, .rw, .any⟩
def Fl.VCE_RTP_CTRL_ipv6 : Fld := ⟨R.VCE_RTP_CTRL, 30, 30, .rw, .any⟩
def Fl.VCE_RTP_CTRL_vlan_en : Fld := ⟨R.VCE_RTP_CTRL, 29, 29, .rw, .any⟩
def Fl.VCE_RTP_CTRL_ap_en : Fld := ⟨R.VCE_RTP_CTRL, 28, 28, .rw, .any⟩
def Fl.VCE_RTP_CTRL_port : Fld := ⟨R.VCE_RTP_CTRL, 27, 26, .rw, .any⟩
def Fl.VCE_RTP_CTRL_ts_base : Fld := ⟨R.VCE_RTP_CTRL, 25, 24, .rw, .le 1⟩
def Fl.VCE_RTP_CTRL_hop : Fld := ⟨R.VCE_RTP_CTRL, 23, 16, .rw, .any⟩
def Fl.VCE_RTP_CTRL_pt : Fld := ⟨R.VCE_RTP_CTRL, 14, 8, .rw, .ge 96⟩
def Fl.VCE_RTP_CTRL_dscp : Fld := ⟨R.VCE_RTP_CTRL, 5, 0, .rw, .any⟩
def R.VCE_RTP_DMAC_LO : Reg := ⟨0x900204, [(2, 0x1000)], 0, [], false⟩
def Fl.VCE_RTP_DMAC_LO_value : Fld := ⟨R.VCE_RTP_DMAC_LO, 31, 0, .rw, .any⟩
def R.VCE_RTP_DMAC_HI : Reg := ⟨0x900208, [(2, 0x1000)], 0, [], false⟩
def Fl.VCE_RTP_DMAC_HI_value : Fld := ⟨R.VCE_RTP_DMAC_HI, 15, 0, .rw, .any⟩
def R.VCE_RTP_SIP : Reg := ⟨0x900210, [(2, 0x1000), (4, 4)], 0, [], false⟩
def Fl.VCE_RTP_SIP_value : Fld := ⟨R.VCE_RTP_SIP, 31, 0, .rw, .any⟩
def R.VCE_RTP_DIP : Reg := ⟨0x900220, [(2, 0x1000), (4, 4)], 0, [], false⟩
def Fl.VCE_RTP_DIP_value : Fld := ⟨R.VCE_RTP_DIP, 31, 0, .rw, .any⟩
def R.VCE_RTP_PORTS : Reg := ⟨0x900230, [(2, 0x1000)], 0, [], false⟩
def Fl.VCE_RTP_PORTS_value : Fld := ⟨R.VCE_RTP_PORTS, 31, 0, .rw, .any⟩
def R.VCE_RTP_SSRC : Reg := ⟨0x900234, [(2, 0x1000)], 0, [], false⟩
def Fl.VCE_RTP_SSRC_value : Fld := ⟨R.VCE_RTP_SSRC, 31, 0, .rw, .any⟩
def R.VCE_RTP_SEQ : Reg := ⟨0x900238, [(2, 0x1000)], 0, [], false⟩
def Fl.VCE_RTP_SEQ_value : Fld := ⟨R.VCE_RTP_SEQ, 15, 0, .rw, .any⟩
def R.VCE_RTP_TSOFF : Reg := ⟨0x90023c, [(2, 0x1000)], 0, [], false⟩
def Fl.VCE_RTP_TSOFF_value : Fld := ⟨R.VCE_RTP_TSOFF, 31, 0, .rw, .any⟩
def R.VCE_RTP_VLAN : Reg := ⟨0x900240, [(2, 0x1000)], 0, [], false⟩
def Fl.VCE_RTP_VLAN_value : Fld := ⟨R.VCE_RTP_VLAN, 15, 0, .rw, .any⟩
def R.VCE_RTP_MTU : Reg := ⟨0x900244, [(2, 0x1000)], 0x5dc, [], false⟩
def Fl.VCE_RTP_MTU_value : Fld := ⟨R.VCE_RTP_MTU, 31, 0, .rw, .any⟩
def R.VCE_RTP_PACE : Reg := ⟨0x900248, [(2, 0x1000)], 0, [], false⟩
def Fl.VCE_RTP_PACE_value : Fld := ⟨R.VCE_RTP_PACE, 31, 0, .rw, .any⟩
def R.VCE_RTP_PKTS : Reg := ⟨0x90024c, [(2, 0x1000)], 0, [], false⟩
def Fl.VCE_RTP_PKTS_count : Fld := ⟨R.VCE_RTP_PKTS, 31, 0, .cnt, .any⟩
def R.VCE_RTP_SKIP : Reg := ⟨0x900250, [(2, 0x1000)], 0, [], false⟩
def Fl.VCE_RTP_SKIP_count : Fld := ⟨R.VCE_RTP_SKIP, 31, 0, .cntSat, .any⟩
def R.VCE_D_CTRL : Reg := ⟨0x902000, [], 0, [], false⟩
def Fl.VCE_D_CTRL_ev_en : Fld := ⟨R.VCE_D_CTRL, 31, 31, .rw, .any⟩
def Fl.VCE_D_CTRL_host_out : Fld := ⟨R.VCE_D_CTRL, 1, 1, .rws, .any⟩
def Fl.VCE_D_CTRL_enable : Fld := ⟨R.VCE_D_CTRL, 0, 0, .rws, .any⟩
def R.VCE_D_RING_LO : Reg := ⟨0x902004, [], 0, [], false⟩
def Fl.VCE_D_RING_LO_addr : Fld := ⟨R.VCE_D_RING_LO, 31, 12, .rws, .any⟩
def R.VCE_D_RING_HI : Reg := ⟨0x902008, [], 0, [], false⟩
def Fl.VCE_D_RING_HI_addr : Fld := ⟨R.VCE_D_RING_HI, 31, 0, .rws, .any⟩
def R.VCE_D_OUT_LO : Reg := ⟨0x90200c, [], 0, [], false⟩
def Fl.VCE_D_OUT_LO_addr : Fld := ⟨R.VCE_D_OUT_LO, 31, 12, .rws, .any⟩
def R.VCE_D_OUT_HI : Reg := ⟨0x902010, [], 0, [], false⟩
def Fl.VCE_D_OUT_HI_addr : Fld := ⟨R.VCE_D_OUT_HI, 31, 0, .rws, .any⟩
def R.VCE_D_WORK_LO : Reg := ⟨0x902014, [], 0, [], false⟩
def Fl.VCE_D_WORK_LO_addr : Fld := ⟨R.VCE_D_WORK_LO, 31, 12, .rws, .any⟩
def R.VCE_D_WORK_HI : Reg := ⟨0x902018, [], 0, [], false⟩
def Fl.VCE_D_WORK_HI_addr : Fld := ⟨R.VCE_D_WORK_HI, 31, 0, .rws, .any⟩
def R.VCE_D_RCTL : Reg := ⟨0x90201c, [], 0x60010, [], false⟩
def Fl.VCE_D_RCTL_log2size : Fld := ⟨R.VCE_D_RCTL, 20, 16, .rws, .range 4 16⟩
def Fl.VCE_D_RCTL_class : Fld := ⟨R.VCE_D_RCTL, 5, 4, .rws, .le 2⟩
def Fl.VCE_D_RCTL_host : Fld := ⟨R.VCE_D_RCTL, 1, 1, .rws, .any⟩
def R.VCE_D_OSLOT : Reg := ⟨0x902020, [], 0x4000000, [], false⟩
def Fl.VCE_D_OSLOT_slots : Fld := ⟨R.VCE_D_OSLOT, 31, 24, .rws, .range 1 64⟩
def Fl.VCE_D_OSLOT_stride : Fld := ⟨R.VCE_D_OSLOT, 23, 0, .rws, .any⟩
def R.VCE_D_WORKSZ : Reg := ⟨0x902024, [], 0, [], false⟩
def Fl.VCE_D_WORKSZ_mib : Fld := ⟨R.VCE_D_WORKSZ, 15, 0, .rws, .any⟩
def R.VCE_D_TAIL : Reg := ⟨0x902028, [], 0, [], false⟩
def Fl.VCE_D_TAIL_count : Fld := ⟨R.VCE_D_TAIL, 31, 0, .rw, .any⟩
def R.VCE_D_HEAD : Reg := ⟨0x90202c, [], 0, [], false⟩
def Fl.VCE_D_HEAD_count : Fld := ⟨R.VCE_D_HEAD, 31, 0, .ro, .any⟩
def R.VCE_D_DONE : Reg := ⟨0x902030, [], 0, [], false⟩
def Fl.VCE_D_DONE_count : Fld := ⟨R.VCE_D_DONE, 31, 0, .rw, .any⟩
def R.VCE_D_PICS : Reg := ⟨0x902034, [], 0, [], false⟩
def Fl.VCE_D_PICS_count : Fld := ⟨R.VCE_D_PICS, 31, 0, .ro, .any⟩
def R.VCE_D_STAT : Reg := ⟨0x902038, [], 0, [], false⟩
def Fl.VCE_D_STAT_error : Fld := ⟨R.VCE_D_STAT, 3, 3, .w1c, .any⟩
def Fl.VCE_D_STAT_skipping : Fld := ⟨R.VCE_D_STAT, 2, 2, .st, .any⟩
def Fl.VCE_D_STAT_damaged : Fld := ⟨R.VCE_D_STAT, 1, 1, .st, .any⟩
def Fl.VCE_D_STAT_busy : Fld := ⟨R.VCE_D_STAT, 0, 0, .st, .any⟩
def R.VCE_D_ERRCNT : Reg := ⟨0x90203c, [], 0, [], false⟩
def Fl.VCE_D_ERRCNT_concealed : Fld := ⟨R.VCE_D_ERRCNT, 31, 16, .cntSat, .any⟩
def Fl.VCE_D_ERRCNT_discarded : Fld := ⟨R.VCE_D_ERRCNT, 15, 0, .cntSat, .any⟩

def Tb.VCE0 : List RegRow :=
  [⟨R.VCE_CTRL, [Fl.VCE_CTRL_ev_en, Fl.VCE_CTRL_profile, Fl.VCE_CTRL_tier, Fl.VCE_CTRL_level_idc, Fl.VCE_CTRL_rc, Fl.VCE_CTRL_slice_row, Fl.VCE_CTRL_gdr, Fl.VCE_CTRL_tskip, Fl.VCE_CTRL_sao, Fl.VCE_CTRL_enable]⟩,
   ⟨R.VCE_GOP, [Fl.VCE_GOP_idr_period, Fl.VCE_GOP_gdr_period, Fl.VCE_GOP_mgop, Fl.VCE_GOP_refs_m1]⟩,
   ⟨R.VCE_TICK, [Fl.VCE_TICK_value]⟩,
   ⟨R.VCE_SCALE, [Fl.VCE_SCALE_value]⟩,
   ⟨R.VCE_RATE, [Fl.VCE_RATE_value]⟩,
   ⟨R.VCE_CPB, [Fl.VCE_CPB_value]⟩,
   ⟨R.VCE_QP, [Fl.VCE_QP_qp_max, Fl.VCE_QP_qp_min, Fl.VCE_QP_qp_init, Fl.VCE_QP_dqp_p, Fl.VCE_QP_dqp_b]⟩,
   ⟨R.VCE_CLL, [Fl.VCE_CLL_max_cll, Fl.VCE_CLL_max_fall]⟩,
   ⟨R.VCE_WORK_LO, [Fl.VCE_WORK_LO_addr]⟩,
   ⟨R.VCE_WORK_HI, [Fl.VCE_WORK_HI_addr]⟩,
   ⟨R.VCE_ORING_LO, [Fl.VCE_ORING_LO_addr]⟩,
   ⟨R.VCE_ORING_HI, [Fl.VCE_ORING_HI_addr]⟩,
   ⟨R.VCE_ORING_SIZE, [Fl.VCE_ORING_SIZE_mib]⟩,
   ⟨R.VCE_OWR, [Fl.VCE_OWR_bytes]⟩,
   ⟨R.VCE_OHOST, [Fl.VCE_OHOST_bytes]⟩,
   ⟨R.VCE_OCTL, [Fl.VCE_OCTL_host_en]⟩,
   ⟨R.VCE_STAT, [Fl.VCE_STAT_held, Fl.VCE_STAT_cause, Fl.VCE_STAT_cfg_refused, Fl.VCE_STAT_coding, Fl.VCE_STAT_busy]⟩,
   ⟨R.VCE_PICS, [Fl.VCE_PICS_count]⟩,
   ⟨R.VCE_DROP, [Fl.VCE_DROP_count]⟩,
   ⟨R.VCE_FLOOR, [Fl.VCE_FLOOR_count]⟩]
def Tb.VCE1 : List RegRow :=
  [⟨R.VCE_LASTFID_LO, [Fl.VCE_LASTFID_LO_frame_id]⟩,
   ⟨R.VCE_LASTFID_HI, [Fl.VCE_LASTFID_HI_frame_id]⟩,
   ⟨R.VCE_ROI_POS, [Fl.VCE_ROI_POS_y_or_h, Fl.VCE_ROI_POS_x_or_w]⟩,
   ⟨R.VCE_ROI_SIZE, [Fl.VCE_ROI_SIZE_y_or_h, Fl.VCE_ROI_SIZE_x_or_w]⟩,
   ⟨R.VCE_ROI_CTL, [Fl.VCE_ROI_CTL_en, Fl.VCE_ROI_CTL_dqp]⟩,
   ⟨R.VCE_RTP_CTRL, [Fl.VCE_RTP_CTRL_en, Fl.VCE_RTP_CTRL_ipv6, Fl.VCE_RTP_CTRL_vlan_en, Fl.VCE_RTP_CTRL_ap_en, Fl.VCE_RTP_CTRL_port, Fl.VCE_RTP_CTRL_ts_base, Fl.VCE_RTP_CTRL_hop, Fl.VCE_RTP_CTRL_pt, Fl.VCE_RTP_CTRL_dscp]⟩,
   ⟨R.VCE_RTP_DMAC_LO, [Fl.VCE_RTP_DMAC_LO_value]⟩,
   ⟨R.VCE_RTP_DMAC_HI, [Fl.VCE_RTP_DMAC_HI_value]⟩,
   ⟨R.VCE_RTP_SIP, [Fl.VCE_RTP_SIP_value]⟩,
   ⟨R.VCE_RTP_DIP, [Fl.VCE_RTP_DIP_value]⟩,
   ⟨R.VCE_RTP_PORTS, [Fl.VCE_RTP_PORTS_value]⟩,
   ⟨R.VCE_RTP_SSRC, [Fl.VCE_RTP_SSRC_value]⟩,
   ⟨R.VCE_RTP_SEQ, [Fl.VCE_RTP_SEQ_value]⟩,
   ⟨R.VCE_RTP_TSOFF, [Fl.VCE_RTP_TSOFF_value]⟩,
   ⟨R.VCE_RTP_VLAN, [Fl.VCE_RTP_VLAN_value]⟩,
   ⟨R.VCE_RTP_MTU, [Fl.VCE_RTP_MTU_value]⟩,
   ⟨R.VCE_RTP_PACE, [Fl.VCE_RTP_PACE_value]⟩,
   ⟨R.VCE_RTP_PKTS, [Fl.VCE_RTP_PKTS_count]⟩,
   ⟨R.VCE_RTP_SKIP, [Fl.VCE_RTP_SKIP_count]⟩,
   ⟨R.VCE_D_CTRL, [Fl.VCE_D_CTRL_ev_en, Fl.VCE_D_CTRL_host_out, Fl.VCE_D_CTRL_enable]⟩]
def Tb.VCE2 : List RegRow :=
  [⟨R.VCE_D_RING_LO, [Fl.VCE_D_RING_LO_addr]⟩,
   ⟨R.VCE_D_RING_HI, [Fl.VCE_D_RING_HI_addr]⟩,
   ⟨R.VCE_D_OUT_LO, [Fl.VCE_D_OUT_LO_addr]⟩,
   ⟨R.VCE_D_OUT_HI, [Fl.VCE_D_OUT_HI_addr]⟩,
   ⟨R.VCE_D_WORK_LO, [Fl.VCE_D_WORK_LO_addr]⟩,
   ⟨R.VCE_D_WORK_HI, [Fl.VCE_D_WORK_HI_addr]⟩,
   ⟨R.VCE_D_RCTL, [Fl.VCE_D_RCTL_log2size, Fl.VCE_D_RCTL_class, Fl.VCE_D_RCTL_host]⟩,
   ⟨R.VCE_D_OSLOT, [Fl.VCE_D_OSLOT_slots, Fl.VCE_D_OSLOT_stride]⟩,
   ⟨R.VCE_D_WORKSZ, [Fl.VCE_D_WORKSZ_mib]⟩,
   ⟨R.VCE_D_TAIL, [Fl.VCE_D_TAIL_count]⟩,
   ⟨R.VCE_D_HEAD, [Fl.VCE_D_HEAD_count]⟩,
   ⟨R.VCE_D_DONE, [Fl.VCE_D_DONE_count]⟩,
   ⟨R.VCE_D_PICS, [Fl.VCE_D_PICS_count]⟩,
   ⟨R.VCE_D_STAT, [Fl.VCE_D_STAT_error, Fl.VCE_D_STAT_skipping, Fl.VCE_D_STAT_damaged, Fl.VCE_D_STAT_busy]⟩,
   ⟨R.VCE_D_ERRCNT, [Fl.VCE_D_ERRCNT_concealed, Fl.VCE_D_ERRCNT_discarded]⟩]
def Tb.VCE : List RegRow := Tb.VCE0 ++ Tb.VCE1 ++ Tb.VCE2

end Sys2Proof.Machine
end

