-- ==== Sys2Proof/Machine/RegsOut.lean ====
section
/-! DEFINITION. The registers of DISP, HBMC, OFL and TIME, written from the register tables of the
chapters 11, 12, 13, 14 of spec/: for each register its BAR0 offset (R6), its instances, its reset word (R7) and its fields
(bit range, R4; type, R32; permitted values, R9). -/

namespace Sys2Proof.Machine

/-! ### DISP -/

def R.DISP_CTRL : Reg := ⟨0xa00000, [], 0, [], false⟩
def Fl.DISP_CTRL_raster : Fld := ⟨R.DISP_CTRL, 15, 8, .rws, .oneOf ([0, 56, 57] ++ (List.range 8).flatMap fun r => [16 + r, 32 + r, 48 + r])⟩
def Fl.DISP_CTRL_lock : Fld := ⟨R.DISP_CTRL, 5, 4, .rws, .any⟩
def Fl.DISP_CTRL_enable : Fld := ⟨R.DISP_CTRL, 0, 0, .rws, .any⟩
def R.DISP_VPHASE : Reg := ⟨0xa00004, [], 0, [], false⟩
def Fl.DISP_VPHASE_value : Fld := ⟨R.DISP_VPHASE, 31, 0, .rws, .any⟩
def R.DISP_BG : Reg := ⟨0xa00008, [], 0, [], false⟩
def Fl.DISP_BG_value : Fld := ⟨R.DISP_BG, 29, 0, .rws, .any⟩
def R.DISP_STAT : Reg := ⟨0xa00010, [], 0, [], false⟩
def Fl.DISP_STAT_late_count : Fld := ⟨R.DISP_STAT, 31, 16, .cntSat, .any⟩
def Fl.DISP_STAT_commit_late : Fld := ⟨R.DISP_STAT, 2, 2, .w1c, .any⟩
def Fl.DISP_STAT_lock_lost : Fld := ⟨R.DISP_STAT, 1, 1, .w1c, .any⟩
def Fl.DISP_STAT_locked : Fld := ⟨R.DISP_STAT, 0, 0, .st, .any⟩
def R.DISP_FRAMES : Reg := ⟨0xa00014, [], 0, [], false⟩
def Fl.DISP_FRAMES_count : Fld := ⟨R.DISP_FRAMES, 31, 0, .cnt, .any⟩
def R.DISP_L_CTRL : Reg := ⟨0xa00100, [(4, 0x40)], 0xff0000, [], false⟩
def Fl.DISP_L_CTRL_static : Fld := ⟨R.DISP_L_CTRL, 31, 31, .rws, .any⟩
def Fl.DISP_L_CTRL_galpha : Fld := ⟨R.DISP_L_CTRL, 23, 16, .rws, .any⟩
def Fl.DISP_L_CTRL_zoom : Fld := ⟨R.DISP_L_CTRL, 13, 13, .rws, .any⟩
def Fl.DISP_L_CTRL_kind : Fld := ⟨R.DISP_L_CTRL, 11, 8, .rws, .le 4⟩
def Fl.DISP_L_CTRL_index : Fld := ⟨R.DISP_L_CTRL, 7, 0, .rws, .any⟩
def R.DISP_L_POS : Reg := ⟨0xa00104, [(4, 0x40)], 0, [], false⟩
def Fl.DISP_L_POS_y_or_h : Fld := ⟨R.DISP_L_POS, 31, 16, .rws, .any⟩
def Fl.DISP_L_POS_x_or_w : Fld := ⟨R.DISP_L_POS, 15, 0, .rws, .any⟩
def R.DISP_L_SURFWH : Reg := ⟨0xa00108, [(4, 0x40)], 0, [], false⟩
def Fl.DISP_L_SURFWH_y_or_h : Fld := ⟨R.DISP_L_SURFWH, 31, 16, .rws, .any⟩
def Fl.DISP_L_SURFWH_x_or_w : Fld := ⟨R.DISP_L_SURFWH, 15, 0, .rws, .any⟩
def R.DISP_L_SURFFMT : Reg := ⟨0xa0010c, [(4, 0x40)], 0, [], false⟩
def Fl.DISP_L_SURFFMT_fmt : Fld := ⟨R.DISP_L_SURFFMT, 31, 28, .rws, .le 3⟩
def Fl.DISP_L_SURFFMT_pitch : Fld := ⟨R.DISP_L_SURFFMT, 23, 0, .rws, .mult 64⟩
def R.DISP_L_SURF_LO : Reg := ⟨0xa00110, [(4, 0x40)], 0, [], false⟩
def Fl.DISP_L_SURF_LO_addr : Fld := ⟨R.DISP_L_SURF_LO, 31, 12, .rws, .any⟩
def R.DISP_L_SURF_HI : Reg := ⟨0xa00114, [(4, 0x40)], 0, [], false⟩
def Fl.DISP_L_SURF_HI_addr : Fld := ⟨R.DISP_L_SURF_HI, 31, 0, .rws, .any⟩
def R.DISP_L_STAT : Reg := ⟨0xa00118, [(4, 0x40)], 0, [], false⟩
def Fl.DISP_L_STAT_fmt_bad : Fld := ⟨R.DISP_L_STAT, 2, 2, .w1c, .any⟩
def Fl.DISP_L_STAT_underrun : Fld := ⟨R.DISP_L_STAT, 1, 1, .w1c, .any⟩
def Fl.DISP_L_STAT_held : Fld := ⟨R.DISP_L_STAT, 0, 0, .st, .any⟩
def R.DISP_L_CNT : Reg := ⟨0xa0011c, [(4, 0x40)], 0, [], false⟩
def Fl.DISP_L_CNT_underruns : Fld := ⟨R.DISP_L_CNT, 31, 16, .cntSat, .any⟩
def Fl.DISP_L_CNT_skipped : Fld := ⟨R.DISP_L_CNT, 15, 0, .cntSat, .any⟩
def R.DISP_L_LASTFID_LO : Reg := ⟨0xa00120, [(4, 0x40)], 0, [], false⟩
def Fl.DISP_L_LASTFID_LO_frame_id : Fld := ⟨R.DISP_L_LASTFID_LO, 31, 0, .ro, .any⟩
def R.DISP_L_LASTFID_HI : Reg := ⟨0xa00124, [(4, 0x40)], 0, [], false⟩
def Fl.DISP_L_LASTFID_HI_frame_id : Fld := ⟨R.DISP_L_LASTFID_HI, 31, 0, .ro, .any⟩
def R.DISP_O_CTRL : Reg := ⟨0xa01000, [(8, 0x40)], 0, [], false⟩
def Fl.DISP_O_CTRL_audio : Fld := ⟨R.DISP_O_CTRL, 31, 24, .rws, .any⟩
def Fl.DISP_O_CTRL_xfer : Fld := ⟨R.DISP_O_CTRL, 17, 16, .rws, .le 2⟩
def Fl.DISP_O_CTRL_mtx : Fld := ⟨R.DISP_O_CTRL, 12, 12, .rws, .any⟩
def Fl.DISP_O_CTRL_down : Fld := ⟨R.DISP_O_CTRL, 8, 8, .rws, .any⟩
def Fl.DISP_O_CTRL_enable : Fld := ⟨R.DISP_O_CTRL, 0, 0, .rws, .any⟩
def R.DISP_O_STAT : Reg := ⟨0xa01004, [(8, 0x40)], 0, [], false⟩
def Fl.DISP_O_STAT_link : Fld := ⟨R.DISP_O_STAT, 2, 0, .st, .any⟩
def R.DISP_D_CTRL : Reg := ⟨0xa02000, [(2, 0x100)], 0, [], false⟩
def Fl.DISP_D_CTRL_te_line : Fld := ⟨R.DISP_D_CTRL, 29, 24, .rws, .le 47⟩
def Fl.DISP_D_CTRL_te_pol : Fld := ⟨R.DISP_D_CTRL, 23, 23, .rws, .any⟩
def Fl.DISP_D_CTRL_te_en : Fld := ⟨R.DISP_D_CTRL, 22, 22, .rws, .any⟩
def Fl.DISP_D_CTRL_lanes : Fld := ⟨R.DISP_D_CTRL, 17, 16, .rws, .le 2⟩
def Fl.DISP_D_CTRL_ulps : Fld := ⟨R.DISP_D_CTRL, 11, 11, .rws, .any⟩
def Fl.DISP_D_CTRL_down : Fld := ⟨R.DISP_D_CTRL, 10, 10, .rws, .any⟩
def Fl.DISP_D_CTRL_fmt : Fld := ⟨R.DISP_D_CTRL, 9, 9, .rws, .any⟩
def Fl.DISP_D_CTRL_enable : Fld := ⟨R.DISP_D_CTRL, 0, 0, .rws, .any⟩
def R.DISP_D_RATE : Reg := ⟨0xa02004, [(2, 0x100)], 0x3e8, [], false⟩
def Fl.DISP_D_RATE_mbps : Fld := ⟨R.DISP_D_RATE, 12, 0, .rws, .range 80 4500⟩
def R.DISP_D_WIN : Reg := ⟨0xa02008, [(2, 0x100)], 0, [], false⟩
def Fl.DISP_D_WIN_y_or_h : Fld := ⟨R.DISP_D_WIN, 31, 16, .rws, .any⟩
def Fl.DISP_D_WIN_x_or_w : Fld := ⟨R.DISP_D_WIN, 15, 0, .rws, .any⟩
def R.DISP_D_SIZE : Reg := ⟨0xa0200c, [(2, 0x100)], 0, [], false⟩
def Fl.DISP_D_SIZE_y_or_h : Fld := ⟨R.DISP_D_SIZE, 31, 16, .rws, .any⟩
def Fl.DISP_D_SIZE_x_or_w : Fld := ⟨R.DISP_D_SIZE, 15, 0, .rws, .any⟩
def R.DISP_D_TEDLY : Reg := ⟨0xa02010, [(2, 0x100)], 0, [], false⟩
def Fl.DISP_D_TEDLY_value : Fld := ⟨R.DISP_D_TEDLY, 15, 0, .rws, .any⟩
def R.DISP_D_CALM : Reg := ⟨0xa02014, [(2, 0x100)], 0x78, [], false⟩
def Fl.DISP_D_CALM_value : Fld := ⟨R.DISP_D_CALM, 15, 0, .rws, .any⟩
def R.DISP_D_FB_LO : Reg := ⟨0xa02018, [(2, 0x100)], 0, [], false⟩
def Fl.DISP_D_FB_LO_addr : Fld := ⟨R.DISP_D_FB_LO, 31, 12, .rws, .any⟩
def R.DISP_D_FB_HI : Reg := ⟨0xa0201c, [(2, 0x100)], 0, [], false⟩
def Fl.DISP_D_FB_HI_addr : Fld := ⟨R.DISP_D_FB_HI, 31, 0, .rws, .any⟩
def R.DISP_D_CMD : Reg := ⟨0xa02020, [(2, 0x100)], 0, [], false⟩
def Fl.DISP_D_CMD_go : Fld := ⟨R.DISP_D_CMD, 31, 31, .go, .any⟩
def Fl.DISP_D_CMD_lp : Fld := ⟨R.DISP_D_CMD, 30, 30, .rw, .any⟩
def Fl.DISP_D_CMD_read : Fld := ⟨R.DISP_D_CMD, 29, 29, .rw, .any⟩
def Fl.DISP_D_CMD_length : Fld := ⟨R.DISP_D_CMD, 20, 16, .rw, .le 16⟩
def Fl.DISP_D_CMD_dt : Fld := ⟨R.DISP_D_CMD, 5, 0, .rw, .any⟩
def R.DISP_D_CMDDATA : Reg := ⟨0xa02024, [(2, 0x100), (4, 4)], 0, [], false⟩
def Fl.DISP_D_CMDDATA_bytes : Fld := ⟨R.DISP_D_CMDDATA, 31, 0, .rw, .any⟩
def R.DISP_D_RESP0 : Reg := ⟨0xa02034, [(2, 0x100)], 0, [], false⟩
def Fl.DISP_D_RESP0_bytes : Fld := ⟨R.DISP_D_RESP0, 31, 0, .ro, .any⟩
def R.DISP_D_RESP1 : Reg := ⟨0xa02038, [(2, 0x100)], 0, [], false⟩
def Fl.DISP_D_RESP1_bytes : Fld := ⟨R.DISP_D_RESP1, 31, 0, .ro, .any⟩
def R.DISP_D_STAT : Reg := ⟨0xa0203c, [(2, 0x100)], 0, [], false⟩
def Fl.DISP_D_STAT_resp_len : Fld := ⟨R.DISP_D_STAT, 19, 16, .st, .any⟩
def Fl.DISP_D_STAT_cmd_err : Fld := ⟨R.DISP_D_STAT, 4, 4, .w1c, .any⟩
def Fl.DISP_D_STAT_te_lost : Fld := ⟨R.DISP_D_STAT, 3, 3, .w1c, .any⟩
def Fl.DISP_D_STAT_calm : Fld := ⟨R.DISP_D_STAT, 2, 2, .st, .any⟩
def Fl.DISP_D_STAT_ulps : Fld := ⟨R.DISP_D_STAT, 1, 1, .st, .any⟩
def Fl.DISP_D_STAT_busy : Fld := ⟨R.DISP_D_STAT, 0, 0, .st, .any⟩
def R.DISP_D_CNT : Reg := ⟨0xa02040, [(2, 0x100)], 0, [], false⟩
def Fl.DISP_D_CNT_sent : Fld := ⟨R.DISP_D_CNT, 31, 16, .cnt, .any⟩
def Fl.DISP_D_CNT_dropped : Fld := ⟨R.DISP_D_CNT, 15, 0, .cntSat, .any⟩
def R.DISP_I_CTRL : Reg := ⟨0xa03000, [(2, 0x40)], 0x3000000, [], false⟩
def Fl.DISP_I_CTRL_slots : Fld := ⟨R.DISP_I_CTRL, 31, 24, .rws, .range 2 16⟩
def Fl.DISP_I_CTRL_enable : Fld := ⟨R.DISP_I_CTRL, 0, 0, .rws, .any⟩
def R.DISP_I_STRIDE : Reg := ⟨0xa03004, [(2, 0x40)], 0, [], false⟩
def Fl.DISP_I_STRIDE_stride : Fld := ⟨R.DISP_I_STRIDE, 23, 0, .rws, .any⟩
def R.DISP_I_BUF_LO : Reg := ⟨0xa03008, [(2, 0x40)], 0, [], false⟩
def Fl.DISP_I_BUF_LO_addr : Fld := ⟨R.DISP_I_BUF_LO, 31, 12, .rws, .any⟩
def R.DISP_I_BUF_HI : Reg := ⟨0xa0300c, [(2, 0x40)], 0, [], false⟩
def Fl.DISP_I_BUF_HI_addr : Fld := ⟨R.DISP_I_BUF_HI, 31, 0, .rws, .any⟩
def R.DISP_I_STAT : Reg := ⟨0xa03010, [(2, 0x40)], 0, [], false⟩
def Fl.DISP_I_STAT_format : Fld := ⟨R.DISP_I_STAT, 31, 24, .st, .any⟩
def Fl.DISP_I_STAT_payload_bad : Fld := ⟨R.DISP_I_STAT, 2, 2, .w1c, .any⟩
def Fl.DISP_I_STAT_lock_lost : Fld := ⟨R.DISP_I_STAT, 1, 1, .w1c, .any⟩
def Fl.DISP_I_STAT_locked : Fld := ⟨R.DISP_I_STAT, 0, 0, .st, .any⟩
def R.DISP_I_CRC : Reg := ⟨0xa03014, [(2, 0x40)], 0, [], false⟩
def Fl.DISP_I_CRC_count : Fld := ⟨R.DISP_I_CRC, 31, 0, .cntSat, .any⟩

def Tb.DISP0 : List RegRow :=
  [⟨R.DISP_CTRL, [Fl.DISP_CTRL_raster, Fl.DISP_CTRL_lock, Fl.DISP_CTRL_enable]⟩,
   ⟨R.DISP_VPHASE, [Fl.DISP_VPHASE_value]⟩,
   ⟨R.DISP_BG, [Fl.DISP_BG_value]⟩,
   ⟨R.DISP_STAT, [Fl.DISP_STAT_late_count, Fl.DISP_STAT_commit_late, Fl.DISP_STAT_lock_lost, Fl.DISP_STAT_locked]⟩,
   ⟨R.DISP_FRAMES, [Fl.DISP_FRAMES_count]⟩,
   ⟨R.DISP_L_CTRL, [Fl.DISP_L_CTRL_static, Fl.DISP_L_CTRL_galpha, Fl.DISP_L_CTRL_zoom, Fl.DISP_L_CTRL_kind, Fl.DISP_L_CTRL_index]⟩,
   ⟨R.DISP_L_POS, [Fl.DISP_L_POS_y_or_h, Fl.DISP_L_POS_x_or_w]⟩,
   ⟨R.DISP_L_SURFWH, [Fl.DISP_L_SURFWH_y_or_h, Fl.DISP_L_SURFWH_x_or_w]⟩,
   ⟨R.DISP_L_SURFFMT, [Fl.DISP_L_SURFFMT_fmt, Fl.DISP_L_SURFFMT_pitch]⟩,
   ⟨R.DISP_L_SURF_LO, [Fl.DISP_L_SURF_LO_addr]⟩,
   ⟨R.DISP_L_SURF_HI, [Fl.DISP_L_SURF_HI_addr]⟩,
   ⟨R.DISP_L_STAT, [Fl.DISP_L_STAT_fmt_bad, Fl.DISP_L_STAT_underrun, Fl.DISP_L_STAT_held]⟩,
   ⟨R.DISP_L_CNT, [Fl.DISP_L_CNT_underruns, Fl.DISP_L_CNT_skipped]⟩,
   ⟨R.DISP_L_LASTFID_LO, [Fl.DISP_L_LASTFID_LO_frame_id]⟩,
   ⟨R.DISP_L_LASTFID_HI, [Fl.DISP_L_LASTFID_HI_frame_id]⟩,
   ⟨R.DISP_O_CTRL, [Fl.DISP_O_CTRL_audio, Fl.DISP_O_CTRL_xfer, Fl.DISP_O_CTRL_mtx, Fl.DISP_O_CTRL_down, Fl.DISP_O_CTRL_enable]⟩,
   ⟨R.DISP_O_STAT, [Fl.DISP_O_STAT_link]⟩,
   ⟨R.DISP_D_CTRL, [Fl.DISP_D_CTRL_te_line, Fl.DISP_D_CTRL_te_pol, Fl.DISP_D_CTRL_te_en, Fl.DISP_D_CTRL_lanes, Fl.DISP_D_CTRL_ulps, Fl.DISP_D_CTRL_down, Fl.DISP_D_CTRL_fmt, Fl.DISP_D_CTRL_enable]⟩,
   ⟨R.DISP_D_RATE, [Fl.DISP_D_RATE_mbps]⟩,
   ⟨R.DISP_D_WIN, [Fl.DISP_D_WIN_y_or_h, Fl.DISP_D_WIN_x_or_w]⟩]
def Tb.DISP1 : List RegRow :=
  [⟨R.DISP_D_SIZE, [Fl.DISP_D_SIZE_y_or_h, Fl.DISP_D_SIZE_x_or_w]⟩,
   ⟨R.DISP_D_TEDLY, [Fl.DISP_D_TEDLY_value]⟩,
   ⟨R.DISP_D_CALM, [Fl.DISP_D_CALM_value]⟩,
   ⟨R.DISP_D_FB_LO, [Fl.DISP_D_FB_LO_addr]⟩,
   ⟨R.DISP_D_FB_HI, [Fl.DISP_D_FB_HI_addr]⟩,
   ⟨R.DISP_D_CMD, [Fl.DISP_D_CMD_go, Fl.DISP_D_CMD_lp, Fl.DISP_D_CMD_read, Fl.DISP_D_CMD_length, Fl.DISP_D_CMD_dt]⟩,
   ⟨R.DISP_D_CMDDATA, [Fl.DISP_D_CMDDATA_bytes]⟩,
   ⟨R.DISP_D_RESP0, [Fl.DISP_D_RESP0_bytes]⟩,
   ⟨R.DISP_D_RESP1, [Fl.DISP_D_RESP1_bytes]⟩,
   ⟨R.DISP_D_STAT, [Fl.DISP_D_STAT_resp_len, Fl.DISP_D_STAT_cmd_err, Fl.DISP_D_STAT_te_lost, Fl.DISP_D_STAT_calm, Fl.DISP_D_STAT_ulps, Fl.DISP_D_STAT_busy]⟩,
   ⟨R.DISP_D_CNT, [Fl.DISP_D_CNT_sent, Fl.DISP_D_CNT_dropped]⟩,
   ⟨R.DISP_I_CTRL, [Fl.DISP_I_CTRL_slots, Fl.DISP_I_CTRL_enable]⟩,
   ⟨R.DISP_I_STRIDE, [Fl.DISP_I_STRIDE_stride]⟩,
   ⟨R.DISP_I_BUF_LO, [Fl.DISP_I_BUF_LO_addr]⟩,
   ⟨R.DISP_I_BUF_HI, [Fl.DISP_I_BUF_HI_addr]⟩,
   ⟨R.DISP_I_STAT, [Fl.DISP_I_STAT_format, Fl.DISP_I_STAT_payload_bad, Fl.DISP_I_STAT_lock_lost, Fl.DISP_I_STAT_locked]⟩,
   ⟨R.DISP_I_CRC, [Fl.DISP_I_CRC_count]⟩]
def Tb.DISP : List RegRow := Tb.DISP0 ++ Tb.DISP1

/-! ### HBMC -/

def R.HBMC_CH_STAT : Reg := ⟨0xb00000, [(0x40, 0x4000)], 0, [], false⟩
def Fl.HBMC_CH_STAT_resync_done : Fld := ⟨R.HBMC_CH_STAT, 9, 9, .w1c, .any⟩
def Fl.HBMC_CH_STAT_froze : Fld := ⟨R.HBMC_CH_STAT, 8, 8, .w1c, .any⟩
def Fl.HBMC_CH_STAT_state : Fld := ⟨R.HBMC_CH_STAT, 2, 0, .st, .any⟩
def R.HBMC_CH_CTRL : Reg := ⟨0xb00004, [(0x40, 0x4000)], 2, [], false⟩
def Fl.HBMC_CH_CTRL_ppr : Fld := ⟨R.HBMC_CH_CTRL, 1, 1, .rw, .any⟩
def Fl.HBMC_CH_CTRL_release : Fld := ⟨R.HBMC_CH_CTRL, 0, 0, .go, .any⟩
def R.HBMC_CH_CE : Reg := ⟨0xb00008, [(0x40, 0x4000)], 0, [], false⟩
def Fl.HBMC_CH_CE_count : Fld := ⟨R.HBMC_CH_CE, 31, 0, .cntSat, .any⟩
def R.HBMC_CH_UE : Reg := ⟨0xb0000c, [(0x40, 0x4000)], 0, [], false⟩
def Fl.HBMC_CH_UE_count : Fld := ⟨R.HBMC_CH_UE, 31, 0, .cntSat, .any⟩
def R.HBMC_CH_CAPAR : Reg := ⟨0xb00010, [(0x40, 0x4000)], 0, [], false⟩
def Fl.HBMC_CH_CAPAR_count : Fld := ⟨R.HBMC_CH_CAPAR, 31, 0, .cntSat, .any⟩
def R.HBMC_CH_FRZ_CAUSE : Reg := ⟨0xb00020, [(0x40, 0x4000)], 0, [], false⟩
def Fl.HBMC_CH_FRZ_CAUSE_cmd : Fld := ⟨R.HBMC_CH_FRZ_CAUSE, 7, 4, .ro, .any⟩
def Fl.HBMC_CH_FRZ_CAUSE_cause : Fld := ⟨R.HBMC_CH_FRZ_CAUSE, 3, 0, .ro, .any⟩
def R.HBMC_CH_FRZ_PA_LO : Reg := ⟨0xb00024, [(0x40, 0x4000)], 0, [], false⟩
def Fl.HBMC_CH_FRZ_PA_LO_addr : Fld := ⟨R.HBMC_CH_FRZ_PA_LO, 31, 0, .ro, .any⟩
def R.HBMC_CH_FRZ_PA_HI : Reg := ⟨0xb00028, [(0x40, 0x4000)], 0, [], false⟩
def Fl.HBMC_CH_FRZ_PA_HI_addr : Fld := ⟨R.HBMC_CH_FRZ_PA_HI, 31, 0, .ro, .any⟩
def R.HBMC_CH_FRZ_LOC : Reg := ⟨0xb0002c, [(0x40, 0x4000)], 0, [], false⟩
def Fl.HBMC_CH_FRZ_LOC_row : Fld := ⟨R.HBMC_CH_FRZ_LOC, 31, 17, .ro, .any⟩
def Fl.HBMC_CH_FRZ_LOC_pc : Fld := ⟨R.HBMC_CH_FRZ_LOC, 16, 16, .ro, .any⟩
def Fl.HBMC_CH_FRZ_LOC_sid : Fld := ⟨R.HBMC_CH_FRZ_LOC, 15, 14, .ro, .any⟩
def Fl.HBMC_CH_FRZ_LOC_bg : Fld := ⟨R.HBMC_CH_FRZ_LOC, 13, 12, .ro, .any⟩
def Fl.HBMC_CH_FRZ_LOC_bank : Fld := ⟨R.HBMC_CH_FRZ_LOC, 11, 10, .ro, .any⟩
def Fl.HBMC_CH_FRZ_LOC_col : Fld := ⟨R.HBMC_CH_FRZ_LOC, 9, 6, .ro, .any⟩
def R.HBMC_CH_FRZ_SYND : Reg := ⟨0xb00030, [(0x40, 0x4000)], 0, [], false⟩
def Fl.HBMC_CH_FRZ_SYND_synd : Fld := ⟨R.HBMC_CH_FRZ_SYND, 31, 0, .ro, .any⟩
def R.HBMC_CH_FRZ_TIME_LO : Reg := ⟨0xb00034, [(0x40, 0x4000)], 0, [], false⟩
def Fl.HBMC_CH_FRZ_TIME_LO_time : Fld := ⟨R.HBMC_CH_FRZ_TIME_LO, 31, 0, .ro, .any⟩
def R.HBMC_CH_FRZ_TIME_HI : Reg := ⟨0xb00038, [(0x40, 0x4000)], 0, [], false⟩
def Fl.HBMC_CH_FRZ_TIME_HI_time : Fld := ⟨R.HBMC_CH_FRZ_TIME_HI, 31, 0, .ro, .any⟩
def R.HBMC_CH_RESYNC : Reg := ⟨0xb00040, [(0x40, 0x4000)], 0, [], false⟩
def Fl.HBMC_CH_RESYNC_active : Fld := ⟨R.HBMC_CH_RESYNC, 31, 31, .st, .any⟩
def Fl.HBMC_CH_RESYNC_permille : Fld := ⟨R.HBMC_CH_RESYNC, 9, 0, .st, .any⟩
def R.HBMC_CH_PPR : Reg := ⟨0xb00044, [(0x40, 0x4000)], 0, [], false⟩
def Fl.HBMC_CH_PPR_go : Fld := ⟨R.HBMC_CH_PPR, 31, 31, .go, .any⟩
def Fl.HBMC_CH_PPR_fail : Fld := ⟨R.HBMC_CH_PPR, 30, 30, .w1c, .any⟩
def Fl.HBMC_CH_PPR_hard : Fld := ⟨R.HBMC_CH_PPR, 29, 29, .rw, .any⟩
def Fl.HBMC_CH_PPR_pc : Fld := ⟨R.HBMC_CH_PPR, 21, 21, .rw, .any⟩
def Fl.HBMC_CH_PPR_bank : Fld := ⟨R.HBMC_CH_PPR, 20, 15, .rw, .le 47⟩
def Fl.HBMC_CH_PPR_row : Fld := ⟨R.HBMC_CH_PPR, 14, 0, .rw, .le 24575⟩
def R.HBMC_CH_RDACC : Reg := ⟨0xb00080, [(0x40, 0x4000)], 0, [], false⟩
def Fl.HBMC_CH_RDACC_count : Fld := ⟨R.HBMC_CH_RDACC, 31, 0, .cnt, .any⟩
def R.HBMC_CH_WRACC : Reg := ⟨0xb00084, [(0x40, 0x4000)], 0, [], false⟩
def Fl.HBMC_CH_WRACC_count : Fld := ⟨R.HBMC_CH_WRACC, 31, 0, .cnt, .any⟩
def R.HBMC_CH_ACT : Reg := ⟨0xb00088, [(0x40, 0x4000)], 0, [], false⟩
def Fl.HBMC_CH_ACT_count : Fld := ⟨R.HBMC_CH_ACT, 31, 0, .cnt, .any⟩
def R.HBMC_CH_PANICCYC : Reg := ⟨0xb0008c, [(0x40, 0x4000)], 0, [], false⟩
def Fl.HBMC_CH_PANICCYC_count : Fld := ⟨R.HBMC_CH_PANICCYC, 31, 0, .cnt, .any⟩
def R.HBMC_CH_DLY : Reg := ⟨0xb00200, [(0x40, 0x4000), (0x48, 4)], 0, [], false⟩
def Fl.HBMC_CH_DLY_scan : Fld := ⟨R.HBMC_CH_DLY, 15, 8, .ro, .any⟩
def Fl.HBMC_CH_DLY_main : Fld := ⟨R.HBMC_CH_DLY, 7, 0, .ro, .any⟩
def R.HBMC_CH_TRAIN : Reg := ⟨0xb00400, [(0x40, 0x4000)], 0, [], false⟩
def Fl.HBMC_CH_TRAIN_scans : Fld := ⟨R.HBMC_CH_TRAIN, 31, 16, .ro, .any⟩
def Fl.HBMC_CH_TRAIN_margin : Fld := ⟨R.HBMC_CH_TRAIN, 7, 0, .ro, .any⟩
def R.HBMC_CFG : Reg := ⟨0xb03000, [], 0x5f180100, [], false⟩
def Fl.HBMC_CFG_temp_alarm : Fld := ⟨R.HBMC_CFG, 31, 24, .rw, .any⟩
def Fl.HBMC_CFG_scrub_h : Fld := ⟨R.HBMC_CFG, 23, 16, .rw, .any⟩
def Fl.HBMC_CFG_auto : Fld := ⟨R.HBMC_CFG, 8, 8, .rw, .any⟩
def R.HBMC_REFRESH : Reg := ⟨0xb03004, [], 0xf3c, [], false⟩
def Fl.HBMC_REFRESH_hot : Fld := ⟨R.HBMC_REFRESH, 31, 31, .st, .any⟩
def Fl.HBMC_REFRESH_trefi_ns : Fld := ⟨R.HBMC_REFRESH, 15, 0, .st, .any⟩
def R.HBMC_TEMP : Reg := ⟨0xb03010, [(4, 4)], 0, [], false⟩
def Fl.HBMC_TEMP_max : Fld := ⟨R.HBMC_TEMP, 31, 24, .st, .any⟩
def Fl.HBMC_TEMP_now : Fld := ⟨R.HBMC_TEMP, 7, 0, .st, .any⟩
def R.HBMC_PANIC : Reg := ⟨0xb03020, [], 0xfa01f4, [], false⟩
def Fl.HBMC_PANIC_hyst : Fld := ⟨R.HBMC_PANIC, 31, 16, .rw, .any⟩
def Fl.HBMC_PANIC_mark : Fld := ⟨R.HBMC_PANIC, 15, 0, .rw, .ge 1⟩
def R.HBMC_PANIC_CNT : Reg := ⟨0xb03024, [], 0, [], false⟩
def Fl.HBMC_PANIC_CNT_count : Fld := ⟨R.HBMC_PANIC_CNT, 31, 0, .cntSat, .any⟩
def R.HBMC_RTMISS : Reg := ⟨0xb03028, [], 0, [], false⟩
def Fl.HBMC_RTMISS_count : Fld := ⟨R.HBMC_RTMISS, 31, 0, .cntSat, .any⟩
def R.HBMC_GROUPS : Reg := ⟨0xb03030, [], 0, [], false⟩
def Fl.HBMC_GROUPS_lost : Fld := ⟨R.HBMC_GROUPS, 15, 8, .st, .any⟩
def Fl.HBMC_GROUPS_degraded : Fld := ⟨R.HBMC_GROUPS, 7, 0, .st, .any⟩
def R.HBMC_MAP : Reg := ⟨0xb03100, [(0x40, 4)], 0, [], false⟩
def Fl.HBMC_MAP_valid : Fld := ⟨R.HBMC_MAP, 31, 31, .st, .any⟩
def Fl.HBMC_MAP_protected : Fld := ⟨R.HBMC_MAP, 30, 30, .st, .any⟩
def Fl.HBMC_MAP_pbase : Fld := ⟨R.HBMC_MAP, 16, 0, .st, .any⟩

def Tb.HBMC0 : List RegRow :=
  [⟨R.HBMC_CH_STAT, [Fl.HBMC_CH_STAT_resync_done, Fl.HBMC_CH_STAT_froze, Fl.HBMC_CH_STAT_state]⟩,
   ⟨R.HBMC_CH_CTRL, [Fl.HBMC_CH_CTRL_ppr, Fl.HBMC_CH_CTRL_release]⟩,
   ⟨R.HBMC_CH_CE, [Fl.HBMC_CH_CE_count]⟩,
   ⟨R.HBMC_CH_UE, [Fl.HBMC_CH_UE_count]⟩,
   ⟨R.HBMC_CH_CAPAR, [Fl.HBMC_CH_CAPAR_count]⟩,
   ⟨R.HBMC_CH_FRZ_CAUSE, [Fl.HBMC_CH_FRZ_CAUSE_cmd, Fl.HBMC_CH_FRZ_CAUSE_cause]⟩,
   ⟨R.HBMC_CH_FRZ_PA_LO, [Fl.HBMC_CH_FRZ_PA_LO_addr]⟩,
   ⟨R.HBMC_CH_FRZ_PA_HI, [Fl.HBMC_CH_FRZ_PA_HI_addr]⟩,
   ⟨R.HBMC_CH_FRZ_LOC, [Fl.HBMC_CH_FRZ_LOC_row, Fl.HBMC_CH_FRZ_LOC_pc, Fl.HBMC_CH_FRZ_LOC_sid, Fl.HBMC_CH_FRZ_LOC_bg, Fl.HBMC_CH_FRZ_LOC_bank, Fl.HBMC_CH_FRZ_LOC_col]⟩,
   ⟨R.HBMC_CH_FRZ_SYND, [Fl.HBMC_CH_FRZ_SYND_synd]⟩,
   ⟨R.HBMC_CH_FRZ_TIME_LO, [Fl.HBMC_CH_FRZ_TIME_LO_time]⟩,
   ⟨R.HBMC_CH_FRZ_TIME_HI, [Fl.HBMC_CH_FRZ_TIME_HI_time]⟩,
   ⟨R.HBMC_CH_RESYNC, [Fl.HBMC_CH_RESYNC_active, Fl.HBMC_CH_RESYNC_permille]⟩,
   ⟨R.HBMC_CH_PPR, [Fl.HBMC_CH_PPR_go, Fl.HBMC_CH_PPR_fail, Fl.HBMC_CH_PPR_hard, Fl.HBMC_CH_PPR_pc, Fl.HBMC_CH_PPR_bank, Fl.HBMC_CH_PPR_row]⟩,
   ⟨R.HBMC_CH_RDACC, [Fl.HBMC_CH_RDACC_count]⟩,
   ⟨R.HBMC_CH_WRACC, [Fl.HBMC_CH_WRACC_count]⟩,
   ⟨R.HBMC_CH_ACT, [Fl.HBMC_CH_ACT_count]⟩,
   ⟨R.HBMC_CH_PANICCYC, [Fl.HBMC_CH_PANICCYC_count]⟩,
   ⟨R.HBMC_CH_DLY, [Fl.HBMC_CH_DLY_scan, Fl.HBMC_CH_DLY_main]⟩,
   ⟨R.HBMC_CH_TRAIN, [Fl.HBMC_CH_TRAIN_scans, Fl.HBMC_CH_TRAIN_margin]⟩]
def Tb.HBMC1 : List RegRow :=
  [⟨R.HBMC_CFG, [Fl.HBMC_CFG_temp_alarm, Fl.HBMC_CFG_scrub_h, Fl.HBMC_CFG_auto]⟩,
   ⟨R.HBMC_REFRESH, [Fl.HBMC_REFRESH_hot, Fl.HBMC_REFRESH_trefi_ns]⟩,
   ⟨R.HBMC_TEMP, [Fl.HBMC_TEMP_max, Fl.HBMC_TEMP_now]⟩,
   ⟨R.HBMC_PANIC, [Fl.HBMC_PANIC_hyst, Fl.HBMC_PANIC_mark]⟩,
   ⟨R.HBMC_PANIC_CNT, [Fl.HBMC_PANIC_CNT_count]⟩,
   ⟨R.HBMC_RTMISS, [Fl.HBMC_RTMISS_count]⟩,
   ⟨R.HBMC_GROUPS, [Fl.HBMC_GROUPS_lost, Fl.HBMC_GROUPS_degraded]⟩,
   ⟨R.HBMC_MAP, [Fl.HBMC_MAP_valid, Fl.HBMC_MAP_protected, Fl.HBMC_MAP_pbase]⟩]
def Tb.HBMC : List RegRow := Tb.HBMC0 ++ Tb.HBMC1

/-! ### OFL -/

def R.OFL_CTRL : Reg := ⟨0xc00000, [], 0x7d000a0, [], false⟩
def Fl.OFL_CTRL_rlimit : Fld := ⟨R.OFL_CTRL, 31, 16, .rw, .any⟩
def Fl.OFL_CTRL_strate : Fld := ⟨R.OFL_CTRL, 7, 4, .rw, .ge 1⟩
def R.OFL_STAT : Reg := ⟨0xc00004, [], 0, [], false⟩
def Fl.OFL_STAT_link : Fld := ⟨R.OFL_STAT, 31, 31, .st, .any⟩
def Fl.OFL_STAT_speed : Fld := ⟨R.OFL_STAT, 30, 28, .st, .any⟩
def Fl.OFL_STAT_width : Fld := ⟨R.OFL_STAT, 27, 23, .st, .any⟩
def Fl.OFL_STAT_ps : Fld := ⟨R.OFL_STAT, 19, 18, .st, .any⟩
def Fl.OFL_STAT_transit : Fld := ⟨R.OFL_STAT, 17, 17, .st, .any⟩
def Fl.OFL_STAT_ns2 : Fld := ⟨R.OFL_STAT, 13, 13, .st, .any⟩
def Fl.OFL_STAT_ns1 : Fld := ⟨R.OFL_STAT, 12, 12, .st, .any⟩
def Fl.OFL_STAT_ns2_resync : Fld := ⟨R.OFL_STAT, 11, 11, .st, .any⟩
def Fl.OFL_STAT_stest : Fld := ⟨R.OFL_STAT, 10, 10, .st, .any⟩
def Fl.OFL_STAT_paused : Fld := ⟨R.OFL_STAT, 9, 9, .st, .any⟩
def Fl.OFL_STAT_rdy : Fld := ⟨R.OFL_STAT, 8, 8, .st, .any⟩
def Fl.OFL_STAT_en : Fld := ⟨R.OFL_STAT, 7, 7, .st, .any⟩
def Fl.OFL_STAT_fw_fail : Fld := ⟨R.OFL_STAT, 2, 2, .w1c, .any⟩
def Fl.OFL_STAT_ure : Fld := ⟨R.OFL_STAT, 1, 1, .w1c, .any⟩
def Fl.OFL_STAT_reset_seen : Fld := ⟨R.OFL_STAT, 0, 0, .w1c, .any⟩
def R.OFL_QUEUES : Reg := ⟨0xc00008, [], 0, [], false⟩
def Fl.OFL_QUEUES_sq : Fld := ⟨R.OFL_QUEUES, 22, 16, .st, .any⟩
def Fl.OFL_QUEUES_cq : Fld := ⟨R.OFL_QUEUES, 6, 0, .st, .any⟩
def R.OFL_OUTST : Reg := ⟨0xc0000c, [], 0, [], false⟩
def Fl.OFL_OUTST_commands : Fld := ⟨R.OFL_OUTST, 18, 0, .st, .any⟩
def R.OFL_RDBYTES_LO : Reg := ⟨0xc00010, [], 0, [], false⟩
def Fl.OFL_RDBYTES_LO_bytes : Fld := ⟨R.OFL_RDBYTES_LO, 31, 0, .cnt, .any⟩
def R.OFL_RDBYTES_HI : Reg := ⟨0xc00014, [], 0, [], false⟩
def Fl.OFL_RDBYTES_HI_bytes : Fld := ⟨R.OFL_RDBYTES_HI, 31, 0, .cnt, .any⟩
def R.OFL_WRBYTES_LO : Reg := ⟨0xc00018, [], 0, [], false⟩
def Fl.OFL_WRBYTES_LO_bytes : Fld := ⟨R.OFL_WRBYTES_LO, 31, 0, .cnt, .any⟩
def R.OFL_WRBYTES_HI : Reg := ⟨0xc0001c, [], 0, [], false⟩
def Fl.OFL_WRBYTES_HI_bytes : Fld := ⟨R.OFL_WRBYTES_HI, 31, 0, .cnt, .any⟩
def R.OFL_ERRCNT : Reg := ⟨0xc00020, [], 0, [], false⟩
def Fl.OFL_ERRCNT_ure : Fld := ⟨R.OFL_ERRCNT, 31, 16, .cntSat, .any⟩
def Fl.OFL_ERRCNT_other : Fld := ⟨R.OFL_ERRCNT, 15, 0, .cntSat, .any⟩
def R.OFL_RESETS : Reg := ⟨0xc00024, [], 0, [], false⟩
def Fl.OFL_RESETS_fw_act : Fld := ⟨R.OFL_RESETS, 31, 16, .cntSat, .any⟩
def Fl.OFL_RESETS_resets : Fld := ⟨R.OFL_RESETS, 15, 0, .cntSat, .any⟩
def R.OFL_STEST : Reg := ⟨0xc00028, [], 0, [], false⟩
def Fl.OFL_STEST_op : Fld := ⟨R.OFL_STEST, 31, 28, .st, .any⟩
def Fl.OFL_STEST_result : Fld := ⟨R.OFL_STEST, 27, 24, .st, .any⟩
def Fl.OFL_STEST_segment : Fld := ⟨R.OFL_STEST, 23, 20, .st, .any⟩
def Fl.OFL_STEST_percent : Fld := ⟨R.OFL_STEST, 6, 0, .st, .any⟩
def R.OFL_FWREV : Reg := ⟨0xc0002c, [], 0, [], false⟩
def Fl.OFL_FWREV_version : Fld := ⟨R.OFL_FWREV, 31, 0, .ro, .any⟩
def R.OFL_CACHE : Reg := ⟨0xc00030, [], 0, [], false⟩
def Fl.OFL_CACHE_dirty_mib : Fld := ⟨R.OFL_CACHE, 8, 0, .st, .any⟩

def Tb.OFL : List RegRow :=
  [⟨R.OFL_CTRL, [Fl.OFL_CTRL_rlimit, Fl.OFL_CTRL_strate]⟩,
   ⟨R.OFL_STAT, [Fl.OFL_STAT_link, Fl.OFL_STAT_speed, Fl.OFL_STAT_width, Fl.OFL_STAT_ps, Fl.OFL_STAT_transit, Fl.OFL_STAT_ns2, Fl.OFL_STAT_ns1, Fl.OFL_STAT_ns2_resync, Fl.OFL_STAT_stest, Fl.OFL_STAT_paused, Fl.OFL_STAT_rdy, Fl.OFL_STAT_en, Fl.OFL_STAT_fw_fail, Fl.OFL_STAT_ure, Fl.OFL_STAT_reset_seen]⟩,
   ⟨R.OFL_QUEUES, [Fl.OFL_QUEUES_sq, Fl.OFL_QUEUES_cq]⟩,
   ⟨R.OFL_OUTST, [Fl.OFL_OUTST_commands]⟩,
   ⟨R.OFL_RDBYTES_LO, [Fl.OFL_RDBYTES_LO_bytes]⟩,
   ⟨R.OFL_RDBYTES_HI, [Fl.OFL_RDBYTES_HI_bytes]⟩,
   ⟨R.OFL_WRBYTES_LO, [Fl.OFL_WRBYTES_LO_bytes]⟩,
   ⟨R.OFL_WRBYTES_HI, [Fl.OFL_WRBYTES_HI_bytes]⟩,
   ⟨R.OFL_ERRCNT, [Fl.OFL_ERRCNT_ure, Fl.OFL_ERRCNT_other]⟩,
   ⟨R.OFL_RESETS, [Fl.OFL_RESETS_fw_act, Fl.OFL_RESETS_resets]⟩,
   ⟨R.OFL_STEST, [Fl.OFL_STEST_op, Fl.OFL_STEST_result, Fl.OFL_STEST_segment, Fl.OFL_STEST_percent]⟩,
   ⟨R.OFL_FWREV, [Fl.OFL_FWREV_version]⟩,
   ⟨R.OFL_CACHE, [Fl.OFL_CACHE_dirty_mib]⟩]

/-! ### TIME -/

def R.TIME_DT_CTRL : Reg := ⟨0xf00000, [], 0x1002, [], false⟩
def Fl.TIME_DT_CTRL_auto : Fld := ⟨R.TIME_DT_CTRL, 12, 12, .rw, .any⟩
def Fl.TIME_DT_CTRL_go : Fld := ⟨R.TIME_DT_CTRL, 8, 8, .go, .any⟩
def Fl.TIME_DT_CTRL_mode : Fld := ⟨R.TIME_DT_CTRL, 4, 4, .rw, .any⟩
def Fl.TIME_DT_CTRL_target : Fld := ⟨R.TIME_DT_CTRL, 1, 0, .rw, .any⟩
def R.TIME_DT_STAT : Reg := ⟨0xf00004, [], 2, [], false⟩
def Fl.TIME_DT_STAT_switches : Fld := ⟨R.TIME_DT_STAT, 31, 16, .cntSat, .any⟩
def Fl.TIME_DT_STAT_stepped : Fld := ⟨R.TIME_DT_STAT, 9, 9, .w1c, .any⟩
def Fl.TIME_DT_STAT_switched : Fld := ⟨R.TIME_DT_STAT, 8, 8, .w1c, .any⟩
def Fl.TIME_DT_STAT_holdover : Fld := ⟨R.TIME_DT_STAT, 5, 5, .st, .any⟩
def Fl.TIME_DT_STAT_slewing : Fld := ⟨R.TIME_DT_STAT, 4, 4, .st, .any⟩
def Fl.TIME_DT_STAT_active : Fld := ⟨R.TIME_DT_STAT, 1, 0, .st, .any⟩
def R.TIME_DT_OFS_LO : Reg := ⟨0xf00008, [], 0, [], false⟩
def Fl.TIME_DT_OFS_LO_ns : Fld := ⟨R.TIME_DT_OFS_LO, 31, 0, .ro, .any⟩
def R.TIME_DT_OFS_HI : Reg := ⟨0xf0000c, [], 0, [], false⟩
def Fl.TIME_DT_OFS_HI_ns : Fld := ⟨R.TIME_DT_OFS_HI, 31, 0, .ro, .any⟩
def R.TIME_DT_NOW_LO : Reg := ⟨0xf00018, [], 0, [], false⟩
def Fl.TIME_DT_NOW_LO_ns : Fld := ⟨R.TIME_DT_NOW_LO, 31, 0, .ro, .any⟩
def R.TIME_DT_NOW_HI : Reg := ⟨0xf0001c, [], 0, [], false⟩
def Fl.TIME_DT_NOW_HI_ns : Fld := ⟨R.TIME_DT_NOW_HI, 31, 0, .ro, .any⟩
def R.TIME_DT_SLEW : Reg := ⟨0xf00014, [], 0x3e8, [], false⟩
def Fl.TIME_DT_SLEW_ppb : Fld := ⟨R.TIME_DT_SLEW, 9, 0, .rw, .range 1 1000⟩
def R.TIME_CAP : Reg := ⟨0xf00040, [], 0, [], false⟩
def Fl.TIME_CAP_go : Fld := ⟨R.TIME_CAP, 0, 0, .go, .any⟩
def R.TIME_CAP_DT_LO : Reg := ⟨0xf00044, [], 0, [], false⟩
def Fl.TIME_CAP_DT_LO_ns : Fld := ⟨R.TIME_CAP_DT_LO, 31, 0, .ro, .any⟩
def R.TIME_CAP_DT_HI : Reg := ⟨0xf00048, [], 0, [], false⟩
def Fl.TIME_CAP_DT_HI_ns : Fld := ⟨R.TIME_CAP_DT_HI, 31, 0, .ro, .any⟩
def R.TIME_CAP_TB_LO : Reg := ⟨0xf00050, [(4, 8)], 0, [], false⟩
def Fl.TIME_CAP_TB_LO_ns : Fld := ⟨R.TIME_CAP_TB_LO, 31, 0, .ro, .any⟩
def R.TIME_CAP_TB_HI : Reg := ⟨0xf00054, [(4, 8)], 0, [], false⟩
def Fl.TIME_CAP_TB_HI_ns : Fld := ⟨R.TIME_CAP_TB_HI, 31, 0, .ro, .any⟩
def R.TIME_DOMMAP : Reg := ⟨0xf00200, [], 0x7e7f, [], false⟩
def Fl.TIME_DOMMAP_en_b : Fld := ⟨R.TIME_DOMMAP, 17, 17, .rw, .any⟩
def Fl.TIME_DOMMAP_en_a : Fld := ⟨R.TIME_DOMMAP, 16, 16, .rw, .any⟩
def Fl.TIME_DOMMAP_dom_b : Fld := ⟨R.TIME_DOMMAP, 15, 8, .rw, .any⟩
def Fl.TIME_DOMMAP_dom_a : Fld := ⟨R.TIME_DOMMAP, 7, 0, .rw, .any⟩
def R.TIME_PIN_OUT : Reg := ⟨0xf00210, [], 0, [], false⟩
def Fl.TIME_PIN_OUT_value : Fld := ⟨R.TIME_PIN_OUT, 31, 0, .rw, .any⟩
def R.TIME_PIN_IN : Reg := ⟨0xf00214, [], 0, [], false⟩
def Fl.TIME_PIN_IN_value : Fld := ⟨R.TIME_PIN_IN, 31, 0, .rw, .any⟩
def R.TIME_TB_CTRL : Reg := ⟨0xf00100, [(4, 0x40)], 0, [], false⟩
def Fl.TIME_TB_CTRL_dt_alias : Fld := ⟨R.TIME_TB_CTRL, 0, 0, .rw, .any⟩
def R.TIME_TB_INC_LO : Reg := ⟨0xf00104, [(4, 0x40)], 0, [], false⟩
def Fl.TIME_TB_INC_LO_value : Fld := ⟨R.TIME_TB_INC_LO, 31, 0, .rw, .any⟩
def R.TIME_TB_INC_HI : Reg := ⟨0xf00108, [(4, 0x40)], 2, [], false⟩
def Fl.TIME_TB_INC_HI_value : Fld := ⟨R.TIME_TB_INC_HI, 31, 0, .rw, .any⟩
def R.TIME_TB_ADJ_LO : Reg := ⟨0xf0010c, [(4, 0x40)], 0, [], false⟩
def Fl.TIME_TB_ADJ_LO_ns : Fld := ⟨R.TIME_TB_ADJ_LO, 31, 0, .rw, .any⟩
def R.TIME_TB_ADJ_HI : Reg := ⟨0xf00110, [(4, 0x40)], 0, [], false⟩
def Fl.TIME_TB_ADJ_HI_ns : Fld := ⟨R.TIME_TB_ADJ_HI, 31, 0, .rw, .any⟩
def R.TIME_TB_NOW_LO : Reg := ⟨0xf00114, [(4, 0x40)], 0, [], false⟩
def Fl.TIME_TB_NOW_LO_ns : Fld := ⟨R.TIME_TB_NOW_LO, 31, 0, .ro, .any⟩
def R.TIME_TB_NOW_HI : Reg := ⟨0xf00118, [(4, 0x40)], 0, [], false⟩
def Fl.TIME_TB_NOW_HI_ns : Fld := ⟨R.TIME_TB_NOW_HI, 31, 0, .ro, .any⟩
def R.TIME_TB_HEALTH : Reg := ⟨0xf0011c, [(4, 0x40)], 0x64, [], false⟩
def Fl.TIME_TB_HEALTH_beat : Fld := ⟨R.TIME_TB_HEALTH, 31, 31, .go, .any⟩
def Fl.TIME_TB_HEALTH_drop : Fld := ⟨R.TIME_TB_HEALTH, 30, 30, .go, .any⟩
def Fl.TIME_TB_HEALTH_wdog_ms : Fld := ⟨R.TIME_TB_HEALTH, 15, 0, .rw, .ge 1⟩
def R.TIME_TB_STAT : Reg := ⟨0xf00120, [(4, 0x40)], 0, [], false⟩
def Fl.TIME_TB_STAT_steps : Fld := ⟨R.TIME_TB_STAT, 31, 16, .cntSat, .any⟩
def Fl.TIME_TB_STAT_lost : Fld := ⟨R.TIME_TB_STAT, 1, 1, .w1c, .any⟩
def Fl.TIME_TB_STAT_tracking : Fld := ⟨R.TIME_TB_STAT, 0, 0, .st, .any⟩
def R.TIME_PT_TXLAT : Reg := ⟨0xf01000, [(6, 0x200)], 0x294000, [(4, 0x600000), (5, 0x600000)], false⟩
def Fl.TIME_PT_TXLAT_value : Fld := ⟨R.TIME_PT_TXLAT, 31, 0, .rw, .any⟩
def R.TIME_PT_RXLAT : Reg := ⟨0xf01004, [(6, 0x200)], 0x3a8000, [(4, 0x796000), (5, 0x796000)], false⟩
def Fl.TIME_PT_RXLAT_value : Fld := ⟨R.TIME_PT_RXLAT, 31, 0, .rw, .any⟩
def R.TIME_PT_ASYM : Reg := ⟨0xf01008, [(6, 0x200)], 0, [], false⟩
def Fl.TIME_PT_ASYM_value : Fld := ⟨R.TIME_PT_ASYM, 31, 0, .rw, .any⟩
def R.TIME_PT_TXQ_ID : Reg := ⟨0xf01010, [(6, 0x200)], 0, [], false⟩
def Fl.TIME_PT_TXQ_ID_msgtype : Fld := ⟨R.TIME_PT_TXQ_ID, 31, 28, .ro, .any⟩
def Fl.TIME_PT_TXQ_ID_base : Fld := ⟨R.TIME_PT_TXQ_ID, 27, 26, .ro, .any⟩
def Fl.TIME_PT_TXQ_ID_domain : Fld := ⟨R.TIME_PT_TXQ_ID, 23, 16, .ro, .any⟩
def Fl.TIME_PT_TXQ_ID_seqid : Fld := ⟨R.TIME_PT_TXQ_ID, 15, 0, .ro, .any⟩
def R.TIME_PT_TXQ_TS_LO : Reg := ⟨0xf01014, [(6, 0x200)], 0, [], false⟩
def Fl.TIME_PT_TXQ_TS_LO_value : Fld := ⟨R.TIME_PT_TXQ_TS_LO, 31, 0, .ro, .any⟩
def R.TIME_PT_TXQ_TS_HI : Reg := ⟨0xf01018, [(6, 0x200)], 0, [], false⟩
def Fl.TIME_PT_TXQ_TS_HI_value : Fld := ⟨R.TIME_PT_TXQ_TS_HI, 31, 0, .ro, .any⟩
def R.TIME_PT_TXQ_FRAC : Reg := ⟨0xf0101c, [(6, 0x200)], 0, [], false⟩
def Fl.TIME_PT_TXQ_FRAC_value : Fld := ⟨R.TIME_PT_TXQ_FRAC, 31, 0, .ro, .any⟩
def R.TIME_PT_TXQ_CTRL : Reg := ⟨0xf01020, [(6, 0x200)], 0, [], false⟩
def Fl.TIME_PT_TXQ_CTRL_pop : Fld := ⟨R.TIME_PT_TXQ_CTRL, 0, 0, .go, .any⟩
def R.TIME_PT_TXQ_STAT : Reg := ⟨0xf01024, [(6, 0x200)], 0, [], false⟩
def Fl.TIME_PT_TXQ_STAT_ovf_count : Fld := ⟨R.TIME_PT_TXQ_STAT, 31, 16, .cntSat, .any⟩
def Fl.TIME_PT_TXQ_STAT_ovf : Fld := ⟨R.TIME_PT_TXQ_STAT, 8, 8, .w1c, .any⟩
def Fl.TIME_PT_TXQ_STAT_level : Fld := ⟨R.TIME_PT_TXQ_STAT, 4, 0, .st, .any⟩
def R.TIME_PT_TXCTRL : Reg := ⟨0xf01030, [(6, 0x200)], 0, [], false⟩
def Fl.TIME_PT_TXCTRL_go : Fld := ⟨R.TIME_PT_TXCTRL, 31, 31, .go, .any⟩
def Fl.TIME_PT_TXCTRL_length : Fld := ⟨R.TIME_PT_TXCTRL, 8, 0, .rw, .range 14 256⟩
def R.TIME_PT_RX_BASE_LO : Reg := ⟨0xf01040, [(6, 0x200)], 0, [], false⟩
def Fl.TIME_PT_RX_BASE_LO_addr : Fld := ⟨R.TIME_PT_RX_BASE_LO, 31, 12, .rw, .any⟩
def R.TIME_PT_RX_BASE_HI : Reg := ⟨0xf01044, [(6, 0x200)], 0, [], false⟩
def Fl.TIME_PT_RX_BASE_HI_addr : Fld := ⟨R.TIME_PT_RX_BASE_HI, 31, 0, .rw, .any⟩
def R.TIME_PT_RX_TAILWB_LO : Reg := ⟨0xf01054, [(6, 0x200)], 0, [], false⟩
def Fl.TIME_PT_RX_TAILWB_LO_addr : Fld := ⟨R.TIME_PT_RX_TAILWB_LO, 31, 2, .rw, .any⟩
def R.TIME_PT_RX_TAILWB_HI : Reg := ⟨0xf01058, [(6, 0x200)], 0, [], false⟩
def Fl.TIME_PT_RX_TAILWB_HI_addr : Fld := ⟨R.TIME_PT_RX_TAILWB_HI, 31, 0, .rw, .any⟩
def R.TIME_PT_RX_CTRL : Reg := ⟨0xf01048, [(6, 0x200)], 0x60000, [], false⟩
def Fl.TIME_PT_RX_CTRL_log2size : Fld := ⟨R.TIME_PT_RX_CTRL, 20, 16, .rw, .range 4 12⟩
def Fl.TIME_PT_RX_CTRL_enable : Fld := ⟨R.TIME_PT_RX_CTRL, 0, 0, .rw, .any⟩
def R.TIME_PT_RX_HEAD : Reg := ⟨0xf0104c, [(6, 0x200)], 0, [], false⟩
def Fl.TIME_PT_RX_HEAD_count : Fld := ⟨R.TIME_PT_RX_HEAD, 31, 0, .rw, .any⟩
def R.TIME_PT_RX_TAIL : Reg := ⟨0xf01050, [(6, 0x200)], 0, [], false⟩
def Fl.TIME_PT_RX_TAIL_count : Fld := ⟨R.TIME_PT_RX_TAIL, 31, 0, .ro, .any⟩
def R.TIME_PT_RX_DROP : Reg := ⟨0xf0105c, [(6, 0x200)], 0, [], false⟩
def Fl.TIME_PT_RX_DROP_count : Fld := ⟨R.TIME_PT_RX_DROP, 31, 0, .cntSat, .any⟩
def R.TIME_PT_TXBUF : Reg := ⟨0xf01100, [(6, 0x200), (0x40, 4)], 0, [], false⟩
def Fl.TIME_PT_TXBUF_bytes : Fld := ⟨R.TIME_PT_TXBUF, 31, 0, .rw, .any⟩
def R.TIME_GL_STAT : Reg := ⟨0xf02000, [], 0, [], false⟩
def Fl.TIME_GL_STAT_format : Fld := ⟨R.TIME_GL_STAT, 31, 24, .st, .any⟩
def Fl.TIME_GL_STAT_lost : Fld := ⟨R.TIME_GL_STAT, 1, 1, .w1c, .any⟩
def Fl.TIME_GL_STAT_locked : Fld := ⟨R.TIME_GL_STAT, 0, 0, .st, .any⟩
def R.TIME_GL_DT_LO : Reg := ⟨0xf02004, [], 0, [], false⟩
def Fl.TIME_GL_DT_LO_value : Fld := ⟨R.TIME_GL_DT_LO, 31, 0, .ro, .any⟩
def R.TIME_GL_DT_HI : Reg := ⟨0xf02008, [], 0, [], false⟩
def Fl.TIME_GL_DT_HI_value : Fld := ⟨R.TIME_GL_DT_HI, 31, 0, .ro, .any⟩
def R.TIME_GL_TB3_LO : Reg := ⟨0xf0200c, [], 0, [], false⟩
def Fl.TIME_GL_TB3_LO_value : Fld := ⟨R.TIME_GL_TB3_LO, 31, 0, .ro, .any⟩
def R.TIME_GL_TB3_HI : Reg := ⟨0xf02010, [], 0, [], false⟩
def Fl.TIME_GL_TB3_HI_value : Fld := ⟨R.TIME_GL_TB3_HI, 31, 0, .ro, .any⟩
def R.TIME_GL_FRAC : Reg := ⟨0xf02014, [], 0, [], false⟩
def Fl.TIME_GL_FRAC_value : Fld := ⟨R.TIME_GL_FRAC, 31, 0, .ro, .any⟩
def R.TIME_GL_REFS : Reg := ⟨0xf02018, [], 0, [], false⟩
def Fl.TIME_GL_REFS_value : Fld := ⟨R.TIME_GL_REFS, 31, 0, .cnt, .any⟩
def R.TIME_LTCI_CTRL : Reg := ⟨0xf02100, [], 0, [], false⟩
def Fl.TIME_LTCI_CTRL_ev_en : Fld := ⟨R.TIME_LTCI_CTRL, 1, 1, .rw, .any⟩
def Fl.TIME_LTCI_CTRL_enable : Fld := ⟨R.TIME_LTCI_CTRL, 0, 0, .rw, .any⟩
def R.TIME_LTCI_STAT : Reg := ⟨0xf02104, [], 0, [], false⟩
def Fl.TIME_LTCI_STAT_df : Fld := ⟨R.TIME_LTCI_STAT, 7, 7, .st, .any⟩
def Fl.TIME_LTCI_STAT_r : Fld := ⟨R.TIME_LTCI_STAT, 6, 4, .st, .any⟩
def Fl.TIME_LTCI_STAT_lost : Fld := ⟨R.TIME_LTCI_STAT, 1, 1, .w1c, .any⟩
def Fl.TIME_LTCI_STAT_locked : Fld := ⟨R.TIME_LTCI_STAT, 0, 0, .st, .any⟩
def R.TIME_LTCI_TC : Reg := ⟨0xf02108, [], 0, [], false⟩
def Fl.TIME_LTCI_TC_value : Fld := ⟨R.TIME_LTCI_TC, 31, 0, .ro, .any⟩
def R.TIME_LTCI_UB : Reg := ⟨0xf0210c, [], 0, [], false⟩
def Fl.TIME_LTCI_UB_value : Fld := ⟨R.TIME_LTCI_UB, 31, 0, .ro, .any⟩
def R.TIME_LTCI_DT_LO : Reg := ⟨0xf02110, [], 0, [], false⟩
def Fl.TIME_LTCI_DT_LO_value : Fld := ⟨R.TIME_LTCI_DT_LO, 31, 0, .ro, .any⟩
def R.TIME_LTCI_DT_HI : Reg := ⟨0xf02114, [], 0, [], false⟩
def Fl.TIME_LTCI_DT_HI_value : Fld := ⟨R.TIME_LTCI_DT_HI, 31, 0, .ro, .any⟩
def R.TIME_LTCI_TB3_LO : Reg := ⟨0xf02118, [], 0, [], false⟩
def Fl.TIME_LTCI_TB3_LO_value : Fld := ⟨R.TIME_LTCI_TB3_LO, 31, 0, .ro, .any⟩
def R.TIME_LTCI_TB3_HI : Reg := ⟨0xf0211c, [], 0, [], false⟩
def Fl.TIME_LTCI_TB3_HI_value : Fld := ⟨R.TIME_LTCI_TB3_HI, 31, 0, .ro, .any⟩
def R.TIME_LTCO_CTRL : Reg := ⟨0xf02200, [], 0, [], false⟩
def Fl.TIME_LTCO_CTRL_src : Fld := ⟨R.TIME_LTCO_CTRL, 5, 5, .rw, .any⟩
def Fl.TIME_LTCO_CTRL_df : Fld := ⟨R.TIME_LTCO_CTRL, 4, 4, .rw, .any⟩
def Fl.TIME_LTCO_CTRL_r : Fld := ⟨R.TIME_LTCO_CTRL, 3, 1, .rw, .le 4⟩
def Fl.TIME_LTCO_CTRL_enable : Fld := ⟨R.TIME_LTCO_CTRL, 0, 0, .rw, .any⟩
def R.TIME_LTCO_JAM : Reg := ⟨0xf02204, [], 0, [], false⟩
def Fl.TIME_LTCO_JAM_value : Fld := ⟨R.TIME_LTCO_JAM, 31, 0, .rw, .any⟩
def R.TIME_LTCO_UB : Reg := ⟨0xf02208, [], 0, [], false⟩
def Fl.TIME_LTCO_UB_value : Fld := ⟨R.TIME_LTCO_UB, 31, 0, .rw, .any⟩
def R.TIME_LTCO_PHASE : Reg := ⟨0xf0220c, [], 0, [], false⟩
def Fl.TIME_LTCO_PHASE_value : Fld := ⟨R.TIME_LTCO_PHASE, 31, 0, .rw, .any⟩
def R.TIME_LTCO_TC : Reg := ⟨0xf02210, [], 0, [], false⟩
def Fl.TIME_LTCO_TC_value : Fld := ⟨R.TIME_LTCO_TC, 31, 0, .ro, .any⟩
def R.TIME_L_CTRL : Reg := ⟨0xf03000, [(0x30, 0x20)], 0, [], false⟩
def Fl.TIME_L_CTRL_src : Fld := ⟨R.TIME_L_CTRL, 31, 28, .rw, .le 12⟩
def Fl.TIME_L_CTRL_edge : Fld := ⟨R.TIME_L_CTRL, 9, 8, .rw, .any⟩
def Fl.TIME_L_CTRL_ev_en : Fld := ⟨R.TIME_L_CTRL, 7, 7, .rw, .any⟩
def Fl.TIME_L_CTRL_filt : Fld := ⟨R.TIME_L_CTRL, 5, 0, .rw, .any⟩
def R.TIME_L_RISE_LO : Reg := ⟨0xf03004, [(0x30, 0x20)], 0, [], false⟩
def Fl.TIME_L_RISE_LO_value : Fld := ⟨R.TIME_L_RISE_LO, 31, 0, .ro, .any⟩
def R.TIME_L_RISE_HI : Reg := ⟨0xf03008, [(0x30, 0x20)], 0, [], false⟩
def Fl.TIME_L_RISE_HI_value : Fld := ⟨R.TIME_L_RISE_HI, 31, 0, .ro, .any⟩
def R.TIME_L_FALL_LO : Reg := ⟨0xf0300c, [(0x30, 0x20)], 0, [], false⟩
def Fl.TIME_L_FALL_LO_value : Fld := ⟨R.TIME_L_FALL_LO, 31, 0, .ro, .any⟩
def R.TIME_L_FALL_HI : Reg := ⟨0xf03010, [(0x30, 0x20)], 0, [], false⟩
def Fl.TIME_L_FALL_HI_value : Fld := ⟨R.TIME_L_FALL_HI, 31, 0, .ro, .any⟩
def R.TIME_L_FRAC : Reg := ⟨0xf03014, [(0x30, 0x20)], 0, [], false⟩
def Fl.TIME_L_FRAC_value : Fld := ⟨R.TIME_L_FRAC, 31, 0, .ro, .any⟩
def R.TIME_L_CNT : Reg := ⟨0xf03018, [(0x30, 0x20)], 0, [], false⟩
def Fl.TIME_L_CNT_count : Fld := ⟨R.TIME_L_CNT, 31, 0, .cnt, .any⟩
def R.TIME_L_FOREIGN : Reg := ⟨0xf0301c, [(0x30, 0x20)], 0, [], false⟩
def Fl.TIME_L_FOREIGN_count : Fld := ⟨R.TIME_L_FOREIGN, 31, 0, .cntSat, .any⟩
def R.TIME_PS_CTRL : Reg := ⟨0xf04000, [(4, 0x40)], 0, [], false⟩
def Fl.TIME_PS_CTRL_mode : Fld := ⟨R.TIME_PS_CTRL, 31, 30, .rws, .le 2⟩
def Fl.TIME_PS_CTRL_polarity : Fld := ⟨R.TIME_PS_CTRL, 29, 29, .rws, .any⟩
def Fl.TIME_PS_CTRL_base : Fld := ⟨R.TIME_PS_CTRL, 26, 24, .rws, .le 4⟩
def R.TIME_PS_PERIOD : Reg := ⟨0xf04004, [(4, 0x40)], 0, [], false⟩
def Fl.TIME_PS_PERIOD_value : Fld := ⟨R.TIME_PS_PERIOD, 31, 0, .rws, .any⟩
def R.TIME_PS_PFRAC : Reg := ⟨0xf04008, [(4, 0x40)], 0, [], false⟩
def Fl.TIME_PS_PFRAC_value : Fld := ⟨R.TIME_PS_PFRAC, 15, 0, .rws, .any⟩
def R.TIME_PS_START_LO : Reg := ⟨0xf0400c, [(4, 0x40)], 0, [], false⟩
def Fl.TIME_PS_START_LO_value : Fld := ⟨R.TIME_PS_START_LO, 31, 0, .rws, .any⟩
def R.TIME_PS_START_HI : Reg := ⟨0xf04010, [(4, 0x40)], 0, [], false⟩
def Fl.TIME_PS_START_HI_value : Fld := ⟨R.TIME_PS_START_HI, 31, 0, .rws, .any⟩
def R.TIME_PS_WIDTH : Reg := ⟨0xf04014, [(4, 0x40)], 0, [], false⟩
def Fl.TIME_PS_WIDTH_value : Fld := ⟨R.TIME_PS_WIDTH, 31, 0, .rws, .any⟩
def R.TIME_PS_CNT : Reg := ⟨0xf04018, [(4, 0x40)], 0, [], false⟩
def Fl.TIME_PS_CNT_skipped : Fld := ⟨R.TIME_PS_CNT, 31, 16, .cntSat, .any⟩
def Fl.TIME_PS_CNT_emitted : Fld := ⟨R.TIME_PS_CNT, 15, 0, .cnt, .any⟩

def Tb.TIME0 : List RegRow :=
  [⟨R.TIME_DT_CTRL, [Fl.TIME_DT_CTRL_auto, Fl.TIME_DT_CTRL_go, Fl.TIME_DT_CTRL_mode, Fl.TIME_DT_CTRL_target]⟩,
   ⟨R.TIME_DT_STAT, [Fl.TIME_DT_STAT_switches, Fl.TIME_DT_STAT_stepped, Fl.TIME_DT_STAT_switched, Fl.TIME_DT_STAT_holdover, Fl.TIME_DT_STAT_slewing, Fl.TIME_DT_STAT_active]⟩,
   ⟨R.TIME_DT_OFS_LO, [Fl.TIME_DT_OFS_LO_ns]⟩,
   ⟨R.TIME_DT_OFS_HI, [Fl.TIME_DT_OFS_HI_ns]⟩,
   ⟨R.TIME_DT_NOW_LO, [Fl.TIME_DT_NOW_LO_ns]⟩,
   ⟨R.TIME_DT_NOW_HI, [Fl.TIME_DT_NOW_HI_ns]⟩,
   ⟨R.TIME_DT_SLEW, [Fl.TIME_DT_SLEW_ppb]⟩,
   ⟨R.TIME_CAP, [Fl.TIME_CAP_go]⟩,
   ⟨R.TIME_CAP_DT_LO, [Fl.TIME_CAP_DT_LO_ns]⟩,
   ⟨R.TIME_CAP_DT_HI, [Fl.TIME_CAP_DT_HI_ns]⟩,
   ⟨R.TIME_CAP_TB_LO, [Fl.TIME_CAP_TB_LO_ns]⟩,
   ⟨R.TIME_CAP_TB_HI, [Fl.TIME_CAP_TB_HI_ns]⟩,
   ⟨R.TIME_DOMMAP, [Fl.TIME_DOMMAP_en_b, Fl.TIME_DOMMAP_en_a, Fl.TIME_DOMMAP_dom_b, Fl.TIME_DOMMAP_dom_a]⟩,
   ⟨R.TIME_PIN_OUT, [Fl.TIME_PIN_OUT_value]⟩,
   ⟨R.TIME_PIN_IN, [Fl.TIME_PIN_IN_value]⟩,
   ⟨R.TIME_TB_CTRL, [Fl.TIME_TB_CTRL_dt_alias]⟩,
   ⟨R.TIME_TB_INC_LO, [Fl.TIME_TB_INC_LO_value]⟩,
   ⟨R.TIME_TB_INC_HI, [Fl.TIME_TB_INC_HI_value]⟩,
   ⟨R.TIME_TB_ADJ_LO, [Fl.TIME_TB_ADJ_LO_ns]⟩,
   ⟨R.TIME_TB_ADJ_HI, [Fl.TIME_TB_ADJ_HI_ns]⟩]
def Tb.TIME1 : List RegRow :=
  [⟨R.TIME_TB_NOW_LO, [Fl.TIME_TB_NOW_LO_ns]⟩,
   ⟨R.TIME_TB_NOW_HI, [Fl.TIME_TB_NOW_HI_ns]⟩,
   ⟨R.TIME_TB_HEALTH, [Fl.TIME_TB_HEALTH_beat, Fl.TIME_TB_HEALTH_drop, Fl.TIME_TB_HEALTH_wdog_ms]⟩,
   ⟨R.TIME_TB_STAT, [Fl.TIME_TB_STAT_steps, Fl.TIME_TB_STAT_lost, Fl.TIME_TB_STAT_tracking]⟩,
   ⟨R.TIME_PT_TXLAT, [Fl.TIME_PT_TXLAT_value]⟩,
   ⟨R.TIME_PT_RXLAT, [Fl.TIME_PT_RXLAT_value]⟩,
   ⟨R.TIME_PT_ASYM, [Fl.TIME_PT_ASYM_value]⟩,
   ⟨R.TIME_PT_TXQ_ID, [Fl.TIME_PT_TXQ_ID_msgtype, Fl.TIME_PT_TXQ_ID_base, Fl.TIME_PT_TXQ_ID_domain, Fl.TIME_PT_TXQ_ID_seqid]⟩,
   ⟨R.TIME_PT_TXQ_TS_LO, [Fl.TIME_PT_TXQ_TS_LO_value]⟩,
   ⟨R.TIME_PT_TXQ_TS_HI, [Fl.TIME_PT_TXQ_TS_HI_value]⟩,
   ⟨R.TIME_PT_TXQ_FRAC, [Fl.TIME_PT_TXQ_FRAC_value]⟩,
   ⟨R.TIME_PT_TXQ_CTRL, [Fl.TIME_PT_TXQ_CTRL_pop]⟩,
   ⟨R.TIME_PT_TXQ_STAT, [Fl.TIME_PT_TXQ_STAT_ovf_count, Fl.TIME_PT_TXQ_STAT_ovf, Fl.TIME_PT_TXQ_STAT_level]⟩,
   ⟨R.TIME_PT_TXCTRL, [Fl.TIME_PT_TXCTRL_go, Fl.TIME_PT_TXCTRL_length]⟩,
   ⟨R.TIME_PT_RX_BASE_LO, [Fl.TIME_PT_RX_BASE_LO_addr]⟩,
   ⟨R.TIME_PT_RX_BASE_HI, [Fl.TIME_PT_RX_BASE_HI_addr]⟩,
   ⟨R.TIME_PT_RX_TAILWB_LO, [Fl.TIME_PT_RX_TAILWB_LO_addr]⟩,
   ⟨R.TIME_PT_RX_TAILWB_HI, [Fl.TIME_PT_RX_TAILWB_HI_addr]⟩,
   ⟨R.TIME_PT_RX_CTRL, [Fl.TIME_PT_RX_CTRL_log2size, Fl.TIME_PT_RX_CTRL_enable]⟩,
   ⟨R.TIME_PT_RX_HEAD, [Fl.TIME_PT_RX_HEAD_count]⟩]
def Tb.TIME2 : List RegRow :=
  [⟨R.TIME_PT_RX_TAIL, [Fl.TIME_PT_RX_TAIL_count]⟩,
   ⟨R.TIME_PT_RX_DROP, [Fl.TIME_PT_RX_DROP_count]⟩,
   ⟨R.TIME_PT_TXBUF, [Fl.TIME_PT_TXBUF_bytes]⟩,
   ⟨R.TIME_GL_STAT, [Fl.TIME_GL_STAT_format, Fl.TIME_GL_STAT_lost, Fl.TIME_GL_STAT_locked]⟩,
   ⟨R.TIME_GL_DT_LO, [Fl.TIME_GL_DT_LO_value]⟩,
   ⟨R.TIME_GL_DT_HI, [Fl.TIME_GL_DT_HI_value]⟩,
   ⟨R.TIME_GL_TB3_LO, [Fl.TIME_GL_TB3_LO_value]⟩,
   ⟨R.TIME_GL_TB3_HI, [Fl.TIME_GL_TB3_HI_value]⟩,
   ⟨R.TIME_GL_FRAC, [Fl.TIME_GL_FRAC_value]⟩,
   ⟨R.TIME_GL_REFS, [Fl.TIME_GL_REFS_value]⟩,
   ⟨R.TIME_LTCI_CTRL, [Fl.TIME_LTCI_CTRL_ev_en, Fl.TIME_LTCI_CTRL_enable]⟩,
   ⟨R.TIME_LTCI_STAT, [Fl.TIME_LTCI_STAT_df, Fl.TIME_LTCI_STAT_r, Fl.TIME_LTCI_STAT_lost, Fl.TIME_LTCI_STAT_locked]⟩,
   ⟨R.TIME_LTCI_TC, [Fl.TIME_LTCI_TC_value]⟩,
   ⟨R.TIME_LTCI_UB, [Fl.TIME_LTCI_UB_value]⟩,
   ⟨R.TIME_LTCI_DT_LO, [Fl.TIME_LTCI_DT_LO_value]⟩,
   ⟨R.TIME_LTCI_DT_HI, [Fl.TIME_LTCI_DT_HI_value]⟩,
   ⟨R.TIME_LTCI_TB3_LO, [Fl.TIME_LTCI_TB3_LO_value]⟩,
   ⟨R.TIME_LTCI_TB3_HI, [Fl.TIME_LTCI_TB3_HI_value]⟩,
   ⟨R.TIME_LTCO_CTRL, [Fl.TIME_LTCO_CTRL_src, Fl.TIME_LTCO_CTRL_df, Fl.TIME_LTCO_CTRL_r, Fl.TIME_LTCO_CTRL_enable]⟩,
   ⟨R.TIME_LTCO_JAM, [Fl.TIME_LTCO_JAM_value]⟩]
def Tb.TIME3 : List RegRow :=
  [⟨R.TIME_LTCO_UB, [Fl.TIME_LTCO_UB_value]⟩,
   ⟨R.TIME_LTCO_PHASE, [Fl.TIME_LTCO_PHASE_value]⟩,
   ⟨R.TIME_LTCO_TC, [Fl.TIME_LTCO_TC_value]⟩,
   ⟨R.TIME_L_CTRL, [Fl.TIME_L_CTRL_src, Fl.TIME_L_CTRL_edge, Fl.TIME_L_CTRL_ev_en, Fl.TIME_L_CTRL_filt]⟩,
   ⟨R.TIME_L_RISE_LO, [Fl.TIME_L_RISE_LO_value]⟩,
   ⟨R.TIME_L_RISE_HI, [Fl.TIME_L_RISE_HI_value]⟩,
   ⟨R.TIME_L_FALL_LO, [Fl.TIME_L_FALL_LO_value]⟩,
   ⟨R.TIME_L_FALL_HI, [Fl.TIME_L_FALL_HI_value]⟩,
   ⟨R.TIME_L_FRAC, [Fl.TIME_L_FRAC_value]⟩,
   ⟨R.TIME_L_CNT, [Fl.TIME_L_CNT_count]⟩,
   ⟨R.TIME_L_FOREIGN, [Fl.TIME_L_FOREIGN_count]⟩,
   ⟨R.TIME_PS_CTRL, [Fl.TIME_PS_CTRL_mode, Fl.TIME_PS_CTRL_polarity, Fl.TIME_PS_CTRL_base]⟩,
   ⟨R.TIME_PS_PERIOD, [Fl.TIME_PS_PERIOD_value]⟩,
   ⟨R.TIME_PS_PFRAC, [Fl.TIME_PS_PFRAC_value]⟩,
   ⟨R.TIME_PS_START_LO, [Fl.TIME_PS_START_LO_value]⟩,
   ⟨R.TIME_PS_START_HI, [Fl.TIME_PS_START_HI_value]⟩,
   ⟨R.TIME_PS_WIDTH, [Fl.TIME_PS_WIDTH_value]⟩,
   ⟨R.TIME_PS_CNT, [Fl.TIME_PS_CNT_skipped, Fl.TIME_PS_CNT_emitted]⟩]
def Tb.TIME : List RegRow := Tb.TIME0 ++ Tb.TIME1 ++ Tb.TIME2 ++ Tb.TIME3

end Sys2Proof.Machine
end

