-- ==== Sys2Proof/Machine/RegsSky.lean ====
section
/-! DEFINITION. The registers of SKY, AUD, LSP, HLT, BARO, TRL and CPR, written from the register tables of the
chapters 15, 16, 17, 18, 19 of spec/: for each register its BAR0 offset (R6), its instances, its reset word (R7) and its fields
(bit range, R4; type, R32; permitted values, R9). -/

namespace Sys2Proof.Machine

/-! ### SKY -/

def R.SKY_CTRL : Reg := ⟨0x1100000, [], 0x60000000, [], false⟩
def Fl.SKY_CTRL_enable : Fld := ⟨R.SKY_CTRL, 31, 31, .rw, .any⟩
def Fl.SKY_CTRL_path_b : Fld := ⟨R.SKY_CTRL, 30, 30, .rw, .any⟩
def Fl.SKY_CTRL_path_a : Fld := ⟨R.SKY_CTRL, 29, 29, .rw, .any⟩
def Fl.SKY_CTRL_ref_pipe : Fld := ⟨R.SKY_CTRL, 26, 24, .rw, .any⟩
def Fl.SKY_CTRL_prio_src : Fld := ⟨R.SKY_CTRL, 16, 16, .rw, .any⟩
def Fl.SKY_CTRL_priority : Fld := ⟨R.SKY_CTRL, 15, 8, .rw, .any⟩
def R.SKY_CFG : Reg := ⟨0x1100004, [], 0xc0120064, [], false⟩
def Fl.SKY_CFG_udp_port : Fld := ⟨R.SKY_CFG, 31, 16, .rw, .ge 1⟩
def Fl.SKY_CFG_key_slot : Fld := ⟨R.SKY_CFG, 15, 15, .rw, .any⟩
def Fl.SKY_CFG_announce_ms : Fld := ⟨R.SKY_CFG, 9, 0, .rw, .range 10 1000⟩
def R.SKY_TIMING : Reg := ⟨0x1100008, [], 0x7d0012c, [], false⟩
def Fl.SKY_TIMING_margin_us : Fld := ⟨R.SKY_TIMING, 31, 16, .rw, .ge 1000⟩
def Fl.SKY_TIMING_thop_us : Fld := ⟨R.SKY_TIMING, 15, 0, .rw, .range 50 300⟩
def R.SKY_STAT : Reg := ⟨0x1100010, [], 0, [], false⟩
def Fl.SKY_STAT_state : Fld := ⟨R.SKY_STAT, 31, 28, .st, .any⟩
def Fl.SKY_STAT_root : Fld := ⟨R.SKY_STAT, 27, 27, .st, .any⟩
def Fl.SKY_STAT_path_b_up : Fld := ⟨R.SKY_STAT, 26, 26, .st, .any⟩
def Fl.SKY_STAT_path_a_up : Fld := ⟨R.SKY_STAT, 25, 25, .st, .any⟩
def Fl.SKY_STAT_full : Fld := ⟨R.SKY_STAT, 24, 24, .w1c, .any⟩
def Fl.SKY_STAT_path_lost : Fld := ⟨R.SKY_STAT, 23, 23, .w1c, .any⟩
def Fl.SKY_STAT_depth : Fld := ⟨R.SKY_STAT, 21, 20, .st, .any⟩
def Fl.SKY_STAT_assigned : Fld := ⟨R.SKY_STAT, 15, 15, .st, .any⟩
def Fl.SKY_STAT_node_id : Fld := ⟨R.SKY_STAT, 13, 0, .st, .any⟩
def R.SKY_TREE : Reg := ⟨0x1100014, [], 0, [], false⟩
def Fl.SKY_TREE_parent : Fld := ⟨R.SKY_TREE, 29, 16, .st, .any⟩
def Fl.SKY_TREE_members : Fld := ⟨R.SKY_TREE, 14, 0, .st, .any⟩
def R.SKY_ROOT_LO : Reg := ⟨0x1100018, [], 0, [], false⟩
def Fl.SKY_ROOT_LO_value : Fld := ⟨R.SKY_ROOT_LO, 31, 0, .ro, .any⟩
def R.SKY_ROOT_HI : Reg := ⟨0x110001c, [], 0, [], false⟩
def Fl.SKY_ROOT_HI_value : Fld := ⟨R.SKY_ROOT_HI, 31, 0, .ro, .any⟩
def R.SKY_GEN : Reg := ⟨0x1100020, [], 0, [], false⟩
def Fl.SKY_GEN_value : Fld := ⟨R.SKY_GEN, 31, 0, .ro, .any⟩
def R.SKY_EPOCH : Reg := ⟨0x1100024, [], 0, [], false⟩
def Fl.SKY_EPOCH_value : Fld := ⟨R.SKY_EPOCH, 31, 0, .ro, .any⟩
def R.SKY_OP : Reg := ⟨0x1100030, [], 0, [], false⟩
def Fl.SKY_OP_go : Fld := ⟨R.SKY_OP, 31, 31, .go, .any⟩
def Fl.SKY_OP_op : Fld := ⟨R.SKY_OP, 19, 16, .rw, .range 1 4⟩
def Fl.SKY_OP_barrier_id : Fld := ⟨R.SKY_OP, 15, 0, .rw, .any⟩
def R.SKY_OP_TIME_LO : Reg := ⟨0x1100034, [], 0, [], false⟩
def Fl.SKY_OP_TIME_LO_time : Fld := ⟨R.SKY_OP_TIME_LO, 31, 0, .rw, .any⟩
def R.SKY_OP_TIME_HI : Reg := ⟨0x1100038, [], 0, [], false⟩
def Fl.SKY_OP_TIME_HI_time : Fld := ⟨R.SKY_OP_TIME_HI, 31, 0, .rw, .any⟩
def R.SKY_OP_STAT : Reg := ⟨0x1100040, [], 0, [], false⟩
def Fl.SKY_OP_STAT_op : Fld := ⟨R.SKY_OP_STAT, 31, 28, .st, .any⟩
def Fl.SKY_OP_STAT_result : Fld := ⟨R.SKY_OP_STAT, 27, 24, .st, .any⟩
def Fl.SKY_OP_STAT_late_frames : Fld := ⟨R.SKY_OP_STAT, 15, 0, .st, .any⟩
def R.SKY_OP_T_LO : Reg := ⟨0x1100044, [], 0, [], false⟩
def Fl.SKY_OP_T_LO_time : Fld := ⟨R.SKY_OP_T_LO, 31, 0, .ro, .any⟩
def R.SKY_OP_T_HI : Reg := ⟨0x1100048, [], 0, [], false⟩
def Fl.SKY_OP_T_HI_time : Fld := ⟨R.SKY_OP_T_HI, 31, 0, .ro, .any⟩
def R.SKY_ERR : Reg := ⟨0x1100050, [], 0, [], false⟩
def Fl.SKY_ERR_auth : Fld := ⟨R.SKY_ERR, 31, 16, .cntSat, .any⟩
def Fl.SKY_ERR_replay : Fld := ⟨R.SKY_ERR, 15, 0, .cntSat, .any⟩
def R.SKY_DUP : Reg := ⟨0x1100054, [], 0, [], false⟩
def Fl.SKY_DUP_count : Fld := ⟨R.SKY_DUP, 31, 0, .cnt, .any⟩
def R.SKY_LATE : Reg := ⟨0x1100058, [], 0, [], false⟩
def Fl.SKY_LATE_count : Fld := ⟨R.SKY_LATE, 31, 0, .cntSat, .any⟩

def Tb.SKY : List RegRow :=
  [⟨R.SKY_CTRL, [Fl.SKY_CTRL_enable, Fl.SKY_CTRL_path_b, Fl.SKY_CTRL_path_a, Fl.SKY_CTRL_ref_pipe, Fl.SKY_CTRL_prio_src, Fl.SKY_CTRL_priority]⟩,
   ⟨R.SKY_CFG, [Fl.SKY_CFG_udp_port, Fl.SKY_CFG_key_slot, Fl.SKY_CFG_announce_ms]⟩,
   ⟨R.SKY_TIMING, [Fl.SKY_TIMING_margin_us, Fl.SKY_TIMING_thop_us]⟩,
   ⟨R.SKY_STAT, [Fl.SKY_STAT_state, Fl.SKY_STAT_root, Fl.SKY_STAT_path_b_up, Fl.SKY_STAT_path_a_up, Fl.SKY_STAT_full, Fl.SKY_STAT_path_lost, Fl.SKY_STAT_depth, Fl.SKY_STAT_assigned, Fl.SKY_STAT_node_id]⟩,
   ⟨R.SKY_TREE, [Fl.SKY_TREE_parent, Fl.SKY_TREE_members]⟩,
   ⟨R.SKY_ROOT_LO, [Fl.SKY_ROOT_LO_value]⟩,
   ⟨R.SKY_ROOT_HI, [Fl.SKY_ROOT_HI_value]⟩,
   ⟨R.SKY_GEN, [Fl.SKY_GEN_value]⟩,
   ⟨R.SKY_EPOCH, [Fl.SKY_EPOCH_value]⟩,
   ⟨R.SKY_OP, [Fl.SKY_OP_go, Fl.SKY_OP_op, Fl.SKY_OP_barrier_id]⟩,
   ⟨R.SKY_OP_TIME_LO, [Fl.SKY_OP_TIME_LO_time]⟩,
   ⟨R.SKY_OP_TIME_HI, [Fl.SKY_OP_TIME_HI_time]⟩,
   ⟨R.SKY_OP_STAT, [Fl.SKY_OP_STAT_op, Fl.SKY_OP_STAT_result, Fl.SKY_OP_STAT_late_frames]⟩,
   ⟨R.SKY_OP_T_LO, [Fl.SKY_OP_T_LO_time]⟩,
   ⟨R.SKY_OP_T_HI, [Fl.SKY_OP_T_HI_time]⟩,
   ⟨R.SKY_ERR, [Fl.SKY_ERR_auth, Fl.SKY_ERR_replay]⟩,
   ⟨R.SKY_DUP, [Fl.SKY_DUP_count]⟩,
   ⟨R.SKY_LATE, [Fl.SKY_LATE_count]⟩]

/-! ### AUD -/

def R.AUD_START_TIME_LO : Reg := ⟨0x1200000, [], 0, [], false⟩
def Fl.AUD_START_TIME_LO_time : Fld := ⟨R.AUD_START_TIME_LO, 31, 0, .rw, .any⟩
def R.AUD_START_TIME_HI : Reg := ⟨0x1200004, [], 0, [], false⟩
def Fl.AUD_START_TIME_HI_time : Fld := ⟨R.AUD_START_TIME_HI, 31, 0, .rw, .any⟩
def R.AUD_START_CTRL : Reg := ⟨0x1200008, [], 0, [], false⟩
def Fl.AUD_START_CTRL_go : Fld := ⟨R.AUD_START_CTRL, 31, 31, .go, .any⟩
def Fl.AUD_START_CTRL_mask : Fld := ⟨R.AUD_START_CTRL, 13, 0, .rw, .any⟩
def R.AUD_STAT : Reg := ⟨0x120000c, [], 0, [], false⟩
def Fl.AUD_STAT_start_late : Fld := ⟨R.AUD_STAT, 1, 1, .w1c, .any⟩
def Fl.AUD_STAT_start_busy : Fld := ⟨R.AUD_STAT, 0, 0, .w1c, .any⟩
def R.AUD_EMB : Reg := ⟨0x1200040, [(8, 4)], 0, [], false⟩
def Fl.AUD_EMB_en : Fld := ⟨R.AUD_EMB, 31, 31, .rws, .any⟩
def Fl.AUD_EMB_first : Fld := ⟨R.AUD_EMB, 11, 8, .rws, .any⟩
def Fl.AUD_EMB_port : Fld := ⟨R.AUD_EMB, 3, 0, .rws, .any⟩
def R.AUD_P_CTRL : Reg := ⟨0x1201000, [(0xe, 0x100)], 0, [], false⟩
def Fl.AUD_P_CTRL_enable : Fld := ⟨R.AUD_P_CTRL, 0, 0, .rws, .any⟩
def R.AUD_P_FMT : Reg := ⟨0x1201004, [(0xe, 0x100)], 0x20f20, [], false⟩
def Fl.AUD_P_FMT_dir : Fld := ⟨R.AUD_P_FMT, 19, 19, .rws, .any⟩
def Fl.AUD_P_FMT_rate : Fld := ⟨R.AUD_P_FMT, 18, 16, .rws, .le 6⟩
def Fl.AUD_P_FMT_slots_m1 : Fld := ⟨R.AUD_P_FMT, 11, 8, .rws, .any⟩
def Fl.AUD_P_FMT_width : Fld := ⟨R.AUD_P_FMT, 7, 6, .rws, .le 2⟩
def Fl.AUD_P_FMT_fsync : Fld := ⟨R.AUD_P_FMT, 5, 5, .rws, .any⟩
def Fl.AUD_P_FMT_delay : Fld := ⟨R.AUD_P_FMT, 4, 4, .rws, .any⟩
def Fl.AUD_P_FMT_inv : Fld := ⟨R.AUD_P_FMT, 3, 3, .rws, .any⟩
def R.AUD_P_RING_LO : Reg := ⟨0x1201008, [(0xe, 0x100)], 0, [], false⟩
def Fl.AUD_P_RING_LO_addr : Fld := ⟨R.AUD_P_RING_LO, 31, 12, .rws, .any⟩
def R.AUD_P_RING_HI : Reg := ⟨0x120100c, [(0xe, 0x100)], 0, [], false⟩
def Fl.AUD_P_RING_HI_addr : Fld := ⟨R.AUD_P_RING_HI, 31, 0, .rws, .any⟩
def R.AUD_P_SIZE : Reg := ⟨0x1201010, [(0xe, 0x100)], 0xbb80, [], false⟩
def Fl.AUD_P_SIZE_frames : Fld := ⟨R.AUD_P_SIZE, 23, 0, .rws, .any⟩
def R.AUD_P_WR : Reg := ⟨0x1201014, [(0xe, 0x100)], 0, [], false⟩
def Fl.AUD_P_WR_count : Fld := ⟨R.AUD_P_WR, 31, 0, .rw, .any⟩
def R.AUD_P_SCHED_LO : Reg := ⟨0x1201018, [(0xe, 0x100)], 0, [], false⟩
def Fl.AUD_P_SCHED_LO_count : Fld := ⟨R.AUD_P_SCHED_LO, 31, 0, .ro, .any⟩
def R.AUD_P_SCHED_HI : Reg := ⟨0x120101c, [(0xe, 0x100)], 0, [], false⟩
def Fl.AUD_P_SCHED_HI_count : Fld := ⟨R.AUD_P_SCHED_HI, 31, 0, .ro, .any⟩
def R.AUD_P_CS : Reg := ⟨0x1201020, [(0xe, 0x100)], 0x2000004, [], false⟩
def Fl.AUD_P_CS_bytes : Fld := ⟨R.AUD_P_CS, 31, 0, .rw, .any⟩
def R.AUD_P_STAT : Reg := ⟨0x1201024, [(0xe, 0x100)], 0, [], false⟩
def Fl.AUD_P_STAT_anchor_moved : Fld := ⟨R.AUD_P_STAT, 6, 6, .w1c, .any⟩
def Fl.AUD_P_STAT_range : Fld := ⟨R.AUD_P_STAT, 5, 5, .w1c, .any⟩
def Fl.AUD_P_STAT_nonpcm : Fld := ⟨R.AUD_P_STAT, 4, 4, .st, .any⟩
def Fl.AUD_P_STAT_locked : Fld := ⟨R.AUD_P_STAT, 3, 3, .st, .any⟩
def Fl.AUD_P_STAT_fading : Fld := ⟨R.AUD_P_STAT, 2, 2, .st, .any⟩
def Fl.AUD_P_STAT_running : Fld := ⟨R.AUD_P_STAT, 1, 1, .st, .any⟩
def R.AUD_P_FADES : Reg := ⟨0x1201028, [(0xe, 0x100)], 0, [], false⟩
def Fl.AUD_P_FADES_count : Fld := ⟨R.AUD_P_FADES, 31, 0, .cnt, .any⟩

def Tb.AUD : List RegRow :=
  [⟨R.AUD_START_TIME_LO, [Fl.AUD_START_TIME_LO_time]⟩,
   ⟨R.AUD_START_TIME_HI, [Fl.AUD_START_TIME_HI_time]⟩,
   ⟨R.AUD_START_CTRL, [Fl.AUD_START_CTRL_go, Fl.AUD_START_CTRL_mask]⟩,
   ⟨R.AUD_STAT, [Fl.AUD_STAT_start_late, Fl.AUD_STAT_start_busy]⟩,
   ⟨R.AUD_EMB, [Fl.AUD_EMB_en, Fl.AUD_EMB_first, Fl.AUD_EMB_port]⟩,
   ⟨R.AUD_P_CTRL, [Fl.AUD_P_CTRL_enable]⟩,
   ⟨R.AUD_P_FMT, [Fl.AUD_P_FMT_dir, Fl.AUD_P_FMT_rate, Fl.AUD_P_FMT_slots_m1, Fl.AUD_P_FMT_width, Fl.AUD_P_FMT_fsync, Fl.AUD_P_FMT_delay, Fl.AUD_P_FMT_inv]⟩,
   ⟨R.AUD_P_RING_LO, [Fl.AUD_P_RING_LO_addr]⟩,
   ⟨R.AUD_P_RING_HI, [Fl.AUD_P_RING_HI_addr]⟩,
   ⟨R.AUD_P_SIZE, [Fl.AUD_P_SIZE_frames]⟩,
   ⟨R.AUD_P_WR, [Fl.AUD_P_WR_count]⟩,
   ⟨R.AUD_P_SCHED_LO, [Fl.AUD_P_SCHED_LO_count]⟩,
   ⟨R.AUD_P_SCHED_HI, [Fl.AUD_P_SCHED_HI_count]⟩,
   ⟨R.AUD_P_CS, [Fl.AUD_P_CS_bytes]⟩,
   ⟨R.AUD_P_STAT, [Fl.AUD_P_STAT_anchor_moved, Fl.AUD_P_STAT_range, Fl.AUD_P_STAT_nonpcm, Fl.AUD_P_STAT_locked, Fl.AUD_P_STAT_fading, Fl.AUD_P_STAT_running]⟩,
   ⟨R.AUD_P_FADES, [Fl.AUD_P_FADES_count]⟩]

/-! ### LSP -/

def R.LSP_SMB_CTRL : Reg := ⟨0x1300000, [], 0xa03, [], false⟩
def Fl.LSP_SMB_CTRL_glitch : Fld := ⟨R.LSP_SMB_CTRL, 12, 8, .rw, .any⟩
def Fl.LSP_SMB_CTRL_tmo_en : Fld := ⟨R.LSP_SMB_CTRL, 1, 1, .rw, .any⟩
def Fl.LSP_SMB_CTRL_enable : Fld := ⟨R.LSP_SMB_CTRL, 0, 0, .rw, .any⟩
def R.LSP_SMB_STAT : Reg := ⟨0x1300004, [], 0, [], false⟩
def Fl.LSP_SMB_STAT_last_cmd : Fld := ⟨R.LSP_SMB_STAT, 23, 16, .st, .any⟩
def Fl.LSP_SMB_STAT_timeout : Fld := ⟨R.LSP_SMB_STAT, 4, 4, .w1c, .any⟩
def Fl.LSP_SMB_STAT_pec_err : Fld := ⟨R.LSP_SMB_STAT, 3, 3, .w1c, .any⟩
def Fl.LSP_SMB_STAT_nak : Fld := ⟨R.LSP_SMB_STAT, 2, 2, .w1c, .any⟩
def Fl.LSP_SMB_STAT_rx : Fld := ⟨R.LSP_SMB_STAT, 1, 1, .w1c, .any⟩
def Fl.LSP_SMB_STAT_busy : Fld := ⟨R.LSP_SMB_STAT, 0, 0, .st, .any⟩
def R.LSP_SMB_CNT : Reg := ⟨0x1300008, [], 0, [], false⟩
def Fl.LSP_SMB_CNT_errors : Fld := ⟨R.LSP_SMB_CNT, 31, 16, .cntSat, .any⟩
def Fl.LSP_SMB_CNT_xfers : Fld := ⟨R.LSP_SMB_CNT, 15, 0, .cnt, .any⟩
def R.LSP_SMB_ADDR : Reg := ⟨0x1300010, [(4, 4)], 0, [(0, 0x80007f60)], false⟩
def Fl.LSP_SMB_ADDR_en : Fld := ⟨R.LSP_SMB_ADDR, 31, 31, .rw, .any⟩
def Fl.LSP_SMB_ADDR_mask : Fld := ⟨R.LSP_SMB_ADDR, 14, 8, .rw, .any⟩
def Fl.LSP_SMB_ADDR_addr : Fld := ⟨R.LSP_SMB_ADDR, 6, 0, .rw, .any⟩
def R.LSP_SMB_CMD : Reg := ⟨0x1300100, [(0x20, 8)], 0, [], false⟩
def Fl.LSP_SMB_CMD_en : Fld := ⟨R.LSP_SMB_CMD, 31, 31, .rw, .any⟩
def Fl.LSP_SMB_CMD_pec : Fld := ⟨R.LSP_SMB_CMD, 30, 30, .rw, .any⟩
def Fl.LSP_SMB_CMD_kind : Fld := ⟨R.LSP_SMB_CMD, 29, 28, .rw, .any⟩
def Fl.LSP_SMB_CMD_length : Fld := ⟨R.LSP_SMB_CMD, 21, 16, .rw, .range 1 32⟩
def Fl.LSP_SMB_CMD_code : Fld := ⟨R.LSP_SMB_CMD, 15, 8, .rw, .any⟩
def Fl.LSP_SMB_CMD_offset : Fld := ⟨R.LSP_SMB_CMD, 4, 0, .rw, .any⟩
def R.LSP_SMB_SRC : Reg := ⟨0x1300104, [(0x20, 8)], 0, [], false⟩
def Fl.LSP_SMB_SRC_offset : Fld := ⟨R.LSP_SMB_SRC, 24, 2, .rw, .any⟩
def R.LSP_SMB_IN : Reg := ⟨0x1300200, [(8, 4)], 0, [], false⟩
def Fl.LSP_SMB_IN_bytes : Fld := ⟨R.LSP_SMB_IN, 31, 0, .ro, .any⟩
def R.LSP_SMB_OUT : Reg := ⟨0x1300220, [(8, 4)], 0, [], false⟩
def Fl.LSP_SMB_OUT_bytes : Fld := ⟨R.LSP_SMB_OUT, 31, 0, .rw, .any⟩
def R.LSP_I_CTRL : Reg := ⟨0x1301000, [(8, 0x100)], 0, [], false⟩
def Fl.LSP_I_CTRL_go : Fld := ⟨R.LSP_I_CTRL, 31, 31, .go, .any⟩
def Fl.LSP_I_CTRL_ev_en : Fld := ⟨R.LSP_I_CTRL, 30, 30, .rw, .any⟩
def Fl.LSP_I_CTRL_speed : Fld := ⟨R.LSP_I_CTRL, 29, 28, .rw, .le 2⟩
def Fl.LSP_I_CTRL_addr : Fld := ⟨R.LSP_I_CTRL, 14, 8, .rw, .any⟩
def Fl.LSP_I_CTRL_flush : Fld := ⟨R.LSP_I_CTRL, 0, 0, .go, .any⟩
def R.LSP_I_LEN : Reg := ⟨0x1301004, [(8, 0x100)], 0, [], false⟩
def Fl.LSP_I_LEN_rlen : Fld := ⟨R.LSP_I_LEN, 22, 16, .rw, .le 64⟩
def Fl.LSP_I_LEN_wlen : Fld := ⟨R.LSP_I_LEN, 6, 0, .rw, .le 64⟩
def R.LSP_I_RETRY : Reg := ⟨0x1301008, [(8, 0x100)], 0x280008, [], false⟩
def Fl.LSP_I_RETRY_window_ms : Fld := ⟨R.LSP_I_RETRY, 31, 16, .rw, .any⟩
def Fl.LSP_I_RETRY_tries : Fld := ⟨R.LSP_I_RETRY, 3, 0, .rw, .ge 1⟩
def R.LSP_I_DATA : Reg := ⟨0x130100c, [(8, 0x100)], 0, [], false⟩
def Fl.LSP_I_DATA_valid : Fld := ⟨R.LSP_I_DATA, 8, 8, .ro, .any⟩
def Fl.LSP_I_DATA_byte : Fld := ⟨R.LSP_I_DATA, 7, 0, .rw, .any⟩
def R.LSP_SPI_DATA : Reg := ⟨0x1302004, [(4, 0x100)], 0, [], false⟩
def Fl.LSP_SPI_DATA_valid : Fld := ⟨R.LSP_SPI_DATA, 8, 8, .ro, .any⟩
def Fl.LSP_SPI_DATA_byte : Fld := ⟨R.LSP_SPI_DATA, 7, 0, .rw, .any⟩
def R.LSP_I_STAT : Reg := ⟨0x1301010, [(8, 0x100)], 0, [], false⟩
def Fl.LSP_I_STAT_tries : Fld := ⟨R.LSP_I_STAT, 31, 28, .st, .any⟩
def Fl.LSP_I_STAT_result : Fld := ⟨R.LSP_I_STAT, 26, 24, .st, .any⟩
def Fl.LSP_I_STAT_done : Fld := ⟨R.LSP_I_STAT, 23, 23, .w1c, .any⟩
def Fl.LSP_I_STAT_busy : Fld := ⟨R.LSP_I_STAT, 22, 22, .st, .any⟩
def Fl.LSP_I_STAT_ovf : Fld := ⟨R.LSP_I_STAT, 21, 21, .w1c, .any⟩
def Fl.LSP_I_STAT_rx_level : Fld := ⟨R.LSP_I_STAT, 20, 14, .st, .any⟩
def Fl.LSP_I_STAT_tx_level : Fld := ⟨R.LSP_I_STAT, 13, 7, .st, .any⟩
def R.LSP_SPI_STAT : Reg := ⟨0x1302008, [(4, 0x100)], 0, [], false⟩
def Fl.LSP_SPI_STAT_tries : Fld := ⟨R.LSP_SPI_STAT, 31, 28, .st, .any⟩
def Fl.LSP_SPI_STAT_result : Fld := ⟨R.LSP_SPI_STAT, 26, 24, .st, .any⟩
def Fl.LSP_SPI_STAT_done : Fld := ⟨R.LSP_SPI_STAT, 23, 23, .w1c, .any⟩
def Fl.LSP_SPI_STAT_busy : Fld := ⟨R.LSP_SPI_STAT, 22, 22, .st, .any⟩
def Fl.LSP_SPI_STAT_ovf : Fld := ⟨R.LSP_SPI_STAT, 21, 21, .w1c, .any⟩
def Fl.LSP_SPI_STAT_rx_level : Fld := ⟨R.LSP_SPI_STAT, 20, 14, .st, .any⟩
def Fl.LSP_SPI_STAT_tx_level : Fld := ⟨R.LSP_SPI_STAT, 13, 7, .st, .any⟩
def R.LSP_I_CNT : Reg := ⟨0x1301014, [(8, 0x100)], 0, [], false⟩
def Fl.LSP_I_CNT_retries : Fld := ⟨R.LSP_I_CNT, 31, 16, .cntSat, .any⟩
def Fl.LSP_I_CNT_xfers : Fld := ⟨R.LSP_I_CNT, 15, 0, .cnt, .any⟩
def R.LSP_PMB_RAIL : Reg := ⟨0x1301780, [(6, 4)], 0xff00, [], false⟩
def Fl.LSP_PMB_RAIL_en : Fld := ⟨R.LSP_PMB_RAIL, 31, 31, .rw, .any⟩
def Fl.LSP_PMB_RAIL_addr : Fld := ⟨R.LSP_PMB_RAIL, 22, 16, .rw, .range 8 0x77⟩
def Fl.LSP_PMB_RAIL_page : Fld := ⟨R.LSP_PMB_RAIL, 15, 8, .rw, .any⟩
def R.LSP_SPI_CTRL : Reg := ⟨0x1302000, [(4, 0x100)], 0x40000, [], false⟩
def Fl.LSP_SPI_CTRL_go : Fld := ⟨R.LSP_SPI_CTRL, 31, 31, .go, .any⟩
def Fl.LSP_SPI_CTRL_cs : Fld := ⟨R.LSP_SPI_CTRL, 29, 28, .rw, .any⟩
def Fl.LSP_SPI_CTRL_hold : Fld := ⟨R.LSP_SPI_CTRL, 27, 27, .rw, .any⟩
def Fl.LSP_SPI_CTRL_mode : Fld := ⟨R.LSP_SPI_CTRL, 25, 24, .rw, .any⟩
def Fl.LSP_SPI_CTRL_div : Fld := ⟨R.LSP_SPI_CTRL, 23, 16, .rw, .ge 2⟩
def Fl.LSP_SPI_CTRL_len_m1 : Fld := ⟨R.LSP_SPI_CTRL, 5, 0, .rw, .any⟩
def R.LSP_U_CTRL : Reg := ⟨0x1303000, [(2, 0x100)], 0x6c8000, [], false⟩
def Fl.LSP_U_CTRL_div : Fld := ⟨R.LSP_U_CTRL, 31, 16, .rw, .ge 1⟩
def Fl.LSP_U_CTRL_frac : Fld := ⟨R.LSP_U_CTRL, 15, 10, .rw, .any⟩
def Fl.LSP_U_CTRL_parity : Fld := ⟨R.LSP_U_CTRL, 9, 8, .rw, .le 2⟩
def Fl.LSP_U_CTRL_stop2 : Fld := ⟨R.LSP_U_CTRL, 7, 7, .rw, .any⟩
def Fl.LSP_U_CTRL_rx_ev : Fld := ⟨R.LSP_U_CTRL, 6, 6, .rw, .any⟩
def Fl.LSP_U_CTRL_rx_en : Fld := ⟨R.LSP_U_CTRL, 1, 1, .rw, .any⟩
def Fl.LSP_U_CTRL_tx_en : Fld := ⟨R.LSP_U_CTRL, 0, 0, .rw, .any⟩
def R.LSP_U_DATA : Reg := ⟨0x1303004, [(2, 0x100)], 0, [], false⟩
def Fl.LSP_U_DATA_brk : Fld := ⟨R.LSP_U_DATA, 11, 11, .ro, .any⟩
def Fl.LSP_U_DATA_frame_err : Fld := ⟨R.LSP_U_DATA, 10, 10, .ro, .any⟩
def Fl.LSP_U_DATA_parity_err : Fld := ⟨R.LSP_U_DATA, 9, 9, .ro, .any⟩
def Fl.LSP_U_DATA_valid : Fld := ⟨R.LSP_U_DATA, 8, 8, .ro, .any⟩
def Fl.LSP_U_DATA_byte : Fld := ⟨R.LSP_U_DATA, 7, 0, .rw, .any⟩
def R.LSP_U_STAT : Reg := ⟨0x1303008, [(2, 0x100)], 0, [], false⟩
def Fl.LSP_U_STAT_rx_ovf : Fld := ⟨R.LSP_U_STAT, 17, 17, .w1c, .any⟩
def Fl.LSP_U_STAT_tx_ovf : Fld := ⟨R.LSP_U_STAT, 16, 16, .w1c, .any⟩
def Fl.LSP_U_STAT_rx_level : Fld := ⟨R.LSP_U_STAT, 12, 8, .st, .any⟩
def Fl.LSP_U_STAT_tx_level : Fld := ⟨R.LSP_U_STAT, 4, 0, .st, .any⟩
def R.LSP_U_ERR : Reg := ⟨0x130300c, [(2, 0x100)], 0, [], false⟩
def Fl.LSP_U_ERR_errors : Fld := ⟨R.LSP_U_ERR, 31, 16, .cntSat, .any⟩
def Fl.LSP_U_ERR_overruns : Fld := ⟨R.LSP_U_ERR, 15, 0, .cntSat, .any⟩
def R.LSP_USB_CTRL : Reg := ⟨0x1304000, [], 0, [], false⟩
def Fl.LSP_USB_CTRL_connect : Fld := ⟨R.LSP_USB_CTRL, 0, 0, .rw, .any⟩
def R.LSP_USB_STAT : Reg := ⟨0x1304004, [], 0, [], false⟩
def Fl.LSP_USB_STAT_address : Fld := ⟨R.LSP_USB_STAT, 22, 16, .st, .any⟩
def Fl.LSP_USB_STAT_hs : Fld := ⟨R.LSP_USB_STAT, 4, 4, .st, .any⟩
def Fl.LSP_USB_STAT_suspended : Fld := ⟨R.LSP_USB_STAT, 3, 3, .st, .any⟩
def Fl.LSP_USB_STAT_reset_seen : Fld := ⟨R.LSP_USB_STAT, 2, 2, .w1c, .any⟩
def Fl.LSP_USB_STAT_state : Fld := ⟨R.LSP_USB_STAT, 1, 0, .st, .any⟩
def R.LSP_USB_RXRING_LO : Reg := ⟨0x1304010, [], 0, [], false⟩
def Fl.LSP_USB_RXRING_LO_addr : Fld := ⟨R.LSP_USB_RXRING_LO, 31, 12, .rw, .any⟩
def R.LSP_USB_RXRING_HI : Reg := ⟨0x1304014, [], 0, [], false⟩
def Fl.LSP_USB_RXRING_HI_addr : Fld := ⟨R.LSP_USB_RXRING_HI, 31, 0, .rw, .any⟩
def R.LSP_USB_TXRING_LO : Reg := ⟨0x1304018, [], 0, [], false⟩
def Fl.LSP_USB_TXRING_LO_addr : Fld := ⟨R.LSP_USB_TXRING_LO, 31, 12, .rw, .any⟩
def R.LSP_USB_TXRING_HI : Reg := ⟨0x130401c, [], 0, [], false⟩
def Fl.LSP_USB_TXRING_HI_addr : Fld := ⟨R.LSP_USB_TXRING_HI, 31, 0, .rw, .any⟩
def R.LSP_USB_RINGSZ : Reg := ⟨0x1304020, [], 0, [], false⟩
def Fl.LSP_USB_RINGSZ_tx_pages : Fld := ⟨R.LSP_USB_RINGSZ, 31, 16, .rw, .any⟩
def Fl.LSP_USB_RINGSZ_rx_pages : Fld := ⟨R.LSP_USB_RINGSZ, 15, 0, .rw, .any⟩
def R.LSP_USB_RXWR : Reg := ⟨0x1304024, [], 0, [], false⟩
def Fl.LSP_USB_RXWR_count : Fld := ⟨R.LSP_USB_RXWR, 31, 0, .ro, .any⟩
def R.LSP_USB_RXRD : Reg := ⟨0x1304028, [], 0, [], false⟩
def Fl.LSP_USB_RXRD_count : Fld := ⟨R.LSP_USB_RXRD, 31, 0, .rw, .any⟩
def R.LSP_USB_TXWR : Reg := ⟨0x130402c, [], 0, [], false⟩
def Fl.LSP_USB_TXWR_count : Fld := ⟨R.LSP_USB_TXWR, 31, 0, .rw, .any⟩
def R.LSP_USB_TXRD : Reg := ⟨0x1304030, [], 0, [], false⟩
def Fl.LSP_USB_TXRD_count : Fld := ⟨R.LSP_USB_TXRD, 31, 0, .ro, .any⟩
def R.LSP_SD_STAT : Reg := ⟨0x1305000, [], 0, [], false⟩
def Fl.LSP_SD_STAT_mode : Fld := ⟨R.LSP_SD_STAT, 31, 28, .st, .any⟩
def Fl.LSP_SD_STAT_busy : Fld := ⟨R.LSP_SD_STAT, 1, 1, .st, .any⟩
def Fl.LSP_SD_STAT_present : Fld := ⟨R.LSP_SD_STAT, 0, 0, .st, .any⟩
def R.LSP_SD_CNT : Reg := ⟨0x1305004, [], 0, [], false⟩
def Fl.LSP_SD_CNT_unknown : Fld := ⟨R.LSP_SD_CNT, 31, 16, .cntSat, .any⟩
def Fl.LSP_SD_CNT_errors : Fld := ⟨R.LSP_SD_CNT, 15, 0, .cntSat, .any⟩
def R.LSP_GPIO_OUT : Reg := ⟨0x1306000, [(6, 0x10)], 0, [], false⟩
def Fl.LSP_GPIO_OUT_lines : Fld := ⟨R.LSP_GPIO_OUT, 7, 0, .rw, .any⟩
def R.LSP_GPIO_SET : Reg := ⟨0x1306004, [(6, 0x10)], 0, [], false⟩
def Fl.LSP_GPIO_SET_lines : Fld := ⟨R.LSP_GPIO_SET, 7, 0, .go, .any⟩
def R.LSP_GPIO_CLR : Reg := ⟨0x1306008, [(6, 0x10)], 0, [], false⟩
def Fl.LSP_GPIO_CLR_lines : Fld := ⟨R.LSP_GPIO_CLR, 7, 0, .go, .any⟩
def R.LSP_GPIO_IN : Reg := ⟨0x130600c, [(6, 0x10)], 0, [], false⟩
def Fl.LSP_GPIO_IN_lines : Fld := ⟨R.LSP_GPIO_IN, 7, 0, .st, .any⟩

def Tb.LSP0 : List RegRow :=
  [⟨R.LSP_SMB_CTRL, [Fl.LSP_SMB_CTRL_glitch, Fl.LSP_SMB_CTRL_tmo_en, Fl.LSP_SMB_CTRL_enable]⟩,
   ⟨R.LSP_SMB_STAT, [Fl.LSP_SMB_STAT_last_cmd, Fl.LSP_SMB_STAT_timeout, Fl.LSP_SMB_STAT_pec_err, Fl.LSP_SMB_STAT_nak, Fl.LSP_SMB_STAT_rx, Fl.LSP_SMB_STAT_busy]⟩,
   ⟨R.LSP_SMB_CNT, [Fl.LSP_SMB_CNT_errors, Fl.LSP_SMB_CNT_xfers]⟩,
   ⟨R.LSP_SMB_ADDR, [Fl.LSP_SMB_ADDR_en, Fl.LSP_SMB_ADDR_mask, Fl.LSP_SMB_ADDR_addr]⟩,
   ⟨R.LSP_SMB_CMD, [Fl.LSP_SMB_CMD_en, Fl.LSP_SMB_CMD_pec, Fl.LSP_SMB_CMD_kind, Fl.LSP_SMB_CMD_length, Fl.LSP_SMB_CMD_code, Fl.LSP_SMB_CMD_offset]⟩,
   ⟨R.LSP_SMB_SRC, [Fl.LSP_SMB_SRC_offset]⟩,
   ⟨R.LSP_SMB_IN, [Fl.LSP_SMB_IN_bytes]⟩,
   ⟨R.LSP_SMB_OUT, [Fl.LSP_SMB_OUT_bytes]⟩,
   ⟨R.LSP_I_CTRL, [Fl.LSP_I_CTRL_go, Fl.LSP_I_CTRL_ev_en, Fl.LSP_I_CTRL_speed, Fl.LSP_I_CTRL_addr, Fl.LSP_I_CTRL_flush]⟩,
   ⟨R.LSP_I_LEN, [Fl.LSP_I_LEN_rlen, Fl.LSP_I_LEN_wlen]⟩,
   ⟨R.LSP_I_RETRY, [Fl.LSP_I_RETRY_window_ms, Fl.LSP_I_RETRY_tries]⟩,
   ⟨R.LSP_I_DATA, [Fl.LSP_I_DATA_valid, Fl.LSP_I_DATA_byte]⟩,
   ⟨R.LSP_SPI_DATA, [Fl.LSP_SPI_DATA_valid, Fl.LSP_SPI_DATA_byte]⟩,
   ⟨R.LSP_I_STAT, [Fl.LSP_I_STAT_tries, Fl.LSP_I_STAT_result, Fl.LSP_I_STAT_done, Fl.LSP_I_STAT_busy, Fl.LSP_I_STAT_ovf, Fl.LSP_I_STAT_rx_level, Fl.LSP_I_STAT_tx_level]⟩,
   ⟨R.LSP_SPI_STAT, [Fl.LSP_SPI_STAT_tries, Fl.LSP_SPI_STAT_result, Fl.LSP_SPI_STAT_done, Fl.LSP_SPI_STAT_busy, Fl.LSP_SPI_STAT_ovf, Fl.LSP_SPI_STAT_rx_level, Fl.LSP_SPI_STAT_tx_level]⟩,
   ⟨R.LSP_I_CNT, [Fl.LSP_I_CNT_retries, Fl.LSP_I_CNT_xfers]⟩,
   ⟨R.LSP_PMB_RAIL, [Fl.LSP_PMB_RAIL_en, Fl.LSP_PMB_RAIL_addr, Fl.LSP_PMB_RAIL_page]⟩,
   ⟨R.LSP_SPI_CTRL, [Fl.LSP_SPI_CTRL_go, Fl.LSP_SPI_CTRL_cs, Fl.LSP_SPI_CTRL_hold, Fl.LSP_SPI_CTRL_mode, Fl.LSP_SPI_CTRL_div, Fl.LSP_SPI_CTRL_len_m1]⟩,
   ⟨R.LSP_U_CTRL, [Fl.LSP_U_CTRL_div, Fl.LSP_U_CTRL_frac, Fl.LSP_U_CTRL_parity, Fl.LSP_U_CTRL_stop2, Fl.LSP_U_CTRL_rx_ev, Fl.LSP_U_CTRL_rx_en, Fl.LSP_U_CTRL_tx_en]⟩,
   ⟨R.LSP_U_DATA, [Fl.LSP_U_DATA_brk, Fl.LSP_U_DATA_frame_err, Fl.LSP_U_DATA_parity_err, Fl.LSP_U_DATA_valid, Fl.LSP_U_DATA_byte]⟩]
def Tb.LSP1 : List RegRow :=
  [⟨R.LSP_U_STAT, [Fl.LSP_U_STAT_rx_ovf, Fl.LSP_U_STAT_tx_ovf, Fl.LSP_U_STAT_rx_level, Fl.LSP_U_STAT_tx_level]⟩,
   ⟨R.LSP_U_ERR, [Fl.LSP_U_ERR_errors, Fl.LSP_U_ERR_overruns]⟩,
   ⟨R.LSP_USB_CTRL, [Fl.LSP_USB_CTRL_connect]⟩,
   ⟨R.LSP_USB_STAT, [Fl.LSP_USB_STAT_address, Fl.LSP_USB_STAT_hs, Fl.LSP_USB_STAT_suspended, Fl.LSP_USB_STAT_reset_seen, Fl.LSP_USB_STAT_state]⟩,
   ⟨R.LSP_USB_RXRING_LO, [Fl.LSP_USB_RXRING_LO_addr]⟩,
   ⟨R.LSP_USB_RXRING_HI, [Fl.LSP_USB_RXRING_HI_addr]⟩,
   ⟨R.LSP_USB_TXRING_LO, [Fl.LSP_USB_TXRING_LO_addr]⟩,
   ⟨R.LSP_USB_TXRING_HI, [Fl.LSP_USB_TXRING_HI_addr]⟩,
   ⟨R.LSP_USB_RINGSZ, [Fl.LSP_USB_RINGSZ_tx_pages, Fl.LSP_USB_RINGSZ_rx_pages]⟩,
   ⟨R.LSP_USB_RXWR, [Fl.LSP_USB_RXWR_count]⟩,
   ⟨R.LSP_USB_RXRD, [Fl.LSP_USB_RXRD_count]⟩,
   ⟨R.LSP_USB_TXWR, [Fl.LSP_USB_TXWR_count]⟩,
   ⟨R.LSP_USB_TXRD, [Fl.LSP_USB_TXRD_count]⟩,
   ⟨R.LSP_SD_STAT, [Fl.LSP_SD_STAT_mode, Fl.LSP_SD_STAT_busy, Fl.LSP_SD_STAT_present]⟩,
   ⟨R.LSP_SD_CNT, [Fl.LSP_SD_CNT_unknown, Fl.LSP_SD_CNT_errors]⟩,
   ⟨R.LSP_GPIO_OUT, [Fl.LSP_GPIO_OUT_lines]⟩,
   ⟨R.LSP_GPIO_SET, [Fl.LSP_GPIO_SET_lines]⟩,
   ⟨R.LSP_GPIO_CLR, [Fl.LSP_GPIO_CLR_lines]⟩,
   ⟨R.LSP_GPIO_IN, [Fl.LSP_GPIO_IN_lines]⟩]
def Tb.LSP : List RegRow := Tb.LSP0 ++ Tb.LSP1

/-! ### HLT -/

def R.HLT_CMD : Reg := ⟨0x60000, [], 0, [], false⟩
def Fl.HLT_CMD_go : Fld := ⟨R.HLT_CMD, 31, 31, .go, .any⟩
def Fl.HLT_CMD_op : Fld := ⟨R.HLT_CMD, 27, 24, .rw, .range 1 2⟩
def Fl.HLT_CMD_tile : Fld := ⟨R.HLT_CMD, 7, 0, .rw, .any⟩
def R.HLT_SPARE : Reg := ⟨0x60004, [], 0x1ffffff, [], false⟩
def Fl.HLT_SPARE_pair_ready : Fld := ⟨R.HLT_SPARE, 24, 24, .st, .any⟩
def Fl.HLT_SPARE_dvt : Fld := ⟨R.HLT_SPARE, 23, 16, .st, .any⟩
def Fl.HLT_SPARE_rcu : Fld := ⟨R.HLT_SPARE, 15, 8, .st, .any⟩
def Fl.HLT_SPARE_rct : Fld := ⟨R.HLT_SPARE, 7, 0, .st, .any⟩
def R.HLT_RETIRED : Reg := ⟨0x60008, [], 0, [], false⟩
def Fl.HLT_RETIRED_dvt : Fld := ⟨R.HLT_RETIRED, 30, 18, .st, .any⟩
def Fl.HLT_RETIRED_rcu : Fld := ⟨R.HLT_RETIRED, 17, 9, .st, .any⟩
def Fl.HLT_RETIRED_rct : Fld := ⟨R.HLT_RETIRED, 8, 0, .st, .any⟩
def R.HLT_REPLAYS : Reg := ⟨0x6000c, [], 0, [], false⟩
def Fl.HLT_REPLAYS_count : Fld := ⟨R.HLT_REPLAYS, 31, 0, .cntSat, .any⟩
def R.HLT_UNREPAIRED : Reg := ⟨0x60010, [], 0, [], false⟩
def Fl.HLT_UNREPAIRED_count : Fld := ⟨R.HLT_UNREPAIRED, 31, 0, .cntSat, .any⟩
def R.HLT_KIND_WIN : Reg := ⟨0x60100, [(0xb, 8)], 0, [(0, 0x5265c00), (1, 0x36ee80), (2, 0x5265c00), (3, 0x5265c00), (4, 0x36ee80), (5, 0x5265c00), (6, 0x36ee80), (7, 0x3e8), (8, 0xea60), (9, 0xea60), (0xa, 0x5265c00)], false⟩
def Fl.HLT_KIND_WIN_ms : Fld := ⟨R.HLT_KIND_WIN, 31, 0, .rw, .ge 1⟩
def R.HLT_KIND_CFG : Reg := ⟨0x60104, [(0xb, 8)], 0, [(0, 0x10000003), (1, 0x10000040), (2, 0x10000001), (3, 0x20000002), (4, 0x30000040), (5, 0x10000001), (6, 0x100), (7, 0x400), (8, 0x30000100), (9, 0x400), (0xa, 0x100)], false⟩
def Fl.HLT_KIND_CFG_response : Fld := ⟨R.HLT_KIND_CFG, 31, 28, .rw, .le 3⟩
def Fl.HLT_KIND_CFG_threshold : Fld := ⟨R.HLT_KIND_CFG, 15, 0, .rw, .ge 1⟩
def R.HLT_SEL : Reg := ⟨0x60200, [], 0, [], false⟩
def Fl.HLT_SEL_source : Fld := ⟨R.HLT_SEL, 15, 0, .rw, .any⟩
def R.HLT_GC_LEVEL : Reg := ⟨0x60204, [], 0, [], false⟩
def Fl.HLT_GC_LEVEL_level : Fld := ⟨R.HLT_GC_LEVEL, 15, 0, .st, .any⟩
def R.HLT_GC_ERRS : Reg := ⟨0x60208, [], 0, [], false⟩
def Fl.HLT_GC_ERRS_count : Fld := ⟨R.HLT_GC_ERRS, 31, 0, .cnt, .any⟩
def R.HLT_GC_LASTING : Reg := ⟨0x6020c, [], 0, [], false⟩
def Fl.HLT_GC_LASTING_count : Fld := ⟨R.HLT_GC_LASTING, 31, 0, .cntSat, .any⟩

def Tb.HLT : List RegRow :=
  [⟨R.HLT_CMD, [Fl.HLT_CMD_go, Fl.HLT_CMD_op, Fl.HLT_CMD_tile]⟩,
   ⟨R.HLT_SPARE, [Fl.HLT_SPARE_pair_ready, Fl.HLT_SPARE_dvt, Fl.HLT_SPARE_rcu, Fl.HLT_SPARE_rct]⟩,
   ⟨R.HLT_RETIRED, [Fl.HLT_RETIRED_dvt, Fl.HLT_RETIRED_rcu, Fl.HLT_RETIRED_rct]⟩,
   ⟨R.HLT_REPLAYS, [Fl.HLT_REPLAYS_count]⟩,
   ⟨R.HLT_UNREPAIRED, [Fl.HLT_UNREPAIRED_count]⟩,
   ⟨R.HLT_KIND_WIN, [Fl.HLT_KIND_WIN_ms]⟩,
   ⟨R.HLT_KIND_CFG, [Fl.HLT_KIND_CFG_response, Fl.HLT_KIND_CFG_threshold]⟩,
   ⟨R.HLT_SEL, [Fl.HLT_SEL_source]⟩,
   ⟨R.HLT_GC_LEVEL, [Fl.HLT_GC_LEVEL_level]⟩,
   ⟨R.HLT_GC_ERRS, [Fl.HLT_GC_ERRS_count]⟩,
   ⟨R.HLT_GC_LASTING, [Fl.HLT_GC_LASTING_count]⟩]

/-! ### BARO -/

def R.BARO_CTRL : Reg := ⟨0x70000, [], 0x100, [], false⟩
def Fl.BARO_CTRL_auto : Fld := ⟨R.BARO_CTRL, 8, 8, .rw, .any⟩
def Fl.BARO_CTRL_go : Fld := ⟨R.BARO_CTRL, 0, 0, .go, .any⟩
def R.BARO_CFG : Reg := ⟨0x70004, [], 0xb40028, [], false⟩
def Fl.BARO_CFG_warn_days : Fld := ⟨R.BARO_CFG, 31, 16, .rw, .any⟩
def Fl.BARO_CFG_guard_ps : Fld := ⟨R.BARO_CFG, 15, 0, .rw, .ge 1⟩
def R.BARO_STAT : Reg := ⟨0x70008, [], 0, [], false⟩
def Fl.BARO_STAT_plans : Fld := ⟨R.BARO_STAT, 31, 16, .cnt, .any⟩
def Fl.BARO_STAT_eol : Fld := ⟨R.BARO_STAT, 3, 3, .w1c, .any⟩
def Fl.BARO_STAT_margin : Fld := ⟨R.BARO_STAT, 2, 2, .w1c, .any⟩
def Fl.BARO_STAT_pending_dawn : Fld := ⟨R.BARO_STAT, 1, 1, .st, .any⟩
def Fl.BARO_STAT_busy : Fld := ⟨R.BARO_STAT, 0, 0, .st, .any⟩
def R.BARO_HOURS : Reg := ⟨0x7000c, [], 0, [], false⟩
def Fl.BARO_HOURS_value : Fld := ⟨R.BARO_HOURS, 31, 0, .ro, .any⟩
def R.BARO_NEXT : Reg := ⟨0x70010, [], 0x5a0, [], false⟩
def Fl.BARO_NEXT_value : Fld := ⟨R.BARO_NEXT, 31, 0, .ro, .any⟩
def R.BARO_PREDICT : Reg := ⟨0x70014, [], 0xffffffff, [], false⟩
def Fl.BARO_PREDICT_value : Fld := ⟨R.BARO_PREDICT, 31, 0, .ro, .any⟩
def R.BARO_LOG_WR : Reg := ⟨0x70018, [], 0, [], false⟩
def Fl.BARO_LOG_WR_value : Fld := ⟨R.BARO_LOG_WR, 31, 0, .ro, .any⟩
def R.BARO_D : Reg := ⟨0x70100, [(0x18, 4)], 0, [], false⟩
def Fl.BARO_D_rail : Fld := ⟨R.BARO_D, 28, 24, .rw, .any⟩
def Fl.BARO_D_offset : Fld := ⟨R.BARO_D, 19, 16, .st, .any⟩
def Fl.BARO_D_slack : Fld := ⟨R.BARO_D, 15, 0, .st, .any⟩
def R.BARO_CAP : Reg := ⟨0x70200, [(0x12, 4)], 0x6464, [], false⟩
def Fl.BARO_CAP_effect : Fld := ⟨R.BARO_CAP, 15, 8, .st, .any⟩
def Fl.BARO_CAP_planned : Fld := ⟨R.BARO_CAP, 7, 0, .st, .any⟩
def R.BARO_HBM : Reg := ⟨0x70300, [], 0, [], false⟩
def Fl.BARO_HBM_value : Fld := ⟨R.BARO_HBM, 31, 0, .st, .any⟩
def R.BARO_MRAM : Reg := ⟨0x70304, [], 0, [], false⟩
def Fl.BARO_MRAM_value : Fld := ⟨R.BARO_MRAM, 31, 0, .st, .any⟩
def R.BARO_EYE : Reg := ⟨0x70308, [], 0, [], false⟩
def Fl.BARO_EYE_value : Fld := ⟨R.BARO_EYE, 31, 0, .st, .any⟩

def Tb.BARO : List RegRow :=
  [⟨R.BARO_CTRL, [Fl.BARO_CTRL_auto, Fl.BARO_CTRL_go]⟩,
   ⟨R.BARO_CFG, [Fl.BARO_CFG_warn_days, Fl.BARO_CFG_guard_ps]⟩,
   ⟨R.BARO_STAT, [Fl.BARO_STAT_plans, Fl.BARO_STAT_eol, Fl.BARO_STAT_margin, Fl.BARO_STAT_pending_dawn, Fl.BARO_STAT_busy]⟩,
   ⟨R.BARO_HOURS, [Fl.BARO_HOURS_value]⟩,
   ⟨R.BARO_NEXT, [Fl.BARO_NEXT_value]⟩,
   ⟨R.BARO_PREDICT, [Fl.BARO_PREDICT_value]⟩,
   ⟨R.BARO_LOG_WR, [Fl.BARO_LOG_WR_value]⟩,
   ⟨R.BARO_D, [Fl.BARO_D_rail, Fl.BARO_D_offset, Fl.BARO_D_slack]⟩,
   ⟨R.BARO_CAP, [Fl.BARO_CAP_effect, Fl.BARO_CAP_planned]⟩,
   ⟨R.BARO_HBM, [Fl.BARO_HBM_value]⟩,
   ⟨R.BARO_MRAM, [Fl.BARO_MRAM_value]⟩,
   ⟨R.BARO_EYE, [Fl.BARO_EYE_value]⟩]

/-! ### TRL -/

def R.TRL_CTRL : Reg := ⟨0x80000, [], 6, [], false⟩
def Fl.TRL_CTRL_ring_wait : Fld := ⟨R.TRL_CTRL, 8, 8, .rw, .any⟩
def Fl.TRL_CTRL_syslog_en : Fld := ⟨R.TRL_CTRL, 3, 3, .rw, .any⟩
def Fl.TRL_CTRL_bb_en : Fld := ⟨R.TRL_CTRL, 2, 2, .rw, .any⟩
def Fl.TRL_CTRL_ring_en : Fld := ⟨R.TRL_CTRL, 1, 1, .rw, .any⟩
def R.TRL_STAT : Reg := ⟨0x80004, [], 0, [], false⟩
def Fl.TRL_STAT_bb_squall : Fld := ⟨R.TRL_STAT, 3, 3, .st, .any⟩
def Fl.TRL_STAT_syslog_squall : Fld := ⟨R.TRL_STAT, 2, 2, .st, .any⟩
def Fl.TRL_STAT_ring_squall : Fld := ⟨R.TRL_STAT, 1, 1, .st, .any⟩
def Fl.TRL_STAT_evq_squall : Fld := ⟨R.TRL_STAT, 0, 0, .st, .any⟩
def R.TRL_TRACE_EN_LO : Reg := ⟨0x80008, [], 0, [], false⟩
def Fl.TRL_TRACE_EN_LO_mask : Fld := ⟨R.TRL_TRACE_EN_LO, 31, 0, .rw, .any⟩
def R.TRL_TRACE_EN_HI : Reg := ⟨0x8000c, [], 0, [], false⟩
def Fl.TRL_TRACE_EN_HI_mask : Fld := ⟨R.TRL_TRACE_EN_HI, 31, 0, .rw, .any⟩
def R.TRL_BB_EN_LO : Reg := ⟨0x80048, [], 0, [], false⟩
def Fl.TRL_BB_EN_LO_mask : Fld := ⟨R.TRL_BB_EN_LO, 31, 0, .rw, .any⟩
def R.TRL_BB_EN_HI : Reg := ⟨0x8004c, [], 0, [], false⟩
def Fl.TRL_BB_EN_HI_mask : Fld := ⟨R.TRL_BB_EN_HI, 31, 0, .rw, .any⟩
def R.TRL_TRACE_N : Reg := ⟨0x80010, [], 0, [], false⟩
def Fl.TRL_TRACE_N_syslog : Fld := ⟨R.TRL_TRACE_N, 12, 8, .st, .any⟩
def Fl.TRL_TRACE_N_ring : Fld := ⟨R.TRL_TRACE_N, 4, 0, .st, .any⟩
def R.TRL_RING_BASE_LO : Reg := ⟨0x80020, [], 0xd0000000, [], false⟩
def Fl.TRL_RING_BASE_LO_value : Fld := ⟨R.TRL_RING_BASE_LO, 31, 0, .ro, .any⟩
def R.TRL_RING_BASE_HI : Reg := ⟨0x80024, [], 0x23, [], false⟩
def Fl.TRL_RING_BASE_HI_value : Fld := ⟨R.TRL_RING_BASE_HI, 31, 0, .ro, .any⟩
def R.TRL_RING_WR : Reg := ⟨0x80028, [], 0, [], false⟩
def Fl.TRL_RING_WR_value : Fld := ⟨R.TRL_RING_WR, 31, 0, .ro, .any⟩
def R.TRL_RING_RD : Reg := ⟨0x8002c, [], 0, [], false⟩
def Fl.TRL_RING_RD_value : Fld := ⟨R.TRL_RING_RD, 31, 0, .rw, .any⟩
def R.TRL_LOSS_RING : Reg := ⟨0x80030, [], 0, [], false⟩
def Fl.TRL_LOSS_RING_count : Fld := ⟨R.TRL_LOSS_RING, 31, 0, .cntSat, .any⟩
def R.TRL_LOSS_SYSLOG : Reg := ⟨0x80034, [], 0, [], false⟩
def Fl.TRL_LOSS_SYSLOG_count : Fld := ⟨R.TRL_LOSS_SYSLOG, 31, 0, .cntSat, .any⟩
def R.TRL_LOSS_BB : Reg := ⟨0x80038, [], 0, [], false⟩
def Fl.TRL_LOSS_BB_count : Fld := ⟨R.TRL_LOSS_BB, 31, 0, .cntSat, .any⟩
def R.TRL_COALESCE : Reg := ⟨0x8003c, [], 0, [], false⟩
def Fl.TRL_COALESCE_count : Fld := ⟨R.TRL_COALESCE, 31, 0, .cntSat, .any⟩
def R.TRL_BB_CTRL : Reg := ⟨0x80040, [], 0, [], false⟩
def Fl.TRL_BB_CTRL_seal : Fld := ⟨R.TRL_BB_CTRL, 0, 0, .go, .any⟩
def R.TRL_BB_STAT : Reg := ⟨0x80044, [], 0, [], false⟩
def Fl.TRL_BB_STAT_other_sealed : Fld := ⟨R.TRL_BB_STAT, 31, 31, .st, .any⟩
def Fl.TRL_BB_STAT_half : Fld := ⟨R.TRL_BB_STAT, 30, 30, .st, .any⟩
def Fl.TRL_BB_STAT_cause : Fld := ⟨R.TRL_BB_STAT, 29, 28, .st, .any⟩
def Fl.TRL_BB_STAT_records : Fld := ⟨R.TRL_BB_STAT, 17, 0, .st, .any⟩
def R.TRL_SYSLOG_CTRL : Reg := ⟨0x80060, [], 0x44003e8, [], false⟩
def Fl.TRL_SYSLOG_CTRL_ipv6 : Fld := ⟨R.TRL_SYSLOG_CTRL, 31, 31, .rw, .any⟩
def Fl.TRL_SYSLOG_CTRL_port : Fld := ⟨R.TRL_SYSLOG_CTRL, 30, 28, .rw, .le 5⟩
def Fl.TRL_SYSLOG_CTRL_min_class : Fld := ⟨R.TRL_SYSLOG_CTRL, 27, 26, .rw, .le 2⟩
def Fl.TRL_SYSLOG_CTRL_hop : Fld := ⟨R.TRL_SYSLOG_CTRL, 23, 16, .rw, .any⟩
def Fl.TRL_SYSLOG_CTRL_rate : Fld := ⟨R.TRL_SYSLOG_CTRL, 15, 0, .rw, .ge 1⟩
def R.TRL_SYSLOG_DMAC_LO : Reg := ⟨0x80064, [], 0, [], false⟩
def Fl.TRL_SYSLOG_DMAC_LO_value : Fld := ⟨R.TRL_SYSLOG_DMAC_LO, 31, 0, .rw, .any⟩
def R.TRL_SYSLOG_DMAC_HI : Reg := ⟨0x80068, [], 0, [], false⟩
def Fl.TRL_SYSLOG_DMAC_HI_value : Fld := ⟨R.TRL_SYSLOG_DMAC_HI, 15, 0, .rw, .any⟩
def R.TRL_SYSLOG_SIP : Reg := ⟨0x80070, [(4, 4)], 0, [], false⟩
def Fl.TRL_SYSLOG_SIP_value : Fld := ⟨R.TRL_SYSLOG_SIP, 31, 0, .rw, .any⟩
def R.TRL_SYSLOG_DIP : Reg := ⟨0x80080, [(4, 4)], 0, [], false⟩
def Fl.TRL_SYSLOG_DIP_value : Fld := ⟨R.TRL_SYSLOG_DIP, 31, 0, .rw, .any⟩
def R.TRL_SYSLOG_PORTS : Reg := ⟨0x80090, [], 0x2020202, [], false⟩
def Fl.TRL_SYSLOG_PORTS_value : Fld := ⟨R.TRL_SYSLOG_PORTS, 31, 0, .rw, .any⟩
def R.TRL_SYSLOG_UTCOFF : Reg := ⟨0x80094, [], 0, [], false⟩
def Fl.TRL_SYSLOG_UTCOFF_value : Fld := ⟨R.TRL_SYSLOG_UTCOFF, 31, 0, .rw, .any⟩

def Tb.TRL0 : List RegRow :=
  [⟨R.TRL_CTRL, [Fl.TRL_CTRL_ring_wait, Fl.TRL_CTRL_syslog_en, Fl.TRL_CTRL_bb_en, Fl.TRL_CTRL_ring_en]⟩,
   ⟨R.TRL_STAT, [Fl.TRL_STAT_bb_squall, Fl.TRL_STAT_syslog_squall, Fl.TRL_STAT_ring_squall, Fl.TRL_STAT_evq_squall]⟩,
   ⟨R.TRL_TRACE_EN_LO, [Fl.TRL_TRACE_EN_LO_mask]⟩,
   ⟨R.TRL_TRACE_EN_HI, [Fl.TRL_TRACE_EN_HI_mask]⟩,
   ⟨R.TRL_BB_EN_LO, [Fl.TRL_BB_EN_LO_mask]⟩,
   ⟨R.TRL_BB_EN_HI, [Fl.TRL_BB_EN_HI_mask]⟩,
   ⟨R.TRL_TRACE_N, [Fl.TRL_TRACE_N_syslog, Fl.TRL_TRACE_N_ring]⟩,
   ⟨R.TRL_RING_BASE_LO, [Fl.TRL_RING_BASE_LO_value]⟩,
   ⟨R.TRL_RING_BASE_HI, [Fl.TRL_RING_BASE_HI_value]⟩,
   ⟨R.TRL_RING_WR, [Fl.TRL_RING_WR_value]⟩,
   ⟨R.TRL_RING_RD, [Fl.TRL_RING_RD_value]⟩,
   ⟨R.TRL_LOSS_RING, [Fl.TRL_LOSS_RING_count]⟩,
   ⟨R.TRL_LOSS_SYSLOG, [Fl.TRL_LOSS_SYSLOG_count]⟩,
   ⟨R.TRL_LOSS_BB, [Fl.TRL_LOSS_BB_count]⟩,
   ⟨R.TRL_COALESCE, [Fl.TRL_COALESCE_count]⟩,
   ⟨R.TRL_BB_CTRL, [Fl.TRL_BB_CTRL_seal]⟩,
   ⟨R.TRL_BB_STAT, [Fl.TRL_BB_STAT_other_sealed, Fl.TRL_BB_STAT_half, Fl.TRL_BB_STAT_cause, Fl.TRL_BB_STAT_records]⟩,
   ⟨R.TRL_SYSLOG_CTRL, [Fl.TRL_SYSLOG_CTRL_ipv6, Fl.TRL_SYSLOG_CTRL_port, Fl.TRL_SYSLOG_CTRL_min_class, Fl.TRL_SYSLOG_CTRL_hop, Fl.TRL_SYSLOG_CTRL_rate]⟩,
   ⟨R.TRL_SYSLOG_DMAC_LO, [Fl.TRL_SYSLOG_DMAC_LO_value]⟩,
   ⟨R.TRL_SYSLOG_DMAC_HI, [Fl.TRL_SYSLOG_DMAC_HI_value]⟩]
def Tb.TRL1 : List RegRow :=
  [⟨R.TRL_SYSLOG_SIP, [Fl.TRL_SYSLOG_SIP_value]⟩,
   ⟨R.TRL_SYSLOG_DIP, [Fl.TRL_SYSLOG_DIP_value]⟩,
   ⟨R.TRL_SYSLOG_PORTS, [Fl.TRL_SYSLOG_PORTS_value]⟩,
   ⟨R.TRL_SYSLOG_UTCOFF, [Fl.TRL_SYSLOG_UTCOFF_value]⟩]
def Tb.TRL : List RegRow := Tb.TRL0 ++ Tb.TRL1

/-! ### CPR -/

def R.CPR_RESET_CAUSE : Reg := ⟨0x90000, [], 0, [], false⟩
def Fl.CPR_RESET_CAUSE_dawns : Fld := ⟨R.CPR_RESET_CAUSE, 31, 16, .cnt, .any⟩
def Fl.CPR_RESET_CAUSE_cause : Fld := ⟨R.CPR_RESET_CAUSE, 1, 0, .ro, .any⟩
def R.CPR_RESET : Reg := ⟨0x90004, [], 0, [], false⟩
def Fl.CPR_RESET_go : Fld := ⟨R.CPR_RESET, 31, 31, .go, .any⟩
def Fl.CPR_RESET_key : Fld := ⟨R.CPR_RESET, 15, 0, .rw, .any⟩
def R.CPR_DAWN : Reg := ⟨0x90008, [], 0x10000000, [], false⟩
def Fl.CPR_DAWN_step : Fld := ⟨R.CPR_DAWN, 31, 28, .st, .any⟩
def Fl.CPR_DAWN_ms : Fld := ⟨R.CPR_DAWN, 15, 0, .st, .any⟩
def R.CPR_PD_STAT : Reg := ⟨0x90010, [], 1, [], false⟩
def Fl.CPR_PD_STAT_on : Fld := ⟨R.CPR_PD_STAT, 23, 0, .st, .any⟩
def R.CPR_PD_CTRL : Reg := ⟨0x90014, [], 0, [], false⟩
def Fl.CPR_PD_CTRL_go : Fld := ⟨R.CPR_PD_CTRL, 31, 31, .go, .any⟩
def Fl.CPR_PD_CTRL_refused : Fld := ⟨R.CPR_PD_CTRL, 30, 30, .w1c, .any⟩
def Fl.CPR_PD_CTRL_on : Fld := ⟨R.CPR_PD_CTRL, 8, 8, .rw, .any⟩
def Fl.CPR_PD_CTRL_domain : Fld := ⟨R.CPR_PD_CTRL, 4, 0, .rw, .le 23⟩
def R.CPR_CLK : Reg := ⟨0x90040, [(0x12, 4)], 0, [], false⟩
def Fl.CPR_CLK_running : Fld := ⟨R.CPR_CLK, 31, 31, .st, .any⟩
def Fl.CPR_CLK_locked : Fld := ⟨R.CPR_CLK, 30, 30, .st, .any⟩
def Fl.CPR_CLK_khz : Fld := ⟨R.CPR_CLK, 20, 0, .st, .any⟩
def R.CPR_DUSK_CFG : Reg := ⟨0x90100, [], 0x14352384, [], false⟩
def Fl.CPR_DUSK_CFG_hyst_mv : Fld := ⟨R.CPR_DUSK_CFG, 31, 24, .rw, .ge 1⟩
def Fl.CPR_DUSK_CFG_vcrit_mv : Fld := ⟨R.CPR_DUSK_CFG, 23, 12, .rw, .any⟩
def Fl.CPR_DUSK_CFG_vwarn_mv : Fld := ⟨R.CPR_DUSK_CFG, 11, 0, .rw, .any⟩
def R.CPR_DUSK_STAT : Reg := ⟨0x90104, [], 0, [], false⟩
def Fl.CPR_DUSK_STAT_warn_count : Fld := ⟨R.CPR_DUSK_STAT, 31, 16, .cntSat, .any⟩
def Fl.CPR_DUSK_STAT_vcrit_seen : Fld := ⟨R.CPR_DUSK_STAT, 4, 4, .w1c, .any⟩
def Fl.CPR_DUSK_STAT_landed : Fld := ⟨R.CPR_DUSK_STAT, 3, 3, .st, .any⟩
def Fl.CPR_DUSK_STAT_warn : Fld := ⟨R.CPR_DUSK_STAT, 1, 1, .st, .any⟩
def Fl.CPR_DUSK_STAT_below : Fld := ⟨R.CPR_DUSK_STAT, 0, 0, .st, .any⟩
def R.CPR_VSENSE : Reg := ⟨0x90108, [], 0, [], false⟩
def Fl.CPR_VSENSE_min_mv : Fld := ⟨R.CPR_VSENSE, 27, 16, .st, .any⟩
def Fl.CPR_VSENSE_mv : Fld := ⟨R.CPR_VSENSE, 11, 0, .st, .any⟩
def R.CPR_STANDBY : Reg := ⟨0x90110, [], 0, [], false⟩
def Fl.CPR_STANDBY_enter : Fld := ⟨R.CPR_STANDBY, 31, 31, .go, .any⟩
def Fl.CPR_STANDBY_exit : Fld := ⟨R.CPR_STANDBY, 30, 30, .go, .any⟩
def Fl.CPR_STANDBY_refused : Fld := ⟨R.CPR_STANDBY, 8, 8, .w1c, .any⟩
def Fl.CPR_STANDBY_state : Fld := ⟨R.CPR_STANDBY, 1, 0, .st, .any⟩

def Tb.CPR : List RegRow :=
  [⟨R.CPR_RESET_CAUSE, [Fl.CPR_RESET_CAUSE_dawns, Fl.CPR_RESET_CAUSE_cause]⟩,
   ⟨R.CPR_RESET, [Fl.CPR_RESET_go, Fl.CPR_RESET_key]⟩,
   ⟨R.CPR_DAWN, [Fl.CPR_DAWN_step, Fl.CPR_DAWN_ms]⟩,
   ⟨R.CPR_PD_STAT, [Fl.CPR_PD_STAT_on]⟩,
   ⟨R.CPR_PD_CTRL, [Fl.CPR_PD_CTRL_go, Fl.CPR_PD_CTRL_refused, Fl.CPR_PD_CTRL_on, Fl.CPR_PD_CTRL_domain]⟩,
   ⟨R.CPR_CLK, [Fl.CPR_CLK_running, Fl.CPR_CLK_locked, Fl.CPR_CLK_khz]⟩,
   ⟨R.CPR_DUSK_CFG, [Fl.CPR_DUSK_CFG_hyst_mv, Fl.CPR_DUSK_CFG_vcrit_mv, Fl.CPR_DUSK_CFG_vwarn_mv]⟩,
   ⟨R.CPR_DUSK_STAT, [Fl.CPR_DUSK_STAT_warn_count, Fl.CPR_DUSK_STAT_vcrit_seen, Fl.CPR_DUSK_STAT_landed, Fl.CPR_DUSK_STAT_warn, Fl.CPR_DUSK_STAT_below]⟩,
   ⟨R.CPR_VSENSE, [Fl.CPR_VSENSE_min_mv, Fl.CPR_VSENSE_mv]⟩,
   ⟨R.CPR_STANDBY, [Fl.CPR_STANDBY_enter, Fl.CPR_STANDBY_exit, Fl.CPR_STANDBY_refused, Fl.CPR_STANDBY_state]⟩]

end Sys2Proof.Machine
end

