-- ==== Sys2Proof/Machine/Operands.lean ====
section
/-! DEFINITION. How a command names a register or a field: offsets (R6, R13), instances, fields (R4), and the block of
an offset (R13, R38). -/

namespace Sys2Proof.Machine

/-- Offset of an instance from instance 0. -/
def instOffset : List (Nat × Nat) → List Nat → Nat
  | (_, st) :: ds, i :: is => i * st + instOffset ds is
  | _, _ => 0

/-- Where an instance of a register is held. A register held once per pipeline (R191) is held at its own key, away from
every BAR0 offset, its first instance index being the pipeline. -/
def Reg.key (r : Reg) (ix : List Nat) : Nat :=
  r.off + instOffset r.dims ix + (if r.perPipe then 0x40000000 else 0)

/-- The reset word of an instance (R7). -/
def Reg.resetAt (r : Reg) (ix : List Nat) : Word :=
  BitVec.ofNat 32 (((r.exc.find? fun e => e.1 = ix.getLast?.getD 0).map (·.2)).getD r.rst)

/-- A register word in a register file. -/
def RegFile.rd (f : RegFile) (r : Reg) (ix : List Nat) : Nat := (lookAt (r.resetAt ix) f (r.key ix)).toNat

def RegFile.wr (f : RegFile) (r : Reg) (ix : List Nat) (v : Nat) : RegFile :=
  setAt (r.resetAt ix) (r.key ix) (BitVec.ofNat 32 v) f

/-- Bits of a word replaced by a value (R4). -/
def putBits (w hi lo v : Nat) : Nat :=
  w / 2 ^ (hi + 1) * 2 ^ (hi + 1) + v % 2 ^ (hi + 1 - lo) * 2 ^ lo + w % 2 ^ lo

def RegFile.get (f : RegFile) (d : Fld) (ix : List Nat) : Nat := bits (f.rd d.reg ix) d.hi d.lo

def RegFile.put (f : RegFile) (d : Fld) (ix : List Nat) (v : Nat) : RegFile :=
  f.wr d.reg ix (putBits (f.rd d.reg ix) d.hi d.lo v)

namespace State

def rd (s : State) (r : Reg) (ix : List Nat := []) : Nat := s.regs.rd r ix
def wr (s : State) (r : Reg) (ix : List Nat) (v : Nat) : State := { s with regs := s.regs.wr r ix v }
/-- A field's value: for RWS the shadow (R33). -/
def get (s : State) (d : Fld) (ix : List Nat := []) : Nat := s.regs.get d ix
def put (s : State) (d : Fld) (ix : List Nat) (v : Nat) : State := { s with regs := s.regs.put d ix v }
def flag (s : State) (d : Fld) (ix : List Nat := []) : Bool := s.get d ix = 1

/-- A _LO and _HI pair as one value. -/
def rd64 (s : State) (lo hi : Reg) (ix : List Nat := []) : Nat := s.rd lo ix + 2 ^ 32 * s.rd hi ix
def wr64 (s : State) (lo hi : Reg) (ix : List Nat) (v : Nat) : State :=
  (s.wr lo ix (v % 2 ^ 32)).wr hi ix (v / 2 ^ 32 % 2 ^ 32)

/-- A hardware increment of a CNT field: it wraps after its largest value unless its Meaning says it saturates (R35). -/
def inc (s : State) (d : Fld) (ix : List Nat := []) (by_ : Nat := 1) : State :=
  let v := s.get d ix + by_
  let m := 2 ^ (d.hi + 1 - d.lo)
  s.put d ix (if d.kind = .cntSat then min v (m - 1) else v % m)

end State

/-- The instance that an offset names in a register's dimensions, if any. -/
def findInst : List (Nat × Nat) → Nat → Option (List Nat)
  | [], d => if d = 0 then some [] else none
  | (n, st) :: ds, d =>
    let i := if ds.isEmpty then d / st else min (d / st) (n - 1)
    if i < n then (findInst ds (d - i * st)).map (i :: ·) else none

/-- Does offset `off` name an instance of this register. -/
def Reg.at? (r : Reg) (off : Nat) : Option (List Nat) := if r.off ≤ off then findInst r.dims (off - r.off) else none

/-- The unit blocks of R13, by the order of their table. -/
inductive Blk where
  | dev | ord | evq | cmdq | drv | bulk | hlt | baro | trl | cpr | sfe
  | rct (n : Nat) | sts | rcu (n : Nat) | cap | recorder | dvt (n : Nat) | outf | vce | disp
  | hbmc (c : Nat) | ofl | mpc | hpc | time | eth | sky | aud | lsp | zst | xw
  | none
  deriving DecidableEq, Repr

/-- The block that holds a live BAR0 offset (R13, R38); `none` where no block lies (R8). -/
def blockOf (off : Nat) : Blk :=
  if off < 0x100000 then
    match off / 0x10000 with
    | 0 => .dev | 1 => .ord | 2 => .evq | 3 => .cmdq | 4 => .drv | 5 => .bulk | 6 => .hlt | 7 => .baro
    | 8 => .trl | 9 => .cpr | _ => .none
  else
    let m := off / 0x10000 % 16
    match off / 0x100000 with
    | 1 => .sfe | 2 => if m < 9 then .rct m else .none | 3 => .sts | 4 => if m < 9 then .rcu m else .none
    | 5 => .cap | 6 => .recorder | 7 => if m < 13 then .dvt m else .none | 8 => .outf | 9 => .vce | 10 => .disp
    | 11 => .hbmc (off / 0x4000 % 64) | 12 => .ofl | 13 => .mpc | 14 => .hpc | 15 => .time | 16 => .eth | 17 => .sky
    | 18 => .aud | 19 => .lsp | 20 => .zst | 21 => .xw | _ => .none

/-- The register table of a block. -/
def Blk.table : Blk → List RegRow
  | .dev => Tb.DEV | .ord => Tb.ORD | .evq => Tb.EVQ | .cmdq => Tb.CMDQ | .drv => Tb.DRV | .bulk => Tb.BULK
  | .hlt => Tb.HLT | .baro => Tb.BARO | .trl => Tb.TRL | .cpr => Tb.CPR | .sfe => Tb.SFE | .rct _ => Tb.RCT
  | .sts => Tb.STS | .rcu _ => Tb.RCU | .cap => Tb.CAP | .recorder => Tb.REC | .dvt _ => Tb.DVT | .outf => Tb.OUTF
  | .vce => Tb.VCE | .disp => Tb.DISP | .hbmc _ => Tb.HBMC | .ofl => Tb.OFL | .mpc => Tb.MPC | .time => Tb.TIME
  | .sky => Tb.SKY | .aud => Tb.AUD | .lsp => Tb.LSP | .zst => Tb.ZST
  | .hpc => [] | .eth => [] | .xw => [] | .none => []

/-- The register at a live offset and the instance it names. -/
def findReg (off : Nat) : Option (RegRow × List Nat) :=
  (blockOf off).table.findSome? fun row => (row.reg.at? off).map fun ix => (row, ix)

/-- Is a value not a reserved encoding of a field of width `n` (R9); GEOM fields are judged apart. -/
def Allowed.ok (a : Allowed) (n v : Nat) : Bool :=
  match a with
  | .any => true
  | .le k => v ≤ k
  | .ge k => k ≤ v
  | .range lo hi => lo ≤ v && v ≤ hi
  | .oneOf l => l.contains v
  | .mult k => v % k = 0
  | .signedAbs k => (signed n v).natAbs ≤ k
  | .finite => bits v 30 23 ≠ 255
  | .posFinite => bits v 30 23 ≠ 255 && v < 2 ^ 31 && v ≠ 0
  | .nonnegFinite => bits v 30 23 ≠ 255 && (v < 2 ^ 31 || v = 2 ^ 31)
  | .belowOne => v < 0x3F800000 || v = 2 ^ 31
  | .aboveOne => 0x3F800000 < v && v < 0x7F800000
  | .branchFmt => v ≤ 9 && v ≠ 7
  | .capDepth => v ≠ 1
  | .geomHeight => true
  | .geomWidth => true

end Sys2Proof.Machine
end

