-- ==== Sys2Proof/Machine/Ops.lean ====
section
/-! DEFINITION. The operations that every unit shares: device time, event records, power domains, memories, free values,
the epoch records and the stream graph. -/

namespace Sys2Proof.Machine

/-- FRAME_ID of a record that concerns no frame (R58). -/
def noFrame : Nat := 0xFFFFFFFFFFFFFFFF

/-- Source unit codes (R60). -/
def srcDEV : Nat := 0x01
def srcORD : Nat := 0x02
def srcEVQ : Nat := 0x03
def srcCMDQ : Nat := 0x04
def srcDRV : Nat := 0x05
def srcBULK : Nat := 0x06
def srcHLT : Nat := 0x07
def srcBARO : Nat := 0x08
def srcTRL : Nat := 0x09
def srcCPR : Nat := 0x0A
def srcSFE : Nat := 0x10
def srcRCT : Nat := 0x11
def srcSTS : Nat := 0x12
def srcRCU : Nat := 0x13
def srcCAP : Nat := 0x14
def srcREC : Nat := 0x15
def srcDVT : Nat := 0x16
def srcOUTF : Nat := 0x17
def srcVCE : Nat := 0x18
def srcDISP : Nat := 0x19
def srcHBMC : Nat := 0x1A
def srcOFL : Nat := 0x1B
def srcMPC : Nat := 0x1C
def srcHPC : Nat := 0x1D
def srcTIME : Nat := 0x1E
def srcETH : Nat := 0x1F
def srcSKY : Nat := 0x20
def srcAUD : Nat := 0x21
def srcLSP : Nat := 0x22
def srcZST : Nat := 0x23
def srcXW : Nat := 0x24
def srcFW : Nat := 0x30

/-- What a command answers. -/
abbrev Res := Host.Outcome State Fault Refusal

namespace State

/-! ### Time (R443, R448) -/

/-- Device time in units of 2^-32 ns: the active base plus the offset (R448). -/
def dtFine (s : State) : Int := (s.time.tb.getD (s.get Fl.TIME_DT_STAT_active) 0 : Nat) + s.time.ofs

/-- Device time in ns (64 bits). -/
def dt (s : State) : Nat := unsigned 64 (s.dtFine / (2 ^ 32 : Nat))

/-- A time base in units of 2^-32 ns; TB3 reads DT while aliased (R446). -/
def tbFine (s : State) (n : Nat) : Nat :=
  if n = 3 && s.flag Fl.TIME_TB_CTRL_dt_alias [3] then s.dtFine.toNat else s.time.tb.getD n 0

/-- A time base in ns. -/
def tbNs (s : State) (n : Nat) : Nat := s.tbFine n / 2 ^ 32 % 2 ^ 64

/-! ### Event records (R58) -/

def raise (s : State) (r : Rec) : State := { s with raised := s.raised ++ [r] }

/-- A record that concerns no frame: epoch DEV_EPOCH_IN (R58). -/
def ev (s : State) (typ src inst payload : Nat) : State :=
  s.raise ⟨typ, src, inst, s.rd R.DEV_EPOCH_IN, noFrame, s.dt, payload % 2 ^ 64, 0⟩

/-- A record that concerns frame `fid` of epoch `epoch` (R58). -/
def evFrame (s : State) (typ src inst epoch fid payload : Nat) : State :=
  s.raise ⟨typ, src, inst, epoch, fid, s.dt, payload % 2 ^ 64, 0⟩

/-- A completion record for queue `q` (R61, R70). -/
def evDone (s : State) (typ src inst q payload : Nat) : State :=
  s.raise ⟨typ, src, inst, s.rd R.DEV_EPOCH_IN, noFrame, s.dt, payload % 2 ^ 64, q⟩

/-- An occurrence of a rate-limited record (R598), reported by the next record of its type and instance. -/
def evLimited (s : State) (typ src inst epoch fid payload : Nat) : State :=
  { s with limited := s.limited ++ [⟨typ, src, inst, epoch, fid, s.dt, payload % 2 ^ 64, 0⟩] }

/-! ### Outputs -/

def emit (s : State) (o : Out) : State := { s with out := s.out ++ [o] }

def hostWrite (s : State) (a : Nat) (b : Bytes) : State := { s with host := s.host.write a b }

def mramWrite (s : State) (a : Nat) (b : Bytes) : State := { s with mram := s.mram.write a b }

/-- The next free value (log 2): nothing constrains it. -/
def fresh (s : State) : Nat × State := (Config.freeValue s.free, { s with free := s.free + 1 })

/-- A trace record of a source whose trace is enabled (R550); the spec states no payload for it (log 2). -/
def trace (s : State) (src kind inst epoch fid : Nat) : State :=
  if bit (s.rd64 R.TRL_TRACE_EN_LO R.TRL_TRACE_EN_HI) src then
    let r := s.fresh
    r.2.evFrame (0x2000 + src * 0x40 + kind) src inst epoch fid r.1
  else s

/-- `n` bytes of free content (log 2). -/
def freeBytes (s : State) (n : Nat) : Bytes × State :=
  ((List.range n).map fun i => Config.freeByte (s.free + i), { s with free := s.free + n })

/-! ### Power domains (R567) -/

/-- The power domain of a block; `none` for offsets in no block. -/
def domainOf : Blk → Option Nat
  | .cpr => some 0
  | .dev => some 2 | .ord => some 2 | .evq => some 2 | .cmdq => some 2 | .drv => some 2 | .bulk => some 2
  | .hlt => some 2 | .baro => some 2 | .xw => some 2
  | .trl => some 23 | .zst => some 23
  | .sfe => some 3
  | .rct n => some (5 + n / 3)
  | .rcu n => some (if n < 5 then 8 else 9)
  | .dvt n => some (if n < 4 then 10 else if n < 8 then 11 else 12)
  | .sts => some 13 | .cap => some 13 | .outf => some 13
  | .vce => some 14 | .disp => some 15 | .hbmc _ => some 16 | .hpc => some 17 | .ofl => some 18
  | .mpc => some 19 | .recorder => some 19
  | .time => some 20 | .eth => some 20 | .sky => some 20
  | .aud => some 21 | .lsp => some 22
  | .none => none

def domainOn (s : State) (d : Nat) : Bool := bit (s.rd R.CPR_PD_STAT) d

/-- Is the unit of a block powered; offsets in no block answer as powered (R8). -/
def powered (s : State) (b : Blk) : Bool := match domainOf b with | some d => s.domainOn d | none => true

/-- Does a BAR0 access reach the unit of a block: the unit is powered, and the host port passes the access on through the control
fabric of PD2, which CPR and TIME do without (R30, R576, R584). -/
def reaches (s : State) (b : Blk) : Bool :=
  s.powered b && s.domainOn 17 && (s.domainOn 2 || decide (b = .cpr) || decide (b = .time))

/-- A register write that a unit serves only where it reaches it; it is discarded otherwise, and off_access is set where the fabric
sees it (R30, R584). -/
def onUnit (s : State) (b : Blk) (f : State → State) : State :=
  if s.reaches b then f s else if s.domainOn 2 && s.domainOn 17 then s.put Fl.DEV_STATUS_off_access [] 1 else s

/-! ### The memory plan (R85, R87, R388) -/

/-- The partition that holds a plan address. -/
def partAt (s : State) (a : Nat) : Option PartRec := s.graph.parts.find? fun p => p.base ≤ a && a < p.base + p.size

/-- Does a region lie entirely inside a partition owned by the pipeline or shared (R214, R220, R232). -/
def regionOk (s : State) (g : Graph) (p base size : Nat) : Bool :=
  g.parts.any fun q => (q.owner = p || q.owner = 0xFF) && q.base ≤ base && base + size ≤ q.base + q.size

def reservedLo : Nat := 0x23C0000000
def reservedHi : Nat := 0x23F7200000

/-- Does storage stand behind a plan address (R387, R388). -/
def mapped (s : State) (a : Nat) : Bool := (reservedLo ≤ a && a < reservedHi) || (s.partAt a).isSome

/-- Is a plan address in the staging window (R87). -/
def inStaging (a : Nat) : Bool := reservedLo ≤ a && a < reservedLo + 0x1000000

/-! ### HBM addresses and frozen channels (R384 to R387, R402 to R405) -/

/-- Where a physical address lies (R386). -/
structure HbmLoc where
  ch : Nat
  pc : Nat
  bank : Nat
  row : Nat
  col : Nat
  deriving DecidableEq, Repr

def physLoc (pa : Nat) : HbmLoc :=
  let a := pa / 64
  let l := a % 8
  let gi := a / 8 % 8
  let pc := a / 64 % 2
  let col := a / 128 % 16
  let bank := a / 2048 % 48
  let row := a / 2048 / 48
  let g := gi ^^^ (bank % 8) ^^^ (row % 8)
  ⟨l / 2 * 16 + 2 * g + l % 2, pc, bank, row, col⟩

/-- Parity group of a channel (R383). -/
def chGroup (n : Nat) : Nat := n % 16 / 2

/-- Physical address of offset `o` of a protected extent (R385). -/
def protPhys (pbase o : Nat) : Nat :=
  let a := o / 64
  let k := a / 7
  let p := 7 - k % 8
  pbase + (k * 8 + (p + 1 + a % 7) % 8) * 64 + o % 64

/-- Physical address of a plan address, and whether it is protected (R384, R385, R387). -/
def phys (s : State) (a : Nat) : Option (Nat × Bool) :=
  if reservedLo ≤ a && a < reservedHi then some (protPhys reservedLo (a - reservedLo), true)
  else (s.partAt a).map fun q =>
    let pbase := s.get Fl.HBMC_MAP_pbase [q.id] * 0x200000
    if q.prot then (protPhys pbase (a - q.base), true) else (pbase + (a - q.base), false)

/-- Is a parity group lost: two of its channels are frozen, or one is frozen and one in resync (R405). -/
def groupLost (s : State) (g : Nat) : Bool :=
  let d := (s.hbmc.down.filter fun n => chGroup n = g).length
  1 ≤ d && 2 ≤ d + (s.hbmc.sync.filter fun n => chGroup n = g).length

/-- Does the 64-byte access at a plan address answer with poison, and lose what is written to it (R403, R405). -/
def unitBad (s : State) (a : Nat) : Bool :=
  match s.phys a with
  | none => false
  | some (pa, prot) =>
    let n := (physLoc pa).ch
    if prot then (s.hbmc.down.contains n || s.hbmc.sync.contains n) && s.groupLost (chGroup n) else s.hbmc.down.contains n

/-- The first addresses, in their 64-byte accesses, of a span of bytes. -/
def unitsOf (a n : Nat) : List Nat := if n = 0 then [] else (List.range ((a + n - 1) / 64 - a / 64 + 1)).map fun i => (a / 64 + i) * 64

/-- Does a read of a span meet poison (R215, R403). -/
def poisonedAt (s : State) (a n : Nat) : Bool := !s.hbmc.down.isEmpty && (unitsOf a n).any fun u => s.unitBad u

/-- The free values that a plan address holds while its content is undefined (R2). -/
def undefAt (s : State) (a : Nat) : Option Nat := (s.undef.find? fun r => r.1 ≤ a && a < r.1 + r.2.1).map fun r => r.2.2

/-- HBM bytes, addressed as the memory plan addresses them (R53, R384); a byte of undefined content is a free value (log 2). -/
def hbmByte (s : State) (a : Nat) : Byte :=
  match s.undefAt a with
  | some seed => Config.undefByte seed a
  | none => s.hbm.get a

def hbmRead (s : State) (a n : Nat) : Bytes := (List.range n).map fun i => s.hbmByte (a + i)

/-- Ranges without the `n` bytes from `a`. -/
def carve (a n : Nat) (l : List (Nat × Nat × Nat)) : List (Nat × Nat × Nat) :=
  if n = 0 then l
  else l.flatMap fun r =>
    let below := min (r.1 + r.2.1) a - r.1
    let above := max r.1 (a + n)
    (if below = 0 then [] else [(r.1, below, r.2.2)])
      ++ if r.1 + r.2.1 ≤ above then [] else [(above, r.1 + r.2.1 - above, r.2.2)]

/-- The content of `n` bytes becomes undefined: free values of their own (R2). -/
def hbmUndef (s : State) (a n : Nat) : State :=
  if n = 0 then s
  else { s with hbm := s.hbm.zero a n, undef := (a, n, s.free) :: carve a n s.undef, free := s.free + 1 }

/-- `n` bytes read 0 (R88). -/
def hbmZero (s : State) (a n : Nat) : State := { s with hbm := s.hbm.zero a n, undef := carve a n s.undef }

def hbmWrite (s : State) (a : Nat) (b : Bytes) : State :=
  if s.hbmc.down.isEmpty then { s with hbm := s.hbm.write a b, undef := carve a b.length s.undef }
  else
    let good := b.zipIdx.filter fun x => !s.unitBad ((a + x.2) / 64 * 64)
    { s with
      hbm := good.foldl (fun (m : Mem) x => m.set (a + x.2) x.1) s.hbm
      undef := good.foldl (fun l x => carve (a + x.2) 1 l) s.undef }

/-! ### Epochs (R134, R142) -/

/-- The record of an epoch; epoch 0 before any commit is the live set. -/
def epochRec (s : State) (e : Nat) : EpochRec :=
  (s.epochs.find? fun r => r.num = e).getD ⟨e, s.regs, s.graph, none⟩

/-- The value of an RWS field in effect for an epoch (R134, R142). -/
def eff (s : State) (e : Nat) (d : Fld) (ix : List Nat := []) : Nat := (s.epochRec e).regs.get d ix

def effRd (s : State) (e : Nat) (r : Reg) (ix : List Nat := []) : Nat := (s.epochRec e).regs.rd r ix

/-- The value in effect for device-scoped fields (R136). -/
def dev (s : State) (d : Fld) (ix : List Nat := []) : Nat := s.eff (s.rd R.DEV_EPOCH_IN) d ix

def devRd (s : State) (r : Reg) (ix : List Nat := []) : Nat := s.effRd (s.rd R.DEV_EPOCH_IN) r ix

/-! ### Pipelines -/

def pipeSt (s : State) (p : Nat) : PipeSt := s.pipes.getD p PipeSt.init

def modPipe (s : State) (p : Nat) (f : PipeSt → PipeSt) : State := { s with pipes := modNth s.pipes p f }

/-- The epoch that pipeline `p` is in, and a pipeline-scoped value in effect there (R134). -/
def pipeEpoch (s : State) (p : Nat) : Nat := (s.pipeSt p).epoch
def effP (s : State) (p : Nat) (d : Fld) (ix : List Nat := []) : Nat := s.eff (s.pipeEpoch p) d ix
def effPRd (s : State) (p : Nat) (r : Reg) (ix : List Nat := []) : Nat := s.effRd (s.pipeEpoch p) r ix

end State

/-! ### Serial-number arithmetic (R120) -/

/-- Epoch a is newer than epoch b. -/
def newer (a b : Nat) : Bool :=
  let d := (a + 2 ^ 32 - b) % 2 ^ 32
  1 ≤ d && d < 2 ^ 31

/-! ### The stream graph -/

namespace Graph

def pipe? (g : Graph) (p : Nat) : Option PipeRec := g.pipes.find? fun r => r.pipe = p

def stream? (g : Graph) (n : Nat) : Option StreamRec := g.streams.find? fun r => r.id = n

/-- The edge that feeds a pipeline's INGEST stage (R83 rule 2). -/
def feed? (g : Graph) (p : Nat) : Option EdgeRec := g.edges.find? fun e => e.src / 256 = 1 && e.dst = 0x200 + p * 16

/-- The stream that feeds a pipeline. -/
def streamOf (g : Graph) (p : Nat) : Option StreamRec := (g.feed? p).bind fun e => g.stream? (e.src % 256)

/-- The pipeline that a stream feeds (R83 rule 10). -/
def pipeOf (g : Graph) (stream : Nat) : Option Nat :=
  (g.edges.find? fun e => e.src = 0x100 + stream).map fun e => (e.dst - 0x200) / 16

def buffer? (g : Graph) (i : Nat) : Option BufferRec := g.buffers.find? fun b => b.id = i

def part? (g : Graph) (i : Nat) : Option PartRec := g.parts.find? fun p => p.id = i

/-- The instances of a tile class assigned to a pipeline, ascending (R192). -/
def tilesOf (g : Graph) (p cls : Nat) : List Nat :=
  match g.tiles.find? fun t => t.pipe = p && t.cls = cls with
  | some t => (List.range 16).filter fun n => bit t.mask n
  | none => []

/-- The pipeline that a tile is assigned to. -/
def tilePipe (g : Graph) (cls n : Nat) : Option Nat :=
  (g.tiles.find? fun t => t.cls = cls && bit t.mask n).map fun t => t.pipe

def branch? (g : Graph) (p b : Nat) : Option BranchRec := g.branches.find? fun r => r.pipe = p && r.branch = b

def branchesOf (g : Graph) (p : Nat) : List BranchRec := g.branches.filter fun r => r.pipe = p

/-- Does a stage edge run between two stages of a pipeline. -/
def hasStageEdge (g : Graph) (p a b : Nat) : Bool :=
  g.edges.any fun e => e.src = 0x200 + p * 16 + a && e.dst = 0x200 + p * 16 + b

/-- The edge from a branch to its consumer. -/
def branchEdge? (g : Graph) (p b : Nat) : Option EdgeRec := g.edges.find? fun e => e.src = 0x300 + p * 8 + b

/-- The plan address of a buffer. -/
def bufferBase (g : Graph) (b : BufferRec) : Nat := ((g.part? b.part).map fun p => p.base + b.offset).getD 0

/-- The port record of a class and index. -/
def port? (g : Graph) (cls ix : Nat) : Option PortRec := g.ports.find? fun p => p.cls = cls && p.index = ix

def portOn (g : Graph) (cls ix : Nat) : Bool := ((g.port? cls ix).map fun p => p.enable).getD false

end Graph

namespace State

/-- Is an Ethernet port enabled: 0 to 3 run at 100 Gbit/s, 4 and 5 are the 10GBASE-R ports (R92, R457). -/
def netOn (s : State) (p : Nat) : Bool := if p < 4 then s.graph.portOn 5 p else s.graph.portOn 6 (p - 4)

/-- A frame leaves on an Ethernet port; one that has no record is disabled (R92). -/
def ethSend (s : State) (p : Nat) (b : Bytes) : State := if s.netOn p then s.emit (.eth p b) else s

/-- The structure that the frames of an epoch run on (R143, R144). -/
def graphOf (s : State) (e : Nat) : Graph := (s.epochRec e).graph

/-- A substitution holds for the frames of an epoch: the front that makes it the assignment is not taken yet, or is newer (R143). -/
def Subst.holds (x : Subst) (e : Nat) : Bool := match x.since with
  | none => true
  | some f => newer f e

/-- The tiles of a class that process a pipeline's stripes of an epoch's frames, in stripe order: a spare stands in its faulty tile's
place (R143, R192). -/
def workers (s : State) (e p cls : Nat) : List Nat :=
  ((s.graphOf e).tilesOf p cls).map fun n =>
    match s.subst.find? fun x => x.pipe = p && x.cls = cls && x.faulty = n && Subst.holds x e with
    | some x => x.spare
    | none => n

/-- The pipeline whose frame `fid` a tile works on in unit `u`: the frame's own structure says so (R144). -/
def tileWork (s : State) (u : FlowUnit) (cls n fid : Nat) : Option Nat :=
  (s.frames.find? fun f => f.fid = fid && f.units.contains u && (s.workers f.epoch f.pipe cls).contains n).map fun f => f.pipe

end State

/-- The pipeline that a tile works for: its assignment, or the substitution that it carries (R143, R191). -/
def State.tilePipe (s : State) (cls n : Nat) : Option Nat :=
  match s.subst.find? fun x => x.cls = cls && x.spare = n && x.since.isNone with
  | some x => some x.pipe
  | none => s.graph.tilePipe cls n

end Sys2Proof.Machine
end

