-- ==== Sys2Proof/Machine/Cont.lean ====
section
/-! DEFINITION. Sizes and layouts that the image checks, the commit and the units share: containers and ingest slots (R166,
R184), CFA periods and stripes (R192, R198), rasters (R359) and buffers (R83). -/

namespace Sys2Proof.Machine

/-- Samples in a container group, bytes in it and bits of a sample (R166). -/
def contSamples : Nat → Nat
  | 0 => 4 | 1 => 2 | 2 => 4 | _ => 1
def contBytes : Nat → Nat
  | 0 => 5 | 1 => 3 | 2 => 7 | _ => 2
def contBits : Nat → Nat
  | 0 => 10 | 1 => 12 | 2 => 14 | _ => 16

/-- The samples of one container group (R166). -/
def unpackGroup (c : Nat) (b : Bytes) : List Nat :=
  let y (i : Nat) : Nat := (b.getD i 0).toNat
  match c with
  | 0 => (List.range 4).map fun i => y i * 4 + y 4 / 4 ^ i % 4
  | 1 => [y 0 * 16 + y 2 % 16, y 1 * 16 + y 2 / 16]
  | 2 =>
    let low := y 4 + 2 ^ 8 * y 5 + 2 ^ 16 * y 6
    (List.range 4).map fun i => y i * 64 + low / 64 ^ i % 64
  | _ => [y 0 + 256 * y 1]

/-- The bytes of one container group (R166). -/
def packGroup (c : Nat) (v : List Nat) : Bytes :=
  let x (i : Nat) : Nat := v.getD i 0
  match c with
  | 0 => ((List.range 4).map fun i => BitVec.ofNat 8 (x i / 4)) ++
      [BitVec.ofNat 8 (sumOf (fun i => x i % 4 * 4 ^ i) (List.range 4))]
  | 1 => [BitVec.ofNat 8 (x 0 / 16), BitVec.ofNat 8 (x 1 / 16), BitVec.ofNat 8 (x 0 % 16 + 16 * (x 1 % 16))]
  | 2 => ((List.range 4).map fun i => BitVec.ofNat 8 (x i / 64)) ++ leBytes 3 (sumOf (fun i => x i % 64 * 64 ^ i) (List.range 4))
  | _ => leBytes 2 (x 0)

/-- The samples packed in a byte string. -/
def unpackAll (c : Nat) (b : Bytes) : List Nat :=
  (List.range (b.length / contBytes c)).flatMap fun i => unpackGroup c ((b.drop (i * contBytes c)).take (contBytes c))

/-- Bytes of `n` samples, rounded up. -/
def contLen (c n : Nat) : Nat := ceilDiv (n * contBytes c) (contSamples c)

/-- Plan addresses inside a slot (R184), from the STREAM record. -/
def planeOff : Nat := 4096
def obRowOff (r : StreamRec) : Nat := planeOff + roundUp (contLen r.container (r.width * r.height * r.exposures)) 4096
def obColOff (r : StreamRec) : Nat := obRowOff r + roundUp (contLen r.container (32 * r.width * r.exposures)) 4096
def embedOff (r : StreamRec) : Nat := obColOff r + roundUp (contLen r.container (32 * r.height * r.exposures)) 4096
def slotSize (r : StreamRec) : Nat := embedOff r + 0x10000

/-- Sample areas of a slot. -/
inductive Area where
  | plane | obRow | obCol
  deriving DecidableEq, Repr

/-- Address and position in its group of sample (exposure, line, column) of an area (R184). -/
def sampleAt (r : StreamRec) (a : Area) (e y x : Nat) : Nat × Nat :=
  let n := match a with
    | .plane => (e * r.height + y) * r.width + x
    | .obRow => (e * 32 + y) * r.width + x
    | .obCol => (e * r.height + y) * 32 + x
  let base := match a with
    | .plane => planeOff
    | .obRow => obRowOff r
    | .obCol => obColOff r
  (base + n / contSamples r.container * contBytes r.container, n % contSamples r.container)

/-- CFA period of RCT_STAGE.cfa (R198). -/
def cfaPeriod (code : Nat) : Nat := if code = 0 then 1 else if code = 1 then 2 else 4

/-- Width of a stripe (R192, R299). -/
def stripeWidth (w t : Nat) : Nat := 8 * ceilDiv w (8 * t)

/-- A raster format (R359): active size, interlaced, lines of the last vertical blanking, total lines, rate code. -/
structure Raster where
  w : Nat
  h : Nat
  interlaced : Bool
  blank : Nat
  total : Nat
  rate : Nat
  deriving DecidableEq, Repr

def rasterOf (code : Nat) : Option Raster :=
  if code = 0x38 then some ⟨1920, 1080, true, 23, 1125, 2⟩
  else if code = 0x39 then some ⟨1920, 1080, true, 23, 1125, 3⟩
  else match code / 8 with
    | 2 => some ⟨3840, 2160, false, 90, 2250, code % 8⟩
    | 4 => some ⟨4096, 2160, false, 90, 2250, code % 8⟩
    | 6 => some ⟨1920, 1080, false, 45, 1125, code % 8⟩
    | _ => none

/-- Do `depth` slots of `slot` bytes lie inside the buffer's partition (R83 rule 9). -/
def Graph.bufferFits (g : Graph) (b : BufferRec) (depth slot : Nat) : Bool :=
  match g.part? b.part with
  | some q => b.offset + depth * slot ≤ q.size
  | none => false

/-- Is a ring depth permitted for pipeline `p` (R233): not 1, and its slots inside the partition of the ingest copy. -/
def Graph.depthOk (g : Graph) (p n : Nat) : Bool :=
  n ≠ 1 && match g.streamOf p, (g.feed? p).bind fun e => g.buffer? e.buffer with
    | some r, some b => g.bufferFits b n (slotSize r)
    | _, _ => true

/-- Formats that a branch kind permits on its canvas (R321). -/
def branchFmtOk (r : BranchRec) (fmt : Nat) : Bool :=
  let kindOk : Bool := match r.kind with
    | 1 => fmt ≤ 6
    | 2 => 4 ≤ fmt && fmt ≤ 6
    | 3 => fmt = 8 || fmt = 9
    | _ => true
  let yc : Bool := 4 ≤ fmt && fmt ≤ 6
  kindOk && !(yc && r.width % 2 = 1) && !((fmt = 4 || fmt = 5) && r.height % 2 = 1)

end Sys2Proof.Machine
end

