-- ==== Sys2Proof/Machine/Flags.lean ====
section
/-! DEFINITION. Flags that several units compute alike: watermarks (R50 to R52), levels, and the field-type rules of one
register write (R9, R32 to R36). -/

namespace Sys2Proof.Machine

/-- A rising watermark (R50): its WMARK and WSTAT fields, its counter, its instance. -/
structure Watermark where
  mark : Fld
  hyst : Fld
  crossed : Fld
  levelAt : Fld
  cnt : Fld
  src : Nat
  deriving DecidableEq, Repr

def evqMark : Watermark :=
  ⟨Fl.EVQ_WMARK_mark, Fl.EVQ_WMARK_hyst, Fl.EVQ_WSTAT_crossed, Fl.EVQ_WSTAT_level_at_cross, Fl.EVQ_WCNT_count, srcEVQ⟩

def cmdqMark : Watermark :=
  ⟨Fl.CMDQ_WMARK_mark, Fl.CMDQ_WMARK_hyst, Fl.CMDQ_WSTAT_crossed, Fl.CMDQ_WSTAT_level_at_cross, Fl.CMDQ_WCNT_count, srcCMDQ⟩

/-- The live level of a watermark goes from `was` to `level`: it crosses once when armed and it goes from below the mark to at or
above it (R51), and re-arms below mark − hysteresis (R52). A mark of 0 disables it (R50). R52 does not say what a rewrite of mark or
hyst does to the armed state: both are judged only as the level moves, and while mark is 0 a disarmed watermark stays disarmed
(DESIGN CHOICE, log 91). -/
def State.watermark (s : State) (w : Watermark) (ix : List Nat) (was level : Nat) : State :=
  let mark := s.get w.mark ix
  let off := w.crossed.reg.key ix
  if mark = 0 then s
  else if s.disarmed.contains off then
    if level + s.get w.hyst ix < mark then { s with disarmed := s.disarmed.erase off } else s
  else if was < mark && mark ≤ level then
    let s : State := { s with disarmed := off :: s.disarmed }
    let s := ((s.put w.crossed ix 1).put w.levelAt ix level).inc w.cnt ix
    s.ev 0x0001 w.src 0 (level % 2 ^ 32 + 2 ^ 32 * off)
  else s

/-! ### One register write (R9, R32, R34, R36) -/

/-- What a software write of `v` to a field makes of its value `old`. GO fields are not stored here: their commands are. -/
def writeField (d : Fld) (old v : Nat) : Nat :=
  match d.kind with
  | .rw | .rws | .cnt | .cntSat => if d.allowed.ok (d.hi + 1 - d.lo) v then v else old
  | .w1c => old - (old &&& v)
  | .w1s => old ||| v
  | .ro | .st | .go => old

/-- The judgement of a value against the loaded image (R9): SFE_Sn_GEOM against its STREAM record, OUTF_Bb_CTRL.fmt against its
BRANCH record, CAP_Pp_DEPTH against the partition of the ingest copy. -/
def imageOk (g : Graph) (d : Fld) (ix : List Nat) (v : Nat) : Bool :=
  let n := ix.headD 0
  match d.allowed with
  | .geomHeight => ((g.stream? n).map fun r => decide (v ≤ r.height)).getD true
  | .geomWidth => ((g.stream? n).map fun r => decide (v ≤ r.width)).getD true
  | .branchFmt => ((g.branch? (n / 8) (n % 8)).map fun r => branchFmtOk r v).getD true
  | .capDepth => g.depthOk n v
  | _ => true

/-- Every field of one write takes effect together (R36); a reserved encoding leaves its field as it was (R9). -/
def State.writeFields (s : State) (row : RegRow) (ix : List Nat) (v : Nat) : State :=
  row.flds.foldl (fun t d =>
    let n := bits v d.hi d.lo
    if imageOk s.graph d ix n then t.put d ix (writeField d (t.get d ix) n) else t) s

end Sys2Proof.Machine
end

