-- ==== Sys2Proof/Machine/Trail.lean ====
section
/-! DEFINITION. The Trail and the event queues: where a record goes, what happens when it finds no space, and how a queue
signals (R58 to R64, R550 to R561). -/

namespace Sys2Proof.Machine

/-- The 32 bytes of a record (R58, little-endian under R5). -/
def Rec.encode (r : Rec) : Bytes :=
  leBytes 2 r.typ ++ leBytes 1 r.src ++ leBytes 1 r.inst ++ leBytes 4 r.epoch ++ leBytes 8 r.fid ++ leBytes 8 r.time
    ++ leBytes 8 r.payload

/-- The classes of R550. -/
inductive RecClass where
  | alarm | event | trace | completion
  deriving DecidableEq, Repr

def Rec.cls (r : Rec) : RecClass :=
  if 0x8000 ≤ r.typ then .completion else if 0x4000 ≤ r.typ then .alarm
  else if 0x2000 ≤ r.typ then .trace else .event

namespace State

def dest (s : State) (d : Nat) : Dest := s.dests.getD d Dest.init

def modDest (s : State) (d : Nat) (f : Dest → Dest) : State := { s with dests := modNth s.dests d f }

/-! ### MSI-X (R25) -/

/-- Signal a vector: the message goes out unless the function or the vector is masked, which leaves it pending (the PCI
Express rules for MSI-X; log 3). -/
def signal (s : State) (v : Nat) : State :=
  if ¬s.msixEnable then s
  else
    let w (k : Nat) : Nat := (lookAt (if k % 4 = 3 then 1 else 0) s.msixTable k).toNat
    if s.msixMask || w (4 * v + 3) % 2 = 1 then
      { s with msixPba := if s.msixPba.contains v then s.msixPba else v :: s.msixPba }
    else s.emit (.msix v (w (4 * v) + 2 ^ 32 * w (4 * v + 1)) (w (4 * v + 2)))

/-! ### Event queues -/

def evqSize (s : State) (q : Nat) : Nat := 2 ^ s.get Fl.EVQ_CTRL_log2size [q]

/-- (TAIL − HEAD) mod 2^32 (R62). -/
def evqLevel (s : State) (q : Nat) : Nat := (s.rd R.EVQ_TAIL [q] + 2 ^ 32 - s.rd R.EVQ_HEAD [q]) % 2 ^ 32

/-- EVQn_LEVEL and the watermark follow the level. -/
def evqSync (s : State) (q : Nat) : State :=
  let was := s.get Fl.EVQ_LEVEL_level [q]
  let l := s.evqLevel q
  let s := (s.put Fl.EVQ_LEVEL_level [q] l).put Fl.EVQ_LEVEL_full [q] (b2n (l = s.evqSize q))
  s.watermark evqMark [q] was l

/-- Signal a queue's vector; its records count as signalled. -/
def evqSignal (s : State) (q : Nat) : State := (s.modDest q fun d => { d with unsig := 0 }).signal q

/-- Publish a record in a queue with space: slot, TAIL, tail write-back, vector, in this order (R62, R63, R39). -/
def evqPut (s : State) (q : Nat) (r : Rec) : State :=
  let tail := s.rd R.EVQ_TAIL [q]
  let s := s.hostWrite (s.rd64 R.EVQ_BASE_LO R.EVQ_BASE_HI [q] + tail % s.evqSize q * 32) r.encode
  let s := s.wr R.EVQ_TAIL [q] ((tail + 1) % 2 ^ 32)
  let s := s.hostWrite (s.rd64 R.EVQ_TAILWB_LO R.EVQ_TAILWB_HI [q]) (leBytes 4 ((tail + 1) % 2 ^ 32))
  let s := s.modDest q fun d => { d with unsig := d.unsig + 1 }
  let s := if s.get Fl.EVQ_IMOD_count [q] ≤ (s.dest q).unsig || (s.flag Fl.EVQ_CTRL_alarm_now [q] && r.cls = .alarm)
    then s.evqSignal q else s
  s.evqSync q

/-! ### Destinations -/

def ringBytes : Nat := 0x10000000

/-- Does a destination have no room for a record (R552, R62, R557). A syslog or black-box record waits for the rate. -/
def destFull (s : State) (d : Nat) : Bool :=
  if d < 16 then ¬s.flag Fl.EVQ_CTRL_enable [d] || s.evqSize d ≤ s.evqLevel d
  else if d = 16 then s.flag Fl.TRL_CTRL_ring_wait
    && ringBytes ≤ (s.rd R.TRL_RING_WR + 2 ^ 32 - s.rd R.TRL_RING_RD) % 2 ^ 32
  else 1024 ≤ (s.dest d).staged.length

/-- Write a record in the HBM ring (R557). -/
def ringPut (s : State) (r : Rec) : State :=
  let wr := s.rd R.TRL_RING_WR
  (s.hbmWrite (s.rd64 R.TRL_RING_BASE_LO R.TRL_RING_BASE_HI + wr % ringBytes) r.encode).wr R.TRL_RING_WR [] ((wr + 32) % 2 ^ 32)

/-- Base of a half of the black box (R559). -/
def bbBase (h : Nat) : Nat := 0x2C00000 + h * 0x400000

/-- Is the active half sealed (R560): it records nothing until the next dawn. -/
def bbSealed (s : State) : Bool := s.mram.get (bbBase (s.get Fl.TRL_BB_STAT_half) + 12) = 1

/-- The header of a half, with its CRC (R559). -/
def bbHeader (s : State) (h : Nat) (b : Bytes) : State :=
  let b := b ++ List.replicate (4092 - b.length) 0
  s.mramWrite (bbBase h) (b ++ leBytes 4 (crc32c b))

/-- Write a record in the active half of the black box (R559): its header counts it. -/
def bbPut (s : State) (r : Rec) : State :=
  let h := s.get Fl.TRL_BB_STAT_half
  let old := s.mram.read (bbBase h) 32
  let i := fieldLe old 8 4
  let s := s.mramWrite (bbBase h + 4096 + i % 130944 * 32) r.encode
  let s := s.bbHeader h (old.take 8 ++ leBytes 4 (i + 1) ++ old.drop 12)
  s.put Fl.TRL_BB_STAT_records [] (min (i + 1) 130944)

/-- Hand a record to a destination that has room; syslog and the black box stage it for their drain (R551, R558). -/
def destPut (s : State) (d : Nat) (r : Rec) : State :=
  if d < 16 then s.evqPut d r else if d = 16 then s.ringPut r
  else s.modDest d fun x => { x with staged := x.staged ++ [r] }

/-- Does a destination hold anything that must go out before new records (R556). -/
def destHolds (s : State) (d : Nat) : Bool :=
  let x := s.dest d
  ¬x.held.isEmpty || x.lost ≠ 0 || ¬x.compl.isEmpty

/-- Is a record held for any event queue; a dropped event is not held (R25, R64). -/
def anyHeld (s : State) : Bool := (s.dests.take 16).any fun x => !x.held.isEmpty || !x.compl.isEmpty

/-- Show a destination's squall state, and report entry and exit (R552, R562). -/
def squallSync (s : State) (d : Nat) : State :=
  let x := s.dest d
  let now := ¬x.held.isEmpty || x.lost ≠ 0 || x.log2N ≠ 0
  let s := s.modDest d fun y => { y with squall := now }
  let s := s.put Fl.TRL_STAT_evq_squall [] (b2n ((s.dests.take 16).any fun y => y.squall))
  let s := s.put Fl.TRL_STAT_ring_squall [] (b2n (s.dest 16).squall)
  let s := s.put Fl.TRL_STAT_syslog_squall [] (b2n (s.dest 17).squall)
  let s := s.put Fl.TRL_STAT_bb_squall [] (b2n (s.dest 18).squall)
  if now = x.squall then s else s.ev 0x0141 srcTRL d (b2n now + 2 ^ 8 * x.log2N)

/-- The coalescing table of a destination takes an alarm (R553): an entry for its (type, source, instance) among 256, or the fixed entry of
its source. The second result says whether it was added to an existing entry. -/
def coalesce (held : List Held) (r : Rec) : List Held × Bool :=
  let same (e : Held) : Bool := !e.fixed && e.last.typ = r.typ && e.last.src = r.src && e.last.inst = r.inst
  let room : Bool := (held.filter fun e => !e.fixed).length < 256
  let own (e : Held) : Bool := if held.any same || room then same e else e.fixed && e.last.src = r.src
  if held.any own then (held.map fun e => if own e then { e with last := r, count := e.count + 1 } else e, true)
  else (held ++ [⟨r, 1, !room⟩], false)

def lossCounter (d : Nat) : Fld × List Nat :=
  if d < 16 then (Fl.EVQ_LOSS_count, [d]) else if d = 16 then (Fl.TRL_LOSS_RING_count, [])
  else if d = 17 then (Fl.TRL_LOSS_SYSLOG_count, []) else (Fl.TRL_LOSS_BB_count, [])

/-- A record that found no space (R64, R553, R554). -/
def destHold (s : State) (d : Nat) (r : Rec) : State :=
  let before := s.anyHeld
  let s := match r.cls with
    | .alarm =>
      let c := coalesce (s.dest d).held r
      let s := s.modDest d fun x => { x with held := c.1 }
      if c.2 then s.inc Fl.TRL_COALESCE_count else s
    | .completion => s.modDest d fun x => { x with compl := x.compl ++ [r] }
    | .event =>
      let s := s.modDest d fun x => { x with lost := x.lost + 1, lastDrop := r.time, firstDrop := if x.lost = 0 then r.time else x.firstDrop }
      s.inc (lossCounter d).1 (lossCounter d).2
    | .trace => s
  let s := if ¬before && s.anyHeld then s.signal 16 else s
  s.squallSync d

/-- The record that a held alarm leaves as (R553). -/
def heldRec (d : Nat) (e : Held) : Rec :=
  if e.count = 1 then e.last
  else ⟨0x4140, srcTRL, d, e.last.epoch, e.last.fid, e.last.time,
    e.last.typ + 2 ^ 16 * e.last.src + 2 ^ 24 * e.last.inst + 2 ^ 32 * (e.count % 2 ^ 32), 0⟩

/-- The LOSS record (R554). -/
def lossRec (s : State) (d : Nat) : Rec :=
  let x := s.dest d
  ⟨0x0140, srcTRL, d, s.rd R.DEV_EPOCH_IN, noFrame, x.lastDrop,
    x.lost % 2 ^ 32 + 2 ^ 32 * min ((x.lastDrop - x.firstDrop) / 1000) (2 ^ 32 - 1), 0⟩

/-- Write what a destination holds, as far as its space goes: held alarms, the LOSS record, held completions (R556, R64). -/
def destFlush (s : State) (d : Nat) : Nat → State
  | 0 => s
  | n + 1 =>
    if s.destFull d then s.squallSync d
    else
      let x := s.dest d
      match x.held, x.lost, x.compl with
      | e :: t, _, _ => ((s.modDest d fun y => { y with held := t }).destPut d (heldRec d e)).destFlush d n
      | [], _ + 1, _ => ((s.modDest d fun y => { y with lost := 0 }).destPut d (s.lossRec d)).destFlush d n
      | [], 0, c :: t => ((s.modDest d fun y => { y with compl := t }).destPut d c).destFlush d n
      | [], 0, [] => s.squallSync d

/-- Everything a destination can hold at once. -/
def flushAll (s : State) (d : Nat) : State :=
  s.destFlush d ((s.dest d).held.length + (s.dest d).compl.length + 2)

/-- Deliver a record to a destination: what it holds goes first (R556). -/
def deliver (s : State) (r : Rec) (d : Nat) : State :=
  let s := if s.destHolds d then s.flushAll d else s
  if s.destFull d || s.destHolds d then s.destHold d r else s.destPut d r

/-- A trace record reaches a destination one time in N (R555). -/
def deliverTrace (s : State) (r : Rec) (d : Nat) : State :=
  let x := s.dest d
  if x.traceCnt + 1 < 2 ^ x.log2N then s.modDest d fun y => { y with traceCnt := y.traceCnt + 1 }
  else
    let s := s.modDest d fun y => { y with traceCnt := 0 }
    let full := s.destFull d
    let nearly := full || 768 < x.staged.length
    let s := if full then s else s.destPut d r
    let s := if nearly then s.modDest d fun y => { y with log2N := min 16 (y.log2N + 1) } else s
    let s := (s.put Fl.TRL_TRACE_N_ring [] (s.dest 16).log2N).put Fl.TRL_TRACE_N_syslog [] (s.dest 17).log2N
    s.squallSync d

/-- Where a record goes (R61, R551). -/
def destinations (s : State) (r : Rec) : List Nat :=
  let trl := s.domainOn 23
  let ring := if trl && s.flag Fl.TRL_CTRL_ring_en then [16] else []
  let lvl := s.get Fl.TRL_SYSLOG_CTRL_min_class
  let sys (n : Nat) : List Nat := if trl && s.flag Fl.TRL_CTRL_syslog_en && n ≤ lvl then [17] else []
  let bb := trl && s.flag Fl.TRL_CTRL_bb_en && !s.bbSealed && !s.flag Fl.CPR_DUSK_STAT_warn
  match r.cls with
  | .completion => [r.dst]
  | .alarm => (if s.flag Fl.EVQ_ROUTE_al_en [r.src] then [s.get Fl.EVQ_ROUTE_alarm_q [r.src]] else []) ++ ring ++ sys 0
      ++ (if bb then [18] else [])
  | .event => (if s.flag Fl.EVQ_ROUTE_ev_en [r.src] then [s.get Fl.EVQ_ROUTE_event_q [r.src]] else []) ++ ring ++ sys 1
      ++ (if bb && bit (s.rd64 R.TRL_BB_EN_LO R.TRL_BB_EN_HI) r.src then [18] else [])
  | .trace => ring ++ sys 2

/-- Publish one record to all its destinations. -/
def publish (s : State) (r : Rec) : State :=
  (s.destinations r).foldl (fun t d => if r.cls = .trace then t.deliverTrace r d else t.deliver r d) s

end State

end Sys2Proof.Machine
end

