-- ==== Sys2Proof/Machine/Lut.lean ====
section
/-! DEFINITION. LUT RAM as the bulk port and LUTS blobs address it (R53, R146, R217, R298, R316, R319). -/

namespace Sys2Proof.Machine

/-- Size of a unit's LUT space by block index (R217, R316, R319); 0 where the unit has none. -/
def lutSize (blk : Nat) : Nat :=
  if 0x20 ≤ blk ∧ blk < 0x29 then 0x20000 else if 0x70 ≤ blk ∧ blk < 0x7D then 0x1920000
  else if blk = 0x80 then 0x80000 else 0

/-! ### The reset kernel (R319) -/

/-- π in units of 2^-96. -/
def piFx : Nat := 0x3243F6A8885A308D313198A2E

/-- sin(π a / n) in units of 2^-96 for 0 ≤ a ≤ n, by the Taylor series at the nearer end. -/
def sinPi (a n : Nat) : Nat :=
  let x := piFx * min a (n - a) / n
  let step (q : Int × Int) (k : Nat) : Int × Int :=
    let t := -(q.2 * x / 2 ^ 96 * x / 2 ^ 96) / ((2 * k + 2) * (2 * k + 3) : Nat)
    (q.1 + t, t)
  ((List.range 16).foldl step ((x : Int), (x : Int))).1.toNat

/-- Entry `j` of the kernel table after reset: sinc(t) × sinc(t / 4) at t = j / 64 − 4, with sinc(x) = sin(πx) / (πx), to the nearest
binary32 value (log 10). -/
def kernelReset (j : Nat) : Word :=
  let a := max j 256 - min j 256
  if a = 0 then (F32.ofNat 1).toBits
  else
    let sign : Int := if a / 64 % 2 = 0 then 1 else -1
    (F32.ofRat (sign * (sinPi (a % 64) 64 * sinPi a 256 * 16384 : Nat)) (piFx * piFx * a * a)).toBits

namespace State

/-- Where a LUT byte is held: the LUT space of a tile is held once per pipeline (R191, R298); `none` for an unassigned
tile. -/
def lutKey (s : State) (blk off : Nat) : Option Nat :=
  if blk < 0x30 then (s.tilePipe 1 (blk - 0x20)).map fun p => (0x100 + p) * 2 ^ 32 + off
  else if blk < 0x80 then (s.tilePipe 3 (blk - 0x70)).map fun p => (0x200 + p) * 2 ^ 32 + off
  else some (0x80 * 2 ^ 32 + off)

/-- The epochs in use (R132, R142): those not older than DEV_EPOCH_OUT. -/
def epochsInUse (s : State) : List EpochRec := s.epochs.filter fun r => !(newer (s.rd R.DEV_EPOCH_OUT) r.num)

/-- Is the bank or slot that a LUT key lies in selected by any epoch in use, in any look (R146, R316). -/
def lutBusy (s : State) (key : Nat) : Bool :=
  let space := key / 2 ^ 32
  let off := key % 2 ^ 32
  s.epochsInUse.any fun e =>
    if space = 0x80 then
      let br := off / 0x2000
      e.regs.get Fl.OUTF_CTRL_bank [br] = off / 0x1000 % 2
    else if space < 0x200 then e.regs.get Fl.RCT_STAGE_bank [space - 0x100] = off / 0x10000
    else
      let p := space - 0x200
      (List.range 8).any fun l =>
        if off < 0x1800000 then e.regs.get Fl.DVT_L_CTRL_cube_slot [p, l] = off / 0x200000
        else e.regs.get Fl.DVT_L_CTRL_sh_slot [p, l] = (off - 0x1800000) / 0xC000

/-- A LUT byte; a kernel table that nothing has written holds the reset kernel (R319). -/
def lutGet (s : State) (key : Nat) : Byte :=
  if key / 2 ^ 32 = 0x80 ∧ ¬s.lutSet.contains key then
    let j := key % 0x1000 / 4
    if j < 513 then BitVec.ofNat 8 ((kernelReset j).toNat / 256 ^ (key % 4)) else 0
  else s.lut.get key

def lutWord (s : State) (key : Nat) : Nat :=
  (s.lutGet key).toNat + 256 * (s.lutGet (key + 1)).toNat + 65536 * (s.lutGet (key + 2)).toNat
    + 16777216 * (s.lutGet (key + 3)).toNat

def lutPut (s : State) (key : Nat) (b : Byte) : State :=
  let s : State := { s with lut := s.lut.set key b }
  if key / 2 ^ 32 = 0x80 ∧ ¬s.lutSet.contains key then { s with lutSet := key :: s.lutSet } else s

end State

end Sys2Proof.Machine
end

