-- ==== Sys2Proof/Machine/Pairs.lean ====
section
/-! DEFINITION. The _LO and _HI pairs of the register tables (R27, R28). -/

namespace Sys2Proof.Machine

def regPairs : List (Reg × Reg) :=
  [(R.DEV_SERIAL_LO, R.DEV_SERIAL_HI),
   (R.DEV_COMMIT_FRAME_LO, R.DEV_COMMIT_FRAME_HI),
   (R.DEV_COMMIT_TIME_LO, R.DEV_COMMIT_TIME_HI),
   (R.DEV_SNAP_TIME_LO, R.DEV_SNAP_TIME_HI),
   (R.EVQ_BASE_LO, R.EVQ_BASE_HI),
   (R.EVQ_TAILWB_LO, R.EVQ_TAILWB_HI),
   (R.CMDQ_BASE_LO, R.CMDQ_BASE_HI),
   (R.BULK_ADDR_LO, R.BULK_ADDR_HI),
   (R.BULK_CUR_LO, R.BULK_CUR_HI),
   (R.DRV_SRC_LO, R.DRV_SRC_HI),
   (R.SFE_S_LASTFID_LO, R.SFE_S_LASTFID_HI),
   (R.SFE_P_FIDSET_LO, R.SFE_P_FIDSET_HI),
   (R.SFE_SG_START_LO, R.SFE_SG_START_HI),
   (R.RCT_FLAT_LO, R.RCT_FLAT_HI),
   (R.RCT_DEF_LO, R.RCT_DEF_HI),
   (R.RCT_EXP_DARK_LO, R.RCT_EXP_DARK_HI),
   (R.RCT_LASTFID_LO, R.RCT_LASTFID_HI),
   (R.STS_RING_LO, R.STS_RING_HI),
   (R.STS_LASTFID_LO, R.STS_LASTFID_HI),
   (R.RCU_LASTFID_LO, R.RCU_LASTFID_HI),
   (R.CAP_ACC_LO, R.CAP_ACC_HI),
   (R.CAP_TTIME_LO, R.CAP_TTIME_HI),
   (R.CAP_SEG_FIRST_LO, R.CAP_SEG_FIRST_HI),
   (R.REC_COMMIT_SEQ_LO, R.REC_COMMIT_SEQ_HI)] ++
  [(R.REC_FREE_LO, R.REC_FREE_HI),
   (R.REC_P_DURABLE_LO, R.REC_P_DURABLE_HI),
   (R.ZST_RING_LO, R.ZST_RING_HI),
   (R.DVT_TNR_ADDR_LO, R.DVT_TNR_ADDR_HI),
   (R.DVT_LASTFID_LO, R.DVT_LASTFID_HI),
   (R.OUTF_PEER_LO, R.OUTF_PEER_HI),
   (R.OUTF_DB_LO, R.OUTF_DB_HI),
   (R.OUTF_LASTFID_LO, R.OUTF_LASTFID_HI),
   (R.MPC_RP_INWIN_LO, R.MPC_RP_INWIN_HI),
   (R.MPC_RP_PEERBAR_LO, R.MPC_RP_PEERBAR_HI),
   (R.VCE_WORK_LO, R.VCE_WORK_HI),
   (R.VCE_ORING_LO, R.VCE_ORING_HI),
   (R.VCE_LASTFID_LO, R.VCE_LASTFID_HI),
   (R.VCE_RTP_DMAC_LO, R.VCE_RTP_DMAC_HI),
   (R.VCE_D_RING_LO, R.VCE_D_RING_HI),
   (R.VCE_D_OUT_LO, R.VCE_D_OUT_HI),
   (R.VCE_D_WORK_LO, R.VCE_D_WORK_HI),
   (R.DISP_L_SURF_LO, R.DISP_L_SURF_HI),
   (R.DISP_L_LASTFID_LO, R.DISP_L_LASTFID_HI),
   (R.DISP_D_FB_LO, R.DISP_D_FB_HI),
   (R.DISP_I_BUF_LO, R.DISP_I_BUF_HI),
   (R.HBMC_CH_FRZ_PA_LO, R.HBMC_CH_FRZ_PA_HI),
   (R.HBMC_CH_FRZ_TIME_LO, R.HBMC_CH_FRZ_TIME_HI),
   (R.OFL_RDBYTES_LO, R.OFL_RDBYTES_HI)] ++
  [(R.OFL_WRBYTES_LO, R.OFL_WRBYTES_HI),
   (R.TIME_DT_OFS_LO, R.TIME_DT_OFS_HI),
   (R.TIME_DT_NOW_LO, R.TIME_DT_NOW_HI),
   (R.TIME_CAP_DT_LO, R.TIME_CAP_DT_HI),
   (R.TIME_CAP_TB_LO, R.TIME_CAP_TB_HI),
   (R.TIME_TB_INC_LO, R.TIME_TB_INC_HI),
   (R.TIME_TB_ADJ_LO, R.TIME_TB_ADJ_HI),
   (R.TIME_TB_NOW_LO, R.TIME_TB_NOW_HI),
   (R.TIME_PT_TXQ_TS_LO, R.TIME_PT_TXQ_TS_HI),
   (R.TIME_PT_RX_BASE_LO, R.TIME_PT_RX_BASE_HI),
   (R.TIME_PT_RX_TAILWB_LO, R.TIME_PT_RX_TAILWB_HI),
   (R.TIME_GL_DT_LO, R.TIME_GL_DT_HI),
   (R.TIME_GL_TB3_LO, R.TIME_GL_TB3_HI),
   (R.TIME_LTCI_DT_LO, R.TIME_LTCI_DT_HI),
   (R.TIME_LTCI_TB3_LO, R.TIME_LTCI_TB3_HI),
   (R.TIME_L_RISE_LO, R.TIME_L_RISE_HI),
   (R.TIME_L_FALL_LO, R.TIME_L_FALL_HI),
   (R.TIME_PS_START_LO, R.TIME_PS_START_HI),
   (R.SKY_ROOT_LO, R.SKY_ROOT_HI),
   (R.SKY_OP_TIME_LO, R.SKY_OP_TIME_HI),
   (R.SKY_OP_T_LO, R.SKY_OP_T_HI),
   (R.AUD_START_TIME_LO, R.AUD_START_TIME_HI),
   (R.AUD_P_RING_LO, R.AUD_P_RING_HI),
   (R.AUD_P_SCHED_LO, R.AUD_P_SCHED_HI)] ++
  [(R.LSP_USB_RXRING_LO, R.LSP_USB_RXRING_HI),
   (R.LSP_USB_TXRING_LO, R.LSP_USB_TXRING_HI),
   (R.TRL_TRACE_EN_LO, R.TRL_TRACE_EN_HI),
   (R.TRL_BB_EN_LO, R.TRL_BB_EN_HI),
   (R.TRL_RING_BASE_LO, R.TRL_RING_BASE_HI),
   (R.TRL_SYSLOG_DMAC_LO, R.TRL_SYSLOG_DMAC_HI)]

/-- The pair whose _LO (or, for `hi`, whose _HI) stands at an offset, with its instance. -/
def findPair (hi : Bool) (off : Nat) : Option (Reg × Reg × List Nat) :=
  regPairs.findSome? fun p => ((if hi then p.2 else p.1).at? off).map fun ix => (p.1, p.2, ix)

end Sys2Proof.Machine
end

