-- ==== Sys2Proof/Machine/Access.lean ====
section
/-! DEFINITION. Reading live registers: instances held once per pipeline (R191), values that are computed when read
(R452), and the snapshot mirror (R29, R147 to R149). -/

namespace Sys2Proof.Machine

/-- The tile class of a block and its instance. -/
def tileOfBlk : Blk → Option (Nat × Nat)
  | .rct n => some (1, n)
  | .rcu n => some (2, n)
  | .dvt n => some (3, n)
  | _ => none

namespace State

/-- The instance under which a register is held: for an RWS register of a tile, its pipeline's set; `none` where the tile
has none (R191). -/
def holder (s : State) (off : Nat) (r : Reg) (ix : List Nat) : Option (List Nat) :=
  if r.perPipe then
    match (tileOfBlk (blockOf off)) with
    | some (c, n) => (s.tilePipe c n).map fun p => p :: ix.tail
    | none => none
  else some ix

/-- Store the values that Cloku's reading registers show now (R452), so that a capture or a read finds them. -/
def timeShown (s : State) : State :=
  let s := s.wr64 R.TIME_DT_NOW_LO R.TIME_DT_NOW_HI [] s.dt
  let s := s.wr64 R.TIME_DT_OFS_LO R.TIME_DT_OFS_HI [] (unsigned 64 (s.time.ofs / (2 ^ 32 : Nat)))
  (List.range 4).foldl (fun t n => t.wr64 R.TIME_TB_NOW_LO R.TIME_TB_NOW_HI [n] (t.tbNs n)) s

/-- A live register word: 0 where no register stands (R8) or a tile has no set (R191). -/
def readLive (s : State) (off : Nat) : Nat :=
  match findReg off with
  | some (row, ix) =>
    match s.holder off row.reg ix with
    | some jx => (s.timeShown).rd row.reg jx
    | none => 0
  | none => 0

/-- The read a host or SMBus access makes (R26, R30): all-ones from a unit that is off. -/
def readHost (s : State) (off : Nat) : Nat := if s.reaches (blockOf off) then s.readLive off else 0xFFFFFFFF

/-! ### The mirror -/

/-- One FAB cycle captures every live register (R147). -/
def capture (s : State) : MirrorSt :=
  ⟨s.timeShown.regs, (s.epochRec (s.rd R.DEV_EPOCH_IN)).regs, s.rd R.CPR_PD_STAT, s.graph⟩

/-- The mirror word of a live offset (R148): RWS fields from the epoch's record, every other field as captured; all-ones
for a unit that was off; 0 before the first snapshot (R29). -/
def mirrorWord (s : State) (off : Nat) : Nat :=
  if ¬s.flag Fl.DEV_STATUS_mirror_valid then 0
  else
    match domainOf (blockOf off) with
    | none => 0
    | some d =>
      if ¬bit s.mirror.on d then 0xFFFFFFFF
      else match findReg off with
        | some (row, ix) =>
          let jx := if row.reg.perPipe then
              ((tileOfBlk (blockOf off)).bind fun t => s.mirror.graph.tilePipe t.1 t.2).map fun p => p :: ix.tail
            else some ix
          match jx with
          | some jx => row.flds.foldl (fun w f =>
              if f.kind = .rws then putBits w f.hi f.lo (s.mirror.rws.get f jx) else w) (s.mirror.regs.rd row.reg jx)
          | none => 0
        | none => 0

end State

/-- OFF_DOMAIN_ACCESS (R30): a read returns all-ones, a write is discarded, and off_access is set; a unit that is on is not
touched by this step. -/
def execOffDomainAccess (off : Nat) (rd : Bool) (s : State) : Res :=
  if s.reaches (blockOf off) then .next s
  else
    let s := s.onUnit (blockOf off) id
    .next (if rd then s.emit (.read 1 off 0xFFFFFFFF) else s)

/-- The value of a _HI half that a requester reads: the latched one, or the live one; all-ones from a unit that is off (R27, R30). -/
def State.readHi (s : State) (rq off : Nat) : Nat :=
  if s.reaches (blockOf off) then
    match s.latch.find? fun e => e.1 = rq && e.2.1 = off with
    | some e => e.2.2
    | none => s.readLive off
  else 0xFFFFFFFF

/-- A requester's read of a _LO half latches the _HI half that goes with it (R27). -/
def State.latchHi (s : State) (rq hoff : Nat) : State :=
  { s with latch := (rq, hoff, s.readHost hoff) :: s.latch.filter fun e => !(e.1 = rq && e.2.1 = hoff) }

/-- A read of `size` bytes at an offset of a 64 MiB or 64 KiB space, made of aligned 32-bit reads: smaller ones return bytes of the
containing word, an 8-byte one is two, lower address first, and one that is not naturally aligned reads nothing and returns all-ones
(R24, R26). -/
def readBytes (f : State → Nat → Nat × State) (off size : Nat) (s : State) : Nat × State :=
  if off % size ≠ 0 then (2 ^ (8 * size) - 1, s)
  else if size = 8 then
    let lo := f s off
    let hi := f lo.2 (off + 4)
    (lo.1 + 2 ^ 32 * hi.1, hi.2)
  else
    let r := f s (off / 4 * 4)
    (r.1 / 2 ^ (8 * (off % 4)) % 2 ^ (8 * size), r.2)

/-- What a mirror read of `size` bytes returns (R26, R29). -/
def State.mirrorBytes (s : State) (off size : Nat) : Nat := (readBytes (fun t o => (t.mirrorWord o, t)) off size s).1

/-- A read of the mirror (R29, R149): held while DEV_SNAP.go is 1. -/
def State.mirrorRead (s : State) (off size : Nat) : State :=
  if !s.reaches .dev then s.emit (.read 1 (off + 0x2000000) (2 ^ (8 * size) - 1))
  else if s.flag Fl.DEV_SNAP_go && off % size = 0 then { s with heldReads := s.heldReads ++ [(off, size)] }
  else s.emit (.read 1 (off + 0x2000000) (s.mirrorBytes off size))

/-- MIRROR_READ (R29, R149). -/
def execMirrorRead (off : Nat) (s : State) : Res := .next (s.mirrorRead off 4)

/-- A write of 1 to DEV_SNAP.go (R147): the capture holds the values at the start of the cycle. -/
def State.snap (s : State) : State :=
  if s.flag Fl.DEV_SNAP_go then s
  else
    let m := s.capture
    let s : State := { s with mirror := m }
    let s := s.wr R.DEV_SNAP_EPOCH [] (s.rd R.DEV_EPOCH_IN)
    let s := s.wr64 R.DEV_SNAP_TIME_LO R.DEV_SNAP_TIME_HI [] s.dt
    (s.put Fl.DEV_STATUS_mirror_valid [] 1).put Fl.DEV_SNAP_go [] 1

def execDevSnap (s : State) : Res := .next (s.onUnit .dev State.snap)

/-- SNAP_COMPLETE (R149): go clears and the held reads return the new snapshot. -/
def execSnapComplete (s : State) : Res :=
  if s.flag Fl.DEV_SNAP_go then
    let s := s.put Fl.DEV_SNAP_go [] 0
    let held := s.heldReads
    .next (held.foldl (fun (t : State) e => t.emit (.read 1 (e.1 + 0x2000000) (t.mirrorBytes e.1 e.2))) { s with heldReads := [] })
  else .next s

end Sys2Proof.Machine
end

