-- ==== Sys2Proof/Machine/Clock.lean ====
section
/-! DEFINITION. The TIME clock (R443, R444, R448, R449, R494): what each clock adds, and moving on to an instant that a command
names (log 35). -/

namespace Sys2Proof.Machine

def second : Nat := 1000000000

/-- N and D of a rate code (R453). -/
def rateND (r : Nat) : Nat × Nat :=
  match r with
  | 0 => (24000, 1001) | 1 => (24, 1) | 2 => (25, 1) | 3 => (30000, 1001) | 4 => (30, 1) | 5 => (50, 1) | 6 => (60000, 1001) | _ => (60, 1)

/-- Grid instant `k` of a rate, in units of 2^-32 ns (R453). -/
def gridAt (r k : Nat) : Nat := ceilDiv (k * (rateND r).2 * second * 2 ^ 32) (rateND r).1

/-- The first grid instant at or after a time, and the last at or before it. -/
def gridUp (r t : Nat) : Nat := ceilDiv (t * (rateND r).1) ((rateND r).2 * second * 2 ^ 32)
def gridDown (r t : Nat) : Nat := t * (rateND r).1 / ((rateND r).2 * second * 2 ^ 32)

/-- Master frequencies of synthesisers A and B in Hz (R494). -/
def masterHz (b : Nat) : Nat := if b = 0 then 24576000 else 22579200

/-- A synthesiser's accumulator wraps here, in units of 2^-32 (R494). -/
def masterWrap : Nat := second * 2 ^ 32

namespace State

/-- How far the DT offset may move in one clock, in units of 2^-32 ns (R449). -/
def slewStep (s : State) : Nat :=
  s.get Fl.TIME_DT_SLEW_ppb * s.time.inc.getD (s.get Fl.TIME_DT_STAT_active) 0 / second

def aliased (s : State) : Bool := s.flag Fl.TIME_TB_CTRL_dt_alias [3]

/-- An offset moved towards 0 by at most `d`. -/
def towardZero (o : Int) (d : Nat) : Int := if 0 ≤ o then max 0 (o - d) else min 0 (o + d)

/-- A synthesiser after TB3 has advanced `adv`: its accumulator, and TB3 at the clock of its last master edge, where the clocks
advanced by `each`. -/
def synthRun (b acc edge now adv each : Nat) : Nat × Nat :=
  let a := acc + adv * masterHz b
  let left := a % masterWrap
  if a < masterWrap then (left, edge) else (left, now - left / (each * masterHz b) * each)

/-- `n` clocks of the TIME counters (R443, R448): the bases, the DT offset and the tracking windows. -/
def tickTime (s : State) (n : Nat) : State :=
  let x := s.time
  let ofs := if s.flag Fl.TIME_DT_STAT_slewing then towardZero x.ofs (n * s.slewStep) else x.ofs
  let tb := (List.range 4).map fun i => (x.tb.getD i 0 + n * x.inc.getD i 0) % 2 ^ 96
  let s : State := { s with time := { x with
    clk := x.clk + 2 * n, tb := tb, ofs := ofs, track := x.track.map fun r => r - 2 * n } }
  if s.aliased then { s with time := { s.time with tb := s.time.tb.set 3 (s.dtFine.toNat % 2 ^ 96) } } else s

/-- The audio synthesisers follow TB3 from `before` on. -/
def tickAud (s : State) (n before : Nat) : State :=
  let now := s.tbFine 3
  let each := max 1 ((now - before) / max 1 n)
  let run (b : Nat) : Nat × Nat := synthRun b (s.aud.acc.getD b 0) (s.aud.edge.getD b 0) now (now - before) each
  { s with aud := { s.aud with acc := [(run 0).1, (run 1).1], edge := [(run 0).2, (run 1).2] } }

/-- Powered seconds, hours and the minutes to the next periodic plan, from the clock's old value on. -/
def tickHours (s : State) (n old : Nat) : State :=
  let secs := (old + 2 * n) / second - old / second
  let mins := (old + 2 * n) / (60 * second) - old / (60 * second)
  if secs = 0 then s
  else
    let s : State := { s with nv := { s.nv with secs := s.nv.secs + secs } }
    (s.wr R.BARO_HOURS [] (s.nv.secs / 3600)).wr R.BARO_NEXT [] (s.rd R.BARO_NEXT - mins)

/-- `n` TIME clocks pass. -/
def advance (s : State) (n : Nat) : State := ((s.tickTime n).tickAud n (s.tbFine 3)).tickHours n s.time.clk

/-- A time that base `b` reads, in units of 2^-32 ns: 0 DT, 1 to 4 TB0 to TB3. -/
def genNow (s : State) (b : Nat) : Nat := if b = 0 then s.dtFine.toNat else s.tbFine (b - 1)

/-- Move on, if need be, to the first clock in which base `b` is at or after `t` (log 35). -/
def reach (s : State) (b t : Nat) : Nat → State
  | 0 => s
  | fuel + 1 =>
    if t ≤ s.genNow b then s
    else
      let i := if b = 0 || (b = 4 && s.aliased) then s.get Fl.TIME_DT_STAT_active else b - 1
      let each := max 1 (s.time.inc.getD i 0 + s.slewStep)
      (s.advance (max 1 ((t - s.genNow b) / each))).reach b t fuel

/-- Move on to a device time in ns. -/
def reachDt (s : State) (t : Nat) : State := s.reach 0 (t * 2 ^ 32) 32

/-- Move on to a time in ns on the model's own clock. -/
def reachClk (s : State) (t : Nat) : State := if s.time.clk < t then s.advance ((t - s.time.clk + 1) / 2) else s

end State

end Sys2Proof.Machine
end

