-- ==== Sys2Proof/Machine/Sem.lean ====
section
/-! DEFINITION. ORD: the fence, the hardware semaphores and updraft (R37 to R49). -/

namespace Sys2Proof.Machine

namespace State

/-- The owner ID of a semaphore (R40); 0 is free. -/
def semOwner (s : State) (n : Nat) : Nat := s.get Fl.ORD_SEM_ACQ_owner [n]

def setOwner (s : State) (n o : Nat) : State :=
  (s.put Fl.ORD_SEM_ACQ_owner [n] o).put Fl.ORD_SEM_CTL_held [n] (b2n (o ≠ 0))

/-- A reset of owner `o` frees semaphore `n` if `o` holds it, sets its orphan bit and raises EV_SEM_ORPHAN (R43). -/
def semOrphan (s : State) (n o : Nat) : State :=
  if s.semOwner n = o && o ≠ 0 then
    (((s.setOwner n 0).put Fl.ORD_SEM_CTL_orphan [n] 1).put Fl.ORD_SEM_ACQ_orphan [n] 1).ev 0x0002 srcORD 0 (n + 256 * o)
  else s

/-- A reset of an owner (R40, R43), on every semaphore. -/
def ownerReset (s : State) (o : Nat) : State := (List.range 64).foldl (fun t n => t.semOrphan n o) s

/-- The word an acquire attempt reads (R41): granted, orphan bit, owner after the attempt. -/
def semWord (s : State) (n rq : Nat) (lost : Bool) : Nat :=
  b2n (¬lost && s.semOwner n = rq) * 2 ^ 31 + s.get Fl.ORD_SEM_CTL_orphan [n] * 2 ^ 30 + s.semOwner n

/-- Is an attempt by `r` lost with a reset of this cycle: the reset of `r` releases the semaphore (R46). -/
def semLost (s : State) (n : Nat) (rsts : List Nat) (r : Nat) : Bool := rsts.contains r && s.semOwner n = r

/-- Releases, then the judgement of one cycle's attempts on a semaphore (R46): if it is free, the lowest of the surviving attempts
is granted. R46 does not order a holder's release write and its reset in one cycle: the reset wins, so the orphan bit is set and
EV_SEM_ORPHAN raised (DESIGN CHOICE, log 88). -/
def semJudge (s : State) (n : Nat) (reqs rels rsts : List Nat) : State :=
  let t := rsts.foldl (fun (t : State) (o : Nat) => t.semOrphan n o) s
  let t := if rels.contains (t.semOwner n) then t.setOwner n 0 else t
  let live := reqs.filter fun r => !s.semLost n rsts r && r ≠ 0
  if t.semOwner n = 0 then
    match live.min? with
    | some o => t.setOwner n o
    | none => t
  else t

/-- The events of one cycle on a semaphore, with the word that each attempt reads (R46). -/
def semCycle (s : State) (n : Nat) (reqs rels rsts : List Nat) : State :=
  reqs.foldl (fun (t : State) (r : Nat) => t.emit (.read r (R.ORD_SEM_ACQ.key [n]) (t.semWord n r (s.semLost n rsts r))))
    (s.semJudge n reqs rels rsts)

end State

/-- FENCE_READ (R37 rule 4): every posted write has taken effect in this model when it is executed, so the read returns
the token last written (R31, log 11). -/
def execFenceRead (s : State) : Res := .next (s.emit (.read 1 R.ORD_FENCE.off (if s.reaches .ord then s.rd R.ORD_FENCE else 0xFFFFFFFF)))

def execSemAcquire (n : Nat) (reqs rels rsts : List Nat) (s : State) : Res :=
  .next (s.onUnit .ord fun s => if n < 64 then s.semCycle n reqs rels rsts else s)

/-- SEM_RELEASE (R42): only the owner's write frees it. -/
def execSemRelease (n rq : Nat) (s : State) : Res :=
  .next (s.onUnit .ord fun s => if n < 64 ∧ rq ≠ 0 ∧ s.semOwner n = rq then s.setOwner n 0 else s)

/-- SEM_ORPHAN_CLEAR (R44): only the current owner's write clears the bit. -/
def execSemOrphanClear (n rq : Nat) (s : State) : Res :=
  .next (s.onUnit .ord fun s => if n < 64 ∧ rq ≠ 0 ∧ s.semOwner n = rq then
    (s.put Fl.ORD_SEM_CTL_orphan [n] 0).put Fl.ORD_SEM_ACQ_orphan [n] 0 else s)

/-- The promotion counter of an arbiter kind (R49): 0 XW, 1 FAB, 2 HBM, 3 CMDQ, 4 TRL. -/
def promoCounter : Nat → Option Fld
  | 0 => some Fl.ORD_PROMO_XW_count
  | 1 => some Fl.ORD_PROMO_FAB_count
  | 2 => some Fl.ORD_PROMO_HBM_count
  | 3 => some Fl.ORD_PROMO_CMDQ_count
  | 4 => some Fl.ORD_PROMO_TRL_count
  | _ => none

/-- What promotions have made of a waiting request: the class reached and when its wait timer restarted (R49). -/
def State.promoted? (s : State) (arb id : Nat) : Option (Nat × Nat) :=
  (s.promo.find? fun e => e.1 = arb && e.2.1 = id).map fun e => e.2.2

/-- A request waits no longer: its promotions are spent (R49). -/
def State.promoDone (s : State) (arb id : Nat) : State :=
  { s with promo := s.promo.filter fun e => !(e.1 = arb && e.2.1 = id) }

/-- The class that a request waits in (R48: 0 HI, 1 NORM, 2 BULK, anything else RT): the one it entered with until it is promoted.
A request of the CMDQ service is a ring, which enters with CMDQr_CTRL.class (R69). -/
def State.waitClass (s : State) (arb id cls : Nat) : Nat :=
  ((s.promoted? arb id).map (·.1)).getD (if arb = 3 then s.get Fl.CMDQ_CTRL_class [id] else cls)

/-- The wait limit of a class in ns (R49). -/
def State.updraftLimit (s : State) (cls : Nat) : Nat :=
  100 * if cls = 1 then s.get Fl.ORD_UPDRAFT_NORM_limit else s.get Fl.ORD_UPDRAFT_BULK_limit

/-- A request that entered in class `cls` has waited longer than the limit of its class: it moves up one class, from BULK to NORM or
from NORM to HI, its wait timer restarts, and its arbiter counts it; HI has no limit, and RT none above it (R49). A limit that lies
ahead passes first (log 35). -/
def State.promote (s : State) (arb id cls : Nat) : State :=
  match promoCounter arb with
  | none => s
  | some c =>
    let at_ := s.waitClass arb id cls
    let waits : Bool := arb ≠ 3 || (id < 4 && (s.rings.getD id Ring.init).cursor ≠ s.rd R.CMDQ_TAIL [id])
    if !waits || (at_ ≠ 1 && at_ ≠ 2) then s
    else
      let s := match s.promoted? arb id with
        | some e => s.reachClk (e.2 + s.updraftLimit at_ + 1)
        | none => s
      let s := s.inc c
      let s := s.trace srcXW 3 arb (s.rd R.DEV_EPOCH_IN) noFrame
      let t := s.promoDone arb id
      { t with promo := (arb, id, at_ - 1, s.time.clk) :: t.promo }

/-- The class in which the Trail drains a record: alarms HI, events NORM, traces BULK (R551); completions keep their place among the events
of their source (DEDUCED, log 109). -/
def Rec.drainClass (r : Rec) : Nat :=
  match r.cls with
  | .alarm => 0
  | .event | .completion => 1
  | .trace => 2

/-- A record's number at the Trail drain, arbiter 4: its source and class. -/
def Rec.drainId (r : Rec) : Nat := 4 * r.src + r.drainClass

/-- The record of a source that the Trail drains next, and what then still waits: the highest class after promotion, the oldest of that
class (R48, R49, R551, R556). -/
def State.trailNext (s : State) (src : Nat) : Option (Rec × List Rec) :=
  let rank (r : Rec) : Nat := s.waitClass 4 r.drainId r.drainClass
  let best := (((s.raised.filter fun r => r.src = src).map rank).min?).getD 0
  takeFirst (fun r => r.src = src && rank r = best) s.raised

/-- UPDRAFT_PROMOTION (R49). -/
def execUpdraftPromotion (arb id : Nat) (s : State) (cls : Nat := 2) : Res := .next (s.promote arb id cls)

end Sys2Proof.Machine
end

