-- ==== Sys2Proof/Machine/Evq.lean ====
section
/-! DEFINITION. The event queue commands (R58 to R64). -/

namespace Sys2Proof.Machine

/-- EVENT_RECORD_PUBLISH: the record of a source that the Trail drains next goes to its destinations (R61, R62, R551). Records of one
class and source keep their order (R556); the order between sources is the environment's (R39). -/
def State.publishOldest (s : State) (src : Nat) : State :=
  match s.trailNext src with
  | some (r, rest) => (({ s with raised := rest }).promoDone 4 r.drainId).publish r
  | none => s

def execEventRecordPublish (src : Nat) (s : State) : Res := .next (s.publishOldest src)

/-- A write of EVQn_HEAD is taken only if the level it gives lies from 0 to the ring size (R62). -/
def State.evqHead (s : State) (q v : Nat) : State :=
  if q < 16 ∧ (s.rd R.EVQ_TAIL [q] + 2 ^ 32 - v % 2 ^ 32) % 2 ^ 32 ≤ s.evqSize q then
    (s.wr R.EVQ_HEAD [q] (v % 2 ^ 32)).evqSync q
  else s

def execEvqHeadDoorbell (q v : Nat) (s : State) : Res := .next (s.onUnit .evq fun s => s.evqHead q v)

/-- HELD_RECORD_FLUSH (R64, R556). -/
def execHeldRecordFlush (q : Nat) (s : State) : Res := .next (if q < 16 then s.flushAll q else s)

/-- EVQ_IMOD_TIMEOUT (R63): with a timeout set and a record unsignalled, the vector is signalled. -/
def execEvqImodTimeout (q : Nat) (s : State) : Res :=
  .next (if q < 16 ∧ (s.dest q).unsig ≠ 0 ∧ s.get Fl.EVQ_IMOD_timeout [q] ≠ 0 then s.evqSignal q else s)

/-- HEAD and TAIL of a queue go to 0; nothing stays unsignalled. -/
def State.evqZero (s : State) (q : Nat) : State :=
  (((s.wr R.EVQ_HEAD [q] 0).wr R.EVQ_TAIL [q] 0).modDest q fun d => { d with unsig := 0 }).evqSync q

/-- EVQ_RESET: only a disabled queue is reset (the Meaning of EVQn_CTRL.reset). -/
def State.evqReset (s : State) (q : Nat) : State :=
  if q < 16 ∧ ¬s.flag Fl.EVQ_CTRL_enable [q] then s.evqZero q else s

def execEvqReset (q : Nat) (s : State) : Res := .next (s.onUnit .evq fun s => s.evqReset q)

end Sys2Proof.Machine
end

