-- ==== Sys2Proof/Machine/Cmdq.lean ====
section
/-! DEFINITION. The command queues (R65 to R72): finding the next packet of a ring, starting, completing and flushing. -/

namespace Sys2Proof.Machine

/-- Completion types (R59). -/
def stOk : Nat := 0x8000
def stFlushed : Nat := 0x8001
def stBadOp : Nat := 0x8002
def stBadArg : Nat := 0x8003
def stBusy : Nat := 0x8004
def stDenied : Nat := 0x8005

/-- What stands at a ring's cursor. -/
inductive Slot where
  /-- TAIL has been reached -/
  | empty
  /-- a reservation that is not yet published, or not yet covered by a doorbell (R68) -/
  | waiting
  /-- a malformed length word (R71) -/
  | bad (word : Nat)
  | packet (len : Nat)
  deriving DecidableEq, Repr

/-- The opcodes that resident firmware knows (R65, R289, R489, R526). -/
def knownOpcode (o : Nat) : Bool :=
  o = 0 || o = 1 || (0x100 ≤ o && o ≤ 0x107) || o = 0x200 || (0x300 ≤ o && o ≤ 0x302)

namespace State

def ring (s : State) (r : Nat) : Ring := s.rings.getD r Ring.init

def modRing (s : State) (r : Nat) (f : Ring → Ring) : State := { s with rings := modNth s.rings r f }

def ringSize (s : State) (r : Nat) : Nat := 2 ^ s.get Fl.CMDQ_CTRL_log2size [r]

/-- Host address of a free-running count in a ring (R66: a packet never wraps). -/
def ringAddr (s : State) (r c : Nat) : Nat := s.rd64 R.CMDQ_BASE_LO R.CMDQ_BASE_HI [r] + c % s.ringSize r

/-- What stands at a count of a ring (R68, R71). A malformed length word counts wherever TAIL stands. -/
def slotAt (s : State) (r c : Nat) : Slot :=
  let avail := (s.rd R.CMDQ_TAIL [r] + 2 ^ 32 - c % 2 ^ 32) % 2 ^ 32
  if avail = 0 then .empty
  else
    let w := s.host.readLe (s.ringAddr r c) 4
    if w = 0 then .waiting
    else if w % 8 ≠ 0 ∨ w < 16 ∨ 4096 < w ∨ s.ringSize r < c % s.ringSize r + w then .bad w
    else if avail < w then .waiting
    else .packet w

def slot (s : State) (r : Nat) : Slot := s.slotAt r (s.ring r).cursor

/-- Backlog in 64-byte units, its register and watermark (the Meaning of CMDQr_LEVEL). -/
def cmdqSync (s : State) (r : Nat) : State :=
  let was := s.get Fl.CMDQ_LEVEL_backlog [r]
  let l := ceilDiv ((s.rd R.CMDQ_TAIL [r] + 2 ^ 32 - s.rd R.CMDQ_HEAD [r]) % 2 ^ 32) 64
  (s.put Fl.CMDQ_LEVEL_backlog [r] l).watermark cmdqMark [r] was l

/-- CMDQr_STAT.waiting: the ring polls a reserved slot (R68). -/
def cmdqWaiting (s : State) (r : Nat) : State :=
  s.put Fl.CMDQ_STAT_waiting [r]
    (b2n (s.flag Fl.CMDQ_CTRL_enable [r] && ¬s.flag Fl.CMDQ_STAT_halted [r] && s.slot r = .waiting))

/-- Halt a ring at a malformed length word (R71). -/
def cmdqHalt (s : State) (r w : Nat) : State :=
  let s := (s.put Fl.CMDQ_STAT_badpkt [r] 1).put Fl.CMDQ_STAT_halted [r] 1
  s.ev 0x0003 srcCMDQ r (w + 2 ^ 32 * s.rd R.CMDQ_HEAD [r])

/-- Look at the front of a served ring: halt it if malformed, once HEAD stands there (the count that EV_CMDQ_BADPKT reports equals
CMDQr_HEAD, R71), and show whether it waits. -/
def cmdqLook (s : State) (r : Nat) : State :=
  if s.flag Fl.CMDQ_CTRL_enable [r] && ¬s.flag Fl.CMDQ_STAT_halted [r] then
    match s.slot r with
    | .bad w => (if (s.ring r).cursor = s.rd R.CMDQ_HEAD [r] then s.cmdqHalt r w else s).cmdqWaiting r
    | _ => s.cmdqWaiting r
  else s.cmdqWaiting r

/-- HEAD moves over the completed packets that stand at it (R68). -/
def cmdqHeadStep (s : State) (r : Nat) : Nat → State
  | 0 => s
  | n + 1 =>
    match takeFirst (fun (e : Nat × Nat) => e.1 = s.rd R.CMDQ_HEAD [r]) (s.ring r).done with
    | some (e, rest) =>
      ((s.modRing r fun x => { x with done := rest }).wr R.CMDQ_HEAD [r] ((e.1 + e.2) % 2 ^ 32)).cmdqHeadStep r n
    | none => s

/-- Zero a packet's space and give it back to the producer, in ring order (R68). -/
def cmdqZero (s : State) (r start len : Nat) : State :=
  let s := s.hostWrite (s.ringAddr r start) (List.replicate len 0)
  let s := s.modRing r fun x => { x with done := (start, len) :: x.done }
  (s.cmdqHeadStep r (s.ring r).done.length).cmdqSync r

/-- A consumed packet's space is free, and the front of the ring is looked at. -/
def cmdqFree (s : State) (r start len : Nat) : State := (s.cmdqZero r start len).cmdqLook r

/-- The completion record of a packet (R70); suppressed on ST_OK where the route says so (R65). -/
def cmdqRecord (s : State) (p : Packet) (st data : Nat) : State :=
  if st = stOk && bit p.route 4 then s
  else s.evDone st srcCMDQ p.ring (p.route % 16) (p.tag + 2 ^ 32 * p.opcode + 2 ^ 48 * (data % 2 ^ 16))

/-- A packet ends: its record, its space (R70, R68). After a host function reset both are gone (R74). -/
def cmdqFinish (s : State) (p : Packet) (st data : Nat) : State :=
  if p.discard then s else (s.cmdqRecord p st data).cmdqFree p.ring p.start p.len

/-- The packet of `len` bytes at a ring's cursor. -/
def packetAt (s : State) (r len : Nat) : Packet :=
  let c := (s.ring r).cursor
  let b := s.host.read (s.ringAddr r c) len
  ⟨s.nextId, r, c, len, fieldLe b 4 2, fieldLe b 6 1, fieldLe b 8 4, b, none, false⟩

/-- Reserved header bits that are not 0 (R71). -/
def packetReserved (p : Packet) : Bool :=
  p.route / 64 ≠ 0 || fieldLe p.body 7 1 ≠ 0 || fieldLe p.body 12 4 ≠ 0

/-- Can a completion queue take a record now (R64, R69). -/
def evqTakes (s : State) (q : Nat) : Bool := ¬s.destFull q && ¬s.destHolds q

/-- Does firmware take packets from a ring: it is enabled and not halted, and no flush waits for its packet boundary (R71, R72). -/
def ringServed (s : State) (r : Nat) : Bool :=
  s.flag Fl.CMDQ_CTRL_enable [r] && !s.flag Fl.CMDQ_STAT_halted [r] && !s.flag Fl.CMDQ_CTRL_flush [r]

/-- Does its fence flag hold a packet back: an earlier packet of its ring has not completed (R65). -/
def fenced (s : State) (p : Packet) : Bool := bit p.route 5 && s.packets.any fun x => x.ring = p.ring && !x.discard

/-- How far past a packet's start a free-running count lies. -/
def pastStart (p : Packet) (c : Nat) : Nat := (c + 2 ^ 32 - p.start) % 2 ^ 32

/-- The order of the first doorbell that covered a whole packet: its value lies from the packet's end to TAIL (R69). -/
def coverOrder (s : State) (p : Packet) : Nat :=
  (((s.ring p.ring).bells.find? fun b =>
    decide (p.len ≤ pastStart p b.1) && decide (pastStart p b.1 ≤ pastStart p (s.rd R.CMDQ_TAIL [p.ring]))).map (·.2)).getD s.nextId

/-- The next packet of a ring that firmware may start (R69), with its class after promotion and the order of the doorbell
that covered it. NOP packets are consumed by their own step. -/
def runnable (s : State) (r : Nat) : Option (Nat × Nat × Packet) :=
  if s.ringServed r then
    match s.slot r with
    | .packet len =>
      let p := s.packetAt r len
      if p.opcode = 0 || s.fenced p || ¬s.evqTakes (p.route % 16) then none
      else some (s.waitClass 3 r 0, s.coverOrder p, p)
    | _ => none
  else none

/-- HI before NORM before BULK; within a class the packet covered earliest; then the lower ring (R69). -/
def chooseNext (l : List (Nat × Nat × Packet)) : Option Packet :=
  (l.foldl (fun (best : Option (Nat × Nat × Packet)) c =>
    match best with
    | none => some c
    | some b => if c.1 < b.1 ∨ (c.1 = b.1 ∧ c.2.1 < b.2.1) then some c else best) none).map (·.2.2)

/-- The cursor moves past a packet; its promotions are spent, and so are the doorbells that cover nothing beyond it. -/
def cmdqPass (s : State) (r len : Nat) : State :=
  let tail := s.rd R.CMDQ_TAIL [r]
  (s.modRing r fun x =>
    let c := (x.cursor + len) % 2 ^ 32
    let past (v : Nat) : Nat := (v + 2 ^ 32 - c) % 2 ^ 32
    { x with cursor := c, bells := x.bells.filter fun b => decide (past b.1 ≠ 0) && decide (past b.1 ≤ past tail) }).promoDone 3 r

/-- The SD host takes up a card packet (R526): LSP_SD_STAT.busy shows it where there is a card. -/
def cardBusy (s : State) (opcode : Nat) : State :=
  if (opcode = 0x0301 || opcode = 0x0302) && s.powered .lsp && s.flag Fl.LSP_SD_STAT_present then s.put Fl.LSP_SD_STAT_busy [] 1 else s

/-- Firmware starts a chosen packet (R69, R71). Of a packet with an unknown opcode and non-zero reserved bits R71 does not say which
completion wins: it ends with ST_BADARG. CMDQr_EXEC counts a packet that ends with ST_BADOP, and not one that ends with ST_BADARG,
which R71 says is not run (DESIGN CHOICE, log 93). -/
def cmdqStart (s : State) (p : Packet) : State :=
  let s := ({ s with nextId := s.nextId + 1 }).cmdqPass p.ring p.len
  if packetReserved p then (s.cmdqFinish p stBadArg 0).cmdqLook p.ring
  else
    let s := s.inc Fl.CMDQ_EXEC_count [p.ring]
    if ¬knownOpcode p.opcode then (s.cmdqFinish p stBadOp 0).cmdqLook p.ring
    else (({ s with packets := s.packets ++ [p] } : State).cardBusy p.opcode).cmdqLook p.ring

/-- A started packet of a given opcode that has no result yet. -/
def started (s : State) (id opcode : Nat) : Option Packet :=
  s.packets.find? fun p => p.id = id && p.opcode = opcode && p.result.isNone

/-- Give a started packet its result; CMDQ_PACKET_COMPLETE then ends it. -/
def setResult (s : State) (id st data : Nat) : State :=
  { s with packets := s.packets.map fun p => if p.id = id then { p with result := some (st, data) } else p }

end State

/-- CMDQ_TAIL_DOORBELL (R67, R69). -/
def State.cmdqTail (s : State) (r v : Nat) : State :=
  if r < 4 then
    let s := s.wr R.CMDQ_TAIL [r] (v % 2 ^ 32)
    let s := ({ s with nextId := s.nextId + 1 } : State).modRing r fun x => { x with bells := x.bells ++ [(v % 2 ^ 32, s.nextId)] }
    (s.cmdqSync r).cmdqLook r
  else s

def execCmdqTailDoorbell (r v : Nat) (s : State) : Res := .next (s.onUnit .cmdq fun s => s.cmdqTail r v)

/-- CMDQ_POLL: the length word is read again (R68). -/
def execCmdqPoll (r : Nat) (s : State) : Res := .next (if r < 4 then s.cmdqLook r else s)

/-- CMDQ_PACKET_START (R69, R71). -/
def execCmdqPacketStart (s : State) : Res :=
  let s := (List.range 4).foldl (fun t r => t.cmdqLook r) s
  match State.chooseNext ((List.range 4).filterMap fun r => s.runnable r) with
  | some p => .next (s.cmdqStart p)
  | none => .next s

/-- CMDQ_PACKET_COMPLETE (R70): a packet whose work has ended. -/
def execCmdqPacketComplete (id : Nat) (s : State) : Res :=
  match takeFirst (fun (p : Packet) => p.id = id && p.result.isSome) s.packets with
  | some (p, rest) =>
    let r := p.result.getD (stOk, 0)
    .next (({ s with packets := rest }).cmdqFinish p r.1 r.2)
  | none => .next s

/-- NOP (R65, R71): consumed without a completion, whatever its reserved bits, once its fence flag lets it. -/
def execNop (r : Nat) (s : State) : Res :=
  if r < 4 ∧ s.ringServed r then
    match s.slot r with
    | .packet len =>
      if (s.packetAt r len).opcode = 0 ∧ ¬s.fenced (s.packetAt r len) then .next ((s.cmdqPass r len).cmdqFree r (s.packetAt r len).start len) else .next s
    | _ => .next s
  else .next s

/-- ECHO (R65): completes with ST_OK and returns its tag. -/
def execEcho (id : Nat) (s : State) : Res :=
  match s.started id 1 with
  | some _ => .next (s.setResult id stOk 0)
  | none => .next s

/-- A packet at the cursor leaves the ring flushed (R72): with ST_FLUSHED, a NOP without a record. -/
def State.flushPacket (s : State) (r len : Nat) : State :=
  let p := s.packetAt r len
  let t := s.cmdqPass r len
  (if p.opcode = 0 then t else t.cmdqRecord p stFlushed 0).cmdqZero r (s.ring r).cursor len

/-- The ring's bytes from the cursor, which may wrap past its end, are zeroed (R72). -/
def State.flushZero (s : State) (r n : Nat) : State :=
  (List.range (min n (s.ringSize r))).foldl (fun (t : State) i => t.hostWrite (t.ringAddr r ((s.ring r).cursor + i)) [0]) s

/-- What is not a packet leaves the ring with all that follows it up to TAIL, only zeroed (R72). -/
def State.flushRest (s : State) (r : Nat) : State :=
  let c := (s.ring r).cursor
  let n := (s.rd R.CMDQ_TAIL [r] + 2 ^ 32 - c) % 2 ^ 32
  ((s.flushZero r n).modRing r fun x => { x with cursor := (c + n) % 2 ^ 32, done := [], bells := [] }).wr R.CMDQ_HEAD [r] ((c + n) % 2 ^ 32)

/-- One step of a flush, by what stands at the cursor: nothing remains to do once it stands at TAIL. R72 does not say what becomes of a
valid packet that TAIL does not wholly cover: it is not published, and is zeroed up to TAIL without a record (DESIGN CHOICE, log 94). -/
def State.flushAt (s : State) (r : Nat) : Slot → State
  | .empty => s
  | .packet len => s.flushPacket r len
  | .waiting | .bad _ => s.flushRest r

def State.flushStep (s : State) (r : Nat) : State := s.flushAt r (s.slot r)

/-- Flush from the cursor to TAIL (R72), in at most `n` packets; from the first zero, malformed or uncovered length word on the space is
only zeroed. -/
def State.flushFrom (s : State) (r n : Nat) : State := (List.range n).foldl (fun (t : State) _ => t.flushStep r) s

/-- CMDQ_FLUSH: at the packet boundary, when no packet of the ring is running, a flush asked for takes effect (R72). -/
def execCmdqFlush (r : Nat) (s : State) : Res :=
  if r < 4 ∧ s.flag Fl.CMDQ_CTRL_flush [r] ∧ ¬(s.packets.any fun p => p.ring = r && ¬p.discard) then
    let s := s.flushFrom r (s.ringSize r / 8 + 1)
    let s := (s.put Fl.CMDQ_STAT_halted [r] 0).put Fl.CMDQ_CTRL_flush [r] 0
    .next ((s.cmdqSync r).cmdqLook r)
  else .next s

end Sys2Proof.Machine
end

