-- ==== Sys2Proof/Machine/Losses.lean ====
section
/-! DEFINITION. The recorder's takes and lost entries (R145, R272, R279 to R281), as the units before the recorder need them. -/

namespace Sys2Proof.Machine

namespace State

def rs (s : State) : RecSt := s.recorder
def modRec (s : State) (f : RecSt → RecSt) : State := { s with recorder := f s.recorder }
def modVol (s : State) (f : Volume → Volume) : State := s.modRec fun x => { x with vol := x.vol.map f }

/-- The take that a pipeline records (R280). -/
def liveTake (s : State) (p : Nat) : Option LiveTake := s.rs.takes.find? fun t => t.pipe = p && t.closed.isNone

/-- A take that records or still drains, by its number. -/
def takeOf (s : State) (n : Nat) : Option LiveTake := s.rs.takes.find? fun t => t.num = n

def modTake (s : State) (n : Nat) (f : LiveTake → LiveTake) : State :=
  s.modRec fun x => { x with takes := x.takes.map fun t => if t.num = n then f t else t }

/-- The streams of a take (R269). -/
def takeStreams (s : State) (n : Nat) : Nat :=
  ((s.rs.vol.bind fun v => v.takes.find? fun e => e.num = n).map fun e => e.streams).getD 0

/-- A take records on the pipeline now. -/
def recording (s : State) (p : Nat) : Bool := (s.liveTake p).isSome

/-- Change the table entry of a take. -/
def modEntry (s : State) (num : Nat) (f : Take → Take) : State :=
  s.modVol fun v => { v with takes := v.takes.map fun t => if t.num = num then f t else t }

/-! ### Lost frames (R272, R279, R281) -/

def lostEntry (p take fid cause time epoch : Nat) : Chunk := ⟨5, p, take, fid, fid, cause, 0, 0, 0, time, epoch, 0, []⟩

/-- Does the take that records on a pipeline cover a frame (R280). -/
def takeCovers (s : State) (p fid : Nat) : Bool :=
  match s.liveTake p with
  | some t => (t.fromFid = noFrame || decide (t.fromFid ≤ fid)) && (match t.stopAt with
    | some q => q = noFrame || decide (fid ≤ q)
    | none => true)
  | none => false

/-- A lost entry of take `n` joins the recording index. -/
def addLost (s : State) (n p fid cause time epoch : Nat) : State :=
  (s.modRec fun x => { x with losts := x.losts ++ [lostEntry p n fid cause time epoch] }).modEntry n fun e =>
    { e with flags := e.flags ||| 2 }

/-- A frame of take `n` is lost (R279, R281, R284). -/
def recLost (s : State) (n p fid cause time epoch : Nat) : State :=
  ((s.addLost n p fid cause time epoch).inc Fl.REC_P_LOST_count [p]).evFrame 0x0081 srcREC p epoch fid (1 + 2 ^ 32 * cause)

/-- The number of the take that records on a pipeline and covers a frame (R280). -/
def coveringTake (s : State) (p fid : Nat) : Option Nat := if s.takeCovers p fid then (s.liveTake p).map (·.num) else none

/-- A frame that is not processed leaves a gap in the recording index of the take that covers it (R145): a lost entry with cause 0
(DEDUCED, log 103). -/
def recGap (s : State) (p fid time epoch : Nat) : State :=
  match s.coveringTake p fid with
  | some n => s.addLost n p fid 0 time epoch
  | none => s

end State

end Sys2Proof.Machine
end

