-- ==== Sys2Proof/Machine/CapSeg.lean ====
section
/-! DEFINITION. Ring capture: triggers, segments and their release (R233 to R239). -/

namespace Sys2Proof.Machine

namespace State

def cap (s : State) (p : Nat) : CapSt := s.caps.getD p CapSt.init

def modCap (s : State) (p : Nat) (f : CapSt → CapSt) : State := { s with caps := modNth s.caps p f }

def segSt (s : State) (p k : Nat) : Seg := (s.cap p).segs.getD k Seg.init

def modSeg (s : State) (p k : Nat) (f : Seg → Seg) : State := s.modCap p fun c => { c with segs := modNth c.segs k f }

/-- Segment states of CAP_Pp_SEGk_INFO: 0 free, 1 open, 2 sealed, 3 draining, 4 drained. -/
def segState (s : State) (p k : Nat) : Nat := s.get Fl.CAP_SEG_INFO_state [p, k]

def openSeg (s : State) (p : Nat) : Option Nat := (List.range 16).find? fun k => s.segState p k = 1

def freeSeg (s : State) (p : Nat) : Option Nat := (List.range 16).find? fun k => s.segState p k = 0

/-- Slots that the segments hold (R185). -/
def sealedSlots (s : State) (p : Nat) : List Nat :=
  (List.range 16).flatMap fun k => if s.segState p k = 0 then [] else (s.segSt p k).frames.map fun f => f.1

/-- CAP_Pp_STAT.sealed covers open, sealed and draining segments (its Meaning); a drained one is waiting for release. -/
def capStat (s : State) (p : Nat) : State :=
  let st := (List.range 16).map fun k => s.segState p k
  let mask := sumOf (fun k => if [1, 2, 3].contains (st.getD k 0) then 2 ^ k else 0) (List.range 16)
  ((s.put Fl.CAP_STAT_sealed [p] mask).put Fl.CAP_STAT_open [p] (b2n (st.contains 1))).put Fl.CAP_STAT_draining [p]
    (b2n (st.contains 3))

/-- The registers of segment `k` follow it. -/
def segShow (s : State) (p k state : Nat) : State :=
  let g := s.segSt p k
  let s := (s.put Fl.CAP_SEG_INFO_state [p, k] state).put Fl.CAP_SEG_INFO_count [p, k] g.frames.length
  let s := s.wr64 R.CAP_SEG_FIRST_LO R.CAP_SEG_FIRST_HI [p, k] ((g.frames.headD (0, 0, 0)).2.1)
  s.capStat p

/-- A slot records the epoch of the frame it holds (R135). -/
def tagSlot (s : State) (p slot e : Nat) : State :=
  s.modCap p fun c => { c with tags := (slot, e) :: c.tags.filter fun x => x.1 ≠ slot }

/-- The epoch of the frame in a slot. -/
def slotEpoch (s : State) (p slot : Nat) : Nat :=
  (((s.cap p).tags.find? fun x => x.1 = slot).map (·.2)).getD (s.rd R.DEV_EPOCH_IN)

/-- EV_CAP_TRIG (R258), with the epoch of the trigger frame in `slot`, if there is one (R58, R138). -/
def evTrig (s : State) (p k fid t : Nat) (slot : Option Nat) (refused retrig short : Bool) : State :=
  s.evFrame 0x0070 srcCAP p (match slot with | some n => s.slotEpoch p n | none => s.rd R.DEV_EPOCH_IN) fid
    (k + 2 ^ 8 * b2n refused + 2 ^ 9 * b2n retrig + 2 ^ 10 * b2n short + 2 ^ 32 * (t % 2 ^ 32))

/-- A refused trigger (R236). -/
def trigRefuse (s : State) (p k fid t : Nat) (slot : Option Nat) (retrig : Bool) : State :=
  ((s.inc Fl.CAP_CNT_refused [p]).put Fl.CAP_STAT_trig_refused [p] 1).evTrig p k fid t slot true retrig false

/-- A segment returns its slots (R239). -/
def segRelease (s : State) (p k : Nat) : State :=
  let s := s.modCap p fun c => { c with segs := modNth c.segs k fun _ => Seg.init, order := c.order.filter fun x => x.1 ≠ k }
  let s := s.put Fl.CAP_SEGREL_release [p] (s.get Fl.CAP_SEGREL_release [p] &&& (0xFFFF - 2 ^ k))
  let s := s.wr R.CAP_SEG_PRE [p, k] 0
  (s.wr R.CAP_SEG_INFO [p, k] 0).segShow p k 0

/-- Release what has been asked for (R239): a sealed or drained segment at once; an open one when it is sealed, and one
that is being re-issued when it is drained. A request for a free segment clears. -/
def relDue (s : State) (p : Nat) : State :=
  (List.range 16).foldl (fun (t : State) k =>
    if bit (t.get Fl.CAP_SEGREL_release [p]) k && [0, 2, 4].contains (t.segState p k) then t.segRelease p k else t) s

/-- A segment is sealed; with auto_drain it is queued (R236, R238). A release asked for while it was open takes effect now (R239). -/
def segSeal (s : State) (p k : Nat) : State :=
  let s := s.segShow p k 2
  let auto : Bool := s.effP p Fl.CAP_MODE_auto_drain [p] = 1
  let s := s.modCap p fun c => { c with order := c.order ++ [(k, auto)] }
  let g := s.segSt p k
  let f := g.frames.getLast?.getD (0, 0, 0)
  (s.evFrame 0x0071 srcCAP p (s.slotEpoch p f.1) f.2.1 (k + 2 ^ 32 * g.frames.length)).relDue p

/-- Frames in the ring go to the open segment: the trigger frame at once, a post frame once it has closed (R236). -/
def segFeed (s : State) (p k : Nat) : State :=
  if s.segState p k ≠ 1 then s
  else
    let g := s.segSt p k
    if g.post = 0 && g.trigClosed then s.segSeal p k
    else
      let after := (g.frames.getLast?.getD (0, 0, 0)).2.2
      match (s.cap p).ring.find? fun f => after < f.2.2.1 with
      | some f =>
        if g.post ≠ 0 && f.2.2.2 then
          let s := s.modCap p fun c => { c with ring := c.ring.erase f, gone := some (max f.2.2.1 (c.gone.getD 0)) }
          let s := s.modSeg p k fun x => { x with frames := x.frames ++ [(f.1, f.2.1, f.2.2.1)], post := x.post - 1 }
          s.segShow p k 1
        else s
      | none => s

/-- Feed the open segment all that the ring holds for it. -/
def segFeedAll (s : State) (p k : Nat) : State :=
  (List.range ((s.cap p).ring.length + 2)).foldl (fun t _ => t.segFeed p k) s

/-- The trigger frame of this boundary time has been decided: triggers that coincide with it count as one with it (R237). -/
def trigMark (s : State) (p : Nat) (b : Option Nat) : State :=
  match b with
  | some b => s.modCap p fun c => { c with trigSeen := b :: c.trigSeen.filter fun x => (s.pipeSt p).bounds.contains x }
  | none => s

/-- The trigger frame of a trigger is known (R235): the trigger is accepted or refused (R236, R237). -/
def trigDecide (s : State) (p t : Nat) (f : Nat × Nat × Nat × Bool) : State :=
  let fid := f.2.1
  if (s.cap p).trigSeen.contains f.2.2.1 then s
  else
    let s := s.trigMark p (some f.2.2.1)
    let pre := s.effPRd p R.CAP_PRE [p]
    let post := s.effPRd p R.CAP_POST [p]
    let unsealed := (s.cap p).depth - (s.sealedSlots p).length
    match s.openSeg p with
    | some k =>
      let g := s.segSt p k
      let after := (g.frames.getLast?.getD (0, 0, 0)).2.2
      let known := g.frames.any fun x => x.2.1 = fid
      let inside := (g.frames.takeWhile fun x => x.2.1 ≠ fid).length
      let ahead := (((s.cap p).ring.filter fun x => after < x.2.2.1).takeWhile fun x => x.2.1 ≠ fid).length
      let before := if known then inside else g.frames.length + ahead
      if s.effP p Fl.CAP_MODE_retrig [p] = 1 && before + 1 + post + 2 ≤ unsealed + g.frames.length then
        let s := s.modSeg p k fun x => { x with
          post := if known then post - (x.frames.length - (inside + 1)) else ahead + 1 + post
          trigFid := if known then x.trigFid else fid, trigClosed := if known then x.trigClosed else true }
        ((s.inc Fl.CAP_CNT_accepted [p]).evTrig p k fid t (some f.1) false true false).segFeedAll p k
      else s.trigRefuse p k fid t (some f.1) (s.effP p Fl.CAP_MODE_retrig [p] = 1)
    | none =>
      match s.freeSeg p with
      | none => s.trigRefuse p 0 fid t (some f.1) false
      | some k =>
        if pre + 1 + post + 2 ≤ unsealed then
          let older := (s.cap p).ring.takeWhile fun x => x.2.1 ≠ fid
          let taken := older.drop (older.length - pre)
          let short := taken.length < pre
          let s := s.modCap p fun c => { c with
            ring := (older.take (older.length - pre)) ++ (c.ring.dropWhile fun x => x.2.1 ≠ fid).drop 1
            gone := some (max f.2.2.1 (c.gone.getD 0)) }
          let s := s.modSeg p k fun _ =>
            ⟨(taken ++ [f]).map fun x => (x.1, x.2.1, x.2.2.1), fid, f.2.2.2, post, 0⟩
          let s := s.segShow p k 1
          let s := (s.put Fl.CAP_SEG_INFO_short [p, k] (b2n short)).put Fl.CAP_SEG_PRE_pre [p, k] taken.length
          let s := (s.inc Fl.CAP_CNT_accepted [p]).evTrig p k fid t (some f.1) false false short
          s.segFeedAll p k
        else s.trigRefuse p k fid t (some f.1) false

/-- A trigger with time t (R234): decided at once if its trigger frame is known, else it waits for it. Of triggers whose trigger frames
coincide only the first counts, wherever that frame is now (R237). -/
def trigger (s : State) (p t : Nat) : State :=
  if s.effP p Fl.CAP_MODE_mode [p] ≠ 1 then s
  else
    let x : Int := t + signed 32 (s.effPRd p R.CAP_TADJ [p])
    let held : List (Nat × Nat × Nat × Bool) :=
      (match s.openSeg p with
        | some k => (s.segSt p k).frames.map fun f => (f.1, f.2.1, f.2.2, true)
        | none => []) ++ (s.cap p).ring
    let first : Option Nat := ((s.pipeSt p).bounds.filter fun (b : Nat) => decide (x ≤ (b : Int))).getLast?
    let passed : Bool := match (s.cap p).gone with | some g => x ≤ (g : Int) | none => false
    if first.any fun b => (s.cap p).trigSeen.contains b then s
    else match held.find? fun f => x ≤ (f.2.2.1 : Int) with
    | some f =>
      if passed && (match (s.cap p).gone with | some g => g < f.2.2.1 | none => false) then
        (s.trigMark p first).trigRefuse p 0 noFrame t none false
      else s.trigDecide p t f
    | none =>
      if passed then (s.trigMark p first).trigRefuse p 0 noFrame t none false else s.modCap p fun c => { c with trigs := c.trigs ++ [(t, x)] }

/-- A frame of the pipeline opens in a slot: what the slot held leaves the ring, and waiting triggers find their frame. -/
def capOpen (s : State) (p fid slot time : Nat) : State :=
  let old := (s.cap p).ring.filter fun f => f.1 = slot
  let s := (s.tagSlot p slot (s.pipeEpoch p)).modCap p fun c => { c with
    ring := (c.ring.filter fun f => f.1 ≠ slot) ++ [(slot, fid, time, false)]
    gone := match old.getLast?, c.gone with
      | some f, some g => some (max f.2.2.1 g)
      | some f, none => some f.2.2.1
      | none, g => g }
  let due := (s.cap p).trigs.filter fun x => x.2 ≤ (time : Int)
  let s := s.modCap p fun c => { c with trigs := c.trigs.filter fun x => ¬x.2 ≤ (time : Int) }
  due.foldl (fun (t : State) x => t.trigDecide p x.1 (slot, fid, time, false)) s

/-- A frame of the pipeline closes: the open segment may take or seal it (R236). -/
def capClose (s : State) (p fid : Nat) : State :=
  let s := s.modCap p fun c => { c with ring := c.ring.map fun f => if f.2.1 = fid then (f.1, f.2.1, f.2.2.1, true) else f }
  match s.openSeg p with
  | some k =>
    let s := if (s.segSt p k).trigFid = fid then s.modSeg p k fun g => { g with trigClosed := true } else s
    s.segFeedAll p k
  | none => s

/-- Candidate depth of the ingest buffer in the structure and values in effect (R184, R233). -/
def depthWanted (s : State) (p : Nat) : Nat :=
  let d := s.effPRd p R.CAP_DEPTH [p]
  if s.effP p Fl.CAP_MODE_mode [p] = 1 && d ≠ 0 then d
  else (((s.graph.feed? p).bind fun e => s.graph.buffer? e.buffer).map fun b => b.depth).getD 0

/-- A front of pipeline `p` (R233): a change of depth takes effect only while no segment is open or sealed. -/
def capFront (s : State) (p : Nat) : State :=
  let d := s.depthWanted p
  if d = (s.cap p).depth then s
  else if (List.range 16).all fun k => s.segState p k = 0 then
    let s : State := { s with streams := match s.graph.streamOf p with
      | some r => modNth s.streams r.id fun x => { x with slot := 0 }
      | none => s.streams }
    s.modCap p fun c => { c with depth := d, ring := [], gone := none }
  else s.put Fl.CAP_STAT_depth_refused [p] 1

/-- A segment whose last frame has left is drained (R238); with auto_drain it is released. -/
def segDrained (s : State) (p k : Nat) : State :=
  let last := ((s.segSt p k).frames.getLast?).getD (0, 0, 0)
  let s := s.modCap p fun c => { c with order := c.order.filter fun x => x.1 ≠ k }
  let s := s.segShow p k 4
  let s := s.evFrame 0x0072 srcCAP p (s.slotEpoch p last.1) last.2.1 k
  let s := if s.effP p Fl.CAP_MODE_auto_drain [p] = 1 then s.segRelease p k else s
  s.relDue p

/-- The segment whose turn it is: one that has begun, else the first in the order they were sealed (R238). -/
def drainNext (s : State) (p : Nat) : Option Nat :=
  (((s.cap p).order.find? fun x => x.2 && s.segState p x.1 = 3).orElse fun _ => (s.cap p).order.find? fun x => x.2).map (·.1)

/-- The triggers of a line edge at time t (R234). -/
def capLineTrigger (s : State) (line : Nat) (rising : Bool) (t : Nat) : State :=
  (List.range 8).foldl (fun (u : State) p =>
    let e := u.effP p Fl.CAP_TRIG_edge [p]
    if u.effP p Fl.CAP_TRIG_src [p] = 1 && u.effP p Fl.CAP_TRIG_line [p] = line && (e = 2 || (e = 0) == rising)
    then u.trigger p t else u) s

/-- A write of `v` to CAP_Pp_DRAIN (R238): go queues a sealed segment and completes at once. -/
def capDrain (s : State) (p v : Nat) : State :=
  let s := s.writeFields ⟨R.CAP_DRAIN, [Fl.CAP_DRAIN_seg]⟩ [p] v
  if bit v 0 then
    let k := s.get Fl.CAP_DRAIN_seg [p]
    s.modCap p fun c => { c with order := c.order.map fun x => if x.1 = k then (k, true) else x }
  else s

/-- A write of `v` to CAP_Pp_SEGREL (R239). -/
def capSegrel (s : State) (p v : Nat) : State :=
  (s.put Fl.CAP_SEGREL_release [p] (s.get Fl.CAP_SEGREL_release [p] ||| v % 2 ^ 16)).relDue p

/-- A write of `v` to CAP_Pp_TRIG (R234): go triggers at the time the write lands. -/
def capTrig (s : State) (p v : Nat) : State :=
  let s := s.writeFields ⟨R.CAP_TRIG, [Fl.CAP_TRIG_edge, Fl.CAP_TRIG_line, Fl.CAP_TRIG_src]⟩ [p] v
  if bit v 0 then s.trigger p s.dt else s

end State

/-- CAP_SOFTWARE_TRIGGER (R234). -/
def execCapSoftwareTrigger (p v : Nat) (s : State) : Res :=
  if p < 8 then .next (s.onUnit .cap fun s => s.capTrig p v) else .next s

/-- CAP_TIME_TRIGGER (R234): once for each value that takes effect. -/
def execCapTimeTrigger (p : Nat) (s : State) : Res :=
  let t := s.effPRd p R.CAP_TTIME_LO [p] + 2 ^ 32 * s.effPRd p R.CAP_TTIME_HI [p]
  if p < 8 ∧ s.powered .cap ∧ s.effP p Fl.CAP_TRIG_src [p] = 2 ∧ (s.cap p).ttimeDone ≠ some t then
    .next (((s.reachDt t).modCap p fun c => { c with ttimeDone := some t }).trigger p t)
  else .next s

/-- CAP_DRAIN (R238). -/
def execCapDrain (p v : Nat) (s : State) : Res :=
  if p < 8 then .next (s.onUnit .cap fun s => s.capDrain p v) else .next s

/-- SEGMENT_RELEASE (R239). -/
def execSegmentRelease (p v : Nat) (s : State) : Res :=
  if p < 8 then .next (s.onUnit .cap fun s => s.capSegrel p v) else .next s

end Sys2Proof.Machine
end

