-- ==== Sys2Proof/Machine/Gust.lean ====
section
/-! DEFINITION. Gust counters and the responses to a lasting error (R530 to R536, R544), and the Crosswind ports (R84). -/

namespace Sys2Proof.Machine

/-- Kinds of R535 that the model names. -/
def kindTileChk : Nat := 0
def kindTileUe : Nat := 2
def kindXwPar : Nat := 3
def kindHbmCe : Nat := 4
def kindSlkLane : Nat := 7

/-- Which responses R535 allows a kind. -/
def responseAllowed (kind r : Nat) : Bool :=
  match kind with
  | 0 => r ≤ 1 | 1 => r ≤ 1 | 2 => r ≤ 1
  | 3 => r = 0 || r = 2
  | 4 => r = 0 || r = 3
  | 5 => r = 1
  | 6 => r ≤ 1
  | 8 => r = 0 || r = 3
  | _ => r = 0

def spareFld : Nat → Fld
  | 1 => Fl.HLT_SPARE_rct
  | 2 => Fl.HLT_SPARE_rcu
  | _ => Fl.HLT_SPARE_dvt

def retiredFld : Nat → Fld
  | 1 => Fl.HLT_RETIRED_rct
  | 2 => Fl.HLT_RETIRED_rcu
  | _ => Fl.HLT_RETIRED_dvt

/-- Tile instance of R531. -/
def tileInst (cls n : Nat) : Nat := (cls - 1) * 16 + n

/-- Pipeline that an edge belongs to. -/
def edgePipe (a b : Nat) : Nat :=
  if b / 256 = 2 then b % 256 / 16 else if a / 256 = 2 then a % 256 / 16 else a % 256 / 8

namespace State

def modHlt (s : State) (f : HltSt → HltSt) : State := { s with hlt := f s.hlt }

def gust (s : State) (ix : Nat) : Gust := lookAt Gust.init s.hlt.gusts ix

/-- HLT_GC_* show the source that HLT_SEL selects. -/
def gustShow (s : State) : State :=
  let g := s.gust (s.get Fl.HLT_SEL_source)
  ((s.put Fl.HLT_GC_LEVEL_level [] g.level).wr R.HLT_GC_ERRS [] g.errs).wr R.HLT_GC_LASTING [] g.lasting

def setGust (s : State) (ix : Nat) (g : Gust) : State :=
  (s.modHlt fun x => { x with gusts := setAt Gust.init ix g x.gusts }).gustShow

/-! ### Crosswind ports (R84, R536) -/

def xwFree (s : State) : Nat := (s.hlt.xw.filter fun p => p.edge.isNone && !p.retired).length

def xwShow (s : State) : State := s.put Fl.DRV_XW_FREE_ports [] s.xwFree

/-- Ports that an edge takes (R84). -/
def xwPortsOf (e : EdgeRec) : Nat := max 1 (ceilDiv e.bw 76800)

/-- Give an edge one of the free ports, the lowest (log 24). -/
def xwGive (l : List XwPort) (e : Nat × Nat) : List XwPort :=
  match l with
  | [] => []
  | p :: t => if p.edge.isNone && !p.retired then { p with edge := some e } :: t else p :: xwGive t e

/-- The edges of a pipeline take ports afresh: those of its old edges and free ones (R84, R112). -/
def xwAssign (s : State) (p : Nat) : State :=
  let es := s.graph.edges.filter fun e => edgePipe e.src e.dst = p
  (s.modHlt fun x => { x with
    xw := es.foldl (fun l e => (List.range (xwPortsOf e)).foldl (fun l _ => xwGive l (e.src, e.dst)) l)
      (x.xw.map fun q => if q.edge.any fun e => edgePipe e.1 e.2 = p then { q with edge := none } else q) }).xwShow

/-- At a front of its pipeline, each edge on a retired port moves to a free one (R536). -/
def xwMove (s : State) (p : Nat) : State :=
  let moved := s.hlt.xw.filterMap fun q => if q.retired then q.edge.bind (fun e => if edgePipe e.1 e.2 = p then some e else none) else none
  if moved.isEmpty then s
  else (s.modHlt fun x => { x with
    xw := moved.foldl xwGive (x.xw.map fun q =>
      if q.retired && q.edge.any fun e => edgePipe e.1 e.2 = p then { q with edge := none } else q) }).xwShow

/-! ### Responses (R536) -/

/-- The active pair and its owner ID (R40). -/
def activePair (s : State) : Nat := s.get Fl.DEV_STATUS_pair

/-- The switch to the standby pair (R544). Packets past their commit point keep their results; the others run again from the
start, and what they had begun is idempotent (R543). -/
def pairSwitch (s : State) : State :=
  let old := s.activePair
  let s := s.ownerReset (2 + old)
  let s := (s.put Fl.DEV_STATUS_pair [] (1 - old)).put Fl.HLT_SPARE_pair_ready [] 0
  let again := (s.packets.filter fun p => p.result.isNone && !p.discard).length
  (s.modHlt fun x => { x with failedPair := true }).ev 0x4123 srcHLT 0 (1 - old + 256 * again)

/-- The spare takes the place of a faulty tile, from the pipeline's next boundary and for the stripes it still owes (R143,
R538). -/
def substitute (s : State) (p cls n spare : Nat) : State :=
  let s : State := { s with
    subst := s.subst ++ [⟨p, cls, n, spare, none⟩]
    frames := s.frames.map fun f =>
      if f.pipe = p then { f with owes := f.owes.map fun o => if o = (cls, n) then (cls, spare) else o } else f }
  let there (r : Replay) : Replay := if r.pipe = p && r.cls = cls && r.tile = n then { r with tile := spare } else r
  (s.modHlt fun x => { x with replays := x.replays.map there, spoilt := x.spoilt.map there }).put (spareFld cls) [] 0xFF

/-- The link of a PCIe port retrains one generation lower, down to generation 3. -/
def derateLink (s : State) (inst : Nat) : State :=
  let now := if inst = 1 then s.get Fl.OFL_STAT_speed else if 2 ≤ inst && inst < 34 then s.get Fl.MPC_RP_STAT_speed [inst - 2]
    else lookAt 6 s.hlt.derated inst
  let next := max 3 (now - 1)
  let s := s.modHlt fun x => { x with derated := setAt 6 inst next x.derated }
  if inst = 1 then (if now ≤ 3 then s else s.put Fl.OFL_STAT_speed [] next)
  else if 2 ≤ inst && inst < 34 then (if now ≤ 3 then s else s.put Fl.MPC_RP_STAT_speed [inst - 2] next)
  else s

/-- Apply the response of a kind to a source; the flag says that it could not run (R536). A standby pair with lasting trouble is
stood down: there is nothing to switch (DESIGN CHOICE, log 124). -/
def respond (s : State) (kind inst : Nat) : State × Bool :=
  match s.get Fl.HLT_KIND_CFG_response [kind] with
  | 1 =>
    if kind = 5 || kind = 6 then
      if inst ≠ s.activePair then
        ((s.modHlt fun x => { x with failedPair := true }).put Fl.HLT_SPARE_pair_ready [] 0, false)
      else if s.get Fl.HLT_SPARE_pair_ready = 1 then (s.pairSwitch, false) else (s, true)
    else
      let cls := inst / 16 + 1
      let n := inst % 16
      let spare := s.get (spareFld cls)
      match s.graph.tilePipe cls n with
      | some p => if spare = 0xFF || (s.subst.any fun x => x.cls = cls && x.since.isNone) then (s, true) else (s.substitute p cls n spare, false)
      | none => (s, true)
  | 2 =>
    if s.xwFree = 0 then (s, true)
    else ((s.modHlt fun x => { x with xw := modNth x.xw inst fun q => { q with retired := true } }).xwShow, false)
  | 3 =>
    if kind = kindHbmCe then (s.modHlt fun x => { x with scans := if x.scans.contains inst then x.scans else x.scans ++ [inst] }, false)
    else (s.derateLink inst, false)
  | _ => (s, false)

/-- Period of a kind's leak timer in ns: W / T, in whole µs and at least one (R532). -/
def leakPeriod (s : State) (kind : Nat) : Nat :=
  max 1 (s.rd R.HLT_KIND_WIN [kind] * 1000 / max 1 (s.get Fl.HLT_KIND_CFG_threshold [kind])) * 1000

/-- A detected error feeds its gust counter (R532 to R534): the kind's window, threshold and response as they are now apply from here on. -/
def gustFeed (s : State) (kind inst : Nat) : State :=
  let ix := kind * 256 + inst
  let s := s.modHlt fun x => { x with leaks := modNth x.leaks kind fun l => (l.1, s.leakPeriod kind) }
  let g := s.gust ix
  let t := s.get Fl.HLT_KIND_CFG_threshold [kind]
  let errs := (g.errs + 1) % 2 ^ 32
  if g.level + 1 < t then
    (s.setGust ix { g with level := g.level + 1, errs := errs }).evLimited 0x0120 srcHLT 0 (s.rd R.DEV_EPOCH_IN) noFrame (ix + 2 ^ 32)
  else
    let code := s.get Fl.HLT_KIND_CFG_response [kind]
    let s := s.setGust ix ⟨0, errs, min (g.lasting + 1) (2 ^ 32 - 1)⟩
    let r := s.respond kind inst
    r.1.ev 0x4120 srcHLT 0 (ix + 2 ^ 32 * code + 2 ^ 40 * b2n r.2)

/-- A leak tick lowers every source of its kind (R532); the clock moves on to it (log 35). -/
def gustLeak (s : State) (kind : Nat) : State :=
  let l := s.hlt.leaks.getD kind (0, 0)
  let s := s.reachClk (l.1 + if l.2 = 0 then s.leakPeriod kind else l.2)
  let s := s.modHlt fun x => { x with leaks := modNth x.leaks kind fun l => (s.time.clk, l.2) }
  (s.modHlt fun x => { x with gusts := x.gusts.map fun e =>
    if e.1 / 256 = kind then (e.1, { e.2 with level := e.2.level - 1 }) else e }).gustShow

/-- Does a stripe of a frame wait for its replay (R539). -/
def replaying (s : State) (cls tile fid : Nat) : Bool :=
  s.hlt.replays.any fun r => r.cls = cls && r.tile = tile && r.fid = fid

/-- Is a stripe of a frame undefined (R540). -/
def stripeSpoilt (s : State) (cls tile fid : Nat) : Bool :=
  s.hlt.spoilt.any fun r => r.cls = cls && r.tile = tile && r.fid = fid

/-- The stripe has been handed on: `n` free values were drawn for it. -/
def spoiltDone (s : State) (cls tile fid n : Nat) : State :=
  if s.stripeSpoilt cls tile fid then
    let s : State := { s with free := s.free + n }
    s.modHlt fun x => { x with spoilt := x.spoilt.filter fun r => !(r.cls = cls && r.tile = tile && r.fid = fid) }
  else s

/-- A stripe is left undefined for its frame (R540): it holds free values (log 2). -/
def leaveUndefined (s : State) (r : Replay) (protOff : Bool) : State :=
  let s := (s.modHlt fun x => { x with spoilt := x.spoilt ++ [r] }).inc Fl.HLT_UNREPAIRED_count
  s.ev 0x4122 srcHLT (tileInst r.cls r.tile) (r.pipe + 256 * b2n protOff)

/-- A replay ends as unrepaired (R540, R541). -/
def unrepaired (s : State) (r : Replay) : State :=
  (s.modHlt fun x => { x with replays := x.replays.filter fun q => q ≠ r }).leaveUndefined r false

end State

/-- GUST_LEAK_TICK (R532). -/
def execGustLeakTick (kind : Nat) (s : State) : Res := .next (s.gustLeak kind)

end Sys2Proof.Machine
end

