-- ==== Sys2Proof/Machine/AudBase.lean ====
section
/-! DEFINITION. Audio ports: what they are, their schedules, fades and stops (R491 to R501). -/

namespace Sys2Proof.Machine

/-- Sample rate in Hz of AUD_Pn_FMT.rate, and the master clock it is made from (R494). -/
def audRate (code : Nat) : Nat := [32000, 44100, 48000, 88200, 96000, 176400, 192000].getD code 48000
def audMaster (code : Nat) : Nat := if code = 1 || code = 3 || code = 5 then 22579200 else 24576000

/-- Bits of a sample slot of AUD_Pn_FMT.width. -/
def audWidth (code : Nat) : Nat := [32, 24, 16].getD code 32

/-- Sample frames of a ramp: fs × 2 ms (R498). -/
def rampLen (rate : Nat) : Nat := max 1 (audRate rate / 500)

/-- A 24-bit sample of a 32-bit word scaled by gain / nr. -/
def rampWord (w gain nr : Nat) : Nat :=
  if nr ≤ gain then w / 256 * 256
  else
    let v : Int := signed 24 (w / 256) * gain
    let q : Int := v / nr + (if v % nr ≠ 0 && Config.rampUp (signed 24 (w / 256)) gain nr then 1 else 0)
    unsigned 24 q * 256

/-- AES3 and embedded inputs, which keep an elastic buffer (R500). -/
def audElastic (n : Nat) : Bool := n = 8 || n = 9 || n = 12 || n = 13

/-- The fade moves by one frame: the gain this frame plays with, and the fade after it. A ramp-out steps first, a ramp-in last. -/
def fadeStep (f : Fade) (nr : Nat) : Nat × Fade :=
  match f.mode with
  | 0 => (nr, f)
  | 1 => let g := f.gain - 1; (g, if g = 0 then ⟨2, 0, f.cause⟩ else { f with gain := g })
  | 2 => (0, f)
  | _ => (f.gain, if nr ≤ f.gain + 1 then ⟨0, 0, 0⟩ else { f with gain := f.gain + 1 })

/-! ### Embedding on SDI outputs (R503) -/

/-- The audio group buffer of an output: 8 ms over the longest frame. -/
def embedRoom : Nat := 2002 + 4 * 96

/-- Samples of display frame `f` at rate code `r`: those whose schedule place falls within it. -/
def embedCount (r f : Nat) : Nat :=
  let q := rateND r
  let upTo (k : Nat) : Nat := (2 * k * 48000 * q.2 + q.1) / (2 * q.1)
  upTo (f + 1) - upTo f

/-- `n` samples of a group, four channels each: a group that runs short ramps out over what it still holds (R500, log 37). -/
def embedRun : Nat → Elastic → List (List Nat) × Elastic
  | 0, e => ([], e)
  | n + 1, e =>
    let nr := 96
    let good : Bool := e.fade.mode = 0 || e.fade.mode = 3
    let e := if good && e.buf.length < nr && e.buf.length ≤ n then
      { e with fade := ⟨1, if e.fade.mode = 0 then nr else e.fade.gain, 0⟩ } else e
    let e := if e.buf.isEmpty then { e with fade := ⟨2, 0, 0⟩ } else e
    if e.fade.mode = 2 then
      let r := embedRun n e
      ([0, 0, 0, 0] :: r.1, r.2)
    else
      let p := fadeStep e.fade nr
      let ws := (e.buf.headD [0, 0, 0, 0]).map fun w => rampWord w p.1 nr
      let r := embedRun n { e with buf := e.buf.drop 1, fade := p.2 }
      (ws :: r.1, r.2)

/-- The samples that a group gives a display frame of `n` samples: silence until 4 ms are held over the frame's own, a ramp-out and
a fresh start above 6 ms (R500, log 37). -/
def embedFrame (n : Nat) (running : Bool) (e : Elastic) : List (List Nat) × Elastic :=
  if !running then embedRun n Elastic.init
  else
    let nr := 96
    let len := e.buf.length
    let good : Bool := e.fade.mode = 0 || e.fade.mode = 3
    if e.fade.mode = 2 && n + 2 * nr ≤ len then
      embedRun n { e with buf := e.buf.drop (len - (n + 2 * nr)), fade := ⟨3, 0, 0⟩ }
    else if good && n + 3 * nr < len then
      embedRun n { e with fade := ⟨1, if e.fade.mode = 0 then nr else e.fade.gain, 1⟩ }
    else embedRun n e

namespace State

def modAud (s : State) (f : AudSt → AudSt) : State := { s with aud := f s.aud }
def audPort (s : State) (n : Nat) : AudPort := s.aud.ports.getD n AudPort.init
def modPort (s : State) (n : Nat) (f : AudPort → AudPort) : State := s.modAud fun x => { x with ports := modNth x.ports n f }

def audRunning (s : State) (n : Nat) : Bool := s.flag Fl.AUD_P_STAT_running [n]

/-- Does a port have a record that enables it: TDM, AES3, and the SDI inputs for embedded audio (R92, R491). -/
def audPortOn (s : State) (n : Nat) : Bool :=
  if n < 8 then s.graph.portOn 0x0A n else if n < 12 then s.graph.portOn 0x0B (n - 8) else s.graph.portOn 8 (n - 12)

/-- AUD_Pn_FMT in effect (device-scoped). -/
def audFmt (s : State) (n : Nat) : Nat := s.devRd R.AUD_P_FMT [n]

/-- Rate code of a port: embedded audio is always at 48 kHz (R493). -/
def audCode (s : State) (n : Nat) : Nat := if 12 ≤ n then 2 else s.dev Fl.AUD_P_FMT_rate [n]

/-- Is a port an input (R491). -/
def audIn (s : State) (n : Nat) : Bool := if n < 8 then s.dev Fl.AUD_P_FMT_dir [n] = 1 else audElastic n

def audChannels (s : State) (n : Nat) : Nat := if n < 8 then s.dev Fl.AUD_P_FMT_slots_m1 [n] + 1 else if n < 12 then 2 else 16

/-- The ring in effect, if it lies in a partition (R496). -/
def audRing (s : State) (n : Nat) : Option (Nat × Nat) :=
  let base := s.devRd R.AUD_P_RING_LO [n] / 4096 * 4096 + 2 ^ 32 * s.devRd R.AUD_P_RING_HI [n]
  let size := s.dev Fl.AUD_P_SIZE_frames [n]
  let bytes := size * s.audChannels n * 4
  if s.graph.parts.any fun q => q.base ≤ base && base + bytes ≤ q.base + q.size then some (base, size) else none

def schedule (s : State) (n : Nat) : Nat := s.rd64 R.AUD_P_SCHED_LO R.AUD_P_SCHED_HI [n]

/-- A port stands still (R498). -/
def audHalt (s : State) (n : Nat) : State :=
  let s := (s.put Fl.AUD_P_STAT_running [n] 0).put Fl.AUD_P_STAT_fading [n] 0
  let s := if audElastic n then s else s.put Fl.AUD_P_STAT_locked [n] 0
  s.modPort n fun p => { AudPort.init with mutes := p.mutes, words := p.words, outs := p.outs }

/-- The fade of a port; STAT.fading shows a ramp or the silence after it. -/
def setFade (s : State) (n : Nat) (f : Fade) : State :=
  (s.modPort n fun p => { p with elastic := { p.elastic with fade := f } }).put Fl.AUD_P_STAT_fading [n] (b2n (f.mode ≠ 0))

/-- A ramp-out begins (R501). -/
def rampOut (s : State) (n cause : Nat) : State :=
  let f := (s.audPort n).elastic.fade
  let gain := if f.mode = 0 then rampLen (s.audCode n) else f.gain
  let s := s.modPort n fun p => { p with outs := p.outs + 1 }
  ((s.setFade n ⟨1, gain, cause⟩).inc Fl.AUD_P_FADES_count [n]).evLimited 0x0101 srcAUD n (s.rd R.DEV_EPOCH_IN) noFrame (cause + 2 ^ 32)

/-- A start goes on without port `n`, or with it started; once no port is left to start, go clears and EV_AUD_START is raised (R497). -/
def startLess (s : State) (n : Nat) (begun : Bool) : State :=
  match s.aud.starting with
  | none => s
  | some g =>
    let g := { g with left := g.left.filter fun k => k ≠ n
                      begun := if begun then g.begun ++ [n] else g.begun }
    if g.left.isEmpty then
      ((s.modAud fun x => { x with starting := none }).put Fl.AUD_START_CTRL_go [] 0).ev 0x0100 srcAUD 0
        (sumOf (fun n => 2 ^ n) g.begun + 2 ^ 16 * b2n g.busy + 2 ^ 17 * b2n g.late)
    else s.modAud fun x => { x with starting := some g }

/-- A port whose enable has been cleared stops after a ramp (R498), whose cause R504's table does not name (log 2). -/
def audStop (s : State) (n : Nat) : State :=
  let f := (s.audPort n).elastic.fade
  let s := s.modPort n fun p => { p with stopping := true }
  if f.mode = 2 then s.audHalt n
  else if f.mode = 1 then s
  else s.fresh.2.rampOut n (s.fresh.1 % 4)

/-- Device-scoped fields have taken effect (R498): a changed format stops a port at once; a port no longer enabled stops after a ramp. A
port that waits for its start time is left out of the start. -/
def audEpoch (s : State) : State :=
  (List.range 14).foldl (fun (t : State) n =>
    let same : Bool := t.audFmt n = (t.audPort n).fmt
    let on : Bool := t.dev Fl.AUD_P_CTRL_enable [n] = 1
    if (t.audPort n).armed then
      if same && on then t else (t.modPort n fun p => { p with armed := false }).startLess n false
    else if !t.audRunning n then t
    else if !same then t.audHalt n
    else if on || (t.audPort n).stopping then t
    else t.audStop n) s

/-- TB3 has stepped by `d`, in units of 2^-32 ns: S of every running port moves with it (R495). -/
def audShift (s : State) (d : Int) : State :=
  let s := s.modAud fun x => { x with edge := x.edge.map fun e => ((e : Int) + d).toNat }
  (List.range 14).foldl (fun (t : State) n =>
    if t.audRunning n then (t.modPort n fun p => { p with start := p.start + d }).put Fl.AUD_P_STAT_anchor_moved [n] 1 else t) s

end State

end Sys2Proof.Machine
end

