-- ==== Sys2Proof/Machine/Combos.lean ====
section
/-! DEFINITION. Combinations of RWS fields that are judged at the commit (R9, R83, R193, R229). -/

namespace Sys2Proof.Machine

/-- One judged combination: whether the sampled set is permitted, and the fields that keep their old values when it is not. -/
structure Combo where
  ok : Bool
  flds : List (Fld × List Nat)

/-- Fields of a broken combination keep the value they had in effect (R9). -/
def keepOld (old new : RegFile) (c : Combo) : RegFile :=
  if c.ok then new else c.flds.foldl (fun f d => f.put d.1 d.2 (old.get d.1 d.2)) new

end Sys2Proof.Machine
end

