-- ==== Sys2Proof/Machine/Judge.lean ====
section
/-! DEFINITION. The combinations of RWS fields that a sampled set is judged by at the commit (R9, R83, R193, R229, R233, R303,
R311, R321, R362, R373, R376, R492, R499, R503). The fields that a broken combination names keep their old values (log 27). -/

namespace Sys2Proof.Machine

/-- A stream's width with its optical-black columns makes whole container groups (the Meaning of SFE_Sn_GEOM.width). -/
def comboGeom (n : RegFile) (r : StreamRec) : Combo :=
  let w := n.get Fl.SFE_S_GEOM_width [r.id]
  let w := if w = 0 then r.width else w
  ⟨decide ((w + n.get Fl.SFE_S_OB_ob_cols [r.id]) % contSamples r.container = 0),
    [(Fl.SFE_S_GEOM_width, [r.id]), (Fl.SFE_S_OB_ob_cols, [r.id])]⟩

/-- The stripe load of a pipeline's RCT tiles (R193). -/
def stripeLoadOk (g : Graph) (p cfa : Nat) : Bool :=
  match g.streamOf p, (g.tilesOf p 1).length with
  | some r, t + 1 => (stripeWidth r.width (t + 1) + 2 * (cfaPeriod cfa + 1)) * r.exposures ≤ 16384
  | _, _ => true

def comboCfa (g : Graph) (n : RegFile) (p : Nat) : Combo :=
  ⟨stripeLoadOk g p (n.get Fl.RCT_STAGE_cfa [p]), [(Fl.RCT_STAGE_cfa, [p])]⟩

/-- k + phase ≤ n (R229). -/
def comboCycle (n : RegFile) (p : Nat) : Combo :=
  ⟨decide (n.get Fl.CAP_CYCLE_k_m1 [p] + n.get Fl.CAP_CYCLE_phase [p] ≤ n.get Fl.CAP_CYCLE_n_m1 [p]),
    [(Fl.CAP_CYCLE_n_m1, [p]), (Fl.CAP_CYCLE_k_m1, [p]), (Fl.CAP_CYCLE_phase, [p])]⟩

/-- The ring depth (R233, R83 rule 9). -/
def comboDepth (g : Graph) (n : RegFile) (p : Nat) : Combo :=
  ⟨g.depthOk p (n.get Fl.CAP_DEPTH_count [p]), [(Fl.CAP_DEPTH_count, [p])]⟩

/-- The recorder buffer lies inside its partition (R83 rule 9, R279). -/
def comboRecBuf (g : Graph) (n : RegFile) (p : Nat) : Combo :=
  let b := (g.edges.find? fun e => e.src = 0x203 + p * 16 && e.dst = 0x204 + p * 16 && e.via = 1).bind fun e => g.buffer? e.buffer
  ⟨match b with
    | some b => g.bufferFits b b.depth (n.get Fl.REC_P_BUF_unit_mib [p] * 0x100000)
    | none => true, [(Fl.REC_P_BUF_unit_mib, [p])]⟩

/-- The BUFFER record of a branch that writes through HBM. -/
def Graph.branchBuffer (g : Graph) (br : Nat) : Option BufferRec :=
  match g.branchEdge? (br / 8) (br % 8) with
  | some e => if e.via = 1 then g.buffer? e.buffer else none
  | none => none

/-- A branch's slots lie inside its partition (R83 rule 9, R324). -/
def comboStride (g : Graph) (n : RegFile) (br : Nat) : Combo :=
  ⟨match g.branchBuffer br with
    | some b => g.bufferFits b b.depth (n.get Fl.OUTF_STRIDE_value [br] * 4096)
    | none => true, [(Fl.OUTF_STRIDE_value, [br])]⟩

/-- A branch's format suits its kind and canvas (R321). -/
def comboFmt (g : Graph) (n : RegFile) (br : Nat) : Combo :=
  ⟨match g.branch? (br / 8) (br % 8) with
    | some r => branchFmtOk r (n.get Fl.OUTF_CTRL_fmt [br])
    | none => true, [(Fl.OUTF_CTRL_fmt, [br])]⟩

/-- Is a CFA map permitted with period `p` (R303). -/
def cfaMapOk (p map : Nat) : Bool :=
  p = 1 ||
    (let c (x y : Nat) : Nat := map / 4 ^ (y * p + x) % 4
     let r := List.range p
     (r.all fun y => r.all fun x => c x y ≠ 3) &&
     (r.all fun y => r.any fun x => c x y = 1) && (r.all fun x => r.any fun y => c x y = 1) &&
     (r.any fun y => r.any fun x => c x y = 0) && (r.any fun y => r.any fun x => c x y = 2))

/-- A CFA map suits the period (R303): the map is what is reserved. -/
def comboMap (n : RegFile) (p : Nat) : Combo :=
  ⟨cfaMapOk (cfaPeriod (n.get Fl.RCT_STAGE_cfa [p])) (n.get Fl.DVT_CFA_map [p]), [(Fl.DVT_CFA_map, [p])]⟩

/-- A binary32 pattern as a number that keeps its order. -/
def f32Key (v : Nat) : Int := if v < 2 ^ 31 then v else -((v - 2 ^ 31 : Nat) : Int)

/-- The shaper's limits for its mode (R311): lo is part of the rule in log mode alone. -/
def comboShaper (n : RegFile) (p l : Nat) : Combo :=
  let lo := f32Key (n.get Fl.DVT_L_SHLO_value [p, l])
  let hi := f32Key (n.get Fl.DVT_L_SHHI_value [p, l])
  let m := n.get Fl.DVT_L_CTRL_sh_mode [p, l]
  ⟨if m = 1 then decide (lo < hi) else if m = 2 then decide (0 < hi) else true,
    (Fl.DVT_L_CTRL_sh_mode, [p, l]) :: (Fl.DVT_L_SHHI_value, [p, l]) :: if m = 1 then [(Fl.DVT_L_SHLO_value, [p, l])] else []⟩

/-- Down-conversion of a 1080-line raster is reserved (R373): a rule on `down`, not on the raster. -/
def comboDown (n : RegFile) (o : Nat) : Combo :=
  ⟨match rasterOf (n.get Fl.DISP_CTRL_raster []) with
    | some r => n.get Fl.DISP_O_CTRL_down [o] = 0 || r.h ≠ 1080
    | none => true, [(Fl.DISP_O_CTRL_down, [o])]⟩

/-- A kind 1 layer names a branch that writes through an HBM buffer (R362). -/
def comboLayer (g : Graph) (n : RegFile) (l : Nat) : Combo :=
  ⟨n.get Fl.DISP_L_CTRL_kind [l] ≠ 1 || (g.branchBuffer (n.get Fl.DISP_L_CTRL_index [l])).isSome,
    [(Fl.DISP_L_CTRL_kind, [l]), (Fl.DISP_L_CTRL_index, [l])]⟩

/-- At most one layer names the decode core (R362): a rule on the kinds of the layers that do. -/
def comboDecode (n : RegFile) : Combo :=
  let two := (List.range 4).filter fun l => n.get Fl.DISP_L_CTRL_kind [l] = 2
  ⟨two.length ≤ 1, two.map fun l => (Fl.DISP_L_CTRL_kind, [l])⟩

/-- A DSI window lies inside the raster, or inside its down-conversion (R376): a rule on the window, not on the raster. -/
def comboWindow (n : RegFile) (d : Nat) : Combo :=
  ⟨match rasterOf (n.get Fl.DISP_CTRL_raster []) with
    | some r =>
      let k := if n.get Fl.DISP_D_CTRL_down [d] = 1 then 2 else 1
      n.get Fl.DISP_D_WIN_x_or_w [d] + n.get Fl.DISP_D_SIZE_x_or_w [d] ≤ r.w / k &&
        n.get Fl.DISP_D_WIN_y_or_h [d] + n.get Fl.DISP_D_SIZE_y_or_h [d] ≤ r.h / k
    | none => true,
    [(Fl.DISP_D_WIN_x_or_w, [d]), (Fl.DISP_D_WIN_y_or_h, [d]), (Fl.DISP_D_SIZE_x_or_w, [d]), (Fl.DISP_D_SIZE_y_or_h, [d]),
      (Fl.DISP_D_CTRL_down, [d])]⟩

/-- Bit rate and CPB size of 0 are reserved under CBR and VBR (the Meaning of VCE_Cc_RATE). -/
def comboRate (n : RegFile) (c : Nat) : Combo :=
  ⟨n.get Fl.VCE_CTRL_rc [c] = 0 || (n.get Fl.VCE_RATE_value [c] ≠ 0 && n.get Fl.VCE_CPB_value [c] ≠ 0),
    [(Fl.VCE_CTRL_rc, [c]), (Fl.VCE_RATE_value, [c]), (Fl.VCE_CPB_value, [c])]⟩

/-- A TDM format divides its master clock (R492). -/
def comboTdm (n : RegFile) (t : Nat) : Combo :=
  let rate := n.get Fl.AUD_P_FMT_rate [t]
  let k := audRate rate * (n.get Fl.AUD_P_FMT_slots_m1 [t] + 1) * audWidth (n.get Fl.AUD_P_FMT_width [t])
  ⟨audMaster rate % k = 0, [(Fl.AUD_P_FMT_rate, [t]), (Fl.AUD_P_FMT_slots_m1, [t]), (Fl.AUD_P_FMT_width, [t])]⟩

/-- An audio ring holds at least twice Nr = fs × 2 ms frames (R499, the Meaning of AUD_Pn_SIZE). -/
def comboRing (n : RegFile) (t : Nat) : Combo :=
  ⟨audRate (n.get Fl.AUD_P_FMT_rate [t]) ≤ n.get Fl.AUD_P_SIZE_frames [t] * 250,
    [(Fl.AUD_P_FMT_rate, [t]), (Fl.AUD_P_SIZE_frames, [t])]⟩

/-- An embedded group's source is a port at 48 kHz (R503). -/
def comboEmbed (n : RegFile) (k : Nat) : Combo :=
  let t := n.get Fl.AUD_EMB_port [k]
  ⟨n.get Fl.AUD_EMB_en [k] = 0 || (t < 14 && n.get Fl.AUD_P_FMT_rate [t] = 2),
    (Fl.AUD_EMB_en, [k]) :: (Fl.AUD_EMB_port, [k]) :: if t < 14 then [(Fl.AUD_P_FMT_rate, [t])] else []⟩

/-- Every combination, in the order in which they are judged. -/
def combosOf (g : Graph) : List (RegFile → Combo) :=
  (g.streams.map fun r n => comboGeom n r) ++
  (List.range 8).flatMap (fun p => [fun n => comboCfa g n p, fun n => comboMap n p, fun n => comboCycle n p,
    fun n => comboDepth g n p, fun n => comboRecBuf g n p] ++ (List.range 8).map fun l n => comboShaper n p l) ++
  (List.range 64).flatMap (fun b => [fun n => comboStride g n b, fun n => comboFmt g n b]) ++
  (List.range 2).map (fun d n => comboWindow n d) ++ (List.range 8).map (fun o n => comboDown n o) ++
  (List.range 4).map (fun l n => comboLayer g n l) ++ [fun n => comboDecode n] ++
  (List.range 2).map (fun c n => comboRate n c) ++
  (List.range 8).map (fun k n => comboEmbed n k) ++ (List.range 8).map (fun t n => comboTdm n t) ++
  (List.range 14).map (fun t n => comboRing n t)

/-- The sampled set in which every broken combination keeps its old values (R9): each is judged on the set as sampled. -/
def judgeSet (g : Graph) (old new : RegFile) : RegFile := (combosOf g).foldl (fun n c => keepOld old n (c new)) new

end Sys2Proof.Machine
end

