-- ==== Sys2Proof/Machine/Pulse.lean ====
section
/-! DEFINITION. Edge generators and the scheduled-edge path: shutter generators (R187 to R189) and pulse schedulers (R466),
and how a line is driven (R465, R467). -/

namespace Sys2Proof.Machine

/-- Settings of a generator, in the order they are kept in `Gen.cfg`. -/
structure GenCfg where
  mode : Nat
  /-- 0 device time, 1 to 4 TB0 to TB3 -/
  base : Nat
  /-- period in 1/65,536 ns -/
  period : Nat
  start : Nat
  width : Nat
  line : Nat
  activeLow : Bool

def GenCfg.toList (c : GenCfg) : List Nat := [c.mode, c.base, c.period, c.start, c.width, c.line, b2n c.activeLow]

/-- The pulse that a generator drives once an edge starts one that ends at `at_`; a pulse still running completes its own
width first (R467). -/
def Gen.pulseOn (g : Gen) (at_ line : Nat) (activeLow : Bool) (width : Nat) : Option (Nat × Nat × Bool) :=
  if width = 0 then g.on else some (max at_ ((g.on.map (·.1)).getD 0), line, activeLow)

namespace State

/-- The settings of shutter generator `g` in effect (device-scoped, R187). -/
def sgCfg (s : State) (g : Nat) : GenCfg :=
  ⟨s.dev Fl.SFE_SG_CTRL_mode [g], if s.dev Fl.SFE_SG_CTRL_base [g] = 0 then 0 else 4,
    s.devRd R.SFE_SG_PERIOD [g] * 65536 + s.dev Fl.SFE_SG_PFRAC_frac [g],
    s.devRd R.SFE_SG_START_LO [g] + 2 ^ 32 * s.devRd R.SFE_SG_START_HI [g], s.devRd R.SFE_SG_WIDTH [g],
    s.dev Fl.SFE_SG_CTRL_line [g], s.dev Fl.SFE_SG_CTRL_polarity [g] = 1⟩

/-- The settings of pulse scheduler `k` in effect (device-scoped, R466). -/
def psCfg (s : State) (k : Nat) : GenCfg :=
  ⟨s.dev Fl.TIME_PS_CTRL_mode [k], s.dev Fl.TIME_PS_CTRL_base [k],
    s.devRd R.TIME_PS_PERIOD [k] * 65536 + s.dev Fl.TIME_PS_PFRAC_value [k],
    s.devRd R.TIME_PS_START_LO [k] + 2 ^ 32 * s.devRd R.TIME_PS_START_HI [k], s.devRd R.TIME_PS_WIDTH [k], 0,
    s.dev Fl.TIME_PS_CTRL_polarity [k] = 1⟩

/-- Time of edge `k` in units of 2^-32 ns of the base (R187): the fraction accumulates. -/
def edgeAt (c : GenCfg) (k : Nat) : Nat := c.start * 2 ^ 32 + k * c.period * 2 ^ 16

/-- The first edge under settings that take effect now: the first at or after now plus 10 µs; a single pulse whose START
is more than 10 µs past does not fall (R187). -/
def firstEdge (s : State) (c : GenCfg) : Option Nat :=
  let now := s.genNow c.base
  if c.mode = 1 then
    if c.period = 0 then none
    else
      let due := now + 10000 * 2 ^ 32
      some (if due ≤ c.start * 2 ^ 32 then 0 else ceilDiv (due - c.start * 2 ^ 32) (c.period * 2 ^ 16))
  else if c.mode = 2 then (if c.start * 2 ^ 32 + 10000 * 2 ^ 32 < now then none else some 0)
  else none

/-- A generator whose settings changed at the epoch instant starts anew; one whose settings did not goes on. -/
def genReload (s : State) (c : GenCfg) (g : Gen) : Gen :=
  if g.cfg = c.toList then g else { g with cfg := c.toList, next := s.firstEdge c }

/-- Move on to the next edge of a generator, where it lies ahead (log 35). -/
def reachEdge (s : State) (c : GenCfg) (g : Gen) : State :=
  match g.next with
  | some k => s.reach c.base (edgeAt c k) 32
  | none => s

/-- Width of a pulse in ns: clipped to the period minus 8 ns (R188). -/
def pulseWidth (c : GenCfg) : Nat := if c.mode = 1 then min c.width (c.period / 65536 - 8) else c.width

/-- The latest edge due by now, and how many before it are skipped (R467); `none` while the next edge is not yet due. -/
def dueEdge (s : State) (c : GenCfg) (g : Gen) : Option (Nat × Nat) :=
  match g.next with
  | none => none
  | some k =>
    let now := s.genNow c.base
    if now < edgeAt c k then none
    else if c.mode = 1 then
      let last := (now - c.start * 2 ^ 32) / (c.period * 2 ^ 16)
      some (max k last, max k last - k)
    else some (k, 0)

/-- Can a line be driven: its bank's PORT record enables its output (R92, R465). -/
def lineOut (s : State) (l : Nat) : Bool :=
  match s.graph.port? 0x11 (l / 8) with
  | some p => p.enable && bit p.param (l % 8)
  | none => false

/-- A scheduled edge of `src` reaches line `l`, or is counted as foreign (R465). -/
def driveLine (s : State) (l src : Nat) (level : Bool) (time : Nat) : State :=
  if s.get Fl.TIME_L_CTRL_src [l] = src then
    if s.lineOut l then
      (s.put Fl.LSP_GPIO_IN_lines [l / 8] (putBits (s.get Fl.LSP_GPIO_IN_lines [l / 8]) (l % 8) (l % 8) (b2n level))).emit
        (.line l level time)
    else s
  else s.inc Fl.TIME_L_FOREIGN_count [l]

/-- When an edge for time t shows at the pin: t + TIME_PIN_OUT, a signed value in 1/64 ns (R467). -/
def pinTime (s : State) (t : Nat) : Nat := ((t : Int) + signed 32 (s.rd R.TIME_PIN_OUT) / 64).toNat

def modSg (s : State) (g : Nat) (f : Gen → Gen) : State := { s with sgs := modNth s.sgs g f }
def sg (s : State) (g : Nat) : Gen := s.sgs.getD g Gen.init

/-- Edges removed unmatched (R189, R190). -/
def sgMissed (s : State) (g n lastTime : Nat) : State :=
  if n = 0 then s
  else (s.inc Fl.SFE_SG_CNT_missed [g] n).evLimited 0x0052 srcSFE g (s.rd R.DEV_EPOCH_IN) noFrame
    (n % 2 ^ 16 + 2 ^ 32 * (lastTime % 2 ^ 32))

/-- An edge is kept for the check; a ninth removes the oldest (R189). -/
def sgKeep (s : State) (g t w : Nat) : State :=
  if s.dev Fl.SFE_SG_CTRL_check [g] = 0 then s
  else
    let k := (s.sg g).kept ++ [(t, w)]
    if k.length ≤ 8 then s.modSg g fun x => { x with kept := k }
    else (s.modSg g fun x => { x with kept := k.drop 1 }).sgMissed g 1 (k.headD (0, 0)).1

/-- The boundary `t` of a stream meets a generator that checks it (R189): the matched edge if any, and whether the frame
is late. -/
def sgMatch (s : State) (g t : Nat) : State × Option (Nat × Nat) × Bool :=
  let lat := s.devRd R.SFE_SG_LAT [g]
  let tol := s.devRd R.SFE_SG_TOL [g]
  let kept := (s.sg g).kept
  let old := kept.filter fun e => e.1 + lat + tol < t
  let rest := kept.filter fun e => t ≤ e.1 + lat + tol
  let s := (s.modSg g fun x => { x with kept := rest }).sgMissed g old.length ((old.getLast?.getD (0, 0)).1)
  match rest with
  | e :: more =>
    if (max t (e.1 + lat)) - (min t (e.1 + lat)) ≤ tol then (s.modSg g fun x => { x with kept := more }, some e, false)
    else (s.inc Fl.SFE_SG_CNT_late [g], none, true)
  | [] => (s.inc Fl.SFE_SG_CNT_late [g], none, true)

/-- Every generator that checks a stream sees its boundary, in ascending number. -/
def sgBoundary (s : State) (stream t : Nat) : State × Option (Nat × Nat) × Bool :=
  (List.range 8).foldl (fun (a : State × Option (Nat × Nat) × Bool) g =>
    if a.1.dev Fl.SFE_SG_CTRL_check [g] = 1 ∧ a.1.dev Fl.SFE_SG_CTRL_stream [g] = stream then
      let r := a.1.sgMatch g t
      (r.1, a.2.1.orElse fun _ => r.2.1, a.2.2 || r.2.2)
    else a) (s, none, false)

/-- All generators see new settings at the epoch instant (R187, R466). -/
def genEpoch (s : State) : State :=
  let s := (List.range 8).foldl (fun (t : State) g => t.modSg g fun x => t.genReload (t.sgCfg g) x) s
  { s with pss := s.pss.mapIdx fun k x => s.genReload (s.psCfg k) x }

end State

/-- SG_EDGE (R187, R188, R467): the edge that is due starts its pulse; its time is recorded in device time. -/
def execSgEdge (g : Nat) (s : State) : Res :=
  if g < 8 then
    let c := s.sgCfg g
    let s := s.reachEdge c (s.sg g)
    match s.dueEdge c (s.sg g) with
    | none => .next s
    | some (k, skipped) =>
      let s := s.modSg g fun x => { x with
        next := if c.mode = 1 then some (k + 1) else none
        on := x.pulseOn (s.time.clk + State.pulseWidth c) c.line c.activeLow (State.pulseWidth c) }
      let s := if skipped = 0 then s else
        s.evLimited 0x00E8 srcTIME c.line (s.rd R.DEV_EPOCH_IN) noFrame (1 + g + 2 ^ 32 * skipped)
      if State.pulseWidth c = 0 then .next s
      else
        let t := s.dt
        .next ((s.driveLine c.line (1 + g) (!c.activeLow) (s.pinTime t)).sgKeep g t (State.pulseWidth c))
  else .next s

/-- SG_PULSE_END (R188): a pulse that has started ends when its width has passed; the clock moves on to that instant (log 35). -/
def execSgPulseEnd (g : Nat) (s : State) : Res :=
  if g < 8 then
    match (s.sg g).on with
    | some (at_, line, activeLow) =>
      let s := s.reachClk at_
      .next ((s.modSg g fun x => { x with on := none }).driveLine line (1 + g) activeLow (s.pinTime s.dt))
    | none => .next s
  else .next s

end Sys2Proof.Machine
end

