-- ==== Sys2Proof/Machine/Fmt.lean ====
section
/-! DEFINITION. Packed picture formats (R321 to R324): codes, layouts, and the branch slot descriptor. Shared by OUTF, the
decode core, DISP and the SDI inputs. -/

namespace Sys2Proof.Machine

/-- A vector of three values. -/
structure Rgb where
  r : F32
  g : F32
  b : F32
  deriving DecidableEq, Repr

def Rgb.map (f : F32 → F32) (c : Rgb) : Rgb := ⟨f c.r, f c.g, f c.b⟩
def Rgb.zip (f : F32 → F32 → F32) (a b : Rgb) : Rgb := ⟨f a.r b.r, f a.g b.g, f a.b b.b⟩

/-- Formats of R323 by their code. -/
def fmtPK16 : Nat := 0
def fmtPK24 : Nat := 1
def fmtPK32A : Nat := 2
def fmtPK32X : Nat := 3
def fmtYC420P8 : Nat := 4
def fmtYC420P10 : Nat := 5
def fmtYC422P10 : Nat := 6
def fmtPL16F : Nat := 8
def fmtPL8U : Nat := 9
def fmtYCP16 : Nat := 11

def fmtIsYc (f : Nat) : Bool := 4 ≤ f && f ≤ 6

/-- A value rounded to a code within lo .. hi (R322): a NaN becomes 0, and says so. -/
def quant (lo hi : Int) (x : F32) : Nat × Bool := if x.isNan then (0, true) else ((x.toIntClamp lo hi).toNat, false)

/-- The code of a luma, R, G or B value at n bits (R322). -/
def lumaCode (narrow : Bool) (n : Nat) (v : F32) : Nat × Bool :=
  if narrow then
    quant (if n = 8 then 1 else 4) (if n = 8 then 254 else 1019)
      (((F32.ofNat 16).add ((F32.ofNat 219).mul v)).mul (F32.ofNat (2 ^ (n - 8))))
  else quant 0 (2 ^ n - 1 : Nat) (v.mul (F32.ofNat (2 ^ n - 1)))

/-- The code of a chroma value at n bits (R322). -/
def chromaCode (narrow : Bool) (n : Nat) (c : F32) : Nat × Bool :=
  if narrow then
    quant (if n = 8 then 1 else 4) (if n = 8 then 254 else 1019)
      (((F32.ofNat 128).add ((F32.ofNat 224).mul c)).mul (F32.ofNat (2 ^ (n - 8))))
  else quant 0 (2 ^ n - 1 : Nat) ((F32.ofNat (2 ^ (n - 1))).add (c.mul (F32.ofNat (2 ^ n - 1))))

/-- Kr and Kb (R322). -/
def lumaK (bt2020 : Bool) : F32 × F32 :=
  if bt2020 then (F32.dec 2627 4, F32.dec 593 4) else (F32.dec 2126 4, F32.dec 722 4)

/-- Y' of encoded values (R322). -/
def lumaOf (bt2020 : Bool) (c : Rgb) : F32 :=
  let k := lumaK bt2020
  (((k.1).mul c.r).add ((((F32.ofNat 1).sub k.1).sub k.2).mul c.g)).add ((k.2).mul c.b)

/-- Y', Cb and Cr of encoded values (R322). -/
def toYc (bt2020 : Bool) (c : Rgb) : Rgb :=
  let k := lumaK bt2020
  let y := lumaOf bt2020 c
  let two := F32.ofNat 2
  ⟨y, (c.b.sub y).div (two.sub (two.mul k.2)), (c.r.sub y).div (two.sub (two.mul k.1))⟩

/-- R, G and B of Y', Cb and Cr: the equations of R322 inverted (R365). -/
def ofYc (bt2020 : Bool) (v : Rgb) : Rgb :=
  let k := lumaK bt2020
  let two := F32.ofNat 2
  let r := v.r.add (v.b.mul (two.sub (two.mul k.1)))
  let b := v.r.add (v.g.mul (two.sub (two.mul k.2)))
  ⟨r, ((v.r.sub ((k.1).mul r)).sub ((k.2).mul b)).div (((F32.ofNat 1).sub k.1).sub k.2), b⟩

/-- Co-sited 4:2:2 chroma at even column x of a line (R322). -/
def chroma422 (w : Nat) (c : Nat → F32) (x : Nat) : F32 :=
  (((c (x - 1)).add ((F32.ofNat 2).mul (c x))).add (c (min (x + 1) (w - 1)))).div (F32.ofNat 4)

/-- 10-bit samples, three in each 32-bit word (R323). -/
def pack10 (l : List Nat) : Bytes :=
  (List.range (ceilDiv l.length 3)).flatMap fun i =>
    leBytes 4 (l.getD (3 * i) 0 + 2 ^ 10 * l.getD (3 * i + 1) 0 + 2 ^ 20 * l.getD (3 * i + 2) 0)

/-- Samples of a YC format's line. -/
def packYc (fmt : Nat) (l : List Nat) : Bytes := if fmt = fmtYC420P8 then l.map (BitVec.ofNat 8) else pack10 l

/-- Bytes of a line of a format's first plane. -/
def lineBytes (fmt w : Nat) : Nat :=
  match fmt with
  | 0 => 2 * w | 1 => 3 * w | 2 => 4 * w | 3 => 4 * w | 4 => w | 5 => ceilDiv w 3 * 4 | 6 => ceilDiv w 3 * 4
  | 8 => 2 * w | 11 => 2 * w | _ => w

/-- Lines of all planes of a frame, tensors apart. -/
def frameLines (fmt h : Nat) : Nat := if fmt = 4 || fmt = 5 then h + h / 2 else if fmt = 6 then 2 * h else h

/-- A pitch in effect (R324): 0 stands for the line bytes rounded up to a multiple of 256. -/
def pitchOf (pitch fmt w : Nat) : Nat := if pitch = 0 then roundUp (lineBytes fmt w) 256 else pitch

/-- A packed picture: lines of the first and the second plane, and how many NaN values were packed as 0. -/
structure Packed where
  first : List Bytes
  second : List Bytes
  nans : Nat

/-- Pack a canvas in a packed or YC format (R322, R323). -/
def packFrame (fmt : Nat) (narrow bt2020 : Bool) (alpha w h : Nat) (v : Nat → Nat → Rgb) : Packed :=
  let cnt (l : List (Nat × Bool)) : Nat := l.countP fun q => q.2
  if fmtIsYc fmt then
    let n := if fmt = fmtYC420P8 then 8 else 10
    let yc := (Array.range (w * h)).map fun i => toYc bt2020 (v (i % w) (i / w))
    let at_ (x y : Nat) : Rgb := yc.getD (y * w + x) ⟨.zero, .zero, .zero⟩
    let ys := (List.range h).map fun y => (List.range w).map fun x => lumaCode narrow n (at_ x y).r
    let ch (x y : Nat) : F32 × F32 := (chroma422 w (fun i => (at_ i y).g) x, chroma422 w (fun i => (at_ i y).b) x)
    let half (a b : F32) : F32 := (a.add b).div (F32.ofNat 2)
    let cs := if fmt = fmtYC422P10 then
        (List.range h).map fun y => (List.range (w / 2)).flatMap fun i =>
          let c := ch (2 * i) y
          [chromaCode narrow n c.1, chromaCode narrow n c.2]
      else
        (List.range (h / 2)).map fun j => (List.range (w / 2)).flatMap fun i =>
          let a := ch (2 * i) (2 * j)
          let b := ch (2 * i) (2 * j + 1)
          [chromaCode narrow n (half a.1 b.1), chromaCode narrow n (half a.2 b.2)]
    ⟨ys.map fun l => packYc fmt (l.map fun q => q.1), cs.map fun l => packYc fmt (l.map fun q => q.1),
      sumOf cnt ys + sumOf cnt cs⟩
  else
    let px (x y : Nat) : Bytes × Nat :=
      let c := v x y
      if fmt = fmtPK16 then
        let r := lumaCode false 5 c.r
        let g := lumaCode false 6 c.g
        let b := lumaCode false 5 c.b
        (leBytes 2 (r.1 * 2048 + g.1 * 32 + b.1), cnt [r, g, b])
      else if fmt = fmtPK32X then
        let r := lumaCode narrow 10 c.r
        let g := lumaCode narrow 10 c.g
        let b := lumaCode narrow 10 c.b
        (leBytes 4 (alpha / 64 * 2 ^ 30 + r.1 * 2 ^ 20 + g.1 * 2 ^ 10 + b.1), cnt [r, g, b])
      else
        let r := lumaCode narrow 8 c.r
        let g := lumaCode narrow 8 c.g
        let b := lumaCode narrow 8 c.b
        (leBytes (if fmt = fmtPK24 then 3 else 4) (b.1 + 2 ^ 8 * g.1 + 2 ^ 16 * r.1 + 2 ^ 24 * alpha), cnt [r, g, b])
    let ls := (List.range h).map fun y => (List.range w).map fun x => px x y
    ⟨ls.map fun l => l.flatMap fun q => q.1, [], sumOf (fun l => sumOf (fun q => q.2) l) ls⟩

/-- Channels of a tensor (R326). -/
def tensorChans (mono bgr bt2020 : Bool) (c : Rgb) : List F32 :=
  if mono then [lumaOf bt2020 c] else if bgr then [c.b, c.g, c.r] else [c.r, c.g, c.b]

/-- One tensor element, and whether it was a NaN (R322, R326). -/
def tensorElem (half : Bool) (t : F32) : Bytes × Bool :=
  if half then (leBytes 2 t.toHalf, t.isNan)
  else
    let q := quant 0 255 t
    (leBytes 1 q.1, q.2)

/-- The branch slot descriptor's first 64 bytes (R324). -/
structure SlotDesc where
  seq : Nat
  fid : Nat
  epoch : Nat
  fsw : Nat
  time : Nat
  fmt : Nat
  pipe : Nat
  branch : Nat
  frames : Nat
  w : Nat
  h : Nat
  pitch : Nat
  second : Nat
  primaries : Nat
  transfer : Nat
  matrix : Nat
  narrow : Nat
  deriving DecidableEq, Repr

def SlotDesc.encode (d : SlotDesc) : Bytes :=
  let b := leBytes 8 d.fid ++ leBytes 4 d.epoch ++ leBytes 4 d.fsw ++ leBytes 8 d.time ++ leBytes 1 d.fmt ++ leBytes 1 d.pipe
    ++ leBytes 1 d.branch ++ leBytes 1 d.frames ++ leBytes 2 d.w ++ leBytes 2 d.h ++ leBytes 4 d.pitch ++ leBytes 4 d.second
    ++ leBytes 1 d.primaries ++ leBytes 1 d.transfer ++ leBytes 1 d.matrix ++ leBytes 1 d.narrow ++ List.replicate 8 0
  leBytes 8 d.seq ++ b ++ leBytes 4 (crc32c b)

end Sys2Proof.Machine
end

