-- ==== Sys2Proof/Machine/Net.lean ====
section
/-! DEFINITION. Ethernet, IP and UDP framing (R351, R558): frames are kept without preamble and FCS. -/

namespace Sys2Proof.Machine

/-- The internet checksum of a byte string. -/
def inetSum : Bytes → Nat
  | a :: b :: t => a.toNat * 256 + b.toNat + inetSum t
  | [a] => a.toNat * 256
  | [] => 0

def inetFold (v : Nat) : Nat :=
  let f (x : Nat) : Nat := x / 65536 + x % 65536
  65535 - f (f (f v))

/-- How a stream of datagrams is addressed (R351). -/
structure NetDst where
  port : Nat
  dmac : Nat
  ipv6 : Bool
  /-- source and destination addresses in network byte order -/
  sip : Bytes
  dip : Bytes
  sport : Nat
  dport : Nat
  dscp : Nat
  hop : Nat
  vlan : Option Nat
  deriving DecidableEq, Repr

/-- Bytes of the IP header. -/
def NetDst.ipHdr (d : NetDst) : Nat := if d.ipv6 then 40 else 20

/-- The UDP datagram with its checksum. -/
def udpDatagram (d : NetDst) (body : Bytes) : Bytes :=
  let len := 8 + body.length
  let pseudo := inetSum (d.sip ++ d.dip) + 17 + len
  let head (c : Nat) : Bytes := beBytes 2 d.sport ++ beBytes 2 d.dport ++ beBytes 2 len ++ beBytes 2 c
  let c := inetFold (pseudo + inetSum (head 0 ++ body))
  head (if c = 0 then 65535 else c) ++ body

/-- The Ethernet frame of a UDP datagram (R351): DF set in IPv4, hop 0 meaning 64. -/
def udpFrame (d : NetDst) (body : Bytes) : Bytes :=
  let udp := udpDatagram d body
  let hop := if d.hop = 0 then 64 else d.hop
  let ip := if d.ipv6 then
      beBytes 4 (6 * 2 ^ 28 + d.dscp * 2 ^ 22) ++ beBytes 2 udp.length ++ beBytes 1 17 ++ beBytes 1 hop ++ d.sip ++ d.dip
    else
      let a := beBytes 1 0x45 ++ beBytes 1 (d.dscp * 4) ++ beBytes 2 (20 + udp.length) ++ beBytes 2 0 ++ beBytes 2 0x4000
        ++ beBytes 1 hop ++ beBytes 1 17
      let b := d.sip ++ d.dip
      a ++ beBytes 2 (inetFold (inetSum (a ++ b))) ++ b
  beBytes 6 d.dmac ++ beBytes 6 (Config.portMac d.port) ++
    (match d.vlan with | some t => beBytes 2 0x8100 ++ beBytes 2 t | none => []) ++
    beBytes 2 (if d.ipv6 then 0x86DD else 0x0800) ++ ip ++ udp

/-- An address kept in four register words, word 0 first, each in network byte order: IPv4 uses word 0 only. -/
def netAddr (s : State) (r : Reg) (ix : List Nat) (ipv6 : Bool) : Bytes :=
  (List.range (if ipv6 then 4 else 1)).flatMap fun j => leBytes 4 (s.rd r (ix ++ [j]))

end Sys2Proof.Machine
end

