-- ==== Sys2Proof/Machine/SkyBase.lean ====
section
/-! DEFINITION. The sky agent's base: messages, the relay tree, and how an operation ends (R469 to R484). -/

namespace Sys2Proof.Machine

/-! ### Addresses (R469, R470) -/

/-- The modified EUI-64 link-local address of a MAC address. -/
def linkLocal (mac : Nat) : Nat :=
  0xFE80 * 2 ^ 112 + ((mac / 2 ^ 24 % 2 ^ 24) ^^^ 0x020000) * 2 ^ 40 + 0xFFFE * 2 ^ 24 + mac % 2 ^ 24

/-- The MAC address in a link-local address: what neighbour discovery on the link gives (R469; PRESUMED, log 20). -/
def linkMac (a : Nat) : Nat := ((a / 2 ^ 40 % 2 ^ 24) ^^^ 0x020000) * 2 ^ 24 + a % 2 ^ 24

/-- The all-sky group and the relay group of node `k`. -/
def skyGroup : Nat := 0xFF02 * 2 ^ 112 + 0x53590001
def relayGroup (k : Nat) : Nat := 0xFF02 * 2 ^ 112 + 0x535900020000 + k

/-! ### The relay tree (R478) -/

/-- The least d with 32^d ≥ n, for n up to 32^4. -/
def log32 (n : Nat) : Nat := ((List.range 4).find? fun d => decide (n ≤ 32 ^ d)).getD 4

def skyParent (i : Nat) : Nat := i / 32

/-- Children of node `i` in a sky of `n`. -/
def skyChildren (n i : Nat) : List Nat := ((List.range 32).map fun k => 32 * i + k).filter fun j => j ≠ 0 && j < n

namespace State

def modSky (s : State) (f : SkySt → SkySt) : State := { s with sky := f s.sky }

def serial (s : State) : Nat := s.rd64 R.DEV_SERIAL_LO R.DEV_SERIAL_HI

/-- The agent's state: 0 off, 1 forming, 2 formed, 3 wait. -/
def skyState (s : State) : Nat := s.get Fl.SKY_STAT_state
def skyFormed (s : State) : Bool := s.skyState = 2
def skyRoot (s : State) : Bool := s.flag Fl.SKY_STAT_root
def skyId (s : State) : Nat := s.get Fl.SKY_STAT_node_id
def skyMembers (s : State) : Nat := s.get Fl.SKY_TREE_members
def skyGen (s : State) : Nat := s.rd R.SKY_GEN
def skyEpoch (s : State) : Nat := s.rd R.SKY_EPOCH
def rootSerial (s : State) : Nat := s.rd64 R.SKY_ROOT_LO R.SKY_ROOT_HI
def skyKids (s : State) : List Nat := skyChildren s.skyMembers s.skyId

/-- D, and t_hop and t_margin in ns (R479, R480). -/
def skyDepth (s : State) : Nat := log32 s.skyMembers
def tHop (s : State) : Nat := s.get Fl.SKY_TIMING_thop_us * 1000
def tMargin (s : State) : Nat := s.get Fl.SKY_TIMING_margin_us * 1000

/-- The node's priority (R475). -/
def skyPrio (s : State) : Nat :=
  if s.flag Fl.SKY_CTRL_prio_src then s.get Fl.SKY_CTRL_priority
  else match s.get Fl.DEV_STRAP_skyrole with | 2 => 128 | 3 => 192 | _ => 0

/-- A path that the node uses: enabled, with its port (R469). -/
def skyPath (s : State) (p : Nat) : Bool :=
  s.flag (if p = 0 then Fl.SKY_CTRL_path_a else Fl.SKY_CTRL_path_b) && s.graph.portOn 6 p

/-- A message for one path, sent at device time `t` (R472). -/
def skyBytes (s : State) (typ path t : Nat) (body : Bytes) : Bytes :=
  let slot := s.get Fl.SKY_CFG_key_slot
  let node := if s.flag Fl.SKY_STAT_assigned then s.skyId else 0xFFFF
  let b := [0x49, 0x4D, 0x53, 0x4B] ++ leBytes 1 1 ++ leBytes 1 typ ++ leBytes 2 body.length ++ leBytes 8 s.serial ++ leBytes 2 node
    ++ leBytes 1 path ++ leBytes 1 slot ++ leBytes 4 s.skyGen ++ leBytes 4 s.sky.seq ++ leBytes 4 0 ++ leBytes 8 t
    ++ leBytes 8 s.rootSerial ++ body
  b ++ (Config.hmacSha256 (s.sky.keys.getD slot []) b).toList

/-- This node's address on a path: path A is 10GBASE-R port 0, path B port 1 (R469). -/
def skyAddr (p : Nat) : Nat := linkLocal (Config.portMac (4 + p))

/-- The parent's link-local address on a path, as its ANNOUNCE named it (R470). -/
def parentAddr (s : State) (p : Nat) : Option Nat :=
  (s.sky.peers.reverse.find? fun q => q.node = some (skyParent s.skyId)).bind fun q => (q.addrs.getD p none)

/-- Where a message goes on a path: `dst` 0 the all-sky group, 1 this node's relay group, 2 its parent (R470). -/
def skyDest (s : State) (dst p : Nat) : Option Nat :=
  if dst = 0 then some skyGroup else if dst = 1 then some (relayGroup s.skyId) else s.parentAddr p

/-- The datagram of a message (R469): a group's MAC address is that of RFC 2464 (PRESUMED, log 20). -/
def skyFrame (s : State) (p to_ : Nat) (b : Bytes) : Bytes :=
  let port := s.get Fl.SKY_CFG_udp_port
  let mac := if to_ / 2 ^ 120 = 0xFF then 0x3333 * 2 ^ 32 + to_ % 2 ^ 32 else linkMac to_
  udpFrame ⟨4 + p, mac, true, beBytes 16 (skyAddr p), beBytes 16 to_, port, port, 0, 255, none⟩ b

/-- Send a message on every path in use, under one sequence number (R471); `t` is its send time. -/
def skySendAt (s : State) (typ dst t : Nat) (body : Bytes) : State :=
  let s := [0, 1].foldl (fun (u : State) p =>
    match if s.skyPath p then s.skyDest dst p else none with
    | some a => u.emit (.eth (4 + p) (u.skyFrame p a (u.skyBytes typ p t body)))
    | none => u) s
  s.modSky fun x => { x with seq := (x.seq + 1) % 2 ^ 32 }

def skySend (s : State) (typ dst : Nat) (body : Bytes) : State := s.skySendAt typ dst s.dt body

/-- Send down the tree, where the node has children. -/
def skyDown (s : State) (typ : Nat) (body : Bytes) : State := if s.skyKids.isEmpty then s else s.skySend typ 1 body

/-- Send up the tree. -/
def skyUp (s : State) (typ : Nat) (body : Bytes) : State := if s.skyRoot then s else s.skySend typ 2 body

/-! ### The end of an operation (R480, R490) -/

/-- Was T moved later than this node's host asked. -/
def skyMoved (s : State) (op t : Nat) : Bool := s.sky.asked.any fun r => r.op = op && r.time ≠ 0 && r.time < t

/-- An operation has ended on this node: result, whether this node refused, T, late frames, sky epoch or snapshot number. -/
def skyEnded (s : State) (op result : Nat) (refused : Bool) (t late num : Nat) : State :=
  let moved := s.skyMoved op t
  let s := (s.put Fl.SKY_OP_STAT_op [] op).put Fl.SKY_OP_STAT_result [] result
  let s := if op = 1 then s.put Fl.SKY_OP_STAT_late_frames [] late else s
  let s := s.wr64 R.SKY_OP_T_LO R.SKY_OP_T_HI [] t
  let s := s.modSky fun x => { x with asked := if x.asked.any fun r => r.op = op then none else x.asked }
  s.ev 0x00F1 srcSKY 0 (op + 16 * result + 256 * b2n refused + 512 * b2n moved + 2 ^ 16 * (late % 2 ^ 16) + 2 ^ 32 * num)

/-- Report the results of the whole subtree once they are all in (R478): a member's DONE goes up, the root takes note. -/
def skyReport (s : State) (op num : Nat) : State :=
  let mine := s.sky.dones.filter fun d => d.1 = op && d.2.1 = num
  let all : Bool := (s.skyId :: s.skyKids).all fun k => mine.any fun d => d.2.2.1 = k
  if !all then s
  else
    let worst := mine.foldl (fun a d => max a d.2.2.2) 0
    let s := s.modSky fun x => { x with dones := x.dones.filter fun d => !(d.1 = op && d.2.1 = num) }
    if s.skyRoot then
      s.modSky fun x => { x with run := if x.run.any fun r => r.1.op = op && r.2 = num then none else x.run }
    else s.skyUp 0x24 (leBytes 1 op ++ leBytes 1 worst ++ leBytes 2 0 ++ leBytes 4 num)

/-- A result of this node or of a child. -/
def skyDone (s : State) (op num node result : Nat) : State :=
  (s.modSky fun x => { x with dones := (x.dones.filter fun d => !(d.1 = op && d.2.1 = num && d.2.2.1 = node)) ++ [(op, num, node, result)] }).skyReport op num

/-- The front of a sky commit has been issued (R483): its result, and what recordings say of it (R484). -/
def skyIssued (s : State) (t n : Nat) (late : Bool) : State :=
  let e := (s.sky.prep.map (·.1)).getD 0
  let s := if late then s.inc Fl.SKY_LATE_count else s
  let r := if late then 3 else 0
  let s := s.skyEnded 1 r false t n e
  (s.modSky fun x => { x with prep := none, held := none, acks := [], acked := false }).skyDone 1 e s.skyId r

end State

end Sys2Proof.Machine
end

