-- ==== Sys2Proof/Machine/Epoch.lean ====
section
/-! DEFINITION. Epochs and fronts (R117 to R146): the commit, its conditions, how a front is issued and taken, when an epoch
settles, and the drain of a patched pipeline. -/

namespace Sys2Proof.Machine

/-- T_FS = 50 µs (R123). -/
def tFs : Nat := 50000

namespace State

/-- A pipeline is idle (R126). -/
def pipeIdle (s : State) (p : Nat) : Bool := (s.graph.pipe? p).isNone || (s.pipeSt p).idle

/-- Does frame `fid` begin a cycle of its pipeline, with the n in effect before the front (R129, R228): its cycle differs from that of the
frame before it. Other capture modes have no cycle. -/
def beginsCycle (s : State) (p fid : Nat) : Bool :=
  let e := (s.pipeSt p).epoch
  if s.eff e Fl.CAP_MODE_mode [p] < 2 then true
  else
    let n := s.eff e Fl.CAP_CYCLE_n_m1 [p] + 1
    match (s.pipeSt p).lastFid with
    | none => true
    | some q => q / n ≠ fid / n

/-! ### Settling (R140) -/

def olderFrames (s : State) (e : Nat) : Bool := s.frames.any fun f => newer e f.epoch

def settled (s : State) (e : Nat) : Bool :=
  ¬s.olderFrames e && (List.range 8).all fun p => ¬newer e (s.pipeSt p).epoch

/-- DISP runs: it is enabled and has a raster, in the DISP epoch in effect (R359, R370). -/
def dispOn (s : State) : Bool :=
  s.eff s.disp.epoch Fl.DISP_CTRL_enable = 1 && s.eff s.disp.epoch Fl.DISP_CTRL_raster ≠ 0

/-- Does something beyond the flow of frames still refer to an epoch's record: an encode core's held frames, or DISP. -/
def epochHeld (s : State) (e : Nat) : Bool :=
  s.disp.epoch = e || (s.disp.due.any fun d => d.1 = e) || (s.outfs.any fun o => o.pend.any fun q => q.epoch = e) ||
  s.encs.any fun x => (x.queue.any fun f => f.epoch = e) || (x.order.any fun o => o.frame.epoch = e) || x.epoch = some e

/-- DEV_EPOCH_OUT takes the newest settled epoch; records older than it are dropped (R140, R142). -/
def settle (s : State) : State :=
  let out := s.rd R.DEV_EPOCH_OUT
  match (s.epochs.filter fun r => newer r.num out && s.settled r.num).getLast? with
  | some r =>
    let s := s.wr R.DEV_EPOCH_OUT [] r.num
    let s : State := { s with
      epochs := s.epochs.filter fun x => ¬newer r.num x.num || s.epochHeld x.num
      patchesOf := s.patchesOf.filter fun x => newer x.1 r.num
      subst := s.subst.filter fun x => match x.since with
        | none => true
        | some e => newer e r.num }
    s.raise ⟨0x0011, srcDEV, 0, r.num, noFrame, s.dt, s.rd R.DEV_EPOCH_IN, 0⟩
  | none => s

/-! ### Taking a front (R133, R141, R143, R144) -/

/-- The records of pipeline `p` of graph `g` are those of `n` (R111). -/
def mergePipe (g n : Graph) (p : Nat) : Graph :=
  let own (e : EdgeRec) : Bool := (e.dst / 256 = 2 && e.dst % 256 / 16 = p) || (e.src / 256 = 2 && e.src % 256 / 16 = p)
    || (e.src / 256 = 3 && e.src % 256 / 8 = p) || (e.dst / 256 = 3 && e.dst % 256 / 8 = p)
  let ob (b : BufferRec) : Bool := (g.edges.any fun e => own e && e.via = 1 && e.buffer = b.id)
  let nb (b : BufferRec) : Bool := (n.edges.any fun e => own e && e.via = 1 && e.buffer = b.id)
  { g with
    pipes := (g.pipes.filter fun r => r.pipe ≠ p) ++ n.pipes.filter fun r => r.pipe = p
    tiles := (g.tiles.filter fun r => r.pipe ≠ p) ++ n.tiles.filter fun r => r.pipe = p
    branches := (g.branches.filter fun r => r.pipe ≠ p) ++ n.branches.filter fun r => r.pipe = p
    buffers := (g.buffers.filter fun r => ¬ob r) ++ n.buffers.filter nb
    edges := (g.edges.filter fun e => ¬own e) ++ n.edges.filter own
    parts := (g.parts.filter fun r => r.owner ≠ p) ++ n.parts.filter fun r => r.owner = p }

/-- The spare takes the faulty tile's place in a TILE record that names it (R143). -/
def assignSpare (g : Graph) (x : Subst) : Graph :=
  { g with tiles := g.tiles.map fun t =>
      if t.pipe = x.pipe ∧ t.cls = x.cls ∧ bit t.mask x.faulty then { t with mask := t.mask - 2 ^ x.faulty ||| 2 ^ x.spare } else t }

/-- At the front of epoch `e` the substitutions of the pipeline become its assignment, from that epoch on, and the faulty tiles are
retired; older frames keep the order of their stripes (R143). -/
def retireFaulty (s : State) (p e : Nat) : State :=
  (s.subst.filter fun x => x.pipe = p && x.since.isNone).foldl (fun (t : State) (x : Subst) =>
    let t : State := { t with
      graph := assignSpare t.graph x
      epochs := t.epochs.map fun r => if newer e r.num then r else { r with graph := assignSpare r.graph x }
      front := t.front.map fun f => { f with graph := assignSpare f.graph x }
      subst := t.subst.map fun y => if y = x then { y with since := some e } else y }
    let old := t.get (retiredFld x.cls)
    let t := t.put (retiredFld x.cls) [] (if bit old x.faulty then old else old + 2 ^ x.faulty)
    let t : State := { t with nv := { t.nv with retired := t.rd R.HLT_RETIRED } }
    t.ev 0x0121 srcHLT ((x.cls - 1) * 16 + x.faulty) (p + 256 * ((x.cls - 1) * 16 + x.spare))) s

/-- Where a blob's byte lands for a register set: the bank bit of a banked LUT is replaced by the bank in effect (R99, log 26);
`none` for a tile without a pipeline. -/
def blobKey (g : Graph) (regs : RegFile) (x : BlobData) (i : Nat) : Option Nat :=
  let off := x.off + i
  if x.target < 0x30 then
    (if x.pipe < 8 then some x.pipe else g.tilePipe 1 (x.target - 0x20)).map fun p =>
      (0x100 + p) * 2 ^ 32 + regs.get Fl.RCT_STAGE_bank [p] * 0x10000 + off % 0x10000
  else if x.target < 0x80 then
    (if x.pipe < 8 then some x.pipe else g.tilePipe 3 (x.target - 0x70)).map fun p => (0x200 + p) * 2 ^ 32 + off
  else
    let br := off / 0x2000
    some (0x80 * 2 ^ 32 + br * 0x2000 + regs.get Fl.OUTF_CTRL_bank [br] * 0x1000 + off % 0x1000)

/-- Write a blob: HBM, or LUT RAM (R97). -/
def putBlob (s : State) (g : Graph) (regs : RegFile) (x : BlobData) : State :=
  if x.target = 0xFFFF then s.hbmWrite x.off x.b
  else (x.b.zipIdx).foldl (fun (t : State) e =>
    match blobKey g regs x e.2 with
    | some k => t.lutPut k e.1
    | none => t) s

/-- Put a partition's extent in the address map (R384). -/
def setMap (s : State) (m : PartMap) : State :=
  ((s.put Fl.HBMC_MAP_valid [m.id] (b2n (m.size ≠ 0))).put Fl.HBMC_MAP_pbase [m.id] (m.pbase / 0x200000)).put
    Fl.HBMC_MAP_protected [m.id] (b2n m.prot)

/-- Apply the memory plan of a patch: a new, moved or resized partition reads 0 where its flag asks for it, else it is undefined (R88,
R389). -/
def applyPatchPlan (s : State) (x : Patch) : State :=
  x.fresh.foldl (fun (t : State) z => if z.2.2 then t.hbmZero z.1 z.2.1 else t.hbmUndef z.1 z.2.1) (x.maps.foldl setMap s)

/-- The branches of a pipeline run on a new structure: their rings begin anew, and frames written on the old one are still published. -/
def outfNew (s : State) (p : Nat) : State :=
  { s with outfs := s.outfs.mapIdx fun (i : Nat) (o : OutfSt) => if i / 8 = p then { OutfSt.init with k := o.k, pend := o.pend } else o }

/-- Write the LUT blobs of a patch (R99). -/
def applyPatchLuts (s : State) (e : Nat) (x : Patch) : State :=
  x.blobs.foldl (fun (t : State) b => t.putBlob (s.graphOf e) (s.epochRec e).regs b) s

/-- Pipeline `p` takes the front of epoch `e`; `first` is the first FRAME_ID tagged with the epoch (all-ones where there
is none: an idle pipeline, or a front taken together with a newer one). A patch of `p` in it takes
effect: the new structure, and the drain while old frames are still inside (R144, R145). Its LUT blobs, which old frames may still read,
wait for the end of that drain (DEDUCED, log 101). -/
def takeFront (s : State) (p e first : Nat) (patches : List Patch) : State :=
  let patch := patches.find? fun x => x.pipe = p
  let spare := s.subst.any fun x => x.pipe = p && x.since.isNone
  let s := (s.retireFaulty p e).xwMove p
  let s := match patch with
    | some x =>
      let s : State := { s with graph := mergePipe s.graph (s.graphOf e) p }
      let s := (s.xwAssign p).applyPatchPlan x
      let busy := s.frames.any fun f => f.pipe = p
      let s := if busy then s else (s.applyPatchLuts e x).outfNew p
      if busy then s.modPipe p fun st => { st with draining := true, drops := x.drops, drainOf := st.drainOf ++ [e] }
      else s
    | none => s
  let mark := (s.epochRec e).sky.isSome
  let s := s.modPipe p fun st => { st with
    epoch := e, due := st.due.filter fun d => d ≠ e, skyMark := if mark then some e else st.skyMark }
  let s := s.capFront p
  (s.raise ⟨0x0010, srcDEV, 0, e, first, s.dt, p + 256 * b2n patch.isSome + 512 * b2n spare, 0⟩).trace srcDEV 2 0 e first

/-- A pipeline takes every front that is due to it, oldest first (R133). -/
def takeDue (s : State) (p fid : Nat) : State :=
  let last := (s.pipeSt p).due.getLast?
  (s.pipeSt p).due.foldl (fun (t : State) e => t.takeFront p e (if some e = last then fid else noFrame) ((t.patchesOf.filter fun x => x.1 = e).map (·.2))) s

/-- The epoch instant (R128, R131, R133, R136): the new epoch applies, DEV_EPOCH_IN takes its number, idle pipelines take
the front, the others have it due. -/
def issueFront (s : State) (f : Front) (fid : Nat) : State :=
  let s : State := { s with
    front := none
    epochs := s.epochs ++ [⟨f.num, f.regs, f.graph, if f.sky then some ((s.sky.prep.map (·.1)).getD 0, f.time, if f.late = 5 then f.passed else 0) else none⟩]
    patchesOf := s.patchesOf ++ f.patches.map fun x => (f.num, x) }
  let s := s.wr R.DEV_EPOCH_IN [] f.num
  let s := (s.put Fl.DEV_COMMIT_go [] 0).put Fl.DEV_COMMIT_STAT_pending [] 0
  let s := if f.late ≠ 0 then
      let s := if f.late = 3 ∨ f.late = 4 then s.put Fl.DEV_COMMIT_STAT_commit_late [] 1 else s
      let s := s.inc Fl.DEV_COMMIT_STAT_late_count
      s.raise ⟨0x0012, srcDEV, 0, f.num, fid, s.dt, min f.passed 0xFFFF + 2 ^ 16 * f.late + 2 ^ 24 * f.refPipe, 0⟩
    else s
  let s := if f.sky then s.skyIssued f.time (if f.late = 5 then f.passed else 0) (f.late = 5) else s
  let s := s.genEpoch.audEpoch
  let s : State := if s.dispOn then { s with disp := { s.disp with due := s.disp.due ++ [(f.num, s.dt, none)] } }
    else { s with disp := { s.disp with epoch := f.num, due := [] } }
  let s : State := { s with pipes := s.pipes.map fun st => { st with due := st.due ++ [f.num] } }
  let s := (List.range 8).foldl (fun (t : State) p => if t.pipeIdle p && ¬(p = f.refPipe && fid ≠ noFrame) then t.takeDue p noFrame else t) s
  s.settle

/-- At most 8 epochs in use (R132). -/
def epochRoom (s : State) : Bool :=
  (s.rd R.DEV_EPOCH_IN + 1 + 2 ^ 32 - s.rd R.DEV_EPOCH_OUT) % 2 ^ 32 ≤ 7

/-- Has the target boundary been reached at the boundary of frame `fid` (R127). -/
def targetReached (s : State) (f : Front) (fid : Nat) : Bool :=
  f.targetSeen || (match f.cond with
    | 0 => true
    | 1 => f.frame ≤ fid
    | _ => f.time ≤ s.dt)

/-- A boundary of ref_pipe while a commit is pending: the front is issued, or why not is remembered (R127 to R132). -/
def frontAt (s : State) (f : Front) (fid newFid : Nat) : State :=
  if ¬s.targetReached f fid then s
  else
    let f := if ¬f.targetSeen && f.cond = 1 && fid ≠ f.frame && f.late = 0 then { f with late := 4 } else f
    let early := s.time.clk < f.arrival + tFs
    let cycle := s.beginsCycle f.refPipe fid
    let reason := if early then 1 else if f.sky && ¬f.go then 5 else if ¬cycle then 0 else if ¬s.epochRoom then 2 else 0
    if early || ¬cycle || ¬s.epochRoom || (f.sky && ¬f.go) then
      let f := { f with targetSeen := true, passed := f.passed + 1, late := if f.late = 0 then reason else f.late }
      let s : State := { s with front := some f }
      if reason ≠ 0 then s.put Fl.DEV_COMMIT_STAT_commit_late [] 1 else s
    else s.issueFront f newFid

/-- The boundary of a frame of pipeline `p` (R125): the reference pipeline's may issue the pending front; then the pipeline
takes what is due to it if the frame begins a cycle. `newFid` is the FRAME_ID the frame has under the front (R172). -/
def boundaryAs (s : State) (p fid newFid : Nat) : State :=
  let s := s.modPipe p fun st => { st with idle := false, bounds := (s.dt :: st.bounds).take 65536 }
  let s := match s.front with
    | some f => if f.refPipe = p then s.frontAt f fid newFid else s
    | none => s
  if s.beginsCycle p fid then (s.takeDue p newFid).settle else s

def boundary (s : State) (p fid : Nat) : State := s.boundaryAs p fid fid

/-! ### The commit (R119 to R122) -/

/-- PRESET writes of the staged patches enter the shadows (R96). -/
def patchPresets (s : State) (l : List Patch) : State :=
  l.foldl (fun t x => x.presets.foldl (fun u w =>
    match findReg w.1 with
    | some (row, ix) =>
      let jx := if row.reg.perPipe then x.pipe :: ix.tail else ix
      let old := u.rd row.reg jx
      u.wr row.reg jx ((old &&& (0xFFFFFFFF - w.2.1)) ||| (w.2.2 &&& w.2.1))
    | none => u) t) s

/-- Boundaries of a pipeline at or after a device time that have passed already: where there is one, the target boundary of a
time condition is the first of them (R127). -/
def passedSince (s : State) (p time : Nat) : Nat := ((s.pipeSt p).bounds.filter fun t => time ≤ t).length

/-- The structure that the next front would leave: the newest epoch's, or the pending front's (R111). -/
def newestGraph (s : State) : Graph :=
  match s.front with
  | some f => f.graph
  | none => s.graphOf (s.rd R.DEV_EPOCH_IN)

/-- Sample the shadows and staged patches in one cycle and make the pending front (R119, R121, R9); a target boundary that lies
back makes the commit late at once (R130). -/
def commit (s : State) (sky go : Bool) (cond refPipe frame time : Nat) : State :=
  let patches := s.drv.staged
  let s := s.patchPresets patches
  let graph := patches.foldl (fun g x => mergePipe g x.graph x.pipe) s.newestGraph
  let regs := judgeSet graph (s.epochRec (s.rd R.DEV_EPOCH_IN)).regs s.regs
  let back := if cond = 2 then s.passedSince refPipe time else 0
  let f : Front := ⟨(s.rd R.DEV_EPOCH_IN + 1) % 2 ^ 32, regs, graph, patches, cond, refPipe, frame, time, s.time.clk, sky, go,
    back ≠ 0, back, if back = 0 then 0 else 1⟩
  let s : State := { s with regs := regs, front := some f, drv := { s.drv with staged := [] } }
  let s := ((s.put Fl.DRV_STAT_staged [] 0).put Fl.DEV_COMMIT_STAT_pending [] 1).put Fl.DEV_COMMIT_go [] 1
  if back = 0 then s else s.put Fl.DEV_COMMIT_STAT_commit_late [] 1

/-- A write of `v` to DEV_COMMIT: cond and ref_pipe are fields of it; go starts a commit unless one is pending (R34, R122). -/
def devCommit (s : State) (v : Nat) : State :=
  let s := s.writeFields ⟨R.DEV_COMMIT, [Fl.DEV_COMMIT_ref_pipe, Fl.DEV_COMMIT_cond]⟩ [] v
  if bit v 0 && s.front.isNone && ¬s.flag Fl.DEV_COMMIT_go then
    s.commit false true (s.get Fl.DEV_COMMIT_cond) (s.get Fl.DEV_COMMIT_ref_pipe)
      (s.rd64 R.DEV_COMMIT_FRAME_LO R.DEV_COMMIT_FRAME_HI) (s.rd64 R.DEV_COMMIT_TIME_LO R.DEV_COMMIT_TIME_HI)
  else s

/-- The epoch instant with ref_pipe idle (R131): T_FS after the write, and not before DEV_COMMIT_TIME. -/
def idleIssue (s : State) : State :=
  match s.front with
  | none => s
  | some f =>
    if s.pipeIdle f.refPipe && f.arrival + tFs ≤ s.time.clk && (f.cond ≠ 2 || f.time ≤ s.dt) && (¬f.sky || f.go) then
      if s.epochRoom then
        s.issueFront (if f.cond ≠ 0 && f.late = 0 then { f with late := 3 } else f) noFrame
      else
        ({ s with front := some { f with late := if f.late = 0 then 2 else f.late } }).put Fl.DEV_COMMIT_STAT_commit_late [] 1
    else s

/-! ### Patch drain (R144, R145) -/

/-- Has every old frame left the patched pipeline. -/
def drained (s : State) (p : Nat) : Bool := !(s.frames.any fun f => f.pipe = p && !f.waiting)

/-- Epochs of a draining pipeline's patches newer than the oldest frame that waits: their frames go on waiting behind it. -/
def laterDrains (s : State) (p : Nat) : List Nat :=
  match s.frames.find? fun f => f.pipe = p && f.waiting with
  | some f => (s.pipeSt p).drainOf.filter fun e => newer e f.epoch
  | none => []

/-- The drain ends: the frames of the patch's epoch enter the new structure, with its LUTs written (R144). -/
def drainEnd (s : State) (p : Nat) : State :=
  if (s.pipeSt p).draining && s.drained p then
    let later := s.laterDrains p
    let due := s.patchesOf.filter fun x => x.2.pipe = p && (s.pipeSt p).drainOf.contains x.1 && !later.contains x.1
    let s := due.foldl (fun (t : State) x => (t.applyPatchLuts x.1 x.2).outfNew p) s
    let s : State := { s with frames := s.frames.map fun f =>
      if f.pipe = p then { f with waiting := f.waiting && later.any fun e => !newer e f.epoch } else f }
    (s.modPipe p fun x => { x with draining := !later.isEmpty, drainOf := later }).settle
  else s

/-- The first frame that is processed after a drain that dropped frames reports the gap, which no earlier record could name it in (R141,
R145; DEDUCED, log 102). -/
def patchGap (s : State) (p fid : Nat) : State :=
  let st := s.pipeSt p
  if st.dropped = 0 then s
  else (s.modPipe p fun x => { x with dropped := 0 }).raise
    ⟨0x0013, srcDEV, 0, st.epoch, fid, s.dt, p + 2 ^ 16 * (st.dropped % 2 ^ 16), 0⟩

end State

end Sys2Proof.Machine
end

