-- ==== Sys2Proof/Machine/Slots.lean ====
section
/-! DEFINITION. The ingest copy in HBM (R166, R184, R186): containers, slot areas and samples. -/

namespace Sys2Proof.Machine

namespace State

/-- Store one sample of a slot that begins at plan address `base`. -/
def poke (s : State) (base : Nat) (r : StreamRec) (a : Area) (e y x v : Nat) : State :=
  let at_ := sampleAt r a e y x
  let g := unpackGroup r.container (s.hbmRead (base + at_.1) (contBytes r.container))
  s.hbmWrite (base + at_.1) (packGroup r.container (g.set at_.2 v))

/-- Read one sample of a slot. -/
def peek (s : State) (base : Nat) (r : StreamRec) (a : Area) (e y x : Nat) : Nat :=
  let at_ := sampleAt r a e y x
  (unpackGroup r.container (s.hbmRead (base + at_.1) (contBytes r.container))).getD at_.2 0

/-- The plan address of slot `k` of the ingest copy that feeds pipeline `p` in the structure of epoch `e`, with the stream's record. -/
def slotAddr (s : State) (e p k : Nat) : Option (StreamRec × Nat) :=
  let g := s.graphOf e
  match g.streamOf p, (g.feed? p).bind fun d => g.buffer? d.buffer with
  | some r, some b => some (r, g.bufferBase b + k * slotSize r)
  | _, _ => none

/-- The busy bit of a tile class. -/
def busyFld (cls : Nat) : Fld := if cls = 1 then Fl.RCT_STATUS_busy else if cls = 2 then Fl.RCU_STATUS_busy else Fl.DVT_STATUS_busy

/-- A tile shows whether it holds a frame: a stripe of one that it still owes, or that it replays (R191, R240, R298). -/
def showBusy (s : State) (cls n : Nat) : State :=
  s.put (busyFld cls) [n] (b2n ((s.frames.any fun f => f.owes.contains (cls, n))
    || s.hlt.replays.any fun r => r.cls = cls && r.runner = n))

end State

/-- The frame descriptor (R186). -/
def descBytes (fid epoch fsw time trigTime trigWidth counter stream pipe w h exps obRows obCols cont padded embed ns : Nat) : Bytes :=
  let b := leBytes 8 fid ++ leBytes 4 epoch ++ leBytes 4 fsw ++ leBytes 8 time ++ leBytes 8 trigTime ++ leBytes 4 trigWidth
    ++ leBytes 2 counter ++ leBytes 1 stream ++ leBytes 1 pipe ++ leBytes 2 w ++ leBytes 2 h ++ leBytes 1 exps
    ++ leBytes 1 obRows ++ leBytes 1 obCols ++ leBytes 1 cont ++ leBytes 4 padded ++ leBytes 4 embed ++ leBytes 4 ns
  b ++ leBytes 4 (crc32c b)

end Sys2Proof.Machine
end

