-- ==== Sys2Proof/Machine/Ingest.lean ====
section
/-! DEFINITION. Frames at the sensor front end (R163 to R186): opening, samples, release and padding, closing; and the
CSI-2 ports. -/

namespace Sys2Proof.Machine

/-- FSW bits (R176). -/
def fswFlagged : Nat := 0
def fswShortLine : Nat := 1
def fswLongLine : Nat := 2
def fswShortFrame : Nat := 3
def fswLongFrame : Nat := 4
def fswLineMissing : Nat := 5
def fswLineDup : Nat := 6
def fswLineLate : Nat := 7
def fswBadPkt : Nat := 8
def fswPayloadCrc : Nat := 9
def fswFsMissing : Nat := 10
def fswFeMissing : Nat := 11
def fswCounterGap : Nat := 12
def fswCounterDiscont : Nat := 13
def fswLate : Nat := 14
def fswDieLate : Nat := 15
def fswLinkDown : Nat := 16
def fswOverflow : Nat := 17
def fswDieMismatch : Nat := 18
def fswAuxCut : Nat := 19
def fswDropped : Nat := 20
def fswReissued : Nat := 27
def fswSynth : Nat := 28
def fswSynShort : Nat := 29
def fswRateFloor : Nat := 30

def setBit (v i : Nat) : Nat := v ||| 2 ^ i

/-- [0] is set when any of bits [20:1] is (R176). -/
def fswFinal (v : Nat) : Nat := if bits v 20 1 ≠ 0 then setBit v 0 else v

/-- A packet header (R162). -/
structure PktHdr where
  stream : Nat
  typ : Nat
  exposure : Nat
  counter : Nat
  line : Nat
  length : Nat
  column : Nat
  pcrc : Nat
  hcrc : Nat
  deriving DecidableEq, Repr

def parseHdr (b : Bytes) : PktHdr :=
  let id := fieldLe b 0 2
  ⟨bits id 15 10, bits id 9 6, bits id 5 4, fieldLe b 2 2, fieldLe b 4 2, fieldLe b 6 2, fieldLe b 8 2, fieldLe b 10 4,
    fieldLe b 14 2⟩

def crc16 (b : Bytes) : Nat := b.foldl crc16Byte 0xFFFF

def Src.keyOf (area e line col : Nat) : Nat := ((area * 4 + e) * 65536 + line) * 131072 + col

namespace State

def streamSt (s : State) (n : Nat) : StreamSt := s.streams.getD n StreamSt.init

def modStream (s : State) (n : Nat) (f : StreamSt → StreamSt) : State := { s with streams := modNth s.streams n f }

def modOpen (s : State) (n : Nat) (f : OpenFrame → OpenFrame) : State :=
  s.modStream n fun x => { x with opened := x.opened.map f }

/-- Set an FSW bit on the open frame of a stream, if there is one. -/
def flagOpen (s : State) (n b : Nat) : State := s.modOpen n fun f => { f with fsw := setBit f.fsw b }

def modSrc (s : State) (n i : Nat) (f : Src → Src) : State := s.modOpen n fun x => { x with srcs := modNth x.srcs i f }

/-- The epoch whose settings a stream is under: that of its open frame, or of its pipeline (R173). -/
def streamEpoch (s : State) (n : Nat) : Nat :=
  match (s.streamSt n).opened with
  | some f => f.epoch
  | none => match s.graph.pipeOf n with
    | some p => s.pipeEpoch p
    | none => s.rd R.DEV_EPOCH_IN

def effS (s : State) (n : Nat) (d : Fld) : Nat := s.eff (s.streamEpoch n) d [n]

/-! ### Release and padding (R171, R174, R175, R178) -/

/-- Entry of a mosaic that covers a logical sample: where entries overlap the higher wins (R178). -/
def owns (srcs : List Src) (i x y : Nat) : Bool :=
  let covers (q : Src) : Bool := q.x0 ≤ x && x < q.x0 + q.w && q.y0 ≤ y && y < q.y0 + q.h
  !((srcs.drop (i + 1)).any covers)

/-- The same for the OB rows, where entries share a column, and for the OB columns, where they share a line (R178). -/
def ownsX (srcs : List Src) (i x : Nat) : Bool := !((srcs.drop (i + 1)).any fun q => q.x0 ≤ x && x < q.x0 + q.w)
def ownsY (srcs : List Src) (i y : Nat) : Bool := !((srcs.drop (i + 1)).any fun q => q.y0 ≤ y && y < q.y0 + q.h)

/-- Padding of column `x` of a line that has some samples (R175). -/
def padAt (have_ : Nat → Option Nat) (width p x padv : Nat) : Nat :=
  let left := (List.range (x / p)).findSome? fun k => have_ (x - (k + 1) * p)
  let right := (List.range (width / p + 1)).findSome? fun k => if x + (k + 1) * p < width then have_ (x + (k + 1) * p) else none
  (left.orElse fun _ => right).getD padv

/-- The values of a released line with its missing samples padded (R175). -/
def padLine (src : Src) (area e line width mode padv : Nat) : List Nat :=
  let have_ (x : Nat) : Option Nat := (src.got.find? fun g => g.1 = Src.keyOf area e line x).map (·.2)
  let any := (List.range width).any fun x => (have_ x).isSome
  let p := if mode = 1 then 2 else 4
  if mode = 0 then (List.range width).map fun x => (have_ x).getD padv
  else if any then (List.range width).map fun x => (have_ x).getD (padAt have_ width p x padv)
  else
    match if p ≤ line then src.rel.find? fun r => r.1 = Src.keyOf area e (line - p) 0 else none with
    | some r => r.2
    | none => List.replicate width padv

/-- Columns of a line (R167): active samples stand at columns ob_cols onwards, of an active line and of an OB row alike. -/
def lineWidth (f : OpenFrame) (src : Src) : Nat := f.obCols + src.w

/-- The columns that a line of an area carries: an OB row has active columns only (R167). -/
def lineCols (f : OpenFrame) (src : Src) (area : Nat) : List Nat :=
  (List.range (lineWidth f src)).filter fun x => area = 0 || f.obCols ≤ x

/-- A released line of a source does not reach the ingest copy, the write buffer being full (R185): it is marked, and the live feed goes
on with it. A mosaic is fed from the copy (R180), so nothing of its line is left. -/
def loseLine (s : State) (n area e line : Nat) (whole : Bool) (vals : List Nat) : State :=
  match (s.streamSt n).opened with
  | some f =>
    let s := (s.modOpen n fun g => { g with lost := g.lost + b2n whole }).flagOpen n fswOverflow
    if area = 0 && ((s.graph.stream? n).map fun r => r.mosaic) = some 0 then
      { s with frames := s.frames.map fun g =>
          if some g.pipe = f.pipe && g.fid = f.fid && g.origEpoch = g.epoch then { g with spill := (Src.keyOf 0 e line 0, vals) :: g.spill } else g }
    else s
  | none => s

/-- Store a released line of a source into the ingest copy (R178, R184). -/
def storeLine (s : State) (n i area e line : Nat) (vals : List Nat) : State :=
  match (s.streamSt n).opened, s.graph.stream? n with
  | some f, some r =>
    match f.pipe, f.slot, f.srcs[i]? with
    | some p, some k, some src =>
      match s.slotAddr f.epoch p k with
      | some (_, base) =>
        let y := if src.flipV then src.y0 + src.h - 1 - line else src.y0 + line
        let x (u : Nat) : Nat := if src.flipH then src.x0 + src.w - 1 - u else src.x0 + u
        if area = 0 then
          let s := (List.range f.obCols).foldl (fun (t : State) c =>
            if y < f.height && ownsY f.srcs i y then t.poke base r .obCol e y c (vals.getD c 0) else t) s
          (List.range src.w).foldl (fun (t : State) u =>
            if y < f.height && x u < f.width && owns f.srcs i (x u) y then t.poke base r .plane e y (x u) (vals.getD (f.obCols + u) 0)
            else t) s
        else
          (List.range src.w).foldl (fun (t : State) u =>
            if x u < f.width && ownsX f.srcs i (x u) then t.poke base r .obRow e line (x u) (vals.getD (f.obCols + u) 0) else t) s
      | none => s
    | _, _, _ => s
  | _, _ => s

/-- Has every die line that maps to logical line 0 been released for an exposure (R180). -/
def firstFed (srcs : List Src) (e : Nat) : Bool :=
  srcs.all fun q => !(q.y0 = 0 && 0 < q.h) || (if q.flipV then q.h - 1 else 0) < lookAt 0 q.next e

/-- The exposure's first active line is released with OB rows still to come (R205); of a mosaic, its first logical line. -/
def obJudge (s : State) (n e : Nat) (was : Bool) : State :=
  s.modOpen n fun g =>
    if !was && firstFed g.srcs e && g.srcs.any fun q => lookAt 0 q.next (4 + e) < g.obRows then { g with obStale := e :: g.obStale } else g

/-- Release line `line` of a source's area and exposure (R171, R174). `closing` says the frame is closing. -/
def releaseLine (s : State) (n i area e line : Nat) : State :=
  match (s.streamSt n).opened, s.graph.stream? n with
  | some f, some r =>
    match f.srcs[i]? with
    | some src =>
      let w := lineWidth f src
      let cols := lineCols f src area
      let have_ := cols.filter fun x => src.got.any fun g => g.1 = Src.keyOf area e line x
      let padv := s.effS n Fl.SFE_S_CTRL_pad % 2 ^ contBits r.container
      let vals := padLine src area e line w (s.effS n Fl.SFE_S_CTRL_pad_mode) padv
      let higher := line + 1 < lookAt 0 src.top (area * 4 + e)
      let whole : Bool := have_.length = cols.length
      let s := if whole then s
        else
          let s := s.modOpen n fun g => { g with padded := g.padded + 1 }
          if have_.length ≠ 0 then s.flagOpen n fswShortLine
          else if src.st = 3 then s
          else if higher then s.flagOpen n fswLineMissing else s.flagOpen n fswShortFrame
      let s := if s.sfeFull && f.slot.isSome then s.loseLine n area e line whole vals
        else s.storeLine n i area e line vals
      (s.modSrc n i fun q => { q with
        next := setAt 0 (area * 4 + e) (line + 1) q.next
        rel := (Src.keyOf area e line 0, vals) :: q.rel
        got := q.got.filter fun g => g.1 / 131072 ≠ Src.keyOf area e line 0 / 131072 }).obJudge n e (firstFed f.srcs e)
    | none => s
  | _, _ => s

/-- Release in line order while the next line is complete or the reorder window has passed it (R171). -/
def releaseDue (s : State) (n i area e : Nat) : Nat → State
  | 0 => s
  | fuel + 1 =>
    match (s.streamSt n).opened with
    | some f =>
      match f.srcs[i]? with
      | some src =>
        let next := lookAt 0 src.next (area * 4 + e)
        let top := lookAt 0 src.top (area * 4 + e)
        let lines := if area = 0 then src.h else f.obRows
        let full := (lineCols f src area).all fun x => src.got.any fun g => g.1 = Src.keyOf area e next x
        if next < lines && (full || next + s.effS n Fl.SFE_S_CTRL_reorder + 1 < top) then
          (s.releaseLine n i area e next).releaseDue n i area e fuel
        else s
      | none => s
    | none => s

/-- Samples of a LINE (area 0) or OBLINE (area 1) packet arrive (R167, R174). Samples of an OBLINE below column ob_cols are no active
columns and are ignored (DEDUCED, log 105). -/
def addSamples (s : State) (n i area e line column : Nat) (vals : List Nat) : State :=
  match (s.streamSt n).opened with
  | some f =>
    match f.srcs[i]? with
    | some src =>
      let lines := if area = 0 then src.h else f.obRows
      let w := lineWidth f src
      if lines ≤ line then s.flagOpen n fswLongFrame
      else
        let s := (vals.zipIdx).foldl (fun (t : State) v =>
          let x := column + v.2
          match (t.streamSt n).opened.bind fun g => g.srcs[i]? with
          | some q =>
            if w ≤ x then t.flagOpen n fswLongLine
            else if area = 1 && x < f.obCols then t
            else if line < lookAt 0 q.next (area * 4 + e) then t.flagOpen n fswLineLate
            else if q.got.any fun g => g.1 = Src.keyOf area e line x then t.flagOpen n fswLineDup
            else t.modSrc n i fun q => { q with got := (Src.keyOf area e line x, v.1) :: q.got
                                                top := setAt 0 (area * 4 + e) (max (line + 1) (lookAt 0 q.top (area * 4 + e))) q.top }
          | none => t) s
        s.releaseDue n i area e (lines + 1)
    | none => s
  | none => s

/-! ### Closing (R169) -/

/-- Release every line not yet released (R169). -/
def releaseAll (s : State) (n i : Nat) : State :=
  match (s.streamSt n).opened, s.graph.stream? n with
  | some f, some r =>
    match f.srcs[i]? with
    | some src =>
      (List.range r.exposures).foldl (fun (t : State) e =>
        let rest (t : State) (area lines : Nat) : State :=
          (List.range lines).foldl (fun (u : State) y =>
            match (u.streamSt n).opened.bind fun g => g.srcs[i]? with
            | some q => if lookAt 0 q.next (area * 4 + e) = y then u.releaseLine n i area e y else u
            | none => u) t
        rest (rest t 0 src.h) 1 f.obRows) s
    | none => s
  | _, _ => s

/-- Logical samples that no entry covers take the pad value (R178). -/
def padUncovered (s : State) (n : Nat) : State :=
  match (s.streamSt n).opened, s.graph.stream? n with
  | some f, some r =>
    match f.pipe, f.slot with
    | some p, some k =>
      match s.slotAddr f.epoch p k with
      | some (_, base) =>
        let padv := s.effS n Fl.SFE_S_CTRL_pad % 2 ^ contBits r.container
        let covered (x y : Nat) : Bool := f.srcs.any fun q => q.x0 ≤ x && x < q.x0 + q.w && q.y0 ≤ y && y < q.y0 + q.h
        if r.mosaic = 0 then s
        else (List.range r.exposures).foldl (fun (t : State) e =>
          (List.range f.height).foldl (fun (u : State) y =>
            (List.range f.width).foldl (fun (v : State) x => if covered x y then v else v.poke base r .plane e y x padv) u) t) s
      | none => s
    | _, _ => s
  | _, _ => s

/-- Close the open frame of a stream, with further FSW bits (R169, R186, R190). -/
def closeFrame (s : State) (n : Nat) (why : List Nat) : State :=
  match (s.streamSt n).opened with
  | none => s
  | some f0 =>
    let s := why.foldl (fun (t : State) b => t.flagOpen n b) s
    let s := (List.range f0.srcs.length).foldl (fun (t : State) i => t.releaseAll n i) s
    let s := s.padUncovered n
    match (s.streamSt n).opened, s.graph.stream? n with
    | some f, some r =>
      let fsw := fswFinal f.fsw
      let s := match f.pipe, f.slot with
        | some p, some k =>
          match s.slotAddr f.epoch p k with
          | some (_, base) =>
            let s := s.hbmWrite (base + embedOff r) f.embed
            s.hbmWrite base (descBytes f.fid f.epoch fsw f.dt ((f.trig.getD (2 ^ 64 - 1, 0)).1) ((f.trig.getD (2 ^ 64 - 1, 0)).2)
              f.counter n p f.width f.height r.exposures f.obRows f.obCols r.container (f.padded + f.lost) f.embed.length (s.dt - f.dt))
          | none => s
        | _, _ => s
      let s := (s.wr R.SFE_S_LASTFSW [n] fsw).wr64 R.SFE_S_LASTFID_LO R.SFE_S_LASTFID_HI [n] f.fid
      let s := (s.inc Fl.SFE_S_FRAMES_count [n]).inc Fl.SFE_S_PADCNT_lines [n] f.padded
      let s := if fsw % 2 = 1 then
          (s.inc Fl.SFE_S_ERRCNT_flagged [n]).evLimited 0x0051 srcSFE n f.epoch f.fid (fsw + 2 ^ 32) else s
      let s := s.modStream n fun x => { x with
        opened := none, lastEmbed := some f.embed, lastClosed := if f.free then none else some f.counter }
      match f.pipe with
      | some p =>
        let s := s.trace srcSFE 1 n f.epoch f.fid
        let s : State := { s with frames := s.frames.map fun g =>
          if g.pipe = p && g.fid = f.fid && g.origEpoch = g.epoch then { g with fsw := fsw, embed := f.embed, obStale := f.obStale } else g }
        s.capClose p f.fid
      | none => s
    | _, _ => s

/-! ### Opening (R168, R172, R179) -/

/-- The sources of a frame that opens: the whole stream, or the dies that the placement entries name (R177). -/
def sourcesOf (s : State) (r : StreamRec) (epoch w h : Nat) : List Src :=
  let mk (entry die w h x0 y0 : Nat) (fh fv : Bool) : Src := ⟨entry, die, w, h, x0, y0, fh, fv, 0, 0, [], [], [], []⟩
  if r.mosaic = 0 then [mk 0 r.stream w h 0 0 false false]
  else (List.range 256).filterMap fun k =>
    if s.eff epoch Fl.SFE_PLACE_SRC_valid [k] = 1 && s.eff epoch Fl.SFE_PLACE_SRC_logical [k] = r.id then
      some (mk k (s.eff epoch Fl.SFE_PLACE_SRC_die [k]) (s.eff epoch Fl.SFE_PLACE_SIZE_w [k]) (s.eff epoch Fl.SFE_PLACE_SIZE_h [k])
        (s.eff epoch Fl.SFE_PLACE_POS_x0 [k]) (s.eff epoch Fl.SFE_PLACE_POS_y0 [k])
        (s.eff epoch Fl.SFE_PLACE_SRC_flip_h [k] = 1) (s.eff epoch Fl.SFE_PLACE_SRC_flip_v [k] = 1))
    else none

/-- The units a frame of pipeline `p` passes (R139), from the stage edges of the structure (R81). -/
def routeOf (g : Graph) (p : Nat) : List FlowUnit :=
  let st (a b : Nat) (u : FlowUnit) : List FlowUnit := if g.hasStageEdge p a b then [u] else []
  st 0 1 .rct ++ st 1 2 .cap ++ st 2 3 .rcu ++ st 3 4 .recorder ++ st 2 5 .dvt ++ st 5 6 .outf ++
    (g.branchesOf p).map fun b => .branch b.branch

/-- The slot that SFE writes next: it skips sealed slots (R185). -/
def nextSlot (s : State) (p n : Nat) : Option Nat :=
  let d := (s.cap p).depth
  let from_ := (s.streamSt n).slot
  let held := s.sealedSlots p
  ((List.range d).map fun i => (from_ + i) % d).find? fun k => !(held.contains k)

/-- The frame is still open at SFE. -/
def stillOpen (s : State) (p fid : Nat) : Bool :=
  s.streams.any fun x => match x.opened with
    | some f => f.pipe = some p && f.fid = fid
    | none => false

/-- The slot of a frame whose stripe is in replay is taken: the replay ends unrepaired (R541). -/
def replayLate (s : State) (p : Nat) (slot : Option Nat) : State :=
  s.hlt.replays.foldl (fun (t : State) r =>
    if r.pipe = p && (t.frames.any fun f => f.pipe = p && f.fid = r.fid && some f.slot = slot) then t.unrepaired r else t) s

/-- A size in effect: 0 in SFE_Sn_GEOM means the STREAM record's (its Meaning). -/
def geomOf (s : State) (e : Nat) (d : Fld) (n full : Nat) : Nat := if s.eff e d [n] = 0 then full else s.eff e d [n]

/-- SFE_Pp_FIDSET and SFE_Pp_FIDCTRL.seq in effect for a pipeline (R172). -/
def fidSet (s : State) (p : Nat) : Nat := s.effPRd p R.SFE_P_FIDSET_LO [p] + 2 ^ 32 * s.effPRd p R.SFE_P_FIDSET_HI [p]
def fidSeq (s : State) (p : Nat) : Nat := s.effP p Fl.SFE_P_FIDCTRL_seq [p]

/-- The boundary of a frame that opens (R125), its FRAME_ID and the FSW bits of its counter (R172, R183). -/
def openNumber (s : State) (n : Nat) (pipe : Option Nat) (counter : Nat) (free : Bool) : State × Nat × List Nat :=
  let st := s.streamSt n
  let d := (counter + 65536 - st.lastCounter) % 65536
  let good : Bool := 1 ≤ d && d ≤ 1024
  let counted := (st.fid + if free || !good then 1 else d) % 2 ^ 64
  let gap : List Nat := if free || !st.seen then [] else if !good then [fswCounterDiscont] else if 1 < d then [fswCounterGap] else []
  match pipe with
  | none => (s, if st.seen then counted else 0, gap)
  | some p =>
    let fid0 := if st.seen then counted else s.fidSet p
    let tried := s.boundary p fid0
    let reload : Bool := (s.pipeSt p).lastSeq ≠ tried.fidSeq p || !st.seen
    let fid := if reload then tried.fidSet p else fid0
    let t := if fid = fid0 then tried else s.boundaryAs p fid0 fid
    (t.modPipe p fun x => { x with lastSeq := t.fidSeq p }, fid, if reload then [] else gap)

/-- FSW.dropped of a frame that has closed: in its descriptor, and in SFE_Sn_LASTFSW while it is the last one closed (R176, R194). -/
def markDropped (s : State) (f : Frame) : State :=
  let fsw := fswFinal (setBit f.fsw fswDropped)
  let s := match s.slotAddr f.epoch f.pipe f.slot with
    | some (_, base) =>
      let d := s.hbmRead base 64
      let d := d.take 12 ++ leBytes 4 fsw ++ (d.drop 16).take 44
      s.hbmWrite base (d ++ leBytes 4 (crc32c d))
    | none => s
  if s.rd64 R.SFE_S_LASTFID_LO R.SFE_S_LASTFID_HI [f.stream] = f.fid then s.wr R.SFE_S_LASTFSW [f.stream] fsw else s

/-- SFE must reuse a slot whose frame RCT has not been fed whole: the frame is not processed (R194, R300). -/
def slotReuse (s : State) (p : Nat) (slot : Option Nat) : State :=
  (s.frames.filter fun f => f.pipe = p && some f.slot = slot && f.units.contains .rct).foldl (fun (t : State) f =>
    let t : State := { t with frames := t.frames.filter fun g => g ≠ f }
    let t := f.owes.foldl (fun (u : State) o => u.showBusy o.1 o.2) t
    (t.markDropped f).recGap p f.fid f.time f.epoch) s

/-- A frame that has opened enters its pipeline, unless it finds no slot or a patch drops it (R145, R185). -/
def openEnter (s : State) (p n fid epoch w h : Nat) (embed : Option Bytes) (slot : Option Nat) : State :=
  let s := s.slotReuse p slot
  let s := s.replayLate p slot
  let drop : Bool := (s.pipeSt p).draining && (s.pipeSt p).drops
  let s := match slot with | some k => s.capOpen p fid k s.dt | none => s
  let route := routeOf (s.graphOf epoch) p
  if drop || slot.isNone then
    let s := if drop then (s.modPipe p fun x => { x with dropped := x.dropped + 1 }) else s
    (s.flagOpen n fswDropped).recGap p fid s.dt epoch
  else
    let s := (s.modPipe p fun x => { x with lastFid := some fid }).patchGap p fid
    if route.isEmpty then s
    else
      let f : Frame := ⟨p, n, fid, epoch, s.dt, 0, slot.getD 0, w, h, [], route, [], [], [], [], embed, [], 0, none, none,
        (s.pipeSt p).draining, [], [], none, none, epoch, [], []⟩
      ({ s with frames := s.frames ++ [f] }).trace srcSFE 0 n epoch fid

/-- Open a frame on stream `n` with this counter (R168, R172, R125). `free` says the counter checks are off (R183). -/
def openFrame (s : State) (n counter : Nat) (free : Bool) (bitsSet : List Nat) : State :=
  match s.graph.stream? n with
  | none => s
  | some r =>
    let pipe := s.graph.pipeOf n
    let o := s.openNumber n pipe counter free
    let s := o.1
    let fid := o.2.1
    let epoch := match pipe with | some p => s.pipeEpoch p | none => s.rd R.DEV_EPOCH_IN
    let w := s.geomOf epoch Fl.SFE_S_GEOM_width n r.width
    let h := s.geomOf epoch Fl.SFE_S_GEOM_height n r.height
    let m := s.sgBoundary n s.dt
    let s := m.1
    let bitsSet := bitsSet ++ o.2.2 ++ (if m.2.2 then [fswLate] else [])
    let slot := match pipe with | some p => s.nextSlot p n | none => none
    let embed := (s.streamSt n).lastEmbed
    let s := s.modStream n fun x => { x with
      opened := some ⟨fid, epoch, pipe, counter, free, bitsSet.foldl setBit 0, s.dt, s.time.clk, w, h,
        s.eff epoch Fl.SFE_S_OB_ob_rows [n], s.eff epoch Fl.SFE_S_OB_ob_cols [n], slot, m.2.1, [], 0, 0,
        (if r.mosaic ≠ 0 && 0 < s.eff epoch Fl.SFE_S_OB_ob_rows [n] then
          (List.range r.exposures).filter fun e => firstFed (s.sourcesOf r epoch w h) e else []), embed, 0,
        s.sourcesOf r epoch w h⟩
      fid := fid, lastCounter := counter, seen := true
      slot := match slot, pipe with | some k, some p => (k + 1) % (s.cap p).depth | _, _ => x.slot }
    match pipe with
    | none => s
    | some p => s.openEnter p n fid epoch w h embed slot

/-- Does a die count as closed for R179. -/
def dieDone (q : Src) : Bool := q.st = 2 || q.st = 3

/-- An FE closes a source; the frame closes with the last one that has not been excluded (R169, R179). -/
def closeSrc (s : State) (n die : Nat) : State :=
  let s := s.modOpen n fun f => { f with srcs := f.srcs.map fun q => if q.die = die && q.st ≠ 3 then { q with st := 2 } else q }
  match (s.streamSt n).opened with
  | some f => if f.srcs.all dieDone then s.closeFrame n [] else s
  | none => s

/-- A source opens within an open frame (R179): excluded when it comes late or with another counter. -/
def openSrc (s : State) (n die counter : Nat) (fs : Bool) : State :=
  match (s.streamSt n).opened with
  | none => s
  | some f =>
    let late : Bool := f.dt + s.effS n Fl.SFE_S_TIMING_die_skew * 100 < s.dt
    let bad : Bool := counter ≠ f.counter && !f.free
    let s := if fs then s else s.flagOpen n fswFsMissing
    let s := if late then s.flagOpen n fswDieLate else s
    let s := if bad then s.flagOpen n fswDieMismatch else s
    let s := s.modOpen n fun g => { g with srcs := g.srcs.map fun q =>
      if q.die = die then { q with st := if late || bad then 3 else 1, cnt := counter } else q }
    let s := if late || bad then s.modStream n fun x => { x with excl := (die, counter) :: x.excl.filter fun e => e.1 ≠ die }
      else s.modStream n fun x => { x with excl := x.excl.filter fun e => e.1 ≠ die }
    match (s.streamSt n).opened with
    | some f => if f.srcs.all dieDone then s.closeFrame n [] else s
    | none => s

/-- Does die `die` of stream `n` own the open frame's source state `st`. -/
def srcState (s : State) (n die : Nat) : Option Src := ((s.streamSt n).opened).bind fun f => f.srcs.find? fun q => q.die = die

/-- What becomes of a packet's counter (R168, R179). -/
inductive Fate where
  /-- the packet belongs to the open frame -/
  | belongs
  /-- the packet is discarded; counted says SFE_Gg_CNT.bad_pkt -/
  | discard (counted : Bool)

/-- Apply the opening rules to a packet of (stream, die, counter); afterwards the frame it belongs to is open, or it is
discarded. An excluded die closes no logical frame: what it sends, a new opening too, is discarded until the frame has closed (R179;
DEDUCED, log 104). -/
def acceptPacket (s : State) (n die counter : Nat) (fs free : Bool) : State × Fate :=
  let st := s.streamSt n
  if st.excl.contains (die, counter) then (s, .discard false)
  else
    let begin_ (t : State) : State × Fate :=
      let t := t.openFrame n counter free (if fs then [] else [fswFsMissing])
      let t := t.modOpen n fun g => { g with srcs := g.srcs.map fun q => if q.die = die then { q with st := 1, cnt := counter } else q }
      (t.modStream n fun x => { x with excl := x.excl.filter fun e => e.1 ≠ die }, .belongs)
    match st.opened with
    | none => if st.lastClosed = some counter && !free then (s, .discard true) else begin_ s
    | some f =>
      if free then (if fs then begin_ (s.closeFrame n [fswFeMissing]) else (s, .belongs))
      else
        match s.srcState n die with
        | none => (s, .discard true)
        | some q =>
          if q.st = 0 then
            if st.lastClosed = some counter && counter ≠ f.counter then (s, .discard true)
            else
              let t := s.openSrc n die counter fs
              (t, if ((t.srcState n die).map fun q => q.st) = some 1 then .belongs else .discard false)
          else if q.st = 3 then (s, .discard false)
          else if counter = q.cnt then (if q.st = 1 then (s, .belongs) else (s, .discard (q.st = 2)))
          else if st.lastClosed = some counter then (s, .discard true)
          else begin_ (s.closeFrame n [fswFeMissing])

/-! ### Sensor Link packets (R161 to R165) -/

/-- The stream and die that a packet of a group names (R164, R177). -/
def streamFor (s : State) (g st : Nat) : Option StreamRec :=
  s.graph.streams.find? fun r => r.source = 0 && r.group = g &&
    (if r.mosaic = 0 then r.stream = st
     else (s.sourcesOf r (s.streamEpoch r.id) r.width r.height).any fun q => q.die = st)

/-- FSW.bad_pkt on every frame open on a group (R164). -/
def flagGroup (s : State) (g b : Nat) : State :=
  s.graph.streams.foldl (fun (t : State) r => if r.source = 0 && r.group = g then t.flagOpen r.id b else t) s

def badPkt (s : State) (g : Nat) : State := s.inc Fl.SFE_G_CNT_bad_pkt [g]

/-- A packet is a whole number of container groups at a group's column (R164). -/
def wholeGroups (cont length column : Nat) : Bool := length % contBytes cont = 0 && column % contSamples cont = 0

/-- Embedded data: cut beyond 64 KiB (R174). -/
def addEmbed (s : State) (n : Nat) (data : Bytes) : State :=
  match (s.streamSt n).opened with
  | some f =>
    let s := s.modOpen n fun g => { g with embed := (f.embed ++ data).take 0x10000 }
    if 0x10000 < f.embed.length + data.length then s.flagOpen n fswAuxCut else s
  | none => s

/-- Samples of a packet reach every source that its die feeds. Samples of an exposure the stream does not have are
discarded (DESIGN CHOICE, log 13). -/
def addToDie (s : State) (n die area e line column : Nat) (vals : List Nat) : State :=
  match (s.streamSt n).opened, s.graph.stream? n with
  | some f, some r =>
    if e < r.exposures then
      (List.range f.srcs.length).foldl (fun (t : State) i =>
        if ((f.srcs[i]?).map fun q => q.die) = some die then t.addSamples n i area e line column vals else t) s
    else s
  | _, _ => s

/-- A whole Sensor Link packet arrives on group `g` (R162 to R169). -/
def slkPacket (s : State) (g : Nat) (pkt : Bytes) : State :=
  let h := parseHdr pkt
  let data := (pkt.drop 16).take h.length
  if pkt.length < 16 || crc16 (pkt.take 14) ≠ h.hcrc then (s.badPkt g).flagGroup g fswBadPkt
  else
    match s.streamFor g h.stream with
    | none => s.badPkt g
    | some r =>
      let n := r.id
      let lineLike : Bool := h.typ = 3 || h.typ = 4
      if h.typ = 0 || 5 < h.typ || 32768 < h.length || data.length < h.length
          || (lineLike && !(wholeGroups r.container h.length h.column)) then
        (s.badPkt g).flagOpen n fswBadPkt
      else
        let a := s.acceptPacket n h.stream h.counter (h.typ = 1) false
        match a.2 with
        | .discard counted => if counted then a.1.badPkt g else a.1
        | .belongs =>
          let s := a.1
          let crcBad : Bool := crc32c data ≠ h.pcrc
          let s := if crcBad then (s.flagOpen n fswPayloadCrc).inc Fl.SFE_S_ERRCNT_crc_err [n] else s
          let drop : Bool := crcBad && s.effS n Fl.SFE_S_CTRL_crc_pad = 1
          match h.typ with
          | 2 => s.closeSrc n h.stream
          | 3 => if drop then s else s.addToDie n h.stream 0 h.exposure h.line h.column (unpackAll r.container data)
          | 4 => if drop then s else s.addToDie n h.stream 1 h.exposure h.line h.column (unpackAll r.container data)
          | 5 => s.addEmbed n data
          | _ => s

/-- A packet row: the packet at the head of the group's assembled packets is the one taken, if it is there. -/
def takePacket (s : State) (g : Nat) (pkt : Bytes) : State :=
  { s with groups := modNth s.groups g fun x => if x.ready.head? = some pkt then { x with ready := x.ready.drop 1 } else x }

/-- SFE accepts packets while its core is powered, until standby is being entered (R156, R584). -/
def sfeTakes (s : State) : Bool := s.powered .sfe && s.get Fl.CPR_STANDBY_state = 0

/-- A group takes packets while it is UP (R160). -/
def groupUp (s : State) (g : Nat) : Bool := s.sfeTakes && s.flag Fl.SFE_G_STAT_up [g]

/-- The state of the ingest write buffer: overflowing, its client has run dry (R185, R393). -/
def bufferFull (s : State) (full : Bool) : State :=
  let s := if full && !s.sfeFull then s.inc Fl.HBMC_RTMISS_count else s
  { s with sfeFull := full }

/-- A packet of one of the given types arrives on a group that is UP; anything else leaves the state. -/
def packetRow (s : State) (g : Nat) (types : Nat → Bool) (pkt : Bytes) (full : Bool) : State :=
  if g < 16 && s.groupUp g && types (parseHdr pkt).typ then
    ((s.bufferFull full).takePacket g pkt).slkPacket g pkt
  else s

/-! ### CSI-2 (R181 to R183) -/

def csiStream (s : State) (c vc : Nat) : Option StreamRec :=
  s.graph.streams.find? fun r => r.source = 1 && r.group = c && r.stream = vc

def csiDropped (s : State) (c : Nat) : State := s.inc Fl.SFE_C_CNT_dropped [c]

/-- EV_CSI_ERR (R190): packets discarded since the last record. -/
def csiErr (s : State) (c packets : Nat) : State := s.evLimited 0x0053 srcSFE c (s.rd R.DEV_EPOCH_IN) noFrame packets

/-- A CSI-2 packet reaches a port: header errors and virtual channels first (R181, R183), then the packet itself. -/
def csiHeader (s : State) (c : Nat) (h : CsiHdr) (body : State → State) : State :=
  if !(c < 4 && s.sfeTakes && s.graph.portOn 2 c) then s
  else if !h.eccOk then
    let s := s.graph.streams.foldl (fun (t : State) r => if r.source = 1 && r.group = c then t.flagOpen r.id fswBadPkt else t) s
    ((s.put Fl.SFE_C_STAT_ecc_fail [c] 1).csiDropped c).csiErr c 1
  else
    let s := if h.eccFixed then s.inc Fl.SFE_C_CNT_ecc_fixed [c] else s
    if 15 < h.vc then s.csiDropped c else body s

/-- A packet for the stream of its channel. -/
def csiPacket (s : State) (c : Nat) (h : CsiHdr) (body : StreamRec → State → State) : State :=
  s.csiHeader c h fun s => match s.csiStream c h.vc with
    | none => s.csiDropped c
    | some r => body r s

/-- A failing payload CRC on a CSI-2 port (R165, R183). -/
def csiCrc (s : State) (c n : Nat) (ok : Bool) : State :=
  if ok then s
  else (((s.put Fl.SFE_C_STAT_crc_fail [c] 1).csiErr c 0).flagOpen n fswPayloadCrc).inc Fl.SFE_S_ERRCNT_crc_err [n]

end State

/-- FS (R163, R168). -/
def execFs (g : Nat) (pkt : Bytes) (s : State) : Res := .next (s.packetRow g (fun t => t = 1) pkt s.sfeFull)

/-- FE (R163, R169). -/
def execFe (g : Nat) (pkt : Bytes) (s : State) : Res := .next (s.packetRow g (fun t => t = 2) pkt s.sfeFull)

/-- LINE (R163, R167). Packets of a reserved type, which are malformed, come by this row too. `full` says whether the ingest write
buffer has overflowed (R185): it stays so until another line says otherwise (log 85). -/
def execLine (g : Nat) (pkt : Bytes) (s : State) (full : Bool := false) : Res :=
  .next (s.packetRow g (fun t => t = 3 || t = 0 || 5 < t) pkt full)

/-- OBLINE (R163, R167). -/
def execObline (g : Nat) (pkt : Bytes) (s : State) (full : Bool := false) : Res :=
  .next (s.packetRow g (fun t => t = 4) pkt full)

/-- EMBED (R163). -/
def execEmbed (g : Nat) (pkt : Bytes) (s : State) : Res := .next (s.packetRow g (fun t => t = 5) pkt s.sfeFull)

/-- Span of a stream's frame timeout in ns (R170): 0 means twice the nominal period of the STREAM record. -/
def State.timeoutSpan (s : State) (r : StreamRec) : Nat :=
  let t := s.effS r.id Fl.SFE_S_TIMING_timeout
  if t = 0 then 2 * r.period else 1000 * t

/-- FRAME_TIMEOUT (R169, R170): the open frame closes once its timeout has passed since its boundary; the clock moves on to that instant
(log 35). -/
def execFrameTimeout (stream : Nat) (s : State) : Res :=
  match (s.streamSt stream).opened, s.graph.stream? stream with
  | some f, some r => .next ((s.reachClk (f.clk + s.timeoutSpan r)).closeFrame stream [fswFeMissing])
  | _, _ => .next s

/-- CSI2_FS (R183): the frame number is the counter; 0 turns the counter checks off. -/
def execCsi2Fs (c : Nat) (h : CsiHdr) (s : State) : Res :=
  .next (s.csiPacket c h fun r s =>
    let a := s.acceptPacket r.id r.stream h.wc true (h.wc = 0)
    match a.2 with
    | .belongs => a.1
    | .discard _ => a.1.csiDropped c)

/-- CSI2_FE (R183). -/
def execCsi2Fe (c : Nat) (h : CsiHdr) (s : State) : Res :=
  .next (s.csiPacket c h fun r s =>
    match (s.streamSt r.id).opened with
    | some f => if f.free then s.closeSrc r.id r.stream
      else
        let a := s.acceptPacket r.id r.stream h.wc false false
        match a.2 with
        | .belongs => a.1.closeSrc r.id r.stream
        | .discard _ => a.1.csiDropped c
    | none => if h.wc = 0 then s.csiDropped c
      else
        let a := s.acceptPacket r.id r.stream h.wc false false
        match a.2 with
        | .belongs => a.1.closeSrc r.id r.stream
        | .discard _ => a.1.csiDropped c)

/-- CSI2_RAW_LONG_PACKET (R182, R183): the n-th packet after FS is line n − ob_rows. A raw packet carries no frame number,
so one that finds no open frame is discarded and counted (DEDUCED, log 14). -/
def execCsi2Raw (c : Nat) (h : CsiHdr) (data : Bytes) (s : State) (full : Bool := false) : Res :=
  .next (s.csiPacket c h fun r s =>
    let s := s.bufferFull full
    if h.dt ≠ 0x2B + r.container then s.csiDropped c
    else if !(State.wholeGroups r.container data.length 0) then (s.csiDropped c).flagOpen r.id fswBadPkt
    else match (s.streamSt r.id).opened with
      | none => s.csiDropped c
      | some f =>
        let s := s.csiCrc c r.id h.crcOk
        let s := s.modOpen r.id fun g => { g with raws := g.raws + 1 }
        if !h.crcOk && s.effS r.id Fl.SFE_S_CTRL_crc_pad = 1 then s
        else if f.raws < f.obRows then s.addToDie r.id r.stream 1 0 f.raws 0 (unpackAll r.container data)
        else s.addToDie r.id r.stream 0 0 (f.raws - f.obRows) 0 (unpackAll r.container data))

/-- CSI2_EMBEDDED_PACKET (R183). -/
def execCsi2Embedded (c : Nat) (h : CsiHdr) (data : Bytes) (s : State) : Res :=
  .next (s.csiPacket c h fun r s =>
    match (s.streamSt r.id).opened with
    | none => s.csiDropped c
    | some _ => (s.csiCrc c r.id h.crcOk).addEmbed r.id data)

/-- CSI2_IGNORED_SHORT_PACKET (R181): accepted and ignored; a header error still counts. -/
def execCsi2Ignored (c : Nat) (h : CsiHdr) (s : State) : Res := .next (s.csiHeader c h fun s => s)

end Sys2Proof.Machine
end

