-- ==== Sys2Proof/Machine/Link.lean ====
section
/-! DEFINITION. Sensor Link lanes and groups (R151 to R161): lock, ALIGN blocks, deskew, and packets from blocks. -/

namespace Sys2Proof.Machine

/-- Control block types (R154). -/
def blkIdle : Nat := 0x33
def blkStart : Nat := 0x2D
def blkTerm : Nat := 0xD2
def blkAlign : Nat := 0xA5

/-- Descramble a payload with the 58 bits received before it (R153); the second result is the new 58 bits. -/
def descramble (scr payload : Nat) : Nat × Nat :=
  let x := scr % 2 ^ 58 + payload % 2 ^ 64 * 2 ^ 58
  (((payload % 2 ^ 64) ^^^ (x / 2 ^ 19) ^^^ x) % 2 ^ 64, x / 2 ^ 64 % 2 ^ 58)

/-- XOR of the bytes of a 64-bit payload (R157, BIP-8). -/
def xorBytes (v : Nat) : Nat := (List.range 8).foldl (fun a i => a ^^^ (v / 256 ^ i % 256)) 0

/-- Is a payload an ALIGN block by its fixed bytes (R157). -/
def isAlign (v : Nat) : Bool :=
  v % 256 = blkAlign && v / 2 ^ 32 % 2 ^ 24 = 0x69C33C && (v / 2 ^ 8 % 256) ^^^ (v / 2 ^ 24 % 256) = 255

/-- Is a block in error by itself (R154): sync header coded as 2 for 0-then-1 (data) and 1 for 1-then-0 (control). -/
def blockError (sync payload : Nat) : Bool :=
  !(sync = 2 || (sync = 1 && (payload = blkIdle || payload = blkStart || payload = blkTerm)))

namespace State

def lane (s : State) (l : Nat) : Lane := s.lanes.getD l Lane.init
def modLane (s : State) (l : Nat) (f : Lane → Lane) : State := { s with lanes := modNth s.lanes l f }
def grp (s : State) (g : Nat) : GroupSt := s.groups.getD g GroupSt.init
def modGrp (s : State) (g : Nat) (f : GroupSt → GroupSt) : State := { s with groups := modNth s.groups g f }

def laneState (s : State) (l : Nat) : Nat := s.get Fl.SFE_L_STAT_state [l]
def setLane (s : State) (l v : Nat) : State := s.put Fl.SFE_L_STAT_state [l] v

/-- The group port that holds a lane (R156). -/
def laneGroup (s : State) (l : Nat) : Option PortRec :=
  s.graph.ports.find? fun p => p.cls = 1 && p.enable && p.first ≤ l && l < p.first + p.count

def groupLanes (s : State) (g : Nat) : List Nat :=
  match s.graph.port? 1 g with
  | some p => if p.enable then (List.range p.count).map fun i => p.first + i else []
  | none => []

/-- Lanes 0 to 31 lie in PD3, lanes 32 to 63 in PD4; every group needs PD3 (R156). -/
def laneOn (s : State) (l : Nat) : Bool := s.domainOn 3 && (l < 32 || s.domainOn 4)

/-- Enabled lanes are in SIGNAL or above, others OFF (R155). Run at every change of the ports or the domains. -/
def lanesSync (s : State) : State :=
  let s := (List.range 64).foldl (fun (t : State) l =>
    match t.laneGroup l with
    | some p =>
      let t := t.put Fl.SFE_L_STAT_group [l] p.index
      if t.laneOn l then (if t.laneState l = 0 then (t.modLane l fun _ => Lane.init).setLane l 1 else t) else t.setLane l 0
    | none => t.setLane l 0) s
  (List.range 16).foldl (fun (t : State) g => t.put Fl.SFE_G_STAT_lanes [g] (((t.graph.port? 1 g).map fun p => p.count).getD 0)) s

def laneErr (s : State) (l : Nat) : State := s.inc Fl.SFE_L_ERR_sync_err [l]

/-- A group leaves UP (R160). -/
def groupDown (s : State) (g first : Nat) : State :=
  if !(s.flag Fl.SFE_G_STAT_up [g]) then s
  else
    let feeds := s.graph.streams.any fun r => r.source = 0 && r.group = g && (s.graph.pipeOf r.id).isSome
    let s := s.graph.streams.foldl (fun (t : State) r =>
      if r.source = 0 && r.group = g then t.closeFrame r.id [fswLinkDown] else t) s
    let s := (s.groupLanes g).foldl (fun (t : State) l =>
      let t := t.modLane l fun x => { x with buf := [] }
      if 3 < t.laneState l then t.setLane l 3 else t) s
    let s := s.modGrp g fun _ => GroupSt.init
    let s := ((s.put Fl.SFE_G_STAT_up [g] 0).put Fl.SFE_G_STAT_went_down [g] 1).inc Fl.SFE_G_CNT_down_count [g]
    if feeds then s.ev 0x4050 srcSFE g first else s

/-- A lane falls to a lower state (R155). -/
def laneFall (s : State) (l down : Nat) : State :=
  let s := s.setLane l down
  let s := s.modLane l fun x => { x with valids := 0, hist := [], misses := 0, buf := [], logical := none }
  match s.laneGroup l with
  | some p => s.groupDown p.index l
  | none => s

/-- The group deskews when every lane is in MARKER or SKEW and their ALIGN blocks of one marker period have arrived
(R155, R158, R159). Skew is counted in blocks received since a lane's ALIGN block (log 15). -/
def deskew (s : State) (g : Nat) : State :=
  let ls := s.groupLanes g
  let n := ls.length
  let since (l : Nat) : Nat := (s.lane l).since
  if ls.isEmpty || s.flag Fl.SFE_G_STAT_up [g] then s
  else if !(ls.all fun l => 3 ≤ s.laneState l && since l < 8192) then s
  else if !((List.range n).all fun k => (ls.filter fun l => (s.lane l).logical = some k).length = 1) then s
  else if !(ls.all fun l => 2 ^ (s.lane l).countCode = n) then s
  else
    let low := ls.foldl (fun a l => min a (since l)) 8192
    let skew := ls.foldl (fun a l => max a (since l)) 0 - low
    if 4 < skew then
      (ls.foldl (fun (t : State) l => t.setLane l 5) s).put Fl.SFE_G_STAT_deskew_fail [g] 1
    else
      let s := ls.foldl (fun (t : State) l => (t.setLane l 4).put Fl.SFE_L_STAT_delay [l] (since l - low)) s
      let s := s.modGrp g fun _ => GroupSt.init
      let s := ((s.put Fl.SFE_G_STAT_skew [g] skew).put Fl.SFE_G_STAT_up [g] 1).put Fl.SFE_G_CTRL_reacquire [g] 0
      s.ev 0x0050 srcSFE g n

/-- Words of a packet that are still to come, its TERM apart (R161). -/
def wordsLeft (p : List Nat) : Nat :=
  match p with
  | a :: _ :: _ => 2 + ceilDiv (a / 2 ^ 48 % 2 ^ 16) 8 - p.length
  | _ => 2 - p.length

/-- What a block in error leaves in a lane's stream: its error is counted as it arrives. -/
def blkBad : Nat := 2 ^ 64

/-- One block of the group's stream, in logical order, on physical lane `l` (R161): a block in error takes the packet in whose place it
stands. -/
def streamBlock (s : State) (g l : Nat) (data : Bool) (v : Nat) : State :=
  let x := s.grp g
  let drop (t : State) : State := (t.modGrp g fun y => { y with pkt := none }).laneErr l
  if v = blkBad then s.modGrp g fun y => { y with pkt := none }
  else if data then
    match x.pkt with
    | some p => if p.length < 2 || wordsLeft p ≠ 0 then s.modGrp g fun y => { y with pkt := some (p ++ [v]) } else drop s
    | none => drop s
  else if v = blkStart then
    match x.pkt with
    | some _ => (drop s).modGrp g fun y => { y with pkt := some [] }
    | none => s.modGrp g fun y => { y with pkt := some [] }
  else if v = blkTerm then
    match x.pkt with
    | some p =>
      if 2 ≤ p.length && wordsLeft p = 0 then
        let b := p.flatMap fun w => leBytes 8 w
        s.modGrp g fun y => { y with pkt := none, ready := y.ready ++ [b.take (16 + fieldLe b 6 2)] }
      else drop s
    | none => s
  else s

/-- Take blocks from the lanes in logical order while the next lane has one (R157). -/
def pump (s : State) (g : Nat) : Nat → State
  | 0 => s
  | fuel + 1 =>
    let ls := s.groupLanes g
    match ls.find? fun l => (s.lane l).logical = some (s.grp g).next with
    | some l =>
      match (s.lane l).buf with
      | (d, v) :: t =>
        let s := s.modLane l fun x => { x with buf := t }
        let s := s.modGrp g fun x => { x with next := (x.next + 1) % ls.length }
        (s.streamBlock g l d v).pump g fuel
      | [] => s
    | none => s

def pumpAll (s : State) (g : Nat) : State := s.pump g (sumOf (fun l => (s.lane l).buf.length) (s.groupLanes g))

/-- An expected ALIGN block is missing or wrong (R155): the fourth in a row drops the lane to BLOCK. -/
def alignMiss (s : State) (l : Nat) : State :=
  let s := s.modLane l fun x => { x with misses := x.misses + 1, since := 0, bip := 0 }
  if 4 ≤ (s.lane l).misses && 3 ≤ s.laneState l then s.laneFall l 2 else s

/-- 64 valid sync headers in a row bring a lane to BLOCK (R155). -/
def blockLock (s : State) (l : Nat) : State :=
  (s.setLane l 2).modLane l fun y => { y with hist := [], logical := none, since := 0 }

/-- An ALIGN block arrives (R157, R158, R159). It counts among the valid sync headers and the blocks of R155. -/
def alignBlock (s : State) (l v : Nat) : State :=
  let num := v / 2 ^ 8 % 256
  let s := s.modLane l fun y => { y with valids := min (y.valids + 1) 64, hist := (false :: y.hist).take 64 }
  let s := if s.laneState l = 1 && 64 ≤ (s.lane l).valids then s.blockLock l else s
  let x := s.lane l
  if s.laneState l < 2 then s
  else if !(isAlign v) then (if 3 ≤ s.laneState l && x.since = 16384 then s.alignMiss l else s)
  else
    let known := x.logical.isSome
    let s := if known && v / 2 ^ 56 % 256 ≠ x.bip then s.inc Fl.SFE_L_ERR_bip_err [l] else s
    if x.since = 16384 && x.logical = some num then
      let s := s.modLane l fun y => { y with misses := 0, since := 0, bip := 0, countCode := v / 2 ^ 16 % 256, buf := if 3 < s.laneState l then y.buf else [] }
      let s := if s.laneState l = 2 then s.setLane l 3 else if s.laneState l = 5 then s.setLane l 3 else s
      let s := s.put Fl.SFE_L_STAT_logical [l] num
      match s.laneGroup l with
      | some p => (s.deskew p.index).pumpAll p.index
      | none => s
    else if 3 ≤ s.laneState l then (if x.since = 16384 then s.alignMiss l else s)
    else
      let s := s.modLane l fun y => { y with logical := some num, countCode := v / 2 ^ 16 % 256, since := 0, bip := 0, buf := [] }
      s.put Fl.SFE_L_STAT_logical [l] num

/-- A received block that is not an ALIGN block (R152 to R155). -/
def lineBlock (s : State) (l sync payload : Nat) : State :=
  let x := s.lane l
  let valid : Bool := sync = 1 || sync = 2
  let d := descramble x.scr payload
  let bad := blockError sync d.1
  let st := s.laneState l
  let missed : Bool := 2 ≤ st && x.since = 16384 && x.logical.isSome
  let s := s.modLane l fun y => { y with
    scr := d.2
    valids := if valid then min (y.valids + 1) 64 else 0
    hist := (bad :: y.hist).take 64
    bip := y.bip ^^^ xorBytes payload
    since := y.since + 1 }
  let s := if bad then (s.laneErr l).gustFeed kindSlkLane l else s
  if st = 1 then
    if 64 ≤ (s.lane l).valids then s.blockLock l else s
  else
    let s := if missed then (if 3 ≤ st then s.alignMiss l else s.modLane l fun y => { y with logical := none }) else s
    let s := if 16 ≤ ((s.lane l).hist.filter fun b => b).length then s.laneFall l 1 else s
    if 3 ≤ s.laneState l && !missed then
      let s := s.modLane l fun y => { y with buf := if 3 < s.laneState l || y.buf.length < 8 then y.buf ++ [if bad then (false, blkBad) else (sync == 2, d.1)] else y.buf }
      match s.laneGroup l with
      | some p => if s.flag Fl.SFE_G_STAT_up [p.index] then s.pumpAll p.index else s
      | none => s
    else s

/-- A 64b/66b block arrives (R154). ALIGN blocks are not scrambled (R153) and are recognised by their fixed bytes. -/
def slkBlock (s : State) (l sync payload : Nat) : State :=
  if !(l < 64 && s.laneOn l && 1 ≤ s.laneState l) then s
  else if sync = 1 && isAlign (payload % 2 ^ 64) then s.alignBlock l (payload % 2 ^ 64)
  else s.lineBlock l (sync % 4) (payload % 2 ^ 64)

/-- A write of 1 to SFE_Gg_CTRL.reacquire (R34, R155). -/
def reacquire (s : State) (g : Nat) : State :=
  if s.flag Fl.SFE_G_CTRL_reacquire [g] then s else
  let s := s.groupDown g ((s.groupLanes g).headD 0)
  let s := (s.groupLanes g).foldl (fun (t : State) l =>
    if t.laneState l = 0 then t else (t.modLane l fun x => { Lane.init with scr := x.scr }).setLane l 1) s
  s.put Fl.SFE_G_CTRL_reacquire [g] 1

end State

/-- SLK_BLOCK (R154). -/
def execSlkBlock (lane sync payload : Nat) (s : State) : Res := .next (s.slkBlock lane sync payload)

/-- ALIGN_BLOCK (R158). -/
def execAlignBlock (lane payload : Nat) (s : State) : Res :=
  .next (if lane < 64 && s.laneOn lane && 1 ≤ s.laneState lane then s.alignBlock lane (payload % 2 ^ 64) else s)

/-- REACQUIRE (R155). -/
def execReacquire (g : Nat) (s : State) : Res :=
  if g < 16 then .next (s.onUnit .sfe fun s => s.reacquire g) else .next s

/-- REACQUIRE_TIMEOUT (R155): the bit clears after 10 ms. -/
def execReacquireTimeout (g : Nat) (s : State) : Res :=
  if g < 16 then .next (s.put Fl.SFE_G_CTRL_reacquire [g] 0) else .next s

end Sys2Proof.Machine
end

