-- ==== Sys2Proof/Machine/Rct.lean ====
section
/-! DEFINITION. Raw correction (R191 to R217): stripes, the six stages, the frame context and calibration reads. -/

namespace Sys2Proof.Machine

/-- CFA phase of an active pixel (R198). -/
def phase (p x y : Nat) : Nat := y % p * p + x % p

/-- Median element floor((n − 1) / 2) in ascending order (R211). -/
def lowmed (l : List F32) : F32 := (sortBy F32.lt l).getD ((l.length - 1) / 2) F32.zero

/-- One exposure's settings for a frame. -/
structure ExpSet where
  ped : F32
  k : F32
  clip : Nat
  g : F32
  sr : F32
  dq : F32
  dark : Nat
  deriving DecidableEq, Repr

/-- The settings and calibration of a frame in RCT. -/
structure RctSet where
  epoch : Nat
  p : Nat
  lin : Bool
  merge : Nat
  mthr : F32
  darkOn : Bool
  ffOn : Bool
  ob : Nat
  dyn : Nat
  staticOn : Bool
  xtOn : Bool
  bank : Nat
  dthr : F32
  exps : List ExpSet
  deriving DecidableEq, Repr

/-- The frame context (R208): T, dark scales, R by exposure × 16 + phase, K, and the stale bits. -/
structure Ctx where
  t : F32
  dscale : List F32
  r : List F32
  k : List F32
  obStale : Bool
  tempStale : Bool
  deriving DecidableEq, Repr

/-- The merge of one pixel (R202, R203): value, weights, their sum, tag, sat, and exposure uses that the motion test refused. -/
structure Merged where
  m : F32
  w : List F32
  wsum : F32
  tag : Nat
  sat : Bool
  refused : Nat
  deriving DecidableEq, Repr

def fsum (l : List F32) : F32 :=
  match l with
  | [] => F32.zero
  | x :: t => t.foldl F32.add x

/-- The merge (R202, R203). -/
def mergePixel (c : RctSet) (l24 : List Nat) : Merged :=
  let n := if c.merge = 0 || c.exps.length = 1 then 1 else c.exps.length
  let idx := List.range n
  let ex (e : Nat) : ExpSet := c.exps.getD e ⟨.zero, .zero, 0, .zero, .zero, .zero, 0⟩
  let v (e : Nat) : F32 := ((F32.ofNat (l24.getD e 0)).sub (ex e).ped).mul (ex e).k
  let ok (e : Nat) : Bool := l24.getD e 0 < (ex e).clip
  let sat := !(idx.any ok)
  if n = 1 then ⟨v 0, [F32.ofNat 1], F32.ofNat 1, 0, sat, 0⟩
  else
    let order := sortBy (fun a b => F32.lt (ex a).k (ex b).k) idx
    let ref := (order.find? ok).getD (order.getLast?.getD 0)
    if c.merge = 2 then ⟨v ref, idx.map fun e => if e = ref then F32.ofNat 1 else F32.zero, F32.ofNat 1, ref, sat, 0⟩
    else
      let s := F32.fmax (v ref) F32.zero
      let th := c.mthr.div (F32.ofNat 16)
      let t2 := th.mul th
      let var (e : Nat) : F32 := (s.div (ex e).g).add ((ex e).sr.mul (ex e).sr)
      let near (e : Nat) : Bool :=
        c.mthr = F32.zero || F32.le (((v e).sub (v ref)).mul ((v e).sub (v ref))) (t2.mul ((var e).add (var ref)))
      let use (e : Nat) : Bool := e = ref || (ok e && near e)
      let w := idx.map fun e => if use e then (F32.ofNat 1).div (var e) else F32.zero
      let wsum := fsum w
      let m := (fsum (idx.map fun e => (w.getD e .zero).mul (v e))).div wsum
      let tag := idx.foldl (fun b e => if F32.lt (w.getD b .zero) (w.getD e .zero) then e else b) 0
      ⟨m, w, wsum, tag, sat, (idx.filter fun e => e ≠ ref && ok e && !(near e)).length⟩

/-- Does an entry list a pixel (R210). -/
def Defect.lists (d : Defect) (x y : Nat) : Bool :=
  match d.kind with
  | 0 => d.x = x && d.y = y
  | 1 => d.x = x && d.y ≤ y && y < d.y + d.len
  | _ => d.y = y && d.x ≤ x && x < d.x + d.len

/-- Does an entry apply to a pixel with this tag (R210). -/
def Defect.covers (d : Defect) (x y tag : Nat) : Bool := (d.mask = 0 || bit d.mask tag) && d.lists x y

/-- Does an entry touch columns lo to hi − 1 (R212). -/
def Defect.touches (d : Defect) (lo hi : Nat) : Bool := d.x < hi && lo < d.x + if d.kind = 2 then d.len else 1

/-- Take the entries of a map in order (R210): an entry out of order, or that breaks a limit, is skipped; the second result
says whether one was. -/
def takeDefects (l : List Defect) : List Defect × Bool :=
  l.foldl (fun (a : List Defect × Bool) d =>
    if 2 < d.kind || (d.kind ≠ 0 && d.len = 0) then a
    else
      let late := match a.1.head? with
        | some q => d.y < q.y || (d.y = q.y && d.x < q.x)
        | none => false
      let crowded := 4096 ≤ (a.1.filter fun q => q.y = d.y).length
      let runs := d.kind = 1 && (a.1.any fun q => q.kind = 1 && q.y + q.len > d.y) &&
        1024 ≤ (a.1.filter fun q => q.kind = 1 && d.y < q.y + q.len).length
      if late || crowded || runs then (a.1, true) else (d :: a.1, a.2)) ([], false)

namespace State

def f32P (s : State) (e p : Nat) (r : Reg) (ix : List Nat := []) : F32 := F32.ofBits (s.effRd e r (p :: ix))

/-- The RCT settings of a frame of pipeline `p` in epoch `e`. -/
def rctSet (s : State) (p e exps : Nat) : RctSet :=
  let f (d : Fld) : Nat := s.eff e d [p]
  ⟨e, cfaPeriod (f Fl.RCT_STAGE_cfa), f Fl.RCT_STAGE_lin = 1, f Fl.RCT_STAGE_merge, F32.ofNat (f Fl.RCT_MERGE_mthr),
    f Fl.RCT_STAGE_dark_en = 1, f Fl.RCT_STAGE_ff_en = 1, f Fl.RCT_STAGE_ob, f Fl.RCT_STAGE_dyn, f Fl.RCT_STAGE_static_en = 1,
    f Fl.RCT_STAGE_xt_en = 1, f Fl.RCT_STAGE_bank, F32.ofNat (f Fl.RCT_DPC_dthr),
    (List.range exps).map fun k =>
      ⟨s.f32P e p R.RCT_EXP_PED [k], s.f32P e p R.RCT_EXP_K [k], s.eff e Fl.RCT_EXP_CLIP_clip [p, k],
        s.f32P e p R.RCT_EXP_NMG [k], s.f32P e p R.RCT_EXP_NMSR [k],
        F32.ofRat ((2 ^ s.eff e Fl.RCT_EXP_DSHIFT_dshift [p, k] : Nat) : Int) 16,
        s.effRd e R.RCT_EXP_DARK_LO [p, k] + 2 ^ 32 * s.effRd e R.RCT_EXP_DARK_HI [p, k]⟩⟩

/-- Linearisation (R200). -/
def linearise (s : State) (c : RctSet) (p e container code : Nat) : Nat :=
  let b := contBits container
  if !c.lin then code * 2 ^ (24 - b)
  else
    let base := (0x100 + p) * 2 ^ 32 + c.bank * 0x10000 + e * 0x2000
    let at_ (i : Nat) : Int := ((s.lutWord (base + 4 * i) % 2 ^ 24 : Nat) : Int)
    let u := code * 2 ^ (16 - b)
    let i := u / 64
    let v := at_ i + ((at_ (i + 1) - at_ i) * ((u % 64 : Nat) : Int) + 32) / 64
    (min (max v 0) 16777215).toNat

/-- What a calibration read of `n` bytes meets (R215): 0 data, 1 outside every permitted partition, 2 uncorrectable. -/
def calib (s : State) (p e base size a n : Nat) : Nat :=
  if !(s.regionOk (s.graphOf e) p base size) then 1 else if s.poisonedAt a n then 2 else 0

/-- Size of a dark or flat plane of a frame (R214). -/
def planeSize (s : State) (p e w h : Nat) : Nat := (h - 1) * s.eff e Fl.RCT_PITCH_pitch [p] + 2 * w

def darkAt (s : State) (p e base w h x y : Nat) : Int :=
  let a := base + y * s.eff e Fl.RCT_PITCH_pitch [p] + 2 * x
  if s.calib p e base (s.planeSize p e w h) a 2 = 0 then signed 16 (leNat (s.hbmRead a 2)) else 0

def flatBase (s : State) (p e : Nat) : Nat := s.effRd e R.RCT_FLAT_LO [p] + 2 ^ 32 * s.effRd e R.RCT_FLAT_HI [p]

def flatAt (s : State) (p e w h x y : Nat) : Nat :=
  let base := s.flatBase p e
  let a := base + y * s.eff e Fl.RCT_PITCH_pitch [p] + 2 * x
  if s.calib p e base (s.planeSize p e w h) a 2 = 0 then leNat (s.hbmRead a 2) else 16384

def defBase (s : State) (p e : Nat) : Nat := s.effRd e R.RCT_DEF_LO [p] + 2 ^ 32 * s.effRd e R.RCT_DEF_HI [p]

/-- The static map of an epoch (R210, R215): entries, whether one was skipped for order or limits, whether the region failed. A tile reads
it whole to find its part, the entries being sorted by line (DEDUCED, log 106). -/
def defects (s : State) (p e : Nat) : List Defect × Bool × Nat :=
  let n := s.eff e Fl.RCT_DEF_COUNT_entries [p]
  let base := s.defBase p e
  if n = 0 then ([], false, 0)
  else if s.calib p e base (8 * n) base 0 = 1 then ([], false, 1)
  else
    let good := (List.range n).filter fun i => !(s.poisonedAt (base + 8 * i) 8)
    let raw := good.map fun i =>
      let b := s.hbmRead (base + 8 * i) 8
      (⟨fieldLe b 0 2, fieldLe b 2 2, fieldLe b 4 1, fieldLe b 5 1 % 16, fieldLe b 6 2⟩ : Defect)
    let r := takeDefects raw
    (r.1, r.2, if good.length = n then 0 else 2)

/-- The map as a tile has it for a frame whose stripe and overlap take columns lo to hi − 1 (R212): its store, loaded at the first frame of
the epoch, where its part fits; else the map read anew. -/
def tileMap (s : State) (p e tile lo hi : Nat) : State × List Defect × Bool × Nat :=
  match s.defStores.find? fun d => d.tile = tile && d.pipe = p && d.epoch = e with
  | some d => (s, d.entries, false, 0)
  | none =>
    let d := s.defects p e
    let mine := d.1.filter fun q => q.touches lo hi
    let s : State := { s with defStores := (s.defStores.filter fun q => q.tile ≠ tile) ++
      if mine.length ≤ 65536 then [⟨tile, p, e, mine⟩] else [] }
    (s, mine, d.2.1, d.2.2)

/-- A sample of a frame in RCT: from the ingest copy, or from the live feed where the copy has lost the line (R185). -/
def sample (s : State) (f : Frame) (r : StreamRec) (base : Nat) (a : Area) (e y x : Nat) : Nat :=
  match f.spill.find? fun l => l.1 = Src.keyOf 0 e y 0 with
  | some l => l.2.getD (match a with
    | .plane => s.eff f.epoch Fl.SFE_S_OB_ob_cols [f.stream] + x
    | _ => x) 0
  | none => s.peek base r a e y x

/-! ### The frame context (R205, R206, R208) -/

/-- Mean of L24 values, float(sum) / float(count); `none` for no sample (R204). -/
def meanOf (l : List Nat) : Option F32 := if l.isEmpty then none else some ((F32.ofNat l.sum).div (F32.ofNat l.length))

/-- Row mean R[e][c] of a frame (R204). -/
def obRowMean (s : State) (c : RctSet) (r : StreamRec) (p base w obRows e ph : Nat) : Option F32 :=
  let skip := s.eff c.epoch Fl.RCT_OB_row_skip [p]
  meanOf ((List.range obRows).flatMap fun y => if y < skip then [] else (List.range w).filterMap fun x =>
    if phase c.p x y = ph then some (s.linearise c p e r.container (s.peek base r .obRow e y x)) else none)

/-- Column mean C[e](y) of a line (R204). -/
def obColMean (s : State) (c : RctSet) (f : Frame) (r : StreamRec) (base obCols e y : Nat) : Option F32 :=
  let skip := s.eff c.epoch Fl.RCT_OB_col_skip [f.pipe]
  meanOf ((List.range obCols).filterMap fun x =>
    if x < skip then none else some (s.linearise c f.pipe e r.container (s.sample f r base .obCol e y x)))

/-- The temperature of a frame (R206), and whether it is stale. -/
def frameTemp (s : State) (p e : Nat) (embed : Option Bytes) : F32 × Bool :=
  let tval := s.f32P e p R.RCT_TVAL
  if s.eff e Fl.RCT_TSRC_src [p] = 0 then (tval, false)
  else
    let off := s.eff e Fl.RCT_TSRC_offset [p]
    match embed with
    | some b =>
      if b.length < off + 2 then (tval, true)
      else
        let raw := if s.eff e Fl.RCT_TSRC_big [p] = 1 then beNat ((b.drop off).take 2) else fieldLe b off 2
        (((F32.ofInt (signed 16 raw)).mul (s.f32P e p R.RCT_TSCALE)).add (s.f32P e p R.RCT_TOFF), false)
    | none => (tval, true)

/-- dscale[e] (R206). -/
def darkScale (s : State) (p e exp_ : Nat) (t : F32) : F32 :=
  (s.f32P e p R.RCT_EXP_TRATIO [exp_]).mul (F32.exp2 ((t.sub (s.f32P e p R.RCT_TREF)).div (s.f32P e p R.RCT_TDBL)))

def Ctx.encode (c : Ctx) : Bytes :=
  let w (l : List F32) (n : Nat) : Bytes := (List.range n).flatMap fun i => leBytes 4 ((l.getD i F32.zero).toBits)
  let b := w [c.t] 1 ++ w c.dscale 4 ++ w c.r 64 ++ w c.k 4 ++ leBytes 2 (b2n c.obStale + 2 * b2n c.tempStale) ++ leBytes 6 0
  b ++ leBytes 4 (crc32c b)

def Ctx.decode (b : Bytes) : Ctx :=
  let w (i n : Nat) : List F32 := (List.range n).map fun k => F32.ofBits (fieldLe b (i + 4 * k) 4)
  ⟨F32.ofBits (fieldLe b 0 4), w 4 4, w 20 64, w 276 4, bit (fieldLe b 292 2) 0, bit (fieldLe b 292 2) 1⟩

/-- The context of a live frame (R205 to R208). A level that no sample gives comes from the previous frame of the epoch, or
else from the pedestal. No OBLINE carries OB columns (R167), so K never has a sample (log 17). -/
def liveCtx (s : State) (c : RctSet) (f : Frame) (r : StreamRec) (base : Nat) : Ctx :=
  let p := f.pipe
  let obRows := s.eff f.epoch Fl.SFE_S_OB_ob_rows [f.stream]
  let tt := s.frameTemp p f.epoch f.tempEmbed
  let prev : Option (List Nat × List Nat) := match (s.pipeSt p).obPrev with
    | some (e, rs, ks) => if e = f.epoch then some (rs, ks) else none
    | none => none
  let ped (e : Nat) : F32 := s.f32P f.epoch p R.RCT_EXP_PED [e]
  let usesRows : Bool := c.ob = 1 || c.ob = 3
  let rOf (e ph : Nat) : F32 × Bool :=
    match (if f.obStale.contains e then none else s.obRowMean c r p base f.width obRows e ph) with
    | some v => (v, false)
    | none => (((prev.bind fun q => q.1[e * 16 + ph]?).map F32.ofBits).getD (ped e), true)
  let kOf (e : Nat) : F32 := ((prev.bind fun q => q.2[e]?).map F32.ofBits).getD (ped e)
  let idx := List.range 64
  let live (i : Nat) : Bool := i / 16 < r.exposures && i % 16 < c.p * c.p
  let rs := idx.map fun i => if live i && usesRows then rOf (i / 16) (i % 16) else (F32.zero, false)
  ⟨tt.1, (List.range 4).map fun e => if e < r.exposures then s.darkScale p f.epoch e tt.1 else F32.zero, rs.map (·.1),
    (List.range 4).map fun e => if e < r.exposures && c.ob = 3 then kOf e else F32.zero,
    (rs.any fun q => q.2) || c.ob = 3, tt.2⟩

/-- The context as a re-issued frame takes it: T, R and K from the context, dark scales under the newer epoch (R208). -/
def reissueCtx (s : State) (f : Frame) (r : StreamRec) (c : Ctx) : Ctx :=
  { c with dscale := (List.range 4).map fun e => if e < r.exposures then s.darkScale f.pipe f.epoch e c.t else F32.zero }

/-! ### A stripe -/

/-- Merge, black level and flat field of one pixel (R202 to R209): the merged pixel, y2, and the L24 values. -/
def pixelY2 (s : State) (c : RctSet) (x : Ctx) (f : Frame) (r : StreamRec) (base : Nat) (colMeans : List F32) (px py : Nat) :
    Merged × F32 × List Nat :=
  let p := f.pipe
  let l24 := (List.range r.exposures).map fun e => s.linearise c p e r.container (s.sample f r base .plane e py px)
  let m := mergePixel c l24
  let ph := phase c.p px py
  let ob (e : Nat) : F32 := match c.ob with
    | 0 => ((c.exps.getD e ⟨.zero, .zero, 0, .zero, .zero, .zero, 0⟩)).ped
    | 1 => x.r.getD (e * 16 + ph) F32.zero
    | 2 => colMeans.getD e F32.zero
    | _ => ((x.r.getD (e * 16 + ph) F32.zero).add (colMeans.getD e F32.zero)).sub (x.k.getD e F32.zero)
  let b := (List.range m.w.length).foldl (fun acc e =>
    let w := m.w.getD e F32.zero
    if F32.lt F32.zero w then
      let q := c.exps.getD e ⟨.zero, .zero, 0, .zero, .zero, .zero, 0⟩
      let d := (ob e).sub q.ped
      let d := if c.darkOn then
          d.add ((x.dscale.getD e F32.zero).mul ((F32.ofInt (s.darkAt p f.epoch q.dark f.width f.height px py)).mul q.dq)) else d
      acc.add ((w.mul q.k).mul d)
    else acc) F32.zero
  let y1 := m.m.sub (b.div m.wsum)
  let y2 := if c.ffOn then y1.mul ((F32.ofNat (s.flatAt p f.epoch f.width f.height px py)).mul (F32.ofRat 1 16384)) else y1
  (m, y2, l24)

/-- What defect correction made of a pixel (R211). -/
structure Fixed where
  v : F32
  fixed : Bool
  unfixable : Bool
  static : Bool

/-- Defect correction of a pixel (R211). `y2` and `tag` give a pixel of the frame. A neighbour that the map lists, for whatever tag, is left
out, also where static_en = 0 leaves listed pixels as they are. -/
def fixPixel (c : RctSet) (defs : List Defect) (w h : Nat) (y2 : Nat → Nat → F32) (tag : Nat → Nat → Nat) (px py : Nat) : Fixed :=
  let listed (a b : Nat) : Bool := defs.any fun d => d.lists a b
  let offs : List (Int × Int) := [(-1, -1), (0, -1), (1, -1), (-1, 0), (1, 0), (-1, 1), (0, 1), (1, 1)]
  let nb := offs.filterMap fun o =>
    let a : Int := px + o.1 * (c.p : Int)
    let b : Int := py + o.2 * (c.p : Int)
    if 0 ≤ a && a < (w : Int) && 0 ≤ b && b < (h : Int) && !(listed a.toNat b.toNat) then some (y2 a.toNat b.toNat) else none
  let v := y2 px py
  if c.staticOn && defs.any fun d => d.covers px py (tag px py) then (if nb.isEmpty then ⟨v, false, true, true⟩ else ⟨lowmed nb, true, false, true⟩)
  else if c.dyn ≠ 0 && 2 ≤ nb.length then
    let med := lowmed nb
    let q := c.exps.getD (tag px py) ⟨.zero, .zero, 0, .zero, .zero, .zero, 0⟩
    let t := (c.dthr.div (F32.ofNat 16)).mul (F32.sqrt (((F32.fmax med F32.zero).div q.g).add (q.sr.mul q.sr)))
    let hi := nb.foldl F32.fmax (nb.headD F32.zero)
    let lo := nb.foldl F32.fmin (nb.headD F32.zero)
    if F32.lt (hi.add t) v || (c.dyn = 2 && F32.lt v (lo.sub t)) then ⟨med, true, false, false⟩ else ⟨v, false, false, false⟩
  else ⟨v, false, false, false⟩

/-- Crosstalk coefficient (i, j) of a phase (R213, R217). -/
def xtCoef (s : State) (p bank ph i j : Nat) : F32 :=
  F32.ofBits (s.lutWord ((0x100 + p) * 2 ^ 32 + bank * 0x10000 + 0x8000 + ph * 36 + (i * 3 + j) * 4))

/-- The output word of R196. -/
def outWord (v : Int) (tag : Nat) (sat fixed : Bool) : Nat :=
  unsigned 25 v + 2 ^ 25 * tag + 2 ^ 27 * b2n sat + 2 ^ 28 * b2n fixed

/-- Correct columns x0 to x1 − 1 of a frame (R199): the words by key, and the counts of R225 for these columns: clipped per
exposure (4), sat, negative, clamped, refused, static, dynamic, unfixable. -/
def stripeWords (s : State) (c : RctSet) (x : Ctx) (defs : List Defect) (f : Frame) (r : StreamRec) (base x0 x1 : Nat) :
    List (Nat × Nat) × List Nat :=
  let h := f.height
  let obCols := s.eff f.epoch Fl.SFE_S_OB_ob_cols [f.stream]
  let means := (Array.range h).map fun y => (List.range r.exposures).map fun e =>
    match s.obColMean c f r base obCols e y with
    | some v => v
    | none => F32.div F32.zero F32.zero
  let lo := x0 - (c.p + 1)
  let hi := min (x1 + c.p + 1) f.width
  let grid := (Array.range h).map fun y => (Array.range (hi - lo)).map fun i =>
    s.pixelY2 c x f r base (if c.ob < 2 then [] else means.getD y []) (lo + i) y
  let at_ (a b : Nat) : Merged × F32 × List Nat := (grid.getD b #[]).getD (a - lo) (⟨.zero, [], .zero, 0, false, 0⟩, .zero, [])
  let fix (a b : Nat) : Fixed := fixPixel c defs f.width h (fun u v => (at_ u v).2.1) (fun u v => (at_ u v).1.tag) a b
  let lo3 := x0 - 1
  let hi3 := min (x1 + 1) f.width
  let fixed := (Array.range h).map fun y => (Array.range (hi3 - lo3)).map fun i => fix (lo3 + i) y
  let y3 (a b : Nat) : Fixed := (fixed.getD b #[]).getD (a - lo3) ⟨.zero, false, false, false⟩
  let px (a b : Nat) : Nat × List Nat :=
    let m := at_ a b
    let q := y3 a b
    let acc := if c.xtOn then
        (List.range 9).foldl (fun acc k =>
          let u : Int := a + (k % 3 : Nat) - 1
          let v : Int := b + (k / 3 : Nat) - 1
          let n := if 0 ≤ u && u < (f.width : Int) && 0 ≤ v && v < (h : Int) then (y3 u.toNat v.toNat).v else q.v
          acc.add ((s.xtCoef f.pipe c.bank (phase c.p a b) (k / 3) (k % 3)).mul n)) F32.zero
      else q.v
    let v := acc.toIntClamp (-16777216) 16777215
    let clamped : Bool := F32.lt (F32.ofNat 16777215) acc || F32.lt acc (F32.ofInt (-16777216))
    let clip (e : Nat) : Nat := b2n (e < r.exposures && (c.exps.getD e ⟨.zero, .zero, 0, .zero, .zero, .zero, 0⟩).clip ≤ m.2.2.getD e 0)
    (outWord v m.1.tag m.1.sat q.fixed,
      [clip 0, clip 1, clip 2, clip 3, b2n m.1.sat, b2n (v < 0), b2n clamped, m.1.refused, b2n (q.static && q.fixed),
        b2n (!q.static && q.fixed), b2n q.unfixable])
  let cells := (List.range h).flatMap fun y => (List.range (x1 - x0)).map fun i => ((y * 65536 + x0 + i), px (x0 + i) y)
  (cells.map fun q => (q.1, q.2.1),
    cells.foldl (fun a q => List.zipWith (· + ·) a q.2.2) (List.replicate 11 0))

/-! ### The command -/

/-- The frame that a unit holds or takes next. -/
def frameIn (s : State) (u : FlowUnit) (p fid : Nat) : Option Frame :=
  s.frames.find? fun f => f.pipe = p && f.fid = fid && f.units.contains u

def modFrame (s : State) (u : FlowUnit) (p fid : Nat) (f : Frame → Frame) : State :=
  { s with frames := s.frames.map fun x => if x.pipe = p && x.fid = fid && x.units.contains u then f x else x }

/-- The source code under which a unit of the flow reports, and its instance. -/
def unitSrc : FlowUnit → Nat
  | .rct => srcRCT
  | .cap => srcCAP
  | .rcu => srcRCU
  | .recorder => srcREC
  | .dvt => srcDVT
  | .outf => srcOUTF
  | .branch _ => srcOUTF

def unitInst (p : Nat) : FlowUnit → Nat
  | .branch b => p * 8 + b
  | _ => p

/-- A frame enters a unit (R134): with a tile class, each working tile owes its stripe. -/
def enterUnit (s : State) (u : FlowUnit) (p fid cls : Nat) : State :=
  match s.frameIn u p fid with
  | some f =>
    if f.entered.contains u then s
    else
      let tiles := s.workers f.epoch p cls
      let s := s.modFrame u p fid fun x => { x with entered := u :: x.entered, owes := x.owes ++ tiles.map fun n => (cls, n) }
      (tiles.foldl (fun (t : State) n => t.showBusy cls n) s).trace (unitSrc u) 0 (unitInst p u) f.epoch fid
  | none => s

/-- Has a frame been handed on whole by its tiles of a class. -/
def tilesDone (f : Frame) (u : FlowUnit) (cls : Nat) : Bool := f.entered.contains u && f.owes.all fun o => o.1 ≠ cls

def rctCalib (s : State) (tile p epoch fid cause : Nat) : State :=
  let s := if cause = 1 then s.put Fl.RCT_STATUS_range [tile] 1 else if cause = 2 then s.put Fl.RCT_STATUS_poison [tile] 1
    else s.put Fl.RCT_STATUS_defmap_order [tile] 1
  s.evLimited 0x0060 srcRCT tile epoch fid (p + 2 ^ 8 * cause + 2 ^ 32)

/-- Causes of calibration failure that a tile meets for a frame (R215), where it reads columns lo to hi − 1. -/
def calibCauses (s : State) (c : RctSet) (f : Frame) (lo hi : Nat) (defs : Bool × Nat) : List Nat :=
  let size := s.planeSize f.pipe f.epoch f.width f.height
  let bases := (if c.darkOn then c.exps.map fun q => q.dark else []) ++ (if c.ffOn then [s.flatBase f.pipe f.epoch] else [])
  let ok (b : Nat) : Bool := s.regionOk (s.graphOf f.epoch) f.pipe b size
  let spoilt (b : Nat) : Bool := (List.range f.height).any fun y =>
    s.poisonedAt (b + y * s.eff f.epoch Fl.RCT_PITCH_pitch [f.pipe] + 2 * lo) (2 * (hi - lo))
  let out : Bool := bases.any (fun b => !(ok b)) || defs.2 = 1
  let bad : Bool := bases.any (fun b => ok b && spoilt b) || defs.2 = 2
  (if out then [1] else []) ++ (if bad then [2] else []) ++ (if defs.1 then [3] else [])

/-- May RCT take a frame: it is whole in the ingest copy, does not wait for a drain, and RCT has power. -/
def rctTakes (s : State) (f : Frame) (tile : Nat) : Bool := !(s.stillOpen f.pipe f.fid) && !f.waiting && s.powered (.rct tile)

/-- A frame enters RCT: its context is fixed (R208). -/
def rctEnter (s : State) (c : RctSet) (f : Frame) (r : StreamRec) (base : Nat) : State :=
  let p := f.pipe
  let x := if bit f.fsw fswReissued then s.reissueCtx f r (Ctx.decode (s.hbmRead (base + 0x400) 304)) else s.liveCtx c f r base
  let s := s.hbmWrite (base + 0x400) (Ctx.encode x)
  let s := if bit f.fsw fswReissued then s else
    s.modPipe p fun q => { q with obPrev := some (f.epoch, x.r.map F32.toBits, x.k.map F32.toBits) }
  let s := s.enterUnit .rct p f.fid 1
  s.modFrame .rct p f.fid fun g => { g with fsw := g.fsw ||| (2 ^ 24 * b2n x.obStale + 2 ^ 25 * b2n x.tempStale) }

/-- The FRAME_ID that a tile publishes as the frame leaves its unit (R150). -/
def lastFid (u : FlowUnit) (lo hi : Reg) (run fid : Nat) : List (FlowUnit × Nat × Word) :=
  [(u, lo.key [run], BitVec.ofNat 32 fid), (u, hi.key [run], BitVec.ofNat 32 (fid / 2 ^ 32))]

/-- An RCT tile corrects its stripe of a frame (R192, R199). The first stripe of a frame fixes its context (R208). `run` is the tile that
computes the stripe, which reports on it: the tile itself, or the spare that replays it (R191). -/
def rctFrame (s : State) (tile run fid : Nat) : State :=
  match s.tileWork .rct 1 tile fid with
  | none => s
  | some p =>
    match s.frameIn .rct p fid with
    | none => s
    | some f0 =>
      if !(s.rctTakes f0 run) || s.replaying 1 tile fid then s
      else
        match s.slotAddr f0.epoch p f0.slot with
        | none => s
        | some (r, base) =>
          let c := s.rctSet p f0.epoch r.exposures
          let ctxAt := base + 0x400
          let s := if f0.entered.contains .rct then s else s.rctEnter c f0 r base
          match s.frameIn .rct p fid with
          | none => s
          | some f =>
            if !(f.owes.contains (1, tile)) then s
            else
              let x := Ctx.decode (s.hbmRead ctxAt 304)
              let tiles := s.workers f.epoch p 1
              let ws := stripeWidth f.width tiles.length
              let k := (tiles.takeWhile fun n => n ≠ tile).length
              let x0 := min (k * ws) f.width
              let x1 := min ((k + 1) * ws) f.width
              let lo := x0 - (c.p + 1)
              let hi := min (x1 + c.p + 1) f.width
              let d := s.tileMap p f.epoch run lo hi
              let s := d.1
              let out := s.stripeWords c x d.2.1 f r base x0 x1
              let bad := s.stripeSpoilt 1 tile fid
              let words := if bad then out.1.mapIdx fun (i : Nat) (q : Nat × Nat) => (q.1, Config.freeValue (s.free + i) % 2 ^ 28) else out.1
              let s := s.spoiltDone 1 tile fid words.length
              let causes := s.calibCauses c f lo hi d.2.2
              let s := causes.foldl (fun (t : State) q => t.rctCalib run p f.epoch fid q) s
              let s := s.modFrame .rct p fid fun g => { g with
                words := g.words ++ words, stats := g.stats ++ [(tile, out.2)], owes := g.owes.filter fun o => o ≠ (1, tile)
                results := g.results ++ lastFid .rct R.RCT_LASTFID_LO R.RCT_LASTFID_HI run fid
                fsw := if causes.isEmpty then g.fsw else if causes = [3] then g.fsw else setBit g.fsw 26 }
              let s := (s.showBusy 1 tile).showBusy 1 run
              if x.obStale || x.tempStale then
                s.evLimited 0x0061 srcRCT run f.epoch fid (p + 2 ^ 8 * b2n x.obStale + 2 ^ 9 * b2n x.tempStale + 2 ^ 32)
              else s

end State

/-- RCT_FRAME (R199). -/
def execRctFrame (tile fid : Nat) (s : State) : Res := .next (s.rctFrame tile tile fid)

end Sys2Proof.Machine
end

