-- ==== Sys2Proof/Machine/Sts.lean ====
section
/-! DEFINITION. Statistics (R218 to R225): the record set of a frame, written when the frame leaves RCT. -/

namespace Sys2Proof.Machine

/-- Histogram bin of an S25 value (R222). -/
def histBin (lin : Bool) (shift : Nat) (v : Int) : Nat :=
  if lin then (min 384 (max 0 (v / (2 ^ shift : Nat)))).toNat
  else if v ≤ 0 then 0 else 1 + Nat.log2 (v.toNat ^ 16)

/-- A record with its header (R221): padded to a multiple of 64, with the CRC over the whole of it. -/
def stsRecord (kind p fid epoch fsw zx zy : Nat) (payload : Bytes) : Bytes :=
  let len := roundUp (32 + payload.length) 64
  let head := leBytes 2 kind ++ leBytes 1 p ++ leBytes 1 0 ++ leBytes 4 len ++ leBytes 8 fid ++ leBytes 4 epoch ++ leBytes 4 fsw
    ++ leBytes 1 zx ++ leBytes 1 zy ++ leBytes 2 0
  let body := payload ++ List.replicate (len - 32 - payload.length) 0
  head ++ leBytes 4 (crc32c (head ++ leBytes 4 0 ++ body)) ++ body

/-- A filler record of `n` bytes, a multiple of 64 (R220, R221). -/
def stsFiller (p fid epoch fsw n : Nat) : Bytes := stsRecord 0 p fid epoch fsw 0 0 (List.replicate (n - 32) 0)

namespace State

/-- The record set of a frame (R219 to R225), its frame summary apart. -/
def stsSet (s : State) (f : Frame) (r : StreamRec) (base : Nat) : Bytes × Bytes :=
  let p := f.pipe
  let e := f.epoch
  let en (d : Fld) : Bool := s.eff e d [p] = 1
  let g (d : Fld) : Nat := s.eff e d [p]
  let per := cfaPeriod (g Fl.RCT_STAGE_cfa)
  let w := f.width
  let h := f.height
  let arr := f.words.foldl (fun (a : Array Nat) q => a.setIfInBounds (q.1 / 65536 * w + q.1 % 65536) q.2) (Array.replicate (w * h) 0)
  let word (x y : Nat) : Nat := arr.getD (y * w + x) 0
  let val (x y : Nat) : Int := signed 25 (word x y)
  let pixels := (List.range h).flatMap fun y => (List.range w).map fun x => (x, y)
  let chan (x y : Nat) : Nat := s.effRd e R.STS_CHMAP [p] / 4 ^ phase per x y % 4
  let zx := g Fl.STS_GRID_zx_m1 + 1
  let zy := g Fl.STS_GRID_zy_m1 + 1
  let zw := per * ceilDiv w (zx * per)
  let zh := per * ceilDiv h (zy * per)
  let zone (x y : Nat) : Nat := y / zh * zx + x / zw
  let rec_ (kind a b : Nat) (pl : Bytes) : Bytes := stsRecord kind p f.fid e (fswFinal f.fsw) a b pl
  let hist := if !(en Fl.STS_CTRL_hist_en) then [] else
    let bins := pixels.foldl (fun (a : Array Nat) q =>
      a.modify (chan q.1 q.2 * 385 + histBin (en Fl.STS_CTRL_lin) (g Fl.STS_CTRL_shift) (val q.1 q.2)) (· + 1)) (Array.replicate 1540 0)
    rec_ 1 0 0 (bins.toList.flatMap fun n => leBytes 4 n)
  let zones := if !(en Fl.STS_CTRL_zone_en) then [] else
    let acc := pixels.foldl (fun (a : Array (Int × Nat × Nat)) q =>
      a.modify (zone q.1 q.2 * 4 + chan q.1 q.2) fun z =>
        if bit (word q.1 q.2) 27 then (z.1, z.2.1, z.2.2 + 1) else (z.1 + val q.1 q.2, z.2.1 + 1, z.2.2))
      (Array.replicate (zx * zy * 4) (0, 0, 0))
    rec_ 2 zx zy (acc.toList.flatMap fun z => leBytes 8 (unsigned 64 z.1) ++ leBytes 4 z.2.1 ++ leBytes 4 z.2.2)
  let sharp := if !(en Fl.STS_CTRL_sharp_en) then [] else
    let acc := pixels.foldl (fun (a : Array Nat) q =>
      let x := q.1
      let y := q.2
      if chan x y = g Fl.STS_GRID_sharp_ch && per ≤ x && x + per < w then
        let d := (val (x - per) y + val (x + per) y - 2 * val x y).natAbs
        let t := bits (word x y) 26 25
        let sr := s.f32P e p R.RCT_EXP_NMSR [t]
        let sig := F32.sqrt (((F32.fmax (F32.ofInt (val x y)) F32.zero).div (s.f32P e p R.RCT_EXP_NMG [t])).add (sr.mul sr))
        if F32.lt (((F32.ofNat (g Fl.STS_GRID_core)).div (F32.ofNat 16)).mul sig) (F32.ofNat d) then a.modify (zone x y) (· + d) else a
      else a) (Array.replicate (zx * zy) 0)
    rec_ 3 zx zy (acc.toList.flatMap fun z => leBytes 8 z)
  let sum := if !(en Fl.STS_CTRL_sum_en) then [] else
    let cnt := f.stats.foldl (fun a q => List.zipWith (· + ·) a q.2) (List.replicate 11 0)
    let x := Ctx.decode (s.hbmRead (base + 0x400) 304)
    let c := s.rctSet p e r.exposures
    let obCols := s.eff e Fl.SFE_S_OB_ob_cols [f.stream]
    let ob (i ph : Nat) : F32 :=
      let col : F32 := (s.obColMean c f r base obCols i 0).getD (F32.div F32.zero F32.zero)
      match c.ob with
      | 0 => s.f32P e p R.RCT_EXP_PED [i]
      | 1 => x.r.getD (i * 16 + ph) F32.zero
      | 2 => col
      | _ => ((x.r.getD (i * 16 + ph) F32.zero).add col).sub (x.k.getD i F32.zero)
    -- the mean over all phases, taken at line 0 (log 18)
    let obMean (i : Nat) : F32 :=
      if i < r.exposures then (fsum ((List.range (per * per)).map fun ph => ob i ph)).div (F32.ofNat (per * per)) else F32.zero
    let cap32 (n : Nat) : Bytes := leBytes 4 (min n 0xFFFFFFFF)
    rec_ 4 0 0 ((List.range 11).flatMap (fun i => cap32 (cnt.getD i 0)) ++ leBytes 4 x.t.toBits
      ++ (List.range 4).flatMap fun i => leBytes 4 (obMean i).toBits)
  (hist ++ zones ++ sharp, sum)

/-- Write the record set of a frame that leaves RCT (R219, R220). STS writes none for a re-issued frame (R238). -/
def stsFrame (s : State) (f : Frame) : State :=
  let p := f.pipe
  let size := s.get Fl.STS_RING_SIZE_pages [p] * 4096
  let base := s.rd64 R.STS_RING_LO R.STS_RING_HI [p]
  if !(s.powered .sts) || bit f.fsw fswReissued || f.fid % (s.eff f.epoch Fl.STS_CTRL_decim [p] + 1) ≠ 0 || size = 0 then s
  else
    match s.slotAddr f.epoch p f.slot with
    | none => s
    | some (r, slot) =>
      let parts := s.stsSet f r slot
      let set_ := parts.1 ++ parts.2
      if set_.isEmpty then s
      else if !(s.regionOk (s.graphOf f.epoch) p base size) then s.put Fl.STS_STAT_range [p] 1
      else
        let wr := s.rd R.STS_WR [p]
        let free := size - (wr + 2 ^ 32 - s.rd R.STS_RD [p]) % 2 ^ 32
        let at_ := wr % size
        let fill := if at_ + set_.length ≤ size then 0 else size - at_
        if free < fill + set_.length then
          (s.inc Fl.STS_LOSS_count [p]).evLimited 0x0069 srcSTS p f.epoch f.fid 1
        else
          let s := if fill = 0 then s else s.hbmWrite (base + at_) (stsFiller p f.fid f.epoch (fswFinal f.fsw) fill)
          let s := s.hbmWrite (base + (at_ + fill) % size) set_
          let wr := (wr + fill + set_.length) % 2 ^ 32
          let s := (s.wr R.STS_WR [p] wr).wr64 R.STS_LASTFID_LO R.STS_LASTFID_HI [p] f.fid
          let s := if parts.2.isEmpty then s else s.modFrame .rct p f.fid fun x => { x with summary := some parts.2 }
          if s.flag Fl.STS_CTRL_ev_en [p] then s.evFrame 0x0068 srcSTS p f.epoch f.fid wr else s

end State

end Sys2Proof.Machine
end

