-- ==== Sys2Proof/Machine/CapFlow.lean ====
section
/-! DEFINITION. Capture routing, the synthetic shutter and re-issue (R227 to R232, R238). -/

namespace Sys2Proof.Machine

/-- Noise-model fields g and σr of an epoch (R201, R240). -/
def State.nmG (s : State) (p epoch e : Nat) : F32 := s.f32P epoch p R.RCT_EXP_NMG [e]
def State.nmSr (s : State) (p epoch e : Nat) : F32 := s.f32P epoch p R.RCT_EXP_NMSR [e]

/-- The noise model of a frame for RCU and DVT: the one CAP attached, or the RCT fields of its epoch (R231, R240). -/
def State.modelOf (s : State) (f : Frame) (e : Nat) : F32 × F32 :=
  match f.model with
  | some (l, _) => (F32.ofBits (l.getD e 0), F32.ofBits (l.getD (4 + e) 0))
  | none => (s.nmG f.pipe f.epoch e, s.nmSr f.pipe f.epoch e)

namespace State

/-- Does a frame begin a cycle of its pipeline as it reaches CAP (R228): its cycle is another than the previous frame's, and a new n
begins one. -/
def capBegins (s : State) (p epoch fid : Nat) : Bool :=
  let n := s.eff epoch Fl.CAP_CYCLE_n_m1 [p] + 1
  match (s.pipeSt p).prevFid with
  | none => true
  | some q => (s.pipeSt p).prevN ≠ n || q / n ≠ fid / n

/-- Units after CAP that a frame goes to, out of those its structure holds (R227). -/
def capRoute (f : Frame) (rcu dvt : Bool) : List FlowUnit :=
  f.units.filter fun u => match u with
    | .rct => true
    | .cap => true
    | .rcu => rcu
    | .recorder => rcu
    | .dvt => dvt
    | .outf => dvt
    | .branch _ => dvt

/-- The variance of a contribution under its tag's model (R229). -/
def synVar (s : State) (p epoch : Nat) (word : Nat) : F32 :=
  let t := bits word 26 25
  let sr := s.nmSr p epoch t
  ((F32.fmax (F32.ofInt (signed 25 word)) F32.zero).div (s.nmG p epoch t)).add (sr.mul sr)

def accBase (s : State) (p epoch : Nat) : Nat := s.effRd epoch R.CAP_ACC_LO [p] + 2 ^ 32 * s.effRd epoch R.CAP_ACC_HI [p]

/-- Size of the accumulator planes (R232). -/
def accSize (r : StreamRec) : Nat := roundUp (r.width * r.height * 4) 4096 + r.width * r.height

/-- A pixel of a cycle: its key, the accumulated value, tag and sat (R229). -/
abbrev SynPixel := Nat × F32 × Nat × Bool

/-- The frame that leaves a synthetic-shutter cycle (R229 to R231). -/
def synEmit (s : State) (p : Nat) (y : Synth) (vals : List SynPixel) (route : List FlowUnit) : State :=
  let e := y.epoch
  let k := s.eff e Fl.CAP_CYCLE_k_m1 [p] + 1
  let gain := s.f32P e p R.CAP_GAIN
  let scale := gain.mul ((F32.ofNat k).div (F32.ofNat y.kact))
  let words := vals.map fun v => (v.1, outWord ((v.2.1.mul scale).toIntClamp (-16777216) 16777215) v.2.2.1 v.2.2.2 false)
  let short : Bool := y.kact < k
  let g := (gain.mul (F32.ofNat k)).div (F32.ofNat y.kact)
  let model := (List.range 4).map (fun i => ((s.nmG p e i).div g).toBits) ++
    (List.range 4).map fun i => ((g.mul (F32.sqrt (F32.ofNat y.kact))).mul (s.nmSr p e i)).toBits
  let fsw := setBit y.fsw fswSynth
  let fsw := if short then setBit fsw fswSynShort else fsw
  let f : Frame := ⟨p, y.stream, y.fid, e, y.time, fsw, y.slot, y.width, y.height, [], route, [], words, [], [], none, [], 0, none,
    some (model, y.kact), false, [], [], none, none, e, [], []⟩
  let s : State := if route.isEmpty then s else { s with frames := s.frames ++ [f] }
  if short then s.evLimited 0x0073 srcCAP p e y.fid 1 else s

/-- Where a pixel's value and its side byte lie in the planes (R232). -/
def accAt (base : Nat) (r : StreamRec) (key : Nat) : Nat := base + (key / 65536 * r.width + key % 65536) * 4
def sideAt (base : Nat) (r : StreamRec) (key : Nat) : Nat :=
  base + roundUp (r.width * r.height * 4) 4096 + key / 65536 * r.width + key % 65536

/-- Pixels as the planes hold them (R232): the side byte has the tag in [1:0] and sat in [2] (log 47). -/
def accRead (s : State) (base : Nat) (r : StreamRec) (keys : List Nat) : List SynPixel :=
  keys.map fun k =>
    let side := (s.hbmByte (sideAt base r k)).toNat
    (k, F32.ofBits (leNat (s.hbmRead (accAt base r k) 4)), side % 4, bit side 2)

def accWrite (s : State) (base : Nat) (r : StreamRec) (vals : List SynPixel) : State :=
  vals.foldl (fun (t : State) v =>
    (t.hbmWrite (accAt base r v.1) (leBytes 4 v.2.1.toBits)).hbmWrite (sideAt base r v.1) [BitVec.ofNat 8 (v.2.2.1 + 4 * b2n v.2.2.2)]) s

/-- Where a synthesised frame goes: RCU when rec_src selects it, and development (R227). -/
def synRoute (s : State) (p epoch : Nat) : List FlowUnit :=
  let rec_ : Bool := s.eff epoch Fl.CAP_MODE_rec_src [p] = 2
  (routeOf (s.graphOf epoch) p).filter fun u => match u with
    | .rct => false
    | .cap => false
    | .rcu => rec_
    | .recorder => rec_
    | .dvt => true
    | .outf => true
    | .branch _ => true

/-- A cycle whose contributions ended early is emitted when the first frame of the next reaches CAP (R230). -/
def synEnd (s : State) (p : Nat) : State :=
  match (s.cap p).synth with
  | none => s
  | some y =>
    let s := s.modCap p fun c => { c with synth := none }
    match (s.graphOf y.epoch).streamOf p with
    | some r => s.synEmit p y (s.accRead (s.accBase p y.epoch) r (y.vmax.map (·.1))) (s.synRoute p y.epoch)
    | none => s

/-- Does a contribution's variance exceed the largest so far of its pixel (R229). -/
def synTakes (vmax : List (Nat × Nat)) (key var : Nat) : Bool :=
  match vmax.find? fun x => x.1 = key with
  | some x => F32.lt (F32.ofBits x.2) (F32.ofBits var)
  | none => true

/-- A later contribution over the pixels accumulated so far (R229): `now` is the contribution, `vars` its variances. -/
def synMerge (vmax : List (Nat × Nat)) (old now : List SynPixel) (vars : List (Nat × Nat)) : List SynPixel :=
  (old.zip (now.zip vars)).map fun q =>
    let take := synTakes vmax q.1.1 q.2.2.2
    (q.1.1, q.1.2.1.add q.2.1.2.1, if take then q.2.1.2.2.1 else q.1.2.2.1, q.1.2.2.2 || q.2.1.2.2.2)

/-- A frame's contribution to the cycle (R229, R230, R232). -/
def synAdd (s : State) (f : Frame) : State :=
  let p := f.pipe
  let e := f.epoch
  let n := s.eff e Fl.CAP_CYCLE_n_m1 [p] + 1
  let k := s.eff e Fl.CAP_CYCLE_k_m1 [p] + 1
  let ph := s.eff e Fl.CAP_CYCLE_phase [p]
  let cyc := f.fid / n
  let s := match (s.cap p).synth with
    | some y => if y.cyc = cyc && y.epoch = e then s else s.synEnd p
    | none => s
  let off := f.fid % n
  if !(ph ≤ off && off < ph + k) then s
  else
    match (s.graphOf e).streamOf p with
    | none => s
    | some r =>
      let base := s.accBase p e
      let now : List SynPixel := f.words.map fun w => (w.1, F32.ofInt (signed 25 w.2), bits w.2 26 25, bit w.2 27)
      let vars := f.words.map fun w => (w.1, (s.synVar p e w.2).toBits)
      let first : Synth := ⟨cyc, 1, f.fid, e, f.time, f.fsw, f.stream, f.width, f.height, f.slot, vars⟩
      if !(s.regionOk (s.graphOf e) p base (accSize r)) then
        (s.put Fl.CAP_STAT_acc_range [p] 1).synEmit p first now (s.synRoute p e)
      else
        let r0 : Synth × List SynPixel := match (s.cap p).synth with
          | none => (first, now)
          | some y =>
            ({ y with
               kact := y.kact + 1, fsw := y.fsw ||| f.fsw
               vmax := vars.map fun v => if synTakes y.vmax v.1 v.2 then v else (v.1, ((y.vmax.find? fun x => x.1 = v.1).map (·.2)).getD v.2) },
              synMerge y.vmax (s.accRead base r (f.words.map (·.1))) now vars)
        if off + 1 = ph + k then
          (s.modCap p fun c => { c with synth := none }).synEmit p r0.1 r0.2 (s.synRoute p e)
        else
          (s.accWrite base r r0.2).modCap p fun c => { c with synth := some r0.1 }

/-- Is a frame's contribution still in the accumulator: it has not left CAP (R139). -/
def synHolds (s : State) (f : Frame) : Bool :=
  let n := s.eff f.epoch Fl.CAP_CYCLE_n_m1 [f.pipe] + 1
  let ph := s.eff f.epoch Fl.CAP_CYCLE_phase [f.pipe]
  let off := f.fid % n
  !(bit f.fsw fswReissued) && !(bit f.fsw fswSynth) && ph ≤ off && off < ph + s.eff f.epoch Fl.CAP_CYCLE_k_m1 [f.pipe] + 1 &&
    match (s.cap f.pipe).synth with
    | some y => y.cyc = f.fid / n && y.epoch = f.epoch
    | none => false

/-- CAP receives a corrected frame (R227). -/
def capFrame (s : State) (p fid : Nat) : State :=
  match s.frameIn .cap p fid with
  | none => s
  | some f =>
    if f.entered.contains .cap || (f.units.contains .rct && !(tilesDone f .rct 1)) || !(s.powered .cap) then s
    else
      let mode := s.eff f.epoch Fl.CAP_MODE_mode [p]
      let flag (d : Fld) : Bool := s.eff f.epoch d [p] = 1
      let again := bit f.fsw fswReissued
      let begins := s.capBegins p f.epoch fid
      let rcu : Bool := again || mode = 0 || mode = 2 || (mode = 3 && s.eff f.epoch Fl.CAP_MODE_rec_src [p] = 1)
      let dvt : Bool := if again then flag Fl.CAP_MODE_review
        else mode = 0 || (mode = 1 && flag Fl.CAP_MODE_live_dev) || (mode = 2 && begins)
      let s := if again then s else if mode = 3 then s.synAdd f else s.synEnd p
      let n := s.eff f.epoch Fl.CAP_CYCLE_n_m1 [p] + 1
      let s := if again then s else s.modPipe p fun x => { x with prevFid := some fid, prevN := n }
      (s.enterUnit .cap p fid 0).modFrame .cap p fid fun x => { x with units := capRoute x rcu dvt }

/-- Does a live frame of the pipeline wait in the ingest copy (R238). -/
def liveWaits (s : State) (p : Nat) : Bool :=
  s.frames.any fun f => f.pipe = p && !(bit f.fsw fswReissued) && f.units.contains .rct && !(f.entered.contains .rct)
    && !(s.stillOpen p f.fid)

/-- CAP inserts the next frame of the segment whose turn it is (R137, R238); under a patch drain it waits as a live frame does (R144). -/
def reissue (s : State) (p : Nat) : State :=
  match s.drainNext p with
  | none => s
  | some k =>
    let g := s.segSt p k
    match g.frames[g.done]? with
    | none => s
    | some fr =>
      match s.slotAddr (s.pipeEpoch p) p fr.1 with
      | none => s
      | some (r, base) =>
        if s.liveWaits p || !(s.powered .cap) then s
        else
          let d := s.hbmRead base 64
          let s := s.modSeg p k fun x => { x with done := x.done + 1 }
          let s := if s.segState p k = 2 then s.segShow p k 3 else s
          let f : Frame := ⟨p, r.id, fieldLe d 0 8, s.pipeEpoch p, fieldLe d 16 8, setBit (fieldLe d 12 4) fswReissued, fr.1,
            fieldLe d 40 2, fieldLe d 42 2, s.hbmRead (base + embedOff r) (fieldLe d 52 4), routeOf (s.graphOf (s.pipeEpoch p)) p, [], [], [], [],
            none, [], 0, none, none, (s.pipeSt p).draining, [], [], none, none, fieldLe d 8 4, [], []⟩
          ({ s with frames := s.frames ++ [f] }).tagSlot p fr.1 f.epoch

/-- A re-issued frame has left RCU, or CAP where there is no RCU stage: the last one drains its segment (R238). -/
def reissueLeft (s : State) (p fid : Nat) : State :=
  match (List.range 16).find? fun k => s.segState p k = 3 && (s.segSt p k).done = (s.segSt p k).frames.length
      && ((s.segSt p k).frames.getLast?.map fun x => x.2.1) = some fid with
  | some k => s.segDrained p k
  | none => s

end State

/-- CAP_FRAME (R227). -/
def execCapFrame (p fid : Nat) (s : State) : Res := .next (s.capFrame p fid)

/-- REISSUE_FRAME (R238). -/
def execReissueFrame (p : Nat) (s : State) : Res := .next (s.reissue p)

end Sys2Proof.Machine
end

