-- ==== Sys2Proof/Machine/OflBase.lean ====
section
/-! DEFINITION. The offload controller's base: completions, MSI-X, asynchronous events, which namespaces are active (R416, R417,
R421 to R424, R442). Status codes and data layouts that the spec names without giving them are those of NVMe 2.0 (log 31). -/

namespace Sys2Proof.Machine

/-! ### Status values (log 31) -/

def nvOk : Nat := 0
def nvInvalidOpcode : Nat := 0x01
def nvInvalidField : Nat := 0x02
def nvAborted : Nat := 0x07
def nvSqDeleted : Nat := 0x08
def nvInvalidNs : Nat := 0x0B
def nvWriteProtected : Nat := 0x20
def nvInvalidPrp : Nat := 0x13
def nvLbaRange : Nat := 0x80
def nvNotReady : Nat := 0x82
def nvCqInvalid : Nat := 0x100
def nvQid : Nat := 0x101
def nvQsize : Nat := 0x102
def nvAerLimit : Nat := 0x105
def nvFwSlot : Nat := 0x106
def nvFwImage : Nat := 0x107
def nvVector : Nat := 0x108
def nvLogPage : Nat := 0x109
def nvQueueDeletion : Nat := 0x10C
def nvNotSaveable : Nat := 0x10D
def nvTestBusy : Nat := 0x11D
def nvReadError : Nat := 0x281
def nvCompareFail : Nat := 0x285

/-- Opcodes that the controller supports (R419): admin, then I/O with whether the command changes content. -/
def adminOps : List Nat := [0x00, 0x01, 0x02, 0x04, 0x05, 0x06, 0x08, 0x09, 0x0A, 0x0C, 0x10, 0x11, 0x14]
def ioOps : List (Nat × Bool) := [(0x00, false), (0x01, true), (0x02, false), (0x05, false), (0x08, true), (0x0C, false)]

/-- A command's opcode; admin commands stand 0x100 above their opcode. -/
def nvmeCode (c : NvmeCmd) : Nat := if c.sq = 0 then 0x100 + c.opc else c.opc

/-- The opcodes of R419's two tables. -/
def nvmeCodes : List Nat := adminOps.map (0x100 + ·) ++ ioOps.map (·.1)

namespace State

def modOfl (s : State) (f : OflSt → OflSt) : State := { s with ofl := f s.ofl }

/-- CSTS.RDY and CSTS.PP. -/
def oflRdy (s : State) : Bool := bit s.ofl.csts 0
def oflPaused (s : State) : Bool := bit s.ofl.csts 5

/-- The registers of the management view follow the controller (R442). -/
def oflShow (s : State) : State :=
  let x := s.ofl
  let io (n : Nat) : Nat := if n = 0 then 0 else n - 1
  let s := (s.put Fl.OFL_STAT_en [] (x.cc % 2)).put Fl.OFL_STAT_rdy [] (x.csts % 2)
  let s := (s.put Fl.OFL_STAT_paused [] (b2n (bit x.csts 5))).put Fl.OFL_STAT_stest [] (b2n x.test.isSome)
  let s := (s.put Fl.OFL_QUEUES_sq [] (io x.sqs.length)).put Fl.OFL_QUEUES_cq [] (io x.cqs.length)
  (s.put Fl.OFL_OUTST_commands [] x.cmds.length).put Fl.OFL_CACHE_dirty_mib [] (ceilDiv x.dirty.length 256)

/-! ### MSI-X and completion queues (R423) -/

/-- Signal an offload vector, unless the function or the vector is masked (log 3). -/
def oflSignal (s : State) (v : Nat) : State :=
  let x := s.ofl
  if !x.msixEnable then s
  else
    let w (k : Nat) : Nat := (lookAt (if k % 4 = 3 then 1 else 0) x.msix k).toNat
    if x.msixMask || w (4 * v + 3) % 2 = 1 then
      s.modOfl fun x => { x with msixPba := if x.msixPba.contains v then x.msixPba else v :: x.msixPba }
    else s.emit (.oflMsix v (w (4 * v) + 2 ^ 32 * w (4 * v + 1)) (w (4 * v + 2)))

def oflSq (s : State) (q : Nat) : Option OflSq := s.ofl.sqs.find? fun x => x.id = q
def oflCq (s : State) (q : Nat) : Option OflCq := s.ofl.cqs.find? fun x => x.id = q

def ohostWrite (s : State) (a : Nat) (b : Bytes) : State := { s with ohost := s.ohost.write a b }

/-- Is the controller in an operational power state, and not on its way between states (R437). -/
def oflAwake (s : State) : Bool := !s.flag Fl.OFL_STAT_transit && s.get Fl.OFL_STAT_ps < 2

/-- Post one completion entry if its queue has room (R423): queue, command identifier, dword 0, status. A power transition
delays it (R437). -/
def oflPost (s : State) (e : Nat × Nat × Nat × Nat) : State × Bool :=
  match s.oflSq e.1 with
  | none => (s, true)
  | some sq =>
    if !s.oflAwake then (s, false) else
    match s.oflCq sq.cq with
    | none => (s, true)
    | some c =>
      if (c.tail + 1) % c.size = c.head then (s, false)
      else
        let b := leBytes 4 e.2.2.1 ++ leBytes 4 0 ++ leBytes 2 sq.head ++ leBytes 2 sq.id ++ leBytes 2 e.2.1
          ++ leBytes 2 (b2n c.phase + 2 * e.2.2.2)
        let s := s.ohostWrite (c.base + 16 * c.tail) b
        let last : Bool := c.tail + 1 = c.size
        let c' : OflCq := { c with tail := if last then 0 else c.tail + 1, phase := if last then !c.phase else c.phase }
        let s := s.modOfl fun x => { x with cqs := x.cqs.map fun q => if q.id = c.id then c' else q }
        (if c.ien then s.oflSignal c.vector else s, true)

/-- Post waiting completions, oldest first; those whose queue is full keep waiting. -/
def oflPostAll (s : State) : State :=
  let l := s.ofl.posts
  let s := s.modOfl fun x => { x with posts := [] }
  l.foldl (fun (t : State) e =>
    let r := t.oflPost e
    if r.2 then r.1 else r.1.modOfl fun x => { x with posts := x.posts ++ [e] }) s

def oflCmd (s : State) (id : Nat) : Option OflCmd := s.ofl.cmds.find? fun c => c.id = id

def modCmd (s : State) (id : Nat) (f : OflCmd → OflCmd) : State :=
  s.modOfl fun x => { x with cmds := x.cmds.map fun c => if c.id = id then f c else c }

/-- A command completes (R424, R442). -/
def oflComplete (s : State) (id dw0 status : Nat) : State :=
  match s.oflCmd id with
  | none => s
  | some c =>
    let s := s.modOfl fun x => { x with
      cmds := x.cmds.filter fun y => y.id ≠ id, ios := x.ios.filter fun y => y.cmd ≠ id, aers := x.aers.filter fun y => y ≠ id
      posts := x.posts ++ [(c.sq, c.cid, dw0, status)] }
    let s := if status = 0 then s else if status = nvReadError then s.inc Fl.OFL_ERRCNT_ure else s.inc Fl.OFL_ERRCNT_other
    s.oflPostAll.oflShow

/-! ### Features (R420) -/

/-- Default value of a feature; 0x104 is the under-temperature threshold, 0x900 + v the configuration of vector v. -/
def featDefault (f : Nat) : Nat :=
  match f with
  | 0x01 => 3 | 0x04 => 358 | 0x06 => 1 | 0x07 => 0x3F003F
  | 0x900 => 0x10000
  | _ => if 0x900 < f && f ≤ 0x940 then f - 0x900 else 0

def feat (s : State) (f : Nat) : Nat := ((s.ofl.feats.find? fun e => e.1 = f).map (·.2)).getD (featDefault f)

def setFeat (s : State) (f v : Nat) : State :=
  s.modOfl fun x => { x with feats := (f, v) :: x.feats.filter fun e => e.1 ≠ f }

/-! ### Asynchronous events (R417, R422, R435) -/

/-- Report waiting events while a request is outstanding; a log page masks its events until it is read. -/
def oflEvents (s : State) : Nat → State
  | 0 => s
  | n + 1 =>
    match s.ofl.aers, takeFirst (fun e => !(s.ofl.masked.contains (e / 65536))) s.ofl.events with
    | a :: _, some (e, rest) =>
      ((s.modOfl fun x => { x with events := rest, masked := x.masked ++ [e / 65536] }).oflComplete a e nvOk).oflEvents n
    | _, _ => s

/-- An asynchronous event of type, information and log page; one that already waits is not added again. -/
def oflEvent (s : State) (typ info page : Nat) : State :=
  let e := typ + 256 * info + 65536 * page
  if !s.oflRdy then s
  else (s.modOfl fun x => { x with events := if x.events.contains e then x.events else x.events ++ [e] }).oflEvents 4

/-- Reading a log page with RAE = 0 unmasks its events. -/
def oflUnmask (s : State) (page : Nat) : State :=
  (s.modOfl fun x => { x with masked := x.masked.filter fun p => p ≠ page }).oflEvents 4

/-- Each EV_REC_COMMIT is reported with feature 0xC0 enabled (R422). -/
def oflCommitNotice (s : State) : State := if bit (s.feat 0xC0) 0 then s.oflEvent 7 0 0xC0 else s

/-! ### Self-test results (R441) -/

/-- A running self-test ends (R439 to R441). -/
def testEnd (s : State) (result : Nat) : State :=
  match s.ofl.test with
  | none => s
  | some t =>
    let seg := match t.failed with | some f => f.1 | none => t.seg
    let lba := t.failed.bind (·.2)
    let b := leBytes 1 (result + 16 * t.op) ++ leBytes 1 (if result = 7 then seg else 0) ++ leBytes 1 (if lba.isSome then 3 else 0) ++ leBytes 1 0
      ++ leBytes 8 (s.nv.secs / 3600) ++ leBytes 4 (if lba.isSome then (if t.ns = 2 then 2 else 1) else 0) ++ leBytes 8 (lba.getD 0) ++ leBytes 4 0
    let s := s.modOfl fun x => { x with test := none, results := (b :: x.results).take 20 }
    let s := ((s.put Fl.OFL_STEST_op [] 0).put Fl.OFL_STEST_result [] result).put Fl.OFL_STEST_segment [] seg
    (s.put Fl.OFL_STAT_stest [] 0).ev 0x00D4 srcOFL 0 (result + 256 * seg)

/-! ### Namespaces (R416, R417) -/

/-- The exchange area: start VLBA and blocks. -/
def exchange (s : State) : Nat × Nat := (s.recorder.vol.map fun v => v.regions.getD 5 (0, 0)).getD (0, 0)

/-- Blocks of a namespace. -/
def nsBlocks (s : State) (n : Nat) : Nat :=
  if n = 1 then (s.recorder.vol.map fun v => v.rows * ((v.m - v.r) * 256)).getD 0 else s.exchange.2

def nsActive (s : State) (n : Nat) : Bool := if n = 1 then s.flag Fl.OFL_STAT_ns1 else n = 2 && s.flag Fl.OFL_STAT_ns2

/-- The namespaces follow REC_STAT.state; a close that waits only for the offload port has made them inactive (R417). -/
def nsSync (s : State) : State :=
  if !s.powered .ofl then s
  else
    let st := s.get Fl.REC_STAT_state
    let one : Bool := 2 ≤ st && st ≤ 6 && s.recorder.vol.isSome && !(s.recorder.waiters.any fun w => w.2 = 2)
    let two : Bool := one && s.exchange.2 ≠ 0
    let d1 : Bool := one != s.flag Fl.OFL_STAT_ns1
    let d2 : Bool := two != s.flag Fl.OFL_STAT_ns2
    let s := (s.put Fl.OFL_STAT_ns1 [] (b2n one)).put Fl.OFL_STAT_ns2 [] (b2n two)
    if d1 || d2 then
      let add := (if d1 then [1] else []) ++ (if d2 then [2] else [])
      let s := s.modOfl fun x => { x with changed := x.changed ++ add.filter fun n => !(x.changed.contains n) }
      let hit : Bool := s.ofl.test.any fun t => (d1 && !one && t.ns ≠ 2) || (d2 && !two && t.ns ≠ 1)
      let s := if hit then s.testEnd 3 else s
      if bit (s.feat 0x0B) 8 then s.oflEvent 2 0 0x04 else s
    else s

end State

end Sys2Proof.Machine
end

