-- ==== Sys2Proof/Machine/RecBase.lean ====
section
/-! DEFINITION. The recorder's data path (R263 to R265, R270 to R272, R279, R280): geometry, the recorder buffer, chunks, takes
and lost frames. -/

namespace Sys2Proof.Machine

/-! ### Geometry (R263 to R265) -/

def unitBytes : Nat := 0x100000

def Volume.d (v : Volume) : Nat := v.m - v.r
def Volume.rowBlocks (v : Volume) : Nat := v.d * 256
def Volume.rowBytes (v : Volume) : Nat := v.d * unitBytes

/-- Members that hold P, Q and data unit j of a row (R264). -/
def memberP (m row : Nat) : Nat := m - 1 - row % m
def memberQ (m row : Nat) : Nat := (memberP m row + 1) % m
def memberData (m r row j : Nat) : Nat := (memberP m row + r + j) % m

/-- Member and member LBA of a volume LBA (R264). -/
def vlbaAt (m r vlba : Nat) : Nat × Nat :=
  let u := vlba / 256
  let row := u / (m - r)
  (memberData m r row (u % (m - r)), 256 + row * 256 + vlba % 256)

/-- Multiplication by g = 2 in GF(2^8) under 0x11D (R265). -/
def gfDouble (a : Nat) : Nat := if a < 128 then 2 * a else (2 * a) ^^^ 0x11D

def gfMulFrom (a : Nat) : Nat → Nat → Nat
  | 0, _ => 0
  | n + 1, b => (if b % 2 = 1 then a else 0) ^^^ gfMulFrom (gfDouble a) n (b / 2)

def gfMul (a b : Nat) : Nat := gfMulFrom a 8 b

def gfPow (a : Nat) : Nat → Nat
  | 0 => 1
  | n + 1 => gfMul a (gfPow a n)

/-- The inverse of a non-zero element: a^254. -/
def gfInv (a : Nat) : Nat := gfPow a 254

def xorAll (l : List Bytes) (n : Nat) : Bytes :=
  (List.range n).map fun i => l.foldl (fun a b => a ^^^ b.getD i 0) 0

/-- Q of data units (R265). -/
def parityQ (l : List Bytes) (n : Nat) : Bytes :=
  (List.range n).map fun i =>
    BitVec.ofNat 8 ((l.zipIdx).foldl (fun a u => a ^^^ gfMul (gfPow 2 u.2) ((u.1.getD i 0).toNat)) 0)

/-- What the members of a row hold: index of the member, its unit. -/
def rowUnits (m r row : Nat) (data : Bytes) : List (Nat × Bytes) :=
  let d := m - r
  let units := (List.range d).map fun j => (data.drop (j * unitBytes)).take unitBytes
  ((List.range d).map fun j => (memberData m r row j, units.getD j [])) ++
    (if 1 ≤ r then [(memberP m row, xorAll units unitBytes)] else []) ++
    (if r = 2 then [(memberQ m row, parityQ units unitBytes)] else [])

/-- Rebuild the data units of a row from those that can be read (R265, R282): `get` gives a member's unit, if readable. -/
def rebuildData (m r row n : Nat) (get : Nat → Option Bytes) : Option (List Bytes) :=
  let d := m - r
  let have_ := (List.range d).map fun j => get (memberData m r row j)
  let missing := (List.range d).filter fun j => (have_.getD j none).isNone
  let known := have_.map fun u => u.getD (List.replicate n 0)
  match missing with
  | [] => some known
  | [a] =>
    if 1 ≤ r then
      match get (memberP m row) with
      | some p => some (known.set a (xorAll (p :: known) n))
      | none =>
        if r = 2 then
          (get (memberQ m row)).map fun q =>
            let rest := parityQ known n
            known.set a ((List.range n).map fun i =>
              BitVec.ofNat 8 (gfMul ((q.getD i 0).toNat ^^^ (rest.getD i 0).toNat) (gfInv (gfPow 2 a))))
        else none
    else none
  | [a, b] =>
    if r = 2 then
      match get (memberP m row), get (memberQ m row) with
      | some p, some q =>
        let pr := xorAll (p :: known) n
        let rest := parityQ known n
        -- D_a ^ D_b = pr and g^a D_a ^ g^b D_b = qr
        let inv := gfInv (gfPow 2 a ^^^ gfPow 2 b)
        let da := (List.range n).map fun i =>
          let qr := (q.getD i 0).toNat ^^^ (rest.getD i 0).toNat
          BitVec.ofNat 8 (gfMul (qr ^^^ gfMul (gfPow 2 b) (pr.getD i 0).toNat) inv)
        some ((known.set a da).set b (List.zipWith (· ^^^ ·) pr da))
      | _, _ => none
    else none
  | _ => none

/-- Entries of the frame index: 2^n, which rounding the region up to whole rows does not double (R266). -/
def Volume.indexSize (v : Volume) : Nat := 2 ^ Nat.log2 ((v.regions.getD 2 (0, 0)).2 * 64)

/-- Rows of a take once a chunk has been appended. -/
def LiveTake.rowsWith (t : LiveTake) (v : Volume) (b : Bytes) : Nat := ceilDiv (t.buf.length + b.length) v.rowBytes

namespace State

/-! ### Members (R259, R262) -/

/-- Where a block of a media unit stands in the media: each unit is one namespace behind one root port. -/
def mediaAt (unit_ lba : Nat) : Nat := unit_ * 2 ^ 60 + lba * 4096

def mediaRead (s : State) (unit_ lba n : Nat) : Bytes := s.media.read (mediaAt unit_ lba) n
def mediaWrite (s : State) (unit_ lba : Nat) (b : Bytes) : State := { s with media := s.media.write (mediaAt unit_ lba) b }

/-- A member's unit of a row, if the member may be read: neither failed nor being rebuilt past this row. -/
def memberUnit (s : State) (v : Volume) (row k : Nat) : Option Bytes :=
  if bit v.failed k || (bit v.rebuilding k && v.progress ≤ row) then none
  else (v.ports[k]?).map fun p => s.mediaRead p (256 + row * 256) unitBytes

/-- The data of a row of the volume, rebuilt from parity where needed (R282). -/
def rowData (s : State) (v : Volume) (row : Nat) : Option Bytes :=
  (rebuildData v.m v.r row unitBytes (s.memberUnit v row)).map List.flatten

/-- Write a row to every member that is not failed and not in `skip`. -/
def rowStore (s : State) (v : Volume) (row : Nat) (data : Bytes) (skip : List Nat) : State :=
  (rowUnits v.m v.r row data).foldl (fun (t : State) u =>
    if bit v.failed u.1 || skip.contains u.1 then t
    else match v.ports[u.1]? with
      | some p => t.mediaWrite p (256 + row * 256) u.2
      | none => t) s

/-! ### REC_STAT (R297) -/

def recShow (s : State) : State :=
  let x := s.rs
  let anyTake : Bool := x.takes.any fun t => t.closed.isNone
  let failed := (x.vol.map fun v => v.failed).getD 0
  let rebuilding := (x.vol.map fun v => v.rebuilding).getD 0
  let st := if x.landed then 7 else if x.dead then 6 else if rebuilding ≠ 0 then 5 else if failed ≠ 0 then 4
    else if anyTake then 3 else if x.vol.isSome then 2 else if x.scanned then 1 else 0
  let s := (s.put Fl.REC_STAT_state [] st).put Fl.REC_STAT_recording [] (b2n anyTake)
  let s := (s.put Fl.REC_STAT_member_fault [] (b2n (failed ≠ 0 || rebuilding ≠ 0))).wr R.REC_FAILED [] failed
  let free := (x.vol.map fun v => (v.rows - 1) - v.nextRow).getD 0
  let s := s.wr64 R.REC_FREE_LO R.REC_FREE_HI [] free
  let k := (x.rebuild).getD 0
  let done := match x.vol with
    | some v => if rebuilding ≠ 0 then v.progress * 1000 / max v.rows 1 else s.get Fl.REC_REBUILD_permille
    | none => 0
  (((s.put Fl.REC_REBUILD_active [] (b2n (rebuilding ≠ 0))).put Fl.REC_REBUILD_member [] k).put Fl.REC_REBUILD_permille [] done).nsSync

/-! ### The recorder buffer (R279) -/

/-- The buffer of the pipeline's RCU-to-REC edge: plan address and size. -/
def recBuf (s : State) (p epoch : Nat) : Option (Nat × Nat) :=
  let g := s.graphOf epoch
  match g.edges.find? fun e => e.src = 0x200 + p * 16 + 3 && e.dst = 0x200 + p * 16 + 4 with
  | some e => (g.buffer? e.buffer).map fun b =>
      (g.bufferBase b, b.depth * (s.eff epoch Fl.REC_P_BUF_unit_mib [p] * 0x100000))
  | none => none

def bufUsed (s : State) (p : Nat) : Nat := sumOf (fun f => f.len) (s.rs.bufs.getD p ([], 0)).1

/-- Free a coded frame's space. -/
def bufFree (s : State) (p fid : Nat) : State :=
  s.modRec fun x => { x with bufs := modNth x.bufs p fun b => (b.1.filter fun f => f.fid ≠ fid, b.2) }

/-- Write bytes into a ring in HBM, at a position that wraps. -/
def ringWrite (s : State) (base size at_ : Nat) (b : Bytes) : State :=
  let first := b.take (size - at_ % size)
  (s.hbmWrite (base + at_ % size) first).hbmWrite base (b.drop first.length)

/-- Put a coded frame into the buffer; its header bytes go in last, which completes it (R242, R279). -/
def bufPut (s : State) (p fid base size : Nat) (b : Bytes) : State :=
  let at_ := (s.rs.bufs.getD p ([], 0)).2
  let s := s.ringWrite base size (at_ + 128) (b.drop 128)
  let s := s.ringWrite base size at_ (b.take 128)
  s.modRec fun x => { x with bufs := modNth x.bufs p fun q => (q.1 ++ [⟨at_ % size, b.length, fid⟩], (at_ + b.length) % size) }

/-! ### Takes -/

def evTake (s : State) (p take cause : Nat) (closed : Bool) : State :=
  s.ev 0x0083 srcREC p (take + 2 ^ 16 * b2n closed + 2 ^ 17 * cause)

/-- The take table entry of a take. -/
def entryOf (s : State) (n : Nat) : Option Take := s.rs.vol.bind fun v => v.takes.find? fun e => e.num = n

/-- A take that records ends (R280, R281, R284). -/
def closeTake (s : State) (n cause : Nat) : State :=
  match s.takeOf n with
  | some t =>
    if t.closed.isSome then s
    else
      let s := s.modTake n fun x => { x with closed := some cause }
      let s := s.modEntry n fun e => { e with state := 2, flags := e.flags ||| (if cause = 2 then 8 else if cause = 1 then 1 else 0) }
      (s.evTake t.pipe n cause true).recShow
  | none => s

/-- Allocate an extent of up to 64 rows to a take (R270); false when there is no room. -/
def allocExtent (s : State) (n : Nat) : State × Bool :=
  match s.rs.vol with
  | some v =>
    let free := (v.rows - 1) - v.nextRow
    if free = 0 || 1048576 ≤ v.extents.length then (s, false)
    else
      let c := min 64 free
      let k := v.extents.length
      let seq := (v.extents.filter fun e => e.take = n).length
      let exts := v.extents.map fun e => if e.take = n && e.next = 0xFFFFFFFF then { e with next := k } else e
      let s := s.modVol fun v => { v with extents := exts ++ [⟨n, seq, v.nextRow, c, 0xFFFFFFFF, 0⟩], nextRow := v.nextRow + c }
      (s.modTake n fun x => { x with rows := x.rows ++ (List.range c).map fun i => v.nextRow + i }, true)
  | none => (s, false)

/-- Make room for `rows` rows in a take. -/
def ensureRows (s : State) (n rows : Nat) : Nat → State × Bool
  | 0 => (s, false)
  | fuel + 1 =>
    match s.takeOf n with
    | some t => if rows ≤ t.rows.length then (s, true)
      else
        let a := s.allocExtent n
        if a.2 then a.1.ensureRows n rows fuel else (a.1, false)
    | none => (s, false)

/-- The chunk header of R271. -/
def chunkHeader (kind p take len fid time epoch : Nat) (payload : Bytes) : Bytes :=
  let b := [0x49, 0x4D, 0x4D, 0x43] ++ leBytes 1 kind ++ leBytes 1 p ++ leBytes 2 0 ++ leBytes 4 take ++ leBytes 4 len
    ++ leBytes 8 fid ++ leBytes 8 time ++ leBytes 4 epoch ++ leBytes 4 (crc32c payload) ++ leBytes 20 0
  b ++ leBytes 4 (crc32c b)

/-- A chunk takes its place in the buffer of a take whose rows reach far enough. -/
def putChunk (s : State) (v : Volume) (t : LiveTake) (kind fid time epoch fsw cert len : Nat) (body : Bytes) : State :=
  let first := t.buf.length / v.rowBytes
  let last := (t.buf.length + body.length - 1) / v.rowBytes
  let rows := (t.rows.drop first).take (last + 1 - first)
  let vlba := (t.rows.getD first 0) * v.rowBlocks + t.buf.length % v.rowBytes / 4096
  let c : Chunk := ⟨kind, t.pipe, t.num, fid, fid, 0, vlba, len, fsw, time, epoch, cert, rows⟩
  s.modTake t.num fun x => { x with
    buf := x.buf ++ body, chunks := x.chunks ++ [c], raws := if kind = 1 then x.raws ++ [(fid, false)] else x.raws }

/-- Entries of the index, those included that wait for a commit. -/
def indexUsed (s : State) : Nat :=
  ((s.rs.vol.map fun v => v.index.length).getD 0) + s.rs.losts.length + sumOf (fun t => t.chunks.length) s.rs.takes

/-- A chunk (R271): its header, the payload, and zeros to the next block boundary. -/
def chunkBytes (kind p take fid time epoch : Nat) (payload : Bytes) : Bytes :=
  let b := chunkHeader kind p take payload.length fid time epoch payload ++ payload
  b ++ List.replicate (roundUp b.length 4096 - b.length) 0

/-- A chunk of `len` payload bytes enters take `t`, if rows were found for it and the index has an entry left (R270, R280). -/
def placeChunk (s : State) (found : Bool) (v : Volume) (t : LiveTake) (kind fid time epoch fsw cert len : Nat) (body : Bytes) : State :=
  if !found || v.indexSize ≤ s.indexUsed then s.closeTake t.num 2
  else match s.takeOf t.num with
    | some u => s.putChunk v u kind fid time epoch fsw cert len body
    | none => s

/-- Append a chunk to take `n`. The take stops when the data region or a table is full (R280). -/
def addChunk (s : State) (n kind fid time epoch fsw cert : Nat) (payload : Bytes) : State :=
  match s.rs.vol, s.takeOf n with
  | some v, some t =>
    let body := chunkBytes kind t.pipe n fid time epoch payload
    let a := s.ensureRows n (t.rowsWith v body) (t.rowsWith v body + 1)
    a.1.placeChunk a.2 v t kind fid time epoch fsw cert payload.length body
  | _, _ => s

/-! ### Commit intervals (R287, R288) -/

/-- A metadata record (R288). -/
def metaRec (kind : Nat) (b : Bytes) : Bytes := leBytes 2 kind ++ leBytes 2 0 ++ leBytes 4 b.length ++ b

/-- What a commit interval, or the end of a take, adds to it: a metadata job for engine REC_CFG.engine (R288, R291), and a block of audio for
each port (R287). Without ZST there is no metadata (log 118). -/
def intervalEnd (s : State) (t : LiveTake) : State :=
  let e := s.pipeEpoch t.pipe
  let job : RecJob := ⟨s.get Fl.REC_CFG_engine, t.num, t.metaFid, e, t.metadata⟩
  let s := if t.metadata.isEmpty || !s.powered .zst then s else s.modRec fun x => { x with jobs := x.jobs ++ [job] }
  let s := t.audBuf.foldl (fun (u : State) a =>
    if a.samples.isEmpty then u
    else
      let n := a.samples.length / (4 * max a.channels 1)
      let b := leBytes 8 a.time ++ leBytes 4 a.rate ++ leBytes 4 n ++ leBytes 1 a.channels ++ leBytes 1 0 ++ leBytes 2 a.port
        ++ leBytes 4 a.fades ++ leBytes 8 0
      u.addChunk t.num 3 noFrame u.dt e 0 0 (b ++ a.samples)) s
  s.modTake t.num fun x => { x with metadata := [], audBuf := x.audBuf.map fun a => { a with samples := [], fades := 0 } }

/-- A take ends with what its last interval holds (R280, R287, R288). -/
def endTake (s : State) (n : Nat) : State :=
  match s.takeOf n with
  | some t => if t.closed.isSome then s else (s.intervalEnd t).closeTake n 0
  | none => s

/-! ### Frames (R279, R280, R288) -/

/-- The metadata record of a sky epoch, for the first frame of it that a pipeline records (R484). -/
def skyMeta (s : State) (p epoch : Nat) : Bytes :=
  if (s.pipeSt p).skyMark = some epoch then
    match (s.epochRec epoch).sky with
    | some x => metaRec 5 (leBytes 4 x.1 ++ leBytes 4 epoch ++ leBytes 8 x.2.1 ++ leBytes 2 x.2.2 ++ leBytes 6 0)
    | none => []
  else []

/-- The records of a frame (R288). Those of a synthesised frame are the records of its first contribution, whose FRAME_ID, epoch and
boundary time it has, while the slot still holds that frame (DESIGN CHOICE, log 117). -/
def frameMeta (s : State) (f : Frame) : Bytes :=
  match s.slotAddr f.epoch f.pipe f.slot with
  | some (r, base) =>
    let b := s.hbmRead base 64
    let own : Bool := f.model.isNone || fieldLe b 0 8 = f.fid
    (if own then metaRec 1 b ++ metaRec 2 (s.hbmRead (base + 0x400) 304) ++ metaRec 3 (s.hbmRead (base + embedOff r) (fieldLe b 52 4))
      else []) ++ (match f.summary with | some b => metaRec 4 b | none => []) ++ s.skyMeta f.pipe f.epoch
  | none => []

/-- A frame of a take reaches REC: raw chunk, table entry, metadata (R269, R270, R288). -/
def takeFrame (s : State) (t : LiveTake) (f : Frame) (fsw cert : Nat) (b : Bytes) : State :=
  let p := f.pipe
  let streams := s.takeStreams t.num
  let isFirst : Bool := ((s.entryOf t.num).map fun e => e.firstFid == noFrame).getD false
  let s := if bit streams 0 then s.addChunk t.num 1 f.fid f.time f.epoch fsw cert b else s.bufFree p f.fid
  if !((s.takeOf t.num).any fun x => x.closed.isNone) then s.bufFree p f.fid else
  let s := s.modEntry t.num fun e =>
    if isFirst then { e with firstFid := f.fid, firstTime := f.time, epoch := f.epoch, firstTb3 := s.tbNs 3 - (s.dt - f.time)
                             mode := s.eff f.epoch Fl.RCU_MODE_mode [p], q := s.eff f.epoch Fl.RCU_MODE_q [p] } else e
  let s := s.modTake t.num fun x => { x with last := some (match x.last with
    | some l => if l.1 < f.fid then (f.fid, f.time) else l
    | none => (f.fid, f.time)) }
  if bit streams 3 then
    let m := s.frameMeta f
    let s := s.modPipe p fun st => { st with skyMark := if st.skyMark = some f.epoch then none else st.skyMark }
    s.modTake t.num fun x => { x with metadata := x.metadata ++ m, metaFid := if x.metadata.isEmpty then f.fid else x.metaFid }
  else s

/-- A coded frame is complete in the buffer: it reaches REC (R279, R280). -/
def recFrame (s : State) (f : Frame) (fsw cert : Nat) (b : Bytes) : State :=
  match s.liveTake f.pipe with
  | none => s.bufFree f.pipe f.fid
  | some t =>
    let after : Bool := match t.stopAt with | some q => q < f.fid && q ≠ noFrame | none => false
    if t.fromFid ≠ noFrame && f.fid < t.fromFid then s.bufFree f.pipe f.fid
    else if after then (s.endTake t.num).bufFree f.pipe f.fid
    else
      let s := s.takeFrame t f fsw cert b
      if t.stopAt = some f.fid then s.endTake t.num else s

end State

end Sys2Proof.Machine
end

