-- ==== Sys2Proof/Machine/Rcu.lean ====
section
/-! DEFINITION. Raw coding (R240 to R256): the quantiser, the payload bitstream, the rate ladder and the coded frame. -/

namespace Sys2Proof.Machine

/-- A tile's samples in raster order, with its size and period. -/
structure TileIn where
  tw : Nat
  th : Nat
  p : Nat
  v : Array Int
  tag : Array Nat
  sat : Array Bool
  fixed : Array Bool

/-- The noise model by tag (R240). -/
abbrev Model := List (F32 × F32)

def Model.g (m : Model) (t : Nat) : F32 := (m.getD t (F32.ofNat 1, F32.ofNat 1)).1
def Model.sr (m : Model) (t : Nat) : F32 := (m.getD t (F32.ofNat 1, F32.ofNat 1)).2

/-- fwd of R245. -/
def qFwd (m : Model) (q : Nat) (v : Int) (t : Nat) : Int :=
  let x := F32.ofInt v
  let a := if F32.le x F32.zero then x.div (m.sr t)
    else ((F32.ofNat 2).mul (m.g t)).mul ((F32.sqrt ((x.div (m.g t)).add ((m.sr t).mul (m.sr t)))).sub (m.sr t))
  let n := F32.floor (((a.mul (F32.ofNat 64)).div (F32.ofNat q)).add (F32.ofRat 1 2))
  min (max n (-16777216)) 16777215

/-- inv of R245. -/
def qInv (m : Model) (q : Nat) (n : Int) (t : Nat) : Int :=
  let u := ((F32.ofInt n).mul (F32.ofNat q)).div (F32.ofNat 64)
  let y := if F32.le u F32.zero then u.mul (m.sr t)
    else
      let w := (u.div ((F32.ofNat 2).mul (m.g t))).add (m.sr t)
      (m.g t).mul ((w.mul w).sub ((m.sr t).mul (m.sr t)))
  y.toIntClamp (-16777216) 16777215

/-- cert of R245. -/
def qCert (m : Model) (v vh : Int) (t : Nat) : Nat :=
  let sig := F32.sqrt (((F32.fmax (F32.ofInt v) F32.zero).div (m.g t)).add ((m.sr t).mul (m.sr t)))
  let c := ((F32.abs (F32.ofInt (v - vh))).div sig).mul (F32.ofNat 64)
  if F32.lt (F32.ofNat 65535) c then 65535 else (min 65535 (F32.ceil c)).toNat

/-- Bits of a value, most significant first (R247). -/
def bitsMsb (n v : Nat) : List Bool := (List.range n).map fun i => bit v (n - 1 - i)

/-- Exp-Golomb of order k (R247). -/
def expGolomb (k r : Nat) : List Bool :=
  let w := r + 2 ^ k
  let nb := Nat.log2 w
  List.replicate (nb - k) false ++ bitsMsb (nb + 1) w

/-- Pack bits from bit 7 of byte 0 downwards (R247). -/
def packBits (b : List Bool) : Bytes :=
  (List.range (ceilDiv b.length 8)).map fun i =>
    BitVec.ofNat 8 (sumOf (fun k => if ((b.drop (8 * i)).getD k false) then 2 ^ (7 - k) else 0) (List.range 8))

/-- The side plane (R248). -/
def sideSymbols (t : TileIn) : List Nat := (List.range (t.tw * t.th)).map fun i => t.tag.getD i 0 + 4 * b2n (t.sat.getD i false)

def sideRuns : List Nat → List (Nat × Nat)
  | [] => []
  | x :: rest =>
    match sideRuns rest with
    | (y, n) :: more => if x = y then (y, n + 1) :: more else (x, 1) :: (y, n) :: more
    | [] => [(x, 1)]

def sideBits (t : TileIn) : List Bool := (sideRuns (sideSymbols t)).flatMap fun r => bitsMsb 3 r.1 ++ expGolomb 4 (r.2 - 1)

/-- What coding a tile carries from sample to sample: context sums A and counts N, bits so far (newest first), escapes, the
worst certificate, and samples of the current run still to skip (R249 to R251). -/
structure CodeSt where
  ca : Array Int
  cn : Array Nat
  out : List Bool
  esc : Nat
  cert : Nat
  skip : Nat
  forced : Bool

def median (a b c : Int) : Int := max (min a b) (min (max a b) c)

/-- Coded value of every sample: v, or fwd(v) in a QUANT tile (R249). -/
def codedValues (t : TileIn) (m : Model) (q : Option Nat) : Array Int :=
  match q with
  | none => t.v
  | some q => (Array.range (t.tw * t.th)).map fun i => qFwd m q (t.v.getD i 0) (t.tag.getD i 0)

/-- Samples that escape in a QUANT tile (R246). -/
def escapes (t : TileIn) (m : Model) (q : Option Nat) (s : Array Int) : Array Bool :=
  match q with
  | none => (Array.range (t.tw * t.th)).map fun _ => false
  | some q => (Array.range (t.tw * t.th)).map fun i =>
      q / 2 + 1 < qCert m (t.v.getD i 0) (qInv m q (s.getD i 0) (t.tag.getD i 0)) (t.tag.getD i 0)

/-- Code sample i of a tile (R249 to R251). -/
def codeSample (t : TileIn) (m : Model) (q : Option Nat) (s : Array Int) (e : Array Bool) (c : CodeSt) (k : Nat) : CodeSt :=
  let i := k / t.tw
  let j := k % t.tw
  let at_ (a b : Nat) : Int := s.getD (a * t.tw + b) 0
  let certOf : Nat := match q with
    | none => 0
    | some q => if e.getD k false then 0 else qCert m (t.v.getD k 0) (qInv m q (s.getD k 0) (t.tag.getD k 0)) (t.tag.getD k 0)
  if 0 < c.skip then { c with skip := c.skip - 1, cert := max c.cert certOf, forced := c.skip = 1 && j + 1 < t.tw }
  else
    let inner : Bool := t.p ≤ i && t.p ≤ j
    let a := at_ i (j - t.p)
    let b := at_ (i - t.p) j
    let cc := at_ (i - t.p) (j - t.p)
    let d := at_ (i - t.p) (j + t.p)
    let runAt : Bool := inner && j + t.p < t.tw && a = b && b = cc && cc = d && !c.forced
    let ok (n : Nat) : Bool := s.getD (i * t.tw + n) 0 = at_ i (n - t.p) && !(e.getD (i * t.tw + n) false)
    let r := if runAt then (((List.range (t.tw - j)).map fun n => j + n).takeWhile ok).length else 0
    let c := if runAt then { c with out := (expGolomb 2 r).reverse ++ c.out } else c
    if 0 < r then { c with skip := r - 1, cert := max c.cert certOf, forced := r = 1 && j + 1 < t.tw }
    else
      let pred : Int := if i < t.p && j < t.p then 0 else if i < t.p then a else if j < t.p then b else median a b (a + b - cc)
      let ctx := phase t.p j i
      let ca := c.ca.getD ctx 4
      let cn := c.cn.getD ctx 1
      let err := s.getD k 0 - pred
      let mm : Nat := (if 0 ≤ err then 2 * err else -2 * err - 1).toNat
      let kk := ((List.range 25).find? fun x => ca ≤ ((cn * 2 ^ x : Nat) : Int)).getD 24
      let esc : Bool := 24 ≤ mm / 2 ^ kk || e.getD k false
      let word := if esc then List.replicate 24 true ++ bitsMsb 25 (unsigned 25 (t.v.getD k 0))
        else List.replicate (mm / 2 ^ kk) true ++ [false] ++ bitsMsb kk (mm % 2 ^ kk)
      let ca := ca + (min err.natAbs 65535 : Nat)
      let cn := cn + 1
      let full := cn = 64
      { c with
        ca := c.ca.setIfInBounds ctx (if full then (ca + 1) / 2 else ca)
        cn := c.cn.setIfInBounds ctx (if full then 32 else cn)
        out := word.reverse ++ c.out
        esc := c.esc + b2n esc
        cert := if esc then c.cert else max c.cert certOf
        forced := false }

/-- A coded tile: mode, Q, certificate, payload bits, side plane present, escapes. -/
structure TileOut where
  mode : Nat
  q : Nat
  cert : Nat
  nbits : Nat
  payload : Bytes
  side : Bool
  esc : Nat
  deriving DecidableEq, Repr

/-- Code a tile LOSSLESS (no step) or QUANT (R248 to R251). -/
def codeTile (t : TileIn) (m : Model) (q : Option Nat) : TileOut :=
  let s := codedValues t m q
  let e := escapes t m q s
  let side : Bool := (sideSymbols t).any fun x => x ≠ 0
  let n := t.p * t.p
  let c := (List.range (t.tw * t.th)).foldl (codeSample t m q s e)
    ⟨(Array.range n).map fun _ => 4, (Array.range n).map fun _ => 1, [], 0, 0, 0, false⟩
  let b := (if side then sideBits t else []) ++ c.out.reverse
  ⟨if q.isSome then 1 else 0, q.getD 0, c.cert, b.length, packBits b, side, c.esc⟩

/-- Code a tile MEAN (R252). A phase without samples has no mean: what is written for it is free (log 16). -/
def codeMean (t : TileIn) (m : Model) : TileOut :=
  let idx := List.range (t.tw * t.th)
  let ph (k : Nat) : Nat := phase t.p (k % t.tw) (k / t.tw)
  let mean (c : Nat) : Int :=
    let mine := idx.filter fun k => ph k = c
    let sum := mine.foldl (fun (a : Int) k => a + t.v.getD k 0) 0
    if mine.isEmpty then Config.nanInt else (2 * sum + (mine.length : Int)) / (2 * (mine.length : Int))
  let means := (List.range (t.p * t.p)).map mean
  let cert := idx.foldl (fun a k => max a (qCert m (t.v.getD k 0) (means.getD (ph k) 0) (t.tag.getD k 0))) 0
  ⟨2, 0, cert, 32 * t.p * t.p, means.flatMap fun v => leBytes 4 (unsigned 32 v), false, 0⟩

/-- Header, payload and padding of a tile (R242, R244). -/
def tileBytes (t : TileIn) (o : TileOut) (tx ty fid : Nat) : Bytes :=
  let any (a : Array Bool) : Bool := a.any fun x => x
  let flags := b2n o.side + 2 * b2n (any t.sat) + 4 * b2n (any t.fixed) + 8 * b2n (o.esc ≠ 0)
  let h := leBytes 1 o.mode ++ leBytes 1 o.q ++ leBytes 2 o.cert ++ leBytes 3 o.nbits ++ leBytes 1 flags ++ leBytes 2 tx
    ++ leBytes 2 ty ++ leBytes 2 fid
  let b := h ++ leBytes 2 (crc16 (h ++ o.payload)) ++ o.payload
  b ++ List.replicate (roundUp b.length 8 - b.length) 0

/-- Cost of a tile at a rung (R254): header and padded payload. -/
def tileCost (o : TileOut) : Nat := 16 + roundUp o.payload.length 8

def ladder : List Nat := [16, 23, 32, 45, 64, 91, 128, 181]

/-- The rungs of a tile in RATE mode (R254). -/
def rungs (t : TileIn) (m : Model) (qmin : Nat) : List TileOut :=
  (ladder.map fun l => codeTile t m (some (min 128 ((qmin * l + 8) / 16)))) ++ [codeMean t m]

/-- The allocation of R254: move the costliest tile to its next rung until the row fits. -/
def allocate (costs : List (List Nat)) (beff : Nat) : Nat → List Nat → List Nat
  | 0, r => r
  | fuel + 1, r =>
    let cost (i : Nat) : Nat := (costs.getD i []).getD (r.getD i 0) 0
    if sumOf cost (List.range r.length) ≤ beff then r
    else
      let cand := (List.range r.length).filter fun i => r.getD i 0 < 8
      match cand with
      | [] => r
      | c0 :: _ =>
        let best := cand.foldl (fun b i => if cost b < cost i then i else b) c0
        allocate costs beff fuel (r.set best (r.getD best 0 + 1))

namespace State

/-- Width of a tile's part in tile columns (R241). -/
def rcuCols (w t : Nat) : Nat := ceilDiv (ceilDiv w 64) t

/-- The bound of a coded frame (R255). -/
def rcuBound (s : State) (f : Frame) (tiles : Nat) : Nat :=
  let p := f.pipe
  let tc := ceilDiv f.width 64
  let tr := ceilDiv f.height 64
  let rate : Bool := s.eff f.epoch Fl.RCU_MODE_mode [p] = 2
  let per := cfaPeriod (s.eff f.epoch Fl.RCT_STAGE_cfa [p])
  let c := rcuCols f.width tiles
  let rowBudget (k ty : Nat) : Nat :=
    let cols := min (min ((k + 1) * c) tc) tc - min (k * c) tc
    let w := min (min ((k + 1) * c) tc * 64) f.width - min (k * c * 64) f.width
    let h := min 64 (f.height - ty * 64)
    max (ceilDiv (s.eff f.epoch Fl.RCU_RATE_bps16 [p] * (w * h)) 128) (cols * (16 + roundUp (4 * per * per) 8))
  let tilesPart := if rate then sumOf (fun k => sumOf (rowBudget k) (List.range tr)) (List.range tiles) else tc * tr * 29200
  roundUp (128 + tilesPart + 4 * tr + 4) 64

/-- Samples of tile (tx, ty) of a frame (R241). -/
def tileIn (f : Frame) (arr : Array Nat) (p tx ty : Nat) : TileIn :=
  let tw := min 64 (f.width - tx * 64)
  let th := min 64 (f.height - ty * 64)
  let w (k : Nat) : Nat := arr.getD ((ty * 64 + k / tw) * f.width + tx * 64 + k % tw) 0
  let idx := Array.range (tw * th)
  ⟨tw, th, p, idx.map fun k => signed 25 (w k), idx.map fun k => bits (w k) 26 25, idx.map fun k => bit (w k) 27,
    idx.map fun k => bit (w k) 28⟩

/-- An RCU tile codes one tile row of its part (R253, R254): the coded tiles with their place, escapes, MEAN tiles, whether the
row met its floor, and the worst certificate. -/
def codeRow (s : State) (f : Frame) (arr : Array Nat) (c0 c1 ty : Nat) : List (Nat × Bytes) × Nat × Nat × Bool × Nat :=
  let p := f.pipe
  let per := cfaPeriod (s.eff f.epoch Fl.RCT_STAGE_cfa [p])
  let m : Model := (List.range 4).map fun e => s.modelOf f e
  let mode := s.eff f.epoch Fl.RCU_MODE_mode [p]
  let txs := (List.range (c1 - c0)).map fun i => c0 + i
  let ins := txs.map fun tx => tileIn f arr per tx ty
  let outs : List TileOut × Bool :=
    if mode = 0 then (ins.map fun t => codeTile t m none, false)
    else if mode = 1 then (ins.map fun t => codeTile t m (some (s.eff f.epoch Fl.RCU_MODE_q [p])), false)
    else
      let all := ins.map fun t => rungs t m (s.eff f.epoch Fl.RCU_MODE_qmin [p])
      let costs := all.map fun r => r.map tileCost
      let samples := sumOf (fun t => t.tw * t.th) ins
      let budget := ceilDiv (s.eff f.epoch Fl.RCU_RATE_bps16 [p] * samples) 128
      let floor_ := sumOf (fun r => r.getD 8 0) costs
      let beff := max budget floor_
      let r := allocate costs beff (8 * ins.length + 1) (ins.map fun _ => 0)
      ((all.zip r).filterMap fun q => q.1[q.2]?, budget < beff || r.any fun x => x = 8)
  let tiles := (txs.zip (ins.zip outs.1)).map fun q => (ty * 65536 + q.1, tileBytes q.2.1 q.2.2 q.1 ty f.fid)
  (tiles, sumOf (fun o => o.esc) outs.1, (outs.1.filter fun o => o.mode = 2).length, outs.2,
    outs.1.foldl (fun a o => max a o.cert) 0)

/-- The coded frame (R242, R243). -/
def codedFrame (s : State) (f : Frame) (r : StreamRec) : Bytes :=
  let p := f.pipe
  let tc := ceilDiv f.width 64
  let tr := ceilDiv f.height 64
  let tile (ty tx : Nat) : Bytes := ((f.coded.find? fun q => q.1 = ty * 65536 + tx).map (·.2)).getD []
  let rows := (List.range tr).map fun ty => (List.range tc).flatMap fun tx => tile ty tx
  let offs := ((List.range tr).map fun ty => 128 + sumOf (fun k => (rows.getD k []).length) (List.range ty)).flatMap fun o => leBytes 4 o
  let tiles := rows.flatten
  let body := tiles ++ offs ++ leBytes 4 (crc32c offs)
  let len := roundUp (128 + body.length) 64
  let h := [0x52, 0x43, 0x55, 0x46] ++ leBytes 2 1 ++ leBytes 1 (s.eff f.epoch Fl.RCU_MODE_mode [p])
    ++ leBytes 1 (cfaPeriod (s.eff f.epoch Fl.RCT_STAGE_cfa [p])) ++ leBytes 8 f.fid ++ leBytes 4 f.epoch
    ++ leBytes 4 (fswFinal f.fsw) ++ leBytes 8 f.time ++ leBytes 2 f.width ++ leBytes 2 f.height ++ leBytes 1 r.exposures
    ++ leBytes 1 p ++ leBytes 2 tc ++ leBytes 2 tr ++ leBytes 2 f.cert ++ leBytes 4 len
    ++ (List.range 4).flatMap (fun e => leBytes 4 (s.modelOf f e).1.toBits)
    ++ (List.range 4).flatMap (fun e => leBytes 4 (s.modelOf f e).2.toBits)
    ++ leBytes 1 ((f.model.map (·.2)).getD 0) ++ leBytes 43 0
  h ++ leBytes 4 (crc32c h) ++ body ++ List.replicate (len - 128 - body.length) 0

/-- The last tile of a frame has coded its part: the frame goes into the recorder buffer and reaches REC (R242, R279). -/
def rcuDone (s : State) (p fid : Nat) : State :=
  match s.frameIn .rcu p fid with
  | some f =>
    if !(tilesDone f .rcu 2) then s
    else
      match (s.graphOf f.epoch).streamOf p, s.recBuf p f.epoch with
      | some r, some (base, size) =>
        let b := s.codedFrame f r
        let s := s.bufPut p fid base size b
        (s.recFrame f (fswFinal f.fsw) f.cert b).modFrame .rcu p fid fun x => { x with entered := .recorder :: x.entered }
      | _, _ => s
  | none => s

/-- A frame that finds too little space in the recorder buffer is not coded; it is lost to the take that covers it (R279). -/
def rcuRefuse (s : State) (f : Frame) : State :=
  let s := match s.coveringTake f.pipe f.fid with
    | some n => s.recLost n f.pipe f.fid 1 f.time f.epoch
    | none => s
  let s := s.modFrame .rcu f.pipe f.fid fun x => { x with units := x.units.filter fun u => u ≠ .rcu && u ≠ .recorder }
  if bit f.fsw fswReissued then s.reissueLeft f.pipe f.fid else s

/-- Space that the frames being coded hold in the recorder buffer: the bound of each, until its header is written (R279). -/
def bufHeld (s : State) (p : Nat) : Nat :=
  sumOf (fun f => if f.pipe = p && f.units.contains .rcu && f.entered.contains .rcu && !(f.entered.contains .recorder) then
    s.rcuBound f (s.workers f.epoch p 2).length else 0) s.frames

/-- A frame enters RCU, or is refused where the recorder buffer has too little space (R279). -/
def rcuEnter (s : State) (f : Frame) : State :=
  let room : Bool := match s.recBuf f.pipe f.epoch with
    | some (_, size) => s.rcuBound f (s.workers f.epoch f.pipe 2).length + s.bufUsed f.pipe + s.bufHeld f.pipe ≤ size
    | none => false
  if f.entered.contains .rcu then s else if room then s.enterUnit .rcu f.pipe f.fid 2 else s.rcuRefuse f

/-- An RCU tile codes its tile columns of a frame (R241, R242); `run` computes the stripe and reports on it (R240). -/
def rcuFrame (s : State) (tile run fid : Nat) : State :=
  match s.tileWork .rcu 2 tile fid with
  | none => s
  | some p =>
    match s.frameIn .rcu p fid with
    | none => s
    | some f0 =>
      if (f0.units.contains .cap && !(f0.entered.contains .cap)) || !(s.powered (.rcu run)) || s.replaying 2 tile fid then s
      else
        let tiles := s.workers f0.epoch p 2
        let s := s.rcuEnter f0
        match s.frameIn .rcu p fid with
        | none => s
        | some f =>
            if !(f.owes.contains (2, tile)) then s
            else
              let k := (tiles.takeWhile fun n => n ≠ tile).length
              let tc := ceilDiv f.width 64
              let c := rcuCols f.width tiles.length
              let arr := f.words.foldl (fun (a : Array Nat) q => a.setIfInBounds (q.1 / 65536 * f.width + q.1 % 65536) q.2)
                (Array.replicate (f.width * f.height) 0)
              let rows := (List.range (ceilDiv f.height 64)).map fun ty => s.codeRow f arr (min (k * c) tc) (min ((k + 1) * c) tc) ty
              let esc := sumOf (fun r => r.2.1) rows
              let means := sumOf (fun r => r.2.2.1) rows
              let floor_ : Bool := rows.any fun r => r.2.2.2.1
              let cert := rows.foldl (fun a r => max a r.2.2.2.2) 0
              let bad := s.stripeSpoilt 2 tile fid
              let tilesOut := (rows.flatMap fun r => r.1).mapIdx fun (i : Nat) (q : Nat × Bytes) =>
                if bad then (q.1, q.2.mapIdx fun (j : Nat) (_ : Byte) => Config.freeByte (s.free + i * 2 ^ 16 + j)) else q
              let s := s.spoiltDone 2 tile fid (tilesOut.length * 2 ^ 16)
              let s := s.modFrame .rcu p fid fun x => { x with
                coded := x.coded ++ tilesOut, cert := max x.cert cert, owes := x.owes.filter fun o => o ≠ (2, tile)
                fsw := if floor_ then setBit x.fsw fswRateFloor else x.fsw
                results := x.results ++ [(.rcu, R.RCU_LASTCERT.key [run], BitVec.ofNat 32 cert),
                  (.rcu, R.RCU_LASTBYTES.key [run], BitVec.ofNat 32 (sumOf (fun q => q.2.length) tilesOut))]
                  ++ lastFid .rcu R.RCU_LASTFID_LO R.RCU_LASTFID_HI run fid }
              let s := (s.showBusy 2 tile).showBusy 2 run
              let s := (s.inc Fl.RCU_ESC_count [run] esc).inc Fl.RCU_MEAN_count [run] means
              let s := if floor_ then s.evLimited 0x0078 srcRCU run f.epoch fid means else s
              s.rcuDone p fid

end State

/-- RCU_FRAME (R242). -/
def execRcuFrame (tile fid : Nat) (s : State) : Res := .next (s.rcuFrame tile tile fid)

end Sys2Proof.Machine
end

