-- ==== Sys2Proof/Machine/Recorder.lean ====
section
/-! DEFINITION. The media recorder's commands (R259 to R289): scan, format, open, takes, rows, commits, checkpoints, member
failure, rebuild and landing. -/

namespace Sys2Proof.Machine

/-- Completion codes (R290). -/
def stNoMedia : Nat := 0x8080
def stVolFull : Nat := 0x8081
def stVolBad : Nat := 0x8082

def blk4k (b : Bytes) : Bytes := b ++ List.replicate (4092 - b.length) 0

/-- A 4 KiB block closed by its CRC-32C. -/
def crcBlock (b : Bytes) : Bytes := let c := blk4k b; c ++ leBytes 4 (crc32c c)

def crcBlockOk (b : Bytes) : Bool := crc32c (b.take 4092) = fieldLe b 4092 4

/-- One step of CRC-64/ECMA-182, most significant bit first. -/
def crc64Step (c : Nat) : Nat := if c / 2 ^ 63 % 2 = 1 then (c * 2 % 2 ^ 64) ^^^ 0x42F0E1EBA9EA3693 else c * 2 % 2 ^ 64

/-- The member ID of a drive (R268). -/
def memberId (identity : Bytes) : Nat := identity.foldl (fun c b => crc64Step^[8] (c ^^^ (b.toNat * 2 ^ 56))) 0

def labelBytes (index m r uuid id : Nat) : Bytes :=
  crcBlock ([0x49, 0x4D, 0x4D, 0x4C] ++ leBytes 2 1 ++ leBytes 1 index ++ leBytes 1 m ++ leBytes 1 r ++ leBytes 7 0
    ++ leBytes 16 uuid ++ leBytes 8 id)

/-- The superblock (R267). -/
def Volume.superBytes (v : Volume) : Bytes :=
  let region (i : Nat) : Bytes := leBytes 8 (v.regions.getD i (0, 0)).1 ++ leBytes 8 (v.regions.getD i (0, 0)).2
  let b := [0x49, 0x4D, 0x4D, 0x56] ++ leBytes 2 1 ++ leBytes 1 v.m ++ leBytes 1 v.r ++ leBytes 16 v.uuid
    ++ leBytes 8 (v.rows * v.rowBlocks) ++ leBytes 4 v.rowBlocks ++ leBytes 4 v.nextTake ++ leBytes 8 v.ckpt
    ++ leBytes 8 v.firstReplay ++ leBytes 8 v.formatTime ++ (List.range 8).flatMap region ++ leBytes 4 v.failed
    ++ leBytes 4 v.rebuilding ++ leBytes 8 v.progress ++ (List.range 32).flatMap (fun i => leBytes 8 (v.ids.getD i 0))
    ++ (v.label ++ List.replicate 32 0).take 32
  crcBlock b

/-- Take table entry (R269). -/
def Take.encode (t : Take) : Bytes :=
  let b := leBytes 4 t.num ++ leBytes 1 t.state ++ leBytes 1 t.flags ++ leBytes 1 t.pipe ++ leBytes 1 t.streams
    ++ leBytes 8 t.firstFid ++ leBytes 8 t.lastFid ++ leBytes 8 t.firstTime ++ leBytes 8 t.lastTime ++ leBytes 8 t.firstTb3
    ++ leBytes 4 t.frames ++ leBytes 4 t.firstExt ++ leBytes 4 t.extCount ++ leBytes 4 0 ++ leBytes 8 t.firstIdx
    ++ leBytes 8 t.idxCount ++ leBytes 8 t.bytes ++ leBytes 1 t.mode ++ leBytes 1 t.q ++ leBytes 2 0 ++ leBytes 4 t.epoch
    ++ (t.label ++ List.replicate 64 0).take 64 ++ leBytes 92 0
  b ++ leBytes 4 (crc32c b)

def Take.decode (b : Bytes) : Take :=
  let w (i n : Nat) : Nat := fieldLe b i n
  ⟨w 0 4, w 4 1, w 5 1, w 6 1, w 7 1, w 8 8, w 16 8, w 24 8, w 32 8, w 40 8, w 48 4, w 52 4, w 56 4, w 64 8, w 72 8, w 80 8,
    w 88 1, w 89 1, w 92 4, (b.drop 96).take 64⟩

/-- An extent table entry (R270); an extent of no row is no entry. -/
def Extent.encode (e : Extent) : Bytes :=
  if e.count = 0 then leBytes 32 0 else
  let b := leBytes 4 e.take ++ leBytes 4 e.seq ++ leBytes 8 e.row ++ leBytes 4 e.count ++ leBytes 4 e.next ++ leBytes 4 0
  b ++ leBytes 4 (crc32c b)

def Extent.decode (b : Bytes) : Extent := ⟨fieldLe b 0 4, fieldLe b 4 4, fieldLe b 8 8, fieldLe b 16 4, fieldLe b 20 4, fieldLe b 16 4⟩

/-- Frame index entry (R272); kind 0 is no entry. -/
def Chunk.encode (c : Chunk) : Bytes :=
  if c.kind = 0 then leBytes 64 0 else
  let b := leBytes 8 c.fid ++ leBytes 8 c.lastFid ++ leBytes 4 c.take ++ leBytes 1 c.kind ++ leBytes 1 c.pipe ++ leBytes 1 c.cause
    ++ leBytes 1 0 ++ leBytes 8 c.vlba ++ leBytes 4 c.len ++ leBytes 4 (if c.kind = 1 then c.fsw else 0) ++ leBytes 8 c.time
    ++ leBytes 4 c.epoch ++ leBytes 2 (if c.kind = 1 then c.cert else 0) ++ leBytes 6 0
  b ++ leBytes 4 (crc32c b)

def Chunk.decode (b : Bytes) : Chunk :=
  let w (i n : Nat) : Nat := fieldLe b i n
  ⟨w 20 1, w 21 1, w 16 4, w 0 8, w 8 8, w 22 1, w 24 8, w 32 4, w 36 4, w 40 8, w 48 4, w 52 2, []⟩

/-- An entry of the extent table or of the frame index that is absent (R274). -/
def Extent.absent : Extent := ⟨0, 0, 0, 0, 0xFFFFFFFF, 0⟩
def Chunk.absent : Chunk := ⟨0, 0, 0, 0, 0, 0, 0, 0, 0, 0, 0, 0, []⟩

/-- The entry at a slot of a table becomes `x`; slots between the table's end and it are absent. -/
def setSlot {α : Type} (l : List α) (k : Nat) (absent x : α) : List α :=
  if k < l.length then l.set k x else l ++ List.replicate (k - l.length) absent ++ [x]

/-- The entry of an extent as the tables show it: the rows of it that the last commit's cut held, and the next extent once that holds some
(R276). -/
def Extent.image (l : List Extent) (e : Extent) : Extent :=
  if e.done = 0 then Extent.absent
  else { e with count := e.done, next := if ((l[e.next]?).any fun x => x.done ≠ 0) then e.next else 0xFFFFFFFF }

def jRec (typ slot : Nat) (body : Bytes) : Bytes := leBytes 2 typ ++ leBytes 2 body.length ++ leBytes 4 slot ++ body

/-- Geometry of a region (R266): its VLBA and blocks become rows. -/
def regionRow (v : Volume) (i : Nat) : Nat := (v.regions.getD i (0, 0)).1 / v.rowBlocks

/-- The rows of a new volume: smallest member, and at most 2^40 blocks (R263). -/
def volumeRows (blocks : List Nat) (d : Nat) : Nat :=
  min ((blocks.map fun b => (b - 256) / 256).foldl min (2 ^ 40)) (2 ^ 40 / (d * 256))

/-- Region starts and lengths in blocks, in order from row 1 (R266); the data region runs to the row before the last. -/
def layRegions (rows rowBlocks n j calib exch : Nat) : List (Nat × Nat) :=
  let up (b : Nat) : Nat := roundUp b rowBlocks
  let lens := [up 4096, up 8192, up (2 ^ n / 64), j * rowBlocks, up calib, up exch]
  let starts := (List.range 7).map fun i => rowBlocks + (lens.take i).sum
  let ds := starts.getD 6 0
  (starts.take 6).zip lens ++ [(ds, (rows - 1) * rowBlocks - ds), (0, 0)]

/-- The media unit of a candidate: one namespace behind one root port (R259). -/
def Cand.unit_ (c : Cand) : Nat := c.port + 32 * c.nsid

/-- The fields of a take's entry that a commit makes durable. -/
def Take.committed (t q : Take) : Take :=
  { t with
    frames := q.frames, lastFid := q.lastFid, lastTime := q.lastTime, firstExt := q.firstExt, extCount := q.extCount
    firstIdx := q.firstIdx, idxCount := q.idxCount, bytes := q.bytes }

/-- The tables with the entries of the commit in progress, whose sequence is durable (R276). -/
def Volume.committed (v : Volume) (x : RecSt) : Volume :=
  { v with
    index := v.index ++ x.jIdx
    seq := v.seq + 1
    extents := v.extents.mapIdx fun i e => ((x.jExts.find? fun q => q.1 = i && q.2.count ≠ 0).map fun q => { e with done := q.2.count }).getD e
    takes := v.takes.map fun t => ((x.jTakes.find? fun q => q.num = t.num).map fun q => t.committed q).getD t }

/-- A take after a commit: its chunks of the commit are durable, and REC_Pp_DURABLE reaches the last raw chunk that has none before it which
is not (R277). -/
def LiveTake.committed (t : LiveTake) (done : List Chunk) : LiveTake :=
  let raws := t.raws.map fun e => (e.1, e.2 || done.any fun c => c.take = t.num && c.kind = 1 && c.fid = e.1)
  let reached := raws.takeWhile fun e => e.2
  { t with
    chunks := t.chunks.filter fun c => !(done.contains c)
    raws := raws.dropWhile fun e => e.2
    durable := reached.foldl (fun a e => some (max (a.getD 0) e.1)) t.durable }

namespace State

/-- A REC packet that has started, unless REC lands or has landed (R289; log 114). -/
def recPacket (s : State) (id opcode : Nat) (landedOk : Bool) (body : Packet → State) : State :=
  match s.started id opcode with
  | none => s
  | some p => if (s.rs.landed || s.rs.dusk) && !landedOk then s.setResult id stDenied 0 else body p

/-! ### MEDIA_SCAN, MEDIA_FORMAT, MEDIA_OPEN -/

def candOf (c : MediaPort) : Cand :=
  ⟨c.port, c.nsid, c.identity, c.blocks, c.lbaData = 4096 && c.lbaMeta = 0 && 262144 ≤ c.blocks && c.blocks ≤ 2 ^ 35
    && (c.mdts = 0 || 0x100000 ≤ c.mdts)⟩

def mediaScan (s : State) (id : Nat) (ports : List MediaPort) : State :=
  s.recPacket id 0x100 true fun _ =>
    let found := sortBy (fun (a b : MediaPort) => a.port < b.port || (a.port = b.port && a.nsid < b.nsid))
      (ports.filter fun c => s.graph.portOn 3 c.port)
    let s := if 32 < found.length then s.put Fl.REC_STAT_too_many [] 1 else s
    let cands := (found.take 32).map candOf
    let s := s.modRec fun x => { x with cands := cands, scanned := true }
    (s.recShow).setResult id stOk (cands.filter fun c => c.eligible).length

/-- Zero the labels' neighbourhood, row 0, the tables and the last row of every member (R263, R266). -/
def formatZero (s : State) (v : Volume) : State :=
  let upTo := regionRow v 4
  { s with media := s.media.filter fun e =>
      !(v.ports.contains (e.1 / 2 ^ 60) && (e.1 % 2 ^ 60 < (256 + upTo * 256) * 4096
        || (256 + (v.rows - 1) * 256) * 4096 ≤ e.1 % 2 ^ 60)) }

def superRow (v : Volume) (head : Bool) : Bytes :=
  let z := v.rowBytes - 4096
  if head then v.superBytes ++ List.replicate z 0 else List.replicate z 0 ++ v.superBytes

def mediaFormat (s : State) (id uuid now : Nat) : State :=
  s.recPacket id 0x101 false fun p =>
    let a (i n : Nat) : Nat := fieldLe p.body i n
    let mask := a 16 4
    let idx := (List.range 32).filter fun i => bit mask i
    let cs := idx.filterMap fun i => s.rs.cands[i]?
    let m := idx.length
    let r := a 20 1
    let n := a 21 1
    let j := a 22 2
    let n := if n = 0 then 27 else n
    let j := if j = 0 then 1024 else j
    if !s.rs.takes.isEmpty then s.setResult id stBusy 0
    else if m = 0 || !(s.rs.cands.any fun c => c.eligible) then s.setResult id stNoMedia 0
    else if m < 2 || 2 < r || m ≤ r || cs.length ≠ m || (cs.any fun c => !c.eligible) || n < 20 || 32 < n || j < 64
        || 268435456 < a 32 8 then s.setResult id stBadArg 0
    else
      let rows := volumeRows (cs.map fun c => c.blocks) (m - r)
      let rb := (m - r) * 256
      let regions := layRegions rows rb n j (a 24 8) (a 32 8)
      if rows * rb ≤ (regions.getD 6 (0, 0)).1 + rb then s.setResult id stVolFull 0
      else
        let v : Volume := ⟨m, r, uuid % 2 ^ 128, rows, (p.body.drop 40).take 32, now, cs.map fun c => memberId c.identity, 0, regions, 1, 1, 0, 0,
          cs.map fun c => c.unit_, 0, 0, [], [], [], (regions.getD 6 (0, 0)).1 / rb⟩
        let s := s.formatZero v
        let s := (cs.zipIdx).foldl (fun (t : State) c => t.mediaWrite c.1.unit_ 0 (labelBytes c.2 m r v.uuid (memberId c.1.identity))) s
        let s := s.rowStore v 0 (superRow v true) []
        let s := s.rowStore v (rows - 1) (superRow v false) []
        ((s.modRec fun x => { x with vol := none, dead := false }).recShow).setResult id stOk m

/-- Blocks of the volume from a VLBA. -/
def volBlock (s : State) (v : Volume) (vlba : Nat) : Bytes :=
  match s.rowData v (vlba / v.rowBlocks) with
  | some b => (b.drop (vlba % v.rowBlocks * 4096)).take 4096
  | none => []

/-- Bytes of a region from byte `at_`, inside one block. -/
def regionBytes (s : State) (v : Volume) (region at_ n : Nat) : Bytes :=
  ((s.volBlock v ((v.regions.getD region (0, 0)).1 + at_ / 4096)).drop (at_ % 4096)).take n

def crcEnd (b : Bytes) (n : Nat) : Bool := b.length = n && crc32c (b.take (n - 4)) = fieldLe b (n - 4) 4

/-- A superblock as a volume, given where its members are and which are absent. -/
def superDecode (b : Bytes) (ports : List Nat) (absent : Nat) : Volume :=
  let w (i n : Nat) : Nat := fieldLe b i n
  let m := w 6 1
  let rb := w 32 4
  ⟨m, w 7 1, w 8 16, w 24 8 / max rb 1, (b.drop 464).take 32, w 56 8, (List.range 32).map fun i => w (208 + 8 * i) 8,
    w 192 4 ||| absent, (List.range 8).map fun i => (w (64 + 16 * i) 8, w (72 + 16 * i) 8), w 36 4, w 40 8, w 48 8, w 48 8, ports,
    w 196 4 - (w 196 4 &&& absent), w 200 8, [], [], [], 0⟩

/-- Apply one journal record (R274). Members that are absent now stay failed whatever a MEMBERS record says of them. -/
def applyRec (absent : Nat) (v : Volume) (typ slot : Nat) (b : Bytes) : Volume :=
  match typ with
  | 1 => let t := Take.decode b
         { v with takes := (v.takes.filter fun x => x.num ≠ slot) ++ [t], nextTake := max v.nextTake (slot + 1) }
  | 2 => { v with extents := setSlot v.extents slot Extent.absent (Extent.decode b) }
  | 3 => { v with index := setSlot v.index slot Chunk.absent (Chunk.decode b) }
  | 4 => { v with
    failed := fieldLe b 0 4 ||| absent
    rebuilding := fieldLe b 4 4 - (fieldLe b 4 4 &&& absent)
    progress := fieldLe b 8 8 }
  | _ => v

def applyRecs (absent : Nat) (v : Volume) : Nat → Bytes → Volume
  | 0, _ => v
  | n + 1, b =>
    let len := fieldLe b 2 2
    applyRecs absent (applyRec absent v (fieldLe b 0 2) (fieldLe b 4 4) ((b.drop 8).take len)) n (b.drop (8 + len))

/-- Replay the journal (R274). -/
def replay (s : State) (absent : Nat) (v : Volume) : Nat → Volume
  | 0 => v
  | fuel + 1 =>
    let j := (v.regions.getD 3 (0, 0)).2 / max v.rowBlocks 1
    match s.rowData v (regionRow v 3 + v.seq % max j 1) with
    | none => v
    | some row =>
      let recs := (row.drop 4096).take (fieldLe row 4 4)
      if row.take 4 ≠ [0x49, 0x4D, 0x4D, 0x4A] || fieldLe row 8 8 ≠ v.seq || !(crcBlockOk (row.take 4096))
          || crc32c recs ≠ fieldLe row 36 4 then v
      else
        let v := applyRecs absent v (fieldLe row 32 4) recs
        s.replay absent { v with seq := v.seq + 1 } fuel

/-- The entries of a table with those whose CRC fails absent, up to the last that is there (R274). -/
def tableEntries {α : Type} (s : State) (v : Volume) (region size count : Nat) (absent : α) (decode : Bytes → α) : List α :=
  ((List.range count).filterMap fun i =>
    let b := s.regionBytes v region (i * size) size
    if crcEnd b size then some (i, b) else none).foldl (fun l e => setSlot l e.1 absent (decode e.2)) []

/-- Load the tables of a volume (R274). -/
def loadTables (s : State) (v : Volume) : Volume :=
  let len (r : Nat) : Nat := (v.regions.getD r (0, 0)).2 * 4096
  let none_ : Take := Take.decode []
  { v with
    takes := (s.tableEntries v 0 256 (min 65536 (len 0 / 256)) none_ Take.decode).filter fun t => t.num ≠ 0
    extents := s.tableEntries v 1 32 (min 1048576 (len 1 / 32)) Extent.absent Extent.decode
    index := s.tableEntries v 2 64 (min v.indexSize (len 2 / 64)) Chunk.absent Chunk.decode }

/-- The first row past all that extents and index entries name (R270). -/
def freeRow (v : Volume) : Nat :=
  let past (c : Chunk) : Nat := if c.kind = 0 || c.kind = 5 then 0 else (c.vlba + ceilDiv (64 + c.len) 4096 - 1) / v.rowBlocks + 1
  max (v.extents.foldl (fun a e => max a (e.row + e.count)) (regionRow v 6)) ((v.index.map past).foldl max 0)

/-- The superblock that counts (R267): head and tail copies with a valid CRC and the group's labels, the higher checkpoint sequence, the
head on a tie. The head copy gives the tail's place; without it the tail is sought from the last row that the present members hold
downwards (log 112). -/
def superblock (s : State) (blank : Volume) (uuid top : Nat) : Option Bytes :=
  let ok (b : Bytes) : Bool := b.take 4 = [0x49, 0x4D, 0x4D, 0x56] && b.length = 4096 && crcBlockOk b && fieldLe b 6 1 = blank.m
    && fieldLe b 7 1 = blank.r && fieldLe b 8 16 = uuid
  let rb := blank.rowBlocks
  let head := s.volBlock blank 0
  let tailAt (rows : Nat) : Bytes := s.volBlock blank (rows * rb - 1)
  if ok head then
    let tail := tailAt (fieldLe head 24 8 / max rb 1)
    some (if ok tail && fieldLe head 40 8 < fieldLe tail 40 8 then tail else head)
  else
    ((List.range top).find? fun i => ok (tailAt (top - i)) && fieldLe (tailAt (top - i)) 24 8 = (top - i) * rb).map fun i => tailAt (top - i)

/-- A volume is open: nothing of an earlier one is left, and a rebuild that it records goes on (R274, R283). Its exchange parity is
recomputed unless it was closed (R428, log 32). -/
def volumeOpened (s : State) (v : Volume) : State :=
  let s := s.modRec fun x => { x with
    vol := some v, landed := false, dead := false, dusk := false, takes := [], flight := [], losts := [], jobs := [], phase := 0, cphase := 0
    lastTakes := v.takes, dirtyEntries := [], dirtyMembers := false, wantCkpt := false
    rebuild := (List.range v.m).find? fun k => bit v.rebuilding k }
  let dirty : Bool := s.nv.unclosed.contains v.uuid || v.firstReplay < v.seq
  let s : State := { s with nv := { s.nv with unclosed := v.uuid :: s.nv.unclosed.filter fun u => u ≠ v.uuid } }
  let s := s.modOfl fun x => { x with dusk := false, smart := if dirty then modNth x.smart 5 (fun n => n + 1) else x.smart }
  let s := s.put Fl.OFL_STAT_ns2_resync [] (b2n (dirty && (v.regions.getD 5 (0, 0)).2 ≠ 0 && v.r ≠ 0))
  (s.put Fl.REC_STAT_dusk_done [] 0).recShow

/-- MEDIA_OPEN: labels, superblocks, replay (R267, R268, R274, R289). It is refused while REC lands and until dusk has ended (R284). -/
def mediaOpen (s : State) (id : Nat) : State :=
  s.recPacket id 0x102 true fun _ =>
    if s.rs.dusk || (s.rs.landed && s.flag Fl.CPR_DUSK_STAT_warn) then s.setResult id stDenied 0
    else if !s.rs.takes.isEmpty then s.setResult id stBusy 0
    else
      let labels := (s.rs.cands.filter fun c => c.eligible).map fun c => (c, s.mediaRead c.unit_ 0 4096)
      let good := labels.filter fun l => l.2.take 4 = [0x49, 0x4D, 0x4D, 0x4C] && crcBlockOk l.2
      if !(s.rs.cands.any fun c => c.eligible) then s.setResult id stNoMedia 0
      else
        match good.head? with
        | none => s.setResult id stVolBad 0
        | some l0 =>
          let uuid := fieldLe l0.2 16 16
          let m := fieldLe l0.2 7 1
          let r := fieldLe l0.2 8 1
          let member (k : Nat) : Option Cand :=
            (good.find? fun l => fieldLe l.2 16 16 = uuid && fieldLe l.2 6 1 = k).map (·.1)
          let absent := sumOf (fun k => if (member k).isNone then 2 ^ k else 0) (List.range m)
          let missing := ((List.range m).filter fun k => (member k).isNone).length
          let units := (List.range m).map fun k => ((member k).map Cand.unit_).getD (2 ^ 64)
          let blank := superDecode (crcBlock (List.replicate 6 0 ++ leBytes 1 m ++ leBytes 1 r)) units absent
          let top := volumeRows ((List.range m).filterMap fun k => (member k).map fun c => c.blocks) (max (m - r) 1)
          if m < 2 || m ≤ r || r < missing then s.setResult id stVolBad 0
          else
            match s.superblock blank uuid top with
            | none => s.setResult id stVolBad 0
            | some b =>
              let v := s.loadTables (superDecode b units absent)
              let v := s.replay absent v ((v.regions.getD 3 (0, 0)).2 + 1)
              (s.volumeOpened { v with nextRow := freeRow v }).setResult id stOk m

/-! ### Rows (R275, R281) -/

def inFlight (s : State) (n : Nat) : Nat := (s.rs.flight.filter fun r => r.kind = 0 && r.take = n).length

/-- Issue a row write to the members (R262). -/
def issue (s : State) (row kind take : Nat) (data : Bytes) : State :=
  s.modRec fun x => { x with flight := x.flight ++ [⟨row, kind, take, data, s.time.clk, []⟩] }

/-- Issue the first row of a take's data (R275). -/
def issueRow (s : State) (n : Nat) : State :=
  match s.rs.vol, s.takeOf n with
  | some v, some t =>
    match t.rows with
    | row :: more =>
      (s.modTake n fun x => { x with buf := x.buf.drop v.rowBytes, rows := more }).issue row 0 n (t.buf.take v.rowBytes)
    | [] => s
  | _, _ => s

/-- ROW_ISSUE: of the pipeline's takes, the first that has a whole row and fewer than 8 rows in flight issues its next (R275, R276). -/
def rowIssue (s : State) (p : Nat) : State :=
  match s.rs.vol with
  | some v =>
    match s.rs.takes.find? fun t => t.pipe = p && decide (v.rowBytes ≤ t.buf.length) && decide (s.inFlight t.num < 8) with
    | some t => if s.rs.dusk || s.rs.landed || s.rs.dead then s else s.issueRow t.num
    | none => s
  | none => s

/-- What a take has not made durable is given up: its chunks, and the buffer space of its frames (R281, R284). -/
def takeDrop (s : State) (t : LiveTake) : State :=
  let s := s.modTake t.num fun x => { x with buf := [], rows := [], metadata := [], audBuf := [] }
  (t.chunks.filter fun c => c.kind = 1).foldl (fun (u : State) c => u.bufFree t.pipe c.fid) s

/-- Packets that wait for a checkpoint which cannot be written end; a close goes on without one (log 113). -/
def waitersEnd (s : State) (st : Nat) : State :=
  let s := (s.rs.waiters.filter fun w => w.2 = 0 || 16 ≤ w.2).foldl (fun (t : State) w => t.setResult w.1 st 0) s
  s.modRec fun x => { x with
    waiters := (x.waiters.filter fun w => w.2 = 1 || w.2 = 2).map (fun w => (w.1, 2)), serving := [] }

/-- More than r failed members: the group is dead, and its takes close with their last durable frame (R281). -/
def deadCheck (s : State) : State :=
  match s.rs.vol with
  | some v =>
    let n := ((List.range v.m).filter fun k => bit v.failed k).length
    if v.r < n && !s.rs.dead then
      let s := (s.modRec fun x => { x with dead := true })
      let s := s.rs.takes.foldl (fun (t : State) x => (t.closeTake x.num 3).takeDrop x) s
      let s := (s.modRec fun x => { x with takes := [], jobs := [] }).waitersEnd stNoMedia
      (s.ev 0x4081 srcREC 0 v.failed).recShow
    else s
  | none => s

/-- Members fail, each with the cause of AL_REC_MEMBER_FAIL (R281): their bits, the alarm, a MEMBERS record, and the end of a rebuild of
theirs (R283). -/
def failMembers (s : State) (l : List (Nat × Nat)) : State :=
  let s := l.foldl (fun (t : State) k =>
    match t.rs.vol with
    | some v =>
      if bit v.failed k.1 || v.m ≤ k.1 then t
      else
        let t := t.modVol fun v => { v with failed := setBit v.failed k.1, rebuilding := v.rebuilding &&& (0xFFFFFFFF - 2 ^ k.1) }
        let t := t.modRec fun x => { x with dirtyMembers := true, rebuild := if x.rebuild = some k.1 then none else x.rebuild }
        t.ev 0x4080 srcREC k.1 (k.1 + 2 ^ 8 * k.2)
    | none => t) s
  (s.recShow).deadCheck

/-- A data row of take `n` is lost (R281): every raw chunk that touches it becomes a lost entry with cause 2. -/
def loseRow (s : State) (n row : Nat) : State :=
  match s.takeOf n with
  | some t =>
    let hit := t.chunks.filter fun c => c.rows.contains row
    let lost (fid : Nat) : Bool := hit.any fun c => c.kind = 1 && c.fid = fid
    let s := s.modTake n fun x => { x with
      chunks := x.chunks.filter fun c => !(c.rows.contains row)
      raws := x.raws.filter fun e => !(lost e.1) }
    hit.foldl (fun (u : State) c => if c.kind = 1 then (u.recLost n t.pipe c.fid 2 c.time c.epoch).bufFree t.pipe c.fid else u) s
  | none => s

/-- A data row has been written: chunks that wait for it go on, and a raw chunk whose rows are all written frees its buffer. -/
def rowDone (s : State) (n row : Nat) (degraded : Bool) : State :=
  match s.takeOf n with
  | some t =>
    let s := s.modTake n fun x => { x with chunks := x.chunks.map fun c => { c with rows := c.rows.erase row } }
    let s := t.chunks.foldl (fun (u : State) c => if c.kind = 1 && c.rows = [row] then u.bufFree t.pipe c.fid else u) s
    if degraded then s.modEntry n fun e => { e with flags := e.flags ||| 4 } else s
  | none => s

/-! ### Commit (R276, R277) -/

/-- Close the current row of a take: zeros fill it, and as many of its rows are issued as may be in flight (R275, R276). -/
def closeRow (s : State) (n : Nat) : State :=
  match s.rs.vol, s.takeOf n with
  | some v, some t =>
    let len := roundUp t.buf.length v.rowBytes
    let s := s.modTake n fun x => { x with buf := x.buf ++ List.replicate (len - t.buf.length) 0 }
    (List.range (min (len / v.rowBytes) (8 - s.inFlight n))).foldl (fun (u : State) _ => u.issueRow n) s
  | _, _ => s

/-- Has the write of a row of an extent ended: no take holds it back, and it is not in flight. -/
def rowEnded (s : State) (row : Nat) : Bool :=
  !(s.rs.takes.any fun t => t.rows.contains row) && !(s.rs.flight.any fun r => r.kind = 0 && r.row = row)

/-- The extents with as many leading rows as the cut holds (R276). A row that was lost counts as ended: no entry refers to it (log 111). -/
def cutExtents (s : State) (l : List Extent) : List Extent :=
  l.map fun e => if e.done = e.count then e
    else { e with done := max e.done ((List.range e.count).takeWhile fun i => s.rowEnded (e.row + i)).length }

/-- Chunks of a take whose rows have all been written, and its last frame: the take's entry as the cut has it (R269, R276). The last FRAME_ID
is that of the last raw chunk in the cut; without the raw stream, that of the last frame that reached REC (log 111). -/
def cutEntry (s : State) (exts : List Extent) (entries : List Chunk) (pos : Nat) (t : Take) : Take :=
  let mine := entries.filter fun c => c.take = t.num
  let raw := mine.filter fun c => c.kind = 1
  let last := raw.foldl (fun (a : Nat × Nat) c => if a.1 = noFrame || a.1 < c.fid then (c.fid, c.time) else a) (t.lastFid, t.lastTime)
  let last := if bit t.streams 0 then last else (((s.takeOf t.num).bind fun x => x.last).getD last)
  let idx := (List.range exts.length).filter fun i => (exts[i]?).any fun e => e.take = t.num && e.done ≠ 0
  { t with
    frames := t.frames + raw.length
    lastFid := last.1
    lastTime := last.2
    firstExt := idx.headD 0xFFFFFFFF
    extCount := idx.length
    firstIdx := if t.idxCount = 0 then pos + (entries.takeWhile fun c => c.take ≠ t.num).length else t.firstIdx
    idxCount := t.idxCount + mine.length
    bytes := t.bytes + sumOf (fun c => if c.kind = 5 then 0 else roundUp (64 + c.len) 4096) mine }

/-- The cut (R276): what the journal row will record. -/
def takeCut (s : State) : State :=
  match s.rs.vol with
  | none => s
  | some v =>
    let ready := s.rs.takes.flatMap fun t => t.chunks.filter fun c => c.rows.isEmpty
    let entries := (s.rs.losts ++ ready).take (v.indexSize - v.index.length)
    let exts := s.cutExtents v.extents
    let images (l : List Extent) : List Extent := l.map (Extent.image l)
    let takes := (v.takes.filter fun t => s.rs.takes.any fun x => x.num = t.num).map (s.cutEntry exts entries v.index.length)
    s.modRec fun x => { x with
      jTakes := takes.filter fun t => !(x.lastTakes.contains t)
      jIdx := entries
      jExts := ((images exts).zip (images v.extents)).zipIdx.filterMap fun e => if e.1.1 = e.1.2 then none else some (e.2, e.1.1)
      phase := 1, fenceAt := s.time.clk }

/-- A commit begins (R276). -/
def recCommit (s : State) : State :=
  if s.rs.vol.isNone || s.rs.landed || s.rs.phase ≠ 0 || s.rs.dusk || s.rs.dead then s
  else
    let s := s.rs.takes.foldl (fun (t : State) x => if x.closed.isNone then t.intervalEnd x else t) s
    let s := s.takeCut
    s.rs.takes.foldl (fun (t : State) x => t.closeRow x.num) s

/-- The journal row of the commit in progress (R273). -/
def journalRow (s : State) (v : Volume) : Bytes :=
  let x := s.rs
  let recs := (x.jTakes.map fun t => jRec 1 t.num t.encode) ++ (x.jExts.map fun e => jRec 2 e.1 e.2.encode)
    ++ ((x.jIdx.zipIdx).map fun c => jRec 3 (v.index.length + c.2) c.1.encode)
    ++ (if x.dirtyMembers || v.rebuilding ≠ 0 then [jRec 4 0 (leBytes 4 v.failed ++ leBytes 4 v.rebuilding ++ leBytes 8 v.progress)] else [])
  let body := recs.flatten
  let h := crcBlock ([0x49, 0x4D, 0x4D, 0x4A] ++ leBytes 4 body.length ++ leBytes 8 v.seq ++ leBytes 8 v.ckpt ++ leBytes 8 s.dt
    ++ leBytes 4 recs.length ++ leBytes 4 (crc32c body))
  let b := h ++ body
  b ++ List.replicate (v.rowBytes - b.length) 0

/-- Has a take that ended drained: nothing of it waits, and its entry stands in the journal (R276, R284). -/
def takeDrained (s : State) (t : LiveTake) : Bool :=
  t.closed.isSome && t.chunks.isEmpty && t.buf.isEmpty && !(s.rs.losts.any fun c => c.take = t.num)
    && !(s.rs.jobs.any fun j => j.take = t.num) && !(s.zst.any fun z => z.any fun z => z.rec_.any fun j => j.take = t.num)
    && (s.entryOf t.num).any fun e => s.rs.lastTakes.contains e

/-- Sequence s is durable (R276, R277). -/
def commitDurable (s : State) : State :=
  match s.rs.vol with
  | none => s
  | some v =>
    let x := s.rs
    let dirty := (x.jTakes.map fun t => (0, t.num)) ++ (x.jExts.map fun e => (1, e.1))
      ++ (x.jIdx.zipIdx).map fun c => (2, v.index.length + c.2)
    let s := s.modVol fun v => v.committed x
    let s := s.modRec fun y => { y with
      phase := 0, jTakes := [], jExts := [], jIdx := [], losts := y.losts.filter fun c => !(x.jIdx.contains c)
      lastTakes := (y.lastTakes.filter fun t => !(x.jTakes.any fun q => q.num = t.num)) ++ x.jTakes
      dirtyEntries := y.dirtyEntries ++ dirty
      takes := y.takes.map fun t => t.committed x.jIdx }
    let s := s.rs.takes.foldl (fun (t : State) y => match y.durable with
      | some fid => t.wr64 R.REC_P_DURABLE_LO R.REC_P_DURABLE_HI [y.pipe] fid
      | none => t) s
    let s := s.modRec fun y => { y with takes := y.takes.filter fun t => !(s.takeDrained t) }
    let s := s.wr64 R.REC_COMMIT_SEQ_LO R.REC_COMMIT_SEQ_HI [] v.seq
    ((s.ev 0x0080 srcREC 0 (v.seq % 2 ^ 32)).recShow).oflCommitNotice

/-! ### Checkpoint (R278) -/

/-- Bytes of a table's entry, and entries to a row. -/
def entrySize (region : Nat) : Nat := if region = 0 then 256 else if region = 1 then 32 else 64
def perRow (v : Volume) (region : Nat) : Nat := v.rowBytes / entrySize region

/-- The bytes of a table row of the volume: the entries that lie in it. -/
def tableRow (v : Volume) (region k : Nat) : Bytes :=
  let per := perRow v region
  let entry (i : Nat) : Bytes := match region with
    | 0 => ((v.takes.find? fun t => t.num = i).map Take.encode).getD (List.replicate 256 0)
    | 1 => ((v.extents[i]?).map fun e => (Extent.image v.extents e).encode).getD (List.replicate 32 0)
    | _ => ((v.index[i]?).map Chunk.encode).getD (List.replicate 64 0)
  (List.range per).flatMap fun i => entry (k * per + i)

/-- The volume as the durable commits have it: its take entries as last journaled (R276). -/
def durableTables (s : State) (v : Volume) : Volume :=
  { v with takes := v.takes.filterMap fun t => s.rs.lastTakes.find? fun q => q.num = t.num }

/-- Can a checkpoint that begins now serve a packet (R278, R289): MEDIA_CLOSE once every take has drained, TAKE_STOP once its own has. -/
def servesNow (s : State) (w : Nat × Nat) : Bool :=
  w.2 = 0 || (w.2 = 1 && s.rs.takes.isEmpty) || (16 ≤ w.2 && (s.takeOf (w.2 - 16)).isNone)

/-- A checkpoint begins: the table rows that changed are written whole, with the commits that are durable now; it leaves the sequences after
them to replay. -/
def startCkpt (s : State) : State :=
  match s.rs.vol with
  | some v =>
    if s.rs.cphase ≠ 0 || s.rs.landed || s.rs.dusk || s.rs.dead then s
    else
      let rows := (s.rs.dirtyEntries.map fun e => (e.1, e.2 / perRow v e.1)).eraseDups
      let s := s.modRec fun x => { x with
        dirtyEntries := [], wantCkpt := false, cphase := if rows.isEmpty then 2 else 1, ckptAt := v.seq, fenceAt := s.time.clk
        serving := x.waiters.filter s.servesNow }
      rows.foldl (fun (t : State) r => t.issue (regionRow v r.1 + r.2) 2 0 (tableRow (s.durableTables v) r.1 r.2)) s
  | none => s

/-- Rows of the journal. -/
def journalRows (v : Volume) : Nat := (v.regions.getD 3 (0, 0)).2 / v.rowBlocks

/-- Is a checkpoint due (R278): s minus the superblock's first replay sequence reaches J / 2, or a packet waits for one. -/
def ckptDue (s : State) : Bool :=
  match s.rs.vol with
  | some v => s.rs.wantCkpt || decide (journalRows v ≤ 2 * (v.seq - 1 - v.firstReplay)) || s.rs.waiters.any s.servesNow
  | none => false

/-- A close that has written its checkpoint ends once the offload port has no member access and no cached write left (R417,
log 32). -/
def closeIdle (s : State) : State :=
  if s.ofl.ios.isEmpty && s.ofl.dirty.isEmpty then
    s.rs.waiters.foldl (fun (t : State) w =>
      if w.2 = 2 then
        let u := (t.rs.vol.map fun v => v.uuid).getD 0
        let t : State := { t with nv := { t.nv with unclosed := t.nv.unclosed.filter fun x => x ≠ u } }
        ((t.setResult w.1 stOk 0).modRec fun x => { x with
          waiters := x.waiters.filter (fun y => y ≠ w), vol := none, rebuild := none, scanned := true }).recShow
      else t) s
  else s

/-- A checkpoint has been written: the packets that it served end, a close once the offload port lets it (R289, R417). -/
def wakeWaiters (s : State) : State :=
  (s.rs.serving.foldl (fun (t : State) w =>
    if w.2 = 1 then (t.modRec fun x => { x with waiters := x.waiters.map fun y => if y = w then (w.1, 2) else y }).recShow.closeIdle
    else (t.setResult w.1 stOk 0).modRec fun x => { x with waiters := x.waiters.filter fun y => y ≠ w }) s).modRec fun x =>
      { x with serving := [] }

/-- The landing goes on once no data row is in flight (R284): the journal tail row is written. -/
def duskAdvance (s : State) : State :=
  if s.rs.dusk && s.rs.phase = 0 && !(s.rs.flight.any fun r => r.kind = 0) && s.rs.vol.isSome && !s.rs.landed
      && !(s.rs.takes.isEmpty && s.rs.losts.isEmpty) then s.takeCut
  else s

/-- The fence of a commit is complete: the journal row is written after the first, its sequence is durable after the second (R276). -/
def commitFence (s : State) (v : Volume) : State :=
  match s.rs.phase with
  | 1 => ((s.modRec fun x => { x with phase := 2 }).issue (regionRow v 3 + v.seq % max (journalRows v) 1) 1 0 (s.journalRow v)).modRec fun x =>
      { x with dirtyMembers := false }
  | 3 => s.commitDurable
  | _ => s

/-- The fence of a checkpoint is complete: the head superblock is written after the first, unless the landing cuts the checkpoint short
(R278, R284); after the second the checkpoint has ended. -/
def ckptFence (s : State) : State :=
  match s.rs.cphase, s.rs.vol with
  | 2, some v =>
    if s.rs.dusk then s.modRec fun x => { x with cphase := 0 }
    else
      let v : Volume := { v with ckpt := v.ckpt + 1, firstReplay := s.rs.ckptAt }
      ((s.modVol fun _ => v).modRec fun x => { x with cphase := 3 }).issue 0 3 0 (superRow v true)
  | 5, some _ => (s.modRec fun x => { x with cphase := 0 }).wakeWaiters
  | _, _ => s

/-- The media fence completes (R276, R278). A fence serves the commit and the checkpoint alike. -/
def fenceDone (s : State) : State :=
  match s.rs.vol with
  | none => s
  | some v =>
    let s := (s.commitFence v).ckptFence
    (if s.ckptDue && s.rs.cphase = 0 && s.rs.phase = 0 then s.startCkpt else s).duskAdvance

/-- A row write of the commit or the checkpoint has ended. -/
def rowStage (s : State) (r : MediaRow) : State :=
  match r.kind with
  | 1 => s.modRec fun x => { x with phase := 3, fenceAt := s.time.clk }
  | 2 => if s.rs.flight.any fun q => q.kind = 2 then s else s.modRec fun x => { x with cphase := 2, fenceAt := s.time.clk }
  | 3 =>
    match s.rs.vol with
    | some v =>
      if s.rs.cphase = 3 then
        if s.rs.dusk then s.modRec fun x => { x with cphase := 0 }
        else (s.modRec fun x => { x with cphase := 4 }).issue (v.rows - 1) 3 0 (superRow v false)
      else s.modRec fun x => { x with cphase := 5, fenceAt := s.time.clk }
    | none => s
  | _ => s

/-- A commit or a checkpoint that cannot go on is given up: its sequence, or its superblock, is not durable, and it is tried again. -/
def stageLost (s : State) (commit : Bool) : State :=
  s.modRec fun x => if commit then { x with phase := 0, dirtyMembers := true } else { x with cphase := 0, wantCkpt := true }

/-- A row write ends; commands of `failed` members ended with an error, or timed out (R281). -/
def rowComplete (s : State) (row : Nat) (failed : List (Nat × Nat)) : State :=
  match s.rs.vol, takeFirst (fun (r : MediaRow) => r.row = row) s.rs.flight with
  | some v, some (r, rest) =>
    let s := s.modRec fun x => { x with flight := rest }
    let bad := (failed ++ r.late.map fun k => (k, 2)).filter fun k => k.1 < v.m && !(bit v.failed k.1)
    let gone := (bad.map (·.1)).eraseDups
    let down := ((List.range v.m).filter fun k => bit v.failed k).length + gone.length
    let s := s.rowStore v row r.data gone
    let lost : Bool := !gone.isEmpty && v.r < down
    let s := if r.kind = 0 then
        if lost then s.loseRow r.take row else s.rowDone r.take row (down ≠ 0)
      else if lost then s.stageLost (r.kind = 1)
      else s.rowStage r
    (if v.r = 0 then s else s.failMembers bad).duskAdvance
  | _, _ => s

/-- Does a member owe a Flush of a media fence. -/
def flushOwed (s : State) : Bool := s.rs.phase = 1 || s.rs.phase = 3 || s.rs.cphase = 2 || s.rs.cphase = 5

/-- A command to a member outlasts its timeout while REC records (R262): it is aborted and treated as failed, when its row write ends, or for a
Flush at once. Without parity a fence that fails is none: what waits for it is tried again (log 110). The timeout passes first (log 35). -/
def memberTimeout (s : State) (k : Nat) (cmd : Option Nat) : State :=
  let tmo := s.get Fl.REC_CFG_tmo_ms * 1000000
  let recs : Bool := s.rs.takes.any fun t => t.closed.isNone
  match s.rs.vol, cmd with
  | some v, some row =>
    match s.rs.flight.find? fun r => r.row = row with
    | some r =>
      if v.m ≤ k || bit v.failed k || r.late.contains k then s
      else
        let s := if recs then s.reachClk (r.at_ + tmo) else s
        s.modRec fun x => { x with flight := x.flight.map fun q => if q.row = row then { q with late := q.late ++ [k] } else q }
    | none => s
  | some v, none =>
    if v.m ≤ k || bit v.failed k || !s.flushOwed then s
    else
      let s := if recs then s.reachClk (s.rs.fenceAt + tmo) else s
      if v.r = 0 then
        let s := if s.rs.phase = 1 || s.rs.phase = 3 then s.stageLost true else s
        if s.rs.cphase = 2 || s.rs.cphase = 5 then s.stageLost false else s
      else s.failMembers [(k, 2)]
  | none, _ => s

/-! ### Takes and the other packets (R280, R283, R289) -/

def takeStart (s : State) (id : Nat) : State :=
  s.recPacket id 0x104 false fun q =>
    let a (i n : Nat) : Nat := fieldLe q.body i n
    let p := a 16 1
    match s.rs.vol with
    | none => s.setResult id stNoMedia 0
    | some v =>
      if s.rs.dead then s.setResult id stNoMedia 0
      else if 7 < p || (s.graph.pipe? p).isNone || 15 < a 17 1 || 3 < a 18 1 then s.setResult id stBadArg 0
      else if s.recording p then s.setResult id stBusy 0
      else if 65535 < v.nextTake || (v.rows - 1) ≤ v.nextRow then s.setResult id stVolFull 0
      else
        let n := v.nextTake
        let t : Take := ⟨n, 1, 0, p, a 17 1, noFrame, noFrame, 0, 0, 0, 0, 0xFFFFFFFF, 0, 0, 0, 0, 0, 0, 0, (q.body.drop 32).take 64⟩
        let s := s.modVol fun v => { v with takes := v.takes ++ [t], nextTake := n + 1 }
        let auds := ((List.range 16).filter fun i => bit (a 17 1) 2 && bit (a 20 2) i).map fun i => (⟨i, 0, 0, 0, 0, []⟩ : AudBuf)
        let live : LiveTake := ⟨n, p, a 24 8, none, a 18 1, a 20 2, [], [], [], none, [], 0, auds, [], none, none⟩
        let s := s.modRec fun x => { x with takes := x.takes ++ [live] }
        ((s.evTake p n 0 false).recShow).setResult id stOk n

/-- TAKE_STOP: the take ends now, if its last frame has been seen, or after that frame; the packet ends with the checkpoint that follows the
take's last commit (R278, R280, R289). -/
def takeStop (s : State) (id : Nat) : State :=
  s.recPacket id 0x105 false fun q =>
    let p := fieldLe q.body 16 1
    let fid := fieldLe q.body 24 8
    match s.liveTake p with
    | none => s.setResult id (if s.rs.vol.isNone then stNoMedia else stBadArg) 0
    | some t =>
      let passed : Bool := fid = noFrame || (t.last.any fun l => decide (fid ≤ l.1))
      let s := s.modTake t.num fun x => { x with stopAt := some fid }
      let s := if passed then s.endTake t.num else s
      let s := s.modRec fun x => { x with waiters := x.waiters ++ [(id, 16 + t.num)] }
      if passed then s.recCommit else s

def checkpointPkt (s : State) (id : Nat) : State :=
  s.recPacket id 0x106 false fun _ =>
    if s.rs.vol.isNone || s.rs.dead then s.setResult id stNoMedia 0
    else
      let s := s.modRec fun x => { x with waiters := x.waiters ++ [(id, 0)] }
      if s.rs.phase = 0 then s.startCkpt else s

/-- The volume closes: every take ends, and the last commit and a checkpoint follow; a dead group can write neither (R278, R281; log 113). -/
def volumeClose (s : State) (id : Nat) : State :=
  if s.rs.dead then (s.modRec fun x => { x with waiters := x.waiters ++ [(id, 2)] }).recShow.closeIdle
  else
    let s := s.rs.takes.foldl (fun (t : State) x => t.endTake x.num) s
    (s.modRec fun x => { x with waiters := x.waiters ++ [(id, 1)] }).recCommit

def mediaClose (s : State) (id : Nat) : State :=
  s.recPacket id 0x103 false fun _ => if s.rs.vol.isNone then s.setResult id stNoMedia 0 else s.volumeClose id

/-- The replacement's label, and zeros up to row 0 (R263, R283). -/
def labelUnit (s : State) (unit_ : Nat) (label : Bytes) : State :=
  ({ s with media := s.media.zero (mediaAt unit_ 1) (255 * 4096) } : State).mediaWrite unit_ 0 label

def rebuildPkt (s : State) (id : Nat) : State :=
  s.recPacket id 0x107 false fun q =>
    let k := fieldLe q.body 16 1
    match s.rs.vol, s.rs.cands[fieldLe q.body 17 1]? with
    | none, _ => s.setResult id stNoMedia 0
    | some v, some c =>
      if v.m ≤ k || !(bit v.failed k) || !c.eligible || v.ports.contains c.unit_ || (c.blocks - 256) / 256 < v.rows then
        s.setResult id stBadArg 0
      else if v.rebuilding ≠ 0 then s.setResult id stBusy 0
      else
        let mid := memberId c.identity
        let s := s.labelUnit c.unit_ (labelBytes k v.m v.r v.uuid mid)
        let s := s.modVol fun v => { v with
          ports := v.ports.set k c.unit_, ids := v.ids.set k mid, failed := v.failed - 2 ^ k, rebuilding := 2 ^ k, progress := 0 }
        ((s.modRec fun x => { x with rebuild := some k, dirtyMembers := true }).recShow).setResult id stOk 0
    | some _, none => s.setResult id stBadArg 0

/-- REBUILD_ROW: the next row is reconstructed onto the replacement (R282, R283). A row that too many failed reads leave
unreadable is tried again. -/
def rebuildRow (s : State) (readFailed : List Nat) : State :=
  match s.rs.vol, s.rs.rebuild with
  | some v, some k =>
    let row := v.progress
    if v.rows ≤ row || s.rs.landed || s.rs.dusk || s.rs.dead then s
    else
      let get (m : Nat) : Option Bytes := if m = k || readFailed.contains m then none else s.memberUnit v row m
      match rebuildData v.m v.r row unitBytes get with
      | none => s
      | some units =>
        let own := ((rowUnits v.m v.r row units.flatten).find? fun u => u.1 = k).map (·.2)
        let s := match own, v.ports[k]? with
          | some b, some port => s.mediaWrite port (256 + row * 256) b
          | _, _ => s
        let s := s.modVol fun v => { v with progress := row + 1 }
        if row + 1 = v.rows then
          let s := s.modVol fun v => { v with rebuilding := v.rebuilding - (v.rebuilding &&& 2 ^ k) }
          let s := s.modRec fun x => { x with rebuild := none, dirtyMembers := true }
          (s.ev 0x0082 srcREC k k).recShow
        else (s.modRec fun x => { x with dirtyMembers := true }).recShow
  | _, _ => s

/-! ### Landing (R284) -/

/-- VWARN: no new row is issued, rows in assembly are abandoned, and a commit that has not written its journal row leaves its entries to the
tail row. -/
def recDusk (s : State) : State :=
  let s := s.modRec fun x => { x with dusk := true, jobs := [], phase := if x.phase = 1 then 0 else x.phase }
  let held := s.rs.flight.map fun r => r.row
  let gone (c : Chunk) : Bool := c.rows.any fun r => !(held.contains r)
  let s := s.rs.takes.foldl (fun (u : State) t =>
    let lost := t.chunks.filter fun c => gone c && c.kind = 1
    let u := u.modTake t.num fun x => { x with
      buf := [], rows := [], metadata := [], audBuf := [], chunks := x.chunks.filter fun c => !(gone c)
      raws := x.raws.filter fun e => !(lost.any fun c => c.fid = e.1) }
    let u := lost.foldl (fun (w : State) c => (w.recLost t.num t.pipe c.fid 3 c.time c.epoch).bufFree t.pipe c.fid) u
    u.closeTake t.num 1) s
  s.duskAdvance

/-- By 6 ms: members that still owe a write are failed for the landing (R284, R281). -/
def landingDeadline (s : State) (owing : List Nat) : State :=
  if !s.rs.dusk then s
  else (s.rs.flight.filter fun r => r.kind = 0).foldl (fun (t : State) r => t.rowComplete r.row (owing.map fun k => (k, 2))) s

/-- The landing has completed (R284). -/
def landingDone (s : State) : State :=
  if s.rs.dusk && s.rs.phase = 0 && !(s.rs.flight.any fun r => r.kind = 0) then
    let s := s.modRec fun x => { x with landed := true, dusk := false, flight := [], cphase := 0, takes := [] }
    ((s.waitersEnd stDenied).put Fl.REC_STAT_dusk_done [] 1).recShow
  else s

/-- Audio samples of a port reach the takes that record it (R287). -/
def recAudio (s : State) (port rate channels tb3 faded : Nat) (b : Bytes) : State :=
  s.modRec fun x => { x with takes := x.takes.map fun t =>
    if t.closed.isSome then t
    else { t with audBuf := t.audBuf.map fun a =>
      if a.port = port then { a with time := if a.samples.isEmpty then tb3 else a.time, rate := rate, channels := channels,
                                     fades := a.fades + faded, samples := a.samples ++ b } else a } }

/-- Rows of the volume's data region are issued while REC is powered. -/
def onRec (s : State) (f : State → State) : State := if s.powered .recorder then f s else s

end State

/-- MEDIA_SCAN (R261). -/
def execMediaScan (id : Nat) (ports : List MediaPort) (s : State) : Res := .next (s.mediaScan id ports)

/-- MEDIA_FORMAT (R266). -/
def execMediaFormat (id uuid now : Nat) (s : State) : Res := .next (s.mediaFormat id uuid now)

/-- MEDIA_OPEN (R268, R274, R289). -/
def execMediaOpen (id : Nat) (s : State) : Res := .next (s.mediaOpen id)

/-- MEDIA_CLOSE (R278). -/
def execMediaClose (id : Nat) (s : State) : Res := .next (s.mediaClose id)

/-- TAKE_START (R280). -/
def execTakeStart (id : Nat) (s : State) : Res := .next (s.takeStart id)

/-- TAKE_STOP (R280). -/
def execTakeStop (id : Nat) (s : State) : Res := .next (s.takeStop id)

/-- CHECKPOINT (R278). -/
def execCheckpoint (id : Nat) (s : State) : Res := .next (s.checkpointPkt id)

/-- REBUILD (R283). -/
def execRebuild (id : Nat) (s : State) : Res := .next (s.rebuildPkt id)

/-- ROW_ISSUE (R275). -/
def execRowIssue (p : Nat) (s : State) : Res := .next (s.onRec fun s => s.rowIssue p)

/-- ROW_WRITE_COMPLETE (R281). -/
def execRowWriteComplete (row : Nat) (failed : List Nat) (s : State) : Res := .next (s.rowComplete row (failed.map fun k => (k, 1)))

/-- MEMBER_COMMAND_TIMEOUT (R262). -/
def execMemberCommandTimeout (member : Nat) (s : State) (cmd : Option Nat := none) : Res := .next (s.memberTimeout member cmd)

/-- REC_COMMIT (R276). -/
def execRecCommit (s : State) : Res := .next (s.onRec fun s => s.recCommit)

/-- MEDIA_FENCE_COMPLETE (R276, R278). -/
def execMediaFenceComplete (s : State) : Res := .next s.fenceDone

/-- REBUILD_ROW (R283). -/
def execRebuildRow (readFailed : List Nat) (s : State) : Res := .next (s.onRec fun s => s.rebuildRow readFailed)

/-- LANDING_WRITE_DEADLINE (R284). -/
def execLandingWriteDeadline (owing : List Nat) (s : State) : Res := .next (s.landingDeadline owing)

end Sys2Proof.Machine
end

