-- ==== Sys2Proof/Machine/Aud.lean ====
section
/-! DEFINITION. Audio (R491 to R504): start, sample frames, elastic buffers, non-PCM mutes, embedding. -/

namespace Sys2Proof.Machine

/-- One step of the AES3 channel status CRC, x^8 + x^4 + x^3 + x^2 + 1 (R493, log 37). -/
def aesCrcStep (c : Nat) (b : Bool) : Nat := if (bit c 7) != b then (c * 2 % 256) ^^^ 0x1D else c * 2 % 256

/-- The channel status bit of frame `k` of an output: bytes 0 to 3, zeros, and the CRC in byte 23, most significant bit first. -/
def aesStatus (cs k : Nat) : Bool :=
  let i := k % 192
  if i < 184 then i < 32 && bit cs i
  else bit ((List.range 184).foldl (fun c j => aesCrcStep c (j < 32 && bit cs j)) 0xFF) (191 - i)

/-- Words of a sample frame as bytes. -/
def frameBytes (l : List Nat) : Bytes := l.flatMap fun w => leBytes 4 w

namespace State

/-! ### Start (R497) -/

/-- A port starts: its frame 0 falls. An input starts with 4 ms in its elastic buffer, or fills it up to there (R500, log 37). -/
def audBegin (s : State) (n : Nat) : State :=
  let ready : Bool := !audElastic n || (s.flag Fl.AUD_P_STAT_locked [n] && 2 * rampLen (s.audCode n) ≤ (s.audPort n).elastic.buf.length)
  let s := s.modPort n fun p => { p with
    armed := false
    stopping := false
    outs := 0
    elastic := ⟨p.elastic.buf, !ready, false, if ready then ⟨0, 0, 0⟩ else Fade.init⟩ }
  let s := ((s.put Fl.AUD_P_STAT_running [n] 1).put Fl.AUD_P_STAT_fading [n] (b2n (!ready)))
  let s := if audElastic n then s else s.put Fl.AUD_P_STAT_locked [n] 1
  s.startLess n true

/-- A write of `v` to AUD_START_CTRL: every named port that may start waits for S. -/
def audStart (s : State) (v : Nat) : State :=
  let s := s.writeFields ⟨R.AUD_START_CTRL, [Fl.AUD_START_CTRL_mask]⟩ [] v
  if !bit v 31 || s.aud.starting.isSome then s
  else
    let t := s.rd64 R.AUD_START_TIME_LO R.AUD_START_TIME_HI
    let named := (List.range 14).filter fun n => bit (s.get Fl.AUD_START_CTRL_mask) n
    let late : Bool := t + 10000 < s.tbNs 3
    let busy : Bool := named.any fun n => s.audRunning n
    let go := if late then [] else named.filter fun n => s.dev Fl.AUD_P_CTRL_enable [n] = 1 && s.audPortOn n && !s.audRunning n
    let s := go.foldl (fun (u : State) n =>
      let u := u.modPort n fun p => { p with
        start := (t : Int) * (2 ^ 32 : Nat)
        fmt := u.audFmt n
        armed := true }
      let u := u.wr64 R.AUD_P_SCHED_LO R.AUD_P_SCHED_HI [n] 0
      if u.audIn n then u.wr R.AUD_P_WR [n] 0 else u) s
    let s := if late then s.put Fl.AUD_STAT_start_late [] 1 else s
    let s := if busy then s.put Fl.AUD_STAT_start_busy [] 1 else s
    ((s.put Fl.AUD_START_CTRL_go [] 1).modAud fun x => { x with starting := some ⟨go, [], busy, late⟩ }).startLess 14 false

/-! ### The schedule (R494, R495) -/

/-- TB3 time of frame k, in units of 2^-32 ns. -/
def frameAt (s : State) (n : Nat) : Nat :=
  ((s.audPort n).start + (ceilDiv (s.schedule n * second * 2 ^ 32) (audRate (s.audCode n)) : Nat)).toNat

/-- Move on to the first master edge at or after the port's next frame (log 35). -/
def reachFrame (s : State) (n : Nat) : State :=
  let t := s.frameAt n
  let s := s.reach 4 t 32
  let b := if audMaster (s.audCode n) = 24576000 then 0 else 1
  if t ≤ s.aud.edge.getD b 0 then s
  else
    let i := if s.aliased then s.get Fl.TIME_DT_STAT_active else 3
    s.advance (ceilDiv (masterWrap - s.aud.acc.getD b 0) (max 1 (s.time.inc.getD i 0) * masterHz b))

/-! ### Embedding (R503) -/

/-- Samples of the port's frame enter the groups that it feeds. -/
def audGroups (s : State) (n : Nat) (ws : List Nat) : State :=
  (List.range 8).foldl (fun (t : State) g =>
    if t.dev Fl.AUD_EMB_en [g] = 1 && t.dev Fl.AUD_EMB_port [g] = n then
      let four := (List.range 4).map fun i => ws.getD (t.dev Fl.AUD_EMB_first [g] + i) 0
      (List.range 8).foldl (fun (u : State) o =>
        if u.eff u.disp.epoch Fl.DISP_O_CTRL_enable [o] = 1 && bit (u.eff u.disp.epoch Fl.DISP_O_CTRL_audio [o]) g then
          u.modAud fun x => { x with groups := modNth x.groups (8 * o + g) fun e => { e with buf := if e.buf.length < embedRoom then e.buf ++ [four] else e.buf } }
        else u) t
    else t) s

/-! ### Sample frames (R496, R499, R500) -/

/-- Words of a ring frame. -/
def ringFrame (s : State) (base size k ch : Nat) : List Nat :=
  (List.range ch).map fun c => fieldLe (s.hbmRead (base + (k % size * ch + c) * 4) 4) 0 4

/-- An output's frame k (R499): its words. -/
def playFrame (s : State) (n : Nat) : State × List Nat :=
  let k := s.schedule n
  let nr := rampLen (s.audCode n)
  let ch := s.audChannels n
  let level : Int := signed 32 (s.rd R.AUD_P_WR [n] + 2 ^ 32 - k % 2 ^ 32)
  match s.audRing n with
  | none => (s.put Fl.AUD_P_STAT_range [n] 1, List.replicate ch 0)
  | some (base, size) =>
    let f := (s.audPort n).elastic.fade
    let good : Bool := f.mode = 0 || f.mode = 3
    let bad : Bool := good && (level < nr || (size : Int) < level)
    let s := if bad then s.rampOut n (if level < nr then 0 else 1) else s
    let f := (s.audPort n).elastic.fade
    let f := if f.mode = 1 && level ≤ 0 then ⟨2, 0, f.cause⟩
      else if f.mode = 2 && !(s.audPort n).stopping && (2 * nr : Nat) ≤ level && level ≤ size then ⟨3, 0, 0⟩ else f
    let p := fadeStep f nr
    let ws := if f.mode = 2 then List.replicate ch 0 else (s.ringFrame base size k ch).map fun w => rampWord w p.1 nr
    (s.setFade n p.2, ws)

/-- The frame that an elastic buffer gives its schedule (R500): 8 ms is four times Nr frames. -/
def elasticFrame (s : State) (n : Nat) : State × List Nat :=
  let nr := rampLen (s.audCode n)
  let ch := s.audChannels n
  let silence := List.replicate ch 0
  let e := (s.audPort n).elastic
  let len := e.buf.length
  let good : Bool := e.fade.mode = 0 || e.fade.mode = 3
  let good : Bool := good && !(s.audPort n).stopping
  let under : Bool := good && len < nr
  let over_ : Bool := good && 3 * nr < len
  let s := if under || over_ then s.rampOut n (if under then 0 else 1) else s
  let s := if under || over_ then s.modPort n fun p => { p with elastic := { p.elastic with filling := under, dropping := over_ } } else s
  let e := (s.audPort n).elastic
  let s := match e.fade.mode with
    | 1 => if e.buf.isEmpty then s.setFade n ⟨2, 0, e.fade.cause⟩ else s
    | 2 =>
      if !s.flag Fl.AUD_P_STAT_locked [n] then s.modPort n fun p => { p with elastic := { p.elastic with buf := [] } }
      else if e.dropping then
        (s.modPort n fun p => { p with elastic := { p.elastic with buf := p.elastic.buf.drop (p.elastic.buf.length - 2 * nr), dropping := false } }).setFade n ⟨3, 0, 0⟩
      else if 2 * nr ≤ e.buf.length then
        (s.modPort n fun p => { p with elastic := { p.elastic with filling := false } }).setFade n ⟨3, 0, 0⟩
      else s
    | _ => s
  let e := (s.audPort n).elastic
  if e.fade.mode = 2 then (s, silence)
  else
    let p := fadeStep e.fade nr
    let ws := (e.buf.headD silence).map fun w => rampWord w p.1 nr
    let s := s.modPort n fun q => { q with elastic := { q.elastic with buf := q.elastic.buf.drop 1 } }
    (s.setFade n p.2, ws)

/-- A TDM input's frame k: what it has sampled, at the gain of its fade. -/
def tdmFrame (s : State) (n : Nat) (captured : Bytes) : State × List Nat :=
  let nr := rampLen (s.audCode n)
  let mask := 2 ^ (32 - audWidth (s.dev Fl.AUD_P_FMT_width [n]))
  let p := fadeStep (s.audPort n).elastic.fade nr
  (s.setFade n p.2, (List.range (s.audChannels n)).map fun c =>
    let w := fieldLe captured (4 * c) 4
    rampWord (w / max mask 256 * max mask 256) p.1 nr)

/-- An input's frame k enters its ring (R496). -/
def ringPutFrame (s : State) (n : Nat) (ws : List Nat) : State :=
  match s.audRing n with
  | none => s.put Fl.AUD_P_STAT_range [n] 1
  | some (base, size) =>
    let s := s.hbmWrite (base + s.schedule n % size * ws.length * 4) (frameBytes ws)
    s.wr R.AUD_P_WR [n] ((s.rd R.AUD_P_WR [n] + 1) % 2 ^ 32)

/-- SAMPLE_FRAME (R495): frame k of a port is played or captured; `captured` is what a TDM input has sampled, four bytes per slot. A
port that waits for S starts with its frame 0, and one that stops has done so once its ramp has ended (R498). -/
def sampleFrame (s : State) (n : Nat) (captured : Bytes) : State :=
  if 13 < n || !(s.audRunning n || (s.audPort n).armed) then s
  else
    let s := s.reachFrame n
    let s := if (s.audPort n).armed then s.audBegin n else s
    let k := s.schedule n
    let ch := s.audChannels n
    let time := s.frameAt n / 2 ^ 32
    let mask := 2 ^ (32 - audWidth (s.dev Fl.AUD_P_FMT_width [n]))
    let r : State × List Nat :=
      if s.audIn n then
        let e := if audElastic n then s.elasticFrame n else s.tdmFrame n captured
        (e.1.ringPutFrame n e.2, e.2)
      else
        let e := s.playFrame n
        let cs := if 10 ≤ n then leBytes 1 (b2n (aesStatus (s.rd R.AUD_P_CS [n]) k)) else []
        let shown := if n < 8 then e.2.map fun w => w / mask * mask else e.2
        (e.1.emit (.audio n (frameBytes shown ++ cs)), e.2)
    let s := r.1.wr64 R.AUD_P_SCHED_LO R.AUD_P_SCHED_HI [n] ((k + 1) % 2 ^ 64)
    let s := (s.audGroups n r.2).recAudio n (audRate (s.audCode n)) ch time (s.audPort n).outs (frameBytes r.2)
    let s := s.modPort n fun p => { p with outs := 0 }
    if (s.audPort n).stopping && (s.audPort n).elastic.fade.mode = 2 then s.audHalt n else s

/-! ### Inputs (R493, R500, R502) -/

/-- A pair's mute (R502): the gain it passes, its new record, and whether it changed. `hit` is found by preamble, `flag_` the
non-audio bit. -/
def muteStep (m : Bool × Bool × Nat) (flag_ hit : Bool) (nr : Nat) : Nat × (Bool × Bool × Nat) × Bool :=
  if flag_ || hit then (0, (true, hit || (m.1 && m.2.1), 0), !m.1)
  else if m.1 then (if 4096 ≤ m.2.2 + 1 then (0, (false, m.2.1, 4096), true) else (0, (true, m.2.1, m.2.2 + 1), false))
  else if m.2.2 < 4096 + nr then (m.2.2 - 4096, (false, false, m.2.2 + 1), false)
  else (nr, (false, false, cleanTop), false)

/-- AUDIO_INPUT_FRAME: one frame of an AES3 or embedded input, four bytes per channel, and channel status bytes 0 to 3 of each pair. -/
def audInput (s : State) (n : Nat) (data : Bytes) (cs : List Nat) : State :=
  if !audElastic n || !s.flag Fl.AUD_P_STAT_locked [n] then s
  else
    let ch := s.audChannels n
    let nr := rampLen (s.audCode n)
    let ws := (List.range ch).map fun c => fieldLe data (4 * c) 4
    let s := s.wr R.AUD_P_CS [n] (cs.headD 0)
    let p := s.audPort n
    let steps := (List.range (ch / 2)).map fun i =>
      let a := ws.getD (2 * i) 0 / 2 ^ 16
      let b := ws.getD (2 * i + 1) 0 / 2 ^ 16
      let hit : Bool := (a = 0xF872 && b = 0x4E1F) || (p.words.getD i 0 = 0xF872 && a = 0x4E1F)
      muteStep (p.mutes.getD i (false, false, cleanTop)) (bit (cs.getD i 0) 1) hit nr
    let out := ws.mapIdx fun c w => rampWord w ((steps.map (·.1)).getD (c / 2) nr) nr
    let s := s.modPort n fun q => { q with
      mutes := q.mutes.mapIdx fun i m => (steps.map (·.2.1)).getD i m
      words := q.words.mapIdx fun i w => if i < ch / 2 then ws.getD (2 * i + 1) 0 / 2 ^ 16 else w }
    let s := s.put Fl.AUD_P_STAT_nonpcm [n] (b2n ((s.audPort n).mutes.any fun m => m.1))
    let s := steps.foldl (fun (t : State) x =>
      if x.2.2 then t.ev 0x0102 srcAUD n (b2n x.2.1.1 + 2 * b2n x.2.1.2.1) else t) s
    s.modPort n fun q =>
      let b := q.elastic.buf ++ [out]
      { q with elastic := { q.elastic with
        buf := if !s.audRunning n then b.drop (b.length - 2 * nr) else if b.length ≤ 4 * nr then b else q.elastic.buf } }

/-- Can an input lock: its port is enabled, and an SDI input itself is locked (R493). -/
def audLockable (s : State) (n : Nat) : Bool :=
  s.audPortOn n && (n < 12 || s.flag Fl.DISP_I_STAT_locked [n - 12])

/-- EV_AUD_LOCK (R493, R500). What an input held while it stood still is lost with its lock. -/
def audLock (s : State) (n : Nat) (locked : Bool) : State :=
  if !audElastic n || (locked && !s.audLockable n) || s.flag Fl.AUD_P_STAT_locked [n] = locked then s
  else
    let s := (s.put Fl.AUD_P_STAT_locked [n] (b2n locked)).ev 0x0103 srcAUD n (b2n locked + 256 * s.audCode n)
    if locked then s
    else if !s.audRunning n then s.modPort n fun p => { p with elastic := { p.elastic with buf := [] } }
    else
      let mode := (s.audPort n).elastic.fade.mode
      let s := if mode = 0 || mode = 3 then s.rampOut n 2 else s
      s.modPort n fun p => { p with elastic := { p.elastic with filling := true, dropping := false } }

end State

/-- An AUD command on the unit's power domain (R30). -/
def audRow (f : State → State) (s : State) : Res := .next (if s.powered .aud then f s else s)

/-- AUD_START (R497). -/
def execAudStart (v : Nat) (s : State) : Res := .next (s.onUnit .aud fun t => t.audStart v)

/-- SAMPLE_FRAME (R495). -/
def execSampleFrame (n : Nat) (captured : Bytes) (s : State) : Res := audRow (fun t => t.sampleFrame n captured) s

/-- AUDIO_INPUT_FRAME (R500). -/
def execAudioInputFrame (n : Nat) (data : Bytes) (cs : List Nat) (s : State) : Res := audRow (fun t => t.audInput n data cs) s

/-- EV_AUD_LOCK (R493). -/
def execEvAudLock (n : Nat) (locked : Bool) (s : State) : Res := audRow (fun t => t.audLock n locked) s

end Sys2Proof.Machine
end

