-- ==== Sys2Proof/Machine/Zstd.lean ====
section
/-! DEFINITION. Zstandard frames (R98, R292, R293), in the layout of RFC 8878 (PRESUMED, log 4). What a compressed block holds, and the
content checksum, are opaque. -/

namespace Sys2Proof.Machine

def zstdMagic : Nat := 0xFD2FB528

/-- The largest window, and the most input that a block covers (R292, R293). -/
def zstdMaxWindow : Nat := 2 ^ 23
def zstdMaxBlock : Nat := 131072

/-- A block's header: last, type, size. -/
def zstdBlockHead (last : Bool) (typ size : Nat) : Bytes := leBytes 3 (b2n last + 2 * typ + 8 * size)

/-- A block of input `b` (R292): one repeated byte as an RLE_Block, else the coded block `c` where it is smaller, else a Raw_Block. -/
def zstdBlock (last : Bool) (b c : Bytes) : Bytes :=
  if !b.isEmpty && b.all (fun x => x = b.headD 0) then zstdBlockHead last 1 b.length ++ b.take 1
  else if c.length < b.length then zstdBlockHead last 2 c.length ++ c
  else zstdBlockHead last 0 b.length ++ b

/-- Frame_Content_Size: its flag and its field, the smallest that holds it (log 115). -/
def zstdSize (single : Bool) (n : Nat) : Nat × Bytes :=
  if n < 256 && single then (0, leBytes 1 n)
  else if 256 ≤ n && n < 65792 then (1, leBytes 2 (n - 256))
  else if n < 2 ^ 32 then (2, leBytes 4 n)
  else (3, leBytes 8 n)

/-- The frame that a compression job produces (R292): level 1 to 9, window 2^(10 + w), Content_Checksum where asked. Every block but the
last covers as much input as it may (DESIGN CHOICE, log 115). -/
def zstdCompress (level w : Nat) (sum : Bool) (b : Bytes) : Bytes :=
  let single : Bool := b.length ≤ 2 ^ (10 + w)
  let size := zstdSize single b.length
  let per := min zstdMaxBlock (2 ^ (10 + w))
  let count := max 1 (ceilDiv b.length per)
  leBytes 4 zstdMagic ++ leBytes 1 (64 * size.1 + 32 * b2n single + 4 * b2n sum) ++ (if single then [] else leBytes 1 (8 * w)) ++ size.2
    ++ ((List.range count).flatMap fun i =>
      zstdBlock (i + 1 = count) ((b.drop (i * per)).take per) (Config.zstdBlock (level + 16 * w) b i))
    ++ (if sum then leBytes 4 (Config.contentChecksum b) else [])

/-- The blocks of a frame: their output and the bytes after them; `none` where they are malformed. `seen` are the frame's earlier blocks,
`max` is Block_Maximum_Size. -/
def zstdBlocks (max : Nat) : Nat → (seen out b : Bytes) → Option (Bytes × Bytes)
  | 0, _, _, _ => none
  | n + 1, seen, out, b =>
    let h := fieldLe b 0 3
    let typ := h / 2 % 4
    let size := h / 8
    let body := b.drop 3
    let held := if typ = 1 then 1 else size
    if b.length < 3 || body.length < held || max < size then none
    else
      let x := body.take held
      let got : Option Bytes := match typ with
        | 0 => some x
        | 1 => some (List.replicate size (x.headD 0))
        | 2 => Config.zstdInflate seen out x
        | _ => none
      match got with
      | none => none
      | some y =>
        if max < y.length then none
        else if h % 2 = 1 then some (out ++ y, body.drop held)
        else zstdBlocks max n (seen ++ b.take (3 + held)) (out ++ y) (body.drop held)

/-- A frame at the front of `b` (R293): 0 with its content and the bytes after it, 1 for a malformed frame or a window above 8 MiB, 2 for
a frame that names a dictionary. A frame with both of the last faults is malformed (log 116). -/
def zstdFrame (b : Bytes) : Nat × Bytes × Bytes :=
  let desc := fieldLe b 4 1
  let single : Bool := bit desc 5
  let winLen := if single then 0 else 1
  let dictLen := [0, 1, 2, 4].getD (desc % 4) 0
  let sizeLen := if desc / 64 = 0 then (if single then 1 else 0) else 2 ^ (desc / 64)
  let win := fieldLe b 5 1
  let dict := fieldLe b (5 + winLen) dictLen
  let raw := fieldLe b (5 + winLen + dictLen) sizeLen
  let size := if sizeLen = 2 then raw + 256 else raw
  let base := 2 ^ (10 + win / 8)
  let window := if single then size else base + base / 8 * (win % 8)
  let head := 5 + winLen + dictLen + sizeLen
  if b.length < head || bit desc 3 || zstdMaxWindow < window then (1, [], [])
  else if dict ≠ 0 then (2, [], [])
  else
    match zstdBlocks (min zstdMaxBlock window) b.length [] [] (b.drop head) with
    | none => (1, [], [])
    | some (out, rest) =>
      let sum : Bool := bit desc 2
      if (sizeLen ≠ 0 && out.length ≠ size) || (sum && (rest.length < 4 || fieldLe rest 0 4 ≠ Config.contentChecksum out % 2 ^ 32)) then
        (1, [], [])
      else (0, out, if sum then rest.drop 4 else rest)

/-- Decompression of concatenated frames, skippable ones skipped (R293): the output, and 0, 1 or 2 as `zstdFrame`. Input that holds no
frame is malformed (log 116). -/
def zstdRun : Nat → (out b : Bytes) → Bytes × Nat
  | 0, _, _ => ([], 1)
  | n + 1, out, b =>
    if b.length < 8 then ([], 1)
    else
      let skip : Bool := fieldLe b 0 4 / 16 = 0x184D2A5
      let past := b.drop (8 + fieldLe b 4 4)
      let r : Nat × Bytes × Bytes := if skip then (if b.length < 8 + fieldLe b 4 4 then (1, [], []) else (0, [], past))
        else if fieldLe b 0 4 = zstdMagic then zstdFrame b else (1, [], [])
      if r.1 ≠ 0 then ([], r.1)
      else if r.2.2.isEmpty then (out ++ r.2.1, 0)
      else zstdRun n (out ++ r.2.1) r.2.2

/-- The content of a single frame that fills `b` (R98). -/
def zstdExpand (b : Bytes) : Option Bytes :=
  if fieldLe b 0 4 = zstdMagic then
    let r := zstdFrame b
    if r.1 = 0 && r.2.2.isEmpty then some r.2.1 else none
  else none

end Sys2Proof.Machine
end

