-- ==== Sys2Proof/Machine/Image.lean ====
section
/-! DEFINITION. Dravya images: layout, authentication and record framing (R75 to R82, R85, R89, R92, R94, R97, R100 to R104). -/

namespace Sys2Proof.Machine

/-- A failed check: code of R104, section type, byte offset in the image. -/
structure Bad where
  code : Nat
  sec : Nat
  off : Nat
  deriving DecidableEq, Repr

/-- A check that fails unless `ok`. -/
def need (ok : Bool) (code sec off : Nat) : Option Bad := if ok then none else some ⟨code, sec, off⟩

/-- The first failure of a list of checks (R104). -/
def firstBad (l : List (Option Bad)) : Option Bad := l.findSome? id

/-- A directory entry (R77): its own offset in the image, type, body offset, length, CRC. -/
structure Sec where
  at_ : Nat
  typ : Nat
  off : Nat
  len : Nat
  crc : Nat
  deriving DecidableEq, Repr

/-- A record of a section: its offset in the image, its type, its bytes (R80). -/
structure RawRec where
  off : Nat
  typ : Nat
  b : Bytes
  deriving DecidableEq, Repr

def RawRec.u (r : RawRec) (i n : Nat) : Nat := fieldLe r.b i n

/-! ### Steps 1 to 5 (R104) -/

def imgKind (b : Bytes) : Nat := fieldLe b 10 1
def imgTotal (b : Bytes) : Nat := fieldLe b 12 4
def imgVersion (b : Bytes) : Nat := fieldLe b 16 4
def imgPipe (b : Bytes) : Nat := fieldLe b 26 1

/-- Are `n` bytes from byte `i` all 0. -/
def zeroAt (b : Bytes) (i n : Nat) : Bool := ((b.drop i).take n).all fun x => x = 0

/-- Step 1. `want` is the kind that the operation requires, 0 for either; `limit` is the length that its source holds. -/
def imgHeader (b : Bytes) (want limit : Nat) : Option Bad :=
  let k := imgKind b
  firstBad [
    need (fieldLe b 0 4 = 0x59565244) 0x01 0 0,
    need (fieldLe b 4 2 = 1) 0x03 0 4,
    need (fieldLe b 8 2 = 0x0904) 0x02 0 8,
    need ((k = 1 || k = 2) && (want = 0 || want = k)) 0x03 0 10,
    need (256 ≤ imgTotal b && imgTotal b ≤ 16777216 && imgTotal b ≤ limit) 0x04 0 12,
    need (fieldLe b 252 4 = crc32c (b.take 252)) 0x05 0 252,
    need (zeroAt b 28 4) 0x03 0 28,
    need (zeroAt b 48 16) 0x03 0 48,
    need (zeroAt b 192 60) 0x03 0 192,
    need (if k = 1 then imgPipe b = 0xFF else imgPipe b ≤ 7) 0x03 0 26,
    need (k = 2 || fieldLe b 20 4 = 0) 0x03 0 20]

/-- Step 2: silicon revision, serial, and for a patch the full image it applies to (R111). -/
def State.imgTarget (s : State) (b : Bytes) : Option Bad :=
  let serial := fieldLe b 40 8
  firstBad [
    need (fieldLe b 24 2 ≤ s.rd R.DEV_ID % 65536) 0x02 0 24,
    need (serial = 0 || serial = s.rd64 R.DEV_SERIAL_LO R.DEV_SERIAL_HI) 0x0B 0 40,
    need (imgKind b = 1 || (s.flag Fl.DEV_STATUS_ready && !s.flag Fl.DEV_STATUS_safe && fieldLe b 20 4 = s.rd R.DRV_IMG_VER)) 0x14 0 20]

/-- The used directory entries (R77). -/
def imgSecs (b : Bytes) : List Sec :=
  (List.range (min 8 (fieldLe b 27 1))).map fun i =>
    let a := 64 + 16 * i
    ⟨a, fieldLe b a 2, fieldLe b (a + 4) 4, fieldLe b (a + 8) 4, fieldLe b (a + 12) 4⟩

/-- Placement of entry `e` after a body that ends at `end_` (R78): on a multiple of 64, not before that end, with zeros between;
the first body at byte 256. -/
def placedAfter (b : Bytes) (end_ : Nat) (e : Sec) : Option Bad :=
  firstBad [
    need (e.off % 64 = 0 && end_ ≤ e.off && (e.off = 256 || (imgSecs b).head? ≠ some e)) 0x06 e.typ (e.at_ + 4),
    need (e.off + e.len ≤ imgTotal b) 0x06 e.typ (e.at_ + 8),
    need (zeroAt b end_ (e.off - end_)) 0x06 e.typ end_]

def placedAll (b : Bytes) : Nat → List Sec → Option Bad
  | _, [] => none
  | end_, e :: t => match placedAfter b end_ e with
    | some x => some x
    | none => placedAll b (e.off + e.len) t

def ascending : Nat → List Sec → Option Bad
  | _, [] => none
  | p, e :: t => if p < e.typ && e.typ ≤ 8 then ascending e.typ t else some ⟨0x06, e.typ, e.at_⟩

/-- Sections of R79: required, then forbidden, for the kind. -/
def secRules (k : Nat) : List Nat × List Nat := if k = 1 then ([1, 2, 3, 4, 5, 7, 8], []) else ([1, 5, 8], [3, 4, 7])

/-- Step 3: the directory and the placement (R77 to R79). -/
def imgDirectory (b : Bytes) : Option Bad :=
  let n := fieldLe b 27 1
  let l := imgSecs b
  let has (t : Nat) : Bool := l.any fun e => e.typ = t
  let r := secRules (imgKind b)
  firstBad ([need (1 ≤ n && n ≤ 8) 0x06 0 27, ascending 0 l]
    ++ (l.map fun e => need (zeroAt b (e.at_ + 2) 2) 0x06 e.typ (e.at_ + 2))
    ++ [need (zeroAt b (64 + 16 * n) (128 - 16 * n)) 0x06 0 (64 + 16 * n)]
    ++ (r.1.map fun t => need (has t) 0x06 t 64) ++ (r.2.map fun t => need (!has t) 0x06 t 64)
    ++ [placedAll b 256 l]
    ++ (l.filter fun e => e.typ = 8).flatMap fun e =>
        [need (e.len = 256) 0x06 8 (e.at_ + 8), need (e.off + e.len = imgTotal b) 0x06 8 (e.at_ + 4)])

def bodyOf (b : Bytes) (e : Sec) : Bytes := (b.drop e.off).take e.len

/-- Step 4 (R77). -/
def imgCrcs (b : Bytes) : Option Bad :=
  firstBad ((imgSecs b).map fun e => need (e.crc = crc32c (bodyOf b e)) 0x07 e.typ e.off)

/-- The hash that key slot `k` holds (R101). -/
def State.keyHash (s : State) (k : Nat) : Option Bytes :=
  if k = 0 then some Config.mbametKey.toList else (s.nv.keys.find? fun e => e.1 = k).map (·.2)

def State.keyFused (s : State) (k : Nat) : Bool := k = 0 || bit s.nv.fused k

/-- Step 5: the SIGNATURE body, the signature, the key slot and the floor (R100, R101, R103). -/
def State.imgSigned (s : State) (b : Bytes) : Option Bad :=
  match (imgSecs b).find? fun e => e.typ = 8 with
  | none => none
  | some e =>
    let g := bodyOf b e
    let k := fieldLe b 11 1
    let key := (g.drop 8).take 97
    firstBad [
      need (fieldLe g 0 2 = 1) 0x08 8 e.off,
      need (fieldLe g 2 1 = k) 0x08 8 (e.off + 2),
      need (fieldLe g 4 4 = e.off) 0x08 8 (e.off + 4),
      need (zeroAt g 3 1) 0x08 8 (e.off + 3),
      need (zeroAt g 105 7) 0x08 8 (e.off + 105),
      need (zeroAt g 208 48) 0x08 8 (e.off + 208),
      need (Config.ecdsaVerify key (b.take e.off) ((g.drop 112).take 48) ((g.drop 160).take 48)) 0x08 8 (e.off + 112),
      need (k < 4 && s.keyFused k && !bit s.nv.revoked k) 0x09 0 11,
      need (s.keyHash k = some (Config.sha384 key).toList) 0x09 8 (e.off + 8),
      need (imgKind b = 2 || s.nv.floor ≤ imgVersion b) 0x0A 0 16]

/-! ### Step 6, first pass: framing (R80) -/

/-- Record lengths by section and type (R82, R85, R89, R92, R94). -/
def recLen (sec typ : Nat) : Option Nat :=
  match sec, typ with
  | 1, 0x0101 => some 32 | 1, 0x0102 => some 8 | 1, 0x0103 => some 8 | 1, 0x0104 => some 16
  | 1, 0x0105 => some 16 | 1, 0x0110 => some 16
  | 2, 0x0201 => some 32
  | 3, 0x0301 => some 8 | 3, 0x0302 => some 12
  | 4, 0x0401 => some 16
  | 5, 0x0501 => some 16
  | _, _ => none

/-- Are a record's reserved bytes, reserved bits and undefined flag bits 0. Bytes that R89's table leaves out, 6 and 7 of a POWER or
CLOCK record, count as reserved (DESIGN CHOICE, log 96). -/
def recReserved (typ : Nat) (b : Bytes) : Bool :=
  let u (i : Nat) : Nat := fieldLe b i 1
  match typ with
  | 0x0101 => u 15 = 0 && zeroAt b 20 12
  | 0x0102 => u 5 < 2 && zeroAt b 6 2
  | 0x0104 => zeroAt b 14 2
  | 0x0105 => u 7 = 0
  | 0x0110 => u 11 = 0
  | 0x0201 => u 5 < 8 && u 7 = 0
  | 0x0301 => u 5 < 2 && zeroAt b 6 2
  | 0x0302 => u 5 < 2 && zeroAt b 6 2
  | 0x0401 => fieldLe b 6 2 < 2 && zeroAt b 10 2
  | _ => true

/-- The records of a section body, or the failure of the first that is malformed. -/
def frameRecs (sec : Nat) : Nat → Nat → Bytes → List RawRec × Option Bad
  | 0, _, _ => ([], none)
  | fuel + 1, off, b =>
    if b.isEmpty then ([], none)
    else
      let typ := fieldLe b 0 2
      let n := fieldLe b 2 2
      match recLen sec typ with
      | some k =>
        if 4 ≤ b.length && n = k && k ≤ b.length && recReserved typ (b.take k) then
          let rest := frameRecs sec fuel (off + k) (b.drop k)
          (⟨off, typ, b.take k⟩ :: rest.1, rest.2)
        else ([], some ⟨0x0C, sec, off⟩)
      | none => ([], some ⟨0x0C, sec, off⟩)

/-- The records of a section of the image; none where it is absent. -/
def imgRecs (b : Bytes) (sec : Nat) : List RawRec × Option Bad :=
  match (imgSecs b).find? fun e => e.typ = sec with
  | some e => frameRecs sec e.len e.off (bodyOf b e)
  | none => ([], none)

def imgFraming (b : Bytes) : Option Bad := firstBad ([1, 2, 3, 4, 5].map fun t => (imgRecs b t).2)

/-! ### What the records say -/

def RawRec.stream (r : RawRec) : StreamRec :=
  ⟨r.u 4 1, r.u 5 1, r.u 6 1, r.u 7 1, r.u 8 2, r.u 10 2, r.u 12 1, r.u 13 1, r.u 14 1, r.u 16 4⟩
def RawRec.pipe (r : RawRec) : PipeRec := ⟨r.u 4 1, r.u 5 1 = 1⟩
def RawRec.tile (r : RawRec) : TileRec := ⟨r.u 4 1, r.u 5 1, r.u 6 2⟩
def RawRec.branch (r : RawRec) : BranchRec := ⟨r.u 4 1, r.u 5 1, r.u 6 1, r.u 7 1, r.u 8 2, r.u 10 2, r.u 12 1, r.u 13 1⟩
def RawRec.buffer (r : RawRec) : BufferRec := ⟨r.u 4 1, r.u 5 1, r.u 6 1, r.u 8 8⟩
def RawRec.edge (r : RawRec) : EdgeRec := ⟨r.u 4 2, r.u 6 2, r.u 8 1, r.u 9 1, r.u 10 1, r.u 12 4⟩
def RawRec.part (r : RawRec) : PartRec :=
  ⟨r.u 4 1, bit (r.u 5 1) 0, bit (r.u 5 1) 1, bit (r.u 5 1) 2, r.u 6 1, r.u 8 8, r.u 16 8⟩
def RawRec.port (r : RawRec) : PortRec := ⟨r.u 4 1, r.u 5 1, r.u 6 2 = 1, r.u 8 1, r.u 9 1, r.u 12 4⟩

/-- TILE records of one pipeline and class count as one. -/
def mergeTiles (l : List TileRec) : List TileRec :=
  l.foldl (fun acc t =>
    if acc.any fun x => x.pipe = t.pipe && x.cls = t.cls then
      acc.map fun x => if x.pipe = t.pipe && x.cls = t.cls then { x with mask := x.mask ||| t.mask } else x
    else acc ++ [t]) []

/-- The records of an image, with their offsets. -/
structure Image where
  b : Bytes
  topo : List RawRec
  mem : List RawRec
  clk : List RawRec
  ports : List RawRec
  presets : List RawRec
  deriving DecidableEq, Repr

def Image.of (b : Bytes) : Image :=
  ⟨b, (imgRecs b 1).1, (imgRecs b 2).1, (imgRecs b 3).1, (imgRecs b 4).1, (imgRecs b 5).1⟩

def Image.pipe (i : Image) : Nat := imgPipe i.b
def Image.full (i : Image) : Bool := imgKind i.b = 1

def Image.of' (i : Image) (typ : Nat) : List RawRec := i.topo.filter fun r => r.typ = typ

/-- The structure that the image's own records give. -/
def Image.graph (i : Image) : Graph :=
  ⟨(i.of' 0x0101).map RawRec.stream, (i.of' 0x0102).map RawRec.pipe, mergeTiles ((i.of' 0x0103).map RawRec.tile),
    (i.of' 0x0104).map RawRec.branch, (i.of' 0x0105).map RawRec.buffer, (i.of' 0x0110).map RawRec.edge,
    i.mem.map RawRec.part, i.ports.map RawRec.port⟩

/-- The WRITE records of PRESET (R94): offset, mask, value. -/
def Image.writes (i : Image) : List (Nat × Nat × Nat) := i.presets.map fun r => (r.u 4 4, r.u 8 4, r.u 12 4)

/-- Power domains that CLKPWR turns on (R89). -/
def Image.power (i : Image) (d : Nat) : Bool := i.clk.any fun r => r.typ = 0x0301 && r.u 4 1 = d && r.u 5 1 = 1

/-- A clock domain's enable and cap (R89). -/
def Image.clock (i : Image) (c : Nat) : Bool × Nat :=
  match i.clk.find? fun r => r.typ = 0x0302 && r.u 4 1 = c with
  | some r => (r.u 5 1 = 1, r.u 8 4)
  | none => (false, 0)

/-- A LUTS blob (R97): its offset in the image, target, flags, pipe, offset in the target, stored bytes, expanded length and
CRC, whether its reserved fields and padding are 0 and its bytes complete. -/
structure Blob where
  at_ : Nat
  target : Nat
  flags : Nat
  pipe : Nat
  off : Nat
  stored : Bytes
  len : Nat
  crc : Nat
  clean : Bool
  deriving DecidableEq, Repr

def frameBlobs : Nat → Nat → Bytes → List Blob
  | 0, _, _ => []
  | fuel + 1, a, b =>
    if b.isEmpty then []
    else
      let n := fieldLe b 16 4
      let m := 32 + roundUp n 8
      let clean : Bool := 32 ≤ b.length && m ≤ b.length && zeroAt b 4 4 && zeroAt b 28 4 && fieldLe b 2 1 < 4 && zeroAt b (32 + n) (m - 32 - n)
      ⟨a, fieldLe b 0 2, fieldLe b 2 1, fieldLe b 3 1, fieldLe b 8 8, (b.drop 32).take n, fieldLe b 20 4, fieldLe b 24 4, clean⟩
        :: frameBlobs fuel (a + m) (b.drop m)

def Image.blobs (i : Image) : List Blob :=
  match (imgSecs i.b).find? fun e => e.typ = 6 with
  | some e => frameBlobs e.len e.off (bodyOf i.b e)
  | none => []

/-- The body of the FIRMWARE section. -/
def Image.firmware (i : Image) : Bytes := (((imgSecs i.b).find? fun e => e.typ = 7).map fun e => bodyOf i.b e).getD []

/-- A blob's expanded bytes (R98). -/
def Blob.bytes (x : Blob) : Option Bytes := if bit x.flags 0 then zstdExpand x.stored else some x.stored

end Sys2Proof.Machine
end

