-- ==== Sys2Proof/Machine/ImageTopo.lean ====
section
/-! DEFINITION. The rules of TOPOLOGY (R82 to R84, R111 to R114, R182, R193, R241, R299, R321, R330, R542). -/

namespace Sys2Proof.Machine

/-! ### Field ranges (R82) -/

/-- A STREAM record's fields; byte 7 of a stitched mosaic is ignored (R177). -/
def streamRange (r : StreamRec) : Bool :=
  r.id ≤ 63 && (if r.source = 0 then r.group ≤ 15 && (r.mosaic = 1 || r.stream ≤ 63) else r.source = 1 && r.group ≤ 3 && r.stream ≤ 15)
    && r.container ≤ 3 && 1 ≤ r.exposures && r.exposures ≤ 4 && r.mosaic ≤ 1

/-- Instances that TILE masks may name (R83 rule 6). -/
def tileLimit : Nat → Nat
  | 1 => 256
  | 2 => 256
  | 3 => 4096
  | _ => 0

/-- Consumers that a branch kind serves (R321, R330). -/
def consumerOk (r : BranchRec) : Bool :=
  match r.kind with
  | 1 => r.consumer = 0x19
  | 2 => r.consumer = 0x18 && r.inst < 2
  | 3 => r.consumer = 0x1C || r.consumer = 0x1D
  | 4 => r.consumer = 0x1D
  | _ => false

/-- The range of one record's fields. -/
def topoRange (r : RawRec) : Bool :=
  match r.typ with
  | 0x0101 => streamRange r.stream
  | 0x0102 => r.u 4 1 ≤ 7
  | 0x0103 => r.u 4 1 ≤ 7 && 1 ≤ r.u 5 1 && r.u 5 1 ≤ 3 && r.u 6 2 < tileLimit (r.u 5 1)
  | 0x0104 => r.u 4 1 ≤ 7 && r.u 5 1 ≤ 7 && r.u 7 1 ≤ 7 && consumerOk r.branch
  | 0x0105 => r.u 4 1 ≤ 63 && 1 ≤ r.u 6 1
  | _ =>
    let e := r.edge
    e.via ≤ 1 && (e.via = 1 || e.buffer = 0xFF) && e.cls ≤ 3

/-- Pipelines that a record names (R83 rule 1). -/
def namedPipes (r : RawRec) : List Nat :=
  let ref (n : Nat) : List Nat := if n / 256 = 2 then [n % 256 / 16] else if n / 256 = 3 then [n % 256 / 8] else []
  match r.typ with
  | 0x0102 => [r.u 4 1]
  | 0x0103 => [r.u 4 1]
  | 0x0104 => [r.u 4 1]
  | 0x0110 => ref (r.u 4 2) ++ ref (r.u 6 2)
  | _ => []

/-! ### The rules of R83 on a graph -/

/-- Where edges may run (R83 rule 4). -/
def edgeLegal (g : Graph) (e : EdgeRec) : Bool :=
  let a := e.src % 256
  let b := e.dst % 256
  match e.src / 256, e.dst / 256 with
  | 1, 2 => b % 16 = 0 && b / 16 < 8 && (g.stream? a).isSome
  | 2, 2 => a / 16 = b / 16 && a / 16 < 8 && [(0, 1), (1, 2), (2, 3), (3, 4), (2, 5), (5, 6)].contains (a % 16, b % 16)
  | 2, 3 => a % 16 = 6 && a / 16 = b / 8 && (g.branch? (b / 8) (b % 8)).isSome
  | 3, 5 => ((g.branch? (a / 8) (a % 8)).map fun r => decide (r.consumer = b)).getD false
  | _, _ => false

/-- The source of an edge is reached from INGEST: some edge ends at it, unless it is a stream or the INGEST stage itself, which
rule 2 feeds. -/
def edgeReached (g : Graph) (e : EdgeRec) : Bool :=
  e.src / 256 = 1 || g.edges.any fun f => f.dst = e.src

/-- Does a pipeline have a stage: some edge starts or ends at it. -/
def hasStage (g : Graph) (p st : Nat) : Bool :=
  g.edges.any fun e => e.src = 0x200 + p * 16 + st || e.dst = 0x200 + p * 16 + st

/-- Rule 8: a buffer exists whose partition is the pipeline's own or shared. -/
def edgeBufferOk (g : Graph) (e : EdgeRec) : Bool :=
  e.via = 0 || match (g.buffer? e.buffer).bind fun b => g.part? b.part with
    | some q => q.owner = 0xFF || q.owner = edgePipe e.src e.dst
    | none => false

/-- Rules 2, 3, 5 and the unit chapters' rules, for one pipeline under the register values of the image. -/
def pipeRules (g : Graph) (regs : RegFile) (p : Nat) : Bool :=
  let feeds := g.edges.filter fun e => e.src / 256 = 1 && e.dst / 256 = 2 && e.dst % 256 / 16 = p
  let w := ((g.streamOf p).map fun r => r.width).getD 1
  let t (c : Nat) : Nat := (g.tilesOf p c).length
  feeds.length = 1
    && (feeds.all fun e => e.via = 1 && ((g.buffer? e.buffer).map fun b => decide (2 ≤ b.depth)).getD false)
    && (!hasStage g p 1 || (1 ≤ t 1 && stripeLoadOk g p (regs.get Fl.RCT_STAGE_cfa [p])))
    && (!hasStage g p 3 || (1 ≤ t 2 && ceilDiv (ceilDiv w 64) (t 2) ≤ 64))
    && (!hasStage g p 5 || (1 ≤ t 3 && stripeWidth w (t 3) + 32 ≤ 8192))

/-- Rule 9: the buffer of an edge lies inside its partition for its full depth. -/
def edgeBufferFits (g : Graph) (regs : RegFile) (e : EdgeRec) : Bool :=
  e.via = 0 || match g.buffer? e.buffer with
    | none => false
    | some b =>
      if e.src / 256 = 1 then
        match g.stream? (e.src % 256) with
        | some r => g.bufferFits b b.depth (slotSize r)
        | none => false
      else if e.src / 256 = 3 then g.bufferFits b b.depth (regs.get Fl.OUTF_STRIDE_value [e.src % 256] * 4096)
      else if e.src % 16 = 3 && e.dst % 16 = 4 then g.bufferFits b b.depth (regs.get Fl.REC_P_BUF_unit_mib [e.src % 256 / 16] * 0x100000)
      else g.bufferFits b 0 0

/-- The rules of the section on the image's records, with `g` the structure that results (R83, R182, R330). `regs` holds the
values that PRESET leaves. Two STREAM or two BUFFER records of one id are refused with TOPO (DESIGN CHOICE, log 100). -/
def topoRules (i : Image) (g : Graph) (regs : RegFile) : Option Bad :=
  let dup {α : Type} [DecidableEq α] (typ : Nat) (f : RawRec → α) : List (Option Bad) :=
    let l := i.of' typ
    l.map fun r => need ((l.filter fun q => decide (f q = f r)).length = 1) 0x0D 1 r.off
  firstBad (
    (i.topo.map fun r => need (topoRange r) 0x0D 1 r.off) ++
    (i.topo.map fun r => need ((namedPipes r).all fun p => (g.pipes.filter fun q => q.pipe = p).length = 1) 0x0D 1 r.off) ++
    dup 0x0101 (fun r => r.u 4 1) ++ dup 0x0105 (fun r => r.u 4 1) ++
    ((i.of' 0x0101).map fun r => need (1 ≤ r.stream.width && 1 ≤ r.stream.height
      && (r.stream.source = 0 || (r.stream.exposures = 1 && r.stream.mosaic = 0))) 0x0D 1 r.off) ++
    ((i.of' 0x0110).map fun r => need (edgeLegal g r.edge && edgeReached g r.edge) 0x0D 1 r.off) ++
    ((i.of' 0x0103).map fun r => need ((i.of' 0x0103).all fun q => q.off = r.off || q.u 5 1 ≠ r.u 5 1 || q.u 6 2 &&& r.u 6 2 = 0) 0x0D 1 r.off) ++
    dup 0x0104 (fun r => (r.u 4 1, r.u 5 1)) ++ dup 0x0104 (fun r => (r.u 4 1, 256 + r.u 7 1)) ++
    ((i.of' 0x0110).map fun r => need (edgeBufferOk g r.edge) 0x0D 1 r.off) ++
    ((i.of' 0x0102).map fun r => need (pipeRules g regs (r.u 4 1)) 0x0D 1 r.off) ++
    ((i.of' 0x0110).map fun r => need (edgeBufferFits g regs r.edge) 0x0D 1 r.off) ++
    ((i.of' 0x0110).map fun r => need (r.edge.src / 256 ≠ 1 || (g.edges.filter fun e => e.src = r.edge.src).length = 1) 0x0D 1 r.off) ++
    ((i.of' 0x0104).map fun r => need (r.branch.kind ≠ 2 ||
      (g.branches.filter fun b => b.kind = 2 && b.inst = r.branch.inst).length = 1) 0x0D 1 r.off))

/-! ### Full images -/

/-- Retired instances of a class that the image names (R542). -/
def State.retiredNamed (s : State) (g : Graph) (cls : Nat) : List (Nat × Nat) :=
  (g.tiles.filter fun t => t.cls = cls).flatMap fun t =>
    ((List.range 16).filter fun n => bit t.mask n && bit (s.get (retiredFld cls)) n).map fun n => (t.pipe, n)

/-- The spare of a tile class (R192, R542): RCT8, RCU8, DVT12. -/
def spareTile (cls : Nat) : Nat := if cls = 3 then 12 else 8

/-- Spares that a class has: none where its spare is itself retired. -/
def State.spareCount (s : State) (cls : Nat) : Nat := if bit (s.get (retiredFld cls)) (spareTile cls) then 0 else 1

/-- Rules of TOPOLOGY for a full image (R83, R84, R542). -/
def State.topoFull (s : State) (i : Image) (regs : RegFile) : Option Bad :=
  let g := i.graph
  let at_ := ((i.topo.head?).map fun r => r.off).getD 256
  firstBad [topoRules i g regs,
    need ([1, 2, 3].all fun c => (s.retiredNamed g c).length ≤ s.spareCount c) 0x0D 1 at_,
    need (sumOf xwPortsOf g.edges ≤ 64) 0x0E 1 at_]

/-! ### Patches (R111, R112, R114, R239) -/

/-- Patches of other pipelines that have been staged and have not taken effect. -/
def State.otherPatches (s : State) (p : Nat) : List Patch :=
  (s.drv.staged ++ ((s.front.map fun f => f.patches).getD []) ++ s.patchesOf.map (·.2)).filter fun x => x.pipe ≠ p

/-- Patches that hold tiles or extents, the pipeline's own included once it is part of a front. -/
def State.heldPatches (s : State) (p : Nat) : List Patch :=
  (s.drv.staged.filter fun x => x.pipe ≠ p) ++ ((s.front.map fun f => f.patches).getD []) ++ s.patchesOf.map (·.2)

/-- Is a tile taken by another pipeline, in the structure in effect, the newest one, one that is not released yet (R144) or a patch that
waits. -/
def State.tileTaken (s : State) (p cls n : Nat) : Bool :=
  let by_ (g : Graph) : Bool := g.tiles.any fun t => t.pipe ≠ p && t.cls = cls && bit t.mask n
  by_ s.graph || by_ s.newestGraph || (s.epochs.any fun r => by_ r.graph) || (s.otherPatches p).any fun x => by_ x.graph

/-- The tiles of a TILE record that the patch may assign (R112). -/
def State.patchTiles (s : State) (p : Nat) (t : TileRec) : Bool :=
  (List.range 16).all fun n => !bit t.mask n ||
    (!s.tileTaken p t.cls n && s.get (spareFld t.cls) ≠ n && !bit (s.get (retiredFld t.cls)) n)

/-- The power domain of a tile (R567). -/
def tileDomain (cls n : Nat) : Nat :=
  if cls = 1 then 5 + n / 3 else if cls = 2 then (if n < 5 then 8 else 9) else if n < 4 then 10 else if n < 8 then 11 else 12

/-- The recording edges of a pipeline (R114). -/
def recEdges (g : Graph) (p : Nat) : List EdgeRec :=
  g.edges.filter fun e => [0x203 + p * 16, 0x204 + p * 16].contains e.src || [0x203 + p * 16, 0x204 + p * 16].contains e.dst

/-- Are two edge lists the same edges, in whatever order (R114). -/
def sameEdges (a b : List EdgeRec) : Bool := a.length = b.length && (a.all b.contains) && b.all a.contains

/-- Does an edge have an end outside the pipeline, a stream that feeds it and its consumers apart (R111). -/
def edgeOwn (g : Graph) (p : Nat) (e : EdgeRec) : Bool :=
  match e.src / 256, e.dst / 256 with
  | 1, 2 => e.dst % 256 / 16 = p && ((g.feed? p).map fun f => decide (f.src = e.src)).getD false
  | 2, 2 => e.src % 256 / 16 = p && e.dst % 256 / 16 = p
  | 2, 3 => e.src % 256 / 16 = p && e.dst % 256 / 8 = p
  | 3, _ => e.src % 256 / 8 = p
  | _, _ => false

/-- Ports that a pipeline's edges hold now, retired ones apart. -/
def State.xwHeld (s : State) (p : Nat) : Nat :=
  (s.hlt.xw.filter fun q => !q.retired && q.edge.any fun e => edgePipe e.1 e.2 = p).length

/-- Rules of TOPOLOGY for a patch, with `g` the structure that it leaves (R111, R112, R114). -/
def State.topoPatch (s : State) (i : Image) (g : Graph) (regs : RegFile) : Option Bad :=
  let p := i.pipe
  let now := s.newestGraph
  let at_ := ((i.topo.head?).map fun r => r.off).getD 256
  let own (r : RawRec) : Bool := match r.typ with
    | 0x0101 => false
    | 0x0102 => r.u 4 1 = p
    | 0x0103 => r.u 4 1 = p
    | 0x0104 => r.u 4 1 = p
    | 0x0110 => edgeOwn now p r.edge
    | _ => true
  let need' := sumOf xwPortsOf (g.edges.filter fun e => edgePipe e.src e.dst = p)
  let take := (s.liveTake p).isSome
  firstBad ([need (now.pipe? p).isSome 0x0D 0 26] ++
    (i.topo.map fun r => need (own r) 0x0D 1 r.off) ++
    [topoRules i g regs] ++
    ((i.of' 0x0103).map fun r => need (s.patchTiles p r.tile) 0x0D 1 r.off) ++
    ((i.of' 0x0103).map fun r => need ((List.range 16).all fun n => !bit (r.u 6 2) n || s.domainOn (tileDomain (r.u 5 1) n)) 0x10 1 r.off) ++
    [need (need' ≤ s.xwHeld p + s.xwFree) 0x0E 1 at_,
     need (!take || sameEdges (recEdges now p) (recEdges g p)) 0x15 1 at_])

end Sys2Proof.Machine
end

