-- ==== Sys2Proof/Machine/ImageRules.lean ====
section
/-! DEFINITION. The rules of MEMPLAN, CLKPWR, PORTS, PRESET and LUTS, the check of a whole image (R86 to R99, R104), and the
extents that a patch takes (R389). -/

namespace Sys2Proof.Machine

/-! ### MEMPLAN (R86, R384, R389, R407) -/

/-- Bytes of HBM that a partition consumes (R86). -/
def consumes (q : PartRec) : Nat := if q.prot then q.size / 7 * 8 else q.size

def partRange (q : PartRec) : Bool :=
  q.id ≤ 63 && (q.owner ≤ 7 || q.owner = 0xFF) && q.base % 0x200000 = 0 && q.size % 0x200000 = 0
    && (!q.prot || q.size % 0xE00000 = 0) && q.base + q.size ≤ State.reservedLo

def partsOverlap (a b : PartRec) : Bool := a.base < b.base + b.size && b.base < a.base + a.size

/-- Rules of MEMPLAN on the image's records and on the plan `l` that results. Two records of one id are refused with MEMPLAN
(DESIGN CHOICE, log 97). A record that deletes takes no space, so only its id is judged (R112). -/
def memRules (i : Image) (l : List PartRec) : Option Bad :=
  let at_ := ((i.mem.head?).map fun r => r.off).getD 256
  firstBad (
    (i.mem.map fun r => need (partRange r.part && ((i.mem.filter fun q => q.u 4 1 = r.u 4 1).length = 1)
      && (r.part.size = 0 || l.all fun q => q.id = r.part.id || !partsOverlap r.part q)) 0x0F 2 r.off) ++
    [need (sumOf consumes l ≤ State.reservedLo) 0x0F 2 at_])

/-- The extents of a full image: ascending base, packed from physical 0 (R384). -/
def packExtents : Nat → List PartRec → List PartMap
  | _, [] => []
  | a, q :: t => ⟨q.id, a, consumes q, q.prot⟩ :: packExtents (a + consumes q) t

def fullExtents (l : List PartRec) : List PartMap :=
  packExtents 0 (sortBy (fun a b => decide (a.base < b.base)) (l.filter fun q => q.size ≠ 0))

/-- A full image loads with failed channels only if every partition is protected and no parity group has two (R407). -/
def failedOk (l : List PartRec) (failed : List Nat) : Bool :=
  failed.isEmpty || (l.all (fun q => q.prot) && failed.all fun n => (failed.filter fun m => State.chGroup m = State.chGroup n).length = 1)

/-- The lowest place where `n` bytes fit beside the extents in use (R389). -/
def lowestFit (used : List (Nat × Nat)) (n : Nat) : Option Nat :=
  let ok (a : Nat) : Bool := a + n ≤ State.reservedLo && used.all fun u => a + n ≤ u.1 || u.1 + u.2 ≤ a
  (sortBy (fun a b => decide (a < b)) (0 :: used.map fun u => u.1 + u.2)).find? ok

/-- Partition by partition: space free before the patch first, then space that the patch frees too (R389). -/
def fitAll (before after : List (Nat × Nat)) : List PartRec → Option (List PartMap)
  | [] => some []
  | q :: t =>
    let n := consumes q
    let a := match lowestFit before n with
      | some a => some a
      | none => lowestFit after n
    match a with
    | none => none
    | some a => (fitAll ((a, n) :: before) ((a, n) :: after) t).map fun l => ⟨q.id, a, n, q.prot⟩ :: l

namespace State

/-- Extents held by partitions, by patches that wait, and by old structures that have not been released (R144); `p` is the pipeline
whose staged patch is replaced. -/
def extentsNow (s : State) (p : Nat) : List PartMap :=
  let held := (s.heldPatches p).flatMap fun x => x.maps ++ x.old
  let live := (s.newestGraph.parts ++ s.graph.parts).filterMap fun q =>
    if s.get Fl.HBMC_MAP_valid [q.id] = 1 then
      some (⟨q.id, s.get Fl.HBMC_MAP_pbase [q.id] * 0x200000, consumes q, q.prot⟩ : PartMap)
    else none
  held ++ live

/-- The newest extent of partition `id`. -/
def extentOf (s : State) (id : Nat) : Option PartMap :=
  let held := (s.patchesOf.map (·.2) ++ ((s.front.map fun f => f.patches).getD [])).flatMap fun x => x.maps
  match held.reverse.find? fun m => m.id = id with
  | some m => some m
  | none => (s.newestGraph.parts.find? fun q => q.id = id).map fun q => ⟨id, s.get Fl.HBMC_MAP_pbase [id] * 0x200000, consumes q, q.prot⟩

end State

/-- The plan that a patch leaves: named partitions replaced, those of size 0 deleted (R112, log 28). -/
def patchParts (now : List PartRec) (l : List PartRec) : List PartRec :=
  (now.filter fun q => l.all fun r => r.id ≠ q.id) ++ l.filter fun r => r.size ≠ 0

/-- A named partition that is new, moved, resized or deleted; a record equal to what stands changes nothing. -/
def partChanged (now : List PartRec) (q : PartRec) : Bool :=
  !(now.any fun r => r.id = q.id && r.base = q.base && r.size = q.size && r.prot = q.prot)

/-- What a patch does to the memory plan (R145, R389): the extents, the ranges that become new, the extents it gives up, whether it uses
that space; `none` where an extent does not fit. -/
def State.patchPlan (s : State) (i : Image) : Option (List PartMap × List (Nat × Nat × Bool) × List PartMap × Bool) :=
  let now := s.newestGraph.parts
  let l := i.mem.map RawRec.part
  let changed := l.filter fun q => partChanged now q
  let grow := sortBy (fun a b => decide (a.id < b.id)) (changed.filter fun q => q.size ≠ 0)
  let old := changed.filterMap fun q => now.find? fun r => r.id = q.id
  let freed := old.filterMap fun q => s.extentOf q.id
  let used := (s.extentsNow i.pipe).map fun m => (m.pbase, m.size)
  let kept := ((s.extentsNow i.pipe).filter fun m => !freed.contains m).map fun m => (m.pbase, m.size)
  match fitAll used kept grow with
  | none => none
  | some maps =>
    let physical : Bool := maps.any fun m => freed.any fun f => m.pbase < f.pbase + f.size && f.pbase < m.pbase + m.size
    let plan : Bool := grow.any fun q => old.any fun o => partsOverlap q o
    let gone : List PartMap := (changed.filter fun q => q.size = 0).map fun q => ⟨q.id, 0, 0, false⟩
    some (maps ++ gone, grow.map (fun q => (q.base, q.size, q.zero)), freed, physical || plan)

/-- Rules of MEMPLAN for a patch (R112, R239, R389). -/
def State.memPatch (s : State) (i : Image) : Option Bad :=
  let now := s.newestGraph.parts
  let p := i.pipe
  let at_ := ((i.mem.head?).map fun r => r.off).getD 256
  let ingest := ((s.newestGraph.feed? p).bind fun e => s.newestGraph.buffer? e.buffer).map fun b => b.part
  let held : Bool := ((s.caps.getD p CapSt.init).segs).any fun x => !x.frames.isEmpty
  firstBad ((i.mem.map fun r => need (r.u 6 1 = p && ((now.find? fun q => q.id = r.u 4 1).map fun q => decide (q.owner = p)).getD true) 0x0F 2 r.off) ++
    [memRules i (patchParts now (i.mem.map RawRec.part)), need (s.patchPlan i).isSome 0x0F 2 at_] ++
    (i.mem.map fun r => need (!(held && some (r.u 4 1) = ingest && partChanged now r.part)) 0x16 2 r.off))

/-! ### CLKPWR and PORTS (R89 to R93, R156, R181, R568) -/

/-- Exact nominal frequency in kHz, rounded down (R90, R563); the cap must be 0 for VID, DSI and AUD. -/
def nominalKhz (c : Nat) : Nat :=
  [25000, 1000000, 1600000, 1200000, 900000, 1600000, 1600000, 1600000, 1600000, 1000000, 1000000, 805664, 500000, 0, 0, 0,
    200000, 60000].getD c 0

def alwaysOn (d : Nat) : Bool := [0, 1, 2, 16, 17, 20].contains d
def alwaysClocked (c : Nat) : Bool := [0, 1, 2, 5, 6, 7, 8, 10, 12].contains c

/-- Power domains that an enabled port needs (R91, R156, R567, R568). -/
def portDomains (r : PortRec) : List Nat :=
  match r.cls with
  | 0x01 => 3 :: (if r.first + r.count ≤ 32 then [] else [4])
  | 0x02 => [3]
  | 0x03 => [19]
  | 0x04 => [18]
  | 0x05 => [20] | 0x06 => [20]
  | 0x07 => [15] | 0x08 => [15] | 0x09 => [15]
  | 0x0A => [21] | 0x0B => [21]
  | _ => [22]

/-- Power domains that an image needs on (R91). -/
def neededDomains (i : Image) : List Nat :=
  [7, 9, 12] ++ (i.graph.tiles.flatMap fun t => ((List.range 16).filter fun n => bit t.mask n).map fun n => tileDomain t.cls n)
    ++ ((i.graph.ports.filter fun r => r.enable).flatMap portDomains)
    ++ i.writes.filterMap fun w => State.domainOf (blockOf w.1)

/-- Rules of CLKPWR. -/
def clkRules (i : Image) : Option Bad :=
  let body := ((imgSecs i.b).find? fun e => e.typ = 3).map fun e => e.off
  let once (r : RawRec) : Bool := (i.clk.filter fun q => q.typ = r.typ && q.u 4 1 = r.u 4 1).length = 1
  firstBad ((i.clk.map fun r =>
      if r.typ = 0x0301 then need (once r && r.u 4 1 ≤ 23 && (r.u 5 1 = 1 || !(alwaysOn (r.u 4 1)))) 0x10 3 r.off
      else need (once r && r.u 4 1 ≤ 17 && r.u 8 4 ≤ nominalKhz (r.u 4 1) && (r.u 5 1 = 1 || !(alwaysClocked (r.u 4 1)))) 0x10 3 r.off) ++
    (neededDomains i).map fun d => need (i.power d || alwaysOn d) 0x10 3 (body.getD 256))

/-- The shape of one PORT record (R92, R93, R156, R181). -/
def portShape (r : PortRec) : Bool :=
  match r.cls with
  | 0x01 => r.index ≤ 15 && [1, 2, 4, 8, 16, 32, 64].contains r.count && r.first % r.count = 0 && r.first + r.count ≤ 64
      && 2500 ≤ r.param && r.param ≤ 32000
  | 0x02 => r.index ≤ 3 && [1, 2, 4].contains r.count && 160 ≤ r.param && r.param ≤ 4500
  | 0x03 => r.index ≤ 31 && [2, 4, 8, 16].contains r.count && r.first % r.count = 0 && r.first + r.count ≤ 64
      && 1 ≤ r.param && r.param ≤ 6
  | 0x04 => r.index = 0 && r.count = 16 && r.param = 0
  | 0x05 => r.index ≤ 3 && r.count = 2 && r.param = 0
  | 0x06 => r.index ≤ 1 && r.count = 1 && r.param = 0
  | 0x07 => r.index ≤ 7 && r.count = 1 && r.param = 0
  | 0x08 => r.index ≤ 1 && r.count = 1 && r.param = 0
  | 0x09 => r.index ≤ 1 && 1 ≤ r.count && r.count ≤ 4 && r.param = 0
  | 0x0A => r.index ≤ 7 && r.count = 0 && r.param = 0
  | 0x0B => r.index ≤ 3 && r.count = 0 && r.param = 0
  | 0x0C => r.index ≤ 7 && r.count = 0 && r.param = 0
  | 0x0D => r.index ≤ 3 && r.count = 0 && r.param = 0
  | 0x0E => r.index ≤ 1 && r.count = 0 && r.param = 0
  | 0x0F => r.index = 0 && r.count = 0 && r.param = 0
  | 0x10 => r.index = 0 && r.count = 0 && r.param = 0
  | 0x11 => r.index ≤ 5 && r.count = 0 && r.param ≤ 255
  | _ => false

/-- Lanes that two ports of one lane-sharing class have in common (R93, R156). -/
def lanesMeet (a b : PortRec) : Bool :=
  a.cls = b.cls && (a.cls = 1 || a.cls = 3) && a.first < b.first + b.count && b.first < a.first + a.count

/-- Rules of PORTS. -/
def portRules (i : Image) : Option Bad :=
  firstBad (i.ports.map fun r =>
    need (portShape r.port && (i.ports.filter fun q => q.u 4 1 = r.u 4 1 && q.u 5 1 = r.u 5 1).length = 1
      && i.ports.all fun q => q.off = r.off || !lanesMeet q.port r.port) 0x11 4 r.off)

/-! ### PRESET (R94 to R96) -/

/-- Where a WRITE record lands in a structure: the register row and its instance. -/
def presetAt (g : Graph) (off : Nat) : Option (RegRow × List Nat) :=
  (findReg off).bind fun e =>
    if e.1.reg.perPipe then
      ((tileOfBlk (blockOf off)).bind fun t => g.tilePipe t.1 t.2).map fun p => (e.1, p :: e.2.tail)
    else some e

/-- One WRITE record on a register file (R94). -/
def presetOne (g : Graph) (f : RegFile) (w : Nat × Nat × Nat) : RegFile :=
  match presetAt g w.1 with
  | some (row, ix) =>
    let old := f.rd row.reg ix
    f.wr row.reg ix ((old &&& (0xFFFFFFFF - w.2.1)) ||| (w.2.2 &&& w.2.1))
  | none => f

/-- Blocks that PRESET may not name (R95). -/
def presetBlock (off : Nat) : Bool :=
  match blockOf off with
  | .dev | .ord | .evq | .cmdq | .drv | .bulk | .hpc | .none => false
  | _ => true

/-- The bits of a field. -/
def Fld.mask (d : Fld) : Nat := 2 ^ (d.hi + 1) - 2 ^ d.lo

/-- One WRITE record on the registers that the earlier ones leave (R95, R96). -/
def presetRule (i : Image) (g : Graph) (f : RegFile) (r : RawRec) : Bool :=
  let off := r.u 4 4
  let m := r.u 8 4
  off % 4 = 0 && presetBlock off && (m = 0 ||
    match findReg off with
    | none => false
    | some (row, ix0) =>
      let ix := ((presetAt g off).map (·.2)).getD ix0
      let w := (presetOne g f (off, m, r.u 12 4)).rd row.reg ix
      let hit (d : Fld) : Bool := d.mask &&& m ≠ 0
      decide (m - (m &&& sumOf Fld.mask row.flds) = 0) && row.flds.all fun d => !hit d ||
        ((d.kind = .rws || (i.full && (d.kind = .rw || d.kind = .cnt || d.kind = .cntSat)))
          && d.allowed.ok (d.hi + 1 - d.lo) (bits w d.hi d.lo) && imageOk g d ix (bits w d.hi d.lo)))

/-- Is placement entry `k` free, or of a stream that feeds pipeline `p`. -/
def placeOwn (g : Graph) (p : Nat) (f : RegFile) (k : Nat) : Bool :=
  f.get Fl.SFE_PLACE_SRC_valid [k] = 0 || ((g.streamOf p).map fun r => decide (r.id = f.get Fl.SFE_PLACE_SRC_logical [k])).getD false

/-- Does a patch's WRITE record keep to the tiles that it assigns and to its pipeline's own registers (R96, R173). A placement entry is
its pipeline's own where it is not, and does not become, a valid entry of another's stream (DEDUCED, log 98). -/
def presetOwn (g : Graph) (p off : Nat) (f t : RegFile) : Bool :=
  match blockOf off, findReg off with
  | .rct n, _ => (g.tilesOf p 1).contains n
  | .rcu n, _ => (g.tilesOf p 2).contains n
  | .dvt n, _ => (g.tilesOf p 3).contains n
  | .sfe, some (row, ix) =>
    let k := ix.headD 256
    if row.reg.off / 0x10000 = 0x11 then placeOwn g p f k && placeOwn g p t k
    else if row.reg.off / 0x4000 = 0x10C000 / 0x4000 then k = p
    else row.reg.off / 0x4000 = 0x108000 / 0x4000 && ((g.streamOf p).map fun r => decide (r.id = k)).getD false
  | .sts, some (_, ix) => ix.headD 8 = p
  | .cap, some (_, ix) => ix.headD 8 = p
  | .recorder, some (row, ix) => row.reg = R.REC_P_BUF && ix.headD 8 = p
  | .outf, some (_, ix) => ix.headD 64 / 8 = p
  | .vce, some (row, ix) => row.reg.dims.head? = some (2, 0x1000) && (g.branchesOf p).any fun b => b.kind = 2 && b.inst = ix.headD 2
  | _, _ => false

/-- The PRESET records one after another; the file that they leave. -/
def presetRules (i : Image) (g : Graph) : RegFile → List RawRec → RegFile × Option Bad
  | f, [] => (f, none)
  | f, r :: t =>
    let f' := presetOne g f (r.u 4 4, r.u 8 4, r.u 12 4)
    if presetRule i g f r && (i.full || presetOwn g i.pipe (r.u 4 4) f f') then presetRules i g f' t
    else (f, some ⟨0x12, 5, r.off⟩)

/-- Pairs and registers whose fields are judged together (R444, R579). -/
def wideOk (f : RegFile) : Bool :=
  ((List.range 4).all fun n =>
    let v := f.rd R.TIME_TB_INC_LO [n] + 2 ^ 32 * f.rd R.TIME_TB_INC_HI [n]
    0x1FF7CED91 ≤ v && v ≤ 0x20083126F) &&
  f.get Fl.CPR_DUSK_CFG_vcrit_mv [] + 30 ≤ f.get Fl.CPR_DUSK_CFG_vwarn_mv []

/-- Does a WRITE record of the image cover a bit of the field. -/
def presetHits (i : Image) (g : Graph) (d : Fld × List Nat) : Bool :=
  i.presets.any fun r => (d.1.mask &&& r.u 8 4 ≠ 0) &&
    match findReg (r.u 4 4) with
    | some (row, ix0) => decide (row.reg = d.1.reg) && decide (((presetAt g (r.u 4 4)).map (·.2)).getD ix0 = d.2)
    | none => false

/-- Rules of PRESET. A full image's combinations that its records write (R95) are judged on what the records leave; a patch's
at the commit (R9). -/
def presetCheck (i : Image) (g : Graph) (f : RegFile) : Option Bad :=
  let r := presetRules i g f i.presets
  let at_ := ((i.presets.getLast?).map fun x => x.off).getD 256
  firstBad [r.2, need (!i.full || (wideOk r.1 && (combosOf g).all fun c =>
    (c r.1).ok || !((c r.1).flds.any (presetHits i g)))) 0x12 5 at_]

/-! ### LUTS (R97 to R99) -/




/-- A blob as it is applied: a broadcast one names its pipeline. -/
def Blob.data (x : Blob) : BlobData := ⟨x.target, if bit x.flags 1 then x.pipe else 0xFF, x.off, x.bytes.getD []⟩

def blobRule (i : Image) (g : Graph) (x : Blob) : Bool :=
  x.clean && match x.bytes with
  | none => false
  | some b =>
    b.length = x.len && crc32c b = x.crc &&
    (if x.target = 0xFFFF then
      !bit x.flags 1 && g.parts.any fun q => (i.full || q.owner = i.pipe) && q.owner ≠ 0xFF && q.base ≤ x.off && x.off + b.length ≤ q.base + q.size
    else
      x.off + b.length ≤ lutSize x.target && lutSize x.target ≠ 0 && (!bit x.flags 1 || (x.target < 0x80 && x.pipe < 8)) &&
        (i.full || x.target < 0x70 || 0x80 ≤ x.target ||
          (if bit x.flags 1 then x.pipe = i.pipe else ((g.tilePipe 3 (x.target - 0x70)).map fun p => decide (p = i.pipe)).getD true)))

def lutRules (i : Image) (g : Graph) : Option Bad := firstBad (i.blobs.map fun x => need (blobRule i g x) 0x13 6 x.at_)

/-! ### The whole check (R104) -/

namespace State

/-- The structure that an image leaves: its own for a full image, merged for a patch (R111). -/
def imgGraph (s : State) (i : Image) : Graph :=
  if i.full then i.graph
  else
    let now := s.newestGraph
    mergePipe now { i.graph with parts := (patchParts now.parts (i.mem.map RawRec.part)).filter fun q => q.owner = i.pipe } i.pipe

/-- The rules of the sections, in type order (R104 step 6). TOPOLOGY is judged on the values that PRESET gives, and on reset values
where it gives none (R83 rule 9, R193). -/
def imgRules (s : State) (b : Bytes) (failed : List Nat) : Option Bad :=
  let i := Image.of b
  let g := s.imgGraph i
  let regs := i.writes.foldl (presetOne g) []
  if i.full then
    firstBad [s.topoFull i regs, memRules i g.parts,
      need (failedOk g.parts failed) 0x0F 2 (((i.mem.head?).map fun r => r.off).getD 256),
      clkRules i, portRules i, presetCheck i g [], lutRules i g]
  else firstBad [s.topoPatch i g regs, s.memPatch i, presetCheck i g s.regs, lutRules i g]

/-- Steps 1 to 5: authentication (R104). -/
def imgAuth (s : State) (b : Bytes) (want limit : Nat) : Option Bad :=
  match imgHeader b want limit with
  | some x => some x
  | none => match s.imgTarget b with
    | some x => some x
    | none => match imgDirectory b with
      | some x => some x
      | none => match imgCrcs b with
        | some x => some x
        | none => s.imgSigned b

/-- The whole check, stopping at the first failure (R104). -/
def imgCheck (s : State) (b : Bytes) (want limit : Nat) (failed : List Nat) : Option Bad :=
  match s.imgAuth b want limit with
  | some x => some x
  | none => match imgFraming b with
    | some x => some x
    | none => s.imgRules b failed

/-- The patch that an image of kind 2 stages (R113). -/
def patchOf (s : State) (b : Bytes) : Patch :=
  let i := Image.of b
  let g := s.imgGraph i
  let plan := (s.patchPlan i).getD ([], [], [], false)
  ⟨i.pipe, g, i.writes, i.blobs.map Blob.data, plan.1, plan.2.1, plan.2.2.1, plan.2.2.2⟩

/-- The image of the staging window: DRV_LEN bytes. With DRV_LEN below 256 the header bytes that it does not hold read 0, so that the
first header check that this breaks reports its code (DESIGN CHOICE, log 99). -/
def stagedImage (s : State) : Bytes := s.hbmRead State.reservedLo (s.get Fl.DRV_LEN_length)

end State

end Sys2Proof.Machine
end

