-- ==== Sys2Proof/Machine/Drv.lean ====
section
/-! DEFINITION. The DRV operations (R101 to R105, R108 to R116). -/

namespace Sys2Proof.Machine

/-- The result of an operation's checks: code, section, offset (R104). -/
abbrev DrvCode := Nat × Nat × Nat

def drvOk : DrvCode := (0, 0, 0)

def drvBad : Option Bad → DrvCode
  | some x => (x.code, x.sec, x.off)
  | none => drvOk

namespace State

/-- DRV_KEYS, DRV_FLOOR and DRV_STAT.fail_count show what fuses and MRAM hold. -/
def nvShow (s : State) : State :=
  let s := (s.put Fl.DRV_KEYS_fused [] (s.nv.fused ||| 1)).put Fl.DRV_KEYS_revoked [] s.nv.revoked
  (s.put Fl.DRV_FLOOR_floor [] s.nv.floor).put Fl.DRV_STAT_fail_count [] (min 15 s.nv.fails)

def dusk (s : State) : Bool := s.flag Fl.CPR_DUSK_STAT_warn

/-- The ROM minimal image runs (R109). -/
def romRuns (s : State) : Bool := s.flag Fl.DEV_STATUS_safe

/-- A dawn waits for a load operation (R105). -/
def loadWaits (s : State) : Bool :=
  !s.flag Fl.DEV_STATUS_ready && s.cpr.step = 5 && !s.cpr.halted && !s.cpr.loadGo && !s.cpr.rom
    && (s.cpr.source = 3 || s.cpr.source = 4)

/-- Start operation `op` from a write of `v` to DRV_CTRL: the write's fields land, and unless another runs the operation starts
with the result of its checks (R116). -/
def drvStart (s : State) (op v : Nat) (chk : State → DrvCode) (f : State → State) : State :=
  let s := s.writeFields ⟨R.DRV_CTRL, [Fl.DRV_CTRL_arg, Fl.DRV_CTRL_op]⟩ [] v
  if bit v 0 && !s.flag Fl.DRV_STAT_busy && s.get Fl.DRV_CTRL_op = op then
    let c := chk s
    let s : State := { s with drv := { s.drv with run := some (op, c.1, c.2.1, c.2.2), patch := none, hdr := [] } }
    let s := (s.put Fl.DRV_STAT_busy [] 1).put Fl.DRV_CTRL_go [] 1
    if c.1 = 0 then f s else s
  else s

/-! ### Checks -/

/-- The channels whose training failed at dawn: only they decide MEMPLAN (R104, R407). -/
def untrained (s : State) : List Nat := s.hbmc.down.filter fun n => s.get Fl.HBMC_CH_FRZ_CAUSE_cause [n] = 3

def chkValidate (s : State) : DrvCode := drvBad (s.imgCheck s.stagedImage 0 (s.get Fl.DRV_LEN_length) s.untrained)

def chkStage (s : State) : DrvCode := drvBad (s.imgCheck s.stagedImage 2 (s.get Fl.DRV_LEN_length) [])

/-- A slot write is authenticated first; below VWARN no MRAM write starts (R110, R581). -/
def chkSlot (s : State) : DrvCode :=
  let c := drvBad (s.imgCheck s.stagedImage 1 (s.get Fl.DRV_LEN_length) s.untrained)
  if c.1 = 0 && s.dusk then (0x17, 0, 0) else c

/-- Operations that the ROM minimal image does not accept, and that write MRAM (R109, R581; log 29). -/
def chkSetting (s : State) (mram : Bool) : DrvCode :=
  if s.romRuns then (0x16, 0, 0) else if mram && s.dusk then (0x17, 0, 0) else drvOk

/-- A full image is loaded only by a dawn that waits for one or in the ROM minimal image (R105, R109, R115). -/
def chkLoad (s : State) : DrvCode :=
  if s.romRuns || s.loadWaits then drvBad (s.imgCheck s.stagedImage 1 (s.get Fl.DRV_LEN_length) s.untrained) else (0x16, 0, 0)

/-- The slot that a fuse operation takes: the lowest of 1 to 3 neither fused nor revoked (R101). -/
def fuseSlot (s : State) : Option Nat := [1, 2, 3].find? fun k => !bit s.nv.fused k && !bit s.nv.revoked k

def chkFuse (s : State) : DrvCode :=
  if s.get Fl.DEV_STRAP_bootsel ≠ 4 then (0x16, 0, 0) else if s.fuseSlot.isNone then (0x18, 0, 0) else drvOk

/-- A revocation must leave a fused slot unrevoked, unless it changes no fused key (R102). -/
def chkRevoke (s : State) : DrvCode :=
  let k := s.get Fl.DRV_CTRL_arg
  let fused := s.nv.fused ||| 1
  if !bit fused k || bit s.nv.revoked k then drvOk
  else if (List.range 4).any fun j => j ≠ k && bit fused j && !bit s.nv.revoked j then drvOk else (0x19, 0, 0)

/-! ### Effects -/

/-- A load operation starts the rest of the dawn from the image checks on, and the watchdog with it (R105, R107, R576); from the ROM
minimal image the dawn of the full image begins there too (R109, log 40). -/
def loadStart (s : State) : State :=
  let s : State := { s with cpr := { s.cpr with
    loadGo := true, armed := some s.time.clk, dawnAt := s.time.clk, step := 5, rom := false, safe := false, fallback := 0
    source := if s.get Fl.DEV_STRAP_bootsel = 4 then 4 else 3 } }
  ((s.put Fl.DEV_STATUS_ready [] 0).put Fl.DEV_STATUS_safe [] 0).put Fl.CPR_DAWN_step [] 5

def slotBase (op : Nat) : Nat := if op = 2 then 0 else 0x1000000

/-- The body of the slot is written first, and the old header is erased before it, so that a write that stops leaves a slot that fails
its checks (R110; log 108). -/
def slotBody (s : State) (op : Nat) : State :=
  let b := s.stagedImage.take (imgTotal s.stagedImage)
  let s := s.mramWrite (slotBase op) (List.replicate 256 0)
  let s := s.mramWrite (slotBase op + 256) (b.drop 256)
  { s with drv := { s.drv with hdr := b.take 256 } }

/-- What a successful operation leaves (R101 to R103, R108, R110, R113). -/
def drvEffect (s : State) (op : Nat) : State :=
  match op with
  | 1 => match s.drv.patch with
    | some x =>
      let s : State := { s with drv := { s.drv with staged := (s.drv.staged.filter fun y => y.pipe ≠ x.pipe) ++ [x] } }
      s.put Fl.DRV_STAT_staged [] (s.get Fl.DRV_STAT_staged ||| 2 ^ x.pipe)
    | none => s
  | 2 => ({ (s.mramWrite 0 s.drv.hdr) with nv := { s.nv with fails := 0 } }).nvShow
  | 3 => s.mramWrite 0x1000000 s.drv.hdr
  | 4 => ({ s with nv := { s.nv with fails := 0 } }).nvShow
  | 5 => ({ s with drv := { s.drv with staged := [] } }).put Fl.DRV_STAT_staged [] 0
  | 6 => ({ s with nv := { s.nv with floor := max s.nv.floor (s.rd R.DRV_IMG_VER) } }).nvShow
  | 7 => s.loadStart
  | 8 => match s.fuseSlot with
    | some k =>
      let h := s.hbmRead reservedLo 48
      ({ s with nv := { s.nv with fused := s.nv.fused ||| 2 ^ k, keys := s.nv.keys ++ [(k, h)] } }).nvShow
    | none => s
  | 9 => ({ s with nv := { s.nv with revoked := s.nv.revoked ||| 2 ^ s.get Fl.DRV_CTRL_arg } }).nvShow
  | _ => s

/-- DRV_ERR and DRV_ERR_OFF report a failed check (R104); nothing else writes them. -/
def drvErr (s : State) (c : DrvCode) : State :=
  ((s.put Fl.DRV_ERR_code [] c.1).put Fl.DRV_ERR_section [] c.2.1).wr R.DRV_ERR_OFF [] c.2.2

/-- An operation ends: its effect, done or error, and its record (R116). -/
def drvEnd (s : State) : State :=
  match s.drv.run with
  | none => s
  | some (op, code, sec, off) =>
    let s := if code = 0 then
        let s := (s.drvEffect op).put Fl.DRV_STAT_done [] 1
        s.ev 0x0040 srcDRV 0 op
      else
        let s := (s.put Fl.DRV_STAT_error [] 1).drvErr (code, sec, off)
        let s : State := if op = 7 && s.loadWaits then { s with cpr := { s.cpr with rom := true } } else s
        s.ev 0x0041 srcDRV 0 (code + 256 * (sec % 256) + 2 ^ 32 * off)
    let s : State := { s with drv := { s.drv with run := none, patch := none, hdr := [] } }
    (s.put Fl.DRV_STAT_busy [] 0).put Fl.DRV_CTRL_go [] 0

/-- A slot write that runs at VWARN stops with DUSK before its header (R110). -/
def drvDusk (s : State) : State :=
  match s.drv.run with
  | some (op, 0, _, _) => if op = 2 || op = 3 then { s with drv := { s.drv with run := some (op, 0x17, 0, 0) } } else s
  | _ => s

/-- The image of a load operation is the one that the dawn loads (R105). -/
def loadImage (s : State) : State :=
  { s with drv := { s.drv with image := s.stagedImage.take (imgTotal s.stagedImage) } }

def drvLoad (s : State) (v : Nat) : State := s.drvStart 7 v chkLoad loadImage

end State

/-- A DRV command on the unit's power domain (R30). -/
def drvRow (f : State → State) (s : State) : Res := .next (s.onUnit .drv f)

def execDrvValidate (v : Nat) (s : State) : Res := drvRow (fun s => s.drvStart 0 v State.chkValidate id) s

def execDrvStagePatch (v : Nat) (s : State) : Res :=
  drvRow (fun s => s.drvStart 1 v State.chkStage fun t => { t with drv := { t.drv with patch := some (t.patchOf t.stagedImage) } }) s

def execDrvWriteSlotA (v : Nat) (s : State) : Res := drvRow (fun s => s.drvStart 2 v State.chkSlot fun t => t.slotBody 2) s

def execDrvWriteSlotB (v : Nat) (s : State) : Res := drvRow (fun s => s.drvStart 3 v State.chkSlot fun t => t.slotBody 3) s

def execDrvClearFailedDawn (v : Nat) (s : State) : Res := drvRow (fun s => s.drvStart 4 v (fun t => t.chkSetting true) id) s

def execDrvDiscardPatches (v : Nat) (s : State) : Res := drvRow (fun s => s.drvStart 5 v (fun t => t.chkSetting false) id) s

def execDrvRaiseFloor (v : Nat) (s : State) : Res := drvRow (fun s => s.drvStart 6 v (fun t => t.chkSetting true) id) s

def execDrvLoadFullImage (v : Nat) (s : State) : Res := drvRow (fun s => s.drvLoad v) s

def execDrvFuseKey (v : Nat) (s : State) : Res := drvRow (fun s => s.drvStart 8 v State.chkFuse id) s

def execDrvRevokeKey (v : Nat) (s : State) : Res := drvRow (fun s => s.drvStart 9 v State.chkRevoke id) s

/-- DRV_OPERATION_END (R116). -/
def execDrvOperationEnd (s : State) : Res := .next s.drvEnd

end Sys2Proof.Machine
end

