-- ==== Sys2Proof/Machine/Baro.lean ====
section
/-! DEFINITION. Barometer (R545 to R549, R518, R589). -/

namespace Sys2Proof.Machine

/-- The clock domain whose cap serves a power domain (R546, R563). -/
def capClock (d : Nat) : Nat :=
  if d = 0 then 0 else if d = 1 then 1 else if d = 2 || d = 23 then 2 else if d = 3 || d = 4 then 9 else if d ≤ 13 then 3
  else if d = 14 then 4 else if d = 15 then 13 else if d = 16 then 5 else if d ≤ 19 then 10 else if d = 20 then 11
  else if d = 21 then 15 else 16

/-- The least offset from 0 to 12 steps of 5 mV that meets the guard, if any (R546). -/
def leastOffset (ahead : Int) (slope guard : Nat) : Option Nat :=
  (List.range 13).find? fun k => decide ((guard : Int) ≤ ahead + slope * (5 * k))

/-- Nominal voltage of a rail in mV (R588). -/
def railNominal (r : Nat) : Nat := if r = 5 then 800 else 750

/-- The rail table of the registers: BARO_Dd.rail, LSP_PMB_RAILr (R518). -/
def State.railRegs (s : State) : List Nat × List Nat :=
  ((List.range 24).map fun d => s.get Fl.BARO_D_rail [d], (List.range 6).map fun r => s.rd R.LSP_PMB_RAIL [r])

namespace State

/-- The rail of a domain in the stored copy, if it names a regulator (R518, R589). -/
def railOf (s : State) (d : Nat) : Option Nat :=
  s.nv.rails.bind fun t =>
    let r := t.1.getD d 31
    if r ≤ 5 && bit (t.2.getD r 0) 31 then some r else none

/-- Domains on a rail. -/
def railDomains (s : State) (r : Nat) : List Nat := (List.range 24).filter fun d => s.railOf d = some r

/-- A rail takes the largest offset planned for its domains (R547). -/
def railTarget (s : State) (r : Nat) : Nat := ((s.railDomains r).map fun d => s.baro.target.getD d 0).foldl max 0

/-- The offset in effect on a rail. -/
def railNow (s : State) (r : Nat) : Nat := ((s.railDomains r).map fun d => s.get Fl.BARO_D_offset [d]).foldl max 0

/-- Send nominal + offset as VOUT_COMMAND (code 0x21) to the rail's regulator; the value is shown in mV, the regulator's
VOUT_MODE format being its own (R547, log 30). -/
def railSend (s : State) (r k : Nat) : State :=
  let w := ((s.nv.rails.map (·.2)).getD []).getD r 0
  let s := (s.railDomains r).foldl (fun (t : State) d => t.put Fl.BARO_D_offset [d] k) s
  s.emit (.port 6 r (leBytes 1 (bits w 22 16) ++ leBytes 1 (bits w 15 8) ++ leBytes 1 0x21 ++ leBytes 2 (railNominal r + 5 * k)))

/-- The offsets that a dawn plans are sent at once, through the stored copy (R518, R547). -/
def railsSendAll (s : State) : State :=
  (List.range 6).foldl (fun (t : State) r => if (t.railDomains r).isEmpty then t else t.railSend r (t.railTarget r)) s

/-- The rail table is copied to MRAM persistent settings, unless dusk forbids MRAM writes (R518, R581). -/
def railsStore (s : State) : State :=
  if s.dusk then s else { s with nv := { s.nv with rails := some s.railRegs } }

/-- HBM margin scan interval in minutes: 24 h from 8 taps on, in proportion below, at least 1 h (R546). -/
def scanMinutes (taps : Nat) : Nat := max 60 (min 1440 (180 * taps))

/-- The ageing log record (R549). -/
def logRecord (s : State) (cause : Nat) (m : BaroMeas) (predict : Nat) : Bytes :=
  let b := [0x42, 0x41, 0x52, 0x4F] ++ leBytes 4 s.nv.logWr ++ leBytes 8 s.nv.secs ++ leBytes 1 cause ++ leBytes 3 0
    ++ leBytes 4 predict ++ (List.range 24).flatMap (fun d => leBytes 1 (s.baro.target.getD d 0))
    ++ (List.range 24).flatMap (fun d => leBytes 2 (unsigned 16 (m.slack.getD d 0)))
    ++ (List.range 18).flatMap (fun c => leBytes 1 (s.get Fl.BARO_CAP_planned [c]))
    ++ leBytes 2 (scanMinutes m.taps) ++ leBytes 1 m.taps ++ leBytes 1 m.mram ++ leBytes 2 m.eye
    ++ (List.range 16).flatMap (fun k => leBytes 4 (m.bands.getD k 0)) ++ List.replicate 68 0
  b ++ leBytes 4 (crc32c b)

/-- Append it, unless dusk forbids MRAM writes (R549, R581). -/
def logAppend (s : State) (b : Bytes) : State :=
  if s.dusk then s
  else
    let s := s.mramWrite (0x2800000 + s.nv.logWr % 16384 * 256) b
    let s : State := { s with nv := { s.nv with logWr := s.nv.logWr + 1 } }
    s.wr R.BARO_LOG_WR [] ((s.nv.logWr) % 2 ^ 32)

/-- The plan of one domain (R546, R589): its offset, and whether the guard needs a cap. Before any rail table is stored every
domain is planned as served (R518). -/
def domainPlan (s : State) (m : BaroMeas) (d : Nat) : Nat × Bool :=
  let served : Bool := s.nv.rails.isNone || (s.railOf d).isSome
  let guard := s.get Fl.BARO_CFG_guard_ps
  if served then
    match leastOffset (m.ahead.getD d guard) (m.slope.getD d 0) guard with
    | some k => (k, false)
    | none => (12, true)
  else (0, decide (m.ahead.getD d guard < (guard : Int)))

/-- Plan offsets, caps, scan interval and prediction (R546 to R548); `cause` is 0 at dawn. -/
def planRun (s : State) (cause : Nat) (m : BaroMeas) : State :=
  let s := if cause = 0 then s else s.railsStore
  let plans := (List.range 24).map fun d => s.domainPlan m d
  let s : State := { s with baro := { plan := none, target := plans.map (·.1), planned := s.time.clk } }
  let s := (List.range 24).foldl (fun (t : State) d => t.put Fl.BARO_D_slack [d] (unsigned 16 (m.slack.getD d 0))) s
  let capOf (c : Nat) : Nat :=
    if (List.range 24).any fun d => capClock d = c && (plans.getD d (0, false)).2 then min 100 (m.caps.getD c 100) else 100
  let s := (List.range 18).foldl (fun (t : State) c =>
    let v := capOf (if 5 ≤ c && c ≤ 8 then 5 else c)
    let t := t.put Fl.BARO_CAP_planned [c] v
    if cause = 0 then t.put Fl.BARO_CAP_effect [c] v else t) s
  let s := (List.range 24).foldl (fun (t : State) d =>
    if (plans.getD d (0, false)).2 then
      (t.put Fl.BARO_STAT_margin [] 1).ev 0x4130 srcBARO d (capOf (capClock d))
    else t) s
  let s := if cause = 0 && s.nv.rails.isSome then s.railsSendAll else s
  let lower : Bool := (List.range 6).any fun r => s.railTarget r < s.railNow r
  let caps : Bool := (List.range 18).any fun c => s.get Fl.BARO_CAP_planned [c] ≠ s.get Fl.BARO_CAP_effect [c]
  let s := s.put Fl.BARO_STAT_pending_dawn [] (b2n (cause ≠ 0 && (lower || caps)))
  let s := s.wr R.BARO_HBM [] (scanMinutes m.taps + 65536 * (m.taps % 256))
  let s := s.wr R.BARO_MRAM [] (m.mram % 256)
  let s := s.wr R.BARO_EYE [] (m.eye % 65536 + 65536 * (m.lane % 256) + 2 ^ 24 * (m.cls % 256))
  let predict := min m.predict 0xFFFFFFFF
  let s := s.wr R.BARO_PREDICT [] predict
  let s := if predict ≠ 0xFFFFFFFF && predict < s.get Fl.BARO_CFG_warn_days * 24 then
      (s.put Fl.BARO_STAT_eol [] 1).ev 0x4131 srcBARO 0 predict else s
  let s := s.logAppend (s.logRecord cause m predict)
  let s := (s.inc Fl.BARO_STAT_plans).wr R.BARO_NEXT [] 1440
  let s := (s.put Fl.BARO_STAT_busy [] 0).put Fl.BARO_CTRL_go [] 0
  s.ev 0x0130 srcBARO 0 (cause + 2 ^ 32 * predict)

/-- A plan starts, unless one runs (R546). -/
def planStart (s : State) (cause : Nat) : State :=
  if s.baro.plan.isSome then s
  else ({ s with baro := { s.baro with plan := some cause } }).put Fl.BARO_STAT_busy [] 1

/-- A write to BARO_CTRL with go = 1 (R546). -/
def baroCtrl (s : State) (v : Nat) : State :=
  let s := s.writeFields ⟨R.BARO_CTRL, [Fl.BARO_CTRL_auto]⟩ [] v
  if bit v 0 && s.baro.plan.isNone then (s.planStart 2).put Fl.BARO_CTRL_go [] 1 else s

/-- While running a rail's offset only rises, a step at a time (R547). -/
def railStep (s : State) (r : Nat) : State :=
  if r < 6 && s.railNow r < s.railTarget r then s.railSend r (s.railNow r + 1) else s

end State

/-- BARO_PLAN_COMMAND (R546). -/
def execBaroPlanCommand (v : Nat) (s : State) : Res := .next (s.onUnit .baro fun t => t.baroCtrl v)

/-- BARO_PERIODIC_PLAN (R546): 24 h of powered time after the previous plan, the next starts; the clock moves on to it (log 35). -/
def execBaroPeriodicPlan (s : State) : Res :=
  .next (if s.flag Fl.BARO_CTRL_auto then (s.reachClk (s.baro.planned + 86400 * second)).planStart 1 else s)

/-- EV_BARO_PLAN (R546 to R549). -/
def execEvBaroPlan (m : BaroMeas) (s : State) : Res :=
  .next (match s.baro.plan with
    | some c => s.planRun c m
    | none => s)

/-- RAIL_OFFSET_STEP (R547). -/
def execRailOffsetStep (r : Nat) (ok : Bool) (s : State) : Res := .next (if ok then s.railStep r else s)

end Sys2Proof.Machine
end

