-- ==== Sys2Proof/Machine/Box.lean ====
section
/-! DEFINITION. The Trail's own drains: freed space, syslog messages, the black box (R552 to R561). -/

namespace Sys2Proof.Machine

/-! ### Text (R558) -/

/-- `n` decimal digits of a value. -/
def decPad : Nat → Nat → Bytes
  | 0, _ => []
  | n + 1, v => decPad n (v / 10) ++ [BitVec.ofNat 8 (48 + v % 10)]

/-- How many decimal digits a value needs, by trying at most `n`. -/
def decDigits : Nat → Nat → Nat
  | 0, _ => 1
  | n + 1, v => if v < 10 then 1 else 1 + decDigits n (v / 10)

def decText (v : Nat) : Bytes := decPad (decDigits 20 v) v

/-- Year, month and day of a day count from 1970-01-01 (the Gregorian calendar). -/
def civilDate (days : Nat) : Nat × Nat × Nat :=
  let z := days + 719468
  let era := z / 146097
  let doe := z % 146097
  let yoe := (doe + doe / 36524 - doe / 1460 - doe / 146096) / 365
  let doy := doe - (365 * yoe + yoe / 4 - yoe / 100)
  let mp := (5 * doy + 2) / 153
  let m := if mp < 10 then mp + 3 else mp - 9
  (yoe + era * 400 + (if m ≤ 2 then 1 else 0), m, doy - (153 * mp + 2) / 5 + 1)

/-- An RFC 3339 time stamp with microseconds, as RFC 5424 uses it. -/
def timeStamp (ns : Nat) : Bytes :=
  let sec := ns / 1000000000
  let d := civilDate (sec / 86400)
  let t := sec % 86400
  decPad 4 d.1 ++ textBytes "-" ++ decPad 2 d.2.1 ++ textBytes "-" ++ decPad 2 d.2.2 ++ textBytes "T" ++ decPad 2 (t / 3600)
    ++ textBytes ":" ++ decPad 2 (t / 60 % 60) ++ textBytes ":" ++ decPad 2 (t % 60) ++ textBytes "." ++ decPad 6 (ns / 1000 % 1000000)
    ++ textBytes "Z"

namespace State

/-- The syslog message of a record (R558). -/
def syslogText (s : State) (r : Rec) : Bytes :=
  let sev := match r.cls with | .alarm => 2 | .trace => 7 | _ => 5
  let utc : Bool := s.get Fl.TIME_DT_STAT_active ≤ 1
  let off := s.rd R.TRL_SYSLOG_UTCOFF * 1000000000
  textBytes "<" ++ decText (128 + sev) ++ textBytes ">1 " ++ (if utc then timeStamp (r.time - off) else textBytes "-") ++ textBytes " MB9X-"
    ++ hexPad 16 (s.rd64 R.DEV_SERIAL_LO R.DEV_SERIAL_HI) ++ textBytes " immaot9x - T" ++ hexPad 4 r.typ ++ textBytes " - src=0x"
    ++ hexPad 2 r.src ++ textBytes " i=" ++ decText r.inst ++ textBytes " e=" ++ decText r.epoch ++ textBytes " f=0x" ++ hexPad 16 r.fid
    ++ textBytes " dt=" ++ decText r.time ++ textBytes " p=0x" ++ hexPad 16 r.payload

/-- How syslog is addressed (R558, R351). -/
def syslogDst (s : State) : NetDst :=
  let v6 : Bool := s.flag Fl.TRL_SYSLOG_CTRL_ipv6
  ⟨s.get Fl.TRL_SYSLOG_CTRL_port, s.rd64 R.TRL_SYSLOG_DMAC_LO R.TRL_SYSLOG_DMAC_HI, v6, netAddr s R.TRL_SYSLOG_SIP [] v6,
    netAddr s R.TRL_SYSLOG_DIP [] v6, s.rd R.TRL_SYSLOG_PORTS / 65536, s.rd R.TRL_SYSLOG_PORTS % 65536, 0,
    s.get Fl.TRL_SYSLOG_CTRL_hop, none⟩

/-- The least time between two drained records in ns: TRL_SYSLOG_CTRL.rate messages (R558), or 100,000 records (R559), per second. -/
def drainGap (s : State) (d : Nat) : Nat := if d = 17 then 1000000000 / max 1 (s.get Fl.TRL_SYSLOG_CTRL_rate) else 10000

/-- Drain the oldest staged record of syslog or of the black box (R558, R559); the clock moves on to where the rate admits it (log 35). -/
def drainOne (s : State) (d : Nat) : State :=
  match (s.dest d).staged with
  | [] => s
  | r :: t =>
    let s := s.reachClk ((s.dest d).drained + s.drainGap d)
    let s := s.modDest d fun x => { x with
      staged := t
      drained := s.time.clk
      lowSince := if t.length + 1 = 256 then s.time.clk else x.lowSince }
    if d = 17 then s.ethSend (s.get Fl.TRL_SYSLOG_CTRL_port) (udpFrame s.syslogDst (s.syslogText r))
    else if s.bbSealed then s else s.bbPut r

/-- A destination frees space: it drains one staged record, then writes what it holds (R556). -/
def spaceFreed (s : State) (d : Nat) : State := (if d = 17 || d = 18 then s.drainOne d else s).flushAll d

/-- N halves after each 10 ms in which the queue stays below a quarter (R555, log 35). -/
def traceRelax (s : State) (d : Nat) : State :=
  if (s.dest d).staged.length < 256 then
    let s := s.reachClk ((s.dest d).lowSince + 10000000)
    let s := s.modDest d fun x => { x with log2N := x.log2N - 1, lowSince := s.time.clk }
    ((s.put Fl.TRL_TRACE_N_ring [] (s.dest 16).log2N).put Fl.TRL_TRACE_N_syslog [] (s.dest 17).log2N).squallSync d
  else s

/-! ### The black box (R559 to R561) -/

/-- Show TRL_BB_STAT from MRAM. -/
def bbShow (s : State) : State :=
  let x := s.nv.bb
  let s := ((s.put Fl.TRL_BB_STAT_other_sealed [] x.1).put Fl.TRL_BB_STAT_half [] x.2.1).put Fl.TRL_BB_STAT_cause [] x.2.2
  s.put Fl.TRL_BB_STAT_records [] (min (fieldLe (s.mram.read (bbBase x.2.1) 12) 8 4) 130944)

/-- Seal the active half: the queued records, then the header with state 1 (R560); cause 1 dusk, 2 command, 3 watchdog. -/
def bbSeal (s : State) (cause : Nat) : State :=
  if s.bbSealed then s
  else
    let s := (s.dest 18).staged.foldl (fun (t : State) r => t.bbPut r) s
    let s := s.modDest 18 fun x => { x with staged := [] }
    let h := s.get Fl.TRL_BB_STAT_half
    let old := s.mram.read (bbBase h) 12
    let s := s.bbHeader h ([0x49, 0x4D, 0x42, 0x42] ++ (old.drop 4).take 8 ++ leBytes 1 1 ++ leBytes 1 cause ++ leBytes 2 0
      ++ leBytes 8 s.dt ++ leBytes 8 s.nv.secs)
    let s : State := { s with nv := { s.nv with bb := (s.nv.bb.1, h, cause) } }
    s.bbShow

/-- At dawn a sealed half is left for the other, which is erased first; a half without a header gets one (R559, R560). -/
def bbDawn (s : State) : State :=
  let h := s.nv.bb.2.1
  let sealed_ : Bool := s.mram.get (bbBase h + 12) = 1
  let n := if sealed_ then 1 - h else h
  let fresh_ : Bool := sealed_ || s.mram.read (bbBase h) 4 ≠ [0x49, 0x4D, 0x42, 0x42]
  let s : State := { s with nv := { s.nv with bb := (b2n (sealed_ || s.nv.bb.1 = 1), n, s.nv.bb.2.2) } }
  let s := if fresh_ then
      let s : State := { s with mram := s.mram.zero (bbBase n) 0x400000 }
      s.bbHeader n ([0x49, 0x4D, 0x42, 0x42] ++ leBytes 4 (s.get Fl.CPR_RESET_CAUSE_dawns))
    else s
  s.bbShow

end State

/-- TRAIL_SPACE_FREED (R553, R554, R556, R558). -/
def execTrailSpaceFreed (d : Nat) (s : State) : Res := .next (if d < 19 then s.spaceFreed d else s)

/-- TRACE_SAMPLING_RELAX (R555). -/
def execTraceSamplingRelax (d : Nat) (s : State) : Res := .next (if d = 16 || d = 17 then s.traceRelax d else s)

/-- BB_SEAL (R560): a write of 1 to TRL_BB_CTRL.seal; below VWARN no MRAM write starts. -/
def execBbSeal (s : State) : Res := .next (s.onUnit .trl fun t => if t.dusk then t else t.bbSeal 2)

end Sys2Proof.Machine
end

