-- ==== Sys2Proof/Machine/Bulk.lean ====
section
/-! DEFINITION. The bulk port (R53 to R57). -/

namespace Sys2Proof.Machine

namespace State

def bulkActive (s : State) : Bool := s.flag Fl.BULK_STAT_active

/-- Address of the byte at the session's place (R54). -/
def bulkAddr (b : Bulk) : Nat :=
  match b.mode with
  | 0 => b.addr + b.row * b.width + b.col
  | 1 => b.addr + b.row * b.stride + b.col
  | _ => b.addr

/-- The place moves past one byte; after the last the session ends (R54). -/
def bulkStep (s : State) : State :=
  let b := if s.bulk.col + 1 < s.bulk.width then { s.bulk with col := s.bulk.col + 1 }
    else { s.bulk with row := s.bulk.row + 1, col := 0 }
  let s : State := { s with bulk := b }
  let s := s.wr64 R.BULK_CUR_LO R.BULK_CUR_HI [] (bulkAddr b)
  if b.rows ≤ b.row then (s.put Fl.BULK_STAT_active [] 0).put Fl.BULK_CTRL_arm [] 0 else s

/-- The setup rules of R54. -/
def bulkSetupOk (s : State) : Bool :=
  let w := s.get Fl.BULK_WIDTH_width
  w % 4 = 0 && w ≠ 0 && s.get Fl.BULK_ROWS_rows ≠ 0
    && (s.get Fl.BULK_CTRL_mode ≠ 1 || w ≤ s.rd R.BULK_STRIDE)

/-- Start a session from the current setup, or refuse it (R54). -/
def bulkStart (s : State) : State :=
  if s.bulkActive then s
  else if ¬s.bulkSetupOk then s.put Fl.BULK_STAT_setup [] 1
  else
    let a := s.rd64 R.BULK_ADDR_LO R.BULK_ADDR_HI
    let s : State := { s with bulk := ⟨s.get Fl.BULK_CTRL_target, s.get Fl.BULK_CTRL_mode, s.flag Fl.BULK_CTRL_dir, a,
      s.get Fl.BULK_WIDTH_width, s.rd R.BULK_STRIDE, s.get Fl.BULK_ROWS_rows, 0, 0⟩ }
    ((s.wr64 R.BULK_CUR_LO R.BULK_CUR_HI [] a).put Fl.BULK_STAT_active [] 1).put Fl.BULK_CTRL_arm [] 1

/-- MRAM regions that accept bulk writes (R53). -/
def mramWritable (a : Nat) : Bool := (0x2000000 ≤ a && a < 0x2800000) || (0x3400000 ≤ a && a < 0x3600000)

/-- Write one byte to the session's target, or refuse it with its status bit (R53, R57, R87, R146, R388). Whether BULK_BYTES counts a
byte for the LUT space of an unassigned tile, which R191 discards, is open: it is counted (DESIGN CHOICE, log 89). -/
def bulkPut (s : State) (a : Nat) (b : Byte) : State :=
  match s.bulk.target with
  | 0 =>
    if s.mapped a then
      if reservedLo ≤ a ∧ ¬inStaging a then s.put Fl.BULK_STAT_prot [] 1
      else (s.hbmWrite a [b]).inc Fl.BULK_BYTES_count
    else s.put Fl.BULK_STAT_range [] 1
  | 1 =>
    let blk := a / 2 ^ 32
    let off := a % 2 ^ 32
    if lutSize blk ≤ off then s.put Fl.BULK_STAT_range [] 1
    else match s.lutKey blk off with
      | none => s.inc Fl.BULK_BYTES_count
      | some k => if s.lutBusy k then s.put Fl.BULK_STAT_range [] 1 else (s.lutPut k b).inc Fl.BULK_BYTES_count
  | _ =>
    if 0x4000000 ≤ a then s.put Fl.BULK_STAT_range [] 1
    else
      let below := s.flag Fl.CPR_DUSK_STAT_below
      let t := if mramWritable a then s else s.put Fl.BULK_STAT_prot [] 1
      let t := if below then t.put Fl.BULK_STAT_dusk [] 1 else t
      if mramWritable a && !below then (t.mramWrite a [b]).inc Fl.BULK_BYTES_count else t

/-- Read one byte of the session's target; the flag is poison (R57). The device settings region holds Mbamet's own
layout, which the spec does not give: its bytes are free values (log 2). R388 states 0xFF for an unmapped HBM byte; what a read
returns outside a LUT space or beyond the end of MRAM is open, and 0xFF here too (DESIGN CHOICE, log 90). -/
def bulkGet (s : State) (a : Nat) : Byte × Bool × State :=
  match s.bulk.target with
  | 0 =>
    if s.mapped a then
      let bad := s.poisonedAt a 1
      (s.hbmByte a, bad, s.inc Fl.BULK_BYTES_count)
    else (0xFF, false, s.put Fl.BULK_STAT_range [] 1)
  | 1 =>
    let blk := a / 2 ^ 32
    let off := a % 2 ^ 32
    if lutSize blk ≤ off then (0xFF, false, s.put Fl.BULK_STAT_range [] 1)
    else match s.lutKey blk off with
      | none => (0, false, s.inc Fl.BULK_BYTES_count)
      | some k => (s.lutGet k, false, s.inc Fl.BULK_BYTES_count)
  | _ =>
    if 0x4000000 ≤ a then (0xFF, false, s.put Fl.BULK_STAT_range [] 1)
    else if 0x3600000 ≤ a ∧ a < 0x3800000 then
      (Config.freeByte s.free, false, ({ s with free := s.free + 1 }).inc Fl.BULK_BYTES_count)
    else (s.mram.get a, false, s.inc Fl.BULK_BYTES_count)

/-- BAR2 writes, byte by byte in order (R55, R56). -/
def bulkWriteBytes (s : State) : List (Bool × Byte) → State
  | [] => s
  | (en, b) :: t =>
    if s.bulkActive && ¬s.bulk.rd then
      let s := if en then s.bulkPut (bulkAddr s.bulk) b else s
      s.bulkStep.bulkWriteBytes t
    else (s.put Fl.BULK_STAT_overrun [] 1).bulkWriteBytes t

/-- BAR2 reads: the bytes returned, whether any was poisoned, and the state after (R55 to R57). -/
def bulkReadBytes (s : State) (acc : Bytes) (bad : Bool) : Nat → Bytes × Bool × State
  | 0 => (acc, bad, s)
  | n + 1 =>
    if s.bulkActive && s.bulk.rd then
      let r := s.bulkGet (bulkAddr s.bulk)
      r.2.2.bulkStep.bulkReadBytes (acc ++ [r.1]) (bad || r.2.1) n
    else (s.put Fl.BULK_STAT_overrun [] 1).bulkReadBytes (acc ++ [0xFF]) bad n

end State

/-- BULK_ARM: a write to BULK_CTRL with arm = 1. Its other fields take effect with it (R36); a session already armed goes
on (R34). -/
def execBulkArm (v : Nat) (s : State) : Res :=
  .next (s.onUnit .bulk fun s => (s.writeFields ⟨R.BULK_CTRL, [Fl.BULK_CTRL_dir, Fl.BULK_CTRL_target, Fl.BULK_CTRL_mode]⟩ [] v).bulkStart)

/-- BULK_WRITE (R55); without the fabric the bytes are discarded and BULK_STAT stays as it is (R584). -/
def execBulkWrite (data : List (Bool × Byte)) (s : State) : Res := .next (if s.reaches .bulk then s.bulkWriteBytes data else s)

/-- BULK_READ (R55, R56, R584). -/
def execBulkRead (n : Nat) (s : State) : Res :=
  if !s.reaches .bulk then .next (s.emit (.bytes (List.replicate n 0xFF) false))
  else
    let r := s.bulkReadBytes [] false n
    let t := if r.2.1 then r.2.2.put Fl.BULK_STAT_poison [] 1 else r.2.2
    .next (t.emit (.bytes r.1 r.2.1))

end Sys2Proof.Machine
end

