-- ==== Sys2Proof/Machine/Dvt.lean ====
section
/-! DEFINITION. Development (R298 to R316): noise reduction, demosaic, the working space and the looks. -/

namespace Sys2Proof.Machine

/-- A position moved inwards by whole multiples of p (R301). -/
def inward (p n : Nat) (x : Int) : Nat :=
  if x < 0 then (x + p * ((((-x).toNat + p - 1) / p : Nat) : Int)).toNat
  else if (n : Int) ≤ x then (x - p * ((((x - n + 1).toNat + p - 1) / p : Nat) : Int)).toNat
  else x.toNat

/-- Colours of R303. -/
def colourOf (map p : Nat) (x y : Int) : Nat :=
  let c := (y % (p : Int)).toNat * p + (x % (p : Int)).toNat
  map / 4 ^ c % 4

/-- Neighbourhood offsets −2 .. 2 by line and then column, the centre left out (R304). -/
def snrOffsets : List (Int × Int) :=
  (([-2, -1, 0, 1, 2] : List Int).flatMap fun j => ([-2, -1, 0, 1, 2] : List Int).map fun i => (i, j)).filter fun o => o ≠ (0, 0)

/-- Spatial noise reduction of a sample (R304). -/
def snrSample (model : Nat → F32 × F32) (sthr strength p w h : Nat) (v : Nat → Nat → F32) (tag : Nat → Nat → Nat)
    (sat : Nat → Nat → Bool) (x y : Nat) : F32 :=
  let c := v x y
  if sat x y then c
  else
    let m := model (tag x y)
    let sig := F32.sqrt (((F32.fmax c F32.zero).div m.1).add (m.2.mul m.2))
    let th := ((F32.ofNat sthr).div (F32.ofNat 16)).mul sig
    let r := snrOffsets.foldl (fun (a : F32 × Nat) o =>
      let px := inward p w ((x : Int) + o.1 * (p : Int))
      let py := inward p h ((y : Int) + o.2 * (p : Int))
      let u := v px py
      if !(sat px py) && F32.le ((u.sub c).abs) th then (a.1.add u, a.2 + 1) else a) (c, 1)
    c.add (((F32.ofNat strength).div (F32.ofNat 128)).mul ((r.1.div (F32.ofNat r.2)).sub c))

/-- Temporal noise reduction of a sample with a reference (R305). -/
def tnrSample (m : F32 × F32) (tthr alpha : Nat) (vs r : F32) : F32 :=
  let sig2 := ((F32.fmax r F32.zero).div m.1).add (m.2.mul m.2)
  let d := vs.sub r
  let tt := (F32.ofNat tthr).div (F32.ofNat 16)
  if F32.le (d.mul d) (((tt.mul tt).mul (F32.ofNat 2)).mul sig2) then r.add (((F32.ofNat alpha).div (F32.ofNat 256)).mul d) else vs

/-- Green at a pixel (R307). -/
def demosaicGreen (map p w h : Nat) (v : Nat → Nat → F32) (x y : Nat) : F32 :=
  let at_ (a b : Int) : F32 := v (inward p w a) (inward p h b)
  let px : Int := p
  let c := v x y
  if colourOf map p x y = 1 then c
  else
    let near (ok : Nat → Bool) : Nat := ((List.range p).map fun i => i + 1).find? ok |>.getD 1
    let dl := near fun d => colourOf map p ((x : Int) - d) y = 1
    let dr := near fun d => colourOf map p ((x : Int) + d) y = 1
    let du := near fun d => colourOf map p x ((y : Int) - d) = 1
    let dd := near fun d => colourOf map p x ((y : Int) + d) = 1
    let two := F32.ofNat 2
    let one (lo hi : F32) (dl dr : Nat) (lap : F32) : F32 × F32 :=
      ((((F32.ofNat dr).mul lo).add ((F32.ofNat dl).mul hi)).div (F32.ofNat (dl + dr)) |>.add ((F32.ofRat 1 4).mul lap),
        ((lo.sub hi).abs).add lap.abs)
    let hz := one (at_ ((x : Int) - dl) y) (at_ ((x : Int) + dr) y) dl dr
      (((two.mul c).sub (at_ ((x : Int) - px) y)).sub (at_ ((x : Int) + px) y))
    let vt := one (at_ x ((y : Int) - du)) (at_ x ((y : Int) + dd)) du dd
      (((two.mul c).sub (at_ x ((y : Int) - px))).sub (at_ x ((y : Int) + px)))
    if F32.lt hz.2 vt.2 then hz.1 else if F32.lt vt.2 hz.2 then vt.1 else (F32.ofRat 1 2).mul (hz.1.add vt.1)

/-- Red (0) or blue (2) at a pixel by colour difference (R307). -/
def demosaicChroma (map p w h : Nat) (v gr : Nat → Nat → F32) (k x y : Nat) : F32 :=
  if colourOf map p x y = k then v x y
  else
    let n := 2 * p + 1
    let r := (List.range (n * n)).foldl (fun (a : F32 × F32) i =>
      let dx : Int := (i % n : Nat) - (p : Int)
      let dy : Int := (i / n : Nat) - (p : Int)
      let px : Int := x + dx
      let py : Int := y + dy
      if colourOf map p px py = k then
        let wt := F32.ofNat ((p + 1 - dx.natAbs) * (p + 1 - dy.natAbs))
        let ax := inward p w px
        let ay := inward p h py
        (a.1.add (wt.mul ((v ax ay).sub (gr ax ay))), a.2.add wt)
      else a) (F32.zero, F32.zero)
    (gr x y).add (r.1.div r.2)

/-- Rows of a matrix times a vector, summed in the order written. -/
def Rgb.matMul (m : List F32) (c : Rgb) : Rgb :=
  let row (i : Nat) : F32 :=
    (((m.getD (3 * i) .zero).mul c.r).add ((m.getD (3 * i + 1) .zero).mul c.g)).add ((m.getD (3 * i + 2) .zero).mul c.b)
  ⟨row 0, row 1, row 2⟩

def clamp01 (x : F32) : F32 := F32.fmin (F32.fmax x F32.zero) (F32.ofNat 1)

namespace State

/-- A DVT register of a pipeline in an epoch, as binary32. -/
def dvtF (s : State) (e p : Nat) (r : Reg) (ix : List Nat := []) : F32 := s.f32P e p r ix

/-- The matrix M of an epoch (R309). -/
def dvtMatrix (s : State) (e p : Nat) : List F32 :=
  let one := F32.ofNat 1
  let cct := s.dvtF e p R.DVT_CCT
  let a := s.dvtF e p R.DVT_CCTA
  let d := s.dvtF e p R.DVT_CCTD
  let m := if a = d then F32.zero
    else clamp01 (((one.div cct).sub (one.div d)).div ((one.div a).sub (one.div d)))
  (List.range 9).map fun i =>
    (m.mul (s.dvtF e p R.DVT_MA [i])).add ((one.sub m).mul (s.dvtF e p R.DVT_MD [i]))

/-- Camera RGB into the working space (R308). -/
def toAp0 (s : State) (e p : Nat) (m : List F32) (c : Rgb) : Rgb :=
  let sc := s.dvtF e p R.DVT_SCALE
  Rgb.matMul m ⟨(c.r.mul sc).mul (s.dvtF e p R.DVT_WB_R), (c.g.mul sc).mul (s.dvtF e p R.DVT_WB_G),
    (c.b.mul sc).mul (s.dvtF e p R.DVT_WB_B)⟩

/-- LUT space of DVT held for a pipeline (R316). -/
def dvtLut (p off : Nat) : Nat := (0x200 + p) * 2 ^ 32 + off

/-- Exposure and shaper of a look (R311). -/
def shape (s : State) (e p l : Nat) (c : Rgb) : Rgb :=
  let gain := s.dvtF e p R.DVT_L_GAIN [l]
  let mode := s.eff e Fl.DVT_L_CTRL_sh_mode [p, l]
  let slot := s.eff e Fl.DVT_L_CTRL_sh_slot [p, l]
  let lo := s.dvtF e p R.DVT_L_SHLO [l]
  let hi := s.dvtF e p R.DVT_L_SHHI [l]
  let one (ch : Nat) (x : F32) : F32 :=
    let x := x.mul gain
    let x := if x.isNan then F32.zero else x
    if mode = 0 then x
    else
      let u := if mode = 1 then ((F32.log2 (F32.fmax x (F32.exp2 lo))).sub lo).div (hi.sub lo) else x.div hi
      let xs := (clamp01 u).mul (F32.ofNat 4095)
      let i := (min (F32.floor xs) 4094).toNat
      let f := xs.sub (F32.ofNat i)
      let sh (k : Nat) : F32 := F32.ofBits (s.lutWord (dvtLut p (0x1800000 + slot * 0xC000 + ch * 16384 + 4 * k)))
      (sh i).add (f.mul ((sh (i + 1)).sub (sh i)))
  ⟨one 0 c.r, one 1 c.g, one 2 c.b⟩

/-- An entry of a cube slot (R312). -/
def cubeEntry (s : State) (p slot r g b : Nat) : Rgb :=
  let at_ := dvtLut p (slot * 0x200000 + 6 * (r + 65 * g + 4225 * b))
  let w (k : Nat) : F32 := F32.ofHalf ((s.lutGet (at_ + 2 * k)).toNat + 256 * (s.lutGet (at_ + 2 * k + 1)).toNat)
  ⟨w 0, w 1, w 2⟩

/-- The 3D LUT of a look by tetrahedral interpolation (R312). -/
def cube (s : State) (e p l : Nat) (c : Rgb) : Rgb :=
  if s.eff e Fl.DVT_L_CTRL_cube_en [p, l] = 0 then c
  else
    let slot := s.eff e Fl.DVT_L_CTRL_cube_slot [p, l]
    let part (x : F32) : Nat × F32 :=
      let x := if x.isNan then F32.zero else x
      let xc := (clamp01 x).mul (F32.ofNat 64)
      let i := (min (F32.floor xc) 63).toNat
      (i, xc.sub (F32.ofNat i))
    let r := part c.r
    let g := part c.g
    let b := part c.b
    let v (x y z : Nat) : Rgb := s.cubeEntry p slot (r.1 + x) (g.1 + y) (b.1 + z)
    let sub (a b : Rgb) : Rgb := Rgb.zip F32.sub a b
    let go (o : Rgb) (f : F32) (d : Rgb) : Rgb := Rgb.zip F32.add o (d.map fun q => f.mul q)
    let ge (a b : F32) : Bool := F32.le b a
    if ge r.2 g.2 && ge g.2 b.2 then
      go (go (go (v 0 0 0) r.2 (sub (v 1 0 0) (v 0 0 0))) g.2 (sub (v 1 1 0) (v 1 0 0))) b.2 (sub (v 1 1 1) (v 1 1 0))
    else if ge r.2 b.2 && ge b.2 g.2 then
      go (go (go (v 0 0 0) r.2 (sub (v 1 0 0) (v 0 0 0))) b.2 (sub (v 1 0 1) (v 1 0 0))) g.2 (sub (v 1 1 1) (v 1 0 1))
    else if ge b.2 r.2 && ge r.2 g.2 then
      go (go (go (v 0 0 0) b.2 (sub (v 0 0 1) (v 0 0 0))) r.2 (sub (v 1 0 1) (v 0 0 1))) g.2 (sub (v 1 1 1) (v 1 0 1))
    else if ge g.2 r.2 && ge r.2 b.2 then
      go (go (go (v 0 0 0) g.2 (sub (v 0 1 0) (v 0 0 0))) r.2 (sub (v 1 1 0) (v 0 1 0))) b.2 (sub (v 1 1 1) (v 1 1 0))
    else if ge g.2 b.2 && ge b.2 r.2 then
      go (go (go (v 0 0 0) g.2 (sub (v 0 1 0) (v 0 0 0))) b.2 (sub (v 0 1 1) (v 0 1 0))) r.2 (sub (v 1 1 1) (v 0 1 1))
    else
      go (go (go (v 0 0 0) b.2 (sub (v 0 0 1) (v 0 0 0))) g.2 (sub (v 0 1 1) (v 0 0 1))) r.2 (sub (v 1 1 1) (v 0 1 1))

/-- Output primaries and gamut compression (R313). -/
def gamut (s : State) (e p l : Nat) (o : Rgb) : Rgb :=
  let x := Rgb.matMul ((List.range 9).map fun i => s.dvtF e p R.DVT_L_MOUT [l, i]) o
  let ac := F32.fmax (F32.fmax x.r x.g) x.b
  if s.eff e Fl.DVT_L_CTRL_gc_en [p, l] = 1 && F32.lt F32.zero ac then
    let one := F32.ofNat 1
    let th := s.dvtF e p R.DVT_L_GCTH [l]
    let lim := s.dvtF e p R.DVT_L_GCLIM [l]
    let sc := ((lim.sub th).mul (one.sub th)).div (lim.sub one)
    x.map fun xi =>
      let d := (ac.sub xi).div ac
      let d := if F32.lt th d then th.add ((d.sub th).div (one.add ((d.sub th).div sc))) else d
      ac.sub (d.mul ac)
  else x

/-- The transfer function of a look (R314). -/
def transfer (s : State) (e p l : Nat) (x : F32) : F32 :=
  let one := F32.ofNat 1
  match s.eff e Fl.DVT_L_CTRL_tf [p, l] with
  | 0 => x
  | 1 => (clamp01 x).pow (one.div (s.dvtF e p R.DVT_L_GAMMA [l]))
  | 2 =>
    let lum := F32.fmin (((F32.fmax x F32.zero).mul (s.dvtF e p R.DVT_L_PQREF [l])).div (F32.ofNat 10000)) one
    let lm := lum.pow (F32.ofRat 2610 16384)
    (((F32.ofRat 3424 4096).add ((F32.ofRat 2413 128).mul lm)).div (one.add ((F32.ofRat 2392 128).mul lm))).pow (F32.ofRat 2523 32)
  | _ =>
    let en := clamp01 x
    if F32.le en (F32.ofRat 1 12) then F32.sqrt ((F32.ofNat 3).mul en)
    else ((F32.dec 17883277 8).mul (F32.ln (((F32.ofNat 12).mul en).sub (F32.dec 28466892 8)))).add (F32.dec 55991073 8)

/-- A look of a working-space pixel (R310 to R314). -/
def lookPixel (s : State) (e p l : Nat) (ap0 : Rgb) : Rgb :=
  (s.gamut e p l (s.cube e p l (s.shape e p l ap0))).map fun x => s.transfer e p l x

/-- Looks that a pipeline computes, ascending (R310). -/
def looksOf (g : Graph) (p : Nat) : List Nat := (List.range 8).filter fun l => (g.branchesOf p).any fun b => b.look = l

def tnrBase (s : State) (p e plane : Nat) (r : StreamRec) : Nat :=
  s.effRd e R.DVT_TNR_ADDR_LO [p] + 2 ^ 32 * s.effRd e R.DVT_TNR_ADDR_HI [p] + plane * roundUp (4 * r.width * r.height) 4096

def dvtTnrErr (s : State) (tile p epoch fid cause : Nat) : State :=
  (s.put (if cause = 1 then Fl.DVT_STATUS_range else Fl.DVT_STATUS_poison) [tile] 1).evLimited 0x0090 srcDVT tile epoch fid
    (p + 2 ^ 8 * cause + 2 ^ 32)

/-- A frame enters DVT: its reference planes are fixed (R306). Planes out of range show on every tile of the pipeline. -/
def dvtEnter (s : State) (f : Frame) (r : StreamRec) : State :=
  let p := f.pipe
  let e := f.epoch
  let s := s.enterUnit .dvt p f.fid 3
  if s.eff e Fl.DVT_CTRL_tnr_en [p] = 0 || bit f.fsw fswReissued then s.modPipe p fun x => { x with tnr := none }
  else
    let size := roundUp (4 * r.width * r.height) 4096 + 4 * r.width * r.height
    if !(s.regionOk (s.graphOf e) p (s.tnrBase p e 0 r) size) then
      ((s.workers e p 3).foldl (fun (t : State) n => t.dvtTnrErr n p e f.fid 1) s).modPipe p fun x => { x with tnr := none }
    else
      let seq := s.eff e Fl.DVT_TNR_seq [p]
      let prev : Option Nat := match (s.pipeSt p).tnr with
        | some (pl, q) => if q = seq then some pl else none
        | none => none
      let wr := match (s.pipeSt p).tnr with
        | some (pl, _) => 1 - pl
        | none => 0
      let s := s.modPipe p fun x => { x with tnr := some (wr, seq) }
      s.modFrame .dvt p f.fid fun x => { x with tnrRead := prev, tnrWrite := some wr }

/-- A DVT tile develops its stripe of a frame (R299, R302); `run` computes the stripe and reports on it (R298). -/
def dvtFrame (s : State) (tile run fid : Nat) : State :=
  match (s.tileWork .dvt 3 tile fid).bind fun p => s.frameIn .dvt p fid with
  | none => s
  | some f0 =>
    let p := f0.pipe
    match (s.graphOf f0.epoch).streamOf p with
    | none => s
    | some r =>
      if (f0.units.contains .cap && !(f0.entered.contains .cap)) || !(s.powered (.dvt run)) || s.replaying 3 tile fid then s
      else
        let s := if f0.entered.contains .dvt then s else s.dvtEnter f0 r
        match s.frameIn .dvt p fid with
        | none => s
        | some f =>
          if !(f.owes.contains (3, tile)) then s
          else
            let e := f.epoch
            let w := f.width
            let h := f.height
            let per := cfaPeriod (s.eff e Fl.RCT_STAGE_cfa [p])
            let map := s.effRd e R.DVT_CFA [p]
            let tiles := s.workers e p 3
            let k := (tiles.takeWhile fun n => n ≠ tile).length
            let ws := stripeWidth w tiles.length
            let x0 := min (k * ws) w
            let x1 := min ((k + 1) * ws) w
            let model (t : Nat) : F32 × F32 := s.modelOf f t
            let arr := f.words.foldl (fun (a : Array Nat) q => a.setIfInBounds (q.1 / 65536 * w + q.1 % 65536) q.2)
              (Array.replicate (w * h) 0)
            let word (x y : Nat) : Nat := arr.getD (y * w + x) 0
            let raw (x y : Nat) : F32 := F32.ofInt (signed 25 (word x y))
            let tag (x y : Nat) : Nat := bits (word x y) 26 25
            let sat (x y : Nat) : Bool := bit (word x y) 27
            let snr : Bool := s.eff e Fl.DVT_CTRL_snr_en [p] = 1
            let refAt (x y : Nat) : Option F32 := match f.tnrRead with
              | some pl =>
                let a := s.tnrBase p e pl r + (y * r.width + x) * 4
                if s.poisonedAt a 4 then none else some (F32.ofBits (leNat (s.hbmRead a 4)))
              | none => none
            let vtOf (x y : Nat) : F32 :=
              let vs := if snr then snrSample model (s.eff e Fl.DVT_SNR_sthr [p]) (s.eff e Fl.DVT_SNR_strength [p]) per w h raw tag sat x y
                else raw x y
              if sat x y then vs
              else match refAt x y with
                | some q => tnrSample (model (tag x y)) (s.eff e Fl.DVT_TNR_tthr [p]) (s.eff e Fl.DVT_TNR_alpha [p]) vs q
                | none => vs
            let vta := (Array.range (w * h)).map fun i => vtOf (i % w) (i / w)
            let vt (x y : Nat) : F32 := vta.getD (y * w + x) F32.zero
            let gra := (Array.range (w * h)).map fun i => if per = 1 then vt (i % w) (i / w) else demosaicGreen map per w h vt (i % w) (i / w)
            let gr (x y : Nat) : F32 := gra.getD (y * w + x) F32.zero
            let rgb (x y : Nat) : Rgb :=
              if per = 1 then ⟨vt x y, vt x y, vt x y⟩
              else ⟨demosaicChroma map per w h vt gr 0 x y, gr x y, demosaicChroma map per w h vt gr 2 x y⟩
            let m := s.dvtMatrix e p
            let mine : List (Nat × Nat) := (List.range h).flatMap fun y => (List.range (x1 - x0)).map fun i => (x0 + i, y)
            let ap := mine.map fun q => (q, s.toAp0 e p m (rgb q.1 q.2))
            let out := (looksOf (s.epochRec e).graph p).flatMap fun l => ap.map fun q =>
              let c := s.lookPixel e p l q.2
              (l, q.1.2 * 65536 + q.1.1, c.r.toBits + 2 ^ 32 * c.g.toBits + 2 ^ 64 * c.b.toBits)
            let bad := s.stripeSpoilt 3 tile fid
            let nv := mine.length
            let out := if bad then out.mapIdx fun (i : Nat) (q : Nat × Nat × Nat) => (q.1, q.2.1, Config.freeValue (s.free + nv + i) % 2 ^ 96)
              else out
            let refs := mine.mapIdx fun (i : Nat) (q : Nat × Nat) =>
              (q, if bad then Config.freeValue (s.free + i) % 2 ^ 32 else (vt q.1 q.2).toBits)
            let poison : Bool := f.tnrRead.isSome && mine.any fun (q : Nat × Nat) =>
              s.poisonedAt (s.tnrBase p e (f.tnrRead.getD 0) r + (q.2 * r.width + q.1) * 4) 4
            let s := match f.tnrWrite with
              | some pl => refs.foldl (fun (t : State) (q : (Nat × Nat) × Nat) =>
                  t.hbmWrite (s.tnrBase p e pl r + (q.1.2 * r.width + q.1.1) * 4) (leBytes 4 q.2)) s
              | none => s
            let s := s.spoiltDone 3 tile fid (nv + out.length)
            let s := if poison then s.dvtTnrErr run p e fid 2 else s
            let s := s.modFrame .dvt p fid fun x => { x with
              looks := x.looks ++ out, owes := x.owes.filter fun o => o ≠ (3, tile)
              results := x.results ++ lastFid .dvt R.DVT_LASTFID_LO R.DVT_LASTFID_HI run fid }
            (s.showBusy 3 tile).showBusy 3 run

end State

/-- DVT_FRAME (R302). -/
def execDvtFrame (tile fid : Nat) (s : State) : Res := .next (s.dvtFrame tile tile fid)

end Sys2Proof.Machine
end

