-- ==== Sys2Proof/Machine/Outf.lean ====
section
/-! DEFINITION. The output formatter (R317 to R328): cropping, scaling, packing into slots or a peer device, publication. -/

namespace Sys2Proof.Machine

/-- Weights of the crop positions that make output position `o` (R319). -/
def scaleTaps (kt : Nat → F32) (n m o : Nat) : List (Nat × F32) :=
  let one := F32.ofNat 1
  let half := F32.ofRat 1 2
  let r := (F32.ofNat n).div (F32.ofNat m)
  let sc := F32.fmax r one
  let c := (((F32.ofNat o).add half).mul r).sub half
  let reach := (F32.ofNat 4).mul sc
  let lo := (c.sub reach).floor
  let hi := (c.add reach).ceil
  ((List.range ((hi - lo).toNat + 1)).map fun (k : Nat) => lo + (k : Int)).filterMap fun (i : Int) =>
    let d := (F32.ofInt i).sub c
    if F32.lt d.abs reach then
      let j := ((((d.div sc).mul (F32.ofNat 64)).add half).floor) + 256
      some ((min (max i 0) ((n : Int) - 1)).toNat, kt (min (max j 0) 512).toNat)
    else none

/-- One output value from its taps (R319). -/
def scaleSum (taps : List (Nat × F32)) (v : Nat → F32) : F32 :=
  let a := taps.foldl (fun (a : F32 × F32) t => (a.1.add (t.2.mul (v t.1)), a.2.add t.2)) (F32.zero, F32.zero)
  if F32.le a.2 F32.zero && F32.le F32.zero a.2 then F32.zero else a.1.div a.2

/-- Scaling, horizontal first, then vertical (R319). -/
def scaleFrame (kt : Nat → F32) (n h m k : Nat) (v : Nat → Nat → Rgb) : Nat → Nat → Rgb :=
  let ht := (Array.range m).map fun o => scaleTaps kt n m o
  let vt := (Array.range k).map fun o => scaleTaps kt h k o
  let rows := (Array.range (m * h)).map fun i =>
    let t := ht.getD (i % m) []
    let y := i / m
    (⟨scaleSum t fun x => (v x y).r, scaleSum t fun x => (v x y).g, scaleSum t fun x => (v x y).b⟩ : Rgb)
  let row (x y : Nat) : Rgb := rows.getD (y * m + x) ⟨.zero, .zero, .zero⟩
  fun x y =>
    let t := vt.getD y []
    ⟨scaleSum t fun j => (row x j).r, scaleSum t fun j => (row x j).g, scaleSum t fun j => (row x j).b⟩

/-- Is a ratio of sizes from 0.125 to 16 (R318). -/
def ratioOk (n m : Nat) : Bool := m ≤ 8 * n && n ≤ 16 * m

/-- The limits of R318 on crop and destination, with zeros standing for the whole. -/
def geomLimits (g : List Nat) (fw fh cw ch : Nat) : Bool :=
  let at_ (i : Nat) : Nat := g.getD i 0
  let w (i whole : Nat) : Nat := if at_ i = 0 then whole else at_ i
  at_ 0 + w 2 fw ≤ fw && at_ 1 + w 3 fh ≤ fh && at_ 4 + w 6 cw ≤ cw && at_ 5 + w 7 ch ≤ ch
    && ratioOk (w 2 fw) (w 6 cw) && ratioOk (w 3 fh) (w 7 ch)

namespace State

def outf (s : State) (i : Nat) : OutfSt := s.outfs.getD i OutfSt.init
def modOutf (s : State) (i : Nat) (f : OutfSt → OutfSt) : State := { s with outfs := modNth s.outfs i f }

def enc (s : State) (k : Nat) : EncSt := s.encs.getD k EncSt.init
def modEnc (s : State) (k : Nat) (f : EncSt → EncSt) : State := { s with encs := modNth s.encs k f }

def layer (s : State) (n : Nat) : LayerSt := s.disp.layers.getD n LayerSt.init

/-- The branch that feeds an encode core (R330); one that a patch has removed still ends with the frames of older epochs (R144). -/
def encBranch (s : State) (k : Nat) : Option BranchRec :=
  (s.graph :: s.epochs.map fun r => r.graph).findSome? fun g => g.branches.find? fun b => b.consumer = srcVCE && b.inst = k

/-- Slots of a branch that its consumers hold (R324, R337, R367). -/
def heldSlots (s : State) (i : Nat) : List Nat :=
  ((List.range 2).flatMap fun k => match s.encBranch k with
    | some b => if b.pipe * 8 + b.branch = i then
        ((s.enc k).queue.map fun f => f.slot) ++ (s.enc k).order.map fun o => o.frame.slot else []
    | none => []) ++
  s.disp.layers.filterMap fun l => if l.kind = 1 && l.index = i then l.shown.map fun f => f.slot else none

/-- A published frame's slot is reused (R367): each layer of that source that has not latched it counts it as skipped. -/
def slotReused (s : State) (kind index : Nat) (f : PubFrame) : State :=
  (List.range 4).foldl (fun (t : State) n =>
    if (t.layer n).kind = kind && (t.layer n).index = index && !(f.latched.contains n) then t.inc Fl.DISP_L_CNT_skipped [n] else t) s

/-- A branch frame is skipped (R317, R324, R328). -/
def outfSkip (s : State) (i epoch fid cause frames : Nat) : State :=
  ((s.inc Fl.OUTF_SKIP_count [i] frames).put Fl.OUTF_STAT_skip_cause [i] cause).evLimited 0x0099 srcOUTF i epoch fid
    (cause + 2 ^ 32 * frames)

/-- Entry j of the kernel table that a branch has in effect (R319). -/
def kernel (s : State) (i bank j : Nat) : F32 := F32.ofBits (s.lutWord (0x80 * 2 ^ 32 + i * 0x2000 + bank * 0x1000 + 4 * j))

/-- The branch's settings meet a frame of a new epoch (R318). -/
def outfGeom (s : State) (i : Nat) (f : Frame) (br : BranchRec) : State :=
  let o := s.outf i
  if o.geomEpoch = some f.epoch then s
  else
    let e := f.epoch
    let g := [s.eff e Fl.OUTF_CROPXY_x_or_w [i], s.eff e Fl.OUTF_CROPXY_y_or_h [i], s.eff e Fl.OUTF_CROPWH_x_or_w [i],
      s.eff e Fl.OUTF_CROPWH_y_or_h [i], s.eff e Fl.OUTF_DSTXY_x_or_w [i], s.eff e Fl.OUTF_DSTXY_y_or_h [i],
      s.eff e Fl.OUTF_DSTWH_x_or_w [i], s.eff e Fl.OUTF_DSTWH_y_or_h [i]]
    let ok := geomLimits g f.width f.height br.width br.height
    let s := s.modOutf i fun x => { x with geomEpoch := some e, geom := if ok then g else x.geom }
    if ok then s else s.put Fl.OUTF_STAT_geom_refused [i] 1

/-- The canvas of a branch frame (R318, R319). -/
def canvas (s : State) (i : Nat) (f : Frame) (br : BranchRec) : Nat → Nat → Rgb :=
  let e := f.epoch
  let g := (s.outf i).geom
  let at_ (k : Nat) : Nat := g.getD k 0
  let n := if at_ 2 = 0 then f.width else at_ 2
  let h := if at_ 3 = 0 then f.height else at_ 3
  let m := if at_ 6 = 0 then br.width else at_ 6
  let k := if at_ 7 = 0 then br.height else at_ 7
  let arr := f.looks.foldl (fun (a : Array Nat) q =>
    if q.1 = br.look then a.setIfInBounds (q.2.1 / 65536 * f.width + q.2.1 % 65536) q.2.2 else a) (Array.replicate (f.width * f.height) 0)
  let px (x y : Nat) : Rgb :=
    let v := arr.getD ((y + at_ 1) * f.width + x + at_ 0) 0
    ⟨F32.ofBits (v % 2 ^ 32), F32.ofBits (v / 2 ^ 32 % 2 ^ 32), F32.ofBits (v / 2 ^ 64)⟩
  let sc := scaleFrame (s.kernel i (s.eff e Fl.OUTF_CTRL_bank [i])) n h m k px
  let fill : Rgb := ⟨F32.ofBits (s.effRd e R.OUTF_FILL0 [i]), F32.ofBits (s.effRd e R.OUTF_FILL1 [i]), F32.ofBits (s.effRd e R.OUTF_FILL2 [i])⟩
  fun x y => if at_ 4 ≤ x && x < at_ 4 + m && at_ 5 ≤ y && y < at_ 5 + k then sc (x - at_ 4) (y - at_ 5) else fill

/-- Channels, element size and frames per tensor of a branch. -/
def tensorC (s : State) (i e : Nat) : Nat := if s.eff e Fl.OUTF_CTRL_mono [i] = 1 then 1 else 3

def outfFmt (s : State) (i e : Nat) : Nat := s.eff e Fl.OUTF_CTRL_fmt [i]

def outfPitch (s : State) (i e w : Nat) : Nat := pitchOf (s.eff e Fl.OUTF_PITCH_value [i]) (s.outfFmt i e) w

/-- Is the branch's format a tensor (R326). -/
def isTensor (s : State) (i e : Nat) : Bool := s.outfFmt i e = fmtPL16F || s.outfFmt i e = fmtPL8U

def batchN (s : State) (i e : Nat) : Nat := if s.isTensor i e then max 1 (s.eff e Fl.OUTF_BATCH_n [i]) else 1

/-- The packed lines of a branch frame by their byte offset from the slot's first plane, and the NaN count (R322 to R326).
`place` is the frame's place in its batch. -/
def outfLines (s : State) (i : Nat) (f : Frame) (br : BranchRec) (place : Nat) : List (Nat × Bytes) × Nat :=
  let e := f.epoch
  let fmt := s.outfFmt i e
  let bt2020 : Bool := s.eff e Fl.OUTF_CTRL_ycc [i] = 1
  let pitch := s.outfPitch i e br.width
  let v := s.canvas i f br
  if s.isTensor i e then
    let c := s.tensorC i e
    let one (y : Nat) : List (List (Bytes × Bool)) :=
      let row := (List.range br.width).map fun x => tensorChans (c = 1) (s.eff e Fl.OUTF_CTRL_bgr [i] = 1) bt2020 (v x y)
      (List.range c).map fun k => row.map fun l =>
        tensorElem (fmt = fmtPL16F) (((l.getD k .zero).sub (F32.ofBits (s.effRd e R.OUTF_MEAN [i, k]))).mul
          (F32.ofBits (s.effRd e R.OUTF_TSCALE [i, k])))
    let all := (List.range br.height).flatMap fun y => (one y).mapIdx fun k l => (((place * c + k) * br.height + y) * pitch, l)
    (all.map fun q => (q.1, q.2.flatMap fun u => u.1), sumOf (fun q => q.2.countP fun u => u.2) all)
  else
    let p := packFrame fmt (s.eff e Fl.OUTF_CTRL_narrow [i] = 1) bt2020 (s.eff e Fl.OUTF_CTRL_alpha [i]) br.width br.height v
    ((p.first ++ p.second).mapIdx fun k l => (k * pitch, l), p.nans)

/-- Bytes of a slot that a branch's frames need (R324, R326). -/
def outfNeed (s : State) (i e : Nat) (br : BranchRec) : Nat :=
  let pitch := s.outfPitch i e br.width
  4096 + pitch * (if s.isTensor i e then s.batchN i e * s.tensorC i e * br.height else frameLines (s.outfFmt i e) br.height)

/-- The descriptor of a branch frame (R324). -/
def outfDesc (s : State) (i : Nat) (f : Frame) (br : BranchRec) (seq fid frames : Nat) : SlotDesc :=
  let e := f.epoch
  let fmt := s.outfFmt i e
  let pitch := s.outfPitch i e br.width
  ⟨seq, fid, e, fswFinal f.fsw, f.time, fmt, br.pipe, br.branch, frames, br.width, br.height, pitch,
    if fmtIsYc fmt || (s.isTensor i e && s.tensorC i e = 3) then 4096 + br.height * pitch else 0, s.eff e Fl.DVT_L_SIG_primaries [br.pipe, br.look],
    s.eff e Fl.DVT_L_SIG_transfer [br.pipe, br.look],
    if fmtIsYc fmt then (if s.eff e Fl.OUTF_CTRL_ycc [i] = 1 then 9 else 1) else 0, s.eff e Fl.OUTF_CTRL_narrow [i]⟩

/-- Developed-frame period of a pipeline in an epoch, in ns (R325). -/
def devPeriod (s : State) (e p : Nat) : Nat :=
  let n := if 2 ≤ s.eff e Fl.CAP_MODE_mode [p] then s.eff e Fl.CAP_CYCLE_n_m1 [p] + 1 else 1
  (((s.epochRec e).graph.streamOf p).map fun r => r.period * n).getD 0

/-- The frame has been written: batch, count and what waits for publication (R324 to R328). -/
def outfWritten (s : State) (i : Nat) (f : Frame) (n slot frames first base : Nat) (peer : Bool) : State :=
  let whole : Bool := n ≤ frames
  let s := if peer && whole then s.inc Fl.OUTF_WRITTEN_count [i] else s
  let w := s.rd R.OUTF_WRITTEN [i]
  s.modOutf i fun x => { x with
    k := x.k + 1
    batch := if whole then none else some ⟨slot, frames, first, false⟩
    pend := if whole then x.pend ++ [(⟨slot, x.k, first, f.fid, f.epoch, f.time, frames, w, base, s.time.clk⟩ : BranchFrame)] else x.pend }

/-- A branch frame to a peer device (R327, R328). A frame that overflows the engine's queue (`full`, R317) is dropped: its place in a batch
goes to the next frame (log 107). -/
def outfPeer (s : State) (i : Nat) (f : Frame) (br : BranchRec) (full : Bool) : State :=
  let e := f.epoch
  let n := s.batchN i e
  let r := br.inst
  let b := (s.outf i).batch
  let done := (b.map fun q => q.frames).getD 0
  let skipping : Bool := (b.map fun q => q.skip).getD false
  let down := !(s.flag Fl.MPC_RP_STAT_up [r])
  let s := s.put Fl.OUTF_STAT_peer_down [i] (b2n down)
  let skipBatch (s : State) : State :=
    s.modOutf i fun x => { x with batch := if n ≤ done + 1 then none else some ⟨0, done + 1, f.fid, true⟩ }
  let lag := (s.rd R.OUTF_WRITTEN [i] + 2 ^ 32 - s.rd R.OUTF_CONSUMED [i]) % 2 ^ 32
  let slots := s.eff e Fl.OUTF_PSLOTS_slots [i]
  if skipping then skipBatch (s.outfSkip i e f.fid (s.get Fl.OUTF_STAT_skip_cause [i]) 1)
  else if down then skipBatch (s.outfSkip i e f.fid 5 (done + 1))
  else if b.isNone && slots ≤ lag then skipBatch (s.outfSkip i e f.fid 3 1)
  else if full then s.outfSkip i e f.fid 2 1
  else
    let j := s.rd R.OUTF_WRITTEN [i] % max 1 slots
    let base := s.effRd e R.OUTF_PEER_LO [i] + 2 ^ 32 * s.effRd e R.OUTF_PEER_HI [i] + j * s.effRd e R.OUTF_PSTRIDE [i]
    let ls := s.outfLines i f br done
    let s := ls.1.foldl (fun (t : State) q => t.emit (.peer r (base + q.1) q.2)) (s.inc Fl.OUTF_NAN_count [i] ls.2)
    s.outfWritten i f n j (done + 1) ((b.map fun q => q.fid).getD f.fid) 0 true

/-- A branch frame to its HBM buffer (R324, R326). Of a frame that overflows the engine's queue (`full`, R317) the slot keeps a part that
the spec leaves open; it is not published, and the next frame takes its slot and its place in a batch (log 107). -/
def outfHbm (s : State) (i : Nat) (f : Frame) (br : BranchRec) (buf : BufferRec) (full : Bool) : State :=
  let e := f.epoch
  let n := s.batchN i e
  let stride := s.eff e Fl.OUTF_STRIDE_value [i] * 4096
  if stride < s.outfNeed i e br then s.outfSkip i e f.fid 4 1
  else
    let o := s.outf i
    let held := s.heldSlots i
    let slot := match o.batch with
      | some b => some b.slot
      | none => ((List.range buf.depth).map fun k => (o.next + k) % buf.depth).find? fun k => !(held.contains k)
    match slot with
    | none => s.outfSkip i e f.fid 1 1
    | some slot =>
      let done := (o.batch.map fun b => b.frames).getD 0
      let first := (o.batch.map fun b => b.fid).getD f.fid
      let s := (o.pub.filter fun q => q.slot = slot).foldl (fun (t : State) q => t.slotReused 1 i q) s
      let s := s.modOutf i fun x => { x with
        next := if full then slot else (slot + 1) % buf.depth
        pub := x.pub.filter fun q => q.slot ≠ slot
        pend := x.pend.filter fun q => q.slot ≠ slot }
      let base := (s.graphOf e).bufferBase buf + slot * stride
      let s := s.hbmWrite base (s.outfDesc i f br (2 * o.k + 1) first (done + 1)).encode
      if full then (s.hbmUndef (base + 4096) (s.outfNeed i e br - 4096)).outfSkip i e f.fid 2 1
      else
      let ls := s.outfLines i f br done
      let s := ls.1.foldl (fun (t : State) q => t.hbmWrite (base + 4096 + q.1) q.2) (s.inc Fl.OUTF_NAN_count [i] ls.2)
      s.outfWritten i f n slot (done + 1) first base false

/-- An OUTF engine packs a branch frame (R317 to R327); `full` says that its queue overflows. -/
def outfFrame (s : State) (p b fid : Nat) (full : Bool) : State :=
  match s.frameIn (.branch b) p fid with
  | none => s
  | some f =>
    let g := (s.epochRec f.epoch).graph
    match g.branch? p b, g.branchEdge? p b with
    | some br, some ed =>
      let dvt : Bool := !(f.units.contains .dvt) || tilesDone f .dvt 3
      if f.entered.contains (.branch b) || !dvt || !(s.powered .outf) then s
      else
        let i := p * 8 + b
        let s := (s.enterUnit .outf p fid 0).enterUnit (.branch b) p fid 0
        let s := (s.outfGeom i f br).put Fl.OUTF_STAT_busy [i] 0
        if br.consumer = srcMPC then s.outfPeer i f br full
        else match g.buffer? ed.buffer with
          | some buf => if ed.via = 1 then s.outfHbm i f br buf full else s.outfSkip i f.epoch fid 1 1
          | none => s.outfSkip i f.epoch fid 1 1
    | _, _ => s

end State

/-- OUTF_FRAME (R317). -/
def execOutfFrame (p b fid : Nat) (s : State) (full : Bool := false) : Res :=
  .next (if p < 8 ∧ b < 8 then s.outfFrame p b fid full else s)

/-- PEER_CREDIT_WRITE (R328): a write inside the inbound window of port `r`; only the word of a branch whose consumer is that
port is taken. -/
def execPeerCreditWrite (r off v : Nat) (s : State) : Res :=
  let i := off / 4
  .next (if r < 32 ∧ off % 4 = 0 ∧ i < 64 ∧ s.rd64 R.MPC_RP_INWIN_LO R.MPC_RP_INWIN_HI [r] ≠ 0
      ∧ ((s.graph.branch? (i / 8) (i % 8)).any fun b => b.consumer = srcMPC && b.inst = r)
    then s.wr R.OUTF_CONSUMED [i] (v % 2 ^ 32) else s)

end Sys2Proof.Machine
end

