-- ==== Sys2Proof/Machine/Flow.lean ====
section
/-! DEFINITION. The flow of frames through the units and of fronts through the pipelines (R119 to R145). -/

namespace Sys2Proof.Machine

namespace State

/-! ### Entering a unit (R134) -/

/-- The first sample of a frame reaches a unit: the unit takes up the settings of the frame's epoch. What a tile, an encoder buffer
or a branch fixes per frame is fixed here; CAP and REC take a frame whole, so nothing of theirs precedes their own step. -/
def unitSwitch (s : State) (u : FlowUnit) (p fid : Nat) : State :=
  match s.frameIn u p fid with
  | none => s
  | some f =>
    let fromCap : Bool := !(f.units.contains .cap) || f.entered.contains .cap
    if f.entered.contains u then s
    else match u with
      | .rct =>
        match s.slotAddr f.epoch p f.slot with
        | some (r, base) =>
          if (s.workers f.epoch p 1).any fun n => s.rctTakes f n then s.rctEnter (s.rctSet p f.epoch r.exposures) f r base else s
        | none => s
      | .rcu => if fromCap && (s.workers f.epoch p 2).any fun n => s.powered (.rcu n) then s.rcuEnter f else s
      | .dvt =>
        match (s.graphOf f.epoch).streamOf p with
        | some r => if fromCap && (s.workers f.epoch p 3).any fun n => s.powered (.dvt n) then s.dvtEnter f r else s
        | none => s
      | .branch b =>
        match (s.epochRec f.epoch).graph.branch? p b with
        | some br => if s.powered .outf then (s.outfGeom (p * 8 + b) f br).put Fl.OUTF_STAT_busy [p * 8 + b] 1 else s
        | none => s
      | .outf => if f.entered.contains .dvt && s.powered .outf then s.enterUnit .outf p fid 0 else s
      | .cap => s
      | .recorder => s

/-! ### Leaving a unit (R139, R140, R150) -/

/-- A stripe of the frame is in replay in a tile class. -/
def frameReplays (s : State) (p fid cls : Nat) : Bool := s.hlt.replays.any fun r => r.pipe = p && r.cls = cls && r.fid = fid

/-- Has a unit emitted its last output for a frame, with no replay of it possible. -/
def unitDone (s : State) (f : Frame) (u : FlowUnit) : Bool :=
  match u with
  | .rct => tilesDone f .rct 1 && !(s.frameReplays f.pipe f.fid 1)
  | .rcu => tilesDone f .rcu 2 && !(s.frameReplays f.pipe f.fid 2)
  | .dvt => tilesDone f .dvt 3 && !(s.frameReplays f.pipe f.fid 3)
  | .cap => f.entered.contains .cap && !(s.synHolds f)
  | .recorder => f.entered.contains .recorder
  | .branch b => f.entered.contains (.branch b)
  | .outf =>
    !(f.units.contains .dvt) && f.units.all fun v => match v with
      | .branch b => f.entered.contains (.branch b)
      | _ => true

/-- The results of a frame that a unit publishes together as the frame leaves it (R150). -/
def publishResults (s : State) (f : Frame) (u : FlowUnit) : State :=
  let s : State := { s with regs := (f.results.filter fun r => r.1 = u).foldl (fun m r => setAt 0 r.2.1 r.2.2 m) s.regs }
  if u = .dvt then
    (List.range 16).foldl (fun (t : State) n =>
      if f.results.any fun r => r.1 = .dvt && r.2.1 = R.DVT_LASTFID_LO.key [n] then t.put Fl.DVT_STATUS_tnr_valid [n] (b2n f.tnrRead.isSome)
      else t) s
  else s

/-- A commit that waits for the epoch limit with its ref_pipe idle is issued once an epoch has settled (R131, R132). -/
def heldIssue (s : State) : State := if s.front.any fun f => f.late = 2 then s.idleIssue else s

/-- A frame leaves a unit (R139): its record set and results are published, it is gone once no unit has it, and epochs settle. -/
def frameLeaves (s : State) (u : FlowUnit) (p fid : Nat) : State :=
  match s.frameIn u p fid with
  | none => s
  | some f =>
    if !(s.unitDone f u) then s
    else
      let s := if u = .rct then s.stsFrame f else s
      let s := (s.publishResults f u).trace (unitSrc u) 1 (unitInst p u) f.epoch fid
      let again := bit f.fsw fswReissued
      let last : Bool := u = .rcu || (u = .cap && !(f.units.contains .rcu) && !((s.epochRec f.epoch).graph.hasStageEdge p 2 3))
      let s := if again && last then s.reissueLeft p fid else s
      let s := s.modFrame u p fid fun x => { x with units := x.units.filter fun v => v ≠ u }
      let s : State := { s with frames := s.frames.filter fun x => !x.units.isEmpty }
      s.settle.heldIssue

/-! ### Boundaries (R125 to R133) -/

/-- The first boundary of ref_pipe that may issue the pending front: the frame of this counter opens (log 35). -/
def frontBoundary (s : State) (counter : Nat) : State :=
  match s.front with
  | none => s
  | some f =>
    match s.graph.streamOf f.refPipe with
    | none => s
    | some r =>
      let s := s.reachClk (f.arrival + tFs)
      let s := if f.cond = 2 then s.reachDt f.time else s
      if !s.sfeTakes then s
      else if r.mosaic = 0 then (s.acceptPacket r.id r.stream counter true false).1
      else if (s.streamSt r.id).opened.isSome then s
      else s.openFrame r.id counter false []

/-- The epoch instant of a commit whose ref_pipe is idle (R131; log 35). -/
def idleInstant (s : State) : State :=
  match s.front with
  | none => s
  | some f =>
    if s.pipeIdle f.refPipe then
      let s := s.reachClk (f.arrival + tFs)
      let s := if f.cond = 2 then s.reachDt f.time else s
      s.idleIssue
    else s

/-- A pipeline becomes idle, twice the nominal period after its last boundary (R126, log 35): it takes what is due to it (R133), and a commit that names it may be issued (R131). -/
def pipelineIdle (s : State) (p : Nat) : State :=
  if (s.pipeSt p).idle then s
  else
    let s := match (s.pipeSt p).bounds.head?, s.graph.streamOf p with
      | some t, some r => s.reachDt (t + 2 * r.period)
      | _, _ => s
    let s := s.modPipe p fun x => { x with idle := true }
    let s := (s.takeDue p noFrame).settle
    if s.front.any fun f => f.refPipe = p then s.idleIssue else s

end State

/-- DEV_COMMIT (R119, R122). -/
def execDevCommit (v : Nat) (s : State) : Res := .next (s.onUnit .dev fun t => t.devCommit v)

/-- FRONT_ISSUE (R128). -/
def execFrontIssue (counter : Nat) (s : State) : Res := .next (s.frontBoundary counter)

/-- IDLE_COMMIT_ISSUE (R131). -/
def execIdleCommitIssue (s : State) : Res := .next s.idleInstant

/-- UNIT_EPOCH_SWITCH (R134). -/
def execUnitEpochSwitch (u : FlowUnit) (p fid : Nat) (s : State) : Res := .next (s.unitSwitch u p fid)

/-- FRAME_LEAVES_UNIT (R139). -/
def execFrameLeavesUnit (u : FlowUnit) (p fid : Nat) (s : State) : Res := .next (s.frameLeaves u p fid)

/-- PATCH_DRAIN_END (R144, R145). -/
def execPatchDrainEnd (p : Nat) (s : State) : Res := .next ((s.drainEnd p).heldIssue)

/-- PIPELINE_IDLE (R126). -/
def execPipelineIdle (p : Nat) (s : State) : Res := .next (if p < 8 then s.pipelineIdle p else s)

end Sys2Proof.Machine
end

