-- ==== Sys2Proof/Machine/Hbm.lean ====
section
/-! DEFINITION. The HBM memory system (R383 to R411): requests, refresh, ECC, freeze and release, training and repair. -/

namespace Sys2Proof.Machine

/-- Physical address of position `pos` of stripe `k` (R385). -/
def stripePos (pbase k pos : Nat) : Nat := pbase + (k * 8 + pos) * 64

/-- Position of the parity access of stripe `k`. -/
def parityPos (k : Nat) : Nat := 7 - k % 8

/-- Keep a list of channel numbers ascending, without repeats. -/
def insertCh (n : Nat) : List Nat → List Nat
  | [] => [n]
  | a :: t => if n < a then n :: a :: t else if n = a then a :: t else a :: insertCh n t

namespace State

def modHbm (s : State) (f : HbmSt → HbmSt) : State := { s with hbmc := f s.hbmc }

/-- Channels of a group that are frozen or in resync, as AL_HBM_GROUP_LOST shows them: bit 2 × s + h (R411). -/
def groupMask (s : State) (g : Nat) : Nat :=
  sumOf (fun n => if (s.hbmc.down.contains n || s.hbmc.sync.contains n) && chGroup n = g then 2 ^ (n / 16 * 2 + n % 2) else 0)
    (List.range 64)

/-- HBMC_GROUPS follows the channels; a group that has become lost raises its alarm (R405, R406). -/
def groupsShow (s : State) : State :=
  let deg := sumOf (fun g => if s.groupMask g ≠ 0 then 2 ^ g else 0) (List.range 8)
  let old := s.get Fl.HBMC_GROUPS_lost
  let now := (List.range 8).filter fun g => s.groupLost g
  let s := (s.put Fl.HBMC_GROUPS_degraded [] deg).put Fl.HBMC_GROUPS_lost [] (sumOf (fun g => 2 ^ g) now)
  now.foldl (fun (t : State) g => if bit old g then t else t.ev 0x40C1 srcHBMC g (t.groupMask g)) s

/-- A span of memory takes free values (R2, log 2). -/
def freeRange (s : State) (a n : Nat) : State := s.hbmUndef a n

/-- A channel freezes (R402). The four syndrome symbols are those of the error: a free value. -/
def freeze (s : State) (n cause cmd pa : Nat) : State :=
  let l := physLoc pa
  let y := s.fresh
  let s := y.2
  let s := (s.put Fl.HBMC_CH_STAT_state [n] 3).put Fl.HBMC_CH_STAT_froze [n] 1
  let s := (s.put Fl.HBMC_CH_FRZ_CAUSE_cmd [n] cmd).put Fl.HBMC_CH_FRZ_CAUSE_cause [n] cause
  let s := s.wr64 R.HBMC_CH_FRZ_PA_LO R.HBMC_CH_FRZ_PA_HI [n] pa
  let s := s.wr R.HBMC_CH_FRZ_LOC [n] (l.row * 2 ^ 17 + l.pc * 2 ^ 16 + l.bank / 16 * 2 ^ 14 + l.bank / 4 % 4 * 2 ^ 12
    + l.bank % 4 * 2 ^ 10 + l.col * 2 ^ 6)
  let s := s.wr R.HBMC_CH_FRZ_SYND [n] (y.1 % 2 ^ 32)
  let s := s.wr64 R.HBMC_CH_FRZ_TIME_LO R.HBMC_CH_FRZ_TIME_HI [n] s.dt
  let s := s.put Fl.HBMC_CH_RESYNC_active [n] 0
  let s := s.modHbm fun x => { x with down := insertCh n x.down, sync := x.sync.erase n, rows := x.rows.filter fun r => r.1 / 96 ≠ n }
  (s.ev 0x40C0 srcHBMC n (cause + 2 ^ 32 * (pa / 64 % 2 ^ 32))).groupsShow

/-! ### Accesses -/

/-- One 64-byte access at a physical address is issued to its channel: its count, and an activate if the row is not open
(R398). -/
def access (s : State) (pa : Nat) (wr : Bool) : State :=
  let l := physLoc pa
  let key := l.ch * 96 + l.pc * 48 + l.bank
  let s := s.inc (if wr then Fl.HBMC_CH_WRACC_count else Fl.HBMC_CH_RDACC_count) [l.ch]
  if (s.hbmc.rows.find? fun r => r.1 = key).any fun r => r.2 = l.row then s
  else (s.inc Fl.HBMC_CH_ACT_count [l.ch]).modHbm fun x => { x with rows := (key, l.row) :: x.rows.filter fun r => r.1 ≠ key }

/-- A channel that takes commands. -/
def chUp (s : State) (n : Nat) : Bool := !(s.hbmc.down.contains n)

/-- A read access of a protected stripe: on a frozen channel, the other seven accesses are read (R403). -/
def protRead (s : State) (pbase k pos : Nat) : State :=
  if s.chUp (physLoc (stripePos pbase k pos)).ch then s.access (stripePos pbase k pos) false
  else (List.range 8).foldl (fun (t : State) q =>
    if q ≠ pos && t.chUp (physLoc (stripePos pbase k q)).ch then t.access (stripePos pbase k q) false else t) s

/-- The accesses that a span of plan bytes makes (R403, R404): whole stripes are written with their parity; a partial stripe
first reads the data accesses that it does not write whole. -/
def spanAccess (s : State) (a n : Nat) (wr : Bool) : State :=
  match s.partAt a, reservedLo ≤ a && a < reservedHi with
  | none, false => s
  | q, _ =>
    let base := (q.map fun x => x.base).getD reservedLo
    let prot := (q.map fun x => x.prot).getD true
    let pbase := (q.map fun x => s.get Fl.HBMC_MAP_pbase [x.id] * 0x200000).getD reservedLo
    let us := (unitsOf a n).map fun u => u - base
    if !prot then
      us.foldl (fun (t : State) o => if t.chUp (physLoc (pbase + o)).ch then t.access (pbase + o) wr else t) s
    else if !wr then
      us.foldl (fun (t : State) o => t.protRead pbase (o / 64 / 7) ((parityPos (o / 64 / 7) + 1 + o / 64 % 7) % 8)) s
    else
      let whole (o : Nat) : Bool := a ≤ base + o && base + o + 64 ≤ a + n
      let ks := (us.map fun o => o / 64 / 7).eraseDups
      ks.foldl (fun (t : State) k =>
        let p := parityPos k
        let full := us.filter fun o => o / 64 / 7 = k && whole o
        let pos (j : Nat) : Nat := (p + 1 + j) % 8
        let t := (List.range 7).foldl (fun (w : State) j =>
          if full.any fun o => o / 64 % 7 = j then w else w.protRead pbase k (pos j)) t
        let mine := us.filter fun o => o / 64 / 7 = k
        let t := mine.foldl (fun (w : State) o =>
          let pa := stripePos pbase k (pos (o / 64 % 7))
          if w.chUp (physLoc pa).ch then w.access pa true else w) t
        if t.chUp (physLoc (stripePos pbase k p)).ch then t.access (stripePos pbase k p) true else t) s

/-- An access at a physical address meets an ECC outcome (R399, R402); corrected data is written back. `plan` is its plan address where it is unprotected.
`cmd` is as HBMC_CH_FRZ_CAUSE codes it. -/
def eccOutcome (s : State) (pa cmd : Nat) (plan : Option Nat) (err : EccErr) : State :=
  let n := (physLoc pa).ch
  if !s.chUp n then s
  else match err with
    | .none => s
    | .correctable =>
      (((s.inc Fl.HBMC_CH_CE_count [n]).evLimited 0x00C0 srcHBMC n (s.rd R.DEV_EPOCH_IN) noFrame
        (1 + 2 ^ 32 * (pa / 64 % 2 ^ 32))).gustFeed kindHbmCe n).access pa true
    | .uncorrectable =>
      let s := s.inc Fl.HBMC_CH_UE_count [n]
      let s := match plan with
        | some a => s.freeRange (a / 64 * 64) 64
        | none => s
      s.freeze n 1 cmd pa

/-- A client's request (R394, R403). Its response goes out: a read's bytes, or a write's acknowledgement, with poison. -/
def hbmReq (s : State) (q : HbmReq) : State :=
  let n := if q.write then q.data.length else q.len
  if n = 0 || !(s.mapped q.addr) || !(s.powered (.hbmc 0)) then s
  else
    let s := match s.phys q.addr with
      | some (pa, prot) => s.eccOutcome pa (b2n q.write) (if prot then none else some q.addr) q.err
      | none => s
    let s := s.spanAccess q.addr n q.write
    let bad := s.poisonedAt q.addr n
    if q.write then (s.hbmWrite q.addr q.data).emit (.hbm q.client q.addr [] bad)
    else s.emit (.hbm q.client q.addr (s.hbmRead q.addr n) bad)

/-- The order in which waiting requests are served: a client in panic at the head of class RT, then the classes of R48 after promotion, the
oldest first inside a class (R48, R49, R390, R392). -/
def hbmOrder (s : State) (l : List HbmReq) : List HbmReq :=
  let rank (q : HbmReq) : Nat :=
    let c := s.waitClass 2 q.id q.cls
    if s.hbmc.panic.contains q.client then 0 else if c < 3 then c + 2 else 1
  sortBy (fun (a b : HbmReq) => decide (rank a < rank b)) l

/-- Waiting requests are served; one that is served waits no longer. -/
def hbmServe (s : State) (l : List HbmReq) : State := (s.hbmOrder l).foldl (fun (t : State) q => (t.hbmReq q).promoDone 2 q.id) s

/-! ### Scrub (R400) -/

/-- The mapped physical extents in ascending order: start, bytes, plan base, protected. -/
def extents (s : State) : List (Nat × Nat × Nat × Bool) :=
  let l := s.graph.parts.map fun q =>
    (s.get Fl.HBMC_MAP_pbase [q.id] * 0x200000, if q.prot then q.size * 8 / 7 else q.size, q.base, q.prot)
  sortBy (fun (a b : Nat × Nat × Nat × Bool) => a.1 < b.1) l ++ [(reservedLo, 0x3F000000, reservedLo, true)]

def scrubRead (s : State) (err : EccErr) : State :=
  if s.get Fl.HBMC_CFG_scrub_h = 0 || !(s.powered (.hbmc 0)) then s
  else
    let ex := s.extents
    let at_ (p : Nat) : Option (Nat × Nat × Nat × Nat × Bool) :=
      ex.findSome? fun e => if p < e.1 + e.2.1 then some (max p e.1, e) else none
    match (at_ s.hbmc.scrub).orElse fun _ => at_ 0 with
    | none => s
    | some (pa, e) =>
      let s := s.modHbm fun x => { x with scrub := pa + 64 }
      let s := s.eccOutcome pa 2 (if e.2.2.2 then none else some (e.2.2.1 + (pa - e.1))) err
      if s.chUp (physLoc pa).ch then s.access pa false else s

/-! ### Refresh and temperature (R395 to R397) -/

/-- The tick: rows close, a change of tREFI takes effect, main delays move one tap (R395, R396, R408). -/
def refreshTick (s : State) : State :=
  if !s.hbmc.ticking || !(s.powered (.hbmc 0)) then s
  else
    let moves := s.hbmc.delays
    let s := moves.foldl (fun (t : State) d =>
      let ix := [d.1 / 72, d.1 % 72]
      let now := t.get Fl.HBMC_CH_DLY_main ix
      t.put Fl.HBMC_CH_DLY_main ix (if now < d.2 then now + 1 else if d.2 < now then now - 1 else now)) s
    let left := moves.filter fun d => s.get Fl.HBMC_CH_DLY_main [d.1 / 72, d.1 % 72] ≠ d.2
    let h := s.hbmc.hot
    let s := s.modHbm fun x => { x with rows := [], delays := left, hot := none }
    match h with
    | some (hot, stack, temp) =>
      ((s.put Fl.HBMC_REFRESH_hot [] (b2n hot)).put Fl.HBMC_REFRESH_trefi_ns [] (if hot then 1950 else 3900)).ev 0x00C1 srcHBMC 0
        (b2n hot + 256 * stack + 65536 * temp)
    | none => s

/-- A stack reports its temperature (R396). -/
def tempReport (s : State) (k : Nat) (temp : Int) : State :=
  if 4 ≤ k || !(s.powered (.hbmc 0)) then s
  else
    let s := s.put Fl.HBMC_TEMP_now [k] (unsigned 8 temp)
    let s := if (s.get Fl.HBMC_TEMP_max [k] : Int) < temp then s.put Fl.HBMC_TEMP_max [k] (unsigned 8 temp) else s
    let read (i : Nat) : Int := signed 8 (s.get Fl.HBMC_TEMP_now [i])
    let now := s.flag Fl.HBMC_REFRESH_hot
    let anyHot := (List.range 4).any fun i => 85 < read i
    let cool := (List.range 4).all fun i => read i ≤ 83
    let want := if anyHot then true else if cool then false else now
    let s := s.modHbm fun x => { x with hot := if want = now then none else some (want, k, unsigned 8 temp) }
    if (s.get Fl.HBMC_CFG_temp_alarm : Int) < temp then s.ev 0x40C2 srcHBMC k (unsigned 8 temp) else s

/-! ### Command parity, release, repair and margins (R401, R406 to R409) -/

/-- A parity alert (R401): one replay; a second alert during it freezes the channel. Which command failed is known to the
controller only, so its kind and address are free values. -/
def caparAlert (s : State) (n : Nat) (again : Bool) : State :=
  if 64 ≤ n || !(s.chUp n) || !(s.powered (.hbmc n)) then s
  else
    let s := s.inc Fl.HBMC_CH_CAPAR_count [n]
    if again then
      let a := s.fresh
      let c := a.2.fresh
      c.2.freeze n 2 (c.1 % 4) (a.1 % 0x2400000000 / 64 * 64)
    else s

/-- Release of a frozen channel (R406, R407). -/
def channelRelease (s : State) (n : Nat) (byHost : Bool) : State :=
  let cause := s.get Fl.HBMC_CH_FRZ_CAUSE_cause [n]
  if 64 ≤ n || s.get Fl.HBMC_CH_STAT_state [n] ≠ 3 then s
  else if !byHost && (s.get Fl.HBMC_CFG_auto ≠ 1 || cause = 3) then s
  else if cause = 3 then
    ((s.put Fl.HBMC_CH_STAT_state [n] 1).put Fl.HBMC_CH_CTRL_release [n] 1).modHbm fun x => { x with retrain := insertCh n x.retrain }
  else
    let loc := s.rd R.HBMC_CH_FRZ_LOC [n]
    let row := bits loc 31 17 + 2 ^ 15 * (bits loc 15 14 * 16 + bits loc 13 12 * 4 + bits loc 11 10) + 2 ^ 21 * bits loc 16 16
    let s : State := if !byHost && s.flag Fl.HBMC_CH_CTRL_ppr [n] then { s with nv := { s.nv with repairs := s.nv.repairs ++ [(n, row)] } }
      else s
    let s := ((s.put Fl.HBMC_CH_STAT_state [n] 4).put Fl.HBMC_CH_RESYNC_active [n] 1).put Fl.HBMC_CH_RESYNC_permille [n] 0
    ((s.put Fl.HBMC_CH_CTRL_release [n] 0).modHbm fun x => { x with down := x.down.erase n, sync := insertCh n x.sync }).groupsShow

/-- The end of a resync, and of the training before it (R406, R407). -/
def resyncEnd (s : State) (n : Nat) (trainOk : Bool) (ms : Nat) : State :=
  let again := s.hbmc.retrain.contains n
  if !again && !(s.hbmc.sync.contains n) then s
  else if again && !trainOk then
    ((s.put Fl.HBMC_CH_STAT_state [n] 3).put Fl.HBMC_CH_CTRL_release [n] 0).modHbm fun x => { x with retrain := x.retrain.erase n }
  else
    let s := s.modHbm fun x => { x with retrain := x.retrain.erase n, down := x.down.erase n, sync := x.sync.erase n }
    let s := ((s.put Fl.HBMC_CH_STAT_state [n] 2).put Fl.HBMC_CH_STAT_resync_done [n] 1).put Fl.HBMC_CH_CTRL_release [n] 0
    let s := (s.put Fl.HBMC_CH_RESYNC_active [n] 0).put Fl.HBMC_CH_RESYNC_permille [n] 1000
    (s.groupsShow).ev 0x00C2 srcHBMC n (ms % 2 ^ 16)

/-- A repair of the named row (R409). -/
def pprGo (s : State) (n v : Nat) (ok : Bool) : State :=
  if 64 ≤ n || !bit v 31 then s
  else
    let s := s.writeFields ⟨R.HBMC_CH_PPR, [Fl.HBMC_CH_PPR_fail, Fl.HBMC_CH_PPR_hard, Fl.HBMC_CH_PPR_pc, Fl.HBMC_CH_PPR_bank,
      Fl.HBMC_CH_PPR_row]⟩ [n] v
    let row := s.rd R.HBMC_CH_PPR [n] % 2 ^ 22
    if s.get Fl.HBMC_CH_STAT_state [n] ≠ 3 || !ok then s.put Fl.HBMC_CH_PPR_fail [n] 1
    else if s.flag Fl.HBMC_CH_PPR_hard [n] then { s with nv := { s.nv with hard := s.nv.hard ++ [(n, row)] } }
    else { s with nv := { s.nv with repairs := s.nv.repairs ++ [(n, row)] } }

/-- A margin scan of a channel (R408): per lane its margin in taps and the main delay that it calls for. Where the scan
sampler is left is not stated: free values. -/
def marginScan (s : State) (n : Nat) (eyes : List (Nat × Nat)) : State :=
  if 64 ≤ n || eyes.length ≠ 72 || s.get Fl.HBMC_CH_STAT_state [n] ≠ 2 then s
  else
    let s := s.put Fl.HBMC_CH_TRAIN_scans [n] ((s.get Fl.HBMC_CH_TRAIN_scans [n] + 1) % 2 ^ 16)
    let s := s.put Fl.HBMC_CH_TRAIN_margin [n] (min 255 (((eyes.map (·.1)).min?).getD 0))
    let s := (List.range 72).foldl (fun (t : State) i => (t.fresh.2).put Fl.HBMC_CH_DLY_scan [n, i] (t.fresh.1 % 256)) s
    let want := eyes.mapIdx fun i e => (n * 72 + i, e.2 % 256)
    let due := want.filter fun d => s.get Fl.HBMC_CH_DLY_main [n, d.1 % 72] ≠ d.2
    s.modHbm fun x => { x with delays := x.delays.filter (fun d => d.1 / 72 ≠ n) ++ due }

/-! ### Panic (R392) -/

/-- A client raises panic: its margin is below HBMC_PANIC.mark. -/
def panicUp (s : State) (client margin : Nat) : State :=
  if s.hbmc.panic.contains client || s.get Fl.HBMC_PANIC_mark ≤ margin || !(s.powered (.hbmc 0)) then s
  else
    let s := (s.modHbm fun x => { x with panic := x.panic ++ [client] }).inc Fl.HBMC_PANIC_CNT_count
    let s := s.evLimited 0x00C3 srcHBMC 0 (s.rd R.DEV_EPOCH_IN) noFrame (client % 256 + 2 ^ 32)
    s.trace srcHBMC 4 0 (s.rd R.DEV_EPOCH_IN) noFrame

/-- A client drops panic: its margin is above HBMC_PANIC.mark + hyst. Each channel counts the cycles that it has spent under it. -/
def panicDown (s : State) (client margin : Nat) (cycles : List (Nat × Nat)) : State :=
  if !s.hbmc.panic.contains client || margin ≤ s.get Fl.HBMC_PANIC_mark + s.get Fl.HBMC_PANIC_hyst then s
  else
    cycles.foldl (fun (t : State) c => t.inc Fl.HBMC_CH_PANICCYC_count [c.1] c.2)
      (s.modHbm fun x => { x with panic := x.panic.erase client })

end State

/-- REFRESH_TICK (R395). -/
def execRefreshTick (s : State) : Res := .next s.refreshTick

/-- HBM_TEMP_REPORT (R396). -/
def execHbmTempReport (stack : Nat) (temp : Int) (s : State) : Res := .next (s.tempReport stack temp)

/-- HBM_REQUEST (R48, R394, R399, R403). -/
def execHbmRequest (rqs : List HbmReq) (s : State) : Res := .next (s.hbmServe rqs)

/-- SCRUB_READ (R400). -/
def execScrubRead (err : EccErr) (s : State) : Res := .next (s.scrubRead err)

/-- CAPAR_ALERT (R401). -/
def execCaparAlert (ch : Nat) (again : Bool) (s : State) : Res := .next (s.caparAlert ch again)

/-- EV_HBM_PANIC (R392). -/
def execEvHbmPanic (client : Nat) (s : State) (margin : Nat := 0) : Res := .next (s.panicUp client margin)

/-- PANIC_DROP (R392). -/
def execPanicDrop (client : Nat) (s : State) (margin : Nat := 0) (cycles : List (Nat × Nat) := []) : Res :=
  .next (s.panicDown client margin cycles)

/-- CHANNEL_RELEASE (R406). -/
def execChannelRelease (ch : Nat) (byHost : Bool) (s : State) : Res := .next (if byHost then s.onUnit (.hbmc ch) fun s => s.channelRelease ch true else s.channelRelease ch false)

/-- EV_HBM_RESYNC (R406). -/
def execEvHbmResync (ch : Nat) (trainOk : Bool) (ms : Nat) (s : State) : Res := .next (s.resyncEnd ch trainOk ms)

/-- PPR (R409). -/
def execPpr (ch v : Nat) (ok : Bool) (s : State) : Res := .next (s.onUnit (.hbmc ch) fun s => s.pprGo ch v ok)

/-- MARGIN_SCAN (R408). -/
def execMarginScan (ch : Nat) (eyes : List (Nat × Nat)) (s : State) : Res := .next (s.marginScan ch eyes)

end Sys2Proof.Machine
end

