-- ==== Sys2Proof/Machine/Zst.lean ====
section
/-! DEFINITION. Compression engines (R291 to R295): a job is taken from the descriptor ring, and completes with its result. -/

namespace Sys2Proof.Machine

def stNoSpace : Nat := 0x8090
def stZstCorrupt : Nat := 0x8091
def stZstDict : Nat := 0x8092

namespace State

/-- Bytes of host memory or HBM. -/
def memRead (s : State) (host : Bool) (a n : Nat) : Bytes := if host then s.host.read a n else s.hbmRead a n
def memWrite (s : State) (host : Bool) (a : Nat) (b : Bytes) : State := if host then s.hostWrite a b else s.hbmWrite a b

/-- Does a range lie in a partition of the memory plan (R295). -/
def inPartition (s : State) (a n : Nat) : Bool := s.graph.parts.any fun q => q.base ≤ a && a + n ≤ q.base + q.size

/-- The job that a descriptor asks for (R292 to R295). -/
def zstPlan (s : State) (e addr : Nat) (inHost : Bool) : ZstJob × Nat × Nat :=
  let d := s.memRead inHost addr 64
  let op := fieldLe d 0 1
  let level := fieldLe d 1 1
  let flags := fieldLe d 2 1
  let q := fieldLe d 3 1
  let src := fieldLe d 8 8
  let len := fieldLe d 16 4
  let cap := fieldLe d 20 4
  let dst := fieldLe d 24 8
  let input := s.memRead (bit flags 0) src len
  let badArg : Bool := (!(bit flags 0) && !(s.inPartition src len)) || (!(bit flags 1) && !(s.inPartition dst cap))
    || (op = 1 && (level = 0 || 9 < level || 13 < q / 16))
  let res : Bytes × Nat :=
    if op ≠ 1 && op ≠ 2 then ([], stBadOp)
    else if badArg then ([], stBadArg)
    else if op = 1 then (zstdCompress level (q / 16) (bit flags 2) input, stOk)
    else
      let r := zstdRun (input.length + 1) [] input
      (r.1, if r.2 = 0 then stOk else if r.2 = 2 then stZstDict else stZstCorrupt)
  let res := if res.2 = stOk && cap < res.1.length then ([], stNoSpace) else res
  (⟨addr, inHost, op, flags, q % 16, fieldLe d 4 4, dst, if res.2 = stOk then res.1 else [], res.2, none⟩, cap, e)

/-- A metadata job of REC: one frame at level REC_CFG.mlevel (R288; its window and checksum are the model's, log 118). -/
def recJobPlan (s : State) (j : RecJob) : ZstJob :=
  ⟨0, false, 1, 0, 0, 0, 0, zstdCompress (s.get Fl.REC_CFG_mlevel) 13 false j.input, stOk, some j⟩

/-- One descriptor of ring `i` (2 the decode core's) has gone of those that stood in it at the last host function reset. -/
def jobGone (s : State) (i : Nat) : State := { s with oldJobs := modNth s.oldJobs i fun n => n - 1 }

/-- Did the descriptor at the head of ring `i` stand there at the last host function reset (R74). -/
def oldJob (s : State) (i : Nat) : Bool := s.oldJobs.getD i 0 ≠ 0

/-- The next descriptor of an engine's ring (R291, R295). One that stood in a ring in HBM at a host function reset and names host memory
ends without a result (R74). -/
def zstRingJob (s : State) (e : Nat) : State :=
  if !s.flag Fl.ZST_CTRL_enable [e] || s.rd R.ZST_TAIL [e] = s.rd R.ZST_HEAD [e] then s
  else
    let at_ := s.rd64 R.ZST_RING_LO R.ZST_RING_HI [e] + s.rd R.ZST_HEAD [e] % 2 ^ s.get Fl.ZST_CTRL_log2size [e] * 64
    let j := (s.zstPlan e at_ (s.flag Fl.ZST_CTRL_host [e])).1
    if s.oldJob e && j.flags % 4 ≠ 0 then (s.wr R.ZST_HEAD [e] ((s.rd R.ZST_HEAD [e] + 1) % 2 ^ 32)).jobGone e
    else { s with zst := s.zst.set e (some j) }

/-- An engine takes its next job: REC's metadata jobs, of class HI, come before those of its ring (R291, R295; log 118). -/
def zstJob (s : State) (e : Nat) : State :=
  if !(e < 2 && s.powered .zst) || (s.zst.getD e none).isSome then s
  else
    match takeFirst (fun (j : RecJob) => j.engine = e) s.rs.jobs with
    | some (j, rest) => { s.modRec fun x => { x with jobs := rest } with zst := s.zst.set e (some (s.recJobPlan j)) }
    | none => s.zstRingJob e

/-- The job of an engine ends (R294, R295): destination, result fields, HEAD, completion record. The destination bytes of a
failing job are undefined (R294): they are free, where the destination is one. A metadata job becomes a chunk of its take (R288). -/
def zstComplete (s : State) (e : Nat) : State :=
  match s.zst.getD e none with
  | none => s
  | some j =>
    let s : State := { s with zst := s.zst.set e none }
    match j.rec_ with
    | some r => (if s.rs.dusk || s.rs.landed || s.rs.dead then s else s.addChunk r.take 4 r.fid s.dt r.epoch 0 0 j.out).inc Fl.ZST_JOBS_done [e]
    | none =>
    let ok : Bool := j.code = stOk
    let cap := fieldLe (s.memRead j.inHost j.addr 64) 20 4
    let s := if ok then s.memWrite (bit j.flags 1) j.dst j.out
      else if !(bit j.flags 1) && !(s.inPartition j.dst cap) then s
      else let r := s.freeBytes cap; r.2.memWrite (bit j.flags 1) j.dst r.1
    let s := s.memWrite j.inHost (j.addr + 32) (leBytes 4 j.out.length ++ leBytes 2 j.code)
    let s := s.wr R.ZST_HEAD [e] ((s.rd R.ZST_HEAD [e] + 1) % 2 ^ 32)
    let s := (s.jobGone e).inc Fl.ZST_JOBS_done [e]
    let s := if ok then s else s.inc Fl.ZST_JOBS_failed [e]
    if ok && bit j.flags 3 then s else s.evDone j.code srcZST e j.q (j.tag + 2 ^ 32 * j.op)

end State

/-- ZST_JOB (R291, R295). -/
def execZstJob (e : Nat) (s : State) : Res := .next (s.zstJob e)

/-- ZST_JOB_COMPLETE (R294, R295). -/
def execZstJobComplete (e : Nat) (s : State) : Res := .next (s.zstComplete e)

end Sys2Proof.Machine
end

