-- ==== Sys2Proof/Machine/Vce.lean ====
section
/-! DEFINITION. The encode cores (R330 to R350): taking published frames, the configuration check, picture types, rate
control and the access-unit ring. The coded bits themselves are ITU-T H.265's and come with the command (log 4). -/

namespace Sys2Proof.Machine

/-- Limits of a level (H.265 Annex A, log 21): level × 30, MaxLumaPs, MaxLumaSr, MaxBR and MaxCPB of the Main and High tier. -/
def hevcLevels : List (Nat × Nat × Nat × Nat × Nat × Nat × Nat) :=
  [(30, 36864, 552960, 128, 128, 350, 350), (60, 122880, 3686400, 1500, 1500, 1500, 1500),
   (63, 245760, 7372800, 3000, 3000, 3000, 3000), (90, 552960, 16588800, 6000, 6000, 6000, 6000),
   (93, 983040, 33177600, 10000, 10000, 10000, 10000), (120, 2228224, 66846720, 12000, 30000, 12000, 30000),
   (123, 2228224, 133693440, 20000, 50000, 20000, 50000), (150, 8912896, 267386880, 25000, 100000, 25000, 100000),
   (153, 8912896, 534773760, 40000, 160000, 40000, 160000), (156, 8912896, 1069547520, 60000, 240000, 60000, 240000),
   (180, 35651584, 1069547520, 60000, 240000, 60000, 240000), (183, 35651584, 2139095040, 120000, 480000, 120000, 480000),
   (186, 35651584, 4278190080, 240000, 800000, 240000, 800000)]

/-- round(6 log2(a / b)) clamped to ±c (R344): the largest k with (a / b)^12 ≥ 2^(2k − 1). -/
def log2Steps (a b c : Nat) : Int :=
  let ok (k : Int) : Bool := if 1 ≤ k then b ^ 12 * 2 ^ (2 * k - 1).toNat ≤ a ^ 12 else b ^ 12 ≤ a ^ 12 * 2 ^ (1 - 2 * k).toNat
  (List.range (2 * c + 1)).foldl (fun (best : Int) i => if ok ((i : Int) - c) then (i : Int) - c else best) (-(c : Int))

/-- Decode order of the pictures strictly between places lo and hi of a mini-GOP (R333: hierarchical B). -/
def bOrder : Nat → Nat → Nat → List Nat
  | 0, _, _ => []
  | n + 1, lo, hi => if hi - lo ≤ 1 then [] else ((lo + hi) / 2) :: (bOrder n lo ((lo + hi) / 2) ++ bOrder n ((lo + hi) / 2) hi)

/-- A filler data NAL unit of `n` bytes with its start code (R343; its layout is H.265's, log 21). -/
def fillerNal (n : Nat) : Bytes := [0, 0, 1, 0x4C, 1] ++ List.replicate (n - 6) 0xFF ++ [0x80]

/-- What rate control needs of a picture (R343, R344), in units of 10^-6 bit. -/
structure RcIn where
  rc : Nat
  /-- type index: 0 I, 1 P, 2 B -/
  t : Nat
  avg : Int
  cpb : Int
  f : Int
  ctus : Nat
  rows : Nat
  qpMin : Nat
  qpMax : Nat
  /-- the QP of CQP mode -/
  base : Nat
  last : Option (Nat × Nat)

def RcIn.lim (r : RcIn) : Int := r.f - (64 * r.ctus + 2048 : Nat) * 1000000

def RcIn.tgt (r : RcIn) : Int :=
  let w := match r.t with | 0 => r.avg * 4 | 1 => r.avg | _ => r.avg / 2
  min (max (w + (r.cpb / 2 - r.f) / 8) (r.avg / 8)) r.lim

def RcIn.clampQp (r : RcIn) (q : Int) : Nat := (min (max q (min r.qpMin r.qpMax : Nat)) (r.qpMax : Nat)).toNat

/-- A ratio of bits to a target as QP steps; a target of 0 or less asks for the largest step. -/
def qpSteps (bits_ : Nat) (tgt : Int) (c : Nat) : Int := if tgt ≤ 0 then c else log2Steps (bits_ * 1000000) tgt.toNat c

/-- The picture's QP (R344). -/
def RcIn.startQp (r : RcIn) : Nat :=
  if r.rc = 0 then min r.base 51
  else match r.last with
    | some (q, b) => r.clampQp ((q : Int) + qpSteps b r.tgt 6)
    | none => r.clampQp r.base

/-- QP of each CTU row, from the bits of the rows (R344). -/
def RcIn.rowQps (r : RcIn) (rowBits : List Nat) : List Nat :=
  if r.rc = 0 then List.replicate r.rows r.startQp
  else
    ((List.range r.rows).foldl (fun (a : List Nat × Nat × Int) i =>
      let rb := (r.tgt - a.2.2) / ((r.rows - i : Nat) : Int)
      let b := rowBits.getD i 0
      (a.1 ++ [a.2.1], r.clampQp ((a.2.1 : Int) + qpSteps b rb 3), a.2.2 + (b : Int) * 1000000)) ([], r.startQp, 0)).1

/-- The first CTU coded in floor mode (R345): bits used with 64 for each uncoded CTU would exceed lim. -/
def floorAt (lim : Int) (ctus : Nat) (bits_ : List Nat) : Option Nat :=
  (bits_.foldl (fun (a : Nat × Nat × Option Nat) b =>
    let used := a.2.1 + b
    let bad : Bool := lim < ((used + 64 * (ctus - (a.1 + 1)) : Nat) : Int) * 1000000
    (a.1 + 1, used, a.2.2.orElse fun _ => if bad then some a.1 else none)) (0, 0, none)).2.2

namespace State

/-! ### Settings -/

/-- Words of the fields marked S of an encode core in an epoch (R339). -/
def encS (s : State) (e k : Nat) : List Nat :=
  let c := s.effRd e R.VCE_CTRL [k]
  [bits c 30 1, s.effRd e R.VCE_GOP [k], s.effRd e R.VCE_TICK [k], s.effRd e R.VCE_SCALE [k], s.effRd e R.VCE_RATE [k],
    s.effRd e R.VCE_CPB [k], s.effRd e R.VCE_WORK_LO [k], s.effRd e R.VCE_WORK_HI [k], s.effRd e R.VCE_ORING_LO [k],
    s.effRd e R.VCE_ORING_HI [k], s.effRd e R.VCE_ORING_SIZE [k]]

/-- Clock ticks and time scale of an encode core (R338). -/
def encTick (s : State) (e k p : Nat) : Nat :=
  let t := s.effRd e R.VCE_TICK [k]
  if t = 0 then s.devPeriod e p else t

def encScale (s : State) (e k : Nat) : Nat :=
  let t := s.effRd e R.VCE_SCALE [k]
  if t = 0 then 1000000000 else t

def encRefs (s : State) (e k : Nat) : Nat := if s.eff e Fl.VCE_CTRL_gdr [k] = 1 then 1 else s.eff e Fl.VCE_GOP_refs_m1 [k] + 1

/-- Bytes of the work area (R342). -/
def encWorkSize (s : State) (e k : Nat) (br : BranchRec) : Nat :=
  let samples := br.width * br.height
  let fmt := s.eff e Fl.OUTF_CTRL_fmt [br.pipe * 8 + br.branch]
  let rec_ := (if fmt = fmtYC422P10 then 2 * samples else samples + samples / 2) * (if fmt = fmtYC420P8 then 1 else 2)
  (s.encRefs e k + 2) * (rec_ + samples / 16)

/-- The configuration check (R336): 0, or the first cause that holds. -/
def encCheck (s : State) (e k : Nat) (br : BranchRec) : Nat :=
  let w := br.width
  let h := br.height
  let fmt := s.eff e Fl.OUTF_CTRL_fmt [br.pipe * 8 + br.branch]
  let profile := s.eff e Fl.VCE_CTRL_profile [k]
  let high : Bool := s.eff e Fl.VCE_CTRL_tier [k] = 1
  let tick := max 1 (s.encTick e k br.pipe)
  let scale := s.encScale e k
  let factor := if profile = 2 then 1833 else 1100
  let rated : Bool := s.eff e Fl.VCE_CTRL_rc [k] ≠ 0
  let lv := hevcLevels.find? fun l => l.1 = s.eff e Fl.VCE_CTRL_level_idc [k]
  let ctus := ceilDiv w 64 * ceilDiv h 64
  let cycles := if fmt = fmtYC422P10 then 2000 else 1600
  if w < 64 || 8192 < w || h < 64 || 4352 < h || w % 8 ≠ 0 || h % 8 ≠ 0 then 1
  else if lv.any fun l => l.2.1 < w * h || l.2.2.1 * tick < w * h * scale then 2
  else if rated && lv.any fun l =>
      (if high then l.2.2.2.2.1 else l.2.2.2.1) * factor < s.effRd e R.VCE_RATE [k] * 1000 ||
      (if high then l.2.2.2.2.2.2 else l.2.2.2.2.2.1) * factor < s.effRd e R.VCE_CPB [k] * 1000 then 3
  else if 900000000 * tick < ctus * scale * cycles then 4
  else if !((profile = 0 && fmt = fmtYC420P8) || (profile = 1 && (fmt = fmtYC420P8 || fmt = fmtYC420P10)) ||
      (profile = 2 && fmt = fmtYC422P10)) then 5
  else if !(s.regionOk (s.epochRec e).graph br.pipe (s.effRd e R.VCE_WORK_LO [k] + 2 ^ 32 * s.effRd e R.VCE_WORK_HI [k]) (s.encWorkSize e k br)) then 6
  else 0

/-! ### Taking published frames (R337) -/

def encHeld (s : State) (k : Nat) : Nat := (s.enc k).queue.length + (s.enc k).order.length

/-- Depth of the buffer that feeds a core. -/
def encDepth (s : State) (br : BranchRec) : Nat :=
  (((s.graph.branchEdge? br.pipe br.branch).bind fun e => s.graph.buffer? e.buffer).map fun b => b.depth).getD 0

/-- Frames are taken in seq order while the core may hold another; a core that is disabled, or whose check failed, releases
them at once (R336). It is busy while a mini-GOP has pictures to code. -/
def encPull (s : State) (k : Nat) : State :=
  match s.encBranch k with
  | none => s
  | some br =>
    let s := (s.outf (br.pipe * 8 + br.branch)).pub.foldl (fun (t : State) f =>
      let x := t.enc k
      if f.k < x.taken then t
      else if t.eff f.epoch Fl.VCE_CTRL_enable [k] = 0 then t.modEnc k fun y => { y with taken := f.k + 1, off := true }
      else if x.epoch = some f.epoch && !x.ok then t.modEnc k fun y => { y with taken := f.k + 1 }
      else if t.encHeld k + 1 ≤ t.encDepth br - 1 then
        t.modEnc k fun y => { y with
          taken := f.k + 1, queue := y.queue ++ [f], off := false, starts := if y.off then y.starts ++ [f.k] else y.starts }
      else t) s
    (s.put Fl.VCE_STAT_held [k] (s.encHeld k)).put Fl.VCE_STAT_busy [k] (b2n (!(s.enc k).order.isEmpty))

/-! ### The access-unit ring (R348 to R350) -/

/-- The lowest read count among the attached consumers; OWR where none is attached. REC reads each record as it is
written (R286). -/
def encRead (s : State) (k : Nat) : Nat :=
  let wr := s.rd R.VCE_OWR [k]
  let lag (c : Nat) : Nat := (wr + 2 ^ 32 - c) % 2 ^ 32
  let l := (if s.flag Fl.VCE_RTP_CTRL_en [k] then [lag (s.enc k).rtpRd] else []) ++
    (if s.flag Fl.VCE_OCTL_host_en [k] then [lag (s.rd R.VCE_OHOST [k])] else [])
  (wr + 2 ^ 32 - l.foldl max 0) % 2 ^ 32

/-- Records between a read count and OWR, fillers left out. -/
def encUnread (s : State) (k c : Nat) : Nat → Nat
  | 0 => 0
  | n + 1 =>
    if c = s.rd R.VCE_OWR [k] || (s.enc k).size = 0 then 0
    else
      let at_ := (s.enc k).base + c % (s.enc k).size
      let len := leNat (s.hbmRead at_ 4)
      if len = 0 then 0
      else (if leNat (s.hbmRead (at_ + 36) 1) = 0xFF then 0 else 1) + s.encUnread k ((c + len) % 2 ^ 32) n

/-- The ring of an epoch; a change starts it empty and abandons what is unread (R350). -/
def encRing (s : State) (e k : Nat) : State :=
  let base := s.effRd e R.VCE_ORING_LO [k] + 2 ^ 32 * s.effRd e R.VCE_ORING_HI [k]
  let size := s.eff e Fl.VCE_ORING_SIZE_mib [k] * 2 ^ 20
  if (s.enc k).base = base && (s.enc k).size = size then s
  else
    let left := s.encUnread k (s.encRead k) ((s.enc k).size / 64)
    let s := s.inc Fl.VCE_DROP_count [k] left
    let s := s.modEnc k fun x => { x with base := base, size := size, rtpRd := 0 }
    (s.wr R.VCE_OWR [k] 0).wr R.VCE_OHOST [k] 0

/-- The header of a record (R348). -/
def auHeader (len bytes fid epoch poc time ts typ flags qp pipe count : Nat) : Bytes :=
  let b := leBytes 4 len ++ leBytes 4 bytes ++ leBytes 8 fid ++ leBytes 4 epoch ++ leBytes 4 poc ++ leBytes 8 time ++ leBytes 4 ts
    ++ leBytes 1 typ ++ leBytes 1 flags ++ leBytes 1 qp ++ leBytes 1 pipe ++ leBytes 8 count ++ List.replicate 12 0
  b ++ leBytes 4 (crc32c b)

/-- A record enters the ring; it does not wrap (R348). -/
def encWrite (s : State) (k : Nat) (header data : Bytes) : State :=
  let x := s.enc k
  let len := 64 + roundUp data.length 64
  let wr := s.rd R.VCE_OWR [k]
  let at_ := wr % x.size
  let fill := if at_ + len ≤ x.size then 0 else x.size - at_
  let s := if fill = 0 then s else s.hbmWrite (x.base + at_) (auHeader fill 0 0 0 0 0 0 0xFF 0 0 0 0)
  let at_ := (at_ + fill) % x.size
  let s := s.hbmWrite (x.base + at_ + 64) (data ++ List.replicate (len - 64 - data.length) 0)
  (s.hbmWrite (x.base + at_) header).wr R.VCE_OWR [k] ((wr + fill + len) % 2 ^ 32)

/-- TB3 at an instant of device time. -/
def tb3At (s : State) (t : Nat) : Nat := (s.tbNs 3 + t - s.dt) % 2 ^ 64

/-- The RTP timestamp of a frame boundary (R351). -/
def rtpStamp (s : State) (k time : Nat) : Nat :=
  let t := if s.get Fl.VCE_RTP_CTRL_ts_base [k] = 1 then s.tb3At time else time
  (s.rd R.VCE_RTP_TSOFF [k] + t * 9 / 100000) % 2 ^ 32

/-! ### Building a mini-GOP (R337, R339, R340) -/

/-- Takes that record this core's proxy (R349). -/
def proxyTakes (s : State) (k : Nat) : List (Nat × Nat) :=
  (List.range 8).filterMap fun p =>
    match s.liveTake p with
    | some t => if t.core = k && bit (s.takeStreams t.num) 1 then some (p, t.num) else none
    | none => none

/-- The core meets the first frame of an epoch (R336, R339, R350). -/
def encEpoch (s : State) (k : Nat) (br : BranchRec) (e : Nat) : State :=
  let cause := s.encCheck e k br
  let s := s.encRing e k
  if cause ≠ 0 then
    let s := s.modEnc k fun x => { x with epoch := some e, ok := false, queue := x.queue.filter fun f => f.epoch ≠ e }
    let s := ((s.put Fl.VCE_STAT_cfg_refused [k] 1).put Fl.VCE_STAT_cause [k] cause).put Fl.VCE_STAT_coding [k] 0
    s.ev 0x00A1 srcVCE k cause
  else
    let x := s.enc k
    let changed : Bool := match x.epoch with
      | some o => decide (s.encS o k ≠ s.encS e k) || !x.ok
      | none => true
    let cpb : Int := s.effRd e R.VCE_CPB [k] * 900000000
    let s := s.modEnc k fun y => { y with
      epoch := some e, ok := true, force := y.force || changed
      full := if changed then cpb else y.full
      bpTime := if changed then none else y.bpTime }
    s.put Fl.VCE_STAT_coding [k] 1

/-- A take that attaches asks for an IDR (R349). -/
def encRequests (s : State) (k : Nat) : State :=
  let now := (s.proxyTakes k).map fun q => q.2
  let x := s.enc k
  let fresh_ : Bool := now.any fun n => !(x.takes.contains n)
  s.modEnc k fun y => { y with takes := now, proxies := y.proxies.filter fun n => now.contains n, force := y.force || fresh_ }

/-- The core starts with frame number `n`, after frames that it released while it was disabled: its decode-order count and its model CPB
begin anew (R343, R348; log 120). -/
def encStart (s : State) (e k n : Nat) : State :=
  s.modEnc k fun y => { y with
    coded := false, count := 0, starts := y.starts.filter fun q => q ≠ n
    full := (s.effRd e R.VCE_CPB [k] * 900000000 : Nat), bpTime := none }

/-- The next pictures in decode order, built from the held frames where they close a mini-GOP (R337, R339, R340). -/
def encBuild (s : State) (k : Nat) (br : BranchRec) (e : Nat) : State :=
  let x := s.enc k
  let gdr : Bool := s.eff e Fl.VCE_CTRL_gdr [k] = 1
  let period := s.eff e Fl.VCE_GOP_idr_period [k]
  let due (n : Nat) : Bool := !gdr && period ≠ 0 && period ≤ n
  match x.queue with
  | [] => s
  | h :: rest =>
    let fresh_ : Bool := x.starts.contains h.k
    let s := if fresh_ then s.encStart e k h.k else s
    let x := s.enc k
    let idr : Bool := x.force || !x.coded || due x.sinceIdr || (x.dropped && !gdr)
    if idr then
      s.modEnc k fun y => { y with order := [⟨h, 0, 0⟩], queue := rest, force := false, sinceIdr := 1, cyc := 0 }
    else if gdr then
      let g := max 1 (s.eff e Fl.VCE_GOP_gdr_period [k])
      let j := if x.dropped then 0 else x.cyc
      s.modEnc k fun y => { y with
        order := [⟨h, if j = 0 then 1 else 2, y.sinceIdr⟩], queue := rest, sinceIdr := y.sinceIdr + 1, cyc := (j + 1) % g }
    else
      let m := 2 ^ s.eff e Fl.VCE_GOP_mgop [k]
      let fit := ((x.queue.zipIdx).takeWhile fun q =>
        q.1.epoch = e && !(due (x.sinceIdr + q.2)) && !(x.starts.contains q.1.k) && q.2 < m).map fun q => q.1
      let n := fit.length
      if n = m || n < x.queue.length || x.off || due (x.sinceIdr + n) || s.encDepth br - 1 ≤ x.queue.length then
        let pic (i : Nat) (t : Nat) : Option EncPic := (fit[i - 1]?).map fun f => ⟨f, t, x.sinceIdr + i - 1⟩
        let order := (pic n 2).toList ++ (bOrder n 0 n).filterMap fun i => pic i 3
        s.modEnc k fun y => { y with order := order, queue := y.queue.drop n, sinceIdr := y.sinceIdr + n }
      else s

/-! ### Coding a picture -/

/-- Clock ticks from the picture that carries the buffering period to the removal of a picture, to the nearest (R338). -/
def encTicks (s : State) (k : Nat) (br : BranchRec) (pic : EncPic) : Int :=
  let e := pic.frame.epoch
  let unit : Int := (max 1 (s.encTick e k br.pipe) * 1000000000 : Nat)
  match (s.enc k).bpTime with
  | none => 0
  | some b => (2 * ((pic.frame.time : Int) - b) * s.encScale e k + unit) / (2 * unit)

/-- The rate-control inputs of a picture, with the fullness before its removal (R344). -/
def encRc (s : State) (k : Nat) (br : BranchRec) (pic : EncPic) : RcIn :=
  let e := pic.frame.epoch
  let x := s.enc k
  let tick := max 1 (s.encTick e k br.pipe)
  let scale := s.encScale e k
  let rate : Int := s.effRd e R.VCE_RATE [k]
  let cpb : Int := s.effRd e R.VCE_CPB [k] * 1000000000
  let unit : Int := tick * 1000000000
  let f := min cpb (x.full + rate * ((s.encTicks k br pic - x.ticks) * unit / scale))
  let t := if pic.typ = 0 then 0 else if pic.typ = 3 then 2 else 1
  let q := s.eff e Fl.VCE_QP_qp_init [k]
  let base := match t with
    | 0 => q | 1 => q + s.eff e Fl.VCE_QP_dqp_p [k] | _ => q + s.eff e Fl.VCE_QP_dqp_b [k]
  ⟨s.eff e Fl.VCE_CTRL_rc [k], t, rate * unit / scale, cpb, f, ceilDiv br.width 64 * ceilDiv br.height 64, ceilDiv br.height 64,
    s.eff e Fl.VCE_QP_qp_min [k], s.eff e Fl.VCE_QP_qp_max [k], base, x.last.getD t none⟩

/-- The QP of a 16 × 16 group of a `w` × `h` canvas (R347): the rectangles are clipped to it. With no rectangle enabled the QP is its
row's. -/
def groupQp (s : State) (e k w h : Nat) (r : RcIn) (row x y : Nat) : Nat :=
  let cx := x + 8
  let cy := y + 8
  let on (i : Nat) : Bool := s.eff e Fl.VCE_ROI_CTL_en [k, i] = 1
  let inside (i : Nat) : Bool :=
    let px := s.eff e Fl.VCE_ROI_POS_x_or_w [k, i]
    let py := s.eff e Fl.VCE_ROI_POS_y_or_h [k, i]
    on i && px ≤ cx && cx < min w (px + s.eff e Fl.VCE_ROI_SIZE_x_or_w [k, i]) && py ≤ cy
      && cy < min h (py + s.eff e Fl.VCE_ROI_SIZE_y_or_h [k, i])
  if !(List.range 16).any on then row
  else match (List.range 16).find? inside with
    | some i => r.clampQp ((row : Int) + signed 8 (s.eff e Fl.VCE_ROI_CTL_dqp [k, i]))
    | none => r.clampQp row

/-- Average QP of a picture over its 16 × 16 groups, to the nearest integer (R347, R348; log 22). -/
def averageQp (s : State) (e k : Nat) (br : BranchRec) (r : RcIn) (rows : List Nat) (fl : Option Nat) : Nat :=
  let cols := ceilDiv br.width 64
  let qs := (List.range (ceilDiv br.height 16)).flatMap fun gy => (List.range (ceilDiv br.width 16)).map fun gx =>
    let ctu := gy / 4 * cols + gx / 4
    if r.t = 0 && (fl.any fun c => c ≤ ctu) then 51 else s.groupQp e k br.width br.height r (rows.getD (gy / 4) r.startQp) (gx * 16) (gy * 16)
  (2 * qs.sum + qs.length) / (2 * max 1 qs.length)

/-- Bytes that the ring must have free besides the header (R348). -/
def encBound (s : State) (e k : Nat) (br : BranchRec) (r : RcIn) : Nat :=
  if r.rc = 0 then
    let fmt := s.eff e Fl.OUTF_CTRL_fmt [br.pipe * 8 + br.branch]
    let samples := if fmt = fmtYC422P10 then 2 * br.width * br.height else br.width * br.height * 3 / 2
    ceilDiv (samples * (if fmt = fmtYC420P8 then 8 else 10) * 5) 24 + 65536
  else r.lim.toNat / 8000000 + 4096

/-- A picture finds no space in the ring (R348): the rest of its mini-GOP waits again in display order. -/
def encDrop (s : State) (k : Nat) (pic : EncPic) : State :=
  let s := s.modEnc k fun x =>
    let back := (x.order.drop 1).mergeSort fun a b => a.frame.k ≤ b.frame.k
    { x with order := [], queue := back.map (fun o => o.frame) ++ x.queue, dropped := true }
  ((s.inc Fl.VCE_DROP_count [k]).evLimited 0x00A2 srcVCE k pic.frame.epoch pic.frame.fid 1).encPull k

/-- A proxy access unit reaches the takes that record it and cover its frame: from the first IDR record on (R280, R286, R349). -/
def encProxies (s : State) (k : Nat) (pic : EncPic) (au : Bytes) : State :=
  (s.proxyTakes k).foldl (fun (t : State) q =>
    if t.takeCovers q.1 pic.frame.fid && (pic.typ = 0 || (t.enc k).proxies.contains q.2) then
      (t.addChunk q.2 2 pic.frame.fid pic.frame.time pic.frame.epoch 0 0 au).modEnc k fun x =>
        { x with proxies := if x.proxies.contains q.2 then x.proxies else q.2 :: x.proxies }
    else t) s

/-- The motion vectors that the core can code (R341): from -256 to +255.75 by -128 to +127.75, none in an I picture. In picture j of a
refresh cycle the refresh columns hold none, and a block left of them references samples up to 13 left of them (R340). -/
def mvsOk (s : State) (k : Nat) (br : BranchRec) (pic : EncPic) (l : List CodedMv) : Bool :=
  let e := pic.frame.epoch
  let gdr : Bool := s.eff e Fl.VCE_CTRL_gdr [k] = 1
  let g := max 1 (s.eff e Fl.VCE_GOP_gdr_period [k])
  let j := ((s.enc k).cyc + g - 1) % g
  let cols := ceilDiv br.width 64
  let lo := j * cols / g * 64
  let hi := (j + 1) * cols / g * 64
  l.all fun m => pic.typ ≠ 0 && decide (-1024 ≤ m.h) && decide (m.h ≤ 1023) && decide (-512 ≤ m.v) && decide (m.v ≤ 511) && (!gdr ||
    (decide (m.x + m.w ≤ lo) && decide (4 * ((m.x + m.w : Nat) - 1 : Int) + m.h ≤ 4 * ((lo : Int) - 13))) || decide (hi ≤ m.x))

/-- Does what stands before a picture signal what the spec states: nothing before a picture that starts neither a sequence nor a refresh
cycle, else the VUI of R338, the HRD parameters of R343, the recovery point of R340, the quantisation groups of R347 and the content light
level of R333. -/
def setsOk (s : State) (k : Nat) (br : BranchRec) (pic : EncPic) (r : RcIn) (sets : Option CodedSets) : Bool :=
  let e := pic.frame.epoch
  let gdr : Bool := s.eff e Fl.VCE_CTRL_gdr [k] = 1
  let roi : Bool := (List.range 16).any fun i => s.eff e Fl.VCE_ROI_CTL_en [k, i] = 1
  let vui (i : Nat) : Nat := leNat (s.hbmRead (pic.frame.base + i) 1)
  let rate := s.effRd e R.VCE_RATE [k]
  let cll := s.eff e Fl.VCE_CLL_max_cll [k]
  match sets with
  | none => 1 < pic.typ
  | some x =>
    decide (pic.typ ≤ 1) && x.primaries = vui 48 && x.transfer = vui 49 && x.matrix = vui 50 && x.fullRange = 1 - vui 51
      && x.tick = s.encTick e k br.pipe && x.scale = s.encScale e k && !x.fixedRate
      && x.hrd = (if r.rc = 0 then none
        else some ⟨r.rc = 1, rate * 1000, s.effRd e R.VCE_CPB [k] * 1000, (90 * r.f / (1000000 * rate)).toNat⟩)
      && x.profile = s.eff e Fl.VCE_CTRL_profile [k] && x.tier = s.eff e Fl.VCE_CTRL_tier [k]
      && x.level = s.eff e Fl.VCE_CTRL_level_idc [k] && x.width = br.width && x.height = br.height
      && (!gdr || x.constrainedIntra) && (!roi || x.qpDepth = 2)
      && x.recovery = (if pic.typ = 1 then some (s.eff e Fl.VCE_GOP_gdr_period [k] - 1, true, false) else none)
      && x.light = (if vui 49 = 16 && cll ≠ 0 then some (cll, s.eff e Fl.VCE_CLL_max_fall [k]) else none)

/-- The limits of R333, R345 and R348 on what the core codes: one slice, or one per CTU row; no CTU exceeds 5/3 of RawCtuBits, with CBR or VBR no picture underflows the CPB, and
the access unit stays within the bound for which the ring had space. -/
def auOk (s : State) (e k : Nat) (br : BranchRec) (r : RcIn) (au : CodedAu) : Bool :=
  let fmt := s.eff e Fl.OUTF_CTRL_fmt [br.pipe * 8 + br.branch]
  let raw := (if fmt = fmtYC422P10 then 8192 else 6144) * (if fmt = fmtYC420P8 then 8 else 10)
  decide (au.slices = if s.eff e Fl.VCE_CTRL_slice_row [k] = 1 then r.rows else 1)
    && (au.ctuBits.all fun b => decide (3 * b ≤ 5 * raw)) && decide (au.ctuBits.sum ≤ au.data.length * 8)
    && (r.rc = 0 || decide (((au.data.length * 8 : Nat) : Int) * 1000000 ≤ r.f)) && decide (au.data.length ≤ s.encBound e k br r)

/-- The work area holds what the coder needs of its references, in a form that the spec does not give: its content is free (R342, log 2). -/
def encWork (s : State) (e k : Nat) (br : BranchRec) : State :=
  s.hbmUndef (s.effRd e R.VCE_WORK_LO [k] + 2 ^ 32 * s.effRd e R.VCE_WORK_HI [k]) (s.encWorkSize e k br)

/-- Code the picture at the head of the decode order (R341, R343 to R348). A picture that breaks what R333, R338 to
R341, R343, R345 or R348 says is none that the core codes (log 39). -/
def encCode (s : State) (k : Nat) (br : BranchRec) (pic : EncPic) (au : CodedAu) : State :=
  let e := pic.frame.epoch
  let r := s.encRc k br pic
  let free := (s.enc k).size - (s.rd R.VCE_OWR [k] + 2 ^ 32 - s.encRead k) % 2 ^ 32
  let inside := s.regionOk (s.graphOf e) br.pipe (s.enc k).base (s.enc k).size
  if !inside || (s.enc k).size = 0 || free < s.encBound e k br r + 64 then s.encDrop k pic
  else if !s.mvsOk k br pic au.mvs || !s.setsOk k br pic r au.sets || !s.auOk e k br r au then s
  else
    let cols := ceilDiv br.width 64
    let rowBits := (List.range r.rows).map fun i => ((au.ctuBits.drop (i * cols)).take cols).sum
    let fl := if r.rc = 0 then none else floorAt r.lim r.ctus au.ctuBits
    let rows := r.rowQps rowBits
    let b : Int := (au.data.length * 8 : Nat) * 1000000
    let excess := if r.rc = 1 then r.f - b + r.avg - r.cpb else 0
    let fill := if 0 < excess then max 6 (ceilDiv excess.toNat 8000000) else 0
    let data := if fill = 0 then au.data else au.data ++ fillerNal fill
    let x := s.enc k
    let sets : Bool := pic.typ ≤ 1
    let flags := b2n sets + 2 * b2n fl.isSome + 4 * b2n x.dropped + 8 * b2n (fill ≠ 0)
    let head := auHeader (64 + roundUp data.length 64) data.length pic.frame.fid e pic.poc pic.frame.time (s.rtpStamp k pic.frame.time)
      pic.typ flags (s.averageQp e k br r rows fl) br.pipe x.count
    let ticks := s.encTicks k br pic
    let s := (s.encWork e k br).encWrite k head data
    let s := s.modEnc k fun y => { y with
      order := y.order.drop 1, dropped := false, coded := true, count := y.count + 1
      full := r.f - b - (fill * 8 : Nat) * 1000000, ticks := if sets then 0 else ticks
      bpTime := if sets then some pic.frame.time else y.bpTime
      last := y.last.set r.t (some (r.startQp, data.length * 8)) }
    let s := (s.inc Fl.VCE_PICS_count [k]).wr64 R.VCE_LASTFID_LO R.VCE_LASTFID_HI [k] pic.frame.fid
    let s := if s.flag Fl.VCE_CTRL_ev_en [k] then
      s.evFrame 0x00A0 srcVCE k e pic.frame.fid (pic.typ + 2 ^ 32 * data.length) else s
    let s := if fl.isSome then (s.inc Fl.VCE_FLOOR_count [k]).evLimited 0x00A3 srcVCE k e pic.frame.fid 1 else s
    (s.encProxies k pic data).encPull k

/-- An encode core codes its next picture, or meets the first frame of an epoch whose check fails (R336, R337). -/
def encodePicture (s : State) (k : Nat) (au : CodedAu) : State :=
  match s.encBranch k with
  | none => s
  | some br =>
    if !(s.powered .vce) then s
    else
      let s := (s.encPull k).encRequests k
      match (s.enc k).order with
      | pic :: _ => s.encCode k br pic au
      | [] =>
        match (s.enc k).queue with
        | [] => s
        | h :: _ =>
          let s := if (s.enc k).epoch = some h.epoch then s else s.encEpoch k br h.epoch
          if !(s.enc k).ok then s.encPull k
          else
            let s := s.encBuild k br h.epoch
            match (s.enc k).order with
            | pic :: _ => s.encCode k br pic au
            | [] => s

/-! ### Publication of branch frames (R325) -/

/-- OUTF publishes the oldest written branch frame or batch (R324 to R327, R150); a frame with
a stripe in replay waits (R539), and with protection on one developed-frame period passes after its last line (R325, log 35). -/
def outfPublish (s : State) (p b : Nat) : State :=
  let i := p * 8 + b
  match (s.outf i).pend, ((s.outf i).pend.head?.bind fun q => (s.graphOf q.epoch).branch? p b) with
  | q :: t, some br =>
    if s.hlt.replays.any fun r => r.pipe = p && q.fid ≤ r.fid && r.fid ≤ q.last then s else
    let prot : Bool := (((s.graphOf q.epoch).pipe? p).map fun r => r.prot).getD false
    let s := if prot then s.reachClk (q.at_ + s.devPeriod q.epoch p) else s
    let s := s.modOutf i fun x => { x with pend := t }
    let s := if br.consumer = srcMPC then
        s.emit (.peer br.inst (s.effRd q.epoch R.OUTF_DB_LO [i] + 2 ^ 32 * s.effRd q.epoch R.OUTF_DB_HI [i])
          (leBytes 8 q.fid ++ leBytes 4 q.slot ++ leBytes 4 q.written))
      else
        (s.hbmWrite q.base (leBytes 8 (2 * q.k + 2))).modOutf i fun x => { x with
          pub := (x.pub.filter fun f => f.slot ≠ q.slot) ++ [(⟨q.slot, q.k, q.fid, q.epoch, q.time, q.base, []⟩ : PubFrame)] }
    let s := (s.inc Fl.OUTF_FRAMES_count [i] q.frames).wr64 R.OUTF_LASTFID_LO R.OUTF_LASTFID_HI [i] q.last
    let s := if s.flag Fl.OUTF_CTRL_ev_en [i] then
      s.evFrame 0x0098 srcOUTF i q.epoch q.fid (q.slot % 65536 + 2 ^ 32 * ((2 * q.k + 2) % 2 ^ 32)) else s
    if br.consumer = srcVCE then s.encPull br.inst else s
  | _, _ => s

end State

/-- OUTF_PUBLISH (R325). -/
def execOutfPublish (p b : Nat) (s : State) : Res := .next (if p < 8 ∧ b < 8 then s.outfPublish p b else s)

/-- ENCODE_PICTURE (R337). -/
def execEncodePicture (k : Nat) (au : CodedAu) (s : State) : Res := .next (if k < 2 then s.encodePicture k au else s)

end Sys2Proof.Machine
end

