-- ==== Sys2Proof/Machine/VceIo.lean ====
section
/-! DEFINITION. The RTP sender (R351, R352) and the decode core (R353 to R357). -/

namespace Sys2Proof.Machine

/-- One byte of an Annex B stream: zeros just seen, the open unit with its last byte first, the units before it. -/
def nalByte (a : Nat × Option Bytes × List Bytes) (b : Byte) : Nat × Option Bytes × List Bytes :=
  if 2 ≤ a.1 && b = 1 then (0, some [], a.2.2 ++ (a.2.1.map fun u => (u.dropWhile fun x => x = 0).reverse).toList)
  else (if b = 0 then a.1 + 1 else 0, a.2.1.map fun u => b :: u, a.2.2)

/-- NAL units of an Annex B byte stream: what stands between start codes, without trailing zeros. -/
def nalUnits (b : Bytes) : List Bytes :=
  let r := b.foldl nalByte (0, none, [])
  r.2.2 ++ (r.2.1.map fun u => (u.dropWhile fun x => x = 0).reverse).toList

/-- Fragmentation units of a NAL unit (RFC 7798; log 4). -/
def fragments (space : Nat) (nal : Bytes) : List Bytes :=
  let b0 := (nal.getD 0 0).toNat
  let typ := b0 / 2 % 64
  let body := nal.drop 2
  let per := max 1 (space - 3)
  let n := ceilDiv body.length per
  (List.range n).map fun i =>
    [BitVec.ofNat 8 (b0 / 128 * 128 + 98 + b0 % 2), nal.getD 1 0,
      BitVec.ofNat 8 (128 * b2n (i = 0) + 64 * b2n (i + 1 = n) + typ)] ++ (body.drop (i * per)).take per

/-- An aggregation packet of NAL units (RFC 7798; log 4). -/
def aggregate (l : List Bytes) : Bytes :=
  match l with
  | [n] => n
  | _ =>
    let hd (n : Bytes) (i : Nat) : Nat := (n.getD i 0).toNat
    let f := l.any fun n => 128 ≤ hd n 0
    let layer := l.foldl (fun a n => min a (hd n 0 % 2 * 32 + hd n 1 / 8)) 63
    let tid := l.foldl (fun a n => min a (hd n 1 % 8)) 7
    [BitVec.ofNat 8 (128 * b2n f + 96 + layer / 32), BitVec.ofNat 8 (layer % 32 * 8 + tid)] ++
      l.flatMap fun n => beBytes 2 n.length ++ n

/-- RTP payloads of an access unit (R351). `acc` gathers short NAL units while aggregation is on. -/
def rtpPayloads (space : Nat) (ap : Bool) (acc : List Bytes) : List Bytes → List Bytes
  | [] => if acc.isEmpty then [] else [aggregate acc]
  | n :: t =>
    let flush := if acc.isEmpty then [] else [aggregate acc]
    if ap && n.length < 1024 && n.length ≤ space then
      let size := 2 + sumOf (fun (q : Bytes) => 2 + q.length) (acc ++ [n])
      if acc.isEmpty || size ≤ space then rtpPayloads space ap (acc ++ [n]) t
      else flush ++ rtpPayloads space ap [n] t
    else flush ++ (if n.length ≤ space then [n] else fragments space n) ++ rtpPayloads space ap [] t

namespace State

/-- Addressing of the RTP sender (R351). -/
def rtpDst (s : State) (k : Nat) : NetDst :=
  let v6 := s.flag Fl.VCE_RTP_CTRL_ipv6 [k]
  ⟨s.get Fl.VCE_RTP_CTRL_port [k], s.rd64 R.VCE_RTP_DMAC_LO R.VCE_RTP_DMAC_HI [k] % 2 ^ 48, v6, netAddr s R.VCE_RTP_SIP [k] v6,
    netAddr s R.VCE_RTP_DIP [k] v6, s.rd R.VCE_RTP_PORTS [k] / 65536, s.rd R.VCE_RTP_PORTS [k] % 65536,
    s.get Fl.VCE_RTP_CTRL_dscp [k], s.get Fl.VCE_RTP_CTRL_hop [k],
    if s.flag Fl.VCE_RTP_CTRL_vlan_en [k] then some (s.rd R.VCE_RTP_VLAN [k] % 65536) else none⟩

/-- Send a record (R351), under the registers as they stand now; while the port's link is down its packets are discarded (R352). -/
def rtpRecord (s : State) (k : Nat) (up : Bool) (rec_ : Bytes) : State :=
  let d := s.rtpDst k
  let space := s.rd R.VCE_RTP_MTU [k] - d.ipHdr - 20
  let au := (rec_.drop 64).take (fieldLe rec_ 4 4)
  let l := rtpPayloads space (s.flag Fl.VCE_RTP_CTRL_ap_en [k]) [] (nalUnits au)
  let stamp := s.rtpStamp k (fieldLe rec_ 24 8)
  if !up || !(s.netOn d.port) then s.inc Fl.VCE_RTP_SKIP_count [k] l.length
  else
  let s := (l.zipIdx).foldl (fun (t : State) q =>
    let head := [0x80, BitVec.ofNat 8 (128 * b2n (q.2 + 1 = l.length) + t.get Fl.VCE_RTP_CTRL_pt [k])] ++
      beBytes 2 (((t.enc k).rtpSeq + q.2) % 65536) ++ beBytes 4 stamp ++ beBytes 4 (t.rd R.VCE_RTP_SSRC [k])
    t.ethSend d.port (udpFrame d (head ++ q.1))) s
  (s.inc Fl.VCE_RTP_PKTS_count [k] l.length).modEnc k fun x => { x with rtpSeq := (x.rtpSeq + l.length) % 65536 }

/-- The next record of the sender; a sender more than half the ring behind discards up to the next IDR or refresh-cycle
start (R352). -/
def rtpNext (s : State) (k : Nat) (up : Bool) : Nat → State
  | 0 => s
  | n + 1 =>
    let x := s.enc k
    let wr := s.rd R.VCE_OWR [k]
    if x.rtpRd = wr || x.size = 0 then s
    else
      let at_ := x.base + x.rtpRd % x.size
      let len := leNat (s.hbmRead at_ 4)
      let typ := leNat (s.hbmRead (at_ + 36) 1)
      let pass (t : State) (skip : Bool) : State := t.modEnc k fun y => { y with rtpRd := (y.rtpRd + len) % 2 ^ 32, rtpSkip := skip }
      if len = 0 then s
      else if typ = 0xFF then (pass s x.rtpSkip).rtpNext k up n
      else if (x.rtpSkip || x.size / 2 < (wr + 2 ^ 32 - x.rtpRd) % 2 ^ 32) && 1 < typ then
        (pass (s.inc Fl.VCE_RTP_SKIP_count [k]) true).rtpNext k up n
      else pass (s.rtpRecord k up (s.hbmRead at_ len)) false

def rtpSend (s : State) (k : Nat) (up : Bool) : State :=
  if s.powered .vce && s.flag Fl.VCE_RTP_CTRL_en [k] then s.rtpNext k up ((s.enc k).size / 64 + 1) else s

/-- A consumer attaches at the current OWR (R349): the RTP sender or host software. -/
def rtpAttach (s : State) (k : Nat) : State :=
  s.modEnc k fun x => { x with rtpRd := s.rd R.VCE_OWR [k], rtpSeq := s.rd R.VCE_RTP_SEQ [k] % 65536, rtpSkip := false }

def auHostAttach (s : State) (k : Nat) : State := s.wr R.VCE_OHOST [k] (s.rd R.VCE_OWR [k])

/-! ### Decode core -/

def vcdErr (s : State) (cause : Nat) : State :=
  (s.put Fl.VCE_D_STAT_error [] 1).evLimited 0x00A9 srcVCE 2 (s.rd R.DEV_EPOCH_IN) noFrame (cause + 2 ^ 32)

def decBusy (s : State) : State :=
  s.put Fl.VCE_D_STAT_busy [] (b2n (s.rd R.VCE_D_HEAD ≠ s.rd R.VCE_D_TAIL || !s.dec.held.isEmpty))

/-- Is a sequence within what the decode core supports, with room for its picture buffer in the work area (R333, R356, R357). -/
def decSupported (s : State) (q : DecSeq) : Bool :=
  decide (q.profile ≤ 3) && decide (q.level ≤ 186) && decide (q.width ≤ 8192) && decide (q.height ≤ 4352)
    && decide (q.width * q.height ≤ 35651584) && decide (q.chroma ≤ 3) && decide (8 ≤ q.depth) && decide (q.depth ≤ 12)
    && decide (q.pictures * (q.width * q.height * [2, 3, 4, 6].getD q.chroma 6) ≤ s.dev Fl.VCE_D_WORKSZ_mib * 2 ^ 20)

/-- A picture starts under the settings now in effect (R331). -/
def decHeld (s : State) (damaged : Bool) (id pts : Nat) : DecHeld :=
  ⟨id, pts, damaged, s.devRd R.VCE_D_OUT_LO + 2 ^ 32 * s.devRd R.VCE_D_OUT_HI, max 1 (s.dev Fl.VCE_D_OSLOT_slots),
    s.dev Fl.VCE_D_OSLOT_stride * 4096, s.dev Fl.VCE_D_CTRL_host_out = 1⟩

/-- Parsing of a chunk (R353, R357). The decoded picture buffer's bytes are free (R356, log 2). -/
def decParse (s : State) (disc : Bool) (pts : Nat) (r : DecodeResult) : State :=
  let s : State := if disc then { s with dec := { s.dec with held := [] } } else s
  let wait := disc || s.flag Fl.VCE_D_STAT_skipping
  let bad := disc || s.flag Fl.VCE_D_STAT_damaged
  let okay : Bool := r.irap.any s.decSupported
  let faults := if r.irap.isSome && !okay then r.faults ++ [4] else r.faults
  let starts := if (wait || r.irap.isSome) && !okay then [] else r.starts
  let marked : Bool := faults.contains 2 || (bad && !okay && !r.recovered)
  let new := starts.mapIdx fun i n => s.decHeld marked n (if i = 0 then pts else 2 ^ 64 - 1)
  let s := if starts.isEmpty then s
    else s.hbmUndef (s.devRd R.VCE_D_WORK_LO + 2 ^ 32 * s.devRd R.VCE_D_WORK_HI) (s.dev Fl.VCE_D_WORKSZ_mib * 2 ^ 20)
  let s : State := { s with dec := { s.dec with held := s.dec.held ++ new, disc := false } }
  let s := s.put Fl.VCE_D_STAT_skipping [] (b2n (faults.contains 4 || (wait && !okay)))
  let s := s.put Fl.VCE_D_STAT_damaged [] (b2n marked)
  let s := s.inc Fl.VCE_D_ERRCNT_discarded [] r.discarded
  faults.foldl (fun (t : State) c => t.vcdErr c) s

/-- The next descriptor runs and completes (R353). One that stood in a ring in HBM at a host function reset and names a chunk in host
memory is abandoned without a completion (R74). -/
def decodeDescriptor (s : State) (r : DecodeResult) : State :=
  if !(s.powered .vce) || s.dev Fl.VCE_D_CTRL_enable = 0 || s.rd R.VCE_D_HEAD = s.rd R.VCE_D_TAIL then s
  else
    let ring := s.devRd R.VCE_D_RING_LO + 2 ^ 32 * s.devRd R.VCE_D_RING_HI
    let at_ := ring + s.rd R.VCE_D_HEAD % 2 ^ s.dev Fl.VCE_D_RCTL_log2size * 32
    let d := s.memRead (s.dev Fl.VCE_D_RCTL_host = 1) at_ 32
    let flags := fieldLe d 0 1
    let len := fieldLe d 16 4
    let gone : Bool := s.oldJob 2 && bit flags 0
    let s := s.jobGone 2
    let ok : Bool := !gone && len ≠ 0 && (bit flags 0 || s.inPartition (fieldLe d 8 8) len)
    let s : State := if ok then s.decParse (bit flags 1 || s.dec.disc) (fieldLe d 24 8) r
      else { s with dec := { s.dec with disc := true } }
    let s := (s.wr R.VCE_D_HEAD [] ((s.rd R.VCE_D_HEAD + 1) % 2 ^ 32)).decBusy
    if gone || (ok && bit flags 3) then s
    else s.evDone (if ok then stOk else stBadArg) srcVCE 2 (fieldLe d 1 1 % 16) (fieldLe d 4 4 + 2 ^ 32)

/-- Format of a decoded picture (R354). -/
def decFmt (p : DecodedPic) : Nat :=
  let d := if p.chroma = 0 then p.lumaDepth else max p.lumaDepth p.chromaDepth
  if p.chroma = 3 || 10 < d then fmtYCP16
  else if p.chroma = 2 then fmtYC422P10
  else if d ≤ 8 then fmtYC420P8 else fmtYC420P10

/-- Lines of the planes of a decoded picture, and lines before the second and the third plane (R354). -/
def decLines (p : DecodedPic) : List Bytes × Nat × Nat :=
  let fmt := decFmt p
  let cw := if p.chroma = 3 then p.width else p.width / 2
  let chh := if p.chroma = 1 then p.height / 2 else p.height
  let line (l : List Nat) (w i : Nat) : List Nat := (l.drop (i * w)).take w
  let word (l : List Nat) : Bytes := l.flatMap fun v => leBytes 2 v
  if fmt = fmtYCP16 then
    let ys := (List.range p.height).map fun i => word (line p.y p.width i)
    if p.chroma = 0 then (ys, 0, 0)
    else
      (ys ++ ((List.range chh).map fun i => word (line p.cb cw i)) ++ (List.range chh).map fun i => word (line p.cr cw i),
        p.height, p.height + chh)
  else
    let n := if fmt = fmtYC420P8 then 8 else 10
    let ys := (List.range p.height).map fun i => packYc fmt ((line p.y p.width i).map fun v => v * 2 ^ (n - p.lumaDepth))
    if p.chroma = 0 then (ys, 0, 0)
    else
      (ys ++ (List.range chh).map fun i =>
        packYc fmt ((List.zipWith (fun a b => [a, b]) (line p.cb cw i) (line p.cr cw i)).flatten.map fun v => v * 2 ^ (n - p.chromaDepth)),
        p.height, 0)

/-- The descriptor extension (R355). -/
def decExt (p : DecodedPic) (damaged : Bool) (third pts : Nat) : Bytes :=
  let b := leBytes 4 (unsigned 32 p.poc) ++ leBytes 1 (b2n (p.concealed ≠ 0) + 2 * b2n (p.damaged || damaged)) ++ leBytes 1 p.lumaDepth
    ++ leBytes 1 p.chromaDepth ++ leBytes 1 p.chroma ++ leBytes 4 p.concealed ++ leBytes 4 third ++ leBytes 8 pts ++ leBytes 4 0
  b ++ leBytes 4 (crc32c b)

/-- Does a layer show the decode core's pictures, and so hold its slots (R356, R368). -/
def decShown (s : State) : Bool :=
  s.dispOn && (List.range 4).any fun n => s.eff s.disp.epoch Fl.DISP_L_CTRL_kind [n] = 2

/-- A decoded picture in output order goes to its slot once that is free (R354 to R356). -/
def decodedOutput (s : State) (p : DecodedPic) : State :=
  match s.dec.held.find? fun h => h.id = p.id with
  | none => s
  | some h =>
    let k := s.rd R.VCE_D_PICS
    let slot := k % h.slots
    let free : Bool := if h.hostOut then decide ((k + 2 ^ 32 - s.rd R.VCE_D_DONE) % 2 ^ 32 < h.slots)
      else !(s.dec.out.any fun o => o.slot = slot)
    if !free || !(s.powered .vce) then s
    else
      let fmt := decFmt p
      let pitch := pitchOf 0 fmt p.width
      let ls := decLines p
      let base := h.base + slot * h.stride
      let s : State := { s with dec := { s.dec with held := s.dec.held.filter fun q => q.id ≠ p.id } }
      let fits : Bool := decide (4096 + pitch * ls.1.length ≤ h.stride)
      let s := if !fits then s.vcdErr 5 else
        let at_ (n : Nat) : Nat := if n = 0 then 0 else 4096 + n * pitch
        let fr := s.fresh
        let d : SlotDesc := ⟨2 * k + 2, k, s.rd R.DEV_EPOCH_IN, 0, fr.1 % 2 ^ 64, fmt, 0xFF, 0xFF, 1, p.width, p.height, pitch, at_ ls.2.1,
          p.primaries, p.transfer, p.matrix, if p.fullRange = 2 then 2 else 1 - p.fullRange⟩
        let s := fr.2.hbmWrite base (leBytes 8 (2 * k + 1))
        let s := (ls.1.zipIdx).foldl (fun (t : State) q => t.hbmWrite (base + 4096 + q.2 * pitch) q.1) s
        let s := s.hbmWrite (base + 64) (decExt p h.damaged (at_ ls.2.2) h.pts)
        let s := s.hbmWrite base d.encode
        if s.decShown && !h.hostOut then { s with dec := { s.dec with out := s.dec.out ++ [⟨k, slot, h.pts, base⟩] } } else s
      let s := s.wr R.VCE_D_PICS [] ((k + 1) % 2 ^ 32)
      let s := if p.concealed ≠ 0 then s.inc Fl.VCE_D_ERRCNT_concealed else s
      let s := s.decBusy
      if s.flag Fl.VCE_D_CTRL_ev_en then s.ev 0x00A8 srcVCE 2 (slot + 2 ^ 32 * (k % 2 ^ 32)) else s

end State

/-- RTP_SEND_AU (R351, R352). -/
def execRtpSendAu (k : Nat) (s : State) (up : Bool := true) : Res := .next (if k < 2 then s.rtpSend k up else s)

/-- DECODE_DESCRIPTOR (R353). -/
def execDecodeDescriptor (r : DecodeResult) (s : State) : Res := .next (s.decodeDescriptor r)

/-- DECODED_PICTURE_OUTPUT (R354). -/
def execDecodedPictureOutput (p : DecodedPic) (s : State) : Res := .next (s.decodedOutput p)

end Sys2Proof.Machine
end

