-- ==== Sys2Proof/Machine/HostReset.lean ====
section
/-! DEFINITION. The reset of the host function (R73, R74). -/

namespace Sys2Proof.Machine

namespace State

/-- Every EVQ and CMDQ ring is disabled, with HEAD and TAIL at 0; what has not been started is gone (R74). -/
def ringsOff (s : State) : State :=
  let s := (List.range 16).foldl (fun (t : State) q => (t.put Fl.EVQ_CTRL_enable [q] 0).evqZero q) s
  (List.range 4).foldl (fun (t : State) r =>
    let t := ((t.put Fl.CMDQ_CTRL_enable [r] 0).put Fl.CMDQ_CTRL_flush [r] 0).wr R.CMDQ_STAT [r] 0
    ((((t.wr R.CMDQ_HEAD [r] 0).wr R.CMDQ_TAIL [r] 0).modRing r fun _ => Ring.init).promoDone 3 r).cmdqSync r) s

/-- Is a record the completion of a CMDQ packet. -/
def cmdqDone (r : Rec) : Bool := r.src = srcCMDQ && r.cls = .completion

/-- Completion records of packets that were started before the reset are discarded, those too that no queue has taken yet (R74). -/
def doneOff (s : State) : State :=
  { s with
    raised := s.raised.filter fun r => !cmdqDone r
    dests := s.dests.map fun d => { d with compl := d.compl.filter fun r => !cmdqDone r } }

/-- ZST leaves host memory alone: engines with a ring there stop, and jobs that touch it end without a result, those too that wait in a
ring in HBM (R74). -/
def zstHostOff (s : State) : State :=
  (List.range 2).foldl (fun (t : State) e =>
    let ends : Bool := match t.zst.getD e none with
      | some j => j.inHost || j.flags % 4 ≠ 0
      | none => false
    let t : State := if ends then { t with zst := t.zst.set e none } else t
    if t.flag Fl.ZST_CTRL_host [e] then
      { ((t.put Fl.ZST_CTRL_enable [e] 0).wr R.ZST_HEAD [e] 0).wr R.ZST_TAIL [e] 0 with oldJobs := t.oldJobs.set e 0 }
    else
      let t := if ends then t.wr R.ZST_HEAD [e] ((t.rd R.ZST_HEAD [e] + 1) % 2 ^ 32) else t
      { t with oldJobs := t.oldJobs.set e ((t.rd R.ZST_TAIL [e] + 2 ^ 32 - t.rd R.ZST_HEAD [e]) % 2 ^ 32) }) s

/-- PTP receive rings, the decode core and the access-unit rings let go of host memory (R74). -/
def mediaHostOff (s : State) : State :=
  let s := (List.range 6).foldl (fun (t : State) p =>
    ((t.put Fl.TIME_PT_RX_CTRL_enable [p] 0).wr R.TIME_PT_RX_HEAD [p] 0).wr R.TIME_PT_RX_TAIL [p] 0) s
  let s := if s.dev Fl.VCE_D_RCTL_host = 1 then
      let s := (s.wr R.VCE_D_HEAD [] 0).wr R.VCE_D_TAIL [] 0
      ({ s with dec := { s.dec with disc := true }, oldJobs := s.oldJobs.set 2 0 }).decBusy
    else { s with oldJobs := s.oldJobs.set 2 ((s.rd R.VCE_D_TAIL + 2 ^ 32 - s.rd R.VCE_D_HEAD) % 2 ^ 32) }
  (s.put Fl.VCE_OCTL_host_en [0] 0).put Fl.VCE_OCTL_host_en [1] 0

/-- HOST_FUNCTION_RESET (R74). Reads outstanding are answered Unsupported Request under a Function Level Reset, and not at all
when the link goes down. -/
def hostReset (s : State) (kind : HostResetKind) : State :=
  let held := s.heldReads
  let s : State := { s with
    heldReads := []
    msixTable := [], msixPba := [], msixEnable := false, msixMask := false
    latch := s.latch.filter fun e => e.1 ≠ 1
    packets := s.packets.map fun p => { p with discard := true } }
  let s := if kind = .flr then held.foldl (fun (t : State) _ => t.emit .unsupported) s else s
  let s := if s.powered .evq then s.ringsOff.doneOff else s
  let s := if s.powered .bulk then (s.put Fl.BULK_STAT_active [] 0).put Fl.BULK_CTRL_arm [] 0 else s
  let s := if s.powered .ord then s.ownerReset 1 else s
  s.zstHostOff.mediaHostOff

end State

/-- HOST_FUNCTION_RESET (R74). -/
def execHostFunctionReset (kind : HostResetKind) (s : State) : Res := .next (s.hostReset kind)

end Sys2Proof.Machine
end

