-- ==== Sys2Proof/Machine/Lsp.lean ====
section
/-! DEFINITION. The low-speed ports (R505 to R529). -/

namespace Sys2Proof.Machine

/-- CRC-8 with x^8 + x^2 + x + 1 over a transaction (R512). -/
def smbPec (b : Bytes) : Nat :=
  b.foldl (fun c x => (fun (v : Nat) => if v / 128 % 2 = 1 then (v * 2 % 256) ^^^ 0x07 else v * 2 % 256)^[8] (c ^^^ x.toNat)) 0

/-- Room in an I2C or SPI FIFO, and in a UART FIFO (R514, R519, R521). -/
def fifoDepth : FifoPort → Nat
  | .uart => 16
  | _ => 64

namespace State

def modLsp (s : State) (f : LspSt → LspSt) : State := { s with lsp := f s.lsp }

/-- Is an LSP port usable: the unit is on and an enabled PORT record names it (R506). -/
def lspPort (s : State) (cls i : Nat) : Bool := s.powered .lsp && s.graph.portOn cls i

/-! ### SMBus target (R508 to R513) -/

def smbAddressed (s : State) (a : Nat) : Bool :=
  s.powered .lsp && s.flag Fl.LSP_SMB_CTRL_enable &&
    (List.range 4).any fun j => s.flag Fl.LSP_SMB_ADDR_en [j] && ((a ^^^ s.get Fl.LSP_SMB_ADDR_addr [j]) &&& s.get Fl.LSP_SMB_ADDR_mask [j]) = 0

/-- The lowest enabled entry of a code whose kind is a read or a write kind (R509). -/
def smbEntry (s : State) (cmd : Nat) (write : Bool) : Option Nat :=
  (List.range 32).find? fun k =>
    s.flag Fl.LSP_SMB_CMD_en [k] && s.get Fl.LSP_SMB_CMD_code [k] = cmd && bit (s.get Fl.LSP_SMB_CMD_kind [k]) 0 = write

def smbNak (s : State) : State := (s.put Fl.LSP_SMB_STAT_nak [] 1).inc Fl.LSP_SMB_CNT_errors

def smbError (s : State) (d : Fld) (cause : Nat) : State :=
  ((s.put d [] 1).inc Fl.LSP_SMB_CNT_errors).evLimited 0x0111 srcLSP 0 (s.rd R.DEV_EPOCH_IN) noFrame (cause + 2 ^ 32)

/-- Registers whose Meaning names a read side effect (R510): semaphores and FIFOs. -/
def smbBlind (off : Nat) : Bool :=
  match findReg off with
  | some (row, _) => [R.ORD_SEM_ACQ.off, R.LSP_I_DATA.off, R.LSP_SPI_DATA.off, R.LSP_U_DATA.off].contains row.reg.off
  | none => false

/-- The bytes of a read of entry `k` (R510). -/
def smbBytes (s : State) (k : Nat) : Bytes :=
  let n := s.get Fl.LSP_SMB_CMD_length [k]
  let off := s.get Fl.LSP_SMB_SRC_offset [k] * 4
  ((List.range (ceilDiv n 4)).flatMap fun i =>
    leBytes 4 (if smbBlind (off + 4 * i) && s.powered (blockOf (off + 4 * i)) then 0 else s.readHost (off + 4 * i))).take n

/-- SMBUS_READ: `n` is the number of bytes that the controller clocks out after its repeated START. A read address that does not follow
a command byte is NAKed (R509). -/
def smbusRead (s : State) (addr : Nat) (cmd : Option Nat) (n : Nat) : State :=
  if !s.smbAddressed addr then s
  else
    match cmd, cmd.bind fun c => s.smbEntry c false with
    | none, _ => s.smbNak
    | some _, none => s.smbNak
    | some cmd, some k =>
      let data := s.smbBytes k
      let body := if s.get Fl.LSP_SMB_CMD_kind [k] = 2 then BitVec.ofNat 8 data.length :: data else data
      let head := [BitVec.ofNat 8 (2 * addr), BitVec.ofNat 8 cmd, BitVec.ofNat 8 (2 * addr + 1)]
      let reply := if s.flag Fl.LSP_SMB_CMD_pec [k] then body ++ [BitVec.ofNat 8 (smbPec (head ++ body))] else body
      let s := s.emit (.port 0 0 ((reply ++ List.replicate (n - reply.length) 0xFF).take n))
      if reply.length ≤ n then s.inc Fl.LSP_SMB_CNT_xfers else s

/-- Bytes into the mailbox from byte `o` on (R511). -/
def smbStore (s : State) (o : Nat) : Bytes → State
  | [] => s
  | b :: t =>
    let j := o / 4
    let v := putBits (s.rd R.LSP_SMB_IN [j]) (o % 4 * 8 + 7) (o % 4 * 8) b.toNat
    (s.wr R.LSP_SMB_IN [j] v).smbStore (o + 1) t

/-- SMBUS_WRITE (R511, R512). A Block Write carries its count first; `crc` is a PEC byte sent after the last data byte. -/
def smbusWrite (s : State) (addr cmd : Nat) (data : Bytes) (crc : Option Nat) : State :=
  let pecOk : Bool := crc = some (smbPec (BitVec.ofNat 8 (2 * addr) :: BitVec.ofNat 8 cmd :: data))
  if !s.smbAddressed addr then s
  else
    match s.smbEntry cmd true with
    | none => if data.isEmpty && (s.smbEntry cmd false).isSome then s else s.smbNak
    | some k =>
      let len := s.get Fl.LSP_SMB_CMD_length [k]
      let block : Bool := s.get Fl.LSP_SMB_CMD_kind [k] = 3
      let pec := s.flag Fl.LSP_SMB_CMD_pec [k]
      let count := if block then fieldLe data 0 1 else len
      let body := if block then data.drop 1 else data
      if block && !data.isEmpty && (count = 0 || len < count) then s.smbNak
      else if block && data.isEmpty || body.length < count then s
      else if count < body.length || (!pec && crc.isSome) then
        if pec then s.smbError Fl.LSP_SMB_STAT_pec_err 1 else s.smbNak
      else if pec && !pecOk then s.smbError Fl.LSP_SMB_STAT_pec_err 1
      else
        let s := s.smbStore (s.get Fl.LSP_SMB_CMD_offset [k]) body
        let s := ((s.put Fl.LSP_SMB_STAT_rx [] 1).put Fl.LSP_SMB_STAT_last_cmd [] cmd).inc Fl.LSP_SMB_CNT_xfers
        s.ev 0x0110 srcLSP 0 (cmd % 256 + 256 * body.length)

/-- SMBUS_TIMEOUT (R513). -/
def smbusTimeout (s : State) : State :=
  if s.powered .lsp && s.flag Fl.LSP_SMB_CTRL_enable && s.flag Fl.LSP_SMB_CTRL_tmo_en then s.smbError Fl.LSP_SMB_STAT_timeout 2 else s

/-! ### FIFOs (R507) -/

def i2c (s : State) (c : Nat) : I2cSt := s.lsp.i2c.getD c I2cSt.init
def spi (s : State) (c : Nat) : SpiSt := s.lsp.spi.getD c SpiSt.init
def uart (s : State) (u : Nat) : UartSt := s.lsp.uart.getD u UartSt.init
def modI2c (s : State) (c : Nat) (f : I2cSt → I2cSt) : State := s.modLsp fun x => { x with i2c := modNth x.i2c c f }
def modSpi (s : State) (c : Nat) (f : SpiSt → SpiSt) : State := s.modLsp fun x => { x with spi := modNth x.spi c f }
def modUart (s : State) (u : Nat) (f : UartSt → UartSt) : State := s.modLsp fun x => { x with uart := modNth x.uart u f }

/-- The level fields follow the FIFOs. -/
def i2cLevels (s : State) (c : Nat) : State :=
  (s.put Fl.LSP_I_STAT_tx_level [c] (s.i2c c).tx.length).put Fl.LSP_I_STAT_rx_level [c] (s.i2c c).rx.length
def spiLevels (s : State) (c : Nat) : State :=
  (s.put Fl.LSP_SPI_STAT_tx_level [c] (s.spi c).tx.length).put Fl.LSP_SPI_STAT_rx_level [c] (s.spi c).rx.length
def uartLevels (s : State) (u : Nat) : State :=
  (s.put Fl.LSP_U_STAT_tx_level [u] (s.uart u).tx.length).put Fl.LSP_U_STAT_rx_level [u] (s.uart u).rx.length

/-- SPI0 belongs to the boot loader during a dawn from SPI NOR (R520). -/
def spiOwned (s : State) (c : Nat) : Bool := c = 0 && s.get Fl.DEV_STRAP_bootsel = 2 && !s.flag Fl.DEV_STATUS_ready

/-- FIFO_PUSH: a write of a DATA register. -/
def fifoPush (s : State) (f : FifoPort) (i v : Nat) : State :=
  let b : Byte := BitVec.ofNat 8 v
  match f with
  | .i2c =>
    if 6 < i then s
    else if fifoDepth f ≤ (s.i2c i).tx.length then s.put Fl.LSP_I_STAT_ovf [i] 1
    else (s.modI2c i fun x => { x with tx := x.tx ++ [b] }).i2cLevels i
  | .spi =>
    if 3 < i || s.spiOwned i then s
    else if fifoDepth f ≤ (s.spi i).tx.length then s.put Fl.LSP_SPI_STAT_ovf [i] 1
    else (s.modSpi i fun x => { x with tx := x.tx ++ [b] }).spiLevels i
  | .uart =>
    if 1 < i then s
    else if fifoDepth f ≤ (s.uart i).tx.length then s.put Fl.LSP_U_STAT_tx_ovf [i] 1
    else (s.modUart i fun x => { x with tx := x.tx ++ [b] }).uartLevels i

/-- The offset of a DATA register. -/
def fifoOff (f : FifoPort) (i : Nat) : Nat :=
  (match f with | .i2c => R.LSP_I_DATA.off | .spi => R.LSP_SPI_DATA.off | .uart => R.LSP_U_DATA.off) + 0x100 * i

/-- The word that a read of a DATA register returns: the oldest byte of RX with valid set, 0 from an empty FIFO. -/
def fifoWord (s : State) (f : FifoPort) (i : Nat) : Nat :=
  (match f with
    | .i2c => (s.i2c i).rx.head?.map fun (b : Byte) => b.toNat + 256
    | .spi => (s.spi i).rx.head?.map fun (b : Byte) => b.toNat + 256
    | .uart => (s.uart i).rx.head?.map fun (w : Nat) => w % 4096 / 512 * 512 + 256 + w % 256).getD 0

/-- That read pops the byte. -/
def fifoTake (s : State) (f : FifoPort) (i : Nat) : State :=
  match f with
  | .i2c => (s.modI2c i fun x => { x with rx := x.rx.drop 1 }).i2cLevels i
  | .spi => (s.modSpi i fun x => { x with rx := x.rx.drop 1 }).spiLevels i
  | .uart => (s.modUart i fun x => { x with rx := x.rx.drop 1 }).uartLevels i

/-- FIFO_POP: a read of a DATA register; all-ones from a unit that is off (R30). -/
def fifoPop (s : State) (f : FifoPort) (i : Nat) : State :=
  if !s.reaches .lsp then (s.onUnit .lsp id).emit (.read 1 (fifoOff f i) 0xFFFFFFFF)
  else (s.fifoTake f i).emit (.read 1 (fifoOff f i) (s.fifoWord f i))

/-! ### I2C controllers (R514 to R517) -/

/-- A transfer ends (R516): result and tries; the TX bytes that it kept leave (R515). A flush that waited for the try empties the FIFOs
(R517). -/
def i2cEnd (s : State) (c result tries : Nat) : State :=
  let sent := (((s.i2c c).run.map fun x => x.tx.length).getD 0)
  let flush := (s.i2c c).flush
  let s := s.modI2c c fun x => { x with
    run := none, flush := false, tx := if flush then [] else x.tx.drop sent, rx := if flush then [] else x.rx }
  let s := ((s.put Fl.LSP_I_STAT_result [c] result).put Fl.LSP_I_STAT_tries [c] tries).put Fl.LSP_I_STAT_done [c] 1
  let s := ((s.put Fl.LSP_I_STAT_busy [c] 0).put Fl.LSP_I_CTRL_go [c] 0).put Fl.LSP_I_CTRL_flush [c] 0
  let s := (s.inc Fl.LSP_I_CNT_xfers [c]).i2cLevels c
  if s.flag Fl.LSP_I_CTRL_ev_en [c] then s.ev 0x0112 srcLSP c (result + 16 * tries) else s

/-- The next try goes on the bus: address and write bytes. -/
def i2cTry (s : State) (c : Nat) (x : I2cRun) : State :=
  (s.modI2c c fun y => { y with run := some { x with tries := x.tries + 1, bus := true } }).emit
    (.port 1 c (BitVec.ofNat 8 (2 * x.addr + b2n (x.tx.isEmpty && x.rlen ≠ 0)) :: x.tx))

def i2cCtrlRow : RegRow := ⟨R.LSP_I_CTRL, [Fl.LSP_I_CTRL_ev_en, Fl.LSP_I_CTRL_speed, Fl.LSP_I_CTRL_addr]⟩

/-- I2C_FLUSH (R517). -/
def i2cFlush (s : State) (c : Nat) : State :=
  if 6 < c || !s.lspPort 0x0C c then s
  else
    match (s.i2c c).run with
    | some x =>
      let s := s.modI2c c fun y => { y with flush := true }
      if x.bus then s.put Fl.LSP_I_CTRL_flush [c] 1 else s.i2cEnd c 5 x.tries
    | none => (s.modI2c c fun x => { x with tx := [], rx := [] }).i2cLevels c

/-- A write of `v` to LSP_Ic_CTRL (R514). Controller 7 is resident firmware's (R506). -/
def i2cGo (s : State) (c v : Nat) : State :=
  if 6 < c then s
  else
    let s := s.writeFields i2cCtrlRow [c] v
    let s := if bit v 0 then s.i2cFlush c else s
    if !bit v 31 || !s.lspPort 0x0C c || (s.i2c c).run.isSome then s
    else
      let n := s.get Fl.LSP_I_LEN_wlen [c]
      if (s.i2c c).tx.length < n then s.i2cEnd c 4 0
      else
        ((s.put Fl.LSP_I_STAT_busy [c] 1).put Fl.LSP_I_CTRL_go [c] 1).i2cTry c
          ⟨0, false, (s.i2c c).tx.take n, s.get Fl.LSP_I_CTRL_addr [c], s.get Fl.LSP_I_LEN_rlen [c], s.time.clk⟩

/-- A try has failed (R515): the delay before the next begins, unless tries are exhausted or a flush waits. -/
def i2cFail (s : State) (c : Nat) (x : I2cRun) (code : Nat) : State :=
  let s := s.inc Fl.LSP_I_CNT_retries [c]
  if s.get Fl.LSP_I_RETRY_tries [c] ≤ x.tries then s.i2cEnd c code x.tries
  else if (s.i2c c).flush then s.i2cEnd c 5 x.tries
  else s.modI2c c fun y => { y with run := some { x with bus := false, since := s.time.clk } }

/-- I2C_TRY_END (R515, R516): a try that succeeds brings `rlen` bytes; those that find the RX FIFO full are lost. -/
def i2cTryEnd (s : State) (c : Nat) (res : I2cResult) : State :=
  if !s.powered .lsp then s
  else
    match (s.i2c c).run with
    | some x =>
      if !x.bus then s
      else
        match res with
        | .ok data =>
          let rx := (s.i2c c).rx ++ (data ++ List.replicate x.rlen 0xFF).take x.rlen
          let s := if 64 < rx.length then s.put Fl.LSP_I_STAT_ovf [c] 1 else s
          (s.modI2c c fun y => { y with rx := rx.take 64 }).i2cEnd c 0 x.tries
        | .nack => s.i2cFail c x 1
        | .arbLost => s.i2cFail c x 2
        | .timeout => s.i2cEnd c 3 x.tries
    | none => s

/-- The delay before try `i` in µs (R515). -/
def i2cDelay (window tries i : Nat) : Nat := window * 1000 * 2 ^ (i - 2) / (2 ^ (tries - 1) - 1)

/-- I2C_RETRY_DELAY (R515): the next try starts, with the same bytes; the clock moves on to the end of the delay (log 35). -/
def i2cRetryDelay (s : State) (c : Nat) : State :=
  if !s.powered .lsp then s
  else match (s.i2c c).run with
    | some x =>
      if x.bus then s
      else
        let d := i2cDelay (s.get Fl.LSP_I_RETRY_window_ms [c]) (s.get Fl.LSP_I_RETRY_tries [c]) (x.tries + 1)
        (s.reachClk (x.since + d * 1000)).i2cTry c x
    | none => s

/-! ### SPI controllers (R519, R520) -/

def spiCtrlRow : RegRow :=
  ⟨R.LSP_SPI_CTRL, [Fl.LSP_SPI_CTRL_cs, Fl.LSP_SPI_CTRL_hold, Fl.LSP_SPI_CTRL_mode, Fl.LSP_SPI_CTRL_div, Fl.LSP_SPI_CTRL_len_m1]⟩

/-- A write of `v` to LSP_SPIs_CTRL: a changed chip select or mode releases a held chip select. -/
def spiGo (s : State) (c v : Nat) : State :=
  if 3 < c || s.spiOwned c then s
  else
    let s := s.writeFields spiCtrlRow [c] v
    let now := (s.get Fl.LSP_SPI_CTRL_cs [c], s.get Fl.LSP_SPI_CTRL_mode [c])
    let s := s.modSpi c fun x => { x with held := if x.held = some now then x.held else none }
    if bit v 31 && s.lspPort 0x0D c && (s.spi c).run.isNone then
      ((s.put Fl.LSP_SPI_CTRL_go [c] 1).put Fl.LSP_SPI_STAT_busy [c] 1).modSpi c fun x => { x with
        run := some ⟨now.1, now.2, s.flag Fl.LSP_SPI_CTRL_hold [c], s.get Fl.LSP_SPI_CTRL_len_m1 [c] + 1⟩ }
    else s

/-- SPI_TRANSFER_END: `data` is what was shifted in. A chip select or mode that CTRL has left meanwhile is not held. -/
def spiTransferEnd (s : State) (c : Nat) (data : Bytes) : State :=
  match if s.powered .lsp then (s.spi c).run else none with
  | none => s
  | some g =>
    let x := s.spi c
    let sent := (x.tx ++ List.replicate g.len 0xFF).take g.len
    let rx := x.rx ++ (data ++ List.replicate g.len 0xFF).take g.len
    let same : Bool := (s.get Fl.LSP_SPI_CTRL_cs [c], s.get Fl.LSP_SPI_CTRL_mode [c]) = (g.cs, g.mode)
    let s := if 64 < rx.length then s.put Fl.LSP_SPI_STAT_ovf [c] 1 else s
    let s := s.modSpi c fun y => { y with
      tx := y.tx.drop g.len, rx := rx.take 64, run := none, held := if g.hold && same then some (g.cs, g.mode) else none }
    let s := ((s.put Fl.LSP_SPI_STAT_done [c] 1).put Fl.LSP_SPI_STAT_busy [c] 0).put Fl.LSP_SPI_CTRL_go [c] 0
    (s.spiLevels c).emit (.port 2 c (BitVec.ofNat 8 g.cs :: sent))

/-! ### UARTs (R521, R522) -/

/-- UART_RX_BYTE. -/
def uartRx (s : State) (u b : Nat) (frameErr parityErr brk : Bool) : State :=
  if 1 < u || !(s.lspPort 0x0E u && s.flag Fl.LSP_U_CTRL_rx_en [u]) then s
  else
    let par : Bool := parityErr && s.get Fl.LSP_U_CTRL_parity [u] ≠ 0
    let s := if frameErr || par then s.inc Fl.LSP_U_ERR_errors [u] else s
    let n := (s.uart u).rx.length
    if 16 ≤ n then (s.inc Fl.LSP_U_ERR_overruns [u]).put Fl.LSP_U_STAT_rx_ovf [u] 1
    else
      let w := b % 256 + 512 * b2n par + 1024 * b2n frameErr + 2048 * b2n brk
      let s := (s.modUart u fun x => { x with rx := x.rx ++ [w] }).uartLevels u
      if n = 0 && s.flag Fl.LSP_U_CTRL_rx_ev [u] then s.evLimited 0x0113 srcLSP u (s.rd R.DEV_EPOCH_IN) noFrame 1 else s

/-- UART_TX_BYTE: the oldest byte has been sent. -/
def uartTx (s : State) (u : Nat) : State :=
  if !(s.lspPort 0x0E u && s.flag Fl.LSP_U_CTRL_tx_en [u]) then s
  else match (s.uart u).tx with
    | b :: t => ((s.modUart u fun x => { x with tx := t }).uartLevels u).emit (.port 3 u [b])
    | [] => s

/-! ### USB device (R523 to R525) -/

/-- Under BOOTSEL 0b100 only the DFU mode interface is presented. -/
def dfuMode (s : State) : Bool := s.get Fl.DEV_STRAP_bootsel = 4

/-- The device is on the bus: its unit is on, its pull-up enabled and VBUS present. In DFU mode the ROM runs it without a PORT
record. -/
def usbOn (s : State) : Bool :=
  s.powered .lsp && (s.dfuMode || s.graph.portOn 0x0F 0) && s.flag Fl.LSP_USB_CTRL_connect && s.lsp.vbus

def usbState (s : State) (extra : Nat) : State :=
  s.ev 0x0115 srcLSP 0 (s.get Fl.LSP_USB_STAT_state + 4 * s.get Fl.LSP_USB_STAT_suspended + extra)

/-- Handshake packets as the device answers them: ACK, NAK, STALL. -/
def usbAnswer (s : State) (ep : Nat) (pid : Byte) : State := s.emit (.port 4 ep [pid])

/-- The device leaves the bus. -/
def usbDetach (s : State) : State :=
  let s := ((s.put Fl.LSP_USB_STAT_state [] 0).put Fl.LSP_USB_STAT_address [] 0).put Fl.LSP_USB_STAT_suspended [] 0
  (s.put Fl.LSP_USB_STAT_hs [] 0).modLsp fun x => { x with config := 0, inFull := false }

/-- USB_VBUS_CHANGE (R595). -/
def usbVbus (s : State) (present : Bool) : State :=
  let s := s.modLsp fun x => { x with vbus := present }
  if s.powered .lsp && !present then s.usbDetach else s

/-- USB_BUS_RESET (R525): back to Default at address 0. -/
def usbReset (s : State) (ctl : Option Nat) (hs : Bool) : State :=
  if !s.usbOn then s
  else
    let s := s.usbDetach
    let s := ((s.put Fl.LSP_USB_STAT_state [] 1).put Fl.LSP_USB_STAT_hs [] (b2n hs)).put Fl.LSP_USB_STAT_reset_seen [] 1
    let s := s.modLsp fun x => { x with
      dfuState := if s.dfuMode then 2 else 0, dfuStatus := if x.dfuState = 10 then x.dfuStatus else 0, dfuLen := 0 }
    s.ev 0x0114 srcLSP 0 (b2n ctl.isSome + 256 * (ctl.getD 0 % 256))

/-- A ring of 4 KiB pages, if it has any and lies in a partition (R524). -/
def usbRing (s : State) (lo hi : Reg) (pages : Nat) : Option (Nat × Nat) :=
  let base := s.rd64 lo hi / 4096 * 4096
  let n := pages * 4096
  if n ≠ 0 && s.graph.parts.any fun q => q.base ≤ base && base + n ≤ q.base + q.size then some (base, n) else none

/-- Bytes into a ring at a free-running count. -/
def usbPut (s : State) (base n c : Nat) (b : Bytes) : State :=
  b.zipIdx.foldl (fun (t : State) x => t.hbmWrite (base + (c + x.2) % n) [x.1]) s

def usbLive (s : State) : Bool :=
  s.usbOn && !s.dfuMode && s.get Fl.LSP_USB_STAT_state = 3 && !s.flag Fl.LSP_USB_STAT_suspended

def usbMax (s : State) : Nat := if s.flag Fl.LSP_USB_STAT_hs then 512 else 64

/-- USB_OUT_PACKET: NAKed unless the RX ring takes the whole packet. -/
def usbOut (s : State) (data : Bytes) : State :=
  if !s.usbLive || s.usbMax < data.length then s
  else
    let wr := s.rd R.LSP_USB_RXWR
    let held := (wr + 2 ^ 32 - s.rd R.LSP_USB_RXRD) % 2 ^ 32
    match s.usbRing R.LSP_USB_RXRING_LO R.LSP_USB_RXRING_HI (s.get Fl.LSP_USB_RINGSZ_rx_pages) with
    | none => s.usbAnswer 1 0x5A
    | some (base, n) =>
      if n < held + data.length || n ≤ held then s.usbAnswer 1 0x5A
      else ((s.usbPut base n wr data).wr R.LSP_USB_RXWR [] ((wr + data.length) % 2 ^ 32)).usbAnswer 1 0xD2

/-- USB_IN_PACKET: the next packet of the TX ring, a zero-length one after a full last one, else a NAK. -/
def usbIn (s : State) : State :=
  if !s.usbLive then s
  else
    let rd := s.rd R.LSP_USB_TXRD
    let have_ := (s.rd R.LSP_USB_TXWR + 2 ^ 32 - rd) % 2 ^ 32
    match s.usbRing R.LSP_USB_TXRING_LO R.LSP_USB_TXRING_HI (s.get Fl.LSP_USB_RINGSZ_tx_pages) with
    | none => s.usbAnswer 0x81 0x5A
    | some (base, n) =>
      if have_ = 0 then
        if s.lsp.inFull then (s.modLsp fun x => { x with inFull := false }).emit (.port 4 0x81 []) else s.usbAnswer 0x81 0x5A
      else
        let k := min have_ s.usbMax
        let b := (List.range k).flatMap fun i => s.hbmRead (base + (rd + i) % n) 1
        let s := s.modLsp fun x => { x with inFull := k = s.usbMax && k = have_ }
        (s.wr R.LSP_USB_TXRD [] ((rd + k) % 2 ^ 32)).emit (.port 4 0x81 b)

/-- USB_SUSPEND and USB_RESUME (R524). -/
def usbSuspend (s : State) (on : Bool) : State :=
  if s.usbOn && s.get Fl.LSP_USB_STAT_state ≠ 0 && s.flag Fl.LSP_USB_STAT_suspended = !on then
    (s.put Fl.LSP_USB_STAT_suspended [] (b2n on)).usbState 0
  else s

/-- The device descriptor: Vendor and Product ID and one configuration (R523); what the spec does not state is free (log 2). -/
def usbDeviceDescriptor (s : State) : Bytes × State :=
  let r := s.freeBytes 10
  let b := r.1
  ([18, 1, 0x00, 0x02] ++ b.take 4 ++ leBytes 2 0x1F3B ++ leBytes 2 0x0906 ++ (b.drop 4).take 5 ++ [1], r.2)

/-- The configuration descriptor: self-powered, no remote wakeup; the vendor interface with its endpoints and DFU in run time, or
the DFU mode interface alone (R523; the DFU functional descriptor is DFU 1.1's). -/
def usbConfigDescriptor (s : State) : Bytes × State :=
  let r := s.freeBytes 6
  let b := r.1
  let dfu (n proto : Byte) : Bytes := [9, 4, n, 0, 0, 0xFE, 1, proto, b.getD 0 0, 9, 0x21, 0x01] ++ (b.drop 1).take 2 ++ leBytes 2 4096 ++ leBytes 2 0x0110
  let size := leBytes 2 s.usbMax
  let body := if s.dfuMode then dfu 0 2
    else [9, 4, 0, 0, 2, 0xFF] ++ (b.drop 3).take 3 ++ [7, 5, 0x01, 2] ++ size ++ [0, 7, 5, 0x81, 2] ++ size ++ [0] ++ dfu 1 1
  ([9, 2] ++ leBytes 2 (9 + body.length) ++ [if s.dfuMode then 1 else 2, 1, 0, 0xC0, 0] ++ body, r.2)

/-- A control request with a data stage to the host, or a handshake. -/
def usbReply (s : State) (rq : UsbReq) (b : Bytes) : State := s.emit (.port 4 0 (b.take rq.wLength))

/-- USB_CONTROL_REQUEST (R523): the standard requests of USB 2.0 and the class requests of DFU 1.1; others are stalled. -/
def usbControl (s : State) (rq : UsbReq) : State :=
  if !s.usbOn || s.get Fl.LSP_USB_STAT_state = 0 || s.flag Fl.LSP_USB_STAT_suspended then s
  else
    match rq.bmRequestType, rq.bRequest with
    | 0x00, 5 =>
      let a := rq.wValue % 128
      ((s.put Fl.LSP_USB_STAT_address [] a).put Fl.LSP_USB_STAT_state [] (if a = 0 then 1 else 2)).usbAnswer 0 0xD2
    | 0x00, 9 =>
      if 1 < rq.wValue || s.get Fl.LSP_USB_STAT_state < 2 then s.usbAnswer 0 0x1E
      else
        let s := (s.put Fl.LSP_USB_STAT_state [] (2 + rq.wValue)).modLsp fun x => { x with config := rq.wValue, inFull := false }
        let s := s.usbAnswer 0 0xD2
        if rq.wValue = 1 then s.usbState 0 else s
    | 0x80, 8 => s.usbReply rq [BitVec.ofNat 8 s.lsp.config]
    | 0x80, 0 => s.usbReply rq [1, 0]
    | 0x81, 0 => s.usbReply rq [0, 0]
    | 0x82, 0 => s.usbReply rq [0, 0]
    | 0x81, 10 => s.usbReply rq [0]
    | 0x80, 6 =>
      if rq.wValue / 256 = 1 then let r := s.usbDeviceDescriptor; r.2.usbReply rq r.1
      else if rq.wValue = 0x200 then let r := s.usbConfigDescriptor; r.2.usbReply rq r.1
      else s.usbAnswer 0 0x1E
    | 0x01, 11 => s.usbAnswer 0 (if rq.wValue = 0 then 0xD2 else 0x1E)
    | 0x02, 1 => s.usbAnswer 0 0xD2
    | 0xA1, 3 =>
      let r := s.freeBytes 3
      r.2.usbReply rq ([BitVec.ofNat 8 s.lsp.dfuStatus] ++ r.1 ++ [BitVec.ofNat 8 s.lsp.dfuState, 0])
    | 0xA1, 5 => s.usbReply rq [BitVec.ofNat 8 s.lsp.dfuState]
    | 0x21, 4 =>
      if s.lsp.dfuState = 10 then (s.modLsp fun x => { x with dfuState := 2, dfuStatus := 0, dfuLen := 0 }).usbAnswer 0 0xD2
      else s.usbAnswer 0 0x1E
    | 0x21, 6 =>
      if s.dfuMode && s.lsp.dfuState ≠ 10 then (s.modLsp fun x => { x with dfuState := 2, dfuLen := 0 }).usbAnswer 0 0xD2
      else s.usbAnswer 0 0x1E
    | _, _ => s.usbAnswer 0 0x1E

/-- A DFU request that fails: the state dfuERROR with a status. -/
def dfuError (s : State) (status : Nat) : State := (s.modLsp fun x => { x with dfuState := 10, dfuStatus := status }).usbAnswer 0 0x1E

/-- DFU_DNLOAD: block `blk` of 4,096 bytes to the staging window; a block without data ends the download (R523). -/
def dfuDnload (s : State) (blk : Nat) (data : Bytes) : State :=
  if !s.usbOn || s.get Fl.LSP_USB_STAT_state ≠ 3 then s
  else if !s.dfuMode then s.usbAnswer 0 0x1E
  else if data.isEmpty then
    if s.lsp.dfuState = 5 then (s.modLsp fun x => { x with dfuState := 6 }).usbAnswer 0 0xD2 else s.dfuError 0x0F
  else if 4096 < data.length || !(s.lsp.dfuState = 2 || s.lsp.dfuState = 5) then s.dfuError 0x0F
  else if 0x1000000 < blk * 4096 + data.length then s.dfuError 8
  else
    let s := s.hbmWrite (reservedLo + blk * 4096) data
    (s.modLsp fun x => { x with dfuState := 5, dfuLen := blk * 4096 + data.length }).usbAnswer 0 0xD2

/-- DFU_MANIFEST: the load of R105 starts, or fails with errVERIFY. -/
def dfuManifest (s : State) : State :=
  if !(s.usbOn && s.dfuMode && s.lsp.dfuState = 6) then s
  else
    let s := s.put Fl.DRV_LEN_length [] s.lsp.dfuLen
    let c := s.chkLoad
    if c.1 = 0 then
      let s := s.loadImage
      s.loadStart.modLsp fun x => { x with dfuState := 7 }
    else
      let s := s.drvErr c
      let s : State := if s.loadWaits then { s with cpr := { s.cpr with rom := true } } else s
      s.modLsp fun x => { x with dfuState := 10, dfuStatus := 7 }

/-- DFU_DETACH (R523). -/
def dfuDetach (s : State) : State :=
  if s.usbOn && s.get Fl.LSP_USB_STAT_state = 3 then
    if s.dfuMode then s.usbAnswer 0 0x1E else (s.usbAnswer 0 0xD2).usbState 8
  else s

/-! ### SD host (R526, R527) -/

/-- SD_INFO. -/
def sdInfo (s : State) (id : Nat) : State :=
  match s.started id 0x0300 with
  | some p =>
    if p.len ≠ 16 then s.setResult id stBadArg 0
    else s.setResult id stOk (if s.powered .lsp then s.get Fl.LSP_SD_STAT_mode else 0)
  | none => s

/-- Why a card command cannot start: no card, or one whose initialisation failed. -/
def sdDead (s : State) : Option Nat :=
  if !(s.lspPort 0x10 0 && s.flag Fl.LSP_SD_STAT_present) then some 0x80A0
  else if s.get Fl.LSP_SD_STAT_mode = 0 then some 0x80A2
  else none

/-- A card command's blocks, first block and HBM address, or nothing where an argument is bad. -/
def sdArgs (s : State) (p : Packet) : Option (Nat × Nat × Nat) :=
  let n := fieldLe p.body 16 4
  let a := fieldLe p.body 32 8
  if p.len = 40 && 1 ≤ n && n ≤ 65535 && s.graph.parts.any fun q => q.base ≤ a && a + 512 * n ≤ q.base + q.size then
    some (n, fieldLe p.body 24 8, a)
  else none

def sdFail (s : State) (id st n : Nat) : State :=
  (if s.powered .lsp then s.inc (if st = 0x80A1 then Fl.LSP_SD_CNT_unknown else Fl.LSP_SD_CNT_errors) else s).setResult id st n

/-- A card packet's work ends: the card is no longer busy with it. -/
def sdIdle (s : State) : State := if s.powered .lsp then s.put Fl.LSP_SD_STAT_busy [] 0 else s

/-- SD_READ. -/
def sdRead (s : State) (id : Nat) (data : Bytes) (stop : Nat) : State :=
  match s.started id 0x0301 with
  | none => s
  | some p =>
    let s := s.sdIdle
    match s.sdArgs p with
    | none => s.setResult id stBadArg 0
    | some (n, _, a) =>
      match s.sdDead with
      | some st => s.sdFail id st 0
      | none =>
        let got := min n (data.length / 512)
        let s := s.hbmWrite a (data.take (512 * got))
        if got = n && stop = 0 then s.setResult id stOk n else s.sdFail id (if stop = 2 then 0x80A0 else 0x80A2) got

/-- SD_WRITE: one CMD24 per block, so at most one block is uncertain. -/
def sdWrite (s : State) (id good stop : Nat) : State :=
  match s.started id 0x0302 with
  | none => s
  | some p =>
    let s := s.sdIdle
    match s.sdArgs p with
    | none => s.setResult id stBadArg 0
    | some (n, first, a) =>
      match s.sdDead with
      | some st => s.sdFail id st 0
      | none =>
        let k := min n good
        let s := s.emit (.port 5 0 (leBytes 8 first ++ s.hbmRead a (512 * k)))
        if k = n then s.setResult id stOk n
        else s.sdFail id (if stop = 3 then 0x80A1 else if stop = 2 then 0x80A0 else 0x80A2) k

/-- EV_SD_CARD (R527). -/
def sdCard (s : State) (present : Bool) (mode : Nat) : State :=
  if !s.lspPort 0x10 0 || s.flag Fl.LSP_SD_STAT_present = present then s
  else
    let s := (s.put Fl.LSP_SD_STAT_present [] (b2n present)).put Fl.LSP_SD_STAT_mode [] (if present && mode ≤ 6 then mode else 0)
    s.ev 0x0116 srcLSP 0 (b2n present)

/-! ### Trigger/GPIO lines (R528) -/

/-- The stored values of bank `b` become `v`; the lines that the GPIO function drives follow, and read back at the pins. -/
def gpioOut (s : State) (b v : Nat) : State :=
  let old := s.get Fl.LSP_GPIO_OUT_lines [b]
  let s := s.put Fl.LSP_GPIO_OUT_lines [b] v
  (List.range 8).foldl (fun (t : State) i =>
    let l := 8 * b + i
    if bit old i ≠ bit v i && t.get Fl.TIME_L_CTRL_src [l] = 0 then t.driveLine l 0 (bit v i) t.dt else t) s

/-- A write to LSP_GPIO_SETb or LSP_GPIO_CLRb. -/
def gpioSet (s : State) (b v : Nat) : State :=
  if b < 6 && s.lspPort 0x11 b then s.gpioOut b (s.get Fl.LSP_GPIO_OUT_lines [b] ||| (v % 256)) else s

def gpioClr (s : State) (b v : Nat) : State :=
  if b < 6 && s.lspPort 0x11 b then
    let old := s.get Fl.LSP_GPIO_OUT_lines [b]
    s.gpioOut b (old - (old &&& (v % 256)))
  else s

end State

/-- An LSP command of the host, on the unit's power domain (R30). -/
def lspRow (f : State → State) (s : State) : Res := .next (s.onUnit .lsp f)

def execSmbusRead (addr : Nat) (cmd : Option Nat) (n : Nat) (s : State) : Res := .next (s.smbusRead addr cmd n)

def execSmbusWrite (addr cmd : Nat) (data : Bytes) (crc : Option Nat) (s : State) : Res := .next (s.smbusWrite addr cmd data crc)

def execSmbusTimeout (s : State) : Res := .next s.smbusTimeout

def execI2cGo (c v : Nat) (s : State) : Res := lspRow (fun t => t.i2cGo c v) s

def execI2cTryEnd (c : Nat) (res : I2cResult) (s : State) : Res := .next (s.i2cTryEnd c res)

def execI2cRetryDelay (c : Nat) (s : State) : Res := .next (s.i2cRetryDelay c)

def execI2cFlush (c : Nat) (s : State) : Res := lspRow (fun t => t.i2cFlush c) s

def execSpiGo (c v : Nat) (s : State) : Res := lspRow (fun t => t.spiGo c v) s

def execSpiTransferEnd (c : Nat) (data : Bytes) (s : State) : Res := .next (s.spiTransferEnd c data)

def execFifoPush (f : FifoPort) (i v : Nat) (s : State) : Res := lspRow (fun t => t.fifoPush f i v) s

def execFifoPop (f : FifoPort) (i : Nat) (s : State) : Res := .next (s.fifoPop f i)

def execUartRxByte (u b : Nat) (frameErr parityErr brk : Bool) (s : State) : Res := .next (s.uartRx u b frameErr parityErr brk)

def execUartTxByte (u : Nat) (s : State) : Res := .next (s.uartTx u)

def execUsbBusReset (ctl : Option Nat) (hs : Bool) (s : State) : Res := .next (s.usbReset ctl hs)

def execUsbOutPacket (data : Bytes) (s : State) : Res := .next (s.usbOut data)

def execUsbInPacket (s : State) : Res := .next s.usbIn

def execUsbSuspend (s : State) : Res := .next (s.usbSuspend true)

def execUsbResume (s : State) : Res := .next (s.usbSuspend false)

def execUsbControlRequest (rq : UsbReq) (s : State) : Res := .next (s.usbControl rq)

def execUsbVbusChange (present : Bool) (s : State) : Res := .next (s.usbVbus present)

def execDfuDnload (blk : Nat) (data : Bytes) (s : State) : Res := .next (s.dfuDnload blk data)

def execDfuManifest (s : State) : Res := .next s.dfuManifest

def execDfuDetach (s : State) : Res := .next s.dfuDetach

def execSdInfo (id : Nat) (s : State) : Res := .next (s.sdInfo id)

def execSdRead (id : Nat) (data : Bytes) (stop : Nat) (s : State) : Res := .next (s.sdRead id data stop)

def execSdWrite (id good stop : Nat) (s : State) : Res := .next (s.sdWrite id good stop)

def execEvSdCard (present : Bool) (mode : Nat) (s : State) : Res := .next (s.sdCard present mode)

def execGpioSet (b v : Nat) (s : State) : Res := lspRow (fun t => t.gpioSet b v) s

def execGpioClr (b v : Nat) (s : State) : Res := lspRow (fun t => t.gpioClr b v) s

end Sys2Proof.Machine
end

