-- ==== Sys2Proof/Machine/OflIo.lean ====
section
/-! DEFINITION. The offload port's data path: fetching commands, namespaces, member reads, the exchange cache (R416 to R418, R424 to
R431). -/

namespace Sys2Proof.Machine

/-- Blocks that the exchange cache holds (R426). -/
def cacheBlocks : Nat := 65536

/-- A member whose unit of a row cannot be read. -/
def Volume.out (v : Volume) (row k : Nat) : Bool := bit v.failed k || (bit v.rebuilding k && v.progress ≤ row)

namespace State

/-- The offload function is present on its link (R413). -/
def oflPresent (s : State) : Bool := s.powered .ofl && s.graph.portOn 4 0

/-! ### Power states (R437) -/

/-- Begin to enter, or to leave for, a power state. -/
def psGo (s : State) (ps : Nat) (auto : Bool) : State :=
  (s.modOfl fun x => { x with psNext := some ps, psAuto := auto }).put Fl.OFL_STAT_transit [] 1

/-- A command arrives: in a non-operational state the controller returns to its last operational state. -/
def psWake (s : State) : State :=
  if 2 ≤ s.get Fl.OFL_STAT_ps && !s.flag Fl.OFL_STAT_transit then s.psGo s.ofl.psOp false else s

/-! ### Arbitration and fetch (R424) -/

/-- Queues with commands to fetch, in ascending order. -/
def sqPending (s : State) : List Nat :=
  sortBy (fun (a b : Nat) => decide (a < b)) ((s.ofl.sqs.filter fun q => q.head ≠ q.tail).map fun q => q.id)

/-- Is it the turn of queue `q`: a burst of up to 2^AB commands of one queue, then the next queue that has any; AB of 7 sets no
limit. -/
def oflTurn (s : State) (q : Nat) : Bool :=
  let l := s.sqPending
  let cur := s.ofl.turn.1
  let ab := s.feat 0x01 % 8
  let more : Bool := l.contains cur && (ab = 7 || s.ofl.turn.2 < 2 ^ ab)
  let next := ((l.find? fun x => cur < x).orElse fun _ => l.head?).getD cur
  l.contains q && (if more then q = cur else q = next)

/-- Fetch a command and run it as one of opcode `row` (admin commands as 0x100 + opcode). An opcode that the queue's table does not name
completes with Invalid Command Opcode (R419). Nothing happens while the controller does not fetch the command, or for a command of
another row (log 33, log 61). -/
def oflFetch (s : State) (c : NvmeCmd) (row : Nat) (run : State → Nat → State) : State :=
  let opc := nvmeCode c
  if !s.oflPresent || !s.oflRdy || s.oflPaused || !(s.oflTurn c.sq) || (opc ≠ row && nvmeCodes.contains opc) then s
  else
    let id := s.ofl.nextId
    let new : OflCmd := ⟨id, c.sq, c.cid, opc, c.nsid, c.cdw10 + 2 ^ 32 * c.cdw11, c.cdw12 % 2 ^ 16 + 1, c.prp1, c.prp2, [], [], [],
      bit c.cdw12 30, false, none⟩
    let s := s.modOfl fun x => { x with
      nextId := id + 1, cmds := x.cmds ++ [new]
      turn := (c.sq, if x.turn.1 = c.sq then x.turn.2 + 1 else 1)
      sqs := x.sqs.map fun q => if q.id = c.sq then { q with head := (q.head + 1) % q.size } else q }
    let s := s.oflShow
    if opc ≠ row then s.oflComplete id 0 nvInvalidOpcode
    else if c.psdt ≠ 0 || c.fuse ≠ 0 then s.oflComplete id 0 nvInvalidField else run s id

/-! ### Host data (R415: PRP only) -/

def oflPage (s : State) : Nat := 4096 * 2 ^ bits s.ofl.cc 10 7

/-- Page addresses of a PRP list for `n` bytes. -/
def prpList (s : State) (page : Nat) : Nat → Nat → Nat → List Nat
  | 0, _, _ => []
  | fuel + 1, p, n =>
    let e := s.ohost.readLe p 8
    if n = 0 then []
    else if p % page = page - 8 && page < n then s.prpList page fuel e n
    else e :: s.prpList page fuel (p + 8) (n - page)

/-- Where `n` bytes of host data lie: (address, bytes), or `none` for an entry whose page offset is not permitted. -/
def prpSpans (s : State) (prp1 prp2 n : Nat) : Option (List (Nat × Nat)) :=
  let page := s.oflPage
  let first := min n (page - prp1 % page)
  let rest := n - first
  if prp1 % 4 ≠ 0 then none
  else if rest = 0 then some [(prp1, n)]
  else
    let pages := if rest ≤ page then [prp2] else s.prpList page (2 * (rest / page + 2)) prp2 rest
    if (page < rest && prp2 % 8 ≠ 0) || pages.any fun a => a % page ≠ 0 then none
    else some ((prp1, first) :: pages.mapIdx fun i a => (a, min page (rest - i * page)))

/-- Transfer bytes to the host; `none` where the PRPs do not permit it. -/
def oflToHost (s : State) (prp1 prp2 : Nat) (b : Bytes) : Option State :=
  (s.prpSpans prp1 prp2 b.length).map fun l =>
    (l.foldl (fun (a : State × Bytes) (x : Nat × Nat) => (a.1.ohostWrite x.1 (a.2.take x.2), a.2.drop x.2)) (s, b)).1

/-- Bytes that the host holds. -/
def oflFromHost (s : State) (prp1 prp2 n : Nat) : Option Bytes :=
  (s.prpSpans prp1 prp2 n).map fun l => l.flatMap fun x => s.ohost.read x.1 x.2

/-- Transfer bytes and complete. -/
def oflAnswer (s : State) (id dw0 : Nat) (b : Bytes) : State :=
  match s.oflCmd id with
  | none => s
  | some c =>
    match s.oflToHost c.prp1 c.prp2 b with
    | some t => t.oflComplete id dw0 nvOk
    | none => s.oflComplete id 0 nvInvalidPrp

/-! ### Ranges (R264, R416, R429) -/

/-- VLBA of block 0 of a namespace. -/
def nsBase (s : State) (n : Nat) : Nat := if n = 1 then 0 else s.exchange.1

/-- Volume row of a namespace block. -/
def nsRow (s : State) (v : Volume) (n lba : Nat) : Nat := (s.nsBase n + lba) / v.rowBlocks

/-- Pieces of a range, one in each data unit that it touches: (namespace LBA, blocks). -/
def unitPieces (base lba n : Nat) : List (Nat × Nat) :=
  let lo := (base + lba) / 256
  let hi := (base + lba + n - 1) / 256
  (List.range (hi + 1 - lo)).map fun i =>
    let a := max (base + lba) ((lo + i) * 256)
    (a - base, min (base + lba + n) ((lo + i + 1) * 256) - a)

/-- The member reads of a piece: the unit itself, or, where its member is failed, the other units of its row (R265); `none` where
the row has more failed members than parity rebuilds (R430). -/
def pieceReads (s : State) (v : Volume) (ns lba : Nat) : Option (List (Nat × Nat)) :=
  let at_ := vlbaAt v.m v.r (s.nsBase ns + lba)
  let row := s.nsRow v ns lba
  if !(v.out row at_.1) then some [at_]
  else
    let up := (List.range v.m).filter fun k => !(v.out row k)
    if v.m - up.length ≤ v.r then some (up.map fun k => (k, at_.2)) else none

/-- Issue member accesses, up to 8 per member (R425). -/
def oflIssue (s : State) : State :=
  s.modOfl fun x => { x with ios := x.ios.foldl (fun (l : List OflIo) (i : OflIo) =>
    let busy := ((l ++ x.ios.filter fun y => y.id > i.id).filter fun y => y.issued && y.m = i.m).length
    l ++ [if i.issued || busy < 8 then { i with issued := true } else i]) [] }

/-! ### Unrecovered reads (R430) -/

/-- The command completes with Unrecovered Read Error: its error entry, the counts and the record. -/
def oflReadError (s : State) (id member lba : Nat) : State :=
  match s.oflCmd id with
  | none => s
  | some c =>
    let e := leBytes 8 (s.ofl.errCount + 1) ++ leBytes 2 c.sq ++ leBytes 2 c.cid ++ leBytes 2 (2 * nvReadError) ++ leBytes 2 0
      ++ leBytes 8 lba ++ leBytes 4 c.ns ++ leBytes 1 member ++ leBytes 35 0
    let s := s.modOfl fun x => { x with
      errors := (e :: x.errors).take 64, errCount := x.errCount + 1, smart := modNth x.smart 6 (fun n => n + 1) }
    let s := s.put Fl.OFL_STAT_ure [] 1
    (s.evLimited 0x00D3 srcOFL 0 (s.rd R.DEV_EPOCH_IN) noFrame (member + 2 ^ 32)).oflComplete id 0 nvReadError

/-! ### What a read returns (R418, R426) -/

/-- Rows of a take in the order of its extents. -/
def takeRows (v : Volume) (num : Nat) : List Nat :=
  (sortBy (fun (a b : Extent) => decide (a.seq < b.seq)) (v.extents.filter fun e => e.take = num)).flatMap fun e =>
    (List.range e.count).map fun i => e.row + i

/-- Does a durable chunk hold a block of the data region. -/
def durableBlock (v : Volume) (vlba : Nat) : Bool :=
  v.index.any fun c =>
    let rows := takeRows v c.take
    let place (x : Nat) : Option Nat := (rows.findIdx? fun r => r = x / v.rowBlocks).map fun i => i * v.rowBlocks + x % v.rowBlocks
    c.kind ≠ 5 && match place c.vlba, place vlba with
      | some a, some b => decide (a ≤ b) && decide (b < a + ceilDiv (64 + c.len) 4096)
      | _, _ => false

/-- Is the content of a volume block defined: its row is not in flight, and lies inside the last durable cut. -/
def blockDefined (s : State) (v : Volume) (vlba : Nat) : Bool :=
  let d := v.regions.getD 6 (0, 0)
  let inData : Bool := d.1 ≤ vlba && vlba < d.1 + d.2
  !(s.rs.flight.any fun r => r.row = vlba / v.rowBlocks) && (!inData || durableBlock v vlba)

/-- The bytes of a piece from what the members returned. -/
def pieceBytes (s : State) (v : Volume) (c : OflCmd) (lba n : Nat) : Bytes :=
  let row := s.nsRow v c.ns lba
  let at_ := vlbaAt v.m v.r (s.nsBase c.ns + lba)
  let get (k : Nat) : Option Bytes := (c.got.find? fun g => g.1 = k && g.2.1 = at_.2).map (·.2.2)
  match get at_.1 with
  | some b => b
  | none =>
    let j := (s.nsBase c.ns + lba) / 256 % v.d
    (((rebuildData v.m v.r row (n * 4096) get).map fun l => l.getD j []).getD [])

/-- One block of a range: cached data first for NS2, free content where R418 leaves it undefined. -/
def blockBytes (s : State) (v : Volume) (c : OflCmd) (raw : Bytes) (i : Nat) : Bytes :=
  let lba := c.lba + i
  if c.ns = 2 && s.ofl.dirty.contains lba then s.ofl.cache.read (lba * 4096) 4096
  else if s.blockDefined v (s.nsBase c.ns + lba) then (raw.drop (i * 4096)).take 4096
  else (s.freeBytes (i * 4096 + 4096)).1.drop (i * 4096)

def rangeBytes (s : State) (v : Volume) (c : OflCmd) : Bytes :=
  let raw := (unitPieces (s.nsBase c.ns) c.lba c.n).flatMap fun p => s.pieceBytes v c p.1 p.2
  (List.range c.n).flatMap fun i => s.blockBytes v c raw i

/-- Data moved between host and members, as OFL_RDBYTES and OFL_WRBYTES count it, and the SMART counts. -/
def oflCount (s : State) (wr : Bool) (n : Nat) : State :=
  let s := s.modOfl fun x => { x with
    smart := modNth (modNth x.smart (b2n wr) fun a => a + n / 512) (2 + b2n wr) fun a => a + 1 }
  if wr then s.wr64 R.OFL_WRBYTES_LO R.OFL_WRBYTES_HI [] ((s.rd64 R.OFL_WRBYTES_LO R.OFL_WRBYTES_HI + n) % 2 ^ 64)
  else s.wr64 R.OFL_RDBYTES_LO R.OFL_RDBYTES_HI [] ((s.rd64 R.OFL_RDBYTES_LO R.OFL_RDBYTES_HI + n) % 2 ^ 64)

/-- Every member read of a command has ended (R429, R430). -/
def readDone (s : State) (id : Nat) : State :=
  match s.oflCmd id, s.rs.vol with
  | some c, some v =>
    match c.fail with
    | some f => s.oflReadError id f.1 f.2
    | none =>
      let b := s.rangeBytes v c
      let s : State := { s with free := s.free + c.n * 4096 }
      if c.opc = 2 then
        match s.oflToHost c.prp1 c.prp2 b with
        | some t => (t.oflCount false b.length).oflComplete id 0 nvOk
        | none => s.oflComplete id 0 nvInvalidPrp
      else if c.opc = 5 then s.oflComplete id 0 (if b = c.data then nvOk else nvCompareFail)
      else s.oflComplete id 0 nvOk
  | some _, none => s.oflComplete id 0 nvNotReady
  | none, _ => s

/-- The reads of a command are planned, and those that the limit allows are issued. -/
def oflReads (s : State) (id : Nat) : State :=
  match s.oflCmd id, s.rs.vol with
  | some c, some v =>
    let ps := (unitPieces (s.nsBase c.ns) c.lba c.n).map fun p => (p, s.pieceReads v c.ns p.1)
    match ps.find? fun p => p.2.isNone with
    | some p => s.oflReadError id (vlbaAt v.m v.r (s.nsBase c.ns + p.1.1)).1 p.1.1
    | none =>
      let l := ps.flatMap fun p => (p.2.getD []).map fun r => (r, p.1)
      let k := s.ofl.nextId
      let ios : List OflIo := l.mapIdx fun i (x : (Nat × Nat) × (Nat × Nat)) => ⟨k + i, id, x.1.1, x.1.2, x.2.2, x.2.1, false⟩
      (s.modOfl fun x => { x with ios := x.ios ++ ios, nextId := k + ios.length }).oflIssue
  | _, _ => s.oflComplete id 0 nvNotReady

/-- The checks of an I/O command (R415 to R418); 0 where it may run. -/
def ioCheck (s : State) (c : NvmeCmd) (wr : Bool) (most : Nat) : Nat :=
  let n := c.cdw12 % 2 ^ 16 + 1
  if c.nsid ≠ 1 && c.nsid ≠ 2 then nvInvalidNs
  else if !s.nsActive c.nsid then nvNotReady
  else if wr && c.nsid = 1 then nvWriteProtected
  else if most < n then nvInvalidField
  else if s.nsBlocks c.nsid < c.cdw10 + 2 ^ 32 * c.cdw11 + n then nvLbaRange
  else nvOk

/-- An I/O command: fetched, checked, run. -/
def ioCmd (s : State) (c : NvmeCmd) (opc : Nat) (wr : Bool) (most : Nat) (run : State → Nat → State) : State :=
  s.oflFetch c opc fun t id =>
    let e := t.ioCheck c wr most
    if e = nvOk then run t id else t.oflComplete id 0 e

/-! ### The exchange cache (R426 to R428, R431) -/

/-- Rows that blocks of NS2 lie in. -/
def exRows (s : State) (lbas : List Nat) : List Nat :=
  match s.rs.vol with
  | some v => (lbas.map fun a => s.nsRow v 2 a).eraseDups
  | none => []

/-- A write enters the cache if it fits, and completes unless it must reach the members first. -/
def cacheWrite (s : State) (id : Nat) : State :=
  match s.oflCmd id with
  | none => s
  | some c =>
    let lbas := (List.range c.n).map fun i => c.lba + i
    let new := lbas.filter fun a => !(s.ofl.dirty.contains a)
    if cacheBlocks < s.ofl.dirty.length + new.length then s.modCmd id fun x => { x with wait := true }
    else
      let s := s.modOfl fun x => { x with cache := x.cache.write (c.lba * 4096) c.data, dirty := x.dirty ++ new }
      let s := (s.modCmd id fun x => { x with wait := false, data := [] }).oflCount true (c.n * 4096)
      if bit (s.feat 0x06) 0 && !c.fua then s.oflComplete id 0 nvOk
      else (s.modCmd id fun x => { x with rows := s.exRows lbas }).oflShow

/-- Writes that wait for space go on in fetch order, until one does not fit. -/
def cacheAdmit (s : State) : Nat → State
  | 0 => s
  | n + 1 =>
    match s.ofl.cmds.find? fun c => c.wait with
    | none => s
    | some c =>
      let t := s.cacheWrite c.id
      if (t.oflCmd c.id).any fun d => d.wait then s else t.cacheAdmit n

/-- A shutdown ends once the cache is written (R433). -/
def oflShutdown (s : State) : State :=
  if s.ofl.shut && s.ofl.dirty.isEmpty then
    (s.modOfl fun x => { x with shut := false, csts := putBits x.csts 3 2 2 }).ev 0x00D0 srcOFL 0 2
  else s

/-- A row of the cache is on its members and flushed: what waited for it goes on. -/
def rowFlushed (s : State) (row : Nat) : State :=
  let s := s.modOfl fun x => { x with cmds := x.cmds.map fun c => { c with rows := c.rows.filter fun r => r ≠ row } }
  let fin := (s.ofl.cmds.filter fun c => !c.wait && (c.opc = 1 || c.opc = 8 || c.opc = 0) && c.rows.isEmpty).map fun c => c.id
  let s := fin.foldl (fun (t : State) id => t.oflComplete id 0 nvOk) s
  ((s.cacheAdmit s.ofl.cmds.length).oflShutdown).closeIdle

/-- Blocks of a row's data with those that the cache holds. -/
def mergeRow (s : State) (v : Volume) (row : Nat) (b : Bytes) : Bytes :=
  let base := row * v.rowBlocks
  (List.range v.rowBlocks).flatMap fun i =>
    if s.nsBase 2 ≤ base + i && s.ofl.dirty.contains (base + i - s.nsBase 2) then
      s.ofl.cache.read ((base + i - s.nsBase 2) * 4096) 4096
    else (b.drop (i * 4096)).take 4096

/-- EXCHANGE_ROW_WRITEBACK (R426): a dirty row is written with its parity. A row that cannot be read stays dirty. -/
def exWriteback (s : State) (row : Nat) : State :=
  match s.rs.vol with
  | none => s
  | some v =>
    let mine := s.ofl.dirty.filter fun a => s.nsRow v 2 a = row
    if mine.isEmpty || s.ofl.dusk || !s.powered .ofl then s
    else
      match s.rowData v row with
      | none => s
      | some b =>
        let s := s.rowStore v row (s.mergeRow v row b) []
        let s := mine.foldl (fun (t : State) a => t.modOfl fun x => { x with cache := x.cache.zero (a * 4096) 4096 }) s
        let s := s.modOfl fun x => { x with dirty := x.dirty.filter fun a => !(mine.contains a) }
        (s.oflShow).rowFlushed row

/-- The exchange area's parity has been recomputed (R428). -/
def exResync (s : State) : State :=
  if !s.flag Fl.OFL_STAT_ns2_resync || s.ofl.dusk then s
  else
    let s := match s.rs.vol with
      | some v =>
        let lo := s.exchange.1 / v.rowBlocks
        (List.range (s.exchange.2 / v.rowBlocks)).foldl (fun (t : State) i =>
          match t.rowData v (lo + i) with
          | some b => t.rowStore v (lo + i) b []
          | none => t) s
      | none => s
    s.put Fl.OFL_STAT_ns2_resync [] 0

/-- VWARN: no further member writes, and what the cache holds is lost (R428). -/
def oflDusk (s : State) : State :=
  (s.modOfl fun x => { x with dusk := true, cache := [], dirty := [] }).oflShow

/-! ### Member accesses -/

/-- A member access has ended; the command goes on once it was the last. -/
def ioEnded (s : State) (i : OflIo) (f : OflCmd → OflCmd) : State :=
  let s := (s.modOfl fun x => { x with ios := x.ios.filter fun y => y.id ≠ i.id }).modCmd i.cmd f
  let s := s.oflIssue
  if s.ofl.ios.any fun y => y.cmd = i.cmd then s else (s.readDone i.cmd).closeIdle

def memberIoDone (s : State) (io : Nat) : State :=
  match s.ofl.ios.find? (fun y => y.id = io && y.issued), s.rs.vol with
  | some i, some v =>
    let b := ((v.ports[i.m]?).map fun p => s.mediaRead p i.lba (i.n * 4096)).getD []
    s.ioEnded i fun c => { c with got := c.got ++ [(i.m, i.lba, b)] }
  | _, _ => s

def memberIoFail (s : State) (io : Nat) (timeout : Bool) : State :=
  match s.ofl.ios.find? (fun y => y.id = io && y.issued), s.rs.vol with
  | some i, some v =>
    let s := if v.r = 0 then s else s.failMembers [(i.m, if timeout then 2 else 1)]
    let s := s.modOfl fun x => { x with ios := x.ios.filter fun y => y.cmd ≠ i.cmd || y.issued }
    s.ioEnded i fun c => { c with fail := c.fail.orElse fun _ => some (i.m, i.first) }
  | _, _ => s

/-- Flush (R431). -/
def nvmeFlush (s : State) (c : NvmeCmd) : State :=
  s.oflFetch c 0 fun t id =>
    if c.nsid ≠ 1 && c.nsid ≠ 2 && c.nsid ≠ 0xFFFFFFFF then t.oflComplete id 0 nvInvalidNs
    else if c.nsid ≠ 0xFFFFFFFF && !t.nsActive c.nsid then t.oflComplete id 0 nvNotReady
    else if c.nsid = 1 || t.ofl.dirty.isEmpty then t.oflComplete id 0 nvOk
    else (t.modCmd id fun x => { x with rows := t.exRows t.ofl.dirty }).oflShow

end State

/-- NVME_FLUSH (R431). -/
def execNvmeFlush (c : NvmeCmd) (s : State) : Res := .next (s.nvmeFlush c)

/-- NVME_WRITE (R426). -/
def execNvmeWrite (c : NvmeCmd) (data : Bytes) (s : State) : Res :=
  .next (s.ioCmd c 1 true 256 fun t id =>
    (t.modCmd id fun x => { x with data := (List.range (x.n * 4096)).map fun i => data.getD i 0 }).cacheWrite id)

/-- NVME_READ (R429). -/
def execNvmeRead (c : NvmeCmd) (s : State) : Res := .next (s.ioCmd c 2 false 256 fun t id => t.oflReads id)

/-- NVME_COMPARE (R429). -/
def execNvmeCompare (c : NvmeCmd) (data : Bytes) (s : State) : Res :=
  .next (s.ioCmd c 5 false 256 fun t id => (t.modCmd id fun x => { x with data := data }).oflReads id)

/-- NVME_WRITE_ZEROES (R419, R426). -/
def execNvmeWriteZeroes (c : NvmeCmd) (s : State) : Res :=
  .next (s.ioCmd c 8 true 65536 fun t id => (t.modCmd id fun x => { x with data := List.replicate (x.n * 4096) 0 }).cacheWrite id)

/-- NVME_VERIFY (R419). -/
def execNvmeVerify (c : NvmeCmd) (s : State) : Res := .next (s.ioCmd c 12 false 256 fun t id => t.oflReads id)

/-- OFFLOAD_MEMBER_IO_DONE (R429). -/
def execOffloadMemberIoDone (io : Nat) (s : State) : Res := .next (s.memberIoDone io)

/-- MEMBER_READ_FAIL (R430). -/
def execMemberReadFail (io : Nat) (timeout : Bool) (s : State) : Res := .next (s.memberIoFail io timeout)

/-- EXCHANGE_ROW_WRITEBACK (R426). -/
def execExchangeRowWriteback (row : Nat) (s : State) : Res := .next (s.exWriteback row)

/-- EXCHANGE_PARITY_RESYNC_END (R428). -/
def execExchangeParityResyncEnd (s : State) : Res := .next s.exResync

end Sys2Proof.Machine
end

