-- ==== Sys2Proof/Machine/OflAdmin.lean ====
section
/-! DEFINITION. The offload controller's admin side (R412 to R424, R432 to R442): enable, reset and shutdown, admin commands,
firmware, power states and self-tests. Data structures that the spec names without laying them out are those of NVMe 2.0 (log 31). -/

namespace Sys2Proof.Machine

/-- ASCII text padded with spaces. -/
def asciiPad (n : Nat) (b : Bytes) : Bytes := (b ++ List.replicate n 0x20).take n

/-- Bytes laid at an offset of a structure. -/
def layAt (b : Bytes) (x : Nat × Bytes) : Bytes := (b.take x.1 ++ x.2 ++ b.drop (x.1 + x.2.length)).take b.length

def layAll (b : Bytes) (l : List (Nat × Bytes)) : Bytes := l.foldl layAt b

def oflModel : Bytes := asciiPad 40 (textBytes "Mbamet Immaot 9X Offload")

/-- A power state descriptor: maximum power in 0.01 W, non-operational, entry and exit latency in µs (R436). -/
def psDesc (mp : Nat) (nonOp : Bool) (en ex : Nat) : Bytes :=
  leBytes 2 mp ++ leBytes 1 0 ++ leBytes 1 (2 * b2n nonOp) ++ leBytes 4 en ++ leBytes 4 ex ++ leBytes 20 0

namespace State

/-! ### Enable, reset, shutdown (R413, R415, R432, R433) -/

/-- CC.EN goes to 1. A configuration outside CAP (command set, arbitration, page size) does not make the controller ready. -/
def oflEnable (s : State) (cc : Nat) : State :=
  if !s.oflPresent || bit s.ofl.cc 0 || !bit cc 0 then s
  else if bits cc 6 4 ≠ 0 || bits cc 13 11 ≠ 0 || 4 < bits cc 10 7 then (s.modOfl fun x => { x with cc := cc }).oflShow
  else
    let x := s.ofl
    let sq : OflSq := ⟨0, x.asq, bits x.aqa 11 0 + 1, 0, 0, 0⟩
    let cq : OflCq := ⟨0, x.acq, bits x.aqa 27 16 + 1, 0, true, 0, 0, true⟩
    let s := s.modOfl fun x => { x with cc := cc, csts := 1, sqs := [sq], cqs := [cq], turn := (0, 0) }
    s.oflShow.ev 0x00D0 srcOFL 0 0

/-- The effects of a controller reset (R432); the exchange cache is kept. -/
def oflReset (s : State) : State :=
  let s := s.testEnd 2
  let s := s.modOfl fun x => { x with
    cc := 0, csts := 0, intms := 0, sqs := [], cqs := [], turn := (0, 0), cmds := [], ios := [], posts := [], aers := [], events := [], masked := []
    feats := [], apst := [], download := [], activate := none, psNext := none, psOp := 0, psWant := none, psAuto := false, shut := false }
  let s := ((s.put Fl.OFL_STAT_ps [] 0).put Fl.OFL_STAT_transit [] 0).put Fl.OFL_STAT_reset_seen [] 1
  (((s.inc Fl.OFL_RESETS_resets).oflShow).ev 0x00D0 srcOFL 0 1).closeIdle

/-- CC.EN goes to 0. -/
def controllerReset (s : State) : State := if s.oflPresent && bit s.ofl.cc 0 then s.oflReset else s

/-- A reset on the offload link also resets the configuration space and the registers of the function. -/
def oflLinkReset (s : State) : State :=
  if !s.oflPresent then s
  else s.oflReset.modOfl fun x => { x with aqa := 0, asq := 0, acq := 0, msix := [], msixEnable := false, msixMask := false, msixPba := [] }

def oflShn (s : State) (shn : Nat) : State :=
  if !s.oflPresent || !s.oflRdy || (shn ≠ 1 && shn ≠ 2) then s
  else (s.modOfl fun x => { x with cc := putBits x.cc 15 14 shn, csts := putBits x.csts 3 2 1, shut := true }).oflShutdown

/-! ### Doorbells (R423, R437) -/

def sqDoorbell (s : State) (q tail : Nat) : State :=
  if !s.oflPresent || !s.oflRdy then s
  else
    match s.oflSq q with
    | none => s.oflEvent 0 0 1
    | some x =>
      if x.size ≤ tail || x.tail = tail then s.oflEvent 0 1 1
      else (s.modOfl fun y => { y with sqs := y.sqs.map fun z => if z.id = q then { z with tail := tail } else z }).psWake

/-! ### Queues (R419, R423) -/

/-- An admin command. -/
def admin (s : State) (c : NvmeCmd) (opc : Nat) (run : State → Nat → State) : State := s.oflFetch c (0x100 + opc) run

/-- I/O queues granted (R420). -/
def sqGranted (s : State) : Nat := s.feat 0x07 % 2 ^ 16 + 1
def cqGranted (s : State) : Nat := s.feat 0x07 / 2 ^ 16 + 1

def createCq (s : State) (c : NvmeCmd) (id : Nat) : State :=
  let q := bits c.cdw10 15 0
  let n := bits c.cdw10 31 16
  let e := if q = 0 || s.cqGranted < q || (s.oflCq q).isSome then nvQid
    else if n = 0 || 4095 < n then nvQsize
    else if !bit c.cdw11 0 then nvInvalidField
    else if 64 < bits c.cdw11 31 16 then nvVector
    else if c.prp1 % s.oflPage ≠ 0 then nvInvalidPrp else nvOk
  let s := if e = nvOk then
    s.modOfl fun x => { x with cqs := x.cqs ++ [⟨q, c.prp1, n + 1, bits c.cdw11 31 16, bit c.cdw11 1, 0, 0, true⟩] } else s
  s.oflComplete id 0 e

def createSq (s : State) (c : NvmeCmd) (id : Nat) : State :=
  let q := bits c.cdw10 15 0
  let n := bits c.cdw10 31 16
  let cq := bits c.cdw11 31 16
  let e := if q = 0 || s.sqGranted < q || (s.oflSq q).isSome then nvQid
    else if n = 0 || 4095 < n then nvQsize
    else if !bit c.cdw11 0 then nvInvalidField
    else if cq = 0 || s.cqGranted < cq then nvQid
    else if (s.oflCq cq).isNone then nvCqInvalid
    else if c.prp1 % s.oflPage ≠ 0 then nvInvalidPrp else nvOk
  let s := if e = nvOk then s.modOfl fun x => { x with sqs := x.sqs ++ [⟨q, c.prp1, n + 1, cq, 0, 0⟩] } else s
  s.oflComplete id 0 e

def deleteSq (s : State) (c : NvmeCmd) (id : Nat) : State :=
  let q := bits c.cdw10 15 0
  if q = 0 || (s.oflSq q).isNone then s.oflComplete id 0 nvQid
  else
    let s := (s.ofl.cmds.filter fun x => x.sq = q).foldl (fun (t : State) x => t.oflComplete x.id 0 nvSqDeleted) s
    let s := s.modOfl fun x => { x with sqs := x.sqs.filter fun z => z.id ≠ q }
    (s.oflComplete id 0 nvOk).closeIdle

def deleteCq (s : State) (c : NvmeCmd) (id : Nat) : State :=
  let q := bits c.cdw10 15 0
  if q = 0 || (s.oflCq q).isNone then s.oflComplete id 0 nvQid
  else if s.ofl.sqs.any fun z => z.cq = q then s.oflComplete id 0 nvQueueDeletion
  else (s.modOfl fun x => { x with cqs := x.cqs.filter fun z => z.id ≠ q }).oflComplete id 0 nvOk

/-! ### Log pages (R421, R422) -/

/-- The composite temperature in kelvin: the highest of the die's and the stacks' readings (R420). The die's is a free value. -/
def compositeTemp (s : State) : Nat :=
  (List.range 4).foldl (fun a i => max a (signed 8 (s.get Fl.HBMC_TEMP_now [i]) + 273).toNat) (Config.freeValue s.free % 1024)

def smartPage (s : State) : Bytes :=
  let t := s.compositeTemp
  let st := s.get Fl.REC_STAT_state
  let warn := 2 * b2n (s.feat 0x04 ≤ t || t ≤ s.feat 0x104) + 4 * b2n (4 ≤ st && st ≤ 6)
  let spare := match s.rs.vol with
    | some v => if v.r = 0 then 100 else 100 * (v.r - ((List.range v.m).filter fun k => bit v.failed k).length) / v.r
    | none => 100
  let n (i : Nat) : Nat := s.ofl.smart.getD i 0
  layAll (s.freeBytes 512).1 [(0, leBytes 1 warn), (1, leBytes 2 t), (3, leBytes 1 spare), (7, leBytes 25 0),
    (32, leBytes 16 (ceilDiv (n 0) 1000)), (48, leBytes 16 (ceilDiv (n 1) 1000)), (64, leBytes 16 (n 2)), (80, leBytes 16 (n 3)),
    (128, leBytes 16 (s.nv.secs / 3600)), (144, leBytes 16 (n 5)), (160, leBytes 16 (n 6)), (176, leBytes 16 s.ofl.errCount),
    (232, leBytes 280 0)]

/-- The Recording status log (R422). -/
def recordingLog (s : State) : Bytes :=
  let v := s.rs.vol
  let g (f : Volume → Nat) : Nat := (v.map f).getD 0
  let b := leBytes 8 (s.rd64 R.REC_COMMIT_SEQ_LO R.REC_COMMIT_SEQ_HI) ++ leBytes 8 (g fun v => v.ckpt)
    ++ leBytes 1 (s.get Fl.REC_STAT_state) ++ leBytes 1 (g fun v => v.m) ++ leBytes 1 (g fun v => v.r) ++ leBytes 1 0
    ++ leBytes 4 (g fun v => v.failed) ++ leBytes 4 (g fun v => v.rebuilding) ++ leBytes 4 0
    ++ (List.range 8).flatMap (fun p => leBytes 8 (s.rd64 R.REC_P_DURABLE_LO R.REC_P_DURABLE_HI [p]))
    ++ leBytes 8 s.dt ++ leBytes 8 (s.rd64 R.REC_FREE_LO R.REC_FREE_HI) ++ leBytes 12 0
  b ++ leBytes 4 (crc32c b)

/-- The offload modules (R434): slot 1 is the FIRMWARE section of the loaded image, slot 2 what was committed. -/
def oflModule (s : State) (slot : Nat) : Bytes := if slot = 2 then s.ofl.slot2 else (Image.of s.drv.image).firmware

def logPage (s : State) (lid : Nat) : Option Bytes :=
  match lid with
  | 0x01 => some (layAll (leBytes 4096 0) [(0, s.ofl.errors.flatten)])
  | 0x02 => some s.smartPage
  | 0x03 => some (layAll (leBytes 512 0) [(0, leBytes 1 (s.ofl.slot + 0x10)), (8, asciiPad 8 (Config.moduleFr (s.oflModule 1)).toList),
      (16, if s.ofl.slot2.isEmpty then leBytes 8 0 else asciiPad 8 (Config.moduleFr s.ofl.slot2).toList)])
  | 0x04 => some (layAll (leBytes 4096 0) [(0, s.ofl.changed.flatMap fun n => leBytes 4 n)])
  | 0x05 => some (layAll (leBytes 4096 0) ((adminOps.map fun o => (4 * o, leBytes 4 1))
      ++ ioOps.map fun o => (1024 + 4 * o.1, leBytes 4 (1 + 2 * b2n o.2))))
  | 0x06 => some (layAll (leBytes 564 0) ((0, leBytes 1 (s.get Fl.OFL_STEST_op)) :: (1, leBytes 1 (s.get Fl.OFL_STEST_percent))
      :: (List.range 20).map fun i => (4 + 28 * i, s.ofl.results.getD i [0x0F])))
  | 0xC0 => some s.recordingLog
  | _ => none

/-- Get Log Page; bytes past a page's end are free. Reading with RAE = 0 clears the page's events. -/
def getLog (s : State) (c : NvmeCmd) (id : Nat) : State :=
  let lid := bits c.cdw10 7 0
  let n := (bits c.cdw10 31 16 + 2 ^ 16 * bits c.cdw11 15 0 + 1) * 4
  let off := c.cdw12 + 2 ^ 32 * c.cdw13
  match s.logPage lid with
  | none => s.oflComplete id 0 nvLogPage
  | some b =>
    if b.length < off || off % 4 ≠ 0 || (c.nsid ≠ 0 && c.nsid ≠ 0xFFFFFFFF) then s.oflComplete id 0 nvInvalidField
    else
      let b := (b.drop off).take n
      let b := b ++ (s.freeBytes (512 + n)).1.drop (512 + b.length)
      let s : State := { s with free := s.free + 512 + n }
      let s := s.oflAnswer id 0 b
      if bit c.cdw10 15 then s
      else
        let s := if lid = 0x04 then s.modOfl fun x => { x with changed := [] } else s
        s.oflUnmask lid

/-! ### Identify (R415, R416) -/

def oflVid : Nat := 0x1F3B

def serialText (s : State) : Bytes := textBytes "MB9X" ++ hexPad 16 (s.rd64 R.DEV_SERIAL_LO R.DEV_SERIAL_HI)

/-- EDSTT in minutes (R439). -/
def testMinutes (s : State) : Nat :=
  let rows := (s.rs.vol.map fun v => v.rows).getD 0
  ceilDiv (rows * 1048576) (max 1 (s.get Fl.OFL_CTRL_strate) * 100000000 * 60)

def identController (s : State) : Bytes :=
  layAll (leBytes 4096 0) [(0, leBytes 2 oflVid), (2, leBytes 2 oflVid), (4, s.serialText), (24, oflModel),
    (64, asciiPad 8 (Config.moduleFr (s.oflModule s.ofl.slot)).toList), (77, leBytes 1 8), (78, leBytes 2 1), (80, leBytes 4 0x20000),
    (84, leBytes 4 100000), (88, leBytes 4 2000000), (92, leBytes 4 0x300), (256, leBytes 2 0x14), (258, leBytes 1 3),
    (259, leBytes 1 3), (260, leBytes 1 0x15), (261, leBytes 1 6), (262, leBytes 1 63), (263, leBytes 1 3), (265, leBytes 1 1),
    (266, leBytes 2 358), (268, leBytes 2 378), (270, leBytes 2 2), (316, leBytes 2 s.testMinutes), (318, leBytes 1 1),
    (319, leBytes 1 1), (512, leBytes 1 0x66), (513, leBytes 1 0x44), (516, leBytes 4 2), (520, leBytes 2 0x89), (525, leBytes 1 7),
    (768, textBytes "nqn.2014-08.org.nvmexpress:" ++ hexPad 4 oflVid ++ hexPad 4 oflVid ++ s.serialText ++ oflModel),
    (2048, psDesc 2500 false 0 0 ++ psDesc 800 false 1000 2000 ++ psDesc 150 true 5000 15000 ++ psDesc 30 true 50000 200000)]

def nguid (s : State) (n : Nat) : Bytes :=
  let u := (s.rs.vol.map fun v => v.uuid).getD 0
  leBytes 16 (u ^^^ (n * 2 ^ 120))

def identNs (s : State) (n : Nat) : Bytes :=
  if s.nsActive n then
    layAll (leBytes 4096 0) [(0, leBytes 8 (s.nsBlocks n)), (8, leBytes 8 (s.nsBlocks n)), (16, leBytes 8 (s.nsBlocks n)),
      (99, leBytes 1 (b2n (n = 1))), (104, s.nguid n), (130, leBytes 1 12)]
  else leBytes 4096 0

def identify (s : State) (c : NvmeCmd) (id : Nat) : State :=
  let one : Bool := c.nsid = 1 || c.nsid = 2
  match bits c.cdw10 7 0 with
  | 0 => if one then s.oflAnswer id 0 (s.identNs c.nsid) else s.oflComplete id 0 nvInvalidNs
  | 1 => s.oflAnswer id 0 s.identController
  | 2 => if 0xFFFFFFFE ≤ c.nsid then s.oflComplete id 0 nvInvalidNs
    else s.oflAnswer id 0 (layAll (leBytes 4096 0) [(0, ([1, 2].filter fun n => c.nsid < n && s.nsActive n).flatMap fun n => leBytes 4 n)])
  | 3 => if !one then s.oflComplete id 0 nvInvalidNs
    else if !s.nsActive c.nsid then s.oflComplete id 0 nvNotReady
    else s.oflAnswer id 0 (layAll (leBytes 4096 0) [(0, [2, 16, 0, 0] ++ s.nguid c.nsid)])
  | _ => s.oflComplete id 0 nvInvalidField

/-! ### Abort, features, asynchronous events (R419, R420, R422) -/

/-- Abort: a command not yet issued to a member is aborted. -/
def abort (s : State) (c : NvmeCmd) (id : Nat) : State :=
  let q := bits c.cdw10 15 0
  let cid := bits c.cdw10 31 16
  match s.ofl.cmds.find? fun x => x.sq = q && x.cid = cid && x.id ≠ id with
  | none => s.oflComplete id 1 nvOk
  | some x =>
    let held : Bool := !x.rows.isEmpty || !x.got.isEmpty || (s.ofl.ios.any fun i => i.cmd = x.id && i.issued)
      || (s.ofl.activate.any fun a => a.2 = x.id)
    if held then s.oflComplete id 1 nvOk else (s.oflComplete x.id 0 nvAborted).oflComplete id 0 nvOk

/-- Entries of the APST table: (target power state, idle time in ms). -/
def apstEntry (b : Bytes) (i : Nat) : Nat × Nat := let e := fieldLe b (8 * i) 8; (bits e 7 3, bits e 31 8)

/-- Power Management (R437). -/
def setPower (s : State) (ps : Nat) : State :=
  if s.flag Fl.OFL_STAT_transit then s.modOfl fun x => { x with psWant := some ps }
  else
    let s := if ps < 2 then s.modOfl fun x => { x with psOp := ps } else s
    if ps = s.get Fl.OFL_STAT_ps then s else s.psGo ps false

def setFeatures (s : State) (c : NvmeCmd) (id : Nat) : State :=
  let v := c.cdw11
  let ok (s : State) (dw0 : Nat) : State := s.oflComplete id dw0 nvOk
  let bad (e : Nat) : State := s.oflComplete id 0 e
  if bit c.cdw10 31 then bad nvNotSaveable
  else
    match bits c.cdw10 7 0 with
    | 0x01 => ok (s.setFeat 0x01 v) 0
    | 0x02 => if 3 < bits v 4 0 then bad nvInvalidField else (ok (s.setFeat 0x02 (bits v 4 0)) 0).setPower (bits v 4 0)
    | 0x04 =>
      if (bits v 19 16 ≠ 0 && bits v 19 16 ≠ 15) || 1 < bits v 21 20 then bad nvInvalidField
      else ok (s.setFeat (if bits v 21 20 = 1 then 0x104 else 0x04) (bits v 15 0)) 0
    | 0x06 => ok (s.setFeat 0x06 (v % 2)) 0
    | 0x07 =>
      if bits v 15 0 = 0xFFFF || bits v 31 16 = 0xFFFF then bad nvInvalidField
      else if 1 < s.ofl.sqs.length || 1 < s.ofl.cqs.length then bad 0x0C
      else let g := min (bits v 15 0) 63 + 2 ^ 16 * min (bits v 31 16) 63; ok (s.setFeat 0x07 g) g
    | 0x08 => ok (s.setFeat 0x08 (v % 2 ^ 16)) 0
    | 0x09 => if 64 < bits v 15 0 then bad nvInvalidField else ok (s.setFeat (0x900 + bits v 15 0) (v % 2 ^ 17)) 0
    | 0x0A => ok (s.setFeat 0x0A (v % 2)) 0
    | 0x0B => ok (s.setFeat 0x0B v) 0
    | 0x0C =>
      match s.oflFromHost c.prp1 c.prp2 256 with
      | none => bad nvInvalidPrp
      | some b =>
        if (List.range 32).any fun i => (apstEntry b i).2 ≠ 0 && ((apstEntry b i).1 < 2 || 3 < (apstEntry b i).1) then bad nvInvalidField
        else ok ((s.modOfl fun x => { x with apst := b }).setFeat 0x0C (v % 2)) 0
    | 0xC0 => ok (s.setFeat 0xC0 (v % 2)) 0
    | _ => bad nvInvalidField

def getFeatures (s : State) (c : NvmeCmd) (id : Nat) : State :=
  let v := c.cdw11
  let bad (e : Nat) : State := s.oflComplete id 0 e
  match bits c.cdw10 7 0 with
  | 0x04 => if bits v 19 16 ≠ 0 || 1 < bits v 21 20 then bad nvInvalidField
    else s.oflComplete id (s.feat (if bits v 21 20 = 1 then 0x104 else 0x04)) nvOk
  | 0x09 => if 64 < bits v 15 0 then bad nvInvalidField else s.oflComplete id (s.feat (0x900 + bits v 15 0)) nvOk
  | 0x0C => s.oflAnswer id (s.feat 0x0C) (layAll (leBytes 256 0) [(0, s.ofl.apst)])
  | 0x84 => if c.nsid = 1 then s.oflComplete id 3 nvOk else if c.nsid = 2 then s.oflComplete id 0 nvOk else bad nvInvalidNs
  | f => if [0x01, 0x02, 0x06, 0x07, 0x08, 0x0A, 0x0B, 0xC0].contains f then s.oflComplete id (s.feat f) nvOk else bad nvInvalidField

def asyncRequest (s : State) (id : Nat) : State :=
  if 4 ≤ s.ofl.aers.length then s.oflComplete id 0 nvAerLimit
  else (s.modOfl fun x => { x with aers := x.aers ++ [id] }).oflEvents 4

/-! ### Firmware (R434, R435) -/

def fwDownload (s : State) (c : NvmeCmd) (data : Bytes) (id : Nat) : State :=
  let n := (c.cdw10 + 1) * 4
  let off := c.cdw11 * 4
  if off % 4096 ≠ 0 || 0x200000 < off + n then s.oflComplete id 0 nvInvalidField
  else
    let part := (List.range n).map fun i => data.getD i 0
    let old := s.ofl.download
    let b := (old ++ List.replicate (off - old.length) 0).take off ++ part ++ old.drop (off + n)
    (s.modOfl fun x => { x with download := b }).oflComplete id 0 nvOk

/-- An immediate activation begins: the notice, and no more fetching. -/
def fwStart (s : State) (slot id : Nat) : State :=
  let s := if bit (s.feat 0x0B) 9 then s.oflEvent 2 1 0x03 else s
  (s.modOfl fun x => { x with csts := x.csts ||| 32, activate := some (slot, id) }).oflShow

def fwCommit (s : State) (c : NvmeCmd) (authentic : Bool) (id : Nat) : State :=
  let fs := bits c.cdw10 2 0
  let slot := if fs = 0 then 2 else fs
  let ca := bits c.cdw10 5 3
  let new := s.ofl.download
  if ca ≠ 0 && ca ≠ 3 then s.oflComplete id 0 nvInvalidField
  else if 2 < slot || (slot = 1 && ca = 0) then s.oflComplete id 0 nvFwSlot
  else if slot = 1 then s.fwStart 1 id
  else if new.isEmpty then
    if ca = 3 && !s.ofl.slot2.isEmpty then s.fwStart 2 id else s.oflComplete id 0 nvFwImage
  else if !authentic then (s.modOfl fun x => { x with download := [] }).oflComplete id 0 nvFwImage
  else
    let s := s.modOfl fun x => { x with slot2 := new, download := [] }
    if ca = 3 then s.fwStart 2 id else s.oflComplete id 0 nvOk

/-- OFL_FWREV shows the running module. -/
def fwShow (s : State) : State := s.put Fl.OFL_FWREV_version [] (Config.moduleRev (s.oflModule s.ofl.slot))

/-- The activation ends, once every command fetched before it has completed. -/
def fwActivate (s : State) (starts : Bool) : State :=
  match s.ofl.activate with
  | none => s
  | some (slot, id) =>
    if s.ofl.cmds.any fun c => c.id ≠ id && !(s.ofl.aers.contains c.id) then s
    else
      let s := s.modOfl fun x => { x with
        csts := putBits x.csts 5 5 0, activate := none, slot := if starts then slot else x.slot }
      let s := s.inc Fl.OFL_RESETS_fw_act
      let s := if starts then s.fwShow else s.put Fl.OFL_STAT_fw_fail [] 1
      let s := s.oflComplete id 0 (if starts then nvOk else nvFwImage)
      let s := if starts then s else s.oflEvent 0 5 1
      s.oflShow.ev 0x00D2 srcOFL 0 (b2n (!starts) + 256 * slot)

/-! ### Power states (R437, R438) -/

/-- Entry to, or exit from, a power state completes. -/
def psReached (s : State) : State :=
  match s.ofl.psNext with
  | none => s
  | some ps =>
    let auto := s.ofl.psAuto
    let s := (s.put Fl.OFL_STAT_ps [] ps).put Fl.OFL_STAT_transit [] 0
    let want := s.ofl.psWant
    let s := s.modOfl fun x => { x with psNext := none, psAuto := false, psWant := none }
    let s := s.ev 0x00D1 srcOFL 0 (ps + 256 * b2n auto)
    let s := match want with | some w => s.setPower w | none => s
    let busy : Bool := !s.ofl.posts.isEmpty || !s.sqPending.isEmpty || s.ofl.cmds.any fun c => !(s.ofl.aers.contains c.id)
    (if busy then s.psWake else s).oflPostAll.oflShow

/-- An APST idle time has passed: no command is outstanding and every submission queue is empty. -/
def apstGo (s : State) : State :=
  let e := apstEntry s.ofl.apst (s.get Fl.OFL_STAT_ps)
  if s.oflRdy && bit (s.feat 0x0C) 0 && s.oflAwake && s.ofl.cmds.isEmpty && s.sqPending.isEmpty && e.2 ≠ 0 then s.psGo e.1 true else s

/-! ### Self-tests (R439 to R441) -/

/-- Steps of each segment of a test: accesses of one member each. -/
def testSteps (s : State) (t : OflTest) : List Nat :=
  match s.rs.vol with
  | none => [1, 0, 0, 0, 0]
  | some v =>
    let one := if t.ns ≠ 2 && s.nsActive 1 then v.rows else 0
    let two := if t.ns ≠ 1 && s.nsActive 2 then s.exchange.2 / v.rowBlocks else 0
    [1, v.m, v.m, v.m, if t.op = 2 then (one + two) * v.m else 0]

/-- The namespace block at which step `k` of segment 5 reads. -/
def testLba (s : State) (t : OflTest) (k : Nat) : Nat :=
  match s.rs.vol with
  | none => 0
  | some v =>
    let row := k / max v.m 1
    if t.ns = 2 then row * v.rowBlocks else if row < v.rows then row * v.rowBlocks else (row - v.rows) * v.rowBlocks

/-- The next segment from `seg` that has a step. -/
def nextSeg (steps : List Nat) (seg : Nat) : Option Nat := (List.range 6).find? fun k => seg ≤ k && 1 ≤ k && 0 < steps.getD (k - 1) 0

def selfTest (s : State) (c : NvmeCmd) (id : Nat) : State :=
  let stc := bits c.cdw10 3 0
  let all : Bool := c.nsid = 0 || c.nsid = 0xFFFFFFFF
  if stc = 0xF then (s.testEnd 1).oflComplete id 0 nvOk
  else if stc ≠ 1 && stc ≠ 2 then s.oflComplete id 0 nvInvalidField
  else if !all && c.nsid ≠ 1 && c.nsid ≠ 2 then s.oflComplete id 0 nvInvalidNs
  else if !all && !s.nsActive c.nsid then s.oflComplete id 0 nvNotReady
  else if s.ofl.test.isSome then s.oflComplete id 0 nvTestBusy
  else
    let s := s.modOfl fun x => { x with test := some ⟨stc, c.nsid, 1, 0, none⟩ }
    let s := ((s.put Fl.OFL_STEST_op [] stc).put Fl.OFL_STEST_segment [] 1).put Fl.OFL_STEST_percent [] 0
    (s.put Fl.OFL_STAT_stest [] 1).oflComplete id 0 nvOk

/-- Host I/O commands are outstanding. -/
def hostIo (s : State) : Bool := s.ofl.cmds.any fun c => c.opc < 0x100

/-- One step of the running test ends; `ok` is what it found. Steps wait for host commands and for an operational state. -/
def testStep (s : State) (ok : Bool) : State :=
  match s.ofl.test with
  | none => s
  | some t =>
    if s.hostIo || 2 ≤ s.get Fl.OFL_STAT_ps then s
    else
      let steps := s.testSteps t
      let failed := if ok then t.failed else t.failed.orElse fun _ => some (t.seg, if t.seg = 5 then some (s.testLba t t.step) else none)
      let more : Bool := t.step + 1 < steps.getD (t.seg - 1) 0
      let nxt := if more then some (t.seg, t.step + 1) else (nextSeg steps (t.seg + 1)).map fun k => (k, 0)
      match nxt with
      | some (k, i) =>
        let s := s.modOfl fun x => { x with test := some { t with seg := k, step := i, failed := failed } }
        let doneSteps := (steps.take (k - 1)).sum + i
        (s.put Fl.OFL_STEST_segment [] k).put Fl.OFL_STEST_percent [] (100 * doneSteps / max 1 steps.sum)
      | none =>
        (s.modOfl fun x => { x with test := some { t with failed := failed } }).testEnd (if failed.isSome then 7 else 0)

end State

/-- CONTROLLER_ENABLE (R415). -/
def execControllerEnable (cc : Nat) (s : State) : Res := .next (s.oflEnable cc)

/-- CONTROLLER_RESET (R432). -/
def execControllerReset (s : State) : Res := .next s.controllerReset

/-- OFFLOAD_LINK_RESET (R413). -/
def execOffloadLinkReset (s : State) : Res := .next s.oflLinkReset

/-- CONTROLLER_SHUTDOWN (R433). -/
def execControllerShutdown (shn : Nat) (s : State) : Res := .next (s.oflShn shn)

/-- NVME_SQ_DOORBELL (R423, R424). -/
def execNvmeSqDoorbell (q tail : Nat) (s : State) : Res := .next (s.sqDoorbell q tail)

/-- DELETE_IO_SQ (R419). -/
def execNvmeDeleteIoSq (c : NvmeCmd) (s : State) : Res := .next (s.admin c 0x00 fun t id => t.deleteSq c id)

/-- DELETE_IO_CQ (R419). -/
def execNvmeDeleteIoCq (c : NvmeCmd) (s : State) : Res := .next (s.admin c 0x04 fun t id => t.deleteCq c id)

/-- CREATE_IO_SQ (R419, R423). -/
def execNvmeCreateIoSq (c : NvmeCmd) (s : State) : Res := .next (s.admin c 0x01 fun t id => t.createSq c id)

/-- CREATE_IO_CQ (R419, R423). -/
def execNvmeCreateIoCq (c : NvmeCmd) (s : State) : Res := .next (s.admin c 0x05 fun t id => t.createCq c id)

/-- GET_LOG_PAGE (R421, R422). -/
def execNvmeGetLogPage (c : NvmeCmd) (s : State) : Res := .next (s.admin c 0x02 fun t id => t.getLog c id)

/-- IDENTIFY (R415, R416). -/
def execNvmeIdentify (c : NvmeCmd) (s : State) : Res := .next (s.admin c 0x06 fun t id => t.identify c id)

/-- ABORT (R419). -/
def execNvmeAbort (c : NvmeCmd) (s : State) : Res := .next (s.admin c 0x08 fun t id => t.abort c id)

/-- SET_FEATURES (R420). -/
def execNvmeSetFeatures (c : NvmeCmd) (s : State) : Res := .next (s.admin c 0x09 fun t id => t.setFeatures c id)

/-- GET_FEATURES (R420). -/
def execNvmeGetFeatures (c : NvmeCmd) (s : State) : Res := .next (s.admin c 0x0A fun t id => t.getFeatures c id)

/-- ASYNCHRONOUS_EVENT_REQUEST (R422). -/
def execNvmeAsyncEvent (c : NvmeCmd) (s : State) : Res := .next (s.admin c 0x0C fun t id => t.asyncRequest id)

/-- FIRMWARE_IMAGE_DOWNLOAD (R434). -/
def execNvmeFwDownload (c : NvmeCmd) (data : Bytes) (s : State) : Res := .next (s.admin c 0x11 fun t id => t.fwDownload c data id)

/-- FIRMWARE_COMMIT (R434). -/
def execNvmeFwCommit (c : NvmeCmd) (authentic : Bool) (s : State) : Res := .next (s.admin c 0x10 fun t id => t.fwCommit c authentic id)

/-- FIRMWARE_ACTIVATION (R435). -/
def execFirmwareActivation (starts : Bool) (s : State) : Res := .next (s.fwActivate starts)

/-- DEVICE_SELF_TEST (R439). -/
def execNvmeSelfTest (c : NvmeCmd) (s : State) : Res := .next (s.admin c 0x14 fun t id => t.selfTest c id)

/-- SELF_TEST_STEP (R440). -/
def execSelfTestStep (ok : Bool) (s : State) : Res := .next (s.testStep ok)

/-- POWER_STATE_REACHED (R437). -/
def execPowerStateReached (s : State) : Res := .next s.psReached

/-- APST_TRANSITION (R438). -/
def execApstTransition (s : State) : Res := .next s.apstGo

end Sys2Proof.Machine
end

