-- ==== Sys2Proof/Machine/Sky.lean ====
section
/-! DEFINITION. The sky (R469 to R490): receiving, formation, the relay tree, the global operations, failures. -/

namespace Sys2Proof.Machine

/-- A message as received (R472). -/
structure SkyIn where
  typ : Nat
  serial : Nat
  node : Nat
  gen : Nat
  seq : Nat
  time : Nat
  root : Nat
  body : Bytes
  deriving DecidableEq, Repr

/-- Is candidate `a` (priority, serial) better than `b`: higher priority, then lower serial; priority 0 is no candidate (R475). -/
def skyBetter (a b : Nat × Nat) : Bool := a.1 ≠ 0 && (b.1 < a.1 || (a.1 = b.1 && a.2 < b.2))

namespace State

/-! ### Receiving (R469, R471, R473) -/

def skyPeer (s : State) (serial : Nat) : Option SkyPeer := s.sky.peers.find? fun p => p.serial = serial

def putPeer (s : State) (p : SkyPeer) : State :=
  s.modSky fun x => { x with peers := (x.peers.filter fun q => q.serial ≠ p.serial) ++ [p] }

/-- What the last 64 sequences of a sender say of a sequence in a generation: 0 new, 1 already accepted, 2 too old. -/
def seqState (p : Option SkyPeer) (gen seq : Nat) : Nat :=
  match p with
  | none => 0
  | some p =>
    if p.gen ≠ gen || p.newest < seq then 0
    else if 64 ≤ p.newest - seq then 2 else if bit p.seen (p.newest - seq) then 1 else 0

/-- The sender's record with a sequence accepted. -/
def seqTake (p : SkyPeer) (gen seq : Nat) : SkyPeer :=
  if p.gen ≠ gen then { p with gen := gen, newest := seq, seen := 1 }
  else if p.newest < seq then { p with newest := seq, seen := (p.seen * 2 ^ min 64 (seq - p.newest) + 1) % 2 ^ 64 }
  else { p with seen := p.seen ||| 2 ^ (p.newest - seq) }

/-- Three announce intervals in ns (R471, R476, R488). -/
def skyWindow (s : State) : Nat := 3 * s.get Fl.SKY_CFG_announce_ms * 1000000

/-- Does the node listen to an address on a path: the all-sky group, its parent's relay group once it is assigned, its own (R470). -/
def skyJoined (s : State) (p dst : Nat) : Bool :=
  dst = skyGroup || dst = skyAddr p || (s.flag Fl.SKY_STAT_assigned && !s.skyRoot && dst = relayGroup (skyParent s.skyId))

/-- An authenticated ANNOUNCE shows that its path is up (R471), and names its sender's address on it (R470). -/
def skyHeard (s : State) (m : SkyMsg) (serial : Nat) : State :=
  (s.put (if m.path = 0 then Fl.SKY_STAT_path_a_up else Fl.SKY_STAT_path_b_up) [] 1).modSky fun x => { x with
    peers := x.peers.map fun p => if p.serial = serial then { p with addrs := p.addrs.set m.path (some m.src) } else p }

/-- A message of type `typ`, if the node accepts it: `body` runs on the state that has accepted it. -/
def skyReceive (s : State) (m : SkyMsg) (typs : List Nat) (run : State → SkyIn → State) : State :=
  let b := m.bytes
  let w (i n : Nat) : Nat := fieldLe b i n
  let n := w 6 2
  if s.skyState = 0 || 1 < m.path || !s.skyPath m.path || m.hop ≠ 255 || m.port ≠ s.get Fl.SKY_CFG_udp_port
      || !s.skyJoined m.path m.dst || 1452 < b.length || b.take 4 ≠ [0x49, 0x4D, 0x53, 0x4B] || w 4 1 ≠ 1
      || !typs.contains (w 5 1) || b.length ≠ 80 + n then s
  else if 1 < w 19 1 || (Config.hmacSha256 (s.sky.keys.getD (w 19 1) []) (b.take (48 + n))).toList ≠ b.drop (48 + n) then s.inc Fl.SKY_ERR_auth
  else
    let x : SkyIn := ⟨w 5 1, w 8 8, w 16 2, w 20 4, w 24 4, w 32 8, w 40 8, (b.drop 48).take n⟩
    let s := if x.typ = 1 then s.skyHeard m x.serial else s
    let old := s.skyPeer x.serial
    let forming : Bool := s.skyState = 1 || s.skyState = 3
    if x.serial = s.serial then s
    else if seqState old x.gen x.seq = 1 then s.inc Fl.SKY_DUP_count
    else if seqState old x.gen x.seq = 2 || second < max x.time s.dt - min x.time s.dt then s.inc Fl.SKY_ERR_replay
    else if x.gen ≠ s.skyGen && x.typ ≠ 1 && !(forming && x.typ = 2) then s
    else
      let p := (s.skyPeer x.serial).getD
        ⟨x.serial, 0, none, 0, x.gen, x.seq, 0, false, false, 0, [none, none].set m.path (if x.typ = 1 then some m.src else none)⟩
      run (s.putPeer (seqTake p x.gen x.seq)) x

/-- Does a message come from this node's parent. -/
def fromParent (s : State) (m : SkyIn) : Bool :=
  s.skyFormed && !s.skyRoot && m.node = skyParent s.skyId

/-- Does a message come from a child. -/
def fromChild (s : State) (m : SkyIn) : Bool := s.skyFormed && s.skyKids.contains m.node

/-! ### Formation (R475 to R477) -/

def evSkyState (s : State) : State :=
  s.ev 0x00F0 srcSKY 0 (s.skyState + 16 * b2n s.skyRoot + 2 ^ 16 * s.skyId + 2 ^ 32 * s.skyGen)

/-- ANNOUNCE (R474). -/
def skyAnnounce (s : State) : State :=
  let best := s.sky.best
  let n := if s.skyRoot then s.skyMembers else 0
  (s.modSky fun x => { x with announced := s.time.clk }).skySend 0x01 0 (leBytes 1 s.skyPrio ++ leBytes 1 (b2n s.skyFormed) ++ leBytes 2 n ++ leBytes 4 s.skyEpoch ++ leBytes 8 best.2
    ++ leBytes 1 best.1 ++ leBytes 1 s.skyDepth ++ leBytes 2 (s.get Fl.SKY_TREE_parent) ++ leBytes 4 0)

/-- The tree registers follow the node's place. -/
def skyPlace (s : State) (id n : Nat) : State :=
  let s := (s.put Fl.SKY_STAT_node_id [] id).put Fl.SKY_STAT_assigned [] 1
  let s := (s.put Fl.SKY_TREE_parent [] (skyParent id)).put Fl.SKY_TREE_members [] n
  s.put Fl.SKY_STAT_depth [] (log32 n)

/-- The node enters FORMING (R476); what it holds of a sky commit stays (R482, R488). -/
def skyForm (s : State) : State :=
  let me := if s.skyPrio = 0 then (0, 0) else (s.skyPrio, s.serial)
  let s := ((s.put Fl.SKY_STAT_state [] 1).put Fl.SKY_STAT_root [] 0).put Fl.SKY_STAT_assigned [] 0
  let s := ((s.put Fl.SKY_STAT_node_id [] 0).wr R.SKY_TREE [] 0).put Fl.SKY_STAT_depth [] 0
  let s := s.wr64 R.SKY_ROOT_LO R.SKY_ROOT_HI [] 0
  let s := s.modSky fun x => { x with
    best := me, bestGen := s.skyGen, bestEpoch := s.skyEpoch, members := [], run := none, queue := [], acks := [], arrived := none
    arrivals := [], arriveSent := false, release := none, snap := none, snapLate := false, reset := none, dones := [], asked := none
    peers := x.peers.map fun p => { p with heard := false }
    formedAt := s.time.clk }
  s.evSkyState.skyAnnounce

/-- SKY_CTRL.enable goes to 0: the agent stops, with every operation it has under way. -/
def skyOff (s : State) : State :=
  let s := s.modSky fun x => { x with
    members := [], run := none, queue := [], prep := none, acks := [], held := none, arrived := none, arrivals := [], arriveSent := false
    release := none, snap := none, snapLate := false, reset := none, dones := [], asked := none, peers := [] }
  let s := (s.wr R.SKY_STAT [] (s.rd R.SKY_STAT % 2 ^ 25 / 2 ^ 23 * 2 ^ 23)).wr R.SKY_TREE [] 0
  (s.wr64 R.SKY_ROOT_LO R.SKY_ROOT_HI [] 0).evSkyState

/-- ASSIGN with some entries, up to 128 in a message (R474). -/
def skyAssignSend (s : State) (l : List (Nat × Nat)) : State :=
  (List.range (ceilDiv l.length 128)).foldl (fun (t : State) i =>
    let part := (l.drop (128 * i)).take 128
    t.skySend 0x02 0 (leBytes 2 part.length ++ leBytes 2 t.sky.members.length ++ part.flatMap fun e => leBytes 8 e.2 ++ leBytes 2 e.1)) s

/-! ### The sky commit (R481 to R483) -/

/-- A COMMIT for E is held: the front may be issued. -/
def skyHold (s : State) (e : Nat) : State :=
  if (s.sky.prep.any fun p => p.1 = e) && s.sky.own = 0 && s.sky.held.isNone then
    let s : State := { s with front := s.front.map fun f => if f.sky then { f with go := true } else f }
    (s.modSky fun x => { x with held := some e }).wr R.SKY_EPOCH [] e
  else s

/-- The pending set of a sky commit is discarded (R482). -/
def skyDrop (s : State) : State :=
  let s := if s.front.any fun f => f.sky then
      (({ s with front := none }).put Fl.DEV_COMMIT_go [] 0).put Fl.DEV_COMMIT_STAT_pending [] 0
    else s
  s.modSky fun x => { x with prep := none, held := none, acks := [], acked := false }

/-- An aborted commit ends on this node. -/
def skyAbort (s : State) (e : Nat) : State :=
  match s.sky.prep with
  | some p =>
    if p.1 = e && s.sky.held.isNone then
      let refused : Bool := s.sky.own ≠ 0
      let s := s.skyDrop.skyEnded 1 1 refused p.2 0 e
      s.modSky fun x => { x with run := if x.run.any fun r => r.1.op = 1 then none else x.run }
    else s
  | none => s

/-- An ANNOUNCE of generation `gen`, sent at `time`, names `epoch` as the last sky epoch: it stands for a COMMIT or, from the root and
sent after T, for an abort (R482). -/
def skyStands (s : State) (gen epoch time : Nat) (root : Bool) : State :=
  match s.sky.prep with
  | some q =>
    if gen = s.skyGen && q.1 ≤ epoch then s.skyHold q.1
    else if root && q.2 < time && epoch < q.1 then s.skyAbort q.1
    else s
  | none => s

/-- The announce timer (R476). What a root announces binds the root too (R482, R488). -/
def skyTimer (s : State) : State :=
  if s.skyState = 0 then s
  else
    let s := (s.reachClk (s.sky.announced + s.get Fl.SKY_CFG_announce_ms * 1000000)).skyAnnounce
    (if s.skyRoot then s.skyStands s.skyGen s.skyEpoch s.dt true else s)

/-- Three announce intervals after the first ANNOUNCE (R476): the best node heard becomes root, the others wait for its ASSIGN; an
elected root is not pre-empted (R477). -/
def skyDecide (s : State) : State :=
  let s := if s.skyState = 1 then s.reachClk (s.sky.formedAt + s.skyWindow) else s
  if s.skyState ≠ 1 then s
  else if s.sky.best.1 = 0 then (s.put Fl.SKY_STAT_state [] 3).evSkyState
  else if s.sky.best ≠ (s.skyPrio, s.serial) || s.sky.peers.any fun p => p.heard && p.formed then s
  else
    let gen := (s.sky.bestGen + 1) % 2 ^ 32
    let heard := sortBy (fun (a b : SkyPeer) => b.prio < a.prio || (a.prio = b.prio && a.serial < b.serial)) (s.sky.peers.filter fun p => p.heard)
    let members := (s.serial :: heard.map fun p => p.serial).take 16384
    let s := (s.modSky fun x => { x with members := members }).wr R.SKY_GEN [] gen
    let s := s.wr R.SKY_EPOCH [] s.sky.bestEpoch
    let s := (s.put Fl.SKY_STAT_state [] 2).put Fl.SKY_STAT_root [] 1
    let s := (s.wr64 R.SKY_ROOT_LO R.SKY_ROOT_HI [] s.serial).skyPlace 0 members.length
    (s.skyAssignSend (members.mapIdx fun i x => (i, x))).evSkyState

/-- Why this node refuses a PREPARE for T; 0 where it accepts. -/
def skyRefusal (s : State) (t : Nat) : Nat :=
  if s.flag Fl.DEV_COMMIT_go || s.front.isSome then 1
  else if !s.flag Fl.DEV_STATUS_ready || s.flag Fl.DEV_STATUS_safe then 2
  else if t < s.dt + tFs then 3
  else if s.flag Fl.DRV_STAT_busy then 4 else 0

/-- The node takes PREPARE(E, T): it samples, or refuses. -/
def skyTake (s : State) (e t : Nat) : State :=
  let why := s.skyRefusal t
  let s := s.modSky fun x => { x with prep := some (e, t), own := why, acks := [], acked := false, held := none }
  if why = 0 then s.commit true false 2 (s.get Fl.SKY_CTRL_ref_pipe) 0 t else s

/-- What the subtree answers so far: accepting, refusing, first refusing serial and reason; `fill` counts silent children as
refusing. -/
def skySum (s : State) (fill : Bool) : SkyAck :=
  let silent := if fill then s.skyKids.filter fun k => !(s.sky.acks.any fun a => a.child = k) else []
  let all := s.sky.acks ++ silent.map fun k => (⟨k, 0, 1, s.sky.members.getD k 0, 0⟩ : SkyAck)
  let no := sumOf (fun (a : SkyAck) => a.no) all
  let bad := if s.sky.own ≠ 0 then (s.serial, s.sky.own) else ((all.find? fun a => a.no ≠ 0).map fun a => (a.who, a.why)).getD (0, 0)
  ⟨s.skyId, sumOf (fun (a : SkyAck) => a.yes) all + b2n (s.sky.own = 0), no + b2n (s.sky.own ≠ 0), bad.1, bad.2⟩

/-- Three copies of COMMIT or ABORT, 100 µs apart. -/
def skyCopies (s : State) (typ e : Nat) : State :=
  if s.skyKids.isEmpty then s
  else [1, 2, 3].foldl (fun (t : State) k => t.skySendAt typ 1 (s.dt + (k - 1) * 100000) (leBytes 4 e ++ leBytes 1 k ++ leBytes 3 0)) s

/-- The root decides (R481). -/
def skyRootDecide (s : State) : State :=
  match s.sky.prep with
  | some p =>
    if !s.skyRoot || s.sky.acked then s
    else
      let a := s.skySum false
      let s := s.modSky fun x => { x with acked := true }
      if a.no = 0 && a.yes = s.skyMembers then (s.skyCopies 0x12 p.1).skyHold p.1
      else (s.skyCopies 0x13 p.1).skyAbort p.1
  | none => s

/-- A node's ACK goes up, or the root decides, once every child has answered. -/
def skyAnswer (s : State) (fill : Bool) : State :=
  match s.sky.prep with
  | some p =>
    if s.sky.acked || !(fill || s.skyKids.all fun k => s.sky.acks.any fun a => a.child = k) then s
    else if s.skyRoot then s.skyRootDecide
    else
      let a := s.skySum fill
      (s.modSky fun x => { x with acked := true }).skyUp 0x11 (leBytes 4 p.1 ++ leBytes 2 a.yes ++ leBytes 2 a.no ++ leBytes 8 a.who
        ++ leBytes 1 a.why ++ leBytes 3 0)
  | none => s

/-! ### Operations at the root (R480) -/

/-- Lead time L in ns. -/
def skyLead (s : State) : Nat := 2 * s.skyDepth * s.tHop + s.tMargin

def skyStart (s : State) (r : SkyReq) : State :=
  let t := max r.time (s.dt + s.skyLead)
  match r.op with
  | 1 =>
    let e := (s.skyEpoch + 1) % 2 ^ 32
    let s := (s.modSky fun x => { x with run := some (r, e) }).skyDown 0x10 (leBytes 4 e ++ leBytes 4 0 ++ leBytes 8 t)
    (s.skyTake e t).skyAnswer false
  | 3 =>
    let k := (s.sky.snapNum + 1) % 2 ^ 32
    let s := s.modSky fun x => { x with run := some (r, k), snapNum := k, snap := some (k, t), snapLate := false }
    s.skyDown 0x22 (leBytes 4 k ++ leBytes 4 0 ++ leBytes 8 t)
  | 4 =>
    let s := s.modSky fun x => { x with run := some (r, 0), reset := some t }
    s.skyDown 0x23 (leBytes 8 0 ++ leBytes 8 t)
  | _ => s

/-- The next queued operation starts when none runs. -/
def skyNext (s : State) : State :=
  if !s.skyRoot || s.sky.run.isSome then s
  else
    match s.sky.queue with
    | r :: rest => (s.modSky fun x => { x with queue := rest }).skyStart r
    | [] => s

/-- A request reaches the root: it starts, waits among up to 8, or is refused. -/
def skyQueue (s : State) (r : SkyReq) : State :=
  if s.sky.run.isNone && s.sky.queue.isEmpty then s.skyStart r
  else if s.sky.queue.length < 8 then s.modSky fun x => { x with queue := x.queue ++ [r] }
  else if r.who = s.serial then s.skyEnded r.op 2 true 0 0 0 else s

/-- This node's host asks for an operation (R480): a write of `v` to SKY_OP. -/
def skyAsk (s : State) (op v : Nat) : State :=
  let s := s.writeFields ⟨R.SKY_OP, [Fl.SKY_OP_op, Fl.SKY_OP_barrier_id]⟩ [] v
  if !bit v 31 || s.get Fl.SKY_OP_op ≠ op then s
  else if !s.skyFormed then s.skyEnded op 2 true 0 0 0
  else
    let r : SkyReq := ⟨op, s.rd64 R.SKY_OP_TIME_LO R.SKY_OP_TIME_HI, s.serial⟩
    let s := s.modSky fun x => { x with asked := some r }
    if s.skyRoot then s.skyQueue r
    else s.skyUp 0x08 (leBytes 1 op ++ leBytes 1 0 ++ leBytes 2 0 ++ leBytes 4 0 ++ leBytes 8 r.time ++ leBytes 8 r.who)

/-! ### Barriers (R485) -/

/-- Nodes of the subtree that have arrived with an ID, when all of it has. -/
def skyArrivedAll (s : State) (b : Nat) : Option Nat :=
  let here : Bool := s.sky.arrived = some b && s.skyKids.all fun k => s.sky.arrivals.any fun a => a.1 = k && a.2.1 = b
  if here then some (1 + sumOf (fun (a : Nat × Nat × Nat) => a.2.2) (s.sky.arrivals.filter fun a => a.2.1 = b)) else none

/-- ARRIVE goes up, or the root releases the barrier. -/
def skyBarrier (s : State) (b : Nat) : State :=
  match s.skyArrivedAll b with
  | none => s
  | some n =>
    if s.sky.arriveSent then s
    else if s.skyRoot then
      if n < s.skyMembers then s
      else
        let t := s.dt + s.skyDepth * s.tHop + s.tMargin
        let s := s.modSky fun x => { x with release := some (b, t), arriveSent := true }
        s.skyDown 0x21 (leBytes 2 b ++ leBytes 6 0 ++ leBytes 8 t)
    else (s.modSky fun x => { x with arriveSent := true }).skyUp 0x20 (leBytes 2 b ++ leBytes 2 n)

/-- The barrier that the root is in: the ID of its first arrival. -/
def skyBarrierId (s : State) : Option Nat := s.sky.arrived.orElse fun _ => s.sky.arrivals.head?.map fun a => a.2.1

/-- This node's host arrives at a barrier. -/
def skyArriveHost (s : State) (v : Nat) : State :=
  let s := s.writeFields ⟨R.SKY_OP, [Fl.SKY_OP_op, Fl.SKY_OP_barrier_id]⟩ [] v
  if !bit v 31 || s.get Fl.SKY_OP_op ≠ 2 then s
  else
    let b := s.get Fl.SKY_OP_barrier_id
    if !s.skyFormed || (s.skyRoot && s.skyBarrierId.any fun x => x ≠ b) then s.skyEnded 2 2 true 0 0 0
    else (s.modSky fun x => { x with arrived := some b }).skyBarrier b

/-- DT reaches the barrier's T. -/
def skyBarrierEnd (s : State) : State :=
  match s.sky.release with
  | none => s
  | some r =>
    let s := s.reachDt r.2
    let s := s.modSky fun x => { x with arrived := none, arrivals := [], arriveSent := false, release := none }
    s.skyEnded 2 0 false r.2 0 0

/-! ### Snapshots and sky resets (R486, R487) -/

/-- The node captures at T, or as soon as DEV_SNAP.go is 0. -/
def skySnapCapture (s : State) : State :=
  match s.sky.snap with
  | none => s
  | some x =>
    let s := s.reachDt x.2
    if s.flag Fl.DEV_SNAP_go then s.modSky fun y => { y with snapLate := true }
    else
      let late := s.sky.snapLate
      let s := s.snap
      let s := if late then s else s.wr64 R.DEV_SNAP_TIME_LO R.DEV_SNAP_TIME_HI [] x.2
      let s := s.modSky fun y => { y with snap := none, snapLate := false }
      let r := if late then 3 else 0
      ((s.skyEnded 3 r false x.2 0 x.1).skyDone 3 x.1 s.skyId r).skyNext

/-- The sky reset acts at T: the generation ends, owner 0x04 loses its semaphores, the node re-forms. -/
def skyResetAct (s : State) : State :=
  match s.sky.reset with
  | none => s
  | some t =>
    let s := s.reachDt t
    let s := (s.skyDrop.ownerReset 4).skyEnded 4 0 false t 0 0
    s.skyForm

/-! ### Failures (R488) -/

/-- The members have moved (R488): answers of nodes that are no longer this node's children, or have become others, do not count; a
node with a new parent reports to it again; and what waits may now be complete (log 36). `old` lists the serials before the move, and
`parent` is the parent's then. -/
def skyRegroup (s : State) (old : List Nat) (parent : Nat) : State :=
  let same (k : Nat) : Bool := k = s.skyId || (s.skyKids.contains k && old[k]? = s.sky.members[k]?)
  let again : Bool := s.sky.members.getD (skyParent s.skyId) 0 ≠ parent
  let s := s.modSky fun x => { x with
    acks := x.acks.filter fun a => same a.child
    arrivals := x.arrivals.filter fun a => same a.1
    dones := x.dones.filter fun d => same d.2.2.1
    arriveSent := x.arriveSent && !again
    acked := x.acked && !again }
  let s := match s.sky.arrived with | some b => s.skyBarrier b | none => s
  let s := s.skyAnswer false
  match s.sky.run with | some r => s.skyReport r.1.op r.2 | none => s

/-- The root removes a lost node: the highest-numbered member takes its ID. -/
def skyRemove (s : State) (id serial : Nat) : State :=
  let l := s.sky.members
  if !s.skyRoot || id = 0 || l[id]? ≠ some serial then s
  else
    let last := l.getLast?.getD 0
    let l' := (l.set id last).dropLast
    let s := s.modSky fun x => { x with members := l', peers := x.peers.filter fun p => p.serial ≠ serial }
    let s := s.skyPlace 0 l'.length
    let s := s.skyAssignSend [if id < l'.length then (id, last) else (0, s.serial)]
    let s := s.ev 0x40F1 srcSKY 0 (id + 2 ^ 32 * serial)
    (s.skyRegroup l s.serial).skyNext

def skyChildLost (s : State) (node : Nat) : State :=
  if !s.skyFormed || !s.skyKids.contains node then s
  else
    let peer := s.sky.peers.reverse.find? fun p => p.node = some node
    let serial := (peer.map fun p => p.serial).getD (s.sky.members.getD node 0)
    let s := s.reachClk ((peer.map fun p => p.at_ + s.skyWindow).getD 0)
    (s.skySend 0x30 0 (leBytes 2 node ++ leBytes 6 0 ++ leBytes 8 serial)).skyRemove node serial

/-- A node that hears nothing of its root for three intervals forms anew. -/
def skyRootLost (s : State) : State :=
  if s.skyFormed && !s.skyRoot then
    (s.reachClk (((s.skyPeer s.rootSerial).map fun p => p.at_ + s.skyWindow).getD 0)).skyForm
  else s

def skyPathChange (s : State) (path : Nat) (up : Bool) : State :=
  let f := if path = 0 then Fl.SKY_STAT_path_a_up else Fl.SKY_STAT_path_b_up
  if 1 < path then s
  else if up then s.put f [] 1
  else if s.flag f then ((s.put f [] 0).put Fl.SKY_STAT_path_lost [] 1).ev 0x40F0 srcSKY 0 path else s

/-! ### Messages -/

/-- ANNOUNCE (R474, R476, R477, R482). -/
def onAnnounce (s : State) (m : SkyIn) : State :=
  let w (i n : Nat) : Nat := fieldLe m.body i n
  let prio := w 0 1
  let p := (s.skyPeer m.serial).getD ⟨m.serial, 0, none, 0, m.gen, m.seq, 1, false, false, 0, [none, none]⟩
  let s := s.putPeer { p with
    prio := prio, node := if m.node = 0xFFFF then none else some m.node, epoch := w 4 4, formed := w 1 1 = 1, heard := true, at_ := s.time.clk }
  let forming : Bool := s.skyState = 1 || s.skyState = 3
  let better (a b : Nat × Nat) : Nat × Nat := if skyBetter a b then a else b
  let s := if forming then
      s.modSky fun x => { x with
        best := better (w 16 1, w 8 8) (better (prio, m.serial) x.best), bestGen := max x.bestGen m.gen, bestEpoch := max x.bestEpoch (w 4 4) }
    else s
  -- a joiner takes the next free ID
  let s := if s.skyRoot && w 1 1 = 0 then
      match s.sky.members.idxOf? m.serial with
      | some i => s.skyAssignSend [(i, m.serial)]
      | none =>
        let n := s.sky.members.length
        if 16384 ≤ n then s.skyAssignSend [(0, s.serial)]
        else ((s.modSky fun x => { x with members := x.members ++ [m.serial] }).skyPlace 0 (n + 1)).skyAssignSend [(n, m.serial)]
    else s
  s.skyStands m.gen (w 4 4) m.time (m.serial = s.rootSerial)

/-- ASSIGN (R474, R476, R477, R488). -/
def onAssign (s : State) (m : SkyIn) : State :=
  let k := fieldLe m.body 0 2
  let n := fieldLe m.body 2 2
  let entries := (List.range k).map fun i => (fieldLe m.body (4 + 10 * i) 8, fieldLe m.body (12 + 10 * i) 2)
  let mine := (entries.find? fun e => e.1 = s.serial).map (·.2)
  let forming : Bool := s.skyState = 1 || s.skyState = 3
  let elected : Bool := (s.skyPeer m.serial).any fun p => p.formed
  let learn (s : State) : State := s.modSky fun x => { x with
    members := entries.foldl (fun l e => (l ++ List.replicate (n - l.length) 0).set e.2 e.1) x.members |>.take n }
  if forming && (s.sky.best.2 = m.serial || elected) then
    match mine with
    | some id =>
      let s := ((s.wr R.SKY_GEN [] m.gen).wr64 R.SKY_ROOT_LO R.SKY_ROOT_HI [] m.serial).put Fl.SKY_STAT_state [] 2
      ((learn s).skyPlace id n).evSkyState
    | none =>
      let t := learn s
      if 16384 ≤ n && (elected || !t.sky.members.contains 0) then t.put Fl.SKY_STAT_full [] 1 else t
  else if s.skyFormed && !s.skyRoot && m.serial = s.rootSerial then
    let id := mine.getD s.skyId
    let moved : Bool := id ≠ s.skyId
    let old := s.sky.members
    let parent := old.getD (skyParent s.skyId) 0
    let s := (learn s).skyPlace id n
    (if moved then s.evSkyState else s).skyRegroup old parent
  else s

/-- REQUEST (R480): relayed to the root. -/
def onRequest (s : State) (m : SkyIn) : State :=
  if !s.fromChild m then s
  else if s.skyRoot then s.skyQueue ⟨fieldLe m.body 0 1, fieldLe m.body 8 8, fieldLe m.body 16 8⟩
  else s.skyUp 0x08 m.body

/-- PREPARE (R481). -/
def onPrepare (s : State) (m : SkyIn) : State :=
  if !s.fromParent m then s
  else ((s.skyDown 0x10 m.body).skyTake (fieldLe m.body 0 4) (fieldLe m.body 8 8)).skyAnswer false

/-- ACK (R481). -/
def onAck (s : State) (m : SkyIn) : State :=
  let w (i n : Nat) : Nat := fieldLe m.body i n
  if !s.fromChild m || !(s.sky.prep.any fun p => p.1 = w 0 4) then s
  else (s.modSky fun x => { x with
    acks := (x.acks.filter fun a => a.child ≠ m.node) ++ [⟨m.node, w 4 2, w 6 2, w 8 8, w 16 1⟩] }).skyAnswer false

/-- COMMIT and ABORT (R482, R483). -/
def onCommit (s : State) (m : SkyIn) : State :=
  if !s.fromParent m then s
  else
    let e := fieldLe m.body 0 4
    let s := s.skyDown m.typ m.body
    if m.typ = 0x12 then s.skyHold e else s.skyAbort e

/-- ARRIVE (R485): an ID other than the root's current barrier is refused. -/
def onArrive (s : State) (m : SkyIn) : State :=
  let b := fieldLe m.body 0 2
  if !s.fromChild m || (s.skyRoot && s.skyBarrierId.any fun x => x ≠ b) then s
  else (s.modSky fun x => { x with arrivals := (x.arrivals.filter fun a => a.1 ≠ m.node) ++ [(m.node, b, fieldLe m.body 2 2)] }).skyBarrier b

/-- RELEASE (R485). -/
def onRelease (s : State) (m : SkyIn) : State :=
  if !s.fromParent m then s
  else (s.skyDown 0x21 m.body).modSky fun x => { x with release := some (fieldLe m.body 0 2, fieldLe m.body 8 8) }

/-- SNAP (R486). -/
def onSnap (s : State) (m : SkyIn) : State :=
  if !s.fromParent m then s
  else
    let t := fieldLe m.body 8 8
    (s.skyDown 0x22 m.body).modSky fun x => { x with
      snap := some (fieldLe m.body 0 4, t), snapNum := fieldLe m.body 0 4, snapLate := t < s.dt }

/-- RESET (R487). -/
def onReset (s : State) (m : SkyIn) : State :=
  if !s.fromParent m then s else (s.skyDown 0x23 m.body).modSky fun x => { x with reset := some (fieldLe m.body 8 8) }

/-- DONE (R474, R478). -/
def onDone (s : State) (m : SkyIn) : State :=
  if !s.fromChild m then s
  else (s.skyDone (fieldLe m.body 0 1) (fieldLe m.body 4 4) m.node (fieldLe m.body 1 1)).skyNext

/-- LOST (R488). -/
def onLost (s : State) (m : SkyIn) : State :=
  if s.skyRoot then s.skyRemove (fieldLe m.body 0 2) (fieldLe m.body 8 8)
  else s.modSky fun x => { x with peers := x.peers.filter fun p => p.serial ≠ fieldLe m.body 8 8 }

/-- SKY_CTRL.enable goes to 1. -/
def skyEnable (s : State) : State :=
  if s.skyState ≠ 0 then s else (s.put Fl.SKY_CTRL_enable [] 1).skyForm

/-- The ACK deadline of a relay (R481, log 35). -/
def skyAckDeadline (s : State) : State :=
  match s.sky.prep with
  | some p =>
    if s.skyRoot || !s.skyFormed then s
    else (s.reachDt (p.2 - (s.skyDepth - log32 (s.skyId + 1) + 1) * s.tHop - tFs)).skyAnswer true
  | none => s

/-- The root's decision time (R481, log 35). -/
def skyDecisionTime (s : State) : State :=
  match s.sky.prep with
  | some p => if s.skyRoot then ((s.reachDt (p.2 - s.skyDepth * s.tHop - tFs)).skyRootDecide).skyNext else s
  | none => s

/-- SKY_KEY (R489). -/
def skyKey (s : State) (id : Nat) : State :=
  match s.started id 0x200 with
  | none => s
  | some p =>
    let k := fieldLe p.body 16 1
    if 1 < k then s.setResult id stBadArg 0
    else (s.modSky fun x => { x with keys := x.keys.set k ((p.body.drop 32).take 32) }).setResult id stOk 0

end State

/-- SKY_ENABLE (R476). -/
def execSkyEnable (s : State) : Res := .next (s.onUnit .sky State.skyEnable)

/-- ANNOUNCE_TIMER (R476). -/
def execAnnounceTimer (s : State) : Res := .next s.skyTimer.skyNext

/-- FORMATION_DECISION (R476). -/
def execFormationDecision (s : State) : Res := .next s.skyDecide

/-- ANNOUNCE (R474). -/
def execSkyAnnounce (m : SkyMsg) (s : State) : Res := .next (s.skyReceive m [0x01] State.onAnnounce)

/-- ASSIGN (R477). -/
def execSkyAssign (m : SkyMsg) (s : State) : Res := .next (s.skyReceive m [0x02] State.onAssign)

/-- REQUEST (R480). -/
def execSkyRequest (m : SkyMsg) (s : State) : Res := .next (s.skyReceive m [0x08] State.onRequest)

/-- PREPARE (R481). -/
def execSkyPrepare (m : SkyMsg) (s : State) : Res := .next (s.skyReceive m [0x10] State.onPrepare)

/-- ACK (R481). -/
def execSkyAck (m : SkyMsg) (s : State) : Res := .next (s.skyReceive m [0x11] State.onAck)

/-- COMMIT, ABORT (R482). -/
def execSkyCommit (m : SkyMsg) (s : State) : Res := .next (s.skyReceive m [0x12, 0x13] State.onCommit)

/-- ARRIVE (R485). -/
def execSkyArrive (m : SkyMsg) (s : State) : Res := .next (s.skyReceive m [0x20] State.onArrive)

/-- RELEASE (R485). -/
def execSkyRelease (m : SkyMsg) (s : State) : Res := .next (s.skyReceive m [0x21] State.onRelease)

/-- SNAP (R486). -/
def execSkySnap (m : SkyMsg) (s : State) : Res := .next (s.skyReceive m [0x22] State.onSnap)

/-- RESET (R487). -/
def execSkyReset (m : SkyMsg) (s : State) : Res := .next (s.skyReceive m [0x23] State.onReset)

/-- DONE (R474). -/
def execSkyDone (m : SkyMsg) (s : State) : Res := .next (s.skyReceive m [0x24] State.onDone)

/-- LOST (R488). -/
def execSkyLost (m : SkyMsg) (s : State) : Res := .next (s.skyReceive m [0x30] State.onLost)

/-- SKY_OP_COMMIT (R481). -/
def execSkyOpCommit (arg : Nat) (s : State) : Res := .next (s.onUnit .sky fun s => s.skyAsk 1 arg)

/-- SKY_OP_BARRIER (R485). -/
def execSkyOpBarrier (arg : Nat) (s : State) : Res := .next (s.onUnit .sky fun s => s.skyArriveHost arg)

/-- SKY_OP_SNAPSHOT (R486). -/
def execSkyOpSnapshot (arg : Nat) (s : State) : Res := .next (s.onUnit .sky fun s => s.skyAsk 3 arg)

/-- SKY_OP_RESET (R487). -/
def execSkyOpReset (arg : Nat) (s : State) : Res := .next (s.onUnit .sky fun s => s.skyAsk 4 arg)

/-- ACK_DEADLINE (R481). -/
def execAckDeadline (s : State) : Res := .next s.skyAckDeadline

/-- ROOT_DECISION (R481). -/
def execRootDecision (s : State) : Res := .next s.skyDecisionTime

/-- BARRIER_END (R485). -/
def execBarrierEnd (s : State) : Res := .next s.skyBarrierEnd

/-- SNAP_CAPTURE (R486). -/
def execSnapCapture (s : State) : Res := .next s.skySnapCapture

/-- SKY_RESET_ACT (R487). -/
def execSkyResetAct (s : State) : Res := .next s.skyResetAct

/-- AL_SKY_PATH (R471). -/
def execAlSkyPath (path : Nat) (up : Bool) (s : State) : Res := .next (s.skyPathChange path up)

/-- CHILD_LOST (R488). -/
def execChildLost (node : Nat) (s : State) : Res := .next (s.skyChildLost node)

/-- ROOT_LOST (R488). -/
def execRootLost (s : State) : Res := .next s.skyRootLost

/-- SKY_KEY (R489). -/
def execSkyKey (id : Nat) (s : State) : Res := .next (s.skyKey id)

end Sys2Proof.Machine
end

