-- ==== Sys2Proof/Machine/Time.lean ====
section
/-! DEFINITION. Cloku (R443 to R468): time bases, device time, PTP, genlock, timecode, trigger inputs and scheduled edges. -/

namespace Sys2Proof.Machine

namespace State

def modTime (s : State) (f : TimeSt → TimeSt) : State := { s with time := f s.time }

/-! ### Bases (R444 to R447) -/

/-- The 64-bit value that a write of a _HI half completes (R28). -/
def pairValue (s : State) (lo : Reg) (ix : List Nat) (hi : Nat) : Nat :=
  ((s.lowHalf.find? fun e => e.1 = lo.key ix).map (·.2)).getD (s.rd lo ix) + 2 ^ 32 * (hi % 2 ^ 32)

/-- The value lands in the pair (R28). -/
def putPair (s : State) (lo hi : Reg) (ix : List Nat) (v : Nat) : State :=
  ({ s with lowHalf := s.lowHalf.filter fun e => e.1 ≠ lo.key ix }).wr64 lo hi ix v

/-- Does base `n` ignore its step register (R446). -/
def baseIgnored (s : State) (n : Nat) : Bool := n = 3 && s.aliased

/-- A write of TIME_TBn_INC_HI (R445, R444): an increment outside ±1,000 ppm is a reserved encoding. While TB3 reads DT its
increment is stored and used by nothing (R446, `tickTime`). -/
def tbInc (s : State) (n hi : Nat) : State :=
  let v := s.pairValue R.TIME_TB_INC_LO [n] hi
  if v < 0x1FF7CED91 || 0x20083126F < v then { s with lowHalf := s.lowHalf.filter fun e => e.1 ≠ R.TIME_TB_INC_LO.key [n] }
  else
    (s.putPair R.TIME_TB_INC_LO R.TIME_TB_INC_HI [n] v).modTime fun x => { x with inc := x.inc.set n v }

/-- The DT offset becomes `o`. -/
def loadOfs (s : State) (o : Int) : State :=
  (s.modTime fun x => { x with ofs := o }).put Fl.TIME_DT_STAT_slewing [] (b2n (o ≠ 0))

/-- A write of TIME_TBn_ADJ_HI (R445, R449): the base is stepped once; DT follows as TIME_DT_CTRL.mode selects. -/
def tbStep (s : State) (n hi : Nat) : State :=
  if n = 2 then s
  else
    let v := s.pairValue R.TIME_TB_ADJ_LO [n] hi
    let s := s.putPair R.TIME_TB_ADJ_LO R.TIME_TB_ADJ_HI [n] v
    if s.baseIgnored n then s
    else
      let d : Int := signed 64 v * (2 ^ 32 : Nat)
      let s := s.modTime fun x => { x with tb := x.tb.set n (unsigned 96 ((x.tb.getD n 0 : Nat) + d)) }
      let active : Bool := s.get Fl.TIME_DT_STAT_active = n
      let jump : Bool := active && s.flag Fl.TIME_DT_CTRL_mode
      let before := s.time.ofs
      let s := if jump then (s.loadOfs 0).put Fl.TIME_DT_STAT_stepped [] 1
        else if active then s.loadOfs (s.time.ofs - d) else s
      let s := if n = 3 then s.audShift d else if jump && s.aliased then s.audShift (d - before) else s
      (s.inc Fl.TIME_TB_STAT_steps [n]).ev 0x00E2 srcTIME n (b2n jump + 2 ^ 32 * (v % 2 ^ 32))

/-! ### Device time (R449 to R451) -/

/-- Base `n` becomes the active base, in mode 0 or 1; a holdover ends unless `n` is a PTP base that does not track (log 34). -/
def dtSwitch (s : State) (n mode : Nat) (auto : Bool) : State :=
  let old := s.get Fl.TIME_DT_STAT_active
  let o : Int := if mode = 0 then s.dtFine - (s.time.tb.getD n 0 : Nat) else 0
  let before := s.dtFine
  let s := (s.put Fl.TIME_DT_STAT_active [] n).loadOfs o
  let s := if mode = 1 && s.aliased then s.audShift (s.dtFine - before) else s
  let s := if mode = 1 then s.put Fl.TIME_DT_STAT_stepped [] 1 else s
  let s := if n < 2 && !s.flag Fl.TIME_TB_STAT_tracking [n] then s else s.put Fl.TIME_DT_STAT_holdover [] 0
  let s := (s.put Fl.TIME_DT_STAT_switched [] 1).inc Fl.TIME_DT_STAT_switches
  s.ev 0x00E0 srcTIME 0 (old + 4 * n + 16 * b2n auto + 32 * mode + 2 ^ 32 * unsigned 32 (o / (2 ^ 32 : Nat)))

def tracking (s : State) (n : Nat) : Bool := s.flag Fl.TIME_TB_STAT_tracking [n]

/-- The active base was TB0 or TB1 and has stopped tracking (R451). -/
def autoDomain (s : State) (n : Nat) : State :=
  if !s.flag Fl.TIME_DT_CTRL_auto || 1 < n || s.get Fl.TIME_DT_STAT_active ≠ n then s
  else if s.tracking (1 - n) then (s.ev 0x40E0 srcTIME n (256 + (1 - n))).dtSwitch (1 - n) 0 true
  else
    let first : Bool := !s.flag Fl.TIME_DT_STAT_holdover
    let s := (s.put Fl.TIME_DT_STAT_holdover [] 1).ev 0x40E0 srcTIME n n
    if first then s.ev 0x40E1 srcTIME 0 n else s

def endTracking (s : State) (n : Nat) (lost : Bool) : State :=
  if 3 < n || !s.tracking n then s
  else
    let s := (s.put Fl.TIME_TB_STAT_tracking [n] 0).modTime fun x => { x with track := x.track.set n 0 }
    (if lost then s.put Fl.TIME_TB_STAT_lost [n] 1 else s).autoDomain n

/-- A write of 1 to beat (R447): the base tracks for wdog_ms; it ends a holdover (R451). -/
def beat (s : State) (n : Nat) : State :=
  if 3 < n then s
  else
    let s := (s.put Fl.TIME_TB_STAT_tracking [n] 1).modTime fun x => { x with
      track := x.track.set n (s.get Fl.TIME_TB_HEALTH_wdog_ms [n] * 1000000) }
    if s.flag Fl.TIME_DT_STAT_holdover && n < 2 then
      if s.get Fl.TIME_DT_STAT_active = n then s.put Fl.TIME_DT_STAT_holdover [] 0
      else if s.flag Fl.TIME_DT_CTRL_auto then s.dtSwitch n 0 true else s
    else s

/-- The tracking window passes without a beat (R447, log 35). -/
def trackLapse (s : State) (n : Nat) : State :=
  if 3 < n || !s.tracking n then s
  else (s.advance (ceilDiv (s.time.track.getD n 0) 2)).endTracking n true

/-- The slew ends (R449): the clocks that it still needs pass (log 35). -/
def slewDone (s : State) : State :=
  if !s.flag Fl.TIME_DT_STAT_slewing then s
  else
    let s := s.advance (ceilDiv s.time.ofs.natAbs (max 1 s.slewStep))
    (s.loadOfs 0).ev 0x00E1 srcTIME 0 0

/-- A write of `v` to TIME_DT_CTRL (R450). -/
def dtCtrl (s : State) (v : Nat) : State :=
  let s := s.writeFields ⟨R.TIME_DT_CTRL, [Fl.TIME_DT_CTRL_auto, Fl.TIME_DT_CTRL_mode, Fl.TIME_DT_CTRL_target]⟩ [] v
  if bit v 8 then s.dtSwitch (s.get Fl.TIME_DT_CTRL_target) (s.get Fl.TIME_DT_CTRL_mode) false else s

/-- DT and all four bases in one clock (R452). -/
def timeCap (s : State) : State :=
  (List.range 4).foldl (fun (t : State) n => t.wr64 R.TIME_CAP_TB_LO R.TIME_CAP_TB_HI [n] (s.tbNs n))
    (s.wr64 R.TIME_CAP_DT_LO R.TIME_CAP_DT_HI [] s.dt)

/-! ### PTP (R454 to R459) -/

/-- Where a frame's PTP message begins, and whether it goes to UDP port 319 (R456). -/
def ptpAt (b : Bytes) : Option (Nat × Bool) :=
  let w (i : Nat) : Nat := beNat ((b.drop i).take 2)
  let u (i : Nat) : Nat := fieldLe b i 1
  let a := if w 12 = 0x8100 then 18 else 14
  let typ := w (a - 2)
  let udp (h : Nat) : Option (Nat × Bool) :=
    if w (h + 2) = 319 then some (h + 8, true) else if w (h + 2) = 320 then some (h + 8, false) else none
  if typ = 0x88F7 then some (a, false)
  else if typ = 0x0800 && u a / 16 = 4 && u (a + 9) = 17 then udp (a + u a % 16 * 4)
  else if typ = 0x86DD && u a / 16 = 6 && u (a + 6) = 17 then udp (a + 40)
  else none

/-- What the time-stamp path reads of a PTP message: messageType, domainNumber, sequenceId, event message (R456, R458). -/
def ptpMsg (b : Bytes) : Option (Nat × Nat × Nat × Bool) :=
  (ptpAt b).map fun a =>
    let u (i : Nat) : Nat := fieldLe b (a.1 + i) 1
    (u 0 % 16, u 4, beNat ((b.drop (a.1 + 30)).take 2), a.2 || u 0 % 16 < 4)

/-- The base of a domain (R454). -/
def ptpBase (s : State) (domain : Nat) : Nat :=
  if s.flag Fl.TIME_DOMMAP_en_a && s.get Fl.TIME_DOMMAP_dom_a = domain then 0
  else if s.flag Fl.TIME_DOMMAP_en_b && s.get Fl.TIME_DOMMAP_dom_b = domain then 1 else 2

/-- A time-stamp in 2^-16 ns, moved by a compensation: ns and fraction. -/
def stampAt (s : State) (b : Nat) (comp : Int) : Nat × Nat :=
  let v := unsigned 80 ((s.tbFine b / 2 ^ 16 : Nat) + comp)
  (v / 2 ^ 16, v % 2 ^ 16)

def lat (s : State) (r : Reg) (p : Nat) : Int := signed 32 (s.rd r [p])

/-- The queue's head shows in TIME_PTp_TXQ (R458). -/
def txqShow (s : State) (p : Nat) : State :=
  let l := s.time.txq.getD p []
  let h := l.headD (0, 0, 0)
  (((s.wr R.TIME_PT_TXQ_ID [p] h.1).wr64 R.TIME_PT_TXQ_TS_LO R.TIME_PT_TXQ_TS_HI [p] h.2.1).wr R.TIME_PT_TXQ_FRAC [p] h.2.2).put
    Fl.TIME_PT_TXQ_STAT_level [p] l.length

/-- A transmit time-stamp enters the queue (R458). -/
def txqPush (s : State) (p : Nat) (e : Nat × Nat × Nat) : State :=
  if 16 ≤ (s.time.txq.getD p []).length then
    ((s.put Fl.TIME_PT_TXQ_STAT_ovf [p] 1).inc Fl.TIME_PT_TXQ_STAT_ovf_count [p]).evLimited 0x00E4 srcTIME p (s.rd R.DEV_EPOCH_IN)
      noFrame 1
  else (s.modTime fun x => { x with txq := modNth x.txq p fun l => l ++ [e] }).txqShow p

/-- Send the frame in TXBUF (R457). -/
def ptpSend (s : State) (p : Nat) : State :=
  let n := s.get Fl.TIME_PT_TXCTRL_length [p]
  let buf := (List.range 64).flatMap fun j => leBytes 4 (s.rd R.TIME_PT_TXBUF [p, j])
  let b := buf.take n
  let s := s.ethSend p (b ++ List.replicate (60 - n) 0)
  match ptpMsg b with
  | some (typ, dom, seq, true) =>
    let base := s.ptpBase dom
    let t := s.stampAt base (s.lat R.TIME_PT_TXLAT p - (if typ = 1 then s.lat R.TIME_PT_ASYM p else 0))
    s.txqPush p (seq + 2 ^ 16 * dom + 2 ^ 26 * base + 2 ^ 28 * typ, t)
  | _ => s

def ptpTx (s : State) (p v : Nat) : State :=
  let s := s.writeFields ⟨R.TIME_PT_TXCTRL, [Fl.TIME_PT_TXCTRL_length]⟩ [p] v
  if bit v 31 then s.ptpSend p else s

def txqPop (s : State) (p : Nat) : State := (s.modTime fun x => { x with txq := modNth x.txq p fun l => l.drop 1 }).txqShow p

/-- A received PTP frame (R459); a port without a record receives none (R92). -/
def ptpRx (s : State) (p : Nat) (b : Bytes) : State :=
  match if s.netOn p then ptpMsg b else none with
  | none => s
  | some (typ, dom, _, event) =>
    let tail := s.rd R.TIME_PT_RX_TAIL [p]
    let size := 2 ^ s.get Fl.TIME_PT_RX_CTRL_log2size [p]
    if !s.flag Fl.TIME_PT_RX_CTRL_enable [p] || size ≤ (tail + 2 ^ 32 - s.rd R.TIME_PT_RX_HEAD [p]) % 2 ^ 32 then
      s.inc Fl.TIME_PT_RX_DROP_count [p]
    else
      let base := s.ptpBase dom
      let rx := s.lat R.TIME_PT_RXLAT p
      let t := s.stampAt base (-(rx + (if typ = 0 then s.lat R.TIME_PT_ASYM p else 0)))
      let d := unsigned 64 ((s.dtFine - rx * (2 ^ 16 : Nat)) / (2 ^ 32 : Nat))
      let e := leBytes 8 t.1 ++ leBytes 2 t.2 ++ leBytes 1 p ++ leBytes 1 (b2n event + 2 * b2n (224 < b.length) + 4 * base)
        ++ leBytes 2 b.length ++ leBytes 2 0 ++ leBytes 8 d ++ leBytes 8 0 ++ (b ++ List.replicate 224 0).take 224
      let s := s.hostWrite (s.rd64 R.TIME_PT_RX_BASE_LO R.TIME_PT_RX_BASE_HI [p] + tail % size * 256) e
      let s := s.wr R.TIME_PT_RX_TAIL [p] ((tail + 1) % 2 ^ 32)
      let s := s.hostWrite (s.rd64 R.TIME_PT_RX_TAILWB_LO R.TIME_PT_RX_TAILWB_HI [p]) (leBytes 4 ((tail + 1) % 2 ^ 32))
      s.ev 0x00E3 srcTIME p ((tail + 1) % 2 ^ 32)

/-! ### Genlock (R461) -/

/-- Frame rate of a genlock format. -/
def genlockRate (f : Nat) : Nat × Nat :=
  if f = 1 then (30000, 1001) else if f = 2 || f = 0x18 then (25, 1) else if f = 0x19 then (30000, 1001) else rateND (f % 8)

/-- Is `d` ns one period of a rate, within 0.1 %. -/
def isPeriod (d : Nat) (r : Nat × Nat) : Bool :=
  999 * r.2 * second ≤ d * r.1 * 1000 && d * r.1 * 1000 ≤ 1001 * r.2 * second

/-- Ns and 1/64 ns of a time in units of 2^-32 ns. -/
def in64ths (t : Nat) : Nat × Nat := (t / 2 ^ 32 % 2 ^ 64, t / 2 ^ 26 % 64)

def genlockRef (s : State) (f : Nat) : State :=
  let d := in64ths s.dtFine.toNat
  let t := in64ths (s.tbFine 3)
  let s := (s.wr64 R.TIME_GL_DT_LO R.TIME_GL_DT_HI [] d.1).wr64 R.TIME_GL_TB3_LO R.TIME_GL_TB3_HI [] t.1
  let s := (s.wr R.TIME_GL_FRAC [] (256 * d.2 + t.2)).wr R.TIME_GL_REFS [] ((s.rd R.TIME_GL_REFS + 1) % 2 ^ 32)
  let fit : Bool := s.get Fl.TIME_GL_STAT_format = f && s.time.glRef.any fun r => isPeriod (t.1 - r) (genlockRate f)
  let s := (s.put Fl.TIME_GL_STAT_format [] f).modTime fun x => { x with glRef := some t.1 }
  if fit && !s.flag Fl.TIME_GL_STAT_locked then (s.put Fl.TIME_GL_STAT_locked [] 1).ev 0x00E6 srcTIME 0 (1 + 256 * f) else s

def genlockLoss (s : State) : State :=
  let f := s.get Fl.TIME_GL_STAT_format
  let was := s.flag Fl.TIME_GL_STAT_locked
  let s := ((s.put Fl.TIME_GL_STAT_locked [] 0).put Fl.TIME_GL_STAT_format [] 0).modTime fun x => { x with glRef := none }
  if was then (s.put Fl.TIME_GL_STAT_lost [] 1).ev 0x00E6 srcTIME 0 (256 * f) else s

/-! ### Timecode (R462, R463) -/

/-- The rate code whose frame period is nearest to `d` ns, of 0 to 4. -/
def ltcRate (d : Nat) : Nat :=
  let gap (r : Nat) : Nat := let p := (rateND r).2 * second * 1000 / (rateND r).1; max p (d * 1000) - min p (d * 1000)
  (List.range 5).foldl (fun a r => if gap r < gap a then r else a) 0

/-- An LTC frame is decoded: its timecode, user bits, drop-frame flag and measured period in TB3 ns. -/
def ltcIn (s : State) (tc ub : Nat) (df : Bool) (period : Nat) : State :=
  if !s.flag Fl.TIME_LTCI_CTRL_enable then s
  else
    let was := s.flag Fl.TIME_LTCI_STAT_locked
    let r := ltcRate period
    let s := (s.wr R.TIME_LTCI_TC [] tc).wr R.TIME_LTCI_UB [] ub
    let s := (s.wr64 R.TIME_LTCI_DT_LO R.TIME_LTCI_DT_HI [] s.dt).wr64 R.TIME_LTCI_TB3_LO R.TIME_LTCI_TB3_HI [] (s.tbNs 3)
    let s := ((s.put Fl.TIME_LTCI_STAT_r [] r).put Fl.TIME_LTCI_STAT_df [] (b2n df)).put Fl.TIME_LTCI_STAT_locked [] 1
    let s := s.modTime fun x => { x with ltcRef := some (s.tbNs 3, tc % 2 ^ 32) }
    if !was && s.flag Fl.TIME_LTCI_CTRL_ev_en then s.ev 0x00E7 srcTIME 0 (1 + 256 * r + 2048 * b2n df) else s

def ltcLoss (s : State) : State :=
  if !s.flag Fl.TIME_LTCI_STAT_locked then s
  else
    let s := ((s.put Fl.TIME_LTCI_STAT_locked [] 0).put Fl.TIME_LTCI_STAT_lost [] 1).modTime fun x => { x with ltcRef := none }
    if s.flag Fl.TIME_LTCI_CTRL_ev_en then
      s.ev 0x00E7 srcTIME 0 (256 * s.get Fl.TIME_LTCI_STAT_r + 2048 * s.get Fl.TIME_LTCI_STAT_df) else s

def ofBcd (b : Nat) : Nat := b / 16 % 16 * 10 + b % 16
def toBcd (n : Nat) : Nat := n / 10 * 16 + n % 10

/-- The next timecode at `fps` frames, dropping 00 and 01 of each minute but every tenth with drop-frame (R463). -/
def tcNext (fps : Nat) (df : Bool) (tc : Nat) : Nat :=
  let f := ofBcd (tc % 256) + 1
  let c := if f < fps then 0 else 1
  let sec := ofBcd (tc / 2 ^ 8 % 256) + c
  let min_ := ofBcd (tc / 2 ^ 16 % 256) + sec / 60
  let hour := (ofBcd (tc / 2 ^ 24 % 256) + min_ / 60) % 24
  let f := if f < fps then f else 0
  let sec := sec % 60
  let min_ := min_ % 60
  let f := if df && f = 0 && sec = 0 && min_ % 10 ≠ 0 then 2 else f
  toBcd f + 2 ^ 8 * toBcd sec + 2 ^ 16 * toBcd min_ + 2 ^ 24 * toBcd hour

def ltcFps (r : Nat) : Nat := if r < 2 then 24 else if r = 2 then 25 else 30

/-- Bit 0 of the next LTC out frame falls (R463, log 35). A frame whose instant is more than a period past is skipped. -/
def ltcOut (s : State) : State :=
  if !s.flag Fl.TIME_LTCO_CTRL_enable then s
  else
    let r := s.get Fl.TIME_LTCO_CTRL_r
    let phase : Int := signed 32 (s.rd R.TIME_LTCO_PHASE) * (2 ^ 32 : Nat)
    let now : Int := (s.tbFine 3 : Nat) - phase
    let k := match s.time.ltcNext with
      | some n => max n.1 (gridDown r now.toNat)
      | none => gridUp r now.toNat
    let s := s.reach 4 ((gridAt r k : Nat) + phase).toNat 32
    let df : Bool := s.flag Fl.TIME_LTCO_CTRL_df
    let next := tcNext (ltcFps r) df
    let jam := s.time.ltcJam.bind fun j => if j.2 ≤ k then some j.1 else none
    let old := s.time.ltcNext.map (·.2)
    let tc := match s.time.ltcRef, s.flag Fl.TIME_LTCO_CTRL_src, jam with
      | some i, true, _ => next i.2
      | _, false, some j => j
      | _, _, _ => old.getD 0
    let s := s.wr R.TIME_LTCO_TC [] tc
    let s := s.modTime fun x => { x with
      ltcNext := some (k + 1, next tc), ltcJam := if jam.isSome then none else x.ltcJam }
    s.emit (.port 7 0 (leBytes 4 tc ++ leBytes 4 (s.rd R.TIME_LTCO_UB) ++ leBytes 1 (b2n df)))

/-- A write to TIME_LTCO_JAM: the timecode of the first grid instant at least 100 µs away. -/
def ltcJam (s : State) (v : Nat) : State :=
  let k := gridUp (s.get Fl.TIME_LTCO_CTRL_r) (s.tbFine 3 + 100000 * 2 ^ 32)
  (s.wr R.TIME_LTCO_JAM [] v).modTime fun x => { x with ltcJam := some (v % 2 ^ 32, k) }

/-! ### Lines (R464 to R467) -/

/-- An edge of an input line: `width` is the length in ns of the shorter of the two pulses that it bounds. A pulse shorter
than the glitch filter's time is ignored with both its edges. A bank without an enabled port has no input (R92). -/
def trigEdge (s : State) (l : Nat) (rising : Bool) (width : Nat) : State :=
  if 47 < l || !s.graph.portOn 0x11 (l / 8) || width < 2 * s.get Fl.TIME_L_CTRL_filt [l] then s
  else
    let t := in64ths (s.dtFine - signed 32 (s.rd R.TIME_PIN_IN) * (2 ^ 26 : Nat)).toNat
    let s := s.put Fl.LSP_GPIO_IN_lines [l / 8] (putBits (s.get Fl.LSP_GPIO_IN_lines [l / 8]) (l % 8) (l % 8) (b2n rising))
    let sel : Bool := bit (s.get Fl.TIME_L_CTRL_edge [l]) (if rising then 0 else 1)
    let s := if sel then
        let old := s.rd R.TIME_L_FRAC [l]
        let s := if rising then (s.wr64 R.TIME_L_RISE_LO R.TIME_L_RISE_HI [l] t.1).wr R.TIME_L_FRAC [l] (putBits old 13 8 t.2)
          else (s.wr64 R.TIME_L_FALL_LO R.TIME_L_FALL_HI [l] t.1).wr R.TIME_L_FRAC [l] (putBits old 5 0 t.2)
        let s := s.inc Fl.TIME_L_CNT_count [l]
        if s.flag Fl.TIME_L_CTRL_ev_en [l] then
          s.ev 0x00E5 srcTIME l (b2n (!rising) + 256 * t.2 + 2 ^ 32 * s.rd R.TIME_L_CNT [l]) else s
      else s
    s.capLineTrigger l rising t.1

/-- Drive every line whose src names pulse scheduler `k`. -/
def drivePs (s : State) (k : Nat) (level : Bool) (time : Nat) : State :=
  (List.range 48).foldl (fun (t : State) l => if t.get Fl.TIME_L_CTRL_src [l] = 9 + k then t.driveLine l (9 + k) level time else t) s

def modPs (s : State) (k : Nat) (f : Gen → Gen) : State := { s with pss := modNth s.pss k f }

/-- An edge of a pulse scheduler falls (R466, R467). -/
def psEdge (s : State) (k : Nat) : State :=
  if 3 < k then s
  else
    let c := s.psCfg k
    let s := s.reachEdge c (s.pss.getD k Gen.init)
    match s.dueEdge c (s.pss.getD k Gen.init) with
    | none => s
    | some (j, skipped) =>
      let w := pulseWidth c
      let s := s.modPs k fun x => { x with
        next := if c.mode = 1 then some (j + 1) else none
        on := x.pulseOn (s.time.clk + w) 0 c.activeLow w }
      let s := if skipped = 0 then s else
        (List.range 48).foldl (fun (t : State) l => if t.get Fl.TIME_L_CTRL_src [l] = 9 + k then
          t.evLimited 0x00E8 srcTIME l (t.rd R.DEV_EPOCH_IN) noFrame (9 + k + 2 ^ 32 * skipped) else t)
          (s.inc Fl.TIME_PS_CNT_skipped [k] skipped)
      if w = 0 then s else (s.inc Fl.TIME_PS_CNT_emitted [k]).drivePs k (!c.activeLow) (s.pinTime s.dt)

/-- A scheduled pulse ends after its width (R467, log 35). -/
def psEnd (s : State) (k : Nat) : State :=
  match (s.pss.getD k Gen.init).on with
  | some (at_, _, activeLow) =>
    let s := s.reachClk at_
    (s.modPs k fun x => { x with on := none }).drivePs k activeLow (s.pinTime s.dt)
  | none => s

end State

/-- TB_INC_UPDATE (R445). -/
def execTbIncUpdate (n hi : Nat) (s : State) : Res := .next (s.onUnit .time fun s => if n < 4 then s.tbInc n hi else s)

/-- EV_TIME_STEP (R445). -/
def execEvTimeStep (n hi : Nat) (s : State) : Res := .next (s.onUnit .time fun s => if n < 4 then s.tbStep n hi else s)

/-- BEAT (R447). -/
def execBeat (n : Nat) (s : State) : Res := .next (s.onUnit .time fun s => s.beat n)

/-- DROP (R447). -/
def execDrop (n : Nat) (s : State) : Res := .next (s.onUnit .time fun s => s.endTracking n false)

/-- TRACKING_LAPSE (R447). -/
def execTrackingLapse (n : Nat) (s : State) : Res := .next (s.trackLapse n)

/-- DT_SWITCH (R450). -/
def execDtSwitch (v : Nat) (s : State) : Res := .next (s.onUnit .time fun s => s.dtCtrl v)

/-- EV_TIME_SLEW_DONE (R449). -/
def execEvTimeSlewDone (s : State) : Res := .next s.slewDone

/-- TIME_CAPTURE (R452). -/
def execTimeCapture (v : Nat) (s : State) : Res := .next (s.onUnit .time fun s => if bit v 0 then s.timeCap else s)

/-- PTP_TRANSMIT (R457). -/
def execPtpTransmit (p v : Nat) (s : State) : Res := .next (s.onUnit .time fun s => if p < 6 then s.ptpTx p v else s)

/-- TXQ_POP (R458). -/
def execTxqPop (p : Nat) (s : State) : Res := .next (s.onUnit .time fun s => if p < 6 then s.txqPop p else s)

/-- PTP_RECEIVE (R459). -/
def execPtpReceive (p : Nat) (frame : Bytes) (s : State) : Res := .next (if p < 6 then s.ptpRx p frame else s)

/-- GENLOCK_REFERENCE (R461). -/
def execGenlockReference (std : Nat) (s : State) : Res := .next (s.genlockRef std)

/-- GENLOCK_LOSS (R461). -/
def execGenlockLoss (s : State) : Res := .next s.genlockLoss

/-- LTC_IN_FRAME (R462). -/
def execLtcInFrame (tc ub : Nat) (df : Bool) (period : Nat) (s : State) : Res := .next (s.ltcIn tc ub df period)

/-- LTC_IN_LOSS (R462). -/
def execLtcInLoss (s : State) : Res := .next s.ltcLoss

/-- LTC_OUT_FRAME (R463). -/
def execLtcOutFrame (s : State) : Res := .next s.ltcOut

/-- LTC_JAM (R463). -/
def execLtcJam (v : Nat) (s : State) : Res := .next (s.onUnit .time fun s => s.ltcJam v)

/-- TRIGGER_EDGE (R464). -/
def execTriggerEdge (line : Nat) (rising : Bool) (s : State) (width : Nat := 0) : Res := .next (s.trigEdge line rising width)

/-- PULSE_SCHEDULER_EDGE (R467). -/
def execPulseSchedulerEdge (k : Nat) (s : State) : Res := .next (s.psEdge k)

/-- SCHEDULED_PULSE_END (R467). -/
def execScheduledPulseEnd (k : Nat) (s : State) : Res := .next (s.psEnd k)

end Sys2Proof.Machine
end

