-- ==== Sys2Proof/Machine/Cpr.lean ====
section
/-! DEFINITION. Resets, clocks, power domains and the parts of a dawn (R563 to R577, R105 to R109). -/

namespace Sys2Proof.Machine

/-- Power domains that a clock domain serves (R563). -/
def clockDomains (c : Nat) : List Nat :=
  [[0], [1], [2], [5, 6, 7, 8, 9, 10, 11, 12, 13], [14], [16], [16], [16], [16], [3, 4], [17, 18, 19], [20], [20], [15], [15], [21],
    [22], [22]].getD c []

/-- Nominal frequency in units of 0.1 Hz (R563). -/
def nominalFine (c : Nat) : Nat := if c = 11 then 8056640625 else nominalKhz c * 10000

/-- Frequency in effect in whole kHz (R564): the lowest of nominal, the image's cap (0 none) and Barometer's cap in %. -/
def khzOf (c cap pct : Nat) : Nat :=
  let k := nominalFine c * pct / 100 / 10000
  if cap = 0 then k else min k cap

/-- Domains that standby leaves on (R584). -/
def standbyOn (d : Nat) : Bool := [0, 16, 17, 20].contains d

/-- Take the class's spare for a retired instance that a structure names (R542). -/
def useSpare (g : Graph) (cls retired : Nat) : Graph :=
  { g with tiles := g.tiles.map fun t =>
      if t.cls = cls && t.mask &&& retired ≠ 0 then { t with mask := (t.mask - (t.mask &&& retired)) ||| 2 ^ spareTile cls } else t }

namespace State

def modCpr (s : State) (f : CprSt → CprSt) : State := { s with cpr := f s.cpr }

/-! ### What shows outside a register file reset (R508, R475, R571) -/

def bootsel (s : State) : Nat := s.get Fl.DEV_STRAP_bootsel

/-- Values that a reset of their domain takes from the straps and from MRAM. -/
def strapShow (s : State) : State :=
  (s.wr R.LSP_SMB_ADDR [0] (0x80007F60 + s.get Fl.DEV_STRAP_smbadr)).put Fl.SKY_CTRL_enable []
    (b2n (s.get Fl.DEV_STRAP_skyrole ≠ 0))

/-! ### Clocks (R563, R564) -/

/-- Enable and cap of a clock domain: those of the loaded image; before it, the clocks of USB while the dawn waits on it. -/
def clockCfg (s : State) (c : Nat) : Bool × Nat :=
  let i := (Image.of s.drv.image).clock c
  let usb : Bool := s.cpr.source = 4 && (c = 16 || c = 17)
  (alwaysClocked c || usb || i.1, i.2)

/-- CPR_CLKc. The rates that VID, DSI and AUD choose for themselves are free values (log 2). -/
def clkShow (s : State) : State :=
  (List.range 18).foldl (fun (t : State) c =>
    let cfg := t.clockCfg c
    let run : Bool := cfg.1 && (clockDomains c).any t.domainOn
    if !run then t.wr R.CPR_CLK [c] 0
    else if c = 13 || c = 14 || c = 15 then
      if t.flag Fl.CPR_CLK_running [c] then t
      else
        let r := t.fresh
        r.2.wr R.CPR_CLK [c] (3 * 2 ^ 30 + r.1 % 2 ^ 21)
    else t.wr R.CPR_CLK [c] (3 * 2 ^ 30 + khzOf c cfg.2 (t.get Fl.BARO_CAP_effect [c]))) s

/-! ### Power domains (R567 to R570) -/

/-- Is a register of power domain `d` held at this key. -/
def keyIn (d k : Nat) : Bool := k < 0x40000000 && decide (domainOf (blockOf k) = some d)

/-- The power domains of the tiles that a pipeline's set at this key serves (R191, R567). -/
def setDomains (k : Nat) : List Nat :=
  if k < 0x40000000 then []
  else match blockOf (k - 0x40000000) with
    | .rct _ => [5, 6, 7]
    | .rcu _ => [8, 9]
    | .dvt _ => [10, 11, 12]
    | _ => []

/-- Does a switch of domain `d` reset the register held at a key: its own, and a pipeline's set once no other domain with tiles of
that class is on (R7, R191, R569). -/
def keyGone (s : State) (d k : Nat) : Bool :=
  keyIn d k || ((setDomains k).contains d && (setDomains k).all fun x => x = d || !s.domainOn x)

/-- Registers of a domain return to their reset values, those in effect too (R569). -/
def regsOff (s : State) (d : Nat) : State :=
  { s with
    regs := s.regs.filter fun e => !s.keyGone d e.1
    lowHalf := s.lowHalf.filter fun e => !s.keyGone d e.1
    disarmed := s.disarmed.filter fun k => !s.keyGone d k
    epochs := s.epochs.map fun r => { r with regs := r.regs.filter fun e => !s.keyGone d e.1 } }

/-- What the control fabric of PD2 holds beside registers (R585). -/
def fabricOff (s : State) : State :=
  { s with
    mirror := State.reset.mirror, latch := [], raised := [], limited := [], dests := s.dests.mapIdx fun i x => if i < 16 then Dest.init else x
    packets := [], rings := State.reset.rings, heldReads := [], bulk := State.reset.bulk, promo := [], front := none, patchesOf := []
    subst := [], hlt := { HltSt.init with leaks := List.replicate 11 (s.time.clk, 0) }, baro := { BaroSt.init with planned := s.time.clk }, drv := { DrvSt.init with image := s.drv.image } }

/-- What the units of a domain hold beside registers returns to its reset state. The slots of the ingest buffers are SFE's: their number and
tags stay when PD13 is switched (R16). -/
def unitOff (s : State) (d : Nat) : State :=
  match d with
  | 2 => s.fabricOff
  | 5 | 6 | 7 => { s with defStores := s.defStores.filter fun x => tileDomain 1 x.tile ≠ d }
  | 3 => { s with
      lanes := s.lanes.mapIdx fun i x => if i < 32 then Lane.init else x
      groups := State.reset.groups, streams := State.reset.streams, sgs := State.reset.sgs }
  | 4 => { s with lanes := s.lanes.mapIdx fun i x => if 32 ≤ i then Lane.init else x }
  | 13 => { s with caps := s.caps.map (fun c => { CapSt.init with depth := c.depth, tags := c.tags }), outfs := State.reset.outfs }
  | 14 => { s with encs := State.reset.encs, dec := DecSt.init }
  | 15 => { s with disp := { DispSt.init with epoch := s.rd R.DEV_EPOCH_IN }, dec := { s.dec with out := [] } }
  | 18 => { s with ofl := { OflSt.init with slot2 := s.ofl.slot2 } }
  | 19 => { s with recorder := RecSt.init }
  | 21 => { s with aud := AudSt.init }
  | 22 => { s with lsp := { LspSt.init with vbus := s.lsp.vbus } }
  | 23 => { s with
    recorder := { s.recorder with jobs := [] }
    zst := [none, none]
    dests := s.dests.mapIdx fun i x => if 16 ≤ i then Dest.init else x }
  | _ => s

/-- Registers that show what persists, and lanes that enter SIGNAL, once their domain has come up (R155). -/
def unitShow (s : State) (d : Nat) : State :=
  match d with
  | 2 => (s.nvShow.wr R.HLT_RETIRED [] s.nv.retired).xwShow
  | 3 => s.lanesSync
  | 4 => if s.domainOn 3 then s.lanesSync else s
  | 18 => s.fwShow.oflShow
  | 19 => s.recShow
  | 22 => s.wr R.LSP_SMB_ADDR [0] (0x80007F60 + s.get Fl.DEV_STRAP_smbadr)
  | 23 => s.bbShow
  | _ => s

/-- Switch a domain (R569): with its power go its registers and what its units hold. -/
def domainSet (s : State) (d : Nat) (on : Bool) : State :=
  let old := s.get Fl.CPR_PD_STAT_on
  let straps := s.rd R.DEV_STRAP
  let serial := s.rd64 R.DEV_SERIAL_LO R.DEV_SERIAL_HI
  let s := (s.regsOff d).unitOff d
  let s := if d = 2 then (s.wr R.DEV_STRAP [] straps).wr64 R.DEV_SERIAL_LO R.DEV_SERIAL_HI [] serial else s
  if on then (s.put Fl.CPR_PD_STAT_on [] (old ||| 2 ^ d)).unitShow d
  else s.put Fl.CPR_PD_STAT_on [] (old - (old &&& 2 ^ d))

/-! ### Device resets (R573) -/

/-- Keys that a device reset leaves: PD0's registers, the straps and the serial number. -/
def keptKey (k : Nat) : Bool := keyIn 0 k || k = R.DEV_STRAP.off || k = R.DEV_SERIAL_LO.off || k = R.DEV_SERIAL_HI.off

/-- Everything that R573 does not keep is reset; MRAM, fuses and what lies outside the 9X stay. Then a dawn starts, with the watchdog
armed unless it waits for a load operation (R107); in a hold or trip none does. -/
def coldReset (s : State) (hold trip : Bool) : State :=
  let r := State.reset
  let s : State := { r with
    pending := s.pending, out := s.out, undef := [(0, 0x2400000000, s.free)], free := s.free + 1, nv := s.nv, mram := s.mram, media := s.media, host := s.host, ohost := s.ohost
    regs := s.regs.filter fun e => keptKey e.1
    time := { TimeSt.init with clk := s.time.clk }
    lsp := { LspSt.init with vbus := s.lsp.vbus } }
  let s := (s.wr R.CPR_PD_STAT [] 1).strapShow
  let s := (List.range 18).foldl (fun (t : State) c => t.wr R.CPR_CLK [c] 0) s
  let s := ((s.put Fl.CPR_DAWN_step [] 1).put Fl.CPR_DUSK_STAT_landed [] 0).put Fl.CPR_RESET_go [] 0
  let s := (s.put Fl.CPR_PD_CTRL_go [] 0).wr R.CPR_STANDBY [] (256 * s.get Fl.CPR_STANDBY_refused)
  let waits : Bool := !s.flag Fl.DEV_STRAP_safe && (s.bootsel = 3 || s.bootsel = 4)
  s.modCpr fun _ => { CprSt.init with
    hold := hold, trip := trip, dawnAt := s.time.clk, armed := if waits || hold || trip then none else some s.time.clk }

/-- A device reset, from CPR_RESET_CAUSE's code 1 on. -/
def resetBy (s : State) (cause : Nat) : State := (s.put Fl.CPR_RESET_CAUSE_cause [] cause).coldReset (cause = 3) false

/-- PORST_N: nothing of the registers stays, the straps are sampled, and the serial number is read from fuses (R571, R573). -/
def powerOn (s : State) (straps serial : Nat) : State :=
  let s : State := { s with regs := [] }
  let s := (s.wr R.DEV_STRAP [] (straps &&& 0xF737)).wr64 R.DEV_SERIAL_LO R.DEV_SERIAL_HI [] serial
  s.coldReset false false

/-! ### Dawn: the image (R104 to R109, R407) -/

/-- The image of an MRAM slot, as long as its header says. -/
def slotImage (s : State) (base : Nat) : Bytes :=
  let h := s.mram.read base 256
  s.mram.read base (max 256 (min 0x1000000 (imgTotal h)))

/-- The bytes that a boot source gives: MRAM slots, the SPI NOR device, or the image that was loaded. -/
def sourceImage (s : State) (source : Nat) (nor : Bytes) : Bytes :=
  match source with
  | 0 => s.slotImage 0
  | 1 => s.slotImage 0x1000000
  | 2 => nor.take (max 256 (min 0x1000000 (imgTotal nor)))
  | _ => s.drv.image

/-- Check the source's image; slot A's failure leads to slot B, any other to the ROM minimal image (R108, R109). DRV_ERR reports
what failed (R104). -/
def takeImage (s : State) (nor : Bytes) (failed : List Nat) : State :=
  let limit := if s.cpr.source = 2 then min nor.length 0x1000000 else 0x1000000
  let bad (t : State) (b : Bytes) : Option Bad := t.imgCheck b 1 limit failed
  let use (t : State) (b : Bytes) : State := { t with drv := { t.drv with image := b } }
  let rom (t : State) (x : Bad) : State := ((use t []).drvErr (x.code, x.sec, x.off)).modCpr fun y => { y with rom := true }
  let b := s.sourceImage s.cpr.source nor
  match bad s b with
  | none => use s b
  | some x =>
    if s.cpr.source = 0 then
      let s := (s.drvErr (x.code, x.sec, x.off)).modCpr fun y => { y with source := 1, fallback := 1 }
      let b := s.sourceImage 1 nor
      match bad s b with
      | none => use s b
      | some z => rom s z
    else rom s x

def bootImage (s : State) : Image := Image.of s.drv.image

/-- The structure of the loaded image with the spares in the place of retired instances (R542). -/
def bootGraph (s : State) : Graph :=
  [1, 2, 3].foldl (fun g c => useSpare g c (s.get (retiredFld c))) s.bootImage.graph

/-! ### Dawn: the sections (R88, R96, R99, R106) -/

/-- PORTS: the ports of the image are enabled. -/
def loadPorts (s : State) : State :=
  let s : State := { s with graph := { s.graph with ports := s.bootImage.graph.ports } }
  if s.domainOn 3 then s.lanesSync else s

/-- MEMPLAN: the partitions are mapped, and zeroed where asked (R88, R384). -/
def loadMem (s : State) : State :=
  let l := s.bootImage.graph.parts
  let s : State := { s with graph := { s.graph with parts := l } }
  let s := (fullExtents l).foldl (fun (t : State) m => t.setMap m) s
  l.foldl (fun (t : State) q => if q.zero then t.hbmZero q.base q.size else t.hbmUndef q.base q.size) s

/-- The register file that PRESET leaves of the reset values: what is in effect under epoch 0 (R96). -/
def bootRegs (s : State) : RegFile := s.bootImage.writes.foldl (presetOne s.bootImage.graph) []

/-- LUTS, into the banks in effect under epoch 0 (R99); without HBM blobs at a standby exit (R585). -/
def loadLuts (s : State) (hbmToo : Bool) : State :=
  let i := s.bootImage
  let regs := s.bootRegs
  (i.blobs.filter fun x => hbmToo || x.target ≠ 0xFFFF).foldl (fun (t : State) x => t.putBlob i.graph regs x.data) s

/-- Registers whose values live outside the register file take the new words: increments, gust counters shown, outputs driven. -/
def regsTaken (s : State) (old : State) : State :=
  let inc := (List.range 4).map fun n => s.rd64 R.TIME_TB_INC_LO R.TIME_TB_INC_HI [n]
  let s : State := { s with time := { s.time with inc := inc } }
  let s := if s.powered .hlt then s.gustShow else s
  (List.range 6).foldl (fun (t : State) b =>
    let v := t.get Fl.LSP_GPIO_OUT_lines [b]
    (t.put Fl.LSP_GPIO_OUT_lines [b] (old.get Fl.LSP_GPIO_OUT_lines [b])).gpioOut b v) s

/-- PRESET: the shadows, and for RWS fields the values in effect (R96). -/
def loadPresets (s : State) : State :=
  let g := s.bootImage.graph
  let old := s
  let regs := s.bootRegs
  let s : State := { s with
    regs := s.bootImage.writes.foldl (presetOne g) s.regs
    epochs := s.epochs.map fun r => if r.num = 0 then { r with regs := regs } else r }
  s.regsTaken old

/-- FIRMWARE: the version registers, and the offload module in slot 1 (R14, R434). The reload of resident firmware releases the
semaphores that it held (R40, R43). -/
def loadFirmware (s : State) : State :=
  let s := if s.powered .ord then s.ownerReset 5 else s
  let b := s.drv.image
  let s := (s.wr R.DRV_IMG_VER [] (imgVersion b)).put Fl.DRV_IMG_INFO_key_index [] (fieldLe b 11 1)
  let s := s.put Fl.DRV_IMG_INFO_fmt_minor [] (fieldLe b 6 2)
  if s.powered .ofl then s.fwShow else s

/-- TOPOLOGY: the structure, the spares left over, the Crosswind ports, and the pipelines under epoch 0 (R84, R106, R120). -/
def loadTopology (s : State) : State :=
  let g := s.bootGraph
  let g : Graph := { g with parts := s.graph.parts, ports := s.graph.ports }
  let regs := s.bootRegs
  let s : State := { s with
    graph := g, epochs := [⟨0, regs, g, none⟩], pipes := State.reset.pipes, streams := State.reset.streams, frames := [], front := none
    subst := [], disp := { DispSt.init with epoch := 0 } }
  let s := [1, 2, 3].foldl (fun (t : State) c =>
    let gone : Bool := bit (t.get (retiredFld c)) (spareTile c) || (g.tilePipe c (spareTile c)).isSome
    t.put (spareFld c) [] (if gone then 0xFF else spareTile c)) s
  let s := s.modHlt fun x => { x with xw := HltSt.init.xw }
  let s := (List.range 8).foldl (fun (t : State) p => (t.xwAssign p).capFront p) s
  s.genEpoch.audEpoch

/-- A formation starts where the agent is enabled (R475, R476). -/
def skyBegin (s : State) : State := if s.flag Fl.SKY_CTRL_enable then s.skyEnable else s

/-! ### Dawn: the steps (R576, R577) -/

/-- ready is set, the watchdog stops, the dawn's length shows, and what waited for ready is raised (R107, R108, R407, R577). -/
def dawnReady (s : State) : State :=
  let s := (s.put Fl.DEV_STATUS_ready [] 1).modCpr fun x => { x with armed := none, loadGo := false }
  let s := s.put Fl.CPR_DAWN_ms [] (min 0xFFFF ((s.time.clk - s.cpr.dawnAt) / 1000000))
  let s := if s.cpr.fallback ≠ 0 then s.ev 0x4040 srcDRV 0 s.cpr.fallback else s
  let s := (sortBy (fun (a b : Nat) => decide (a < b)) s.untrained).foldl
    (fun (t : State) n => t.ev 0x40C0 srcHBMC n 3) s
  s.skyBegin

/-- What a fallback to slot B shows, slot B's own failure or not (R108; log 66). -/
def fallbackShow (s : State) : State :=
  (s.put Fl.DEV_STATUS_slot [] (b2n (s.cpr.source = 1))).put Fl.DRV_STAT_fallback [] (b2n (s.cpr.fallback ≠ 0))

/-- The ROM minimal image (R109): safe and ready together, no pipelines. -/
def enterRom (s : State) : State :=
  let s : State := { s with drv := { s.drv with image := [] } }
  let s := s.modCpr fun x => { x with rom := true }
  let s := if s.cpr.fallback ≠ 0 then s.fallbackShow else s
  ((s.put Fl.DEV_STATUS_safe [] 1).wr R.DRV_IMG_VER [] 0).dawnReady

/-- Step 1: the dawn is counted and its source chosen (R105, R107, R108, R572). -/
def dawnSource (s : State) : State :=
  let s := s.inc Fl.CPR_RESET_CAUSE_dawns
  let b := s.bootsel
  if s.flag Fl.DEV_STRAP_safe || 5 ≤ b then s.modCpr fun x => { x with safe := true, rom := true }
  else if b ≠ 0 then s.modCpr fun x => { x with source := b }
  else if s.nv.fails < 3 then ({ s with nv := { s.nv with fails := s.nv.fails + 1 } }).modCpr fun x => { x with source := 0 }
  else s.modCpr fun x => { x with source := 1, fallback := 2 }

/-- Step 2: the always-on domains but PD16, and the time bases at 0 (R444). -/
def dawnAlwaysOn (s : State) : State :=
  let s := [1, 2, 17, 20].foldl (fun (t : State) d => t.domainSet d true) s
  let s : State := { s with time := { TimeSt.init with clk := s.time.clk } }
  let s := (s.wr R.BARO_HOURS [] (s.nv.secs / 3600)).wr R.BARO_LOG_WR [] (s.nv.logWr % 2 ^ 32)
  (s.strapShow.put Fl.CPR_VSENSE_min_mv [] (s.get Fl.CPR_VSENSE_mv)).clkShow

/-- Step 4: PD16, whose channels begin to initialise; under USB service the DFU device too (R523). -/
def dawnMem (s : State) : State :=
  let s := s.domainSet 16 true
  let s := (List.range 64).foldl (fun (t : State) n => t.put Fl.HBMC_CH_STAT_state [n] 1) s
  let s := if s.cpr.source = 4 then
      ((s.domainSet 22 true).put Fl.LSP_USB_CTRL_connect [] 1).modLsp fun x => { x with dfuState := 2 }
    else s
  s.clkShow

/-- Step 6: the channels are trained; one that fails is frozen, and may refuse the image (R407). -/
def dawnTrain (s : State) (r : DawnInput) : State :=
  let failed := (r.failed.filter fun n => n < 64).foldl (fun l n => insertCh n l) []
  let s : State := { s with hbmc := { HbmSt.init with down := failed } }
  let s := (List.range 64).foldl (fun (t : State) n =>
    if failed.contains n then
      ((t.put Fl.HBMC_CH_STAT_state [n] 3).put Fl.HBMC_CH_STAT_froze [n] 1).put Fl.HBMC_CH_FRZ_CAUSE_cause [n] 3
    else t.put Fl.HBMC_CH_STAT_state [n] 2) s
  let s := s.groupsShow
  if s.cpr.rom || failedOk s.bootImage.graph.parts failed then s else s.takeImage r.image failed

/-- Step 8: CLKPWR (R91, R569); the black box moves to its other half if it was sealed (R560). -/
def dawnPower (s : State) : State :=
  let i := s.bootImage
  let s := (List.range 24).foldl (fun (t : State) d => if i.power d && !t.domainOn d then t.domainSet d true else t) s
  s.bbDawn.clkShow

/-- Step 12: PRESET; a first rail table is stored and its offsets sent, another one is stored (R518). -/
def dawnPreset (s : State) : State :=
  let s := s.loadPresets
  if s.nv.rails.isNone then s.railsStore.railsSendAll
  else if s.nv.rails = some s.railRegs then s else s.railsStore

/-- Step 14. -/
def dawnTopology (s : State) : State :=
  let s := s.loadTopology
  let s := s.fallbackShow.put Fl.DRV_STAT_source [] s.cpr.source
  let s := if s.cpr.source = 0 then ({ s with nv := { s.nv with fails := 0 } }).nvShow else s
  (s.modLsp fun x => { x with dfuState := if x.dfuState = 7 then 8 else x.dfuState }).dawnReady

/-- What a step of dawn does; `none` where it waits for a load operation (R105). -/
def dawnDo (s : State) (n : Nat) (r : DawnInput) : Option State :=
  match n with
  | 1 => some s.dawnSource
  | 2 => some s.dawnAlwaysOn
  | 4 => some s.dawnMem
  | 5 =>
    if s.cpr.rom then some s
    else if s.cpr.source = 3 || s.cpr.source = 4 then (if s.cpr.loadGo then some s else none)
    else some (s.takeImage r.image [])
  | 6 => some (s.dawnTrain r)
  | 7 =>
    let s := s.planRun 0 r.meas
    some (if s.cpr.rom then s.enterRom else s)
  | 8 => some s.dawnPower
  | 9 => some s.loadPorts
  | 10 => some s.loadMem
  | 11 => some (s.loadLuts true)
  | 12 => some s.dawnPreset
  | 13 => some s.loadFirmware
  | 14 => some s.dawnTopology
  | _ => some s

/-- The dawn halts at a step boundary (R578). -/
def dawnHalt (s : State) : State := (s.modCpr fun x => { x with halted := true }).put Fl.CPR_DAWN_step [] 15

/-- Dawn completes its step; below VWARN it halts there, and a step that would begin an MRAM write does not run (R578, R581). -/
def dawnStep (s : State) (r : DawnInput) : State :=
  let n := s.cpr.step
  if s.cpr.hold || s.cpr.trip || s.cpr.halted || s.flag Fl.DEV_STATUS_ready then s
  else if s.dusk && (n = 1 || n = 8) then s.dawnHalt
  else match s.dawnDo n r with
    | none => s
    | some t =>
      if t.flag Fl.DEV_STATUS_ready then t
      else
        let t := (t.modCpr fun x => { x with step := n + 1 }).put Fl.CPR_DAWN_step [] (n + 1)
        if t.dusk then t.dawnHalt else t

/-! ### The watchdog and CPR_RESET (R107, R574) -/

def watchdog (s : State) : State :=
  match s.cpr.armed with
  | some t =>
    if s.flag Fl.DEV_STATUS_ready || s.cpr.hold || s.cpr.trip then s
    else
      let s := s.reachClk (t + 3000000000)
      let s := if s.powered .trl then s.bbSeal 3 else s
      s.resetBy 1
  | none => s

/-- A write to CPR_RESET (R574): with any other key it is ignored; a device reset starts 10 µs later (log 35), and during a landing it waits
for the landing's end. -/
def resetWrite (s : State) (v : Nat) : State :=
  if v % 65536 ≠ 0xD0E5 then s
  else
    let s := s.put Fl.CPR_RESET_key [] 0xD0E5
    if !bit v 31 || s.cpr.hold || s.cpr.trip || s.cpr.resetDue then s
    else if s.dusk && !s.flag Fl.CPR_DUSK_STAT_landed then (s.put Fl.CPR_RESET_go [] 1).modCpr fun x => { x with resetDue := true }
    else (s.advance 5000).resetBy 2

/-! ### Dusk (R579 to R583) -/

/-- VSENSE now, and the lowest since the last dawn; before a first reading there is none. -/
def vsense (s : State) (mv : Nat) : State :=
  let low := if s.get Fl.CPR_VSENSE_mv = 0 && s.get Fl.CPR_VSENSE_min_mv = 0 then mv else min mv (s.get Fl.CPR_VSENSE_min_mv)
  (s.put Fl.CPR_VSENSE_mv [] mv).put Fl.CPR_VSENSE_min_mv [] low

/-- VWARN plus the hysteresis. -/
def vback (s : State) : Nat := s.get Fl.CPR_DUSK_CFG_vwarn_mv + s.get Fl.CPR_DUSK_CFG_hyst_mv

/-- landed shows that REC is done and the black box sealed; a reset that waited for it runs (R574, R581). -/
def landedShow (s : State) : State :=
  let recDone : Bool := !s.powered .recorder || s.flag Fl.REC_STAT_dusk_done
  let sealed_ : Bool := !s.powered .trl || s.bbSealed
  if recDone && sealed_ then
    let s := s.put Fl.CPR_DUSK_STAT_landed [] 1
    if s.cpr.resetDue then s.resetBy 2 else s
  else s

/-- VWARN (R581). -/
def vwarn (s : State) (mv : Nat) : State :=
  if s.get Fl.CPR_DUSK_CFG_vwarn_mv ≤ mv || s.dusk || s.cpr.hold || s.cpr.trip then s
  else
    let s := ((s.vsense mv).put Fl.CPR_DUSK_STAT_below [] 1).put Fl.CPR_DUSK_STAT_warn [] 1
    let s := (s.put Fl.CPR_DUSK_STAT_landed [] (b2n (s.powered .recorder && s.flag Fl.REC_STAT_dusk_done
      && s.powered .trl && s.bbSealed))).inc Fl.CPR_DUSK_STAT_warn_count
    let s := (s.ev 0x4150 srcCPR 0 (mv % 4096)).drvDusk
    let s := if s.powered .recorder then s.recDusk else s
    let s := if s.powered .ofl then s.oflDusk else s
    if s.powered .trl then s.bbSeal 1 else s

/-- VCRIT: the dusk hold (R582). -/
def vcrit (s : State) (mv : Nat) : State :=
  if s.get Fl.CPR_DUSK_CFG_vcrit_mv ≤ mv || s.cpr.hold || s.cpr.trip then s
  else
    let s := (s.vsense mv).put Fl.CPR_DUSK_STAT_below [] 1
    (s.put Fl.CPR_DUSK_STAT_vcrit_seen [] 1).resetBy 3

/-- The hold ends and a dawn follows (R579, R582). -/
def holdEnd (s : State) (mv : Nat) : State :=
  if !s.cpr.hold || s.cpr.trip || mv ≤ s.vback then s
  else
    let s := ((s.vsense mv).put Fl.CPR_DUSK_STAT_below [] 0).put Fl.CPR_DUSK_STAT_warn [] 0
    s.coldReset false false

/-- Dusk ends without VCRIT; a halted dawn goes on (R578, R583). -/
def duskEnd (s : State) (mv : Nat) : State :=
  if !s.dusk || s.cpr.hold || s.cpr.trip || mv ≤ s.vback then s
  else
    let low := s.get Fl.CPR_VSENSE_min_mv
    let s := ((s.vsense mv).put Fl.CPR_DUSK_STAT_below [] 0).put Fl.CPR_DUSK_STAT_warn [] 0
    let s := s.ev 0x0151 srcCPR 0 (s.get Fl.CPR_DUSK_STAT_landed + 2 ^ 16 * low)
    if s.cpr.halted then (s.modCpr fun x => { x with halted := false }).put Fl.CPR_DAWN_step [] s.cpr.step else s

/-- A thermal trip: no landing, and only a power-on reset leaves it (R593). -/
def tripNow (s : State) (temp : Int) : State := if temp < 115 || s.cpr.trip then s else s.coldReset false true

/-! ### Domain switches (R570) -/

/-- Does a domain hold a tile that is assigned, or a spare. -/
def holdsTile (s : State) (d : Nat) : Bool :=
  [1, 2, 3].any fun c =>
    (List.range 13).any fun n => tileDomain c n = d &&
      ((s.tilePipe c n).isSome || s.get (spareFld c) = n)

def holdsPort (s : State) (d : Nat) : Bool := s.graph.ports.any fun r => r.enable && (portDomains r).contains d

/-- A write to CPR_PD_CTRL. -/
def pdWrite (s : State) (v : Nat) : State :=
  let going : Bool := s.flag Fl.CPR_PD_CTRL_go
  let s := s.writeFields ⟨R.CPR_PD_CTRL, [Fl.CPR_PD_CTRL_refused, Fl.CPR_PD_CTRL_on, Fl.CPR_PD_CTRL_domain]⟩ [] v
  if !bit v 31 then s
  else
    let d := s.get Fl.CPR_PD_CTRL_domain
    if going || alwaysOn d || s.holdsTile d || s.holdsPort d then s.put Fl.CPR_PD_CTRL_refused [] 1
    else (s.put Fl.CPR_PD_CTRL_go [] 1).modCpr fun x => { x with switch := some (d, s.flag Fl.CPR_PD_CTRL_on) }

/-- The switch completes (R569, R586). -/
def pdDone (s : State) : State :=
  match s.cpr.switch with
  | none => s
  | some (d, on) =>
    let s := if s.domainOn d = on then s else s.domainSet d on
    let s := (s.clkShow.put Fl.CPR_PD_CTRL_go [] 0).modCpr fun x => { x with switch := none }
    s.ev 0x0150 srcCPR 0 (d + 256 * b2n on)

/-! ### Standby (R584, R585) -/

/-- The waiter of REC's close that belongs to standby; no packet bears this number. -/
def standbyId : Nat := 2 ^ 64

def standbyRefused (s : State) : State := s.put Fl.CPR_STANDBY_refused [] 1

def standbyEnter (s : State) : State :=
  if s.flag Fl.CPR_STANDBY_enter then s
  else if !s.flag Fl.DEV_STATUS_ready || (List.range 8).any (fun p => s.recording p) || s.flag Fl.DEV_COMMIT_STAT_pending
      || s.flag Fl.DRV_STAT_busy || s.dusk then s.standbyRefused
  else
    let s := (s.put Fl.CPR_STANDBY_enter [] 1).put Fl.CPR_STANDBY_state [] 1
    if s.rs.vol.isNone then s
    else s.volumeClose standbyId

/-- Standby is entered once no frame is in flight and the volume is closed. -/
def standbyEntered (s : State) : State :=
  if s.get Fl.CPR_STANDBY_state ≠ 1 || !s.frames.isEmpty || (s.rs.vol.isSome && !s.rs.landed) then s
  else
    let s := s.modHbm fun x => { x with ticking := false, rows := [] }
    let s := ((List.range 24).reverse.filter fun d => !standbyOn d && s.domainOn d).foldl (fun (t : State) d => t.domainSet d false) s
    let s : State := { s with lut := [], lutSet := [] }
    let s := (s.clkShow.put Fl.CPR_STANDBY_enter [] 0).put Fl.CPR_STANDBY_state [] 2
    s.ev 0x0152 srcCPR 0 2

def standbyExit (s : State) : State :=
  if s.flag Fl.CPR_STANDBY_exit || s.get Fl.CPR_STANDBY_state ≠ 2 then s
  else if s.dusk then s.standbyRefused
  else (s.put Fl.CPR_STANDBY_exit [] 1).put Fl.CPR_STANDBY_state [] 3

/-- A write to CPR_STANDBY. -/
def standbyWrite (s : State) (v : Nat) : State :=
  let s := s.writeFields ⟨R.CPR_STANDBY, [Fl.CPR_STANDBY_refused]⟩ [] v
  let s := if bit v 31 then s.standbyEnter else s
  if bit v 30 then s.standbyExit else s

/-- Standby is left: domains, self-refresh, then the image without its memory plan (R585). -/
def standbyExited (s : State) : State :=
  if s.get Fl.CPR_STANDBY_state ≠ 3 then s
  else
    let i := s.bootImage
    let s := ((List.range 24).filter fun d => (alwaysOn d || i.power d) && !s.domainOn d).foldl
      (fun (t : State) d => t.domainSet d true) s
    let s := (s.modHbm fun x => { x with ticking := true, rows := [] }).clkShow
    let s := if s.cpr.rom then (if s.powered .ord then s.ownerReset 5 else s).put Fl.DEV_STATUS_safe [] 1
      else
        let s := ((s.loadPorts.loadLuts false).loadPresets).loadFirmware.loadTopology
        s.fallbackShow.put Fl.DRV_STAT_source [] s.cpr.source
    let s := (s.put Fl.CPR_STANDBY_exit [] 0).put Fl.CPR_STANDBY_state [] 0
    (s.put Fl.DEV_STATUS_ready [] 1).ev 0x0152 srcCPR 0 0

/-! ### PCIe links (R328, R413, R536) -/

/-- The generation that a link trains to: no higher than a derate has left it. -/
def linkGen (s : State) (inst gen : Nat) : Nat := min gen (lookAt 6 s.hlt.derated inst)

/-- The link of a root port that has a record; under the MEDIAHOLD strap the ports stay off until the first MEDIA_SCAN (R93, R261). -/
def rootLink (s : State) (r : Nat) (up : Bool) (gen width : Nat) : State :=
  if 32 ≤ r || !s.powered .mpc || (up && !s.graph.portOn 3 r) || (up && s.flag Fl.DEV_STRAP_mediahold && !s.recorder.scanned) then s
  else
    let s := (s.put Fl.MPC_RP_STAT_up [r] (b2n up)).put Fl.MPC_RP_STAT_speed [r] (if up then s.linkGen (2 + r) gen else 0)
    let s := s.put Fl.MPC_RP_STAT_width [r] (if up then width else 0)
    (s.graph.branches.filter fun b => b.consumer = srcMPC && b.inst = r).foldl
      (fun (t : State) b => t.put Fl.OUTF_STAT_peer_down [b.pipe * 8 + b.branch] (b2n (!up))) s

/-- The offload link; going down acts as its reset. -/
def oflLink (s : State) (up : Bool) (gen width : Nat) : State :=
  if !s.powered .ofl || !s.graph.portOn 4 0 then s
  else
    let s := if up then s else s.oflLinkReset
    let s := (s.put Fl.OFL_STAT_link [] (b2n up)).put Fl.OFL_STAT_speed [] (if up then s.linkGen 1 gen else 0)
    s.put Fl.OFL_STAT_width [] (if up then width else 0)

end State

/-- POWER_ON_RESET (R571, R573, R590): with a rail out of tolerance the state afterwards is undefined. -/
def execPowerOnReset (straps : Nat) (railsOk : Bool) (serial : Nat) (s : State) : Res :=
  if railsOk then .next (s.powerOn straps serial) else .fault .railsOutOfTolerance

/-- DAWN_STEP (R576). -/
def execDawnStep (r : DawnInput) (s : State) : Res := .next (s.dawnStep r)

/-- WATCHDOG_RESET (R107, log 35). -/
def execWatchdogReset (s : State) : Res := .next s.watchdog

/-- DEVICE_RESET (R574). -/
def execDeviceReset (v : Nat) (s : State) : Res := .next (s.onUnit .cpr fun s => s.resetWrite v)

/-- VWARN_CROSSING (R581). -/
def execVwarnCrossing (mv : Nat) (s : State) : Res := .next (s.vwarn mv)

/-- DUSK_LANDING_DONE (R284, R574, R581). -/
def execDuskLandingDone (s : State) : Res := .next (if s.dusk || s.rs.dusk then s.landingDone.landedShow else s)

/-- VCRIT_CROSSING (R582). -/
def execVcritCrossing (mv : Nat) (s : State) : Res := .next (s.vcrit mv)

/-- DUSK_HOLD_END (R579). -/
def execDuskHoldEnd (mv : Nat) (s : State) : Res := .next (s.holdEnd mv)

/-- EV_CPR_DUSK_END (R583). -/
def execEvCprDuskEnd (mv : Nat) (s : State) : Res := .next (s.duskEnd mv)

/-- DOMAIN_SWITCH (R570). -/
def execDomainSwitch (v : Nat) (s : State) : Res := .next (s.onUnit .cpr fun s => s.pdWrite v)

/-- EV_CPR_PD (R569). -/
def execEvCprPd (s : State) : Res := .next s.pdDone

/-- STANDBY_ENTER (R584). -/
def execStandbyEnter (v : Nat) (s : State) : Res := .next (s.onUnit .cpr fun s => s.standbyWrite v)

/-- STANDBY_ENTERED (R584). -/
def execStandbyEntered (s : State) : Res := .next s.standbyEntered

/-- STANDBY_EXIT (R585). -/
def execStandbyExit (v : Nat) (s : State) : Res := .next (s.onUnit .cpr fun s => s.standbyWrite v)

/-- STANDBY_EXITED (R585). -/
def execStandbyExited (s : State) : Res := .next s.standbyExited

/-- THERMAL_TRIP (R593). -/
def execThermalTrip (temp : Int) (s : State) : Res := .next (s.tripNow temp)

/-- PCIE_LINK_STATE_CHANGE (R328, R413). -/
def execPcieLinkStateChange (ofl : Bool) (r : Nat) (up : Bool) (gen width : Nat) (s : State) : Res :=
  .next (if ofl then s.oflLink up gen width else s.rootLink r up gen width)

end Sys2Proof.Machine
end

