-- ==== Sys2Proof/Machine/Disp.lean ====
section
/-! DEFINITION. The display engine (R359 to R375): DISP epochs, latching, composition, underrun, SDI outputs and inputs. -/

namespace Sys2Proof.Machine

/-- The SDI link of an output picture (R373): 1 HD, 2 3G, 3 6G, 4 12G. -/
def sdiLink (r : Raster) (down : Bool) : Nat :=
  if r.h = 2160 && !down then (if 5 ≤ r.rate then 4 else 3)
  else if !r.interlaced && 5 ≤ r.rate then 2 else 1

/-- What a layer reads (R362 to R369): an HBM picture, by its first line and by the first line of its second plane, if it has one. -/
structure Surface where
  base : Nat
  fmt : Nat
  w : Nat
  h : Nat
  pitch : Nat
  second : Option Nat
  bt2020 : Bool
  narrow : Bool
  deriving DecidableEq, Repr

/-- Formats accepted for a source kind (R362). -/
def kindAccepts (kind fmt : Nat) : Bool :=
  match kind with
  | 1 => fmt ≤ 6 | 2 => 4 ≤ fmt && fmt ≤ 6 | 3 => fmt ≤ 3 | 4 => fmt = 6 | _ => false

/-- A luma, R, G or B code as a value (R365). -/
def codeValue (narrow : Bool) (n c : Nat) : F32 :=
  if narrow then (((F32.ofNat c).div (F32.ofNat (2 ^ (n - 8)))).sub (F32.ofNat 16)).div (F32.ofNat 219)
  else (F32.ofNat c).div (F32.ofNat (2 ^ n - 1))

/-- A chroma code as a value (R365, R322). -/
def chromaValue (narrow : Bool) (n c : Nat) : F32 :=
  if narrow then (((F32.ofNat c).div (F32.ofNat (2 ^ (n - 8)))).sub (F32.ofNat 128)).div (F32.ofNat 224)
  else ((F32.ofNat c).sub (F32.ofNat (2 ^ (n - 1)))).div (F32.ofNat (2 ^ n - 1))

namespace State

/-- A DISP field in effect (R136, R370). -/
def dsp (s : State) (d : Fld) (ix : List Nat := []) : Nat := s.eff s.disp.epoch d ix
def dspRd (s : State) (r : Reg) (ix : List Nat := []) : Nat := s.effRd s.disp.epoch r ix

def modLayer (s : State) (n : Nat) (f : LayerSt → LayerSt) : State := { s with disp := { s.disp with layers := modNth s.disp.layers n f } }

def raster (s : State) : Option Raster := if s.dispOn then rasterOf (s.dsp Fl.DISP_CTRL_raster) else none

/-- A slot by its descriptor (R324). -/
def slotSurface (s : State) (base : Nat) : Surface :=
  let d := s.hbmRead base 64
  let second := fieldLe d 44 4
  ⟨base + 4096, fieldLe d 32 1, fieldLe d 36 2, fieldLe d 38 2, fieldLe d 40 4, if second = 0 then none else some (base + second), fieldLe d 50 1 = 9, fieldLe d 51 1 = 1⟩

/-- What layer `n` shows, if anything; the second result says that its format is not accepted (R364). -/
def layerSurface (s : State) (n : Nat) : Option Surface × Bool :=
  let l := s.layer n
  if l.kind = 3 then
    let fmt := s.dsp Fl.DISP_L_SURFFMT_fmt [n]
    if kindAccepts 3 fmt then
      (some ⟨s.dspRd R.DISP_L_SURF_LO [n] + 2 ^ 32 * s.dspRd R.DISP_L_SURF_HI [n], fmt, s.dsp Fl.DISP_L_SURFWH_x_or_w [n],
        s.dsp Fl.DISP_L_SURFWH_y_or_h [n], s.dsp Fl.DISP_L_SURFFMT_pitch [n], none, false, false⟩, false)
    else (none, true)
  else match l.shown with
    | some f =>
      let q := s.slotSurface f.base
      if kindAccepts l.kind q.fmt then (some q, false) else (none, true)
    | none => (none, false)

/-- A 10-bit sample of a line (R323). -/
def sample10 (s : State) (line i : Nat) : Nat := leNat (s.hbmRead (line + i / 3 * 4) 4) / 1024 ^ (i % 3) % 1024

/-- A layer pixel: its colour and its alpha (R365). -/
def surfacePixel (s : State) (q : Surface) (x y : Nat) : Rgb × F32 :=
  let one := F32.ofNat 1
  let line := q.base + y * q.pitch
  match q.fmt with
  | 0 =>
    let v := leNat (s.hbmRead (line + 2 * x) 2)
    (⟨codeValue false 5 (v / 2048), codeValue false 6 (v / 32 % 64), codeValue false 5 (v % 32)⟩, one)
  | 1 =>
    let v := leNat (s.hbmRead (line + 3 * x) 3)
    (⟨codeValue q.narrow 8 (v / 65536), codeValue q.narrow 8 (v / 256 % 256), codeValue q.narrow 8 (v % 256)⟩, one)
  | 2 =>
    let v := leNat (s.hbmRead (line + 4 * x) 4)
    (⟨codeValue q.narrow 8 (v / 65536 % 256), codeValue q.narrow 8 (v / 256 % 256), codeValue q.narrow 8 (v % 256)⟩,
      (F32.ofNat (v / 2 ^ 24)).div (F32.ofNat 255))
  | 3 =>
    let v := leNat (s.hbmRead (line + 4 * x) 4)
    (⟨codeValue q.narrow 10 (v / 2 ^ 20 % 1024), codeValue q.narrow 10 (v / 1024 % 1024), codeValue q.narrow 10 (v % 1024)⟩,
      (F32.ofNat (v / 2 ^ 30)).div (F32.ofNat 3))
  | _ =>
    let n := if q.fmt = fmtYC420P8 then 8 else 10
    let cy := if q.fmt = fmtYC422P10 then y else y / 2
    let at_ (l i : Nat) : Nat := if n = 8 then (s.hbmByte (l + i)).toNat else s.sample10 l i
    let c (i : Nat) : F32 := match q.second with
      | some a => chromaValue q.narrow n (at_ (a + cy * q.pitch) (x / 2 * 2 + i))
      | none => F32.zero
    (ofYc q.bt2020 ⟨codeValue q.narrow n (at_ line x), c 0, c 1⟩, one)

/-- A composed raster pixel (R363, R365, R372). -/
def composePixel (s : State) (ls : List (Option Surface)) (x y : Nat) : Rgb :=
  let bg := s.dspRd R.DISP_BG
  let c0 : Rgb := ⟨codeValue false 10 (bg / 2 ^ 20 % 1024), codeValue false 10 (bg / 1024 % 1024), codeValue false 10 (bg % 1024)⟩
  (List.range 4).foldl (fun (c : Rgb) n =>
    match ls.getD n none with
    | none => c
    | some q =>
      let z := if s.dsp Fl.DISP_L_CTRL_zoom [n] = 1 then 2 else 1
      let lx : Int := (x : Int) - signed 16 (s.dsp Fl.DISP_L_POS_x_or_w [n])
      let ly : Int := (y : Int) - signed 16 (s.dsp Fl.DISP_L_POS_y_or_h [n])
      let blanked : Bool := (s.layer n).blank.any fun b => b ≤ y
      if lx < 0 || ly < 0 || ((q.w * z : Nat) : Int) ≤ lx || ((q.h * z : Nat) : Int) ≤ ly || blanked then c
      else
        let p := s.surfacePixel q (lx.toNat / z) (ly.toNat / z)
        let a := ((F32.ofNat (s.dsp Fl.DISP_L_CTRL_galpha [n])).div (F32.ofNat 255)).mul p.2
        let one := F32.ofNat 1
        Rgb.zip (fun v w => (a.mul v).add ((one.sub a).mul w)) p.1 c) c0

/-- The composed raster. -/
def composed (s : State) (r : Raster) : Nat → Nat → Rgb :=
  let ls := (List.range 4).map fun n => (s.layerSurface n).1
  let arr := (Array.range (r.w * r.h)).map fun i => s.composePixel ls (i % r.w) (i / r.w)
  fun x y => arr.getD (y * r.w + x) ⟨.zero, .zero, .zero⟩

/-- The 2:1 down-conversion (R373): the mean of 2 × 2 pixels. -/
def halved (v : Nat → Nat → Rgb) (x y : Nat) : Rgb :=
  let add (a b : Rgb) : Rgb := Rgb.zip F32.add a b
  (add (add (v (2 * x) (2 * y)) (v (2 * x + 1) (2 * y))) (add (v (2 * x) (2 * y + 1)) (v (2 * x + 1) (2 * y + 1)))).map
    fun q => q.div (F32.ofNat 4)

/-- DISP_On_STAT.link shows the links that run (R373, R374). -/
def linkShow (s : State) : State :=
  (List.range 8).foldl (fun (t : State) o =>
    let l := match t.raster with
      | some r => if t.dsp Fl.DISP_O_CTRL_enable [o] = 1 && t.graph.portOn 7 o then sdiLink r (t.dsp Fl.DISP_O_CTRL_down [o] = 1) else 0
      | none => 0
    t.put Fl.DISP_O_STAT_link [o] l) s

/-- Audio group `g` of output `o` in a display frame (R503). -/
def embedAudio (s : State) (rate o g : Nat) : State :=
  let i := 8 * o + g
  let f := s.aud.cadence.getD i 0
  let n := embedCount rate f
  let port := s.dev Fl.AUD_EMB_port [g]
  let r := embedFrame n (s.dev Fl.AUD_EMB_en [g] = 1 && s.audRunning port && s.audCode port = 2) (s.aud.groups.getD i Elastic.init)
  let s := s.modAud fun x => { x with
    groups := x.groups.set i r.2
    cadence := x.cadence.set i (f + 1) }
  s.emit (.audio (16 + i) (r.1.flatMap fun four => four.flatMap fun w => leBytes 4 w))

/-- The SDI outputs carry a display frame (R373 to R375). -/
def sdiOut (s : State) (r : Raster) (v : Nat → Nat → Rgb) : State :=
  (List.range 8).foldl (fun (t : State) o =>
    if t.dsp Fl.DISP_O_CTRL_enable [o] = 0 || !t.graph.portOn 7 o then t
    else
      let down : Bool := t.dsp Fl.DISP_O_CTRL_down [o] = 1
      let w := if down then r.w / 2 else r.w
      let h := if down then r.h / 2 else r.h
      let mtx := t.dsp Fl.DISP_O_CTRL_mtx [o]
      let p := packFrame fmtYC422P10 true (mtx = 1) 0 w h (if down then halved v else v)
      let link := sdiLink r down
      let groups := t.dsp Fl.DISP_O_CTRL_audio [o] % (if link ≤ 2 then 16 else 256)
      let t := t.emit (.sdi o link mtx (t.dsp Fl.DISP_O_CTRL_xfer [o]) groups (p.first ++ p.second).flatten)
      (List.range 8).foldl (fun (u : State) g => if bit groups g then u.embedAudio r.rate o g else u) t) s

/-! ### DISP epochs (R370) -/

def tDs : Nat := 250000

/-- A vertical blanking opens: DISP epochs that are early enough apply; the others are late. -/
def dispEpochs (s : State) : State :=
  let now := s.dt
  let ready := s.disp.due.takeWhile fun d => d.2.1 + tDs ≤ now
  let rest := s.disp.due.dropWhile fun d => d.2.1 + tDs ≤ now
  let missed := rest.filter fun d => d.2.2.isNone
  let s := if missed.isEmpty then s else
    (s.put Fl.DISP_STAT_commit_late [] 1).inc Fl.DISP_STAT_late_count [] missed.length
  let rest := rest.map fun d => (d.1, d.2.1, d.2.2.orElse fun _ => some ((now - d.2.1) / 1000))
  let s : State := { s with disp := { s.disp with due := rest, fresh := !ready.isEmpty, epoch := (ready.getLast?.map fun d => d.1).getD s.disp.epoch } }
  ready.foldl (fun (t : State) d =>
    match d.2.2 with
    | some us => t.raise ⟨0x00B1, srcDISP, 0, d.1, noFrame, t.dt, us % 65536, 0⟩
    | none => t) s

/-! ### Latching (R366 to R368) -/

/-- Device time at which the next display frame starts, seen from the opening of the blanking. -/
def nextStart (s : State) (r : Raster) : Nat :=
  let q := rateND r.rate
  s.dt + q.2 * 1000000000 * r.blank / (q.1 * r.total)

/-- A layer takes the newest published slot of its producer (R367). -/
def latchPub (s : State) (n : Nat) (pub : List PubFrame) (mark : State → PubFrame → State) : State :=
  match pub.getLast? with
  | some f =>
    let newer_ : Bool := match (s.layer n).shown with | some g => decide (g.k < f.k) | none => true
    if newer_ then
      let s := mark s f
      (s.modLayer n fun l => { l with shown := some f, changed := true }).wr64 R.DISP_L_LASTFID_LO R.DISP_L_LASTFID_HI [n] f.fid
    else s
  | none => s

/-- A layer takes a picture of the decode core (R368). -/
def latchDec (s : State) (n : Nat) (r : Raster) : State :=
  let at_ := s.nextStart r
  let okay := s.dec.out.filter fun o => o.pts = 2 ^ 64 - 1 || o.pts ≤ at_
  match okay.getLast? with
  | none => s
  | some o =>
    let shown := (s.layer n).shown.map fun f => f.k
    if shown = some o.k then s
    else
      let past := s.dec.out.takeWhile fun q => q.k ≠ o.k
      let skipped := (past.filter fun q => some q.k ≠ shown).length
      let s : State := { s with dec := { s.dec with out := s.dec.out.dropWhile fun q => q.k ≠ o.k } }
      let s := s.inc Fl.DISP_L_CNT_skipped [n] skipped
      (s.modLayer n fun l => { l with shown := some ⟨o.slot, o.k, o.k, s.disp.epoch, o.pts, o.base, []⟩, changed := true }).wr64
        R.DISP_L_LASTFID_LO R.DISP_L_LASTFID_HI [n] o.k

def markLatched (n : Nat) (f : PubFrame) (l : List PubFrame) : List PubFrame :=
  l.map fun q => if q.k = f.k then { q with latched := n :: q.latched } else q

/-- Layer `n` latches its source under the settings now in effect. -/
def latchLayer (s : State) (n : Nat) (r : Raster) : State :=
  let kind := s.dsp Fl.DISP_L_CTRL_kind [n]
  let index := s.dsp Fl.DISP_L_CTRL_index [n]
  let moved : Bool := (s.layer n).kind ≠ kind || (s.layer n).index ≠ index
  let s := s.modLayer n fun l => { l with kind := kind, index := index, shown := if moved then none else l.shown, changed := moved }
  let s := match kind with
    | 1 => s.latchPub n (s.outf index).pub fun t f => t.modOutf index fun x => { x with pub := markLatched n f x.pub }
    | 2 => s.latchDec n r
    | 4 => s.latchPub n ((s.disp.sdi.getD index SdiSt.init).pub) fun t f =>
        { t with disp := { t.disp with sdi := modNth t.disp.sdi index fun x => { x with pub := markLatched n f x.pub } } }
    | _ => s
  let s := if (s.layerSurface n).2 then s.put Fl.DISP_L_STAT_fmt_bad [n] 1 else s
  s.put Fl.DISP_L_STAT_held [n] (b2n (s.layer n).shown.isSome)

/-- Slots of an SDI input that layers hold. -/
def sdiHeld (s : State) (i : Nat) : List Nat :=
  s.disp.layers.filterMap fun l => if l.kind = 4 && l.index = i then l.shown.map fun f => f.slot else none

/-- An SDI input writes a received frame (R381). What the spec does not give of its descriptor is free. -/
def sdiFrame (s : State) (i : Nat) (f : SdiFrame) : State :=
  if !(s.powered .disp && s.graph.portOn 8 i) then s
  else
    let s := s.inc Fl.DISP_I_CRC_count [i] f.crcErrors
    if s.dsp Fl.DISP_I_CTRL_enable [i] = 0 then s
    else if !f.payloadOk then s.put Fl.DISP_I_STAT_payload_bad [i] 1
    else
      let x := s.disp.sdi.getD i SdiSt.init
      let slots := s.dsp Fl.DISP_I_CTRL_slots [i]
      let stride := s.dsp Fl.DISP_I_STRIDE_stride [i] * 4096
      let pitch := pitchOf 0 fmtYC422P10 f.width
      let held := s.sdiHeld i
      match ((List.range slots).map fun k => (x.next + k) % slots).find? fun k => !(held.contains k) with
      | none => s
      | some slot =>
        if stride < 4096 + 2 * f.height * pitch then s
        else
          let s := (x.pub.filter fun q => q.slot = slot).foldl (fun (t : State) q => t.slotReused 4 i q) s
          let base := s.dspRd R.DISP_I_BUF_LO [i] + 2 ^ 32 * s.dspRd R.DISP_I_BUF_HI [i] + slot * stride
          let a := s.fresh
          let b := a.2.fresh
          let d : SlotDesc := ⟨2 * x.k + 2, x.k, b.2.disp.epoch, 0, a.1 % 2 ^ 64, fmtYC422P10, 0xFF, 0xFF, 1, f.width, f.height, pitch,
            4096 + f.height * pitch, b.1 % 256, b.1 / 256 % 256, if f.bt2020 then 9 else 1, 1⟩
          let line (l : List Nat) (k : Nat) : Bytes := pack10 ((l.drop (k * f.width)).take f.width)
          let s := b.2.hbmWrite base (leBytes 8 (2 * x.k + 1))
          let s := (List.range f.height).foldl (fun (t : State) k =>
            (t.hbmWrite (base + 4096 + k * pitch) (line f.luma k)).hbmWrite (base + 4096 + (f.height + k) * pitch) (line f.chroma k)) s
          let s := s.hbmWrite base d.encode
          { s with disp := { s.disp with sdi := modNth s.disp.sdi i fun y =>
              ⟨y.k + 1, (slot + 1) % slots, (y.pub.filter fun q => q.slot ≠ slot) ++ [⟨slot, x.k, x.k, s.disp.epoch, d.time, base, []⟩]⟩ } }

end State

/-- The lock source in effect, and whether it can lock a raster: an SDI input must be locked and carry the raster's rate (R360). -/
def State.lockable (s : State) (r : Raster) : Bool :=
  match s.dsp Fl.DISP_CTRL_lock with
  | 0 => false
  | 1 => true
  | n => s.flag Fl.DISP_I_STAT_locked [n - 2] && (rasterOf (s.get Fl.DISP_I_STAT_format [n - 2])).any fun q => q.rate = r.rate

/-- A raster that is locked to TB3 starts its frame at the next grid instant plus DISP_VPHASE (R360, log 35). -/
def State.frameInstant (s : State) (r : Raster) : State :=
  if s.dsp Fl.DISP_CTRL_lock = 1 && s.flag Fl.DISP_STAT_locked then
    let phase : Int := signed 32 (s.dspRd R.DISP_VPHASE) * (2 ^ 32 : Nat)
    let now : Int := (s.tbFine 3 : Nat) - phase
    let k := match s.disp.grid with
      | some n => max (n + 1) (gridDown r.rate now.toNat)
      | none => gridUp r.rate now.toNat
    let s := s.reach 4 ((gridAt r.rate k : Nat) + phase).toNat 32
    { s with disp := { s.disp with grid := some k } }
  else { s with disp := { s.disp with grid := none } }

/-- DISPLAY_FRAME_START (R359, R360). -/
def execDisplayFrameStart (s : State) : Res :=
  match s.raster with
  | none => .next s
  | some r =>
  if !s.disp.running && s.powered .disp then
    let s := s.frameInstant r
    let s : State := { s with disp := { s.disp with running := true, layers := s.disp.layers.map fun l => { l with under := l.blank.isSome, blank := none } } }
    .next ((s.inc Fl.DISP_FRAMES_count).linkShow)
  else .next s

/-- EV_DISP_LOCK (R361): the lock reference is lost or returns. A reference that cannot lock the raster counts as lost (R360). -/
def execEvDispLock (locked : Bool) (s : State) : Res :=
  if s.flag Fl.DISP_STAT_locked = locked || !(s.powered .disp) || !(s.raster.any fun r => !locked || s.lockable r) then .next s
  else
    let s := s.put Fl.DISP_STAT_locked [] (b2n locked)
    let s := if locked then s else s.put Fl.DISP_STAT_lock_lost [] 1
    .next (s.ev 0x00B2 srcDISP 0 (b2n locked))

/-- EV_DISP_UNDERRUN (R371, R372); a layer that runs dry counts as a real-time miss (R393). -/
def execEvDispUnderrun (n line : Nat) (poison : Bool) (s : State) : Res :=
  if n < 4 ∧ s.disp.running ∧ (s.layer n).blank.isNone ∧ (s.layerSurface n).1.isSome then
    let s := s.modLayer n fun l => { l with blank := some line }
    let s := (s.put Fl.DISP_L_STAT_underrun [n] 1).inc Fl.DISP_L_CNT_underruns [n]
    let s := if poison then s else s.inc Fl.HBMC_RTMISS_count
    .next (s.evLimited 0x00B0 srcDISP n s.disp.epoch noFrame (line % 4096 + 4096 * b2n poison + 2 ^ 32))
  else .next s

/-- SDI_INPUT_FRAME (R381). -/
def execSdiInputFrame (i : Nat) (f : SdiFrame) (s : State) : Res := .next (if i < 2 then s.sdiFrame i f else s)

/-- EV_SDI_IN (R381): an input loses or gains lock. -/
def execEvSdiIn (i : Nat) (locked : Bool) (std _transfer : Nat) (s : State) : Res :=
  if i < 2 ∧ s.powered .disp ∧ s.graph.portOn 8 i ∧ s.flag Fl.DISP_I_STAT_locked [i] ≠ locked then
    let s := (s.put Fl.DISP_I_STAT_locked [i] (b2n locked)).put Fl.DISP_I_STAT_format [i] (if locked then std else 0)
    let s := if locked then s else s.put Fl.DISP_I_STAT_lock_lost [i] 1
    .next (s.ev 0x00B3 srcDISP i (b2n locked + if locked then 256 * (std % 256) else 0))
  else .next s

end Sys2Proof.Machine
end

