-- ==== Sys2Proof/Machine/Dsi.lean ====
section
/-! DEFINITION. The DSI ports (R376 to R380) and the vertical blanking, which ends a display frame (R366). -/

namespace Sys2Proof.Machine

namespace State

def dsi (s : State) (d : Nat) : DsiSt := s.disp.dsi.getD d DsiSt.init
def modDsi (s : State) (d : Nat) (f : DsiSt → DsiSt) : State := { s with disp := { s.disp with dsi := modNth s.disp.dsi d f } }

/-- A port that runs: its record, its power and its enable (R92, R376). -/
def dsiOn (s : State) (d : Nat) : Bool := s.powered .disp && s.graph.portOn 9 d && s.dsp Fl.DISP_D_CTRL_enable [d] = 1

/-- Bytes of a pixel and of a window. -/
def dsiPixel (s : State) (d : Nat) : Nat := if s.dsp Fl.DISP_D_CTRL_fmt [d] = 1 then 2 else 3
def dsiSize (s : State) (d : Nat) : Nat := s.dsp Fl.DISP_D_SIZE_x_or_w [d] * s.dsp Fl.DISP_D_SIZE_y_or_h [d] * s.dsiPixel d

/-- Plan address of a write-back buffer (R377). -/
def dsiBuf (s : State) (d b : Nat) : Nat :=
  s.dspRd R.DISP_D_FB_LO [d] + 2 ^ 32 * s.dspRd R.DISP_D_FB_HI [d] + b * roundUp (s.dsiSize d) 4096

def dsiBusy (s : State) (d : Nat) : State :=
  s.put Fl.DISP_D_STAT_busy [d] (b2n ((s.dsi d).xfer.isSome || (s.dsi d).turn))

def dsiErr (s : State) (d cause report : Nat) : State :=
  s.evLimited 0x00B4 srcDISP d s.disp.epoch noFrame (cause + 2 ^ 16 * (report % 65536) + 2 ^ 32)

/-- A transfer of the newest completed buffer starts (R378): each line is one DCS long write. -/
def dsiStart (s : State) (d : Nat) : State :=
  let x := s.dsi d
  match x.done with
  | none => s
  | some b =>
    if x.xfer.isSome then s
    else if x.turn then s.modDsi d fun y => { y with due := true }
    else
      let s := s.modDsi d fun y => { y with done := none, xfer := some b, due := false }
      let w := s.dsp Fl.DISP_D_SIZE_x_or_w [d] * s.dsiPixel d
      let base := s.dsiBuf d b
      let s := (List.range (s.dsp Fl.DISP_D_SIZE_y_or_h [d])).foldl (fun (t : State) y =>
        t.emit (.dsi d (leBytes 1 0x39 ++ leBytes 2 (w + 1) ++ leBytes 1 (if y = 0 then 0x2C else 0x3C) ++ t.hbmRead (base + y * w) w))) s
      s.dsiBusy d

/-- Does a transfer start without a tearing-effect edge (R378). -/
def dsiFree (s : State) (d : Nat) : Bool := s.dsp Fl.DISP_D_CTRL_te_en [d] = 0 || (s.dsi d).lost

/-- A command's packet goes out (R379); data types with a low nibble of 9 or more are long packets (MIPI DSI; log 23). -/
def dsiPacket (s : State) (d : Nat) : State :=
  let dt := s.get Fl.DISP_D_CMD_dt [d]
  let len := s.get Fl.DISP_D_CMD_length [d]
  let data := (List.range 4).flatMap fun j => leBytes 4 (s.rd R.DISP_D_CMDDATA [d, j])
  let b := if 9 ≤ dt % 16 then leBytes 1 dt ++ leBytes 2 len ++ data.take len else leBytes 1 dt ++ data.take 2
  let s := (s.emit (.dsi d b)).modDsi d fun x => { x with wait := false, turn := s.flag Fl.DISP_D_CMD_read [d] }
  (if s.flag Fl.DISP_D_CMD_read [d] then s else s.put Fl.DISP_D_CMD_go [d] 0).dsiBusy d

/-- A write to DISP_Dd_CMD (R379, R34). -/
def dsiCmd (s : State) (d v : Nat) : State :=
  let s := s.writeFields ⟨R.DISP_D_CMD, [Fl.DISP_D_CMD_lp, Fl.DISP_D_CMD_read, Fl.DISP_D_CMD_length, Fl.DISP_D_CMD_dt]⟩ [d] v
  if bit v 31 && !(s.flag Fl.DISP_D_CMD_go [d]) then
    let s := s.put Fl.DISP_D_CMD_go [d] 1
    if (s.dsi d).xfer.isSome then s.modDsi d fun x => { x with wait := true } else s.dsiPacket d
  else s

/-- A command that turned the bus around ends (R379). -/
def dsiCmdEnd (s : State) (d : Nat) : State :=
  let s := (s.put Fl.DISP_D_CMD_go [d] 0).modDsi d fun x => { x with turn := false }
  (if (s.dsi d).due then s.dsiStart d else s).dsiBusy d

/-! ### Write-back and calm mode (R377, R380) -/

/-- Is the display frame that ends unchanged. -/
def frameStill (s : State) : Bool :=
  !s.disp.fresh && (List.range 4).all fun n =>
    let l := s.layer n
    !l.changed && l.blank.isNone && !l.under && !(l.kind = 3 && s.dsp Fl.DISP_L_CTRL_static [n] = 0)

/-- The window of a port, packed (R376, R322, R323). -/
def dsiWindow (s : State) (d : Nat) (v : Nat → Nat → Rgb) : Bytes :=
  let v := if s.dsp Fl.DISP_D_CTRL_down [d] = 1 then halved v else v
  let x0 := s.dsp Fl.DISP_D_WIN_x_or_w [d]
  let y0 := s.dsp Fl.DISP_D_WIN_y_or_h [d]
  (packFrame (if s.dsiPixel d = 2 then fmtPK16 else fmtPK24) false false 0 (s.dsp Fl.DISP_D_SIZE_x_or_w [d])
    (s.dsp Fl.DISP_D_SIZE_y_or_h [d]) fun x y => v (x0 + x) (y0 + y)).first.flatten

/-- The end of a display frame's active picture at a DSI port. -/
def dsiFrameEnd (s : State) (d : Nat) (v : Nat → Nat → Rgb) : State :=
  if !s.dsiOn d then s
  else if s.frameStill then
    let s := (s.put Fl.DISP_D_STAT_calm [d] 1).modDsi d fun x => { x with still := x.still + 1 }
    if s.dsp Fl.DISP_D_CTRL_ulps [d] = 1 && s.dsp Fl.DISP_D_CALM_value [d] ≤ (s.dsi d).still && (s.dsi d).xfer.isNone then
      s.put Fl.DISP_D_STAT_ulps [d] 1 else s
  else
    let s := ((s.put Fl.DISP_D_STAT_calm [d] 0).put Fl.DISP_D_STAT_ulps [d] 0).modDsi d fun x => { x with still := 0 }
    let x := s.dsi d
    if x.xfer = some x.next then s.inc Fl.DISP_D_CNT_dropped [d]
    else
      let s := if x.done.isSome then s.inc Fl.DISP_D_CNT_dropped [d] else s
      let s := s.hbmWrite (s.dsiBuf d x.next) (s.dsiWindow d v)
      let s := s.modDsi d fun y => { y with done := some y.next, next := 1 - y.next }
      if s.dsiFree d then s.dsiStart d else s

/-- Pictures of the decode core that no layer holds any more are released (R368). -/
def decRelease (s : State) : State :=
  if s.disp.layers.any fun l => l.kind = 2 then s else { s with dec := { s.dec with out := [] } }

/-- DISP stops: its layers hold nothing. -/
def dispStop (s : State) : State :=
  let s : State := { s with disp := { s.disp with layers := s.disp.layers.map fun _ => LayerSt.init, grid := none } }
  (List.range 4).foldl (fun (t : State) n => t.put Fl.DISP_L_STAT_held [n] 0) (s.put Fl.DISP_STAT_locked [] 0)

/-- Vertical blanking opens (R366): the display frame ends, DISP epochs apply, the layers latch. -/
def vblank (s : State) : State :=
  match s.raster with
  | none => s
  | some r =>
    let s := if !s.disp.running then s else
      let v := s.composed r
      let s := s.sdiOut r v
      let s := (s.dsiFrameEnd 0 v).dsiFrameEnd 1 v
      { s with disp := { s.disp with running := false } }
    let s := s.dispEpochs
    match s.raster with
    | some r => ((List.range 4).foldl (fun (t : State) n => t.latchLayer n r) s).decRelease.linkShow
    | none => s.dispStop.decRelease.linkShow

end State

/-- VBLANK_LATCH (R366). -/
def execVblankLatch (s : State) : Res := .next (if s.powered .disp then s.vblank else s)

/-- DSI_TRANSFER_START (R378): a tearing-effect edge. -/
def execDsiTransferStart (d : Nat) (s : State) : Res :=
  if d < 2 ∧ s.dsiOn d ∧ s.dsp Fl.DISP_D_CTRL_te_en [d] = 1 then
    .next ((s.modDsi d fun x => { x with lost := false }).dsiStart d)
  else .next s

/-- DSI_TRANSFER_END (R378, R379): a command that waited runs before the next transfer. -/
def execDsiTransferEnd (d : Nat) (s : State) : Res :=
  if d < 2 ∧ (s.dsi d).xfer.isSome then
    let s := (s.modDsi d fun x => { x with xfer := none }).inc Fl.DISP_D_CNT_sent [d]
    let s := if (s.dsi d).wait then s.dsiPacket d else s
    .next ((if s.dsiFree d then s.dsiStart d else s).dsiBusy d)
  else .next s

/-- TE_LOST (R378). -/
def execTeLost (d : Nat) (s : State) : Res :=
  if d < 2 ∧ s.dsiOn d ∧ s.dsp Fl.DISP_D_CTRL_te_en [d] = 1 ∧ ¬(s.dsi d).lost then
    let s := (s.put Fl.DISP_D_STAT_te_lost [d] 1).dsiErr d 3 0
    .next ((s.modDsi d fun x => { x with lost := true }).dsiStart d)
  else .next s

/-- DSI_COMMAND (R379). -/
def execDsiCommand (d v : Nat) (s : State) : Res := .next (if d < 2 then s.onUnit .disp fun t => t.dsiCmd d v else s)

/-- DSI_READ_RESPONSE (R379): the panel's response, or an acknowledge-and-error report. -/
def execDsiReadResponse (d : Nat) (data : Bytes) (report : Nat) (s : State) : Res :=
  if d < 2 ∧ (s.dsi d).turn then
    let s := (s.wr R.DISP_D_RESP0 [d] (fieldLe data 0 4)).wr R.DISP_D_RESP1 [d] (fieldLe data 4 4)
    let s := s.put Fl.DISP_D_STAT_resp_len [d] (min data.length 8)
    let s := if report = 0 then s else (s.put Fl.DISP_D_STAT_cmd_err [d] 1).dsiErr d 1 report
    .next (s.dsiCmdEnd d)
  else .next s

/-- DSI_RESPONSE_TIMEOUT (R379). -/
def execDsiResponseTimeout (d : Nat) (s : State) : Res :=
  if d < 2 ∧ (s.dsi d).turn then .next (((s.put Fl.DISP_D_STAT_cmd_err [d] 1).dsiErr d 2 0).dsiCmdEnd d) else .next s

end Sys2Proof.Machine
end

