-- ==== Sys2Proof/Machine/Health.lean ====
section
/-! DEFINITION. Detected errors and stripe replay (R533, R537 to R542), and the HLT commands (R544). -/

namespace Sys2Proof.Machine

/-- The unit of a tile class. -/
def classUnit : Nat → FlowUnit
  | 1 => .rct
  | 2 => .rcu
  | _ => .dvt

namespace State

/-- The frame whose stripe an error of a tile hits: the oldest of the tile's pipeline that has not left the tile's unit and for
which the tile still owes its stripe (log 25). -/
def errorFrame (s : State) (p cls tile : Nat) : Option Frame :=
  let u := classUnit cls
  s.frames.find? fun f => f.pipe = p && f.units.contains u && (!(f.entered.contains u) || f.owes.contains (cls, tile))
    && !(s.replaying cls tile f.fid)

/-- The tile that recomputes a stripe (R538, R540): the spare while it is free, else the faulty tile. -/
def replayRunner (s : State) (cls tile : Nat) : Nat :=
  let spare := s.get (spareFld cls)
  if spare = 0xFF || s.hlt.replays.any fun r => r.cls = cls && r.runner = spare then tile else spare

/-- A stripe is lost to an error: it is replayed in a protected pipeline (R537), and left undefined in another (R540). -/
def stripeError (s : State) (cls tile : Nat) : State :=
  match s.tilePipe cls tile with
  | none => s
  | some p =>
    match s.errorFrame p cls tile with
    | none => s
    | some f =>
      let prot : Bool := ((s.graph.pipe? p).map fun r => r.prot).getD false
      let run := s.replayRunner cls tile
      let r : Replay := ⟨p, cls, tile, f.fid, run⟩
      if prot then
        ((s.modHlt fun x => { x with replays := x.replays ++ [r] }).showBusy cls run).ev 0x4121 srcHLT (tileInst cls tile) (p + 256 * tileInst cls run)
      else s.leaveUndefined r true

/-- A detected error (R533): its gust counter, and the replay of the stripe that it hit. -/
def healthErr (s : State) (kind inst cls tile : Nat) : State :=
  if 256 ≤ inst || 11 ≤ kind then s
  else
    let s := if kind = kindTileChk || kind = kindTileUe then s.stripeError (inst / 16 + 1) (inst % 16)
      else if kind = kindXwPar && 1 ≤ cls && cls ≤ 3 then s.stripeError cls tile else s
    s.gustFeed kind inst

/-- The tile's stripe of a frame is produced by the tile `run`. -/
def runTile (s : State) (cls tile run fid : Nat) : State :=
  match cls with
  | 1 => s.rctFrame tile run fid
  | 2 => s.rcuFrame tile run fid
  | _ => s.dvtFrame tile run fid

/-- A replay finishes (R538 to R540): its output is what a fault-free tile would have produced, or the stripe stays undefined. -/
def replayEnd (s : State) (cls tile : Nat) (good : Bool) : State :=
  match s.hlt.replays.find? fun r => r.cls = cls && (r.tile = tile || r.runner = tile) with
  | none => s
  | some r =>
    let s := if good then
        (s.modHlt fun x => { x with replays := x.replays.filter fun q => q ≠ r }).inc Fl.HLT_REPLAYS_count
      else s.unrepaired r
    (s.runTile r.cls r.tile r.runner r.fid).showBusy r.cls r.runner

/-- A write to HLT_CMD: `op` and `tile` are fields of it. -/
def hltFields (s : State) (v : Nat) : State := s.writeFields ⟨R.HLT_CMD, [Fl.HLT_CMD_op, Fl.HLT_CMD_tile]⟩ [] v

/-- HLT_CMD op 1: the failed pair is tested and, if it passes, becomes the standby (R544). -/
def testPair (s : State) (v : Nat) (pass : Bool) : State :=
  let s := s.hltFields v
  if bit v 31 && s.get Fl.HLT_CMD_op = 1 && s.hlt.failedPair && pass then
    (s.modHlt fun x => { x with failedPair := false }).put Fl.HLT_SPARE_pair_ready [] 1
  else s

/-- HLT_CMD op 2: the retired mark of a tile clears in MRAM persistent settings, and HLT_RETIRED shows them (R542). -/
def clearMark (s : State) (v : Nat) : State :=
  let s := s.hltFields v
  let t := s.get Fl.HLT_CMD_tile
  if bit v 31 && s.get Fl.HLT_CMD_op = 2 && t < 48 then
    let d := retiredFld (t / 16 + 1)
    let old := s.get d
    let s := if bit old (t % 16) then s.put d [] (old - 2 ^ (t % 16)) else s
    { s with nv := { s.nv with retired := s.rd R.HLT_RETIRED } }
  else s

end State

/-- HEALTH_ERROR (R533, R537). -/
def execHealthError (kind inst cls tile : Nat) (s : State) : Res := .next (s.healthErr kind inst cls tile)

/-- REPLAY_COMPLETE (R538 to R540). -/
def execReplayComplete (cls tile : Nat) (good : Bool) (s : State) : Res := .next (s.replayEnd cls tile good)

/-- TEST_FAILED_PAIR (R544). -/
def execTestFailedPair (v : Nat) (pass : Bool) (s : State) : Res := .next (s.onUnit .hlt fun s => s.testPair v pass)

/-- CLEAR_RETIRED_MARK (R542). -/
def execClearRetiredMark (v : Nat) (s : State) : Res := .next (s.onUnit .hlt fun s => s.clearMark v)

end Sys2Proof.Machine
end

