-- ==== Sys2Proof/Machine/HostRead.lean ====
section
/-! DEFINITION. LO_READ_LATCH: a read by a requester of a register, of a structure in BAR4 or in configuration space, or, by the
offload host, of the offload function (R22 to R27, R30, R412, R414, R415). A read of a _LO register latches its _HI half; a read with
a side effect of its own has it. -/

namespace Sys2Proof.Machine

namespace State

/-- The DATA register of a FIFO that a register is. -/
def fifoReg (r : Reg) : Option FifoPort :=
  if r = R.LSP_I_DATA then some .i2c else if r = R.LSP_SPI_DATA then some .spi else if r = R.LSP_U_DATA then some .uart else none

/-- An aligned 32-bit read of a live BAR0 offset by requester `rq` (R26, R27, R30, R41, R507): its value, and its side effects. -/
def regRead (rq : Nat) (s : State) (off : Nat) : Nat × State :=
  if !s.reaches (blockOf off) then (0xFFFFFFFF, s.onUnit (blockOf off) id)
  else
    match findReg off with
    | none => (0, s)
    | some (row, ix) =>
      let n := ix.headD 0
      if row.reg = R.ORD_SEM_ACQ then
        let t := s.semJudge n [rq] [] []
        (t.semWord n rq false, t)
      else
        match fifoReg row.reg with
        | some f => (s.fifoWord f n, s.fifoTake f n)
        | none =>
          match findPair false off with
          | some (_, hi, jx) => (s.readLive off, s.latchHi rq (hi.off + instOffset hi.dims jx))
          | none => (if (findPair true off).isSome then s.readHi rq off else s.readLive off, s)

/-- The message of a table's dword `k`: its vector control word is masked after reset (PCI Express, log 3). -/
def msixWord (t : RegFile) (k : Nat) : Nat := (lookAt (if k % 4 = 3 then 1 else 0) t k).toNat

/-- A dword of a pending bit array. -/
def pbaWord (l : List Nat) (k : Nat) : Nat := sumOf (fun v => if v / 32 = k then 2 ^ (v % 32) else 0) l.eraseDups

/-- A read of an MSI-X table or pending bit array: aligned accesses of 4 and 8 bytes; others return all-ones (R24). -/
def msixRead (word : Nat → Nat) (off size : Nat) : Nat :=
  if (size = 4 || size = 8) && off % size = 0 then
    word (off / 4) + (if size = 8 then 2 ^ 32 * word (off / 4 + 1) else 0)
  else 2 ^ (8 * size) - 1

/-- A read of BAR4: 0 from doorbells and where nothing stands (R24). -/
def bar4Read (s : State) (off size : Nat) : Nat :=
  if 0x8000 ≤ off && off < 0x9000 then msixRead (msixWord s.msixTable) (off - 0x8000) size
  else if 0x9000 ≤ off && off < 0x9020 then msixRead (pbaWord s.msixPba) (off - 0x9000) size
  else if off % size = 0 then 0 else 2 ^ (8 * size) - 1

/-- What identifies a function in configuration space: device and vendor, class code and revision (R22, R412). -/
def revisionId (s : State) : Nat := 16 * s.get Fl.DEV_ID_major_rev + s.get Fl.DEV_ID_minor_rev

/-- A dword of a function's configuration header (R22, R412): the identity, no interrupt pin, and memory BARs of 64 bits that are not
prefetchable, of the sizes given by dword index 4, 6 or 8. The rest is set up by the host or not given by the spec: free (log 95). -/
def cfgHeader (s : State) (dev cls : Nat) (bar : Nat → Nat) (k : Nat) : Nat :=
  let id := dev * 2 ^ 16 + 0x1F3B
  let any := Config.freeValue s.free % 2 ^ 32
  match k with
  | 0 => id
  | 2 => cls * 256 + s.revisionId
  | 11 => id
  | 15 => any / 2 ^ 16 * 2 ^ 16 + any % 256
  | _ => if bar k ≠ 0 then any / bar k * bar k + 4 else any

/-- Bytes of the host function's BARs by the dword that begins them (R23). -/
def hostBar (k : Nat) : Nat := if k = 4 then 0x4000000 else if k = 6 then 0x1000000 else if k = 8 then 0x10000 else 0

/-- The offload function's one BAR (R412). -/
def oflBar (k : Nat) : Nat := if k = 4 then 0x10000 else 0

/-- A dword of an MSI-X capability: its header with Message Control, the table's place, the pending bit array's (PCI Express, log 3). -/
def msixCap (next vectors : Nat) (mask enable : Bool) (table pba : Nat) (k : Nat) : Nat :=
  match k with
  | 0 => 0x11 + 2 ^ 8 * next + 2 ^ 16 * (vectors - 1) + 2 ^ 30 * b2n mask + 2 ^ 31 * b2n enable
  | 1 => table
  | _ => pba

/-- A dword of the NVMe controller registers (R414, R415). -/
def nvmeReg (s : State) (k : Nat) : Nat :=
  match k with
  | 0 => 4095 + 2 ^ 16 + 20 * 2 ^ 24
  | 1 => 2 ^ 5 + 4 * 2 ^ 20
  | 2 => 0x00020000
  | 3 => s.ofl.intms
  | 4 => s.ofl.intms
  | 5 => s.ofl.cc
  | 7 => s.ofl.csts
  | 9 => s.ofl.aqa
  | 10 => s.ofl.asq % 2 ^ 32
  | 11 => s.ofl.asq / 2 ^ 32 % 2 ^ 32
  | 12 => s.ofl.acq % 2 ^ 32
  | 13 => s.ofl.acq / 2 ^ 32 % 2 ^ 32
  | _ => 0

/-- A read by the offload host of its BAR0 (R414). -/
def oflBarRead (s : State) (off size : Nat) : Nat :=
  if 0x2000 ≤ off && off < 0x2410 then msixRead (msixWord s.ofl.msix) (off - 0x2000) size
  else if 0x3000 ≤ off && off < 0x3010 then msixRead (pbaWord s.ofl.msixPba) (off - 0x3000) size
  else (readBytes (fun t o => (if o < 0x1000 then t.nvmeReg (o / 4) else 0, t)) off size s).1

/-- A free value has been drawn. -/
def drawn (s : State) : State := { s with free := s.free + 1 }

/-- A read of `size` bytes by requester `rq` (R23, R24, R26). A function that is not there answers with all-ones. -/
def hostRead (s : State) (sp : HostSpace) (rq off size : Nat) : State :=
  let ones := 2 ^ (8 * size) - 1
  match sp with
  | .bar0 =>
    if 0x2000000 ≤ off then s.mirrorRead (off - 0x2000000) size
    else let r := readBytes (regRead rq) off size s; r.2.emit (.read rq off r.1)
  | .bar4 => s.emit (.read rq off (if s.domainOn 17 then s.bar4Read off size else ones))
  | .cfg =>
    s.drawn.emit (.read rq off (if s.domainOn 17 then
      (readBytes (fun t o => (t.cfgHeader (s.get Fl.DEV_ID_part_id) 0x048000 hostBar (o / 4), t)) off size s).1 else ones))
  | .cfgMsix =>
    s.drawn.emit (.read rq off (if s.domainOn 17 then
      (readBytes (fun t o => (msixCap (Config.freeValue s.free % 256) 256 t.msixMask t.msixEnable 0x8004 0x9004 (o / 4), t)) off size s).1
      else ones))
  | .oflBar0 => s.emit (.read 7 off (if s.oflPresent then s.oflBarRead off size else ones))
  | .oflCfg =>
    s.drawn.emit (.read 7 off (if s.oflPresent then
      (readBytes (fun t o => (t.cfgHeader 0x0905 0x010802 oflBar (o / 4), t)) off size s).1 else ones))
  | .oflMsix =>
    s.drawn.emit (.read 7 off (if s.oflPresent then
      (readBytes (fun t o => (msixCap (Config.freeValue s.free % 256) 65 t.ofl.msixMask t.ofl.msixEnable 0x2000 0x3000 (o / 4), t)) off size s).1
      else ones))

end State

/-- LO_READ_LATCH (R26, R27). -/
def execLoReadLatch (rq off : Nat) (s : State) (sp : HostSpace := .bar0) (size : Nat := 4) : Res := .next (s.hostRead sp rq off size)

end Sys2Proof.Machine
end

