-- ==== Sys2Proof/Machine/HostWrite.lean ====
section
/-! DEFINITION. REGISTER_WRITE: a write by the host, or by the offload host, to a register or an MSI-X structure (R24, R26, R28, R32
to R36). A register whose write is a command of its own is served by that command's operation. -/

namespace Sys2Proof.Machine

/-- The mask that a message-signalled interrupt table keeps of each dword: the two low address bits and the upper bits of Vector
Control are reserved (PCI Express, log 3). -/
def msixDword (k v : Nat) : Nat := if k % 4 = 0 then v % 2 ^ 32 / 4 * 4 else if k % 4 = 3 then v % 2 else v % 2 ^ 32

def msixPut (t : RegFile) (k v : Nat) : RegFile := setAt (if k % 4 = 3 then 1 else 0) k (BitVec.ofNat 32 (msixDword k v)) t

/-- The dwords that an access of `size` bytes at an offset of a table writes, where the access has the size, alignment and byte enables that
the table takes (R24). -/
def tableDwords (off size be v : Nat) : List (Nat × Nat) :=
  if (size = 4 || size = 8) && off % size = 0 && be % 2 ^ size = 2 ^ size - 1 then
    if size = 4 then [(off / 4, v)] else [(off / 4, v % 2 ^ 32), (off / 4 + 1, v / 2 ^ 32)]
  else []

/-- Function Mask and MSI-X Enable, bits 30 and 31 of the first dword of the capability, after a configuration write that may hold them. -/
def msixControl (off size be v : Nat) (old : Bool × Bool) : Bool × Bool :=
  if off ≤ 3 && 3 < off + size && bit be (3 - off) then (bit v (8 * (3 - off) + 6), bit v (8 * (3 - off) + 7)) else old

namespace State

/-! ### MSI-X structures (R24, R25, R414) -/

/-- Pending vectors that are no longer masked send their message. -/
def msixRelease (s : State) : State :=
  let l := s.msixPba
  if s.msixEnable && !s.msixMask then l.foldl (fun (t : State) v => t.signal v) { s with msixPba := [] } else s

def oflMsixRelease (s : State) : State :=
  let l := s.ofl.msixPba
  if s.ofl.msixEnable && !s.ofl.msixMask then l.foldl (fun (t : State) v => t.oflSignal v) (s.modOfl fun x => { x with msixPba := [] }) else s

def msixTableWrite (s : State) (off size be v : Nat) : State :=
  ({ s with msixTable := (tableDwords off size be v).foldl (fun (t : RegFile) e => msixPut t e.1 e.2) s.msixTable } : State).msixRelease

def oflTableWrite (s : State) (off size be v : Nat) : State :=
  (s.modOfl fun x => { x with
    msix := (tableDwords off size be v).foldl (fun (t : RegFile) e => msixPut t e.1 e.2) x.msix }).oflMsixRelease

/-! ### Plain registers -/

/-- A _LO and _HI pair with RW or RWS fields: the low half waits for the high half (R28). Other registers take the fields of the write
at once (R36). -/
def writePlain (s : State) (off : Nat) (row : RegRow) (ix : List Nat) (v : Nat) : State :=
  let held : Bool := row.flds.any fun d => d.kind = .rw || d.kind = .rws
  if held && (findPair false off).isSome then
    { s with lowHalf := (row.reg.key ix, v % 2 ^ 32) :: s.lowHalf.filter fun e => e.1 ≠ row.reg.key ix }
  else
    match held, findPair true off with
    | true, some p =>
      let lo := s.lowHalf.find? fun e => e.1 = p.1.key ix
      let s : State := { s with lowHalf := s.lowHalf.filter fun e => e.1 ≠ p.1.key ix }
      let s := match lo, findReg (p.1.off + instOffset p.1.dims p.2.2) with
        | some e, some r => s.writeFields r.1 ix e.2
        | _, _ => s
      s.writeFields row ix v
    | _, _ => s.writeFields row ix v

/-- A write whose fields, taken together, would be a reserved encoding: those fields keep their values (R9, log 27). -/
def writeKept (s : State) (row : RegRow) (ix : List Nat) (v : Nat) (bad : State → Bool) (l : List Fld) : State :=
  let t := s.writeFields row ix v
  if bad t then l.foldl (fun (u : State) d => u.put d ix (s.get d ix)) t else t

/-! ### Unit blocks -/

def devWrite (s : State) (off : Nat) (row : RegRow) (ix : List Nat) (v : Nat) : State :=
  if row.reg = R.DEV_COMMIT then s.devCommit v
  else if row.reg = R.DEV_SNAP then (if bit v 0 then s.snap else s)
  else s.writePlain off row ix v

/-- ORD: the host's owner ID is 1 (R40, R42, R44). -/
def ordWrite (s : State) (off : Nat) (row : RegRow) (ix : List Nat) (v : Nat) : State :=
  let n := ix.headD 0
  if row.reg = R.ORD_SEM_CTL then
    if s.semOwner n = 1 then
      let s := if bit v 8 then (s.put Fl.ORD_SEM_CTL_orphan [n] 0).put Fl.ORD_SEM_ACQ_orphan [n] 0 else s
      if bit v 0 then s.setOwner n 0 else s
    else s
  else s.writePlain off row ix v

/-- EVQ. A write that lowers EVQn_IMOD.count to or below the records already unsignalled signals nothing itself: the next record or the
timeout does, since R63 leaves the case open (DESIGN CHOICE, log 92). -/
def evqWrite (s : State) (off : Nat) (row : RegRow) (ix : List Nat) (v : Nat) : State :=
  let q := ix.headD 0
  if row.reg = R.EVQ_HEAD then s.evqHead q v
  else if row.reg = R.EVQ_CTRL then
    let s := s.writeFields row ix v
    (if bit v 1 then s.evqReset q else s).evqSync q
  else s.writePlain off row ix v

def cmdqWrite (s : State) (off : Nat) (row : RegRow) (ix : List Nat) (v : Nat) : State :=
  let r := ix.headD 0
  if row.reg = R.CMDQ_TAIL then s.cmdqTail r v
  else if row.reg = R.CMDQ_CTRL then
    let s := s.writeFields row ix v
    (if bit v 1 then s.put Fl.CMDQ_CTRL_flush [r] 1 else s).cmdqLook r
  else s.writePlain off row ix v

def bulkWrite (s : State) (off : Nat) (row : RegRow) (ix : List Nat) (v : Nat) : State :=
  if row.reg = R.BULK_CTRL then
    let s := s.writeFields row ix v
    if bit v 31 then s.bulkStart else s
  else s.writePlain off row ix v

/-- A write of DRV_CTRL runs the operation that op names after it (R116). -/
def drvWrite (s : State) (off : Nat) (row : RegRow) (ix : List Nat) (v : Nat) : State :=
  if row.reg = R.DRV_CTRL then
    let t := s.writeFields row ix v
    if !bit v 0 then t
    else
      match t.get Fl.DRV_CTRL_op with
      | 0 => t.drvStart 0 v State.chkValidate id
      | 1 => t.drvStart 1 v State.chkStage fun u => { u with drv := { u.drv with patch := some (u.patchOf u.stagedImage) } }
      | 2 => t.drvStart 2 v State.chkSlot fun u => u.slotBody 2
      | 3 => t.drvStart 3 v State.chkSlot fun u => u.slotBody 3
      | 4 => t.drvStart 4 v (fun u => u.chkSetting true) id
      | 5 => t.drvStart 5 v (fun u => u.chkSetting false) id
      | 6 => t.drvStart 6 v (fun u => u.chkSetting true) id
      | 7 => t.drvLoad v
      | 8 => t.drvStart 8 v State.chkFuse id
      | 9 => t.drvStart 9 v State.chkRevoke id
      | _ => t
  else s.writePlain off row ix v

/-- HLT: whether the failed pair passes its test is a free value here; TEST_FAILED_PAIR names the outcome (log 2). -/
def hltWrite (s : State) (off : Nat) (row : RegRow) (ix : List Nat) (v : Nat) : State :=
  if row.reg = R.HLT_CMD then
    let t := s.hltFields v
    if !bit v 31 then t
    else if t.get Fl.HLT_CMD_op = 1 then t.fresh.2.testPair v (bit t.fresh.1 0)
    else t.clearMark v
  else if row.reg = R.HLT_KIND_CFG then
    s.writeKept row ix v (fun t => !responseAllowed (ix.headD 0) (t.get Fl.HLT_KIND_CFG_response ix)) [Fl.HLT_KIND_CFG_response]
  else if row.reg = R.HLT_SEL then (s.writeFields row ix v).gustShow
  else if row.reg = R.HLT_GC_ERRS || row.reg = R.HLT_GC_LASTING then
    let s := s.writeFields row ix v
    let i := s.get Fl.HLT_SEL_source
    s.setGust i { s.gust i with errs := s.rd R.HLT_GC_ERRS, lasting := s.rd R.HLT_GC_LASTING }
  else s.writePlain off row ix v

def baroWrite (s : State) (off : Nat) (row : RegRow) (ix : List Nat) (v : Nat) : State :=
  if row.reg = R.BARO_CTRL then s.baroCtrl v else s.writePlain off row ix v

def trlWrite (s : State) (off : Nat) (row : RegRow) (ix : List Nat) (v : Nat) : State :=
  if row.reg = R.TRL_BB_CTRL then (if bit v 0 && !s.dusk then s.bbSeal 2 else s) else s.writePlain off row ix v

/-- CPR: VWARN below VCRIT + 30 mV is a reserved setting (R579). -/
def cprWrite (s : State) (off : Nat) (row : RegRow) (ix : List Nat) (v : Nat) : State :=
  if row.reg = R.CPR_RESET then s.resetWrite v
  else if row.reg = R.CPR_PD_CTRL then s.pdWrite v
  else if row.reg = R.CPR_STANDBY then s.standbyWrite v
  else if row.reg = R.CPR_DUSK_CFG then
    s.writeKept row ix v (fun t => t.get Fl.CPR_DUSK_CFG_vwarn_mv < t.get Fl.CPR_DUSK_CFG_vcrit_mv + 30)
      [Fl.CPR_DUSK_CFG_vwarn_mv, Fl.CPR_DUSK_CFG_vcrit_mv]
  else s.writePlain off row ix v

def sfeWrite (s : State) (off : Nat) (row : RegRow) (ix : List Nat) (v : Nat) : State :=
  if row.reg = R.SFE_G_CTRL then (if bit v 0 then s.reacquire (ix.headD 0) else s) else s.writePlain off row ix v

def capWrite (s : State) (off : Nat) (row : RegRow) (ix : List Nat) (v : Nat) : State :=
  let p := ix.headD 0
  if row.reg = R.CAP_TRIG then s.capTrig p v
  else if row.reg = R.CAP_DRAIN then s.capDrain p v
  else if row.reg = R.CAP_SEGREL then s.capSegrel p v
  else s.writePlain off row ix v

/-- VCE: a consumer that attaches starts at OWR (R349); the MTU is judged by the IP version, the pace while the sender is attached. -/
def vceWrite (s : State) (off : Nat) (row : RegRow) (ix : List Nat) (v : Nat) : State :=
  let k := ix.headD 0
  if row.reg = R.VCE_RTP_CTRL then
    let t := s.writeFields row ix v
    if t.flag Fl.VCE_RTP_CTRL_en [k] && !s.flag Fl.VCE_RTP_CTRL_en [k] then t.rtpAttach k else t
  else if row.reg = R.VCE_OCTL then
    let t := s.writeFields row ix v
    if t.flag Fl.VCE_OCTL_host_en [k] && !s.flag Fl.VCE_OCTL_host_en [k] then t.auHostAttach k else t
  else if row.reg = R.VCE_RTP_MTU then
    s.writeKept row ix v (fun t => 9000 < t.rd R.VCE_RTP_MTU [k] ||
      t.rd R.VCE_RTP_MTU [k] < (if t.flag Fl.VCE_RTP_CTRL_ipv6 [k] then 1280 else 576)) row.flds
  else if row.reg = R.VCE_RTP_PACE then
    s.writeKept row ix v (fun t => t.flag Fl.VCE_RTP_CTRL_en [k] && t.rd R.VCE_RTP_PACE [k] = 0) row.flds
  else if row.reg = R.VCE_D_TAIL then (s.writeFields row ix v).decBusy
  else s.writePlain off row ix v

def dispWrite (s : State) (off : Nat) (row : RegRow) (ix : List Nat) (v : Nat) : State :=
  if row.reg = R.DISP_D_CMD then s.dsiCmd (ix.headD 0) v else s.writePlain off row ix v

/-- HBMC: the outcome of a repair is a free value here; PPR names it (log 2). -/
def hbmcWrite (s : State) (off : Nat) (row : RegRow) (ix : List Nat) (v : Nat) : State :=
  let n := ix.headD 0
  if row.reg = R.HBMC_CH_CTRL then
    let s := s.writeFields row ix v
    if bit v 0 then s.channelRelease n true else s
  else if row.reg = R.HBMC_CH_PPR then
    if bit v 31 then s.fresh.2.pprGo n v (bit s.fresh.1 0) else s.writeFields row ix v
  else s.writePlain off row ix v

/-- The level that the source of a line gives it (R465): the stored GPIO value, a shutter generator or a pulse scheduler. -/
def sourceLevel (s : State) (l : Nat) : Bool :=
  match s.get Fl.TIME_L_CTRL_src [l] with
  | 0 => bit (s.get Fl.LSP_GPIO_OUT_lines [l / 8]) (l % 8)
  | n + 1 =>
    match if n < 8 then (s.sg n).on else (s.pss.getD (n - 8) Gen.init).on with
    | some x => !x.2.2
    | none => if n < 8 then (s.sgCfg n).activeLow else (s.psCfg (n - 8)).activeLow

/-- A line takes another source (R465). -/
def lineSource (s : State) (row : RegRow) (l v : Nat) : State :=
  let t := s.writeFields row [l] v
  if t.get Fl.TIME_L_CTRL_src [l] = s.get Fl.TIME_L_CTRL_src [l] then t
  else
    let level := t.sourceLevel l
    if bit (t.get Fl.LSP_GPIO_IN_lines [l / 8]) (l % 8) = level then t else t.driveLine l (t.get Fl.TIME_L_CTRL_src [l]) level t.dt

/-- TIME_TBn_CTRL: TB3 reads DT from now on, or continues from it (R446, log 34); reserved for the other bases. -/
def aliasWrite (s : State) (row : RegRow) (n v : Nat) : State :=
  if n ≠ 3 then s
  else
    let was := s.aliased
    let t := s.writeFields row [3] v
    if t.aliased = was then t
    else if was then t.modTime fun x => { x with tb := x.tb.set 3 s.dtFine.toNat }
    else t.audShift (s.dtFine - (s.time.tb.getD 3 0 : Nat))

def timeWrite (s : State) (off : Nat) (row : RegRow) (ix : List Nat) (v : Nat) : State :=
  let n := ix.headD 0
  if row.reg = R.TIME_DT_CTRL then s.dtCtrl v
  else if row.reg = R.TIME_CAP then (if bit v 0 then s.timeCap else s)
  else if row.reg = R.TIME_TB_CTRL then s.aliasWrite row n v
  else if row.reg = R.TIME_TB_INC_HI then s.tbInc n v
  else if row.reg = R.TIME_TB_ADJ_HI then s.tbStep n v
  else if (row.reg = R.TIME_TB_ADJ_LO) && n = 2 then s
  else if row.reg = R.TIME_TB_HEALTH then
    let s := s.writeFields row ix v
    let s := if bit v 31 then s.beat n else s
    if bit v 30 then s.endTracking n false else s
  else if row.reg = R.TIME_DOMMAP then
    s.writeKept row ix v (fun t => t.flag Fl.TIME_DOMMAP_en_a && t.flag Fl.TIME_DOMMAP_en_b &&
      decide (t.get Fl.TIME_DOMMAP_dom_a = t.get Fl.TIME_DOMMAP_dom_b)) row.flds
  else if row.reg = R.TIME_PT_TXQ_CTRL then (if bit v 0 then s.txqPop n else s)
  else if row.reg = R.TIME_PT_TXCTRL then s.ptpTx n v
  else if row.reg = R.TIME_LTCO_CTRL then
    let t := s.writeKept row ix v (fun t => t.flag Fl.TIME_LTCO_CTRL_df && t.get Fl.TIME_LTCO_CTRL_r ≠ 3)
      [Fl.TIME_LTCO_CTRL_df, Fl.TIME_LTCO_CTRL_r]
    if t.flag Fl.TIME_LTCO_CTRL_enable then t else t.modTime fun x => { x with ltcNext := none }
  else if row.reg = R.TIME_LTCO_JAM then s.ltcJam v
  else if row.reg = R.TIME_L_CTRL then s.lineSource row n v
  else s.writePlain off row ix v

def skyWrite (s : State) (off : Nat) (row : RegRow) (ix : List Nat) (v : Nat) : State :=
  if row.reg = R.SKY_CTRL then
    let t := s.writeFields row ix v
    if t.flag Fl.SKY_CTRL_enable && !s.flag Fl.SKY_CTRL_enable then t.skyEnable
    else if s.flag Fl.SKY_CTRL_enable && !t.flag Fl.SKY_CTRL_enable then t.skyOff
    else t
  else if row.reg = R.SKY_OP then
    let t := s.writeFields row ix v
    if t.get Fl.SKY_OP_op = 2 then t.skyArriveHost v else t.skyAsk (t.get Fl.SKY_OP_op) v
  else s.writePlain off row ix v

/-- AUD: WR and CS of an input are the port's own (R493, R496). -/
def audWrite (s : State) (off : Nat) (row : RegRow) (ix : List Nat) (v : Nat) : State :=
  if row.reg = R.AUD_START_CTRL then s.audStart v
  else if (row.reg = R.AUD_P_WR || row.reg = R.AUD_P_CS) && s.audIn (ix.headD 0) then s
  else s.writePlain off row ix v

/-- SMBus entries: an address of a reserved group, or a write entry whose bytes would pass byte 31, is a reserved encoding (R508, R511). -/
def smbWriteCfg (s : State) (row : RegRow) (ix : List Nat) (v : Nat) : State :=
  if row.reg = R.LSP_SMB_ADDR then
    s.writeKept row ix v (fun t => t.get Fl.LSP_SMB_ADDR_addr ix < 8 || 0x78 ≤ t.get Fl.LSP_SMB_ADDR_addr ix) [Fl.LSP_SMB_ADDR_addr]
  else
    s.writeKept row ix v (fun t => bit (t.get Fl.LSP_SMB_CMD_kind ix) 0 &&
      decide (32 < t.get Fl.LSP_SMB_CMD_offset ix + t.get Fl.LSP_SMB_CMD_length ix))
      [Fl.LSP_SMB_CMD_kind, Fl.LSP_SMB_CMD_length, Fl.LSP_SMB_CMD_offset]

/-- LSP: controller 7 is resident firmware's (R506), SPI0 the boot loader's during a dawn from it (R520). -/
def lspWrite (s : State) (off : Nat) (row : RegRow) (ix : List Nat) (v : Nat) : State :=
  let n := ix.headD 0
  if (row.reg = R.LSP_I_CTRL || row.reg = R.LSP_I_LEN || row.reg = R.LSP_I_RETRY || row.reg = R.LSP_I_DATA) && n = 7 then s
  else if row.reg = R.LSP_I_CTRL then s.i2cGo n v
  else if row.reg = R.LSP_I_DATA then s.fifoPush .i2c n v
  else if row.reg = R.LSP_SPI_CTRL then s.spiGo n v
  else if row.reg = R.LSP_SPI_DATA then s.fifoPush .spi n v
  else if row.reg = R.LSP_SPI_STAT && s.spiOwned n then s
  else if row.reg = R.LSP_U_DATA then s.fifoPush .uart n v
  else if row.reg = R.LSP_GPIO_SET then s.gpioSet n v
  else if row.reg = R.LSP_GPIO_CLR then s.gpioClr n v
  else if row.reg = R.LSP_GPIO_OUT then s.gpioOut n v
  else if row.reg = R.LSP_USB_CTRL then
    let t := s.writeFields row ix v
    if t.flag Fl.LSP_USB_CTRL_connect then t else t.usbDetach
  else if row.reg = R.LSP_SMB_ADDR || row.reg = R.LSP_SMB_CMD then s.smbWriteCfg row ix v
  else s.writePlain off row ix v

/-! ### A host write to live BAR0 -/

/-- The effect in the unit of a 32-bit write that reaches it (R8, R26, R191). -/
def regWrite (s : State) (off v : Nat) : State :=
  match findReg off with
  | none => s
  | some (row, ix) =>
    match s.holder off row.reg ix with
    | none => s
    | some jx =>
      match blockOf off with
      | .dev => s.devWrite off row jx v
      | .ord => s.ordWrite off row jx v
      | .evq => s.evqWrite off row jx v
      | .cmdq => s.cmdqWrite off row jx v
      | .drv => s.drvWrite off row jx v
      | .bulk => s.bulkWrite off row jx v
      | .hlt => s.hltWrite off row jx v
      | .baro => s.baroWrite off row jx v
      | .trl => s.trlWrite off row jx v
      | .cpr => s.cprWrite off row jx v
      | .sfe => s.sfeWrite off row jx v
      | .cap => s.capWrite off row jx v
      | .vce => s.vceWrite off row jx v
      | .disp => s.dispWrite off row jx v
      | .hbmc _ => s.hbmcWrite off row jx v
      | .time => s.timeWrite off row jx v
      | .sky => s.skyWrite off row jx v
      | .aud => s.audWrite off row jx v
      | .lsp => s.lspWrite off row jx v
      | _ => s.writePlain off row jx v

/-- One 32-bit aligned write with every byte enabled (R26, R30). -/
def bar0Word (s : State) (off v : Nat) : State := s.onUnit (blockOf off) fun t => t.regWrite off v

/-- A doorbell of BAR4 (R24); offsets without a doorbell are ignored. -/
def bar4Word (s : State) (off v : Nat) : State :=
  if off % 8 ≠ 0 then s
  else if off < 0x80 then s.onUnit .evq fun t => t.evqHead (off / 8) v
  else if 0x100 ≤ off && off < 0x120 then s.onUnit .cmdq fun t => t.cmdqTail ((off - 0x100) / 8) v
  else s

/-- The aligned 32-bit writes with every byte enabled that an access makes, lower address first (R26). -/
def aligned (f : State → Nat → Nat → State) (off size be v : Nat) (s : State) : State :=
  if size = 4 && off % 4 = 0 then (if be % 16 = 15 then f s off (v % 2 ^ 32) else s)
  else if size = 8 && off % 8 = 0 then
    let s := if be % 16 = 15 then f s off (v % 2 ^ 32) else s
    if be / 16 % 16 = 15 then f s (off + 4) (v / 2 ^ 32 % 2 ^ 32) else s
  else s

/-! ### The offload host's registers (R414, R415, R423, R432, R433) -/

/-- A completion queue head doorbell: free entries let waiting completions out. -/
def cqDoorbell (s : State) (q head : Nat) : State :=
  if !s.oflPresent || !s.oflRdy then s
  else
    match s.oflCq q with
    | none => s.oflEvent 0 0 1
    | some c =>
      if c.size ≤ head || head = c.head || (c.tail + c.size - c.head) % c.size < (head + c.size - c.head) % c.size then s.oflEvent 0 1 1
      else (s.modOfl fun x => { x with cqs := x.cqs.map fun z => if z.id = q then { z with head := head } else z }).oflPostAll.oflShow

/-- A write of CC: EN enables or resets the controller, SHN shuts it down. -/
def ccWrite (s : State) (v : Nat) : State :=
  if !s.oflPresent then s
  else if bit s.ofl.cc 0 then (if bit v 0 then s.oflShn (bits v 15 14) else s.controllerReset)
  else if bit v 0 then (s.oflEnable v).oflShn (bits v 15 14)
  else (s.modOfl fun x => { x with cc := v }).oflShow

def oflWord (s : State) (off v : Nat) : State :=
  if !s.oflPresent then s
  else if off = 0x0C then s.modOfl fun x => { x with intms := x.intms ||| v }
  else if off = 0x10 then s.modOfl fun x => { x with intms := x.intms - (x.intms &&& v) }
  else if off = 0x14 then s.ccWrite v
  else if off = 0x24 then s.modOfl fun x => { x with aqa := bits v 11 0 + 2 ^ 16 * bits v 27 16 }
  else if off = 0x28 then s.modOfl fun x => { x with asq := x.asq / 2 ^ 32 * 2 ^ 32 + v / 4096 * 4096 }
  else if off = 0x2C then s.modOfl fun x => { x with asq := x.asq % 2 ^ 32 + 2 ^ 32 * v }
  else if off = 0x30 then s.modOfl fun x => { x with acq := x.acq / 2 ^ 32 * 2 ^ 32 + v / 4096 * 4096 }
  else if off = 0x34 then s.modOfl fun x => { x with acq := x.acq % 2 ^ 32 + 2 ^ 32 * v }
  else if 0x1000 ≤ off && off < 0x1208 then
    if off % 8 = 0 then s.sqDoorbell ((off - 0x1000) / 8) (v % 2 ^ 16) else s.cqDoorbell ((off - 0x1000) / 8) (v % 2 ^ 16)
  else s

/-! ### Where a write lands -/

/-- Nothing reaches the host port's structures with PD17 off (R567). -/
def hostWriteTo (s : State) (sp : HostSpace) (off size be v : Nat) : State :=
  match sp with
  | .bar0 => if off + size ≤ 0x2000000 then aligned State.bar0Word off size be v s else s
  | .bar4 =>
    if !s.domainOn 17 then s
    else if 0x8000 ≤ off && off < 0x9000 then s.msixTableWrite (off - 0x8000) size be v
    else if 0x8000 ≤ off then s
    else aligned State.bar4Word off size be v s
  | .cfg => s
  | .oflCfg => s
  | .cfgMsix =>
    if !s.domainOn 17 then s
    else
      let c := msixControl off size be v (s.msixMask, s.msixEnable)
      ({ s with msixMask := c.1, msixEnable := c.2 } : State).msixRelease
  | .oflBar0 =>
    if !s.oflPresent then s
    else if 0x2000 ≤ off && off < 0x2410 then s.oflTableWrite (off - 0x2000) size be v
    else if 0x2410 ≤ off then s
    else aligned State.oflWord off size be v s
  | .oflMsix =>
    if !s.oflPresent then s
    else (s.modOfl fun x =>
      let c := msixControl off size be v (x.msixMask, x.msixEnable)
      { x with msixMask := c.1, msixEnable := c.2 }).oflMsixRelease

end State

/-- REGISTER_WRITE (R26). -/
def execRegisterWrite (sp : HostSpace) (off size be v : Nat) (s : State) : Res := .next (s.hostWriteTo sp off size be v)

end Sys2Proof.Machine
end

