-- ==== Sys2Proof/Machine/Limited.lean ====
section
/-! DEFINITION. Rate-limited records (R598): what one record says of every occurrence since the previous one. -/

namespace Sys2Proof.Machine

/-- How the payloads of a rate-limited type combine, as its table says. -/
inductive LimitForm where
  /-- occurrences in [63:32] add up; the rest is the last occurrence's, but for bits of `seen`, which gather -/
  | countHi (seen : Nat)
  /-- a count in the low `n` bits adds up; the rest is the last occurrence's -/
  | countLo (n : Nat)
  /-- [31:0] gathers every bit, [47:32] counts and saturates -/
  | gather
  /-- [4:0] is the level of a UART's RX FIFO as the record is raised -/
  | level
  deriving DecidableEq, Repr

def limitForm (typ : Nat) : LimitForm :=
  match typ with
  | 0x0051 => .gather
  | 0x0052 => .countLo 16
  | 0x0053 => .countLo 16
  | 0x0061 => .countHi 0x300
  | 0x0069 => .countLo 32
  | 0x0073 => .countLo 16
  | 0x0078 => .countLo 32
  | 0x00A2 => .countLo 32
  | 0x00A3 => .countLo 32
  | 0x00B0 => .countHi 0x1000
  | 0x00C0 => .countLo 32
  | 0x00E4 => .countLo 32
  | 0x0113 => .level
  | _ => .countHi 0

/-- The payload over all occurrences, oldest first. -/
def mergePayload (form : LimitForm) (level : Nat) (l : List Nat) : Nat :=
  let last := l.getLast?.getD 0
  match form with
  | .countHi seen =>
    let low := (last % 2 ^ 32) ||| (l.foldl (fun a p => a ||| (p &&& seen)) 0)
    low + 2 ^ 32 * (sumOf (fun p => p / 2 ^ 32) l % 2 ^ 32)
  | .countLo n => last / 2 ^ n * 2 ^ n + sumOf (fun p => p % 2 ^ n) l % 2 ^ n
  | .gather => (l.foldl (fun a p => a ||| p % 2 ^ 32) 0) + 2 ^ 32 * min 0xFFFF (sumOf (fun p => p / 2 ^ 32 % 2 ^ 16) l)
  | .level => level

/-- A rate-limited record is due: it reports every occurrence of its type and instance, with the fields of the last. No two come
within a millisecond, so the clock moves on to the end of the millisecond after the previous one (R190, log 35). -/
def State.limitedDue (s : State) (typ inst : Nat) : State :=
  let mine := s.limited.filter fun r => r.typ = typ && r.inst = inst
  match mine.getLast? with
  | none => s
  | some r =>
    let s := match s.limitedAt.find? fun x => x.1 = typ && x.2.1 = inst with
      | some x => s.reachClk (x.2.2 + 1000000)
      | none => s
    let p := mergePayload (limitForm typ) (s.get Fl.LSP_U_STAT_rx_level [inst]) (mine.map fun x => x.payload)
    ({ s with
      limited := s.limited.filter fun x => !(x.typ = typ && x.inst = inst)
      limitedAt := (typ, inst, s.time.clk) :: s.limitedAt.filter fun x => !(x.1 = typ && x.2.1 = inst) }).raise { r with payload := p }

/-- RATE_LIMITED_RECORD (R598). -/
def execRateLimitedRecord (typ inst : Nat) (s : State) : Res := .next (s.limitedDue typ inst)

end Sys2Proof.Machine
end

