-- ==== Sys2Proof/Machine/Dispatch.lean ====
section
/-! DEFINITION. Which meaning each command has: one arm per constructor. -/

namespace Sys2Proof.Machine

def exec (i : Instr) (s : State) : Host.Outcome State Fault Refusal :=
  match i with
  | .registerWrite sp off size be v => Sys2Proof.Machine.execRegisterWrite sp off size be v s
  | .offDomainAccess off rd => Sys2Proof.Machine.execOffDomainAccess off rd s
  | .loReadLatch rq off sp size => Sys2Proof.Machine.execLoReadLatch rq off s sp size
  | .mirrorRead off => Sys2Proof.Machine.execMirrorRead off s
  | .fenceRead => Sys2Proof.Machine.execFenceRead s
  | .semAcquire n reqs rels rsts => Sys2Proof.Machine.execSemAcquire n reqs rels rsts s
  | .semRelease n rq => Sys2Proof.Machine.execSemRelease n rq s
  | .semOrphanClear n rq => Sys2Proof.Machine.execSemOrphanClear n rq s
  | .updraftPromotion arb id cls => Sys2Proof.Machine.execUpdraftPromotion arb id s cls
  | .bulkArm v => Sys2Proof.Machine.execBulkArm v s
  | .bulkWrite data => Sys2Proof.Machine.execBulkWrite data s
  | .bulkRead n => Sys2Proof.Machine.execBulkRead n s
  | .eventRecordPublish src => Sys2Proof.Machine.execEventRecordPublish src s
  | .evqHeadDoorbell q v => Sys2Proof.Machine.execEvqHeadDoorbell q v s
  | .heldRecordFlush q => Sys2Proof.Machine.execHeldRecordFlush q s
  | .evqImodTimeout q => Sys2Proof.Machine.execEvqImodTimeout q s
  | .evqReset q => Sys2Proof.Machine.execEvqReset q s
  | .cmdqTailDoorbell r v => Sys2Proof.Machine.execCmdqTailDoorbell r v s
  | .cmdqPoll r => Sys2Proof.Machine.execCmdqPoll r s
  | .cmdqPacketStart => Sys2Proof.Machine.execCmdqPacketStart s
  | .cmdqPacketComplete id => Sys2Proof.Machine.execCmdqPacketComplete id s
  | .nop r => Sys2Proof.Machine.execNop r s
  | .echo id => Sys2Proof.Machine.execEcho id s
  | .cmdqFlush r => Sys2Proof.Machine.execCmdqFlush r s
  | .hostFunctionReset kind => Sys2Proof.Machine.execHostFunctionReset kind s
  | .devCommit v => Sys2Proof.Machine.execDevCommit v s
  | .frontIssue counter => Sys2Proof.Machine.execFrontIssue counter s
  | .idleCommitIssue => Sys2Proof.Machine.execIdleCommitIssue s
  | .unitEpochSwitch unit p fid => Sys2Proof.Machine.execUnitEpochSwitch unit p fid s
  | .frameLeavesUnit unit p fid => Sys2Proof.Machine.execFrameLeavesUnit unit p fid s
  | .patchDrainEnd p => Sys2Proof.Machine.execPatchDrainEnd p s
  | .devSnap => Sys2Proof.Machine.execDevSnap s
  | .snapComplete => Sys2Proof.Machine.execSnapComplete s
  | .rateLimitedRecord typ inst => Sys2Proof.Machine.execRateLimitedRecord typ inst s
  | .drvValidate arg => Sys2Proof.Machine.execDrvValidate arg s
  | .drvStagePatch arg => Sys2Proof.Machine.execDrvStagePatch arg s
  | .drvWriteSlotA arg => Sys2Proof.Machine.execDrvWriteSlotA arg s
  | .drvWriteSlotB arg => Sys2Proof.Machine.execDrvWriteSlotB arg s
  | .drvClearFailedDawn arg => Sys2Proof.Machine.execDrvClearFailedDawn arg s
  | .drvDiscardPatches arg => Sys2Proof.Machine.execDrvDiscardPatches arg s
  | .drvRaiseFloor arg => Sys2Proof.Machine.execDrvRaiseFloor arg s
  | .drvLoadFullImage arg => Sys2Proof.Machine.execDrvLoadFullImage arg s
  | .drvFuseKey arg => Sys2Proof.Machine.execDrvFuseKey arg s
  | .drvRevokeKey arg => Sys2Proof.Machine.execDrvRevokeKey arg s
  | .drvOperationEnd => Sys2Proof.Machine.execDrvOperationEnd s
  | .slkBlock lane sync payload => Sys2Proof.Machine.execSlkBlock lane sync payload s
  | .alignBlock lane payload => Sys2Proof.Machine.execAlignBlock lane payload s
  | .reacquire g => Sys2Proof.Machine.execReacquire g s
  | .reacquireTimeout g => Sys2Proof.Machine.execReacquireTimeout g s
  | .fs g pkt => Sys2Proof.Machine.execFs g pkt s
  | .fe g pkt => Sys2Proof.Machine.execFe g pkt s
  | .line g pkt full => Sys2Proof.Machine.execLine g pkt s full
  | .obline g pkt full => Sys2Proof.Machine.execObline g pkt s full
  | .embed g pkt => Sys2Proof.Machine.execEmbed g pkt s
  | .frameTimeout stream => Sys2Proof.Machine.execFrameTimeout stream s
  | .csi2Fs port hdr => Sys2Proof.Machine.execCsi2Fs port hdr s
  | .csi2Fe port hdr => Sys2Proof.Machine.execCsi2Fe port hdr s
  | .csi2Raw port hdr data full => Sys2Proof.Machine.execCsi2Raw port hdr data s full
  | .csi2Embedded port hdr data => Sys2Proof.Machine.execCsi2Embedded port hdr data s
  | .csi2Ignored port hdr => Sys2Proof.Machine.execCsi2Ignored port hdr s
  | .sgEdge g => Sys2Proof.Machine.execSgEdge g s
  | .sgPulseEnd g => Sys2Proof.Machine.execSgPulseEnd g s
  | .rctFrame tile fid => Sys2Proof.Machine.execRctFrame tile fid s
  | .capFrame p fid => Sys2Proof.Machine.execCapFrame p fid s
  | .capSoftwareTrigger p v => Sys2Proof.Machine.execCapSoftwareTrigger p v s
  | .capTimeTrigger p => Sys2Proof.Machine.execCapTimeTrigger p s
  | .capDrain p v => Sys2Proof.Machine.execCapDrain p v s
  | .reissueFrame p => Sys2Proof.Machine.execReissueFrame p s
  | .segmentRelease p v => Sys2Proof.Machine.execSegmentRelease p v s
  | .rcuFrame tile fid => Sys2Proof.Machine.execRcuFrame tile fid s
  | .mediaScan id ports => Sys2Proof.Machine.execMediaScan id ports s
  | .mediaFormat id uuid now => Sys2Proof.Machine.execMediaFormat id uuid now s
  | .mediaOpen id => Sys2Proof.Machine.execMediaOpen id s
  | .mediaClose id => Sys2Proof.Machine.execMediaClose id s
  | .takeStart id => Sys2Proof.Machine.execTakeStart id s
  | .takeStop id => Sys2Proof.Machine.execTakeStop id s
  | .checkpoint id => Sys2Proof.Machine.execCheckpoint id s
  | .rebuild id => Sys2Proof.Machine.execRebuild id s
  | .rowIssue p => Sys2Proof.Machine.execRowIssue p s
  | .rowWriteComplete row failed => Sys2Proof.Machine.execRowWriteComplete row failed s
  | .memberCommandTimeout member cmd => Sys2Proof.Machine.execMemberCommandTimeout member s cmd
  | .recCommit => Sys2Proof.Machine.execRecCommit s
  | .mediaFenceComplete => Sys2Proof.Machine.execMediaFenceComplete s
  | .rebuildRow readFailed => Sys2Proof.Machine.execRebuildRow readFailed s
  | .duskLandingDone => Sys2Proof.Machine.execDuskLandingDone s
  | .zstJob e => Sys2Proof.Machine.execZstJob e s
  | .zstJobComplete e => Sys2Proof.Machine.execZstJobComplete e s
  | .dvtFrame tile fid => Sys2Proof.Machine.execDvtFrame tile fid s
  | .outfFrame p b fid full => Sys2Proof.Machine.execOutfFrame p b fid s full
  | .outfPublish p b => Sys2Proof.Machine.execOutfPublish p b s
  | .peerCreditWrite r off v => Sys2Proof.Machine.execPeerCreditWrite r off v s
  | .encodePicture k au => Sys2Proof.Machine.execEncodePicture k au s
  | .rtpSendAu k up => Sys2Proof.Machine.execRtpSendAu k s up
  | .decodeDescriptor res => Sys2Proof.Machine.execDecodeDescriptor res s
  | .decodedPictureOutput pic => Sys2Proof.Machine.execDecodedPictureOutput pic s
  | .displayFrameStart => Sys2Proof.Machine.execDisplayFrameStart s
  | .vblankLatch => Sys2Proof.Machine.execVblankLatch s
  | .evDispLock locked => Sys2Proof.Machine.execEvDispLock locked s
  | .evDispUnderrun layer line poison => Sys2Proof.Machine.execEvDispUnderrun layer line poison s
  | .dsiTransferStart d => Sys2Proof.Machine.execDsiTransferStart d s
  | .dsiTransferEnd d => Sys2Proof.Machine.execDsiTransferEnd d s
  | .teLost d => Sys2Proof.Machine.execTeLost d s
  | .dsiCommand d v => Sys2Proof.Machine.execDsiCommand d v s
  | .dsiResponseTimeout d => Sys2Proof.Machine.execDsiResponseTimeout d s
  | .sdiInputFrame j f => Sys2Proof.Machine.execSdiInputFrame j f s
  | .evSdiIn j locked std transfer => Sys2Proof.Machine.execEvSdiIn j locked std transfer s
  | .refreshTick => Sys2Proof.Machine.execRefreshTick s
  | .hbmTempReport stack temp => Sys2Proof.Machine.execHbmTempReport stack temp s
  | .hbmRequest rqs => Sys2Proof.Machine.execHbmRequest rqs s
  | .scrubRead err => Sys2Proof.Machine.execScrubRead err s
  | .caparAlert ch again => Sys2Proof.Machine.execCaparAlert ch again s
  | .evHbmPanic client margin => Sys2Proof.Machine.execEvHbmPanic client s margin
  | .panicDrop client margin cycles => Sys2Proof.Machine.execPanicDrop client s margin cycles
  | .channelRelease ch byHost => Sys2Proof.Machine.execChannelRelease ch byHost s
  | .evHbmResync ch trainOk ms => Sys2Proof.Machine.execEvHbmResync ch trainOk ms s
  | .ppr ch v ok => Sys2Proof.Machine.execPpr ch v ok s
  | .marginScan ch eyes => Sys2Proof.Machine.execMarginScan ch eyes s
  | .controllerEnable cc => Sys2Proof.Machine.execControllerEnable cc s
  | .controllerReset => Sys2Proof.Machine.execControllerReset s
  | .offloadLinkReset => Sys2Proof.Machine.execOffloadLinkReset s
  | .controllerShutdown shn => Sys2Proof.Machine.execControllerShutdown shn s
  | .nvmeSqDoorbell q tail => Sys2Proof.Machine.execNvmeSqDoorbell q tail s
  | .nvmeDeleteIoSq c => Sys2Proof.Machine.execNvmeDeleteIoSq c s
  | .nvmeDeleteIoCq c => Sys2Proof.Machine.execNvmeDeleteIoCq c s
  | .nvmeCreateIoSq c => Sys2Proof.Machine.execNvmeCreateIoSq c s
  | .nvmeCreateIoCq c => Sys2Proof.Machine.execNvmeCreateIoCq c s
  | .nvmeGetLogPage c => Sys2Proof.Machine.execNvmeGetLogPage c s
  | .nvmeIdentify c => Sys2Proof.Machine.execNvmeIdentify c s
  | .nvmeAbort c => Sys2Proof.Machine.execNvmeAbort c s
  | .nvmeSetFeatures c => Sys2Proof.Machine.execNvmeSetFeatures c s
  | .nvmeGetFeatures c => Sys2Proof.Machine.execNvmeGetFeatures c s
  | .nvmeAsyncEvent c => Sys2Proof.Machine.execNvmeAsyncEvent c s
  | .nvmeFwDownload c data => Sys2Proof.Machine.execNvmeFwDownload c data s
  | .nvmeFwCommit c authentic => Sys2Proof.Machine.execNvmeFwCommit c authentic s
  | .firmwareActivation starts => Sys2Proof.Machine.execFirmwareActivation starts s
  | .nvmeSelfTest c => Sys2Proof.Machine.execNvmeSelfTest c s
  | .selfTestStep ok => Sys2Proof.Machine.execSelfTestStep ok s
  | .nvmeFlush c => Sys2Proof.Machine.execNvmeFlush c s
  | .nvmeWrite c data => Sys2Proof.Machine.execNvmeWrite c data s
  | .nvmeRead c => Sys2Proof.Machine.execNvmeRead c s
  | .nvmeCompare c data => Sys2Proof.Machine.execNvmeCompare c data s
  | .nvmeWriteZeroes c => Sys2Proof.Machine.execNvmeWriteZeroes c s
  | .nvmeVerify c => Sys2Proof.Machine.execNvmeVerify c s
  | .memberReadFail io timeout => Sys2Proof.Machine.execMemberReadFail io timeout s
  | .exchangeRowWriteback row => Sys2Proof.Machine.execExchangeRowWriteback row s
  | .powerStateReached => Sys2Proof.Machine.execPowerStateReached s
  | .apstTransition => Sys2Proof.Machine.execApstTransition s
  | .tbIncUpdate n hi => Sys2Proof.Machine.execTbIncUpdate n hi s
  | .evTimeStep n hi => Sys2Proof.Machine.execEvTimeStep n hi s
  | .beat n => Sys2Proof.Machine.execBeat n s
  | .drop n => Sys2Proof.Machine.execDrop n s
  | .trackingLapse n => Sys2Proof.Machine.execTrackingLapse n s
  | .dtSwitch v => Sys2Proof.Machine.execDtSwitch v s
  | .evTimeSlewDone => Sys2Proof.Machine.execEvTimeSlewDone s
  | .timeCapture v => Sys2Proof.Machine.execTimeCapture v s
  | .ptpTransmit p v => Sys2Proof.Machine.execPtpTransmit p v s
  | .txqPop p => Sys2Proof.Machine.execTxqPop p s
  | .ptpReceive p frame => Sys2Proof.Machine.execPtpReceive p frame s
  | .genlockReference std => Sys2Proof.Machine.execGenlockReference std s
  | .genlockLoss => Sys2Proof.Machine.execGenlockLoss s
  | .ltcInFrame tc ub df period => Sys2Proof.Machine.execLtcInFrame tc ub df period s
  | .ltcInLoss => Sys2Proof.Machine.execLtcInLoss s
  | .ltcOutFrame => Sys2Proof.Machine.execLtcOutFrame s
  | .ltcJam v => Sys2Proof.Machine.execLtcJam v s
  | .triggerEdge line rising width => Sys2Proof.Machine.execTriggerEdge line rising s width
  | .pulseSchedulerEdge k => Sys2Proof.Machine.execPulseSchedulerEdge k s
  | .skyEnable => Sys2Proof.Machine.execSkyEnable s
  | .announceTimer => Sys2Proof.Machine.execAnnounceTimer s
  | .formationDecision => Sys2Proof.Machine.execFormationDecision s
  | .skyAnnounce m => Sys2Proof.Machine.execSkyAnnounce m s
  | .skyAssign m => Sys2Proof.Machine.execSkyAssign m s
  | .skyRequest m => Sys2Proof.Machine.execSkyRequest m s
  | .skyPrepare m => Sys2Proof.Machine.execSkyPrepare m s
  | .skyAck m => Sys2Proof.Machine.execSkyAck m s
  | .skyCommit m => Sys2Proof.Machine.execSkyCommit m s
  | .skyArrive m => Sys2Proof.Machine.execSkyArrive m s
  | .skyRelease m => Sys2Proof.Machine.execSkyRelease m s
  | .skySnap m => Sys2Proof.Machine.execSkySnap m s
  | .skyReset m => Sys2Proof.Machine.execSkyReset m s
  | .skyDone m => Sys2Proof.Machine.execSkyDone m s
  | .skyLost m => Sys2Proof.Machine.execSkyLost m s
  | .skyOpCommit arg => Sys2Proof.Machine.execSkyOpCommit arg s
  | .skyOpBarrier arg => Sys2Proof.Machine.execSkyOpBarrier arg s
  | .skyOpSnapshot arg => Sys2Proof.Machine.execSkyOpSnapshot arg s
  | .skyOpReset arg => Sys2Proof.Machine.execSkyOpReset arg s
  | .ackDeadline => Sys2Proof.Machine.execAckDeadline s
  | .rootDecision => Sys2Proof.Machine.execRootDecision s
  | .barrierEnd => Sys2Proof.Machine.execBarrierEnd s
  | .snapCapture => Sys2Proof.Machine.execSnapCapture s
  | .skyResetAct => Sys2Proof.Machine.execSkyResetAct s
  | .alSkyPath path up => Sys2Proof.Machine.execAlSkyPath path up s
  | .childLost node => Sys2Proof.Machine.execChildLost node s
  | .rootLost => Sys2Proof.Machine.execRootLost s
  | .skyKey id => Sys2Proof.Machine.execSkyKey id s
  | .audStart v => Sys2Proof.Machine.execAudStart v s
  | .sampleFrame n captured => Sys2Proof.Machine.execSampleFrame n captured s
  | .audioInputFrame n data cs => Sys2Proof.Machine.execAudioInputFrame n data cs s
  | .evAudLock n locked => Sys2Proof.Machine.execEvAudLock n locked s
  | .smbusRead addr cmd n => Sys2Proof.Machine.execSmbusRead addr cmd n s
  | .smbusWrite addr cmd data crc => Sys2Proof.Machine.execSmbusWrite addr cmd data crc s
  | .smbusTimeout => Sys2Proof.Machine.execSmbusTimeout s
  | .i2cGo c v => Sys2Proof.Machine.execI2cGo c v s
  | .i2cTryEnd c res => Sys2Proof.Machine.execI2cTryEnd c res s
  | .i2cRetryDelay c => Sys2Proof.Machine.execI2cRetryDelay c s
  | .i2cFlush c => Sys2Proof.Machine.execI2cFlush c s
  | .spiGo c v => Sys2Proof.Machine.execSpiGo c v s
  | .fifoPush f j v => Sys2Proof.Machine.execFifoPush f j v s
  | .fifoPop f j => Sys2Proof.Machine.execFifoPop f j s
  | .uartRxByte u b frameErr parityErr brk => Sys2Proof.Machine.execUartRxByte u b frameErr parityErr brk s
  | .usbBusReset ctl hs => Sys2Proof.Machine.execUsbBusReset ctl hs s
  | .usbOutPacket data => Sys2Proof.Machine.execUsbOutPacket data s
  | .usbInPacket => Sys2Proof.Machine.execUsbInPacket s
  | .usbSuspend => Sys2Proof.Machine.execUsbSuspend s
  | .usbResume => Sys2Proof.Machine.execUsbResume s
  | .dfuDnload blk data => Sys2Proof.Machine.execDfuDnload blk data s
  | .dfuManifest => Sys2Proof.Machine.execDfuManifest s
  | .dfuDetach => Sys2Proof.Machine.execDfuDetach s
  | .sdInfo id => Sys2Proof.Machine.execSdInfo id s
  | .sdRead id data stop => Sys2Proof.Machine.execSdRead id data stop s
  | .sdWrite id good stop => Sys2Proof.Machine.execSdWrite id good stop s
  | .evSdCard present mode => Sys2Proof.Machine.execEvSdCard present mode s
  | .gpioSet b v => Sys2Proof.Machine.execGpioSet b v s
  | .gpioClr b v => Sys2Proof.Machine.execGpioClr b v s
  | .healthError kind inst cls tile => Sys2Proof.Machine.execHealthError kind inst cls tile s
  | .replayComplete cls tile good => Sys2Proof.Machine.execReplayComplete cls tile good s
  | .gustLeakTick kind => Sys2Proof.Machine.execGustLeakTick kind s
  | .testFailedPair v pass => Sys2Proof.Machine.execTestFailedPair v pass s
  | .clearRetiredMark v => Sys2Proof.Machine.execClearRetiredMark v s
  | .baroPlanCommand v => Sys2Proof.Machine.execBaroPlanCommand v s
  | .baroPeriodicPlan => Sys2Proof.Machine.execBaroPeriodicPlan s
  | .evBaroPlan m => Sys2Proof.Machine.execEvBaroPlan m s
  | .railOffsetStep r ok => Sys2Proof.Machine.execRailOffsetStep r ok s
  | .trailSpaceFreed dest => Sys2Proof.Machine.execTrailSpaceFreed dest s
  | .traceSamplingRelax dest => Sys2Proof.Machine.execTraceSamplingRelax dest s
  | .bbSeal => Sys2Proof.Machine.execBbSeal s
  | .powerOnReset straps railsOk serial => Sys2Proof.Machine.execPowerOnReset straps railsOk serial s
  | .dawnStep r => Sys2Proof.Machine.execDawnStep r s
  | .watchdogReset => Sys2Proof.Machine.execWatchdogReset s
  | .deviceReset v => Sys2Proof.Machine.execDeviceReset v s
  | .vwarnCrossing mv => Sys2Proof.Machine.execVwarnCrossing mv s
  | .vcritCrossing mv => Sys2Proof.Machine.execVcritCrossing mv s
  | .duskHoldEnd mv => Sys2Proof.Machine.execDuskHoldEnd mv s
  | .evCprDuskEnd mv => Sys2Proof.Machine.execEvCprDuskEnd mv s
  | .domainSwitch v => Sys2Proof.Machine.execDomainSwitch v s
  | .evCprPd => Sys2Proof.Machine.execEvCprPd s
  | .standbyEnter v => Sys2Proof.Machine.execStandbyEnter v s
  | .standbyEntered => Sys2Proof.Machine.execStandbyEntered s
  | .standbyExit v => Sys2Proof.Machine.execStandbyExit v s
  | .standbyExited => Sys2Proof.Machine.execStandbyExited s
  | .thermalTrip temp => Sys2Proof.Machine.execThermalTrip temp s
  | .pipelineIdle p => Sys2Proof.Machine.execPipelineIdle p s
  | .landingWriteDeadline owing => Sys2Proof.Machine.execLandingWriteDeadline owing s
  | .pcieLinkStateChange ofl r up gen width => Sys2Proof.Machine.execPcieLinkStateChange ofl r up gen width s
  | .dsiReadResponse d data report => Sys2Proof.Machine.execDsiReadResponse d data report s
  | .exchangeParityResyncEnd => Sys2Proof.Machine.execExchangeParityResyncEnd s
  | .offloadMemberIoDone io => Sys2Proof.Machine.execOffloadMemberIoDone io s
  | .scheduledPulseEnd k => Sys2Proof.Machine.execScheduledPulseEnd k s
  | .spiTransferEnd c data => Sys2Proof.Machine.execSpiTransferEnd c data s
  | .uartTxByte u => Sys2Proof.Machine.execUartTxByte u s
  | .usbControlRequest rq => Sys2Proof.Machine.execUsbControlRequest rq s
  | .usbVbusChange present => Sys2Proof.Machine.execUsbVbusChange present s

end Sys2Proof.Machine
end

