-- ==== Sys2Proof/WellFormed.lean ====
section
/-! DEFINITION. Which commands can occur: instances, widths and lengths that the spec gives each operand. Commands outside these bounds name
nothing of the 9X; where one is executed all the same, the state stays as it is or the operand is cut to its width. -/

namespace Sys2Proof

/-- The owners that can ask for a semaphore or latch a _HI half (R27, R40). -/
def requester (rq : Nat) : Bool := decide (1 ≤ rq) && decide (rq ≤ 5)

/-- Access sizes of the host ports (R24, R26). -/
def sizeOk (n : Nat) : Bool := n = 1 || n = 2 || n = 4 || n = 8

/-- The extent of the space that a host access lands in (R23, R24, R414); a capability's Message Control, Table and PBA dwords (log 3). -/
def spaceHolds (sp : HostSpace) (off : Nat) : Bool :=
  match sp with
  | .bar0 => decide (off < 0x4000000)
  | .bar4 => decide (off < 0x10000)
  | .cfg => decide (off < 0x1000)
  | .oflCfg => decide (off < 0x1000)
  | .cfgMsix => decide (off < 12)
  | .oflBar0 => decide (off < 0x4000)
  | .oflMsix => decide (off < 12)

/-- A branch is one of eight (R81). -/
def unitOk (u : FlowUnit) : Bool :=
  match u with
  | .branch b => decide (b < 8)
  | _ => true

/-- A CSI-2 header: data type, virtual channel and word count (R181). -/
def csiOk (port : Nat) (h : CsiHdr) : Bool := decide (port < 4) && decide (h.dt < 64) && decide (h.vc < 64) && decide (h.wc < 0x10000)

/-- An NVMe command: one of 65 queues, a 16-bit identifier, 32-bit command dwords (R423). -/
def nvmeOk (c : NvmeCmd) : Bool :=
  decide (c.sq ≤ 64) && decide (c.opc < 256) && decide (c.cid < 2 ^ 16) && decide (c.nsid < 2 ^ 32) && [c.cdw10, c.cdw11, c.cdw12, c.cdw13, c.cdw14, c.cdw15].all fun x =>
    decide (x < 2 ^ 32)

/-- A sky message comes in on one of two paths (R470). -/
def skyOk (m : SkyMsg) : Bool := decide (m.path < 2) && decide (m.hop < 256) && decide (m.src < 2 ^ 128) && decide (m.dst < 2 ^ 128) && decide (m.port < 2 ^ 16)

/-- Seven I2C controllers with FIFOs for the host, four SPI controllers, two UARTs (R505). -/
def fifoOk (f : FifoPort) (i : Nat) : Bool :=
  match f with
  | .i2c => decide (i < 7)
  | .spi => decide (i < 4)
  | .uart => decide (i < 2)

/-- Is a command one that can occur. -/
def Instr.wf (i : Instr) : Bool :=
  match i with
  | .registerWrite sp off size be v => spaceHolds sp off && sizeOk size && decide (be < 2 ^ size) && decide (v < 2 ^ (8 * size))
  | .offDomainAccess off _ => decide (off < 0x2000000)
  | .loReadLatch rq off sp size => requester rq && spaceHolds sp off && sizeOk size
  | .mirrorRead off => decide (off < 0x2000000)
  | .fenceRead => true
  | .semAcquire n reqs rels rsts => decide (n < 64) && (reqs ++ rels ++ rsts).all requester
  | .semRelease n rq => decide (n < 64) && requester rq
  | .semOrphanClear n rq => decide (n < 64) && requester rq
  | .updraftPromotion arb _ cls => decide (arb < 5) && decide (cls < 4)
  | .bulkArm v => decide (v < 2 ^ 32)
  | .bulkWrite data => decide (data.length ≤ 4096)
  | .bulkRead n => decide (n ≤ 4096)
  | .eventRecordPublish src => decide (src < 64)
  | .evqHeadDoorbell q v => decide (q < 16) && decide (v < 2 ^ 32)
  | .heldRecordFlush q => decide (q < 16)
  | .evqImodTimeout q => decide (q < 16)
  | .evqReset q => decide (q < 16)
  | .cmdqTailDoorbell r v => decide (r < 4) && decide (v < 2 ^ 32)
  | .cmdqPoll r => decide (r < 4)
  | .cmdqPacketStart => true
  | .cmdqPacketComplete _ => true
  | .nop r => decide (r < 4)
  | .echo _ => true
  | .cmdqFlush r => decide (r < 4)
  | .hostFunctionReset _ => true
  | .devCommit v => decide (v < 2 ^ 32)
  | .frontIssue counter => decide (counter < 2 ^ 32)
  | .idleCommitIssue => true
  | .unitEpochSwitch unit p fid => unitOk unit && decide (p < 8) && decide (fid < 2 ^ 64)
  | .frameLeavesUnit unit p fid => unitOk unit && decide (p < 8) && decide (fid < 2 ^ 64)
  | .patchDrainEnd p => decide (p < 8)
  | .devSnap => true
  | .snapComplete => true
  | .rateLimitedRecord typ _ => decide (typ < 0x10000)
  | .drvValidate arg => decide (arg < 2 ^ 32)
  | .drvStagePatch arg => decide (arg < 2 ^ 32)
  | .drvWriteSlotA arg => decide (arg < 2 ^ 32)
  | .drvWriteSlotB arg => decide (arg < 2 ^ 32)
  | .drvClearFailedDawn arg => decide (arg < 2 ^ 32)
  | .drvDiscardPatches arg => decide (arg < 2 ^ 32)
  | .drvRaiseFloor arg => decide (arg < 2 ^ 32)
  | .drvLoadFullImage arg => decide (arg < 2 ^ 32)
  | .drvFuseKey arg => decide (arg < 2 ^ 32)
  | .drvRevokeKey arg => decide (arg < 2 ^ 32)
  | .drvOperationEnd => true
  | .slkBlock lane sync payload => decide (lane < 64) && decide (sync < 4) && decide (payload < 2 ^ 64)
  | .alignBlock lane payload => decide (lane < 64) && decide (payload < 2 ^ 64)
  | .reacquire g => decide (g < 16)
  | .reacquireTimeout g => decide (g < 16)
  | .fs g _ => decide (g < 16)
  | .fe g _ => decide (g < 16)
  | .line g _ _ => decide (g < 16)
  | .obline g _ _ => decide (g < 16)
  | .embed g _ => decide (g < 16)
  | .frameTimeout stream => decide (stream < 64)
  | .csi2Fs port hdr => csiOk port hdr
  | .csi2Fe port hdr => csiOk port hdr
  | .csi2Raw port hdr data _ => csiOk port hdr && decide (data.length = hdr.wc)
  | .csi2Embedded port hdr data => csiOk port hdr && decide (data.length = hdr.wc)
  | .csi2Ignored port hdr => csiOk port hdr
  | .sgEdge g => decide (g < 8)
  | .sgPulseEnd g => decide (g < 8)
  | .rctFrame tile fid => decide (tile < 9) && decide (fid < 2 ^ 64)
  | .capFrame p fid => decide (p < 8) && decide (fid < 2 ^ 64)
  | .capSoftwareTrigger p v => decide (p < 8) && decide (v < 2 ^ 32)
  | .capTimeTrigger p => decide (p < 8)
  | .capDrain p v => decide (p < 8) && decide (v < 2 ^ 32)
  | .reissueFrame p => decide (p < 8)
  | .segmentRelease p v => decide (p < 8) && decide (v < 2 ^ 32)
  | .rcuFrame tile fid => decide (tile < 9) && decide (fid < 2 ^ 64)
  | .mediaScan _ ports => ports.all fun x => decide (x.port < 32)
  | .mediaFormat _ uuid now => decide (uuid < 2 ^ 128) && decide (now < 2 ^ 64)
  | .mediaOpen _ => true
  | .mediaClose _ => true
  | .takeStart _ => true
  | .takeStop _ => true
  | .checkpoint _ => true
  | .rebuild _ => true
  | .rowIssue p => decide (p < 8)
  | .rowWriteComplete _ failed => failed.all fun m => decide (m < 32)
  | .memberCommandTimeout member _ => decide (member < 32)
  | .recCommit => true
  | .mediaFenceComplete => true
  | .rebuildRow readFailed => readFailed.all fun m => decide (m < 32)
  | .duskLandingDone => true
  | .zstJob e => decide (e < 2)
  | .zstJobComplete e => decide (e < 2)
  | .dvtFrame tile fid => decide (tile < 13) && decide (fid < 2 ^ 64)
  | .outfFrame p b fid _ => decide (p < 8) && decide (b < 8) && decide (fid < 2 ^ 64)
  | .outfPublish p b => decide (p < 8) && decide (b < 8)
  | .peerCreditWrite r off v => decide (r < 32) && decide (off < 4096) && decide (v < 2 ^ 32)
  | .encodePicture k au => decide (k < 2) && decide (0 < au.data.length)
  | .rtpSendAu k _ => decide (k < 2)
  | .decodeDescriptor res => res.faults.all fun f => decide (f < 8)
  | .decodedPictureOutput pic => decide (pic.y.length = pic.width * pic.height)
  | .displayFrameStart => true
  | .vblankLatch => true
  | .evDispLock _ => true
  | .evDispUnderrun layer _ _ => decide (layer < 4)
  | .dsiTransferStart d => decide (d < 2)
  | .dsiTransferEnd d => decide (d < 2)
  | .teLost d => decide (d < 2)
  | .dsiCommand d v => decide (d < 2) && decide (v < 2 ^ 32)
  | .dsiResponseTimeout d => decide (d < 2)
  | .sdiInputFrame i f => decide (i < 2) && decide (f.luma.length = f.width * f.height)
  | .evSdiIn i _ std transfer => decide (i < 2) && decide (std < 16) && decide (transfer < 4)
  | .refreshTick => true
  | .hbmTempReport stack _ => decide (stack < 4)
  | .hbmRequest rqs => rqs.all fun rq => decide (rq.client < 256) && decide (rq.cls < 4) && decide (0 < (if rq.write then rq.data.length else rq.len))
  | .scrubRead _ => true
  | .caparAlert ch _ => decide (ch < 64)
  | .evHbmPanic client _ => decide (client < 256)
  | .panicDrop client _ cycles => decide (client < 256) && (cycles.all fun c => decide (c.1 < 64))
  | .channelRelease ch _ => decide (ch < 64)
  | .evHbmResync ch _ _ => decide (ch < 64)
  | .ppr ch v _ => decide (ch < 64) && decide (v < 2 ^ 32)
  | .marginScan ch eyes => decide (ch < 64) && decide (eyes.length = 72)
  | .controllerEnable cc => decide (cc < 2 ^ 32)
  | .controllerReset => true
  | .offloadLinkReset => true
  | .controllerShutdown shn => decide (shn < 4)
  | .nvmeSqDoorbell q tail => decide (q ≤ 64) && decide (tail < 2 ^ 16)
  | .nvmeDeleteIoSq c => nvmeOk c
  | .nvmeDeleteIoCq c => nvmeOk c
  | .nvmeCreateIoSq c => nvmeOk c
  | .nvmeCreateIoCq c => nvmeOk c
  | .nvmeGetLogPage c => nvmeOk c
  | .nvmeIdentify c => nvmeOk c
  | .nvmeAbort c => nvmeOk c
  | .nvmeSetFeatures c => nvmeOk c
  | .nvmeGetFeatures c => nvmeOk c
  | .nvmeAsyncEvent c => nvmeOk c
  | .nvmeFwDownload c _ => nvmeOk c
  | .nvmeFwCommit c _ => nvmeOk c
  | .firmwareActivation _ => true
  | .nvmeSelfTest c => nvmeOk c
  | .selfTestStep _ => true
  | .nvmeFlush c => nvmeOk c
  | .nvmeWrite c _ => nvmeOk c
  | .nvmeRead c => nvmeOk c
  | .nvmeCompare c _ => nvmeOk c
  | .nvmeWriteZeroes c => nvmeOk c
  | .nvmeVerify c => nvmeOk c
  | .memberReadFail _ _ => true
  | .exchangeRowWriteback _ => true
  | .powerStateReached => true
  | .apstTransition => true
  | .tbIncUpdate n hi => decide (n < 4) && decide (hi < 2 ^ 32)
  | .evTimeStep n hi => decide (n < 4) && decide (hi < 2 ^ 32)
  | .beat n => decide (n < 4)
  | .drop n => decide (n < 4)
  | .trackingLapse n => decide (n < 4)
  | .dtSwitch v => decide (v < 2 ^ 32)
  | .evTimeSlewDone => true
  | .timeCapture v => decide (v < 2 ^ 32)
  | .ptpTransmit p v => decide (p < 6) && decide (v < 2 ^ 32)
  | .txqPop p => decide (p < 6)
  | .ptpReceive p frame => decide (p < 6) && decide (14 ≤ frame.length)
  | .genlockReference std => decide (std = 1 || std = 2 || 0x10 ≤ std && std ≤ 0x19 || 0x20 ≤ std && std ≤ 0x27)
  | .genlockLoss => true
  | .ltcInFrame tc ub _ _ => decide (tc < 2 ^ 32) && decide (ub < 2 ^ 32)
  | .ltcInLoss => true
  | .ltcOutFrame => true
  | .ltcJam v => decide (v < 2 ^ 32)
  | .triggerEdge l _ _ => decide (l < 48)
  | .pulseSchedulerEdge k => decide (k < 4)
  | .skyEnable => true
  | .announceTimer => true
  | .formationDecision => true
  | .skyAnnounce m => skyOk m
  | .skyAssign m => skyOk m
  | .skyRequest m => skyOk m
  | .skyPrepare m => skyOk m
  | .skyAck m => skyOk m
  | .skyCommit m => skyOk m
  | .skyArrive m => skyOk m
  | .skyRelease m => skyOk m
  | .skySnap m => skyOk m
  | .skyReset m => skyOk m
  | .skyDone m => skyOk m
  | .skyLost m => skyOk m
  | .skyOpCommit arg => decide (arg < 2 ^ 32)
  | .skyOpBarrier arg => decide (arg < 2 ^ 32)
  | .skyOpSnapshot arg => decide (arg < 2 ^ 32)
  | .skyOpReset arg => decide (arg < 2 ^ 32)
  | .ackDeadline => true
  | .rootDecision => true
  | .barrierEnd => true
  | .snapCapture => true
  | .skyResetAct => true
  | .alSkyPath path _ => decide (path < 2)
  | .childLost node => decide (node < 2 ^ 16)
  | .rootLost => true
  | .skyKey _ => true
  | .audStart v => decide (v < 2 ^ 32)
  | .sampleFrame n _ => decide (n < 14)
  | .audioInputFrame n _ _ => decide (n < 14)
  | .evAudLock n _ => decide (n < 14)
  | .smbusRead addr cmd _ => decide (addr < 128) && (cmd.all fun c => decide (c < 256))
  | .smbusWrite addr cmd _ _ => decide (addr < 128) && decide (cmd < 256)
  | .smbusTimeout => true
  | .i2cGo c v => decide (c < 7) && decide (v < 2 ^ 32)
  | .i2cTryEnd c _ => decide (c < 7)
  | .i2cRetryDelay c => decide (c < 7)
  | .i2cFlush c => decide (c < 7)
  | .spiGo c v => decide (c < 4) && decide (v < 2 ^ 32)
  | .fifoPush f i v => fifoOk f i && decide (v < 2 ^ 32)
  | .fifoPop f i => fifoOk f i
  | .uartRxByte u b _ _ _ => decide (u < 2) && decide (b < 256)
  | .usbBusReset _ _ => true
  | .usbOutPacket _ => true
  | .usbInPacket => true
  | .usbSuspend => true
  | .usbResume => true
  | .dfuDnload blk _ => decide (blk < 2 ^ 16)
  | .dfuManifest => true
  | .dfuDetach => true
  | .sdInfo _ => true
  | .sdRead _ _ stop => decide (stop < 3)
  | .sdWrite _ _ stop => decide (stop < 4)
  | .evSdCard _ _ => true
  | .gpioSet b v => decide (b < 6) && decide (v < 2 ^ 32)
  | .gpioClr b v => decide (b < 6) && decide (v < 2 ^ 32)
  | .healthError kind _ cls tile => decide (kind < 11) && decide (cls < 4) && decide (tile < 16)
  | .replayComplete cls tile _ => decide (1 ≤ cls && cls < 4) && decide (tile < 16)
  | .gustLeakTick kind => decide (kind < 11)
  | .testFailedPair v _ => decide (v < 2 ^ 32)
  | .clearRetiredMark v => decide (v < 2 ^ 32)
  | .baroPlanCommand v => decide (v < 2 ^ 32)
  | .baroPeriodicPlan => true
  | .evBaroPlan _ => true
  | .railOffsetStep r _ => decide (r < 6)
  | .trailSpaceFreed dest => decide (dest < 19)
  | .traceSamplingRelax dest => decide (dest < 19)
  | .bbSeal => true
  | .powerOnReset straps _ serial => decide (straps < 2 ^ 32) && decide (serial < 2 ^ 64)
  | .dawnStep r => r.failed.all fun n => decide (n < 64)
  | .watchdogReset => true
  | .deviceReset v => decide (v < 2 ^ 32)
  | .vwarnCrossing _ => true
  | .vcritCrossing _ => true
  | .duskHoldEnd _ => true
  | .evCprDuskEnd _ => true
  | .domainSwitch v => decide (v < 2 ^ 32)
  | .evCprPd => true
  | .standbyEnter v => decide (v < 2 ^ 32)
  | .standbyEntered => true
  | .standbyExit v => decide (v < 2 ^ 32)
  | .standbyExited => true
  | .thermalTrip _ => true
  | .pipelineIdle p => decide (p < 8)
  | .landingWriteDeadline owing => owing.all fun m => decide (m < 32)
  | .pcieLinkStateChange _ r _ gen _ => decide (r < 32) && decide (gen < 8)
  | .dsiReadResponse d data _ => decide (d < 2) && decide (data.length ≤ 8)
  | .exchangeParityResyncEnd => true
  | .offloadMemberIoDone _ => true
  | .scheduledPulseEnd k => decide (k < 4)
  | .spiTransferEnd c _ => decide (c < 4)
  | .uartTxByte u => decide (u < 2)
  | .usbControlRequest rq => decide (rq.bRequest < 256) && decide (rq.wLength < 2 ^ 16)
  | .usbVbusChange _ => true

end Sys2Proof
end

