-- ==== Sys2Proof/Safety.lean ====
section
/-! DEFINITION. What counts as a safe run: the stores of the 9X stay canonical, and no step faults or is refused. -/

namespace Sys2Proof

/-- The commands that may write host memory: event records (R62), ring space (R68), PTP frames, ZST results. -/
def Instr.writesHost (c : Instr) : Bool :=
  match c with
  | .eventRecordPublish .. | .heldRecordFlush .. | .cmdqPacketStart .. | .cmdqPacketComplete .. | .nop .. | .cmdqFlush ..
  | .zstJobComplete .. | .ptpReceive .. | .trailSpaceFreed .. => true
  | _ => false

/-- The commands that may write memory of the offload host: completions and data of NVMe commands, and whatever ends one. -/
def Instr.writesOffloadHost (c : Instr) : Bool :=
  match c with
  | .registerWrite .. | .rcuFrame .. | .mediaScan .. | .mediaFormat .. | .mediaOpen .. | .mediaClose .. | .takeStart .. | .takeStop ..
  | .rebuild .. | .rowWriteComplete .. | .memberCommandTimeout .. | .recCommit .. | .mediaFenceComplete .. | .rebuildRow ..
  | .duskLandingDone .. | .zstJobComplete .. | .encodePicture .. | .controllerReset .. | .offloadLinkReset .. | .nvmeSqDoorbell ..
  | .nvmeDeleteIoSq .. | .nvmeDeleteIoCq .. | .nvmeCreateIoSq .. | .nvmeCreateIoCq .. | .nvmeGetLogPage .. | .nvmeIdentify ..
  | .nvmeAbort .. | .nvmeSetFeatures .. | .nvmeGetFeatures .. | .nvmeAsyncEvent .. | .nvmeFwDownload .. | .nvmeFwCommit ..
  | .firmwareActivation .. | .nvmeSelfTest .. | .nvmeFlush .. | .nvmeWrite .. | .nvmeRead .. | .nvmeCompare .. | .nvmeWriteZeroes ..
  | .nvmeVerify .. | .memberReadFail .. | .exchangeRowWriteback .. | .powerStateReached .. | .replayComplete .. | .dawnStep ..
  | .vwarnCrossing .. | .evCprPd .. | .standbyEnter .. | .standbyEntered .. | .standbyExit .. | .standbyExited ..
  | .landingWriteDeadline .. | .pcieLinkStateChange .. | .offloadMemberIoDone .. => true
  | _ => false

/-- The commands that may write HBM: what the units store, plan changes and resets. -/
def Instr.writesHbm (c : Instr) : Bool :=
  match c with
  | .registerWrite .. | .bulkWrite .. | .eventRecordPublish .. | .heldRecordFlush .. | .frontIssue .. | .idleCommitIssue ..
  | .unitEpochSwitch .. | .frameLeavesUnit .. | .patchDrainEnd .. | .slkBlock .. | .alignBlock .. | .reacquire .. | .fs .. | .fe ..
  | .line .. | .obline .. | .embed .. | .frameTimeout .. | .csi2Fs .. | .csi2Fe .. | .csi2Raw .. | .rctFrame .. | .capFrame ..
  | .rcuFrame .. | .duskLandingDone .. | .zstJobComplete .. | .dvtFrame .. | .outfFrame .. | .outfPublish .. | .encodePicture ..
  | .decodeDescriptor .. | .decodedPictureOutput .. | .vblankLatch .. | .sdiInputFrame .. | .hbmRequest .. | .scrubRead ..
  | .sampleFrame .. | .usbOutPacket .. | .dfuDnload .. | .sdRead .. | .replayComplete .. | .trailSpaceFreed .. | .powerOnReset ..
  | .dawnStep .. | .watchdogReset .. | .deviceReset .. | .vcritCrossing .. | .duskHoldEnd .. | .standbyExited .. | .thermalTrip ..
  | .pipelineIdle .. => true
  | _ => false

/-- The commands that may write MRAM: the black box, image slots, settings and bulk writes. -/
def Instr.writesMram (c : Instr) : Bool :=
  match c with
  | .registerWrite .. | .bulkWrite .. | .drvWriteSlotA .. | .drvWriteSlotB .. | .drvOperationEnd .. | .evBaroPlan ..
  | .trailSpaceFreed .. | .bbSeal .. | .dawnStep .. | .watchdogReset .. | .vwarnCrossing .. => true
  | _ => false

/-- The commands that may write LUT RAM: bulk writes, LUTS blobs of patches, images and resets. -/
def Instr.writesLut (c : Instr) : Bool :=
  match c with
  | .registerWrite .. | .bulkWrite .. | .frontIssue .. | .idleCommitIssue .. | .frameLeavesUnit .. | .patchDrainEnd .. | .fs .. | .fe ..
  | .line .. | .obline .. | .embed .. | .csi2Fs .. | .csi2Fe .. | .duskLandingDone .. | .powerOnReset .. | .dawnStep ..
  | .watchdogReset .. | .deviceReset .. | .vcritCrossing .. | .duskHoldEnd .. | .standbyEntered .. | .standbyExited .. | .thermalTrip ..
  | .pipelineIdle .. => true
  | _ => false

/-- The commands that may write what the members of the volume hold. -/
def Instr.writesMedia (c : Instr) : Bool :=
  match c with
  | .mediaFormat .. | .rebuild .. | .rowWriteComplete .. | .rebuildRow .. | .exchangeRowWriteback .. | .landingWriteDeadline ..
  | .exchangeParityResyncEnd .. => true
  | _ => false

end Sys2Proof

namespace Sys2Proof.Machine

/-- Every memory is in canonical form (addresses strictly rising, no entry equal to what an unlisted address reads as). -/
def State.memOk (s : State) : Bool := s.host.wf && s.ohost.wf && s.hbm.wf && s.mram.wf && s.lut.wf && s.ofl.cache.wf && s.media.wf

/-- Every memory and the register file are in canonical form: what the machine is to keep at every step. -/
def State.Canon (s : State) : Prop := s.memOk = true ∧ rising s.regs = true

/-- The fixed numbers of units, queues and ports (R13, R24, R81, R505): what reset gives and no step changes. -/
structure State.Shaped (s : State) : Prop where
  dests : s.dests.length = 19
  rings : s.rings.length = 4
  pipes : s.pipes.length = 8
  lanes : s.lanes.length = 64
  groups : s.groups.length = 16
  streams : s.streams.length = 64
  sgs : s.sgs.length = 8
  pss : s.pss.length = 4
  caps : s.caps.length = 8
  zst : s.zst.length = 2
  outfs : s.outfs.length = 64
  encs : s.encs.length = 2
  tb : s.time.tb.length = 4
  inc : s.time.inc.length = 4
  track : s.time.track.length = 4
  txq : s.time.txq.length = 6
  layers : s.disp.layers.length = 4
  dsi : s.disp.dsi.length = 2
  i2c : s.lsp.i2c.length = 8
  spi : s.lsp.spi.length = 4
  uart : s.lsp.uart.length = 2
  ports : s.aud.ports.length = 14

/-- A Sensor Link packet of type `typ` that stream `r` of a group that is UP takes: its header CRC is good, its lengths are allowed (R162
to R164). -/
structure State.PacketFor (s : State) (g typ : Nat) (pkt : Bytes) (r : StreamRec) : Prop where
  group : g < 16
  up : s.groupUp g = true
  whole : 16 ≤ pkt.length
  crc : crc16 (pkt.take 14) = (parseHdr pkt).hcrc
  typed : (parseHdr pkt).typ = typ
  short : (parseHdr pkt).length ≤ 32768
  data : ((pkt.drop 16).take (parseHdr pkt).length).length = (parseHdr pkt).length
  groups : typ = 3 ∨ typ = 4 → State.wholeGroups r.container (parseHdr pkt).length (parseHdr pkt).column = true
  stream : s.streamFor g (parseHdr pkt).stream = some r
  known : s.graph.stream? r.id = some r
  id : r.id < 64

/-- A CSI-2 packet with a good header reaches an enabled port and the stream of its virtual channel (R181, R183). -/
structure State.CsiFor (s : State) (c : Nat) (h : CsiHdr) (r : StreamRec) : Prop where
  port : c < 4
  takes : s.sfeTakes = true
  on : s.graph.portOn 2 c = true
  ecc : h.eccOk = true
  fixed : h.eccFixed = false
  vc : h.vc ≤ 15
  stream : s.csiStream c h.vc = some r
  known : s.graph.stream? r.id = some r
  id : r.id < 64

/-- The offload controller fetches command `c` of opcode `opc` (admin commands as 0x100 + opcode) and runs it: it is ready, the command's
queue has its turn, and neither PSDT nor FUSE is set (R415, R423, R424). -/
def State.Fetches (s : State) (c : NvmeCmd) (opc : Nat) : Prop :=
  s.oflPresent = true ∧ s.oflRdy = true ∧ s.oflPaused = false ∧ s.oflTurn c.sq = true ∧ nvmeCode c = opc ∧ c.opc < 0x100 ∧
    c.psdt = 0 ∧ c.fuse = 0 ∧ ∀ x ∈ s.ofl.cmds, x.id ≠ s.ofl.nextId

/-- No command of this identity is outstanding. -/
def State.Ended (s : State) (id : Nat) : Prop := ∀ x ∈ s.ofl.cmds, x.id ≠ id

/-- The completion queue entry of command `c` can be posted at once: queue `q` of the command and its completion queue `k`, with room
(R423, R437). -/
structure State.CanPost (s : State) (c : NvmeCmd) (q : OflSq) (k : OflCq) : Prop where
  regs : rising s.regs = true
  host : rising s.ohost = true
  idle : s.ofl.posts = []
  awake : s.oflAwake = true
  sq : s.oflSq c.sq = some q
  cq : s.oflCq q.cq = some k
  room : (k.tail + 1) % k.size ≠ k.head

/-- In `t` the completion entry of command `c` with this dword 0 and status stands at the tail that `s` has (R423, R424). -/
def State.GotEntry (t : State) (c : NvmeCmd) (q : OflSq) (k : OflCq) (dw0 status : Nat) : Prop :=
  t.ohost.read (k.base + 16 * k.tail) 16 = leBytes 4 dw0 ++ leBytes 4 0 ++ leBytes 2 ((q.head + 1) % q.size) ++ leBytes 2 q.id ++
    leBytes 2 c.cid ++ leBytes 2 (b2n k.phase + 2 * status)

/-- What only the offload controller changes: its state, its registers, the memory of the offload host, and what it sends. -/
def State.OflFrame (s t : State) : Prop :=
  t = { s with regs := t.regs, ofl := t.ofl, ohost := t.ohost, out := t.out } ∧
    ∀ (r : Reg) (ix : List Nat), (r.key ix < 0xC00000 ∨ 0xC01000 ≤ r.key ix) → t.rd r ix = s.rd r ix

/-- The message that datagram `m` carries, as received. -/
def skyParse (m : SkyMsg) : SkyIn :=
  let w (i n : Nat) : Nat := fieldLe m.bytes i n
  ⟨w 5 1, w 8 8, w 16 2, w 20 4, w 24 4, w 32 8, w 40 8, (m.bytes.drop 48).take (w 6 2)⟩

/-- The sky agent takes a message of this type on a path in use: hop limit, magic, version, length, key slot and HMAC hold, another
node sent it, its sequence is new and its time near (R469, R471, R472, R473). Its generation is the node's, or the type is one that a
forming node hears in any generation. -/
structure State.SkyTakes (s : State) (m : SkyMsg) (typ : Nat) : Prop where
  regs : rising s.regs = true
  on : s.skyState ≠ 0
  path : m.path ≤ 1
  used : s.skyPath m.path = true
  hop : m.hop = 255
  port : m.port = s.get Fl.SKY_CFG_udp_port
  joined : s.skyJoined m.path m.dst = true
  fits : m.bytes.length ≤ 1452
  magic : m.bytes.take 4 = [0x49, 0x4D, 0x53, 0x4B]
  version : fieldLe m.bytes 4 1 = 1
  typed : (skyParse m).typ = typ
  length : m.bytes.length = 80 + fieldLe m.bytes 6 2
  slot : fieldLe m.bytes 19 1 ≤ 1
  auth : (Config.hmacSha256 (s.sky.keys.getD (fieldLe m.bytes 19 1) []) (m.bytes.take (48 + fieldLe m.bytes 6 2))).toList =
    m.bytes.drop (48 + fieldLe m.bytes 6 2)
  another : (skyParse m).serial ≠ s.serial
  new : State.seqState (s.skyPeer (skyParse m).serial) (skyParse m).gen (skyParse m).seq = 0
  near : max (skyParse m).time s.dt - min (skyParse m).time s.dt ≤ second
  gen : (skyParse m).gen = s.skyGen ∨ typ = 1 ∨ ((s.skyState = 1 ∨ s.skyState = 3) ∧ typ = 2)

/-- The node has sent one message: a datagram on each path in use whose destination `dst` has an address. -/
def State.skySent (s t : State) (dst : Nat) : Prop :=
  ∃ l, t.out = s.out ++ l ∧ l.length = ([0, 1].filter fun p => s.skyPath p && (s.skyDest dst p).isSome).length ∧
    ∀ o ∈ l, ∃ p b, p ≤ 1 ∧ o = .eth (4 + p) b

/-- The sky agent's records but for the peers, which every accepted message brings up to date. -/
def State.SkyBut (s t : State) (f : SkySt → SkySt) : Prop := t.sky = { f s.sky with peers := t.sky.peers }

/-- A step that neither faults nor is refused. -/
def State.runs (s : State) : Bool :=
  match step s with
  | .next _ => true
  | .fault _ => false
  | .refused _ => false

/-- A safe run of `n` steps: each step answers a next state, and the memories are canonical throughout. -/
def State.safe (s : State) : Nat → Bool
  | 0 => s.memOk
  | n + 1 => s.memOk && (match step s with
    | .next t => t.safe n
    | .fault _ => false
    | .refused _ => false)

end Sys2Proof.Machine
end

