-- ==== Sys2Proof/Certificates/Slice0/Obligations.lean ====
section
/-! DEFINITION. The statements for the provers, chapter by chapter of the spec. Each clause about a command has the form: in every state
and for all operands that meet the premises, exec answers a next state of which the rules' effect holds. `rising s.regs = true` says that
the register file is in the canonical form that every step keeps (StepKeepsCanonicalStores); a field read back after a write needs it. -/

open Sys2Proof Sys2Proof.Machine

/-- The model's step (the queue of waiting commands is the model's own, log 41): the command in front runs on the rest of the queue. -/
def Obligations.StepRunsFrontCommand : Prop :=
  ∀ (c : Instr) (q : List Instr) (s : State), s.pending = c :: q → step s = exec c { s with pending := q }

/-- No command touches the queue of waiting commands. The model's choice (log 41): with no command waiting, one tick of 2 ns passes on the
time-base clock. -/
def Obligations.QueueAndTime : Prop :=
  (∀ (c : Instr) (s t : State), exec c s = .next t → t.pending = s.pending) ∧
  (∀ s : State, s.pending = [] → ∃ t, step s = .next t ∧ t.time.clk = s.time.clk + 2 ∧ t.pending = [])

/-- Only a power-on with a rail out of tolerance stops the machine (R590); every other command, whatever its operands and the state,
answers a next state. -/
def Obligations.EveryCommandCompletes : Prop :=
  (∀ (c : Instr) (s : State), (∀ straps serial, c ≠ .powerOnReset straps false serial) → ∃ t, exec c s = .next t) ∧
  ∀ (straps serial : Nat) (s : State), exec (.powerOnReset straps false serial) s = .fault .railsOutOfTolerance

/-- The invariant of the model: the register file and every memory keep their canonical form across every step. -/
def Obligations.StepKeepsCanonicalStores : Prop :=
  ∀ s t : State, s.Canon → step s = .next t → t.Canon

/-- The machine after reset is in canonical form and no command waits. -/
def Obligations.ResetIsCanonical : Prop :=
  State.reset.Canon ∧ State.reset.pending = []

/-- Frames of the memories: a command changes a byte of one of them only if it is among the commands that write it. -/
def Obligations.MemoriesChangeOnlyByTheirWriters : Prop :=
  ∀ (c : Instr) (s t : State), exec c s = .next t → ∀ a : Nat,
    (c.writesHost = false → t.host.get a = s.host.get a) ∧
    (c.writesOffloadHost = false → t.ohost.get a = s.ohost.get a) ∧
    (c.writesHbm = false → t.hbmByte a = s.hbmByte a) ∧
    (c.writesMram = false → t.mram.get a = s.mram.get a) ∧
    (c.writesLut = false → t.lut.get a = s.lut.get a) ∧
    (c.writesMedia = false → t.media.get a = s.media.get a)

/-- R26, R30, R37, R22, R27, R29, R149, R147: An access to a unit that is off is discarded or reads all-ones, and is noted in
DEV_STATUS.off_access; a read of ORD_FENCE returns the token last written. A read of a low half latches the high half for its requester
and for nobody else; other registers answer with their live value, a unit that is off with all-ones, and so does an access that is not
naturally aligned; the host function names itself; the mirror answers from the snapshot, and holds reads while a snapshot is taken. A
snapshot captures the live registers in one cycle, and its end releases the reads held for it. -/
def Obligations.HostReadsAndSnapshots : Prop :=
  ((∀ (off : Nat) (rd : Bool) (s : State), rising s.regs = true → s.reaches (blockOf off) = false → s.domainOn 2 = true →
    s.domainOn 17 = true →
    ∃ t, exec (.offDomainAccess off rd) s = .next t ∧ t.flag Fl.DEV_STATUS_off_access = true ∧
      t.out = s.out ++ (if rd then [.read 1 off 0xFFFFFFFF] else []) ∧ t = { s with regs := t.regs, out := t.out } ∧
      ∀ (r : Reg) (ix : List Nat), r.key ix ≠ R.DEV_STATUS.key [] → t.rd r ix = s.rd r ix) ∧
  (∀ s : State, exec .fenceRead s =
    .next { s with out := s.out ++ [.read 1 R.ORD_FENCE.off (if s.reaches .ord then s.rd R.ORD_FENCE else 0xFFFFFFFF)] })) ∧
  ((∀ (rq off : Nat) (lo hi : Reg) (row : RegRow) (ix jx : List Nat) (s : State), findPair false off = some (lo, hi, ix) → off % 4 = 0 →
    off < 0x2000000 → findReg off = some (row, jx) → row.reg ≠ R.ORD_SEM_ACQ → State.fifoReg row.reg = none →
    s.reaches (blockOf off) = true →
    ∃ t, exec (.loReadLatch rq off .bar0 4) s = .next t ∧ t.out = s.out ++ [.read rq off (s.readLive off)] ∧
      t.readHi rq (hi.off + instOffset hi.dims ix) = s.readHost (hi.off + instOffset hi.dims ix) ∧
      (∀ rq' o, (rq', o) ≠ (rq, hi.off + instOffset hi.dims ix) →
        (t.latch.find? fun e => e.1 = rq' && e.2.1 = o) = s.latch.find? fun e => e.1 = rq' && e.2.1 = o) ∧
      t = { s with out := t.out, latch := t.latch }) ∧
  (∀ (rq off : Nat) (row : RegRow) (jx : List Nat) (s : State), findPair false off = none → off % 4 = 0 → off < 0x2000000 →
    findReg off = some (row, jx) → row.reg ≠ R.ORD_SEM_ACQ → State.fifoReg row.reg = none → s.reaches (blockOf off) = true →
    exec (.loReadLatch rq off .bar0 4) s = .next { s with out := s.out ++
      [.read rq off (if (findPair true off).isSome then s.readHi rq off % 2 ^ 32 else s.readLive off)] }) ∧
  (∀ (rq off : Nat) (s : State), off % 4 = 0 → off < 0x2000000 → rising s.regs = true → s.reaches (blockOf off) = false →
    s.domainOn 2 = true → s.domainOn 17 = true →
    ∃ t, exec (.loReadLatch rq off .bar0 4) s = .next t ∧ t.out = s.out ++ [.read rq off 0xFFFFFFFF] ∧
      t.flag Fl.DEV_STATUS_off_access = true ∧ t = { s with regs := t.regs, out := t.out }) ∧
  (∀ (rq off size : Nat) (s : State), off % size ≠ 0 → off < 0x2000000 →
    exec (.loReadLatch rq off .bar0 size) s = .next { s with out := s.out ++ [.read rq off (2 ^ (8 * size) - 1)] }) ∧
  (∀ (rq : Nat) (s : State), s.domainOn 17 = true → s.get Fl.DEV_ID_part_id = 0x0904 →
    ∃ t, exec (.loReadLatch rq 0 .cfg 4) s = .next t ∧ t.out = s.out ++ [.read rq 0 0x09041F3B] ∧
      t = { s with out := t.out, free := t.free }) ∧
  (∀ (off : Nat) (s : State), s.reaches .dev = true → s.flag Fl.DEV_SNAP_go = false → off % 4 = 0 →
    exec (.mirrorRead off) s = .next { s with out := s.out ++ [.read 1 (off + 0x2000000) (s.mirrorWord off % 2 ^ 32)] }) ∧
  (∀ (off : Nat) (s : State), s.reaches .dev = true → s.flag Fl.DEV_SNAP_go = true → off % 4 = 0 →
    exec (.mirrorRead off) s = .next { s with heldReads := s.heldReads ++ [(off, 4)] }) ∧
  (∀ (off : Nat) (s : State), s.flag Fl.DEV_STATUS_mirror_valid = false → s.mirrorWord off = 0)) ∧
  ((∀ s : State, s.reaches .dev = true → s.flag Fl.DEV_SNAP_go = false → rising s.regs = true →
    ∃ t, exec .devSnap s = .next t ∧ t.mirror = s.capture ∧ t.flag Fl.DEV_SNAP_go = true ∧ t.flag Fl.DEV_STATUS_mirror_valid = true ∧
      t.rd R.DEV_SNAP_EPOCH = s.rd R.DEV_EPOCH_IN ∧ t.rd64 R.DEV_SNAP_TIME_LO R.DEV_SNAP_TIME_HI = s.dt ∧
      t = { s with regs := t.regs, mirror := t.mirror }) ∧
  (∀ s : State, s.flag Fl.DEV_SNAP_go = true → rising s.regs = true →
    ∃ t, exec .snapComplete s = .next t ∧ t.flag Fl.DEV_SNAP_go = false ∧ t.heldReads = [] ∧
      t.out = s.out ++ s.heldReads.map (fun e => .read 1 (e.1 + 0x2000000) (t.mirrorBytes e.1 e.2)) ∧
      t = { s with regs := t.regs, out := t.out, heldReads := [] } ∧
      ∀ (r : Reg) (ix : List Nat), r.key ix ≠ R.DEV_SNAP.key [] → t.rd r ix = s.rd r ix))

/-- R9, R26, R32, R36: one aligned 32-bit host write to a register of a unit all of whose registers are plain (STS, REC, OUTF's tables,
MPC, ZST and the tiles), outside a _LO and _HI pair: each RW and RWS field takes the bits written to it unless they are a reserved
encoding, a W1C field loses the bits written as 1, and RO and ST fields keep their values. A unit that is not reached takes nothing. -/
def Obligations.PlainRegisterWrite : Prop :=
  (∀ (off v : Nat) (row : RegRow) (ix jx : List Nat) (s : State), rising s.regs = true → off % 4 = 0 → off + 4 ≤ 0x2000000 → v < 2 ^ 32 →
    (blockOf off = .sts ∨ blockOf off = .recorder ∨ blockOf off = .outf ∨ blockOf off = .mpc ∨ blockOf off = .zst ∨
      ∃ n, blockOf off = .rct n ∨ blockOf off = .rcu n ∨ blockOf off = .dvt n) →
    findReg off = some (row, ix) → s.holder off row.reg ix = some jx → findPair false off = none → findPair true off = none →
    s.reaches (blockOf off) = true →
    ∃ t, exec (.registerWrite .bar0 off 4 15 v) s = .next t ∧ t = { s with regs := t.regs } ∧
      (∀ (r : Reg) (kx : List Nat), r.key kx ≠ row.reg.key jx → t.rd r kx = s.rd r kx) ∧
      ∀ d ∈ row.flds, (imageOk s.graph d jx (bits v d.hi d.lo) = true →
        (d.kind = .rw ∨ d.kind = .rws → d.allowed.ok (d.hi + 1 - d.lo) (bits v d.hi d.lo) = true → t.get d jx = bits v d.hi d.lo) ∧
        (d.kind = .rw ∨ d.kind = .rws → d.allowed.ok (d.hi + 1 - d.lo) (bits v d.hi d.lo) = false → t.get d jx = s.get d jx) ∧
        (d.kind = .w1c → t.get d jx = s.get d jx - (s.get d jx &&& bits v d.hi d.lo)) ∧
        (d.kind = .ro ∨ d.kind = .st → t.get d jx = s.get d jx))) ∧
  (∀ (off v : Nat) (s : State), rising s.regs = true → off % 4 = 0 → off + 4 ≤ 0x2000000 → s.reaches (blockOf off) = false →
    ∃ t, exec (.registerWrite .bar0 off 4 15 v) s = .next t ∧ t = { s with regs := t.regs } ∧
      ∀ (r : Reg) (ix : List Nat), r.key ix ≠ R.DEV_STATUS.key [] → t.rd r ix = s.rd r ix)

/-- R41, R42, R44, R46: the hardware semaphores. Owner resets and releases of a cycle come first; then a free semaphore goes to the lowest
requester left, and every attempt reads the owner it finds afterwards. -/
def Obligations.SemaphoreCycle : Prop :=
  (∀ (n : Nat) (reqs rels : List Nat) (s : State), n < 64 → (∀ r ∈ reqs, 1 ≤ r ∧ r ≤ 5) → s.reaches .ord = true → rising s.regs = true →
    ∃ t, exec (.semAcquire n reqs rels []) s = .next t ∧
      t.semOwner n = (if s.semOwner n = 0 ∨ s.semOwner n ∈ rels then (reqs.min?).getD 0 else s.semOwner n) ∧
      t.out = s.out ++ reqs.map (fun r => .read r (R.ORD_SEM_ACQ.key [n])
        (b2n (t.semOwner n = r) * 2 ^ 31 + s.get Fl.ORD_SEM_CTL_orphan [n] * 2 ^ 30 + t.semOwner n)) ∧
      t = { s with regs := t.regs, out := t.out } ∧
      ∀ (r : Reg) (ix : List Nat), r.key ix ≠ R.ORD_SEM_ACQ.key [n] → r.key ix ≠ R.ORD_SEM_CTL.key [n] → t.rd r ix = s.rd r ix) ∧
  (∀ (n o : Nat) (s : State), n < 64 → 1 ≤ o → o ≤ 5 → s.reaches .ord = true → rising s.regs = true → s.semOwner n = o →
    ∃ t, exec (.semAcquire n [] [] [o]) s = .next t ∧ t.semOwner n = 0 ∧ t.get Fl.ORD_SEM_CTL_orphan [n] = 1 ∧
      ∃ r, t.raised = s.raised ++ [r] ∧ r.typ = 0x0002 ∧ r.src = srcORD) ∧
  (∀ (n rq : Nat) (s : State), n < 64 → rq ≠ 0 → s.reaches .ord = true → rising s.regs = true →
    ∃ t, exec (.semRelease n rq) s = .next t ∧ t.semOwner n = (if s.semOwner n = rq then 0 else s.semOwner n) ∧
      t = { s with regs := t.regs } ∧
      ∀ (r : Reg) (ix : List Nat), r.key ix ≠ R.ORD_SEM_ACQ.key [n] → r.key ix ≠ R.ORD_SEM_CTL.key [n] → t.rd r ix = s.rd r ix) ∧
  (∀ (n rq : Nat) (s : State), n < 64 → rq ≠ 0 → s.reaches .ord = true → rising s.regs = true →
    ∃ t, exec (.semOrphanClear n rq) s = .next t ∧ t.semOwner n = s.semOwner n ∧
      t.get Fl.ORD_SEM_CTL_orphan [n] = (if s.semOwner n = rq then 0 else s.get Fl.ORD_SEM_CTL_orphan [n]) ∧
      t = { s with regs := t.regs } ∧
      ∀ (r : Reg) (ix : List Nat), r.key ix ≠ R.ORD_SEM_ACQ.key [n] → r.key ix ≠ R.ORD_SEM_CTL.key [n] → t.rd r ix = s.rd r ix)

/-- R49: a promotion moves a request that waits in BULK to NORM, or one in NORM to HI, and its arbiter counts it; a limit that runs since
an earlier promotion has then passed. A request that waits in HI, or as RT, stays where it is, and the other requests stay where they are.
-/
def Obligations.PromotionRaisesOneClass : Prop :=
  (∀ (arb id cls : Nat) (c : Fld) (s : State), promoCounter arb = some c →
    (arb = 3 → id < 4 ∧ (s.rings.getD id Ring.init).cursor ≠ s.rd R.CMDQ_TAIL [id]) → rising s.regs = true →
    s.waitClass arb id cls = 1 ∨ s.waitClass arb id cls = 2 →
    ∃ t, exec (.updraftPromotion arb id cls) s = .next t ∧ t.waitClass arb id cls = s.waitClass arb id cls - 1 ∧
      t.get c = (s.get c + 1) % 2 ^ (c.hi + 1 - c.lo) ∧
      (∀ e, s.promoted? arb id = some e → e.2 + s.updraftLimit (s.waitClass arb id cls) < t.time.clk) ∧
      ∀ arb' id' cls', (arb', id') ≠ (arb, id) → (arb' = 3 → id' < 4) → t.waitClass arb' id' cls' = s.waitClass arb' id' cls') ∧
  (∀ (arb id cls : Nat) (s : State), s.waitClass arb id cls ≠ 1 → s.waitClass arb id cls ≠ 2 →
    exec (.updraftPromotion arb id cls) s = .next s)

/-- R53, R54, R55, R57: the bulk port. A session starts from a setup that R54 allows; its bytes go, one place after the other, to the
target, and what comes in outside a session only sets the overrun bit. -/
def Obligations.BulkSession : Prop :=
  (∀ (v : Nat) (s : State), s.reaches .bulk = true → rising s.regs = true → s.bulkActive = false →
    (s.writeFields ⟨R.BULK_CTRL, [Fl.BULK_CTRL_dir, Fl.BULK_CTRL_target, Fl.BULK_CTRL_mode]⟩ [] v).bulkSetupOk = true →
    ∃ t, exec (.bulkArm v) s = .next t ∧ t.bulkActive = true ∧ t.flag Fl.BULK_CTRL_arm = true ∧
      t.rd64 R.BULK_CUR_LO R.BULK_CUR_HI = s.rd64 R.BULK_ADDR_LO R.BULK_ADDR_HI ∧
      t.bulk.addr = s.rd64 R.BULK_ADDR_LO R.BULK_ADDR_HI ∧ t.bulk.width = s.get Fl.BULK_WIDTH_width ∧
      t.bulk.rows = s.get Fl.BULK_ROWS_rows ∧ t.bulk.row = 0 ∧ t.bulk.col = 0 ∧ t = { s with regs := t.regs, bulk := t.bulk }) ∧
  (∀ (v : Nat) (s : State), s.reaches .bulk = true → rising s.regs = true → s.bulkActive = false →
    (s.writeFields ⟨R.BULK_CTRL, [Fl.BULK_CTRL_dir, Fl.BULK_CTRL_target, Fl.BULK_CTRL_mode]⟩ [] v).bulkSetupOk = false →
    ∃ t, exec (.bulkArm v) s = .next t ∧ t.bulkActive = false ∧ t.flag Fl.BULK_STAT_setup = true ∧ t = { s with regs := t.regs }) ∧
  (∀ (x y : List (Bool × Byte)) (s t u : State), s.reaches .bulk = true → exec (.bulkWrite x) s = .next t → exec (.bulkWrite y) t = .next u →
    t.reaches .bulk = true → exec (.bulkWrite (x ++ y)) s = .next u) ∧
  (∀ (b : Byte) (s : State), s.reaches .bulk = true → rising s.regs = true → s.bulkActive = true → s.bulk.rd = false →
    s.bulk.target = 2 → State.bulkAddr s.bulk < 0x4000000 → State.mramWritable (State.bulkAddr s.bulk) = true →
    s.flag Fl.CPR_DUSK_STAT_below = false → rising s.mram = true →
    ∃ t, exec (.bulkWrite [(true, b)]) s = .next t ∧ t.mram.get (State.bulkAddr s.bulk) = b ∧
      ∀ a, a ≠ State.bulkAddr s.bulk → t.mram.get a = s.mram.get a) ∧
  (∀ (b : Byte) (s : State), s.reaches .bulk = true → rising s.regs = true → s.bulkActive = true → s.bulk.rd = false →
    s.bulk.target = 0 → s.mapped (State.bulkAddr s.bulk) = true →
    (State.reservedLo ≤ State.bulkAddr s.bulk → State.inStaging (State.bulkAddr s.bulk) = true) → s.hbmc.down = [] → rising s.hbm = true →
    ∃ t, exec (.bulkWrite [(true, b)]) s = .next t ∧ t.hbmByte (State.bulkAddr s.bulk) = b ∧
      ∀ a, a ≠ State.bulkAddr s.bulk → t.hbmByte a = s.hbmByte a) ∧
  (∀ (en : Bool) (b : Byte) (s : State), s.reaches .bulk = true → rising s.regs = true → s.bulkActive = false ∨ s.bulk.rd = true →
    ∃ t, exec (.bulkWrite [(en, b)]) s = .next t ∧ t.flag Fl.BULK_STAT_overrun = true ∧ t = { s with regs := t.regs }) ∧
  (∀ s : State, s.reaches .bulk = true → rising s.regs = true → s.bulkActive = true → s.bulk.rd = true → s.bulk.target = 0 →
    s.mapped (State.bulkAddr s.bulk) = true →
    ∃ t, exec (.bulkRead 1) s = .next t ∧
      t.out = s.out ++ [.bytes [s.hbmByte (State.bulkAddr s.bulk)] (s.poisonedAt (State.bulkAddr s.bulk) 1)]) ∧
  (∀ s : State, s.reaches .bulk = true → rising s.regs = true → s.bulkActive = false ∨ s.bulk.rd = false →
    ∃ t, exec (.bulkRead 1) s = .next t ∧ t.out = s.out ++ [.bytes [0xFF] false] ∧ t.flag Fl.BULK_STAT_overrun = true) ∧
  (∀ (n : Nat) (s : State), s.reaches .bulk = false →
    exec (.bulkRead n) s = .next { s with out := s.out ++ [.bytes (List.replicate n 0xFF) false] })

/-- R58, R61, R62: a completion record is published in the queue it names, where the queue has room and nothing is held for it: its 32
bytes stand in the slot at TAIL, TAIL and its write-back move on by one, and no other byte of host memory changes. -/
def Obligations.CompletionRecordPublished : Prop :=
  ∀ (src q : Nat) (r : Rec) (rest : List Rec) (s : State), s.trailNext src = some (r, rest) → r.cls = .completion →
    r.dst = q → q < 16 → rising s.regs = true → rising s.host = true → s.destFull q = false → s.destHolds q = false →
    let slot := s.rd64 R.EVQ_BASE_LO R.EVQ_BASE_HI [q] + s.rd R.EVQ_TAIL [q] % s.evqSize q * 32
    let back := s.rd64 R.EVQ_TAILWB_LO R.EVQ_TAILWB_HI [q]
    (back + 4 ≤ slot ∨ slot + 32 ≤ back) →
    ∃ t, exec (.eventRecordPublish src) s = .next t ∧ (∃ more, t.raised = rest ++ more) ∧
      t.rd R.EVQ_TAIL [q] = (s.rd R.EVQ_TAIL [q] + 1) % 2 ^ 32 ∧ t.host.read slot 32 = r.encode ∧
      t.host.readLe back 4 = (s.rd R.EVQ_TAIL [q] + 1) % 2 ^ 32 ∧
      ∀ a, (a < slot ∨ slot + 32 ≤ a) → (a < back ∨ back + 4 ≤ a) → t.host.get a = s.host.get a

/-- R62: a head doorbell is taken only if the level it leaves lies from 0 to the ring size; a reset of a queue is taken only while the
queue is disabled. -/
def Obligations.QueueHeadAndReset : Prop :=
  (∀ (q v : Nat) (s : State), q < 16 → v < 2 ^ 32 → s.reaches .evq = true → rising s.regs = true →
    (s.rd R.EVQ_TAIL [q] + 2 ^ 32 - v) % 2 ^ 32 ≤ s.evqSize q →
    ∃ t, exec (.evqHeadDoorbell q v) s = .next t ∧ t.rd R.EVQ_HEAD [q] = v ∧ t.rd R.EVQ_TAIL [q] = s.rd R.EVQ_TAIL [q] ∧
      t.get Fl.EVQ_LEVEL_level [q] = (s.rd R.EVQ_TAIL [q] + 2 ^ 32 - v) % 2 ^ 32 % 2 ^ 16 ∧
      t = { s with regs := t.regs, disarmed := t.disarmed, raised := t.raised }) ∧
  (∀ (q v : Nat) (s : State), q < 16 → v < 2 ^ 32 → s.reaches .evq = true →
    s.evqSize q < (s.rd R.EVQ_TAIL [q] + 2 ^ 32 - v) % 2 ^ 32 → exec (.evqHeadDoorbell q v) s = .next s) ∧
  (∀ (q : Nat) (s : State), q < 16 → s.reaches .evq = true → rising s.regs = true → s.flag Fl.EVQ_CTRL_enable [q] = false →
    ∃ t, exec (.evqReset q) s = .next t ∧ t.rd R.EVQ_HEAD [q] = 0 ∧ t.rd R.EVQ_TAIL [q] = 0 ∧ t.get Fl.EVQ_LEVEL_level [q] = 0 ∧
      t = { s with regs := t.regs, dests := t.dests, disarmed := t.disarmed, raised := t.raised }) ∧
  (∀ (q : Nat) (s : State), s.reaches .evq = true → s.flag Fl.EVQ_CTRL_enable [q] = true → exec (.evqReset q) s = .next s)

/-- R63, R64, R556, R25: Once a queue has room, what is held for it goes out until the queue is full again or nothing is held; a held
alarm takes the slot at TAIL; an unsignalled record is signalled when the moderation time runs out. A vector that is signalled sends its
message if it is enabled and not masked, and is left pending if it is masked. -/
def Obligations.HeldRecordsAndModeration : Prop :=
  ((∀ (q : Nat) (s : State), q < 16 → rising s.regs = true →
    ∃ t, exec (.heldRecordFlush q) s = .next t ∧ (t.destFull q = true ∨ t.destHolds q = false)) ∧
  (∀ (q : Nat) (e : Held) (s : State), q < 16 → q < s.dests.length → rising s.regs = true → rising s.host = true →
    s.destFull q = false → (s.dest q).held = [e] → (s.dest q).lost = 0 → (s.dest q).compl = [] →
    let slot := s.rd64 R.EVQ_BASE_LO R.EVQ_BASE_HI [q] + s.rd R.EVQ_TAIL [q] % s.evqSize q * 32
    let back := s.rd64 R.EVQ_TAILWB_LO R.EVQ_TAILWB_HI [q]
    (back + 4 ≤ slot ∨ slot + 32 ≤ back) →
    ∃ t, exec (.heldRecordFlush q) s = .next t ∧ t.host.read slot 32 = (State.heldRec q e).encode ∧
      t.rd R.EVQ_TAIL [q] = (s.rd R.EVQ_TAIL [q] + 1) % 2 ^ 32 ∧ t.destHolds q = false ∧
      ∀ a, (a < slot ∨ slot + 32 ≤ a) → (a < back ∨ back + 4 ≤ a) → t.host.get a = s.host.get a) ∧
  (∀ (q : Nat) (s : State), q < 16 → q < s.dests.length → (s.dest q).unsig ≠ 0 → s.get Fl.EVQ_IMOD_timeout [q] ≠ 0 →
    ∃ t, exec (.evqImodTimeout q) s = .next t ∧ (t.dest q).unsig = 0 ∧ t.raised = s.raised ∧ t.regs = s.regs ∧
      (∀ d, d ≠ q → t.dest d = s.dest d) ∧ t = { s with dests := t.dests, out := t.out, msixPba := t.msixPba })) ∧
  ((∀ (q : Nat) (s : State), q < 16 → (s.dest q).unsig ≠ 0 → s.get Fl.EVQ_IMOD_timeout [q] ≠ 0 → s.msixEnable = true → s.msixMask = false →
    (lookAt 1 s.msixTable (4 * q + 3)).toNat % 2 = 0 →
    ∃ t addr data, exec (.evqImodTimeout q) s = .next t ∧ t.out = s.out ++ [.msix q addr data] ∧ t.msixPba = s.msixPba) ∧
  (∀ (q : Nat) (s : State), q < 16 → (s.dest q).unsig ≠ 0 → s.get Fl.EVQ_IMOD_timeout [q] ≠ 0 → s.msixEnable = true →
    (s.msixMask = true ∨ (lookAt 1 s.msixTable (4 * q + 3)).toNat % 2 = 1) →
    ∃ t, exec (.evqImodTimeout q) s = .next t ∧ t.out = s.out ∧ q ∈ t.msixPba))

/-- R190, R598: a rate-limited record reports every occurrence of its type and instance since the last one, with the fields of the newest,
and comes at least a millisecond after the one before it. -/
def Obligations.LimitedRecordReportsAll : Prop :=
  ∀ (typ inst : Nat) (r : Rec) (s : State), (s.limited.filter fun x => x.typ = typ && x.inst = inst).getLast? = some r →
    ∃ t p, exec (.rateLimitedRecord typ inst) s = .next t ∧ t.raised = s.raised ++ [{ r with payload := p }] ∧ r.typ = typ ∧ r.inst = inst ∧
      (limitForm typ = .countHi 0 → p / 2 ^ 32 =
        sumOf (fun x => x / 2 ^ 32) ((s.limited.filter fun x => x.typ = typ && x.inst = inst).map fun x => x.payload) % 2 ^ 32) ∧
      (∀ x ∈ t.limited, ¬(x.typ = typ ∧ x.inst = inst)) ∧ (∀ x ∈ s.limited, ¬(x.typ = typ ∧ x.inst = inst) → x ∈ t.limited) ∧
      (∀ x, (s.limitedAt.find? fun x => x.1 = typ && x.2.1 = inst) = some x → x.2.2 + 1000000 ≤ t.time.clk) ∧
      ((s.limitedAt.find? fun x => x.1 = typ && x.2.1 = inst) = none → t.time = s.time) ∧
      (∀ (r : Reg) (ix : List Nat), r.key ix ≠ R.BARO_HOURS.key [] → r.key ix ≠ R.BARO_NEXT.key [] → t.rd r ix = s.rd r ix) ∧
      t = { s with raised := t.raised, limited := t.limited, limitedAt := t.limitedAt, time := t.time, aud := t.aud, nv := t.nv,
                   regs := t.regs }

/-- R67, R68, R71: a tail doorbell; a poll that finds the slot still reserved leaves the ring waiting; a malformed length word halts the
ring and is reported with the byte count of HEAD. -/
def Obligations.RingDoorbellAndPoll : Prop :=
  (∀ (r v : Nat) (s : State), r < 4 → v < 2 ^ 32 → s.reaches .cmdq = true → rising s.regs = true →
    ∃ t, exec (.cmdqTailDoorbell r v) s = .next t ∧ t.rd R.CMDQ_TAIL [r] = v ∧ t.rd R.CMDQ_HEAD [r] = s.rd R.CMDQ_HEAD [r] ∧
      t.packets = s.packets ∧ (∀ r' : Nat, r' < 4 → r' ≠ r → t.rd R.CMDQ_TAIL [r'] = s.rd R.CMDQ_TAIL [r']) ∧
      t = { s with regs := t.regs, rings := t.rings, nextId := s.nextId + 1, disarmed := t.disarmed, raised := t.raised }) ∧
  (∀ (r : Nat) (s : State), r < 4 → rising s.regs = true → s.flag Fl.CMDQ_CTRL_enable [r] = true → s.flag Fl.CMDQ_STAT_halted [r] = false →
    s.slot r = .waiting →
    ∃ t, exec (.cmdqPoll r) s = .next t ∧ t.flag Fl.CMDQ_STAT_waiting [r] = true ∧ t = { s with regs := t.regs }) ∧
  (∀ (r w : Nat) (s : State), r < 4 → rising s.regs = true → s.flag Fl.CMDQ_CTRL_enable [r] = true →
    s.flag Fl.CMDQ_STAT_halted [r] = false → s.slot r = .bad w → (s.ring r).cursor = s.rd R.CMDQ_HEAD [r] →
    ∃ t e, exec (.cmdqPoll r) s = .next t ∧ t.flag Fl.CMDQ_STAT_halted [r] = true ∧ t.flag Fl.CMDQ_STAT_badpkt [r] = true ∧
      t.flag Fl.CMDQ_STAT_waiting [r] = false ∧ t.raised = s.raised ++ [e] ∧ e.typ = 0x0003 ∧ e.src = srcCMDQ ∧ e.inst = r ∧
      e.payload = (w + 2 ^ 32 * s.rd R.CMDQ_HEAD [r]) % 2 ^ 64 ∧ t = { s with regs := t.regs, raised := t.raised })

/-- R65, R69, R70, R71, R68: Firmware starts the packet that the service chooses, runs it and ends it with its completion record, which a
route may suppress on ST_OK; the cursor of its ring moves past a packet as it starts. A packet that is malformed or has an unknown opcode
only gets its record (which of the two records wins is the model's choice, log 93). A NOP that no fence holds back is consumed without a
record, its space is zeroed, and no other byte of host memory changes. -/
def Obligations.PacketStartRunEnd : Prop :=
  ((∀ (p : Packet) (s : State),
    let u := (List.range 4).foldl (fun t r => t.cmdqLook r) s
    State.chooseNext ((List.range 4).filterMap fun r => u.runnable r) = some p → State.packetReserved p = false → knownOpcode p.opcode = true →
    s.rings.length = 4 → p.ring < 4 →
    ∃ t, exec .cmdqPacketStart s = .next t ∧ t.packets = s.packets ++ [p] ∧
      (t.ring p.ring).cursor = ((s.ring p.ring).cursor + p.len) % 2 ^ 32 ∧ t.promoted? 3 p.ring = none ∧
      ∀ r : Nat, r ≠ p.ring → t.ring r = s.ring r) ∧
  (∀ (p : Packet) (s : State),
    let u := (List.range 4).foldl (fun t r => t.cmdqLook r) s
    State.chooseNext ((List.range 4).filterMap fun r => u.runnable r) = some p → p.discard = false →
    State.packetReserved p = true ∨ knownOpcode p.opcode = false →
    ∃ t e more, exec .cmdqPacketStart s = .next t ∧ t.packets = s.packets ∧ t.raised = u.raised ++ [e] ++ more ∧
      e.typ = (if State.packetReserved p = true then stBadArg else stBadOp) ∧ e.inst = p.ring ∧ e.dst = p.route % 16) ∧
  (∀ (id : Nat) (p : Packet) (s : State), s.started id 1 = some p →
    ∃ t, exec (.echo id) s = .next t ∧ t.packets = s.packets.map (fun x => if x.id = id then { x with result := some (stOk, 0) } else x) ∧
      t = { s with packets := t.packets }) ∧
  (∀ (id st data : Nat) (p : Packet) (rest : List Packet) (s : State),
    takeFirst (fun x => x.id = id && x.result.isSome) s.packets = some (p, rest) → p.result = some (st, data) → p.discard = false →
    (st ≠ stOk ∨ bit p.route 4 = false) →
    ∃ t e more, exec (.cmdqPacketComplete id) s = .next t ∧ t.packets = rest ∧ t.raised = s.raised ++ [e] ++ more ∧ e.typ = st ∧
      e.src = srcCMDQ ∧ e.inst = p.ring ∧ e.dst = p.route % 16 ∧
      e.payload = (p.tag + 2 ^ 32 * p.opcode + 2 ^ 48 * (data % 2 ^ 16)) % 2 ^ 64) ∧
  (∀ (id : Nat) (p : Packet) (rest : List Packet) (s : State),
    takeFirst (fun x => x.id = id && x.result.isSome) s.packets = some (p, rest) → p.discard = true →
    exec (.cmdqPacketComplete id) s = .next { s with packets := rest })) ∧
  (∀ (r len : Nat) (s : State), r < 4 → rising s.host = true → s.rings.length = 4 → s.ringServed r = true →
    s.slot r = .packet len → (s.packetAt r len).opcode = 0 → s.fenced (s.packetAt r len) = false →
    ∃ t, exec (.nop r) s = .next t ∧ (t.ring r).cursor = ((s.ring r).cursor + len) % 2 ^ 32 ∧
      (∀ a, s.ringAddr r (s.ring r).cursor ≤ a → a < s.ringAddr r (s.ring r).cursor + len → t.host.get a = 0) ∧
      ∀ a, (a < s.ringAddr r (s.ring r).cursor ∨ s.ringAddr r (s.ring r).cursor + len ≤ a) → t.host.get a = s.host.get a)

/-- R72, R74: a flush that has been asked for takes effect at the packet boundary; a reset of the host function disables every queue and
ring, lets go of its MSI-X structures, ends a bulk session and discards the records of the packets still running. -/
def Obligations.FlushAndHostFunctionReset : Prop :=
  (∀ (r : Nat) (s : State), r < 4 → rising s.regs = true → s.flag Fl.CMDQ_CTRL_flush [r] = true →
    (∀ p ∈ s.packets, p.ring = r → p.discard = true) →
    ∃ t, exec (.cmdqFlush r) s = .next t ∧ t.flag Fl.CMDQ_CTRL_flush [r] = false) ∧
  (∀ (r : Nat) (s : State), r < 4 → rising s.regs = true → s.flag Fl.CMDQ_CTRL_flush [r] = true →
    (∀ p ∈ s.packets, p.ring = r → p.discard = true) → s.slot r = .empty →
    ∃ t, exec (.cmdqFlush r) s = .next t ∧ t.flag Fl.CMDQ_STAT_halted [r] = false ∧ t.host = s.host ∧ t.packets = s.packets) ∧
  (∀ (r len : Nat) (s : State), r < 4 → rising s.regs = true → s.flag Fl.CMDQ_CTRL_flush [r] = true →
    (∀ p ∈ s.packets, p.ring = r → p.discard = true) → s.slot r = .packet len → (s.packetAt r len).opcode ≠ 0 →
    ∃ t e more, exec (.cmdqFlush r) s = .next t ∧ t.raised = s.raised ++ [e] ++ more ∧ e.typ = stFlushed ∧ e.inst = r ∧
      e.dst = (s.packetAt r len).route % 16 ∧ t.packets = s.packets) ∧
  (∀ (kind : HostResetKind) (s : State), rising s.regs = true → s.powered .evq = true → s.powered .bulk = true → s.powered .ord = true →
    ∃ t, exec (.hostFunctionReset kind) s = .next t ∧ t.msixTable = [] ∧ t.msixPba = [] ∧ t.msixEnable = false ∧ t.heldReads = [] ∧
      (∀ p ∈ t.packets, p.discard = true) ∧ (∀ r ∈ t.raised, State.cmdqDone r = false) ∧ t.bulkActive = false ∧
      (∀ q : Nat, q < 16 → t.flag Fl.EVQ_CTRL_enable [q] = false ∧ t.rd R.EVQ_HEAD [q] = 0 ∧ t.rd R.EVQ_TAIL [q] = 0) ∧
      (∀ r : Nat, r < 4 → t.flag Fl.CMDQ_CTRL_enable [r] = false ∧ t.rd R.CMDQ_HEAD [r] = 0 ∧ t.rd R.CMDQ_TAIL [r] = 0) ∧
      ∀ n : Nat, n < 64 → t.semOwner n = (if s.semOwner n = 1 then 0 else s.semOwner n))

/-- R104, R116, R34: A write with go = 1 to DRV_CTRL starts the operation that it names, unless another runs; the result of its checks is
known from the start. While an operation runs, a second one does not start; DRV_CTRL takes the fields of the write. -/
def Obligations.DravyaOperationStarts : Prop :=
  (∀ (v op : Nat) (chk : State → DrvCode) (c : Instr) (s : State),
    (c, op, chk) ∈ [(Instr.drvValidate v, 0, State.chkValidate), (Instr.drvStagePatch v, 1, State.chkStage),
      (Instr.drvWriteSlotA v, 2, State.chkSlot), (Instr.drvWriteSlotB v, 3, State.chkSlot),
      (Instr.drvClearFailedDawn v, 4, fun t => t.chkSetting true), (Instr.drvDiscardPatches v, 5, fun t => t.chkSetting false),
      (Instr.drvRaiseFloor v, 6, fun t => t.chkSetting true), (Instr.drvLoadFullImage v, 7, State.chkLoad),
      (Instr.drvFuseKey v, 8, State.chkFuse), (Instr.drvRevokeKey v, 9, State.chkRevoke)] →
    v < 2 ^ 32 → s.reaches .drv = true → rising s.regs = true → bit v 0 = true → bits v 7 4 = op → bits v 10 8 ≤ 3 →
    s.flag Fl.DRV_STAT_busy = false →
    let u := (s.put Fl.DRV_CTRL_arg [] (bits v 10 8)).put Fl.DRV_CTRL_op [] op
    ∃ t, exec c s = .next t ∧ t.flag Fl.DRV_STAT_busy = true ∧ t.flag Fl.DRV_CTRL_go = true ∧ t.get Fl.DRV_CTRL_op = op ∧
      t.get Fl.DRV_CTRL_arg = bits v 10 8 ∧ t.drv.run = some (op, (chk u).1, (chk u).2.1, (chk u).2.2) ∧ t.drv.staged = s.drv.staged ∧
      t.nv = s.nv ∧ (op = 1 → (chk u).1 = 0 → t.drv.patch.isSome = true) ∧
      (op ≠ 2 → op ≠ 3 → t.mram = s.mram) ∧ t = { s with regs := t.regs, mram := t.mram, drv := t.drv }) ∧
  (∀ (v : Nat) (c : Instr) (s : State), c ∈ [Instr.drvValidate v, .drvStagePatch v, .drvWriteSlotA v, .drvWriteSlotB v, .drvClearFailedDawn v,
      .drvDiscardPatches v, .drvRaiseFloor v, .drvLoadFullImage v, .drvFuseKey v, .drvRevokeKey v] →
    s.reaches .drv = true → rising s.regs = true → s.flag Fl.DRV_STAT_busy = true →
    ∃ t, exec c s = .next t ∧ t = { s with regs := t.regs } ∧
      ∀ (r : Reg) (ix : List Nat), r.key ix ≠ R.DRV_CTRL.key [] → t.rd r ix = s.rd r ix)

/-- R101, R102, R103, R108, R110, R113, R116: an operation ends with its effect and its record; a failed one changes nothing but its error
report. -/
def Obligations.DravyaOperationEnds : Prop :=
  (∀ (op : Nat) (s : State), op ≤ 9 → s.drv.run = some (op, 0, 0, 0) → rising s.regs = true → rising s.mram = true →
    ∃ t e, exec .drvOperationEnd s = .next t ∧ t.flag Fl.DRV_STAT_busy = false ∧ t.flag Fl.DRV_CTRL_go = false ∧
      t.flag Fl.DRV_STAT_done = true ∧ t.drv.run = none ∧ t.raised = s.raised ++ [e] ∧ e.typ = 0x0040 ∧ e.src = srcDRV ∧ e.payload = op ∧
      (∀ x, op = 1 → s.drv.patch = some x → t.drv.staged = (s.drv.staged.filter fun y => y.pipe ≠ x.pipe) ++ [x]) ∧
      (op = 2 → t.mram.read 0 s.drv.hdr.length = s.drv.hdr ∧ t.nv.fails = 0) ∧
      (op = 3 → t.mram.read 0x1000000 s.drv.hdr.length = s.drv.hdr) ∧
      (op = 4 → t.nv = { s.nv with fails := 0 } ∧ t.get Fl.DRV_STAT_fail_count = 0) ∧
      (op = 5 → t.drv.staged = [] ∧ t.get Fl.DRV_STAT_staged = 0) ∧
      (op = 6 → t.nv.floor = max s.nv.floor (s.rd R.DRV_IMG_VER)) ∧
      (op = 7 → t.flag Fl.DEV_STATUS_ready = false ∧ t.get Fl.CPR_DAWN_step = 5) ∧
      (∀ k, op = 8 → s.fuseSlot = some k → t.nv.fused = s.nv.fused ||| 2 ^ k ∧ t.nv.keys = s.nv.keys ++ [(k, s.hbmRead State.reservedLo 48)]) ∧
      (op = 9 → t.nv.revoked = s.nv.revoked ||| 2 ^ s.get Fl.DRV_CTRL_arg)) ∧
  (∀ (op code sec off : Nat) (s : State), s.drv.run = some (op, code, sec, off) → code ≠ 0 → code < 256 → sec < 256 → off < 2 ^ 32 →
    rising s.regs = true →
    ∃ t e, exec .drvOperationEnd s = .next t ∧ t.flag Fl.DRV_STAT_busy = false ∧ t.flag Fl.DRV_STAT_error = true ∧
      t.get Fl.DRV_ERR_code = code ∧ t.get Fl.DRV_ERR_section = sec ∧ t.rd R.DRV_ERR_OFF = off ∧ t.drv.run = none ∧
      t.drv.staged = s.drv.staged ∧ t.raised = s.raised ++ [e] ∧ e.typ = 0x0041 ∧ e.src = srcDRV ∧
      t = { s with regs := t.regs, raised := t.raised, drv := t.drv, cpr := t.cpr })

/-- R119, R122, R34: a commit samples the shadows and the staged patches at once; while one is pending, another write starts none. -/
def Obligations.CommitSamplesShadows : Prop :=
  (∀ (v : Nat) (s : State), v < 2 ^ 32 → s.reaches .dev = true → rising s.regs = true → bit v 0 = true → bits v 5 4 ≤ 2 → s.front = none →
    s.flag Fl.DEV_COMMIT_go = false → (∀ x ∈ s.drv.staged, ∀ w ∈ x.presets, 0x10000 ≤ w.1) →
    ∃ t f, exec (.devCommit v) s = .next t ∧ t.front = some f ∧ f.num = (s.rd R.DEV_EPOCH_IN + 1) % 2 ^ 32 ∧ f.cond = bits v 5 4 ∧
      f.refPipe = bits v 10 8 ∧ f.patches = s.drv.staged ∧ f.arrival = s.time.clk ∧ f.sky = false ∧ t.drv.staged = [] ∧
      t.get Fl.DRV_STAT_staged = 0 ∧ t.flag Fl.DEV_COMMIT_STAT_pending = true ∧ t.flag Fl.DEV_COMMIT_go = true ∧
      t.rd R.DEV_EPOCH_IN = s.rd R.DEV_EPOCH_IN ∧ t = { s with regs := t.regs, front := t.front, drv := t.drv }) ∧
  (∀ (v : Nat) (s : State), s.reaches .dev = true → s.front.isSome = true →
    ∃ t, exec (.devCommit v) s = .next t ∧ t = { s with regs := t.regs } ∧
      ∀ (r : Reg) (ix : List Nat), r.key ix ≠ R.DEV_COMMIT.key [] → t.rd r ix = s.rd r ix)

/-- R123, R127, R128, R131, R132, R136: a front is issued at the first boundary of ref_pipe that qualifies, or at the epoch instant where
ref_pipe is idle; DEV_EPOCH_IN then holds its number. A boundary that comes too early passes and makes the commit late. -/
def Obligations.FrontIsIssued : Prop :=
  (∀ (f : Front) (s : State), s.front = some f → s.pipeIdle f.refPipe = true → rising s.regs = true → (f.sky = true → f.go = true) →
    let u := s.reachClk (f.arrival + tFs)
    let w := if f.cond = 2 then u.reachDt f.time else u
    w.epochRoom = true → (f.cond = 2 → f.time ≤ w.dt) →
    ∃ t, exec .idleCommitIssue s = .next t ∧ t.front = none ∧ t.rd R.DEV_EPOCH_IN = f.num % 2 ^ 32 ∧ t.flag Fl.DEV_COMMIT_go = false ∧
      t.flag Fl.DEV_COMMIT_STAT_pending = false) ∧
  (∀ (counter : Nat) (f : Front) (r : StreamRec) (s : State), s.front = some f → s.graph.streamOf f.refPipe = some r →
    s.graph.stream? r.id = some r → s.graph.pipeOf r.id = some f.refPipe → r.mosaic = 0 → rising s.regs = true →
    (s.streamSt r.id).opened = none → (s.streamSt r.id).lastClosed ≠ some counter → (r.stream, counter) ∉ (s.streamSt r.id).excl →
    (f.sky = true → f.go = true) → f.cond ≠ 1 →
    let u := s.reachClk (f.arrival + tFs)
    let w := if f.cond = 2 then u.reachDt f.time else u
    w.sfeTakes = true → w.epochRoom = true → (f.cond ≠ 0 → f.targetSeen = true ∨ f.time ≤ w.dt) → (∀ fid, w.beginsCycle f.refPipe fid = true) →
    ∃ t, exec (.frontIssue counter) s = .next t ∧ t.front = none ∧ t.rd R.DEV_EPOCH_IN = f.num % 2 ^ 32) ∧
  (∀ (f : Front) (fid newFid : Nat) (s : State), s.targetReached f fid = true → s.time.clk < f.arrival + tFs → rising s.regs = true →
    ∃ g, (s.frontAt f fid newFid).front = some g ∧ g.passed = f.passed + 1 ∧ g.targetSeen = true ∧ g.late ≠ 0 ∧
      (s.frontAt f fid newFid).flag Fl.DEV_COMMIT_STAT_commit_late = true)

/-- R126, R133, R134, R139, R144: the units and pipelines of an epoch. A unit takes up a frame's settings at its first sample, a frame
that leaves a unit is no longer in it, a drained pipeline lets in the frames that wait for no later patch, and a pipeline that becomes
idle takes every front due. -/
def Obligations.FramesAndPipelinesMove : Prop :=
  (∀ (u : FlowUnit) (p fid : Nat) (f : Frame) (s : State), s.frameIn u p fid = some f → s.unitDone f u = true →
    ∃ t, exec (.frameLeavesUnit u p fid) s = .next t ∧ ∀ g ∈ t.frames, g.pipe = p → g.fid = fid → u ∉ g.units) ∧
  (∀ (p fid : Nat) (f : Frame) (s : State), s.frameIn .outf p fid = some f → f.entered.contains .outf = false →
    f.entered.contains .dvt = true → s.powered .outf = true →
    ∃ t, exec (.unitEpochSwitch .outf p fid) s = .next t ∧ ∀ g ∈ t.frames, g.pipe = p → g.fid = fid → FlowUnit.outf ∈ g.units →
      FlowUnit.outf ∈ g.entered) ∧
  (∀ (u : FlowUnit) (p fid : Nat) (f : Frame) (s : State), s.frameIn u p fid = some f → f.entered.contains u = true →
    exec (.unitEpochSwitch u p fid) s = .next s) ∧
  (∀ (p : Nat) (s : State), p < s.pipes.length → (s.pipeSt p).draining = true → s.drained p = true → s.front = none →
    ∃ t, exec (.patchDrainEnd p) s = .next t ∧ (t.pipeSt p).draining = !(s.laterDrains p).isEmpty ∧
      (t.pipeSt p).drainOf = s.laterDrains p ∧ (s.laterDrains p = [] → ∀ f ∈ t.frames, f.pipe = p → f.waiting = false)) ∧
  (∀ (p : Nat) (s : State), p < 8 → p < s.pipes.length → (s.pipeSt p).idle = false → s.front = none →
    ∃ t, exec (.pipelineIdle p) s = .next t ∧ (t.pipeSt p).idle = true ∧ (t.pipeSt p).due = [] ∧
      ∀ e, (s.pipeSt p).due.getLast? = some e → (t.pipeSt p).epoch = e)

/-- R152, R154, R155, R158: how a lane comes up. A block of a lane that is off is ignored; the 64th valid block in a row takes a lane from
SIGNAL to BLOCK; the first ALIGN block of a lane in BLOCK gives it its logical number. -/
def Obligations.LaneComesUp : Prop :=
  (∀ (l sync payload : Nat) (s : State), s.laneOn l = false →
    exec (.slkBlock l sync payload) s = .next s ∧ exec (.alignBlock l payload) s = .next s) ∧
  (∀ (l sync payload : Nat) (s : State), l < 64 → s.Shaped → rising s.regs = true → s.laneOn l = true → s.laneState l = 1 →
    (sync = 1 ∨ sync = 2) → (sync = 1 → isAlign (payload % 2 ^ 64) = false) → (s.lane l).valids = 63 →
    blockError sync (descramble (s.lane l).scr (payload % 2 ^ 64)).1 = false →
    ∃ t, exec (.slkBlock l sync payload) s = .next t ∧ t.laneState l = 2 ∧ (t.lane l).logical = none ∧
      (∀ m, m ≠ l → t.lane m = s.lane m) ∧ t = { s with regs := t.regs, lanes := t.lanes }) ∧
  (∀ (l payload : Nat) (s : State), l < 64 → s.Shaped → rising s.regs = true → s.laneOn l = true → s.laneState l = 2 →
    isAlign (payload % 2 ^ 64) = true → (s.lane l).logical = none →
    ∃ t, exec (.alignBlock l payload) s = .next t ∧ (t.lane l).logical = some (payload / 2 ^ 8 % 256) ∧ (t.lane l).since = 0 ∧
      t.laneState l = 2 ∧ (∀ m, m ≠ l → t.lane m = s.lane m) ∧ t = { s with regs := t.regs, lanes := t.lanes })

/-- R155: a reacquisition takes the group down and its lanes back to SIGNAL, and shows in its bit until the bit clears, 10 ms later or
with the lock. -/
def Obligations.GroupReacquires : Prop :=
  (∀ (g : Nat) (s : State), g < 16 → s.reaches .sfe = true → rising s.regs = true → s.flag Fl.SFE_G_CTRL_reacquire [g] = false →
    (∀ l ∈ s.groupLanes g, l < 64) → s.Shaped →
    ∃ t, exec (.reacquire g) s = .next t ∧ t.flag Fl.SFE_G_CTRL_reacquire [g] = true ∧ t.flag Fl.SFE_G_STAT_up [g] = false ∧
      (∀ l ∈ s.groupLanes g, t.laneState l ≤ 1) ∧ (s.flag Fl.SFE_G_STAT_up [g] = false → t = { s with regs := t.regs, lanes := t.lanes })) ∧
  (∀ (g : Nat) (s : State), g < 16 → rising s.regs = true →
    ∃ t, exec (.reacquireTimeout g) s = .next t ∧ t.flag Fl.SFE_G_CTRL_reacquire [g] = false ∧ t = { s with regs := t.regs } ∧
      ∀ (r : Reg) (ix : List Nat), r.key ix ≠ R.SFE_G_CTRL.key [g] → t.rd r ix = s.rd r ix)

/-- R163, R167, R168, R174, R169, R170, R176: Sensor Link packets. FS opens a frame with its counter; LINE, OBLINE and EMBED of the open
frame bring in their samples and data, unless the payload CRC fails and the stream discards such lines. A frame closes with its FE, or
with a time-out, which flags it. -/
def Obligations.SensorLinkPacketsAndFrames : Prop :=
  ((∀ (g : Nat) (pkt : Bytes) (r : StreamRec) (s : State), s.PacketFor g 1 pkt r → s.Shaped → (s.streamSt r.id).opened = none →
    (s.streamSt r.id).lastClosed ≠ some (parseHdr pkt).counter →
    ((parseHdr pkt).stream, (parseHdr pkt).counter) ∉ (s.streamSt r.id).excl →
    crc32c ((pkt.drop 16).take (parseHdr pkt).length) = (parseHdr pkt).pcrc →
    ∃ t f, exec (.fs g pkt) s = .next t ∧ (t.streamSt r.id).opened = some f ∧ f.counter = (parseHdr pkt).counter ∧ f.free = false ∧
      bit f.fsw fswFsMissing = false ∧ (t.streamSt r.id).seen = true ∧ (t.streamSt r.id).lastCounter = (parseHdr pkt).counter) ∧
  (∀ (g area : Nat) (full : Bool) (c : Instr) (pkt : Bytes) (r : StreamRec) (f : OpenFrame) (q : Src) (s : State),
    (c, area) ∈ [(Instr.line g pkt full, 0), (Instr.obline g pkt full, 1)] → s.PacketFor g (3 + area) pkt r →
    (s.streamSt r.id).opened = some f → f.free = false → s.srcState r.id (parseHdr pkt).stream = some q → q.st = 1 →
    q.cnt = (parseHdr pkt).counter → ((parseHdr pkt).stream, (parseHdr pkt).counter) ∉ (s.streamSt r.id).excl →
    crc32c ((pkt.drop 16).take (parseHdr pkt).length) = (parseHdr pkt).pcrc →
    exec c s = .next (((s.bufferFull full).takePacket g pkt).addToDie r.id (parseHdr pkt).stream area (parseHdr pkt).exposure (parseHdr pkt).line
      (parseHdr pkt).column (unpackAll r.container ((pkt.drop 16).take (parseHdr pkt).length)))) ∧
  (∀ (g : Nat) (pkt : Bytes) (r : StreamRec) (f : OpenFrame) (q : Src) (s : State), s.PacketFor g 5 pkt r → s.Shaped →
    (s.streamSt r.id).opened = some f → f.free = false → s.srcState r.id (parseHdr pkt).stream = some q → q.st = 1 →
    q.cnt = (parseHdr pkt).counter → ((parseHdr pkt).stream, (parseHdr pkt).counter) ∉ (s.streamSt r.id).excl →
    crc32c ((pkt.drop 16).take (parseHdr pkt).length) = (parseHdr pkt).pcrc →
    ∃ t f', exec (.embed g pkt) s = .next t ∧ (t.streamSt r.id).opened = some f' ∧
      f'.embed = (f.embed ++ (pkt.drop 16).take (parseHdr pkt).length).take 0x10000 ∧
      (bit f'.fsw fswAuxCut = true ∨ f.embed.length + (parseHdr pkt).length ≤ 0x10000) ∧
      t = { s with groups := t.groups, streams := t.streams })) ∧
  ((∀ (g : Nat) (pkt : Bytes) (r : StreamRec) (f : OpenFrame) (q : Src) (s : State), s.PacketFor g 2 pkt r → s.Shaped →
    (s.streamSt r.id).opened = some f → f.free = false → f.srcs = [q] → q.die = (parseHdr pkt).stream → q.st = 1 →
    q.cnt = (parseHdr pkt).counter → ((parseHdr pkt).stream, (parseHdr pkt).counter) ∉ (s.streamSt r.id).excl →
    ∃ t, exec (.fe g pkt) s = .next t ∧ (t.streamSt r.id).opened = none ∧ (t.streamSt r.id).lastClosed = some f.counter) ∧
  (∀ (n : Nat) (r : StreamRec) (f : OpenFrame) (s : State), n < 64 → s.Shaped → rising s.regs = true → s.graph.stream? n = some r →
    (s.streamSt n).opened = some f →
    ∃ t, exec (.frameTimeout n) s = .next t ∧ (t.streamSt n).opened = none ∧ bit (t.rd R.SFE_S_LASTFSW [n]) fswFeMissing = true ∧
      bit (t.rd R.SFE_S_LASTFSW [n]) fswFlagged = true ∧ f.clk + s.timeoutSpan r ≤ t.time.clk ∧ ∃ e ∈ t.limited, e.typ = 0x0051 ∧ e.src = srcSFE ∧ e.inst = n) ∧
  (∀ (n : Nat) (s : State), (s.streamSt n).opened = none → exec (.frameTimeout n) s = .next s))

/-- R181, R182, R183: CSI-2. FS opens a frame under its frame number, FE closes it, the n-th raw packet is a line, embedded data gathers,
other short packets change nothing. -/
def Obligations.CsiPacketsTaken : Prop :=
  (∀ (c : Nat) (h : CsiHdr) (r : StreamRec) (s : State), s.CsiFor c h r → s.Shaped → (s.streamSt r.id).opened = none →
    (h.wc = 0 ∨ (s.streamSt r.id).lastClosed ≠ some h.wc) → (r.stream, h.wc) ∉ (s.streamSt r.id).excl →
    ∃ t f, exec (.csi2Fs c h) s = .next t ∧ (t.streamSt r.id).opened = some f ∧ f.counter = h.wc ∧ f.free = decide (h.wc = 0)) ∧
  (∀ (c : Nat) (h : CsiHdr) (r : StreamRec) (f : OpenFrame) (q : Src) (s : State), s.CsiFor c h r → s.Shaped →
    (s.streamSt r.id).opened = some f → f.free = true → f.srcs = [q] → q.die = r.stream →
    ∃ t, exec (.csi2Fe c h) s = .next t ∧ (t.streamSt r.id).opened = none) ∧
  (∀ (c : Nat) (h : CsiHdr) (data : Bytes) (full : Bool) (r : StreamRec) (f : OpenFrame) (s : State), s.CsiFor c h r → h.dt = 0x2B + r.container →
    State.wholeGroups r.container data.length 0 = true → (s.streamSt r.id).opened = some f → h.crcOk = true →
    exec (.csi2Raw c h data full) s = .next (((s.bufferFull full).modOpen r.id fun g => { g with raws := g.raws + 1 }).addToDie r.id r.stream
      (if f.raws < f.obRows then 1 else 0) 0 (if f.raws < f.obRows then f.raws else f.raws - f.obRows) 0 (unpackAll r.container data))) ∧
  (∀ (c : Nat) (h : CsiHdr) (data : Bytes) (r : StreamRec) (f : OpenFrame) (s : State), s.CsiFor c h r → s.Shaped →
    (s.streamSt r.id).opened = some f → h.crcOk = true →
    ∃ t f', exec (.csi2Embedded c h data) s = .next t ∧ (t.streamSt r.id).opened = some f' ∧ f'.embed = (f.embed ++ data).take 0x10000 ∧
      t = { s with streams := t.streams }) ∧
  (∀ (c : Nat) (h : CsiHdr) (s : State), c < 4 → s.sfeTakes = true → s.graph.portOn 2 c = true → h.eccOk = true → h.eccFixed = false →
    h.vc ≤ 15 → exec (.csi2Ignored c h) s = .next s)

/-- R187, R188, R465, R466, R467, R464: Shutter generators and pulse schedulers. The edge that is due starts its pulse on the line whose
source it is; the pulse ends with the opposite level, its width later. An edge of an input line shows in GPIO_IN and, where the line
captures that edge, in its time-stamp, its count and, where it raises events, a record. A pulse shorter than the glitch filter's time is
ignored. -/
def Obligations.GeneratorsAndTriggers : Prop :=
  ((∀ (g k : Nat) (s : State), g < 8 → s.Shaped → rising s.regs = true →
    let c := s.sgCfg g
    let u := s.reachEdge c (s.sg g)
    u.dueEdge c (u.sg g) = some (k, 0) → State.pulseWidth c ≠ 0 → c.line < 48 → u.get Fl.TIME_L_CTRL_src [c.line] = 1 + g →
    u.lineOut c.line = true → (u.sg g).on = none →
    ∃ t, exec (.sgEdge g) s = .next t ∧ (t.sg g).on = some (u.time.clk + State.pulseWidth c, c.line, c.activeLow) ∧
      (t.sg g).next = (if c.mode = 1 then some (k + 1) else none) ∧ Out.line c.line (!c.activeLow) (u.pinTime u.dt) ∈ t.out) ∧
  (∀ (g at_ l : Nat) (low : Bool) (s : State), g < 8 → s.Shaped → rising s.regs = true → (s.sg g).on = some (at_, l, low) → l < 48 →
    s.get Fl.TIME_L_CTRL_src [l] = 1 + g → s.lineOut l = true →
    let u := s.reachClk at_
    ∃ t, exec (.sgPulseEnd g) s = .next t ∧ (t.sg g).on = none ∧ at_ ≤ t.time.clk ∧ t.out = s.out ++ [.line l low (u.pinTime u.dt)] ∧
      t = { u with regs := t.regs, sgs := t.sgs, out := t.out }) ∧
  (∀ (k j l : Nat) (s : State), k < 4 → s.Shaped → rising s.regs = true →
    let c := s.psCfg k
    let u := s.reachEdge c (s.pss.getD k Gen.init)
    u.dueEdge c (u.pss.getD k Gen.init) = some (j, 0) → State.pulseWidth c ≠ 0 → l < 48 → u.get Fl.TIME_L_CTRL_src [l] = 9 + k →
    u.lineOut l = true → (u.pss.getD k Gen.init).on = none →
    ∃ t, exec (.pulseSchedulerEdge k) s = .next t ∧ (t.pss.getD k Gen.init).on = some (u.time.clk + State.pulseWidth c, 0, c.activeLow) ∧
      t.get Fl.TIME_PS_CNT_emitted [k] = (u.get Fl.TIME_PS_CNT_emitted [k] + 1) % 2 ^ (Fl.TIME_PS_CNT_emitted.hi + 1 - Fl.TIME_PS_CNT_emitted.lo) ∧
      Out.line l (!c.activeLow) (u.pinTime u.dt) ∈ t.out) ∧
  (∀ (k at_ l m : Nat) (low : Bool) (s : State), k < 4 → s.Shaped → rising s.regs = true →
    (s.pss.getD k Gen.init).on = some (at_, m, low) → l < 48 → s.get Fl.TIME_L_CTRL_src [l] = 9 + k → s.lineOut l = true →
    let u := s.reachClk at_
    ∃ t, exec (.scheduledPulseEnd k) s = .next t ∧ (t.pss.getD k Gen.init).on = none ∧ at_ ≤ t.time.clk ∧
      Out.line l low (u.pinTime u.dt) ∈ t.out ∧ t = { u with regs := t.regs, pss := t.pss, out := t.out })) ∧
  ((∀ (l width : Nat) (up : Bool) (s : State), l < 48 → rising s.regs = true → s.graph.portOn 0x11 (l / 8) = true →
    2 * s.get Fl.TIME_L_CTRL_filt [l] ≤ width → bit (s.get Fl.TIME_L_CTRL_edge [l]) (if up then 0 else 1) = true →
    ∃ t, exec (.triggerEdge l up width) s = .next t ∧ bit (t.get Fl.LSP_GPIO_IN_lines [l / 8]) (l % 8) = up ∧
      t.get Fl.TIME_L_CNT_count [l] = (s.get Fl.TIME_L_CNT_count [l] + 1) % 2 ^ 32 ∧
      (if up then t.rd64 R.TIME_L_RISE_LO R.TIME_L_RISE_HI [l] else t.rd64 R.TIME_L_FALL_LO R.TIME_L_FALL_HI [l]) =
        (State.in64ths (s.dtFine - signed 32 (s.rd R.TIME_PIN_IN) * (2 ^ 26 : Nat)).toNat).1 ∧
      (s.flag Fl.TIME_L_CTRL_ev_en [l] = true → ∃ e ∈ t.raised, e.typ = 0x00E5 ∧ e.src = srcTIME ∧ e.inst = l)) ∧
  (∀ (l width : Nat) (up : Bool) (s : State), width < 2 * s.get Fl.TIME_L_CTRL_filt [l] → exec (.triggerEdge l up width) s = .next s))

/-- R444, R445, R447, R449, R450, R451, R452: the time bases. An increment in range is used from then on, one out of range is not taken; a
step moves its base once, and DT follows as the mode selects; beat and drop start and end tracking; a switch makes the target active. -/
def Obligations.TimeBasesMove : Prop :=
  (∀ (n hi : Nat) (s : State), n < 4 → s.reaches .time = true → rising s.regs = true → s.Shaped →
    let v := s.pairValue R.TIME_TB_INC_LO [n] hi
    0x1FF7CED91 ≤ v → v ≤ 0x20083126F →
    ∃ t, exec (.tbIncUpdate n hi) s = .next t ∧ t.time.inc.getD n 0 = v ∧ (∀ m, m ≠ n → t.time.inc.getD m 0 = s.time.inc.getD m 0) ∧
      t.rd64 R.TIME_TB_INC_LO R.TIME_TB_INC_HI [n] = v ∧ t = { s with regs := t.regs, time := t.time, lowHalf := t.lowHalf }) ∧
  (∀ (n hi : Nat) (s : State), n < 4 → s.reaches .time = true →
    let v := s.pairValue R.TIME_TB_INC_LO [n] hi
    v < 0x1FF7CED91 ∨ 0x20083126F < v →
    ∃ t, exec (.tbIncUpdate n hi) s = .next t ∧ t = { s with lowHalf := t.lowHalf }) ∧
  (∀ (n hi : Nat) (s : State), n < 4 → n ≠ 2 → s.reaches .time = true → rising s.regs = true → s.Shaped → s.baseIgnored n = false →
    let d : Int := signed 64 (s.pairValue R.TIME_TB_ADJ_LO [n] hi) * (2 ^ 32 : Nat)
    0 ≤ (s.time.tb.getD n 0 : Nat) + d → (s.time.tb.getD n 0 : Nat) + d < (2 ^ 96 : Nat) →
    ∃ t e, exec (.evTimeStep n hi) s = .next t ∧ (t.time.tb.getD n 0 : Nat) = (s.time.tb.getD n 0 : Nat) + d ∧
      (∀ m, m ≠ n → t.time.tb.getD m 0 = s.time.tb.getD m 0) ∧ (s.get Fl.TIME_DT_STAT_active ≠ n → t.time.ofs = s.time.ofs) ∧
      (s.get Fl.TIME_DT_STAT_active = n → s.flag Fl.TIME_DT_CTRL_mode = false → t.dtFine = s.dtFine) ∧
      (s.get Fl.TIME_DT_STAT_active = n → s.flag Fl.TIME_DT_CTRL_mode = true → t.time.ofs = 0 ∧ t.flag Fl.TIME_DT_STAT_stepped = true) ∧
      t.raised = s.raised ++ [e] ∧ e.typ = 0x00E2 ∧ e.src = srcTIME ∧ e.inst = n) ∧
  (∀ (hi : Nat) (s : State), s.reaches .time = true → exec (.evTimeStep 2 hi) s = .next s) ∧
  (∀ (n : Nat) (s : State), n < 4 → s.reaches .time = true → rising s.regs = true → s.Shaped → s.flag Fl.TIME_DT_STAT_holdover = false →
    ∃ t, exec (.beat n) s = .next t ∧ t.tracking n = true ∧ t.time.track.getD n 0 = s.get Fl.TIME_TB_HEALTH_wdog_ms [n] * 1000000 ∧
      (∀ m, m ≠ n → t.time.track.getD m 0 = s.time.track.getD m 0) ∧ t = { s with regs := t.regs, time := t.time }) ∧
  (∀ (n : Nat) (s : State), n < 2 → s.reaches .time = true → rising s.regs = true → s.flag Fl.TIME_DT_STAT_holdover = true →
    s.get Fl.TIME_DT_STAT_active = n →
    ∃ t, exec (.beat n) s = .next t ∧ t.tracking n = true ∧ t.flag Fl.TIME_DT_STAT_holdover = false) ∧
  (∀ (n : Nat) (s : State), n < 4 → s.reaches .time = true → rising s.regs = true → s.tracking n = true →
    s.flag Fl.TIME_DT_CTRL_auto = false ∨ s.get Fl.TIME_DT_STAT_active ≠ n →
    ∃ t, exec (.drop n) s = .next t ∧ t.tracking n = false ∧ t.flag Fl.TIME_TB_STAT_lost [n] = s.flag Fl.TIME_TB_STAT_lost [n] ∧
      t = { s with regs := t.regs, time := t.time } ∧
      ∀ (r : Reg) (ix : List Nat), r.key ix ≠ R.TIME_TB_STAT.key [n] → t.rd r ix = s.rd r ix) ∧
  (∀ (n : Nat) (s : State), n < 2 → s.reaches .time = true → rising s.regs = true → s.tracking n = true →
    s.flag Fl.TIME_DT_CTRL_auto = true → s.get Fl.TIME_DT_STAT_active = n → s.tracking (1 - n) = true →
    ∃ t, exec (.drop n) s = .next t ∧ t.get Fl.TIME_DT_STAT_active = 1 - n ∧ t.dtFine = s.dtFine) ∧
  (∀ (n : Nat) (s : State), n < 2 → s.reaches .time = true → rising s.regs = true → s.tracking n = true →
    s.flag Fl.TIME_DT_CTRL_auto = true → s.get Fl.TIME_DT_STAT_active = n → s.tracking (1 - n) = false →
    ∃ t, exec (.drop n) s = .next t ∧ t.get Fl.TIME_DT_STAT_active = n ∧ t.flag Fl.TIME_DT_STAT_holdover = true) ∧
  (∀ (n : Nat) (s : State), n < 4 → rising s.regs = true → s.tracking n = true →
    s.flag Fl.TIME_DT_CTRL_auto = false ∨ s.get Fl.TIME_DT_STAT_active ≠ n →
    ∃ t, exec (.trackingLapse n) s = .next t ∧ t.tracking n = false ∧ t.flag Fl.TIME_TB_STAT_lost [n] = true ∧
      t.time.clk = s.time.clk + 2 * ceilDiv (s.time.track.getD n 0) 2 ∧ t.raised = s.raised) ∧
  (∀ (v : Nat) (s : State), v < 2 ^ 32 → s.reaches .time = true → rising s.regs = true → bit v 8 = true →
    ∃ t e, exec (.dtSwitch v) s = .next t ∧ t.get Fl.TIME_DT_STAT_active = bits v 1 0 ∧ t.flag Fl.TIME_DT_STAT_switched = true ∧
      (bits v 4 4 = 0 → t.dtFine = s.dtFine) ∧ (bits v 4 4 = 1 → t.time.ofs = 0 ∧ t.flag Fl.TIME_DT_STAT_stepped = true) ∧
      t.time.tb = s.time.tb ∧ t.raised = s.raised ++ [e] ∧ e.typ = 0x00E0 ∧ e.src = srcTIME ∧
      t = { s with regs := t.regs, time := t.time, aud := t.aud, raised := t.raised }) ∧
  (∀ s : State, rising s.regs = true → s.flag Fl.TIME_DT_STAT_slewing = true →
    ∃ t e, exec .evTimeSlewDone s = .next t ∧ t.time.ofs = 0 ∧ t.flag Fl.TIME_DT_STAT_slewing = false ∧ t.raised = s.raised ++ [e] ∧
      e.typ = 0x00E1 ∧ e.src = srcTIME) ∧
  (∀ (v : Nat) (s : State), s.reaches .time = true → rising s.regs = true → bit v 0 = true →
    ∃ t, exec (.timeCapture v) s = .next t ∧ t.rd64 R.TIME_CAP_DT_LO R.TIME_CAP_DT_HI = s.dt ∧
      (∀ n : Nat, n < 4 → t.rd64 R.TIME_CAP_TB_LO R.TIME_CAP_TB_HI [n] = s.tbNs n) ∧ t = { s with regs := t.regs })

/-- R92, R457, R458, R459, R461, R462, R463: PTP frames, on a port that has an enabled record. A sent event message leaves its time-stamp
in the port's queue; a pop removes the oldest; a received frame fills an entry of the ring, moves the tail and its write-back and raises
EV_PTP_RX, and no other byte of host memory changes. Genlock and linear timecode. A reference captures DT and TB3 and is counted; a loss
clears the lock; a decoded LTC frame is published; LTC out sends a timecode in each frame and counts on from it. -/
def Obligations.PtpGenlockTimecode : Prop :=
  ((∀ (p v typ dom seq : Nat) (s : State), p < 6 → v < 2 ^ 32 → s.reaches .time = true → rising s.regs = true → s.Shaped → bit v 31 = true →
    s.netOn p = true → 14 ≤ bits v 8 0 → bits v 8 0 ≤ 256 →
    let b := ((List.range 64).flatMap fun j => leBytes 4 (s.rd R.TIME_PT_TXBUF [p, j])).take (bits v 8 0)
    let stamp := s.stampAt (s.ptpBase dom) (s.lat R.TIME_PT_TXLAT p - (if typ = 1 then s.lat R.TIME_PT_ASYM p else 0))
    State.ptpMsg b = some (typ, dom, seq, true) → (s.time.txq.getD p []).length < 16 →
    ∃ t, exec (.ptpTransmit p v) s = .next t ∧ t.out = s.out ++ [.eth p (b ++ List.replicate (60 - bits v 8 0) 0)] ∧
      t.time.txq.getD p [] = s.time.txq.getD p [] ++ [(seq + 2 ^ 16 * dom + 2 ^ 26 * s.ptpBase dom + 2 ^ 28 * typ, stamp)] ∧
      t.get Fl.TIME_PT_TXQ_STAT_level [p] = (s.time.txq.getD p []).length + 1 ∧ (∀ q, q ≠ p → t.time.txq.getD q [] = s.time.txq.getD q []) ∧
      t = { s with regs := t.regs, time := t.time, out := t.out }) ∧
  (∀ (p : Nat) (s : State), p < 6 → s.reaches .time = true → rising s.regs = true → s.Shaped →
    ∃ t, exec (.txqPop p) s = .next t ∧ t.time.txq.getD p [] = (s.time.txq.getD p []).drop 1 ∧
      t.get Fl.TIME_PT_TXQ_STAT_level [p] = ((s.time.txq.getD p []).length - 1) % 32 ∧
      (∀ q, q ≠ p → t.time.txq.getD q [] = s.time.txq.getD q []) ∧ t = { s with regs := t.regs, time := t.time }) ∧
  (∀ (p typ dom seq : Nat) (event : Bool) (b : Bytes) (s : State), p < 6 → rising s.regs = true → rising s.host = true →
    s.netOn p = true → State.ptpMsg b = some (typ, dom, seq, event) → s.flag Fl.TIME_PT_RX_CTRL_enable [p] = true →
    let tail := s.rd R.TIME_PT_RX_TAIL [p]
    let size := 2 ^ s.get Fl.TIME_PT_RX_CTRL_log2size [p]
    let slot := s.rd64 R.TIME_PT_RX_BASE_LO R.TIME_PT_RX_BASE_HI [p] + tail % size * 256
    let back := s.rd64 R.TIME_PT_RX_TAILWB_LO R.TIME_PT_RX_TAILWB_HI [p]
    (tail + 2 ^ 32 - s.rd R.TIME_PT_RX_HEAD [p]) % 2 ^ 32 < size → (back + 4 ≤ slot ∨ slot + 256 ≤ back) →
    ∃ t e, exec (.ptpReceive p b) s = .next t ∧ t.rd R.TIME_PT_RX_TAIL [p] = (tail + 1) % 2 ^ 32 ∧
      t.host.readLe slot 8 = (s.stampAt (s.ptpBase dom)
        (-(s.lat R.TIME_PT_RXLAT p + (if typ = 0 then s.lat R.TIME_PT_ASYM p else 0)))).1 ∧
      t.host.read (slot + 32) 224 = (b ++ List.replicate 224 0).take 224 ∧ t.host.readLe back 4 = (tail + 1) % 2 ^ 32 ∧
      (∀ a, (a < slot ∨ slot + 256 ≤ a) → (a < back ∨ back + 4 ≤ a) → t.host.get a = s.host.get a) ∧
      t.raised = s.raised ++ [e] ∧ e.typ = 0x00E3 ∧ e.src = srcTIME ∧ e.inst = p ∧
      t = { s with regs := t.regs, host := t.host, raised := t.raised }) ∧
  (∀ (p : Nat) (b : Bytes) (s : State), p < 6 → s.netOn p = true → (State.ptpMsg b).isSome = true →
    s.flag Fl.TIME_PT_RX_CTRL_enable [p] = false → exec (.ptpReceive p b) s = .next (s.inc Fl.TIME_PT_RX_DROP_count [p])) ∧
  (∀ (p : Nat) (b : Bytes) (s : State), s.netOn p = false → exec (.ptpReceive p b) s = .next s)) ∧
  ((∀ (std : Nat) (s : State), std < 256 → rising s.regs = true →
    ∃ t, exec (.genlockReference std) s = .next t ∧ t.rd64 R.TIME_GL_DT_LO R.TIME_GL_DT_HI = (State.in64ths s.dtFine.toNat).1 ∧
      t.rd64 R.TIME_GL_TB3_LO R.TIME_GL_TB3_HI = (State.in64ths (s.tbFine 3)).1 ∧
      t.rd R.TIME_GL_REFS = (s.rd R.TIME_GL_REFS + 1) % 2 ^ 32 ∧ t.get Fl.TIME_GL_STAT_format = std ∧
      (s.flag Fl.TIME_GL_STAT_locked = true → t.flag Fl.TIME_GL_STAT_locked = true) ∧
      (∀ r, s.get Fl.TIME_GL_STAT_format = std → s.time.glRef = some r →
        State.isPeriod ((State.in64ths (s.tbFine 3)).1 - r) (State.genlockRate std) = true → t.flag Fl.TIME_GL_STAT_locked = true) ∧
      t = { s with regs := t.regs, time := t.time, raised := t.raised }) ∧
  (∀ s : State, rising s.regs = true →
    ∃ t, exec .genlockLoss s = .next t ∧ t.flag Fl.TIME_GL_STAT_locked = false ∧ t.get Fl.TIME_GL_STAT_format = 0 ∧
      (s.flag Fl.TIME_GL_STAT_locked = true → t.flag Fl.TIME_GL_STAT_lost = true ∧ ∃ e, t.raised = s.raised ++ [e] ∧ e.typ = 0x00E6) ∧
      t = { s with regs := t.regs, time := t.time, raised := t.raised }) ∧
  (∀ (tc ub period : Nat) (df : Bool) (s : State), tc < 2 ^ 32 → ub < 2 ^ 32 → rising s.regs = true → s.flag Fl.TIME_LTCI_CTRL_enable = true →
    ∃ t, exec (.ltcInFrame tc ub df period) s = .next t ∧ t.rd R.TIME_LTCI_TC = tc ∧ t.rd R.TIME_LTCI_UB = ub ∧
      t.rd64 R.TIME_LTCI_DT_LO R.TIME_LTCI_DT_HI = s.dt ∧ t.rd64 R.TIME_LTCI_TB3_LO R.TIME_LTCI_TB3_HI = s.tbNs 3 ∧
      t.flag Fl.TIME_LTCI_STAT_locked = true ∧ t.flag Fl.TIME_LTCI_STAT_df = df ∧
      t = { s with regs := t.regs, time := t.time, raised := t.raised }) ∧
  (∀ s : State, rising s.regs = true → s.flag Fl.TIME_LTCI_STAT_locked = true →
    ∃ t, exec .ltcInLoss s = .next t ∧ t.flag Fl.TIME_LTCI_STAT_locked = false ∧ t.flag Fl.TIME_LTCI_STAT_lost = true ∧
      t = { s with regs := t.regs, time := t.time, raised := t.raised }) ∧
  (∀ s : State, rising s.regs = true → s.flag Fl.TIME_LTCO_CTRL_enable = true →
    ∃ t tc k, exec .ltcOutFrame s = .next t ∧ t.rd R.TIME_LTCO_TC = tc % 2 ^ 32 ∧
      t.out = s.out ++ [.port 7 0 (leBytes 4 tc ++ leBytes 4 (s.rd R.TIME_LTCO_UB) ++ leBytes 1 (s.get Fl.TIME_LTCO_CTRL_df))] ∧
      t.time.ltcNext = some (k + 1, State.tcNext (State.ltcFps (s.get Fl.TIME_LTCO_CTRL_r)) (s.flag Fl.TIME_LTCO_CTRL_df) tc) ∧
      (∀ i, s.flag Fl.TIME_LTCO_CTRL_src = true → s.time.ltcRef = some i →
        tc = State.tcNext (State.ltcFps (s.get Fl.TIME_LTCO_CTRL_r)) (s.flag Fl.TIME_LTCO_CTRL_df) i.2)) ∧
  (∀ (v : Nat) (s : State), s.reaches .time = true → rising s.regs = true →
    ∃ t, exec (.ltcJam v) s = .next t ∧ t.rd R.TIME_LTCO_JAM = v % 2 ^ 32 ∧
      t.time.ltcJam = some (v % 2 ^ 32, gridUp (s.get Fl.TIME_LTCO_CTRL_r) (s.tbFine 3 + 100000 * 2 ^ 32)) ∧
      t = { s with regs := t.regs, time := t.time }))

/-- R191, R192, R199, R212, R240, R241, R242, R298, R299, R302: a tile that works for a pipeline in the frame's own structure corrects,
codes or develops its stripe of a frame that its class has entered, hands the result on with the frame, and owes the frame nothing more;
its results are published when the frame leaves. -/
def Obligations.TilesWorkTheirStripes : Prop :=
  (∀ (tile p fid base : Nat) (f : Frame) (r : StreamRec) (s : State), s.tileWork .rct 1 tile fid = some p → s.frameIn .rct p fid = some f →
    f.entered.contains .rct = true → f.owes.contains (1, tile) = true → s.rctTakes f tile = true → s.replaying 1 tile fid = false →
    s.stripeSpoilt 1 tile fid = false → s.slotAddr f.epoch p f.slot = some (r, base) →
    let c := s.rctSet p f.epoch r.exposures
    let n := (s.workers f.epoch p 1).length
    let k := ((s.workers f.epoch p 1).takeWhile fun m => m ≠ tile).length
    let x0 := min (k * stripeWidth f.width n) f.width
    let x1 := min ((k + 1) * stripeWidth f.width n) f.width
    let d := s.tileMap p f.epoch tile (x0 - (c.p + 1)) (min (x1 + c.p + 1) f.width)
    let out := d.1.stripeWords c (State.Ctx.decode (s.hbmRead (base + 0x400) 304)) d.2.1 f r base x0 x1
    ∃ t g, exec (.rctFrame tile fid) s = .next t ∧ t.frameIn .rct p fid = some g ∧ g.words = f.words ++ out.1 ∧
      g.stats = f.stats ++ [(tile, out.2)] ∧ g.owes = f.owes.filter (fun o => o ≠ (1, tile)) ∧ g.units = f.units ∧
      g.results = f.results ++ State.lastFid .rct R.RCT_LASTFID_LO R.RCT_LASTFID_HI tile fid ∧ t.defStores = d.1.defStores ∧
      t = { s with regs := t.regs, frames := t.frames, limited := t.limited, defStores := t.defStores }) ∧
  (∀ (tile p fid : Nat) (f : Frame) (s : State), s.tileWork .rcu 2 tile fid = some p → s.frameIn .rcu p fid = some f →
    (f.units.contains .cap = true → f.entered.contains .cap = true) → f.entered.contains .rcu = true → f.owes.contains (2, tile) = true →
    s.powered (.rcu tile) = true → s.replaying 2 tile fid = false → s.stripeSpoilt 2 tile fid = false →
    (∃ o ∈ f.owes, o.1 = 2 ∧ o ≠ (2, tile)) →
    let n := (s.workers f.epoch p 2).length
    let k := ((s.workers f.epoch p 2).takeWhile fun m => m ≠ tile).length
    let tc := ceilDiv f.width 64
    let arr := f.words.foldl (fun (a : Array Nat) q => a.setIfInBounds (q.1 / 65536 * f.width + q.1 % 65536) q.2)
      (Array.replicate (f.width * f.height) 0)
    ∃ t g, exec (.rcuFrame tile fid) s = .next t ∧ t.frameIn .rcu p fid = some g ∧
      g.coded = f.coded ++ (List.range (ceilDiv f.height 64)).flatMap (fun ty =>
        (s.codeRow f arr (min (k * State.rcuCols f.width n) tc) (min ((k + 1) * State.rcuCols f.width n) tc) ty).1) ∧
      g.owes = f.owes.filter (fun o => o ≠ (2, tile)) ∧ g.words = f.words ∧ g.units = f.units ∧
      t = { s with regs := t.regs, frames := t.frames, limited := t.limited }) ∧
  (∀ (tile p fid : Nat) (f : Frame) (r : StreamRec) (s : State), s.tileWork .dvt 3 tile fid = some p → s.frameIn .dvt p fid = some f →
    (s.graphOf f.epoch).streamOf p = some r → (f.units.contains .cap = true → f.entered.contains .cap = true) →
    f.entered.contains .dvt = true → f.owes.contains (3, tile) = true → s.powered (.dvt tile) = true → s.replaying 3 tile fid = false →
    s.stripeSpoilt 3 tile fid = false →
    ∃ t g looks, exec (.dvtFrame tile fid) s = .next t ∧ t.frameIn .dvt p fid = some g ∧ g.looks = f.looks ++ looks ∧
      (∀ q ∈ looks, q.1 ∈ State.looksOf (s.epochRec f.epoch).graph p) ∧ g.owes = f.owes.filter (fun o => o ≠ (3, tile)) ∧
      g.words = f.words ∧ g.results = f.results ++ State.lastFid .dvt R.DVT_LASTFID_LO R.DVT_LASTFID_HI tile fid ∧
      (f.tnrWrite = none → t.hbm = s.hbm ∧ t.undef = s.undef) ∧
      t = { s with regs := t.regs, frames := t.frames, limited := t.limited, hbm := t.hbm, undef := t.undef })

/-- R317, R324, R325, R327, R328: branch frames. A frame that fits its buffer is written behind its descriptor into the first slot that
nobody holds; one that overflows the engine's queue is dropped and counted; publication, a developed-frame period later where the pipeline
is protected, sets the sequence word of its slot and moves the branch's counters; a credit write lands in the branch's CONSUMED. -/
def Obligations.BranchFramesArePublished : Prop :=
  (∀ (p b fid slot : Nat) (full : Bool) (f : Frame) (br : BranchRec) (ed : EdgeRec) (buf : BufferRec) (s : State), p < 8 → b < 8 → s.Shaped →
    s.frameIn (.branch b) p fid = some f → (s.epochRec f.epoch).graph.branch? p b = some br →
    (s.epochRec f.epoch).graph.branchEdge? p b = some ed → f.entered.contains (.branch b) = false →
    (f.units.contains .dvt = true → State.tilesDone f .dvt 3 = true) →
    s.powered .outf = true → br.consumer ≠ srcMPC → (s.epochRec f.epoch).graph.buffer? ed.buffer = some buf → ed.via = 1 →
    s.outfNeed (p * 8 + b) f.epoch br ≤ s.eff f.epoch Fl.OUTF_STRIDE_value [p * 8 + b] * 4096 → s.batchN (p * 8 + b) f.epoch = 1 →
    (s.outf (p * 8 + b)).batch = none →
    (((List.range buf.depth).map fun k => ((s.outf (p * 8 + b)).next + k) % buf.depth).find? fun k =>
      !((s.heldSlots (p * 8 + b)).contains k)) = some slot →
    s.hbmc.down = [] → rising s.hbm = true → rising s.regs = true →
    let base := (s.graphOf f.epoch).bufferBase buf + slot * (s.eff f.epoch Fl.OUTF_STRIDE_value [p * 8 + b] * 4096)
    let desc := (s.outfDesc (p * 8 + b) f br (2 * (s.outf (p * 8 + b)).k + 1) f.fid 1).encode
    ∃ t, exec (.outfFrame p b fid full) s = .next t ∧ t.hbmRead base desc.length = desc ∧ (∀ a, a < base → t.hbmByte a = s.hbmByte a) ∧
      (∀ g ∈ t.frames, g.pipe = p → g.fid = fid → FlowUnit.branch b ∈ g.units → FlowUnit.branch b ∈ g.entered) ∧
      (full = false → (t.outf (p * 8 + b)).k = (s.outf (p * 8 + b)).k + 1 ∧
        ∃ q, (t.outf (p * 8 + b)).pend = ((s.outf (p * 8 + b)).pend.filter fun x => x.slot ≠ slot) ++ [q] ∧ q.slot = slot ∧ q.fid = f.fid ∧
          q.k = (s.outf (p * 8 + b)).k ∧ q.base = base ∧ q.at_ = s.time.clk) ∧
      (full = true → (t.outf (p * 8 + b)).k = (s.outf (p * 8 + b)).k ∧
        (t.outf (p * 8 + b)).pend = ((s.outf (p * 8 + b)).pend.filter fun x => x.slot ≠ slot) ∧
        t.get Fl.OUTF_SKIP_count [p * 8 + b] = min (s.get Fl.OUTF_SKIP_count [p * 8 + b] + 1) (2 ^ 32 - 1) ∧
        t.get Fl.OUTF_STAT_skip_cause [p * 8 + b] = 2)) ∧
  (∀ (p b : Nat) (q : BranchFrame) (rest : List BranchFrame) (br : BranchRec) (s : State), p < 8 → b < 8 → s.Shaped → rising s.regs = true →
    (s.outf (p * 8 + b)).pend = q :: rest → (s.graphOf q.epoch).branch? p b = some br → br.consumer ≠ srcMPC → br.consumer ≠ srcVCE →
    (s.hlt.replays.any fun r => r.pipe = p && q.fid ≤ r.fid && r.fid ≤ q.last) = false → s.hbmc.down = [] → rising s.hbm = true →
    let prot : Bool := (((s.graphOf q.epoch).pipe? p).map fun r => r.prot).getD false
    let u := if prot then s.reachClk (q.at_ + s.devPeriod q.epoch p) else s
    ∃ t, exec (.outfPublish p b) s = .next t ∧ (t.outf (p * 8 + b)).pend = rest ∧ t.hbmRead q.base 8 = leBytes 8 (2 * q.k + 2) ∧
      (prot = true → q.at_ + s.devPeriod q.epoch p ≤ t.time.clk) ∧
      (∀ a, (a < q.base ∨ q.base + 8 ≤ a) → t.hbmByte a = s.hbmByte a) ∧
      t.get Fl.OUTF_FRAMES_count [p * 8 + b] = (s.get Fl.OUTF_FRAMES_count [p * 8 + b] + q.frames) % 2 ^ 32 ∧
      t.rd64 R.OUTF_LASTFID_LO R.OUTF_LASTFID_HI [p * 8 + b] = q.last % 2 ^ 64 ∧
      t = { u with regs := t.regs, outfs := t.outfs, hbm := t.hbm, undef := t.undef, raised := t.raised }) ∧
  (∀ (p b : Nat) (q : BranchFrame) (rest : List BranchFrame) (br : BranchRec) (s : State), p < 8 → b < 8 → s.Shaped →
    (s.outf (p * 8 + b)).pend = q :: rest → (s.graphOf q.epoch).branch? p b = some br → br.consumer = srcMPC →
    (s.hlt.replays.any fun r => r.pipe = p && q.fid ≤ r.fid && r.fid ≤ q.last) = false →
    (((s.graphOf q.epoch).pipe? p).map fun r => r.prot).getD false = false →
    ∃ t, exec (.outfPublish p b) s = .next t ∧ (t.outf (p * 8 + b)).pend = rest ∧
      t.out = s.out ++ [.peer br.inst (s.effRd q.epoch R.OUTF_DB_LO [p * 8 + b] + 2 ^ 32 * s.effRd q.epoch R.OUTF_DB_HI [p * 8 + b])
        (leBytes 8 q.fid ++ leBytes 4 q.slot ++ leBytes 4 q.written)] ∧
      t = { s with regs := t.regs, outfs := t.outfs, out := t.out, raised := t.raised }) ∧
  (∀ (r i v : Nat) (s : State), r < 32 → i < 64 → rising s.regs = true → s.rd64 R.MPC_RP_INWIN_LO R.MPC_RP_INWIN_HI [r] ≠ 0 →
    ((s.graph.branch? (i / 8) (i % 8)).any fun b => b.consumer = srcMPC && b.inst = r) = true →
    ∃ t, exec (.peerCreditWrite r (4 * i) v) s = .next t ∧ t.rd R.OUTF_CONSUMED [i] = v % 2 ^ 32 ∧ t = { s with regs := t.regs } ∧
      ∀ (r' : Reg) (ix : List Nat), r'.key ix ≠ R.OUTF_CONSUMED.key [i] → t.rd r' ix = s.rd r' ix)

/-- R227, R228, R234, R236, R238, R239: capture. A corrected frame goes where the mode sends it; a trigger whose frame is not yet known
waits for it; a drain queues a sealed segment; a re-issued frame carries its flag and the epoch of the live pass; a sealed or drained
segment that is released is free. -/
def Obligations.CaptureRoutesAndSegments : Prop :=
  (∀ (p fid : Nat) (f : Frame) (s : State), s.Shaped → p < 8 → s.frameIn .cap p fid = some f → f.entered.contains .cap = false →
    (f.units.contains .rct = true → State.tilesDone f .rct 1 = true) → s.powered .cap = true → bit f.fsw fswReissued = false →
    let mode := s.eff f.epoch Fl.CAP_MODE_mode [p]
    let begins := s.capBegins p f.epoch fid
    ∃ t g, exec (.capFrame p fid) s = .next t ∧ t.frameIn .cap p fid = some g ∧ FlowUnit.cap ∈ g.entered ∧
      (t.pipeSt p).prevFid = some fid ∧ (t.pipeSt p).prevN = s.eff f.epoch Fl.CAP_CYCLE_n_m1 [p] + 1 ∧
      (mode = 0 → g.units = State.capRoute f true true) ∧
      (mode = 1 → g.units = State.capRoute f false (s.eff f.epoch Fl.CAP_MODE_live_dev [p] = 1)) ∧
      (mode = 2 → g.units = State.capRoute f true begins) ∧
      (mode = 3 → g.units = State.capRoute f (s.eff f.epoch Fl.CAP_MODE_rec_src [p] = 1) false) ∧
      (mode ≠ 3 → (s.cap p).synth = none → s.workers f.epoch p 0 = [] → t = { s with frames := t.frames, pipes := t.pipes, raised := t.raised, free := t.free })) ∧
  (∀ (p k base : Nat) (fr : Nat × Nat × Nat) (r : StreamRec) (s : State), s.Shaped → p < 8 → k < (s.cap p).segs.length →
    s.drainNext p = some k → (s.segSt p k).frames[(s.segSt p k).done]? = some fr → s.slotAddr (s.pipeEpoch p) p fr.1 = some (r, base) →
    s.liveWaits p = false → s.powered .cap = true →
    ∃ t f, exec (.reissueFrame p) s = .next t ∧ t.frames = s.frames ++ [f] ∧ bit f.fsw fswReissued = true ∧ f.pipe = p ∧ f.slot = fr.1 ∧
      f.epoch = s.pipeEpoch p ∧ f.fid = leNat (s.hbmRead base 8) ∧ (t.segSt p k).done = (s.segSt p k).done + 1 ∧
      f.waiting = (s.pipeSt p).draining ∧ (k < 16 → rising s.regs = true → s.segState p k = 2 → t.segState p k = 3) ∧
      t = { s with regs := t.regs, frames := t.frames, caps := t.caps }) ∧
  (∀ (p v : Nat) (s : State), s.Shaped → p < 8 → v < 2 ^ 32 → s.reaches .cap = true → bit v 0 = true → s.effP p Fl.CAP_MODE_mode [p] = 1 →
    s.openSeg p = none → (s.cap p).ring = [] → (s.cap p).gone = none →
    (∀ b ∈ (s.pipeSt p).bounds, (s.dt : Int) + signed 32 (s.effPRd p R.CAP_TADJ [p]) ≤ (b : Int) → b ∉ (s.cap p).trigSeen) →
    ∃ t, exec (.capSoftwareTrigger p v) s = .next t ∧
      (t.cap p).trigs = (s.cap p).trigs ++ [(s.dt, (s.dt : Int) + signed 32 (s.effPRd p R.CAP_TADJ [p]))] ∧
      t = { s with regs := t.regs, caps := t.caps }) ∧
  (∀ (p : Nat) (s : State), s.Shaped → p < 8 → s.powered .cap = true → s.effP p Fl.CAP_TRIG_src [p] = 2 →
    s.effP p Fl.CAP_MODE_mode [p] = 1 → s.openSeg p = none → (s.cap p).ring = [] → (s.cap p).gone = none →
    let time := s.effPRd p R.CAP_TTIME_LO [p] + 2 ^ 32 * s.effPRd p R.CAP_TTIME_HI [p]
    (s.cap p).ttimeDone ≠ some time →
    (∀ b ∈ (s.pipeSt p).bounds, (time : Int) + signed 32 (s.effPRd p R.CAP_TADJ [p]) ≤ (b : Int) → b ∉ (s.cap p).trigSeen) →
    ∃ t, exec (.capTimeTrigger p) s = .next t ∧ (t.cap p).ttimeDone = some time ∧
      (t.cap p).trigs = (s.cap p).trigs ++ [(time, (time : Int) + signed 32 (s.effPRd p R.CAP_TADJ [p]))]) ∧
  (∀ (p v : Nat) (s : State), s.Shaped → p < 8 → v < 2 ^ 32 → s.reaches .cap = true → rising s.regs = true → bit v 0 = true →
    ∃ t, exec (.capDrain p v) s = .next t ∧ t.get Fl.CAP_DRAIN_seg [p] = bits v 11 8 ∧
      (t.cap p).order = (s.cap p).order.map (fun x => if x.1 = bits v 11 8 then (x.1, true) else x) ∧
      t = { s with regs := t.regs, caps := t.caps }) ∧
  (∀ (p k : Nat) (s : State), s.Shaped → p < 8 → k < 16 → s.reaches .cap = true → rising s.regs = true →
    (s.segState p k = 2 ∨ s.segState p k = 4) →
    ∃ t, exec (.segmentRelease p (2 ^ k)) s = .next t ∧ t.segState p k = 0 ∧ t.rd R.CAP_SEG_PRE [p, k] = 0 ∧ bit (t.get Fl.CAP_SEGREL_release [p]) k = false ∧
      (∀ x ∈ (t.cap p).order, x.1 ≠ k) ∧ t = { s with regs := t.regs, caps := t.caps }) ∧
  (∀ (p k : Nat) (s : State), s.Shaped → p < 8 → k < 16 → s.reaches .cap = true → rising s.regs = true → s.segState p k = 1 →
    ∃ t, exec (.segmentRelease p (2 ^ k)) s = .next t ∧ t.segState p k = 1 ∧ bit (t.get Fl.CAP_SEGREL_release [p]) k = true)

/-- R261, R263, R266, R268, R274, R278, R283, R289: the recorder's volume commands. A scan lists candidates on enabled ports; a format
labels every member; an open that succeeds brings a volume with no take; a close ends every take and waits for its checkpoint; a rebuild
starts on the replacement that it labels. -/
def Obligations.RecorderVolumes : Prop :=
  (∀ (id : Nat) (ports : List MediaPort) (q : Packet) (s : State), s.started id 0x100 = some q →
    ∃ t, exec (.mediaScan id ports) s = .next t ∧ t.rs.scanned = true ∧ t.rs.cands.length ≤ 32 ∧
      (∀ c ∈ t.rs.cands, ∃ m ∈ ports, c = State.candOf m ∧ s.graph.portOn 3 m.port = true) ∧
      t.packets = (s.setResult id stOk (t.rs.cands.filter fun c => c.eligible).length).packets ∧ t.media = s.media) ∧
  (∀ (id uuid now : Nat) (q : Packet) (s : State), s.started id 0x101 = some q → s.rs.landed = false → s.rs.dusk = false → s.rs.takes = [] →
    rising s.media = true →
    let a (i n : Nat) : Nat := fieldLe q.body i n
    let idx := (List.range 32).filter fun i => bit (a 16 4) i
    let cs := idx.filterMap fun i => s.rs.cands[i]?
    let rows := volumeRows (cs.map fun c => c.blocks) (idx.length - a 20 1)
    let rb := (idx.length - a 20 1) * 256
    2 ≤ idx.length → a 20 1 ≤ 2 → a 20 1 < idx.length → cs.length = idx.length → (∀ c ∈ cs, c.eligible = true) →
    (cs.map fun c => c.unit_).Nodup → (a 21 1 = 0 ∨ (20 ≤ a 21 1 ∧ a 21 1 ≤ 32)) → (a 22 2 = 0 ∨ 64 ≤ a 22 2) → a 32 8 ≤ 268435456 →
    ((layRegions rows rb (if a 21 1 = 0 then 27 else a 21 1) (if a 22 2 = 0 then 1024 else a 22 2) (a 24 8) (a 32 8)).getD 6 (0, 0)).1 + rb
      < rows * rb →
    ∃ t, exec (.mediaFormat id uuid now) s = .next t ∧ t.rs.vol = none ∧ t.packets = (s.setResult id stOk idx.length).packets ∧
      ∀ (k : Nat) (c : Cand), cs[k]? = some c →
        t.mediaRead c.unit_ 0 4096 = labelBytes k idx.length (a 20 1) (uuid % 2 ^ 128) (memberId c.identity)) ∧
  (∀ (id : Nat) (q : Packet) (s : State), s.started id 0x102 = some q →
    ∃ t st n, exec (.mediaOpen id) s = .next t ∧ t.packets = (s.setResult id st n).packets ∧ t.media = s.media ∧
      (st = stOk ∨ st = stDenied ∨ st = stBusy ∨ st = stNoMedia ∨ st = stVolBad) ∧ (st ≠ stOk → t = { s with packets := t.packets }) ∧
      (st = stOk → ∃ v, t.rs.vol = some v ∧ v.m = n ∧ v.uuid ∈ t.nv.unclosed ∧ t.rs.takes = [] ∧ t.rs.landed = false ∧ t.rs.dusk = false ∧
        t.rs.phase = 0) ∧ (s.rs.dusk = true → st = stDenied) ∧ (s.rs.dusk = false → s.rs.landed = false → s.rs.takes ≠ [] → st = stBusy) ∧
      ((∀ c ∈ s.rs.cands, c.eligible = false) → s.rs.dusk = false → s.rs.landed = false → s.rs.takes = [] → st = stNoMedia)) ∧
  (∀ (id : Nat) (q : Packet) (s : State), s.started id 0x103 = some q → s.rs.landed = false → s.rs.dusk = false → s.rs.vol.isSome = true →
    s.rs.dead = false → (s.rs.takes.map fun x => x.num).Nodup →
    ∃ t, exec (.mediaClose id) s = .next t ∧ t.rs.waiters = s.rs.waiters ++ [(id, 1)] ∧ t.packets = s.packets ∧
      (∀ p : Nat, t.liveTake p = none) ∧ (s.rs.phase = 0 → t.rs.phase = 1)) ∧
  (∀ (id : Nat) (q : Packet) (v : Volume) (c : Cand) (s : State), s.started id 0x107 = some q → s.rs.landed = false → s.rs.dusk = false →
    s.rs.vol = some v →
    s.rs.cands[fieldLe q.body 17 1]? = some c → rising s.media = true →
    let k := fieldLe q.body 16 1
    k < v.m → bit v.failed k = true → c.eligible = true → v.ports.contains c.unit_ = false → v.rows ≤ (c.blocks - 256) / 256 →
    v.rebuilding = 0 →
    ∃ t w, exec (.rebuild id) s = .next t ∧ t.rs.vol = some w ∧ w.rebuilding = 2 ^ k ∧ w.failed = v.failed - 2 ^ k ∧ w.progress = 0 ∧
      t.rs.rebuild = some k ∧ t.packets = (s.setResult id stOk 0).packets ∧
      t.mediaRead c.unit_ 0 4096 = labelBytes k v.m v.r v.uuid (memberId c.identity) ∧
      t.mediaRead c.unit_ 1 (255 * 4096) = List.replicate (255 * 4096) 0) ∧
  (∀ (k : Nat) (v : Volume) (units : List Bytes) (s : State), s.powered .recorder = true → s.rs.vol = some v → s.rs.rebuild = some k →
    v.progress < v.rows → s.rs.landed = false → s.rs.dusk = false → s.rs.dead = false →
    rebuildData v.m v.r v.progress unitBytes (fun m => if m = k then none else s.memberUnit v v.progress m) = some units →
    ∃ t w, exec (.rebuildRow []) s = .next t ∧ t.rs.vol = some w ∧ w.progress = v.progress + 1 ∧
      (v.progress + 1 = v.rows → t.rs.rebuild = none ∧ ∃ e ∈ t.raised, e.typ = 0x0082 ∧ e.src = srcREC))

/-- R275, R276, R278, R280: takes and commits. A take that starts gets the next number and its record; a stop closes it or waits for its
frame; a checkpoint is begun or asked for; a whole row of a take is issued; a commit goes through its fences to a durable sequence. -/
def Obligations.TakesAndCommits : Prop :=
  (∀ (id : Nat) (q : Packet) (v : Volume) (s : State), s.started id 0x104 = some q → s.rs.landed = false → s.rs.vol = some v →
    s.rs.dead = false → s.rs.dusk = false → rising s.regs = true →
    let p := fieldLe q.body 16 1
    p ≤ 7 → (s.graph.pipe? p).isSome = true → fieldLe q.body 17 1 ≤ 15 → fieldLe q.body 18 1 ≤ 3 → s.liveTake p = none →
    v.nextTake ≤ 65535 → v.nextRow < v.rows - 1 →
    ∃ t w x, exec (.takeStart id) s = .next t ∧ t.rs.vol = some w ∧ w.nextTake = v.nextTake + 1 ∧ t.liveTake p = some x ∧
      x.num = v.nextTake ∧ x.closed = none ∧ (∀ p', p' ≠ p → t.liveTake p' = s.liveTake p') ∧ t.flag Fl.REC_STAT_recording = true ∧
      (∃ e ∈ t.raised, e.typ = 0x0083 ∧ e.src = srcREC ∧ e.inst = p) ∧ t.packets = (s.setResult id stOk v.nextTake).packets ∧
      t.media = s.media) ∧
  (∀ (id : Nat) (q : Packet) (x : LiveTake) (s : State), s.started id 0x105 = some q → s.rs.landed = false → s.rs.dusk = false →
    s.liveTake (fieldLe q.body 16 1) = some x → s.takeOf x.num = some x → fieldLe q.body 24 8 = noFrame →
    ∃ t y, exec (.takeStop id) s = .next t ∧ t.takeOf x.num = some y ∧ y.closed.isSome = true ∧
      t.rs.waiters = s.rs.waiters ++ [(id, 16 + x.num)] ∧ t.packets = s.packets ∧
      (s.rs.phase = 0 → s.rs.dead = false → s.rs.vol.isSome = true → t.rs.phase = 1)) ∧
  (∀ (id : Nat) (q : Packet) (x : LiveTake) (s : State), s.started id 0x105 = some q → s.rs.landed = false → s.rs.dusk = false →
    s.liveTake (fieldLe q.body 16 1) = some x → s.takeOf x.num = some x → fieldLe q.body 24 8 ≠ noFrame →
    (∀ l, x.last = some l → l.1 < fieldLe q.body 24 8) →
    ∃ t, exec (.takeStop id) s = .next t ∧ t.takeOf x.num = some { x with stopAt := some (fieldLe q.body 24 8) } ∧
      t.rs.waiters = s.rs.waiters ++ [(id, 16 + x.num)] ∧ t = { s with recorder := t.recorder }) ∧
  (∀ (id : Nat) (q : Packet) (s : State), s.started id 0x106 = some q → s.rs.landed = false → s.rs.dusk = false → s.rs.vol.isSome = true →
    s.rs.dead = false →
    ∃ t, exec (.checkpoint id) s = .next t ∧ t.rs.waiters = s.rs.waiters ++ [(id, 0)] ∧ (s.rs.phase = 0 → t.rs.cphase ≠ 0) ∧
      (s.rs.phase = 0 → s.rs.cphase = 0 → (id, 0) ∈ t.rs.serving) ∧ t = { s with recorder := t.recorder }) ∧
  (∀ (p row : Nat) (v : Volume) (x : LiveTake) (more : List Nat) (s : State), s.powered .recorder = true → s.rs.vol = some v →
    (s.rs.takes.find? fun t => t.pipe = p && decide (v.rowBytes ≤ t.buf.length) && decide (s.inFlight t.num < 8)) = some x →
    s.takeOf x.num = some x → s.rs.dusk = false → s.rs.landed = false → s.rs.dead = false → x.rows = row :: more →
    ∃ t, exec (.rowIssue p) s = .next t ∧ t.rs.flight = s.rs.flight ++ [⟨row, 0, x.num, x.buf.take v.rowBytes, s.time.clk, []⟩] ∧
      t.takeOf x.num = some { x with buf := x.buf.drop v.rowBytes, rows := more } ∧ t = { s with recorder := t.recorder }) ∧
  (∀ s : State, s.powered .recorder = true → s.rs.vol.isSome = true → s.rs.landed = false → s.rs.phase = 0 → s.rs.dusk = false →
    s.rs.dead = false →
    ∃ t, exec .recCommit s = .next t ∧ t.rs.phase = 1 ∧ t.rs.fenceAt = s.time.clk ∧ ∀ c ∈ t.rs.jIdx, c ∈ s.rs.losts ∨ c.rows = []) ∧
  (∀ (v : Volume) (s : State), s.rs.vol = some v → s.rs.phase = 1 → s.rs.cphase ≠ 2 → s.rs.cphase ≠ 5 →
    ∃ t r, exec .mediaFenceComplete s = .next t ∧ t.rs.phase = 2 ∧ t.rs.flight = s.rs.flight ++ [r] ∧ r.kind = 1 ∧
      r.row = regionRow v 3 + v.seq % max ((v.regions.getD 3 (0, 0)).2 / v.rowBlocks) 1 ∧ r.data = s.journalRow v ∧
      t = { s with recorder := t.recorder }) ∧
  (∀ (v : Volume) (s : State), s.rs.vol = some v → s.rs.phase = 3 → s.rs.cphase ≠ 2 → s.rs.cphase ≠ 5 → s.rs.dusk = false →
    rising s.regs = true →
    ∃ t, exec .mediaFenceComplete s = .next t ∧ t.rs.phase = 0 ∧ t.rs.vol = some (v.committed s.rs) ∧ (v.committed s.rs).seq = v.seq + 1 ∧
      t.rd64 R.REC_COMMIT_SEQ_LO R.REC_COMMIT_SEQ_HI = v.seq % 2 ^ 64 ∧ ∃ e ∈ t.raised, e.typ = 0x0080 ∧ e.src = srcREC)

/-- R262, R281, R284: member failure and landing. A row that its members wrote leaves the flight and stands on them; a member whose
command fails or outlasts its timeout is failed and reported; members that still owe a write at the landing's deadline are failed; the
landing is done when no data row and no commit is under way. -/
def Obligations.MembersFailAndLand : Prop :=
  (∀ (row : Nat) (v : Volume) (r : MediaRow) (rest : List MediaRow) (s : State), s.rs.vol = some v →
    takeFirst (fun (x : MediaRow) => x.row = row) s.rs.flight = some (r, rest) → r.kind = 0 → r.late = [] → s.rs.dusk = false →
    ∃ t, exec (.rowWriteComplete row []) s = .next t ∧ t.rs.flight = rest ∧ t.media = (s.rowStore v row r.data []).media ∧
      (v.r = 0 → t = { s with recorder := t.recorder, media := t.media })) ∧
  (∀ (row k : Nat) (v : Volume) (r : MediaRow) (rest : List MediaRow) (s : State), s.rs.vol = some v →
    takeFirst (fun (x : MediaRow) => x.row = row) s.rs.flight = some (r, rest) → k < v.m → bit v.failed k = false → v.r ≠ 0 →
    ∃ t w, exec (.rowWriteComplete row [k]) s = .next t ∧ t.rs.vol = some w ∧ bit w.failed k = true ∧
      ∃ e ∈ t.raised, e.typ = 0x4080 ∧ e.src = srcREC ∧ e.inst = k) ∧
  (∀ (row k : Nat) (v : Volume) (r : MediaRow) (s : State), s.rs.vol = some v → (s.rs.flight.find? fun r => r.row = row) = some r →
    k < v.m → bit v.failed k = false → r.late.contains k = false →
    let recs : Bool := s.rs.takes.any fun t => t.closed.isNone
    let due := r.at_ + s.get Fl.REC_CFG_tmo_ms * 1000000
    let u := if recs then s.reachClk due else s
    ∃ t, exec (.memberCommandTimeout k (some row)) s = .next t ∧ (∀ x ∈ t.rs.flight, x.row = row → k ∈ x.late) ∧
      (recs = true → due ≤ t.time.clk) ∧ t = { u with recorder := t.recorder }) ∧
  (∀ (k : Nat) (v : Volume) (s : State), s.rs.vol = some v → k < v.m → bit v.failed k = false → v.r ≠ 0 → s.flushOwed = true →
    ∃ t w, exec (.memberCommandTimeout k none) s = .next t ∧ t.rs.vol = some w ∧ bit w.failed k = true ∧
      ((s.rs.takes.any fun t => t.closed.isNone) = true → s.rs.fenceAt + s.get Fl.REC_CFG_tmo_ms * 1000000 ≤ t.time.clk) ∧
      ∃ e ∈ t.raised, e.typ = 0x4080 ∧ e.src = srcREC ∧ e.inst = k) ∧
  (∀ (k : Nat) (owing : List Nat) (v : Volume) (s : State), s.rs.dusk = true → s.rs.vol = some v → k ∈ owing → k < v.m →
    bit v.failed k = false → v.r ≠ 0 → (∃ r ∈ s.rs.flight, r.kind = 0) →
    ∃ t w, exec (.landingWriteDeadline owing) s = .next t ∧ t.rs.vol = some w ∧ bit w.failed k = true ∧
      ∃ e ∈ t.raised, e.typ = 0x4080 ∧ e.src = srcREC ∧ e.inst = k) ∧
  (∀ s : State, s.rs.dusk = true → s.rs.phase = 0 → (∀ r ∈ s.rs.flight, r.kind ≠ 0) → rising s.regs = true →
    s.cpr.resetDue = false →
    ∃ t, exec .duskLandingDone s = .next t ∧ t.rs.landed = true ∧ t.rs.dusk = false ∧ t.rs.flight = [] ∧ t.rs.takes = [] ∧
      t.flag Fl.REC_STAT_dusk_done = true ∧ t.get Fl.REC_STAT_state = 7)

/-- R74, R288, R291, R294, R295: a compression engine takes the recorder's next metadata job, else the descriptor at its HEAD, and its job
ends with the result written to its destination, the result fields in the descriptor, HEAD one on and its record. -/
def Obligations.CompressionJobs : Prop :=
  (∀ (e : Nat) (s : State), e < 2 → s.zst.length = 2 → s.powered .zst = true → s.flag Fl.ZST_CTRL_enable [e] = true → s.zst.getD e none = none →
    s.rd R.ZST_TAIL [e] ≠ s.rd R.ZST_HEAD [e] → takeFirst (fun (j : RecJob) => j.engine = e) s.rs.jobs = none → s.oldJob e = false →
    let at_ := s.rd64 R.ZST_RING_LO R.ZST_RING_HI [e] + s.rd R.ZST_HEAD [e] % 2 ^ s.get Fl.ZST_CTRL_log2size [e] * 64
    ∃ t, exec (.zstJob e) s = .next t ∧ t.zst.getD e none = some (s.zstPlan e at_ (s.flag Fl.ZST_CTRL_host [e])).1 ∧
      (∀ e', e' ≠ e → t.zst.getD e' none = s.zst.getD e' none) ∧ t = { s with zst := t.zst }) ∧
  (∀ (e : Nat) (j : RecJob) (rest : List RecJob) (s : State), e < 2 → s.zst.length = 2 → s.powered .zst = true → s.zst.getD e none = none →
    takeFirst (fun (j : RecJob) => j.engine = e) s.rs.jobs = some (j, rest) →
    ∃ t, exec (.zstJob e) s = .next t ∧ t.zst.getD e none = some (s.recJobPlan j) ∧ t.rs.jobs = rest ∧
      t = { s with recorder := t.recorder, zst := t.zst }) ∧
  (∀ (e : Nat) (j : ZstJob) (r : RecJob) (s : State), e < 2 → s.zst.getD e none = some j → j.rec_ = some r → rising s.regs = true →
    ∃ t, exec (.zstJobComplete e) s = .next t ∧ t.zst.getD e none = none ∧ t.host = s.host ∧ t.hbm = s.hbm ∧
      t.rd R.ZST_HEAD [e] = s.rd R.ZST_HEAD [e] ∧ t.get Fl.ZST_JOBS_done [e] = (s.get Fl.ZST_JOBS_done [e] + 1) % 2 ^ 16) ∧
  (∀ (e : Nat) (j : ZstJob) (s : State), e < 2 → s.zst.getD e none = some j → j.rec_ = none → j.code = stOk → j.inHost = true → bit j.flags 1 = true →
    rising s.regs = true → rising s.host = true → (j.dst + j.out.length ≤ j.addr + 32 ∨ j.addr + 38 ≤ j.dst) → j.out.length < 2 ^ 32 →
    ∃ t, exec (.zstJobComplete e) s = .next t ∧ t.zst.getD e none = none ∧ t.host.read j.dst j.out.length = j.out ∧
      t.host.readLe (j.addr + 32) 4 = j.out.length ∧ t.host.readLe (j.addr + 36) 2 = stOk ∧
      (∀ a, (a < j.dst ∨ j.dst + j.out.length ≤ a) → (a < j.addr + 32 ∨ j.addr + 38 ≤ a) → t.host.get a = s.host.get a) ∧
      t.rd R.ZST_HEAD [e] = (s.rd R.ZST_HEAD [e] + 1) % 2 ^ 32 ∧
      t.get Fl.ZST_JOBS_done [e] = (s.get Fl.ZST_JOBS_done [e] + 1) % 2 ^ 16 ∧
      (bit j.flags 3 = true → t.raised = s.raised) ∧
      (bit j.flags 3 = false → ∃ r, t.raised = s.raised ++ [r] ∧ r.typ = stOk ∧ r.src = srcZST ∧ r.dst = j.q) ∧
      t = { s with regs := t.regs, host := t.host, zst := t.zst, raised := t.raised, oldJobs := t.oldJobs })

/-- R337, R348, R349, R351, R353, R354, R355: video. A coded picture enters its core's ring and moves OWR past its record; the RTP sender
sends the record at its place and moves on; a decode descriptor moves HEAD and is reported; a decoded picture is written to its slot. -/
def Obligations.VideoCoding : Prop :=
  (∀ (k : Nat) (br : BranchRec) (pic : EncPic) (more : List EncPic) (au : CodedAu) (s : State), k < 2 → s.Shaped → rising s.regs = true →
    s.encBranch k = some br → s.powered .vce = true →
    let u := (s.encPull k).encRequests k
    let x := u.enc k
    let len := 64 + roundUp au.data.length 64
    let wr := u.rd R.VCE_OWR [k]
    x.order = pic :: more → u.eff pic.frame.epoch Fl.VCE_CTRL_rc [k] = 0 → u.regionOk (u.graphOf pic.frame.epoch) br.pipe x.base x.size = true →
    u.encBound pic.frame.epoch k br (u.encRc k br pic) + 64 ≤ x.size - (wr + 2 ^ 32 - u.encRead k) % 2 ^ 32 → wr % x.size + len ≤ x.size →
    u.mvsOk k br pic au.mvs = true → u.setsOk k br pic (u.encRc k br pic) au.sets = true →
    u.auOk pic.frame.epoch k br (u.encRc k br pic) au = true → s.hbmc.down = [] → rising s.hbm = true →
    let work := u.effRd pic.frame.epoch R.VCE_WORK_LO [k] + 2 ^ 32 * u.effRd pic.frame.epoch R.VCE_WORK_HI [k]
    ∃ t, exec (.encodePicture k au) s = .next t ∧ t.rd R.VCE_OWR [k] = (wr + len) % 2 ^ 32 ∧
      t.hbmRead (x.base + wr % x.size + 64) au.data.length = au.data ∧
      (∀ a, (a < x.base + wr % x.size ∨ x.base + wr % x.size + len ≤ a) →
        (a < work ∨ work + u.encWorkSize pic.frame.epoch k br ≤ a) → t.hbmByte a = s.hbmByte a) ∧
      t.get Fl.VCE_PICS_count [k] = (s.get Fl.VCE_PICS_count [k] + 1) % 2 ^ 32 ∧
      t.rd64 R.VCE_LASTFID_LO R.VCE_LASTFID_HI [k] = pic.frame.fid % 2 ^ 64) ∧
  (∀ (k : Nat) (s : State), k < 2 → s.Shaped → s.powered .vce = true → s.flag Fl.VCE_RTP_CTRL_en [k] = true →
    let x := s.enc k
    let at_ := x.base + x.rtpRd % x.size
    let len := leNat (s.hbmRead at_ 4)
    x.rtpRd ≠ s.rd R.VCE_OWR [k] → x.size ≠ 0 → len ≠ 0 → leNat (s.hbmRead (at_ + 36) 1) ≤ 1 →
    s.netOn (s.rtpDst k).port = true →
    ∃ t l, exec (.rtpSendAu k true) s = .next t ∧ (t.enc k).rtpRd = (x.rtpRd + len) % 2 ^ 32 ∧ (t.enc k).rtpSkip = false ∧
      t.out = s.out ++ l ∧ t.out = (s.rtpRecord k true (s.hbmRead at_ len)).out ∧ (∀ o ∈ l, ∃ b, o = .eth (s.rtpDst k).port b) ∧
      t = { s with regs := t.regs, encs := t.encs, out := t.out }) ∧
  (∀ (k : Nat) (s : State), k < 2 → s.Shaped → s.powered .vce = true → s.flag Fl.VCE_RTP_CTRL_en [k] = true →
    let x := s.enc k
    let at_ := x.base + x.rtpRd % x.size
    let len := leNat (s.hbmRead at_ 4)
    x.rtpRd ≠ s.rd R.VCE_OWR [k] → x.size ≠ 0 → len ≠ 0 → leNat (s.hbmRead (at_ + 36) 1) ≤ 1 →
    ∃ t, exec (.rtpSendAu k false) s = .next t ∧ (t.enc k).rtpRd = (x.rtpRd + len) % 2 ^ 32 ∧ (t.enc k).rtpSeq = x.rtpSeq ∧
      t = { s with regs := t.regs, encs := t.encs }) ∧
  (∀ (r : DecodeResult) (s : State), s.powered .vce = true → rising s.regs = true → s.dev Fl.VCE_D_CTRL_enable ≠ 0 →
    s.rd R.VCE_D_HEAD ≠ s.rd R.VCE_D_TAIL →
    let at_ := s.devRd R.VCE_D_RING_LO + 2 ^ 32 * s.devRd R.VCE_D_RING_HI +
      s.rd R.VCE_D_HEAD % 2 ^ s.dev Fl.VCE_D_RCTL_log2size * 32
    let d := s.memRead (s.dev Fl.VCE_D_RCTL_host = 1) at_ 32
    s.oldJob 2 = false →
    let ok : Bool := fieldLe d 16 4 ≠ 0 && (bit (fieldLe d 0 1) 0 || s.inPartition (fieldLe d 8 8) (fieldLe d 16 4))
    ∃ t, exec (.decodeDescriptor r) s = .next t ∧ t.rd R.VCE_D_HEAD = (s.rd R.VCE_D_HEAD + 1) % 2 ^ 32 ∧
      (ok = true → bit (fieldLe d 0 1) 3 = true → t.raised = s.raised) ∧
      (ok = false ∨ bit (fieldLe d 0 1) 3 = false → ∃ e, t.raised = s.raised ++ [e] ∧ e.typ = (if ok then stOk else stBadArg) ∧
        e.src = srcVCE ∧ e.inst = 2 ∧ e.dst = fieldLe d 1 1 % 16) ∧
      t = { s with
        regs := t.regs, raised := t.raised, dec := t.dec, limited := t.limited, hbm := t.hbm, undef := t.undef, free := t.free,
        oldJobs := t.oldJobs }) ∧
  (∀ (p : DecodedPic) (h : DecHeld) (s : State), s.powered .vce = true → rising s.regs = true →
    s.dec.held.find? (fun h => h.id = p.id) = some h → h.hostOut = true → s.hbmc.down = [] → rising s.hbm = true →
    let k := s.rd R.VCE_D_PICS
    let base := h.base + k % h.slots * h.stride
    (k + 2 ^ 32 - s.rd R.VCE_D_DONE) % 2 ^ 32 < h.slots →
    4096 + pitchOf 0 (State.decFmt p) p.width * (State.decLines p).1.length ≤ h.stride →
    ∃ t, exec (.decodedPictureOutput p) s = .next t ∧ t.rd R.VCE_D_PICS = (k + 1) % 2 ^ 32 ∧
      t.hbmRead base 8 = leBytes 8 (2 * k + 2) ∧ (∀ q ∈ t.dec.held, q.id ≠ p.id) ∧ (∀ a, a < base → t.hbmByte a = s.hbmByte a)) ∧
  (∀ (p : DecodedPic) (s : State), s.dec.held.find? (fun h => h.id = p.id) = none → exec (.decodedPictureOutput p) s = .next s)

/-- R359, R360, R361, R366, R367, R371, R372, R381: the display engine and the SDI inputs. -/
def Obligations.DisplayFrames : Prop :=
  (∀ (r : Raster) (s : State), s.raster = some r → s.disp.running = false → s.powered .disp = true → rising s.regs = true →
    let u := s.frameInstant r
    ∃ t, exec .displayFrameStart s = .next t ∧ t.disp.running = true ∧ (∀ l ∈ t.disp.layers, l.blank = none) ∧
      t.get Fl.DISP_FRAMES_count = (s.get Fl.DISP_FRAMES_count + 1) % 2 ^ 32 ∧
      t.disp.grid.isSome = (s.dsp Fl.DISP_CTRL_lock = 1 && s.flag Fl.DISP_STAT_locked) ∧ t = { u with regs := t.regs, disp := t.disp }) ∧
  (∀ s : State, s.powered .disp = true → s.raster.isSome = true → s.Shaped →
    ∃ t, exec .vblankLatch s = .next t ∧ t.disp.running = false ∧
      (t.raster.isSome = true → ∀ n : Nat, n < 4 → (t.layer n).kind = t.dsp Fl.DISP_L_CTRL_kind [n] ∧
        (t.layer n).index = t.dsp Fl.DISP_L_CTRL_index [n]) ∧
      (t.raster = none → ∀ l ∈ t.disp.layers, l = LayerSt.init)) ∧
  (∀ (locked : Bool) (r : Raster) (s : State), s.flag Fl.DISP_STAT_locked = !locked → s.powered .disp = true → s.raster = some r →
    (locked = true → s.lockable r = true) → rising s.regs = true →
    ∃ t e, exec (.evDispLock locked) s = .next t ∧ t.flag Fl.DISP_STAT_locked = locked ∧
      (locked = false → t.flag Fl.DISP_STAT_lock_lost = true) ∧ t.raised = s.raised ++ [e] ∧ e.typ = 0x00B2 ∧ e.src = srcDISP ∧
      e.payload = b2n locked ∧ t = { s with regs := t.regs, raised := t.raised } ∧
      ∀ (r : Reg) (ix : List Nat), r.key ix ≠ R.DISP_STAT.key [] → t.rd r ix = s.rd r ix) ∧
  (∀ (n line : Nat) (poison : Bool) (s : State), n < 4 → s.Shaped → s.disp.running = true → (s.layer n).blank = none →
    (s.layerSurface n).1.isSome = true → rising s.regs = true →
    ∃ t e, exec (.evDispUnderrun n line poison) s = .next t ∧ (t.layer n).blank = some line ∧ (∀ m, m ≠ n → t.layer m = s.layer m) ∧
      t.flag Fl.DISP_L_STAT_underrun [n] = true ∧ t.limited = s.limited ++ [e] ∧ e.typ = 0x00B0 ∧ e.src = srcDISP ∧ e.inst = n ∧
      t = { s with regs := t.regs, disp := t.disp, limited := t.limited }) ∧
  (∀ (i slot : Nat) (f : SdiFrame) (s : State), i < 2 → i < s.disp.sdi.length → s.powered .disp = true → s.dsp Fl.DISP_I_CTRL_enable [i] = 1 →
    s.graph.portOn 8 i = true → f.payloadOk = true →
    let x := s.disp.sdi.getD i SdiSt.init
    let slots := s.dsp Fl.DISP_I_CTRL_slots [i]
    let stride := s.dsp Fl.DISP_I_STRIDE_stride [i] * 4096
    let base := s.dspRd R.DISP_I_BUF_LO [i] + 2 ^ 32 * s.dspRd R.DISP_I_BUF_HI [i] + slot * stride
    (((List.range slots).map fun k => (x.next + k) % slots).find? fun k => !((s.sdiHeld i).contains k)) = some slot →
    4096 + 2 * f.height * pitchOf 0 fmtYC422P10 f.width ≤ stride → s.hbmc.down = [] → rising s.hbm = true →
    ∃ t y, exec (.sdiInputFrame i f) s = .next t ∧ t.disp.sdi.getD i SdiSt.init = y ∧ y.k = x.k + 1 ∧ y.next = (slot + 1) % slots ∧
      (∃ q ∈ y.pub, q.slot = slot ∧ q.k = x.k ∧ q.base = base) ∧ t.hbmRead base 8 = leBytes 8 (2 * x.k + 2) ∧
      (∀ a, a < base → t.hbmByte a = s.hbmByte a) ∧ t = { s with regs := t.regs, disp := t.disp, hbm := t.hbm, undef := t.undef, free := t.free }) ∧
  (∀ (i std tr : Nat) (locked : Bool) (s : State), i < 2 → std < 256 → s.powered .disp = true → s.graph.portOn 8 i = true →
    s.flag Fl.DISP_I_STAT_locked [i] = !locked → rising s.regs = true →
    ∃ t e, exec (.evSdiIn i locked std tr) s = .next t ∧ t.flag Fl.DISP_I_STAT_locked [i] = locked ∧
      t.get Fl.DISP_I_STAT_format [i] = (if locked then std else 0) ∧ (locked = false → t.flag Fl.DISP_I_STAT_lock_lost [i] = true) ∧
      t.raised = s.raised ++ [e] ∧ e.typ = 0x00B3 ∧ e.src = srcDISP ∧ e.inst = i ∧ t = { s with regs := t.regs, raised := t.raised } ∧
      ∀ (r : Reg) (ix : List Nat), r.key ix ≠ R.DISP_I_STAT.key [i] → t.rd r ix = s.rd r ix)

/-- R378, R379: the DSI ports. A transfer starts on a tearing-effect edge or when the edges are lost; its end counts it; a command's
packet goes out at once, or after the transfer that runs, and a response or its time-out ends a command that turned the bus around. -/
def Obligations.DsiTransfersAndCommands : Prop :=
  (∀ (d b : Nat) (s : State), d < 2 → s.Shaped → s.dsiOn d = true → s.dsp Fl.DISP_D_CTRL_te_en [d] = 1 →
    (s.dsi d).done = some b → (s.dsi d).xfer = none → (s.dsi d).turn = false →
    ∃ t, exec (.dsiTransferStart d) s = .next t ∧ (t.dsi d).xfer = some b ∧ (t.dsi d).done = none ∧ (t.dsi d).lost = false ∧
      (∃ l, t.out = s.out ++ l ∧ l.length = s.dsp Fl.DISP_D_SIZE_y_or_h [d]) ∧ t = { s with regs := t.regs, disp := t.disp, out := t.out }) ∧
  (∀ (d b : Nat) (s : State), d < 2 → s.Shaped → rising s.regs = true → (s.dsi d).xfer = some b → (s.dsi d).wait = false →
    (s.dsi d).done = none →
    ∃ t, exec (.dsiTransferEnd d) s = .next t ∧ (t.dsi d).xfer = none ∧
      t.get Fl.DISP_D_CNT_sent [d] = (s.get Fl.DISP_D_CNT_sent [d] + 1) % 2 ^ 16 ∧ t.out = s.out ∧
      t.flag Fl.DISP_D_STAT_busy [d] = (s.dsi d).turn ∧ t = { s with regs := t.regs, disp := t.disp }) ∧
  (∀ (d : Nat) (s : State), d < 2 → s.Shaped → rising s.regs = true → s.dsiOn d = true →
    s.dsp Fl.DISP_D_CTRL_te_en [d] = 1 → (s.dsi d).lost = false →
    ∃ t e, exec (.teLost d) s = .next t ∧ (t.dsi d).lost = true ∧ t.flag Fl.DISP_D_STAT_te_lost [d] = true ∧ t.limited = s.limited ++ [e] ∧
      e.typ = 0x00B4 ∧ e.src = srcDISP ∧ e.inst = d) ∧
  (∀ (d v : Nat) (s : State), d < 2 → s.Shaped → v < 2 ^ 32 → s.reaches .disp = true → rising s.regs = true → bit v 31 = true →
    bit v 29 = false → s.flag Fl.DISP_D_CMD_go [d] = false → (s.dsi d).xfer = none → bits v 20 16 ≤ 16 →
    let dt := bits v 5 0
    let data := (List.range 4).flatMap fun j => leBytes 4 (s.rd R.DISP_D_CMDDATA [d, j])
    ∃ t, exec (.dsiCommand d v) s = .next t ∧ t.flag Fl.DISP_D_CMD_go [d] = false ∧
      t.out = s.out ++ [.dsi d (if 9 ≤ dt % 16 then leBytes 1 dt ++ leBytes 2 (bits v 20 16) ++ data.take (bits v 20 16)
        else leBytes 1 dt ++ data.take 2)] ∧ (t.dsi d).turn = false ∧ t = { s with regs := t.regs, disp := t.disp, out := t.out }) ∧
  (∀ (d v b : Nat) (s : State), d < 2 → s.Shaped → v < 2 ^ 32 → s.reaches .disp = true → rising s.regs = true → bit v 31 = true →
    s.flag Fl.DISP_D_CMD_go [d] = false → (s.dsi d).xfer = some b →
    ∃ t, exec (.dsiCommand d v) s = .next t ∧ t.flag Fl.DISP_D_CMD_go [d] = true ∧ (t.dsi d).wait = true ∧ t.out = s.out) ∧
  (∀ (d report : Nat) (data : Bytes) (s : State), d < 2 → s.Shaped → rising s.regs = true → (s.dsi d).turn = true → (s.dsi d).due = false →
    ∃ t, exec (.dsiReadResponse d data report) s = .next t ∧ t.rd R.DISP_D_RESP0 [d] = fieldLe data 0 4 ∧
      t.rd R.DISP_D_RESP1 [d] = fieldLe data 4 4 ∧ t.get Fl.DISP_D_STAT_resp_len [d] = min data.length 8 ∧ (t.dsi d).turn = false ∧
      t.flag Fl.DISP_D_CMD_go [d] = false ∧ (report ≠ 0 → t.flag Fl.DISP_D_STAT_cmd_err [d] = true) ∧ (report = 0 → t.limited = s.limited) ∧
      t = { s with regs := t.regs, disp := t.disp, limited := t.limited }) ∧
  (∀ (d : Nat) (s : State), d < 2 → s.Shaped → rising s.regs = true → (s.dsi d).turn = true → (s.dsi d).due = false →
    ∃ t e, exec (.dsiResponseTimeout d) s = .next t ∧ t.flag Fl.DISP_D_STAT_cmd_err [d] = true ∧ t.flag Fl.DISP_D_CMD_go [d] = false ∧
      (t.dsi d).turn = false ∧ t.limited = s.limited ++ [e] ∧ e.typ = 0x00B4 ∧ e.inst = d ∧
      t = { s with regs := t.regs, disp := t.disp, limited := t.limited })

/-- R392, R394, R395, R396, R400, R402, R403: the HBM memory system. A read answers the bytes of the memory plan, a write stores them; an
uncorrectable error freezes its channel; a refresh tick closes the rows; a temperature report and a scrub read have their effects. -/
def Obligations.HbmRequestsAndRefresh : Prop :=
  (∀ (q : HbmReq) (s : State), q.write = false → q.len ≠ 0 → q.err = .none → s.mapped q.addr = true → s.powered (.hbmc 0) = true →
    ∃ t, exec (.hbmRequest [q]) s = .next t ∧
      t.out = s.out ++ [.hbm q.client q.addr (s.hbmRead q.addr q.len) (s.poisonedAt q.addr q.len)] ∧
      t = { s with regs := t.regs, hbmc := t.hbmc, out := t.out, promo := t.promo }) ∧
  (∀ (q r : HbmReq) (s : State), q.write = false → q.len ≠ 0 → q.err = .none → s.mapped q.addr = true → r.write = false → r.len ≠ 0 →
    r.err = .none → s.mapped r.addr = true → s.powered (.hbmc 0) = true → s.hbmc.panic.contains q.client = false →
    s.hbmc.panic.contains r.client = true →
    ∃ t, exec (.hbmRequest [q, r]) s = .next t ∧
      t.out = s.out ++ [.hbm r.client r.addr (s.hbmRead r.addr r.len) (s.poisonedAt r.addr r.len),
        .hbm q.client q.addr (s.hbmRead q.addr q.len) (s.poisonedAt q.addr q.len)] ∧
      t = { s with regs := t.regs, hbmc := t.hbmc, out := t.out, promo := t.promo }) ∧
  (∀ (q : HbmReq) (s : State), q.write = true → q.data ≠ [] → q.err = .none → s.mapped q.addr = true → s.powered (.hbmc 0) = true →
    s.hbmc.down = [] → rising s.hbm = true →
    ∃ t, exec (.hbmRequest [q]) s = .next t ∧ t.hbmRead q.addr q.data.length = q.data ∧
      (∀ a, (a < q.addr ∨ q.addr + q.data.length ≤ a) → t.hbmByte a = s.hbmByte a) ∧ t.out = s.out ++ [.hbm q.client q.addr [] false] ∧
      t = { s with regs := t.regs, hbmc := t.hbmc, hbm := t.hbm, undef := t.undef, out := t.out, promo := t.promo }) ∧
  (∀ (q : HbmReq) (pa : Nat) (s : State), q.write = false → q.len ≠ 0 → q.err = .uncorrectable → s.mapped q.addr = true →
    s.powered (.hbmc 0) = true → s.phys q.addr = some (pa, true) → (State.physLoc pa).ch ∉ s.hbmc.down → rising s.regs = true →
    ∃ t, exec (.hbmRequest [q]) s = .next t ∧ (State.physLoc pa).ch ∈ t.hbmc.down ∧
      t.get Fl.HBMC_CH_STAT_state [(State.physLoc pa).ch] = 3 ∧ t.hbm = s.hbm ∧ t.undef = s.undef ∧
      ∃ e ∈ t.raised, e.typ = 0x40C0 ∧ e.src = srcHBMC ∧ e.inst = (State.physLoc pa).ch) ∧
  (∀ s : State, s.hbmc.ticking = true → s.powered (.hbmc 0) = true → rising s.regs = true →
    ∃ t, exec .refreshTick s = .next t ∧ t.hbmc.rows = [] ∧ t.hbmc.hot = none ∧
      (∀ h k c, s.hbmc.hot = some (h, k, c) → t.flag Fl.HBMC_REFRESH_hot = h ∧ t.get Fl.HBMC_REFRESH_trefi_ns = (if h then 1950 else 3900)) ∧
      t = { s with regs := t.regs, hbmc := t.hbmc, raised := t.raised }) ∧
  (∀ (k : Nat) (temp : Int) (s : State), k < 4 → s.powered (.hbmc 0) = true → rising s.regs = true →
    ∃ t, exec (.hbmTempReport k temp) s = .next t ∧ t.get Fl.HBMC_TEMP_now [k] = unsigned 8 temp ∧
      (85 < temp → temp ≤ 127 → s.flag Fl.HBMC_REFRESH_hot = false → t.hbmc.hot = some (true, k, unsigned 8 temp)) ∧
      ((s.get Fl.HBMC_CFG_temp_alarm : Int) < temp → ∃ e ∈ t.raised, e.typ = 0x40C2 ∧ e.src = srcHBMC ∧ e.inst = k) ∧
      t = { s with regs := t.regs, hbmc := t.hbmc, raised := t.raised }) ∧
  (∀ s : State, s.get Fl.HBMC_CFG_scrub_h ≠ 0 → s.powered (.hbmc 0) = true →
    ∃ t pa, exec (.scrubRead .none) s = .next t ∧ t.hbmc.scrub = pa + 64 ∧
      (∃ e ∈ s.extents, e.1 ≤ pa ∧ pa < e.1 + e.2.1) ∧ t = { s with regs := t.regs, hbmc := t.hbmc })

/-- R392, R401, R406, R407, R408, R409: channels. A parity alert is counted, and a second one during the replay freezes the channel; a
released channel resynchronises, or trains first; its resync makes it normal again; repair, margin scan and panic. -/
def Obligations.HbmChannelsFreezeAndReturn : Prop :=
  (∀ (n : Nat) (s : State), n < 64 → n ∉ s.hbmc.down → s.powered (.hbmc n) = true → rising s.regs = true →
    ∃ t, exec (.caparAlert n false) s = .next t ∧
      t.get Fl.HBMC_CH_CAPAR_count [n] = min (s.get Fl.HBMC_CH_CAPAR_count [n] + 1) (2 ^ 32 - 1) ∧ t = { s with regs := t.regs } ∧
      ∀ (r : Reg) (ix : List Nat), r.key ix ≠ R.HBMC_CH_CAPAR.key [n] → t.rd r ix = s.rd r ix) ∧
  (∀ (n : Nat) (s : State), n < 64 → n ∉ s.hbmc.down → s.powered (.hbmc n) = true → rising s.regs = true →
    ∃ t, exec (.caparAlert n true) s = .next t ∧ n ∈ t.hbmc.down ∧ t.get Fl.HBMC_CH_STAT_state [n] = 3 ∧
      t.get Fl.HBMC_CH_FRZ_CAUSE_cause [n] = 2 ∧ ∃ e ∈ t.raised, e.typ = 0x40C0 ∧ e.src = srcHBMC ∧ e.inst = n) ∧
  (∀ (n : Nat) (s : State), n < 64 → s.reaches (.hbmc n) = true → rising s.regs = true → s.get Fl.HBMC_CH_STAT_state [n] = 3 →
    s.get Fl.HBMC_CH_FRZ_CAUSE_cause [n] ≠ 3 →
    ∃ t, exec (.channelRelease n true) s = .next t ∧ t.get Fl.HBMC_CH_STAT_state [n] = 4 ∧ t.flag Fl.HBMC_CH_RESYNC_active [n] = true ∧
      t.hbmc.down = s.hbmc.down.erase n ∧ n ∈ t.hbmc.sync ∧ t.hbm = s.hbm) ∧
  (∀ (n : Nat) (s : State), n < 64 → rising s.regs = true → s.get Fl.HBMC_CH_STAT_state [n] = 3 → s.get Fl.HBMC_CFG_auto = 1 →
    s.get Fl.HBMC_CH_FRZ_CAUSE_cause [n] ≠ 3 →
    ∃ t, exec (.channelRelease n false) s = .next t ∧ t.get Fl.HBMC_CH_STAT_state [n] = 4 ∧ t.hbmc.down = s.hbmc.down.erase n ∧
      t.nv.repairs.length = s.nv.repairs.length + b2n (s.flag Fl.HBMC_CH_CTRL_ppr [n])) ∧
  (∀ (n : Nat) (s : State), n < 64 → s.reaches (.hbmc n) = true → rising s.regs = true → s.get Fl.HBMC_CH_STAT_state [n] = 3 →
    s.get Fl.HBMC_CH_FRZ_CAUSE_cause [n] = 3 →
    ∃ t, exec (.channelRelease n true) s = .next t ∧ t.get Fl.HBMC_CH_STAT_state [n] = 1 ∧ n ∈ t.hbmc.retrain ∧
      t = { s with regs := t.regs, hbmc := t.hbmc }) ∧
  (∀ (n ms : Nat) (s : State), n < 64 → rising s.regs = true → n ∈ s.hbmc.sync → n ∉ s.hbmc.retrain →
    ∃ t, exec (.evHbmResync n true ms) s = .next t ∧ t.get Fl.HBMC_CH_STAT_state [n] = 2 ∧ t.flag Fl.HBMC_CH_STAT_resync_done [n] = true ∧
      t.hbmc.sync = s.hbmc.sync.erase n ∧ ∃ e ∈ t.raised, e.typ = 0x00C2 ∧ e.src = srcHBMC ∧ e.inst = n) ∧
  (∀ (n v : Nat) (s : State), n < 64 → v < 2 ^ 32 → s.reaches (.hbmc n) = true → rising s.regs = true → bit v 31 = true →
    bits v 20 15 ≤ 47 → bits v 14 0 ≤ 24575 → s.get Fl.HBMC_CH_STAT_state [n] = 3 →
    ∃ t, exec (.ppr n v true) s = .next t ∧ t.nv.repairs = s.nv.repairs ++ (if bit v 29 then [] else [(n, v % 2 ^ 22)]) ∧
      t.nv.hard = s.nv.hard ++ (if bit v 29 then [(n, v % 2 ^ 22)] else []) ∧ t = { s with regs := t.regs, nv := t.nv }) ∧
  (∀ (n v : Nat) (ok : Bool) (s : State), n < 64 → v < 2 ^ 32 → s.reaches (.hbmc n) = true → rising s.regs = true → bit v 31 = true →
    (s.get Fl.HBMC_CH_STAT_state [n] ≠ 3 ∨ ok = false) →
    ∃ t, exec (.ppr n v ok) s = .next t ∧ t.flag Fl.HBMC_CH_PPR_fail [n] = true ∧ t = { s with regs := t.regs }) ∧
  (∀ (n : Nat) (eyes : List (Nat × Nat)) (s : State), n < 64 → eyes.length = 72 → rising s.regs = true →
    s.get Fl.HBMC_CH_STAT_state [n] = 2 →
    ∃ t, exec (.marginScan n eyes) s = .next t ∧ t.get Fl.HBMC_CH_TRAIN_scans [n] = (s.get Fl.HBMC_CH_TRAIN_scans [n] + 1) % 2 ^ 16 ∧
      t.get Fl.HBMC_CH_TRAIN_margin [n] = min 255 (((eyes.map fun e => e.1).min?).getD 0) ∧
      t = { s with regs := t.regs, hbmc := t.hbmc, free := t.free }) ∧
  (∀ (client margin : Nat) (s : State), client ∉ s.hbmc.panic → margin < s.get Fl.HBMC_PANIC_mark → s.powered (.hbmc 0) = true →
    rising s.regs = true →
    ∃ t, exec (.evHbmPanic client margin) s = .next t ∧ t.hbmc.panic = s.hbmc.panic ++ [client] ∧
      t.get Fl.HBMC_PANIC_CNT_count = min (s.get Fl.HBMC_PANIC_CNT_count + 1) (2 ^ 32 - 1) ∧
      ∃ e, t.limited = s.limited ++ [e] ∧ e.typ = 0x00C3 ∧ e.src = srcHBMC) ∧
  (∀ (client margin : Nat) (cycles : List (Nat × Nat)) (s : State), client ∈ s.hbmc.panic →
    s.get Fl.HBMC_PANIC_mark + s.get Fl.HBMC_PANIC_hyst < margin →
    ∃ t, exec (.panicDrop client margin cycles) s = .next t ∧ t.hbmc.panic = s.hbmc.panic.erase client ∧
      t = { s with regs := t.regs, hbmc := t.hbmc }) ∧
  (∀ (client margin : Nat) (cycles : List (Nat × Nat)) (s : State), margin ≤ s.get Fl.HBMC_PANIC_mark + s.get Fl.HBMC_PANIC_hyst →
    exec (.panicDrop client margin cycles) s = .next s)

/-- R532, R533, R534, R537, R538, R540, R542, R544: health. An error raises its source's level, and at the threshold becomes a lasting one
with its alarm; a tick lowers the levels of its kind; a protected stripe that an error hits is replayed; HLT_CMD tests the failed pair and
clears a retired mark. -/
def Obligations.HealthErrorsAndReplays : Prop :=
  (∀ (kind inst cls tile : Nat) (s : State), kind < 11 → inst < 256 → kind ≠ kindTileChk → kind ≠ kindTileUe → kind ≠ kindXwPar →
    rising s.hlt.gusts = true → (s.gust (kind * 256 + inst)).level + 1 < s.get Fl.HLT_KIND_CFG_threshold [kind] →
    ∃ t e, exec (.healthError kind inst cls tile) s = .next t ∧
      t.gust (kind * 256 + inst) = { s.gust (kind * 256 + inst) with
        level := (s.gust (kind * 256 + inst)).level + 1, errs := ((s.gust (kind * 256 + inst)).errs + 1) % 2 ^ 32 } ∧
      (∀ ix, ix ≠ kind * 256 + inst → t.gust ix = s.gust ix) ∧ t.limited = s.limited ++ [e] ∧ e.typ = 0x0120 ∧ e.src = srcHLT ∧
      t = { s with regs := t.regs, hlt := t.hlt, limited := t.limited }) ∧
  (∀ (kind inst cls tile : Nat) (s : State), kind < 11 → inst < 256 → kind ≠ kindTileChk → kind ≠ kindTileUe → kind ≠ kindXwPar →
    rising s.hlt.gusts = true → s.get Fl.HLT_KIND_CFG_threshold [kind] ≤ (s.gust (kind * 256 + inst)).level + 1 →
    ∃ t, exec (.healthError kind inst cls tile) s = .next t ∧ (t.gust (kind * 256 + inst)).level = 0 ∧
      (t.gust (kind * 256 + inst)).lasting = min ((s.gust (kind * 256 + inst)).lasting + 1) (2 ^ 32 - 1) ∧
      ∃ e ∈ t.raised, e.typ = 0x4120 ∧ e.src = srcHLT) ∧
  (∀ (p inst cls tile : Nat) (f : Frame) (r : PipeRec) (s : State), inst < 256 → s.tilePipe (inst / 16 + 1) (inst % 16) = some p →
    s.errorFrame p (inst / 16 + 1) (inst % 16) = some f → s.graph.pipe? p = some r → r.prot = true →
    (s.gust inst).level + 1 < s.get Fl.HLT_KIND_CFG_threshold [kindTileChk] →
    ∃ t, exec (.healthError kindTileChk inst cls tile) s = .next t ∧
      t.hlt.replays = s.hlt.replays ++ [⟨p, inst / 16 + 1, inst % 16, f.fid, s.replayRunner (inst / 16 + 1) (inst % 16)⟩] ∧
      ∃ e ∈ t.raised, e.typ = 0x4121 ∧ e.src = srcHLT) ∧
  (∀ (cls tile : Nat) (r : Replay) (s : State), rising s.regs = true →
    s.hlt.replays.find? (fun r => r.cls = cls && (r.tile = tile || r.runner = tile)) = some r →
    ∃ t, exec (.replayComplete cls tile true) s = .next t ∧ t.hlt.replays = s.hlt.replays.filter (fun q => q ≠ r) ∧
      t.get Fl.HLT_REPLAYS_count = min (s.get Fl.HLT_REPLAYS_count + 1) (2 ^ 32 - 1)) ∧
  (∀ (cls tile : Nat) (r : Replay) (s : State), rising s.regs = true →
    s.hlt.replays.find? (fun r => r.cls = cls && (r.tile = tile || r.runner = tile)) = some r →
    ∃ t, exec (.replayComplete cls tile false) s = .next t ∧ t.hlt.replays = s.hlt.replays.filter (fun q => q ≠ r) ∧
      t.get Fl.HLT_UNREPAIRED_count = min (s.get Fl.HLT_UNREPAIRED_count + 1) (2 ^ 32 - 1) ∧
      ∃ e ∈ t.raised, e.typ = 0x4122 ∧ e.src = srcHLT) ∧
  (∀ (kind : Nat) (s : State),
    let l := s.hlt.leaks.getD kind (0, 0)
    let due := l.1 + if l.2 = 0 then s.leakPeriod kind else l.2
    let u := s.reachClk due
    ∃ t, exec (.gustLeakTick kind) s = .next t ∧
      (∀ ix, t.gust ix = { s.gust ix with level := if ix / 256 = kind then (s.gust ix).level - 1 else (s.gust ix).level }) ∧
      due ≤ t.time.clk ∧ t = { u with regs := t.regs, hlt := t.hlt }) ∧
  (∀ (v : Nat) (s : State), v < 2 ^ 32 → s.reaches .hlt = true → rising s.regs = true → bit v 31 = true → bits v 27 24 = 1 →
    s.hlt.failedPair = true →
    ∃ t, exec (.testFailedPair v true) s = .next t ∧ t.hlt.failedPair = false ∧ t.flag Fl.HLT_SPARE_pair_ready = true ∧
      t = { s with regs := t.regs, hlt := t.hlt }) ∧
  (∀ (v : Nat) (s : State), v < 2 ^ 32 → s.reaches .hlt = true → rising s.regs = true → bit v 31 = true → bits v 27 24 = 2 → bits v 7 0 < 48 →
    ∃ t, exec (.clearRetiredMark v) s = .next t ∧ bit (t.get (retiredFld (bits v 7 0 / 16 + 1))) (bits v 7 0 % 16) = false ∧
      t.nv.retired = t.rd R.HLT_RETIRED ∧ t = { s with regs := t.regs, nv := t.nv })

/-- R546, R547, R548, R555, R556, R560: Barometer and the Trail. A plan starts, unless one runs, and its end sets the offsets planned; a
rail's offset rises by one step; freed space lets held records out; the black box is sealed once. -/
def Obligations.BarometerAndTrail : Prop :=
  (∀ (v : Nat) (s : State), v < 2 ^ 32 → s.reaches .baro = true → rising s.regs = true → bit v 0 = true → s.baro.plan = none →
    ∃ t, exec (.baroPlanCommand v) s = .next t ∧ t.baro.plan = some 2 ∧ t.flag Fl.BARO_STAT_busy = true ∧ t.flag Fl.BARO_CTRL_go = true ∧
      t.flag Fl.BARO_CTRL_auto = bit v 8 ∧ t = { s with regs := t.regs, baro := t.baro }) ∧
  (∀ (v : Nat) (s : State), s.reaches .baro = true → s.baro.plan.isSome = true →
    ∃ t, exec (.baroPlanCommand v) s = .next t ∧ t = { s with regs := t.regs } ∧
      ∀ (r : Reg) (ix : List Nat), r.key ix ≠ R.BARO_CTRL.key [] → t.rd r ix = s.rd r ix) ∧
  (∀ s : State, s.flag Fl.BARO_CTRL_auto = true → s.baro.plan = none → rising s.regs = true →
    let u := s.reachClk (s.baro.planned + 86400 * second)
    ∃ t, exec .baroPeriodicPlan s = .next t ∧ t.baro.plan = some 1 ∧ t.flag Fl.BARO_STAT_busy = true ∧
      s.baro.planned + 86400 * second ≤ t.time.clk ∧ t = { u with regs := t.regs, baro := t.baro }) ∧
  (∀ (m : BaroMeas) (c : Nat) (s : State), s.baro.plan = some c → rising s.regs = true →
    let u := if c = 0 then s else s.railsStore
    ∃ t, exec (.evBaroPlan m) s = .next t ∧ t.baro.plan = none ∧
      t.baro.target = (List.range 24).map (fun d => (u.domainPlan m d).1) ∧ t.flag Fl.BARO_STAT_busy = false ∧
      t.flag Fl.BARO_CTRL_go = false ∧ t.rd R.BARO_NEXT = 1440 ∧ ∃ e ∈ t.raised, e.typ = 0x0130 ∧ e.src = srcBARO) ∧
  (∀ (r : Nat) (s : State), r < 6 → s.railNow r < s.railTarget r → rising s.regs = true →
    ∃ t b, exec (.railOffsetStep r true) s = .next t ∧ t.out = s.out ++ [.port 6 r b] ∧
      (∀ d ∈ s.railDomains r, t.get Fl.BARO_D_offset [d] =
        (s.railNow r + 1) % 2 ^ (Fl.BARO_D_offset.hi + 1 - Fl.BARO_D_offset.lo)) ∧ t = { s with regs := t.regs, out := t.out }) ∧
  (∀ (d : Nat) (s : State), d < 19 → s.Shaped → rising s.regs = true →
    ∃ t, exec (.trailSpaceFreed d) s = .next t ∧ (t.destFull d = true ∨ t.destHolds d = false)) ∧
  (∀ (d : Nat) (s : State), d = 16 ∨ d = 17 → s.Shaped → (s.dest d).staged.length < 256 →
    let u := s.reachClk ((s.dest d).lowSince + 10000000)
    ∃ t, exec (.traceSamplingRelax d) s = .next t ∧ (t.dest d).log2N = (s.dest d).log2N - 1 ∧ (∀ e, e ≠ d → t.dest e = s.dest e) ∧
      (s.dest d).lowSince + 10000000 ≤ t.time.clk ∧ t = { u with regs := t.regs, dests := t.dests, raised := t.raised }) ∧
  (∀ s : State, s.Shaped → s.reaches .trl = true → s.dusk = false → s.bbSealed = false → rising s.regs = true → rising s.mram = true →
    ∃ t, exec .bbSeal s = .next t ∧ t.bbSealed = true ∧ (t.dest 18).staged = [] ∧
      t.nv.bb = (s.nv.bb.1, s.get Fl.TRL_BB_STAT_half, 2)) ∧
  (∀ s : State, s.reaches .trl = true → s.bbSealed = true → exec .bbSeal s = .next s)

/-- R415, R419, R420, R421, R422, R423, R434, R439: the offload controller's admin commands. Each, fetched in its queue's turn, has its
effect (an opcode that the controller does not know has none), ends with its completion entry in the host's memory, and leaves all but the
controller as it was. The status values are those of the layout the model takes (log 31). -/
def Obligations.OffloadAdminCommands : Prop :=
  (∀ (c : NvmeCmd) (q : OflSq) (k : OflCq) (s : State), s.Fetches c 0x105 → s.CanPost c q k → bits c.cdw10 15 0 ≠ 0 →
    bits c.cdw10 15 0 ≤ s.cqGranted → s.oflCq (bits c.cdw10 15 0) = none → 1 ≤ bits c.cdw10 31 16 → bits c.cdw10 31 16 ≤ 4095 →
    bit c.cdw11 0 = true → bits c.cdw11 31 16 ≤ 64 → c.prp1 % s.oflPage = 0 →
    ∃ t, exec (.nvmeCreateIoCq c) s = .next t ∧ t.oflCq (bits c.cdw10 15 0) =
        some ⟨bits c.cdw10 15 0, c.prp1, bits c.cdw10 31 16 + 1, bits c.cdw11 31 16, bit c.cdw11 1, 0, 0, true⟩ ∧
      t.GotEntry c q k 0 0 ∧ t.Ended s.ofl.nextId ∧ t.ofl.sqs.length = s.ofl.sqs.length ∧ s.OflFrame t) ∧
  (∀ (c : NvmeCmd) (q : OflSq) (k : OflCq) (s : State), s.Fetches c 0x101 → s.CanPost c q k → bits c.cdw10 15 0 ≠ 0 →
    bits c.cdw10 15 0 ≤ s.sqGranted → s.oflSq (bits c.cdw10 15 0) = none → 1 ≤ bits c.cdw10 31 16 → bits c.cdw10 31 16 ≤ 4095 →
    bit c.cdw11 0 = true → bits c.cdw11 31 16 ≠ 0 → bits c.cdw11 31 16 ≤ s.cqGranted → (s.oflCq (bits c.cdw11 31 16)).isSome = true →
    c.prp1 % s.oflPage = 0 →
    ∃ t, exec (.nvmeCreateIoSq c) s = .next t ∧ t.oflSq (bits c.cdw10 15 0) =
        some ⟨bits c.cdw10 15 0, c.prp1, bits c.cdw10 31 16 + 1, bits c.cdw11 31 16, 0, 0⟩ ∧
      t.GotEntry c q k 0 0 ∧ t.Ended s.ofl.nextId ∧ t.ofl.cqs.length = s.ofl.cqs.length ∧ s.OflFrame t) ∧
  (∀ (c : NvmeCmd) (q : OflSq) (k : OflCq) (s : State), s.Fetches c 0x100 → s.CanPost c q k → bits c.cdw10 15 0 ≠ 0 →
    (s.oflSq (bits c.cdw10 15 0)).isSome = true → (∀ x ∈ s.ofl.cmds, x.sq ≠ bits c.cdw10 15 0) → (∀ w ∈ s.recorder.waiters, w.2 ≠ 2) →
    ∃ t, exec (.nvmeDeleteIoSq c) s = .next t ∧ t.oflSq (bits c.cdw10 15 0) = none ∧
      (∀ n, n ≠ bits c.cdw10 15 0 → (t.oflSq n).isSome = (s.oflSq n).isSome) ∧ t.GotEntry c q k 0 0 ∧ t.Ended s.ofl.nextId ∧
      s.OflFrame t) ∧
  (∀ (c : NvmeCmd) (q : OflSq) (k : OflCq) (s : State), s.Fetches c 0x104 → s.CanPost c q k → bits c.cdw10 15 0 ≠ 0 →
    (s.oflCq (bits c.cdw10 15 0)).isSome = true → (∀ x ∈ s.ofl.sqs, x.cq ≠ bits c.cdw10 15 0) →
    ∃ t, exec (.nvmeDeleteIoCq c) s = .next t ∧ t.oflCq (bits c.cdw10 15 0) = none ∧
      (∀ n, n ≠ bits c.cdw10 15 0 → (t.oflCq n).isSome = (s.oflCq n).isSome) ∧ t.GotEntry c q k 0 0 ∧ t.Ended s.ofl.nextId ∧
      s.OflFrame t) ∧
  (∀ (c : NvmeCmd) (q : OflSq) (k : OflCq) (s : State), s.Fetches c 0x102 → s.CanPost c q k → c.nsid = 0 → bits c.cdw10 7 0 = 4 →
    bit c.cdw10 15 = false → c.cdw12 = 0 → c.cdw13 = 0 → bits c.cdw10 31 16 = 1023 → bits c.cdw11 15 0 = 0 → s.ofl.events = [] →
    s.prpSpans c.prp1 c.prp2 4096 = some [(c.prp1, 4096)] → s.ofl.changed.length ≤ 1024 →
    (c.prp1 + 4096 ≤ k.base + 16 * k.tail ∨ k.base + 16 * k.tail + 16 ≤ c.prp1) →
    ∃ t, exec (.nvmeGetLogPage c) s = .next t ∧ t.ofl.changed = [] ∧ t.GotEntry c q k 0 0 ∧ t.Ended s.ofl.nextId ∧
      t.ohost.read c.prp1 4096 = layAll (leBytes 4096 0) [(0, s.ofl.changed.flatMap fun n => leBytes 4 n)] ∧
      t = { s with regs := t.regs, ofl := t.ofl, ohost := t.ohost, out := t.out, free := t.free }) ∧
  (∀ (c : NvmeCmd) (q : OflSq) (k : OflCq) (s : State), s.Fetches c 0x106 → s.CanPost c q k → bits c.cdw10 7 0 = 0 →
    (c.nsid = 1 ∨ c.nsid = 2) → s.nsActive c.nsid = true → s.nsBlocks c.nsid < 2 ^ 64 →
    s.prpSpans c.prp1 c.prp2 4096 = some [(c.prp1, 4096)] →
    (c.prp1 + 4096 ≤ k.base + 16 * k.tail ∨ k.base + 16 * k.tail + 16 ≤ c.prp1) →
    ∃ t, exec (.nvmeIdentify c) s = .next t ∧ t.ohost.readLe c.prp1 8 = s.nsBlocks c.nsid ∧ t.ohost.readLe (c.prp1 + 130) 1 = 12 ∧
      t.ohost.readLe (c.prp1 + 99) 1 = b2n (c.nsid = 1) ∧ t.GotEntry c q k 0 0 ∧ t.Ended s.ofl.nextId ∧ s.OflFrame t) ∧
  (∀ (c : NvmeCmd) (x : OflCmd) (s : State), s.Fetches c 0x108 → rising s.regs = true →
    s.ofl.cmds.find? (fun x => x.sq = bits c.cdw10 15 0 && x.cid = bits c.cdw10 31 16) = some x → x.rows = [] → x.got = [] →
    (∀ i ∈ s.ofl.ios, i.cmd = x.id → i.issued = false) → (∀ a, s.ofl.activate = some a → a.2 ≠ x.id) →
    ∃ t, exec (.nvmeAbort c) s = .next t ∧ t.Ended x.id ∧ t.Ended s.ofl.nextId ∧ (∀ i ∈ t.ofl.ios, i.cmd ≠ x.id) ∧
      (∀ y ∈ s.ofl.cmds, y.id ≠ x.id → y ∈ t.ofl.cmds) ∧ s.OflFrame t) ∧
  (∀ (c : NvmeCmd) (q : OflSq) (k : OflCq) (f v : Nat) (s : State), s.Fetches c 0x109 → s.CanPost c q k → bit c.cdw10 31 = false →
    bits c.cdw10 7 0 = f →
    (f, v) ∈ [(0x01, c.cdw11), (0x06, c.cdw11 % 2), (0x08, c.cdw11 % 2 ^ 16), (0x0A, c.cdw11 % 2), (0x0B, c.cdw11), (0xC0, c.cdw11 % 2)] →
    ∃ t, exec (.nvmeSetFeatures c) s = .next t ∧ t.feat f = v ∧ (∀ g, g ≠ f → t.feat g = s.feat g) ∧ t.GotEntry c q k 0 0 ∧
      t.Ended s.ofl.nextId ∧ s.OflFrame t) ∧
  (∀ (c : NvmeCmd) (q : OflSq) (k : OflCq) (f : Nat) (s : State), s.Fetches c 0x10A → s.CanPost c q k → bits c.cdw10 7 0 = f →
    f ∈ [0x01, 0x02, 0x06, 0x07, 0x08, 0x0A, 0x0B, 0xC0] →
    ∃ t, exec (.nvmeGetFeatures c) s = .next t ∧ t.GotEntry c q k (s.feat f) 0 ∧ (∀ g, t.feat g = s.feat g) ∧
      (∀ a, (a < k.base + 16 * k.tail ∨ k.base + 16 * k.tail + 16 ≤ a) → t.ohost.get a = s.ohost.get a) ∧ t.Ended s.ofl.nextId ∧
      s.OflFrame t) ∧
  (∀ (c : NvmeCmd) (s : State), s.Fetches c 0x10C → s.ofl.aers.length < 4 → s.ofl.events = [] →
    ∃ t, exec (.nvmeAsyncEvent c) s = .next t ∧ t.ofl.aers = s.ofl.aers ++ [s.ofl.nextId] ∧ (∃ x ∈ t.ofl.cmds, x.id = s.ofl.nextId) ∧
      t.ohost = s.ohost ∧ s.OflFrame t) ∧
  (∀ (c : NvmeCmd) (data : Bytes) (q : OflSq) (k : OflCq) (s : State), s.Fetches c 0x111 → s.CanPost c q k →
    c.cdw11 * 4 % 4096 = 0 → c.cdw11 * 4 + (c.cdw10 + 1) * 4 ≤ 0x200000 → data.length = (c.cdw10 + 1) * 4 →
    ∃ t, exec (.nvmeFwDownload c data) s = .next t ∧ (t.ofl.download.drop (c.cdw11 * 4)).take data.length = data ∧
      t.ofl.slot2 = s.ofl.slot2 ∧ t.GotEntry c q k 0 0 ∧ t.Ended s.ofl.nextId ∧ s.OflFrame t) ∧
  (∀ (c : NvmeCmd) (q : OflSq) (k : OflCq) (s : State), s.Fetches c 0x110 → s.CanPost c q k → bits c.cdw10 2 0 = 2 →
    bits c.cdw10 5 3 = 0 → s.ofl.download ≠ [] →
    ∃ t, exec (.nvmeFwCommit c true) s = .next t ∧ t.ofl.slot2 = s.ofl.download ∧ t.ofl.download = [] ∧ t.ofl.slot = s.ofl.slot ∧
      t.GotEntry c q k 0 0 ∧ t.Ended s.ofl.nextId ∧ s.OflFrame t) ∧
  (∀ (c : NvmeCmd) (q : OflSq) (k : OflCq) (s : State), s.Fetches c 0x114 → s.CanPost c q k → bits c.cdw10 3 0 = 1 ∨ bits c.cdw10 3 0 = 2 →
    c.nsid = 0 → s.ofl.test = none →
    ∃ t, exec (.nvmeSelfTest c) s = .next t ∧ t.ofl.test = some ⟨bits c.cdw10 3 0, 0, 1, 0, none⟩ ∧ t.flag Fl.OFL_STAT_stest = true ∧
      t.get Fl.OFL_STEST_op = bits c.cdw10 3 0 ∧ t.get Fl.OFL_STEST_segment = 1 ∧ t.GotEntry c q k 0 0 ∧ t.Ended s.ofl.nextId ∧
      s.OflFrame t) ∧
  (∀ (c : NvmeCmd) (q : OflSq) (k : OflCq) (s : State), s.Fetches c (nvmeCode c) → s.CanPost c q k →
    nvmeCodes.contains (nvmeCode c) = false →
    ∃ t, exec (.nvmeIdentify c) s = .next t ∧ t.GotEntry c q k 0 nvInvalidOpcode ∧ t.Ended s.ofl.nextId ∧ s.OflFrame t)

/-- R413, R415, R424, R432, R433, R435, R437, R438, R440, R441: the offload controller itself. It is enabled, reset and shut down, a
doorbell moves a tail, an activation ends, a self-test takes its steps, and power states are reached. -/
def Obligations.OffloadController : Prop :=
  (∀ (cc : Nat) (s : State), s.oflPresent = true → bit s.ofl.cc 0 = false → bit cc 0 = true → bits cc 6 4 = 0 → bits cc 13 11 = 0 →
    bits cc 10 7 ≤ 4 → rising s.regs = true →
    ∃ t e, exec (.controllerEnable cc) s = .next t ∧ t.ofl.cc = cc ∧ t.oflRdy = true ∧ t.flag Fl.OFL_STAT_rdy = true ∧
      t.ofl.sqs = [⟨0, s.ofl.asq, bits s.ofl.aqa 11 0 + 1, 0, 0, 0⟩] ∧
      t.ofl.cqs = [⟨0, s.ofl.acq, bits s.ofl.aqa 27 16 + 1, 0, true, 0, 0, true⟩] ∧ t.raised = s.raised ++ [e] ∧ e.typ = 0x00D0 ∧
      e.src = srcOFL ∧ e.payload = 0 ∧ t = { s with regs := t.regs, ofl := t.ofl, raised := t.raised }) ∧
  (∀ s : State, s.oflPresent = true → bit s.ofl.cc 0 = true → rising s.regs = true →
    ∃ t, exec .controllerReset s = .next t ∧ t.ofl.cc = 0 ∧ t.ofl.csts = 0 ∧ t.ofl.sqs = [] ∧ t.ofl.cqs = [] ∧ t.ofl.cmds = [] ∧
      t.ofl.ios = [] ∧ t.ofl.posts = [] ∧ t.ofl.aers = [] ∧ t.ofl.dirty = s.ofl.dirty ∧ t.ofl.cache = s.ofl.cache ∧
      t.ofl.aqa = s.ofl.aqa ∧ t.ofl.slot2 = s.ofl.slot2 ∧ t.flag Fl.OFL_STAT_reset_seen = true ∧
      (∃ e ∈ t.raised, e.typ = 0x00D0 ∧ e.src = srcOFL ∧ e.payload = 1) ∧ t.ohost = s.ohost ∧ t.hbm = s.hbm ∧ t.media = s.media) ∧
  (∀ s : State, s.oflPresent = true → rising s.regs = true →
    ∃ t, exec .offloadLinkReset s = .next t ∧ t.ofl.cc = 0 ∧ t.ofl.csts = 0 ∧ t.ofl.aqa = 0 ∧ t.ofl.asq = 0 ∧ t.ofl.acq = 0 ∧
      t.ofl.msix = [] ∧ t.ofl.msixEnable = false ∧ t.ofl.cmds = [] ∧ t.ofl.dirty = s.ofl.dirty ∧ t.ofl.cache = s.ofl.cache ∧
      t.flag Fl.OFL_STAT_reset_seen = true) ∧
  (∀ (shn : Nat) (s : State), s.oflPresent = true → s.oflRdy = true → shn = 1 ∨ shn = 2 →
    ∃ t, exec (.controllerShutdown shn) s = .next t ∧ bits t.ofl.csts 3 2 = (if s.ofl.dirty = [] then 2 else 1) ∧
      bits t.ofl.cc 15 14 = shn ∧ (s.ofl.dirty ≠ [] → t.raised = s.raised) ∧
      (s.ofl.dirty = [] → ∃ e, t.raised = s.raised ++ [e] ∧ e.typ = 0x00D0 ∧ e.src = srcOFL ∧ e.payload = 2) ∧
      t = { s with ofl := t.ofl, raised := t.raised }) ∧
  (∀ (q tail : Nat) (x : OflSq) (s : State), s.oflPresent = true → s.oflRdy = true → s.oflSq q = some x → tail < x.size → x.tail ≠ tail →
    ∃ t, exec (.nvmeSqDoorbell q tail) s = .next t ∧ t.oflSq q = some { x with tail := tail } ∧
      (∀ n, n ≠ q → t.oflSq n = s.oflSq n) ∧ t.ofl.cmds = s.ofl.cmds ∧ t = { s with regs := t.regs, ofl := t.ofl }) ∧
  (∀ (slot id : Nat) (s : State), s.ofl.activate = some (slot, id) → (∀ x ∈ s.ofl.cmds, x.id = id ∨ x.id ∈ s.ofl.aers) →
    rising s.regs = true →
    ∃ t, exec (.firmwareActivation true) s = .next t ∧ t.ofl.slot = slot ∧ t.ofl.activate = none ∧ t.oflPaused = false ∧ t.Ended id ∧
      t.get Fl.OFL_FWREV_version = Config.moduleRev (t.oflModule slot) % 2 ^ 32 ∧
      (∃ e, t.raised = s.raised ++ [e] ∧ e.typ = 0x00D2 ∧ e.src = srcOFL) ∧
      t = { s with regs := t.regs, ofl := t.ofl, ohost := t.ohost, out := t.out, raised := t.raised }) ∧
  (∀ (ok : Bool) (u : OflTest) (s : State), s.ofl.test = some u → s.hostIo = false → s.get Fl.OFL_STAT_ps < 2 →
    u.step + 1 < (s.testSteps u).getD (u.seg - 1) 0 →
    ∃ t w, exec (.selfTestStep ok) s = .next t ∧ t.ofl.test = some w ∧ w.seg = u.seg ∧ w.step = u.step + 1 ∧ w.op = u.op ∧ w.ns = u.ns ∧
      (ok = true → w.failed = u.failed) ∧ (ok = false → w.failed.isSome = true) ∧ t = { s with regs := t.regs, ofl := t.ofl }) ∧
  (∀ (u : OflTest) (s : State), s.ofl.test = some u → s.hostIo = false → s.get Fl.OFL_STAT_ps < 2 → u.failed = none →
    (s.testSteps u).getD (u.seg - 1) 0 ≤ u.step + 1 → State.nextSeg (s.testSteps u) (u.seg + 1) = none → rising s.regs = true →
    ∃ t e, exec (.selfTestStep true) s = .next t ∧ t.ofl.test = none ∧ t.flag Fl.OFL_STAT_stest = false ∧
      t.get Fl.OFL_STEST_result = 0 ∧ t.ofl.results.length = min 20 (s.ofl.results.length + 1) ∧ t.raised = s.raised ++ [e] ∧
      e.typ = 0x00D4 ∧ e.src = srcOFL ∧ t = { s with regs := t.regs, ofl := t.ofl, raised := t.raised }) ∧
  (∀ (ps : Nat) (s : State), s.ofl.psNext = some ps → ps < 4 → s.ofl.psWant = none → s.ofl.cmds = [] → s.ofl.posts = [] →
    s.sqPending = [] → rising s.regs = true →
    ∃ t e, exec .powerStateReached s = .next t ∧ t.get Fl.OFL_STAT_ps = ps ∧ t.flag Fl.OFL_STAT_transit = false ∧ t.ofl.psNext = none ∧
      t.raised = s.raised ++ [e] ∧ e.typ = 0x00D1 ∧ e.src = srcOFL ∧ e.payload = ps + 256 * b2n s.ofl.psAuto ∧
      t = { s with regs := t.regs, ofl := t.ofl, raised := t.raised }) ∧
  (∀ s : State, s.oflRdy = true → bit (s.feat 0x0C) 0 = true → s.oflAwake = true → s.ofl.cmds = [] → s.sqPending = [] →
    let e := State.apstEntry s.ofl.apst (s.get Fl.OFL_STAT_ps)
    e.2 ≠ 0 → rising s.regs = true →
    ∃ t, exec .apstTransition s = .next t ∧ t.ofl.psNext = some e.1 ∧ t.ofl.psAuto = true ∧ t.flag Fl.OFL_STAT_transit = true ∧
      t.get Fl.OFL_STAT_ps = s.get Fl.OFL_STAT_ps ∧ t = { s with regs := t.regs, ofl := t.ofl })

/-- R416, R426, R428, R429, R430, R431: the offload namespaces. A write enters the exchange cache, reads plan their member accesses,
member accesses return or fail, and a dirty row is written back with its parity. -/
def Obligations.OffloadData : Prop :=
  (∀ (c : NvmeCmd) (q : OflSq) (k : OflCq) (s : State), s.Fetches c 0 → s.CanPost c q k →
    (c.nsid = 1 ∧ s.nsActive 1 = true) ∨ (c.nsid = 2 ∧ s.nsActive 2 = true ∧ s.ofl.dirty = []) →
    ∃ t, exec (.nvmeFlush c) s = .next t ∧ t.GotEntry c q k 0 0 ∧ t.Ended s.ofl.nextId ∧ t.ofl.dirty = s.ofl.dirty ∧ s.OflFrame t) ∧
  (∀ (c : NvmeCmd) (data : Bytes) (q : OflSq) (k : OflCq) (s : State), s.Fetches c 1 → s.CanPost c q k → s.ioCheck c true 256 = nvOk →
    let n := c.cdw12 % 2 ^ 16 + 1
    let lba := c.cdw10 + 2 ^ 32 * c.cdw11
    s.ofl.dirty.length + n ≤ cacheBlocks → data.length = n * 4096 → rising s.ofl.cache = true → bit (s.feat 6) 0 = true →
    bit c.cdw12 30 = false →
    ∃ t, exec (.nvmeWrite c data) s = .next t ∧ t.ofl.cache.read (lba * 4096) (n * 4096) = data ∧
      (∀ a, (a < lba * 4096 ∨ lba * 4096 + n * 4096 ≤ a) → t.ofl.cache.get a = s.ofl.cache.get a) ∧
      (∀ i, i < n → lba + i ∈ t.ofl.dirty) ∧ t.GotEntry c q k 0 0 ∧ t.Ended s.ofl.nextId ∧ s.OflFrame t) ∧
  (∀ (c : NvmeCmd) (q : OflSq) (k : OflCq) (s : State), s.Fetches c 8 → s.CanPost c q k → s.ioCheck c true 65536 = nvOk →
    let n := c.cdw12 % 2 ^ 16 + 1
    let lba := c.cdw10 + 2 ^ 32 * c.cdw11
    s.ofl.dirty.length + n ≤ cacheBlocks → rising s.ofl.cache = true → bit (s.feat 6) 0 = true → bit c.cdw12 30 = false →
    ∃ t, exec (.nvmeWriteZeroes c) s = .next t ∧ t.ofl.cache.read (lba * 4096) (n * 4096) = List.replicate (n * 4096) 0 ∧
      (∀ i, i < n → lba + i ∈ t.ofl.dirty) ∧ t.GotEntry c q k 0 0 ∧ t.Ended s.ofl.nextId ∧ s.OflFrame t) ∧
  (∀ (c : NvmeCmd) (i : Instr) (opc : Nat) (v : Volume) (s : State),
    (i, opc) ∈ [(Instr.nvmeRead c, 2), (Instr.nvmeVerify c, 12)] ∨ (∃ data, i = .nvmeCompare c data ∧ opc = 5) →
    s.Fetches c opc → s.ioCheck c false 256 = nvOk → s.recorder.vol = some v →
    let lba := c.cdw10 + 2 ^ 32 * c.cdw11
    (∀ p ∈ State.unitPieces (s.nsBase c.nsid) lba (c.cdw12 % 2 ^ 16 + 1), (s.pieceReads v c.nsid p.1).isSome = true) →
    ∃ t, exec i s = .next t ∧ (∃ x ∈ t.ofl.cmds, x.id = s.ofl.nextId ∧ x.lba = lba ∧ x.opc = opc) ∧
      (∀ p ∈ State.unitPieces (s.nsBase c.nsid) lba (c.cdw12 % 2 ^ 16 + 1), ∀ r ∈ (s.pieceReads v c.nsid p.1).getD [],
        ∃ y ∈ t.ofl.ios, y.cmd = s.ofl.nextId ∧ y.m = r.1 ∧ y.lba = r.2 ∧ y.n = p.2 ∧ y.first = p.1) ∧
      t.ohost = s.ohost ∧ t.media = s.media ∧ s.OflFrame t) ∧
  (∀ (io : Nat) (i j : OflIo) (x : OflCmd) (v : Volume) (pt : Nat) (s : State), s.recorder.vol = some v →
    s.ofl.ios.find? (fun y => y.id = io && y.issued) = some i → j ∈ s.ofl.ios → j.id ≠ i.id → j.cmd = i.cmd → s.oflCmd i.cmd = some x →
    v.ports[i.m]? = some pt →
    ∃ t, exec (.offloadMemberIoDone io) s = .next t ∧
      t.oflCmd i.cmd = some { x with got := x.got ++ [(i.m, i.lba, s.mediaRead pt i.lba (i.n * 4096))] } ∧
      (∀ y ∈ t.ofl.ios, y.id ≠ i.id) ∧ t = { s with ofl := t.ofl }) ∧
  (∀ (io : Nat) (timeout : Bool) (i j : OflIo) (x : OflCmd) (v : Volume) (s : State), s.recorder.vol = some v → i.m < v.m →
    bit v.failed i.m = false → ((List.range v.m).filter fun k => bit v.failed k).length < v.r → rising s.regs = true →
    s.ofl.ios.find? (fun y => y.id = io && y.issued) = some i → j ∈ s.ofl.ios → j.id ≠ i.id → j.cmd = i.cmd → j.issued = true →
    s.oflCmd i.cmd = some x → i.cmd ∉ s.ofl.aers →
    ∃ t w y, exec (.memberReadFail io timeout) s = .next t ∧ t.recorder.vol = some w ∧ bit w.failed i.m = true ∧ t.oflCmd i.cmd = some y ∧
      y.fail.isSome = true ∧ (∀ z ∈ t.ofl.ios, z.id ≠ i.id) ∧
      (∃ e ∈ t.raised, e.typ = 0x4080 ∧ e.src = srcREC ∧ e.inst = i.m ∧ e.payload = i.m + 256 * (if timeout then 2 else 1)) ∧
      t.media = s.media) ∧
  (∀ (row : Nat) (v : Volume) (b : Bytes) (s : State), s.recorder.vol = some v → s.ofl.dusk = false → s.powered .ofl = true →
    s.ofl.dirty.filter (fun a => s.nsRow v 2 a = row) ≠ [] → s.rowData v row = some b → s.ofl.cmds = [] →
    ∃ t, exec (.exchangeRowWriteback row) s = .next t ∧ t.media = (s.rowStore v row (s.mergeRow v row b) []).media ∧
      t.ofl.dirty = s.ofl.dirty.filter (fun a => s.nsRow v 2 a ≠ row) ∧ t.ohost = s.ohost ∧ t.hbm = s.hbm) ∧
  (∀ s : State, s.flag Fl.OFL_STAT_ns2_resync = true → s.ofl.dusk = false → rising s.regs = true →
    ∃ t, exec .exchangeParityResyncEnd s = .next t ∧ t.flag Fl.OFL_STAT_ns2_resync = false ∧
      t = { s with regs := t.regs, media := t.media } ∧
      ∀ (r : Reg) (ix : List Nat), r.key ix ≠ R.OFL_STAT.key [] → t.rd r ix = s.rd r ix)

/-- R471, R474, R475, R476, R477, R488, R489: the sky forms and loses nodes. Enabling starts a formation, the timer announces, the
decision elects the best node, waits or goes on; ANNOUNCE is recorded and answered, ASSIGN gives a place; lost nodes, paths and the root
have their effects; a key packet sets a key. -/
def Obligations.SkyFormation : Prop :=
  (∀ s : State, s.reaches .sky = true → s.skyState = 0 → rising s.regs = true →
    ∃ t e, exec .skyEnable s = .next t ∧ t.flag Fl.SKY_CTRL_enable = true ∧ t.skyState = 1 ∧ t.skyRoot = false ∧
      t.sky.best = (if s.skyPrio = 0 then (0, 0) else (s.skyPrio, s.serial)) ∧ t.sky.members = [] ∧ t.raised = s.raised ++ [e] ∧
      e.typ = 0x00F0 ∧ e.src = srcSKY ∧ e.payload = 1 + 2 ^ 32 * s.skyGen ∧ s.skySent t 0 ∧
      t = { s with regs := t.regs, sky := t.sky, raised := t.raised, out := t.out }) ∧
  (∀ s : State, s.skyState ≠ 0 → s.skyRoot = false →
    let due := s.sky.announced + s.get Fl.SKY_CFG_announce_ms * 1000000
    let u := s.reachClk due
    ∃ t, exec .announceTimer s = .next t ∧ due ≤ t.time.clk ∧ s.skySent t 0 ∧
      s.SkyBut t (fun x => { x with seq := (x.seq + 1) % 2 ^ 32, announced := u.time.clk }) ∧ t = { u with sky := t.sky, out := t.out }) ∧
  (∀ s : State, s.skyState = 1 → s.sky.best.1 = 0 → rising s.regs = true →
    let u := s.reachClk (s.sky.formedAt + s.skyWindow)
    ∃ t e, exec .formationDecision s = .next t ∧ t.skyState = 3 ∧ t.raised = s.raised ++ [e] ∧ e.typ = 0x00F0 ∧
      s.sky.formedAt + s.skyWindow ≤ t.time.clk ∧ t = { u with regs := t.regs, raised := t.raised } ∧
      ∀ (r : Reg) (ix : List Nat), r.key ix ≠ R.SKY_STAT.key [] → t.rd r ix = u.rd r ix) ∧
  (∀ s : State, s.skyState = 1 → s.sky.best.1 ≠ 0 → s.sky.best = (s.skyPrio, s.serial) → (∀ p ∈ s.sky.peers, p.heard = true → p.formed = false) →
    s.serial < 2 ^ 64 → (s.sky.peers.filter fun p => p.heard).length < 16384 → rising s.regs = true →
    let u := s.reachClk (s.sky.formedAt + s.skyWindow)
    ∃ t e, exec .formationDecision s = .next t ∧ t.skyState = 2 ∧ t.skyRoot = true ∧ t.skyId = 0 ∧
      t.skyGen = (s.sky.bestGen + 1) % 2 ^ 32 ∧ t.skyEpoch = s.sky.bestEpoch % 2 ^ 32 ∧ t.rootSerial = s.serial ∧
      t.skyMembers = (s.sky.peers.filter fun p => p.heard).length + 1 ∧ t.sky.members.length = t.skyMembers ∧
      t.sky.members[0]? = some s.serial ∧ (∀ p ∈ s.sky.peers, p.heard = true → p.serial ∈ t.sky.members) ∧ t.raised = s.raised ++ [e] ∧
      e.typ = 0x00F0 ∧ t = { u with regs := t.regs, sky := t.sky, raised := t.raised, out := t.out }) ∧
  (∀ (m : SkyMsg) (s : State), s.SkyTakes m 1 → s.skyState = 2 → s.skyRoot = false → s.sky.prep = none →
    ∃ t q, exec (.skyAnnounce m) s = .next t ∧ q ∈ t.sky.peers ∧ q.serial = (skyParse m).serial ∧ q.prio = fieldLe (skyParse m).body 0 1 ∧
      q.epoch = fieldLe (skyParse m).body 4 4 ∧ q.heard = true ∧ q.at_ = s.time.clk ∧
      t.flag (if m.path = 0 then Fl.SKY_STAT_path_a_up else Fl.SKY_STAT_path_b_up) = true ∧ s.SkyBut t id ∧
      t = { s with regs := t.regs, sky := t.sky } ∧
      ∀ (r : Reg) (ix : List Nat), r.key ix ≠ R.SKY_STAT.key [] → t.rd r ix = s.rd r ix) ∧
  (∀ (m : SkyMsg) (s : State), s.SkyTakes m 1 → s.skyState = 2 → s.skyRoot = true → s.sky.prep = none →
    fieldLe (skyParse m).body 1 1 = 0 → (skyParse m).serial ∉ s.sky.members → s.sky.members.length < 16384 →
    ∃ t, exec (.skyAnnounce m) s = .next t ∧ t.sky.members = s.sky.members ++ [(skyParse m).serial] ∧
      t.skyMembers = s.sky.members.length + 1 ∧ t = { s with regs := t.regs, sky := t.sky, out := t.out }) ∧
  (∀ (m : SkyMsg) (id n : Nat) (s : State), s.SkyTakes m 2 → s.skyState = 1 ∨ s.skyState = 3 → s.sky.best.2 = (skyParse m).serial →
    let b := (skyParse m).body
    fieldLe b 0 2 = 1 → fieldLe b 2 2 = n → fieldLe b 4 8 = s.serial → fieldLe b 12 2 = id → id < n → n ≤ 16384 →
    ∃ t e, exec (.skyAssign m) s = .next t ∧ t.skyState = 2 ∧ t.skyId = id ∧ t.flag Fl.SKY_STAT_assigned = true ∧ t.skyMembers = n ∧
      t.get Fl.SKY_TREE_parent = id / 32 ∧ t.skyGen = (skyParse m).gen ∧ t.rootSerial = (skyParse m).serial ∧
      t.raised = s.raised ++ [e] ∧ e.typ = 0x00F0 ∧ e.src = srcSKY ∧ t = { s with regs := t.regs, sky := t.sky, raised := t.raised }) ∧
  (∀ (m : SkyMsg) (s : State), s.SkyTakes m 0x30 → s.skyRoot = false →
    ∃ t, exec (.skyLost m) s = .next t ∧ (∀ p ∈ t.sky.peers, p.serial ≠ fieldLe (skyParse m).body 8 8) ∧ s.SkyBut t id ∧
      t = { s with sky := t.sky }) ∧
  (∀ (path : Nat) (s : State), path ≤ 1 → rising s.regs = true →
    let f := if path = 0 then Fl.SKY_STAT_path_a_up else Fl.SKY_STAT_path_b_up
    (∃ t, exec (.alSkyPath path true) s = .next t ∧ t.flag f = true ∧ t = { s with regs := t.regs }) ∧
    (s.flag f = true → ∃ t e, exec (.alSkyPath path false) s = .next t ∧ t.flag f = false ∧ t.flag Fl.SKY_STAT_path_lost = true ∧
      t.raised = s.raised ++ [e] ∧ e.typ = 0x40F0 ∧ e.src = srcSKY ∧ e.payload = path ∧ t = { s with regs := t.regs, raised := t.raised })) ∧
  (∀ (node : Nat) (s : State), s.skyFormed = true → s.skyRoot = false → node ∈ s.skyKids →
    let u := s.reachClk (((s.sky.peers.reverse.find? fun p => p.node = some node).map fun p => p.at_ + s.skyWindow).getD 0)
    ∃ t, exec (.childLost node) s = .next t ∧ s.skySent t 0 ∧ s.SkyBut t (fun x => { x with seq := (x.seq + 1) % 2 ^ 32 }) ∧
      t = { u with sky := t.sky, out := t.out }) ∧
  (∀ s : State, s.skyFormed = true → s.skyRoot = false → rising s.regs = true →
    let u := s.reachClk (((s.skyPeer s.rootSerial).map fun p => p.at_ + s.skyWindow).getD 0)
    ∃ t e, exec .rootLost s = .next t ∧ t.skyState = 1 ∧ t.flag Fl.SKY_STAT_assigned = false ∧ t.rootSerial = 0 ∧
      t.sky.prep = s.sky.prep ∧ t.raised = s.raised ++ [e] ∧ e.typ = 0x00F0 ∧
      t = { u with regs := t.regs, sky := t.sky, raised := t.raised, out := t.out }) ∧
  (∀ (id k : Nat) (p : Packet) (s : State), s.started id 0x200 = some p → fieldLe p.body 16 1 = k → k ≤ 1 → k < s.sky.keys.length →
    ∃ t, exec (.skyKey id) s = .next t ∧ t.sky.keys.getD k [] = (p.body.drop 32).take 32 ∧
      (∀ j, j ≠ k → t.sky.keys.getD j [] = s.sky.keys.getD j []) ∧ t.packets = (s.setResult id stOk 0).packets ∧
      t = { s with sky := t.sky, packets := t.packets })

/-- R478, R480, R481, R482, R483: the sky commit. A PREPARE is taken or refused, answers are gathered, the deadline and the decision end
the vote, COMMIT holds the epoch and ABORT drops it; requests are queued at the root. -/
def Obligations.SkyCommit : Prop :=
  (∀ (arg op : Nat) (i : Instr) (s : State), (i, op) ∈ [(Instr.skyOpCommit arg, 1), (Instr.skyOpSnapshot arg, 3), (Instr.skyOpReset arg, 4)] →
    s.reaches .sky = true → rising s.regs = true → arg < 2 ^ 32 → bit arg 31 = true → bits arg 19 16 = op → s.skyFormed = true →
    s.skyRoot = false →
    ∃ t, exec i s = .next t ∧ t.sky.asked = some ⟨op, s.rd64 R.SKY_OP_TIME_LO R.SKY_OP_TIME_HI, s.serial⟩ ∧ s.skySent t 2 ∧
      t.raised = s.raised ∧
      t = { s with regs := t.regs, sky := t.sky, out := t.out }) ∧
  (∀ (arg op : Nat) (i : Instr) (s : State), (i, op) ∈ [(Instr.skyOpCommit arg, 1), (Instr.skyOpSnapshot arg, 3), (Instr.skyOpReset arg, 4)] →
    s.reaches .sky = true → rising s.regs = true → arg < 2 ^ 32 → bit arg 31 = true → bits arg 19 16 = op → s.skyFormed = false →
    ∃ t e, exec i s = .next t ∧ t.get Fl.SKY_OP_STAT_op = op ∧ t.get Fl.SKY_OP_STAT_result = 2 ∧ t.raised = s.raised ++ [e] ∧
      e.typ = 0x00F1 ∧ e.src = srcSKY ∧ t = { s with regs := t.regs, sky := t.sky, raised := t.raised }) ∧
  (∀ (m : SkyMsg) (s : State), s.SkyTakes m 8 → s.skyState = 2 → s.skyRoot = true → (skyParse m).node ∈ s.skyKids →
    s.sky.run.isSome = true → s.sky.queue.length < 8 →
    let b := (skyParse m).body
    ∃ t, exec (.skyRequest m) s = .next t ∧
      s.SkyBut t (fun x => { x with queue := x.queue ++ [⟨fieldLe b 0 1, fieldLe b 8 8, fieldLe b 16 8⟩] }) ∧ t = { s with sky := t.sky }) ∧
  (∀ (m : SkyMsg) (s : State), s.SkyTakes m 8 → s.skyState = 2 → s.skyRoot = false → (skyParse m).node ∈ s.skyKids →
    ∃ t, exec (.skyRequest m) s = .next t ∧ t = ({ s with sky := { s.sky with peers := t.sky.peers } }).skySend 8 2 (skyParse m).body) ∧
  (∀ (m : SkyMsg) (s : State), s.SkyTakes m 0x10 → s.skyState = 2 → s.skyRoot = false → (skyParse m).node = s.skyId / 32 →
    s.skyRefusal (fieldLe (skyParse m).body 8 8) = 0 → s.drv.staged = [] →
    ∃ t f, exec (.skyPrepare m) s = .next t ∧ t.sky.prep = some (fieldLe (skyParse m).body 0 4, fieldLe (skyParse m).body 8 8) ∧
      t.sky.own = 0 ∧ t.front = some f ∧ f.sky = true ∧ f.go = false ∧ f.cond = 2 ∧ f.time = fieldLe (skyParse m).body 8 8 ∧
      t.flag Fl.DEV_COMMIT_go = true ∧ t.flag Fl.DEV_COMMIT_STAT_pending = true ∧ (s.skyKids = [] → t.sky.acked = true)) ∧
  (∀ (m : SkyMsg) (s : State), s.SkyTakes m 0x10 → s.skyState = 2 → s.skyRoot = false → (skyParse m).node = s.skyId / 32 →
    s.skyRefusal (fieldLe (skyParse m).body 8 8) ≠ 0 →
    ∃ t, exec (.skyPrepare m) s = .next t ∧ t.sky.own = s.skyRefusal (fieldLe (skyParse m).body 8 8) ∧ t.front = s.front ∧
      t = { s with sky := t.sky, out := t.out }) ∧
  (∀ (m : SkyMsg) (k : Nat) (s : State), s.SkyTakes m 0x11 → s.skyState = 2 → (skyParse m).node ∈ s.skyKids → k ∈ s.skyKids →
    k ≠ (skyParse m).node → (∀ a ∈ s.sky.acks, a.child ≠ k) → s.sky.acked = false →
    let b := (skyParse m).body
    (∃ p, s.sky.prep = some (fieldLe b 0 4, p)) →
    ∃ t, exec (.skyAck m) s = .next t ∧ s.SkyBut t (fun x => { x with acks := (x.acks.filter fun a => a.child ≠ (skyParse m).node) ++
      [⟨(skyParse m).node, fieldLe b 4 2, fieldLe b 6 2, fieldLe b 8 8, fieldLe b 16 1⟩] }) ∧ t = { s with sky := t.sky }) ∧
  (∀ (m : SkyMsg) (e tm : Nat) (s : State), s.SkyTakes m 0x12 → s.skyState = 2 → s.skyRoot = false → (skyParse m).node = s.skyId / 32 →
    fieldLe (skyParse m).body 0 4 = e → s.sky.prep = some (e, tm) → s.sky.own = 0 → s.sky.held = none →
    ∃ t, exec (.skyCommit m) s = .next t ∧ t.sky.held = some e ∧ t.skyEpoch = e % 2 ^ 32 ∧
      (∀ f, s.front = some f → f.sky = true → t.front = some { f with go := true }) ∧
      t = { s with regs := t.regs, sky := t.sky, out := t.out, front := t.front } ∧
      ∀ (r : Reg) (ix : List Nat), r.key ix ≠ R.SKY_EPOCH.key [] → t.rd r ix = s.rd r ix) ∧
  (∀ (m : SkyMsg) (e tm : Nat) (s : State), s.SkyTakes m 0x13 → s.skyState = 2 → s.skyRoot = false → (skyParse m).node = s.skyId / 32 →
    fieldLe (skyParse m).body 0 4 = e → s.sky.prep = some (e, tm) → s.sky.held = none →
    ∃ t ev, exec (.skyCommit m) s = .next t ∧ t.sky.prep = none ∧ t.get Fl.SKY_OP_STAT_op = 1 ∧ t.get Fl.SKY_OP_STAT_result = 1 ∧
      (∀ f, s.front = some f → f.sky = true → t.front = none) ∧ t.raised = s.raised ++ [ev] ∧ ev.typ = 0x00F1 ∧ ev.src = srcSKY ∧
      t = { s with regs := t.regs, sky := t.sky, out := t.out, front := t.front, raised := t.raised }) ∧
  (∀ (e tm : Nat) (s : State), s.sky.prep = some (e, tm) → s.skyRoot = false → s.skyFormed = true → s.sky.acked = false →
    rising s.regs = true →
    let u := s.reachDt (tm - (s.skyDepth - log32 (s.skyId + 1) + 1) * s.tHop - tFs)
    ∃ t, exec .ackDeadline s = .next t ∧ t.sky = { s.sky with acked := true, seq := (s.sky.seq + 1) % 2 ^ 32 } ∧ s.skySent t 2 ∧
      t = { u with sky := t.sky, out := t.out }) ∧
  (∀ (e tm : Nat) (s : State), s.sky.prep = some (e, tm) → s.skyRoot = true → s.sky.acked = false → s.sky.own = 0 → s.sky.held = none →
    s.sky.run.isSome = true → (s.skySum false).no = 0 → (s.skySum false).yes = s.skyMembers → rising s.regs = true →
    ∃ t, exec .rootDecision s = .next t ∧ t.sky.acked = true ∧ t.sky.held = some e ∧ t.skyEpoch = e % 2 ^ 32 ∧
      (∀ f, s.front = some f → f.sky = true → ∃ g, t.front = some g ∧ g.go = true)) ∧
  (∀ (m : SkyMsg) (s : State), s.SkyTakes m 0x24 → s.skyState = 2 → s.skyRoot = false → (skyParse m).node ∈ s.skyKids →
    let b := (skyParse m).body
    (∀ d ∈ s.sky.dones, ¬(d.1 = fieldLe b 0 1 ∧ d.2.1 = fieldLe b 4 4 ∧ d.2.2.1 = s.skyId)) →
    ∃ t, exec (.skyDone m) s = .next t ∧ (fieldLe b 0 1, fieldLe b 4 4, (skyParse m).node, fieldLe b 1 1) ∈ t.sky.dones ∧
      (∀ d ∈ s.sky.dones, d.2.2.1 ≠ (skyParse m).node → d ∈ t.sky.dones) ∧ t = { s with sky := t.sky })

/-- R485, R486, R487: barriers, snapshots and sky resets. -/
def Obligations.SkyBarrierSnapReset : Prop :=
  (∀ (arg k : Nat) (s : State), s.reaches .sky = true → rising s.regs = true → arg < 2 ^ 32 → bit arg 31 = true → bits arg 19 16 = 2 →
    s.skyFormed = true → s.skyRoot = false → k ∈ s.skyKids → (∀ a ∈ s.sky.arrivals, a.1 ≠ k) →
    ∃ t, exec (.skyOpBarrier arg) s = .next t ∧ t.sky = { s.sky with arrived := some (bits arg 15 0) } ∧
      t = { s with regs := t.regs, sky := t.sky }) ∧
  (∀ (arg : Nat) (s : State), s.reaches .sky = true → rising s.regs = true → arg < 2 ^ 32 → bit arg 31 = true → bits arg 19 16 = 2 →
    s.skyFormed = true → s.skyRoot = false → s.skyKids = [] → s.sky.arriveSent = false →
    ∃ t, exec (.skyOpBarrier arg) s = .next t ∧ t.sky.arrived = some (bits arg 15 0) ∧ t.sky.arriveSent = true ∧ s.skySent t 2 ∧
      t = { s with regs := t.regs, sky := t.sky, out := t.out }) ∧
  (∀ (arg : Nat) (s : State), s.reaches .sky = true → rising s.regs = true → arg < 2 ^ 32 → bit arg 31 = true → bits arg 19 16 = 3 →
    s.skyFormed = true → s.skyRoot = true → s.sky.run = none → s.sky.queue = [] →
    ∃ t, exec (.skyOpSnapshot arg) s = .next t ∧ t.sky.snapNum = (s.sky.snapNum + 1) % 2 ^ 32 ∧
      t.sky.snap = some (t.sky.snapNum, max (s.rd64 R.SKY_OP_TIME_LO R.SKY_OP_TIME_HI) (s.dt + s.skyLead)) ∧ t.sky.run.isSome = true ∧
      t = { s with regs := t.regs, sky := t.sky, out := t.out }) ∧
  (∀ (m : SkyMsg) (s : State), s.SkyTakes m 0x20 → s.skyState = 2 → (skyParse m).node ∈ s.skyKids → s.sky.arrived = none →
    let b := (skyParse m).body
    (s.skyRoot = true → s.skyBarrierId = none ∨ s.skyBarrierId = some (fieldLe b 0 2)) →
    ∃ t, exec (.skyArrive m) s = .next t ∧ s.SkyBut t (fun x => { x with
        arrivals := (x.arrivals.filter fun a => a.1 ≠ (skyParse m).node) ++ [((skyParse m).node, fieldLe b 0 2, fieldLe b 2 2)] }) ∧
      t = { s with sky := t.sky }) ∧
  (∀ (m : SkyMsg) (s : State), s.SkyTakes m 0x21 → s.skyState = 2 → s.skyRoot = false → (skyParse m).node = s.skyId / 32 →
    ∃ t, exec (.skyRelease m) s = .next t ∧ t.sky.release = some (fieldLe (skyParse m).body 0 2, fieldLe (skyParse m).body 8 8) ∧
      (s.skyKids = [] → t.out = s.out) ∧ t = { s with sky := t.sky, out := t.out }) ∧
  (∀ (m : SkyMsg) (s : State), s.SkyTakes m 0x22 → s.skyState = 2 → s.skyRoot = false → (skyParse m).node = s.skyId / 32 →
    ∃ t, exec (.skySnap m) s = .next t ∧ t.sky.snap = some (fieldLe (skyParse m).body 0 4, fieldLe (skyParse m).body 8 8) ∧
      t.sky.snapLate = decide (fieldLe (skyParse m).body 8 8 < s.dt) ∧ t = { s with sky := t.sky, out := t.out }) ∧
  (∀ (m : SkyMsg) (s : State), s.SkyTakes m 0x23 → s.skyState = 2 → s.skyRoot = false → (skyParse m).node = s.skyId / 32 →
    ∃ t, exec (.skyReset m) s = .next t ∧ t.sky.reset = some (fieldLe (skyParse m).body 8 8) ∧ t = { s with sky := t.sky, out := t.out }) ∧
  (∀ (id tm : Nat) (s : State), s.sky.release = some (id, tm) → rising s.regs = true →
    ∃ t e, exec .barrierEnd s = .next t ∧ t.sky.arrived = none ∧ t.sky.arrivals = [] ∧ t.sky.arriveSent = false ∧ t.sky.release = none ∧
      t.get Fl.SKY_OP_STAT_op = 2 ∧ t.get Fl.SKY_OP_STAT_result = 0 ∧ t.raised = s.raised ++ [e] ∧ e.typ = 0x00F1 ∧ e.src = srcSKY ∧
      t = { s.reachDt tm with regs := t.regs, sky := t.sky, raised := t.raised }) ∧
  (∀ (k tm : Nat) (s : State), s.sky.snap = some (k, tm) → s.sky.snapLate = false → s.flag Fl.DEV_SNAP_go = false → s.skyRoot = false →
    rising s.regs = true →
    ∃ t, exec .snapCapture s = .next t ∧ t.sky.snap = none ∧ t.rd64 R.DEV_SNAP_TIME_LO R.DEV_SNAP_TIME_HI = tm % 2 ^ 64 ∧
      t.get Fl.SKY_OP_STAT_op = 3 ∧ t.get Fl.SKY_OP_STAT_result = 0 ∧ ∃ e ∈ t.raised, e.typ = 0x00F1 ∧ e.src = srcSKY) ∧
  (∀ (tm : Nat) (s : State), s.sky.reset = some tm → rising s.regs = true →
    ∃ t, exec .skyResetAct s = .next t ∧ t.skyState = 1 ∧ t.sky.reset = none ∧ t.sky.prep = none ∧ (∀ n, n < 64 → t.semOwner n ≠ 4) ∧
      t.get Fl.SKY_OP_STAT_op = 4 ∧ t.get Fl.SKY_OP_STAT_result = 0 ∧ (∃ e ∈ t.raised, e.typ = 0x00F1 ∧ e.src = srcSKY) ∧
      ∃ e ∈ t.raised, e.typ = 0x00F0 ∧ e.src = srcSKY)

/-- R493, R495, R496, R497, R499, R500: audio ports. A start arms the ports it names, or is refused late; a port runs from its frame 0 on;
a sample frame is captured into its ring or played at its place in the schedule, an input frame enters the elastic buffer, and a lock
change is shown and reported. -/
def Obligations.AudioPorts : Prop :=
  (∀ (v n : Nat) (s : State), n < 14 → s.Shaped → v < 2 ^ 32 → s.reaches .aud = true → rising s.regs = true → bit v 31 = true →
    bit v n = true → s.aud.starting = none → s.tbNs 3 ≤ s.rd64 R.AUD_START_TIME_LO R.AUD_START_TIME_HI + 10000 →
    s.dev Fl.AUD_P_CTRL_enable [n] = 1 → s.audPortOn n = true → s.audRunning n = false →
    ∃ t g, exec (.audStart v) s = .next t ∧ (t.audPort n).armed = true ∧ t.schedule n = 0 ∧
      (t.audPort n).start = ((s.rd64 R.AUD_START_TIME_LO R.AUD_START_TIME_HI * 2 ^ 32 : Nat) : Int) ∧ (t.audPort n).fmt = s.audFmt n ∧
      t.aud.starting = some g ∧ n ∈ g.left ∧ g.begun = [] ∧ g.late = false ∧ t.flag Fl.AUD_START_CTRL_go = true ∧
      (∀ m, m < 14 → t.audRunning m = s.audRunning m ∧ (bit v m = false → t.audPort m = s.audPort m)) ∧
      t = { s with regs := t.regs, aud := t.aud }) ∧
  (∀ (v : Nat) (s : State), v < 2 ^ 32 → s.reaches .aud = true → rising s.regs = true → bit v 31 = true → s.aud.starting = none →
    s.rd64 R.AUD_START_TIME_LO R.AUD_START_TIME_HI + 10000 < s.tbNs 3 →
    ∃ t e, exec (.audStart v) s = .next t ∧ t.flag Fl.AUD_STAT_start_late = true ∧ t.flag Fl.AUD_START_CTRL_go = false ∧
      t.raised = s.raised ++ [e] ∧ e.typ = 0x0100 ∧ e.src = srcAUD ∧ e.payload % 2 ^ 16 = 0 ∧ bit e.payload 17 = true ∧
      t = { s with regs := t.regs, raised := t.raised }) ∧
  (∀ (n : Nat) (g : AudGo) (captured : Bytes) (s : State), n < 14 → s.Shaped → s.powered .aud = true → rising s.regs = true →
    audElastic n = false → s.audIn n = false → (s.audPort n).armed = true → s.schedule n = 0 → s.aud.starting = some g → g.left = [n] →
    g.begun = [] → g.busy = false → g.late = false →
    let u := s.reachFrame n
    ∃ t e, exec (.sampleFrame n captured) s = .next t ∧ t.audRunning n = true ∧ (t.audPort n).armed = false ∧
      t.schedule n = 1 ∧ t.aud.starting = none ∧ t.flag Fl.AUD_START_CTRL_go = false ∧ t.raised = s.raised ++ [e] ∧ e.typ = 0x0100 ∧
      e.src = srcAUD ∧ e.payload = 2 ^ n ∧
      t = { u with regs := t.regs, aud := t.aud, recorder := t.recorder, out := t.out, limited := t.limited, raised := t.raised }) ∧
  (∀ (n base size : Nat) (captured : Bytes) (s : State), n < 8 → s.Shaped → s.powered .aud = true → rising s.regs = true →
    s.audRunning n = true → (s.audPort n).armed = false → (s.audPort n).stopping = false → (s.audPort n).elastic.fade.mode = 0 →
    s.audIn n = true → s.audRing n = some (base, size) → size ≠ 0 → s.hbmc.down = [] → rising s.hbm = true →
    let u := s.reachFrame n
    let mask := max (2 ^ (32 - audWidth (s.dev Fl.AUD_P_FMT_width [n]))) 256
    let ws := (List.range (s.audChannels n)).map fun c => fieldLe captured (4 * c) 4 / mask * mask
    let at_ := base + s.schedule n % size * (s.audChannels n) * 4
    ∃ t, exec (.sampleFrame n captured) s = .next t ∧ t.hbmRead at_ (4 * s.audChannels n) = frameBytes ws ∧
      (∀ a, (a < at_ ∨ at_ + 4 * s.audChannels n ≤ a) → t.hbmByte a = s.hbmByte a) ∧
      t.rd R.AUD_P_WR [n] = (s.rd R.AUD_P_WR [n] + 1) % 2 ^ 32 ∧ t.schedule n = (s.schedule n + 1) % 2 ^ 64 ∧
      t = { u with regs := t.regs, hbm := t.hbm, undef := t.undef, aud := t.aud, recorder := t.recorder }) ∧
  (∀ (n : Nat) (captured : Bytes) (s : State), n < 14 → s.Shaped → s.powered .aud = true → rising s.regs = true → s.audRunning n = true →
    (s.audPort n).armed = false → (s.audPort n).stopping = false → audElastic n = false → s.audIn n = false →
    let u := s.reachFrame n
    ∃ t b, exec (.sampleFrame n captured) s = .next t ∧ t.schedule n = (s.schedule n + 1) % 2 ^ 64 ∧ t.out = s.out ++ [.audio n b] ∧
      b.length = 4 * s.audChannels n + (if 10 ≤ n then 1 else 0) ∧
      t = { u with regs := t.regs, aud := t.aud, recorder := t.recorder, out := t.out, limited := t.limited }) ∧
  (∀ (n : Nat) (data : Bytes) (cs : List Nat) (s : State), n < 14 → s.Shaped → s.powered .aud = true → rising s.regs = true →
    audElastic n = true → s.flag Fl.AUD_P_STAT_locked [n] = true → s.audRunning n = true →
    (s.audPort n).elastic.buf.length < 4 * rampLen (s.audCode n) → (∀ i, bit (cs.getD i 0) 1 = false) →
    (∀ m ∈ (s.audPort n).mutes, m = (false, false, cleanTop)) → (∀ w ∈ (s.audPort n).words, w ≠ 0xF872) →
    (∀ c, fieldLe data (4 * c) 4 / 2 ^ 16 ≠ 0xF872) →
    ∃ t, exec (.audioInputFrame n data cs) s = .next t ∧ (t.audPort n).elastic.buf = (s.audPort n).elastic.buf ++
        [(List.range (s.audChannels n)).map fun c => fieldLe data (4 * c) 4 / 256 * 256] ∧
      t.rd R.AUD_P_CS [n] = cs.headD 0 % 2 ^ 32 ∧ t.flag Fl.AUD_P_STAT_nonpcm [n] = false ∧ (∀ m, m ≠ n → t.audPort m = s.audPort m) ∧
      t = { s with regs := t.regs, aud := t.aud }) ∧
  (∀ (n : Nat) (s : State), audElastic n = true → s.powered .aud = true → s.flag Fl.AUD_P_STAT_locked [n] = false →
    s.audLockable n = true → rising s.regs = true →
    ∃ t e, exec (.evAudLock n true) s = .next t ∧ t.flag Fl.AUD_P_STAT_locked [n] = true ∧ t.raised = s.raised ++ [e] ∧ e.typ = 0x0103 ∧
      e.src = srcAUD ∧ e.inst = n ∧ e.payload = 1 + 256 * s.audCode n ∧ t = { s with regs := t.regs, raised := t.raised } ∧
      ∀ (r : Reg) (ix : List Nat), r.key ix ≠ R.AUD_P_STAT.key [n] → t.rd r ix = s.rd r ix) ∧
  (∀ (n : Nat) (s : State), n < 14 → s.Shaped → audElastic n = true → s.powered .aud = true → s.flag Fl.AUD_P_STAT_locked [n] = true →
    s.audRunning n = true → (s.audPort n).elastic.fade.mode = 0 → rising s.regs = true →
    ∃ t l, exec (.evAudLock n false) s = .next t ∧ t.flag Fl.AUD_P_STAT_locked [n] = false ∧ (t.audPort n).elastic.fade.mode = 1 ∧
      (t.audPort n).elastic.fade.cause = 2 ∧ (t.audPort n).elastic.filling = true ∧
      t.get Fl.AUD_P_FADES_count [n] = (s.get Fl.AUD_P_FADES_count [n] + 1) % 2 ^ 32 ∧ t.limited = s.limited ++ [l] ∧ l.typ = 0x0101 ∧
      l.src = srcAUD ∧ l.inst = n)

/-- R507, R508, R509, R510, R511, R512, R513, R514, R515, R516, R517, R519, R521, R522: SMBus, I2C, SPI and the UARTs, with their FIFOs.
-/
def Obligations.LowSpeedBuses : Prop :=
  (∀ (addr cmd k n : Nat) (s : State), s.smbAddressed addr = true → s.smbEntry cmd false = some k → s.flag Fl.LSP_SMB_CMD_pec [k] = false →
    s.get Fl.LSP_SMB_CMD_kind [k] = 0 → n = (s.smbBytes k).length → rising s.regs = true →
    ∃ t, exec (.smbusRead addr (some cmd) n) s = .next t ∧ t.out = s.out ++ [.port 0 0 (s.smbBytes k)] ∧
      t.get Fl.LSP_SMB_CNT_xfers = (s.get Fl.LSP_SMB_CNT_xfers + 1) % 2 ^ 16 ∧ t = { s with regs := t.regs, out := t.out } ∧
      ∀ (r : Reg) (ix : List Nat), r.key ix ≠ R.LSP_SMB_CNT.key [] → t.rd r ix = s.rd r ix) ∧
  (∀ (addr cmd k : Nat) (data : Bytes) (s : State), s.smbAddressed addr = true → s.smbEntry cmd true = some k → cmd < 256 →
    s.flag Fl.LSP_SMB_CMD_pec [k] = false → s.get Fl.LSP_SMB_CMD_kind [k] = 1 → data.length = s.get Fl.LSP_SMB_CMD_length [k] →
    s.get Fl.LSP_SMB_CMD_offset [k] + data.length ≤ 32 → rising s.regs = true →
    let o := s.get Fl.LSP_SMB_CMD_offset [k]
    ∃ t e, exec (.smbusWrite addr cmd data none) s = .next t ∧
      (∀ i, i < data.length → bits (t.rd R.LSP_SMB_IN [(o + i) / 4]) ((o + i) % 4 * 8 + 7) ((o + i) % 4 * 8) = (data.getD i 0).toNat) ∧
      (∀ j, j < 32 → (j < o ∨ o + data.length ≤ j) → bits (t.rd R.LSP_SMB_IN [j / 4]) (j % 4 * 8 + 7) (j % 4 * 8) =
        bits (s.rd R.LSP_SMB_IN [j / 4]) (j % 4 * 8 + 7) (j % 4 * 8)) ∧
      t.flag Fl.LSP_SMB_STAT_rx = true ∧ t.get Fl.LSP_SMB_STAT_last_cmd = cmd ∧ t.raised = s.raised ++ [e] ∧ e.typ = 0x0110 ∧
      e.src = srcLSP ∧ e.payload = cmd + 256 * data.length ∧ t = { s with regs := t.regs, raised := t.raised }) ∧
  (∀ s : State, s.powered .lsp = true → s.flag Fl.LSP_SMB_CTRL_enable = true → s.flag Fl.LSP_SMB_CTRL_tmo_en = true → rising s.regs = true →
    ∃ t e, exec .smbusTimeout s = .next t ∧ t.flag Fl.LSP_SMB_STAT_timeout = true ∧
      t.get Fl.LSP_SMB_CNT_errors = min (s.get Fl.LSP_SMB_CNT_errors + 1) (2 ^ 16 - 1) ∧ t.limited = s.limited ++ [e] ∧ e.typ = 0x0111 ∧
      e.src = srcLSP ∧ t = { s with regs := t.regs, limited := t.limited }) ∧
  (∀ (c v : Nat) (s : State), c ≤ 6 → s.Shaped → v < 2 ^ 32 → s.reaches .lsp = true → rising s.regs = true → bit v 31 = true →
    bit v 0 = false → s.lspPort 0x0C c = true → (s.i2c c).run = none → s.get Fl.LSP_I_LEN_wlen [c] ≤ (s.i2c c).tx.length →
    let n := s.get Fl.LSP_I_LEN_wlen [c]
    ∃ t x, exec (.i2cGo c v) s = .next t ∧ (t.i2c c).run = some x ∧ x.tries = 1 ∧ x.bus = true ∧ x.tx = (s.i2c c).tx.take n ∧
      x.addr = bits v 14 8 ∧ x.rlen = s.get Fl.LSP_I_LEN_rlen [c] ∧ (t.i2c c).tx = (s.i2c c).tx ∧ (t.i2c c).rx = (s.i2c c).rx ∧
      t.flag Fl.LSP_I_STAT_busy [c] = true ∧ t.flag Fl.LSP_I_CTRL_go [c] = true ∧
      t.out = s.out ++ [.port 1 c (BitVec.ofNat 8 (2 * x.addr + b2n (x.tx.isEmpty && decide (x.rlen ≠ 0))) :: x.tx)] ∧
      (∀ d, d ≠ c → t.i2c d = s.i2c d) ∧
      t = { s with regs := t.regs, lsp := t.lsp, out := t.out }) ∧
  (∀ (c : Nat) (x : I2cRun) (data : Bytes) (s : State), c ≤ 6 → s.Shaped → s.powered .lsp = true → rising s.regs = true →
    (s.i2c c).run = some x → x.bus = true → (s.i2c c).flush = false → data.length = x.rlen →
    (s.i2c c).rx.length + data.length ≤ 64 → x.tries < 16 →
    ∃ t, exec (.i2cTryEnd c (.ok data)) s = .next t ∧ (t.i2c c).run = none ∧ (t.i2c c).rx = (s.i2c c).rx ++ data ∧
      (t.i2c c).tx = (s.i2c c).tx.drop x.tx.length ∧ t.get Fl.LSP_I_STAT_result [c] = 0 ∧ t.get Fl.LSP_I_STAT_tries [c] = x.tries ∧
      t.flag Fl.LSP_I_STAT_done [c] = true ∧ t.flag Fl.LSP_I_STAT_busy [c] = false ∧
      t.get Fl.LSP_I_STAT_rx_level [c] = (s.i2c c).rx.length + data.length ∧
      t.raised.length = s.raised.length + b2n (s.flag Fl.LSP_I_CTRL_ev_en [c]) ∧ (∀ d, d ≠ c → t.i2c d = s.i2c d) ∧
      t = { s with regs := t.regs, lsp := t.lsp, raised := t.raised }) ∧
  (∀ (c : Nat) (x : I2cRun) (s : State), c ≤ 6 → s.Shaped → s.powered .lsp = true → rising s.regs = true →
    (s.i2c c).run = some x → x.bus = true → (s.i2c c).flush = false → x.tries < s.get Fl.LSP_I_RETRY_tries [c] →
    ∃ t, exec (.i2cTryEnd c .nack) s = .next t ∧ (t.i2c c).run = some { x with bus := false, since := s.time.clk } ∧
      t.get Fl.LSP_I_CNT_retries [c] = min (s.get Fl.LSP_I_CNT_retries [c] + 1) (2 ^ 16 - 1) ∧ t = { s with regs := t.regs, lsp := t.lsp }) ∧
  (∀ (c : Nat) (x : I2cRun) (s : State), c ≤ 6 → s.Shaped → s.powered .lsp = true → (s.i2c c).run = some x → x.bus = false →
    let d := State.i2cDelay (s.get Fl.LSP_I_RETRY_window_ms [c]) (s.get Fl.LSP_I_RETRY_tries [c]) (x.tries + 1)
    let u := s.reachClk (x.since + d * 1000)
    ∃ t, exec (.i2cRetryDelay c) s = .next t ∧ (t.i2c c).run = some { x with tries := x.tries + 1, bus := true } ∧
      x.since + d * 1000 ≤ t.time.clk ∧ (t.i2c c).tx = (s.i2c c).tx ∧
      t.out = s.out ++ [.port 1 c (BitVec.ofNat 8 (2 * x.addr + b2n (x.tx.isEmpty && decide (x.rlen ≠ 0))) :: x.tx)] ∧
      t = { u with lsp := t.lsp, out := t.out }) ∧
  (∀ (c : Nat) (s : State), c ≤ 6 → s.Shaped → s.reaches .lsp = true → rising s.regs = true → s.lspPort 0x0C c = true →
    (s.i2c c).run = none →
    ∃ t, exec (.i2cFlush c) s = .next t ∧ (t.i2c c).tx = [] ∧ (t.i2c c).rx = [] ∧ t.get Fl.LSP_I_STAT_tx_level [c] = 0 ∧
      t.get Fl.LSP_I_STAT_rx_level [c] = 0 ∧ (∀ d, d ≠ c → t.i2c d = s.i2c d) ∧ t = { s with regs := t.regs, lsp := t.lsp }) ∧
  (∀ (c v : Nat) (s : State), c ≤ 3 → s.Shaped → v < 2 ^ 32 → s.reaches .lsp = true → rising s.regs = true → bit v 31 = true →
    s.spiOwned c = false → s.lspPort 0x0D c = true → (s.spi c).run = none →
    ∃ t g, exec (.spiGo c v) s = .next t ∧ (t.spi c).run = some g ∧ g.cs = bits v 29 28 ∧ g.mode = bits v 25 24 ∧ g.hold = bit v 27 ∧
      g.len = bits v 5 0 + 1 ∧ t.flag Fl.LSP_SPI_CTRL_go [c] = true ∧ t.flag Fl.LSP_SPI_STAT_busy [c] = true ∧
      t.get Fl.LSP_SPI_CTRL_cs [c] = bits v 29 28 ∧ t.get Fl.LSP_SPI_CTRL_len_m1 [c] = bits v 5 0 ∧ (t.spi c).tx = (s.spi c).tx ∧
      t = { s with regs := t.regs, lsp := t.lsp }) ∧
  (∀ (c : Nat) (g : SpiRun) (data : Bytes) (s : State), c ≤ 3 → s.Shaped → s.powered .lsp = true → rising s.regs = true →
    (s.spi c).run = some g → data.length = g.len → g.len ≤ (s.spi c).tx.length → (s.spi c).rx.length + g.len ≤ 64 →
    ∃ t, exec (.spiTransferEnd c data) s = .next t ∧ (t.spi c).tx = (s.spi c).tx.drop g.len ∧ (t.spi c).rx = (s.spi c).rx ++ data ∧
      (t.spi c).run = none ∧ (g.hold = false → (t.spi c).held = none) ∧
      t.flag Fl.LSP_SPI_STAT_done [c] = true ∧ t.flag Fl.LSP_SPI_STAT_busy [c] = false ∧ t.flag Fl.LSP_SPI_CTRL_go [c] = false ∧
      t.out = s.out ++ [.port 2 c (BitVec.ofNat 8 g.cs :: (s.spi c).tx.take g.len)] ∧
      t = { s with regs := t.regs, lsp := t.lsp, out := t.out }) ∧
  (∀ (i v : Nat) (s : State), i ≤ 6 → s.Shaped → s.reaches .lsp = true → rising s.regs = true → (s.i2c i).tx.length < 64 →
    ∃ t, exec (.fifoPush .i2c i v) s = .next t ∧ (t.i2c i).tx = (s.i2c i).tx ++ [BitVec.ofNat 8 v] ∧
      t.get Fl.LSP_I_STAT_tx_level [i] = (s.i2c i).tx.length + 1 ∧ (∀ d, d ≠ i → t.i2c d = s.i2c d) ∧
      t = { s with regs := t.regs, lsp := t.lsp }) ∧
  (∀ (i v : Nat) (s : State), i ≤ 1 → s.Shaped → s.reaches .lsp = true → rising s.regs = true → 16 ≤ (s.uart i).tx.length →
    ∃ t, exec (.fifoPush .uart i v) s = .next t ∧ t.flag Fl.LSP_U_STAT_tx_ovf [i] = true ∧ t = { s with regs := t.regs } ∧
      ∀ (r : Reg) (ix : List Nat), r.key ix ≠ R.LSP_U_STAT.key [i] → t.rd r ix = s.rd r ix) ∧
  (∀ (i : Nat) (b : Byte) (rest : Bytes) (s : State), i ≤ 6 → s.Shaped → s.reaches .lsp = true → (s.i2c i).rx = b :: rest →
    ∃ t, exec (.fifoPop .i2c i) s = .next t ∧ (t.i2c i).rx = rest ∧ (t.i2c i).tx = (s.i2c i).tx ∧
      t.out = s.out ++ [.read 1 (R.LSP_I_DATA.key [i]) (256 + b.toNat)] ∧ t = { s with regs := t.regs, lsp := t.lsp, out := t.out }) ∧
  (∀ (i : Nat) (s : State), i ≤ 6 → s.Shaped → s.reaches .lsp = true → (s.i2c i).rx = [] →
    ∃ t, exec (.fifoPop .i2c i) s = .next t ∧ (t.i2c i).rx = [] ∧ t.out = s.out ++ [.read 1 (R.LSP_I_DATA.key [i]) 0] ∧
      t = { s with regs := t.regs, lsp := t.lsp, out := t.out }) ∧
  (∀ (u b : Nat) (s : State), u ≤ 1 → s.Shaped → b < 256 → s.lspPort 0x0E u = true → s.flag Fl.LSP_U_CTRL_rx_en [u] = true →
    rising s.regs = true → (s.uart u).rx.length < 16 →
    ∃ t, exec (.uartRxByte u b false false false) s = .next t ∧ (t.uart u).rx = (s.uart u).rx ++ [b] ∧
      t.get Fl.LSP_U_STAT_rx_level [u] = (s.uart u).rx.length + 1 ∧ (t.uart u).tx = (s.uart u).tx ∧
      ((s.uart u).rx ≠ [] → t.limited = s.limited) ∧ t = { s with regs := t.regs, lsp := t.lsp, limited := t.limited }) ∧
  (∀ (u b : Nat) (frameErr brk : Bool) (s : State), u ≤ 1 → s.Shaped → s.lspPort 0x0E u = true → s.flag Fl.LSP_U_CTRL_rx_en [u] = true →
    rising s.regs = true → 16 ≤ (s.uart u).rx.length →
    ∃ t, exec (.uartRxByte u b frameErr false brk) s = .next t ∧ t.flag Fl.LSP_U_STAT_rx_ovf [u] = true ∧
      t.get Fl.LSP_U_ERR_overruns [u] = min (s.get Fl.LSP_U_ERR_overruns [u] + 1) (2 ^ 16 - 1) ∧ t = { s with regs := t.regs }) ∧
  (∀ (u : Nat) (b : Byte) (rest : Bytes) (s : State), u ≤ 1 → s.Shaped → s.lspPort 0x0E u = true → s.flag Fl.LSP_U_CTRL_tx_en [u] = true →
    (s.uart u).tx = b :: rest →
    ∃ t, exec (.uartTxByte u) s = .next t ∧ (t.uart u).tx = rest ∧ t.out = s.out ++ [.port 3 u [b]] ∧
      t = { s with regs := t.regs, lsp := t.lsp, out := t.out })

/-- R523, R524, R525, R526, R527, R528, R595: USB, the SD card and the GPIO lines. -/
def Obligations.UsbCardAndLines : Prop :=
  (∀ (ctl : Option Nat) (hs : Bool) (s : State), s.usbOn = true → rising s.regs = true →
    ∃ t e, exec (.usbBusReset ctl hs) s = .next t ∧ t.get Fl.LSP_USB_STAT_state = 1 ∧ t.get Fl.LSP_USB_STAT_address = 0 ∧
      t.flag Fl.LSP_USB_STAT_suspended = false ∧ t.flag Fl.LSP_USB_STAT_hs = hs ∧ t.flag Fl.LSP_USB_STAT_reset_seen = true ∧
      t.lsp.config = 0 ∧ t.raised = s.raised ++ [e] ∧ e.typ = 0x0114 ∧ e.src = srcLSP ∧
      t = { s with regs := t.regs, lsp := t.lsp, raised := t.raised } ∧
      ∀ (r : Reg) (ix : List Nat), r.key ix ≠ R.LSP_USB_STAT.key [] → t.rd r ix = s.rd r ix) ∧
  (∀ (data : Bytes) (base n : Nat) (s : State), s.usbLive = true → data.length ≤ s.usbMax → rising s.regs = true → s.hbmc.down = [] →
    rising s.hbm = true → s.usbRing R.LSP_USB_RXRING_LO R.LSP_USB_RXRING_HI (s.get Fl.LSP_USB_RINGSZ_rx_pages) = some (base, n) →
    let wr := s.rd R.LSP_USB_RXWR
    let held := (wr + 2 ^ 32 - s.rd R.LSP_USB_RXRD) % 2 ^ 32
    held < n → held + data.length ≤ n →
    ∃ t, exec (.usbOutPacket data) s = .next t ∧ t.rd R.LSP_USB_RXWR = (wr + data.length) % 2 ^ 32 ∧
      (∀ i, i < data.length → t.hbmByte (base + (wr + i) % n) = data.getD i 0) ∧
      (∀ a, (∀ i, i < data.length → a ≠ base + (wr + i) % n) → t.hbmByte a = s.hbmByte a) ∧ t.out = s.out ++ [.port 4 1 [0xD2]] ∧
      t = { s with regs := t.regs, hbm := t.hbm, undef := t.undef, out := t.out }) ∧
  (∀ (base n : Nat) (s : State), s.usbLive = true → rising s.regs = true →
    s.usbRing R.LSP_USB_TXRING_LO R.LSP_USB_TXRING_HI (s.get Fl.LSP_USB_RINGSZ_tx_pages) = some (base, n) →
    let rd := s.rd R.LSP_USB_TXRD
    let have_ := (s.rd R.LSP_USB_TXWR + 2 ^ 32 - rd) % 2 ^ 32
    let k := min have_ s.usbMax
    have_ ≠ 0 →
    ∃ t, exec .usbInPacket s = .next t ∧ t.rd R.LSP_USB_TXRD = (rd + k) % 2 ^ 32 ∧
      t.out = s.out ++ [.port 4 0x81 ((List.range k).flatMap fun i => s.hbmRead (base + (rd + i) % n) 1)] ∧
      t.lsp.inFull = (decide (k = s.usbMax) && decide (k = have_)) ∧ t = { s with regs := t.regs, lsp := t.lsp, out := t.out }) ∧
  (∀ (i : Instr) (on : Bool) (s : State), (i, on) ∈ [(Instr.usbSuspend, true), (Instr.usbResume, false)] → s.usbOn = true →
    s.get Fl.LSP_USB_STAT_state ≠ 0 → s.flag Fl.LSP_USB_STAT_suspended = !on → rising s.regs = true →
    ∃ t e, exec i s = .next t ∧ t.flag Fl.LSP_USB_STAT_suspended = on ∧ t.raised = s.raised ++ [e] ∧ e.typ = 0x0115 ∧ e.src = srcLSP ∧
      e.payload = s.get Fl.LSP_USB_STAT_state + 4 * b2n on ∧ t = { s with regs := t.regs, raised := t.raised } ∧
      ∀ (r : Reg) (ix : List Nat), r.key ix ≠ R.LSP_USB_STAT.key [] → t.rd r ix = s.rd r ix) ∧
  (∀ (rq : UsbReq) (s : State), s.usbOn = true → s.get Fl.LSP_USB_STAT_state ≠ 0 → s.flag Fl.LSP_USB_STAT_suspended = false →
    rq.bmRequestType = 0 → rq.bRequest = 5 → rq.wValue < 128 → rising s.regs = true →
    ∃ t, exec (.usbControlRequest rq) s = .next t ∧ t.get Fl.LSP_USB_STAT_address = rq.wValue ∧
      t.get Fl.LSP_USB_STAT_state = (if rq.wValue = 0 then 1 else 2) ∧ t.out = s.out ++ [.port 4 0 [0xD2]] ∧
      t = { s with regs := t.regs, out := t.out }) ∧
  (∀ (rq : UsbReq) (s : State), s.usbOn = true → 2 ≤ s.get Fl.LSP_USB_STAT_state → s.flag Fl.LSP_USB_STAT_suspended = false →
    rq.bmRequestType = 0 → rq.bRequest = 9 → rq.wValue = 1 → rising s.regs = true →
    ∃ t e, exec (.usbControlRequest rq) s = .next t ∧ t.get Fl.LSP_USB_STAT_state = 3 ∧ t.lsp.config = 1 ∧
      t.out = s.out ++ [.port 4 0 [0xD2]] ∧ t.raised = s.raised ++ [e] ∧ e.typ = 0x0115 ∧ e.payload = 3 ∧
      t = { s with regs := t.regs, lsp := t.lsp, out := t.out, raised := t.raised }) ∧
  (∀ s : State, s.powered .lsp = true → rising s.regs = true →
    ∃ t, exec (.usbVbusChange false) s = .next t ∧ t.lsp.vbus = false ∧ t.usbOn = false ∧ t.get Fl.LSP_USB_STAT_state = 0 ∧
      t.get Fl.LSP_USB_STAT_address = 0 ∧ t = { s with regs := t.regs, lsp := t.lsp }) ∧
  (∀ s : State, ∃ t, exec (.usbVbusChange true) s = .next t ∧ t.lsp = { s.lsp with vbus := true } ∧ t = { s with lsp := t.lsp }) ∧
  (∀ (blk : Nat) (data : Bytes) (s : State), s.usbOn = true → s.get Fl.LSP_USB_STAT_state = 3 → s.dfuMode = true → data ≠ [] →
    data.length ≤ 4096 → s.lsp.dfuState = 2 ∨ s.lsp.dfuState = 5 → blk * 4096 + data.length ≤ 0x1000000 → s.hbmc.down = [] →
    rising s.hbm = true →
    ∃ t, exec (.dfuDnload blk data) s = .next t ∧ t.hbmRead (State.reservedLo + blk * 4096) data.length = data ∧
      (∀ a, (a < State.reservedLo + blk * 4096 ∨ State.reservedLo + blk * 4096 + data.length ≤ a) → t.hbmByte a = s.hbmByte a) ∧
      t.lsp = { s.lsp with dfuState := 5, dfuLen := blk * 4096 + data.length } ∧ t.out = s.out ++ [.port 4 0 [0xD2]] ∧
      t = { s with hbm := t.hbm, undef := t.undef, lsp := t.lsp, out := t.out }) ∧
  (∀ s : State, s.usbOn = true → s.dfuMode = true → s.lsp.dfuState = 6 → rising s.regs = true →
    let ok : Bool := (s.put Fl.DRV_LEN_length [] s.lsp.dfuLen).chkLoad.1 = 0
    ∃ t, exec .dfuManifest s = .next t ∧ t.lsp.dfuState = (if ok then 7 else 10) ∧ t.get Fl.DRV_LEN_length = s.lsp.dfuLen % 2 ^ 25 ∧
      (ok = true → t.cpr.loadGo = true ∧ t.flag Fl.DEV_STATUS_ready = false ∧ t.lsp.dfuStatus = s.lsp.dfuStatus) ∧
      (ok = false → t.cpr.loadGo = s.cpr.loadGo ∧ t.drv = s.drv ∧ t.lsp.dfuStatus = 7) ∧
      t = { s with regs := t.regs, drv := t.drv, cpr := t.cpr, lsp := t.lsp }) ∧
  (∀ s : State, s.usbOn = true → s.get Fl.LSP_USB_STAT_state = 3 → s.dfuMode = false →
    ∃ t e, exec .dfuDetach s = .next t ∧ t.out = s.out ++ [.port 4 0 [0xD2]] ∧ t.raised = s.raised ++ [e] ∧ e.typ = 0x0115 ∧
      e.src = srcLSP ∧ t = { s with out := t.out, raised := t.raised }) ∧
  (∀ (id : Nat) (p : Packet) (s : State), s.started id 0x300 = some p → p.len = 16 → s.powered .lsp = true →
    exec (.sdInfo id) s = .next (s.setResult id stOk (s.get Fl.LSP_SD_STAT_mode))) ∧
  (∀ (id n first a : Nat) (p : Packet) (data : Bytes) (s : State), s.started id 0x301 = some p → s.sdArgs p = some (n, first, a) →
    s.sdDead = none → data.length = 512 * n → s.hbmc.down = [] → rising s.hbm = true → rising s.regs = true →
    ∃ t, exec (.sdRead id data 0) s = .next t ∧ t.hbmRead a (512 * n) = data ∧
      (∀ x, (x < a ∨ a + 512 * n ≤ x) → t.hbmByte x = s.hbmByte x) ∧ t.packets = (s.setResult id stOk n).packets ∧
      t.flag Fl.LSP_SD_STAT_busy = false ∧ (∀ (r : Reg) (ix : List Nat), r.key ix ≠ R.LSP_SD_STAT.key [] → t.rd r ix = s.rd r ix) ∧
      t = { s with regs := t.regs, hbm := t.hbm, undef := t.undef, packets := t.packets }) ∧
  (∀ (id n first a : Nat) (p : Packet) (s : State), s.started id 0x302 = some p → s.sdArgs p = some (n, first, a) → s.sdDead = none →
    rising s.regs = true →
    ∃ t, exec (.sdWrite id n 0) s = .next t ∧ t.out = s.out ++ [.port 5 0 (leBytes 8 first ++ s.hbmRead a (512 * n))] ∧
      t.packets = (s.setResult id stOk n).packets ∧ t.flag Fl.LSP_SD_STAT_busy = false ∧
      (∀ (r : Reg) (ix : List Nat), r.key ix ≠ R.LSP_SD_STAT.key [] → t.rd r ix = s.rd r ix) ∧
      t = { s with regs := t.regs, out := t.out, packets := t.packets }) ∧
  (∀ (present : Bool) (mode : Nat) (s : State), s.lspPort 0x10 0 = true → s.flag Fl.LSP_SD_STAT_present = !present → mode ≤ 6 →
    rising s.regs = true →
    ∃ t e, exec (.evSdCard present mode) s = .next t ∧ t.flag Fl.LSP_SD_STAT_present = present ∧
      t.get Fl.LSP_SD_STAT_mode = (if present then mode else 0) ∧ t.raised = s.raised ++ [e] ∧ e.typ = 0x0116 ∧ e.src = srcLSP ∧
      e.payload = b2n present ∧ t = { s with regs := t.regs, raised := t.raised } ∧
      ∀ (r : Reg) (ix : List Nat), r.key ix ≠ R.LSP_SD_STAT.key [] → t.rd r ix = s.rd r ix) ∧
  (∀ (i : Instr) (b v : Nat) (f : Bool → Bool → Bool) (s : State), b < 6 → s.Shaped → s.reaches .lsp = true → s.lspPort 0x11 b = true →
    rising s.regs = true → (i = .gpioSet b v ∧ f = (fun o x => o || x)) ∨ (i = .gpioClr b v ∧ f = fun o x => o && !x) →
    ∃ t l, exec i s = .next t ∧
      (∀ k, k < 8 → bit (t.get Fl.LSP_GPIO_OUT_lines [b]) k = f (bit (s.get Fl.LSP_GPIO_OUT_lines [b]) k) (bit v k)) ∧
      t.out = s.out ++ l ∧ (∀ o ∈ l, ∃ n x, o = .line n x s.dt ∧ n / 8 = b) ∧
      (∀ n, n / 8 = b → s.get Fl.TIME_L_CTRL_src [n] = 0 → s.lineOut n = true →
        bit (t.get Fl.LSP_GPIO_OUT_lines [b]) (n % 8) ≠ bit (s.get Fl.LSP_GPIO_OUT_lines [b]) (n % 8) →
        .line n (bit (t.get Fl.LSP_GPIO_OUT_lines [b]) (n % 8)) s.dt ∈ l) ∧ t = { s with regs := t.regs, out := t.out })

/-- R328, R413, R569, R570, R571, R573, R574, R576, R579, R581, R582, R583, R584, R585, R593, R107: power. A power-on samples the straps
and starts a dawn, dawn takes its steps, resets keep what they keep, the supply's crossings land, hold and release the device, domains
switch, standby is entered and left, a trip stops everything, links come and go. -/
def Obligations.PowerAndDawn : Prop :=
  (∀ (straps serial : Nat) (s : State), serial < 2 ^ 64 →
    ∃ t, exec (.powerOnReset straps true serial) s = .next t ∧ t.rd R.DEV_STRAP = straps &&& 0xF737 ∧ t.serial = serial ∧
      t.get Fl.CPR_RESET_CAUSE_cause = 0 ∧ t.get Fl.CPR_PD_STAT_on = 1 ∧ t.get Fl.CPR_DAWN_step = 1 ∧ t.cpr.hold = false ∧
      t.cpr.trip = false ∧ t.mram = s.mram ∧ t.media = s.media ∧ t.nv = s.nv ∧ t.host = s.host ∧ t.ohost = s.ohost ∧
      t.frames = [] ∧ t.packets = [] ∧ t.pending = s.pending) ∧
  (∀ (r : DawnInput) (s : State), s.cpr.step = 1 → s.cpr.hold = false → s.cpr.trip = false → s.cpr.halted = false →
    s.flag Fl.DEV_STATUS_ready = false → s.dusk = false → s.flag Fl.DEV_STRAP_safe = false → s.bootsel = 0 → s.nv.fails < 3 →
    rising s.regs = true →
    ∃ t, exec (.dawnStep r) s = .next t ∧ t.cpr.source = 0 ∧ t.nv.fails = s.nv.fails + 1 ∧ t.cpr.step = 2 ∧ t.get Fl.CPR_DAWN_step = 2 ∧
      t.get Fl.CPR_RESET_CAUSE_dawns = (s.get Fl.CPR_RESET_CAUSE_dawns + 1) % 2 ^ 16 ∧ t = { s with regs := t.regs, cpr := t.cpr, nv := t.nv }) ∧
  (∀ (r : DawnInput) (s : State), s.cpr.step = 9 → s.cpr.hold = false → s.cpr.trip = false → s.cpr.halted = false →
    s.flag Fl.DEV_STATUS_ready = false → s.dusk = false → s.domainOn 3 = false → rising s.regs = true →
    ∃ t, exec (.dawnStep r) s = .next t ∧ t.graph = { s.graph with ports := s.bootImage.graph.ports } ∧ t.cpr.step = 10 ∧
      t.get Fl.CPR_DAWN_step = 10 ∧ t = { s with regs := t.regs, cpr := t.cpr, graph := t.graph }) ∧
  (∀ (r : DawnInput) (s : State), s.dusk = true → s.cpr.step = 1 ∨ s.cpr.step = 8 → s.cpr.hold = false → s.cpr.trip = false →
    s.cpr.halted = false → s.flag Fl.DEV_STATUS_ready = false → rising s.regs = true →
    ∃ t, exec (.dawnStep r) s = .next t ∧ t.cpr.halted = true ∧ t.cpr.step = s.cpr.step ∧ t.get Fl.CPR_DAWN_step = 15 ∧
      t = { s with regs := t.regs, cpr := t.cpr }) ∧
  (∀ (tm : Nat) (s : State), s.cpr.armed = some tm → s.flag Fl.DEV_STATUS_ready = false → s.cpr.hold = false → s.cpr.trip = false →
    rising s.regs = true →
    ∃ t, exec .watchdogReset s = .next t ∧ t.get Fl.CPR_RESET_CAUSE_cause = 1 ∧ t.get Fl.CPR_DAWN_step = 1 ∧
      t.get Fl.CPR_PD_STAT_on = 1 ∧ t.rd R.DEV_STRAP = s.rd R.DEV_STRAP ∧ t.media = s.media ∧
      tm + 3000000000 ≤ t.time.clk) ∧
  (∀ (v : Nat) (s : State), v < 2 ^ 32 → s.reaches .cpr = true → bit v 31 = true → bits v 15 0 = 0xD0E5 → s.cpr.hold = false →
    s.cpr.trip = false → s.cpr.resetDue = false → s.dusk = false → rising s.regs = true →
    ∃ t, exec (.deviceReset v) s = .next t ∧ t.get Fl.CPR_RESET_CAUSE_cause = 2 ∧ t.get Fl.CPR_DAWN_step = 1 ∧
      t.get Fl.CPR_PD_STAT_on = 1 ∧ t.rd R.DEV_STRAP = s.rd R.DEV_STRAP ∧ t.serial = s.serial ∧ t.mram = s.mram ∧
      t.nv = (s.advance 5000).nv ∧ t.time.clk = s.time.clk + 10000 ∧ t.media = s.media ∧ t.cpr.hold = false) ∧
  (∀ (v : Nat) (s : State), s.reaches .cpr = true → bits v 15 0 ≠ 0xD0E5 → exec (.deviceReset v) s = .next s) ∧
  (∀ (mv : Nat) (s : State), mv < s.get Fl.CPR_DUSK_CFG_vwarn_mv → mv < 2 ^ 12 → s.dusk = false → s.cpr.hold = false → s.cpr.trip = false →
    s.powered .recorder = false → s.powered .trl = false → rising s.regs = true →
    ∃ t, exec (.vwarnCrossing mv) s = .next t ∧ t.flag Fl.CPR_DUSK_STAT_below = true ∧ t.dusk = true ∧ t.get Fl.CPR_VSENSE_mv = mv ∧
      t.get Fl.CPR_DUSK_STAT_warn_count = min (s.get Fl.CPR_DUSK_STAT_warn_count + 1) (2 ^ 16 - 1) ∧
      (∃ e ∈ t.raised, e.typ = 0x4150 ∧ e.src = srcCPR ∧ e.payload = mv) ∧ (s.powered .ofl = true → t.ofl.dusk = true ∧ t.ofl.dirty = [])) ∧
  (∀ (mv : Nat) (s : State), mv < s.get Fl.CPR_DUSK_CFG_vcrit_mv → mv < 2 ^ 12 → s.cpr.hold = false → s.cpr.trip = false →
    rising s.regs = true →
    ∃ t, exec (.vcritCrossing mv) s = .next t ∧ t.cpr.hold = true ∧ t.flag Fl.CPR_DUSK_STAT_vcrit_seen = true ∧
      t.flag Fl.CPR_DUSK_STAT_below = true ∧ t.get Fl.CPR_RESET_CAUSE_cause = 3 ∧ t.get Fl.CPR_PD_STAT_on = 1 ∧ t.mram = s.mram ∧
      t.media = s.media) ∧
  (∀ (mv : Nat) (s : State), s.cpr.hold = true → s.cpr.trip = false → s.vback < mv → rising s.regs = true →
    ∃ t, exec (.duskHoldEnd mv) s = .next t ∧ t.cpr.hold = false ∧ t.flag Fl.CPR_DUSK_STAT_below = false ∧ t.dusk = false ∧
      t.get Fl.CPR_DAWN_step = 1 ∧ t.get Fl.CPR_RESET_CAUSE_cause = s.get Fl.CPR_RESET_CAUSE_cause ∧ t.mram = s.mram ∧ t.media = s.media) ∧
  (∀ (mv : Nat) (s : State), s.dusk = true → s.cpr.hold = false → s.cpr.trip = false → s.cpr.halted = false → s.vback < mv →
    rising s.regs = true →
    ∃ t e, exec (.evCprDuskEnd mv) s = .next t ∧ t.flag Fl.CPR_DUSK_STAT_below = false ∧ t.dusk = false ∧ t.raised = s.raised ++ [e] ∧
      e.typ = 0x0151 ∧ e.src = srcCPR ∧ t = { s with regs := t.regs, raised := t.raised }) ∧
  (∀ (v d : Nat) (s : State), v < 2 ^ 32 → s.reaches .cpr = true → bit v 31 = true → bits v 4 0 = d → d ≤ 23 → alwaysOn d = false →
    s.flag Fl.CPR_PD_CTRL_go = false → s.holdsTile d = false → s.holdsPort d = false → rising s.regs = true →
    ∃ t, exec (.domainSwitch v) s = .next t ∧ t.flag Fl.CPR_PD_CTRL_go = true ∧ t.cpr.switch = some (d, bit v 8) ∧
      t.domainOn d = s.domainOn d ∧ t = { s with regs := t.regs, cpr := t.cpr }) ∧
  (∀ (v d : Nat) (s : State), v < 2 ^ 32 → s.reaches .cpr = true → bit v 31 = true → bits v 4 0 = d → d ≤ 23 → alwaysOn d = true →
    rising s.regs = true →
    ∃ t, exec (.domainSwitch v) s = .next t ∧ t.flag Fl.CPR_PD_CTRL_refused = true ∧ t.cpr = s.cpr ∧ t = { s with regs := t.regs }) ∧
  (∀ (d : Nat) (on : Bool) (s : State), s.cpr.switch = some (d, on) → d ≤ 23 → alwaysOn d = false → rising s.regs = true →
    ∃ t, exec .evCprPd s = .next t ∧ t.domainOn d = on ∧ (∀ k, k ≤ 23 → k ≠ d → t.domainOn k = s.domainOn k) ∧
      t.flag Fl.CPR_PD_CTRL_go = false ∧ t.cpr.switch = none ∧ ∃ e ∈ t.raised, e.typ = 0x0150 ∧ e.src = srcCPR ∧ e.payload = d + 256 * b2n on) ∧
  (∀ (v : Nat) (s : State), v < 2 ^ 32 → s.reaches .cpr = true → bit v 31 = true → bit v 30 = false →
    s.flag Fl.CPR_STANDBY_enter = false → s.flag Fl.DEV_STATUS_ready = true → (∀ p, p < 8 → s.recording p = false) →
    s.flag Fl.DEV_COMMIT_STAT_pending = false → s.flag Fl.DRV_STAT_busy = false → s.dusk = false → s.recorder.vol = none →
    rising s.regs = true →
    ∃ t, exec (.standbyEnter v) s = .next t ∧ t.get Fl.CPR_STANDBY_state = 1 ∧ t.flag Fl.CPR_STANDBY_enter = true ∧
      t = { s with regs := t.regs } ∧ ∀ (r : Reg) (ix : List Nat), r.key ix ≠ R.CPR_STANDBY.key [] → t.rd r ix = s.rd r ix) ∧
  (∀ (v : Nat) (s : State), v < 2 ^ 32 → s.reaches .cpr = true → bit v 31 = true → bit v 30 = false →
    s.flag Fl.CPR_STANDBY_enter = false → s.flag Fl.DEV_STATUS_ready = false ∨ s.dusk = true → rising s.regs = true →
    ∃ t, exec (.standbyEnter v) s = .next t ∧ t.flag Fl.CPR_STANDBY_refused = true ∧
      t.get Fl.CPR_STANDBY_state = s.get Fl.CPR_STANDBY_state ∧ t = { s with regs := t.regs }) ∧
  (∀ s : State, s.get Fl.CPR_STANDBY_state = 1 → s.frames = [] → s.recorder.vol = none → rising s.regs = true →
    ∃ t, exec .standbyEntered s = .next t ∧ t.get Fl.CPR_STANDBY_state = 2 ∧ t.flag Fl.CPR_STANDBY_enter = false ∧
      t.hbmc.ticking = false ∧ (∀ d, d ≤ 23 → standbyOn d = false → t.domainOn d = false) ∧
      (∀ d, d ≤ 23 → standbyOn d = true → t.domainOn d = s.domainOn d) ∧ t.hbm = s.hbm ∧ t.mram = s.mram ∧
      ∃ e ∈ t.raised, e.typ = 0x0152 ∧ e.src = srcCPR ∧ e.payload = 2) ∧
  (∀ (v : Nat) (s : State), v < 2 ^ 32 → s.reaches .cpr = true → bit v 31 = false → bit v 30 = true → s.flag Fl.CPR_STANDBY_exit = false →
    s.get Fl.CPR_STANDBY_state = 2 → s.dusk = false → rising s.regs = true →
    ∃ t, exec (.standbyExit v) s = .next t ∧ t.get Fl.CPR_STANDBY_state = 3 ∧ t.flag Fl.CPR_STANDBY_exit = true ∧
      t = { s with regs := t.regs } ∧ ∀ (r : Reg) (ix : List Nat), r.key ix ≠ R.CPR_STANDBY.key [] → t.rd r ix = s.rd r ix) ∧
  (∀ s : State, s.get Fl.CPR_STANDBY_state = 3 → s.cpr.rom = true → rising s.regs = true →
    ∃ t, exec .standbyExited s = .next t ∧ t.get Fl.CPR_STANDBY_state = 0 ∧ t.flag Fl.CPR_STANDBY_exit = false ∧
      t.flag Fl.DEV_STATUS_ready = true ∧ t.hbmc.ticking = true ∧ (∀ d, d ≤ 23 → alwaysOn d = true → t.domainOn d = true) ∧
      ∃ e ∈ t.raised, e.typ = 0x0152 ∧ e.src = srcCPR ∧ e.payload = 0) ∧
  (∀ (temp : Int) (s : State), 115 ≤ temp → s.cpr.trip = false → rising s.regs = true →
    ∃ t, exec (.thermalTrip temp) s = .next t ∧ t.cpr.trip = true ∧ t.get Fl.CPR_PD_STAT_on = 1 ∧ t.mram = s.mram ∧ t.media = s.media ∧
      t.frames = []) ∧
  (∀ (r gen width : Nat) (s : State), r < 32 → gen < 8 → width < 32 → s.powered .mpc = true → s.graph.portOn 3 r = true →
    s.flag Fl.DEV_STRAP_mediahold = false →
    (∀ b ∈ s.graph.branches, b.pipe < 8 ∧ b.branch < 8) → rising s.regs = true →
    ∃ t, exec (.pcieLinkStateChange false r true gen width) s = .next t ∧ t.flag Fl.MPC_RP_STAT_up [r] = true ∧
      t.get Fl.MPC_RP_STAT_speed [r] = s.linkGen (2 + r) gen ∧ t.get Fl.MPC_RP_STAT_width [r] = width ∧ t = { s with regs := t.regs }) ∧
  (∀ (gen width : Nat) (s : State), gen < 8 → width < 32 → s.powered .ofl = true → s.graph.portOn 4 0 = true → rising s.regs = true →
    ∃ t, exec (.pcieLinkStateChange true 0 true gen width) s = .next t ∧ t.flag Fl.OFL_STAT_link = true ∧
      t.get Fl.OFL_STAT_speed = s.linkGen 1 gen ∧ t.get Fl.OFL_STAT_width = width ∧ t = { s with regs := t.regs } ∧
      ∀ (q : Reg) (ix : List Nat), q.key ix ≠ R.OFL_STAT.key [] → t.rd q ix = s.rd q ix)

/-- R7: the reset words of the register tables. After a power-on reset with every strap open each of these registers reads the value its
heading gives, and no unit holds anything: no packets, no frames, no lasting errors, and dawn stands before its first step. -/
def Obligations.ResetState : Prop :=
  (∀ x ∈ ([(R.DEV_ID, [], 0x09040100), (R.ORD_UPDRAFT_NORM, [], 0x32), (R.ORD_UPDRAFT_BULK, [], 0xC8), (R.EVQ_CTRL, [15], 0x60000),
      (R.EVQ_IMOD, [0], 1), (R.EVQ_ROUTE, [63], 0x20000), (R.CMDQ_CTRL, [3], 0xC0010), (R.DRV_XW_FREE, [], 0x40),
      (R.DRV_SRC_LO, [], 0xC0000000), (R.DRV_SRC_HI, [], 0x23), (R.HLT_SPARE, [], 0x1FFFFFF), (R.BARO_CTRL, [], 0x100),
      (R.TRL_CTRL, [], 6), (R.CPR_DAWN, [], 0x10000000), (R.CPR_PD_STAT, [], 1), (R.CPR_DUSK_CFG, [], 0x14352384),
      (R.REC_CFG, [], 0xFA0043), (R.REC_COMMIT_MS, [], 100), (R.OFL_CTRL, [], 0x7D000A0), (R.HBMC_CFG, [], 0x5F180100),
      (R.TIME_DT_CTRL, [], 0x1002), (R.TIME_DT_SLEW, [], 1000), (R.TIME_DOMMAP, [], 0x7E7F), (R.SKY_CTRL, [], 0x60000000),
      (R.SKY_CFG, [], 0xC0120064), (R.SKY_TIMING, [], 0x7D0012C), (R.AUD_P_FMT, [13], 0x20F20), (R.AUD_P_SIZE, [0], 48000),
      (R.LSP_SMB_CTRL, [], 0xA03), (R.LSP_SMB_ADDR, [0], 0x80007F60), (R.LSP_SMB_ADDR, [3], 0), (R.LSP_I_RETRY, [7], 0x280008),
      (R.LSP_U_CTRL, [1], 0x6C8000)] : List (Reg × List Nat × Nat)), State.reset.rd x.1 x.2.1 = x.2.2) ∧
  State.reset.domainOn 0 = true ∧ (∀ d, 1 ≤ d → d ≤ 23 → State.reset.domainOn d = false) ∧ State.reset.cpr.step = 1 ∧
  State.reset.flag Fl.DEV_STATUS_ready = false ∧ State.reset.packets = [] ∧ State.reset.frames = [] ∧ State.reset.front = none ∧
  State.reset.recorder.vol = none ∧ State.reset.skyState = 0 ∧ State.reset.Shaped

/-- R35: a CNT field wraps to 0 after its largest value, unless its Meaning says that it saturates (cntSat). Nothing else in the register
file changes. -/
def Obligations.CountersWrapOrSaturate : Prop :=
  ∀ (d : Fld) (ix : List Nat) (s : State), d.lo ≤ d.hi → d.hi ≤ 31 → rising s.regs = true →
    (d.kind = .cnt → (s.inc d ix).get d ix = if s.get d ix = 2 ^ (d.hi + 1 - d.lo) - 1 then 0 else s.get d ix + 1) ∧
    (d.kind = .cntSat → (s.inc d ix).get d ix = if s.get d ix = 2 ^ (d.hi + 1 - d.lo) - 1 then s.get d ix else s.get d ix + 1) ∧
    (∀ e : Fld, e.reg = d.reg → e.lo ≤ e.hi → (e.hi < d.lo ∨ d.hi < e.lo) → (s.inc d ix).get e ix = s.get e ix) ∧
    (∀ (r : Reg) (jx : List Nat), r.key jx ≠ d.reg.key ix → (s.inc d ix).rd r jx = s.rd r jx)

/-- R46: the events of one cycle on a semaphore. Releases, by write or by reset, come before the acquires; an attempt of the holder whose
reset falls in the cycle is lost; of the others the lowest owner ID is granted if the semaphore is then free, and only the holder if it is
held; every other attempt returns granted = 0 and the owner after the cycle. -/
def Obligations.SemaphoreEventsOfOneCycle : Prop :=
  ∀ (n : Nat) (reqs rels rsts : List Nat) (s : State), n < 64 → (∀ r ∈ reqs, 1 ≤ r ∧ r ≤ 5) → (∀ r ∈ rsts, 1 ≤ r ∧ r ≤ 5) →
    s.reaches .ord = true → rising s.regs = true →
    let o := if s.semOwner n ∈ rels ∨ s.semOwner n ∈ rsts then 0 else s.semOwner n
    let live := reqs.filter fun r => !(rsts.contains r && s.semOwner n = r)
    ∃ t, exec (.semAcquire n reqs rels rsts) s = .next t ∧ t.semOwner n = (if o = 0 then live.min?.getD 0 else o) ∧
      t.out = s.out ++ reqs.map (fun r => .read r (R.ORD_SEM_ACQ.key [n])
        (b2n (!(rsts.contains r && s.semOwner n = r) && t.semOwner n = r) * 2 ^ 31 + t.get Fl.ORD_SEM_CTL_orphan [n] * 2 ^ 30 + t.semOwner n)) ∧
      (∀ m, m < 64 → m ≠ n → t.semOwner m = s.semOwner m)

/-- R475: a node's priority comes from its strap or from SKY_CTRL.priority; with strap 0b00 the agent is off after reset and stays off; a
node of priority 0 never becomes root; of the candidates that a node hears it keeps the one with the highest priority, and of equals the
one with the lower serial. -/
def Obligations.NodePriority : Prop :=
  (∀ s : State, s.flag Fl.SKY_CTRL_prio_src = false →
    (s.get Fl.DEV_STRAP_skyrole = 1 → s.skyPrio = 0) ∧ (s.get Fl.DEV_STRAP_skyrole = 2 → s.skyPrio = 128) ∧
    (s.get Fl.DEV_STRAP_skyrole = 3 → s.skyPrio = 192)) ∧
  (∀ s : State, s.flag Fl.SKY_CTRL_prio_src = true → s.skyPrio = s.get Fl.SKY_CTRL_priority) ∧
  (∀ (straps serial : Nat) (s : State), ∃ t, exec (.powerOnReset straps true serial) s = .next t ∧ t.skyState = 0 ∧
      t.flag Fl.SKY_CTRL_enable = decide (t.get Fl.DEV_STRAP_skyrole ≠ 0)) ∧
  (∀ s : State, s.skyState = 0 → s.skyRoot = false → exec .announceTimer s = .next s ∧ exec .formationDecision s = .next s) ∧
  (∀ s t : State, s.skyPrio = 0 → s.skyRoot = false → rising s.regs = true → exec .formationDecision s = .next t → t.skyRoot = false) ∧
  (∀ (m : SkyMsg) (s : State), s.SkyTakes m 1 → s.skyState = 1 → s.skyRoot = false → s.sky.prep = none →
    let heard : List (Nat × Nat) := [(fieldLe (skyParse m).body 0 1, (skyParse m).serial),
      (fieldLe (skyParse m).body 16 1, fieldLe (skyParse m).body 8 8), s.sky.best]
    ∃ t, exec (.skyAnnounce m) s = .next t ∧ t.sky.best ∈ heard ∧
      ∀ c ∈ heard, c.1 ≠ 0 → c.1 < t.sky.best.1 ∨ (c.1 = t.sky.best.1 ∧ t.sky.best.2 ≤ c.2))

/-- R28: a 64-bit value of a _LO and _HI pair is written low word first, and takes effect when the _HI write lands. Until then the pair
reads as before. -/
def Obligations.PairWritesTakeEffectTogether : Prop :=
  ∀ (lo hi : Reg) (a b : Nat) (s : State), (lo, hi) ∈ [(R.DEV_COMMIT_TIME_LO, R.DEV_COMMIT_TIME_HI), (R.DEV_COMMIT_FRAME_LO, R.DEV_COMMIT_FRAME_HI),
      (R.SKY_OP_TIME_LO, R.SKY_OP_TIME_HI), (R.AUD_START_TIME_LO, R.AUD_START_TIME_HI)] →
    a < 2 ^ 32 → b < 2 ^ 32 → rising s.regs = true → s.reaches (blockOf lo.off) = true →
    ∃ t u, exec (.registerWrite .bar0 lo.off 4 15 a) s = .next t ∧ t.regs = s.regs ∧ t = { s with lowHalf := t.lowHalf } ∧
      exec (.registerWrite .bar0 hi.off 4 15 b) t = .next u ∧ u.rd64 lo hi = a + 2 ^ 32 * b ∧
      (∀ (r : Reg) (ix : List Nat), r.key ix ≠ lo.key [] → r.key ix ≠ hi.key [] → u.rd r ix = s.rd r ix) ∧
      u = { s with regs := u.regs, lowHalf := u.lowHalf }
end

