-- ==== Sys2Proof/Laws/Exec.lean ====
section
/-! SUPPORT. Which meaning each command runs: one lemma per arm of exec, so that no proof unfolds the whole match. -/

namespace Sys2Proof.Machine

@[simp] theorem exec_registerWrite (sp : HostSpace) (off : Nat) (size : Nat) (be : Nat) (v : Nat) (s : State) : exec (.registerWrite sp off size be v) s = execRegisterWrite sp off size be v s := rfl
@[simp] theorem exec_offDomainAccess (off : Nat) (rd : Bool) (s : State) : exec (.offDomainAccess off rd) s = execOffDomainAccess off rd s := rfl
@[simp] theorem exec_loReadLatch (rq : Nat) (off : Nat) (sp : HostSpace) (size : Nat) (s : State) : exec (.loReadLatch rq off sp size) s = execLoReadLatch rq off s sp size := rfl
@[simp] theorem exec_mirrorRead (off : Nat) (s : State) : exec (.mirrorRead off) s = execMirrorRead off s := rfl
@[simp] theorem exec_fenceRead (s : State) : exec .fenceRead s = execFenceRead s := rfl
@[simp] theorem exec_semAcquire (n : Nat) (reqs : List Nat) (rels : List Nat) (rsts : List Nat) (s : State) : exec (.semAcquire n reqs rels rsts) s = execSemAcquire n reqs rels rsts s := rfl
@[simp] theorem exec_semRelease (n : Nat) (rq : Nat) (s : State) : exec (.semRelease n rq) s = execSemRelease n rq s := rfl
@[simp] theorem exec_semOrphanClear (n : Nat) (rq : Nat) (s : State) : exec (.semOrphanClear n rq) s = execSemOrphanClear n rq s := rfl
@[simp] theorem exec_updraftPromotion (arb : Nat) (id : Nat) (cls : Nat) (s : State) : exec (.updraftPromotion arb id cls) s = execUpdraftPromotion arb id s cls := rfl
@[simp] theorem exec_bulkArm (v : Nat) (s : State) : exec (.bulkArm v) s = execBulkArm v s := rfl
@[simp] theorem exec_bulkWrite (data : List (Bool × Byte)) (s : State) : exec (.bulkWrite data) s = execBulkWrite data s := rfl
@[simp] theorem exec_bulkRead (n : Nat) (s : State) : exec (.bulkRead n) s = execBulkRead n s := rfl
@[simp] theorem exec_eventRecordPublish (src : Nat) (s : State) : exec (.eventRecordPublish src) s = execEventRecordPublish src s := rfl
@[simp] theorem exec_evqHeadDoorbell (q : Nat) (v : Nat) (s : State) : exec (.evqHeadDoorbell q v) s = execEvqHeadDoorbell q v s := rfl
@[simp] theorem exec_heldRecordFlush (q : Nat) (s : State) : exec (.heldRecordFlush q) s = execHeldRecordFlush q s := rfl
@[simp] theorem exec_evqImodTimeout (q : Nat) (s : State) : exec (.evqImodTimeout q) s = execEvqImodTimeout q s := rfl
@[simp] theorem exec_evqReset (q : Nat) (s : State) : exec (.evqReset q) s = execEvqReset q s := rfl
@[simp] theorem exec_cmdqTailDoorbell (r : Nat) (v : Nat) (s : State) : exec (.cmdqTailDoorbell r v) s = execCmdqTailDoorbell r v s := rfl
@[simp] theorem exec_cmdqPoll (r : Nat) (s : State) : exec (.cmdqPoll r) s = execCmdqPoll r s := rfl
@[simp] theorem exec_cmdqPacketStart (s : State) : exec .cmdqPacketStart s = execCmdqPacketStart s := rfl
@[simp] theorem exec_cmdqPacketComplete (id : Nat) (s : State) : exec (.cmdqPacketComplete id) s = execCmdqPacketComplete id s := rfl
@[simp] theorem exec_nop (r : Nat) (s : State) : exec (.nop r) s = execNop r s := rfl
@[simp] theorem exec_echo (id : Nat) (s : State) : exec (.echo id) s = execEcho id s := rfl
@[simp] theorem exec_cmdqFlush (r : Nat) (s : State) : exec (.cmdqFlush r) s = execCmdqFlush r s := rfl
@[simp] theorem exec_hostFunctionReset (kind : HostResetKind) (s : State) : exec (.hostFunctionReset kind) s = execHostFunctionReset kind s := rfl
@[simp] theorem exec_devCommit (v : Nat) (s : State) : exec (.devCommit v) s = execDevCommit v s := rfl
@[simp] theorem exec_frontIssue (counter : Nat) (s : State) : exec (.frontIssue counter) s = execFrontIssue counter s := rfl
@[simp] theorem exec_idleCommitIssue (s : State) : exec .idleCommitIssue s = execIdleCommitIssue s := rfl
@[simp] theorem exec_unitEpochSwitch (unit : FlowUnit) (p : Nat) (fid : Nat) (s : State) : exec (.unitEpochSwitch unit p fid) s = execUnitEpochSwitch unit p fid s := rfl
@[simp] theorem exec_frameLeavesUnit (unit : FlowUnit) (p : Nat) (fid : Nat) (s : State) : exec (.frameLeavesUnit unit p fid) s = execFrameLeavesUnit unit p fid s := rfl
@[simp] theorem exec_patchDrainEnd (p : Nat) (s : State) : exec (.patchDrainEnd p) s = execPatchDrainEnd p s := rfl
@[simp] theorem exec_devSnap (s : State) : exec .devSnap s = execDevSnap s := rfl
@[simp] theorem exec_snapComplete (s : State) : exec .snapComplete s = execSnapComplete s := rfl
@[simp] theorem exec_rateLimitedRecord (typ : Nat) (inst : Nat) (s : State) : exec (.rateLimitedRecord typ inst) s = execRateLimitedRecord typ inst s := rfl
@[simp] theorem exec_drvValidate (arg : Nat) (s : State) : exec (.drvValidate arg) s = execDrvValidate arg s := rfl
@[simp] theorem exec_drvStagePatch (arg : Nat) (s : State) : exec (.drvStagePatch arg) s = execDrvStagePatch arg s := rfl
@[simp] theorem exec_drvWriteSlotA (arg : Nat) (s : State) : exec (.drvWriteSlotA arg) s = execDrvWriteSlotA arg s := rfl
@[simp] theorem exec_drvWriteSlotB (arg : Nat) (s : State) : exec (.drvWriteSlotB arg) s = execDrvWriteSlotB arg s := rfl
@[simp] theorem exec_drvClearFailedDawn (arg : Nat) (s : State) : exec (.drvClearFailedDawn arg) s = execDrvClearFailedDawn arg s := rfl
@[simp] theorem exec_drvDiscardPatches (arg : Nat) (s : State) : exec (.drvDiscardPatches arg) s = execDrvDiscardPatches arg s := rfl
@[simp] theorem exec_drvRaiseFloor (arg : Nat) (s : State) : exec (.drvRaiseFloor arg) s = execDrvRaiseFloor arg s := rfl
@[simp] theorem exec_drvLoadFullImage (arg : Nat) (s : State) : exec (.drvLoadFullImage arg) s = execDrvLoadFullImage arg s := rfl
@[simp] theorem exec_drvFuseKey (arg : Nat) (s : State) : exec (.drvFuseKey arg) s = execDrvFuseKey arg s := rfl
@[simp] theorem exec_drvRevokeKey (arg : Nat) (s : State) : exec (.drvRevokeKey arg) s = execDrvRevokeKey arg s := rfl
@[simp] theorem exec_drvOperationEnd (s : State) : exec .drvOperationEnd s = execDrvOperationEnd s := rfl
@[simp] theorem exec_slkBlock (lane : Nat) (sync : Nat) (payload : Nat) (s : State) : exec (.slkBlock lane sync payload) s = execSlkBlock lane sync payload s := rfl
@[simp] theorem exec_alignBlock (lane : Nat) (payload : Nat) (s : State) : exec (.alignBlock lane payload) s = execAlignBlock lane payload s := rfl
@[simp] theorem exec_reacquire (g : Nat) (s : State) : exec (.reacquire g) s = execReacquire g s := rfl
@[simp] theorem exec_reacquireTimeout (g : Nat) (s : State) : exec (.reacquireTimeout g) s = execReacquireTimeout g s := rfl
@[simp] theorem exec_fs (g : Nat) (pkt : Bytes) (s : State) : exec (.fs g pkt) s = execFs g pkt s := rfl
@[simp] theorem exec_fe (g : Nat) (pkt : Bytes) (s : State) : exec (.fe g pkt) s = execFe g pkt s := rfl
@[simp] theorem exec_line (g : Nat) (pkt : Bytes) (full : Bool) (s : State) : exec (.line g pkt full) s = execLine g pkt s full := rfl
@[simp] theorem exec_obline (g : Nat) (pkt : Bytes) (full : Bool) (s : State) : exec (.obline g pkt full) s = execObline g pkt s full := rfl
@[simp] theorem exec_embed (g : Nat) (pkt : Bytes) (s : State) : exec (.embed g pkt) s = execEmbed g pkt s := rfl
@[simp] theorem exec_frameTimeout (stream : Nat) (s : State) : exec (.frameTimeout stream) s = execFrameTimeout stream s := rfl
@[simp] theorem exec_csi2Fs (port : Nat) (hdr : CsiHdr) (s : State) : exec (.csi2Fs port hdr) s = execCsi2Fs port hdr s := rfl
@[simp] theorem exec_csi2Fe (port : Nat) (hdr : CsiHdr) (s : State) : exec (.csi2Fe port hdr) s = execCsi2Fe port hdr s := rfl
@[simp] theorem exec_csi2Raw (port : Nat) (hdr : CsiHdr) (data : Bytes) (full : Bool) (s : State) : exec (.csi2Raw port hdr data full) s = execCsi2Raw port hdr data s full := rfl
@[simp] theorem exec_csi2Embedded (port : Nat) (hdr : CsiHdr) (data : Bytes) (s : State) : exec (.csi2Embedded port hdr data) s = execCsi2Embedded port hdr data s := rfl
@[simp] theorem exec_csi2Ignored (port : Nat) (hdr : CsiHdr) (s : State) : exec (.csi2Ignored port hdr) s = execCsi2Ignored port hdr s := rfl
@[simp] theorem exec_sgEdge (g : Nat) (s : State) : exec (.sgEdge g) s = execSgEdge g s := rfl
@[simp] theorem exec_sgPulseEnd (g : Nat) (s : State) : exec (.sgPulseEnd g) s = execSgPulseEnd g s := rfl
@[simp] theorem exec_rctFrame (tile : Nat) (fid : Nat) (s : State) : exec (.rctFrame tile fid) s = execRctFrame tile fid s := rfl
@[simp] theorem exec_capFrame (p : Nat) (fid : Nat) (s : State) : exec (.capFrame p fid) s = execCapFrame p fid s := rfl
@[simp] theorem exec_capSoftwareTrigger (p : Nat) (v : Nat) (s : State) : exec (.capSoftwareTrigger p v) s = execCapSoftwareTrigger p v s := rfl
@[simp] theorem exec_capTimeTrigger (p : Nat) (s : State) : exec (.capTimeTrigger p) s = execCapTimeTrigger p s := rfl
@[simp] theorem exec_capDrain (p : Nat) (v : Nat) (s : State) : exec (.capDrain p v) s = execCapDrain p v s := rfl
@[simp] theorem exec_reissueFrame (p : Nat) (s : State) : exec (.reissueFrame p) s = execReissueFrame p s := rfl
@[simp] theorem exec_segmentRelease (p : Nat) (v : Nat) (s : State) : exec (.segmentRelease p v) s = execSegmentRelease p v s := rfl
@[simp] theorem exec_rcuFrame (tile : Nat) (fid : Nat) (s : State) : exec (.rcuFrame tile fid) s = execRcuFrame tile fid s := rfl
@[simp] theorem exec_mediaScan (id : Nat) (ports : List MediaPort) (s : State) : exec (.mediaScan id ports) s = execMediaScan id ports s := rfl
@[simp] theorem exec_mediaFormat (id : Nat) (uuid : Nat) (now : Nat) (s : State) : exec (.mediaFormat id uuid now) s = execMediaFormat id uuid now s := rfl
@[simp] theorem exec_mediaOpen (id : Nat) (s : State) : exec (.mediaOpen id) s = execMediaOpen id s := rfl
@[simp] theorem exec_mediaClose (id : Nat) (s : State) : exec (.mediaClose id) s = execMediaClose id s := rfl
@[simp] theorem exec_takeStart (id : Nat) (s : State) : exec (.takeStart id) s = execTakeStart id s := rfl
@[simp] theorem exec_takeStop (id : Nat) (s : State) : exec (.takeStop id) s = execTakeStop id s := rfl
@[simp] theorem exec_checkpoint (id : Nat) (s : State) : exec (.checkpoint id) s = execCheckpoint id s := rfl
@[simp] theorem exec_rebuild (id : Nat) (s : State) : exec (.rebuild id) s = execRebuild id s := rfl
@[simp] theorem exec_rowIssue (p : Nat) (s : State) : exec (.rowIssue p) s = execRowIssue p s := rfl
@[simp] theorem exec_rowWriteComplete (row : Nat) (failed : List Nat) (s : State) : exec (.rowWriteComplete row failed) s = execRowWriteComplete row failed s := rfl
@[simp] theorem exec_memberCommandTimeout (member : Nat) (cmd : Option Nat) (s : State) : exec (.memberCommandTimeout member cmd) s = execMemberCommandTimeout member s cmd := rfl
@[simp] theorem exec_recCommit (s : State) : exec .recCommit s = execRecCommit s := rfl
@[simp] theorem exec_mediaFenceComplete (s : State) : exec .mediaFenceComplete s = execMediaFenceComplete s := rfl
@[simp] theorem exec_rebuildRow (readFailed : List Nat) (s : State) : exec (.rebuildRow readFailed) s = execRebuildRow readFailed s := rfl
@[simp] theorem exec_duskLandingDone (s : State) : exec .duskLandingDone s = execDuskLandingDone s := rfl
@[simp] theorem exec_zstJob (e : Nat) (s : State) : exec (.zstJob e) s = execZstJob e s := rfl
@[simp] theorem exec_zstJobComplete (e : Nat) (s : State) : exec (.zstJobComplete e) s = execZstJobComplete e s := rfl
@[simp] theorem exec_dvtFrame (tile : Nat) (fid : Nat) (s : State) : exec (.dvtFrame tile fid) s = execDvtFrame tile fid s := rfl
@[simp] theorem exec_outfFrame (p : Nat) (b : Nat) (fid : Nat) (full : Bool) (s : State) : exec (.outfFrame p b fid full) s = execOutfFrame p b fid s full := rfl
@[simp] theorem exec_outfPublish (p : Nat) (b : Nat) (s : State) : exec (.outfPublish p b) s = execOutfPublish p b s := rfl
@[simp] theorem exec_peerCreditWrite (r : Nat) (off : Nat) (v : Nat) (s : State) : exec (.peerCreditWrite r off v) s = execPeerCreditWrite r off v s := rfl
@[simp] theorem exec_encodePicture (k : Nat) (au : CodedAu) (s : State) : exec (.encodePicture k au) s = execEncodePicture k au s := rfl
@[simp] theorem exec_rtpSendAu (k : Nat) (up : Bool) (s : State) : exec (.rtpSendAu k up) s = execRtpSendAu k s up := rfl
@[simp] theorem exec_decodeDescriptor (res : DecodeResult) (s : State) : exec (.decodeDescriptor res) s = execDecodeDescriptor res s := rfl
@[simp] theorem exec_decodedPictureOutput (pic : DecodedPic) (s : State) : exec (.decodedPictureOutput pic) s = execDecodedPictureOutput pic s := rfl
@[simp] theorem exec_displayFrameStart (s : State) : exec .displayFrameStart s = execDisplayFrameStart s := rfl
@[simp] theorem exec_vblankLatch (s : State) : exec .vblankLatch s = execVblankLatch s := rfl
@[simp] theorem exec_evDispLock (locked : Bool) (s : State) : exec (.evDispLock locked) s = execEvDispLock locked s := rfl
@[simp] theorem exec_evDispUnderrun (layer : Nat) (line : Nat) (poison : Bool) (s : State) : exec (.evDispUnderrun layer line poison) s = execEvDispUnderrun layer line poison s := rfl
@[simp] theorem exec_dsiTransferStart (d : Nat) (s : State) : exec (.dsiTransferStart d) s = execDsiTransferStart d s := rfl
@[simp] theorem exec_dsiTransferEnd (d : Nat) (s : State) : exec (.dsiTransferEnd d) s = execDsiTransferEnd d s := rfl
@[simp] theorem exec_teLost (d : Nat) (s : State) : exec (.teLost d) s = execTeLost d s := rfl
@[simp] theorem exec_dsiCommand (d : Nat) (v : Nat) (s : State) : exec (.dsiCommand d v) s = execDsiCommand d v s := rfl
@[simp] theorem exec_dsiResponseTimeout (d : Nat) (s : State) : exec (.dsiResponseTimeout d) s = execDsiResponseTimeout d s := rfl
@[simp] theorem exec_sdiInputFrame (i : Nat) (f : SdiFrame) (s : State) : exec (.sdiInputFrame i f) s = execSdiInputFrame i f s := rfl
@[simp] theorem exec_evSdiIn (i : Nat) (locked : Bool) (std : Nat) (transfer : Nat) (s : State) : exec (.evSdiIn i locked std transfer) s = execEvSdiIn i locked std transfer s := rfl
@[simp] theorem exec_refreshTick (s : State) : exec .refreshTick s = execRefreshTick s := rfl
@[simp] theorem exec_hbmTempReport (stack : Nat) (temp : Int) (s : State) : exec (.hbmTempReport stack temp) s = execHbmTempReport stack temp s := rfl
@[simp] theorem exec_hbmRequest (rqs : List HbmReq) (s : State) : exec (.hbmRequest rqs) s = execHbmRequest rqs s := rfl
@[simp] theorem exec_scrubRead (err : EccErr) (s : State) : exec (.scrubRead err) s = execScrubRead err s := rfl
@[simp] theorem exec_caparAlert (ch : Nat) (again : Bool) (s : State) : exec (.caparAlert ch again) s = execCaparAlert ch again s := rfl
@[simp] theorem exec_evHbmPanic (client : Nat) (margin : Nat) (s : State) : exec (.evHbmPanic client margin) s = execEvHbmPanic client s margin := rfl
@[simp] theorem exec_panicDrop (client : Nat) (margin : Nat) (cycles : List (Nat × Nat)) (s : State) : exec (.panicDrop client margin cycles) s = execPanicDrop client s margin cycles := rfl
@[simp] theorem exec_channelRelease (ch : Nat) (byHost : Bool) (s : State) : exec (.channelRelease ch byHost) s = execChannelRelease ch byHost s := rfl
@[simp] theorem exec_evHbmResync (ch : Nat) (trainOk : Bool) (ms : Nat) (s : State) : exec (.evHbmResync ch trainOk ms) s = execEvHbmResync ch trainOk ms s := rfl
@[simp] theorem exec_ppr (ch : Nat) (v : Nat) (ok : Bool) (s : State) : exec (.ppr ch v ok) s = execPpr ch v ok s := rfl
@[simp] theorem exec_marginScan (ch : Nat) (eyes : List (Nat × Nat)) (s : State) : exec (.marginScan ch eyes) s = execMarginScan ch eyes s := rfl
@[simp] theorem exec_controllerEnable (cc : Nat) (s : State) : exec (.controllerEnable cc) s = execControllerEnable cc s := rfl
@[simp] theorem exec_controllerReset (s : State) : exec .controllerReset s = execControllerReset s := rfl
@[simp] theorem exec_offloadLinkReset (s : State) : exec .offloadLinkReset s = execOffloadLinkReset s := rfl
@[simp] theorem exec_controllerShutdown (shn : Nat) (s : State) : exec (.controllerShutdown shn) s = execControllerShutdown shn s := rfl
@[simp] theorem exec_nvmeSqDoorbell (q : Nat) (tail : Nat) (s : State) : exec (.nvmeSqDoorbell q tail) s = execNvmeSqDoorbell q tail s := rfl
@[simp] theorem exec_nvmeDeleteIoSq (c : NvmeCmd) (s : State) : exec (.nvmeDeleteIoSq c) s = execNvmeDeleteIoSq c s := rfl
@[simp] theorem exec_nvmeDeleteIoCq (c : NvmeCmd) (s : State) : exec (.nvmeDeleteIoCq c) s = execNvmeDeleteIoCq c s := rfl
@[simp] theorem exec_nvmeCreateIoSq (c : NvmeCmd) (s : State) : exec (.nvmeCreateIoSq c) s = execNvmeCreateIoSq c s := rfl
@[simp] theorem exec_nvmeCreateIoCq (c : NvmeCmd) (s : State) : exec (.nvmeCreateIoCq c) s = execNvmeCreateIoCq c s := rfl
@[simp] theorem exec_nvmeGetLogPage (c : NvmeCmd) (s : State) : exec (.nvmeGetLogPage c) s = execNvmeGetLogPage c s := rfl
@[simp] theorem exec_nvmeIdentify (c : NvmeCmd) (s : State) : exec (.nvmeIdentify c) s = execNvmeIdentify c s := rfl
@[simp] theorem exec_nvmeAbort (c : NvmeCmd) (s : State) : exec (.nvmeAbort c) s = execNvmeAbort c s := rfl
@[simp] theorem exec_nvmeSetFeatures (c : NvmeCmd) (s : State) : exec (.nvmeSetFeatures c) s = execNvmeSetFeatures c s := rfl
@[simp] theorem exec_nvmeGetFeatures (c : NvmeCmd) (s : State) : exec (.nvmeGetFeatures c) s = execNvmeGetFeatures c s := rfl
@[simp] theorem exec_nvmeAsyncEvent (c : NvmeCmd) (s : State) : exec (.nvmeAsyncEvent c) s = execNvmeAsyncEvent c s := rfl
@[simp] theorem exec_nvmeFwDownload (c : NvmeCmd) (data : Bytes) (s : State) : exec (.nvmeFwDownload c data) s = execNvmeFwDownload c data s := rfl
@[simp] theorem exec_nvmeFwCommit (c : NvmeCmd) (authentic : Bool) (s : State) : exec (.nvmeFwCommit c authentic) s = execNvmeFwCommit c authentic s := rfl
@[simp] theorem exec_firmwareActivation (starts : Bool) (s : State) : exec (.firmwareActivation starts) s = execFirmwareActivation starts s := rfl
@[simp] theorem exec_nvmeSelfTest (c : NvmeCmd) (s : State) : exec (.nvmeSelfTest c) s = execNvmeSelfTest c s := rfl
@[simp] theorem exec_selfTestStep (ok : Bool) (s : State) : exec (.selfTestStep ok) s = execSelfTestStep ok s := rfl
@[simp] theorem exec_nvmeFlush (c : NvmeCmd) (s : State) : exec (.nvmeFlush c) s = execNvmeFlush c s := rfl
@[simp] theorem exec_nvmeWrite (c : NvmeCmd) (data : Bytes) (s : State) : exec (.nvmeWrite c data) s = execNvmeWrite c data s := rfl
@[simp] theorem exec_nvmeRead (c : NvmeCmd) (s : State) : exec (.nvmeRead c) s = execNvmeRead c s := rfl
@[simp] theorem exec_nvmeCompare (c : NvmeCmd) (data : Bytes) (s : State) : exec (.nvmeCompare c data) s = execNvmeCompare c data s := rfl
@[simp] theorem exec_nvmeWriteZeroes (c : NvmeCmd) (s : State) : exec (.nvmeWriteZeroes c) s = execNvmeWriteZeroes c s := rfl
@[simp] theorem exec_nvmeVerify (c : NvmeCmd) (s : State) : exec (.nvmeVerify c) s = execNvmeVerify c s := rfl
@[simp] theorem exec_memberReadFail (io : Nat) (timeout : Bool) (s : State) : exec (.memberReadFail io timeout) s = execMemberReadFail io timeout s := rfl
@[simp] theorem exec_exchangeRowWriteback (row : Nat) (s : State) : exec (.exchangeRowWriteback row) s = execExchangeRowWriteback row s := rfl
@[simp] theorem exec_powerStateReached (s : State) : exec .powerStateReached s = execPowerStateReached s := rfl
@[simp] theorem exec_apstTransition (s : State) : exec .apstTransition s = execApstTransition s := rfl
@[simp] theorem exec_tbIncUpdate (n : Nat) (hi : Nat) (s : State) : exec (.tbIncUpdate n hi) s = execTbIncUpdate n hi s := rfl
@[simp] theorem exec_evTimeStep (n : Nat) (hi : Nat) (s : State) : exec (.evTimeStep n hi) s = execEvTimeStep n hi s := rfl
@[simp] theorem exec_beat (n : Nat) (s : State) : exec (.beat n) s = execBeat n s := rfl
@[simp] theorem exec_drop (n : Nat) (s : State) : exec (.drop n) s = execDrop n s := rfl
@[simp] theorem exec_trackingLapse (n : Nat) (s : State) : exec (.trackingLapse n) s = execTrackingLapse n s := rfl
@[simp] theorem exec_dtSwitch (v : Nat) (s : State) : exec (.dtSwitch v) s = execDtSwitch v s := rfl
@[simp] theorem exec_evTimeSlewDone (s : State) : exec .evTimeSlewDone s = execEvTimeSlewDone s := rfl
@[simp] theorem exec_timeCapture (v : Nat) (s : State) : exec (.timeCapture v) s = execTimeCapture v s := rfl
@[simp] theorem exec_ptpTransmit (p : Nat) (v : Nat) (s : State) : exec (.ptpTransmit p v) s = execPtpTransmit p v s := rfl
@[simp] theorem exec_txqPop (p : Nat) (s : State) : exec (.txqPop p) s = execTxqPop p s := rfl
@[simp] theorem exec_ptpReceive (p : Nat) (frame : Bytes) (s : State) : exec (.ptpReceive p frame) s = execPtpReceive p frame s := rfl
@[simp] theorem exec_genlockReference (std : Nat) (s : State) : exec (.genlockReference std) s = execGenlockReference std s := rfl
@[simp] theorem exec_genlockLoss (s : State) : exec .genlockLoss s = execGenlockLoss s := rfl
@[simp] theorem exec_ltcInFrame (tc : Nat) (ub : Nat) (df : Bool) (period : Nat) (s : State) : exec (.ltcInFrame tc ub df period) s = execLtcInFrame tc ub df period s := rfl
@[simp] theorem exec_ltcInLoss (s : State) : exec .ltcInLoss s = execLtcInLoss s := rfl
@[simp] theorem exec_ltcOutFrame (s : State) : exec .ltcOutFrame s = execLtcOutFrame s := rfl
@[simp] theorem exec_ltcJam (v : Nat) (s : State) : exec (.ltcJam v) s = execLtcJam v s := rfl
@[simp] theorem exec_triggerEdge (line : Nat) (rising : Bool) (width : Nat) (s : State) : exec (.triggerEdge line rising width) s = execTriggerEdge line rising s width := rfl
@[simp] theorem exec_pulseSchedulerEdge (k : Nat) (s : State) : exec (.pulseSchedulerEdge k) s = execPulseSchedulerEdge k s := rfl
@[simp] theorem exec_skyEnable (s : State) : exec .skyEnable s = execSkyEnable s := rfl
@[simp] theorem exec_announceTimer (s : State) : exec .announceTimer s = execAnnounceTimer s := rfl
@[simp] theorem exec_formationDecision (s : State) : exec .formationDecision s = execFormationDecision s := rfl
@[simp] theorem exec_skyAnnounce (m : SkyMsg) (s : State) : exec (.skyAnnounce m) s = execSkyAnnounce m s := rfl
@[simp] theorem exec_skyAssign (m : SkyMsg) (s : State) : exec (.skyAssign m) s = execSkyAssign m s := rfl
@[simp] theorem exec_skyRequest (m : SkyMsg) (s : State) : exec (.skyRequest m) s = execSkyRequest m s := rfl
@[simp] theorem exec_skyPrepare (m : SkyMsg) (s : State) : exec (.skyPrepare m) s = execSkyPrepare m s := rfl
@[simp] theorem exec_skyAck (m : SkyMsg) (s : State) : exec (.skyAck m) s = execSkyAck m s := rfl
@[simp] theorem exec_skyCommit (m : SkyMsg) (s : State) : exec (.skyCommit m) s = execSkyCommit m s := rfl
@[simp] theorem exec_skyArrive (m : SkyMsg) (s : State) : exec (.skyArrive m) s = execSkyArrive m s := rfl
@[simp] theorem exec_skyRelease (m : SkyMsg) (s : State) : exec (.skyRelease m) s = execSkyRelease m s := rfl
@[simp] theorem exec_skySnap (m : SkyMsg) (s : State) : exec (.skySnap m) s = execSkySnap m s := rfl
@[simp] theorem exec_skyReset (m : SkyMsg) (s : State) : exec (.skyReset m) s = execSkyReset m s := rfl
@[simp] theorem exec_skyDone (m : SkyMsg) (s : State) : exec (.skyDone m) s = execSkyDone m s := rfl
@[simp] theorem exec_skyLost (m : SkyMsg) (s : State) : exec (.skyLost m) s = execSkyLost m s := rfl
@[simp] theorem exec_skyOpCommit (arg : Nat) (s : State) : exec (.skyOpCommit arg) s = execSkyOpCommit arg s := rfl
@[simp] theorem exec_skyOpBarrier (arg : Nat) (s : State) : exec (.skyOpBarrier arg) s = execSkyOpBarrier arg s := rfl
@[simp] theorem exec_skyOpSnapshot (arg : Nat) (s : State) : exec (.skyOpSnapshot arg) s = execSkyOpSnapshot arg s := rfl
@[simp] theorem exec_skyOpReset (arg : Nat) (s : State) : exec (.skyOpReset arg) s = execSkyOpReset arg s := rfl
@[simp] theorem exec_ackDeadline (s : State) : exec .ackDeadline s = execAckDeadline s := rfl
@[simp] theorem exec_rootDecision (s : State) : exec .rootDecision s = execRootDecision s := rfl
@[simp] theorem exec_barrierEnd (s : State) : exec .barrierEnd s = execBarrierEnd s := rfl
@[simp] theorem exec_snapCapture (s : State) : exec .snapCapture s = execSnapCapture s := rfl
@[simp] theorem exec_skyResetAct (s : State) : exec .skyResetAct s = execSkyResetAct s := rfl
@[simp] theorem exec_alSkyPath (path : Nat) (up : Bool) (s : State) : exec (.alSkyPath path up) s = execAlSkyPath path up s := rfl
@[simp] theorem exec_childLost (node : Nat) (s : State) : exec (.childLost node) s = execChildLost node s := rfl
@[simp] theorem exec_rootLost (s : State) : exec .rootLost s = execRootLost s := rfl
@[simp] theorem exec_skyKey (id : Nat) (s : State) : exec (.skyKey id) s = execSkyKey id s := rfl
@[simp] theorem exec_audStart (v : Nat) (s : State) : exec (.audStart v) s = execAudStart v s := rfl
@[simp] theorem exec_sampleFrame (n : Nat) (captured : Bytes) (s : State) : exec (.sampleFrame n captured) s = execSampleFrame n captured s := rfl
@[simp] theorem exec_audioInputFrame (n : Nat) (data : Bytes) (cs : List Nat) (s : State) : exec (.audioInputFrame n data cs) s = execAudioInputFrame n data cs s := rfl
@[simp] theorem exec_evAudLock (n : Nat) (locked : Bool) (s : State) : exec (.evAudLock n locked) s = execEvAudLock n locked s := rfl
@[simp] theorem exec_smbusRead (addr : Nat) (cmd : Option Nat) (n : Nat) (s : State) : exec (.smbusRead addr cmd n) s = execSmbusRead addr cmd n s := rfl
@[simp] theorem exec_smbusWrite (addr : Nat) (cmd : Nat) (data : Bytes) (crc : Option Nat) (s : State) : exec (.smbusWrite addr cmd data crc) s = execSmbusWrite addr cmd data crc s := rfl
@[simp] theorem exec_smbusTimeout (s : State) : exec .smbusTimeout s = execSmbusTimeout s := rfl
@[simp] theorem exec_i2cGo (c : Nat) (v : Nat) (s : State) : exec (.i2cGo c v) s = execI2cGo c v s := rfl
@[simp] theorem exec_i2cTryEnd (c : Nat) (res : I2cResult) (s : State) : exec (.i2cTryEnd c res) s = execI2cTryEnd c res s := rfl
@[simp] theorem exec_i2cRetryDelay (c : Nat) (s : State) : exec (.i2cRetryDelay c) s = execI2cRetryDelay c s := rfl
@[simp] theorem exec_i2cFlush (c : Nat) (s : State) : exec (.i2cFlush c) s = execI2cFlush c s := rfl
@[simp] theorem exec_spiGo (c : Nat) (v : Nat) (s : State) : exec (.spiGo c v) s = execSpiGo c v s := rfl
@[simp] theorem exec_fifoPush (f : FifoPort) (i : Nat) (v : Nat) (s : State) : exec (.fifoPush f i v) s = execFifoPush f i v s := rfl
@[simp] theorem exec_fifoPop (f : FifoPort) (i : Nat) (s : State) : exec (.fifoPop f i) s = execFifoPop f i s := rfl
@[simp] theorem exec_uartRxByte (u : Nat) (b : Nat) (frameErr : Bool) (parityErr : Bool) (brk : Bool) (s : State) : exec (.uartRxByte u b frameErr parityErr brk) s = execUartRxByte u b frameErr parityErr brk s := rfl
@[simp] theorem exec_usbBusReset (ctl : Option Nat) (hs : Bool) (s : State) : exec (.usbBusReset ctl hs) s = execUsbBusReset ctl hs s := rfl
@[simp] theorem exec_usbOutPacket (data : Bytes) (s : State) : exec (.usbOutPacket data) s = execUsbOutPacket data s := rfl
@[simp] theorem exec_usbInPacket (s : State) : exec .usbInPacket s = execUsbInPacket s := rfl
@[simp] theorem exec_usbSuspend (s : State) : exec .usbSuspend s = execUsbSuspend s := rfl
@[simp] theorem exec_usbResume (s : State) : exec .usbResume s = execUsbResume s := rfl
@[simp] theorem exec_dfuDnload (blk : Nat) (data : Bytes) (s : State) : exec (.dfuDnload blk data) s = execDfuDnload blk data s := rfl
@[simp] theorem exec_dfuManifest (s : State) : exec .dfuManifest s = execDfuManifest s := rfl
@[simp] theorem exec_dfuDetach (s : State) : exec .dfuDetach s = execDfuDetach s := rfl
@[simp] theorem exec_sdInfo (id : Nat) (s : State) : exec (.sdInfo id) s = execSdInfo id s := rfl
@[simp] theorem exec_sdRead (id : Nat) (data : Bytes) (stop : Nat) (s : State) : exec (.sdRead id data stop) s = execSdRead id data stop s := rfl
@[simp] theorem exec_sdWrite (id : Nat) (good : Nat) (stop : Nat) (s : State) : exec (.sdWrite id good stop) s = execSdWrite id good stop s := rfl
@[simp] theorem exec_evSdCard (present : Bool) (mode : Nat) (s : State) : exec (.evSdCard present mode) s = execEvSdCard present mode s := rfl
@[simp] theorem exec_gpioSet (b : Nat) (v : Nat) (s : State) : exec (.gpioSet b v) s = execGpioSet b v s := rfl
@[simp] theorem exec_gpioClr (b : Nat) (v : Nat) (s : State) : exec (.gpioClr b v) s = execGpioClr b v s := rfl
@[simp] theorem exec_healthError (kind : Nat) (inst : Nat) (cls : Nat) (tile : Nat) (s : State) : exec (.healthError kind inst cls tile) s = execHealthError kind inst cls tile s := rfl
@[simp] theorem exec_replayComplete (cls : Nat) (tile : Nat) (good : Bool) (s : State) : exec (.replayComplete cls tile good) s = execReplayComplete cls tile good s := rfl
@[simp] theorem exec_gustLeakTick (kind : Nat) (s : State) : exec (.gustLeakTick kind) s = execGustLeakTick kind s := rfl
@[simp] theorem exec_testFailedPair (v : Nat) (pass : Bool) (s : State) : exec (.testFailedPair v pass) s = execTestFailedPair v pass s := rfl
@[simp] theorem exec_clearRetiredMark (v : Nat) (s : State) : exec (.clearRetiredMark v) s = execClearRetiredMark v s := rfl
@[simp] theorem exec_baroPlanCommand (v : Nat) (s : State) : exec (.baroPlanCommand v) s = execBaroPlanCommand v s := rfl
@[simp] theorem exec_baroPeriodicPlan (s : State) : exec .baroPeriodicPlan s = execBaroPeriodicPlan s := rfl
@[simp] theorem exec_evBaroPlan (m : BaroMeas) (s : State) : exec (.evBaroPlan m) s = execEvBaroPlan m s := rfl
@[simp] theorem exec_railOffsetStep (r : Nat) (ok : Bool) (s : State) : exec (.railOffsetStep r ok) s = execRailOffsetStep r ok s := rfl
@[simp] theorem exec_trailSpaceFreed (dest : Nat) (s : State) : exec (.trailSpaceFreed dest) s = execTrailSpaceFreed dest s := rfl
@[simp] theorem exec_traceSamplingRelax (dest : Nat) (s : State) : exec (.traceSamplingRelax dest) s = execTraceSamplingRelax dest s := rfl
@[simp] theorem exec_bbSeal (s : State) : exec .bbSeal s = execBbSeal s := rfl
@[simp] theorem exec_powerOnReset (straps : Nat) (railsOk : Bool) (serial : Nat) (s : State) : exec (.powerOnReset straps railsOk serial) s = execPowerOnReset straps railsOk serial s := rfl
@[simp] theorem exec_dawnStep (r : DawnInput) (s : State) : exec (.dawnStep r) s = execDawnStep r s := rfl
@[simp] theorem exec_watchdogReset (s : State) : exec .watchdogReset s = execWatchdogReset s := rfl
@[simp] theorem exec_deviceReset (v : Nat) (s : State) : exec (.deviceReset v) s = execDeviceReset v s := rfl
@[simp] theorem exec_vwarnCrossing (mv : Nat) (s : State) : exec (.vwarnCrossing mv) s = execVwarnCrossing mv s := rfl
@[simp] theorem exec_vcritCrossing (mv : Nat) (s : State) : exec (.vcritCrossing mv) s = execVcritCrossing mv s := rfl
@[simp] theorem exec_duskHoldEnd (mv : Nat) (s : State) : exec (.duskHoldEnd mv) s = execDuskHoldEnd mv s := rfl
@[simp] theorem exec_evCprDuskEnd (mv : Nat) (s : State) : exec (.evCprDuskEnd mv) s = execEvCprDuskEnd mv s := rfl
@[simp] theorem exec_domainSwitch (v : Nat) (s : State) : exec (.domainSwitch v) s = execDomainSwitch v s := rfl
@[simp] theorem exec_evCprPd (s : State) : exec .evCprPd s = execEvCprPd s := rfl
@[simp] theorem exec_standbyEnter (v : Nat) (s : State) : exec (.standbyEnter v) s = execStandbyEnter v s := rfl
@[simp] theorem exec_standbyEntered (s : State) : exec .standbyEntered s = execStandbyEntered s := rfl
@[simp] theorem exec_standbyExit (v : Nat) (s : State) : exec (.standbyExit v) s = execStandbyExit v s := rfl
@[simp] theorem exec_standbyExited (s : State) : exec .standbyExited s = execStandbyExited s := rfl
@[simp] theorem exec_thermalTrip (temp : Int) (s : State) : exec (.thermalTrip temp) s = execThermalTrip temp s := rfl
@[simp] theorem exec_pipelineIdle (p : Nat) (s : State) : exec (.pipelineIdle p) s = execPipelineIdle p s := rfl
@[simp] theorem exec_landingWriteDeadline (owing : List Nat) (s : State) : exec (.landingWriteDeadline owing) s = execLandingWriteDeadline owing s := rfl
@[simp] theorem exec_pcieLinkStateChange (ofl : Bool) (r : Nat) (up : Bool) (gen : Nat) (width : Nat) (s : State) : exec (.pcieLinkStateChange ofl r up gen width) s = execPcieLinkStateChange ofl r up gen width s := rfl
@[simp] theorem exec_dsiReadResponse (d : Nat) (data : Bytes) (report : Nat) (s : State) : exec (.dsiReadResponse d data report) s = execDsiReadResponse d data report s := rfl
@[simp] theorem exec_exchangeParityResyncEnd (s : State) : exec .exchangeParityResyncEnd s = execExchangeParityResyncEnd s := rfl
@[simp] theorem exec_offloadMemberIoDone (io : Nat) (s : State) : exec (.offloadMemberIoDone io) s = execOffloadMemberIoDone io s := rfl
@[simp] theorem exec_scheduledPulseEnd (k : Nat) (s : State) : exec (.scheduledPulseEnd k) s = execScheduledPulseEnd k s := rfl
@[simp] theorem exec_spiTransferEnd (c : Nat) (data : Bytes) (s : State) : exec (.spiTransferEnd c data) s = execSpiTransferEnd c data s := rfl
@[simp] theorem exec_uartTxByte (u : Nat) (s : State) : exec (.uartTxByte u) s = execUartTxByte u s := rfl
@[simp] theorem exec_usbControlRequest (rq : UsbReq) (s : State) : exec (.usbControlRequest rq) s = execUsbControlRequest rq s := rfl
@[simp] theorem exec_usbVbusChange (present : Bool) (s : State) : exec (.usbVbusChange present) s = execUsbVbusChange present s := rfl

end Sys2Proof.Machine
end

