-- ==== Sys2Proof/Laws/Store.lean ====
section
/-! SUPPORT. What reading and writing a keyed store do: the canonical form, read after write, and the frame of a write; the same for
memories and for the register file. -/

namespace Sys2Proof.Machine

section Keyed

variable {α : Type} [DecidableEq α] {d v : α} {k k' : Nat} {l : List (Nat × α)}

omit [DecidableEq α] in
theorem keysAbove_iff : keysAbove k l = true ↔ ∀ e ∈ l, k < e.1 := by
  simp [keysAbove]

theorem keysAbove_setAt (h : k' < k) (hl : keysAbove k' l = true) : keysAbove k' (setAt d k v l) = true := by
  rw [keysAbove_iff] at *
  induction l with
  | nil => intro e he; unfold setAt at he; split at he <;> simp_all
  | cons a t ih =>
    obtain ⟨ka, va⟩ := a
    have ht : ∀ e ∈ t, k' < e.1 := fun e he => hl e (List.mem_cons_of_mem _ he)
    have ha : k' < ka := hl (ka, va) List.mem_cons_self
    intro e he
    unfold setAt at he
    split at he
    · split at he <;> simp only [List.mem_cons] at he <;> rcases he with rfl | he <;> try assumption
      · exact ht e he
      · rcases he with rfl | he
        · exact ha
        · exact ht e he
    · split at he
      · split at he
        · exact ht e he
        · simp only [List.mem_cons] at he
          rcases he with rfl | he
          · exact h
          · exact ht e he
      · simp only [List.mem_cons] at he
        rcases he with rfl | he
        · exact ha
        · exact ih ht e he

theorem rising_setAt (h : rising l = true) : rising (setAt d k v l) = true := by
  induction l with
  | nil => unfold setAt; split <;> simp [rising, keysAbove]
  | cons a t ih =>
    obtain ⟨ka, va⟩ := a
    simp only [rising, Bool.and_eq_true] at h
    unfold setAt
    split
    · rename_i hk
      have hka : keysAbove k ((ka, va) :: t) = true := by
        rw [keysAbove_iff] at *
        intro e he
        simp only [List.mem_cons] at he
        rcases he with rfl | he
        · exact hk
        · exact Nat.lt_trans hk (h.1 e he)
      split
      · simp [rising, h]
      · simp only [rising, hka, h.1, h.2, Bool.and_true]
    · split
      · rename_i hk
        subst hk
        split
        · exact h.2
        · simp [rising, h]
      · rename_i h1 h2
        simp only [rising, Bool.and_eq_true]
        exact ⟨keysAbove_setAt (by omega) h.1, ih h.2⟩

theorem lookAt_above (h : keysAbove k l = true) : lookAt d l k = d := by
  rw [keysAbove_iff] at h
  induction l with
  | nil => rfl
  | cons a t ih =>
    obtain ⟨ka, va⟩ := a
    have : k < ka := h (ka, va) List.mem_cons_self
    have hne : ¬ka = k := by omega
    simp only [lookAt, if_neg hne]
    exact ih fun e he => h e (List.mem_cons_of_mem _ he)

/-- Reading what has just been written. -/
theorem lookAt_setAt_same (h : rising l = true) : lookAt d (setAt d k v l) k = v := by
  induction l with
  | nil =>
    unfold setAt
    split
    · simp_all [lookAt]
    · simp [lookAt]
  | cons a t ih =>
    obtain ⟨ka, va⟩ := a
    simp only [rising, Bool.and_eq_true] at h
    unfold setAt
    split
    · rename_i hk
      split
      · rename_i hv
        subst hv
        apply lookAt_above
        rw [keysAbove_iff] at *
        intro e he
        simp only [List.mem_cons] at he
        rcases he with rfl | he
        · exact hk
        · exact Nat.lt_trans hk (h.1 e he)
      · simp [lookAt]
    · split
      · rename_i hk
        subst hk
        split
        · rename_i hv
          subst hv
          exact lookAt_above h.1
        · simp [lookAt]
      · rename_i h1 h2
        have hne : ¬ka = k := by omega
        simp only [lookAt, if_neg hne]
        exact ih h.2

/-- A write leaves every other key alone. -/
theorem lookAt_setAt_ne {d' : α} (h : k ≠ k') : lookAt d' (setAt d k v l) k' = lookAt d' l k' := by
  induction l with
  | nil =>
    unfold setAt
    split
    · rfl
    · simp [lookAt, h]
  | cons a t ih =>
    obtain ⟨ka, va⟩ := a
    unfold setAt
    split
    · split
      · rfl
      · simp [lookAt, h]
    · split
      · rename_i hk
        subst hk
        split
        · simp [lookAt, h]
        · simp [lookAt, h]
      · simp only [lookAt, ih]

theorem mem_setAt_ne {e : Nat × α} (h : e ∈ setAt d k v l) : e ∈ l ∨ (e = (k, v) ∧ v ≠ d) := by
  induction l with
  | nil => unfold setAt at h; split at h <;> simp_all
  | cons a t ih =>
    obtain ⟨ka, va⟩ := a
    unfold setAt at h
    split at h
    · split at h
      · exact .inl h
      · rename_i hv
        simp only [List.mem_cons] at h
        rcases h with rfl | h
        · exact .inr ⟨rfl, hv⟩
        · exact .inl (List.mem_cons.mpr h)
    · split at h
      · split at h
        · exact .inl (List.mem_cons_of_mem _ h)
        · rename_i hv
          simp only [List.mem_cons] at h
          rcases h with rfl | h
          · exact .inr ⟨rfl, hv⟩
          · exact .inl (List.mem_cons_of_mem _ h)
      · simp only [List.mem_cons] at h
        rcases h with rfl | h
        · exact .inl List.mem_cons_self
        · rcases ih h with h | h
          · exact .inl (List.mem_cons_of_mem _ h)
          · exact .inr h

theorem rising_filter {p : Nat × α → Bool} (h : rising l = true) : rising (l.filter p) = true := by
  induction l with
  | nil => rfl
  | cons a t ih =>
    obtain ⟨ka, va⟩ := a
    simp only [rising, Bool.and_eq_true] at h
    rw [List.filter_cons]
    split
    · simp only [rising, Bool.and_eq_true, ih h.2, and_true]
      rw [keysAbove_iff] at *
      intro e he
      exact h.1 e (List.mem_filter.mp he).1
    · exact ih h.2

end Keyed

/-! ### Memories -/

theorem Mem.wf_iff {m : Mem} : m.wf = true ↔ rising m = true ∧ ∀ e ∈ m, e.2 ≠ 0 := by
  simp [Mem.wf]

theorem Mem.wf_nil : Mem.wf [] = true := rfl

theorem Mem.set_wf {m : Mem} {a : Nat} {b : Byte} (h : m.wf = true) : (m.set a b).wf = true := by
  rw [Mem.wf_iff] at *
  refine ⟨rising_setAt h.1, fun e he => ?_⟩
  rcases mem_setAt_ne he with he | ⟨rfl, hv⟩
  · exact h.2 e he
  · exact hv

theorem Mem.write_wf {m : Mem} {a : Nat} {b : Bytes} (h : m.wf = true) : (m.write a b).wf = true := by
  induction b generalizing m a with
  | nil => exact h
  | cons x t ih => exact ih (Mem.set_wf h)

theorem Mem.zero_wf {m : Mem} {a n : Nat} (h : m.wf = true) : (m.zero a n).wf = true := by
  rw [Mem.wf_iff] at *
  exact ⟨rising_filter h.1, fun e he => h.2 e (List.mem_filter.mp he).1⟩

theorem Mem.filter_wf {m : Mem} {p : Nat × Byte → Bool} (h : m.wf = true) : Mem.wf (m.filter p) = true := by
  rw [Mem.wf_iff] at *
  exact ⟨rising_filter h.1, fun e he => h.2 e (List.mem_filter.mp he).1⟩

theorem Mem.get_set_same {m : Mem} {a : Nat} {b : Byte} (h : m.wf = true) : (m.set a b).get a = b :=
  lookAt_setAt_same (Mem.wf_iff.mp h).1

theorem Mem.get_set_ne {m : Mem} {a a' : Nat} {b : Byte} (h : a ≠ a') : (m.set a b).get a' = m.get a' :=
  lookAt_setAt_ne h

/-- A write changes no byte outside the bytes written. -/
theorem Mem.get_write_out {m : Mem} {a a' : Nat} {b : Bytes} (h : a' < a ∨ a + b.length ≤ a') :
    (m.write a b).get a' = m.get a' := by
  induction b generalizing m a with
  | nil => rfl
  | cons x t ih =>
    simp only [List.length_cons] at h
    have h1 : a' < a + 1 ∨ a + 1 + t.length ≤ a' := by omega
    rw [Mem.write, ih h1, Mem.get_set_ne (by omega)]

/-- Reading the bytes just written. -/
theorem Mem.get_write_in {m : Mem} {a i : Nat} {b : Bytes} (hm : m.wf = true) (h : i < b.length) :
    (m.write a b).get (a + i) = b[i] := by
  induction b generalizing m a i with
  | nil => simp at h
  | cons x t ih =>
    rw [Mem.write]
    cases i with
    | zero =>
      rw [Mem.get_write_out (by omega)]
      exact Mem.get_set_same hm
    | succ i =>
      have h' : i < t.length := by simpa using h
      have := ih (m := m.set a x) (a := a + 1) (i := i) (Mem.set_wf hm) h'
      rw [show a + (i + 1) = a + 1 + i by omega, this]
      rfl

/-! ### The register file -/

theorem RegFile.wr_rising {f : RegFile} {r : Reg} {ix : List Nat} {v : Nat} (h : rising f = true) : rising (f.wr r ix v) = true :=
  rising_setAt h

theorem RegFile.put_rising {f : RegFile} {d : Fld} {ix : List Nat} {v : Nat} (h : rising f = true) : rising (f.put d ix v) = true :=
  rising_setAt h

theorem RegFile.rd_wr_same {f : RegFile} {r : Reg} {ix : List Nat} {v : Nat} (h : rising f = true) :
    (f.wr r ix v).rd r ix = v % 2 ^ 32 := by
  simp [RegFile.rd, RegFile.wr, lookAt_setAt_same h]

theorem RegFile.rd_wr_ne {f : RegFile} {r r' : Reg} {ix ix' : List Nat} {v : Nat} (h : r.key ix ≠ r'.key ix') :
    (f.wr r ix v).rd r' ix' = f.rd r' ix' := by
  simp [RegFile.rd, RegFile.wr, lookAt_setAt_ne h]

theorem RegFile.rd_lt {f : RegFile} {r : Reg} {ix : List Nat} : f.rd r ix < 2 ^ 32 := BitVec.isLt _

theorem putBits_lt {w hi lo v : Nat} (hw : w < 2 ^ 32) (h : hi < 32) (hl : lo ≤ hi) : putBits w hi lo v < 2 ^ 32 := by
  unfold putBits
  have h1 : w / 2 ^ (hi + 1) < 2 ^ (32 - (hi + 1)) := by
    apply Nat.div_lt_of_lt_mul
    rw [← Nat.pow_add]
    rw [show hi + 1 + (32 - (hi + 1)) = 32 by omega]
    exact hw
  have h2 : v % 2 ^ (hi + 1 - lo) < 2 ^ (hi + 1 - lo) := Nat.mod_lt _ (Nat.two_pow_pos _)
  have h3 : w % 2 ^ lo < 2 ^ lo := Nat.mod_lt _ (Nat.two_pow_pos _)
  have e1 : 2 ^ (hi + 1) = 2 ^ (hi + 1 - lo) * 2 ^ lo := by rw [← Nat.pow_add]; congr 1; omega
  have e2 : (2 : Nat) ^ 32 = 2 ^ (32 - (hi + 1)) * 2 ^ (hi + 1) := by rw [← Nat.pow_add]; congr 1; omega
  have h4 : v % 2 ^ (hi + 1 - lo) * 2 ^ lo + w % 2 ^ lo < 2 ^ (hi + 1) := by
    rw [e1]
    calc v % 2 ^ (hi + 1 - lo) * 2 ^ lo + w % 2 ^ lo < v % 2 ^ (hi + 1 - lo) * 2 ^ lo + 2 ^ lo := by omega
      _ = (v % 2 ^ (hi + 1 - lo) + 1) * 2 ^ lo := by ring
      _ ≤ 2 ^ (hi + 1 - lo) * 2 ^ lo := Nat.mul_le_mul_right _ h2
  rw [e2]
  calc w / 2 ^ (hi + 1) * 2 ^ (hi + 1) + v % 2 ^ (hi + 1 - lo) * 2 ^ lo + w % 2 ^ lo
      < w / 2 ^ (hi + 1) * 2 ^ (hi + 1) + 2 ^ (hi + 1) := by omega
    _ = (w / 2 ^ (hi + 1) + 1) * 2 ^ (hi + 1) := by ring
    _ ≤ 2 ^ (32 - (hi + 1)) * 2 ^ (hi + 1) := Nat.mul_le_mul_right _ h1

/-- The bits just put. -/
theorem bits_putBits_same {w hi lo v : Nat} (hl : lo ≤ hi) : bits (putBits w hi lo v) hi lo = v % 2 ^ (hi + 1 - lo) := by
  unfold bits putBits
  have e1 : 2 ^ (hi + 1) = 2 ^ (hi + 1 - lo) * 2 ^ lo := by rw [← Nat.pow_add]; congr 1; omega
  have h3 : w % 2 ^ lo < 2 ^ lo := Nat.mod_lt _ (Nat.two_pow_pos _)
  rw [e1, ← Nat.mul_assoc, ← Nat.add_mul, Nat.add_comm _ (w % 2 ^ lo), Nat.add_mul_div_right _ _ (Nat.two_pow_pos _),
    Nat.div_eq_of_lt h3, Nat.zero_add, Nat.add_comm, Nat.add_mul_mod_self_right, Nat.mod_mod]

/-- Bits above the ones put. -/
theorem bits_putBits_above {w hi lo v hi' lo' : Nat} (hl : lo ≤ hi) (h : hi < lo') : bits (putBits w hi lo v) hi' lo' = bits w hi' lo' := by
  unfold bits putBits
  have e1 : 2 ^ (hi + 1) = 2 ^ (hi + 1 - lo) * 2 ^ lo := by rw [← Nat.pow_add]; congr 1; omega
  have h2 : v % 2 ^ (hi + 1 - lo) < 2 ^ (hi + 1 - lo) := Nat.mod_lt _ (Nat.two_pow_pos _)
  have h3 : w % 2 ^ lo < 2 ^ lo := Nat.mod_lt _ (Nat.two_pow_pos _)
  have h4 : v % 2 ^ (hi + 1 - lo) * 2 ^ lo + w % 2 ^ lo < 2 ^ (hi + 1) := by
    rw [e1]
    calc v % 2 ^ (hi + 1 - lo) * 2 ^ lo + w % 2 ^ lo < v % 2 ^ (hi + 1 - lo) * 2 ^ lo + 2 ^ lo := by omega
      _ = (v % 2 ^ (hi + 1 - lo) + 1) * 2 ^ lo := by ring
      _ ≤ 2 ^ (hi + 1 - lo) * 2 ^ lo := Nat.mul_le_mul_right _ h2
  have e2 : 2 ^ lo' = 2 ^ (hi + 1) * 2 ^ (lo' - (hi + 1)) := by rw [← Nat.pow_add]; congr 1; omega
  have key : (w / 2 ^ (hi + 1) * 2 ^ (hi + 1) + v % 2 ^ (hi + 1 - lo) * 2 ^ lo + w % 2 ^ lo) / 2 ^ (hi + 1) = w / 2 ^ (hi + 1) := by
    rw [Nat.add_assoc, Nat.add_comm, Nat.add_mul_div_right _ _ (Nat.two_pow_pos _), Nat.div_eq_of_lt h4, Nat.zero_add]
  rw [e2, ← Nat.div_div_eq_div_mul, ← Nat.div_div_eq_div_mul, key]

/-- Bits below the ones put. -/
theorem bits_putBits_below {w hi lo v hi' lo' : Nat} (h : hi' < lo) (hl' : lo' ≤ hi') (hl : lo ≤ hi) :
    bits (putBits w hi lo v) hi' lo' = bits w hi' lo' := by
  unfold bits putBits
  have e1 : 2 ^ (hi + 1) = 2 ^ (hi + 1 - lo) * 2 ^ lo := by rw [← Nat.pow_add]; congr 1; omega
  rw [e1, ← Nat.mul_assoc, ← Nat.add_mul]
  generalize (w / (2 ^ (hi + 1 - lo) * 2 ^ lo) * 2 ^ (hi + 1 - lo) + v % 2 ^ (hi + 1 - lo)) = c
  have e2 : 2 ^ lo = 2 ^ (lo - (hi' + 1)) * 2 ^ (hi' + 1) := by rw [← Nat.pow_add]; congr 1; omega
  have e3 : 2 ^ (hi' + 1) = 2 ^ lo' * 2 ^ (hi' + 1 - lo') := by rw [← Nat.pow_add]; congr 1; omega
  rw [← Nat.mod_mul_right_div_self, ← Nat.mod_mul_right_div_self, ← e3]
  congr 1
  conv_lhs => rw [e2, ← Nat.mul_assoc, Nat.add_comm, Nat.add_mul_mod_self_right, ← e2]
  rw [e2]
  exact Nat.mod_mul_left_mod _ _ _

end Sys2Proof.Machine
end

