-- ==== Sys2Proof/Laws/Kept.lean ====
section
/-! SUPPORT. What every state helper keeps: the queue of waiting commands, the canonical form of every store, and each memory it does not
write. `Kept W s t` composes, so each helper and each meaning has one lemma (Laws/Kept1.lean and on), which later proofs cite instead of
unfolding it; its hypotheses `w_…` name the memories that the function writes. -/

namespace Sys2Proof.Machine

/-- Which memories may change. -/
structure Writes where
  host : Bool
  ohost : Bool
  hbm : Bool
  mram : Bool
  lut : Bool
  media : Bool

/-- `t` waits on the same commands as `s`, its stores are canonical if those of `s` are, and each memory outside `W` is unchanged. -/
structure Kept (W : Writes) (s t : State) : Prop where
  pending : t.pending = s.pending
  canon : s.Canon → t.Canon
  host : W.host = false → t.host = s.host
  ohost : W.ohost = false → t.ohost = s.ohost
  hbm : W.hbm = false → t.hbm = s.hbm
  undef : W.hbm = false → t.undef = s.undef
  mram : W.mram = false → t.mram = s.mram
  lut : W.lut = false → t.lut = s.lut
  media : W.media = false → t.media = s.media

variable {W : Writes}

/-- The next state of an outcome, if it is one, keeps. -/
def KeptR (W : Writes) (s : State) (r : Res) : Prop := ∀ t, r = .next t → Kept W s t

/-- The state a partial operation answers, if it does, keeps. -/
def KeptO (W : Writes) (s : State) (r : Option State) : Prop := ∀ t, r = some t → Kept W s t

theorem keptR_next {s t : State} (h : Kept W s t) : KeptR W s (.next t) := by
  intro u hu; cases hu; exact h

theorem keptR_fault {s : State} {f : Fault} : KeptR W s (.fault f) := by intro u hu; cases hu

theorem keptR_refused {s : State} {f : Refusal} : KeptR W s (.refused f) := by intro u hu; cases hu

theorem keptO_some {s t : State} (h : Kept W s t) : KeptO W s (some t) := by
  intro u hu; cases hu; exact h

theorem keptO_none {s : State} : KeptO W s none := by intro u hu; cases hu

theorem kept_foldl {α : Type} {s0 s : State} {f : State → α → State} {l : List α} (hf : ∀ t x, Kept W s0 t → Kept W s0 (f t x))
    (h : Kept W s0 s) : Kept W s0 (l.foldl f s) := by
  induction l generalizing s with
  | nil => exact h
  | cons a t ih => exact ih (hf _ _ h)

section

variable {s0 s : State} {regs : RegFile} {mirror : MirrorSt} {latch : List (Nat × Nat × Nat)} {lowHalf : List (Nat × Nat)}
   {host ohost hbm : Mem} {undef : List (Nat × Nat × Nat)} {mram lut : Mem} {lutSet : List Nat} {msixTable : RegFile} {msixPba : List Nat}
   {msixEnable msixMask : Bool} {out : List Out} {raised limited : List Rec} {limitedAt : List (Nat × Nat × Nat)} {sfeFull : Bool}
   {defStores : List DefStore} {dests : List Dest} {disarmed : Disarmed} {packets : List Packet} {rings : List Ring} {nextId : Nat}
   {heldReads : List (Nat × Nat)} {bulk : Bulk} {promo : List (Nat × Nat × Nat × Nat)} {front : Option Front} {epochs : List EpochRec}
   {patchesOf : List (Nat × Patch)} {pipes : List PipeSt} {frames : List Frame} {graph : Graph} {lanes : List Lane} {groups : List GroupSt}
   {streams : List StreamSt} {sgs pss : List Gen} {caps : List CapSt} {subst : List Subst} {time : TimeSt} {drv : DrvSt} {media : Mem}
   {recorder : RecSt} {zst : List (Option ZstJob)} {oldJobs : List Nat} {outfs : List OutfSt} {encs : List EncSt} {dec : DecSt}
   {disp : DispSt} {hbmc : HbmSt} {hlt : HltSt} {baro : BaroSt} {nv : NvSt} {ofl : OflSt} {sky : SkySt} {aud : AudSt} {lsp : LspSt}
   {cpr : CprSt} {free : Nat}

theorem kept_core (h : Kept W s0 s)
    (hr : rising s.regs = true → rising regs = true) (hh : s.host.wf = true → host.wf = true) (ho : s.ohost.wf = true → ohost.wf = true)
    (hb : s.hbm.wf = true → hbm.wf = true) (hm : s.mram.wf = true → mram.wf = true) (hl : s.lut.wf = true → lut.wf = true)
    (hc : s.ofl.cache.wf = true → ofl.cache.wf = true) (hd : s.media.wf = true → media.wf = true)
    (e_host : W.host = false → host = s.host) (e_ohost : W.ohost = false → ohost = s.ohost) (e_hbm : W.hbm = false → hbm = s.hbm)
    (e_undef : W.hbm = false → undef = s.undef) (e_mram : W.mram = false → mram = s.mram) (e_lut : W.lut = false → lut = s.lut)
    (e_media : W.media = false → media = s.media) :
    Kept W s0
      { pending := s.pending, regs := regs, mirror := mirror, latch := latch, lowHalf := lowHalf, host := host, ohost := ohost,
        hbm := hbm, undef := undef, mram := mram, lut := lut, lutSet := lutSet, msixTable := msixTable, msixPba := msixPba,
        msixEnable := msixEnable, msixMask := msixMask, out := out, raised := raised, limited := limited, limitedAt := limitedAt,
        sfeFull := sfeFull, defStores := defStores, dests := dests, disarmed := disarmed, packets := packets, rings := rings,
        nextId := nextId, heldReads := heldReads, bulk := bulk, promo := promo, front := front, epochs := epochs, patchesOf := patchesOf,
        pipes := pipes, frames := frames, graph := graph, lanes := lanes, groups := groups, streams := streams, sgs := sgs, pss := pss,
        caps := caps, subst := subst, time := time, drv := drv, media := media, recorder := recorder, zst := zst, oldJobs := oldJobs,
        outfs := outfs, encs := encs, dec := dec, disp := disp, hbmc := hbmc, hlt := hlt, baro := baro, nv := nv, ofl := ofl, sky := sky,
        aud := aud, lsp := lsp, cpr := cpr, free := free } := by
  refine ⟨h.pending, fun hc0 => ?_, fun w => (e_host w).trans (h.host w), fun w => (e_ohost w).trans (h.ohost w), fun w => (e_hbm w).trans (h.hbm w), fun w => (e_undef w).trans (h.undef w), fun w => (e_mram w).trans (h.mram w), fun w => (e_lut w).trans (h.lut w), fun w => (e_media w).trans (h.media w)⟩
  have := h.canon hc0
  simp only [State.Canon, State.memOk, Bool.and_eq_true] at this ⊢
  obtain ⟨⟨⟨⟨⟨⟨⟨a, b⟩, c⟩, d⟩, e⟩, f⟩, g⟩, r⟩ := this
  exact ⟨⟨⟨⟨⟨⟨⟨hh a, ho b⟩, hb c⟩, hm d⟩, hl e⟩, hc f⟩, hd g⟩, hr r⟩

theorem kept_mk :
    Kept W s0
      { pending := s.pending, regs := s.regs, mirror := mirror, latch := latch, lowHalf := lowHalf, host := s.host, ohost := s.ohost,
        hbm := s.hbm, undef := s.undef, mram := s.mram, lut := s.lut, lutSet := lutSet, msixTable := msixTable, msixPba := msixPba,
        msixEnable := msixEnable, msixMask := msixMask, out := out, raised := raised, limited := limited, limitedAt := limitedAt,
        sfeFull := sfeFull, defStores := defStores, dests := dests, disarmed := disarmed, packets := packets, rings := rings,
        nextId := nextId, heldReads := heldReads, bulk := bulk, promo := promo, front := front, epochs := epochs, patchesOf := patchesOf,
        pipes := pipes, frames := frames, graph := graph, lanes := lanes, groups := groups, streams := streams, sgs := sgs, pss := pss,
        caps := caps, subst := subst, time := time, drv := drv, media := s.media, recorder := recorder, zst := zst, oldJobs := oldJobs,
        outfs := outfs, encs := encs, dec := dec, disp := disp, hbmc := hbmc, hlt := hlt, baro := baro, nv := nv, ofl := s.ofl,
        sky := sky, aud := aud, lsp := lsp, cpr := cpr, free := free } ↔ Kept W s0 s :=
  ⟨fun h => ⟨h.pending, fun c => h.canon c, h.host, h.ohost, h.hbm, h.undef, h.mram, h.lut, h.media⟩,
    fun h => ⟨h.pending, fun c => h.canon c, h.host, h.ohost, h.hbm, h.undef, h.mram, h.lut, h.media⟩⟩

theorem kept_mk_regs (h : Kept W s0 s)
    (h_regs : rising s.regs = true → rising regs = true) :
    Kept W s0
      { pending := s.pending, regs := regs, mirror := mirror, latch := latch, lowHalf := lowHalf, host := s.host, ohost := s.ohost,
        hbm := s.hbm, undef := s.undef, mram := s.mram, lut := s.lut, lutSet := lutSet, msixTable := msixTable, msixPba := msixPba,
        msixEnable := msixEnable, msixMask := msixMask, out := out, raised := raised, limited := limited, limitedAt := limitedAt,
        sfeFull := sfeFull, defStores := defStores, dests := dests, disarmed := disarmed, packets := packets, rings := rings,
        nextId := nextId, heldReads := heldReads, bulk := bulk, promo := promo, front := front, epochs := epochs, patchesOf := patchesOf,
        pipes := pipes, frames := frames, graph := graph, lanes := lanes, groups := groups, streams := streams, sgs := sgs, pss := pss,
        caps := caps, subst := subst, time := time, drv := drv, media := s.media, recorder := recorder, zst := zst, oldJobs := oldJobs,
        outfs := outfs, encs := encs, dec := dec, disp := disp, hbmc := hbmc, hlt := hlt, baro := baro, nv := nv, ofl := s.ofl,
        sky := sky, aud := aud, lsp := lsp, cpr := cpr, free := free } :=
  kept_core h h_regs (fun h => h) (fun h => h) (fun h => h) (fun h => h) (fun h => h) (fun h => h) (fun h => h)
    (fun _ => rfl) (fun _ => rfl) (fun _ => rfl) (fun _ => rfl) (fun _ => rfl) (fun _ => rfl) (fun _ => rfl)

theorem kept_mk_host (h : Kept W s0 s) (hw : W.host = true)
    (h_host : s.host.wf = true → host.wf = true) :
    Kept W s0
      { pending := s.pending, regs := s.regs, mirror := mirror, latch := latch, lowHalf := lowHalf, host := host, ohost := s.ohost,
        hbm := s.hbm, undef := s.undef, mram := s.mram, lut := s.lut, lutSet := lutSet, msixTable := msixTable, msixPba := msixPba,
        msixEnable := msixEnable, msixMask := msixMask, out := out, raised := raised, limited := limited, limitedAt := limitedAt,
        sfeFull := sfeFull, defStores := defStores, dests := dests, disarmed := disarmed, packets := packets, rings := rings,
        nextId := nextId, heldReads := heldReads, bulk := bulk, promo := promo, front := front, epochs := epochs, patchesOf := patchesOf,
        pipes := pipes, frames := frames, graph := graph, lanes := lanes, groups := groups, streams := streams, sgs := sgs, pss := pss,
        caps := caps, subst := subst, time := time, drv := drv, media := s.media, recorder := recorder, zst := zst, oldJobs := oldJobs,
        outfs := outfs, encs := encs, dec := dec, disp := disp, hbmc := hbmc, hlt := hlt, baro := baro, nv := nv, ofl := s.ofl,
        sky := sky, aud := aud, lsp := lsp, cpr := cpr, free := free } :=
  kept_core h (fun h => h) h_host (fun h => h) (fun h => h) (fun h => h) (fun h => h) (fun h => h) (fun h => h)
    (fun w => absurd (hw.symm.trans w) (by decide)) (fun _ => rfl) (fun _ => rfl) (fun _ => rfl) (fun _ => rfl) (fun _ => rfl)
    (fun _ => rfl)

theorem kept_mk_ohost (h : Kept W s0 s) (hw : W.ohost = true)
    (h_ohost : s.ohost.wf = true → ohost.wf = true) :
    Kept W s0
      { pending := s.pending, regs := s.regs, mirror := mirror, latch := latch, lowHalf := lowHalf, host := s.host, ohost := ohost,
        hbm := s.hbm, undef := s.undef, mram := s.mram, lut := s.lut, lutSet := lutSet, msixTable := msixTable, msixPba := msixPba,
        msixEnable := msixEnable, msixMask := msixMask, out := out, raised := raised, limited := limited, limitedAt := limitedAt,
        sfeFull := sfeFull, defStores := defStores, dests := dests, disarmed := disarmed, packets := packets, rings := rings,
        nextId := nextId, heldReads := heldReads, bulk := bulk, promo := promo, front := front, epochs := epochs, patchesOf := patchesOf,
        pipes := pipes, frames := frames, graph := graph, lanes := lanes, groups := groups, streams := streams, sgs := sgs, pss := pss,
        caps := caps, subst := subst, time := time, drv := drv, media := s.media, recorder := recorder, zst := zst, oldJobs := oldJobs,
        outfs := outfs, encs := encs, dec := dec, disp := disp, hbmc := hbmc, hlt := hlt, baro := baro, nv := nv, ofl := s.ofl,
        sky := sky, aud := aud, lsp := lsp, cpr := cpr, free := free } :=
  kept_core h (fun h => h) (fun h => h) h_ohost (fun h => h) (fun h => h) (fun h => h) (fun h => h) (fun h => h)
    (fun _ => rfl) (fun w => absurd (hw.symm.trans w) (by decide)) (fun _ => rfl) (fun _ => rfl) (fun _ => rfl) (fun _ => rfl)
    (fun _ => rfl)

theorem kept_mk_hbm (h : Kept W s0 s) (hw : W.hbm = true)
    (h_hbm : s.hbm.wf = true → hbm.wf = true) :
    Kept W s0
      { pending := s.pending, regs := s.regs, mirror := mirror, latch := latch, lowHalf := lowHalf, host := s.host, ohost := s.ohost,
        hbm := hbm, undef := undef, mram := s.mram, lut := s.lut, lutSet := lutSet, msixTable := msixTable, msixPba := msixPba,
        msixEnable := msixEnable, msixMask := msixMask, out := out, raised := raised, limited := limited, limitedAt := limitedAt,
        sfeFull := sfeFull, defStores := defStores, dests := dests, disarmed := disarmed, packets := packets, rings := rings,
        nextId := nextId, heldReads := heldReads, bulk := bulk, promo := promo, front := front, epochs := epochs, patchesOf := patchesOf,
        pipes := pipes, frames := frames, graph := graph, lanes := lanes, groups := groups, streams := streams, sgs := sgs, pss := pss,
        caps := caps, subst := subst, time := time, drv := drv, media := s.media, recorder := recorder, zst := zst, oldJobs := oldJobs,
        outfs := outfs, encs := encs, dec := dec, disp := disp, hbmc := hbmc, hlt := hlt, baro := baro, nv := nv, ofl := s.ofl,
        sky := sky, aud := aud, lsp := lsp, cpr := cpr, free := free } :=
  kept_core h (fun h => h) (fun h => h) (fun h => h) h_hbm (fun h => h) (fun h => h) (fun h => h) (fun h => h)
    (fun _ => rfl) (fun _ => rfl) (fun w => absurd (hw.symm.trans w) (by decide)) (fun w => absurd (hw.symm.trans w) (by decide))
    (fun _ => rfl) (fun _ => rfl) (fun _ => rfl)

theorem kept_mk_mram (h : Kept W s0 s) (hw : W.mram = true)
    (h_mram : s.mram.wf = true → mram.wf = true) :
    Kept W s0
      { pending := s.pending, regs := s.regs, mirror := mirror, latch := latch, lowHalf := lowHalf, host := s.host, ohost := s.ohost,
        hbm := s.hbm, undef := s.undef, mram := mram, lut := s.lut, lutSet := lutSet, msixTable := msixTable, msixPba := msixPba,
        msixEnable := msixEnable, msixMask := msixMask, out := out, raised := raised, limited := limited, limitedAt := limitedAt,
        sfeFull := sfeFull, defStores := defStores, dests := dests, disarmed := disarmed, packets := packets, rings := rings,
        nextId := nextId, heldReads := heldReads, bulk := bulk, promo := promo, front := front, epochs := epochs, patchesOf := patchesOf,
        pipes := pipes, frames := frames, graph := graph, lanes := lanes, groups := groups, streams := streams, sgs := sgs, pss := pss,
        caps := caps, subst := subst, time := time, drv := drv, media := s.media, recorder := recorder, zst := zst, oldJobs := oldJobs,
        outfs := outfs, encs := encs, dec := dec, disp := disp, hbmc := hbmc, hlt := hlt, baro := baro, nv := nv, ofl := s.ofl,
        sky := sky, aud := aud, lsp := lsp, cpr := cpr, free := free } :=
  kept_core h (fun h => h) (fun h => h) (fun h => h) (fun h => h) h_mram (fun h => h) (fun h => h) (fun h => h)
    (fun _ => rfl) (fun _ => rfl) (fun _ => rfl) (fun _ => rfl) (fun w => absurd (hw.symm.trans w) (by decide)) (fun _ => rfl)
    (fun _ => rfl)

theorem kept_mk_lut (h : Kept W s0 s) (hw : W.lut = true)
    (h_lut : s.lut.wf = true → lut.wf = true) :
    Kept W s0
      { pending := s.pending, regs := s.regs, mirror := mirror, latch := latch, lowHalf := lowHalf, host := s.host, ohost := s.ohost,
        hbm := s.hbm, undef := s.undef, mram := s.mram, lut := lut, lutSet := lutSet, msixTable := msixTable, msixPba := msixPba,
        msixEnable := msixEnable, msixMask := msixMask, out := out, raised := raised, limited := limited, limitedAt := limitedAt,
        sfeFull := sfeFull, defStores := defStores, dests := dests, disarmed := disarmed, packets := packets, rings := rings,
        nextId := nextId, heldReads := heldReads, bulk := bulk, promo := promo, front := front, epochs := epochs, patchesOf := patchesOf,
        pipes := pipes, frames := frames, graph := graph, lanes := lanes, groups := groups, streams := streams, sgs := sgs, pss := pss,
        caps := caps, subst := subst, time := time, drv := drv, media := s.media, recorder := recorder, zst := zst, oldJobs := oldJobs,
        outfs := outfs, encs := encs, dec := dec, disp := disp, hbmc := hbmc, hlt := hlt, baro := baro, nv := nv, ofl := s.ofl,
        sky := sky, aud := aud, lsp := lsp, cpr := cpr, free := free } :=
  kept_core h (fun h => h) (fun h => h) (fun h => h) (fun h => h) (fun h => h) h_lut (fun h => h) (fun h => h)
    (fun _ => rfl) (fun _ => rfl) (fun _ => rfl) (fun _ => rfl) (fun _ => rfl) (fun w => absurd (hw.symm.trans w) (by decide))
    (fun _ => rfl)

theorem kept_mk_ofl (h : Kept W s0 s)
    (h_ofl : s.ofl.cache.wf = true → ofl.cache.wf = true) :
    Kept W s0
      { pending := s.pending, regs := s.regs, mirror := mirror, latch := latch, lowHalf := lowHalf, host := s.host, ohost := s.ohost,
        hbm := s.hbm, undef := s.undef, mram := s.mram, lut := s.lut, lutSet := lutSet, msixTable := msixTable, msixPba := msixPba,
        msixEnable := msixEnable, msixMask := msixMask, out := out, raised := raised, limited := limited, limitedAt := limitedAt,
        sfeFull := sfeFull, defStores := defStores, dests := dests, disarmed := disarmed, packets := packets, rings := rings,
        nextId := nextId, heldReads := heldReads, bulk := bulk, promo := promo, front := front, epochs := epochs, patchesOf := patchesOf,
        pipes := pipes, frames := frames, graph := graph, lanes := lanes, groups := groups, streams := streams, sgs := sgs, pss := pss,
        caps := caps, subst := subst, time := time, drv := drv, media := s.media, recorder := recorder, zst := zst, oldJobs := oldJobs,
        outfs := outfs, encs := encs, dec := dec, disp := disp, hbmc := hbmc, hlt := hlt, baro := baro, nv := nv, ofl := ofl, sky := sky,
        aud := aud, lsp := lsp, cpr := cpr, free := free } :=
  kept_core h (fun h => h) (fun h => h) (fun h => h) (fun h => h) (fun h => h) (fun h => h) h_ofl (fun h => h)
    (fun _ => rfl) (fun _ => rfl) (fun _ => rfl) (fun _ => rfl) (fun _ => rfl) (fun _ => rfl) (fun _ => rfl)

theorem kept_mk_media (h : Kept W s0 s) (hw : W.media = true)
    (h_media : s.media.wf = true → media.wf = true) :
    Kept W s0
      { pending := s.pending, regs := s.regs, mirror := mirror, latch := latch, lowHalf := lowHalf, host := s.host, ohost := s.ohost,
        hbm := s.hbm, undef := s.undef, mram := s.mram, lut := s.lut, lutSet := lutSet, msixTable := msixTable, msixPba := msixPba,
        msixEnable := msixEnable, msixMask := msixMask, out := out, raised := raised, limited := limited, limitedAt := limitedAt,
        sfeFull := sfeFull, defStores := defStores, dests := dests, disarmed := disarmed, packets := packets, rings := rings,
        nextId := nextId, heldReads := heldReads, bulk := bulk, promo := promo, front := front, epochs := epochs, patchesOf := patchesOf,
        pipes := pipes, frames := frames, graph := graph, lanes := lanes, groups := groups, streams := streams, sgs := sgs, pss := pss,
        caps := caps, subst := subst, time := time, drv := drv, media := media, recorder := recorder, zst := zst, oldJobs := oldJobs,
        outfs := outfs, encs := encs, dec := dec, disp := disp, hbmc := hbmc, hlt := hlt, baro := baro, nv := nv, ofl := s.ofl,
        sky := sky, aud := aud, lsp := lsp, cpr := cpr, free := free } :=
  kept_core h (fun h => h) (fun h => h) (fun h => h) (fun h => h) (fun h => h) (fun h => h) (fun h => h) h_media
    (fun _ => rfl) (fun _ => rfl) (fun _ => rfl) (fun _ => rfl) (fun _ => rfl) (fun _ => rfl) (fun w => absurd (hw.symm.trans w)
    (by decide))

end

theorem mem_foldl_wf {α : Type} {f : Mem → α → Mem} {l : List α} {m : Mem} (hf : ∀ m x, Mem.wf m = true → Mem.wf (f m x) = true)
    (h : m.wf = true) : Mem.wf (l.foldl f m) = true := by
  induction l generalizing m with
  | nil => exact h
  | cons a t ih => exact ih (hf _ _ h)

theorem regs_foldl_rising {α : Type} {f : RegFile → α → RegFile} {l : List α} {m : RegFile}
    (hf : ∀ m x, rising m = true → rising (f m x) = true) (h : rising m = true) : rising (l.foldl f m) = true := by
  induction l generalizing m with
  | nil => exact h
  | cons a t ih => exact ih (hf _ _ h)

theorem keepOld_rising {o n : RegFile} {c : Combo} (h : rising n = true) : rising (keepOld o n c) = true := by
  unfold keepOld
  split
  · exact h
  · exact regs_foldl_rising (fun _ _ h => RegFile.put_rising h) h

theorem judgeSet_rising {g : Graph} {o n : RegFile} (h : rising n = true) : rising (judgeSet g o n) = true := by
  unfold judgeSet
  exact regs_foldl_rising (fun _ _ h => keepOld_rising h) h

theorem presetOne_rising {g : Graph} {f : RegFile} {w : Nat × Nat × Nat} (h : rising f = true) : rising (presetOne g f w) = true := by
  unfold presetOne
  repeat' (first | assumption | exact RegFile.wr_rising h | exact RegFile.put_rising h | split)

theorem kept_id {s0 s : State} (h : Kept W s0 s) : Kept W s0 (id s) := h

theorem kept_ite {s0 a b : State} {c : Prop} [Decidable c] (ha : c → Kept W s0 a) (hb : ¬c → Kept W s0 b)
    : Kept W s0 (if c then a else b) := by
  split
  · exact ha ‹_›
  · exact hb ‹_›

theorem keptR_ite {s0 : State} {a b : Res} {c : Prop} [Decidable c] (ha : c → KeptR W s0 a) (hb : ¬c → KeptR W s0 b) :
    KeptR W s0 (if c then a else b) := by
  split
  · exact ha ‹_›
  · exact hb ‹_›

theorem kept_fst_ite {α : Type} {s0 : State} {a b : State × α} {c : Prop} [Decidable c] (ha : c → Kept W s0 a.1) (hb : ¬c → Kept W s0 b.1) :
    Kept W s0 (if c then a else b).1 := by
  split
  · exact ha ‹_›
  · exact hb ‹_›

theorem kept_fst_foldl {α β : Type} {s0 : State} {f : State × α → β → State × α} {l : List β} {a : State × α}
    (hf : ∀ t x, Kept W s0 t.1 → Kept W s0 (f t x).1) (h : Kept W s0 a.1) : Kept W s0 (l.foldl f a).1 := by
  induction l generalizing a with
  | nil => exact h
  | cons x t ih => exact ih (hf _ _ h)

theorem Mem.nil_wf : Mem.wf [] = true := rfl

theorem kept_pair {α : Type} {s0 a : State} {b : α} (h : Kept W s0 a) : Kept W s0 (a, b).1 := h

end Sys2Proof.Machine
end

