-- ==== Sys2Proof/Laws/Kept1.lean ====
section
/-! SUPPORT. What each helper and each meaning keeps, part 1: one lemma per function, named after it. -/

namespace Sys2Proof.Machine

variable {W : Writes}

theorem kept_put {s0 : State} {s : State} {d : Sys2Proof.Machine.Fld} {ix : List Nat} {v : Nat} (h0 : Kept W s0 s)
    : Kept W s0 (State.put s d ix v) := by
  unfold State.put
  try dsimp only
  with_reducible
    repeat' first
      | assumption | refine kept_ite (fun _ => ?_) (fun _ => ?_) | refine keptR_ite (fun _ => ?_) (fun _ => ?_)
      | refine kept_fst_ite (fun _ => ?_) (fun _ => ?_) | refine kept_id ?_ | simp only [kept_mk] | refine kept_foldl (fun _ _ _ => ?_) ?_
      | refine kept_fst_foldl (fun _ _ _ => ?_) ?_ | refine keptR_next ?_ | exact keptR_fault | exact keptR_refused | refine keptO_some ?_
      | exact keptO_none | exact fun h => h | exact fun h => Mem.write_wf h | exact fun h => Mem.zero_wf h | exact fun h => Mem.set_wf h
      | exact fun h => Mem.filter_wf h | exact fun h => rising_filter h | exact fun h => RegFile.wr_rising h
      | exact fun h => RegFile.put_rising h | exact fun h => judgeSet_rising h | exact fun _ => rfl | exact fun _ => Mem.nil_wf | split
      | refine kept_mk_regs ?_ ?_

theorem kept_onUnit {s0 : State} {s : State} {b : Sys2Proof.Machine.Blk} {f : State → Sys2Proof.Machine.State}
    (h0 : Kept W s0 s) (h2 : ∀ a0, Kept W s0 a0 → Kept W s0 (f a0)) : Kept W s0 (State.onUnit s b f) := by
  unfold State.onUnit
  try dsimp only
  with_reducible
    repeat' first
      | assumption | apply h2 | refine kept_put ?_ | refine kept_ite (fun _ => ?_) (fun _ => ?_)

theorem kept_writeFields {s0 : State} {s : State} {row : Sys2Proof.Machine.RegRow} {ix : List Nat} {v : Nat} (h0 : Kept W s0 s)
    : Kept W s0 (State.writeFields s row ix v) := by
  unfold State.writeFields
  try dsimp only
  with_reducible
    repeat' first
      | assumption | refine kept_put ?_ | refine kept_foldl (fun _ _ _ => ?_) ?_ | split

theorem kept_emit {s0 : State} {s : State} {o : Sys2Proof.Machine.Out} (h0 : Kept W s0 s) : Kept W s0 (State.emit s o) := by
  unfold State.emit
  try dsimp only
  with_reducible
    repeat' first
      | assumption | simp only [kept_mk]

theorem kept_ethSend {s0 : State} {s : State} {p : Nat} {b : Sys2Proof.Bytes} (h0 : Kept W s0 s) : Kept W s0 (State.ethSend s p b) := by
  unfold State.ethSend
  try dsimp only
  with_reducible
    repeat' first
      | assumption | refine kept_emit ?_ | refine kept_ite (fun _ => ?_) (fun _ => ?_)

theorem kept_evLimited {s0 : State} {s : State} {typ : Nat} {src : Nat} {inst : Nat} {epoch : Nat} {fid : Nat} {payload : Nat} (h0 : Kept W s0 s)
    : Kept W s0 (State.evLimited s typ src inst epoch fid payload) := by
  unfold State.evLimited
  try dsimp only
  with_reducible
    repeat' first
      | assumption | simp only [kept_mk]

theorem kept_inc {s0 : State} {s : State} {d : Sys2Proof.Machine.Fld} {ix : optParam (List Nat) []} {by_ : optParam Nat 1} (h0 : Kept W s0 s)
    : Kept W s0 (State.inc s d ix by_) := by
  unfold State.inc
  try dsimp only
  with_reducible
    repeat' first
      | assumption | refine kept_put ?_

theorem kept_wr {s0 : State} {s : State} {r : Sys2Proof.Machine.Reg} {ix : List Nat} {v : Nat} (h0 : Kept W s0 s)
    : Kept W s0 (State.wr s r ix v) := by
  unfold State.wr
  try dsimp only
  with_reducible
    repeat' first
      | assumption | refine kept_ite (fun _ => ?_) (fun _ => ?_) | refine keptR_ite (fun _ => ?_) (fun _ => ?_)
      | refine kept_fst_ite (fun _ => ?_) (fun _ => ?_) | refine kept_id ?_ | simp only [kept_mk] | refine kept_foldl (fun _ _ _ => ?_) ?_
      | refine kept_fst_foldl (fun _ _ _ => ?_) ?_ | refine keptR_next ?_ | exact keptR_fault | exact keptR_refused | refine keptO_some ?_
      | exact keptO_none | exact fun h => h | exact fun h => Mem.write_wf h | exact fun h => Mem.zero_wf h | exact fun h => Mem.set_wf h
      | exact fun h => Mem.filter_wf h | exact fun h => rising_filter h | exact fun h => RegFile.wr_rising h
      | exact fun h => RegFile.put_rising h | exact fun h => judgeSet_rising h | exact fun _ => rfl | exact fun _ => Mem.nil_wf | split
      | refine kept_mk_regs ?_ ?_

theorem kept_wr64 {s0 : State} {s : State} {lo : Sys2Proof.Machine.Reg} {hi : Sys2Proof.Machine.Reg} {ix : List Nat} {v : Nat}
    (h0 : Kept W s0 s) : Kept W s0 (State.wr64 s lo hi ix v) := by
  unfold State.wr64
  try dsimp only
  with_reducible
    repeat' first
      | assumption | refine kept_wr ?_

theorem kept_txqShow {s0 : State} {s : State} {p : Nat} (h0 : Kept W s0 s) : Kept W s0 (State.txqShow s p) := by
  unfold State.txqShow
  try dsimp only
  with_reducible
    repeat' first
      | assumption | refine kept_put ?_ | refine kept_wr ?_ | refine kept_wr64 ?_

theorem kept_modTime {s0 : State} {s : State} {f : Sys2Proof.Machine.TimeSt → Sys2Proof.Machine.TimeSt} (h0 : Kept W s0 s)
    : Kept W s0 (State.modTime s f) := by
  unfold State.modTime
  try dsimp only
  with_reducible
    repeat' first
      | assumption | simp only [kept_mk]

theorem kept_txqPush {s0 : State} {s : State} {p : Nat} {e : Nat × Nat × Nat} (h0 : Kept W s0 s) : Kept W s0 (State.txqPush s p e) := by
  unfold State.txqPush
  try dsimp only
  with_reducible
    repeat' first
      | assumption | refine kept_evLimited ?_ | refine kept_inc ?_ | refine kept_put ?_ | refine kept_txqShow ?_ | refine kept_modTime ?_
      | refine kept_ite (fun _ => ?_) (fun _ => ?_)

theorem kept_ptpSend {s0 : State} {s : State} {p : Nat} (h0 : Kept W s0 s) : Kept W s0 (State.ptpSend s p) := by
  unfold State.ptpSend
  try dsimp only
  with_reducible
    repeat' first
      | assumption | refine kept_ethSend ?_ | refine kept_txqPush ?_ | refine kept_foldl (fun _ _ _ => ?_) ?_ | split

theorem kept_ptpTx {s0 : State} {s : State} {p : Nat} {v : Nat} (h0 : Kept W s0 s) : Kept W s0 (State.ptpTx s p v) := by
  unfold State.ptpTx
  try dsimp only
  with_reducible
    repeat' first
      | assumption | refine kept_writeFields ?_ | refine kept_ptpSend ?_ | refine kept_ite (fun _ => ?_) (fun _ => ?_)

theorem kept_execPtpTransmit {s0 : State} {p : Nat} {v : Nat} {s : State} (h2 : Kept W s0 s) : KeptR W s0 (execPtpTransmit p v s) := by
  unfold execPtpTransmit
  try dsimp only
  with_reducible
    repeat' first
      | assumption | refine kept_onUnit ?_ (fun _ _ => ?_) | refine kept_ptpTx ?_ | refine keptR_next ?_
      | refine keptR_ite (fun _ => ?_) (fun _ => ?_) | refine kept_ite (fun _ => ?_) (fun _ => ?_)

theorem kept_modRec {s0 : State} {s : State} {f : Sys2Proof.Machine.RecSt → Sys2Proof.Machine.RecSt} (h0 : Kept W s0 s)
    : Kept W s0 (State.modRec s f) := by
  unfold State.modRec
  try dsimp only
  with_reducible
    repeat' first
      | assumption | simp only [kept_mk]

theorem kept_modTake {s0 : State} {s : State} {n : Nat} {f : Sys2Proof.Machine.LiveTake → Sys2Proof.Machine.LiveTake} (h0 : Kept W s0 s)
    : Kept W s0 (State.modTake s n f) := by
  unfold State.modTake
  try dsimp only
  with_reducible
    repeat' first
      | assumption | refine kept_modRec ?_

theorem kept_bufFree {s0 : State} {s : State} {p : Nat} {fid : Nat} (h0 : Kept W s0 s) : Kept W s0 (State.bufFree s p fid) := by
  unfold State.bufFree
  try dsimp only
  with_reducible
    repeat' first
      | assumption | refine kept_modRec ?_

theorem kept_raise {s0 : State} {s : State} {r : Sys2Proof.Machine.Rec} (h0 : Kept W s0 s) : Kept W s0 (State.raise s r) := by
  unfold State.raise
  try dsimp only
  with_reducible
    repeat' first
      | assumption | simp only [kept_mk]

theorem kept_evFrame {s0 : State} {s : State} {typ : Nat} {src : Nat} {inst : Nat} {epoch : Nat} {fid : Nat} {payload : Nat} (h0 : Kept W s0 s)
    : Kept W s0 (State.evFrame s typ src inst epoch fid payload) := by
  unfold State.evFrame
  try dsimp only
  with_reducible
    repeat' first
      | assumption | refine kept_raise ?_

theorem kept_modVol {s0 : State} {s : State} {f : Sys2Proof.Machine.Volume → Sys2Proof.Machine.Volume} (h0 : Kept W s0 s)
    : Kept W s0 (State.modVol s f) := by
  unfold State.modVol
  try dsimp only
  with_reducible
    repeat' first
      | assumption | refine kept_modRec ?_

theorem kept_modEntry {s0 : State} {s : State} {num : Nat} {f : Sys2Proof.Machine.Take → Sys2Proof.Machine.Take} (h0 : Kept W s0 s)
    : Kept W s0 (State.modEntry s num f) := by
  unfold State.modEntry
  try dsimp only
  with_reducible
    repeat' first
      | assumption | refine kept_modVol ?_

theorem kept_addLost {s0 : State} {s : State} {n : Nat} {p : Nat} {fid : Nat} {cause : Nat} {time : Nat} {epoch : Nat} (h0 : Kept W s0 s)
    : Kept W s0 (State.addLost s n p fid cause time epoch) := by
  unfold State.addLost
  try dsimp only
  with_reducible
    repeat' first
      | assumption | refine kept_modEntry ?_ | refine kept_modRec ?_

theorem kept_recLost {s0 : State} {s : State} {n : Nat} {p : Nat} {fid : Nat} {cause : Nat} {time : Nat} {epoch : Nat} (h0 : Kept W s0 s)
    : Kept W s0 (State.recLost s n p fid cause time epoch) := by
  unfold State.recLost
  try dsimp only
  with_reducible
    repeat' first
      | assumption | refine kept_evFrame ?_ | refine kept_inc ?_ | refine kept_addLost ?_

theorem kept_loseRow {s0 : State} {s : State} {n : Nat} {row : Nat} (h0 : Kept W s0 s) : Kept W s0 (State.loseRow s n row) := by
  unfold State.loseRow
  try dsimp only
  with_reducible
    repeat' first
      | assumption | refine kept_modTake ?_ | refine kept_bufFree ?_ | refine kept_recLost ?_ | refine kept_foldl (fun _ _ _ => ?_) ?_
      | split

theorem kept_fabricOff {s0 : State} {s : State} (h0 : Kept W s0 s) : Kept W s0 (State.fabricOff s) := by
  unfold State.fabricOff
  try dsimp only
  with_reducible
    repeat' first
      | assumption | simp only [kept_mk]

theorem kept_unitOff {s0 : State} {s : State} {d : Nat} (h0 : Kept W s0 s) : Kept W s0 (State.unitOff s d) := by
  unfold State.unitOff
  try dsimp only
  repeat' first
    | with_reducible assumption | with_reducible refine kept_fabricOff ?_ | with_reducible refine kept_ite (fun _ => ?_) (fun _ => ?_)
    | with_reducible refine keptR_ite (fun _ => ?_) (fun _ => ?_) | with_reducible refine kept_fst_ite (fun _ => ?_) (fun _ => ?_)
    | with_reducible refine kept_id ?_ | simp only [kept_mk] | with_reducible refine kept_foldl (fun _ _ _ => ?_) ?_
    | with_reducible refine kept_fst_foldl (fun _ _ _ => ?_) ?_ | with_reducible refine keptR_next ?_ | with_reducible exact keptR_fault
    | with_reducible exact keptR_refused | with_reducible refine keptO_some ?_ | with_reducible exact keptO_none
    | with_reducible exact fun h => h | with_reducible exact fun h => Mem.write_wf h | with_reducible exact fun h => Mem.zero_wf h
    | with_reducible exact fun h => Mem.set_wf h | with_reducible exact fun h => Mem.filter_wf h
    | with_reducible exact fun h => rising_filter h | with_reducible exact fun h => RegFile.wr_rising h
    | with_reducible exact fun h => RegFile.put_rising h | with_reducible exact fun h => judgeSet_rising h
    | with_reducible exact fun _ => rfl | exact fun _ => Mem.nil_wf | split | with_reducible refine kept_mk_regs ?_ ?_
    | with_reducible refine kept_mk_host ?_ ?_ ?_ | with_reducible refine kept_mk_ohost ?_ ?_ ?_
    | with_reducible refine kept_mk_hbm ?_ ?_ ?_ | with_reducible refine kept_mk_mram ?_ ?_ ?_
    | with_reducible refine kept_mk_lut ?_ ?_ ?_ | with_reducible refine kept_mk_ofl ?_ ?_

theorem kept_regsOff {s0 : State} {s : State} {d : Nat} (h0 : Kept W s0 s) : Kept W s0 (State.regsOff s d) := by
  unfold State.regsOff
  try dsimp only
  with_reducible
    repeat' first
      | assumption | refine kept_ite (fun _ => ?_) (fun _ => ?_) | refine keptR_ite (fun _ => ?_) (fun _ => ?_)
      | refine kept_fst_ite (fun _ => ?_) (fun _ => ?_) | refine kept_id ?_ | simp only [kept_mk] | refine kept_foldl (fun _ _ _ => ?_) ?_
      | refine kept_fst_foldl (fun _ _ _ => ?_) ?_ | refine keptR_next ?_ | exact keptR_fault | exact keptR_refused | refine keptO_some ?_
      | exact keptO_none | exact fun h => h | exact fun h => Mem.write_wf h | exact fun h => Mem.zero_wf h | exact fun h => Mem.set_wf h
      | exact fun h => Mem.filter_wf h | exact fun h => rising_filter h | exact fun h => RegFile.wr_rising h
      | exact fun h => RegFile.put_rising h | exact fun h => judgeSet_rising h | exact fun _ => rfl | exact fun _ => Mem.nil_wf | split
      | refine kept_mk_regs ?_ ?_

theorem kept_xwShow {s0 : State} {s : State} (h0 : Kept W s0 s) : Kept W s0 (State.xwShow s) := by
  unfold State.xwShow
  try dsimp only
  with_reducible
    repeat' first
      | assumption | refine kept_put ?_

theorem kept_nvShow {s0 : State} {s : State} (h0 : Kept W s0 s) : Kept W s0 (State.nvShow s) := by
  unfold State.nvShow
  try dsimp only
  with_reducible
    repeat' first
      | assumption | refine kept_put ?_

theorem kept_setLane {s0 : State} {s : State} {l : Nat} {v : Nat} (h0 : Kept W s0 s) : Kept W s0 (State.setLane s l v) := by
  unfold State.setLane
  try dsimp only
  with_reducible
    repeat' first
      | assumption | refine kept_put ?_

theorem kept_modLane {s0 : State} {s : State} {l : Nat} {f : Sys2Proof.Machine.Lane → Sys2Proof.Machine.Lane} (h0 : Kept W s0 s)
    : Kept W s0 (State.modLane s l f) := by
  unfold State.modLane
  try dsimp only
  with_reducible
    repeat' first
      | assumption | simp only [kept_mk]

theorem kept_lanesSync {s0 : State} {s : State} (h0 : Kept W s0 s) : Kept W s0 (State.lanesSync s) := by
  unfold State.lanesSync
  try dsimp only
  with_reducible
    repeat' first
      | assumption | refine kept_put ?_ | refine kept_setLane ?_ | refine kept_modLane ?_ | refine kept_foldl (fun _ _ _ => ?_) ?_ | split

theorem kept_oflShow {s0 : State} {s : State} (h0 : Kept W s0 s) : Kept W s0 (State.oflShow s) := by
  unfold State.oflShow
  try dsimp only
  with_reducible
    repeat' first
      | assumption | refine kept_put ?_

theorem kept_fwShow {s0 : State} {s : State} (h0 : Kept W s0 s) : Kept W s0 (State.fwShow s) := by
  unfold State.fwShow
  try dsimp only
  with_reducible
    repeat' first
      | assumption | refine kept_put ?_

theorem kept_modOfl {s0 : State} {s : State} {f : OflSt → OflSt} (h : Kept W s0 s)
    (hc : ∀ o : OflSt, o.cache.wf = true → (f o).cache.wf = true) :
    Kept W s0 (State.modOfl s f) := by
  unfold State.modOfl
  exact kept_mk_ofl h (hc _)

theorem kept_ev {s0 : State} {s : State} {typ : Nat} {src : Nat} {inst : Nat} {payload : Nat} (h0 : Kept W s0 s)
    : Kept W s0 (State.ev s typ src inst payload) := by
  unfold State.ev
  try dsimp only
  with_reducible
    repeat' first
      | assumption | refine kept_raise ?_

theorem kept_testEnd {s0 : State} {s : State} {result : Nat} (h0 : Kept W s0 s) : Kept W s0 (State.testEnd s result) := by
  unfold State.testEnd
  try dsimp only
  with_reducible
    repeat' first
      | assumption | refine kept_modOfl ?_ (fun _ => ?_) | refine kept_put ?_ | refine kept_ev ?_
      | refine kept_ite (fun _ => ?_) (fun _ => ?_) | refine keptR_ite (fun _ => ?_) (fun _ => ?_)
      | refine kept_fst_ite (fun _ => ?_) (fun _ => ?_) | refine kept_id ?_ | simp only [kept_mk] | refine kept_foldl (fun _ _ _ => ?_) ?_
      | refine kept_fst_foldl (fun _ _ _ => ?_) ?_ | refine keptR_next ?_ | exact keptR_fault | exact keptR_refused | refine keptO_some ?_
      | exact keptO_none | exact fun h => h | exact fun h => Mem.write_wf h | exact fun h => Mem.zero_wf h | exact fun h => Mem.set_wf h
      | exact fun h => Mem.filter_wf h | exact fun h => rising_filter h | exact fun h => RegFile.wr_rising h
      | exact fun h => RegFile.put_rising h | exact fun h => judgeSet_rising h | exact fun _ => rfl | exact fun _ => Mem.nil_wf | split

theorem kept_ohostWrite {s0 : State} {s : State} {a : Nat} {b : Sys2Proof.Bytes} (h0 : Kept W s0 s) (w_ohost : W.ohost = true)
    : Kept W s0 (State.ohostWrite s a b) := by
  unfold State.ohostWrite
  try dsimp only
  with_reducible
    repeat' first
      | assumption | refine kept_ite (fun _ => ?_) (fun _ => ?_) | refine keptR_ite (fun _ => ?_) (fun _ => ?_)
      | refine kept_fst_ite (fun _ => ?_) (fun _ => ?_) | refine kept_id ?_ | simp only [kept_mk] | refine kept_foldl (fun _ _ _ => ?_) ?_
      | refine kept_fst_foldl (fun _ _ _ => ?_) ?_ | refine keptR_next ?_ | exact keptR_fault | exact keptR_refused | refine keptO_some ?_
      | exact keptO_none | exact fun h => h | exact fun h => Mem.write_wf h | exact fun h => Mem.zero_wf h | exact fun h => Mem.set_wf h
      | exact fun h => Mem.filter_wf h | exact fun h => rising_filter h | exact fun h => RegFile.wr_rising h
      | exact fun h => RegFile.put_rising h | exact fun h => judgeSet_rising h | exact fun _ => rfl | exact fun _ => Mem.nil_wf | split
      | refine kept_mk_regs ?_ ?_ | refine kept_mk_host ?_ ?_ ?_ | refine kept_mk_ohost ?_ ?_ ?_

theorem kept_oflSignal {s0 : State} {s : State} {v : Nat} (h0 : Kept W s0 s) : Kept W s0 (State.oflSignal s v) := by
  unfold State.oflSignal
  try dsimp only
  with_reducible
    repeat' first
      | assumption | refine kept_modOfl ?_ (fun _ => ?_) | refine kept_emit ?_ | refine kept_ite (fun _ => ?_) (fun _ => ?_)
      | refine keptR_ite (fun _ => ?_) (fun _ => ?_) | refine kept_fst_ite (fun _ => ?_) (fun _ => ?_) | refine kept_id ?_
      | simp only [kept_mk] | refine kept_foldl (fun _ _ _ => ?_) ?_ | refine kept_fst_foldl (fun _ _ _ => ?_) ?_ | refine keptR_next ?_
      | exact keptR_fault | exact keptR_refused | refine keptO_some ?_ | exact keptO_none | exact fun h => h

theorem kept_oflPost {s0 : State} {s : State} {e : Nat × Nat × Nat × Nat} (h0 : Kept W s0 s) (w_ohost : W.ohost = true)
    : Kept W s0 (State.oflPost s e).1 := by
  unfold State.oflPost
  try dsimp only
  with_reducible
    repeat' first
      | assumption | refine kept_ohostWrite ?_ ?_ | refine kept_modOfl ?_ (fun _ => ?_) | refine kept_oflSignal ?_
      | refine kept_ite (fun _ => ?_) (fun _ => ?_) | refine keptR_ite (fun _ => ?_) (fun _ => ?_)
      | refine kept_fst_ite (fun _ => ?_) (fun _ => ?_) | refine kept_id ?_ | simp only [kept_mk] | refine kept_foldl (fun _ _ _ => ?_) ?_
      | refine kept_fst_foldl (fun _ _ _ => ?_) ?_ | refine keptR_next ?_ | exact keptR_fault | exact keptR_refused | refine keptO_some ?_
      | exact keptO_none | exact fun h => h | exact fun h => Mem.write_wf h | exact fun h => Mem.zero_wf h | exact fun h => Mem.set_wf h
      | exact fun h => Mem.filter_wf h | exact fun h => rising_filter h | exact fun h => RegFile.wr_rising h
      | exact fun h => RegFile.put_rising h | exact fun h => judgeSet_rising h | exact fun _ => rfl | exact fun _ => Mem.nil_wf | split

theorem kept_oflPostAll {s0 : State} {s : State} (h0 : Kept W s0 s) (w_ohost : W.ohost = true) : Kept W s0 (State.oflPostAll s) := by
  unfold State.oflPostAll
  try dsimp only
  with_reducible
    repeat' first
      | assumption | refine kept_modOfl ?_ (fun _ => ?_) | refine kept_oflPost ?_ ?_ | refine kept_ite (fun _ => ?_) (fun _ => ?_)
      | refine keptR_ite (fun _ => ?_) (fun _ => ?_) | refine kept_fst_ite (fun _ => ?_) (fun _ => ?_) | refine kept_id ?_
      | simp only [kept_mk] | refine kept_foldl (fun _ _ _ => ?_) ?_ | refine kept_fst_foldl (fun _ _ _ => ?_) ?_ | refine keptR_next ?_
      | exact keptR_fault | exact keptR_refused | refine keptO_some ?_ | exact keptO_none | exact fun h => h

theorem kept_oflComplete {s0 : State} {s : State} {id : Nat} {dw0 : Nat} {status : Nat} (h0 : Kept W s0 s) (w_ohost : W.ohost = true)
    : Kept W s0 (State.oflComplete s id dw0 status) := by
  unfold State.oflComplete
  try dsimp only
  with_reducible
    repeat' first
      | assumption | refine kept_modOfl ?_ (fun _ => ?_) | refine kept_inc ?_ | refine kept_oflShow ?_ | refine kept_oflPostAll ?_ ?_
      | refine kept_ite (fun _ => ?_) (fun _ => ?_) | refine keptR_ite (fun _ => ?_) (fun _ => ?_)
      | refine kept_fst_ite (fun _ => ?_) (fun _ => ?_) | refine kept_id ?_ | simp only [kept_mk] | refine kept_foldl (fun _ _ _ => ?_) ?_
      | refine kept_fst_foldl (fun _ _ _ => ?_) ?_ | refine keptR_next ?_ | exact keptR_fault | exact keptR_refused | refine keptO_some ?_
      | exact keptO_none | exact fun h => h | exact fun h => Mem.write_wf h | exact fun h => Mem.zero_wf h | exact fun h => Mem.set_wf h
      | exact fun h => Mem.filter_wf h | exact fun h => rising_filter h | exact fun h => RegFile.wr_rising h
      | exact fun h => RegFile.put_rising h | exact fun h => judgeSet_rising h | exact fun _ => rfl | exact fun _ => Mem.nil_wf | split

theorem kept_oflEvents {s0 : State} {s : State} {x1 : Nat} (h0 : Kept W s0 s) (w_ohost : W.ohost = true) : Kept W s0 (State.oflEvents s x1)
    := by
  induction x1 generalizing s with
  | zero =>
    unfold State.oflEvents
    try dsimp only
    repeat' first
      | with_reducible assumption
  | succ n ih =>
    unfold State.oflEvents
    try dsimp only
    repeat' first
      | with_reducible assumption | with_reducible apply ih | with_reducible refine kept_oflComplete ?_ ?_
      | with_reducible refine kept_modOfl ?_ (fun _ => ?_) | with_reducible refine kept_ite (fun _ => ?_) (fun _ => ?_)
      | with_reducible refine keptR_ite (fun _ => ?_) (fun _ => ?_) | with_reducible refine kept_fst_ite (fun _ => ?_) (fun _ => ?_)
      | with_reducible refine kept_id ?_ | simp only [kept_mk] | with_reducible refine kept_foldl (fun _ _ _ => ?_) ?_
      | with_reducible refine kept_fst_foldl (fun _ _ _ => ?_) ?_ | with_reducible refine keptR_next ?_ | with_reducible exact keptR_fault
      | with_reducible exact keptR_refused | with_reducible refine keptO_some ?_ | with_reducible exact keptO_none
      | with_reducible exact fun h => h | with_reducible exact fun h => Mem.write_wf h | with_reducible exact fun h => Mem.zero_wf h
      | with_reducible exact fun h => Mem.set_wf h | with_reducible exact fun h => Mem.filter_wf h
      | with_reducible exact fun h => rising_filter h | with_reducible exact fun h => RegFile.wr_rising h
      | with_reducible exact fun h => RegFile.put_rising h | with_reducible exact fun h => judgeSet_rising h
      | with_reducible exact fun _ => rfl | exact fun _ => Mem.nil_wf | split

theorem kept_oflEvent {s0 : State} {s : State} {typ : Nat} {info : Nat} {page : Nat} (h0 : Kept W s0 s) (w_ohost : W.ohost = true)
    : Kept W s0 (State.oflEvent s typ info page) := by
  unfold State.oflEvent
  try dsimp only
  with_reducible
    repeat' first
      | assumption | refine kept_oflEvents ?_ ?_ | refine kept_modOfl ?_ (fun _ => ?_) | refine kept_ite (fun _ => ?_) (fun _ => ?_)
      | refine keptR_ite (fun _ => ?_) (fun _ => ?_) | refine kept_fst_ite (fun _ => ?_) (fun _ => ?_) | refine kept_id ?_
      | simp only [kept_mk] | refine kept_foldl (fun _ _ _ => ?_) ?_ | refine kept_fst_foldl (fun _ _ _ => ?_) ?_ | refine keptR_next ?_
      | exact keptR_fault | exact keptR_refused | refine keptO_some ?_ | exact keptO_none | exact fun h => h

theorem kept_nsSync {s0 : State} {s : State} (h0 : Kept W s0 s) (w_ohost : W.ohost = true) : Kept W s0 (State.nsSync s) := by
  unfold State.nsSync
  try dsimp only
  with_reducible
    repeat' first
      | assumption | refine kept_put ?_ | refine kept_modOfl ?_ (fun _ => ?_) | refine kept_testEnd ?_ | refine kept_oflEvent ?_ ?_
      | refine kept_ite (fun _ => ?_) (fun _ => ?_) | refine keptR_ite (fun _ => ?_) (fun _ => ?_)
      | refine kept_fst_ite (fun _ => ?_) (fun _ => ?_) | refine kept_id ?_ | simp only [kept_mk] | refine kept_foldl (fun _ _ _ => ?_) ?_
      | refine kept_fst_foldl (fun _ _ _ => ?_) ?_ | refine keptR_next ?_ | exact keptR_fault | exact keptR_refused | refine keptO_some ?_
      | exact keptO_none | exact fun h => h

theorem kept_recShow {s0 : State} {s : State} (h0 : Kept W s0 s) (w_ohost : W.ohost = true) : Kept W s0 (State.recShow s) := by
  unfold State.recShow
  try dsimp only
  with_reducible
    repeat' first
      | assumption | refine kept_put ?_ | refine kept_wr ?_ | refine kept_wr64 ?_ | refine kept_nsSync ?_ ?_

theorem kept_bbShow {s0 : State} {s : State} (h0 : Kept W s0 s) : Kept W s0 (State.bbShow s) := by
  unfold State.bbShow
  try dsimp only
  with_reducible
    repeat' first
      | assumption | refine kept_put ?_

theorem kept_unitShow {s0 : State} {s : State} {d : Nat} (h0 : Kept W s0 s) (w_ohost : W.ohost = true) : Kept W s0 (State.unitShow s d) := by
  unfold State.unitShow
  try dsimp only
  with_reducible
    repeat' first
      | assumption | refine kept_xwShow ?_ | refine kept_wr ?_ | refine kept_nvShow ?_ | refine kept_lanesSync ?_ | refine kept_oflShow ?_
      | refine kept_fwShow ?_ | refine kept_recShow ?_ ?_ | refine kept_bbShow ?_ | refine kept_foldl (fun _ _ _ => ?_) ?_ | split

theorem kept_domainSet {s0 : State} {s : State} {d : Nat} {on : Bool} (h0 : Kept W s0 s) (w_ohost : W.ohost = true)
    : Kept W s0 (State.domainSet s d on) := by
  unfold State.domainSet
  try dsimp only
  with_reducible
    repeat' first
      | assumption | refine kept_unitOff ?_ | refine kept_regsOff ?_ | refine kept_wr64 ?_ | refine kept_wr ?_
      | refine kept_unitShow ?_ ?_ | refine kept_put ?_ | refine kept_ite (fun _ => ?_) (fun _ => ?_)

theorem kept_fresh {s0 : State} {s : State} (h0 : Kept W s0 s) : Kept W s0 (State.fresh s).2 := by
  unfold State.fresh
  try dsimp only
  with_reducible
    repeat' first
      | assumption | simp only [kept_mk]

theorem kept_clkShow {s0 : State} {s : State} (h0 : Kept W s0 s) : Kept W s0 (State.clkShow s) := by
  unfold State.clkShow
  try dsimp only
  with_reducible
    repeat' first
      | assumption | refine kept_wr ?_ | refine kept_fresh ?_ | refine kept_foldl (fun _ _ _ => ?_) ?_ | split

theorem kept_mramWrite {s0 : State} {s : State} {a : Nat} {b : Sys2Proof.Bytes} (h0 : Kept W s0 s) (w_mram : W.mram = true)
    : Kept W s0 (State.mramWrite s a b) := by
  unfold State.mramWrite
  try dsimp only
  with_reducible
    repeat' first
      | assumption | refine kept_ite (fun _ => ?_) (fun _ => ?_) | refine keptR_ite (fun _ => ?_) (fun _ => ?_)
      | refine kept_fst_ite (fun _ => ?_) (fun _ => ?_) | refine kept_id ?_ | simp only [kept_mk] | refine kept_foldl (fun _ _ _ => ?_) ?_
      | refine kept_fst_foldl (fun _ _ _ => ?_) ?_ | refine keptR_next ?_ | exact keptR_fault | exact keptR_refused | refine keptO_some ?_
      | exact keptO_none | exact fun h => h | exact fun h => Mem.write_wf h | exact fun h => Mem.zero_wf h | exact fun h => Mem.set_wf h
      | exact fun h => Mem.filter_wf h | exact fun h => rising_filter h | exact fun h => RegFile.wr_rising h
      | exact fun h => RegFile.put_rising h | exact fun h => judgeSet_rising h | exact fun _ => rfl | exact fun _ => Mem.nil_wf | split
      | refine kept_mk_regs ?_ ?_ | refine kept_mk_host ?_ ?_ ?_ | refine kept_mk_ohost ?_ ?_ ?_ | refine kept_mk_hbm ?_ ?_ ?_
      | refine kept_mk_mram ?_ ?_ ?_

theorem kept_bbHeader {s0 : State} {s : State} {h_ : Nat} {b : Sys2Proof.Bytes} (h0 : Kept W s0 s) (w_mram : W.mram = true)
    : Kept W s0 (State.bbHeader s h_ b) := by
  unfold State.bbHeader
  try dsimp only
  with_reducible
    repeat' first
      | assumption | refine kept_mramWrite ?_ ?_

theorem kept_bbDawn {s0 : State} {s : State} (h0 : Kept W s0 s) (w_mram : W.mram = true) : Kept W s0 (State.bbDawn s) := by
  unfold State.bbDawn
  try dsimp only
  with_reducible
    repeat' first
      | assumption | refine kept_bbHeader ?_ ?_ | refine kept_bbShow ?_ | refine kept_ite (fun _ => ?_) (fun _ => ?_)
      | refine keptR_ite (fun _ => ?_) (fun _ => ?_) | refine kept_fst_ite (fun _ => ?_) (fun _ => ?_) | refine kept_id ?_
      | simp only [kept_mk] | refine kept_foldl (fun _ _ _ => ?_) ?_ | refine kept_fst_foldl (fun _ _ _ => ?_) ?_ | refine keptR_next ?_
      | exact keptR_fault | exact keptR_refused | refine keptO_some ?_ | exact keptO_none | exact fun h => h
      | exact fun h => Mem.write_wf h | exact fun h => Mem.zero_wf h | exact fun h => Mem.set_wf h | exact fun h => Mem.filter_wf h
      | exact fun h => rising_filter h | exact fun h => RegFile.wr_rising h | exact fun h => RegFile.put_rising h
      | exact fun h => judgeSet_rising h | exact fun _ => rfl | exact fun _ => Mem.nil_wf | split | refine kept_mk_regs ?_ ?_
      | refine kept_mk_host ?_ ?_ ?_ | refine kept_mk_ohost ?_ ?_ ?_ | refine kept_mk_hbm ?_ ?_ ?_ | refine kept_mk_mram ?_ ?_ ?_

theorem kept_dawnPower {s0 : State} {s : State} (h0 : Kept W s0 s) (w_mram : W.mram = true) (w_ohost : W.ohost = true)
    : Kept W s0 (State.dawnPower s) := by
  unfold State.dawnPower
  try dsimp only
  with_reducible
    repeat' first
      | assumption | refine kept_domainSet ?_ ?_ | refine kept_clkShow ?_ | refine kept_bbDawn ?_ ?_
      | refine kept_foldl (fun _ _ _ => ?_) ?_ | split

theorem kept_lspRow {s0 : State} {f : State → Sys2Proof.Machine.State} {s : State}
    (h0 : ∀ a0, Kept W s0 a0 → Kept W s0 (f a0)) (h1 : Kept W s0 s) : KeptR W s0 (lspRow f s) := by
  unfold lspRow
  try dsimp only
  with_reducible
    repeat' first
      | assumption | apply h0 | refine kept_onUnit ?_ (fun _ _ => ?_) | refine keptR_next ?_

theorem kept_modLsp {s0 : State} {s : State} {f : Sys2Proof.Machine.LspSt → Sys2Proof.Machine.LspSt} (h0 : Kept W s0 s)
    : Kept W s0 (State.modLsp s f) := by
  unfold State.modLsp
  try dsimp only
  with_reducible
    repeat' first
      | assumption | simp only [kept_mk]

theorem kept_modSpi {s0 : State} {s : State} {c : Nat} {f : Sys2Proof.Machine.SpiSt → Sys2Proof.Machine.SpiSt} (h0 : Kept W s0 s)
    : Kept W s0 (State.modSpi s c f) := by
  unfold State.modSpi
  try dsimp only
  with_reducible
    repeat' first
      | assumption | refine kept_modLsp ?_

theorem kept_spiGo {s0 : State} {s : State} {c : Nat} {v : Nat} (h0 : Kept W s0 s) : Kept W s0 (State.spiGo s c v) := by
  unfold State.spiGo
  try dsimp only
  with_reducible
    repeat' first
      | assumption | refine kept_writeFields ?_ | refine kept_modSpi ?_ | refine kept_put ?_ | refine kept_ite (fun _ => ?_) (fun _ => ?_)

theorem kept_execSpiGo {s0 : State} {c : Nat} {v : Nat} {s : State} (h2 : Kept W s0 s) : KeptR W s0 (execSpiGo c v s) := by
  unfold execSpiGo
  try dsimp only
  with_reducible
    repeat' first
      | assumption | refine kept_lspRow (fun _ _ => ?_) ?_ | refine kept_spiGo ?_

theorem kept_gustShow {s0 : State} {s : State} (h0 : Kept W s0 s) : Kept W s0 (State.gustShow s) := by
  unfold State.gustShow
  try dsimp only
  with_reducible
    repeat' first
      | assumption | refine kept_wr ?_ | refine kept_put ?_

theorem kept_blockLock {s0 : State} {s : State} {l : Nat} (h0 : Kept W s0 s) : Kept W s0 (State.blockLock s l) := by
  unfold State.blockLock
  try dsimp only
  with_reducible
    repeat' first
      | assumption | refine kept_modLane ?_ | refine kept_setLane ?_

theorem kept_modStream {s0 : State} {s : State} {n : Nat} {f : Sys2Proof.Machine.StreamSt → Sys2Proof.Machine.StreamSt} (h0 : Kept W s0 s)
    : Kept W s0 (State.modStream s n f) := by
  unfold State.modStream
  try dsimp only
  with_reducible
    repeat' first
      | assumption | simp only [kept_mk]

theorem kept_modOpen {s0 : State} {s : State} {n : Nat} {f : Sys2Proof.Machine.OpenFrame → Sys2Proof.Machine.OpenFrame} (h0 : Kept W s0 s)
    : Kept W s0 (State.modOpen s n f) := by
  unfold State.modOpen
  try dsimp only
  with_reducible
    repeat' first
      | assumption | refine kept_modStream ?_

theorem kept_flagOpen {s0 : State} {s : State} {n : Nat} {b : Nat} (h0 : Kept W s0 s) : Kept W s0 (State.flagOpen s n b) := by
  unfold State.flagOpen
  try dsimp only
  with_reducible
    repeat' first
      | assumption | refine kept_modOpen ?_

theorem kept_loseLine {s0 : State} {s : State} {n : Nat} {area : Nat} {e : Nat} {line : Nat} {whole : Bool} {vals : List Nat} (h0 : Kept W s0 s)
    : Kept W s0 (State.loseLine s n area e line whole vals) := by
  unfold State.loseLine
  try dsimp only
  with_reducible
    repeat' first
      | assumption | refine kept_flagOpen ?_ | refine kept_modOpen ?_ | refine kept_ite (fun _ => ?_) (fun _ => ?_) | simp only [kept_mk]
      | refine kept_foldl (fun _ _ _ => ?_) ?_ | split

theorem kept_hbmWrite {s0 : State} {s : State} {a : Nat} {b : Bytes} (h : Kept W s0 s) (w_hbm : W.hbm = true)
    : Kept W s0 (State.hbmWrite s a b) := by
  unfold State.hbmWrite
  refine kept_ite (fun _ => kept_mk_hbm h w_hbm fun h => Mem.write_wf h) (fun _ => ?_)
  extract_lets good
  exact kept_mk_hbm h w_hbm fun h => mem_foldl_wf (fun m x hm => Mem.set_wf hm) h

theorem kept_poke {s0 : State} {s : State} {base : Nat} {r : Sys2Proof.Machine.StreamRec} {a : Sys2Proof.Machine.Area} {e : Nat} {y : Nat}
    {x : Nat} {v : Nat} (h0 : Kept W s0 s) (w_hbm : W.hbm = true) : Kept W s0 (State.poke s base r a e y x v) := by
  unfold State.poke
  try dsimp only
  with_reducible
    repeat' first
      | assumption | refine kept_hbmWrite ?_ ?_

theorem kept_storeLine {s0 : State} {s : State} {n : Nat} {i : Nat} {area : Nat} {e : Nat} {line : Nat} {vals : List Nat} (h0 : Kept W s0 s)
    (w_hbm : W.hbm = true) : Kept W s0 (State.storeLine s n i area e line vals) := by
  unfold State.storeLine
  try dsimp only
  with_reducible
    repeat' first
      | assumption | refine kept_poke ?_ ?_ | refine kept_foldl (fun _ _ _ => ?_) ?_ | split

theorem kept_obJudge {s0 : State} {s : State} {n : Nat} {e : Nat} {was : Bool} (h0 : Kept W s0 s) : Kept W s0 (State.obJudge s n e was) := by
  unfold State.obJudge
  try dsimp only
  with_reducible
    repeat' first
      | assumption | refine kept_modOpen ?_

theorem kept_modSrc {s0 : State} {s : State} {n : Nat} {i : Nat} {f : Sys2Proof.Machine.Src → Sys2Proof.Machine.Src} (h0 : Kept W s0 s)
    : Kept W s0 (State.modSrc s n i f) := by
  unfold State.modSrc
  try dsimp only
  with_reducible
    repeat' first
      | assumption | refine kept_modOpen ?_

theorem kept_releaseLine {s0 : State} {s : State} {n : Nat} {i : Nat} {area : Nat} {e : Nat} {line : Nat} (h0 : Kept W s0 s) (w_hbm : W.hbm = true)
    : Kept W s0 (State.releaseLine s n i area e line) := by
  unfold State.releaseLine
  try dsimp only
  with_reducible
    repeat' first
      | assumption | refine kept_modOpen ?_ | refine kept_flagOpen ?_ | refine kept_loseLine ?_ | refine kept_storeLine ?_ ?_
      | refine kept_obJudge ?_ | refine kept_modSrc ?_ | refine kept_foldl (fun _ _ _ => ?_) ?_ | split

theorem kept_releaseAll {s0 : State} {s : State} {n : Nat} {i : Nat} (h0 : Kept W s0 s) (w_hbm : W.hbm = true)
    : Kept W s0 (State.releaseAll s n i) := by
  unfold State.releaseAll
  try dsimp only
  with_reducible
    repeat' first
      | assumption | refine kept_releaseLine ?_ ?_ | refine kept_foldl (fun _ _ _ => ?_) ?_ | split

theorem kept_padUncovered {s0 : State} {s : State} {n : Nat} (h0 : Kept W s0 s) (w_hbm : W.hbm = true) : Kept W s0 (State.padUncovered s n)
    := by
  unfold State.padUncovered
  try dsimp only
  with_reducible
    repeat' first
      | assumption | refine kept_poke ?_ ?_ | refine kept_foldl (fun _ _ _ => ?_) ?_ | split

theorem kept_trace {s0 : State} {s : State} {src : Nat} {kind : Nat} {inst : Nat} {epoch : Nat} {fid : Nat} (h0 : Kept W s0 s)
    : Kept W s0 (State.trace s src kind inst epoch fid) := by
  unfold State.trace
  try dsimp only
  with_reducible
    repeat' first
      | assumption | refine kept_fresh ?_ | refine kept_evFrame ?_ | refine kept_ite (fun _ => ?_) (fun _ => ?_)

theorem kept_modCap {s0 : State} {s : State} {p : Nat} {f : Sys2Proof.Machine.CapSt → Sys2Proof.Machine.CapSt} (h0 : Kept W s0 s)
    : Kept W s0 (State.modCap s p f) := by
  unfold State.modCap
  try dsimp only
  with_reducible
    repeat' first
      | assumption | simp only [kept_mk]

theorem kept_modSeg {s0 : State} {s : State} {p : Nat} {k : Nat} {f : Sys2Proof.Machine.Seg → Sys2Proof.Machine.Seg} (h0 : Kept W s0 s)
    : Kept W s0 (State.modSeg s p k f) := by
  unfold State.modSeg
  try dsimp only
  with_reducible
    repeat' first
      | assumption | refine kept_modCap ?_

theorem kept_capStat {s0 : State} {s : State} {p : Nat} (h0 : Kept W s0 s) : Kept W s0 (State.capStat s p) := by
  unfold State.capStat
  try dsimp only
  with_reducible
    repeat' first
      | assumption | refine kept_put ?_

theorem kept_segShow {s0 : State} {s : State} {p : Nat} {k : Nat} {state : Nat} (h0 : Kept W s0 s) : Kept W s0 (State.segShow s p k state) := by
  unfold State.segShow
  try dsimp only
  with_reducible
    repeat' first
      | assumption | refine kept_put ?_ | refine kept_wr64 ?_ | refine kept_capStat ?_

theorem kept_segRelease {s0 : State} {s : State} {p : Nat} {k : Nat} (h0 : Kept W s0 s) : Kept W s0 (State.segRelease s p k) := by
  unfold State.segRelease
  try dsimp only
  with_reducible
    repeat' first
      | assumption | refine kept_modCap ?_ | refine kept_put ?_ | refine kept_wr ?_ | refine kept_segShow ?_

theorem kept_relDue {s0 : State} {s : State} {p : Nat} (h0 : Kept W s0 s) : Kept W s0 (State.relDue s p) := by
  unfold State.relDue
  try dsimp only
  with_reducible
    repeat' first
      | assumption | refine kept_segRelease ?_ | refine kept_foldl (fun _ _ _ => ?_) ?_ | split

theorem kept_segSeal {s0 : State} {s : State} {p : Nat} {k : Nat} (h0 : Kept W s0 s) : Kept W s0 (State.segSeal s p k) := by
  unfold State.segSeal
  try dsimp only
  with_reducible
    repeat' first
      | assumption | refine kept_segShow ?_ | refine kept_modCap ?_ | refine kept_relDue ?_ | refine kept_evFrame ?_

theorem kept_segFeed {s0 : State} {s : State} {p : Nat} {k : Nat} (h0 : Kept W s0 s) : Kept W s0 (State.segFeed s p k) := by
  unfold State.segFeed
  try dsimp only
  with_reducible
    repeat' first
      | assumption | refine kept_segSeal ?_ | refine kept_modCap ?_ | refine kept_modSeg ?_ | refine kept_segShow ?_
      | refine kept_foldl (fun _ _ _ => ?_) ?_ | split

theorem kept_segFeedAll {s0 : State} {s : State} {p : Nat} {k : Nat} (h0 : Kept W s0 s) : Kept W s0 (State.segFeedAll s p k) := by
  unfold State.segFeedAll
  try dsimp only
  with_reducible
    repeat' first
      | assumption | refine kept_segFeed ?_ | refine kept_foldl (fun _ _ _ => ?_) ?_

theorem kept_capClose {s0 : State} {s : State} {p : Nat} {fid : Nat} (h0 : Kept W s0 s) : Kept W s0 (State.capClose s p fid) := by
  unfold State.capClose
  try dsimp only
  with_reducible
    repeat' first
      | assumption | refine kept_modCap ?_ | refine kept_modSeg ?_ | refine kept_segFeedAll ?_ | refine kept_foldl (fun _ _ _ => ?_) ?_
      | split

theorem kept_closeFrame {s0 : State} {s : State} {n : Nat} {why : List Nat} (h0 : Kept W s0 s) (w_hbm : W.hbm = true)
    : Kept W s0 (State.closeFrame s n why) := by
  unfold State.closeFrame
  try dsimp only
  with_reducible
    repeat' first
      | assumption | refine kept_flagOpen ?_ | refine kept_releaseAll ?_ ?_ | refine kept_padUncovered ?_ ?_ | refine kept_hbmWrite ?_ ?_
      | refine kept_wr64 ?_ | refine kept_wr ?_ | refine kept_inc ?_ | refine kept_evLimited ?_ | refine kept_modStream ?_
      | refine kept_trace ?_ | refine kept_capClose ?_ | refine kept_ite (fun _ => ?_) (fun _ => ?_) | simp only [kept_mk]
      | refine kept_foldl (fun _ _ _ => ?_) ?_ | split

theorem kept_modGrp {s0 : State} {s : State} {g : Nat} {f : Sys2Proof.Machine.GroupSt → Sys2Proof.Machine.GroupSt} (h0 : Kept W s0 s)
    : Kept W s0 (State.modGrp s g f) := by
  unfold State.modGrp
  try dsimp only
  with_reducible
    repeat' first
      | assumption | simp only [kept_mk]

theorem kept_groupDown {s0 : State} {s : State} {g : Nat} {first : Nat} (h0 : Kept W s0 s) (w_hbm : W.hbm = true)
    : Kept W s0 (State.groupDown s g first) := by
  unfold State.groupDown
  try dsimp only
  with_reducible
    repeat' first
      | assumption | refine kept_closeFrame ?_ ?_ | refine kept_modLane ?_ | refine kept_setLane ?_ | refine kept_modGrp ?_
      | refine kept_inc ?_ | refine kept_put ?_ | refine kept_ev ?_ | refine kept_foldl (fun _ _ _ => ?_) ?_ | split

theorem kept_laneFall {s0 : State} {s : State} {l : Nat} {down : Nat} (h0 : Kept W s0 s) (w_hbm : W.hbm = true)
    : Kept W s0 (State.laneFall s l down) := by
  unfold State.laneFall
  try dsimp only
  with_reducible
    repeat' first
      | assumption | refine kept_setLane ?_ | refine kept_modLane ?_ | refine kept_groupDown ?_ ?_
      | refine kept_foldl (fun _ _ _ => ?_) ?_ | split

theorem kept_alignMiss {s0 : State} {s : State} {l : Nat} (h0 : Kept W s0 s) (w_hbm : W.hbm = true) : Kept W s0 (State.alignMiss s l) := by
  unfold State.alignMiss
  try dsimp only
  with_reducible
    repeat' first
      | assumption | refine kept_modLane ?_ | refine kept_laneFall ?_ ?_ | refine kept_ite (fun _ => ?_) (fun _ => ?_)

theorem kept_laneErr {s0 : State} {s : State} {l : Nat} (h0 : Kept W s0 s) : Kept W s0 (State.laneErr s l) := by
  unfold State.laneErr
  try dsimp only
  with_reducible
    repeat' first
      | assumption | refine kept_inc ?_

theorem kept_streamBlock {s0 : State} {s : State} {g : Nat} {l : Nat} {data : Bool} {v : Nat} (h0 : Kept W s0 s)
    : Kept W s0 (State.streamBlock s g l data v) := by
  unfold State.streamBlock
  try dsimp only
  with_reducible
    repeat' first
      | assumption | refine kept_laneErr ?_ | refine kept_modGrp ?_ | refine kept_foldl (fun _ _ _ => ?_) ?_ | split

theorem kept_pump {s0 : State} {s : State} {g : Nat} {x2 : Nat} (h0 : Kept W s0 s) : Kept W s0 (State.pump s g x2) := by
  induction x2 generalizing s g with
  | zero =>
    unfold State.pump
    try dsimp only
    repeat' first
      | with_reducible assumption
  | succ n ih =>
    unfold State.pump
    try dsimp only
    repeat' first
      | with_reducible assumption | with_reducible apply ih | with_reducible refine kept_modLane ?_ | with_reducible refine kept_modGrp ?_
      | with_reducible refine kept_streamBlock ?_ | with_reducible refine kept_ite (fun _ => ?_) (fun _ => ?_)
      | with_reducible refine keptR_ite (fun _ => ?_) (fun _ => ?_) | with_reducible refine kept_fst_ite (fun _ => ?_) (fun _ => ?_)
      | with_reducible refine kept_id ?_ | simp only [kept_mk] | with_reducible refine kept_foldl (fun _ _ _ => ?_) ?_
      | with_reducible refine kept_fst_foldl (fun _ _ _ => ?_) ?_ | with_reducible refine keptR_next ?_ | with_reducible exact keptR_fault
      | with_reducible exact keptR_refused | with_reducible refine keptO_some ?_ | with_reducible exact keptO_none
      | with_reducible exact fun h => h | with_reducible exact fun h => Mem.write_wf h | with_reducible exact fun h => Mem.zero_wf h
      | with_reducible exact fun h => Mem.set_wf h | with_reducible exact fun h => Mem.filter_wf h
      | with_reducible exact fun h => rising_filter h | with_reducible exact fun h => RegFile.wr_rising h
      | with_reducible exact fun h => RegFile.put_rising h | with_reducible exact fun h => judgeSet_rising h
      | with_reducible exact fun _ => rfl | exact fun _ => Mem.nil_wf | split

theorem kept_pumpAll {s0 : State} {s : State} {g : Nat} (h0 : Kept W s0 s) : Kept W s0 (State.pumpAll s g) := by
  unfold State.pumpAll
  try dsimp only
  with_reducible
    repeat' first
      | assumption | refine kept_pump ?_

theorem kept_deskew {s0 : State} {s : State} {g : Nat} (h0 : Kept W s0 s) : Kept W s0 (State.deskew s g) := by
  unfold State.deskew
  try dsimp only
  with_reducible
    repeat' first
      | assumption | refine kept_put ?_ | refine kept_setLane ?_ | refine kept_modGrp ?_ | refine kept_ev ?_
      | refine kept_foldl (fun _ _ _ => ?_) ?_ | split

theorem kept_alignBlock {s0 : State} {s : State} {l : Nat} {v : Nat} (h0 : Kept W s0 s) (w_hbm : W.hbm = true)
    : Kept W s0 (State.alignBlock s l v) := by
  unfold State.alignBlock
  try dsimp only
  with_reducible
    repeat' first
      | assumption | refine kept_modLane ?_ | refine kept_blockLock ?_ | refine kept_alignMiss ?_ ?_ | refine kept_inc ?_
      | refine kept_setLane ?_ | refine kept_put ?_ | refine kept_pumpAll ?_ | refine kept_deskew ?_
      | refine kept_ite (fun _ => ?_) (fun _ => ?_) | simp only [kept_mk] | refine kept_foldl (fun _ _ _ => ?_) ?_ | split

theorem kept_execAlignBlock {s0 : State} {lane : Nat} {payload : Nat} {s : State} (h2 : Kept W s0 s) (w_hbm : W.hbm = true)
    : KeptR W s0 (execAlignBlock lane payload s) := by
  unfold execAlignBlock
  try dsimp only
  with_reducible
    repeat' first
      | assumption | refine kept_alignBlock ?_ ?_ | refine keptR_next ?_ | refine keptR_ite (fun _ => ?_) (fun _ => ?_)
      | refine kept_ite (fun _ => ?_) (fun _ => ?_)

theorem kept_flagGroup {s0 : State} {s : State} {g : Nat} {b : Nat} (h0 : Kept W s0 s) : Kept W s0 (State.flagGroup s g b) := by
  unfold State.flagGroup
  try dsimp only
  with_reducible
    repeat' first
      | assumption | refine kept_flagOpen ?_ | refine kept_foldl (fun _ _ _ => ?_) ?_ | split

theorem kept_badPkt {s0 : State} {s : State} {g : Nat} (h0 : Kept W s0 s) : Kept W s0 (State.badPkt s g) := by
  unfold State.badPkt
  try dsimp only
  with_reducible
    repeat' first
      | assumption | refine kept_inc ?_

theorem kept_modPipe {s0 : State} {s : State} {p : Nat} {f : Sys2Proof.Machine.PipeSt → Sys2Proof.Machine.PipeSt} (h0 : Kept W s0 s)
    : Kept W s0 (State.modPipe s p f) := by
  unfold State.modPipe
  try dsimp only
  with_reducible
    repeat' first
      | assumption | simp only [kept_mk]

theorem kept_modSky {s0 : State} {s : State} {f : Sys2Proof.Machine.SkySt → Sys2Proof.Machine.SkySt} (h0 : Kept W s0 s)
    : Kept W s0 (State.modSky s f) := by
  unfold State.modSky
  try dsimp only
  with_reducible
    repeat' first
      | assumption | simp only [kept_mk]

theorem kept_skyEnded {s0 : State} {s : State} {op : Nat} {result : Nat} {refused : Bool} {t : Nat} {late : Nat} {num : Nat} (h0 : Kept W s0 s)
    : Kept W s0 (State.skyEnded s op result refused t late num) := by
  unfold State.skyEnded
  try dsimp only
  with_reducible
    repeat' first
      | assumption | refine kept_put ?_ | refine kept_wr64 ?_ | refine kept_modSky ?_ | refine kept_ev ?_
      | refine kept_ite (fun _ => ?_) (fun _ => ?_)

theorem kept_skySendAt {s0 : State} {s : State} {typ : Nat} {dst : Nat} {t : Nat} {body : Sys2Proof.Bytes} (h0 : Kept W s0 s)
    : Kept W s0 (State.skySendAt s typ dst t body) := by
  unfold State.skySendAt
  try dsimp only
  with_reducible
    repeat' first
      | assumption | refine kept_emit ?_ | refine kept_modSky ?_ | refine kept_foldl (fun _ _ _ => ?_) ?_ | split

theorem kept_skySend {s0 : State} {s : State} {typ : Nat} {dst : Nat} {body : Sys2Proof.Bytes} (h0 : Kept W s0 s)
    : Kept W s0 (State.skySend s typ dst body) := by
  unfold State.skySend
  try dsimp only
  with_reducible
    repeat' first
      | assumption | refine kept_skySendAt ?_

theorem kept_skyUp {s0 : State} {s : State} {typ : Nat} {body : Sys2Proof.Bytes} (h0 : Kept W s0 s) : Kept W s0 (State.skyUp s typ body) := by
  unfold State.skyUp
  try dsimp only
  with_reducible
    repeat' first
      | assumption | refine kept_skySend ?_ | refine kept_ite (fun _ => ?_) (fun _ => ?_)

theorem kept_skyReport {s0 : State} {s : State} {op : Nat} {num : Nat} (h0 : Kept W s0 s) : Kept W s0 (State.skyReport s op num) := by
  unfold State.skyReport
  try dsimp only
  with_reducible
    repeat' first
      | assumption | refine kept_modSky ?_ | refine kept_skyUp ?_ | refine kept_ite (fun _ => ?_) (fun _ => ?_)

theorem kept_skyDone {s0 : State} {s : State} {op : Nat} {num : Nat} {node : Nat} {result : Nat} (h0 : Kept W s0 s)
    : Kept W s0 (State.skyDone s op num node result) := by
  unfold State.skyDone
  try dsimp only
  with_reducible
    repeat' first
      | assumption | refine kept_skyReport ?_ | refine kept_modSky ?_

theorem kept_skyIssued {s0 : State} {s : State} {t : Nat} {n : Nat} {late : Bool} (h0 : Kept W s0 s) : Kept W s0 (State.skyIssued s t n late)
    := by
  unfold State.skyIssued
  try dsimp only
  with_reducible
    repeat' first
      | assumption | refine kept_inc ?_ | refine kept_skyEnded ?_ | refine kept_skyDone ?_ | refine kept_modSky ?_
      | refine kept_ite (fun _ => ?_) (fun _ => ?_)

theorem kept_modAud {s0 : State} {s : State} {f : Sys2Proof.Machine.AudSt → Sys2Proof.Machine.AudSt} (h0 : Kept W s0 s)
    : Kept W s0 (State.modAud s f) := by
  unfold State.modAud
  try dsimp only
  with_reducible
    repeat' first
      | assumption | simp only [kept_mk]

theorem kept_startLess {s0 : State} {s : State} {n : Nat} {begun : Bool} (h0 : Kept W s0 s) : Kept W s0 (State.startLess s n begun) := by
  unfold State.startLess
  try dsimp only
  with_reducible
    repeat' first
      | assumption | refine kept_ev ?_ | refine kept_put ?_ | refine kept_modAud ?_ | refine kept_foldl (fun _ _ _ => ?_) ?_ | split

theorem kept_modPort {s0 : State} {s : State} {n : Nat} {f : Sys2Proof.Machine.AudPort → Sys2Proof.Machine.AudPort} (h0 : Kept W s0 s)
    : Kept W s0 (State.modPort s n f) := by
  unfold State.modPort
  try dsimp only
  with_reducible
    repeat' first
      | assumption | refine kept_modAud ?_

theorem kept_audHalt {s0 : State} {s : State} {n : Nat} (h0 : Kept W s0 s) : Kept W s0 (State.audHalt s n) := by
  unfold State.audHalt
  try dsimp only
  with_reducible
    repeat' first
      | assumption | refine kept_put ?_ | refine kept_modPort ?_ | refine kept_ite (fun _ => ?_) (fun _ => ?_)

theorem kept_setFade {s0 : State} {s : State} {n : Nat} {f : Sys2Proof.Machine.Fade} (h0 : Kept W s0 s) : Kept W s0 (State.setFade s n f)
    := by
  unfold State.setFade
  try dsimp only
  with_reducible
    repeat' first
      | assumption | refine kept_put ?_ | refine kept_modPort ?_

theorem kept_rampOut {s0 : State} {s : State} {n : Nat} {cause : Nat} (h0 : Kept W s0 s) : Kept W s0 (State.rampOut s n cause) := by
  unfold State.rampOut
  try dsimp only
  with_reducible
    repeat' first
      | assumption | refine kept_modPort ?_ | refine kept_evLimited ?_ | refine kept_inc ?_ | refine kept_setFade ?_

theorem kept_audStop {s0 : State} {s : State} {n : Nat} (h0 : Kept W s0 s) : Kept W s0 (State.audStop s n) := by
  unfold State.audStop
  try dsimp only
  with_reducible
    repeat' first
      | assumption | refine kept_modPort ?_ | refine kept_audHalt ?_ | refine kept_rampOut ?_ | refine kept_fresh ?_
      | refine kept_ite (fun _ => ?_) (fun _ => ?_)

theorem kept_audEpoch {s0 : State} {s : State} (h0 : Kept W s0 s) : Kept W s0 (State.audEpoch s) := by
  unfold State.audEpoch
  try dsimp only
  with_reducible
    repeat' first
      | assumption | refine kept_startLess ?_ | refine kept_modPort ?_ | refine kept_audHalt ?_ | refine kept_audStop ?_
      | refine kept_foldl (fun _ _ _ => ?_) ?_ | split

theorem kept_modSg {s0 : State} {s : State} {g : Nat} {f : Sys2Proof.Machine.Gen → Sys2Proof.Machine.Gen} (h0 : Kept W s0 s)
    : Kept W s0 (State.modSg s g f) := by
  unfold State.modSg
  try dsimp only
  with_reducible
    repeat' first
      | assumption | simp only [kept_mk]

theorem kept_genEpoch {s0 : State} {s : State} (h0 : Kept W s0 s) : Kept W s0 (State.genEpoch s) := by
  unfold State.genEpoch
  try dsimp only
  with_reducible
    repeat' first
      | assumption | refine kept_modSg ?_ | refine kept_ite (fun _ => ?_) (fun _ => ?_) | simp only [kept_mk]
      | refine kept_foldl (fun _ _ _ => ?_) ?_

theorem kept_modHlt {s0 : State} {s : State} {f : Sys2Proof.Machine.HltSt → Sys2Proof.Machine.HltSt} (h0 : Kept W s0 s)
    : Kept W s0 (State.modHlt s f) := by
  unfold State.modHlt
  try dsimp only
  with_reducible
    repeat' first
      | assumption | simp only [kept_mk]

theorem kept_xwMove {s0 : State} {s : State} {p : Nat} (h0 : Kept W s0 s) : Kept W s0 (State.xwMove s p) := by
  unfold State.xwMove
  try dsimp only
  with_reducible
    repeat' first
      | assumption | refine kept_xwShow ?_ | refine kept_modHlt ?_ | refine kept_ite (fun _ => ?_) (fun _ => ?_)

theorem kept_retireFaulty {s0 : State} {s : State} {p : Nat} {e : Nat} (h0 : Kept W s0 s) : Kept W s0 (State.retireFaulty s p e) := by
  unfold State.retireFaulty
  try dsimp only
  with_reducible
    repeat' first
      | assumption | refine kept_put ?_ | refine kept_ev ?_ | refine kept_ite (fun _ => ?_) (fun _ => ?_) | simp only [kept_mk]
      | refine kept_foldl (fun _ _ _ => ?_) ?_

theorem kept_hbmZero {s0 : State} {s : State} {a : Nat} {n : Nat} (h0 : Kept W s0 s) (w_hbm : W.hbm = true) : Kept W s0 (State.hbmZero s a n)
    := by
  unfold State.hbmZero
  try dsimp only
  with_reducible
    repeat' first
      | assumption | refine kept_ite (fun _ => ?_) (fun _ => ?_) | refine keptR_ite (fun _ => ?_) (fun _ => ?_)
      | refine kept_fst_ite (fun _ => ?_) (fun _ => ?_) | refine kept_id ?_ | simp only [kept_mk] | refine kept_foldl (fun _ _ _ => ?_) ?_
      | refine kept_fst_foldl (fun _ _ _ => ?_) ?_ | refine keptR_next ?_ | exact keptR_fault | exact keptR_refused | refine keptO_some ?_
      | exact keptO_none | exact fun h => h | exact fun h => Mem.write_wf h | exact fun h => Mem.zero_wf h | exact fun h => Mem.set_wf h
      | exact fun h => Mem.filter_wf h | exact fun h => rising_filter h | exact fun h => RegFile.wr_rising h
      | exact fun h => RegFile.put_rising h | exact fun h => judgeSet_rising h | exact fun _ => rfl | exact fun _ => Mem.nil_wf | split
      | refine kept_mk_regs ?_ ?_ | refine kept_mk_host ?_ ?_ ?_ | refine kept_mk_ohost ?_ ?_ ?_ | refine kept_mk_hbm ?_ ?_ ?_

theorem kept_hbmUndef {s0 : State} {s : State} {a : Nat} {n : Nat} (h0 : Kept W s0 s) (w_hbm : W.hbm = true)
    : Kept W s0 (State.hbmUndef s a n) := by
  unfold State.hbmUndef
  try dsimp only
  with_reducible
    repeat' first
      | assumption | refine kept_ite (fun _ => ?_) (fun _ => ?_) | refine keptR_ite (fun _ => ?_) (fun _ => ?_)
      | refine kept_fst_ite (fun _ => ?_) (fun _ => ?_) | refine kept_id ?_ | simp only [kept_mk] | refine kept_foldl (fun _ _ _ => ?_) ?_
      | refine kept_fst_foldl (fun _ _ _ => ?_) ?_ | refine keptR_next ?_ | exact keptR_fault | exact keptR_refused | refine keptO_some ?_
      | exact keptO_none | exact fun h => h | exact fun h => Mem.write_wf h | exact fun h => Mem.zero_wf h | exact fun h => Mem.set_wf h
      | exact fun h => Mem.filter_wf h | exact fun h => rising_filter h | exact fun h => RegFile.wr_rising h
      | exact fun h => RegFile.put_rising h | exact fun h => judgeSet_rising h | exact fun _ => rfl | exact fun _ => Mem.nil_wf | split
      | refine kept_mk_regs ?_ ?_ | refine kept_mk_host ?_ ?_ ?_ | refine kept_mk_ohost ?_ ?_ ?_ | refine kept_mk_hbm ?_ ?_ ?_

theorem kept_setMap {s0 : State} {s : State} {m : Sys2Proof.Machine.PartMap} (h0 : Kept W s0 s) : Kept W s0 (State.setMap s m) := by
  unfold State.setMap
  try dsimp only
  with_reducible
    repeat' first
      | assumption | refine kept_put ?_

theorem kept_applyPatchPlan {s0 : State} {s : State} {x : Sys2Proof.Machine.Patch} (h0 : Kept W s0 s) (w_hbm : W.hbm = true)
    : Kept W s0 (State.applyPatchPlan s x) := by
  unfold State.applyPatchPlan
  try dsimp only
  with_reducible
    repeat' first
      | assumption | refine kept_hbmZero ?_ ?_ | refine kept_hbmUndef ?_ ?_ | refine kept_setMap ?_
      | refine kept_foldl (fun _ _ _ => ?_) ?_ | split

theorem kept_xwAssign {s0 : State} {s : State} {p : Nat} (h0 : Kept W s0 s) : Kept W s0 (State.xwAssign s p) := by
  unfold State.xwAssign
  try dsimp only
  with_reducible
    repeat' first
      | assumption | refine kept_xwShow ?_ | refine kept_modHlt ?_

theorem kept_outfNew {s0 : State} {s : State} {p : Nat} (h0 : Kept W s0 s) : Kept W s0 (State.outfNew s p) := by
  unfold State.outfNew
  try dsimp only
  with_reducible
    repeat' first
      | assumption | simp only [kept_mk]

theorem kept_lutPut {s0 : State} {s : State} {key : Nat} {b : Sys2Proof.Byte} (h0 : Kept W s0 s) (w_lut : W.lut = true)
    : Kept W s0 (State.lutPut s key b) := by
  unfold State.lutPut
  try dsimp only
  with_reducible
    repeat' first
      | assumption | refine kept_ite (fun _ => ?_) (fun _ => ?_) | refine keptR_ite (fun _ => ?_) (fun _ => ?_)
      | refine kept_fst_ite (fun _ => ?_) (fun _ => ?_) | refine kept_id ?_ | simp only [kept_mk] | refine kept_foldl (fun _ _ _ => ?_) ?_
      | refine kept_fst_foldl (fun _ _ _ => ?_) ?_ | refine keptR_next ?_ | exact keptR_fault | exact keptR_refused | refine keptO_some ?_
      | exact keptO_none | exact fun h => h | exact fun h => Mem.write_wf h | exact fun h => Mem.zero_wf h | exact fun h => Mem.set_wf h
      | exact fun h => Mem.filter_wf h | exact fun h => rising_filter h | exact fun h => RegFile.wr_rising h
      | exact fun h => RegFile.put_rising h | exact fun h => judgeSet_rising h | exact fun _ => rfl | exact fun _ => Mem.nil_wf | split
      | refine kept_mk_regs ?_ ?_ | refine kept_mk_host ?_ ?_ ?_ | refine kept_mk_ohost ?_ ?_ ?_ | refine kept_mk_hbm ?_ ?_ ?_
      | refine kept_mk_mram ?_ ?_ ?_ | refine kept_mk_lut ?_ ?_ ?_

theorem kept_putBlob {s0 : State} {s : State} {g : Sys2Proof.Machine.Graph} {regs : Sys2Proof.Machine.RegFile}
    {x : Sys2Proof.Machine.BlobData} (h0 : Kept W s0 s) (w_hbm : W.hbm = true) (w_lut : W.lut = true)
    : Kept W s0 (State.putBlob s g regs x) := by
  unfold State.putBlob
  try dsimp only
  with_reducible
    repeat' first
      | assumption | refine kept_hbmWrite ?_ ?_ | refine kept_lutPut ?_ ?_ | refine kept_foldl (fun _ _ _ => ?_) ?_ | split

theorem kept_applyPatchLuts {s0 : State} {s : State} {e : Nat} {x : Sys2Proof.Machine.Patch} (h0 : Kept W s0 s) (w_hbm : W.hbm = true)
    (w_lut : W.lut = true) : Kept W s0 (State.applyPatchLuts s e x) := by
  unfold State.applyPatchLuts
  try dsimp only
  with_reducible
    repeat' first
      | assumption | refine kept_putBlob ?_ ?_ ?_ | refine kept_foldl (fun _ _ _ => ?_) ?_

theorem kept_capFront {s0 : State} {s : State} {p : Nat} (h0 : Kept W s0 s) : Kept W s0 (State.capFront s p) := by
  unfold State.capFront
  try dsimp only
  with_reducible
    repeat' first
      | assumption | refine kept_modCap ?_ | refine kept_put ?_ | refine kept_ite (fun _ => ?_) (fun _ => ?_) | simp only [kept_mk]

theorem kept_takeFront {s0 : State} {s : State} {p : Nat} {e : Nat} {first : Nat} {patches : List Sys2Proof.Machine.Patch} (h0 : Kept W s0 s)
    (w_hbm : W.hbm = true) (w_lut : W.lut = true) : Kept W s0 (State.takeFront s p e first patches) := by
  unfold State.takeFront
  try dsimp only
  with_reducible
    repeat' first
      | assumption | refine kept_xwMove ?_ | refine kept_retireFaulty ?_ | refine kept_applyPatchPlan ?_ ?_ | refine kept_xwAssign ?_
      | refine kept_outfNew ?_ | refine kept_applyPatchLuts ?_ ?_ ?_ | refine kept_modPipe ?_ | refine kept_capFront ?_
      | refine kept_trace ?_ | refine kept_raise ?_ | refine kept_ite (fun _ => ?_) (fun _ => ?_) | simp only [kept_mk]
      | refine kept_foldl (fun _ _ _ => ?_) ?_ | split

theorem kept_takeDue {s0 : State} {s : State} {p : Nat} {fid : Nat} (h0 : Kept W s0 s) (w_hbm : W.hbm = true) (w_lut : W.lut = true)
    : Kept W s0 (State.takeDue s p fid) := by
  unfold State.takeDue
  try dsimp only
  with_reducible
    repeat' first
      | assumption | refine kept_takeFront ?_ ?_ ?_ | refine kept_foldl (fun _ _ _ => ?_) ?_

theorem kept_settle {s0 : State} {s : State} (h0 : Kept W s0 s) : Kept W s0 (State.settle s) := by
  unfold State.settle
  try dsimp only
  with_reducible
    repeat' first
      | assumption | refine kept_wr ?_ | refine kept_raise ?_ | refine kept_ite (fun _ => ?_) (fun _ => ?_) | simp only [kept_mk]
      | refine kept_foldl (fun _ _ _ => ?_) ?_ | split

theorem kept_issueFront {s0 : State} {s : State} {f : Sys2Proof.Machine.Front} {fid : Nat} (h0 : Kept W s0 s) (w_hbm : W.hbm = true)
    (w_lut : W.lut = true) : Kept W s0 (State.issueFront s f fid) := by
  unfold State.issueFront
  try dsimp only
  with_reducible
    repeat' first
      | assumption | refine kept_wr ?_ | refine kept_put ?_ | refine kept_inc ?_ | refine kept_raise ?_ | refine kept_skyIssued ?_
      | refine kept_audEpoch ?_ | refine kept_genEpoch ?_ | refine kept_takeDue ?_ ?_ ?_ | refine kept_settle ?_
      | refine kept_ite (fun _ => ?_) (fun _ => ?_) | simp only [kept_mk] | refine kept_foldl (fun _ _ _ => ?_) ?_

theorem kept_frontAt {s0 : State} {s : State} {f : Sys2Proof.Machine.Front} {fid : Nat} {newFid : Nat} (h0 : Kept W s0 s)
    (w_hbm : W.hbm = true) (w_lut : W.lut = true) : Kept W s0 (State.frontAt s f fid newFid) := by
  unfold State.frontAt
  try dsimp only
  with_reducible
    repeat' first
      | assumption | refine kept_put ?_ | refine kept_issueFront ?_ ?_ ?_ | refine kept_ite (fun _ => ?_) (fun _ => ?_)
      | simp only [kept_mk]

theorem kept_boundaryAs {s0 : State} {s : State} {p : Nat} {fid : Nat} {newFid : Nat} (h0 : Kept W s0 s) (w_hbm : W.hbm = true)
    (w_lut : W.lut = true) : Kept W s0 (State.boundaryAs s p fid newFid) := by
  unfold State.boundaryAs
  try dsimp only
  with_reducible
    repeat' first
      | assumption | refine kept_modPipe ?_ | refine kept_frontAt ?_ ?_ ?_ | refine kept_settle ?_ | refine kept_takeDue ?_ ?_ ?_
      | refine kept_foldl (fun _ _ _ => ?_) ?_ | split

theorem kept_boundary {s0 : State} {s : State} {p : Nat} {fid : Nat} (h0 : Kept W s0 s) (w_hbm : W.hbm = true) (w_lut : W.lut = true)
    : Kept W s0 (State.boundary s p fid) := by
  unfold State.boundary
  try dsimp only
  with_reducible
    repeat' first
      | assumption | refine kept_boundaryAs ?_ ?_ ?_

theorem kept_openNumber {s0 : State} {s : State} {n : Nat} {pipe : Option Nat} {counter : Nat} {free : Bool} (h0 : Kept W s0 s)
    (w_hbm : W.hbm = true) (w_lut : W.lut = true) : Kept W s0 (State.openNumber s n pipe counter free).1 := by
  unfold State.openNumber
  try dsimp only
  with_reducible
    repeat' first
      | assumption | refine kept_boundary ?_ ?_ ?_ | refine kept_boundaryAs ?_ ?_ ?_ | refine kept_modPipe ?_
      | refine kept_foldl (fun _ _ _ => ?_) ?_ | split

theorem kept_sgMissed {s0 : State} {s : State} {g : Nat} {n : Nat} {lastTime : Nat} (h0 : Kept W s0 s)
    : Kept W s0 (State.sgMissed s g n lastTime) := by
  unfold State.sgMissed
  try dsimp only
  with_reducible
    repeat' first
      | assumption | refine kept_evLimited ?_ | refine kept_inc ?_ | refine kept_ite (fun _ => ?_) (fun _ => ?_)

theorem kept_sgMatch {s0 : State} {s : State} {g : Nat} {t : Nat} (h0 : Kept W s0 s) : Kept W s0 (State.sgMatch s g t).1 := by
  unfold State.sgMatch
  try dsimp only
  with_reducible
    repeat' first
      | assumption | refine kept_sgMissed ?_ | refine kept_modSg ?_ | refine kept_inc ?_ | refine kept_foldl (fun _ _ _ => ?_) ?_ | split

theorem kept_sgBoundary {s0 : State} {s : State} {stream : Nat} {t : Nat} (h0 : Kept W s0 s) : Kept W s0 (State.sgBoundary s stream t).1 := by
  unfold State.sgBoundary
  try dsimp only
  with_reducible
    repeat' first
      | assumption | refine kept_sgMatch ?_ | refine kept_ite (fun _ => ?_) (fun _ => ?_) | refine keptR_ite (fun _ => ?_) (fun _ => ?_)
      | refine kept_fst_ite (fun _ => ?_) (fun _ => ?_) | refine kept_id ?_ | simp only [kept_mk] | refine kept_foldl (fun _ _ _ => ?_) ?_
      | refine kept_fst_foldl (fun _ _ _ => ?_) ?_

theorem kept_showBusy {s0 : State} {s : State} {cls : Nat} {n : Nat} (h0 : Kept W s0 s) : Kept W s0 (State.showBusy s cls n) := by
  unfold State.showBusy
  try dsimp only
  with_reducible
    repeat' first
      | assumption | refine kept_put ?_

theorem kept_recGap {s0 : State} {s : State} {p : Nat} {fid : Nat} {time : Nat} {epoch : Nat} (h0 : Kept W s0 s)
    : Kept W s0 (State.recGap s p fid time epoch) := by
  unfold State.recGap
  try dsimp only
  with_reducible
    repeat' first
      | assumption | refine kept_addLost ?_ | refine kept_foldl (fun _ _ _ => ?_) ?_ | split

theorem kept_markDropped {s0 : State} {s : State} {f : Sys2Proof.Machine.Frame} (h0 : Kept W s0 s) (w_hbm : W.hbm = true)
    : Kept W s0 (State.markDropped s f) := by
  unfold State.markDropped
  try dsimp only
  with_reducible
    repeat' first
      | assumption | refine kept_hbmWrite ?_ ?_ | refine kept_wr ?_ | refine kept_foldl (fun _ _ _ => ?_) ?_ | split

theorem kept_slotReuse {s0 : State} {s : State} {p : Nat} {slot : Option Nat} (h0 : Kept W s0 s) (w_hbm : W.hbm = true)
    : Kept W s0 (State.slotReuse s p slot) := by
  unfold State.slotReuse
  try dsimp only
  with_reducible
    repeat' first
      | assumption | refine kept_showBusy ?_ | refine kept_recGap ?_ | refine kept_markDropped ?_ ?_
      | refine kept_ite (fun _ => ?_) (fun _ => ?_) | simp only [kept_mk] | refine kept_foldl (fun _ _ _ => ?_) ?_

theorem kept_leaveUndefined {s0 : State} {s : State} {r : Sys2Proof.Machine.Replay} {protOff : Bool} (h0 : Kept W s0 s)
    : Kept W s0 (State.leaveUndefined s r protOff) := by
  unfold State.leaveUndefined
  try dsimp only
  with_reducible
    repeat' first
      | assumption | refine kept_inc ?_ | refine kept_modHlt ?_ | refine kept_ev ?_

theorem kept_unrepaired {s0 : State} {s : State} {r : Sys2Proof.Machine.Replay} (h0 : Kept W s0 s) : Kept W s0 (State.unrepaired s r) := by
  unfold State.unrepaired
  try dsimp only
  with_reducible
    repeat' first
      | assumption | refine kept_leaveUndefined ?_ | refine kept_modHlt ?_

theorem kept_replayLate {s0 : State} {s : State} {p : Nat} {slot : Option Nat} (h0 : Kept W s0 s) : Kept W s0 (State.replayLate s p slot) := by
  unfold State.replayLate
  try dsimp only
  with_reducible
    repeat' first
      | assumption | refine kept_unrepaired ?_ | refine kept_foldl (fun _ _ _ => ?_) ?_ | split

theorem kept_tagSlot {s0 : State} {s : State} {p : Nat} {slot : Nat} {e : Nat} (h0 : Kept W s0 s) : Kept W s0 (State.tagSlot s p slot e) := by
  unfold State.tagSlot
  try dsimp only
  with_reducible
    repeat' first
      | assumption | refine kept_modCap ?_

theorem kept_trigMark {s0 : State} {s : State} {p : Nat} {b : Option Nat} (h0 : Kept W s0 s) : Kept W s0 (State.trigMark s p b) := by
  unfold State.trigMark
  try dsimp only
  with_reducible
    repeat' first
      | assumption | refine kept_modCap ?_ | refine kept_foldl (fun _ _ _ => ?_) ?_ | split

theorem kept_evTrig {s0 : State} {s : State} {p : Nat} {k : Nat} {fid : Nat} {t : Nat} {slot : Option Nat} {refused : Bool} {retrig : Bool}
    {short : Bool} (h0 : Kept W s0 s) : Kept W s0 (State.evTrig s p k fid t slot refused retrig short) := by
  unfold State.evTrig
  try dsimp only
  with_reducible
    repeat' first
      | assumption | refine kept_evFrame ?_

theorem kept_trigRefuse {s0 : State} {s : State} {p : Nat} {k : Nat} {fid : Nat} {t : Nat} {slot : Option Nat} {retrig : Bool} (h0 : Kept W s0 s)
    : Kept W s0 (State.trigRefuse s p k fid t slot retrig) := by
  unfold State.trigRefuse
  try dsimp only
  with_reducible
    repeat' first
      | assumption | refine kept_evTrig ?_ | refine kept_put ?_ | refine kept_inc ?_

theorem kept_trigDecide {s0 : State} {s : State} {p : Nat} {t : Nat} {f : Nat × Nat × Nat × Bool} (h0 : Kept W s0 s)
    : Kept W s0 (State.trigDecide s p t f) := by
  unfold State.trigDecide
  try dsimp only
  with_reducible
    repeat' first
      | assumption | refine kept_trigMark ?_ | refine kept_modSeg ?_ | refine kept_segFeedAll ?_ | refine kept_evTrig ?_
      | refine kept_inc ?_ | refine kept_trigRefuse ?_ | refine kept_modCap ?_ | refine kept_segShow ?_ | refine kept_put ?_
      | refine kept_foldl (fun _ _ _ => ?_) ?_ | split

theorem kept_capOpen {s0 : State} {s : State} {p : Nat} {fid : Nat} {slot : Nat} {time : Nat} (h0 : Kept W s0 s)
    : Kept W s0 (State.capOpen s p fid slot time) := by
  unfold State.capOpen
  try dsimp only
  with_reducible
    repeat' first
      | assumption | refine kept_modCap ?_ | refine kept_tagSlot ?_ | refine kept_trigDecide ?_ | refine kept_foldl (fun _ _ _ => ?_) ?_

theorem kept_patchGap {s0 : State} {s : State} {p : Nat} {fid : Nat} (h0 : Kept W s0 s) : Kept W s0 (State.patchGap s p fid) := by
  unfold State.patchGap
  try dsimp only
  with_reducible
    repeat' first
      | assumption | refine kept_raise ?_ | refine kept_modPipe ?_ | refine kept_ite (fun _ => ?_) (fun _ => ?_)

theorem kept_openEnter {s0 : State} {s : State} {p : Nat} {n : Nat} {fid : Nat} {epoch : Nat} {w : Nat} {h_ : Nat} {embed : Option Sys2Proof.Bytes}
    {slot : Option Nat} (h0 : Kept W s0 s) (w_hbm : W.hbm = true) : Kept W s0 (State.openEnter s p n fid epoch w h_ embed slot) := by
  unfold State.openEnter
  try dsimp only
  with_reducible
    repeat' first
      | assumption | refine kept_slotReuse ?_ ?_ | refine kept_replayLate ?_ | refine kept_capOpen ?_ | refine kept_modPipe ?_
      | refine kept_recGap ?_ | refine kept_flagOpen ?_ | refine kept_patchGap ?_ | refine kept_trace ?_
      | refine kept_ite (fun _ => ?_) (fun _ => ?_) | simp only [kept_mk] | refine kept_foldl (fun _ _ _ => ?_) ?_ | split

theorem kept_openFrame {s0 : State} {s : State} {n : Nat} {counter : Nat} {free : Bool} {bitsSet : List Nat} (h0 : Kept W s0 s)
    (w_hbm : W.hbm = true) (w_lut : W.lut = true) : Kept W s0 (State.openFrame s n counter free bitsSet) := by
  unfold State.openFrame
  try dsimp only
  with_reducible
    repeat' first
      | assumption | refine kept_openNumber ?_ ?_ ?_ | refine kept_sgBoundary ?_ | refine kept_modStream ?_ | refine kept_openEnter ?_ ?_
      | refine kept_foldl (fun _ _ _ => ?_) ?_ | split

theorem kept_openSrc {s0 : State} {s : State} {n : Nat} {die : Nat} {counter : Nat} {fs : Bool} (h0 : Kept W s0 s) (w_hbm : W.hbm = true)
    : Kept W s0 (State.openSrc s n die counter fs) := by
  unfold State.openSrc
  try dsimp only
  with_reducible
    repeat' first
      | assumption | refine kept_flagOpen ?_ | refine kept_modOpen ?_ | refine kept_modStream ?_ | refine kept_closeFrame ?_ ?_
      | refine kept_foldl (fun _ _ _ => ?_) ?_ | split

theorem kept_acceptPacket {s0 : State} {s : State} {n : Nat} {die : Nat} {counter : Nat} {fs : Bool} {free : Bool} (h0 : Kept W s0 s)
    (w_hbm : W.hbm = true) (w_lut : W.lut = true) : Kept W s0 (State.acceptPacket s n die counter fs free).1 := by
  unfold State.acceptPacket
  try dsimp only
  with_reducible
    repeat' first
      | assumption | refine kept_openFrame ?_ ?_ ?_ | refine kept_modOpen ?_ | refine kept_modStream ?_ | refine kept_closeFrame ?_ ?_
      | refine kept_openSrc ?_ ?_ | refine kept_foldl (fun _ _ _ => ?_) ?_ | split

theorem kept_closeSrc {s0 : State} {s : State} {n : Nat} {die : Nat} (h0 : Kept W s0 s) (w_hbm : W.hbm = true)
    : Kept W s0 (State.closeSrc s n die) := by
  unfold State.closeSrc
  try dsimp only
  with_reducible
    repeat' first
      | assumption | refine kept_modOpen ?_ | refine kept_closeFrame ?_ ?_ | refine kept_foldl (fun _ _ _ => ?_) ?_ | split

theorem kept_releaseDue {s0 : State} {s : State} {n : Nat} {i : Nat} {area : Nat} {e : Nat} {x5 : Nat} (h0 : Kept W s0 s) (w_hbm : W.hbm = true)
    : Kept W s0 (State.releaseDue s n i area e x5) := by
  induction x5 generalizing s n i area e with
  | zero =>
    unfold State.releaseDue
    try dsimp only
    repeat' first
      | with_reducible assumption
  | succ n ih =>
    unfold State.releaseDue
    try dsimp only
    repeat' first
      | with_reducible assumption | with_reducible apply ih | with_reducible refine kept_releaseLine ?_ ?_
      | with_reducible refine kept_ite (fun _ => ?_) (fun _ => ?_) | with_reducible refine keptR_ite (fun _ => ?_) (fun _ => ?_)
      | with_reducible refine kept_fst_ite (fun _ => ?_) (fun _ => ?_) | with_reducible refine kept_id ?_ | simp only [kept_mk]
      | with_reducible refine kept_foldl (fun _ _ _ => ?_) ?_ | with_reducible refine kept_fst_foldl (fun _ _ _ => ?_) ?_
      | with_reducible refine keptR_next ?_ | with_reducible exact keptR_fault | with_reducible exact keptR_refused
      | with_reducible refine keptO_some ?_ | with_reducible exact keptO_none | with_reducible exact fun h => h
      | with_reducible exact fun h => Mem.write_wf h | with_reducible exact fun h => Mem.zero_wf h
      | with_reducible exact fun h => Mem.set_wf h | with_reducible exact fun h => Mem.filter_wf h
      | with_reducible exact fun h => rising_filter h | with_reducible exact fun h => RegFile.wr_rising h
      | with_reducible exact fun h => RegFile.put_rising h | with_reducible exact fun h => judgeSet_rising h
      | with_reducible exact fun _ => rfl | exact fun _ => Mem.nil_wf | split

theorem kept_addSamples {s0 : State} {s : State} {n : Nat} {i : Nat} {area : Nat} {e : Nat} {line : Nat} {column : Nat} {vals : List Nat}
    (h0 : Kept W s0 s) (w_hbm : W.hbm = true) : Kept W s0 (State.addSamples s n i area e line column vals) := by
  unfold State.addSamples
  try dsimp only
  with_reducible
    repeat' first
      | assumption | refine kept_flagOpen ?_ | refine kept_modSrc ?_ | refine kept_releaseDue ?_ ?_
      | refine kept_foldl (fun _ _ _ => ?_) ?_ | split

theorem kept_addToDie {s0 : State} {s : State} {n : Nat} {die : Nat} {area : Nat} {e : Nat} {line : Nat} {column : Nat} {vals : List Nat}
    (h0 : Kept W s0 s) (w_hbm : W.hbm = true) : Kept W s0 (State.addToDie s n die area e line column vals) := by
  unfold State.addToDie
  try dsimp only
  with_reducible
    repeat' first
      | assumption | refine kept_addSamples ?_ ?_ | refine kept_foldl (fun _ _ _ => ?_) ?_ | split

theorem kept_addEmbed {s0 : State} {s : State} {n : Nat} {data : Sys2Proof.Bytes} (h0 : Kept W s0 s) : Kept W s0 (State.addEmbed s n data)
    := by
  unfold State.addEmbed
  try dsimp only
  with_reducible
    repeat' first
      | assumption | refine kept_modOpen ?_ | refine kept_flagOpen ?_ | refine kept_foldl (fun _ _ _ => ?_) ?_ | split

theorem kept_slkPacket {s0 : State} {s : State} {g : Nat} {pkt : Sys2Proof.Bytes} (h0 : Kept W s0 s) (w_hbm : W.hbm = true)
    (w_lut : W.lut = true) : Kept W s0 (State.slkPacket s g pkt) := by
  unfold State.slkPacket
  try dsimp only
  with_reducible
    repeat' first
      | assumption | refine kept_flagGroup ?_ | refine kept_badPkt ?_ | refine kept_flagOpen ?_ | refine kept_acceptPacket ?_ ?_ ?_
      | refine kept_inc ?_ | refine kept_closeSrc ?_ ?_ | refine kept_addToDie ?_ ?_ | refine kept_addEmbed ?_
      | refine kept_foldl (fun _ _ _ => ?_) ?_ | split

theorem kept_takePacket {s0 : State} {s : State} {g : Nat} {pkt : Sys2Proof.Bytes} (h0 : Kept W s0 s)
    : Kept W s0 (State.takePacket s g pkt) := by
  unfold State.takePacket
  try dsimp only
  with_reducible
    repeat' first
      | assumption | simp only [kept_mk]

theorem kept_bufferFull {s0 : State} {s : State} {full : Bool} (h0 : Kept W s0 s) : Kept W s0 (State.bufferFull s full) := by
  unfold State.bufferFull
  try dsimp only
  with_reducible
    repeat' first
      | assumption | refine kept_inc ?_ | refine kept_ite (fun _ => ?_) (fun _ => ?_) | simp only [kept_mk]

theorem kept_packetRow {s0 : State} {s : State} {g : Nat} {types : Nat → Bool} {pkt : Sys2Proof.Bytes} {full : Bool} (h0 : Kept W s0 s)
    (w_hbm : W.hbm = true) (w_lut : W.lut = true) : Kept W s0 (State.packetRow s g types pkt full) := by
  unfold State.packetRow
  try dsimp only
  with_reducible
    repeat' first
      | assumption | refine kept_slkPacket ?_ ?_ ?_ | refine kept_takePacket ?_ | refine kept_bufferFull ?_
      | refine kept_ite (fun _ => ?_) (fun _ => ?_)

theorem kept_execEmbed {s0 : State} {g : Nat} {pkt : Sys2Proof.Bytes} {s : State} (h2 : Kept W s0 s) (w_hbm : W.hbm = true)
    (w_lut : W.lut = true) : KeptR W s0 (execEmbed g pkt s) := by
  unfold execEmbed
  try dsimp only
  with_reducible
    repeat' first
      | assumption | refine kept_packetRow ?_ ?_ ?_ | refine keptR_next ?_

theorem kept_csiDropped {s0 : State} {s : State} {c : Nat} (h0 : Kept W s0 s) : Kept W s0 (State.csiDropped s c) := by
  unfold State.csiDropped
  try dsimp only
  with_reducible
    repeat' first
      | assumption | refine kept_inc ?_

theorem kept_loadOfs {s0 : State} {s : State} {o : ℤ} (h0 : Kept W s0 s) : Kept W s0 (State.loadOfs s o) := by
  unfold State.loadOfs
  try dsimp only
  with_reducible
    repeat' first
      | assumption | refine kept_put ?_ | refine kept_modTime ?_

theorem kept_audShift {s0 : State} {s : State} {d : ℤ} (h0 : Kept W s0 s) : Kept W s0 (State.audShift s d) := by
  unfold State.audShift
  try dsimp only
  with_reducible
    repeat' first
      | assumption | refine kept_modAud ?_ | refine kept_put ?_ | refine kept_modPort ?_ | refine kept_foldl (fun _ _ _ => ?_) ?_ | split

theorem kept_dtSwitch {s0 : State} {s : State} {n : Nat} {mode : Nat} {auto : Bool} (h0 : Kept W s0 s)
    : Kept W s0 (State.dtSwitch s n mode auto) := by
  unfold State.dtSwitch
  try dsimp only
  with_reducible
    repeat' first
      | assumption | refine kept_loadOfs ?_ | refine kept_put ?_ | refine kept_audShift ?_ | refine kept_inc ?_ | refine kept_ev ?_
      | refine kept_ite (fun _ => ?_) (fun _ => ?_)

end Sys2Proof.Machine
end

