-- ==== Sys2Proof/Laws/Kept2.lean ====
section
/-! SUPPORT. What each helper and each meaning keeps, part 2: one lemma per function, named after it. -/

namespace Sys2Proof.Machine

variable {W : Writes}

theorem kept_beat {s0 : State} {s : State} {n : Nat} (h0 : Kept W s0 s) : Kept W s0 (State.beat s n) := by
  unfold State.beat
  try dsimp only
  with_reducible
    repeat' first
      | assumption | refine kept_modTime ?_ | refine kept_put ?_ | refine kept_dtSwitch ?_ | refine kept_ite (fun _ => ?_) (fun _ => ?_)

theorem kept_execBeat {s0 : State} {n : Nat} {s : State} (h1 : Kept W s0 s) : KeptR W s0 (execBeat n s) := by
  unfold execBeat
  try dsimp only
  with_reducible
    repeat' first
      | assumption | refine kept_onUnit ?_ (fun _ _ => ?_) | refine kept_beat ?_ | refine keptR_next ?_

theorem kept_strapShow {s0 : State} {s : State} (h0 : Kept W s0 s) : Kept W s0 (State.strapShow s) := by
  unfold State.strapShow
  try dsimp only
  with_reducible
    repeat' first
      | assumption | refine kept_put ?_ | refine kept_wr ?_

theorem kept_modCpr {s0 : State} {s : State} {f : Sys2Proof.Machine.CprSt → Sys2Proof.Machine.CprSt} (h0 : Kept W s0 s)
    : Kept W s0 (State.modCpr s f) := by
  unfold State.modCpr
  try dsimp only
  with_reducible
    repeat' first
      | assumption | simp only [kept_mk]

theorem kept_coldReset {s0 : State} {s : State} {hold trip : Bool} (h : Kept W s0 s) (w_hbm : W.hbm = true) (w_lut : W.lut = true)
    : Kept W s0 (State.coldReset s hold trip) := by
  unfold State.coldReset
  extract_lets r s1 s2 s3 s4 s5 w
  refine kept_modCpr (kept_wr (kept_put (kept_put (kept_put (kept_put (kept_foldl (fun t c ht => kept_wr ht)
    (kept_strapShow (kept_wr ?_))))))))
  exact kept_core h (fun h => rising_filter h) (fun h => h) (fun h => h) (fun _ => rfl) (fun h => h) (fun _ => rfl) (fun _ => rfl)
    (fun h => h)
    (fun _ => rfl) (fun _ => rfl) (fun w => absurd (w_hbm.symm.trans w) (by decide)) (fun w => absurd (w_hbm.symm.trans w) (by decide))
    (fun _ => rfl) (fun w => absurd (w_lut.symm.trans w) (by decide)) (fun _ => rfl)

theorem kept_tripNow {s0 : State} {s : State} {temp : ℤ} (h0 : Kept W s0 s) (w_hbm : W.hbm = true) (w_lut : W.lut = true)
    : Kept W s0 (State.tripNow s temp) := by
  unfold State.tripNow
  try dsimp only
  with_reducible
    repeat' first
      | assumption | refine kept_coldReset ?_ ?_ ?_ | refine kept_ite (fun _ => ?_) (fun _ => ?_)

theorem kept_execThermalTrip {s0 : State} {temp : ℤ} {s : State} (h1 : Kept W s0 s) (w_hbm : W.hbm = true) (w_lut : W.lut = true)
    : KeptR W s0 (execThermalTrip temp s) := by
  unfold execThermalTrip
  try dsimp only
  with_reducible
    repeat' first
      | assumption | refine kept_tripNow ?_ ?_ ?_ | refine keptR_next ?_

theorem kept_putPair {s0 : State} {s : State} {lo : Sys2Proof.Machine.Reg} {hi : Sys2Proof.Machine.Reg} {ix : List Nat} {v : Nat}
    (h0 : Kept W s0 s) : Kept W s0 (State.putPair s lo hi ix v) := by
  unfold State.putPair
  try dsimp only
  with_reducible
    repeat' first
      | assumption | refine kept_wr64 ?_ | simp only [kept_mk]

theorem kept_tbInc {s0 : State} {s : State} {n : Nat} {hi : Nat} (h0 : Kept W s0 s) : Kept W s0 (State.tbInc s n hi) := by
  unfold State.tbInc
  try dsimp only
  with_reducible
    repeat' first
      | assumption | refine kept_modTime ?_ | refine kept_putPair ?_ | refine kept_ite (fun _ => ?_) (fun _ => ?_) | simp only [kept_mk]

theorem kept_setResult {s0 : State} {s : State} {id : Nat} {st : Nat} {data : Nat} (h0 : Kept W s0 s)
    : Kept W s0 (State.setResult s id st data) := by
  unfold State.setResult
  try dsimp only
  with_reducible
    repeat' first
      | assumption | simp only [kept_mk]

theorem kept_closeIdle {s0 : State} {s : State} (h0 : Kept W s0 s) (w_ohost : W.ohost = true) : Kept W s0 (State.closeIdle s) := by
  unfold State.closeIdle
  try dsimp only
  with_reducible
    repeat' first
      | assumption | refine kept_recShow ?_ ?_ | refine kept_modRec ?_ | refine kept_setResult ?_
      | refine kept_ite (fun _ => ?_) (fun _ => ?_) | simp only [kept_mk] | refine kept_foldl (fun _ _ _ => ?_) ?_

theorem kept_wakeWaiters {s0 : State} {s : State} (h0 : Kept W s0 s) (w_ohost : W.ohost = true) : Kept W s0 (State.wakeWaiters s) := by
  unfold State.wakeWaiters
  try dsimp only
  with_reducible
    repeat' first
      | assumption | refine kept_modRec ?_ | refine kept_closeIdle ?_ ?_ | refine kept_recShow ?_ ?_ | refine kept_setResult ?_
      | refine kept_foldl (fun _ _ _ => ?_) ?_ | split

theorem kept_skyAnnounce {s0 : State} {s : State} (h0 : Kept W s0 s) : Kept W s0 (State.skyAnnounce s) := by
  unfold State.skyAnnounce
  try dsimp only
  with_reducible
    repeat' first
      | assumption | refine kept_skySend ?_ | refine kept_modSky ?_

theorem kept_evSkyState {s0 : State} {s : State} (h0 : Kept W s0 s) : Kept W s0 (State.evSkyState s) := by
  unfold State.evSkyState
  try dsimp only
  with_reducible
    repeat' first
      | assumption | refine kept_ev ?_

theorem kept_skyForm {s0 : State} {s : State} (h0 : Kept W s0 s) : Kept W s0 (State.skyForm s) := by
  unfold State.skyForm
  try dsimp only
  with_reducible
    repeat' first
      | assumption | refine kept_put ?_ | refine kept_wr ?_ | refine kept_wr64 ?_ | refine kept_modSky ?_ | refine kept_skyAnnounce ?_
      | refine kept_evSkyState ?_

theorem kept_skyEnable {s0 : State} {s : State} (h0 : Kept W s0 s) : Kept W s0 (State.skyEnable s) := by
  unfold State.skyEnable
  try dsimp only
  with_reducible
    repeat' first
      | assumption | refine kept_skyForm ?_ | refine kept_put ?_ | refine kept_ite (fun _ => ?_) (fun _ => ?_)

theorem kept_skyBegin {s0 : State} {s : State} (h0 : Kept W s0 s) : Kept W s0 (State.skyBegin s) := by
  unfold State.skyBegin
  try dsimp only
  with_reducible
    repeat' first
      | assumption | refine kept_skyEnable ?_ | refine kept_ite (fun _ => ?_) (fun _ => ?_)

theorem kept_skyPathChange {s0 : State} {s : State} {path : Nat} {up : Bool} (h0 : Kept W s0 s) : Kept W s0 (State.skyPathChange s path up)
    := by
  unfold State.skyPathChange
  try dsimp only
  with_reducible
    repeat' first
      | assumption | refine kept_put ?_ | refine kept_ev ?_ | refine kept_ite (fun _ => ?_) (fun _ => ?_)

theorem kept_vsense {s0 : State} {s : State} {mv : Nat} (h0 : Kept W s0 s) : Kept W s0 (State.vsense s mv) := by
  unfold State.vsense
  try dsimp only
  with_reducible
    repeat' first
      | assumption | refine kept_put ?_

theorem kept_duskEnd {s0 : State} {s : State} {mv : Nat} (h0 : Kept W s0 s) : Kept W s0 (State.duskEnd s mv) := by
  unfold State.duskEnd
  try dsimp only
  with_reducible
    repeat' first
      | assumption | refine kept_put ?_ | refine kept_vsense ?_ | refine kept_ev ?_ | refine kept_modCpr ?_
      | refine kept_ite (fun _ => ?_) (fun _ => ?_)

theorem kept_patchPresets {s0 : State} {s : State} {l : List Sys2Proof.Machine.Patch} (h0 : Kept W s0 s)
    : Kept W s0 (State.patchPresets s l) := by
  unfold State.patchPresets
  try dsimp only
  with_reducible
    repeat' first
      | assumption | refine kept_wr ?_ | refine kept_foldl (fun _ _ _ => ?_) ?_ | split

theorem kept_commit {s0 : State} {s : State} {sky : Bool} {go : Bool} {cond : Nat} {refPipe : Nat} {frame : Nat} {time : Nat} (h0 : Kept W s0 s)
    : Kept W s0 (State.commit s sky go cond refPipe frame time) := by
  unfold State.commit
  try dsimp only
  with_reducible
    repeat' first
      | assumption | refine kept_patchPresets ?_ | refine kept_put ?_ | refine kept_ite (fun _ => ?_) (fun _ => ?_)
      | refine keptR_ite (fun _ => ?_) (fun _ => ?_) | refine kept_fst_ite (fun _ => ?_) (fun _ => ?_) | refine kept_id ?_
      | simp only [kept_mk] | refine kept_foldl (fun _ _ _ => ?_) ?_ | refine kept_fst_foldl (fun _ _ _ => ?_) ?_ | refine keptR_next ?_
      | exact keptR_fault | exact keptR_refused | refine keptO_some ?_ | exact keptO_none | exact fun h => h
      | exact fun h => Mem.write_wf h | exact fun h => Mem.zero_wf h | exact fun h => Mem.set_wf h | exact fun h => Mem.filter_wf h
      | exact fun h => rising_filter h | exact fun h => RegFile.wr_rising h | exact fun h => RegFile.put_rising h
      | exact fun h => judgeSet_rising h | exact fun _ => rfl | exact fun _ => Mem.nil_wf | split | refine kept_mk_regs ?_ ?_

theorem kept_skyTake {s0 : State} {s : State} {e : Nat} {t : Nat} (h0 : Kept W s0 s) : Kept W s0 (State.skyTake s e t) := by
  unfold State.skyTake
  try dsimp only
  with_reducible
    repeat' first
      | assumption | refine kept_modSky ?_ | refine kept_commit ?_ | refine kept_ite (fun _ => ?_) (fun _ => ?_)

theorem kept_modHbm {s0 : State} {s : State} {f : Sys2Proof.Machine.HbmSt → Sys2Proof.Machine.HbmSt} (h0 : Kept W s0 s)
    : Kept W s0 (State.modHbm s f) := by
  unfold State.modHbm
  try dsimp only
  with_reducible
    repeat' first
      | assumption | simp only [kept_mk]

theorem kept_groupsShow {s0 : State} {s : State} (h0 : Kept W s0 s) : Kept W s0 (State.groupsShow s) := by
  unfold State.groupsShow
  try dsimp only
  with_reducible
    repeat' first
      | assumption | refine kept_put ?_ | refine kept_ev ?_ | refine kept_foldl (fun _ _ _ => ?_) ?_ | split

theorem kept_channelRelease {s0 : State} {s : State} {n : Nat} {byHost : Bool} (h0 : Kept W s0 s)
    : Kept W s0 (State.channelRelease s n byHost) := by
  unfold State.channelRelease
  try dsimp only
  with_reducible
    repeat' first
      | assumption | refine kept_modHbm ?_ | refine kept_put ?_ | refine kept_groupsShow ?_ | refine kept_ite (fun _ => ?_) (fun _ => ?_)
      | simp only [kept_mk]

theorem kept_putPeer {s0 : State} {s : State} {p : Sys2Proof.Machine.SkyPeer} (h0 : Kept W s0 s) : Kept W s0 (State.putPeer s p) := by
  unfold State.putPeer
  try dsimp only
  with_reducible
    repeat' first
      | assumption | refine kept_modSky ?_

theorem kept_recPacket {s0 : State} {s : State} {id : Nat} {opcode : Nat} {landedOk : Bool}
    {body : Sys2Proof.Machine.Packet → Sys2Proof.Machine.State} (h0 : Kept W s0 s) (h4 : ∀ a0, Kept W s0 (body a0))
    : Kept W s0 (State.recPacket s id opcode landedOk body) := by
  unfold State.recPacket
  try dsimp only
  with_reducible
    repeat' first
      | assumption | apply h4 | refine kept_setResult ?_ | refine kept_foldl (fun _ _ _ => ?_) ?_ | split

theorem kept_issue {s0 : State} {s : State} {row : Nat} {kind : Nat} {take : Nat} {data : Sys2Proof.Bytes} (h0 : Kept W s0 s)
    : Kept W s0 (State.issue s row kind take data) := by
  unfold State.issue
  try dsimp only
  with_reducible
    repeat' first
      | assumption | refine kept_modRec ?_

theorem kept_startCkpt {s0 : State} {s : State} (h0 : Kept W s0 s) : Kept W s0 (State.startCkpt s) := by
  unfold State.startCkpt
  try dsimp only
  with_reducible
    repeat' first
      | assumption | refine kept_modRec ?_ | refine kept_issue ?_ | refine kept_foldl (fun _ _ _ => ?_) ?_ | split

theorem kept_checkpointPkt {s0 : State} {s : State} {id : Nat} (h0 : Kept W s0 s) : Kept W s0 (State.checkpointPkt s id) := by
  unfold State.checkpointPkt
  try dsimp only
  with_reducible
    repeat' first
      | assumption | refine kept_recPacket ?_ (fun _ => ?_) | refine kept_setResult ?_ | refine kept_modRec ?_ | refine kept_startCkpt ?_
      | refine kept_ite (fun _ => ?_) (fun _ => ?_)

theorem kept_execCheckpoint {s0 : State} {id : Nat} {s : State} (h1 : Kept W s0 s) : KeptR W s0 (execCheckpoint id s) := by
  unfold execCheckpoint
  try dsimp only
  with_reducible
    repeat' first
      | assumption | refine kept_checkpointPkt ?_ | refine keptR_next ?_

theorem kept_skyDown {s0 : State} {s : State} {typ : Nat} {body : Sys2Proof.Bytes} (h0 : Kept W s0 s)
    : Kept W s0 (State.skyDown s typ body) := by
  unfold State.skyDown
  try dsimp only
  with_reducible
    repeat' first
      | assumption | refine kept_skySend ?_ | refine kept_ite (fun _ => ?_) (fun _ => ?_)

theorem kept_skyHold {s0 : State} {s : State} {e : Nat} (h0 : Kept W s0 s) : Kept W s0 (State.skyHold s e) := by
  unfold State.skyHold
  try dsimp only
  with_reducible
    repeat' first
      | assumption | refine kept_wr ?_ | refine kept_modSky ?_ | refine kept_ite (fun _ => ?_) (fun _ => ?_) | simp only [kept_mk]

theorem kept_skyCopies {s0 : State} {s : State} {typ : Nat} {e : Nat} (h0 : Kept W s0 s) : Kept W s0 (State.skyCopies s typ e) := by
  unfold State.skyCopies
  try dsimp only
  with_reducible
    repeat' first
      | assumption | refine kept_skySendAt ?_ | refine kept_foldl (fun _ _ _ => ?_) ?_ | split

theorem kept_skyDrop {s0 : State} {s : State} (h0 : Kept W s0 s) : Kept W s0 (State.skyDrop s) := by
  unfold State.skyDrop
  try dsimp only
  with_reducible
    repeat' first
      | assumption | refine kept_put ?_ | refine kept_modSky ?_ | refine kept_ite (fun _ => ?_) (fun _ => ?_) | simp only [kept_mk]

theorem kept_skyAbort {s0 : State} {s : State} {e : Nat} (h0 : Kept W s0 s) : Kept W s0 (State.skyAbort s e) := by
  unfold State.skyAbort
  try dsimp only
  with_reducible
    repeat' first
      | assumption | refine kept_skyEnded ?_ | refine kept_skyDrop ?_ | refine kept_modSky ?_ | refine kept_foldl (fun _ _ _ => ?_) ?_
      | split

theorem kept_skyRootDecide {s0 : State} {s : State} (h0 : Kept W s0 s) : Kept W s0 (State.skyRootDecide s) := by
  unfold State.skyRootDecide
  try dsimp only
  with_reducible
    repeat' first
      | assumption | refine kept_modSky ?_ | refine kept_skyHold ?_ | refine kept_skyCopies ?_ | refine kept_skyAbort ?_
      | refine kept_foldl (fun _ _ _ => ?_) ?_ | split

theorem kept_skyAnswer {s0 : State} {s : State} {fill : Bool} (h0 : Kept W s0 s) : Kept W s0 (State.skyAnswer s fill) := by
  unfold State.skyAnswer
  try dsimp only
  with_reducible
    repeat' first
      | assumption | refine kept_skyRootDecide ?_ | refine kept_skyUp ?_ | refine kept_modSky ?_ | refine kept_foldl (fun _ _ _ => ?_) ?_
      | split

theorem kept_skyStart {s0 : State} {s : State} {r : Sys2Proof.Machine.SkyReq} (h0 : Kept W s0 s) : Kept W s0 (State.skyStart s r) := by
  unfold State.skyStart
  try dsimp only
  with_reducible
    repeat' first
      | assumption | refine kept_skyDown ?_ | refine kept_modSky ?_ | refine kept_skyAnswer ?_ | refine kept_skyTake ?_
      | refine kept_foldl (fun _ _ _ => ?_) ?_ | split

theorem kept_skyQueue {s0 : State} {s : State} {r : Sys2Proof.Machine.SkyReq} (h0 : Kept W s0 s) : Kept W s0 (State.skyQueue s r) := by
  unfold State.skyQueue
  try dsimp only
  with_reducible
    repeat' first
      | assumption | refine kept_skyStart ?_ | refine kept_modSky ?_ | refine kept_skyEnded ?_
      | refine kept_ite (fun _ => ?_) (fun _ => ?_)

theorem kept_skyAsk {s0 : State} {s : State} {op : Nat} {v : Nat} (h0 : Kept W s0 s) : Kept W s0 (State.skyAsk s op v) := by
  unfold State.skyAsk
  try dsimp only
  with_reducible
    repeat' first
      | assumption | refine kept_writeFields ?_ | refine kept_skyEnded ?_ | refine kept_modSky ?_ | refine kept_skyQueue ?_
      | refine kept_skyUp ?_ | refine kept_ite (fun _ => ?_) (fun _ => ?_)

theorem kept_execSkyOpSnapshot {s0 : State} {arg : Nat} {s : State} (h1 : Kept W s0 s) : KeptR W s0 (execSkyOpSnapshot arg s) := by
  unfold execSkyOpSnapshot
  try dsimp only
  with_reducible
    repeat' first
      | assumption | refine kept_onUnit ?_ (fun _ _ => ?_) | refine kept_skyAsk ?_ | refine keptR_next ?_

theorem kept_tickHours {s0 : State} {s : State} {n : Nat} {old : Nat} (h0 : Kept W s0 s) : Kept W s0 (State.tickHours s n old) := by
  unfold State.tickHours
  try dsimp only
  with_reducible
    repeat' first
      | assumption | refine kept_wr ?_ | refine kept_ite (fun _ => ?_) (fun _ => ?_) | simp only [kept_mk]

theorem kept_tickAud {s0 : State} {s : State} {n before : Nat} (h : Kept W s0 s) : Kept W s0 (State.tickAud s n before) := by
  unfold State.tickAud
  exact kept_mk.2 h

theorem kept_tickTime {s0 : State} {s : State} {n : Nat} (h0 : Kept W s0 s) : Kept W s0 (State.tickTime s n) := by
  unfold State.tickTime
  try dsimp only
  with_reducible
    repeat' first
      | assumption | refine kept_ite (fun _ => ?_) (fun _ => ?_) | simp only [kept_mk]

theorem kept_advance {s0 : State} {s : State} {n : Nat} (h0 : Kept W s0 s) : Kept W s0 (State.advance s n) := by
  unfold State.advance
  try dsimp only
  with_reducible
    repeat' first
      | assumption | refine kept_tickHours ?_ | refine kept_tickAud ?_ | refine kept_tickTime ?_

theorem kept_reach {s0 : State} {s : State} {b : Nat} {t : Nat} {x3 : Nat} (h0 : Kept W s0 s) : Kept W s0 (State.reach s b t x3) := by
  induction x3 generalizing s b t with
  | zero =>
    unfold State.reach
    try dsimp only
    repeat' first
      | with_reducible assumption
  | succ n ih =>
    unfold State.reach
    try dsimp only
    repeat' first
      | with_reducible assumption | with_reducible apply ih | with_reducible refine kept_advance ?_
      | with_reducible refine kept_ite (fun _ => ?_) (fun _ => ?_)

theorem kept_reachDt {s0 : State} {s : State} {t : Nat} (h0 : Kept W s0 s) : Kept W s0 (State.reachDt s t) := by
  unfold State.reachDt
  try dsimp only
  with_reducible
    repeat' first
      | assumption | refine kept_reach ?_

theorem kept_skyAckDeadline {s0 : State} {s : State} (h0 : Kept W s0 s) : Kept W s0 (State.skyAckDeadline s) := by
  unfold State.skyAckDeadline
  try dsimp only
  with_reducible
    repeat' first
      | assumption | refine kept_skyAnswer ?_ | refine kept_reachDt ?_ | refine kept_foldl (fun _ _ _ => ?_) ?_ | split

theorem kept_execAckDeadline {s0 : State} {s : State} (h0 : Kept W s0 s) : KeptR W s0 (execAckDeadline s) := by
  unfold execAckDeadline
  try dsimp only
  with_reducible
    repeat' first
      | assumption | refine kept_skyAckDeadline ?_ | refine keptR_next ?_

theorem kept_psGo {s0 : State} {s : State} {ps : Nat} {auto : Bool} (h0 : Kept W s0 s) : Kept W s0 (State.psGo s ps auto) := by
  unfold State.psGo
  try dsimp only
  with_reducible
    repeat' first
      | assumption | refine kept_put ?_ | refine kept_modOfl ?_ (fun _ => ?_) | refine kept_ite (fun _ => ?_) (fun _ => ?_)
      | refine keptR_ite (fun _ => ?_) (fun _ => ?_) | refine kept_fst_ite (fun _ => ?_) (fun _ => ?_) | refine kept_id ?_
      | simp only [kept_mk] | refine kept_foldl (fun _ _ _ => ?_) ?_ | refine kept_fst_foldl (fun _ _ _ => ?_) ?_ | refine keptR_next ?_
      | exact keptR_fault | exact keptR_refused | refine keptO_some ?_ | exact keptO_none | exact fun h => h

theorem kept_apstGo {s0 : State} {s : State} (h0 : Kept W s0 s) : Kept W s0 (State.apstGo s) := by
  unfold State.apstGo
  try dsimp only
  with_reducible
    repeat' first
      | assumption | refine kept_psGo ?_ | refine kept_ite (fun _ => ?_) (fun _ => ?_)

theorem kept_execApstTransition {s0 : State} {s : State} (h0 : Kept W s0 s) : KeptR W s0 (execApstTransition s) := by
  unfold execApstTransition
  try dsimp only
  with_reducible
    repeat' first
      | assumption | refine kept_apstGo ?_ | refine keptR_next ?_

theorem kept_abort {s0 : State} {s : State} {c : Sys2Proof.NvmeCmd} {id : Nat} (h0 : Kept W s0 s) (w_ohost : W.ohost = true)
    : Kept W s0 (State.abort s c id) := by
  unfold State.abort
  try dsimp only
  with_reducible
    repeat' first
      | assumption | refine kept_oflComplete ?_ ?_ | refine kept_foldl (fun _ _ _ => ?_) ?_ | split

theorem kept_reachClk {s0 : State} {s : State} {t : Nat} (h0 : Kept W s0 s) : Kept W s0 (State.reachClk s t) := by
  unfold State.reachClk
  try dsimp only
  with_reducible
    repeat' first
      | assumption | refine kept_advance ?_ | refine kept_ite (fun _ => ?_) (fun _ => ?_)

theorem kept_execFrameTimeout {s0 : State} {stream : Nat} {s : State} (h1 : Kept W s0 s) (w_hbm : W.hbm = true)
    : KeptR W s0 (execFrameTimeout stream s) := by
  unfold execFrameTimeout
  try dsimp only
  with_reducible
    repeat' first
      | assumption | refine kept_closeFrame ?_ ?_ | refine kept_reachClk ?_ | refine keptR_next ?_
      | refine kept_foldl (fun _ _ _ => ?_) ?_ | split

theorem kept_jobGone {s0 : State} {s : State} {i : Nat} (h0 : Kept W s0 s) : Kept W s0 (State.jobGone s i) := by
  unfold State.jobGone
  try dsimp only
  with_reducible
    repeat' first
      | assumption | simp only [kept_mk]

theorem kept_zstRingJob {s0 : State} {s : State} {e : Nat} (h0 : Kept W s0 s) : Kept W s0 (State.zstRingJob s e) := by
  unfold State.zstRingJob
  try dsimp only
  with_reducible
    repeat' first
      | assumption | refine kept_jobGone ?_ | refine kept_wr ?_ | refine kept_ite (fun _ => ?_) (fun _ => ?_) | simp only [kept_mk]

theorem kept_zstJob {s0 : State} {s : State} {e : Nat} (h0 : Kept W s0 s) : Kept W s0 (State.zstJob s e) := by
  unfold State.zstJob
  try dsimp only
  with_reducible
    repeat' first
      | assumption | refine kept_modRec ?_ | refine kept_zstRingJob ?_ | refine kept_ite (fun _ => ?_) (fun _ => ?_) | simp only [kept_mk]
      | refine kept_foldl (fun _ _ _ => ?_) ?_ | split

theorem kept_execZstJob {s0 : State} {e : Nat} {s : State} (h1 : Kept W s0 s) : KeptR W s0 (execZstJob e s) := by
  unfold execZstJob
  try dsimp only
  with_reducible
    repeat' first
      | assumption | refine kept_zstJob ?_ | refine keptR_next ?_

theorem kept_csiErr {s0 : State} {s : State} {c : Nat} {packets : Nat} (h0 : Kept W s0 s) : Kept W s0 (State.csiErr s c packets) := by
  unfold State.csiErr
  try dsimp only
  with_reducible
    repeat' first
      | assumption | refine kept_evLimited ?_

theorem kept_csiHeader {s0 : State} {s : State} {c : Nat} {h_ : Sys2Proof.CsiHdr}
    {body : State → Sys2Proof.Machine.State} (h0 : Kept W s0 s) (h3 : ∀ a0, Kept W s0 a0 → Kept W s0 (body a0))
    : Kept W s0 (State.csiHeader s c h_ body) := by
  unfold State.csiHeader
  try dsimp only
  with_reducible
    repeat' first
      | assumption | apply h3 | refine kept_flagOpen ?_ | refine kept_csiErr ?_ | refine kept_csiDropped ?_ | refine kept_put ?_
      | refine kept_inc ?_ | refine kept_foldl (fun _ _ _ => ?_) ?_ | split

theorem kept_csiPacket {s0 : State} {s : State} {c : Nat} {h_ : Sys2Proof.CsiHdr}
    {body : Sys2Proof.Machine.StreamRec → State → Sys2Proof.Machine.State} (h0 : Kept W s0 s)
    (h3 : ∀ a0 a1, Kept W s0 a1 → Kept W s0 (body a0 a1)) : Kept W s0 (State.csiPacket s c h_ body) := by
  unfold State.csiPacket
  try dsimp only
  with_reducible
    repeat' first
      | assumption | apply h3 | refine kept_csiHeader ?_ (fun _ _ => ?_) | refine kept_csiDropped ?_
      | refine kept_foldl (fun _ _ _ => ?_) ?_ | split

theorem kept_execCsi2Fe {s0 : State} {c : Nat} {h_ : Sys2Proof.CsiHdr} {s : State} (h2 : Kept W s0 s) (w_hbm : W.hbm = true)
    (w_lut : W.lut = true) : KeptR W s0 (execCsi2Fe c h_ s) := by
  unfold execCsi2Fe
  try dsimp only
  with_reducible
    repeat' first
      | assumption | refine kept_csiPacket ?_ (fun _ _ _ => ?_) | refine kept_closeSrc ?_ ?_ | refine kept_acceptPacket ?_ ?_ ?_
      | refine kept_csiDropped ?_ | refine keptR_next ?_ | refine kept_foldl (fun _ _ _ => ?_) ?_ | split

theorem kept_substitute {s0 : State} {s : State} {p : Nat} {cls : Nat} {n : Nat} {spare : Nat} (h0 : Kept W s0 s)
    : Kept W s0 (State.substitute s p cls n spare) := by
  unfold State.substitute
  try dsimp only
  with_reducible
    repeat' first
      | assumption | refine kept_put ?_ | refine kept_modHlt ?_ | simp only [kept_mk]

theorem kept_oflFetch {s0 : State} {s : State} {c : Sys2Proof.NvmeCmd} {row : Nat}
    {run : State → Nat → Sys2Proof.Machine.State} (h0 : Kept W s0 s) (h3 : ∀ a0 a1, Kept W s0 a0 → Kept W s0 (run a0 a1))
    (w_ohost : W.ohost = true) : Kept W s0 (State.oflFetch s c row run) := by
  unfold State.oflFetch
  try dsimp only
  with_reducible
    repeat' first
      | assumption | apply h3 | refine kept_modOfl ?_ (fun _ => ?_) | refine kept_oflShow ?_ | refine kept_oflComplete ?_ ?_
      | refine kept_ite (fun _ => ?_) (fun _ => ?_) | refine keptR_ite (fun _ => ?_) (fun _ => ?_)
      | refine kept_fst_ite (fun _ => ?_) (fun _ => ?_) | refine kept_id ?_ | simp only [kept_mk] | refine kept_foldl (fun _ _ _ => ?_) ?_
      | refine kept_fst_foldl (fun _ _ _ => ?_) ?_ | refine keptR_next ?_ | exact keptR_fault | exact keptR_refused | refine keptO_some ?_
      | exact keptO_none | exact fun h => h

theorem kept_admin {s0 : State} {s : State} {c : Sys2Proof.NvmeCmd} {opc : Nat}
    {run : State → Nat → Sys2Proof.Machine.State} (h0 : Kept W s0 s) (h3 : ∀ a0 a1, Kept W s0 a0 → Kept W s0 (run a0 a1))
    (w_ohost : W.ohost = true) : Kept W s0 (State.admin s c opc run) := by
  unfold State.admin
  try dsimp only
  with_reducible
    repeat' first
      | assumption | apply h3 | refine kept_oflFetch ?_ (fun _ _ _ => ?_) ?_

theorem kept_fwStart {s0 : State} {s : State} {slot : Nat} {id : Nat} (h0 : Kept W s0 s) (w_ohost : W.ohost = true)
    : Kept W s0 (State.fwStart s slot id) := by
  unfold State.fwStart
  try dsimp only
  with_reducible
    repeat' first
      | assumption | refine kept_oflEvent ?_ ?_ | refine kept_oflShow ?_ | refine kept_modOfl ?_ (fun _ => ?_)
      | refine kept_ite (fun _ => ?_) (fun _ => ?_) | refine keptR_ite (fun _ => ?_) (fun _ => ?_)
      | refine kept_fst_ite (fun _ => ?_) (fun _ => ?_) | refine kept_id ?_ | simp only [kept_mk] | refine kept_foldl (fun _ _ _ => ?_) ?_
      | refine kept_fst_foldl (fun _ _ _ => ?_) ?_ | refine keptR_next ?_ | exact keptR_fault | exact keptR_refused | refine keptO_some ?_
      | exact keptO_none | exact fun h => h

theorem kept_fwCommit {s0 : State} {s : State} {c : Sys2Proof.NvmeCmd} {authentic : Bool} {id : Nat} (h0 : Kept W s0 s)
    (w_ohost : W.ohost = true) : Kept W s0 (State.fwCommit s c authentic id) := by
  unfold State.fwCommit
  try dsimp only
  with_reducible
    repeat' first
      | assumption | refine kept_oflComplete ?_ ?_ | refine kept_fwStart ?_ ?_ | refine kept_modOfl ?_ (fun _ => ?_)
      | refine kept_ite (fun _ => ?_) (fun _ => ?_) | refine keptR_ite (fun _ => ?_) (fun _ => ?_)
      | refine kept_fst_ite (fun _ => ?_) (fun _ => ?_) | refine kept_id ?_ | simp only [kept_mk] | refine kept_foldl (fun _ _ _ => ?_) ?_
      | refine kept_fst_foldl (fun _ _ _ => ?_) ?_ | refine keptR_next ?_ | exact keptR_fault | exact keptR_refused | refine keptO_some ?_
      | exact keptO_none | exact fun h => h

theorem kept_execNvmeFwCommit {s0 : State} {c : Sys2Proof.NvmeCmd} {authentic : Bool} {s : State} (h2 : Kept W s0 s)
    (w_ohost : W.ohost = true) : KeptR W s0 (execNvmeFwCommit c authentic s) := by
  unfold execNvmeFwCommit
  try dsimp only
  with_reducible
    repeat' first
      | assumption | refine kept_admin ?_ (fun _ _ _ => ?_) ?_ | refine kept_fwCommit ?_ ?_ | refine keptR_next ?_

theorem kept_sdIdle {s0 : State} {s : State} (h0 : Kept W s0 s) : Kept W s0 (State.sdIdle s) := by
  unfold State.sdIdle
  try dsimp only
  with_reducible
    repeat' first
      | assumption | refine kept_put ?_ | refine kept_ite (fun _ => ?_) (fun _ => ?_)

theorem kept_sdFail {s0 : State} {s : State} {id : Nat} {st : Nat} {n : Nat} (h0 : Kept W s0 s) : Kept W s0 (State.sdFail s id st n) := by
  unfold State.sdFail
  try dsimp only
  with_reducible
    repeat' first
      | assumption | refine kept_setResult ?_ | refine kept_inc ?_ | refine kept_ite (fun _ => ?_) (fun _ => ?_)

theorem kept_sdRead {s0 : State} {s : State} {id : Nat} {data : Sys2Proof.Bytes} {stop : Nat} (h0 : Kept W s0 s) (w_hbm : W.hbm = true)
    : Kept W s0 (State.sdRead s id data stop) := by
  unfold State.sdRead
  try dsimp only
  with_reducible
    repeat' first
      | assumption | refine kept_sdIdle ?_ | refine kept_setResult ?_ | refine kept_sdFail ?_ | refine kept_hbmWrite ?_ ?_
      | refine kept_foldl (fun _ _ _ => ?_) ?_ | split

theorem kept_execSdRead {s0 : State} {id : Nat} {data : Sys2Proof.Bytes} {stop : Nat} {s : State} (h3 : Kept W s0 s) (w_hbm : W.hbm = true)
    : KeptR W s0 (execSdRead id data stop s) := by
  unfold execSdRead
  try dsimp only
  with_reducible
    repeat' first
      | assumption | refine kept_sdRead ?_ ?_ | refine keptR_next ?_

theorem kept_oflReset {s0 : State} {s : State} (h0 : Kept W s0 s) (w_ohost : W.ohost = true) : Kept W s0 (State.oflReset s) := by
  unfold State.oflReset
  try dsimp only
  with_reducible
    repeat' first
      | assumption | refine kept_testEnd ?_ | refine kept_modOfl ?_ (fun _ => ?_) | refine kept_put ?_ | refine kept_closeIdle ?_ ?_
      | refine kept_ev ?_ | refine kept_oflShow ?_ | refine kept_inc ?_ | refine kept_ite (fun _ => ?_) (fun _ => ?_)
      | refine keptR_ite (fun _ => ?_) (fun _ => ?_) | refine kept_fst_ite (fun _ => ?_) (fun _ => ?_) | refine kept_id ?_
      | simp only [kept_mk] | refine kept_foldl (fun _ _ _ => ?_) ?_ | refine kept_fst_foldl (fun _ _ _ => ?_) ?_ | refine keptR_next ?_
      | exact keptR_fault | exact keptR_refused | refine keptO_some ?_ | exact keptO_none | exact fun h => h

theorem kept_oflLinkReset {s0 : State} {s : State} (h0 : Kept W s0 s) (w_ohost : W.ohost = true) : Kept W s0 (State.oflLinkReset s) := by
  unfold State.oflLinkReset
  try dsimp only
  with_reducible
    repeat' first
      | assumption | refine kept_modOfl ?_ (fun _ => ?_) | refine kept_oflReset ?_ ?_ | refine kept_ite (fun _ => ?_) (fun _ => ?_)
      | refine keptR_ite (fun _ => ?_) (fun _ => ?_) | refine kept_fst_ite (fun _ => ?_) (fun _ => ?_) | refine kept_id ?_
      | simp only [kept_mk] | refine kept_foldl (fun _ _ _ => ?_) ?_ | refine kept_fst_foldl (fun _ _ _ => ?_) ?_ | refine keptR_next ?_
      | exact keptR_fault | exact keptR_refused | refine keptO_some ?_ | exact keptO_none | exact fun h => h

theorem kept_execOffloadLinkReset {s0 : State} {s : State} (h0 : Kept W s0 s) (w_ohost : W.ohost = true)
    : KeptR W s0 (execOffloadLinkReset s) := by
  unfold execOffloadLinkReset
  try dsimp only
  with_reducible
    repeat' first
      | assumption | refine kept_oflLinkReset ?_ ?_ | refine keptR_next ?_

theorem kept_mediaWrite {s0 : State} {s : State} {unit_ : Nat} {lba : Nat} {b : Sys2Proof.Bytes} (h0 : Kept W s0 s)
    (w_media : W.media = true) : Kept W s0 (State.mediaWrite s unit_ lba b) := by
  unfold State.mediaWrite
  try dsimp only
  with_reducible
    repeat' first
      | assumption | refine kept_ite (fun _ => ?_) (fun _ => ?_) | refine keptR_ite (fun _ => ?_) (fun _ => ?_)
      | refine kept_fst_ite (fun _ => ?_) (fun _ => ?_) | refine kept_id ?_ | simp only [kept_mk] | refine kept_foldl (fun _ _ _ => ?_) ?_
      | refine kept_fst_foldl (fun _ _ _ => ?_) ?_ | refine keptR_next ?_ | exact keptR_fault | exact keptR_refused | refine keptO_some ?_
      | exact keptO_none | exact fun h => h | exact fun h => Mem.write_wf h | exact fun h => Mem.zero_wf h | exact fun h => Mem.set_wf h
      | exact fun h => Mem.filter_wf h | exact fun h => rising_filter h | exact fun h => RegFile.wr_rising h
      | exact fun h => RegFile.put_rising h | exact fun h => judgeSet_rising h | exact fun _ => rfl | exact fun _ => Mem.nil_wf | split
      | refine kept_mk_regs ?_ ?_ | refine kept_mk_host ?_ ?_ ?_ | refine kept_mk_ohost ?_ ?_ ?_ | refine kept_mk_hbm ?_ ?_ ?_
      | refine kept_mk_mram ?_ ?_ ?_ | refine kept_mk_lut ?_ ?_ ?_ | refine kept_mk_ofl ?_ ?_ | refine kept_mk_media ?_ ?_ ?_

theorem kept_rowStore {s0 : State} {s : State} {v : Sys2Proof.Machine.Volume} {row : Nat} {data : Sys2Proof.Bytes} {skip : List Nat}
    (h0 : Kept W s0 s) (w_media : W.media = true) : Kept W s0 (State.rowStore s v row data skip) := by
  unfold State.rowStore
  try dsimp only
  with_reducible
    repeat' first
      | assumption | refine kept_mediaWrite ?_ ?_ | refine kept_foldl (fun _ _ _ => ?_) ?_ | split

theorem kept_oflShutdown {s0 : State} {s : State} (h0 : Kept W s0 s) : Kept W s0 (State.oflShutdown s) := by
  unfold State.oflShutdown
  try dsimp only
  with_reducible
    repeat' first
      | assumption | refine kept_ev ?_ | refine kept_modOfl ?_ (fun _ => ?_) | refine kept_ite (fun _ => ?_) (fun _ => ?_)
      | refine keptR_ite (fun _ => ?_) (fun _ => ?_) | refine kept_fst_ite (fun _ => ?_) (fun _ => ?_) | refine kept_id ?_
      | simp only [kept_mk] | refine kept_foldl (fun _ _ _ => ?_) ?_ | refine kept_fst_foldl (fun _ _ _ => ?_) ?_ | refine keptR_next ?_
      | exact keptR_fault | exact keptR_refused | refine keptO_some ?_ | exact keptO_none | exact fun h => h

theorem kept_modCmd {s0 : State} {s : State} {id : Nat} {f : Sys2Proof.Machine.OflCmd → Sys2Proof.Machine.OflCmd} (h0 : Kept W s0 s)
    : Kept W s0 (State.modCmd s id f) := by
  unfold State.modCmd
  try dsimp only
  with_reducible
    repeat' first
      | assumption | refine kept_modOfl ?_ (fun _ => ?_) | refine kept_ite (fun _ => ?_) (fun _ => ?_)
      | refine keptR_ite (fun _ => ?_) (fun _ => ?_) | refine kept_fst_ite (fun _ => ?_) (fun _ => ?_) | refine kept_id ?_
      | simp only [kept_mk] | refine kept_foldl (fun _ _ _ => ?_) ?_ | refine kept_fst_foldl (fun _ _ _ => ?_) ?_ | refine keptR_next ?_
      | exact keptR_fault | exact keptR_refused | refine keptO_some ?_ | exact keptO_none | exact fun h => h

theorem kept_oflCount {s0 : State} {s : State} {wr : Bool} {n : Nat} (h0 : Kept W s0 s) : Kept W s0 (State.oflCount s wr n) := by
  unfold State.oflCount
  try dsimp only
  with_reducible
    repeat' first
      | assumption | refine kept_modOfl ?_ (fun _ => ?_) | refine kept_wr64 ?_ | refine kept_ite (fun _ => ?_) (fun _ => ?_)
      | refine keptR_ite (fun _ => ?_) (fun _ => ?_) | refine kept_fst_ite (fun _ => ?_) (fun _ => ?_) | refine kept_id ?_
      | simp only [kept_mk] | refine kept_foldl (fun _ _ _ => ?_) ?_ | refine kept_fst_foldl (fun _ _ _ => ?_) ?_ | refine keptR_next ?_
      | exact keptR_fault | exact keptR_refused | refine keptO_some ?_ | exact keptO_none | exact fun h => h

theorem kept_cacheWrite {s0 : State} {s : State} {id : Nat} (h0 : Kept W s0 s) (w_ohost : W.ohost = true)
    : Kept W s0 (State.cacheWrite s id) := by
  unfold State.cacheWrite
  try dsimp only
  with_reducible
    repeat' first
      | assumption | refine kept_modCmd ?_ | refine kept_modOfl ?_ (fun _ => ?_) | refine kept_oflCount ?_ | refine kept_oflComplete ?_ ?_
      | refine kept_oflShow ?_ | refine kept_ite (fun _ => ?_) (fun _ => ?_) | refine keptR_ite (fun _ => ?_) (fun _ => ?_)
      | refine kept_fst_ite (fun _ => ?_) (fun _ => ?_) | refine kept_id ?_ | simp only [kept_mk] | refine kept_foldl (fun _ _ _ => ?_) ?_
      | refine kept_fst_foldl (fun _ _ _ => ?_) ?_ | refine keptR_next ?_ | exact keptR_fault | exact keptR_refused | refine keptO_some ?_
      | exact keptO_none | exact fun h => h | exact fun h => Mem.write_wf h | exact fun h => Mem.zero_wf h | exact fun h => Mem.set_wf h
      | exact fun h => Mem.filter_wf h | exact fun h => rising_filter h | exact fun h => RegFile.wr_rising h
      | exact fun h => RegFile.put_rising h | exact fun h => judgeSet_rising h | exact fun _ => rfl | exact fun _ => Mem.nil_wf | split

theorem kept_cacheAdmit {s0 : State} {s : State} {x1 : Nat} (h0 : Kept W s0 s) (w_ohost : W.ohost = true)
    : Kept W s0 (State.cacheAdmit s x1) := by
  induction x1 generalizing s with
  | zero =>
    unfold State.cacheAdmit
    try dsimp only
    repeat' first
      | with_reducible assumption
  | succ n ih =>
    unfold State.cacheAdmit
    try dsimp only
    repeat' first
      | with_reducible assumption | with_reducible apply ih | with_reducible refine kept_cacheWrite ?_ ?_
      | with_reducible refine kept_ite (fun _ => ?_) (fun _ => ?_) | with_reducible refine keptR_ite (fun _ => ?_) (fun _ => ?_)
      | with_reducible refine kept_fst_ite (fun _ => ?_) (fun _ => ?_) | with_reducible refine kept_id ?_ | simp only [kept_mk]
      | with_reducible refine kept_foldl (fun _ _ _ => ?_) ?_ | with_reducible refine kept_fst_foldl (fun _ _ _ => ?_) ?_
      | with_reducible refine keptR_next ?_ | with_reducible exact keptR_fault | with_reducible exact keptR_refused
      | with_reducible refine keptO_some ?_ | with_reducible exact keptO_none | with_reducible exact fun h => h
      | with_reducible exact fun h => Mem.write_wf h | with_reducible exact fun h => Mem.zero_wf h
      | with_reducible exact fun h => Mem.set_wf h | with_reducible exact fun h => Mem.filter_wf h
      | with_reducible exact fun h => rising_filter h | with_reducible exact fun h => RegFile.wr_rising h
      | with_reducible exact fun h => RegFile.put_rising h | with_reducible exact fun h => judgeSet_rising h
      | with_reducible exact fun _ => rfl | exact fun _ => Mem.nil_wf | split

theorem kept_rowFlushed {s0 : State} {s : State} {row : Nat} (h0 : Kept W s0 s) (w_ohost : W.ohost = true)
    : Kept W s0 (State.rowFlushed s row) := by
  unfold State.rowFlushed
  try dsimp only
  with_reducible
    repeat' first
      | assumption | refine kept_modOfl ?_ (fun _ => ?_) | refine kept_oflComplete ?_ ?_ | refine kept_closeIdle ?_ ?_
      | refine kept_oflShutdown ?_ | refine kept_cacheAdmit ?_ ?_ | refine kept_ite (fun _ => ?_) (fun _ => ?_)
      | refine keptR_ite (fun _ => ?_) (fun _ => ?_) | refine kept_fst_ite (fun _ => ?_) (fun _ => ?_) | refine kept_id ?_
      | simp only [kept_mk] | refine kept_foldl (fun _ _ _ => ?_) ?_ | refine kept_fst_foldl (fun _ _ _ => ?_) ?_ | refine keptR_next ?_
      | exact keptR_fault | exact keptR_refused | refine keptO_some ?_ | exact keptO_none | exact fun h => h

theorem kept_exWriteback {s0 : State} {s : State} {row : Nat} (h0 : Kept W s0 s) (w_media : W.media = true) (w_ohost : W.ohost = true)
    : Kept W s0 (State.exWriteback s row) := by
  unfold State.exWriteback
  try dsimp only
  with_reducible
    repeat' first
      | assumption | refine kept_rowStore ?_ ?_ | refine kept_modOfl ?_ (fun _ => ?_) | refine kept_rowFlushed ?_ ?_
      | refine kept_oflShow ?_ | refine kept_ite (fun _ => ?_) (fun _ => ?_) | refine keptR_ite (fun _ => ?_) (fun _ => ?_)
      | refine kept_fst_ite (fun _ => ?_) (fun _ => ?_) | refine kept_id ?_ | simp only [kept_mk] | refine kept_foldl (fun _ _ _ => ?_) ?_
      | refine kept_fst_foldl (fun _ _ _ => ?_) ?_ | refine keptR_next ?_ | exact keptR_fault | exact keptR_refused | refine keptO_some ?_
      | exact keptO_none | exact fun h => h | exact fun h => Mem.write_wf h | exact fun h => Mem.zero_wf h | exact fun h => Mem.set_wf h
      | exact fun h => Mem.filter_wf h | exact fun h => rising_filter h | exact fun h => RegFile.wr_rising h
      | exact fun h => RegFile.put_rising h | exact fun h => judgeSet_rising h | exact fun _ => rfl | exact fun _ => Mem.nil_wf | split

theorem kept_skyHeard {s0 : State} {s : State} {m : Sys2Proof.SkyMsg} {serial : Nat} (h0 : Kept W s0 s)
    : Kept W s0 (State.skyHeard s m serial) := by
  unfold State.skyHeard
  try dsimp only
  with_reducible
    repeat' first
      | assumption | refine kept_modSky ?_ | refine kept_put ?_

theorem kept_skyReceive {s0 : State} {s : State} {m : Sys2Proof.SkyMsg} {typs : List Nat}
    {run : State → Sys2Proof.Machine.SkyIn → Sys2Proof.Machine.State} (h0 : Kept W s0 s)
    (h3 : ∀ a0 a1, Kept W s0 a0 → Kept W s0 (run a0 a1)) : Kept W s0 (State.skyReceive s m typs run) := by
  unfold State.skyReceive
  try dsimp only
  with_reducible
    repeat' first
      | assumption | apply h3 | refine kept_inc ?_ | refine kept_skyHeard ?_ | refine kept_putPeer ?_
      | refine kept_ite (fun _ => ?_) (fun _ => ?_)

theorem kept_onRelease {s0 : State} {s : State} {m : Sys2Proof.Machine.SkyIn} (h0 : Kept W s0 s) : Kept W s0 (State.onRelease s m) := by
  unfold State.onRelease
  try dsimp only
  with_reducible
    repeat' first
      | assumption | refine kept_modSky ?_ | refine kept_skyDown ?_ | refine kept_ite (fun _ => ?_) (fun _ => ?_)

theorem kept_execSkyRelease {s0 : State} {m : Sys2Proof.SkyMsg} {s : State} (h1 : Kept W s0 s) : KeptR W s0 (execSkyRelease m s) := by
  unfold execSkyRelease
  try dsimp only
  with_reducible
    repeat' first
      | assumption | refine kept_skyReceive ?_ (fun _ _ _ => ?_) | refine kept_onRelease ?_ | refine keptR_next ?_

theorem kept_doneOff {s0 : State} {s : State} (h0 : Kept W s0 s) : Kept W s0 (State.doneOff s) := by
  unfold State.doneOff
  try dsimp only
  with_reducible
    repeat' first
      | assumption | simp only [kept_mk]

theorem kept_drvRow {s0 : State} {f : State → Sys2Proof.Machine.State} {s : State}
    (h0 : ∀ a0, Kept W s0 a0 → Kept W s0 (f a0)) (h1 : Kept W s0 s) : KeptR W s0 (drvRow f s) := by
  unfold drvRow
  try dsimp only
  with_reducible
    repeat' first
      | assumption | apply h0 | refine kept_onUnit ?_ (fun _ _ => ?_) | refine keptR_next ?_

theorem kept_drvStart {s0 : State} {s : State} {op : Nat} {v : Nat} {chk : State → Sys2Proof.Machine.DrvCode}
    {f : State → Sys2Proof.Machine.State} (h0 : Kept W s0 s) (h4 : ∀ a0, Kept W s0 a0 → Kept W s0 (f a0))
    : Kept W s0 (State.drvStart s op v chk f) := by
  unfold State.drvStart
  try dsimp only
  with_reducible
    repeat' first
      | assumption | apply h4 | refine kept_writeFields ?_ | refine kept_put ?_ | refine kept_ite (fun _ => ?_) (fun _ => ?_)
      | simp only [kept_mk]

theorem kept_slotBody {s0 : State} {s : State} {op : Nat} (h0 : Kept W s0 s) (w_mram : W.mram = true) : Kept W s0 (State.slotBody s op) := by
  unfold State.slotBody
  try dsimp only
  with_reducible
    repeat' first
      | assumption | refine kept_mramWrite ?_ ?_ | simp only [kept_mk]

theorem kept_execDrvWriteSlotA {s0 : State} {v : Nat} {s : State} (h1 : Kept W s0 s) (w_mram : W.mram = true)
    : KeptR W s0 (execDrvWriteSlotA v s) := by
  unfold execDrvWriteSlotA
  try dsimp only
  with_reducible
    repeat' first
      | assumption | refine kept_drvRow (fun _ _ => ?_) ?_ | refine kept_drvStart ?_ (fun _ _ => ?_) | refine kept_slotBody ?_ ?_

theorem kept_capDrain {s0 : State} {s : State} {p : Nat} {v : Nat} (h0 : Kept W s0 s) : Kept W s0 (State.capDrain s p v) := by
  unfold State.capDrain
  try dsimp only
  with_reducible
    repeat' first
      | assumption | refine kept_writeFields ?_ | refine kept_modCap ?_ | refine kept_ite (fun _ => ?_) (fun _ => ?_)

theorem kept_modEnc {s0 : State} {s : State} {k : Nat} {f : Sys2Proof.Machine.EncSt → Sys2Proof.Machine.EncSt} (h0 : Kept W s0 s)
    : Kept W s0 (State.modEnc s k f) := by
  unfold State.modEnc
  try dsimp only
  with_reducible
    repeat' first
      | assumption | simp only [kept_mk]

theorem kept_encRing {s0 : State} {s : State} {e : Nat} {k : Nat} (h0 : Kept W s0 s) : Kept W s0 (State.encRing s e k) := by
  unfold State.encRing
  try dsimp only
  with_reducible
    repeat' first
      | assumption | refine kept_inc ?_ | refine kept_modEnc ?_ | refine kept_wr ?_ | refine kept_ite (fun _ => ?_) (fun _ => ?_)

theorem kept_encEpoch {s0 : State} {s : State} {k : Nat} {br : Sys2Proof.Machine.BranchRec} {e : Nat} (h0 : Kept W s0 s)
    : Kept W s0 (State.encEpoch s k br e) := by
  unfold State.encEpoch
  try dsimp only
  with_reducible
    repeat' first
      | assumption | refine kept_encRing ?_ | refine kept_modEnc ?_ | refine kept_put ?_ | refine kept_ev ?_
      | refine kept_ite (fun _ => ?_) (fun _ => ?_)

theorem kept_uartLevels {s0 : State} {s : State} {u : Nat} (h0 : Kept W s0 s) : Kept W s0 (State.uartLevels s u) := by
  unfold State.uartLevels
  try dsimp only
  with_reducible
    repeat' first
      | assumption | refine kept_put ?_

theorem kept_modUart {s0 : State} {s : State} {u : Nat} {f : Sys2Proof.Machine.UartSt → Sys2Proof.Machine.UartSt} (h0 : Kept W s0 s)
    : Kept W s0 (State.modUart s u f) := by
  unfold State.modUart
  try dsimp only
  with_reducible
    repeat' first
      | assumption | refine kept_modLsp ?_

theorem kept_uartRx {s0 : State} {s : State} {u : Nat} {b : Nat} {frameErr : Bool} {parityErr : Bool} {brk : Bool} (h0 : Kept W s0 s)
    : Kept W s0 (State.uartRx s u b frameErr parityErr brk) := by
  unfold State.uartRx
  try dsimp only
  with_reducible
    repeat' first
      | assumption | refine kept_inc ?_ | refine kept_put ?_ | refine kept_uartLevels ?_ | refine kept_modUart ?_
      | refine kept_evLimited ?_ | refine kept_ite (fun _ => ?_) (fun _ => ?_)

theorem kept_execUartRxByte {s0 : State} {u : Nat} {b : Nat} {frameErr : Bool} {parityErr : Bool} {brk : Bool} {s : State} (h5 : Kept W s0 s)
    : KeptR W s0 (execUartRxByte u b frameErr parityErr brk s) := by
  unfold execUartRxByte
  try dsimp only
  with_reducible
    repeat' first
      | assumption | refine kept_uartRx ?_ | refine keptR_next ?_

theorem kept_powerOn {s0 : State} {s : State} {straps serial : Nat} (h : Kept W s0 s) (w_hbm : W.hbm = true) (w_lut : W.lut = true)
    : Kept W s0 (State.powerOn s straps serial) := by
  unfold State.powerOn
  exact kept_coldReset (kept_wr64 (kept_wr (kept_mk_regs h fun _ => rfl))) w_hbm w_lut

theorem kept_onSnap {s0 : State} {s : State} {m : Sys2Proof.Machine.SkyIn} (h0 : Kept W s0 s) : Kept W s0 (State.onSnap s m) := by
  unfold State.onSnap
  try dsimp only
  with_reducible
    repeat' first
      | assumption | refine kept_modSky ?_ | refine kept_skyDown ?_ | refine kept_ite (fun _ => ?_) (fun _ => ?_)

theorem kept_signal {s0 : State} {s : State} {v : Nat} (h0 : Kept W s0 s) : Kept W s0 (State.signal s v) := by
  unfold State.signal
  try dsimp only
  with_reducible
    repeat' first
      | assumption | refine kept_emit ?_ | refine kept_ite (fun _ => ?_) (fun _ => ?_) | simp only [kept_mk]

theorem kept_msixRelease {s0 : State} {s : State} (h0 : Kept W s0 s) : Kept W s0 (State.msixRelease s) := by
  unfold State.msixRelease
  try dsimp only
  with_reducible
    repeat' first
      | assumption | refine kept_signal ?_ | refine kept_ite (fun _ => ?_) (fun _ => ?_) | simp only [kept_mk]
      | refine kept_foldl (fun _ _ _ => ?_) ?_

theorem kept_msixTableWrite {s0 : State} {s : State} {off : Nat} {size : Nat} {be : Nat} {v : Nat} (h0 : Kept W s0 s)
    : Kept W s0 (State.msixTableWrite s off size be v) := by
  unfold State.msixTableWrite
  try dsimp only
  with_reducible
    repeat' first
      | assumption | refine kept_msixRelease ?_ | simp only [kept_mk]

theorem kept_skyPlace {s0 : State} {s : State} {id : Nat} {n : Nat} (h0 : Kept W s0 s) : Kept W s0 (State.skyPlace s id n) := by
  unfold State.skyPlace
  try dsimp only
  with_reducible
    repeat' first
      | assumption | refine kept_put ?_

theorem kept_skyAssignSend {s0 : State} {s : State} {l : List (Nat × Nat)} (h0 : Kept W s0 s) : Kept W s0 (State.skyAssignSend s l) := by
  unfold State.skyAssignSend
  try dsimp only
  with_reducible
    repeat' first
      | assumption | refine kept_skySend ?_ | refine kept_foldl (fun _ _ _ => ?_) ?_

theorem kept_skyNext {s0 : State} {s : State} (h0 : Kept W s0 s) : Kept W s0 (State.skyNext s) := by
  unfold State.skyNext
  try dsimp only
  with_reducible
    repeat' first
      | assumption | refine kept_skyStart ?_ | refine kept_modSky ?_ | refine kept_foldl (fun _ _ _ => ?_) ?_ | split

theorem kept_skyBarrier {s0 : State} {s : State} {b : Nat} (h0 : Kept W s0 s) : Kept W s0 (State.skyBarrier s b) := by
  unfold State.skyBarrier
  try dsimp only
  with_reducible
    repeat' first
      | assumption | refine kept_modSky ?_ | refine kept_skyDown ?_ | refine kept_skyUp ?_ | refine kept_foldl (fun _ _ _ => ?_) ?_
      | split

theorem kept_skyRegroup {s0 : State} {s : State} {old : List Nat} {parent : Nat} (h0 : Kept W s0 s)
    : Kept W s0 (State.skyRegroup s old parent) := by
  unfold State.skyRegroup
  try dsimp only
  with_reducible
    repeat' first
      | assumption | refine kept_modSky ?_ | refine kept_skyBarrier ?_ | refine kept_skyAnswer ?_ | refine kept_skyReport ?_
      | refine kept_foldl (fun _ _ _ => ?_) ?_ | split

theorem kept_skyRemove {s0 : State} {s : State} {id : Nat} {serial : Nat} (h0 : Kept W s0 s) : Kept W s0 (State.skyRemove s id serial) := by
  unfold State.skyRemove
  try dsimp only
  with_reducible
    repeat' first
      | assumption | refine kept_modSky ?_ | refine kept_skyPlace ?_ | refine kept_skyAssignSend ?_ | refine kept_ev ?_
      | refine kept_skyNext ?_ | refine kept_skyRegroup ?_ | refine kept_foldl (fun _ _ _ => ?_) ?_ | split

theorem kept_evTake {s0 : State} {s : State} {p : Nat} {take : Nat} {cause : Nat} {closed : Bool} (h0 : Kept W s0 s)
    : Kept W s0 (State.evTake s p take cause closed) := by
  unfold State.evTake
  try dsimp only
  with_reducible
    repeat' first
      | assumption | refine kept_ev ?_

theorem kept_closeTake {s0 : State} {s : State} {n : Nat} {cause : Nat} (h0 : Kept W s0 s) (w_ohost : W.ohost = true)
    : Kept W s0 (State.closeTake s n cause) := by
  unfold State.closeTake
  try dsimp only
  with_reducible
    repeat' first
      | assumption | refine kept_modTake ?_ | refine kept_modEntry ?_ | refine kept_recShow ?_ ?_ | refine kept_evTake ?_
      | refine kept_foldl (fun _ _ _ => ?_) ?_ | split

theorem kept_takeCut {s0 : State} {s : State} (h0 : Kept W s0 s) : Kept W s0 (State.takeCut s) := by
  unfold State.takeCut
  try dsimp only
  with_reducible
    repeat' first
      | assumption | refine kept_modRec ?_ | refine kept_foldl (fun _ _ _ => ?_) ?_ | split

theorem kept_duskAdvance {s0 : State} {s : State} (h0 : Kept W s0 s) : Kept W s0 (State.duskAdvance s) := by
  unfold State.duskAdvance
  try dsimp only
  with_reducible
    repeat' first
      | assumption | refine kept_takeCut ?_ | refine kept_ite (fun _ => ?_) (fun _ => ?_)

theorem kept_recDusk {s0 : State} {s : State} (h0 : Kept W s0 s) (w_ohost : W.ohost = true) : Kept W s0 (State.recDusk s) := by
  unfold State.recDusk
  try dsimp only
  with_reducible
    repeat' first
      | assumption | refine kept_modRec ?_ | refine kept_modTake ?_ | refine kept_bufFree ?_ | refine kept_recLost ?_
      | refine kept_closeTake ?_ ?_ | refine kept_duskAdvance ?_ | refine kept_foldl (fun _ _ _ => ?_) ?_

theorem kept_encRequests {s0 : State} {s : State} {k : Nat} (h0 : Kept W s0 s) : Kept W s0 (State.encRequests s k) := by
  unfold State.encRequests
  try dsimp only
  with_reducible
    repeat' first
      | assumption | refine kept_modEnc ?_

theorem kept_encPull {s0 : State} {s : State} {k : Nat} (h0 : Kept W s0 s) : Kept W s0 (State.encPull s k) := by
  unfold State.encPull
  try dsimp only
  with_reducible
    repeat' first
      | assumption | refine kept_modEnc ?_ | refine kept_put ?_ | refine kept_foldl (fun _ _ _ => ?_) ?_ | split

theorem kept_encDrop {s0 : State} {s : State} {k : Nat} {pic : Sys2Proof.Machine.EncPic} (h0 : Kept W s0 s)
    : Kept W s0 (State.encDrop s k pic) := by
  unfold State.encDrop
  try dsimp only
  with_reducible
    repeat' first
      | assumption | refine kept_modEnc ?_ | refine kept_encPull ?_ | refine kept_evLimited ?_ | refine kept_inc ?_

theorem kept_encWrite {s0 : State} {s : State} {k : Nat} {header : Sys2Proof.Bytes} {data : Sys2Proof.Bytes} (h0 : Kept W s0 s)
    (w_hbm : W.hbm = true) : Kept W s0 (State.encWrite s k header data) := by
  unfold State.encWrite
  try dsimp only
  with_reducible
    repeat' first
      | assumption | refine kept_hbmWrite ?_ ?_ | refine kept_wr ?_ | refine kept_ite (fun _ => ?_) (fun _ => ?_)

theorem kept_encWork {s0 : State} {s : State} {e : Nat} {k : Nat} {br : Sys2Proof.Machine.BranchRec} (h0 : Kept W s0 s)
    (w_hbm : W.hbm = true) : Kept W s0 (State.encWork s e k br) := by
  unfold State.encWork
  try dsimp only
  with_reducible
    repeat' first
      | assumption | refine kept_hbmUndef ?_ ?_

theorem kept_allocExtent {s0 : State} {s : State} {n : Nat} (h0 : Kept W s0 s) : Kept W s0 (State.allocExtent s n).1 := by
  unfold State.allocExtent
  try dsimp only
  with_reducible
    repeat' first
      | assumption | refine kept_modVol ?_ | refine kept_modTake ?_ | refine kept_foldl (fun _ _ _ => ?_) ?_ | split

theorem kept_ensureRows {s0 : State} {s : State} {n : Nat} {rows : Nat} {x3 : Nat} (h0 : Kept W s0 s)
    : Kept W s0 (State.ensureRows s n rows x3).1 := by
  induction x3 generalizing s n rows with
  | zero =>
    unfold State.ensureRows
    try dsimp only
    repeat' first
      | with_reducible assumption
  | succ n ih =>
    unfold State.ensureRows
    try dsimp only
    repeat' first
      | with_reducible assumption | with_reducible apply ih | with_reducible refine kept_allocExtent ?_
      | with_reducible refine kept_ite (fun _ => ?_) (fun _ => ?_) | with_reducible refine keptR_ite (fun _ => ?_) (fun _ => ?_)
      | with_reducible refine kept_fst_ite (fun _ => ?_) (fun _ => ?_) | with_reducible refine kept_id ?_ | simp only [kept_mk]
      | with_reducible refine kept_foldl (fun _ _ _ => ?_) ?_ | with_reducible refine kept_fst_foldl (fun _ _ _ => ?_) ?_
      | with_reducible refine keptR_next ?_ | with_reducible exact keptR_fault | with_reducible exact keptR_refused
      | with_reducible refine keptO_some ?_ | with_reducible exact keptO_none | with_reducible exact fun h => h
      | with_reducible exact fun h => Mem.write_wf h | with_reducible exact fun h => Mem.zero_wf h
      | with_reducible exact fun h => Mem.set_wf h | with_reducible exact fun h => Mem.filter_wf h
      | with_reducible exact fun h => rising_filter h | with_reducible exact fun h => RegFile.wr_rising h
      | with_reducible exact fun h => RegFile.put_rising h | with_reducible exact fun h => judgeSet_rising h
      | with_reducible exact fun _ => rfl | exact fun _ => Mem.nil_wf | split

theorem kept_putChunk {s0 : State} {s : State} {v : Sys2Proof.Machine.Volume} {t : Sys2Proof.Machine.LiveTake} {kind : Nat} {fid : Nat}
    {time : Nat} {epoch : Nat} {fsw : Nat} {cert : Nat} {len : Nat} {body : Sys2Proof.Bytes} (h0 : Kept W s0 s)
    : Kept W s0 (State.putChunk s v t kind fid time epoch fsw cert len body) := by
  unfold State.putChunk
  try dsimp only
  with_reducible
    repeat' first
      | assumption | refine kept_modTake ?_

theorem kept_placeChunk {s0 : State} {s : State} {found : Bool} {v : Sys2Proof.Machine.Volume} {t : Sys2Proof.Machine.LiveTake}
    {kind : Nat} {fid : Nat} {time : Nat} {epoch : Nat} {fsw : Nat} {cert : Nat} {len : Nat} {body : Sys2Proof.Bytes} (h0 : Kept W s0 s)
    (w_ohost : W.ohost = true) : Kept W s0 (State.placeChunk s found v t kind fid time epoch fsw cert len body) := by
  unfold State.placeChunk
  try dsimp only
  with_reducible
    repeat' first
      | assumption | refine kept_closeTake ?_ ?_ | refine kept_putChunk ?_ | refine kept_ite (fun _ => ?_) (fun _ => ?_)
      | simp only [kept_mk] | refine kept_foldl (fun _ _ _ => ?_) ?_ | split

theorem kept_addChunk {s0 : State} {s : State} {n kind fid time epoch fsw cert : Nat} {payload : Bytes} (h : Kept W s0 s)
    (w_ohost : W.ohost = true) : Kept W s0 (State.addChunk s n kind fid time epoch fsw cert payload) := by
  unfold State.addChunk
  split
  · exact kept_placeChunk (kept_ensureRows h) w_ohost
  · exact h

theorem kept_encProxies {s0 : State} {s : State} {k : Nat} {pic : Sys2Proof.Machine.EncPic} {au : Sys2Proof.Bytes} (h0 : Kept W s0 s)
    (w_ohost : W.ohost = true) : Kept W s0 (State.encProxies s k pic au) := by
  unfold State.encProxies
  try dsimp only
  with_reducible
    repeat' first
      | assumption | refine kept_modEnc ?_ | refine kept_addChunk ?_ ?_ | refine kept_foldl (fun _ _ _ => ?_) ?_ | split

theorem kept_encCode {s0 : State} {s : State} {k : Nat} {br : Sys2Proof.Machine.BranchRec} {pic : Sys2Proof.Machine.EncPic}
    {au : Sys2Proof.CodedAu} (h0 : Kept W s0 s) (w_hbm : W.hbm = true) (w_ohost : W.ohost = true)
    : Kept W s0 (State.encCode s k br pic au) := by
  unfold State.encCode
  try dsimp only
  with_reducible
    repeat' first
      | assumption | refine kept_encDrop ?_ | refine kept_encWrite ?_ ?_ | refine kept_encWork ?_ ?_ | refine kept_modEnc ?_
      | refine kept_wr64 ?_ | refine kept_inc ?_ | refine kept_evFrame ?_ | refine kept_evLimited ?_ | refine kept_encPull ?_
      | refine kept_encProxies ?_ ?_ | refine kept_ite (fun _ => ?_) (fun _ => ?_)

theorem kept_encStart {s0 : State} {s : State} {e : Nat} {k : Nat} {n : Nat} (h0 : Kept W s0 s) : Kept W s0 (State.encStart s e k n) := by
  unfold State.encStart
  try dsimp only
  with_reducible
    repeat' first
      | assumption | refine kept_modEnc ?_

theorem kept_encBuild {s0 : State} {s : State} {k : Nat} {br : Sys2Proof.Machine.BranchRec} {e : Nat} (h0 : Kept W s0 s)
    : Kept W s0 (State.encBuild s k br e) := by
  unfold State.encBuild
  try dsimp only
  with_reducible
    repeat' first
      | assumption | refine kept_encStart ?_ | refine kept_modEnc ?_ | refine kept_foldl (fun _ _ _ => ?_) ?_ | split

theorem kept_encodePicture {s0 : State} {s : State} {k : Nat} {au : Sys2Proof.CodedAu} (h0 : Kept W s0 s) (w_hbm : W.hbm = true)
    (w_ohost : W.ohost = true) : Kept W s0 (State.encodePicture s k au) := by
  unfold State.encodePicture
  try dsimp only
  with_reducible
    repeat' first
      | assumption | refine kept_encRequests ?_ | refine kept_encPull ?_ | refine kept_encCode ?_ ?_ ?_ | refine kept_encEpoch ?_
      | refine kept_encBuild ?_ | refine kept_foldl (fun _ _ _ => ?_) ?_ | split

theorem kept_execEncodePicture {s0 : State} {k : Nat} {au : Sys2Proof.CodedAu} {s : State} (h2 : Kept W s0 s) (w_hbm : W.hbm = true)
    (w_ohost : W.ohost = true) : KeptR W s0 (execEncodePicture k au s) := by
  unfold execEncodePicture
  try dsimp only
  with_reducible
    repeat' first
      | assumption | refine kept_encodePicture ?_ ?_ ?_ | refine keptR_next ?_ | refine keptR_ite (fun _ => ?_) (fun _ => ?_)
      | refine kept_ite (fun _ => ?_) (fun _ => ?_)

theorem kept_reacquire {s0 : State} {s : State} {g : Nat} (h0 : Kept W s0 s) (w_hbm : W.hbm = true) : Kept W s0 (State.reacquire s g) := by
  unfold State.reacquire
  try dsimp only
  with_reducible
    repeat' first
      | assumption | refine kept_groupDown ?_ ?_ | refine kept_setLane ?_ | refine kept_modLane ?_ | refine kept_put ?_
      | refine kept_foldl (fun _ _ _ => ?_) ?_ | split

theorem kept_execReacquire {s0 : State} {g : Nat} {s : State} (h1 : Kept W s0 s) (w_hbm : W.hbm = true) : KeptR W s0 (execReacquire g s) := by
  unfold execReacquire
  try dsimp only
  with_reducible
    repeat' first
      | assumption | refine kept_onUnit ?_ (fun _ _ => ?_) | refine kept_reacquire ?_ ?_ | refine keptR_next ?_
      | refine keptR_ite (fun _ => ?_) (fun _ => ?_)

theorem kept_rctCalib {s0 : State} {s : State} {tile : Nat} {p : Nat} {epoch : Nat} {fid : Nat} {cause : Nat} (h0 : Kept W s0 s)
    : Kept W s0 (State.rctCalib s tile p epoch fid cause) := by
  unfold State.rctCalib
  try dsimp only
  with_reducible
    repeat' first
      | assumption | refine kept_put ?_ | refine kept_evLimited ?_ | refine kept_ite (fun _ => ?_) (fun _ => ?_)

theorem kept_usbDetach {s0 : State} {s : State} (h0 : Kept W s0 s) : Kept W s0 (State.usbDetach s) := by
  unfold State.usbDetach
  try dsimp only
  with_reducible
    repeat' first
      | assumption | refine kept_put ?_ | refine kept_modLsp ?_

theorem kept_usbVbus {s0 : State} {s : State} {present : Bool} (h0 : Kept W s0 s) : Kept W s0 (State.usbVbus s present) := by
  unfold State.usbVbus
  try dsimp only
  with_reducible
    repeat' first
      | assumption | refine kept_modLsp ?_ | refine kept_usbDetach ?_ | refine kept_ite (fun _ => ?_) (fun _ => ?_)

theorem kept_execUsbVbusChange {s0 : State} {present : Bool} {s : State} (h1 : Kept W s0 s) : KeptR W s0 (execUsbVbusChange present s) := by
  unfold execUsbVbusChange
  try dsimp only
  with_reducible
    repeat' first
      | assumption | refine kept_usbVbus ?_ | refine keptR_next ?_

theorem kept_outfSkip {s0 : State} {s : State} {i : Nat} {epoch : Nat} {fid : Nat} {cause : Nat} {frames : Nat} (h0 : Kept W s0 s)
    : Kept W s0 (State.outfSkip s i epoch fid cause frames) := by
  unfold State.outfSkip
  try dsimp only
  with_reducible
    repeat' first
      | assumption | refine kept_evLimited ?_ | refine kept_put ?_ | refine kept_inc ?_

theorem kept_ringWrite {s0 : State} {s : State} {base : Nat} {size : Nat} {at_ : Nat} {b : Sys2Proof.Bytes} (h0 : Kept W s0 s)
    (w_hbm : W.hbm = true) : Kept W s0 (State.ringWrite s base size at_ b) := by
  unfold State.ringWrite
  try dsimp only
  with_reducible
    repeat' first
      | assumption | refine kept_hbmWrite ?_ ?_

theorem kept_bufPut {s0 : State} {s : State} {p : Nat} {fid : Nat} {base : Nat} {size : Nat} {b : Sys2Proof.Bytes} (h0 : Kept W s0 s)
    (w_hbm : W.hbm = true) : Kept W s0 (State.bufPut s p fid base size b) := by
  unfold State.bufPut
  try dsimp only
  with_reducible
    repeat' first
      | assumption | refine kept_ringWrite ?_ ?_ | refine kept_modRec ?_

theorem kept_fallbackShow {s0 : State} {s : State} (h0 : Kept W s0 s) : Kept W s0 (State.fallbackShow s) := by
  unfold State.fallbackShow
  try dsimp only
  with_reducible
    repeat' first
      | assumption | refine kept_put ?_

theorem kept_dawnReady {s0 : State} {s : State} (h0 : Kept W s0 s) : Kept W s0 (State.dawnReady s) := by
  unfold State.dawnReady
  try dsimp only
  with_reducible
    repeat' first
      | assumption | refine kept_modCpr ?_ | refine kept_put ?_ | refine kept_ev ?_ | refine kept_skyBegin ?_
      | refine kept_foldl (fun _ _ _ => ?_) ?_ | split

theorem kept_enterRom {s0 : State} {s : State} (h0 : Kept W s0 s) : Kept W s0 (State.enterRom s) := by
  unfold State.enterRom
  try dsimp only
  with_reducible
    repeat' first
      | assumption | refine kept_modCpr ?_ | refine kept_fallbackShow ?_ | refine kept_dawnReady ?_ | refine kept_wr ?_
      | refine kept_put ?_ | refine kept_ite (fun _ => ?_) (fun _ => ?_) | simp only [kept_mk]

theorem kept_oflCommitNotice {s0 : State} {s : State} (h0 : Kept W s0 s) (w_ohost : W.ohost = true) : Kept W s0 (State.oflCommitNotice s)
    := by
  unfold State.oflCommitNotice
  try dsimp only
  with_reducible
    repeat' first
      | assumption | refine kept_oflEvent ?_ ?_ | refine kept_ite (fun _ => ?_) (fun _ => ?_)

theorem kept_modFrame {s0 : State} {s : State} {u : Sys2Proof.FlowUnit} {p : Nat} {fid : Nat}
    {f : Sys2Proof.Machine.Frame → Sys2Proof.Machine.Frame} (h0 : Kept W s0 s) : Kept W s0 (State.modFrame s u p fid f) := by
  unfold State.modFrame
  try dsimp only
  with_reducible
    repeat' first
      | assumption | simp only [kept_mk]

theorem kept_enterUnit {s0 : State} {s : State} {u : Sys2Proof.FlowUnit} {p : Nat} {fid : Nat} {cls : Nat} (h0 : Kept W s0 s)
    : Kept W s0 (State.enterUnit s u p fid cls) := by
  unfold State.enterUnit
  try dsimp only
  with_reducible
    repeat' first
      | assumption | refine kept_modFrame ?_ | refine kept_trace ?_ | refine kept_showBusy ?_ | refine kept_foldl (fun _ _ _ => ?_) ?_
      | split

theorem kept_modOutf {s0 : State} {s : State} {i : Nat} {f : Sys2Proof.Machine.OutfSt → Sys2Proof.Machine.OutfSt} (h0 : Kept W s0 s)
    : Kept W s0 (State.modOutf s i f) := by
  unfold State.modOutf
  try dsimp only
  with_reducible
    repeat' first
      | assumption | simp only [kept_mk]

theorem kept_outfGeom {s0 : State} {s : State} {i : Nat} {f : Sys2Proof.Machine.Frame} {br : Sys2Proof.Machine.BranchRec}
    (h0 : Kept W s0 s) : Kept W s0 (State.outfGeom s i f br) := by
  unfold State.outfGeom
  try dsimp only
  with_reducible
    repeat' first
      | assumption | refine kept_modOutf ?_ | refine kept_put ?_ | refine kept_ite (fun _ => ?_) (fun _ => ?_)

theorem kept_outfWritten {s0 : State} {s : State} {i : Nat} {f : Sys2Proof.Machine.Frame} {n : Nat} {slot : Nat} {frames : Nat} {first : Nat}
    {base : Nat} {peer : Bool} (h0 : Kept W s0 s) : Kept W s0 (State.outfWritten s i f n slot frames first base peer) := by
  unfold State.outfWritten
  try dsimp only
  with_reducible
    repeat' first
      | assumption | refine kept_inc ?_ | refine kept_modOutf ?_ | refine kept_ite (fun _ => ?_) (fun _ => ?_)

theorem kept_outfPeer {s0 : State} {s : State} {i : Nat} {f : Sys2Proof.Machine.Frame} {br : Sys2Proof.Machine.BranchRec} {full : Bool}
    (h0 : Kept W s0 s) : Kept W s0 (State.outfPeer s i f br full) := by
  unfold State.outfPeer
  try dsimp only
  with_reducible
    repeat' first
      | assumption | refine kept_put ?_ | refine kept_modOutf ?_ | refine kept_outfSkip ?_ | refine kept_emit ?_ | refine kept_inc ?_
      | refine kept_outfWritten ?_ | refine kept_foldl (fun _ _ _ => ?_) ?_ | split

theorem kept_slotReused {s0 : State} {s : State} {kind : Nat} {index : Nat} {f : Sys2Proof.Machine.PubFrame} (h0 : Kept W s0 s)
    : Kept W s0 (State.slotReused s kind index f) := by
  unfold State.slotReused
  try dsimp only
  with_reducible
    repeat' first
      | assumption | refine kept_inc ?_ | refine kept_foldl (fun _ _ _ => ?_) ?_ | split

theorem kept_outfHbm {s0 : State} {s : State} {i : Nat} {f : Sys2Proof.Machine.Frame} {br : Sys2Proof.Machine.BranchRec}
    {buf : Sys2Proof.Machine.BufferRec} {full : Bool} (h0 : Kept W s0 s) (w_hbm : W.hbm = true)
    : Kept W s0 (State.outfHbm s i f br buf full) := by
  unfold State.outfHbm
  try dsimp only
  with_reducible
    repeat' first
      | assumption | refine kept_outfSkip ?_ | refine kept_slotReused ?_ | refine kept_modOutf ?_ | refine kept_hbmWrite ?_ ?_
      | refine kept_hbmUndef ?_ ?_ | refine kept_inc ?_ | refine kept_outfWritten ?_ | refine kept_foldl (fun _ _ _ => ?_) ?_ | split

theorem kept_outfFrame {s0 : State} {s : State} {p : Nat} {b : Nat} {fid : Nat} {full : Bool} (h0 : Kept W s0 s) (w_hbm : W.hbm = true)
    : Kept W s0 (State.outfFrame s p b fid full) := by
  unfold State.outfFrame
  try dsimp only
  with_reducible
    repeat' first
      | assumption | refine kept_enterUnit ?_ | refine kept_put ?_ | refine kept_outfGeom ?_ | refine kept_outfPeer ?_
      | refine kept_outfHbm ?_ ?_ | refine kept_outfSkip ?_ | refine kept_foldl (fun _ _ _ => ?_) ?_ | split

theorem kept_execOutfFrame {s0 : State} {p : Nat} {b : Nat} {fid : Nat} {full : Bool} {s : State} (h4 : Kept W s0 s) (w_hbm : W.hbm = true)
    : KeptR W s0 (execOutfFrame p b fid s full) := by
  unfold execOutfFrame
  try dsimp only
  with_reducible
    repeat' first
      | assumption | refine kept_outfFrame ?_ ?_ | refine keptR_next ?_ | refine keptR_ite (fun _ => ?_) (fun _ => ?_)
      | refine kept_ite (fun _ => ?_) (fun _ => ?_)

theorem kept_modI2c {s0 : State} {s : State} {c : Nat} {f : Sys2Proof.Machine.I2cSt → Sys2Proof.Machine.I2cSt} (h0 : Kept W s0 s)
    : Kept W s0 (State.modI2c s c f) := by
  unfold State.modI2c
  try dsimp only
  with_reducible
    repeat' first
      | assumption | refine kept_modLsp ?_

theorem kept_i2cLevels {s0 : State} {s : State} {c : Nat} (h0 : Kept W s0 s) : Kept W s0 (State.i2cLevels s c) := by
  unfold State.i2cLevels
  try dsimp only
  with_reducible
    repeat' first
      | assumption | refine kept_put ?_

theorem kept_i2cEnd {s0 : State} {s : State} {c : Nat} {result : Nat} {tries : Nat} (h0 : Kept W s0 s)
    : Kept W s0 (State.i2cEnd s c result tries) := by
  unfold State.i2cEnd
  try dsimp only
  with_reducible
    repeat' first
      | assumption | refine kept_modI2c ?_ | refine kept_put ?_ | refine kept_i2cLevels ?_ | refine kept_inc ?_ | refine kept_ev ?_
      | refine kept_ite (fun _ => ?_) (fun _ => ?_)

theorem kept_i2cFail {s0 : State} {s : State} {c : Nat} {x : Sys2Proof.Machine.I2cRun} {code : Nat} (h0 : Kept W s0 s)
    : Kept W s0 (State.i2cFail s c x code) := by
  unfold State.i2cFail
  try dsimp only
  with_reducible
    repeat' first
      | assumption | refine kept_inc ?_ | refine kept_i2cEnd ?_ | refine kept_modI2c ?_ | refine kept_ite (fun _ => ?_) (fun _ => ?_)

theorem kept_i2cTryEnd {s0 : State} {s : State} {c : Nat} {res : Sys2Proof.I2cResult} (h0 : Kept W s0 s)
    : Kept W s0 (State.i2cTryEnd s c res) := by
  unfold State.i2cTryEnd
  try dsimp only
  with_reducible
    repeat' first
      | assumption | refine kept_put ?_ | refine kept_i2cEnd ?_ | refine kept_modI2c ?_ | refine kept_i2cFail ?_
      | refine kept_foldl (fun _ _ _ => ?_) ?_ | split

theorem kept_dvtTnrErr {s0 : State} {s : State} {tile : Nat} {p : Nat} {epoch : Nat} {fid : Nat} {cause : Nat} (h0 : Kept W s0 s)
    : Kept W s0 (State.dvtTnrErr s tile p epoch fid cause) := by
  unfold State.dvtTnrErr
  try dsimp only
  with_reducible
    repeat' first
      | assumption | refine kept_evLimited ?_ | refine kept_put ?_

theorem kept_dvtEnter {s0 : State} {s : State} {f : Sys2Proof.Machine.Frame} {r : Sys2Proof.Machine.StreamRec} (h0 : Kept W s0 s)
    : Kept W s0 (State.dvtEnter s f r) := by
  unfold State.dvtEnter
  try dsimp only
  with_reducible
    repeat' first
      | assumption | refine kept_enterUnit ?_ | refine kept_modPipe ?_ | refine kept_dvtTnrErr ?_ | refine kept_modFrame ?_
      | refine kept_foldl (fun _ _ _ => ?_) ?_ | split

theorem kept_oflIssue {s0 : State} {s : State} (h0 : Kept W s0 s) : Kept W s0 (State.oflIssue s) := by
  unfold State.oflIssue
  try dsimp only
  with_reducible
    repeat' first
      | assumption | refine kept_modOfl ?_ (fun _ => ?_) | refine kept_ite (fun _ => ?_) (fun _ => ?_)
      | refine keptR_ite (fun _ => ?_) (fun _ => ?_) | refine kept_fst_ite (fun _ => ?_) (fun _ => ?_) | refine kept_id ?_
      | simp only [kept_mk] | refine kept_foldl (fun _ _ _ => ?_) ?_ | refine kept_fst_foldl (fun _ _ _ => ?_) ?_ | refine keptR_next ?_
      | exact keptR_fault | exact keptR_refused | refine keptO_some ?_ | exact keptO_none | exact fun h => h

theorem kept_vcdErr {s0 : State} {s : State} {cause : Nat} (h0 : Kept W s0 s) : Kept W s0 (State.vcdErr s cause) := by
  unfold State.vcdErr
  try dsimp only
  with_reducible
    repeat' first
      | assumption | refine kept_evLimited ?_ | refine kept_put ?_

theorem kept_decParse {s0 : State} {s : State} {disc : Bool} {pts : Nat} {r : Sys2Proof.DecodeResult} (h0 : Kept W s0 s)
    (w_hbm : W.hbm = true) : Kept W s0 (State.decParse s disc pts r) := by
  unfold State.decParse
  try dsimp only
  with_reducible
    repeat' first
      | assumption | refine kept_hbmUndef ?_ ?_ | refine kept_put ?_ | refine kept_inc ?_ | refine kept_vcdErr ?_
      | refine kept_ite (fun _ => ?_) (fun _ => ?_) | simp only [kept_mk] | refine kept_foldl (fun _ _ _ => ?_) ?_

theorem kept_decBusy {s0 : State} {s : State} (h0 : Kept W s0 s) : Kept W s0 (State.decBusy s) := by
  unfold State.decBusy
  try dsimp only
  with_reducible
    repeat' first
      | assumption | refine kept_put ?_

theorem kept_evDone {s0 : State} {s : State} {typ : Nat} {src : Nat} {inst : Nat} {q : Nat} {payload : Nat} (h0 : Kept W s0 s)
    : Kept W s0 (State.evDone s typ src inst q payload) := by
  unfold State.evDone
  try dsimp only
  with_reducible
    repeat' first
      | assumption | refine kept_raise ?_

theorem kept_decodeDescriptor {s0 : State} {s : State} {r : Sys2Proof.DecodeResult} (h0 : Kept W s0 s) (w_hbm : W.hbm = true)
    : Kept W s0 (State.decodeDescriptor s r) := by
  unfold State.decodeDescriptor
  try dsimp only
  with_reducible
    repeat' first
      | assumption | refine kept_jobGone ?_ | refine kept_decParse ?_ ?_ | refine kept_decBusy ?_ | refine kept_wr ?_
      | refine kept_evDone ?_ | refine kept_ite (fun _ => ?_) (fun _ => ?_) | simp only [kept_mk]

theorem kept_execDecodeDescriptor {s0 : State} {r : Sys2Proof.DecodeResult} {s : State} (h1 : Kept W s0 s) (w_hbm : W.hbm = true)
    : KeptR W s0 (execDecodeDescriptor r s) := by
  unfold execDecodeDescriptor
  try dsimp only
  with_reducible
    repeat' first
      | assumption | refine kept_decodeDescriptor ?_ ?_ | refine keptR_next ?_

theorem kept_loadImage {s0 : State} {s : State} (h0 : Kept W s0 s) : Kept W s0 (State.loadImage s) := by
  unfold State.loadImage
  try dsimp only
  with_reducible
    repeat' first
      | assumption | simp only [kept_mk]

theorem kept_drvLoad {s0 : State} {s : State} {v : Nat} (h0 : Kept W s0 s) : Kept W s0 (State.drvLoad s v) := by
  unfold State.drvLoad
  try dsimp only
  with_reducible
    repeat' first
      | assumption | refine kept_drvStart ?_ (fun _ _ => ?_) | refine kept_loadImage ?_

theorem kept_writePlain {s0 : State} {s : State} {off : Nat} {row : Sys2Proof.Machine.RegRow} {ix : List Nat} {v : Nat} (h0 : Kept W s0 s)
    : Kept W s0 (State.writePlain s off row ix v) := by
  unfold State.writePlain
  try dsimp only
  with_reducible
    repeat' first
      | assumption | refine kept_writeFields ?_ | refine kept_ite (fun _ => ?_) (fun _ => ?_) | simp only [kept_mk]
      | refine kept_foldl (fun _ _ _ => ?_) ?_ | split

theorem kept_drvWrite {s0 : State} {s : State} {off : Nat} {row : Sys2Proof.Machine.RegRow} {ix : List Nat} {v : Nat} (h0 : Kept W s0 s)
    (w_mram : W.mram = true) : Kept W s0 (State.drvWrite s off row ix v) := by
  unfold State.drvWrite
  try dsimp only
  with_reducible
    repeat' first
      | assumption | refine kept_writeFields ?_ | refine kept_drvStart ?_ (fun _ _ => ?_) | refine kept_slotBody ?_ ?_
      | refine kept_drvLoad ?_ | refine kept_writePlain ?_ | refine kept_ite (fun _ => ?_) (fun _ => ?_)
      | refine keptR_ite (fun _ => ?_) (fun _ => ?_) | refine kept_fst_ite (fun _ => ?_) (fun _ => ?_) | refine kept_id ?_
      | simp only [kept_mk] | refine kept_foldl (fun _ _ _ => ?_) ?_ | refine kept_fst_foldl (fun _ _ _ => ?_) ?_ | refine keptR_next ?_
      | exact keptR_fault | exact keptR_refused | refine keptO_some ?_ | exact keptO_none | exact fun h => h
      | exact fun h => Mem.write_wf h | exact fun h => Mem.zero_wf h | exact fun h => Mem.set_wf h | exact fun h => Mem.filter_wf h
      | exact fun h => rising_filter h | exact fun h => RegFile.wr_rising h | exact fun h => RegFile.put_rising h
      | exact fun h => judgeSet_rising h | exact fun _ => rfl | exact fun _ => Mem.nil_wf | split

theorem kept_trigger {s0 : State} {s : State} {p : Nat} {t : Nat} (h0 : Kept W s0 s) : Kept W s0 (State.trigger s p t) := by
  unfold State.trigger
  try dsimp only
  with_reducible
    repeat' first
      | assumption | refine kept_trigRefuse ?_ | refine kept_trigMark ?_ | refine kept_trigDecide ?_ | refine kept_modCap ?_
      | refine kept_foldl (fun _ _ _ => ?_) ?_ | split

theorem kept_execCapTimeTrigger {s0 : State} {p : Nat} {s : State} (h1 : Kept W s0 s) : KeptR W s0 (execCapTimeTrigger p s) := by
  unfold execCapTimeTrigger
  try dsimp only
  with_reducible
    repeat' first
      | assumption | refine kept_trigger ?_ | refine kept_modCap ?_ | refine kept_reachDt ?_ | refine keptR_next ?_
      | refine keptR_ite (fun _ => ?_) (fun _ => ?_)

theorem kept_autoDomain {s0 : State} {s : State} {n : Nat} (h0 : Kept W s0 s) : Kept W s0 (State.autoDomain s n) := by
  unfold State.autoDomain
  try dsimp only
  with_reducible
    repeat' first
      | assumption | refine kept_dtSwitch ?_ | refine kept_ev ?_ | refine kept_put ?_ | refine kept_ite (fun _ => ?_) (fun _ => ?_)

theorem kept_endTracking {s0 : State} {s : State} {n : Nat} {lost : Bool} (h0 : Kept W s0 s) : Kept W s0 (State.endTracking s n lost) := by
  unfold State.endTracking
  try dsimp only
  with_reducible
    repeat' first
      | assumption | refine kept_modTime ?_ | refine kept_put ?_ | refine kept_autoDomain ?_ | refine kept_ite (fun _ => ?_) (fun _ => ?_)

theorem kept_trackLapse {s0 : State} {s : State} {n : Nat} (h0 : Kept W s0 s) : Kept W s0 (State.trackLapse s n) := by
  unfold State.trackLapse
  try dsimp only
  with_reducible
    repeat' first
      | assumption | refine kept_endTracking ?_ | refine kept_advance ?_ | refine kept_ite (fun _ => ?_) (fun _ => ?_)

theorem kept_execTrackingLapse {s0 : State} {n : Nat} {s : State} (h1 : Kept W s0 s) : KeptR W s0 (execTrackingLapse n s) := by
  unfold execTrackingLapse
  try dsimp only
  with_reducible
    repeat' first
      | assumption | refine kept_trackLapse ?_ | refine keptR_next ?_

theorem kept_driveLine {s0 : State} {s : State} {l : Nat} {src : Nat} {level : Bool} {time : Nat} (h0 : Kept W s0 s)
    : Kept W s0 (State.driveLine s l src level time) := by
  unfold State.driveLine
  try dsimp only
  with_reducible
    repeat' first
      | assumption | refine kept_emit ?_ | refine kept_put ?_ | refine kept_inc ?_ | refine kept_ite (fun _ => ?_) (fun _ => ?_)

theorem kept_drivePs {s0 : State} {s : State} {k : Nat} {level : Bool} {time : Nat} (h0 : Kept W s0 s)
    : Kept W s0 (State.drivePs s k level time) := by
  unfold State.drivePs
  try dsimp only
  with_reducible
    repeat' first
      | assumption | refine kept_driveLine ?_ | refine kept_foldl (fun _ _ _ => ?_) ?_ | split

theorem kept_modPs {s0 : State} {s : State} {k : Nat} {f : Sys2Proof.Machine.Gen → Sys2Proof.Machine.Gen} (h0 : Kept W s0 s)
    : Kept W s0 (State.modPs s k f) := by
  unfold State.modPs
  try dsimp only
  with_reducible
    repeat' first
      | assumption | simp only [kept_mk]

end Sys2Proof.Machine
end

