-- ==== Sys2Proof/Laws/Kept3.lean ====
section
/-! SUPPORT. What each helper and each meaning keeps, part 3: one lemma per function, named after it. -/

namespace Sys2Proof.Machine

variable {W : Writes}

theorem kept_psEnd {s0 : State} {s : State} {k : Nat} (h0 : Kept W s0 s) : Kept W s0 (State.psEnd s k) := by
  unfold State.psEnd
  try dsimp only
  with_reducible
    repeat' first
      | assumption | refine kept_reachClk ?_ | refine kept_drivePs ?_ | refine kept_modPs ?_ | refine kept_foldl (fun _ _ _ => ?_) ?_
      | split

theorem kept_rtpRecord {s0 : State} {s : State} {k : Nat} {up : Bool} {rec_ : Sys2Proof.Bytes} (h0 : Kept W s0 s)
    : Kept W s0 (State.rtpRecord s k up rec_) := by
  unfold State.rtpRecord
  try dsimp only
  with_reducible
    repeat' first
      | assumption | refine kept_inc ?_ | refine kept_ethSend ?_ | refine kept_modEnc ?_ | refine kept_foldl (fun _ _ _ => ?_) ?_ | split

theorem kept_spiLevels {s0 : State} {s : State} {c : Nat} (h0 : Kept W s0 s) : Kept W s0 (State.spiLevels s c) := by
  unfold State.spiLevels
  try dsimp only
  with_reducible
    repeat' first
      | assumption | refine kept_put ?_

theorem kept_fifoTake {s0 : State} {s : State} {f : Sys2Proof.FifoPort} {i : Nat} (h0 : Kept W s0 s) : Kept W s0 (State.fifoTake s f i) := by
  unfold State.fifoTake
  try dsimp only
  with_reducible
    repeat' first
      | assumption | refine kept_i2cLevels ?_ | refine kept_modI2c ?_ | refine kept_spiLevels ?_ | refine kept_modSpi ?_
      | refine kept_uartLevels ?_ | refine kept_modUart ?_ | refine kept_foldl (fun _ _ _ => ?_) ?_ | split

theorem kept_fifoPop {s0 : State} {s : State} {f : Sys2Proof.FifoPort} {i : Nat} (h0 : Kept W s0 s) : Kept W s0 (State.fifoPop s f i) := by
  unfold State.fifoPop
  try dsimp only
  with_reducible
    repeat' first
      | assumption | refine kept_emit ?_ | refine kept_onUnit ?_ (fun _ _ => ?_) | refine kept_fifoTake ?_
      | refine kept_ite (fun _ => ?_) (fun _ => ?_) | refine keptR_ite (fun _ => ?_) (fun _ => ?_)
      | refine kept_fst_ite (fun _ => ?_) (fun _ => ?_) | refine kept_id ?_

theorem kept_execFifoPop {s0 : State} {f : Sys2Proof.FifoPort} {i : Nat} {s : State} (h2 : Kept W s0 s) : KeptR W s0 (execFifoPop f i s) := by
  unfold execFifoPop
  try dsimp only
  with_reducible
    repeat' first
      | assumption | refine kept_fifoPop ?_ | refine keptR_next ?_

theorem kept_outfPublish {s0 : State} {s : State} {p : Nat} {b : Nat} (h0 : Kept W s0 s) (w_hbm : W.hbm = true)
    : Kept W s0 (State.outfPublish s p b) := by
  unfold State.outfPublish
  try dsimp only
  with_reducible
    repeat' first
      | assumption | refine kept_reachClk ?_ | refine kept_modOutf ?_ | refine kept_emit ?_ | refine kept_hbmWrite ?_ ?_
      | refine kept_wr64 ?_ | refine kept_inc ?_ | refine kept_evFrame ?_ | refine kept_encPull ?_
      | refine kept_foldl (fun _ _ _ => ?_) ?_ | split

theorem kept_execOutfPublish {s0 : State} {p : Nat} {b : Nat} {s : State} (h2 : Kept W s0 s) (w_hbm : W.hbm = true)
    : KeptR W s0 (execOutfPublish p b s) := by
  unfold execOutfPublish
  try dsimp only
  with_reducible
    repeat' first
      | assumption | refine kept_outfPublish ?_ ?_ | refine keptR_next ?_ | refine keptR_ite (fun _ => ?_) (fun _ => ?_)
      | refine kept_ite (fun _ => ?_) (fun _ => ?_)

theorem kept_hostWrite {s0 : State} {s : State} {a : Nat} {b : Sys2Proof.Bytes} (h0 : Kept W s0 s) (w_host : W.host = true)
    : Kept W s0 (State.hostWrite s a b) := by
  unfold State.hostWrite
  try dsimp only
  with_reducible
    repeat' first
      | assumption | refine kept_ite (fun _ => ?_) (fun _ => ?_) | refine keptR_ite (fun _ => ?_) (fun _ => ?_)
      | refine kept_fst_ite (fun _ => ?_) (fun _ => ?_) | refine kept_id ?_ | simp only [kept_mk] | refine kept_foldl (fun _ _ _ => ?_) ?_
      | refine kept_fst_foldl (fun _ _ _ => ?_) ?_ | refine keptR_next ?_ | exact keptR_fault | exact keptR_refused | refine keptO_some ?_
      | exact keptO_none | exact fun h => h | exact fun h => Mem.write_wf h | exact fun h => Mem.zero_wf h | exact fun h => Mem.set_wf h
      | exact fun h => Mem.filter_wf h | exact fun h => rising_filter h | exact fun h => RegFile.wr_rising h
      | exact fun h => RegFile.put_rising h | exact fun h => judgeSet_rising h | exact fun _ => rfl | exact fun _ => Mem.nil_wf | split
      | refine kept_mk_regs ?_ ?_ | refine kept_mk_host ?_ ?_ ?_

theorem kept_modRing {s0 : State} {s : State} {r : Nat} {f : Sys2Proof.Machine.Ring → Sys2Proof.Machine.Ring} (h0 : Kept W s0 s)
    : Kept W s0 (State.modRing s r f) := by
  unfold State.modRing
  try dsimp only
  with_reducible
    repeat' first
      | assumption | simp only [kept_mk]

theorem kept_watermark {s0 : State} {s : State} {w : Sys2Proof.Machine.Watermark} {ix : List Nat} {was : Nat} {level : Nat} (h0 : Kept W s0 s)
    : Kept W s0 (State.watermark s w ix was level) := by
  unfold State.watermark
  try dsimp only
  with_reducible
    repeat' first
      | assumption | refine kept_inc ?_ | refine kept_put ?_ | refine kept_ev ?_ | refine kept_ite (fun _ => ?_) (fun _ => ?_)
      | simp only [kept_mk]

theorem kept_cmdqSync {s0 : State} {s : State} {r : Nat} (h0 : Kept W s0 s) : Kept W s0 (State.cmdqSync s r) := by
  unfold State.cmdqSync
  try dsimp only
  with_reducible
    repeat' first
      | assumption | refine kept_watermark ?_ | refine kept_put ?_

theorem kept_cmdqHeadStep {s0 : State} {s : State} {r : Nat} {x2 : Nat} (h0 : Kept W s0 s) : Kept W s0 (State.cmdqHeadStep s r x2) := by
  induction x2 generalizing s r with
  | zero =>
    unfold State.cmdqHeadStep
    try dsimp only
    repeat' first
      | with_reducible assumption
  | succ n ih =>
    unfold State.cmdqHeadStep
    try dsimp only
    repeat' first
      | with_reducible assumption | with_reducible apply ih | with_reducible refine kept_wr ?_ | with_reducible refine kept_modRing ?_
      | with_reducible refine kept_ite (fun _ => ?_) (fun _ => ?_) | with_reducible refine keptR_ite (fun _ => ?_) (fun _ => ?_)
      | with_reducible refine kept_fst_ite (fun _ => ?_) (fun _ => ?_) | with_reducible refine kept_id ?_ | simp only [kept_mk]
      | with_reducible refine kept_foldl (fun _ _ _ => ?_) ?_ | with_reducible refine kept_fst_foldl (fun _ _ _ => ?_) ?_
      | with_reducible refine keptR_next ?_ | with_reducible exact keptR_fault | with_reducible exact keptR_refused
      | with_reducible refine keptO_some ?_ | with_reducible exact keptO_none | with_reducible exact fun h => h
      | with_reducible exact fun h => Mem.write_wf h | with_reducible exact fun h => Mem.zero_wf h
      | with_reducible exact fun h => Mem.set_wf h | with_reducible exact fun h => Mem.filter_wf h
      | with_reducible exact fun h => rising_filter h | with_reducible exact fun h => RegFile.wr_rising h
      | with_reducible exact fun h => RegFile.put_rising h | with_reducible exact fun h => judgeSet_rising h
      | with_reducible exact fun _ => rfl | exact fun _ => Mem.nil_wf | split

theorem kept_cmdqZero {s0 : State} {s : State} {r : Nat} {start : Nat} {len : Nat} (h0 : Kept W s0 s) (w_host : W.host = true)
    : Kept W s0 (State.cmdqZero s r start len) := by
  unfold State.cmdqZero
  try dsimp only
  with_reducible
    repeat' first
      | assumption | refine kept_hostWrite ?_ ?_ | refine kept_modRing ?_ | refine kept_cmdqSync ?_ | refine kept_cmdqHeadStep ?_

theorem kept_intervalEnd {s0 : State} {s : State} {t : Sys2Proof.Machine.LiveTake} (h0 : Kept W s0 s) (w_ohost : W.ohost = true)
    : Kept W s0 (State.intervalEnd s t) := by
  unfold State.intervalEnd
  try dsimp only
  with_reducible
    repeat' first
      | assumption | refine kept_modRec ?_ | refine kept_addChunk ?_ ?_ | refine kept_modTake ?_ | refine kept_foldl (fun _ _ _ => ?_) ?_
      | split

theorem kept_endTake {s0 : State} {s : State} {n : Nat} (h0 : Kept W s0 s) (w_ohost : W.ohost = true) : Kept W s0 (State.endTake s n) := by
  unfold State.endTake
  try dsimp only
  with_reducible
    repeat' first
      | assumption | refine kept_closeTake ?_ ?_ | refine kept_intervalEnd ?_ ?_ | refine kept_foldl (fun _ _ _ => ?_) ?_ | split

theorem kept_issueRow {s0 : State} {s : State} {n : Nat} (h0 : Kept W s0 s) : Kept W s0 (State.issueRow s n) := by
  unfold State.issueRow
  try dsimp only
  with_reducible
    repeat' first
      | assumption | refine kept_issue ?_ | refine kept_modTake ?_ | refine kept_foldl (fun _ _ _ => ?_) ?_ | split

theorem kept_closeRow {s0 : State} {s : State} {n : Nat} (h0 : Kept W s0 s) : Kept W s0 (State.closeRow s n) := by
  unfold State.closeRow
  try dsimp only
  with_reducible
    repeat' first
      | assumption | refine kept_modTake ?_ | refine kept_issueRow ?_ | refine kept_foldl (fun _ _ _ => ?_) ?_ | split

theorem kept_recCommit {s0 : State} {s : State} (h0 : Kept W s0 s) (w_ohost : W.ohost = true) : Kept W s0 (State.recCommit s) := by
  unfold State.recCommit
  try dsimp only
  with_reducible
    repeat' first
      | assumption | refine kept_intervalEnd ?_ ?_ | refine kept_takeCut ?_ | refine kept_closeRow ?_
      | refine kept_foldl (fun _ _ _ => ?_) ?_ | split

theorem kept_volumeClose {s0 : State} {s : State} {id : Nat} (h0 : Kept W s0 s) (w_ohost : W.ohost = true)
    : Kept W s0 (State.volumeClose s id) := by
  unfold State.volumeClose
  try dsimp only
  with_reducible
    repeat' first
      | assumption | refine kept_closeIdle ?_ ?_ | refine kept_recShow ?_ ?_ | refine kept_modRec ?_ | refine kept_endTake ?_ ?_
      | refine kept_recCommit ?_ ?_ | refine kept_foldl (fun _ _ _ => ?_) ?_ | split

theorem kept_rebuildRow {s0 : State} {s : State} {readFailed : List Nat} (h0 : Kept W s0 s) (w_media : W.media = true)
    (w_ohost : W.ohost = true) : Kept W s0 (State.rebuildRow s readFailed) := by
  unfold State.rebuildRow
  try dsimp only
  with_reducible
    repeat' first
      | assumption | refine kept_mediaWrite ?_ ?_ | refine kept_modVol ?_ | refine kept_modRec ?_ | refine kept_recShow ?_ ?_
      | refine kept_ev ?_ | refine kept_foldl (fun _ _ _ => ?_) ?_ | split

theorem kept_stripeError {s0 : State} {s : State} {cls : Nat} {tile : Nat} (h0 : Kept W s0 s) : Kept W s0 (State.stripeError s cls tile) := by
  unfold State.stripeError
  try dsimp only
  with_reducible
    repeat' first
      | assumption | refine kept_ev ?_ | refine kept_showBusy ?_ | refine kept_modHlt ?_ | refine kept_leaveUndefined ?_
      | refine kept_foldl (fun _ _ _ => ?_) ?_ | split

theorem kept_setGust {s0 : State} {s : State} {ix : Nat} {g : Sys2Proof.Machine.Gust} (h0 : Kept W s0 s) : Kept W s0 (State.setGust s ix g)
    := by
  unfold State.setGust
  try dsimp only
  with_reducible
    repeat' first
      | assumption | refine kept_gustShow ?_ | refine kept_modHlt ?_

theorem kept_setOwner {s0 : State} {s : State} {n : Nat} {o : Nat} (h0 : Kept W s0 s) : Kept W s0 (State.setOwner s n o) := by
  unfold State.setOwner
  try dsimp only
  with_reducible
    repeat' first
      | assumption | refine kept_put ?_

theorem kept_semOrphan {s0 : State} {s : State} {n : Nat} {o : Nat} (h0 : Kept W s0 s) : Kept W s0 (State.semOrphan s n o) := by
  unfold State.semOrphan
  try dsimp only
  with_reducible
    repeat' first
      | assumption | refine kept_ev ?_ | refine kept_put ?_ | refine kept_setOwner ?_ | refine kept_ite (fun _ => ?_) (fun _ => ?_)

theorem kept_ownerReset {s0 : State} {s : State} {o : Nat} (h0 : Kept W s0 s) : Kept W s0 (State.ownerReset s o) := by
  unfold State.ownerReset
  try dsimp only
  with_reducible
    repeat' first
      | assumption | refine kept_semOrphan ?_ | refine kept_foldl (fun _ _ _ => ?_) ?_

theorem kept_pairSwitch {s0 : State} {s : State} (h0 : Kept W s0 s) : Kept W s0 (State.pairSwitch s) := by
  unfold State.pairSwitch
  try dsimp only
  with_reducible
    repeat' first
      | assumption | refine kept_ownerReset ?_ | refine kept_put ?_ | refine kept_ev ?_ | refine kept_modHlt ?_

theorem kept_derateLink {s0 : State} {s : State} {inst : Nat} (h0 : Kept W s0 s) : Kept W s0 (State.derateLink s inst) := by
  unfold State.derateLink
  try dsimp only
  with_reducible
    repeat' first
      | assumption | refine kept_modHlt ?_ | refine kept_put ?_ | refine kept_ite (fun _ => ?_) (fun _ => ?_)

theorem kept_respond {s0 : State} {s : State} {kind : Nat} {inst : Nat} (h0 : Kept W s0 s) : Kept W s0 (State.respond s kind inst).1 := by
  unfold State.respond
  try dsimp only
  with_reducible
    repeat' first
      | assumption | refine kept_put ?_ | refine kept_modHlt ?_ | refine kept_pairSwitch ?_ | refine kept_substitute ?_
      | refine kept_xwShow ?_ | refine kept_derateLink ?_ | refine kept_foldl (fun _ _ _ => ?_) ?_ | split

theorem kept_gustFeed {s0 : State} {s : State} {kind : Nat} {inst : Nat} (h0 : Kept W s0 s) : Kept W s0 (State.gustFeed s kind inst) := by
  unfold State.gustFeed
  try dsimp only
  with_reducible
    repeat' first
      | assumption | refine kept_modHlt ?_ | refine kept_evLimited ?_ | refine kept_setGust ?_ | refine kept_respond ?_
      | refine kept_ev ?_ | refine kept_ite (fun _ => ?_) (fun _ => ?_)

theorem kept_healthErr {s0 : State} {s : State} {kind : Nat} {inst : Nat} {cls : Nat} {tile : Nat} (h0 : Kept W s0 s)
    : Kept W s0 (State.healthErr s kind inst cls tile) := by
  unfold State.healthErr
  try dsimp only
  with_reducible
    repeat' first
      | assumption | refine kept_stripeError ?_ | refine kept_gustFeed ?_ | refine kept_ite (fun _ => ?_) (fun _ => ?_)

theorem kept_execHealthError {s0 : State} {kind : Nat} {inst : Nat} {cls : Nat} {tile : Nat} {s : State} (h4 : Kept W s0 s)
    : KeptR W s0 (execHealthError kind inst cls tile s) := by
  unfold execHealthError
  try dsimp only
  with_reducible
    repeat' first
      | assumption | refine kept_healthErr ?_ | refine keptR_next ?_

theorem kept_takeDrop {s0 : State} {s : State} {t : Sys2Proof.Machine.LiveTake} (h0 : Kept W s0 s) : Kept W s0 (State.takeDrop s t) := by
  unfold State.takeDrop
  try dsimp only
  with_reducible
    repeat' first
      | assumption | refine kept_modTake ?_ | refine kept_bufFree ?_ | refine kept_foldl (fun _ _ _ => ?_) ?_

theorem kept_waitersEnd {s0 : State} {s : State} {st : Nat} (h0 : Kept W s0 s) : Kept W s0 (State.waitersEnd s st) := by
  unfold State.waitersEnd
  try dsimp only
  with_reducible
    repeat' first
      | assumption | refine kept_setResult ?_ | refine kept_modRec ?_ | refine kept_foldl (fun _ _ _ => ?_) ?_

theorem kept_deadCheck {s0 : State} {s : State} (h0 : Kept W s0 s) (w_ohost : W.ohost = true) : Kept W s0 (State.deadCheck s) := by
  unfold State.deadCheck
  try dsimp only
  with_reducible
    repeat' first
      | assumption | refine kept_modRec ?_ | refine kept_takeDrop ?_ | refine kept_closeTake ?_ ?_ | refine kept_waitersEnd ?_
      | refine kept_recShow ?_ ?_ | refine kept_ev ?_ | refine kept_foldl (fun _ _ _ => ?_) ?_ | split

theorem kept_usbAnswer {s0 : State} {s : State} {ep : Nat} {pid : Sys2Proof.Byte} (h0 : Kept W s0 s) : Kept W s0 (State.usbAnswer s ep pid)
    := by
  unfold State.usbAnswer
  try dsimp only
  with_reducible
    repeat' first
      | assumption | refine kept_emit ?_

theorem kept_usbPut {s0 : State} {s : State} {base : Nat} {n : Nat} {c : Nat} {b : Sys2Proof.Bytes} (h0 : Kept W s0 s) (w_hbm : W.hbm = true)
    : Kept W s0 (State.usbPut s base n c b) := by
  unfold State.usbPut
  try dsimp only
  with_reducible
    repeat' first
      | assumption | refine kept_hbmWrite ?_ ?_ | refine kept_foldl (fun _ _ _ => ?_) ?_

theorem kept_usbOut {s0 : State} {s : State} {data : Sys2Proof.Bytes} (h0 : Kept W s0 s) (w_hbm : W.hbm = true)
    : Kept W s0 (State.usbOut s data) := by
  unfold State.usbOut
  try dsimp only
  with_reducible
    repeat' first
      | assumption | refine kept_usbAnswer ?_ | refine kept_wr ?_ | refine kept_usbPut ?_ ?_ | refine kept_foldl (fun _ _ _ => ?_) ?_
      | split

theorem kept_execUsbOutPacket {s0 : State} {data : Sys2Proof.Bytes} {s : State} (h1 : Kept W s0 s) (w_hbm : W.hbm = true)
    : KeptR W s0 (execUsbOutPacket data s) := by
  unfold execUsbOutPacket
  try dsimp only
  with_reducible
    repeat' first
      | assumption | refine kept_usbOut ?_ ?_ | refine keptR_next ?_

theorem kept_semJudge {s0 : State} {s : State} {n : Nat} {reqs : List Nat} {rels : List Nat} {rsts : List Nat} (h0 : Kept W s0 s)
    : Kept W s0 (State.semJudge s n reqs rels rsts) := by
  unfold State.semJudge
  try dsimp only
  with_reducible
    repeat' first
      | assumption | refine kept_semOrphan ?_ | refine kept_setOwner ?_ | refine kept_foldl (fun _ _ _ => ?_) ?_ | split

theorem kept_latchHi {s0 : State} {s : State} {rq : Nat} {hoff : Nat} (h0 : Kept W s0 s) : Kept W s0 (State.latchHi s rq hoff) := by
  unfold State.latchHi
  try dsimp only
  with_reducible
    repeat' first
      | assumption | simp only [kept_mk]

theorem kept_regRead {s0 : State} {rq : Nat} {s : State} {off : Nat} (h1 : Kept W s0 s) : Kept W s0 (State.regRead rq s off).2 := by
  unfold State.regRead
  try dsimp only
  with_reducible
    repeat' first
      | assumption | refine kept_onUnit ?_ (fun _ _ => ?_) | refine kept_semJudge ?_ | refine kept_fifoTake ?_ | refine kept_latchHi ?_
      | refine kept_ite (fun _ => ?_) (fun _ => ?_) | refine keptR_ite (fun _ => ?_) (fun _ => ?_)
      | refine kept_fst_ite (fun _ => ?_) (fun _ => ?_) | refine kept_id ?_ | simp only [kept_mk] | refine kept_foldl (fun _ _ _ => ?_) ?_
      | refine kept_fst_foldl (fun _ _ _ => ?_) ?_ | refine keptR_next ?_ | exact keptR_fault | exact keptR_refused | refine keptO_some ?_
      | exact keptO_none | exact fun h => h | exact fun h => Mem.write_wf h | exact fun h => Mem.zero_wf h | exact fun h => Mem.set_wf h
      | exact fun h => Mem.filter_wf h | exact fun h => rising_filter h | exact fun h => RegFile.wr_rising h
      | exact fun h => RegFile.put_rising h | exact fun h => judgeSet_rising h | exact fun _ => rfl | exact fun _ => Mem.nil_wf | split

theorem kept_nvmeFlush {s0 : State} {s : State} {c : Sys2Proof.NvmeCmd} (h0 : Kept W s0 s) (w_ohost : W.ohost = true)
    : Kept W s0 (State.nvmeFlush s c) := by
  unfold State.nvmeFlush
  try dsimp only
  with_reducible
    repeat' first
      | assumption | refine kept_oflFetch ?_ (fun _ _ _ => ?_) ?_ | refine kept_oflComplete ?_ ?_ | refine kept_oflShow ?_
      | refine kept_modCmd ?_ | refine kept_ite (fun _ => ?_) (fun _ => ?_)

theorem kept_execNvmeFlush {s0 : State} {c : Sys2Proof.NvmeCmd} {s : State} (h1 : Kept W s0 s) (w_ohost : W.ohost = true)
    : KeptR W s0 (execNvmeFlush c s) := by
  unfold execNvmeFlush
  try dsimp only
  with_reducible
    repeat' first
      | assumption | refine kept_nvmeFlush ?_ ?_ | refine keptR_next ?_

theorem kept_railSend {s0 : State} {s : State} {r : Nat} {k : Nat} (h0 : Kept W s0 s) : Kept W s0 (State.railSend s r k) := by
  unfold State.railSend
  try dsimp only
  with_reducible
    repeat' first
      | assumption | refine kept_put ?_ | refine kept_emit ?_ | refine kept_foldl (fun _ _ _ => ?_) ?_

theorem kept_oflUnmask {s0 : State} {s : State} {page : Nat} (h0 : Kept W s0 s) (w_ohost : W.ohost = true)
    : Kept W s0 (State.oflUnmask s page) := by
  unfold State.oflUnmask
  try dsimp only
  with_reducible
    repeat' first
      | assumption | refine kept_oflEvents ?_ ?_ | refine kept_modOfl ?_ (fun _ => ?_) | refine kept_ite (fun _ => ?_) (fun _ => ?_)
      | refine keptR_ite (fun _ => ?_) (fun _ => ?_) | refine kept_fst_ite (fun _ => ?_) (fun _ => ?_) | refine kept_id ?_
      | simp only [kept_mk] | refine kept_foldl (fun _ _ _ => ?_) ?_ | refine kept_fst_foldl (fun _ _ _ => ?_) ?_ | refine keptR_next ?_
      | exact keptR_fault | exact keptR_refused | refine keptO_some ?_ | exact keptO_none | exact fun h => h

theorem kept_failMembers {s0 : State} {s : State} {l : List (Nat × Nat)} (h0 : Kept W s0 s) (w_ohost : W.ohost = true)
    : Kept W s0 (State.failMembers s l) := by
  unfold State.failMembers
  try dsimp only
  with_reducible
    repeat' first
      | assumption | refine kept_modVol ?_ | refine kept_modRec ?_ | refine kept_ev ?_ | refine kept_deadCheck ?_ ?_
      | refine kept_recShow ?_ ?_ | refine kept_foldl (fun _ _ _ => ?_) ?_ | split

theorem kept_pdDone {s0 : State} {s : State} (h0 : Kept W s0 s) (w_ohost : W.ohost = true) : Kept W s0 (State.pdDone s) := by
  unfold State.pdDone
  try dsimp only
  with_reducible
    repeat' first
      | assumption | refine kept_domainSet ?_ ?_ | refine kept_modCpr ?_ | refine kept_put ?_ | refine kept_clkShow ?_ | refine kept_ev ?_
      | refine kept_foldl (fun _ _ _ => ?_) ?_ | split

theorem kept_execEvCprPd {s0 : State} {s : State} (h0 : Kept W s0 s) (w_ohost : W.ohost = true) : KeptR W s0 (execEvCprPd s) := by
  unfold execEvCprPd
  try dsimp only
  with_reducible
    repeat' first
      | assumption | refine kept_pdDone ?_ ?_ | refine keptR_next ?_

theorem kept_onAck {s0 : State} {s : State} {m : Sys2Proof.Machine.SkyIn} (h0 : Kept W s0 s) : Kept W s0 (State.onAck s m) := by
  unfold State.onAck
  try dsimp only
  with_reducible
    repeat' first
      | assumption | refine kept_skyAnswer ?_ | refine kept_modSky ?_ | refine kept_ite (fun _ => ?_) (fun _ => ?_)

theorem kept_mediaHostOff {s0 : State} {s : State} (h0 : Kept W s0 s) : Kept W s0 (State.mediaHostOff s) := by
  unfold State.mediaHostOff
  try dsimp only
  with_reducible
    repeat' first
      | assumption | refine kept_wr ?_ | refine kept_put ?_ | refine kept_decBusy ?_ | refine kept_ite (fun _ => ?_) (fun _ => ?_)
      | simp only [kept_mk] | refine kept_foldl (fun _ _ _ => ?_) ?_

theorem kept_onAssign {s0 : State} {s : State} {m : Sys2Proof.Machine.SkyIn} (h0 : Kept W s0 s) : Kept W s0 (State.onAssign s m) := by
  unfold State.onAssign
  try dsimp only
  with_reducible
    repeat' first
      | assumption | refine kept_modSky ?_ | refine kept_put ?_ | refine kept_wr64 ?_ | refine kept_wr ?_ | refine kept_evSkyState ?_
      | refine kept_skyPlace ?_ | refine kept_skyRegroup ?_ | refine kept_foldl (fun _ _ _ => ?_) ?_ | split

theorem kept_formatZero {s0 : State} {s : State} {v : Sys2Proof.Machine.Volume} (h0 : Kept W s0 s) (w_media : W.media = true)
    : Kept W s0 (State.formatZero s v) := by
  unfold State.formatZero
  try dsimp only
  with_reducible
    repeat' first
      | assumption | refine kept_ite (fun _ => ?_) (fun _ => ?_) | refine keptR_ite (fun _ => ?_) (fun _ => ?_)
      | refine kept_fst_ite (fun _ => ?_) (fun _ => ?_) | refine kept_id ?_ | simp only [kept_mk] | refine kept_foldl (fun _ _ _ => ?_) ?_
      | refine kept_fst_foldl (fun _ _ _ => ?_) ?_ | refine keptR_next ?_ | exact keptR_fault | exact keptR_refused | refine keptO_some ?_
      | exact keptO_none | exact fun h => h | exact fun h => Mem.write_wf h | exact fun h => Mem.zero_wf h | exact fun h => Mem.set_wf h
      | exact fun h => Mem.filter_wf h | exact fun h => rising_filter h | exact fun h => RegFile.wr_rising h
      | exact fun h => RegFile.put_rising h | exact fun h => judgeSet_rising h | exact fun _ => rfl | exact fun _ => Mem.nil_wf | split
      | refine kept_mk_regs ?_ ?_ | refine kept_mk_host ?_ ?_ ?_ | refine kept_mk_ohost ?_ ?_ ?_ | refine kept_mk_hbm ?_ ?_ ?_
      | refine kept_mk_mram ?_ ?_ ?_ | refine kept_mk_lut ?_ ?_ ?_ | refine kept_mk_ofl ?_ ?_ | refine kept_mk_media ?_ ?_ ?_

theorem kept_mediaFormat {s0 : State} {s : State} {id : Nat} {uuid : Nat} {now : Nat} (h0 : Kept W s0 s) (w_media : W.media = true)
    (w_ohost : W.ohost = true) : Kept W s0 (State.mediaFormat s id uuid now) := by
  unfold State.mediaFormat
  try dsimp only
  with_reducible
    repeat' first
      | assumption | refine kept_recPacket ?_ (fun _ => ?_) | refine kept_setResult ?_ | refine kept_formatZero ?_ ?_
      | refine kept_mediaWrite ?_ ?_ | refine kept_rowStore ?_ ?_ | refine kept_recShow ?_ ?_ | refine kept_modRec ?_
      | refine kept_foldl (fun _ _ _ => ?_) ?_ | split

theorem kept_execMediaFormat {s0 : State} {id : Nat} {uuid : Nat} {now : Nat} {s : State} (h3 : Kept W s0 s) (w_media : W.media = true)
    (w_ohost : W.ohost = true) : KeptR W s0 (execMediaFormat id uuid now s) := by
  unfold execMediaFormat
  try dsimp only
  with_reducible
    repeat' first
      | assumption | refine kept_mediaFormat ?_ ?_ ?_ | refine keptR_next ?_

theorem kept_oflReadError {s0 : State} {s : State} {id : Nat} {member : Nat} {lba : Nat} (h0 : Kept W s0 s) (w_ohost : W.ohost = true)
    : Kept W s0 (State.oflReadError s id member lba) := by
  unfold State.oflReadError
  try dsimp only
  with_reducible
    repeat' first
      | assumption | refine kept_modOfl ?_ (fun _ => ?_) | refine kept_put ?_ | refine kept_oflComplete ?_ ?_ | refine kept_evLimited ?_
      | refine kept_ite (fun _ => ?_) (fun _ => ?_) | refine keptR_ite (fun _ => ?_) (fun _ => ?_)
      | refine kept_fst_ite (fun _ => ?_) (fun _ => ?_) | refine kept_id ?_ | simp only [kept_mk] | refine kept_foldl (fun _ _ _ => ?_) ?_
      | refine kept_fst_foldl (fun _ _ _ => ?_) ?_ | refine keptR_next ?_ | exact keptR_fault | exact keptR_refused | refine keptO_some ?_
      | exact keptO_none | exact fun h => h | exact fun h => Mem.write_wf h | exact fun h => Mem.zero_wf h | exact fun h => Mem.set_wf h
      | exact fun h => Mem.filter_wf h | exact fun h => rising_filter h | exact fun h => RegFile.wr_rising h
      | exact fun h => RegFile.put_rising h | exact fun h => judgeSet_rising h | exact fun _ => rfl | exact fun _ => Mem.nil_wf | split

theorem kept_oflToHost {s0 : State} {s : State} {prp1 prp2 : Nat} {b : Bytes} (h : Kept W s0 s) (w_ohost : W.ohost = true)
    : KeptO W s0 (State.oflToHost s prp1 prp2 b) := by
  unfold State.oflToHost
  intro t ht
  obtain ⟨l, _, rfl⟩ := Option.map_eq_some_iff.1 ht
  exact kept_fst_foldl (fun _ _ ha => kept_ohostWrite ha w_ohost) h

theorem kept_readDone {s0 : State} {s : State} {id : Nat} (h : Kept W s0 s) (w_ohost : W.ohost = true) : Kept W s0 (State.readDone s id)
    := by
  unfold State.readDone
  split
  · split
    · exact kept_oflReadError h w_ohost
    · extract_lets b s1
      have h1 : Kept W s0 s1 := kept_mk.2 h
      refine kept_ite (fun _ => ?_) (fun _ => kept_ite (fun _ => kept_oflComplete h1 w_ohost) (fun _ => kept_oflComplete h1 w_ohost))
      split
      · exact kept_oflComplete (kept_oflCount (kept_oflToHost h1 w_ohost _ ‹_›)) w_ohost
      · exact kept_oflComplete h1 w_ohost
  · exact kept_oflComplete h w_ohost
  · exact h

theorem kept_ioEnded {s0 : State} {s : State} {i : Sys2Proof.Machine.OflIo} {f : Sys2Proof.Machine.OflCmd → Sys2Proof.Machine.OflCmd}
    (h0 : Kept W s0 s) (w_ohost : W.ohost = true) : Kept W s0 (State.ioEnded s i f) := by
  unfold State.ioEnded
  try dsimp only
  with_reducible
    repeat' first
      | assumption | refine kept_modCmd ?_ | refine kept_modOfl ?_ (fun _ => ?_) | refine kept_oflIssue ?_ | refine kept_closeIdle ?_ ?_
      | refine kept_readDone ?_ ?_ | refine kept_ite (fun _ => ?_) (fun _ => ?_) | refine keptR_ite (fun _ => ?_) (fun _ => ?_)
      | refine kept_fst_ite (fun _ => ?_) (fun _ => ?_) | refine kept_id ?_ | simp only [kept_mk] | refine kept_foldl (fun _ _ _ => ?_) ?_
      | refine kept_fst_foldl (fun _ _ _ => ?_) ?_ | refine keptR_next ?_ | exact keptR_fault | exact keptR_refused | refine keptO_some ?_
      | exact keptO_none | exact fun h => h

theorem kept_memberIoDone {s0 : State} {s : State} {io : Nat} (h0 : Kept W s0 s) (w_ohost : W.ohost = true)
    : Kept W s0 (State.memberIoDone s io) := by
  unfold State.memberIoDone
  try dsimp only
  with_reducible
    repeat' first
      | assumption | refine kept_ioEnded ?_ ?_ | refine kept_foldl (fun _ _ _ => ?_) ?_ | split

theorem kept_loadStart {s0 : State} {s : State} (h0 : Kept W s0 s) : Kept W s0 (State.loadStart s) := by
  unfold State.loadStart
  try dsimp only
  with_reducible
    repeat' first
      | assumption | refine kept_put ?_ | simp only [kept_mk]

theorem kept_drvEffect {s0 : State} {s : State} {op : Nat} (h0 : Kept W s0 s) (w_mram : W.mram = true) : Kept W s0 (State.drvEffect s op)
    := by
  unfold State.drvEffect
  try dsimp only
  with_reducible
    repeat' first
      | assumption | refine kept_put ?_ | refine kept_nvShow ?_ | refine kept_mramWrite ?_ ?_ | refine kept_loadStart ?_
      | refine kept_ite (fun _ => ?_) (fun _ => ?_) | simp only [kept_mk] | refine kept_foldl (fun _ _ _ => ?_) ?_ | split

theorem kept_drvErr {s0 : State} {s : State} {c : Sys2Proof.Machine.DrvCode} (h0 : Kept W s0 s) : Kept W s0 (State.drvErr s c) := by
  unfold State.drvErr
  try dsimp only
  with_reducible
    repeat' first
      | assumption | refine kept_wr ?_ | refine kept_put ?_

theorem kept_drvEnd {s0 : State} {s : State} (h0 : Kept W s0 s) (w_mram : W.mram = true) : Kept W s0 (State.drvEnd s) := by
  unfold State.drvEnd
  try dsimp only
  with_reducible
    repeat' first
      | assumption | refine kept_put ?_ | refine kept_drvEffect ?_ ?_ | refine kept_ev ?_ | refine kept_drvErr ?_
      | refine kept_ite (fun _ => ?_) (fun _ => ?_) | simp only [kept_mk] | refine kept_foldl (fun _ _ _ => ?_) ?_ | split

theorem kept_execDrvOperationEnd {s0 : State} {s : State} (h0 : Kept W s0 s) (w_mram : W.mram = true)
    : KeptR W s0 (execDrvOperationEnd s) := by
  unfold execDrvOperationEnd
  try dsimp only
  with_reducible
    repeat' first
      | assumption | refine kept_drvEnd ?_ ?_ | refine keptR_next ?_

theorem kept_marginScan {s0 : State} {s : State} {n : Nat} {eyes : List (Nat × Nat)} (h0 : Kept W s0 s) : Kept W s0 (State.marginScan s n eyes)
    := by
  unfold State.marginScan
  try dsimp only
  with_reducible
    repeat' first
      | assumption | refine kept_put ?_ | refine kept_fresh ?_ | refine kept_modHbm ?_ | refine kept_foldl (fun _ _ _ => ?_) ?_ | split

theorem kept_execMarginScan {s0 : State} {ch : Nat} {eyes : List (Nat × Nat)} {s : State} (h2 : Kept W s0 s)
    : KeptR W s0 (execMarginScan ch eyes s) := by
  unfold execMarginScan
  try dsimp only
  with_reducible
    repeat' first
      | assumption | refine kept_marginScan ?_ | refine keptR_next ?_

theorem kept_audStart {s0 : State} {s : State} {v : Nat} (h0 : Kept W s0 s) : Kept W s0 (State.audStart s v) := by
  unfold State.audStart
  try dsimp only
  with_reducible
    repeat' first
      | assumption | refine kept_writeFields ?_ | refine kept_modPort ?_ | refine kept_wr64 ?_ | refine kept_wr ?_ | refine kept_put ?_
      | refine kept_startLess ?_ | refine kept_modAud ?_ | refine kept_foldl (fun _ _ _ => ?_) ?_ | split

theorem kept_audWrite {s0 : State} {s : State} {off : Nat} {row : Sys2Proof.Machine.RegRow} {ix : List Nat} {v : Nat} (h0 : Kept W s0 s)
    : Kept W s0 (State.audWrite s off row ix v) := by
  unfold State.audWrite
  try dsimp only
  with_reducible
    repeat' first
      | assumption | refine kept_audStart ?_ | refine kept_writePlain ?_ | refine kept_ite (fun _ => ?_) (fun _ => ?_)

theorem kept_gpioOut {s0 : State} {s : State} {b : Nat} {v : Nat} (h0 : Kept W s0 s) : Kept W s0 (State.gpioOut s b v) := by
  unfold State.gpioOut
  try dsimp only
  with_reducible
    repeat' first
      | assumption | refine kept_put ?_ | refine kept_driveLine ?_ | refine kept_foldl (fun _ _ _ => ?_) ?_ | split

theorem kept_gpioSet {s0 : State} {s : State} {b : Nat} {v : Nat} (h0 : Kept W s0 s) : Kept W s0 (State.gpioSet s b v) := by
  unfold State.gpioSet
  try dsimp only
  with_reducible
    repeat' first
      | assumption | refine kept_gpioOut ?_ | refine kept_ite (fun _ => ?_) (fun _ => ?_)

theorem kept_memWrite {s0 : State} {s : State} {host : Bool} {a : Nat} {b : Sys2Proof.Bytes} (h0 : Kept W s0 s) (w_hbm : W.hbm = true)
    (w_host : W.host = true) : Kept W s0 (State.memWrite s host a b) := by
  unfold State.memWrite
  try dsimp only
  with_reducible
    repeat' first
      | assumption | refine kept_hostWrite ?_ ?_ | refine kept_hbmWrite ?_ ?_ | refine kept_ite (fun _ => ?_) (fun _ => ?_)

theorem kept_ioCmd {s0 : State} {s : State} {c : Sys2Proof.NvmeCmd} {opc : Nat} {wr : Bool} {most : Nat}
    {run : State → Nat → Sys2Proof.Machine.State} (h0 : Kept W s0 s) (h5 : ∀ a0 a1, Kept W s0 a0 → Kept W s0 (run a0 a1))
    (w_ohost : W.ohost = true) : Kept W s0 (State.ioCmd s c opc wr most run) := by
  unfold State.ioCmd
  try dsimp only
  with_reducible
    repeat' first
      | assumption | apply h5 | refine kept_oflFetch ?_ (fun _ _ _ => ?_) ?_ | refine kept_oflComplete ?_ ?_
      | refine kept_ite (fun _ => ?_) (fun _ => ?_)

theorem kept_execNvmeWrite {s0 : State} {c : Sys2Proof.NvmeCmd} {data : Sys2Proof.Bytes} {s : State} (h2 : Kept W s0 s)
    (w_ohost : W.ohost = true) : KeptR W s0 (execNvmeWrite c data s) := by
  unfold execNvmeWrite
  try dsimp only
  with_reducible
    repeat' first
      | assumption | refine kept_ioCmd ?_ (fun _ _ _ => ?_) ?_ | refine kept_cacheWrite ?_ ?_ | refine kept_modCmd ?_
      | refine keptR_next ?_

theorem kept_holdEnd {s0 : State} {s : State} {mv : Nat} (h0 : Kept W s0 s) (w_hbm : W.hbm = true) (w_lut : W.lut = true)
    : Kept W s0 (State.holdEnd s mv) := by
  unfold State.holdEnd
  try dsimp only
  with_reducible
    repeat' first
      | assumption | refine kept_put ?_ | refine kept_vsense ?_ | refine kept_coldReset ?_ ?_ ?_
      | refine kept_ite (fun _ => ?_) (fun _ => ?_)

theorem kept_pprGo {s0 : State} {s : State} {n : Nat} {v : Nat} {ok : Bool} (h0 : Kept W s0 s) : Kept W s0 (State.pprGo s n v ok) := by
  unfold State.pprGo
  try dsimp only
  with_reducible
    repeat' first
      | assumption | refine kept_writeFields ?_ | refine kept_put ?_ | refine kept_ite (fun _ => ?_) (fun _ => ?_) | simp only [kept_mk]

theorem kept_usbReset {s0 : State} {s : State} {ctl : Option Nat} {hs : Bool} (h0 : Kept W s0 s) : Kept W s0 (State.usbReset s ctl hs) := by
  unfold State.usbReset
  try dsimp only
  with_reducible
    repeat' first
      | assumption | refine kept_usbDetach ?_ | refine kept_put ?_ | refine kept_modLsp ?_ | refine kept_ev ?_
      | refine kept_ite (fun _ => ?_) (fun _ => ?_)

theorem kept_dawnHalt {s0 : State} {s : State} (h0 : Kept W s0 s) : Kept W s0 (State.dawnHalt s) := by
  unfold State.dawnHalt
  try dsimp only
  with_reducible
    repeat' first
      | assumption | refine kept_put ?_ | refine kept_modCpr ?_

theorem kept_dawnSource {s0 : State} {s : State} (h0 : Kept W s0 s) : Kept W s0 (State.dawnSource s) := by
  unfold State.dawnSource
  try dsimp only
  with_reducible
    repeat' first
      | assumption | refine kept_inc ?_ | refine kept_modCpr ?_ | refine kept_ite (fun _ => ?_) (fun _ => ?_) | simp only [kept_mk]

theorem kept_dawnAlwaysOn {s0 : State} {s : State} (h0 : Kept W s0 s) (w_ohost : W.ohost = true) : Kept W s0 (State.dawnAlwaysOn s) := by
  unfold State.dawnAlwaysOn
  try dsimp only
  with_reducible
    repeat' first
      | assumption | refine kept_domainSet ?_ ?_ | refine kept_wr ?_ | refine kept_clkShow ?_ | refine kept_put ?_
      | refine kept_strapShow ?_ | refine kept_ite (fun _ => ?_) (fun _ => ?_) | simp only [kept_mk]
      | refine kept_foldl (fun _ _ _ => ?_) ?_

theorem kept_dawnMem {s0 : State} {s : State} (h0 : Kept W s0 s) (w_ohost : W.ohost = true) : Kept W s0 (State.dawnMem s) := by
  unfold State.dawnMem
  try dsimp only
  with_reducible
    repeat' first
      | assumption | refine kept_domainSet ?_ ?_ | refine kept_put ?_ | refine kept_modLsp ?_ | refine kept_clkShow ?_
      | refine kept_foldl (fun _ _ _ => ?_) ?_ | split

theorem kept_takeImage {s0 : State} {s : State} {nor : Sys2Proof.Bytes} {failed : List Nat} (h0 : Kept W s0 s)
    : Kept W s0 (State.takeImage s nor failed) := by
  unfold State.takeImage
  try dsimp only
  with_reducible
    repeat' first
      | assumption | refine kept_modCpr ?_ | refine kept_drvErr ?_ | refine kept_ite (fun _ => ?_) (fun _ => ?_) | simp only [kept_mk]
      | refine kept_foldl (fun _ _ _ => ?_) ?_ | split

theorem kept_dawnTrain {s0 : State} {s : State} {r : Sys2Proof.DawnInput} (h0 : Kept W s0 s) : Kept W s0 (State.dawnTrain s r) := by
  unfold State.dawnTrain
  try dsimp only
  with_reducible
    repeat' first
      | assumption | refine kept_put ?_ | refine kept_groupsShow ?_ | refine kept_takeImage ?_
      | refine kept_ite (fun _ => ?_) (fun _ => ?_) | simp only [kept_mk] | refine kept_foldl (fun _ _ _ => ?_) ?_

theorem kept_railsStore {s0 : State} {s : State} (h0 : Kept W s0 s) : Kept W s0 (State.railsStore s) := by
  unfold State.railsStore
  try dsimp only
  with_reducible
    repeat' first
      | assumption | refine kept_ite (fun _ => ?_) (fun _ => ?_) | simp only [kept_mk]

theorem kept_railsSendAll {s0 : State} {s : State} (h0 : Kept W s0 s) : Kept W s0 (State.railsSendAll s) := by
  unfold State.railsSendAll
  try dsimp only
  with_reducible
    repeat' first
      | assumption | refine kept_railSend ?_ | refine kept_foldl (fun _ _ _ => ?_) ?_ | split

theorem kept_logAppend {s0 : State} {s : State} {b : Sys2Proof.Bytes} (h0 : Kept W s0 s) (w_mram : W.mram = true)
    : Kept W s0 (State.logAppend s b) := by
  unfold State.logAppend
  try dsimp only
  with_reducible
    repeat' first
      | assumption | refine kept_mramWrite ?_ ?_ | refine kept_wr ?_ | refine kept_ite (fun _ => ?_) (fun _ => ?_) | simp only [kept_mk]

theorem kept_planRun {s0 : State} {s : State} {cause : Nat} {m : Sys2Proof.BaroMeas} (h0 : Kept W s0 s) (w_mram : W.mram = true)
    : Kept W s0 (State.planRun s cause m) := by
  unfold State.planRun
  try dsimp only
  with_reducible
    repeat' first
      | assumption | refine kept_railsStore ?_ | refine kept_put ?_ | refine kept_ev ?_ | refine kept_railsSendAll ?_ | refine kept_wr ?_
      | refine kept_logAppend ?_ ?_ | refine kept_inc ?_ | refine kept_ite (fun _ => ?_) (fun _ => ?_) | simp only [kept_mk]
      | refine kept_foldl (fun _ _ _ => ?_) ?_

theorem kept_loadPorts {s0 : State} {s : State} (h0 : Kept W s0 s) : Kept W s0 (State.loadPorts s) := by
  unfold State.loadPorts
  try dsimp only
  with_reducible
    repeat' first
      | assumption | refine kept_lanesSync ?_ | refine kept_ite (fun _ => ?_) (fun _ => ?_) | simp only [kept_mk]

theorem kept_loadMem {s0 : State} {s : State} (h0 : Kept W s0 s) (w_hbm : W.hbm = true) : Kept W s0 (State.loadMem s) := by
  unfold State.loadMem
  try dsimp only
  with_reducible
    repeat' first
      | assumption | refine kept_setMap ?_ | refine kept_hbmZero ?_ ?_ | refine kept_hbmUndef ?_ ?_
      | refine kept_ite (fun _ => ?_) (fun _ => ?_) | simp only [kept_mk] | refine kept_foldl (fun _ _ _ => ?_) ?_

theorem kept_loadLuts {s0 : State} {s : State} {hbmToo : Bool} (h0 : Kept W s0 s) (w_hbm : W.hbm = true) (w_lut : W.lut = true)
    : Kept W s0 (State.loadLuts s hbmToo) := by
  unfold State.loadLuts
  try dsimp only
  with_reducible
    repeat' first
      | assumption | refine kept_putBlob ?_ ?_ ?_ | refine kept_foldl (fun _ _ _ => ?_) ?_

theorem kept_regsTaken {s0 : State} {s : State} {old : State} (h0 : Kept W s0 s) (h1 : Kept W s0 old) : Kept W s0 (State.regsTaken s old)
    := by
  unfold State.regsTaken
  try dsimp only
  with_reducible
    repeat' first
      | assumption | refine kept_gustShow ?_ | refine kept_gpioOut ?_ | refine kept_put ?_ | refine kept_ite (fun _ => ?_) (fun _ => ?_)
      | simp only [kept_mk] | refine kept_foldl (fun _ _ _ => ?_) ?_

theorem kept_loadPresets {s0 : State} {s : State} (h : Kept W s0 s) : Kept W s0 (State.loadPresets s) := by
  unfold State.loadPresets
  extract_lets g old regs s1
  have h1 : Kept W s0 s1 := kept_mk_regs h fun h => regs_foldl_rising (fun _ _ hm => presetOne_rising hm) h
  exact kept_regsTaken h1 h

theorem kept_dawnPreset {s0 : State} {s : State} (h0 : Kept W s0 s) : Kept W s0 (State.dawnPreset s) := by
  unfold State.dawnPreset
  try dsimp only
  with_reducible
    repeat' first
      | assumption | refine kept_loadPresets ?_ | refine kept_railsSendAll ?_ | refine kept_railsStore ?_
      | refine kept_ite (fun _ => ?_) (fun _ => ?_)

theorem kept_loadFirmware {s0 : State} {s : State} (h0 : Kept W s0 s) : Kept W s0 (State.loadFirmware s) := by
  unfold State.loadFirmware
  try dsimp only
  with_reducible
    repeat' first
      | assumption | refine kept_ownerReset ?_ | refine kept_put ?_ | refine kept_wr ?_ | refine kept_fwShow ?_
      | refine kept_ite (fun _ => ?_) (fun _ => ?_)

theorem kept_loadTopology {s0 : State} {s : State} (h0 : Kept W s0 s) : Kept W s0 (State.loadTopology s) := by
  unfold State.loadTopology
  try dsimp only
  with_reducible
    repeat' first
      | assumption | refine kept_put ?_ | refine kept_modHlt ?_ | refine kept_capFront ?_ | refine kept_xwAssign ?_
      | refine kept_audEpoch ?_ | refine kept_genEpoch ?_ | refine kept_ite (fun _ => ?_) (fun _ => ?_) | simp only [kept_mk]
      | refine kept_foldl (fun _ _ _ => ?_) ?_

theorem kept_dawnTopology {s0 : State} {s : State} (h0 : Kept W s0 s) : Kept W s0 (State.dawnTopology s) := by
  unfold State.dawnTopology
  try dsimp only
  with_reducible
    repeat' first
      | assumption | refine kept_loadTopology ?_ | refine kept_put ?_ | refine kept_fallbackShow ?_ | refine kept_nvShow ?_
      | refine kept_dawnReady ?_ | refine kept_modLsp ?_ | refine kept_ite (fun _ => ?_) (fun _ => ?_) | simp only [kept_mk]

theorem kept_dawnDo {s0 : State} {s : State} {n : Nat} {r : Sys2Proof.DawnInput} (h0 : Kept W s0 s) (w_hbm : W.hbm = true)
    (w_lut : W.lut = true) (w_mram : W.mram = true) (w_ohost : W.ohost = true) : KeptO W s0 (State.dawnDo s n r) := by
  unfold State.dawnDo
  try dsimp only
  with_reducible
    repeat' first
      | assumption | refine kept_dawnSource ?_ | refine kept_dawnAlwaysOn ?_ ?_ | refine kept_dawnMem ?_ ?_ | refine kept_takeImage ?_
      | refine kept_dawnTrain ?_ | refine kept_planRun ?_ ?_ | refine kept_enterRom ?_ | refine kept_dawnPower ?_ ?_ ?_
      | refine kept_loadPorts ?_ | refine kept_loadMem ?_ ?_ | refine kept_loadLuts ?_ ?_ ?_ | refine kept_dawnPreset ?_
      | refine kept_loadFirmware ?_ | refine kept_dawnTopology ?_ | refine keptO_some ?_ | exact keptO_none
      | refine kept_foldl (fun _ _ _ => ?_) ?_ | split

theorem kept_dawnStep {s0 : State} {s : State} {r : DawnInput} (h : Kept W s0 s) (w_hbm : W.hbm = true) (w_lut : W.lut = true)
    (w_mram : W.mram = true) (w_ohost : W.ohost = true) : Kept W s0 (State.dawnStep s r) := by
  unfold State.dawnStep
  extract_lets n
  refine kept_ite (fun _ => h) fun _ => kept_ite (fun _ => kept_dawnHalt h) fun _ => ?_
  split
  · exact h
  · have ht := kept_dawnDo h w_hbm w_lut w_mram w_ohost _ ‹_›
    refine kept_ite (fun _ => ht) fun _ => ?_
    extract_lets t1
    have h1 : Kept W s0 t1 := kept_put (kept_modCpr ht)
    exact kept_ite (fun _ => kept_dawnHalt h1) (fun _ => h1)

theorem kept_execDawnStep {s0 : State} {r : Sys2Proof.DawnInput} {s : State} (h1 : Kept W s0 s) (w_hbm : W.hbm = true)
    (w_lut : W.lut = true) (w_mram : W.mram = true) (w_ohost : W.ohost = true) : KeptR W s0 (execDawnStep r s) := by
  unfold execDawnStep
  try dsimp only
  with_reducible
    repeat' first
      | assumption | refine kept_dawnStep ?_ ?_ ?_ ?_ ?_ | refine keptR_next ?_

theorem kept_oflLink {s0 : State} {s : State} {up : Bool} {gen : Nat} {width : Nat} (h0 : Kept W s0 s) (w_ohost : W.ohost = true)
    : Kept W s0 (State.oflLink s up gen width) := by
  unfold State.oflLink
  try dsimp only
  with_reducible
    repeat' first
      | assumption | refine kept_oflLinkReset ?_ ?_ | refine kept_put ?_ | refine kept_ite (fun _ => ?_) (fun _ => ?_)

theorem kept_rootLink {s0 : State} {s : State} {r : Nat} {up : Bool} {gen : Nat} {width : Nat} (h0 : Kept W s0 s)
    : Kept W s0 (State.rootLink s r up gen width) := by
  unfold State.rootLink
  try dsimp only
  with_reducible
    repeat' first
      | assumption | refine kept_put ?_ | refine kept_foldl (fun _ _ _ => ?_) ?_ | split

theorem kept_execPcieLinkStateChange {s0 : State} {ofl : Bool} {r : Nat} {up : Bool} {gen : Nat} {width : Nat} {s : State} (h5 : Kept W s0 s)
    (w_ohost : W.ohost = true) : KeptR W s0 (execPcieLinkStateChange ofl r up gen width s) := by
  unfold execPcieLinkStateChange
  try dsimp only
  with_reducible
    repeat' first
      | assumption | refine kept_oflLink ?_ ?_ | refine kept_rootLink ?_ | refine keptR_next ?_
      | refine keptR_ite (fun _ => ?_) (fun _ => ?_) | refine kept_ite (fun _ => ?_) (fun _ => ?_)

theorem kept_refreshTick {s0 : State} {s : State} (h0 : Kept W s0 s) : Kept W s0 (State.refreshTick s) := by
  unfold State.refreshTick
  try dsimp only
  with_reducible
    repeat' first
      | assumption | refine kept_put ?_ | refine kept_modHbm ?_ | refine kept_ev ?_ | refine kept_foldl (fun _ _ _ => ?_) ?_ | split

theorem kept_devCommit {s0 : State} {s : State} {v : Nat} (h0 : Kept W s0 s) : Kept W s0 (State.devCommit s v) := by
  unfold State.devCommit
  try dsimp only
  with_reducible
    repeat' first
      | assumption | refine kept_writeFields ?_ | refine kept_commit ?_ | refine kept_ite (fun _ => ?_) (fun _ => ?_)

theorem kept_bulkPut {s0 : State} {s : State} {a : Nat} {b : Sys2Proof.Byte} (h0 : Kept W s0 s) (w_hbm : W.hbm = true)
    (w_lut : W.lut = true) (w_mram : W.mram = true) : Kept W s0 (State.bulkPut s a b) := by
  unfold State.bulkPut
  try dsimp only
  with_reducible
    repeat' first
      | assumption | refine kept_put ?_ | refine kept_inc ?_ | refine kept_hbmWrite ?_ ?_ | refine kept_lutPut ?_ ?_
      | refine kept_mramWrite ?_ ?_ | refine kept_foldl (fun _ _ _ => ?_) ?_ | split

theorem kept_bulkStep {s0 : State} {s : State} (h0 : Kept W s0 s) : Kept W s0 (State.bulkStep s) := by
  unfold State.bulkStep
  try dsimp only
  with_reducible
    repeat' first
      | assumption | refine kept_wr64 ?_ | refine kept_put ?_ | refine kept_ite (fun _ => ?_) (fun _ => ?_) | simp only [kept_mk]

theorem kept_bulkWriteBytes {s0 : State} {s : State} {x1 : List (Bool × Sys2Proof.Byte)} (h0 : Kept W s0 s) (w_hbm : W.hbm = true)
    (w_lut : W.lut = true) (w_mram : W.mram = true) : Kept W s0 (State.bulkWriteBytes s x1) := by
  induction x1 generalizing s with
  | nil =>
    unfold State.bulkWriteBytes
    try dsimp only
    repeat' first
      | with_reducible assumption
  | cons a l ih =>
    unfold State.bulkWriteBytes
    try dsimp only
    repeat' first
      | with_reducible assumption | with_reducible apply ih | with_reducible refine kept_bulkPut ?_ ?_ ?_ ?_
      | with_reducible refine kept_bulkStep ?_ | with_reducible refine kept_put ?_
      | with_reducible refine kept_ite (fun _ => ?_) (fun _ => ?_)

theorem kept_execBulkWrite {s0 : State} {data : List (Bool × Sys2Proof.Byte)} {s : State} (h1 : Kept W s0 s) (w_hbm : W.hbm = true)
    (w_lut : W.lut = true) (w_mram : W.mram = true) : KeptR W s0 (execBulkWrite data s) := by
  unfold execBulkWrite
  try dsimp only
  with_reducible
    repeat' first
      | assumption | refine kept_bulkWriteBytes ?_ ?_ ?_ ?_ | refine keptR_next ?_ | refine keptR_ite (fun _ => ?_) (fun _ => ?_)
      | refine kept_ite (fun _ => ?_) (fun _ => ?_)

theorem kept_hltFields {s0 : State} {s : State} {v : Nat} (h0 : Kept W s0 s) : Kept W s0 (State.hltFields s v) := by
  unfold State.hltFields
  try dsimp only
  with_reducible
    repeat' first
      | assumption | refine kept_writeFields ?_

theorem kept_testPair {s0 : State} {s : State} {v : Nat} {pass : Bool} (h0 : Kept W s0 s) : Kept W s0 (State.testPair s v pass) := by
  unfold State.testPair
  try dsimp only
  with_reducible
    repeat' first
      | assumption | refine kept_hltFields ?_ | refine kept_put ?_ | refine kept_modHlt ?_ | refine kept_ite (fun _ => ?_) (fun _ => ?_)

theorem kept_promoDone {s0 : State} {s : State} {arb : Nat} {id : Nat} (h0 : Kept W s0 s) : Kept W s0 (State.promoDone s arb id) := by
  unfold State.promoDone
  try dsimp only
  with_reducible
    repeat' first
      | assumption | simp only [kept_mk]

theorem kept_access {s0 : State} {s : State} {pa : Nat} {wr : Bool} (h0 : Kept W s0 s) : Kept W s0 (State.access s pa wr) := by
  unfold State.access
  try dsimp only
  with_reducible
    repeat' first
      | assumption | refine kept_inc ?_ | refine kept_modHbm ?_ | refine kept_ite (fun _ => ?_) (fun _ => ?_)

theorem kept_freeRange {s0 : State} {s : State} {a : Nat} {n : Nat} (h0 : Kept W s0 s) (w_hbm : W.hbm = true)
    : Kept W s0 (State.freeRange s a n) := by
  unfold State.freeRange
  try dsimp only
  with_reducible
    repeat' first
      | assumption | refine kept_hbmUndef ?_ ?_

theorem kept_freeze {s0 : State} {s : State} {n : Nat} {cause : Nat} {cmd : Nat} {pa : Nat} (h0 : Kept W s0 s)
    : Kept W s0 (State.freeze s n cause cmd pa) := by
  unfold State.freeze
  try dsimp only
  with_reducible
    repeat' first
      | assumption | refine kept_fresh ?_ | refine kept_put ?_ | refine kept_wr64 ?_ | refine kept_wr ?_ | refine kept_modHbm ?_
      | refine kept_groupsShow ?_ | refine kept_ev ?_

theorem kept_eccOutcome {s0 : State} {s : State} {pa : Nat} {cmd : Nat} {plan : Option Nat} {err : Sys2Proof.EccErr} (h0 : Kept W s0 s)
    (w_hbm : W.hbm = true) : Kept W s0 (State.eccOutcome s pa cmd plan err) := by
  unfold State.eccOutcome
  try dsimp only
  with_reducible
    repeat' first
      | assumption | refine kept_access ?_ | refine kept_gustFeed ?_ | refine kept_evLimited ?_ | refine kept_inc ?_
      | refine kept_freeRange ?_ ?_ | refine kept_freeze ?_ | refine kept_foldl (fun _ _ _ => ?_) ?_ | split

theorem kept_protRead {s0 : State} {s : State} {pbase : Nat} {k : Nat} {pos : Nat} (h0 : Kept W s0 s)
    : Kept W s0 (State.protRead s pbase k pos) := by
  unfold State.protRead
  try dsimp only
  with_reducible
    repeat' first
      | assumption | refine kept_access ?_ | refine kept_foldl (fun _ _ _ => ?_) ?_ | split

theorem kept_spanAccess {s0 : State} {s : State} {a : Nat} {n : Nat} {wr : Bool} (h0 : Kept W s0 s) : Kept W s0 (State.spanAccess s a n wr)
    := by
  unfold State.spanAccess
  try dsimp only
  with_reducible
    repeat' first
      | assumption | refine kept_access ?_ | refine kept_protRead ?_ | refine kept_foldl (fun _ _ _ => ?_) ?_ | split

theorem kept_hbmReq {s0 : State} {s : State} {q : Sys2Proof.HbmReq} (h0 : Kept W s0 s) (w_hbm : W.hbm = true)
    : Kept W s0 (State.hbmReq s q) := by
  unfold State.hbmReq
  try dsimp only
  with_reducible
    repeat' first
      | assumption | refine kept_eccOutcome ?_ ?_ | refine kept_spanAccess ?_ | refine kept_emit ?_ | refine kept_hbmWrite ?_ ?_
      | refine kept_foldl (fun _ _ _ => ?_) ?_ | split

theorem kept_hbmServe {s0 : State} {s : State} {l : List Sys2Proof.HbmReq} (h0 : Kept W s0 s) (w_hbm : W.hbm = true)
    : Kept W s0 (State.hbmServe s l) := by
  unfold State.hbmServe
  try dsimp only
  with_reducible
    repeat' first
      | assumption | refine kept_promoDone ?_ | refine kept_hbmReq ?_ ?_ | refine kept_foldl (fun _ _ _ => ?_) ?_

theorem kept_execHbmRequest {s0 : State} {rqs : List Sys2Proof.HbmReq} {s : State} (h1 : Kept W s0 s) (w_hbm : W.hbm = true)
    : KeptR W s0 (execHbmRequest rqs s) := by
  unfold execHbmRequest
  try dsimp only
  with_reducible
    repeat' first
      | assumption | refine kept_hbmServe ?_ ?_ | refine keptR_next ?_

theorem kept_ltcOut {s0 : State} {s : State} (h0 : Kept W s0 s) : Kept W s0 (State.ltcOut s) := by
  unfold State.ltcOut
  try dsimp only
  with_reducible
    repeat' first
      | assumption | refine kept_reach ?_ | refine kept_wr ?_ | refine kept_modTime ?_ | refine kept_emit ?_
      | refine kept_ite (fun _ => ?_) (fun _ => ?_)

theorem kept_tempReport {s0 : State} {s : State} {k : Nat} {temp : ℤ} (h0 : Kept W s0 s) : Kept W s0 (State.tempReport s k temp) := by
  unfold State.tempReport
  try dsimp only
  with_reducible
    repeat' first
      | assumption | refine kept_put ?_ | refine kept_modHbm ?_ | refine kept_ev ?_ | refine kept_ite (fun _ => ?_) (fun _ => ?_)

theorem kept_execHbmTempReport {s0 : State} {stack : Nat} {temp : ℤ} {s : State} (h2 : Kept W s0 s)
    : KeptR W s0 (execHbmTempReport stack temp s) := by
  unfold execHbmTempReport
  try dsimp only
  with_reducible
    repeat' first
      | assumption | refine kept_tempReport ?_ | refine keptR_next ?_

theorem kept_skyKey {s0 : State} {s : State} {id : Nat} (h0 : Kept W s0 s) : Kept W s0 (State.skyKey s id) := by
  unfold State.skyKey
  try dsimp only
  with_reducible
    repeat' first
      | assumption | refine kept_setResult ?_ | refine kept_modSky ?_ | refine kept_foldl (fun _ _ _ => ?_) ?_ | split

theorem kept_cmdqPass {s0 : State} {s : State} {r : Nat} {len : Nat} (h0 : Kept W s0 s) : Kept W s0 (State.cmdqPass s r len) := by
  unfold State.cmdqPass
  try dsimp only
  with_reducible
    repeat' first
      | assumption | refine kept_promoDone ?_ | refine kept_modRing ?_

theorem kept_cmdqRecord {s0 : State} {s : State} {p : Sys2Proof.Machine.Packet} {st : Nat} {data : Nat} (h0 : Kept W s0 s)
    : Kept W s0 (State.cmdqRecord s p st data) := by
  unfold State.cmdqRecord
  try dsimp only
  with_reducible
    repeat' first
      | assumption | refine kept_evDone ?_ | refine kept_ite (fun _ => ?_) (fun _ => ?_)

theorem kept_flushPacket {s0 : State} {s : State} {r : Nat} {len : Nat} (h0 : Kept W s0 s) (w_host : W.host = true)
    : Kept W s0 (State.flushPacket s r len) := by
  unfold State.flushPacket
  try dsimp only
  with_reducible
    repeat' first
      | assumption | refine kept_cmdqPass ?_ | refine kept_cmdqZero ?_ ?_ | refine kept_cmdqRecord ?_
      | refine kept_ite (fun _ => ?_) (fun _ => ?_)

theorem kept_flushZero {s0 : State} {s : State} {r : Nat} {n : Nat} (h0 : Kept W s0 s) (w_host : W.host = true)
    : Kept W s0 (State.flushZero s r n) := by
  unfold State.flushZero
  try dsimp only
  with_reducible
    repeat' first
      | assumption | refine kept_hostWrite ?_ ?_ | refine kept_foldl (fun _ _ _ => ?_) ?_

theorem kept_flushRest {s0 : State} {s : State} {r : Nat} (h0 : Kept W s0 s) (w_host : W.host = true) : Kept W s0 (State.flushRest s r) := by
  unfold State.flushRest
  try dsimp only
  with_reducible
    repeat' first
      | assumption | refine kept_wr ?_ | refine kept_modRing ?_ | refine kept_flushZero ?_ ?_

theorem kept_flushAt {s0 : State} {s : State} {r : Nat} {x2 : Sys2Proof.Machine.Slot} (h0 : Kept W s0 s) (w_host : W.host = true)
    : Kept W s0 (State.flushAt s r x2) := by
  unfold State.flushAt
  try dsimp only
  with_reducible
    repeat' first
      | assumption | refine kept_flushPacket ?_ ?_ | refine kept_flushRest ?_ ?_ | refine kept_foldl (fun _ _ _ => ?_) ?_ | split

theorem kept_flushStep {s0 : State} {s : State} {r : Nat} (h0 : Kept W s0 s) (w_host : W.host = true) : Kept W s0 (State.flushStep s r) := by
  unfold State.flushStep
  try dsimp only
  with_reducible
    repeat' first
      | assumption | refine kept_flushAt ?_ ?_

theorem kept_flushFrom {s0 : State} {s : State} {r : Nat} {n : Nat} (h0 : Kept W s0 s) (w_host : W.host = true)
    : Kept W s0 (State.flushFrom s r n) := by
  unfold State.flushFrom
  try dsimp only
  with_reducible
    repeat' first
      | assumption | refine kept_flushStep ?_ ?_ | refine kept_foldl (fun _ _ _ => ?_) ?_

theorem kept_cmdqWaiting {s0 : State} {s : State} {r : Nat} (h0 : Kept W s0 s) : Kept W s0 (State.cmdqWaiting s r) := by
  unfold State.cmdqWaiting
  try dsimp only
  with_reducible
    repeat' first
      | assumption | refine kept_put ?_

theorem kept_cmdqHalt {s0 : State} {s : State} {r : Nat} {w : Nat} (h0 : Kept W s0 s) : Kept W s0 (State.cmdqHalt s r w) := by
  unfold State.cmdqHalt
  try dsimp only
  with_reducible
    repeat' first
      | assumption | refine kept_put ?_ | refine kept_ev ?_

theorem kept_cmdqLook {s0 : State} {s : State} {r : Nat} (h0 : Kept W s0 s) : Kept W s0 (State.cmdqLook s r) := by
  unfold State.cmdqLook
  try dsimp only
  with_reducible
    repeat' first
      | assumption | refine kept_cmdqWaiting ?_ | refine kept_cmdqHalt ?_ | refine kept_foldl (fun _ _ _ => ?_) ?_ | split

theorem kept_execCmdqFlush {s0 : State} {r : Nat} {s : State} (h1 : Kept W s0 s) (w_host : W.host = true) : KeptR W s0 (execCmdqFlush r s)
    := by
  unfold execCmdqFlush
  try dsimp only
  with_reducible
    repeat' first
      | assumption | refine kept_flushFrom ?_ ?_ | refine kept_put ?_ | refine kept_cmdqLook ?_ | refine kept_cmdqSync ?_
      | refine keptR_next ?_ | refine keptR_ite (fun _ => ?_) (fun _ => ?_)

theorem kept_bbPut {s0 : State} {s : State} {r : Sys2Proof.Machine.Rec} (h0 : Kept W s0 s) (w_mram : W.mram = true)
    : Kept W s0 (State.bbPut s r) := by
  unfold State.bbPut
  try dsimp only
  with_reducible
    repeat' first
      | assumption | refine kept_mramWrite ?_ ?_ | refine kept_bbHeader ?_ ?_ | refine kept_put ?_

theorem kept_execDrvRevokeKey {s0 : State} {v : Nat} {s : State} (h1 : Kept W s0 s) : KeptR W s0 (execDrvRevokeKey v s) := by
  unfold execDrvRevokeKey
  try dsimp only
  with_reducible
    repeat' first
      | assumption | refine kept_drvRow (fun _ _ => ?_) ?_ | refine kept_drvStart ?_ (fun _ _ => ?_)
      | refine kept_ite (fun _ => ?_) (fun _ => ?_) | refine keptR_ite (fun _ => ?_) (fun _ => ?_)
      | refine kept_fst_ite (fun _ => ?_) (fun _ => ?_) | refine kept_id ?_

theorem kept_evqSync {s0 : State} {s : State} {q : Nat} (h0 : Kept W s0 s) : Kept W s0 (State.evqSync s q) := by
  unfold State.evqSync
  try dsimp only
  with_reducible
    repeat' first
      | assumption | refine kept_put ?_ | refine kept_watermark ?_

theorem kept_modDest {s0 : State} {s : State} {d : Nat} {f : Sys2Proof.Machine.Dest → Sys2Proof.Machine.Dest} (h0 : Kept W s0 s)
    : Kept W s0 (State.modDest s d f) := by
  unfold State.modDest
  try dsimp only
  with_reducible
    repeat' first
      | assumption | simp only [kept_mk]

theorem kept_evqZero {s0 : State} {s : State} {q : Nat} (h0 : Kept W s0 s) : Kept W s0 (State.evqZero s q) := by
  unfold State.evqZero
  try dsimp only
  with_reducible
    repeat' first
      | assumption | refine kept_evqSync ?_ | refine kept_modDest ?_ | refine kept_wr ?_

theorem kept_evqReset {s0 : State} {s : State} {q : Nat} (h0 : Kept W s0 s) : Kept W s0 (State.evqReset s q) := by
  unfold State.evqReset
  try dsimp only
  with_reducible
    repeat' first
      | assumption | refine kept_evqZero ?_ | refine kept_ite (fun _ => ?_) (fun _ => ?_)

theorem kept_audRow {s0 : State} {f : State → Sys2Proof.Machine.State} {s : State}
    (h0 : ∀ a0, Kept W s0 a0 → Kept W s0 (f a0)) (h1 : Kept W s0 s) : KeptR W s0 (audRow f s) := by
  unfold audRow
  try dsimp only
  with_reducible
    repeat' first
      | assumption | apply h0 | refine keptR_next ?_ | refine keptR_ite (fun _ => ?_) (fun _ => ?_)
      | refine kept_ite (fun _ => ?_) (fun _ => ?_)

theorem kept_audLock {s0 : State} {s : State} {n : Nat} {locked : Bool} (h0 : Kept W s0 s) : Kept W s0 (State.audLock s n locked) := by
  unfold State.audLock
  try dsimp only
  with_reducible
    repeat' first
      | assumption | refine kept_ev ?_ | refine kept_put ?_ | refine kept_modPort ?_ | refine kept_rampOut ?_
      | refine kept_ite (fun _ => ?_) (fun _ => ?_)

theorem kept_execEvAudLock {s0 : State} {n : Nat} {locked : Bool} {s : State} (h2 : Kept W s0 s) : KeptR W s0 (execEvAudLock n locked s) := by
  unfold execEvAudLock
  try dsimp only
  with_reducible
    repeat' first
      | assumption | refine kept_audRow (fun _ _ => ?_) ?_ | refine kept_audLock ?_

theorem kept_execPpr {s0 : State} {ch : Nat} {v : Nat} {ok : Bool} {s : State} (h3 : Kept W s0 s) : KeptR W s0 (execPpr ch v ok s) := by
  unfold execPpr
  try dsimp only
  with_reducible
    repeat' first
      | assumption | refine kept_onUnit ?_ (fun _ _ => ?_) | refine kept_pprGo ?_ | refine keptR_next ?_

theorem kept_standbyRefused {s0 : State} {s : State} (h0 : Kept W s0 s) : Kept W s0 (State.standbyRefused s) := by
  unfold State.standbyRefused
  try dsimp only
  with_reducible
    repeat' first
      | assumption | refine kept_put ?_

theorem kept_standbyEnter {s0 : State} {s : State} (h0 : Kept W s0 s) (w_ohost : W.ohost = true) : Kept W s0 (State.standbyEnter s) := by
  unfold State.standbyEnter
  try dsimp only
  with_reducible
    repeat' first
      | assumption | refine kept_standbyRefused ?_ | refine kept_put ?_ | refine kept_volumeClose ?_ ?_
      | refine kept_ite (fun _ => ?_) (fun _ => ?_)

theorem kept_capTrig {s0 : State} {s : State} {p : Nat} {v : Nat} (h0 : Kept W s0 s) : Kept W s0 (State.capTrig s p v) := by
  unfold State.capTrig
  try dsimp only
  with_reducible
    repeat' first
      | assumption | refine kept_writeFields ?_ | refine kept_trigger ?_ | refine kept_ite (fun _ => ?_) (fun _ => ?_)

theorem kept_execCapSoftwareTrigger {s0 : State} {p : Nat} {v : Nat} {s : State} (h2 : Kept W s0 s)
    : KeptR W s0 (execCapSoftwareTrigger p v s) := by
  unfold execCapSoftwareTrigger
  try dsimp only
  with_reducible
    repeat' first
      | assumption | refine kept_onUnit ?_ (fun _ _ => ?_) | refine kept_capTrig ?_ | refine keptR_next ?_
      | refine keptR_ite (fun _ => ?_) (fun _ => ?_)

theorem kept_timeCap {s0 : State} {s : State} (h0 : Kept W s0 s) : Kept W s0 (State.timeCap s) := by
  unfold State.timeCap
  try dsimp only
  with_reducible
    repeat' first
      | assumption | refine kept_wr64 ?_ | refine kept_foldl (fun _ _ _ => ?_) ?_

theorem kept_rctEnter {s0 : State} {s : State} {c : Sys2Proof.Machine.RctSet} {f : Sys2Proof.Machine.Frame}
    {r : Sys2Proof.Machine.StreamRec} {base : Nat} (h0 : Kept W s0 s) (w_hbm : W.hbm = true) : Kept W s0 (State.rctEnter s c f r base) := by
  unfold State.rctEnter
  try dsimp only
  with_reducible
    repeat' first
      | assumption | refine kept_hbmWrite ?_ ?_ | refine kept_modPipe ?_ | refine kept_enterUnit ?_ | refine kept_modFrame ?_
      | refine kept_ite (fun _ => ?_) (fun _ => ?_)

theorem kept_rowDone {s0 : State} {s : State} {n : Nat} {row : Nat} {degraded : Bool} (h0 : Kept W s0 s)
    : Kept W s0 (State.rowDone s n row degraded) := by
  unfold State.rowDone
  try dsimp only
  with_reducible
    repeat' first
      | assumption | refine kept_modTake ?_ | refine kept_bufFree ?_ | refine kept_modEntry ?_ | refine kept_foldl (fun _ _ _ => ?_) ?_
      | split

theorem kept_stageLost {s0 : State} {s : State} {commit : Bool} (h0 : Kept W s0 s) : Kept W s0 (State.stageLost s commit) := by
  unfold State.stageLost
  try dsimp only
  with_reducible
    repeat' first
      | assumption | refine kept_modRec ?_

theorem kept_rowStage {s0 : State} {s : State} {r : Sys2Proof.Machine.MediaRow} (h0 : Kept W s0 s) : Kept W s0 (State.rowStage s r) := by
  unfold State.rowStage
  try dsimp only
  with_reducible
    repeat' first
      | assumption | refine kept_modRec ?_ | refine kept_issue ?_ | refine kept_foldl (fun _ _ _ => ?_) ?_ | split

theorem kept_rowComplete {s0 : State} {s : State} {row : Nat} {failed : List (Nat × Nat)} (h0 : Kept W s0 s) (w_media : W.media = true)
    (w_ohost : W.ohost = true) : Kept W s0 (State.rowComplete s row failed) := by
  unfold State.rowComplete
  try dsimp only
  with_reducible
    repeat' first
      | assumption | refine kept_modRec ?_ | refine kept_rowStore ?_ ?_ | refine kept_loseRow ?_ | refine kept_rowDone ?_
      | refine kept_stageLost ?_ | refine kept_rowStage ?_ | refine kept_duskAdvance ?_ | refine kept_failMembers ?_ ?_
      | refine kept_foldl (fun _ _ _ => ?_) ?_ | split

theorem kept_limitedDue {s0 : State} {s : State} {typ : Nat} {inst : Nat} (h0 : Kept W s0 s) : Kept W s0 (State.limitedDue s typ inst) := by
  unfold State.limitedDue
  try dsimp only
  with_reducible
    repeat' first
      | assumption | refine kept_reachClk ?_ | refine kept_raise ?_ | refine kept_ite (fun _ => ?_) (fun _ => ?_) | simp only [kept_mk]
      | refine kept_foldl (fun _ _ _ => ?_) ?_ | split

theorem kept_resetBy {s0 : State} {s : State} {cause : Nat} (h0 : Kept W s0 s) (w_hbm : W.hbm = true) (w_lut : W.lut = true)
    : Kept W s0 (State.resetBy s cause) := by
  unfold State.resetBy
  try dsimp only
  with_reducible
    repeat' first
      | assumption | refine kept_coldReset ?_ ?_ ?_ | refine kept_put ?_

theorem kept_landedShow {s0 : State} {s : State} (h0 : Kept W s0 s) (w_hbm : W.hbm = true) (w_lut : W.lut = true)
    : Kept W s0 (State.landedShow s) := by
  unfold State.landedShow
  try dsimp only
  with_reducible
    repeat' first
      | assumption | refine kept_put ?_ | refine kept_resetBy ?_ ?_ ?_ | refine kept_ite (fun _ => ?_) (fun _ => ?_)

theorem kept_landingDone {s0 : State} {s : State} (h0 : Kept W s0 s) (w_ohost : W.ohost = true) : Kept W s0 (State.landingDone s) := by
  unfold State.landingDone
  try dsimp only
  with_reducible
    repeat' first
      | assumption | refine kept_modRec ?_ | refine kept_recShow ?_ ?_ | refine kept_put ?_ | refine kept_waitersEnd ?_
      | refine kept_ite (fun _ => ?_) (fun _ => ?_)

theorem kept_execDuskLandingDone {s0 : State} {s : State} (h0 : Kept W s0 s) (w_hbm : W.hbm = true) (w_lut : W.lut = true)
    (w_ohost : W.ohost = true) : KeptR W s0 (execDuskLandingDone s) := by
  unfold execDuskLandingDone
  try dsimp only
  with_reducible
    repeat' first
      | assumption | refine kept_landedShow ?_ ?_ ?_ | refine kept_landingDone ?_ ?_ | refine keptR_next ?_
      | refine keptR_ite (fun _ => ?_) (fun _ => ?_) | refine kept_ite (fun _ => ?_) (fun _ => ?_)

theorem kept_fifoPush {s0 : State} {s : State} {f : Sys2Proof.FifoPort} {i : Nat} {v : Nat} (h0 : Kept W s0 s)
    : Kept W s0 (State.fifoPush s f i v) := by
  unfold State.fifoPush
  try dsimp only
  with_reducible
    repeat' first
      | assumption | refine kept_put ?_ | refine kept_i2cLevels ?_ | refine kept_modI2c ?_ | refine kept_spiLevels ?_
      | refine kept_modSpi ?_ | refine kept_uartLevels ?_ | refine kept_modUart ?_ | refine kept_foldl (fun _ _ _ => ?_) ?_ | split

theorem kept_execFifoPush {s0 : State} {f : Sys2Proof.FifoPort} {i : Nat} {v : Nat} {s : State} (h3 : Kept W s0 s)
    : KeptR W s0 (execFifoPush f i v s) := by
  unfold execFifoPush
  try dsimp only
  with_reducible
    repeat' first
      | assumption | refine kept_lspRow (fun _ _ => ?_) ?_ | refine kept_fifoPush ?_

theorem kept_onDone {s0 : State} {s : State} {m : Sys2Proof.Machine.SkyIn} (h0 : Kept W s0 s) : Kept W s0 (State.onDone s m) := by
  unfold State.onDone
  try dsimp only
  with_reducible
    repeat' first
      | assumption | refine kept_skyNext ?_ | refine kept_skyDone ?_ | refine kept_ite (fun _ => ?_) (fun _ => ?_)

theorem kept_execSkyDone {s0 : State} {m : Sys2Proof.SkyMsg} {s : State} (h1 : Kept W s0 s) : KeptR W s0 (execSkyDone m s) := by
  unfold execSkyDone
  try dsimp only
  with_reducible
    repeat' first
      | assumption | refine kept_skyReceive ?_ (fun _ _ _ => ?_) | refine kept_onDone ?_ | refine keptR_next ?_

theorem kept_evqHead {s0 : State} {s : State} {q : Nat} {v : Nat} (h0 : Kept W s0 s) : Kept W s0 (State.evqHead s q v) := by
  unfold State.evqHead
  try dsimp only
  with_reducible
    repeat' first
      | assumption | refine kept_evqSync ?_ | refine kept_wr ?_ | refine kept_ite (fun _ => ?_) (fun _ => ?_)

theorem kept_pdWrite {s0 : State} {s : State} {v : Nat} (h0 : Kept W s0 s) : Kept W s0 (State.pdWrite s v) := by
  unfold State.pdWrite
  try dsimp only
  with_reducible
    repeat' first
      | assumption | refine kept_writeFields ?_ | refine kept_put ?_ | refine kept_modCpr ?_ | refine kept_ite (fun _ => ?_) (fun _ => ?_)

theorem kept_execDomainSwitch {s0 : State} {v : Nat} {s : State} (h1 : Kept W s0 s) : KeptR W s0 (execDomainSwitch v s) := by
  unfold execDomainSwitch
  try dsimp only
  with_reducible
    repeat' first
      | assumption | refine kept_onUnit ?_ (fun _ _ => ?_) | refine kept_pdWrite ?_ | refine keptR_next ?_

theorem kept_oflMsixRelease {s0 : State} {s : State} (h0 : Kept W s0 s) : Kept W s0 (State.oflMsixRelease s) := by
  unfold State.oflMsixRelease
  try dsimp only
  with_reducible
    repeat' first
      | assumption | refine kept_oflSignal ?_ | refine kept_modOfl ?_ (fun _ => ?_) | refine kept_ite (fun _ => ?_) (fun _ => ?_)
      | refine keptR_ite (fun _ => ?_) (fun _ => ?_) | refine kept_fst_ite (fun _ => ?_) (fun _ => ?_) | refine kept_id ?_
      | simp only [kept_mk] | refine kept_foldl (fun _ _ _ => ?_) ?_ | refine kept_fst_foldl (fun _ _ _ => ?_) ?_ | refine keptR_next ?_
      | exact keptR_fault | exact keptR_refused | refine keptO_some ?_ | exact keptO_none | exact fun h => h

theorem kept_oflTableWrite {s0 : State} {s : State} {off : Nat} {size : Nat} {be : Nat} {v : Nat} (h0 : Kept W s0 s)
    : Kept W s0 (State.oflTableWrite s off size be v) := by
  unfold State.oflTableWrite
  try dsimp only
  with_reducible
    repeat' first
      | assumption | refine kept_oflMsixRelease ?_ | refine kept_modOfl ?_ (fun _ => ?_) | refine kept_ite (fun _ => ?_) (fun _ => ?_)
      | refine keptR_ite (fun _ => ?_) (fun _ => ?_) | refine kept_fst_ite (fun _ => ?_) (fun _ => ?_) | refine kept_id ?_
      | simp only [kept_mk] | refine kept_foldl (fun _ _ _ => ?_) ?_ | refine kept_fst_foldl (fun _ _ _ => ?_) ?_ | refine keptR_next ?_
      | exact keptR_fault | exact keptR_refused | refine keptO_some ?_ | exact keptO_none | exact fun h => h

theorem kept_embedAudio {s0 : State} {s : State} {rate : Nat} {o : Nat} {g : Nat} (h0 : Kept W s0 s) : Kept W s0 (State.embedAudio s rate o g)
    := by
  unfold State.embedAudio
  try dsimp only
  with_reducible
    repeat' first
      | assumption | refine kept_modAud ?_ | refine kept_emit ?_

theorem kept_sdiOut {s0 : State} {s : State} {r : Sys2Proof.Machine.Raster} {v : Nat → Nat → Sys2Proof.Machine.Rgb} (h0 : Kept W s0 s)
    : Kept W s0 (State.sdiOut s r v) := by
  unfold State.sdiOut
  try dsimp only
  with_reducible
    repeat' first
      | assumption | refine kept_emit ?_ | refine kept_embedAudio ?_ | refine kept_foldl (fun _ _ _ => ?_) ?_ | split

theorem kept_modDsi {s0 : State} {s : State} {d : Nat} {f : Sys2Proof.Machine.DsiSt → Sys2Proof.Machine.DsiSt} (h0 : Kept W s0 s)
    : Kept W s0 (State.modDsi s d f) := by
  unfold State.modDsi
  try dsimp only
  with_reducible
    repeat' first
      | assumption | simp only [kept_mk]

theorem kept_dsiBusy {s0 : State} {s : State} {d : Nat} (h0 : Kept W s0 s) : Kept W s0 (State.dsiBusy s d) := by
  unfold State.dsiBusy
  try dsimp only
  with_reducible
    repeat' first
      | assumption | refine kept_put ?_

theorem kept_dsiStart {s0 : State} {s : State} {d : Nat} (h0 : Kept W s0 s) : Kept W s0 (State.dsiStart s d) := by
  unfold State.dsiStart
  try dsimp only
  with_reducible
    repeat' first
      | assumption | refine kept_modDsi ?_ | refine kept_emit ?_ | refine kept_dsiBusy ?_ | refine kept_foldl (fun _ _ _ => ?_) ?_ | split

theorem kept_dsiFrameEnd {s0 : State} {s : State} {d : Nat} {v : Nat → Nat → Sys2Proof.Machine.Rgb} (h0 : Kept W s0 s) (w_hbm : W.hbm = true)
    : Kept W s0 (State.dsiFrameEnd s d v) := by
  unfold State.dsiFrameEnd
  try dsimp only
  with_reducible
    repeat' first
      | assumption | refine kept_modDsi ?_ | refine kept_put ?_ | refine kept_inc ?_ | refine kept_hbmWrite ?_ ?_
      | refine kept_dsiStart ?_ | refine kept_ite (fun _ => ?_) (fun _ => ?_)

theorem kept_dispEpochs {s0 : State} {s : State} (h0 : Kept W s0 s) : Kept W s0 (State.dispEpochs s) := by
  unfold State.dispEpochs
  try dsimp only
  with_reducible
    repeat' first
      | assumption | refine kept_inc ?_ | refine kept_put ?_ | refine kept_raise ?_ | refine kept_ite (fun _ => ?_) (fun _ => ?_)
      | simp only [kept_mk] | refine kept_foldl (fun _ _ _ => ?_) ?_ | split

theorem kept_linkShow {s0 : State} {s : State} (h0 : Kept W s0 s) : Kept W s0 (State.linkShow s) := by
  unfold State.linkShow
  try dsimp only
  with_reducible
    repeat' first
      | assumption | refine kept_put ?_ | refine kept_foldl (fun _ _ _ => ?_) ?_

theorem kept_decRelease {s0 : State} {s : State} (h0 : Kept W s0 s) : Kept W s0 (State.decRelease s) := by
  unfold State.decRelease
  try dsimp only
  with_reducible
    repeat' first
      | assumption | refine kept_ite (fun _ => ?_) (fun _ => ?_) | simp only [kept_mk]

theorem kept_modLayer {s0 : State} {s : State} {n : Nat} {f : Sys2Proof.Machine.LayerSt → Sys2Proof.Machine.LayerSt} (h0 : Kept W s0 s)
    : Kept W s0 (State.modLayer s n f) := by
  unfold State.modLayer
  try dsimp only
  with_reducible
    repeat' first
      | assumption | simp only [kept_mk]

theorem kept_latchPub {s0 : State} {s : State} {n : Nat} {pub : List Sys2Proof.Machine.PubFrame}
    {mark : State → Sys2Proof.Machine.PubFrame → Sys2Proof.Machine.State} (h0 : Kept W s0 s)
    (h3 : ∀ a0 a1, Kept W s0 a0 → Kept W s0 (mark a0 a1)) : Kept W s0 (State.latchPub s n pub mark) := by
  unfold State.latchPub
  try dsimp only
  with_reducible
    repeat' first
      | assumption | apply h3 | refine kept_wr64 ?_ | refine kept_modLayer ?_ | refine kept_foldl (fun _ _ _ => ?_) ?_ | split

theorem kept_latchDec {s0 : State} {s : State} {n : Nat} {r : Sys2Proof.Machine.Raster} (h0 : Kept W s0 s)
    : Kept W s0 (State.latchDec s n r) := by
  unfold State.latchDec
  try dsimp only
  with_reducible
    repeat' first
      | assumption | refine kept_inc ?_ | refine kept_wr64 ?_ | refine kept_modLayer ?_ | refine kept_ite (fun _ => ?_) (fun _ => ?_)
      | simp only [kept_mk] | refine kept_foldl (fun _ _ _ => ?_) ?_ | split

theorem kept_latchLayer {s0 : State} {s : State} {n : Nat} {r : Sys2Proof.Machine.Raster} (h0 : Kept W s0 s)
    : Kept W s0 (State.latchLayer s n r) := by
  unfold State.latchLayer
  try dsimp only
  with_reducible
    repeat' first
      | assumption | refine kept_modLayer ?_ | refine kept_latchPub ?_ (fun _ _ _ => ?_) | refine kept_modOutf ?_
      | refine kept_latchDec ?_ | refine kept_put ?_ | refine kept_ite (fun _ => ?_) (fun _ => ?_) | simp only [kept_mk]
      | refine kept_foldl (fun _ _ _ => ?_) ?_ | split

theorem kept_dispStop {s0 : State} {s : State} (h0 : Kept W s0 s) : Kept W s0 (State.dispStop s) := by
  unfold State.dispStop
  try dsimp only
  with_reducible
    repeat' first
      | assumption | refine kept_put ?_ | refine kept_ite (fun _ => ?_) (fun _ => ?_) | simp only [kept_mk]
      | refine kept_foldl (fun _ _ _ => ?_) ?_

theorem kept_vblank {s0 : State} {s : State} (h0 : Kept W s0 s) (w_hbm : W.hbm = true) : Kept W s0 (State.vblank s) := by
  unfold State.vblank
  try dsimp only
  with_reducible
    repeat' first
      | assumption | refine kept_sdiOut ?_ | refine kept_dsiFrameEnd ?_ ?_ | refine kept_dispEpochs ?_ | refine kept_linkShow ?_
      | refine kept_decRelease ?_ | refine kept_latchLayer ?_ | refine kept_dispStop ?_ | refine kept_ite (fun _ => ?_) (fun _ => ?_)
      | simp only [kept_mk] | refine kept_foldl (fun _ _ _ => ?_) ?_ | split

theorem kept_execOffloadMemberIoDone {s0 : State} {io : Nat} {s : State} (h1 : Kept W s0 s) (w_ohost : W.ohost = true)
    : KeptR W s0 (execOffloadMemberIoDone io s) := by
  unfold execOffloadMemberIoDone
  try dsimp only
  with_reducible
    repeat' first
      | assumption | refine kept_memberIoDone ?_ ?_ | refine keptR_next ?_

theorem kept_oflAnswer {s0 : State} {s : State} {id dw0 : Nat} {b : Bytes} (h : Kept W s0 s) (w_ohost : W.ohost = true)
    : Kept W s0 (State.oflAnswer s id dw0 b) := by
  unfold State.oflAnswer
  split
  · exact h
  · split
    · exact kept_oflComplete (kept_oflToHost h w_ohost _ ‹_›) w_ohost
    · exact kept_oflComplete h w_ohost

theorem kept_identify {s0 : State} {s : State} {c : Sys2Proof.NvmeCmd} {id : Nat} (h0 : Kept W s0 s) (w_ohost : W.ohost = true)
    : Kept W s0 (State.identify s c id) := by
  unfold State.identify
  try dsimp only
  with_reducible
    repeat' first
      | assumption | refine kept_oflAnswer ?_ ?_ | refine kept_oflComplete ?_ ?_ | refine kept_foldl (fun _ _ _ => ?_) ?_ | split

theorem kept_snap {s0 : State} {s : State} (h0 : Kept W s0 s) : Kept W s0 (State.snap s) := by
  unfold State.snap
  try dsimp only
  with_reducible
    repeat' first
      | assumption | refine kept_wr ?_ | refine kept_wr64 ?_ | refine kept_put ?_ | refine kept_ite (fun _ => ?_) (fun _ => ?_)
      | simp only [kept_mk]

theorem kept_devWrite {s0 : State} {s : State} {off : Nat} {row : Sys2Proof.Machine.RegRow} {ix : List Nat} {v : Nat} (h0 : Kept W s0 s)
    : Kept W s0 (State.devWrite s off row ix v) := by
  unfold State.devWrite
  try dsimp only
  with_reducible
    repeat' first
      | assumption | refine kept_devCommit ?_ | refine kept_snap ?_ | refine kept_writePlain ?_
      | refine kept_ite (fun _ => ?_) (fun _ => ?_)

end Sys2Proof.Machine
end

