-- ==== Sys2Proof/Laws/Kept4.lean ====
section
/-! SUPPORT. What each helper and each meaning keeps, part 4: one lemma per function, named after it. -/

namespace Sys2Proof.Machine

variable {W : Writes}

theorem kept_ordWrite {s0 : State} {s : State} {off : Nat} {row : Sys2Proof.Machine.RegRow} {ix : List Nat} {v : Nat} (h0 : Kept W s0 s)
    : Kept W s0 (State.ordWrite s off row ix v) := by
  unfold State.ordWrite
  try dsimp only
  with_reducible
    repeat' first
      | assumption | refine kept_put ?_ | refine kept_setOwner ?_ | refine kept_writePlain ?_
      | refine kept_ite (fun _ => ?_) (fun _ => ?_)

theorem kept_evqWrite {s0 : State} {s : State} {off : Nat} {row : Sys2Proof.Machine.RegRow} {ix : List Nat} {v : Nat} (h0 : Kept W s0 s)
    : Kept W s0 (State.evqWrite s off row ix v) := by
  unfold State.evqWrite
  try dsimp only
  with_reducible
    repeat' first
      | assumption | refine kept_evqHead ?_ | refine kept_writeFields ?_ | refine kept_evqSync ?_ | refine kept_evqReset ?_
      | refine kept_writePlain ?_ | refine kept_ite (fun _ => ?_) (fun _ => ?_)

theorem kept_cmdqTail {s0 : State} {s : State} {r : Nat} {v : Nat} (h0 : Kept W s0 s) : Kept W s0 (State.cmdqTail s r v) := by
  unfold State.cmdqTail
  try dsimp only
  with_reducible
    repeat' first
      | assumption | refine kept_wr ?_ | refine kept_modRing ?_ | refine kept_cmdqLook ?_ | refine kept_cmdqSync ?_
      | refine kept_ite (fun _ => ?_) (fun _ => ?_) | simp only [kept_mk]

theorem kept_cmdqWrite {s0 : State} {s : State} {off : Nat} {row : Sys2Proof.Machine.RegRow} {ix : List Nat} {v : Nat} (h0 : Kept W s0 s)
    : Kept W s0 (State.cmdqWrite s off row ix v) := by
  unfold State.cmdqWrite
  try dsimp only
  with_reducible
    repeat' first
      | assumption | refine kept_cmdqTail ?_ | refine kept_writeFields ?_ | refine kept_cmdqLook ?_ | refine kept_put ?_
      | refine kept_writePlain ?_ | refine kept_ite (fun _ => ?_) (fun _ => ?_)

theorem kept_bulkStart {s0 : State} {s : State} (h0 : Kept W s0 s) : Kept W s0 (State.bulkStart s) := by
  unfold State.bulkStart
  try dsimp only
  with_reducible
    repeat' first
      | assumption | refine kept_put ?_ | refine kept_wr64 ?_ | refine kept_ite (fun _ => ?_) (fun _ => ?_) | simp only [kept_mk]

theorem kept_bulkWrite {s0 : State} {s : State} {off : Nat} {row : Sys2Proof.Machine.RegRow} {ix : List Nat} {v : Nat} (h0 : Kept W s0 s)
    : Kept W s0 (State.bulkWrite s off row ix v) := by
  unfold State.bulkWrite
  try dsimp only
  with_reducible
    repeat' first
      | assumption | refine kept_writeFields ?_ | refine kept_bulkStart ?_ | refine kept_writePlain ?_
      | refine kept_ite (fun _ => ?_) (fun _ => ?_)

theorem kept_clearMark {s0 : State} {s : State} {v : Nat} (h0 : Kept W s0 s) : Kept W s0 (State.clearMark s v) := by
  unfold State.clearMark
  try dsimp only
  with_reducible
    repeat' first
      | assumption | refine kept_hltFields ?_ | refine kept_put ?_ | refine kept_ite (fun _ => ?_) (fun _ => ?_) | simp only [kept_mk]

theorem kept_writeKept {s0 : State} {s : State} {row : Sys2Proof.Machine.RegRow} {ix : List Nat} {v : Nat}
    {bad : State → Bool} {l : List Sys2Proof.Machine.Fld} (h0 : Kept W s0 s)
    : Kept W s0 (State.writeKept s row ix v bad l) := by
  unfold State.writeKept
  try dsimp only
  with_reducible
    repeat' first
      | assumption | refine kept_writeFields ?_ | refine kept_put ?_ | refine kept_foldl (fun _ _ _ => ?_) ?_ | split

theorem kept_hltWrite {s0 : State} {s : State} {off : Nat} {row : Sys2Proof.Machine.RegRow} {ix : List Nat} {v : Nat} (h0 : Kept W s0 s)
    : Kept W s0 (State.hltWrite s off row ix v) := by
  unfold State.hltWrite
  try dsimp only
  with_reducible
    repeat' first
      | assumption | refine kept_hltFields ?_ | refine kept_testPair ?_ | refine kept_fresh ?_ | refine kept_clearMark ?_
      | refine kept_writeKept ?_ | refine kept_gustShow ?_ | refine kept_writeFields ?_ | refine kept_setGust ?_
      | refine kept_writePlain ?_ | refine kept_ite (fun _ => ?_) (fun _ => ?_)

theorem kept_planStart {s0 : State} {s : State} {cause : Nat} (h0 : Kept W s0 s) : Kept W s0 (State.planStart s cause) := by
  unfold State.planStart
  try dsimp only
  with_reducible
    repeat' first
      | assumption | refine kept_put ?_ | refine kept_ite (fun _ => ?_) (fun _ => ?_) | simp only [kept_mk]

theorem kept_baroCtrl {s0 : State} {s : State} {v : Nat} (h0 : Kept W s0 s) : Kept W s0 (State.baroCtrl s v) := by
  unfold State.baroCtrl
  try dsimp only
  with_reducible
    repeat' first
      | assumption | refine kept_writeFields ?_ | refine kept_put ?_ | refine kept_planStart ?_
      | refine kept_ite (fun _ => ?_) (fun _ => ?_)

theorem kept_baroWrite {s0 : State} {s : State} {off : Nat} {row : Sys2Proof.Machine.RegRow} {ix : List Nat} {v : Nat} (h0 : Kept W s0 s)
    : Kept W s0 (State.baroWrite s off row ix v) := by
  unfold State.baroWrite
  try dsimp only
  with_reducible
    repeat' first
      | assumption | refine kept_baroCtrl ?_ | refine kept_writePlain ?_ | refine kept_ite (fun _ => ?_) (fun _ => ?_)

theorem kept_bbSeal {s0 : State} {s : State} {cause : Nat} (h0 : Kept W s0 s) (w_mram : W.mram = true) : Kept W s0 (State.bbSeal s cause)
    := by
  unfold State.bbSeal
  try dsimp only
  with_reducible
    repeat' first
      | assumption | refine kept_bbPut ?_ ?_ | refine kept_modDest ?_ | refine kept_bbHeader ?_ ?_ | refine kept_bbShow ?_
      | refine kept_ite (fun _ => ?_) (fun _ => ?_) | simp only [kept_mk] | refine kept_foldl (fun _ _ _ => ?_) ?_

theorem kept_trlWrite {s0 : State} {s : State} {off : Nat} {row : Sys2Proof.Machine.RegRow} {ix : List Nat} {v : Nat} (h0 : Kept W s0 s)
    (w_mram : W.mram = true) : Kept W s0 (State.trlWrite s off row ix v) := by
  unfold State.trlWrite
  try dsimp only
  with_reducible
    repeat' first
      | assumption | refine kept_bbSeal ?_ ?_ | refine kept_writePlain ?_ | refine kept_ite (fun _ => ?_) (fun _ => ?_)

theorem kept_resetWrite {s0 : State} {s : State} {v : Nat} (h0 : Kept W s0 s) (w_hbm : W.hbm = true) (w_lut : W.lut = true)
    : Kept W s0 (State.resetWrite s v) := by
  unfold State.resetWrite
  try dsimp only
  with_reducible
    repeat' first
      | assumption | refine kept_put ?_ | refine kept_modCpr ?_ | refine kept_resetBy ?_ ?_ ?_ | refine kept_advance ?_
      | refine kept_ite (fun _ => ?_) (fun _ => ?_)

theorem kept_standbyExit {s0 : State} {s : State} (h0 : Kept W s0 s) : Kept W s0 (State.standbyExit s) := by
  unfold State.standbyExit
  try dsimp only
  with_reducible
    repeat' first
      | assumption | refine kept_standbyRefused ?_ | refine kept_put ?_ | refine kept_ite (fun _ => ?_) (fun _ => ?_)

theorem kept_standbyWrite {s0 : State} {s : State} {v : Nat} (h0 : Kept W s0 s) (w_ohost : W.ohost = true)
    : Kept W s0 (State.standbyWrite s v) := by
  unfold State.standbyWrite
  try dsimp only
  with_reducible
    repeat' first
      | assumption | refine kept_writeFields ?_ | refine kept_standbyEnter ?_ ?_ | refine kept_standbyExit ?_
      | refine kept_ite (fun _ => ?_) (fun _ => ?_)

theorem kept_cprWrite {s0 : State} {s : State} {off : Nat} {row : Sys2Proof.Machine.RegRow} {ix : List Nat} {v : Nat} (h0 : Kept W s0 s)
    (w_hbm : W.hbm = true) (w_lut : W.lut = true) (w_ohost : W.ohost = true) : Kept W s0 (State.cprWrite s off row ix v) := by
  unfold State.cprWrite
  try dsimp only
  with_reducible
    repeat' first
      | assumption | refine kept_resetWrite ?_ ?_ ?_ | refine kept_pdWrite ?_ | refine kept_standbyWrite ?_ ?_ | refine kept_writeKept ?_
      | refine kept_writePlain ?_ | refine kept_ite (fun _ => ?_) (fun _ => ?_)

theorem kept_sfeWrite {s0 : State} {s : State} {off : Nat} {row : Sys2Proof.Machine.RegRow} {ix : List Nat} {v : Nat} (h0 : Kept W s0 s)
    (w_hbm : W.hbm = true) : Kept W s0 (State.sfeWrite s off row ix v) := by
  unfold State.sfeWrite
  try dsimp only
  with_reducible
    repeat' first
      | assumption | refine kept_reacquire ?_ ?_ | refine kept_writePlain ?_ | refine kept_ite (fun _ => ?_) (fun _ => ?_)

theorem kept_capSegrel {s0 : State} {s : State} {p : Nat} {v : Nat} (h0 : Kept W s0 s) : Kept W s0 (State.capSegrel s p v) := by
  unfold State.capSegrel
  try dsimp only
  with_reducible
    repeat' first
      | assumption | refine kept_relDue ?_ | refine kept_put ?_

theorem kept_capWrite {s0 : State} {s : State} {off : Nat} {row : Sys2Proof.Machine.RegRow} {ix : List Nat} {v : Nat} (h0 : Kept W s0 s)
    : Kept W s0 (State.capWrite s off row ix v) := by
  unfold State.capWrite
  try dsimp only
  with_reducible
    repeat' first
      | assumption | refine kept_capTrig ?_ | refine kept_capDrain ?_ | refine kept_capSegrel ?_ | refine kept_writePlain ?_
      | refine kept_ite (fun _ => ?_) (fun _ => ?_)

theorem kept_rtpAttach {s0 : State} {s : State} {k : Nat} (h0 : Kept W s0 s) : Kept W s0 (State.rtpAttach s k) := by
  unfold State.rtpAttach
  try dsimp only
  with_reducible
    repeat' first
      | assumption | refine kept_modEnc ?_

theorem kept_auHostAttach {s0 : State} {s : State} {k : Nat} (h0 : Kept W s0 s) : Kept W s0 (State.auHostAttach s k) := by
  unfold State.auHostAttach
  try dsimp only
  with_reducible
    repeat' first
      | assumption | refine kept_wr ?_

theorem kept_vceWrite {s0 : State} {s : State} {off : Nat} {row : Sys2Proof.Machine.RegRow} {ix : List Nat} {v : Nat} (h0 : Kept W s0 s)
    : Kept W s0 (State.vceWrite s off row ix v) := by
  unfold State.vceWrite
  try dsimp only
  with_reducible
    repeat' first
      | assumption | refine kept_writeFields ?_ | refine kept_rtpAttach ?_ | refine kept_auHostAttach ?_ | refine kept_writeKept ?_
      | refine kept_decBusy ?_ | refine kept_writePlain ?_ | refine kept_ite (fun _ => ?_) (fun _ => ?_)

theorem kept_dsiPacket {s0 : State} {s : State} {d : Nat} (h0 : Kept W s0 s) : Kept W s0 (State.dsiPacket s d) := by
  unfold State.dsiPacket
  try dsimp only
  with_reducible
    repeat' first
      | assumption | refine kept_modDsi ?_ | refine kept_emit ?_ | refine kept_dsiBusy ?_ | refine kept_put ?_
      | refine kept_ite (fun _ => ?_) (fun _ => ?_)

theorem kept_dsiCmd {s0 : State} {s : State} {d : Nat} {v : Nat} (h0 : Kept W s0 s) : Kept W s0 (State.dsiCmd s d v) := by
  unfold State.dsiCmd
  try dsimp only
  with_reducible
    repeat' first
      | assumption | refine kept_writeFields ?_ | refine kept_put ?_ | refine kept_modDsi ?_ | refine kept_dsiPacket ?_
      | refine kept_ite (fun _ => ?_) (fun _ => ?_)

theorem kept_dispWrite {s0 : State} {s : State} {off : Nat} {row : Sys2Proof.Machine.RegRow} {ix : List Nat} {v : Nat} (h0 : Kept W s0 s)
    : Kept W s0 (State.dispWrite s off row ix v) := by
  unfold State.dispWrite
  try dsimp only
  with_reducible
    repeat' first
      | assumption | refine kept_dsiCmd ?_ | refine kept_writePlain ?_ | refine kept_ite (fun _ => ?_) (fun _ => ?_)

theorem kept_hbmcWrite {s0 : State} {s : State} {off : Nat} {row : Sys2Proof.Machine.RegRow} {ix : List Nat} {v : Nat} (h0 : Kept W s0 s)
    : Kept W s0 (State.hbmcWrite s off row ix v) := by
  unfold State.hbmcWrite
  try dsimp only
  with_reducible
    repeat' first
      | assumption | refine kept_writeFields ?_ | refine kept_channelRelease ?_ | refine kept_pprGo ?_ | refine kept_fresh ?_
      | refine kept_writePlain ?_ | refine kept_ite (fun _ => ?_) (fun _ => ?_)

theorem kept_dtCtrl {s0 : State} {s : State} {v : Nat} (h0 : Kept W s0 s) : Kept W s0 (State.dtCtrl s v) := by
  unfold State.dtCtrl
  try dsimp only
  with_reducible
    repeat' first
      | assumption | refine kept_writeFields ?_ | refine kept_dtSwitch ?_ | refine kept_ite (fun _ => ?_) (fun _ => ?_)

theorem kept_aliasWrite {s0 : State} {s : State} {row : Sys2Proof.Machine.RegRow} {n : Nat} {v : Nat} (h0 : Kept W s0 s)
    : Kept W s0 (State.aliasWrite s row n v) := by
  unfold State.aliasWrite
  try dsimp only
  with_reducible
    repeat' first
      | assumption | refine kept_writeFields ?_ | refine kept_modTime ?_ | refine kept_audShift ?_
      | refine kept_ite (fun _ => ?_) (fun _ => ?_)

theorem kept_tbStep {s0 : State} {s : State} {n : Nat} {hi : Nat} (h0 : Kept W s0 s) : Kept W s0 (State.tbStep s n hi) := by
  unfold State.tbStep
  try dsimp only
  with_reducible
    repeat' first
      | assumption | refine kept_putPair ?_ | refine kept_modTime ?_ | refine kept_put ?_ | refine kept_loadOfs ?_
      | refine kept_audShift ?_ | refine kept_ev ?_ | refine kept_inc ?_ | refine kept_ite (fun _ => ?_) (fun _ => ?_)

theorem kept_txqPop {s0 : State} {s : State} {p : Nat} (h0 : Kept W s0 s) : Kept W s0 (State.txqPop s p) := by
  unfold State.txqPop
  try dsimp only
  with_reducible
    repeat' first
      | assumption | refine kept_txqShow ?_ | refine kept_modTime ?_

theorem kept_ltcJam {s0 : State} {s : State} {v : Nat} (h0 : Kept W s0 s) : Kept W s0 (State.ltcJam s v) := by
  unfold State.ltcJam
  try dsimp only
  with_reducible
    repeat' first
      | assumption | refine kept_modTime ?_ | refine kept_wr ?_

theorem kept_lineSource {s0 : State} {s : State} {row : Sys2Proof.Machine.RegRow} {l : Nat} {v : Nat} (h0 : Kept W s0 s)
    : Kept W s0 (State.lineSource s row l v) := by
  unfold State.lineSource
  try dsimp only
  with_reducible
    repeat' first
      | assumption | refine kept_writeFields ?_ | refine kept_driveLine ?_ | refine kept_ite (fun _ => ?_) (fun _ => ?_)

theorem kept_timeWrite {s0 : State} {s : State} {off : Nat} {row : Sys2Proof.Machine.RegRow} {ix : List Nat} {v : Nat} (h0 : Kept W s0 s)
    : Kept W s0 (State.timeWrite s off row ix v) := by
  unfold State.timeWrite
  try dsimp only
  with_reducible
    repeat' first
      | assumption | refine kept_dtCtrl ?_ | refine kept_timeCap ?_ | refine kept_aliasWrite ?_ | refine kept_tbInc ?_
      | refine kept_tbStep ?_ | refine kept_writeFields ?_ | refine kept_beat ?_ | refine kept_endTracking ?_ | refine kept_writeKept ?_
      | refine kept_txqPop ?_ | refine kept_ptpTx ?_ | refine kept_modTime ?_ | refine kept_ltcJam ?_ | refine kept_lineSource ?_
      | refine kept_writePlain ?_ | refine kept_ite (fun _ => ?_) (fun _ => ?_)

theorem kept_skyOff {s0 : State} {s : State} (h0 : Kept W s0 s) : Kept W s0 (State.skyOff s) := by
  unfold State.skyOff
  try dsimp only
  with_reducible
    repeat' first
      | assumption | refine kept_modSky ?_ | refine kept_wr ?_ | refine kept_evSkyState ?_ | refine kept_wr64 ?_

theorem kept_skyArriveHost {s0 : State} {s : State} {v : Nat} (h0 : Kept W s0 s) : Kept W s0 (State.skyArriveHost s v) := by
  unfold State.skyArriveHost
  try dsimp only
  with_reducible
    repeat' first
      | assumption | refine kept_writeFields ?_ | refine kept_skyEnded ?_ | refine kept_skyBarrier ?_ | refine kept_modSky ?_
      | refine kept_ite (fun _ => ?_) (fun _ => ?_)

theorem kept_skyWrite {s0 : State} {s : State} {off : Nat} {row : Sys2Proof.Machine.RegRow} {ix : List Nat} {v : Nat} (h0 : Kept W s0 s)
    : Kept W s0 (State.skyWrite s off row ix v) := by
  unfold State.skyWrite
  try dsimp only
  with_reducible
    repeat' first
      | assumption | refine kept_writeFields ?_ | refine kept_skyEnable ?_ | refine kept_skyOff ?_ | refine kept_skyArriveHost ?_
      | refine kept_skyAsk ?_ | refine kept_writePlain ?_ | refine kept_ite (fun _ => ?_) (fun _ => ?_)

theorem kept_i2cFlush {s0 : State} {s : State} {c : Nat} (h0 : Kept W s0 s) : Kept W s0 (State.i2cFlush s c) := by
  unfold State.i2cFlush
  try dsimp only
  with_reducible
    repeat' first
      | assumption | refine kept_modI2c ?_ | refine kept_put ?_ | refine kept_i2cEnd ?_ | refine kept_i2cLevels ?_
      | refine kept_foldl (fun _ _ _ => ?_) ?_ | split

theorem kept_i2cTry {s0 : State} {s : State} {c : Nat} {x : Sys2Proof.Machine.I2cRun} (h0 : Kept W s0 s) : Kept W s0 (State.i2cTry s c x)
    := by
  unfold State.i2cTry
  try dsimp only
  with_reducible
    repeat' first
      | assumption | refine kept_emit ?_ | refine kept_modI2c ?_

theorem kept_i2cGo {s0 : State} {s : State} {c : Nat} {v : Nat} (h0 : Kept W s0 s) : Kept W s0 (State.i2cGo s c v) := by
  unfold State.i2cGo
  try dsimp only
  with_reducible
    repeat' first
      | assumption | refine kept_writeFields ?_ | refine kept_i2cFlush ?_ | refine kept_i2cEnd ?_ | refine kept_i2cTry ?_
      | refine kept_put ?_ | refine kept_ite (fun _ => ?_) (fun _ => ?_)

theorem kept_gpioClr {s0 : State} {s : State} {b : Nat} {v : Nat} (h0 : Kept W s0 s) : Kept W s0 (State.gpioClr s b v) := by
  unfold State.gpioClr
  try dsimp only
  with_reducible
    repeat' first
      | assumption | refine kept_gpioOut ?_ | refine kept_ite (fun _ => ?_) (fun _ => ?_)

theorem kept_smbWriteCfg {s0 : State} {s : State} {row : Sys2Proof.Machine.RegRow} {ix : List Nat} {v : Nat} (h0 : Kept W s0 s)
    : Kept W s0 (State.smbWriteCfg s row ix v) := by
  unfold State.smbWriteCfg
  try dsimp only
  with_reducible
    repeat' first
      | assumption | refine kept_writeKept ?_ | refine kept_ite (fun _ => ?_) (fun _ => ?_)

theorem kept_lspWrite {s0 : State} {s : State} {off : Nat} {row : Sys2Proof.Machine.RegRow} {ix : List Nat} {v : Nat} (h0 : Kept W s0 s)
    : Kept W s0 (State.lspWrite s off row ix v) := by
  unfold State.lspWrite
  try dsimp only
  with_reducible
    repeat' first
      | assumption | refine kept_i2cGo ?_ | refine kept_fifoPush ?_ | refine kept_spiGo ?_ | refine kept_gpioSet ?_
      | refine kept_gpioClr ?_ | refine kept_gpioOut ?_ | refine kept_writeFields ?_ | refine kept_usbDetach ?_
      | refine kept_smbWriteCfg ?_ | refine kept_writePlain ?_ | refine kept_ite (fun _ => ?_) (fun _ => ?_)

theorem kept_regWrite {s0 : State} {s : State} {off : Nat} {v : Nat} (h0 : Kept W s0 s) (w_hbm : W.hbm = true) (w_lut : W.lut = true)
    (w_mram : W.mram = true) (w_ohost : W.ohost = true) : Kept W s0 (State.regWrite s off v) := by
  unfold State.regWrite
  try dsimp only
  with_reducible
    repeat' first
      | assumption | refine kept_devWrite ?_ | refine kept_ordWrite ?_ | refine kept_evqWrite ?_ | refine kept_cmdqWrite ?_
      | refine kept_drvWrite ?_ ?_ | refine kept_bulkWrite ?_ | refine kept_hltWrite ?_ | refine kept_baroWrite ?_
      | refine kept_trlWrite ?_ ?_ | refine kept_cprWrite ?_ ?_ ?_ ?_ | refine kept_sfeWrite ?_ ?_ | refine kept_capWrite ?_
      | refine kept_vceWrite ?_ | refine kept_dispWrite ?_ | refine kept_hbmcWrite ?_ | refine kept_timeWrite ?_ | refine kept_skyWrite ?_
      | refine kept_audWrite ?_ | refine kept_lspWrite ?_ | refine kept_writePlain ?_ | refine kept_foldl (fun _ _ _ => ?_) ?_ | split

theorem kept_bar0Word {s0 : State} {s : State} {off : Nat} {v : Nat} (h0 : Kept W s0 s) (w_hbm : W.hbm = true) (w_lut : W.lut = true)
    (w_mram : W.mram = true) (w_ohost : W.ohost = true) : Kept W s0 (State.bar0Word s off v) := by
  unfold State.bar0Word
  try dsimp only
  with_reducible
    repeat' first
      | assumption | refine kept_onUnit ?_ (fun _ _ => ?_) | refine kept_regWrite ?_ ?_ ?_ ?_ ?_

theorem kept_execDsiTransferEnd {s0 : State} {d : Nat} {s : State} (h1 : Kept W s0 s) : KeptR W s0 (execDsiTransferEnd d s) := by
  unfold execDsiTransferEnd
  try dsimp only
  with_reducible
    repeat' first
      | assumption | refine kept_inc ?_ | refine kept_modDsi ?_ | refine kept_dsiPacket ?_ | refine kept_dsiBusy ?_
      | refine kept_dsiStart ?_ | refine keptR_next ?_ | refine keptR_ite (fun _ => ?_) (fun _ => ?_)
      | refine kept_ite (fun _ => ?_) (fun _ => ?_)

theorem kept_landingDeadline {s0 : State} {s : State} {owing : List Nat} (h0 : Kept W s0 s) (w_media : W.media = true)
    (w_ohost : W.ohost = true) : Kept W s0 (State.landingDeadline s owing) := by
  unfold State.landingDeadline
  try dsimp only
  with_reducible
    repeat' first
      | assumption | refine kept_rowComplete ?_ ?_ ?_ | refine kept_foldl (fun _ _ _ => ?_) ?_ | split

theorem kept_resyncEnd {s0 : State} {s : State} {n : Nat} {trainOk : Bool} {ms : Nat} (h0 : Kept W s0 s)
    : Kept W s0 (State.resyncEnd s n trainOk ms) := by
  unfold State.resyncEnd
  try dsimp only
  with_reducible
    repeat' first
      | assumption | refine kept_modHbm ?_ | refine kept_put ?_ | refine kept_ev ?_ | refine kept_groupsShow ?_
      | refine kept_ite (fun _ => ?_) (fun _ => ?_)

theorem kept_execEvHbmResync {s0 : State} {ch : Nat} {trainOk : Bool} {ms : Nat} {s : State} (h3 : Kept W s0 s)
    : KeptR W s0 (execEvHbmResync ch trainOk ms s) := by
  unfold execEvHbmResync
  try dsimp only
  with_reducible
    repeat' first
      | assumption | refine kept_resyncEnd ?_ | refine keptR_next ?_

theorem kept_onArrive {s0 : State} {s : State} {m : Sys2Proof.Machine.SkyIn} (h0 : Kept W s0 s) : Kept W s0 (State.onArrive s m) := by
  unfold State.onArrive
  try dsimp only
  with_reducible
    repeat' first
      | assumption | refine kept_skyBarrier ?_ | refine kept_modSky ?_ | refine kept_ite (fun _ => ?_) (fun _ => ?_)

theorem kept_execDrvStagePatch {s0 : State} {v : Nat} {s : State} (h1 : Kept W s0 s) : KeptR W s0 (execDrvStagePatch v s) := by
  unfold execDrvStagePatch
  try dsimp only
  with_reducible
    repeat' first
      | assumption | refine kept_drvRow (fun _ _ => ?_) ?_ | refine kept_drvStart ?_ (fun _ _ => ?_) | refine keptR_next ?_
      | simp only [kept_mk]

theorem kept_deleteCq {s0 : State} {s : State} {c : Sys2Proof.NvmeCmd} {id : Nat} (h0 : Kept W s0 s) (w_ohost : W.ohost = true)
    : Kept W s0 (State.deleteCq s c id) := by
  unfold State.deleteCq
  try dsimp only
  with_reducible
    repeat' first
      | assumption | refine kept_oflComplete ?_ ?_ | refine kept_modOfl ?_ (fun _ => ?_) | refine kept_ite (fun _ => ?_) (fun _ => ?_)
      | refine keptR_ite (fun _ => ?_) (fun _ => ?_) | refine kept_fst_ite (fun _ => ?_) (fun _ => ?_) | refine kept_id ?_
      | simp only [kept_mk] | refine kept_foldl (fun _ _ _ => ?_) ?_ | refine kept_fst_foldl (fun _ _ _ => ?_) ?_ | refine keptR_next ?_
      | exact keptR_fault | exact keptR_refused | refine keptO_some ?_ | exact keptO_none | exact fun h => h

theorem kept_execNvmeDeleteIoCq {s0 : State} {c : Sys2Proof.NvmeCmd} {s : State} (h1 : Kept W s0 s) (w_ohost : W.ohost = true)
    : KeptR W s0 (execNvmeDeleteIoCq c s) := by
  unfold execNvmeDeleteIoCq
  try dsimp only
  with_reducible
    repeat' first
      | assumption | refine kept_admin ?_ (fun _ _ _ => ?_) ?_ | refine kept_deleteCq ?_ ?_ | refine keptR_next ?_

theorem kept_createSq {s0 : State} {s : State} {c : Sys2Proof.NvmeCmd} {id : Nat} (h0 : Kept W s0 s) (w_ohost : W.ohost = true)
    : Kept W s0 (State.createSq s c id) := by
  unfold State.createSq
  try dsimp only
  with_reducible
    repeat' first
      | assumption | refine kept_modOfl ?_ (fun _ => ?_) | refine kept_oflComplete ?_ ?_ | refine kept_ite (fun _ => ?_) (fun _ => ?_)
      | refine keptR_ite (fun _ => ?_) (fun _ => ?_) | refine kept_fst_ite (fun _ => ?_) (fun _ => ?_) | refine kept_id ?_
      | simp only [kept_mk] | refine kept_foldl (fun _ _ _ => ?_) ?_ | refine kept_fst_foldl (fun _ _ _ => ?_) ?_ | refine keptR_next ?_
      | exact keptR_fault | exact keptR_refused | refine keptO_some ?_ | exact keptO_none | exact fun h => h

theorem kept_execNvmeCreateIoSq {s0 : State} {c : Sys2Proof.NvmeCmd} {s : State} (h1 : Kept W s0 s) (w_ohost : W.ohost = true)
    : KeptR W s0 (execNvmeCreateIoSq c s) := by
  unfold execNvmeCreateIoSq
  try dsimp only
  with_reducible
    repeat' first
      | assumption | refine kept_admin ?_ (fun _ _ _ => ?_) ?_ | refine kept_createSq ?_ ?_ | refine keptR_next ?_

theorem kept_idleIssue {s0 : State} {s : State} (h0 : Kept W s0 s) (w_hbm : W.hbm = true) (w_lut : W.lut = true)
    : Kept W s0 (State.idleIssue s) := by
  unfold State.idleIssue
  try dsimp only
  with_reducible
    repeat' first
      | assumption | refine kept_issueFront ?_ ?_ ?_ | refine kept_put ?_ | refine kept_ite (fun _ => ?_) (fun _ => ?_)
      | simp only [kept_mk] | refine kept_foldl (fun _ _ _ => ?_) ?_ | split

theorem kept_pipelineIdle {s0 : State} {s : State} {p : Nat} (h0 : Kept W s0 s) (w_hbm : W.hbm = true) (w_lut : W.lut = true)
    : Kept W s0 (State.pipelineIdle s p) := by
  unfold State.pipelineIdle
  try dsimp only
  with_reducible
    repeat' first
      | assumption | refine kept_reachDt ?_ | refine kept_modPipe ?_ | refine kept_settle ?_ | refine kept_takeDue ?_ ?_ ?_
      | refine kept_idleIssue ?_ ?_ ?_ | refine kept_foldl (fun _ _ _ => ?_) ?_ | split

theorem kept_execEvDispLock {s0 : State} {locked : Bool} {s : State} (h1 : Kept W s0 s) : KeptR W s0 (execEvDispLock locked s) := by
  unfold execEvDispLock
  try dsimp only
  with_reducible
    repeat' first
      | assumption | refine kept_put ?_ | refine kept_ev ?_ | refine keptR_next ?_ | refine keptR_ite (fun _ => ?_) (fun _ => ?_)
      | refine kept_ite (fun _ => ?_) (fun _ => ?_)

theorem kept_bulkGet {s0 : State} {s : State} {a : Nat} (h0 : Kept W s0 s) : Kept W s0 (State.bulkGet s a).2.2 := by
  unfold State.bulkGet
  try dsimp only
  with_reducible
    repeat' first
      | assumption | refine kept_inc ?_ | refine kept_put ?_ | refine kept_ite (fun _ => ?_) (fun _ => ?_) | simp only [kept_mk]
      | refine kept_foldl (fun _ _ _ => ?_) ?_ | split

theorem kept_bulkReadBytes {s0 : State} {s : State} {acc : Sys2Proof.Bytes} {bad : Bool} {x3 : Nat} (h0 : Kept W s0 s)
    : Kept W s0 (State.bulkReadBytes s acc bad x3).2.2 := by
  induction x3 generalizing s acc bad with
  | zero =>
    unfold State.bulkReadBytes
    try dsimp only
    repeat' first
      | with_reducible assumption
  | succ n ih =>
    unfold State.bulkReadBytes
    try dsimp only
    repeat' first
      | with_reducible assumption | with_reducible apply ih | with_reducible refine kept_bulkGet ?_
      | with_reducible refine kept_bulkStep ?_ | with_reducible refine kept_put ?_
      | with_reducible refine kept_ite (fun _ => ?_) (fun _ => ?_) | with_reducible refine keptR_ite (fun _ => ?_) (fun _ => ?_)
      | with_reducible refine kept_fst_ite (fun _ => ?_) (fun _ => ?_) | with_reducible refine kept_id ?_ | simp only [kept_mk]
      | with_reducible refine kept_foldl (fun _ _ _ => ?_) ?_ | with_reducible refine kept_fst_foldl (fun _ _ _ => ?_) ?_
      | with_reducible refine keptR_next ?_ | with_reducible exact keptR_fault | with_reducible exact keptR_refused
      | with_reducible refine keptO_some ?_ | with_reducible exact keptO_none | with_reducible exact fun h => h
      | with_reducible exact fun h => Mem.write_wf h | with_reducible exact fun h => Mem.zero_wf h
      | with_reducible exact fun h => Mem.set_wf h | with_reducible exact fun h => Mem.filter_wf h
      | with_reducible exact fun h => rising_filter h | with_reducible exact fun h => RegFile.wr_rising h
      | with_reducible exact fun h => RegFile.put_rising h | with_reducible exact fun h => judgeSet_rising h
      | with_reducible exact fun _ => rfl | exact fun _ => Mem.nil_wf | split

theorem kept_execBulkRead {s0 : State} {n : Nat} {s : State} (h1 : Kept W s0 s) : KeptR W s0 (execBulkRead n s) := by
  unfold execBulkRead
  try dsimp only
  with_reducible
    repeat' first
      | assumption | refine kept_emit ?_ | refine kept_bulkReadBytes ?_ | refine kept_put ?_ | refine keptR_next ?_
      | refine keptR_ite (fun _ => ?_) (fun _ => ?_) | refine kept_ite (fun _ => ?_) (fun _ => ?_)

theorem kept_oflReads {s0 : State} {s : State} {id : Nat} (h0 : Kept W s0 s) (w_ohost : W.ohost = true) : Kept W s0 (State.oflReads s id)
    := by
  unfold State.oflReads
  try dsimp only
  with_reducible
    repeat' first
      | assumption | refine kept_oflReadError ?_ ?_ | refine kept_oflIssue ?_ | refine kept_modOfl ?_ (fun _ => ?_)
      | refine kept_oflComplete ?_ ?_ | refine kept_ite (fun _ => ?_) (fun _ => ?_) | refine keptR_ite (fun _ => ?_) (fun _ => ?_)
      | refine kept_fst_ite (fun _ => ?_) (fun _ => ?_) | refine kept_id ?_ | simp only [kept_mk] | refine kept_foldl (fun _ _ _ => ?_) ?_
      | refine kept_fst_foldl (fun _ _ _ => ?_) ?_ | refine keptR_next ?_ | exact keptR_fault | exact keptR_refused | refine keptO_some ?_
      | exact keptO_none | exact fun h => h | exact fun h => Mem.write_wf h | exact fun h => Mem.zero_wf h | exact fun h => Mem.set_wf h
      | exact fun h => Mem.filter_wf h | exact fun h => rising_filter h | exact fun h => RegFile.wr_rising h
      | exact fun h => RegFile.put_rising h | exact fun h => judgeSet_rising h | exact fun _ => rfl | exact fun _ => Mem.nil_wf | split

theorem kept_execNvmeCompare {s0 : State} {c : Sys2Proof.NvmeCmd} {data : Sys2Proof.Bytes} {s : State} (h2 : Kept W s0 s)
    (w_ohost : W.ohost = true) : KeptR W s0 (execNvmeCompare c data s) := by
  unfold execNvmeCompare
  try dsimp only
  with_reducible
    repeat' first
      | assumption | refine kept_ioCmd ?_ (fun _ _ _ => ?_) ?_ | refine kept_oflReads ?_ ?_ | refine kept_modCmd ?_ | refine keptR_next ?_

theorem kept_aligned {s0 : State} {f : State → Nat → Nat → Sys2Proof.Machine.State} {off : Nat} {size : Nat} {be : Nat} {v : Nat}
    {s : State} (h0 : ∀ a0 a1 a2, Kept W s0 a0 → Kept W s0 (f a0 a1 a2)) (h5 : Kept W s0 s) : Kept W s0 (State.aligned f off size be v s)
    := by
  unfold State.aligned
  try dsimp only
  with_reducible
    repeat' first
      | assumption | apply h0 | refine kept_ite (fun _ => ?_) (fun _ => ?_)

theorem kept_skyBarrierEnd {s0 : State} {s : State} (h0 : Kept W s0 s) : Kept W s0 (State.skyBarrierEnd s) := by
  unfold State.skyBarrierEnd
  try dsimp only
  with_reducible
    repeat' first
      | assumption | refine kept_reachDt ?_ | refine kept_modSky ?_ | refine kept_skyEnded ?_ | refine kept_foldl (fun _ _ _ => ?_) ?_
      | split

theorem kept_execBarrierEnd {s0 : State} {s : State} (h0 : Kept W s0 s) : KeptR W s0 (execBarrierEnd s) := by
  unfold execBarrierEnd
  try dsimp only
  with_reducible
    repeat' first
      | assumption | refine kept_skyBarrierEnd ?_ | refine keptR_next ?_

theorem kept_decodedOutput {s0 : State} {s : State} {p : Sys2Proof.DecodedPic} (h0 : Kept W s0 s) (w_hbm : W.hbm = true)
    : Kept W s0 (State.decodedOutput s p) := by
  unfold State.decodedOutput
  try dsimp only
  with_reducible
    repeat' first
      | assumption | refine kept_vcdErr ?_ | refine kept_fresh ?_ | refine kept_hbmWrite ?_ ?_ | refine kept_wr ?_ | refine kept_inc ?_
      | refine kept_decBusy ?_ | refine kept_ev ?_ | refine kept_ite (fun _ => ?_) (fun _ => ?_) | simp only [kept_mk]
      | refine kept_foldl (fun _ _ _ => ?_) ?_ | split

theorem kept_execDecodedPictureOutput {s0 : State} {p : Sys2Proof.DecodedPic} {s : State} (h1 : Kept W s0 s) (w_hbm : W.hbm = true)
    : KeptR W s0 (execDecodedPictureOutput p s) := by
  unfold execDecodedPictureOutput
  try dsimp only
  with_reducible
    repeat' first
      | assumption | refine kept_decodedOutput ?_ ?_ | refine keptR_next ?_

theorem kept_freeBytes {s0 : State} {s : State} {n : Nat} (h0 : Kept W s0 s) : Kept W s0 (State.freeBytes s n).2 := by
  unfold State.freeBytes
  try dsimp only
  with_reducible
    repeat' first
      | assumption | simp only [kept_mk]

theorem kept_getLog {s0 : State} {s : State} {c : Sys2Proof.NvmeCmd} {id : Nat} (h0 : Kept W s0 s) (w_ohost : W.ohost = true)
    : Kept W s0 (State.getLog s c id) := by
  unfold State.getLog
  try dsimp only
  with_reducible
    repeat' first
      | assumption | refine kept_oflComplete ?_ ?_ | refine kept_freeBytes ?_ | refine kept_oflAnswer ?_ ?_
      | refine kept_modOfl ?_ (fun _ => ?_) | refine kept_oflUnmask ?_ ?_ | refine kept_ite (fun _ => ?_) (fun _ => ?_)
      | refine keptR_ite (fun _ => ?_) (fun _ => ?_) | refine kept_fst_ite (fun _ => ?_) (fun _ => ?_) | refine kept_id ?_
      | simp only [kept_mk] | refine kept_foldl (fun _ _ _ => ?_) ?_ | refine kept_fst_foldl (fun _ _ _ => ?_) ?_ | refine keptR_next ?_
      | exact keptR_fault | exact keptR_refused | refine keptO_some ?_ | exact keptO_none | exact fun h => h
      | exact fun h => Mem.write_wf h | exact fun h => Mem.zero_wf h | exact fun h => Mem.set_wf h | exact fun h => Mem.filter_wf h
      | exact fun h => rising_filter h | exact fun h => RegFile.wr_rising h | exact fun h => RegFile.put_rising h
      | exact fun h => judgeSet_rising h | exact fun _ => rfl | exact fun _ => Mem.nil_wf | split

theorem kept_execNvmeGetLogPage {s0 : State} {c : Sys2Proof.NvmeCmd} {s : State} (h1 : Kept W s0 s) (w_ohost : W.ohost = true)
    : KeptR W s0 (execNvmeGetLogPage c s) := by
  unfold execNvmeGetLogPage
  try dsimp only
  with_reducible
    repeat' first
      | assumption | refine kept_admin ?_ (fun _ _ _ => ?_) ?_ | refine kept_getLog ?_ ?_ | refine keptR_next ?_

theorem kept_onCommit {s0 : State} {s : State} {m : Sys2Proof.Machine.SkyIn} (h0 : Kept W s0 s) : Kept W s0 (State.onCommit s m) := by
  unfold State.onCommit
  try dsimp only
  with_reducible
    repeat' first
      | assumption | refine kept_skyDown ?_ | refine kept_skyHold ?_ | refine kept_skyAbort ?_
      | refine kept_ite (fun _ => ?_) (fun _ => ?_)

theorem kept_oflDusk {s0 : State} {s : State} (h0 : Kept W s0 s) : Kept W s0 (State.oflDusk s) := by
  unfold State.oflDusk
  try dsimp only
  with_reducible
    repeat' first
      | assumption | refine kept_oflShow ?_ | refine kept_modOfl ?_ (fun _ => ?_) | refine kept_ite (fun _ => ?_) (fun _ => ?_)
      | refine keptR_ite (fun _ => ?_) (fun _ => ?_) | refine kept_fst_ite (fun _ => ?_) (fun _ => ?_) | refine kept_id ?_
      | simp only [kept_mk] | refine kept_foldl (fun _ _ _ => ?_) ?_ | refine kept_fst_foldl (fun _ _ _ => ?_) ?_ | refine keptR_next ?_
      | exact keptR_fault | exact keptR_refused | refine keptO_some ?_ | exact keptO_none | exact fun h => h
      | exact fun h => Mem.write_wf h | exact fun h => Mem.zero_wf h | exact fun h => Mem.set_wf h | exact fun h => Mem.filter_wf h
      | exact fun h => rising_filter h | exact fun h => RegFile.wr_rising h | exact fun h => RegFile.put_rising h
      | exact fun h => judgeSet_rising h | exact fun _ => rfl | exact fun _ => Mem.nil_wf

theorem kept_deleteSq {s0 : State} {s : State} {c : Sys2Proof.NvmeCmd} {id : Nat} (h0 : Kept W s0 s) (w_ohost : W.ohost = true)
    : Kept W s0 (State.deleteSq s c id) := by
  unfold State.deleteSq
  try dsimp only
  with_reducible
    repeat' first
      | assumption | refine kept_oflComplete ?_ ?_ | refine kept_modOfl ?_ (fun _ => ?_) | refine kept_closeIdle ?_ ?_
      | refine kept_ite (fun _ => ?_) (fun _ => ?_) | refine keptR_ite (fun _ => ?_) (fun _ => ?_)
      | refine kept_fst_ite (fun _ => ?_) (fun _ => ?_) | refine kept_id ?_ | simp only [kept_mk] | refine kept_foldl (fun _ _ _ => ?_) ?_
      | refine kept_fst_foldl (fun _ _ _ => ?_) ?_ | refine keptR_next ?_ | exact keptR_fault | exact keptR_refused | refine keptO_some ?_
      | exact keptO_none | exact fun h => h

theorem kept_execClearRetiredMark {s0 : State} {v : Nat} {s : State} (h1 : Kept W s0 s) : KeptR W s0 (execClearRetiredMark v s) := by
  unfold execClearRetiredMark
  try dsimp only
  with_reducible
    repeat' first
      | assumption | refine kept_onUnit ?_ (fun _ _ => ?_) | refine kept_clearMark ?_ | refine keptR_next ?_

theorem kept_execSkyArrive {s0 : State} {m : Sys2Proof.SkyMsg} {s : State} (h1 : Kept W s0 s) : KeptR W s0 (execSkyArrive m s) := by
  unfold execSkyArrive
  try dsimp only
  with_reducible
    repeat' first
      | assumption | refine kept_skyReceive ?_ (fun _ _ _ => ?_) | refine kept_onArrive ?_ | refine keptR_next ?_

theorem kept_dfuManifest {s0 : State} {s : State} (h0 : Kept W s0 s) : Kept W s0 (State.dfuManifest s) := by
  unfold State.dfuManifest
  try dsimp only
  with_reducible
    repeat' first
      | assumption | refine kept_put ?_ | refine kept_loadImage ?_ | refine kept_modLsp ?_ | refine kept_loadStart ?_
      | refine kept_drvErr ?_ | refine kept_ite (fun _ => ?_) (fun _ => ?_) | simp only [kept_mk]

theorem kept_reissue {s0 : State} {s : State} {p : Nat} (h0 : Kept W s0 s) : Kept W s0 (State.reissue s p) := by
  unfold State.reissue
  try dsimp only
  with_reducible
    repeat' first
      | assumption | refine kept_modSeg ?_ | refine kept_segShow ?_ | refine kept_tagSlot ?_ | refine kept_ite (fun _ => ?_) (fun _ => ?_)
      | simp only [kept_mk] | refine kept_foldl (fun _ _ _ => ?_) ?_ | split

theorem kept_execReissueFrame {s0 : State} {p : Nat} {s : State} (h1 : Kept W s0 s) : KeptR W s0 (execReissueFrame p s) := by
  unfold execReissueFrame
  try dsimp only
  with_reducible
    repeat' first
      | assumption | refine kept_reissue ?_ | refine keptR_next ?_

theorem kept_execLtcOutFrame {s0 : State} {s : State} (h0 : Kept W s0 s) : KeptR W s0 (execLtcOutFrame s) := by
  unfold execLtcOutFrame
  try dsimp only
  with_reducible
    repeat' first
      | assumption | refine kept_ltcOut ?_ | refine keptR_next ?_

theorem kept_watchdog {s0 : State} {s : State} (h0 : Kept W s0 s) (w_hbm : W.hbm = true) (w_lut : W.lut = true) (w_mram : W.mram = true)
    : Kept W s0 (State.watchdog s) := by
  unfold State.watchdog
  try dsimp only
  with_reducible
    repeat' first
      | assumption | refine kept_reachClk ?_ | refine kept_bbSeal ?_ ?_ | refine kept_resetBy ?_ ?_ ?_
      | refine kept_foldl (fun _ _ _ => ?_) ?_ | split

theorem kept_spoiltDone {s0 : State} {s : State} {cls : Nat} {tile : Nat} {fid : Nat} {n : Nat} (h0 : Kept W s0 s)
    : Kept W s0 (State.spoiltDone s cls tile fid n) := by
  unfold State.spoiltDone
  try dsimp only
  with_reducible
    repeat' first
      | assumption | refine kept_modHlt ?_ | refine kept_ite (fun _ => ?_) (fun _ => ?_) | simp only [kept_mk]

theorem kept_ltcIn {s0 : State} {s : State} {tc : Nat} {ub : Nat} {df : Bool} {period : Nat} (h0 : Kept W s0 s)
    : Kept W s0 (State.ltcIn s tc ub df period) := by
  unfold State.ltcIn
  try dsimp only
  with_reducible
    repeat' first
      | assumption | refine kept_wr ?_ | refine kept_wr64 ?_ | refine kept_put ?_ | refine kept_modTime ?_ | refine kept_ev ?_
      | refine kept_ite (fun _ => ?_) (fun _ => ?_)

theorem kept_reachEdge {s0 : State} {s : State} {c : Sys2Proof.Machine.GenCfg} {g : Sys2Proof.Machine.Gen} (h0 : Kept W s0 s)
    : Kept W s0 (State.reachEdge s c g) := by
  unfold State.reachEdge
  try dsimp only
  with_reducible
    repeat' first
      | assumption | refine kept_reach ?_ | refine kept_foldl (fun _ _ _ => ?_) ?_ | split

theorem kept_sgKeep {s0 : State} {s : State} {g : Nat} {t : Nat} {w : Nat} (h0 : Kept W s0 s) : Kept W s0 (State.sgKeep s g t w) := by
  unfold State.sgKeep
  try dsimp only
  with_reducible
    repeat' first
      | assumption | refine kept_modSg ?_ | refine kept_sgMissed ?_ | refine kept_ite (fun _ => ?_) (fun _ => ?_)

theorem kept_execSgEdge {s0 : State} {g : Nat} {s : State} (h1 : Kept W s0 s) : KeptR W s0 (execSgEdge g s) := by
  unfold execSgEdge
  try dsimp only
  with_reducible
    repeat' first
      | assumption | refine kept_reachEdge ?_ | refine kept_modSg ?_ | refine kept_evLimited ?_ | refine kept_sgKeep ?_
      | refine kept_driveLine ?_ | refine keptR_next ?_ | refine kept_foldl (fun _ _ _ => ?_) ?_ | split

theorem kept_execLtcInFrame {s0 : State} {tc : Nat} {ub : Nat} {df : Bool} {period : Nat} {s : State} (h4 : Kept W s0 s)
    : KeptR W s0 (execLtcInFrame tc ub df period s) := by
  unfold execLtcInFrame
  try dsimp only
  with_reducible
    repeat' first
      | assumption | refine kept_ltcIn ?_ | refine keptR_next ?_

theorem kept_mirrorRead {s0 : State} {s : State} {off : Nat} {size : Nat} (h0 : Kept W s0 s) : Kept W s0 (State.mirrorRead s off size) := by
  unfold State.mirrorRead
  try dsimp only
  with_reducible
    repeat' first
      | assumption | refine kept_emit ?_ | refine kept_ite (fun _ => ?_) (fun _ => ?_) | simp only [kept_mk]

theorem kept_execSemOrphanClear {s0 : State} {n : Nat} {rq : Nat} {s : State} (h2 : Kept W s0 s) : KeptR W s0 (execSemOrphanClear n rq s) := by
  unfold execSemOrphanClear
  try dsimp only
  with_reducible
    repeat' first
      | assumption | refine kept_onUnit ?_ (fun _ _ => ?_) | refine kept_put ?_ | refine keptR_next ?_
      | refine keptR_ite (fun _ => ?_) (fun _ => ?_) | refine kept_ite (fun _ => ?_) (fun _ => ?_)

theorem kept_takeStop {s0 : State} {s : State} {id : Nat} (h0 : Kept W s0 s) (w_ohost : W.ohost = true) : Kept W s0 (State.takeStop s id)
    := by
  unfold State.takeStop
  try dsimp only
  with_reducible
    repeat' first
      | assumption | refine kept_recPacket ?_ (fun _ => ?_) | refine kept_setResult ?_ | refine kept_modTake ?_
      | refine kept_endTake ?_ ?_ | refine kept_modRec ?_ | refine kept_recCommit ?_ ?_ | refine kept_foldl (fun _ _ _ => ?_) ?_ | split

theorem kept_execTakeStop {s0 : State} {id : Nat} {s : State} (h1 : Kept W s0 s) (w_ohost : W.ohost = true)
    : KeptR W s0 (execTakeStop id s) := by
  unfold execTakeStop
  try dsimp only
  with_reducible
    repeat' first
      | assumption | refine kept_takeStop ?_ ?_ | refine keptR_next ?_

theorem kept_execTimeCapture {s0 : State} {v : Nat} {s : State} (h1 : Kept W s0 s) : KeptR W s0 (execTimeCapture v s) := by
  unfold execTimeCapture
  try dsimp only
  with_reducible
    repeat' first
      | assumption | refine kept_onUnit ?_ (fun _ _ => ?_) | refine kept_timeCap ?_ | refine keptR_next ?_
      | refine keptR_ite (fun _ => ?_) (fun _ => ?_) | refine kept_ite (fun _ => ?_) (fun _ => ?_)

theorem kept_execSkyAck {s0 : State} {m : Sys2Proof.SkyMsg} {s : State} (h1 : Kept W s0 s) : KeptR W s0 (execSkyAck m s) := by
  unfold execSkyAck
  try dsimp only
  with_reducible
    repeat' first
      | assumption | refine kept_skyReceive ?_ (fun _ _ _ => ?_) | refine kept_onAck ?_ | refine keptR_next ?_

theorem kept_skyChildLost {s0 : State} {s : State} {node : Nat} (h0 : Kept W s0 s) : Kept W s0 (State.skyChildLost s node) := by
  unfold State.skyChildLost
  try dsimp only
  with_reducible
    repeat' first
      | assumption | refine kept_reachClk ?_ | refine kept_skyRemove ?_ | refine kept_skySend ?_
      | refine kept_ite (fun _ => ?_) (fun _ => ?_)

theorem kept_execStandbyExit {s0 : State} {v : Nat} {s : State} (h1 : Kept W s0 s) (w_ohost : W.ohost = true)
    : KeptR W s0 (execStandbyExit v s) := by
  unfold execStandbyExit
  try dsimp only
  with_reducible
    repeat' first
      | assumption | refine kept_onUnit ?_ (fun _ _ => ?_) | refine kept_standbyWrite ?_ ?_ | refine keptR_next ?_

theorem kept_segDrained {s0 : State} {s : State} {p : Nat} {k : Nat} (h0 : Kept W s0 s) : Kept W s0 (State.segDrained s p k) := by
  unfold State.segDrained
  try dsimp only
  with_reducible
    repeat' first
      | assumption | refine kept_modCap ?_ | refine kept_segShow ?_ | refine kept_evFrame ?_ | refine kept_segRelease ?_
      | refine kept_relDue ?_ | refine kept_ite (fun _ => ?_) (fun _ => ?_)

theorem kept_reissueLeft {s0 : State} {s : State} {p : Nat} {fid : Nat} (h0 : Kept W s0 s) : Kept W s0 (State.reissueLeft s p fid) := by
  unfold State.reissueLeft
  try dsimp only
  with_reducible
    repeat' first
      | assumption | refine kept_segDrained ?_ | refine kept_foldl (fun _ _ _ => ?_) ?_ | split

theorem kept_rcuRefuse {s0 : State} {s : State} {f : Sys2Proof.Machine.Frame} (h0 : Kept W s0 s) : Kept W s0 (State.rcuRefuse s f) := by
  unfold State.rcuRefuse
  try dsimp only
  with_reducible
    repeat' first
      | assumption | refine kept_recLost ?_ | refine kept_modFrame ?_ | refine kept_reissueLeft ?_
      | refine kept_foldl (fun _ _ _ => ?_) ?_ | split

theorem kept_execVblankLatch {s0 : State} {s : State} (h0 : Kept W s0 s) (w_hbm : W.hbm = true) : KeptR W s0 (execVblankLatch s) := by
  unfold execVblankLatch
  try dsimp only
  with_reducible
    repeat' first
      | assumption | refine kept_vblank ?_ ?_ | refine keptR_next ?_ | refine keptR_ite (fun _ => ?_) (fun _ => ?_)
      | refine kept_ite (fun _ => ?_) (fun _ => ?_)

theorem kept_sdiFrame {s0 : State} {s : State} {i : Nat} {f : Sys2Proof.SdiFrame} (h0 : Kept W s0 s) (w_hbm : W.hbm = true)
    : Kept W s0 (State.sdiFrame s i f) := by
  unfold State.sdiFrame
  try dsimp only
  with_reducible
    repeat' first
      | assumption | refine kept_inc ?_ | refine kept_put ?_ | refine kept_slotReused ?_ | refine kept_fresh ?_
      | refine kept_hbmWrite ?_ ?_ | refine kept_ite (fun _ => ?_) (fun _ => ?_) | simp only [kept_mk]
      | refine kept_foldl (fun _ _ _ => ?_) ?_ | split

theorem kept_zstHostOff {s0 : State} {s : State} (h0 : Kept W s0 s) : Kept W s0 (State.zstHostOff s) := by
  unfold State.zstHostOff
  try dsimp only
  with_reducible
    repeat' first
      | assumption | refine kept_wr ?_ | refine kept_put ?_ | refine kept_ite (fun _ => ?_) (fun _ => ?_) | simp only [kept_mk]
      | refine kept_foldl (fun _ _ _ => ?_) ?_

theorem kept_stsFrame {s0 : State} {s : State} {f : Sys2Proof.Machine.Frame} (h0 : Kept W s0 s) (w_hbm : W.hbm = true)
    : Kept W s0 (State.stsFrame s f) := by
  unfold State.stsFrame
  try dsimp only
  with_reducible
    repeat' first
      | assumption | refine kept_put ?_ | refine kept_evLimited ?_ | refine kept_inc ?_ | refine kept_hbmWrite ?_ ?_ | refine kept_wr64 ?_
      | refine kept_wr ?_ | refine kept_modFrame ?_ | refine kept_evFrame ?_ | refine kept_foldl (fun _ _ _ => ?_) ?_ | split

theorem kept_publishResults {s0 : State} {s : State} {f : Frame} {u : FlowUnit} (h : Kept W s0 s)
    : Kept W s0 (State.publishResults s f u) := by
  unfold State.publishResults
  extract_lets s1
  have h1 : Kept W s0 s1 := kept_mk_regs h fun h => regs_foldl_rising (fun _ _ hm => rising_setAt hm) h
  exact kept_ite (fun _ => kept_foldl (fun _ _ ht => kept_ite (fun _ => kept_put ht) (fun _ => ht)) h1) (fun _ => h1)

theorem kept_heldIssue {s0 : State} {s : State} (h0 : Kept W s0 s) (w_hbm : W.hbm = true) (w_lut : W.lut = true)
    : Kept W s0 (State.heldIssue s) := by
  unfold State.heldIssue
  try dsimp only
  with_reducible
    repeat' first
      | assumption | refine kept_idleIssue ?_ ?_ ?_ | refine kept_ite (fun _ => ?_) (fun _ => ?_)

theorem kept_frameLeaves {s0 : State} {s : State} {u : Sys2Proof.FlowUnit} {p : Nat} {fid : Nat} (h0 : Kept W s0 s) (w_hbm : W.hbm = true)
    (w_lut : W.lut = true) : Kept W s0 (State.frameLeaves s u p fid) := by
  unfold State.frameLeaves
  try dsimp only
  with_reducible
    repeat' first
      | assumption | refine kept_stsFrame ?_ ?_ | refine kept_trace ?_ | refine kept_publishResults ?_ | refine kept_reissueLeft ?_
      | refine kept_modFrame ?_ | refine kept_heldIssue ?_ ?_ ?_ | refine kept_settle ?_ | refine kept_ite (fun _ => ?_) (fun _ => ?_)
      | simp only [kept_mk] | refine kept_foldl (fun _ _ _ => ?_) ?_ | split

theorem kept_execRefreshTick {s0 : State} {s : State} (h0 : Kept W s0 s) : KeptR W s0 (execRefreshTick s) := by
  unfold execRefreshTick
  try dsimp only
  with_reducible
    repeat' first
      | assumption | refine kept_refreshTick ?_ | refine keptR_next ?_

theorem kept_railStep {s0 : State} {s : State} {r : Nat} (h0 : Kept W s0 s) : Kept W s0 (State.railStep s r) := by
  unfold State.railStep
  try dsimp only
  with_reducible
    repeat' first
      | assumption | refine kept_railSend ?_ | refine kept_ite (fun _ => ?_) (fun _ => ?_)

theorem kept_lineBlock {s0 : State} {s : State} {l : Nat} {sync : Nat} {payload : Nat} (h0 : Kept W s0 s) (w_hbm : W.hbm = true)
    : Kept W s0 (State.lineBlock s l sync payload) := by
  unfold State.lineBlock
  try dsimp only
  with_reducible
    repeat' first
      | assumption | refine kept_modLane ?_ | refine kept_gustFeed ?_ | refine kept_laneErr ?_ | refine kept_blockLock ?_
      | refine kept_alignMiss ?_ ?_ | refine kept_laneFall ?_ ?_ | refine kept_pumpAll ?_ | refine kept_ite (fun _ => ?_) (fun _ => ?_)
      | simp only [kept_mk] | refine kept_foldl (fun _ _ _ => ?_) ?_ | split

theorem kept_slkBlock {s0 : State} {s : State} {l : Nat} {sync : Nat} {payload : Nat} (h0 : Kept W s0 s) (w_hbm : W.hbm = true)
    : Kept W s0 (State.slkBlock s l sync payload) := by
  unfold State.slkBlock
  try dsimp only
  with_reducible
    repeat' first
      | assumption | refine kept_alignBlock ?_ ?_ | refine kept_lineBlock ?_ ?_ | refine kept_ite (fun _ => ?_) (fun _ => ?_)

theorem kept_ptpRx {s0 : State} {s : State} {p : Nat} {b : Sys2Proof.Bytes} (h0 : Kept W s0 s) (w_host : W.host = true)
    : Kept W s0 (State.ptpRx s p b) := by
  unfold State.ptpRx
  try dsimp only
  with_reducible
    repeat' first
      | assumption | refine kept_inc ?_ | refine kept_hostWrite ?_ ?_ | refine kept_wr ?_ | refine kept_ev ?_
      | refine kept_foldl (fun _ _ _ => ?_) ?_ | split

theorem kept_usbIn {s0 : State} {s : State} (h0 : Kept W s0 s) : Kept W s0 (State.usbIn s) := by
  unfold State.usbIn
  try dsimp only
  with_reducible
    repeat' first
      | assumption | refine kept_usbAnswer ?_ | refine kept_emit ?_ | refine kept_modLsp ?_ | refine kept_wr ?_
      | refine kept_foldl (fun _ _ _ => ?_) ?_ | split

theorem kept_execUsbInPacket {s0 : State} {s : State} (h0 : Kept W s0 s) : KeptR W s0 (execUsbInPacket s) := by
  unfold execUsbInPacket
  try dsimp only
  with_reducible
    repeat' first
      | assumption | refine kept_usbIn ?_ | refine keptR_next ?_

theorem kept_audBegin {s0 : State} {s : State} {n : Nat} (h0 : Kept W s0 s) : Kept W s0 (State.audBegin s n) := by
  unfold State.audBegin
  try dsimp only
  with_reducible
    repeat' first
      | assumption | refine kept_modPort ?_ | refine kept_put ?_ | refine kept_startLess ?_ | refine kept_ite (fun _ => ?_) (fun _ => ?_)

theorem kept_skyStands {s0 : State} {s : State} {gen : Nat} {epoch : Nat} {time : Nat} {root : Bool} (h0 : Kept W s0 s)
    : Kept W s0 (State.skyStands s gen epoch time root) := by
  unfold State.skyStands
  try dsimp only
  with_reducible
    repeat' first
      | assumption | refine kept_skyHold ?_ | refine kept_skyAbort ?_ | refine kept_foldl (fun _ _ _ => ?_) ?_ | split

theorem kept_skyTimer {s0 : State} {s : State} (h0 : Kept W s0 s) : Kept W s0 (State.skyTimer s) := by
  unfold State.skyTimer
  try dsimp only
  with_reducible
    repeat' first
      | assumption | refine kept_skyAnnounce ?_ | refine kept_reachClk ?_ | refine kept_skyStands ?_
      | refine kept_ite (fun _ => ?_) (fun _ => ?_)

theorem kept_execAnnounceTimer {s0 : State} {s : State} (h0 : Kept W s0 s) : KeptR W s0 (execAnnounceTimer s) := by
  unfold execAnnounceTimer
  try dsimp only
  with_reducible
    repeat' first
      | assumption | refine kept_skyNext ?_ | refine kept_skyTimer ?_ | refine keptR_next ?_

theorem kept_squallSync {s0 : State} {s : State} {d : Nat} (h0 : Kept W s0 s) : Kept W s0 (State.squallSync s d) := by
  unfold State.squallSync
  try dsimp only
  with_reducible
    repeat' first
      | assumption | refine kept_modDest ?_ | refine kept_put ?_ | refine kept_ev ?_ | refine kept_ite (fun _ => ?_) (fun _ => ?_)

theorem kept_traceRelax {s0 : State} {s : State} {d : Nat} (h0 : Kept W s0 s) : Kept W s0 (State.traceRelax s d) := by
  unfold State.traceRelax
  try dsimp only
  with_reducible
    repeat' first
      | assumption | refine kept_reachClk ?_ | refine kept_modDest ?_ | refine kept_squallSync ?_ | refine kept_put ?_
      | refine kept_ite (fun _ => ?_) (fun _ => ?_)

theorem kept_execTraceSamplingRelax {s0 : State} {d : Nat} {s : State} (h1 : Kept W s0 s) : KeptR W s0 (execTraceSamplingRelax d s) := by
  unfold execTraceSamplingRelax
  try dsimp only
  with_reducible
    repeat' first
      | assumption | refine kept_traceRelax ?_ | refine keptR_next ?_ | refine keptR_ite (fun _ => ?_) (fun _ => ?_)
      | refine kept_ite (fun _ => ?_) (fun _ => ?_)

theorem kept_csiCrc {s0 : State} {s : State} {c : Nat} {n : Nat} {ok : Bool} (h0 : Kept W s0 s) : Kept W s0 (State.csiCrc s c n ok) := by
  unfold State.csiCrc
  try dsimp only
  with_reducible
    repeat' first
      | assumption | refine kept_inc ?_ | refine kept_flagOpen ?_ | refine kept_csiErr ?_ | refine kept_put ?_
      | refine kept_ite (fun _ => ?_) (fun _ => ?_)

theorem kept_execBbSeal {s0 : State} {s : State} (h0 : Kept W s0 s) (w_mram : W.mram = true) : KeptR W s0 (execBbSeal s) := by
  unfold execBbSeal
  try dsimp only
  with_reducible
    repeat' first
      | assumption | refine kept_onUnit ?_ (fun _ _ => ?_) | refine kept_bbSeal ?_ ?_ | refine keptR_next ?_
      | refine keptR_ite (fun _ => ?_) (fun _ => ?_) | refine kept_ite (fun _ => ?_) (fun _ => ?_)

theorem kept_vcrit {s0 : State} {s : State} {mv : Nat} (h0 : Kept W s0 s) (w_hbm : W.hbm = true) (w_lut : W.lut = true)
    : Kept W s0 (State.vcrit s mv) := by
  unfold State.vcrit
  try dsimp only
  with_reducible
    repeat' first
      | assumption | refine kept_put ?_ | refine kept_vsense ?_ | refine kept_resetBy ?_ ?_ ?_
      | refine kept_ite (fun _ => ?_) (fun _ => ?_)

theorem kept_execVcritCrossing {s0 : State} {mv : Nat} {s : State} (h1 : Kept W s0 s) (w_hbm : W.hbm = true) (w_lut : W.lut = true)
    : KeptR W s0 (execVcritCrossing mv s) := by
  unfold execVcritCrossing
  try dsimp only
  with_reducible
    repeat' first
      | assumption | refine kept_vcrit ?_ ?_ ?_ | refine keptR_next ?_

theorem kept_dsiErr {s0 : State} {s : State} {d : Nat} {cause : Nat} {report : Nat} (h0 : Kept W s0 s)
    : Kept W s0 (State.dsiErr s d cause report) := by
  unfold State.dsiErr
  try dsimp only
  with_reducible
    repeat' first
      | assumption | refine kept_evLimited ?_

theorem kept_execTeLost {s0 : State} {d : Nat} {s : State} (h1 : Kept W s0 s) : KeptR W s0 (execTeLost d s) := by
  unfold execTeLost
  try dsimp only
  with_reducible
    repeat' first
      | assumption | refine kept_dsiErr ?_ | refine kept_put ?_ | refine kept_dsiStart ?_ | refine kept_modDsi ?_ | refine keptR_next ?_
      | refine keptR_ite (fun _ => ?_) (fun _ => ?_)

theorem kept_promote {s0 : State} {s : State} {arb : Nat} {id : Nat} {cls : Nat} (h0 : Kept W s0 s) : Kept W s0 (State.promote s arb id cls) := by
  unfold State.promote
  try dsimp only
  with_reducible
    repeat' first
      | assumption | refine kept_reachClk ?_ | refine kept_inc ?_ | refine kept_trace ?_ | refine kept_promoDone ?_
      | refine kept_ite (fun _ => ?_) (fun _ => ?_) | simp only [kept_mk] | refine kept_foldl (fun _ _ _ => ?_) ?_ | split

theorem kept_execUpdraftPromotion {s0 : State} {arb : Nat} {id : Nat} {cls : Nat} {s : State} (h3 : Kept W s0 s)
    : KeptR W s0 (execUpdraftPromotion arb id s cls) := by
  unfold execUpdraftPromotion
  try dsimp only
  with_reducible
    repeat' first
      | assumption | refine kept_promote ?_ | refine keptR_next ?_

theorem kept_tileMap {s0 : State} {s : State} {p : Nat} {e : Nat} {tile : Nat} {lo : Nat} {hi : Nat} (h0 : Kept W s0 s)
    : Kept W s0 (State.tileMap s p e tile lo hi).1 := by
  unfold State.tileMap
  try dsimp only
  with_reducible
    repeat' first
      | assumption | refine kept_fst_ite (fun _ => ?_) (fun _ => ?_) | refine kept_ite (fun _ => ?_) (fun _ => ?_) | simp only [kept_mk]
      | refine kept_foldl (fun _ _ _ => ?_) ?_ | split

theorem kept_rctFrame {s0 : State} {s : State} {tile : Nat} {run : Nat} {fid : Nat} (h0 : Kept W s0 s) (w_hbm : W.hbm = true)
    : Kept W s0 (State.rctFrame s tile run fid) := by
  unfold State.rctFrame
  try dsimp only
  with_reducible
    repeat' first
      | assumption | refine kept_rctEnter ?_ ?_ | refine kept_tileMap ?_ | refine kept_spoiltDone ?_ | refine kept_rctCalib ?_
      | refine kept_modFrame ?_ | refine kept_showBusy ?_ | refine kept_evLimited ?_ | refine kept_foldl (fun _ _ _ => ?_) ?_ | split

theorem kept_rcuEnter {s0 : State} {s : State} {f : Sys2Proof.Machine.Frame} (h0 : Kept W s0 s) : Kept W s0 (State.rcuEnter s f) := by
  unfold State.rcuEnter
  try dsimp only
  with_reducible
    repeat' first
      | assumption | refine kept_enterUnit ?_ | refine kept_rcuRefuse ?_ | refine kept_ite (fun _ => ?_) (fun _ => ?_)

theorem kept_takeFrame {s0 : State} {s : State} {t : Sys2Proof.Machine.LiveTake} {f : Sys2Proof.Machine.Frame} {fsw : Nat} {cert : Nat}
    {b : Sys2Proof.Bytes} (h0 : Kept W s0 s) (w_ohost : W.ohost = true) : Kept W s0 (State.takeFrame s t f fsw cert b) := by
  unfold State.takeFrame
  try dsimp only
  with_reducible
    repeat' first
      | assumption | refine kept_addChunk ?_ ?_ | refine kept_bufFree ?_ | refine kept_modEntry ?_ | refine kept_modTake ?_
      | refine kept_modPipe ?_ | refine kept_ite (fun _ => ?_) (fun _ => ?_)

theorem kept_recFrame {s0 : State} {s : State} {f : Sys2Proof.Machine.Frame} {fsw : Nat} {cert : Nat} {b : Sys2Proof.Bytes}
    (h0 : Kept W s0 s) (w_ohost : W.ohost = true) : Kept W s0 (State.recFrame s f fsw cert b) := by
  unfold State.recFrame
  try dsimp only
  with_reducible
    repeat' first
      | assumption | refine kept_bufFree ?_ | refine kept_endTake ?_ ?_ | refine kept_takeFrame ?_ ?_
      | refine kept_ite (fun _ => ?_) (fun _ => ?_) | simp only [kept_mk] | refine kept_foldl (fun _ _ _ => ?_) ?_ | split

theorem kept_rcuDone {s0 : State} {s : State} {p : Nat} {fid : Nat} (h0 : Kept W s0 s) (w_hbm : W.hbm = true) (w_ohost : W.ohost = true)
    : Kept W s0 (State.rcuDone s p fid) := by
  unfold State.rcuDone
  try dsimp only
  with_reducible
    repeat' first
      | assumption | refine kept_bufPut ?_ ?_ | refine kept_modFrame ?_ | refine kept_recFrame ?_ ?_
      | refine kept_foldl (fun _ _ _ => ?_) ?_ | split

theorem kept_rcuFrame {s0 : State} {s : State} {tile : Nat} {run : Nat} {fid : Nat} (h0 : Kept W s0 s) (w_hbm : W.hbm = true)
    (w_ohost : W.ohost = true) : Kept W s0 (State.rcuFrame s tile run fid) := by
  unfold State.rcuFrame
  try dsimp only
  with_reducible
    repeat' first
      | assumption | refine kept_rcuEnter ?_ | refine kept_spoiltDone ?_ | refine kept_modFrame ?_ | refine kept_showBusy ?_
      | refine kept_inc ?_ | refine kept_evLimited ?_ | refine kept_rcuDone ?_ ?_ ?_ | refine kept_foldl (fun _ _ _ => ?_) ?_ | split

theorem kept_dvtFrame {s0 : State} {s : State} {tile : Nat} {run : Nat} {fid : Nat} (h0 : Kept W s0 s) (w_hbm : W.hbm = true)
    : Kept W s0 (State.dvtFrame s tile run fid) := by
  unfold State.dvtFrame
  try dsimp only
  with_reducible
    repeat' first
      | assumption | refine kept_dvtEnter ?_ | refine kept_hbmWrite ?_ ?_ | refine kept_spoiltDone ?_ | refine kept_dvtTnrErr ?_
      | refine kept_modFrame ?_ | refine kept_showBusy ?_ | refine kept_ite (fun _ => ?_) (fun _ => ?_) | simp only [kept_mk]
      | refine kept_foldl (fun _ _ _ => ?_) ?_ | split

theorem kept_runTile {s0 : State} {s : State} {cls : Nat} {tile : Nat} {run : Nat} {fid : Nat} (h0 : Kept W s0 s) (w_hbm : W.hbm = true)
    (w_ohost : W.ohost = true) : Kept W s0 (State.runTile s cls tile run fid) := by
  unfold State.runTile
  try dsimp only
  with_reducible
    repeat' first
      | assumption | refine kept_rctFrame ?_ ?_ | refine kept_rcuFrame ?_ ?_ ?_ | refine kept_dvtFrame ?_ ?_
      | refine kept_foldl (fun _ _ _ => ?_) ?_ | split

theorem kept_evqSignal {s0 : State} {s : State} {q : Nat} (h0 : Kept W s0 s) : Kept W s0 (State.evqSignal s q) := by
  unfold State.evqSignal
  try dsimp only
  with_reducible
    repeat' first
      | assumption | refine kept_signal ?_ | refine kept_modDest ?_

theorem kept_evqPut {s0 : State} {s : State} {q : Nat} {r : Sys2Proof.Machine.Rec} (h0 : Kept W s0 s) (w_host : W.host = true)
    : Kept W s0 (State.evqPut s q r) := by
  unfold State.evqPut
  try dsimp only
  with_reducible
    repeat' first
      | assumption | refine kept_hostWrite ?_ ?_ | refine kept_wr ?_ | refine kept_modDest ?_ | refine kept_evqSignal ?_
      | refine kept_evqSync ?_ | refine kept_ite (fun _ => ?_) (fun _ => ?_)

theorem kept_ringPut {s0 : State} {s : State} {r : Sys2Proof.Machine.Rec} (h0 : Kept W s0 s) (w_hbm : W.hbm = true)
    : Kept W s0 (State.ringPut s r) := by
  unfold State.ringPut
  try dsimp only
  with_reducible
    repeat' first
      | assumption | refine kept_wr ?_ | refine kept_hbmWrite ?_ ?_

theorem kept_destPut {s0 : State} {s : State} {d : Nat} {r : Sys2Proof.Machine.Rec} (h0 : Kept W s0 s) (w_hbm : W.hbm = true)
    (w_host : W.host = true) : Kept W s0 (State.destPut s d r) := by
  unfold State.destPut
  try dsimp only
  with_reducible
    repeat' first
      | assumption | refine kept_evqPut ?_ ?_ | refine kept_ringPut ?_ ?_ | refine kept_modDest ?_
      | refine kept_ite (fun _ => ?_) (fun _ => ?_)

theorem kept_destFlush {s0 : State} {s : State} {d : Nat} {x2 : Nat} (h0 : Kept W s0 s) (w_hbm : W.hbm = true) (w_host : W.host = true)
    : Kept W s0 (State.destFlush s d x2) := by
  induction x2 generalizing s d with
  | zero =>
    unfold State.destFlush
    try dsimp only
    repeat' first
      | with_reducible assumption
  | succ n ih =>
    unfold State.destFlush
    try dsimp only
    repeat' first
      | with_reducible assumption | with_reducible apply ih | with_reducible refine kept_squallSync ?_
      | with_reducible refine kept_destPut ?_ ?_ ?_ | with_reducible refine kept_modDest ?_
      | with_reducible refine kept_ite (fun _ => ?_) (fun _ => ?_) | with_reducible refine keptR_ite (fun _ => ?_) (fun _ => ?_)
      | with_reducible refine kept_fst_ite (fun _ => ?_) (fun _ => ?_) | with_reducible refine kept_id ?_ | simp only [kept_mk]
      | with_reducible refine kept_foldl (fun _ _ _ => ?_) ?_ | with_reducible refine kept_fst_foldl (fun _ _ _ => ?_) ?_
      | with_reducible refine keptR_next ?_ | with_reducible exact keptR_fault | with_reducible exact keptR_refused
      | with_reducible refine keptO_some ?_ | with_reducible exact keptO_none | with_reducible exact fun h => h
      | with_reducible exact fun h => Mem.write_wf h | with_reducible exact fun h => Mem.zero_wf h
      | with_reducible exact fun h => Mem.set_wf h | with_reducible exact fun h => Mem.filter_wf h
      | with_reducible exact fun h => rising_filter h | with_reducible exact fun h => RegFile.wr_rising h
      | with_reducible exact fun h => RegFile.put_rising h | with_reducible exact fun h => judgeSet_rising h
      | with_reducible exact fun _ => rfl | exact fun _ => Mem.nil_wf | split

theorem kept_flushAll {s0 : State} {s : State} {d : Nat} (h0 : Kept W s0 s) (w_hbm : W.hbm = true) (w_host : W.host = true)
    : Kept W s0 (State.flushAll s d) := by
  unfold State.flushAll
  try dsimp only
  with_reducible
    repeat' first
      | assumption | refine kept_destFlush ?_ ?_ ?_

theorem kept_destHold {s0 : State} {s : State} {d : Nat} {r : Sys2Proof.Machine.Rec} (h0 : Kept W s0 s) : Kept W s0 (State.destHold s d r)
    := by
  unfold State.destHold
  try dsimp only
  with_reducible
    repeat' first
      | assumption | refine kept_modDest ?_ | refine kept_inc ?_ | refine kept_signal ?_ | refine kept_squallSync ?_
      | refine kept_foldl (fun _ _ _ => ?_) ?_ | split

theorem kept_deliver {s0 : State} {s : State} {r : Sys2Proof.Machine.Rec} {d : Nat} (h0 : Kept W s0 s) (w_hbm : W.hbm = true)
    (w_host : W.host = true) : Kept W s0 (State.deliver s r d) := by
  unfold State.deliver
  try dsimp only
  with_reducible
    repeat' first
      | assumption | refine kept_flushAll ?_ ?_ ?_ | refine kept_destHold ?_ | refine kept_destPut ?_ ?_ ?_
      | refine kept_ite (fun _ => ?_) (fun _ => ?_)

theorem kept_panicUp {s0 : State} {s : State} {client : Nat} {margin : Nat} (h0 : Kept W s0 s) : Kept W s0 (State.panicUp s client margin) := by
  unfold State.panicUp
  try dsimp only
  with_reducible
    repeat' first
      | assumption | refine kept_inc ?_ | refine kept_modHbm ?_ | refine kept_evLimited ?_ | refine kept_trace ?_
      | refine kept_ite (fun _ => ?_) (fun _ => ?_)

theorem kept_smbNak {s0 : State} {s : State} (h0 : Kept W s0 s) : Kept W s0 (State.smbNak s) := by
  unfold State.smbNak
  try dsimp only
  with_reducible
    repeat' first
      | assumption | refine kept_inc ?_ | refine kept_put ?_

theorem kept_smbusRead {s0 : State} {s : State} {addr : Nat} {cmd : Option Nat} {n : Nat} (h0 : Kept W s0 s)
    : Kept W s0 (State.smbusRead s addr cmd n) := by
  unfold State.smbusRead
  try dsimp only
  with_reducible
    repeat' first
      | assumption | refine kept_smbNak ?_ | refine kept_emit ?_ | refine kept_inc ?_ | refine kept_foldl (fun _ _ _ => ?_) ?_ | split

theorem kept_execSmbusRead {s0 : State} {addr : Nat} {cmd : Option Nat} {n : Nat} {s : State} (h3 : Kept W s0 s)
    : KeptR W s0 (execSmbusRead addr cmd n s) := by
  unfold execSmbusRead
  try dsimp only
  with_reducible
    repeat' first
      | assumption | refine kept_smbusRead ?_ | refine keptR_next ?_

theorem kept_ckptFence {s0 : State} {s : State} (h0 : Kept W s0 s) (w_ohost : W.ohost = true) : Kept W s0 (State.ckptFence s) := by
  unfold State.ckptFence
  try dsimp only
  with_reducible
    repeat' first
      | assumption | refine kept_modRec ?_ | refine kept_issue ?_ | refine kept_modVol ?_ | refine kept_wakeWaiters ?_ ?_
      | refine kept_foldl (fun _ _ _ => ?_) ?_ | split

theorem kept_usbDeviceDescriptor {s0 : State} {s : State} (h0 : Kept W s0 s) : Kept W s0 (State.usbDeviceDescriptor s).2 := by
  unfold State.usbDeviceDescriptor
  try dsimp only
  with_reducible
    repeat' first
      | assumption | refine kept_freeBytes ?_

theorem kept_oflShn {s0 : State} {s : State} {shn : Nat} (h0 : Kept W s0 s) : Kept W s0 (State.oflShn s shn) := by
  unfold State.oflShn
  try dsimp only
  with_reducible
    repeat' first
      | assumption | refine kept_oflShutdown ?_ | refine kept_modOfl ?_ (fun _ => ?_) | refine kept_ite (fun _ => ?_) (fun _ => ?_)
      | refine keptR_ite (fun _ => ?_) (fun _ => ?_) | refine kept_fst_ite (fun _ => ?_) (fun _ => ?_) | refine kept_id ?_
      | simp only [kept_mk] | refine kept_foldl (fun _ _ _ => ?_) ?_ | refine kept_fst_foldl (fun _ _ _ => ?_) ?_ | refine keptR_next ?_
      | exact keptR_fault | exact keptR_refused | refine keptO_some ?_ | exact keptO_none | exact fun h => h

theorem kept_execControllerShutdown {s0 : State} {shn : Nat} {s : State} (h1 : Kept W s0 s) : KeptR W s0 (execControllerShutdown shn s) := by
  unfold execControllerShutdown
  try dsimp only
  with_reducible
    repeat' first
      | assumption | refine kept_oflShn ?_ | refine keptR_next ?_

theorem kept_dsiCmdEnd {s0 : State} {s : State} {d : Nat} (h0 : Kept W s0 s) : Kept W s0 (State.dsiCmdEnd s d) := by
  unfold State.dsiCmdEnd
  try dsimp only
  with_reducible
    repeat' first
      | assumption | refine kept_modDsi ?_ | refine kept_put ?_ | refine kept_dsiBusy ?_ | refine kept_dsiStart ?_
      | refine kept_ite (fun _ => ?_) (fun _ => ?_)

theorem kept_execDsiResponseTimeout {s0 : State} {d : Nat} {s : State} (h1 : Kept W s0 s) : KeptR W s0 (execDsiResponseTimeout d s) := by
  unfold execDsiResponseTimeout
  try dsimp only
  with_reducible
    repeat' first
      | assumption | refine kept_dsiCmdEnd ?_ | refine kept_dsiErr ?_ | refine kept_put ?_ | refine keptR_next ?_
      | refine keptR_ite (fun _ => ?_) (fun _ => ?_)

theorem kept_volumeOpened {s0 : State} {s : State} {v : Sys2Proof.Machine.Volume} (h0 : Kept W s0 s) (w_ohost : W.ohost = true)
    : Kept W s0 (State.volumeOpened s v) := by
  unfold State.volumeOpened
  try dsimp only
  with_reducible
    repeat' first
      | assumption | refine kept_modRec ?_ | refine kept_modOfl ?_ (fun _ => ?_) | refine kept_put ?_ | refine kept_recShow ?_ ?_
      | refine kept_ite (fun _ => ?_) (fun _ => ?_) | refine keptR_ite (fun _ => ?_) (fun _ => ?_)
      | refine kept_fst_ite (fun _ => ?_) (fun _ => ?_) | refine kept_id ?_ | simp only [kept_mk] | refine kept_foldl (fun _ _ _ => ?_) ?_
      | refine kept_fst_foldl (fun _ _ _ => ?_) ?_ | refine keptR_next ?_ | exact keptR_fault | exact keptR_refused | refine keptO_some ?_
      | exact keptO_none | exact fun h => h

theorem kept_mediaOpen {s0 : State} {s : State} {id : Nat} (h0 : Kept W s0 s) (w_ohost : W.ohost = true) : Kept W s0 (State.mediaOpen s id)
    := by
  unfold State.mediaOpen
  try dsimp only
  with_reducible
    repeat' first
      | assumption | refine kept_recPacket ?_ (fun _ => ?_) | refine kept_setResult ?_ | refine kept_volumeOpened ?_ ?_
      | refine kept_ite (fun _ => ?_) (fun _ => ?_) | refine keptR_ite (fun _ => ?_) (fun _ => ?_)
      | refine kept_fst_ite (fun _ => ?_) (fun _ => ?_) | refine kept_id ?_ | simp only [kept_mk] | refine kept_foldl (fun _ _ _ => ?_) ?_
      | refine kept_fst_foldl (fun _ _ _ => ?_) ?_ | refine keptR_next ?_ | exact keptR_fault | exact keptR_refused | refine keptO_some ?_
      | exact keptO_none | exact fun h => h | exact fun h => Mem.write_wf h | exact fun h => Mem.zero_wf h | exact fun h => Mem.set_wf h
      | exact fun h => Mem.filter_wf h | exact fun h => rising_filter h | exact fun h => RegFile.wr_rising h
      | exact fun h => RegFile.put_rising h | exact fun h => judgeSet_rising h | exact fun _ => rfl | exact fun _ => Mem.nil_wf | split

theorem kept_execMediaOpen {s0 : State} {id : Nat} {s : State} (h1 : Kept W s0 s) (w_ohost : W.ohost = true)
    : KeptR W s0 (execMediaOpen id s) := by
  unfold execMediaOpen
  try dsimp only
  with_reducible
    repeat' first
      | assumption | refine kept_mediaOpen ?_ ?_ | refine keptR_next ?_

theorem kept_uartTx {s0 : State} {s : State} {u : Nat} (h0 : Kept W s0 s) : Kept W s0 (State.uartTx s u) := by
  unfold State.uartTx
  try dsimp only
  with_reducible
    repeat' first
      | assumption | refine kept_emit ?_ | refine kept_uartLevels ?_ | refine kept_modUart ?_ | refine kept_foldl (fun _ _ _ => ?_) ?_
      | split

theorem kept_execExchangeRowWriteback {s0 : State} {row : Nat} {s : State} (h1 : Kept W s0 s) (w_media : W.media = true)
    (w_ohost : W.ohost = true) : KeptR W s0 (execExchangeRowWriteback row s) := by
  unfold execExchangeRowWriteback
  try dsimp only
  with_reducible
    repeat' first
      | assumption | refine kept_exWriteback ?_ ?_ ?_ | refine keptR_next ?_

theorem kept_standbyEntered {s0 : State} {s : State} (h : Kept W s0 s) (w_lut : W.lut = true) (w_ohost : W.ohost = true)
    : Kept W s0 (State.standbyEntered s) := by
  unfold State.standbyEntered
  refine kept_ite (fun _ => h) fun _ => ?_
  extract_lets s1 s2 s3 s4
  refine kept_ev (kept_put (kept_put (kept_clkShow ?_)))
  exact kept_mk_lut (kept_foldl (fun _ _ ht => kept_domainSet ht w_ohost) (kept_modHbm h)) w_lut fun _ => rfl

theorem kept_cmdqFree {s0 : State} {s : State} {r : Nat} {start : Nat} {len : Nat} (h0 : Kept W s0 s) (w_host : W.host = true)
    : Kept W s0 (State.cmdqFree s r start len) := by
  unfold State.cmdqFree
  try dsimp only
  with_reducible
    repeat' first
      | assumption | refine kept_cmdqLook ?_ | refine kept_cmdqZero ?_ ?_

theorem kept_execNop {s0 : State} {r : Nat} {s : State} (h1 : Kept W s0 s) (w_host : W.host = true) : KeptR W s0 (execNop r s) := by
  unfold execNop
  try dsimp only
  with_reducible
    repeat' first
      | assumption | refine kept_cmdqFree ?_ ?_ | refine kept_cmdqPass ?_ | refine keptR_next ?_ | refine kept_foldl (fun _ _ _ => ?_) ?_
      | split

theorem kept_onRec {s0 : State} {s : State} {f : State → Sys2Proof.Machine.State} (h0 : Kept W s0 s)
    (h1 : ∀ a0, Kept W s0 a0 → Kept W s0 (f a0)) : Kept W s0 (State.onRec s f) := by
  unfold State.onRec
  try dsimp only
  with_reducible
    repeat' first
      | assumption | apply h1 | refine kept_ite (fun _ => ?_) (fun _ => ?_)

theorem kept_rowIssue {s0 : State} {s : State} {p : Nat} (h0 : Kept W s0 s) : Kept W s0 (State.rowIssue s p) := by
  unfold State.rowIssue
  try dsimp only
  with_reducible
    repeat' first
      | assumption | refine kept_issueRow ?_ | refine kept_foldl (fun _ _ _ => ?_) ?_ | split

theorem kept_execRowIssue {s0 : State} {p : Nat} {s : State} (h1 : Kept W s0 s) : KeptR W s0 (execRowIssue p s) := by
  unfold execRowIssue
  try dsimp only
  with_reducible
    repeat' first
      | assumption | refine kept_onRec ?_ (fun _ _ => ?_) | refine kept_rowIssue ?_ | refine keptR_next ?_

theorem kept_execDfuManifest {s0 : State} {s : State} (h0 : Kept W s0 s) : KeptR W s0 (execDfuManifest s) := by
  unfold execDfuManifest
  try dsimp only
  with_reducible
    repeat' first
      | assumption | refine kept_dfuManifest ?_ | refine keptR_next ?_

theorem kept_execSgPulseEnd {s0 : State} {g : Nat} {s : State} (h1 : Kept W s0 s) : KeptR W s0 (execSgPulseEnd g s) := by
  unfold execSgPulseEnd
  try dsimp only
  with_reducible
    repeat' first
      | assumption | refine kept_reachClk ?_ | refine kept_driveLine ?_ | refine kept_modSg ?_ | refine keptR_next ?_
      | refine kept_foldl (fun _ _ _ => ?_) ?_ | split

theorem kept_readBytes {s0 : State} {f : State → Nat → Nat × State} {off size : Nat} {s : State}
    (hf : ∀ t o, Kept W s0 t → Kept W s0 (f t o).2)
    (h : Kept W s0 s) : Kept W s0 (readBytes f off size s).2 := by
  unfold readBytes
  split
  · exact h
  · split
    · exact hf _ _ (hf _ _ h)
    · exact hf _ _ h

theorem kept_cmdqFinish {s0 : State} {s : State} {p : Sys2Proof.Machine.Packet} {st : Nat} {data : Nat} (h0 : Kept W s0 s)
    (w_host : W.host = true) : Kept W s0 (State.cmdqFinish s p st data) := by
  unfold State.cmdqFinish
  try dsimp only
  with_reducible
    repeat' first
      | assumption | refine kept_cmdqFree ?_ ?_ | refine kept_cmdqRecord ?_ | refine kept_ite (fun _ => ?_) (fun _ => ?_)

theorem kept_execCmdqPacketComplete {s0 : State} {id : Nat} {s : State} (h1 : Kept W s0 s) (w_host : W.host = true)
    : KeptR W s0 (execCmdqPacketComplete id s) := by
  unfold execCmdqPacketComplete
  try dsimp only
  with_reducible
    repeat' first
      | assumption | refine kept_cmdqFinish ?_ ?_ | refine keptR_next ?_ | refine keptR_ite (fun _ => ?_) (fun _ => ?_)
      | refine kept_ite (fun _ => ?_) (fun _ => ?_) | simp only [kept_mk] | refine kept_foldl (fun _ _ _ => ?_) ?_ | split

theorem kept_controllerReset {s0 : State} {s : State} (h0 : Kept W s0 s) (w_ohost : W.ohost = true) : Kept W s0 (State.controllerReset s)
    := by
  unfold State.controllerReset
  try dsimp only
  with_reducible
    repeat' first
      | assumption | refine kept_oflReset ?_ ?_ | refine kept_ite (fun _ => ?_) (fun _ => ?_)

theorem kept_oflEnable {s0 : State} {s : State} {cc : Nat} (h0 : Kept W s0 s) : Kept W s0 (State.oflEnable s cc) := by
  unfold State.oflEnable
  try dsimp only
  with_reducible
    repeat' first
      | assumption | refine kept_oflShow ?_ | refine kept_modOfl ?_ (fun _ => ?_) | refine kept_ev ?_
      | refine kept_ite (fun _ => ?_) (fun _ => ?_) | refine keptR_ite (fun _ => ?_) (fun _ => ?_)
      | refine kept_fst_ite (fun _ => ?_) (fun _ => ?_) | refine kept_id ?_ | simp only [kept_mk] | refine kept_foldl (fun _ _ _ => ?_) ?_
      | refine kept_fst_foldl (fun _ _ _ => ?_) ?_ | refine keptR_next ?_ | exact keptR_fault | exact keptR_refused | refine keptO_some ?_
      | exact keptO_none | exact fun h => h

theorem kept_ccWrite {s0 : State} {s : State} {v : Nat} (h0 : Kept W s0 s) (w_ohost : W.ohost = true) : Kept W s0 (State.ccWrite s v) := by
  unfold State.ccWrite
  try dsimp only
  with_reducible
    repeat' first
      | assumption | refine kept_oflShn ?_ | refine kept_controllerReset ?_ ?_ | refine kept_oflEnable ?_ | refine kept_oflShow ?_
      | refine kept_modOfl ?_ (fun _ => ?_) | refine kept_ite (fun _ => ?_) (fun _ => ?_) | refine keptR_ite (fun _ => ?_) (fun _ => ?_)
      | refine kept_fst_ite (fun _ => ?_) (fun _ => ?_) | refine kept_id ?_ | simp only [kept_mk] | refine kept_foldl (fun _ _ _ => ?_) ?_
      | refine kept_fst_foldl (fun _ _ _ => ?_) ?_ | refine keptR_next ?_ | exact keptR_fault | exact keptR_refused | refine keptO_some ?_
      | exact keptO_none | exact fun h => h

theorem kept_scrubRead {s0 : State} {s : State} {err : Sys2Proof.EccErr} (h0 : Kept W s0 s) (w_hbm : W.hbm = true)
    : Kept W s0 (State.scrubRead s err) := by
  unfold State.scrubRead
  try dsimp only
  with_reducible
    repeat' first
      | assumption | refine kept_modHbm ?_ | refine kept_eccOutcome ?_ ?_ | refine kept_access ?_ | refine kept_foldl (fun _ _ _ => ?_) ?_
      | split

theorem kept_execScrubRead {s0 : State} {err : Sys2Proof.EccErr} {s : State} (h1 : Kept W s0 s) (w_hbm : W.hbm = true)
    : KeptR W s0 (execScrubRead err s) := by
  unfold execScrubRead
  try dsimp only
  with_reducible
    repeat' first
      | assumption | refine kept_scrubRead ?_ ?_ | refine keptR_next ?_

theorem kept_deliverTrace {s0 : State} {s : State} {r : Sys2Proof.Machine.Rec} {d : Nat} (h0 : Kept W s0 s) (w_hbm : W.hbm = true)
    (w_host : W.host = true) : Kept W s0 (State.deliverTrace s r d) := by
  unfold State.deliverTrace
  try dsimp only
  with_reducible
    repeat' first
      | assumption | refine kept_modDest ?_ | refine kept_destPut ?_ ?_ ?_ | refine kept_put ?_ | refine kept_squallSync ?_
      | refine kept_ite (fun _ => ?_) (fun _ => ?_)

end Sys2Proof.Machine
end

