-- ==== Sys2Proof/Laws/Kept5.lean ====
section
/-! SUPPORT. What each helper and each meaning keeps, part 5: one lemma per function, named after it. -/

namespace Sys2Proof.Machine

variable {W : Writes}

theorem kept_publish {s0 : State} {s : State} {r : Sys2Proof.Machine.Rec} (h0 : Kept W s0 s) (w_hbm : W.hbm = true)
    (w_host : W.host = true) : Kept W s0 (State.publish s r) := by
  unfold State.publish
  try dsimp only
  with_reducible
    repeat' first
      | assumption | refine kept_deliverTrace ?_ ?_ ?_ | refine kept_deliver ?_ ?_ ?_ | refine kept_foldl (fun _ _ _ => ?_) ?_ | split

theorem kept_publishOldest {s0 : State} {s : State} {src : Nat} (h0 : Kept W s0 s) (w_hbm : W.hbm = true) (w_host : W.host = true)
    : Kept W s0 (State.publishOldest s src) := by
  unfold State.publishOldest
  try dsimp only
  with_reducible
    repeat' first
      | assumption | refine kept_publish ?_ ?_ ?_ | refine kept_promoDone ?_ | refine kept_ite (fun _ => ?_) (fun _ => ?_)
      | simp only [kept_mk] | refine kept_foldl (fun _ _ _ => ?_) ?_ | split

theorem kept_execTxqPop {s0 : State} {p : Nat} {s : State} (h1 : Kept W s0 s) : KeptR W s0 (execTxqPop p s) := by
  unfold execTxqPop
  try dsimp only
  with_reducible
    repeat' first
      | assumption | refine kept_onUnit ?_ (fun _ _ => ?_) | refine kept_txqPop ?_ | refine keptR_next ?_
      | refine keptR_ite (fun _ => ?_) (fun _ => ?_) | refine kept_ite (fun _ => ?_) (fun _ => ?_)

theorem kept_selfTest {s0 : State} {s : State} {c : Sys2Proof.NvmeCmd} {id : Nat} (h0 : Kept W s0 s) (w_ohost : W.ohost = true)
    : Kept W s0 (State.selfTest s c id) := by
  unfold State.selfTest
  try dsimp only
  with_reducible
    repeat' first
      | assumption | refine kept_oflComplete ?_ ?_ | refine kept_testEnd ?_ | refine kept_modOfl ?_ (fun _ => ?_) | refine kept_put ?_
      | refine kept_ite (fun _ => ?_) (fun _ => ?_) | refine keptR_ite (fun _ => ?_) (fun _ => ?_)
      | refine kept_fst_ite (fun _ => ?_) (fun _ => ?_) | refine kept_id ?_ | simp only [kept_mk] | refine kept_foldl (fun _ _ _ => ?_) ?_
      | refine kept_fst_foldl (fun _ _ _ => ?_) ?_ | refine keptR_next ?_ | exact keptR_fault | exact keptR_refused | refine keptO_some ?_
      | exact keptO_none | exact fun h => h

theorem kept_execNvmeSelfTest {s0 : State} {c : Sys2Proof.NvmeCmd} {s : State} (h1 : Kept W s0 s) (w_ohost : W.ohost = true)
    : KeptR W s0 (execNvmeSelfTest c s) := by
  unfold execNvmeSelfTest
  try dsimp only
  with_reducible
    repeat' first
      | assumption | refine kept_admin ?_ (fun _ _ _ => ?_) ?_ | refine kept_selfTest ?_ ?_ | refine keptR_next ?_

theorem kept_execDrvFuseKey {s0 : State} {v : Nat} {s : State} (h1 : Kept W s0 s) : KeptR W s0 (execDrvFuseKey v s) := by
  unfold execDrvFuseKey
  try dsimp only
  with_reducible
    repeat' first
      | assumption | refine kept_drvRow (fun _ _ => ?_) ?_ | refine kept_drvStart ?_ (fun _ _ => ?_)
      | refine kept_ite (fun _ => ?_) (fun _ => ?_) | refine keptR_ite (fun _ => ?_) (fun _ => ?_)
      | refine kept_fst_ite (fun _ => ?_) (fun _ => ?_) | refine kept_id ?_

theorem kept_execChildLost {s0 : State} {node : Nat} {s : State} (h1 : Kept W s0 s) : KeptR W s0 (execChildLost node s) := by
  unfold execChildLost
  try dsimp only
  with_reducible
    repeat' first
      | assumption | refine kept_skyChildLost ?_ | refine keptR_next ?_

theorem kept_setPower {s0 : State} {s : State} {ps : Nat} (h0 : Kept W s0 s) : Kept W s0 (State.setPower s ps) := by
  unfold State.setPower
  try dsimp only
  with_reducible
    repeat' first
      | assumption | refine kept_modOfl ?_ (fun _ => ?_) | refine kept_psGo ?_ | refine kept_ite (fun _ => ?_) (fun _ => ?_)
      | refine keptR_ite (fun _ => ?_) (fun _ => ?_) | refine kept_fst_ite (fun _ => ?_) (fun _ => ?_) | refine kept_id ?_
      | simp only [kept_mk] | refine kept_foldl (fun _ _ _ => ?_) ?_ | refine kept_fst_foldl (fun _ _ _ => ?_) ?_ | refine keptR_next ?_
      | exact keptR_fault | exact keptR_refused | refine keptO_some ?_ | exact keptO_none | exact fun h => h

theorem kept_psWake {s0 : State} {s : State} (h0 : Kept W s0 s) : Kept W s0 (State.psWake s) := by
  unfold State.psWake
  try dsimp only
  with_reducible
    repeat' first
      | assumption | refine kept_psGo ?_ | refine kept_ite (fun _ => ?_) (fun _ => ?_)

theorem kept_psReached {s0 : State} {s : State} (h0 : Kept W s0 s) (w_ohost : W.ohost = true) : Kept W s0 (State.psReached s) := by
  unfold State.psReached
  try dsimp only
  with_reducible
    repeat' first
      | assumption | refine kept_put ?_ | refine kept_modOfl ?_ (fun _ => ?_) | refine kept_ev ?_ | refine kept_setPower ?_
      | refine kept_oflShow ?_ | refine kept_oflPostAll ?_ ?_ | refine kept_psWake ?_ | refine kept_ite (fun _ => ?_) (fun _ => ?_)
      | refine keptR_ite (fun _ => ?_) (fun _ => ?_) | refine kept_fst_ite (fun _ => ?_) (fun _ => ?_) | refine kept_id ?_
      | simp only [kept_mk] | refine kept_foldl (fun _ _ _ => ?_) ?_ | refine kept_fst_foldl (fun _ _ _ => ?_) ?_ | refine keptR_next ?_
      | exact keptR_fault | exact keptR_refused | refine keptO_some ?_ | exact keptO_none | exact fun h => h
      | exact fun h => Mem.write_wf h | exact fun h => Mem.zero_wf h | exact fun h => Mem.set_wf h | exact fun h => Mem.filter_wf h
      | exact fun h => rising_filter h | exact fun h => RegFile.wr_rising h | exact fun h => RegFile.put_rising h
      | exact fun h => judgeSet_rising h | exact fun _ => rfl | exact fun _ => Mem.nil_wf | split

theorem kept_execPowerStateReached {s0 : State} {s : State} (h0 : Kept W s0 s) (w_ohost : W.ohost = true)
    : KeptR W s0 (execPowerStateReached s) := by
  unfold execPowerStateReached
  try dsimp only
  with_reducible
    repeat' first
      | assumption | refine kept_psReached ?_ ?_ | refine keptR_next ?_

theorem kept_execDeviceReset {s0 : State} {v : Nat} {s : State} (h1 : Kept W s0 s) (w_hbm : W.hbm = true) (w_lut : W.lut = true)
    : KeptR W s0 (execDeviceReset v s) := by
  unfold execDeviceReset
  try dsimp only
  with_reducible
    repeat' first
      | assumption | refine kept_onUnit ?_ (fun _ _ => ?_) | refine kept_resetWrite ?_ ?_ ?_ | refine keptR_next ?_

theorem kept_execRecCommit {s0 : State} {s : State} (h0 : Kept W s0 s) (w_ohost : W.ohost = true) : KeptR W s0 (execRecCommit s) := by
  unfold execRecCommit
  try dsimp only
  with_reducible
    repeat' first
      | assumption | refine kept_onRec ?_ (fun _ _ => ?_) | refine kept_recCommit ?_ ?_ | refine keptR_next ?_

theorem kept_memberTimeout {s0 : State} {s : State} {k : Nat} {cmd : Option Nat} (h0 : Kept W s0 s) (w_ohost : W.ohost = true)
    : Kept W s0 (State.memberTimeout s k cmd) := by
  unfold State.memberTimeout
  try dsimp only
  with_reducible
    repeat' first
      | assumption | refine kept_reachClk ?_ | refine kept_modRec ?_ | refine kept_stageLost ?_ | refine kept_failMembers ?_ ?_
      | refine kept_foldl (fun _ _ _ => ?_) ?_ | split

theorem kept_execMemberCommandTimeout {s0 : State} {member : Nat} {cmd : Option Nat} {s : State} (h2 : Kept W s0 s)
    (w_ohost : W.ohost = true) : KeptR W s0 (execMemberCommandTimeout member s cmd) := by
  unfold execMemberCommandTimeout
  try dsimp only
  with_reducible
    repeat' first
      | assumption | refine kept_memberTimeout ?_ ?_ | refine keptR_next ?_

theorem kept_synEmit {s0 : State} {s : State} {p : Nat} {y : Sys2Proof.Machine.Synth} {vals : List Sys2Proof.Machine.State.SynPixel}
    {route : List Sys2Proof.FlowUnit} (h0 : Kept W s0 s) : Kept W s0 (State.synEmit s p y vals route) := by
  unfold State.synEmit
  try dsimp only
  with_reducible
    repeat' first
      | assumption | refine kept_evLimited ?_ | refine kept_ite (fun _ => ?_) (fun _ => ?_) | simp only [kept_mk]

theorem kept_synEnd {s0 : State} {s : State} {p : Nat} (h0 : Kept W s0 s) : Kept W s0 (State.synEnd s p) := by
  unfold State.synEnd
  try dsimp only
  with_reducible
    repeat' first
      | assumption | refine kept_modCap ?_ | refine kept_synEmit ?_ | refine kept_foldl (fun _ _ _ => ?_) ?_ | split

theorem kept_accWrite {s0 : State} {s : State} {base : Nat} {r : Sys2Proof.Machine.StreamRec}
    {vals : List Sys2Proof.Machine.State.SynPixel} (h0 : Kept W s0 s) (w_hbm : W.hbm = true) : Kept W s0 (State.accWrite s base r vals)
    := by
  unfold State.accWrite
  try dsimp only
  with_reducible
    repeat' first
      | assumption | refine kept_hbmWrite ?_ ?_ | refine kept_foldl (fun _ _ _ => ?_) ?_

theorem kept_synAdd {s0 : State} {s : State} {f : Sys2Proof.Machine.Frame} (h0 : Kept W s0 s) (w_hbm : W.hbm = true)
    : Kept W s0 (State.synAdd s f) := by
  unfold State.synAdd
  try dsimp only
  with_reducible
    repeat' first
      | assumption | refine kept_synEnd ?_ | refine kept_synEmit ?_ | refine kept_put ?_ | refine kept_modCap ?_
      | refine kept_accWrite ?_ ?_ | refine kept_foldl (fun _ _ _ => ?_) ?_ | split

theorem kept_capFrame {s0 : State} {s : State} {p : Nat} {fid : Nat} (h0 : Kept W s0 s) (w_hbm : W.hbm = true)
    : Kept W s0 (State.capFrame s p fid) := by
  unfold State.capFrame
  try dsimp only
  with_reducible
    repeat' first
      | assumption | refine kept_synAdd ?_ ?_ | refine kept_synEnd ?_ | refine kept_modPipe ?_ | refine kept_modFrame ?_
      | refine kept_enterUnit ?_ | refine kept_foldl (fun _ _ _ => ?_) ?_ | split

theorem kept_smbStore {s0 : State} {s : State} {o : Nat} {x2 : Sys2Proof.Bytes} (h0 : Kept W s0 s) : Kept W s0 (State.smbStore s o x2) := by
  induction x2 generalizing s o with
  | nil =>
    unfold State.smbStore
    try dsimp only
    repeat' first
      | with_reducible assumption
  | cons a l ih =>
    unfold State.smbStore
    try dsimp only
    repeat' first
      | with_reducible assumption | with_reducible apply ih | with_reducible refine kept_wr ?_

theorem kept_fwDownload {s0 : State} {s : State} {c : Sys2Proof.NvmeCmd} {data : Sys2Proof.Bytes} {id : Nat} (h0 : Kept W s0 s)
    (w_ohost : W.ohost = true) : Kept W s0 (State.fwDownload s c data id) := by
  unfold State.fwDownload
  try dsimp only
  with_reducible
    repeat' first
      | assumption | refine kept_oflComplete ?_ ?_ | refine kept_modOfl ?_ (fun _ => ?_) | refine kept_ite (fun _ => ?_) (fun _ => ?_)
      | refine keptR_ite (fun _ => ?_) (fun _ => ?_) | refine kept_fst_ite (fun _ => ?_) (fun _ => ?_) | refine kept_id ?_
      | simp only [kept_mk] | refine kept_foldl (fun _ _ _ => ?_) ?_ | refine kept_fst_foldl (fun _ _ _ => ?_) ?_ | refine keptR_next ?_
      | exact keptR_fault | exact keptR_refused | refine keptO_some ?_ | exact keptO_none | exact fun h => h

theorem kept_execNvmeFwDownload {s0 : State} {c : Sys2Proof.NvmeCmd} {data : Sys2Proof.Bytes} {s : State} (h2 : Kept W s0 s)
    (w_ohost : W.ohost = true) : KeptR W s0 (execNvmeFwDownload c data s) := by
  unfold execNvmeFwDownload
  try dsimp only
  with_reducible
    repeat' first
      | assumption | refine kept_admin ?_ (fun _ _ _ => ?_) ?_ | refine kept_fwDownload ?_ ?_ | refine keptR_next ?_

theorem kept_asyncRequest {s0 : State} {s : State} {id : Nat} (h0 : Kept W s0 s) (w_ohost : W.ohost = true)
    : Kept W s0 (State.asyncRequest s id) := by
  unfold State.asyncRequest
  try dsimp only
  with_reducible
    repeat' first
      | assumption | refine kept_oflComplete ?_ ?_ | refine kept_oflEvents ?_ ?_ | refine kept_modOfl ?_ (fun _ => ?_)
      | refine kept_ite (fun _ => ?_) (fun _ => ?_) | refine keptR_ite (fun _ => ?_) (fun _ => ?_)
      | refine kept_fst_ite (fun _ => ?_) (fun _ => ?_) | refine kept_id ?_ | simp only [kept_mk] | refine kept_foldl (fun _ _ _ => ?_) ?_
      | refine kept_fst_foldl (fun _ _ _ => ?_) ?_ | refine keptR_next ?_ | exact keptR_fault | exact keptR_refused | refine keptO_some ?_
      | exact keptO_none | exact fun h => h

theorem kept_execNvmeAsyncEvent {s0 : State} {c : Sys2Proof.NvmeCmd} {s : State} (h1 : Kept W s0 s) (w_ohost : W.ohost = true)
    : KeptR W s0 (execNvmeAsyncEvent c s) := by
  unfold execNvmeAsyncEvent
  try dsimp only
  with_reducible
    repeat' first
      | assumption | refine kept_admin ?_ (fun _ _ _ => ?_) ?_ | refine kept_asyncRequest ?_ ?_ | refine keptR_next ?_

theorem kept_takeStart {s0 : State} {s : State} {id : Nat} (h0 : Kept W s0 s) (w_ohost : W.ohost = true) : Kept W s0 (State.takeStart s id)
    := by
  unfold State.takeStart
  try dsimp only
  with_reducible
    repeat' first
      | assumption | refine kept_recPacket ?_ (fun _ => ?_) | refine kept_setResult ?_ | refine kept_modVol ?_ | refine kept_modRec ?_
      | refine kept_recShow ?_ ?_ | refine kept_evTake ?_ | refine kept_foldl (fun _ _ _ => ?_) ?_ | split

theorem kept_execAlSkyPath {s0 : State} {path : Nat} {up : Bool} {s : State} (h2 : Kept W s0 s) : KeptR W s0 (execAlSkyPath path up s) := by
  unfold execAlSkyPath
  try dsimp only
  with_reducible
    repeat' first
      | assumption | refine kept_skyPathChange ?_ | refine keptR_next ?_

theorem kept_execDvtFrame {s0 : State} {tile : Nat} {fid : Nat} {s : State} (h2 : Kept W s0 s) (w_hbm : W.hbm = true)
    : KeptR W s0 (execDvtFrame tile fid s) := by
  unfold execDvtFrame
  try dsimp only
  with_reducible
    repeat' first
      | assumption | refine kept_dvtFrame ?_ ?_ | refine keptR_next ?_

theorem kept_mediaClose {s0 : State} {s : State} {id : Nat} (h0 : Kept W s0 s) (w_ohost : W.ohost = true)
    : Kept W s0 (State.mediaClose s id) := by
  unfold State.mediaClose
  try dsimp only
  with_reducible
    repeat' first
      | assumption | refine kept_recPacket ?_ (fun _ => ?_) | refine kept_setResult ?_ | refine kept_volumeClose ?_ ?_
      | refine kept_foldl (fun _ _ _ => ?_) ?_ | split

theorem kept_execEvBaroPlan {s0 : State} {m : Sys2Proof.BaroMeas} {s : State} (h1 : Kept W s0 s) (w_mram : W.mram = true)
    : KeptR W s0 (execEvBaroPlan m s) := by
  unfold execEvBaroPlan
  try dsimp only
  with_reducible
    repeat' first
      | assumption | refine kept_planRun ?_ ?_ | refine keptR_next ?_ | refine kept_foldl (fun _ _ _ => ?_) ?_ | split

theorem kept_execDevSnap {s0 : State} {s : State} (h0 : Kept W s0 s) : KeptR W s0 (execDevSnap s) := by
  unfold execDevSnap
  try dsimp only
  with_reducible
    repeat' first
      | assumption | refine kept_onUnit ?_ (fun _ _ => ?_) | refine kept_snap ?_ | refine keptR_next ?_

theorem kept_genlockRef {s0 : State} {s : State} {f : Nat} (h0 : Kept W s0 s) : Kept W s0 (State.genlockRef s f) := by
  unfold State.genlockRef
  try dsimp only
  with_reducible
    repeat' first
      | assumption | refine kept_wr64 ?_ | refine kept_wr ?_ | refine kept_modTime ?_ | refine kept_put ?_ | refine kept_ev ?_
      | refine kept_ite (fun _ => ?_) (fun _ => ?_)

theorem kept_execGenlockReference {s0 : State} {std : Nat} {s : State} (h1 : Kept W s0 s) : KeptR W s0 (execGenlockReference std s) := by
  unfold execGenlockReference
  try dsimp only
  with_reducible
    repeat' first
      | assumption | refine kept_genlockRef ?_ | refine keptR_next ?_

theorem kept_frameInstant {s0 : State} {s : State} {r : Sys2Proof.Machine.Raster} (h0 : Kept W s0 s) : Kept W s0 (State.frameInstant s r)
    := by
  unfold State.frameInstant
  try dsimp only
  with_reducible
    repeat' first
      | assumption | refine kept_reach ?_ | refine kept_ite (fun _ => ?_) (fun _ => ?_) | simp only [kept_mk]

theorem kept_execI2cFlush {s0 : State} {c : Nat} {s : State} (h1 : Kept W s0 s) : KeptR W s0 (execI2cFlush c s) := by
  unfold execI2cFlush
  try dsimp only
  with_reducible
    repeat' first
      | assumption | refine kept_lspRow (fun _ _ => ?_) ?_ | refine kept_i2cFlush ?_

theorem kept_setFeat {s0 : State} {s : State} {f : Nat} {v : Nat} (h0 : Kept W s0 s) : Kept W s0 (State.setFeat s f v) := by
  unfold State.setFeat
  try dsimp only
  with_reducible
    repeat' first
      | assumption | refine kept_modOfl ?_ (fun _ => ?_) | refine kept_ite (fun _ => ?_) (fun _ => ?_)
      | refine keptR_ite (fun _ => ?_) (fun _ => ?_) | refine kept_fst_ite (fun _ => ?_) (fun _ => ?_) | refine kept_id ?_
      | simp only [kept_mk] | refine kept_foldl (fun _ _ _ => ?_) ?_ | refine kept_fst_foldl (fun _ _ _ => ?_) ?_ | refine keptR_next ?_
      | exact keptR_fault | exact keptR_refused | refine keptO_some ?_ | exact keptO_none | exact fun h => h

theorem kept_setFeatures {s0 : State} {s : State} {c : Sys2Proof.NvmeCmd} {id : Nat} (h0 : Kept W s0 s) (w_ohost : W.ohost = true)
    : Kept W s0 (State.setFeatures s c id) := by
  unfold State.setFeatures
  try dsimp only
  with_reducible
    repeat' first
      | assumption | refine kept_oflComplete ?_ ?_ | refine kept_setFeat ?_ | refine kept_setPower ?_
      | refine kept_modOfl ?_ (fun _ => ?_) | refine kept_ite (fun _ => ?_) (fun _ => ?_) | refine keptR_ite (fun _ => ?_) (fun _ => ?_)
      | refine kept_fst_ite (fun _ => ?_) (fun _ => ?_) | refine kept_id ?_ | simp only [kept_mk] | refine kept_foldl (fun _ _ _ => ?_) ?_
      | refine kept_fst_foldl (fun _ _ _ => ?_) ?_ | refine keptR_next ?_ | exact keptR_fault | exact keptR_refused | refine keptO_some ?_
      | exact keptO_none | exact fun h => h | exact fun h => Mem.write_wf h | exact fun h => Mem.zero_wf h | exact fun h => Mem.set_wf h
      | exact fun h => Mem.filter_wf h | exact fun h => rising_filter h | exact fun h => RegFile.wr_rising h
      | exact fun h => RegFile.put_rising h | exact fun h => judgeSet_rising h | exact fun _ => rfl | exact fun _ => Mem.nil_wf | split

theorem kept_execNvmeSetFeatures {s0 : State} {c : Sys2Proof.NvmeCmd} {s : State} (h1 : Kept W s0 s) (w_ohost : W.ohost = true)
    : KeptR W s0 (execNvmeSetFeatures c s) := by
  unfold execNvmeSetFeatures
  try dsimp only
  with_reducible
    repeat' first
      | assumption | refine kept_admin ?_ (fun _ _ _ => ?_) ?_ | refine kept_setFeatures ?_ ?_ | refine keptR_next ?_

theorem kept_ltcLoss {s0 : State} {s : State} (h0 : Kept W s0 s) : Kept W s0 (State.ltcLoss s) := by
  unfold State.ltcLoss
  try dsimp only
  with_reducible
    repeat' first
      | assumption | refine kept_modTime ?_ | refine kept_put ?_ | refine kept_ev ?_ | refine kept_ite (fun _ => ?_) (fun _ => ?_)

theorem kept_execLandingWriteDeadline {s0 : State} {owing : List Nat} {s : State} (h1 : Kept W s0 s) (w_media : W.media = true)
    (w_ohost : W.ohost = true) : KeptR W s0 (execLandingWriteDeadline owing s) := by
  unfold execLandingWriteDeadline
  try dsimp only
  with_reducible
    repeat' first
      | assumption | refine kept_landingDeadline ?_ ?_ ?_ | refine keptR_next ?_

theorem kept_onLost {s0 : State} {s : State} {m : Sys2Proof.Machine.SkyIn} (h0 : Kept W s0 s) : Kept W s0 (State.onLost s m) := by
  unfold State.onLost
  try dsimp only
  with_reducible
    repeat' first
      | assumption | refine kept_skyRemove ?_ | refine kept_modSky ?_ | refine kept_ite (fun _ => ?_) (fun _ => ?_)

theorem kept_execSkyAssign {s0 : State} {m : Sys2Proof.SkyMsg} {s : State} (h1 : Kept W s0 s) : KeptR W s0 (execSkyAssign m s) := by
  unfold execSkyAssign
  try dsimp only
  with_reducible
    repeat' first
      | assumption | refine kept_skyReceive ?_ (fun _ _ _ => ?_) | refine kept_onAssign ?_ | refine keptR_next ?_

theorem kept_ringsOff {s0 : State} {s : State} (h0 : Kept W s0 s) : Kept W s0 (State.ringsOff s) := by
  unfold State.ringsOff
  try dsimp only
  with_reducible
    repeat' first
      | assumption | refine kept_evqZero ?_ | refine kept_put ?_ | refine kept_wr ?_ | refine kept_cmdqSync ?_ | refine kept_promoDone ?_
      | refine kept_modRing ?_ | refine kept_foldl (fun _ _ _ => ?_) ?_

theorem kept_execDsiTransferStart {s0 : State} {d : Nat} {s : State} (h1 : Kept W s0 s) : KeptR W s0 (execDsiTransferStart d s) := by
  unfold execDsiTransferStart
  try dsimp only
  with_reducible
    repeat' first
      | assumption | refine kept_dsiStart ?_ | refine kept_modDsi ?_ | refine keptR_next ?_ | refine keptR_ite (fun _ => ?_) (fun _ => ?_)

theorem kept_usbState {s0 : State} {s : State} {extra : Nat} (h0 : Kept W s0 s) : Kept W s0 (State.usbState s extra) := by
  unfold State.usbState
  try dsimp only
  with_reducible
    repeat' first
      | assumption | refine kept_ev ?_

theorem kept_usbSuspend {s0 : State} {s : State} {on : Bool} (h0 : Kept W s0 s) : Kept W s0 (State.usbSuspend s on) := by
  unfold State.usbSuspend
  try dsimp only
  with_reducible
    repeat' first
      | assumption | refine kept_usbState ?_ | refine kept_put ?_ | refine kept_ite (fun _ => ?_) (fun _ => ?_)

theorem kept_execUsbSuspend {s0 : State} {s : State} (h0 : Kept W s0 s) : KeptR W s0 (execUsbSuspend s) := by
  unfold execUsbSuspend
  try dsimp only
  with_reducible
    repeat' first
      | assumption | refine kept_usbSuspend ?_ | refine keptR_next ?_

theorem kept_execDrvDiscardPatches {s0 : State} {v : Nat} {s : State} (h1 : Kept W s0 s) : KeptR W s0 (execDrvDiscardPatches v s) := by
  unfold execDrvDiscardPatches
  try dsimp only
  with_reducible
    repeat' first
      | assumption | refine kept_drvRow (fun _ _ => ?_) ?_ | refine kept_drvStart ?_ (fun _ _ => ?_)
      | refine kept_ite (fun _ => ?_) (fun _ => ?_) | refine keptR_ite (fun _ => ?_) (fun _ => ?_)
      | refine kept_fst_ite (fun _ => ?_) (fun _ => ?_) | refine kept_id ?_

theorem kept_cardBusy {s0 : State} {s : State} {opcode : Nat} (h0 : Kept W s0 s) : Kept W s0 (State.cardBusy s opcode) := by
  unfold State.cardBusy
  try dsimp only
  with_reducible
    repeat' first
      | assumption | refine kept_put ?_ | refine kept_ite (fun _ => ?_) (fun _ => ?_)

theorem kept_commitDurable {s0 : State} {s : State} (h0 : Kept W s0 s) (w_ohost : W.ohost = true) : Kept W s0 (State.commitDurable s) := by
  unfold State.commitDurable
  try dsimp only
  with_reducible
    repeat' first
      | assumption | refine kept_modVol ?_ | refine kept_modRec ?_ | refine kept_wr64 ?_ | refine kept_oflCommitNotice ?_ ?_
      | refine kept_recShow ?_ ?_ | refine kept_ev ?_ | refine kept_foldl (fun _ _ _ => ?_) ?_ | split

theorem kept_commitFence {s0 : State} {s : State} {v : Sys2Proof.Machine.Volume} (h0 : Kept W s0 s) (w_ohost : W.ohost = true)
    : Kept W s0 (State.commitFence s v) := by
  unfold State.commitFence
  try dsimp only
  with_reducible
    repeat' first
      | assumption | refine kept_modRec ?_ | refine kept_issue ?_ | refine kept_commitDurable ?_ ?_
      | refine kept_foldl (fun _ _ _ => ?_) ?_ | split

theorem kept_audInput {s0 : State} {s : State} {n : Nat} {data : Sys2Proof.Bytes} {cs : List Nat} (h0 : Kept W s0 s)
    : Kept W s0 (State.audInput s n data cs) := by
  unfold State.audInput
  try dsimp only
  with_reducible
    repeat' first
      | assumption | refine kept_wr ?_ | refine kept_modPort ?_ | refine kept_put ?_ | refine kept_ev ?_
      | refine kept_foldl (fun _ _ _ => ?_) ?_ | split

theorem kept_execAudioInputFrame {s0 : State} {n : Nat} {data : Sys2Proof.Bytes} {cs : List Nat} {s : State} (h3 : Kept W s0 s)
    : KeptR W s0 (execAudioInputFrame n data cs s) := by
  unfold execAudioInputFrame
  try dsimp only
  with_reducible
    repeat' first
      | assumption | refine kept_audRow (fun _ _ => ?_) ?_ | refine kept_audInput ?_

theorem kept_drainEnd {s0 : State} {s : State} {p : Nat} (h0 : Kept W s0 s) (w_hbm : W.hbm = true) (w_lut : W.lut = true)
    : Kept W s0 (State.drainEnd s p) := by
  unfold State.drainEnd
  try dsimp only
  with_reducible
    repeat' first
      | assumption | refine kept_outfNew ?_ | refine kept_applyPatchLuts ?_ ?_ ?_ | refine kept_settle ?_ | refine kept_modPipe ?_
      | refine kept_ite (fun _ => ?_) (fun _ => ?_) | simp only [kept_mk] | refine kept_foldl (fun _ _ _ => ?_) ?_

theorem kept_execPatchDrainEnd {s0 : State} {p : Nat} {s : State} (h1 : Kept W s0 s) (w_hbm : W.hbm = true) (w_lut : W.lut = true)
    : KeptR W s0 (execPatchDrainEnd p s) := by
  unfold execPatchDrainEnd
  try dsimp only
  with_reducible
    repeat' first
      | assumption | refine kept_heldIssue ?_ ?_ ?_ | refine kept_drainEnd ?_ ?_ ?_ | refine keptR_next ?_

theorem kept_skyRootLost {s0 : State} {s : State} (h0 : Kept W s0 s) : Kept W s0 (State.skyRootLost s) := by
  unfold State.skyRootLost
  try dsimp only
  with_reducible
    repeat' first
      | assumption | refine kept_skyForm ?_ | refine kept_reachClk ?_ | refine kept_ite (fun _ => ?_) (fun _ => ?_)

theorem kept_execRootLost {s0 : State} {s : State} (h0 : Kept W s0 s) : KeptR W s0 (execRootLost s) := by
  unfold execRootLost
  try dsimp only
  with_reducible
    repeat' first
      | assumption | refine kept_skyRootLost ?_ | refine keptR_next ?_

theorem kept_capLineTrigger {s0 : State} {s : State} {line : Nat} {rising : Bool} {t : Nat} (h0 : Kept W s0 s)
    : Kept W s0 (State.capLineTrigger s line rising t) := by
  unfold State.capLineTrigger
  try dsimp only
  with_reducible
    repeat' first
      | assumption | refine kept_trigger ?_ | refine kept_foldl (fun _ _ _ => ?_) ?_ | split

theorem kept_caparAlert {s0 : State} {s : State} {n : Nat} {again : Bool} (h0 : Kept W s0 s) : Kept W s0 (State.caparAlert s n again) := by
  unfold State.caparAlert
  try dsimp only
  with_reducible
    repeat' first
      | assumption | refine kept_inc ?_ | refine kept_fresh ?_ | refine kept_freeze ?_ | refine kept_ite (fun _ => ?_) (fun _ => ?_)

theorem kept_execCaparAlert {s0 : State} {ch : Nat} {again : Bool} {s : State} (h2 : Kept W s0 s) : KeptR W s0 (execCaparAlert ch again s)
    := by
  unfold execCaparAlert
  try dsimp only
  with_reducible
    repeat' first
      | assumption | refine kept_caparAlert ?_ | refine keptR_next ?_

theorem kept_execFenceRead {s0 : State} {s : State} (h0 : Kept W s0 s) : KeptR W s0 (execFenceRead s) := by
  unfold execFenceRead
  try dsimp only
  with_reducible
    repeat' first
      | assumption | refine kept_emit ?_ | refine keptR_next ?_

theorem kept_execEvqImodTimeout {s0 : State} {q : Nat} {s : State} (h1 : Kept W s0 s) : KeptR W s0 (execEvqImodTimeout q s) := by
  unfold execEvqImodTimeout
  try dsimp only
  with_reducible
    repeat' first
      | assumption | refine kept_evqSignal ?_ | refine keptR_next ?_ | refine keptR_ite (fun _ => ?_) (fun _ => ?_)
      | refine kept_ite (fun _ => ?_) (fun _ => ?_)

theorem kept_frontBoundary {s0 : State} {s : State} {counter : Nat} (h0 : Kept W s0 s) (w_hbm : W.hbm = true) (w_lut : W.lut = true)
    : Kept W s0 (State.frontBoundary s counter) := by
  unfold State.frontBoundary
  try dsimp only
  with_reducible
    repeat' first
      | assumption | refine kept_reachClk ?_ | refine kept_reachDt ?_ | refine kept_acceptPacket ?_ ?_ ?_ | refine kept_openFrame ?_ ?_ ?_
      | refine kept_foldl (fun _ _ _ => ?_) ?_ | split

theorem kept_execControllerReset {s0 : State} {s : State} (h0 : Kept W s0 s) (w_ohost : W.ohost = true)
    : KeptR W s0 (execControllerReset s) := by
  unfold execControllerReset
  try dsimp only
  with_reducible
    repeat' first
      | assumption | refine kept_controllerReset ?_ ?_ | refine keptR_next ?_

theorem kept_playFrame {s0 : State} {s : State} {n : Nat} (h0 : Kept W s0 s) : Kept W s0 (State.playFrame s n).1 := by
  unfold State.playFrame
  try dsimp only
  with_reducible
    repeat' first
      | assumption | refine kept_put ?_ | refine kept_rampOut ?_ | refine kept_setFade ?_ | refine kept_foldl (fun _ _ _ => ?_) ?_ | split

theorem kept_onRequest {s0 : State} {s : State} {m : Sys2Proof.Machine.SkyIn} (h0 : Kept W s0 s) : Kept W s0 (State.onRequest s m) := by
  unfold State.onRequest
  try dsimp only
  with_reducible
    repeat' first
      | assumption | refine kept_skyQueue ?_ | refine kept_skyUp ?_ | refine kept_ite (fun _ => ?_) (fun _ => ?_)

theorem kept_zstComplete {s0 : State} {s : State} {e : Nat} (h0 : Kept W s0 s) (w_hbm : W.hbm = true) (w_host : W.host = true)
    (w_ohost : W.ohost = true) : Kept W s0 (State.zstComplete s e) := by
  unfold State.zstComplete
  try dsimp only
  with_reducible
    repeat' first
      | assumption | refine kept_inc ?_ | refine kept_addChunk ?_ ?_ | refine kept_memWrite ?_ ?_ ?_ | refine kept_freeBytes ?_
      | refine kept_wr ?_ | refine kept_jobGone ?_ | refine kept_evDone ?_ | refine kept_ite (fun _ => ?_) (fun _ => ?_)
      | simp only [kept_mk] | refine kept_foldl (fun _ _ _ => ?_) ?_ | split

theorem kept_execBaroPlanCommand {s0 : State} {v : Nat} {s : State} (h1 : Kept W s0 s) : KeptR W s0 (execBaroPlanCommand v s) := by
  unfold execBaroPlanCommand
  try dsimp only
  with_reducible
    repeat' first
      | assumption | refine kept_onUnit ?_ (fun _ _ => ?_) | refine kept_baroCtrl ?_ | refine keptR_next ?_

theorem kept_dfuError {s0 : State} {s : State} {status : Nat} (h0 : Kept W s0 s) : Kept W s0 (State.dfuError s status) := by
  unfold State.dfuError
  try dsimp only
  with_reducible
    repeat' first
      | assumption | refine kept_usbAnswer ?_ | refine kept_modLsp ?_

theorem kept_dfuDnload {s0 : State} {s : State} {blk : Nat} {data : Sys2Proof.Bytes} (h0 : Kept W s0 s) (w_hbm : W.hbm = true)
    : Kept W s0 (State.dfuDnload s blk data) := by
  unfold State.dfuDnload
  try dsimp only
  with_reducible
    repeat' first
      | assumption | refine kept_usbAnswer ?_ | refine kept_modLsp ?_ | refine kept_dfuError ?_ | refine kept_hbmWrite ?_ ?_
      | refine kept_ite (fun _ => ?_) (fun _ => ?_)

theorem kept_execAudStart {s0 : State} {v : Nat} {s : State} (h1 : Kept W s0 s) : KeptR W s0 (execAudStart v s) := by
  unfold execAudStart
  try dsimp only
  with_reducible
    repeat' first
      | assumption | refine kept_onUnit ?_ (fun _ _ => ?_) | refine kept_audStart ?_ | refine keptR_next ?_

theorem kept_psEdge {s0 : State} {s : State} {k : Nat} (h0 : Kept W s0 s) : Kept W s0 (State.psEdge s k) := by
  unfold State.psEdge
  try dsimp only
  with_reducible
    repeat' first
      | assumption | refine kept_reachEdge ?_ | refine kept_modPs ?_ | refine kept_evLimited ?_ | refine kept_inc ?_
      | refine kept_drivePs ?_ | refine kept_foldl (fun _ _ _ => ?_) ?_ | split

theorem kept_execPulseSchedulerEdge {s0 : State} {k : Nat} {s : State} (h1 : Kept W s0 s) : KeptR W s0 (execPulseSchedulerEdge k s) := by
  unfold execPulseSchedulerEdge
  try dsimp only
  with_reducible
    repeat' first
      | assumption | refine kept_psEdge ?_ | refine keptR_next ?_

theorem kept_rtpNext {s0 : State} {s : State} {k : Nat} {up : Bool} {x3 : Nat} (h0 : Kept W s0 s) : Kept W s0 (State.rtpNext s k up x3) := by
  induction x3 generalizing s k up with
  | zero =>
    unfold State.rtpNext
    try dsimp only
    repeat' first
      | with_reducible assumption
  | succ n ih =>
    unfold State.rtpNext
    try dsimp only
    repeat' first
      | with_reducible assumption | with_reducible apply ih | with_reducible refine kept_modEnc ?_ | with_reducible refine kept_inc ?_
      | with_reducible refine kept_rtpRecord ?_ | with_reducible refine kept_ite (fun _ => ?_) (fun _ => ?_)

theorem kept_rtpSend {s0 : State} {s : State} {k : Nat} {up : Bool} (h0 : Kept W s0 s) : Kept W s0 (State.rtpSend s k up) := by
  unfold State.rtpSend
  try dsimp only
  with_reducible
    repeat' first
      | assumption | refine kept_rtpNext ?_ | refine kept_ite (fun _ => ?_) (fun _ => ?_)

theorem kept_execSkyOpCommit {s0 : State} {arg : Nat} {s : State} (h1 : Kept W s0 s) : KeptR W s0 (execSkyOpCommit arg s) := by
  unfold execSkyOpCommit
  try dsimp only
  with_reducible
    repeat' first
      | assumption | refine kept_onUnit ?_ (fun _ _ => ?_) | refine kept_skyAsk ?_ | refine keptR_next ?_

theorem kept_execEcho {s0 : State} {id : Nat} {s : State} (h1 : Kept W s0 s) : KeptR W s0 (execEcho id s) := by
  unfold execEcho
  try dsimp only
  with_reducible
    repeat' first
      | assumption | refine kept_setResult ?_ | refine keptR_next ?_ | refine kept_foldl (fun _ _ _ => ?_) ?_ | split

theorem kept_trigEdge {s0 : State} {s : State} {l : Nat} {rising : Bool} {width : Nat} (h0 : Kept W s0 s)
    : Kept W s0 (State.trigEdge s l rising width) := by
  unfold State.trigEdge
  try dsimp only
  with_reducible
    repeat' first
      | assumption | refine kept_put ?_ | refine kept_wr ?_ | refine kept_wr64 ?_ | refine kept_inc ?_ | refine kept_ev ?_
      | refine kept_capLineTrigger ?_ | refine kept_ite (fun _ => ?_) (fun _ => ?_)

theorem kept_drvDusk {s0 : State} {s : State} (h0 : Kept W s0 s) : Kept W s0 (State.drvDusk s) := by
  unfold State.drvDusk
  try dsimp only
  with_reducible
    repeat' first
      | assumption | refine kept_ite (fun _ => ?_) (fun _ => ?_) | simp only [kept_mk] | refine kept_foldl (fun _ _ _ => ?_) ?_ | split

theorem kept_vwarn {s0 : State} {s : State} {mv : Nat} (h0 : Kept W s0 s) (w_mram : W.mram = true) (w_ohost : W.ohost = true)
    : Kept W s0 (State.vwarn s mv) := by
  unfold State.vwarn
  try dsimp only
  with_reducible
    repeat' first
      | assumption | refine kept_put ?_ | refine kept_vsense ?_ | refine kept_inc ?_ | refine kept_drvDusk ?_ | refine kept_ev ?_
      | refine kept_recDusk ?_ ?_ | refine kept_oflDusk ?_ | refine kept_bbSeal ?_ ?_ | refine kept_ite (fun _ => ?_) (fun _ => ?_)

theorem kept_execVwarnCrossing {s0 : State} {mv : Nat} {s : State} (h1 : Kept W s0 s) (w_mram : W.mram = true) (w_ohost : W.ohost = true)
    : KeptR W s0 (execVwarnCrossing mv s) := by
  unfold execVwarnCrossing
  try dsimp only
  with_reducible
    repeat' first
      | assumption | refine kept_vwarn ?_ ?_ ?_ | refine keptR_next ?_

theorem kept_onReset {s0 : State} {s : State} {m : Sys2Proof.Machine.SkyIn} (h0 : Kept W s0 s) : Kept W s0 (State.onReset s m) := by
  unfold State.onReset
  try dsimp only
  with_reducible
    repeat' first
      | assumption | refine kept_modSky ?_ | refine kept_skyDown ?_ | refine kept_ite (fun _ => ?_) (fun _ => ?_)

theorem kept_execSkyReset {s0 : State} {m : Sys2Proof.SkyMsg} {s : State} (h1 : Kept W s0 s) : KeptR W s0 (execSkyReset m s) := by
  unfold execSkyReset
  try dsimp only
  with_reducible
    repeat' first
      | assumption | refine kept_skyReceive ?_ (fun _ _ _ => ?_) | refine kept_onReset ?_ | refine keptR_next ?_

theorem kept_execNvmeWriteZeroes {s0 : State} {c : Sys2Proof.NvmeCmd} {s : State} (h1 : Kept W s0 s) (w_ohost : W.ohost = true)
    : KeptR W s0 (execNvmeWriteZeroes c s) := by
  unfold execNvmeWriteZeroes
  try dsimp only
  with_reducible
    repeat' first
      | assumption | refine kept_ioCmd ?_ (fun _ _ _ => ?_) ?_ | refine kept_cacheWrite ?_ ?_ | refine kept_modCmd ?_
      | refine keptR_next ?_

theorem kept_skySnapCapture {s0 : State} {s : State} (h0 : Kept W s0 s) : Kept W s0 (State.skySnapCapture s) := by
  unfold State.skySnapCapture
  try dsimp only
  with_reducible
    repeat' first
      | assumption | refine kept_reachDt ?_ | refine kept_modSky ?_ | refine kept_snap ?_ | refine kept_wr64 ?_ | refine kept_skyNext ?_
      | refine kept_skyDone ?_ | refine kept_skyEnded ?_ | refine kept_foldl (fun _ _ _ => ?_) ?_ | split

theorem kept_execSnapCapture {s0 : State} {s : State} (h0 : Kept W s0 s) : KeptR W s0 (execSnapCapture s) := by
  unfold execSnapCapture
  try dsimp only
  with_reducible
    repeat' first
      | assumption | refine kept_skySnapCapture ?_ | refine keptR_next ?_

theorem kept_execUartTxByte {s0 : State} {u : Nat} {s : State} (h1 : Kept W s0 s) : KeptR W s0 (execUartTxByte u s) := by
  unfold execUartTxByte
  try dsimp only
  with_reducible
    repeat' first
      | assumption | refine kept_uartTx ?_ | refine keptR_next ?_

theorem kept_usbReply {s0 : State} {s : State} {rq : Sys2Proof.UsbReq} {b : Sys2Proof.Bytes} (h0 : Kept W s0 s)
    : Kept W s0 (State.usbReply s rq b) := by
  unfold State.usbReply
  try dsimp only
  with_reducible
    repeat' first
      | assumption | refine kept_emit ?_

theorem kept_usbConfigDescriptor {s0 : State} {s : State} (h0 : Kept W s0 s) : Kept W s0 (State.usbConfigDescriptor s).2 := by
  unfold State.usbConfigDescriptor
  try dsimp only
  with_reducible
    repeat' first
      | assumption | refine kept_freeBytes ?_

theorem kept_usbControl {s0 : State} {s : State} {rq : Sys2Proof.UsbReq} (h0 : Kept W s0 s) : Kept W s0 (State.usbControl s rq) := by
  unfold State.usbControl
  try dsimp only
  with_reducible
    repeat' first
      | assumption | refine kept_usbAnswer ?_ | refine kept_put ?_ | refine kept_modLsp ?_ | refine kept_usbState ?_
      | refine kept_usbReply ?_ | refine kept_usbDeviceDescriptor ?_ | refine kept_usbConfigDescriptor ?_ | refine kept_freeBytes ?_
      | refine kept_foldl (fun _ _ _ => ?_) ?_ | split

theorem kept_execUsbControlRequest {s0 : State} {rq : Sys2Proof.UsbReq} {s : State} (h1 : Kept W s0 s)
    : KeptR W s0 (execUsbControlRequest rq s) := by
  unfold execUsbControlRequest
  try dsimp only
  with_reducible
    repeat' first
      | assumption | refine kept_usbControl ?_ | refine keptR_next ?_

theorem kept_execDrop {s0 : State} {n : Nat} {s : State} (h1 : Kept W s0 s) : KeptR W s0 (execDrop n s) := by
  unfold execDrop
  try dsimp only
  with_reducible
    repeat' first
      | assumption | refine kept_onUnit ?_ (fun _ _ => ?_) | refine kept_endTracking ?_ | refine keptR_next ?_

theorem kept_execObline {s0 : State} {g : Nat} {pkt : Sys2Proof.Bytes} {full : Bool} {s : State} (h3 : Kept W s0 s) (w_hbm : W.hbm = true)
    (w_lut : W.lut = true) : KeptR W s0 (execObline g pkt s full) := by
  unfold execObline
  try dsimp only
  with_reducible
    repeat' first
      | assumption | refine kept_packetRow ?_ ?_ ?_ | refine keptR_next ?_

theorem kept_skyDecide {s0 : State} {s : State} (h0 : Kept W s0 s) : Kept W s0 (State.skyDecide s) := by
  unfold State.skyDecide
  try dsimp only
  with_reducible
    repeat' first
      | assumption | refine kept_reachClk ?_ | refine kept_evSkyState ?_ | refine kept_put ?_ | refine kept_wr ?_ | refine kept_modSky ?_
      | refine kept_skyPlace ?_ | refine kept_wr64 ?_ | refine kept_skyAssignSend ?_ | refine kept_ite (fun _ => ?_) (fun _ => ?_)

theorem kept_execFormationDecision {s0 : State} {s : State} (h0 : Kept W s0 s) : KeptR W s0 (execFormationDecision s) := by
  unfold execFormationDecision
  try dsimp only
  with_reducible
    repeat' first
      | assumption | refine kept_skyDecide ?_ | refine keptR_next ?_

theorem kept_execOffDomainAccess {s0 : State} {off : Nat} {rd : Bool} {s : State} (h2 : Kept W s0 s)
    : KeptR W s0 (execOffDomainAccess off rd s) := by
  unfold execOffDomainAccess
  try dsimp only
  with_reducible
    repeat' first
      | assumption | refine kept_onUnit ?_ (fun _ _ => ?_) | refine kept_emit ?_ | refine kept_ite (fun _ => ?_) (fun _ => ?_)
      | refine keptR_ite (fun _ => ?_) (fun _ => ?_) | refine kept_fst_ite (fun _ => ?_) (fun _ => ?_) | refine kept_id ?_
      | simp only [kept_mk] | refine kept_foldl (fun _ _ _ => ?_) ?_ | refine kept_fst_foldl (fun _ _ _ => ?_) ?_ | refine keptR_next ?_

theorem kept_smbError {s0 : State} {s : State} {d : Sys2Proof.Machine.Fld} {cause : Nat} (h0 : Kept W s0 s)
    : Kept W s0 (State.smbError s d cause) := by
  unfold State.smbError
  try dsimp only
  with_reducible
    repeat' first
      | assumption | refine kept_evLimited ?_ | refine kept_inc ?_ | refine kept_put ?_

theorem kept_skyResetAct {s0 : State} {s : State} (h0 : Kept W s0 s) : Kept W s0 (State.skyResetAct s) := by
  unfold State.skyResetAct
  try dsimp only
  with_reducible
    repeat' first
      | assumption | refine kept_reachDt ?_ | refine kept_skyEnded ?_ | refine kept_ownerReset ?_ | refine kept_skyDrop ?_
      | refine kept_skyForm ?_ | refine kept_foldl (fun _ _ _ => ?_) ?_ | split

theorem kept_execSkyResetAct {s0 : State} {s : State} (h0 : Kept W s0 s) : KeptR W s0 (execSkyResetAct s) := by
  unfold execSkyResetAct
  try dsimp only
  with_reducible
    repeat' first
      | assumption | refine kept_skyResetAct ?_ | refine keptR_next ?_

theorem kept_smbusTimeout {s0 : State} {s : State} (h0 : Kept W s0 s) : Kept W s0 (State.smbusTimeout s) := by
  unfold State.smbusTimeout
  try dsimp only
  with_reducible
    repeat' first
      | assumption | refine kept_smbError ?_ | refine kept_ite (fun _ => ?_) (fun _ => ?_)

theorem kept_execRcuFrame {s0 : State} {tile : Nat} {fid : Nat} {s : State} (h2 : Kept W s0 s) (w_hbm : W.hbm = true)
    (w_ohost : W.ohost = true) : KeptR W s0 (execRcuFrame tile fid s) := by
  unfold execRcuFrame
  try dsimp only
  with_reducible
    repeat' first
      | assumption | refine kept_rcuFrame ?_ ?_ ?_ | refine keptR_next ?_

theorem kept_drawn {s0 : State} {s : State} (h0 : Kept W s0 s) : Kept W s0 (State.drawn s) := by
  unfold State.drawn
  try dsimp only
  with_reducible
    repeat' first
      | assumption | simp only [kept_mk]

theorem kept_replayEnd {s0 : State} {s : State} {cls : Nat} {tile : Nat} {good : Bool} (h0 : Kept W s0 s) (w_hbm : W.hbm = true)
    (w_ohost : W.ohost = true) : Kept W s0 (State.replayEnd s cls tile good) := by
  unfold State.replayEnd
  try dsimp only
  with_reducible
    repeat' first
      | assumption | refine kept_inc ?_ | refine kept_modHlt ?_ | refine kept_unrepaired ?_ | refine kept_showBusy ?_
      | refine kept_runTile ?_ ?_ ?_ | refine kept_foldl (fun _ _ _ => ?_) ?_ | split

theorem kept_execNvmeDeleteIoSq {s0 : State} {c : Sys2Proof.NvmeCmd} {s : State} (h1 : Kept W s0 s) (w_ohost : W.ohost = true)
    : KeptR W s0 (execNvmeDeleteIoSq c s) := by
  unfold execNvmeDeleteIoSq
  try dsimp only
  with_reducible
    repeat' first
      | assumption | refine kept_admin ?_ (fun _ _ _ => ?_) ?_ | refine kept_deleteSq ?_ ?_ | refine keptR_next ?_

theorem kept_execLtcJam {s0 : State} {v : Nat} {s : State} (h1 : Kept W s0 s) : KeptR W s0 (execLtcJam v s) := by
  unfold execLtcJam
  try dsimp only
  with_reducible
    repeat' first
      | assumption | refine kept_onUnit ?_ (fun _ _ => ?_) | refine kept_ltcJam ?_ | refine keptR_next ?_

theorem kept_standbyExited {s0 : State} {s : State} (h0 : Kept W s0 s) (w_hbm : W.hbm = true) (w_lut : W.lut = true)
    (w_ohost : W.ohost = true) : Kept W s0 (State.standbyExited s) := by
  unfold State.standbyExited
  try dsimp only
  with_reducible
    repeat' first
      | assumption | refine kept_domainSet ?_ ?_ | refine kept_clkShow ?_ | refine kept_modHbm ?_ | refine kept_put ?_
      | refine kept_ownerReset ?_ | refine kept_loadTopology ?_ | refine kept_loadFirmware ?_ | refine kept_loadPresets ?_
      | refine kept_loadLuts ?_ ?_ ?_ | refine kept_loadPorts ?_ | refine kept_fallbackShow ?_ | refine kept_ev ?_
      | refine kept_foldl (fun _ _ _ => ?_) ?_ | split

theorem kept_getFeatures {s0 : State} {s : State} {c : Sys2Proof.NvmeCmd} {id : Nat} (h0 : Kept W s0 s) (w_ohost : W.ohost = true)
    : Kept W s0 (State.getFeatures s c id) := by
  unfold State.getFeatures
  try dsimp only
  with_reducible
    repeat' first
      | assumption | refine kept_oflComplete ?_ ?_ | refine kept_oflAnswer ?_ ?_ | refine kept_foldl (fun _ _ _ => ?_) ?_ | split

theorem kept_execEventRecordPublish {s0 : State} {src : Nat} {s : State} (h1 : Kept W s0 s) (w_hbm : W.hbm = true) (w_host : W.host = true)
    : KeptR W s0 (execEventRecordPublish src s) := by
  unfold execEventRecordPublish
  try dsimp only
  with_reducible
    repeat' first
      | assumption | refine kept_publishOldest ?_ ?_ ?_ | refine keptR_next ?_

theorem kept_execSlkBlock {s0 : State} {lane : Nat} {sync : Nat} {payload : Nat} {s : State} (h3 : Kept W s0 s) (w_hbm : W.hbm = true)
    : KeptR W s0 (execSlkBlock lane sync payload s) := by
  unfold execSlkBlock
  try dsimp only
  with_reducible
    repeat' first
      | assumption | refine kept_slkBlock ?_ ?_ | refine keptR_next ?_

theorem kept_execNvmeAbort {s0 : State} {c : Sys2Proof.NvmeCmd} {s : State} (h1 : Kept W s0 s) (w_ohost : W.ohost = true)
    : KeptR W s0 (execNvmeAbort c s) := by
  unfold execNvmeAbort
  try dsimp only
  with_reducible
    repeat' first
      | assumption | refine kept_admin ?_ (fun _ _ _ => ?_) ?_ | refine kept_abort ?_ ?_ | refine keptR_next ?_

theorem kept_execRtpSendAu {s0 : State} {k : Nat} {up : Bool} {s : State} (h2 : Kept W s0 s) : KeptR W s0 (execRtpSendAu k s up) := by
  unfold execRtpSendAu
  try dsimp only
  with_reducible
    repeat' first
      | assumption | refine kept_rtpSend ?_ | refine keptR_next ?_ | refine keptR_ite (fun _ => ?_) (fun _ => ?_)
      | refine kept_ite (fun _ => ?_) (fun _ => ?_)

theorem kept_execLine {s0 : State} {g : Nat} {pkt : Sys2Proof.Bytes} {full : Bool} {s : State} (h3 : Kept W s0 s) (w_hbm : W.hbm = true)
    (w_lut : W.lut = true) : KeptR W s0 (execLine g pkt s full) := by
  unfold execLine
  try dsimp only
  with_reducible
    repeat' first
      | assumption | refine kept_packetRow ?_ ?_ ?_ | refine keptR_next ?_

theorem kept_onPrepare {s0 : State} {s : State} {m : Sys2Proof.Machine.SkyIn} (h0 : Kept W s0 s) : Kept W s0 (State.onPrepare s m) := by
  unfold State.onPrepare
  try dsimp only
  with_reducible
    repeat' first
      | assumption | refine kept_skyAnswer ?_ | refine kept_skyTake ?_ | refine kept_skyDown ?_
      | refine kept_ite (fun _ => ?_) (fun _ => ?_)

theorem kept_execSkyPrepare {s0 : State} {m : Sys2Proof.SkyMsg} {s : State} (h1 : Kept W s0 s) : KeptR W s0 (execSkyPrepare m s) := by
  unfold execSkyPrepare
  try dsimp only
  with_reducible
    repeat' first
      | assumption | refine kept_skyReceive ?_ (fun _ _ _ => ?_) | refine kept_onPrepare ?_ | refine keptR_next ?_

theorem kept_elasticFrame {s0 : State} {s : State} {n : Nat} (h0 : Kept W s0 s) : Kept W s0 (State.elasticFrame s n).1 := by
  unfold State.elasticFrame
  try dsimp only
  with_reducible
    repeat' first
      | assumption | refine kept_rampOut ?_ | refine kept_modPort ?_ | refine kept_setFade ?_
      | refine kept_fst_ite (fun _ => ?_) (fun _ => ?_) | refine kept_ite (fun _ => ?_) (fun _ => ?_) | simp only [kept_mk]
      | refine kept_foldl (fun _ _ _ => ?_) ?_ | split

theorem kept_execReacquireTimeout {s0 : State} {g : Nat} {s : State} (h1 : Kept W s0 s) : KeptR W s0 (execReacquireTimeout g s) := by
  unfold execReacquireTimeout
  try dsimp only
  with_reducible
    repeat' first
      | assumption | refine kept_put ?_ | refine keptR_next ?_ | refine keptR_ite (fun _ => ?_) (fun _ => ?_)

theorem kept_mediaScan {s0 : State} {s : State} {id : Nat} {ports : List Sys2Proof.MediaPort} (h0 : Kept W s0 s) (w_ohost : W.ohost = true)
    : Kept W s0 (State.mediaScan s id ports) := by
  unfold State.mediaScan
  try dsimp only
  with_reducible
    repeat' first
      | assumption | refine kept_recPacket ?_ (fun _ => ?_) | refine kept_put ?_ | refine kept_modRec ?_ | refine kept_setResult ?_
      | refine kept_recShow ?_ ?_ | refine kept_ite (fun _ => ?_) (fun _ => ?_)

theorem kept_tdmFrame {s0 : State} {s : State} {n : Nat} {captured : Sys2Proof.Bytes} (h0 : Kept W s0 s)
    : Kept W s0 (State.tdmFrame s n captured).1 := by
  unfold State.tdmFrame
  try dsimp only
  with_reducible
    repeat' first
      | assumption | refine kept_setFade ?_

theorem kept_execTbIncUpdate {s0 : State} {n : Nat} {hi : Nat} {s : State} (h2 : Kept W s0 s) : KeptR W s0 (execTbIncUpdate n hi s) := by
  unfold execTbIncUpdate
  try dsimp only
  with_reducible
    repeat' first
      | assumption | refine kept_onUnit ?_ (fun _ _ => ?_) | refine kept_tbInc ?_ | refine keptR_next ?_
      | refine keptR_ite (fun _ => ?_) (fun _ => ?_) | refine kept_ite (fun _ => ?_) (fun _ => ?_)

theorem kept_sdInfo {s0 : State} {s : State} {id : Nat} (h0 : Kept W s0 s) : Kept W s0 (State.sdInfo s id) := by
  unfold State.sdInfo
  try dsimp only
  with_reducible
    repeat' first
      | assumption | refine kept_setResult ?_ | refine kept_foldl (fun _ _ _ => ?_) ?_ | split

theorem kept_execSdInfo {s0 : State} {id : Nat} {s : State} (h1 : Kept W s0 s) : KeptR W s0 (execSdInfo id s) := by
  unfold execSdInfo
  try dsimp only
  with_reducible
    repeat' first
      | assumption | refine kept_sdInfo ?_ | refine keptR_next ?_

theorem kept_sdWrite {s0 : State} {s : State} {id : Nat} {good : Nat} {stop : Nat} (h0 : Kept W s0 s)
    : Kept W s0 (State.sdWrite s id good stop) := by
  unfold State.sdWrite
  try dsimp only
  with_reducible
    repeat' first
      | assumption | refine kept_sdIdle ?_ | refine kept_setResult ?_ | refine kept_sdFail ?_ | refine kept_emit ?_
      | refine kept_foldl (fun _ _ _ => ?_) ?_ | split

theorem kept_fwActivate {s0 : State} {s : State} {starts : Bool} (h0 : Kept W s0 s) (w_ohost : W.ohost = true)
    : Kept W s0 (State.fwActivate s starts) := by
  unfold State.fwActivate
  try dsimp only
  with_reducible
    repeat' first
      | assumption | refine kept_modOfl ?_ (fun _ => ?_) | refine kept_inc ?_ | refine kept_fwShow ?_ | refine kept_put ?_
      | refine kept_oflComplete ?_ ?_ | refine kept_oflEvent ?_ ?_ | refine kept_ev ?_ | refine kept_oflShow ?_
      | refine kept_ite (fun _ => ?_) (fun _ => ?_) | refine keptR_ite (fun _ => ?_) (fun _ => ?_)
      | refine kept_fst_ite (fun _ => ?_) (fun _ => ?_) | refine kept_id ?_ | simp only [kept_mk] | refine kept_foldl (fun _ _ _ => ?_) ?_
      | refine kept_fst_foldl (fun _ _ _ => ?_) ?_ | refine keptR_next ?_ | exact keptR_fault | exact keptR_refused | refine keptO_some ?_
      | exact keptO_none | exact fun h => h | exact fun h => Mem.write_wf h | exact fun h => Mem.zero_wf h | exact fun h => Mem.set_wf h
      | exact fun h => Mem.filter_wf h | exact fun h => rising_filter h | exact fun h => RegFile.wr_rising h
      | exact fun h => RegFile.put_rising h | exact fun h => judgeSet_rising h | exact fun _ => rfl | exact fun _ => Mem.nil_wf | split

theorem kept_execFirmwareActivation {s0 : State} {starts : Bool} {s : State} (h1 : Kept W s0 s) (w_ohost : W.ohost = true)
    : KeptR W s0 (execFirmwareActivation starts s) := by
  unfold execFirmwareActivation
  try dsimp only
  with_reducible
    repeat' first
      | assumption | refine kept_fwActivate ?_ ?_ | refine keptR_next ?_

theorem kept_execPeerCreditWrite {s0 : State} {r : Nat} {off : Nat} {v : Nat} {s : State} (h3 : Kept W s0 s)
    : KeptR W s0 (execPeerCreditWrite r off v s) := by
  unfold execPeerCreditWrite
  try dsimp only
  with_reducible
    repeat' first
      | assumption | refine kept_wr ?_ | refine keptR_next ?_ | refine keptR_ite (fun _ => ?_) (fun _ => ?_)
      | refine kept_ite (fun _ => ?_) (fun _ => ?_)

theorem kept_execChannelRelease {s0 : State} {ch : Nat} {byHost : Bool} {s : State} (h2 : Kept W s0 s)
    : KeptR W s0 (execChannelRelease ch byHost s) := by
  unfold execChannelRelease
  try dsimp only
  with_reducible
    repeat' first
      | assumption | refine kept_onUnit ?_ (fun _ _ => ?_) | refine kept_channelRelease ?_ | refine keptR_next ?_
      | refine keptR_ite (fun _ => ?_) (fun _ => ?_) | refine kept_ite (fun _ => ?_) (fun _ => ?_)

theorem kept_execCapDrain {s0 : State} {p : Nat} {v : Nat} {s : State} (h2 : Kept W s0 s) : KeptR W s0 (execCapDrain p v s) := by
  unfold execCapDrain
  try dsimp only
  with_reducible
    repeat' first
      | assumption | refine kept_onUnit ?_ (fun _ _ => ?_) | refine kept_capDrain ?_ | refine keptR_next ?_
      | refine keptR_ite (fun _ => ?_) (fun _ => ?_)

theorem kept_execDtSwitch {s0 : State} {v : Nat} {s : State} (h1 : Kept W s0 s) : KeptR W s0 (execDtSwitch v s) := by
  unfold execDtSwitch
  try dsimp only
  with_reducible
    repeat' first
      | assumption | refine kept_onUnit ?_ (fun _ _ => ?_) | refine kept_dtCtrl ?_ | refine keptR_next ?_

theorem kept_execSkyOpBarrier {s0 : State} {arg : Nat} {s : State} (h1 : Kept W s0 s) : KeptR W s0 (execSkyOpBarrier arg s) := by
  unfold execSkyOpBarrier
  try dsimp only
  with_reducible
    repeat' first
      | assumption | refine kept_onUnit ?_ (fun _ _ => ?_) | refine kept_skyArriveHost ?_ | refine keptR_next ?_

theorem kept_execSkyRequest {s0 : State} {m : Sys2Proof.SkyMsg} {s : State} (h1 : Kept W s0 s) : KeptR W s0 (execSkyRequest m s) := by
  unfold execSkyRequest
  try dsimp only
  with_reducible
    repeat' first
      | assumption | refine kept_skyReceive ?_ (fun _ _ _ => ?_) | refine kept_onRequest ?_ | refine keptR_next ?_

theorem kept_genlockLoss {s0 : State} {s : State} (h0 : Kept W s0 s) : Kept W s0 (State.genlockLoss s) := by
  unfold State.genlockLoss
  try dsimp only
  with_reducible
    repeat' first
      | assumption | refine kept_modTime ?_ | refine kept_put ?_ | refine kept_ev ?_ | refine kept_ite (fun _ => ?_) (fun _ => ?_)

theorem kept_execGenlockLoss {s0 : State} {s : State} (h0 : Kept W s0 s) : KeptR W s0 (execGenlockLoss s) := by
  unfold execGenlockLoss
  try dsimp only
  with_reducible
    repeat' first
      | assumption | refine kept_genlockLoss ?_ | refine keptR_next ?_

theorem kept_execCmdqTailDoorbell {s0 : State} {r : Nat} {v : Nat} {s : State} (h2 : Kept W s0 s) : KeptR W s0 (execCmdqTailDoorbell r v s)
    := by
  unfold execCmdqTailDoorbell
  try dsimp only
  with_reducible
    repeat' first
      | assumption | refine kept_onUnit ?_ (fun _ _ => ?_) | refine kept_cmdqTail ?_ | refine keptR_next ?_

theorem kept_exResync {s0 : State} {s : State} (h0 : Kept W s0 s) (w_media : W.media = true) : Kept W s0 (State.exResync s) := by
  unfold State.exResync
  try dsimp only
  with_reducible
    repeat' first
      | assumption | refine kept_rowStore ?_ ?_ | refine kept_put ?_ | refine kept_foldl (fun _ _ _ => ?_) ?_ | split

theorem kept_sdCard {s0 : State} {s : State} {present : Bool} {mode : Nat} (h0 : Kept W s0 s) : Kept W s0 (State.sdCard s present mode) := by
  unfold State.sdCard
  try dsimp only
  with_reducible
    repeat' first
      | assumption | refine kept_put ?_ | refine kept_ev ?_ | refine kept_ite (fun _ => ?_) (fun _ => ?_)

theorem kept_execEvSdCard {s0 : State} {present : Bool} {mode : Nat} {s : State} (h2 : Kept W s0 s)
    : KeptR W s0 (execEvSdCard present mode s) := by
  unfold execEvSdCard
  try dsimp only
  with_reducible
    repeat' first
      | assumption | refine kept_sdCard ?_ | refine keptR_next ?_

theorem kept_execSkyKey {s0 : State} {id : Nat} {s : State} (h1 : Kept W s0 s) : KeptR W s0 (execSkyKey id s) := by
  unfold execSkyKey
  try dsimp only
  with_reducible
    repeat' first
      | assumption | refine kept_skyKey ?_ | refine keptR_next ?_

theorem kept_i2cRetryDelay {s0 : State} {s : State} {c : Nat} (h0 : Kept W s0 s) : Kept W s0 (State.i2cRetryDelay s c) := by
  unfold State.i2cRetryDelay
  try dsimp only
  with_reducible
    repeat' first
      | assumption | refine kept_i2cTry ?_ | refine kept_reachClk ?_ | refine kept_foldl (fun _ _ _ => ?_) ?_ | split

theorem kept_execI2cRetryDelay {s0 : State} {c : Nat} {s : State} (h1 : Kept W s0 s) : KeptR W s0 (execI2cRetryDelay c s) := by
  unfold execI2cRetryDelay
  try dsimp only
  with_reducible
    repeat' first
      | assumption | refine kept_i2cRetryDelay ?_ | refine keptR_next ?_

theorem kept_execEvCprDuskEnd {s0 : State} {mv : Nat} {s : State} (h1 : Kept W s0 s) : KeptR W s0 (execEvCprDuskEnd mv s) := by
  unfold execEvCprDuskEnd
  try dsimp only
  with_reducible
    repeat' first
      | assumption | refine kept_duskEnd ?_ | refine keptR_next ?_

theorem kept_audGroups {s0 : State} {s : State} {n : Nat} {ws : List Nat} (h0 : Kept W s0 s) : Kept W s0 (State.audGroups s n ws) := by
  unfold State.audGroups
  try dsimp only
  with_reducible
    repeat' first
      | assumption | refine kept_modAud ?_ | refine kept_foldl (fun _ _ _ => ?_) ?_ | split

theorem kept_memberIoFail {s0 : State} {s : State} {io : Nat} {timeout : Bool} (h0 : Kept W s0 s) (w_ohost : W.ohost = true)
    : Kept W s0 (State.memberIoFail s io timeout) := by
  unfold State.memberIoFail
  try dsimp only
  with_reducible
    repeat' first
      | assumption | refine kept_failMembers ?_ ?_ | refine kept_modOfl ?_ (fun _ => ?_) | refine kept_ioEnded ?_ ?_
      | refine kept_ite (fun _ => ?_) (fun _ => ?_) | refine keptR_ite (fun _ => ?_) (fun _ => ?_)
      | refine kept_fst_ite (fun _ => ?_) (fun _ => ?_) | refine kept_id ?_ | simp only [kept_mk] | refine kept_foldl (fun _ _ _ => ?_) ?_
      | refine kept_fst_foldl (fun _ _ _ => ?_) ?_ | refine keptR_next ?_ | exact keptR_fault | exact keptR_refused | refine keptO_some ?_
      | exact keptO_none | exact fun h => h | exact fun h => Mem.write_wf h | exact fun h => Mem.zero_wf h | exact fun h => Mem.set_wf h
      | exact fun h => Mem.filter_wf h | exact fun h => rising_filter h | exact fun h => RegFile.wr_rising h
      | exact fun h => RegFile.put_rising h | exact fun h => judgeSet_rising h | exact fun _ => rfl | exact fun _ => Mem.nil_wf | split

theorem kept_execMemberReadFail {s0 : State} {io : Nat} {timeout : Bool} {s : State} (h2 : Kept W s0 s) (w_ohost : W.ohost = true)
    : KeptR W s0 (execMemberReadFail io timeout s) := by
  unfold execMemberReadFail
  try dsimp only
  with_reducible
    repeat' first
      | assumption | refine kept_memberIoFail ?_ ?_ | refine keptR_next ?_

theorem kept_execTakeStart {s0 : State} {id : Nat} {s : State} (h1 : Kept W s0 s) (w_ohost : W.ohost = true)
    : KeptR W s0 (execTakeStart id s) := by
  unfold execTakeStart
  try dsimp only
  with_reducible
    repeat' first
      | assumption | refine kept_takeStart ?_ ?_ | refine keptR_next ?_

theorem kept_testStep {s0 : State} {s : State} {ok : Bool} (h0 : Kept W s0 s) : Kept W s0 (State.testStep s ok) := by
  unfold State.testStep
  try dsimp only
  with_reducible
    repeat' first
      | assumption | refine kept_modOfl ?_ (fun _ => ?_) | refine kept_put ?_ | refine kept_testEnd ?_
      | refine kept_ite (fun _ => ?_) (fun _ => ?_) | refine keptR_ite (fun _ => ?_) (fun _ => ?_)
      | refine kept_fst_ite (fun _ => ?_) (fun _ => ?_) | refine kept_id ?_ | simp only [kept_mk] | refine kept_foldl (fun _ _ _ => ?_) ?_
      | refine kept_fst_foldl (fun _ _ _ => ?_) ?_ | refine keptR_next ?_ | exact keptR_fault | exact keptR_refused | refine keptO_some ?_
      | exact keptO_none | exact fun h => h | exact fun h => Mem.write_wf h | exact fun h => Mem.zero_wf h | exact fun h => Mem.set_wf h
      | exact fun h => Mem.filter_wf h | exact fun h => rising_filter h | exact fun h => RegFile.wr_rising h
      | exact fun h => RegFile.put_rising h | exact fun h => judgeSet_rising h | exact fun _ => rfl | exact fun _ => Mem.nil_wf | split

theorem kept_execSelfTestStep {s0 : State} {ok : Bool} {s : State} (h1 : Kept W s0 s) : KeptR W s0 (execSelfTestStep ok s) := by
  unfold execSelfTestStep
  try dsimp only
  with_reducible
    repeat' first
      | assumption | refine kept_testStep ?_ | refine keptR_next ?_

theorem kept_reachFrame {s0 : State} {s : State} {n : Nat} (h0 : Kept W s0 s) : Kept W s0 (State.reachFrame s n) := by
  unfold State.reachFrame
  try dsimp only
  with_reducible
    repeat' first
      | assumption | refine kept_reach ?_ | refine kept_advance ?_ | refine kept_ite (fun _ => ?_) (fun _ => ?_)

theorem kept_execStandbyEnter {s0 : State} {v : Nat} {s : State} (h1 : Kept W s0 s) (w_ohost : W.ohost = true)
    : KeptR W s0 (execStandbyEnter v s) := by
  unfold execStandbyEnter
  try dsimp only
  with_reducible
    repeat' first
      | assumption | refine kept_onUnit ?_ (fun _ _ => ?_) | refine kept_standbyWrite ?_ ?_ | refine keptR_next ?_

theorem kept_execDrvRaiseFloor {s0 : State} {v : Nat} {s : State} (h1 : Kept W s0 s) : KeptR W s0 (execDrvRaiseFloor v s) := by
  unfold execDrvRaiseFloor
  try dsimp only
  with_reducible
    repeat' first
      | assumption | refine kept_drvRow (fun _ _ => ?_) ?_ | refine kept_drvStart ?_ (fun _ _ => ?_)
      | refine kept_ite (fun _ => ?_) (fun _ => ?_) | refine keptR_ite (fun _ => ?_) (fun _ => ?_)
      | refine kept_fst_ite (fun _ => ?_) (fun _ => ?_) | refine kept_id ?_

theorem kept_execCsi2Raw {s0 : State} {c : Nat} {h_ : Sys2Proof.CsiHdr} {data : Sys2Proof.Bytes} {full : Bool} {s : State}
    (h4 : Kept W s0 s) (w_hbm : W.hbm = true) : KeptR W s0 (execCsi2Raw c h_ data s full) := by
  unfold execCsi2Raw
  try dsimp only
  with_reducible
    repeat' first
      | assumption | refine kept_csiPacket ?_ (fun _ _ _ => ?_) | refine kept_bufferFull ?_ | refine kept_csiDropped ?_
      | refine kept_flagOpen ?_ | refine kept_csiCrc ?_ | refine kept_modOpen ?_ | refine kept_addToDie ?_ ?_ | refine keptR_next ?_
      | refine kept_foldl (fun _ _ _ => ?_) ?_ | split

theorem kept_execDisplayFrameStart {s0 : State} {s : State} (h0 : Kept W s0 s) : KeptR W s0 (execDisplayFrameStart s) := by
  unfold execDisplayFrameStart
  try dsimp only
  with_reducible
    repeat' first
      | assumption | refine kept_frameInstant ?_ | refine kept_linkShow ?_ | refine kept_inc ?_ | refine keptR_next ?_
      | refine keptR_ite (fun _ => ?_) (fun _ => ?_) | refine kept_ite (fun _ => ?_) (fun _ => ?_) | simp only [kept_mk]
      | refine kept_foldl (fun _ _ _ => ?_) ?_ | split

theorem kept_execCmdqPoll {s0 : State} {r : Nat} {s : State} (h1 : Kept W s0 s) : KeptR W s0 (execCmdqPoll r s) := by
  unfold execCmdqPoll
  try dsimp only
  with_reducible
    repeat' first
      | assumption | refine kept_cmdqLook ?_ | refine keptR_next ?_ | refine keptR_ite (fun _ => ?_) (fun _ => ?_)
      | refine kept_ite (fun _ => ?_) (fun _ => ?_)

theorem kept_dfuDetach {s0 : State} {s : State} (h0 : Kept W s0 s) : Kept W s0 (State.dfuDetach s) := by
  unfold State.dfuDetach
  try dsimp only
  with_reducible
    repeat' first
      | assumption | refine kept_usbAnswer ?_ | refine kept_usbState ?_ | refine kept_ite (fun _ => ?_) (fun _ => ?_)

theorem kept_execRateLimitedRecord {s0 : State} {typ : Nat} {inst : Nat} {s : State} (h2 : Kept W s0 s)
    : KeptR W s0 (execRateLimitedRecord typ inst s) := by
  unfold execRateLimitedRecord
  try dsimp only
  with_reducible
    repeat' first
      | assumption | refine kept_limitedDue ?_ | refine keptR_next ?_

theorem kept_createCq {s0 : State} {s : State} {c : Sys2Proof.NvmeCmd} {id : Nat} (h0 : Kept W s0 s) (w_ohost : W.ohost = true)
    : Kept W s0 (State.createCq s c id) := by
  unfold State.createCq
  try dsimp only
  with_reducible
    repeat' first
      | assumption | refine kept_modOfl ?_ (fun _ => ?_) | refine kept_oflComplete ?_ ?_ | refine kept_ite (fun _ => ?_) (fun _ => ?_)
      | refine keptR_ite (fun _ => ?_) (fun _ => ?_) | refine kept_fst_ite (fun _ => ?_) (fun _ => ?_) | refine kept_id ?_
      | simp only [kept_mk] | refine kept_foldl (fun _ _ _ => ?_) ?_ | refine kept_fst_foldl (fun _ _ _ => ?_) ?_ | refine keptR_next ?_
      | exact keptR_fault | exact keptR_refused | refine keptO_some ?_ | exact keptO_none | exact fun h => h

theorem kept_ringPutFrame {s0 : State} {s : State} {n : Nat} {ws : List Nat} (h0 : Kept W s0 s) (w_hbm : W.hbm = true)
    : Kept W s0 (State.ringPutFrame s n ws) := by
  unfold State.ringPutFrame
  try dsimp only
  with_reducible
    repeat' first
      | assumption | refine kept_put ?_ | refine kept_hbmWrite ?_ ?_ | refine kept_wr ?_ | refine kept_foldl (fun _ _ _ => ?_) ?_ | split

theorem kept_recAudio {s0 : State} {s : State} {port : Nat} {rate : Nat} {channels : Nat} {tb3 : Nat} {faded : Nat} {b : Sys2Proof.Bytes}
    (h0 : Kept W s0 s) : Kept W s0 (State.recAudio s port rate channels tb3 faded b) := by
  unfold State.recAudio
  try dsimp only
  with_reducible
    repeat' first
      | assumption | refine kept_modRec ?_

theorem kept_sampleFrame {s0 : State} {s : State} {n : Nat} {captured : Sys2Proof.Bytes} (h0 : Kept W s0 s) (w_hbm : W.hbm = true)
    : Kept W s0 (State.sampleFrame s n captured) := by
  unfold State.sampleFrame
  try dsimp only
  with_reducible
    repeat' first
      | assumption | refine kept_reachFrame ?_ | refine kept_audBegin ?_ | refine kept_elasticFrame ?_ | refine kept_tdmFrame ?_
      | refine kept_ringPutFrame ?_ ?_ | refine kept_playFrame ?_ | refine kept_emit ?_ | refine kept_wr64 ?_ | refine kept_recAudio ?_
      | refine kept_audGroups ?_ | refine kept_modPort ?_ | refine kept_audHalt ?_ | refine kept_foldl (fun _ _ _ => ?_) ?_ | split

theorem kept_execSampleFrame {s0 : State} {n : Nat} {captured : Sys2Proof.Bytes} {s : State} (h2 : Kept W s0 s) (w_hbm : W.hbm = true)
    : KeptR W s0 (execSampleFrame n captured s) := by
  unfold execSampleFrame
  try dsimp only
  with_reducible
    repeat' first
      | assumption | refine kept_audRow (fun _ _ => ?_) ?_ | refine kept_sampleFrame ?_ ?_

theorem kept_execMediaClose {s0 : State} {id : Nat} {s : State} (h1 : Kept W s0 s) (w_ohost : W.ohost = true)
    : KeptR W s0 (execMediaClose id s) := by
  unfold execMediaClose
  try dsimp only
  with_reducible
    repeat' first
      | assumption | refine kept_mediaClose ?_ ?_ | refine keptR_next ?_

theorem kept_execDrvWriteSlotB {s0 : State} {v : Nat} {s : State} (h1 : Kept W s0 s) (w_mram : W.mram = true)
    : KeptR W s0 (execDrvWriteSlotB v s) := by
  unfold execDrvWriteSlotB
  try dsimp only
  with_reducible
    repeat' first
      | assumption | refine kept_drvRow (fun _ _ => ?_) ?_ | refine kept_drvStart ?_ (fun _ _ => ?_) | refine kept_slotBody ?_ ?_

theorem kept_execZstJobComplete {s0 : State} {e : Nat} {s : State} (h1 : Kept W s0 s) (w_hbm : W.hbm = true) (w_host : W.host = true)
    (w_ohost : W.ohost = true) : KeptR W s0 (execZstJobComplete e s) := by
  unfold execZstJobComplete
  try dsimp only
  with_reducible
    repeat' first
      | assumption | refine kept_zstComplete ?_ ?_ ?_ ?_ | refine keptR_next ?_

theorem kept_execTestFailedPair {s0 : State} {v : Nat} {pass : Bool} {s : State} (h2 : Kept W s0 s)
    : KeptR W s0 (execTestFailedPair v pass s) := by
  unfold execTestFailedPair
  try dsimp only
  with_reducible
    repeat' first
      | assumption | refine kept_onUnit ?_ (fun _ _ => ?_) | refine kept_testPair ?_ | refine keptR_next ?_

theorem kept_execEvqReset {s0 : State} {q : Nat} {s : State} (h1 : Kept W s0 s) : KeptR W s0 (execEvqReset q s) := by
  unfold execEvqReset
  try dsimp only
  with_reducible
    repeat' first
      | assumption | refine kept_onUnit ?_ (fun _ _ => ?_) | refine kept_evqReset ?_ | refine keptR_next ?_

theorem kept_execSkyLost {s0 : State} {m : Sys2Proof.SkyMsg} {s : State} (h1 : Kept W s0 s) : KeptR W s0 (execSkyLost m s) := by
  unfold execSkyLost
  try dsimp only
  with_reducible
    repeat' first
      | assumption | refine kept_skyReceive ?_ (fun _ _ _ => ?_) | refine kept_onLost ?_ | refine keptR_next ?_

theorem kept_execSnapComplete {s0 : State} {s : State} (h0 : Kept W s0 s) : KeptR W s0 (execSnapComplete s) := by
  unfold execSnapComplete
  try dsimp only
  with_reducible
    repeat' first
      | assumption | refine kept_put ?_ | refine kept_emit ?_ | refine keptR_next ?_ | refine keptR_ite (fun _ => ?_) (fun _ => ?_)
      | refine kept_ite (fun _ => ?_) (fun _ => ?_) | simp only [kept_mk] | refine kept_foldl (fun _ _ _ => ?_) ?_

theorem kept_execDsiCommand {s0 : State} {d : Nat} {v : Nat} {s : State} (h2 : Kept W s0 s) : KeptR W s0 (execDsiCommand d v s) := by
  unfold execDsiCommand
  try dsimp only
  with_reducible
    repeat' first
      | assumption | refine kept_onUnit ?_ (fun _ _ => ?_) | refine kept_dsiCmd ?_ | refine keptR_next ?_
      | refine keptR_ite (fun _ => ?_) (fun _ => ?_) | refine kept_ite (fun _ => ?_) (fun _ => ?_)

theorem kept_fenceDone {s0 : State} {s : State} (h0 : Kept W s0 s) (w_ohost : W.ohost = true) : Kept W s0 (State.fenceDone s) := by
  unfold State.fenceDone
  try dsimp only
  with_reducible
    repeat' first
      | assumption | refine kept_ckptFence ?_ ?_ | refine kept_commitFence ?_ ?_ | refine kept_duskAdvance ?_ | refine kept_startCkpt ?_
      | refine kept_foldl (fun _ _ _ => ?_) ?_ | split

theorem kept_onAnnounce {s0 : State} {s : State} {m : Sys2Proof.Machine.SkyIn} (h0 : Kept W s0 s) : Kept W s0 (State.onAnnounce s m) := by
  unfold State.onAnnounce
  try dsimp only
  with_reducible
    repeat' first
      | assumption | refine kept_putPeer ?_ | refine kept_modSky ?_ | refine kept_skyAssignSend ?_ | refine kept_skyPlace ?_
      | refine kept_skyStands ?_ | refine kept_ite (fun _ => ?_) (fun _ => ?_) | simp only [kept_mk]
      | refine kept_foldl (fun _ _ _ => ?_) ?_ | split

theorem kept_execSkyAnnounce {s0 : State} {m : Sys2Proof.SkyMsg} {s : State} (h1 : Kept W s0 s) : KeptR W s0 (execSkyAnnounce m s) := by
  unfold execSkyAnnounce
  try dsimp only
  with_reducible
    repeat' first
      | assumption | refine kept_skyReceive ?_ (fun _ _ _ => ?_) | refine kept_onAnnounce ?_ | refine keptR_next ?_

theorem kept_sqDoorbell {s0 : State} {s : State} {q : Nat} {tail : Nat} (h0 : Kept W s0 s) (w_ohost : W.ohost = true)
    : Kept W s0 (State.sqDoorbell s q tail) := by
  unfold State.sqDoorbell
  try dsimp only
  with_reducible
    repeat' first
      | assumption | refine kept_oflEvent ?_ ?_ | refine kept_psWake ?_ | refine kept_modOfl ?_ (fun _ => ?_)
      | refine kept_ite (fun _ => ?_) (fun _ => ?_) | refine keptR_ite (fun _ => ?_) (fun _ => ?_)
      | refine kept_fst_ite (fun _ => ?_) (fun _ => ?_) | refine kept_id ?_ | simp only [kept_mk] | refine kept_foldl (fun _ _ _ => ?_) ?_
      | refine kept_fst_foldl (fun _ _ _ => ?_) ?_ | refine keptR_next ?_ | exact keptR_fault | exact keptR_refused | refine keptO_some ?_
      | exact keptO_none | exact fun h => h | exact fun h => Mem.write_wf h | exact fun h => Mem.zero_wf h | exact fun h => Mem.set_wf h
      | exact fun h => Mem.filter_wf h | exact fun h => rising_filter h | exact fun h => RegFile.wr_rising h
      | exact fun h => RegFile.put_rising h | exact fun h => judgeSet_rising h | exact fun _ => rfl | exact fun _ => Mem.nil_wf | split

theorem kept_execNvmeSqDoorbell {s0 : State} {q : Nat} {tail : Nat} {s : State} (h2 : Kept W s0 s) (w_ohost : W.ohost = true)
    : KeptR W s0 (execNvmeSqDoorbell q tail s) := by
  unfold execNvmeSqDoorbell
  try dsimp only
  with_reducible
    repeat' first
      | assumption | refine kept_sqDoorbell ?_ ?_ | refine keptR_next ?_

theorem kept_hostReset {s0 : State} {s : State} {kind : Sys2Proof.HostResetKind} (h0 : Kept W s0 s) : Kept W s0 (State.hostReset s kind)
    := by
  unfold State.hostReset
  try dsimp only
  with_reducible
    repeat' first
      | assumption | refine kept_emit ?_ | refine kept_doneOff ?_ | refine kept_ringsOff ?_ | refine kept_put ?_
      | refine kept_ownerReset ?_ | refine kept_mediaHostOff ?_ | refine kept_zstHostOff ?_ | refine kept_ite (fun _ => ?_) (fun _ => ?_)
      | simp only [kept_mk] | refine kept_foldl (fun _ _ _ => ?_) ?_

theorem kept_execNvmeIdentify {s0 : State} {c : Sys2Proof.NvmeCmd} {s : State} (h1 : Kept W s0 s) (w_ohost : W.ohost = true)
    : KeptR W s0 (execNvmeIdentify c s) := by
  unfold execNvmeIdentify
  try dsimp only
  with_reducible
    repeat' first
      | assumption | refine kept_admin ?_ (fun _ _ _ => ?_) ?_ | refine kept_identify ?_ ?_ | refine keptR_next ?_

theorem kept_execHostFunctionReset {s0 : State} {kind : Sys2Proof.HostResetKind} {s : State} (h1 : Kept W s0 s)
    : KeptR W s0 (execHostFunctionReset kind s) := by
  unfold execHostFunctionReset
  try dsimp only
  with_reducible
    repeat' first
      | assumption | refine kept_hostReset ?_ | refine keptR_next ?_

theorem kept_execCapFrame {s0 : State} {p : Nat} {fid : Nat} {s : State} (h2 : Kept W s0 s) (w_hbm : W.hbm = true)
    : KeptR W s0 (execCapFrame p fid s) := by
  unfold execCapFrame
  try dsimp only
  with_reducible
    repeat' first
      | assumption | refine kept_capFrame ?_ ?_ | refine keptR_next ?_

theorem kept_drainOne {s0 : State} {s : State} {d : Nat} (h0 : Kept W s0 s) (w_mram : W.mram = true) : Kept W s0 (State.drainOne s d) := by
  unfold State.drainOne
  try dsimp only
  with_reducible
    repeat' first
      | assumption | refine kept_reachClk ?_ | refine kept_modDest ?_ | refine kept_ethSend ?_ | refine kept_bbPut ?_ ?_
      | refine kept_foldl (fun _ _ _ => ?_) ?_ | split

theorem kept_spaceFreed {s0 : State} {s : State} {d : Nat} (h0 : Kept W s0 s) (w_hbm : W.hbm = true) (w_host : W.host = true)
    (w_mram : W.mram = true) : Kept W s0 (State.spaceFreed s d) := by
  unfold State.spaceFreed
  try dsimp only
  with_reducible
    repeat' first
      | assumption | refine kept_flushAll ?_ ?_ ?_ | refine kept_drainOne ?_ ?_ | refine kept_ite (fun _ => ?_) (fun _ => ?_)

theorem kept_execTrailSpaceFreed {s0 : State} {d : Nat} {s : State} (h1 : Kept W s0 s) (w_hbm : W.hbm = true) (w_host : W.host = true)
    (w_mram : W.mram = true) : KeptR W s0 (execTrailSpaceFreed d s) := by
  unfold execTrailSpaceFreed
  try dsimp only
  with_reducible
    repeat' first
      | assumption | refine kept_spaceFreed ?_ ?_ ?_ ?_ | refine keptR_next ?_ | refine keptR_ite (fun _ => ?_) (fun _ => ?_)
      | refine kept_ite (fun _ => ?_) (fun _ => ?_)

theorem kept_execRebuildRow {s0 : State} {readFailed : List Nat} {s : State} (h1 : Kept W s0 s) (w_media : W.media = true)
    (w_ohost : W.ohost = true) : KeptR W s0 (execRebuildRow readFailed s) := by
  unfold execRebuildRow
  try dsimp only
  with_reducible
    repeat' first
      | assumption | refine kept_onRec ?_ (fun _ _ => ?_) | refine kept_rebuildRow ?_ ?_ ?_ | refine keptR_next ?_

theorem kept_execDsiReadResponse {s0 : State} {d : Nat} {data : Sys2Proof.Bytes} {report : Nat} {s : State} (h3 : Kept W s0 s)
    : KeptR W s0 (execDsiReadResponse d data report s) := by
  unfold execDsiReadResponse
  try dsimp only
  with_reducible
    repeat' first
      | assumption | refine kept_wr ?_ | refine kept_put ?_ | refine kept_dsiErr ?_ | refine kept_dsiCmdEnd ?_ | refine keptR_next ?_
      | refine keptR_ite (fun _ => ?_) (fun _ => ?_) | refine kept_ite (fun _ => ?_) (fun _ => ?_)

theorem kept_execSemRelease {s0 : State} {n : Nat} {rq : Nat} {s : State} (h2 : Kept W s0 s) : KeptR W s0 (execSemRelease n rq s) := by
  unfold execSemRelease
  try dsimp only
  with_reducible
    repeat' first
      | assumption | refine kept_onUnit ?_ (fun _ _ => ?_) | refine kept_setOwner ?_ | refine keptR_next ?_
      | refine keptR_ite (fun _ => ?_) (fun _ => ?_) | refine kept_ite (fun _ => ?_) (fun _ => ?_)

theorem kept_execRailOffsetStep {s0 : State} {r : Nat} {ok : Bool} {s : State} (h2 : Kept W s0 s) : KeptR W s0 (execRailOffsetStep r ok s)
    := by
  unfold execRailOffsetStep
  try dsimp only
  with_reducible
    repeat' first
      | assumption | refine kept_railStep ?_ | refine keptR_next ?_ | refine keptR_ite (fun _ => ?_) (fun _ => ?_)
      | refine kept_ite (fun _ => ?_) (fun _ => ?_)

theorem kept_execEvSdiIn {s0 : State} {i : Nat} {locked : Bool} {std : Nat} {_transfer : Nat} {s : State} (h4 : Kept W s0 s)
    : KeptR W s0 (execEvSdiIn i locked std _transfer s) := by
  unfold execEvSdiIn
  try dsimp only
  with_reducible
    repeat' first
      | assumption | refine kept_put ?_ | refine kept_ev ?_ | refine keptR_next ?_ | refine keptR_ite (fun _ => ?_) (fun _ => ?_)
      | refine kept_ite (fun _ => ?_) (fun _ => ?_)

theorem kept_execFrontIssue {s0 : State} {counter : Nat} {s : State} (h1 : Kept W s0 s) (w_hbm : W.hbm = true) (w_lut : W.lut = true)
    : KeptR W s0 (execFrontIssue counter s) := by
  unfold execFrontIssue
  try dsimp only
  with_reducible
    repeat' first
      | assumption | refine kept_frontBoundary ?_ ?_ ?_ | refine keptR_next ?_

theorem kept_execRctFrame {s0 : State} {tile : Nat} {fid : Nat} {s : State} (h2 : Kept W s0 s) (w_hbm : W.hbm = true)
    : KeptR W s0 (execRctFrame tile fid s) := by
  unfold execRctFrame
  try dsimp only
  with_reducible
    repeat' first
      | assumption | refine kept_rctFrame ?_ ?_ | refine keptR_next ?_

theorem kept_skyDecisionTime {s0 : State} {s : State} (h0 : Kept W s0 s) : Kept W s0 (State.skyDecisionTime s) := by
  unfold State.skyDecisionTime
  try dsimp only
  with_reducible
    repeat' first
      | assumption | refine kept_skyNext ?_ | refine kept_skyRootDecide ?_ | refine kept_reachDt ?_
      | refine kept_foldl (fun _ _ _ => ?_) ?_ | split

theorem kept_execRootDecision {s0 : State} {s : State} (h0 : Kept W s0 s) : KeptR W s0 (execRootDecision s) := by
  unfold execRootDecision
  try dsimp only
  with_reducible
    repeat' first
      | assumption | refine kept_skyDecisionTime ?_ | refine keptR_next ?_

theorem kept_cqDoorbell {s0 : State} {s : State} {q : Nat} {head : Nat} (h0 : Kept W s0 s) (w_ohost : W.ohost = true)
    : Kept W s0 (State.cqDoorbell s q head) := by
  unfold State.cqDoorbell
  try dsimp only
  with_reducible
    repeat' first
      | assumption | refine kept_oflEvent ?_ ?_ | refine kept_oflShow ?_ | refine kept_oflPostAll ?_ ?_
      | refine kept_modOfl ?_ (fun _ => ?_) | refine kept_ite (fun _ => ?_) (fun _ => ?_) | refine keptR_ite (fun _ => ?_) (fun _ => ?_)
      | refine kept_fst_ite (fun _ => ?_) (fun _ => ?_) | refine kept_id ?_ | simp only [kept_mk] | refine kept_foldl (fun _ _ _ => ?_) ?_
      | refine kept_fst_foldl (fun _ _ _ => ?_) ?_ | refine keptR_next ?_ | exact keptR_fault | exact keptR_refused | refine keptO_some ?_
      | exact keptO_none | exact fun h => h | exact fun h => Mem.write_wf h | exact fun h => Mem.zero_wf h | exact fun h => Mem.set_wf h
      | exact fun h => Mem.filter_wf h | exact fun h => rising_filter h | exact fun h => RegFile.wr_rising h
      | exact fun h => RegFile.put_rising h | exact fun h => judgeSet_rising h | exact fun _ => rfl | exact fun _ => Mem.nil_wf | split

end Sys2Proof.Machine
end

