-- ==== Sys2Proof/Laws/Kept6.lean ====
section
/-! SUPPORT. What each helper and each meaning keeps, part 6, up to the meanings of the commands: one lemma per function, named after it. -/

namespace Sys2Proof.Machine

variable {W : Writes}

theorem kept_oflWord {s0 : State} {s : State} {off : Nat} {v : Nat} (h0 : Kept W s0 s) (w_ohost : W.ohost = true)
    : Kept W s0 (State.oflWord s off v) := by
  unfold State.oflWord
  try dsimp only
  with_reducible
    repeat' first
      | assumption | refine kept_modOfl ?_ (fun _ => ?_) | refine kept_ccWrite ?_ ?_ | refine kept_sqDoorbell ?_ ?_
      | refine kept_cqDoorbell ?_ ?_ | refine kept_ite (fun _ => ?_) (fun _ => ?_) | refine keptR_ite (fun _ => ?_) (fun _ => ?_)
      | refine kept_fst_ite (fun _ => ?_) (fun _ => ?_) | refine kept_id ?_ | simp only [kept_mk] | refine kept_foldl (fun _ _ _ => ?_) ?_
      | refine kept_fst_foldl (fun _ _ _ => ?_) ?_ | refine keptR_next ?_ | exact keptR_fault | exact keptR_refused | refine keptO_some ?_
      | exact keptO_none | exact fun h => h

theorem kept_execFs {s0 : State} {g : Nat} {pkt : Sys2Proof.Bytes} {s : State} (h2 : Kept W s0 s) (w_hbm : W.hbm = true)
    (w_lut : W.lut = true) : KeptR W s0 (execFs g pkt s) := by
  unfold execFs
  try dsimp only
  with_reducible
    repeat' first
      | assumption | refine kept_packetRow ?_ ?_ ?_ | refine keptR_next ?_

theorem kept_execDfuDnload {s0 : State} {blk : Nat} {data : Sys2Proof.Bytes} {s : State} (h2 : Kept W s0 s) (w_hbm : W.hbm = true)
    : KeptR W s0 (execDfuDnload blk data s) := by
  unfold execDfuDnload
  try dsimp only
  with_reducible
    repeat' first
      | assumption | refine kept_dfuDnload ?_ ?_ | refine keptR_next ?_

theorem kept_execSkyEnable {s0 : State} {s : State} (h0 : Kept W s0 s) : KeptR W s0 (execSkyEnable s) := by
  unfold execSkyEnable
  try dsimp only
  with_reducible
    repeat' first
      | assumption | refine kept_onUnit ?_ (fun _ _ => ?_) | refine kept_skyEnable ?_ | refine keptR_next ?_

theorem kept_execSkyCommit {s0 : State} {m : Sys2Proof.SkyMsg} {s : State} (h1 : Kept W s0 s) : KeptR W s0 (execSkyCommit m s) := by
  unfold execSkyCommit
  try dsimp only
  with_reducible
    repeat' first
      | assumption | refine kept_skyReceive ?_ (fun _ _ _ => ?_) | refine kept_onCommit ?_ | refine keptR_next ?_

theorem kept_execSegmentRelease {s0 : State} {p : Nat} {v : Nat} {s : State} (h2 : Kept W s0 s) : KeptR W s0 (execSegmentRelease p v s) := by
  unfold execSegmentRelease
  try dsimp only
  with_reducible
    repeat' first
      | assumption | refine kept_onUnit ?_ (fun _ _ => ?_) | refine kept_capSegrel ?_ | refine keptR_next ?_
      | refine keptR_ite (fun _ => ?_) (fun _ => ?_)

theorem kept_execDuskHoldEnd {s0 : State} {mv : Nat} {s : State} (h1 : Kept W s0 s) (w_hbm : W.hbm = true) (w_lut : W.lut = true)
    : KeptR W s0 (execDuskHoldEnd mv s) := by
  unfold execDuskHoldEnd
  try dsimp only
  with_reducible
    repeat' first
      | assumption | refine kept_holdEnd ?_ ?_ ?_ | refine keptR_next ?_

theorem kept_execSkyOpReset {s0 : State} {arg : Nat} {s : State} (h1 : Kept W s0 s) : KeptR W s0 (execSkyOpReset arg s) := by
  unfold execSkyOpReset
  try dsimp only
  with_reducible
    repeat' first
      | assumption | refine kept_onUnit ?_ (fun _ _ => ?_) | refine kept_skyAsk ?_ | refine keptR_next ?_

theorem kept_smbusWrite {s0 : State} {s : State} {addr : Nat} {cmd : Nat} {data : Sys2Proof.Bytes} {crc : Option Nat} (h0 : Kept W s0 s)
    : Kept W s0 (State.smbusWrite s addr cmd data crc) := by
  unfold State.smbusWrite
  try dsimp only
  with_reducible
    repeat' first
      | assumption | refine kept_smbNak ?_ | refine kept_smbError ?_ | refine kept_smbStore ?_ | refine kept_inc ?_ | refine kept_put ?_
      | refine kept_ev ?_ | refine kept_foldl (fun _ _ _ => ?_) ?_ | split

theorem kept_execRowWriteComplete {s0 : State} {row : Nat} {failed : List Nat} {s : State} (h2 : Kept W s0 s) (w_media : W.media = true)
    (w_ohost : W.ohost = true) : KeptR W s0 (execRowWriteComplete row failed s) := by
  unfold execRowWriteComplete
  try dsimp only
  with_reducible
    repeat' first
      | assumption | refine kept_rowComplete ?_ ?_ ?_ | refine keptR_next ?_

theorem kept_execSkySnap {s0 : State} {m : Sys2Proof.SkyMsg} {s : State} (h1 : Kept W s0 s) : KeptR W s0 (execSkySnap m s) := by
  unfold execSkySnap
  try dsimp only
  with_reducible
    repeat' first
      | assumption | refine kept_skyReceive ?_ (fun _ _ _ => ?_) | refine kept_onSnap ?_ | refine keptR_next ?_

theorem kept_execBulkArm {s0 : State} {v : Nat} {s : State} (h1 : Kept W s0 s) : KeptR W s0 (execBulkArm v s) := by
  unfold execBulkArm
  try dsimp only
  with_reducible
    repeat' first
      | assumption | refine kept_onUnit ?_ (fun _ _ => ?_) | refine kept_bulkStart ?_ | refine kept_writeFields ?_ | refine keptR_next ?_

theorem kept_execHeldRecordFlush {s0 : State} {q : Nat} {s : State} (h1 : Kept W s0 s) (w_hbm : W.hbm = true) (w_host : W.host = true)
    : KeptR W s0 (execHeldRecordFlush q s) := by
  unfold execHeldRecordFlush
  try dsimp only
  with_reducible
    repeat' first
      | assumption | refine kept_flushAll ?_ ?_ ?_ | refine keptR_next ?_ | refine keptR_ite (fun _ => ?_) (fun _ => ?_)
      | refine kept_ite (fun _ => ?_) (fun _ => ?_)

theorem kept_execDrvLoadFullImage {s0 : State} {v : Nat} {s : State} (h1 : Kept W s0 s) : KeptR W s0 (execDrvLoadFullImage v s) := by
  unfold execDrvLoadFullImage
  try dsimp only
  with_reducible
    repeat' first
      | assumption | refine kept_drvRow (fun _ _ => ?_) ?_ | refine kept_drvLoad ?_

theorem kept_timeShown {s0 : State} {s : State} (h0 : Kept W s0 s) : Kept W s0 (State.timeShown s) := by
  unfold State.timeShown
  try dsimp only
  with_reducible
    repeat' first
      | assumption | refine kept_wr64 ?_ | refine kept_foldl (fun _ _ _ => ?_) ?_

theorem kept_bar4Word {s0 : State} {s : State} {off : Nat} {v : Nat} (h0 : Kept W s0 s) : Kept W s0 (State.bar4Word s off v) := by
  unfold State.bar4Word
  try dsimp only
  with_reducible
    repeat' first
      | assumption | refine kept_onUnit ?_ (fun _ _ => ?_) | refine kept_evqHead ?_ | refine kept_cmdqTail ?_
      | refine kept_ite (fun _ => ?_) (fun _ => ?_)

theorem kept_hostWriteTo {s0 : State} {s : State} {sp : Sys2Proof.HostSpace} {off : Nat} {size : Nat} {be : Nat} {v : Nat} (h0 : Kept W s0 s)
    (w_hbm : W.hbm = true) (w_lut : W.lut = true) (w_mram : W.mram = true) (w_ohost : W.ohost = true)
    : Kept W s0 (State.hostWriteTo s sp off size be v) := by
  unfold State.hostWriteTo
  try dsimp only
  with_reducible
    repeat' first
      | assumption | refine kept_aligned (fun _ _ _ _ => ?_) ?_ | refine kept_bar0Word ?_ ?_ ?_ ?_ ?_ | refine kept_msixTableWrite ?_
      | refine kept_bar4Word ?_ | refine kept_msixRelease ?_ | refine kept_oflTableWrite ?_ | refine kept_oflWord ?_ ?_
      | refine kept_oflMsixRelease ?_ | refine kept_modOfl ?_ (fun _ => ?_) | refine kept_ite (fun _ => ?_) (fun _ => ?_)
      | refine keptR_ite (fun _ => ?_) (fun _ => ?_) | refine kept_fst_ite (fun _ => ?_) (fun _ => ?_) | refine kept_id ?_
      | simp only [kept_mk] | refine kept_foldl (fun _ _ _ => ?_) ?_ | refine kept_fst_foldl (fun _ _ _ => ?_) ?_ | refine keptR_next ?_
      | exact keptR_fault | exact keptR_refused | refine keptO_some ?_ | exact keptO_none | exact fun h => h
      | exact fun h => Mem.write_wf h | exact fun h => Mem.zero_wf h | exact fun h => Mem.set_wf h | exact fun h => Mem.filter_wf h
      | exact fun h => rising_filter h | exact fun h => RegFile.wr_rising h | exact fun h => RegFile.put_rising h
      | exact fun h => judgeSet_rising h | exact fun _ => rfl | exact fun _ => Mem.nil_wf | split

theorem kept_execReplayComplete {s0 : State} {cls : Nat} {tile : Nat} {good : Bool} {s : State} (h3 : Kept W s0 s) (w_hbm : W.hbm = true)
    (w_ohost : W.ohost = true) : KeptR W s0 (execReplayComplete cls tile good s) := by
  unfold execReplayComplete
  try dsimp only
  with_reducible
    repeat' first
      | assumption | refine kept_replayEnd ?_ ?_ ?_ | refine keptR_next ?_

theorem kept_cmdqStart {s0 : State} {s : State} {p : Sys2Proof.Machine.Packet} (h0 : Kept W s0 s) (w_host : W.host = true)
    : Kept W s0 (State.cmdqStart s p) := by
  unfold State.cmdqStart
  try dsimp only
  with_reducible
    repeat' first
      | assumption | refine kept_cmdqPass ?_ | refine kept_cmdqLook ?_ | refine kept_cmdqFinish ?_ ?_ | refine kept_inc ?_
      | refine kept_cardBusy ?_ | refine kept_ite (fun _ => ?_) (fun _ => ?_) | simp only [kept_mk]

theorem kept_execFrameLeavesUnit {s0 : State} {u : Sys2Proof.FlowUnit} {p : Nat} {fid : Nat} {s : State} (h3 : Kept W s0 s)
    (w_hbm : W.hbm = true) (w_lut : W.lut = true) : KeptR W s0 (execFrameLeavesUnit u p fid s) := by
  unfold execFrameLeavesUnit
  try dsimp only
  with_reducible
    repeat' first
      | assumption | refine kept_frameLeaves ?_ ?_ ?_ | refine keptR_next ?_

theorem kept_execNvmeRead {s0 : State} {c : Sys2Proof.NvmeCmd} {s : State} (h1 : Kept W s0 s) (w_ohost : W.ohost = true)
    : KeptR W s0 (execNvmeRead c s) := by
  unfold execNvmeRead
  try dsimp only
  with_reducible
    repeat' first
      | assumption | refine kept_ioCmd ?_ (fun _ _ _ => ?_) ?_ | refine kept_oflReads ?_ ?_ | refine keptR_next ?_

theorem kept_execStandbyExited {s0 : State} {s : State} (h0 : Kept W s0 s) (w_hbm : W.hbm = true) (w_lut : W.lut = true)
    (w_ohost : W.ohost = true) : KeptR W s0 (execStandbyExited s) := by
  unfold execStandbyExited
  try dsimp only
  with_reducible
    repeat' first
      | assumption | refine kept_standbyExited ?_ ?_ ?_ ?_ | refine keptR_next ?_

theorem kept_labelUnit {s0 : State} {s : State} {unit_ : Nat} {label : Sys2Proof.Bytes} (h0 : Kept W s0 s) (w_media : W.media = true)
    : Kept W s0 (State.labelUnit s unit_ label) := by
  unfold State.labelUnit
  try dsimp only
  with_reducible
    repeat' first
      | assumption | refine kept_mediaWrite ?_ ?_ | refine kept_ite (fun _ => ?_) (fun _ => ?_)
      | refine keptR_ite (fun _ => ?_) (fun _ => ?_) | refine kept_fst_ite (fun _ => ?_) (fun _ => ?_) | refine kept_id ?_
      | simp only [kept_mk] | refine kept_foldl (fun _ _ _ => ?_) ?_ | refine kept_fst_foldl (fun _ _ _ => ?_) ?_ | refine keptR_next ?_
      | exact keptR_fault | exact keptR_refused | refine keptO_some ?_ | exact keptO_none | exact fun h => h
      | exact fun h => Mem.write_wf h | exact fun h => Mem.zero_wf h | exact fun h => Mem.set_wf h | exact fun h => Mem.filter_wf h
      | exact fun h => rising_filter h | exact fun h => RegFile.wr_rising h | exact fun h => RegFile.put_rising h
      | exact fun h => judgeSet_rising h | exact fun _ => rfl | exact fun _ => Mem.nil_wf | split | refine kept_mk_regs ?_ ?_
      | refine kept_mk_host ?_ ?_ ?_ | refine kept_mk_ohost ?_ ?_ ?_ | refine kept_mk_hbm ?_ ?_ ?_ | refine kept_mk_mram ?_ ?_ ?_
      | refine kept_mk_lut ?_ ?_ ?_ | refine kept_mk_ofl ?_ ?_ | refine kept_mk_media ?_ ?_ ?_

theorem kept_rebuildPkt {s0 : State} {s : State} {id : Nat} (h0 : Kept W s0 s) (w_media : W.media = true) (w_ohost : W.ohost = true)
    : Kept W s0 (State.rebuildPkt s id) := by
  unfold State.rebuildPkt
  try dsimp only
  with_reducible
    repeat' first
      | assumption | refine kept_recPacket ?_ (fun _ => ?_) | refine kept_setResult ?_ | refine kept_labelUnit ?_ ?_
      | refine kept_modVol ?_ | refine kept_recShow ?_ ?_ | refine kept_modRec ?_ | refine kept_foldl (fun _ _ _ => ?_) ?_ | split

theorem kept_execRebuild {s0 : State} {id : Nat} {s : State} (h1 : Kept W s0 s) (w_media : W.media = true) (w_ohost : W.ohost = true)
    : KeptR W s0 (execRebuild id s) := by
  unfold execRebuild
  try dsimp only
  with_reducible
    repeat' first
      | assumption | refine kept_rebuildPkt ?_ ?_ ?_ | refine keptR_next ?_

theorem kept_unitSwitch {s0 : State} {s : State} {u : Sys2Proof.FlowUnit} {p : Nat} {fid : Nat} (h0 : Kept W s0 s) (w_hbm : W.hbm = true)
    : Kept W s0 (State.unitSwitch s u p fid) := by
  unfold State.unitSwitch
  try dsimp only
  with_reducible
    repeat' first
      | assumption | refine kept_rctEnter ?_ ?_ | refine kept_rcuEnter ?_ | refine kept_dvtEnter ?_ | refine kept_put ?_
      | refine kept_outfGeom ?_ | refine kept_enterUnit ?_ | refine kept_foldl (fun _ _ _ => ?_) ?_ | split

theorem kept_execUnitEpochSwitch {s0 : State} {u : Sys2Proof.FlowUnit} {p : Nat} {fid : Nat} {s : State} (h3 : Kept W s0 s)
    (w_hbm : W.hbm = true) : KeptR W s0 (execUnitEpochSwitch u p fid s) := by
  unfold execUnitEpochSwitch
  try dsimp only
  with_reducible
    repeat' first
      | assumption | refine kept_unitSwitch ?_ ?_ | refine keptR_next ?_

theorem kept_execRegisterWrite {s0 : State} {sp : Sys2Proof.HostSpace} {off : Nat} {size : Nat} {be : Nat} {v : Nat} {s : State}
    (h5 : Kept W s0 s) (w_hbm : W.hbm = true) (w_lut : W.lut = true) (w_mram : W.mram = true) (w_ohost : W.ohost = true)
    : KeptR W s0 (execRegisterWrite sp off size be v s) := by
  unfold execRegisterWrite
  try dsimp only
  with_reducible
    repeat' first
      | assumption | refine kept_hostWriteTo ?_ ?_ ?_ ?_ ?_ | refine keptR_next ?_

theorem kept_idleInstant {s0 : State} {s : State} (h0 : Kept W s0 s) (w_hbm : W.hbm = true) (w_lut : W.lut = true)
    : Kept W s0 (State.idleInstant s) := by
  unfold State.idleInstant
  try dsimp only
  with_reducible
    repeat' first
      | assumption | refine kept_reachClk ?_ | refine kept_reachDt ?_ | refine kept_idleIssue ?_ ?_ ?_
      | refine kept_foldl (fun _ _ _ => ?_) ?_ | split

theorem kept_execControllerEnable {s0 : State} {cc : Nat} {s : State} (h1 : Kept W s0 s) : KeptR W s0 (execControllerEnable cc s) := by
  unfold execControllerEnable
  try dsimp only
  with_reducible
    repeat' first
      | assumption | refine kept_oflEnable ?_ | refine keptR_next ?_

theorem kept_execNvmeCreateIoCq {s0 : State} {c : Sys2Proof.NvmeCmd} {s : State} (h1 : Kept W s0 s) (w_ohost : W.ohost = true)
    : KeptR W s0 (execNvmeCreateIoCq c s) := by
  unfold execNvmeCreateIoCq
  try dsimp only
  with_reducible
    repeat' first
      | assumption | refine kept_admin ?_ (fun _ _ _ => ?_) ?_ | refine kept_createCq ?_ ?_ | refine keptR_next ?_

theorem kept_execUsbResume {s0 : State} {s : State} (h0 : Kept W s0 s) : KeptR W s0 (execUsbResume s) := by
  unfold execUsbResume
  try dsimp only
  with_reducible
    repeat' first
      | assumption | refine kept_usbSuspend ?_ | refine keptR_next ?_

theorem kept_execNvmeVerify {s0 : State} {c : Sys2Proof.NvmeCmd} {s : State} (h1 : Kept W s0 s) (w_ohost : W.ohost = true)
    : KeptR W s0 (execNvmeVerify c s) := by
  unfold execNvmeVerify
  try dsimp only
  with_reducible
    repeat' first
      | assumption | refine kept_ioCmd ?_ (fun _ _ _ => ?_) ?_ | refine kept_oflReads ?_ ?_ | refine keptR_next ?_

theorem kept_execMediaScan {s0 : State} {id : Nat} {ports : List Sys2Proof.MediaPort} {s : State} (h2 : Kept W s0 s)
    (w_ohost : W.ohost = true) : KeptR W s0 (execMediaScan id ports s) := by
  unfold execMediaScan
  try dsimp only
  with_reducible
    repeat' first
      | assumption | refine kept_mediaScan ?_ ?_ | refine keptR_next ?_

theorem kept_execPowerOnReset {s0 : State} {straps : Nat} {railsOk : Bool} {serial : Nat} {s : State} (h3 : Kept W s0 s)
    (w_hbm : W.hbm = true) (w_lut : W.lut = true) : KeptR W s0 (execPowerOnReset straps railsOk serial s) := by
  unfold execPowerOnReset
  try dsimp only
  with_reducible
    repeat' first
      | assumption | refine kept_powerOn ?_ ?_ ?_ | refine kept_ite (fun _ => ?_) (fun _ => ?_)
      | refine keptR_ite (fun _ => ?_) (fun _ => ?_) | refine kept_fst_ite (fun _ => ?_) (fun _ => ?_) | refine kept_id ?_
      | simp only [kept_mk] | refine kept_foldl (fun _ _ _ => ?_) ?_ | refine kept_fst_foldl (fun _ _ _ => ?_) ?_ | refine keptR_next ?_
      | exact keptR_fault

theorem kept_execEvqHeadDoorbell {s0 : State} {q : Nat} {v : Nat} {s : State} (h2 : Kept W s0 s) : KeptR W s0 (execEvqHeadDoorbell q v s) := by
  unfold execEvqHeadDoorbell
  try dsimp only
  with_reducible
    repeat' first
      | assumption | refine kept_onUnit ?_ (fun _ _ => ?_) | refine kept_evqHead ?_ | refine keptR_next ?_

theorem kept_execDevCommit {s0 : State} {v : Nat} {s : State} (h1 : Kept W s0 s) : KeptR W s0 (execDevCommit v s) := by
  unfold execDevCommit
  try dsimp only
  with_reducible
    repeat' first
      | assumption | refine kept_onUnit ?_ (fun _ _ => ?_) | refine kept_devCommit ?_ | refine keptR_next ?_

theorem kept_execFe {s0 : State} {g : Nat} {pkt : Sys2Proof.Bytes} {s : State} (h2 : Kept W s0 s) (w_hbm : W.hbm = true)
    (w_lut : W.lut = true) : KeptR W s0 (execFe g pkt s) := by
  unfold execFe
  try dsimp only
  with_reducible
    repeat' first
      | assumption | refine kept_packetRow ?_ ?_ ?_ | refine keptR_next ?_

theorem kept_execPtpReceive {s0 : State} {p : Nat} {frame : Sys2Proof.Bytes} {s : State} (h2 : Kept W s0 s) (w_host : W.host = true)
    : KeptR W s0 (execPtpReceive p frame s) := by
  unfold execPtpReceive
  try dsimp only
  with_reducible
    repeat' first
      | assumption | refine kept_ptpRx ?_ ?_ | refine keptR_next ?_ | refine keptR_ite (fun _ => ?_) (fun _ => ?_)
      | refine kept_ite (fun _ => ?_) (fun _ => ?_)

theorem kept_slewDone {s0 : State} {s : State} (h0 : Kept W s0 s) : Kept W s0 (State.slewDone s) := by
  unfold State.slewDone
  try dsimp only
  with_reducible
    repeat' first
      | assumption | refine kept_advance ?_ | refine kept_ev ?_ | refine kept_loadOfs ?_ | refine kept_ite (fun _ => ?_) (fun _ => ?_)

theorem kept_execEvTimeSlewDone {s0 : State} {s : State} (h0 : Kept W s0 s) : KeptR W s0 (execEvTimeSlewDone s) := by
  unfold execEvTimeSlewDone
  try dsimp only
  with_reducible
    repeat' first
      | assumption | refine kept_slewDone ?_ | refine keptR_next ?_

theorem kept_execEvTimeStep {s0 : State} {n : Nat} {hi : Nat} {s : State} (h2 : Kept W s0 s) : KeptR W s0 (execEvTimeStep n hi s) := by
  unfold execEvTimeStep
  try dsimp only
  with_reducible
    repeat' first
      | assumption | refine kept_onUnit ?_ (fun _ _ => ?_) | refine kept_tbStep ?_ | refine keptR_next ?_
      | refine keptR_ite (fun _ => ?_) (fun _ => ?_) | refine kept_ite (fun _ => ?_) (fun _ => ?_)

theorem kept_execDrvClearFailedDawn {s0 : State} {v : Nat} {s : State} (h1 : Kept W s0 s) : KeptR W s0 (execDrvClearFailedDawn v s) := by
  unfold execDrvClearFailedDawn
  try dsimp only
  with_reducible
    repeat' first
      | assumption | refine kept_drvRow (fun _ _ => ?_) ?_ | refine kept_drvStart ?_ (fun _ _ => ?_)
      | refine kept_ite (fun _ => ?_) (fun _ => ?_) | refine keptR_ite (fun _ => ?_) (fun _ => ?_)
      | refine kept_fst_ite (fun _ => ?_) (fun _ => ?_) | refine kept_id ?_

theorem kept_hostRead {s0 : State} {s : State} {sp : Sys2Proof.HostSpace} {rq : Nat} {off : Nat} {size : Nat} (h0 : Kept W s0 s)
    : Kept W s0 (State.hostRead s sp rq off size) := by
  unfold State.hostRead
  try dsimp only
  with_reducible
    repeat' first
      | assumption | refine kept_mirrorRead ?_ | refine kept_readBytes (fun _ _ _ => ?_) ?_ | refine kept_regRead ?_ | refine kept_emit ?_
      | refine kept_drawn ?_ | refine kept_foldl (fun _ _ _ => ?_) ?_ | split

theorem kept_execStandbyEntered {s0 : State} {s : State} (h0 : Kept W s0 s) (w_lut : W.lut = true) (w_ohost : W.ohost = true)
    : KeptR W s0 (execStandbyEntered s) := by
  unfold execStandbyEntered
  try dsimp only
  with_reducible
    repeat' first
      | assumption | refine kept_standbyEntered ?_ ?_ ?_ | refine keptR_next ?_

theorem kept_execI2cTryEnd {s0 : State} {c : Nat} {res : Sys2Proof.I2cResult} {s : State} (h2 : Kept W s0 s)
    : KeptR W s0 (execI2cTryEnd c res s) := by
  unfold execI2cTryEnd
  try dsimp only
  with_reducible
    repeat' first
      | assumption | refine kept_i2cTryEnd ?_ | refine keptR_next ?_

theorem kept_execSdWrite {s0 : State} {id : Nat} {good : Nat} {stop : Nat} {s : State} (h3 : Kept W s0 s)
    : KeptR W s0 (execSdWrite id good stop s) := by
  unfold execSdWrite
  try dsimp only
  with_reducible
    repeat' first
      | assumption | refine kept_sdWrite ?_ | refine keptR_next ?_

theorem kept_execGpioClr {s0 : State} {b : Nat} {v : Nat} {s : State} (h2 : Kept W s0 s) : KeptR W s0 (execGpioClr b v s) := by
  unfold execGpioClr
  try dsimp only
  with_reducible
    repeat' first
      | assumption | refine kept_lspRow (fun _ _ => ?_) ?_ | refine kept_gpioClr ?_

theorem kept_semCycle {s0 : State} {s : State} {n : Nat} {reqs : List Nat} {rels : List Nat} {rsts : List Nat} (h0 : Kept W s0 s)
    : Kept W s0 (State.semCycle s n reqs rels rsts) := by
  unfold State.semCycle
  try dsimp only
  with_reducible
    repeat' first
      | assumption | refine kept_emit ?_ | refine kept_semJudge ?_ | refine kept_foldl (fun _ _ _ => ?_) ?_

theorem kept_execSemAcquire {s0 : State} {n : Nat} {reqs : List Nat} {rels : List Nat} {rsts : List Nat} {s : State} (h4 : Kept W s0 s)
    : KeptR W s0 (execSemAcquire n reqs rels rsts s) := by
  unfold execSemAcquire
  try dsimp only
  with_reducible
    repeat' first
      | assumption | refine kept_onUnit ?_ (fun _ _ => ?_) | refine kept_semCycle ?_ | refine keptR_next ?_
      | refine keptR_ite (fun _ => ?_) (fun _ => ?_) | refine kept_ite (fun _ => ?_) (fun _ => ?_)

theorem kept_execCmdqPacketStart {s0 : State} {s : State} (h0 : Kept W s0 s) (w_host : W.host = true)
    : KeptR W s0 (execCmdqPacketStart s) := by
  unfold execCmdqPacketStart
  try dsimp only
  with_reducible
    repeat' first
      | assumption | refine kept_cmdqLook ?_ | refine kept_cmdqStart ?_ ?_ | refine keptR_next ?_ | refine kept_foldl (fun _ _ _ => ?_) ?_
      | split

theorem kept_execLtcInLoss {s0 : State} {s : State} (h0 : Kept W s0 s) : KeptR W s0 (execLtcInLoss s) := by
  unfold execLtcInLoss
  try dsimp only
  with_reducible
    repeat' first
      | assumption | refine kept_ltcLoss ?_ | refine keptR_next ?_

theorem kept_execSmbusWrite {s0 : State} {addr : Nat} {cmd : Nat} {data : Sys2Proof.Bytes} {crc : Option Nat} {s : State} (h4 : Kept W s0 s)
    : KeptR W s0 (execSmbusWrite addr cmd data crc s) := by
  unfold execSmbusWrite
  try dsimp only
  with_reducible
    repeat' first
      | assumption | refine kept_smbusWrite ?_ | refine keptR_next ?_

theorem kept_execTriggerEdge {s0 : State} {line : Nat} {rising : Bool} {width : Nat} {s : State} (h3 : Kept W s0 s)
    : KeptR W s0 (execTriggerEdge line rising s width) := by
  unfold execTriggerEdge
  try dsimp only
  with_reducible
    repeat' first
      | assumption | refine kept_trigEdge ?_ | refine keptR_next ?_

theorem kept_execMediaFenceComplete {s0 : State} {s : State} (h0 : Kept W s0 s) (w_ohost : W.ohost = true)
    : KeptR W s0 (execMediaFenceComplete s) := by
  unfold execMediaFenceComplete
  try dsimp only
  with_reducible
    repeat' first
      | assumption | refine kept_fenceDone ?_ ?_ | refine keptR_next ?_

theorem kept_spiTransferEnd {s0 : State} {s : State} {c : Nat} {data : Sys2Proof.Bytes} (h0 : Kept W s0 s)
    : Kept W s0 (State.spiTransferEnd s c data) := by
  unfold State.spiTransferEnd
  try dsimp only
  with_reducible
    repeat' first
      | assumption | refine kept_put ?_ | refine kept_modSpi ?_ | refine kept_emit ?_ | refine kept_spiLevels ?_
      | refine kept_foldl (fun _ _ _ => ?_) ?_ | split

theorem kept_execI2cGo {s0 : State} {c : Nat} {v : Nat} {s : State} (h2 : Kept W s0 s) : KeptR W s0 (execI2cGo c v s) := by
  unfold execI2cGo
  try dsimp only
  with_reducible
    repeat' first
      | assumption | refine kept_lspRow (fun _ _ => ?_) ?_ | refine kept_i2cGo ?_

theorem kept_panicDown {s0 : State} {s : State} {client : Nat} {margin : Nat} {cycles : List (Nat × Nat)} (h0 : Kept W s0 s)
    : Kept W s0 (State.panicDown s client margin cycles) := by
  unfold State.panicDown
  try dsimp only
  with_reducible
    repeat' first
      | assumption | refine kept_inc ?_ | refine kept_modHbm ?_ | refine kept_foldl (fun _ _ _ => ?_) ?_ | split

theorem kept_gustLeak {s0 : State} {s : State} {kind : Nat} (h0 : Kept W s0 s) : Kept W s0 (State.gustLeak s kind) := by
  unfold State.gustLeak
  try dsimp only
  with_reducible
    repeat' first
      | assumption | refine kept_reachClk ?_ | refine kept_modHlt ?_ | refine kept_gustShow ?_

theorem kept_execNvmeGetFeatures {s0 : State} {c : Sys2Proof.NvmeCmd} {s : State} (h1 : Kept W s0 s) (w_ohost : W.ohost = true)
    : KeptR W s0 (execNvmeGetFeatures c s) := by
  unfold execNvmeGetFeatures
  try dsimp only
  with_reducible
    repeat' first
      | assumption | refine kept_admin ?_ (fun _ _ _ => ?_) ?_ | refine kept_getFeatures ?_ ?_ | refine keptR_next ?_

theorem kept_execGustLeakTick {s0 : State} {kind : Nat} {s : State} (h1 : Kept W s0 s) : KeptR W s0 (execGustLeakTick kind s) := by
  unfold execGustLeakTick
  try dsimp only
  with_reducible
    repeat' first
      | assumption | refine kept_gustLeak ?_ | refine keptR_next ?_

theorem kept_execEvHbmPanic {s0 : State} {client : Nat} {margin : Nat} {s : State} (h2 : Kept W s0 s)
    : KeptR W s0 (execEvHbmPanic client s margin) := by
  unfold execEvHbmPanic
  try dsimp only
  with_reducible
    repeat' first
      | assumption | refine kept_panicUp ?_ | refine keptR_next ?_

theorem kept_execLoReadLatch {s0 : State} {sp : Sys2Proof.HostSpace} {rq : Nat} {off : Nat} {size : Nat} {s : State} (h4 : Kept W s0 s)
    : KeptR W s0 (execLoReadLatch rq off s sp size) := by
  unfold execLoReadLatch
  try dsimp only
  with_reducible
    repeat' first
      | assumption | refine kept_hostRead ?_ | refine keptR_next ?_

theorem kept_execPipelineIdle {s0 : State} {p : Nat} {s : State} (h1 : Kept W s0 s) (w_hbm : W.hbm = true) (w_lut : W.lut = true)
    : KeptR W s0 (execPipelineIdle p s) := by
  unfold execPipelineIdle
  try dsimp only
  with_reducible
    repeat' first
      | assumption | refine kept_pipelineIdle ?_ ?_ ?_ | refine keptR_next ?_ | refine keptR_ite (fun _ => ?_) (fun _ => ?_)
      | refine kept_ite (fun _ => ?_) (fun _ => ?_)

theorem kept_execExchangeParityResyncEnd {s0 : State} {s : State} (h0 : Kept W s0 s) (w_media : W.media = true)
    : KeptR W s0 (execExchangeParityResyncEnd s) := by
  unfold execExchangeParityResyncEnd
  try dsimp only
  with_reducible
    repeat' first
      | assumption | refine kept_exResync ?_ ?_ | refine keptR_next ?_

theorem kept_execPanicDrop {s0 : State} {client : Nat} {margin : Nat} {cycles : List (Nat × Nat)} {s : State} (h3 : Kept W s0 s)
    : KeptR W s0 (execPanicDrop client s margin cycles) := by
  unfold execPanicDrop
  try dsimp only
  with_reducible
    repeat' first
      | assumption | refine kept_panicDown ?_ | refine keptR_next ?_

theorem kept_execScheduledPulseEnd {s0 : State} {k : Nat} {s : State} (h1 : Kept W s0 s) : KeptR W s0 (execScheduledPulseEnd k s) := by
  unfold execScheduledPulseEnd
  try dsimp only
  with_reducible
    repeat' first
      | assumption | refine kept_psEnd ?_ | refine keptR_next ?_

theorem kept_execSmbusTimeout {s0 : State} {s : State} (h0 : Kept W s0 s) : KeptR W s0 (execSmbusTimeout s) := by
  unfold execSmbusTimeout
  try dsimp only
  with_reducible
    repeat' first
      | assumption | refine kept_smbusTimeout ?_ | refine keptR_next ?_

theorem kept_execCsi2Ignored {s0 : State} {c : Nat} {h_ : Sys2Proof.CsiHdr} {s : State} (h2 : Kept W s0 s)
    : KeptR W s0 (execCsi2Ignored c h_ s) := by
  unfold execCsi2Ignored
  try dsimp only
  with_reducible
    repeat' first
      | assumption | refine kept_csiHeader ?_ (fun _ _ => ?_) | refine keptR_next ?_

theorem kept_execCsi2Embedded {s0 : State} {c : Nat} {h_ : Sys2Proof.CsiHdr} {data : Sys2Proof.Bytes} {s : State} (h3 : Kept W s0 s)
    : KeptR W s0 (execCsi2Embedded c h_ data s) := by
  unfold execCsi2Embedded
  try dsimp only
  with_reducible
    repeat' first
      | assumption | refine kept_csiPacket ?_ (fun _ _ _ => ?_) | refine kept_csiDropped ?_ | refine kept_addEmbed ?_
      | refine kept_csiCrc ?_ | refine keptR_next ?_ | refine kept_foldl (fun _ _ _ => ?_) ?_ | split

theorem kept_execMirrorRead {s0 : State} {off : Nat} {s : State} (h1 : Kept W s0 s) : KeptR W s0 (execMirrorRead off s) := by
  unfold execMirrorRead
  try dsimp only
  with_reducible
    repeat' first
      | assumption | refine kept_mirrorRead ?_ | refine keptR_next ?_

theorem kept_execIdleCommitIssue {s0 : State} {s : State} (h0 : Kept W s0 s) (w_hbm : W.hbm = true) (w_lut : W.lut = true)
    : KeptR W s0 (execIdleCommitIssue s) := by
  unfold execIdleCommitIssue
  try dsimp only
  with_reducible
    repeat' first
      | assumption | refine kept_idleInstant ?_ ?_ ?_ | refine keptR_next ?_

theorem kept_execBaroPeriodicPlan {s0 : State} {s : State} (h0 : Kept W s0 s) : KeptR W s0 (execBaroPeriodicPlan s) := by
  unfold execBaroPeriodicPlan
  try dsimp only
  with_reducible
    repeat' first
      | assumption | refine kept_planStart ?_ | refine kept_reachClk ?_ | refine keptR_next ?_
      | refine keptR_ite (fun _ => ?_) (fun _ => ?_) | refine kept_ite (fun _ => ?_) (fun _ => ?_)

theorem kept_execGpioSet {s0 : State} {b : Nat} {v : Nat} {s : State} (h2 : Kept W s0 s) : KeptR W s0 (execGpioSet b v s) := by
  unfold execGpioSet
  try dsimp only
  with_reducible
    repeat' first
      | assumption | refine kept_lspRow (fun _ _ => ?_) ?_ | refine kept_gpioSet ?_

theorem kept_execDrvValidate {s0 : State} {v : Nat} {s : State} (h1 : Kept W s0 s) : KeptR W s0 (execDrvValidate v s) := by
  unfold execDrvValidate
  try dsimp only
  with_reducible
    repeat' first
      | assumption | refine kept_drvRow (fun _ _ => ?_) ?_ | refine kept_drvStart ?_ (fun _ _ => ?_)
      | refine kept_ite (fun _ => ?_) (fun _ => ?_) | refine keptR_ite (fun _ => ?_) (fun _ => ?_)
      | refine kept_fst_ite (fun _ => ?_) (fun _ => ?_) | refine kept_id ?_

theorem kept_execCsi2Fs {s0 : State} {c : Nat} {h_ : Sys2Proof.CsiHdr} {s : State} (h2 : Kept W s0 s) (w_hbm : W.hbm = true)
    (w_lut : W.lut = true) : KeptR W s0 (execCsi2Fs c h_ s) := by
  unfold execCsi2Fs
  try dsimp only
  with_reducible
    repeat' first
      | assumption | refine kept_csiPacket ?_ (fun _ _ _ => ?_) | refine kept_acceptPacket ?_ ?_ ?_ | refine kept_csiDropped ?_
      | refine keptR_next ?_ | refine kept_foldl (fun _ _ _ => ?_) ?_ | split

theorem kept_execSpiTransferEnd {s0 : State} {c : Nat} {data : Sys2Proof.Bytes} {s : State} (h2 : Kept W s0 s)
    : KeptR W s0 (execSpiTransferEnd c data s) := by
  unfold execSpiTransferEnd
  try dsimp only
  with_reducible
    repeat' first
      | assumption | refine kept_spiTransferEnd ?_ | refine keptR_next ?_

theorem kept_execSdiInputFrame {s0 : State} {i : Nat} {f : Sys2Proof.SdiFrame} {s : State} (h2 : Kept W s0 s) (w_hbm : W.hbm = true)
    : KeptR W s0 (execSdiInputFrame i f s) := by
  unfold execSdiInputFrame
  try dsimp only
  with_reducible
    repeat' first
      | assumption | refine kept_sdiFrame ?_ ?_ | refine keptR_next ?_ | refine keptR_ite (fun _ => ?_) (fun _ => ?_)
      | refine kept_ite (fun _ => ?_) (fun _ => ?_)

theorem kept_execDfuDetach {s0 : State} {s : State} (h0 : Kept W s0 s) : KeptR W s0 (execDfuDetach s) := by
  unfold execDfuDetach
  try dsimp only
  with_reducible
    repeat' first
      | assumption | refine kept_dfuDetach ?_ | refine keptR_next ?_

theorem kept_execEvDispUnderrun {s0 : State} {n : Nat} {line : Nat} {poison : Bool} {s : State} (h3 : Kept W s0 s)
    : KeptR W s0 (execEvDispUnderrun n line poison s) := by
  unfold execEvDispUnderrun
  try dsimp only
  with_reducible
    repeat' first
      | assumption | refine kept_modLayer ?_ | refine kept_inc ?_ | refine kept_put ?_ | refine kept_evLimited ?_ | refine keptR_next ?_
      | refine keptR_ite (fun _ => ?_) (fun _ => ?_) | refine kept_ite (fun _ => ?_) (fun _ => ?_)

theorem kept_execWatchdogReset {s0 : State} {s : State} (h0 : Kept W s0 s) (w_hbm : W.hbm = true) (w_lut : W.lut = true)
    (w_mram : W.mram = true) : KeptR W s0 (execWatchdogReset s) := by
  unfold execWatchdogReset
  try dsimp only
  with_reducible
    repeat' first
      | assumption | refine kept_watchdog ?_ ?_ ?_ ?_ | refine keptR_next ?_

theorem kept_execUsbBusReset {s0 : State} {ctl : Option Nat} {hs : Bool} {s : State} (h2 : Kept W s0 s)
    : KeptR W s0 (execUsbBusReset ctl hs s) := by
  unfold execUsbBusReset
  try dsimp only
  with_reducible
    repeat' first
      | assumption | refine kept_usbReset ?_ | refine keptR_next ?_

end Sys2Proof.Machine
end

