-- ==== Sys2Proof/Laws/State.lean ====
section
/-! SUPPORT. What each single update of the state leaves as it was, and what it writes: one lemma per field per update, true by
unfolding, so that no later proof unfolds a record update. -/

namespace Sys2Proof.Machine

section wr

variable (s : State) (r : Reg) (ix : List Nat) (v : Nat) (fl : Fld) (rg : Reg) (jx : List Nat)

@[simp] theorem State.wr_pending : (s.wr r ix v).pending = s.pending := rfl
@[simp] theorem State.wr_mirror : (s.wr r ix v).mirror = s.mirror := rfl
@[simp] theorem State.wr_latch : (s.wr r ix v).latch = s.latch := rfl
@[simp] theorem State.wr_lowHalf : (s.wr r ix v).lowHalf = s.lowHalf := rfl
@[simp] theorem State.wr_host : (s.wr r ix v).host = s.host := rfl
@[simp] theorem State.wr_ohost : (s.wr r ix v).ohost = s.ohost := rfl
@[simp] theorem State.wr_hbm : (s.wr r ix v).hbm = s.hbm := rfl
@[simp] theorem State.wr_undef : (s.wr r ix v).undef = s.undef := rfl
@[simp] theorem State.wr_mram : (s.wr r ix v).mram = s.mram := rfl
@[simp] theorem State.wr_lut : (s.wr r ix v).lut = s.lut := rfl
@[simp] theorem State.wr_lutSet : (s.wr r ix v).lutSet = s.lutSet := rfl
@[simp] theorem State.wr_msixTable : (s.wr r ix v).msixTable = s.msixTable := rfl
@[simp] theorem State.wr_msixPba : (s.wr r ix v).msixPba = s.msixPba := rfl
@[simp] theorem State.wr_msixEnable : (s.wr r ix v).msixEnable = s.msixEnable := rfl
@[simp] theorem State.wr_msixMask : (s.wr r ix v).msixMask = s.msixMask := rfl
@[simp] theorem State.wr_out : (s.wr r ix v).out = s.out := rfl
@[simp] theorem State.wr_raised : (s.wr r ix v).raised = s.raised := rfl
@[simp] theorem State.wr_limited : (s.wr r ix v).limited = s.limited := rfl
@[simp] theorem State.wr_limitedAt : (s.wr r ix v).limitedAt = s.limitedAt := rfl
@[simp] theorem State.wr_sfeFull : (s.wr r ix v).sfeFull = s.sfeFull := rfl
@[simp] theorem State.wr_defStores : (s.wr r ix v).defStores = s.defStores := rfl
@[simp] theorem State.wr_dests : (s.wr r ix v).dests = s.dests := rfl
@[simp] theorem State.wr_disarmed : (s.wr r ix v).disarmed = s.disarmed := rfl
@[simp] theorem State.wr_packets : (s.wr r ix v).packets = s.packets := rfl
@[simp] theorem State.wr_rings : (s.wr r ix v).rings = s.rings := rfl
@[simp] theorem State.wr_nextId : (s.wr r ix v).nextId = s.nextId := rfl
@[simp] theorem State.wr_heldReads : (s.wr r ix v).heldReads = s.heldReads := rfl
@[simp] theorem State.wr_bulk : (s.wr r ix v).bulk = s.bulk := rfl
@[simp] theorem State.wr_promo : (s.wr r ix v).promo = s.promo := rfl
@[simp] theorem State.wr_front : (s.wr r ix v).front = s.front := rfl
@[simp] theorem State.wr_epochs : (s.wr r ix v).epochs = s.epochs := rfl
@[simp] theorem State.wr_patchesOf : (s.wr r ix v).patchesOf = s.patchesOf := rfl
@[simp] theorem State.wr_pipes : (s.wr r ix v).pipes = s.pipes := rfl
@[simp] theorem State.wr_frames : (s.wr r ix v).frames = s.frames := rfl
@[simp] theorem State.wr_graph : (s.wr r ix v).graph = s.graph := rfl
@[simp] theorem State.wr_lanes : (s.wr r ix v).lanes = s.lanes := rfl
@[simp] theorem State.wr_groups : (s.wr r ix v).groups = s.groups := rfl
@[simp] theorem State.wr_streams : (s.wr r ix v).streams = s.streams := rfl
@[simp] theorem State.wr_sgs : (s.wr r ix v).sgs = s.sgs := rfl
@[simp] theorem State.wr_pss : (s.wr r ix v).pss = s.pss := rfl
@[simp] theorem State.wr_caps : (s.wr r ix v).caps = s.caps := rfl
@[simp] theorem State.wr_subst : (s.wr r ix v).subst = s.subst := rfl
@[simp] theorem State.wr_time : (s.wr r ix v).time = s.time := rfl
@[simp] theorem State.wr_drv : (s.wr r ix v).drv = s.drv := rfl
@[simp] theorem State.wr_media : (s.wr r ix v).media = s.media := rfl
@[simp] theorem State.wr_recorder : (s.wr r ix v).recorder = s.recorder := rfl
@[simp] theorem State.wr_zst : (s.wr r ix v).zst = s.zst := rfl
@[simp] theorem State.wr_oldJobs : (s.wr r ix v).oldJobs = s.oldJobs := rfl
@[simp] theorem State.wr_outfs : (s.wr r ix v).outfs = s.outfs := rfl
@[simp] theorem State.wr_encs : (s.wr r ix v).encs = s.encs := rfl
@[simp] theorem State.wr_dec : (s.wr r ix v).dec = s.dec := rfl
@[simp] theorem State.wr_disp : (s.wr r ix v).disp = s.disp := rfl
@[simp] theorem State.wr_hbmc : (s.wr r ix v).hbmc = s.hbmc := rfl
@[simp] theorem State.wr_hlt : (s.wr r ix v).hlt = s.hlt := rfl
@[simp] theorem State.wr_baro : (s.wr r ix v).baro = s.baro := rfl
@[simp] theorem State.wr_nv : (s.wr r ix v).nv = s.nv := rfl
@[simp] theorem State.wr_ofl : (s.wr r ix v).ofl = s.ofl := rfl
@[simp] theorem State.wr_sky : (s.wr r ix v).sky = s.sky := rfl
@[simp] theorem State.wr_aud : (s.wr r ix v).aud = s.aud := rfl
@[simp] theorem State.wr_lsp : (s.wr r ix v).lsp = s.lsp := rfl
@[simp] theorem State.wr_cpr : (s.wr r ix v).cpr = s.cpr := rfl
@[simp] theorem State.wr_free : (s.wr r ix v).free = s.free := rfl
@[simp] theorem State.wr_regs : (s.wr r ix v).regs = s.regs.wr r ix v := rfl

end wr

section put

variable (s : State) (d : Fld) (ix : List Nat) (v : Nat) (fl : Fld) (rg : Reg) (jx : List Nat)

@[simp] theorem State.put_pending : (s.put d ix v).pending = s.pending := rfl
@[simp] theorem State.put_mirror : (s.put d ix v).mirror = s.mirror := rfl
@[simp] theorem State.put_latch : (s.put d ix v).latch = s.latch := rfl
@[simp] theorem State.put_lowHalf : (s.put d ix v).lowHalf = s.lowHalf := rfl
@[simp] theorem State.put_host : (s.put d ix v).host = s.host := rfl
@[simp] theorem State.put_ohost : (s.put d ix v).ohost = s.ohost := rfl
@[simp] theorem State.put_hbm : (s.put d ix v).hbm = s.hbm := rfl
@[simp] theorem State.put_undef : (s.put d ix v).undef = s.undef := rfl
@[simp] theorem State.put_mram : (s.put d ix v).mram = s.mram := rfl
@[simp] theorem State.put_lut : (s.put d ix v).lut = s.lut := rfl
@[simp] theorem State.put_lutSet : (s.put d ix v).lutSet = s.lutSet := rfl
@[simp] theorem State.put_msixTable : (s.put d ix v).msixTable = s.msixTable := rfl
@[simp] theorem State.put_msixPba : (s.put d ix v).msixPba = s.msixPba := rfl
@[simp] theorem State.put_msixEnable : (s.put d ix v).msixEnable = s.msixEnable := rfl
@[simp] theorem State.put_msixMask : (s.put d ix v).msixMask = s.msixMask := rfl
@[simp] theorem State.put_out : (s.put d ix v).out = s.out := rfl
@[simp] theorem State.put_raised : (s.put d ix v).raised = s.raised := rfl
@[simp] theorem State.put_limited : (s.put d ix v).limited = s.limited := rfl
@[simp] theorem State.put_limitedAt : (s.put d ix v).limitedAt = s.limitedAt := rfl
@[simp] theorem State.put_sfeFull : (s.put d ix v).sfeFull = s.sfeFull := rfl
@[simp] theorem State.put_defStores : (s.put d ix v).defStores = s.defStores := rfl
@[simp] theorem State.put_dests : (s.put d ix v).dests = s.dests := rfl
@[simp] theorem State.put_disarmed : (s.put d ix v).disarmed = s.disarmed := rfl
@[simp] theorem State.put_packets : (s.put d ix v).packets = s.packets := rfl
@[simp] theorem State.put_rings : (s.put d ix v).rings = s.rings := rfl
@[simp] theorem State.put_nextId : (s.put d ix v).nextId = s.nextId := rfl
@[simp] theorem State.put_heldReads : (s.put d ix v).heldReads = s.heldReads := rfl
@[simp] theorem State.put_bulk : (s.put d ix v).bulk = s.bulk := rfl
@[simp] theorem State.put_promo : (s.put d ix v).promo = s.promo := rfl
@[simp] theorem State.put_front : (s.put d ix v).front = s.front := rfl
@[simp] theorem State.put_epochs : (s.put d ix v).epochs = s.epochs := rfl
@[simp] theorem State.put_patchesOf : (s.put d ix v).patchesOf = s.patchesOf := rfl
@[simp] theorem State.put_pipes : (s.put d ix v).pipes = s.pipes := rfl
@[simp] theorem State.put_frames : (s.put d ix v).frames = s.frames := rfl
@[simp] theorem State.put_graph : (s.put d ix v).graph = s.graph := rfl
@[simp] theorem State.put_lanes : (s.put d ix v).lanes = s.lanes := rfl
@[simp] theorem State.put_groups : (s.put d ix v).groups = s.groups := rfl
@[simp] theorem State.put_streams : (s.put d ix v).streams = s.streams := rfl
@[simp] theorem State.put_sgs : (s.put d ix v).sgs = s.sgs := rfl
@[simp] theorem State.put_pss : (s.put d ix v).pss = s.pss := rfl
@[simp] theorem State.put_caps : (s.put d ix v).caps = s.caps := rfl
@[simp] theorem State.put_subst : (s.put d ix v).subst = s.subst := rfl
@[simp] theorem State.put_time : (s.put d ix v).time = s.time := rfl
@[simp] theorem State.put_drv : (s.put d ix v).drv = s.drv := rfl
@[simp] theorem State.put_media : (s.put d ix v).media = s.media := rfl
@[simp] theorem State.put_recorder : (s.put d ix v).recorder = s.recorder := rfl
@[simp] theorem State.put_zst : (s.put d ix v).zst = s.zst := rfl
@[simp] theorem State.put_oldJobs : (s.put d ix v).oldJobs = s.oldJobs := rfl
@[simp] theorem State.put_outfs : (s.put d ix v).outfs = s.outfs := rfl
@[simp] theorem State.put_encs : (s.put d ix v).encs = s.encs := rfl
@[simp] theorem State.put_dec : (s.put d ix v).dec = s.dec := rfl
@[simp] theorem State.put_disp : (s.put d ix v).disp = s.disp := rfl
@[simp] theorem State.put_hbmc : (s.put d ix v).hbmc = s.hbmc := rfl
@[simp] theorem State.put_hlt : (s.put d ix v).hlt = s.hlt := rfl
@[simp] theorem State.put_baro : (s.put d ix v).baro = s.baro := rfl
@[simp] theorem State.put_nv : (s.put d ix v).nv = s.nv := rfl
@[simp] theorem State.put_ofl : (s.put d ix v).ofl = s.ofl := rfl
@[simp] theorem State.put_sky : (s.put d ix v).sky = s.sky := rfl
@[simp] theorem State.put_aud : (s.put d ix v).aud = s.aud := rfl
@[simp] theorem State.put_lsp : (s.put d ix v).lsp = s.lsp := rfl
@[simp] theorem State.put_cpr : (s.put d ix v).cpr = s.cpr := rfl
@[simp] theorem State.put_free : (s.put d ix v).free = s.free := rfl
@[simp] theorem State.put_regs : (s.put d ix v).regs = s.regs.put d ix v := rfl

end put

section raise

variable (s : State) (r : Rec) (fl : Fld) (rg : Reg) (jx : List Nat)

@[simp] theorem State.raise_pending : (s.raise r).pending = s.pending := rfl
@[simp] theorem State.raise_regs : (s.raise r).regs = s.regs := rfl
@[simp] theorem State.raise_mirror : (s.raise r).mirror = s.mirror := rfl
@[simp] theorem State.raise_latch : (s.raise r).latch = s.latch := rfl
@[simp] theorem State.raise_lowHalf : (s.raise r).lowHalf = s.lowHalf := rfl
@[simp] theorem State.raise_host : (s.raise r).host = s.host := rfl
@[simp] theorem State.raise_ohost : (s.raise r).ohost = s.ohost := rfl
@[simp] theorem State.raise_hbm : (s.raise r).hbm = s.hbm := rfl
@[simp] theorem State.raise_undef : (s.raise r).undef = s.undef := rfl
@[simp] theorem State.raise_mram : (s.raise r).mram = s.mram := rfl
@[simp] theorem State.raise_lut : (s.raise r).lut = s.lut := rfl
@[simp] theorem State.raise_lutSet : (s.raise r).lutSet = s.lutSet := rfl
@[simp] theorem State.raise_msixTable : (s.raise r).msixTable = s.msixTable := rfl
@[simp] theorem State.raise_msixPba : (s.raise r).msixPba = s.msixPba := rfl
@[simp] theorem State.raise_msixEnable : (s.raise r).msixEnable = s.msixEnable := rfl
@[simp] theorem State.raise_msixMask : (s.raise r).msixMask = s.msixMask := rfl
@[simp] theorem State.raise_out : (s.raise r).out = s.out := rfl
@[simp] theorem State.raise_limited : (s.raise r).limited = s.limited := rfl
@[simp] theorem State.raise_limitedAt : (s.raise r).limitedAt = s.limitedAt := rfl
@[simp] theorem State.raise_sfeFull : (s.raise r).sfeFull = s.sfeFull := rfl
@[simp] theorem State.raise_defStores : (s.raise r).defStores = s.defStores := rfl
@[simp] theorem State.raise_dests : (s.raise r).dests = s.dests := rfl
@[simp] theorem State.raise_disarmed : (s.raise r).disarmed = s.disarmed := rfl
@[simp] theorem State.raise_packets : (s.raise r).packets = s.packets := rfl
@[simp] theorem State.raise_rings : (s.raise r).rings = s.rings := rfl
@[simp] theorem State.raise_nextId : (s.raise r).nextId = s.nextId := rfl
@[simp] theorem State.raise_heldReads : (s.raise r).heldReads = s.heldReads := rfl
@[simp] theorem State.raise_bulk : (s.raise r).bulk = s.bulk := rfl
@[simp] theorem State.raise_promo : (s.raise r).promo = s.promo := rfl
@[simp] theorem State.raise_front : (s.raise r).front = s.front := rfl
@[simp] theorem State.raise_epochs : (s.raise r).epochs = s.epochs := rfl
@[simp] theorem State.raise_patchesOf : (s.raise r).patchesOf = s.patchesOf := rfl
@[simp] theorem State.raise_pipes : (s.raise r).pipes = s.pipes := rfl
@[simp] theorem State.raise_frames : (s.raise r).frames = s.frames := rfl
@[simp] theorem State.raise_graph : (s.raise r).graph = s.graph := rfl
@[simp] theorem State.raise_lanes : (s.raise r).lanes = s.lanes := rfl
@[simp] theorem State.raise_groups : (s.raise r).groups = s.groups := rfl
@[simp] theorem State.raise_streams : (s.raise r).streams = s.streams := rfl
@[simp] theorem State.raise_sgs : (s.raise r).sgs = s.sgs := rfl
@[simp] theorem State.raise_pss : (s.raise r).pss = s.pss := rfl
@[simp] theorem State.raise_caps : (s.raise r).caps = s.caps := rfl
@[simp] theorem State.raise_subst : (s.raise r).subst = s.subst := rfl
@[simp] theorem State.raise_time : (s.raise r).time = s.time := rfl
@[simp] theorem State.raise_drv : (s.raise r).drv = s.drv := rfl
@[simp] theorem State.raise_media : (s.raise r).media = s.media := rfl
@[simp] theorem State.raise_recorder : (s.raise r).recorder = s.recorder := rfl
@[simp] theorem State.raise_zst : (s.raise r).zst = s.zst := rfl
@[simp] theorem State.raise_oldJobs : (s.raise r).oldJobs = s.oldJobs := rfl
@[simp] theorem State.raise_outfs : (s.raise r).outfs = s.outfs := rfl
@[simp] theorem State.raise_encs : (s.raise r).encs = s.encs := rfl
@[simp] theorem State.raise_dec : (s.raise r).dec = s.dec := rfl
@[simp] theorem State.raise_disp : (s.raise r).disp = s.disp := rfl
@[simp] theorem State.raise_hbmc : (s.raise r).hbmc = s.hbmc := rfl
@[simp] theorem State.raise_hlt : (s.raise r).hlt = s.hlt := rfl
@[simp] theorem State.raise_baro : (s.raise r).baro = s.baro := rfl
@[simp] theorem State.raise_nv : (s.raise r).nv = s.nv := rfl
@[simp] theorem State.raise_ofl : (s.raise r).ofl = s.ofl := rfl
@[simp] theorem State.raise_sky : (s.raise r).sky = s.sky := rfl
@[simp] theorem State.raise_aud : (s.raise r).aud = s.aud := rfl
@[simp] theorem State.raise_lsp : (s.raise r).lsp = s.lsp := rfl
@[simp] theorem State.raise_cpr : (s.raise r).cpr = s.cpr := rfl
@[simp] theorem State.raise_free : (s.raise r).free = s.free := rfl
@[simp] theorem State.raise_rd : (s.raise r).rd rg jx = s.rd rg jx := rfl
@[simp] theorem State.raise_get : (s.raise r).get fl jx = s.get fl jx := rfl
@[simp] theorem State.raise_flag : (s.raise r).flag fl jx = s.flag fl jx := rfl
@[simp] theorem State.raise_raised : (s.raise r).raised = s.raised ++ [r] := rfl

end raise

section ev

variable (s : State) (typ src inst payload : Nat) (fl : Fld) (rg : Reg) (jx : List Nat)

@[simp] theorem State.ev_pending : (s.ev typ src inst payload).pending = s.pending := rfl
@[simp] theorem State.ev_regs : (s.ev typ src inst payload).regs = s.regs := rfl
@[simp] theorem State.ev_mirror : (s.ev typ src inst payload).mirror = s.mirror := rfl
@[simp] theorem State.ev_latch : (s.ev typ src inst payload).latch = s.latch := rfl
@[simp] theorem State.ev_lowHalf : (s.ev typ src inst payload).lowHalf = s.lowHalf := rfl
@[simp] theorem State.ev_host : (s.ev typ src inst payload).host = s.host := rfl
@[simp] theorem State.ev_ohost : (s.ev typ src inst payload).ohost = s.ohost := rfl
@[simp] theorem State.ev_hbm : (s.ev typ src inst payload).hbm = s.hbm := rfl
@[simp] theorem State.ev_undef : (s.ev typ src inst payload).undef = s.undef := rfl
@[simp] theorem State.ev_mram : (s.ev typ src inst payload).mram = s.mram := rfl
@[simp] theorem State.ev_lut : (s.ev typ src inst payload).lut = s.lut := rfl
@[simp] theorem State.ev_lutSet : (s.ev typ src inst payload).lutSet = s.lutSet := rfl
@[simp] theorem State.ev_msixTable : (s.ev typ src inst payload).msixTable = s.msixTable := rfl
@[simp] theorem State.ev_msixPba : (s.ev typ src inst payload).msixPba = s.msixPba := rfl
@[simp] theorem State.ev_msixEnable : (s.ev typ src inst payload).msixEnable = s.msixEnable := rfl
@[simp] theorem State.ev_msixMask : (s.ev typ src inst payload).msixMask = s.msixMask := rfl
@[simp] theorem State.ev_out : (s.ev typ src inst payload).out = s.out := rfl
@[simp] theorem State.ev_limited : (s.ev typ src inst payload).limited = s.limited := rfl
@[simp] theorem State.ev_limitedAt : (s.ev typ src inst payload).limitedAt = s.limitedAt := rfl
@[simp] theorem State.ev_sfeFull : (s.ev typ src inst payload).sfeFull = s.sfeFull := rfl
@[simp] theorem State.ev_defStores : (s.ev typ src inst payload).defStores = s.defStores := rfl
@[simp] theorem State.ev_dests : (s.ev typ src inst payload).dests = s.dests := rfl
@[simp] theorem State.ev_disarmed : (s.ev typ src inst payload).disarmed = s.disarmed := rfl
@[simp] theorem State.ev_packets : (s.ev typ src inst payload).packets = s.packets := rfl
@[simp] theorem State.ev_rings : (s.ev typ src inst payload).rings = s.rings := rfl
@[simp] theorem State.ev_nextId : (s.ev typ src inst payload).nextId = s.nextId := rfl
@[simp] theorem State.ev_heldReads : (s.ev typ src inst payload).heldReads = s.heldReads := rfl
@[simp] theorem State.ev_bulk : (s.ev typ src inst payload).bulk = s.bulk := rfl
@[simp] theorem State.ev_promo : (s.ev typ src inst payload).promo = s.promo := rfl
@[simp] theorem State.ev_front : (s.ev typ src inst payload).front = s.front := rfl
@[simp] theorem State.ev_epochs : (s.ev typ src inst payload).epochs = s.epochs := rfl
@[simp] theorem State.ev_patchesOf : (s.ev typ src inst payload).patchesOf = s.patchesOf := rfl
@[simp] theorem State.ev_pipes : (s.ev typ src inst payload).pipes = s.pipes := rfl
@[simp] theorem State.ev_frames : (s.ev typ src inst payload).frames = s.frames := rfl
@[simp] theorem State.ev_graph : (s.ev typ src inst payload).graph = s.graph := rfl
@[simp] theorem State.ev_lanes : (s.ev typ src inst payload).lanes = s.lanes := rfl
@[simp] theorem State.ev_groups : (s.ev typ src inst payload).groups = s.groups := rfl
@[simp] theorem State.ev_streams : (s.ev typ src inst payload).streams = s.streams := rfl
@[simp] theorem State.ev_sgs : (s.ev typ src inst payload).sgs = s.sgs := rfl
@[simp] theorem State.ev_pss : (s.ev typ src inst payload).pss = s.pss := rfl
@[simp] theorem State.ev_caps : (s.ev typ src inst payload).caps = s.caps := rfl
@[simp] theorem State.ev_subst : (s.ev typ src inst payload).subst = s.subst := rfl
@[simp] theorem State.ev_time : (s.ev typ src inst payload).time = s.time := rfl
@[simp] theorem State.ev_drv : (s.ev typ src inst payload).drv = s.drv := rfl
@[simp] theorem State.ev_media : (s.ev typ src inst payload).media = s.media := rfl
@[simp] theorem State.ev_recorder : (s.ev typ src inst payload).recorder = s.recorder := rfl
@[simp] theorem State.ev_zst : (s.ev typ src inst payload).zst = s.zst := rfl
@[simp] theorem State.ev_oldJobs : (s.ev typ src inst payload).oldJobs = s.oldJobs := rfl
@[simp] theorem State.ev_outfs : (s.ev typ src inst payload).outfs = s.outfs := rfl
@[simp] theorem State.ev_encs : (s.ev typ src inst payload).encs = s.encs := rfl
@[simp] theorem State.ev_dec : (s.ev typ src inst payload).dec = s.dec := rfl
@[simp] theorem State.ev_disp : (s.ev typ src inst payload).disp = s.disp := rfl
@[simp] theorem State.ev_hbmc : (s.ev typ src inst payload).hbmc = s.hbmc := rfl
@[simp] theorem State.ev_hlt : (s.ev typ src inst payload).hlt = s.hlt := rfl
@[simp] theorem State.ev_baro : (s.ev typ src inst payload).baro = s.baro := rfl
@[simp] theorem State.ev_nv : (s.ev typ src inst payload).nv = s.nv := rfl
@[simp] theorem State.ev_ofl : (s.ev typ src inst payload).ofl = s.ofl := rfl
@[simp] theorem State.ev_sky : (s.ev typ src inst payload).sky = s.sky := rfl
@[simp] theorem State.ev_aud : (s.ev typ src inst payload).aud = s.aud := rfl
@[simp] theorem State.ev_lsp : (s.ev typ src inst payload).lsp = s.lsp := rfl
@[simp] theorem State.ev_cpr : (s.ev typ src inst payload).cpr = s.cpr := rfl
@[simp] theorem State.ev_free : (s.ev typ src inst payload).free = s.free := rfl
@[simp] theorem State.ev_rd : (s.ev typ src inst payload).rd rg jx = s.rd rg jx := rfl
@[simp] theorem State.ev_get : (s.ev typ src inst payload).get fl jx = s.get fl jx := rfl
@[simp] theorem State.ev_flag : (s.ev typ src inst payload).flag fl jx = s.flag fl jx := rfl
@[simp] theorem State.ev_raised : (s.ev typ src inst payload).raised = s.raised ++ [⟨typ, src, inst, s.rd R.DEV_EPOCH_IN, noFrame, s.dt, payload % 2 ^ 64, 0⟩] := rfl

end ev

section evFrame

variable (s : State) (typ src inst epoch fid payload : Nat) (fl : Fld) (rg : Reg) (jx : List Nat)

@[simp] theorem State.evFrame_pending : (s.evFrame typ src inst epoch fid payload).pending = s.pending := rfl
@[simp] theorem State.evFrame_regs : (s.evFrame typ src inst epoch fid payload).regs = s.regs := rfl
@[simp] theorem State.evFrame_mirror : (s.evFrame typ src inst epoch fid payload).mirror = s.mirror := rfl
@[simp] theorem State.evFrame_latch : (s.evFrame typ src inst epoch fid payload).latch = s.latch := rfl
@[simp] theorem State.evFrame_lowHalf : (s.evFrame typ src inst epoch fid payload).lowHalf = s.lowHalf := rfl
@[simp] theorem State.evFrame_host : (s.evFrame typ src inst epoch fid payload).host = s.host := rfl
@[simp] theorem State.evFrame_ohost : (s.evFrame typ src inst epoch fid payload).ohost = s.ohost := rfl
@[simp] theorem State.evFrame_hbm : (s.evFrame typ src inst epoch fid payload).hbm = s.hbm := rfl
@[simp] theorem State.evFrame_undef : (s.evFrame typ src inst epoch fid payload).undef = s.undef := rfl
@[simp] theorem State.evFrame_mram : (s.evFrame typ src inst epoch fid payload).mram = s.mram := rfl
@[simp] theorem State.evFrame_lut : (s.evFrame typ src inst epoch fid payload).lut = s.lut := rfl
@[simp] theorem State.evFrame_lutSet : (s.evFrame typ src inst epoch fid payload).lutSet = s.lutSet := rfl
@[simp] theorem State.evFrame_msixTable : (s.evFrame typ src inst epoch fid payload).msixTable = s.msixTable := rfl
@[simp] theorem State.evFrame_msixPba : (s.evFrame typ src inst epoch fid payload).msixPba = s.msixPba := rfl
@[simp] theorem State.evFrame_msixEnable : (s.evFrame typ src inst epoch fid payload).msixEnable = s.msixEnable := rfl
@[simp] theorem State.evFrame_msixMask : (s.evFrame typ src inst epoch fid payload).msixMask = s.msixMask := rfl
@[simp] theorem State.evFrame_out : (s.evFrame typ src inst epoch fid payload).out = s.out := rfl
@[simp] theorem State.evFrame_limited : (s.evFrame typ src inst epoch fid payload).limited = s.limited := rfl
@[simp] theorem State.evFrame_limitedAt : (s.evFrame typ src inst epoch fid payload).limitedAt = s.limitedAt := rfl
@[simp] theorem State.evFrame_sfeFull : (s.evFrame typ src inst epoch fid payload).sfeFull = s.sfeFull := rfl
@[simp] theorem State.evFrame_defStores : (s.evFrame typ src inst epoch fid payload).defStores = s.defStores := rfl
@[simp] theorem State.evFrame_dests : (s.evFrame typ src inst epoch fid payload).dests = s.dests := rfl
@[simp] theorem State.evFrame_disarmed : (s.evFrame typ src inst epoch fid payload).disarmed = s.disarmed := rfl
@[simp] theorem State.evFrame_packets : (s.evFrame typ src inst epoch fid payload).packets = s.packets := rfl
@[simp] theorem State.evFrame_rings : (s.evFrame typ src inst epoch fid payload).rings = s.rings := rfl
@[simp] theorem State.evFrame_nextId : (s.evFrame typ src inst epoch fid payload).nextId = s.nextId := rfl
@[simp] theorem State.evFrame_heldReads : (s.evFrame typ src inst epoch fid payload).heldReads = s.heldReads := rfl
@[simp] theorem State.evFrame_bulk : (s.evFrame typ src inst epoch fid payload).bulk = s.bulk := rfl
@[simp] theorem State.evFrame_promo : (s.evFrame typ src inst epoch fid payload).promo = s.promo := rfl
@[simp] theorem State.evFrame_front : (s.evFrame typ src inst epoch fid payload).front = s.front := rfl
@[simp] theorem State.evFrame_epochs : (s.evFrame typ src inst epoch fid payload).epochs = s.epochs := rfl
@[simp] theorem State.evFrame_patchesOf : (s.evFrame typ src inst epoch fid payload).patchesOf = s.patchesOf := rfl
@[simp] theorem State.evFrame_pipes : (s.evFrame typ src inst epoch fid payload).pipes = s.pipes := rfl
@[simp] theorem State.evFrame_frames : (s.evFrame typ src inst epoch fid payload).frames = s.frames := rfl
@[simp] theorem State.evFrame_graph : (s.evFrame typ src inst epoch fid payload).graph = s.graph := rfl
@[simp] theorem State.evFrame_lanes : (s.evFrame typ src inst epoch fid payload).lanes = s.lanes := rfl
@[simp] theorem State.evFrame_groups : (s.evFrame typ src inst epoch fid payload).groups = s.groups := rfl
@[simp] theorem State.evFrame_streams : (s.evFrame typ src inst epoch fid payload).streams = s.streams := rfl
@[simp] theorem State.evFrame_sgs : (s.evFrame typ src inst epoch fid payload).sgs = s.sgs := rfl
@[simp] theorem State.evFrame_pss : (s.evFrame typ src inst epoch fid payload).pss = s.pss := rfl
@[simp] theorem State.evFrame_caps : (s.evFrame typ src inst epoch fid payload).caps = s.caps := rfl
@[simp] theorem State.evFrame_subst : (s.evFrame typ src inst epoch fid payload).subst = s.subst := rfl
@[simp] theorem State.evFrame_time : (s.evFrame typ src inst epoch fid payload).time = s.time := rfl
@[simp] theorem State.evFrame_drv : (s.evFrame typ src inst epoch fid payload).drv = s.drv := rfl
@[simp] theorem State.evFrame_media : (s.evFrame typ src inst epoch fid payload).media = s.media := rfl
@[simp] theorem State.evFrame_recorder : (s.evFrame typ src inst epoch fid payload).recorder = s.recorder := rfl
@[simp] theorem State.evFrame_zst : (s.evFrame typ src inst epoch fid payload).zst = s.zst := rfl
@[simp] theorem State.evFrame_oldJobs : (s.evFrame typ src inst epoch fid payload).oldJobs = s.oldJobs := rfl
@[simp] theorem State.evFrame_outfs : (s.evFrame typ src inst epoch fid payload).outfs = s.outfs := rfl
@[simp] theorem State.evFrame_encs : (s.evFrame typ src inst epoch fid payload).encs = s.encs := rfl
@[simp] theorem State.evFrame_dec : (s.evFrame typ src inst epoch fid payload).dec = s.dec := rfl
@[simp] theorem State.evFrame_disp : (s.evFrame typ src inst epoch fid payload).disp = s.disp := rfl
@[simp] theorem State.evFrame_hbmc : (s.evFrame typ src inst epoch fid payload).hbmc = s.hbmc := rfl
@[simp] theorem State.evFrame_hlt : (s.evFrame typ src inst epoch fid payload).hlt = s.hlt := rfl
@[simp] theorem State.evFrame_baro : (s.evFrame typ src inst epoch fid payload).baro = s.baro := rfl
@[simp] theorem State.evFrame_nv : (s.evFrame typ src inst epoch fid payload).nv = s.nv := rfl
@[simp] theorem State.evFrame_ofl : (s.evFrame typ src inst epoch fid payload).ofl = s.ofl := rfl
@[simp] theorem State.evFrame_sky : (s.evFrame typ src inst epoch fid payload).sky = s.sky := rfl
@[simp] theorem State.evFrame_aud : (s.evFrame typ src inst epoch fid payload).aud = s.aud := rfl
@[simp] theorem State.evFrame_lsp : (s.evFrame typ src inst epoch fid payload).lsp = s.lsp := rfl
@[simp] theorem State.evFrame_cpr : (s.evFrame typ src inst epoch fid payload).cpr = s.cpr := rfl
@[simp] theorem State.evFrame_free : (s.evFrame typ src inst epoch fid payload).free = s.free := rfl
@[simp] theorem State.evFrame_rd : (s.evFrame typ src inst epoch fid payload).rd rg jx = s.rd rg jx := rfl
@[simp] theorem State.evFrame_get : (s.evFrame typ src inst epoch fid payload).get fl jx = s.get fl jx := rfl
@[simp] theorem State.evFrame_flag : (s.evFrame typ src inst epoch fid payload).flag fl jx = s.flag fl jx := rfl
@[simp] theorem State.evFrame_raised : (s.evFrame typ src inst epoch fid payload).raised = s.raised ++ [⟨typ, src, inst, epoch, fid, s.dt, payload % 2 ^ 64, 0⟩] := rfl

end evFrame

section evDone

variable (s : State) (typ src inst q payload : Nat) (fl : Fld) (rg : Reg) (jx : List Nat)

@[simp] theorem State.evDone_pending : (s.evDone typ src inst q payload).pending = s.pending := rfl
@[simp] theorem State.evDone_regs : (s.evDone typ src inst q payload).regs = s.regs := rfl
@[simp] theorem State.evDone_mirror : (s.evDone typ src inst q payload).mirror = s.mirror := rfl
@[simp] theorem State.evDone_latch : (s.evDone typ src inst q payload).latch = s.latch := rfl
@[simp] theorem State.evDone_lowHalf : (s.evDone typ src inst q payload).lowHalf = s.lowHalf := rfl
@[simp] theorem State.evDone_host : (s.evDone typ src inst q payload).host = s.host := rfl
@[simp] theorem State.evDone_ohost : (s.evDone typ src inst q payload).ohost = s.ohost := rfl
@[simp] theorem State.evDone_hbm : (s.evDone typ src inst q payload).hbm = s.hbm := rfl
@[simp] theorem State.evDone_undef : (s.evDone typ src inst q payload).undef = s.undef := rfl
@[simp] theorem State.evDone_mram : (s.evDone typ src inst q payload).mram = s.mram := rfl
@[simp] theorem State.evDone_lut : (s.evDone typ src inst q payload).lut = s.lut := rfl
@[simp] theorem State.evDone_lutSet : (s.evDone typ src inst q payload).lutSet = s.lutSet := rfl
@[simp] theorem State.evDone_msixTable : (s.evDone typ src inst q payload).msixTable = s.msixTable := rfl
@[simp] theorem State.evDone_msixPba : (s.evDone typ src inst q payload).msixPba = s.msixPba := rfl
@[simp] theorem State.evDone_msixEnable : (s.evDone typ src inst q payload).msixEnable = s.msixEnable := rfl
@[simp] theorem State.evDone_msixMask : (s.evDone typ src inst q payload).msixMask = s.msixMask := rfl
@[simp] theorem State.evDone_out : (s.evDone typ src inst q payload).out = s.out := rfl
@[simp] theorem State.evDone_limited : (s.evDone typ src inst q payload).limited = s.limited := rfl
@[simp] theorem State.evDone_limitedAt : (s.evDone typ src inst q payload).limitedAt = s.limitedAt := rfl
@[simp] theorem State.evDone_sfeFull : (s.evDone typ src inst q payload).sfeFull = s.sfeFull := rfl
@[simp] theorem State.evDone_defStores : (s.evDone typ src inst q payload).defStores = s.defStores := rfl
@[simp] theorem State.evDone_dests : (s.evDone typ src inst q payload).dests = s.dests := rfl
@[simp] theorem State.evDone_disarmed : (s.evDone typ src inst q payload).disarmed = s.disarmed := rfl
@[simp] theorem State.evDone_packets : (s.evDone typ src inst q payload).packets = s.packets := rfl
@[simp] theorem State.evDone_rings : (s.evDone typ src inst q payload).rings = s.rings := rfl
@[simp] theorem State.evDone_nextId : (s.evDone typ src inst q payload).nextId = s.nextId := rfl
@[simp] theorem State.evDone_heldReads : (s.evDone typ src inst q payload).heldReads = s.heldReads := rfl
@[simp] theorem State.evDone_bulk : (s.evDone typ src inst q payload).bulk = s.bulk := rfl
@[simp] theorem State.evDone_promo : (s.evDone typ src inst q payload).promo = s.promo := rfl
@[simp] theorem State.evDone_front : (s.evDone typ src inst q payload).front = s.front := rfl
@[simp] theorem State.evDone_epochs : (s.evDone typ src inst q payload).epochs = s.epochs := rfl
@[simp] theorem State.evDone_patchesOf : (s.evDone typ src inst q payload).patchesOf = s.patchesOf := rfl
@[simp] theorem State.evDone_pipes : (s.evDone typ src inst q payload).pipes = s.pipes := rfl
@[simp] theorem State.evDone_frames : (s.evDone typ src inst q payload).frames = s.frames := rfl
@[simp] theorem State.evDone_graph : (s.evDone typ src inst q payload).graph = s.graph := rfl
@[simp] theorem State.evDone_lanes : (s.evDone typ src inst q payload).lanes = s.lanes := rfl
@[simp] theorem State.evDone_groups : (s.evDone typ src inst q payload).groups = s.groups := rfl
@[simp] theorem State.evDone_streams : (s.evDone typ src inst q payload).streams = s.streams := rfl
@[simp] theorem State.evDone_sgs : (s.evDone typ src inst q payload).sgs = s.sgs := rfl
@[simp] theorem State.evDone_pss : (s.evDone typ src inst q payload).pss = s.pss := rfl
@[simp] theorem State.evDone_caps : (s.evDone typ src inst q payload).caps = s.caps := rfl
@[simp] theorem State.evDone_subst : (s.evDone typ src inst q payload).subst = s.subst := rfl
@[simp] theorem State.evDone_time : (s.evDone typ src inst q payload).time = s.time := rfl
@[simp] theorem State.evDone_drv : (s.evDone typ src inst q payload).drv = s.drv := rfl
@[simp] theorem State.evDone_media : (s.evDone typ src inst q payload).media = s.media := rfl
@[simp] theorem State.evDone_recorder : (s.evDone typ src inst q payload).recorder = s.recorder := rfl
@[simp] theorem State.evDone_zst : (s.evDone typ src inst q payload).zst = s.zst := rfl
@[simp] theorem State.evDone_oldJobs : (s.evDone typ src inst q payload).oldJobs = s.oldJobs := rfl
@[simp] theorem State.evDone_outfs : (s.evDone typ src inst q payload).outfs = s.outfs := rfl
@[simp] theorem State.evDone_encs : (s.evDone typ src inst q payload).encs = s.encs := rfl
@[simp] theorem State.evDone_dec : (s.evDone typ src inst q payload).dec = s.dec := rfl
@[simp] theorem State.evDone_disp : (s.evDone typ src inst q payload).disp = s.disp := rfl
@[simp] theorem State.evDone_hbmc : (s.evDone typ src inst q payload).hbmc = s.hbmc := rfl
@[simp] theorem State.evDone_hlt : (s.evDone typ src inst q payload).hlt = s.hlt := rfl
@[simp] theorem State.evDone_baro : (s.evDone typ src inst q payload).baro = s.baro := rfl
@[simp] theorem State.evDone_nv : (s.evDone typ src inst q payload).nv = s.nv := rfl
@[simp] theorem State.evDone_ofl : (s.evDone typ src inst q payload).ofl = s.ofl := rfl
@[simp] theorem State.evDone_sky : (s.evDone typ src inst q payload).sky = s.sky := rfl
@[simp] theorem State.evDone_aud : (s.evDone typ src inst q payload).aud = s.aud := rfl
@[simp] theorem State.evDone_lsp : (s.evDone typ src inst q payload).lsp = s.lsp := rfl
@[simp] theorem State.evDone_cpr : (s.evDone typ src inst q payload).cpr = s.cpr := rfl
@[simp] theorem State.evDone_free : (s.evDone typ src inst q payload).free = s.free := rfl
@[simp] theorem State.evDone_rd : (s.evDone typ src inst q payload).rd rg jx = s.rd rg jx := rfl
@[simp] theorem State.evDone_get : (s.evDone typ src inst q payload).get fl jx = s.get fl jx := rfl
@[simp] theorem State.evDone_flag : (s.evDone typ src inst q payload).flag fl jx = s.flag fl jx := rfl
@[simp] theorem State.evDone_raised : (s.evDone typ src inst q payload).raised = s.raised ++ [⟨typ, src, inst, s.rd R.DEV_EPOCH_IN, noFrame, s.dt, payload % 2 ^ 64, q⟩] := rfl

end evDone

section evLimited

variable (s : State) (typ src inst epoch fid payload : Nat) (fl : Fld) (rg : Reg) (jx : List Nat)

@[simp] theorem State.evLimited_pending : (s.evLimited typ src inst epoch fid payload).pending = s.pending := rfl
@[simp] theorem State.evLimited_regs : (s.evLimited typ src inst epoch fid payload).regs = s.regs := rfl
@[simp] theorem State.evLimited_mirror : (s.evLimited typ src inst epoch fid payload).mirror = s.mirror := rfl
@[simp] theorem State.evLimited_latch : (s.evLimited typ src inst epoch fid payload).latch = s.latch := rfl
@[simp] theorem State.evLimited_lowHalf : (s.evLimited typ src inst epoch fid payload).lowHalf = s.lowHalf := rfl
@[simp] theorem State.evLimited_host : (s.evLimited typ src inst epoch fid payload).host = s.host := rfl
@[simp] theorem State.evLimited_ohost : (s.evLimited typ src inst epoch fid payload).ohost = s.ohost := rfl
@[simp] theorem State.evLimited_hbm : (s.evLimited typ src inst epoch fid payload).hbm = s.hbm := rfl
@[simp] theorem State.evLimited_undef : (s.evLimited typ src inst epoch fid payload).undef = s.undef := rfl
@[simp] theorem State.evLimited_mram : (s.evLimited typ src inst epoch fid payload).mram = s.mram := rfl
@[simp] theorem State.evLimited_lut : (s.evLimited typ src inst epoch fid payload).lut = s.lut := rfl
@[simp] theorem State.evLimited_lutSet : (s.evLimited typ src inst epoch fid payload).lutSet = s.lutSet := rfl
@[simp] theorem State.evLimited_msixTable : (s.evLimited typ src inst epoch fid payload).msixTable = s.msixTable := rfl
@[simp] theorem State.evLimited_msixPba : (s.evLimited typ src inst epoch fid payload).msixPba = s.msixPba := rfl
@[simp] theorem State.evLimited_msixEnable : (s.evLimited typ src inst epoch fid payload).msixEnable = s.msixEnable := rfl
@[simp] theorem State.evLimited_msixMask : (s.evLimited typ src inst epoch fid payload).msixMask = s.msixMask := rfl
@[simp] theorem State.evLimited_out : (s.evLimited typ src inst epoch fid payload).out = s.out := rfl
@[simp] theorem State.evLimited_raised : (s.evLimited typ src inst epoch fid payload).raised = s.raised := rfl
@[simp] theorem State.evLimited_limitedAt : (s.evLimited typ src inst epoch fid payload).limitedAt = s.limitedAt := rfl
@[simp] theorem State.evLimited_sfeFull : (s.evLimited typ src inst epoch fid payload).sfeFull = s.sfeFull := rfl
@[simp] theorem State.evLimited_defStores : (s.evLimited typ src inst epoch fid payload).defStores = s.defStores := rfl
@[simp] theorem State.evLimited_dests : (s.evLimited typ src inst epoch fid payload).dests = s.dests := rfl
@[simp] theorem State.evLimited_disarmed : (s.evLimited typ src inst epoch fid payload).disarmed = s.disarmed := rfl
@[simp] theorem State.evLimited_packets : (s.evLimited typ src inst epoch fid payload).packets = s.packets := rfl
@[simp] theorem State.evLimited_rings : (s.evLimited typ src inst epoch fid payload).rings = s.rings := rfl
@[simp] theorem State.evLimited_nextId : (s.evLimited typ src inst epoch fid payload).nextId = s.nextId := rfl
@[simp] theorem State.evLimited_heldReads : (s.evLimited typ src inst epoch fid payload).heldReads = s.heldReads := rfl
@[simp] theorem State.evLimited_bulk : (s.evLimited typ src inst epoch fid payload).bulk = s.bulk := rfl
@[simp] theorem State.evLimited_promo : (s.evLimited typ src inst epoch fid payload).promo = s.promo := rfl
@[simp] theorem State.evLimited_front : (s.evLimited typ src inst epoch fid payload).front = s.front := rfl
@[simp] theorem State.evLimited_epochs : (s.evLimited typ src inst epoch fid payload).epochs = s.epochs := rfl
@[simp] theorem State.evLimited_patchesOf : (s.evLimited typ src inst epoch fid payload).patchesOf = s.patchesOf := rfl
@[simp] theorem State.evLimited_pipes : (s.evLimited typ src inst epoch fid payload).pipes = s.pipes := rfl
@[simp] theorem State.evLimited_frames : (s.evLimited typ src inst epoch fid payload).frames = s.frames := rfl
@[simp] theorem State.evLimited_graph : (s.evLimited typ src inst epoch fid payload).graph = s.graph := rfl
@[simp] theorem State.evLimited_lanes : (s.evLimited typ src inst epoch fid payload).lanes = s.lanes := rfl
@[simp] theorem State.evLimited_groups : (s.evLimited typ src inst epoch fid payload).groups = s.groups := rfl
@[simp] theorem State.evLimited_streams : (s.evLimited typ src inst epoch fid payload).streams = s.streams := rfl
@[simp] theorem State.evLimited_sgs : (s.evLimited typ src inst epoch fid payload).sgs = s.sgs := rfl
@[simp] theorem State.evLimited_pss : (s.evLimited typ src inst epoch fid payload).pss = s.pss := rfl
@[simp] theorem State.evLimited_caps : (s.evLimited typ src inst epoch fid payload).caps = s.caps := rfl
@[simp] theorem State.evLimited_subst : (s.evLimited typ src inst epoch fid payload).subst = s.subst := rfl
@[simp] theorem State.evLimited_time : (s.evLimited typ src inst epoch fid payload).time = s.time := rfl
@[simp] theorem State.evLimited_drv : (s.evLimited typ src inst epoch fid payload).drv = s.drv := rfl
@[simp] theorem State.evLimited_media : (s.evLimited typ src inst epoch fid payload).media = s.media := rfl
@[simp] theorem State.evLimited_recorder : (s.evLimited typ src inst epoch fid payload).recorder = s.recorder := rfl
@[simp] theorem State.evLimited_zst : (s.evLimited typ src inst epoch fid payload).zst = s.zst := rfl
@[simp] theorem State.evLimited_oldJobs : (s.evLimited typ src inst epoch fid payload).oldJobs = s.oldJobs := rfl
@[simp] theorem State.evLimited_outfs : (s.evLimited typ src inst epoch fid payload).outfs = s.outfs := rfl
@[simp] theorem State.evLimited_encs : (s.evLimited typ src inst epoch fid payload).encs = s.encs := rfl
@[simp] theorem State.evLimited_dec : (s.evLimited typ src inst epoch fid payload).dec = s.dec := rfl
@[simp] theorem State.evLimited_disp : (s.evLimited typ src inst epoch fid payload).disp = s.disp := rfl
@[simp] theorem State.evLimited_hbmc : (s.evLimited typ src inst epoch fid payload).hbmc = s.hbmc := rfl
@[simp] theorem State.evLimited_hlt : (s.evLimited typ src inst epoch fid payload).hlt = s.hlt := rfl
@[simp] theorem State.evLimited_baro : (s.evLimited typ src inst epoch fid payload).baro = s.baro := rfl
@[simp] theorem State.evLimited_nv : (s.evLimited typ src inst epoch fid payload).nv = s.nv := rfl
@[simp] theorem State.evLimited_ofl : (s.evLimited typ src inst epoch fid payload).ofl = s.ofl := rfl
@[simp] theorem State.evLimited_sky : (s.evLimited typ src inst epoch fid payload).sky = s.sky := rfl
@[simp] theorem State.evLimited_aud : (s.evLimited typ src inst epoch fid payload).aud = s.aud := rfl
@[simp] theorem State.evLimited_lsp : (s.evLimited typ src inst epoch fid payload).lsp = s.lsp := rfl
@[simp] theorem State.evLimited_cpr : (s.evLimited typ src inst epoch fid payload).cpr = s.cpr := rfl
@[simp] theorem State.evLimited_free : (s.evLimited typ src inst epoch fid payload).free = s.free := rfl
@[simp] theorem State.evLimited_rd : (s.evLimited typ src inst epoch fid payload).rd rg jx = s.rd rg jx := rfl
@[simp] theorem State.evLimited_get : (s.evLimited typ src inst epoch fid payload).get fl jx = s.get fl jx := rfl
@[simp] theorem State.evLimited_flag : (s.evLimited typ src inst epoch fid payload).flag fl jx = s.flag fl jx := rfl
@[simp] theorem State.evLimited_limited : (s.evLimited typ src inst epoch fid payload).limited = s.limited ++ [⟨typ, src, inst, epoch, fid, s.dt, payload % 2 ^ 64, 0⟩] := rfl

end evLimited

section emit

variable (s : State) (o : Out) (fl : Fld) (rg : Reg) (jx : List Nat)

@[simp] theorem State.emit_pending : (s.emit o).pending = s.pending := rfl
@[simp] theorem State.emit_regs : (s.emit o).regs = s.regs := rfl
@[simp] theorem State.emit_mirror : (s.emit o).mirror = s.mirror := rfl
@[simp] theorem State.emit_latch : (s.emit o).latch = s.latch := rfl
@[simp] theorem State.emit_lowHalf : (s.emit o).lowHalf = s.lowHalf := rfl
@[simp] theorem State.emit_host : (s.emit o).host = s.host := rfl
@[simp] theorem State.emit_ohost : (s.emit o).ohost = s.ohost := rfl
@[simp] theorem State.emit_hbm : (s.emit o).hbm = s.hbm := rfl
@[simp] theorem State.emit_undef : (s.emit o).undef = s.undef := rfl
@[simp] theorem State.emit_mram : (s.emit o).mram = s.mram := rfl
@[simp] theorem State.emit_lut : (s.emit o).lut = s.lut := rfl
@[simp] theorem State.emit_lutSet : (s.emit o).lutSet = s.lutSet := rfl
@[simp] theorem State.emit_msixTable : (s.emit o).msixTable = s.msixTable := rfl
@[simp] theorem State.emit_msixPba : (s.emit o).msixPba = s.msixPba := rfl
@[simp] theorem State.emit_msixEnable : (s.emit o).msixEnable = s.msixEnable := rfl
@[simp] theorem State.emit_msixMask : (s.emit o).msixMask = s.msixMask := rfl
@[simp] theorem State.emit_raised : (s.emit o).raised = s.raised := rfl
@[simp] theorem State.emit_limited : (s.emit o).limited = s.limited := rfl
@[simp] theorem State.emit_limitedAt : (s.emit o).limitedAt = s.limitedAt := rfl
@[simp] theorem State.emit_sfeFull : (s.emit o).sfeFull = s.sfeFull := rfl
@[simp] theorem State.emit_defStores : (s.emit o).defStores = s.defStores := rfl
@[simp] theorem State.emit_dests : (s.emit o).dests = s.dests := rfl
@[simp] theorem State.emit_disarmed : (s.emit o).disarmed = s.disarmed := rfl
@[simp] theorem State.emit_packets : (s.emit o).packets = s.packets := rfl
@[simp] theorem State.emit_rings : (s.emit o).rings = s.rings := rfl
@[simp] theorem State.emit_nextId : (s.emit o).nextId = s.nextId := rfl
@[simp] theorem State.emit_heldReads : (s.emit o).heldReads = s.heldReads := rfl
@[simp] theorem State.emit_bulk : (s.emit o).bulk = s.bulk := rfl
@[simp] theorem State.emit_promo : (s.emit o).promo = s.promo := rfl
@[simp] theorem State.emit_front : (s.emit o).front = s.front := rfl
@[simp] theorem State.emit_epochs : (s.emit o).epochs = s.epochs := rfl
@[simp] theorem State.emit_patchesOf : (s.emit o).patchesOf = s.patchesOf := rfl
@[simp] theorem State.emit_pipes : (s.emit o).pipes = s.pipes := rfl
@[simp] theorem State.emit_frames : (s.emit o).frames = s.frames := rfl
@[simp] theorem State.emit_graph : (s.emit o).graph = s.graph := rfl
@[simp] theorem State.emit_lanes : (s.emit o).lanes = s.lanes := rfl
@[simp] theorem State.emit_groups : (s.emit o).groups = s.groups := rfl
@[simp] theorem State.emit_streams : (s.emit o).streams = s.streams := rfl
@[simp] theorem State.emit_sgs : (s.emit o).sgs = s.sgs := rfl
@[simp] theorem State.emit_pss : (s.emit o).pss = s.pss := rfl
@[simp] theorem State.emit_caps : (s.emit o).caps = s.caps := rfl
@[simp] theorem State.emit_subst : (s.emit o).subst = s.subst := rfl
@[simp] theorem State.emit_time : (s.emit o).time = s.time := rfl
@[simp] theorem State.emit_drv : (s.emit o).drv = s.drv := rfl
@[simp] theorem State.emit_media : (s.emit o).media = s.media := rfl
@[simp] theorem State.emit_recorder : (s.emit o).recorder = s.recorder := rfl
@[simp] theorem State.emit_zst : (s.emit o).zst = s.zst := rfl
@[simp] theorem State.emit_oldJobs : (s.emit o).oldJobs = s.oldJobs := rfl
@[simp] theorem State.emit_outfs : (s.emit o).outfs = s.outfs := rfl
@[simp] theorem State.emit_encs : (s.emit o).encs = s.encs := rfl
@[simp] theorem State.emit_dec : (s.emit o).dec = s.dec := rfl
@[simp] theorem State.emit_disp : (s.emit o).disp = s.disp := rfl
@[simp] theorem State.emit_hbmc : (s.emit o).hbmc = s.hbmc := rfl
@[simp] theorem State.emit_hlt : (s.emit o).hlt = s.hlt := rfl
@[simp] theorem State.emit_baro : (s.emit o).baro = s.baro := rfl
@[simp] theorem State.emit_nv : (s.emit o).nv = s.nv := rfl
@[simp] theorem State.emit_ofl : (s.emit o).ofl = s.ofl := rfl
@[simp] theorem State.emit_sky : (s.emit o).sky = s.sky := rfl
@[simp] theorem State.emit_aud : (s.emit o).aud = s.aud := rfl
@[simp] theorem State.emit_lsp : (s.emit o).lsp = s.lsp := rfl
@[simp] theorem State.emit_cpr : (s.emit o).cpr = s.cpr := rfl
@[simp] theorem State.emit_free : (s.emit o).free = s.free := rfl
@[simp] theorem State.emit_rd : (s.emit o).rd rg jx = s.rd rg jx := rfl
@[simp] theorem State.emit_get : (s.emit o).get fl jx = s.get fl jx := rfl
@[simp] theorem State.emit_flag : (s.emit o).flag fl jx = s.flag fl jx := rfl
@[simp] theorem State.emit_out : (s.emit o).out = s.out ++ [o] := rfl

end emit

section hostWrite

variable (s : State) (a : Nat) (b : Bytes) (fl : Fld) (rg : Reg) (jx : List Nat)

@[simp] theorem State.hostWrite_pending : (s.hostWrite a b).pending = s.pending := rfl
@[simp] theorem State.hostWrite_regs : (s.hostWrite a b).regs = s.regs := rfl
@[simp] theorem State.hostWrite_mirror : (s.hostWrite a b).mirror = s.mirror := rfl
@[simp] theorem State.hostWrite_latch : (s.hostWrite a b).latch = s.latch := rfl
@[simp] theorem State.hostWrite_lowHalf : (s.hostWrite a b).lowHalf = s.lowHalf := rfl
@[simp] theorem State.hostWrite_ohost : (s.hostWrite a b).ohost = s.ohost := rfl
@[simp] theorem State.hostWrite_hbm : (s.hostWrite a b).hbm = s.hbm := rfl
@[simp] theorem State.hostWrite_undef : (s.hostWrite a b).undef = s.undef := rfl
@[simp] theorem State.hostWrite_mram : (s.hostWrite a b).mram = s.mram := rfl
@[simp] theorem State.hostWrite_lut : (s.hostWrite a b).lut = s.lut := rfl
@[simp] theorem State.hostWrite_lutSet : (s.hostWrite a b).lutSet = s.lutSet := rfl
@[simp] theorem State.hostWrite_msixTable : (s.hostWrite a b).msixTable = s.msixTable := rfl
@[simp] theorem State.hostWrite_msixPba : (s.hostWrite a b).msixPba = s.msixPba := rfl
@[simp] theorem State.hostWrite_msixEnable : (s.hostWrite a b).msixEnable = s.msixEnable := rfl
@[simp] theorem State.hostWrite_msixMask : (s.hostWrite a b).msixMask = s.msixMask := rfl
@[simp] theorem State.hostWrite_out : (s.hostWrite a b).out = s.out := rfl
@[simp] theorem State.hostWrite_raised : (s.hostWrite a b).raised = s.raised := rfl
@[simp] theorem State.hostWrite_limited : (s.hostWrite a b).limited = s.limited := rfl
@[simp] theorem State.hostWrite_limitedAt : (s.hostWrite a b).limitedAt = s.limitedAt := rfl
@[simp] theorem State.hostWrite_sfeFull : (s.hostWrite a b).sfeFull = s.sfeFull := rfl
@[simp] theorem State.hostWrite_defStores : (s.hostWrite a b).defStores = s.defStores := rfl
@[simp] theorem State.hostWrite_dests : (s.hostWrite a b).dests = s.dests := rfl
@[simp] theorem State.hostWrite_disarmed : (s.hostWrite a b).disarmed = s.disarmed := rfl
@[simp] theorem State.hostWrite_packets : (s.hostWrite a b).packets = s.packets := rfl
@[simp] theorem State.hostWrite_rings : (s.hostWrite a b).rings = s.rings := rfl
@[simp] theorem State.hostWrite_nextId : (s.hostWrite a b).nextId = s.nextId := rfl
@[simp] theorem State.hostWrite_heldReads : (s.hostWrite a b).heldReads = s.heldReads := rfl
@[simp] theorem State.hostWrite_bulk : (s.hostWrite a b).bulk = s.bulk := rfl
@[simp] theorem State.hostWrite_promo : (s.hostWrite a b).promo = s.promo := rfl
@[simp] theorem State.hostWrite_front : (s.hostWrite a b).front = s.front := rfl
@[simp] theorem State.hostWrite_epochs : (s.hostWrite a b).epochs = s.epochs := rfl
@[simp] theorem State.hostWrite_patchesOf : (s.hostWrite a b).patchesOf = s.patchesOf := rfl
@[simp] theorem State.hostWrite_pipes : (s.hostWrite a b).pipes = s.pipes := rfl
@[simp] theorem State.hostWrite_frames : (s.hostWrite a b).frames = s.frames := rfl
@[simp] theorem State.hostWrite_graph : (s.hostWrite a b).graph = s.graph := rfl
@[simp] theorem State.hostWrite_lanes : (s.hostWrite a b).lanes = s.lanes := rfl
@[simp] theorem State.hostWrite_groups : (s.hostWrite a b).groups = s.groups := rfl
@[simp] theorem State.hostWrite_streams : (s.hostWrite a b).streams = s.streams := rfl
@[simp] theorem State.hostWrite_sgs : (s.hostWrite a b).sgs = s.sgs := rfl
@[simp] theorem State.hostWrite_pss : (s.hostWrite a b).pss = s.pss := rfl
@[simp] theorem State.hostWrite_caps : (s.hostWrite a b).caps = s.caps := rfl
@[simp] theorem State.hostWrite_subst : (s.hostWrite a b).subst = s.subst := rfl
@[simp] theorem State.hostWrite_time : (s.hostWrite a b).time = s.time := rfl
@[simp] theorem State.hostWrite_drv : (s.hostWrite a b).drv = s.drv := rfl
@[simp] theorem State.hostWrite_media : (s.hostWrite a b).media = s.media := rfl
@[simp] theorem State.hostWrite_recorder : (s.hostWrite a b).recorder = s.recorder := rfl
@[simp] theorem State.hostWrite_zst : (s.hostWrite a b).zst = s.zst := rfl
@[simp] theorem State.hostWrite_oldJobs : (s.hostWrite a b).oldJobs = s.oldJobs := rfl
@[simp] theorem State.hostWrite_outfs : (s.hostWrite a b).outfs = s.outfs := rfl
@[simp] theorem State.hostWrite_encs : (s.hostWrite a b).encs = s.encs := rfl
@[simp] theorem State.hostWrite_dec : (s.hostWrite a b).dec = s.dec := rfl
@[simp] theorem State.hostWrite_disp : (s.hostWrite a b).disp = s.disp := rfl
@[simp] theorem State.hostWrite_hbmc : (s.hostWrite a b).hbmc = s.hbmc := rfl
@[simp] theorem State.hostWrite_hlt : (s.hostWrite a b).hlt = s.hlt := rfl
@[simp] theorem State.hostWrite_baro : (s.hostWrite a b).baro = s.baro := rfl
@[simp] theorem State.hostWrite_nv : (s.hostWrite a b).nv = s.nv := rfl
@[simp] theorem State.hostWrite_ofl : (s.hostWrite a b).ofl = s.ofl := rfl
@[simp] theorem State.hostWrite_sky : (s.hostWrite a b).sky = s.sky := rfl
@[simp] theorem State.hostWrite_aud : (s.hostWrite a b).aud = s.aud := rfl
@[simp] theorem State.hostWrite_lsp : (s.hostWrite a b).lsp = s.lsp := rfl
@[simp] theorem State.hostWrite_cpr : (s.hostWrite a b).cpr = s.cpr := rfl
@[simp] theorem State.hostWrite_free : (s.hostWrite a b).free = s.free := rfl
@[simp] theorem State.hostWrite_rd : (s.hostWrite a b).rd rg jx = s.rd rg jx := rfl
@[simp] theorem State.hostWrite_get : (s.hostWrite a b).get fl jx = s.get fl jx := rfl
@[simp] theorem State.hostWrite_flag : (s.hostWrite a b).flag fl jx = s.flag fl jx := rfl
@[simp] theorem State.hostWrite_host : (s.hostWrite a b).host = s.host.write a b := rfl

end hostWrite

section mramWrite

variable (s : State) (a : Nat) (b : Bytes) (fl : Fld) (rg : Reg) (jx : List Nat)

@[simp] theorem State.mramWrite_pending : (s.mramWrite a b).pending = s.pending := rfl
@[simp] theorem State.mramWrite_regs : (s.mramWrite a b).regs = s.regs := rfl
@[simp] theorem State.mramWrite_mirror : (s.mramWrite a b).mirror = s.mirror := rfl
@[simp] theorem State.mramWrite_latch : (s.mramWrite a b).latch = s.latch := rfl
@[simp] theorem State.mramWrite_lowHalf : (s.mramWrite a b).lowHalf = s.lowHalf := rfl
@[simp] theorem State.mramWrite_host : (s.mramWrite a b).host = s.host := rfl
@[simp] theorem State.mramWrite_ohost : (s.mramWrite a b).ohost = s.ohost := rfl
@[simp] theorem State.mramWrite_hbm : (s.mramWrite a b).hbm = s.hbm := rfl
@[simp] theorem State.mramWrite_undef : (s.mramWrite a b).undef = s.undef := rfl
@[simp] theorem State.mramWrite_lut : (s.mramWrite a b).lut = s.lut := rfl
@[simp] theorem State.mramWrite_lutSet : (s.mramWrite a b).lutSet = s.lutSet := rfl
@[simp] theorem State.mramWrite_msixTable : (s.mramWrite a b).msixTable = s.msixTable := rfl
@[simp] theorem State.mramWrite_msixPba : (s.mramWrite a b).msixPba = s.msixPba := rfl
@[simp] theorem State.mramWrite_msixEnable : (s.mramWrite a b).msixEnable = s.msixEnable := rfl
@[simp] theorem State.mramWrite_msixMask : (s.mramWrite a b).msixMask = s.msixMask := rfl
@[simp] theorem State.mramWrite_out : (s.mramWrite a b).out = s.out := rfl
@[simp] theorem State.mramWrite_raised : (s.mramWrite a b).raised = s.raised := rfl
@[simp] theorem State.mramWrite_limited : (s.mramWrite a b).limited = s.limited := rfl
@[simp] theorem State.mramWrite_limitedAt : (s.mramWrite a b).limitedAt = s.limitedAt := rfl
@[simp] theorem State.mramWrite_sfeFull : (s.mramWrite a b).sfeFull = s.sfeFull := rfl
@[simp] theorem State.mramWrite_defStores : (s.mramWrite a b).defStores = s.defStores := rfl
@[simp] theorem State.mramWrite_dests : (s.mramWrite a b).dests = s.dests := rfl
@[simp] theorem State.mramWrite_disarmed : (s.mramWrite a b).disarmed = s.disarmed := rfl
@[simp] theorem State.mramWrite_packets : (s.mramWrite a b).packets = s.packets := rfl
@[simp] theorem State.mramWrite_rings : (s.mramWrite a b).rings = s.rings := rfl
@[simp] theorem State.mramWrite_nextId : (s.mramWrite a b).nextId = s.nextId := rfl
@[simp] theorem State.mramWrite_heldReads : (s.mramWrite a b).heldReads = s.heldReads := rfl
@[simp] theorem State.mramWrite_bulk : (s.mramWrite a b).bulk = s.bulk := rfl
@[simp] theorem State.mramWrite_promo : (s.mramWrite a b).promo = s.promo := rfl
@[simp] theorem State.mramWrite_front : (s.mramWrite a b).front = s.front := rfl
@[simp] theorem State.mramWrite_epochs : (s.mramWrite a b).epochs = s.epochs := rfl
@[simp] theorem State.mramWrite_patchesOf : (s.mramWrite a b).patchesOf = s.patchesOf := rfl
@[simp] theorem State.mramWrite_pipes : (s.mramWrite a b).pipes = s.pipes := rfl
@[simp] theorem State.mramWrite_frames : (s.mramWrite a b).frames = s.frames := rfl
@[simp] theorem State.mramWrite_graph : (s.mramWrite a b).graph = s.graph := rfl
@[simp] theorem State.mramWrite_lanes : (s.mramWrite a b).lanes = s.lanes := rfl
@[simp] theorem State.mramWrite_groups : (s.mramWrite a b).groups = s.groups := rfl
@[simp] theorem State.mramWrite_streams : (s.mramWrite a b).streams = s.streams := rfl
@[simp] theorem State.mramWrite_sgs : (s.mramWrite a b).sgs = s.sgs := rfl
@[simp] theorem State.mramWrite_pss : (s.mramWrite a b).pss = s.pss := rfl
@[simp] theorem State.mramWrite_caps : (s.mramWrite a b).caps = s.caps := rfl
@[simp] theorem State.mramWrite_subst : (s.mramWrite a b).subst = s.subst := rfl
@[simp] theorem State.mramWrite_time : (s.mramWrite a b).time = s.time := rfl
@[simp] theorem State.mramWrite_drv : (s.mramWrite a b).drv = s.drv := rfl
@[simp] theorem State.mramWrite_media : (s.mramWrite a b).media = s.media := rfl
@[simp] theorem State.mramWrite_recorder : (s.mramWrite a b).recorder = s.recorder := rfl
@[simp] theorem State.mramWrite_zst : (s.mramWrite a b).zst = s.zst := rfl
@[simp] theorem State.mramWrite_oldJobs : (s.mramWrite a b).oldJobs = s.oldJobs := rfl
@[simp] theorem State.mramWrite_outfs : (s.mramWrite a b).outfs = s.outfs := rfl
@[simp] theorem State.mramWrite_encs : (s.mramWrite a b).encs = s.encs := rfl
@[simp] theorem State.mramWrite_dec : (s.mramWrite a b).dec = s.dec := rfl
@[simp] theorem State.mramWrite_disp : (s.mramWrite a b).disp = s.disp := rfl
@[simp] theorem State.mramWrite_hbmc : (s.mramWrite a b).hbmc = s.hbmc := rfl
@[simp] theorem State.mramWrite_hlt : (s.mramWrite a b).hlt = s.hlt := rfl
@[simp] theorem State.mramWrite_baro : (s.mramWrite a b).baro = s.baro := rfl
@[simp] theorem State.mramWrite_nv : (s.mramWrite a b).nv = s.nv := rfl
@[simp] theorem State.mramWrite_ofl : (s.mramWrite a b).ofl = s.ofl := rfl
@[simp] theorem State.mramWrite_sky : (s.mramWrite a b).sky = s.sky := rfl
@[simp] theorem State.mramWrite_aud : (s.mramWrite a b).aud = s.aud := rfl
@[simp] theorem State.mramWrite_lsp : (s.mramWrite a b).lsp = s.lsp := rfl
@[simp] theorem State.mramWrite_cpr : (s.mramWrite a b).cpr = s.cpr := rfl
@[simp] theorem State.mramWrite_free : (s.mramWrite a b).free = s.free := rfl
@[simp] theorem State.mramWrite_rd : (s.mramWrite a b).rd rg jx = s.rd rg jx := rfl
@[simp] theorem State.mramWrite_get : (s.mramWrite a b).get fl jx = s.get fl jx := rfl
@[simp] theorem State.mramWrite_flag : (s.mramWrite a b).flag fl jx = s.flag fl jx := rfl
@[simp] theorem State.mramWrite_mram : (s.mramWrite a b).mram = s.mram.write a b := rfl

end mramWrite

section modAud

variable (s : State) (f : AudSt → AudSt) (fl : Fld) (rg : Reg) (jx : List Nat)

@[simp] theorem State.modAud_pending : (s.modAud f).pending = s.pending := rfl
@[simp] theorem State.modAud_regs : (s.modAud f).regs = s.regs := rfl
@[simp] theorem State.modAud_mirror : (s.modAud f).mirror = s.mirror := rfl
@[simp] theorem State.modAud_latch : (s.modAud f).latch = s.latch := rfl
@[simp] theorem State.modAud_lowHalf : (s.modAud f).lowHalf = s.lowHalf := rfl
@[simp] theorem State.modAud_host : (s.modAud f).host = s.host := rfl
@[simp] theorem State.modAud_ohost : (s.modAud f).ohost = s.ohost := rfl
@[simp] theorem State.modAud_hbm : (s.modAud f).hbm = s.hbm := rfl
@[simp] theorem State.modAud_undef : (s.modAud f).undef = s.undef := rfl
@[simp] theorem State.modAud_mram : (s.modAud f).mram = s.mram := rfl
@[simp] theorem State.modAud_lut : (s.modAud f).lut = s.lut := rfl
@[simp] theorem State.modAud_lutSet : (s.modAud f).lutSet = s.lutSet := rfl
@[simp] theorem State.modAud_msixTable : (s.modAud f).msixTable = s.msixTable := rfl
@[simp] theorem State.modAud_msixPba : (s.modAud f).msixPba = s.msixPba := rfl
@[simp] theorem State.modAud_msixEnable : (s.modAud f).msixEnable = s.msixEnable := rfl
@[simp] theorem State.modAud_msixMask : (s.modAud f).msixMask = s.msixMask := rfl
@[simp] theorem State.modAud_out : (s.modAud f).out = s.out := rfl
@[simp] theorem State.modAud_raised : (s.modAud f).raised = s.raised := rfl
@[simp] theorem State.modAud_limited : (s.modAud f).limited = s.limited := rfl
@[simp] theorem State.modAud_limitedAt : (s.modAud f).limitedAt = s.limitedAt := rfl
@[simp] theorem State.modAud_sfeFull : (s.modAud f).sfeFull = s.sfeFull := rfl
@[simp] theorem State.modAud_defStores : (s.modAud f).defStores = s.defStores := rfl
@[simp] theorem State.modAud_dests : (s.modAud f).dests = s.dests := rfl
@[simp] theorem State.modAud_disarmed : (s.modAud f).disarmed = s.disarmed := rfl
@[simp] theorem State.modAud_packets : (s.modAud f).packets = s.packets := rfl
@[simp] theorem State.modAud_rings : (s.modAud f).rings = s.rings := rfl
@[simp] theorem State.modAud_nextId : (s.modAud f).nextId = s.nextId := rfl
@[simp] theorem State.modAud_heldReads : (s.modAud f).heldReads = s.heldReads := rfl
@[simp] theorem State.modAud_bulk : (s.modAud f).bulk = s.bulk := rfl
@[simp] theorem State.modAud_promo : (s.modAud f).promo = s.promo := rfl
@[simp] theorem State.modAud_front : (s.modAud f).front = s.front := rfl
@[simp] theorem State.modAud_epochs : (s.modAud f).epochs = s.epochs := rfl
@[simp] theorem State.modAud_patchesOf : (s.modAud f).patchesOf = s.patchesOf := rfl
@[simp] theorem State.modAud_pipes : (s.modAud f).pipes = s.pipes := rfl
@[simp] theorem State.modAud_frames : (s.modAud f).frames = s.frames := rfl
@[simp] theorem State.modAud_graph : (s.modAud f).graph = s.graph := rfl
@[simp] theorem State.modAud_lanes : (s.modAud f).lanes = s.lanes := rfl
@[simp] theorem State.modAud_groups : (s.modAud f).groups = s.groups := rfl
@[simp] theorem State.modAud_streams : (s.modAud f).streams = s.streams := rfl
@[simp] theorem State.modAud_sgs : (s.modAud f).sgs = s.sgs := rfl
@[simp] theorem State.modAud_pss : (s.modAud f).pss = s.pss := rfl
@[simp] theorem State.modAud_caps : (s.modAud f).caps = s.caps := rfl
@[simp] theorem State.modAud_subst : (s.modAud f).subst = s.subst := rfl
@[simp] theorem State.modAud_time : (s.modAud f).time = s.time := rfl
@[simp] theorem State.modAud_drv : (s.modAud f).drv = s.drv := rfl
@[simp] theorem State.modAud_media : (s.modAud f).media = s.media := rfl
@[simp] theorem State.modAud_recorder : (s.modAud f).recorder = s.recorder := rfl
@[simp] theorem State.modAud_zst : (s.modAud f).zst = s.zst := rfl
@[simp] theorem State.modAud_oldJobs : (s.modAud f).oldJobs = s.oldJobs := rfl
@[simp] theorem State.modAud_outfs : (s.modAud f).outfs = s.outfs := rfl
@[simp] theorem State.modAud_encs : (s.modAud f).encs = s.encs := rfl
@[simp] theorem State.modAud_dec : (s.modAud f).dec = s.dec := rfl
@[simp] theorem State.modAud_disp : (s.modAud f).disp = s.disp := rfl
@[simp] theorem State.modAud_hbmc : (s.modAud f).hbmc = s.hbmc := rfl
@[simp] theorem State.modAud_hlt : (s.modAud f).hlt = s.hlt := rfl
@[simp] theorem State.modAud_baro : (s.modAud f).baro = s.baro := rfl
@[simp] theorem State.modAud_nv : (s.modAud f).nv = s.nv := rfl
@[simp] theorem State.modAud_ofl : (s.modAud f).ofl = s.ofl := rfl
@[simp] theorem State.modAud_sky : (s.modAud f).sky = s.sky := rfl
@[simp] theorem State.modAud_lsp : (s.modAud f).lsp = s.lsp := rfl
@[simp] theorem State.modAud_cpr : (s.modAud f).cpr = s.cpr := rfl
@[simp] theorem State.modAud_free : (s.modAud f).free = s.free := rfl
@[simp] theorem State.modAud_rd : (s.modAud f).rd rg jx = s.rd rg jx := rfl
@[simp] theorem State.modAud_get : (s.modAud f).get fl jx = s.get fl jx := rfl
@[simp] theorem State.modAud_flag : (s.modAud f).flag fl jx = s.flag fl jx := rfl
@[simp] theorem State.modAud_aud : (s.modAud f).aud = f s.aud := rfl

end modAud

section modCap

variable (s : State) (p : Nat) (f : CapSt → CapSt) (fl : Fld) (rg : Reg) (jx : List Nat)

@[simp] theorem State.modCap_pending : (s.modCap p f).pending = s.pending := rfl
@[simp] theorem State.modCap_regs : (s.modCap p f).regs = s.regs := rfl
@[simp] theorem State.modCap_mirror : (s.modCap p f).mirror = s.mirror := rfl
@[simp] theorem State.modCap_latch : (s.modCap p f).latch = s.latch := rfl
@[simp] theorem State.modCap_lowHalf : (s.modCap p f).lowHalf = s.lowHalf := rfl
@[simp] theorem State.modCap_host : (s.modCap p f).host = s.host := rfl
@[simp] theorem State.modCap_ohost : (s.modCap p f).ohost = s.ohost := rfl
@[simp] theorem State.modCap_hbm : (s.modCap p f).hbm = s.hbm := rfl
@[simp] theorem State.modCap_undef : (s.modCap p f).undef = s.undef := rfl
@[simp] theorem State.modCap_mram : (s.modCap p f).mram = s.mram := rfl
@[simp] theorem State.modCap_lut : (s.modCap p f).lut = s.lut := rfl
@[simp] theorem State.modCap_lutSet : (s.modCap p f).lutSet = s.lutSet := rfl
@[simp] theorem State.modCap_msixTable : (s.modCap p f).msixTable = s.msixTable := rfl
@[simp] theorem State.modCap_msixPba : (s.modCap p f).msixPba = s.msixPba := rfl
@[simp] theorem State.modCap_msixEnable : (s.modCap p f).msixEnable = s.msixEnable := rfl
@[simp] theorem State.modCap_msixMask : (s.modCap p f).msixMask = s.msixMask := rfl
@[simp] theorem State.modCap_out : (s.modCap p f).out = s.out := rfl
@[simp] theorem State.modCap_raised : (s.modCap p f).raised = s.raised := rfl
@[simp] theorem State.modCap_limited : (s.modCap p f).limited = s.limited := rfl
@[simp] theorem State.modCap_limitedAt : (s.modCap p f).limitedAt = s.limitedAt := rfl
@[simp] theorem State.modCap_sfeFull : (s.modCap p f).sfeFull = s.sfeFull := rfl
@[simp] theorem State.modCap_defStores : (s.modCap p f).defStores = s.defStores := rfl
@[simp] theorem State.modCap_dests : (s.modCap p f).dests = s.dests := rfl
@[simp] theorem State.modCap_disarmed : (s.modCap p f).disarmed = s.disarmed := rfl
@[simp] theorem State.modCap_packets : (s.modCap p f).packets = s.packets := rfl
@[simp] theorem State.modCap_rings : (s.modCap p f).rings = s.rings := rfl
@[simp] theorem State.modCap_nextId : (s.modCap p f).nextId = s.nextId := rfl
@[simp] theorem State.modCap_heldReads : (s.modCap p f).heldReads = s.heldReads := rfl
@[simp] theorem State.modCap_bulk : (s.modCap p f).bulk = s.bulk := rfl
@[simp] theorem State.modCap_promo : (s.modCap p f).promo = s.promo := rfl
@[simp] theorem State.modCap_front : (s.modCap p f).front = s.front := rfl
@[simp] theorem State.modCap_epochs : (s.modCap p f).epochs = s.epochs := rfl
@[simp] theorem State.modCap_patchesOf : (s.modCap p f).patchesOf = s.patchesOf := rfl
@[simp] theorem State.modCap_pipes : (s.modCap p f).pipes = s.pipes := rfl
@[simp] theorem State.modCap_frames : (s.modCap p f).frames = s.frames := rfl
@[simp] theorem State.modCap_graph : (s.modCap p f).graph = s.graph := rfl
@[simp] theorem State.modCap_lanes : (s.modCap p f).lanes = s.lanes := rfl
@[simp] theorem State.modCap_groups : (s.modCap p f).groups = s.groups := rfl
@[simp] theorem State.modCap_streams : (s.modCap p f).streams = s.streams := rfl
@[simp] theorem State.modCap_sgs : (s.modCap p f).sgs = s.sgs := rfl
@[simp] theorem State.modCap_pss : (s.modCap p f).pss = s.pss := rfl
@[simp] theorem State.modCap_subst : (s.modCap p f).subst = s.subst := rfl
@[simp] theorem State.modCap_time : (s.modCap p f).time = s.time := rfl
@[simp] theorem State.modCap_drv : (s.modCap p f).drv = s.drv := rfl
@[simp] theorem State.modCap_media : (s.modCap p f).media = s.media := rfl
@[simp] theorem State.modCap_recorder : (s.modCap p f).recorder = s.recorder := rfl
@[simp] theorem State.modCap_zst : (s.modCap p f).zst = s.zst := rfl
@[simp] theorem State.modCap_oldJobs : (s.modCap p f).oldJobs = s.oldJobs := rfl
@[simp] theorem State.modCap_outfs : (s.modCap p f).outfs = s.outfs := rfl
@[simp] theorem State.modCap_encs : (s.modCap p f).encs = s.encs := rfl
@[simp] theorem State.modCap_dec : (s.modCap p f).dec = s.dec := rfl
@[simp] theorem State.modCap_disp : (s.modCap p f).disp = s.disp := rfl
@[simp] theorem State.modCap_hbmc : (s.modCap p f).hbmc = s.hbmc := rfl
@[simp] theorem State.modCap_hlt : (s.modCap p f).hlt = s.hlt := rfl
@[simp] theorem State.modCap_baro : (s.modCap p f).baro = s.baro := rfl
@[simp] theorem State.modCap_nv : (s.modCap p f).nv = s.nv := rfl
@[simp] theorem State.modCap_ofl : (s.modCap p f).ofl = s.ofl := rfl
@[simp] theorem State.modCap_sky : (s.modCap p f).sky = s.sky := rfl
@[simp] theorem State.modCap_aud : (s.modCap p f).aud = s.aud := rfl
@[simp] theorem State.modCap_lsp : (s.modCap p f).lsp = s.lsp := rfl
@[simp] theorem State.modCap_cpr : (s.modCap p f).cpr = s.cpr := rfl
@[simp] theorem State.modCap_free : (s.modCap p f).free = s.free := rfl
@[simp] theorem State.modCap_rd : (s.modCap p f).rd rg jx = s.rd rg jx := rfl
@[simp] theorem State.modCap_get : (s.modCap p f).get fl jx = s.get fl jx := rfl
@[simp] theorem State.modCap_flag : (s.modCap p f).flag fl jx = s.flag fl jx := rfl
@[simp] theorem State.modCap_caps : (s.modCap p f).caps = modNth s.caps p f := rfl

end modCap

section modCmd

variable (s : State) (id : Nat) (f : OflCmd → OflCmd) (fl : Fld) (rg : Reg) (jx : List Nat)

@[simp] theorem State.modCmd_pending : (s.modCmd id f).pending = s.pending := rfl
@[simp] theorem State.modCmd_regs : (s.modCmd id f).regs = s.regs := rfl
@[simp] theorem State.modCmd_mirror : (s.modCmd id f).mirror = s.mirror := rfl
@[simp] theorem State.modCmd_latch : (s.modCmd id f).latch = s.latch := rfl
@[simp] theorem State.modCmd_lowHalf : (s.modCmd id f).lowHalf = s.lowHalf := rfl
@[simp] theorem State.modCmd_host : (s.modCmd id f).host = s.host := rfl
@[simp] theorem State.modCmd_ohost : (s.modCmd id f).ohost = s.ohost := rfl
@[simp] theorem State.modCmd_hbm : (s.modCmd id f).hbm = s.hbm := rfl
@[simp] theorem State.modCmd_undef : (s.modCmd id f).undef = s.undef := rfl
@[simp] theorem State.modCmd_mram : (s.modCmd id f).mram = s.mram := rfl
@[simp] theorem State.modCmd_lut : (s.modCmd id f).lut = s.lut := rfl
@[simp] theorem State.modCmd_lutSet : (s.modCmd id f).lutSet = s.lutSet := rfl
@[simp] theorem State.modCmd_msixTable : (s.modCmd id f).msixTable = s.msixTable := rfl
@[simp] theorem State.modCmd_msixPba : (s.modCmd id f).msixPba = s.msixPba := rfl
@[simp] theorem State.modCmd_msixEnable : (s.modCmd id f).msixEnable = s.msixEnable := rfl
@[simp] theorem State.modCmd_msixMask : (s.modCmd id f).msixMask = s.msixMask := rfl
@[simp] theorem State.modCmd_out : (s.modCmd id f).out = s.out := rfl
@[simp] theorem State.modCmd_raised : (s.modCmd id f).raised = s.raised := rfl
@[simp] theorem State.modCmd_limited : (s.modCmd id f).limited = s.limited := rfl
@[simp] theorem State.modCmd_limitedAt : (s.modCmd id f).limitedAt = s.limitedAt := rfl
@[simp] theorem State.modCmd_sfeFull : (s.modCmd id f).sfeFull = s.sfeFull := rfl
@[simp] theorem State.modCmd_defStores : (s.modCmd id f).defStores = s.defStores := rfl
@[simp] theorem State.modCmd_dests : (s.modCmd id f).dests = s.dests := rfl
@[simp] theorem State.modCmd_disarmed : (s.modCmd id f).disarmed = s.disarmed := rfl
@[simp] theorem State.modCmd_packets : (s.modCmd id f).packets = s.packets := rfl
@[simp] theorem State.modCmd_rings : (s.modCmd id f).rings = s.rings := rfl
@[simp] theorem State.modCmd_nextId : (s.modCmd id f).nextId = s.nextId := rfl
@[simp] theorem State.modCmd_heldReads : (s.modCmd id f).heldReads = s.heldReads := rfl
@[simp] theorem State.modCmd_bulk : (s.modCmd id f).bulk = s.bulk := rfl
@[simp] theorem State.modCmd_promo : (s.modCmd id f).promo = s.promo := rfl
@[simp] theorem State.modCmd_front : (s.modCmd id f).front = s.front := rfl
@[simp] theorem State.modCmd_epochs : (s.modCmd id f).epochs = s.epochs := rfl
@[simp] theorem State.modCmd_patchesOf : (s.modCmd id f).patchesOf = s.patchesOf := rfl
@[simp] theorem State.modCmd_pipes : (s.modCmd id f).pipes = s.pipes := rfl
@[simp] theorem State.modCmd_frames : (s.modCmd id f).frames = s.frames := rfl
@[simp] theorem State.modCmd_graph : (s.modCmd id f).graph = s.graph := rfl
@[simp] theorem State.modCmd_lanes : (s.modCmd id f).lanes = s.lanes := rfl
@[simp] theorem State.modCmd_groups : (s.modCmd id f).groups = s.groups := rfl
@[simp] theorem State.modCmd_streams : (s.modCmd id f).streams = s.streams := rfl
@[simp] theorem State.modCmd_sgs : (s.modCmd id f).sgs = s.sgs := rfl
@[simp] theorem State.modCmd_pss : (s.modCmd id f).pss = s.pss := rfl
@[simp] theorem State.modCmd_caps : (s.modCmd id f).caps = s.caps := rfl
@[simp] theorem State.modCmd_subst : (s.modCmd id f).subst = s.subst := rfl
@[simp] theorem State.modCmd_time : (s.modCmd id f).time = s.time := rfl
@[simp] theorem State.modCmd_drv : (s.modCmd id f).drv = s.drv := rfl
@[simp] theorem State.modCmd_media : (s.modCmd id f).media = s.media := rfl
@[simp] theorem State.modCmd_recorder : (s.modCmd id f).recorder = s.recorder := rfl
@[simp] theorem State.modCmd_zst : (s.modCmd id f).zst = s.zst := rfl
@[simp] theorem State.modCmd_oldJobs : (s.modCmd id f).oldJobs = s.oldJobs := rfl
@[simp] theorem State.modCmd_outfs : (s.modCmd id f).outfs = s.outfs := rfl
@[simp] theorem State.modCmd_encs : (s.modCmd id f).encs = s.encs := rfl
@[simp] theorem State.modCmd_dec : (s.modCmd id f).dec = s.dec := rfl
@[simp] theorem State.modCmd_disp : (s.modCmd id f).disp = s.disp := rfl
@[simp] theorem State.modCmd_hbmc : (s.modCmd id f).hbmc = s.hbmc := rfl
@[simp] theorem State.modCmd_hlt : (s.modCmd id f).hlt = s.hlt := rfl
@[simp] theorem State.modCmd_baro : (s.modCmd id f).baro = s.baro := rfl
@[simp] theorem State.modCmd_nv : (s.modCmd id f).nv = s.nv := rfl
@[simp] theorem State.modCmd_sky : (s.modCmd id f).sky = s.sky := rfl
@[simp] theorem State.modCmd_aud : (s.modCmd id f).aud = s.aud := rfl
@[simp] theorem State.modCmd_lsp : (s.modCmd id f).lsp = s.lsp := rfl
@[simp] theorem State.modCmd_cpr : (s.modCmd id f).cpr = s.cpr := rfl
@[simp] theorem State.modCmd_free : (s.modCmd id f).free = s.free := rfl
@[simp] theorem State.modCmd_rd : (s.modCmd id f).rd rg jx = s.rd rg jx := rfl
@[simp] theorem State.modCmd_get : (s.modCmd id f).get fl jx = s.get fl jx := rfl
@[simp] theorem State.modCmd_flag : (s.modCmd id f).flag fl jx = s.flag fl jx := rfl

end modCmd

section modCpr

variable (s : State) (f : CprSt → CprSt) (fl : Fld) (rg : Reg) (jx : List Nat)

@[simp] theorem State.modCpr_pending : (s.modCpr f).pending = s.pending := rfl
@[simp] theorem State.modCpr_regs : (s.modCpr f).regs = s.regs := rfl
@[simp] theorem State.modCpr_mirror : (s.modCpr f).mirror = s.mirror := rfl
@[simp] theorem State.modCpr_latch : (s.modCpr f).latch = s.latch := rfl
@[simp] theorem State.modCpr_lowHalf : (s.modCpr f).lowHalf = s.lowHalf := rfl
@[simp] theorem State.modCpr_host : (s.modCpr f).host = s.host := rfl
@[simp] theorem State.modCpr_ohost : (s.modCpr f).ohost = s.ohost := rfl
@[simp] theorem State.modCpr_hbm : (s.modCpr f).hbm = s.hbm := rfl
@[simp] theorem State.modCpr_undef : (s.modCpr f).undef = s.undef := rfl
@[simp] theorem State.modCpr_mram : (s.modCpr f).mram = s.mram := rfl
@[simp] theorem State.modCpr_lut : (s.modCpr f).lut = s.lut := rfl
@[simp] theorem State.modCpr_lutSet : (s.modCpr f).lutSet = s.lutSet := rfl
@[simp] theorem State.modCpr_msixTable : (s.modCpr f).msixTable = s.msixTable := rfl
@[simp] theorem State.modCpr_msixPba : (s.modCpr f).msixPba = s.msixPba := rfl
@[simp] theorem State.modCpr_msixEnable : (s.modCpr f).msixEnable = s.msixEnable := rfl
@[simp] theorem State.modCpr_msixMask : (s.modCpr f).msixMask = s.msixMask := rfl
@[simp] theorem State.modCpr_out : (s.modCpr f).out = s.out := rfl
@[simp] theorem State.modCpr_raised : (s.modCpr f).raised = s.raised := rfl
@[simp] theorem State.modCpr_limited : (s.modCpr f).limited = s.limited := rfl
@[simp] theorem State.modCpr_limitedAt : (s.modCpr f).limitedAt = s.limitedAt := rfl
@[simp] theorem State.modCpr_sfeFull : (s.modCpr f).sfeFull = s.sfeFull := rfl
@[simp] theorem State.modCpr_defStores : (s.modCpr f).defStores = s.defStores := rfl
@[simp] theorem State.modCpr_dests : (s.modCpr f).dests = s.dests := rfl
@[simp] theorem State.modCpr_disarmed : (s.modCpr f).disarmed = s.disarmed := rfl
@[simp] theorem State.modCpr_packets : (s.modCpr f).packets = s.packets := rfl
@[simp] theorem State.modCpr_rings : (s.modCpr f).rings = s.rings := rfl
@[simp] theorem State.modCpr_nextId : (s.modCpr f).nextId = s.nextId := rfl
@[simp] theorem State.modCpr_heldReads : (s.modCpr f).heldReads = s.heldReads := rfl
@[simp] theorem State.modCpr_bulk : (s.modCpr f).bulk = s.bulk := rfl
@[simp] theorem State.modCpr_promo : (s.modCpr f).promo = s.promo := rfl
@[simp] theorem State.modCpr_front : (s.modCpr f).front = s.front := rfl
@[simp] theorem State.modCpr_epochs : (s.modCpr f).epochs = s.epochs := rfl
@[simp] theorem State.modCpr_patchesOf : (s.modCpr f).patchesOf = s.patchesOf := rfl
@[simp] theorem State.modCpr_pipes : (s.modCpr f).pipes = s.pipes := rfl
@[simp] theorem State.modCpr_frames : (s.modCpr f).frames = s.frames := rfl
@[simp] theorem State.modCpr_graph : (s.modCpr f).graph = s.graph := rfl
@[simp] theorem State.modCpr_lanes : (s.modCpr f).lanes = s.lanes := rfl
@[simp] theorem State.modCpr_groups : (s.modCpr f).groups = s.groups := rfl
@[simp] theorem State.modCpr_streams : (s.modCpr f).streams = s.streams := rfl
@[simp] theorem State.modCpr_sgs : (s.modCpr f).sgs = s.sgs := rfl
@[simp] theorem State.modCpr_pss : (s.modCpr f).pss = s.pss := rfl
@[simp] theorem State.modCpr_caps : (s.modCpr f).caps = s.caps := rfl
@[simp] theorem State.modCpr_subst : (s.modCpr f).subst = s.subst := rfl
@[simp] theorem State.modCpr_time : (s.modCpr f).time = s.time := rfl
@[simp] theorem State.modCpr_drv : (s.modCpr f).drv = s.drv := rfl
@[simp] theorem State.modCpr_media : (s.modCpr f).media = s.media := rfl
@[simp] theorem State.modCpr_recorder : (s.modCpr f).recorder = s.recorder := rfl
@[simp] theorem State.modCpr_zst : (s.modCpr f).zst = s.zst := rfl
@[simp] theorem State.modCpr_oldJobs : (s.modCpr f).oldJobs = s.oldJobs := rfl
@[simp] theorem State.modCpr_outfs : (s.modCpr f).outfs = s.outfs := rfl
@[simp] theorem State.modCpr_encs : (s.modCpr f).encs = s.encs := rfl
@[simp] theorem State.modCpr_dec : (s.modCpr f).dec = s.dec := rfl
@[simp] theorem State.modCpr_disp : (s.modCpr f).disp = s.disp := rfl
@[simp] theorem State.modCpr_hbmc : (s.modCpr f).hbmc = s.hbmc := rfl
@[simp] theorem State.modCpr_hlt : (s.modCpr f).hlt = s.hlt := rfl
@[simp] theorem State.modCpr_baro : (s.modCpr f).baro = s.baro := rfl
@[simp] theorem State.modCpr_nv : (s.modCpr f).nv = s.nv := rfl
@[simp] theorem State.modCpr_ofl : (s.modCpr f).ofl = s.ofl := rfl
@[simp] theorem State.modCpr_sky : (s.modCpr f).sky = s.sky := rfl
@[simp] theorem State.modCpr_aud : (s.modCpr f).aud = s.aud := rfl
@[simp] theorem State.modCpr_lsp : (s.modCpr f).lsp = s.lsp := rfl
@[simp] theorem State.modCpr_free : (s.modCpr f).free = s.free := rfl
@[simp] theorem State.modCpr_rd : (s.modCpr f).rd rg jx = s.rd rg jx := rfl
@[simp] theorem State.modCpr_get : (s.modCpr f).get fl jx = s.get fl jx := rfl
@[simp] theorem State.modCpr_flag : (s.modCpr f).flag fl jx = s.flag fl jx := rfl
@[simp] theorem State.modCpr_cpr : (s.modCpr f).cpr = f s.cpr := rfl

end modCpr

section modDest

variable (s : State) (d : Nat) (f : Dest → Dest) (fl : Fld) (rg : Reg) (jx : List Nat)

@[simp] theorem State.modDest_pending : (s.modDest d f).pending = s.pending := rfl
@[simp] theorem State.modDest_regs : (s.modDest d f).regs = s.regs := rfl
@[simp] theorem State.modDest_mirror : (s.modDest d f).mirror = s.mirror := rfl
@[simp] theorem State.modDest_latch : (s.modDest d f).latch = s.latch := rfl
@[simp] theorem State.modDest_lowHalf : (s.modDest d f).lowHalf = s.lowHalf := rfl
@[simp] theorem State.modDest_host : (s.modDest d f).host = s.host := rfl
@[simp] theorem State.modDest_ohost : (s.modDest d f).ohost = s.ohost := rfl
@[simp] theorem State.modDest_hbm : (s.modDest d f).hbm = s.hbm := rfl
@[simp] theorem State.modDest_undef : (s.modDest d f).undef = s.undef := rfl
@[simp] theorem State.modDest_mram : (s.modDest d f).mram = s.mram := rfl
@[simp] theorem State.modDest_lut : (s.modDest d f).lut = s.lut := rfl
@[simp] theorem State.modDest_lutSet : (s.modDest d f).lutSet = s.lutSet := rfl
@[simp] theorem State.modDest_msixTable : (s.modDest d f).msixTable = s.msixTable := rfl
@[simp] theorem State.modDest_msixPba : (s.modDest d f).msixPba = s.msixPba := rfl
@[simp] theorem State.modDest_msixEnable : (s.modDest d f).msixEnable = s.msixEnable := rfl
@[simp] theorem State.modDest_msixMask : (s.modDest d f).msixMask = s.msixMask := rfl
@[simp] theorem State.modDest_out : (s.modDest d f).out = s.out := rfl
@[simp] theorem State.modDest_raised : (s.modDest d f).raised = s.raised := rfl
@[simp] theorem State.modDest_limited : (s.modDest d f).limited = s.limited := rfl
@[simp] theorem State.modDest_limitedAt : (s.modDest d f).limitedAt = s.limitedAt := rfl
@[simp] theorem State.modDest_sfeFull : (s.modDest d f).sfeFull = s.sfeFull := rfl
@[simp] theorem State.modDest_defStores : (s.modDest d f).defStores = s.defStores := rfl
@[simp] theorem State.modDest_disarmed : (s.modDest d f).disarmed = s.disarmed := rfl
@[simp] theorem State.modDest_packets : (s.modDest d f).packets = s.packets := rfl
@[simp] theorem State.modDest_rings : (s.modDest d f).rings = s.rings := rfl
@[simp] theorem State.modDest_nextId : (s.modDest d f).nextId = s.nextId := rfl
@[simp] theorem State.modDest_heldReads : (s.modDest d f).heldReads = s.heldReads := rfl
@[simp] theorem State.modDest_bulk : (s.modDest d f).bulk = s.bulk := rfl
@[simp] theorem State.modDest_promo : (s.modDest d f).promo = s.promo := rfl
@[simp] theorem State.modDest_front : (s.modDest d f).front = s.front := rfl
@[simp] theorem State.modDest_epochs : (s.modDest d f).epochs = s.epochs := rfl
@[simp] theorem State.modDest_patchesOf : (s.modDest d f).patchesOf = s.patchesOf := rfl
@[simp] theorem State.modDest_pipes : (s.modDest d f).pipes = s.pipes := rfl
@[simp] theorem State.modDest_frames : (s.modDest d f).frames = s.frames := rfl
@[simp] theorem State.modDest_graph : (s.modDest d f).graph = s.graph := rfl
@[simp] theorem State.modDest_lanes : (s.modDest d f).lanes = s.lanes := rfl
@[simp] theorem State.modDest_groups : (s.modDest d f).groups = s.groups := rfl
@[simp] theorem State.modDest_streams : (s.modDest d f).streams = s.streams := rfl
@[simp] theorem State.modDest_sgs : (s.modDest d f).sgs = s.sgs := rfl
@[simp] theorem State.modDest_pss : (s.modDest d f).pss = s.pss := rfl
@[simp] theorem State.modDest_caps : (s.modDest d f).caps = s.caps := rfl
@[simp] theorem State.modDest_subst : (s.modDest d f).subst = s.subst := rfl
@[simp] theorem State.modDest_time : (s.modDest d f).time = s.time := rfl
@[simp] theorem State.modDest_drv : (s.modDest d f).drv = s.drv := rfl
@[simp] theorem State.modDest_media : (s.modDest d f).media = s.media := rfl
@[simp] theorem State.modDest_recorder : (s.modDest d f).recorder = s.recorder := rfl
@[simp] theorem State.modDest_zst : (s.modDest d f).zst = s.zst := rfl
@[simp] theorem State.modDest_oldJobs : (s.modDest d f).oldJobs = s.oldJobs := rfl
@[simp] theorem State.modDest_outfs : (s.modDest d f).outfs = s.outfs := rfl
@[simp] theorem State.modDest_encs : (s.modDest d f).encs = s.encs := rfl
@[simp] theorem State.modDest_dec : (s.modDest d f).dec = s.dec := rfl
@[simp] theorem State.modDest_disp : (s.modDest d f).disp = s.disp := rfl
@[simp] theorem State.modDest_hbmc : (s.modDest d f).hbmc = s.hbmc := rfl
@[simp] theorem State.modDest_hlt : (s.modDest d f).hlt = s.hlt := rfl
@[simp] theorem State.modDest_baro : (s.modDest d f).baro = s.baro := rfl
@[simp] theorem State.modDest_nv : (s.modDest d f).nv = s.nv := rfl
@[simp] theorem State.modDest_ofl : (s.modDest d f).ofl = s.ofl := rfl
@[simp] theorem State.modDest_sky : (s.modDest d f).sky = s.sky := rfl
@[simp] theorem State.modDest_aud : (s.modDest d f).aud = s.aud := rfl
@[simp] theorem State.modDest_lsp : (s.modDest d f).lsp = s.lsp := rfl
@[simp] theorem State.modDest_cpr : (s.modDest d f).cpr = s.cpr := rfl
@[simp] theorem State.modDest_free : (s.modDest d f).free = s.free := rfl
@[simp] theorem State.modDest_rd : (s.modDest d f).rd rg jx = s.rd rg jx := rfl
@[simp] theorem State.modDest_get : (s.modDest d f).get fl jx = s.get fl jx := rfl
@[simp] theorem State.modDest_flag : (s.modDest d f).flag fl jx = s.flag fl jx := rfl
@[simp] theorem State.modDest_dests : (s.modDest d f).dests = modNth s.dests d f := rfl

end modDest

section modDsi

variable (s : State) (d : Nat) (f : DsiSt → DsiSt) (fl : Fld) (rg : Reg) (jx : List Nat)

@[simp] theorem State.modDsi_pending : (s.modDsi d f).pending = s.pending := rfl
@[simp] theorem State.modDsi_regs : (s.modDsi d f).regs = s.regs := rfl
@[simp] theorem State.modDsi_mirror : (s.modDsi d f).mirror = s.mirror := rfl
@[simp] theorem State.modDsi_latch : (s.modDsi d f).latch = s.latch := rfl
@[simp] theorem State.modDsi_lowHalf : (s.modDsi d f).lowHalf = s.lowHalf := rfl
@[simp] theorem State.modDsi_host : (s.modDsi d f).host = s.host := rfl
@[simp] theorem State.modDsi_ohost : (s.modDsi d f).ohost = s.ohost := rfl
@[simp] theorem State.modDsi_hbm : (s.modDsi d f).hbm = s.hbm := rfl
@[simp] theorem State.modDsi_undef : (s.modDsi d f).undef = s.undef := rfl
@[simp] theorem State.modDsi_mram : (s.modDsi d f).mram = s.mram := rfl
@[simp] theorem State.modDsi_lut : (s.modDsi d f).lut = s.lut := rfl
@[simp] theorem State.modDsi_lutSet : (s.modDsi d f).lutSet = s.lutSet := rfl
@[simp] theorem State.modDsi_msixTable : (s.modDsi d f).msixTable = s.msixTable := rfl
@[simp] theorem State.modDsi_msixPba : (s.modDsi d f).msixPba = s.msixPba := rfl
@[simp] theorem State.modDsi_msixEnable : (s.modDsi d f).msixEnable = s.msixEnable := rfl
@[simp] theorem State.modDsi_msixMask : (s.modDsi d f).msixMask = s.msixMask := rfl
@[simp] theorem State.modDsi_out : (s.modDsi d f).out = s.out := rfl
@[simp] theorem State.modDsi_raised : (s.modDsi d f).raised = s.raised := rfl
@[simp] theorem State.modDsi_limited : (s.modDsi d f).limited = s.limited := rfl
@[simp] theorem State.modDsi_limitedAt : (s.modDsi d f).limitedAt = s.limitedAt := rfl
@[simp] theorem State.modDsi_sfeFull : (s.modDsi d f).sfeFull = s.sfeFull := rfl
@[simp] theorem State.modDsi_defStores : (s.modDsi d f).defStores = s.defStores := rfl
@[simp] theorem State.modDsi_dests : (s.modDsi d f).dests = s.dests := rfl
@[simp] theorem State.modDsi_disarmed : (s.modDsi d f).disarmed = s.disarmed := rfl
@[simp] theorem State.modDsi_packets : (s.modDsi d f).packets = s.packets := rfl
@[simp] theorem State.modDsi_rings : (s.modDsi d f).rings = s.rings := rfl
@[simp] theorem State.modDsi_nextId : (s.modDsi d f).nextId = s.nextId := rfl
@[simp] theorem State.modDsi_heldReads : (s.modDsi d f).heldReads = s.heldReads := rfl
@[simp] theorem State.modDsi_bulk : (s.modDsi d f).bulk = s.bulk := rfl
@[simp] theorem State.modDsi_promo : (s.modDsi d f).promo = s.promo := rfl
@[simp] theorem State.modDsi_front : (s.modDsi d f).front = s.front := rfl
@[simp] theorem State.modDsi_epochs : (s.modDsi d f).epochs = s.epochs := rfl
@[simp] theorem State.modDsi_patchesOf : (s.modDsi d f).patchesOf = s.patchesOf := rfl
@[simp] theorem State.modDsi_pipes : (s.modDsi d f).pipes = s.pipes := rfl
@[simp] theorem State.modDsi_frames : (s.modDsi d f).frames = s.frames := rfl
@[simp] theorem State.modDsi_graph : (s.modDsi d f).graph = s.graph := rfl
@[simp] theorem State.modDsi_lanes : (s.modDsi d f).lanes = s.lanes := rfl
@[simp] theorem State.modDsi_groups : (s.modDsi d f).groups = s.groups := rfl
@[simp] theorem State.modDsi_streams : (s.modDsi d f).streams = s.streams := rfl
@[simp] theorem State.modDsi_sgs : (s.modDsi d f).sgs = s.sgs := rfl
@[simp] theorem State.modDsi_pss : (s.modDsi d f).pss = s.pss := rfl
@[simp] theorem State.modDsi_caps : (s.modDsi d f).caps = s.caps := rfl
@[simp] theorem State.modDsi_subst : (s.modDsi d f).subst = s.subst := rfl
@[simp] theorem State.modDsi_time : (s.modDsi d f).time = s.time := rfl
@[simp] theorem State.modDsi_drv : (s.modDsi d f).drv = s.drv := rfl
@[simp] theorem State.modDsi_media : (s.modDsi d f).media = s.media := rfl
@[simp] theorem State.modDsi_recorder : (s.modDsi d f).recorder = s.recorder := rfl
@[simp] theorem State.modDsi_zst : (s.modDsi d f).zst = s.zst := rfl
@[simp] theorem State.modDsi_oldJobs : (s.modDsi d f).oldJobs = s.oldJobs := rfl
@[simp] theorem State.modDsi_outfs : (s.modDsi d f).outfs = s.outfs := rfl
@[simp] theorem State.modDsi_encs : (s.modDsi d f).encs = s.encs := rfl
@[simp] theorem State.modDsi_dec : (s.modDsi d f).dec = s.dec := rfl
@[simp] theorem State.modDsi_hbmc : (s.modDsi d f).hbmc = s.hbmc := rfl
@[simp] theorem State.modDsi_hlt : (s.modDsi d f).hlt = s.hlt := rfl
@[simp] theorem State.modDsi_baro : (s.modDsi d f).baro = s.baro := rfl
@[simp] theorem State.modDsi_nv : (s.modDsi d f).nv = s.nv := rfl
@[simp] theorem State.modDsi_ofl : (s.modDsi d f).ofl = s.ofl := rfl
@[simp] theorem State.modDsi_sky : (s.modDsi d f).sky = s.sky := rfl
@[simp] theorem State.modDsi_aud : (s.modDsi d f).aud = s.aud := rfl
@[simp] theorem State.modDsi_lsp : (s.modDsi d f).lsp = s.lsp := rfl
@[simp] theorem State.modDsi_cpr : (s.modDsi d f).cpr = s.cpr := rfl
@[simp] theorem State.modDsi_free : (s.modDsi d f).free = s.free := rfl
@[simp] theorem State.modDsi_rd : (s.modDsi d f).rd rg jx = s.rd rg jx := rfl
@[simp] theorem State.modDsi_get : (s.modDsi d f).get fl jx = s.get fl jx := rfl
@[simp] theorem State.modDsi_flag : (s.modDsi d f).flag fl jx = s.flag fl jx := rfl
@[simp] theorem State.modDsi_disp : (s.modDsi d f).disp = { s.disp with dsi := modNth s.disp.dsi d f } := rfl

end modDsi

section modEnc

variable (s : State) (k : Nat) (f : EncSt → EncSt) (fl : Fld) (rg : Reg) (jx : List Nat)

@[simp] theorem State.modEnc_pending : (s.modEnc k f).pending = s.pending := rfl
@[simp] theorem State.modEnc_regs : (s.modEnc k f).regs = s.regs := rfl
@[simp] theorem State.modEnc_mirror : (s.modEnc k f).mirror = s.mirror := rfl
@[simp] theorem State.modEnc_latch : (s.modEnc k f).latch = s.latch := rfl
@[simp] theorem State.modEnc_lowHalf : (s.modEnc k f).lowHalf = s.lowHalf := rfl
@[simp] theorem State.modEnc_host : (s.modEnc k f).host = s.host := rfl
@[simp] theorem State.modEnc_ohost : (s.modEnc k f).ohost = s.ohost := rfl
@[simp] theorem State.modEnc_hbm : (s.modEnc k f).hbm = s.hbm := rfl
@[simp] theorem State.modEnc_undef : (s.modEnc k f).undef = s.undef := rfl
@[simp] theorem State.modEnc_mram : (s.modEnc k f).mram = s.mram := rfl
@[simp] theorem State.modEnc_lut : (s.modEnc k f).lut = s.lut := rfl
@[simp] theorem State.modEnc_lutSet : (s.modEnc k f).lutSet = s.lutSet := rfl
@[simp] theorem State.modEnc_msixTable : (s.modEnc k f).msixTable = s.msixTable := rfl
@[simp] theorem State.modEnc_msixPba : (s.modEnc k f).msixPba = s.msixPba := rfl
@[simp] theorem State.modEnc_msixEnable : (s.modEnc k f).msixEnable = s.msixEnable := rfl
@[simp] theorem State.modEnc_msixMask : (s.modEnc k f).msixMask = s.msixMask := rfl
@[simp] theorem State.modEnc_out : (s.modEnc k f).out = s.out := rfl
@[simp] theorem State.modEnc_raised : (s.modEnc k f).raised = s.raised := rfl
@[simp] theorem State.modEnc_limited : (s.modEnc k f).limited = s.limited := rfl
@[simp] theorem State.modEnc_limitedAt : (s.modEnc k f).limitedAt = s.limitedAt := rfl
@[simp] theorem State.modEnc_sfeFull : (s.modEnc k f).sfeFull = s.sfeFull := rfl
@[simp] theorem State.modEnc_defStores : (s.modEnc k f).defStores = s.defStores := rfl
@[simp] theorem State.modEnc_dests : (s.modEnc k f).dests = s.dests := rfl
@[simp] theorem State.modEnc_disarmed : (s.modEnc k f).disarmed = s.disarmed := rfl
@[simp] theorem State.modEnc_packets : (s.modEnc k f).packets = s.packets := rfl
@[simp] theorem State.modEnc_rings : (s.modEnc k f).rings = s.rings := rfl
@[simp] theorem State.modEnc_nextId : (s.modEnc k f).nextId = s.nextId := rfl
@[simp] theorem State.modEnc_heldReads : (s.modEnc k f).heldReads = s.heldReads := rfl
@[simp] theorem State.modEnc_bulk : (s.modEnc k f).bulk = s.bulk := rfl
@[simp] theorem State.modEnc_promo : (s.modEnc k f).promo = s.promo := rfl
@[simp] theorem State.modEnc_front : (s.modEnc k f).front = s.front := rfl
@[simp] theorem State.modEnc_epochs : (s.modEnc k f).epochs = s.epochs := rfl
@[simp] theorem State.modEnc_patchesOf : (s.modEnc k f).patchesOf = s.patchesOf := rfl
@[simp] theorem State.modEnc_pipes : (s.modEnc k f).pipes = s.pipes := rfl
@[simp] theorem State.modEnc_frames : (s.modEnc k f).frames = s.frames := rfl
@[simp] theorem State.modEnc_graph : (s.modEnc k f).graph = s.graph := rfl
@[simp] theorem State.modEnc_lanes : (s.modEnc k f).lanes = s.lanes := rfl
@[simp] theorem State.modEnc_groups : (s.modEnc k f).groups = s.groups := rfl
@[simp] theorem State.modEnc_streams : (s.modEnc k f).streams = s.streams := rfl
@[simp] theorem State.modEnc_sgs : (s.modEnc k f).sgs = s.sgs := rfl
@[simp] theorem State.modEnc_pss : (s.modEnc k f).pss = s.pss := rfl
@[simp] theorem State.modEnc_caps : (s.modEnc k f).caps = s.caps := rfl
@[simp] theorem State.modEnc_subst : (s.modEnc k f).subst = s.subst := rfl
@[simp] theorem State.modEnc_time : (s.modEnc k f).time = s.time := rfl
@[simp] theorem State.modEnc_drv : (s.modEnc k f).drv = s.drv := rfl
@[simp] theorem State.modEnc_media : (s.modEnc k f).media = s.media := rfl
@[simp] theorem State.modEnc_recorder : (s.modEnc k f).recorder = s.recorder := rfl
@[simp] theorem State.modEnc_zst : (s.modEnc k f).zst = s.zst := rfl
@[simp] theorem State.modEnc_oldJobs : (s.modEnc k f).oldJobs = s.oldJobs := rfl
@[simp] theorem State.modEnc_outfs : (s.modEnc k f).outfs = s.outfs := rfl
@[simp] theorem State.modEnc_dec : (s.modEnc k f).dec = s.dec := rfl
@[simp] theorem State.modEnc_disp : (s.modEnc k f).disp = s.disp := rfl
@[simp] theorem State.modEnc_hbmc : (s.modEnc k f).hbmc = s.hbmc := rfl
@[simp] theorem State.modEnc_hlt : (s.modEnc k f).hlt = s.hlt := rfl
@[simp] theorem State.modEnc_baro : (s.modEnc k f).baro = s.baro := rfl
@[simp] theorem State.modEnc_nv : (s.modEnc k f).nv = s.nv := rfl
@[simp] theorem State.modEnc_ofl : (s.modEnc k f).ofl = s.ofl := rfl
@[simp] theorem State.modEnc_sky : (s.modEnc k f).sky = s.sky := rfl
@[simp] theorem State.modEnc_aud : (s.modEnc k f).aud = s.aud := rfl
@[simp] theorem State.modEnc_lsp : (s.modEnc k f).lsp = s.lsp := rfl
@[simp] theorem State.modEnc_cpr : (s.modEnc k f).cpr = s.cpr := rfl
@[simp] theorem State.modEnc_free : (s.modEnc k f).free = s.free := rfl
@[simp] theorem State.modEnc_rd : (s.modEnc k f).rd rg jx = s.rd rg jx := rfl
@[simp] theorem State.modEnc_get : (s.modEnc k f).get fl jx = s.get fl jx := rfl
@[simp] theorem State.modEnc_flag : (s.modEnc k f).flag fl jx = s.flag fl jx := rfl
@[simp] theorem State.modEnc_encs : (s.modEnc k f).encs = modNth s.encs k f := rfl

end modEnc

section modEntry

variable (s : State) (num : Nat) (f : Take → Take) (fl : Fld) (rg : Reg) (jx : List Nat)

@[simp] theorem State.modEntry_pending : (s.modEntry num f).pending = s.pending := rfl
@[simp] theorem State.modEntry_regs : (s.modEntry num f).regs = s.regs := rfl
@[simp] theorem State.modEntry_mirror : (s.modEntry num f).mirror = s.mirror := rfl
@[simp] theorem State.modEntry_latch : (s.modEntry num f).latch = s.latch := rfl
@[simp] theorem State.modEntry_lowHalf : (s.modEntry num f).lowHalf = s.lowHalf := rfl
@[simp] theorem State.modEntry_host : (s.modEntry num f).host = s.host := rfl
@[simp] theorem State.modEntry_ohost : (s.modEntry num f).ohost = s.ohost := rfl
@[simp] theorem State.modEntry_hbm : (s.modEntry num f).hbm = s.hbm := rfl
@[simp] theorem State.modEntry_undef : (s.modEntry num f).undef = s.undef := rfl
@[simp] theorem State.modEntry_mram : (s.modEntry num f).mram = s.mram := rfl
@[simp] theorem State.modEntry_lut : (s.modEntry num f).lut = s.lut := rfl
@[simp] theorem State.modEntry_lutSet : (s.modEntry num f).lutSet = s.lutSet := rfl
@[simp] theorem State.modEntry_msixTable : (s.modEntry num f).msixTable = s.msixTable := rfl
@[simp] theorem State.modEntry_msixPba : (s.modEntry num f).msixPba = s.msixPba := rfl
@[simp] theorem State.modEntry_msixEnable : (s.modEntry num f).msixEnable = s.msixEnable := rfl
@[simp] theorem State.modEntry_msixMask : (s.modEntry num f).msixMask = s.msixMask := rfl
@[simp] theorem State.modEntry_out : (s.modEntry num f).out = s.out := rfl
@[simp] theorem State.modEntry_raised : (s.modEntry num f).raised = s.raised := rfl
@[simp] theorem State.modEntry_limited : (s.modEntry num f).limited = s.limited := rfl
@[simp] theorem State.modEntry_limitedAt : (s.modEntry num f).limitedAt = s.limitedAt := rfl
@[simp] theorem State.modEntry_sfeFull : (s.modEntry num f).sfeFull = s.sfeFull := rfl
@[simp] theorem State.modEntry_defStores : (s.modEntry num f).defStores = s.defStores := rfl
@[simp] theorem State.modEntry_dests : (s.modEntry num f).dests = s.dests := rfl
@[simp] theorem State.modEntry_disarmed : (s.modEntry num f).disarmed = s.disarmed := rfl
@[simp] theorem State.modEntry_packets : (s.modEntry num f).packets = s.packets := rfl
@[simp] theorem State.modEntry_rings : (s.modEntry num f).rings = s.rings := rfl
@[simp] theorem State.modEntry_nextId : (s.modEntry num f).nextId = s.nextId := rfl
@[simp] theorem State.modEntry_heldReads : (s.modEntry num f).heldReads = s.heldReads := rfl
@[simp] theorem State.modEntry_bulk : (s.modEntry num f).bulk = s.bulk := rfl
@[simp] theorem State.modEntry_promo : (s.modEntry num f).promo = s.promo := rfl
@[simp] theorem State.modEntry_front : (s.modEntry num f).front = s.front := rfl
@[simp] theorem State.modEntry_epochs : (s.modEntry num f).epochs = s.epochs := rfl
@[simp] theorem State.modEntry_patchesOf : (s.modEntry num f).patchesOf = s.patchesOf := rfl
@[simp] theorem State.modEntry_pipes : (s.modEntry num f).pipes = s.pipes := rfl
@[simp] theorem State.modEntry_frames : (s.modEntry num f).frames = s.frames := rfl
@[simp] theorem State.modEntry_graph : (s.modEntry num f).graph = s.graph := rfl
@[simp] theorem State.modEntry_lanes : (s.modEntry num f).lanes = s.lanes := rfl
@[simp] theorem State.modEntry_groups : (s.modEntry num f).groups = s.groups := rfl
@[simp] theorem State.modEntry_streams : (s.modEntry num f).streams = s.streams := rfl
@[simp] theorem State.modEntry_sgs : (s.modEntry num f).sgs = s.sgs := rfl
@[simp] theorem State.modEntry_pss : (s.modEntry num f).pss = s.pss := rfl
@[simp] theorem State.modEntry_caps : (s.modEntry num f).caps = s.caps := rfl
@[simp] theorem State.modEntry_subst : (s.modEntry num f).subst = s.subst := rfl
@[simp] theorem State.modEntry_time : (s.modEntry num f).time = s.time := rfl
@[simp] theorem State.modEntry_drv : (s.modEntry num f).drv = s.drv := rfl
@[simp] theorem State.modEntry_media : (s.modEntry num f).media = s.media := rfl
@[simp] theorem State.modEntry_zst : (s.modEntry num f).zst = s.zst := rfl
@[simp] theorem State.modEntry_oldJobs : (s.modEntry num f).oldJobs = s.oldJobs := rfl
@[simp] theorem State.modEntry_outfs : (s.modEntry num f).outfs = s.outfs := rfl
@[simp] theorem State.modEntry_encs : (s.modEntry num f).encs = s.encs := rfl
@[simp] theorem State.modEntry_dec : (s.modEntry num f).dec = s.dec := rfl
@[simp] theorem State.modEntry_disp : (s.modEntry num f).disp = s.disp := rfl
@[simp] theorem State.modEntry_hbmc : (s.modEntry num f).hbmc = s.hbmc := rfl
@[simp] theorem State.modEntry_hlt : (s.modEntry num f).hlt = s.hlt := rfl
@[simp] theorem State.modEntry_baro : (s.modEntry num f).baro = s.baro := rfl
@[simp] theorem State.modEntry_nv : (s.modEntry num f).nv = s.nv := rfl
@[simp] theorem State.modEntry_ofl : (s.modEntry num f).ofl = s.ofl := rfl
@[simp] theorem State.modEntry_sky : (s.modEntry num f).sky = s.sky := rfl
@[simp] theorem State.modEntry_aud : (s.modEntry num f).aud = s.aud := rfl
@[simp] theorem State.modEntry_lsp : (s.modEntry num f).lsp = s.lsp := rfl
@[simp] theorem State.modEntry_cpr : (s.modEntry num f).cpr = s.cpr := rfl
@[simp] theorem State.modEntry_free : (s.modEntry num f).free = s.free := rfl
@[simp] theorem State.modEntry_rd : (s.modEntry num f).rd rg jx = s.rd rg jx := rfl
@[simp] theorem State.modEntry_get : (s.modEntry num f).get fl jx = s.get fl jx := rfl
@[simp] theorem State.modEntry_flag : (s.modEntry num f).flag fl jx = s.flag fl jx := rfl

end modEntry

section modFrame

variable (s : State) (u : FlowUnit) (p fid : Nat) (f : Frame → Frame) (fl : Fld) (rg : Reg) (jx : List Nat)

@[simp] theorem State.modFrame_pending : (s.modFrame u p fid f).pending = s.pending := rfl
@[simp] theorem State.modFrame_regs : (s.modFrame u p fid f).regs = s.regs := rfl
@[simp] theorem State.modFrame_mirror : (s.modFrame u p fid f).mirror = s.mirror := rfl
@[simp] theorem State.modFrame_latch : (s.modFrame u p fid f).latch = s.latch := rfl
@[simp] theorem State.modFrame_lowHalf : (s.modFrame u p fid f).lowHalf = s.lowHalf := rfl
@[simp] theorem State.modFrame_host : (s.modFrame u p fid f).host = s.host := rfl
@[simp] theorem State.modFrame_ohost : (s.modFrame u p fid f).ohost = s.ohost := rfl
@[simp] theorem State.modFrame_hbm : (s.modFrame u p fid f).hbm = s.hbm := rfl
@[simp] theorem State.modFrame_undef : (s.modFrame u p fid f).undef = s.undef := rfl
@[simp] theorem State.modFrame_mram : (s.modFrame u p fid f).mram = s.mram := rfl
@[simp] theorem State.modFrame_lut : (s.modFrame u p fid f).lut = s.lut := rfl
@[simp] theorem State.modFrame_lutSet : (s.modFrame u p fid f).lutSet = s.lutSet := rfl
@[simp] theorem State.modFrame_msixTable : (s.modFrame u p fid f).msixTable = s.msixTable := rfl
@[simp] theorem State.modFrame_msixPba : (s.modFrame u p fid f).msixPba = s.msixPba := rfl
@[simp] theorem State.modFrame_msixEnable : (s.modFrame u p fid f).msixEnable = s.msixEnable := rfl
@[simp] theorem State.modFrame_msixMask : (s.modFrame u p fid f).msixMask = s.msixMask := rfl
@[simp] theorem State.modFrame_out : (s.modFrame u p fid f).out = s.out := rfl
@[simp] theorem State.modFrame_raised : (s.modFrame u p fid f).raised = s.raised := rfl
@[simp] theorem State.modFrame_limited : (s.modFrame u p fid f).limited = s.limited := rfl
@[simp] theorem State.modFrame_limitedAt : (s.modFrame u p fid f).limitedAt = s.limitedAt := rfl
@[simp] theorem State.modFrame_sfeFull : (s.modFrame u p fid f).sfeFull = s.sfeFull := rfl
@[simp] theorem State.modFrame_defStores : (s.modFrame u p fid f).defStores = s.defStores := rfl
@[simp] theorem State.modFrame_dests : (s.modFrame u p fid f).dests = s.dests := rfl
@[simp] theorem State.modFrame_disarmed : (s.modFrame u p fid f).disarmed = s.disarmed := rfl
@[simp] theorem State.modFrame_packets : (s.modFrame u p fid f).packets = s.packets := rfl
@[simp] theorem State.modFrame_rings : (s.modFrame u p fid f).rings = s.rings := rfl
@[simp] theorem State.modFrame_nextId : (s.modFrame u p fid f).nextId = s.nextId := rfl
@[simp] theorem State.modFrame_heldReads : (s.modFrame u p fid f).heldReads = s.heldReads := rfl
@[simp] theorem State.modFrame_bulk : (s.modFrame u p fid f).bulk = s.bulk := rfl
@[simp] theorem State.modFrame_promo : (s.modFrame u p fid f).promo = s.promo := rfl
@[simp] theorem State.modFrame_front : (s.modFrame u p fid f).front = s.front := rfl
@[simp] theorem State.modFrame_epochs : (s.modFrame u p fid f).epochs = s.epochs := rfl
@[simp] theorem State.modFrame_patchesOf : (s.modFrame u p fid f).patchesOf = s.patchesOf := rfl
@[simp] theorem State.modFrame_pipes : (s.modFrame u p fid f).pipes = s.pipes := rfl
@[simp] theorem State.modFrame_graph : (s.modFrame u p fid f).graph = s.graph := rfl
@[simp] theorem State.modFrame_lanes : (s.modFrame u p fid f).lanes = s.lanes := rfl
@[simp] theorem State.modFrame_groups : (s.modFrame u p fid f).groups = s.groups := rfl
@[simp] theorem State.modFrame_streams : (s.modFrame u p fid f).streams = s.streams := rfl
@[simp] theorem State.modFrame_sgs : (s.modFrame u p fid f).sgs = s.sgs := rfl
@[simp] theorem State.modFrame_pss : (s.modFrame u p fid f).pss = s.pss := rfl
@[simp] theorem State.modFrame_caps : (s.modFrame u p fid f).caps = s.caps := rfl
@[simp] theorem State.modFrame_subst : (s.modFrame u p fid f).subst = s.subst := rfl
@[simp] theorem State.modFrame_time : (s.modFrame u p fid f).time = s.time := rfl
@[simp] theorem State.modFrame_drv : (s.modFrame u p fid f).drv = s.drv := rfl
@[simp] theorem State.modFrame_media : (s.modFrame u p fid f).media = s.media := rfl
@[simp] theorem State.modFrame_recorder : (s.modFrame u p fid f).recorder = s.recorder := rfl
@[simp] theorem State.modFrame_zst : (s.modFrame u p fid f).zst = s.zst := rfl
@[simp] theorem State.modFrame_oldJobs : (s.modFrame u p fid f).oldJobs = s.oldJobs := rfl
@[simp] theorem State.modFrame_outfs : (s.modFrame u p fid f).outfs = s.outfs := rfl
@[simp] theorem State.modFrame_encs : (s.modFrame u p fid f).encs = s.encs := rfl
@[simp] theorem State.modFrame_dec : (s.modFrame u p fid f).dec = s.dec := rfl
@[simp] theorem State.modFrame_disp : (s.modFrame u p fid f).disp = s.disp := rfl
@[simp] theorem State.modFrame_hbmc : (s.modFrame u p fid f).hbmc = s.hbmc := rfl
@[simp] theorem State.modFrame_hlt : (s.modFrame u p fid f).hlt = s.hlt := rfl
@[simp] theorem State.modFrame_baro : (s.modFrame u p fid f).baro = s.baro := rfl
@[simp] theorem State.modFrame_nv : (s.modFrame u p fid f).nv = s.nv := rfl
@[simp] theorem State.modFrame_ofl : (s.modFrame u p fid f).ofl = s.ofl := rfl
@[simp] theorem State.modFrame_sky : (s.modFrame u p fid f).sky = s.sky := rfl
@[simp] theorem State.modFrame_aud : (s.modFrame u p fid f).aud = s.aud := rfl
@[simp] theorem State.modFrame_lsp : (s.modFrame u p fid f).lsp = s.lsp := rfl
@[simp] theorem State.modFrame_cpr : (s.modFrame u p fid f).cpr = s.cpr := rfl
@[simp] theorem State.modFrame_free : (s.modFrame u p fid f).free = s.free := rfl
@[simp] theorem State.modFrame_rd : (s.modFrame u p fid f).rd rg jx = s.rd rg jx := rfl
@[simp] theorem State.modFrame_get : (s.modFrame u p fid f).get fl jx = s.get fl jx := rfl
@[simp] theorem State.modFrame_flag : (s.modFrame u p fid f).flag fl jx = s.flag fl jx := rfl
@[simp] theorem State.modFrame_frames : (s.modFrame u p fid f).frames = s.frames.map fun x => if x.pipe = p && x.fid = fid && x.units.contains u then f x else x := rfl

end modFrame

section modGrp

variable (s : State) (g : Nat) (f : GroupSt → GroupSt) (fl : Fld) (rg : Reg) (jx : List Nat)

@[simp] theorem State.modGrp_pending : (s.modGrp g f).pending = s.pending := rfl
@[simp] theorem State.modGrp_regs : (s.modGrp g f).regs = s.regs := rfl
@[simp] theorem State.modGrp_mirror : (s.modGrp g f).mirror = s.mirror := rfl
@[simp] theorem State.modGrp_latch : (s.modGrp g f).latch = s.latch := rfl
@[simp] theorem State.modGrp_lowHalf : (s.modGrp g f).lowHalf = s.lowHalf := rfl
@[simp] theorem State.modGrp_host : (s.modGrp g f).host = s.host := rfl
@[simp] theorem State.modGrp_ohost : (s.modGrp g f).ohost = s.ohost := rfl
@[simp] theorem State.modGrp_hbm : (s.modGrp g f).hbm = s.hbm := rfl
@[simp] theorem State.modGrp_undef : (s.modGrp g f).undef = s.undef := rfl
@[simp] theorem State.modGrp_mram : (s.modGrp g f).mram = s.mram := rfl
@[simp] theorem State.modGrp_lut : (s.modGrp g f).lut = s.lut := rfl
@[simp] theorem State.modGrp_lutSet : (s.modGrp g f).lutSet = s.lutSet := rfl
@[simp] theorem State.modGrp_msixTable : (s.modGrp g f).msixTable = s.msixTable := rfl
@[simp] theorem State.modGrp_msixPba : (s.modGrp g f).msixPba = s.msixPba := rfl
@[simp] theorem State.modGrp_msixEnable : (s.modGrp g f).msixEnable = s.msixEnable := rfl
@[simp] theorem State.modGrp_msixMask : (s.modGrp g f).msixMask = s.msixMask := rfl
@[simp] theorem State.modGrp_out : (s.modGrp g f).out = s.out := rfl
@[simp] theorem State.modGrp_raised : (s.modGrp g f).raised = s.raised := rfl
@[simp] theorem State.modGrp_limited : (s.modGrp g f).limited = s.limited := rfl
@[simp] theorem State.modGrp_limitedAt : (s.modGrp g f).limitedAt = s.limitedAt := rfl
@[simp] theorem State.modGrp_sfeFull : (s.modGrp g f).sfeFull = s.sfeFull := rfl
@[simp] theorem State.modGrp_defStores : (s.modGrp g f).defStores = s.defStores := rfl
@[simp] theorem State.modGrp_dests : (s.modGrp g f).dests = s.dests := rfl
@[simp] theorem State.modGrp_disarmed : (s.modGrp g f).disarmed = s.disarmed := rfl
@[simp] theorem State.modGrp_packets : (s.modGrp g f).packets = s.packets := rfl
@[simp] theorem State.modGrp_rings : (s.modGrp g f).rings = s.rings := rfl
@[simp] theorem State.modGrp_nextId : (s.modGrp g f).nextId = s.nextId := rfl
@[simp] theorem State.modGrp_heldReads : (s.modGrp g f).heldReads = s.heldReads := rfl
@[simp] theorem State.modGrp_bulk : (s.modGrp g f).bulk = s.bulk := rfl
@[simp] theorem State.modGrp_promo : (s.modGrp g f).promo = s.promo := rfl
@[simp] theorem State.modGrp_front : (s.modGrp g f).front = s.front := rfl
@[simp] theorem State.modGrp_epochs : (s.modGrp g f).epochs = s.epochs := rfl
@[simp] theorem State.modGrp_patchesOf : (s.modGrp g f).patchesOf = s.patchesOf := rfl
@[simp] theorem State.modGrp_pipes : (s.modGrp g f).pipes = s.pipes := rfl
@[simp] theorem State.modGrp_frames : (s.modGrp g f).frames = s.frames := rfl
@[simp] theorem State.modGrp_graph : (s.modGrp g f).graph = s.graph := rfl
@[simp] theorem State.modGrp_lanes : (s.modGrp g f).lanes = s.lanes := rfl
@[simp] theorem State.modGrp_streams : (s.modGrp g f).streams = s.streams := rfl
@[simp] theorem State.modGrp_sgs : (s.modGrp g f).sgs = s.sgs := rfl
@[simp] theorem State.modGrp_pss : (s.modGrp g f).pss = s.pss := rfl
@[simp] theorem State.modGrp_caps : (s.modGrp g f).caps = s.caps := rfl
@[simp] theorem State.modGrp_subst : (s.modGrp g f).subst = s.subst := rfl
@[simp] theorem State.modGrp_time : (s.modGrp g f).time = s.time := rfl
@[simp] theorem State.modGrp_drv : (s.modGrp g f).drv = s.drv := rfl
@[simp] theorem State.modGrp_media : (s.modGrp g f).media = s.media := rfl
@[simp] theorem State.modGrp_recorder : (s.modGrp g f).recorder = s.recorder := rfl
@[simp] theorem State.modGrp_zst : (s.modGrp g f).zst = s.zst := rfl
@[simp] theorem State.modGrp_oldJobs : (s.modGrp g f).oldJobs = s.oldJobs := rfl
@[simp] theorem State.modGrp_outfs : (s.modGrp g f).outfs = s.outfs := rfl
@[simp] theorem State.modGrp_encs : (s.modGrp g f).encs = s.encs := rfl
@[simp] theorem State.modGrp_dec : (s.modGrp g f).dec = s.dec := rfl
@[simp] theorem State.modGrp_disp : (s.modGrp g f).disp = s.disp := rfl
@[simp] theorem State.modGrp_hbmc : (s.modGrp g f).hbmc = s.hbmc := rfl
@[simp] theorem State.modGrp_hlt : (s.modGrp g f).hlt = s.hlt := rfl
@[simp] theorem State.modGrp_baro : (s.modGrp g f).baro = s.baro := rfl
@[simp] theorem State.modGrp_nv : (s.modGrp g f).nv = s.nv := rfl
@[simp] theorem State.modGrp_ofl : (s.modGrp g f).ofl = s.ofl := rfl
@[simp] theorem State.modGrp_sky : (s.modGrp g f).sky = s.sky := rfl
@[simp] theorem State.modGrp_aud : (s.modGrp g f).aud = s.aud := rfl
@[simp] theorem State.modGrp_lsp : (s.modGrp g f).lsp = s.lsp := rfl
@[simp] theorem State.modGrp_cpr : (s.modGrp g f).cpr = s.cpr := rfl
@[simp] theorem State.modGrp_free : (s.modGrp g f).free = s.free := rfl
@[simp] theorem State.modGrp_rd : (s.modGrp g f).rd rg jx = s.rd rg jx := rfl
@[simp] theorem State.modGrp_get : (s.modGrp g f).get fl jx = s.get fl jx := rfl
@[simp] theorem State.modGrp_flag : (s.modGrp g f).flag fl jx = s.flag fl jx := rfl
@[simp] theorem State.modGrp_groups : (s.modGrp g f).groups = modNth s.groups g f := rfl

end modGrp

section modHbm

variable (s : State) (f : HbmSt → HbmSt) (fl : Fld) (rg : Reg) (jx : List Nat)

@[simp] theorem State.modHbm_pending : (s.modHbm f).pending = s.pending := rfl
@[simp] theorem State.modHbm_regs : (s.modHbm f).regs = s.regs := rfl
@[simp] theorem State.modHbm_mirror : (s.modHbm f).mirror = s.mirror := rfl
@[simp] theorem State.modHbm_latch : (s.modHbm f).latch = s.latch := rfl
@[simp] theorem State.modHbm_lowHalf : (s.modHbm f).lowHalf = s.lowHalf := rfl
@[simp] theorem State.modHbm_host : (s.modHbm f).host = s.host := rfl
@[simp] theorem State.modHbm_ohost : (s.modHbm f).ohost = s.ohost := rfl
@[simp] theorem State.modHbm_hbm : (s.modHbm f).hbm = s.hbm := rfl
@[simp] theorem State.modHbm_undef : (s.modHbm f).undef = s.undef := rfl
@[simp] theorem State.modHbm_mram : (s.modHbm f).mram = s.mram := rfl
@[simp] theorem State.modHbm_lut : (s.modHbm f).lut = s.lut := rfl
@[simp] theorem State.modHbm_lutSet : (s.modHbm f).lutSet = s.lutSet := rfl
@[simp] theorem State.modHbm_msixTable : (s.modHbm f).msixTable = s.msixTable := rfl
@[simp] theorem State.modHbm_msixPba : (s.modHbm f).msixPba = s.msixPba := rfl
@[simp] theorem State.modHbm_msixEnable : (s.modHbm f).msixEnable = s.msixEnable := rfl
@[simp] theorem State.modHbm_msixMask : (s.modHbm f).msixMask = s.msixMask := rfl
@[simp] theorem State.modHbm_out : (s.modHbm f).out = s.out := rfl
@[simp] theorem State.modHbm_raised : (s.modHbm f).raised = s.raised := rfl
@[simp] theorem State.modHbm_limited : (s.modHbm f).limited = s.limited := rfl
@[simp] theorem State.modHbm_limitedAt : (s.modHbm f).limitedAt = s.limitedAt := rfl
@[simp] theorem State.modHbm_sfeFull : (s.modHbm f).sfeFull = s.sfeFull := rfl
@[simp] theorem State.modHbm_defStores : (s.modHbm f).defStores = s.defStores := rfl
@[simp] theorem State.modHbm_dests : (s.modHbm f).dests = s.dests := rfl
@[simp] theorem State.modHbm_disarmed : (s.modHbm f).disarmed = s.disarmed := rfl
@[simp] theorem State.modHbm_packets : (s.modHbm f).packets = s.packets := rfl
@[simp] theorem State.modHbm_rings : (s.modHbm f).rings = s.rings := rfl
@[simp] theorem State.modHbm_nextId : (s.modHbm f).nextId = s.nextId := rfl
@[simp] theorem State.modHbm_heldReads : (s.modHbm f).heldReads = s.heldReads := rfl
@[simp] theorem State.modHbm_bulk : (s.modHbm f).bulk = s.bulk := rfl
@[simp] theorem State.modHbm_promo : (s.modHbm f).promo = s.promo := rfl
@[simp] theorem State.modHbm_front : (s.modHbm f).front = s.front := rfl
@[simp] theorem State.modHbm_epochs : (s.modHbm f).epochs = s.epochs := rfl
@[simp] theorem State.modHbm_patchesOf : (s.modHbm f).patchesOf = s.patchesOf := rfl
@[simp] theorem State.modHbm_pipes : (s.modHbm f).pipes = s.pipes := rfl
@[simp] theorem State.modHbm_frames : (s.modHbm f).frames = s.frames := rfl
@[simp] theorem State.modHbm_graph : (s.modHbm f).graph = s.graph := rfl
@[simp] theorem State.modHbm_lanes : (s.modHbm f).lanes = s.lanes := rfl
@[simp] theorem State.modHbm_groups : (s.modHbm f).groups = s.groups := rfl
@[simp] theorem State.modHbm_streams : (s.modHbm f).streams = s.streams := rfl
@[simp] theorem State.modHbm_sgs : (s.modHbm f).sgs = s.sgs := rfl
@[simp] theorem State.modHbm_pss : (s.modHbm f).pss = s.pss := rfl
@[simp] theorem State.modHbm_caps : (s.modHbm f).caps = s.caps := rfl
@[simp] theorem State.modHbm_subst : (s.modHbm f).subst = s.subst := rfl
@[simp] theorem State.modHbm_time : (s.modHbm f).time = s.time := rfl
@[simp] theorem State.modHbm_drv : (s.modHbm f).drv = s.drv := rfl
@[simp] theorem State.modHbm_media : (s.modHbm f).media = s.media := rfl
@[simp] theorem State.modHbm_recorder : (s.modHbm f).recorder = s.recorder := rfl
@[simp] theorem State.modHbm_zst : (s.modHbm f).zst = s.zst := rfl
@[simp] theorem State.modHbm_oldJobs : (s.modHbm f).oldJobs = s.oldJobs := rfl
@[simp] theorem State.modHbm_outfs : (s.modHbm f).outfs = s.outfs := rfl
@[simp] theorem State.modHbm_encs : (s.modHbm f).encs = s.encs := rfl
@[simp] theorem State.modHbm_dec : (s.modHbm f).dec = s.dec := rfl
@[simp] theorem State.modHbm_disp : (s.modHbm f).disp = s.disp := rfl
@[simp] theorem State.modHbm_hlt : (s.modHbm f).hlt = s.hlt := rfl
@[simp] theorem State.modHbm_baro : (s.modHbm f).baro = s.baro := rfl
@[simp] theorem State.modHbm_nv : (s.modHbm f).nv = s.nv := rfl
@[simp] theorem State.modHbm_ofl : (s.modHbm f).ofl = s.ofl := rfl
@[simp] theorem State.modHbm_sky : (s.modHbm f).sky = s.sky := rfl
@[simp] theorem State.modHbm_aud : (s.modHbm f).aud = s.aud := rfl
@[simp] theorem State.modHbm_lsp : (s.modHbm f).lsp = s.lsp := rfl
@[simp] theorem State.modHbm_cpr : (s.modHbm f).cpr = s.cpr := rfl
@[simp] theorem State.modHbm_free : (s.modHbm f).free = s.free := rfl
@[simp] theorem State.modHbm_rd : (s.modHbm f).rd rg jx = s.rd rg jx := rfl
@[simp] theorem State.modHbm_get : (s.modHbm f).get fl jx = s.get fl jx := rfl
@[simp] theorem State.modHbm_flag : (s.modHbm f).flag fl jx = s.flag fl jx := rfl
@[simp] theorem State.modHbm_hbmc : (s.modHbm f).hbmc = f s.hbmc := rfl

end modHbm

section modHlt

variable (s : State) (f : HltSt → HltSt) (fl : Fld) (rg : Reg) (jx : List Nat)

@[simp] theorem State.modHlt_pending : (s.modHlt f).pending = s.pending := rfl
@[simp] theorem State.modHlt_regs : (s.modHlt f).regs = s.regs := rfl
@[simp] theorem State.modHlt_mirror : (s.modHlt f).mirror = s.mirror := rfl
@[simp] theorem State.modHlt_latch : (s.modHlt f).latch = s.latch := rfl
@[simp] theorem State.modHlt_lowHalf : (s.modHlt f).lowHalf = s.lowHalf := rfl
@[simp] theorem State.modHlt_host : (s.modHlt f).host = s.host := rfl
@[simp] theorem State.modHlt_ohost : (s.modHlt f).ohost = s.ohost := rfl
@[simp] theorem State.modHlt_hbm : (s.modHlt f).hbm = s.hbm := rfl
@[simp] theorem State.modHlt_undef : (s.modHlt f).undef = s.undef := rfl
@[simp] theorem State.modHlt_mram : (s.modHlt f).mram = s.mram := rfl
@[simp] theorem State.modHlt_lut : (s.modHlt f).lut = s.lut := rfl
@[simp] theorem State.modHlt_lutSet : (s.modHlt f).lutSet = s.lutSet := rfl
@[simp] theorem State.modHlt_msixTable : (s.modHlt f).msixTable = s.msixTable := rfl
@[simp] theorem State.modHlt_msixPba : (s.modHlt f).msixPba = s.msixPba := rfl
@[simp] theorem State.modHlt_msixEnable : (s.modHlt f).msixEnable = s.msixEnable := rfl
@[simp] theorem State.modHlt_msixMask : (s.modHlt f).msixMask = s.msixMask := rfl
@[simp] theorem State.modHlt_out : (s.modHlt f).out = s.out := rfl
@[simp] theorem State.modHlt_raised : (s.modHlt f).raised = s.raised := rfl
@[simp] theorem State.modHlt_limited : (s.modHlt f).limited = s.limited := rfl
@[simp] theorem State.modHlt_limitedAt : (s.modHlt f).limitedAt = s.limitedAt := rfl
@[simp] theorem State.modHlt_sfeFull : (s.modHlt f).sfeFull = s.sfeFull := rfl
@[simp] theorem State.modHlt_defStores : (s.modHlt f).defStores = s.defStores := rfl
@[simp] theorem State.modHlt_dests : (s.modHlt f).dests = s.dests := rfl
@[simp] theorem State.modHlt_disarmed : (s.modHlt f).disarmed = s.disarmed := rfl
@[simp] theorem State.modHlt_packets : (s.modHlt f).packets = s.packets := rfl
@[simp] theorem State.modHlt_rings : (s.modHlt f).rings = s.rings := rfl
@[simp] theorem State.modHlt_nextId : (s.modHlt f).nextId = s.nextId := rfl
@[simp] theorem State.modHlt_heldReads : (s.modHlt f).heldReads = s.heldReads := rfl
@[simp] theorem State.modHlt_bulk : (s.modHlt f).bulk = s.bulk := rfl
@[simp] theorem State.modHlt_promo : (s.modHlt f).promo = s.promo := rfl
@[simp] theorem State.modHlt_front : (s.modHlt f).front = s.front := rfl
@[simp] theorem State.modHlt_epochs : (s.modHlt f).epochs = s.epochs := rfl
@[simp] theorem State.modHlt_patchesOf : (s.modHlt f).patchesOf = s.patchesOf := rfl
@[simp] theorem State.modHlt_pipes : (s.modHlt f).pipes = s.pipes := rfl
@[simp] theorem State.modHlt_frames : (s.modHlt f).frames = s.frames := rfl
@[simp] theorem State.modHlt_graph : (s.modHlt f).graph = s.graph := rfl
@[simp] theorem State.modHlt_lanes : (s.modHlt f).lanes = s.lanes := rfl
@[simp] theorem State.modHlt_groups : (s.modHlt f).groups = s.groups := rfl
@[simp] theorem State.modHlt_streams : (s.modHlt f).streams = s.streams := rfl
@[simp] theorem State.modHlt_sgs : (s.modHlt f).sgs = s.sgs := rfl
@[simp] theorem State.modHlt_pss : (s.modHlt f).pss = s.pss := rfl
@[simp] theorem State.modHlt_caps : (s.modHlt f).caps = s.caps := rfl
@[simp] theorem State.modHlt_subst : (s.modHlt f).subst = s.subst := rfl
@[simp] theorem State.modHlt_time : (s.modHlt f).time = s.time := rfl
@[simp] theorem State.modHlt_drv : (s.modHlt f).drv = s.drv := rfl
@[simp] theorem State.modHlt_media : (s.modHlt f).media = s.media := rfl
@[simp] theorem State.modHlt_recorder : (s.modHlt f).recorder = s.recorder := rfl
@[simp] theorem State.modHlt_zst : (s.modHlt f).zst = s.zst := rfl
@[simp] theorem State.modHlt_oldJobs : (s.modHlt f).oldJobs = s.oldJobs := rfl
@[simp] theorem State.modHlt_outfs : (s.modHlt f).outfs = s.outfs := rfl
@[simp] theorem State.modHlt_encs : (s.modHlt f).encs = s.encs := rfl
@[simp] theorem State.modHlt_dec : (s.modHlt f).dec = s.dec := rfl
@[simp] theorem State.modHlt_disp : (s.modHlt f).disp = s.disp := rfl
@[simp] theorem State.modHlt_hbmc : (s.modHlt f).hbmc = s.hbmc := rfl
@[simp] theorem State.modHlt_baro : (s.modHlt f).baro = s.baro := rfl
@[simp] theorem State.modHlt_nv : (s.modHlt f).nv = s.nv := rfl
@[simp] theorem State.modHlt_ofl : (s.modHlt f).ofl = s.ofl := rfl
@[simp] theorem State.modHlt_sky : (s.modHlt f).sky = s.sky := rfl
@[simp] theorem State.modHlt_aud : (s.modHlt f).aud = s.aud := rfl
@[simp] theorem State.modHlt_lsp : (s.modHlt f).lsp = s.lsp := rfl
@[simp] theorem State.modHlt_cpr : (s.modHlt f).cpr = s.cpr := rfl
@[simp] theorem State.modHlt_free : (s.modHlt f).free = s.free := rfl
@[simp] theorem State.modHlt_rd : (s.modHlt f).rd rg jx = s.rd rg jx := rfl
@[simp] theorem State.modHlt_get : (s.modHlt f).get fl jx = s.get fl jx := rfl
@[simp] theorem State.modHlt_flag : (s.modHlt f).flag fl jx = s.flag fl jx := rfl
@[simp] theorem State.modHlt_hlt : (s.modHlt f).hlt = f s.hlt := rfl

end modHlt

section modI2c

variable (s : State) (c : Nat) (f : I2cSt → I2cSt) (fl : Fld) (rg : Reg) (jx : List Nat)

@[simp] theorem State.modI2c_pending : (s.modI2c c f).pending = s.pending := rfl
@[simp] theorem State.modI2c_regs : (s.modI2c c f).regs = s.regs := rfl
@[simp] theorem State.modI2c_mirror : (s.modI2c c f).mirror = s.mirror := rfl
@[simp] theorem State.modI2c_latch : (s.modI2c c f).latch = s.latch := rfl
@[simp] theorem State.modI2c_lowHalf : (s.modI2c c f).lowHalf = s.lowHalf := rfl
@[simp] theorem State.modI2c_host : (s.modI2c c f).host = s.host := rfl
@[simp] theorem State.modI2c_ohost : (s.modI2c c f).ohost = s.ohost := rfl
@[simp] theorem State.modI2c_hbm : (s.modI2c c f).hbm = s.hbm := rfl
@[simp] theorem State.modI2c_undef : (s.modI2c c f).undef = s.undef := rfl
@[simp] theorem State.modI2c_mram : (s.modI2c c f).mram = s.mram := rfl
@[simp] theorem State.modI2c_lut : (s.modI2c c f).lut = s.lut := rfl
@[simp] theorem State.modI2c_lutSet : (s.modI2c c f).lutSet = s.lutSet := rfl
@[simp] theorem State.modI2c_msixTable : (s.modI2c c f).msixTable = s.msixTable := rfl
@[simp] theorem State.modI2c_msixPba : (s.modI2c c f).msixPba = s.msixPba := rfl
@[simp] theorem State.modI2c_msixEnable : (s.modI2c c f).msixEnable = s.msixEnable := rfl
@[simp] theorem State.modI2c_msixMask : (s.modI2c c f).msixMask = s.msixMask := rfl
@[simp] theorem State.modI2c_out : (s.modI2c c f).out = s.out := rfl
@[simp] theorem State.modI2c_raised : (s.modI2c c f).raised = s.raised := rfl
@[simp] theorem State.modI2c_limited : (s.modI2c c f).limited = s.limited := rfl
@[simp] theorem State.modI2c_limitedAt : (s.modI2c c f).limitedAt = s.limitedAt := rfl
@[simp] theorem State.modI2c_sfeFull : (s.modI2c c f).sfeFull = s.sfeFull := rfl
@[simp] theorem State.modI2c_defStores : (s.modI2c c f).defStores = s.defStores := rfl
@[simp] theorem State.modI2c_dests : (s.modI2c c f).dests = s.dests := rfl
@[simp] theorem State.modI2c_disarmed : (s.modI2c c f).disarmed = s.disarmed := rfl
@[simp] theorem State.modI2c_packets : (s.modI2c c f).packets = s.packets := rfl
@[simp] theorem State.modI2c_rings : (s.modI2c c f).rings = s.rings := rfl
@[simp] theorem State.modI2c_nextId : (s.modI2c c f).nextId = s.nextId := rfl
@[simp] theorem State.modI2c_heldReads : (s.modI2c c f).heldReads = s.heldReads := rfl
@[simp] theorem State.modI2c_bulk : (s.modI2c c f).bulk = s.bulk := rfl
@[simp] theorem State.modI2c_promo : (s.modI2c c f).promo = s.promo := rfl
@[simp] theorem State.modI2c_front : (s.modI2c c f).front = s.front := rfl
@[simp] theorem State.modI2c_epochs : (s.modI2c c f).epochs = s.epochs := rfl
@[simp] theorem State.modI2c_patchesOf : (s.modI2c c f).patchesOf = s.patchesOf := rfl
@[simp] theorem State.modI2c_pipes : (s.modI2c c f).pipes = s.pipes := rfl
@[simp] theorem State.modI2c_frames : (s.modI2c c f).frames = s.frames := rfl
@[simp] theorem State.modI2c_graph : (s.modI2c c f).graph = s.graph := rfl
@[simp] theorem State.modI2c_lanes : (s.modI2c c f).lanes = s.lanes := rfl
@[simp] theorem State.modI2c_groups : (s.modI2c c f).groups = s.groups := rfl
@[simp] theorem State.modI2c_streams : (s.modI2c c f).streams = s.streams := rfl
@[simp] theorem State.modI2c_sgs : (s.modI2c c f).sgs = s.sgs := rfl
@[simp] theorem State.modI2c_pss : (s.modI2c c f).pss = s.pss := rfl
@[simp] theorem State.modI2c_caps : (s.modI2c c f).caps = s.caps := rfl
@[simp] theorem State.modI2c_subst : (s.modI2c c f).subst = s.subst := rfl
@[simp] theorem State.modI2c_time : (s.modI2c c f).time = s.time := rfl
@[simp] theorem State.modI2c_drv : (s.modI2c c f).drv = s.drv := rfl
@[simp] theorem State.modI2c_media : (s.modI2c c f).media = s.media := rfl
@[simp] theorem State.modI2c_recorder : (s.modI2c c f).recorder = s.recorder := rfl
@[simp] theorem State.modI2c_zst : (s.modI2c c f).zst = s.zst := rfl
@[simp] theorem State.modI2c_oldJobs : (s.modI2c c f).oldJobs = s.oldJobs := rfl
@[simp] theorem State.modI2c_outfs : (s.modI2c c f).outfs = s.outfs := rfl
@[simp] theorem State.modI2c_encs : (s.modI2c c f).encs = s.encs := rfl
@[simp] theorem State.modI2c_dec : (s.modI2c c f).dec = s.dec := rfl
@[simp] theorem State.modI2c_disp : (s.modI2c c f).disp = s.disp := rfl
@[simp] theorem State.modI2c_hbmc : (s.modI2c c f).hbmc = s.hbmc := rfl
@[simp] theorem State.modI2c_hlt : (s.modI2c c f).hlt = s.hlt := rfl
@[simp] theorem State.modI2c_baro : (s.modI2c c f).baro = s.baro := rfl
@[simp] theorem State.modI2c_nv : (s.modI2c c f).nv = s.nv := rfl
@[simp] theorem State.modI2c_ofl : (s.modI2c c f).ofl = s.ofl := rfl
@[simp] theorem State.modI2c_sky : (s.modI2c c f).sky = s.sky := rfl
@[simp] theorem State.modI2c_aud : (s.modI2c c f).aud = s.aud := rfl
@[simp] theorem State.modI2c_cpr : (s.modI2c c f).cpr = s.cpr := rfl
@[simp] theorem State.modI2c_free : (s.modI2c c f).free = s.free := rfl
@[simp] theorem State.modI2c_rd : (s.modI2c c f).rd rg jx = s.rd rg jx := rfl
@[simp] theorem State.modI2c_get : (s.modI2c c f).get fl jx = s.get fl jx := rfl
@[simp] theorem State.modI2c_flag : (s.modI2c c f).flag fl jx = s.flag fl jx := rfl

end modI2c

section modLane

variable (s : State) (l : Nat) (f : Lane → Lane) (fl : Fld) (rg : Reg) (jx : List Nat)

@[simp] theorem State.modLane_pending : (s.modLane l f).pending = s.pending := rfl
@[simp] theorem State.modLane_regs : (s.modLane l f).regs = s.regs := rfl
@[simp] theorem State.modLane_mirror : (s.modLane l f).mirror = s.mirror := rfl
@[simp] theorem State.modLane_latch : (s.modLane l f).latch = s.latch := rfl
@[simp] theorem State.modLane_lowHalf : (s.modLane l f).lowHalf = s.lowHalf := rfl
@[simp] theorem State.modLane_host : (s.modLane l f).host = s.host := rfl
@[simp] theorem State.modLane_ohost : (s.modLane l f).ohost = s.ohost := rfl
@[simp] theorem State.modLane_hbm : (s.modLane l f).hbm = s.hbm := rfl
@[simp] theorem State.modLane_undef : (s.modLane l f).undef = s.undef := rfl
@[simp] theorem State.modLane_mram : (s.modLane l f).mram = s.mram := rfl
@[simp] theorem State.modLane_lut : (s.modLane l f).lut = s.lut := rfl
@[simp] theorem State.modLane_lutSet : (s.modLane l f).lutSet = s.lutSet := rfl
@[simp] theorem State.modLane_msixTable : (s.modLane l f).msixTable = s.msixTable := rfl
@[simp] theorem State.modLane_msixPba : (s.modLane l f).msixPba = s.msixPba := rfl
@[simp] theorem State.modLane_msixEnable : (s.modLane l f).msixEnable = s.msixEnable := rfl
@[simp] theorem State.modLane_msixMask : (s.modLane l f).msixMask = s.msixMask := rfl
@[simp] theorem State.modLane_out : (s.modLane l f).out = s.out := rfl
@[simp] theorem State.modLane_raised : (s.modLane l f).raised = s.raised := rfl
@[simp] theorem State.modLane_limited : (s.modLane l f).limited = s.limited := rfl
@[simp] theorem State.modLane_limitedAt : (s.modLane l f).limitedAt = s.limitedAt := rfl
@[simp] theorem State.modLane_sfeFull : (s.modLane l f).sfeFull = s.sfeFull := rfl
@[simp] theorem State.modLane_defStores : (s.modLane l f).defStores = s.defStores := rfl
@[simp] theorem State.modLane_dests : (s.modLane l f).dests = s.dests := rfl
@[simp] theorem State.modLane_disarmed : (s.modLane l f).disarmed = s.disarmed := rfl
@[simp] theorem State.modLane_packets : (s.modLane l f).packets = s.packets := rfl
@[simp] theorem State.modLane_rings : (s.modLane l f).rings = s.rings := rfl
@[simp] theorem State.modLane_nextId : (s.modLane l f).nextId = s.nextId := rfl
@[simp] theorem State.modLane_heldReads : (s.modLane l f).heldReads = s.heldReads := rfl
@[simp] theorem State.modLane_bulk : (s.modLane l f).bulk = s.bulk := rfl
@[simp] theorem State.modLane_promo : (s.modLane l f).promo = s.promo := rfl
@[simp] theorem State.modLane_front : (s.modLane l f).front = s.front := rfl
@[simp] theorem State.modLane_epochs : (s.modLane l f).epochs = s.epochs := rfl
@[simp] theorem State.modLane_patchesOf : (s.modLane l f).patchesOf = s.patchesOf := rfl
@[simp] theorem State.modLane_pipes : (s.modLane l f).pipes = s.pipes := rfl
@[simp] theorem State.modLane_frames : (s.modLane l f).frames = s.frames := rfl
@[simp] theorem State.modLane_graph : (s.modLane l f).graph = s.graph := rfl
@[simp] theorem State.modLane_groups : (s.modLane l f).groups = s.groups := rfl
@[simp] theorem State.modLane_streams : (s.modLane l f).streams = s.streams := rfl
@[simp] theorem State.modLane_sgs : (s.modLane l f).sgs = s.sgs := rfl
@[simp] theorem State.modLane_pss : (s.modLane l f).pss = s.pss := rfl
@[simp] theorem State.modLane_caps : (s.modLane l f).caps = s.caps := rfl
@[simp] theorem State.modLane_subst : (s.modLane l f).subst = s.subst := rfl
@[simp] theorem State.modLane_time : (s.modLane l f).time = s.time := rfl
@[simp] theorem State.modLane_drv : (s.modLane l f).drv = s.drv := rfl
@[simp] theorem State.modLane_media : (s.modLane l f).media = s.media := rfl
@[simp] theorem State.modLane_recorder : (s.modLane l f).recorder = s.recorder := rfl
@[simp] theorem State.modLane_zst : (s.modLane l f).zst = s.zst := rfl
@[simp] theorem State.modLane_oldJobs : (s.modLane l f).oldJobs = s.oldJobs := rfl
@[simp] theorem State.modLane_outfs : (s.modLane l f).outfs = s.outfs := rfl
@[simp] theorem State.modLane_encs : (s.modLane l f).encs = s.encs := rfl
@[simp] theorem State.modLane_dec : (s.modLane l f).dec = s.dec := rfl
@[simp] theorem State.modLane_disp : (s.modLane l f).disp = s.disp := rfl
@[simp] theorem State.modLane_hbmc : (s.modLane l f).hbmc = s.hbmc := rfl
@[simp] theorem State.modLane_hlt : (s.modLane l f).hlt = s.hlt := rfl
@[simp] theorem State.modLane_baro : (s.modLane l f).baro = s.baro := rfl
@[simp] theorem State.modLane_nv : (s.modLane l f).nv = s.nv := rfl
@[simp] theorem State.modLane_ofl : (s.modLane l f).ofl = s.ofl := rfl
@[simp] theorem State.modLane_sky : (s.modLane l f).sky = s.sky := rfl
@[simp] theorem State.modLane_aud : (s.modLane l f).aud = s.aud := rfl
@[simp] theorem State.modLane_lsp : (s.modLane l f).lsp = s.lsp := rfl
@[simp] theorem State.modLane_cpr : (s.modLane l f).cpr = s.cpr := rfl
@[simp] theorem State.modLane_free : (s.modLane l f).free = s.free := rfl
@[simp] theorem State.modLane_rd : (s.modLane l f).rd rg jx = s.rd rg jx := rfl
@[simp] theorem State.modLane_get : (s.modLane l f).get fl jx = s.get fl jx := rfl
@[simp] theorem State.modLane_flag : (s.modLane l f).flag fl jx = s.flag fl jx := rfl
@[simp] theorem State.modLane_lanes : (s.modLane l f).lanes = modNth s.lanes l f := rfl

end modLane

section modLayer

variable (s : State) (n : Nat) (f : LayerSt → LayerSt) (fl : Fld) (rg : Reg) (jx : List Nat)

@[simp] theorem State.modLayer_pending : (s.modLayer n f).pending = s.pending := rfl
@[simp] theorem State.modLayer_regs : (s.modLayer n f).regs = s.regs := rfl
@[simp] theorem State.modLayer_mirror : (s.modLayer n f).mirror = s.mirror := rfl
@[simp] theorem State.modLayer_latch : (s.modLayer n f).latch = s.latch := rfl
@[simp] theorem State.modLayer_lowHalf : (s.modLayer n f).lowHalf = s.lowHalf := rfl
@[simp] theorem State.modLayer_host : (s.modLayer n f).host = s.host := rfl
@[simp] theorem State.modLayer_ohost : (s.modLayer n f).ohost = s.ohost := rfl
@[simp] theorem State.modLayer_hbm : (s.modLayer n f).hbm = s.hbm := rfl
@[simp] theorem State.modLayer_undef : (s.modLayer n f).undef = s.undef := rfl
@[simp] theorem State.modLayer_mram : (s.modLayer n f).mram = s.mram := rfl
@[simp] theorem State.modLayer_lut : (s.modLayer n f).lut = s.lut := rfl
@[simp] theorem State.modLayer_lutSet : (s.modLayer n f).lutSet = s.lutSet := rfl
@[simp] theorem State.modLayer_msixTable : (s.modLayer n f).msixTable = s.msixTable := rfl
@[simp] theorem State.modLayer_msixPba : (s.modLayer n f).msixPba = s.msixPba := rfl
@[simp] theorem State.modLayer_msixEnable : (s.modLayer n f).msixEnable = s.msixEnable := rfl
@[simp] theorem State.modLayer_msixMask : (s.modLayer n f).msixMask = s.msixMask := rfl
@[simp] theorem State.modLayer_out : (s.modLayer n f).out = s.out := rfl
@[simp] theorem State.modLayer_raised : (s.modLayer n f).raised = s.raised := rfl
@[simp] theorem State.modLayer_limited : (s.modLayer n f).limited = s.limited := rfl
@[simp] theorem State.modLayer_limitedAt : (s.modLayer n f).limitedAt = s.limitedAt := rfl
@[simp] theorem State.modLayer_sfeFull : (s.modLayer n f).sfeFull = s.sfeFull := rfl
@[simp] theorem State.modLayer_defStores : (s.modLayer n f).defStores = s.defStores := rfl
@[simp] theorem State.modLayer_dests : (s.modLayer n f).dests = s.dests := rfl
@[simp] theorem State.modLayer_disarmed : (s.modLayer n f).disarmed = s.disarmed := rfl
@[simp] theorem State.modLayer_packets : (s.modLayer n f).packets = s.packets := rfl
@[simp] theorem State.modLayer_rings : (s.modLayer n f).rings = s.rings := rfl
@[simp] theorem State.modLayer_nextId : (s.modLayer n f).nextId = s.nextId := rfl
@[simp] theorem State.modLayer_heldReads : (s.modLayer n f).heldReads = s.heldReads := rfl
@[simp] theorem State.modLayer_bulk : (s.modLayer n f).bulk = s.bulk := rfl
@[simp] theorem State.modLayer_promo : (s.modLayer n f).promo = s.promo := rfl
@[simp] theorem State.modLayer_front : (s.modLayer n f).front = s.front := rfl
@[simp] theorem State.modLayer_epochs : (s.modLayer n f).epochs = s.epochs := rfl
@[simp] theorem State.modLayer_patchesOf : (s.modLayer n f).patchesOf = s.patchesOf := rfl
@[simp] theorem State.modLayer_pipes : (s.modLayer n f).pipes = s.pipes := rfl
@[simp] theorem State.modLayer_frames : (s.modLayer n f).frames = s.frames := rfl
@[simp] theorem State.modLayer_graph : (s.modLayer n f).graph = s.graph := rfl
@[simp] theorem State.modLayer_lanes : (s.modLayer n f).lanes = s.lanes := rfl
@[simp] theorem State.modLayer_groups : (s.modLayer n f).groups = s.groups := rfl
@[simp] theorem State.modLayer_streams : (s.modLayer n f).streams = s.streams := rfl
@[simp] theorem State.modLayer_sgs : (s.modLayer n f).sgs = s.sgs := rfl
@[simp] theorem State.modLayer_pss : (s.modLayer n f).pss = s.pss := rfl
@[simp] theorem State.modLayer_caps : (s.modLayer n f).caps = s.caps := rfl
@[simp] theorem State.modLayer_subst : (s.modLayer n f).subst = s.subst := rfl
@[simp] theorem State.modLayer_time : (s.modLayer n f).time = s.time := rfl
@[simp] theorem State.modLayer_drv : (s.modLayer n f).drv = s.drv := rfl
@[simp] theorem State.modLayer_media : (s.modLayer n f).media = s.media := rfl
@[simp] theorem State.modLayer_recorder : (s.modLayer n f).recorder = s.recorder := rfl
@[simp] theorem State.modLayer_zst : (s.modLayer n f).zst = s.zst := rfl
@[simp] theorem State.modLayer_oldJobs : (s.modLayer n f).oldJobs = s.oldJobs := rfl
@[simp] theorem State.modLayer_outfs : (s.modLayer n f).outfs = s.outfs := rfl
@[simp] theorem State.modLayer_encs : (s.modLayer n f).encs = s.encs := rfl
@[simp] theorem State.modLayer_dec : (s.modLayer n f).dec = s.dec := rfl
@[simp] theorem State.modLayer_hbmc : (s.modLayer n f).hbmc = s.hbmc := rfl
@[simp] theorem State.modLayer_hlt : (s.modLayer n f).hlt = s.hlt := rfl
@[simp] theorem State.modLayer_baro : (s.modLayer n f).baro = s.baro := rfl
@[simp] theorem State.modLayer_nv : (s.modLayer n f).nv = s.nv := rfl
@[simp] theorem State.modLayer_ofl : (s.modLayer n f).ofl = s.ofl := rfl
@[simp] theorem State.modLayer_sky : (s.modLayer n f).sky = s.sky := rfl
@[simp] theorem State.modLayer_aud : (s.modLayer n f).aud = s.aud := rfl
@[simp] theorem State.modLayer_lsp : (s.modLayer n f).lsp = s.lsp := rfl
@[simp] theorem State.modLayer_cpr : (s.modLayer n f).cpr = s.cpr := rfl
@[simp] theorem State.modLayer_free : (s.modLayer n f).free = s.free := rfl
@[simp] theorem State.modLayer_rd : (s.modLayer n f).rd rg jx = s.rd rg jx := rfl
@[simp] theorem State.modLayer_get : (s.modLayer n f).get fl jx = s.get fl jx := rfl
@[simp] theorem State.modLayer_flag : (s.modLayer n f).flag fl jx = s.flag fl jx := rfl
@[simp] theorem State.modLayer_disp : (s.modLayer n f).disp = { s.disp with layers := modNth s.disp.layers n f } := rfl

end modLayer

section modLsp

variable (s : State) (f : LspSt → LspSt) (fl : Fld) (rg : Reg) (jx : List Nat)

@[simp] theorem State.modLsp_pending : (s.modLsp f).pending = s.pending := rfl
@[simp] theorem State.modLsp_regs : (s.modLsp f).regs = s.regs := rfl
@[simp] theorem State.modLsp_mirror : (s.modLsp f).mirror = s.mirror := rfl
@[simp] theorem State.modLsp_latch : (s.modLsp f).latch = s.latch := rfl
@[simp] theorem State.modLsp_lowHalf : (s.modLsp f).lowHalf = s.lowHalf := rfl
@[simp] theorem State.modLsp_host : (s.modLsp f).host = s.host := rfl
@[simp] theorem State.modLsp_ohost : (s.modLsp f).ohost = s.ohost := rfl
@[simp] theorem State.modLsp_hbm : (s.modLsp f).hbm = s.hbm := rfl
@[simp] theorem State.modLsp_undef : (s.modLsp f).undef = s.undef := rfl
@[simp] theorem State.modLsp_mram : (s.modLsp f).mram = s.mram := rfl
@[simp] theorem State.modLsp_lut : (s.modLsp f).lut = s.lut := rfl
@[simp] theorem State.modLsp_lutSet : (s.modLsp f).lutSet = s.lutSet := rfl
@[simp] theorem State.modLsp_msixTable : (s.modLsp f).msixTable = s.msixTable := rfl
@[simp] theorem State.modLsp_msixPba : (s.modLsp f).msixPba = s.msixPba := rfl
@[simp] theorem State.modLsp_msixEnable : (s.modLsp f).msixEnable = s.msixEnable := rfl
@[simp] theorem State.modLsp_msixMask : (s.modLsp f).msixMask = s.msixMask := rfl
@[simp] theorem State.modLsp_out : (s.modLsp f).out = s.out := rfl
@[simp] theorem State.modLsp_raised : (s.modLsp f).raised = s.raised := rfl
@[simp] theorem State.modLsp_limited : (s.modLsp f).limited = s.limited := rfl
@[simp] theorem State.modLsp_limitedAt : (s.modLsp f).limitedAt = s.limitedAt := rfl
@[simp] theorem State.modLsp_sfeFull : (s.modLsp f).sfeFull = s.sfeFull := rfl
@[simp] theorem State.modLsp_defStores : (s.modLsp f).defStores = s.defStores := rfl
@[simp] theorem State.modLsp_dests : (s.modLsp f).dests = s.dests := rfl
@[simp] theorem State.modLsp_disarmed : (s.modLsp f).disarmed = s.disarmed := rfl
@[simp] theorem State.modLsp_packets : (s.modLsp f).packets = s.packets := rfl
@[simp] theorem State.modLsp_rings : (s.modLsp f).rings = s.rings := rfl
@[simp] theorem State.modLsp_nextId : (s.modLsp f).nextId = s.nextId := rfl
@[simp] theorem State.modLsp_heldReads : (s.modLsp f).heldReads = s.heldReads := rfl
@[simp] theorem State.modLsp_bulk : (s.modLsp f).bulk = s.bulk := rfl
@[simp] theorem State.modLsp_promo : (s.modLsp f).promo = s.promo := rfl
@[simp] theorem State.modLsp_front : (s.modLsp f).front = s.front := rfl
@[simp] theorem State.modLsp_epochs : (s.modLsp f).epochs = s.epochs := rfl
@[simp] theorem State.modLsp_patchesOf : (s.modLsp f).patchesOf = s.patchesOf := rfl
@[simp] theorem State.modLsp_pipes : (s.modLsp f).pipes = s.pipes := rfl
@[simp] theorem State.modLsp_frames : (s.modLsp f).frames = s.frames := rfl
@[simp] theorem State.modLsp_graph : (s.modLsp f).graph = s.graph := rfl
@[simp] theorem State.modLsp_lanes : (s.modLsp f).lanes = s.lanes := rfl
@[simp] theorem State.modLsp_groups : (s.modLsp f).groups = s.groups := rfl
@[simp] theorem State.modLsp_streams : (s.modLsp f).streams = s.streams := rfl
@[simp] theorem State.modLsp_sgs : (s.modLsp f).sgs = s.sgs := rfl
@[simp] theorem State.modLsp_pss : (s.modLsp f).pss = s.pss := rfl
@[simp] theorem State.modLsp_caps : (s.modLsp f).caps = s.caps := rfl
@[simp] theorem State.modLsp_subst : (s.modLsp f).subst = s.subst := rfl
@[simp] theorem State.modLsp_time : (s.modLsp f).time = s.time := rfl
@[simp] theorem State.modLsp_drv : (s.modLsp f).drv = s.drv := rfl
@[simp] theorem State.modLsp_media : (s.modLsp f).media = s.media := rfl
@[simp] theorem State.modLsp_recorder : (s.modLsp f).recorder = s.recorder := rfl
@[simp] theorem State.modLsp_zst : (s.modLsp f).zst = s.zst := rfl
@[simp] theorem State.modLsp_oldJobs : (s.modLsp f).oldJobs = s.oldJobs := rfl
@[simp] theorem State.modLsp_outfs : (s.modLsp f).outfs = s.outfs := rfl
@[simp] theorem State.modLsp_encs : (s.modLsp f).encs = s.encs := rfl
@[simp] theorem State.modLsp_dec : (s.modLsp f).dec = s.dec := rfl
@[simp] theorem State.modLsp_disp : (s.modLsp f).disp = s.disp := rfl
@[simp] theorem State.modLsp_hbmc : (s.modLsp f).hbmc = s.hbmc := rfl
@[simp] theorem State.modLsp_hlt : (s.modLsp f).hlt = s.hlt := rfl
@[simp] theorem State.modLsp_baro : (s.modLsp f).baro = s.baro := rfl
@[simp] theorem State.modLsp_nv : (s.modLsp f).nv = s.nv := rfl
@[simp] theorem State.modLsp_ofl : (s.modLsp f).ofl = s.ofl := rfl
@[simp] theorem State.modLsp_sky : (s.modLsp f).sky = s.sky := rfl
@[simp] theorem State.modLsp_aud : (s.modLsp f).aud = s.aud := rfl
@[simp] theorem State.modLsp_cpr : (s.modLsp f).cpr = s.cpr := rfl
@[simp] theorem State.modLsp_free : (s.modLsp f).free = s.free := rfl
@[simp] theorem State.modLsp_rd : (s.modLsp f).rd rg jx = s.rd rg jx := rfl
@[simp] theorem State.modLsp_get : (s.modLsp f).get fl jx = s.get fl jx := rfl
@[simp] theorem State.modLsp_flag : (s.modLsp f).flag fl jx = s.flag fl jx := rfl
@[simp] theorem State.modLsp_lsp : (s.modLsp f).lsp = f s.lsp := rfl

end modLsp

section modOfl

variable (s : State) (f : OflSt → OflSt) (fl : Fld) (rg : Reg) (jx : List Nat)

@[simp] theorem State.modOfl_pending : (s.modOfl f).pending = s.pending := rfl
@[simp] theorem State.modOfl_regs : (s.modOfl f).regs = s.regs := rfl
@[simp] theorem State.modOfl_mirror : (s.modOfl f).mirror = s.mirror := rfl
@[simp] theorem State.modOfl_latch : (s.modOfl f).latch = s.latch := rfl
@[simp] theorem State.modOfl_lowHalf : (s.modOfl f).lowHalf = s.lowHalf := rfl
@[simp] theorem State.modOfl_host : (s.modOfl f).host = s.host := rfl
@[simp] theorem State.modOfl_ohost : (s.modOfl f).ohost = s.ohost := rfl
@[simp] theorem State.modOfl_hbm : (s.modOfl f).hbm = s.hbm := rfl
@[simp] theorem State.modOfl_undef : (s.modOfl f).undef = s.undef := rfl
@[simp] theorem State.modOfl_mram : (s.modOfl f).mram = s.mram := rfl
@[simp] theorem State.modOfl_lut : (s.modOfl f).lut = s.lut := rfl
@[simp] theorem State.modOfl_lutSet : (s.modOfl f).lutSet = s.lutSet := rfl
@[simp] theorem State.modOfl_msixTable : (s.modOfl f).msixTable = s.msixTable := rfl
@[simp] theorem State.modOfl_msixPba : (s.modOfl f).msixPba = s.msixPba := rfl
@[simp] theorem State.modOfl_msixEnable : (s.modOfl f).msixEnable = s.msixEnable := rfl
@[simp] theorem State.modOfl_msixMask : (s.modOfl f).msixMask = s.msixMask := rfl
@[simp] theorem State.modOfl_out : (s.modOfl f).out = s.out := rfl
@[simp] theorem State.modOfl_raised : (s.modOfl f).raised = s.raised := rfl
@[simp] theorem State.modOfl_limited : (s.modOfl f).limited = s.limited := rfl
@[simp] theorem State.modOfl_limitedAt : (s.modOfl f).limitedAt = s.limitedAt := rfl
@[simp] theorem State.modOfl_sfeFull : (s.modOfl f).sfeFull = s.sfeFull := rfl
@[simp] theorem State.modOfl_defStores : (s.modOfl f).defStores = s.defStores := rfl
@[simp] theorem State.modOfl_dests : (s.modOfl f).dests = s.dests := rfl
@[simp] theorem State.modOfl_disarmed : (s.modOfl f).disarmed = s.disarmed := rfl
@[simp] theorem State.modOfl_packets : (s.modOfl f).packets = s.packets := rfl
@[simp] theorem State.modOfl_rings : (s.modOfl f).rings = s.rings := rfl
@[simp] theorem State.modOfl_nextId : (s.modOfl f).nextId = s.nextId := rfl
@[simp] theorem State.modOfl_heldReads : (s.modOfl f).heldReads = s.heldReads := rfl
@[simp] theorem State.modOfl_bulk : (s.modOfl f).bulk = s.bulk := rfl
@[simp] theorem State.modOfl_promo : (s.modOfl f).promo = s.promo := rfl
@[simp] theorem State.modOfl_front : (s.modOfl f).front = s.front := rfl
@[simp] theorem State.modOfl_epochs : (s.modOfl f).epochs = s.epochs := rfl
@[simp] theorem State.modOfl_patchesOf : (s.modOfl f).patchesOf = s.patchesOf := rfl
@[simp] theorem State.modOfl_pipes : (s.modOfl f).pipes = s.pipes := rfl
@[simp] theorem State.modOfl_frames : (s.modOfl f).frames = s.frames := rfl
@[simp] theorem State.modOfl_graph : (s.modOfl f).graph = s.graph := rfl
@[simp] theorem State.modOfl_lanes : (s.modOfl f).lanes = s.lanes := rfl
@[simp] theorem State.modOfl_groups : (s.modOfl f).groups = s.groups := rfl
@[simp] theorem State.modOfl_streams : (s.modOfl f).streams = s.streams := rfl
@[simp] theorem State.modOfl_sgs : (s.modOfl f).sgs = s.sgs := rfl
@[simp] theorem State.modOfl_pss : (s.modOfl f).pss = s.pss := rfl
@[simp] theorem State.modOfl_caps : (s.modOfl f).caps = s.caps := rfl
@[simp] theorem State.modOfl_subst : (s.modOfl f).subst = s.subst := rfl
@[simp] theorem State.modOfl_time : (s.modOfl f).time = s.time := rfl
@[simp] theorem State.modOfl_drv : (s.modOfl f).drv = s.drv := rfl
@[simp] theorem State.modOfl_media : (s.modOfl f).media = s.media := rfl
@[simp] theorem State.modOfl_recorder : (s.modOfl f).recorder = s.recorder := rfl
@[simp] theorem State.modOfl_zst : (s.modOfl f).zst = s.zst := rfl
@[simp] theorem State.modOfl_oldJobs : (s.modOfl f).oldJobs = s.oldJobs := rfl
@[simp] theorem State.modOfl_outfs : (s.modOfl f).outfs = s.outfs := rfl
@[simp] theorem State.modOfl_encs : (s.modOfl f).encs = s.encs := rfl
@[simp] theorem State.modOfl_dec : (s.modOfl f).dec = s.dec := rfl
@[simp] theorem State.modOfl_disp : (s.modOfl f).disp = s.disp := rfl
@[simp] theorem State.modOfl_hbmc : (s.modOfl f).hbmc = s.hbmc := rfl
@[simp] theorem State.modOfl_hlt : (s.modOfl f).hlt = s.hlt := rfl
@[simp] theorem State.modOfl_baro : (s.modOfl f).baro = s.baro := rfl
@[simp] theorem State.modOfl_nv : (s.modOfl f).nv = s.nv := rfl
@[simp] theorem State.modOfl_sky : (s.modOfl f).sky = s.sky := rfl
@[simp] theorem State.modOfl_aud : (s.modOfl f).aud = s.aud := rfl
@[simp] theorem State.modOfl_lsp : (s.modOfl f).lsp = s.lsp := rfl
@[simp] theorem State.modOfl_cpr : (s.modOfl f).cpr = s.cpr := rfl
@[simp] theorem State.modOfl_free : (s.modOfl f).free = s.free := rfl
@[simp] theorem State.modOfl_rd : (s.modOfl f).rd rg jx = s.rd rg jx := rfl
@[simp] theorem State.modOfl_get : (s.modOfl f).get fl jx = s.get fl jx := rfl
@[simp] theorem State.modOfl_flag : (s.modOfl f).flag fl jx = s.flag fl jx := rfl
@[simp] theorem State.modOfl_ofl : (s.modOfl f).ofl = f s.ofl := rfl

end modOfl

section modOpen

variable (s : State) (n : Nat) (f : OpenFrame → OpenFrame) (fl : Fld) (rg : Reg) (jx : List Nat)

@[simp] theorem State.modOpen_pending : (s.modOpen n f).pending = s.pending := rfl
@[simp] theorem State.modOpen_regs : (s.modOpen n f).regs = s.regs := rfl
@[simp] theorem State.modOpen_mirror : (s.modOpen n f).mirror = s.mirror := rfl
@[simp] theorem State.modOpen_latch : (s.modOpen n f).latch = s.latch := rfl
@[simp] theorem State.modOpen_lowHalf : (s.modOpen n f).lowHalf = s.lowHalf := rfl
@[simp] theorem State.modOpen_host : (s.modOpen n f).host = s.host := rfl
@[simp] theorem State.modOpen_ohost : (s.modOpen n f).ohost = s.ohost := rfl
@[simp] theorem State.modOpen_hbm : (s.modOpen n f).hbm = s.hbm := rfl
@[simp] theorem State.modOpen_undef : (s.modOpen n f).undef = s.undef := rfl
@[simp] theorem State.modOpen_mram : (s.modOpen n f).mram = s.mram := rfl
@[simp] theorem State.modOpen_lut : (s.modOpen n f).lut = s.lut := rfl
@[simp] theorem State.modOpen_lutSet : (s.modOpen n f).lutSet = s.lutSet := rfl
@[simp] theorem State.modOpen_msixTable : (s.modOpen n f).msixTable = s.msixTable := rfl
@[simp] theorem State.modOpen_msixPba : (s.modOpen n f).msixPba = s.msixPba := rfl
@[simp] theorem State.modOpen_msixEnable : (s.modOpen n f).msixEnable = s.msixEnable := rfl
@[simp] theorem State.modOpen_msixMask : (s.modOpen n f).msixMask = s.msixMask := rfl
@[simp] theorem State.modOpen_out : (s.modOpen n f).out = s.out := rfl
@[simp] theorem State.modOpen_raised : (s.modOpen n f).raised = s.raised := rfl
@[simp] theorem State.modOpen_limited : (s.modOpen n f).limited = s.limited := rfl
@[simp] theorem State.modOpen_limitedAt : (s.modOpen n f).limitedAt = s.limitedAt := rfl
@[simp] theorem State.modOpen_sfeFull : (s.modOpen n f).sfeFull = s.sfeFull := rfl
@[simp] theorem State.modOpen_defStores : (s.modOpen n f).defStores = s.defStores := rfl
@[simp] theorem State.modOpen_dests : (s.modOpen n f).dests = s.dests := rfl
@[simp] theorem State.modOpen_disarmed : (s.modOpen n f).disarmed = s.disarmed := rfl
@[simp] theorem State.modOpen_packets : (s.modOpen n f).packets = s.packets := rfl
@[simp] theorem State.modOpen_rings : (s.modOpen n f).rings = s.rings := rfl
@[simp] theorem State.modOpen_nextId : (s.modOpen n f).nextId = s.nextId := rfl
@[simp] theorem State.modOpen_heldReads : (s.modOpen n f).heldReads = s.heldReads := rfl
@[simp] theorem State.modOpen_bulk : (s.modOpen n f).bulk = s.bulk := rfl
@[simp] theorem State.modOpen_promo : (s.modOpen n f).promo = s.promo := rfl
@[simp] theorem State.modOpen_front : (s.modOpen n f).front = s.front := rfl
@[simp] theorem State.modOpen_epochs : (s.modOpen n f).epochs = s.epochs := rfl
@[simp] theorem State.modOpen_patchesOf : (s.modOpen n f).patchesOf = s.patchesOf := rfl
@[simp] theorem State.modOpen_pipes : (s.modOpen n f).pipes = s.pipes := rfl
@[simp] theorem State.modOpen_frames : (s.modOpen n f).frames = s.frames := rfl
@[simp] theorem State.modOpen_graph : (s.modOpen n f).graph = s.graph := rfl
@[simp] theorem State.modOpen_lanes : (s.modOpen n f).lanes = s.lanes := rfl
@[simp] theorem State.modOpen_groups : (s.modOpen n f).groups = s.groups := rfl
@[simp] theorem State.modOpen_sgs : (s.modOpen n f).sgs = s.sgs := rfl
@[simp] theorem State.modOpen_pss : (s.modOpen n f).pss = s.pss := rfl
@[simp] theorem State.modOpen_caps : (s.modOpen n f).caps = s.caps := rfl
@[simp] theorem State.modOpen_subst : (s.modOpen n f).subst = s.subst := rfl
@[simp] theorem State.modOpen_time : (s.modOpen n f).time = s.time := rfl
@[simp] theorem State.modOpen_drv : (s.modOpen n f).drv = s.drv := rfl
@[simp] theorem State.modOpen_media : (s.modOpen n f).media = s.media := rfl
@[simp] theorem State.modOpen_recorder : (s.modOpen n f).recorder = s.recorder := rfl
@[simp] theorem State.modOpen_zst : (s.modOpen n f).zst = s.zst := rfl
@[simp] theorem State.modOpen_oldJobs : (s.modOpen n f).oldJobs = s.oldJobs := rfl
@[simp] theorem State.modOpen_outfs : (s.modOpen n f).outfs = s.outfs := rfl
@[simp] theorem State.modOpen_encs : (s.modOpen n f).encs = s.encs := rfl
@[simp] theorem State.modOpen_dec : (s.modOpen n f).dec = s.dec := rfl
@[simp] theorem State.modOpen_disp : (s.modOpen n f).disp = s.disp := rfl
@[simp] theorem State.modOpen_hbmc : (s.modOpen n f).hbmc = s.hbmc := rfl
@[simp] theorem State.modOpen_hlt : (s.modOpen n f).hlt = s.hlt := rfl
@[simp] theorem State.modOpen_baro : (s.modOpen n f).baro = s.baro := rfl
@[simp] theorem State.modOpen_nv : (s.modOpen n f).nv = s.nv := rfl
@[simp] theorem State.modOpen_ofl : (s.modOpen n f).ofl = s.ofl := rfl
@[simp] theorem State.modOpen_sky : (s.modOpen n f).sky = s.sky := rfl
@[simp] theorem State.modOpen_aud : (s.modOpen n f).aud = s.aud := rfl
@[simp] theorem State.modOpen_lsp : (s.modOpen n f).lsp = s.lsp := rfl
@[simp] theorem State.modOpen_cpr : (s.modOpen n f).cpr = s.cpr := rfl
@[simp] theorem State.modOpen_free : (s.modOpen n f).free = s.free := rfl
@[simp] theorem State.modOpen_rd : (s.modOpen n f).rd rg jx = s.rd rg jx := rfl
@[simp] theorem State.modOpen_get : (s.modOpen n f).get fl jx = s.get fl jx := rfl
@[simp] theorem State.modOpen_flag : (s.modOpen n f).flag fl jx = s.flag fl jx := rfl

end modOpen

section modOutf

variable (s : State) (i : Nat) (f : OutfSt → OutfSt) (fl : Fld) (rg : Reg) (jx : List Nat)

@[simp] theorem State.modOutf_pending : (s.modOutf i f).pending = s.pending := rfl
@[simp] theorem State.modOutf_regs : (s.modOutf i f).regs = s.regs := rfl
@[simp] theorem State.modOutf_mirror : (s.modOutf i f).mirror = s.mirror := rfl
@[simp] theorem State.modOutf_latch : (s.modOutf i f).latch = s.latch := rfl
@[simp] theorem State.modOutf_lowHalf : (s.modOutf i f).lowHalf = s.lowHalf := rfl
@[simp] theorem State.modOutf_host : (s.modOutf i f).host = s.host := rfl
@[simp] theorem State.modOutf_ohost : (s.modOutf i f).ohost = s.ohost := rfl
@[simp] theorem State.modOutf_hbm : (s.modOutf i f).hbm = s.hbm := rfl
@[simp] theorem State.modOutf_undef : (s.modOutf i f).undef = s.undef := rfl
@[simp] theorem State.modOutf_mram : (s.modOutf i f).mram = s.mram := rfl
@[simp] theorem State.modOutf_lut : (s.modOutf i f).lut = s.lut := rfl
@[simp] theorem State.modOutf_lutSet : (s.modOutf i f).lutSet = s.lutSet := rfl
@[simp] theorem State.modOutf_msixTable : (s.modOutf i f).msixTable = s.msixTable := rfl
@[simp] theorem State.modOutf_msixPba : (s.modOutf i f).msixPba = s.msixPba := rfl
@[simp] theorem State.modOutf_msixEnable : (s.modOutf i f).msixEnable = s.msixEnable := rfl
@[simp] theorem State.modOutf_msixMask : (s.modOutf i f).msixMask = s.msixMask := rfl
@[simp] theorem State.modOutf_out : (s.modOutf i f).out = s.out := rfl
@[simp] theorem State.modOutf_raised : (s.modOutf i f).raised = s.raised := rfl
@[simp] theorem State.modOutf_limited : (s.modOutf i f).limited = s.limited := rfl
@[simp] theorem State.modOutf_limitedAt : (s.modOutf i f).limitedAt = s.limitedAt := rfl
@[simp] theorem State.modOutf_sfeFull : (s.modOutf i f).sfeFull = s.sfeFull := rfl
@[simp] theorem State.modOutf_defStores : (s.modOutf i f).defStores = s.defStores := rfl
@[simp] theorem State.modOutf_dests : (s.modOutf i f).dests = s.dests := rfl
@[simp] theorem State.modOutf_disarmed : (s.modOutf i f).disarmed = s.disarmed := rfl
@[simp] theorem State.modOutf_packets : (s.modOutf i f).packets = s.packets := rfl
@[simp] theorem State.modOutf_rings : (s.modOutf i f).rings = s.rings := rfl
@[simp] theorem State.modOutf_nextId : (s.modOutf i f).nextId = s.nextId := rfl
@[simp] theorem State.modOutf_heldReads : (s.modOutf i f).heldReads = s.heldReads := rfl
@[simp] theorem State.modOutf_bulk : (s.modOutf i f).bulk = s.bulk := rfl
@[simp] theorem State.modOutf_promo : (s.modOutf i f).promo = s.promo := rfl
@[simp] theorem State.modOutf_front : (s.modOutf i f).front = s.front := rfl
@[simp] theorem State.modOutf_epochs : (s.modOutf i f).epochs = s.epochs := rfl
@[simp] theorem State.modOutf_patchesOf : (s.modOutf i f).patchesOf = s.patchesOf := rfl
@[simp] theorem State.modOutf_pipes : (s.modOutf i f).pipes = s.pipes := rfl
@[simp] theorem State.modOutf_frames : (s.modOutf i f).frames = s.frames := rfl
@[simp] theorem State.modOutf_graph : (s.modOutf i f).graph = s.graph := rfl
@[simp] theorem State.modOutf_lanes : (s.modOutf i f).lanes = s.lanes := rfl
@[simp] theorem State.modOutf_groups : (s.modOutf i f).groups = s.groups := rfl
@[simp] theorem State.modOutf_streams : (s.modOutf i f).streams = s.streams := rfl
@[simp] theorem State.modOutf_sgs : (s.modOutf i f).sgs = s.sgs := rfl
@[simp] theorem State.modOutf_pss : (s.modOutf i f).pss = s.pss := rfl
@[simp] theorem State.modOutf_caps : (s.modOutf i f).caps = s.caps := rfl
@[simp] theorem State.modOutf_subst : (s.modOutf i f).subst = s.subst := rfl
@[simp] theorem State.modOutf_time : (s.modOutf i f).time = s.time := rfl
@[simp] theorem State.modOutf_drv : (s.modOutf i f).drv = s.drv := rfl
@[simp] theorem State.modOutf_media : (s.modOutf i f).media = s.media := rfl
@[simp] theorem State.modOutf_recorder : (s.modOutf i f).recorder = s.recorder := rfl
@[simp] theorem State.modOutf_zst : (s.modOutf i f).zst = s.zst := rfl
@[simp] theorem State.modOutf_oldJobs : (s.modOutf i f).oldJobs = s.oldJobs := rfl
@[simp] theorem State.modOutf_encs : (s.modOutf i f).encs = s.encs := rfl
@[simp] theorem State.modOutf_dec : (s.modOutf i f).dec = s.dec := rfl
@[simp] theorem State.modOutf_disp : (s.modOutf i f).disp = s.disp := rfl
@[simp] theorem State.modOutf_hbmc : (s.modOutf i f).hbmc = s.hbmc := rfl
@[simp] theorem State.modOutf_hlt : (s.modOutf i f).hlt = s.hlt := rfl
@[simp] theorem State.modOutf_baro : (s.modOutf i f).baro = s.baro := rfl
@[simp] theorem State.modOutf_nv : (s.modOutf i f).nv = s.nv := rfl
@[simp] theorem State.modOutf_ofl : (s.modOutf i f).ofl = s.ofl := rfl
@[simp] theorem State.modOutf_sky : (s.modOutf i f).sky = s.sky := rfl
@[simp] theorem State.modOutf_aud : (s.modOutf i f).aud = s.aud := rfl
@[simp] theorem State.modOutf_lsp : (s.modOutf i f).lsp = s.lsp := rfl
@[simp] theorem State.modOutf_cpr : (s.modOutf i f).cpr = s.cpr := rfl
@[simp] theorem State.modOutf_free : (s.modOutf i f).free = s.free := rfl
@[simp] theorem State.modOutf_rd : (s.modOutf i f).rd rg jx = s.rd rg jx := rfl
@[simp] theorem State.modOutf_get : (s.modOutf i f).get fl jx = s.get fl jx := rfl
@[simp] theorem State.modOutf_flag : (s.modOutf i f).flag fl jx = s.flag fl jx := rfl
@[simp] theorem State.modOutf_outfs : (s.modOutf i f).outfs = modNth s.outfs i f := rfl

end modOutf

section modPipe

variable (s : State) (p : Nat) (f : PipeSt → PipeSt) (fl : Fld) (rg : Reg) (jx : List Nat)

@[simp] theorem State.modPipe_pending : (s.modPipe p f).pending = s.pending := rfl
@[simp] theorem State.modPipe_regs : (s.modPipe p f).regs = s.regs := rfl
@[simp] theorem State.modPipe_mirror : (s.modPipe p f).mirror = s.mirror := rfl
@[simp] theorem State.modPipe_latch : (s.modPipe p f).latch = s.latch := rfl
@[simp] theorem State.modPipe_lowHalf : (s.modPipe p f).lowHalf = s.lowHalf := rfl
@[simp] theorem State.modPipe_host : (s.modPipe p f).host = s.host := rfl
@[simp] theorem State.modPipe_ohost : (s.modPipe p f).ohost = s.ohost := rfl
@[simp] theorem State.modPipe_hbm : (s.modPipe p f).hbm = s.hbm := rfl
@[simp] theorem State.modPipe_undef : (s.modPipe p f).undef = s.undef := rfl
@[simp] theorem State.modPipe_mram : (s.modPipe p f).mram = s.mram := rfl
@[simp] theorem State.modPipe_lut : (s.modPipe p f).lut = s.lut := rfl
@[simp] theorem State.modPipe_lutSet : (s.modPipe p f).lutSet = s.lutSet := rfl
@[simp] theorem State.modPipe_msixTable : (s.modPipe p f).msixTable = s.msixTable := rfl
@[simp] theorem State.modPipe_msixPba : (s.modPipe p f).msixPba = s.msixPba := rfl
@[simp] theorem State.modPipe_msixEnable : (s.modPipe p f).msixEnable = s.msixEnable := rfl
@[simp] theorem State.modPipe_msixMask : (s.modPipe p f).msixMask = s.msixMask := rfl
@[simp] theorem State.modPipe_out : (s.modPipe p f).out = s.out := rfl
@[simp] theorem State.modPipe_raised : (s.modPipe p f).raised = s.raised := rfl
@[simp] theorem State.modPipe_limited : (s.modPipe p f).limited = s.limited := rfl
@[simp] theorem State.modPipe_limitedAt : (s.modPipe p f).limitedAt = s.limitedAt := rfl
@[simp] theorem State.modPipe_sfeFull : (s.modPipe p f).sfeFull = s.sfeFull := rfl
@[simp] theorem State.modPipe_defStores : (s.modPipe p f).defStores = s.defStores := rfl
@[simp] theorem State.modPipe_dests : (s.modPipe p f).dests = s.dests := rfl
@[simp] theorem State.modPipe_disarmed : (s.modPipe p f).disarmed = s.disarmed := rfl
@[simp] theorem State.modPipe_packets : (s.modPipe p f).packets = s.packets := rfl
@[simp] theorem State.modPipe_rings : (s.modPipe p f).rings = s.rings := rfl
@[simp] theorem State.modPipe_nextId : (s.modPipe p f).nextId = s.nextId := rfl
@[simp] theorem State.modPipe_heldReads : (s.modPipe p f).heldReads = s.heldReads := rfl
@[simp] theorem State.modPipe_bulk : (s.modPipe p f).bulk = s.bulk := rfl
@[simp] theorem State.modPipe_promo : (s.modPipe p f).promo = s.promo := rfl
@[simp] theorem State.modPipe_front : (s.modPipe p f).front = s.front := rfl
@[simp] theorem State.modPipe_epochs : (s.modPipe p f).epochs = s.epochs := rfl
@[simp] theorem State.modPipe_patchesOf : (s.modPipe p f).patchesOf = s.patchesOf := rfl
@[simp] theorem State.modPipe_frames : (s.modPipe p f).frames = s.frames := rfl
@[simp] theorem State.modPipe_graph : (s.modPipe p f).graph = s.graph := rfl
@[simp] theorem State.modPipe_lanes : (s.modPipe p f).lanes = s.lanes := rfl
@[simp] theorem State.modPipe_groups : (s.modPipe p f).groups = s.groups := rfl
@[simp] theorem State.modPipe_streams : (s.modPipe p f).streams = s.streams := rfl
@[simp] theorem State.modPipe_sgs : (s.modPipe p f).sgs = s.sgs := rfl
@[simp] theorem State.modPipe_pss : (s.modPipe p f).pss = s.pss := rfl
@[simp] theorem State.modPipe_caps : (s.modPipe p f).caps = s.caps := rfl
@[simp] theorem State.modPipe_subst : (s.modPipe p f).subst = s.subst := rfl
@[simp] theorem State.modPipe_time : (s.modPipe p f).time = s.time := rfl
@[simp] theorem State.modPipe_drv : (s.modPipe p f).drv = s.drv := rfl
@[simp] theorem State.modPipe_media : (s.modPipe p f).media = s.media := rfl
@[simp] theorem State.modPipe_recorder : (s.modPipe p f).recorder = s.recorder := rfl
@[simp] theorem State.modPipe_zst : (s.modPipe p f).zst = s.zst := rfl
@[simp] theorem State.modPipe_oldJobs : (s.modPipe p f).oldJobs = s.oldJobs := rfl
@[simp] theorem State.modPipe_outfs : (s.modPipe p f).outfs = s.outfs := rfl
@[simp] theorem State.modPipe_encs : (s.modPipe p f).encs = s.encs := rfl
@[simp] theorem State.modPipe_dec : (s.modPipe p f).dec = s.dec := rfl
@[simp] theorem State.modPipe_disp : (s.modPipe p f).disp = s.disp := rfl
@[simp] theorem State.modPipe_hbmc : (s.modPipe p f).hbmc = s.hbmc := rfl
@[simp] theorem State.modPipe_hlt : (s.modPipe p f).hlt = s.hlt := rfl
@[simp] theorem State.modPipe_baro : (s.modPipe p f).baro = s.baro := rfl
@[simp] theorem State.modPipe_nv : (s.modPipe p f).nv = s.nv := rfl
@[simp] theorem State.modPipe_ofl : (s.modPipe p f).ofl = s.ofl := rfl
@[simp] theorem State.modPipe_sky : (s.modPipe p f).sky = s.sky := rfl
@[simp] theorem State.modPipe_aud : (s.modPipe p f).aud = s.aud := rfl
@[simp] theorem State.modPipe_lsp : (s.modPipe p f).lsp = s.lsp := rfl
@[simp] theorem State.modPipe_cpr : (s.modPipe p f).cpr = s.cpr := rfl
@[simp] theorem State.modPipe_free : (s.modPipe p f).free = s.free := rfl
@[simp] theorem State.modPipe_rd : (s.modPipe p f).rd rg jx = s.rd rg jx := rfl
@[simp] theorem State.modPipe_get : (s.modPipe p f).get fl jx = s.get fl jx := rfl
@[simp] theorem State.modPipe_flag : (s.modPipe p f).flag fl jx = s.flag fl jx := rfl
@[simp] theorem State.modPipe_pipes : (s.modPipe p f).pipes = modNth s.pipes p f := rfl

end modPipe

section modPort

variable (s : State) (n : Nat) (f : AudPort → AudPort) (fl : Fld) (rg : Reg) (jx : List Nat)

@[simp] theorem State.modPort_pending : (s.modPort n f).pending = s.pending := rfl
@[simp] theorem State.modPort_regs : (s.modPort n f).regs = s.regs := rfl
@[simp] theorem State.modPort_mirror : (s.modPort n f).mirror = s.mirror := rfl
@[simp] theorem State.modPort_latch : (s.modPort n f).latch = s.latch := rfl
@[simp] theorem State.modPort_lowHalf : (s.modPort n f).lowHalf = s.lowHalf := rfl
@[simp] theorem State.modPort_host : (s.modPort n f).host = s.host := rfl
@[simp] theorem State.modPort_ohost : (s.modPort n f).ohost = s.ohost := rfl
@[simp] theorem State.modPort_hbm : (s.modPort n f).hbm = s.hbm := rfl
@[simp] theorem State.modPort_undef : (s.modPort n f).undef = s.undef := rfl
@[simp] theorem State.modPort_mram : (s.modPort n f).mram = s.mram := rfl
@[simp] theorem State.modPort_lut : (s.modPort n f).lut = s.lut := rfl
@[simp] theorem State.modPort_lutSet : (s.modPort n f).lutSet = s.lutSet := rfl
@[simp] theorem State.modPort_msixTable : (s.modPort n f).msixTable = s.msixTable := rfl
@[simp] theorem State.modPort_msixPba : (s.modPort n f).msixPba = s.msixPba := rfl
@[simp] theorem State.modPort_msixEnable : (s.modPort n f).msixEnable = s.msixEnable := rfl
@[simp] theorem State.modPort_msixMask : (s.modPort n f).msixMask = s.msixMask := rfl
@[simp] theorem State.modPort_out : (s.modPort n f).out = s.out := rfl
@[simp] theorem State.modPort_raised : (s.modPort n f).raised = s.raised := rfl
@[simp] theorem State.modPort_limited : (s.modPort n f).limited = s.limited := rfl
@[simp] theorem State.modPort_limitedAt : (s.modPort n f).limitedAt = s.limitedAt := rfl
@[simp] theorem State.modPort_sfeFull : (s.modPort n f).sfeFull = s.sfeFull := rfl
@[simp] theorem State.modPort_defStores : (s.modPort n f).defStores = s.defStores := rfl
@[simp] theorem State.modPort_dests : (s.modPort n f).dests = s.dests := rfl
@[simp] theorem State.modPort_disarmed : (s.modPort n f).disarmed = s.disarmed := rfl
@[simp] theorem State.modPort_packets : (s.modPort n f).packets = s.packets := rfl
@[simp] theorem State.modPort_rings : (s.modPort n f).rings = s.rings := rfl
@[simp] theorem State.modPort_nextId : (s.modPort n f).nextId = s.nextId := rfl
@[simp] theorem State.modPort_heldReads : (s.modPort n f).heldReads = s.heldReads := rfl
@[simp] theorem State.modPort_bulk : (s.modPort n f).bulk = s.bulk := rfl
@[simp] theorem State.modPort_promo : (s.modPort n f).promo = s.promo := rfl
@[simp] theorem State.modPort_front : (s.modPort n f).front = s.front := rfl
@[simp] theorem State.modPort_epochs : (s.modPort n f).epochs = s.epochs := rfl
@[simp] theorem State.modPort_patchesOf : (s.modPort n f).patchesOf = s.patchesOf := rfl
@[simp] theorem State.modPort_pipes : (s.modPort n f).pipes = s.pipes := rfl
@[simp] theorem State.modPort_frames : (s.modPort n f).frames = s.frames := rfl
@[simp] theorem State.modPort_graph : (s.modPort n f).graph = s.graph := rfl
@[simp] theorem State.modPort_lanes : (s.modPort n f).lanes = s.lanes := rfl
@[simp] theorem State.modPort_groups : (s.modPort n f).groups = s.groups := rfl
@[simp] theorem State.modPort_streams : (s.modPort n f).streams = s.streams := rfl
@[simp] theorem State.modPort_sgs : (s.modPort n f).sgs = s.sgs := rfl
@[simp] theorem State.modPort_pss : (s.modPort n f).pss = s.pss := rfl
@[simp] theorem State.modPort_caps : (s.modPort n f).caps = s.caps := rfl
@[simp] theorem State.modPort_subst : (s.modPort n f).subst = s.subst := rfl
@[simp] theorem State.modPort_time : (s.modPort n f).time = s.time := rfl
@[simp] theorem State.modPort_drv : (s.modPort n f).drv = s.drv := rfl
@[simp] theorem State.modPort_media : (s.modPort n f).media = s.media := rfl
@[simp] theorem State.modPort_recorder : (s.modPort n f).recorder = s.recorder := rfl
@[simp] theorem State.modPort_zst : (s.modPort n f).zst = s.zst := rfl
@[simp] theorem State.modPort_oldJobs : (s.modPort n f).oldJobs = s.oldJobs := rfl
@[simp] theorem State.modPort_outfs : (s.modPort n f).outfs = s.outfs := rfl
@[simp] theorem State.modPort_encs : (s.modPort n f).encs = s.encs := rfl
@[simp] theorem State.modPort_dec : (s.modPort n f).dec = s.dec := rfl
@[simp] theorem State.modPort_disp : (s.modPort n f).disp = s.disp := rfl
@[simp] theorem State.modPort_hbmc : (s.modPort n f).hbmc = s.hbmc := rfl
@[simp] theorem State.modPort_hlt : (s.modPort n f).hlt = s.hlt := rfl
@[simp] theorem State.modPort_baro : (s.modPort n f).baro = s.baro := rfl
@[simp] theorem State.modPort_nv : (s.modPort n f).nv = s.nv := rfl
@[simp] theorem State.modPort_ofl : (s.modPort n f).ofl = s.ofl := rfl
@[simp] theorem State.modPort_sky : (s.modPort n f).sky = s.sky := rfl
@[simp] theorem State.modPort_lsp : (s.modPort n f).lsp = s.lsp := rfl
@[simp] theorem State.modPort_cpr : (s.modPort n f).cpr = s.cpr := rfl
@[simp] theorem State.modPort_free : (s.modPort n f).free = s.free := rfl
@[simp] theorem State.modPort_rd : (s.modPort n f).rd rg jx = s.rd rg jx := rfl
@[simp] theorem State.modPort_get : (s.modPort n f).get fl jx = s.get fl jx := rfl
@[simp] theorem State.modPort_flag : (s.modPort n f).flag fl jx = s.flag fl jx := rfl

end modPort

section modPs

variable (s : State) (k : Nat) (f : Gen → Gen) (fl : Fld) (rg : Reg) (jx : List Nat)

@[simp] theorem State.modPs_pending : (s.modPs k f).pending = s.pending := rfl
@[simp] theorem State.modPs_regs : (s.modPs k f).regs = s.regs := rfl
@[simp] theorem State.modPs_mirror : (s.modPs k f).mirror = s.mirror := rfl
@[simp] theorem State.modPs_latch : (s.modPs k f).latch = s.latch := rfl
@[simp] theorem State.modPs_lowHalf : (s.modPs k f).lowHalf = s.lowHalf := rfl
@[simp] theorem State.modPs_host : (s.modPs k f).host = s.host := rfl
@[simp] theorem State.modPs_ohost : (s.modPs k f).ohost = s.ohost := rfl
@[simp] theorem State.modPs_hbm : (s.modPs k f).hbm = s.hbm := rfl
@[simp] theorem State.modPs_undef : (s.modPs k f).undef = s.undef := rfl
@[simp] theorem State.modPs_mram : (s.modPs k f).mram = s.mram := rfl
@[simp] theorem State.modPs_lut : (s.modPs k f).lut = s.lut := rfl
@[simp] theorem State.modPs_lutSet : (s.modPs k f).lutSet = s.lutSet := rfl
@[simp] theorem State.modPs_msixTable : (s.modPs k f).msixTable = s.msixTable := rfl
@[simp] theorem State.modPs_msixPba : (s.modPs k f).msixPba = s.msixPba := rfl
@[simp] theorem State.modPs_msixEnable : (s.modPs k f).msixEnable = s.msixEnable := rfl
@[simp] theorem State.modPs_msixMask : (s.modPs k f).msixMask = s.msixMask := rfl
@[simp] theorem State.modPs_out : (s.modPs k f).out = s.out := rfl
@[simp] theorem State.modPs_raised : (s.modPs k f).raised = s.raised := rfl
@[simp] theorem State.modPs_limited : (s.modPs k f).limited = s.limited := rfl
@[simp] theorem State.modPs_limitedAt : (s.modPs k f).limitedAt = s.limitedAt := rfl
@[simp] theorem State.modPs_sfeFull : (s.modPs k f).sfeFull = s.sfeFull := rfl
@[simp] theorem State.modPs_defStores : (s.modPs k f).defStores = s.defStores := rfl
@[simp] theorem State.modPs_dests : (s.modPs k f).dests = s.dests := rfl
@[simp] theorem State.modPs_disarmed : (s.modPs k f).disarmed = s.disarmed := rfl
@[simp] theorem State.modPs_packets : (s.modPs k f).packets = s.packets := rfl
@[simp] theorem State.modPs_rings : (s.modPs k f).rings = s.rings := rfl
@[simp] theorem State.modPs_nextId : (s.modPs k f).nextId = s.nextId := rfl
@[simp] theorem State.modPs_heldReads : (s.modPs k f).heldReads = s.heldReads := rfl
@[simp] theorem State.modPs_bulk : (s.modPs k f).bulk = s.bulk := rfl
@[simp] theorem State.modPs_promo : (s.modPs k f).promo = s.promo := rfl
@[simp] theorem State.modPs_front : (s.modPs k f).front = s.front := rfl
@[simp] theorem State.modPs_epochs : (s.modPs k f).epochs = s.epochs := rfl
@[simp] theorem State.modPs_patchesOf : (s.modPs k f).patchesOf = s.patchesOf := rfl
@[simp] theorem State.modPs_pipes : (s.modPs k f).pipes = s.pipes := rfl
@[simp] theorem State.modPs_frames : (s.modPs k f).frames = s.frames := rfl
@[simp] theorem State.modPs_graph : (s.modPs k f).graph = s.graph := rfl
@[simp] theorem State.modPs_lanes : (s.modPs k f).lanes = s.lanes := rfl
@[simp] theorem State.modPs_groups : (s.modPs k f).groups = s.groups := rfl
@[simp] theorem State.modPs_streams : (s.modPs k f).streams = s.streams := rfl
@[simp] theorem State.modPs_sgs : (s.modPs k f).sgs = s.sgs := rfl
@[simp] theorem State.modPs_caps : (s.modPs k f).caps = s.caps := rfl
@[simp] theorem State.modPs_subst : (s.modPs k f).subst = s.subst := rfl
@[simp] theorem State.modPs_time : (s.modPs k f).time = s.time := rfl
@[simp] theorem State.modPs_drv : (s.modPs k f).drv = s.drv := rfl
@[simp] theorem State.modPs_media : (s.modPs k f).media = s.media := rfl
@[simp] theorem State.modPs_recorder : (s.modPs k f).recorder = s.recorder := rfl
@[simp] theorem State.modPs_zst : (s.modPs k f).zst = s.zst := rfl
@[simp] theorem State.modPs_oldJobs : (s.modPs k f).oldJobs = s.oldJobs := rfl
@[simp] theorem State.modPs_outfs : (s.modPs k f).outfs = s.outfs := rfl
@[simp] theorem State.modPs_encs : (s.modPs k f).encs = s.encs := rfl
@[simp] theorem State.modPs_dec : (s.modPs k f).dec = s.dec := rfl
@[simp] theorem State.modPs_disp : (s.modPs k f).disp = s.disp := rfl
@[simp] theorem State.modPs_hbmc : (s.modPs k f).hbmc = s.hbmc := rfl
@[simp] theorem State.modPs_hlt : (s.modPs k f).hlt = s.hlt := rfl
@[simp] theorem State.modPs_baro : (s.modPs k f).baro = s.baro := rfl
@[simp] theorem State.modPs_nv : (s.modPs k f).nv = s.nv := rfl
@[simp] theorem State.modPs_ofl : (s.modPs k f).ofl = s.ofl := rfl
@[simp] theorem State.modPs_sky : (s.modPs k f).sky = s.sky := rfl
@[simp] theorem State.modPs_aud : (s.modPs k f).aud = s.aud := rfl
@[simp] theorem State.modPs_lsp : (s.modPs k f).lsp = s.lsp := rfl
@[simp] theorem State.modPs_cpr : (s.modPs k f).cpr = s.cpr := rfl
@[simp] theorem State.modPs_free : (s.modPs k f).free = s.free := rfl
@[simp] theorem State.modPs_rd : (s.modPs k f).rd rg jx = s.rd rg jx := rfl
@[simp] theorem State.modPs_get : (s.modPs k f).get fl jx = s.get fl jx := rfl
@[simp] theorem State.modPs_flag : (s.modPs k f).flag fl jx = s.flag fl jx := rfl
@[simp] theorem State.modPs_pss : (s.modPs k f).pss = modNth s.pss k f := rfl

end modPs

section modRec

variable (s : State) (f : RecSt → RecSt) (fl : Fld) (rg : Reg) (jx : List Nat)

@[simp] theorem State.modRec_pending : (s.modRec f).pending = s.pending := rfl
@[simp] theorem State.modRec_regs : (s.modRec f).regs = s.regs := rfl
@[simp] theorem State.modRec_mirror : (s.modRec f).mirror = s.mirror := rfl
@[simp] theorem State.modRec_latch : (s.modRec f).latch = s.latch := rfl
@[simp] theorem State.modRec_lowHalf : (s.modRec f).lowHalf = s.lowHalf := rfl
@[simp] theorem State.modRec_host : (s.modRec f).host = s.host := rfl
@[simp] theorem State.modRec_ohost : (s.modRec f).ohost = s.ohost := rfl
@[simp] theorem State.modRec_hbm : (s.modRec f).hbm = s.hbm := rfl
@[simp] theorem State.modRec_undef : (s.modRec f).undef = s.undef := rfl
@[simp] theorem State.modRec_mram : (s.modRec f).mram = s.mram := rfl
@[simp] theorem State.modRec_lut : (s.modRec f).lut = s.lut := rfl
@[simp] theorem State.modRec_lutSet : (s.modRec f).lutSet = s.lutSet := rfl
@[simp] theorem State.modRec_msixTable : (s.modRec f).msixTable = s.msixTable := rfl
@[simp] theorem State.modRec_msixPba : (s.modRec f).msixPba = s.msixPba := rfl
@[simp] theorem State.modRec_msixEnable : (s.modRec f).msixEnable = s.msixEnable := rfl
@[simp] theorem State.modRec_msixMask : (s.modRec f).msixMask = s.msixMask := rfl
@[simp] theorem State.modRec_out : (s.modRec f).out = s.out := rfl
@[simp] theorem State.modRec_raised : (s.modRec f).raised = s.raised := rfl
@[simp] theorem State.modRec_limited : (s.modRec f).limited = s.limited := rfl
@[simp] theorem State.modRec_limitedAt : (s.modRec f).limitedAt = s.limitedAt := rfl
@[simp] theorem State.modRec_sfeFull : (s.modRec f).sfeFull = s.sfeFull := rfl
@[simp] theorem State.modRec_defStores : (s.modRec f).defStores = s.defStores := rfl
@[simp] theorem State.modRec_dests : (s.modRec f).dests = s.dests := rfl
@[simp] theorem State.modRec_disarmed : (s.modRec f).disarmed = s.disarmed := rfl
@[simp] theorem State.modRec_packets : (s.modRec f).packets = s.packets := rfl
@[simp] theorem State.modRec_rings : (s.modRec f).rings = s.rings := rfl
@[simp] theorem State.modRec_nextId : (s.modRec f).nextId = s.nextId := rfl
@[simp] theorem State.modRec_heldReads : (s.modRec f).heldReads = s.heldReads := rfl
@[simp] theorem State.modRec_bulk : (s.modRec f).bulk = s.bulk := rfl
@[simp] theorem State.modRec_promo : (s.modRec f).promo = s.promo := rfl
@[simp] theorem State.modRec_front : (s.modRec f).front = s.front := rfl
@[simp] theorem State.modRec_epochs : (s.modRec f).epochs = s.epochs := rfl
@[simp] theorem State.modRec_patchesOf : (s.modRec f).patchesOf = s.patchesOf := rfl
@[simp] theorem State.modRec_pipes : (s.modRec f).pipes = s.pipes := rfl
@[simp] theorem State.modRec_frames : (s.modRec f).frames = s.frames := rfl
@[simp] theorem State.modRec_graph : (s.modRec f).graph = s.graph := rfl
@[simp] theorem State.modRec_lanes : (s.modRec f).lanes = s.lanes := rfl
@[simp] theorem State.modRec_groups : (s.modRec f).groups = s.groups := rfl
@[simp] theorem State.modRec_streams : (s.modRec f).streams = s.streams := rfl
@[simp] theorem State.modRec_sgs : (s.modRec f).sgs = s.sgs := rfl
@[simp] theorem State.modRec_pss : (s.modRec f).pss = s.pss := rfl
@[simp] theorem State.modRec_caps : (s.modRec f).caps = s.caps := rfl
@[simp] theorem State.modRec_subst : (s.modRec f).subst = s.subst := rfl
@[simp] theorem State.modRec_time : (s.modRec f).time = s.time := rfl
@[simp] theorem State.modRec_drv : (s.modRec f).drv = s.drv := rfl
@[simp] theorem State.modRec_media : (s.modRec f).media = s.media := rfl
@[simp] theorem State.modRec_zst : (s.modRec f).zst = s.zst := rfl
@[simp] theorem State.modRec_oldJobs : (s.modRec f).oldJobs = s.oldJobs := rfl
@[simp] theorem State.modRec_outfs : (s.modRec f).outfs = s.outfs := rfl
@[simp] theorem State.modRec_encs : (s.modRec f).encs = s.encs := rfl
@[simp] theorem State.modRec_dec : (s.modRec f).dec = s.dec := rfl
@[simp] theorem State.modRec_disp : (s.modRec f).disp = s.disp := rfl
@[simp] theorem State.modRec_hbmc : (s.modRec f).hbmc = s.hbmc := rfl
@[simp] theorem State.modRec_hlt : (s.modRec f).hlt = s.hlt := rfl
@[simp] theorem State.modRec_baro : (s.modRec f).baro = s.baro := rfl
@[simp] theorem State.modRec_nv : (s.modRec f).nv = s.nv := rfl
@[simp] theorem State.modRec_ofl : (s.modRec f).ofl = s.ofl := rfl
@[simp] theorem State.modRec_sky : (s.modRec f).sky = s.sky := rfl
@[simp] theorem State.modRec_aud : (s.modRec f).aud = s.aud := rfl
@[simp] theorem State.modRec_lsp : (s.modRec f).lsp = s.lsp := rfl
@[simp] theorem State.modRec_cpr : (s.modRec f).cpr = s.cpr := rfl
@[simp] theorem State.modRec_free : (s.modRec f).free = s.free := rfl
@[simp] theorem State.modRec_rd : (s.modRec f).rd rg jx = s.rd rg jx := rfl
@[simp] theorem State.modRec_get : (s.modRec f).get fl jx = s.get fl jx := rfl
@[simp] theorem State.modRec_flag : (s.modRec f).flag fl jx = s.flag fl jx := rfl
@[simp] theorem State.modRec_recorder : (s.modRec f).recorder = f s.recorder := rfl

end modRec

section modRing

variable (s : State) (r : Nat) (f : Ring → Ring) (fl : Fld) (rg : Reg) (jx : List Nat)

@[simp] theorem State.modRing_pending : (s.modRing r f).pending = s.pending := rfl
@[simp] theorem State.modRing_regs : (s.modRing r f).regs = s.regs := rfl
@[simp] theorem State.modRing_mirror : (s.modRing r f).mirror = s.mirror := rfl
@[simp] theorem State.modRing_latch : (s.modRing r f).latch = s.latch := rfl
@[simp] theorem State.modRing_lowHalf : (s.modRing r f).lowHalf = s.lowHalf := rfl
@[simp] theorem State.modRing_host : (s.modRing r f).host = s.host := rfl
@[simp] theorem State.modRing_ohost : (s.modRing r f).ohost = s.ohost := rfl
@[simp] theorem State.modRing_hbm : (s.modRing r f).hbm = s.hbm := rfl
@[simp] theorem State.modRing_undef : (s.modRing r f).undef = s.undef := rfl
@[simp] theorem State.modRing_mram : (s.modRing r f).mram = s.mram := rfl
@[simp] theorem State.modRing_lut : (s.modRing r f).lut = s.lut := rfl
@[simp] theorem State.modRing_lutSet : (s.modRing r f).lutSet = s.lutSet := rfl
@[simp] theorem State.modRing_msixTable : (s.modRing r f).msixTable = s.msixTable := rfl
@[simp] theorem State.modRing_msixPba : (s.modRing r f).msixPba = s.msixPba := rfl
@[simp] theorem State.modRing_msixEnable : (s.modRing r f).msixEnable = s.msixEnable := rfl
@[simp] theorem State.modRing_msixMask : (s.modRing r f).msixMask = s.msixMask := rfl
@[simp] theorem State.modRing_out : (s.modRing r f).out = s.out := rfl
@[simp] theorem State.modRing_raised : (s.modRing r f).raised = s.raised := rfl
@[simp] theorem State.modRing_limited : (s.modRing r f).limited = s.limited := rfl
@[simp] theorem State.modRing_limitedAt : (s.modRing r f).limitedAt = s.limitedAt := rfl
@[simp] theorem State.modRing_sfeFull : (s.modRing r f).sfeFull = s.sfeFull := rfl
@[simp] theorem State.modRing_defStores : (s.modRing r f).defStores = s.defStores := rfl
@[simp] theorem State.modRing_dests : (s.modRing r f).dests = s.dests := rfl
@[simp] theorem State.modRing_disarmed : (s.modRing r f).disarmed = s.disarmed := rfl
@[simp] theorem State.modRing_packets : (s.modRing r f).packets = s.packets := rfl
@[simp] theorem State.modRing_nextId : (s.modRing r f).nextId = s.nextId := rfl
@[simp] theorem State.modRing_heldReads : (s.modRing r f).heldReads = s.heldReads := rfl
@[simp] theorem State.modRing_bulk : (s.modRing r f).bulk = s.bulk := rfl
@[simp] theorem State.modRing_promo : (s.modRing r f).promo = s.promo := rfl
@[simp] theorem State.modRing_front : (s.modRing r f).front = s.front := rfl
@[simp] theorem State.modRing_epochs : (s.modRing r f).epochs = s.epochs := rfl
@[simp] theorem State.modRing_patchesOf : (s.modRing r f).patchesOf = s.patchesOf := rfl
@[simp] theorem State.modRing_pipes : (s.modRing r f).pipes = s.pipes := rfl
@[simp] theorem State.modRing_frames : (s.modRing r f).frames = s.frames := rfl
@[simp] theorem State.modRing_graph : (s.modRing r f).graph = s.graph := rfl
@[simp] theorem State.modRing_lanes : (s.modRing r f).lanes = s.lanes := rfl
@[simp] theorem State.modRing_groups : (s.modRing r f).groups = s.groups := rfl
@[simp] theorem State.modRing_streams : (s.modRing r f).streams = s.streams := rfl
@[simp] theorem State.modRing_sgs : (s.modRing r f).sgs = s.sgs := rfl
@[simp] theorem State.modRing_pss : (s.modRing r f).pss = s.pss := rfl
@[simp] theorem State.modRing_caps : (s.modRing r f).caps = s.caps := rfl
@[simp] theorem State.modRing_subst : (s.modRing r f).subst = s.subst := rfl
@[simp] theorem State.modRing_time : (s.modRing r f).time = s.time := rfl
@[simp] theorem State.modRing_drv : (s.modRing r f).drv = s.drv := rfl
@[simp] theorem State.modRing_media : (s.modRing r f).media = s.media := rfl
@[simp] theorem State.modRing_recorder : (s.modRing r f).recorder = s.recorder := rfl
@[simp] theorem State.modRing_zst : (s.modRing r f).zst = s.zst := rfl
@[simp] theorem State.modRing_oldJobs : (s.modRing r f).oldJobs = s.oldJobs := rfl
@[simp] theorem State.modRing_outfs : (s.modRing r f).outfs = s.outfs := rfl
@[simp] theorem State.modRing_encs : (s.modRing r f).encs = s.encs := rfl
@[simp] theorem State.modRing_dec : (s.modRing r f).dec = s.dec := rfl
@[simp] theorem State.modRing_disp : (s.modRing r f).disp = s.disp := rfl
@[simp] theorem State.modRing_hbmc : (s.modRing r f).hbmc = s.hbmc := rfl
@[simp] theorem State.modRing_hlt : (s.modRing r f).hlt = s.hlt := rfl
@[simp] theorem State.modRing_baro : (s.modRing r f).baro = s.baro := rfl
@[simp] theorem State.modRing_nv : (s.modRing r f).nv = s.nv := rfl
@[simp] theorem State.modRing_ofl : (s.modRing r f).ofl = s.ofl := rfl
@[simp] theorem State.modRing_sky : (s.modRing r f).sky = s.sky := rfl
@[simp] theorem State.modRing_aud : (s.modRing r f).aud = s.aud := rfl
@[simp] theorem State.modRing_lsp : (s.modRing r f).lsp = s.lsp := rfl
@[simp] theorem State.modRing_cpr : (s.modRing r f).cpr = s.cpr := rfl
@[simp] theorem State.modRing_free : (s.modRing r f).free = s.free := rfl
@[simp] theorem State.modRing_rd : (s.modRing r f).rd rg jx = s.rd rg jx := rfl
@[simp] theorem State.modRing_get : (s.modRing r f).get fl jx = s.get fl jx := rfl
@[simp] theorem State.modRing_flag : (s.modRing r f).flag fl jx = s.flag fl jx := rfl
@[simp] theorem State.modRing_rings : (s.modRing r f).rings = modNth s.rings r f := rfl

end modRing

section modSeg

variable (s : State) (p k : Nat) (f : Seg → Seg) (fl : Fld) (rg : Reg) (jx : List Nat)

@[simp] theorem State.modSeg_pending : (s.modSeg p k f).pending = s.pending := rfl
@[simp] theorem State.modSeg_regs : (s.modSeg p k f).regs = s.regs := rfl
@[simp] theorem State.modSeg_mirror : (s.modSeg p k f).mirror = s.mirror := rfl
@[simp] theorem State.modSeg_latch : (s.modSeg p k f).latch = s.latch := rfl
@[simp] theorem State.modSeg_lowHalf : (s.modSeg p k f).lowHalf = s.lowHalf := rfl
@[simp] theorem State.modSeg_host : (s.modSeg p k f).host = s.host := rfl
@[simp] theorem State.modSeg_ohost : (s.modSeg p k f).ohost = s.ohost := rfl
@[simp] theorem State.modSeg_hbm : (s.modSeg p k f).hbm = s.hbm := rfl
@[simp] theorem State.modSeg_undef : (s.modSeg p k f).undef = s.undef := rfl
@[simp] theorem State.modSeg_mram : (s.modSeg p k f).mram = s.mram := rfl
@[simp] theorem State.modSeg_lut : (s.modSeg p k f).lut = s.lut := rfl
@[simp] theorem State.modSeg_lutSet : (s.modSeg p k f).lutSet = s.lutSet := rfl
@[simp] theorem State.modSeg_msixTable : (s.modSeg p k f).msixTable = s.msixTable := rfl
@[simp] theorem State.modSeg_msixPba : (s.modSeg p k f).msixPba = s.msixPba := rfl
@[simp] theorem State.modSeg_msixEnable : (s.modSeg p k f).msixEnable = s.msixEnable := rfl
@[simp] theorem State.modSeg_msixMask : (s.modSeg p k f).msixMask = s.msixMask := rfl
@[simp] theorem State.modSeg_out : (s.modSeg p k f).out = s.out := rfl
@[simp] theorem State.modSeg_raised : (s.modSeg p k f).raised = s.raised := rfl
@[simp] theorem State.modSeg_limited : (s.modSeg p k f).limited = s.limited := rfl
@[simp] theorem State.modSeg_limitedAt : (s.modSeg p k f).limitedAt = s.limitedAt := rfl
@[simp] theorem State.modSeg_sfeFull : (s.modSeg p k f).sfeFull = s.sfeFull := rfl
@[simp] theorem State.modSeg_defStores : (s.modSeg p k f).defStores = s.defStores := rfl
@[simp] theorem State.modSeg_dests : (s.modSeg p k f).dests = s.dests := rfl
@[simp] theorem State.modSeg_disarmed : (s.modSeg p k f).disarmed = s.disarmed := rfl
@[simp] theorem State.modSeg_packets : (s.modSeg p k f).packets = s.packets := rfl
@[simp] theorem State.modSeg_rings : (s.modSeg p k f).rings = s.rings := rfl
@[simp] theorem State.modSeg_nextId : (s.modSeg p k f).nextId = s.nextId := rfl
@[simp] theorem State.modSeg_heldReads : (s.modSeg p k f).heldReads = s.heldReads := rfl
@[simp] theorem State.modSeg_bulk : (s.modSeg p k f).bulk = s.bulk := rfl
@[simp] theorem State.modSeg_promo : (s.modSeg p k f).promo = s.promo := rfl
@[simp] theorem State.modSeg_front : (s.modSeg p k f).front = s.front := rfl
@[simp] theorem State.modSeg_epochs : (s.modSeg p k f).epochs = s.epochs := rfl
@[simp] theorem State.modSeg_patchesOf : (s.modSeg p k f).patchesOf = s.patchesOf := rfl
@[simp] theorem State.modSeg_pipes : (s.modSeg p k f).pipes = s.pipes := rfl
@[simp] theorem State.modSeg_frames : (s.modSeg p k f).frames = s.frames := rfl
@[simp] theorem State.modSeg_graph : (s.modSeg p k f).graph = s.graph := rfl
@[simp] theorem State.modSeg_lanes : (s.modSeg p k f).lanes = s.lanes := rfl
@[simp] theorem State.modSeg_groups : (s.modSeg p k f).groups = s.groups := rfl
@[simp] theorem State.modSeg_streams : (s.modSeg p k f).streams = s.streams := rfl
@[simp] theorem State.modSeg_sgs : (s.modSeg p k f).sgs = s.sgs := rfl
@[simp] theorem State.modSeg_pss : (s.modSeg p k f).pss = s.pss := rfl
@[simp] theorem State.modSeg_subst : (s.modSeg p k f).subst = s.subst := rfl
@[simp] theorem State.modSeg_time : (s.modSeg p k f).time = s.time := rfl
@[simp] theorem State.modSeg_drv : (s.modSeg p k f).drv = s.drv := rfl
@[simp] theorem State.modSeg_media : (s.modSeg p k f).media = s.media := rfl
@[simp] theorem State.modSeg_recorder : (s.modSeg p k f).recorder = s.recorder := rfl
@[simp] theorem State.modSeg_zst : (s.modSeg p k f).zst = s.zst := rfl
@[simp] theorem State.modSeg_oldJobs : (s.modSeg p k f).oldJobs = s.oldJobs := rfl
@[simp] theorem State.modSeg_outfs : (s.modSeg p k f).outfs = s.outfs := rfl
@[simp] theorem State.modSeg_encs : (s.modSeg p k f).encs = s.encs := rfl
@[simp] theorem State.modSeg_dec : (s.modSeg p k f).dec = s.dec := rfl
@[simp] theorem State.modSeg_disp : (s.modSeg p k f).disp = s.disp := rfl
@[simp] theorem State.modSeg_hbmc : (s.modSeg p k f).hbmc = s.hbmc := rfl
@[simp] theorem State.modSeg_hlt : (s.modSeg p k f).hlt = s.hlt := rfl
@[simp] theorem State.modSeg_baro : (s.modSeg p k f).baro = s.baro := rfl
@[simp] theorem State.modSeg_nv : (s.modSeg p k f).nv = s.nv := rfl
@[simp] theorem State.modSeg_ofl : (s.modSeg p k f).ofl = s.ofl := rfl
@[simp] theorem State.modSeg_sky : (s.modSeg p k f).sky = s.sky := rfl
@[simp] theorem State.modSeg_aud : (s.modSeg p k f).aud = s.aud := rfl
@[simp] theorem State.modSeg_lsp : (s.modSeg p k f).lsp = s.lsp := rfl
@[simp] theorem State.modSeg_cpr : (s.modSeg p k f).cpr = s.cpr := rfl
@[simp] theorem State.modSeg_free : (s.modSeg p k f).free = s.free := rfl
@[simp] theorem State.modSeg_rd : (s.modSeg p k f).rd rg jx = s.rd rg jx := rfl
@[simp] theorem State.modSeg_get : (s.modSeg p k f).get fl jx = s.get fl jx := rfl
@[simp] theorem State.modSeg_flag : (s.modSeg p k f).flag fl jx = s.flag fl jx := rfl

end modSeg

section modSg

variable (s : State) (g : Nat) (f : Gen → Gen) (fl : Fld) (rg : Reg) (jx : List Nat)

@[simp] theorem State.modSg_pending : (s.modSg g f).pending = s.pending := rfl
@[simp] theorem State.modSg_regs : (s.modSg g f).regs = s.regs := rfl
@[simp] theorem State.modSg_mirror : (s.modSg g f).mirror = s.mirror := rfl
@[simp] theorem State.modSg_latch : (s.modSg g f).latch = s.latch := rfl
@[simp] theorem State.modSg_lowHalf : (s.modSg g f).lowHalf = s.lowHalf := rfl
@[simp] theorem State.modSg_host : (s.modSg g f).host = s.host := rfl
@[simp] theorem State.modSg_ohost : (s.modSg g f).ohost = s.ohost := rfl
@[simp] theorem State.modSg_hbm : (s.modSg g f).hbm = s.hbm := rfl
@[simp] theorem State.modSg_undef : (s.modSg g f).undef = s.undef := rfl
@[simp] theorem State.modSg_mram : (s.modSg g f).mram = s.mram := rfl
@[simp] theorem State.modSg_lut : (s.modSg g f).lut = s.lut := rfl
@[simp] theorem State.modSg_lutSet : (s.modSg g f).lutSet = s.lutSet := rfl
@[simp] theorem State.modSg_msixTable : (s.modSg g f).msixTable = s.msixTable := rfl
@[simp] theorem State.modSg_msixPba : (s.modSg g f).msixPba = s.msixPba := rfl
@[simp] theorem State.modSg_msixEnable : (s.modSg g f).msixEnable = s.msixEnable := rfl
@[simp] theorem State.modSg_msixMask : (s.modSg g f).msixMask = s.msixMask := rfl
@[simp] theorem State.modSg_out : (s.modSg g f).out = s.out := rfl
@[simp] theorem State.modSg_raised : (s.modSg g f).raised = s.raised := rfl
@[simp] theorem State.modSg_limited : (s.modSg g f).limited = s.limited := rfl
@[simp] theorem State.modSg_limitedAt : (s.modSg g f).limitedAt = s.limitedAt := rfl
@[simp] theorem State.modSg_sfeFull : (s.modSg g f).sfeFull = s.sfeFull := rfl
@[simp] theorem State.modSg_defStores : (s.modSg g f).defStores = s.defStores := rfl
@[simp] theorem State.modSg_dests : (s.modSg g f).dests = s.dests := rfl
@[simp] theorem State.modSg_disarmed : (s.modSg g f).disarmed = s.disarmed := rfl
@[simp] theorem State.modSg_packets : (s.modSg g f).packets = s.packets := rfl
@[simp] theorem State.modSg_rings : (s.modSg g f).rings = s.rings := rfl
@[simp] theorem State.modSg_nextId : (s.modSg g f).nextId = s.nextId := rfl
@[simp] theorem State.modSg_heldReads : (s.modSg g f).heldReads = s.heldReads := rfl
@[simp] theorem State.modSg_bulk : (s.modSg g f).bulk = s.bulk := rfl
@[simp] theorem State.modSg_promo : (s.modSg g f).promo = s.promo := rfl
@[simp] theorem State.modSg_front : (s.modSg g f).front = s.front := rfl
@[simp] theorem State.modSg_epochs : (s.modSg g f).epochs = s.epochs := rfl
@[simp] theorem State.modSg_patchesOf : (s.modSg g f).patchesOf = s.patchesOf := rfl
@[simp] theorem State.modSg_pipes : (s.modSg g f).pipes = s.pipes := rfl
@[simp] theorem State.modSg_frames : (s.modSg g f).frames = s.frames := rfl
@[simp] theorem State.modSg_graph : (s.modSg g f).graph = s.graph := rfl
@[simp] theorem State.modSg_lanes : (s.modSg g f).lanes = s.lanes := rfl
@[simp] theorem State.modSg_groups : (s.modSg g f).groups = s.groups := rfl
@[simp] theorem State.modSg_streams : (s.modSg g f).streams = s.streams := rfl
@[simp] theorem State.modSg_pss : (s.modSg g f).pss = s.pss := rfl
@[simp] theorem State.modSg_caps : (s.modSg g f).caps = s.caps := rfl
@[simp] theorem State.modSg_subst : (s.modSg g f).subst = s.subst := rfl
@[simp] theorem State.modSg_time : (s.modSg g f).time = s.time := rfl
@[simp] theorem State.modSg_drv : (s.modSg g f).drv = s.drv := rfl
@[simp] theorem State.modSg_media : (s.modSg g f).media = s.media := rfl
@[simp] theorem State.modSg_recorder : (s.modSg g f).recorder = s.recorder := rfl
@[simp] theorem State.modSg_zst : (s.modSg g f).zst = s.zst := rfl
@[simp] theorem State.modSg_oldJobs : (s.modSg g f).oldJobs = s.oldJobs := rfl
@[simp] theorem State.modSg_outfs : (s.modSg g f).outfs = s.outfs := rfl
@[simp] theorem State.modSg_encs : (s.modSg g f).encs = s.encs := rfl
@[simp] theorem State.modSg_dec : (s.modSg g f).dec = s.dec := rfl
@[simp] theorem State.modSg_disp : (s.modSg g f).disp = s.disp := rfl
@[simp] theorem State.modSg_hbmc : (s.modSg g f).hbmc = s.hbmc := rfl
@[simp] theorem State.modSg_hlt : (s.modSg g f).hlt = s.hlt := rfl
@[simp] theorem State.modSg_baro : (s.modSg g f).baro = s.baro := rfl
@[simp] theorem State.modSg_nv : (s.modSg g f).nv = s.nv := rfl
@[simp] theorem State.modSg_ofl : (s.modSg g f).ofl = s.ofl := rfl
@[simp] theorem State.modSg_sky : (s.modSg g f).sky = s.sky := rfl
@[simp] theorem State.modSg_aud : (s.modSg g f).aud = s.aud := rfl
@[simp] theorem State.modSg_lsp : (s.modSg g f).lsp = s.lsp := rfl
@[simp] theorem State.modSg_cpr : (s.modSg g f).cpr = s.cpr := rfl
@[simp] theorem State.modSg_free : (s.modSg g f).free = s.free := rfl
@[simp] theorem State.modSg_rd : (s.modSg g f).rd rg jx = s.rd rg jx := rfl
@[simp] theorem State.modSg_get : (s.modSg g f).get fl jx = s.get fl jx := rfl
@[simp] theorem State.modSg_flag : (s.modSg g f).flag fl jx = s.flag fl jx := rfl
@[simp] theorem State.modSg_sgs : (s.modSg g f).sgs = modNth s.sgs g f := rfl

end modSg

section modSky

variable (s : State) (f : SkySt → SkySt) (fl : Fld) (rg : Reg) (jx : List Nat)

@[simp] theorem State.modSky_pending : (s.modSky f).pending = s.pending := rfl
@[simp] theorem State.modSky_regs : (s.modSky f).regs = s.regs := rfl
@[simp] theorem State.modSky_mirror : (s.modSky f).mirror = s.mirror := rfl
@[simp] theorem State.modSky_latch : (s.modSky f).latch = s.latch := rfl
@[simp] theorem State.modSky_lowHalf : (s.modSky f).lowHalf = s.lowHalf := rfl
@[simp] theorem State.modSky_host : (s.modSky f).host = s.host := rfl
@[simp] theorem State.modSky_ohost : (s.modSky f).ohost = s.ohost := rfl
@[simp] theorem State.modSky_hbm : (s.modSky f).hbm = s.hbm := rfl
@[simp] theorem State.modSky_undef : (s.modSky f).undef = s.undef := rfl
@[simp] theorem State.modSky_mram : (s.modSky f).mram = s.mram := rfl
@[simp] theorem State.modSky_lut : (s.modSky f).lut = s.lut := rfl
@[simp] theorem State.modSky_lutSet : (s.modSky f).lutSet = s.lutSet := rfl
@[simp] theorem State.modSky_msixTable : (s.modSky f).msixTable = s.msixTable := rfl
@[simp] theorem State.modSky_msixPba : (s.modSky f).msixPba = s.msixPba := rfl
@[simp] theorem State.modSky_msixEnable : (s.modSky f).msixEnable = s.msixEnable := rfl
@[simp] theorem State.modSky_msixMask : (s.modSky f).msixMask = s.msixMask := rfl
@[simp] theorem State.modSky_out : (s.modSky f).out = s.out := rfl
@[simp] theorem State.modSky_raised : (s.modSky f).raised = s.raised := rfl
@[simp] theorem State.modSky_limited : (s.modSky f).limited = s.limited := rfl
@[simp] theorem State.modSky_limitedAt : (s.modSky f).limitedAt = s.limitedAt := rfl
@[simp] theorem State.modSky_sfeFull : (s.modSky f).sfeFull = s.sfeFull := rfl
@[simp] theorem State.modSky_defStores : (s.modSky f).defStores = s.defStores := rfl
@[simp] theorem State.modSky_dests : (s.modSky f).dests = s.dests := rfl
@[simp] theorem State.modSky_disarmed : (s.modSky f).disarmed = s.disarmed := rfl
@[simp] theorem State.modSky_packets : (s.modSky f).packets = s.packets := rfl
@[simp] theorem State.modSky_rings : (s.modSky f).rings = s.rings := rfl
@[simp] theorem State.modSky_nextId : (s.modSky f).nextId = s.nextId := rfl
@[simp] theorem State.modSky_heldReads : (s.modSky f).heldReads = s.heldReads := rfl
@[simp] theorem State.modSky_bulk : (s.modSky f).bulk = s.bulk := rfl
@[simp] theorem State.modSky_promo : (s.modSky f).promo = s.promo := rfl
@[simp] theorem State.modSky_front : (s.modSky f).front = s.front := rfl
@[simp] theorem State.modSky_epochs : (s.modSky f).epochs = s.epochs := rfl
@[simp] theorem State.modSky_patchesOf : (s.modSky f).patchesOf = s.patchesOf := rfl
@[simp] theorem State.modSky_pipes : (s.modSky f).pipes = s.pipes := rfl
@[simp] theorem State.modSky_frames : (s.modSky f).frames = s.frames := rfl
@[simp] theorem State.modSky_graph : (s.modSky f).graph = s.graph := rfl
@[simp] theorem State.modSky_lanes : (s.modSky f).lanes = s.lanes := rfl
@[simp] theorem State.modSky_groups : (s.modSky f).groups = s.groups := rfl
@[simp] theorem State.modSky_streams : (s.modSky f).streams = s.streams := rfl
@[simp] theorem State.modSky_sgs : (s.modSky f).sgs = s.sgs := rfl
@[simp] theorem State.modSky_pss : (s.modSky f).pss = s.pss := rfl
@[simp] theorem State.modSky_caps : (s.modSky f).caps = s.caps := rfl
@[simp] theorem State.modSky_subst : (s.modSky f).subst = s.subst := rfl
@[simp] theorem State.modSky_time : (s.modSky f).time = s.time := rfl
@[simp] theorem State.modSky_drv : (s.modSky f).drv = s.drv := rfl
@[simp] theorem State.modSky_media : (s.modSky f).media = s.media := rfl
@[simp] theorem State.modSky_recorder : (s.modSky f).recorder = s.recorder := rfl
@[simp] theorem State.modSky_zst : (s.modSky f).zst = s.zst := rfl
@[simp] theorem State.modSky_oldJobs : (s.modSky f).oldJobs = s.oldJobs := rfl
@[simp] theorem State.modSky_outfs : (s.modSky f).outfs = s.outfs := rfl
@[simp] theorem State.modSky_encs : (s.modSky f).encs = s.encs := rfl
@[simp] theorem State.modSky_dec : (s.modSky f).dec = s.dec := rfl
@[simp] theorem State.modSky_disp : (s.modSky f).disp = s.disp := rfl
@[simp] theorem State.modSky_hbmc : (s.modSky f).hbmc = s.hbmc := rfl
@[simp] theorem State.modSky_hlt : (s.modSky f).hlt = s.hlt := rfl
@[simp] theorem State.modSky_baro : (s.modSky f).baro = s.baro := rfl
@[simp] theorem State.modSky_nv : (s.modSky f).nv = s.nv := rfl
@[simp] theorem State.modSky_ofl : (s.modSky f).ofl = s.ofl := rfl
@[simp] theorem State.modSky_aud : (s.modSky f).aud = s.aud := rfl
@[simp] theorem State.modSky_lsp : (s.modSky f).lsp = s.lsp := rfl
@[simp] theorem State.modSky_cpr : (s.modSky f).cpr = s.cpr := rfl
@[simp] theorem State.modSky_free : (s.modSky f).free = s.free := rfl
@[simp] theorem State.modSky_rd : (s.modSky f).rd rg jx = s.rd rg jx := rfl
@[simp] theorem State.modSky_get : (s.modSky f).get fl jx = s.get fl jx := rfl
@[simp] theorem State.modSky_flag : (s.modSky f).flag fl jx = s.flag fl jx := rfl
@[simp] theorem State.modSky_sky : (s.modSky f).sky = f s.sky := rfl

end modSky

section modSpi

variable (s : State) (c : Nat) (f : SpiSt → SpiSt) (fl : Fld) (rg : Reg) (jx : List Nat)

@[simp] theorem State.modSpi_pending : (s.modSpi c f).pending = s.pending := rfl
@[simp] theorem State.modSpi_regs : (s.modSpi c f).regs = s.regs := rfl
@[simp] theorem State.modSpi_mirror : (s.modSpi c f).mirror = s.mirror := rfl
@[simp] theorem State.modSpi_latch : (s.modSpi c f).latch = s.latch := rfl
@[simp] theorem State.modSpi_lowHalf : (s.modSpi c f).lowHalf = s.lowHalf := rfl
@[simp] theorem State.modSpi_host : (s.modSpi c f).host = s.host := rfl
@[simp] theorem State.modSpi_ohost : (s.modSpi c f).ohost = s.ohost := rfl
@[simp] theorem State.modSpi_hbm : (s.modSpi c f).hbm = s.hbm := rfl
@[simp] theorem State.modSpi_undef : (s.modSpi c f).undef = s.undef := rfl
@[simp] theorem State.modSpi_mram : (s.modSpi c f).mram = s.mram := rfl
@[simp] theorem State.modSpi_lut : (s.modSpi c f).lut = s.lut := rfl
@[simp] theorem State.modSpi_lutSet : (s.modSpi c f).lutSet = s.lutSet := rfl
@[simp] theorem State.modSpi_msixTable : (s.modSpi c f).msixTable = s.msixTable := rfl
@[simp] theorem State.modSpi_msixPba : (s.modSpi c f).msixPba = s.msixPba := rfl
@[simp] theorem State.modSpi_msixEnable : (s.modSpi c f).msixEnable = s.msixEnable := rfl
@[simp] theorem State.modSpi_msixMask : (s.modSpi c f).msixMask = s.msixMask := rfl
@[simp] theorem State.modSpi_out : (s.modSpi c f).out = s.out := rfl
@[simp] theorem State.modSpi_raised : (s.modSpi c f).raised = s.raised := rfl
@[simp] theorem State.modSpi_limited : (s.modSpi c f).limited = s.limited := rfl
@[simp] theorem State.modSpi_limitedAt : (s.modSpi c f).limitedAt = s.limitedAt := rfl
@[simp] theorem State.modSpi_sfeFull : (s.modSpi c f).sfeFull = s.sfeFull := rfl
@[simp] theorem State.modSpi_defStores : (s.modSpi c f).defStores = s.defStores := rfl
@[simp] theorem State.modSpi_dests : (s.modSpi c f).dests = s.dests := rfl
@[simp] theorem State.modSpi_disarmed : (s.modSpi c f).disarmed = s.disarmed := rfl
@[simp] theorem State.modSpi_packets : (s.modSpi c f).packets = s.packets := rfl
@[simp] theorem State.modSpi_rings : (s.modSpi c f).rings = s.rings := rfl
@[simp] theorem State.modSpi_nextId : (s.modSpi c f).nextId = s.nextId := rfl
@[simp] theorem State.modSpi_heldReads : (s.modSpi c f).heldReads = s.heldReads := rfl
@[simp] theorem State.modSpi_bulk : (s.modSpi c f).bulk = s.bulk := rfl
@[simp] theorem State.modSpi_promo : (s.modSpi c f).promo = s.promo := rfl
@[simp] theorem State.modSpi_front : (s.modSpi c f).front = s.front := rfl
@[simp] theorem State.modSpi_epochs : (s.modSpi c f).epochs = s.epochs := rfl
@[simp] theorem State.modSpi_patchesOf : (s.modSpi c f).patchesOf = s.patchesOf := rfl
@[simp] theorem State.modSpi_pipes : (s.modSpi c f).pipes = s.pipes := rfl
@[simp] theorem State.modSpi_frames : (s.modSpi c f).frames = s.frames := rfl
@[simp] theorem State.modSpi_graph : (s.modSpi c f).graph = s.graph := rfl
@[simp] theorem State.modSpi_lanes : (s.modSpi c f).lanes = s.lanes := rfl
@[simp] theorem State.modSpi_groups : (s.modSpi c f).groups = s.groups := rfl
@[simp] theorem State.modSpi_streams : (s.modSpi c f).streams = s.streams := rfl
@[simp] theorem State.modSpi_sgs : (s.modSpi c f).sgs = s.sgs := rfl
@[simp] theorem State.modSpi_pss : (s.modSpi c f).pss = s.pss := rfl
@[simp] theorem State.modSpi_caps : (s.modSpi c f).caps = s.caps := rfl
@[simp] theorem State.modSpi_subst : (s.modSpi c f).subst = s.subst := rfl
@[simp] theorem State.modSpi_time : (s.modSpi c f).time = s.time := rfl
@[simp] theorem State.modSpi_drv : (s.modSpi c f).drv = s.drv := rfl
@[simp] theorem State.modSpi_media : (s.modSpi c f).media = s.media := rfl
@[simp] theorem State.modSpi_recorder : (s.modSpi c f).recorder = s.recorder := rfl
@[simp] theorem State.modSpi_zst : (s.modSpi c f).zst = s.zst := rfl
@[simp] theorem State.modSpi_oldJobs : (s.modSpi c f).oldJobs = s.oldJobs := rfl
@[simp] theorem State.modSpi_outfs : (s.modSpi c f).outfs = s.outfs := rfl
@[simp] theorem State.modSpi_encs : (s.modSpi c f).encs = s.encs := rfl
@[simp] theorem State.modSpi_dec : (s.modSpi c f).dec = s.dec := rfl
@[simp] theorem State.modSpi_disp : (s.modSpi c f).disp = s.disp := rfl
@[simp] theorem State.modSpi_hbmc : (s.modSpi c f).hbmc = s.hbmc := rfl
@[simp] theorem State.modSpi_hlt : (s.modSpi c f).hlt = s.hlt := rfl
@[simp] theorem State.modSpi_baro : (s.modSpi c f).baro = s.baro := rfl
@[simp] theorem State.modSpi_nv : (s.modSpi c f).nv = s.nv := rfl
@[simp] theorem State.modSpi_ofl : (s.modSpi c f).ofl = s.ofl := rfl
@[simp] theorem State.modSpi_sky : (s.modSpi c f).sky = s.sky := rfl
@[simp] theorem State.modSpi_aud : (s.modSpi c f).aud = s.aud := rfl
@[simp] theorem State.modSpi_cpr : (s.modSpi c f).cpr = s.cpr := rfl
@[simp] theorem State.modSpi_free : (s.modSpi c f).free = s.free := rfl
@[simp] theorem State.modSpi_rd : (s.modSpi c f).rd rg jx = s.rd rg jx := rfl
@[simp] theorem State.modSpi_get : (s.modSpi c f).get fl jx = s.get fl jx := rfl
@[simp] theorem State.modSpi_flag : (s.modSpi c f).flag fl jx = s.flag fl jx := rfl

end modSpi

section modSrc

variable (s : State) (n i : Nat) (f : Src → Src) (fl : Fld) (rg : Reg) (jx : List Nat)

@[simp] theorem State.modSrc_pending : (s.modSrc n i f).pending = s.pending := rfl
@[simp] theorem State.modSrc_regs : (s.modSrc n i f).regs = s.regs := rfl
@[simp] theorem State.modSrc_mirror : (s.modSrc n i f).mirror = s.mirror := rfl
@[simp] theorem State.modSrc_latch : (s.modSrc n i f).latch = s.latch := rfl
@[simp] theorem State.modSrc_lowHalf : (s.modSrc n i f).lowHalf = s.lowHalf := rfl
@[simp] theorem State.modSrc_host : (s.modSrc n i f).host = s.host := rfl
@[simp] theorem State.modSrc_ohost : (s.modSrc n i f).ohost = s.ohost := rfl
@[simp] theorem State.modSrc_hbm : (s.modSrc n i f).hbm = s.hbm := rfl
@[simp] theorem State.modSrc_undef : (s.modSrc n i f).undef = s.undef := rfl
@[simp] theorem State.modSrc_mram : (s.modSrc n i f).mram = s.mram := rfl
@[simp] theorem State.modSrc_lut : (s.modSrc n i f).lut = s.lut := rfl
@[simp] theorem State.modSrc_lutSet : (s.modSrc n i f).lutSet = s.lutSet := rfl
@[simp] theorem State.modSrc_msixTable : (s.modSrc n i f).msixTable = s.msixTable := rfl
@[simp] theorem State.modSrc_msixPba : (s.modSrc n i f).msixPba = s.msixPba := rfl
@[simp] theorem State.modSrc_msixEnable : (s.modSrc n i f).msixEnable = s.msixEnable := rfl
@[simp] theorem State.modSrc_msixMask : (s.modSrc n i f).msixMask = s.msixMask := rfl
@[simp] theorem State.modSrc_out : (s.modSrc n i f).out = s.out := rfl
@[simp] theorem State.modSrc_raised : (s.modSrc n i f).raised = s.raised := rfl
@[simp] theorem State.modSrc_limited : (s.modSrc n i f).limited = s.limited := rfl
@[simp] theorem State.modSrc_limitedAt : (s.modSrc n i f).limitedAt = s.limitedAt := rfl
@[simp] theorem State.modSrc_sfeFull : (s.modSrc n i f).sfeFull = s.sfeFull := rfl
@[simp] theorem State.modSrc_defStores : (s.modSrc n i f).defStores = s.defStores := rfl
@[simp] theorem State.modSrc_dests : (s.modSrc n i f).dests = s.dests := rfl
@[simp] theorem State.modSrc_disarmed : (s.modSrc n i f).disarmed = s.disarmed := rfl
@[simp] theorem State.modSrc_packets : (s.modSrc n i f).packets = s.packets := rfl
@[simp] theorem State.modSrc_rings : (s.modSrc n i f).rings = s.rings := rfl
@[simp] theorem State.modSrc_nextId : (s.modSrc n i f).nextId = s.nextId := rfl
@[simp] theorem State.modSrc_heldReads : (s.modSrc n i f).heldReads = s.heldReads := rfl
@[simp] theorem State.modSrc_bulk : (s.modSrc n i f).bulk = s.bulk := rfl
@[simp] theorem State.modSrc_promo : (s.modSrc n i f).promo = s.promo := rfl
@[simp] theorem State.modSrc_front : (s.modSrc n i f).front = s.front := rfl
@[simp] theorem State.modSrc_epochs : (s.modSrc n i f).epochs = s.epochs := rfl
@[simp] theorem State.modSrc_patchesOf : (s.modSrc n i f).patchesOf = s.patchesOf := rfl
@[simp] theorem State.modSrc_pipes : (s.modSrc n i f).pipes = s.pipes := rfl
@[simp] theorem State.modSrc_frames : (s.modSrc n i f).frames = s.frames := rfl
@[simp] theorem State.modSrc_graph : (s.modSrc n i f).graph = s.graph := rfl
@[simp] theorem State.modSrc_lanes : (s.modSrc n i f).lanes = s.lanes := rfl
@[simp] theorem State.modSrc_groups : (s.modSrc n i f).groups = s.groups := rfl
@[simp] theorem State.modSrc_sgs : (s.modSrc n i f).sgs = s.sgs := rfl
@[simp] theorem State.modSrc_pss : (s.modSrc n i f).pss = s.pss := rfl
@[simp] theorem State.modSrc_caps : (s.modSrc n i f).caps = s.caps := rfl
@[simp] theorem State.modSrc_subst : (s.modSrc n i f).subst = s.subst := rfl
@[simp] theorem State.modSrc_time : (s.modSrc n i f).time = s.time := rfl
@[simp] theorem State.modSrc_drv : (s.modSrc n i f).drv = s.drv := rfl
@[simp] theorem State.modSrc_media : (s.modSrc n i f).media = s.media := rfl
@[simp] theorem State.modSrc_recorder : (s.modSrc n i f).recorder = s.recorder := rfl
@[simp] theorem State.modSrc_zst : (s.modSrc n i f).zst = s.zst := rfl
@[simp] theorem State.modSrc_oldJobs : (s.modSrc n i f).oldJobs = s.oldJobs := rfl
@[simp] theorem State.modSrc_outfs : (s.modSrc n i f).outfs = s.outfs := rfl
@[simp] theorem State.modSrc_encs : (s.modSrc n i f).encs = s.encs := rfl
@[simp] theorem State.modSrc_dec : (s.modSrc n i f).dec = s.dec := rfl
@[simp] theorem State.modSrc_disp : (s.modSrc n i f).disp = s.disp := rfl
@[simp] theorem State.modSrc_hbmc : (s.modSrc n i f).hbmc = s.hbmc := rfl
@[simp] theorem State.modSrc_hlt : (s.modSrc n i f).hlt = s.hlt := rfl
@[simp] theorem State.modSrc_baro : (s.modSrc n i f).baro = s.baro := rfl
@[simp] theorem State.modSrc_nv : (s.modSrc n i f).nv = s.nv := rfl
@[simp] theorem State.modSrc_ofl : (s.modSrc n i f).ofl = s.ofl := rfl
@[simp] theorem State.modSrc_sky : (s.modSrc n i f).sky = s.sky := rfl
@[simp] theorem State.modSrc_aud : (s.modSrc n i f).aud = s.aud := rfl
@[simp] theorem State.modSrc_lsp : (s.modSrc n i f).lsp = s.lsp := rfl
@[simp] theorem State.modSrc_cpr : (s.modSrc n i f).cpr = s.cpr := rfl
@[simp] theorem State.modSrc_free : (s.modSrc n i f).free = s.free := rfl
@[simp] theorem State.modSrc_rd : (s.modSrc n i f).rd rg jx = s.rd rg jx := rfl
@[simp] theorem State.modSrc_get : (s.modSrc n i f).get fl jx = s.get fl jx := rfl
@[simp] theorem State.modSrc_flag : (s.modSrc n i f).flag fl jx = s.flag fl jx := rfl

end modSrc

section modStream

variable (s : State) (n : Nat) (f : StreamSt → StreamSt) (fl : Fld) (rg : Reg) (jx : List Nat)

@[simp] theorem State.modStream_pending : (s.modStream n f).pending = s.pending := rfl
@[simp] theorem State.modStream_regs : (s.modStream n f).regs = s.regs := rfl
@[simp] theorem State.modStream_mirror : (s.modStream n f).mirror = s.mirror := rfl
@[simp] theorem State.modStream_latch : (s.modStream n f).latch = s.latch := rfl
@[simp] theorem State.modStream_lowHalf : (s.modStream n f).lowHalf = s.lowHalf := rfl
@[simp] theorem State.modStream_host : (s.modStream n f).host = s.host := rfl
@[simp] theorem State.modStream_ohost : (s.modStream n f).ohost = s.ohost := rfl
@[simp] theorem State.modStream_hbm : (s.modStream n f).hbm = s.hbm := rfl
@[simp] theorem State.modStream_undef : (s.modStream n f).undef = s.undef := rfl
@[simp] theorem State.modStream_mram : (s.modStream n f).mram = s.mram := rfl
@[simp] theorem State.modStream_lut : (s.modStream n f).lut = s.lut := rfl
@[simp] theorem State.modStream_lutSet : (s.modStream n f).lutSet = s.lutSet := rfl
@[simp] theorem State.modStream_msixTable : (s.modStream n f).msixTable = s.msixTable := rfl
@[simp] theorem State.modStream_msixPba : (s.modStream n f).msixPba = s.msixPba := rfl
@[simp] theorem State.modStream_msixEnable : (s.modStream n f).msixEnable = s.msixEnable := rfl
@[simp] theorem State.modStream_msixMask : (s.modStream n f).msixMask = s.msixMask := rfl
@[simp] theorem State.modStream_out : (s.modStream n f).out = s.out := rfl
@[simp] theorem State.modStream_raised : (s.modStream n f).raised = s.raised := rfl
@[simp] theorem State.modStream_limited : (s.modStream n f).limited = s.limited := rfl
@[simp] theorem State.modStream_limitedAt : (s.modStream n f).limitedAt = s.limitedAt := rfl
@[simp] theorem State.modStream_sfeFull : (s.modStream n f).sfeFull = s.sfeFull := rfl
@[simp] theorem State.modStream_defStores : (s.modStream n f).defStores = s.defStores := rfl
@[simp] theorem State.modStream_dests : (s.modStream n f).dests = s.dests := rfl
@[simp] theorem State.modStream_disarmed : (s.modStream n f).disarmed = s.disarmed := rfl
@[simp] theorem State.modStream_packets : (s.modStream n f).packets = s.packets := rfl
@[simp] theorem State.modStream_rings : (s.modStream n f).rings = s.rings := rfl
@[simp] theorem State.modStream_nextId : (s.modStream n f).nextId = s.nextId := rfl
@[simp] theorem State.modStream_heldReads : (s.modStream n f).heldReads = s.heldReads := rfl
@[simp] theorem State.modStream_bulk : (s.modStream n f).bulk = s.bulk := rfl
@[simp] theorem State.modStream_promo : (s.modStream n f).promo = s.promo := rfl
@[simp] theorem State.modStream_front : (s.modStream n f).front = s.front := rfl
@[simp] theorem State.modStream_epochs : (s.modStream n f).epochs = s.epochs := rfl
@[simp] theorem State.modStream_patchesOf : (s.modStream n f).patchesOf = s.patchesOf := rfl
@[simp] theorem State.modStream_pipes : (s.modStream n f).pipes = s.pipes := rfl
@[simp] theorem State.modStream_frames : (s.modStream n f).frames = s.frames := rfl
@[simp] theorem State.modStream_graph : (s.modStream n f).graph = s.graph := rfl
@[simp] theorem State.modStream_lanes : (s.modStream n f).lanes = s.lanes := rfl
@[simp] theorem State.modStream_groups : (s.modStream n f).groups = s.groups := rfl
@[simp] theorem State.modStream_sgs : (s.modStream n f).sgs = s.sgs := rfl
@[simp] theorem State.modStream_pss : (s.modStream n f).pss = s.pss := rfl
@[simp] theorem State.modStream_caps : (s.modStream n f).caps = s.caps := rfl
@[simp] theorem State.modStream_subst : (s.modStream n f).subst = s.subst := rfl
@[simp] theorem State.modStream_time : (s.modStream n f).time = s.time := rfl
@[simp] theorem State.modStream_drv : (s.modStream n f).drv = s.drv := rfl
@[simp] theorem State.modStream_media : (s.modStream n f).media = s.media := rfl
@[simp] theorem State.modStream_recorder : (s.modStream n f).recorder = s.recorder := rfl
@[simp] theorem State.modStream_zst : (s.modStream n f).zst = s.zst := rfl
@[simp] theorem State.modStream_oldJobs : (s.modStream n f).oldJobs = s.oldJobs := rfl
@[simp] theorem State.modStream_outfs : (s.modStream n f).outfs = s.outfs := rfl
@[simp] theorem State.modStream_encs : (s.modStream n f).encs = s.encs := rfl
@[simp] theorem State.modStream_dec : (s.modStream n f).dec = s.dec := rfl
@[simp] theorem State.modStream_disp : (s.modStream n f).disp = s.disp := rfl
@[simp] theorem State.modStream_hbmc : (s.modStream n f).hbmc = s.hbmc := rfl
@[simp] theorem State.modStream_hlt : (s.modStream n f).hlt = s.hlt := rfl
@[simp] theorem State.modStream_baro : (s.modStream n f).baro = s.baro := rfl
@[simp] theorem State.modStream_nv : (s.modStream n f).nv = s.nv := rfl
@[simp] theorem State.modStream_ofl : (s.modStream n f).ofl = s.ofl := rfl
@[simp] theorem State.modStream_sky : (s.modStream n f).sky = s.sky := rfl
@[simp] theorem State.modStream_aud : (s.modStream n f).aud = s.aud := rfl
@[simp] theorem State.modStream_lsp : (s.modStream n f).lsp = s.lsp := rfl
@[simp] theorem State.modStream_cpr : (s.modStream n f).cpr = s.cpr := rfl
@[simp] theorem State.modStream_free : (s.modStream n f).free = s.free := rfl
@[simp] theorem State.modStream_rd : (s.modStream n f).rd rg jx = s.rd rg jx := rfl
@[simp] theorem State.modStream_get : (s.modStream n f).get fl jx = s.get fl jx := rfl
@[simp] theorem State.modStream_flag : (s.modStream n f).flag fl jx = s.flag fl jx := rfl
@[simp] theorem State.modStream_streams : (s.modStream n f).streams = modNth s.streams n f := rfl

end modStream

section modTake

variable (s : State) (n : Nat) (f : LiveTake → LiveTake) (fl : Fld) (rg : Reg) (jx : List Nat)

@[simp] theorem State.modTake_pending : (s.modTake n f).pending = s.pending := rfl
@[simp] theorem State.modTake_regs : (s.modTake n f).regs = s.regs := rfl
@[simp] theorem State.modTake_mirror : (s.modTake n f).mirror = s.mirror := rfl
@[simp] theorem State.modTake_latch : (s.modTake n f).latch = s.latch := rfl
@[simp] theorem State.modTake_lowHalf : (s.modTake n f).lowHalf = s.lowHalf := rfl
@[simp] theorem State.modTake_host : (s.modTake n f).host = s.host := rfl
@[simp] theorem State.modTake_ohost : (s.modTake n f).ohost = s.ohost := rfl
@[simp] theorem State.modTake_hbm : (s.modTake n f).hbm = s.hbm := rfl
@[simp] theorem State.modTake_undef : (s.modTake n f).undef = s.undef := rfl
@[simp] theorem State.modTake_mram : (s.modTake n f).mram = s.mram := rfl
@[simp] theorem State.modTake_lut : (s.modTake n f).lut = s.lut := rfl
@[simp] theorem State.modTake_lutSet : (s.modTake n f).lutSet = s.lutSet := rfl
@[simp] theorem State.modTake_msixTable : (s.modTake n f).msixTable = s.msixTable := rfl
@[simp] theorem State.modTake_msixPba : (s.modTake n f).msixPba = s.msixPba := rfl
@[simp] theorem State.modTake_msixEnable : (s.modTake n f).msixEnable = s.msixEnable := rfl
@[simp] theorem State.modTake_msixMask : (s.modTake n f).msixMask = s.msixMask := rfl
@[simp] theorem State.modTake_out : (s.modTake n f).out = s.out := rfl
@[simp] theorem State.modTake_raised : (s.modTake n f).raised = s.raised := rfl
@[simp] theorem State.modTake_limited : (s.modTake n f).limited = s.limited := rfl
@[simp] theorem State.modTake_limitedAt : (s.modTake n f).limitedAt = s.limitedAt := rfl
@[simp] theorem State.modTake_sfeFull : (s.modTake n f).sfeFull = s.sfeFull := rfl
@[simp] theorem State.modTake_defStores : (s.modTake n f).defStores = s.defStores := rfl
@[simp] theorem State.modTake_dests : (s.modTake n f).dests = s.dests := rfl
@[simp] theorem State.modTake_disarmed : (s.modTake n f).disarmed = s.disarmed := rfl
@[simp] theorem State.modTake_packets : (s.modTake n f).packets = s.packets := rfl
@[simp] theorem State.modTake_rings : (s.modTake n f).rings = s.rings := rfl
@[simp] theorem State.modTake_nextId : (s.modTake n f).nextId = s.nextId := rfl
@[simp] theorem State.modTake_heldReads : (s.modTake n f).heldReads = s.heldReads := rfl
@[simp] theorem State.modTake_bulk : (s.modTake n f).bulk = s.bulk := rfl
@[simp] theorem State.modTake_promo : (s.modTake n f).promo = s.promo := rfl
@[simp] theorem State.modTake_front : (s.modTake n f).front = s.front := rfl
@[simp] theorem State.modTake_epochs : (s.modTake n f).epochs = s.epochs := rfl
@[simp] theorem State.modTake_patchesOf : (s.modTake n f).patchesOf = s.patchesOf := rfl
@[simp] theorem State.modTake_pipes : (s.modTake n f).pipes = s.pipes := rfl
@[simp] theorem State.modTake_frames : (s.modTake n f).frames = s.frames := rfl
@[simp] theorem State.modTake_graph : (s.modTake n f).graph = s.graph := rfl
@[simp] theorem State.modTake_lanes : (s.modTake n f).lanes = s.lanes := rfl
@[simp] theorem State.modTake_groups : (s.modTake n f).groups = s.groups := rfl
@[simp] theorem State.modTake_streams : (s.modTake n f).streams = s.streams := rfl
@[simp] theorem State.modTake_sgs : (s.modTake n f).sgs = s.sgs := rfl
@[simp] theorem State.modTake_pss : (s.modTake n f).pss = s.pss := rfl
@[simp] theorem State.modTake_caps : (s.modTake n f).caps = s.caps := rfl
@[simp] theorem State.modTake_subst : (s.modTake n f).subst = s.subst := rfl
@[simp] theorem State.modTake_time : (s.modTake n f).time = s.time := rfl
@[simp] theorem State.modTake_drv : (s.modTake n f).drv = s.drv := rfl
@[simp] theorem State.modTake_media : (s.modTake n f).media = s.media := rfl
@[simp] theorem State.modTake_zst : (s.modTake n f).zst = s.zst := rfl
@[simp] theorem State.modTake_oldJobs : (s.modTake n f).oldJobs = s.oldJobs := rfl
@[simp] theorem State.modTake_outfs : (s.modTake n f).outfs = s.outfs := rfl
@[simp] theorem State.modTake_encs : (s.modTake n f).encs = s.encs := rfl
@[simp] theorem State.modTake_dec : (s.modTake n f).dec = s.dec := rfl
@[simp] theorem State.modTake_disp : (s.modTake n f).disp = s.disp := rfl
@[simp] theorem State.modTake_hbmc : (s.modTake n f).hbmc = s.hbmc := rfl
@[simp] theorem State.modTake_hlt : (s.modTake n f).hlt = s.hlt := rfl
@[simp] theorem State.modTake_baro : (s.modTake n f).baro = s.baro := rfl
@[simp] theorem State.modTake_nv : (s.modTake n f).nv = s.nv := rfl
@[simp] theorem State.modTake_ofl : (s.modTake n f).ofl = s.ofl := rfl
@[simp] theorem State.modTake_sky : (s.modTake n f).sky = s.sky := rfl
@[simp] theorem State.modTake_aud : (s.modTake n f).aud = s.aud := rfl
@[simp] theorem State.modTake_lsp : (s.modTake n f).lsp = s.lsp := rfl
@[simp] theorem State.modTake_cpr : (s.modTake n f).cpr = s.cpr := rfl
@[simp] theorem State.modTake_free : (s.modTake n f).free = s.free := rfl
@[simp] theorem State.modTake_rd : (s.modTake n f).rd rg jx = s.rd rg jx := rfl
@[simp] theorem State.modTake_get : (s.modTake n f).get fl jx = s.get fl jx := rfl
@[simp] theorem State.modTake_flag : (s.modTake n f).flag fl jx = s.flag fl jx := rfl

end modTake

section modTime

variable (s : State) (f : TimeSt → TimeSt) (fl : Fld) (rg : Reg) (jx : List Nat)

@[simp] theorem State.modTime_pending : (s.modTime f).pending = s.pending := rfl
@[simp] theorem State.modTime_regs : (s.modTime f).regs = s.regs := rfl
@[simp] theorem State.modTime_mirror : (s.modTime f).mirror = s.mirror := rfl
@[simp] theorem State.modTime_latch : (s.modTime f).latch = s.latch := rfl
@[simp] theorem State.modTime_lowHalf : (s.modTime f).lowHalf = s.lowHalf := rfl
@[simp] theorem State.modTime_host : (s.modTime f).host = s.host := rfl
@[simp] theorem State.modTime_ohost : (s.modTime f).ohost = s.ohost := rfl
@[simp] theorem State.modTime_hbm : (s.modTime f).hbm = s.hbm := rfl
@[simp] theorem State.modTime_undef : (s.modTime f).undef = s.undef := rfl
@[simp] theorem State.modTime_mram : (s.modTime f).mram = s.mram := rfl
@[simp] theorem State.modTime_lut : (s.modTime f).lut = s.lut := rfl
@[simp] theorem State.modTime_lutSet : (s.modTime f).lutSet = s.lutSet := rfl
@[simp] theorem State.modTime_msixTable : (s.modTime f).msixTable = s.msixTable := rfl
@[simp] theorem State.modTime_msixPba : (s.modTime f).msixPba = s.msixPba := rfl
@[simp] theorem State.modTime_msixEnable : (s.modTime f).msixEnable = s.msixEnable := rfl
@[simp] theorem State.modTime_msixMask : (s.modTime f).msixMask = s.msixMask := rfl
@[simp] theorem State.modTime_out : (s.modTime f).out = s.out := rfl
@[simp] theorem State.modTime_raised : (s.modTime f).raised = s.raised := rfl
@[simp] theorem State.modTime_limited : (s.modTime f).limited = s.limited := rfl
@[simp] theorem State.modTime_limitedAt : (s.modTime f).limitedAt = s.limitedAt := rfl
@[simp] theorem State.modTime_sfeFull : (s.modTime f).sfeFull = s.sfeFull := rfl
@[simp] theorem State.modTime_defStores : (s.modTime f).defStores = s.defStores := rfl
@[simp] theorem State.modTime_dests : (s.modTime f).dests = s.dests := rfl
@[simp] theorem State.modTime_disarmed : (s.modTime f).disarmed = s.disarmed := rfl
@[simp] theorem State.modTime_packets : (s.modTime f).packets = s.packets := rfl
@[simp] theorem State.modTime_rings : (s.modTime f).rings = s.rings := rfl
@[simp] theorem State.modTime_nextId : (s.modTime f).nextId = s.nextId := rfl
@[simp] theorem State.modTime_heldReads : (s.modTime f).heldReads = s.heldReads := rfl
@[simp] theorem State.modTime_bulk : (s.modTime f).bulk = s.bulk := rfl
@[simp] theorem State.modTime_promo : (s.modTime f).promo = s.promo := rfl
@[simp] theorem State.modTime_front : (s.modTime f).front = s.front := rfl
@[simp] theorem State.modTime_epochs : (s.modTime f).epochs = s.epochs := rfl
@[simp] theorem State.modTime_patchesOf : (s.modTime f).patchesOf = s.patchesOf := rfl
@[simp] theorem State.modTime_pipes : (s.modTime f).pipes = s.pipes := rfl
@[simp] theorem State.modTime_frames : (s.modTime f).frames = s.frames := rfl
@[simp] theorem State.modTime_graph : (s.modTime f).graph = s.graph := rfl
@[simp] theorem State.modTime_lanes : (s.modTime f).lanes = s.lanes := rfl
@[simp] theorem State.modTime_groups : (s.modTime f).groups = s.groups := rfl
@[simp] theorem State.modTime_streams : (s.modTime f).streams = s.streams := rfl
@[simp] theorem State.modTime_sgs : (s.modTime f).sgs = s.sgs := rfl
@[simp] theorem State.modTime_pss : (s.modTime f).pss = s.pss := rfl
@[simp] theorem State.modTime_caps : (s.modTime f).caps = s.caps := rfl
@[simp] theorem State.modTime_subst : (s.modTime f).subst = s.subst := rfl
@[simp] theorem State.modTime_drv : (s.modTime f).drv = s.drv := rfl
@[simp] theorem State.modTime_media : (s.modTime f).media = s.media := rfl
@[simp] theorem State.modTime_recorder : (s.modTime f).recorder = s.recorder := rfl
@[simp] theorem State.modTime_zst : (s.modTime f).zst = s.zst := rfl
@[simp] theorem State.modTime_oldJobs : (s.modTime f).oldJobs = s.oldJobs := rfl
@[simp] theorem State.modTime_outfs : (s.modTime f).outfs = s.outfs := rfl
@[simp] theorem State.modTime_encs : (s.modTime f).encs = s.encs := rfl
@[simp] theorem State.modTime_dec : (s.modTime f).dec = s.dec := rfl
@[simp] theorem State.modTime_disp : (s.modTime f).disp = s.disp := rfl
@[simp] theorem State.modTime_hbmc : (s.modTime f).hbmc = s.hbmc := rfl
@[simp] theorem State.modTime_hlt : (s.modTime f).hlt = s.hlt := rfl
@[simp] theorem State.modTime_baro : (s.modTime f).baro = s.baro := rfl
@[simp] theorem State.modTime_nv : (s.modTime f).nv = s.nv := rfl
@[simp] theorem State.modTime_ofl : (s.modTime f).ofl = s.ofl := rfl
@[simp] theorem State.modTime_sky : (s.modTime f).sky = s.sky := rfl
@[simp] theorem State.modTime_aud : (s.modTime f).aud = s.aud := rfl
@[simp] theorem State.modTime_lsp : (s.modTime f).lsp = s.lsp := rfl
@[simp] theorem State.modTime_cpr : (s.modTime f).cpr = s.cpr := rfl
@[simp] theorem State.modTime_free : (s.modTime f).free = s.free := rfl
@[simp] theorem State.modTime_rd : (s.modTime f).rd rg jx = s.rd rg jx := rfl
@[simp] theorem State.modTime_get : (s.modTime f).get fl jx = s.get fl jx := rfl
@[simp] theorem State.modTime_flag : (s.modTime f).flag fl jx = s.flag fl jx := rfl
@[simp] theorem State.modTime_time : (s.modTime f).time = f s.time := rfl

end modTime

section modUart

variable (s : State) (u : Nat) (f : UartSt → UartSt) (fl : Fld) (rg : Reg) (jx : List Nat)

@[simp] theorem State.modUart_pending : (s.modUart u f).pending = s.pending := rfl
@[simp] theorem State.modUart_regs : (s.modUart u f).regs = s.regs := rfl
@[simp] theorem State.modUart_mirror : (s.modUart u f).mirror = s.mirror := rfl
@[simp] theorem State.modUart_latch : (s.modUart u f).latch = s.latch := rfl
@[simp] theorem State.modUart_lowHalf : (s.modUart u f).lowHalf = s.lowHalf := rfl
@[simp] theorem State.modUart_host : (s.modUart u f).host = s.host := rfl
@[simp] theorem State.modUart_ohost : (s.modUart u f).ohost = s.ohost := rfl
@[simp] theorem State.modUart_hbm : (s.modUart u f).hbm = s.hbm := rfl
@[simp] theorem State.modUart_undef : (s.modUart u f).undef = s.undef := rfl
@[simp] theorem State.modUart_mram : (s.modUart u f).mram = s.mram := rfl
@[simp] theorem State.modUart_lut : (s.modUart u f).lut = s.lut := rfl
@[simp] theorem State.modUart_lutSet : (s.modUart u f).lutSet = s.lutSet := rfl
@[simp] theorem State.modUart_msixTable : (s.modUart u f).msixTable = s.msixTable := rfl
@[simp] theorem State.modUart_msixPba : (s.modUart u f).msixPba = s.msixPba := rfl
@[simp] theorem State.modUart_msixEnable : (s.modUart u f).msixEnable = s.msixEnable := rfl
@[simp] theorem State.modUart_msixMask : (s.modUart u f).msixMask = s.msixMask := rfl
@[simp] theorem State.modUart_out : (s.modUart u f).out = s.out := rfl
@[simp] theorem State.modUart_raised : (s.modUart u f).raised = s.raised := rfl
@[simp] theorem State.modUart_limited : (s.modUart u f).limited = s.limited := rfl
@[simp] theorem State.modUart_limitedAt : (s.modUart u f).limitedAt = s.limitedAt := rfl
@[simp] theorem State.modUart_sfeFull : (s.modUart u f).sfeFull = s.sfeFull := rfl
@[simp] theorem State.modUart_defStores : (s.modUart u f).defStores = s.defStores := rfl
@[simp] theorem State.modUart_dests : (s.modUart u f).dests = s.dests := rfl
@[simp] theorem State.modUart_disarmed : (s.modUart u f).disarmed = s.disarmed := rfl
@[simp] theorem State.modUart_packets : (s.modUart u f).packets = s.packets := rfl
@[simp] theorem State.modUart_rings : (s.modUart u f).rings = s.rings := rfl
@[simp] theorem State.modUart_nextId : (s.modUart u f).nextId = s.nextId := rfl
@[simp] theorem State.modUart_heldReads : (s.modUart u f).heldReads = s.heldReads := rfl
@[simp] theorem State.modUart_bulk : (s.modUart u f).bulk = s.bulk := rfl
@[simp] theorem State.modUart_promo : (s.modUart u f).promo = s.promo := rfl
@[simp] theorem State.modUart_front : (s.modUart u f).front = s.front := rfl
@[simp] theorem State.modUart_epochs : (s.modUart u f).epochs = s.epochs := rfl
@[simp] theorem State.modUart_patchesOf : (s.modUart u f).patchesOf = s.patchesOf := rfl
@[simp] theorem State.modUart_pipes : (s.modUart u f).pipes = s.pipes := rfl
@[simp] theorem State.modUart_frames : (s.modUart u f).frames = s.frames := rfl
@[simp] theorem State.modUart_graph : (s.modUart u f).graph = s.graph := rfl
@[simp] theorem State.modUart_lanes : (s.modUart u f).lanes = s.lanes := rfl
@[simp] theorem State.modUart_groups : (s.modUart u f).groups = s.groups := rfl
@[simp] theorem State.modUart_streams : (s.modUart u f).streams = s.streams := rfl
@[simp] theorem State.modUart_sgs : (s.modUart u f).sgs = s.sgs := rfl
@[simp] theorem State.modUart_pss : (s.modUart u f).pss = s.pss := rfl
@[simp] theorem State.modUart_caps : (s.modUart u f).caps = s.caps := rfl
@[simp] theorem State.modUart_subst : (s.modUart u f).subst = s.subst := rfl
@[simp] theorem State.modUart_time : (s.modUart u f).time = s.time := rfl
@[simp] theorem State.modUart_drv : (s.modUart u f).drv = s.drv := rfl
@[simp] theorem State.modUart_media : (s.modUart u f).media = s.media := rfl
@[simp] theorem State.modUart_recorder : (s.modUart u f).recorder = s.recorder := rfl
@[simp] theorem State.modUart_zst : (s.modUart u f).zst = s.zst := rfl
@[simp] theorem State.modUart_oldJobs : (s.modUart u f).oldJobs = s.oldJobs := rfl
@[simp] theorem State.modUart_outfs : (s.modUart u f).outfs = s.outfs := rfl
@[simp] theorem State.modUart_encs : (s.modUart u f).encs = s.encs := rfl
@[simp] theorem State.modUart_dec : (s.modUart u f).dec = s.dec := rfl
@[simp] theorem State.modUart_disp : (s.modUart u f).disp = s.disp := rfl
@[simp] theorem State.modUart_hbmc : (s.modUart u f).hbmc = s.hbmc := rfl
@[simp] theorem State.modUart_hlt : (s.modUart u f).hlt = s.hlt := rfl
@[simp] theorem State.modUart_baro : (s.modUart u f).baro = s.baro := rfl
@[simp] theorem State.modUart_nv : (s.modUart u f).nv = s.nv := rfl
@[simp] theorem State.modUart_ofl : (s.modUart u f).ofl = s.ofl := rfl
@[simp] theorem State.modUart_sky : (s.modUart u f).sky = s.sky := rfl
@[simp] theorem State.modUart_aud : (s.modUart u f).aud = s.aud := rfl
@[simp] theorem State.modUart_cpr : (s.modUart u f).cpr = s.cpr := rfl
@[simp] theorem State.modUart_free : (s.modUart u f).free = s.free := rfl
@[simp] theorem State.modUart_rd : (s.modUart u f).rd rg jx = s.rd rg jx := rfl
@[simp] theorem State.modUart_get : (s.modUart u f).get fl jx = s.get fl jx := rfl
@[simp] theorem State.modUart_flag : (s.modUart u f).flag fl jx = s.flag fl jx := rfl

end modUart

section modVol

variable (s : State) (f : Volume → Volume) (fl : Fld) (rg : Reg) (jx : List Nat)

@[simp] theorem State.modVol_pending : (s.modVol f).pending = s.pending := rfl
@[simp] theorem State.modVol_regs : (s.modVol f).regs = s.regs := rfl
@[simp] theorem State.modVol_mirror : (s.modVol f).mirror = s.mirror := rfl
@[simp] theorem State.modVol_latch : (s.modVol f).latch = s.latch := rfl
@[simp] theorem State.modVol_lowHalf : (s.modVol f).lowHalf = s.lowHalf := rfl
@[simp] theorem State.modVol_host : (s.modVol f).host = s.host := rfl
@[simp] theorem State.modVol_ohost : (s.modVol f).ohost = s.ohost := rfl
@[simp] theorem State.modVol_hbm : (s.modVol f).hbm = s.hbm := rfl
@[simp] theorem State.modVol_undef : (s.modVol f).undef = s.undef := rfl
@[simp] theorem State.modVol_mram : (s.modVol f).mram = s.mram := rfl
@[simp] theorem State.modVol_lut : (s.modVol f).lut = s.lut := rfl
@[simp] theorem State.modVol_lutSet : (s.modVol f).lutSet = s.lutSet := rfl
@[simp] theorem State.modVol_msixTable : (s.modVol f).msixTable = s.msixTable := rfl
@[simp] theorem State.modVol_msixPba : (s.modVol f).msixPba = s.msixPba := rfl
@[simp] theorem State.modVol_msixEnable : (s.modVol f).msixEnable = s.msixEnable := rfl
@[simp] theorem State.modVol_msixMask : (s.modVol f).msixMask = s.msixMask := rfl
@[simp] theorem State.modVol_out : (s.modVol f).out = s.out := rfl
@[simp] theorem State.modVol_raised : (s.modVol f).raised = s.raised := rfl
@[simp] theorem State.modVol_limited : (s.modVol f).limited = s.limited := rfl
@[simp] theorem State.modVol_limitedAt : (s.modVol f).limitedAt = s.limitedAt := rfl
@[simp] theorem State.modVol_sfeFull : (s.modVol f).sfeFull = s.sfeFull := rfl
@[simp] theorem State.modVol_defStores : (s.modVol f).defStores = s.defStores := rfl
@[simp] theorem State.modVol_dests : (s.modVol f).dests = s.dests := rfl
@[simp] theorem State.modVol_disarmed : (s.modVol f).disarmed = s.disarmed := rfl
@[simp] theorem State.modVol_packets : (s.modVol f).packets = s.packets := rfl
@[simp] theorem State.modVol_rings : (s.modVol f).rings = s.rings := rfl
@[simp] theorem State.modVol_nextId : (s.modVol f).nextId = s.nextId := rfl
@[simp] theorem State.modVol_heldReads : (s.modVol f).heldReads = s.heldReads := rfl
@[simp] theorem State.modVol_bulk : (s.modVol f).bulk = s.bulk := rfl
@[simp] theorem State.modVol_promo : (s.modVol f).promo = s.promo := rfl
@[simp] theorem State.modVol_front : (s.modVol f).front = s.front := rfl
@[simp] theorem State.modVol_epochs : (s.modVol f).epochs = s.epochs := rfl
@[simp] theorem State.modVol_patchesOf : (s.modVol f).patchesOf = s.patchesOf := rfl
@[simp] theorem State.modVol_pipes : (s.modVol f).pipes = s.pipes := rfl
@[simp] theorem State.modVol_frames : (s.modVol f).frames = s.frames := rfl
@[simp] theorem State.modVol_graph : (s.modVol f).graph = s.graph := rfl
@[simp] theorem State.modVol_lanes : (s.modVol f).lanes = s.lanes := rfl
@[simp] theorem State.modVol_groups : (s.modVol f).groups = s.groups := rfl
@[simp] theorem State.modVol_streams : (s.modVol f).streams = s.streams := rfl
@[simp] theorem State.modVol_sgs : (s.modVol f).sgs = s.sgs := rfl
@[simp] theorem State.modVol_pss : (s.modVol f).pss = s.pss := rfl
@[simp] theorem State.modVol_caps : (s.modVol f).caps = s.caps := rfl
@[simp] theorem State.modVol_subst : (s.modVol f).subst = s.subst := rfl
@[simp] theorem State.modVol_time : (s.modVol f).time = s.time := rfl
@[simp] theorem State.modVol_drv : (s.modVol f).drv = s.drv := rfl
@[simp] theorem State.modVol_media : (s.modVol f).media = s.media := rfl
@[simp] theorem State.modVol_zst : (s.modVol f).zst = s.zst := rfl
@[simp] theorem State.modVol_oldJobs : (s.modVol f).oldJobs = s.oldJobs := rfl
@[simp] theorem State.modVol_outfs : (s.modVol f).outfs = s.outfs := rfl
@[simp] theorem State.modVol_encs : (s.modVol f).encs = s.encs := rfl
@[simp] theorem State.modVol_dec : (s.modVol f).dec = s.dec := rfl
@[simp] theorem State.modVol_disp : (s.modVol f).disp = s.disp := rfl
@[simp] theorem State.modVol_hbmc : (s.modVol f).hbmc = s.hbmc := rfl
@[simp] theorem State.modVol_hlt : (s.modVol f).hlt = s.hlt := rfl
@[simp] theorem State.modVol_baro : (s.modVol f).baro = s.baro := rfl
@[simp] theorem State.modVol_nv : (s.modVol f).nv = s.nv := rfl
@[simp] theorem State.modVol_ofl : (s.modVol f).ofl = s.ofl := rfl
@[simp] theorem State.modVol_sky : (s.modVol f).sky = s.sky := rfl
@[simp] theorem State.modVol_aud : (s.modVol f).aud = s.aud := rfl
@[simp] theorem State.modVol_lsp : (s.modVol f).lsp = s.lsp := rfl
@[simp] theorem State.modVol_cpr : (s.modVol f).cpr = s.cpr := rfl
@[simp] theorem State.modVol_free : (s.modVol f).free = s.free := rfl
@[simp] theorem State.modVol_rd : (s.modVol f).rd rg jx = s.rd rg jx := rfl
@[simp] theorem State.modVol_get : (s.modVol f).get fl jx = s.get fl jx := rfl
@[simp] theorem State.modVol_flag : (s.modVol f).flag fl jx = s.flag fl jx := rfl

end modVol

end Sys2Proof.Machine
end

