-- ==== Sys2Proof/Laws/Regs.lean ====
section
/-! SUPPORT. Reading a register or a field back after a write of it or of another one. A register file reads back what was written only
while its keys rise, which `State.Canon` says and every step keeps. -/

namespace Sys2Proof.Machine

variable {s : State} {r r' : Reg} {d d' : Fld} {ix jx : List Nat} {v : Nat}

theorem State.rd_lt : s.rd r ix < 2 ^ 32 := RegFile.rd_lt

theorem State.rising_wr (h : rising s.regs = true) : rising (s.wr r ix v).regs = true := RegFile.wr_rising h

theorem State.rising_put (h : rising s.regs = true) : rising (s.put d ix v).regs = true := RegFile.put_rising h

theorem State.rd_wr_same (h : rising s.regs = true) : (s.wr r ix v).rd r ix = v % 2 ^ 32 := RegFile.rd_wr_same h

theorem State.rd_wr_ne (h : r.key ix ≠ r'.key jx) : (s.wr r ix v).rd r' jx = s.rd r' jx := RegFile.rd_wr_ne h

theorem State.get_wr_same (h : rising s.regs = true) : (s.wr d.reg ix v).get d ix = bits (v % 2 ^ 32) d.hi d.lo := by
  simp [State.get, State.wr, RegFile.get, RegFile.rd_wr_same h]

theorem State.get_wr_ne (h : r.key ix ≠ d.reg.key jx) : (s.wr r ix v).get d jx = s.get d jx := by
  simp [State.get, State.wr, RegFile.get, RegFile.rd_wr_ne h]

theorem State.rd_put_ne (h : d.reg.key ix ≠ r.key jx) : (s.put d ix v).rd r jx = s.rd r jx := RegFile.rd_wr_ne h

theorem State.rd_put_same (h : rising s.regs = true) (hd : d.hi < 32) (hl : d.lo ≤ d.hi) :
    (s.put d ix v).rd d.reg ix = putBits (s.rd d.reg ix) d.hi d.lo v := by
  have := putBits_lt (v := v) (RegFile.rd_lt (f := s.regs) (r := d.reg) (ix := ix)) hd hl
  simp only [State.rd, State.put, RegFile.put, RegFile.rd_wr_same h]
  exact Nat.mod_eq_of_lt this

theorem State.get_put_same (h : rising s.regs = true) (hd : d.hi < 32) (hl : d.lo ≤ d.hi) :
    (s.put d ix v).get d ix = v % 2 ^ (d.hi + 1 - d.lo) := by
  have := State.rd_put_same (v := v) (ix := ix) h hd hl
  simp only [State.rd] at this
  simp only [State.get, RegFile.get, this, bits_putBits_same hl]

theorem State.get_put_ne (h : d.reg.key ix ≠ d'.reg.key jx) : (s.put d ix v).get d' jx = s.get d' jx := by
  simp only [State.get, State.put, RegFile.get, RegFile.put, RegFile.rd_wr_ne h]

/-- Another field of the same register: the two share no bit. -/
theorem State.get_put_apart (h : rising s.regs = true) (hr : d.reg = d'.reg) (hd : d.hi < 32) (hl : d.lo ≤ d.hi) (hl' : d'.lo ≤ d'.hi)
    (ha : d.hi < d'.lo ∨ d'.hi < d.lo) : (s.put d ix v).get d' ix = s.get d' ix := by
  have := State.rd_put_same (v := v) (ix := ix) h hd hl
  simp only [State.rd] at this
  simp only [State.get, RegFile.get, ← hr, this]
  cases ha with
  | inl ha => exact bits_putBits_above hl ha
  | inr ha => exact bits_putBits_below ha hl' hl

theorem State.onUnit_reached {b : Blk} {f : State → State} (h : s.reaches b = true) : s.onUnit b f = f s := if_pos h

end Sys2Proof.Machine
end

