-- ==== Sys2Proof/Tests/Slice0.lean ====
section
/-! SUPPORT. Tests: what well-formedness refuses, single steps whose results the spec gives, and for every statement that has hypotheses
states and operands that meet them, one for each of its clauses. -/

namespace Sys2Proof.Tests

open Sys2Proof Sys2Proof.Machine

-- one declaration after the other: many kernel checks at once ask for more threads than a check has memory for
set_option Elab.async false
set_option maxRecDepth 4000
set_option linter.unusedVariables false

/-! ### Ill-formed commands -/

/-- An instance outside the range that its unit has. -/
theorem test_wf_instances : ∀ i ∈ ([.semRelease 64 1, .evqReset 16, .cmdqPoll 4, .updraftPromotion 5 0 1, .eventRecordPublish 64, .patchDrainEnd 8,
    .reacquire 16, .fs 16 [], .frameTimeout 64, .sgEdge 8, .rctFrame 9 0, .rcuFrame 9 0, .dvtFrame 13 0, .outfPublish 0 8, .zstJob 2,
    .rtpSendAu 2 true, .evDispUnderrun 4 0 false, .teLost 2, .hbmTempReport 4 0, .caparAlert 64 false, .evHbmPanic 256 0, .beat 4, .txqPop 6,
    .pulseSchedulerEdge 4, .triggerEdge 48 true 0, .alSkyPath 2 true, .evAudLock 14 true, .i2cFlush 7, .spiTransferEnd 4 [], .uartTxByte 2,
    .gpioSet 6 0, .gustLeakTick 11, .railOffsetStep 6 true, .trailSpaceFreed 19, .capTimeTrigger 8, .memberCommandTimeout 32 none] : List Instr),
    i.wf = false := by decide

/-- A word wider than its register, an address outside its space, a size that no access has. -/
theorem test_wf_widths : ∀ i ∈ ([.registerWrite .bar0 0 3 7 0, .registerWrite .bar0 0x4000000 4 15 0, .registerWrite .bar0 0 4 16 0,
    .registerWrite .bar0 0 4 15 (2 ^ 32), .loReadLatch 6 0 .bar0 4, .offDomainAccess 0x2000000 true, .mirrorRead 0x2000000, .bulkArm (2 ^ 32),
    .devCommit (2 ^ 32), .frontIssue (2 ^ 32), .slkBlock 0 4 0, .alignBlock 0 (2 ^ 64), .rateLimitedRecord 0x10000 0, .genlockReference 0x1A,
    .smbusRead 128 none 0, .uartRxByte 0 256 false false false, .dfuDnload 0x10000 [], .peerCreditWrite 0 4096 0, .childLost 0x10000,
    .powerOnReset 0 true (2 ^ 64), .pcieLinkStateChange false 0 true 8 0, .healthError 0 0 4 0, .replayComplete 0 0 true, .controllerShutdown 4,
    .nvmeSqDoorbell 65 0, .sdRead 0 [] 3] : List Instr),
    i.wf = false := by decide

/-- A list or a body whose length does not fit the command. -/
theorem test_wf_lengths : ∀ i ∈ ([.bulkRead 4097, .csi2Raw 0 ⟨0x2A, 0, 2, true, false, true⟩ [1] false, .encodePicture 0 ⟨[], [], [], 1, none⟩,
    .hbmRequest [⟨0, 0, 0, true, 0, [], 1, .none⟩], .marginScan 0 [], .ptpReceive 0 [], .dsiReadResponse 0 [0, 0, 0, 0, 0, 0, 0, 0, 0] 0,
    .sdiInputFrame 0 ⟨0, true, false, 2, 2, [], [], 0⟩, .semAcquire 0 [0] [] [], .landingWriteDeadline [32], .dawnStep ⟨[], [64],
      ⟨[], [], [], [], 0, 0, 0, 0, 0, 0, []⟩⟩] : List Instr),
    i.wf = false := by decide

/-! ### Results that the spec gives -/

theorem test_reset_queue_empty : State.reset.pending = [] := by decide

/-- 02_host_access.md: block offset 0x73 in units of 64 KiB is DVT3. -/
theorem test_block_of_dvt3 : blockOf 0x730000 = .dvt 3 := by decide

/-- 08_media_recorder.md, the example: eight members of 3,750,000,000 blocks with one parity unit have 14,648,436 rows. -/
theorem test_volume_rows : volumeRows (List.replicate 8 3750000000) 7 = 14648436 := by decide +kernel

/-- 08_media_recorder.md, the example: the bound of a coded frame of 16384 × 12288. -/
theorem test_coded_frame_bound : State.reset.rcuBound ⟨0, 0, 5, 0, 0, 0, 0, 16384, 12288, [], [], [], [], [], [], none, [], 0, none, none, false,
    [], [], none, none, 0, [], []⟩ 9 = 1435239360 := by decide +kernel

/-- 12_hbm_memory.md, the example: offset 1,792 of the extent at 0x1A3000000. -/
theorem test_protected_address : State.protPhys 0x1A3000000 1792 = 0x1A3000900 := by decide +kernel

/-- The same access lands on stack 2, channel 2, bank 16, row 1,117. -/
theorem test_address_location : State.physLoc 0x1A3000900 = ⟨34, 0, 16, 1117, 0⟩ := by decide +kernel

/-- 15_sky.md, the example: a sky of 1,000 has depth 2, its root relays to nodes 1 to 31, and node 517 is a child of node 16. -/
theorem test_relay_tree : log32 1000 = 2 ∧ skyChildren 1000 0 = (List.range 31).map (· + 1) ∧ 517 ∈ skyChildren 1000 16 := by decide +kernel

/-- R590: the supplies must be within tolerance. -/
theorem test_rails_out_of_tolerance : exec (.powerOnReset 0 false 0) State.reset = .fault .railsOutOfTolerance := rfl


/-! ### Small states -/

/-- The state that an outcome goes on to. -/
def nx (o : Host.Outcome State Fault Refusal) : State := match o with | .next t => t | _ => State.reset

/-- Reset with every power domain on and no byte of HBM undefined. -/
def on : State := { State.reset with regs := [(0x90010, 0xFFFFFF)], undef := [] }

/-- The row of ZST_CTRL. -/
def row0 : RegRow × List Nat := (findReg (R.ZST_CTRL.off)).get (by decide +kernel)

/-- host memory with one packet of opcode 1 at 0x1000 in ring 0 -/
def pkt (op : Nat) : Bytes := leBytes 4 16 ++ leBytes 2 op ++ leBytes 10 0

/-- Command ring 0 enabled with one packet, and event queue 0. -/
def ringOn : State :=
    { (((on.put Fl.CMDQ_CTRL_enable [0] 1).put Fl.CMDQ_CTRL_log2size [0] 12).wr R.CMDQ_BASE_LO [0] 0x1000).put Fl.EVQ_CTRL_enable [0] 1 with host := Mem.write [] 0x1000 (pkt 1) }

/-- A completion record for queue 0. -/
def rec0 : Rec := ⟨0x8000, 1, 0, 0, 0, 0, 0, 0⟩

/-- A packet of this opcode that ring 0 has started. -/
def thePacket (op : Nat) : Packet := ⟨7, 0, 0, 16, op, 0, 0, pkt op, none, false⟩

/-- one stream of 64 × 2 in 16-bit containers on lane group 0, and its pipeline -/
def stream0 : StreamRec := ⟨0, 0, 0, 0, 64, 2, 3, 1, 0, 40000⟩

/-- The structure around `stream0`: stream 63 besides, one pipeline, an ingest edge and three ports. -/
def graph0 : Graph := { Graph.empty with
  streams := [stream0, { stream0 with id := 63, source := 1, group := 3, stream := 15 }], pipes := [⟨0, true⟩],
  edges := [⟨0x100, 0x200, 0, 0, 0, 0⟩], ports := [⟨1, 0, true, 0, 1, 0⟩, ⟨2, 3, true, 0, 1, 0⟩, ⟨0x11, 5, true, 0, 0, 0x80⟩] }

/-- the shadows and the structure of a state taken as those in effect -/
def inEffect (s : State) : State := { s with epochs := [⟨0, s.regs, s.graph, none⟩] }

/-- A camera on `graph0`, its lane group up. -/
def cam : State := inEffect { (on.put Fl.SFE_G_STAT_up [0] 1) with graph := graph0 }

/-- Frame 5 of pipeline 0. -/
def frame0 : Frame := ⟨0, 0, 5, 0, 0, 0, 0, 64, 2, [], [.rct, .dvt, .outf], [], [], [], [], none, [], 0, none, none, false, [], [], none,
    none, 0, [], []⟩

/-- A front without conditions. -/
def front0 : Front := ⟨1, [], Graph.empty, [], 0, 0, 0, 0, 0, false, false, false, 0, 0⟩

/-- The same state 100 µs on. -/
def later (s : State) : State := { s with time := { s.time with clk := 100000 } }

/-- a Sensor Link packet of this type: stream 0, exposure 0, counter 7 -/
def slk (typ : Nat) (body : Bytes) : Bytes :=
  let h := leBytes 2 (typ * 64) ++ leBytes 2 7 ++ leBytes 2 0 ++ leBytes 2 body.length ++ leBytes 2 0 ++ leBytes 4 (crc32c body)
  h ++ leBytes 2 (crc16 h) ++ body

/-- A die of `stream0` whose frame is open. -/
def src0 : Src := ⟨0, 0, 64, 2, 0, 0, false, false, 1, 7, [], [], [], []⟩

/-- Its open frame. -/
def open0 : OpenFrame := ⟨5, 0, some 0, 7, false, 0, 0, 0, 64, 2, 0, 0, none, none, [], 0, 0, [], none, 0, [src0]⟩

/-- `cam` while that frame is open. -/
def camOpen : State := { cam with streams := cam.streams.set 0 { StreamSt.init with opened := some open0 } }

/-- The header of a frame start on virtual channel 15. -/
def csi0 : CsiHdr := ⟨0, 15, 7, true, false, true⟩

/-- The open frame of the CSI-2 stream 63. -/
def openC : OpenFrame := { open0 with pipe := none, free := true, srcs := [{ src0 with die := 15 }] }

/-- `cam` while that frame is open. -/
def camCsi : State := { cam with streams := cam.streams.set 63 { StreamSt.init with opened := some openC } }

/-- `graph0` with HBM partition 1, its ingest buffer, a tile of each class, and three branches of 2 × 2 pixels for OUTF -/
def graph1 : Graph := { graph0 with
  edges := [⟨0x100, 0x200, 1, 1, 0, 0⟩, ⟨0x300, 0x400, 1, 2, 0, 0⟩],
  buffers := [⟨1, 1, 4, 0⟩, ⟨2, 1, 4, 0x100000⟩], parts := [⟨1, false, true, false, 0xFF, 0x200000, 0x400000⟩],
  tiles := [⟨0, 1, 1, ⟩, ⟨0, 2, 3⟩, ⟨0, 3, 1⟩],
  branches := [⟨0, 0, 0, 0, 2, 2, srcDISP, 0⟩, ⟨7, 7, 0, 0, 2, 2, srcMPC, 31⟩] }

/-- A camera on `graph1`, in effect. -/
def cam1 : State := inEffect { ((on.put Fl.SFE_G_STAT_up [0] 1).put Fl.OUTF_STRIDE_value [0] 2) with graph := graph1 }

/-- `cam1` with one frame in its pipeline. -/
def withFrame (f : Frame) : State := { cam1 with frames := [f] }

/-- A PTP Sync message. -/
def ptp0 : Bytes := List.replicate 12 0 ++ [0x88, 0xF7] ++ List.replicate 34 0

/-- A branch frame that waits for publication. -/
def branchFrame0 : BranchFrame := ⟨0, 0, 5, 5, 0, 0, 1, 1, 0x300000, 0⟩

/-- `cam1` with CAP segment 15 of pipeline 7 in this state. -/
def sealed (st : Nat) : State :=
    { (cam1.put Fl.CAP_SEG_INFO_state [7, 15] st) with caps := cam1.caps.set 7 { CapSt.init with segs := CapSt.init.segs.set 15 { Seg.init with frames := [(0, 5, 0)] } } }

/-- A packet of this opcode with arguments. -/
def packetOf (op : Nat) (rest : Bytes) : Packet := ⟨7, 0, 0, 16 + rest.length, op, 0, 0, pkt op ++ rest, none, false⟩

/-- A recorder whose packet `q` has started. -/
def recWith (q : Packet) (x : RecSt) : State := { on with graph := graph1, packets := [q], recorder := x }

/-- A member that can join a volume. -/
def cand (p : Nat) : Cand := ⟨p, 1, [], 0x10000000, true⟩

/-- A volume of two members with one parity unit. -/
def vol0 : Volume := ⟨2, 1, 9, 100, [], 0, [1, 2], 0, [], 1, 0, 0, 5, [0, 1], 0, 0, [], [], [], 50⟩

/-- A take of pipeline 5. -/
def take0 : LiveTake :=
    { num := 1, pipe := 5, fromFid := 0, stopAt := none, core := 15, audio := 0, buf := [], rows := [60, 61], chunks := [], closed := none, metadata := [], metaFid := 5, audBuf := [], raws := [], durable := none, last := none }

/-- The recorder with `vol0` open and `take0` running. -/
def open1 : RecSt := { RecSt.init with vol := some vol0, cands := [cand 0, cand 1, cand 2], takes := [take0] }

/-- `vol0` at the last row of a rebuild. -/
def volR : Volume := { vol0 with rebuilding := 2, progress := 99 }

/-- The recorder at that row. -/
def rebuilding : State := recWith (packetOf 0 []) { open1 with vol := some volR, rebuild := some 1 }

/-- The units of that row. -/
def units0 : Option (List Bytes) := rebuildData volR.m volR.r volR.progress unitBytes fun m => if m = 1 then none else
    rebuilding.memberUnit volR volR.progress m

/-- A branch that feeds encode core 1. -/
def vceBranch : BranchRec := ⟨6, 0, 0, 0, 2, 2, srcVCE, 1⟩

/-- A published frame. -/
def pub0 : PubFrame := ⟨0, 0, 5, 0, 0, 0x300000, []⟩

/-- The video coder, one picture waiting in encode core 1. -/
def vce : State := inEffect { ((on.put Fl.VCE_D_CTRL_enable [] 1).put Fl.VCE_RTP_CTRL_en [1] 1) with
  graph := { graph1 with branches := [vceBranch] },
  encs := on.encs.set 1 { EncSt.init with order := [⟨pub0, 0, 0⟩], base := 0x200000, size := 0x100000 } }

/-- The header of an access unit in the ring. -/
def auHead : Bytes := leBytes 4 128 ++ leBytes 4 0

/-- The ports of the display. -/
def dispGraph : Graph :=
    { graph0 with ports := [⟨7, 0, true, 0, 1, 0⟩, ⟨8, 0, true, 0, 1, 0⟩, ⟨8, 1, true, 0, 1, 0⟩, ⟨9, 1, true, 0, 1, 0⟩] }

/-- A display with a 2160p60 raster and SDI input 1. -/
def disp : State := inEffect (((((({ on with graph := dispGraph } : State).put Fl.DISP_CTRL_raster [] 0x30).put Fl.DISP_CTRL_enable []
    1).put Fl.DISP_I_CTRL_enable [1] 1).put Fl.DISP_I_CTRL_slots [1] 2).put Fl.DISP_I_STRIDE_stride [1] 2)

/-- A DSI panel in command mode. -/
def dsiOn : State := inEffect (((({ on with graph := dispGraph } : State).put Fl.DISP_CTRL_raster [] 0x30).put Fl.DISP_D_CTRL_enable [1]
    1).put Fl.DISP_D_CTRL_te_en [1] 1)

/-- The same with the panel in this state. -/
def withDsi (x : DsiSt) : State := { dsiOn with disp := { dsiOn.disp with dsi := dsiOn.disp.dsi.set 1 x } }

/-- An NVMe command with identifier 0x55. -/
def nvme (opc sq nsid p1 c10 c11 c12 : Nat) : NvmeCmd := ⟨sq, opc, 0x55, nsid, 0, 0, p1, 0, c10, c11, c12, 0, 0, 0⟩

/-- The offload port. -/
def oflGraph : Graph := { graph0 with ports := [⟨4, 0, true, 0, 0, 0⟩] }

/-- The admin submission queue, one command waiting. -/
def sqA : OflSq := ⟨0, 0x1000, 16, 0, 3, 4⟩

/-- An I/O submission queue. -/
def sqI : OflSq := ⟨1, 0x3000, 16, 1, 15, 0⟩

/-- The admin completion queue, full by one. -/
def cqA : OflCq := ⟨0, 0x8000, 16, 0, true, 0, 15, true⟩

/-- An I/O completion queue. -/
def cqI : OflCq := ⟨1, 0x9000, 16, 1, true, 1, 15, true⟩

/-- The admin completion queue with room. -/
def cqX : OflCq := { cqA with head := 1 }

/-- A controller that is ready. -/
def oflBase : OflSt := { OflSt.init with cc := 1, csts := 1, sqs := [sqA], cqs := [cqX], nextId := 9 }

/-- A device with this controller. -/
def oflA (x : OflSt) : State := { on with graph := oflGraph, ofl := x }

/-- A device whose controller waits for admin commands. -/
def oflAdm : State := oflA oflBase

/-- A volume with an exchange region. -/
def volX : Volume :=
    { vol0 with m := 3, regions := [(0, 0), (0, 0), (0, 0), (0, 0), (0, 0), (20480, 5120), (25600, 25088)], ports := [0, 1, 2] }

/-- A controller with both namespaces and an I/O queue. -/
def oflI : State := { ((on.put Fl.OFL_STAT_ns1 [] 1).put Fl.OFL_STAT_ns2 [] 1) with
  graph := oflGraph, ofl := { oflBase with sqs := [{ sqA with tail := 3 }, sqI], cqs := [cqX, cqI] }, recorder :=
      { RecSt.init with vol := some volX } }

/-- The first member read of a command. -/
def io0 : OflIo := ⟨1, 9, 0, 0, 1, 0, true⟩

/-- Its second. -/
def io1 : OflIo := ⟨2, 9, 1, 0, 1, 1, true⟩

/-- A Read of two blocks. -/
def cmd0 : OflCmd := ⟨9, 1, 0x55, 2, 1, 0, 2, 0x10000, 0, [], [], [], false, false, none⟩

/-- `oflI` while that command runs. -/
def oflRun : State := { oflI with ofl := { oflI.ofl with cmds := [cmd0], ios := [io0, io1], nextId := 10 } }

/-- The register row at an offset. -/
def rowAt (o : Nat) : RegRow × List Nat := match findReg o with | some x => x | none => row0

/-- A device with network ports. -/
def netUp : State := { on with graph := { graph0 with ports := [⟨6, 1, true, 0, 1, 0⟩, ⟨5, 0, true, 0, 1, 0⟩] } }

/-- The coder with an access unit to send and a network port. -/
def vceNet : State := { ((vce.wr R.VCE_OWR [1] 128).put Fl.VCE_RTP_CTRL_en [1] 1) with
  graph := { vce.graph with ports := [⟨6, 1, true, 0, 1, 0⟩, ⟨5, 0, true, 0, 1, 0⟩] }, hbm := Mem.write [] 0x200000 auHead }

/-- The sky agent in this state, as this node of that many. -/
def skyS (st : Nat) (root id members : Nat) : State :=
  { ((((on.put Fl.SKY_STAT_state [] st).put Fl.SKY_STAT_root [] root).put Fl.SKY_STAT_node_id [] id).put Fl.SKY_TREE_members [] members) with
    graph := { graph0 with ports := [⟨6, 0, true, 0, 1, 0⟩] } }

/-- The same with these records. -/
def withSky (s : State) (x : SkySt) : State := { s with sky := x }

/-- A sky message before its HMAC. -/
def skyHead (typ ser node gen seq t : Nat) (body : Bytes) : Bytes :=
  [0x49, 0x4D, 0x53, 0x4B, 1] ++ leBytes 1 typ ++ leBytes 2 body.length ++ leBytes 8 ser ++ leBytes 2 node ++ [0, 0] ++ leBytes 4 gen
    ++ leBytes 4 seq ++ leBytes 4 0 ++ leBytes 8 t ++ leBytes 8 0 ++ body

/-- An authentic message of this type from node `node`, serial number 7. -/
def skyMsg (typ node : Nat) (body : Bytes) : SkyMsg :=
  let h := skyHead typ 7 node 0 1 0 body
  ⟨0, 255, 0, skyGroup, 0xC012, h ++ (Config.hmacSha256 (List.replicate 32 0) h).toList⟩

/-- Its length. -/
theorem skyMsg_length (typ node : Nat) (body : Bytes) : (skyMsg typ node body).bytes.length = 80 + body.length := by
  simp [skyMsg, skyHead, leBytes]; omega

/-- A device on `graph1` with every port. -/
def io : State :=
    { on with graph := { graph1 with ports := (List.range 18).flatMap fun c => (List.range 32).map fun i => ⟨c, i, true, 0, 0, 0⟩ } }

/-- `on` under a name that no binder of a statement has. -/
def on2 : State := on

/-- The same with one row of data. -/
def take1 : LiveTake := { take0 with buf := List.replicate 0x100000 0 }


/-! ### Witnesses of the statements' hypotheses -/

theorem witness_step_runs_front_command :
    ∃ (c : Instr) (q : List Instr) (s : State), s.pending = c :: q :=
  ⟨.fenceRead, [], { on with pending := [.fenceRead] }, by decide +kernel⟩

theorem witness_queue_and_time :
    (∃ (c : Instr) (s t : State), exec c s = .next t) ∧
    (∃ s : State, s.pending = []) :=
  ⟨⟨.fenceRead, on, nx (exec .fenceRead on), by rfl⟩,
   ⟨on, by decide +kernel⟩⟩

theorem witness_every_command_completes :
    ∃ (c : Instr) (s : State), (∀ straps serial, c ≠ .powerOnReset straps false serial) :=
  ⟨.fenceRead, on, by intro _ _ h; cases h⟩

theorem witness_step_keeps_canonical_stores :
    ∃ s t : State, s.Canon ∧ step s = .next t :=
  ⟨on, nx (step on), (by constructor <;> decide +kernel), by rfl⟩

theorem witness_memories_change_only_by_their_writers :
    (∃ (c : Instr) (s t : State), exec c s = .next t ∧ ∃ a : Nat, c.writesHost = false) ∧
    (∃ (c : Instr) (s t : State), exec c s = .next t ∧ ∃ a : Nat, c.writesOffloadHost = false) ∧
    (∃ (c : Instr) (s t : State), exec c s = .next t ∧ ∃ a : Nat, c.writesHbm = false) ∧
    (∃ (c : Instr) (s t : State), exec c s = .next t ∧ ∃ a : Nat, c.writesMram = false) ∧
    (∃ (c : Instr) (s t : State), exec c s = .next t ∧ ∃ a : Nat, c.writesLut = false) ∧
    (∃ (c : Instr) (s t : State), exec c s = .next t ∧ ∃ a : Nat, c.writesMedia = false) :=
  ⟨⟨.fenceRead, on, nx (exec .fenceRead on), (by rfl), 0, by decide +kernel⟩,
   ⟨.fenceRead, on, nx (exec .fenceRead on), (by rfl), 0, by decide +kernel⟩,
   ⟨.fenceRead, on, nx (exec .fenceRead on), (by rfl), 0, by decide +kernel⟩,
   ⟨.fenceRead, on, nx (exec .fenceRead on), (by rfl), 0, by decide +kernel⟩,
   ⟨.fenceRead, on, nx (exec .fenceRead on), (by rfl), 0, by decide +kernel⟩,
   ⟨.fenceRead, on, nx (exec .fenceRead on), (by rfl), 0, by decide +kernel⟩⟩

theorem witness_host_reads_and_snapshots :
    (∃ (off : Nat) (rd : Bool) (s : State), rising s.regs = true ∧ s.reaches (blockOf off) = false ∧ s.domainOn 2 = true ∧ s.domainOn 17 =
      true) ∧
    (∃ (rq off : Nat) (lo hi : Reg) (row : RegRow) (ix jx : List Nat) (s : State), findPair false off = some (lo, hi, ix) ∧ off % 4 = 0 ∧
      off < 0x2000000 ∧ findReg off = some (row, jx) ∧ row.reg ≠ R.ORD_SEM_ACQ ∧ State.fifoReg row.reg = none ∧ s.reaches (blockOf off) =
      true) ∧
    (∃ (rq off : Nat) (row : RegRow) (jx : List Nat) (s : State), findPair false off = none ∧ off % 4 = 0 ∧ off < 0x2000000 ∧ findReg off
      = some (row, jx) ∧ row.reg ≠ R.ORD_SEM_ACQ ∧ State.fifoReg row.reg = none ∧ s.reaches (blockOf off) = true) ∧
    (∃ (rq off : Nat) (s : State), off % 4 = 0 ∧ off < 0x2000000 ∧ rising s.regs = true ∧ s.reaches (blockOf off) = false ∧ s.domainOn 2 =
      true ∧ s.domainOn 17 = true) ∧
    (∃ (rq off size : Nat) (s : State), off % size ≠ 0 ∧ off < 0x2000000) ∧
    (∃ (rq : Nat) (s : State), s.domainOn 17 = true ∧ s.get Fl.DEV_ID_part_id = 0x0904) ∧
    (∃ (off : Nat) (s : State), s.reaches .dev = true ∧ s.flag Fl.DEV_SNAP_go = false ∧ off % 4 = 0) ∧
    (∃ (off : Nat) (s : State), s.reaches .dev = true ∧ s.flag Fl.DEV_SNAP_go = true ∧ off % 4 = 0) ∧
    (∃ (off : Nat) (s : State), s.flag Fl.DEV_STATUS_mirror_valid = false) ∧
    (∃ s : State, s.reaches .dev = true ∧ s.flag Fl.DEV_SNAP_go = false ∧ rising s.regs = true) ∧
    (∃ s : State, s.flag Fl.DEV_SNAP_go = true ∧ rising s.regs = true) :=
  ⟨⟨R.DISP_CTRL.off, true, { on with regs := [(0x90010, 0xFF7FFF)] }, by decide +kernel⟩,
   ⟨1, 0x24, R.DEV_COMMIT_FRAME_LO, R.DEV_COMMIT_FRAME_HI, (rowAt 0x24).1, [], [], on, by decide +kernel⟩,
   ⟨1, 0x28, (rowAt 0x28).1, [], on, by decide +kernel⟩,
   ⟨1, R.DISP_CTRL.off, { on with regs := [(0x90010, 0xFF7FFF)] }, by decide +kernel⟩,
   ⟨1, 2, 4, on, by decide +kernel⟩,
   ⟨1, on, by decide +kernel⟩,
   ⟨0, on, by decide +kernel⟩,
   ⟨0, on.put Fl.DEV_SNAP_go [] 1, by decide +kernel⟩,
   ⟨0, on, by decide +kernel⟩,
   ⟨on, by decide +kernel⟩,
   ⟨{ on.put Fl.DEV_SNAP_go [] 1 with heldReads := [(8, 4)] }, by decide +kernel⟩⟩

theorem witness_plain_register_write :
    (∃ (off v : Nat) (row : RegRow) (ix jx : List Nat) (s : State), rising s.regs = true ∧ off % 4 = 0 ∧ off + 4 ≤ 0x2000000 ∧ v < 2 ^ 32
      ∧ (blockOf off = .sts ∨ blockOf off = .recorder ∨ blockOf off = .outf ∨ blockOf off = .mpc ∨ blockOf off = .zst ∨ ∃ n, blockOf off =
      .rct n ∨ blockOf off = .rcu n ∨ blockOf off = .dvt n) ∧ findReg off = some (row, ix) ∧ s.holder off row.reg ix = some jx ∧ findPair
      false off = none ∧ findPair true off = none ∧ s.reaches (blockOf off) = true) ∧
    (∃ (off v : Nat) (s : State), rising s.regs = true ∧ off % 4 = 0 ∧ off + 4 ≤ 0x2000000 ∧ s.reaches (blockOf off) = false) :=
  ⟨⟨R.ZST_CTRL.off, 1, row0.1, row0.2, [0], on, (by decide +kernel), (by decide +kernel), (by decide +kernel), (by decide +kernel),
     (by exact .inr (.inr (.inr (.inr (.inl (by decide +kernel)))))), by decide +kernel⟩,
   ⟨R.DISP_CTRL.off, 1, { on with regs := [(0x90010, 0xFF7FFF)] }, by decide +kernel⟩⟩

theorem witness_semaphore_cycle :
    (∃ (n : Nat) (reqs rels : List Nat) (s : State), n < 64 ∧ (∀ r ∈ reqs, 1 ≤ r ∧ r ≤ 5) ∧ s.reaches .ord = true ∧ rising s.regs = true) ∧
    (∃ (n o : Nat) (s : State), n < 64 ∧ 1 ≤ o ∧ o ≤ 5 ∧ s.reaches .ord = true ∧ rising s.regs = true ∧ s.semOwner n = o) ∧
    (∃ (n rq : Nat) (s : State), n < 64 ∧ rq ≠ 0 ∧ s.reaches .ord = true ∧ rising s.regs = true) ∧
    (∃ (n rq : Nat) (s : State), n < 64 ∧ rq ≠ 0 ∧ s.reaches .ord = true ∧ rising s.regs = true) :=
  ⟨⟨63, [5, 2], [], on, by decide +kernel⟩,
   ⟨63, 5, on.put Fl.ORD_SEM_ACQ_owner [63] 5, by decide +kernel⟩,
   ⟨63, 1, on.put Fl.ORD_SEM_ACQ_owner [63] 1, by decide +kernel⟩,
   ⟨63, 1, (on.put Fl.ORD_SEM_ACQ_owner [63] 1).put Fl.ORD_SEM_CTL_orphan [63] 1, by decide +kernel⟩⟩

theorem witness_promotion_raises_one_class :
    (∃ (arb id cls : Nat) (c : Fld) (s : State), promoCounter arb = some c ∧ (arb = 3 → id < 4 ∧ (s.rings.getD id Ring.init).cursor ≠ s.rd
      R.CMDQ_TAIL [id]) ∧ rising s.regs = true ∧ (s.waitClass arb id cls = 1 ∨ s.waitClass arb id cls = 2)) ∧
    (∃ (arb id cls : Nat) (s : State), s.waitClass arb id cls ≠ 1 ∧ s.waitClass arb id cls ≠ 2) :=
  ⟨⟨4, 0, 2, Fl.ORD_PROMO_TRL_count, on, by decide +kernel⟩,
   ⟨4, 0, 0, on, by decide +kernel⟩⟩

theorem witness_bulk_session :
    (∃ (v : Nat) (s : State), s.reaches .bulk = true ∧ rising s.regs = true ∧ s.bulkActive = false ∧ (s.writeFields ⟨R.BULK_CTRL,
      [Fl.BULK_CTRL_dir, Fl.BULK_CTRL_target, Fl.BULK_CTRL_mode]⟩ [] v).bulkSetupOk = true) ∧
    (∃ (v : Nat) (s : State), s.reaches .bulk = true ∧ rising s.regs = true ∧ s.bulkActive = false ∧ (s.writeFields ⟨R.BULK_CTRL,
      [Fl.BULK_CTRL_dir, Fl.BULK_CTRL_target, Fl.BULK_CTRL_mode]⟩ [] v).bulkSetupOk = false) ∧
    (∃ (x y : List (Bool × Byte)) (s t u : State), s.reaches .bulk = true ∧ exec (.bulkWrite x) s = .next t ∧ exec (.bulkWrite y) t =
      .next u ∧ t.reaches .bulk = true) ∧
    (∃ (b : Byte) (s : State), s.reaches .bulk = true ∧ rising s.regs = true ∧ s.bulkActive = true ∧ s.bulk.rd = false ∧ s.bulk.target = 2
      ∧ State.bulkAddr s.bulk < 0x4000000 ∧ State.mramWritable (State.bulkAddr s.bulk) = true ∧ s.flag Fl.CPR_DUSK_STAT_below = false ∧
      rising s.mram = true) ∧
    (∃ (b : Byte) (s : State), s.reaches .bulk = true ∧ rising s.regs = true ∧ s.bulkActive = true ∧ s.bulk.rd = false ∧ s.bulk.target = 0
      ∧ s.mapped (State.bulkAddr s.bulk) = true ∧ (State.reservedLo ≤ State.bulkAddr s.bulk → State.inStaging (State.bulkAddr s.bulk) =
      true) ∧ s.hbmc.down = [] ∧ rising s.hbm = true) ∧
    (∃ (en : Bool) (b : Byte) (s : State), s.reaches .bulk = true ∧ rising s.regs = true ∧ (s.bulkActive = false ∨ s.bulk.rd = true)) ∧
    (∃ s : State, s.reaches .bulk = true ∧ rising s.regs = true ∧ s.bulkActive = true ∧ s.bulk.rd = true ∧ s.bulk.target = 0 ∧ s.mapped
      (State.bulkAddr s.bulk) = true) ∧
    (∃ s : State, s.reaches .bulk = true ∧ rising s.regs = true ∧ (s.bulkActive = false ∨ s.bulk.rd = false)) ∧
    (∃ (n : Nat) (s : State), s.reaches .bulk = false) :=
  ⟨⟨0x80000000, ((on.put Fl.BULK_WIDTH_width [] 4).put Fl.BULK_ROWS_rows [] 1), by decide +kernel⟩,
   ⟨1, on, by decide +kernel⟩,
   ⟨[(true, 1)], [(true, 2)], { on.put Fl.BULK_STAT_active [] 1 with bulk := ⟨2, 0, false, 0x2000000, 4, 0, 1, 0, 0⟩ }, nx (exec
     (.bulkWrite [(true, 1)]) ({ on.put Fl.BULK_STAT_active [] 1 with bulk := ⟨2, 0, false, 0x2000000, 4, 0, 1, 0, 0⟩ })), nx (exec
     (.bulkWrite [(true, 2)]) (nx (exec (.bulkWrite [(true, 1)])
     ({ on.put Fl.BULK_STAT_active [] 1 with bulk := ⟨2, 0, false, 0x2000000, 4, 0, 1, 0, 0⟩ })))), (by decide +kernel), (by rfl),
     (by rfl), by decide +kernel⟩,
   ⟨7, { on.put Fl.BULK_STAT_active [] 1 with bulk := ⟨2, 0, false, 0x35FFFFF, 4, 0, 1, 0, 0⟩ }, by decide +kernel⟩,
   ⟨7, { on.put Fl.BULK_STAT_active [] 1 with bulk := ⟨0, 0, false, 0x23C0000000, 4, 0, 1, 0, 0⟩ }, by decide +kernel⟩,
   ⟨true, 7, on, by decide +kernel⟩,
   ⟨{ on.put Fl.BULK_STAT_active [] 1 with bulk := ⟨0, 0, true, 0x23C0000000, 4, 0, 1, 0, 0⟩ }, by decide +kernel⟩,
   ⟨on, by decide +kernel⟩,
   ⟨3, State.reset, by decide +kernel⟩⟩

theorem witness_completion_record_published :
    ∃ (src q : Nat) (r : Rec) (rest : List Rec) (s : State), s.trailNext src = some (r, rest) ∧ r.cls = .completion ∧ r.dst = q ∧ q < 16 ∧
      rising s.regs = true ∧ rising s.host = true ∧ s.destFull q = false ∧ s.destHolds q = false ∧
    let slot := s.rd64 R.EVQ_BASE_LO R.EVQ_BASE_HI [q] + s.rd R.EVQ_TAIL [q] % s.evqSize q * 32;
    let back := s.rd64 R.EVQ_TAILWB_LO R.EVQ_TAILWB_HI [q];
    (back + 4 ≤ slot ∨ slot + 32 ≤ back) :=
  ⟨1, 15, { rec0 with dst := 15 }, [],
    { ((on.put Fl.EVQ_CTRL_enable [15] 1).put Fl.EVQ_CTRL_log2size [15] 6).wr R.EVQ_TAILWB_LO [15] 0x9000 with raised := [{ rec0 with dst := 15 }] },
    by decide +kernel⟩

theorem witness_queue_head_and_reset :
    (∃ (q v : Nat) (s : State), q < 16 ∧ v < 2 ^ 32 ∧ s.reaches .evq = true ∧ rising s.regs = true ∧ (s.rd R.EVQ_TAIL [q] + 2 ^ 32 - v) %
      2 ^ 32 ≤ s.evqSize q) ∧
    (∃ (q v : Nat) (s : State), q < 16 ∧ v < 2 ^ 32 ∧ s.reaches .evq = true ∧ s.evqSize q < (s.rd R.EVQ_TAIL [q] + 2 ^ 32 - v) % 2 ^ 32) ∧
    (∃ (q : Nat) (s : State), q < 16 ∧ s.reaches .evq = true ∧ rising s.regs = true ∧ s.flag Fl.EVQ_CTRL_enable [q] = false) ∧
    (∃ (q : Nat) (s : State), s.reaches .evq = true ∧ s.flag Fl.EVQ_CTRL_enable [q] = true) :=
  ⟨⟨15, 0, on, by decide +kernel⟩,
   ⟨15, 1, on, by decide +kernel⟩,
   ⟨15, on.wr R.EVQ_TAIL [15] 3, by decide +kernel⟩,
   ⟨15, on.put Fl.EVQ_CTRL_enable [15] 1, by decide +kernel⟩⟩

theorem witness_held_records_and_moderation :
    (∃ (q : Nat) (s : State), q < 16 ∧ rising s.regs = true) ∧
    (∃ (q : Nat) (e : Held) (s : State), q < 16 ∧ q < s.dests.length ∧ rising s.regs = true ∧ rising s.host = true ∧ s.destFull q = false
      ∧ (s.dest q).held = [e] ∧ (s.dest q).lost = 0 ∧ (s.dest q).compl = [] ∧
    let slot := s.rd64 R.EVQ_BASE_LO R.EVQ_BASE_HI [q] + s.rd R.EVQ_TAIL [q] % s.evqSize q * 32;
    let back := s.rd64 R.EVQ_TAILWB_LO R.EVQ_TAILWB_HI [q];
    (back + 4 ≤ slot ∨ slot + 32 ≤ back)) ∧
    (∃ (q : Nat) (s : State), q < 16 ∧ q < s.dests.length ∧ (s.dest q).unsig ≠ 0 ∧ s.get Fl.EVQ_IMOD_timeout [q] ≠ 0) ∧
    (∃ (q : Nat) (s : State), q < 16 ∧ (s.dest q).unsig ≠ 0 ∧ s.get Fl.EVQ_IMOD_timeout [q] ≠ 0 ∧ s.msixEnable = true ∧ s.msixMask = false
      ∧ (lookAt 1 s.msixTable (4 * q + 3)).toNat % 2 = 0) ∧
    (∃ (q : Nat) (s : State), q < 16 ∧ (s.dest q).unsig ≠ 0 ∧ s.get Fl.EVQ_IMOD_timeout [q] ≠ 0 ∧ s.msixEnable = true ∧ (s.msixMask = true
      ∨ (lookAt 1 s.msixTable (4 * q + 3)).toNat % 2 = 1)) :=
  ⟨⟨15, on, by decide +kernel⟩,
   ⟨15, (⟨rec0, 1, false⟩ : Held),
     { ((on.put Fl.EVQ_CTRL_enable [15] 1).put Fl.EVQ_CTRL_log2size [15] 6).wr R.EVQ_TAILWB_LO [15] 0x9000 with dests := on.dests.set 15 { Dest.init with held := [⟨rec0, 1, false⟩] } },
     by decide +kernel⟩,
   ⟨15,
     { (on.put Fl.EVQ_IMOD_timeout [15] 1) with dests := on.dests.set 15 { Dest.init with unsig := 2 }, msixEnable := true, msixMask := false, msixTable := [(63, 0)] },
     by decide +kernel⟩,
   ⟨15,
     { (on.put Fl.EVQ_IMOD_timeout [15] 1) with dests := on.dests.set 15 { Dest.init with unsig := 2 }, msixEnable := true, msixMask := false, msixTable := [(63, 0)] },
     by decide +kernel⟩,
   ⟨15,
     { (on.put Fl.EVQ_IMOD_timeout [15] 1) with dests := on.dests.set 15 { Dest.init with unsig := 2 }, msixEnable := true, msixMask := true, msixTable := [(63, 0)] },
     by decide +kernel⟩⟩

theorem witness_limited_record_reports_all :
    ∃ (typ inst : Nat) (r : Rec) (s : State), ((s.limited.filter fun x => x.typ = typ && x.inst = inst).getLast? = some r) :=
  ⟨5, 6, { rec0 with typ := 5, inst := 6 }, { on with limited := [{ rec0 with typ := 5, inst := 6 }] }, by decide +kernel⟩

theorem witness_ring_doorbell_and_poll :
    (∃ (r v : Nat) (s : State), r < 4 ∧ v < 2 ^ 32 ∧ s.reaches .cmdq = true ∧ rising s.regs = true) ∧
    (∃ (r : Nat) (s : State), r < 4 ∧ rising s.regs = true ∧ s.flag Fl.CMDQ_CTRL_enable [r] = true ∧ s.flag Fl.CMDQ_STAT_halted [r] =
      false ∧ s.slot r = .waiting) ∧
    (∃ (r w : Nat) (s : State), r < 4 ∧ rising s.regs = true ∧ s.flag Fl.CMDQ_CTRL_enable [r] = true ∧ s.flag Fl.CMDQ_STAT_halted [r] =
      false ∧ s.slot r = .bad w ∧ (s.ring r).cursor = s.rd R.CMDQ_HEAD [r]) :=
  ⟨⟨3, 0xFFFFFFFF, on, by decide +kernel⟩,
   ⟨0, { ringOn.wr R.CMDQ_TAIL [0] 16 with host := [] }, by decide +kernel⟩,
   ⟨0, 8, { ringOn.wr R.CMDQ_TAIL [0] 16 with host := Mem.write [] 0x1000 (leBytes 4 8) }, by decide +kernel⟩⟩

theorem witness_packet_start_run_end :
    (∃ (p : Packet) (s : State),
    let u := (List.range 4).foldl (fun t r => t.cmdqLook r) s;
    (State.chooseNext ((List.range 4).filterMap fun r => u.runnable r) = some p) ∧ State.packetReserved p = false ∧ knownOpcode p.opcode =
      true ∧ s.rings.length = 4 ∧ p.ring < 4) ∧
    (∃ (p : Packet) (s : State),
    let u := (List.range 4).foldl (fun t r => t.cmdqLook r) s;
    (State.chooseNext ((List.range 4).filterMap fun r => u.runnable r) = some p) ∧ p.discard = false ∧ (State.packetReserved p = true ∨
      knownOpcode p.opcode = false)) ∧
    (∃ (id : Nat) (p : Packet) (s : State), s.started id 1 = some p) ∧
    (∃ (id st data : Nat) (p : Packet) (rest : List Packet) (s : State), (takeFirst (fun x => x.id = id && x.result.isSome) s.packets =
      some (p, rest)) ∧ p.result = some (st, data) ∧ p.discard = false ∧ (st ≠ stOk ∨ bit p.route 4 = false)) ∧
    (∃ (id : Nat) (p : Packet) (rest : List Packet) (s : State), (takeFirst (fun x => x.id = id && x.result.isSome) s.packets = some (p,
      rest)) ∧ p.discard = true) ∧
    (∃ (r len : Nat) (s : State), r < 4 ∧ rising s.host = true ∧ s.rings.length = 4 ∧ s.ringServed r = true ∧ s.slot r = .packet len ∧
      (s.packetAt r len).opcode = 0 ∧ s.fenced (s.packetAt r len) = false) :=
  ⟨⟨{ thePacket 1 with id := 0 }, ringOn.wr R.CMDQ_TAIL [0] 16, by decide +kernel⟩,
   ⟨{ thePacket 0x7777 with id := 0 }, { ringOn.wr R.CMDQ_TAIL [0] 16 with host := Mem.write [] 0x1000 (pkt 0x7777) }, by decide +kernel⟩,
   ⟨7, thePacket 1, { ringOn with packets := [thePacket 1] }, by decide +kernel⟩,
   ⟨7, 0x8000, 9, { thePacket 1 with result := some (0x8000, 9) }, [],
     { ringOn with packets := [{ thePacket 1 with result := some (0x8000, 9) }] }, by decide +kernel⟩,
   ⟨7, { thePacket 1 with result := some (0x8000, 9), discard := true }, [],
     { ringOn with packets := [{ thePacket 1 with result := some (0x8000, 9), discard := true }] }, by decide +kernel⟩,
   ⟨0, 16, { ringOn.wr R.CMDQ_TAIL [0] 16 with host := Mem.write [] 0x1000 (pkt 0) }, by decide +kernel⟩⟩

theorem witness_flush_and_host_function_reset :
    (∃ (r : Nat) (s : State), r < 4 ∧ rising s.regs = true ∧ s.flag Fl.CMDQ_CTRL_flush [r] = true ∧ (∀ p ∈ s.packets, p.ring = r →
      p.discard = true)) ∧
    (∃ (r : Nat) (s : State), r < 4 ∧ rising s.regs = true ∧ s.flag Fl.CMDQ_CTRL_flush [r] = true ∧ (∀ p ∈ s.packets, p.ring = r →
      p.discard = true) ∧ s.slot r = .empty) ∧
    (∃ (r len : Nat) (s : State), r < 4 ∧ rising s.regs = true ∧ s.flag Fl.CMDQ_CTRL_flush [r] = true ∧ (∀ p ∈ s.packets, p.ring = r →
      p.discard = true) ∧ s.slot r = .packet len ∧ (s.packetAt r len).opcode ≠ 0) ∧
    (∃ (kind : HostResetKind) (s : State), rising s.regs = true ∧ s.powered .evq = true ∧ s.powered .bulk = true ∧ s.powered .ord = true) :=
  ⟨⟨0, { ringOn.put Fl.CMDQ_CTRL_flush [0] 1 with packets := [] }, by decide +kernel⟩,
   ⟨0, ringOn.put Fl.CMDQ_CTRL_flush [0] 1, by decide +kernel⟩,
   ⟨0, 16, (ringOn.put Fl.CMDQ_CTRL_flush [0] 1).wr R.CMDQ_TAIL [0] 16, by decide +kernel⟩,
   ⟨.hot, on, by decide +kernel⟩⟩

theorem witness_dravya_operation_starts :
    (∃ (v op : Nat) (chk : State → DrvCode) (c : Instr) (s : State), ((c, op, chk) ∈ [(Instr.drvValidate v, 0, State.chkValidate),
      (Instr.drvStagePatch v, 1, State.chkStage), (Instr.drvWriteSlotA v, 2, State.chkSlot), (Instr.drvWriteSlotB v, 3, State.chkSlot),
      (Instr.drvClearFailedDawn v, 4, fun t => t.chkSetting true), (Instr.drvDiscardPatches v, 5, fun t => t.chkSetting false),
      (Instr.drvRaiseFloor v, 6, fun t => t.chkSetting true), (Instr.drvLoadFullImage v, 7, State.chkLoad), (Instr.drvFuseKey v, 8,
      State.chkFuse), (Instr.drvRevokeKey v, 9, State.chkRevoke)]) ∧ v < 2 ^ 32 ∧ s.reaches .drv = true ∧ rising s.regs = true ∧ bit v 0 =
      true ∧ bits v 7 4 = op ∧ bits v 10 8 ≤ 3 ∧ s.flag Fl.DRV_STAT_busy = false) ∧
    (∃ (v : Nat) (c : Instr) (s : State), c ∈ [Instr.drvValidate v, .drvStagePatch v, .drvWriteSlotA v, .drvWriteSlotB v,
      .drvClearFailedDawn v, .drvDiscardPatches v, .drvRaiseFloor v, .drvLoadFullImage v, .drvFuseKey v, .drvRevokeKey v] ∧ s.reaches .drv
      = true ∧ rising s.regs = true ∧ s.flag Fl.DRV_STAT_busy = true) :=
  ⟨⟨0x51, 5, fun t => t.chkSetting false, .drvDiscardPatches 0x51, on, (by simp), by decide +kernel⟩,
   ⟨0x51, .drvDiscardPatches 0x51, on.put Fl.DRV_STAT_busy [] 1, by decide +kernel⟩⟩

theorem witness_dravya_operation_ends :
    (∃ (op : Nat) (s : State), op ≤ 9 ∧ s.drv.run = some (op, 0, 0, 0) ∧ rising s.regs = true ∧ rising s.mram = true) ∧
    (∃ (op code sec off : Nat) (s : State), s.drv.run = some (op, code, sec, off) ∧ code ≠ 0 ∧ code < 256 ∧ sec < 256 ∧ off < 2 ^ 32 ∧
      rising s.regs = true) :=
  ⟨⟨9, { on with drv := { on.drv with run := some (9, 0, 0, 0) } }, by decide +kernel⟩,
   ⟨9, 255, 255, 0xFFFFFFFF, { on with drv := { on.drv with run := some (9, 255, 255, 0xFFFFFFFF) } }, by decide +kernel⟩⟩

theorem witness_commit_samples_shadows :
    (∃ (v : Nat) (s : State), v < 2 ^ 32 ∧ s.reaches .dev = true ∧ rising s.regs = true ∧ bit v 0 = true ∧ bits v 5 4 ≤ 2 ∧ s.front = none
      ∧ s.flag Fl.DEV_COMMIT_go = false ∧ (∀ x ∈ s.drv.staged, ∀ w ∈ x.presets, 0x10000 ≤ w.1)) ∧
    (∃ (v : Nat) (s : State), s.reaches .dev = true ∧ s.front.isSome = true) :=
  ⟨⟨1, on, by decide +kernel⟩,
   ⟨1, { on with front := some front0 }, by decide +kernel⟩⟩

theorem witness_front_is_issued :
    (∃ (f : Front) (s : State), s.front = some f ∧ s.pipeIdle f.refPipe = true ∧ rising s.regs = true ∧ (f.sky = true → f.go = true) ∧
    let u := s.reachClk (f.arrival + tFs);
    let w := if f.cond = 2 then u.reachDt f.time else u;
    w.epochRoom = true ∧ (f.cond = 2 → f.time ≤ w.dt)) ∧
    (∃ (counter : Nat) (f : Front) (r : StreamRec) (s : State), s.front = some f ∧ s.graph.streamOf f.refPipe = some r ∧ s.graph.stream?
      r.id = some r ∧ s.graph.pipeOf r.id = some f.refPipe ∧ r.mosaic = 0 ∧ rising s.regs = true ∧ (s.streamSt r.id).opened = none ∧
      (s.streamSt r.id).lastClosed ≠ some counter ∧ (r.stream, counter) ∉ (s.streamSt r.id).excl ∧ (f.sky = true → f.go = true) ∧ f.cond ≠
      1 ∧
    let u := s.reachClk (f.arrival + tFs);
    let w := if f.cond = 2 then u.reachDt f.time else u;
    w.sfeTakes = true ∧ w.epochRoom = true ∧ (f.cond ≠ 0 → f.targetSeen = true ∨ f.time ≤ w.dt) ∧ (∀ fid, w.beginsCycle f.refPipe fid =
      true)) ∧
    (∃ (f : Front) (fid newFid : Nat) (s : State), s.targetReached f fid = true ∧ s.time.clk < f.arrival + tFs ∧ rising s.regs = true) :=
  ⟨⟨front0, later { on with front := some front0 }, by decide +kernel⟩,
   ⟨7, front0, stream0, later { cam with front := some front0 }, (by decide +kernel), (by decide +kernel), (by decide +kernel),
     (by decide +kernel), (by decide +kernel), (by decide +kernel), (by decide +kernel), (by decide +kernel), (by decide +kernel),
     (by decide +kernel), (by decide +kernel), (by decide +kernel), (by decide +kernel), (by decide +kernel), by intro _; rfl⟩,
   ⟨{ front0 with arrival := 1 }, 5, 5, on, by decide +kernel⟩⟩

theorem witness_frames_and_pipelines_move :
    (∃ (u : FlowUnit) (p fid : Nat) (f : Frame) (s : State), s.frameIn u p fid = some f ∧ s.unitDone f u = true) ∧
    (∃ (p fid : Nat) (f : Frame) (s : State), s.frameIn .outf p fid = some f ∧ f.entered.contains .outf = false ∧ f.entered.contains .dvt
      = true ∧ s.powered .outf = true) ∧
    (∃ (u : FlowUnit) (p fid : Nat) (f : Frame) (s : State), s.frameIn u p fid = some f ∧ f.entered.contains u = true) ∧
    (∃ (p : Nat) (s : State), p < s.pipes.length ∧ (s.pipeSt p).draining = true ∧ s.drained p = true ∧ s.front = none) ∧
    (∃ (p : Nat) (s : State), p < 8 ∧ p < s.pipes.length ∧ (s.pipeSt p).idle = false ∧ s.front = none) :=
  ⟨⟨.cap, 0, 5, { frame0 with entered := [.cap], units := [.cap, .rcu] },
     { cam with frames := [{ frame0 with entered := [.cap], units := [.cap, .rcu] }] }, by decide +kernel⟩,
   ⟨0, 5, { frame0 with entered := [.dvt], units := [.outf] },
     { cam with frames := [{ frame0 with entered := [.dvt], units := [.outf] }] }, by decide +kernel⟩,
   ⟨.rct, 0, 5, { frame0 with entered := [.rct], units := [.rct, .dvt, .outf] },
     { cam with frames := [{ frame0 with entered := [.rct], units := [.rct, .dvt, .outf] }] }, by decide +kernel⟩,
   ⟨7, { on with pipes := on.pipes.set 7 { PipeSt.init with draining := true } }, by decide +kernel⟩,
   ⟨7, { on with pipes := on.pipes.set 7 { PipeSt.init with idle := false } }, by decide +kernel⟩⟩

theorem witness_lane_comes_up :
    (∃ (l sync payload : Nat) (s : State), s.laneOn l = false) ∧
    (∃ (l sync payload : Nat) (s : State), l < 64 ∧ s.Shaped ∧ rising s.regs = true ∧ s.laneOn l = true ∧ s.laneState l = 1 ∧ (sync = 1 ∨
      sync = 2) ∧ (sync = 1 → isAlign (payload % 2 ^ 64) = false) ∧ (s.lane l).valids = 63 ∧ blockError sync (descramble (s.lane l).scr
      (payload % 2 ^ 64)).1 = false) ∧
    (∃ (l payload : Nat) (s : State), l < 64 ∧ s.Shaped ∧ rising s.regs = true ∧ s.laneOn l = true ∧ s.laneState l = 2 ∧ isAlign (payload
      % 2 ^ 64) = true ∧ (s.lane l).logical = none) :=
  ⟨⟨63, 1, 0, State.reset, by decide +kernel⟩,
   ⟨63, 2, 0, { (cam.put Fl.SFE_L_STAT_state [63] 1) with lanes := cam.lanes.set 63 { Lane.init with valids := 63 } },
     (by decide +kernel), (by constructor <;> decide +kernel), by decide +kernel⟩,
   ⟨63, blkAlign + 256 * 0x05 + 2 ^ 24 * (255 - 5) + 2 ^ 32 * 0x69C33C,
     { (cam.put Fl.SFE_L_STAT_state [63] 2) with lanes := cam.lanes.set 63 Lane.init }, (by decide +kernel),
     (by constructor <;> decide +kernel), by decide +kernel⟩⟩

theorem witness_group_reacquires :
    (∃ (g : Nat) (s : State), g < 16 ∧ s.reaches .sfe = true ∧ rising s.regs = true ∧ s.flag Fl.SFE_G_CTRL_reacquire [g] = false ∧ (∀ l ∈
      s.groupLanes g, l < 64) ∧ s.Shaped) ∧
    (∃ (g : Nat) (s : State), g < 16 ∧ rising s.regs = true) :=
  ⟨⟨15, on, (by decide +kernel), (by decide +kernel), (by decide +kernel), (by decide +kernel), (by decide +kernel),
     by constructor <;> decide +kernel⟩,
   ⟨15, on, by decide +kernel⟩⟩

theorem witness_sensor_link_packets_and_frames :
    (∃ (g : Nat) (pkt : Bytes) (r : StreamRec) (s : State), s.PacketFor g 1 pkt r ∧ s.Shaped ∧ (s.streamSt r.id).opened = none ∧
      (s.streamSt r.id).lastClosed ≠ some (parseHdr pkt).counter ∧ ((parseHdr pkt).stream, (parseHdr pkt).counter) ∉ (s.streamSt
      r.id).excl ∧ crc32c ((pkt.drop 16).take (parseHdr pkt).length) = (parseHdr pkt).pcrc) ∧
    (∃ (g area : Nat) (full : Bool) (c : Instr) (pkt : Bytes) (r : StreamRec) (f : OpenFrame) (q : Src) (s : State), (c, area) ∈
      [(Instr.line g pkt full, 0), (Instr.obline g pkt full, 1)] ∧ s.PacketFor g (3 + area) pkt r ∧ (s.streamSt r.id).opened = some f ∧
      f.free = false ∧ s.srcState r.id (parseHdr pkt).stream = some q ∧ q.st = 1 ∧ q.cnt = (parseHdr pkt).counter ∧ ((parseHdr
      pkt).stream, (parseHdr pkt).counter) ∉ (s.streamSt r.id).excl ∧ crc32c ((pkt.drop 16).take (parseHdr pkt).length) = (parseHdr
      pkt).pcrc) ∧
    (∃ (g : Nat) (pkt : Bytes) (r : StreamRec) (f : OpenFrame) (q : Src) (s : State), s.PacketFor g 5 pkt r ∧ s.Shaped ∧ (s.streamSt
      r.id).opened = some f ∧ f.free = false ∧ s.srcState r.id (parseHdr pkt).stream = some q ∧ q.st = 1 ∧ q.cnt = (parseHdr pkt).counter
      ∧ ((parseHdr pkt).stream, (parseHdr pkt).counter) ∉ (s.streamSt r.id).excl ∧ crc32c ((pkt.drop 16).take (parseHdr pkt).length) =
      (parseHdr pkt).pcrc) ∧
    (∃ (g : Nat) (pkt : Bytes) (r : StreamRec) (f : OpenFrame) (q : Src) (s : State), s.PacketFor g 2 pkt r ∧ s.Shaped ∧ (s.streamSt
      r.id).opened = some f ∧ f.free = false ∧ f.srcs = [q] ∧ q.die = (parseHdr pkt).stream ∧ q.st = 1 ∧ q.cnt = (parseHdr pkt).counter ∧
      ((parseHdr pkt).stream, (parseHdr pkt).counter) ∉ (s.streamSt r.id).excl) ∧
    (∃ (n : Nat) (r : StreamRec) (f : OpenFrame) (s : State), n < 64 ∧ s.Shaped ∧ rising s.regs = true ∧ s.graph.stream? n = some r ∧
      (s.streamSt n).opened = some f) ∧
    (∃ (n : Nat) (s : State), (s.streamSt n).opened = none) :=
  ⟨⟨0, slk 1 [], stream0, cam, (by constructor <;> decide +kernel), (by constructor <;> decide +kernel), by decide +kernel⟩,
   ⟨0, 0, false, .line 0 (slk 3 (List.replicate 128 0)) false, slk 3 (List.replicate 128 0), stream0, open0, src0, camOpen, (by simp),
     (by constructor <;> decide +kernel), by decide +kernel⟩,
   ⟨0, slk 5 [1, 2], stream0, open0, src0, camOpen, (by constructor <;> decide +kernel), (by constructor <;> decide +kernel),
     by decide +kernel⟩,
   ⟨0, slk 2 [], stream0, open0, src0, camOpen, (by constructor <;> decide +kernel), (by constructor <;> decide +kernel),
     by decide +kernel⟩,
   ⟨63, { stream0 with id := 63, source := 1, group := 3, stream := 15 }, openC, camCsi, (by decide +kernel),
     (by constructor <;> decide +kernel), by decide +kernel⟩,
   ⟨0, cam, by decide +kernel⟩⟩

theorem witness_csi_packets_taken :
    (∃ (c : Nat) (h : CsiHdr) (r : StreamRec) (s : State), s.CsiFor c h r ∧ s.Shaped ∧ (s.streamSt r.id).opened = none ∧ (h.wc = 0 ∨
      (s.streamSt r.id).lastClosed ≠ some h.wc) ∧ (r.stream, h.wc) ∉ (s.streamSt r.id).excl) ∧
    (∃ (c : Nat) (h : CsiHdr) (r : StreamRec) (f : OpenFrame) (q : Src) (s : State), s.CsiFor c h r ∧ s.Shaped ∧ (s.streamSt r.id).opened
      = some f ∧ f.free = true ∧ f.srcs = [q] ∧ q.die = r.stream) ∧
    (∃ (c : Nat) (h : CsiHdr) (data : Bytes) (full : Bool) (r : StreamRec) (f : OpenFrame) (s : State), s.CsiFor c h r ∧ h.dt = 0x2B +
      r.container ∧ State.wholeGroups r.container data.length 0 = true ∧ (s.streamSt r.id).opened = some f ∧ h.crcOk = true) ∧
    (∃ (c : Nat) (h : CsiHdr) (data : Bytes) (r : StreamRec) (f : OpenFrame) (s : State), s.CsiFor c h r ∧ s.Shaped ∧ (s.streamSt
      r.id).opened = some f ∧ h.crcOk = true) ∧
    (∃ (c : Nat) (h : CsiHdr) (s : State), c < 4 ∧ s.sfeTakes = true ∧ s.graph.portOn 2 c = true ∧ h.eccOk = true ∧ h.eccFixed = false ∧
      h.vc ≤ 15) :=
  ⟨⟨3, csi0, { stream0 with id := 63, source := 1, group := 3, stream := 15 }, cam, (by constructor <;> decide +kernel),
     (by constructor <;> decide +kernel), by decide +kernel⟩,
   ⟨3, { csi0 with dt := 1 }, { stream0 with id := 63, source := 1, group := 3, stream := 15 }, openC, { src0 with die := 15 }, camCsi,
     (by constructor <;> decide +kernel), (by constructor <;> decide +kernel), by decide +kernel⟩,
   ⟨3, { csi0 with dt := 0x2E, wc := 128 }, (List.replicate 128 0), false,
     { stream0 with id := 63, source := 1, group := 3, stream := 15 }, openC, camCsi, (by constructor <;> decide +kernel),
     by decide +kernel⟩,
   ⟨3, { csi0 with dt := 0x12, wc := 2 }, [1, 2], { stream0 with id := 63, source := 1, group := 3, stream := 15 }, openC, camCsi,
     (by constructor <;> decide +kernel), (by constructor <;> decide +kernel), by decide +kernel⟩,
   ⟨3, { csi0 with dt := 0x3F }, cam, by decide +kernel⟩⟩

theorem witness_generators_and_triggers :
    (∃ (g k : Nat) (s : State), g < 8 ∧ s.Shaped ∧ rising s.regs = true ∧
    let c := s.sgCfg g;
    let u := s.reachEdge c (s.sg g);
    u.dueEdge c (u.sg g) = some (k, 0) ∧ State.pulseWidth c ≠ 0 ∧ c.line < 48 ∧ u.get Fl.TIME_L_CTRL_src [c.line] = 1 + g ∧ u.lineOut
      c.line = true ∧ (u.sg g).on = none) ∧
    (∃ (g at_ l : Nat) (low : Bool) (s : State), g < 8 ∧ s.Shaped ∧ rising s.regs = true ∧ (s.sg g).on = some (at_, l, low) ∧ l < 48 ∧
      s.get Fl.TIME_L_CTRL_src [l] = 1 + g ∧ s.lineOut l = true) ∧
    (∃ (k j l : Nat) (s : State), k < 4 ∧ s.Shaped ∧ rising s.regs = true ∧
    let c := s.psCfg k;
    let u := s.reachEdge c (s.pss.getD k Gen.init);
    u.dueEdge c (u.pss.getD k Gen.init) = some (j, 0) ∧ State.pulseWidth c ≠ 0 ∧ l < 48 ∧ u.get Fl.TIME_L_CTRL_src [l] = 9 + k ∧ u.lineOut
      l = true ∧ (u.pss.getD k Gen.init).on = none) ∧
    (∃ (k at_ l m : Nat) (low : Bool) (s : State), k < 4 ∧ s.Shaped ∧ rising s.regs = true ∧ (s.pss.getD k Gen.init).on = some (at_, m,
      low) ∧ l < 48 ∧ s.get Fl.TIME_L_CTRL_src [l] = 9 + k ∧ s.lineOut l = true) ∧
    (∃ (l width : Nat) (up : Bool) (s : State), l < 48 ∧ rising s.regs = true ∧ s.graph.portOn 0x11 (l / 8) = true ∧ 2 * s.get
      Fl.TIME_L_CTRL_filt [l] ≤ width ∧ bit (s.get Fl.TIME_L_CTRL_edge [l]) (if up then 0 else 1) = true) ∧
    (∃ (l width : Nat) (up : Bool) (s : State), width < 2 * s.get Fl.TIME_L_CTRL_filt [l]) :=
  ⟨⟨7, 0, inEffect
     { ((((((cam.put Fl.SFE_SG_CTRL_mode [7] 1).put Fl.SFE_SG_CTRL_line [7] 47).wr R.SFE_SG_PERIOD [7] 1000).wr R.SFE_SG_WIDTH [7] 100).put Fl.TIME_L_CTRL_src [47] 8)) with sgs := cam.sgs.set 7 { Gen.init with next := some 0 } },
     (by decide +kernel), (by constructor <;> decide +kernel), by decide +kernel⟩,
   ⟨7, 50, 47, false, inEffect
     { ((((((cam.put Fl.SFE_SG_CTRL_mode [7] 1).put Fl.SFE_SG_CTRL_line [7] 47).wr R.SFE_SG_PERIOD [7] 1000).wr R.SFE_SG_WIDTH [7] 100).put Fl.TIME_L_CTRL_src [47] 8)) with sgs := cam.sgs.set 7 { Gen.init with on := some (50, 47, false) } },
     (by decide +kernel), (by constructor <;> decide +kernel), by decide +kernel⟩,
   ⟨3, 0, 47, inEffect
     { (((((cam.put Fl.TIME_PS_CTRL_mode [3] 1).wr R.TIME_PS_PERIOD [3] 1000).wr R.TIME_PS_WIDTH [3] 100).put Fl.TIME_L_CTRL_src [47] 12)) with pss := cam.pss.set 3 { Gen.init with next := some 0 } },
     (by decide +kernel), (by constructor <;> decide +kernel), by decide +kernel⟩,
   ⟨3, 50, 47, 47, false, inEffect
     { (((((cam.put Fl.TIME_PS_CTRL_mode [3] 1).wr R.TIME_PS_PERIOD [3] 1000).wr R.TIME_PS_WIDTH [3] 100).put Fl.TIME_L_CTRL_src [47] 12)) with pss := cam.pss.set 3 { Gen.init with on := some (50, 47, false) } },
     (by decide +kernel), (by constructor <;> decide +kernel), by decide +kernel⟩,
   ⟨47, 0, true, { on.put Fl.TIME_L_CTRL_edge [47] 1 with graph := graph0 }, by decide +kernel⟩,
   ⟨47, 1, true, on.put Fl.TIME_L_CTRL_filt [47] 1, by decide +kernel⟩⟩

theorem witness_time_bases_move :
    (∃ (n hi : Nat) (s : State), n < 4 ∧ s.reaches .time = true ∧ rising s.regs = true ∧ s.Shaped ∧
    let v := s.pairValue R.TIME_TB_INC_LO [n] hi;
    0x1FF7CED91 ≤ v ∧ v ≤ 0x20083126F) ∧
    (∃ (n hi : Nat) (s : State), n < 4 ∧ s.reaches .time = true ∧
    let v := s.pairValue R.TIME_TB_INC_LO [n] hi;
    (v < 0x1FF7CED91 ∨ 0x20083126F < v)) ∧
    (∃ (n hi : Nat) (s : State), n < 4 ∧ n ≠ 2 ∧ s.reaches .time = true ∧ rising s.regs = true ∧ s.Shaped ∧ s.baseIgnored n = false ∧
    let d : Int := signed 64 (s.pairValue R.TIME_TB_ADJ_LO [n] hi) * (2 ^ 32 : Nat);
    0 ≤ (s.time.tb.getD n 0 : Nat) + d ∧ (s.time.tb.getD n 0 : Nat) + d < (2 ^ 96 : Nat)) ∧
    (∃ (hi : Nat) (s : State), s.reaches .time = true) ∧
    (∃ (n : Nat) (s : State), n < 4 ∧ s.reaches .time = true ∧ rising s.regs = true ∧ s.Shaped ∧ s.flag Fl.TIME_DT_STAT_holdover = false) ∧
    (∃ (n : Nat) (s : State), n < 2 ∧ s.reaches .time = true ∧ rising s.regs = true ∧ s.flag Fl.TIME_DT_STAT_holdover = true ∧ s.get
      Fl.TIME_DT_STAT_active = n) ∧
    (∃ (n : Nat) (s : State), n < 4 ∧ s.reaches .time = true ∧ rising s.regs = true ∧ s.tracking n = true ∧ (s.flag Fl.TIME_DT_CTRL_auto =
      false ∨ s.get Fl.TIME_DT_STAT_active ≠ n)) ∧
    (∃ (n : Nat) (s : State), n < 2 ∧ s.reaches .time = true ∧ rising s.regs = true ∧ s.tracking n = true ∧ s.flag Fl.TIME_DT_CTRL_auto =
      true ∧ s.get Fl.TIME_DT_STAT_active = n ∧ s.tracking (1 - n) = true) ∧
    (∃ (n : Nat) (s : State), n < 2 ∧ s.reaches .time = true ∧ rising s.regs = true ∧ s.tracking n = true ∧ s.flag Fl.TIME_DT_CTRL_auto =
      true ∧ s.get Fl.TIME_DT_STAT_active = n ∧ s.tracking (1 - n) = false) ∧
    (∃ (n : Nat) (s : State), n < 4 ∧ rising s.regs = true ∧ s.tracking n = true ∧ (s.flag Fl.TIME_DT_CTRL_auto = false ∨ s.get
      Fl.TIME_DT_STAT_active ≠ n)) ∧
    (∃ (v : Nat) (s : State), v < 2 ^ 32 ∧ s.reaches .time = true ∧ rising s.regs = true ∧ bit v 8 = true) ∧
    (∃ s : State, rising s.regs = true ∧ s.flag Fl.TIME_DT_STAT_slewing = true) ∧
    (∃ (v : Nat) (s : State), s.reaches .time = true ∧ rising s.regs = true ∧ bit v 0 = true) :=
  ⟨⟨3, 2, on.wr R.TIME_TB_INC_LO [3] 0x83126F, (by decide +kernel), (by decide +kernel), (by decide +kernel),
     (by constructor <;> decide +kernel), by decide +kernel⟩,
   ⟨3, 2, on.wr R.TIME_TB_INC_LO [3] 0x831270, by decide +kernel⟩,
   ⟨3, 0xFFFFFFFF, { on.wr R.TIME_TB_ADJ_LO [3] 0xFFFFFFFF with time := { on.time with tb := [0, 0, 0, 0x100000000] } },
     (by decide +kernel), (by decide +kernel), (by decide +kernel), (by decide +kernel), (by constructor <;> decide +kernel),
     by decide +kernel⟩,
   ⟨0, on, by decide +kernel⟩,
   ⟨3, on, (by decide +kernel), (by decide +kernel), (by decide +kernel), (by constructor <;> decide +kernel), by decide +kernel⟩,
   ⟨1, (on.put Fl.TIME_DT_STAT_holdover [] 1).put Fl.TIME_DT_STAT_active [] 1, by decide +kernel⟩,
   ⟨3, on.put Fl.TIME_TB_STAT_tracking [3] 1, by decide +kernel⟩,
   ⟨1, (((on.put Fl.TIME_TB_STAT_tracking [1] 1).put Fl.TIME_TB_STAT_tracking [0] 1).put Fl.TIME_DT_CTRL_auto [] 1).put
     Fl.TIME_DT_STAT_active [] 1, by decide +kernel⟩,
   ⟨1, ((on.put Fl.TIME_TB_STAT_tracking [1] 1).put Fl.TIME_DT_CTRL_auto [] 1).put Fl.TIME_DT_STAT_active [] 1, by decide +kernel⟩,
   ⟨3, on.put Fl.TIME_TB_STAT_tracking [3] 1, by decide +kernel⟩,
   ⟨0x103, on, by decide +kernel⟩,
   ⟨on.put Fl.TIME_DT_STAT_slewing [] 1, by decide +kernel⟩,
   ⟨1, on, by decide +kernel⟩⟩

theorem witness_ptp_genlock_timecode :
    (∃ (p v typ dom seq : Nat) (s : State), p < 6 ∧ v < 2 ^ 32 ∧ s.reaches .time = true ∧ rising s.regs = true ∧ s.Shaped ∧ bit v 31 =
      true ∧ s.netOn p = true ∧ 14 ≤ bits v 8 0 ∧ bits v 8 0 ≤ 256 ∧
    let b := ((List.range 64).flatMap fun j => leBytes 4 (s.rd R.TIME_PT_TXBUF [p, j])).take (bits v 8 0);
    let stamp := s.stampAt (s.ptpBase dom) (s.lat R.TIME_PT_TXLAT p - (if typ = 1 then s.lat R.TIME_PT_ASYM p else 0));
    State.ptpMsg b = some (typ, dom, seq, true) ∧ (s.time.txq.getD p []).length < 16) ∧
    (∃ (p : Nat) (s : State), p < 6 ∧ s.reaches .time = true ∧ rising s.regs = true ∧ s.Shaped) ∧
    (∃ (p typ dom seq : Nat) (event : Bool) (b : Bytes) (s : State), p < 6 ∧ rising s.regs = true ∧ rising s.host = true ∧ s.netOn p =
      true ∧ State.ptpMsg b = some (typ, dom, seq, event) ∧ s.flag Fl.TIME_PT_RX_CTRL_enable [p] = true ∧
    let tail := s.rd R.TIME_PT_RX_TAIL [p];
    let size := 2 ^ s.get Fl.TIME_PT_RX_CTRL_log2size [p];
    let slot := s.rd64 R.TIME_PT_RX_BASE_LO R.TIME_PT_RX_BASE_HI [p] + tail % size * 256;
    let back := s.rd64 R.TIME_PT_RX_TAILWB_LO R.TIME_PT_RX_TAILWB_HI [p];
    (tail + 2 ^ 32 - s.rd R.TIME_PT_RX_HEAD [p]) % 2 ^ 32 < size ∧ (back + 4 ≤ slot ∨ slot + 256 ≤ back)) ∧
    (∃ (p : Nat) (b : Bytes) (s : State), p < 6 ∧ s.netOn p = true ∧ (State.ptpMsg b).isSome = true ∧ s.flag Fl.TIME_PT_RX_CTRL_enable [p]
      = false) ∧
    (∃ (p : Nat) (b : Bytes) (s : State), s.netOn p = false) ∧
    (∃ (std : Nat) (s : State), std < 256 ∧ rising s.regs = true) ∧
    (∃ s : State, rising s.regs = true) ∧
    (∃ (tc ub period : Nat) (df : Bool) (s : State), tc < 2 ^ 32 ∧ ub < 2 ^ 32 ∧ rising s.regs = true ∧ s.flag Fl.TIME_LTCI_CTRL_enable =
      true) ∧
    (∃ s : State, rising s.regs = true ∧ s.flag Fl.TIME_LTCI_STAT_locked = true) ∧
    (∃ s : State, rising s.regs = true ∧ s.flag Fl.TIME_LTCO_CTRL_enable = true) ∧
    (∃ (v : Nat) (s : State), s.reaches .time = true ∧ rising s.regs = true) :=
  ⟨⟨5, 0x80000030, 0, 0, 0, netUp.wr R.TIME_PT_TXBUF [5, 3] 0xF788, (by decide +kernel), (by decide +kernel), (by decide +kernel),
     (by decide +kernel), (by constructor <;> decide +kernel), by decide +kernel⟩,
   ⟨5, { on with time := { on.time with txq := on.time.txq.set 5 [(1, 2, 3)] } }, (by decide +kernel), (by decide +kernel),
     (by decide +kernel), by constructor <;> decide +kernel⟩,
   ⟨5, 0, 0, 0, true, ptp0, (netUp.put Fl.TIME_PT_RX_CTRL_enable [5] 1).wr R.TIME_PT_RX_TAILWB_LO [5] 0x90000, by decide +kernel⟩,
   ⟨5, ptp0, netUp, by decide +kernel⟩,
   ⟨5, ptp0, on, by decide +kernel⟩,
   ⟨255, on, by decide +kernel⟩,
   ⟨on.put Fl.TIME_GL_STAT_locked [] 1, by decide +kernel⟩,
   ⟨0xFFFFFFFF, 0, 40000000, true, on.put Fl.TIME_LTCI_CTRL_enable [] 1, by decide +kernel⟩,
   ⟨on.put Fl.TIME_LTCI_STAT_locked [] 1, by decide +kernel⟩,
   ⟨on.put Fl.TIME_LTCO_CTRL_enable [] 1, by decide +kernel⟩,
   ⟨0xFFFFFFFF, on, by decide +kernel⟩⟩

theorem witness_tiles_work_their_stripes :
    (∃ (tile p fid base : Nat) (f : Frame) (r : StreamRec) (s : State), s.tileWork .rct 1 tile fid = some p ∧ s.frameIn .rct p fid = some
      f ∧ f.entered.contains .rct = true ∧ f.owes.contains (1, tile) = true ∧ s.rctTakes f tile = true ∧ s.replaying 1 tile fid = false ∧
      s.stripeSpoilt 1 tile fid = false ∧ s.slotAddr f.epoch p f.slot = some (r, base)) ∧
    (∃ (tile p fid : Nat) (f : Frame) (s : State), s.tileWork .rcu 2 tile fid = some p ∧ s.frameIn .rcu p fid = some f ∧ (f.units.contains
      .cap = true → f.entered.contains .cap = true) ∧ f.entered.contains .rcu = true ∧ f.owes.contains (2, tile) = true ∧ s.powered (.rcu
      tile) = true ∧ s.replaying 2 tile fid = false ∧ s.stripeSpoilt 2 tile fid = false ∧ (∃ o ∈ f.owes, o.1 = 2 ∧ o ≠ (2, tile))) ∧
    (∃ (tile p fid : Nat) (f : Frame) (r : StreamRec) (s : State), s.tileWork .dvt 3 tile fid = some p ∧ s.frameIn .dvt p fid = some f ∧
      (s.graphOf f.epoch).streamOf p = some r ∧ (f.units.contains .cap = true → f.entered.contains .cap = true) ∧ f.entered.contains .dvt
      = true ∧ f.owes.contains (3, tile) = true ∧ s.powered (.dvt tile) = true ∧ s.replaying 3 tile fid = false ∧ s.stripeSpoilt 3 tile
      fid = false) :=
  ⟨⟨0, 0, 5, 0x200000, { frame0 with units := [.rct], entered := [.rct], owes := [(1, 0)] }, stream0, withFrame
     { frame0 with units := [.rct], entered := [.rct], owes := [(1, 0)] }, by decide +kernel⟩,
   ⟨0, 0, 5, { frame0 with units := [.rcu], entered := [.rcu], owes := [(2, 0), (2, 1)] }, withFrame
     { frame0 with units := [.rcu], entered := [.rcu], owes := [(2, 0), (2, 1)] }, by decide +kernel⟩,
   ⟨0, 0, 5, { frame0 with units := [.dvt], entered := [.dvt], owes := [(3, 0)] }, stream0, withFrame
     { frame0 with units := [.dvt], entered := [.dvt], owes := [(3, 0)] }, by decide +kernel⟩⟩

theorem witness_branch_frames_are_published :
    (∃ (p b fid slot : Nat) (full : Bool) (f : Frame) (br : BranchRec) (ed : EdgeRec) (buf : BufferRec) (s : State), p < 8 ∧ b < 8 ∧
      s.Shaped ∧ s.frameIn (.branch b) p fid = some f ∧ (s.epochRec f.epoch).graph.branch? p b = some br ∧ (s.epochRec
      f.epoch).graph.branchEdge? p b = some ed ∧ f.entered.contains (.branch b) = false ∧ (f.units.contains .dvt = true → State.tilesDone
      f .dvt 3 = true) ∧ s.powered .outf = true ∧ br.consumer ≠ srcMPC ∧ (s.epochRec f.epoch).graph.buffer? ed.buffer = some buf ∧ ed.via
      = 1 ∧ s.outfNeed (p * 8 + b) f.epoch br ≤ s.eff f.epoch Fl.OUTF_STRIDE_value [p * 8 + b] * 4096 ∧ s.batchN (p * 8 + b) f.epoch = 1 ∧
      (s.outf (p * 8 + b)).batch = none ∧ ((((List.range buf.depth).map fun k => ((s.outf (p * 8 + b)).next + k) % buf.depth).find? fun k
      => !((s.heldSlots (p * 8 + b)).contains k)) = some slot) ∧ s.hbmc.down = [] ∧ rising s.hbm = true ∧ rising s.regs = true) ∧
    (∃ (p b : Nat) (q : BranchFrame) (rest : List BranchFrame) (br : BranchRec) (s : State), p < 8 ∧ b < 8 ∧ s.Shaped ∧ rising s.regs =
      true ∧ (s.outf (p * 8 + b)).pend = q :: rest ∧ (s.graphOf q.epoch).branch? p b = some br ∧ br.consumer ≠ srcMPC ∧ br.consumer ≠
      srcVCE ∧ ((s.hlt.replays.any fun r => r.pipe = p && q.fid ≤ r.fid && r.fid ≤ q.last) = false) ∧ s.hbmc.down = [] ∧ rising s.hbm =
      true) ∧
    (∃ (p b : Nat) (q : BranchFrame) (rest : List BranchFrame) (br : BranchRec) (s : State), p < 8 ∧ b < 8 ∧ s.Shaped ∧ (s.outf (p * 8 +
      b)).pend = q :: rest ∧ (s.graphOf q.epoch).branch? p b = some br ∧ br.consumer = srcMPC ∧ ((s.hlt.replays.any fun r => r.pipe = p &&
      q.fid ≤ r.fid && r.fid ≤ q.last) = false) ∧ ((((s.graphOf q.epoch).pipe? p).map fun r => r.prot).getD false = false)) ∧
    (∃ (r i v : Nat) (s : State), r < 32 ∧ i < 64 ∧ rising s.regs = true ∧ s.rd64 R.MPC_RP_INWIN_LO R.MPC_RP_INWIN_HI [r] ≠ 0 ∧
      (((s.graph.branch? (i / 8) (i % 8)).any fun b => b.consumer = srcMPC && b.inst = r) = true)) :=
  ⟨⟨0, 0, 5, 0, false, { frame0 with units := [.branch 0], entered := [], owes := [] }, ⟨0, 0, 0, 0, 2, 2, srcDISP, 0⟩, ⟨0x300, 0x400, 1,
     2, 0, 0⟩, ⟨2, 1, 4, 0x100000⟩, withFrame { frame0 with units := [.branch 0], entered := [], owes := [] }, (by decide +kernel),
     (by decide +kernel), (by constructor <;> decide +kernel), by decide +kernel⟩,
   ⟨0, 0, branchFrame0, [], ⟨0, 0, 0, 0, 2, 2, srcDISP, 0⟩,
     { cam1 with outfs := cam1.outfs.set 0 { OutfSt.init with pend := [branchFrame0] } }, (by decide +kernel), (by decide +kernel),
     (by constructor <;> decide +kernel), by decide +kernel⟩,
   ⟨7, 7, branchFrame0, [], ⟨7, 7, 0, 0, 2, 2, srcMPC, 31⟩,
     { cam1 with outfs := cam1.outfs.set 63 { OutfSt.init with pend := [branchFrame0] } }, (by decide +kernel), (by decide +kernel),
     (by constructor <;> decide +kernel), by decide +kernel⟩,
   ⟨31, 63, 0xFFFFFFFF, cam1.wr R.MPC_RP_INWIN_LO [31] 0x1000, by decide +kernel⟩⟩

theorem witness_capture_routes_and_segments :
    (∃ (p fid : Nat) (f : Frame) (s : State), s.Shaped ∧ p < 8 ∧ s.frameIn .cap p fid = some f ∧ f.entered.contains .cap = false ∧
      (f.units.contains .rct = true → State.tilesDone f .rct 1 = true) ∧ s.powered .cap = true ∧ bit f.fsw fswReissued = false) ∧
    (∃ (p k base : Nat) (fr : Nat × Nat × Nat) (r : StreamRec) (s : State), s.Shaped ∧ p < 8 ∧ k < (s.cap p).segs.length ∧ s.drainNext p =
      some k ∧ (s.segSt p k).frames[(s.segSt p k).done]? = some fr ∧ s.slotAddr (s.pipeEpoch p) p fr.1 = some (r, base) ∧ s.liveWaits p =
      false ∧ s.powered .cap = true) ∧
    (∃ (p v : Nat) (s : State), s.Shaped ∧ p < 8 ∧ v < 2 ^ 32 ∧ s.reaches .cap = true ∧ bit v 0 = true ∧ s.effP p Fl.CAP_MODE_mode [p] = 1
      ∧ s.openSeg p = none ∧ (s.cap p).ring = [] ∧ (s.cap p).gone = none ∧ (∀ b ∈ (s.pipeSt p).bounds, (s.dt : Int) + signed 32 (s.effPRd
      p R.CAP_TADJ [p]) ≤ (b : Int) → b ∉ (s.cap p).trigSeen)) ∧
    (∃ (p : Nat) (s : State), s.Shaped ∧ p < 8 ∧ s.powered .cap = true ∧ s.effP p Fl.CAP_TRIG_src [p] = 2 ∧ s.effP p Fl.CAP_MODE_mode [p]
      = 1 ∧ s.openSeg p = none ∧ (s.cap p).ring = [] ∧ (s.cap p).gone = none ∧
    let time := s.effPRd p R.CAP_TTIME_LO [p] + 2 ^ 32 * s.effPRd p R.CAP_TTIME_HI [p];
    (s.cap p).ttimeDone ≠ some time ∧ (∀ b ∈ (s.pipeSt p).bounds, (time : Int) + signed 32 (s.effPRd p R.CAP_TADJ [p]) ≤ (b : Int) → b ∉
      (s.cap p).trigSeen)) ∧
    (∃ (p v : Nat) (s : State), s.Shaped ∧ p < 8 ∧ v < 2 ^ 32 ∧ s.reaches .cap = true ∧ rising s.regs = true ∧ bit v 0 = true) ∧
    (∃ (p k : Nat) (s : State), s.Shaped ∧ p < 8 ∧ k < 16 ∧ s.reaches .cap = true ∧ rising s.regs = true ∧ (s.segState p k = 2 ∨
      s.segState p k = 4)) ∧
    (∃ (p k : Nat) (s : State), s.Shaped ∧ p < 8 ∧ k < 16 ∧ s.reaches .cap = true ∧ rising s.regs = true ∧ s.segState p k = 1) :=
  ⟨⟨0, 5, { frame0 with units := [.cap, .rcu], entered := [], owes := [] }, withFrame
     { frame0 with units := [.cap, .rcu], entered := [], owes := [] }, (by constructor <;> decide +kernel), by decide +kernel⟩,
   ⟨0, 15, 0x200000, (0, 5, 0), stream0,
     { cam1 with caps := cam1.caps.set 0 { CapSt.init with order := [(15, true)], segs := CapSt.init.segs.set 15 { Seg.init with frames := [(0, 5, 0)] } } },
     (by constructor <;> decide +kernel), by decide +kernel⟩,
   ⟨7, 1, inEffect (cam1.put Fl.CAP_MODE_mode [7] 1), (by constructor <;> decide +kernel), by decide +kernel⟩,
   ⟨7, inEffect ((cam1.put Fl.CAP_MODE_mode [7] 1).put Fl.CAP_TRIG_src [7] 2), (by constructor <;> decide +kernel), by decide +kernel⟩,
   ⟨7, 0xF01, sealed 2, (by constructor <;> decide +kernel), by decide +kernel⟩,
   ⟨7, 15, sealed 4, (by constructor <;> decide +kernel), by decide +kernel⟩,
   ⟨7, 15, sealed 1, (by constructor <;> decide +kernel), by decide +kernel⟩⟩

theorem witness_recorder_volumes :
    (∃ (id : Nat) (ports : List MediaPort) (q : Packet) (s : State), s.started id 0x100 = some q) ∧
    (∃ (id uuid now : Nat) (q : Packet) (s : State), s.started id 0x101 = some q ∧ s.rs.landed = false ∧ s.rs.dusk = false ∧ s.rs.takes =
      [] ∧ rising s.media = true ∧
    let a (i n : Nat) : Nat := fieldLe q.body i n;
    let idx := (List.range 32).filter fun i => bit (a 16 4) i;
    let cs := idx.filterMap fun i => s.rs.cands[i]?;
    let rows := volumeRows (cs.map fun c => c.blocks) (idx.length - a 20 1);
    let rb := (idx.length - a 20 1) * 256;
    2 ≤ idx.length ∧ a 20 1 ≤ 2 ∧ a 20 1 < idx.length ∧ cs.length = idx.length ∧ (∀ c ∈ cs, c.eligible = true) ∧ ((cs.map fun c =>
      c.unit_).Nodup) ∧ (a 21 1 = 0 ∨ (20 ≤ a 21 1 ∧ a 21 1 ≤ 32)) ∧ (a 22 2 = 0 ∨ 64 ≤ a 22 2) ∧ a 32 8 ≤ 268435456 ∧ ((layRegions rows
      rb (if a 21 1 = 0 then 27 else a 21 1) (if a 22 2 = 0 then 1024 else a 22 2) (a 24 8) (a 32 8)).getD 6 (0, 0)).1 + rb < rows * rb) ∧
    (∃ (id : Nat) (q : Packet) (s : State), s.started id 0x102 = some q) ∧
    (∃ (id : Nat) (q : Packet) (s : State), s.started id 0x103 = some q ∧ s.rs.landed = false ∧ s.rs.dusk = false ∧ s.rs.vol.isSome = true
      ∧ s.rs.dead = false ∧ ((s.rs.takes.map fun x => x.num).Nodup)) ∧
    (∃ (id : Nat) (q : Packet) (v : Volume) (c : Cand) (s : State), s.started id 0x107 = some q ∧ s.rs.landed = false ∧ s.rs.dusk = false
      ∧ s.rs.vol = some v ∧ s.rs.cands[fieldLe q.body 17 1]? = some c ∧ rising s.media = true ∧
    let k := fieldLe q.body 16 1;
    k < v.m ∧ bit v.failed k = true ∧ c.eligible = true ∧ v.ports.contains c.unit_ = false ∧ v.rows ≤ (c.blocks - 256) / 256 ∧
      v.rebuilding = 0) ∧
    (∃ (k : Nat) (v : Volume) (units : List Bytes) (s : State), s.powered .recorder = true ∧ s.rs.vol = some v ∧ s.rs.rebuild = some k ∧
      v.progress < v.rows ∧ s.rs.landed = false ∧ s.rs.dusk = false ∧ s.rs.dead = false ∧ (rebuildData v.m v.r v.progress unitBytes (fun m
      => if m = k then none else s.memberUnit v v.progress m) = some units)) :=
  ⟨⟨7, [], (packetOf 0x100 ([])), recWith (packetOf 0x100 ([])) RecSt.init, by decide +kernel⟩,
   ⟨7, 1, 2, (packetOf 0x101 (leBytes 4 3 ++ leBytes 4 1 ++ leBytes 8 0 ++ leBytes 8 0)), recWith (packetOf 0x101 (leBytes 4 3 ++ leBytes
     4 1 ++ leBytes 8 0 ++ leBytes 8 0)) { open1 with vol := none, takes := [] }, by decide +kernel⟩,
   ⟨7, (packetOf 0x102 ([])), recWith (packetOf 0x102 ([])) RecSt.init, by decide +kernel⟩,
   ⟨7, (packetOf 0x103 ([])), recWith (packetOf 0x103 ([])) open1, by decide +kernel⟩,
   ⟨7, (packetOf 0x107 ([1, 2])), { vol0 with failed := 2 }, cand 2, recWith (packetOf 0x107 ([1, 2]))
     { open1 with vol := some { vol0 with failed := 2 } }, by decide +kernel⟩,
   ⟨1, volR, units0.get (by decide +kernel), rebuilding, (by decide +kernel), (by decide +kernel), (by decide +kernel),
     (by decide +kernel), (by decide +kernel), (by decide +kernel), (by decide +kernel), by exact (Option.some_get _).symm⟩⟩

theorem witness_takes_and_commits :
    (∃ (id : Nat) (q : Packet) (v : Volume) (s : State), s.started id 0x104 = some q ∧ s.rs.landed = false ∧ s.rs.vol = some v ∧ s.rs.dead
      = false ∧ s.rs.dusk = false ∧ rising s.regs = true ∧
    let p := fieldLe q.body 16 1;
    p ≤ 7 ∧ (s.graph.pipe? p).isSome = true ∧ fieldLe q.body 17 1 ≤ 15 ∧ fieldLe q.body 18 1 ≤ 3 ∧ s.liveTake p = none ∧ v.nextTake ≤
      65535 ∧ v.nextRow < v.rows - 1) ∧
    (∃ (id : Nat) (q : Packet) (x : LiveTake) (s : State), s.started id 0x105 = some q ∧ s.rs.landed = false ∧ s.rs.dusk = false ∧
      s.liveTake (fieldLe q.body 16 1) = some x ∧ s.takeOf x.num = some x ∧ fieldLe q.body 24 8 = noFrame) ∧
    (∃ (id : Nat) (q : Packet) (x : LiveTake) (s : State), s.started id 0x105 = some q ∧ s.rs.landed = false ∧ s.rs.dusk = false ∧
      s.liveTake (fieldLe q.body 16 1) = some x ∧ s.takeOf x.num = some x ∧ fieldLe q.body 24 8 ≠ noFrame ∧ (∀ l, x.last = some l → l.1 <
      fieldLe q.body 24 8)) ∧
    (∃ (id : Nat) (q : Packet) (s : State), s.started id 0x106 = some q ∧ s.rs.landed = false ∧ s.rs.dusk = false ∧ s.rs.vol.isSome = true
      ∧ s.rs.dead = false) ∧
    (∃ (p row : Nat) (v : Volume) (x : LiveTake) (more : List Nat) (s : State), s.powered .recorder = true ∧ s.rs.vol = some v ∧
      ((s.rs.takes.find? fun t => t.pipe = p && decide (v.rowBytes ≤ t.buf.length) && decide (s.inFlight t.num < 8)) = some x) ∧ s.takeOf
      x.num = some x ∧ s.rs.dusk = false ∧ s.rs.landed = false ∧ s.rs.dead = false ∧ x.rows = row :: more) ∧
    (∃ s : State, s.powered .recorder = true ∧ s.rs.vol.isSome = true ∧ s.rs.landed = false ∧ s.rs.phase = 0 ∧ s.rs.dusk = false ∧
      s.rs.dead = false) ∧
    (∃ (v : Volume) (s : State), s.rs.vol = some v ∧ s.rs.phase = 1 ∧ s.rs.cphase ≠ 2 ∧ s.rs.cphase ≠ 5) ∧
    (∃ (v : Volume) (s : State), s.rs.vol = some v ∧ s.rs.phase = 3 ∧ s.rs.cphase ≠ 2 ∧ s.rs.cphase ≠ 5 ∧ s.rs.dusk = false ∧ rising
      s.regs = true) :=
  ⟨⟨7, (packetOf 0x104 ([0, 15, 3])), vol0, recWith (packetOf 0x104 ([0, 15, 3])) { open1 with takes := [] }, by decide +kernel⟩,
   ⟨7, (packetOf 0x105 ([5] ++ leBytes 7 0 ++ leBytes 8 noFrame)), take0, recWith (packetOf 0x105 ([5] ++ leBytes 7 0 ++ leBytes 8
     noFrame)) open1, by decide +kernel⟩,
   ⟨7, (packetOf 0x105 ([5] ++ leBytes 7 0 ++ leBytes 8 9)), take0, recWith (packetOf 0x105 ([5] ++ leBytes 7 0 ++ leBytes 8 9)) open1,
     by decide +kernel⟩,
   ⟨7, (packetOf 0x106 ([])), recWith (packetOf 0x106 ([])) open1, by decide +kernel⟩,
   ⟨5, 60, vol0, take1, [61], recWith (packetOf 0 []) { open1 with takes := [take1] }, (by decide +kernel), (by decide +kernel),
     (by exact List.find?_cons_of_pos (by rw [show take1.buf.length = 0x100000 from List.length_replicate]; decide +kernel)), (by rfl),
     by decide +kernel⟩,
   ⟨recWith (packetOf 0 []) open1, by decide +kernel⟩,
   ⟨vol0, recWith (packetOf 0 []) { open1 with phase := 1 }, by decide +kernel⟩,
   ⟨vol0, recWith (packetOf 0 []) { open1 with phase := 3 }, by decide +kernel⟩⟩

theorem witness_members_fail_and_land :
    (∃ (row : Nat) (v : Volume) (r : MediaRow) (rest : List MediaRow) (s : State), s.rs.vol = some v ∧ (takeFirst (fun (x : MediaRow) =>
      x.row = row) s.rs.flight = some (r, rest)) ∧ r.kind = 0 ∧ r.late = [] ∧ s.rs.dusk = false) ∧
    (∃ (row k : Nat) (v : Volume) (r : MediaRow) (rest : List MediaRow) (s : State), s.rs.vol = some v ∧ (takeFirst (fun (x : MediaRow) =>
      x.row = row) s.rs.flight = some (r, rest)) ∧ k < v.m ∧ bit v.failed k = false ∧ v.r ≠ 0) ∧
    (∃ (row k : Nat) (v : Volume) (r : MediaRow) (s : State), s.rs.vol = some v ∧ ((s.rs.flight.find? fun r => r.row = row) = some r) ∧ k
      < v.m ∧ bit v.failed k = false ∧ r.late.contains k = false) ∧
    (∃ (k : Nat) (v : Volume) (s : State), s.rs.vol = some v ∧ k < v.m ∧ bit v.failed k = false ∧ v.r ≠ 0 ∧ s.flushOwed = true) ∧
    (∃ (k : Nat) (owing : List Nat) (v : Volume) (s : State), s.rs.dusk = true ∧ s.rs.vol = some v ∧ k ∈ owing ∧ k < v.m ∧ bit v.failed k
      = false ∧ v.r ≠ 0 ∧ (∃ r ∈ s.rs.flight, r.kind = 0)) ∧
    (∃ s : State, s.rs.dusk = true ∧ s.rs.phase = 0 ∧ (∀ r ∈ s.rs.flight, r.kind ≠ 0) ∧ rising s.regs = true ∧ s.cpr.resetDue = false) :=
  ⟨⟨99, vol0, (⟨99, 0, 1, [1], 0, []⟩ : MediaRow), [], recWith (packetOf 0 [])
     { open1 with flight := [⟨99, 0, 1, [1], 0, []⟩], dusk := false }, by decide +kernel⟩,
   ⟨99, 1, vol0, (⟨99, 0, 1, [1], 0, []⟩ : MediaRow), [], recWith (packetOf 0 [])
     { open1 with flight := [⟨99, 0, 1, [1], 0, []⟩], dusk := false }, by decide +kernel⟩,
   ⟨99, 1, vol0, (⟨99, 0, 1, [1], 0, []⟩ : MediaRow), recWith (packetOf 0 [])
     { open1 with flight := [⟨99, 0, 1, [1], 0, []⟩], dusk := false }, by decide +kernel⟩,
   ⟨1, vol0, recWith (packetOf 0 []) { open1 with phase := 1 }, by decide +kernel⟩,
   ⟨1, [1], vol0, recWith (packetOf 0 []) { open1 with flight := [⟨99, 0, 1, [1], 0, []⟩], dusk := true }, by decide +kernel⟩,
   ⟨recWith (packetOf 0 []) { open1 with dusk := true }, by decide +kernel⟩⟩

theorem witness_compression_jobs :
    (∃ (e : Nat) (s : State), e < 2 ∧ s.zst.length = 2 ∧ s.powered .zst = true ∧ s.flag Fl.ZST_CTRL_enable [e] = true ∧ s.zst.getD e none
      = none ∧ s.rd R.ZST_TAIL [e] ≠ s.rd R.ZST_HEAD [e] ∧ (takeFirst (fun (j : RecJob) => j.engine = e) s.rs.jobs = none) ∧ s.oldJob e =
      false) ∧
    (∃ (e : Nat) (j : RecJob) (rest : List RecJob) (s : State), e < 2 ∧ s.zst.length = 2 ∧ s.powered .zst = true ∧ s.zst.getD e none =
      none ∧ (takeFirst (fun (j : RecJob) => j.engine = e) s.rs.jobs = some (j, rest))) ∧
    (∃ (e : Nat) (j : ZstJob) (r : RecJob) (s : State), e < 2 ∧ s.zst.getD e none = some j ∧ j.rec_ = some r ∧ rising s.regs = true) ∧
    (∃ (e : Nat) (j : ZstJob) (s : State), e < 2 ∧ s.zst.getD e none = some j ∧ j.rec_ = none ∧ j.code = stOk ∧ j.inHost = true ∧ bit
      j.flags 1 = true ∧ rising s.regs = true ∧ rising s.host = true ∧ (j.dst + j.out.length ≤ j.addr + 32 ∨ j.addr + 38 ≤ j.dst) ∧
      j.out.length < 2 ^ 32) :=
  ⟨⟨1, (on.put Fl.ZST_CTRL_enable [1] 1).wr R.ZST_TAIL [1] 1, by decide +kernel⟩,
   ⟨1, (⟨1, 1, 5, 0, [1, 2]⟩ : RecJob), [], { on with recorder := { RecSt.init with jobs := [(⟨1, 1, 5, 0, [1, 2]⟩ : RecJob)] } },
     by decide +kernel⟩,
   ⟨1, (⟨0x1000, true, 0, 2, 5, 6, 0x2000, [1, 2, 3], stOk, some (⟨1, 1, 5, 0, [1, 2]⟩ : RecJob)⟩ : ZstJob), (⟨1, 1, 5, 0, [1, 2]⟩ :
     RecJob),
     { on with zst := [none, some (⟨0x1000, true, 0, 2, 5, 6, 0x2000, [1, 2, 3], stOk, some (⟨1, 1, 5, 0, [1, 2]⟩ : RecJob)⟩ : ZstJob)] },
     by decide +kernel⟩,
   ⟨1, (⟨0x1000, true, 0, 2, 5, 6, 0x2000, [1, 2, 3], stOk, none⟩ : ZstJob),
     { on with zst := [none, some (⟨0x1000, true, 0, 2, 5, 6, 0x2000, [1, 2, 3], stOk, none⟩ : ZstJob)] }, by decide +kernel⟩⟩

theorem witness_video_coding :
    (∃ (k : Nat) (br : BranchRec) (pic : EncPic) (more : List EncPic) (au : CodedAu) (s : State), k < 2 ∧ s.Shaped ∧ rising s.regs = true
      ∧ s.encBranch k = some br ∧ s.powered .vce = true ∧
    let u := (s.encPull k).encRequests k;
    let x := u.enc k;
    let len := 64 + roundUp au.data.length 64;
    let wr := u.rd R.VCE_OWR [k];
    x.order = pic :: more ∧ u.eff pic.frame.epoch Fl.VCE_CTRL_rc [k] = 0 ∧ u.regionOk (u.graphOf pic.frame.epoch) br.pipe x.base x.size =
      true ∧ u.encBound pic.frame.epoch k br (u.encRc k br pic) + 64 ≤ x.size - (wr + 2 ^ 32 - u.encRead k) % 2 ^ 32 ∧ wr % x.size + len ≤
      x.size ∧ u.mvsOk k br pic au.mvs = true ∧ u.setsOk k br pic (u.encRc k br pic) au.sets = true ∧ u.auOk pic.frame.epoch k br (u.encRc
      k br pic) au = true ∧ s.hbmc.down = [] ∧ rising s.hbm = true) ∧
    (∃ (k : Nat) (s : State), k < 2 ∧ s.Shaped ∧ s.powered .vce = true ∧ s.flag Fl.VCE_RTP_CTRL_en [k] = true ∧
    let x := s.enc k;
    let at_ := x.base + x.rtpRd % x.size;
    let len := leNat (s.hbmRead at_ 4);
    x.rtpRd ≠ s.rd R.VCE_OWR [k] ∧ x.size ≠ 0 ∧ len ≠ 0 ∧ leNat (s.hbmRead (at_ + 36) 1) ≤ 1 ∧ s.netOn (s.rtpDst k).port = true) ∧
    (∃ (k : Nat) (s : State), k < 2 ∧ s.Shaped ∧ s.powered .vce = true ∧ s.flag Fl.VCE_RTP_CTRL_en [k] = true ∧
    let x := s.enc k;
    let at_ := x.base + x.rtpRd % x.size;
    let len := leNat (s.hbmRead at_ 4);
    x.rtpRd ≠ s.rd R.VCE_OWR [k] ∧ x.size ≠ 0 ∧ len ≠ 0 ∧ leNat (s.hbmRead (at_ + 36) 1) ≤ 1) ∧
    (∃ (r : DecodeResult) (s : State), s.powered .vce = true ∧ rising s.regs = true ∧ s.dev Fl.VCE_D_CTRL_enable ≠ 0 ∧ s.rd R.VCE_D_HEAD ≠
      s.rd R.VCE_D_TAIL ∧
    let at_ := s.devRd R.VCE_D_RING_LO + 2 ^ 32 * s.devRd R.VCE_D_RING_HI + s.rd R.VCE_D_HEAD % 2 ^ s.dev Fl.VCE_D_RCTL_log2size * 32;
    let d := s.memRead (s.dev Fl.VCE_D_RCTL_host = 1) at_ 32;
    s.oldJob 2 = false) ∧
    (∃ (p : DecodedPic) (h : DecHeld) (s : State), s.powered .vce = true ∧ rising s.regs = true ∧ (s.dec.held.find? (fun h => h.id = p.id)
      = some h) ∧ h.hostOut = true ∧ s.hbmc.down = [] ∧ rising s.hbm = true ∧
    let k := s.rd R.VCE_D_PICS;
    let base := h.base + k % h.slots * h.stride;
    (k + 2 ^ 32 - s.rd R.VCE_D_DONE) % 2 ^ 32 < h.slots ∧ 4096 + pitchOf 0 (State.decFmt p) p.width * (State.decLines p).1.length ≤
      h.stride) ∧
    (∃ (p : DecodedPic) (s : State), (s.dec.held.find? (fun h => h.id = p.id) = none)) :=
  ⟨⟨1, vceBranch, ⟨pub0, 2, 0⟩, [], ⟨[1, 2, 3], [], [], 1, none⟩,
     { vce with encs := on.encs.set 1 { EncSt.init with epoch := some 0, ok := true, order := [⟨pub0, 2, 0⟩], base := 0x200000, size := 0x100000 } },
     (by decide +kernel), (by constructor <;> decide +kernel), by decide +kernel⟩,
   ⟨1, vceNet, (by decide +kernel), (by constructor <;> decide +kernel), by decide +kernel⟩,
   ⟨1, vceNet, (by decide +kernel), (by constructor <;> decide +kernel), by decide +kernel⟩,
   ⟨⟨[], none, false, [], 0⟩, vce.wr R.VCE_D_TAIL [] 1, by decide +kernel⟩,
   ⟨(⟨9, 2, 2, 1, 8, 8, [1, 2, 3, 4], [5], [6], 0, 0, false, 2, 2, 2, 0⟩ : DecodedPic), (⟨9, 0, false, 0x200000, 3, 0x4000, true⟩ :
     DecHeld), { vce with dec := { DecSt.init with held := [(⟨9, 0, false, 0x200000, 3, 0x4000, true⟩ : DecHeld)] } }, by decide +kernel⟩,
   ⟨(⟨9, 2, 2, 1, 8, 8, [1, 2, 3, 4], [5], [6], 0, 0, false, 2, 2, 2, 0⟩ : DecodedPic), on, by decide +kernel⟩⟩

theorem witness_display_frames :
    (∃ (r : Raster) (s : State), s.raster = some r ∧ s.disp.running = false ∧ s.powered .disp = true ∧ rising s.regs = true) ∧
    (∃ s : State, s.powered .disp = true ∧ s.raster.isSome = true ∧ s.Shaped) ∧
    (∃ (locked : Bool) (r : Raster) (s : State), s.flag Fl.DISP_STAT_locked = !locked ∧ s.powered .disp = true ∧ s.raster = some r ∧
      (locked = true → s.lockable r = true) ∧ rising s.regs = true) ∧
    (∃ (n line : Nat) (poison : Bool) (s : State), n < 4 ∧ s.Shaped ∧ s.disp.running = true ∧ (s.layer n).blank = none ∧ (s.layerSurface
      n).1.isSome = true ∧ rising s.regs = true) ∧
    (∃ (i slot : Nat) (f : SdiFrame) (s : State), i < 2 ∧ i < s.disp.sdi.length ∧ s.powered .disp = true ∧ s.dsp Fl.DISP_I_CTRL_enable [i]
      = 1 ∧ s.graph.portOn 8 i = true ∧ f.payloadOk = true ∧
    let x := s.disp.sdi.getD i SdiSt.init;
    let slots := s.dsp Fl.DISP_I_CTRL_slots [i];
    let stride := s.dsp Fl.DISP_I_STRIDE_stride [i] * 4096;
    let base := s.dspRd R.DISP_I_BUF_LO [i] + 2 ^ 32 * s.dspRd R.DISP_I_BUF_HI [i] + slot * stride;
    ((((List.range slots).map fun k => (x.next + k) % slots).find? fun k => !((s.sdiHeld i).contains k)) = some slot) ∧ 4096 + 2 *
      f.height * pitchOf 0 fmtYC422P10 f.width ≤ stride ∧ s.hbmc.down = [] ∧ rising s.hbm = true) ∧
    (∃ (i std tr : Nat) (locked : Bool) (s : State), i < 2 ∧ std < 256 ∧ s.powered .disp = true ∧ s.graph.portOn 8 i = true ∧ s.flag
      Fl.DISP_I_STAT_locked [i] = !locked ∧ rising s.regs = true) :=
  ⟨⟨disp.raster.get (by decide +kernel), disp, (by exact (Option.some_get _).symm), by decide +kernel⟩,
   ⟨disp, (by decide +kernel), (by decide +kernel), by constructor <;> decide +kernel⟩,
   ⟨true, (disp.put Fl.DISP_CTRL_lock [] 1).raster.get (by decide +kernel), inEffect (disp.put Fl.DISP_CTRL_lock [] 1),
     (by decide +kernel), (by decide +kernel), (by exact (Option.some_get _).symm), by decide +kernel⟩,
   ⟨3, 0, true,
     { disp with disp := { disp.disp with running := true, layers := disp.disp.layers.set 3 { LayerSt.init with kind := 1, shown := some pub0 } } },
     (by decide +kernel), (by constructor <;> decide +kernel), by decide +kernel⟩,
   ⟨1, 0, ⟨0x30, true, false, 2, 2, [1, 2, 3, 4], [5, 6, 7, 8], 0⟩, disp, by decide +kernel⟩,
   ⟨1, 255, 0, true, disp, by decide +kernel⟩⟩

theorem witness_dsi_transfers_and_commands :
    (∃ (d b : Nat) (s : State), d < 2 ∧ s.Shaped ∧ s.dsiOn d = true ∧ s.dsp Fl.DISP_D_CTRL_te_en [d] = 1 ∧ (s.dsi d).done = some b ∧
      (s.dsi d).xfer = none ∧ (s.dsi d).turn = false) ∧
    (∃ (d b : Nat) (s : State), d < 2 ∧ s.Shaped ∧ rising s.regs = true ∧ (s.dsi d).xfer = some b ∧ (s.dsi d).wait = false ∧ (s.dsi
      d).done = none) ∧
    (∃ (d : Nat) (s : State), d < 2 ∧ s.Shaped ∧ rising s.regs = true ∧ s.dsiOn d = true ∧ s.dsp Fl.DISP_D_CTRL_te_en [d] = 1 ∧ (s.dsi
      d).lost = false) ∧
    (∃ (d v : Nat) (s : State), d < 2 ∧ s.Shaped ∧ v < 2 ^ 32 ∧ s.reaches .disp = true ∧ rising s.regs = true ∧ bit v 31 = true ∧ bit v 29
      = false ∧ s.flag Fl.DISP_D_CMD_go [d] = false ∧ (s.dsi d).xfer = none ∧ bits v 20 16 ≤ 16) ∧
    (∃ (d v b : Nat) (s : State), d < 2 ∧ s.Shaped ∧ v < 2 ^ 32 ∧ s.reaches .disp = true ∧ rising s.regs = true ∧ bit v 31 = true ∧ s.flag
      Fl.DISP_D_CMD_go [d] = false ∧ (s.dsi d).xfer = some b) ∧
    (∃ (d report : Nat) (data : Bytes) (s : State), d < 2 ∧ s.Shaped ∧ rising s.regs = true ∧ (s.dsi d).turn = true ∧ (s.dsi d).due =
      false) ∧
    (∃ (d : Nat) (s : State), d < 2 ∧ s.Shaped ∧ rising s.regs = true ∧ (s.dsi d).turn = true ∧ (s.dsi d).due = false) :=
  ⟨⟨1, 1, withDsi { DsiSt.init with done := some 1 }, (by decide +kernel), (by constructor <;> decide +kernel), by decide +kernel⟩,
   ⟨1, 1, withDsi { DsiSt.init with xfer := some 1 }, (by decide +kernel), (by constructor <;> decide +kernel), by decide +kernel⟩,
   ⟨1, dsiOn, (by decide +kernel), (by constructor <;> decide +kernel), by decide +kernel⟩,
   ⟨1, 0x80100005, dsiOn, (by decide +kernel), (by constructor <;> decide +kernel), by decide +kernel⟩,
   ⟨1, 0x80000005, 1, withDsi { DsiSt.init with xfer := some 1 }, (by decide +kernel), (by constructor <;> decide +kernel),
     by decide +kernel⟩,
   ⟨1, 1, [1, 2, 3, 4, 5], withDsi { DsiSt.init with turn := true }, (by decide +kernel), (by constructor <;> decide +kernel),
     by decide +kernel⟩,
   ⟨1, withDsi { DsiSt.init with turn := true }, (by decide +kernel), (by constructor <;> decide +kernel), by decide +kernel⟩⟩

theorem witness_hbm_requests_and_refresh :
    (∃ (q : HbmReq) (s : State), q.write = false ∧ q.len ≠ 0 ∧ q.err = .none ∧ s.mapped q.addr = true ∧ s.powered (.hbmc 0) = true) ∧
    (∃ (q r : HbmReq) (s : State), q.write = false ∧ q.len ≠ 0 ∧ q.err = .none ∧ s.mapped q.addr = true ∧ r.write = false ∧ r.len ≠ 0 ∧
      r.err = .none ∧ s.mapped r.addr = true ∧ s.powered (.hbmc 0) = true ∧ s.hbmc.panic.contains q.client = false ∧ s.hbmc.panic.contains
      r.client = true) ∧
    (∃ (q : HbmReq) (s : State), q.write = true ∧ q.data ≠ [] ∧ q.err = .none ∧ s.mapped q.addr = true ∧ s.powered (.hbmc 0) = true ∧
      s.hbmc.down = [] ∧ rising s.hbm = true) ∧
    (∃ (q : HbmReq) (pa : Nat) (s : State), q.write = false ∧ q.len ≠ 0 ∧ q.err = .uncorrectable ∧ s.mapped q.addr = true ∧ s.powered
      (.hbmc 0) = true ∧ s.phys q.addr = some (pa, true) ∧ (State.physLoc pa).ch ∉ s.hbmc.down ∧ rising s.regs = true) ∧
    (∃ s : State, s.hbmc.ticking = true ∧ s.powered (.hbmc 0) = true ∧ rising s.regs = true) ∧
    (∃ (k : Nat) (temp : Int) (s : State), k < 4 ∧ s.powered (.hbmc 0) = true ∧ rising s.regs = true) ∧
    (∃ s : State, s.get Fl.HBMC_CFG_scrub_h ≠ 0 ∧ s.powered (.hbmc 0) = true) :=
  ⟨⟨(⟨0, 1, 0, false, 0x23C0000000, [], 3, .none⟩ : HbmReq), on, by decide +kernel⟩,
   ⟨(⟨0, 1, 0, false, 0x23C0000000, [], 3, .none⟩ : HbmReq), (⟨0, 5, 0, false, 0x23C0000100, [], 3, .none⟩ : HbmReq),
     { on with hbmc := { HbmSt.init with panic := [5] } }, by decide +kernel⟩,
   ⟨(⟨0, 1, 0, true, 0x23C0000000, [1, 2, 3], 0, .none⟩ : HbmReq), on, by decide +kernel⟩,
   ⟨(⟨0, 1, 0, false, 0x23C0000000, [], 3, .uncorrectable⟩ : HbmReq), (on.phys 0x23C0000000).get (by decide +kernel) |>.1, on,
     by decide +kernel⟩,
   ⟨{ on with hbmc := { HbmSt.init with rows := [(5, 1)], hot := none } }, by decide +kernel⟩,
   ⟨3, -128, on, by decide +kernel⟩,
   ⟨on, by decide +kernel⟩⟩

theorem witness_hbm_channels_freeze_and_return :
    (∃ (n : Nat) (s : State), n < 64 ∧ n ∉ s.hbmc.down ∧ s.powered (.hbmc n) = true ∧ rising s.regs = true) ∧
    (∃ (n : Nat) (s : State), n < 64 ∧ n ∉ s.hbmc.down ∧ s.powered (.hbmc n) = true ∧ rising s.regs = true) ∧
    (∃ (n : Nat) (s : State), n < 64 ∧ s.reaches (.hbmc n) = true ∧ rising s.regs = true ∧ s.get Fl.HBMC_CH_STAT_state [n] = 3 ∧ s.get
      Fl.HBMC_CH_FRZ_CAUSE_cause [n] ≠ 3) ∧
    (∃ (n : Nat) (s : State), n < 64 ∧ rising s.regs = true ∧ s.get Fl.HBMC_CH_STAT_state [n] = 3 ∧ s.get Fl.HBMC_CFG_auto = 1 ∧ s.get
      Fl.HBMC_CH_FRZ_CAUSE_cause [n] ≠ 3) ∧
    (∃ (n : Nat) (s : State), n < 64 ∧ s.reaches (.hbmc n) = true ∧ rising s.regs = true ∧ s.get Fl.HBMC_CH_STAT_state [n] = 3 ∧ s.get
      Fl.HBMC_CH_FRZ_CAUSE_cause [n] = 3) ∧
    (∃ (n ms : Nat) (s : State), n < 64 ∧ rising s.regs = true ∧ n ∈ s.hbmc.sync ∧ n ∉ s.hbmc.retrain) ∧
    (∃ (n v : Nat) (s : State), n < 64 ∧ v < 2 ^ 32 ∧ s.reaches (.hbmc n) = true ∧ rising s.regs = true ∧ bit v 31 = true ∧ bits v 20 15 ≤
      47 ∧ bits v 14 0 ≤ 24575 ∧ s.get Fl.HBMC_CH_STAT_state [n] = 3) ∧
    (∃ (n v : Nat) (ok : Bool) (s : State), n < 64 ∧ v < 2 ^ 32 ∧ s.reaches (.hbmc n) = true ∧ rising s.regs = true ∧ bit v 31 = true ∧
      (s.get Fl.HBMC_CH_STAT_state [n] ≠ 3 ∨ ok = false)) ∧
    (∃ (n : Nat) (eyes : List (Nat × Nat)) (s : State), n < 64 ∧ eyes.length = 72 ∧ rising s.regs = true ∧ s.get Fl.HBMC_CH_STAT_state [n]
      = 2) ∧
    (∃ (client margin : Nat) (s : State), client ∉ s.hbmc.panic ∧ margin < s.get Fl.HBMC_PANIC_mark ∧ s.powered (.hbmc 0) = true ∧ rising
      s.regs = true) ∧
    (∃ (client margin : Nat) (cycles : List (Nat × Nat)) (s : State), client ∈ s.hbmc.panic ∧ s.get Fl.HBMC_PANIC_mark + s.get
      Fl.HBMC_PANIC_hyst < margin) ∧
    (∃ (client margin : Nat) (cycles : List (Nat × Nat)) (s : State), margin ≤ s.get Fl.HBMC_PANIC_mark + s.get Fl.HBMC_PANIC_hyst) :=
  ⟨⟨63, on, by decide +kernel⟩,
   ⟨63, on, by decide +kernel⟩,
   ⟨63, { (on.put Fl.HBMC_CH_STAT_state [63] 3) with hbmc := { HbmSt.init with down := [63] } }, by decide +kernel⟩,
   ⟨63, { ((on.put Fl.HBMC_CH_STAT_state [63] 3).put Fl.HBMC_CFG_auto [] 1) with hbmc := { HbmSt.init with down := [63] } },
     by decide +kernel⟩,
   ⟨63, { ((on.put Fl.HBMC_CH_STAT_state [63] 3).put Fl.HBMC_CH_FRZ_CAUSE_cause [63] 3) with hbmc := { HbmSt.init with down := [63] } },
     by decide +kernel⟩,
   ⟨63, 5, { (on.put Fl.HBMC_CH_STAT_state [63] 4) with hbmc := { HbmSt.init with sync := [63] } }, by decide +kernel⟩,
   ⟨63, 0x80000000 + 47 * 2 ^ 15 + 24575, (on.put Fl.HBMC_CH_STAT_state [63] 3), by decide +kernel⟩,
   ⟨63, 0x80000000, true, on, by decide +kernel⟩,
   ⟨63, List.replicate 72 (9, 8), (on.put Fl.HBMC_CH_STAT_state [63] 2), by decide +kernel⟩,
   ⟨3, 5, on, by decide +kernel⟩,
   ⟨3, 0xFFFFFFFF, [(3, 5)], { on with hbmc := { HbmSt.init with panic := [3] } }, by decide +kernel⟩,
   ⟨3, 0, [], on, by decide +kernel⟩⟩

theorem witness_health_errors_and_replays :
    (∃ (kind inst cls tile : Nat) (s : State), kind < 11 ∧ inst < 256 ∧ kind ≠ kindTileChk ∧ kind ≠ kindTileUe ∧ kind ≠ kindXwPar ∧ rising
      s.hlt.gusts = true ∧ (s.gust (kind * 256 + inst)).level + 1 < s.get Fl.HLT_KIND_CFG_threshold [kind]) ∧
    (∃ (kind inst cls tile : Nat) (s : State), kind < 11 ∧ inst < 256 ∧ kind ≠ kindTileChk ∧ kind ≠ kindTileUe ∧ kind ≠ kindXwPar ∧ rising
      s.hlt.gusts = true ∧ s.get Fl.HLT_KIND_CFG_threshold [kind] ≤ (s.gust (kind * 256 + inst)).level + 1) ∧
    (∃ (p inst cls tile : Nat) (f : Frame) (r : PipeRec) (s : State), inst < 256 ∧ s.tilePipe (inst / 16 + 1) (inst % 16) = some p ∧
      s.errorFrame p (inst / 16 + 1) (inst % 16) = some f ∧ s.graph.pipe? p = some r ∧ r.prot = true ∧ (s.gust inst).level + 1 < s.get
      Fl.HLT_KIND_CFG_threshold [kindTileChk]) ∧
    (∃ (cls tile : Nat) (r : Replay) (s : State), rising s.regs = true ∧ (s.hlt.replays.find? (fun r => r.cls = cls && (r.tile = tile ||
      r.runner = tile)) = some r)) ∧
    (∃ (cls tile : Nat) (r : Replay) (s : State), rising s.regs = true ∧ (s.hlt.replays.find? (fun r => r.cls = cls && (r.tile = tile ||
      r.runner = tile)) = some r)) ∧
    (∃ (v : Nat) (s : State), v < 2 ^ 32 ∧ s.reaches .hlt = true ∧ rising s.regs = true ∧ bit v 31 = true ∧ bits v 27 24 = 1 ∧
      s.hlt.failedPair = true) ∧
    (∃ (v : Nat) (s : State), v < 2 ^ 32 ∧ s.reaches .hlt = true ∧ rising s.regs = true ∧ bit v 31 = true ∧ bits v 27 24 = 2 ∧ bits v 7 0
      < 48) :=
  ⟨⟨10, 255, 0, 0, on.put Fl.HLT_KIND_CFG_threshold [10] 2, by decide +kernel⟩,
   ⟨10, 255, 0, 0, on.put Fl.HLT_KIND_CFG_threshold [10] 1, by decide +kernel⟩,
   ⟨0, 0, 0, 0, { frame0 with units := [.rct], entered := [.rct], owes := [(1, 0)] }, ⟨0, true⟩, withFrame
     { frame0 with units := [.rct], entered := [.rct], owes := [(1, 0)] }, by decide +kernel⟩,
   ⟨1, 0, (⟨0, 1, 0, 5, 0⟩ : Replay), { on with hlt := { HltSt.init with replays := [(⟨0, 1, 0, 5, 0⟩ : Replay)] } }, by decide +kernel⟩,
   ⟨1, 0, (⟨0, 1, 0, 5, 0⟩ : Replay), { on with hlt := { HltSt.init with replays := [(⟨0, 1, 0, 5, 0⟩ : Replay)] } }, by decide +kernel⟩,
   ⟨0x81000000, { on with hlt := { HltSt.init with failedPair := true } }, by decide +kernel⟩,
   ⟨0x8200002F, on.put Fl.HLT_RETIRED_dvt [] 0x1FFF, by decide +kernel⟩⟩

theorem witness_barometer_and_trail :
    (∃ (v : Nat) (s : State), v < 2 ^ 32 ∧ s.reaches .baro = true ∧ rising s.regs = true ∧ bit v 0 = true ∧ s.baro.plan = none) ∧
    (∃ (v : Nat) (s : State), s.reaches .baro = true ∧ s.baro.plan.isSome = true) ∧
    (∃ s : State, s.flag Fl.BARO_CTRL_auto = true ∧ s.baro.plan = none ∧ rising s.regs = true) ∧
    (∃ (m : BaroMeas) (c : Nat) (s : State), s.baro.plan = some c ∧ rising s.regs = true) ∧
    (∃ (r : Nat) (s : State), r < 6 ∧ s.railNow r < s.railTarget r ∧ rising s.regs = true) ∧
    (∃ (d : Nat) (s : State), d < 19 ∧ s.Shaped ∧ rising s.regs = true) ∧
    (∃ (d : Nat) (s : State), (d = 16 ∨ d = 17) ∧ s.Shaped ∧ (s.dest d).staged.length < 256) ∧
    (∃ s : State, s.Shaped ∧ s.reaches .trl = true ∧ s.dusk = false ∧ s.bbSealed = false ∧ rising s.regs = true ∧ rising s.mram = true) ∧
    (∃ s : State, s.reaches .trl = true ∧ s.bbSealed = true) :=
  ⟨⟨0x101, on, by decide +kernel⟩,
   ⟨1, { on with baro := { BaroSt.init with plan := some 1 } }, by decide +kernel⟩,
   ⟨on.put Fl.BARO_CTRL_auto [] 1, by decide +kernel⟩,
   ⟨(⟨[], [], [], [], 0, 0, 0, 0, 0, 0, []⟩ : BaroMeas), 1, { on with baro := { BaroSt.init with plan := some 1 } }, by decide +kernel⟩,
   ⟨5,
     { on with baro := { BaroSt.init with target := List.replicate 24 3 }, nv := { NvSt.init with rails := some (List.replicate 23 31 ++ [5], List.replicate 5 0 ++ [0x80000000]) } },
     by decide +kernel⟩,
   ⟨18, on, (by decide +kernel), (by constructor <;> decide +kernel), by decide +kernel⟩,
   ⟨17, { on with dests := on.dests.set 17 { Dest.init with log2N := 3 } }, (by decide +kernel), (by constructor <;> decide +kernel),
     by decide +kernel⟩,
   ⟨on, (by constructor <;> decide +kernel), by decide +kernel⟩,
   ⟨{ on with mram := Mem.write [] (State.bbBase 0 + 12) [1] }, by decide +kernel⟩⟩

theorem witness_offload_admin_commands :
    (∃ (c : NvmeCmd) (q : OflSq) (k : OflCq) (s : State), s.Fetches c 0x105 ∧ s.CanPost c q k ∧ bits c.cdw10 15 0 ≠ 0 ∧ bits c.cdw10 15 0
      ≤ s.cqGranted ∧ s.oflCq (bits c.cdw10 15 0) = none ∧ 1 ≤ bits c.cdw10 31 16 ∧ bits c.cdw10 31 16 ≤ 4095 ∧ bit c.cdw11 0 = true ∧
      bits c.cdw11 31 16 ≤ 64 ∧ c.prp1 % s.oflPage = 0) ∧
    (∃ (c : NvmeCmd) (q : OflSq) (k : OflCq) (s : State), s.Fetches c 0x101 ∧ s.CanPost c q k ∧ bits c.cdw10 15 0 ≠ 0 ∧ bits c.cdw10 15 0
      ≤ s.sqGranted ∧ s.oflSq (bits c.cdw10 15 0) = none ∧ 1 ≤ bits c.cdw10 31 16 ∧ bits c.cdw10 31 16 ≤ 4095 ∧ bit c.cdw11 0 = true ∧
      bits c.cdw11 31 16 ≠ 0 ∧ bits c.cdw11 31 16 ≤ s.cqGranted ∧ (s.oflCq (bits c.cdw11 31 16)).isSome = true ∧ c.prp1 % s.oflPage = 0) ∧
    (∃ (c : NvmeCmd) (q : OflSq) (k : OflCq) (s : State), s.Fetches c 0x100 ∧ s.CanPost c q k ∧ bits c.cdw10 15 0 ≠ 0 ∧ (s.oflSq (bits
      c.cdw10 15 0)).isSome = true ∧ (∀ x ∈ s.ofl.cmds, x.sq ≠ bits c.cdw10 15 0) ∧ (∀ w ∈ s.recorder.waiters, w.2 ≠ 2)) ∧
    (∃ (c : NvmeCmd) (q : OflSq) (k : OflCq) (s : State), s.Fetches c 0x104 ∧ s.CanPost c q k ∧ bits c.cdw10 15 0 ≠ 0 ∧ (s.oflCq (bits
      c.cdw10 15 0)).isSome = true ∧ (∀ x ∈ s.ofl.sqs, x.cq ≠ bits c.cdw10 15 0)) ∧
    (∃ (c : NvmeCmd) (q : OflSq) (k : OflCq) (s : State), s.Fetches c 0x102 ∧ s.CanPost c q k ∧ c.nsid = 0 ∧ bits c.cdw10 7 0 = 4 ∧ bit
      c.cdw10 15 = false ∧ c.cdw12 = 0 ∧ c.cdw13 = 0 ∧ bits c.cdw10 31 16 = 1023 ∧ bits c.cdw11 15 0 = 0 ∧ s.ofl.events = [] ∧ s.prpSpans
      c.prp1 c.prp2 4096 = some [(c.prp1, 4096)] ∧ s.ofl.changed.length ≤ 1024 ∧ (c.prp1 + 4096 ≤ k.base + 16 * k.tail ∨ k.base + 16 *
      k.tail + 16 ≤ c.prp1)) ∧
    (∃ (c : NvmeCmd) (q : OflSq) (k : OflCq) (s : State), s.Fetches c 0x106 ∧ s.CanPost c q k ∧ bits c.cdw10 7 0 = 0 ∧ (c.nsid = 1 ∨
      c.nsid = 2) ∧ s.nsActive c.nsid = true ∧ s.nsBlocks c.nsid < 2 ^ 64 ∧ s.prpSpans c.prp1 c.prp2 4096 = some [(c.prp1, 4096)] ∧
      (c.prp1 + 4096 ≤ k.base + 16 * k.tail ∨ k.base + 16 * k.tail + 16 ≤ c.prp1)) ∧
    (∃ (c : NvmeCmd) (x : OflCmd) (s : State), s.Fetches c 0x108 ∧ rising s.regs = true ∧ (s.ofl.cmds.find? (fun x => x.sq = bits c.cdw10
      15 0 && x.cid = bits c.cdw10 31 16) = some x) ∧ x.rows = [] ∧ x.got = [] ∧ (∀ i ∈ s.ofl.ios, i.cmd = x.id → i.issued = false) ∧ (∀
      a, s.ofl.activate = some a → a.2 ≠ x.id)) ∧
    (∃ (c : NvmeCmd) (q : OflSq) (k : OflCq) (f v : Nat) (s : State), s.Fetches c 0x109 ∧ s.CanPost c q k ∧ bit c.cdw10 31 = false ∧ bits
      c.cdw10 7 0 = f ∧ (f, v) ∈ [(0x01, c.cdw11), (0x06, c.cdw11 % 2), (0x08, c.cdw11 % 2 ^ 16), (0x0A, c.cdw11 % 2), (0x0B, c.cdw11),
      (0xC0, c.cdw11 % 2)]) ∧
    (∃ (c : NvmeCmd) (q : OflSq) (k : OflCq) (f : Nat) (s : State), s.Fetches c 0x10A ∧ s.CanPost c q k ∧ bits c.cdw10 7 0 = f ∧ f ∈
      [0x01, 0x02, 0x06, 0x07, 0x08, 0x0A, 0x0B, 0xC0]) ∧
    (∃ (c : NvmeCmd) (s : State), s.Fetches c 0x10C ∧ s.ofl.aers.length < 4 ∧ s.ofl.events = []) ∧
    (∃ (c : NvmeCmd) (data : Bytes) (q : OflSq) (k : OflCq) (s : State), s.Fetches c 0x111 ∧ s.CanPost c q k ∧ c.cdw11 * 4 % 4096 = 0 ∧
      c.cdw11 * 4 + (c.cdw10 + 1) * 4 ≤ 0x200000 ∧ data.length = (c.cdw10 + 1) * 4) ∧
    (∃ (c : NvmeCmd) (q : OflSq) (k : OflCq) (s : State), s.Fetches c 0x110 ∧ s.CanPost c q k ∧ bits c.cdw10 2 0 = 2 ∧ bits c.cdw10 5 3 =
      0 ∧ s.ofl.download ≠ []) ∧
    (∃ (c : NvmeCmd) (q : OflSq) (k : OflCq) (s : State), s.Fetches c 0x114 ∧ s.CanPost c q k ∧ (bits c.cdw10 3 0 = 1 ∨ bits c.cdw10 3 0 =
      2) ∧ c.nsid = 0 ∧ s.ofl.test = none) ∧
    (∃ (c : NvmeCmd) (q : OflSq) (k : OflCq) (s : State), s.Fetches c (nvmeCode c) ∧ s.CanPost c q k ∧ nvmeCodes.contains (nvmeCode c) =
      false) :=
  ⟨⟨nvme 5 0 0 0x10000 0x0FFF0002 0x00400001 0, sqA, cqX, oflAdm, (by unfold State.Fetches; decide +kernel),
     (by constructor <;> decide +kernel), by decide +kernel⟩,
   ⟨nvme 1 0 0 0x10000 0x0FFF0002 0x00020001 0, sqA, cqX, oflA { oflBase with cqs := [cqX, { cqI with id := 2 }] },
     (by unfold State.Fetches; decide +kernel), (by constructor <;> decide +kernel), by decide +kernel⟩,
   ⟨nvme 0 0 0 0 1 0 0, sqA, cqX, oflA { oflBase with sqs := [sqA, { sqI with head := 0 }], cqs := [cqX, cqI] },
     (by unfold State.Fetches; decide +kernel), (by constructor <;> decide +kernel), by decide +kernel⟩,
   ⟨nvme 4 0 0 0 1 0 0, sqA, cqX, oflA { oflBase with cqs := [cqX, cqI] }, (by unfold State.Fetches; decide +kernel),
     (by constructor <;> decide +kernel), by decide +kernel⟩,
   ⟨nvme 2 0 0 0x10000 (0x3FF0000 + 4) 0 0, sqA, cqX, oflA { oflBase with changed := [1, 2] }, (by unfold State.Fetches; decide +kernel),
     (by constructor <;> decide +kernel), by decide +kernel⟩,
   ⟨nvme 6 0 1 0x10000 0 0 0, sqA, cqX, { oflI with ofl := oflBase }, (by unfold State.Fetches; decide +kernel),
     (by constructor <;> decide +kernel), by decide +kernel⟩,
   ⟨nvme 8 0 0 0 0x550001 0 0, cmd0, oflA
     { oflBase with sqs := [sqA, { sqI with head := 0 }], cqs := [cqX, cqI], cmds := [cmd0], nextId := 10 },
     (by unfold State.Fetches; decide +kernel), by decide +kernel⟩,
   ⟨nvme 9 0 0 0 0xC0 1 0, sqA, cqX, 0xC0, 1, oflAdm, (by unfold State.Fetches; decide +kernel), (by constructor <;> decide +kernel),
     by decide +kernel⟩,
   ⟨nvme 10 0 0 0 0xC0 0 0, sqA, cqX, 0xC0, oflAdm, (by unfold State.Fetches; decide +kernel), (by constructor <;> decide +kernel),
     by decide +kernel⟩,
   ⟨nvme 12 0 0 0 0 0 0, oflAdm, (by unfold State.Fetches; decide +kernel), by decide +kernel⟩,
   ⟨nvme 17 0 0 0 0 0x7FC00 0, [1, 2, 3, 4], sqA, cqX, oflAdm, (by unfold State.Fetches; decide +kernel),
     (by constructor <;> decide +kernel), by decide +kernel⟩,
   ⟨nvme 16 0 0 0 0x2 0 0, sqA, cqX, oflA { oflBase with download := [1, 2, 3] }, (by unfold State.Fetches; decide +kernel),
     (by constructor <;> decide +kernel), by decide +kernel⟩,
   ⟨nvme 20 0 0 0 2 0 0, sqA, cqX, oflAdm, (by unfold State.Fetches; decide +kernel), (by constructor <;> decide +kernel),
     by decide +kernel⟩,
   ⟨nvme 0x80 0 0 0 0 0 0, sqA, cqX, oflAdm, (by unfold State.Fetches; decide +kernel), (by constructor <;> decide +kernel),
     by decide +kernel⟩⟩

theorem witness_offload_controller :
    (∃ (cc : Nat) (s : State), s.oflPresent = true ∧ bit s.ofl.cc 0 = false ∧ bit cc 0 = true ∧ bits cc 6 4 = 0 ∧ bits cc 13 11 = 0 ∧ bits
      cc 10 7 ≤ 4 ∧ rising s.regs = true) ∧
    (∃ s : State, s.oflPresent = true ∧ bit s.ofl.cc 0 = true ∧ rising s.regs = true) ∧
    (∃ s : State, s.oflPresent = true ∧ rising s.regs = true) ∧
    (∃ (shn : Nat) (s : State), s.oflPresent = true ∧ s.oflRdy = true ∧ (shn = 1 ∨ shn = 2)) ∧
    (∃ (q tail : Nat) (x : OflSq) (s : State), s.oflPresent = true ∧ s.oflRdy = true ∧ s.oflSq q = some x ∧ tail < x.size ∧ x.tail ≠ tail) ∧
    (∃ (slot id : Nat) (s : State), s.ofl.activate = some (slot, id) ∧ (∀ x ∈ s.ofl.cmds, x.id = id ∨ x.id ∈ s.ofl.aers) ∧ rising s.regs =
      true) ∧
    (∃ (ok : Bool) (u : OflTest) (s : State), s.ofl.test = some u ∧ s.hostIo = false ∧ s.get Fl.OFL_STAT_ps < 2 ∧ u.step + 1 <
      (s.testSteps u).getD (u.seg - 1) 0) ∧
    (∃ (u : OflTest) (s : State), s.ofl.test = some u ∧ s.hostIo = false ∧ s.get Fl.OFL_STAT_ps < 2 ∧ u.failed = none ∧ (s.testSteps
      u).getD (u.seg - 1) 0 ≤ u.step + 1 ∧ State.nextSeg (s.testSteps u) (u.seg + 1) = none ∧ rising s.regs = true) ∧
    (∃ (ps : Nat) (s : State), s.ofl.psNext = some ps ∧ ps < 4 ∧ s.ofl.psWant = none ∧ s.ofl.cmds = [] ∧ s.ofl.posts = [] ∧ s.sqPending =
      [] ∧ rising s.regs = true) ∧
    (∃ s : State, s.oflRdy = true ∧ bit (s.feat 0x0C) 0 = true ∧ s.oflAwake = true ∧ s.ofl.cmds = [] ∧ s.sqPending = [] ∧
    let e := State.apstEntry s.ofl.apst (s.get Fl.OFL_STAT_ps);
    e.2 ≠ 0 ∧ rising s.regs = true) :=
  ⟨⟨0x1, oflA OflSt.init, by decide +kernel⟩,
   ⟨oflAdm, by decide +kernel⟩,
   ⟨oflAdm, by decide +kernel⟩,
   ⟨2, oflAdm, by decide +kernel⟩,
   ⟨0, 15, sqA, oflAdm, by decide +kernel⟩,
   ⟨2, 9, oflA { oflBase with activate := some (2, 9), slot2 := [1, 2] }, by decide +kernel⟩,
   ⟨true, ⟨2, 0xFFFFFFFF, 5, 0, none⟩, { oflI with ofl := { oflBase with test := some ⟨2, 0xFFFFFFFF, 5, 0, none⟩ } }, by decide +kernel⟩,
   ⟨⟨1, 0, 1, 0, none⟩, oflA { oflBase with test := some ⟨1, 0, 1, 0, none⟩ }, by decide +kernel⟩,
   ⟨3, oflA { oflBase with sqs := [], psNext := some 3 }, by decide +kernel⟩,
   ⟨oflA { oflBase with sqs := [], feats := [(0x0C, 1)], apst := leBytes 8 (3 * 8 + 5 * 256) }, by decide +kernel⟩⟩

theorem witness_offload_data :
    (∃ (c : NvmeCmd) (q : OflSq) (k : OflCq) (s : State), s.Fetches c 0 ∧ s.CanPost c q k ∧ ((c.nsid = 1 ∧ s.nsActive 1 = true) ∨ (c.nsid
      = 2 ∧ s.nsActive 2 = true ∧ s.ofl.dirty = []))) ∧
    (∃ (c : NvmeCmd) (data : Bytes) (q : OflSq) (k : OflCq) (s : State), s.Fetches c 1 ∧ s.CanPost c q k ∧ s.ioCheck c true 256 = nvOk ∧
    let n := c.cdw12 % 2 ^ 16 + 1;
    let lba := c.cdw10 + 2 ^ 32 * c.cdw11;
    s.ofl.dirty.length + n ≤ cacheBlocks ∧ data.length = n * 4096 ∧ rising s.ofl.cache = true ∧ bit (s.feat 6) 0 = true ∧ bit c.cdw12 30 =
      false) ∧
    (∃ (c : NvmeCmd) (q : OflSq) (k : OflCq) (s : State), s.Fetches c 8 ∧ s.CanPost c q k ∧ s.ioCheck c true 65536 = nvOk ∧
    let n := c.cdw12 % 2 ^ 16 + 1;
    let lba := c.cdw10 + 2 ^ 32 * c.cdw11;
    s.ofl.dirty.length + n ≤ cacheBlocks ∧ rising s.ofl.cache = true ∧ bit (s.feat 6) 0 = true ∧ bit c.cdw12 30 = false) ∧
    (∃ (c : NvmeCmd) (i : Instr) (opc : Nat) (v : Volume) (s : State), ((i, opc) ∈ [(Instr.nvmeRead c, 2), (Instr.nvmeVerify c, 12)] ∨ (∃
      data, i = .nvmeCompare c data ∧ opc = 5)) ∧ s.Fetches c opc ∧ s.ioCheck c false 256 = nvOk ∧ s.recorder.vol = some v ∧
    let lba := c.cdw10 + 2 ^ 32 * c.cdw11;
    (∀ p ∈ State.unitPieces (s.nsBase c.nsid) lba (c.cdw12 % 2 ^ 16 + 1), (s.pieceReads v c.nsid p.1).isSome = true)) ∧
    (∃ (io : Nat) (i j : OflIo) (x : OflCmd) (v : Volume) (pt : Nat) (s : State), s.recorder.vol = some v ∧ (s.ofl.ios.find? (fun y =>
      y.id = io && y.issued) = some i) ∧ j ∈ s.ofl.ios ∧ j.id ≠ i.id ∧ j.cmd = i.cmd ∧ s.oflCmd i.cmd = some x ∧ v.ports[i.m]? = some pt) ∧
    (∃ (io : Nat) (timeout : Bool) (i j : OflIo) (x : OflCmd) (v : Volume) (s : State), s.recorder.vol = some v ∧ i.m < v.m ∧ bit v.failed
      i.m = false ∧ (((List.range v.m).filter fun k => bit v.failed k).length < v.r) ∧ rising s.regs = true ∧ (s.ofl.ios.find? (fun y =>
      y.id = io && y.issued) = some i) ∧ j ∈ s.ofl.ios ∧ j.id ≠ i.id ∧ j.cmd = i.cmd ∧ j.issued = true ∧ s.oflCmd i.cmd = some x ∧ i.cmd ∉
      s.ofl.aers) ∧
    (∃ (row : Nat) (v : Volume) (b : Bytes) (s : State), s.recorder.vol = some v ∧ s.ofl.dusk = false ∧ s.powered .ofl = true ∧
      (s.ofl.dirty.filter (fun a => s.nsRow v 2 a = row) ≠ []) ∧ s.rowData v row = some b ∧ s.ofl.cmds = []) ∧
    (∃ s : State, s.flag Fl.OFL_STAT_ns2_resync = true ∧ s.ofl.dusk = false ∧ rising s.regs = true) :=
  ⟨⟨nvme 0 1 2 0 0 0 0, sqI, cqI, oflI, (by unfold State.Fetches; decide +kernel), (by constructor <;> decide +kernel), by decide +kernel⟩,
   ⟨nvme 1 1 2 0 0 0 0, List.replicate 4096 7, sqI, cqI, oflI, (by unfold State.Fetches; decide +kernel),
     (by constructor <;> decide +kernel), by decide +kernel⟩,
   ⟨nvme 8 1 2 0 0 0 0, sqI, cqI, oflI, (by unfold State.Fetches; decide +kernel), (by constructor <;> decide +kernel), by decide +kernel⟩,
   ⟨nvme 2 1 1 0x10000 0 0 0, .nvmeRead (nvme 2 1 1 0x10000 0 0 0), 2, volX, oflI, (by simp), (by unfold State.Fetches; decide +kernel),
     by decide +kernel⟩,
   ⟨1, io0, io1, cmd0, volX, 0, oflRun, by decide +kernel⟩,
   ⟨1, true, io0, io1, cmd0, volX, oflRun, by decide +kernel⟩,
   ⟨(oflI.nsRow volX 2 0), volX, (oflI.rowData volX (oflI.nsRow volX 2 0)).get (by decide +kernel),
     { oflI with ofl := { oflI.ofl with dirty := [0] } }, (by decide +kernel), (by decide +kernel), (by decide +kernel),
     (by decide +kernel), (by exact (Option.some_get _).symm), by decide +kernel⟩,
   ⟨on.put Fl.OFL_STAT_ns2_resync [] 1, by decide +kernel⟩⟩

theorem witness_sky_formation :
    (∃ s : State, s.reaches .sky = true ∧ s.skyState = 0 ∧ rising s.regs = true) ∧
    (∃ s : State, s.skyState ≠ 0 ∧ s.skyRoot = false) ∧
    (∃ s : State, s.skyState = 1 ∧ s.sky.best.1 = 0 ∧ rising s.regs = true) ∧
    (∃ s : State, s.skyState = 1 ∧ s.sky.best.1 ≠ 0 ∧ s.sky.best = (s.skyPrio, s.serial) ∧ (∀ p ∈ s.sky.peers, p.heard = true → p.formed =
      false) ∧ s.serial < 2 ^ 64 ∧ ((s.sky.peers.filter fun p => p.heard).length < 16384) ∧ rising s.regs = true) ∧
    (∃ (m : SkyMsg) (s : State), s.SkyTakes m 1 ∧ s.skyState = 2 ∧ s.skyRoot = false ∧ s.sky.prep = none) ∧
    (∃ (m : SkyMsg) (s : State), s.SkyTakes m 1 ∧ s.skyState = 2 ∧ s.skyRoot = true ∧ s.sky.prep = none ∧ fieldLe (skyParse m).body 1 1 =
      0 ∧ (skyParse m).serial ∉ s.sky.members ∧ s.sky.members.length < 16384) ∧
    (∃ (m : SkyMsg) (id n : Nat) (s : State), s.SkyTakes m 2 ∧ (s.skyState = 1 ∨ s.skyState = 3) ∧ s.sky.best.2 = (skyParse m).serial ∧
    let b := (skyParse m).body;
    fieldLe b 0 2 = 1 ∧ fieldLe b 2 2 = n ∧ fieldLe b 4 8 = s.serial ∧ fieldLe b 12 2 = id ∧ id < n ∧ n ≤ 16384) ∧
    (∃ (m : SkyMsg) (s : State), s.SkyTakes m 0x30 ∧ s.skyRoot = false) ∧
    (∃ (path : Nat) (s : State), path ≤ 1 ∧ rising s.regs = true) ∧
    (∃ (path : Nat) (s : State), path ≤ 1 ∧ rising s.regs = true ∧
    let f := if path = 0 then Fl.SKY_STAT_path_a_up else Fl.SKY_STAT_path_b_up;
    s.flag f = true) ∧
    (∃ (node : Nat) (s : State), s.skyFormed = true ∧ s.skyRoot = false ∧ node ∈ s.skyKids) ∧
    (∃ s : State, s.skyFormed = true ∧ s.skyRoot = false ∧ rising s.regs = true) ∧
    (∃ (id k : Nat) (p : Packet) (s : State), s.started id 0x200 = some p ∧ fieldLe p.body 16 1 = k ∧ k ≤ 1 ∧ k < s.sky.keys.length) :=
  ⟨⟨(skyS 0 0 0 0), by decide +kernel⟩,
   ⟨(skyS 2 0 1 2), by decide +kernel⟩,
   ⟨(skyS 1 0 0 0), by decide +kernel⟩,
   ⟨{ (skyS 1 0 0 0).put Fl.DEV_STRAP_skyrole [] 2 with sky := { SkySt.init with best := (128, 0) } }, by decide +kernel⟩,
   ⟨(skyMsg 1 1 (List.replicate 24 0)), (skyS 2 0 1 2),
     (by constructor <;> first | decide +kernel | rfl | exact (skyMsg_length ..).trans (by decide +kernel) | exact (skyMsg_length ..).le.trans (by decide +kernel)),
     by decide +kernel⟩,
   ⟨(skyMsg 1 1 (List.replicate 24 0)), (skyS 2 1 0 1),
     (by constructor <;> first | decide +kernel | rfl | exact (skyMsg_length ..).trans (by decide +kernel) | exact (skyMsg_length ..).le.trans (by decide +kernel)),
     by decide +kernel⟩,
   ⟨(skyMsg 2 0 (leBytes 2 1 ++ leBytes 2 2 ++ leBytes 8 0 ++ leBytes 2 1)), 1, 2, (withSky (skyS 1 0 0 0)
     { SkySt.init with best := (128, 7) }),
     (by constructor <;> first | decide +kernel | rfl | exact (skyMsg_length ..).trans (by decide +kernel) | exact (skyMsg_length ..).le.trans (by decide +kernel)),
     by decide +kernel⟩,
   ⟨(skyMsg 48 0 (leBytes 8 9)), (skyS 2 0 1 2),
     (by constructor <;> first | decide +kernel | rfl | exact (skyMsg_length ..).trans (by decide +kernel) | exact (skyMsg_length ..).le.trans (by decide +kernel)),
     by decide +kernel⟩,
   ⟨1, (skyS 2 0 1 2), by decide +kernel⟩,
   ⟨1, (skyS 2 0 1 2).put Fl.SKY_STAT_path_b_up [] 1, by decide +kernel⟩,
   ⟨33, (skyS 2 0 1 64), by decide +kernel⟩,
   ⟨(skyS 2 0 1 2), by decide +kernel⟩,
   ⟨7, 1, (packetOf 0x200 ([1] ++ List.replicate 15 0 ++ List.replicate 32 9)),
     { on with packets := [(packetOf 0x200 ([1] ++ List.replicate 15 0 ++ List.replicate 32 9))] }, by decide +kernel⟩⟩

theorem witness_sky_commit :
    (∃ (arg op : Nat) (i : Instr) (s : State), (i, op) ∈ [(Instr.skyOpCommit arg, 1), (Instr.skyOpSnapshot arg, 3), (Instr.skyOpReset arg,
      4)] ∧ s.reaches .sky = true ∧ rising s.regs = true ∧ arg < 2 ^ 32 ∧ bit arg 31 = true ∧ bits arg 19 16 = op ∧ s.skyFormed = true ∧
      s.skyRoot = false) ∧
    (∃ (arg op : Nat) (i : Instr) (s : State), (i, op) ∈ [(Instr.skyOpCommit arg, 1), (Instr.skyOpSnapshot arg, 3), (Instr.skyOpReset arg,
      4)] ∧ s.reaches .sky = true ∧ rising s.regs = true ∧ arg < 2 ^ 32 ∧ bit arg 31 = true ∧ bits arg 19 16 = op ∧ s.skyFormed = false) ∧
    (∃ (m : SkyMsg) (s : State), s.SkyTakes m 8 ∧ s.skyState = 2 ∧ s.skyRoot = true ∧ (skyParse m).node ∈ s.skyKids ∧ s.sky.run.isSome =
      true ∧ s.sky.queue.length < 8) ∧
    (∃ (m : SkyMsg) (s : State), s.SkyTakes m 8 ∧ s.skyState = 2 ∧ s.skyRoot = false ∧ (skyParse m).node ∈ s.skyKids) ∧
    (∃ (m : SkyMsg) (s : State), s.SkyTakes m 0x10 ∧ s.skyState = 2 ∧ s.skyRoot = false ∧ (skyParse m).node = s.skyId / 32 ∧ s.skyRefusal
      (fieldLe (skyParse m).body 8 8) = 0 ∧ s.drv.staged = []) ∧
    (∃ (m : SkyMsg) (s : State), s.SkyTakes m 0x10 ∧ s.skyState = 2 ∧ s.skyRoot = false ∧ (skyParse m).node = s.skyId / 32 ∧ s.skyRefusal
      (fieldLe (skyParse m).body 8 8) ≠ 0) ∧
    (∃ (m : SkyMsg) (k : Nat) (s : State), s.SkyTakes m 0x11 ∧ s.skyState = 2 ∧ (skyParse m).node ∈ s.skyKids ∧ k ∈ s.skyKids ∧ k ≠
      (skyParse m).node ∧ (∀ a ∈ s.sky.acks, a.child ≠ k) ∧ s.sky.acked = false ∧
    let b := (skyParse m).body;
    (∃ p, s.sky.prep = some (fieldLe b 0 4, p))) ∧
    (∃ (m : SkyMsg) (e tm : Nat) (s : State), s.SkyTakes m 0x12 ∧ s.skyState = 2 ∧ s.skyRoot = false ∧ (skyParse m).node = s.skyId / 32 ∧
      fieldLe (skyParse m).body 0 4 = e ∧ s.sky.prep = some (e, tm) ∧ s.sky.own = 0 ∧ s.sky.held = none) ∧
    (∃ (m : SkyMsg) (e tm : Nat) (s : State), s.SkyTakes m 0x13 ∧ s.skyState = 2 ∧ s.skyRoot = false ∧ (skyParse m).node = s.skyId / 32 ∧
      fieldLe (skyParse m).body 0 4 = e ∧ s.sky.prep = some (e, tm) ∧ s.sky.held = none) ∧
    (∃ (e tm : Nat) (s : State), s.sky.prep = some (e, tm) ∧ s.skyRoot = false ∧ s.skyFormed = true ∧ s.sky.acked = false ∧ rising s.regs
      = true) ∧
    (∃ (e tm : Nat) (s : State), s.sky.prep = some (e, tm) ∧ s.skyRoot = true ∧ s.sky.acked = false ∧ s.sky.own = 0 ∧ s.sky.held = none ∧
      s.sky.run.isSome = true ∧ (s.skySum false).no = 0 ∧ (s.skySum false).yes = s.skyMembers ∧ rising s.regs = true) ∧
    (∃ (m : SkyMsg) (s : State), s.SkyTakes m 0x24 ∧ s.skyState = 2 ∧ s.skyRoot = false ∧ (skyParse m).node ∈ s.skyKids ∧
    let b := (skyParse m).body;
    (∀ d ∈ s.sky.dones, ¬(d.1 = fieldLe b 0 1 ∧ d.2.1 = fieldLe b 4 4 ∧ d.2.2.1 = s.skyId))) :=
  ⟨⟨0x80010000, 1, .skyOpCommit 0x80010000, (skyS 2 0 1 2), (by simp), by decide +kernel⟩,
   ⟨0x80010000, 1, .skyOpCommit 0x80010000, (skyS 3 0 0 0), (by simp), by decide +kernel⟩,
   ⟨(skyMsg 8 1 (List.replicate 24 0)), (withSky (skyS 2 1 0 3) { SkySt.init with run := some ((⟨1, 5, 0⟩ : SkyReq), 0) }),
     (by constructor <;> first | decide +kernel | rfl | exact (skyMsg_length ..).trans (by decide +kernel) | exact (skyMsg_length ..).le.trans (by decide +kernel)),
     by decide +kernel⟩,
   ⟨(skyMsg 8 33 (List.replicate 24 0)), (skyS 2 0 1 64),
     (by constructor <;> first | decide +kernel | rfl | exact (skyMsg_length ..).trans (by decide +kernel) | exact (skyMsg_length ..).le.trans (by decide +kernel)),
     by decide +kernel⟩,
   ⟨(skyMsg 16 0 (leBytes 8 5 ++ leBytes 8 1000000000)), (skyS 2 0 1 2).put Fl.DEV_STATUS_ready [] 1,
     (by constructor <;> first | decide +kernel | rfl | exact (skyMsg_length ..).trans (by decide +kernel) | exact (skyMsg_length ..).le.trans (by decide +kernel)),
     by decide +kernel⟩,
   ⟨(skyMsg 16 0 (leBytes 8 5 ++ leBytes 8 1000000000)), (skyS 2 0 1 2),
     (by constructor <;> first | decide +kernel | rfl | exact (skyMsg_length ..).trans (by decide +kernel) | exact (skyMsg_length ..).le.trans (by decide +kernel)),
     by decide +kernel⟩,
   ⟨(skyMsg 17 33 (leBytes 8 5 ++ List.replicate 24 0)), 34, (withSky (skyS 2 0 1 64) { SkySt.init with prep := some (5, 9) }),
     (by constructor <;> first | decide +kernel | rfl | exact (skyMsg_length ..).trans (by decide +kernel) | exact (skyMsg_length ..).le.trans (by decide +kernel)),
     (by decide +kernel), (by decide +kernel), (by decide +kernel), (by decide +kernel), (by decide +kernel), (by decide +kernel),
     by exact ⟨9, rfl⟩⟩,
   ⟨(skyMsg 18 0 (leBytes 8 5)), 5, 9, (withSky (skyS 2 0 1 2) { SkySt.init with prep := some (5, 9) }),
     (by constructor <;> first | decide +kernel | rfl | exact (skyMsg_length ..).trans (by decide +kernel) | exact (skyMsg_length ..).le.trans (by decide +kernel)),
     by decide +kernel⟩,
   ⟨(skyMsg 19 0 (leBytes 8 5)), 5, 9, (withSky (skyS 2 0 1 2) { SkySt.init with prep := some (5, 9) }),
     (by constructor <;> first | decide +kernel | rfl | exact (skyMsg_length ..).trans (by decide +kernel) | exact (skyMsg_length ..).le.trans (by decide +kernel)),
     by decide +kernel⟩,
   ⟨5, 9, (withSky (skyS 2 0 1 2) { SkySt.init with prep := some (5, 9) }), by decide +kernel⟩,
   ⟨5, 9, (withSky (skyS 2 1 0 1) { SkySt.init with prep := some (5, 9), run := some ((⟨1, 5, 0⟩ : SkyReq), 0) }), by decide +kernel⟩,
   ⟨(skyMsg 36 33 (List.replicate 24 0)), (skyS 2 0 1 64),
     (by constructor <;> first | decide +kernel | rfl | exact (skyMsg_length ..).trans (by decide +kernel) | exact (skyMsg_length ..).le.trans (by decide +kernel)),
     by decide +kernel⟩⟩

theorem witness_sky_barrier_snap_reset :
    (∃ (arg k : Nat) (s : State), s.reaches .sky = true ∧ rising s.regs = true ∧ arg < 2 ^ 32 ∧ bit arg 31 = true ∧ bits arg 19 16 = 2 ∧
      s.skyFormed = true ∧ s.skyRoot = false ∧ k ∈ s.skyKids ∧ (∀ a ∈ s.sky.arrivals, a.1 ≠ k)) ∧
    (∃ (arg : Nat) (s : State), s.reaches .sky = true ∧ rising s.regs = true ∧ arg < 2 ^ 32 ∧ bit arg 31 = true ∧ bits arg 19 16 = 2 ∧
      s.skyFormed = true ∧ s.skyRoot = false ∧ s.skyKids = [] ∧ s.sky.arriveSent = false) ∧
    (∃ (arg : Nat) (s : State), s.reaches .sky = true ∧ rising s.regs = true ∧ arg < 2 ^ 32 ∧ bit arg 31 = true ∧ bits arg 19 16 = 3 ∧
      s.skyFormed = true ∧ s.skyRoot = true ∧ s.sky.run = none ∧ s.sky.queue = []) ∧
    (∃ (m : SkyMsg) (s : State), s.SkyTakes m 0x20 ∧ s.skyState = 2 ∧ (skyParse m).node ∈ s.skyKids ∧ s.sky.arrived = none ∧
    let b := (skyParse m).body;
    (s.skyRoot = true → s.skyBarrierId = none ∨ s.skyBarrierId = some (fieldLe b 0 2))) ∧
    (∃ (m : SkyMsg) (s : State), s.SkyTakes m 0x21 ∧ s.skyState = 2 ∧ s.skyRoot = false ∧ (skyParse m).node = s.skyId / 32) ∧
    (∃ (m : SkyMsg) (s : State), s.SkyTakes m 0x22 ∧ s.skyState = 2 ∧ s.skyRoot = false ∧ (skyParse m).node = s.skyId / 32) ∧
    (∃ (m : SkyMsg) (s : State), s.SkyTakes m 0x23 ∧ s.skyState = 2 ∧ s.skyRoot = false ∧ (skyParse m).node = s.skyId / 32) ∧
    (∃ (id tm : Nat) (s : State), s.sky.release = some (id, tm) ∧ rising s.regs = true) ∧
    (∃ (k tm : Nat) (s : State), s.sky.snap = some (k, tm) ∧ s.sky.snapLate = false ∧ s.flag Fl.DEV_SNAP_go = false ∧ s.skyRoot = false ∧
      rising s.regs = true) ∧
    (∃ (tm : Nat) (s : State), s.sky.reset = some tm ∧ rising s.regs = true) :=
  ⟨⟨0x80020005, 33, (skyS 2 0 1 64), by decide +kernel⟩,
   ⟨0x80020005, (skyS 2 0 1 2), by decide +kernel⟩,
   ⟨0x80030000, (skyS 2 1 0 2), by decide +kernel⟩,
   ⟨(skyMsg 32 33 (List.replicate 24 0)), (skyS 2 0 1 64),
     (by constructor <;> first | decide +kernel | rfl | exact (skyMsg_length ..).trans (by decide +kernel) | exact (skyMsg_length ..).le.trans (by decide +kernel)),
     by decide +kernel⟩,
   ⟨(skyMsg 33 0 (List.replicate 24 0)), (skyS 2 0 1 2),
     (by constructor <;> first | decide +kernel | rfl | exact (skyMsg_length ..).trans (by decide +kernel) | exact (skyMsg_length ..).le.trans (by decide +kernel)),
     by decide +kernel⟩,
   ⟨(skyMsg 34 0 (List.replicate 24 0)), (skyS 2 0 1 2),
     (by constructor <;> first | decide +kernel | rfl | exact (skyMsg_length ..).trans (by decide +kernel) | exact (skyMsg_length ..).le.trans (by decide +kernel)),
     by decide +kernel⟩,
   ⟨(skyMsg 35 0 (List.replicate 24 0)), (skyS 2 0 1 2),
     (by constructor <;> first | decide +kernel | rfl | exact (skyMsg_length ..).trans (by decide +kernel) | exact (skyMsg_length ..).le.trans (by decide +kernel)),
     by decide +kernel⟩,
   ⟨5, 9, (withSky (skyS 2 0 1 2) { SkySt.init with release := some (5, 9) }), by decide +kernel⟩,
   ⟨3, 9, (withSky (skyS 2 0 1 2) { SkySt.init with snap := some (3, 9) }), by decide +kernel⟩,
   ⟨9, (withSky (skyS 2 0 1 2) { SkySt.init with reset := some 9 }), by decide +kernel⟩⟩

theorem witness_audio_ports :
    (∃ (v n : Nat) (s : State), n < 14 ∧ s.Shaped ∧ v < 2 ^ 32 ∧ s.reaches .aud = true ∧ rising s.regs = true ∧ bit v 31 = true ∧ bit v n
      = true ∧ s.aud.starting = none ∧ s.tbNs 3 ≤ s.rd64 R.AUD_START_TIME_LO R.AUD_START_TIME_HI + 10000 ∧ s.dev Fl.AUD_P_CTRL_enable [n]
      = 1 ∧ s.audPortOn n = true ∧ s.audRunning n = false) ∧
    (∃ (v : Nat) (s : State), v < 2 ^ 32 ∧ s.reaches .aud = true ∧ rising s.regs = true ∧ bit v 31 = true ∧ s.aud.starting = none ∧ s.rd64
      R.AUD_START_TIME_LO R.AUD_START_TIME_HI + 10000 < s.tbNs 3) ∧
    (∃ (n : Nat) (g : AudGo) (captured : Bytes) (s : State), n < 14 ∧ s.Shaped ∧ s.powered .aud = true ∧ rising s.regs = true ∧ audElastic
      n = false ∧ s.audIn n = false ∧ (s.audPort n).armed = true ∧ s.schedule n = 0 ∧ s.aud.starting = some g ∧ g.left = [n] ∧ g.begun =
      [] ∧ g.busy = false ∧ g.late = false) ∧
    (∃ (n base size : Nat) (captured : Bytes) (s : State), n < 8 ∧ s.Shaped ∧ s.powered .aud = true ∧ rising s.regs = true ∧ s.audRunning
      n = true ∧ (s.audPort n).armed = false ∧ (s.audPort n).stopping = false ∧ (s.audPort n).elastic.fade.mode = 0 ∧ s.audIn n = true ∧
      s.audRing n = some (base, size) ∧ size ≠ 0 ∧ s.hbmc.down = [] ∧ rising s.hbm = true) ∧
    (∃ (n : Nat) (captured : Bytes) (s : State), n < 14 ∧ s.Shaped ∧ s.powered .aud = true ∧ rising s.regs = true ∧ s.audRunning n = true
      ∧ (s.audPort n).armed = false ∧ (s.audPort n).stopping = false ∧ audElastic n = false ∧ s.audIn n = false) ∧
    (∃ (n : Nat) (data : Bytes) (cs : List Nat) (s : State), n < 14 ∧ s.Shaped ∧ s.powered .aud = true ∧ rising s.regs = true ∧ audElastic
      n = true ∧ s.flag Fl.AUD_P_STAT_locked [n] = true ∧ s.audRunning n = true ∧ (s.audPort n).elastic.buf.length < 4 * rampLen
      (s.audCode n) ∧ (∀ i, bit (cs.getD i 0) 1 = false) ∧ (∀ m ∈ (s.audPort n).mutes, m = (false, false, cleanTop)) ∧ (∀ w ∈ (s.audPort
      n).words, w ≠ 0xF872) ∧ (∀ c, fieldLe data (4 * c) 4 / 2 ^ 16 ≠ 0xF872)) ∧
    (∃ (n : Nat) (s : State), audElastic n = true ∧ s.powered .aud = true ∧ s.flag Fl.AUD_P_STAT_locked [n] = false ∧ s.audLockable n =
      true ∧ rising s.regs = true) ∧
    (∃ (n : Nat) (s : State), n < 14 ∧ s.Shaped ∧ audElastic n = true ∧ s.powered .aud = true ∧ s.flag Fl.AUD_P_STAT_locked [n] = true ∧
      s.audRunning n = true ∧ (s.audPort n).elastic.fade.mode = 0 ∧ rising s.regs = true) :=
  ⟨⟨0x80002000, 13, inEffect (io.put Fl.AUD_P_CTRL_enable [13] 1), (by decide +kernel), (by constructor <;> decide +kernel),
     by decide +kernel⟩,
   ⟨0x80002000, { io with time := { io.time with tb := [0, 0, 0, 20000 * 2 ^ 32] } }, by decide +kernel⟩,
   ⟨0, (⟨[0], [], false, false⟩ : AudGo), [], inEffect
     { io with aud := { AudSt.init with ports := AudSt.init.ports.set 0 { AudPort.init with armed := true }, starting := some (⟨[0], [], false, false⟩ : AudGo) } },
     (by decide +kernel), (by constructor <;> decide +kernel), by decide +kernel⟩,
   ⟨7, 0x200000, 4096, List.replicate 4 0x55, inEffect
     { ((((io.put Fl.AUD_P_STAT_running [7] 1).wr R.AUD_P_RING_LO [7] 0x200000).put Fl.AUD_P_SIZE_frames [7] 4096).put Fl.AUD_P_FMT_dir [7] 1) with aud := { AudSt.init with ports := AudSt.init.ports.set 7 { AudPort.init with elastic := { Elastic.init with fade := ⟨0, 0, 0⟩ } } } },
     (by decide +kernel), (by constructor <;> decide +kernel), by decide +kernel⟩,
   ⟨11, [], inEffect
     { (io.put Fl.AUD_P_STAT_running [11] 1) with aud := { AudSt.init with ports := AudSt.init.ports.set 11 { AudPort.init with elastic := { Elastic.init with fade := ⟨0, 0, 0⟩ } } } },
     (by decide +kernel), (by constructor <;> decide +kernel), by decide +kernel⟩,
   ⟨13, [], [], inEffect
     { (io.put Fl.AUD_P_STAT_running [13] 1).put Fl.AUD_P_STAT_locked [13] 1 with aud := { AudSt.init with ports := AudSt.init.ports.set 13 { AudPort.init with elastic := { Elastic.init with fade := ⟨0, 0, 0⟩ } } } },
     (by decide +kernel), (by constructor <;> decide +kernel), (by decide +kernel), (by decide +kernel), (by decide +kernel),
     (by decide +kernel), (by decide +kernel), (by decide +kernel), (by intro i; simp only [List.getD_nil]; rfl), (by decide +kernel),
     (by decide +kernel), by intro c; simp [Machine.fieldLe, leNat]⟩,
   ⟨13, io.put Fl.DISP_I_STAT_locked [1] 1, by decide +kernel⟩,
   ⟨13, inEffect
     { (io.put Fl.AUD_P_STAT_running [13] 1).put Fl.AUD_P_STAT_locked [13] 1 with aud := { AudSt.init with ports := AudSt.init.ports.set 13 { AudPort.init with elastic := { Elastic.init with fade := ⟨0, 0, 0⟩ } } } },
     (by decide +kernel), (by constructor <;> decide +kernel), by decide +kernel⟩⟩

theorem witness_low_speed_buses :
    (∃ (addr cmd k n : Nat) (s : State), s.smbAddressed addr = true ∧ s.smbEntry cmd false = some k ∧ s.flag Fl.LSP_SMB_CMD_pec [k] =
      false ∧ s.get Fl.LSP_SMB_CMD_kind [k] = 0 ∧ n = (s.smbBytes k).length ∧ rising s.regs = true) ∧
    (∃ (addr cmd k : Nat) (data : Bytes) (s : State), s.smbAddressed addr = true ∧ s.smbEntry cmd true = some k ∧ cmd < 256 ∧ s.flag
      Fl.LSP_SMB_CMD_pec [k] = false ∧ s.get Fl.LSP_SMB_CMD_kind [k] = 1 ∧ data.length = s.get Fl.LSP_SMB_CMD_length [k] ∧ s.get
      Fl.LSP_SMB_CMD_offset [k] + data.length ≤ 32 ∧ rising s.regs = true) ∧
    (∃ s : State, s.powered .lsp = true ∧ s.flag Fl.LSP_SMB_CTRL_enable = true ∧ s.flag Fl.LSP_SMB_CTRL_tmo_en = true ∧ rising s.regs =
      true) ∧
    (∃ (c v : Nat) (s : State), c ≤ 6 ∧ s.Shaped ∧ v < 2 ^ 32 ∧ s.reaches .lsp = true ∧ rising s.regs = true ∧ bit v 31 = true ∧ bit v 0 =
      false ∧ s.lspPort 0x0C c = true ∧ (s.i2c c).run = none ∧ s.get Fl.LSP_I_LEN_wlen [c] ≤ (s.i2c c).tx.length) ∧
    (∃ (c : Nat) (x : I2cRun) (data : Bytes) (s : State), c ≤ 6 ∧ s.Shaped ∧ s.powered .lsp = true ∧ rising s.regs = true ∧ (s.i2c c).run
      = some x ∧ x.bus = true ∧ (s.i2c c).flush = false ∧ data.length = x.rlen ∧ (s.i2c c).rx.length + data.length ≤ 64 ∧ x.tries < 16) ∧
    (∃ (c : Nat) (x : I2cRun) (s : State), c ≤ 6 ∧ s.Shaped ∧ s.powered .lsp = true ∧ rising s.regs = true ∧ (s.i2c c).run = some x ∧
      x.bus = true ∧ (s.i2c c).flush = false ∧ x.tries < s.get Fl.LSP_I_RETRY_tries [c]) ∧
    (∃ (c : Nat) (x : I2cRun) (s : State), c ≤ 6 ∧ s.Shaped ∧ s.powered .lsp = true ∧ (s.i2c c).run = some x ∧ x.bus = false) ∧
    (∃ (c : Nat) (s : State), c ≤ 6 ∧ s.Shaped ∧ s.reaches .lsp = true ∧ rising s.regs = true ∧ s.lspPort 0x0C c = true ∧ (s.i2c c).run =
      none) ∧
    (∃ (c v : Nat) (s : State), c ≤ 3 ∧ s.Shaped ∧ v < 2 ^ 32 ∧ s.reaches .lsp = true ∧ rising s.regs = true ∧ bit v 31 = true ∧
      s.spiOwned c = false ∧ s.lspPort 0x0D c = true ∧ (s.spi c).run = none) ∧
    (∃ (c : Nat) (g : SpiRun) (data : Bytes) (s : State), c ≤ 3 ∧ s.Shaped ∧ s.powered .lsp = true ∧ rising s.regs = true ∧ (s.spi c).run
      = some g ∧ data.length = g.len ∧ g.len ≤ (s.spi c).tx.length ∧ (s.spi c).rx.length + g.len ≤ 64) ∧
    (∃ (i v : Nat) (s : State), i ≤ 6 ∧ s.Shaped ∧ s.reaches .lsp = true ∧ rising s.regs = true ∧ (s.i2c i).tx.length < 64) ∧
    (∃ (i v : Nat) (s : State), i ≤ 1 ∧ s.Shaped ∧ s.reaches .lsp = true ∧ rising s.regs = true ∧ 16 ≤ (s.uart i).tx.length) ∧
    (∃ (i : Nat) (b : Byte) (rest : Bytes) (s : State), i ≤ 6 ∧ s.Shaped ∧ s.reaches .lsp = true ∧ (s.i2c i).rx = b :: rest) ∧
    (∃ (i : Nat) (s : State), i ≤ 6 ∧ s.Shaped ∧ s.reaches .lsp = true ∧ (s.i2c i).rx = []) ∧
    (∃ (u b : Nat) (s : State), u ≤ 1 ∧ s.Shaped ∧ b < 256 ∧ s.lspPort 0x0E u = true ∧ s.flag Fl.LSP_U_CTRL_rx_en [u] = true ∧ rising
      s.regs = true ∧ (s.uart u).rx.length < 16) ∧
    (∃ (u b : Nat) (frameErr brk : Bool) (s : State), u ≤ 1 ∧ s.Shaped ∧ s.lspPort 0x0E u = true ∧ s.flag Fl.LSP_U_CTRL_rx_en [u] = true ∧
      rising s.regs = true ∧ 16 ≤ (s.uart u).rx.length) ∧
    (∃ (u : Nat) (b : Byte) (rest : Bytes) (s : State), u ≤ 1 ∧ s.Shaped ∧ s.lspPort 0x0E u = true ∧ s.flag Fl.LSP_U_CTRL_tx_en [u] = true
      ∧ (s.uart u).tx = b :: rest) :=
  ⟨⟨0x7F, 255, 31, 4, ((((((io.put Fl.LSP_SMB_CTRL_enable [] 1).put Fl.LSP_SMB_ADDR_en [3] 1).put Fl.LSP_SMB_ADDR_addr [3] 0x7F).put
     Fl.LSP_SMB_ADDR_mask [3] 0x7F).put Fl.LSP_SMB_CMD_en [31] 1).put Fl.LSP_SMB_CMD_code [31] 255).put Fl.LSP_SMB_CMD_length [31] 4,
     by decide +kernel⟩,
   ⟨0x7F, 255, 31, [9], ((((((((io.put Fl.LSP_SMB_CTRL_enable [] 1).put Fl.LSP_SMB_ADDR_en [3] 1).put Fl.LSP_SMB_ADDR_addr [3] 0x7F).put
     Fl.LSP_SMB_ADDR_mask [3] 0x7F).put Fl.LSP_SMB_CMD_en [31] 1).put Fl.LSP_SMB_CMD_code [31] 255).put Fl.LSP_SMB_CMD_kind [31] 1).put
     Fl.LSP_SMB_CMD_length [31] 1).put Fl.LSP_SMB_CMD_offset [31] 31, by decide +kernel⟩,
   ⟨(io.put Fl.LSP_SMB_CTRL_enable [] 1).put Fl.LSP_SMB_CTRL_tmo_en [] 1, by decide +kernel⟩,
   ⟨6, 0x80000000, io, (by decide +kernel), (by constructor <;> decide +kernel), by decide +kernel⟩,
   ⟨6, (⟨1, true, [], 0, 2, 0⟩ : I2cRun), [1, 2],
     { io with lsp := { LspSt.init with i2c := LspSt.init.i2c.set 6 { I2cSt.init with run := some (⟨1, true, [], 0, 2, 0⟩ : I2cRun) } } },
     (by decide +kernel), (by constructor <;> decide +kernel), by decide +kernel⟩,
   ⟨6, (⟨1, true, [], 0, 2, 0⟩ : I2cRun),
     { { io with lsp := { LspSt.init with i2c := LspSt.init.i2c.set 6 { I2cSt.init with run := some (⟨1, true, [], 0, 2, 0⟩ : I2cRun) } } } with regs := (io.put Fl.LSP_I_RETRY_tries [6] 15).regs },
     (by decide +kernel), (by constructor <;> decide +kernel), by decide +kernel⟩,
   ⟨6, (⟨1, false, [], 0, 2, 0⟩ : I2cRun),
     { io with lsp := { LspSt.init with i2c := LspSt.init.i2c.set 6 { I2cSt.init with run := some (⟨1, false, [], 0, 2, 0⟩ : I2cRun) } } },
     (by decide +kernel), (by constructor <;> decide +kernel), by decide +kernel⟩,
   ⟨6, io, (by decide +kernel), (by constructor <;> decide +kernel), by decide +kernel⟩,
   ⟨3, 0xF0000000, io, (by decide +kernel), (by constructor <;> decide +kernel), by decide +kernel⟩,
   ⟨3, (⟨3, 3, false, 2⟩ : SpiRun), [8, 9],
     { io with lsp := { LspSt.init with spi := LspSt.init.spi.set 3 { SpiSt.init with run := some (⟨3, 3, false, 2⟩ : SpiRun), tx := [1, 2, 3] } } },
     (by decide +kernel), (by constructor <;> decide +kernel), by decide +kernel⟩,
   ⟨6, 0x155, io, (by decide +kernel), (by constructor <;> decide +kernel), by decide +kernel⟩,
   ⟨1, 5, { io with lsp := { LspSt.init with uart := LspSt.init.uart.set 1 ⟨List.replicate 16 0, []⟩ } }, (by decide +kernel),
     (by constructor <;> decide +kernel), by decide +kernel⟩,
   ⟨6, 5, [6], { io with lsp := { LspSt.init with i2c := LspSt.init.i2c.set 6 { I2cSt.init with rx := [5, 6] } } }, (by decide +kernel),
     (by constructor <;> decide +kernel), by decide +kernel⟩,
   ⟨6, io, (by decide +kernel), (by constructor <;> decide +kernel), by decide +kernel⟩,
   ⟨1, 255, io.put Fl.LSP_U_CTRL_rx_en [1] 1, (by decide +kernel), (by constructor <;> decide +kernel), by decide +kernel⟩,
   ⟨1, 255, true, false,
     { (io.put Fl.LSP_U_CTRL_rx_en [1] 1) with lsp := { LspSt.init with uart := LspSt.init.uart.set 1 ⟨[], List.replicate 16 0⟩ } },
     (by decide +kernel), (by constructor <;> decide +kernel), by decide +kernel⟩,
   ⟨1, 5, [6], { (io.put Fl.LSP_U_CTRL_tx_en [1] 1) with lsp := { LspSt.init with uart := LspSt.init.uart.set 1 ⟨[5, 6], []⟩ } },
     (by decide +kernel), (by constructor <;> decide +kernel), by decide +kernel⟩⟩

theorem witness_usb_card_and_lines :
    (∃ (ctl : Option Nat) (hs : Bool) (s : State), s.usbOn = true ∧ rising s.regs = true) ∧
    (∃ (data : Bytes) (base n : Nat) (s : State), s.usbLive = true ∧ data.length ≤ s.usbMax ∧ rising s.regs = true ∧ s.hbmc.down = [] ∧
      rising s.hbm = true ∧ s.usbRing R.LSP_USB_RXRING_LO R.LSP_USB_RXRING_HI (s.get Fl.LSP_USB_RINGSZ_rx_pages) = some (base, n) ∧
    let wr := s.rd R.LSP_USB_RXWR;
    let held := (wr + 2 ^ 32 - s.rd R.LSP_USB_RXRD) % 2 ^ 32;
    held < n ∧ held + data.length ≤ n) ∧
    (∃ (base n : Nat) (s : State), s.usbLive = true ∧ rising s.regs = true ∧ s.usbRing R.LSP_USB_TXRING_LO R.LSP_USB_TXRING_HI (s.get
      Fl.LSP_USB_RINGSZ_tx_pages) = some (base, n) ∧
    let rd := s.rd R.LSP_USB_TXRD;
    let have_ := (s.rd R.LSP_USB_TXWR + 2 ^ 32 - rd) % 2 ^ 32;
    let k := min have_ s.usbMax;
    have_ ≠ 0) ∧
    (∃ (i : Instr) (on : Bool) (s : State), (i, on) ∈ [(Instr.usbSuspend, true), (Instr.usbResume, false)] ∧ s.usbOn = true ∧ s.get
      Fl.LSP_USB_STAT_state ≠ 0 ∧ s.flag Fl.LSP_USB_STAT_suspended = !on ∧ rising s.regs = true) ∧
    (∃ (rq : UsbReq) (s : State), s.usbOn = true ∧ s.get Fl.LSP_USB_STAT_state ≠ 0 ∧ s.flag Fl.LSP_USB_STAT_suspended = false ∧
      rq.bmRequestType = 0 ∧ rq.bRequest = 5 ∧ rq.wValue < 128 ∧ rising s.regs = true) ∧
    (∃ (rq : UsbReq) (s : State), s.usbOn = true ∧ 2 ≤ s.get Fl.LSP_USB_STAT_state ∧ s.flag Fl.LSP_USB_STAT_suspended = false ∧
      rq.bmRequestType = 0 ∧ rq.bRequest = 9 ∧ rq.wValue = 1 ∧ rising s.regs = true) ∧
    (∃ s : State, s.powered .lsp = true ∧ rising s.regs = true) ∧
    (∃ (blk : Nat) (data : Bytes) (s : State), s.usbOn = true ∧ s.get Fl.LSP_USB_STAT_state = 3 ∧ s.dfuMode = true ∧ data ≠ [] ∧
      data.length ≤ 4096 ∧ (s.lsp.dfuState = 2 ∨ s.lsp.dfuState = 5) ∧ blk * 4096 + data.length ≤ 0x1000000 ∧ s.hbmc.down = [] ∧ rising
      s.hbm = true) ∧
    (∃ s : State, s.usbOn = true ∧ s.dfuMode = true ∧ s.lsp.dfuState = 6 ∧ rising s.regs = true) ∧
    (∃ s : State, s.usbOn = true ∧ s.get Fl.LSP_USB_STAT_state = 3 ∧ s.dfuMode = false) ∧
    (∃ (id : Nat) (p : Packet) (s : State), s.started id 0x300 = some p ∧ p.len = 16 ∧ s.powered .lsp = true) ∧
    (∃ (id n first a : Nat) (p : Packet) (data : Bytes) (s : State), s.started id 0x301 = some p ∧ s.sdArgs p = some (n, first, a) ∧
      s.sdDead = none ∧ data.length = 512 * n ∧ s.hbmc.down = [] ∧ rising s.hbm = true ∧ rising s.regs = true) ∧
    (∃ (id n first a : Nat) (p : Packet) (s : State), s.started id 0x302 = some p ∧ s.sdArgs p = some (n, first, a) ∧ s.sdDead = none ∧
      rising s.regs = true) ∧
    (∃ (present : Bool) (mode : Nat) (s : State), s.lspPort 0x10 0 = true ∧ s.flag Fl.LSP_SD_STAT_present = !present ∧ mode ≤ 6 ∧ rising
      s.regs = true) ∧
    (∃ (i : Instr) (b v : Nat) (f : Bool → Bool → Bool) (s : State), b < 6 ∧ s.Shaped ∧ s.reaches .lsp = true ∧ s.lspPort 0x11 b = true ∧
      rising s.regs = true ∧ ((i = .gpioSet b v ∧ f = (fun o x => o || x)) ∨ (i = .gpioClr b v ∧ f = fun o x => o && !x))) :=
  ⟨⟨some 5, true, { io.put Fl.LSP_USB_CTRL_connect [] 1 with lsp := { LspSt.init with vbus := true } }, by decide +kernel⟩,
   ⟨[1, 2, 3], 0x200000, 4096,
     { (((io.put Fl.LSP_USB_CTRL_connect [] 1).put Fl.LSP_USB_STAT_state [] 3).wr R.LSP_USB_RXRING_LO [] 0x200000).put Fl.LSP_USB_RINGSZ_rx_pages [] 1 with lsp := { LspSt.init with vbus := true } },
     by decide +kernel⟩,
   ⟨0x200000, 4096,
     { ((((io.put Fl.LSP_USB_CTRL_connect [] 1).put Fl.LSP_USB_STAT_state [] 3).wr R.LSP_USB_TXRING_LO [] 0x200000).put Fl.LSP_USB_RINGSZ_tx_pages [] 1).wr R.LSP_USB_TXWR [] 5 with lsp := { LspSt.init with vbus := true } },
     by decide +kernel⟩,
   ⟨.usbSuspend, true,
     { (io.put Fl.LSP_USB_CTRL_connect [] 1).put Fl.LSP_USB_STAT_state [] 3 with lsp := { LspSt.init with vbus := true } }, (by simp),
     by decide +kernel⟩,
   ⟨(⟨0, 5, 127, 0, 0⟩ : UsbReq),
     { (io.put Fl.LSP_USB_CTRL_connect [] 1).put Fl.LSP_USB_STAT_state [] 1 with lsp := { LspSt.init with vbus := true } },
     by decide +kernel⟩,
   ⟨(⟨0, 9, 1, 0, 0⟩ : UsbReq),
     { (io.put Fl.LSP_USB_CTRL_connect [] 1).put Fl.LSP_USB_STAT_state [] 2 with lsp := { LspSt.init with vbus := true } },
     by decide +kernel⟩,
   ⟨io, by decide +kernel⟩,
   ⟨0, [1, 2],
     { ((io.put Fl.LSP_USB_CTRL_connect [] 1).put Fl.LSP_USB_STAT_state [] 3).put Fl.DEV_STRAP_bootsel [] 4 with lsp := { LspSt.init with vbus := true, dfuState := 2 } },
     by decide +kernel⟩,
   ⟨{ (io.put Fl.LSP_USB_CTRL_connect [] 1).put Fl.DEV_STRAP_bootsel [] 4 with lsp := { LspSt.init with vbus := true, dfuState := 6, dfuLen := 1000 } },
     by decide +kernel⟩,
   ⟨{ (io.put Fl.LSP_USB_CTRL_connect [] 1).put Fl.LSP_USB_STAT_state [] 3 with lsp := { LspSt.init with vbus := true } },
     by decide +kernel⟩,
   ⟨7, packetOf 0x300 [], { io with packets := [packetOf 0x300 []] }, by decide +kernel⟩,
   ⟨7, 1, 3, 0x200000, (packetOf 769 (leBytes 4 1 ++ leBytes 4 0 ++ leBytes 8 3 ++ leBytes 8 0x200000)), List.replicate 512 7,
     { (io.put Fl.LSP_SD_STAT_present [] 1).put Fl.LSP_SD_STAT_mode [] 6 with packets := [(packetOf 769 (leBytes 4 1 ++ leBytes 4 0 ++ leBytes 8 3 ++ leBytes 8 0x200000))] },
     by decide +kernel⟩,
   ⟨7, 1, 3, 0x200000, (packetOf 770 (leBytes 4 1 ++ leBytes 4 0 ++ leBytes 8 3 ++ leBytes 8 0x200000)),
     { (io.put Fl.LSP_SD_STAT_present [] 1).put Fl.LSP_SD_STAT_mode [] 6 with packets := [(packetOf 770 (leBytes 4 1 ++ leBytes 4 0 ++ leBytes 8 3 ++ leBytes 8 0x200000))] },
     by decide +kernel⟩,
   ⟨true, 6, io, by decide +kernel⟩,
   ⟨.gpioSet 5 0x80, 5, 0x80, fun o x => o || x, io, (by decide +kernel), (by constructor <;> decide +kernel), (by decide +kernel),
     (by decide +kernel), (by decide +kernel), by exact .inl ⟨rfl, rfl⟩⟩⟩

theorem witness_power_and_dawn :
    (∃ (straps serial : Nat) (s : State), serial < 2 ^ 64) ∧
    (∃ (r : DawnInput) (s : State), s.cpr.step = 1 ∧ s.cpr.hold = false ∧ s.cpr.trip = false ∧ s.cpr.halted = false ∧ s.flag
      Fl.DEV_STATUS_ready = false ∧ s.dusk = false ∧ s.flag Fl.DEV_STRAP_safe = false ∧ s.bootsel = 0 ∧ s.nv.fails < 3 ∧ rising s.regs =
      true) ∧
    (∃ (r : DawnInput) (s : State), s.cpr.step = 9 ∧ s.cpr.hold = false ∧ s.cpr.trip = false ∧ s.cpr.halted = false ∧ s.flag
      Fl.DEV_STATUS_ready = false ∧ s.dusk = false ∧ s.domainOn 3 = false ∧ rising s.regs = true) ∧
    (∃ (r : DawnInput) (s : State), s.dusk = true ∧ (s.cpr.step = 1 ∨ s.cpr.step = 8) ∧ s.cpr.hold = false ∧ s.cpr.trip = false ∧
      s.cpr.halted = false ∧ s.flag Fl.DEV_STATUS_ready = false ∧ rising s.regs = true) ∧
    (∃ (tm : Nat) (s : State), s.cpr.armed = some tm ∧ s.flag Fl.DEV_STATUS_ready = false ∧ s.cpr.hold = false ∧ s.cpr.trip = false ∧
      rising s.regs = true) ∧
    (∃ (v : Nat) (s : State), v < 2 ^ 32 ∧ s.reaches .cpr = true ∧ bit v 31 = true ∧ bits v 15 0 = 0xD0E5 ∧ s.cpr.hold = false ∧
      s.cpr.trip = false ∧ s.cpr.resetDue = false ∧ s.dusk = false ∧ rising s.regs = true) ∧
    (∃ (v : Nat) (s : State), s.reaches .cpr = true ∧ bits v 15 0 ≠ 0xD0E5) ∧
    (∃ (mv : Nat) (s : State), mv < s.get Fl.CPR_DUSK_CFG_vwarn_mv ∧ mv < 2 ^ 12 ∧ s.dusk = false ∧ s.cpr.hold = false ∧ s.cpr.trip =
      false ∧ s.powered .recorder = false ∧ s.powered .trl = false ∧ rising s.regs = true) ∧
    (∃ (mv : Nat) (s : State), mv < s.get Fl.CPR_DUSK_CFG_vcrit_mv ∧ mv < 2 ^ 12 ∧ s.cpr.hold = false ∧ s.cpr.trip = false ∧ rising s.regs
      = true) ∧
    (∃ (mv : Nat) (s : State), s.cpr.hold = true ∧ s.cpr.trip = false ∧ s.vback < mv ∧ rising s.regs = true) ∧
    (∃ (mv : Nat) (s : State), s.dusk = true ∧ s.cpr.hold = false ∧ s.cpr.trip = false ∧ s.cpr.halted = false ∧ s.vback < mv ∧ rising
      s.regs = true) ∧
    (∃ (v d : Nat) (s : State), v < 2 ^ 32 ∧ s.reaches .cpr = true ∧ bit v 31 = true ∧ bits v 4 0 = d ∧ d ≤ 23 ∧ alwaysOn d = false ∧
      s.flag Fl.CPR_PD_CTRL_go = false ∧ s.holdsTile d = false ∧ s.holdsPort d = false ∧ rising s.regs = true) ∧
    (∃ (v d : Nat) (s : State), v < 2 ^ 32 ∧ s.reaches .cpr = true ∧ bit v 31 = true ∧ bits v 4 0 = d ∧ d ≤ 23 ∧ alwaysOn d = true ∧
      rising s.regs = true) ∧
    (∃ (d : Nat) (on : Bool) (s : State), s.cpr.switch = some (d, on) ∧ d ≤ 23 ∧ alwaysOn d = false ∧ rising s.regs = true) ∧
    (∃ (v : Nat) (s : State), v < 2 ^ 32 ∧ s.reaches .cpr = true ∧ bit v 31 = true ∧ bit v 30 = false ∧ s.flag Fl.CPR_STANDBY_enter =
      false ∧ s.flag Fl.DEV_STATUS_ready = true ∧ (∀ p, p < 8 → s.recording p = false) ∧ s.flag Fl.DEV_COMMIT_STAT_pending = false ∧
      s.flag Fl.DRV_STAT_busy = false ∧ s.dusk = false ∧ s.recorder.vol = none ∧ rising s.regs = true) ∧
    (∃ (v : Nat) (s : State), v < 2 ^ 32 ∧ s.reaches .cpr = true ∧ bit v 31 = true ∧ bit v 30 = false ∧ s.flag Fl.CPR_STANDBY_enter =
      false ∧ (s.flag Fl.DEV_STATUS_ready = false ∨ s.dusk = true) ∧ rising s.regs = true) ∧
    (∃ s : State, s.get Fl.CPR_STANDBY_state = 1 ∧ s.frames = [] ∧ s.recorder.vol = none ∧ rising s.regs = true) ∧
    (∃ (v : Nat) (s : State), v < 2 ^ 32 ∧ s.reaches .cpr = true ∧ bit v 31 = false ∧ bit v 30 = true ∧ s.flag Fl.CPR_STANDBY_exit = false
      ∧ s.get Fl.CPR_STANDBY_state = 2 ∧ s.dusk = false ∧ rising s.regs = true) ∧
    (∃ s : State, s.get Fl.CPR_STANDBY_state = 3 ∧ s.cpr.rom = true ∧ rising s.regs = true) ∧
    (∃ (temp : Int) (s : State), 115 ≤ temp ∧ s.cpr.trip = false ∧ rising s.regs = true) ∧
    (∃ (r gen width : Nat) (s : State), r < 32 ∧ gen < 8 ∧ width < 32 ∧ s.powered .mpc = true ∧ s.graph.portOn 3 r = true ∧ s.flag
      Fl.DEV_STRAP_mediahold = false ∧ (∀ b ∈ s.graph.branches, b.pipe < 8 ∧ b.branch < 8) ∧ rising s.regs = true) ∧
    (∃ (gen width : Nat) (s : State), gen < 8 ∧ width < 32 ∧ s.powered .ofl = true ∧ s.graph.portOn 4 0 = true ∧ rising s.regs = true) :=
  ⟨⟨0, 0xFFFFFFFFFFFFFFFF, on, by decide +kernel⟩,
   ⟨(⟨[], [], ⟨[], [], [], [], 0, 0, 0, 0, 0, 0, []⟩⟩ : DawnInput), on, by decide +kernel⟩,
   ⟨(⟨[], [], ⟨[], [], [], [], 0, 0, 0, 0, 0, 0, []⟩⟩ : DawnInput),
     { { on with regs := [(0x90010, 0xFFFFF7)] } with cpr := { CprSt.init with step := 9 } }, by decide +kernel⟩,
   ⟨(⟨[], [], ⟨[], [], [], [], 0, 0, 0, 0, 0, 0, []⟩⟩ : DawnInput), on.put Fl.CPR_DUSK_STAT_warn [] 1, by decide +kernel⟩,
   ⟨0, { on with cpr := { CprSt.init with armed := some 0 } }, by decide +kernel⟩,
   ⟨0x8000D0E5, on, by decide +kernel⟩,
   ⟨0x8000D0E4, on, by decide +kernel⟩,
   ⟨0, { (on.put Fl.CPR_DUSK_CFG_vwarn_mv [] 1) with regs := [(0x90010, 0x3F)] }, by decide +kernel⟩,
   ⟨0, on, by decide +kernel⟩,
   ⟨4095, { on with cpr := { CprSt.init with hold := true } }, by decide +kernel⟩,
   ⟨4095, (on.put Fl.CPR_DUSK_STAT_warn [] 1).put Fl.CPR_DUSK_STAT_below [] 1, by decide +kernel⟩,
   ⟨0x80000017, 23, on, by decide +kernel⟩,
   ⟨0x80000000, 0, on, by decide +kernel⟩,
   ⟨23, true, { on2 with cpr := { CprSt.init with switch := some (23, true) } }, by decide +kernel⟩,
   ⟨0x80000000, on.put Fl.DEV_STATUS_ready [] 1, (by decide +kernel), (by decide +kernel), (by decide +kernel), (by decide +kernel),
     (by decide +kernel), (by decide +kernel), (by decide +kernel), by decide +kernel⟩,
   ⟨0x80000000, on, by decide +kernel⟩,
   ⟨on.put Fl.CPR_STANDBY_state [] 1, by decide +kernel⟩,
   ⟨0x40000000, on.put Fl.CPR_STANDBY_state [] 2, by decide +kernel⟩,
   ⟨{ on.put Fl.CPR_STANDBY_state [] 3 with cpr := { CprSt.init with rom := true } }, by decide +kernel⟩,
   ⟨115, on, by decide +kernel⟩,
   ⟨31, 5, 16, io, by decide +kernel⟩,
   ⟨5, 16, io, by decide +kernel⟩⟩

theorem witness_reset_state :
    ∃ d, 1 ≤ d ∧ d ≤ 23 :=
  ⟨23, by decide +kernel⟩

theorem witness_counters_wrap_or_saturate :
    (∃ (d : Fld) (ix : List Nat) (s : State), d.lo ≤ d.hi ∧ d.hi ≤ 31 ∧ rising s.regs = true ∧ d.kind = .cnt) ∧
    (∃ (d : Fld) (ix : List Nat) (s : State), d.lo ≤ d.hi ∧ d.hi ≤ 31 ∧ rising s.regs = true ∧ d.kind = .cntSat) ∧
    (∃ (d : Fld) (ix : List Nat) (s : State), d.lo ≤ d.hi ∧ d.hi ≤ 31 ∧ rising s.regs = true ∧ ∃ e : Fld, e.reg = d.reg ∧ e.lo ≤ e.hi ∧
      (e.hi < d.lo ∨ d.hi < e.lo)) ∧
    (∃ (d : Fld) (ix : List Nat) (s : State), d.lo ≤ d.hi ∧ d.hi ≤ 31 ∧ rising s.regs = true ∧ ∃ (r : Reg) (jx : List Nat), r.key jx ≠
      d.reg.key ix) :=
  ⟨⟨Fl.ORD_PROMO_TRL_count, [], on.put Fl.ORD_PROMO_TRL_count [] 0xFFFFFFFF, by decide +kernel⟩,
   ⟨Fl.HBMC_CH_CAPAR_count, [63], on, by decide +kernel⟩,
   ⟨Fl.SKY_STAT_state, [], on, (by decide +kernel), (by decide +kernel), (by decide +kernel), Fl.SKY_STAT_root, by decide +kernel⟩,
   ⟨Fl.SKY_STAT_state, [], on, (by decide +kernel), (by decide +kernel), (by decide +kernel), R.SKY_CTRL, [], by decide +kernel⟩⟩

theorem witness_semaphore_events_of_one_cycle :
    ∃ (n : Nat) (reqs rels rsts : List Nat) (s : State), n < 64 ∧ (∀ r ∈ reqs, 1 ≤ r ∧ r ≤ 5) ∧ (∀ r ∈ rsts, 1 ≤ r ∧ r ≤ 5) ∧ s.reaches
      .ord = true ∧ rising s.regs = true :=
  ⟨63, [5, 2], [5], [2], on.put Fl.ORD_SEM_ACQ_owner [63] 2, by decide +kernel⟩

theorem witness_node_priority :
    (∃ s : State, s.flag Fl.SKY_CTRL_prio_src = false ∧ s.get Fl.DEV_STRAP_skyrole = 1) ∧
    (∃ s : State, s.flag Fl.SKY_CTRL_prio_src = false ∧ s.get Fl.DEV_STRAP_skyrole = 2) ∧
    (∃ s : State, s.flag Fl.SKY_CTRL_prio_src = false ∧ s.get Fl.DEV_STRAP_skyrole = 3) ∧
    (∃ s : State, s.flag Fl.SKY_CTRL_prio_src = true) ∧
    (∃ s : State, s.skyState = 0 ∧ s.skyRoot = false) ∧
    (∃ s t : State, s.skyPrio = 0 ∧ s.skyRoot = false ∧ rising s.regs = true ∧ exec .formationDecision s = .next t) ∧
    (∃ (m : SkyMsg) (s : State), s.SkyTakes m 1 ∧ s.skyState = 1 ∧ s.skyRoot = false ∧ s.sky.prep = none) :=
  ⟨⟨on.put Fl.DEV_STRAP_skyrole [] 1, by decide +kernel⟩,
   ⟨on.put Fl.DEV_STRAP_skyrole [] 2, by decide +kernel⟩,
   ⟨on.put Fl.DEV_STRAP_skyrole [] 3, by decide +kernel⟩,
   ⟨(on.put Fl.SKY_CTRL_prio_src [] 1).put Fl.SKY_CTRL_priority [] 255, by decide +kernel⟩,
   ⟨on, by decide +kernel⟩,
   ⟨(skyS 1 0 0 0), nx (exec .formationDecision (skyS 1 0 0 0)), (by decide +kernel), (by decide +kernel), (by decide +kernel), by rfl⟩,
   ⟨(skyMsg 1 1 (List.replicate 24 0)), (skyS 1 0 0 0),
     (by constructor <;> first | decide +kernel | rfl | exact (skyMsg_length ..).trans (by decide +kernel) | exact (skyMsg_length ..).le.trans (by decide +kernel)),
     by decide +kernel⟩⟩

theorem witness_pair_writes_take_effect_together :
    ∃ (lo hi : Reg) (a b : Nat) (s : State), (lo, hi) ∈ [(R.DEV_COMMIT_TIME_LO, R.DEV_COMMIT_TIME_HI), (R.DEV_COMMIT_FRAME_LO,
      R.DEV_COMMIT_FRAME_HI), (R.SKY_OP_TIME_LO, R.SKY_OP_TIME_HI), (R.AUD_START_TIME_LO, R.AUD_START_TIME_HI)] ∧ a < 2 ^ 32 ∧ b < 2 ^ 32
      ∧ rising s.regs = true ∧ s.reaches (blockOf lo.off) = true :=
  ⟨R.SKY_OP_TIME_LO, R.SKY_OP_TIME_HI, 0xFFFFFFFF, 1, on, by decide +kernel⟩

end Sys2Proof.Tests
end

/-! The statements of spec/00_scope.md: what every command keeps, what a reset leaves, and what one host write to a plain register does. -/

namespace Sys2Proof

/-- The memories that a command may write. -/
def Instr.writes (c : Instr) : Machine.Writes :=
  ⟨c.writesHost, c.writesOffloadHost, c.writesHbm, c.writesMram, c.writesLut, c.writesMedia⟩

end Sys2Proof

namespace Sys2Proof.Machine

/-! ### Canonical stores and the frames of the memories -/

theorem Kept.refl {W : Writes} (s : State) : Kept W s s :=
  ⟨rfl, id, fun _ => rfl, fun _ => rfl, fun _ => rfl, fun _ => rfl, fun _ => rfl, fun _ => rfl, fun _ => rfl⟩

/-- The lemma of each command's meaning, put together: what a meaning needs to write is what `Instr.writes` grants the command. -/
theorem exec_keeps (c : Instr) (s : State) : KeptR c.writes s (exec c s) :=
  match c with
  | .registerWrite .. => kept_execRegisterWrite (.refl s) rfl rfl rfl rfl
  | .offDomainAccess .. => kept_execOffDomainAccess (.refl s)
  | .loReadLatch .. => kept_execLoReadLatch (.refl s)
  | .mirrorRead .. => kept_execMirrorRead (.refl s)
  | .fenceRead => kept_execFenceRead (.refl s)
  | .semAcquire .. => kept_execSemAcquire (.refl s)
  | .semRelease .. => kept_execSemRelease (.refl s)
  | .semOrphanClear .. => kept_execSemOrphanClear (.refl s)
  | .updraftPromotion .. => kept_execUpdraftPromotion (.refl s)
  | .bulkArm .. => kept_execBulkArm (.refl s)
  | .bulkWrite .. => kept_execBulkWrite (.refl s) rfl rfl rfl
  | .bulkRead .. => kept_execBulkRead (.refl s)
  | .eventRecordPublish .. => kept_execEventRecordPublish (.refl s) rfl rfl
  | .evqHeadDoorbell .. => kept_execEvqHeadDoorbell (.refl s)
  | .heldRecordFlush .. => kept_execHeldRecordFlush (.refl s) rfl rfl
  | .evqImodTimeout .. => kept_execEvqImodTimeout (.refl s)
  | .evqReset .. => kept_execEvqReset (.refl s)
  | .cmdqTailDoorbell .. => kept_execCmdqTailDoorbell (.refl s)
  | .cmdqPoll .. => kept_execCmdqPoll (.refl s)
  | .cmdqPacketStart => kept_execCmdqPacketStart (.refl s) rfl
  | .cmdqPacketComplete .. => kept_execCmdqPacketComplete (.refl s) rfl
  | .nop .. => kept_execNop (.refl s) rfl
  | .echo .. => kept_execEcho (.refl s)
  | .cmdqFlush .. => kept_execCmdqFlush (.refl s) rfl
  | .hostFunctionReset .. => kept_execHostFunctionReset (.refl s)
  | .devCommit .. => kept_execDevCommit (.refl s)
  | .frontIssue .. => kept_execFrontIssue (.refl s) rfl rfl
  | .idleCommitIssue => kept_execIdleCommitIssue (.refl s) rfl rfl
  | .unitEpochSwitch .. => kept_execUnitEpochSwitch (.refl s) rfl
  | .frameLeavesUnit .. => kept_execFrameLeavesUnit (.refl s) rfl rfl
  | .patchDrainEnd .. => kept_execPatchDrainEnd (.refl s) rfl rfl
  | .devSnap => kept_execDevSnap (.refl s)
  | .snapComplete => kept_execSnapComplete (.refl s)
  | .rateLimitedRecord .. => kept_execRateLimitedRecord (.refl s)
  | .drvValidate .. => kept_execDrvValidate (.refl s)
  | .drvStagePatch .. => kept_execDrvStagePatch (.refl s)
  | .drvWriteSlotA .. => kept_execDrvWriteSlotA (.refl s) rfl
  | .drvWriteSlotB .. => kept_execDrvWriteSlotB (.refl s) rfl
  | .drvClearFailedDawn .. => kept_execDrvClearFailedDawn (.refl s)
  | .drvDiscardPatches .. => kept_execDrvDiscardPatches (.refl s)
  | .drvRaiseFloor .. => kept_execDrvRaiseFloor (.refl s)
  | .drvLoadFullImage .. => kept_execDrvLoadFullImage (.refl s)
  | .drvFuseKey .. => kept_execDrvFuseKey (.refl s)
  | .drvRevokeKey .. => kept_execDrvRevokeKey (.refl s)
  | .drvOperationEnd => kept_execDrvOperationEnd (.refl s) rfl
  | .slkBlock .. => kept_execSlkBlock (.refl s) rfl
  | .alignBlock .. => kept_execAlignBlock (.refl s) rfl
  | .reacquire .. => kept_execReacquire (.refl s) rfl
  | .reacquireTimeout .. => kept_execReacquireTimeout (.refl s)
  | .fs .. => kept_execFs (.refl s) rfl rfl
  | .fe .. => kept_execFe (.refl s) rfl rfl
  | .line .. => kept_execLine (.refl s) rfl rfl
  | .obline .. => kept_execObline (.refl s) rfl rfl
  | .embed .. => kept_execEmbed (.refl s) rfl rfl
  | .frameTimeout .. => kept_execFrameTimeout (.refl s) rfl
  | .csi2Fs .. => kept_execCsi2Fs (.refl s) rfl rfl
  | .csi2Fe .. => kept_execCsi2Fe (.refl s) rfl rfl
  | .csi2Raw .. => kept_execCsi2Raw (.refl s) rfl
  | .csi2Embedded .. => kept_execCsi2Embedded (.refl s)
  | .csi2Ignored .. => kept_execCsi2Ignored (.refl s)
  | .sgEdge .. => kept_execSgEdge (.refl s)
  | .sgPulseEnd .. => kept_execSgPulseEnd (.refl s)
  | .rctFrame .. => kept_execRctFrame (.refl s) rfl
  | .capFrame .. => kept_execCapFrame (.refl s) rfl
  | .capSoftwareTrigger .. => kept_execCapSoftwareTrigger (.refl s)
  | .capTimeTrigger .. => kept_execCapTimeTrigger (.refl s)
  | .capDrain .. => kept_execCapDrain (.refl s)
  | .reissueFrame .. => kept_execReissueFrame (.refl s)
  | .segmentRelease .. => kept_execSegmentRelease (.refl s)
  | .rcuFrame .. => kept_execRcuFrame (.refl s) rfl rfl
  | .mediaScan .. => kept_execMediaScan (.refl s) rfl
  | .mediaFormat .. => kept_execMediaFormat (.refl s) rfl rfl
  | .mediaOpen .. => kept_execMediaOpen (.refl s) rfl
  | .mediaClose .. => kept_execMediaClose (.refl s) rfl
  | .takeStart .. => kept_execTakeStart (.refl s) rfl
  | .takeStop .. => kept_execTakeStop (.refl s) rfl
  | .checkpoint .. => kept_execCheckpoint (.refl s)
  | .rebuild .. => kept_execRebuild (.refl s) rfl rfl
  | .rowIssue .. => kept_execRowIssue (.refl s)
  | .rowWriteComplete .. => kept_execRowWriteComplete (.refl s) rfl rfl
  | .memberCommandTimeout .. => kept_execMemberCommandTimeout (.refl s) rfl
  | .recCommit => kept_execRecCommit (.refl s) rfl
  | .mediaFenceComplete => kept_execMediaFenceComplete (.refl s) rfl
  | .rebuildRow .. => kept_execRebuildRow (.refl s) rfl rfl
  | .duskLandingDone => kept_execDuskLandingDone (.refl s) rfl rfl rfl
  | .zstJob .. => kept_execZstJob (.refl s)
  | .zstJobComplete .. => kept_execZstJobComplete (.refl s) rfl rfl rfl
  | .dvtFrame .. => kept_execDvtFrame (.refl s) rfl
  | .outfFrame .. => kept_execOutfFrame (.refl s) rfl
  | .outfPublish .. => kept_execOutfPublish (.refl s) rfl
  | .peerCreditWrite .. => kept_execPeerCreditWrite (.refl s)
  | .encodePicture .. => kept_execEncodePicture (.refl s) rfl rfl
  | .rtpSendAu .. => kept_execRtpSendAu (.refl s)
  | .decodeDescriptor .. => kept_execDecodeDescriptor (.refl s) rfl
  | .decodedPictureOutput .. => kept_execDecodedPictureOutput (.refl s) rfl
  | .displayFrameStart => kept_execDisplayFrameStart (.refl s)
  | .vblankLatch => kept_execVblankLatch (.refl s) rfl
  | .evDispLock .. => kept_execEvDispLock (.refl s)
  | .evDispUnderrun .. => kept_execEvDispUnderrun (.refl s)
  | .dsiTransferStart .. => kept_execDsiTransferStart (.refl s)
  | .dsiTransferEnd .. => kept_execDsiTransferEnd (.refl s)
  | .teLost .. => kept_execTeLost (.refl s)
  | .dsiCommand .. => kept_execDsiCommand (.refl s)
  | .dsiResponseTimeout .. => kept_execDsiResponseTimeout (.refl s)
  | .sdiInputFrame .. => kept_execSdiInputFrame (.refl s) rfl
  | .evSdiIn _ _ _ transfer => kept_execEvSdiIn (_transfer := transfer) (.refl s)
  | .refreshTick => kept_execRefreshTick (.refl s)
  | .hbmTempReport .. => kept_execHbmTempReport (.refl s)
  | .hbmRequest .. => kept_execHbmRequest (.refl s) rfl
  | .scrubRead .. => kept_execScrubRead (.refl s) rfl
  | .caparAlert .. => kept_execCaparAlert (.refl s)
  | .evHbmPanic .. => kept_execEvHbmPanic (.refl s)
  | .panicDrop .. => kept_execPanicDrop (.refl s)
  | .channelRelease .. => kept_execChannelRelease (.refl s)
  | .evHbmResync .. => kept_execEvHbmResync (.refl s)
  | .ppr .. => kept_execPpr (.refl s)
  | .marginScan .. => kept_execMarginScan (.refl s)
  | .controllerEnable .. => kept_execControllerEnable (.refl s)
  | .controllerReset => kept_execControllerReset (.refl s) rfl
  | .offloadLinkReset => kept_execOffloadLinkReset (.refl s) rfl
  | .controllerShutdown .. => kept_execControllerShutdown (.refl s)
  | .nvmeSqDoorbell .. => kept_execNvmeSqDoorbell (.refl s) rfl
  | .nvmeDeleteIoSq .. => kept_execNvmeDeleteIoSq (.refl s) rfl
  | .nvmeDeleteIoCq .. => kept_execNvmeDeleteIoCq (.refl s) rfl
  | .nvmeCreateIoSq .. => kept_execNvmeCreateIoSq (.refl s) rfl
  | .nvmeCreateIoCq .. => kept_execNvmeCreateIoCq (.refl s) rfl
  | .nvmeGetLogPage .. => kept_execNvmeGetLogPage (.refl s) rfl
  | .nvmeIdentify .. => kept_execNvmeIdentify (.refl s) rfl
  | .nvmeAbort .. => kept_execNvmeAbort (.refl s) rfl
  | .nvmeSetFeatures .. => kept_execNvmeSetFeatures (.refl s) rfl
  | .nvmeGetFeatures .. => kept_execNvmeGetFeatures (.refl s) rfl
  | .nvmeAsyncEvent .. => kept_execNvmeAsyncEvent (.refl s) rfl
  | .nvmeFwDownload .. => kept_execNvmeFwDownload (.refl s) rfl
  | .nvmeFwCommit .. => kept_execNvmeFwCommit (.refl s) rfl
  | .firmwareActivation .. => kept_execFirmwareActivation (.refl s) rfl
  | .nvmeSelfTest .. => kept_execNvmeSelfTest (.refl s) rfl
  | .selfTestStep .. => kept_execSelfTestStep (.refl s)
  | .nvmeFlush .. => kept_execNvmeFlush (.refl s) rfl
  | .nvmeWrite .. => kept_execNvmeWrite (.refl s) rfl
  | .nvmeRead .. => kept_execNvmeRead (.refl s) rfl
  | .nvmeCompare .. => kept_execNvmeCompare (.refl s) rfl
  | .nvmeWriteZeroes .. => kept_execNvmeWriteZeroes (.refl s) rfl
  | .nvmeVerify .. => kept_execNvmeVerify (.refl s) rfl
  | .memberReadFail .. => kept_execMemberReadFail (.refl s) rfl
  | .exchangeRowWriteback .. => kept_execExchangeRowWriteback (.refl s) rfl rfl
  | .powerStateReached => kept_execPowerStateReached (.refl s) rfl
  | .apstTransition => kept_execApstTransition (.refl s)
  | .tbIncUpdate .. => kept_execTbIncUpdate (.refl s)
  | .evTimeStep .. => kept_execEvTimeStep (.refl s)
  | .beat .. => kept_execBeat (.refl s)
  | .drop .. => kept_execDrop (.refl s)
  | .trackingLapse .. => kept_execTrackingLapse (.refl s)
  | .dtSwitch .. => kept_execDtSwitch (.refl s)
  | .evTimeSlewDone => kept_execEvTimeSlewDone (.refl s)
  | .timeCapture .. => kept_execTimeCapture (.refl s)
  | .ptpTransmit .. => kept_execPtpTransmit (.refl s)
  | .txqPop .. => kept_execTxqPop (.refl s)
  | .ptpReceive .. => kept_execPtpReceive (.refl s) rfl
  | .genlockReference .. => kept_execGenlockReference (.refl s)
  | .genlockLoss => kept_execGenlockLoss (.refl s)
  | .ltcInFrame .. => kept_execLtcInFrame (.refl s)
  | .ltcInLoss => kept_execLtcInLoss (.refl s)
  | .ltcOutFrame => kept_execLtcOutFrame (.refl s)
  | .ltcJam .. => kept_execLtcJam (.refl s)
  | .triggerEdge .. => kept_execTriggerEdge (.refl s)
  | .pulseSchedulerEdge .. => kept_execPulseSchedulerEdge (.refl s)
  | .skyEnable => kept_execSkyEnable (.refl s)
  | .announceTimer => kept_execAnnounceTimer (.refl s)
  | .formationDecision => kept_execFormationDecision (.refl s)
  | .skyAnnounce .. => kept_execSkyAnnounce (.refl s)
  | .skyAssign .. => kept_execSkyAssign (.refl s)
  | .skyRequest .. => kept_execSkyRequest (.refl s)
  | .skyPrepare .. => kept_execSkyPrepare (.refl s)
  | .skyAck .. => kept_execSkyAck (.refl s)
  | .skyCommit .. => kept_execSkyCommit (.refl s)
  | .skyArrive .. => kept_execSkyArrive (.refl s)
  | .skyRelease .. => kept_execSkyRelease (.refl s)
  | .skySnap .. => kept_execSkySnap (.refl s)
  | .skyReset .. => kept_execSkyReset (.refl s)
  | .skyDone .. => kept_execSkyDone (.refl s)
  | .skyLost .. => kept_execSkyLost (.refl s)
  | .skyOpCommit .. => kept_execSkyOpCommit (.refl s)
  | .skyOpBarrier .. => kept_execSkyOpBarrier (.refl s)
  | .skyOpSnapshot .. => kept_execSkyOpSnapshot (.refl s)
  | .skyOpReset .. => kept_execSkyOpReset (.refl s)
  | .ackDeadline => kept_execAckDeadline (.refl s)
  | .rootDecision => kept_execRootDecision (.refl s)
  | .barrierEnd => kept_execBarrierEnd (.refl s)
  | .snapCapture => kept_execSnapCapture (.refl s)
  | .skyResetAct => kept_execSkyResetAct (.refl s)
  | .alSkyPath .. => kept_execAlSkyPath (.refl s)
  | .childLost .. => kept_execChildLost (.refl s)
  | .rootLost => kept_execRootLost (.refl s)
  | .skyKey .. => kept_execSkyKey (.refl s)
  | .audStart .. => kept_execAudStart (.refl s)
  | .sampleFrame .. => kept_execSampleFrame (.refl s) rfl
  | .audioInputFrame .. => kept_execAudioInputFrame (.refl s)
  | .evAudLock .. => kept_execEvAudLock (.refl s)
  | .smbusRead .. => kept_execSmbusRead (.refl s)
  | .smbusWrite .. => kept_execSmbusWrite (.refl s)
  | .smbusTimeout => kept_execSmbusTimeout (.refl s)
  | .i2cGo .. => kept_execI2cGo (.refl s)
  | .i2cTryEnd .. => kept_execI2cTryEnd (.refl s)
  | .i2cRetryDelay .. => kept_execI2cRetryDelay (.refl s)
  | .i2cFlush .. => kept_execI2cFlush (.refl s)
  | .spiGo .. => kept_execSpiGo (.refl s)
  | .fifoPush .. => kept_execFifoPush (.refl s)
  | .fifoPop .. => kept_execFifoPop (.refl s)
  | .uartRxByte .. => kept_execUartRxByte (.refl s)
  | .usbBusReset .. => kept_execUsbBusReset (.refl s)
  | .usbOutPacket .. => kept_execUsbOutPacket (.refl s) rfl
  | .usbInPacket => kept_execUsbInPacket (.refl s)
  | .usbSuspend => kept_execUsbSuspend (.refl s)
  | .usbResume => kept_execUsbResume (.refl s)
  | .dfuDnload .. => kept_execDfuDnload (.refl s) rfl
  | .dfuManifest => kept_execDfuManifest (.refl s)
  | .dfuDetach => kept_execDfuDetach (.refl s)
  | .sdInfo .. => kept_execSdInfo (.refl s)
  | .sdRead .. => kept_execSdRead (.refl s) rfl
  | .sdWrite .. => kept_execSdWrite (.refl s)
  | .evSdCard .. => kept_execEvSdCard (.refl s)
  | .gpioSet .. => kept_execGpioSet (.refl s)
  | .gpioClr .. => kept_execGpioClr (.refl s)
  | .healthError .. => kept_execHealthError (.refl s)
  | .replayComplete .. => kept_execReplayComplete (.refl s) rfl rfl
  | .gustLeakTick .. => kept_execGustLeakTick (.refl s)
  | .testFailedPair .. => kept_execTestFailedPair (.refl s)
  | .clearRetiredMark .. => kept_execClearRetiredMark (.refl s)
  | .baroPlanCommand .. => kept_execBaroPlanCommand (.refl s)
  | .baroPeriodicPlan => kept_execBaroPeriodicPlan (.refl s)
  | .evBaroPlan .. => kept_execEvBaroPlan (.refl s) rfl
  | .railOffsetStep .. => kept_execRailOffsetStep (.refl s)
  | .trailSpaceFreed .. => kept_execTrailSpaceFreed (.refl s) rfl rfl rfl
  | .traceSamplingRelax .. => kept_execTraceSamplingRelax (.refl s)
  | .bbSeal => kept_execBbSeal (.refl s) rfl
  | .powerOnReset .. => kept_execPowerOnReset (.refl s) rfl rfl
  | .dawnStep .. => kept_execDawnStep (.refl s) rfl rfl rfl rfl
  | .watchdogReset => kept_execWatchdogReset (.refl s) rfl rfl rfl
  | .deviceReset .. => kept_execDeviceReset (.refl s) rfl rfl
  | .vwarnCrossing .. => kept_execVwarnCrossing (.refl s) rfl rfl
  | .vcritCrossing .. => kept_execVcritCrossing (.refl s) rfl rfl
  | .duskHoldEnd .. => kept_execDuskHoldEnd (.refl s) rfl rfl
  | .evCprDuskEnd .. => kept_execEvCprDuskEnd (.refl s)
  | .domainSwitch .. => kept_execDomainSwitch (.refl s)
  | .evCprPd => kept_execEvCprPd (.refl s) rfl
  | .standbyEnter .. => kept_execStandbyEnter (.refl s) rfl
  | .standbyEntered => kept_execStandbyEntered (.refl s) rfl rfl
  | .standbyExit .. => kept_execStandbyExit (.refl s) rfl
  | .standbyExited => kept_execStandbyExited (.refl s) rfl rfl rfl
  | .thermalTrip .. => kept_execThermalTrip (.refl s) rfl rfl
  | .pipelineIdle .. => kept_execPipelineIdle (.refl s) rfl rfl
  | .landingWriteDeadline .. => kept_execLandingWriteDeadline (.refl s) rfl rfl
  | .pcieLinkStateChange .. => kept_execPcieLinkStateChange (.refl s) rfl
  | .dsiReadResponse .. => kept_execDsiReadResponse (.refl s)
  | .exchangeParityResyncEnd => kept_execExchangeParityResyncEnd (.refl s) rfl
  | .offloadMemberIoDone .. => kept_execOffloadMemberIoDone (.refl s) rfl
  | .scheduledPulseEnd .. => kept_execScheduledPulseEnd (.refl s)
  | .spiTransferEnd .. => kept_execSpiTransferEnd (.refl s)
  | .uartTxByte .. => kept_execUartTxByte (.refl s)
  | .usbControlRequest .. => kept_execUsbControlRequest (.refl s)
  | .usbVbusChange .. => kept_execUsbVbusChange (.refl s)

/-- The canonical form does not speak of the queue of waiting commands. -/
theorem State.Canon.withPending {s : State} (h : s.Canon) (q : List Instr) : State.Canon { s with pending := q } := h

theorem advance_canon {s : State} (h : s.Canon) (n : Nat) : (s.advance n).Canon :=
  (kept_advance (W := ⟨false, false, false, false, false, false⟩) (.refl s)).canon h

theorem step_of_empty {s : State} (h : s.pending = []) : step s = .next (s.advance 1) := by
  simp only [step, h]

theorem step_of_cons {s : State} {c : Instr} {q : List Instr} (h : s.pending = c :: q) :
    step s = exec c { s with pending := q } := by
  simp only [step, h]

/-- Settles O4: a step is a tick or a command, and both keep the form. -/
theorem stepKeepsCanonicalStores : Obligations.StepKeepsCanonicalStores := by
  intro s t hs ht
  cases hq : s.pending with
  | nil =>
    rw [step_of_empty hq] at ht
    cases ht
    exact advance_canon hs 1
  | cons c q =>
    rw [step_of_cons hq] at ht
    exact (exec_keeps c _ t ht).canon (hs.withPending q)

/-- Settles O5: every store of the reset state is empty. -/
theorem resetIsCanonical : Obligations.ResetIsCanonical :=
  ⟨⟨by decide, by decide⟩, rfl⟩

/-- A byte of HBM is that of the array, or of the ranges whose content is undefined. -/
theorem State.hbmByte_congr {s t : State} (hm : t.hbm = s.hbm) (hu : t.undef = s.undef) (a : Nat) : t.hbmByte a = s.hbmByte a := by
  simp only [State.hbmByte, State.undefAt, hm, hu]

/-- Settles O6: the frame of each memory, byte by byte. -/
theorem memoriesChangeOnlyByTheirWriters : Obligations.MemoriesChangeOnlyByTheirWriters := by
  intro c s t ht a
  have k : Kept c.writes s t := exec_keeps c s t ht
  exact ⟨fun w => congrArg (Mem.get · a) (k.host w), fun w => congrArg (Mem.get · a) (k.ohost w),
    fun w => State.hbmByte_congr (k.hbm w) (k.undef w) a, fun w => congrArg (Mem.get · a) (k.mram w),
    fun w => congrArg (Mem.get · a) (k.lut w), fun w => congrArg (Mem.get · a) (k.media w)⟩

/-! ### What a power-on reset leaves -/

/-- Nothing is listed in the register file after reset, so a register reads its reset word (R7). -/
theorem reset_rd (r : Reg) (ix : List Nat) : State.reset.rd r ix = (r.resetAt ix).toNat := rfl

theorem reset_shaped : State.reset.Shaped := by
  constructor <;> rfl

/-- CPR_PD_STAT resets to 1: PD0 is on and every other domain is off (R571). -/
theorem reset_domainOn (d : Nat) : State.reset.domainOn d = decide (d = 0) := by
  have hword : State.reset.rd R.CPR_PD_STAT = 1 := by decide
  cases d with
  | zero => simp [State.domainOn, bit, hword]
  | succ d => simp [State.domainOn, bit, hword, Nat.div_eq_of_lt (Nat.one_lt_two_pow (Nat.succ_ne_zero d))]

/-- Settles O55: the listed words are the reset words of the register tables. -/
theorem resetState : Obligations.ResetState := by
  refine ⟨by decide, by simp [reset_domainOn], fun d hd _ => ?_, rfl, by decide, rfl, rfl, rfl, rfl, by decide, reset_shaped⟩
  rw [reset_domainOn]
  exact decide_eq_false (by omega)

/-! ### One register write (R26, R32 to R36) -/

/-- Two fields of one register that share no bit. -/
@[reducible] def Fld.Apart (d e : Fld) : Prop := d.hi < e.lo ∨ e.hi < d.lo

/-- What every row of the register tables keeps: each field lies in the row's own 32-bit word, and no two share a bit (R4). -/
@[reducible] def RegRow.Sound (row : RegRow) : Prop :=
  (∀ d ∈ row.flds, d.reg = row.reg ∧ d.lo ≤ d.hi ∧ d.hi < 32) ∧ row.flds.Pairwise Fld.Apart

theorem table_sound (b : Blk) : ∀ row ∈ b.table, row.Sound := by
  cases b with
  | rct _ => exact (by decide +kernel : ∀ row ∈ Tb.RCT, row.Sound)
  | rcu _ => exact (by decide +kernel : ∀ row ∈ Tb.RCU, row.Sound)
  | dvt _ => exact (by decide +kernel : ∀ row ∈ Tb.DVT, row.Sound)
  | hbmc _ => exact (by decide +kernel : ∀ row ∈ Tb.HBMC, row.Sound)
  | _ => decide +kernel

theorem findReg_sound {off : Nat} {row : RegRow} {ix : List Nat} (h : findReg off = some (row, ix)) : row.Sound := by
  obtain ⟨row', hmem, hrow⟩ := List.exists_of_findSome?_eq_some h
  obtain ⟨_, _, heq⟩ := Option.map_eq_some_iff.mp hrow
  cases heq
  exact table_sound _ _ hmem

theorem bits_lt (v hi lo : Nat) : bits v hi lo < 2 ^ (hi + 1 - lo) := Nat.mod_lt _ (Nat.two_pow_pos _)

theorem State.get_lt (s : State) (d : Fld) (ix : List Nat) : s.get d ix < 2 ^ (d.hi + 1 - d.lo) := bits_lt _ _ _

/-- What a write makes of a field fits the field. -/
theorem writeField_lt {d : Fld} {old v n : Nat} (ho : old < 2 ^ n) (hv : v < 2 ^ n) : writeField d old v < 2 ^ n := by
  unfold writeField
  split
  · split <;> assumption
  · split <;> assumption
  · split <;> assumption
  · split <;> assumption
  · exact Nat.lt_of_le_of_lt (Nat.sub_le _ _) ho
  · exact Nat.or_lt_two_pow ho hv
  · exact ho
  · exact ho
  · exact ho

section

variable {s : State} {d e : Fld} {r : Reg} {row : RegRow} {ix jx : List Nat} {v : Nat}

/-- The part of a register write that concerns one field (R9, R36). -/
def State.writeOne (s : State) (d : Fld) (ix : List Nat) (v : Nat) : State :=
  if imageOk s.graph d ix (bits v d.hi d.lo) then s.put d ix (writeField d (s.get d ix) (bits v d.hi d.lo)) else s

theorem State.writeOne_frame : s.writeOne d ix v = { s with regs := (s.writeOne d ix v).regs } := by
  unfold State.writeOne
  split <;> rfl

@[simp] theorem State.writeOne_graph : (s.writeOne d ix v).graph = s.graph := by
  rw [State.writeOne_frame]

theorem State.writeOne_rising (h : rising s.regs = true) : rising (s.writeOne d ix v).regs = true := by
  unfold State.writeOne
  split
  · exact State.rising_put h
  · exact h

theorem State.writeOne_rd_ne (h : d.reg.key ix ≠ r.key jx) : (s.writeOne d ix v).rd r jx = s.rd r jx := by
  unfold State.writeOne
  split
  · exact State.rd_put_ne h
  · rfl

theorem State.writeOne_get_same (h : rising s.regs = true) (hl : d.lo ≤ d.hi) (hd : d.hi < 32) :
    (s.writeOne d ix v).get d ix =
      if imageOk s.graph d ix (bits v d.hi d.lo) then writeField d (s.get d ix) (bits v d.hi d.lo) else s.get d ix := by
  unfold State.writeOne
  split
  · rw [State.get_put_same h hd hl, Nat.mod_eq_of_lt (writeField_lt (s.get_lt d ix) (bits_lt _ _ _))]
  · rfl

theorem State.writeOne_get_apart (h : rising s.regs = true) (hr : d.reg = e.reg) (hl : d.lo ≤ d.hi) (hd : d.hi < 32) (he : e.lo ≤ e.hi)
    (ha : d.Apart e) : (s.writeOne d ix v).get e ix = s.get e ix := by
  unfold State.writeOne
  split
  · exact State.get_put_apart h hr hd hl he ha
  · rfl

/-- A write takes the fields of its register one after the other; none of them changes the image that judges the next. -/
theorem State.writeFields_cons {l : List Fld} :
    s.writeFields ⟨r, d :: l⟩ ix v = (s.writeOne d ix v).writeFields ⟨r, l⟩ ix v := by
  simp only [State.writeFields, List.foldl_cons, State.writeOne_graph]
  rfl

theorem State.writeFields_frame : s.writeFields row ix v = { s with regs := (s.writeFields row ix v).regs } := by
  obtain ⟨r, l⟩ := row
  induction l generalizing s with
  | nil => rfl
  | cons d l ih =>
    rw [State.writeFields_cons]
    calc (s.writeOne d ix v).writeFields ⟨r, l⟩ ix v
        = { s.writeOne d ix v with regs := ((s.writeOne d ix v).writeFields ⟨r, l⟩ ix v).regs } := ih
      _ = { s with regs := ((s.writeOne d ix v).writeFields ⟨r, l⟩ ix v).regs } := by rw [State.writeOne_frame]

theorem State.writeFields_rd_ne (hs : row.Sound) (h : row.reg.key ix ≠ r.key jx) : (s.writeFields row ix v).rd r jx = s.rd r jx := by
  obtain ⟨q, l⟩ := row
  induction l generalizing s with
  | nil => rfl
  | cons d l ih =>
    obtain ⟨hin, hpair⟩ := hs
    have hreg : d.reg = q := (hin d List.mem_cons_self).1
    rw [State.writeFields_cons, ih ⟨fun e he => hin e (List.mem_cons_of_mem _ he), hpair.tail⟩ h]
    exact State.writeOne_rd_ne (by rw [hreg]; exact h)

theorem State.writeFields_get_apart (hr : rising s.regs = true) (he : e.lo ≤ e.hi)
    (h : ∀ d ∈ row.flds, d.reg = e.reg ∧ d.lo ≤ d.hi ∧ d.hi < 32 ∧ d.Apart e) : (s.writeFields row ix v).get e ix = s.get e ix := by
  obtain ⟨q, l⟩ := row
  induction l generalizing s with
  | nil => rfl
  | cons d l ih =>
    obtain ⟨hreg, hl, hd, ha⟩ := h d List.mem_cons_self
    rw [State.writeFields_cons, ih (State.writeOne_rising hr) fun f hf => h f (List.mem_cons_of_mem _ hf)]
    exact State.writeOne_get_apart hr hreg hl hd he ha

/-- Each field of the register written holds what its type makes of its bits, or what it held where the image forbids the value. -/
theorem State.writeFields_get (hs : row.Sound) (hr : rising s.regs = true) (hd : d ∈ row.flds) :
    (s.writeFields row ix v).get d ix =
      if imageOk s.graph d ix (bits v d.hi d.lo) then writeField d (s.get d ix) (bits v d.hi d.lo) else s.get d ix := by
  obtain ⟨q, l⟩ := row
  induction l generalizing s with
  | nil => cases hd
  | cons e l ih =>
    obtain ⟨hin, hpair⟩ := hs
    obtain ⟨hapart, htail⟩ := List.pairwise_cons.mp hpair
    obtain ⟨hereg, hel, heh⟩ := hin e List.mem_cons_self
    have hrest : ∀ f ∈ l, f.reg = q ∧ f.lo ≤ f.hi ∧ f.hi < 32 := fun f hf => hin f (List.mem_cons_of_mem _ hf)
    rw [State.writeFields_cons]
    rcases List.mem_cons.mp hd with rfl | hd
    · rw [State.writeFields_get_apart (State.writeOne_rising hr) hel fun f hf =>
        ⟨(hrest f hf).1.trans hereg.symm, (hrest f hf).2.1, (hrest f hf).2.2, Or.symm (hapart f hf)⟩]
      exact State.writeOne_get_same hr hel heh
    · obtain ⟨hdreg, hdl, -⟩ := hrest d hd
      rw [ih (State.writeOne_rising hr) ⟨hrest, htail⟩ hd, State.writeOne_graph,
        State.writeOne_get_apart hr (hereg.trans hdreg.symm) hel heh hdl (hapart d hd)]

end

/-! ### A host write to live BAR0 -/

/-- An aligned 32-bit write with every byte enabled is one write of its word (R26). -/
theorem exec_registerWrite_bar0 {off v : Nat} (s : State) (ha : off % 4 = 0) (hb : off + 4 ≤ 0x2000000) :
    exec (.registerWrite .bar0 off 4 15 v) s = .next (s.bar0Word off (v % 2 ^ 32)) := by
  simp only [exec_registerWrite, execRegisterWrite, State.hostWriteTo, State.aligned, if_pos hb]
  simp [ha]

/-- The blocks none of whose registers has a write action of its own. -/
def Blk.Plain (b : Blk) : Prop :=
  b = .sts ∨ b = .recorder ∨ b = .outf ∨ b = .mpc ∨ b = .zst ∨ ∃ n, b = .rct n ∨ b = .rcu n ∨ b = .dvt n

section

variable {s : State} {off v : Nat} {row : RegRow} {ix jx : List Nat}

theorem State.regWrite_plain (hb : (blockOf off).Plain) (hf : findReg off = some (row, ix)) (hh : s.holder off row.reg ix = some jx) :
    s.regWrite off v = s.writePlain off row jx v := by
  simp only [State.regWrite, hf, hh]
  rcases hb with h | h | h | h | h | ⟨n, h | h | h⟩ <;> simp only [h]

theorem State.writePlain_unpaired (hlo : findPair false off = none) (hhi : findPair true off = none) :
    s.writePlain off row jx v = s.writeFields row jx v := by
  simp [State.writePlain, hlo, hhi]

/-- An access that does not reach its unit can at most note itself in DEV_STATUS.off_access (R30). -/
theorem State.onUnit_unreached {b : Blk} {f : State → State} (h : s.reaches b = false) :
    s.onUnit b f = s ∨ s.onUnit b f = s.put Fl.DEV_STATUS_off_access [] 1 := by
  unfold State.onUnit
  rw [if_neg (by simp [h])]
  split
  · exact .inr rfl
  · exact .inl rfl

/-- What a write of `n` makes of a field that the image allows, type by type (R9, R32). -/
theorem writeField_cases (d : Fld) (old n : Nat) :
    (d.kind = .rw ∨ d.kind = .rws → d.allowed.ok (d.hi + 1 - d.lo) n = true → writeField d old n = n) ∧
    (d.kind = .rw ∨ d.kind = .rws → d.allowed.ok (d.hi + 1 - d.lo) n = false → writeField d old n = old) ∧
    (d.kind = .w1c → writeField d old n = old - (old &&& n)) ∧
    (d.kind = .ro ∨ d.kind = .st → writeField d old n = old) := by
  refine ⟨?_, ?_, ?_, ?_⟩
  · rintro (hk | hk) ha <;> simp [writeField, hk, ha]
  · rintro (hk | hk) ha <;> simp [writeField, hk, ha]
  · intro hk
    simp [writeField, hk]
  · rintro (hk | hk) <;> simp [writeField, hk]

end

/-- Settles O8: the write that reaches its unit is `writeFields` of the row, any other at most sets off_access. -/
theorem plainRegisterWrite : Obligations.PlainRegisterWrite := by
  refine ⟨?_, ?_⟩
  · intro off v row ix jx s hr ha hb hv hplain hf hh hlo hhi hreach
    have hsound : row.Sound := findReg_sound hf
    have hexec : exec (.registerWrite .bar0 off 4 15 v) s = .next (s.writeFields row jx v) := by
      rw [exec_registerWrite_bar0 s ha hb, Nat.mod_eq_of_lt hv, State.bar0Word, State.onUnit_reached hreach,
        State.regWrite_plain hplain hf hh, State.writePlain_unpaired hlo hhi]
    refine ⟨_, hexec, State.writeFields_frame, fun r kx hk => State.writeFields_rd_ne hsound hk.symm, fun d hd hok => ?_⟩
    rw [State.writeFields_get hsound hr hd, if_pos hok]
    exact writeField_cases d _ _
  · intro off v s _ ha hb hreach
    rw [exec_registerWrite_bar0 s ha hb, State.bar0Word]
    rcases State.onUnit_unreached hreach with h | h <;> rw [h]
    · exact ⟨s, rfl, rfl, fun _ _ _ => rfl⟩
    · exact ⟨_, rfl, rfl, fun _ _ hk => State.rd_put_ne hk.symm⟩

end Sys2Proof.Machine
/-! The statements of spec/02_host_access.md: the semaphores, the bulk port, the event queues, the command queues and the reset of the host
function. -/

namespace Sys2Proof.Machine

/-! ### What an operation leaves of the register file -/

/-- `g` is canonical if `f` is, and reads as `f` does at every key outside `K`. -/
structure RegFile.ChangedIn (K : Nat → Prop) (f g : RegFile) : Prop where
  rising : rising f = true → rising g = true
  rd : ∀ (r : Reg) (ix : List Nat), ¬K (r.key ix) → g.rd r ix = f.rd r ix

/-- The keys from `a` up to `b`. -/
def Keys (a b : Nat) : Nat → Prop := fun k => a ≤ k ∧ k < b

@[simp] theorem keys_iff {a b k : Nat} : Keys a b k ↔ a ≤ k ∧ k < b := Iff.rfl

namespace RegFile.ChangedIn

variable {K L : Nat → Prop} {f g h : RegFile} {r : Reg} {d : Fld} {ix : List Nat} {v : Nat}

theorem refl : ChangedIn K f f := ⟨id, fun _ _ _ => rfl⟩

theorem trans (h₁ : ChangedIn K f g) (h₂ : ChangedIn K g h) : ChangedIn K f h :=
  ⟨fun hr => h₂.rising (h₁.rising hr), fun r ix hk => (h₂.rd r ix hk).trans (h₁.rd r ix hk)⟩

theorem mono (h₁ : ChangedIn K f g) (hKL : ∀ k, K k → L k) : ChangedIn L f g :=
  ⟨h₁.rising, fun r ix hk => h₁.rd r ix fun hK => hk (hKL _ hK)⟩

theorem wr (h₁ : ChangedIn K f g) (hk : K (r.key ix)) : ChangedIn K f (g.wr r ix v) :=
  h₁.trans ⟨RegFile.wr_rising, fun _ _ hr => RegFile.rd_wr_ne fun he => hr (he ▸ hk)⟩

theorem put (h₁ : ChangedIn K f g) (hk : K (d.reg.key ix)) : ChangedIn K f (g.put d ix v) := h₁.wr hk

theorem foldl {α : Type} {step : State → α → State} {l : List α} {s : State} (hs : ∀ x ∈ l, ∀ t, ChangedIn K t.regs (step t x).regs) :
    ChangedIn K s.regs (l.foldl step s).regs := by
  induction l generalizing s with
  | nil => exact refl
  | cons x l ih => exact (hs x List.mem_cons_self s).trans (ih fun y hy => hs y (List.mem_cons_of_mem _ hy))

end RegFile.ChangedIn

section

variable {K : Nat → Prop} {s t : State} {d : Fld} {r : Reg} {ix : List Nat}

theorem State.get_congr (h : t.regs = s.regs) : t.get d ix = s.get d ix := congrArg (RegFile.get · d ix) h

theorem State.rd_congr (h : t.regs = s.regs) : t.rd r ix = s.rd r ix := congrArg (RegFile.rd · r ix) h

theorem State.rd64_congr {lo hi : Reg} (h : t.regs = s.regs) : t.rd64 lo hi ix = s.rd64 lo hi ix := by
  rw [State.rd64, State.rd64, State.rd_congr h, State.rd_congr h]

theorem State.rd_of_changedIn (h : RegFile.ChangedIn K s.regs t.regs) (hk : ¬K (r.key ix)) : t.rd r ix = s.rd r ix := h.rd r ix hk

theorem State.rd64_of_changedIn {lo hi : Reg} (h : RegFile.ChangedIn K s.regs t.regs) (hlo : ¬K (lo.key ix)) (hhi : ¬K (hi.key ix)) :
    t.rd64 lo hi ix = s.rd64 lo hi ix := by
  rw [State.rd64, State.rd64, State.rd_of_changedIn h hlo, State.rd_of_changedIn h hhi]

theorem State.get_of_changedIn (h : RegFile.ChangedIn K s.regs t.regs) (hk : ¬K (d.reg.key ix)) : t.get d ix = s.get d ix :=
  congrArg (bits · d.hi d.lo) (h.rd d.reg ix hk)

theorem State.flag_of_changedIn (h : RegFile.ChangedIn K s.regs t.regs) (hk : ¬K (d.reg.key ix)) : t.flag d ix = s.flag d ix := by
  simp only [State.flag, State.get_of_changedIn h hk]

/-- A flag just put is 1 exactly when its bit was. -/
theorem State.flag_put_same {b : Bool} (h : rising s.regs = true) (hd : d.hi < 32) (hl : d.lo = d.hi) :
    (s.put d ix (b2n b)).flag d ix = b := by
  simp only [State.flag, State.get_put_same h hd (Nat.le_of_eq hl), hl, Nat.add_sub_cancel_left]
  cases b <;> rfl

theorem State.flag_put_apart {d' : Fld} {v : Nat} (h : rising s.regs = true) (hr : d.reg = d'.reg) (hd : d.hi < 32) (hl : d.lo ≤ d.hi)
    (hl' : d'.lo ≤ d'.hi) (ha : d.hi < d'.lo ∨ d'.hi < d.lo) : (s.put d ix v).flag d' ix = s.flag d' ix := by
  simp only [State.flag, State.get_put_apart h hr hd hl hl' ha]

end

/-! ### Counters (R35) -/

section

variable {s : State} {d : Fld} {ix : List Nat}

theorem State.inc_frame : s.inc d ix = { s with regs := (s.inc d ix).regs } := rfl

theorem State.inc_changedIn {K : Nat → Prop} (hk : K (d.reg.key ix)) : RegFile.ChangedIn K s.regs (s.inc d ix).regs :=
  RegFile.ChangedIn.refl.put hk

theorem State.get_inc_same (h : rising s.regs = true) (hl : d.lo ≤ d.hi) (hd : d.hi < 32) (hk : d.kind ≠ .cntSat) :
    (s.inc d ix).get d ix = (s.get d ix + 1) % 2 ^ (d.hi + 1 - d.lo) := by
  rw [State.inc, State.get_put_same h hd hl, if_neg hk, Nat.mod_mod]

theorem State.get_inc_sat (h : rising s.regs = true) (hl : d.lo ≤ d.hi) (hd : d.hi < 32) (hk : d.kind = .cntSat) :
    (s.inc d ix).get d ix = min (s.get d ix + 1) (2 ^ (d.hi + 1 - d.lo) - 1) := by
  have hpos : 0 < 2 ^ (d.hi + 1 - d.lo) := Nat.two_pow_pos _
  rw [State.inc, State.get_put_same h hd hl, if_pos hk, Nat.mod_eq_of_lt (by omega)]

end

/-- Settles O56: the new value, kind by kind; the write of one field leaves every other. -/
theorem countersWrapOrSaturate : Obligations.CountersWrapOrSaturate := by
  intro d ix s hl hd hr
  have hd' : d.hi < 32 := by omega
  have hlt : s.get d ix < 2 ^ (d.hi + 1 - d.lo) := s.get_lt d ix
  refine ⟨fun hk => ?_, fun hk => ?_, fun e hreg he ha => ?_, fun r jx hk => ?_⟩
  · rw [State.get_inc_same hr hl hd' (by simp [hk])]
    split
    case isTrue hmax => rw [hmax, Nat.sub_add_cancel (Nat.two_pow_pos _), Nat.mod_self]
    case isFalse => exact Nat.mod_eq_of_lt (by omega)
  · rw [State.get_inc_sat hr hl hd' hk]
    split <;> omega
  · exact State.get_put_apart hr hreg.symm hd' hl he ha.symm
  · exact State.rd_put_ne hk.symm

end Sys2Proof.Machine
namespace Sys2Proof.Machine

/-! ### Semaphores (R40 to R46) -/

/-- A run of outputs, each of which looks at nothing that an output changes. -/
theorem State.foldl_emit {α : Type} {g : State → α → Out} (hg : ∀ (t : State) (o : Out) (x : α), g (t.emit o) x = g t x) (l : List α)
    (s : State) : l.foldl (fun t x => t.emit (g t x)) s = { s with out := s.out ++ l.map (g s) } := by
  induction l generalizing s with
  | nil => simp
  | cons x l ih =>
    rw [List.foldl_cons, ih, funext (hg s (g s x))]
    simp [State.emit]

@[simp] theorem key_ORD_SEM_ACQ (n : Nat) : R.ORD_SEM_ACQ.key [n] = 0x10100 + n * 8 := rfl
@[simp] theorem key_ORD_SEM_CTL (n : Nat) : R.ORD_SEM_CTL.key [n] = 0x10104 + n * 8 := rfl

/-- The two registers of semaphore `n`. -/
def SemKeys (n : Nat) : Nat → Prop := fun k => k = R.ORD_SEM_ACQ.key [n] ∨ k = R.ORD_SEM_CTL.key [n]

section

variable {s : State} {n m o r : Nat} {reqs rels rsts : List Nat}

theorem semKeys_apart (h : m ≠ n) : ¬SemKeys n (R.ORD_SEM_ACQ.key [m]) := by
  simp only [SemKeys, key_ORD_SEM_ACQ, key_ORD_SEM_CTL]
  omega

theorem State.semOwner_of_changedIn {t : State} (h : RegFile.ChangedIn (SemKeys n) s.regs t.regs) (hm : m ≠ n) : t.semOwner m = s.semOwner m :=
  State.get_of_changedIn h (semKeys_apart hm)

theorem State.setOwner_frame : s.setOwner n o = { s with regs := (s.setOwner n o).regs } := rfl

theorem State.setOwner_changedIn : RegFile.ChangedIn (SemKeys n) s.regs (s.setOwner n o).regs :=
  (RegFile.ChangedIn.refl.put (.inl rfl)).put (.inr rfl)

theorem State.semOwner_setOwner (h : rising s.regs = true) (ho : o < 256) : (s.setOwner n o).semOwner n = o := by
  have hkey : Fl.ORD_SEM_CTL_held.reg.key [n] ≠ Fl.ORD_SEM_ACQ_owner.reg.key [n] := by
    show 0x10104 + n * 8 ≠ 0x10100 + n * 8
    omega
  rw [State.semOwner, State.setOwner, State.get_put_ne hkey, State.get_put_same h (by decide) (by decide)]
  exact Nat.mod_eq_of_lt ho

theorem State.orphan_setOwner (h : rising s.regs = true) :
    (s.setOwner n o).get Fl.ORD_SEM_CTL_orphan [n] = s.get Fl.ORD_SEM_CTL_orphan [n] := by
  have hkey : Fl.ORD_SEM_ACQ_owner.reg.key [n] ≠ Fl.ORD_SEM_CTL_orphan.reg.key [n] := by
    show 0x10100 + n * 8 ≠ 0x10104 + n * 8
    omega
  rw [State.setOwner, State.get_put_apart (d := Fl.ORD_SEM_CTL_held) (d' := Fl.ORD_SEM_CTL_orphan) (State.rising_put h) rfl (by decide)
    (by decide) (by decide) (by decide), State.get_put_ne hkey]

/-- The orphan bit stands in both registers of a semaphore (R43, R44). -/
def State.putOrphan (s : State) (n v : Nat) : State := (s.put Fl.ORD_SEM_CTL_orphan [n] v).put Fl.ORD_SEM_ACQ_orphan [n] v

theorem State.putOrphan_changedIn {v : Nat} : RegFile.ChangedIn (SemKeys n) s.regs (s.putOrphan n v).regs :=
  (RegFile.ChangedIn.refl.put (.inr rfl)).put (.inl rfl)

theorem State.semOwner_putOrphan {v : Nat} (h : rising s.regs = true) : (s.putOrphan n v).semOwner n = s.semOwner n := by
  have hkey : Fl.ORD_SEM_CTL_orphan.reg.key [n] ≠ Fl.ORD_SEM_ACQ_owner.reg.key [n] := by
    show 0x10104 + n * 8 ≠ 0x10100 + n * 8
    omega
  rw [State.semOwner, State.putOrphan, State.get_put_apart (d := Fl.ORD_SEM_ACQ_orphan) (d' := Fl.ORD_SEM_ACQ_owner) (State.rising_put h) rfl
    (by decide) (by decide) (by decide) (by decide), State.get_put_ne hkey]
  rfl

theorem State.orphan_putOrphan {v : Nat} (h : rising s.regs = true) : (s.putOrphan n v).get Fl.ORD_SEM_CTL_orphan [n] = v % 2 := by
  have hkey : Fl.ORD_SEM_ACQ_orphan.reg.key [n] ≠ Fl.ORD_SEM_CTL_orphan.reg.key [n] := by
    show 0x10100 + n * 8 ≠ 0x10104 + n * 8
    omega
  rw [State.putOrphan, State.get_put_ne hkey, State.get_put_same h (by decide) (by decide)]
  rfl

/-- What a reset of owner `o` does to a semaphore that it holds (R43). -/
theorem State.semOrphan_held (h : s.semOwner n = o) (ho : o ≠ 0) :
    s.semOrphan n o = ((s.setOwner n 0).putOrphan n 1).ev 0x0002 srcORD 0 (n + 256 * o) := by
  rw [State.semOrphan, if_pos (by simp [h, ho])]
  rfl

theorem State.semOrphan_other (h : ¬(s.semOwner n = o ∧ o ≠ 0)) : s.semOrphan n o = s := by
  rw [State.semOrphan, if_neg (by simpa using h)]

theorem State.semOrphan_changedIn : RegFile.ChangedIn (SemKeys n) s.regs (s.semOrphan n o).regs := by
  by_cases h : s.semOwner n = o ∧ o ≠ 0
  · rw [State.semOrphan_held h.1 h.2, State.ev_regs]
    exact State.setOwner_changedIn.trans State.putOrphan_changedIn
  · rw [State.semOrphan_other h]
    exact .refl

theorem State.semOwner_semOrphan (h : rising s.regs = true) : (s.semOrphan n o).semOwner n = if s.semOwner n = o then 0 else s.semOwner n := by
  by_cases ho : s.semOwner n = o ∧ o ≠ 0
  · rw [State.semOrphan_held ho.1 ho.2, if_pos ho.1, State.semOwner, State.ev_get]
    exact (State.semOwner_putOrphan (State.setOwner_changedIn.rising h)).trans (State.semOwner_setOwner h (by decide))
  · rw [State.semOrphan_other ho]
    split <;> omega

/-- A reset of an owner changes the semaphore's registers and raises records; nothing else. -/
theorem State.semOrphan_frame : s.semOrphan n o = { s with regs := (s.semOrphan n o).regs, raised := (s.semOrphan n o).raised } := by
  unfold State.semOrphan
  split <;> rfl

theorem State.semOrphans_changedIn : RegFile.ChangedIn (SemKeys n) s.regs (rsts.foldl (fun t o => t.semOrphan n o) s).regs :=
  .foldl fun _ _ _ => State.semOrphan_changedIn

theorem State.semOrphans_out : (rsts.foldl (fun t o => t.semOrphan n o) s).out = s.out := by
  induction rsts generalizing s with
  | nil => rfl
  | cons o l ih => rw [List.foldl_cons, ih, State.semOrphan_frame]

theorem State.semOwner_semOrphans (h : rising s.regs = true) :
    (rsts.foldl (fun t o => t.semOrphan n o) s).semOwner n = if s.semOwner n ∈ rsts then 0 else s.semOwner n := by
  induction rsts generalizing s with
  | nil => rfl
  | cons o l ih =>
    rw [List.foldl_cons, ih (State.semOrphan_changedIn.rising h), State.semOwner_semOrphan h]
    by_cases ho : s.semOwner n = o <;> simp [ho]

/-! The judgement of one cycle (R46): resets, then releases, then the grant. -/

/-- The state once the resets and releases of a cycle are done. -/
def State.semFreed (s : State) (n : Nat) (rels rsts : List Nat) : State :=
  let t := rsts.foldl (fun (t : State) (o : Nat) => t.semOrphan n o) s
  if rels.contains (t.semOwner n) then t.setOwner n 0 else t

/-- The attempts that a cycle judges: all but those lost with a reset. -/
def State.semLive (s : State) (n : Nat) (reqs rsts : List Nat) : List Nat := reqs.filter fun r => !s.semLost n rsts r

theorem State.semFreed_changedIn : RegFile.ChangedIn (SemKeys n) s.regs (s.semFreed n rels rsts).regs := by
  unfold State.semFreed
  extract_lets t
  split
  · exact State.semOrphans_changedIn.trans State.setOwner_changedIn
  · exact State.semOrphans_changedIn

theorem State.semFreed_out : (s.semFreed n rels rsts).out = s.out := by
  unfold State.semFreed
  extract_lets t
  split <;> exact State.semOrphans_out

theorem State.semOwner_semFreed (h : rising s.regs = true) :
    (s.semFreed n rels rsts).semOwner n = if s.semOwner n ∈ rels ∨ s.semOwner n ∈ rsts then 0 else s.semOwner n := by
  unfold State.semFreed
  extract_lets t
  have ht : t.semOwner n = if s.semOwner n ∈ rsts then 0 else s.semOwner n := State.semOwner_semOrphans h
  split
  case isTrue hrel =>
    rw [State.semOwner_setOwner (State.semOrphans_changedIn.rising h) (by decide)]
    rw [List.contains_iff_mem, ht] at hrel
    by_cases hrst : s.semOwner n ∈ rsts
    · simp [hrst]
    · simp only [hrst, if_false] at hrel
      simp [hrel]
  case isFalse hrel =>
    rw [List.contains_iff_mem, ht] at hrel
    rw [ht]
    by_cases hrst : s.semOwner n ∈ rsts
    · simp [hrst]
    · simp only [hrst, if_false] at hrel
      simp [hrel, hrst]

theorem State.semJudge_eq (hq : ∀ r ∈ reqs, 1 ≤ r) : s.semJudge n reqs rels rsts =
    if (s.semFreed n rels rsts).semOwner n = 0 then
      match (s.semLive n reqs rsts).min? with
      | some o => (s.semFreed n rels rsts).setOwner n o
      | none => s.semFreed n rels rsts
    else s.semFreed n rels rsts := by
  have hlive : (reqs.filter fun r => !s.semLost n rsts r && r ≠ 0) = s.semLive n reqs rsts :=
    List.filter_congr fun r hr => by simp [Nat.one_le_iff_ne_zero.mp (hq r hr)]
  simp only [State.semJudge, hlive]
  rfl

theorem State.semJudge_cases (hq : ∀ r ∈ reqs, 1 ≤ r) : s.semJudge n reqs rels rsts = s.semFreed n rels rsts ∨
    ∃ o, s.semJudge n reqs rels rsts = (s.semFreed n rels rsts).setOwner n o := by
  rw [State.semJudge_eq hq]
  split
  · split
    · exact .inr ⟨_, rfl⟩
    · exact .inl rfl
  · exact .inl rfl

theorem State.semJudge_changedIn (hq : ∀ r ∈ reqs, 1 ≤ r) : RegFile.ChangedIn (SemKeys n) s.regs (s.semJudge n reqs rels rsts).regs := by
  rcases State.semJudge_cases (s := s) (n := n) (rels := rels) (rsts := rsts) hq with h | ⟨o, h⟩ <;> rw [h]
  · exact State.semFreed_changedIn
  · exact State.semFreed_changedIn.trans State.setOwner_changedIn

theorem State.semJudge_out (hq : ∀ r ∈ reqs, 1 ≤ r) : (s.semJudge n reqs rels rsts).out = s.out := by
  rcases State.semJudge_cases (s := s) (n := n) (rels := rels) (rsts := rsts) hq with h | ⟨o, h⟩ <;> rw [h]
  · exact State.semFreed_out
  · exact State.semFreed_out

/-- The owner after a cycle: whom the resets and releases leave, else the lowest of the attempts that are not lost. -/
theorem State.semOwner_semJudge (h : rising s.regs = true) (hq : ∀ r ∈ reqs, 1 ≤ r ∧ r ≤ 5) :
    (s.semJudge n reqs rels rsts).semOwner n =
      if (s.semFreed n rels rsts).semOwner n = 0 then (s.semLive n reqs rsts).min?.getD 0 else (s.semFreed n rels rsts).semOwner n := by
  rw [State.semJudge_eq fun r hr => (hq r hr).1]
  split
  case isTrue hfree =>
    cases hmin : (s.semLive n reqs rsts).min? with
    | none => exact hfree
    | some o =>
      have ho : o ≤ 5 := (hq o (List.mem_of_mem_filter (List.min?_mem hmin))).2
      exact State.semOwner_setOwner (State.semFreed_changedIn.rising h) (by omega)
  case isFalse => rfl

/-- Every attempt of a cycle reads the same state: the one after the judgement (R46). -/
theorem State.semCycle_eq : s.semCycle n reqs rels rsts =
    { s.semJudge n reqs rels rsts with
      out := (s.semJudge n reqs rels rsts).out ++ reqs.map fun r =>
        .read r (R.ORD_SEM_ACQ.key [n]) ((s.semJudge n reqs rels rsts).semWord n r (s.semLost n rsts r)) } :=
  State.foldl_emit (g := fun t r => .read r (R.ORD_SEM_ACQ.key [n]) (t.semWord n r (s.semLost n rsts r))) (fun _ _ _ => rfl) reqs _

theorem State.semCycle_regs : (s.semCycle n reqs rels rsts).regs = (s.semJudge n reqs rels rsts).regs := by
  rw [State.semCycle_eq]

theorem State.semCycle_semOwner : (s.semCycle n reqs rels rsts).semOwner m = (s.semJudge n reqs rels rsts).semOwner m :=
  State.get_congr State.semCycle_regs

theorem State.semCycle_out (hq : ∀ r ∈ reqs, 1 ≤ r) : (s.semCycle n reqs rels rsts).out = s.out ++ reqs.map fun r =>
    .read r (R.ORD_SEM_ACQ.key [n]) (b2n (!s.semLost n rsts r && (s.semCycle n reqs rels rsts).semOwner n = r) * 2 ^ 31 +
      (s.semCycle n reqs rels rsts).get Fl.ORD_SEM_CTL_orphan [n] * 2 ^ 30 + (s.semCycle n reqs rels rsts).semOwner n) := by
  have hword : ∀ r, (s.semJudge n reqs rels rsts).semWord n r (s.semLost n rsts r) =
      b2n (!s.semLost n rsts r && (s.semCycle n reqs rels rsts).semOwner n = r) * 2 ^ 31 +
        (s.semCycle n reqs rels rsts).get Fl.ORD_SEM_CTL_orphan [n] * 2 ^ 30 + (s.semCycle n reqs rels rsts).semOwner n := by
    intro r
    simp only [State.semWord, State.semCycle_semOwner, State.get_congr (State.semCycle_regs (s := s)), Bool.not_eq_true, Bool.decide_eq_false]
  conv_lhs => rw [State.semCycle_eq]
  simp only [State.semJudge_out hq, hword]

theorem exec_semAcquire_reached (hn : n < 64) (h : s.reaches .ord = true) :
    exec (.semAcquire n reqs rels rsts) s = .next (s.semCycle n reqs rels rsts) := by
  rw [exec_semAcquire, execSemAcquire, State.onUnit_reached h, if_pos hn]

end

/-- Settles O57: the words of a cycle are read after its judgement, which changes the registers of its own semaphore only. -/
theorem semaphoreEventsOfOneCycle : Obligations.SemaphoreEventsOfOneCycle := by
  intro n reqs rels rsts s hn hq _ hreach hr o live
  have hq1 : ∀ r ∈ reqs, 1 ≤ r := fun r h => (hq r h).1
  refine ⟨_, exec_semAcquire_reached hn hreach, ?_, State.semCycle_out hq1, fun m _ hm => ?_⟩
  · rw [State.semCycle_semOwner, State.semOwner_semJudge hr hq, State.semOwner_semFreed hr]
    rfl
  · rw [State.semCycle_semOwner]
    exact State.semOwner_of_changedIn (State.semJudge_changedIn hq1) hm

end Sys2Proof.Machine
namespace Sys2Proof.Machine

section

variable {s : State} {n m o rq : Nat} {reqs rels : List Nat}

/-! A cycle without resets: nothing is lost, and only the owner changes. -/

theorem State.semFreed_noReset : s.semFreed n rels [] = s ∨ s.semFreed n rels [] = s.setOwner n 0 := by
  unfold State.semFreed
  extract_lets t
  split
  · exact .inr rfl
  · exact .inl rfl

theorem State.semJudge_noReset_frame (hq : ∀ r ∈ reqs, 1 ≤ r) :
    s.semJudge n reqs rels [] = { s with regs := (s.semJudge n reqs rels []).regs } := by
  rcases State.semJudge_cases (s := s) (n := n) (rels := rels) (rsts := []) hq with h | ⟨o, h⟩ <;> rw [h] <;>
    rcases State.semFreed_noReset (s := s) (n := n) (rels := rels) with h' | h' <;> rw [h'] <;> rfl

theorem State.semCycle_noReset_frame (hq : ∀ r ∈ reqs, 1 ≤ r) :
    s.semCycle n reqs rels [] = { s with regs := (s.semCycle n reqs rels []).regs, out := (s.semCycle n reqs rels []).out } := by
  have hjudge : s.semJudge n reqs rels [] = { s with regs := (s.semJudge n reqs rels []).regs } := State.semJudge_noReset_frame hq
  rw [State.semCycle_eq]
  generalize s.semJudge n reqs rels [] = t at hjudge ⊢
  rw [hjudge]

theorem State.orphan_semJudge_noReset (hr : rising s.regs = true) (hq : ∀ r ∈ reqs, 1 ≤ r) :
    (s.semJudge n reqs rels []).get Fl.ORD_SEM_CTL_orphan [n] = s.get Fl.ORD_SEM_CTL_orphan [n] := by
  have hfreed : (s.semFreed n rels []).get Fl.ORD_SEM_CTL_orphan [n] = s.get Fl.ORD_SEM_CTL_orphan [n] := by
    rcases State.semFreed_noReset (s := s) (n := n) (rels := rels) with h | h <;> rw [h]
    exact State.orphan_setOwner hr
  rcases State.semJudge_cases (s := s) (n := n) (rels := rels) (rsts := []) hq with h | ⟨o, h⟩ <;> rw [h]
  · exact hfreed
  · exact (State.orphan_setOwner (State.semFreed_changedIn.rising hr)).trans hfreed

theorem State.semLost_noReset : s.semLost n [] rq = false := rfl

theorem State.semLive_noReset : s.semLive n reqs [] = reqs := List.filter_eq_self.mpr fun _ _ => rfl

/-- A cycle with one reset and no attempt is the reset. -/
theorem State.semCycle_reset : s.semCycle n [] [] [o] = s.semOrphan n o := by
  rw [State.semCycle, State.semJudge_eq (by simp)]
  simp [State.semFreed, State.semLive]

theorem exec_semRelease_reached (hn : n < 64) (hrq : rq ≠ 0) (h : s.reaches .ord = true) :
    exec (.semRelease n rq) s = .next (if s.semOwner n = rq then s.setOwner n 0 else s) := by
  rw [exec_semRelease, execSemRelease, State.onUnit_reached h]
  simp [hn, hrq]

theorem exec_semOrphanClear_reached (hn : n < 64) (hrq : rq ≠ 0) (h : s.reaches .ord = true) :
    exec (.semOrphanClear n rq) s = .next (if s.semOwner n = rq then s.putOrphan n 0 else s) := by
  rw [exec_semOrphanClear, execSemOrphanClear, State.onUnit_reached h]
  simp [hn, hrq, State.putOrphan]

/-- What only the registers of one semaphore do not see. -/
theorem State.rd_of_semChanged {t : State} (h : RegFile.ChangedIn (SemKeys n) s.regs t.regs) {r : Reg} {ix : List Nat}
    (ha : r.key ix ≠ R.ORD_SEM_ACQ.key [n]) (hc : r.key ix ≠ R.ORD_SEM_CTL.key [n]) : t.rd r ix = s.rd r ix :=
  State.rd_of_changedIn h (not_or.mpr ⟨ha, hc⟩)

end

/-- Settles O9: a cycle without resets is the release and the grant; a reset of the holder, a release and an orphan clear are one update. -/
theorem semaphoreCycle : Obligations.SemaphoreCycle := by
  refine ⟨?_, ?_, ?_, ?_⟩
  · intro n reqs rels s hn hq hreach hr
    have hq1 : ∀ r ∈ reqs, 1 ≤ r := fun r h => (hq r h).1
    refine ⟨_, exec_semAcquire_reached hn hreach, ?_, ?_, ?_, fun r ix ha hc => ?_⟩
    · rw [State.semCycle_semOwner, State.semOwner_semJudge hr hq, State.semOwner_semFreed hr, State.semLive_noReset]
      by_cases hfree : s.semOwner n = 0 <;> by_cases hrel : s.semOwner n ∈ rels <;> simp [hfree, hrel]
    · rw [State.semCycle_out hq1, State.get_congr State.semCycle_regs, State.orphan_semJudge_noReset hr hq1]
      simp only [State.semLost_noReset, Bool.not_false, Bool.true_and]
    · exact State.semCycle_noReset_frame hq1
    · have hch : RegFile.ChangedIn (SemKeys n) s.regs (s.semCycle n reqs rels []).regs :=
        State.semCycle_regs ▸ State.semJudge_changedIn hq1
      exact State.rd_of_semChanged hch ha hc
  · intro n o s hn ho _ hreach hr howner
    refine ⟨_, exec_semAcquire_reached hn hreach, ?_, ?_, ?_⟩ <;> rw [State.semCycle_reset]
    · rw [State.semOwner_semOrphan hr, if_pos howner]
    · rw [State.semOrphan_held howner (by omega), State.ev_get]
      exact State.orphan_putOrphan (State.setOwner_changedIn.rising hr)
    · rw [State.semOrphan_held howner (by omega)]
      exact ⟨_, rfl, rfl, rfl⟩
  · intro n rq s hn hrq hreach hr
    refine ⟨_, exec_semRelease_reached hn hrq hreach, ?_⟩
    split
    · exact ⟨State.semOwner_setOwner hr (by decide), State.setOwner_frame, fun r ix => State.rd_of_semChanged State.setOwner_changedIn⟩
    · exact ⟨rfl, rfl, fun _ _ _ _ => rfl⟩
  · intro n rq s hn hrq hreach hr
    refine ⟨_, exec_semOrphanClear_reached hn hrq hreach, ?_⟩
    split
    · exact ⟨State.semOwner_putOrphan hr, State.orphan_putOrphan hr, rfl, fun r ix => State.rd_of_semChanged State.putOrphan_changedIn⟩
    · exact ⟨rfl, rfl, rfl, fun _ _ _ _ => rfl⟩

end Sys2Proof.Machine
namespace Sys2Proof.Machine

/-! ### Promotions (R48, R49) -/

/-- A search that accepts only what a filter keeps does not see the filter. -/
theorem find?_filter_of_imp {α : Type} {p q : α → Bool} (h : ∀ a, p a = true → q a = true) (l : List α) :
    (l.filter q).find? p = l.find? p := by
  rw [List.find?_filter]
  congr 1
  funext a
  cases hp : p a with
  | false => simp
  | true => simp [h a hp]

@[simp] theorem key_CMDQ_CTRL (r : Nat) : R.CMDQ_CTRL.key [r] = 0x30008 + r * 0x40 := rfl

section

variable {s : State} {arb id cls arb' id' cls' n : Nat}

theorem State.tickTime_frame : s.tickTime n = { s with time := (s.tickTime n).time } := by
  unfold State.tickTime
  extract_lets x ofs tb u
  split <;> rfl

theorem State.tickTime_clk : (s.tickTime n).time.clk = s.time.clk + 2 * n := by
  unfold State.tickTime
  extract_lets x ofs tb u
  split <;> rfl

theorem State.tickHours_frame {old : Nat} : s.tickHours n old = { s with regs := (s.tickHours n old).regs, nv := (s.tickHours n old).nv } := by
  unfold State.tickHours
  dsimp only
  split <;> rfl

/-- The registers that show powered hours and the minutes to the next plan. -/
def HoursKeys : Nat → Prop := fun k => k = R.BARO_HOURS.key [] ∨ k = R.BARO_NEXT.key []

theorem State.tickHours_changedIn {old : Nat} : RegFile.ChangedIn HoursKeys s.regs (s.tickHours n old).regs := by
  unfold State.tickHours
  dsimp only
  split
  · exact .refl
  · exact (RegFile.ChangedIn.refl.wr (.inl rfl)).wr (.inr rfl)

/-- Clocks of the TIME counters move the time, the synthesisers and the powered hours. -/
theorem State.advance_frame : s.advance n =
    { s with time := (s.tickTime n).time, aud := (s.advance n).aud, nv := (s.advance n).nv, regs := (s.advance n).regs } := by
  unfold State.advance
  rw [State.tickHours_frame, State.tickAud, State.tickTime_frame]

theorem State.advance_changedIn : RegFile.ChangedIn HoursKeys s.regs (s.advance n).regs := by
  have h : ((s.tickTime n).tickAud n (s.tbFine 3)).regs = s.regs := by
    rw [State.tickAud, State.tickTime_frame]
  exact h ▸ State.tickHours_changedIn

/-- What a request that is promoted a second time has waited for: the end of its limit (R49). -/
def State.waited (s : State) (arb id cls : Nat) : State :=
  match s.promoted? arb id with
  | some e => s.reachClk (e.2 + s.updraftLimit (s.waitClass arb id cls) + 1)
  | none => s

theorem State.reachClk_cases (x : Nat) : s.reachClk x = s ∧ x ≤ s.time.clk ∨ ∃ n, s.reachClk x = s.advance n ∧ x ≤ s.time.clk + 2 * n := by
  unfold State.reachClk
  split
  · exact .inr ⟨_, rfl, by omega⟩
  · exact .inl ⟨rfl, by omega⟩

theorem State.waited_cases : s.waited arb id cls = s ∨ ∃ n, s.waited arb id cls = s.advance n := by
  unfold State.waited
  split
  case h_1 e _ =>
    rcases s.reachClk_cases (e.2 + s.updraftLimit (s.waitClass arb id cls) + 1) with ⟨h, _⟩ | ⟨n, h, _⟩
    · exact .inl h
    · exact .inr ⟨n, h⟩
  case h_2 => exact .inl rfl

theorem State.waited_changedIn : RegFile.ChangedIn HoursKeys s.regs (s.waited arb id cls).regs := by
  rcases State.waited_cases (s := s) (arb := arb) (id := id) (cls := cls) with h | ⟨n, h⟩ <;> rw [h]
  · exact .refl
  · exact State.advance_changedIn

theorem State.waited_promo : (s.waited arb id cls).promo = s.promo := by
  rcases State.waited_cases (s := s) (arb := arb) (id := id) (cls := cls) with h | ⟨n, h⟩ <;> rw [h]
  rw [State.advance_frame]

theorem State.waited_clk {e : Nat × Nat} (h : s.promoted? arb id = some e) :
    e.2 + s.updraftLimit (s.waitClass arb id cls) < (s.waited arb id cls).time.clk := by
  simp only [State.waited, h]
  rcases s.reachClk_cases (e.2 + s.updraftLimit (s.waitClass arb id cls) + 1) with ⟨hs, hle⟩ | ⟨n, hs, hle⟩ <;> rw [hs]
  · omega
  · rw [State.advance_frame, State.tickTime_clk]
    omega

theorem State.trace_frame {src kind inst epoch fid : Nat} : s.trace src kind inst epoch fid =
    { s with raised := (s.trace src kind inst epoch fid).raised, free := (s.trace src kind inst epoch fid).free } := by
  unfold State.trace
  split <;> rfl

/-- What a promotion does to a request that waits in a class with a limit (R49). -/
theorem State.promote_eq {c : Fld} (hc : promoCounter arb = some c)
    (hring : arb = 3 → id < 4 ∧ (s.rings.getD id Ring.init).cursor ≠ s.rd R.CMDQ_TAIL [id])
    (hcls : s.waitClass arb id cls = 1 ∨ s.waitClass arb id cls = 2) :
    s.promote arb id cls =
      let t := ((s.waited arb id cls).inc c).trace srcXW 3 arb (((s.waited arb id cls).inc c).rd R.DEV_EPOCH_IN) noFrame
      { t.promoDone arb id with promo := (arb, id, s.waitClass arb id cls - 1, t.time.clk) :: (t.promoDone arb id).promo } := by
  have hwaits : (arb ≠ 3 || (id < 4 && (s.rings.getD id Ring.init).cursor ≠ s.rd R.CMDQ_TAIL [id])) = true := by
    by_cases h3 : arb = 3
    · simpa [h3] using hring h3
    · simp [h3]
  have hlimit : (s.waitClass arb id cls ≠ 1 && s.waitClass arb id cls ≠ 2) = false := by
    rcases hcls with h | h <;> simp [h]
  simp only [State.promote, hc]
  rw [if_neg (by rw [hwaits, hlimit]; decide)]
  rfl

theorem State.promote_regs {c : Fld} (hc : promoCounter arb = some c)
    (hring : arb = 3 → id < 4 ∧ (s.rings.getD id Ring.init).cursor ≠ s.rd R.CMDQ_TAIL [id])
    (hcls : s.waitClass arb id cls = 1 ∨ s.waitClass arb id cls = 2) :
    (s.promote arb id cls).regs = ((s.waited arb id cls).inc c).regs := by
  rw [State.promote_eq hc hring hcls]
  simp only [State.promoDone]
  rw [State.trace_frame]

theorem State.promote_promo {c : Fld} (hc : promoCounter arb = some c)
    (hring : arb = 3 → id < 4 ∧ (s.rings.getD id Ring.init).cursor ≠ s.rd R.CMDQ_TAIL [id])
    (hcls : s.waitClass arb id cls = 1 ∨ s.waitClass arb id cls = 2) :
    (s.promote arb id cls).promo =
      (arb, id, s.waitClass arb id cls - 1, (s.waited arb id cls).time.clk) :: s.promo.filter fun e => !(e.1 = arb && e.2.1 = id) := by
  rw [State.promote_eq hc hring hcls]
  simp only [State.promoDone]
  rw [State.trace_frame, State.inc_frame]
  simp only [State.waited_promo]

theorem State.promote_time {c : Fld} (hc : promoCounter arb = some c)
    (hring : arb = 3 → id < 4 ∧ (s.rings.getD id Ring.init).cursor ≠ s.rd R.CMDQ_TAIL [id])
    (hcls : s.waitClass arb id cls = 1 ∨ s.waitClass arb id cls = 2) :
    (s.promote arb id cls).time = (s.waited arb id cls).time := by
  rw [State.promote_eq hc hring hcls]
  simp only [State.promoDone]
  rw [State.trace_frame, State.inc_frame]

/-- Every arbiter's counter is a word of ORD of its own, and a counter that wraps (R49). -/
theorem promoCounter_word {c : Fld} (hc : promoCounter arb = some c) :
    c.kind ≠ .cntSat ∧ c.lo ≤ c.hi ∧ c.hi < 32 ∧ 0x10020 ≤ c.reg.key [] ∧ c.reg.key [] < 0x10034 := by
  unfold promoCounter at hc
  split at hc <;> cases hc <;> decide

end

/-- Settles O10: the first entry of the list of promotions is the request's new class; the counter is the one register that counts it. -/
theorem promotionRaisesOneClass : Obligations.PromotionRaisesOneClass := by
  refine ⟨?_, ?_⟩
  · intro arb id cls c s hc hring hr hcls
    obtain ⟨hkind, hl, hh, hlow, hhigh⟩ := promoCounter_word hc
    have hcount : ¬HoursKeys (c.reg.key []) := by
      show ¬(c.reg.key [] = 0x7000c ∨ c.reg.key [] = 0x70010)
      omega
    have hpromo := State.promote_promo hc hring hcls
    have hregs := State.promote_regs hc hring hcls
    refine ⟨_, rfl, ?_, ?_, fun e he => ?_, fun arb' id' cls' hne hid => ?_⟩
    · simp [State.waitClass, State.promoted?, hpromo]
    · rw [State.get_congr hregs, State.get_inc_same (State.waited_changedIn.rising hr) hl hh hkind,
        State.get_of_changedIn State.waited_changedIn hcount]
    · rw [State.promote_time hc hring hcls]
      exact State.waited_clk he
    · have hother : (s.promote arb id cls).promoted? arb' id' = s.promoted? arb' id' := by
        have hpair : ¬(arb' = arb ∧ id' = id) := fun h => hne (by rw [h.1, h.2])
        rw [State.promoted?, hpromo, List.find?_cons_of_neg (by simpa using fun h h' => hpair ⟨h.symm, h'.symm⟩)]
        refine congrArg _ (find?_filter_of_imp (fun e he => ?_) s.promo)
        obtain ⟨h1, h2⟩ : e.1 = arb' ∧ e.2.1 = id' := by simpa using he
        simp [h1, h2, ← Bool.decide_and, hpair]
      have hclass : arb' = 3 → (s.promote arb id cls).get Fl.CMDQ_CTRL_class [id'] = s.get Fl.CMDQ_CTRL_class [id'] := by
        intro h3
        have := hid h3
        rw [State.get_congr hregs, State.inc, State.get_put_ne, State.get_of_changedIn State.waited_changedIn]
        · show ¬(0x30008 + id' * 0x40 = 0x7000c ∨ 0x30008 + id' * 0x40 = 0x70010)
          omega
        · show c.reg.key [] ≠ 0x30008 + id' * 0x40
          omega
      rw [State.waitClass, State.waitClass, hother]
      split
      · rw [hclass ‹_›]
      · rfl
  · intro arb id cls s h1 h2
    have hlimit : (s.waitClass arb id cls ≠ 1 && s.waitClass arb id cls ≠ 2) = true := by simp [h1, h2]
    rw [exec_updraftPromotion, execUpdraftPromotion, State.promote]
    split
    · rfl
    · rw [if_pos (by rw [hlimit, Bool.or_true])]

end Sys2Proof.Machine
namespace Sys2Proof.Machine

/-! ### Register pairs (R27, R28) -/

/-- The table row of a register that is one software-written word. -/
def wordRow (r : Reg) : RegRow := ⟨r, [⟨r, 31, 0, .rw, .any⟩]⟩

section

variable {s : State} {r lo hi : Reg} {v off : Nat}

theorem wordRow_sound : (wordRow r).Sound := by
  simp [RegRow.Sound, wordRow]

/-- A write of a whole word is read back as it was written. -/
theorem State.rd_writeFields_word (h : rising s.regs = true) (hv : v < 2 ^ 32) : (s.writeFields (wordRow r) [] v).rd r [] = v := by
  have hbits : bits v 31 0 = v := by rw [bits, Nat.pow_zero, Nat.div_one, Nat.mod_eq_of_lt hv]
  have hold : s.rd r < 2 ^ 32 := State.rd_lt
  have hput : s.writeFields (wordRow r) [] v = s.put ⟨r, 31, 0, .rw, .any⟩ [] v := by
    simp [State.writeFields, wordRow, imageOk, writeField, Allowed.ok, hbits]
  rw [hput, State.rd_put_same (d := ⟨r, 31, 0, .rw, .any⟩) h (Nat.lt_succ_self 31) (Nat.zero_le 31)]
  show s.rd r / 2 ^ 32 * 2 ^ 32 + v % 2 ^ 32 * 2 ^ 0 + s.rd r % 2 ^ 0 = v
  omega

theorem State.rising_writeFields {row : RegRow} {ix : List Nat} (h : rising s.regs = true) :
    rising (s.writeFields row ix v).regs = true := by
  obtain ⟨q, l⟩ := row
  induction l generalizing s with
  | nil => exact h
  | cons d l ih =>
    rw [State.writeFields_cons]
    exact ih (State.writeOne_rising h)

/-- A write to DEV, the sky agent or the audio ports that is no command of its own. -/
theorem State.regWrite_word (hf : findReg off = some (wordRow r, [])) (hp : r.perPipe = false)
    (hb : (blockOf off = .dev ∧ r ≠ R.DEV_COMMIT ∧ r ≠ R.DEV_SNAP) ∨ (blockOf off = .sky ∧ r ≠ R.SKY_CTRL ∧ r ≠ R.SKY_OP) ∨
      (blockOf off = .aud ∧ r ≠ R.AUD_START_CTRL ∧ r ≠ R.AUD_P_WR ∧ r ≠ R.AUD_P_CS)) :
    s.regWrite off v = s.writePlain off (wordRow r) [] v := by
  have hh : s.holder off (wordRow r).reg [] = some [] := by simp [State.holder, wordRow, hp]
  simp only [State.regWrite, hf, hh]
  rcases hb with ⟨h, h1, h2⟩ | ⟨h, h1, h2⟩ | ⟨h, h1, h2, h3⟩
  · simp [h, State.devWrite, wordRow, h1, h2]
  · simp [h, State.skyWrite, wordRow, h1, h2]
  · simp [h, State.audWrite, wordRow, h1, h2, h3]

/-- The halves of a pair of whole words whose writes are no commands of their own: their places in the tables. -/
structure WordPair (lo hi : Reg) : Prop where
  rowLo : findReg lo.off = some (wordRow lo, [])
  rowHi : findReg hi.off = some (wordRow hi, [])
  single : lo.dims = [] ∧ hi.dims = [] ∧ lo.perPipe = false ∧ hi.perPipe = false
  pairLo : findPair false lo.off = some (lo, hi, [])
  noLo : findPair false hi.off = none
  pairHi : findPair true hi.off = some (lo, hi, [])
  block : blockOf hi.off = blockOf lo.off
  apart : lo.off ≠ hi.off
  aligned : lo.off % 4 = 0 ∧ hi.off % 4 = 0 ∧ lo.off + 4 ≤ 0x2000000 ∧ hi.off + 4 ≤ 0x2000000
  plain : (blockOf lo.off = .dev ∧ lo ≠ R.DEV_COMMIT ∧ lo ≠ R.DEV_SNAP ∧ hi ≠ R.DEV_COMMIT ∧ hi ≠ R.DEV_SNAP) ∨
    (blockOf lo.off = .sky ∧ lo ≠ R.SKY_CTRL ∧ lo ≠ R.SKY_OP ∧ hi ≠ R.SKY_CTRL ∧ hi ≠ R.SKY_OP) ∨
    (blockOf lo.off = .aud ∧ lo ≠ R.AUD_START_CTRL ∧ lo ≠ R.AUD_P_WR ∧ lo ≠ R.AUD_P_CS ∧ hi ≠ R.AUD_START_CTRL ∧ hi ≠ R.AUD_P_WR ∧
      hi ≠ R.AUD_P_CS)

/-- The low half that a pair's high half takes with it (R28). -/
def State.withLow (s : State) (lo : Reg) (v : Nat) : State :=
  { s with lowHalf := (lo.key [], v) :: s.lowHalf.filter fun e => e.1 ≠ lo.key [] }

theorem WordPair.write_lo (p : WordPair lo hi) (hv : v < 2 ^ 32) (h : s.reaches (blockOf lo.off) = true) :
    exec (.registerWrite .bar0 lo.off 4 15 v) s = .next (s.withLow lo v) := by
  obtain ⟨-, -, hlo, -⟩ := p.single
  rw [exec_registerWrite_bar0 s p.aligned.1 p.aligned.2.2.1, Nat.mod_eq_of_lt hv, State.bar0Word, State.onUnit_reached h,
    State.regWrite_word p.rowLo hlo (by have := p.plain; tauto), State.writePlain, if_pos (by simp [p.pairLo, wordRow])]
  rw [Nat.mod_eq_of_lt hv]
  rfl

/-- The state after the high half: both words are written, and no low half waits (R28). -/
def State.withPair (s : State) (lo hi : Reg) (a b : Nat) : State :=
  (({ s with lowHalf := s.lowHalf.filter fun e => e.1 ≠ lo.key [] } : State).writeFields (wordRow lo) [] a).writeFields (wordRow hi) [] b

theorem WordPair.write_hi {a b : Nat} (p : WordPair lo hi) (hb : b < 2 ^ 32) (h : s.reaches (blockOf lo.off) = true) :
    exec (.registerWrite .bar0 hi.off 4 15 b) (s.withLow lo a) = .next ((s.withLow lo a).withPair lo hi a b) := by
  obtain ⟨hdim, -, -, hhi⟩ := p.single
  have hreach : (s.withLow lo a).reaches (blockOf hi.off) = true := p.block ▸ h
  have hfind : (s.withLow lo a).lowHalf.find? (fun e => e.1 = lo.key []) = some (lo.key [], a) := by simp [State.withLow]
  have hlo : findReg (lo.off + instOffset lo.dims []) = some (wordRow lo, []) := by
    rw [hdim]
    exact p.rowLo
  rw [exec_registerWrite_bar0 _ p.aligned.2.1 p.aligned.2.2.2, Nat.mod_eq_of_lt hb, State.bar0Word, State.onUnit_reached hreach,
    State.regWrite_word p.rowHi hhi (by have := p.plain; have := p.block; simp_all only [ne_eq]; tauto), State.writePlain]
  simp only [p.noLo, p.pairHi, Option.isSome_none, Bool.and_false, Bool.false_eq_true, if_false]
  simp [hfind, hlo, wordRow, State.withPair]

theorem State.withPair_frame {a b : Nat} :
    s.withPair lo hi a b = { s with regs := (s.withPair lo hi a b).regs, lowHalf := (s.withPair lo hi a b).lowHalf } := by
  unfold State.withPair
  rw [State.writeFields_frame, State.writeFields_frame]

end

theorem wordPairs {lo hi : Reg} (h : (lo, hi) ∈ [(R.DEV_COMMIT_TIME_LO, R.DEV_COMMIT_TIME_HI), (R.DEV_COMMIT_FRAME_LO, R.DEV_COMMIT_FRAME_HI),
      (R.SKY_OP_TIME_LO, R.SKY_OP_TIME_HI), (R.AUD_START_TIME_LO, R.AUD_START_TIME_HI)]) : WordPair lo hi := by
  simp only [List.mem_cons, List.not_mem_nil, or_false, Prod.mk.injEq] at h
  rcases h with ⟨rfl, rfl⟩ | ⟨rfl, rfl⟩ | ⟨rfl, rfl⟩ | ⟨rfl, rfl⟩ <;> constructor <;> decide +kernel

/-- Settles O59: the low half waits in the state beside the register file; the high half writes both words. -/
theorem pairWritesTakeEffectTogether : Obligations.PairWritesTakeEffectTogether := by
  intro lo hi a b s hmem ha hb hr hreach
  have p : WordPair lo hi := wordPairs hmem
  obtain ⟨hlodim, hhidim, hlopipe, hhipipe⟩ := p.single
  have hkey : hi.key [] ≠ lo.key [] := by simpa [Reg.key, hlodim, hhidim, instOffset, hlopipe, hhipipe] using p.apart.symm
  have hr' : rising (({ s.withLow lo a with lowHalf := (s.withLow lo a).lowHalf.filter fun e => e.1 ≠ lo.key [] } : State)).regs = true := hr
  refine ⟨_, _, p.write_lo ha hreach, rfl, rfl, p.write_hi hb hreach, ?_, fun r ix hnlo hnhi => ?_, ?_⟩
  · rw [State.rd64, State.withPair, State.rd_writeFields_word (State.rising_writeFields hr') hb,
      State.writeFields_rd_ne wordRow_sound hkey, State.rd_writeFields_word hr' ha]
  · rw [State.withPair, State.writeFields_rd_ne wordRow_sound (Ne.symm hnhi), State.writeFields_rd_ne wordRow_sound (Ne.symm hnlo)]
    rfl
  · rw [State.withPair_frame]
    rfl

end Sys2Proof.Machine
namespace Sys2Proof.Machine

/-! ### Event queues (R50 to R52, R62 to R64) -/

@[simp] theorem key_EVQ_BASE_LO (q : Nat) : R.EVQ_BASE_LO.key [q] = 0x20000 + q * 0x40 := rfl
@[simp] theorem key_EVQ_BASE_HI (q : Nat) : R.EVQ_BASE_HI.key [q] = 0x20004 + q * 0x40 := rfl
@[simp] theorem key_EVQ_CTRL (q : Nat) : R.EVQ_CTRL.key [q] = 0x20008 + q * 0x40 := rfl
@[simp] theorem key_EVQ_TAILWB_LO (q : Nat) : R.EVQ_TAILWB_LO.key [q] = 0x20010 + q * 0x40 := rfl
@[simp] theorem key_EVQ_TAILWB_HI (q : Nat) : R.EVQ_TAILWB_HI.key [q] = 0x20014 + q * 0x40 := rfl
@[simp] theorem key_EVQ_HEAD (q : Nat) : R.EVQ_HEAD.key [q] = 0x20018 + q * 0x40 := rfl
@[simp] theorem key_EVQ_TAIL (q : Nat) : R.EVQ_TAIL.key [q] = 0x2001c + q * 0x40 := rfl
@[simp] theorem key_EVQ_WSTAT (q : Nat) : R.EVQ_WSTAT.key [q] = 0x20024 + q * 0x40 := rfl
@[simp] theorem key_EVQ_LEVEL (q : Nat) : R.EVQ_LEVEL.key [q] = 0x20028 + q * 0x40 := rfl
@[simp] theorem key_EVQ_WCNT (q : Nat) : R.EVQ_WCNT.key [q] = 0x2002c + q * 0x40 := rfl

section

variable {s t : State} {q v : Nat} {r : Rec}

/-- A watermark moves at most the set of those disarmed, or it crosses: its status and counter show it and a record says so (R51, R52). -/
theorem State.watermark_cases {w : Watermark} {ix : List Nat} {was level : Nat} : ∃ l, s.watermark w ix was level = { s with disarmed := l } ∨
    s.watermark w ix was level = (((({ s with disarmed := l } : State).put w.crossed ix 1).put w.levelAt ix level).inc w.cnt ix).ev
      0x0001 w.src 0 (level % 2 ^ 32 + 2 ^ 32 * w.crossed.reg.key ix) := by
  unfold State.watermark
  dsimp only
  split
  · exact ⟨s.disarmed, .inl rfl⟩
  · split
    · split
      · exact ⟨_, .inl rfl⟩
      · exact ⟨s.disarmed, .inl rfl⟩
    · split
      · exact ⟨_, .inr rfl⟩
      · exact ⟨s.disarmed, .inl rfl⟩

theorem State.watermark_frame {w : Watermark} {ix : List Nat} {was level : Nat} : s.watermark w ix was level =
    { s with regs := (s.watermark w ix was level).regs, disarmed := (s.watermark w ix was level).disarmed,
             raised := (s.watermark w ix was level).raised } := by
  obtain ⟨l, h | h⟩ := State.watermark_cases (s := s) (w := w) (ix := ix) (was := was) (level := level)
  · rw [h]
  · rw [h]
    rfl

theorem State.watermark_raised {w : Watermark} {ix : List Nat} {was level : Nat} :
    ∃ more, (s.watermark w ix was level).raised = s.raised ++ more := by
  obtain ⟨l, h | h⟩ := State.watermark_cases (s := s) (w := w) (ix := ix) (was := was) (level := level) <;> rw [h]
  · exact ⟨[], (List.append_nil _).symm⟩
  · exact ⟨_, rfl⟩

theorem State.watermark_changedIn {K : Nat → Prop} {w : Watermark} {ix : List Nat} {was level : Nat} (hcross : K (w.crossed.reg.key ix))
    (hlevel : K (w.levelAt.reg.key ix)) (hcnt : K (w.cnt.reg.key ix)) : RegFile.ChangedIn K s.regs (s.watermark w ix was level).regs := by
  obtain ⟨l, h | h⟩ := State.watermark_cases (s := s) (w := w) (ix := ix) (was := was) (level := level) <;> rw [h]
  · exact .refl
  · rw [State.ev_regs]
    exact ((RegFile.ChangedIn.refl.put hcross).put hlevel).put hcnt

/-- The words of queue `q` that follow its level: WSTAT, LEVEL and WCNT. -/
@[reducible] def EvqShown (q : Nat) : Nat → Prop := Keys (0x20024 + q * 0x40) (0x20030 + q * 0x40)

theorem State.evqSync_changedIn : RegFile.ChangedIn (EvqShown q) s.regs (s.evqSync q).regs := by
  unfold State.evqSync
  extract_lets was l u
  have hu : RegFile.ChangedIn (EvqShown q) s.regs u.regs :=
    (RegFile.ChangedIn.refl.put (by simp [Fl.EVQ_LEVEL_level])).put (by simp [Fl.EVQ_LEVEL_full])
  exact hu.trans (State.watermark_changedIn (by simp [evqMark, Fl.EVQ_WSTAT_crossed]) (by simp [evqMark, Fl.EVQ_WSTAT_level_at_cross])
    (by simp [evqMark, Fl.EVQ_WCNT_count]))

theorem State.evqSync_frame : s.evqSync q =
    { s with regs := (s.evqSync q).regs, disarmed := (s.evqSync q).disarmed, raised := (s.evqSync q).raised } := by
  unfold State.evqSync
  rw [State.watermark_frame]
  rfl

theorem State.evqSync_raised : ∃ more, (s.evqSync q).raised = s.raised ++ more := State.watermark_raised

/-- EVQn_LEVEL shows the level that TAIL and HEAD give (R62). -/
theorem State.evqSync_level (hr : rising s.regs = true) : (s.evqSync q).get Fl.EVQ_LEVEL_level [q] = s.evqLevel q % 2 ^ 16 := by
  have hkeep : ∀ {u : State} {was l : Nat}, (u.watermark evqMark [q] was l).get Fl.EVQ_LEVEL_level [q] = u.get Fl.EVQ_LEVEL_level [q] :=
    State.get_of_changedIn (K := fun k => k = R.EVQ_WSTAT.key [q] ∨ k = R.EVQ_WCNT.key [q])
      (State.watermark_changedIn (.inl rfl) (.inl rfl) (.inr rfl)) (by simp [Fl.EVQ_LEVEL_level])
  rw [State.evqSync, hkeep, State.get_put_apart (d := Fl.EVQ_LEVEL_full) (d' := Fl.EVQ_LEVEL_level) (State.rising_put hr) rfl (by decide)
    (by decide) (by decide) (by decide), State.get_put_same hr (by decide) (by decide)]
  rfl

theorem State.evqHead_taken (hq : q < 16) (hv : v < 2 ^ 32) (hl : (s.rd R.EVQ_TAIL [q] + 2 ^ 32 - v) % 2 ^ 32 ≤ s.evqSize q) :
    s.evqHead q v = (s.wr R.EVQ_HEAD [q] v).evqSync q := by
  rw [State.evqHead, Nat.mod_eq_of_lt hv, if_pos ⟨hq, hl⟩]

theorem exec_evqHeadDoorbell_reached (h : s.reaches .evq = true) : exec (.evqHeadDoorbell q v) s = .next (s.evqHead q v) := by
  rw [exec_evqHeadDoorbell, execEvqHeadDoorbell, State.onUnit_reached h]

theorem exec_evqReset_reached (h : s.reaches .evq = true) : exec (.evqReset q) s = .next (s.evqReset q) := by
  rw [exec_evqReset, execEvqReset, State.onUnit_reached h]

/-- The level that a state has whose HEAD and TAIL read these values. -/
theorem State.evqLevel_of_rd {tail head : Nat} (ht : s.rd R.EVQ_TAIL [q] = tail) (hh : s.rd R.EVQ_HEAD [q] = head) :
    s.evqLevel q = (tail + 2 ^ 32 - head) % 2 ^ 32 := by
  rw [State.evqLevel, ht, hh]

/-- A queue whose HEAD and TAIL have gone to 0; its level is yet to follow. -/
def State.evqEmptied (s : State) (q : Nat) : State := ((s.wr R.EVQ_HEAD [q] 0).wr R.EVQ_TAIL [q] 0).modDest q fun d => { d with unsig := 0 }

theorem State.evqEmptied_rd (hr : rising s.regs = true) :
    (s.evqEmptied q).rd R.EVQ_HEAD [q] = 0 ∧ (s.evqEmptied q).rd R.EVQ_TAIL [q] = 0 := by
  rw [State.evqEmptied, State.modDest_rd, State.modDest_rd, State.rd_wr_ne (by simp), State.rd_wr_same hr,
    State.rd_wr_same (State.rising_wr hr)]
  exact ⟨rfl, rfl⟩

/-- A queue at zero: what its registers show (R62). -/
theorem State.evqZero_rd (hr : rising s.regs = true) :
    (s.evqZero q).rd R.EVQ_HEAD [q] = 0 ∧ (s.evqZero q).rd R.EVQ_TAIL [q] = 0 ∧ (s.evqZero q).get Fl.EVQ_LEVEL_level [q] = 0 := by
  have hzero : s.evqZero q = (s.evqEmptied q).evqSync q := rfl
  have hre : rising (s.evqEmptied q).regs = true := State.rising_wr (State.rising_wr hr)
  obtain ⟨hhead, htail⟩ := State.evqEmptied_rd (q := q) hr
  refine ⟨?_, ?_, ?_⟩ <;> rw [hzero]
  · rw [State.rd_of_changedIn State.evqSync_changedIn (by simp), hhead]
  · rw [State.rd_of_changedIn State.evqSync_changedIn (by simp), htail]
  · rw [State.evqSync_level hre, State.evqLevel_of_rd htail hhead]
    rfl

theorem State.evqZero_frame : s.evqZero q = { s with regs := (s.evqZero q).regs, dests := (s.evqZero q).dests,
                                                     disarmed := (s.evqZero q).disarmed, raised := (s.evqZero q).raised } := by
  unfold State.evqZero
  rw [State.evqSync_frame]
  rfl

end

/-- Settles O13: a doorbell is a write of HEAD, a reset one of HEAD and TAIL; LEVEL and the watermark follow the level. -/
theorem queueHeadAndReset : Obligations.QueueHeadAndReset := by
  refine ⟨?_, ?_, ?_, ?_⟩
  · intro q v s hq hv hreach hr hl
    have hr1 : rising (s.wr R.EVQ_HEAD [q] v).regs = true := State.rising_wr hr
    have hhead : (s.wr R.EVQ_HEAD [q] v).rd R.EVQ_HEAD [q] = v := by rw [State.rd_wr_same hr, Nat.mod_eq_of_lt hv]
    have htail : (s.wr R.EVQ_HEAD [q] v).rd R.EVQ_TAIL [q] = s.rd R.EVQ_TAIL [q] := State.rd_wr_ne (by simp)
    refine ⟨_, exec_evqHeadDoorbell_reached hreach, ?_⟩
    rw [State.evqHead_taken hq hv hl]
    refine ⟨?_, ?_, ?_, ?_⟩
    · rw [State.rd_of_changedIn State.evqSync_changedIn (by simp), hhead]
    · rw [State.rd_of_changedIn State.evqSync_changedIn (by simp), htail]
    · rw [State.evqSync_level hr1, State.evqLevel_of_rd htail hhead]
    · rw [State.evqSync_frame]
      rfl
  · intro q v s _ hv hreach hl
    rw [exec_evqHeadDoorbell_reached hreach, State.evqHead, Nat.mod_eq_of_lt hv, if_neg (by omega)]
  · intro q s hq hreach hr hoff
    obtain ⟨hhead, htail, hlevel⟩ := State.evqZero_rd (q := q) hr
    refine ⟨_, exec_evqReset_reached hreach, ?_⟩
    rw [State.evqReset, if_pos ⟨hq, by simp [hoff]⟩]
    exact ⟨hhead, htail, hlevel, State.evqZero_frame⟩
  · intro q s hreach hon
    rw [exec_evqReset_reached hreach, State.evqReset, if_neg (by simp [hon])]

end Sys2Proof.Machine
namespace Sys2Proof.Machine

/-! ### Bytes of a memory (R5) -/

section

variable {m : Mem} {a a' n i v : Nat} {b : Bytes}

theorem Mem.rising_write (h : rising m = true) : rising (m.write a b) = true := by
  induction b generalizing m a with
  | nil => exact h
  | cons x b ih => exact ih (rising_setAt h)

theorem Mem.get_write_at (h : rising m = true) (hi : i < b.length) : (m.write a b).get (a + i) = b[i] := by
  induction b generalizing m a i with
  | nil => exact absurd hi (Nat.not_lt_zero i)
  | cons x b ih =>
    rw [Mem.write]
    cases i with
    | zero =>
      rw [Mem.get_write_out (by omega)]
      exact lookAt_setAt_same h
    | succ i =>
      rw [show a + (i + 1) = a + 1 + i by omega, ih (m := m.set a x) (rising_setAt h) (Nat.lt_of_succ_lt_succ hi)]
      rfl

/-- The bytes just written are read back. -/
theorem Mem.read_write_same (h : rising m = true) (hn : b.length = n) : (m.write a b).read a n = b := by
  subst hn
  refine List.ext_getElem (by simp [Mem.read]) fun i _ hi => ?_
  simp only [Mem.read, List.getElem_map, List.getElem_range]
  exact Mem.get_write_at h hi

theorem Mem.read_write_out (h : a' + n ≤ a ∨ a + b.length ≤ a') : (m.write a b).read a' n = m.read a' n := by
  refine List.map_congr_left fun i hi => Mem.get_write_out ?_
  have : i < n := List.mem_range.mp hi
  omega

@[simp] theorem length_leBytes (n v : Nat) : (leBytes n v).length = n := by
  induction n generalizing v with
  | zero => rfl
  | succ n ih => rw [leBytes, List.length_cons, ih]

theorem leNat_leBytes (n v : Nat) : leNat (leBytes n v) = v % 256 ^ n := by
  induction n generalizing v with
  | zero => rw [Nat.pow_zero, Nat.mod_one]; rfl
  | succ n ih =>
    have hpow : 256 ^ (n + 1) = 256 * 256 ^ n := Nat.pow_succ'
    rw [leBytes, leNat, ih, BitVec.toNat_ofNat, hpow, Nat.mod_mul]

theorem Rec.length_encode (r : Rec) : r.encode.length = 32 := by
  simp [Rec.encode]

end

/-! ### Publication in an event queue (R39, R62, R63) -/

section

variable {s t : State} {q d v : Nat} {r : Rec}

/-- A signalled vector is an output or a pending bit (R25). -/
theorem State.signal_frame : s.signal v = { s with out := (s.signal v).out, msixPba := (s.signal v).msixPba } := by
  unfold State.signal
  extract_lets w
  split
  · rfl
  · split <;> rfl

@[simp] theorem State.evqSync_host : (s.evqSync q).host = s.host := by rw [State.evqSync_frame]

@[simp] theorem State.evqSync_dests : (s.evqSync q).dests = s.dests := by rw [State.evqSync_frame]

theorem State.evqSignal_frame : s.evqSignal q =
    { s with dests := (s.modDest q fun x => { x with unsig := 0 }).dests, out := (s.evqSignal q).out, msixPba := (s.evqSignal q).msixPba } := by
  unfold State.evqSignal
  rw [State.signal_frame]
  rfl

@[simp] theorem State.evqSignal_host : (s.evqSignal q).host = s.host := by rw [State.evqSignal_frame]

@[simp] theorem State.evqSignal_regs : (s.evqSignal q).regs = s.regs := by rw [State.evqSignal_frame]

@[simp] theorem State.evqSignal_raised : (s.evqSignal q).raised = s.raised := by rw [State.evqSignal_frame]

/-- The slot at TAIL of queue `q` and the place of its write-back (R62, R63). -/
def State.evqSlot (s : State) (q : Nat) : Nat := s.rd64 R.EVQ_BASE_LO R.EVQ_BASE_HI [q] + s.rd R.EVQ_TAIL [q] % s.evqSize q * 32
def State.evqBack (s : State) (q : Nat) : Nat := s.rd64 R.EVQ_TAILWB_LO R.EVQ_TAILWB_HI [q]

theorem State.evqSlot_congr (h : t.regs = s.regs) : t.evqSlot q = s.evqSlot q := by
  simp only [State.evqSlot, State.evqSize, State.get_congr h, State.rd64_congr h, State.rd_congr h]

theorem State.evqBack_congr (h : t.regs = s.regs) : t.evqBack q = s.evqBack q := State.rd64_congr h

/-- TAIL of queue `q` once a record more stands in it. -/
def State.evqNext (s : State) (q : Nat) : Nat := (s.rd R.EVQ_TAIL [q] + 1) % 2 ^ 32

/-- The queue with the record in its slot and TAIL moved on. -/
def State.evqTailed (s : State) (q : Nat) (r : Rec) : State := (s.hostWrite (s.evqSlot q) r.encode).wr R.EVQ_TAIL [q] (s.evqNext q)

/-- The queue with TAIL written back too, and one record more unsignalled. -/
def State.evqStored (s : State) (q : Nat) (r : Rec) : State :=
  ((s.evqTailed q r).hostWrite ((s.evqTailed q r).evqBack q) (leBytes 4 (s.evqNext q))).modDest q fun d => { d with unsig := d.unsig + 1 }

@[simp] theorem State.evqStored_regs : (s.evqStored q r).regs = (s.wr R.EVQ_TAIL [q] (s.evqNext q)).regs := by
  simp [State.evqStored, State.evqTailed]

@[simp] theorem State.evqStored_raised : (s.evqStored q r).raised = s.raised := by
  simp [State.evqStored, State.evqTailed]

theorem State.evqStored_host :
    (s.evqStored q r).host = (s.host.write (s.evqSlot q) r.encode).write (s.evqBack q) (leBytes 4 (s.evqNext q)) := by
  have htail : RegFile.ChangedIn (fun k => k = R.EVQ_TAIL.key [q]) s.regs (s.evqTailed q r).regs := by
    rw [State.evqTailed, State.wr_regs, State.hostWrite_regs]
    exact RegFile.ChangedIn.refl.wr rfl
  have hback : (s.evqTailed q r).evqBack q = s.evqBack q := State.rd64_of_changedIn htail (by simp) (by simp)
  rw [State.evqStored, State.modDest_host, State.hostWrite_host, hback, State.evqTailed, State.wr_host, State.hostWrite_host]

/-- A record is stored, its vector is signalled if it is due, and the level is shown. -/
theorem State.evqPut_cases : s.evqPut q r = (s.evqStored q r).evqSync q ∨ s.evqPut q r = ((s.evqStored q r).evqSignal q).evqSync q := by
  unfold State.evqPut
  extract_lets tail s₁ s₂ s₃ s₄ s₅
  have hstored : s₄ = s.evqStored q r := rfl
  have hsignal : s₅ = s₄.evqSignal q ∨ s₅ = s₄ := ite_eq_or_eq _ _ _
  rw [← hstored]
  exact hsignal.symm.imp (congrArg (State.evqSync · q)) (congrArg (State.evqSync · q))

theorem State.evqPut_host : (s.evqPut q r).host = (s.host.write (s.evqSlot q) r.encode).write (s.evqBack q) (leBytes 4 (s.evqNext q)) := by
  rcases State.evqPut_cases (s := s) (q := q) (r := r) with h | h <;> rw [h, State.evqSync_host]
  · exact State.evqStored_host
  · rw [State.evqSignal_host]
    exact State.evqStored_host

theorem State.evqPut_raised : ∃ more, (s.evqPut q r).raised = s.raised ++ more := by
  rw [← State.evqStored_raised (s := s) (q := q) (r := r)]
  rcases State.evqPut_cases (s := s) (q := q) (r := r) with h | h <;> rw [h]
  · exact State.evqSync_raised
  · rw [← State.evqSignal_raised (s := s.evqStored q r)]
    exact State.evqSync_raised

/-- After TAIL has moved only the words that follow the level change. -/
theorem State.evqPut_changedIn : RegFile.ChangedIn (EvqShown q) (s.evqStored q r).regs (s.evqPut q r).regs := by
  rcases State.evqPut_cases (s := s) (q := q) (r := r) with h | h <;> rw [h]
  · exact State.evqSync_changedIn
  · exact State.evqSignal_regs (s := s.evqStored q r) ▸ State.evqSync_changedIn

theorem State.evqPut_tail (hr : rising s.regs = true) : (s.evqPut q r).rd R.EVQ_TAIL [q] = s.evqNext q := by
  have hstored : (s.evqStored q r).rd R.EVQ_TAIL [q] = s.evqNext q := by
    rw [State.rd_congr State.evqStored_regs, State.rd_wr_same hr, State.evqNext, Nat.mod_mod]
  rw [State.rd_of_changedIn State.evqPut_changedIn (by simp), hstored]

/-- What host memory holds after a publication, the slot and the write-back being apart (R62, R63). -/
theorem State.evqPut_memory (hh : rising s.host = true) (hapart : s.evqBack q + 4 ≤ s.evqSlot q ∨ s.evqSlot q + 32 ≤ s.evqBack q) :
    (s.evqPut q r).host.read (s.evqSlot q) 32 = r.encode ∧ (s.evqPut q r).host.readLe (s.evqBack q) 4 = s.evqNext q ∧
      ∀ a, (a < s.evqSlot q ∨ s.evqSlot q + 32 ≤ a) → (a < s.evqBack q ∨ s.evqBack q + 4 ≤ a) →
        (s.evqPut q r).host.get a = s.host.get a := by
  have hlen : r.encode.length = 32 := r.length_encode
  refine ⟨?_, ?_, fun a hslot hback => ?_⟩ <;> rw [State.evqPut_host]
  · rw [Mem.read_write_out (by simpa using hapart.symm), Mem.read_write_same hh hlen]
  · rw [Mem.readLe, Mem.read_write_same (Mem.rising_write hh) (length_leBytes _ _), leNat_leBytes]
    exact Nat.mod_mod _ _
  · rw [Mem.get_write_out (by simpa using hback), Mem.get_write_out (by simpa [hlen] using hslot)]

/-! The room of a queue (R62) hangs on three of its words. -/

theorem State.destFull_evq (hd : d < 16) : s.destFull d = (!s.flag Fl.EVQ_CTRL_enable [d] || decide (s.evqSize d ≤ s.evqLevel d)) := by
  simp [State.destFull, hd]

theorem State.destFull_of_changedIn {K : Nat → Prop} (h : RegFile.ChangedIn K s.regs t.regs) (hd : d < 16) (hc : ¬K (R.EVQ_CTRL.key [d]))
    (ht : ¬K (R.EVQ_TAIL.key [d])) (hh : ¬K (R.EVQ_HEAD.key [d])) : t.destFull d = s.destFull d := by
  rw [State.destFull_evq hd, State.destFull_evq hd, State.flag_of_changedIn h (d := Fl.EVQ_CTRL_enable) hc, State.evqSize, State.evqSize,
    State.get_of_changedIn h (d := Fl.EVQ_CTRL_log2size) hc, State.evqLevel, State.evqLevel, State.rd_of_changedIn h ht,
    State.rd_of_changedIn h hh]

end

/-- Settles O12: nothing is held for the queue and it has room, so the record is put there at once. -/
theorem completionRecordPublished : Obligations.CompletionRecordPublished := by
  intro src q r rest s hnext hcls hdst hq hr hh hfull hholds slot back hapart
  let u : State := ({ s with raised := rest } : State).promoDone 4 r.drainId
  have hpublish : exec (.eventRecordPublish src) s = .next (u.evqPut q r) := by
    have hfull' : u.destFull q = false := hfull
    have hholds' : u.destHolds q = false := hholds
    have hput : u.publish r = u.evqPut q r := by
      simp [State.publish, State.destinations, hcls, hdst, State.deliver, hholds', hfull', State.destPut, hq]
    rw [exec_eventRecordPublish, execEventRecordPublish, State.publishOldest, hnext]
    exact congrArg Host.Outcome.next hput
  have hslotEq : u.evqSlot q = slot := State.evqSlot_congr rfl
  have hbackEq : u.evqBack q = back := State.evqBack_congr rfl
  rw [← hslotEq, ← hbackEq] at hapart
  obtain ⟨hslot, hback, hrest⟩ := State.evqPut_memory (s := u) (q := q) (r := r) hh hapart
  rw [hslotEq, hbackEq] at *
  exact ⟨_, hpublish, State.evqPut_raised, State.evqPut_tail hr, hslot, hback, hrest⟩

end Sys2Proof.Machine
namespace Sys2Proof.Machine

/-! ### What a destination holds (R64, R552 to R556) -/

/-- The two destinations hold the same records. -/
structure Dest.SameHeld (x y : Dest) : Prop where
  held : x.held = y.held
  lost : x.lost = y.lost
  compl : x.compl = y.compl

/-- How many records leave a destination when it is flushed: held alarms, one LOSS record, held completions (R556). -/
def Dest.count (x : Dest) : Nat := x.held.length + (if x.lost = 0 then 0 else 1) + x.compl.length

theorem Dest.SameHeld.count {x y : Dest} (h : x.SameHeld y) : x.count = y.count := by
  rw [Dest.count, Dest.count, h.held, h.lost, h.compl]

section

variable {s t : State} {q d n : Nat} {r : Rec} {f : Dest → Dest}

theorem State.put_changedIn {K : Nat → Prop} {fl : Fld} {ix : List Nat} (hk : K (fl.reg.key ix)) :
    RegFile.ChangedIn K s.regs (s.put fl ix n).regs := RegFile.ChangedIn.refl.put hk

theorem State.wr_changedIn {K : Nat → Prop} {w : Reg} {ix : List Nat} (hk : K (w.key ix)) :
    RegFile.ChangedIn K s.regs (s.wr w ix n).regs := RegFile.ChangedIn.refl.wr hk

theorem State.dest_modDest : (s.modDest q f).dest d = if d = q ∧ q < s.dests.length then f (s.dest q) else s.dest d := by
  simp only [State.dest, State.modDest, modNth, List.getD_eq_getElem?_getD, List.getElem?_modify]
  by_cases hd : q = d
  · subst hd
    by_cases hq : q < s.dests.length <;> simp [hq]
  · simp [hd, Ne.symm hd]

theorem State.dest_modDest_ne (h : d ≠ q) : (s.modDest q f).dest d = s.dest d := by
  rw [State.dest_modDest, if_neg fun hd => h hd.1]

theorem State.dest_modDest_same (h : q < s.dests.length) : (s.modDest q f).dest q = f (s.dest q) := by
  rw [State.dest_modDest, if_pos ⟨rfl, h⟩]

theorem State.dest_modDest_sameHeld (hf : ∀ x, (f x).SameHeld x) : ((s.modDest q f).dest d).SameHeld (s.dest d) := by
  rw [State.dest_modDest]
  split
  case isTrue h => exact h.1 ▸ hf _
  case isFalse => exact ⟨rfl, rfl, rfl⟩

theorem State.dest_congr (h : t.dests = s.dests) : t.dest d = s.dest d := congrArg (List.getD · d Dest.init) h

/-- There is no place beyond the destinations, so nothing is held there. -/
theorem State.dest_beyond (h : s.dests.length ≤ q) : s.dest q = Dest.init := by
  rw [State.dest, List.getD_eq_default _ _ h]

theorem State.destHolds_iff : s.destHolds d = false ↔ (s.dest d).count = 0 := by
  simp only [State.destHolds, Dest.count]
  split <;> simp_all

/-! A squall flag follows what is held (R552); it shows in TRL_STAT and may be reported. -/

/-- The squall flag of a destination, and the flags of TRL_STAT that follow it. -/
def State.squallShown (s : State) (d : Nat) : State :=
  let s := s.modDest d fun y => { y with squall := ¬(s.dest d).held.isEmpty || (s.dest d).lost ≠ 0 || (s.dest d).log2N ≠ 0 }
  let s := s.put Fl.TRL_STAT_evq_squall [] (b2n ((s.dests.take 16).any fun y => y.squall))
  let s := s.put Fl.TRL_STAT_ring_squall [] (b2n (s.dest 16).squall)
  let s := s.put Fl.TRL_STAT_syslog_squall [] (b2n (s.dest 17).squall)
  s.put Fl.TRL_STAT_bb_squall [] (b2n (s.dest 18).squall)

theorem State.squallSync_cases : s.squallSync d = s.squallShown d ∨ ∃ p, s.squallSync d = (s.squallShown d).ev 0x0141 srcTRL d p :=
  (ite_eq_or_eq _ _ _).imp_right fun h => ⟨_, h⟩

theorem State.squallShown_changedIn : RegFile.ChangedIn (fun k => k = R.TRL_STAT.key []) s.regs (s.squallShown d).regs := by
  unfold State.squallShown
  extract_lets s₁ s₂ s₃ s₄
  have h₂ : RegFile.ChangedIn (fun k => k = R.TRL_STAT.key []) s₁.regs s₂.regs := State.put_changedIn rfl
  have h₃ : RegFile.ChangedIn (fun k => k = R.TRL_STAT.key []) s₂.regs s₃.regs := State.put_changedIn rfl
  have h₄ : RegFile.ChangedIn (fun k => k = R.TRL_STAT.key []) s₃.regs s₄.regs := State.put_changedIn rfl
  have h₅ : RegFile.ChangedIn (fun k => k = R.TRL_STAT.key []) s₄.regs (s₄.put Fl.TRL_STAT_bb_squall [] (b2n (s₄.dest 18).squall)).regs :=
    State.put_changedIn rfl
  exact h₂.trans (h₃.trans (h₄.trans h₅))

theorem State.squallSync_changedIn : RegFile.ChangedIn (fun k => k = R.TRL_STAT.key []) s.regs (s.squallSync d).regs := by
  rcases State.squallSync_cases (s := s) (d := d) with h | ⟨p, h⟩ <;> rw [h]
  · exact State.squallShown_changedIn
  · rw [State.ev_regs]
    exact State.squallShown_changedIn

theorem State.squallSync_sameHeld : ((s.squallSync d).dest q).SameHeld (s.dest q) := by
  have hshown : ((s.squallShown d).dest q).SameHeld (s.dest q) := State.dest_modDest_sameHeld fun _ => ⟨rfl, rfl, rfl⟩
  rcases State.squallSync_cases (s := s) (d := d) with h | ⟨p, h⟩ <;> rw [h]
  · exact hshown
  · rw [State.dest_congr (State.ev_dests ..)]
    exact hshown

@[simp] theorem State.squallSync_host : (s.squallSync d).host = s.host := by
  rcases State.squallSync_cases (s := s) (d := d) with h | ⟨p, h⟩ <;> rw [h]
  · rfl
  · rfl

/-! A publication changes neither what is held nor, but for TAIL, what decides the room of a queue. -/

@[simp] theorem State.evqStored_dests : (s.evqStored q r).dests = (s.modDest q fun x => { x with unsig := x.unsig + 1 }).dests := by
  simp [State.evqStored, State.evqTailed]

@[simp] theorem State.evqSignal_dests : (s.evqSignal q).dests = (s.modDest q fun x => { x with unsig := 0 }).dests := by
  rw [State.evqSignal_frame]

theorem State.evqPut_sameHeld : ((s.evqPut q r).dest d).SameHeld (s.dest d) := by
  have hstored : ((s.evqStored q r).dest d).SameHeld (s.dest d) := by
    rw [State.dest_congr State.evqStored_dests]
    exact State.dest_modDest_sameHeld fun _ => ⟨rfl, rfl, rfl⟩
  rcases State.evqPut_cases (s := s) (q := q) (r := r) with h | h <;> rw [h, State.dest_congr State.evqSync_dests]
  · exact hstored
  · have hsignal : (((s.evqStored q r).evqSignal q).dest d).SameHeld ((s.evqStored q r).dest d) := by
      rw [State.dest_congr State.evqSignal_dests]
      exact State.dest_modDest_sameHeld fun _ => ⟨rfl, rfl, rfl⟩
    exact ⟨hsignal.held.trans hstored.held, hsignal.lost.trans hstored.lost, hsignal.compl.trans hstored.compl⟩

/-! Flushing (R556): one record after the other, until there is no room or nothing is held. -/

/-- The flush of a destination that has room, one record on. -/
def State.flushOne (s : State) (d : Nat) : State :=
  match (s.dest d).held, (s.dest d).lost, (s.dest d).compl with
  | e :: t, _, _ => (s.modDest d fun y => { y with held := t }).destPut d (State.heldRec d e)
  | [], _ + 1, _ => (s.modDest d fun y => { y with lost := 0 }).destPut d (s.lossRec d)
  | [], 0, c :: t => (s.modDest d fun y => { y with compl := t }).destPut d c
  | [], 0, [] => s

theorem State.destFlush_full (h : s.destFull d = true) : s.destFlush d (n + 1) = s.squallSync d := by
  rw [State.destFlush, if_pos h]

theorem State.destFlush_empty (h : (s.dest d).count = 0) : s.destFlush d (n + 1) = s.squallSync d := by
  obtain ⟨⟨hheld, hlost⟩, hcompl⟩ : ((s.dest d).held = [] ∧ (s.dest d).lost = 0) ∧ (s.dest d).compl = [] := by
    simpa [Dest.count] using h
  rw [State.destFlush]
  split
  · rfl
  · simp only [hheld, hlost, hcompl]

theorem State.destFlush_step (hfull : s.destFull d = false) (h : (s.dest d).count ≠ 0) :
    s.destFlush d (n + 1) = (s.flushOne d).destFlush d n := by
  rw [State.destFlush, if_neg (by simp [hfull]), State.flushOne]
  dsimp only
  rcases hheld : (s.dest d).held with _ | ⟨e, t⟩
  · rcases hlost : (s.dest d).lost with _ | k
    · rcases hcompl : (s.dest d).compl with _ | ⟨c, t⟩
      · exact absurd (by simp [Dest.count, hheld, hlost, hcompl]) h
      · rfl
    · rfl
  · rfl

/-- A put into an event queue leaves what is held. -/
theorem State.destPut_sameHeld (hd : d < 16) : ((s.destPut d r).dest d).SameHeld (s.dest d) := by
  rw [State.destPut, if_pos hd]
  exact State.evqPut_sameHeld

/-- A put after an entry has left what is held. -/
theorem State.count_leave (hd : d < 16) (hlen : d < s.dests.length) : (((s.modDest d f).destPut d r).dest d).count = (f (s.dest d)).count := by
  rw [(State.destPut_sameHeld hd).count, State.dest_modDest_same hlen]

theorem State.flushOne_count (hd : d < 16) (h : (s.dest d).count ≠ 0) : ((s.flushOne d).dest d).count + 1 = (s.dest d).count := by
  have hlen : d < s.dests.length := by
    by_contra hlen
    rw [State.dest_beyond (Nat.le_of_not_lt hlen)] at h
    exact h rfl
  unfold State.flushOne
  rcases hheld : (s.dest d).held with _ | ⟨e, t⟩
  · rcases hlost : (s.dest d).lost with _ | k
    · rcases hcompl : (s.dest d).compl with _ | ⟨c, t⟩
      · exact absurd (by simp [Dest.count, hheld, hlost, hcompl]) h
      · dsimp only
        rw [State.count_leave hd hlen]
        simp [Dest.count, hheld, hlost, hcompl]
    · dsimp only
      rw [State.count_leave hd hlen]
      simp [Dest.count, hheld, hlost]
      omega
  · dsimp only
    rw [State.count_leave hd hlen]
    simp [Dest.count, hheld]
    omega

/-- With a step for every record held and one more, a flush ends with no room or with nothing held (R556). -/
theorem State.destFlush_ends (hd : d < 16) (hn : (s.dest d).count < n) :
    (s.destFlush d n).destFull d = true ∨ (s.destFlush d n).destHolds d = false := by
  induction n generalizing s with
  | zero => exact absurd hn (Nat.not_lt_zero _)
  | succ n ih =>
    have hfull : (s.squallSync d).destFull d = s.destFull d := by
      have hstat : R.TRL_STAT.key [] = 0x80004 := rfl
      exact State.destFull_of_changedIn State.squallSync_changedIn hd (by simp [hstat]; omega) (by simp [hstat]; omega) (by simp [hstat]; omega)
    by_cases hroom : s.destFull d = true
    · rw [State.destFlush_full hroom]
      exact .inl (hfull.trans hroom)
    · by_cases hcount : (s.dest d).count = 0
      · rw [State.destFlush_empty hcount]
        exact .inr (State.destHolds_iff.mpr (State.squallSync_sameHeld.count.trans hcount))
      · rw [State.destFlush_step (by simpa using hroom) hcount]
        have hone : ((s.flushOne d).dest d).count + 1 = (s.dest d).count := State.flushOne_count hd hcount
        exact ih (by omega)

theorem exec_heldRecordFlush_evq (hq : q < 16) : exec (.heldRecordFlush q) s = .next (s.flushAll q) := by
  rw [exec_heldRecordFlush, execHeldRecordFlush, if_pos hq]

theorem Dest.count_lt {x : Dest} : x.count < x.held.length + x.compl.length + 2 := by
  unfold Dest.count
  split <;> omega

/-- A queue that holds one alarm and has room: the alarm is put, and the squall flag follows. -/
theorem State.flushAll_alarm {e : Held} (hq : q < 16) (hfull : s.destFull q = false) (hheld : (s.dest q).held = [e])
    (hlost : (s.dest q).lost = 0) (hcompl : (s.dest q).compl = []) :
    s.flushAll q = ((s.modDest q fun y => { y with held := [] }).evqPut q (State.heldRec q e)).squallSync q := by
  have hcount : (s.dest q).count = 1 := by simp [Dest.count, hheld, hlost, hcompl]
  have hone : s.flushOne q = (s.modDest q fun y => { y with held := [] }).evqPut q (State.heldRec q e) := by
    simp only [State.flushOne, hheld, State.destPut, if_pos hq]
  have hrest : ((s.flushOne q).dest q).count = 0 := Nat.succ.inj ((State.flushOne_count hq (by omega)).trans hcount)
  rw [State.flushAll, State.destFlush_step hfull (by omega), hheld, hcompl]
  exact (State.destFlush_empty hrest).trans (by rw [hone])

/-! Moderation (R25, R63). -/

theorem exec_evqImodTimeout_due (hq : q < 16) (hu : (s.dest q).unsig ≠ 0) (ht : s.get Fl.EVQ_IMOD_timeout [q] ≠ 0) :
    exec (.evqImodTimeout q) s = .next (s.evqSignal q) := by
  rw [exec_evqImodTimeout, execEvqImodTimeout, if_pos ⟨hq, hu, ht⟩]

/-- The address and the data of a vector's message, from its table entry (R25). -/
def State.msixAddr (s : State) (v : Nat) : Nat :=
  (lookAt 0 s.msixTable (4 * v)).toNat + 2 ^ 32 * (lookAt 0 s.msixTable (4 * v + 1)).toNat
def State.msixData (s : State) (v : Nat) : Nat := (lookAt 0 s.msixTable (4 * v + 2)).toNat

theorem State.signal_unmasked (he : s.msixEnable = true) (hm : s.msixMask = false) (hv : (lookAt 1 s.msixTable (4 * d + 3)).toNat % 2 = 0) :
    s.signal d = s.emit (.msix d (s.msixAddr d) (s.msixData d)) := by
  have h0 : 4 * d % 4 ≠ 3 := by omega
  have h1 : (4 * d + 1) % 4 ≠ 3 := by omega
  have h2 : (4 * d + 2) % 4 ≠ 3 := by omega
  have h3 : (4 * d + 3) % 4 = 3 := by omega
  simp only [State.signal, he, hm, h0, h1, h2, h3, if_true, if_false, hv, State.msixAddr, State.msixData]
  simp

theorem State.signal_masked (he : s.msixEnable = true) (hm : s.msixMask = true ∨ (lookAt 1 s.msixTable (4 * d + 3)).toNat % 2 = 1) :
    (s.signal d).out = s.out ∧ d ∈ (s.signal d).msixPba := by
  have h3 : (4 * d + 3) % 4 = 3 := by omega
  have hmask : (s.msixMask || decide ((lookAt 1 s.msixTable (4 * d + 3)).toNat % 2 = 1)) = true := by simpa using hm
  simp only [State.signal, he, h3, if_true, hmask, not_true_eq_false, if_false]
  refine ⟨trivial, ?_⟩
  split
  case isTrue h => exact List.contains_iff_mem.mp h
  case isFalse => exact List.mem_cons_self

end

/-- Settles O14: a flush takes one record per step; a signal is the message of the vector or its pending bit. -/
theorem heldRecordsAndModeration : Obligations.HeldRecordsAndModeration := by
  refine ⟨⟨?_, ?_, ?_⟩, ?_, ?_⟩
  · intro q s hq _
    exact ⟨_, exec_heldRecordFlush_evq hq, State.destFlush_ends hq Dest.count_lt⟩
  · intro q e s hq hlen hr hh hfull hheld hlost hcompl slot back hapart
    let u : State := s.modDest q fun y => { y with held := [] }
    have hflush : s.flushAll q = (u.evqPut q (State.heldRec q e)).squallSync q := State.flushAll_alarm hq hfull hheld hlost hcompl
    have hslotEq : u.evqSlot q = slot := State.evqSlot_congr rfl
    have hbackEq : u.evqBack q = back := State.evqBack_congr rfl
    obtain ⟨hslot, -, hrest⟩ := State.evqPut_memory (s := u) (q := q) (r := State.heldRec q e) hh (by rwa [hslotEq, hbackEq])
    rw [hslotEq] at hslot
    rw [hslotEq, hbackEq] at hrest
    have hcount : (u.dest q).count = 0 := by
      rw [State.dest_modDest_same hlen]
      simp [Dest.count, hlost, hcompl]
    refine ⟨_, exec_heldRecordFlush_evq hq, ?_⟩
    rw [hflush]
    refine ⟨?_, ?_, ?_, fun a ha hb => ?_⟩
    · rw [State.squallSync_host, hslot]
    · have hstat : R.TRL_STAT.key [] = 0x80004 := rfl
      rw [State.rd_of_changedIn State.squallSync_changedIn (by simp [hstat]; omega), State.evqPut_tail (s := u) hr]
      rfl
    · exact State.destHolds_iff.mpr (State.squallSync_sameHeld.count.trans (State.evqPut_sameHeld.count.trans hcount))
    · rw [State.squallSync_host]
      exact hrest a ha hb
  · intro q s hq hlen hu ht
    refine ⟨_, exec_evqImodTimeout_due hq hu ht, ?_, ?_, ?_, fun d hd => ?_, ?_⟩
    · rw [State.dest_congr State.evqSignal_dests, State.dest_modDest_same hlen]
    · rw [State.evqSignal_raised]
    · rw [State.evqSignal_regs]
    · rw [State.dest_congr State.evqSignal_dests, State.dest_modDest_ne hd]
    · rw [State.evqSignal_frame]
  · intro q s hq hu ht he hm hv
    have hsignal := State.signal_unmasked (s := s.modDest q fun x => { x with unsig := 0 }) he hm hv
    refine ⟨_, s.msixAddr q, s.msixData q, exec_evqImodTimeout_due hq hu ht, ?_, ?_⟩ <;> rw [State.evqSignal, hsignal]
    · rfl
    · rfl
  · intro q s hq hu ht he hm
    exact ⟨_, exec_evqImodTimeout_due hq hu ht, State.signal_masked (s := s.modDest q _) he hm⟩

end Sys2Proof.Machine
namespace Sys2Proof.Machine

/-! ### Command rings (R65 to R72) -/

@[simp] theorem key_CMDQ_TAIL (r : Nat) : R.CMDQ_TAIL.key [r] = 0x3000c + r * 0x40 := rfl
@[simp] theorem key_CMDQ_HEAD (r : Nat) : R.CMDQ_HEAD.key [r] = 0x30010 + r * 0x40 := rfl
@[simp] theorem key_CMDQ_STAT (r : Nat) : R.CMDQ_STAT.key [r] = 0x30014 + r * 0x40 := rfl
@[simp] theorem key_CMDQ_WSTAT (r : Nat) : R.CMDQ_WSTAT.key [r] = 0x30020 + r * 0x40 := rfl
@[simp] theorem key_CMDQ_LEVEL (r : Nat) : R.CMDQ_LEVEL.key [r] = 0x30024 + r * 0x40 := rfl
@[simp] theorem key_CMDQ_WCNT (r : Nat) : R.CMDQ_WCNT.key [r] = 0x30028 + r * 0x40 := rfl

section

variable {s t : State} {r r' v w c n : Nat} {f : Ring → Ring}

theorem State.ring_modRing : (s.modRing r f).ring r' = if r' = r ∧ r < s.rings.length then f (s.ring r) else s.ring r' := by
  simp only [State.ring, State.modRing, modNth, List.getD_eq_getElem?_getD, List.getElem?_modify]
  by_cases hr : r = r'
  · subst hr
    by_cases hlen : r < s.rings.length <;> simp [hlen]
  · simp [hr, Ne.symm hr]

theorem State.ring_modRing_same (h : r < s.rings.length) : (s.modRing r f).ring r = f (s.ring r) := by
  rw [State.ring_modRing, if_pos ⟨rfl, h⟩]

theorem State.ring_modRing_ne (h : r' ≠ r) : (s.modRing r f).ring r' = s.ring r' := by
  rw [State.ring_modRing, if_neg fun hr => h hr.1]

theorem State.ring_congr (h : t.rings = s.rings) : t.ring r = s.ring r := congrArg (List.getD · r Ring.init) h

/-! The level of a ring. -/

/-- The words of ring `r` that follow its backlog: WSTAT, LEVEL and WCNT. -/
@[reducible] def CmdqShown (r : Nat) : Nat → Prop := Keys (0x30020 + r * 0x40) (0x3002c + r * 0x40)

theorem State.cmdqSync_changedIn : RegFile.ChangedIn (CmdqShown r) s.regs (s.cmdqSync r).regs := by
  unfold State.cmdqSync
  extract_lets was l
  exact (State.put_changedIn (by simp [Fl.CMDQ_LEVEL_backlog])).trans (State.watermark_changedIn (by simp [cmdqMark, Fl.CMDQ_WSTAT_crossed])
    (by simp [cmdqMark, Fl.CMDQ_WSTAT_level_at_cross]) (by simp [cmdqMark, Fl.CMDQ_WCNT_count]))

theorem State.cmdqSync_frame : s.cmdqSync r =
    { s with regs := (s.cmdqSync r).regs, disarmed := (s.cmdqSync r).disarmed, raised := (s.cmdqSync r).raised } := by
  unfold State.cmdqSync
  rw [State.watermark_frame]
  rfl

theorem State.cmdqSync_raised : ∃ more, (s.cmdqSync r).raised = s.raised ++ more := State.watermark_raised

/-! What a look at the cursor does: only STAT changes, and a record may be raised. -/

theorem State.cmdqWaiting_frame : s.cmdqWaiting r = { s with regs := (s.cmdqWaiting r).regs } := rfl

theorem State.cmdqWaiting_changedIn : RegFile.ChangedIn (fun k => k = R.CMDQ_STAT.key [r]) s.regs (s.cmdqWaiting r).regs :=
  State.put_changedIn rfl

theorem State.cmdqWaiting_flag (hr : rising s.regs = true) : (s.cmdqWaiting r).flag Fl.CMDQ_STAT_waiting [r] =
    (s.flag Fl.CMDQ_CTRL_enable [r] && ¬s.flag Fl.CMDQ_STAT_halted [r] && s.slot r = .waiting) :=
  State.flag_put_same hr (by decide) rfl

/-- A ring with a malformed length word at HEAD, as it halts. -/
def State.cmdqHalted (s : State) (r : Nat) : State := (s.put Fl.CMDQ_STAT_badpkt [r] 1).put Fl.CMDQ_STAT_halted [r] 1

theorem State.cmdqHalted_changedIn : RegFile.ChangedIn (fun k => k = R.CMDQ_STAT.key [r]) s.regs (s.cmdqHalted r).regs :=
  RegFile.ChangedIn.trans (State.put_changedIn rfl) (State.put_changedIn rfl)

/-- The record of a malformed length word carries the byte count of HEAD (R71). -/
theorem State.cmdqHalt_raise : ∃ e, s.cmdqHalt r w = (s.cmdqHalted r).raise e ∧ e.typ = 0x0003 ∧ e.src = srcCMDQ ∧ e.inst = r ∧
    e.payload = (w + 2 ^ 32 * s.rd R.CMDQ_HEAD [r]) % 2 ^ 64 := by
  have hhead : (s.cmdqHalted r).rd R.CMDQ_HEAD [r] = s.rd R.CMDQ_HEAD [r] := State.rd_of_changedIn State.cmdqHalted_changedIn (by simp)
  exact ⟨_, rfl, rfl, rfl, rfl, by rw [← hhead]; rfl⟩

theorem State.cmdqHalted_flags (hr : rising s.regs = true) :
    (s.cmdqHalted r).flag Fl.CMDQ_STAT_halted [r] = true ∧ (s.cmdqHalted r).flag Fl.CMDQ_STAT_badpkt [r] = true :=
  ⟨State.flag_put_same (b := true) (State.rising_put hr) (by decide) rfl,
   (State.flag_put_apart (d := Fl.CMDQ_STAT_halted) (d' := Fl.CMDQ_STAT_badpkt) (State.rising_put hr) rfl (by decide) (by decide) (by decide)
      (by decide)).trans (State.flag_put_same (b := true) hr (by decide) rfl)⟩

theorem State.cmdqLook_cases : s.cmdqLook r = s.cmdqWaiting r ∨ ∃ w, s.cmdqLook r = (s.cmdqHalt r w).cmdqWaiting r := by
  unfold State.cmdqLook
  split
  · split
    case h_1 w _ =>
      split
      · exact .inr ⟨w, rfl⟩
      · exact .inl rfl
    case h_2 => exact .inl rfl
  · exact .inl rfl

theorem State.cmdqLook_frame : s.cmdqLook r = { s with regs := (s.cmdqLook r).regs, raised := (s.cmdqLook r).raised } := by
  rcases State.cmdqLook_cases (s := s) (r := r) with h | ⟨w, h⟩ <;> rw [h]
  · rfl
  · rfl

theorem State.cmdqLook_changedIn : RegFile.ChangedIn (fun k => k = R.CMDQ_STAT.key [r]) s.regs (s.cmdqLook r).regs := by
  rcases State.cmdqLook_cases (s := s) (r := r) with h | ⟨w, h⟩ <;> rw [h]
  · exact State.cmdqWaiting_changedIn
  · refine RegFile.ChangedIn.trans ?_ State.cmdqWaiting_changedIn
    exact State.cmdqHalted_changedIn

theorem State.cmdqLook_raised : ∃ more, (s.cmdqLook r).raised = s.raised ++ more := by
  rcases State.cmdqLook_cases (s := s) (r := r) with h | ⟨w, h⟩ <;> rw [h]
  · exact ⟨[], (List.append_nil _).symm⟩
  · exact ⟨_, rfl⟩

/-- A look at a reserved slot only shows that the ring waits (R68). -/
theorem State.cmdqLook_waiting (hs : s.slot r = .waiting) : s.cmdqLook r = s.cmdqWaiting r := by
  simp only [State.cmdqLook, hs, ite_self]

/-- A look at a malformed length word at HEAD halts the ring (R71). -/
theorem State.cmdqLook_bad (he : s.flag Fl.CMDQ_CTRL_enable [r] = true) (hh : s.flag Fl.CMDQ_STAT_halted [r] = false) (hs : s.slot r = .bad w)
    (hc : (s.ring r).cursor = s.rd R.CMDQ_HEAD [r]) : s.cmdqLook r = (s.cmdqHalt r w).cmdqWaiting r := by
  rw [State.cmdqLook, if_pos (by simp [he, hh]), hs]
  exact congrArg (State.cmdqWaiting · r) (if_pos hc)

/-! The doorbell. -/

/-- Ring `r` with its doorbell taken: TAIL, and the order of its arrival (R67, R69). -/
def State.cmdqBelled (s : State) (r v : Nat) : State :=
  ({ s.wr R.CMDQ_TAIL [r] (v % 2 ^ 32) with nextId := s.nextId + 1 } : State).modRing r fun x =>
    { x with bells := x.bells ++ [(v % 2 ^ 32, s.nextId)] }

theorem State.cmdqTail_taken (h : r < 4) : s.cmdqTail r v = ((s.cmdqBelled r v).cmdqSync r).cmdqLook r := by
  rw [State.cmdqTail, if_pos h]
  rfl

/-- What follows a doorbell leaves TAIL and HEAD. -/
theorem State.cmdqSync_cmdqLook_changedIn :
    RegFile.ChangedIn (Keys (0x30014 + r * 0x40) (0x3002c + r * 0x40)) s.regs ((s.cmdqSync r).cmdqLook r).regs := by
  refine (State.cmdqSync_changedIn.mono fun k => ?_).trans (State.cmdqLook_changedIn.mono fun k => ?_)
  · simp only [keys_iff]
    omega
  · simp only [key_CMDQ_STAT, keys_iff]
    omega

theorem exec_cmdqTailDoorbell_reached (h : s.reaches .cmdq = true) : exec (.cmdqTailDoorbell r v) s = .next (s.cmdqTail r v) := by
  rw [exec_cmdqTailDoorbell, execCmdqTailDoorbell, State.onUnit_reached h]

theorem exec_cmdqPoll_served (h : r < 4) : exec (.cmdqPoll r) s = .next (s.cmdqLook r) := by
  rw [exec_cmdqPoll, execCmdqPoll, if_pos h]

end

/-- Settles O16: a doorbell is a write of TAIL; a poll looks at the length word, by the kind of slot that it finds. -/
theorem ringDoorbellAndPoll : Obligations.RingDoorbellAndPoll := by
  refine ⟨?_, ?_, ?_⟩
  · intro r v s hr hv hreach hrise
    have hregs : (s.cmdqBelled r v).regs = (s.wr R.CMDQ_TAIL [r] (v % 2 ^ 32)).regs := rfl
    have hchanged := State.cmdqSync_cmdqLook_changedIn (s := s.cmdqBelled r v) (r := r)
    refine ⟨_, exec_cmdqTailDoorbell_reached hreach, ?_⟩
    rw [State.cmdqTail_taken hr]
    refine ⟨?_, ?_, ?_, fun r' _ hne => ?_, ?_⟩
    · rw [State.rd_of_changedIn hchanged (by simp), State.rd_congr hregs, State.rd_wr_same hrise, Nat.mod_mod, Nat.mod_eq_of_lt hv]
    · rw [State.rd_of_changedIn hchanged (by simp), State.rd_congr hregs, State.rd_wr_ne (by simp)]
    · rw [State.cmdqLook_frame, State.cmdqSync_frame]
      rfl
    · rw [State.rd_of_changedIn hchanged (by simp; omega), State.rd_congr hregs, State.rd_wr_ne (by simp; omega)]
    · rw [State.cmdqLook_frame, State.cmdqSync_frame]
      rfl
  · intro r s hr hrise he hh hs
    refine ⟨_, exec_cmdqPoll_served hr, ?_⟩
    rw [State.cmdqLook_waiting hs]
    exact ⟨by rw [State.cmdqWaiting_flag hrise]; simp [he, hh, hs], State.cmdqWaiting_frame⟩
  · intro r w s hr hrise he hh hs hc
    obtain ⟨hhalted, hbadpkt⟩ := State.cmdqHalted_flags (r := r) hrise
    have hrise1 : rising (s.cmdqHalted r).regs = true := State.cmdqHalted_changedIn.rising hrise
    obtain ⟨e, hhalt, htyp, hsrc, hinst, hpayload⟩ := State.cmdqHalt_raise (s := s) (r := r) (w := w)
    refine ⟨_, e, exec_cmdqPoll_served hr, ?_⟩
    rw [State.cmdqLook_bad he hh hs hc, hhalt]
    refine ⟨?_, ?_, ?_, rfl, htyp, hsrc, hinst, hpayload, rfl⟩
    · exact (State.flag_put_apart (d := Fl.CMDQ_STAT_waiting) (d' := Fl.CMDQ_STAT_halted) hrise1 rfl (by decide) (by decide) (by decide)
        (by decide)).trans hhalted
    · exact (State.flag_put_apart (d := Fl.CMDQ_STAT_waiting) (d' := Fl.CMDQ_STAT_badpkt) hrise1 rfl (by decide) (by decide) (by decide)
        (by decide)).trans hbadpkt
    · have hraise : ((s.cmdqHalted r).raise e).flag Fl.CMDQ_STAT_halted [r] = true := hhalted
      rw [State.cmdqWaiting_flag (s := (s.cmdqHalted r).raise e) hrise1, hraise]
      simp

end Sys2Proof.Machine
namespace Sys2Proof.Machine

/-! ### Packets (R65, R68 to R71) -/

section

variable {s t : State} {r r' w c n len start st data : Nat} {f : Ring → Ring} {p : Packet}

/-! Looks at all rings come before a start. -/

/-- Firmware looks at the front of every ring. -/
def State.looked (s : State) : State := (List.range 4).foldl (fun t r => t.cmdqLook r) s

theorem State.looked_frame : s.looked = { s with regs := s.looked.regs, raised := s.looked.raised } := by
  suffices h : ∀ l : List Nat, ∀ s : State, l.foldl (fun t r => t.cmdqLook r) s =
      { s with regs := (l.foldl (fun t r => t.cmdqLook r) s).regs, raised := (l.foldl (fun t r => t.cmdqLook r) s).raised } from h _ s
  intro l
  induction l with
  | nil => exact fun _ => rfl
  | cons r l ih =>
    intro s
    rw [List.foldl_cons, ih, State.cmdqLook_frame]

/-! The cursor moves past a packet. -/

theorem State.cmdqPass_cursor (h : r < s.rings.length) : ((s.cmdqPass r len).ring r).cursor = ((s.ring r).cursor + len) % 2 ^ 32 :=
  congrArg Ring.cursor (State.ring_modRing_same h)

theorem State.cmdqPass_ring_ne (h : r' ≠ r) : (s.cmdqPass r len).ring r' = s.ring r' := State.ring_modRing_ne h

/-- No promotion is left of a request whose promotions are spent. -/
theorem State.promoted?_promoDone {arb id : Nat} : (s.promoDone arb id).promoted? arb id = none := by
  simp only [State.promoted?, State.promoDone, Option.map_eq_none_iff, List.find?_eq_none, List.mem_filter]
  rintro e ⟨_, he⟩ heq
  rw [heq] at he
  exact Bool.false_ne_true he

/-! The space of a packet goes back to the producer: its bytes are zeroed, HEAD and the level follow, the cursor stays. -/

theorem State.cmdqHeadStep_frame : s.cmdqHeadStep r n = { s with regs := (s.cmdqHeadStep r n).regs, rings := (s.cmdqHeadStep r n).rings } := by
  induction n generalizing s with
  | zero => rfl
  | succ n ih =>
    rw [State.cmdqHeadStep]
    split
    · rw [ih]
      rfl
    · rfl

theorem State.cmdqHeadStep_changedIn : RegFile.ChangedIn (fun k => k = R.CMDQ_HEAD.key [r]) s.regs (s.cmdqHeadStep r n).regs := by
  induction n generalizing s with
  | zero => exact .refl
  | succ n ih =>
    rw [State.cmdqHeadStep]
    split
    · exact RegFile.ChangedIn.trans (State.wr_changedIn (s := s.modRing r _) rfl) ih
    · exact .refl

/-- A ring that only gave space back keeps its cursor. -/
theorem State.cursor_modRing (hf : ∀ x, (f x).cursor = x.cursor) : ((s.modRing r f).ring r').cursor = (s.ring r').cursor := by
  rw [State.ring_modRing]
  split
  case isTrue h => rw [hf, h.1]
  case isFalse => rfl

theorem State.cmdqHeadStep_cursor : ((s.cmdqHeadStep r n).ring r').cursor = (s.ring r').cursor := by
  induction n generalizing s with
  | zero => rfl
  | succ n ih =>
    rw [State.cmdqHeadStep]
    split
    · rw [ih]
      exact State.cursor_modRing fun _ => rfl
    · rfl

/-- The packet's space zeroed and noted as done. -/
def State.cmdqCleared (s : State) (r start len : Nat) : State :=
  (s.hostWrite (s.ringAddr r start) (List.replicate len 0)).modRing r fun x => { x with done := (start, len) :: x.done }

theorem State.cmdqZero_eq : s.cmdqZero r start len =
    ((s.cmdqCleared r start len).cmdqHeadStep r ((s.cmdqCleared r start len).ring r).done.length).cmdqSync r := rfl

theorem State.cmdqZero_frame : s.cmdqZero r start len =
    { s with host := s.host.write (s.ringAddr r start) (List.replicate len 0), regs := (s.cmdqZero r start len).regs,
             rings := (s.cmdqZero r start len).rings, disarmed := (s.cmdqZero r start len).disarmed,
             raised := (s.cmdqZero r start len).raised } := by
  rw [State.cmdqZero_eq, State.cmdqSync_frame, State.cmdqHeadStep_frame]
  rfl

/-- The words of ring `r` from HEAD up, which follow what its packets do. -/
@[reducible] def CmdqMoved (r : Nat) : Nat → Prop := Keys (0x30010 + r * 0x40) (0x3002c + r * 0x40)

theorem State.cmdqZero_changedIn : RegFile.ChangedIn (CmdqMoved r) s.regs (s.cmdqZero r start len).regs := by
  have hclear : (s.cmdqCleared r start len).regs = s.regs := rfl
  rw [State.cmdqZero_eq, ← hclear]
  refine RegFile.ChangedIn.trans (State.cmdqHeadStep_changedIn.mono fun k => ?_) (State.cmdqSync_changedIn.mono fun k => ?_)
  · simp only [key_CMDQ_HEAD, keys_iff]
    omega
  · simp only [keys_iff]
    omega

theorem State.cmdqZero_raised : ∃ more, (s.cmdqZero r start len).raised = s.raised ++ more := by
  have hhead : ∀ n, ((s.cmdqCleared r start len).cmdqHeadStep r n).raised = s.raised := by
    intro n
    rw [State.cmdqHeadStep_frame]
    rfl
  rw [State.cmdqZero_eq, ← hhead]
  exact State.cmdqSync_raised

theorem State.cmdqZero_cursor : ((s.cmdqZero r start len).ring r').cursor = (s.ring r').cursor := by
  rw [State.cmdqZero_eq, State.cmdqSync_frame]
  exact State.cmdqHeadStep_cursor.trans (State.cursor_modRing fun _ => rfl)

theorem State.cmdqFree_cursor : ((s.cmdqFree r start len).ring r').cursor = (s.ring r').cursor := by
  rw [State.cmdqFree, State.cmdqLook_frame]
  exact State.cmdqZero_cursor

theorem State.cmdqFree_host : (s.cmdqFree r start len).host = s.host.write (s.ringAddr r start) (List.replicate len 0) := by
  rw [State.cmdqFree, State.cmdqLook_frame, State.cmdqZero_frame]

theorem State.cmdqFree_packets : (s.cmdqFree r start len).packets = s.packets := by
  rw [State.cmdqFree, State.cmdqLook_frame, State.cmdqZero_frame]

theorem State.cmdqFree_raised : ∃ more, (s.cmdqFree r start len).raised = s.raised ++ more := by
  obtain ⟨m₁, h₁⟩ := State.cmdqZero_raised (s := s) (r := r) (start := start) (len := len)
  obtain ⟨m₂, h₂⟩ := State.cmdqLook_raised (s := s.cmdqZero r start len) (r := r)
  exact ⟨m₁ ++ m₂, by rw [State.cmdqFree, h₂, h₁, List.append_assoc]⟩

/-! A packet ends with its record (R70). -/

theorem State.cmdqRecord_raise (h : st ≠ stOk ∨ bit p.route 4 = false) : ∃ e, s.cmdqRecord p st data = s.raise e ∧ e.typ = st ∧
    e.src = srcCMDQ ∧ e.inst = p.ring ∧ e.dst = p.route % 16 ∧
    e.payload = (p.tag + 2 ^ 32 * p.opcode + 2 ^ 48 * (data % 2 ^ 16)) % 2 ^ 64 := by
  have hnot : ¬(decide (st = stOk) && bit p.route 4) = true := by
    rcases h with h | h <;> simp [h]
  exact ⟨_, if_neg hnot, rfl, rfl, rfl, rfl, rfl⟩

theorem State.cmdqFinish_record (hd : p.discard = false) (h : st ≠ stOk ∨ bit p.route 4 = false) :
    ∃ e more, (s.cmdqFinish p st data).raised = s.raised ++ [e] ++ more ∧ e.typ = st ∧ e.src = srcCMDQ ∧ e.inst = p.ring ∧
      e.dst = p.route % 16 ∧ e.payload = (p.tag + 2 ^ 32 * p.opcode + 2 ^ 48 * (data % 2 ^ 16)) % 2 ^ 64 := by
  obtain ⟨e, he, hfields⟩ := State.cmdqRecord_raise (s := s) (data := data) h
  obtain ⟨more, hmore⟩ := State.cmdqFree_raised (s := s.raise e) (r := p.ring) (start := p.start) (len := p.len)
  refine ⟨e, more, ?_, hfields⟩
  rw [State.cmdqFinish, hd, if_neg Bool.false_ne_true, he, hmore]
  rfl

theorem State.cmdqRecord_packets : (s.cmdqRecord p st data).packets = s.packets := by
  unfold State.cmdqRecord
  split <;> rfl

theorem State.cmdqFinish_packets : (s.cmdqFinish p st data).packets = s.packets := by
  unfold State.cmdqFinish
  split
  · rfl
  · rw [State.cmdqFree_packets, State.cmdqRecord_packets]

/-! A packet starts (R69, R71). -/

theorem exec_cmdqPacketStart_chosen (h : State.chooseNext ((List.range 4).filterMap fun r => s.looked.runnable r) = some p) :
    exec .cmdqPacketStart s = .next (s.looked.cmdqStart p) := by
  have hmatch : execCmdqPacketStart s = match State.chooseNext ((List.range 4).filterMap fun r => s.looked.runnable r) with
    | some p => .next (s.looked.cmdqStart p)
    | none => .next s.looked := rfl
  rw [exec_cmdqPacketStart, hmatch, h]

theorem State.cardBusy_frame {o : Nat} : s.cardBusy o = { s with regs := (s.cardBusy o).regs } := by
  unfold State.cardBusy
  split <;> rfl

/-- The state as a packet starts: the cursor of its ring is past it. -/
def State.cmdqPassed (s : State) (p : Packet) : State := ({ s with nextId := s.nextId + 1 } : State).cmdqPass p.ring p.len

theorem State.cmdqStart_runs (hres : State.packetReserved p = false) (hop : knownOpcode p.opcode = true) :
    s.cmdqStart p = { s.cmdqPassed p with packets := s.packets ++ [p], regs := (s.cmdqStart p).regs, raised := (s.cmdqStart p).raised } := by
  simp only [State.cmdqStart, hres, hop, not_true_eq_false, if_false, Bool.false_eq_true]
  rw [State.cmdqLook_frame, State.cardBusy_frame]
  rfl

/-- A packet that cannot run ends at once (R71). -/
theorem State.cmdqStart_ends (hbad : State.packetReserved p = true ∨ knownOpcode p.opcode = false) : ∃ u : State,
    u.raised = s.raised ∧ u.packets = s.packets ∧
      s.cmdqStart p = (u.cmdqFinish p (if State.packetReserved p = true then stBadArg else stBadOp) 0).cmdqLook p.ring := by
  by_cases hres : State.packetReserved p = true
  · refine ⟨s.cmdqPassed p, rfl, rfl, ?_⟩
    rw [State.cmdqStart, if_pos hres, if_pos hres]
    rfl
  · refine ⟨(s.cmdqPassed p).inc Fl.CMDQ_EXEC_count [p.ring], rfl, rfl, ?_⟩
    rw [State.cmdqStart, if_neg hres, if_neg hres, if_pos (by simp [hbad.resolve_left hres])]
    rfl

end

/-- Settles O17: each clause follows what the state operations of a packet leave of the state: its ring, its record, its space. -/
theorem packetStartRunEnd : Obligations.PacketStartRunEnd := by
  refine ⟨⟨?_, ?_, ?_, ?_, ?_⟩, ?_⟩
  · intro p s u hchoose hres hop hlen hring
    have hrings : s.looked.rings = s.rings := by rw [State.looked_frame]
    have hpackets : s.looked.packets = s.packets := by rw [State.looked_frame]
    refine ⟨_, exec_cmdqPacketStart_chosen hchoose, ?_⟩
    rw [State.cmdqStart_runs hres hop]
    refine ⟨by rw [hpackets], ?_, State.promoted?_promoDone, fun r hne => ?_⟩
    · have hcursor := State.cmdqPass_cursor (s := { s.looked with nextId := s.looked.nextId + 1 }) (r := p.ring) (len := p.len)
        (by simp [hrings, hlen, hring])
      exact hcursor.trans (congrArg (fun x : Ring => (x.cursor + p.len) % 2 ^ 32) (State.ring_congr hrings))
    · exact (State.cmdqPass_ring_ne (s := { s.looked with nextId := s.looked.nextId + 1 }) hne).trans (State.ring_congr hrings)
  · intro p s u hchoose hd hbad
    obtain ⟨v, hraised, hpackets, hstart⟩ := State.cmdqStart_ends (s := s.looked) hbad
    have hst : (if State.packetReserved p = true then stBadArg else stBadOp) ≠ stOk := by
      split <;> decide
    obtain ⟨e, m₁, hrec, htyp, -, hinst, hdst, -⟩ := State.cmdqFinish_record (s := v) (data := 0) hd (.inl hst)
    obtain ⟨m₂, hlook⟩ := State.cmdqLook_raised (s := v.cmdqFinish p (if State.packetReserved p = true then stBadArg else stBadOp) 0) (r := p.ring)
    refine ⟨_, e, m₁ ++ m₂, exec_cmdqPacketStart_chosen hchoose, ?_, ?_, htyp, hinst, hdst⟩ <;> rw [hstart]
    · rw [State.cmdqLook_frame, State.cmdqFinish_packets, hpackets, State.looked_frame]
    · rw [hlook, hrec, hraised, ← List.append_assoc]
      rfl
  · intro id p s hstarted
    exact ⟨_, by rw [exec_echo, execEcho, hstarted], rfl, rfl⟩
  · intro id st data p rest s htake hresult hd hrec
    obtain ⟨e, more, hraised, hfields⟩ := State.cmdqFinish_record (s := { s with packets := rest }) (data := data) hd hrec
    refine ⟨({ s with packets := rest } : State).cmdqFinish p st data, e, more, ?_, State.cmdqFinish_packets, hraised, hfields⟩
    rw [exec_cmdqPacketComplete, execCmdqPacketComplete, htake]
    dsimp only
    rw [hresult]
    rfl
  · intro id p rest s htake hd
    rw [exec_cmdqPacketComplete, execCmdqPacketComplete, htake]
    simp only [State.cmdqFinish, hd, if_true]
  · intro r len s hr hh hlen hserved hslot hop hfence
    have hhost : ((s.cmdqPass r len).cmdqFree r (s.ring r).cursor len).host =
        s.host.write (s.ringAddr r (s.ring r).cursor) (List.replicate len 0) := State.cmdqFree_host
    refine ⟨(s.cmdqPass r len).cmdqFree r (s.ring r).cursor len, ?_, ?_, fun a hlo hhi => ?_, fun a ha => ?_⟩
    · rw [exec_nop, execNop, if_pos ⟨hr, hserved⟩, hslot]
      exact if_pos ⟨hop, by simp [hfence]⟩
    · rw [State.cmdqFree_cursor, State.cmdqPass_cursor (hlen ▸ hr)]
    · obtain ⟨i, rfl⟩ := Nat.exists_eq_add_of_le hlo
      have hi : i < (List.replicate len (0 : BitVec 8)).length := by
        rw [List.length_replicate]
        omega
      rw [hhost, Mem.get_write_at hh hi, List.getElem_replicate]
    · rw [hhost]
      exact Mem.get_write_out (by simpa using ha)

end Sys2Proof.Machine
namespace Sys2Proof.Machine

/-! ### Flushes of a ring (R72) -/

section

variable {s t : State} {r w c n len start : Nat}

/-- Nothing stands at a cursor exactly where TAIL has been reached. -/
theorem State.slot_eq_empty_iff :
    s.slot r = .empty ↔ (s.rd R.CMDQ_TAIL [r] + 2 ^ 32 - (s.ring r).cursor % 2 ^ 32) % 2 ^ 32 = 0 := by
  unfold State.slot State.slotAt
  extract_lets avail w
  split
  case isTrue h => exact iff_of_true rfl h
  case isFalse h =>
    refine iff_of_false ?_ h
    split
    · exact Slot.noConfusion
    · split
      · exact Slot.noConfusion
      · split <;> exact Slot.noConfusion

theorem State.cmdqLook_empty (hs : s.slot r = .empty) : s.cmdqLook r = s.cmdqWaiting r := by
  simp only [State.cmdqLook, hs, ite_self]

/-! One step of a flush. -/

theorem State.flushZero_frame : s.flushZero r n = { s with host := (s.flushZero r n).host } := by
  unfold State.flushZero
  generalize (s.ring r).cursor = c
  generalize List.range (min n (s.ringSize r)) = l
  induction l generalizing s with
  | nil => rfl
  | cons i l ih =>
    rw [List.foldl_cons, ih]
    rfl

/-- The cursor and HEAD of a ring moved to a count, with nothing left between. -/
def State.ringTo (s : State) (r x : Nat) : State := (s.modRing r fun y => { y with cursor := x, done := [], bells := [] }).wr R.CMDQ_HEAD [r] x

theorem State.ringTo_frame {x : Nat} : s.ringTo r x = { s with regs := (s.ringTo r x).regs, rings := (s.ringTo r x).rings } := rfl

theorem State.ringTo_changedIn {x : Nat} : RegFile.ChangedIn (CmdqMoved r) s.regs (s.ringTo r x).regs := by
  have hring : (s.modRing r fun y => { y with cursor := x, done := [], bells := [] }).regs = s.regs := rfl
  rw [State.ringTo, ← hring]
  exact State.wr_changedIn (by simp)

theorem State.flushRest_eq : ∃ n x, s.flushRest r = (s.flushZero r n).ringTo r x := ⟨_, _, rfl⟩

theorem State.flushRest_frame : s.flushRest r =
    { s with host := (s.flushRest r).host, regs := (s.flushRest r).regs, rings := (s.flushRest r).rings } := by
  obtain ⟨n, x, h⟩ := State.flushRest_eq (s := s) (r := r)
  rw [h, State.ringTo_frame, State.flushZero_frame]

theorem State.flushRest_changedIn : RegFile.ChangedIn (CmdqMoved r) s.regs (s.flushRest r).regs := by
  obtain ⟨n, x, h⟩ := State.flushRest_eq (s := s) (r := r)
  have hzero : (s.flushZero r n).regs = s.regs := by rw [State.flushZero_frame]
  rw [h, ← hzero]
  exact State.ringTo_changedIn

/-- A packet that is flushed has gone past the cursor, with its record if it is no NOP; its space is yet to be zeroed. -/
def State.flushRecorded (s : State) (r len : Nat) : State :=
  if (s.packetAt r len).opcode = 0 then s.cmdqPass r len else (s.cmdqPass r len).cmdqRecord (s.packetAt r len) stFlushed 0

theorem State.flushPacket_eq : s.flushPacket r len = (s.flushRecorded r len).cmdqZero r (s.ring r).cursor len := rfl

theorem State.flushRecorded_cases : s.flushRecorded r len = s.cmdqPass r len ∨ ∃ e, s.flushRecorded r len = (s.cmdqPass r len).raise e := by
  obtain ⟨e, he, -⟩ := State.cmdqRecord_raise (s := s.cmdqPass r len) (p := s.packetAt r len) (data := 0)
    (.inl (by decide : stFlushed ≠ stOk))
  rw [State.flushRecorded]
  split
  · exact .inl rfl
  · exact .inr ⟨e, he⟩

theorem State.flushPacket_packets : (s.flushPacket r len).packets = s.packets := by
  rw [State.flushPacket_eq, State.cmdqZero_frame]
  rcases State.flushRecorded_cases (s := s) (r := r) (len := len) with h | ⟨e, h⟩ <;> rw [h] <;> rfl

theorem State.flushPacket_changedIn : RegFile.ChangedIn (CmdqMoved r) s.regs (s.flushPacket r len).regs := by
  have hregs : (s.flushRecorded r len).regs = s.regs := by
    rcases State.flushRecorded_cases (s := s) (r := r) (len := len) with h | ⟨e, h⟩ <;> rw [h] <;> rfl
  rw [State.flushPacket_eq, ← hregs]
  exact State.cmdqZero_changedIn

theorem State.flushPacket_raised : ∃ more, (s.flushPacket r len).raised = s.raised ++ more := by
  obtain ⟨m₂, h₂⟩ := State.cmdqZero_raised (s := s.flushRecorded r len) (r := r) (start := (s.ring r).cursor) (len := len)
  rcases State.flushRecorded_cases (s := s) (r := r) (len := len) with h | ⟨e, h⟩
  · exact ⟨m₂, by rw [State.flushPacket_eq, h₂, h]; rfl⟩
  · exact ⟨[e] ++ m₂, by rw [State.flushPacket_eq, h₂, h, ← List.append_assoc]; rfl⟩

/-- A packet that is no NOP leaves with its record (R72). -/
theorem State.flushPacket_record (hop : (s.packetAt r len).opcode ≠ 0) : ∃ e more, (s.flushPacket r len).raised = s.raised ++ [e] ++ more ∧
    e.typ = stFlushed ∧ e.inst = r ∧ e.dst = (s.packetAt r len).route % 16 := by
  obtain ⟨e, he, htyp, -, hinst, hdst, -⟩ := State.cmdqRecord_raise (s := s.cmdqPass r len) (p := s.packetAt r len) (data := 0)
    (.inl (by decide : stFlushed ≠ stOk))
  have hrec : s.flushRecorded r len = (s.cmdqPass r len).raise e := by rw [State.flushRecorded, if_neg hop, he]
  obtain ⟨more, hmore⟩ := State.cmdqZero_raised (s := s.flushRecorded r len) (r := r) (start := (s.ring r).cursor) (len := len)
  refine ⟨e, more, ?_, htyp, hinst, hdst⟩
  rw [State.flushPacket_eq, hmore, hrec]
  rfl

theorem State.flushStep_empty (h : s.slot r = .empty) : s.flushStep r = s := by
  rw [State.flushStep, h, State.flushAt]

theorem State.flushStep_packet (h : s.slot r = .packet len) : s.flushStep r = s.flushPacket r len := by
  rw [State.flushStep, h, State.flushAt]

theorem State.flushStep_cases : s.flushStep r = s ∨ (∃ len, s.flushStep r = s.flushPacket r len) ∨ s.flushStep r = s.flushRest r := by
  unfold State.flushStep
  cases s.slot r with
  | empty => exact .inl rfl
  | packet len => exact .inr (.inl ⟨len, rfl⟩)
  | waiting => exact .inr (.inr rfl)
  | bad w => exact .inr (.inr rfl)

theorem State.flushStep_packets : (s.flushStep r).packets = s.packets := by
  rcases State.flushStep_cases (s := s) (r := r) with h | ⟨len, h⟩ | h <;> rw [h]
  · exact State.flushPacket_packets
  · rw [State.flushRest_frame]

theorem State.flushStep_changedIn : RegFile.ChangedIn (CmdqMoved r) s.regs (s.flushStep r).regs := by
  rcases State.flushStep_cases (s := s) (r := r) with h | ⟨len, h⟩ | h <;> rw [h]
  · exact .refl
  · exact State.flushPacket_changedIn
  · exact State.flushRest_changedIn

theorem State.flushStep_raised : ∃ more, (s.flushStep r).raised = s.raised ++ more := by
  rcases State.flushStep_cases (s := s) (r := r) with h | ⟨len, h⟩ | h <;> rw [h]
  · exact ⟨[], (List.append_nil _).symm⟩
  · exact State.flushPacket_raised
  · exact ⟨[], by rw [State.flushRest_frame, List.append_nil]⟩

/-! All steps of a flush. -/

theorem State.flushFrom_succ : s.flushFrom r (n + 1) = (s.flushStep r).flushFrom r n := by
  simp only [State.flushFrom, List.range_succ_eq_map, List.foldl_cons, List.foldl_map]

theorem State.flushFrom_empty (h : s.slot r = .empty) : s.flushFrom r n = s := by
  induction n with
  | zero => rfl
  | succ n ih => rw [State.flushFrom_succ, State.flushStep_empty h, ih]

theorem State.flushFrom_packets : (s.flushFrom r n).packets = s.packets := by
  induction n generalizing s with
  | zero => rfl
  | succ n ih => rw [State.flushFrom_succ, ih, State.flushStep_packets]

theorem State.flushFrom_changedIn : RegFile.ChangedIn (CmdqMoved r) s.regs (s.flushFrom r n).regs := by
  induction n generalizing s with
  | zero => exact .refl
  | succ n ih =>
    rw [State.flushFrom_succ]
    exact State.flushStep_changedIn.trans ih

theorem State.flushFrom_raised : ∃ more, (s.flushFrom r n).raised = s.raised ++ more := by
  induction n generalizing s with
  | zero => exact ⟨[], (List.append_nil _).symm⟩
  | succ n ih =>
    obtain ⟨m₁, h₁⟩ := State.flushStep_raised (s := s) (r := r)
    obtain ⟨m₂, h₂⟩ := ih (s := s.flushStep r)
    exact ⟨m₁ ++ m₂, by rw [State.flushFrom_succ, h₂, h₁, List.append_assoc]⟩

/-! The end of a flush: the ring is served again. -/

/-- A ring whose flush has ended. -/
def State.flushed (s : State) (r : Nat) : State := (s.put Fl.CMDQ_STAT_halted [r] 0).put Fl.CMDQ_CTRL_flush [r] 0

theorem State.flushed_frame : s.flushed r = { s with regs := (s.flushed r).regs } := rfl

theorem State.flushed_flags (hr : rising s.regs = true) :
    (s.flushed r).flag Fl.CMDQ_STAT_halted [r] = false ∧ (s.flushed r).flag Fl.CMDQ_CTRL_flush [r] = false := by
  have hkey : Fl.CMDQ_CTRL_flush.reg.key [r] ≠ Fl.CMDQ_STAT_halted.reg.key [r] := by simp [Fl.CMDQ_CTRL_flush, Fl.CMDQ_STAT_halted]
  have hhalted : (s.put Fl.CMDQ_STAT_halted [r] 0).flag Fl.CMDQ_STAT_halted [r] = false := State.flag_put_same (b := false) hr (by decide) rfl
  refine ⟨?_, State.flag_put_same (b := false) (State.rising_put hr) (by decide) rfl⟩
  rw [← hhalted, State.flushed]
  simp only [State.flag, State.get_put_ne hkey]

theorem State.flushed_slot_empty (h : s.slot r = .empty) : ((s.flushed r).cmdqSync r).slot r = .empty := by
  rw [State.slot_eq_empty_iff] at h ⊢
  have htail : ((s.flushed r).cmdqSync r).rd R.CMDQ_TAIL [r] = s.rd R.CMDQ_TAIL [r] := by
    rw [State.rd_of_changedIn State.cmdqSync_changedIn (by simp), State.flushed, State.rd_put_ne (by simp [Fl.CMDQ_CTRL_flush]),
      State.rd_put_ne (by simp [Fl.CMDQ_STAT_halted])]
  have hring : ((s.flushed r).cmdqSync r).ring r = s.ring r := State.ring_congr (by rw [State.cmdqSync_frame]; rfl)
  rw [htail, hring, h]

/-- A flush that has been asked for, at the packet boundary (R72). -/
theorem exec_cmdqFlush_boundary (hr : r < 4) (hf : s.flag Fl.CMDQ_CTRL_flush [r] = true) (hp : ∀ p ∈ s.packets, p.ring = r → p.discard = true) :
    exec (.cmdqFlush r) s = .next ((((s.flushFrom r (s.ringSize r / 8 + 1)).flushed r).cmdqSync r).cmdqLook r) := by
  have hidle : ¬(s.packets.any fun p => decide (p.ring = r) && decide ¬p.discard = true) = true := by
    simpa using hp
  rw [exec_cmdqFlush, execCmdqFlush, if_pos ⟨hr, hf, hidle⟩]
  rfl

theorem State.flush_packets : ((((s.flushFrom r n).flushed r).cmdqSync r).cmdqLook r).packets = s.packets := by
  rw [State.cmdqLook_frame, State.cmdqSync_frame, State.flushed_frame]
  exact State.flushFrom_packets

theorem State.flush_raised : ∃ more, ((((s.flushFrom r n).flushed r).cmdqSync r).cmdqLook r).raised = (s.flushFrom r n).raised ++ more := by
  obtain ⟨m₁, h₁⟩ := State.cmdqSync_raised (s := (s.flushFrom r n).flushed r) (r := r)
  obtain ⟨m₂, h₂⟩ := State.cmdqLook_raised (s := ((s.flushFrom r n).flushed r).cmdqSync r) (r := r)
  exact ⟨m₁ ++ m₂, by rw [h₂, h₁, List.append_assoc]; rfl⟩

end

end Sys2Proof.Machine
namespace Sys2Proof.Machine

/-! ### The reset of the host function (R73, R74) -/

@[simp] theorem key_ZST_CTRL (e : Nat) : R.ZST_CTRL.key [e] = 0x1400008 + e * 0x100 := by simp [Reg.key, instOffset, R.ZST_CTRL]
@[simp] theorem key_ZST_TAIL (e : Nat) : R.ZST_TAIL.key [e] = 0x140000c + e * 0x100 := by simp [Reg.key, instOffset, R.ZST_TAIL]
@[simp] theorem key_ZST_HEAD (e : Nat) : R.ZST_HEAD.key [e] = 0x1400010 + e * 0x100 := by simp [Reg.key, instOffset, R.ZST_HEAD]
@[simp] theorem key_TIME_PT_RX_CTRL (p : Nat) : R.TIME_PT_RX_CTRL.key [p] = 0xf01048 + p * 0x200 := by simp [Reg.key, instOffset, R.TIME_PT_RX_CTRL]
@[simp] theorem key_TIME_PT_RX_HEAD (p : Nat) : R.TIME_PT_RX_HEAD.key [p] = 0xf0104c + p * 0x200 := by simp [Reg.key, instOffset, R.TIME_PT_RX_HEAD]
@[simp] theorem key_TIME_PT_RX_TAIL (p : Nat) : R.TIME_PT_RX_TAIL.key [p] = 0xf01050 + p * 0x200 := by simp [Reg.key, instOffset, R.TIME_PT_RX_TAIL]

/-! Folds over units: what every step leaves, and what the step of a unit settles for it. -/

/-- What no step of a fold changes, the fold leaves. -/
theorem State.foldl_kept {α β : Type} {g : State → β} {f : State → α → State} (h : ∀ t x, g (f t x) = g t) (l : List α) (s : State) :
    g (l.foldl f s) = g s := by
  induction l generalizing s with
  | nil => rfl
  | cons x l ih => rw [List.foldl_cons, ih, h]

/-- What the step of a unit settles, and the steps of the others leave, holds of every unit after the fold. -/
theorem State.foldl_settles {P : Nat → State → Prop} {f : State → Nat → State} {l : List Nat} {s : State}
    (hrise : ∀ t x, rising t.regs = true → rising (f t x).regs = true) (hset : ∀ t x, rising t.regs = true → P x (f t x))
    (hkeep : ∀ t x y, x ≠ y → P y t → P y (f t x)) (hs : rising s.regs = true) : ∀ x ∈ l, P x (l.foldl f s) := by
  induction l generalizing s with
  | nil => exact fun x hx => absurd hx List.not_mem_nil
  | cons a l ih =>
    intro x hx
    by_cases hl : x ∈ l
    · exact ih (hrise s a hs) x hl
    · obtain rfl : x = a := (List.mem_cons.mp hx).resolve_right hl
      exact List.foldlRecOn l f (motive := P x) (hset s x hs) fun t ht y hy => hkeep t y x (fun h => hl (h ▸ hy)) ht

section

variable {s t : State} {q r e p n o : Nat} {kind : HostResetKind} {K : Nat → Prop}

/-- What the reset takes from the host side at once, and no later step of it brings back. -/
def State.hostSide (s : State) : RegFile × List Nat × Bool × List (Nat × Nat) × List Packet :=
  (s.msixTable, s.msixPba, s.msixEnable, s.heldReads, s.packets)

/-! Event queues. -/

def State.evqOff (s : State) (q : Nat) : State := (s.put Fl.EVQ_CTRL_enable [q] 0).evqZero q

/-- The registers of event queue `q`. -/
@[reducible] def EvqKeys (q : Nat) : Nat → Prop := Keys (0x20000 + q * 0x40) (0x20040 + q * 0x40)

/-- Queue `q` is disabled, with HEAD and TAIL at 0. -/
structure State.EvqAtRest (q : Nat) (s : State) : Prop where
  enable : s.flag Fl.EVQ_CTRL_enable [q] = false
  head : s.rd R.EVQ_HEAD [q] = 0
  tail : s.rd R.EVQ_TAIL [q] = 0

theorem State.EvqAtRest.of_changedIn (h : RegFile.ChangedIn K s.regs t.regs) (hK : ∀ k, EvqKeys q k → ¬K k) (hs : s.EvqAtRest q) :
    t.EvqAtRest q where
  enable := (State.flag_of_changedIn h (d := Fl.EVQ_CTRL_enable) (hK _ (by simp [Fl.EVQ_CTRL_enable]))).trans hs.enable
  head := (State.rd_of_changedIn h (hK _ (by simp))).trans hs.head
  tail := (State.rd_of_changedIn h (hK _ (by simp))).trans hs.tail

theorem State.evqZero_changedIn : RegFile.ChangedIn (Keys (0x20018 + q * 0x40) (0x20030 + q * 0x40)) s.regs (s.evqZero q).regs := by
  have hregs : (s.evqEmptied q).regs = ((s.wr R.EVQ_HEAD [q] 0).wr R.EVQ_TAIL [q] 0).regs := rfl
  have hempty : RegFile.ChangedIn (Keys (0x20018 + q * 0x40) (0x20030 + q * 0x40)) s.regs (s.evqEmptied q).regs :=
    hregs ▸ RegFile.ChangedIn.trans (State.wr_changedIn (by simp)) (State.wr_changedIn (by simp))
  refine hempty.trans (State.evqSync_changedIn.mono fun k => ?_)
  simp only [keys_iff]
  omega

theorem State.evqOff_changedIn : RegFile.ChangedIn (EvqKeys q) s.regs (s.evqOff q).regs := by
  refine RegFile.ChangedIn.trans (State.put_changedIn (s := s) (by simp [Fl.EVQ_CTRL_enable])) (State.evqZero_changedIn.mono fun k => ?_)
  simp only [keys_iff]
  omega

theorem State.evqOff_atRest (hr : rising s.regs = true) : (s.evqOff q).EvqAtRest q := by
  obtain ⟨hhead, htail, -⟩ := State.evqZero_rd (s := s.put Fl.EVQ_CTRL_enable [q] 0) (q := q) (State.rising_put hr)
  refine ⟨?_, hhead, htail⟩
  rw [State.evqOff, State.flag_of_changedIn State.evqZero_changedIn (d := Fl.EVQ_CTRL_enable) (by simp [Fl.EVQ_CTRL_enable])]
  exact State.flag_put_same (b := false) hr (by decide) rfl

/-! Command rings. -/

def State.cmdqDisabled (s : State) (r : Nat) : State :=
  ((s.put Fl.CMDQ_CTRL_enable [r] 0).put Fl.CMDQ_CTRL_flush [r] 0).wr R.CMDQ_STAT [r] 0

def State.cmdqEmptied (s : State) (r : Nat) : State :=
  (((s.wr R.CMDQ_HEAD [r] 0).wr R.CMDQ_TAIL [r] 0).modRing r fun _ => Ring.init).promoDone 3 r

def State.cmdqOff (s : State) (r : Nat) : State := ((s.cmdqDisabled r).cmdqEmptied r).cmdqSync r

/-- The registers of ring `r`. -/
@[reducible] def CmdqKeys (r : Nat) : Nat → Prop := Keys (0x30000 + r * 0x40) (0x30040 + r * 0x40)

/-- Ring `r` is disabled, with HEAD and TAIL at 0. -/
structure State.CmdqAtRest (r : Nat) (s : State) : Prop where
  enable : s.flag Fl.CMDQ_CTRL_enable [r] = false
  head : s.rd R.CMDQ_HEAD [r] = 0
  tail : s.rd R.CMDQ_TAIL [r] = 0

theorem State.CmdqAtRest.of_changedIn (h : RegFile.ChangedIn K s.regs t.regs) (hK : ∀ k, CmdqKeys r k → ¬K k) (hs : s.CmdqAtRest r) :
    t.CmdqAtRest r where
  enable := (State.flag_of_changedIn h (d := Fl.CMDQ_CTRL_enable) (hK _ (by simp [Fl.CMDQ_CTRL_enable]))).trans hs.enable
  head := (State.rd_of_changedIn h (hK _ (by simp))).trans hs.head
  tail := (State.rd_of_changedIn h (hK _ (by simp))).trans hs.tail

theorem State.cmdqDisabled_changedIn : RegFile.ChangedIn (CmdqKeys r) s.regs (s.cmdqDisabled r).regs := by
  unfold State.cmdqDisabled
  exact RegFile.ChangedIn.trans (State.put_changedIn (by simp [Fl.CMDQ_CTRL_enable]))
    (RegFile.ChangedIn.trans (State.put_changedIn (by simp [Fl.CMDQ_CTRL_flush])) (State.wr_changedIn (by simp)))

theorem State.cmdqEmptied_changedIn : RegFile.ChangedIn (Keys (0x3000c + r * 0x40) (0x30014 + r * 0x40)) s.regs (s.cmdqEmptied r).regs := by
  have hregs : (s.cmdqEmptied r).regs = ((s.wr R.CMDQ_HEAD [r] 0).wr R.CMDQ_TAIL [r] 0).regs := rfl
  rw [hregs]
  exact RegFile.ChangedIn.trans (State.wr_changedIn (by simp)) (State.wr_changedIn (by simp))

theorem State.cmdqOff_changedIn : RegFile.ChangedIn (CmdqKeys r) s.regs (s.cmdqOff r).regs := by
  refine State.cmdqDisabled_changedIn.trans ((State.cmdqEmptied_changedIn.mono fun k => ?_).trans (State.cmdqSync_changedIn.mono fun k => ?_)) <;>
    · simp only [keys_iff]
      omega

theorem State.cmdqOff_atRest (hr : rising s.regs = true) : (s.cmdqOff r).CmdqAtRest r := by
  have hd : rising (s.cmdqDisabled r).regs = true := State.cmdqDisabled_changedIn.rising hr
  have hregs : ((s.cmdqDisabled r).cmdqEmptied r).regs = (((s.cmdqDisabled r).wr R.CMDQ_HEAD [r] 0).wr R.CMDQ_TAIL [r] 0).regs := rfl
  refine ⟨?_, ?_, ?_⟩ <;> rw [State.cmdqOff]
  · rw [State.flag_of_changedIn State.cmdqSync_changedIn (d := Fl.CMDQ_CTRL_enable) (by simp [Fl.CMDQ_CTRL_enable]),
      State.flag_of_changedIn State.cmdqEmptied_changedIn (d := Fl.CMDQ_CTRL_enable) (by simp [Fl.CMDQ_CTRL_enable])]
    have hstat : (s.cmdqDisabled r).flag Fl.CMDQ_CTRL_enable [r] =
        ((s.put Fl.CMDQ_CTRL_enable [r] 0).put Fl.CMDQ_CTRL_flush [r] 0).flag Fl.CMDQ_CTRL_enable [r] :=
      State.flag_of_changedIn (K := fun k => k = R.CMDQ_STAT.key [r]) (State.wr_changedIn rfl) (by simp [Fl.CMDQ_CTRL_enable])
    rw [hstat, State.flag_put_apart (d := Fl.CMDQ_CTRL_flush) (d' := Fl.CMDQ_CTRL_enable) (State.rising_put hr) rfl (by decide) (by decide)
      (by decide) (by decide)]
    exact State.flag_put_same (b := false) hr (by decide) rfl
  · rw [State.rd_of_changedIn State.cmdqSync_changedIn (by simp), State.rd_congr hregs, State.rd_wr_ne (by simp), State.rd_wr_same hd]
    rfl
  · rw [State.rd_of_changedIn State.cmdqSync_changedIn (by simp), State.rd_congr hregs, State.rd_wr_same (State.rising_wr hd)]
    rfl

/-! All rings. -/

def State.evqsOff (s : State) : State := (List.range 16).foldl State.evqOff s
def State.cmdqsOff (s : State) : State := (List.range 4).foldl State.cmdqOff s

theorem State.ringsOff_eq : s.ringsOff = s.evqsOff.cmdqsOff := rfl

theorem State.evqsOff_changedIn : RegFile.ChangedIn (Keys 0x20000 0x20400) s.regs s.evqsOff.regs := by
  refine .foldl fun q hq t => State.evqOff_changedIn.mono fun k => ?_
  have hlt : q < 16 := List.mem_range.mp hq
  simp only [keys_iff]
  omega

theorem State.cmdqsOff_changedIn : RegFile.ChangedIn (Keys 0x30000 0x30100) s.regs s.cmdqsOff.regs := by
  refine .foldl fun r hr t => State.cmdqOff_changedIn.mono fun k => ?_
  have hlt : r < 4 := List.mem_range.mp hr
  simp only [keys_iff]
  omega

theorem State.ringsOff_changedIn : RegFile.ChangedIn (Keys 0x20000 0x30100) s.regs s.ringsOff.regs := by
  refine (State.evqsOff_changedIn.mono fun k => ?_).trans (State.cmdqsOff_changedIn.mono fun k => ?_) <;>
    · simp only [keys_iff]
      omega

theorem State.ringsOff_evqAtRest (hr : rising s.regs = true) (hq : q < 16) : s.ringsOff.EvqAtRest q := by
  have hevqs : s.evqsOff.EvqAtRest q := by
    refine State.foldl_settles (P := State.EvqAtRest) (f := State.evqOff) (fun t x ht => State.evqOff_changedIn.rising ht)
      (fun t x ht => State.evqOff_atRest ht) (fun t x y hne ht => ?_) hr q (List.mem_range.mpr hq)
    refine ht.of_changedIn State.evqOff_changedIn fun k => ?_
    simp only [keys_iff]
    omega
  refine hevqs.of_changedIn State.cmdqsOff_changedIn fun k => ?_
  simp only [keys_iff]
  omega

theorem State.ringsOff_cmdqAtRest (hr : rising s.regs = true) (hlt : r < 4) : s.ringsOff.CmdqAtRest r := by
  refine State.foldl_settles (P := State.CmdqAtRest) (f := State.cmdqOff) (fun t x ht => State.cmdqOff_changedIn.rising ht)
    (fun t x ht => State.cmdqOff_atRest ht) (fun t x y hne ht => ?_) (State.evqsOff_changedIn.rising hr) r (List.mem_range.mpr hlt)
  refine ht.of_changedIn State.cmdqOff_changedIn fun k => ?_
  simp only [keys_iff]
  omega

theorem State.ringsOff_hostSide : s.ringsOff.hostSide = s.hostSide := by
  have hevq : ∀ (t : State) (q : Nat), (t.evqOff q).hostSide = t.hostSide := by
    intro t q
    rw [State.evqOff, State.evqZero_frame]
    rfl
  have hcmdq : ∀ (t : State) (r : Nat), (t.cmdqOff r).hostSide = t.hostSide := by
    intro t r
    rw [State.cmdqOff, State.cmdqSync_frame]
    rfl
  rw [State.ringsOff_eq, State.cmdqsOff, State.evqsOff, State.foldl_kept hcmdq, State.foldl_kept hevq]

end

end Sys2Proof.Machine
namespace Sys2Proof.Machine

section

variable {s t : State} {q r e p n o : Nat} {kind : HostResetKind} {K : Nat → Prop}

/-! Semaphores of an owner that is reset (R40, R43). -/

theorem State.ownerReset_changedIn : RegFile.ChangedIn (Keys 0x10100 0x10300) s.regs (s.ownerReset o).regs := by
  unfold State.ownerReset
  refine RegFile.ChangedIn.foldl (step := fun t n => t.semOrphan n o) fun n hn t => State.semOrphan_changedIn.mono fun k => ?_
  have hlt : n < 64 := List.mem_range.mp hn
  simp only [SemKeys, key_ORD_SEM_ACQ, key_ORD_SEM_CTL, keys_iff]
  omega

theorem State.semOwner_ownerReset (hr : rising s.regs = true) (hn : n < 64) :
    (s.ownerReset o).semOwner n = if s.semOwner n = o then 0 else s.semOwner n := by
  suffices h : ∀ (l : List Nat) (s : State), rising s.regs = true → (l.foldl (fun t n => t.semOrphan n o) s).semOwner n =
      if n ∈ l ∧ s.semOwner n = o then 0 else s.semOwner n by
    rw [State.ownerReset, h _ _ hr]
    simp [hn]
  intro l
  induction l with
  | nil => exact fun s _ => (if_neg (by simp)).symm
  | cons m l ih =>
    intro s hr
    rw [List.foldl_cons, ih _ (State.semOrphan_changedIn.rising hr)]
    by_cases hm : m = n
    · subst hm
      rw [State.semOwner_semOrphan hr]
      simp only [List.mem_cons_self, true_and]
      split <;> simp [*]
    · rw [State.semOwner_of_changedIn State.semOrphan_changedIn (Ne.symm hm)]
      simp [Ne.symm hm]

theorem State.ownerReset_hostSide : (s.ownerReset o).hostSide = s.hostSide := by
  refine State.foldl_kept (f := fun t n => t.semOrphan n o) (fun t n => ?_) _ _
  rw [State.semOrphan_frame]
  rfl

/-- Every record that waits is no completion of a packet. -/
def State.NoneDone (s : State) : Prop := ∀ r ∈ s.raised, State.cmdqDone r = false

theorem State.doneOff_noneDone : s.doneOff.NoneDone := by
  intro r hr
  simpa using (List.mem_filter.mp hr).2

/-- The records of the reset are alarms of ORD. -/
theorem State.ownerReset_noneDone (h : s.NoneDone) : (s.ownerReset o).NoneDone := by
  refine List.foldlRecOn (List.range 64) (fun (t : State) n => t.semOrphan n o) (motive := State.NoneDone) h fun t ht n _ => ?_
  unfold State.semOrphan
  split
  · intro r hr
    rcases List.mem_append.mp hr with hr | hr
    · exact ht r hr
    · rw [List.mem_singleton.mp hr]
      rfl
  · exact ht

/-! ZST and the media units let go of host memory: their own registers, from 0x900000 up. -/

/-- The registers of the units past the host's own. -/
@[reducible] def UnitKeys : Nat → Prop := fun k => 0x900000 ≤ k

/-- Jobs `x` of unit `i` were in a ring before the reset. -/
def State.noteOldJobs (s : State) (i x : Nat) : State := { s with oldJobs := s.oldJobs.set i x }

theorem State.noteOldJobs_frame {i x : Nat} : s.noteOldJobs i x = { s with oldJobs := (s.noteOldJobs i x).oldJobs } := rfl

/-- Does the job of engine `e` touch host memory. -/
def State.zstEnds (s : State) (e : Nat) : Bool :=
  match s.zst.getD e none with
  | some j => j.inHost || j.flags % 4 ≠ 0
  | none => false

/-- Engine `e` without such a job. -/
def State.zstDrop (s : State) (e : Nat) : State := if s.zstEnds e then { s with zst := s.zst.set e none } else s

/-- An engine with its ring in host memory stops. -/
def State.zstRingOff (s : State) (e : Nat) : State := ((s.put Fl.ZST_CTRL_enable [e] 0).wr R.ZST_HEAD [e] 0).wr R.ZST_TAIL [e] 0

/-- The descriptor of a job that ended is passed. -/
def State.zstPass (s : State) (e : Nat) (ends : Bool) : State :=
  if ends then s.wr R.ZST_HEAD [e] ((s.rd R.ZST_HEAD [e] + 1) % 2 ^ 32) else s

/-- The step of engine `e` in a host reset. -/
def State.zstOff (s : State) (e : Nat) : State :=
  if (s.zstDrop e).flag Fl.ZST_CTRL_host [e] then ((s.zstDrop e).zstRingOff e).noteOldJobs e 0
  else ((s.zstDrop e).zstPass e (s.zstEnds e)).noteOldJobs e
    ((((s.zstDrop e).zstPass e (s.zstEnds e)).rd R.ZST_TAIL [e] + 2 ^ 32 - ((s.zstDrop e).zstPass e (s.zstEnds e)).rd R.ZST_HEAD [e]) % 2 ^ 32)

theorem State.zstHostOff_eq : s.zstHostOff = (List.range 2).foldl State.zstOff s := rfl

theorem State.zstOff_cases : (∃ x, s.zstOff e = ((s.zstDrop e).zstRingOff e).noteOldJobs e x) ∨
    ∃ ends x, s.zstOff e = ((s.zstDrop e).zstPass e ends).noteOldJobs e x := by
  unfold State.zstOff
  split
  · exact .inl ⟨_, rfl⟩
  · exact .inr ⟨_, _, rfl⟩

theorem State.zstDrop_frame : s.zstDrop e = { s with zst := (s.zstDrop e).zst } := by
  unfold State.zstDrop
  split <;> rfl

theorem State.zstPass_frame {ends : Bool} : s.zstPass e ends = { s with regs := (s.zstPass e ends).regs } := by
  unfold State.zstPass
  split <;> rfl

theorem State.zstRingOff_changedIn : RegFile.ChangedIn UnitKeys s.regs (s.zstRingOff e).regs := by
  unfold State.zstRingOff
  exact RegFile.ChangedIn.trans (State.put_changedIn (by simp [UnitKeys, Fl.ZST_CTRL_enable]; omega))
    (RegFile.ChangedIn.trans (State.wr_changedIn (by simp [UnitKeys]; omega)) (State.wr_changedIn (by simp [UnitKeys]; omega)))

theorem State.zstPass_changedIn {ends : Bool} : RegFile.ChangedIn UnitKeys s.regs (s.zstPass e ends).regs := by
  unfold State.zstPass
  split
  · exact State.wr_changedIn (by simp [UnitKeys]; omega)
  · exact .refl

theorem State.zstOff_changedIn : RegFile.ChangedIn UnitKeys s.regs (s.zstOff e).regs := by
  have hdrop : (s.zstDrop e).regs = s.regs := by rw [State.zstDrop_frame]
  rw [← hdrop]
  rcases State.zstOff_cases (s := s) (e := e) with ⟨x, h⟩ | ⟨ends, x, h⟩ <;> rw [h]
  · exact State.zstRingOff_changedIn
  · exact State.zstPass_changedIn

theorem State.zstOff_kept : ((s.zstOff e).hostSide, (s.zstOff e).raised) = (s.hostSide, s.raised) := by
  rcases State.zstOff_cases (s := s) (e := e) with ⟨x, h⟩ | ⟨ends, x, h⟩ <;> rw [h, State.noteOldJobs_frame]
  · rw [State.zstDrop_frame]
    rfl
  · rw [State.zstPass_frame, State.zstDrop_frame]
    rfl

theorem State.zstHostOff_changedIn : RegFile.ChangedIn UnitKeys s.regs s.zstHostOff.regs := by
  rw [State.zstHostOff_eq]
  exact RegFile.ChangedIn.foldl (step := State.zstOff) fun e _ t => State.zstOff_changedIn

theorem State.zstHostOff_kept : (s.zstHostOff.hostSide, s.zstHostOff.raised) = (s.hostSide, s.raised) := by
  rw [State.zstHostOff_eq]
  exact State.foldl_kept (g := fun t => (t.hostSide, t.raised)) (f := State.zstOff) (fun _ _ => State.zstOff_kept) _ _

/-- The receive ring of PTP port `p` is disabled. -/
def State.ptRxOff (t : State) (p : Nat) : State :=
  ((t.put Fl.TIME_PT_RX_CTRL_enable [p] 0).wr R.TIME_PT_RX_HEAD [p] 0).wr R.TIME_PT_RX_TAIL [p] 0

theorem State.ptRxOff_changedIn : RegFile.ChangedIn UnitKeys s.regs (s.ptRxOff p).regs := by
  unfold State.ptRxOff
  exact RegFile.ChangedIn.trans (State.put_changedIn (by simp [UnitKeys, Fl.TIME_PT_RX_CTRL_enable]; omega))
    (RegFile.ChangedIn.trans (State.wr_changedIn (by simp [UnitKeys]; omega)) (State.wr_changedIn (by simp [UnitKeys]; omega)))

/-- The ring of the decode core in host memory is gone. -/
def State.decDrop (s : State) : State :=
  let u := (s.wr R.VCE_D_HEAD [] 0).wr R.VCE_D_TAIL [] 0
  { u with dec := { u.dec with disc := true }, oldJobs := u.oldJobs.set 2 0 }

/-- The decode core lets go of its ring in host memory. -/
def State.decHostOff (s : State) : State :=
  if s.dev Fl.VCE_D_RCTL_host = 1 then s.decDrop.decBusy else s.noteOldJobs 2 ((s.rd R.VCE_D_TAIL + 2 ^ 32 - s.rd R.VCE_D_HEAD) % 2 ^ 32)

theorem State.decHostOff_cases : s.decHostOff = s.decDrop.decBusy ∨ ∃ x, s.decHostOff = s.noteOldJobs 2 x :=
  (ite_eq_or_eq _ _ _).imp_right fun h => ⟨_, h⟩

theorem State.decBusy_frame : s.decBusy = { s with regs := s.decBusy.regs } := rfl

theorem State.decHostOff_kept : (s.decHostOff.hostSide, s.decHostOff.raised) = (s.hostSide, s.raised) := by
  rcases State.decHostOff_cases (s := s) with h | ⟨x, h⟩ <;> rw [h]
  · rw [State.decBusy_frame]
    rfl
  · rfl

theorem State.decDrop_changedIn : RegFile.ChangedIn UnitKeys s.regs s.decDrop.regs := by
  have hregs : s.decDrop.regs = ((s.wr R.VCE_D_HEAD [] 0).wr R.VCE_D_TAIL [] 0).regs := rfl
  rw [hregs]
  exact RegFile.ChangedIn.trans (State.wr_changedIn (by decide)) (State.wr_changedIn (by decide))

theorem State.decBusy_changedIn : RegFile.ChangedIn UnitKeys s.regs s.decBusy.regs := State.put_changedIn (by decide)

theorem State.decHostOff_changedIn : RegFile.ChangedIn UnitKeys s.regs s.decHostOff.regs := by
  rcases State.decHostOff_cases (s := s) with h | ⟨x, h⟩ <;> rw [h]
  · exact State.decDrop_changedIn.trans State.decBusy_changedIn
  · exact .refl

/-- The access-unit rings let go of host memory. -/
def State.auHostOff (s : State) : State := (s.put Fl.VCE_OCTL_host_en [0] 0).put Fl.VCE_OCTL_host_en [1] 0

theorem State.auHostOff_changedIn : RegFile.ChangedIn UnitKeys s.regs s.auHostOff.regs := by
  unfold State.auHostOff
  exact RegFile.ChangedIn.trans (State.put_changedIn (by decide)) (State.put_changedIn (by decide))

theorem State.mediaHostOff_eq : s.mediaHostOff = ((List.range 6).foldl State.ptRxOff s).decHostOff.auHostOff := rfl

theorem State.mediaHostOff_changedIn : RegFile.ChangedIn UnitKeys s.regs s.mediaHostOff.regs := by
  have hpt : RegFile.ChangedIn UnitKeys s.regs ((List.range 6).foldl State.ptRxOff s).regs :=
    RegFile.ChangedIn.foldl (step := State.ptRxOff) fun p _ t => State.ptRxOff_changedIn
  rw [State.mediaHostOff_eq]
  exact (hpt.trans State.decHostOff_changedIn).trans State.auHostOff_changedIn

theorem State.mediaHostOff_kept : (s.mediaHostOff.hostSide, s.mediaHostOff.raised) = (s.hostSide, s.raised) := by
  have hpt := State.foldl_kept (g := fun t => (t.hostSide, t.raised)) (f := State.ptRxOff) (fun _ _ => rfl) (List.range 6) s
  have hau : ∀ t : State, (t.auHostOff.hostSide, t.auHostOff.raised) = (t.hostSide, t.raised) := fun _ => rfl
  rw [State.mediaHostOff_eq, hau, State.decHostOff_kept, hpt]

/-! The steps together. -/

/-- What the reset does at once: outstanding reads, the MSI-X structures, the packets that run. -/
def State.hostCut (s : State) (kind : HostResetKind) : State :=
  let u : State := { s with
    heldReads := []
    msixTable := [], msixPba := [], msixEnable := false, msixMask := false
    latch := s.latch.filter fun e => e.1 ≠ 1
    packets := s.packets.map fun p => { p with discard := true } }
  if kind = .flr then s.heldReads.foldl (fun (t : State) _ => t.emit .unsupported) u else u

/-- The bulk session ends. -/
def State.bulkOff (s : State) : State := (s.put Fl.BULK_STAT_active [] 0).put Fl.BULK_CTRL_arm [] 0

theorem State.hostCut_regs : (s.hostCut kind).regs = s.regs := by
  unfold State.hostCut
  extract_lets u
  split
  · rw [State.foldl_emit fun _ _ _ => rfl]
  · rfl

theorem State.hostCut_hostSide :
    (s.hostCut kind).hostSide = ([], [], false, [], s.packets.map fun p => { p with discard := true }) := by
  unfold State.hostCut
  extract_lets u
  split
  · rw [State.foldl_emit fun _ _ _ => rfl]
    rfl
  · rfl

theorem State.bulkOff_changedIn : RegFile.ChangedIn (Keys 0x50000 0x50024) s.regs s.bulkOff.regs := by
  unfold State.bulkOff
  exact RegFile.ChangedIn.trans (State.put_changedIn ⟨by decide, by decide⟩) (State.put_changedIn ⟨by decide, by decide⟩)

theorem State.bulkOff_inactive (hr : rising s.regs = true) : s.bulkOff.bulkActive = false := by
  have hput : (s.put Fl.BULK_STAT_active [] 0).flag Fl.BULK_STAT_active = false := State.flag_put_same (b := false) hr (by decide) rfl
  rw [← hput, State.bulkActive, State.bulkOff]
  exact State.flag_of_changedIn (K := fun k => k = R.BULK_CTRL.key []) (State.put_changedIn rfl) (by decide)

theorem State.powered_of_changedIn {b : Blk} (h : RegFile.ChangedIn K s.regs t.regs) (hk : ¬K (R.CPR_PD_STAT.key [])) :
    t.powered b = s.powered b := by
  unfold State.powered
  split
  · rw [State.domainOn, State.domainOn, State.rd_of_changedIn h hk]
  · rfl

/-! What a host reset leaves. -/

/-- The reset up to the owner resets. -/
def State.hostOff (s : State) (kind : HostResetKind) : State := (s.hostCut kind).ringsOff.doneOff.bulkOff

theorem State.hostOff_changedIn : RegFile.ChangedIn (Keys 0x20000 0x50024) s.regs (s.hostOff kind).regs := by
  have hrings : RegFile.ChangedIn (Keys 0x20000 0x30100) s.regs (s.hostCut kind).ringsOff.doneOff.regs :=
    State.hostCut_regs (s := s) (kind := kind) ▸ State.ringsOff_changedIn
  refine (hrings.mono fun k => ?_).trans (State.bulkOff_changedIn.mono fun k => ?_) <;>
    · simp only [keys_iff]
      omega

theorem State.hostOff_hostSide :
    (s.hostOff kind).hostSide = ([], [], false, [], s.packets.map fun p => { p with discard := true }) := by
  have hbulk : (s.hostOff kind).hostSide = (s.hostCut kind).ringsOff.hostSide := rfl
  rw [hbulk, State.ringsOff_hostSide, State.hostCut_hostSide]

/-- A host reset with the control fabric powered. -/
theorem State.hostReset_eq (he : s.powered .evq = true) (hb : s.powered .bulk = true) (ho : s.powered .ord = true) :
    s.hostReset kind = ((s.hostOff kind).ownerReset 1).zstHostOff.mediaHostOff := by
  have hcut : RegFile.ChangedIn (Keys 0x20000 0x30100) s.regs (s.hostCut kind).ringsOff.doneOff.regs :=
    State.hostCut_regs (s := s) (kind := kind) ▸ State.ringsOff_changedIn
  have he' : (s.hostCut kind).powered .evq = true := by
    exact (State.powered_of_changedIn (K := fun _ => False) (State.hostCut_regs ▸ .refl) not_false).trans he
  have hb' : (s.hostCut kind).ringsOff.doneOff.powered .bulk = true := by rw [State.powered_of_changedIn hcut fun h => absurd h.2 (by decide), hb]
  have ho' : (s.hostOff kind).powered .ord = true := by rw [State.powered_of_changedIn State.hostOff_changedIn fun h => absurd h.2 (by decide), ho]
  unfold State.hostReset
  extract_lets held u v w x y
  have hv : v = s.hostCut kind := rfl
  have hw : w = (s.hostCut kind).ringsOff.doneOff := (if_pos (hv ▸ he')).trans (by rw [hv])
  have hx : x = s.hostOff kind := (if_pos (hw ▸ hb')).trans (by rw [hw]; rfl)
  have hy : y = (s.hostOff kind).ownerReset 1 := (if_pos (hx ▸ ho')).trans (by rw [hx])
  rw [hy]

/-- After the rings and the bulk session only the semaphores and the units past the host's own change. -/
theorem State.afterHostOff_changedIn :
    RegFile.ChangedIn (fun k => Keys 0x10100 0x10300 k ∨ UnitKeys k) s.regs ((s.ownerReset 1).zstHostOff.mediaHostOff).regs :=
  (State.ownerReset_changedIn.mono fun _ => .inl).trans
    ((State.zstHostOff_changedIn.trans State.mediaHostOff_changedIn).mono fun _ => .inr)

theorem State.afterHostOff_kept : ((s.ownerReset 1).zstHostOff.mediaHostOff.hostSide, (s.ownerReset 1).zstHostOff.mediaHostOff.raised) =
    (s.hostSide, (s.ownerReset 1).raised) := by
  rw [State.mediaHostOff_kept, State.zstHostOff_kept, State.ownerReset_hostSide]

end

/-- Settles O18: a flush by what stands at the cursor; a reset by its steps, each of which leaves what the ones before it settled. -/
theorem flushAndHostFunctionReset : Obligations.FlushAndHostFunctionReset := by
  refine ⟨?_, ?_, ?_, ?_⟩
  · intro r s hr hrise hf hp
    have hr1 : rising (s.flushFrom r (s.ringSize r / 8 + 1)).regs = true := State.flushFrom_changedIn.rising hrise
    refine ⟨_, exec_cmdqFlush_boundary hr hf hp, ?_⟩
    rw [State.flag_of_changedIn State.cmdqSync_cmdqLook_changedIn (d := Fl.CMDQ_CTRL_flush) (by simp [Fl.CMDQ_CTRL_flush])]
    exact (State.flushed_flags hr1).2
  · intro r s hr hrise hf hp hs
    obtain ⟨hhalted, -⟩ := State.flushed_flags (r := r) hrise
    have hsync : ((s.flushed r).cmdqSync r).flag Fl.CMDQ_STAT_halted [r] = false :=
      (State.flag_of_changedIn State.cmdqSync_changedIn (by simp [Fl.CMDQ_STAT_halted])).trans hhalted
    have hrise1 : rising ((s.flushed r).cmdqSync r).regs = true :=
      State.cmdqSync_changedIn.rising (State.rising_put (State.rising_put hrise))
    refine ⟨_, exec_cmdqFlush_boundary hr hf hp, ?_⟩
    rw [State.flushFrom_empty hs, State.cmdqLook_empty (State.flushed_slot_empty hs)]
    refine ⟨?_, ?_, ?_⟩
    · exact (State.flag_put_apart (d := Fl.CMDQ_STAT_waiting) (d' := Fl.CMDQ_STAT_halted) hrise1 rfl (by decide) (by decide) (by decide)
        (by decide)).trans hsync
    · rw [State.cmdqWaiting_frame, State.cmdqSync_frame]
      rfl
    · rw [State.cmdqWaiting_frame, State.cmdqSync_frame]
      rfl
  · intro r len s hr _ hf hp hs hop
    obtain ⟨e, m₁, h₁, htyp, hinst, hdst⟩ := State.flushPacket_record hop
    obtain ⟨m₂, h₂⟩ := State.flushFrom_raised (s := s.flushPacket r len) (r := r) (n := s.ringSize r / 8)
    obtain ⟨m₃, h₃⟩ := State.flush_raised (s := s) (r := r) (n := s.ringSize r / 8 + 1)
    refine ⟨_, e, m₁ ++ m₂ ++ m₃, exec_cmdqFlush_boundary hr hf hp, ?_, htyp, hinst, hdst, State.flush_packets⟩
    rw [h₃, State.flushFrom_succ, State.flushStep_packet hs, h₂, h₁]
    simp only [List.append_assoc]
  · intro kind s hrise he hb ho
    let u := s.hostOff kind
    have hafter := State.afterHostOff_changedIn (s := u)
    obtain ⟨hhost, hraised⟩ := Prod.mk.inj (State.afterHostOff_kept (s := u))
    have hbulk : RegFile.ChangedIn (Keys 0x50000 0x50024) (s.hostCut kind).ringsOff.regs u.regs :=
      State.bulkOff_changedIn (s := (s.hostCut kind).ringsOff.doneOff)
    have hcut : rising (s.hostCut kind).regs = true := State.hostCut_regs (s := s) (kind := kind) ▸ hrise
    have hrings : rising (s.hostCut kind).ringsOff.doneOff.regs = true := State.ringsOff_changedIn.rising hcut
    have hu : rising u.regs = true := State.hostOff_changedIn.rising hrise
    have hside : ((u.ownerReset 1).zstHostOff.mediaHostOff).hostSide = ([], [], false, [], s.packets.map fun p => { p with discard := true }) :=
      hhost.trans State.hostOff_hostSide
    simp only [State.hostSide, Prod.mk.injEq] at hside
    obtain ⟨htable, hpba, henable, hreads, hpackets⟩ := hside
    refine ⟨(u.ownerReset 1).zstHostOff.mediaHostOff, ?_, htable, hpba, henable, hreads, ?_, ?_, ?_, fun q hq => ?_, fun r hr => ?_,
      fun n hn => ?_⟩
    · rw [exec_hostFunctionReset, execHostFunctionReset, State.hostReset_eq he hb ho]
    · rw [hpackets]
      simp
    · have hnone : (u.ownerReset 1).NoneDone := State.ownerReset_noneDone (State.doneOff_noneDone (s := (s.hostCut kind).ringsOff))
      intro r hr
      exact hnone r (hraised ▸ hr)
    · rw [← State.bulkOff_inactive hrings, State.bulkActive, State.bulkActive]
      exact State.flag_of_changedIn hafter (by simp [UnitKeys, Fl.BULK_STAT_active, show R.BULK_STAT.key [] = 0x50020 from rfl])
    · have hrest : u.EvqAtRest q := (State.ringsOff_evqAtRest hcut hq).of_changedIn hbulk fun k => by
        simp only [keys_iff]
        omega
      obtain ⟨h₁, h₂, h₃⟩ := hrest.of_changedIn hafter fun k => by
        simp only [keys_iff]
        omega
      exact ⟨h₁, h₂, h₃⟩
    · have hrest : u.CmdqAtRest r := (State.ringsOff_cmdqAtRest hcut hr).of_changedIn hbulk fun k => by
        simp only [keys_iff]
        omega
      obtain ⟨h₁, h₂, h₃⟩ := hrest.of_changedIn hafter fun k => by
        simp only [keys_iff]
        omega
      exact ⟨h₁, h₂, h₃⟩
    · have howner : u.semOwner n = s.semOwner n := State.get_of_changedIn State.hostOff_changedIn (by simp [Fl.ORD_SEM_ACQ_owner]; omega)
      rw [← howner, ← State.semOwner_ownerReset hu hn]
      exact State.get_of_changedIn (State.zstHostOff_changedIn.trans State.mediaHostOff_changedIn) (by simp [UnitKeys, Fl.ORD_SEM_ACQ_owner]; omega)

end Sys2Proof.Machine
namespace Sys2Proof.Machine

/-! ### What the recorder does as a metadata chunk enters a take (R270, R280, R417) -/

/-- `t` has the engines of `s`, and its registers but for those of the media and offload units. -/
structure State.MediaOnly (s t : State) : Prop where
  zst : t.zst = s.zst
  regs : RegFile.ChangedIn (Keys 0x600000 0x1000000) s.regs t.regs

namespace State.MediaOnly

variable {s t u : State} {d : Fld} {w : Reg} {ix : List Nat} {v n : Nat} {f : RecSt → RecSt} {g : OflSt → OflSt}

theorem refl : MediaOnly s s := ⟨rfl, .refl⟩

theorem trans (h₁ : MediaOnly s t) (h₂ : MediaOnly t u) : MediaOnly s u := ⟨h₂.zst.trans h₁.zst, h₁.regs.trans h₂.regs⟩

theorem of_eq (hz : t.zst = s.zst) (hr : t.regs = s.regs) : MediaOnly s t := ⟨hz, hr ▸ .refl⟩

theorem put (h : MediaOnly s t) (hk : Keys 0x600000 0x1000000 (d.reg.key ix)) : MediaOnly s (t.put d ix v) := ⟨h.zst, h.regs.put hk⟩

theorem wr (h : MediaOnly s t) (hk : Keys 0x600000 0x1000000 (w.key ix)) : MediaOnly s (t.wr w ix v) := ⟨h.zst, h.regs.wr hk⟩

theorem inc (h : MediaOnly s t) (hk : Keys 0x600000 0x1000000 (d.reg.key ix)) : MediaOnly s (t.inc d ix n) := ⟨h.zst, h.regs.put hk⟩

theorem modRec (h : MediaOnly s t) : MediaOnly s (t.modRec f) := ⟨h.zst, h.regs⟩

theorem modOfl (h : MediaOnly s t) : MediaOnly s (t.modOfl g) := ⟨h.zst, h.regs⟩

theorem ohostWrite {a : Nat} {b : Bytes} (h : MediaOnly s t) : MediaOnly s (t.ohostWrite a b) := ⟨h.zst, h.regs⟩

theorem ev {typ src inst payload : Nat} (h : MediaOnly s t) : MediaOnly s (t.ev typ src inst payload) := ⟨h.zst, h.regs⟩

theorem ite {c : Prop} [Decidable c] (ht : MediaOnly s t) (hu : MediaOnly s u) : MediaOnly s (if c then t else u) := by
  split
  · exact ht
  · exact hu

theorem foldl {α : Type} {step : State → α → State} {l : List α} (h : MediaOnly s t) (hs : ∀ u x, MediaOnly u (step u x)) :
    MediaOnly s (l.foldl step t) :=
  List.foldlRecOn l step (motive := MediaOnly s) h fun u hu x _ => hu.trans (hs u x)

end State.MediaOnly

section

variable {s t : State} {v : Volume} {l : LiveTake} {q n id kind fid time epoch fsw cert len result cause rows fuel typ info page : Nat}
  {e : Nat × Nat × Nat × Nat} {b : Bytes} {found : Bool}

/-! The offload controller. -/

theorem State.mediaOnly_oflSignal : s.MediaOnly (s.oflSignal q) := by
  unfold State.oflSignal
  extract_lets x w
  split
  · exact .refl
  · split
    · exact .modOfl .refl
    · exact .of_eq (State.emit_zst ..) (State.emit_regs ..)

theorem State.mediaOnly_oflPost : s.MediaOnly (s.oflPost e).1 := by
  unfold State.oflPost
  split
  · exact .refl
  · split
    · exact .refl
    · split
      · exact .refl
      · split
        · exact .refl
        · extract_lets b u last c' w
          have hu : s.MediaOnly u := .ohostWrite .refl
          have hw : s.MediaOnly w := .modOfl hu
          split
          · exact hw.trans State.mediaOnly_oflSignal
          · exact hw

theorem State.mediaOnly_oflPostAll : s.MediaOnly s.oflPostAll := by
  unfold State.oflPostAll
  extract_lets l u
  have hu : s.MediaOnly u := .modOfl .refl
  exact hu.foldl fun t e => .ite State.mediaOnly_oflPost (.modOfl State.mediaOnly_oflPost)

theorem State.mediaOnly_oflShow : s.MediaOnly s.oflShow := by
  unfold State.oflShow
  extract_lets x io a b c
  have ha : s.MediaOnly a := .put (.put .refl ⟨by decide, by decide⟩) ⟨by decide, by decide⟩
  have hb : s.MediaOnly b := .put (.put ha ⟨by decide, by decide⟩) ⟨by decide, by decide⟩
  have hc : s.MediaOnly c := .put (.put hb ⟨by decide, by decide⟩) ⟨by decide, by decide⟩
  exact .put (.put hc ⟨by decide, by decide⟩) ⟨by decide, by decide⟩

theorem State.mediaOnly_oflComplete {dw0 status : Nat} : s.MediaOnly (s.oflComplete id dw0 status) := by
  unfold State.oflComplete
  split
  · exact .refl
  · extract_lets u w
    have hu : s.MediaOnly u := .modOfl .refl
    have hw : s.MediaOnly w := .ite hu (.ite (.inc hu ⟨by decide, by decide⟩) (.inc hu ⟨by decide, by decide⟩))
    exact hw.trans (State.mediaOnly_oflPostAll.trans State.mediaOnly_oflShow)

theorem State.mediaOnly_oflEvents : s.MediaOnly (s.oflEvents n) := by
  induction n generalizing s with
  | zero => exact .refl
  | succ n ih =>
    unfold State.oflEvents
    split
    · exact (State.MediaOnly.refl.modOfl.trans State.mediaOnly_oflComplete).trans ih
    · exact .refl

theorem State.mediaOnly_oflEvent : s.MediaOnly (s.oflEvent typ info page) := by
  unfold State.oflEvent
  extract_lets e
  exact .ite .refl (State.MediaOnly.refl.modOfl.trans State.mediaOnly_oflEvents)

theorem State.mediaOnly_testEnd : s.MediaOnly (s.testEnd result) := by
  unfold State.testEnd
  split
  · exact .refl
  · extract_lets seg lba b u w
    have hu : s.MediaOnly u := .modOfl .refl
    have hw : s.MediaOnly w := .put (.put (.put hu ⟨by decide, by decide⟩) ⟨by decide, by decide⟩) ⟨by decide, by decide⟩
    exact .ev (.put hw ⟨by decide, by decide⟩)

theorem State.mediaOnly_nsSync : s.MediaOnly s.nsSync := by
  unfold State.nsSync
  extract_lets st one two d1 d2 u add w hit x
  have hu : s.MediaOnly u := .put (.put .refl ⟨by decide, by decide⟩) ⟨by decide, by decide⟩
  have hw : s.MediaOnly w := hu.modOfl
  have hx : s.MediaOnly x := .ite (hw.trans State.mediaOnly_testEnd) hw
  exact .ite .refl (.ite (.ite (hx.trans State.mediaOnly_oflEvent) hx) hu)

/-! The recorder. -/

theorem State.mediaOnly_recShow : s.MediaOnly s.recShow := by
  unfold State.recShow
  extract_lets x anyTake failed rebuilding st a b free c k done
  have ha : s.MediaOnly a := .put (.put .refl ⟨by decide, by decide⟩) ⟨by decide, by decide⟩
  have hb : s.MediaOnly b := .wr (.put ha ⟨by decide, by decide⟩) ⟨by decide, by decide⟩
  have hc : s.MediaOnly c := .wr (.wr hb ⟨by decide, by decide⟩) ⟨by decide, by decide⟩
  exact State.MediaOnly.trans (.put (.put (.put hc ⟨by decide, by decide⟩) ⟨by decide, by decide⟩) ⟨by decide, by decide⟩)
    State.mediaOnly_nsSync

theorem State.mediaOnly_closeTake : s.MediaOnly (s.closeTake n cause) := by
  unfold State.closeTake
  split
  · extract_lets u w
    have hw : s.MediaOnly w := .of_eq rfl rfl
    exact .ite .refl (State.MediaOnly.trans (.ev hw) State.mediaOnly_recShow)
  · exact .refl

theorem State.mediaOnly_allocExtent : s.MediaOnly (s.allocExtent n).1 := by
  unfold State.allocExtent
  split
  · extract_lets free
    split
    · exact .refl
    · exact .of_eq rfl rfl
  · exact .refl

theorem State.mediaOnly_ensureRows : s.MediaOnly (s.ensureRows n rows fuel).1 := by
  induction fuel generalizing s with
  | zero => exact .refl
  | succ fuel ih =>
    unfold State.ensureRows
    split
    · split
      · exact .refl
      · extract_lets a
        have ha : s.MediaOnly a.1 := State.mediaOnly_allocExtent
        split
        · exact ha.trans ih
        · exact ha
    · exact .refl

theorem State.mediaOnly_placeChunk : s.MediaOnly (s.placeChunk found v l kind fid time epoch fsw cert len b) := by
  unfold State.placeChunk
  split
  · exact State.mediaOnly_closeTake
  · split
    · exact .of_eq rfl rfl
    · exact .refl

theorem State.mediaOnly_addChunk : s.MediaOnly (s.addChunk n kind fid time epoch fsw cert b) := by
  unfold State.addChunk
  split
  · exact State.mediaOnly_ensureRows.trans State.mediaOnly_placeChunk
  · exact .refl

end

end Sys2Proof.Machine
namespace Sys2Proof.Machine

/-! ### Compression engines (R291, R294, R295) -/

@[simp] theorem key_ZST_JOBS (e : Nat) : R.ZST_JOBS.key [e] = 0x1400014 + e * 0x100 := by simp [Reg.key, instOffset, R.ZST_JOBS]

section

variable {s : State} {e : Nat} {j : ZstJob} {r : RecJob} {rest : List RecJob}

theorem State.getD_zst_set_same {x : Option ZstJob} (h : e < s.zst.length) : (s.zst.set e x).getD e none = x := by
  simp [List.getD_eq_getElem?_getD, h]

theorem State.getD_zst_set_none : (s.zst.set e none).getD e none = none := by
  rw [List.getD_eq_getElem?_getD, List.getElem?_set]
  split
  · split <;> rfl
  · contradiction

theorem State.getD_zst_set_ne {x : Option ZstJob} {e' : Nat} (h : e' ≠ e) : (s.zst.set e x).getD e' none = s.zst.getD e' none := by
  simp [List.getD_eq_getElem?_getD, List.getElem?_set_ne h.symm]

/-- A part of the bytes just written, read back. -/
theorem Mem.read_write_slice {m : Mem} {a i n : Nat} {b : Bytes} (h : rising m = true) (hi : i + n ≤ b.length) :
    (m.write a b).read (a + i) n = (b.drop i).take n := by
  refine List.ext_getElem (by simp [Mem.read]; omega) fun k hk _ => ?_
  have hkn : k < n := by simpa [Mem.read] using hk
  simp only [Mem.read, List.getElem_map, List.getElem_range, List.getElem_take, List.getElem_drop, Nat.add_assoc]
  exact Mem.get_write_at h (by omega)

/-! A job is taken. -/

/-- The descriptor at HEAD of an engine's ring. -/
def State.zstAt (s : State) (e : Nat) : Nat :=
  s.rd64 R.ZST_RING_LO R.ZST_RING_HI [e] + s.rd R.ZST_HEAD [e] % 2 ^ s.get Fl.ZST_CTRL_log2size [e] * 64

theorem State.zstRingJob_taken (he : s.flag Fl.ZST_CTRL_enable [e] = true) (hne : s.rd R.ZST_TAIL [e] ≠ s.rd R.ZST_HEAD [e])
    (hold : s.oldJob e = false) :
    s.zstRingJob e = { s with zst := s.zst.set e (some (s.zstPlan e (s.zstAt e) (s.flag Fl.ZST_CTRL_host [e])).1) } := by
  have hidle : ¬(!s.flag Fl.ZST_CTRL_enable [e] || decide (s.rd R.ZST_TAIL [e] = s.rd R.ZST_HEAD [e])) = true := by simp [he, hne]
  unfold State.zstRingJob
  rw [if_neg hidle]
  exact if_neg (by simp [hold])

theorem State.zstJob_ring (hlt : e < 2) (hp : s.powered .zst = true) (hfree : s.zst.getD e none = none)
    (hrec : takeFirst (fun (j : RecJob) => j.engine = e) s.rs.jobs = none) : s.zstJob e = s.zstRingJob e := by
  rw [State.zstJob, if_neg (by rw [hfree]; simp [hlt, hp]), hrec]

theorem State.zstJob_rec (hlt : e < 2) (hp : s.powered .zst = true) (hfree : s.zst.getD e none = none) {j : RecJob}
    (hrec : takeFirst (fun (j : RecJob) => j.engine = e) s.rs.jobs = some (j, rest)) :
    s.zstJob e = { s.modRec (fun x => { x with jobs := rest }) with zst := s.zst.set e (some (s.recJobPlan j)) } := by
  rw [State.zstJob, if_neg (by rw [hfree]; simp [hlt, hp]), hrec]

/-! A job ends. -/

/-- The engine has let go of its job. -/
def State.zstFreed (s : State) (e : Nat) : State := { s with zst := s.zst.set e none }

/-- A metadata job has become a chunk of its take, if the recorder can still take it (R288). -/
def State.zstChunked (s : State) (e : Nat) (j : ZstJob) (r : RecJob) : State :=
  let t := s.zstFreed e
  if t.rs.dusk || t.rs.landed || t.rs.dead then t else t.addChunk r.take 4 r.fid t.dt r.epoch 0 0 j.out

theorem State.zstComplete_rec (hj : s.zst.getD e none = some j) (hr : j.rec_ = some r) :
    s.zstComplete e = (s.zstChunked e j r).inc Fl.ZST_JOBS_done [e] := by
  rw [State.zstComplete, hj]
  dsimp only
  rw [hr]
  rfl

theorem State.zstChunked_mediaOnly : (s.zstFreed e).MediaOnly (s.zstChunked e j r) := .ite .refl State.mediaOnly_addChunk

/-- A chunk goes to the take's buffer, and what it stirs up goes to the offload port's host: the host's memory and HBM stay. -/
theorem State.zstChunked_memory : (s.zstChunked e j r).host = s.host ∧ (s.zstChunked e j r).hbm = s.hbm := by
  have hkept : Kept ⟨false, true, false, false, false, false⟩ (s.zstFreed e) (s.zstChunked e j r) := by
    unfold State.zstChunked
    extract_lets t
    split
    · exact .refl _
    · exact kept_addChunk (.refl _) rfl
  exact ⟨hkept.host rfl, hkept.hbm rfl⟩

/-- The result and the result fields of a job that touches host memory, written (R294). -/
def State.zstStored (s : State) (e : Nat) (j : ZstJob) : State :=
  ((s.zstFreed e).hostWrite j.dst j.out).hostWrite (j.addr + 32) (leBytes 4 j.out.length ++ leBytes 2 j.code)

/-- The descriptor is passed and the job counted. -/
def State.zstCounted (s : State) (e : Nat) : State :=
  ((s.wr R.ZST_HEAD [e] ((s.rd R.ZST_HEAD [e] + 1) % 2 ^ 32)).jobGone e).inc Fl.ZST_JOBS_done [e]

theorem State.zstComplete_ok (hj : s.zst.getD e none = some j) (hr : j.rec_ = none) (hc : j.code = stOk) (hin : j.inHost = true)
    (hout : bit j.flags 1 = true) : s.zstComplete e = if bit j.flags 3 then (s.zstStored e j).zstCounted e
      else ((s.zstStored e j).zstCounted e).evDone j.code srcZST e j.q (j.tag + 2 ^ 32 * j.op) := by
  rw [State.zstComplete, hj]
  dsimp only
  rw [hr]
  simp only [hc, hin, hout, State.memWrite, decide_true, if_true, Bool.true_and]
  simp only [State.zstCounted, State.zstStored, State.zstFreed, hc]

theorem State.zstStored_host : (s.zstStored e j).host = (s.host.write j.dst j.out).write (j.addr + 32) (leBytes 4 j.out.length ++ leBytes 2 j.code) :=
  rfl

/-- What host memory holds once the result and the result fields are written, the two being apart (R294). -/
theorem State.zstStored_memory (hh : rising s.host = true) (hapart : j.dst + j.out.length ≤ j.addr + 32 ∨ j.addr + 38 ≤ j.dst)
    (hlen : j.out.length < 2 ^ 32) (hc : j.code = stOk) : (s.zstStored e j).host.read j.dst j.out.length = j.out ∧
      (s.zstStored e j).host.readLe (j.addr + 32) 4 = j.out.length ∧ (s.zstStored e j).host.readLe (j.addr + 36) 2 = stOk ∧
      ∀ a, (a < j.dst ∨ j.dst + j.out.length ≤ a) → (a < j.addr + 32 ∨ j.addr + 38 ≤ a) → (s.zstStored e j).host.get a = s.host.get a := by
  have hh1 : rising (s.host.write j.dst j.out) = true := Mem.rising_write hh
  have hfields : (leBytes 4 j.out.length ++ leBytes 2 j.code).length = 6 := by simp
  have hsize := Mem.read_write_slice (a := j.addr + 32) (i := 0) (n := 4) hh1 (b := leBytes 4 j.out.length ++ leBytes 2 j.code) (by omega)
  have hcode := Mem.read_write_slice (a := j.addr + 32) (i := 4) (n := 2) hh1 (b := leBytes 4 j.out.length ++ leBytes 2 j.code) (by omega)
  rw [List.drop_zero, List.take_left' (length_leBytes _ _)] at hsize
  rw [List.drop_left' (length_leBytes _ _), List.take_of_length_le (by simp)] at hcode
  rw [State.zstStored_host]
  refine ⟨?_, ?_, ?_, fun a hdst haddr => ?_⟩
  · rw [Mem.read_write_out (by omega), Mem.read_write_same hh rfl]
  · rw [Mem.readLe]
    exact (congrArg leNat hsize).trans ((leNat_leBytes _ _).trans (Nat.mod_eq_of_lt hlen))
  · rw [Mem.readLe]
    exact (congrArg leNat hcode).trans ((leNat_leBytes _ _).trans (by rw [hc]; rfl))
  · rw [Mem.get_write_out (by omega), Mem.get_write_out hdst]

theorem State.zstStored_frame : s.zstStored e j = { s with host := (s.zstStored e j).host, zst := (s.zstStored e j).zst } := rfl

theorem State.zstCounted_frame : s.zstCounted e = { s with regs := (s.zstCounted e).regs, oldJobs := (s.zstCounted e).oldJobs } := rfl

theorem State.zstEnded_frame : (s.zstStored e j).zstCounted e =
    { s with regs := ((s.zstStored e j).zstCounted e).regs, host := ((s.zstStored e j).zstCounted e).host,
             zst := ((s.zstStored e j).zstCounted e).zst, oldJobs := ((s.zstStored e j).zstCounted e).oldJobs } := by
  rw [State.zstCounted_frame, State.zstStored_frame]

theorem State.evDone_raise {typ src inst q payload : Nat} :
    ∃ r, s.evDone typ src inst q payload = s.raise r ∧ r.typ = typ ∧ r.src = src ∧ r.dst = q := ⟨_, rfl, rfl, rfl, rfl⟩

theorem State.zstCounted_regs : (s.zstCounted e).regs =
    ((s.wr R.ZST_HEAD [e] ((s.rd R.ZST_HEAD [e] + 1) % 2 ^ 32)).inc Fl.ZST_JOBS_done [e]).regs := rfl

theorem State.zstCounted_rd (hr : rising s.regs = true) : (s.zstCounted e).rd R.ZST_HEAD [e] = (s.rd R.ZST_HEAD [e] + 1) % 2 ^ 32 ∧
    (s.zstCounted e).get Fl.ZST_JOBS_done [e] = (s.get Fl.ZST_JOBS_done [e] + 1) % 2 ^ 16 := by
  generalize hv : (s.rd R.ZST_HEAD [e] + 1) % 2 ^ 32 = v
  have hlt : v < 2 ^ 32 := hv ▸ Nat.mod_lt _ (Nat.two_pow_pos 32)
  have hregs := State.zstCounted_regs (s := s) (e := e)
  rw [hv] at hregs
  constructor
  · rw [State.rd_congr hregs, State.inc, State.rd_put_ne (by simp [Fl.ZST_JOBS_done]), State.rd_wr_same hr, Nat.mod_eq_of_lt hlt]
  · rw [State.get_congr hregs, State.get_inc_same (State.rising_wr hr) (by decide) (by decide) (by decide),
      State.get_of_changedIn (K := fun k => k = R.ZST_HEAD.key [e]) (State.wr_changedIn rfl) (by simp [Fl.ZST_JOBS_done])]
    rfl

end

/-- Settles O37: a job is planned from its descriptor or its metadata; a job that ends is its writes, its registers and its record. -/
theorem compressionJobs : Obligations.CompressionJobs := by
  refine ⟨?_, ?_, ?_, ?_⟩
  · intro e s hlt hlen hp he hfree hne hrec hold at_
    refine ⟨_, by rw [exec_zstJob, execZstJob, State.zstJob_ring hlt hp hfree hrec, State.zstRingJob_taken he hne hold], ?_, ?_, rfl⟩
    · exact State.getD_zst_set_same (hlen ▸ hlt)
    · exact fun e' h => State.getD_zst_set_ne h
  · intro e j rest s hlt hlen hp hfree hrec
    exact ⟨_, by rw [exec_zstJob, execZstJob, State.zstJob_rec hlt hp hfree hrec], State.getD_zst_set_same (hlen ▸ hlt), rfl, rfl⟩
  · intro e j r s _ hj hr hrise
    obtain ⟨hhost, hhbm⟩ := State.zstChunked_memory (s := s) (e := e) (j := j) (r := r)
    have hmedia := State.zstChunked_mediaOnly (s := s) (e := e) (j := j) (r := r)
    refine ⟨(s.zstChunked e j r).inc Fl.ZST_JOBS_done [e], ?_, ?_, hhost, hhbm, ?_, ?_⟩
    · rw [exec_zstJobComplete, execZstJobComplete, State.zstComplete_rec hj hr]
    · exact (congrArg (List.getD · e none) hmedia.zst).trans State.getD_zst_set_none
    · rw [State.rd_of_changedIn (State.inc_changedIn (K := fun k => k = R.ZST_JOBS.key [e]) rfl) (by simp),
        State.rd_of_changedIn hmedia.regs (by simp; omega)]
      rfl
    · rw [State.get_inc_same (hmedia.regs.rising hrise) (by decide) (by decide) (by decide),
        State.get_of_changedIn hmedia.regs (by simp [Fl.ZST_JOBS_done]; omega)]
      rfl
  · intro e j s _ hj hr hc hin hout hrise hh hapart hlen
    obtain ⟨hhead, hdone⟩ := State.zstCounted_rd (s := s.zstStored e j) (e := e) hrise
    obtain ⟨hres, hsize, hcode, hrest⟩ := State.zstStored_memory (e := e) hh hapart hlen hc
    have hcomplete : exec (.zstJobComplete e) s = .next (if bit j.flags 3 then (s.zstStored e j).zstCounted e
        else ((s.zstStored e j).zstCounted e).evDone j.code srcZST e j.q (j.tag + 2 ^ 32 * j.op)) := by
      rw [exec_zstJobComplete, execZstJobComplete, State.zstComplete_ok hj hr hc hin hout]
    have hframe := State.zstEnded_frame (s := s) (e := e) (j := j)
    have hfree : ((s.zstStored e j).zstCounted e).zst.getD e none = none := State.getD_zst_set_none
    have hraised : ((s.zstStored e j).zstCounted e).raised = s.raised := rfl
    have hhost : ((s.zstStored e j).zstCounted e).host = (s.zstStored e j).host := rfl
    rw [← hhost] at hres hsize hcode hrest
    refine ⟨_, hcomplete, ?_⟩
    clear hcomplete hhost
    generalize (s.zstStored e j).zstCounted e = u at *
    by_cases hquiet : bit j.flags 3 = true
    · rw [if_pos hquiet]
      exact ⟨hfree, hres, hsize, hcode, hrest, hhead, hdone, fun _ => hraised, fun h => absurd (hquiet.symm.trans h) (by decide), by rwa [hraised]⟩
    · obtain ⟨r, hraise, htyp, hsrc, hdst⟩ :=
        State.evDone_raise (s := u) (typ := j.code) (src := srcZST) (inst := e) (q := j.q) (payload := j.tag + 2 ^ 32 * j.op)
      have hrec : (u.raise r).raised = s.raised ++ [r] := congrArg (· ++ [r]) hraised
      rw [if_neg hquiet, hraise]
      refine ⟨hfree, hres, hsize, hcode, hrest, hhead, hdone, fun h => absurd h hquiet, fun _ => ⟨r, hrec, htyp.trans hc, hsrc, hdst⟩, ?_⟩
      rw [State.raise]
      generalize u.raised ++ [r] = raised
      rw [hframe]

end Sys2Proof.Machine
namespace Sys2Proof.Machine

/-! ### Register pairs and undefined content -/

section

variable {s : State} {a x v : Nat} {b : Byte} {lo hi : Reg} {ix : List Nat} {l : List (Nat × Nat × Nat)}

theorem State.rd64_lt : s.rd64 lo hi ix < 2 ^ 64 := by
  have hlo : s.rd lo ix < 2 ^ 32 := State.rd_lt
  have hhi : s.rd hi ix < 2 ^ 32 := State.rd_lt
  unfold State.rd64
  omega

/-- A pair just written is read back. -/
theorem State.rd64_wr64 (h : rising s.regs = true) (hne : lo.key ix ≠ hi.key ix) (hv : v < 2 ^ 64) :
    (s.wr64 lo hi ix v).rd64 lo hi ix = v := by
  have hhi : v / 2 ^ 32 < 2 ^ 32 := by omega
  rw [State.rd64, State.wr64, State.rd_wr_ne hne.symm, State.rd_wr_same h, State.rd_wr_same (State.rising_wr h), Nat.mod_mod, Nat.mod_mod,
    Nat.mod_eq_of_lt hhi]
  exact Nat.mod_add_div v (2 ^ 32)

/-- The seed of the range of a list that holds a byte. -/
def seedAt (l : List (Nat × Nat × Nat)) (x : Nat) : Option Nat :=
  (l.find? fun r => decide (r.1 ≤ x) && decide (x < r.1 + r.2.1)).map fun r => r.2.2

theorem seedAt_cons {r : Nat × Nat × Nat} : seedAt (r :: l) x = if r.1 ≤ x ∧ x < r.1 + r.2.1 then some r.2.2 else seedAt l x := by
  by_cases h : r.1 ≤ x ∧ x < r.1 + r.2.1
  · rw [if_pos h, seedAt, List.find?_cons_of_pos (by simpa using h)]
    rfl
  · rw [if_neg h, seedAt, List.find?_cons_of_neg (by simpa using h)]
    rfl

theorem seedAt_append {m : List (Nat × Nat × Nat)} : seedAt (l ++ m) x = (seedAt l x).or (seedAt m x) := by
  simp only [seedAt, List.find?_append, Option.map_or]

/-- What is left of a range without one byte. -/
theorem seedAt_carve_one (r : Nat × Nat × Nat) :
    seedAt (State.carve a 1 [r]) x = if x = a then none else if r.1 ≤ x ∧ x < r.1 + r.2.1 then some r.2.2 else none := by
  have hnil : seedAt [] x = none := rfl
  have hcarve : State.carve a 1 [r] = (if min (r.1 + r.2.1) a - r.1 = 0 then [] else [(r.1, min (r.1 + r.2.1) a - r.1, r.2.2)]) ++
      if r.1 + r.2.1 ≤ max r.1 (a + 1) then [] else [(max r.1 (a + 1), r.1 + r.2.1 - max r.1 (a + 1), r.2.2)] := by
    simp [State.carve]
  have hbelow : seedAt (if min (r.1 + r.2.1) a - r.1 = 0 then [] else [(r.1, min (r.1 + r.2.1) a - r.1, r.2.2)]) x =
      if r.1 ≤ x ∧ x < r.1 + r.2.1 ∧ x < a then some r.2.2 else none := by
    split
    · rw [hnil, if_neg (by omega)]
    · rw [seedAt_cons, hnil]
      exact if_congr (by dsimp only; omega) rfl rfl
  have habove : seedAt (if r.1 + r.2.1 ≤ max r.1 (a + 1) then [] else [(max r.1 (a + 1), r.1 + r.2.1 - max r.1 (a + 1), r.2.2)]) x =
      if r.1 ≤ x ∧ x < r.1 + r.2.1 ∧ a < x then some r.2.2 else none := by
    split
    · rw [hnil, if_neg (by omega)]
    · rw [seedAt_cons, hnil]
      exact if_congr (by dsimp only; omega) rfl rfl
  rw [hcarve, seedAt_append, hbelow, habove]
  rcases Nat.lt_trichotomy x a with h | h | h
  · rw [if_neg (by omega : ¬(r.1 ≤ x ∧ x < r.1 + r.2.1 ∧ a < x)), if_neg (Nat.ne_of_lt h), Option.or_none]
    exact if_congr (by omega) rfl rfl
  · rw [if_neg (by omega), if_neg (by omega), if_pos h]
    rfl
  · rw [if_neg (by omega : ¬(r.1 ≤ x ∧ x < r.1 + r.2.1 ∧ x < a)), if_neg (Nat.ne_of_gt h), Option.none_or]
    exact if_congr (by omega) rfl rfl

/-- Ranges carved by one byte lose that byte and no other. -/
theorem seedAt_carve : seedAt (State.carve a 1 l) x = if x = a then none else seedAt l x := by
  induction l with
  | nil => exact (ite_self _).symm
  | cons r l ih =>
    have hcons : State.carve a 1 (r :: l) = State.carve a 1 [r] ++ State.carve a 1 l := by simp [State.carve]
    rw [hcons, seedAt_append, ih, seedAt_carve_one, seedAt_cons]
    by_cases h : x = a
    · simp [h]
    · by_cases hr : r.1 ≤ x ∧ x < r.1 + r.2.1 <;> simp [h, hr]

/-- A byte written to HBM while no channel is down. -/
theorem State.hbmByte_hbmWrite (hd : s.hbmc.down = []) (hh : rising s.hbm = true) :
    (s.hbmWrite a [b]).hbmByte x = if x = a then b else s.hbmByte x := by
  have hwrite : s.hbmWrite a [b] = { s with hbm := s.hbm.write a [b], undef := State.carve a 1 s.undef } := by
    rw [State.hbmWrite, hd]
    rfl
  have hundef : (s.hbmWrite a [b]).undefAt x = if x = a then none else s.undefAt x := by
    rw [hwrite]
    exact seedAt_carve
  have hmem : (s.hbmWrite a [b]).hbm = s.hbm.write a [b] := by rw [hwrite]
  rw [State.hbmByte, State.hbmByte, hundef, hmem]
  by_cases h : x = a
  · subst h
    rw [if_pos rfl, if_pos rfl]
    exact Mem.get_write_at (i := 0) hh (by simp)
  · have hget : (s.hbm.write a [b]).get x = s.hbm.get x := by
      refine Mem.get_write_out ?_
      rw [List.length_singleton]
      omega
    rw [if_neg h, if_neg h, hget]

end

/-! ### The bulk port (R53 to R57) -/

section

variable {s t : State} {v n : Nat} {x y : List (Bool × Byte)} {b : Byte} {en : Bool}

/-- The fields of BULK_CTRL that a write with arm = 1 takes with it (R36). -/
def bulkCtrlRow : RegRow := ⟨R.BULK_CTRL, [Fl.BULK_CTRL_dir, Fl.BULK_CTRL_target, Fl.BULK_CTRL_mode]⟩

theorem bulkCtrlRow_sound : bulkCtrlRow.Sound := by decide

theorem State.bulkCtrl_changedIn : RegFile.ChangedIn (fun k => k = R.BULK_CTRL.key []) s.regs (s.writeFields bulkCtrlRow [] v).regs :=
  ⟨State.rising_writeFields, fun _ _ h => State.writeFields_rd_ne bulkCtrlRow_sound (Ne.symm h)⟩

theorem exec_bulkArm_reached (h : s.reaches .bulk = true) : exec (.bulkArm v) s = .next (s.writeFields bulkCtrlRow [] v).bulkStart := by
  rw [exec_bulkArm, execBulkArm, State.onUnit_reached h]
  rfl

theorem exec_bulkWrite_reached (h : s.reaches .bulk = true) : exec (.bulkWrite x) s = .next (s.bulkWriteBytes x) := by
  rw [exec_bulkWrite, execBulkWrite, if_pos h]

/-- The setup of a session, as it is armed (R54). -/
def State.bulkSetup (s : State) : State :=
  { s with bulk := ⟨s.get Fl.BULK_CTRL_target, s.get Fl.BULK_CTRL_mode, s.flag Fl.BULK_CTRL_dir, s.rd64 R.BULK_ADDR_LO R.BULK_ADDR_HI,
                    s.get Fl.BULK_WIDTH_width, s.rd R.BULK_STRIDE, s.get Fl.BULK_ROWS_rows, 0, 0⟩ }

/-- A session that starts at an address. -/
def State.bulkBegun (s : State) (a : Nat) : State :=
  ((s.wr64 R.BULK_CUR_LO R.BULK_CUR_HI [] a).put Fl.BULK_STAT_active [] 1).put Fl.BULK_CTRL_arm [] 1

theorem State.bulkStart_ok (ha : s.bulkActive = false) (hok : s.bulkSetupOk = true) :
    s.bulkStart = s.bulkSetup.bulkBegun (s.rd64 R.BULK_ADDR_LO R.BULK_ADDR_HI) := by
  rw [State.bulkStart, if_neg (by simp [ha]), if_neg (by simp [hok])]
  rfl

theorem State.bulkStart_refused (ha : s.bulkActive = false) (hok : s.bulkSetupOk = false) : s.bulkStart = s.put Fl.BULK_STAT_setup [] 1 := by
  rw [State.bulkStart, if_neg (by simp [ha]), if_pos (by simp [hok])]

theorem State.bulkBegun_frame {a : Nat} : s.bulkBegun a = { s with regs := (s.bulkBegun a).regs } := rfl

/-- A session that starts in a state that differs from `s` by its registers only. -/
theorem State.bulkArmed_frame {a : Nat} (h : t = { s with regs := t.regs }) :
    t.bulkSetup.bulkBegun a = { s with regs := (t.bulkSetup.bulkBegun a).regs, bulk := t.bulkSetup.bulk } := by
  have hsetup : t.bulkSetup = { t with bulk := t.bulkSetup.bulk } := rfl
  rw [State.bulkBegun_frame]
  generalize (t.bulkSetup.bulkBegun a).regs = g
  rw [hsetup]
  generalize t.bulkSetup.bulk = k
  rw [h]

/-- What a session that starts shows. -/
theorem State.bulkBegun_shown {a : Nat} (h : rising s.regs = true) (hv : a < 2 ^ 64) : (s.bulkBegun a).bulkActive = true ∧
    (s.bulkBegun a).flag Fl.BULK_CTRL_arm = true ∧ (s.bulkBegun a).rd64 R.BULK_CUR_LO R.BULK_CUR_HI = a := by
  have hcur : rising (s.wr64 R.BULK_CUR_LO R.BULK_CUR_HI [] a).regs = true := State.rising_wr (State.rising_wr h)
  have hactive : ((s.wr64 R.BULK_CUR_LO R.BULK_CUR_HI [] a).put Fl.BULK_STAT_active [] 1).flag Fl.BULK_STAT_active = true :=
    State.flag_put_same (b := true) hcur (by decide) rfl
  refine ⟨?_, State.flag_put_same (b := true) (State.rising_put hcur) (by decide) rfl, ?_⟩
  · rw [← hactive]
    exact State.flag_of_changedIn (K := fun k => k = R.BULK_CTRL.key []) (State.put_changedIn rfl) (by decide)
  · have hrest : RegFile.ChangedIn (fun k => k = R.BULK_STAT.key [] ∨ k = R.BULK_CTRL.key []) (s.wr64 R.BULK_CUR_LO R.BULK_CUR_HI [] a).regs
        (s.bulkBegun a).regs := RegFile.ChangedIn.trans (State.put_changedIn (.inl rfl)) (State.put_changedIn (.inr rfl))
    rw [State.rd64_of_changedIn hrest (by decide) (by decide), State.rd64_wr64 h (by decide) hv]

/-! Bytes. -/

theorem State.bulkWriteBytes_append : s.bulkWriteBytes (x ++ y) = (s.bulkWriteBytes x).bulkWriteBytes y := by
  induction x generalizing s with
  | nil => rfl
  | cons e x ih =>
    obtain ⟨en, b⟩ := e
    rw [List.cons_append, State.bulkWriteBytes, State.bulkWriteBytes]
    split
    · exact ih
    · exact ih

/-- A place that moves on changes the session and the registers that show it. -/
theorem State.bulkStep_frame : s.bulkStep = { s with regs := s.bulkStep.regs, bulk := s.bulkStep.bulk } := by
  unfold State.bulkStep
  extract_lets b u w
  split <;> rfl

theorem State.bulkWriteBytes_one (ha : s.bulkActive = true) (hw : s.bulk.rd = false) :
    s.bulkWriteBytes [(true, b)] = (s.bulkPut (State.bulkAddr s.bulk) b).bulkStep := by
  rw [State.bulkWriteBytes, if_pos (by simp [ha, hw])]
  rfl

/-- A byte that comes in outside a write session. -/
theorem State.bulkWriteBytes_outside (h : s.bulkActive = false ∨ s.bulk.rd = true) :
    s.bulkWriteBytes [(en, b)] = s.put Fl.BULK_STAT_overrun [] 1 := by
  have hno : ¬(s.bulkActive && decide ¬s.bulk.rd = true) = true := by
    rcases h with h | h <;> simp [h]
  rw [State.bulkWriteBytes, if_neg hno, State.bulkWriteBytes]

theorem State.bulkPut_mram {a : Nat} (ht : s.bulk.target = 2) (ha : a < 0x4000000) (hw : State.mramWritable a = true)
    (hb : s.flag Fl.CPR_DUSK_STAT_below = false) : s.bulkPut a b = (s.mramWrite a [b]).inc Fl.BULK_BYTES_count := by
  unfold State.bulkPut
  rw [ht]
  dsimp only
  rw [if_neg (Nat.not_le_of_lt ha), hw, hb]
  rfl

theorem State.bulkPut_hbm {a : Nat} (ht : s.bulk.target = 0) (hm : s.mapped a = true)
    (hp : State.reservedLo ≤ a → State.inStaging a = true) : s.bulkPut a b = (s.hbmWrite a [b]).inc Fl.BULK_BYTES_count := by
  unfold State.bulkPut
  rw [ht]
  exact (if_pos hm).trans (if_neg fun h => h.2 (hp h.1))

theorem State.bulkReadBytes_one (ha : s.bulkActive = true) (hr : s.bulk.rd = true) (ht : s.bulk.target = 0)
    (hm : s.mapped (State.bulkAddr s.bulk) = true) : s.bulkReadBytes [] false 1 =
      ([s.hbmByte (State.bulkAddr s.bulk)], s.poisonedAt (State.bulkAddr s.bulk) 1, (s.inc Fl.BULK_BYTES_count).bulkStep) := by
  have hget : s.bulkGet (State.bulkAddr s.bulk) =
      (s.hbmByte (State.bulkAddr s.bulk), s.poisonedAt (State.bulkAddr s.bulk) 1, s.inc Fl.BULK_BYTES_count) := by
    unfold State.bulkGet
    rw [ht]
    exact if_pos hm
  rw [State.bulkReadBytes, if_pos (by simp [ha, hr]), hget]
  rfl

/-- A byte that is read outside a read session. -/
theorem State.bulkReadBytes_outside (h : s.bulkActive = false ∨ s.bulk.rd = false) :
    s.bulkReadBytes [] false 1 = ([0xFF], false, s.put Fl.BULK_STAT_overrun [] 1) := by
  have hno : ¬(s.bulkActive && s.bulk.rd) = true := by
    rcases h with h | h <;> simp [h]
  rw [State.bulkReadBytes, if_neg hno]
  rfl

theorem exec_bulkRead_reached {l : Bytes} {bad : Bool} (h : s.reaches .bulk = true) (hread : s.bulkReadBytes [] false n = (l, bad, t)) :
    exec (.bulkRead n) s = .next ((if bad then t.put Fl.BULK_STAT_poison [] 1 else t).emit (.bytes l bad)) := by
  rw [exec_bulkRead, execBulkRead, if_neg (by simp [h]), hread]

end

/-- Settles O11: the setup of a session, a byte by target, and what a byte outside a session does. -/
theorem bulkSession : Obligations.BulkSession := by
  refine ⟨?_, ?_, ?_, ?_, ?_, ?_, ?_, ?_, ?_⟩
  · intro v s hreach hrise ha hok
    let u := s.writeFields bulkCtrlRow [] v
    have hu : RegFile.ChangedIn (fun k => k = R.BULK_CTRL.key []) s.regs u.regs := State.bulkCtrl_changedIn
    have hactive : u.bulkActive = false := (State.flag_of_changedIn hu (by decide)).trans ha
    have haddr : u.rd64 R.BULK_ADDR_LO R.BULK_ADDR_HI = s.rd64 R.BULK_ADDR_LO R.BULK_ADDR_HI :=
      State.rd64_of_changedIn hu (by decide) (by decide)
    have hframe : u = { s with regs := u.regs } := State.writeFields_frame
    obtain ⟨hshown, harm, hcur⟩ := State.bulkBegun_shown (s := u.bulkSetup) (a := u.rd64 R.BULK_ADDR_LO R.BULK_ADDR_HI) (hu.rising hrise)
      State.rd64_lt
    refine ⟨_, exec_bulkArm_reached hreach, ?_⟩
    rw [State.bulkStart_ok hactive hok]
    exact ⟨hshown, harm, hcur.trans haddr, haddr, State.get_of_changedIn hu (by decide), State.get_of_changedIn hu (by decide), rfl, rfl,
      State.bulkArmed_frame hframe⟩
  · intro v s hreach hrise ha hok
    let u := s.writeFields bulkCtrlRow [] v
    have hu : RegFile.ChangedIn (fun k => k = R.BULK_CTRL.key []) s.regs u.regs := State.bulkCtrl_changedIn
    have hactive : u.bulkActive = false := (State.flag_of_changedIn hu (by decide)).trans ha
    have hframe : u = { s with regs := u.regs } := State.writeFields_frame
    refine ⟨_, exec_bulkArm_reached hreach, ?_⟩
    rw [State.bulkStart_refused hactive hok]
    refine ⟨?_, State.flag_put_same (b := true) (hu.rising hrise) (by decide) rfl, ?_⟩
    · exact (State.flag_put_apart (d := Fl.BULK_STAT_setup) (d' := Fl.BULK_STAT_active) (hu.rising hrise) rfl (by decide) (by decide) (by decide)
        (by decide)).trans hactive
    · show u.put Fl.BULK_STAT_setup [] 1 = { s with regs := (u.put Fl.BULK_STAT_setup [] 1).regs }
      generalize u = w at hframe
      rw [hframe]
      rfl
  · intro x y s t u hs hx hy ht
    rw [exec_bulkWrite_reached hs] at hx
    rw [exec_bulkWrite_reached ht] at hy
    rw [exec_bulkWrite_reached hs, State.bulkWriteBytes_append, Host.Outcome.next.inj hx]
    exact hy
  · intro b s hreach _ ha hw ht haddr hwritable hbelow hm
    have hmram : ((s.bulkPut (State.bulkAddr s.bulk) b).bulkStep).mram = s.mram.write (State.bulkAddr s.bulk) [b] := by
      rw [State.bulkStep_frame, State.bulkPut_mram ht haddr hwritable hbelow]
      rfl
    refine ⟨_, exec_bulkWrite_reached hreach, ?_⟩
    rw [State.bulkWriteBytes_one ha hw, hmram]
    refine ⟨Mem.get_write_at (i := 0) hm (by simp), fun a hne => Mem.get_write_out ?_⟩
    rw [List.length_singleton]
    omega
  · intro b s hreach _ ha hw ht hmap hprot hdown hh
    have hbyte : ∀ a, ((s.bulkPut (State.bulkAddr s.bulk) b).bulkStep).hbmByte a = (s.hbmWrite (State.bulkAddr s.bulk) [b]).hbmByte a := by
      intro a
      rw [State.bulkStep_frame, State.bulkPut_hbm ht hmap hprot]
      rfl
    refine ⟨_, exec_bulkWrite_reached hreach, ?_⟩
    rw [State.bulkWriteBytes_one ha hw]
    refine ⟨?_, fun a hne => ?_⟩
    · rw [hbyte, State.hbmByte_hbmWrite hdown hh, if_pos rfl]
    · rw [hbyte, State.hbmByte_hbmWrite hdown hh, if_neg hne]
  · intro en b s hreach hrise h
    refine ⟨_, exec_bulkWrite_reached hreach, ?_⟩
    rw [State.bulkWriteBytes_outside h]
    exact ⟨State.flag_put_same (b := true) hrise (by decide) rfl, rfl⟩
  · intro s hreach _ ha hr ht hm
    refine ⟨_, exec_bulkRead_reached hreach (State.bulkReadBytes_one ha hr ht hm), ?_⟩
    rw [State.bulkStep_frame]
    split <;> rfl
  · intro s hreach hrise h
    exact ⟨_, exec_bulkRead_reached hreach (State.bulkReadBytes_outside h), rfl, State.flag_put_same (b := true) hrise (by decide) rfl⟩
  · intro n s hreach
    rw [exec_bulkRead, execBulkRead, if_pos (by simp [hreach])]
    rfl

end Sys2Proof.Machine
namespace Sys2Proof.Machine

/-! ### Host reads, the mirror and snapshots (R22, R26 to R30, R147 to R149) -/

section

variable {s t : State} {rq off hoff size e d w : Nat} {lo hi : Reg} {row : RegRow} {ix jx : List Nat} {b : Blk}
  {f : State → Nat → Nat × State}

/-! Accesses to a unit that is off (R30). -/

/-- The fabric sees an access that it cannot pass on. -/
theorem State.onUnit_off {g : State → State} (h : s.reaches b = false) (h2 : s.domainOn 2 = true) (h17 : s.domainOn 17 = true) :
    s.onUnit b g = s.put Fl.DEV_STATUS_off_access [] 1 := by
  rw [State.onUnit, if_neg (by simp [h]), if_pos (by simp [h2, h17])]

theorem State.offAccess_shown (hr : rising s.regs = true) : (s.put Fl.DEV_STATUS_off_access [] 1).flag Fl.DEV_STATUS_off_access = true :=
  State.flag_put_same (b := true) hr (by decide) rfl

/-! Words and what a read of them returns (R26). -/

theorem readBytes_word (h : off % 4 = 0) : readBytes f off 4 s = ((f s off).1 % 2 ^ 32, (f s off).2) := by
  have hoff : off / 4 * 4 = off := Nat.div_mul_cancel (Nat.dvd_of_mod_eq_zero h)
  rw [readBytes, if_neg (by simp [h]), if_neg (by decide), hoff, h]
  simp

theorem readBytes_misaligned (h : off % size ≠ 0) : readBytes f off size s = (2 ^ (8 * size) - 1, s) := if_pos h

theorem State.readLive_lt : s.readLive off < 2 ^ 32 := by
  unfold State.readLive
  split
  · split
    · exact State.rd_lt
    · exact Nat.two_pow_pos 32
  · exact Nat.two_pow_pos 32

theorem State.regRead_off (h : s.reaches (blockOf off) = false) : State.regRead rq s off = (0xFFFFFFFF, s.onUnit (blockOf off) id) := by
  rw [State.regRead, if_pos (by simp [h])]

/-- A read of a _LO half (R27). -/
theorem State.regRead_lo (h : s.reaches (blockOf off) = true) (hreg : findReg off = some (row, jx)) (hsem : row.reg ≠ R.ORD_SEM_ACQ)
    (hfifo : State.fifoReg row.reg = none) (hpair : findPair false off = some (lo, hi, ix)) :
    State.regRead rq s off = (s.readLive off, s.latchHi rq (hi.off + instOffset hi.dims ix)) := by
  rw [State.regRead, if_neg (by simp [h]), hreg]
  dsimp only
  rw [if_neg hsem, hfifo, hpair]

/-- A read of a register that is no _LO half. -/
theorem State.regRead_other (h : s.reaches (blockOf off) = true) (hreg : findReg off = some (row, jx)) (hsem : row.reg ≠ R.ORD_SEM_ACQ)
    (hfifo : State.fifoReg row.reg = none) (hpair : findPair false off = none) :
    State.regRead rq s off = (if (findPair true off).isSome then s.readHi rq off else s.readLive off, s) := by
  rw [State.regRead, if_neg (by simp [h]), hreg]
  dsimp only
  rw [if_neg hsem, hfifo, hpair]

theorem exec_loReadLatch_bar0 (h : off < 0x2000000) : exec (.loReadLatch rq off .bar0 size) s =
    .next ((readBytes (State.regRead rq) off size s).2.emit (.read rq off (readBytes (State.regRead rq) off size s).1)) := by
  rw [exec_loReadLatch, execLoReadLatch, State.hostRead]
  exact congrArg Host.Outcome.next (if_neg (Nat.not_le_of_lt h))

/-! Latched halves (R27). -/

theorem State.latchHi_find_same : ((s.latchHi rq hoff).latch.find? fun x => decide (x.1 = rq) && decide (x.2.1 = hoff)) =
    some (rq, hoff, s.readHost hoff) :=
  List.find?_cons_of_pos (by simp)

theorem State.latchHi_find_ne {rq' o : Nat} (h : (rq', o) ≠ (rq, hoff)) :
    ((s.latchHi rq hoff).latch.find? fun x => decide (x.1 = rq') && decide (x.2.1 = o)) =
      s.latch.find? fun x => decide (x.1 = rq') && decide (x.2.1 = o) := by
  have hpair : ¬(rq = rq' ∧ hoff = o) := fun hh => h (by rw [hh.1, hh.2])
  rw [State.latchHi, List.find?_cons_of_neg (by simpa using hpair)]
  refine find?_filter_of_imp (fun x hx => ?_) s.latch
  obtain ⟨h1, h2⟩ : x.1 = rq' ∧ x.2.1 = o := by simpa using hx
  have hne : ¬(rq' = rq ∧ o = hoff) := fun hh => hpair ⟨hh.1.symm, hh.2.symm⟩
  simp [h1, h2, ← Bool.decide_and, hne]

/-- The half that its requester then reads is the one latched. -/
theorem State.readHi_latchHi : (s.latchHi rq hoff).readHi rq hoff = s.readHost hoff := by
  have hreach : (s.latchHi rq hoff).reaches (blockOf hoff) = s.reaches (blockOf hoff) := rfl
  rw [State.readHi, hreach, State.latchHi_find_same]
  by_cases h : s.reaches (blockOf hoff) = true
  · rw [if_pos h]
  · rw [if_neg h, State.readHost, if_neg h]

theorem State.readHi_emit {o : Out} : (s.emit o).readHi rq off = s.readHi rq off := rfl

/-! The mirror (R29, R149). -/

theorem State.mirrorBytes_word (h : off % 4 = 0) : s.mirrorBytes off 4 = s.mirrorWord off % 2 ^ 32 := by
  rw [State.mirrorBytes, readBytes_word h]

/-- What the mirror returns hangs on the snapshot and on the bit that says there is one. -/
theorem State.mirrorWord_congr (hm : t.mirror = s.mirror) (hv : t.flag Fl.DEV_STATUS_mirror_valid = s.flag Fl.DEV_STATUS_mirror_valid) :
    t.mirrorWord off = s.mirrorWord off := by
  simp only [State.mirrorWord, hm, hv]

theorem State.mirrorBytes_congr (hm : t.mirror = s.mirror) (hr : t.regs = s.regs) : t.mirrorBytes off size = s.mirrorBytes off size := by
  have hv : t.flag Fl.DEV_STATUS_mirror_valid = s.flag Fl.DEV_STATUS_mirror_valid := by
    rw [State.flag, State.flag, State.get_congr hr]
  simp only [State.mirrorBytes, readBytes, State.mirrorWord_congr hm hv]
  split
  · rfl
  · split <;> rfl

theorem State.mirrorRead_served (h : s.reaches .dev = true) (hgo : s.flag Fl.DEV_SNAP_go = false) :
    s.mirrorRead off size = s.emit (.read 1 (off + 0x2000000) (s.mirrorBytes off size)) := by
  rw [State.mirrorRead, if_neg (by simp [h]), if_neg (by simp [hgo])]

theorem State.mirrorRead_held (h : s.reaches .dev = true) (hgo : s.flag Fl.DEV_SNAP_go = true) (ho : off % size = 0) :
    s.mirrorRead off size = { s with heldReads := s.heldReads ++ [(off, size)] } := by
  rw [State.mirrorRead, if_neg (by simp [h]), if_pos (by simp [hgo, ho])]

theorem State.mirrorWord_invalid (h : s.flag Fl.DEV_STATUS_mirror_valid = false) : s.mirrorWord off = 0 := by
  rw [State.mirrorWord, if_pos (by simp [h])]

/-! Snapshots (R147). -/

theorem unsigned_lt (n : Nat) (i : Int) : unsigned n i < 2 ^ n := by
  have hpos : (0 : Int) < (2 ^ n : Nat) := Int.natCast_pos.mpr (Nat.two_pow_pos n)
  exact (Int.toNat_lt (Int.emod_nonneg i hpos.ne')).mpr (Int.emod_lt_of_pos i hpos)

theorem State.dt_of_changedIn {K : Nat → Prop} (h : RegFile.ChangedIn K s.regs t.regs) (ht : t.time = s.time)
    (hk : ¬K (R.TIME_DT_STAT.key [])) : t.dt = s.dt := by
  rw [State.dt, State.dt, State.dtFine, State.dtFine, State.get_of_changedIn h (d := Fl.TIME_DT_STAT_active) hk, ht]

/-- A snapshot of epoch `e` and time `d` shown. -/
def State.snapAt (s : State) (e d : Nat) : State :=
  (((s.wr R.DEV_SNAP_EPOCH [] e).wr64 R.DEV_SNAP_TIME_LO R.DEV_SNAP_TIME_HI [] d).put Fl.DEV_STATUS_mirror_valid [] 1).put Fl.DEV_SNAP_go [] 1

theorem State.snap_taken (h : s.flag Fl.DEV_SNAP_go = false) :
    s.snap = ({ s with mirror := s.capture } : State).snapAt (s.rd R.DEV_EPOCH_IN) s.dt := by
  have hdt : (({ s with mirror := s.capture } : State).wr R.DEV_SNAP_EPOCH [] (s.rd R.DEV_EPOCH_IN)).dt = s.dt :=
    State.dt_of_changedIn (K := fun k => k = R.DEV_SNAP_EPOCH.key []) (State.wr_changedIn (s := { s with mirror := s.capture }) rfl) rfl
      (by decide)
  rw [State.snapAt, ← hdt, State.snap, if_neg (by simp [h])]
  rfl

theorem State.snapAt_frame : s.snapAt e d = { s with regs := (s.snapAt e d).regs } := rfl

theorem State.snapAt_shown (hr : rising s.regs = true) (he : e < 2 ^ 32) (hd : d < 2 ^ 64) : (s.snapAt e d).flag Fl.DEV_SNAP_go = true ∧
    (s.snapAt e d).flag Fl.DEV_STATUS_mirror_valid = true ∧ (s.snapAt e d).rd R.DEV_SNAP_EPOCH = e ∧
    (s.snapAt e d).rd64 R.DEV_SNAP_TIME_LO R.DEV_SNAP_TIME_HI = d := by
  let u := s.wr R.DEV_SNAP_EPOCH [] e
  let v := u.wr64 R.DEV_SNAP_TIME_LO R.DEV_SNAP_TIME_HI [] d
  have hu : rising u.regs = true := State.rising_wr hr
  have hv : rising v.regs = true := State.rising_wr (State.rising_wr hu)
  have hlast : RegFile.ChangedIn (fun k => k = R.DEV_SNAP.key []) (v.put Fl.DEV_STATUS_mirror_valid [] 1).regs (s.snapAt e d).regs :=
    State.put_changedIn rfl
  have hrest : RegFile.ChangedIn (fun k => k = R.DEV_STATUS.key [] ∨ k = R.DEV_SNAP.key []) v.regs (s.snapAt e d).regs :=
    RegFile.ChangedIn.trans (State.put_changedIn (.inl rfl)) (State.put_changedIn (.inr rfl))
  have htime : RegFile.ChangedIn (fun k => k = R.DEV_SNAP_TIME_LO.key [] ∨ k = R.DEV_SNAP_TIME_HI.key []) u.regs v.regs :=
    RegFile.ChangedIn.trans (State.wr_changedIn (.inl rfl)) (State.wr_changedIn (.inr rfl))
  refine ⟨State.flag_put_same (b := true) (State.rising_put hv) (by decide) rfl, ?_, ?_, ?_⟩
  · rw [State.flag_of_changedIn hlast (by decide)]
    exact State.flag_put_same (b := true) hv (by decide) rfl
  · rw [State.rd_of_changedIn hrest (by decide), State.rd_of_changedIn htime (by decide), State.rd_wr_same hr, Nat.mod_eq_of_lt he]
  · rw [State.rd64_of_changedIn hrest (by decide) (by decide), State.rd64_wr64 hu (by decide) hd]

/-- The end of a snapshot (R149): the reads held for it are answered, in order, from the new snapshot. -/
def State.snapEnded (s : State) : State :=
  { s.put Fl.DEV_SNAP_go [] 0 with
    heldReads := []
    out := s.out ++ s.heldReads.map fun x => .read 1 (x.1 + 0x2000000) ((s.put Fl.DEV_SNAP_go [] 0).mirrorBytes x.1 x.2) }

theorem exec_snapComplete_going (h : s.flag Fl.DEV_SNAP_go = true) : exec .snapComplete s = .next s.snapEnded := by
  have hbytes : ∀ (u : State) (o : Out) (x : Nat × Nat), (u.emit o).mirrorBytes x.1 x.2 = u.mirrorBytes x.1 x.2 :=
    fun _ _ _ => State.mirrorBytes_congr rfl rfl
  have hheld : ∀ x : Nat × Nat, ({ s.put Fl.DEV_SNAP_go [] 0 with heldReads := [] } : State).mirrorBytes x.1 x.2 =
      (s.put Fl.DEV_SNAP_go [] 0).mirrorBytes x.1 x.2 := fun _ => State.mirrorBytes_congr rfl rfl
  rw [exec_snapComplete, execSnapComplete, if_pos h]
  dsimp only
  rw [State.foldl_emit (fun u o x => by rw [hbytes])]
  simp only [hheld]
  rfl

end

/-- Settles O7: a read by what stands at its offset, the latch as a list of which the first entry counts, a snapshot as a write of the mirror. -/
theorem hostReadsAndSnapshots : Obligations.HostReadsAndSnapshots := by
  refine ⟨⟨?_, ?_⟩, ⟨?_, ?_, ?_, ?_, ?_, ?_, ?_, ?_⟩, ?_, ?_⟩
  · intro off rd s hr h h2 h17
    refine ⟨_, by rw [exec_offDomainAccess, execOffDomainAccess, if_neg (by simp [h]), State.onUnit_off h h2 h17], ?_⟩
    have hrest : ∀ (r : Reg) (ix : List Nat), r.key ix ≠ R.DEV_STATUS.key [] →
        (s.put Fl.DEV_STATUS_off_access [] 1).rd r ix = s.rd r ix := fun r ix hk => State.rd_put_ne (Ne.symm hk)
    cases rd with
    | true => exact ⟨State.offAccess_shown hr, rfl, rfl, hrest⟩
    | false => exact ⟨State.offAccess_shown hr, (List.append_nil _).symm, rfl, hrest⟩
  · intro s
    rfl
  · intro rq off lo hi row ix jx s hpair halign hoff hreg hsem hfifo hreach
    have hread := State.regRead_lo (rq := rq) hreach hreg hsem hfifo hpair
    refine ⟨_, exec_loReadLatch_bar0 hoff, ?_⟩
    rw [readBytes_word halign, hread, Nat.mod_eq_of_lt State.readLive_lt]
    refine ⟨rfl, ?_, fun rq' o hne => State.latchHi_find_ne hne, rfl⟩
    rw [State.readHi_emit, State.readHi_latchHi]
  · intro rq off row jx s hpair halign hoff hreg hsem hfifo hreach
    rw [exec_loReadLatch_bar0 hoff, readBytes_word halign, State.regRead_other hreach hreg hsem hfifo hpair]
    dsimp only
    split
    · rfl
    · rw [Nat.mod_eq_of_lt State.readLive_lt]
      rfl
  · intro rq off s halign hoff hr h h2 h17
    refine ⟨_, exec_loReadLatch_bar0 hoff, ?_⟩
    rw [readBytes_word halign, State.regRead_off h, State.onUnit_off h h2 h17]
    exact ⟨rfl, State.offAccess_shown hr, rfl⟩
  · intro rq off size s halign hoff
    rw [exec_loReadLatch_bar0 hoff, readBytes_misaligned halign]
    rfl
  · intro rq s h17 hid
    refine ⟨s.drawn.emit (.read rq 0 0x09041F3B), ?_, rfl, rfl⟩
    rw [exec_loReadLatch, execLoReadLatch, State.hostRead, if_pos h17, readBytes_word rfl, hid]
    rfl
  · intro off s hreach hgo halign
    rw [exec_mirrorRead, execMirrorRead, State.mirrorRead_served hreach hgo, State.mirrorBytes_word halign]
    rfl
  · intro off s hreach hgo halign
    rw [exec_mirrorRead, execMirrorRead, State.mirrorRead_held hreach hgo halign]
  · exact fun off s h => State.mirrorWord_invalid h
  · intro s hreach hgo hr
    obtain ⟨h1, h2, h3, h4⟩ := State.snapAt_shown (s := { s with mirror := s.capture }) (e := s.rd R.DEV_EPOCH_IN) (d := s.dt) hr State.rd_lt
      (unsigned_lt 64 _)
    refine ⟨_, by rw [exec_devSnap, execDevSnap, State.onUnit_reached hreach, State.snap_taken hgo], ?_⟩
    refine ⟨?_, h1, h2, h3, h4, ?_⟩
    · rw [State.snapAt_frame]
    · rw [State.snapAt_frame]
  · intro s hgo hr
    refine ⟨s.snapEnded, exec_snapComplete_going hgo, State.flag_put_same (b := false) hr (by decide) rfl, rfl, ?_, rfl, fun r ix hk => ?_⟩
    · have hbytes : ∀ x : Nat × Nat, s.snapEnded.mirrorBytes x.1 x.2 = (s.put Fl.DEV_SNAP_go [] 0).mirrorBytes x.1 x.2 :=
        fun _ => State.mirrorBytes_congr rfl rfl
      simp only [hbytes]
      rfl
    · exact State.rd_put_ne (Ne.symm hk)

end Sys2Proof.Machine
/-! The statements of spec/03_dravya_images.md, and of PTP, genlock and timecode (spec/14_cloku_time.md). -/

namespace Sys2Proof.Machine

/-! ### A field through a run of writes (R4) -/

/-- A write of field `e` at `jx` leaves field `d` at `ix`: it stands in another register, or shares no bit with it. -/
@[reducible] def Fld.Spares (e : Fld) (jx : List Nat) (d : Fld) (ix : List Nat) : Prop :=
  e.reg.key jx ≠ d.reg.key ix ∨ (e.reg = d.reg ∧ jx = ix ∧ e.lo ≤ e.hi ∧ e.hi < 32 ∧ d.lo ≤ d.hi ∧ e.Apart d)

/-- The register file is canonical, and a field of it reads `n`. -/
structure State.Shows (s : State) (d : Fld) (ix : List Nat) (n : Nat) : Prop where
  rising : rising s.regs = true
  get : s.get d ix = n

namespace State.Shows

variable {s t : State} {d e : Fld} {r : Reg} {ix jx : List Nat} {n v : Nat}

theorem of_put (hr : Machine.rising s.regs = true) (hl : d.lo ≤ d.hi) (hh : d.hi < 32) (hv : v < 2 ^ (d.hi + 1 - d.lo)) :
    (s.put d ix v).Shows d ix v :=
  ⟨State.rising_put hr, (State.get_put_same hr hh hl).trans (Nat.mod_eq_of_lt hv)⟩

theorem put (h : s.Shows d ix n) (hs : e.Spares jx d ix) : (s.put e jx v).Shows d ix n := by
  refine ⟨State.rising_put h.rising, Eq.trans ?_ h.get⟩
  rcases hs with hk | ⟨hr, rfl, hl, hh, hl', ha⟩
  · exact State.get_put_ne hk
  · exact State.get_put_apart h.rising hr hh hl hl' ha

theorem wr (h : s.Shows d ix n) (hk : r.key jx ≠ d.reg.key ix) : (s.wr r jx v).Shows d ix n :=
  ⟨State.rising_wr h.rising, (State.get_wr_ne hk).trans h.get⟩

theorem congr (h : s.Shows d ix n) (hregs : t.regs = s.regs) : t.Shows d ix n :=
  ⟨hregs ▸ h.rising, (State.get_congr hregs).trans h.get⟩

theorem flag_true (h : s.Shows d ix 1) : s.flag d ix = true := decide_eq_true h.get

theorem flag_false (h : s.Shows d ix 0) : s.flag d ix = false := decide_eq_false (by rw [h.get]; decide)

theorem flag_b2n {b : Bool} (h : s.Shows d ix (b2n b)) : s.flag d ix = b := by
  cases b with
  | false => exact h.flag_false
  | true => exact h.flag_true

theorem of_flag {b : Bool} (hr : Machine.rising s.regs = true) (hb : s.flag d ix = b) (hd : d.hi = d.lo) : s.Shows d ix (b2n b) := by
  have hlt : s.get d ix < 2 := by simpa [hd] using s.get_lt d ix
  refine ⟨hr, ?_⟩
  subst hb
  unfold State.flag b2n
  by_cases h : s.get d ix = 1 <;> simp [h]
  omega

end State.Shows

/-! ### DRV: an operation starts (R104, R116) -/

/-- The fields of DRV_CTRL that a write takes, with go or without. -/
def drvCtrlRow : RegRow := ⟨R.DRV_CTRL, [Fl.DRV_CTRL_arg, Fl.DRV_CTRL_op]⟩

theorem drvCtrlRow_sound : drvCtrlRow.Sound := by decide

/-- The commands that start an operation: its number and its checks. -/
def drvTable (v : Nat) : List (Instr × Nat × (State → DrvCode)) :=
  [(.drvValidate v, 0, State.chkValidate), (.drvStagePatch v, 1, State.chkStage), (.drvWriteSlotA v, 2, State.chkSlot),
    (.drvWriteSlotB v, 3, State.chkSlot), (.drvClearFailedDawn v, 4, fun t => t.chkSetting true),
    (.drvDiscardPatches v, 5, fun t => t.chkSetting false), (.drvRaiseFloor v, 6, fun t => t.chkSetting true),
    (.drvLoadFullImage v, 7, State.chkLoad), (.drvFuseKey v, 8, State.chkFuse), (.drvRevokeKey v, 9, State.chkRevoke)]

section

variable {s t : State} {v arg op : Nat} {c : Instr} {chk : State → DrvCode} {f : State → State} {k : DrvCode}

/-- DRV_CTRL holds the argument and the operation of a write. -/
def State.drvNamed (s : State) (arg op : Nat) : State := (s.put Fl.DRV_CTRL_arg [] arg).put Fl.DRV_CTRL_op [] op

/-- An operation runs, with the result of its checks. -/
def State.drvBegun (s : State) (op : Nat) (k : DrvCode) : State :=
  ((({ s with drv := { s.drv with run := some (op, k.1, k.2.1, k.2.2), patch := none, hdr := [] } } : State).put
    Fl.DRV_STAT_busy [] 1).put Fl.DRV_CTRL_go [] 1)

theorem State.writeFields_drvCtrl (ha : bits v 10 8 ≤ 3) (ho : bits v 7 4 ≤ 9) :
    s.writeFields drvCtrlRow [] v = s.drvNamed (bits v 10 8) (bits v 7 4) := by
  simp [State.writeFields, drvCtrlRow, State.drvNamed, imageOk, writeField, Allowed.ok, Fl.DRV_CTRL_arg, Fl.DRV_CTRL_op, ha, ho]

theorem State.drvStart_accepted (hr : rising s.regs = true) (hgo : bit v 0 = true) (ho : bits v 7 4 = op) (hop : op ≤ 9)
    (ha : bits v 10 8 ≤ 3) (hb : s.flag Fl.DRV_STAT_busy = false) :
    s.drvStart op v chk f =
      let u := s.drvNamed (bits v 10 8) op
      if (chk u).1 = 0 then f (u.drvBegun op (chk u)) else u.drvBegun op (chk u) := by
  have hwrite : s.writeFields ⟨R.DRV_CTRL, [Fl.DRV_CTRL_arg, Fl.DRV_CTRL_op]⟩ [] v = s.drvNamed (bits v 10 8) op :=
    (State.writeFields_drvCtrl ha (ho ▸ hop)).trans (by rw [ho])
  have hbusy : (s.drvNamed (bits v 10 8) op).flag Fl.DRV_STAT_busy = false :=
    (((State.Shows.of_flag hr hb rfl).put (by decide)).put (by decide)).flag_false
  have hnamed : (s.drvNamed (bits v 10 8) op).get Fl.DRV_CTRL_op = op :=
    (State.Shows.of_put (State.rising_put hr) (by decide) (by decide) (Nat.lt_of_le_of_lt hop (by decide))).get
  rw [State.drvStart, hwrite]
  dsimp only
  rw [if_pos (by simp [hgo, hbusy, hnamed])]
  rfl

/-- While an operation runs, a write lands its fields and no more. -/
theorem State.drvStart_busy (hb : s.flag Fl.DRV_STAT_busy = true) :
    s.drvStart op v chk f = s.writeFields drvCtrlRow [] v := by
  have hbusy : (s.writeFields drvCtrlRow [] v).flag Fl.DRV_STAT_busy = true :=
    (State.flag_of_changedIn (K := fun k => k = R.DRV_CTRL.key [])
      ⟨State.rising_writeFields, fun _ _ h => State.writeFields_rd_ne drvCtrlRow_sound (Ne.symm h)⟩ (by decide)).trans hb
  rw [drvCtrlRow] at hbusy
  rw [State.drvStart]
  dsimp only
  rw [if_neg (by simp [hbusy])]
  rfl

/-- What an operation may set up as it starts, once its checks have passed: its image or patch, and the body of its slot. -/
structure State.DrvSetUp (s : State) (op : Nat) (t : State) : Prop where
  frame : t = { s with mram := t.mram, drv := t.drv }
  run : t.drv.run = s.drv.run
  staged : t.drv.staged = s.drv.staged
  mram : op ≠ 2 → op ≠ 3 → t.mram = s.mram

theorem State.DrvSetUp.refl : s.DrvSetUp op s := ⟨rfl, rfl, rfl, fun _ _ => rfl⟩

theorem State.DrvSetUp.regs (h : s.DrvSetUp op t) : t.regs = s.regs := by rw [h.frame]

theorem State.DrvSetUp.nv (h : s.DrvSetUp op t) : t.nv = s.nv := by rw [h.frame]

theorem State.drvSetUp_written {a a' : Nat} {x y hdr : Bytes} (h : op = 2 ∨ op = 3) :
    s.DrvSetUp op { (s.mramWrite a x).mramWrite a' y with drv := { s.drv with hdr := hdr } } :=
  ⟨rfl, rfl, rfl, fun h2 h3 => absurd h (by simp [h2, h3])⟩

theorem State.drvSetUp_slotBody (h : op = 2 ∨ op = 3) : s.DrvSetUp op (s.slotBody op) := State.drvSetUp_written h

/-- Each command starts its operation with its checks, and with a setup of its own. -/
theorem drvTable_start (h : (c, op, chk) ∈ drvTable v) : op ≤ 9 ∧ ∃ f : State → State,
    (∀ s, exec c s = drvRow (fun s => s.drvStart op v chk f) s) ∧ (∀ s : State, s.DrvSetUp op (f s)) ∧
      (op = 1 → ∀ s : State, (f s).drv.patch.isSome = true) := by
  have hid : ∀ n : Nat, n ≠ 1 → (∀ s : State, s.DrvSetUp n (id s)) ∧ (n = 1 → ∀ s : State, (id s).drv.patch.isSome = true) :=
    fun n hn => ⟨fun _ => .refl, fun h => absurd h hn⟩
  simp only [drvTable, List.mem_cons, List.not_mem_nil, or_false, Prod.mk.injEq] at h
  rcases h with ⟨rfl, rfl, rfl⟩ | ⟨rfl, rfl, rfl⟩ | ⟨rfl, rfl, rfl⟩ | ⟨rfl, rfl, rfl⟩ | ⟨rfl, rfl, rfl⟩ | ⟨rfl, rfl, rfl⟩ |
    ⟨rfl, rfl, rfl⟩ | ⟨rfl, rfl, rfl⟩ | ⟨rfl, rfl, rfl⟩ | ⟨rfl, rfl, rfl⟩
  · exact ⟨by decide, id, fun _ => rfl, hid 0 (by decide)⟩
  · exact ⟨by decide, _, fun _ => rfl, fun _ => ⟨rfl, rfl, rfl, fun _ _ => rfl⟩, fun _ _ => rfl⟩
  · exact ⟨by decide, _, fun _ => rfl, fun _ => State.drvSetUp_slotBody (.inl rfl), fun h => absurd h (by decide)⟩
  · exact ⟨by decide, _, fun _ => rfl, fun _ => State.drvSetUp_slotBody (.inr rfl), fun h => absurd h (by decide)⟩
  · exact ⟨by decide, id, fun _ => rfl, hid 4 (by decide)⟩
  · exact ⟨by decide, id, fun _ => rfl, hid 5 (by decide)⟩
  · exact ⟨by decide, id, fun _ => rfl, hid 6 (by decide)⟩
  · exact ⟨by decide, State.loadImage, fun _ => rfl, fun _ => ⟨rfl, rfl, rfl, fun _ _ => rfl⟩, fun h => absurd h (by decide)⟩
  · exact ⟨by decide, id, fun _ => rfl, hid 8 (by decide)⟩
  · exact ⟨by decide, id, fun _ => rfl, hid 9 (by decide)⟩

theorem drvRow_reached (h : s.reaches .drv = true) : drvRow f s = .next (f s) := by
  rw [drvRow, State.onUnit_reached h]

/-- DRV_CTRL and DRV_STAT as an operation starts. -/
theorem State.drvBegun_shown (hr : rising s.regs = true) (ha : arg ≤ 3) (ho : op ≤ 9) :
    let b := (s.drvNamed arg op).drvBegun op k
    b.Shows Fl.DRV_STAT_busy [] 1 ∧ b.Shows Fl.DRV_CTRL_go [] 1 ∧ b.Shows Fl.DRV_CTRL_op [] op ∧ b.Shows Fl.DRV_CTRL_arg [] arg := by
  let n := s.drvNamed arg op
  have hn : rising n.regs = true := State.rising_put (State.rising_put hr)
  have hop : n.Shows Fl.DRV_CTRL_op [] op :=
    .of_put (State.rising_put hr) (by decide) (by decide) (Nat.lt_of_le_of_lt ho (by decide))
  have harg : n.Shows Fl.DRV_CTRL_arg [] arg :=
    (State.Shows.of_put hr (by decide) (by decide) (Nat.lt_of_le_of_lt ha (by decide))).put (by decide)
  let m : State := { n with drv := { n.drv with run := some (op, k.1, k.2.1, k.2.2), patch := none, hdr := [] } }
  have hm : m.regs = n.regs := rfl
  refine ⟨?_, ?_, ?_, ?_⟩
  · exact (State.Shows.of_put (s := m) hn (by decide) (by decide) (by decide)).put (by decide)
  · exact State.Shows.of_put (s := m.put Fl.DRV_STAT_busy [] 1) (State.rising_put hn) (by decide) (by decide) (by decide)
  · exact ((hop.congr hm).put (by decide)).put (by decide)
  · exact ((harg.congr hm).put (by decide)).put (by decide)

end

/-- Settles O19: each command is one `drvStart` with its own checks and setup, which leave the registers of DRV alone. -/
theorem dravyaOperationStarts : Obligations.DravyaOperationStarts := by
  refine ⟨?_, ?_⟩
  · intro v op chk c s hmem _ hreach hr hgo ho ha hb u
    obtain ⟨hop, f, hexec, hsetup, hpatch⟩ := drvTable_start (v := v) hmem
    let b := u.drvBegun op (chk u)
    obtain ⟨hbusy, hgo', hop', harg'⟩ := State.drvBegun_shown (k := chk u) hr ha hop
    obtain ⟨t, ht⟩ : ∃ t, t = if (chk u).1 = 0 then f b else b := ⟨_, rfl⟩
    have hset : b.DrvSetUp op t := by
      rw [ht]
      split
      · exact hsetup b
      · exact .refl
    have hregs : t.regs = b.regs := hset.regs
    refine ⟨t, ?_, (hbusy.congr hregs).flag_true, (hgo'.congr hregs).flag_true, (hop'.congr hregs).get, (harg'.congr hregs).get,
      hset.run, hset.staged, hset.nv, fun h1 hc => ?_, hset.mram, ?_⟩
    · rw [hexec, drvRow_reached hreach, State.drvStart_accepted hr hgo ho hop ha hb, ht]
      rfl
    · rw [ht, if_pos hc]
      exact hpatch h1 b
    · calc t = { b with mram := t.mram, drv := t.drv } := hset.frame
        _ = { s with regs := t.regs, mram := t.mram, drv := t.drv } := by rw [hregs]; rfl
  · intro v c s hmem hreach hr hb
    obtain ⟨op, chk, htable⟩ : ∃ op chk, (c, op, chk) ∈ drvTable v := by
      have hc : c ∈ (drvTable v).map Prod.fst := hmem
      simpa using hc
    obtain ⟨-, f, hexec, -⟩ := drvTable_start htable
    refine ⟨s.writeFields drvCtrlRow [] v, ?_, State.writeFields_frame,
      fun r ix hk => State.writeFields_rd_ne drvCtrlRow_sound (Ne.symm hk)⟩
    rw [hexec, drvRow_reached hreach, State.drvStart_busy hb]

end Sys2Proof.Machine
namespace Sys2Proof.Machine

/-! ### DRV: an operation ends (R116) -/

section

variable {s : State} {op sec off n : Nat} {k : DrvCode} {d : Fld} {ix : List Nat}

/-- What an operation held is let go of, and it runs no longer. -/
def State.drvClosed (s : State) : State :=
  (({ s with drv := { s.drv with run := none, patch := none, hdr := [] } } : State).put Fl.DRV_STAT_busy [] 0).put Fl.DRV_CTRL_go [] 0

/-- The end of an operation whose checks passed. -/
def State.drvSucceeded (s : State) (op : Nat) : State :=
  (((s.drvEffect op).put Fl.DRV_STAT_done [] 1).ev 0x0040 srcDRV 0 op).drvClosed

/-- A failed check shown in DRV_STAT, DRV_ERR and DRV_ERR_OFF (R104). -/
def State.drvReported (s : State) (k : DrvCode) : State := (s.put Fl.DRV_STAT_error [] 1).drvErr k

/-- A dawn that waits for the image of a failed load takes the ROM minimal image (R105). -/
def State.drvFallback (s : State) (op : Nat) : State :=
  if op = 7 && s.loadWaits then { s with cpr := { s.cpr with rom := true } } else s

/-- The end of an operation that a check has failed. -/
def State.drvFailed (s : State) (op : Nat) (k : DrvCode) : State :=
  (((s.drvReported k).drvFallback op).ev 0x0041 srcDRV 0 (k.1 + 256 * (k.2.1 % 256) + 2 ^ 32 * k.2.2)).drvClosed

theorem State.drvEnd_ok (h : s.drv.run = some (op, 0, sec, off)) : s.drvEnd = s.drvSucceeded op := by
  rw [State.drvEnd, h]
  rfl

theorem State.drvEnd_failed (h : s.drv.run = some (op, k)) (hk : k.1 ≠ 0) : s.drvEnd = s.drvFailed op k := by
  rw [State.drvEnd, h]
  dsimp only
  rw [if_neg hk]
  rfl

theorem State.drvFallback_frame : s.drvFallback op = { s with cpr := (s.drvFallback op).cpr } := by
  unfold State.drvFallback
  split <;> rfl

theorem State.drvFailed_frame : s.drvFailed op k =
    { s with regs := (s.drvFailed op k).regs, raised := (s.drvFailed op k).raised, drv := (s.drvFailed op k).drv,
             cpr := (s.drvFailed op k).cpr } := by
  rw [State.drvFailed, State.drvFallback_frame]
  rfl

/-! What an operation leaves of DRV_STAT and DRV_CTRL. -/

theorem State.Shows.drvClosed (h : s.Shows d ix n) (hb : Fl.DRV_STAT_busy.Spares [] d ix) (hg : Fl.DRV_CTRL_go.Spares [] d ix) :
    s.drvClosed.Shows d ix n :=
  ((h.congr (t := { s with drv := { s.drv with run := none, patch := none, hdr := [] } }) rfl).put hb).put hg

theorem State.drvClosed_idle (hr : rising s.regs = true) :
    s.drvClosed.flag Fl.DRV_STAT_busy = false ∧ s.drvClosed.flag Fl.DRV_CTRL_go = false := by
  let u : State := { s with drv := { s.drv with run := none, patch := none, hdr := [] } }
  have hbusy : (u.put Fl.DRV_STAT_busy [] 0).Shows Fl.DRV_STAT_busy [] 0 := .of_put hr (by decide) (by decide) (by decide)
  have hgo : s.drvClosed.Shows Fl.DRV_CTRL_go [] 0 := .of_put hbusy.rising (by decide) (by decide) (by decide)
  exact ⟨(hbusy.put (by decide)).flag_false, hgo.flag_false⟩

/-! Effects. -/

theorem State.nvShow_rising (hr : rising s.regs = true) : rising s.nvShow.regs = true :=
  State.rising_put (State.rising_put (State.rising_put (State.rising_put hr)))

theorem State.loadStart_rising (hr : rising s.regs = true) : rising s.loadStart.regs = true :=
  State.rising_put (State.rising_put (State.rising_put hr))

/-- DRV_STAT shows the count of failed dawns (R108). -/
theorem State.nvShow_shown (hr : rising s.regs = true) : s.nvShow.Shows Fl.DRV_STAT_fail_count [] (min 15 s.nv.fails) :=
  .of_put (State.rising_put (State.rising_put (State.rising_put hr))) (by decide) (by decide)
    (Nat.lt_of_le_of_lt (Nat.min_le_left 15 _) (by decide))

/-- A load takes the dawn back to its step 5 (R105; log 40). -/
theorem State.loadStart_shown (hr : rising s.regs = true) :
    s.loadStart.Shows Fl.DEV_STATUS_ready [] 0 ∧ s.loadStart.Shows Fl.CPR_DAWN_step [] 5 := by
  have hready : (s.put Fl.DEV_STATUS_ready [] 0).Shows Fl.DEV_STATUS_ready [] 0 := .of_put hr (by decide) (by decide) (by decide)
  have hsafe := hready.put (e := Fl.DEV_STATUS_safe) (jx := []) (v := 0) (by decide)
  have hstep : (((s.put Fl.DEV_STATUS_ready [] 0).put Fl.DEV_STATUS_safe [] 0).put Fl.CPR_DAWN_step [] 5).Shows Fl.CPR_DAWN_step [] 5 :=
    .of_put hsafe.rising (by decide) (by decide) (by decide)
  exact ⟨(hsafe.put (by decide)).congr rfl, hstep.congr rfl⟩

theorem State.drvEffect_stage {x : Patch} (h : s.drv.patch = some x) : s.drvEffect 1 =
    ({ s with drv := { s.drv with staged := (s.drv.staged.filter fun y => y.pipe ≠ x.pipe) ++ [x] } } : State).put
      Fl.DRV_STAT_staged [] (s.get Fl.DRV_STAT_staged ||| 2 ^ x.pipe) := by
  simp only [State.drvEffect, h]
  rfl

theorem State.drvEffect_fuse (h : s.fuseSlot = some n) : s.drvEffect 8 =
    ({ s with nv := { s.nv with fused := s.nv.fused ||| 2 ^ n, keys := s.nv.keys ++ [(n, s.hbmRead State.reservedLo 48)] } } : State).nvShow := by
  simp only [State.drvEffect, h]

theorem State.drvEffect_rising (hr : rising s.regs = true) : rising (s.drvEffect op).regs = true := by
  unfold State.drvEffect
  split
  case h_1 =>
    split
    · exact State.rising_put hr
    · exact hr
  case h_8 =>
    split
    · exact State.nvShow_rising hr
    · exact hr
  case h_5 => exact State.rising_put hr
  case h_7 => exact State.loadStart_rising hr
  case h_2 | h_4 | h_6 | h_9 => exact State.nvShow_rising hr
  case h_3 | h_10 => exact hr

/-- An effect raises no record: the end of the operation does. -/
theorem State.drvEffect_raised : (s.drvEffect op).raised = s.raised := by
  unfold State.drvEffect
  split
  case h_1 | h_8 => split <;> rfl
  all_goals rfl

theorem State.Shows.drvSucceeded (h : (s.drvEffect op).Shows d ix n) (hd : Fl.DRV_STAT_done.Spares [] d ix)
    (hb : Fl.DRV_STAT_busy.Spares [] d ix) (hg : Fl.DRV_CTRL_go.Spares [] d ix) : (s.drvSucceeded op).Shows d ix n :=
  ((h.put hd).congr (t := ((s.drvEffect op).put Fl.DRV_STAT_done [] 1).ev 0x0040 srcDRV 0 op) rfl).drvClosed hb hg

theorem State.drvSucceeded_done (hr : rising s.regs = true) : (s.drvSucceeded op).flag Fl.DRV_STAT_done = true := by
  have hdone : ((s.drvEffect op).put Fl.DRV_STAT_done [] 1).Shows Fl.DRV_STAT_done [] 1 :=
    .of_put (State.drvEffect_rising hr) (by decide) (by decide) (by decide)
  exact ((hdone.congr (t := ((s.drvEffect op).put Fl.DRV_STAT_done [] 1).ev 0x0040 srcDRV 0 op) rfl).drvClosed (by decide)
    (by decide)).flag_true

theorem State.drvSucceeded_raised (ho : op ≤ 9) : ∃ e, (s.drvSucceeded op).raised = s.raised ++ [e] ∧ e.typ = 0x0040 ∧ e.src = srcDRV ∧
    e.payload = op :=
  ⟨_, congrArg (· ++ [_]) State.drvEffect_raised, rfl, rfl, Nat.mod_eq_of_lt (by omega)⟩

/-- The failed check as the registers report it (R104). -/
theorem State.drvReported_shown (hr : rising s.regs = true) (h1 : k.1 < 256) (h2 : k.2.1 < 256) (h3 : k.2.2 < 2 ^ 32) :
    (s.drvReported k).Shows Fl.DRV_STAT_error [] 1 ∧ (s.drvReported k).Shows Fl.DRV_ERR_code [] k.1 ∧
      (s.drvReported k).Shows Fl.DRV_ERR_section [] k.2.1 ∧ (s.drvReported k).rd R.DRV_ERR_OFF = k.2.2 := by
  have herror : (s.put Fl.DRV_STAT_error [] 1).Shows Fl.DRV_STAT_error [] 1 := .of_put hr (by decide) (by decide) (by decide)
  have hcode : ((s.put Fl.DRV_STAT_error [] 1).put Fl.DRV_ERR_code [] k.1).Shows Fl.DRV_ERR_code [] k.1 :=
    .of_put herror.rising (by decide) (by decide) h1
  have hsec : (((s.put Fl.DRV_STAT_error [] 1).put Fl.DRV_ERR_code [] k.1).put Fl.DRV_ERR_section [] k.2.1).Shows Fl.DRV_ERR_section [] k.2.1 :=
    .of_put hcode.rising (by decide) (by decide) h2
  exact ⟨((herror.put (by decide)).put (by decide)).wr (by decide), (hcode.put (by decide)).wr (by decide), hsec.wr (by decide),
    (State.rd_wr_same hsec.rising).trans (Nat.mod_eq_of_lt h3)⟩

theorem State.Shows.drvFailed (h : (s.drvReported k).Shows d ix n) (hb : Fl.DRV_STAT_busy.Spares [] d ix)
    (hg : Fl.DRV_CTRL_go.Spares [] d ix) : (s.drvFailed op k).Shows d ix n :=
  (h.congr (by rw [State.ev_regs, State.drvFallback_frame])).drvClosed hb hg

theorem State.drvFailed_raised : ∃ e, (s.drvFailed op k).raised = s.raised ++ [e] ∧ e.typ = 0x0041 ∧ e.src = srcDRV := by
  have h : ((s.drvReported k).drvFallback op).raised = s.raised := by
    rw [State.drvFallback_frame]
    rfl
  exact ⟨_, congrArg (· ++ [_]) h, rfl, rfl⟩

theorem State.drvFailed_offset : (s.drvFailed op k).rd R.DRV_ERR_OFF = (s.drvReported k).rd R.DRV_ERR_OFF := by
  have hrest : RegFile.ChangedIn (fun x => x = R.DRV_STAT.key [] ∨ x = R.DRV_CTRL.key []) (s.drvReported k).regs (s.drvFailed op k).regs := by
    rw [State.drvFailed, State.drvFallback_frame]
    exact (RegFile.ChangedIn.refl.put (.inl rfl)).put (.inr rfl)
  exact State.rd_of_changedIn hrest (by decide)

end

/-- Settles O20: a success is the effect of its operation, then done and the record; a failure is its report. -/
theorem dravyaOperationEnds : Obligations.DravyaOperationEnds := by
  refine ⟨?_, ?_⟩
  · intro op s ho hrun hr hm
    obtain ⟨hbusy, hgo⟩ := State.drvClosed_idle (s := ((s.drvEffect op).put Fl.DRV_STAT_done [] 1).ev 0x0040 srcDRV 0 op)
      (State.rising_put (State.drvEffect_rising hr))
    obtain ⟨e, hraised, htyp, hsrc, hpay⟩ := State.drvSucceeded_raised (s := s) ho
    refine ⟨s.drvSucceeded op, e, congrArg Host.Outcome.next (State.drvEnd_ok hrun), hbusy, hgo, State.drvSucceeded_done hr, rfl, hraised,
      htyp, hsrc, hpay, ?_, ?_, ?_, ?_, ?_, ?_, ?_, ?_, ?_⟩
    · rintro x rfl hx
      exact congrArg (·.drv.staged) (State.drvEffect_stage hx)
    · rintro rfl
      exact ⟨Mem.read_write_same hm rfl, rfl⟩
    · rintro rfl
      exact Mem.read_write_same hm rfl
    · rintro rfl
      have hfails : (s.drvEffect 4).Shows Fl.DRV_STAT_fail_count [] 0 := State.nvShow_shown hr
      exact ⟨rfl, (hfails.drvSucceeded (by decide) (by decide) (by decide)).get⟩
    · rintro rfl
      have hstaged : (s.drvEffect 5).Shows Fl.DRV_STAT_staged [] 0 := .of_put hr (by decide) (by decide) (by decide)
      exact ⟨rfl, (hstaged.drvSucceeded (by decide) (by decide) (by decide)).get⟩
    · rintro rfl
      rfl
    · rintro rfl
      obtain ⟨hready, hstep⟩ : (s.drvEffect 7).Shows Fl.DEV_STATUS_ready [] 0 ∧ (s.drvEffect 7).Shows Fl.CPR_DAWN_step [] 5 :=
        State.loadStart_shown hr
      exact ⟨(hready.drvSucceeded (by decide) (by decide) (by decide)).flag_false,
        (hstep.drvSucceeded (by decide) (by decide) (by decide)).get⟩
    · rintro k rfl hk
      have hnv : (s.drvSucceeded 8).nv = (s.drvEffect 8).nv := rfl
      rw [hnv, State.drvEffect_fuse hk]
      exact ⟨rfl, rfl⟩
    · rintro rfl
      rfl
  · intro op code sec off s hrun hcode h1 h2 h3 hr
    obtain ⟨herror, hcode', hsec, hoff⟩ := State.drvReported_shown (k := (code, sec, off)) hr h1 h2 h3
    have hclosed : rising ((((s.drvReported (code, sec, off)).drvFallback op).ev 0x0041 srcDRV 0
        (code + 256 * (sec % 256) + 2 ^ 32 * off))).regs = true := by
      rw [State.ev_regs, State.drvFallback_frame]
      exact herror.rising
    obtain ⟨e, hraised, htyp, hsrc⟩ := State.drvFailed_raised (s := s) (op := op) (k := (code, sec, off))
    refine ⟨s.drvFailed op (code, sec, off), e, congrArg Host.Outcome.next (State.drvEnd_failed hrun hcode), (State.drvClosed_idle hclosed).1,
      (herror.drvFailed (by decide) (by decide)).flag_true, (hcode'.drvFailed (by decide) (by decide)).get,
      (hsec.drvFailed (by decide) (by decide)).get, State.drvFailed_offset.trans hoff, rfl, ?_, hraised, htyp, hsrc, State.drvFailed_frame⟩
    rw [State.drvFailed, State.drvFallback_frame]
    rfl

end Sys2Proof.Machine
namespace Sys2Proof.Machine

/-! ### Element updates of a list, and time under a change of registers -/

section

variable {α : Type} {l : List α} {i j : Nat} {g : α → α} {a : α}

theorem getD_modNth_same (h : i < l.length) : (modNth l i g).getD i a = g (l.getD i a) := by
  simp [modNth, List.getD_eq_getElem?_getD, h]

theorem getD_modNth_ne (h : j ≠ i) : (modNth l i g).getD j a = l.getD j a := by
  simp [modNth, List.getD_eq_getElem?_getD, List.getElem?_modify_ne _ _ (Ne.symm h)]

end

section

variable {K : Nat → Prop} {s t : State} {n b p dom : Nat}

theorem State.dtFine_of_changedIn (h : RegFile.ChangedIn K s.regs t.regs) (ht : t.time = s.time) (hk : ¬K (R.TIME_DT_STAT.key [])) :
    t.dtFine = s.dtFine := by
  rw [State.dtFine, State.dtFine, State.get_of_changedIn h (d := Fl.TIME_DT_STAT_active) hk, ht]

theorem State.tbFine_of_changedIn (h : RegFile.ChangedIn K s.regs t.regs) (ht : t.time = s.time) (hk : ¬K (R.TIME_DT_STAT.key []))
    (hk3 : ¬K (R.TIME_TB_CTRL.key [3])) : t.tbFine n = s.tbFine n := by
  rw [State.tbFine, State.tbFine, State.flag_of_changedIn h (d := Fl.TIME_TB_CTRL_dt_alias) hk3, State.dtFine_of_changedIn h ht hk, ht]

theorem State.tbNs_of_changedIn (h : RegFile.ChangedIn K s.regs t.regs) (ht : t.time = s.time) (hk : ¬K (R.TIME_DT_STAT.key []))
    (hk3 : ¬K (R.TIME_TB_CTRL.key [3])) : t.tbNs n = s.tbNs n := by
  rw [State.tbNs, State.tbNs, State.tbFine_of_changedIn h ht hk hk3]

theorem State.stampAt_of_changedIn {comp : Int} (h : RegFile.ChangedIn K s.regs t.regs) (ht : t.time = s.time)
    (hk : ¬K (R.TIME_DT_STAT.key [])) (hk3 : ¬K (R.TIME_TB_CTRL.key [3])) : t.stampAt b comp = s.stampAt b comp := by
  rw [State.stampAt, State.stampAt, State.tbFine_of_changedIn h ht hk hk3]

theorem State.ptpBase_of_changedIn (h : RegFile.ChangedIn K s.regs t.regs) (hk : ¬K (R.TIME_DOMMAP.key [])) :
    t.ptpBase dom = s.ptpBase dom := by
  simp only [State.ptpBase, State.flag_of_changedIn h (d := Fl.TIME_DOMMAP_en_a) hk, State.flag_of_changedIn h (d := Fl.TIME_DOMMAP_en_b) hk,
    State.get_of_changedIn h (d := Fl.TIME_DOMMAP_dom_a) hk, State.get_of_changedIn h (d := Fl.TIME_DOMMAP_dom_b) hk]

theorem State.lat_of_changedIn {r : Reg} (h : RegFile.ChangedIn K s.regs t.regs) (hk : ¬K (r.key [p])) : t.lat r p = s.lat r p := by
  rw [State.lat, State.lat, State.rd_of_changedIn h hk]

end

/-! ### PTP: a frame is sent, and its time-stamp read (R457, R458) -/

@[simp] theorem key_TIME_PT_TXLAT (p : Nat) : R.TIME_PT_TXLAT.key [p] = 0xf01000 + p * 0x200 := by simp [Reg.key, instOffset, R.TIME_PT_TXLAT]
@[simp] theorem key_TIME_PT_ASYM (p : Nat) : R.TIME_PT_ASYM.key [p] = 0xf01008 + p * 0x200 := by simp [Reg.key, instOffset, R.TIME_PT_ASYM]
@[simp] theorem key_TIME_PT_TXCTRL (p : Nat) : R.TIME_PT_TXCTRL.key [p] = 0xf01030 + p * 0x200 := by simp [Reg.key, instOffset, R.TIME_PT_TXCTRL]
@[simp] theorem key_TIME_PT_TXBUF (p j : Nat) : R.TIME_PT_TXBUF.key [p, j] = 0xf01100 + (p * 0x200 + j * 4) := by
  simp [Reg.key, instOffset, R.TIME_PT_TXBUF]
@[simp] theorem key_TIME_PT_RX_TAILWB_LO (p : Nat) : R.TIME_PT_RX_TAILWB_LO.key [p] = 0xf01054 + p * 0x200 := by
  simp [Reg.key, instOffset, R.TIME_PT_RX_TAILWB_LO]
@[simp] theorem key_TIME_PT_RX_TAILWB_HI (p : Nat) : R.TIME_PT_RX_TAILWB_HI.key [p] = 0xf01058 + p * 0x200 := by
  simp [Reg.key, instOffset, R.TIME_PT_RX_TAILWB_HI]

section

variable {s : State} {p q v n typ dom seq : Nat} {e : Nat × Nat × Nat} {g : List (Nat × Nat × Nat) → List (Nat × Nat × Nat)}

/-- The transmit queue of a port changes, and its head and level show (R458). -/
def State.txqChanged (s : State) (p : Nat) (g : List (Nat × Nat × Nat) → List (Nat × Nat × Nat)) : State :=
  (s.modTime fun x => { x with txq := modNth x.txq p g }).txqShow p

theorem State.txqChanged_frame : s.txqChanged p g = { s with regs := (s.txqChanged p g).regs, time := (s.txqChanged p g).time } := rfl

theorem State.txqChanged_queue (h : p < s.time.txq.length) : (s.txqChanged p g).time.txq.getD p [] = g (s.time.txq.getD p []) :=
  getD_modNth_same h

theorem State.txqChanged_other (h : q ≠ p) : (s.txqChanged p g).time.txq.getD q [] = s.time.txq.getD q [] := getD_modNth_ne h

theorem State.txqChanged_level (hr : rising s.regs = true) (h : p < s.time.txq.length) :
    (s.txqChanged p g).get Fl.TIME_PT_TXQ_STAT_level [p] = (g (s.time.txq.getD p [])).length % 32 := by
  have hlevel : (s.modTime fun x => { x with txq := modNth x.txq p g }).time.txq.getD p [] = g (s.time.txq.getD p []) := getD_modNth_same h
  rw [State.txqChanged, State.txqShow, hlevel]
  exact State.get_put_same (State.rising_wr (State.rising_wr (State.rising_wr (State.rising_wr hr)))) (by decide) (by decide)

theorem State.txqPush_room (h : (s.time.txq.getD p []).length < 16) : s.txqPush p e = s.txqChanged p fun l => l ++ [e] :=
  if_neg (Nat.not_le.mpr h)

theorem exec_txqPop_reached (hp : p < 6) (h : s.reaches .time = true) : exec (.txqPop p) s = .next (s.txqChanged p fun l => l.drop 1) := by
  rw [exec_txqPop, execTxqPop, State.onUnit_reached h, if_pos hp]
  rfl

/-- The bytes of a port's transmit buffer (R457). -/
def State.txBuf (s : State) (p : Nat) : Bytes := (List.range 64).flatMap fun j => leBytes 4 (s.rd R.TIME_PT_TXBUF [p, j])

/-- The compensation of a transmit time-stamp (R458). -/
def State.txComp (s : State) (p typ : Nat) : Int := s.lat R.TIME_PT_TXLAT p - (if typ = 1 then s.lat R.TIME_PT_ASYM p else 0)

/-- The time-stamp entry of an event message sent (R458). -/
def State.txStamp (s : State) (p typ dom seq : Nat) : Nat × Nat × Nat :=
  (seq + 2 ^ 16 * dom + 2 ^ 26 * s.ptpBase dom + 2 ^ 28 * typ, s.stampAt (s.ptpBase dom) (s.txComp p typ))

theorem State.writeFields_txCtrl (h14 : 14 ≤ bits v 8 0) (h256 : bits v 8 0 ≤ 256) :
    s.writeFields ⟨R.TIME_PT_TXCTRL, [Fl.TIME_PT_TXCTRL_length]⟩ [p] v = s.put Fl.TIME_PT_TXCTRL_length [p] (bits v 8 0) := by
  simp [State.writeFields, imageOk, writeField, Allowed.ok, Fl.TIME_PT_TXCTRL_length, h14, h256]

theorem State.ptpSend_event (hn : s.get Fl.TIME_PT_TXCTRL_length [p] = n) (hon : s.netOn p = true)
    (hmsg : State.ptpMsg ((s.txBuf p).take n) = some (typ, dom, seq, true)) :
    s.ptpSend p =
      (s.emit (.eth p ((s.txBuf p).take n ++ List.replicate (60 - n) 0))).txqPush p
        ((s.emit (.eth p ((s.txBuf p).take n ++ List.replicate (60 - n) 0))).txStamp p typ dom seq) := by
  rw [State.txBuf] at hmsg
  rw [State.ptpSend, hn]
  simp only [hmsg, State.ethSend, if_pos hon]
  rfl

/-- Neither the buffer nor the time-stamp of a frame depends on TXCTRL.length. -/
theorem State.txStamp_emit_put {o : Out} :
    ((s.put Fl.TIME_PT_TXCTRL_length [p] n).emit o).txStamp p typ dom seq = s.txStamp p typ dom seq ∧
      (s.put Fl.TIME_PT_TXCTRL_length [p] n).txBuf p = s.txBuf p := by
  have h : RegFile.ChangedIn (fun k => k = R.TIME_PT_TXCTRL.key [p]) s.regs ((s.put Fl.TIME_PT_TXCTRL_length [p] n).emit o).regs :=
    RegFile.ChangedIn.refl.put rfl
  have hlow : ∀ k, k < 0xf01030 → ¬k = R.TIME_PT_TXCTRL.key [p] := fun k hk => by
    rw [key_TIME_PT_TXCTRL]
    omega
  refine ⟨?_, ?_⟩
  · rw [State.txStamp, State.txStamp, State.txComp, State.txComp, State.ptpBase_of_changedIn h (hlow _ (by decide)),
      State.lat_of_changedIn h (by simp), State.lat_of_changedIn h (by simp),
      State.stampAt_of_changedIn h rfl (hlow _ (by decide)) (hlow _ (by decide))]
  · have hbuf : ∀ j, (s.put Fl.TIME_PT_TXCTRL_length [p] n).rd R.TIME_PT_TXBUF [p, j] = s.rd R.TIME_PT_TXBUF [p, j] := fun j =>
      State.rd_put_ne (d := Fl.TIME_PT_TXCTRL_length) (by
        show R.TIME_PT_TXCTRL.key [p] ≠ _
        rw [key_TIME_PT_TXCTRL, key_TIME_PT_TXBUF]
        omega)
    simp only [State.txBuf, hbuf]

/-- TXCTRL.length is set, and the frame in the transmit buffer has left. -/
def State.ptpSent (s : State) (p n : Nat) : State :=
  (s.put Fl.TIME_PT_TXCTRL_length [p] n).emit (.eth p ((s.txBuf p).take n ++ List.replicate (60 - n) 0))

theorem State.ptpSent_frame : s.ptpSent p n = { s with regs := (s.ptpSent p n).regs, out := (s.ptpSent p n).out } := rfl

theorem State.ptpSent_rising (hr : rising s.regs = true) : rising (s.ptpSent p n).regs = true := by
  rw [State.ptpSent, State.emit_regs]
  exact State.rising_put hr

theorem exec_ptpTransmit_event (hp : p < 6) (hreach : s.reaches .time = true) (hr : rising s.regs = true) (hgo : bit v 31 = true)
    (hon : s.netOn p = true) (h14 : 14 ≤ bits v 8 0) (h256 : bits v 8 0 ≤ 256)
    (hmsg : State.ptpMsg ((s.txBuf p).take (bits v 8 0)) = some (typ, dom, seq, true)) (hroom : (s.time.txq.getD p []).length < 16) :
    exec (.ptpTransmit p v) s =
      .next ((s.ptpSent p (bits v 8 0)).txqChanged p fun l => l ++ [s.txStamp p typ dom seq]) := by
  have hlen : (s.put Fl.TIME_PT_TXCTRL_length [p] (bits v 8 0)).get Fl.TIME_PT_TXCTRL_length [p] = bits v 8 0 :=
    (State.Shows.of_put hr (by decide) (by decide) (Nat.lt_of_le_of_lt h256 (by decide))).get
  have hbuf : (s.put Fl.TIME_PT_TXCTRL_length [p] (bits v 8 0)).txBuf p = s.txBuf p :=
    (State.txStamp_emit_put (typ := 0) (dom := 0) (seq := 0) (o := .unsupported)).2
  rw [exec_ptpTransmit, execPtpTransmit, State.onUnit_reached hreach, if_pos hp, State.ptpTx, State.writeFields_txCtrl h14 h256]
  rw [if_pos hgo, State.ptpSend_event hlen hon (hbuf.symm ▸ hmsg), hbuf, State.txStamp_emit_put.1]
  exact congrArg Host.Outcome.next (State.txqPush_room (s := s.ptpSent p (bits v 8 0)) hroom)

end

/-! ### PTP: a frame is received (R459) -/

section

variable {s t : State} {typ src inst payload : Nat}

theorem State.ev_appends : ∃ e, (s.ev typ src inst payload).raised = s.raised ++ [e] ∧ e.typ = typ ∧ e.src = src ∧ e.inst = inst :=
  ⟨_, rfl, rfl, rfl, rfl⟩

/-- The frame of a step that changes registers and host memory and raises a record. -/
theorem State.ev_frame_of_host (h : t = { s with regs := t.regs, host := t.host }) : t.ev typ src inst payload =
    { s with regs := (t.ev typ src inst payload).regs, host := (t.ev typ src inst payload).host,
             raised := (t.ev typ src inst payload).raised } := by
  rw [State.ev_regs, State.ev_host]
  calc t.ev typ src inst payload = { t with raised := (t.ev typ src inst payload).raised } := rfl
    _ = { s with regs := t.regs, host := t.host, raised := (t.ev typ src inst payload).raised } := by
      generalize (t.ev typ src inst payload).raised = l
      rw [h]

end

section

variable {s : State} {p typ dom seq : Nat} {b : Bytes} {event : Bool}

/-- The next entry of a port's receive ring, and where its tail is written back. -/
def State.rxSlot (s : State) (p : Nat) : Nat :=
  s.rd64 R.TIME_PT_RX_BASE_LO R.TIME_PT_RX_BASE_HI [p] + s.rd R.TIME_PT_RX_TAIL [p] % 2 ^ s.get Fl.TIME_PT_RX_CTRL_log2size [p] * 256
def State.rxBack (s : State) (p : Nat) : Nat := s.rd64 R.TIME_PT_RX_TAILWB_LO R.TIME_PT_RX_TAILWB_HI [p]

/-- The tail after one more entry. -/
def State.rxNext (s : State) (p : Nat) : Nat := (s.rd R.TIME_PT_RX_TAIL [p] + 1) % 2 ^ 32

/-- The time-stamp of a received message. -/
def State.rxStamp (s : State) (p typ dom : Nat) : Nat × Nat :=
  s.stampAt (s.ptpBase dom) (-(s.lat R.TIME_PT_RXLAT p + (if typ = 0 then s.lat R.TIME_PT_ASYM p else 0)))

/-- The head of a receive entry: time-stamp, port, flags, length and device time. -/
def State.rxHead (s : State) (p typ dom : Nat) (event : Bool) (b : Bytes) : Bytes :=
  leBytes 8 (s.rxStamp p typ dom).1 ++ leBytes 2 (s.rxStamp p typ dom).2 ++ leBytes 1 p
    ++ leBytes 1 (b2n event + 2 * b2n (224 < b.length) + 4 * s.ptpBase dom) ++ leBytes 2 b.length ++ leBytes 2 0
    ++ leBytes 8 (unsigned 64 ((s.dtFine - s.lat R.TIME_PT_RXLAT p * (2 ^ 16 : Nat)) / (2 ^ 32 : Nat))) ++ leBytes 8 0

/-- A receive entry: its head, and the first 224 bytes of the frame. -/
def State.rxEntry (s : State) (p typ dom : Nat) (event : Bool) (b : Bytes) : Bytes :=
  s.rxHead p typ dom event b ++ (b ++ List.replicate 224 0).take 224

theorem State.length_rxHead : (s.rxHead p typ dom event b).length = 32 := by
  simp [State.rxHead]

theorem State.length_rxEntry : (s.rxEntry p typ dom event b).length = 256 := by
  rw [State.rxEntry, List.length_append, State.length_rxHead, List.length_take, List.length_append, List.length_replicate]
  omega

theorem State.rxStamp_lt : (s.rxStamp p typ dom).1 < 2 ^ 64 :=
  Nat.div_lt_of_lt_mul (Nat.lt_of_lt_of_eq (unsigned_lt 80 _) (by decide))

/-- The state with the entry stored and the tail moved. -/
def State.rxStored (s : State) (p : Nat) (entry : Bytes) : State :=
  ((s.hostWrite (s.rxSlot p) entry).wr R.TIME_PT_RX_TAIL [p] (s.rxNext p)).hostWrite (s.rxBack p) (leBytes 4 (s.rxNext p))

theorem State.rxStored_raised {entry : Bytes} : (s.rxStored p entry).raised = s.raised := rfl

theorem State.rxStored_frame {entry : Bytes} :
    s.rxStored p entry = { s with regs := (s.rxStored p entry).regs, host := (s.rxStored p entry).host } := rfl

theorem State.rxStored_tail {entry : Bytes} (hr : rising s.regs = true) : (s.rxStored p entry).rd R.TIME_PT_RX_TAIL [p] = s.rxNext p := by
  rw [State.rxStored, State.hostWrite_rd]
  exact (State.rd_wr_same (s := s.hostWrite (s.rxSlot p) entry) hr).trans (Nat.mod_mod _ _)

theorem State.ptpRx_stored (hon : s.netOn p = true) (hmsg : State.ptpMsg b = some (typ, dom, seq, event))
    (hen : s.flag Fl.TIME_PT_RX_CTRL_enable [p] = true)
    (hroom : (s.rd R.TIME_PT_RX_TAIL [p] + 2 ^ 32 - s.rd R.TIME_PT_RX_HEAD [p]) % 2 ^ 32 < 2 ^ s.get Fl.TIME_PT_RX_CTRL_log2size [p]) :
    s.ptpRx p b = (s.rxStored p (s.rxEntry p typ dom event b)).ev 0x00E3 srcTIME p (s.rxNext p) := by
  have hback : ∀ (u : State) (x : Nat), (u.wr R.TIME_PT_RX_TAIL [p] x).rd64 R.TIME_PT_RX_TAILWB_LO R.TIME_PT_RX_TAILWB_HI [p] =
      u.rd64 R.TIME_PT_RX_TAILWB_LO R.TIME_PT_RX_TAILWB_HI [p] := fun u x =>
    State.rd64_of_changedIn (K := fun k => k = R.TIME_PT_RX_TAIL.key [p]) (State.wr_changedIn rfl) (by simp) (by simp)
  rw [State.ptpRx, if_pos hon, hmsg]
  dsimp only
  rw [if_neg (by rw [hen, decide_eq_false (Nat.not_le.mpr hroom)]; exact Bool.false_ne_true)]
  rw [hback]
  rfl

/-- What host memory holds once the entry and the tail are written, the two being apart. -/
theorem State.rxStored_memory {entry : Bytes} (hh : rising s.host = true) (hlen : entry.length = 256)
    (hapart : s.rxBack p + 4 ≤ s.rxSlot p ∨ s.rxSlot p + 256 ≤ s.rxBack p) :
    (∀ i n, i + n ≤ 256 → (s.rxStored p entry).host.read (s.rxSlot p + i) n = (entry.drop i).take n) ∧
      (s.rxStored p entry).host.readLe (s.rxBack p) 4 = s.rxNext p ∧
      ∀ a, (a < s.rxSlot p ∨ s.rxSlot p + 256 ≤ a) → (a < s.rxBack p ∨ s.rxBack p + 4 ≤ a) →
        (s.rxStored p entry).host.get a = s.host.get a := by
  have hhost : (s.rxStored p entry).host = (s.host.write (s.rxSlot p) entry).write (s.rxBack p) (leBytes 4 (s.rxNext p)) := rfl
  have hfour : (leBytes 4 (s.rxNext p)).length = 4 := length_leBytes _ _
  rw [hhost]
  refine ⟨fun i n hin => ?_, ?_, fun a hslot hback => ?_⟩
  · rw [Mem.read_write_out (by omega), Mem.read_write_slice hh (by omega)]
  · rw [Mem.readLe, Mem.read_write_same (Mem.rising_write hh) hfour, leNat_leBytes]
    exact Nat.mod_mod _ _
  · rw [Mem.get_write_out (by omega), Mem.get_write_out (by omega)]

/-- The parts of a receive entry that software reads first. -/
theorem State.rxEntry_parts : leNat (((s.rxEntry p typ dom event b).drop 0).take 8) = (s.rxStamp p typ dom).1 ∧
    ((s.rxEntry p typ dom event b).drop 32).take 224 = (b ++ List.replicate 224 0).take 224 := by
  refine ⟨?_, ?_⟩
  · rw [List.drop_zero, State.rxEntry, State.rxHead]
    simp only [List.append_assoc]
    rw [List.take_left' (length_leBytes _ _), leNat_leBytes]
    exact Nat.mod_eq_of_lt State.rxStamp_lt
  · rw [State.rxEntry, List.drop_left' State.length_rxHead, List.take_take, Nat.min_self]

theorem exec_ptpReceive_port (hp : p < 6) : exec (.ptpReceive p b) s = .next (s.ptpRx p b) := by
  rw [exec_ptpReceive, execPtpReceive, if_pos hp]

/-- A port without an enabled record receives nothing (R92). -/
theorem State.ptpRx_off (h : s.netOn p = false) : s.ptpRx p b = s := by
  rw [State.ptpRx, if_neg (by simp [h])]

/-- A port whose receive ring is off drops the message and counts it (R459). -/
theorem State.ptpRx_disabled (hon : s.netOn p = true) (hmsg : (State.ptpMsg b).isSome = true)
    (hen : s.flag Fl.TIME_PT_RX_CTRL_enable [p] = false) : s.ptpRx p b = s.inc Fl.TIME_PT_RX_DROP_count [p] := by
  obtain ⟨⟨typ, dom, seq, event⟩, hm⟩ := Option.isSome_iff_exists.mp hmsg
  rw [State.ptpRx, if_pos hon, hm]
  dsimp only
  rw [if_pos (by simp [hen])]

end

end Sys2Proof.Machine
namespace Sys2Proof.Machine

/-! ### Genlock (R461) -/

section

variable {s : State} {f : Nat} {d t : Nat × Nat}

theorem State.wr64_changedIn {K : Nat → Prop} {lo hi : Reg} {ix : List Nat} {v : Nat} (hlo : K (lo.key ix)) (hhi : K (hi.key ix)) :
    RegFile.ChangedIn K s.regs (s.wr64 lo hi ix v).regs := (RegFile.ChangedIn.refl.wr hlo).wr hhi

theorem State.in64ths_lt (n : Nat) : (State.in64ths n).1 < 2 ^ 64 := Nat.mod_lt _ (Nat.two_pow_pos 64)

/-- A reference instant captured, as DT and TB3 in ns and 1/64 ns, and counted. -/
def State.glStamped (s : State) (d t : Nat × Nat) : State :=
  let u := (s.wr64 R.TIME_GL_DT_LO R.TIME_GL_DT_HI [] d.1).wr64 R.TIME_GL_TB3_LO R.TIME_GL_TB3_HI [] t.1
  (u.wr R.TIME_GL_FRAC [] (256 * d.2 + t.2)).wr R.TIME_GL_REFS [] ((u.rd R.TIME_GL_REFS + 1) % 2 ^ 32)

/-- The reference is the last one of its format `f`. -/
def State.glNoted (s : State) (f ns : Nat) : State := (s.put Fl.TIME_GL_STAT_format [] f).modTime fun x => { x with glRef := some ns }

/-- A reference of format `f` captured now. -/
def State.glCaptured (s : State) (f : Nat) : State :=
  (s.glStamped (State.in64ths s.dtFine.toNat) (State.in64ths (s.tbFine 3))).glNoted f (State.in64ths (s.tbFine 3)).1

/-- A reference follows one of its own format by one period. -/
def State.glFits (s : State) (f : Nat) : Bool :=
  s.get Fl.TIME_GL_STAT_format = f &&
    s.time.glRef.any fun r => State.isPeriod ((State.in64ths (s.tbFine 3)).1 - r) (State.genlockRate f)

theorem State.glFits_of {r : Nat} (hf : s.get Fl.TIME_GL_STAT_format = f) (href : s.time.glRef = some r)
    (hperiod : State.isPeriod ((State.in64ths (s.tbFine 3)).1 - r) (State.genlockRate f) = true) : s.glFits f = true := by
  rw [State.glFits, decide_eq_true hf, href, Option.any_some, hperiod, Bool.and_self]

def State.glLock (s : State) (f : Nat) : State := (s.put Fl.TIME_GL_STAT_locked [] 1).ev 0x00E6 srcTIME 0 (1 + 256 * f)

theorem State.glStamped_changedIn : RegFile.ChangedIn (fun k => 0xf02004 ≤ k ∧ k < 0xf0201c) s.regs (s.glStamped d t).regs := by
  have h64 : RegFile.ChangedIn (fun k => 0xf02004 ≤ k ∧ k < 0xf0201c) s.regs
      ((s.wr64 R.TIME_GL_DT_LO R.TIME_GL_DT_HI [] d.1).wr64 R.TIME_GL_TB3_LO R.TIME_GL_TB3_HI [] t.1).regs :=
    (State.wr64_changedIn (by decide) (by decide)).trans (State.wr64_changedIn (by decide) (by decide))
  exact (h64.wr (by decide)).wr (by decide)

theorem State.glStamped_shown (hr : rising s.regs = true) (hd : d.1 < 2 ^ 64) (ht : t.1 < 2 ^ 64) :
    (s.glStamped d t).rd64 R.TIME_GL_DT_LO R.TIME_GL_DT_HI = d.1 ∧ (s.glStamped d t).rd64 R.TIME_GL_TB3_LO R.TIME_GL_TB3_HI = t.1 ∧
      (s.glStamped d t).rd R.TIME_GL_REFS = (s.rd R.TIME_GL_REFS + 1) % 2 ^ 32 := by
  let a := s.wr64 R.TIME_GL_DT_LO R.TIME_GL_DT_HI [] d.1
  let u := a.wr64 R.TIME_GL_TB3_LO R.TIME_GL_TB3_HI [] t.1
  have ha : RegFile.ChangedIn (fun k => 0xf02004 ≤ k ∧ k < 0xf0200c) s.regs a.regs := State.wr64_changedIn (by decide) (by decide)
  have hu : RegFile.ChangedIn (fun k => 0xf0200c ≤ k ∧ k < 0xf02014) a.regs u.regs := State.wr64_changedIn (by decide) (by decide)
  have hlast : RegFile.ChangedIn (fun k => 0xf02014 ≤ k ∧ k < 0xf0201c) u.regs (s.glStamped d t).regs :=
    (RegFile.ChangedIn.refl.wr (by decide)).wr (by decide)
  have hrefs : u.rd R.TIME_GL_REFS = s.rd R.TIME_GL_REFS :=
    (State.rd_of_changedIn hu (by decide)).trans (State.rd_of_changedIn ha (by decide))
  refine ⟨?_, ?_, ?_⟩
  · rw [State.rd64_of_changedIn hlast (by decide) (by decide), State.rd64_of_changedIn hu (by decide) (by decide)]
    exact State.rd64_wr64 hr (by decide) hd
  · rw [State.rd64_of_changedIn hlast (by decide) (by decide)]
    exact State.rd64_wr64 (ha.rising hr) (by decide) ht
  · rw [← hrefs, State.glStamped]
    exact (State.rd_wr_same (State.rising_wr (hu.rising (ha.rising hr)))).trans (Nat.mod_mod _ _)

theorem State.glCaptured_status (hr : rising s.regs = true) (hf : f < 256) :
    (s.glCaptured f).Shows Fl.TIME_GL_STAT_format [] f ∧ (s.glCaptured f).Shows Fl.TIME_GL_STAT_locked [] (s.get Fl.TIME_GL_STAT_locked) := by
  have hstamp : RegFile.ChangedIn (fun k => 0xf02004 ≤ k ∧ k < 0xf0201c) s.regs
      (s.glStamped (State.in64ths s.dtFine.toNat) (State.in64ths (s.tbFine 3))).regs := State.glStamped_changedIn
  have hlocked : (s.glStamped (State.in64ths s.dtFine.toNat) (State.in64ths (s.tbFine 3))).Shows Fl.TIME_GL_STAT_locked []
      (s.get Fl.TIME_GL_STAT_locked) := ⟨hstamp.rising hr, State.get_of_changedIn hstamp (by decide)⟩
  have hformat := State.Shows.of_put (d := Fl.TIME_GL_STAT_format) (ix := []) (v := f) (hstamp.rising hr) (by decide) (by decide) hf
  exact ⟨hformat.congr rfl, (hlocked.put (e := Fl.TIME_GL_STAT_format) (jx := []) (v := f) (by decide)).congr rfl⟩

theorem State.genlockRef_eq (hr : rising s.regs = true) (hf : f < 256) :
    s.genlockRef f = if s.glFits f && !s.flag Fl.TIME_GL_STAT_locked then (s.glCaptured f).glLock f else s.glCaptured f := by
  have hformat : (s.glStamped (State.in64ths s.dtFine.toNat) (State.in64ths (s.tbFine 3))).get Fl.TIME_GL_STAT_format =
      s.get Fl.TIME_GL_STAT_format := State.get_of_changedIn State.glStamped_changedIn (by decide)
  have hlocked : (s.glCaptured f).flag Fl.TIME_GL_STAT_locked = s.flag Fl.TIME_GL_STAT_locked := by
    rw [State.flag, (State.glCaptured_status hr hf).2.get, State.flag]
  rw [State.glFits, ← hformat, ← hlocked]
  rfl

/-- What follows the capture of a reference changes the status alone. -/
theorem State.genlockRef_changedIn (hr : rising s.regs = true) (hf : f < 256) : RegFile.ChangedIn (fun k => k = R.TIME_GL_STAT.key [])
    (s.glStamped (State.in64ths s.dtFine.toNat) (State.in64ths (s.tbFine 3))).regs (s.genlockRef f).regs := by
  have hcaptured : RegFile.ChangedIn (fun k => k = R.TIME_GL_STAT.key [])
      (s.glStamped (State.in64ths s.dtFine.toNat) (State.in64ths (s.tbFine 3))).regs (s.glCaptured f).regs := RegFile.ChangedIn.refl.put rfl
  rw [State.genlockRef_eq hr hf]
  split
  · exact hcaptured.put rfl
  · exact hcaptured

theorem State.glStamped_frame : s.glStamped d t = { s with regs := (s.glStamped d t).regs } := rfl

theorem State.glNoted_frame {ns : Nat} : s.glNoted f ns = { s with regs := (s.glNoted f ns).regs, time := (s.glNoted f ns).time } := rfl

theorem State.glCaptured_frame : s.glCaptured f = { s with regs := (s.glCaptured f).regs, time := (s.glCaptured f).time } := by
  rw [State.glCaptured, State.glNoted_frame, State.glStamped_frame]

theorem State.glLock_frame : s.glLock f = { s with regs := (s.glLock f).regs, raised := (s.glLock f).raised } := rfl

theorem State.genlockRef_frame (hr : rising s.regs = true) (hf : f < 256) : s.genlockRef f =
    { s with regs := (s.genlockRef f).regs, time := (s.genlockRef f).time, raised := (s.genlockRef f).raised } := by
  rw [State.genlockRef_eq hr hf]
  split
  · rw [State.glLock_frame, State.glCaptured_frame]
  · rw [State.glCaptured_frame]

/-- A reference that fits locks; none unlocks. -/
theorem State.genlockRef_status (hr : rising s.regs = true) (hf : f < 256) : (s.genlockRef f).get Fl.TIME_GL_STAT_format = f ∧
    (s.genlockRef f).flag Fl.TIME_GL_STAT_locked = (s.glFits f || s.flag Fl.TIME_GL_STAT_locked) := by
  obtain ⟨hformat, hlocked⟩ := State.glCaptured_status hr hf
  rw [State.genlockRef_eq hr hf]
  split
  case isTrue hlock =>
    obtain ⟨hfits, -⟩ := Bool.and_eq_true_iff.mp hlock
    have hput : ((s.glCaptured f).put Fl.TIME_GL_STAT_locked [] 1).Shows Fl.TIME_GL_STAT_locked [] 1 :=
      .of_put hformat.rising (by decide) (by decide) (by decide)
    rw [hfits, Bool.true_or]
    rw [State.glLock, State.ev_get, State.ev_flag]
    exact ⟨(hformat.put (e := Fl.TIME_GL_STAT_locked) (jx := []) (v := 1) (by decide)).get, hput.flag_true⟩
  case isFalse hlock =>
    have hflag : (s.glCaptured f).flag Fl.TIME_GL_STAT_locked = s.flag Fl.TIME_GL_STAT_locked := by
      rw [State.flag, hlocked.get, State.flag]
    refine ⟨hformat.get, hflag.trans ?_⟩
    cases hl : s.flag Fl.TIME_GL_STAT_locked with
    | true => rw [Bool.or_true]
    | false =>
      have hfits : s.glFits f = false := by simpa [hl] using hlock
      rw [hfits, Bool.or_false]

/-- The reference is gone: nothing is locked, and no format shows (log 34). -/
def State.glCleared (s : State) : State :=
  ((s.put Fl.TIME_GL_STAT_locked [] 0).put Fl.TIME_GL_STAT_format [] 0).modTime fun x => { x with glRef := none }

def State.glLost (s : State) (f : Nat) : State := (s.put Fl.TIME_GL_STAT_lost [] 1).ev 0x00E6 srcTIME 0 (256 * f)

theorem State.genlockLoss_eq : s.genlockLoss =
    if s.flag Fl.TIME_GL_STAT_locked then s.glCleared.glLost (s.get Fl.TIME_GL_STAT_format) else s.glCleared := rfl

theorem State.glCleared_status (hr : rising s.regs = true) :
    s.glCleared.Shows Fl.TIME_GL_STAT_locked [] 0 ∧ s.glCleared.Shows Fl.TIME_GL_STAT_format [] 0 := by
  have hlocked : (s.put Fl.TIME_GL_STAT_locked [] 0).Shows Fl.TIME_GL_STAT_locked [] 0 := .of_put hr (by decide) (by decide) (by decide)
  have hformat := State.Shows.of_put (d := Fl.TIME_GL_STAT_format) (ix := []) (v := 0) hlocked.rising (by decide) (by decide) (by decide)
  exact ⟨(hlocked.put (e := Fl.TIME_GL_STAT_format) (jx := []) (v := 0) (by decide)).congr rfl, hformat.congr rfl⟩

theorem State.genlockLoss_status (hr : rising s.regs = true) :
    s.genlockLoss.flag Fl.TIME_GL_STAT_locked = false ∧ s.genlockLoss.get Fl.TIME_GL_STAT_format = 0 := by
  obtain ⟨hlocked, hformat⟩ := State.glCleared_status hr
  rw [State.genlockLoss_eq]
  split
  · rw [State.glLost, State.ev_flag, State.ev_get]
    exact ⟨(hlocked.put (e := Fl.TIME_GL_STAT_lost) (jx := []) (v := 1) (by decide)).flag_false,
      (hformat.put (e := Fl.TIME_GL_STAT_lost) (jx := []) (v := 1) (by decide)).get⟩
  · exact ⟨hlocked.flag_false, hformat.get⟩

theorem State.genlockLoss_frame : s.genlockLoss =
    { s with regs := s.genlockLoss.regs, time := s.genlockLoss.time, raised := s.genlockLoss.raised } := by
  rw [State.genlockLoss_eq]
  split <;> rfl

/-- A loss from the locked state is noted and raises its event. -/
theorem State.genlockLoss_locked (hr : rising s.regs = true) (h : s.flag Fl.TIME_GL_STAT_locked = true) :
    s.genlockLoss.flag Fl.TIME_GL_STAT_lost = true ∧ ∃ e, s.genlockLoss.raised = s.raised ++ [e] ∧ e.typ = 0x00E6 := by
  have hlost : (s.glCleared.put Fl.TIME_GL_STAT_lost [] 1).Shows Fl.TIME_GL_STAT_lost [] 1 :=
    .of_put (State.glCleared_status hr).1.rising (by decide) (by decide) (by decide)
  rw [State.genlockLoss_eq, if_pos h, State.glLost, State.ev_flag]
  exact ⟨hlost.flag_true, _, rfl, rfl⟩

end

/-! ### Timecode in (R462) -/

section

variable {s : State} {tc ub d t r period : Nat} {df : Bool}

/-- The registers of a decoded timecode: its bits, the instant in DT and TB3, and the status. -/
def State.ltcWords (s : State) (tc ub : Nat) : State := (s.wr R.TIME_LTCI_TC [] tc).wr R.TIME_LTCI_UB [] ub
def State.ltcInstant (s : State) (d t : Nat) : State :=
  (s.wr64 R.TIME_LTCI_DT_LO R.TIME_LTCI_DT_HI [] d).wr64 R.TIME_LTCI_TB3_LO R.TIME_LTCI_TB3_HI [] t
def State.ltcStatus (s : State) (r : Nat) (df : Bool) : State :=
  ((s.put Fl.TIME_LTCI_STAT_r [] r).put Fl.TIME_LTCI_STAT_df [] (b2n df)).put Fl.TIME_LTCI_STAT_locked [] 1

def State.ltcRegs (s : State) (tc ub r : Nat) (df : Bool) : State :=
  (((s.ltcWords tc ub).ltcInstant (s.ltcWords tc ub).dt ((s.ltcWords tc ub).tbNs 3))).ltcStatus r df

/-- A timecode published, and the reference of LTC out. -/
def State.ltcPublished (s : State) (tc ub r : Nat) (df : Bool) : State :=
  (s.ltcRegs tc ub r df).modTime fun x => { x with ltcRef := some ((s.ltcRegs tc ub r df).tbNs 3, tc % 2 ^ 32) }

theorem State.ltcIn_cases (h : s.flag Fl.TIME_LTCI_CTRL_enable = true) : s.ltcIn tc ub df period = s.ltcPublished tc ub (State.ltcRate period) df ∨
    ∃ n, s.ltcIn tc ub df period = (s.ltcPublished tc ub (State.ltcRate period) df).ev 0x00E7 srcTIME 0 n := by
  rw [State.ltcIn, if_neg (by simp [h])]
  dsimp only
  split
  · exact .inr ⟨_, rfl⟩
  · exact .inl rfl

theorem State.ltcStatus_changedIn : RegFile.ChangedIn (fun k => k = R.TIME_LTCI_STAT.key []) s.regs (s.ltcStatus r df).regs := by
  rw [State.ltcStatus, State.put_regs, State.put_regs, State.put_regs]
  exact ((RegFile.ChangedIn.refl.put (by rfl)).put (by rfl)).put (by rfl)

theorem State.ltcStatus_shown (hr : rising s.regs = true) :
    (s.ltcStatus r df).flag Fl.TIME_LTCI_STAT_locked = true ∧ (s.ltcStatus r df).flag Fl.TIME_LTCI_STAT_df = df := by
  have hdf : ((s.put Fl.TIME_LTCI_STAT_r [] r).put Fl.TIME_LTCI_STAT_df [] (b2n df)).Shows Fl.TIME_LTCI_STAT_df [] (b2n df) :=
    .of_put (State.rising_put hr) (by decide) (by decide) (by cases df <;> decide)
  have hlocked : (s.ltcStatus r df).Shows Fl.TIME_LTCI_STAT_locked [] 1 := .of_put hdf.rising (by decide) (by decide) (by decide)
  exact ⟨hlocked.flag_true, (hdf.put (e := Fl.TIME_LTCI_STAT_locked) (jx := []) (v := 1) (by decide)).flag_b2n⟩

theorem State.ltcInstant_shown (hr : rising s.regs = true) (hd : d < 2 ^ 64) (ht : t < 2 ^ 64) :
    (s.ltcInstant d t).rd64 R.TIME_LTCI_DT_LO R.TIME_LTCI_DT_HI = d ∧ (s.ltcInstant d t).rd64 R.TIME_LTCI_TB3_LO R.TIME_LTCI_TB3_HI = t := by
  have hfirst : RegFile.ChangedIn (fun k => 0xf02110 ≤ k ∧ k < 0xf02118) s.regs (s.wr64 R.TIME_LTCI_DT_LO R.TIME_LTCI_DT_HI [] d).regs :=
    State.wr64_changedIn (by decide) (by decide)
  have hsecond : RegFile.ChangedIn (fun k => 0xf02118 ≤ k ∧ k < 0xf02120) (s.wr64 R.TIME_LTCI_DT_LO R.TIME_LTCI_DT_HI [] d).regs
      (s.ltcInstant d t).regs :=
    State.wr64_changedIn (by decide) (by decide)
  refine ⟨?_, State.rd64_wr64 (hfirst.rising hr) (by decide) ht⟩
  rw [State.rd64_of_changedIn hsecond (by decide) (by decide)]
  exact State.rd64_wr64 hr (by decide) hd

theorem State.ltcWords_shown (hr : rising s.regs = true) (htc : tc < 2 ^ 32) (hub : ub < 2 ^ 32) :
    (s.ltcWords tc ub).rd R.TIME_LTCI_TC = tc ∧ (s.ltcWords tc ub).rd R.TIME_LTCI_UB = ub ∧ (s.ltcWords tc ub).dt = s.dt ∧
      (s.ltcWords tc ub).tbNs 3 = s.tbNs 3 := by
  have h : RegFile.ChangedIn (fun k => 0xf02108 ≤ k ∧ k < 0xf02110) s.regs (s.ltcWords tc ub).regs :=
    (RegFile.ChangedIn.refl.wr (by decide)).wr (by decide)
  refine ⟨?_, (State.rd_wr_same (State.rising_wr hr)).trans (Nat.mod_eq_of_lt hub), State.dt_of_changedIn h rfl (by decide),
    State.tbNs_of_changedIn h rfl (by decide) (by decide)⟩
  exact (State.rd_wr_ne (by decide)).trans ((State.rd_wr_same hr).trans (Nat.mod_eq_of_lt htc))

/-- A timecode and its instant, as LTC in shows them (R462). -/
structure State.ShowsLtc (s : State) (tc ub d t : Nat) (df : Bool) : Prop where
  code : s.rd R.TIME_LTCI_TC = tc
  user : s.rd R.TIME_LTCI_UB = ub
  device : s.rd64 R.TIME_LTCI_DT_LO R.TIME_LTCI_DT_HI = d
  base : s.rd64 R.TIME_LTCI_TB3_LO R.TIME_LTCI_TB3_HI = t
  locked : s.flag Fl.TIME_LTCI_STAT_locked = true
  drop : s.flag Fl.TIME_LTCI_STAT_df = df

theorem State.ShowsLtc.congr {u : State} (h : s.ShowsLtc tc ub d t df) (hu : u.regs = s.regs) : u.ShowsLtc tc ub d t df where
  code := (State.rd_congr hu).trans h.code
  user := (State.rd_congr hu).trans h.user
  device := (State.rd64_congr hu).trans h.device
  base := (State.rd64_congr hu).trans h.base
  locked := by rw [State.flag, State.get_congr hu]; exact h.locked
  drop := by rw [State.flag, State.get_congr hu]; exact h.drop

theorem State.ltcRegs_shown (hr : rising s.regs = true) (htc : tc < 2 ^ 32) (hub : ub < 2 ^ 32) :
    (s.ltcRegs tc ub r df).ShowsLtc tc ub s.dt (s.tbNs 3) df := by
  obtain ⟨htc', hub', hdt, htb⟩ := State.ltcWords_shown (s := s) hr htc hub
  have hw : rising (s.ltcWords tc ub).regs = true := State.rising_wr (State.rising_wr hr)
  have hdt64 : s.dt < 2 ^ 64 := unsigned_lt 64 _
  have htb64 : s.tbNs 3 < 2 ^ 64 := Nat.mod_lt _ (Nat.two_pow_pos 64)
  have hwi : RegFile.ChangedIn (fun k => 0xf02110 ≤ k ∧ k < 0xf02120) (s.ltcWords tc ub).regs
      ((s.ltcWords tc ub).ltcInstant s.dt (s.tbNs 3)).regs :=
    (State.wr64_changedIn (by decide) (by decide)).trans (State.wr64_changedIn (by decide) (by decide))
  obtain ⟨hd, ht⟩ := State.ltcInstant_shown hw hdt64 htb64
  obtain ⟨hlocked, hdf⟩ := State.ltcStatus_shown (r := r) (df := df) (hwi.rising hw)
  rw [State.ltcRegs, hdt, htb]
  generalize (s.ltcWords tc ub).ltcInstant s.dt (s.tbNs 3) = i at *
  have hstat : RegFile.ChangedIn (fun k => k = R.TIME_LTCI_STAT.key []) i.regs (i.ltcStatus r df).regs := State.ltcStatus_changedIn
  refine ⟨?_, ?_, ?_, ?_, hlocked, hdf⟩
  · rw [State.rd_of_changedIn hstat (by decide), State.rd_of_changedIn hwi (by decide), htc']
  · rw [State.rd_of_changedIn hstat (by decide), State.rd_of_changedIn hwi (by decide), hub']
  · rw [State.rd64_of_changedIn hstat (by decide) (by decide), hd]
  · rw [State.rd64_of_changedIn hstat (by decide) (by decide), ht]

theorem State.ltcWords_frame : s.ltcWords tc ub = { s with regs := (s.ltcWords tc ub).regs } := rfl

theorem State.ltcInstant_frame : s.ltcInstant d t = { s with regs := (s.ltcInstant d t).regs } := rfl

theorem State.ltcStatus_frame : s.ltcStatus r df = { s with regs := (s.ltcStatus r df).regs } := rfl

theorem State.ltcRegs_frame : s.ltcRegs tc ub r df = { s with regs := (s.ltcRegs tc ub r df).regs } := by
  rw [State.ltcRegs, State.ltcStatus_frame, State.ltcInstant_frame, State.ltcWords_frame]

theorem State.ltcPublished_frame : s.ltcPublished tc ub r df =
    { s with regs := (s.ltcPublished tc ub r df).regs, time := (s.ltcPublished tc ub r df).time } := by
  rw [State.ltcPublished, State.ltcRegs_frame]
  rfl

/-- A decoded frame shows its timecode and instant; its event is the one other thing that it leaves. -/
theorem State.ltcIn_shown (hr : rising s.regs = true) (htc : tc < 2 ^ 32) (hub : ub < 2 ^ 32) (hen : s.flag Fl.TIME_LTCI_CTRL_enable = true) :
    (s.ltcIn tc ub df period).ShowsLtc tc ub s.dt (s.tbNs 3) df ∧ s.ltcIn tc ub df period =
      { s with regs := (s.ltcIn tc ub df period).regs, time := (s.ltcIn tc ub df period).time, raised := (s.ltcIn tc ub df period).raised } := by
  have hshown := State.ltcRegs_shown (s := s) (r := State.ltcRate period) (df := df) hr htc hub
  rcases State.ltcIn_cases (tc := tc) (ub := ub) (df := df) (period := period) hen with h | ⟨n, h⟩ <;> rw [h]
  · refine ⟨hshown.congr (by rw [State.ltcPublished, State.modTime_regs]), ?_⟩
    rw [State.ltcPublished_frame]
  · refine ⟨hshown.congr (by rw [State.ev_regs, State.ltcPublished, State.modTime_regs]), ?_⟩
    rw [State.ltcPublished_frame]
    rfl

/-- The decoder loses its signal. -/
def State.ltcCleared (s : State) : State :=
  ((s.put Fl.TIME_LTCI_STAT_locked [] 0).put Fl.TIME_LTCI_STAT_lost [] 1).modTime fun x => { x with ltcRef := none }

theorem State.ltcLoss_cases (h : s.flag Fl.TIME_LTCI_STAT_locked = true) :
    s.ltcLoss = s.ltcCleared ∨ ∃ n, s.ltcLoss = s.ltcCleared.ev 0x00E7 srcTIME 0 n := by
  rw [State.ltcLoss, if_neg (by simp [h])]
  dsimp only
  split
  · exact .inr ⟨_, rfl⟩
  · exact .inl rfl

theorem State.ltcCleared_shown (hr : rising s.regs = true) :
    s.ltcCleared.flag Fl.TIME_LTCI_STAT_locked = false ∧ s.ltcCleared.flag Fl.TIME_LTCI_STAT_lost = true := by
  have hlocked : (s.put Fl.TIME_LTCI_STAT_locked [] 0).Shows Fl.TIME_LTCI_STAT_locked [] 0 := .of_put hr (by decide) (by decide) (by decide)
  have hlost := State.Shows.of_put (d := Fl.TIME_LTCI_STAT_lost) (ix := []) (v := 1) hlocked.rising (by decide) (by decide) (by decide)
  exact ⟨(hlocked.put (e := Fl.TIME_LTCI_STAT_lost) (jx := []) (v := 1) (by decide)).flag_false, hlost.flag_true⟩

end

/-! ### Timecode out (R463) -/

/-- What waiting for an instant may change: the time, the synthesisers and the powered hours; the decoded timecode stays (log 35). -/
structure State.Elapsed (s t : State) : Prop where
  frame : t = { s with time := t.time, aud := t.aud, nv := t.nv, regs := t.regs }
  regs : RegFile.ChangedIn HoursKeys s.regs t.regs
  ltcRef : t.time.ltcRef = s.time.ltcRef

section

variable {s t u : State} {b x n v : Nat}

theorem State.Elapsed.refl : s.Elapsed s := ⟨rfl, .refl, rfl⟩

theorem State.Elapsed.trans (h₁ : s.Elapsed t) (h₂ : t.Elapsed u) : s.Elapsed u where
  frame := calc
    u = { t with time := u.time, aud := u.aud, nv := u.nv, regs := u.regs } := h₂.frame
    _ = { s with time := u.time, aud := u.aud, nv := u.nv, regs := u.regs } := by rw [h₁.frame]
  regs := h₁.regs.trans h₂.regs
  ltcRef := h₂.ltcRef.trans h₁.ltcRef

theorem State.tickTime_ltcRef : (s.tickTime n).time.ltcRef = s.time.ltcRef := by
  unfold State.tickTime
  extract_lets x ofs tb u
  split <;> rfl

theorem State.elapsed_advance : s.Elapsed (s.advance n) where
  frame := by
    conv_lhs => rw [State.advance_frame]
    rw [State.advance_frame]
  regs := State.advance_changedIn
  ltcRef := by
    rw [State.advance_frame]
    exact State.tickTime_ltcRef

theorem State.elapsed_reach : s.Elapsed (s.reach b x n) := by
  induction n generalizing s with
  | zero => exact .refl
  | succ n ih =>
    rw [State.reach]
    split
    · exact .refl
    · exact State.elapsed_advance.trans ih

/-- The frame of timecode `tc` leaves, `k` being its grid instant. -/
def State.ltcSent (s : State) (tc k next : Nat) (jam : Option (Nat × Nat)) : State :=
  let t := (s.wr R.TIME_LTCO_TC [] tc).modTime fun y => { y with ltcNext := some (k + 1, next), ltcJam := jam }
  t.emit (.port 7 0 (leBytes 4 tc ++ leBytes 4 (t.rd R.TIME_LTCO_UB) ++ leBytes 1 (b2n (s.flag Fl.TIME_LTCO_CTRL_df))))

theorem State.ltcSent_out {tc k next : Nat} {jam : Option (Nat × Nat)} : (s.ltcSent tc k next jam).out =
    s.out ++ [.port 7 0 (leBytes 4 tc ++ leBytes 4 (s.rd R.TIME_LTCO_UB) ++ leBytes 1 (b2n (s.flag Fl.TIME_LTCO_CTRL_df)))] := by
  have hub : (s.wr R.TIME_LTCO_TC [] tc).rd R.TIME_LTCO_UB = s.rd R.TIME_LTCO_UB := State.rd_wr_ne (by decide)
  rw [← hub]
  rfl

/-- The registers that waiting may change, and those of LTC out. -/
theorem not_hoursKeys {x : Nat} (h : 0x80000 ≤ x) : ¬HoursKeys x := by
  rintro (rfl | rfl) <;> exact absurd h (by decide)

/-- With src = 1, LTC out follows the decoded timecode, one frame on. -/
theorem State.ltcOut_sent (h : s.flag Fl.TIME_LTCO_CTRL_enable = true) : ∃ u tc k jam, s.Elapsed u ∧
    s.ltcOut = u.ltcSent tc k (State.tcNext (State.ltcFps (s.get Fl.TIME_LTCO_CTRL_r)) (u.flag Fl.TIME_LTCO_CTRL_df) tc) jam ∧
    ∀ i, u.flag Fl.TIME_LTCO_CTRL_src = true → u.time.ltcRef = some i →
      tc = State.tcNext (State.ltcFps (s.get Fl.TIME_LTCO_CTRL_r)) (u.flag Fl.TIME_LTCO_CTRL_df) i.2 := by
  unfold State.ltcOut
  rw [if_neg (by simp [h])]
  extract_lets r phase now k u df next jam old tc sent timed
  refine ⟨u, tc, k, _, State.elapsed_reach, rfl, fun i hsrc hi => ?_⟩
  simp only [tc, hi, hsrc]
  rfl

end

/-- Settles O30: each frame, reference or timecode as the registers, the ring or queue, and the record that it leaves. -/
theorem ptpGenlockTimecode : Obligations.PtpGenlockTimecode := by
  refine ⟨⟨?_, ?_, ?_, ?_, ?_⟩, ?_, ?_, ?_, ?_, ?_, ?_⟩
  · intro p v typ dom seq s hp _ hreach hr hshape hgo hon h14 h256 b stamp hmsg hroom
    have hlen : p < (s.ptpSent p (bits v 8 0)).time.txq.length := Nat.lt_of_lt_of_eq hp hshape.txq.symm
    have hsent : rising (s.ptpSent p (bits v 8 0)).regs = true := State.ptpSent_rising hr
    have hqueue : (s.ptpSent p (bits v 8 0)).time.txq = s.time.txq := by rw [State.ptpSent_frame]
    refine ⟨_, exec_ptpTransmit_event hp hreach hr hgo hon h14 h256 hmsg hroom, ?_, ?_, ?_, fun q hq => ?_, ?_⟩
    · rw [State.txqChanged_frame]
      rfl
    · rw [State.txqChanged_queue hlen, hqueue]
      rfl
    · rw [State.txqChanged_level hsent hlen, List.length_append, List.length_singleton, hqueue]
      omega
    · rw [State.txqChanged_other hq, hqueue]
    · rw [State.txqChanged_frame, State.ptpSent_frame]
  · intro p s hp hreach hr hshape
    have hlen : p < s.time.txq.length := Nat.lt_of_lt_of_eq hp hshape.txq.symm
    refine ⟨_, exec_txqPop_reached hp hreach, State.txqChanged_queue hlen, ?_, fun q hq => State.txqChanged_other hq, State.txqChanged_frame⟩
    rw [State.txqChanged_level hr hlen, List.length_drop]
  · intro p typ dom seq event b s hp hr hh hon hmsg hen tail size slot back hroom hapart
    obtain ⟨hread, hback, hrest⟩ := State.rxStored_memory (s := s) (p := p) (entry := s.rxEntry p typ dom event b) hh State.length_rxEntry hapart
    obtain ⟨hstamp, hframe⟩ := State.rxEntry_parts (s := s) (p := p) (typ := typ) (dom := dom) (b := b) (event := event)
    obtain ⟨e, hraised, htyp, hsrc, hinst⟩ := State.ev_appends (s := s.rxStored p (s.rxEntry p typ dom event b)) (typ := 0x00E3) (src := srcTIME)
      (inst := p) (payload := s.rxNext p)
    refine ⟨(s.rxStored p (s.rxEntry p typ dom event b)).ev 0x00E3 srcTIME p (s.rxNext p), e, ?_, ?_, ?_, ?_, ?_, ?_,
      hraised.trans (by rw [State.rxStored_raised]), htyp, hsrc, hinst, State.ev_frame_of_host State.rxStored_frame⟩
    · rw [exec_ptpReceive_port hp, State.ptpRx_stored hon hmsg hen hroom]
    · rw [State.ev_rd, State.rxStored_tail hr]
      rfl
    · rw [State.ev_host]
      exact (congrArg leNat (hread 0 8 (by decide))).trans hstamp
    · rw [State.ev_host]
      exact (hread 32 224 (by decide)).trans hframe
    · rw [State.ev_host]
      exact hback
    · rw [State.ev_host]
      exact hrest
  · intro p b s hp hon hmsg hen
    rw [exec_ptpReceive_port hp, State.ptpRx_disabled hon hmsg hen]
  · intro p b s hon
    rw [exec_ptpReceive, execPtpReceive, State.ptpRx_off hon, ite_self]
  · intro std s hstd hr
    obtain ⟨hdt, htb, hrefs⟩ := State.glStamped_shown hr (State.in64ths_lt s.dtFine.toNat) (State.in64ths_lt (s.tbFine 3))
    have hrest := State.genlockRef_changedIn hr hstd
    obtain ⟨hformat, hlocked⟩ := State.genlockRef_status hr hstd
    refine ⟨s.genlockRef std, rfl, ?_, ?_, ?_, hformat, fun h => ?_, fun r hf href hperiod => ?_, State.genlockRef_frame hr hstd⟩
    · rw [State.rd64_of_changedIn hrest (by decide) (by decide), hdt]
    · rw [State.rd64_of_changedIn hrest (by decide) (by decide), htb]
    · rw [State.rd_of_changedIn hrest (by decide), hrefs]
    · rw [hlocked, h, Bool.or_true]
    · rw [hlocked, State.glFits_of hf href hperiod, Bool.true_or]
  · intro s hr
    obtain ⟨hlocked, hformat⟩ := State.genlockLoss_status hr
    exact ⟨s.genlockLoss, rfl, hlocked, hformat, State.genlockLoss_locked hr, State.genlockLoss_frame⟩
  · intro tc ub period df s htc hub hr hen
    obtain ⟨h, hframe⟩ := State.ltcIn_shown (df := df) (period := period) hr htc hub hen
    exact ⟨_, rfl, h.code, h.user, h.device, h.base, h.locked, h.drop, hframe⟩
  · intro s hr hlocked
    obtain ⟨hl, hlost⟩ := State.ltcCleared_shown hr
    rcases State.ltcLoss_cases hlocked with h | ⟨n, h⟩
    · exact ⟨_, congrArg Host.Outcome.next h, hl, hlost, rfl⟩
    · exact ⟨_, congrArg Host.Outcome.next h, (State.ev_flag ..).trans hl, (State.ev_flag ..).trans hlost, rfl⟩
  · intro s hr hen
    obtain ⟨u, tc, k, jam, hwait, hout, hsrc⟩ := State.ltcOut_sent hen
    have hdf : u.flag Fl.TIME_LTCO_CTRL_df = s.flag Fl.TIME_LTCO_CTRL_df := State.flag_of_changedIn hwait.regs (not_hoursKeys (by decide))
    have hub : u.rd R.TIME_LTCO_UB = s.rd R.TIME_LTCO_UB := State.rd_of_changedIn hwait.regs (not_hoursKeys (by decide))
    have hbit : s.get Fl.TIME_LTCO_CTRL_df = b2n (s.flag Fl.TIME_LTCO_CTRL_df) := (State.Shows.of_flag hr rfl rfl).get
    have hflag : u.flag Fl.TIME_LTCO_CTRL_src = s.flag Fl.TIME_LTCO_CTRL_src := State.flag_of_changedIn hwait.regs (not_hoursKeys (by decide))
    refine ⟨_, tc, k, congrArg Host.Outcome.next hout, State.rd_wr_same (hwait.regs.rising hr), ?_, ?_, fun i h1 h2 => ?_⟩
    · have hprev : u.out = s.out := by rw [hwait.frame]
      rw [hbit, ← hdf, ← hub, ← hprev]
      exact State.ltcSent_out
    · rw [← hdf]
      rfl
    · rw [← hdf]
      exact hsrc i (hflag.trans h1) (hwait.ltcRef.trans h2)
  · intro v s hreach hr
    refine ⟨s.ltcJam v, ?_, State.rd_wr_same hr, rfl, rfl⟩
    rw [exec_ltcJam, execLtcJam, State.onUnit_reached hreach]

end Sys2Proof.Machine
/-! The statements of spec/04_epochs_and_fronts.md: how a front is issued, and how frames and pipelines move. -/

namespace Sys2Proof.Machine

/-! ### What an operation leaves of commits, pipelines and frames -/

/-- The registers past DEV_EPOCH_IN. -/
@[reducible] def PastEpochIn : Nat → Prop := fun k => R.DEV_EPOCH_OUT.off ≤ k

theorem pastEpochIn_key {r : Reg} {ix : List Nat} (h : R.DEV_EPOCH_OUT.off ≤ r.off) : PastEpochIn (r.key ix) :=
  Nat.le_trans h (Nat.le_trans (Nat.le_add_right ..) (Nat.le_add_right ..))

/-- No commit comes to pend, and what DEV shows of commits and of the newest front stays. -/
structure State.CommitStill (s t : State) : Prop where
  front : s.front = none → t.front = none
  regs : RegFile.ChangedIn PastEpochIn s.regs t.regs

/-- The frames in flight stay too. -/
structure State.FramesStill (s t : State) : Prop extends State.CommitStill s t where
  frames : t.frames = s.frames

/-- The pipelines stay too. -/
structure State.FlowStill (s t : State) : Prop extends State.FramesStill s t where
  pipes : t.pipes = s.pipes

theorem State.CommitStill.refl {s : State} : s.CommitStill s := ⟨id, .refl⟩

theorem State.CommitStill.trans {s t u : State} (h₁ : s.CommitStill t) (h₂ : t.CommitStill u) : s.CommitStill u :=
  ⟨fun h => h₂.front (h₁.front h), h₁.regs.trans h₂.regs⟩

theorem State.CommitStill.foldl {α : Type} {step : State → α → State} {l : List α} {s : State}
    (hs : ∀ (t : State) (x : α), t.CommitStill (step t x)) : s.CommitStill (l.foldl step s) :=
  List.foldlRecOn l step (motive := s.CommitStill) .refl fun _ ht x _ => ht.trans (hs _ x)

theorem State.FramesStill.refl {s : State} : s.FramesStill s := ⟨.refl, rfl⟩

theorem State.FramesStill.trans {s t u : State} (h₁ : s.FramesStill t) (h₂ : t.FramesStill u) : s.FramesStill u :=
  ⟨h₁.toCommitStill.trans h₂.toCommitStill, h₂.frames.trans h₁.frames⟩

theorem State.FramesStill.ite {s t u : State} {c : Prop} [Decidable c] (ht : s.FramesStill t) (hu : s.FramesStill u) :
    s.FramesStill (if c then t else u) := by
  split
  · exact ht
  · exact hu

theorem State.FramesStill.foldl {α : Type} {step : State → α → State} {l : List α} {s : State}
    (hs : ∀ (t : State) (x : α), t.FramesStill (step t x)) : s.FramesStill (l.foldl step s) :=
  List.foldlRecOn l step (motive := s.FramesStill) .refl fun _ ht x _ => ht.trans (hs _ x)

namespace State.FlowStill

variable {s t u : State} {d : Fld} {r lo hi : Reg} {ix : List Nat} {v : Nat}

theorem refl : FlowStill s s := ⟨.refl, rfl⟩

theorem trans (h₁ : FlowStill s t) (h₂ : FlowStill t u) : FlowStill s u :=
  ⟨h₁.toFramesStill.trans h₂.toFramesStill, h₂.pipes.trans h₁.pipes⟩

/-- An update of anything else. -/
theorem beside (h : FlowStill s t) (hfront : u.front = t.front := by rfl) (hpipes : u.pipes = t.pipes := by rfl)
    (hframes : u.frames = t.frames := by rfl) (hregs : u.regs = t.regs := by rfl) : FlowStill s u :=
  h.trans ⟨⟨⟨fun h => hfront.trans h, hregs ▸ .refl⟩, hframes⟩, hpipes⟩

theorem wr (h : FlowStill s t) (hr : R.DEV_EPOCH_OUT.off ≤ r.off := by decide) : FlowStill s (t.wr r ix v) :=
  h.trans ⟨⟨⟨id, RegFile.ChangedIn.refl.wr (pastEpochIn_key hr)⟩, rfl⟩, rfl⟩

theorem put (h : FlowStill s t) (hd : R.DEV_EPOCH_OUT.off ≤ d.reg.off := by decide) : FlowStill s (t.put d ix v) := h.wr hd

theorem inc (h : FlowStill s t) (hd : R.DEV_EPOCH_OUT.off ≤ d.reg.off := by decide) : FlowStill s (t.inc d ix v) := h.put hd

theorem wr64 (h : FlowStill s t) (hlo : R.DEV_EPOCH_OUT.off ≤ lo.off := by decide) (hhi : R.DEV_EPOCH_OUT.off ≤ hi.off := by decide) :
    FlowStill s (t.wr64 lo hi ix v) := (h.wr hlo).wr hhi

theorem ite {c : Prop} [Decidable c] (ht : FlowStill s t) (hu : FlowStill s u) : FlowStill s (if c then t else u) := by
  split
  · exact ht
  · exact hu

theorem foldl {α : Type} {step : State → α → State} {l : List α} (h : FlowStill s t) (hs : ∀ u x, FlowStill u (step u x)) :
    FlowStill s (l.foldl step t) :=
  List.foldlRecOn l step (motive := FlowStill s) h fun _ hu x _ => hu.trans (hs _ x)

end State.FlowStill

section

variable {s t : State} {typ src inst epoch fid kind n b x : Nat}

/-! Records. -/

theorem State.flowStill_trace : s.FlowStill (s.trace src kind inst epoch fid) := by
  unfold State.trace
  exact .ite (State.FlowStill.refl.beside (u := s.fresh.2)).beside .refl

/-! The time that passes (log 35). -/

theorem State.Elapsed.flowStill (h : s.Elapsed t) : s.FlowStill t := by
  have hregs : RegFile.ChangedIn PastEpochIn s.regs t.regs := h.regs.mono (by rintro k (rfl | rfl) <;> decide)
  have hframe := h.frame
  refine ⟨⟨⟨fun hf => ?_, hregs⟩, ?_⟩, ?_⟩ <;> rw [hframe]
  exact hf

theorem State.elapsed_reachClk : s.Elapsed (s.reachClk n) := by
  rcases s.reachClk_cases n with ⟨h, -⟩ | ⟨_, h, -⟩ <;> rw [h]
  · exact .refl
  · exact State.elapsed_advance

theorem State.elapsed_reachDt : s.Elapsed (s.reachDt n) := State.elapsed_reach

theorem State.clk_advance : (s.advance n).time.clk = s.time.clk + 2 * n := by
  rw [State.advance_frame, State.tickTime_clk]

theorem State.le_clk_reachClk : n ≤ (s.reachClk n).time.clk := by
  rcases s.reachClk_cases n with ⟨h, hle⟩ | ⟨_, h, hle⟩ <;> rw [h]
  · exact hle
  · rwa [State.clk_advance]

theorem State.clk_le_reach : s.time.clk ≤ (s.reach b x n).time.clk := by
  induction n generalizing s with
  | zero => exact Nat.le_refl _
  | succ n ih =>
    rw [State.reach]
    split
    · exact Nat.le_refl _
    · exact Nat.le_trans (by rw [State.clk_advance]; exact Nat.le_add_right ..) ih

/-! Generators and audio take up device-scoped settings (R187, R466, R498). -/

theorem State.flowStill_genEpoch : s.FlowStill s.genEpoch := by
  unfold State.genEpoch
  extract_lets a
  have ha : s.FlowStill a := State.FlowStill.refl.foldl fun _ _ => State.FlowStill.refl.beside
  clear_value a
  exact ha.beside

theorem State.flowStill_audHalt : s.FlowStill (s.audHalt n) := by
  unfold State.audHalt
  extract_lets a b
  have ha : s.FlowStill a := .put (.put .refl)
  have hb : s.FlowStill b := .ite ha (.put ha)
  exact hb.beside

theorem State.flowStill_rampOut {cause : Nat} : s.FlowStill (s.rampOut n cause) := by
  unfold State.rampOut
  extract_lets f gain a
  have ha : s.FlowStill a := State.FlowStill.refl.beside
  have hfade : s.FlowStill (a.setFade n ⟨1, gain, cause⟩) := .put ha.beside
  have hcount : s.FlowStill ((a.setFade n ⟨1, gain, cause⟩).inc Fl.AUD_P_FADES_count [n]) := hfade.inc
  exact hcount.beside

theorem State.flowStill_audStop : s.FlowStill (s.audStop n) := by
  unfold State.audStop
  extract_lets f a
  have ha : s.FlowStill a := State.FlowStill.refl.beside
  have hfresh : s.FlowStill a.fresh.2 := ha.beside
  exact .ite (ha.trans State.flowStill_audHalt) (.ite ha (hfresh.trans State.flowStill_rampOut))

theorem State.flowStill_startLess {begun : Bool} : s.FlowStill (s.startLess n begun) := by
  unfold State.startLess
  split
  · exact .refl
  · extract_lets g
    have hcleared : s.FlowStill (s.modAud fun x => { x with starting := none }) := State.FlowStill.refl.beside
    have hgo : s.FlowStill ((s.modAud fun x => { x with starting := none }).put Fl.AUD_START_CTRL_go [] 0) := hcleared.put
    exact .ite hgo.beside State.FlowStill.refl.beside

theorem State.flowStill_audEpoch : s.FlowStill s.audEpoch := by
  unfold State.audEpoch
  refine State.FlowStill.refl.foldl fun t n => ?_
  have hunarmed : t.FlowStill (t.modPort n fun p => { p with armed := false }) := State.FlowStill.refl.beside
  exact .ite (.ite .refl (hunarmed.trans State.flowStill_startLess))
    (.ite .refl (.ite State.flowStill_audHalt (.ite .refl State.flowStill_audStop)))

/-! The sky agent takes note (R483). -/

theorem State.flowStill_skySendAt {dst : Nat} {body : Bytes} : s.FlowStill (s.skySendAt typ dst n body) := by
  unfold State.skySendAt
  extract_lets a
  have ha : s.FlowStill a := by
    refine State.FlowStill.refl.foldl fun t p => ?_
    split
    · exact State.FlowStill.refl.beside
    · exact .refl
  exact ha.beside

theorem State.flowStill_skyUp {body : Bytes} : s.FlowStill (s.skyUp typ body) := .ite .refl State.flowStill_skySendAt

theorem State.flowStill_skyReport {op : Nat} : s.FlowStill (s.skyReport op n) := by
  unfold State.skyReport
  extract_lets mine all worst a
  have ha : s.FlowStill a := State.FlowStill.refl.beside
  exact .ite .refl (.ite ha.beside (ha.trans State.flowStill_skyUp))

theorem State.flowStill_skyDone {op node result : Nat} : s.FlowStill (s.skyDone op n node result) := by
  unfold State.skyDone
  exact State.FlowStill.trans State.FlowStill.refl.beside State.flowStill_skyReport

theorem State.flowStill_skyEnded {op result t late : Nat} {refused : Bool} : s.FlowStill (s.skyEnded op result refused t late n) := by
  unfold State.skyEnded
  extract_lets moved a b c d
  have ha : s.FlowStill a := .put (.put .refl)
  have hb : s.FlowStill b := .ite ha.put ha
  have hc : s.FlowStill c := hb.wr64
  have hd : s.FlowStill d := hc.beside
  exact hd.beside

theorem State.flowStill_skyIssued {t : Nat} {late : Bool} : s.FlowStill (s.skyIssued t n late) := by
  unfold State.skyIssued
  extract_lets e a r b
  have ha : s.FlowStill a := .ite (.inc .refl) .refl
  have hb : s.FlowStill b := ha.trans State.flowStill_skyEnded
  clear_value b
  have hnoted : s.FlowStill (b.modSky fun x => { x with prep := none, held := none, acks := [], acked := false }) := hb.beside
  exact hnoted.trans State.flowStill_skyDone

/-! Settling (R140, R142). -/

theorem State.flowStill_settle : s.FlowStill s.settle := by
  unfold State.settle
  extract_lets out
  split
  · extract_lets a b
    have ha : s.FlowStill a := .wr .refl
    have hb : s.FlowStill b := ha.beside
    exact hb.beside
  · exact .refl

end

end Sys2Proof.Machine
namespace Sys2Proof.Machine

/-! ### Taking a front (R133, R141, R143, R144) -/

section

variable {s t : State} {p e fid first n a : Nat} {g : Graph} {regs : RegFile} {l : List Nat} {patches : List Patch}

/-! What a front changes beside its pipeline. -/

theorem retiredFld_past (c : Nat) : R.DEV_EPOCH_OUT.off ≤ (retiredFld c).reg.off := by
  unfold retiredFld
  split <;> decide

theorem State.flowStill_retireFaulty : s.FlowStill (s.retireFaulty p e) := by
  unfold State.retireFaulty
  refine State.FlowStill.refl.foldl fun t x => ?_
  extract_lets a old b nv c
  have ha : t.FlowStill a := ⟨⟨⟨fun h => congrArg (Option.map _) h, .refl⟩, rfl⟩, rfl⟩
  have hb : t.FlowStill b := ha.put (retiredFld_past x.cls)
  have hc : t.FlowStill c := hb.beside
  exact hc.beside

theorem State.flowStill_xwShow : s.FlowStill s.xwShow := .put .refl

theorem State.flowStill_xwMove : s.FlowStill (s.xwMove p) := by
  unfold State.xwMove
  extract_lets moved
  exact .ite .refl (State.FlowStill.trans State.FlowStill.refl.beside State.flowStill_xwShow)

theorem State.flowStill_xwAssign : s.FlowStill (s.xwAssign p) := by
  unfold State.xwAssign
  exact State.FlowStill.trans State.FlowStill.refl.beside State.flowStill_xwShow

theorem State.flowStill_hbmWrite {b : Bytes} : s.FlowStill (s.hbmWrite a b) := .ite State.FlowStill.refl.beside State.FlowStill.refl.beside

theorem State.flowStill_hbmUndef : s.FlowStill (s.hbmUndef a n) := .ite .refl State.FlowStill.refl.beside

theorem State.flowStill_lutPut {b : Byte} : s.FlowStill (s.lutPut a b) := .ite State.FlowStill.refl.beside State.FlowStill.refl.beside

theorem State.flowStill_putBlob {x : BlobData} : s.FlowStill (s.putBlob g regs x) := by
  unfold State.putBlob
  refine .ite State.flowStill_hbmWrite (State.FlowStill.refl.foldl fun t i => ?_)
  split
  · exact State.flowStill_lutPut
  · exact .refl

theorem State.flowStill_applyPatchPlan {x : Patch} : s.FlowStill (s.applyPatchPlan x) := by
  unfold State.applyPatchPlan
  exact (State.FlowStill.refl.foldl fun t m => .put (.put (.put .refl))).foldl fun t z =>
    .ite State.FlowStill.refl.beside State.flowStill_hbmUndef

theorem State.flowStill_applyPatchLuts {x : Patch} : s.FlowStill (s.applyPatchLuts e x) := by
  unfold State.applyPatchLuts
  exact State.FlowStill.refl.foldl fun t b => State.flowStill_putBlob

theorem State.flowStill_patchRun {x : Patch} : s.FlowStill ((s.applyPatchLuts e x).outfNew p) := State.flowStill_applyPatchLuts.beside

theorem State.flowStill_capFront : s.FlowStill (s.capFront p) := by
  unfold State.capFront
  extract_lets d u
  exact .ite .refl (.ite State.FlowStill.refl.beside (.put .refl))

/-! What it changes of its pipeline. -/

/-- The pipeline is in epoch `e`, which is due no more. -/
structure PipeSt.Takes (e : Nat) (x y : PipeSt) : Prop where
  epoch : y.epoch = e
  due : y.due = x.due.filter fun d => d ≠ e
  idle : y.idle = x.idle

/-- No commit comes to pend, the frames stay, and of the pipelines `p` alone changes, by `f`. -/
structure State.PipeChanged (p : Nat) (f : PipeSt → PipeSt) (s t : State) : Prop extends State.FramesStill s t where
  pipes : t.pipes = modNth s.pipes p f

theorem State.FlowStill.pipeChanged (h : s.FlowStill t) : s.PipeChanged p id t where
  toFramesStill := h.toFramesStill
  pipes := by rw [h.pipes, modNth, List.modify_id]

theorem State.pipeChanged_modPipe {f : PipeSt → PipeSt} : s.PipeChanged p f (s.modPipe p f) := ⟨⟨⟨id, .refl⟩, rfl⟩, rfl⟩

theorem State.PipeChanged.trans {u : State} {f h : PipeSt → PipeSt} (h₁ : s.PipeChanged p f t) (h₂ : t.PipeChanged p h u) :
    s.PipeChanged p (h ∘ f) u where
  toFramesStill := h₁.toFramesStill.trans h₂.toFramesStill
  pipes := by rw [h₂.pipes, h₁.pipes, modNth, modNth, modNth, List.modify_modify_eq]

theorem State.takeFront_changed : ∃ f, s.PipeChanged p f (s.takeFront p e first patches) ∧ ∀ y, PipeSt.Takes e y (f y) := by
  unfold State.takeFront
  extract_lets patch spare a g b mark c d
  have ha : s.FlowStill a := State.flowStill_retireFaulty.trans State.flowStill_xwMove
  have hb : ∃ f, s.PipeChanged p f b ∧ ∀ y, (f y).due = y.due ∧ (f y).idle = y.idle := by
    have hg : s.FlowStill g := ha.beside
    dsimp -zeta only [b]
    clear_value b g a patch
    split
    case h_1 x _ =>
      extract_lets u busy w
      have hu : s.FlowStill u := (hg.trans State.flowStill_xwAssign).trans State.flowStill_applyPatchPlan
      have hw : s.FlowStill w := .ite hu (hu.trans State.flowStill_patchRun)
      split
      · exact ⟨_, hw.pipeChanged.trans State.pipeChanged_modPipe, fun y => ⟨rfl, rfl⟩⟩
      · exact ⟨id, hw.pipeChanged, fun y => ⟨rfl, rfl⟩⟩
    case h_2 => exact ⟨id, ha.pipeChanged, fun y => ⟨rfl, rfl⟩⟩
  obtain ⟨f, hf, hsame⟩ := hb
  clear_value b
  have hd : c.FlowStill d := State.flowStill_capFront
  refine ⟨_, (hf.trans State.pipeChanged_modPipe).trans (State.FlowStill.trans hd.beside State.flowStill_trace).pipeChanged, fun y => ?_⟩
  obtain ⟨hdue, hidle⟩ := hsame y
  exact ⟨rfl, congrArg _ hdue, hidle⟩

theorem State.takeFront_framesStill : s.FramesStill (s.takeFront p e first patches) := by
  obtain ⟨f, hf, -⟩ := State.takeFront_changed (s := s) (p := p) (e := e) (first := first) (patches := patches)
  exact hf.toFramesStill

theorem State.takeFront_pipe (hp : p < s.pipes.length) : p < (s.takeFront p e first patches).pipes.length ∧
    PipeSt.Takes e (s.pipeSt p) ((s.takeFront p e first patches).pipeSt p) := by
  obtain ⟨f, hf, htakes⟩ := State.takeFront_changed (s := s) (p := p) (e := e) (first := first) (patches := patches)
  refine ⟨?_, ?_⟩
  · rwa [hf.pipes, modNth, List.length_modify]
  · have hpipe : (s.takeFront p e first patches).pipeSt p = f (s.pipeSt p) := by
      rw [State.pipeSt, hf.pipes, getD_modNth_same hp, State.pipeSt]
    exact hpipe ▸ htakes _

/-! A pipeline takes what is due to it. -/

theorem State.takeDue_framesStill : s.FramesStill (s.takeDue p fid) := .foldl fun _ _ => State.takeFront_framesStill

/-- A pipeline has taken the fronts `l`, one after the other. -/
structure PipeSt.TakesAll (l : List Nat) (x y : PipeSt) : Prop where
  epoch : ∀ e, l.getLast? = some e → y.epoch = e
  due : y.due = x.due.filter fun d => d ∉ l
  idle : y.idle = x.idle

theorem State.takeFronts_pipe {ids : Nat → Nat} {with_ : State → Nat → List Patch} (hp : p < s.pipes.length) :
    let t := l.foldl (fun (t : State) e => t.takeFront p e (ids e) (with_ t e)) s
    p < t.pipes.length ∧ PipeSt.TakesAll l (s.pipeSt p) (t.pipeSt p) := by
  induction l using List.reverseRecOn with
  | nil => exact ⟨hp, nofun, by simp, rfl⟩
  | append_singleton l e ih =>
    obtain ⟨hlen, -, hdue, hidle⟩ := ih
    rw [List.foldl_append, List.foldl_cons, List.foldl_nil]
    generalize l.foldl (fun (t : State) e => t.takeFront p e (ids e) (with_ t e)) s = u at *
    obtain ⟨hlen', hepoch', hdue', hidle'⟩ := State.takeFront_pipe (e := e) (first := ids e) (patches := with_ u e) hlen
    refine ⟨hlen', fun d hd => ?_, ?_, hidle'.trans hidle⟩
    · rw [List.getLast?_concat, Option.some.injEq] at hd
      exact hepoch'.trans hd
    · rw [hdue', hdue, List.filter_filter]
      refine List.filter_congr fun d _ => ?_
      simp [and_comm]

/-- What is due to a pipeline, it takes: nothing is due any more, and it is in the newest of them. -/
theorem State.takeDue_pipe (hp : p < s.pipes.length) : ((s.takeDue p fid).pipeSt p).idle = (s.pipeSt p).idle ∧
    ((s.takeDue p fid).pipeSt p).due = [] ∧ ∀ e, (s.pipeSt p).due.getLast? = some e → ((s.takeDue p fid).pipeSt p).epoch = e := by
  obtain ⟨-, hepoch, hdue, hidle⟩ := State.takeFronts_pipe (s := s) (p := p) (l := (s.pipeSt p).due)
    (ids := fun e => if some e = (s.pipeSt p).due.getLast? then fid else noFrame)
    (with_ := fun t e => (t.patchesOf.filter fun x => x.1 = e).map (·.2)) hp
  refine ⟨hidle, hdue.trans ?_, hepoch⟩
  simp

end

end Sys2Proof.Machine
namespace Sys2Proof.Machine

/-! ### The epoch instant (R128, R131, R133, R136) -/

section

variable {s t : State} {f : Front} {p e fid newFid n : Nat}

/-- No commit pends, and DEV shows `n` as the newest front. -/
structure State.Issued (n : Nat) (s : State) : Prop where
  front : s.front = none
  rising : rising s.regs = true
  epoch : s.rd R.DEV_EPOCH_IN = n
  go : s.flag Fl.DEV_COMMIT_go = false
  pending : s.flag Fl.DEV_COMMIT_STAT_pending = false

theorem State.Issued.still (h : s.Issued n) (ht : s.CommitStill t) : t.Issued n where
  front := ht.front h.front
  rising := ht.regs.rising h.rising
  epoch := (State.rd_of_changedIn ht.regs (by decide)).trans h.epoch
  go := (State.flag_of_changedIn ht.regs (by decide)).trans h.go
  pending := (State.flag_of_changedIn ht.regs (by decide)).trans h.pending

/-- What a late commit adds to DEV_COMMIT_STAT leaves `pending` alone. -/
theorem State.Issued.stat (h : s.Issued n) {d : Fld} {v : Nat} (hd : d.reg = R.DEV_COMMIT_STAT ∧ d.lo ≤ d.hi ∧ d.hi < 32 ∧ 0 < d.lo) :
    (s.put d [] v).Issued n := by
  obtain ⟨hreg, hl, hh, hpos⟩ := hd
  have hkey : d.reg.key [] = R.DEV_COMMIT_STAT.key [] := by rw [hreg]
  refine ⟨h.front, State.rising_put h.rising, ?_, ?_, ?_⟩
  · exact (State.rd_put_ne (hkey ▸ by decide)).trans h.epoch
  · rw [State.flag, State.get_put_ne (hkey ▸ by decide), ← State.flag]
    exact h.go
  · rw [State.flag_put_apart h.rising hreg hh hl (by decide) (.inr hpos)]
    exact h.pending

theorem State.Issued.inc (h : s.Issued n) {d : Fld} {v : Nat} (hd : d.reg = R.DEV_COMMIT_STAT ∧ d.lo ≤ d.hi ∧ d.hi < 32 ∧ 0 < d.lo) :
    (s.inc d [] v).Issued n := h.stat hd

/-- The writes of the epoch instant to DEV, by which no commit pends any more. -/
theorem State.issued_of_none (hf : s.front = none) (hr : Machine.rising s.regs = true) :
    (((s.wr R.DEV_EPOCH_IN [] n).put Fl.DEV_COMMIT_go [] 0).put Fl.DEV_COMMIT_STAT_pending [] 0).Issued (n % 2 ^ 32) := by
  have hgo : Machine.rising ((s.wr R.DEV_EPOCH_IN [] n).put Fl.DEV_COMMIT_go [] 0).regs = true := State.rising_put (State.rising_wr hr)
  refine ⟨hf, State.rising_put hgo, ?_, ?_, State.flag_put_same (b := false) hgo (by decide) rfl⟩
  · rw [State.rd_put_ne (by decide), State.rd_put_ne (by decide), State.rd_wr_same hr]
  · rw [State.flag, State.get_put_ne (by decide), ← State.flag]
    exact State.flag_put_same (b := false) (State.rising_wr hr) (by decide) rfl

/-- The new epoch applies, and DEV shows it. -/
def State.frontApplied (s : State) (f : Front) : State :=
  let t : State := { s with
    front := none
    epochs := s.epochs ++ [⟨f.num, f.regs, f.graph,
      if f.sky then some ((s.sky.prep.map (·.1)).getD 0, f.time, if f.late = 5 then f.passed else 0) else none⟩]
    patchesOf := s.patchesOf ++ f.patches.map fun x => (f.num, x) }
  ((t.wr R.DEV_EPOCH_IN [] f.num).put Fl.DEV_COMMIT_go [] 0).put Fl.DEV_COMMIT_STAT_pending [] 0

theorem State.frontApplied_issued (hr : Machine.rising s.regs = true) : (s.frontApplied f).Issued (f.num % 2 ^ 32) := by
  unfold State.frontApplied
  exact State.issued_of_none rfl hr

/-- A front that comes late is counted and reported (R130). -/
def State.latenessNoted (s : State) (f : Front) (fid : Nat) : State :=
  if f.late ≠ 0 then
    let t := if f.late = 3 ∨ f.late = 4 then s.put Fl.DEV_COMMIT_STAT_commit_late [] 1 else s
    let t := t.inc Fl.DEV_COMMIT_STAT_late_count
    t.raise ⟨0x0012, srcDEV, 0, f.num, fid, t.dt, min f.passed 0xFFFF + 2 ^ 16 * f.late + 2 ^ 24 * f.refPipe, 0⟩
  else s

/-- What follows at the epoch instant leaves commits and frames alone. -/
theorem State.issueFront_still : ((s.frontApplied f).latenessNoted f fid).FramesStill (s.issueFront f fid) := by
  unfold State.issueFront
  extract_lets a b c d counted noted sky gens disp shown due taken
  have hgens : noted.FlowStill gens :=
    (State.FlowStill.trans (.ite State.flowStill_skyIssued .refl) State.flowStill_genEpoch).trans State.flowStill_audEpoch
  clear_value gens
  have hshown : noted.FlowStill shown := .ite hgens.beside hgens.beside
  clear_value shown
  have hdue : noted.FramesStill due := hshown.toFramesStill.trans ⟨⟨id, .refl⟩, rfl⟩
  have htaken : noted.FramesStill taken := hdue.trans (.foldl fun t p => .ite State.takeDue_framesStill .refl)
  exact htaken.trans State.flowStill_settle.toFramesStill

theorem State.latenessNoted_issued (h : s.Issued n) : (s.latenessNoted f fid).Issued n := by
  unfold State.latenessNoted
  split
  · extract_lets t u
    have ht : t.Issued n := by
      dsimp only [t]
      split
      · exact h.stat (by decide)
      · exact h
    have hu : u.Issued n := ht.inc (by decide)
    exact hu.still (State.FlowStill.refl.beside).toCommitStill
  · exact h

theorem State.latenessNoted_frames : (s.latenessNoted f fid).frames = s.frames := by
  unfold State.latenessNoted
  split
  · split <;> rfl
  · rfl

theorem State.issueFront_issued (hr : Machine.rising s.regs = true) (hn : f.num = n) : (s.issueFront f fid).Issued (n % 2 ^ 32) :=
  hn ▸ (State.latenessNoted_issued (State.frontApplied_issued hr)).still State.issueFront_still.toCommitStill

theorem State.issueFront_frames : (s.issueFront f fid).frames = s.frames :=
  State.issueFront_still.frames.trans State.latenessNoted_frames

/-! A commit whose ref_pipe is idle (R131, R132). -/

theorem State.idleIssue_frames : s.idleIssue.frames = s.frames := by
  unfold State.idleIssue
  split
  · rfl
  · split
    · split
      · exact State.issueFront_frames
      · rfl
    · rfl

theorem State.idleIssue_issued (hf : s.front = some f) (hidle : s.pipeIdle f.refPipe = true) (hr : Machine.rising s.regs = true)
    (hfs : f.arrival + tFs ≤ s.time.clk) (htime : f.cond = 2 → f.time ≤ s.dt) (hsky : f.sky = true → f.go = true)
    (hroom : s.epochRoom = true) : s.idleIssue.Issued (f.num % 2 ^ 32) := by
  have hguard : (s.pipeIdle f.refPipe && decide (f.arrival + tFs ≤ s.time.clk) && (decide (f.cond ≠ 2) || decide (f.time ≤ s.dt)) &&
      (decide ¬f.sky = true || f.go)) = true := by
    have hinstant : f.cond ≠ 2 ∨ f.time ≤ s.dt := (Decidable.em (f.cond = 2)).symm.imp_right htime
    have hgo : ¬f.sky = true ∨ f.go = true := (Decidable.em (f.sky = true)).symm.imp_right hsky
    simp only [hidle, hfs, decide_true, Bool.true_and, Bool.and_eq_true, Bool.or_eq_true, decide_eq_true_iff]
    exact ⟨hinstant, hgo⟩
  unfold State.idleIssue
  simp only [hf]
  rw [if_pos hguard, if_pos hroom]
  split
  · exact State.issueFront_issued hr rfl
  · exact State.issueFront_issued hr rfl

end

end Sys2Proof.Machine
namespace Sys2Proof.Machine

/-! ### A frame opens (R125, R168, R172) -/

section

variable {s t : State} {f : Frame} {p k n e fid slot time counter w h fuel : Nat} {r : Replay} {o : Option Nat}

/-! The generators that check its stream (R189). -/

theorem State.flowStill_sgMissed {g last : Nat} : s.FlowStill (s.sgMissed g n last) := by
  unfold State.sgMissed
  have hinc : s.FlowStill (s.inc Fl.SFE_SG_CNT_missed [g] n) := .inc .refl
  exact .ite .refl hinc.beside

theorem State.flowStill_sgMatch {g : Nat} : s.FlowStill (s.sgMatch g time).1 := by
  unfold State.sgMatch
  extract_lets lat tol kept old rest u
  have hu : s.FlowStill u := State.FlowStill.trans State.FlowStill.refl.beside State.flowStill_sgMissed
  clear_value u rest
  split
  · split
    · exact hu.beside
    · exact hu.inc
  · exact hu.inc

theorem State.flowStill_sgBoundary : s.FlowStill (s.sgBoundary n time).1 := by
  unfold State.sgBoundary
  refine List.foldlRecOn (List.range 8) _ (motive := fun a : State × Option (Nat × Nat) × Bool => s.FlowStill a.1) .refl fun a ha g _ => ?_
  split
  · exact ha.trans State.flowStill_sgMatch
  · exact ha

/-! The frames that it displaces (R145, R194, R540, R541). -/

theorem State.flowStill_addLost {cause : Nat} : s.FlowStill (s.addLost k p fid cause time e) := State.FlowStill.refl.beside

theorem State.flowStill_recGap : s.FlowStill (s.recGap p fid time e) := by
  unfold State.recGap
  split
  · exact State.flowStill_addLost
  · exact .refl

theorem busyFld_past (c : Nat) : R.DEV_EPOCH_OUT.off ≤ (State.busyFld c).reg.off := by
  unfold State.busyFld
  split
  · decide
  · split <;> decide

theorem State.flowStill_showBusy {c : Nat} : s.FlowStill (s.showBusy c n) := State.FlowStill.refl.put (busyFld_past c)

theorem State.flowStill_markDropped : s.FlowStill (s.markDropped f) := by
  unfold State.markDropped
  extract_lets fsw u
  have hu : s.FlowStill u := by
    dsimp -zeta only [u]
    split
    · exact State.flowStill_hbmWrite
    · exact .refl
  exact .ite hu.wr hu

theorem State.commitStill_slotReuse : s.CommitStill (s.slotReuse p o) := by
  unfold State.slotReuse
  refine .foldl fun t f => ?_
  extract_lets u v
  have hu : t.CommitStill u := ⟨id, .refl⟩
  have hv : u.FlowStill v := State.FlowStill.refl.foldl fun _ _ => State.flowStill_showBusy
  exact hu.trans ((hv.trans State.flowStill_markDropped).trans State.flowStill_recGap).toCommitStill

theorem State.flowStill_unrepaired : s.FlowStill (s.unrepaired r) := by
  unfold State.unrepaired State.leaveUndefined
  extract_lets u
  have hu : s.FlowStill u := .inc State.FlowStill.refl.beside
  exact hu.beside

theorem State.flowStill_replayLate : s.FlowStill (s.replayLate p o) := by
  unfold State.replayLate
  exact State.FlowStill.refl.foldl fun _ _ => .ite State.flowStill_unrepaired .refl

/-! The triggers that wait for it (R234 to R239). -/

theorem State.flowStill_segShow : s.FlowStill (s.segShow p k n) := by
  unfold State.segShow State.capStat
  extract_lets g a b st mask
  have ha : s.FlowStill a := .put (.put .refl)
  have hb : s.FlowStill b := ha.wr64
  exact .put (.put (.put hb))

theorem State.flowStill_trigRefuse {again : Bool} : s.FlowStill (s.trigRefuse p k fid time o again) := by
  unfold State.trigRefuse
  have hput : s.FlowStill ((s.inc Fl.CAP_CNT_refused [p]).put Fl.CAP_STAT_trig_refused [p] 1) := .put (.inc .refl)
  exact hput.beside

theorem State.flowStill_segRelease : s.FlowStill (s.segRelease p k) := by
  unfold State.segRelease
  extract_lets a b c
  have ha : s.FlowStill a := State.FlowStill.refl.beside
  have hc : s.FlowStill c := .wr (.put ha)
  exact hc.wr.trans State.flowStill_segShow

theorem State.flowStill_relDue : s.FlowStill (s.relDue p) := by
  unfold State.relDue
  exact State.FlowStill.refl.foldl fun _ _ => .ite State.flowStill_segRelease .refl

theorem State.flowStill_segSeal : s.FlowStill (s.segSeal p k) := by
  unfold State.segSeal
  extract_lets a auto b g f
  have ha : s.FlowStill a := State.flowStill_segShow
  clear_value a
  have hb : s.FlowStill b := ha.beside
  clear_value b
  exact State.FlowStill.trans hb.beside State.flowStill_relDue

theorem State.flowStill_segFeed : s.FlowStill (s.segFeed p k) := by
  unfold State.segFeed
  refine .ite .refl ?_
  extract_lets g after
  refine .ite State.flowStill_segSeal ?_
  split
  · extract_lets a b
    have ha : s.FlowStill a := State.FlowStill.refl.beside
    have hb : s.FlowStill b := ha.beside
    exact .ite (hb.trans State.flowStill_segShow) .refl
  · exact .refl

theorem State.flowStill_segFeedAll : s.FlowStill (s.segFeedAll p k) := by
  unfold State.segFeedAll
  exact State.FlowStill.refl.foldl fun _ _ => State.flowStill_segFeed

theorem State.flowStill_trigMark : s.FlowStill (s.trigMark p o) := by
  unfold State.trigMark
  split
  · exact State.FlowStill.refl.beside
  · exact .refl

theorem State.flowStill_trigDecide {x : Nat × Nat × Nat × Bool} : s.FlowStill (s.trigDecide p time x) := by
  unfold State.trigDecide
  extract_lets fid u pre post unsealed older taken short taking
  have hu : s.FlowStill u := State.flowStill_trigMark
  refine .ite .refl (hu.trans ?_)
  have htaking : u.FlowStill taking := State.FlowStill.refl.beside
  clear_value u taking
  split
  case h_1 k _ =>
    extract_lets g after known inside ahead before a
    have ha : u.FlowStill a := State.FlowStill.refl.beside
    have hcount : u.FlowStill (a.inc Fl.CAP_CNT_accepted [p]) := ha.inc
    exact .ite (State.FlowStill.trans hcount.beside State.flowStill_segFeedAll) State.flowStill_trigRefuse
  case h_2 =>
    split
    · exact State.flowStill_trigRefuse
    · refine .ite ?_ State.flowStill_trigRefuse
      extract_lets a b c d
      have ha : u.FlowStill a := htaking.beside
      have hb : u.FlowStill b := ha.trans State.flowStill_segShow
      clear_value b
      have hcount : u.FlowStill (c.inc Fl.CAP_CNT_accepted [p]) := .inc (.put (.put hb))
      have hd : u.FlowStill d := hcount.beside
      exact hd.trans State.flowStill_segFeedAll

theorem State.flowStill_capOpen : s.FlowStill (s.capOpen p fid slot time) := by
  unfold State.capOpen
  extract_lets old a due b
  have ha : s.FlowStill a := State.FlowStill.refl.beside
  have hb : s.FlowStill b := ha.beside
  exact hb.foldl fun _ _ => State.flowStill_trigDecide

/-! It enters its pipeline. -/

theorem State.commitStill_patchGap : s.CommitStill (s.patchGap p fid) := by
  unfold State.patchGap
  extract_lets st
  split
  · exact .refl
  · exact ⟨id, .refl⟩

theorem State.flowStill_flagOpen {b : Nat} : s.FlowStill (s.flagOpen n b) := State.FlowStill.refl.beside

theorem State.commitStill_openEnter {embed : Option Bytes} : s.CommitStill (s.openEnter p n fid e w h embed o) := by
  unfold State.openEnter
  extract_lets a b drop c route d entered f
  have ha : s.CommitStill a := State.commitStill_slotReuse
  have hb : s.CommitStill b := ha.trans State.flowStill_replayLate.toCommitStill
  have hc : s.CommitStill c := by
    dsimp -zeta only [c]
    split
    · exact hb.trans State.flowStill_capOpen.toCommitStill
    · exact hb
  have hd : s.CommitStill d := by
    dsimp -zeta only [d]
    split
    · exact hc.trans ⟨id, .refl⟩
    · exact hc
  have hentered : s.CommitStill entered :=
    (hc.trans (t := c) (u := c.modPipe p fun x => { x with lastFid := some fid }) ⟨id, .refl⟩).trans State.commitStill_patchGap
  clear_value d entered
  split
  · exact hd.trans (State.flowStill_flagOpen.trans State.flowStill_recGap).toCommitStill
  · split
    · exact hentered
    · exact (hentered.trans (u := { entered with frames := entered.frames ++ [f] }) ⟨id, .refl⟩).trans State.flowStill_trace.toCommitStill

end

end Sys2Proof.Machine
namespace Sys2Proof.Machine

/-! ### A boundary of ref_pipe issues the front (R127 to R132) -/

section

variable {s t : State} {f : Front} {r : StreamRec} {bits_ : List Nat} {k p fid newFid n die counter : Nat} {free : Bool}

/-- A front that meets no obstacle at the boundary of frame `fid` is issued there. -/
structure State.Qualifies (s : State) (f : Front) (fid : Nat) : Prop where
  target : s.targetReached f fid = true
  inTime : f.arrival + tFs ≤ s.time.clk
  cycle : s.beginsCycle f.refPipe fid = true
  room : s.epochRoom = true
  go : f.sky = true → f.go = true

theorem State.targetReached_of_time (hcond : f.cond ≠ 1) (h : f.cond ≠ 0 → f.targetSeen = true ∨ f.time ≤ s.dt) :
    s.targetReached f fid = true := by
  unfold State.targetReached
  cases hseen : f.targetSeen with
  | true => rfl
  | false =>
    rw [Bool.false_or]
    split
    case h_1 => rfl
    case h_2 hone => exact absurd hone hcond
    case h_3 hzero _ => exact decide_eq_true ((h hzero).resolve_left (by simp [hseen]))

theorem State.frontAt_issued (h : s.Qualifies f fid) (hr : rising s.regs = true) : (s.frontAt f fid newFid).Issued (f.num % 2 ^ 32) := by
  obtain ⟨htarget, htime, hcycle, hroom, hgo⟩ := h
  unfold State.frontAt
  rw [if_neg (by simp [htarget])]
  extract_lets late early cycle reason f' stat
  have hkept : late.arrival = f.arrival ∧ late.refPipe = f.refPipe ∧ late.sky = f.sky ∧ late.go = f.go ∧ late.num = f.num := by
    dsimp only [late]
    split <;> exact ⟨rfl, rfl, rfl, rfl, rfl⟩
  obtain ⟨harrival, hpipe, hsky, hlate, hnum⟩ := hkept
  have hearly : ¬early := by
    dsimp only [early]
    rw [harrival]
    exact Nat.not_lt.mpr htime
  have hobstacle : ¬((decide early || decide ¬cycle = true || decide ¬s.epochRoom = true || (late.sky && decide ¬late.go = true)) = true) := by
    simpa [hearly, cycle, hpipe, hcycle, hroom, hsky, hlate] using hgo
  rw [if_neg hobstacle]
  exact State.issueFront_issued hr hnum

/-- A boundary before T_FS has passed is not taken, and makes the commit late. -/
theorem State.frontAt_early (htarget : s.targetReached f fid = true) (hearly : s.time.clk < f.arrival + tFs) :
    ∃ g : Front, s.frontAt f fid newFid = ({ s with front := some g }).put Fl.DEV_COMMIT_STAT_commit_late [] 1 ∧
      g.passed = f.passed + 1 ∧ g.targetSeen = true ∧ g.late ≠ 0 := by
  unfold State.frontAt
  rw [if_neg (by simp [htarget])]
  extract_lets late early cycle reason g held
  have hkept : late.arrival = f.arrival ∧ late.passed = f.passed := by
    dsimp only [late]
    split <;> exact ⟨rfl, rfl⟩
  obtain ⟨harrival, hpassed⟩ := hkept
  have hearly' : early := by
    dsimp only [early]
    rwa [harrival]
  have hreason : reason = 1 := if_pos hearly'
  have hlate : g.late ≠ 0 := by
    dsimp only [g]
    rw [hreason]
    split
    · exact Nat.one_ne_zero
    · assumption
  refine ⟨g, ?_, congrArg (· + 1) hpassed, rfl, hlate⟩
  rw [if_pos (by simp [hearly']), if_pos (by simp [hreason])]

/-- Noting a boundary changes nothing that a cycle hangs on. -/
theorem State.beginsCycle_modPipe {g : PipeSt → PipeSt} (hg : ∀ x, (g x).epoch = x.epoch ∧ (g x).lastFid = x.lastFid) :
    (s.modPipe p g).beginsCycle p fid = s.beginsCycle p fid := by
  have hpipe : ((s.modPipe p g).pipeSt p).epoch = (s.pipeSt p).epoch ∧ ((s.modPipe p g).pipeSt p).lastFid = (s.pipeSt p).lastFid := by
    rw [State.pipeSt, State.pipeSt, State.modPipe_pipes]
    rcases Nat.lt_or_ge p s.pipes.length with hp | hp
    · rw [getD_modNth_same hp]
      exact hg _
    · rw [modNth, List.modify_eq_self hp]
      exact ⟨rfl, rfl⟩
  unfold State.beginsCycle
  rw [hpipe.1, hpipe.2]
  rfl

theorem State.boundaryAs_issued (hf : s.front = some f) (h : s.Qualifies f fid) (hr : rising s.regs = true) :
    (s.boundaryAs f.refPipe fid newFid).Issued (f.num % 2 ^ 32) := by
  unfold State.boundaryAs
  extract_lets a b
  have hcycle : a.beginsCycle f.refPipe fid = s.beginsCycle f.refPipe fid := by
    dsimp only [a]
    exact State.beginsCycle_modPipe fun _ => ⟨rfl, rfl⟩
  have ha : a.Qualifies f fid := ⟨h.target, h.inTime, hcycle.trans h.cycle, h.room, h.go⟩
  have hb : b = a.frontAt f fid newFid := by
    have haf : a.front = some f := hf
    dsimp only [b]
    simp only [haf, if_true]
  rw [hb]
  have hissued : (a.frontAt f fid newFid).Issued (f.num % 2 ^ 32) := State.frontAt_issued ha hr
  split
  · exact hissued.still (State.takeDue_framesStill.trans State.flowStill_settle.toFramesStill).toCommitStill
  · exact hissued

theorem State.openNumber_issued (hf : s.front = some f) (h : ∀ fid, s.Qualifies f fid) (hr : rising s.regs = true) :
    (s.openNumber k (some f.refPipe) counter free).1.Issued (f.num % 2 ^ 32) := by
  unfold State.openNumber
  extract_lets st d good counted gap
  dsimp -zeta only
  extract_lets fid0 tried reload fid t
  have ht : t.Issued (f.num % 2 ^ 32) := by
    dsimp -zeta only [t]
    split
    · exact State.boundaryAs_issued hf (h fid0) hr
    · exact State.boundaryAs_issued hf (h fid0) hr
  clear_value t
  exact ht.still (t := t.modPipe f.refPipe _) ⟨id, .refl⟩

theorem State.openFrame_still (hr : s.graph.stream? k = some r) :
    (s.openNumber k (s.graph.pipeOf k) counter free).1.CommitStill (s.openFrame k counter free bits_) := by
  unfold State.openFrame
  rw [hr]
  dsimp -zeta only
  extract_lets pipe o a fid epoch w h m b bits' slot embed c
  have hb : a.FlowStill b := State.flowStill_sgBoundary
  clear_value b
  have hc : a.FlowStill c := hb.beside
  change a.CommitStill _
  clear_value a c pipe
  split
  · exact hc.toCommitStill
  · exact hc.toCommitStill.trans State.commitStill_openEnter

theorem State.openFrame_issued (hf : s.front = some f) (h : ∀ fid, s.Qualifies f fid) (hr : rising s.regs = true)
    (hstream : s.graph.stream? k = some r) (hpipe : s.graph.pipeOf k = some f.refPipe) :
    (s.openFrame k counter free bits_).Issued (f.num % 2 ^ 32) := by
  have hstill : (s.openNumber k (s.graph.pipeOf k) counter free).1.CommitStill (s.openFrame k counter free bits_) :=
    State.openFrame_still hstream
  rw [hpipe] at hstill
  exact (State.openNumber_issued hf h hr).still hstill

/-- A packet that begins a frame on a stream without an open one opens it. -/
theorem State.acceptPacket_opens (hopen : (s.streamSt k).opened = none) (hlast : (s.streamSt k).lastClosed ≠ some counter)
    (hexcl : (die, counter) ∉ (s.streamSt k).excl) :
    (s.openFrame k counter false []).FlowStill (s.acceptPacket k die counter true false).1 := by
  unfold State.acceptPacket
  extract_lets st begin_
  have hnew : ¬((decide (st.lastClosed = some counter) && !false) = true) := by simp [st, hlast]
  rw [if_neg (by simp [st, hexcl]), hopen]
  dsimp only
  rw [if_neg hnew]
  exact State.FlowStill.refl.beside

/-! The instant that a commit waits for (R123, log 35). -/

/-- T_FS after the write, and not before its time where the commit has one. -/
def State.atInstant (s : State) (f : Front) : State :=
  if f.cond = 2 then (s.reachClk (f.arrival + tFs)).reachDt f.time else s.reachClk (f.arrival + tFs)

theorem State.elapsed_atInstant : s.Elapsed (s.atInstant f) := by
  unfold State.atInstant
  split
  · exact State.elapsed_reachClk.trans State.elapsed_reachDt
  · exact State.elapsed_reachClk

theorem State.le_clk_atInstant : f.arrival + tFs ≤ (s.atInstant f).time.clk := by
  unfold State.atInstant
  split
  · exact Nat.le_trans State.le_clk_reachClk State.clk_le_reach
  · exact State.le_clk_reachClk

theorem State.Elapsed.front (h : s.Elapsed t) : t.front = s.front := by rw [h.frame]
theorem State.Elapsed.graph (h : s.Elapsed t) : t.graph = s.graph := by rw [h.frame]
theorem State.Elapsed.streams (h : s.Elapsed t) : t.streams = s.streams := by rw [h.frame]

theorem State.Elapsed.streamSt (h : s.Elapsed t) : t.streamSt n = s.streamSt n := by rw [State.streamSt, State.streamSt, h.streams]

theorem State.Elapsed.pipeIdle (h : s.Elapsed t) : t.pipeIdle p = s.pipeIdle p := by
  rw [State.pipeIdle, State.pipeIdle, State.pipeSt, State.pipeSt, h.graph, h.flowStill.pipes]

theorem State.idleInstant_eq (hf : s.front = some f) (hidle : s.pipeIdle f.refPipe = true) : s.idleInstant = (s.atInstant f).idleIssue := by
  unfold State.idleInstant
  simp only [hf]
  rw [if_pos hidle]
  rfl

theorem State.frontBoundary_eq (hf : s.front = some f) (hr : s.graph.streamOf f.refPipe = some r) (hm : r.mosaic = 0)
    (htakes : (s.atInstant f).sfeTakes = true) :
    s.frontBoundary counter = ((s.atInstant f).acceptPacket r.id r.stream counter true false).1 := by
  unfold State.frontBoundary
  simp only [hf, hr]
  rw [State.atInstant] at htakes
  rw [if_neg (by simp [htakes]), if_pos hm, State.atInstant]

end

/-- Settles O22: at a boundary or idle instant that meets no obstacle the front is issued; one that T_FS rules out makes the commit late. -/
theorem frontIsIssued : Obligations.FrontIsIssued := by
  refine ⟨?_, ?_, ?_⟩
  · intro f s hf hidle hr hgo u w hroom htime
    have hw : s.Elapsed w := State.elapsed_atInstant
    have hissued : w.idleIssue.Issued (f.num % 2 ^ 32) :=
      State.idleIssue_issued (hw.front.trans hf) (hw.pipeIdle.trans hidle) (hw.regs.rising hr) State.le_clk_atInstant htime hgo hroom
    refine ⟨w.idleIssue, ?_, hissued.front, hissued.epoch, hissued.go, hissued.pending⟩
    rw [exec_idleCommitIssue, execIdleCommitIssue, State.idleInstant_eq hf hidle]
    rfl
  · intro counter f r s hf hstream hrec hpipe hm hr hopen hlast hexcl hgo hcond u w htakes hroom htarget hcycle
    have hw : s.Elapsed w := State.elapsed_atInstant
    have hqual : ∀ fid, w.Qualifies f fid := by
      exact fun fid => ⟨State.targetReached_of_time hcond htarget, State.le_clk_atInstant, hcycle fid, hroom, hgo⟩
    have hissued : (w.openFrame r.id counter false []).Issued (f.num % 2 ^ 32) :=
      State.openFrame_issued (hw.front.trans hf) hqual (hw.regs.rising hr) (hw.graph ▸ hrec) (hw.graph ▸ hpipe)
    have hopens : (w.openFrame r.id counter false []).FlowStill (w.acceptPacket r.id r.stream counter true false).1 :=
      State.acceptPacket_opens (hw.streamSt ▸ hopen) (hw.streamSt ▸ hlast) (hw.streamSt ▸ hexcl)
    refine ⟨_, ?_, (hissued.still hopens.toCommitStill).front, (hissued.still hopens.toCommitStill).epoch⟩
    rw [exec_frontIssue, execFrontIssue, State.frontBoundary_eq hf hstream hm htakes]
    rfl
  · intro f fid newFid s htarget hearly hr
    obtain ⟨g, heq, hpassed, hseen, hlate⟩ := State.frontAt_early (newFid := newFid) htarget hearly
    rw [heq]
    exact ⟨g, rfl, hpassed, hseen, hlate, State.flag_put_same (b := true) hr (by decide) rfl⟩

end Sys2Proof.Machine
namespace Sys2Proof.Machine

/-! ### Frames move through the units (R134, R139), and pipelines through epochs (R126, R133, R144) -/

section

variable {s : State} {f : Frame} {u : FlowUnit} {p fid : Nat}

theorem State.heldIssue_frames : s.heldIssue.frames = s.frames := by
  unfold State.heldIssue
  split
  · exact State.idleIssue_frames
  · rfl

theorem State.heldIssue_of_none (hf : s.front = none) : s.heldIssue = s := by
  rw [State.heldIssue, hf]
  rfl

/-- A frame that does not come of the change is not the one in the unit. -/
theorem State.mem_modFrame {x : Frame} {h : Frame → Frame} (hx : x ∈ (s.modFrame u p fid h).frames) :
    x ∈ s.frames ∧ ¬(x.pipe = p ∧ x.fid = fid ∧ u ∈ x.units) ∨ ∃ y, x = h y := by
  obtain ⟨y, hy, rfl⟩ := List.mem_map.mp hx
  split
  case isTrue => exact .inr ⟨y, rfl⟩
  case isFalse miss =>
    simp only [Bool.and_eq_true, decide_eq_true_eq, List.contains_iff_mem, and_assoc] at miss
    exact .inl ⟨hy, miss⟩

/-- Of the frames that stand once a frame has left a unit, each stood before, the leaving one with its units less this one. -/
theorem State.frameLeaves_frames (hin : s.frameIn u p fid = some f) (hdone : s.unitDone f u = true) : ∃ v : State,
    (s.frameLeaves u p fid).frames =
      (v.modFrame u p fid fun x => { x with units := x.units.filter fun w => w ≠ u }).frames.filter fun x => !x.units.isEmpty := by
  unfold State.frameLeaves
  rw [hin]
  dsimp -zeta only
  rw [if_neg (by simp [hdone])]
  extract_lets sts published again last left moved gone
  refine ⟨left, ?_⟩
  rw [State.heldIssue_frames, State.flowStill_settle.frames]

/-- A frame that leaves a unit is no longer in it. -/
theorem State.frameLeaves_left (hin : s.frameIn u p fid = some f) (hdone : s.unitDone f u = true) :
    ∀ g ∈ (s.frameLeaves u p fid).frames, g.pipe = p → g.fid = fid → u ∉ g.units := by
  intro g hg hp hfid
  obtain ⟨v, hv⟩ := State.frameLeaves_frames hin hdone
  rw [hv] at hg
  rcases State.mem_modFrame (List.mem_of_mem_filter hg) with ⟨-, hno⟩ | ⟨y, rfl⟩
  · exact fun hu => hno ⟨hp, hfid, hu⟩
  · simp

theorem State.enterUnit_frames {cls : Nat} (hin : s.frameIn u p fid = some f) (hnew : f.entered.contains u = false) :
    (s.enterUnit u p fid cls).frames = (s.modFrame u p fid fun x =>
      { x with entered := u :: x.entered, owes := x.owes ++ (s.workers f.epoch p cls).map fun n => (cls, n) }).frames := by
  unfold State.enterUnit
  rw [hin]
  dsimp -zeta only
  rw [if_neg (Bool.eq_false_iff.mp hnew)]
  extract_lets tiles entered
  have hshown : entered.FlowStill (tiles.foldl (fun t n => t.showBusy cls n) entered) :=
    State.FlowStill.refl.foldl fun _ _ => State.flowStill_showBusy
  exact (hshown.trans State.flowStill_trace).frames

/-- A frame that enters a unit has entered it. -/
theorem State.enterUnit_entered {cls : Nat} (hin : s.frameIn u p fid = some f) (hnew : f.entered.contains u = false) :
    ∀ g ∈ (s.enterUnit u p fid cls).frames, g.pipe = p → g.fid = fid → u ∈ g.units → u ∈ g.entered := by
  intro g hg hp hfid hu
  rw [State.enterUnit_frames hin hnew] at hg
  rcases State.mem_modFrame hg with ⟨-, hno⟩ | ⟨y, rfl⟩
  · exact absurd ⟨hp, hfid, hu⟩ hno
  · exact List.mem_cons_self

theorem State.unitSwitch_entered (hin : s.frameIn u p fid = some f) (hold : f.entered.contains u = true) : s.unitSwitch u p fid = s := by
  unfold State.unitSwitch
  simp only [hin]
  exact if_pos hold

theorem State.unitSwitch_outf (hin : s.frameIn .outf p fid = some f) (hnew : f.entered.contains .outf = false)
    (hdvt : f.entered.contains .dvt = true) (hon : s.powered .outf = true) : s.unitSwitch .outf p fid = s.enterUnit .outf p fid 0 := by
  unfold State.unitSwitch
  simp only [hin]
  rw [if_neg (Bool.eq_false_iff.mp hnew), if_pos (by simp only [hdvt, hon, Bool.and_self])]

/-! Pipelines. -/

theorem State.pipeSt_modPipe {h : PipeSt → PipeSt} (hp : p < s.pipes.length) : (s.modPipe p h).pipeSt p = h (s.pipeSt p) := by
  rw [State.pipeSt, State.modPipe_pipes, getD_modNth_same hp, State.pipeSt]

theorem State.FlowStill.pipeSt {t : State} (h : s.FlowStill t) : t.pipeSt p = s.pipeSt p := by rw [State.pipeSt, State.pipeSt, h.pipes]

/-- At the end of a drain the frames that wait for no later patch enter the new structure (R144). -/
theorem State.drainEnd_parts (hp : p < s.pipes.length) (hdrain : (s.pipeSt p).draining = true) (hempty : s.drained p = true) :
    ((s.drainEnd p).pipeSt p).draining = !(s.laterDrains p).isEmpty ∧ ((s.drainEnd p).pipeSt p).drainOf = s.laterDrains p ∧
      (s.laterDrains p = [] → ∀ f ∈ (s.drainEnd p).frames, f.pipe = p → f.waiting = false) ∧
      (s.front = none → (s.drainEnd p).front = none) := by
  unfold State.drainEnd
  rw [if_pos (by simp [hdrain, hempty])]
  extract_lets later due a b
  have ha : s.FlowStill a := State.FlowStill.refl.foldl fun _ _ => State.flowStill_patchRun
  have hlen : p < b.pipes.length := by
    have hb : b.pipes = s.pipes := ha.pipes
    rwa [hb]
  clear_value a
  rw [State.flowStill_settle.pipeSt, State.pipeSt_modPipe hlen, State.flowStill_settle.frames]
  refine ⟨rfl, rfl, fun hnone f hf hpipe => ?_, fun hfront => State.flowStill_settle.front (ha.front hfront)⟩
  obtain ⟨y, -, rfl⟩ := List.mem_map.mp hf
  have hlater : later = [] := hnone
  by_cases hy : y.pipe = p
  · simp [hy, hlater]
  · rw [if_neg hy] at hpipe
    exact absurd hpipe hy

/-- A pipeline that becomes idle takes every front due to it; with no commit pending, nothing else follows. -/
theorem State.pipelineIdle_parts (hp : p < s.pipes.length) (hbusy : (s.pipeSt p).idle = false) (hf : s.front = none) :
    ((s.pipelineIdle p).pipeSt p).idle = true ∧ ((s.pipelineIdle p).pipeSt p).due = [] ∧
      ∀ e, (s.pipeSt p).due.getLast? = some e → ((s.pipelineIdle p).pipeSt p).epoch = e := by
  unfold State.pipelineIdle
  rw [if_neg (Bool.eq_false_iff.mp hbusy)]
  extract_lets a b c
  have ha : s.FlowStill a := by
    dsimp -zeta only [a]
    split
    · exact State.elapsed_reachDt.flowStill
    · exact .refl
  have hlen : p < a.pipes.length := ha.pipes ▸ hp
  have hfront : c.front = none := (State.takeDue_framesStill.trans State.flowStill_settle.toFramesStill).front (ha.front hf)
  have hpipe : (s.pipeSt p) = a.pipeSt p := ha.pipeSt.symm
  clear_value a
  have hb : b.pipeSt p = { a.pipeSt p with idle := true } := State.pipeSt_modPipe hlen
  have hc : c.pipeSt p = (b.takeDue p noFrame).pipeSt p := State.flowStill_settle.pipeSt
  have hblen : p < b.pipes.length := by rwa [State.modPipe_pipes, modNth, List.length_modify]
  obtain ⟨hidle, hdue, hepoch⟩ := State.takeDue_pipe (fid := noFrame) hblen
  rw [hfront, if_neg (by simp), hc, hpipe]
  refine ⟨hidle.trans (by rw [hb]), hdue, fun e he => hepoch e ?_⟩
  rw [hb]
  exact he

end

/-- Settles O23: a frame changes in its unit alone, a drain ends for what waits for no later patch, and an idle pipeline takes all that is due. -/
theorem framesAndPipelinesMove : Obligations.FramesAndPipelinesMove := by
  refine ⟨?_, ?_, ?_, ?_, ?_⟩
  · intro u p fid f s hin hdone
    exact ⟨_, rfl, State.frameLeaves_left hin hdone⟩
  · intro p fid f s hin hnew hdvt hon
    refine ⟨s.enterUnit .outf p fid 0, ?_, State.enterUnit_entered hin hnew⟩
    rw [exec_unitEpochSwitch, execUnitEpochSwitch, State.unitSwitch_outf hin hnew hdvt hon]
  · intro u p fid f s hin hold
    rw [exec_unitEpochSwitch, execUnitEpochSwitch, State.unitSwitch_entered hin hold]
  · intro p s hp hdrain hempty hf
    obtain ⟨hdraining, hof, hframes, hfront⟩ := State.drainEnd_parts hp hdrain hempty
    refine ⟨s.drainEnd p, ?_, hdraining, hof, hframes⟩
    rw [exec_patchDrainEnd, execPatchDrainEnd, State.heldIssue_of_none (hfront hf)]
  · intro p s hp8 hp hbusy hf
    refine ⟨s.pipelineIdle p, ?_, State.pipelineIdle_parts hp hbusy hf⟩
    rw [exec_pipelineIdle, execPipelineIdle, if_pos hp8]

end Sys2Proof.Machine
/-! The statements of spec/05_sensor_ingest.md: rate-limited records, Sensor Link lanes, groups and packets, CSI-2 packets, and the generators
and lines. -/

namespace Sys2Proof.Machine

/-! ### Rate-limited records (R190, R598) -/

section

variable {s : State} {typ inst level : Nat} {r : Rec} {l : List Nat}

/-- The occurrences that the next rate-limited record reports, oldest first. -/
def State.occurrences (s : State) (typ inst : Nat) : List Rec := s.limited.filter fun x => x.typ = typ && x.inst = inst

/-- The instant at which that record may come: a millisecond after the one before it. -/
def State.limitedInstant (s : State) (typ inst : Nat) : State :=
  match s.limitedAt.find? fun x => x.1 = typ && x.2.1 = inst with
  | some x => s.reachClk (x.2.2 + 1000000)
  | none => s

/-- What that record says of all its occurrences. -/
def State.limitedPayload (s : State) (typ inst : Nat) : Nat :=
  mergePayload (limitForm typ) ((s.limitedInstant typ inst).get Fl.LSP_U_STAT_rx_level [inst])
    ((s.occurrences typ inst).map fun x => x.payload)

theorem State.mem_occurrences {x : Rec} : x ∈ s.occurrences typ inst ↔ x ∈ s.limited ∧ x.typ = typ ∧ x.inst = inst := by
  simp [State.occurrences]

theorem State.elapsed_limitedInstant : s.Elapsed (s.limitedInstant typ inst) := by
  unfold State.limitedInstant
  split
  · exact State.elapsed_reachClk
  · exact .refl

theorem State.le_clk_limitedInstant {x : Nat × Nat × Nat} (h : (s.limitedAt.find? fun x => x.1 = typ && x.2.1 = inst) = some x) :
    x.2.2 + 1000000 ≤ (s.limitedInstant typ inst).time.clk := by
  rw [State.limitedInstant, h]
  exact State.le_clk_reachClk

theorem State.limitedInstant_first (h : (s.limitedAt.find? fun x => x.1 = typ && x.2.1 = inst) = none) :
    s.limitedInstant typ inst = s := by
  rw [State.limitedInstant, h]

/-- The record that is due, and what is noted of it. -/
theorem State.limitedDue_eq (h : (s.occurrences typ inst).getLast? = some r) : s.limitedDue typ inst =
    ({ s.limitedInstant typ inst with
      limited := (s.limitedInstant typ inst).limited.filter fun x => !(x.typ = typ && x.inst = inst)
      limitedAt := (typ, inst, (s.limitedInstant typ inst).time.clk) ::
        (s.limitedInstant typ inst).limitedAt.filter fun x => !(x.1 = typ && x.2.1 = inst) } : State).raise
      { r with payload := s.limitedPayload typ inst } := by
  unfold State.limitedDue
  extract_lets mine
  have hmine : mine.getLast? = some r := h
  simp only [hmine]
  rfl

/-- Where occurrences are counted in [63:32], they add up. -/
theorem mergePayload_countHi : mergePayload (.countHi 0) level l / 2 ^ 32 = sumOf (fun x => x / 2 ^ 32) l % 2 ^ 32 := by
  have hseen : l.foldl (fun a p => a ||| (p &&& 0)) 0 = 0 := List.foldlRecOn l _ (motive := (· = 0)) rfl fun a ha p _ => by simp [ha]
  have hlow : l.getLast?.getD 0 % 2 ^ 32 < 2 ^ 32 := Nat.mod_lt _ (by decide)
  simp only [mergePayload, hseen, Nat.or_zero]
  omega

end

/-- Settles O15: the record that is due comes once its millisecond is over, merges the payloads of its occurrences and takes them off the
list. -/
theorem limitedRecordReportsAll : Obligations.LimitedRecordReportsAll := by
  intro typ inst r s hlast
  have hwait : s.Elapsed (s.limitedInstant typ inst) := State.elapsed_limitedInstant
  have hlimited : (s.limitedInstant typ inst).limited = s.limited := by rw [hwait.frame]
  obtain ⟨-, htyp, hinst⟩ := State.mem_occurrences.mp (List.mem_of_getLast? hlast)
  rw [exec_rateLimitedRecord, execRateLimitedRecord, State.limitedDue_eq hlast]
  refine ⟨_, s.limitedPayload typ inst, rfl, ?_, htyp, hinst, fun hform => ?_, fun x hx => ?_, fun x hx hne => ?_,
    fun x hx => State.le_clk_limitedInstant hx, fun hx => ?_, fun r ix hh hn => ?_, ?_⟩
  · rw [State.raise_raised, hwait.frame]
  · rw [State.limitedPayload, hform]
    exact mergePayload_countHi
  · simpa [imp_iff_not_or] using (List.mem_filter.mp hx).2
  · exact List.mem_filter.mpr ⟨hlimited ▸ hx, by simpa [imp_iff_not_or] using hne⟩
  · rw [State.raise_time, State.limitedInstant_first hx]
  · exact State.rd_of_changedIn hwait.regs (by rintro (h | h) <;> contradiction)
  · rw [hwait.frame]
    rfl

end Sys2Proof.Machine
namespace Sys2Proof.Machine

/-! ### A lane comes up (R152 to R158) -/

@[simp] theorem key_SFE_L_STAT (l : Nat) : R.SFE_L_STAT.key [l] = 0x104000 + l * 0x40 := rfl

section

variable {s : State} {l m v sync payload : Nat} {f : Lane → Lane}

theorem State.lane_modLane (h : l < s.lanes.length) : (s.modLane l f).lane l = f (s.lane l) := getD_modNth_same h

theorem State.lane_modLane_ne (h : m ≠ l) : (s.modLane l f).lane m = s.lane m := getD_modNth_ne h

@[simp] theorem State.lane_setLane : (s.setLane l v).lane m = s.lane m := rfl

@[simp] theorem State.laneState_modLane : (s.modLane l f).laneState m = s.laneState m := rfl

theorem State.setLane_frame : s.setLane l v = { s with regs := (s.setLane l v).regs } := rfl

theorem State.rising_setLane (hr : rising s.regs = true) : rising (s.setLane l v).regs = true := State.rising_put hr

theorem State.laneState_setLane (hr : rising s.regs = true) (hv : v < 16) : (s.setLane l v).laneState l = v :=
  (State.get_put_same hr (by decide) (by decide)).trans (Nat.mod_eq_of_lt hv)

theorem State.laneState_setLane_ne (h : m ≠ l) : (s.setLane l v).laneState m = s.laneState m := by
  refine State.get_put_ne ?_
  show 0x104000 + l * 0x40 ≠ 0x104000 + m * 0x40
  omega

theorem State.laneState_blockLock (hr : rising s.regs = true) : (s.blockLock l).laneState l = 2 := by
  rw [State.blockLock, State.laneState_modLane, State.laneState_setLane hr (by decide)]

theorem State.lane_blockLock (h : l < s.lanes.length) :
    (s.blockLock l).lane l = { s.lane l with hist := [], logical := none, since := 0 } := State.lane_modLane h

theorem State.lane_blockLock_ne (h : m ≠ l) : (s.blockLock l).lane m = s.lane m := by
  rw [State.blockLock, State.lane_modLane_ne h, State.lane_setLane]

/-- The 64th valid block in a row locks the lane. -/
theorem State.lineBlock_locks (hl : l < s.lanes.length) (hstate : s.laneState l = 1) (hsync : sync = 1 ∨ sync = 2)
    (hvalids : (s.lane l).valids = 63) (hgood : blockError sync (descramble (s.lane l).scr payload).1 = false) :
    ∃ f, s.lineBlock l sync payload = (s.modLane l f).blockLock l := by
  have hvalid : (decide (sync = 1) || decide (sync = 2)) = true := by simpa using hsync
  unfold State.lineBlock
  extract_lets x valid d bad st missed heard u
  have hbad : bad = false := hgood
  have hst : st = 1 := hstate
  have hu : u = heard := by
    dsimp only [u]
    rw [hbad]
    rfl
  have hcount : (u.lane l).valids = 64 := by
    rw [hu]
    dsimp only [heard]
    rw [State.lane_modLane hl]
    dsimp only [valid]
    simp only [hvalid, if_true, hvalids]
    rfl
  rw [if_pos hst, if_pos (Nat.le_of_eq hcount.symm), hu]
  exact ⟨_, rfl⟩

/-- The first ALIGN block of a lane in BLOCK gives it its logical number. -/
theorem State.alignBlock_numbers (hl : l < s.lanes.length) (hstate : s.laneState l = 2) (halign : isAlign v = true)
    (hnone : (s.lane l).logical = none) : ∃ f, s.alignBlock l v = ((s.modLane l f).modLane l fun y =>
      { y with logical := some (v / 2 ^ 8 % 256), countCode := v / 2 ^ 16 % 256, since := 0, bip := 0, buf := [] }).put
        Fl.SFE_L_STAT_logical [l] (v / 2 ^ 8 % 256) := by
  unfold State.alignBlock
  extract_lets num heard u x known w counted raised shown numbered
  have hu : u = heard := by
    dsimp only [u]
    rw [if_neg (by simp [heard, hstate])]
  have hlane : x.logical = none := by
    dsimp only [x]
    rw [hu]
    dsimp only [heard]
    rw [State.lane_modLane hl]
    exact hnone
  have hst : u.laneState l = 2 := by rw [hu]; exact hstate
  have hw : w = u := by
    dsimp only [w, known]
    simp only [hlane, Option.isSome_none, Bool.false_and, Bool.false_eq_true, if_false]
  rw [if_neg (by omega), if_neg (by simp [halign]), if_neg (by simp [hlane]), if_neg (by rw [hw]; omega)]
  dsimp only [numbered]
  rw [hw, hu]
  exact ⟨_, rfl⟩

end

/-- Settles O24: only the lane's own state and registers change, as its count of valid blocks or its first ALIGN block asks. -/
theorem laneComesUp : Obligations.LaneComesUp := by
  refine ⟨?_, ?_, ?_⟩
  · intro l sync payload s hoff
    refine ⟨?_, ?_⟩
    · rw [exec_slkBlock, execSlkBlock, State.slkBlock, if_pos (by simp [hoff])]
    · rw [exec_alignBlock, execAlignBlock, if_neg (by simp [hoff])]
  · intro l sync payload s hl hshape hr hon hstate hsync hnot hvalids hgood
    have hlen : l < s.lanes.length := hshape.lanes ▸ hl
    have hline : s.slkBlock l sync payload = s.lineBlock l sync (payload % 2 ^ 64) := by
      have hmod : sync % 4 = sync := Nat.mod_eq_of_lt (by omega)
      rw [State.slkBlock, if_neg (by simp [hl, hon, hstate]), if_neg (by simpa using hnot), hmod]
    obtain ⟨f, hlock⟩ := State.lineBlock_locks hlen hstate hsync hvalids hgood
    refine ⟨(s.modLane l f).blockLock l, by rw [exec_slkBlock, execSlkBlock, hline, hlock], ?_, ?_, fun m hm => ?_, rfl⟩
    · exact State.laneState_blockLock (s := s.modLane l f) hr
    · rw [State.lane_blockLock (by simpa [modNth] using hlen)]
    · rw [State.lane_blockLock_ne hm, State.lane_modLane_ne hm]
  · intro l payload s hl hshape hr hon hstate halign hnone
    have hlen : l < s.lanes.length := hshape.lanes ▸ hl
    have hnum : payload % 2 ^ 64 / 2 ^ 8 % 256 = payload / 2 ^ 8 % 256 := by omega
    obtain ⟨f, hblock⟩ := State.alignBlock_numbers hlen hstate halign hnone
    have hlane : ((s.alignBlock l (payload % 2 ^ 64)).lane l).logical = some (payload / 2 ^ 8 % 256) ∧
        ((s.alignBlock l (payload % 2 ^ 64)).lane l).since = 0 := by
      rw [hblock, hnum]
      exact ⟨congrArg Lane.logical (State.lane_modLane (by simpa [modNth] using hlen)),
        congrArg Lane.since (State.lane_modLane (by simpa [modNth] using hlen))⟩
    refine ⟨s.alignBlock l (payload % 2 ^ 64), ?_, hlane.1, hlane.2, ?_, fun m hm => ?_, ?_⟩
    · rw [exec_alignBlock, execAlignBlock, if_pos (by simp [hl, hon, hstate])]
    · rw [hblock]
      exact (State.get_put_apart (d := Fl.SFE_L_STAT_logical) (d' := Fl.SFE_L_STAT_state) hr rfl (by decide) (by decide) (by decide)
        (by decide)).trans hstate
    · rw [hblock]
      exact (State.lane_modLane_ne hm).trans (State.lane_modLane_ne hm)
    · rw [hblock]
      rfl

end Sys2Proof.Machine
namespace Sys2Proof.Machine

/-! ### Ring capture changes the registers of its pipeline, CAP's own state and the records (R233 to R239) -/

/-- The CAP registers of pipeline `p`. -/
def CapKeys (p : Nat) : Nat → Prop := Keys (0x500000 + p * 0x1000) (0x500000 + p * 0x1000 + 0x1000)

/-- What ring capture of pipeline `p` may change; records are only added. -/
structure State.Captures (p : Nat) (s t : State) : Prop where
  frame : t = { s with caps := t.caps, regs := t.regs, raised := t.raised }
  regs : RegFile.ChangedIn (CapKeys p) s.regs t.regs
  raised : s.raised <+: t.raised

namespace State.Captures

variable {s t u : State} {p k v fid at_ slot : Nat} {d : Fld} {r : Reg} {ix : List Nat} {rec : Rec} {f : CapSt → CapSt} {o : Option Nat}

theorem refl : Captures p s s := ⟨rfl, .refl, List.prefix_rfl⟩

theorem trans (h₁ : Captures p s t) (h₂ : Captures p t u) : Captures p s u where
  frame := calc
    u = { t with caps := u.caps, regs := u.regs, raised := u.raised } := h₂.frame
    _ = { s with caps := u.caps, regs := u.regs, raised := u.raised } := by rw [h₁.frame]
  regs := h₁.regs.trans h₂.regs
  raised := h₁.raised.trans h₂.raised

theorem ite {c : Prop} [Decidable c] (ht : c → Captures p s t) (hu : ¬c → Captures p s u) : Captures p s (if c then t else u) := by
  split
  · exact ht ‹_›
  · exact hu ‹_›

theorem foldl {α : Type} {step : State → α → State} {l : List α} (hs : ∀ u, ∀ x ∈ l, Captures p u (step u x)) :
    Captures p s (l.foldl step s) :=
  List.foldlRecOn l step (motive := Captures p s) refl fun u hu x hx => hu.trans (hs u x hx)

theorem modCap (h : Captures p s t) : Captures p s (t.modCap k f) := h.trans ⟨rfl, .refl, List.prefix_rfl⟩

theorem wr (h : Captures p s t) (hk : CapKeys p (r.key ix)) : Captures p s (t.wr r ix v) :=
  h.trans ⟨rfl, RegFile.ChangedIn.refl.wr hk, List.prefix_rfl⟩

theorem put (h : Captures p s t) (hk : CapKeys p (d.reg.key ix)) : Captures p s (t.put d ix v) := h.wr hk

theorem inc (h : Captures p s t) (hk : CapKeys p (d.reg.key ix)) : Captures p s (t.inc d ix v) := h.wr hk

theorem raise (h : Captures p s t) : Captures p s (t.raise rec) := h.trans ⟨rfl, .refl, List.prefix_append ..⟩

end State.Captures

section

variable {s t : State} {p k v n fid at_ slot x : Nat} {d : Fld} {ix : List Nat} {o : Option Nat} {e : Nat × Nat × Nat × Bool}

/-- A register of the pipeline that stands `b` past its first. -/
theorem capKeys_pipe {r : Reg} {b : Nat} (hr : r.dims = [(8, 0x1000)]) (hoff : r.off = 0x500000 + b) (hb : b < 0x1000)
    (hp : r.perPipe = false) : CapKeys p (r.key [p]) := by
  simp only [CapKeys, keys_iff, Reg.key, hr, hoff, hp, instOffset, Bool.false_eq_true, if_false]
  omega

/-- A register of one of its segments. -/
theorem capKeys_seg {r : Reg} {b : Nat} (hk : k < 16) (hr : r.dims = [(8, 0x1000), (0x10, 0x10)]) (hoff : r.off = 0x500100 + b)
    (hb : b < 0x10) (hp : r.perPipe = false) : CapKeys p (r.key [p, k]) := by
  simp only [CapKeys, keys_iff, Reg.key, hr, hoff, hp, instOffset, Bool.false_eq_true, if_false]
  omega

theorem State.captures_segShow (hk : k < 16) : s.Captures p (s.segShow p k n) := by
  unfold State.segShow State.capStat State.wr64
  have hinfo : CapKeys p (R.CAP_SEG_INFO.key [p, k]) := capKeys_seg (b := 8) hk rfl rfl (by decide) rfl
  have hlo : CapKeys p (R.CAP_SEG_FIRST_LO.key [p, k]) := capKeys_seg (b := 0) hk rfl rfl (by decide) rfl
  have hhi : CapKeys p (R.CAP_SEG_FIRST_HI.key [p, k]) := capKeys_seg (b := 4) hk rfl rfl (by decide) rfl
  have hstat : CapKeys p (R.CAP_STAT.key [p]) := capKeys_pipe (b := 0x38) rfl rfl (by decide) rfl
  exact ((((((State.Captures.refl.put hinfo).put hinfo).wr hlo).wr hhi).put hstat).put hstat).put hstat

theorem State.captures_trigRefuse {again : Bool} : s.Captures p (s.trigRefuse p k fid at_ o again) := by
  have hcnt : CapKeys p (R.CAP_CNT.key [p]) := capKeys_pipe (b := 0x3c) rfl rfl (by decide) rfl
  have hstat : CapKeys p (R.CAP_STAT.key [p]) := capKeys_pipe (b := 0x38) rfl rfl (by decide) rfl
  exact ((State.Captures.refl.inc hcnt).put hstat).raise

theorem State.captures_segRelease (hk : k < 16) : s.Captures p (s.segRelease p k) := by
  have hrel : CapKeys p (R.CAP_SEGREL.key [p]) := capKeys_pipe (b := 0x34) rfl rfl (by decide) rfl
  have hpre : CapKeys p (R.CAP_SEG_PRE.key [p, k]) := capKeys_seg (b := 0xc) hk rfl rfl (by decide) rfl
  have hinfo : CapKeys p (R.CAP_SEG_INFO.key [p, k]) := capKeys_seg (b := 8) hk rfl rfl (by decide) rfl
  exact ((((State.Captures.refl.modCap).put hrel).wr hpre).wr hinfo).trans (State.captures_segShow hk)

theorem State.captures_relDue : s.Captures p (s.relDue p) := by
  unfold State.relDue
  exact .foldl fun t k hk => .ite (fun _ => State.captures_segRelease (List.mem_range.mp hk)) fun _ => .refl

theorem State.captures_segSeal (hk : k < 16) : s.Captures p (s.segSeal p k) := by
  unfold State.segSeal
  extract_lets a auto b g f
  have ha : s.Captures p a := State.captures_segShow hk
  exact (ha.modCap.raise).trans State.captures_relDue

theorem State.captures_segFeed (hk : k < 16) : s.Captures p (s.segFeed p k) := by
  unfold State.segFeed
  refine .ite (fun _ => .refl) fun _ => ?_
  extract_lets g after
  refine .ite (fun _ => State.captures_segSeal hk) fun _ => ?_
  split
  · exact .ite (fun _ => State.Captures.refl.modCap.modCap.trans (State.captures_segShow hk)) fun _ => .refl
  · exact .refl

theorem State.captures_segFeedAll (hk : k < 16) : s.Captures p (s.segFeedAll p k) := by
  unfold State.segFeedAll
  exact .foldl fun t _ _ => State.captures_segFeed hk

theorem State.openSeg_lt (h : s.openSeg p = some k) : k < 16 := List.mem_range.mp (List.mem_of_find?_eq_some h)

theorem State.freeSeg_lt (h : s.freeSeg p = some k) : k < 16 := List.mem_range.mp (List.mem_of_find?_eq_some h)

theorem State.captures_trigMark : s.Captures p (s.trigMark p o) := by
  unfold State.trigMark
  split
  · exact State.Captures.refl.modCap
  · exact .refl

theorem State.captures_trigDecide : s.Captures p (s.trigDecide p at_ e) := by
  unfold State.trigDecide
  extract_lets fid u pre post unsealed older taken short taking
  have hu : s.Captures p u := State.captures_trigMark
  refine .ite (fun _ => .refl) fun _ => hu.trans ?_
  have htaking : u.Captures p taking := State.Captures.refl.modCap
  have hcnt : CapKeys p (R.CAP_CNT.key [p]) := capKeys_pipe (b := 0x3c) rfl rfl (by decide) rfl
  clear_value u taking
  split
  case h_1 k hopen =>
    have hk : k < 16 := State.openSeg_lt hopen
    extract_lets g after known inside ahead before a
    have ha : u.Captures p a := State.Captures.refl.modCap
    exact .ite (fun _ => ((ha.inc hcnt).raise).trans (State.captures_segFeedAll hk)) fun _ => State.captures_trigRefuse
  case h_2 =>
    split
    case h_1 => exact State.captures_trigRefuse
    case h_2 k hfree =>
      have hk : k < 16 := State.freeSeg_lt hfree
      have hinfo : CapKeys p (R.CAP_SEG_INFO.key [p, k]) := capKeys_seg (b := 8) hk rfl rfl (by decide) rfl
      have hpre : CapKeys p (R.CAP_SEG_PRE.key [p, k]) := capKeys_seg (b := 0xc) hk rfl rfl (by decide) rfl
      refine .ite (fun _ => ?_) fun _ => State.captures_trigRefuse
      extract_lets a b c d
      have hb : u.Captures p b := htaking.modCap.trans (State.captures_segShow hk)
      have hd : u.Captures p d := (((hb.put hinfo).put hpre).inc hcnt).raise
      exact hd.trans (State.captures_segFeedAll hk)

theorem State.captures_trigger : s.Captures p (s.trigger p at_) := by
  unfold State.trigger
  refine .ite (fun _ => .refl) fun _ => ?_
  extract_lets when_ held first passed
  refine .ite (fun _ => .refl) fun _ => ?_
  split
  · exact .ite (fun _ => State.captures_trigMark.trans State.captures_trigRefuse) fun _ => State.captures_trigDecide
  · exact .ite (fun _ => State.captures_trigMark.trans State.captures_trigRefuse) fun _ => State.Captures.refl.modCap

theorem State.captures_capOpen : s.Captures p (s.capOpen p fid slot at_) := by
  unfold State.capOpen
  extract_lets old a due b
  have hb : s.Captures p b := State.Captures.refl.modCap.modCap.modCap
  exact hb.trans (.foldl fun _ _ _ => State.captures_trigDecide)

theorem State.captures_capClose : s.Captures p (s.capClose p fid) := by
  unfold State.capClose
  extract_lets a
  have ha : s.Captures p a := State.Captures.refl.modCap
  clear_value a
  split
  case h_1 k hopen =>
    exact (State.Captures.ite (u := a) (fun _ => ha.modCap) fun _ => ha).trans (State.captures_segFeedAll (State.openSeg_lt hopen))
  case h_2 => exact ha

end

end Sys2Proof.Machine
namespace Sys2Proof.Machine

/-! ### Bits of a frame's status word (R176) -/

section

variable {v i b : Nat}

theorem bit_eq_testBit : bit v i = v.testBit i := by
  rw [bit, Nat.testBit_eq_decide_div_mod_eq]

theorem bit_setBit : bit (setBit v i) b = (bit v b || decide (i = b)) := by
  simp only [bit_eq_testBit, setBit, Nat.testBit_or, Nat.testBit_two_pow]

theorem bit_setBit_of_bit (h : bit v b = true) : bit (setBit v i) b = true := by rw [bit_setBit, h, Bool.true_or]

theorem bit_mod_word (h : b < 32) : bit (v % 2 ^ 32) b = bit v b := by
  simp only [bit_eq_testBit, Nat.testBit_mod_two_pow, h, decide_true, Bool.true_and]

/-- A frame with any of bits [20:1] is flagged. -/
theorem fswFinal_of_bit (h : bit v b = true) (hlo : 1 ≤ b) (hhi : b ≤ 20) : fswFinal v = setBit v 0 := by
  refine if_pos fun h0 => ?_
  have hbit : (v / 2 ^ 1 % 2 ^ 20).testBit (b - 1) = true := by
    rw [Nat.testBit_mod_two_pow, Nat.testBit_div_two_pow, Nat.sub_add_cancel hlo, ← bit_eq_testBit, h]
    exact Bool.and_eq_true_iff.mpr ⟨decide_eq_true (by omega), rfl⟩
  rw [show v / 2 ^ 1 % 2 ^ 20 = 0 from h0, Nat.zero_testBit] at hbit
  exact absurd hbit (by decide)

end

/-! ### What a frame that runs changes (R165 to R180) -/

/-- The frame is still the same one, and no bit of its status word has gone. -/
structure OpenFrame.Goes (f g : OpenFrame) : Prop where
  counter : g.counter = f.counter
  free : g.free = f.free
  fsw : ∀ b, bit f.fsw b = true → bit g.fsw b = true

theorem OpenFrame.Goes.refl {f : OpenFrame} : f.Goes f := ⟨rfl, rfl, fun _ => id⟩

theorem OpenFrame.Goes.trans {f g h : OpenFrame} (h₁ : f.Goes g) (h₂ : g.Goes h) : f.Goes h :=
  ⟨h₂.counter.trans h₁.counter, h₂.free.trans h₁.free, fun b hb => h₂.fsw b (h₁.fsw b hb)⟩

theorem OpenFrame.goes_flag {f : OpenFrame} {b : Nat} : f.Goes { f with fsw := setBit f.fsw b } := ⟨rfl, rfl, fun _ => bit_setBit_of_bit⟩

section

variable {s : State} {n m : Nat} {f : StreamSt → StreamSt} {g : OpenFrame → OpenFrame}

theorem State.streamSt_modStream (h : n < s.streams.length) : (s.modStream n f).streamSt n = f (s.streamSt n) := getD_modNth_same h

theorem State.lt_of_opened {x : OpenFrame} (h : (s.streamSt n).opened = some x) : n < s.streams.length := by
  by_contra hn
  rw [State.streamSt, List.getD_eq_default _ _ (Nat.le_of_not_lt hn)] at h
  cases h

theorem State.opened_modOpen : ((s.modOpen n g).streamSt n).opened = (s.streamSt n).opened.map g := by
  rcases Nat.lt_or_ge n s.streams.length with hn | hn
  · rw [State.modOpen, State.streamSt_modStream hn]
  · rw [State.streamSt, State.modOpen, State.modStream_streams, modNth, List.modify_eq_self hn, State.streamSt, List.getD_eq_default _ _ hn]
    rfl

theorem State.opened_modOpen_some {x : OpenFrame} (h : (s.streamSt n).opened = some x) : ((s.modOpen n g).streamSt n).opened = some (g x) := by
  rw [State.opened_modOpen, h, Option.map_some]

end

/-- What the running of a frame of stream `n` changes: the streams, its copy in HBM, and what the pipeline is fed of it. -/
structure State.Ingests (n : Nat) (s t : State) : Prop where
  frame : t = { s with streams := t.streams, hbm := t.hbm, undef := t.undef, frames := t.frames }
  opened : ∀ f, (s.streamSt n).opened = some f → ∃ g, (t.streamSt n).opened = some g ∧ f.Goes g

namespace State.Ingests

variable {s t u : State} {n m i a b area e line k : Nat} {data : Bytes} {g : OpenFrame → OpenFrame} {q : Src → Src} {vals : List Nat}
  {whole : Bool}

theorem refl : Ingests n s s := ⟨rfl, fun f hf => ⟨f, hf, .refl⟩⟩

theorem trans (h₁ : Ingests n s t) (h₂ : Ingests n t u) : Ingests n s u where
  frame := calc
    u = { t with streams := u.streams, hbm := u.hbm, undef := u.undef, frames := u.frames } := h₂.frame
    _ = { s with streams := u.streams, hbm := u.hbm, undef := u.undef, frames := u.frames } := by rw [h₁.frame]
  opened f hf := by
    obtain ⟨g, hg, hfg⟩ := h₁.opened f hf
    obtain ⟨h, hh, hgh⟩ := h₂.opened g hg
    exact ⟨h, hh, hfg.trans hgh⟩

theorem graph (h : Ingests n s t) : t.graph = s.graph := by rw [h.frame]
theorem regs (h : Ingests n s t) : t.regs = s.regs := by rw [h.frame]
theorem time (h : Ingests n s t) : t.time = s.time := by rw [h.frame]

theorem ite {c : Prop} [Decidable c] (ht : Ingests n s t) (hu : Ingests n s u) : Ingests n s (if c then t else u) := by
  split
  · exact ht
  · exact hu

theorem foldl {α : Type} {step : State → α → State} {l : List α} (hs : ∀ u x, Ingests n u (step u x)) : Ingests n s (l.foldl step s) :=
  List.foldlRecOn l step (motive := Ingests n s) refl fun u hu x _ => hu.trans (hs u x)

theorem modOpen (h : Ingests n s t) (hg : ∀ f : OpenFrame, f.Goes (g f)) : Ingests n s (t.modOpen n g) :=
  h.trans ⟨rfl, fun f hf => ⟨g f, State.opened_modOpen_some hf, hg f⟩⟩

theorem flagOpen (h : Ingests n s t) : Ingests n s (t.flagOpen n b) :=
  h.modOpen fun _ => OpenFrame.goes_flag

theorem modSrc (h : Ingests n s t) : Ingests n s (t.modSrc n i q) := h.modOpen fun _ => ⟨rfl, rfl, fun _ => id⟩

theorem hbmWrite (h : Ingests n s t) : Ingests n s (t.hbmWrite a data) :=
  h.trans (.ite ⟨rfl, fun f hf => ⟨f, hf, .refl⟩⟩ ⟨rfl, fun f hf => ⟨f, hf, .refl⟩⟩)

theorem loseLine : Ingests n s (s.loseLine n area e line whole vals) := by
  unfold State.loseLine
  split
  case h_1 f _ =>
    extract_lets u
    have hu : Ingests n s u := (refl.modOpen (g := fun x => { x with lost := x.lost + b2n whole }) fun _ => ⟨rfl, rfl, fun _ => id⟩).flagOpen
    exact .ite (hu.trans ⟨rfl, fun f hf => ⟨f, hf, .refl⟩⟩) hu
  case h_2 => exact .refl

theorem storeLine : Ingests n s (s.storeLine n i area e line vals) := by
  unfold State.storeLine
  split
  case h_2 => exact .refl
  split
  case h_2 => exact .refl
  split
  case h_2 => exact .refl
  extract_lets y x u
  have hu : Ingests n s u := .foldl fun _ _ => .ite refl.hbmWrite .refl
  exact .ite (hu.trans (.foldl fun _ _ => .ite refl.hbmWrite .refl)) (.foldl fun _ _ => .ite refl.hbmWrite .refl)

theorem obJudge {was : Bool} : Ingests n s (s.obJudge n e was) := by
  refine refl.modOpen fun f => ?_
  split
  · exact ⟨rfl, rfl, fun _ => id⟩
  · exact .refl

theorem releaseLine : Ingests n s (s.releaseLine n i area e line) := by
  unfold State.releaseLine
  split
  case h_2 => exact .refl
  split
  case h_2 => exact .refl
  extract_lets w cols have_ padv vals higher whole a b c
  have ha : Ingests n s a := refl.modOpen (g := fun x => { x with padded := x.padded + 1 }) fun _ => ⟨rfl, rfl, fun _ => id⟩
  have hb : Ingests n s b := .ite refl (.ite ha.flagOpen (.ite ha (.ite ha.flagOpen ha.flagOpen)))
  have hc : Ingests n s c := .ite (hb.trans loseLine) (hb.trans storeLine)
  exact hc.modSrc.trans obJudge

theorem releaseAll : Ingests n s (s.releaseAll n i) := by
  unfold State.releaseAll
  split
  case h_2 => exact .refl
  split
  case h_2 => exact .refl
  refine .foldl fun t e => ?_
  extract_lets rest
  have hrest : ∀ u area lines, Ingests n u (rest u area lines) := fun u area lines => .foldl fun v y => by
    split
    · exact .ite releaseLine .refl
    · exact .refl
  exact (hrest ..).trans (hrest ..)

theorem padUncovered : Ingests n s (s.padUncovered n) := by
  unfold State.padUncovered
  split
  case h_2 => exact .refl
  split
  case h_2 => exact .refl
  split
  case h_2 => exact .refl
  extract_lets padv covered
  exact .ite .refl (.foldl fun _ _ => .foldl fun _ _ => .foldl fun _ _ => .ite .refl refl.hbmWrite)

end State.Ingests

end Sys2Proof.Machine
namespace Sys2Proof.Machine

/-! ### A frame closes (R169, R176, R186, R190) -/

/-- The frame that closes is flagged for each reason, its lines are released and what no entry covers is padded. -/
def State.closing (s : State) (n : Nat) (why : List Nat) (f0 : OpenFrame) : State :=
  ((List.range f0.srcs.length).foldl (fun (t : State) i => t.releaseAll n i)
    (why.foldl (fun (t : State) b => t.flagOpen n b) s)).padUncovered n

/-- Its embedded data and its descriptor go to its slot. -/
def State.descWritten (s : State) (n : Nat) (f : OpenFrame) (r : StreamRec) : State :=
  match f.pipe, f.slot with
  | some p, some k =>
    match s.slotAddr f.epoch p k with
    | some (_, base) =>
      (s.hbmWrite (base + embedOff r) f.embed).hbmWrite base (descBytes f.fid f.epoch (fswFinal f.fsw) f.dt
        ((f.trig.getD (2 ^ 64 - 1, 0)).1) ((f.trig.getD (2 ^ 64 - 1, 0)).2) f.counter n p f.width f.height r.exposures f.obRows f.obCols
        r.container (f.padded + f.lost) f.embed.length ((s.hbmWrite (base + embedOff r) f.embed).dt - f.dt))
    | none => s
  | _, _ => s

/-- The registers of its stream show it, and a flagged frame is an occurrence of EV_SFE_FRAME. -/
def State.closeShown (s : State) (n : Nat) (f : OpenFrame) : State :=
  let u := (((s.wr R.SFE_S_LASTFSW [n] (fswFinal f.fsw)).wr64 R.SFE_S_LASTFID_LO R.SFE_S_LASTFID_HI [n] f.fid).inc
    Fl.SFE_S_FRAMES_count [n]).inc Fl.SFE_S_PADCNT_lines [n] f.padded
  if fswFinal f.fsw % 2 = 1 then
    (u.inc Fl.SFE_S_ERRCNT_flagged [n]).evLimited 0x0051 srcSFE n f.epoch f.fid (fswFinal f.fsw + 2 ^ 32) else u

/-- What its stream remembers of it. -/
def OpenFrame.closeOf (f : OpenFrame) (x : StreamSt) : StreamSt :=
  { x with opened := none, lastEmbed := some f.embed, lastClosed := if f.free then none else some f.counter }

/-- The frame in flight that it became is whole. -/
def State.frameWhole (s : State) (p : Nat) (f : OpenFrame) : State :=
  { s with frames := s.frames.map fun g =>
      if g.pipe = p && g.fid = f.fid && g.origEpoch = g.epoch then { g with fsw := fswFinal f.fsw, embed := f.embed, obStale := f.obStale }
      else g }

/-- Its stream has no open frame any more, and its pipeline takes note. -/
def State.closeLeft (s : State) (n : Nat) (f : OpenFrame) : State :=
  match f.pipe with
  | some p => (((s.modStream n f.closeOf).trace srcSFE 1 n f.epoch f.fid).frameWhole p f).capClose p f.fid
  | none => s.modStream n f.closeOf

section

variable {s t : State} {n : Nat} {why : List Nat} {f0 f : OpenFrame} {r : StreamRec}

theorem State.flagged_ingests : s.Ingests n (why.foldl (fun (t : State) b => t.flagOpen n b) s) := .foldl fun _ _ => State.Ingests.refl.flagOpen

theorem State.closing_ingests : s.Ingests n (s.closing n why f0) :=
  (State.flagged_ingests.trans (.foldl fun _ _ => State.Ingests.releaseAll)).trans State.Ingests.padUncovered

theorem State.closeFrame_eq (h0 : (s.streamSt n).opened = some f0) (hf : ((s.closing n why f0).streamSt n).opened = some f)
    (hr : s.graph.stream? n = some r) :
    s.closeFrame n why = (((s.closing n why f0).descWritten n f r).closeShown n f).closeLeft n f := by
  have hgraph : (s.closing n why f0).graph.stream? n = some r := (congrArg (Graph.stream? · n) State.closing_ingests.graph).trans hr
  unfold State.closeFrame
  rw [h0]
  dsimp -zeta only
  extract_lets u v w
  change (w.streamSt n).opened = some f at hf
  change w.graph.stream? n = some r at hgraph
  rw [hf, hgraph]
  rfl

/-- Each reason is a bit of the status word from then on. -/
theorem State.flagged_bits (h0 : (s.streamSt n).opened = some f0) : ∃ f, f0.Goes f ∧ (∀ b ∈ why, bit f.fsw b = true) ∧
    ((why.foldl (fun (t : State) b => t.flagOpen n b) s).streamSt n).opened = some f := by
  induction why generalizing s f0 with
  | nil => exact ⟨f0, .refl, fun b hb => absurd hb List.not_mem_nil, h0⟩
  | cons b why ih =>
    obtain ⟨f, hgoes, hbits, hf⟩ := ih (s := s.flagOpen n b) (State.opened_modOpen_some h0)
    refine ⟨f, OpenFrame.goes_flag.trans hgoes, fun c hc => ?_, hf⟩
    rcases List.mem_cons.mp hc with rfl | hc
    · exact hgoes.fsw c (by rw [bit_setBit, decide_eq_true rfl, Bool.or_true])
    · exact hbits c hc

/-- The frame that closes is the open one, with what has been flagged of it. -/
theorem State.closeFrame_open (h0 : (s.streamSt n).opened = some f0) (hr : s.graph.stream? n = some r) : ∃ f, f0.Goes f ∧
    (∀ b ∈ why, bit f.fsw b = true) ∧ ((s.closing n why f0).streamSt n).opened = some f ∧
    s.closeFrame n why = (((s.closing n why f0).descWritten n f r).closeShown n f).closeLeft n f := by
  obtain ⟨g, hgoes, hbits, hg⟩ := State.flagged_bits (why := why) h0
  have hrest : (why.foldl (fun (t : State) b => t.flagOpen n b) s).Ingests n (s.closing n why f0) :=
    (State.Ingests.foldl fun _ _ => State.Ingests.releaseAll).trans State.Ingests.padUncovered
  obtain ⟨f, hf, hgoes'⟩ := hrest.opened g hg
  exact ⟨f, hgoes.trans hgoes', fun b hb => hgoes'.fsw b (hbits b hb), hf, State.closeFrame_eq h0 hf hr⟩

/-! What each step of it leaves. -/

theorem State.descWritten_ingests : s.Ingests n (s.descWritten n f r) := by
  unfold State.descWritten
  split
  case h_2 => exact .refl
  split
  · exact State.Ingests.refl.hbmWrite.hbmWrite
  · exact .refl

@[simp] theorem State.hbmWrite_streams {a : Nat} {b : Bytes} : (s.hbmWrite a b).streams = s.streams := by
  unfold State.hbmWrite
  split <;> rfl

theorem State.descWritten_streams : (s.descWritten n f r).streams = s.streams := by
  unfold State.descWritten
  split
  case h_2 => rfl
  split
  · rw [State.hbmWrite_streams, State.hbmWrite_streams]
  · rfl

theorem State.closeShown_frame : s.closeShown n f = { s with regs := (s.closeShown n f).regs, limited := (s.closeShown n f).limited } := by
  unfold State.closeShown
  extract_lets u
  have hu : u = { s with regs := u.regs } := rfl
  clear_value u
  split
  · rw [hu]
    rfl
  · rw [hu]

/-- Every key but one. -/
def Besides (a : Nat) : Nat → Prop := fun k => k ≠ a

theorem State.closeShown_fsw (hr : rising s.regs = true) : rising (s.closeShown n f).regs = true ∧
    (s.closeShown n f).rd R.SFE_S_LASTFSW [n] = fswFinal f.fsw % 2 ^ 32 := by
  have hrest : RegFile.ChangedIn (Besides (R.SFE_S_LASTFSW.key [n])) (s.wr R.SFE_S_LASTFSW [n] (fswFinal f.fsw)).regs
      (s.closeShown n f).regs := by
    have hapart : ∀ r : Reg, r.dims = R.SFE_S_LASTFSW.dims → r.perPipe = false → r.off ≠ R.SFE_S_LASTFSW.off →
        Besides (R.SFE_S_LASTFSW.key [n]) (r.key [n]) := fun r hd hp ho he => ho (by
      simp only [Reg.key, hd, hp] at he
      exact Nat.add_right_cancel (Nat.add_right_cancel he))
    unfold State.closeShown State.wr64
    extract_lets u
    have hu : RegFile.ChangedIn (Besides (R.SFE_S_LASTFSW.key [n])) (s.wr R.SFE_S_LASTFSW [n] (fswFinal f.fsw)).regs u.regs :=
      (((RegFile.ChangedIn.refl.wr (hapart R.SFE_S_LASTFID_LO rfl rfl (by decide))).wr
        (hapart R.SFE_S_LASTFID_HI rfl rfl (by decide))).put (d := Fl.SFE_S_FRAMES_count)
        (hapart R.SFE_S_FRAMES rfl rfl (by decide))).put (d := Fl.SFE_S_PADCNT_lines) (hapart R.SFE_S_PADCNT rfl rfl (by decide))
    split
    · exact hu.put (d := Fl.SFE_S_ERRCNT_flagged) (hapart R.SFE_S_ERRCNT rfl rfl (by decide))
    · exact hu
  refine ⟨hrest.rising (State.rising_wr hr), ?_⟩
  rw [State.rd_of_changedIn hrest (fun h => h rfl), State.rd_wr_same hr]

theorem State.closeShown_flagged (h : fswFinal f.fsw % 2 = 1) :
    ∃ e ∈ (s.closeShown n f).limited, e.typ = 0x0051 ∧ e.src = srcSFE ∧ e.inst = n := by
  unfold State.closeShown
  extract_lets u
  rw [if_pos h]
  exact ⟨_, List.mem_append_right _ (List.mem_singleton_self _), rfl, rfl, rfl⟩

/-- What may change as a stream lets go of its frame. -/
structure State.LetsGo (s t : State) : Prop where
  frame : t = { s with frames := t.frames, raised := t.raised, free := t.free, caps := t.caps, regs := t.regs }
  regs : RegFile.ChangedIn (fun k => 0x500000 ≤ k) s.regs t.regs

theorem State.closeLeft_letsGo : (s.modStream n f.closeOf).LetsGo (s.closeLeft n f) := by
  unfold State.closeLeft
  generalize s.modStream n f.closeOf = u
  split
  case h_2 => exact ⟨rfl, .refl⟩
  case h_1 p _ =>
    have hv : u.trace srcSFE 1 n f.epoch f.fid = { u with
        raised := (u.trace srcSFE 1 n f.epoch f.fid).raised, free := (u.trace srcSFE 1 n f.epoch f.fid).free } := State.trace_frame
    generalize u.trace srcSFE 1 n f.epoch f.fid = v at hv ⊢
    have hwhole : v.frameWhole p f = { u with raised := v.raised, free := v.free, frames := (v.frameWhole p f).frames } := by
      rw [hv]
      rfl
    have hcap : State.Captures p (v.frameWhole p f) ((v.frameWhole p f).capClose p f.fid) := State.captures_capClose
    have hregs : (v.frameWhole p f).regs = u.regs := by rw [hwhole]
    refine ⟨?_, hregs ▸ hcap.regs.mono fun k hk => Nat.le_trans (Nat.le_add_right ..) hk.1⟩
    rw [hcap.frame, hwhole]

/-! What becomes of the stream, the graph and the time. -/

theorem State.closeFrame_left (h0 : (s.streamSt n).opened = some f0) (hr : s.graph.stream? n = some r) :
    ((s.closeFrame n why).streamSt n).opened = none ∧
      ((s.closeFrame n why).streamSt n).lastClosed = if f0.free then none else some f0.counter := by
  obtain ⟨f, hgoes, -, hf, heq⟩ := State.closeFrame_open (why := why) h0 hr
  have hstreams : (s.closeFrame n why).streams = ((s.closing n why f0).modStream n f.closeOf).streams := by
    rw [heq, State.closeLeft_letsGo.frame, State.modStream_streams, State.closeShown_frame, State.descWritten_streams]
    rfl
  have hst : (s.closeFrame n why).streamSt n = f.closeOf ((s.closing n why f0).streamSt n) := by
    rw [State.streamSt, hstreams]
    exact State.streamSt_modStream (State.lt_of_opened hf)
  rw [hst, ← hgoes.free, ← hgoes.counter]
  exact ⟨rfl, rfl⟩

/-- Nothing happens without an open frame, and one whose stream is unknown stays open. -/
theorem State.closeFrame_cases : s.closeFrame n why = s ∨ (∃ f0, s.closeFrame n why = s.closing n why f0) ∨
    ∃ f0 f r, s.closeFrame n why = (((s.closing n why f0).descWritten n f r).closeShown n f).closeLeft n f := by
  rcases h0 : (s.streamSt n).opened with _ | f0
  · exact .inl (by rw [State.closeFrame, h0])
  rcases hr : s.graph.stream? n with _ | r
  · refine .inr (.inl ⟨f0, ?_⟩)
    have hgraph : (s.closing n why f0).graph.stream? n = none := (congrArg (Graph.stream? · n) State.closing_ingests.graph).trans hr
    unfold State.closeFrame
    rw [h0]
    dsimp -zeta only
    extract_lets u v w
    change w.graph.stream? n = none at hgraph
    rw [hgraph]
    split
    case h_1 hnone => cases hnone
    case h_2 => rfl
  · obtain ⟨f, -, -, -, heq⟩ := State.closeFrame_open (why := why) h0 hr
    exact .inr (.inr ⟨f0, f, r, heq⟩)

theorem State.closeFrame_still : (s.closeFrame n why).graph = s.graph ∧ (s.closeFrame n why).time = s.time := by
  have hclosing : ∀ f0, (s.closing n why f0).graph = s.graph ∧ (s.closing n why f0).time = s.time := fun f0 =>
    ⟨State.closing_ingests.graph, State.closing_ingests.time⟩
  rcases State.closeFrame_cases (s := s) (n := n) (why := why) with h | ⟨f0, h⟩ | ⟨f0, f, r, h⟩ <;> rw [h]
  · exact ⟨rfl, rfl⟩
  · exact hclosing f0
  · generalize hu : s.closing n why f0 = u
    obtain ⟨hgraph, htime⟩ := hu ▸ hclosing f0
    have hdesc : u.Ingests n (u.descWritten n f r) := State.descWritten_ingests
    have hshown := State.closeShown_frame (s := u.descWritten n f r) (n := n) (f := f)
    have hleft := (State.closeLeft_letsGo (s := (u.descWritten n f r).closeShown n f) (n := n) (f := f)).frame
    refine ⟨Eq.trans ?_ (hdesc.graph.trans hgraph), Eq.trans ?_ (hdesc.time.trans htime)⟩
    · rw [hleft, State.modStream_graph, hshown]
    · rw [hleft, State.modStream_time, hshown]

/-- A frame that closes flagged shows in its stream's registers, and in an occurrence of EV_SFE_FRAME. -/
theorem State.closeFrame_flagged {b : Nat} (hn : n < 64) (hrise : rising s.regs = true) (h0 : (s.streamSt n).opened = some f0)
    (hr : s.graph.stream? n = some r) (hb : b ∈ why) (hlo : 1 ≤ b) (hhi : b ≤ 20) :
    bit ((s.closeFrame n why).rd R.SFE_S_LASTFSW [n]) b = true ∧ bit ((s.closeFrame n why).rd R.SFE_S_LASTFSW [n]) fswFlagged = true ∧
      ∃ e ∈ (s.closeFrame n why).limited, e.typ = 0x0051 ∧ e.src = srcSFE ∧ e.inst = n := by
  obtain ⟨f, -, hbits, -, heq⟩ := State.closeFrame_open (why := why) h0 hr
  have hfsw : fswFinal f.fsw = setBit f.fsw 0 := fswFinal_of_bit (hbits b hb) hlo hhi
  have hflag : bit (fswFinal f.fsw) 0 = true := by rw [hfsw, bit_setBit, decide_eq_true rfl, Bool.or_true]
  generalize hu : (s.closing n why f0).descWritten n f r = u at heq
  have hregs : u.regs = s.regs :=
    hu ▸ State.descWritten_ingests.regs.trans State.closing_ingests.regs
  obtain ⟨-, hshown⟩ := State.closeShown_fsw (s := u) (n := n) (f := f) (hregs ▸ hrise)
  have hkey : ¬0x500000 ≤ R.SFE_S_LASTFSW.key [n] := by
    show ¬0x500000 ≤ 0x108010 + n * 0x80
    omega
  have hrd : (s.closeFrame n why).rd R.SFE_S_LASTFSW [n] = fswFinal f.fsw % 2 ^ 32 := by
    rw [heq, ← hshown]
    exact State.rd_of_changedIn (s := (u.closeShown n f).modStream n f.closeOf) State.closeLeft_letsGo.regs hkey
  have hlimited : (s.closeFrame n why).limited = (u.closeShown n f).limited := by
    rw [heq, State.closeLeft_letsGo.frame, State.modStream_limited]
  rw [hrd, hlimited, bit_mod_word (by omega), bit_mod_word (by decide)]
  refine ⟨?_, hflag, State.closeShown_flagged ?_⟩
  · rw [hfsw]
    exact bit_setBit_of_bit (hbits b hb)
  · simpa [bit] using hflag

end

end Sys2Proof.Machine
namespace Sys2Proof.Machine

/-! ### The streams through a front and the entry of a frame (R125, R133, R145)

What issues and takes a front, and what a frame displaces as it enters its pipeline, leaves every stream as it was; only a changed depth of
the ingest buffer sets the next slot of one back. -/

section

variable {s : State} {g : Graph} {regs : RegFile} {x : Patch} {f : Frame} {r : Replay} {p e n k a v typ dst fid time op node result : Nat}
  {body : Bytes} {blob : BlobData} {late : Bool} {o : Option Nat}

theorem State.streams_ite {c : Prop} [Decidable c] {t u : State} (ht : t.streams = s.streams) (hu : u.streams = s.streams) :
    (if c then t else u).streams = s.streams := by
  split
  · exact ht
  · exact hu

theorem State.streams_foldl {α : Type} {step : State → α → State} {l : List α} (h : ∀ t x, (step t x).streams = t.streams) :
    (l.foldl step s).streams = s.streams :=
  List.foldlRecOn l step (motive := fun t => t.streams = s.streams) rfl fun t ht x _ => (h t x).trans ht

@[simp] theorem State.inc_streams {d : Fld} {ix : List Nat} : (s.inc d ix v).streams = s.streams := rfl

@[simp] theorem State.trace_streams {src kind inst : Nat} : (s.trace src kind inst e fid).streams = s.streams := by rw [State.trace_frame]

@[simp] theorem State.settle_streams : s.settle.streams = s.streams := by
  unfold State.settle
  extract_lets out
  split <;> rfl

/-! Generators, audio and the sky agent. -/

@[simp] theorem State.genEpoch_streams : s.genEpoch.streams = s.streams := by
  unfold State.genEpoch
  extract_lets u
  have hu : u.streams = s.streams := State.streams_foldl fun _ _ => rfl
  clear_value u
  exact hu

@[simp] theorem State.audHalt_streams : (s.audHalt n).streams = s.streams := by
  simp [State.audHalt, apply_ite State.streams]

@[simp] theorem State.audStop_streams : (s.audStop n).streams = s.streams := by
  simp [State.audStop, State.rampOut, State.setFade, State.fresh, apply_ite State.streams]

@[simp] theorem State.startLess_streams {begun : Bool} : (s.startLess n begun).streams = s.streams := by
  unfold State.startLess
  split
  · rfl
  · simp [apply_ite State.streams]

@[simp] theorem State.audEpoch_streams : s.audEpoch.streams = s.streams :=
  State.streams_foldl fun t n => by simp [apply_ite State.streams]

@[simp] theorem State.skySendAt_streams : (s.skySendAt typ dst time body).streams = s.streams := by
  unfold State.skySendAt
  exact State.streams_foldl fun t p => by split <;> rfl

@[simp] theorem State.skyReport_streams : (s.skyReport op n).streams = s.streams := by
  unfold State.skyReport State.skyUp
  extract_lets mine all worst u
  exact State.streams_ite rfl (State.streams_ite rfl (State.streams_ite rfl State.skySendAt_streams))

@[simp] theorem State.skyEnded_streams {refused : Bool} : (s.skyEnded op result refused time k n).streams = s.streams := by
  simp [State.skyEnded, State.wr64, apply_ite State.streams]

@[simp] theorem State.skyIssued_streams : (s.skyIssued time n late).streams = s.streams := by
  simp [State.skyIssued, State.skyDone, apply_ite State.streams]

/-! The records that move and the memories that a patch fills. -/

@[simp] theorem State.retireFaulty_streams : (s.retireFaulty p e).streams = s.streams := State.streams_foldl fun _ _ => rfl

@[simp] theorem State.xwMove_streams : (s.xwMove p).streams = s.streams := by
  simp [State.xwMove, State.xwShow, apply_ite State.streams]

@[simp] theorem State.xwAssign_streams : (s.xwAssign p).streams = s.streams := rfl

@[simp] theorem State.hbmUndef_streams : (s.hbmUndef a n).streams = s.streams := by
  simp [State.hbmUndef, apply_ite State.streams]

@[simp] theorem State.lutPut_streams {b : Byte} : (s.lutPut a b).streams = s.streams := by
  simp [State.lutPut, apply_ite State.streams]

@[simp] theorem State.applyPatchPlan_streams : (s.applyPatchPlan x).streams = s.streams := by
  refine (State.streams_foldl fun t z => ?_).trans (State.streams_foldl fun t m => rfl)
  split
  · rfl
  · exact State.hbmUndef_streams

@[simp] theorem State.putBlob_streams : (s.putBlob g regs blob).streams = s.streams := by
  unfold State.putBlob
  split
  · exact State.hbmWrite_streams
  · refine State.streams_foldl fun t i => ?_
    split
    · exact State.lutPut_streams
    · rfl

@[simp] theorem State.applyPatchLuts_streams : (s.applyPatchLuts e x).streams = s.streams := State.streams_foldl fun _ _ => State.putBlob_streams

@[simp] theorem State.outfNew_streams : (s.outfNew p).streams = s.streams := rfl

/-! The number of the streams through the front of a pipeline. -/

theorem State.capFront_streams : (s.capFront p).streams.length = s.streams.length := by
  unfold State.capFront
  extract_lets d u
  split
  · rfl
  split
  · show (match s.graph.streamOf p with
      | some r => modNth s.streams r.id fun x => { x with slot := 0 }
      | none => s.streams).length = s.streams.length
    split
    · exact List.length_modify ..
    · rfl
  · rfl

theorem State.takeFront_streams {first : Nat} {patches : List Patch} : (s.takeFront p e first patches).streams.length = s.streams.length := by
  unfold State.takeFront
  extract_lets patch spare b c d mark u w
  have hd : d.streams = s.streams := by
    have hb : b.streams = s.streams := by simp [b]
    dsimp -zeta only [d]
    clear_value b patch
    split
    · extract_lets y busy z
      have hy : y.streams = s.streams := State.applyPatchPlan_streams.trans hb
      have hz : z.streams = s.streams := State.streams_ite hy (State.applyPatchLuts_streams.trans hy)
      exact State.streams_ite hz hz
    · exact hb
  have hw : w.streams.length = d.streams.length := State.capFront_streams
  rw [State.trace_streams, State.raise_streams, hw, hd]

theorem State.takeDue_streams : (s.takeDue p fid).streams.length = s.streams.length :=
  List.foldlRecOn _ _ (motive := fun t : State => t.streams.length = s.streams.length) rfl fun _ ht _ _ => State.takeFront_streams.trans ht

theorem State.issueFront_streams {c : Front} : (s.issueFront c fid).streams.length = s.streams.length := by
  unfold State.issueFront
  extract_lets a b c d counted noted sky gens disp shown due taken
  have hd : d.streams = s.streams := State.streams_ite rfl rfl
  have hnoted : noted.streams = s.streams := State.streams_ite hd rfl
  have hsky : sky.streams = s.streams := State.streams_ite (State.skyIssued_streams.trans hnoted) hnoted
  have hgens : gens.streams = s.streams := State.audEpoch_streams.trans (State.genEpoch_streams.trans hsky)
  clear_value gens
  have hshown : shown.streams = s.streams := State.streams_ite hgens hgens
  have htaken : taken.streams.length = shown.streams.length :=
    List.foldlRecOn _ _ (motive := fun t : State => t.streams.length = shown.streams.length) rfl fun t ht p _ => by
      split
      · exact State.takeDue_streams.trans ht
      · exact ht
  rw [State.settle_streams, htaken, hshown]

theorem State.frontAt_streams {c : Front} {m : Nat} : (s.frontAt c fid m).streams.length = s.streams.length := by
  unfold State.frontAt
  split
  · rfl
  extract_lets late early cycle reason held noted
  split
  · split <;> rfl
  · exact State.issueFront_streams

theorem State.boundaryAs_streams {m : Nat} : (s.boundaryAs p fid m).streams.length = s.streams.length := by
  unfold State.boundaryAs
  extract_lets a b
  have hb : b.streams.length = s.streams.length := by
    dsimp -zeta only [b]
    split
    · split
      · exact State.frontAt_streams
      · rfl
    · rfl
  split
  · rw [State.settle_streams, State.takeDue_streams, hb]
  · exact hb

/-- The number of the streams stays as a frame that opens gets its number. -/
theorem State.openNumber_streams {free : Bool} : (s.openNumber n o k free).1.streams.length = s.streams.length := by
  unfold State.openNumber
  extract_lets st d good counted gap
  split
  · rfl
  · extract_lets fid0 tried reload fid t
    have ht : t.streams.length = s.streams.length := by
      dsimp -zeta only [t]
      split
      · exact State.boundaryAs_streams
      · exact State.boundaryAs_streams
    exact ht

/-! The generators that check a stream, and what a frame displaces. -/

@[simp] theorem State.sgMissed_streams {g : Nat} : (s.sgMissed g n time).streams = s.streams := State.streams_ite rfl rfl

theorem State.sgMatch_streams {g : Nat} : (s.sgMatch g time).1.streams = s.streams := by
  unfold State.sgMatch
  extract_lets lat tol kept old rest u
  have hu : u.streams = s.streams := State.sgMissed_streams
  clear_value u rest
  split
  · split <;> exact hu
  · exact hu

theorem State.sgBoundary_streams : (s.sgBoundary n time).1.streams = s.streams := by
  unfold State.sgBoundary
  refine List.foldlRecOn (List.range 8) _ (motive := fun a : State × Option (Nat × Nat) × Bool => a.1.streams = s.streams) rfl fun a ha g _ => ?_
  split
  · exact State.sgMatch_streams.trans ha
  · exact ha

@[simp] theorem State.recGap_streams : (s.recGap p fid time e).streams = s.streams := by
  unfold State.recGap
  split <;> rfl

@[simp] theorem State.markDropped_streams : (s.markDropped f).streams = s.streams := by
  unfold State.markDropped
  extract_lets fsw u
  have hu : u.streams = s.streams := by
    dsimp -zeta only [u]
    split
    · exact State.hbmWrite_streams
    · rfl
  exact State.streams_ite hu hu

@[simp] theorem State.slotReuse_streams : (s.slotReuse p o).streams = s.streams := by
  unfold State.slotReuse
  refine State.streams_foldl fun t f => ?_
  extract_lets u v
  have hv : v.streams = u.streams := State.streams_foldl fun _ _ => rfl
  rw [State.recGap_streams, State.markDropped_streams, hv, show u.streams = t.streams from rfl]

@[simp] theorem State.replayLate_streams : (s.replayLate p o).streams = s.streams :=
  State.streams_foldl fun _ _ => State.streams_ite rfl rfl

@[simp] theorem State.capOpen_streams : (s.capOpen p fid k time).streams = s.streams := by rw [State.captures_capOpen.frame]

@[simp] theorem State.patchGap_streams : (s.patchGap p fid).streams = s.streams := State.streams_ite rfl rfl

/-- A frame enters its pipeline, or is marked as dropped. -/
theorem State.openEnter_streams {w h : Nat} {embed : Option Bytes} : (s.openEnter p n fid e w h embed o).streams = s.streams ∨
    (s.openEnter p n fid e w h embed o).streams = (s.flagOpen n fswDropped).streams := by
  unfold State.openEnter
  extract_lets a b drop c route d entered f
  have hb : b.streams = s.streams := State.replayLate_streams.trans State.slotReuse_streams
  have hc : c.streams = s.streams := by
    dsimp -zeta only [c]
    split
    · exact State.capOpen_streams.trans hb
    · exact hb
  have hd : d.streams = s.streams := State.streams_ite hc hc
  have hentered : entered.streams = s.streams := State.patchGap_streams.trans hc
  clear_value d entered
  split
  · refine .inr ?_
    rw [State.recGap_streams]
    exact congrArg (modNth · n _) hd
  · refine .inl (State.streams_ite hentered ?_)
    exact State.trace_streams.trans hentered

end

end Sys2Proof.Machine
namespace Sys2Proof.Machine

/-! ### A frame opens on a stream without an open one (R163, R168, R172, R176, R183) -/

/-- A frame with this counter, with its counter checks off or not, stands open on stream `n`, and its FS has not been missed. -/
structure State.HasBegun (s : State) (n counter : Nat) (free : Bool) : Prop where
  frame : ∃ f, (s.streamSt n).opened = some f ∧ f.counter = counter ∧ f.free = free ∧ bit f.fsw fswFsMissing = false
  seen : (s.streamSt n).seen = true
  last : (s.streamSt n).lastCounter = counter

section

variable {s t : State} {n counter die : Nat} {free : Bool} {r : StreamRec} {l : List Nat} {v b : Nat}

theorem State.HasBegun.lt (h : s.HasBegun n counter free) : n < s.streams.length := by
  obtain ⟨f, hf, -⟩ := h.frame
  exact State.lt_of_opened hf

theorem State.HasBegun.congr (h : s.HasBegun n counter free) (ht : t.streams = s.streams) : t.HasBegun n counter free := by
  have hst : t.streamSt n = s.streamSt n := by rw [State.streamSt, State.streamSt, ht]
  exact ⟨hst ▸ h.frame, hst ▸ h.seen, hst ▸ h.last⟩

theorem State.HasBegun.modOpen {g : OpenFrame → OpenFrame} (h : s.HasBegun n counter free)
    (hg : ∀ f, (g f).counter = f.counter ∧ (g f).free = f.free ∧ bit (g f).fsw fswFsMissing = bit f.fsw fswFsMissing) :
    (s.modOpen n g).HasBegun n counter free := by
  obtain ⟨f, hf, hcounter, hfree, hfs⟩ := h.frame
  obtain ⟨hgcounter, hgfree, hgfs⟩ := hg f
  have hst : (s.modOpen n g).streamSt n = { s.streamSt n with opened := (s.streamSt n).opened.map g } := State.streamSt_modStream h.lt
  refine ⟨⟨g f, State.opened_modOpen_some hf, hgcounter.trans hcounter, hgfree.trans hfree, hgfs.trans hfs⟩, ?_, ?_⟩ <;> rw [hst]
  · exact h.seen
  · exact h.last

theorem State.HasBegun.flagOpen (h : s.HasBegun n counter free) (hb : b ≠ fswFsMissing) : (s.flagOpen n b).HasBegun n counter free := by
  refine h.modOpen fun f => ⟨rfl, rfl, ?_⟩
  rw [bit_setBit, decide_eq_false hb, Bool.or_false]

theorem State.HasBegun.modExcl {g : List (Nat × Nat) → List (Nat × Nat)} (h : s.HasBegun n counter free) :
    (s.modStream n fun x => { x with excl := g x.excl }).HasBegun n counter free := by
  have hst : (s.modStream n fun x => { x with excl := g x.excl }).streamSt n = { s.streamSt n with excl := g (s.streamSt n).excl } :=
    State.streamSt_modStream h.lt
  exact ⟨hst ▸ h.frame, hst ▸ h.seen, hst ▸ h.last⟩

theorem bit_foldl_setBit (h : b ∉ l) : bit (l.foldl setBit v) b = bit v b := by
  induction l generalizing v with
  | nil => rfl
  | cons i l ih =>
    obtain ⟨hi, hl⟩ := not_or.mp (mt List.mem_cons.mpr h)
    rw [List.foldl_cons, ih hl, bit_setBit, decide_eq_false (Ne.symm hi), Bool.or_false]

/-- The number of a frame says of its counter only that it jumps or has a gap. -/
theorem State.openNumber_bits {o : Option Nat} : fswFsMissing ∉ (s.openNumber n o counter free).2.2 := by
  unfold State.openNumber
  extract_lets st d good counted gap
  have hgap : fswFsMissing ∉ gap := by
    dsimp only [gap]
    split
    · exact List.not_mem_nil
    · split
      · decide
      · split <;> decide
  clear_value gap
  split
  · exact hgap
  · extract_lets fid0 tried reload fid t
    show fswFsMissing ∉ if reload = true then [] else gap
    split
    · exact List.not_mem_nil
    · exact hgap

theorem State.openFrame_begun (hn : n < s.streams.length) (hr : s.graph.stream? n = some r) :
    (s.openFrame n counter free []).HasBegun n counter free := by
  unfold State.openFrame
  rw [hr]
  dsimp -zeta only
  extract_lets pipe o a fid epoch w h m b bits' slot embed c
  have hlen : n < b.streams.length := by
    have hb : b.streams = a.streams := State.sgBoundary_streams
    have ha : a.streams.length = s.streams.length := State.openNumber_streams
    rwa [hb, ha]
  have hbits : fswFsMissing ∉ bits' := by
    have hnumber : fswFsMissing ∉ o.2.2 := State.openNumber_bits
    dsimp only [bits']
    simp only [List.nil_append, List.mem_append, not_or]
    refine ⟨hnumber, ?_⟩
    split <;> decide
  have hc : c.HasBegun n counter free := by
    have hst : c.streamSt n = _ := State.streamSt_modStream hlen
    refine ⟨⟨_, congrArg StreamSt.opened hst, rfl, rfl, ?_⟩, congrArg StreamSt.seen hst, congrArg StreamSt.lastCounter hst⟩
    exact (bit_foldl_setBit hbits).trans (by decide)
  clear_value c pipe
  split
  · exact hc
  · rcases State.openEnter_streams (s := c) with h | h
    · exact hc.congr h
    · exact (hc.flagOpen (by decide)).congr h

/-- A packet that begins a frame on such a stream belongs to the frame that it opens. -/
theorem State.acceptPacket_begins (hn : n < s.streams.length) (hr : s.graph.stream? n = some r) (hopen : (s.streamSt n).opened = none)
    (hlast : free = true ∨ (s.streamSt n).lastClosed ≠ some counter) (hexcl : (die, counter) ∉ (s.streamSt n).excl) :
    ∃ t, s.acceptPacket n die counter true free = (t, .belongs) ∧ t.HasBegun n counter free := by
  have hnew : ¬(decide ((s.streamSt n).lastClosed = some counter) && !free) = true := by
    rcases hlast with h | h <;> simp [h]
  unfold State.acceptPacket
  extract_lets st begin_
  rw [if_neg (by simpa [st] using hexcl), hopen]
  dsimp only
  rw [if_neg hnew]
  have hbegun : (s.openFrame n counter free []).HasBegun n counter free := State.openFrame_begun hn hr
  refine ⟨_, rfl, .modExcl (.modOpen hbegun fun f => ?_)⟩
  exact ⟨rfl, rfl, rfl⟩

end

end Sys2Proof.Machine
namespace Sys2Proof.Machine

/-! ### Sensor Link packets (R161 to R165) -/

section

variable {K : Nat → Prop} {s t u : State} {n e g typ die counter : Nat} {fs full : Bool} {d : Fld} {ix : List Nat} {r : StreamRec}
  {f : OpenFrame} {q : Src} {pkt data : Bytes} {types : Nat → Bool}

/-! The stream that a packet names does not hang on the write buffer or on the packets that wait. -/

theorem State.eff_of_changedIn (h : RegFile.ChangedIn K s.regs t.regs) (he : t.epochs = s.epochs) (hk : ¬K (d.reg.key ix)) :
    t.eff e d ix = s.eff e d ix := by
  unfold State.eff State.epochRec
  rw [he]
  cases s.epochs.find? fun r => r.num = e with
  | none => exact State.get_of_changedIn h hk
  | some r => rfl

/-- A register of the placement entries. -/
@[reducible] def Reg.Places (r : Reg) : Prop := r.dims = [(0x100, 0x10)] ∧ 0x110000 ≤ r.off ∧ r.off < 0x110010 ∧ r.perPipe = false

theorem Reg.Places.keys {r : Reg} {k : Nat} (h : r.Places) (hk : k < 256) : Keys 0x110000 0x111000 (r.key [k]) := by
  obtain ⟨hr, hlo, hhi, hp⟩ := h
  simp only [keys_iff, Reg.key, hr, hp, instOffset, Bool.false_eq_true, if_false]
  omega

theorem State.sourcesOf_of_changedIn {w h : Nat} (hregs : RegFile.ChangedIn K s.regs t.regs) (he : t.epochs = s.epochs)
    (hK : ∀ k, Keys 0x110000 0x111000 k → ¬K k) : t.sourcesOf r e w h = s.sourcesOf r e w h := by
  unfold State.sourcesOf
  extract_lets mk
  split
  · rfl
  · refine List.filterMap_congr fun k hk => ?_
    have hplace : ∀ d : Fld, d.reg.Places → t.eff e d [k] = s.eff e d [k] := fun d hd =>
      State.eff_of_changedIn hregs he (hK _ (hd.keys (List.mem_range.mp hk)))
    simp (disch := decide) only [hplace]

theorem State.streamFor_of_changedIn (hregs : RegFile.ChangedIn K s.regs t.regs) (hrest : t.epochs = s.epochs ∧ t.graph = s.graph ∧
    t.streams = s.streams ∧ t.pipes = s.pipes) (hK : ∀ k, Keys 0x110000 0x111000 k → ¬K k) (hepoch : ¬K (R.DEV_EPOCH_IN.key [])) :
    t.streamFor g die = s.streamFor g die := by
  obtain ⟨hepochs, hgraph, hstreams, hpipes⟩ := hrest
  have hin : ∀ n, t.streamEpoch n = s.streamEpoch n := fun n => by
    simp only [State.streamEpoch, State.streamSt, State.pipeEpoch, State.pipeSt, hstreams, hgraph, hpipes, State.rd_of_changedIn hregs hepoch]
  unfold State.streamFor
  simp only [hgraph, hin, State.sourcesOf_of_changedIn hregs hepochs hK]

theorem State.bufferFull_same : s.bufferFull s.sfeFull = s := by
  unfold State.bufferFull
  rw [if_neg (by simp)]

theorem State.bufferFull_frame : s.bufferFull full = { s with regs := (s.bufferFull full).regs, sfeFull := full } := by
  unfold State.bufferFull
  split <;> rfl

theorem State.bufferFull_changedIn : RegFile.ChangedIn (fun k => k = R.HBMC_RTMISS.key []) s.regs (s.bufferFull full).regs := by
  unfold State.bufferFull
  split
  · exact RegFile.ChangedIn.refl.put (d := Fl.HBMC_RTMISS_count) rfl
  · exact .refl

/-- The state in which SFE looks at a packet. -/
def State.arrived (s : State) (g : Nat) (pkt : Bytes) (full : Bool) : State := (s.bufferFull full).takePacket g pkt

theorem State.arrived_same : s.arrived g pkt s.sfeFull = s.takePacket g pkt := by rw [State.arrived, State.bufferFull_same]

theorem State.arrived_streams : (s.arrived g pkt full).streams = s.streams := by
  rw [State.arrived, State.bufferFull_frame]
  rfl

theorem State.arrived_graph : (s.arrived g pkt full).graph = s.graph := by
  rw [State.arrived, State.bufferFull_frame]
  rfl

theorem State.streamSt_arrived : (s.arrived g pkt full).streamSt n = s.streamSt n := by
  rw [State.streamSt, State.streamSt, State.arrived_streams]

theorem State.streamFor_arrived : (s.arrived g pkt full).streamFor n die = s.streamFor n die := by
  have hframe := s.bufferFull_frame (full := full)
  have hregs : RegFile.ChangedIn (fun k => k = R.HBMC_RTMISS.key []) s.regs (s.arrived g pkt full).regs := State.bufferFull_changedIn
  refine State.streamFor_of_changedIn hregs ⟨?_, State.arrived_graph, State.arrived_streams, ?_⟩ (fun k hk he => ?_) (by decide)
  · rw [State.arrived, hframe]
    rfl
  · rw [State.arrived, hframe]
    rfl
  · rw [he] at hk
    exact absurd hk.2 (by decide)

/-! What a packet that belongs to the open frame does. -/

/-- The data of a packet. -/
def packetData (pkt : Bytes) : Bytes := (pkt.drop 16).take (parseHdr pkt).length

/-- Its payload CRC fails. -/
def crcFails (pkt : Bytes) : Bool := crc32c (packetData pkt) ≠ (parseHdr pkt).pcrc

/-- A packet whose payload CRC fails flags its frame (R165). -/
def State.crcChecked (s : State) (n : Nat) (pkt : Bytes) : State :=
  if crcFails pkt then (s.flagOpen n fswPayloadCrc).inc Fl.SFE_S_ERRCNT_crc_err [n] else s

/-- What a packet of each type does to the frame that it belongs to. -/
def State.tookPacket (s : State) (r : StreamRec) (pkt : Bytes) : State :=
  let h := parseHdr pkt
  let t := s.crcChecked r.id pkt
  let drop : Bool := crcFails pkt && t.effS r.id Fl.SFE_S_CTRL_crc_pad = 1
  match h.typ with
  | 2 => t.closeSrc r.id h.stream
  | 3 => if drop then t else t.addToDie r.id h.stream 0 h.exposure h.line h.column (unpackAll r.container (packetData pkt))
  | 4 => if drop then t else t.addToDie r.id h.stream 1 h.exposure h.line h.column (unpackAll r.container (packetData pkt))
  | 5 => t.addEmbed r.id (packetData pkt)
  | _ => t

/-- A packet that its stream takes passes the checks of R164 and reaches the frame that it belongs to. -/
theorem State.packetRow_belongs (h : s.PacketFor g typ pkt r) (htypes : types typ = true) (hlo : 1 ≤ typ) (hhi : typ ≤ 5)
    (hacc : (s.arrived g pkt full).acceptPacket r.id (parseHdr pkt).stream (parseHdr pkt).counter (typ = 1) false = (t, .belongs)) :
    s.packetRow g types pkt full = t.tookPacket r pkt := by
  have htyp : (parseHdr pkt).typ = typ := h.typed
  have hwhole : ((decide (typ = 3) || decide (typ = 4)) &&
      !State.wholeGroups r.container (parseHdr pkt).length (parseHdr pkt).column) = false := by
    rcases Decidable.em (typ = 3 ∨ typ = 4) with h34 | h34
    · rw [h.groups h34, Bool.not_true, Bool.and_false]
    · rw [← Bool.decide_or, decide_eq_false h34, Bool.false_and]
  have hlen : ((pkt.drop 16).take (parseHdr pkt).length).length = (parseHdr pkt).length := h.data
  rw [State.packetRow, if_pos (by simp [h.group, h.up, htyp, htypes])]
  change (s.arrived g pkt full).slkPacket g pkt = _
  have hstream : (s.arrived g pkt full).streamFor g (parseHdr pkt).stream = some r := State.streamFor_arrived.trans h.stream
  generalize s.arrived g pkt full = u at hacc hstream ⊢
  unfold State.slkPacket
  extract_lets h' data lineLike crcBad
  have hacc' : u.acceptPacket r.id h'.stream h'.counter (decide (h'.typ = 1)) false = (t, .belongs) := by
    rw [show h'.typ = typ from htyp]
    exact hacc
  rw [if_neg (by simp [Nat.not_lt.mpr h.whole, h', h.crc]), show u.streamFor g h'.stream = some r from hstream]
  dsimp only
  rw [if_neg ?_, hacc']
  · rfl
  · rw [show lineLike = (decide (typ = 3) || decide (typ = 4)) by simp [lineLike, h', htyp], hwhole]
    simp only [h', data, htyp, hlen, Bool.or_false, Bool.or_eq_true, decide_eq_true_iff]
    have := h.short
    omega

/-- A packet of an open source of the open frame belongs to it. -/
theorem State.acceptPacket_belongs (hopen : (s.streamSt n).opened = some f) (hsrc : s.srcState n die = some q)
    (hst : q.st = 1) (hcnt : q.cnt = counter) (hexcl : (die, counter) ∉ (s.streamSt n).excl) :
    s.acceptPacket n die counter fs false = (s, .belongs) := by
  unfold State.acceptPacket
  extract_lets st begin_
  rw [if_neg (by simpa [st] using hexcl), hopen]
  dsimp only
  rw [if_neg (by decide), hsrc]
  dsimp only
  rw [if_neg (by omega), if_neg (by omega), if_pos hcnt.symm, if_pos hst]

/-- The FE of the only source of a frame closes it (R169, R179). -/
theorem State.closeSrc_only (hopen : (s.streamSt n).opened = some f) (hsrcs : f.srcs = [q]) (hdie : q.die = die)
    (hr : s.graph.stream? n = some r) : ((s.closeSrc n die).streamSt n).opened = none ∧
      ((s.closeSrc n die).streamSt n).lastClosed = if f.free then none else some f.counter := by
  unfold State.closeSrc
  extract_lets t
  have ht : (t.streamSt n).opened = some _ := State.opened_modOpen_some hopen
  have hdone : (f.srcs.map fun q => if q.die = die && q.st ≠ 3 then { q with st := 2 } else q).all State.dieDone = true := by
    rw [hsrcs, List.map_singleton, List.all_cons, List.all_nil, Bool.and_true, hdie]
    by_cases h3 : q.st = 3 <;> simp [h3, State.dieDone]
  have hleft := State.closeFrame_left (why := []) ht hr
  rw [ht]
  dsimp only
  rw [if_pos hdone]
  exact hleft

/-- Embedded data gathers, and is cut beyond 64 KiB (R174). -/
theorem State.addEmbed_open (hopen : (s.streamSt n).opened = some f) : s.addEmbed n data = { s with streams := (s.addEmbed n data).streams } ∧
    ∃ f', ((s.addEmbed n data).streamSt n).opened = some f' ∧ f'.embed = (f.embed ++ data).take 0x10000 ∧
      (bit f'.fsw fswAuxCut = true ∨ f.embed.length + data.length ≤ 0x10000) := by
  unfold State.addEmbed
  rw [hopen]
  dsimp -zeta only
  extract_lets t
  have ht : (t.streamSt n).opened = some _ := State.opened_modOpen_some hopen
  split
  case isTrue hlong =>
    exact ⟨rfl, _, State.opened_modOpen_some ht, rfl, .inl (by rw [bit_setBit, decide_eq_true rfl, Bool.or_true])⟩
  case isFalse hshort => exact ⟨rfl, _, ht, rfl, .inr (Nat.not_lt.mp hshort)⟩

/-- A good payload CRC leaves the frame as it is. -/
theorem State.crcChecked_good (h : crc32c (packetData pkt) = (parseHdr pkt).pcrc) : s.crcChecked n pkt = s := by
  rw [State.crcChecked, if_neg (by simp [crcFails, h])]

/-- Whether its payload CRC fails or not, the frame goes on. -/
theorem State.crcChecked_open (hopen : (s.streamSt n).opened = some f) : (s.crcChecked n pkt).graph = s.graph ∧
    ∃ f', ((s.crcChecked n pkt).streamSt n).opened = some f' ∧ f'.srcs = f.srcs ∧ f'.free = f.free ∧ f'.counter = f.counter := by
  unfold State.crcChecked
  split
  · exact ⟨rfl, _, State.opened_modOpen_some hopen, rfl, rfl, rfl⟩
  · exact ⟨rfl, f, hopen, rfl, rfl, rfl⟩

theorem State.tookPacket_fs (htyp : (parseHdr pkt).typ = 1) (hcrc : crc32c (packetData pkt) = (parseHdr pkt).pcrc) : s.tookPacket r pkt = s := by
  rw [State.tookPacket, State.crcChecked_good hcrc, htyp]
  rfl

theorem State.tookPacket_fe (htyp : (parseHdr pkt).typ = 2) :
    s.tookPacket r pkt = (s.crcChecked r.id pkt).closeSrc r.id (parseHdr pkt).stream := by
  rw [State.tookPacket, htyp]
  rfl

theorem State.tookPacket_line {area : Nat} (ha : area = 0 ∨ area = 1) (htyp : (parseHdr pkt).typ = 3 + area)
    (hcrc : crc32c (packetData pkt) = (parseHdr pkt).pcrc) : s.tookPacket r pkt =
      s.addToDie r.id (parseHdr pkt).stream area (parseHdr pkt).exposure (parseHdr pkt).line (parseHdr pkt).column
        (unpackAll r.container (packetData pkt)) := by
  have hgood : crcFails pkt = false := decide_eq_false (not_not_intro hcrc)
  rcases ha with rfl | rfl
  · rw [State.tookPacket, State.crcChecked_good hcrc, htyp, hgood]
    rfl
  · rw [State.tookPacket, State.crcChecked_good hcrc, htyp, hgood]
    rfl

theorem State.tookPacket_embed (htyp : (parseHdr pkt).typ = 5) (hcrc : crc32c (packetData pkt) = (parseHdr pkt).pcrc) :
    s.tookPacket r pkt = s.addEmbed r.id (packetData pkt) := by
  rw [State.tookPacket, State.crcChecked_good hcrc, htyp]
  rfl

/-- A packet of an open source of the open frame does its work there. -/
theorem State.packetRow_open (h : s.PacketFor g typ pkt r) (htypes : types typ = true) (hlo : 1 ≤ typ) (hhi : typ ≤ 5)
    (hopen : (s.streamSt r.id).opened = some f) (hsrc : s.srcState r.id (parseHdr pkt).stream = some q)
    (hst : q.st = 1) (hcnt : q.cnt = (parseHdr pkt).counter)
    (hexcl : ((parseHdr pkt).stream, (parseHdr pkt).counter) ∉ (s.streamSt r.id).excl) :
    s.packetRow g types pkt full = (s.arrived g pkt full).tookPacket r pkt := by
  have hsame : (s.arrived g pkt full).streamSt r.id = s.streamSt r.id := State.streamSt_arrived
  refine State.packetRow_belongs h htypes hlo hhi (State.acceptPacket_belongs (hsame ▸ hopen) ?_ hst hcnt (hsame ▸ hexcl))
  rw [State.srcState, hsame]
  exact hsrc

end

/-- Settles O26: a packet belongs to the frame that it opens or finds open; the frame closes with its last source or at its time. -/
theorem sensorLinkPacketsAndFrames : Obligations.SensorLinkPacketsAndFrames := by
  refine ⟨⟨?_, ?_, ?_⟩, ?_, ?_, ?_⟩
  · intro g pkt r s h hshape hopen hlast hexcl hcrc
    have hsame : (s.arrived g pkt s.sfeFull).streamSt r.id = s.streamSt r.id := State.streamSt_arrived
    have hlen : r.id < (s.arrived g pkt s.sfeFull).streams.length := by
      rw [State.arrived_streams, hshape.streams]
      exact h.id
    obtain ⟨t, hacc, hbegun⟩ := State.acceptPacket_begins (die := (parseHdr pkt).stream) (free := false) hlen
      (State.arrived_graph ▸ h.known) (hsame ▸ hopen) (.inr (hsame ▸ hlast)) (hsame ▸ hexcl)
    obtain ⟨f, hf, hcounter, hfree, hfs⟩ := hbegun.frame
    have hrow : s.packetRow g (fun t => t = 1) pkt s.sfeFull = t := by
      rw [State.packetRow_belongs h (by decide) (by decide) (by decide) hacc, State.tookPacket_fs h.typed hcrc]
    exact ⟨t, f, by rw [exec_fs, execFs, hrow], hf, hcounter, hfree, hfs, hbegun.seen, hbegun.last⟩
  · intro g area full c pkt r f q s hc h hopen hfree hsrc hst hcnt hexcl hcrc
    have hline : ∀ types : Nat → Bool, types (3 + area) = true → area = 0 ∨ area = 1 → s.packetRow g types pkt full = _ := fun types ht ha =>
      (State.packetRow_open h ht (by omega) (by omega) hopen hsrc hst hcnt hexcl).trans (State.tookPacket_line ha h.typed hcrc)
    simp only [List.mem_cons, Prod.mk.injEq, List.not_mem_nil, or_false] at hc
    rcases hc with ⟨rfl, rfl⟩ | ⟨rfl, rfl⟩
    · rw [exec_line, execLine, hline _ (by decide) (.inl rfl)]
      rfl
    · rw [exec_obline, execObline, hline _ (by decide) (.inr rfl)]
      rfl
  · intro g pkt r f q s h hshape hopen hfree hsrc hst hcnt hexcl hcrc
    have hrow : s.packetRow g (fun t => t = 5) pkt s.sfeFull = (s.takePacket g pkt).addEmbed r.id (packetData pkt) := by
      rw [State.packetRow_open h (by decide) (by decide) (by decide) hopen hsrc hst hcnt hexcl,
        State.tookPacket_embed h.typed hcrc, State.arrived_same]
    obtain ⟨hframe, f', hf', hembed, hcut⟩ := State.addEmbed_open (s := s.takePacket g pkt) (data := packetData pkt) hopen
    refine ⟨_, f', by rw [exec_embed, execEmbed, hrow], hf', hembed, ?_, ?_⟩
    · rwa [show (packetData pkt).length = (parseHdr pkt).length from h.data] at hcut
    · rw [hframe]
      rfl
  · intro g pkt r f q s h hshape hopen hfree hsrcs hdie hst hcnt hexcl
    have hsrc : s.srcState r.id (parseHdr pkt).stream = some q := by simp [State.srcState, hopen, hsrcs, hdie]
    have hsame : (s.arrived g pkt s.sfeFull).streamSt r.id = s.streamSt r.id := State.streamSt_arrived
    obtain ⟨hgraph, f', hf', hsrcs', hfree', hcounter'⟩ :=
      State.crcChecked_open (s := s.arrived g pkt s.sfeFull) (n := r.id) (pkt := pkt) (hsame ▸ hopen)
    obtain ⟨hnone, hlast⟩ := State.closeSrc_only hf' (hsrcs'.trans hsrcs) hdie
      ((congrArg (Graph.stream? · r.id) (hgraph.trans State.arrived_graph)).trans h.known)
    have hrow : s.packetRow g (fun t => t = 2) pkt s.sfeFull =
        ((s.arrived g pkt s.sfeFull).crcChecked r.id pkt).closeSrc r.id (parseHdr pkt).stream := by
      rw [State.packetRow_open h (by decide) (by decide) (by decide) hopen hsrc hst hcnt hexcl, State.tookPacket_fe h.typed]
    refine ⟨_, by rw [exec_fe, execFe, hrow], hnone, ?_⟩
    rw [hlast, hfree', hfree, hcounter']
    rfl
  · intro n r f s hn hshape hr hknown hopen
    have hwait : s.Elapsed (s.reachClk (f.clk + s.timeoutSpan r)) := State.elapsed_reachClk
    have hclk : f.clk + s.timeoutSpan r ≤ (s.reachClk (f.clk + s.timeoutSpan r)).time.clk := State.le_clk_reachClk
    have hnow : ((s.reachClk (f.clk + s.timeoutSpan r)).streamSt n).opened = some f := hwait.streamSt ▸ hopen
    have hstream : (s.reachClk (f.clk + s.timeoutSpan r)).graph.stream? n = some r := hwait.graph ▸ hknown
    obtain ⟨hmissing, hflagged, hrecord⟩ := State.closeFrame_flagged (b := fswFeMissing) (why := [fswFeMissing]) hn
      (hwait.regs.rising hr) hnow hstream (List.mem_singleton_self _) (by decide) (by decide)
    refine ⟨_, ?_, (State.closeFrame_left hnow hstream).1, hmissing, hflagged, ?_, hrecord⟩
    · rw [exec_frameTimeout, execFrameTimeout, hopen, hknown]
    · rwa [State.closeFrame_still.2]
  · intro n s hopen
    rw [exec_frameTimeout, execFrameTimeout, hopen]

end Sys2Proof.Machine
namespace Sys2Proof.Machine

/-! ### CSI-2 packets (R181 to R183) -/

section

variable {s : State} {c n : Nat} {h : CsiHdr} {full : Bool} {r : StreamRec} {body : State → State} {take : StreamRec → State → State}

/-- A header with a good ECC and a virtual channel of this level passes on what it heads. -/
theorem State.csiHeader_good (hport : c < 4) (htakes : s.sfeTakes = true) (hon : s.graph.portOn 2 c = true) (hecc : h.eccOk = true)
    (hfixed : h.eccFixed = false) (hvc : h.vc ≤ 15) : s.csiHeader c h body = body s := by
  rw [State.csiHeader, if_neg (by simp [hport, htakes, hon]), if_neg (by simp [hecc]), hfixed]
  exact if_neg (Nat.not_lt.mpr hvc)

theorem State.csiPacket_for (h' : s.CsiFor c h r) : s.csiPacket c h take = take r s := by
  rw [State.csiPacket, State.csiHeader_good h'.port h'.takes h'.on h'.ecc h'.fixed h'.vc, h'.stream]

theorem State.csiCrc_good : s.csiCrc c n true = s := by
  rw [State.csiCrc, if_pos rfl]

theorem State.streamSt_bufferFull : (s.bufferFull full).streamSt n = s.streamSt n := by
  rw [State.bufferFull_frame]
  rfl

end

/-- Settles O27: each packet reaches the stream of its channel and does its work in the open frame there. -/
theorem csiPacketsTaken : Obligations.CsiPacketsTaken := by
  refine ⟨?_, ?_, ?_, ?_, ?_⟩
  · intro c h r s hfor hshape hopen hlast hexcl
    obtain ⟨t, hacc, hbegun⟩ := State.acceptPacket_begins (die := r.stream) (free := decide (h.wc = 0))
      (hshape.streams.symm ▸ hfor.id) hfor.known hopen (hlast.imp_left decide_eq_true) hexcl
    obtain ⟨f, hf, hcounter, hfree, -⟩ := hbegun.frame
    refine ⟨t, f, ?_, hf, hcounter, hfree⟩
    rw [exec_csi2Fs, execCsi2Fs, State.csiPacket_for hfor, hacc]
  · intro c h r f q s hfor hshape hopen hfree hsrcs hdie
    refine ⟨_, ?_, (State.closeSrc_only hopen hsrcs hdie hfor.known).1⟩
    rw [exec_csi2Fe, execCsi2Fe, State.csiPacket_for hfor, hopen]
    exact congrArg _ (if_pos hfree)
  · intro c h data full r f s hfor hdt hwhole hopen hcrc
    rw [exec_csi2Raw, execCsi2Raw, State.csiPacket_for hfor, if_neg (not_not_intro hdt), if_neg (by simp [hwhole]),
      State.streamSt_bufferFull, hopen, hcrc]
    dsimp only
    rw [State.csiCrc_good, if_neg (by simp)]
    by_cases hob : f.raws < f.obRows
    · rw [if_pos hob, if_pos hob, if_pos hob]
    · rw [if_neg hob, if_neg hob, if_neg hob]
  · intro c h data r f s hfor hshape hopen hcrc
    obtain ⟨hframe, f', hf', hembed, -⟩ := State.addEmbed_open (data := data) hopen
    refine ⟨_, f', ?_, hf', hembed, hframe⟩
    rw [exec_csi2Embedded, execCsi2Embedded, State.csiPacket_for hfor, hopen, hcrc, State.csiCrc_good]
  · intro c h s hport htakes hon hecc hfixed hvc
    rw [exec_csi2Ignored, execCsi2Ignored, State.csiHeader_good hport htakes hon hecc hfixed hvc]

end Sys2Proof.Machine
namespace Sys2Proof.Machine

/-! ### A group goes down and starts again (R155, R160) -/

@[simp] theorem key_SFE_G_CTRL (g : Nat) : R.SFE_G_CTRL.key [g] = 0x101000 + g * 0x100 := by simp [Reg.key, R.SFE_G_CTRL, instOffset]
@[simp] theorem key_SFE_G_STAT (g : Nat) : R.SFE_G_STAT.key [g] = 0x101004 + g * 0x100 := by simp [Reg.key, R.SFE_G_STAT, instOffset]
@[simp] theorem key_SFE_G_CNT (g : Nat) : R.SFE_G_CNT.key [g] = 0x101008 + g * 0x100 := by simp [Reg.key, R.SFE_G_CNT, instOffset]

section

variable {s t u : State} {n g first l m v : Nat} {why ls : List Nat}

/-- The graph stands, and the register file stays canonical. -/
structure State.Stands (s t : State) : Prop where
  graph : t.graph = s.graph
  rising : rising s.regs = true → rising t.regs = true

namespace State.Stands

theorem refl : s.Stands s := ⟨rfl, id⟩

theorem trans (h₁ : s.Stands t) (h₂ : t.Stands u) : s.Stands u := ⟨h₂.graph.trans h₁.graph, h₂.rising ∘ h₁.rising⟩

theorem ite {c : Prop} [Decidable c] (ht : s.Stands t) (hu : s.Stands u) : s.Stands (if c then t else u) := by
  split
  · exact ht
  · exact hu

theorem foldl {α : Type} {step : State → α → State} {xs : List α} (hs : ∀ (u : State) x, u.Stands (step u x)) : s.Stands (xs.foldl step s) :=
  List.foldlRecOn xs step (motive := s.Stands) refl fun u hu x _ => hu.trans (hs u x)

theorem groupLanes (h : s.Stands t) : t.groupLanes g = s.groupLanes g := by
  rw [State.groupLanes, State.groupLanes, h.graph]

end State.Stands

theorem State.setLane_stands (h : s.Stands t) : s.Stands (t.setLane l v) :=
  ⟨h.graph, fun hr => State.rising_setLane (h.rising hr)⟩

theorem State.closeFrame_stands : s.Stands (s.closeFrame n why) := by
  refine ⟨State.closeFrame_still.1, fun hr => ?_⟩
  have hclosing : ∀ f0, (s.closing n why f0).regs = s.regs := fun f0 => State.closing_ingests.regs
  rcases State.closeFrame_cases (s := s) (n := n) (why := why) with h | ⟨f0, h⟩ | ⟨f0, f, r, h⟩ <;> rw [h]
  · exact hr
  · exact hclosing f0 ▸ hr
  · have hwritten : rising ((s.closing n why f0).descWritten n f r).regs = true :=
      (State.descWritten_ingests.regs.trans (hclosing f0)).symm ▸ hr
    exact State.closeLeft_letsGo.regs.rising (State.closeShown_fsw hwritten).1

theorem State.Shows.inc {d e : Fld} {ix jx : List Nat} (h : s.Shows d ix n) (hs : e.Spares jx d ix) :
    (s.inc e jx v).Shows d ix n := h.put hs

theorem State.groupDown_off (h : s.flag Fl.SFE_G_STAT_up [g] = false) : s.groupDown g first = s := by
  rw [State.groupDown, if_pos (by simp [h])]

theorem State.groupShown_down (hr : rising s.regs = true) :
    (((s.put Fl.SFE_G_STAT_up [g] 0).put Fl.SFE_G_STAT_went_down [g] 1).inc Fl.SFE_G_CNT_down_count [g]).Shows Fl.SFE_G_STAT_up [g] 0 := by
  have hup : (s.put Fl.SFE_G_STAT_up [g] 0).Shows Fl.SFE_G_STAT_up [g] 0 := .of_put hr (by decide) (by decide) (by decide)
  have hcount : R.SFE_G_CNT.key [g] ≠ R.SFE_G_STAT.key [g] := by
    rw [key_SFE_G_CNT, key_SFE_G_STAT]
    omega
  have hwent : ((s.put Fl.SFE_G_STAT_up [g] 0).put Fl.SFE_G_STAT_went_down [g] 1).Shows Fl.SFE_G_STAT_up [g] 0 :=
    hup.put (.inr ⟨rfl, rfl, by decide⟩)
  exact hwent.inc (.inl hcount)

/-- Whether or not it was up, the group is down. -/
theorem State.groupDown_down (hr : rising s.regs = true) : s.Stands (s.groupDown g first) ∧
    (s.groupDown g first).flag Fl.SFE_G_STAT_up [g] = false := by
  rcases hup : s.flag Fl.SFE_G_STAT_up [g] with _ | _
  · rw [State.groupDown_off hup]
    exact ⟨.refl, hup⟩
  unfold State.groupDown
  rw [if_neg (by simp [hup])]
  extract_lets feeds closed held off down
  have hclosed : s.Stands closed := .foldl fun _ _ => .ite State.closeFrame_stands .refl
  have hheld : closed.Stands held := .foldl fun (u : State) l => .ite (State.setLane_stands ⟨rfl, id⟩) ⟨rfl, id⟩
  have hoff : s.Stands off := (hclosed.trans hheld).trans ⟨rfl, id⟩
  have hdown : down.Shows Fl.SFE_G_STAT_up [g] 0 := State.groupShown_down (hoff.rising hr)
  have hgraph : down.graph = s.graph := hoff.graph
  clear_value down
  split
  · exact ⟨⟨hgraph, fun _ => hdown.rising⟩, (hdown.congr (State.ev_regs ..)).flag_false⟩
  · exact ⟨⟨hgraph, fun _ => hdown.rising⟩, hdown.flag_false⟩

/-- A lane of a group that reacquires starts from SIGNAL (R155). -/
def State.laneRestarts (s : State) (l : Nat) : State :=
  if s.laneState l = 0 then s else (s.modLane l fun x => { Lane.init with scr := x.scr }).setLane l 1

theorem State.laneRestarts_frame : s.laneRestarts l = { s with regs := (s.laneRestarts l).regs, lanes := (s.laneRestarts l).lanes } := by
  unfold State.laneRestarts
  split <;> rfl

theorem State.laneRestarts_changedIn : RegFile.ChangedIn (fun k => 0x104000 ≤ k) s.regs (s.laneRestarts l).regs := by
  unfold State.laneRestarts
  split
  · exact .refl
  · exact RegFile.ChangedIn.refl.put (d := Fl.SFE_L_STAT_state) (Nat.le_add_right _ _)

theorem State.laneState_laneRestarts (hr : rising s.regs = true) : (s.laneRestarts l).laneState l ≤ 1 := by
  unfold State.laneRestarts
  split
  case isTrue h => omega
  case isFalse => exact Nat.le_of_eq (State.laneState_setLane (s := s.modLane l _) hr (by decide))

theorem State.laneState_laneRestarts_le (hr : rising s.regs = true) (h : s.laneState m ≤ 1) : (s.laneRestarts l).laneState m ≤ 1 := by
  by_cases hm : m = l
  · rw [hm]
    exact State.laneState_laneRestarts hr
  · unfold State.laneRestarts
    split
    · exact h
    · exact State.laneState_setLane_ne (s := s.modLane l _) hm ▸ h

/-- The lanes of `ls` start from SIGNAL one after another. -/
theorem State.lanesRestart (hr : rising s.regs = true) : ls.foldl State.laneRestarts s =
      { s with regs := (ls.foldl State.laneRestarts s).regs, lanes := (ls.foldl State.laneRestarts s).lanes } ∧
    RegFile.ChangedIn (fun k => 0x104000 ≤ k) s.regs (ls.foldl State.laneRestarts s).regs ∧
    ∀ m, m ∈ ls ∨ s.laneState m ≤ 1 → (ls.foldl State.laneRestarts s).laneState m ≤ 1 := by
  induction ls generalizing s with
  | nil => exact ⟨rfl, .refl, fun m hm => hm.resolve_left List.not_mem_nil⟩
  | cons l ls ih =>
    have hch := State.laneRestarts_changedIn (s := s) (l := l)
    obtain ⟨hframe, hrest, hstates⟩ := ih (hch.rising hr)
    rw [List.foldl_cons]
    refine ⟨?_, hch.trans hrest, fun m hm => hstates m ?_⟩
    · rw [hframe, s.laneRestarts_frame]
    · rcases hm with hm | hm
      · rcases List.mem_cons.mp hm with rfl | hm
        · exact .inr (State.laneState_laneRestarts hr)
        · exact .inl hm
      · exact .inr (State.laneState_laneRestarts_le hr hm)

theorem State.reacquire_eq (h : s.flag Fl.SFE_G_CTRL_reacquire [g] = false) :
    s.reacquire g = (((s.groupDown g ((s.groupLanes g).headD 0)).groupLanes g).foldl State.laneRestarts
      (s.groupDown g ((s.groupLanes g).headD 0))).put Fl.SFE_G_CTRL_reacquire [g] 1 := by
  rw [State.reacquire, if_neg (by simp [h])]
  rfl

end

/-- Settles O25: the group goes down and its lanes start from SIGNAL; the bit is all that the end of the time changes. -/
theorem groupReacquires : Obligations.GroupReacquires := by
  refine ⟨?_, ?_⟩
  · intro g s hg hreach hr hbit hlanes hshape
    obtain ⟨hstands, hup⟩ := State.groupDown_down (g := g) (first := (s.groupLanes g).headD 0) hr
    have hoff := State.groupDown_off (s := s) (g := g) (first := (s.groupLanes g).headD 0)
    have heq := State.reacquire_eq hbit
    generalize s.groupDown g ((s.groupLanes g).headD 0) = d at hstands hup hoff heq
    rw [hstands.groupLanes] at heq
    obtain ⟨hframe, hch, hstates⟩ := State.lanesRestart (ls := s.groupLanes g) (hstands.rising hr)
    generalize (s.groupLanes g).foldl State.laneRestarts d = u at hframe hch hstates heq
    have hru : rising u.regs = true := hch.rising (hstands.rising hr)
    refine ⟨s.reacquire g, ?_, ?_, ?_, fun l hl => ?_, fun hdown => ?_⟩
    · rw [exec_reacquire, execReacquire, if_pos hg, State.onUnit_reached hreach]
    · rw [heq]
      exact State.flag_put_same (b := true) hru (by decide) rfl
    · have hstat : R.SFE_G_CTRL.key [g] ≠ R.SFE_G_STAT.key [g] := by
        rw [key_SFE_G_CTRL, key_SFE_G_STAT]
        omega
      have hshown : ¬0x104000 ≤ R.SFE_G_STAT.key [g] := by
        rw [key_SFE_G_STAT]
        omega
      rw [heq, State.flag, State.get_put_ne hstat]
      exact (State.flag_of_changedIn hch hshown).trans hup
    · have hlane : R.SFE_G_CTRL.key [g] ≠ R.SFE_L_STAT.key [l] := by
        rw [key_SFE_G_CTRL, key_SFE_L_STAT]
        omega
      rw [heq, State.laneState, State.get_put_ne hlane]
      exact hstates l (.inl hl)
    · rw [heq, hframe, hoff hdown]
      rfl
  · intro g s hg hr
    refine ⟨s.put Fl.SFE_G_CTRL_reacquire [g] 0, ?_, State.flag_put_same (b := false) hr (by decide) rfl, rfl, fun r ix hk => ?_⟩
    · rw [exec_reacquireTimeout, execReacquireTimeout, if_pos hg]
    · exact State.rd_put_ne (Ne.symm hk)

end Sys2Proof.Machine
namespace Sys2Proof.Machine

/-! ### Generators and lines (R187, R188, R464 to R467) -/

section

variable {s t u : State} {g k l m n src w at_ v : Nat} {level up : Bool} {c : GenCfg} {x : Gen} {f : Gen → Gen} {ls : List Nat}

theorem lineKey {r : Reg} (hr : r.dims = [(0x30, 0x20)]) (hp : r.perPipe = false) : r.key [l] = r.off + l * 0x20 := by
  simp [Reg.key, hr, hp, instOffset]

@[simp] theorem key_TIME_L_CTRL : R.TIME_L_CTRL.key [l] = 0xf03000 + l * 0x20 := lineKey rfl rfl
@[simp] theorem key_TIME_L_RISE_LO : R.TIME_L_RISE_LO.key [l] = 0xf03004 + l * 0x20 := lineKey rfl rfl
@[simp] theorem key_TIME_L_RISE_HI : R.TIME_L_RISE_HI.key [l] = 0xf03008 + l * 0x20 := lineKey rfl rfl
@[simp] theorem key_TIME_L_FALL_LO : R.TIME_L_FALL_LO.key [l] = 0xf0300c + l * 0x20 := lineKey rfl rfl
@[simp] theorem key_TIME_L_FALL_HI : R.TIME_L_FALL_HI.key [l] = 0xf03010 + l * 0x20 := lineKey rfl rfl
@[simp] theorem key_TIME_L_FRAC : R.TIME_L_FRAC.key [l] = 0xf03014 + l * 0x20 := lineKey rfl rfl
@[simp] theorem key_TIME_L_CNT : R.TIME_L_CNT.key [l] = 0xf03018 + l * 0x20 := lineKey rfl rfl

@[simp] theorem key_LSP_GPIO_IN (b : Nat) : R.LSP_GPIO_IN.key [b] = 0x130600c + b * 0x10 := by simp [Reg.key, R.LSP_GPIO_IN, instOffset]
@[simp] theorem key_TIME_PS_CNT : R.TIME_PS_CNT.key [k] = 0xf04018 + k * 0x40 := by simp [Reg.key, R.TIME_PS_CNT, instOffset]

/-! An edge that a generator drives. -/

/-- What the driving of a line changes; edges are only added. -/
structure State.Drives (s t : State) : Prop where
  frame : t = { s with regs := t.regs, out := t.out }
  regs : RegFile.ChangedIn (fun k => 0x130600c ≤ k) s.regs t.regs
  out : s.out <+: t.out

namespace State.Drives

theorem refl : s.Drives s := ⟨rfl, .refl, List.prefix_rfl⟩

theorem trans (h₁ : s.Drives t) (h₂ : t.Drives u) : s.Drives u where
  frame := calc
    u = { t with regs := u.regs, out := u.out } := h₂.frame
    _ = { s with regs := u.regs, out := u.out } := by rw [h₁.frame]
  regs := h₁.regs.trans h₂.regs
  out := h₁.out.trans h₂.out

theorem lineSrc (h : s.Drives t) (hl : l < 48) : t.get Fl.TIME_L_CTRL_src [l] = s.get Fl.TIME_L_CTRL_src [l] :=
  State.get_of_changedIn h.regs (show ¬0x130600c ≤ R.TIME_L_CTRL.key [l] by rw [key_TIME_L_CTRL]; omega)

theorem lineOut (h : s.Drives t) : t.lineOut l = s.lineOut l := by
  rw [State.lineOut, State.lineOut, h.frame]

end State.Drives

/-- An edge of the source of an output line goes out. -/
theorem State.driveLine_out (hsrc : s.get Fl.TIME_L_CTRL_src [l] = src) (hout : s.lineOut l = true) :
    (s.driveLine l src level w).out = s.out ++ [.line l level w] := by
  rw [State.driveLine, if_pos hsrc, if_pos hout]
  rfl

theorem State.driveLine_drives (hsrc : s.get Fl.TIME_L_CTRL_src [l] = src) : s.Drives (s.driveLine l src level w) := by
  rw [State.driveLine, if_pos hsrc]
  split
  · refine ⟨rfl, RegFile.ChangedIn.refl.put ?_, List.prefix_append ..⟩
    show 0x130600c ≤ R.LSP_GPIO_IN.key [l / 8]
    rw [key_LSP_GPIO_IN]
    omega
  · exact .refl

/-- Line `l` follows pulse scheduler `k` if it is its source. -/
def State.psLine (k : Nat) (level : Bool) (time : Nat) (s : State) (l : Nat) : State :=
  if s.get Fl.TIME_L_CTRL_src [l] = 9 + k then s.driveLine l (9 + k) level time else s

theorem State.psLine_drives : s.Drives (s.psLine k level w l) := by
  unfold State.psLine
  split
  · exact State.driveLine_drives ‹_›
  · exact .refl

theorem State.psLines_drives : s.Drives (ls.foldl (State.psLine k level w) s) :=
  List.foldlRecOn ls _ (motive := s.Drives) .refl fun _ hu _ _ => hu.trans State.psLine_drives

theorem State.psLines_out (hl : l < 48) (hmem : l ∈ ls) (hsrc : s.get Fl.TIME_L_CTRL_src [l] = 9 + k) (hout : s.lineOut l = true) :
    Out.line l level w ∈ (ls.foldl (State.psLine k level w) s).out := by
  induction ls generalizing s with
  | nil => exact absurd hmem List.not_mem_nil
  | cons m ls ih =>
    have hfirst : s.Drives (s.psLine k level w m) := State.psLine_drives
    rcases List.mem_cons.mp hmem with rfl | hmem
    · have hedge : (s.psLine k level w l).out = s.out ++ [.line l level w] := by
        rw [State.psLine, if_pos hsrc]
        exact State.driveLine_out hsrc hout
      rw [List.foldl_cons]
      refine State.psLines_drives.out.subset ?_
      rw [hedge]
      exact List.mem_append_right _ (List.mem_singleton_self _)
    · exact ih hmem ((hfirst.lineSrc hl).trans hsrc) (hfirst.lineOut.trans hout)

/-- Every line whose source is the pulse scheduler follows it. -/
theorem State.drivePs_out (hl : l < 48) (hsrc : s.get Fl.TIME_L_CTRL_src [l] = 9 + k) (hout : s.lineOut l = true) :
    Out.line l level w ∈ (s.drivePs k level w).out := State.psLines_out hl (List.mem_range.mpr hl) hsrc hout

theorem State.drivePs_drives : s.Drives (s.drivePs k level w) := State.psLines_drives

/-! The instant of an edge. -/

theorem State.elapsed_reachEdge : s.Elapsed (s.reachEdge c x) := by
  unfold State.reachEdge
  split
  · exact State.elapsed_reach
  · exact .refl

theorem State.Elapsed.sgs (h : s.Elapsed t) : t.sgs = s.sgs := by rw [h.frame]
theorem State.Elapsed.pss (h : s.Elapsed t) : t.pss = s.pss := by rw [h.frame]
theorem State.Elapsed.out (h : s.Elapsed t) : t.out = s.out := by rw [h.frame]

theorem State.Elapsed.lineSrc (h : s.Elapsed t) : t.get Fl.TIME_L_CTRL_src [l] = s.get Fl.TIME_L_CTRL_src [l] :=
  State.get_of_changedIn h.regs (not_hoursKeys (show 0x80000 ≤ R.TIME_L_CTRL.key [l] by rw [key_TIME_L_CTRL]; omega))

theorem State.Elapsed.lineOut (h : s.Elapsed t) : t.lineOut l = s.lineOut l := by rw [State.lineOut, State.lineOut, h.graph]

/-! The generator's own state. -/

theorem State.sg_modSg (h : g < s.sgs.length) : (s.modSg g f).sg g = f (s.sg g) := getD_modNth_same h

theorem pulseOn_idle (hw : w ≠ 0) (hon : x.on = none) : x.pulseOn at_ l level w = some (at_, l, level) := by
  rw [Gen.pulseOn, if_neg hw, hon]
  simp

theorem State.sgMissed_frame : s.sgMissed g n v = { s with regs := (s.sgMissed g n v).regs, limited := (s.sgMissed g n v).limited } := by
  unfold State.sgMissed
  split <;> rfl

/-- The check of a generator keeps its edges apart from the edge to come and the pulse that is on. -/
theorem State.sgKeep_still (h : g < s.sgs.length) : ((s.sgKeep g at_ w).sg g).on = (s.sg g).on ∧
    ((s.sgKeep g at_ w).sg g).next = (s.sg g).next ∧ (s.sgKeep g at_ w).out = s.out := by
  unfold State.sgKeep
  extract_lets kept
  split
  · exact ⟨rfl, rfl, rfl⟩
  split
  · rw [State.sg_modSg h]
    exact ⟨rfl, rfl, rfl⟩
  · rw [State.sgMissed_frame]
    change ((State.sg (s.modSg g _) g).on = _ ∧ (State.sg (s.modSg g _) g).next = _ ∧ _)
    rw [State.sg_modSg h]
    exact ⟨rfl, rfl, rfl⟩

/-- The edge goes out and is kept for the check; the generator's own state stands. -/
theorem State.sgDriven (hg : g < s.sgs.length) (hsrc : s.get Fl.TIME_L_CTRL_src [l] = 1 + g) (hout : s.lineOut l = true) :
    (((s.driveLine l (1 + g) level v).sgKeep g at_ w).sg g).on = (s.sg g).on ∧
      (((s.driveLine l (1 + g) level v).sgKeep g at_ w).sg g).next = (s.sg g).next ∧
      Out.line l level v ∈ ((s.driveLine l (1 + g) level v).sgKeep g at_ w).out := by
  have hedge : (s.driveLine l (1 + g) level v).out = s.out ++ [.line l level v] := State.driveLine_out hsrc hout
  have hframe := (State.driveLine_drives (level := level) (w := v) hsrc).frame
  generalize s.driveLine l (1 + g) level v = u at hedge hframe
  have hsg : u.sg g = s.sg g := by
    rw [hframe]
    rfl
  obtain ⟨hon, hnext, hkept⟩ := State.sgKeep_still (s := u) (at_ := at_) (w := w) (show g < u.sgs.length by rwa [hframe])
  refine ⟨hon.trans (congrArg Gen.on hsg), hnext.trans (congrArg Gen.next hsg), ?_⟩
  rw [hkept, hedge]
  exact List.mem_append_right _ (List.mem_singleton_self _)

/-- What an edge of number `k` leaves of its generator. -/
def Gen.fell (c : GenCfg) (k at_ line : Nat) (x : Gen) : Gen :=
  { x with next := if c.mode = 1 then some (k + 1) else none, on := x.pulseOn at_ line c.activeLow (State.pulseWidth c) }

theorem execSgEdge_due (hg : g < 8) (hu : s.reachEdge (s.sgCfg g) (s.sg g) = u) (hdue : u.dueEdge (s.sgCfg g) (u.sg g) = some (k, 0))
    (hw : State.pulseWidth (s.sgCfg g) ≠ 0) : execSgEdge g s = .next (((u.modSg g (Gen.fell (s.sgCfg g) k
      (u.time.clk + State.pulseWidth (s.sgCfg g)) (s.sgCfg g).line)).driveLine (s.sgCfg g).line (1 + g) (!(s.sgCfg g).activeLow)
        (u.pinTime u.dt)).sgKeep g u.dt (State.pulseWidth (s.sgCfg g))) := by
  subst hu
  unfold execSgEdge
  rw [if_pos hg]
  extract_lets c u
  have hdue' : u.dueEdge c (u.sg g) = some (k, 0) := hdue
  rw [hdue']
  dsimp only
  rw [if_pos rfl, if_neg hw]
  rfl

theorem State.psEdge_due (hk : k < 4) (hu : s.reachEdge (s.psCfg k) (s.pss.getD k Gen.init) = u)
    (hdue : u.dueEdge (s.psCfg k) (u.pss.getD k Gen.init) = some (n, 0)) (hw : State.pulseWidth (s.psCfg k) ≠ 0) :
    s.psEdge k = ((u.modPs k (Gen.fell (s.psCfg k) n (u.time.clk + State.pulseWidth (s.psCfg k)) 0)).inc Fl.TIME_PS_CNT_emitted [k]).drivePs k
      (!(s.psCfg k).activeLow) (u.pinTime u.dt) := by
  subst hu
  unfold State.psEdge
  rw [if_neg (by omega)]
  extract_lets c u
  have hdue' : u.dueEdge c (u.pss.getD k Gen.init) = some (n, 0) := hdue
  rw [hdue']
  dsimp only
  rw [if_pos rfl, if_neg hw]
  rfl

/-! An edge of an input line. -/

/-- GPIO_IN shows the level of line `l`. -/
def State.edgeShown (s : State) (l : Nat) (up : Bool) : State :=
  s.put Fl.LSP_GPIO_IN_lines [l / 8] (putBits (s.get Fl.LSP_GPIO_IN_lines [l / 8]) (l % 8) (l % 8) (b2n up))

/-- A captured edge's time-stamp. -/
def State.edgeStamped (s : State) (l : Nat) (up : Bool) (t : Nat × Nat) : State :=
  if up then (s.wr64 R.TIME_L_RISE_LO R.TIME_L_RISE_HI [l] t.1).wr R.TIME_L_FRAC [l] (putBits (s.rd R.TIME_L_FRAC [l]) 13 8 t.2)
  else (s.wr64 R.TIME_L_FALL_LO R.TIME_L_FALL_HI [l] t.1).wr R.TIME_L_FRAC [l] (putBits (s.rd R.TIME_L_FRAC [l]) 5 0 t.2)

/-- The record of a captured edge. -/
def State.edgeReported (s : State) (l : Nat) (up : Bool) (frac : Nat) : State :=
  if s.flag Fl.TIME_L_CTRL_ev_en [l] then s.ev 0x00E5 srcTIME l (b2n (!up) + 256 * frac + 2 ^ 32 * s.rd R.TIME_L_CNT [l]) else s

/-- The time of an edge at the pin. -/
def State.edgeTime (s : State) : Nat × Nat := State.in64ths (s.dtFine - signed 32 (s.rd R.TIME_PIN_IN) * (2 ^ 26 : Nat)).toNat

/-- A captured edge, before ring capture sees it. -/
def State.edgeTaken (s : State) (l : Nat) (up : Bool) (t : Nat × Nat) : State :=
  (((s.edgeShown l up).edgeStamped l up t).inc Fl.TIME_L_CNT_count [l]).edgeReported l up t.2

theorem State.edgeShown_changedIn {K : Nat → Prop} (hK : K (R.LSP_GPIO_IN.key [l / 8])) :
    RegFile.ChangedIn K s.regs (s.edgeShown l up).regs := RegFile.ChangedIn.refl.put (d := Fl.LSP_GPIO_IN_lines) hK

theorem State.trigEdge_captured (hl : l < 48) (hon : s.graph.portOn 0x11 (l / 8) = true) (hwide : 2 * s.get Fl.TIME_L_CTRL_filt [l] ≤ w)
    (hsel : bit (s.get Fl.TIME_L_CTRL_edge [l]) (if up then 0 else 1) = true) :
    s.trigEdge l up w = (s.edgeTaken l up s.edgeTime).capLineTrigger l up s.edgeTime.1 := by
  have hshown : (s.edgeShown l up).get Fl.TIME_L_CTRL_edge [l] = s.get Fl.TIME_L_CTRL_edge [l] :=
    State.get_of_changedIn (State.edgeShown_changedIn (K := (0x1000000 ≤ ·)) (by rw [key_LSP_GPIO_IN]; omega))
      (show ¬0x1000000 ≤ R.TIME_L_CTRL.key [l] by rw [key_TIME_L_CTRL]; omega)
  unfold State.trigEdge
  rw [if_neg (by simp [hon]; omega)]
  extract_lets t shown sel old stamped counted taken
  have hsel' : sel = true := (congrArg (bit · (if up then 0 else 1)) hshown).trans hsel
  have htaken : taken = s.edgeTaken l up s.edgeTime := if_pos hsel'
  rw [htaken]
  rfl

theorem State.capLineTrigger_regs : RegFile.ChangedIn (Keys 0x500000 0x508000) s.regs (s.capLineTrigger l up w).regs := by
  refine RegFile.ChangedIn.foldl fun p hp u => ?_
  dsimp only
  split
  · exact State.captures_trigger.regs.mono fun k hk => by
      have := List.mem_range.mp hp
      simp only [CapKeys, keys_iff] at hk ⊢
      omega
  · exact .refl

theorem State.capLineTrigger_raised : s.raised <+: (s.capLineTrigger l up w).raised := by
  refine List.foldlRecOn (List.range 8) _ (motive := fun u : State => s.raised <+: u.raised) List.prefix_rfl fun u hu p _ => ?_
  dsimp only
  split
  · exact hu.trans State.captures_trigger.raised
  · exact hu

theorem bit_putBits_same {i : Nat} (hi : i < 8) : bit (putBits v i i (b2n up) % 2 ^ 8) i = up := by
  have hbits : bits (putBits v i i (b2n up)) i i = b2n up := by
    rw [bits_putBits_same (Nat.le_refl i), Nat.add_sub_cancel_left]
    cases up <;> rfl
  rw [bit_eq_testBit, Nat.testBit_mod_two_pow, decide_eq_true hi, Bool.true_and, ← bit_eq_testBit, bit]
  rw [bits, Nat.add_sub_cancel_left, pow_one] at hbits
  rw [hbits]
  cases up <;> rfl

theorem State.edgeShown_line (hr : rising s.regs = true) : bit ((s.edgeShown l up).get Fl.LSP_GPIO_IN_lines [l / 8]) (l % 8) = up := by
  rw [State.edgeShown, State.get_put_same hr (by decide) (by decide)]
  exact bit_putBits_same (Nat.mod_lt _ (by decide))

theorem State.edgeStamped_changedIn : RegFile.ChangedIn (Keys (0xf03004 + l * 0x20) (0xf03018 + l * 0x20)) s.regs
    (s.edgeStamped l up (v, w)).regs := by
  have hfrac : Keys (0xf03004 + l * 0x20) (0xf03018 + l * 0x20) (R.TIME_L_FRAC.key [l]) := by simp
  unfold State.edgeStamped
  split
  · exact (State.wr64_changedIn (by simp) (by simp)).wr hfrac
  · exact (State.wr64_changedIn (by simp) (by simp)).wr hfrac

theorem State.edgeStamped_time (hr : rising s.regs = true) (hv : v < 2 ^ 64) : (if up then
      (s.edgeStamped l up (v, w)).rd64 R.TIME_L_RISE_LO R.TIME_L_RISE_HI [l]
    else (s.edgeStamped l up (v, w)).rd64 R.TIME_L_FALL_LO R.TIME_L_FALL_HI [l]) = v := by
  cases up with
  | true =>
    refine (State.rd64_of_changedIn (RegFile.ChangedIn.refl.wr (K := (· = R.TIME_L_FRAC.key [l])) rfl) (by simp) (by simp)).trans ?_
    exact State.rd64_wr64 hr (by simp) hv
  | false =>
    refine (State.rd64_of_changedIn (RegFile.ChangedIn.refl.wr (K := (· = R.TIME_L_FRAC.key [l])) rfl) (by simp) (by simp)).trans ?_
    exact State.rd64_wr64 hr (by simp) hv

theorem State.edgeReported_regs : (s.edgeReported l up w).regs = s.regs := by
  unfold State.edgeReported
  split
  · exact State.ev_regs ..
  · rfl

theorem State.edgeReported_record (h : s.flag Fl.TIME_L_CTRL_ev_en [l] = true) :
    ∃ e ∈ (s.edgeReported l up w).raised, e.typ = 0x00E5 ∧ e.src = srcTIME ∧ e.inst = l := by
  rw [State.edgeReported, if_pos h]
  exact ⟨_, List.mem_append_right _ (List.mem_singleton_self _), rfl, rfl, rfl⟩

theorem State.edgeTaken_line (hr : rising s.regs = true) (hl : l < 48) :
    bit ((s.edgeTaken l up (v, w)).get Fl.LSP_GPIO_IN_lines [l / 8]) (l % 8) = up := by
  have hrest : RegFile.ChangedIn (· < 0x1000000) (s.edgeShown l up).regs (s.edgeTaken l up (v, w)).regs := by
    rw [State.edgeTaken, State.edgeReported_regs]
    refine (State.edgeStamped_changedIn.mono fun k hk => ?_).trans (State.inc_changedIn ?_)
    · simp only [keys_iff] at hk
      omega
    · show R.TIME_L_CNT.key [l] < 0x1000000
      rw [key_TIME_L_CNT]
      omega
  rw [State.get_of_changedIn hrest (show ¬R.LSP_GPIO_IN.key [l / 8] < 0x1000000 by rw [key_LSP_GPIO_IN]; omega)]
  exact State.edgeShown_line hr

/-- Up to its count, a captured edge leaves its line's settings and its count. -/
theorem State.edgeStamped_shown_changedIn (hl : l < 48) :
    RegFile.ChangedIn (fun k => 0xf03000 + l * 0x20 < k ∧ k ≠ R.TIME_L_CNT.key [l]) s.regs
      ((s.edgeShown l up).edgeStamped l up (v, w)).regs := by
  refine (State.edgeShown_changedIn ?_).trans (State.edgeStamped_changedIn.mono fun k hk => ?_)
  · rw [key_LSP_GPIO_IN, key_TIME_L_CNT]
    omega
  · simp only [keys_iff] at hk
    rw [key_TIME_L_CNT]
    omega

theorem State.edgeTaken_count (hr : rising s.regs = true) (hl : l < 48) :
    (s.edgeTaken l up (v, w)).get Fl.TIME_L_CNT_count [l] = (s.get Fl.TIME_L_CNT_count [l] + 1) % 2 ^ 32 := by
  have hstamped := State.edgeStamped_shown_changedIn (s := s) (up := up) (v := v) (w := w) hl
  rw [State.edgeTaken, State.get_congr State.edgeReported_regs,
    State.get_inc_same (hstamped.rising hr) (by decide) (by decide) (by decide), State.get_of_changedIn hstamped fun h => h.2 rfl]
  rfl

theorem State.edgeTaken_time (hr : rising s.regs = true) (hv : v < 2 ^ 64) : (if up then
      (s.edgeTaken l up (v, w)).rd64 R.TIME_L_RISE_LO R.TIME_L_RISE_HI [l]
    else (s.edgeTaken l up (v, w)).rd64 R.TIME_L_FALL_LO R.TIME_L_FALL_HI [l]) = v := by
  have hrest : RegFile.ChangedIn (· = R.TIME_L_CNT.key [l]) ((s.edgeShown l up).edgeStamped l up (v, w)).regs
      (s.edgeTaken l up (v, w)).regs := by
    rw [State.edgeTaken, State.edgeReported_regs]
    exact State.inc_changedIn rfl
  rw [State.rd64_of_changedIn hrest (by simp) (by simp), State.rd64_of_changedIn hrest (by simp) (by simp)]
  exact State.edgeStamped_time (State.rising_put hr) hv

theorem State.edgeTaken_record (hl : l < 48) (h : s.flag Fl.TIME_L_CTRL_ev_en [l] = true) :
    ∃ e ∈ (s.edgeTaken l up (v, w)).raised, e.typ = 0x00E5 ∧ e.src = srcTIME ∧ e.inst = l := by
  have hstamped := State.edgeStamped_shown_changedIn (s := s) (up := up) (v := v) (w := w) hl
  refine State.edgeReported_record ?_
  rw [State.flag_of_changedIn (State.inc_changedIn (K := (· = R.TIME_L_CNT.key [l])) rfl) (show R.TIME_L_CTRL.key [l] ≠ _ by simp),
    State.flag_of_changedIn hstamped fun hk => absurd hk.1 (show ¬_ < R.TIME_L_CTRL.key [l] by simp)]
  exact h

end

/-- Settles O28: an edge of a generator goes out on its line and its pulse ends there; an edge that comes in shows and is captured. -/
theorem generatorsAndTriggers : Obligations.GeneratorsAndTriggers := by
  refine ⟨⟨?_, ?_, ?_, ?_⟩, ?_, ?_⟩
  · intro g k s hg hshape hr c u hdue hw hl hsrc hout hon
    have hwait : s.Elapsed u := State.elapsed_reachEdge
    have hlen : g < u.sgs.length := by rwa [hwait.sgs, hshape.sgs]
    have hexec := execSgEdge_due hg rfl hdue hw
    have hfell : (u.modSg g (Gen.fell c k (u.time.clk + State.pulseWidth c) c.line)).sg g = _ := State.sg_modSg hlen
    obtain ⟨hon', hnext, hedge⟩ := State.sgDriven (s := u.modSg g (Gen.fell c k (u.time.clk + State.pulseWidth c) c.line))
      (level := !c.activeLow) (v := u.pinTime u.dt) (at_ := u.dt) (w := State.pulseWidth c) (by simpa [modNth] using hlen) hsrc hout
    refine ⟨_, hexec, hon'.trans ?_, hnext.trans ?_, hedge⟩
    · rw [hfell]
      exact pulseOn_idle hw hon
    · rw [hfell]
      rfl
  · intro g at_ l low s hg hshape hr hon hl hsrc hout u
    have hwait : s.Elapsed u := State.elapsed_reachClk
    have hlen : g < u.sgs.length := by rwa [hwait.sgs, hshape.sgs]
    have hsrc' : (u.modSg g fun x => { x with on := none }).get Fl.TIME_L_CTRL_src [l] = 1 + g := hwait.lineSrc.trans hsrc
    have hout' : (u.modSg g fun x => { x with on := none }).lineOut l = true := hwait.lineOut.trans hout
    have hedge := State.driveLine_out (level := low) (w := u.pinTime u.dt) hsrc' hout'
    have hframe := (State.driveLine_drives (level := low) (w := u.pinTime u.dt) hsrc').frame
    refine ⟨(u.modSg g fun x => { x with on := none }).driveLine l (1 + g) low (u.pinTime u.dt), ?_, ?_, ?_, ?_, ?_⟩
    · rw [exec_sgPulseEnd, execSgPulseEnd, if_pos hg, hon]
    · rw [hframe]
      exact congrArg Gen.on (State.sg_modSg (f := fun x => { x with on := none }) hlen)
    · rw [hframe]
      exact State.le_clk_reachClk
    · rw [hedge, ← hwait.out]
      rfl
    · rw [hframe]
      rfl
  · intro k j l s hk hshape hr c u hdue hw hl hsrc hout hon
    have hwait : s.Elapsed u := State.elapsed_reachEdge
    have hlen : k < u.pss.length := by rwa [hwait.pss, hshape.pss]
    have hedge := State.psEdge_due hk rfl hdue hw
    generalize hf : Gen.fell c j (u.time.clk + State.pulseWidth c) 0 = f at hedge
    have hsrc' : ((u.modPs k f).inc Fl.TIME_PS_CNT_emitted [k]).get Fl.TIME_L_CTRL_src [l] = 9 + k := by
      refine Eq.trans (State.get_put_ne ?_) hsrc
      show R.TIME_PS_CNT.key [k] ≠ R.TIME_L_CTRL.key [l]
      rw [key_TIME_PS_CNT, key_TIME_L_CTRL]
      omega
    have hdrives := State.drivePs_drives (s := (u.modPs k f).inc Fl.TIME_PS_CNT_emitted [k]) (k := k) (level := !c.activeLow) (w := u.pinTime u.dt)
    refine ⟨((u.modPs k f).inc Fl.TIME_PS_CNT_emitted [k]).drivePs k (!c.activeLow) (u.pinTime u.dt), ?_, ?_, ?_,
      State.drivePs_out hl hsrc' hout⟩
    · rw [exec_pulseSchedulerEdge, execPulseSchedulerEdge]
      exact congrArg _ hedge
    · rw [hdrives.frame]
      refine (congrArg Gen.on (getD_modNth_same hlen)).trans ?_
      rw [← hf]
      exact pulseOn_idle hw hon
    · rw [State.get_of_changedIn hdrives.regs (show ¬0x130600c ≤ R.TIME_PS_CNT.key [k] by rw [key_TIME_PS_CNT]; omega)]
      exact State.get_inc_same (s := u.modPs k f) (hwait.regs.rising hr) (by decide) (by decide) (by decide)
  · intro k at_ l m low s hk hshape hr hon hl hsrc hout u
    have hwait : s.Elapsed u := State.elapsed_reachClk
    have hlen : k < u.pss.length := by rwa [hwait.pss, hshape.pss]
    have hdrives := State.drivePs_drives (s := u.modPs k fun x => { x with on := none }) (k := k) (level := low) (w := u.pinTime u.dt)
    have hedge := State.drivePs_out (s := u.modPs k fun x => { x with on := none }) (level := low) (w := u.pinTime u.dt) hl
      (hwait.lineSrc.trans hsrc) (hwait.lineOut.trans hout)
    refine ⟨(u.modPs k fun x => { x with on := none }).drivePs k low (u.pinTime u.dt), ?_, ?_, ?_, hedge, ?_⟩
    · rw [exec_scheduledPulseEnd, execScheduledPulseEnd, State.psEnd, hon]
    · rw [hdrives.frame]
      exact congrArg Gen.on (getD_modNth_same (g := fun x => { x with on := none }) hlen)
    · rw [hdrives.frame]
      exact State.le_clk_reachClk
    · rw [hdrives.frame]
      rfl
  · intro l width up s hl hr hon hwide hsel
    have hcap := State.capLineTrigger_regs (s := s.edgeTaken l up s.edgeTime) (l := l) (up := up) (w := s.edgeTime.1)
    have hraised := State.capLineTrigger_raised (s := s.edgeTaken l up s.edgeTime) (l := l) (up := up) (w := s.edgeTime.1)
    refine ⟨(s.edgeTaken l up s.edgeTime).capLineTrigger l up s.edgeTime.1, ?_, ?_, ?_, ?_, fun hev => ?_⟩
    · rw [exec_triggerEdge, execTriggerEdge, State.trigEdge_captured hl hon hwide hsel]
    · rw [State.get_of_changedIn hcap (show ¬Keys _ _ (R.LSP_GPIO_IN.key [l / 8]) by simp; omega)]
      exact State.edgeTaken_line hr hl
    · rw [State.get_of_changedIn hcap (show ¬Keys _ _ (R.TIME_L_CNT.key [l]) by simp; omega)]
      exact State.edgeTaken_count hr hl
    · rw [State.rd64_of_changedIn hcap (by simp; omega) (by simp; omega), State.rd64_of_changedIn hcap (by simp; omega) (by simp; omega)]
      exact State.edgeTaken_time hr (State.in64ths_lt _)
    · obtain ⟨e, he, hkind⟩ := State.edgeTaken_record (s := s) (up := up) (v := s.edgeTime.1) (w := s.edgeTime.2) hl hev
      exact ⟨e, hraised.subset he, hkind⟩
  · intro l width up s hshort
    rw [exec_triggerEdge, execTriggerEdge, State.trigEdge, if_pos (by simp [hshort])]

end Sys2Proof.Machine
/-! The statement of spec/06_raw_correction.md: RCT, RCU and DVT tiles work their stripes of a frame and hand them on with it. -/

namespace Sys2Proof.Machine

/-! ### What a tile leaves as it hands a stripe on (R191, R240, R298) -/

/-- What a tile may report: its registers change, and occurrences of rate-limited records come. -/
structure State.Reports (s t : State) : Prop where
  frame : t = { s with regs := t.regs, limited := t.limited }

namespace State.Reports

variable {s t u : State} {d : Fld} {ix : List Nat} {v typ src inst epoch fid payload cls tile p cause : Nat}

theorem refl : Reports s s := ⟨rfl⟩

theorem trans (h₁ : Reports s t) (h₂ : Reports t u) : Reports s u where
  frame := calc
    u = { t with regs := u.regs, limited := u.limited } := h₂.frame
    _ = { s with regs := u.regs, limited := u.limited } := by rw [h₁.frame]

theorem ite {c : Prop} [Decidable c] (ht : Reports s t) (hu : Reports s u) : Reports s (if c then t else u) := by
  split
  · exact ht
  · exact hu

theorem foldl {α : Type} {step : State → α → State} {l : List α} (hs : ∀ w x, Reports w (step w x)) : Reports s (l.foldl step s) :=
  List.foldlRecOn l step (motive := Reports s) refl fun w hw x _ => hw.trans (hs w x)

theorem put (h : Reports s t) : Reports s (t.put d ix v) := h.trans ⟨rfl⟩

theorem inc (h : Reports s t) : Reports s (t.inc d ix v) := h.put

theorem evLimited (h : Reports s t) : Reports s (t.evLimited typ src inst epoch fid payload) := h.trans ⟨rfl⟩

theorem showBusy (h : Reports s t) : Reports s (t.showBusy cls tile) := h.put

theorem rctCalib (h : Reports s t) : Reports s (t.rctCalib tile p epoch fid cause) := by
  unfold State.rctCalib
  exact (ite h.put (ite h.put h.put)).evLimited

theorem dvtTnrErr (h : Reports s t) : Reports s (t.dvtTnrErr tile p epoch fid cause) := h.put.evLimited

theorem frames (h : Reports s t) : t.frames = s.frames := by rw [h.frame]

end State.Reports

section

variable {s t v : State} {u : FlowUnit} {p fid cls tile n e lo hi a : Nat} {f : Frame} {h : Frame → Frame} {b : Bytes}

/-- The frame that a unit holds is one of the frames in flight, and no more of the state says which. -/
theorem State.frameIn_congr (hframes : t.frames = s.frames) : t.frameIn u p fid = s.frameIn u p fid := by
  rw [State.frameIn, hframes, State.frameIn]

theorem State.frameIn_pipe (hin : s.frameIn u p fid = some f) : f.pipe = p := by
  have hf := List.find?_some hin
  simp only [Bool.and_eq_true, decide_eq_true_eq] at hf
  exact hf.1.1

/-- A frame that changes in place stays the one that its unit holds. -/
theorem State.frameIn_modFrame (hin : s.frameIn u p fid = some f) (hpipe : ∀ x, (h x).pipe = x.pipe := by intro; rfl)
    (hfid : ∀ x, (h x).fid = x.fid := by intro; rfl) (hunits : ∀ x, (h x).units = x.units := by intro; rfl) :
    (s.modFrame u p fid h).frameIn u p fid = some (h f) := by
  have hkept : ((fun x : Frame => x.pipe = p && x.fid = fid && x.units.contains u) ∘
      fun x => if x.pipe = p && x.fid = fid && x.units.contains u then h x else x) =
      fun x => x.pipe = p && x.fid = fid && x.units.contains u := by
    funext x
    dsimp only [Function.comp]
    split
    · rw [hpipe, hfid, hunits]
    · rfl
  unfold State.frameIn at hin ⊢
  rw [State.modFrame_frames, List.find?_map, hkept, hin, Option.map_some, if_pos (List.find?_some hin)]

/-- Unit `u` holds frame `g` in `t`, which differs from `s` in the frames in flight and in what its tiles report. -/
structure State.HandsOn (u : FlowUnit) (p fid : Nat) (g : Frame) (s t : State) : Prop where
  held : t.frameIn u p fid = some g
  frame : t = { s with regs := t.regs, frames := t.frames, limited := t.limited }

namespace State.HandsOn

variable {g : Frame}

theorem defStores (hands : HandsOn u p fid g s t) : t.defStores = s.defStores := by rw [hands.frame]

theorem hbm (hands : HandsOn u p fid g s t) : t.hbm = s.hbm := by rw [hands.frame]

theorem undef (hands : HandsOn u p fid g s t) : t.undef = s.undef := by rw [hands.frame]

end State.HandsOn

/-- A tile reports, hands its stripe on with the frame, and reports again. -/
theorem State.Reports.handsOn (hbefore : s.Reports v) (hin : s.frameIn u p fid = some f) (hafter : (v.modFrame u p fid h).Reports t)
    (hpipe : ∀ x, (h x).pipe = x.pipe := by intro; rfl) (hfid : ∀ x, (h x).fid = x.fid := by intro; rfl)
    (hunits : ∀ x, (h x).units = x.units := by intro; rfl) : s.HandsOn u p fid (h f) t where
  held := by
    rw [State.frameIn_congr hafter.frames]
    exact State.frameIn_modFrame ((State.frameIn_congr hbefore.frames).trans hin) hpipe hfid hunits
  frame := calc
    t = { v.modFrame u p fid h with regs := t.regs, limited := t.limited } := hafter.frame
    _ = { v with regs := t.regs, frames := (v.modFrame u p fid h).frames, limited := t.limited } := rfl
    _ = { v with regs := t.regs, frames := t.frames, limited := t.limited } := by rw [← hafter.frames]
    _ = { s with regs := t.regs, frames := t.frames, limited := t.limited } := by rw [hbefore.frame]

/-- A stripe that nothing has spoilt draws no free values. -/
theorem State.spoiltDone_sound (hsound : s.stripeSpoilt cls tile fid = false) : s.spoiltDone cls tile fid n = s :=
  if_neg (Bool.eq_false_iff.mp hsound)

/-- Of the state, the map of a tile changes the stores alone (R212). -/
theorem State.tileMap_frame : (s.tileMap p e tile lo hi).1 = { s with defStores := (s.tileMap p e tile lo hi).1.defStores } := by
  unfold State.tileMap
  split <;> rfl

/-! ### An RCT tile corrects its stripe (R192, R199, R212) -/

/-- The columns of an RCT tile's stripe (R192): the first, and the one past the last. -/
def State.stripeColumns (s : State) (p tile : Nat) (f : Frame) : Nat × Nat :=
  let k := ((s.workers f.epoch p 1).takeWhile fun m => m ≠ tile).length
  let ws := stripeWidth f.width (s.workers f.epoch p 1).length
  (min (k * ws) f.width, min ((k + 1) * ws) f.width)

/-- The map as the tile has it for its stripe and overlap of the frame. -/
def State.stripeMap (s : State) (p tile : Nat) (f : Frame) (r : StreamRec) : State × List Defect × Bool × Nat :=
  let c := s.rctSet p f.epoch r.exposures
  let x := s.stripeColumns p tile f
  s.tileMap p f.epoch tile (x.1 - (c.p + 1)) (min (x.2 + c.p + 1) f.width)

/-- The words and the counts of its stripe. -/
def State.stripeOut (s : State) (p tile : Nat) (f : Frame) (r : StreamRec) (base : Nat) : List (Nat × Nat) × List Nat :=
  let x := s.stripeColumns p tile f
  (s.stripeMap p tile f r).1.stripeWords (s.rctSet p f.epoch r.exposures) (State.Ctx.decode (s.hbmRead (base + 0x400) 304))
    (s.stripeMap p tile f r).2.1 f r base x.1 x.2

/-- The frame with a corrected stripe, whose calibration failed for `causes`. -/
def Frame.corrected (tile fid : Nat) (out : List (Nat × Nat) × List Nat) (causes : List Nat) (x : Frame) : Frame :=
  { x with
    words := x.words ++ out.1, stats := x.stats ++ [(tile, out.2)], owes := x.owes.filter fun o => o ≠ (1, tile)
    results := x.results ++ State.lastFid .rct R.RCT_LASTFID_LO R.RCT_LASTFID_HI tile fid
    fsw := if causes.isEmpty then x.fsw else if causes = [3] then x.fsw else setBit x.fsw 26 }

/-- The stripe stands in the frame; which causes of R215 the tile met shows in the status word alone. -/
theorem State.rctFrame_handsOn {r : StreamRec} {base : Nat} (hwork : s.tileWork .rct 1 tile fid = some p)
    (hin : s.frameIn .rct p fid = some f) (hentered : f.entered.contains .rct = true) (howes : f.owes.contains (1, tile) = true)
    (htakes : s.rctTakes f tile = true) (hreplay : s.replaying 1 tile fid = false) (hsound : s.stripeSpoilt 1 tile fid = false)
    (hslot : s.slotAddr f.epoch p f.slot = some (r, base)) : ∃ causes,
    (s.stripeMap p tile f r).1.HandsOn .rct p fid (f.corrected tile fid (s.stripeOut p tile f r base) causes)
      (s.rctFrame tile tile fid) := by
  have hmap : (s.stripeMap p tile f r).1 = { s with defStores := (s.stripeMap p tile f r).1.defStores } := State.tileMap_frame
  have hmapIn : (s.stripeMap p tile f r).1.frameIn .rct p fid = some f := by rw [hmap]; exact hin
  have hmapSound : (s.stripeMap p tile f r).1.stripeSpoilt 1 tile fid = false := by rw [hmap]; exact hsound
  unfold State.rctFrame
  rw [hwork]
  dsimp -zeta only
  rw [hin]
  dsimp -zeta only
  rw [if_neg (by simp [htakes, hreplay]), hslot]
  dsimp -zeta only
  extract_lets c ctxAt s1 x
  have hs1 : s1 = s := if_pos hentered
  clear_value s1
  subst hs1
  rw [hin]
  dsimp -zeta only
  rw [if_neg (by rw [howes]; decide)]
  extract_lets tiles ws k x0 x1 lo hi d s2 out bad words s3 causes s4 s5 s6
  have hbad : bad = false := hmapSound
  have hs3 : s3 = s2 := State.spoiltDone_sound hmapSound
  have hwords : words = out.1 := if_neg (Bool.eq_false_iff.mp hbad)
  have hcalib : s2.Reports s4 := by
    rw [← hs3]
    exact .foldl fun _ _ => State.Reports.refl.rctCalib
  have hshown : s5.Reports s6 := State.Reports.refl.showBusy.showBusy
  refine ⟨causes, ?_⟩
  have hcorrected : s5 = s4.modFrame .rct p fid (Frame.corrected tile fid out causes) := by
    unfold s5
    rw [hwords]
    rfl
  exact hcalib.handsOn hmapIn (hcorrected ▸ .ite hshown.evLimited hshown)

/-! ### An RCU tile codes its part (R240, R241, R242) -/

/-- A coded frame is not done while a stripe of it is owed (R242). -/
theorem State.rcuDone_of_owed (hin : s.frameIn .rcu p fid = some f) (howed : ∃ o ∈ f.owes, o.1 = 2) : s.rcuDone p fid = s := by
  have hopen : State.tilesDone f .rcu 2 = false := by
    obtain ⟨o, ho, hcls⟩ := howed
    rw [State.tilesDone, Bool.and_eq_false_iff]
    exact .inr (List.all_eq_false.mpr ⟨o, ho, by simp [hcls]⟩)
  rw [State.rcuDone, hin]
  exact if_pos (by simp [hopen])

/-- The tiles of a frame that the RCU tile codes, with their places. -/
def State.codedPart (s : State) (p tile : Nat) (f : Frame) : List (Nat × Bytes) :=
  let c := State.rcuCols f.width (s.workers f.epoch p 2).length
  let k := ((s.workers f.epoch p 2).takeWhile fun m => m ≠ tile).length
  let tc := ceilDiv f.width 64
  let arr := f.words.foldl (fun (a : Array Nat) q => a.setIfInBounds (q.1 / 65536 * f.width + q.1 % 65536) q.2)
    (Array.replicate (f.width * f.height) 0)
  (List.range (ceilDiv f.height 64)).flatMap fun ty => (s.codeRow f arr (min (k * c) tc) (min ((k + 1) * c) tc) ty).1

/-- The frame with a coded part, its worst certificate and whether a row met its floor. -/
def Frame.codedBy (tile fid : Nat) (part : List (Nat × Bytes)) (cert : Nat) (floor_ : Bool) (x : Frame) : Frame :=
  { x with
    coded := x.coded ++ part, cert := max x.cert cert, owes := x.owes.filter fun o => o ≠ (2, tile)
    fsw := if floor_ then setBit x.fsw fswRateFloor else x.fsw
    results := x.results ++ [(.rcu, R.RCU_LASTCERT.key [tile], BitVec.ofNat 32 cert),
      (.rcu, R.RCU_LASTBYTES.key [tile], BitVec.ofNat 32 (sumOf (fun q => q.2.length) part))]
      ++ State.lastFid .rcu R.RCU_LASTFID_LO R.RCU_LASTFID_HI tile fid }

/-- The part stands in the frame, which waits for the part that another tile still owes. -/
theorem State.rcuFrame_handsOn (hwork : s.tileWork .rcu 2 tile fid = some p) (hin : s.frameIn .rcu p fid = some f)
    (hcap : f.units.contains .cap = true → f.entered.contains .cap = true) (hentered : f.entered.contains .rcu = true)
    (howes : f.owes.contains (2, tile) = true) (hon : s.powered (.rcu tile) = true) (hreplay : s.replaying 2 tile fid = false)
    (hsound : s.stripeSpoilt 2 tile fid = false) (howed : ∃ o ∈ f.owes, o.1 = 2 ∧ o ≠ (2, tile)) : ∃ cert floor_,
    s.HandsOn .rcu p fid (f.codedBy tile fid (s.codedPart p tile f) cert floor_) (s.rcuFrame tile tile fid) := by
  have hentry : s.rcuEnter f = s := if_pos hentered
  unfold State.rcuFrame
  rw [hwork]
  dsimp -zeta only
  rw [hin]
  dsimp -zeta only
  rw [if_neg (by simpa [hon, hreplay] using hcap)]
  extract_lets tiles s1 k bad
  have hs1 : s1 = s := hentry
  clear_value s1
  subst hs1
  rw [hin]
  dsimp -zeta only
  rw [if_neg (by rw [howes]; decide)]
  extract_lets tc c arr rows esc means floor_ cert tilesOut s2 s3 s4 s5 s6
  have hbad : bad = false := hsound
  have hs2 : s2 = s1 := State.spoiltDone_sound hsound
  have hsame : tilesOut = rows.flatMap fun r => r.1 := List.mapIdx_eq_iff.mpr fun i => by simp [hbad]
  have hpart : tilesOut = s1.codedPart p tile f := hsame.trans (List.flatMap_map ..)
  have hcoded : s3 = s1.modFrame .rcu p fid (Frame.codedBy tile fid (s1.codedPart p tile f) cert floor_) := by
    rw [← hpart, ← hs2]
    rfl
  have hcounted : s3.Reports s6 := .ite State.Reports.refl.showBusy.showBusy.inc.inc.evLimited State.Reports.refl.showBusy.showBusy.inc.inc
  have hhands := State.Reports.refl.handsOn hin (hcoded ▸ hcounted)
  refine ⟨cert, floor_, ?_⟩
  rw [State.rcuDone_of_owed hhands.held ?_]
  · exact hhands
  · obtain ⟨o, ho, hcls, hother⟩ := howed
    exact ⟨o, List.mem_filter.mpr ⟨ho, by simpa using hother⟩, hcls⟩

/-! ### A DVT tile develops its stripe (R298, R299, R302) -/

/-- Only the content of HBM changes. -/
structure State.WritesHbm (s t : State) : Prop where
  frame : t = { s with hbm := t.hbm, undef := t.undef }

theorem State.WritesHbm.refl : s.WritesHbm s := ⟨rfl⟩

theorem State.WritesHbm.hbmWrite (hw : s.WritesHbm t) : s.WritesHbm (t.hbmWrite a b) where
  frame := by
    rw [hw.frame, State.hbmWrite]
    split <;> rfl

/-- The frame with a developed stripe. -/
def Frame.developed (tile fid : Nat) (looks : List (Nat × Nat × Nat)) (x : Frame) : Frame :=
  { x with
    looks := x.looks ++ looks, owes := x.owes.filter fun o => o ≠ (3, tile)
    results := x.results ++ State.lastFid .dvt R.DVT_LASTFID_LO R.DVT_LASTFID_HI tile fid }

/-- The stripe stands in the frame; before that, the next reference plane goes to HBM where the frame has one (R306). -/
theorem State.dvtFrame_handsOn {r : StreamRec} (hwork : s.tileWork .dvt 3 tile fid = some p) (hin : s.frameIn .dvt p fid = some f)
    (hstream : (s.graphOf f.epoch).streamOf p = some r) (hcap : f.units.contains .cap = true → f.entered.contains .cap = true)
    (hentered : f.entered.contains .dvt = true) (howes : f.owes.contains (3, tile) = true) (hon : s.powered (.dvt tile) = true)
    (hreplay : s.replaying 3 tile fid = false) (hsound : s.stripeSpoilt 3 tile fid = false) : ∃ w looks,
    s.WritesHbm w ∧ (f.tnrWrite = none → w = s) ∧ (∀ q ∈ looks, q.1 ∈ State.looksOf (s.epochRec f.epoch).graph p) ∧
      w.HandsOn .dvt p fid (f.developed tile fid looks) (s.dvtFrame tile tile fid) := by
  obtain rfl : f.pipe = p := State.frameIn_pipe hin
  unfold State.dvtFrame
  rw [hwork, Option.bind_some, hin]
  dsimp -zeta only
  extract_lets p'
  rw [hstream]
  dsimp -zeta only
  rw [if_neg (by simpa [hon, hreplay] using hcap)]
  extract_lets s1 bad
  have hs1 : s1 = s := if_pos hentered
  clear_value s1
  subst hs1
  rw [hin]
  dsimp -zeta only
  rw [if_neg (by rw [howes]; decide)]
  extract_lets e w h per map tiles k ws x0 x1 model arr word raw tag sat snr refAt vtOf vta vt gra gr rgb m mine ap developed nv out refs
    poison written done reported handed
  have hbad : bad = false := hsound
  have hout : out = developed := if_neg (Bool.eq_false_iff.mp hbad)
  have hwrites : s1.WritesHbm written := by
    unfold written
    split
    · exact List.foldlRecOn refs _ (motive := s1.WritesHbm) .refl fun _ ht _ _ => ht.hbmWrite
    · exact .refl
  have hnone : f.tnrWrite = none → written = s1 := fun htnr => by
    unfold written
    rw [htnr]
  have hwrittenIn : written.frameIn .dvt f.pipe fid = some f := by rw [hwrites.frame]; exact hin
  have hdone : done = written := State.spoiltDone_sound (by rw [hwrites.frame]; exact hsound)
  have hreported : written.Reports reported := hdone ▸ .ite State.Reports.refl.dvtTnrErr .refl
  refine ⟨written, out, hwrites, hnone, fun q hq => ?_, hreported.handsOn hwrittenIn State.Reports.refl.showBusy.showBusy⟩
  rw [hout] at hq
  obtain ⟨l, hl, hq⟩ := List.mem_flatMap.mp hq
  obtain ⟨x, -, rfl⟩ := List.mem_map.mp hq
  exact hl

end

/-- Settles O31: unit by unit, the tile's stripe changes the frame in place, and its reports reach neither the frames nor the memories. -/
theorem tilesWorkTheirStripes : Obligations.TilesWorkTheirStripes := by
  refine ⟨?_, ?_, ?_⟩
  · intro tile p fid base f r s hwork hin hentered howes htakes hreplay hsound hslot c n k x0 x1 d out
    obtain ⟨causes, hhands⟩ := State.rctFrame_handsOn hwork hin hentered howes htakes hreplay hsound hslot
    have hmap : d.1 = { s with defStores := d.1.defStores } := State.tileMap_frame
    refine ⟨_, _, exec_rctFrame .., hhands.held, rfl, rfl, rfl, rfl, rfl, hhands.defStores, ?_⟩
    generalize s.rctFrame tile tile fid = t at hhands ⊢
    calc
      t = { d.1 with regs := t.regs, frames := t.frames, limited := t.limited } := hhands.frame
      _ = { s with regs := t.regs, frames := t.frames, limited := t.limited, defStores := d.1.defStores } := by rw [hmap]
      _ = { s with regs := t.regs, frames := t.frames, limited := t.limited, defStores := t.defStores } := by
        rw [hhands.defStores]
        rfl
  · intro tile p fid f s hwork hin hcap hentered howes hon hreplay hsound howed n k tc arr
    obtain ⟨cert, floor_, hhands⟩ := State.rcuFrame_handsOn hwork hin hcap hentered howes hon hreplay hsound howed
    exact ⟨_, _, exec_rcuFrame .., hhands.held, rfl, rfl, rfl, rfl, hhands.frame⟩
  · intro tile p fid f r s hwork hin hstream hcap hentered howes hon hreplay hsound
    obtain ⟨w, looks, hwrites, hnone, hlooks, hhands⟩ :=
      State.dvtFrame_handsOn hwork hin hstream hcap hentered howes hon hreplay hsound
    refine ⟨_, _, looks, exec_dvtFrame .., hhands.held, rfl, hlooks, rfl, rfl, rfl, fun htnr => ?_, ?_⟩
    · rw [hhands.hbm, hhands.undef, hnone htnr]
      exact ⟨rfl, rfl⟩
    · generalize s.dvtFrame tile tile fid = t at hhands ⊢
      calc
        t = { w with regs := t.regs, frames := t.frames, limited := t.limited } := hhands.frame
        _ = { s with regs := t.regs, frames := t.frames, limited := t.limited, hbm := w.hbm, undef := w.undef } := by
          rw [hwrites.frame]
        _ = { s with regs := t.regs, frames := t.frames, limited := t.limited, hbm := t.hbm, undef := t.undef } := by
          rw [hhands.hbm, hhands.undef]

end Sys2Proof.Machine
/-! The statement of spec/07_raw_coding_capture.md: where CAP sends a frame, the triggers that wait, and the segments' drain, re-issue and
release. -/

namespace Sys2Proof.Machine

/-! ### The registers of CAP (R227 to R239) -/

section

variable {p k : Nat} {r : Reg}

theorem capKey (hr : r.dims = [(8, 0x1000)]) (hp : r.perPipe = false) : r.key [p] = r.off + p * 0x1000 := by
  simp [Reg.key, hr, hp, instOffset]

theorem capSegKey (hr : r.dims = [(8, 0x1000), (0x10, 0x10)]) (hp : r.perPipe = false) :
    r.key [p, k] = r.off + (p * 0x1000 + k * 0x10) := by
  simp [Reg.key, hr, hp, instOffset]

@[simp] theorem key_CAP_MODE : R.CAP_MODE.key [p] = 0x500000 + p * 0x1000 := capKey rfl rfl
@[simp] theorem key_CAP_CYCLE : R.CAP_CYCLE.key [p] = 0x500004 + p * 0x1000 := capKey rfl rfl
@[simp] theorem key_CAP_TRIG : R.CAP_TRIG.key [p] = 0x500020 + p * 0x1000 := capKey rfl rfl
@[simp] theorem key_CAP_TADJ : R.CAP_TADJ.key [p] = 0x500024 + p * 0x1000 := capKey rfl rfl
@[simp] theorem key_CAP_SEGREL : R.CAP_SEGREL.key [p] = 0x500034 + p * 0x1000 := capKey rfl rfl
@[simp] theorem key_CAP_STAT : R.CAP_STAT.key [p] = 0x500038 + p * 0x1000 := capKey rfl rfl
@[simp] theorem key_CAP_SEG_FIRST_LO : R.CAP_SEG_FIRST_LO.key [p, k] = 0x500100 + (p * 0x1000 + k * 0x10) := capSegKey rfl rfl
@[simp] theorem key_CAP_SEG_FIRST_HI : R.CAP_SEG_FIRST_HI.key [p, k] = 0x500104 + (p * 0x1000 + k * 0x10) := capSegKey rfl rfl
@[simp] theorem key_CAP_SEG_INFO : R.CAP_SEG_INFO.key [p, k] = 0x500108 + (p * 0x1000 + k * 0x10) := capSegKey rfl rfl
@[simp] theorem key_CAP_SEG_PRE : R.CAP_SEG_PRE.key [p, k] = 0x50010c + (p * 0x1000 + k * 0x10) := capSegKey rfl rfl

end

section

variable {K : Nat → Prop} {s t : State} {row : RegRow} {ix : List Nat} {p v e : Nat} {d : Fld} {r : Reg} {g : CapSt → CapSt}

theorem State.writeFields_changedIn (hs : row.Sound) : RegFile.ChangedIn (· = row.reg.key ix) s.regs (s.writeFields row ix v).regs :=
  ⟨State.rising_writeFields, fun _ _ hk => State.writeFields_rd_ne hs (Ne.symm hk)⟩

theorem State.cap_modCap (hp : p < s.caps.length) : (s.modCap p g).cap p = g (s.cap p) := getD_modNth_same hp

theorem State.effRd_of_changedIn (h : RegFile.ChangedIn K s.regs t.regs) (he : t.epochs = s.epochs) (hk : ¬K (r.key ix)) :
    t.effRd e r ix = s.effRd e r ix := by
  unfold State.effRd State.epochRec
  rw [he]
  cases s.epochs.find? fun x => x.num = e with
  | none => exact State.rd_of_changedIn h hk
  | some x => rfl

theorem State.pipeEpoch_congr (hpipes : t.pipes = s.pipes) : t.pipeEpoch p = s.pipeEpoch p := by
  rw [State.pipeEpoch, State.pipeSt, hpipes, State.pipeEpoch, State.pipeSt]

theorem State.openSeg_of_changedIn (h : RegFile.ChangedIn K s.regs t.regs) (hk : ∀ k < 16, ¬K (R.CAP_SEG_INFO.key [p, k])) :
    t.openSeg p = s.openSeg p := by
  have hstate : ∀ k ∈ List.range 16, t.segState p k = s.segState p k := fun k hin =>
    State.get_of_changedIn (d := Fl.CAP_SEG_INFO_state) h (hk k (List.mem_range.mp hin))
  exact List.find?_congr fun k hk => by rw [hstate k hk]

end

/-! ### A trigger whose frame is not yet known (R234, R235) -/

/-- The trigger frame of a trigger at time `x` is not yet known: in ring capture no segment is open, no frame stands in the ring or has left
it, and of the boundaries none that could open the trigger frame has been decided. -/
structure State.Awaits (s : State) (p x : Nat) : Prop where
  mode : s.effP p Fl.CAP_MODE_mode [p] = 1
  unopened : s.openSeg p = none
  ring : (s.cap p).ring = []
  gone : (s.cap p).gone = none
  undecided : ∀ b ∈ (s.pipeSt p).bounds, (x : Int) + signed 32 (s.effPRd p R.CAP_TADJ [p]) ≤ (b : Int) → b ∉ (s.cap p).trigSeen

/-- The trigger with its adjusted time joins those that wait. -/
def State.triggerHeld (s : State) (p x : Nat) : State :=
  s.modCap p fun c => { c with trigs := c.trigs ++ [(x, (x : Int) + signed 32 (s.effPRd p R.CAP_TADJ [p]))] }

section

variable {K : Nat → Prop} {s t u : State} {p x v : Nat}

theorem State.Awaits.trigger (h : s.Awaits p x) : s.trigger p x = s.triggerHeld p x := by
  obtain ⟨hmode, hunopened, hring, hgone, hundecided⟩ := h
  unfold State.trigger
  rw [if_neg (by simp [hmode])]
  extract_lets at_ held first passed
  have hheld : held = [] := by simp only [held, hunopened, hring, List.append_nil]
  have hpassed : passed = false := by simp only [passed, hgone]
  have hfirst : first.any (fun b => (s.cap p).trigSeen.contains b) = false := by
    cases hb : first with
    | none => rfl
    | some b =>
      obtain ⟨hmem, hle⟩ := List.mem_filter.mp (List.mem_of_getLast? hb)
      simpa using hundecided b hmem (of_decide_eq_true hle)
  rw [if_neg (Bool.eq_false_iff.mp hfirst), hheld, hpassed]
  rfl

theorem State.cap_triggerHeld (hp : p < s.caps.length) : (s.triggerHeld p x).cap p =
    { s.cap p with trigs := (s.cap p).trigs ++ [(x, (x : Int) + signed 32 (s.effPRd p R.CAP_TADJ [p]))] } := State.cap_modCap hp

theorem State.Awaits.congr {o : Option Nat} (h : s.Awaits p x) (hregs : RegFile.ChangedIn K s.regs t.regs) (hepochs : t.epochs = s.epochs)
    (hpipes : t.pipes = s.pipes) (hcap : t.cap p = { s.cap p with ttimeDone := o }) (hmode : ¬K (R.CAP_MODE.key [p]))
    (htadj : ¬K (R.CAP_TADJ.key [p])) (hseg : ∀ k < 16, ¬K (R.CAP_SEG_INFO.key [p, k])) :
    t.Awaits p x ∧ t.effPRd p R.CAP_TADJ [p] = s.effPRd p R.CAP_TADJ [p] := by
  have hadj : t.effPRd p R.CAP_TADJ [p] = s.effPRd p R.CAP_TADJ [p] := by
    rw [State.effPRd, State.pipeEpoch_congr hpipes, State.effRd_of_changedIn hregs hepochs htadj, State.effPRd]
  refine ⟨⟨?_, (State.openSeg_of_changedIn hregs hseg).trans h.unopened, ?_, ?_, ?_⟩, hadj⟩
  · rw [State.effP, State.pipeEpoch_congr hpipes, State.eff_of_changedIn hregs hepochs hmode]
    exact h.mode
  · rw [hcap]; exact h.ring
  · rw [hcap]; exact h.gone
  · rw [hadj, hcap, State.pipeSt, hpipes]
    exact h.undecided

/-- CAP_TRIG as it is written, before the trigger of `go`. -/
def State.trigWritten (s : State) (p v : Nat) : State :=
  s.writeFields ⟨R.CAP_TRIG, [Fl.CAP_TRIG_edge, Fl.CAP_TRIG_line, Fl.CAP_TRIG_src]⟩ [p] v

theorem State.trigWritten_frame : s.trigWritten p v = { s with regs := (s.trigWritten p v).regs } := State.writeFields_frame

theorem State.trigWritten_changedIn : RegFile.ChangedIn (· = R.CAP_TRIG.key [p]) s.regs (s.trigWritten p v).regs :=
  State.writeFields_changedIn (show RegRow.Sound ⟨R.CAP_TRIG, [Fl.CAP_TRIG_edge, Fl.CAP_TRIG_line, Fl.CAP_TRIG_src]⟩ by decide)

theorem State.trigWritten_dt (hp : p < 8) : (s.trigWritten p v).dt = s.dt :=
  State.dt_of_changedIn State.trigWritten_changedIn (by rw [State.trigWritten_frame])
    (by rw [key_CAP_TRIG]; simp only [Reg.key, R.TIME_DT_STAT, instOffset]; omega)

/-- A software trigger comes at the time at which its write lands. -/
theorem State.capTrig_waits (hp : p < 8) (hgo : bit v 0 = true) (h : s.Awaits p s.dt) :
    s.capTrig p v = (s.trigWritten p v).triggerHeld p s.dt ∧
      (s.trigWritten p v).effPRd p R.CAP_TADJ [p] = s.effPRd p R.CAP_TADJ [p] := by
  obtain ⟨hwaits, hadj⟩ := h.congr (o := (s.cap p).ttimeDone) (t := s.trigWritten p v) State.trigWritten_changedIn
    (by rw [State.trigWritten_frame]) (by rw [State.trigWritten_frame]) (by rw [State.trigWritten_frame]; rfl)
    (by simp) (by simp) (by simp only [key_CAP_SEG_INFO, key_CAP_TRIG]; omega)
  refine ⟨?_, hadj⟩
  calc s.capTrig p v
      = (s.trigWritten p v).trigger p (s.trigWritten p v).dt := if_pos hgo
    _ = (s.trigWritten p v).trigger p s.dt := by rw [State.trigWritten_dt hp]
    _ = (s.trigWritten p v).triggerHeld p s.dt := hwaits.trigger

/-- The TTIME value of a time trigger is noted. -/
def State.ttimeNoted (s : State) (p x : Nat) : State := s.modCap p fun c => { c with ttimeDone := some x }

theorem State.cap_ttimeNoted (hpast : s.Elapsed u) (hp : p < s.caps.length) :
    (u.ttimeNoted p x).cap p = { s.cap p with ttimeDone := some x } := by
  have hcaps : u.caps = s.caps := by rw [hpast.frame]
  rw [State.ttimeNoted, State.cap_modCap (hcaps ▸ hp), State.cap, hcaps, State.cap]

/-- A time trigger comes at its own time, which the clock has reached. -/
theorem State.timeTrigger_waits (hpast : s.Elapsed u) (hp : p < s.caps.length) (h : s.Awaits p x) :
    (u.ttimeNoted p x).trigger p x = (u.ttimeNoted p x).triggerHeld p x ∧
      (u.ttimeNoted p x).effPRd p R.CAP_TADJ [p] = s.effPRd p R.CAP_TADJ [p] := by
  obtain ⟨hwaits, hadj⟩ := h.congr (t := u.ttimeNoted p x) hpast.regs (by rw [hpast.frame]; rfl) (by rw [hpast.frame]; rfl)
    (State.cap_ttimeNoted hpast hp) (not_hoursKeys (by rw [key_CAP_MODE]; omega)) (not_hoursKeys (by rw [key_CAP_TADJ]; omega))
    fun k _ => not_hoursKeys (by rw [key_CAP_SEG_INFO]; omega)
  exact ⟨hwaits.trigger, hadj⟩

end

/-! ### A segment queued for re-issue (R238) -/

section

variable {s : State} {p v : Nat}

/-- CAP_DRAIN as it is written. -/
def State.drainWritten (s : State) (p v : Nat) : State := s.writeFields ⟨R.CAP_DRAIN, [Fl.CAP_DRAIN_seg]⟩ [p] v

theorem State.drainWritten_frame : s.drainWritten p v = { s with regs := (s.drainWritten p v).regs } := State.writeFields_frame

theorem State.drainWritten_seg (hr : rising s.regs = true) : (s.drainWritten p v).get Fl.CAP_DRAIN_seg [p] = bits v 11 8 := by
  rw [State.drainWritten, State.writeFields_get (by decide) hr (List.mem_singleton_self _)]
  exact (if_pos rfl).trans ((writeField_cases Fl.CAP_DRAIN_seg _ _).1 (.inl rfl) rfl)

theorem State.capDrain_queues (hr : rising s.regs = true) (hgo : bit v 0 = true) : s.capDrain p v =
    (s.drainWritten p v).modCap p fun c => { c with order := c.order.map fun x => if x.1 = bits v 11 8 then (x.1, true) else x } := by
  have hmark : (fun x : Nat × Bool => if x.1 = bits v 11 8 then (bits v 11 8, true) else x) =
      fun x => if x.1 = bits v 11 8 then (x.1, true) else x := by
    funext x
    split
    · rw [‹x.1 = _›]
    · rfl
  unfold State.capDrain
  rw [if_pos hgo]
  dsimp only
  rw [← hmark, ← State.drainWritten_seg hr]
  rfl

end

/-! ### The registers of a segment, and its release (R238, R239) -/

/-- What shows segment `k`: its registers but CAP_Pp_SEGk_PRE, and CAP_Pp_STAT. -/
def SegKeys (p k : Nat) : Nat → Prop := fun x =>
  x = R.CAP_STAT.key [p] ∨ Keys (R.CAP_SEG_FIRST_LO.key [p, k]) (R.CAP_SEG_PRE.key [p, k]) x

/-- Segment `k` stands in state `n`, and its release has been asked for. -/
structure State.Asked (s : State) (p k n : Nat) : Prop where
  rising : rising s.regs = true
  caps : p < s.caps.length
  state : s.segState p k = n
  asked : bit (s.get Fl.CAP_SEGREL_release [p]) k = true

/-- Segment `k` is free: nothing of it stands in its registers, in CAP_Pp_SEGREL or in the order of the sealed segments. -/
structure State.Freed (s : State) (p k : Nat) : Prop where
  rising : rising s.regs = true
  caps : p < s.caps.length
  state : s.segState p k = 0
  pre : s.rd R.CAP_SEG_PRE [p, k] = 0
  asked : bit (s.get Fl.CAP_SEGREL_release [p]) k = false
  order : ∀ x ∈ (s.cap p).order, x.1 ≠ k

/-- A segment is released when that has been asked for and its state lets it. -/
def State.relOne (p : Nat) (s : State) (j : Nat) : State :=
  if bit (s.get Fl.CAP_SEGREL_release [p]) j && [0, 2, 4].contains (s.segState p j) then s.segRelease p j else s

theorem State.relDue_eq {s : State} {p : Nat} : s.relDue p = (List.range 16).foldl (State.relOne p) s := rfl

section

variable {s : State} {p j k n v : Nat} {l : List Nat}

theorem bit_and_not_single (hj : j < 16) (hk : k < 16) : bit ((v &&& (0xFFFF - 2 ^ j)) % 2 ^ 16) k = (bit v k && decide (j ≠ k)) := by
  have hmask : (0xFFFF - 2 ^ j) = 2 ^ 16 - (2 ^ j + 1) := by omega
  have hlt : 2 ^ j < 2 ^ 16 := Nat.pow_lt_pow_right (by decide) hj
  simp only [bit_eq_testBit, Nat.testBit_mod_two_pow, Nat.testBit_and, hmask, Nat.testBit_two_pow_sub_succ hlt, Nat.testBit_two_pow, hk,
    decide_true, Bool.true_and, decide_not]

theorem bit_or_single (hk : k < 16) : bit ((v ||| 2 ^ k % 2 ^ 16) % 2 ^ 16) k = true := by
  simp only [bit_eq_testBit, Nat.testBit_mod_two_pow, Nat.testBit_or, Nat.testBit_two_pow_self, hk, decide_true,
    Bool.true_and, Bool.or_true]

theorem State.capStat_changedIn : RegFile.ChangedIn (· = R.CAP_STAT.key [p]) s.regs (s.capStat p).regs := by
  have hstat : R.CAP_STAT.key [p] = R.CAP_STAT.key [p] := rfl
  unfold State.capStat
  exact ((RegFile.ChangedIn.refl.put hstat).put hstat).put hstat

/-- The registers of segment `k` follow it, before CAP_Pp_STAT does. -/
def State.segShown (s : State) (p k n : Nat) : State :=
  ((s.put Fl.CAP_SEG_INFO_state [p, k] n).put Fl.CAP_SEG_INFO_count [p, k] (s.segSt p k).frames.length).wr64
    R.CAP_SEG_FIRST_LO R.CAP_SEG_FIRST_HI [p, k] ((s.segSt p k).frames.headD (0, 0, 0)).2.1

theorem State.segShow_eq : s.segShow p k n = (s.segShown p k n).capStat p := rfl

theorem State.segShow_changedIn : RegFile.ChangedIn (SegKeys p k) s.regs (s.segShow p k n).regs := by
  have hinfo : SegKeys p k (R.CAP_SEG_INFO.key [p, k]) := .inr (by simp)
  have hlo : SegKeys p k (R.CAP_SEG_FIRST_LO.key [p, k]) := .inr (by simp)
  have hhi : SegKeys p k (R.CAP_SEG_FIRST_HI.key [p, k]) := .inr (by simp)
  have hshown : RegFile.ChangedIn (SegKeys p k) s.regs (s.segShown p k n).regs :=
    (((RegFile.ChangedIn.refl.put hinfo).put hinfo).wr hlo).wr hhi
  rw [State.segShow_eq]
  exact hshown.trans (State.capStat_changedIn.mono fun _ => Or.inl)

theorem State.segState_segShow (hr : rising s.regs = true) (hk : k < 16) (hn : n < 16) : (s.segShow p k n).segState p k = n := by
  have hstat : ¬R.CAP_SEG_INFO.key [p, k] = R.CAP_STAT.key [p] := by
    rw [key_CAP_STAT, key_CAP_SEG_INFO]
    omega
  have hlo : R.CAP_SEG_FIRST_LO.key [p, k] ≠ R.CAP_SEG_INFO.key [p, k] := by simp
  have hhi : R.CAP_SEG_FIRST_HI.key [p, k] ≠ R.CAP_SEG_INFO.key [p, k] := by simp
  have hcount : Fl.CAP_SEG_INFO_count.Spares [p, k] Fl.CAP_SEG_INFO_state [p, k] :=
    .inr ⟨rfl, rfl, by decide, by decide, by decide, by decide⟩
  have hput : (s.put Fl.CAP_SEG_INFO_state [p, k] n).Shows Fl.CAP_SEG_INFO_state [p, k] n := .of_put hr (by decide) (by decide) hn
  have hshown : (s.segShown p k n).Shows Fl.CAP_SEG_INFO_state [p, k] n := ((hput.put hcount).wr hlo).wr hhi
  rw [State.segShow_eq]
  exact (State.get_of_changedIn (d := Fl.CAP_SEG_INFO_state) State.capStat_changedIn hstat).trans hshown.get

/-- The registers of segment `j` are cleared, and its slots leave the segment. -/
def State.segCleared (s : State) (p j : Nat) : State :=
  let u := s.modCap p fun c => { c with segs := modNth c.segs j fun _ => Seg.init, order := c.order.filter fun x => x.1 ≠ j }
  ((u.put Fl.CAP_SEGREL_release [p] (u.get Fl.CAP_SEGREL_release [p] &&& (0xFFFF - 2 ^ j))).wr R.CAP_SEG_PRE [p, j] 0).wr
    R.CAP_SEG_INFO [p, j] 0

theorem State.segRelease_eq : s.segRelease p j = (s.segCleared p j).segShow p j 0 := rfl

theorem State.segRelease_raised : (s.segRelease p j).raised = s.raised := rfl

theorem State.segRelease_caps : (s.segRelease p j).caps =
    modNth s.caps p fun c => { c with segs := modNth c.segs j fun _ => Seg.init, order := c.order.filter fun x => x.1 ≠ j } := rfl

/-- What the release of segment `j` changes of the register file. -/
def ReleaseKeys (p j : Nat) : Nat → Prop := fun x => SegKeys p j x ∨ x = R.CAP_SEG_PRE.key [p, j] ∨ x = R.CAP_SEGREL.key [p]

theorem State.segCleared_changedIn : RegFile.ChangedIn (ReleaseKeys p j) s.regs (s.segCleared p j).regs := by
  have hrel : ReleaseKeys p j (R.CAP_SEGREL.key [p]) := .inr (.inr rfl)
  have hpre : ReleaseKeys p j (R.CAP_SEG_PRE.key [p, j]) := .inr (.inl rfl)
  have hinfo : ReleaseKeys p j (R.CAP_SEG_INFO.key [p, j]) := .inl (.inr (by simp))
  exact ((RegFile.ChangedIn.refl.wr hrel).wr hpre).wr hinfo

theorem State.segRelease_changedIn : RegFile.ChangedIn (ReleaseKeys p j) s.regs (s.segRelease p j).regs :=
  State.segCleared_changedIn.trans (State.segShow_changedIn.mono fun _ h => .inl h)

theorem segKeys_segrel (hj : j < 16) : ¬SegKeys p j (R.CAP_SEGREL.key [p]) := by
  simp only [SegKeys, keys_iff, key_CAP_SEGREL, key_CAP_STAT, key_CAP_SEG_FIRST_LO, key_CAP_SEG_PRE]
  omega

theorem releaseKeys_info (hne : j ≠ k) : ¬ReleaseKeys p j (R.CAP_SEG_INFO.key [p, k]) := by
  simp only [ReleaseKeys, SegKeys, keys_iff, key_CAP_SEG_INFO, key_CAP_SEGREL, key_CAP_STAT, key_CAP_SEG_FIRST_LO, key_CAP_SEG_PRE]
  omega

theorem releaseKeys_pre (hne : j ≠ k) : ¬ReleaseKeys p j (R.CAP_SEG_PRE.key [p, k]) := by
  simp only [ReleaseKeys, SegKeys, keys_iff, key_CAP_SEGREL, key_CAP_STAT, key_CAP_SEG_FIRST_LO, key_CAP_SEG_PRE]
  omega

/-- Of the releases that have been asked for, that of segment `j` is no more. -/
theorem State.segRelease_asked (hr : rising s.regs = true) (hj : j < 16) (hk : k < 16) :
    bit ((s.segRelease p j).get Fl.CAP_SEGREL_release [p]) k = (bit (s.get Fl.CAP_SEGREL_release [p]) k && decide (j ≠ k)) := by
  have hcleared : (s.segCleared p j).get Fl.CAP_SEGREL_release [p] =
      (s.get Fl.CAP_SEGREL_release [p] &&& (0xFFFF - 2 ^ j)) % 2 ^ 16 := by
    refine (State.get_wr_ne (d := Fl.CAP_SEGREL_release) (jx := [p]) ?_).trans
      ((State.get_wr_ne (d := Fl.CAP_SEGREL_release) (jx := [p]) ?_).trans (State.get_put_same hr (by decide) (by decide)))
    · show R.CAP_SEG_INFO.key [p, j] ≠ R.CAP_SEGREL.key [p]
      rw [key_CAP_SEG_INFO, key_CAP_SEGREL]
      omega
    · show R.CAP_SEG_PRE.key [p, j] ≠ R.CAP_SEGREL.key [p]
      rw [key_CAP_SEG_PRE, key_CAP_SEGREL]
      omega
  rw [State.segRelease_eq, State.get_of_changedIn (d := Fl.CAP_SEGREL_release) State.segShow_changedIn (segKeys_segrel hj), hcleared,
    bit_and_not_single hj hk]

/-! A release of one segment, as another sees it. -/

theorem State.segRelease_caps_length : (s.segRelease p j).caps.length = s.caps.length := by
  rw [State.segRelease_caps, modNth, List.length_modify]

theorem State.segRelease_order (hp : p < s.caps.length) : ((s.segRelease p j).cap p).order = (s.cap p).order.filter fun x => x.1 ≠ j := by
  rw [State.cap, State.segRelease_caps, getD_modNth_same hp]
  rfl

theorem State.segRelease_state (hne : j ≠ k) : (s.segRelease p j).segState p k = s.segState p k :=
  State.get_of_changedIn (d := Fl.CAP_SEG_INFO_state) State.segRelease_changedIn (releaseKeys_info hne)

theorem State.segRelease_pre (hr : rising s.regs = true) : (s.segRelease p k).rd R.CAP_SEG_PRE [p, k] = 0 := by
  have hpre : ¬SegKeys p k (R.CAP_SEG_PRE.key [p, k]) := by
    simp only [SegKeys, keys_iff, key_CAP_STAT, key_CAP_SEG_PRE]
    omega
  have hinfo : R.CAP_SEG_INFO.key [p, k] ≠ R.CAP_SEG_PRE.key [p, k] := by simp
  rw [State.segRelease_eq, State.rd_of_changedIn State.segShow_changedIn hpre]
  exact (State.rd_wr_ne hinfo).trans (State.rd_wr_same (State.rising_put hr))

theorem State.Asked.segRelease (h : s.Asked p k n) (hj : j < 16) (hk : k < 16) (hne : j ≠ k) : (s.segRelease p j).Asked p k n where
  rising := State.segRelease_changedIn.rising h.rising
  caps := h.caps.trans_eq State.segRelease_caps_length.symm
  state := (State.segRelease_state hne).trans h.state
  asked := by rw [State.segRelease_asked h.rising hj hk, h.asked, decide_eq_true hne]; rfl

theorem State.Asked.released (h : s.Asked p k n) (hk : k < 16) : (s.segRelease p k).Freed p k where
  rising := State.segRelease_changedIn.rising h.rising
  caps := h.caps.trans_eq State.segRelease_caps_length.symm
  state := State.segState_segShow (State.segCleared_changedIn.rising h.rising) hk (by decide)
  pre := State.segRelease_pre h.rising
  asked := by rw [State.segRelease_asked h.rising hk hk, decide_eq_false (by simp), Bool.and_false]
  order := fun x hx => by
    rw [State.segRelease_order h.caps] at hx
    simpa using List.of_mem_filter hx

theorem State.Freed.segRelease (h : s.Freed p k) (hj : j < 16) (hk : k < 16) (hne : j ≠ k) : (s.segRelease p j).Freed p k where
  rising := State.segRelease_changedIn.rising h.rising
  caps := h.caps.trans_eq State.segRelease_caps_length.symm
  state := (State.segRelease_state hne).trans h.state
  pre := (State.rd_of_changedIn State.segRelease_changedIn (releaseKeys_pre hne)).trans h.pre
  asked := by rw [State.segRelease_asked h.rising hj hk, h.asked, Bool.false_and]
  order := fun x hx => by
    rw [State.segRelease_order h.caps] at hx
    exact h.order x (List.mem_of_mem_filter hx)

/-! The releases that are due, one after the other. -/

theorem State.Asked.relOne (h : s.Asked p k n) (hj : j < 16) (hk : k < 16) (hne : j ≠ k) : (State.relOne p s j).Asked p k n := by
  unfold State.relOne
  split
  · exact h.segRelease hj hk hne
  · exact h

theorem State.Freed.relOne (h : s.Freed p k) (hj : j < 16) (hk : k < 16) : (State.relOne p s j).Freed p k := by
  unfold State.relOne
  split
  case isTrue hdue =>
    refine h.segRelease hj hk fun hjk => ?_
    rw [hjk, h.asked, Bool.false_and] at hdue
    exact absurd hdue (by decide)
  case isFalse => exact h

/-- A sealed or drained segment goes at once. -/
theorem State.Asked.relOne_due (h : s.Asked p k n) (hn : n = 2 ∨ n = 4) (hk : k < 16) : (State.relOne p s k).Freed p k := by
  have hdue : (bit (s.get Fl.CAP_SEGREL_release [p]) k && [0, 2, 4].contains (s.segState p k)) = true := by
    rw [h.asked, h.state]
    rcases hn with rfl | rfl <;> rfl
  rw [State.relOne, if_pos hdue]
  exact h.released hk

/-- An open segment waits until it is sealed. -/
theorem State.Asked.relOne_open (h : s.Asked p k 1) : State.relOne p s k = s := by
  refine if_neg ?_
  rw [h.state]
  simp

theorem State.Asked.relFold (h : s.Asked p k n) (hn : n = 2 ∨ n = 4) (hl : ∀ j ∈ l, j < 16) (hk : k ∈ l) :
    (l.foldl (State.relOne p) s).Freed p k := by
  induction l generalizing s with
  | nil => exact absurd hk List.not_mem_nil
  | cons j l ih =>
    have hj : j < 16 := hl j List.mem_cons_self
    have hl' : ∀ i ∈ l, i < 16 := fun i hi => hl i (List.mem_cons_of_mem _ hi)
    by_cases hjk : j = k
    · subst hjk
      exact List.foldlRecOn l _ (motive := fun t : State => t.Freed p j) (h.relOne_due hn hj) fun t ht i hi => ht.relOne (hl' i hi) hj
    · exact ih (h.relOne hj (hl k hk) hjk) hl' ((List.mem_cons.mp hk).resolve_left (Ne.symm hjk))

theorem State.Asked.relDue (h : s.Asked p k n) (hn : n = 2 ∨ n = 4) (hk : k < 16) : (s.relDue p).Freed p k := by
  rw [State.relDue_eq]
  exact h.relFold hn (fun _ => List.mem_range.mp) (List.mem_range.mpr hk)

theorem State.Asked.relDue_open (h : s.Asked p k 1) (hk : k < 16) : (s.relDue p).Asked p k 1 := by
  rw [State.relDue_eq]
  refine List.foldlRecOn (List.range 16) _ (motive := fun t : State => t.Asked p k 1) h fun t ht j hj => ?_
  by_cases hjk : j = k
  · rw [hjk, ht.relOne_open]
    exact ht
  · exact ht.relOne (List.mem_range.mp hj) hk hjk

theorem State.relDue_frame : s.relDue p = { s with regs := (s.relDue p).regs, caps := (s.relDue p).caps } := by
  have hraised : (s.relDue p).raised = s.raised := State.foldl_kept (g := State.raised) (fun t j => by
    split
    · exact State.segRelease_raised
    · rfl) _ _
  calc s.relDue p
      = { s with caps := (s.relDue p).caps, regs := (s.relDue p).regs, raised := (s.relDue p).raised } := State.captures_relDue.frame
    _ = { s with regs := (s.relDue p).regs, caps := (s.relDue p).caps } := by rw [hraised]

/-- CAP_SEGREL as it is written, before what is due is released. -/
def State.segrelWritten (s : State) (p v : Nat) : State :=
  s.put Fl.CAP_SEGREL_release [p] (s.get Fl.CAP_SEGREL_release [p] ||| v % 2 ^ 16)

theorem State.segrelWritten_asked (hr : rising s.regs = true) (hp : p < s.caps.length) (hk : k < 16) :
    (s.segrelWritten p (2 ^ k)).Asked p k (s.segState p k) where
  rising := State.rising_put hr
  caps := hp
  state := State.get_put_ne (d' := Fl.CAP_SEG_INFO_state) (show R.CAP_SEGREL.key [p] ≠ R.CAP_SEG_INFO.key [p, k] by
    rw [key_CAP_SEGREL, key_CAP_SEG_INFO]
    omega)
  asked := by
    rw [State.segrelWritten, State.get_put_same hr (by decide) (by decide)]
    exact bit_or_single hk

theorem State.capSegrel_frame : s.capSegrel p v = { s with regs := (s.capSegrel p v).regs, caps := (s.capSegrel p v).caps } :=
  State.relDue_frame

end

/-! ### A frame of the segment whose turn it is (R137, R238) -/

/-- Segment `k` has one more frame re-issued; a sealed one is draining from then on. -/
def State.reissueShown (s : State) (p k : Nat) : State :=
  let u := s.modSeg p k fun x => { x with done := x.done + 1 }
  if u.segState p k = 2 then u.segShow p k 3 else u

/-- A frame joins those in flight. -/
def State.joinedBy (s : State) (f : Frame) : State := { s with frames := s.frames ++ [f] }

section

variable {s : State} {p k n m b : Nat} {fr : Nat × Nat × Nat} {r : StreamRec}

theorem State.reissueShown_frame : s.reissueShown p k =
    { s with regs := (s.reissueShown p k).regs, caps := (s.modSeg p k fun x => { x with done := x.done + 1 }).caps } := by
  unfold State.reissueShown
  extract_lets u
  split <;> rfl

theorem State.reissueShown_draining (hr : rising s.regs = true) (hk : k < 16) (hsealed : s.segState p k = 2) :
    (s.reissueShown p k).segState p k = 3 := by
  have hstate : (s.modSeg p k fun x => { x with done := x.done + 1 }).segState p k = 2 := hsealed
  rw [State.reissueShown, if_pos hstate]
  exact State.segState_segShow hr hk (by decide)

theorem State.segSt_reissueShown (hp : p < s.caps.length) (hk : k < (s.cap p).segs.length) :
    ((s.reissueShown p k).segSt p k).done = (s.segSt p k).done + 1 := by
  rw [State.reissueShown_frame]
  show (((modNth s.caps p _).getD p CapSt.init).segs.getD k Seg.init).done = _
  rw [getD_modNth_same hp]
  exact congrArg Seg.done (getD_modNth_same hk)

theorem State.segSt_tagSlot (hp : p < s.caps.length) : (s.tagSlot p n m).segSt p k = s.segSt p k := by
  rw [State.segSt, State.tagSlot, State.cap_modCap hp, State.segSt]

theorem State.hbmRead_take (h : m ≤ n) : (s.hbmRead b n).take m = s.hbmRead b m := by
  rw [State.hbmRead, ← List.map_take, List.take_range, Nat.min_eq_left h, State.hbmRead]

/-- The next frame of the segment joins those in flight as its descriptor in the slot says. -/
theorem State.reissue_takes (hturn : s.drainNext p = some k) (hfr : (s.segSt p k).frames[(s.segSt p k).done]? = some fr)
    (hslot : s.slotAddr (s.pipeEpoch p) p fr.1 = some (r, b)) (hlive : s.liveWaits p = false) (hon : s.powered .cap = true) : ∃ f : Frame,
    s.reissue p = ((s.reissueShown p k).joinedBy f).tagSlot p fr.1 f.epoch ∧ bit f.fsw fswReissued = true ∧
      f.pipe = p ∧ f.slot = fr.1 ∧ f.epoch = s.pipeEpoch p ∧ f.fid = leNat (s.hbmRead b 8) ∧ f.waiting = (s.pipeSt p).draining := by
  unfold State.reissue
  rw [hturn]
  dsimp -zeta only
  extract_lets g counted shown
  rw [show g.frames[g.done]? = some fr from hfr]
  dsimp -zeta only
  rw [hslot]
  dsimp -zeta only
  rw [if_neg (by simp [hlive, hon])]
  extract_lets d f
  have hshown : shown = s.reissueShown p k := rfl
  have hpipes : shown.pipes = s.pipes := by rw [hshown, State.reissueShown_frame]
  refine ⟨f, rfl, ?_, rfl, rfl, State.pipeEpoch_congr hpipes, ?_, ?_⟩
  · exact (bit_setBit (i := fswReissued)).trans (by simp)
  · exact congrArg leNat (State.hbmRead_take (by decide))
  · show (shown.pipeSt p).draining = _
    rw [State.pipeSt, hpipes, State.pipeSt]

end

/-! ### The synthetic shutter beside the route of a frame (R228 to R232) -/

/-- What a cycle of the synthetic shutter may change; frames are only added. -/
structure State.Shutters (p : Nat) (s t : State) : Prop where
  frame : t = { s with regs := t.regs, frames := t.frames, caps := t.caps, limited := t.limited, hbm := t.hbm, undef := t.undef }
  regs : RegFile.ChangedIn (· = R.CAP_STAT.key [p]) s.regs t.regs
  frames : s.frames <+: t.frames

namespace State.Shutters

variable {s t u : State} {p v typ src inst epoch fid payload base : Nat} {d : Fld} {g : CapSt → CapSt} {l : List Frame} {r : StreamRec}
  {vals : List State.SynPixel} {route : List FlowUnit} {y : Synth} {f : Frame}

theorem refl : Shutters p s s := ⟨rfl, .refl, List.prefix_rfl⟩

theorem trans (h₁ : Shutters p s t) (h₂ : Shutters p t u) : Shutters p s u where
  frame := calc
    u = { t with regs := u.regs, frames := u.frames, caps := u.caps, limited := u.limited, hbm := u.hbm, undef := u.undef } := h₂.frame
    _ = { s with regs := u.regs, frames := u.frames, caps := u.caps, limited := u.limited, hbm := u.hbm, undef := u.undef } := by
      rw [h₁.frame]
  regs := h₁.regs.trans h₂.regs
  frames := h₁.frames.trans h₂.frames

theorem ite {c : Prop} [Decidable c] (ht : Shutters p s t) (hu : Shutters p s u) : Shutters p s (if c then t else u) := by
  split
  · exact ht
  · exact hu

theorem put (h : Shutters p s t) (hd : d.reg = R.CAP_STAT) : Shutters p s (t.put d [p] v) :=
  h.trans ⟨rfl, RegFile.ChangedIn.refl.put (by rw [hd]), List.prefix_rfl⟩

theorem modCap (h : Shutters p s t) : Shutters p s (t.modCap p g) := h.trans ⟨rfl, .refl, List.prefix_rfl⟩

theorem evLimited (h : Shutters p s t) : Shutters p s (t.evLimited typ src inst epoch fid payload) := h.trans ⟨rfl, .refl, List.prefix_rfl⟩

theorem addFrames (h : Shutters p s t) : Shutters p s { t with frames := t.frames ++ l } := h.trans ⟨rfl, .refl, List.prefix_append ..⟩

theorem accWrite (h : Shutters p s t) : Shutters p s (t.accWrite base r vals) := by
  have hw : t.WritesHbm (t.accWrite base r vals) :=
    List.foldlRecOn vals _ (motive := t.WritesHbm) .refl fun _ hu _ _ => hu.hbmWrite.hbmWrite
  refine h.trans ⟨?_, ?_, ?_⟩ <;> rw [hw.frame]
  exact .refl

theorem synEmit (h : Shutters p s t) : Shutters p s (t.synEmit p y vals route) := by
  unfold State.synEmit
  extract_lets e k gain scale words short g model fsw fsw' f v
  have hv : Shutters p s v := .ite h h.addFrames
  exact .ite hv.evLimited hv

theorem synEnd (h : Shutters p s t) : Shutters p s (t.synEnd p) := by
  unfold State.synEnd
  split
  · exact h
  · extract_lets u
    split
    · exact h.modCap.synEmit
    · exact h.modCap

theorem synAdd (h : Shutters f.pipe s t) : Shutters f.pipe s (t.synAdd f) := by
  unfold State.synAdd
  extract_lets p e n k ph cyc u off base now vars first
  have hu : Shutters p s u := by
    unfold u
    split
    · exact .ite h h.synEnd
    · exact h
  refine .ite hu ?_
  split
  · exact hu
  · extract_lets r0
    exact .ite (hu.put rfl).synEmit (.ite hu.modCap.synEmit hu.accWrite.modCap)

theorem eff {e : Nat} {ix : List Nat} (h : Shutters p s t) (hd : d.reg.key ix ≠ R.CAP_STAT.key [p]) : t.eff e d ix = s.eff e d ix :=
  State.eff_of_changedIn h.regs (by rw [h.frame]) hd

theorem frameIn {w : FlowUnit} {q : Nat} (h : Shutters p s t) (hin : s.frameIn w q fid = some f) : t.frameIn w q fid = some f :=
  h.frames.find?_eq_some hin

theorem pipes (h : Shutters p s t) : t.pipes = s.pipes := by rw [h.frame]

end State.Shutters

/-! ### Where CAP sends a frame (R227, R228) -/

/-- Does the mode send a frame that is not re-issued to RCU. -/
def State.sendsRcu (s : State) (p : Nat) (f : Frame) : Bool :=
  let mode := s.eff f.epoch Fl.CAP_MODE_mode [p]
  mode = 0 || mode = 2 || (mode = 3 && s.eff f.epoch Fl.CAP_MODE_rec_src [p] = 1)

/-- Does it send the frame to development. -/
def State.sendsDvt (s : State) (p fid : Nat) (f : Frame) : Bool :=
  let mode := s.eff f.epoch Fl.CAP_MODE_mode [p]
  mode = 0 || (mode = 1 && s.eff f.epoch Fl.CAP_MODE_live_dev [p] = 1) || (mode = 2 && s.capBegins p f.epoch fid)

/-- CAP notes the frame and its cycle as the previous ones from now on. -/
def State.cycleNoted (s : State) (p fid n : Nat) : State := s.modPipe p fun x => { x with prevFid := some fid, prevN := n }

/-- A frame goes on to the units that its route leaves it. -/
def State.routed (s : State) (p fid : Nat) (rcu dvt : Bool) : State :=
  s.modFrame .cap p fid fun x => { x with units := State.capRoute x rcu dvt }

section

variable {s : State} {p fid cls : Nat} {w : FlowUnit} {f : Frame} {h : Frame → Frame} {rcu dvt : Bool}

/-- A frame that changes in place and still has to leave its unit stays the one that the unit holds. -/
theorem State.frameIn_modFrame_staying (hin : s.frameIn w p fid = some f) (hpipe : ∀ x, (h x).pipe = x.pipe)
    (hfid : ∀ x, (h x).fid = x.fid) (hunits : ∀ x, (h x).units.contains w = x.units.contains w) : (s.modFrame w p fid h).frameIn w p fid = some (h f) := by
  have hkept : ((fun x : Frame => x.pipe = p && x.fid = fid && x.units.contains w) ∘
      fun x => if x.pipe = p && x.fid = fid && x.units.contains w then h x else x) =
      fun x => x.pipe = p && x.fid = fid && x.units.contains w := by
    funext x
    rw [Function.comp_apply, apply_ite Frame.pipe, apply_ite Frame.fid, apply_ite Frame.units, hpipe, hfid]
    split
    · simp only [hunits]
    · simp only
  unfold State.frameIn at hin ⊢
  rw [State.modFrame_frames, List.find?_map, hkept, hin, Option.map_some, if_pos (List.find?_some hin)]

/-- The route of a frame, mode by mode. -/
theorem State.capRoute_mode :
    (s.eff f.epoch Fl.CAP_MODE_mode [p] = 0 → State.capRoute f (s.sendsRcu p f) (s.sendsDvt p fid f) = State.capRoute f true true) ∧
    (s.eff f.epoch Fl.CAP_MODE_mode [p] = 1 → State.capRoute f (s.sendsRcu p f) (s.sendsDvt p fid f) =
      State.capRoute f false (s.eff f.epoch Fl.CAP_MODE_live_dev [p] = 1)) ∧
    (s.eff f.epoch Fl.CAP_MODE_mode [p] = 2 → State.capRoute f (s.sendsRcu p f) (s.sendsDvt p fid f) =
      State.capRoute f true (s.capBegins p f.epoch fid)) ∧
    (s.eff f.epoch Fl.CAP_MODE_mode [p] = 3 → State.capRoute f (s.sendsRcu p f) (s.sendsDvt p fid f) =
      State.capRoute f (s.eff f.epoch Fl.CAP_MODE_rec_src [p] = 1) false) := by
  refine ⟨fun h => ?_, fun h => ?_, fun h => ?_, fun h => ?_⟩ <;> simp [State.sendsRcu, State.sendsDvt, h]

theorem State.capRoute_contains : (State.capRoute f rcu dvt).contains .cap = f.units.contains .cap := by
  rw [Bool.eq_iff_iff]
  simp [State.capRoute]

theorem State.frameIn_routed (hin : s.frameIn .cap p fid = some f) :
    (s.routed p fid rcu dvt).frameIn .cap p fid = some { f with units := State.capRoute f rcu dvt } :=
  State.frameIn_modFrame_staying hin (fun _ => rfl) (fun _ => rfl) fun _ => State.capRoute_contains

theorem State.enterUnit_frameIn (hin : s.frameIn w p fid = some f) (hnew : f.entered.contains w = false) :
    (s.enterUnit w p fid cls).frameIn w p fid = some { f with
      entered := w :: f.entered, owes := f.owes ++ (s.workers f.epoch p cls).map fun n => (cls, n) } := by
  rw [State.frameIn_congr (State.enterUnit_frames hin hnew)]
  exact State.frameIn_modFrame hin

theorem State.showBusy_fold_frame {l : List Nat} : l.foldl (fun t n => t.showBusy cls n) s =
    { s with regs := (l.foldl (fun t n => t.showBusy cls n) s).regs } :=
  List.foldlRecOn l _ (motive := fun t : State => t = { s with regs := t.regs }) rfl fun t ht n _ => calc
    t.showBusy cls n = { t with regs := (t.showBusy cls n).regs } := rfl
    _ = { s with regs := (t.showBusy cls n).regs } := by rw [ht]

theorem State.enterUnit_frame : s.enterUnit w p fid cls = { s with
    regs := (s.enterUnit w p fid cls).regs, frames := (s.enterUnit w p fid cls).frames, raised := (s.enterUnit w p fid cls).raised,
    free := (s.enterUnit w p fid cls).free } := by
  unfold State.enterUnit
  split
  · split
    · rfl
    · extract_lets tiles entered
      rw [State.showBusy_fold_frame, State.trace_frame]
      rfl
  · rfl

/-- Where no tile works for the unit, no register changes. -/
theorem State.enterUnit_regs (hin : s.frameIn w p fid = some f) (hidle : s.workers f.epoch p cls = []) :
    (s.enterUnit w p fid cls).regs = s.regs := by
  unfold State.enterUnit
  rw [hin]
  dsimp -zeta only
  split
  · rfl
  · rw [hidle, State.trace_frame]
    rfl

/-- The frame enters CAP and goes on as the mode has it; before that, the synthetic shutter does its part. -/
theorem State.capFrame_routes (hin : s.frameIn .cap p fid = some f) (hnew : f.entered.contains .cap = false)
    (htiles : f.units.contains .rct = true → State.tilesDone f .rct 1 = true) (hon : s.powered .cap = true)
    (hlive : bit f.fsw fswReissued = false) : ∃ u, s.Shutters p u ∧
      (s.eff f.epoch Fl.CAP_MODE_mode [p] ≠ 3 → (s.cap p).synth = none → u = s) ∧
      s.capFrame p fid = ((u.cycleNoted p fid (s.eff f.epoch Fl.CAP_CYCLE_n_m1 [p] + 1)).enterUnit .cap p fid 0).routed p fid
        (s.sendsRcu p f) (s.sendsDvt p fid f) := by
  obtain rfl : f.pipe = p := State.frameIn_pipe hin
  have htaken : (f.entered.contains .cap || (f.units.contains .rct && !(State.tilesDone f .rct 1)) || !(s.powered .cap)) = false := by
    rw [hnew, hon]
    cases hrct : f.units.contains .rct with
    | false => rfl
    | true => rw [htiles hrct]; rfl
  unfold State.capFrame
  rw [hin]
  dsimp -zeta only
  rw [if_neg (Bool.eq_false_iff.mp htaken)]
  extract_lets mode flag again begins rcu dvt u n noted
  have hagain : again = false := hlive
  have hu : u = if mode = 3 then s.synAdd f else s.synEnd f.pipe := by
    unfold u
    rw [hagain]
    rfl
  have hshut : s.Shutters f.pipe u := hu ▸ .ite State.Shutters.refl.synAdd State.Shutters.refl.synEnd
  have hcycle : n = s.eff f.epoch Fl.CAP_CYCLE_n_m1 [f.pipe] + 1 := by
    have hkey : Fl.CAP_CYCLE_n_m1.reg.key [f.pipe] ≠ R.CAP_STAT.key [f.pipe] := by
      show R.CAP_CYCLE.key [f.pipe] ≠ R.CAP_STAT.key [f.pipe]
      simp
    exact congrArg (· + 1) (hshut.eff hkey)
  have hnoted : noted = u.cycleNoted f.pipe fid n := by
    unfold noted
    rw [hagain]
    rfl
  have hrcu : rcu = s.sendsRcu f.pipe f := by
    unfold rcu
    rw [hagain]
    rfl
  have hdvt : dvt = s.sendsDvt f.pipe fid f := by
    unfold dvt
    rw [hagain]
    rfl
  refine ⟨u, hshut, fun hmode hnone => ?_, by rw [← hcycle, ← hnoted, ← hrcu, ← hdvt]; rfl⟩
  rw [hu, if_neg hmode, State.synEnd, hnone]

end

/-- Settles O33: a frame goes on as the mode has it, a trigger joins those that wait, a queued segment's next frame joins those in flight,
and a segment whose release is due is free at the end of the releases. -/
theorem captureRoutesAndSegments : Obligations.CaptureRoutesAndSegments := by
  refine ⟨?_, ?_, ?_, ?_, ?_, ?_, ?_⟩
  · intro p fid f s hshape hp hin hnew htiles hon hlive mode begins
    obtain ⟨u, hshut, hquiet, heq⟩ := State.capFrame_routes hin hnew htiles hon hlive
    let v := u.cycleNoted p fid (s.eff f.epoch Fl.CAP_CYCLE_n_m1 [p] + 1)
    have hinv : v.frameIn .cap p fid = some f := hshut.frameIn hin
    have hpipe : (s.capFrame p fid).pipeSt p = v.pipeSt p := by
      rw [heq, State.routed, State.pipeSt, State.modFrame_pipes, State.enterUnit_frame]
      rfl
    have hnoted : v.pipeSt p = { u.pipeSt p with prevFid := some fid, prevN := s.eff f.epoch Fl.CAP_CYCLE_n_m1 [p] + 1 } :=
      State.pipeSt_modPipe (by rw [hshut.pipes, hshape.pipes]; exact hp)
    have hin' := State.frameIn_routed (rcu := s.sendsRcu p f) (dvt := s.sendsDvt p fid f) (State.enterUnit_frameIn (cls := 0) hinv hnew)
    obtain ⟨hboth, hring, hrecord, hshutter⟩ := State.capRoute_mode (s := s) (p := p) (fid := fid) (f := f)
    refine ⟨_, _, exec_capFrame .., heq ▸ hin', List.mem_cons_self, ?_, ?_, hboth, hring, hrecord, hshutter,
      fun hmode hnone hidle => ?_⟩
    · rw [hpipe, hnoted]
    · rw [hpipe, hnoted]
    · obtain rfl : u = s := hquiet hmode hnone
      have hregs : (v.enterUnit .cap p fid 0).regs = u.regs := State.enterUnit_regs hinv hidle
      rw [heq, State.routed, State.modFrame, State.enterUnit_frame, hregs]
      rfl
  · intro p k base fr r s hshape hp hk hturn hfr hslot hlive hon
    have hcaps : p < s.caps.length := hshape.caps ▸ hp
    obtain ⟨f, heq, hflag, hpipe, hslot', hepoch, hfid, hwaiting⟩ := State.reissue_takes hturn hfr hslot hlive hon
    have hshown : p < ((s.reissueShown p k).joinedBy f).caps.length := by
      rw [State.reissueShown_frame]
      simpa [State.joinedBy, State.modSeg, modNth] using hcaps
    refine ⟨_, f, exec_reissueFrame .., ?_, hflag, hpipe, hslot', hepoch, hfid, ?_, hwaiting, fun hk16 hr hsealed => ?_, ?_⟩ <;> rw [heq]
    · rw [State.reissueShown_frame]
      rfl
    · rw [State.segSt_tagSlot hshown]
      exact State.segSt_reissueShown hcaps hk
    · exact State.reissueShown_draining hr hk16 hsealed
    · rw [State.reissueShown_frame]
      rfl
  · intro p v s hshape hp hv hreach hgo hmode hopen hring hgone hundecided
    have hcaps : p < (s.trigWritten p v).caps.length := by rw [State.trigWritten_frame]; exact hshape.caps ▸ hp
    obtain ⟨heq, hadj⟩ := State.capTrig_waits hp hgo ⟨hmode, hopen, hring, hgone, hundecided⟩
    refine ⟨s.capTrig p v, ?_, ?_, ?_⟩
    · rw [exec_capSoftwareTrigger, execCapSoftwareTrigger, if_pos hp, State.onUnit_reached hreach]
    · rw [heq, State.cap_triggerHeld hcaps, hadj, State.trigWritten_frame]
      rfl
    · rw [heq, State.triggerHeld, State.trigWritten_frame]
      rfl
  · intro p s hshape hp hon hsrc hmode hopen hring hgone time hfirst hundecided
    have hexec : exec (.capTimeTrigger p) s = .next (((s.reachDt time).ttimeNoted p time).trigger p time) :=
      if_pos ⟨hp, hon, hsrc, hfirst⟩
    have hpast : s.Elapsed (s.reachDt time) := State.elapsed_reachDt
    generalize s.reachDt time = u at hexec hpast
    have hcaps : p < s.caps.length := hshape.caps ▸ hp
    have hcaps' : p < (u.ttimeNoted p time).caps.length := by
      rw [State.ttimeNoted, hpast.frame]
      simpa [modNth] using hcaps
    obtain ⟨heq, hadj⟩ := State.timeTrigger_waits hpast hcaps ⟨hmode, hopen, hring, hgone, hundecided⟩
    refine ⟨_, hexec, ?_, ?_⟩ <;> rw [heq, State.cap_triggerHeld hcaps', State.cap_ttimeNoted hpast hcaps]
    rw [hadj]
  · intro p v s hshape hp hv hreach hr hgo
    refine ⟨s.capDrain p v, ?_, ?_, ?_, ?_⟩
    · rw [exec_capDrain, execCapDrain, if_pos hp, State.onUnit_reached hreach]
    all_goals rw [State.capDrain_queues hr hgo]
    · rw [State.modCap_get, State.drainWritten_seg hr]
    · rw [State.cap_modCap (by rw [State.drainWritten_frame]; exact hshape.caps ▸ hp), State.drainWritten_frame]
      rfl
    · rw [State.drainWritten_frame]
      rfl
  · intro p k s hshape hp hk hreach hr hstate
    have hfreed : (s.capSegrel p (2 ^ k)).Freed p k := (State.segrelWritten_asked hr (hshape.caps ▸ hp) hk).relDue hstate hk
    refine ⟨s.capSegrel p (2 ^ k), ?_, hfreed.state, hfreed.pre, hfreed.asked, hfreed.order, State.capSegrel_frame⟩
    rw [exec_segmentRelease, execSegmentRelease, if_pos hp, State.onUnit_reached hreach]
  · intro p k s hshape hp hk hreach hr hstate
    have hasked : (s.segrelWritten p (2 ^ k)).Asked p k 1 := hstate ▸ State.segrelWritten_asked hr (hshape.caps ▸ hp) hk
    have hstill : (s.capSegrel p (2 ^ k)).Asked p k 1 := hasked.relDue_open hk
    refine ⟨s.capSegrel p (2 ^ k), ?_, hstill.state, hstill.asked⟩
    rw [exec_segmentRelease, execSegmentRelease, if_pos hp, State.onUnit_reached hreach]

end Sys2Proof.Machine
/-! The statements of spec/08_media_recorder.md: the recorder's volumes, its takes and commits, and what happens as members fail and as the
recorder lands. -/

namespace Sys2Proof.Machine

/-! ### Reports (R297, R417, R422) -/

/-- The state but for what a report touches: registers, the offload controller, what leaves through it, and the records raised. -/
def State.unreported (s : State) : State := { s with regs := [], ofl := OflSt.init, out := [], ohost := [], raised := [] }

/-- `t` is `s` after reports: they write registers whose keys `K` names, move the offload controller, and only add records. -/
structure State.Tells (K : Nat → Prop) (s t : State) : Prop where
  rest : t.unreported = s.unreported
  regs : RegFile.ChangedIn K s.regs t.regs
  raised : s.raised <+: t.raised

namespace State.Tells

variable {K L : Nat → Prop} {s t u : State} {d : Fld} {r lo hi : Reg} {ix : List Nat} {v n : Nat} {f : OflSt → OflSt}

theorem refl : Tells K s s := ⟨rfl, .refl, List.prefix_rfl⟩

theorem trans (h₁ : Tells K s t) (h₂ : Tells K t u) : Tells K s u :=
  ⟨h₂.rest.trans h₁.rest, h₁.regs.trans h₂.regs, h₁.raised.trans h₂.raised⟩

theorem mono (h : Tells K s t) (hKL : ∀ k, K k → L k) : Tells L s t := ⟨h.rest, h.regs.mono hKL, h.raised⟩

theorem wr (h : Tells K s t) (hk : K (r.key ix)) : Tells K s (t.wr r ix v) := ⟨h.rest, h.regs.wr hk, h.raised⟩

theorem wr64 (h : Tells K s t) (hlo : K (lo.key ix)) (hhi : K (hi.key ix)) : Tells K s (t.wr64 lo hi ix v) := (h.wr hlo).wr hhi

theorem put (h : Tells K s t) (hk : K (d.reg.key ix)) : Tells K s (t.put d ix v) := ⟨h.rest, h.regs.put hk, h.raised⟩

theorem inc (h : Tells K s t) (hk : K (d.reg.key ix)) : Tells K s (t.inc d ix n) := ⟨h.rest, h.regs.put hk, h.raised⟩

theorem modOfl (h : Tells K s t) : Tells K s (t.modOfl f) := ⟨h.rest, h.regs, h.raised⟩

theorem emit {o : Out} (h : Tells K s t) : Tells K s (t.emit o) := ⟨h.rest, h.regs, h.raised⟩

theorem ohostWrite {a : Nat} {b : Bytes} (h : Tells K s t) : Tells K s (t.ohostWrite a b) := ⟨h.rest, h.regs, h.raised⟩

theorem ev {typ src inst payload : Nat} (h : Tells K s t) : Tells K s (t.ev typ src inst payload) :=
  ⟨h.rest, h.regs, h.raised.trans (List.prefix_append ..)⟩

theorem ite {c : Prop} [Decidable c] (ht : Tells K s t) (hu : Tells K s u) : Tells K s (if c then t else u) := by
  split
  · exact ht
  · exact hu

theorem foldl {α : Type} {step : State → α → State} {l : List α} (hs : ∀ u x, Tells K u (step u x)) : Tells K s (l.foldl step s) :=
  List.foldlRecOn l step (motive := Tells K s) refl fun u hu x _ => hu.trans (hs u x)

theorem rs (h : Tells K s t) : t.rs = s.rs := (congrArg State.recorder h.rest :)

theorem packets (h : Tells K s t) : t.packets = s.packets := (congrArg State.packets h.rest :)

theorem media (h : Tells K s t) : t.media = s.media := (congrArg State.media h.rest :)

theorem time (h : Tells K s t) : t.time = s.time := (congrArg State.time h.rest :)

theorem cpr (h : Tells K s t) : t.cpr = s.cpr := (congrArg State.cpr h.rest :)

theorem nv (h : Tells K s t) : t.nv = s.nv := (congrArg State.nv h.rest :)

theorem mem_raised {e : Rec} (h : Tells K s t) (he : e ∈ s.raised) : e ∈ t.raised := h.raised.mem he

end State.Tells

/-- The registers of OFL. -/
def OflKeys : Nat → Prop := Keys 0xc00000 0xd00000

section

variable {s : State} {q n id dw0 status typ info page result : Nat} {e : Nat × Nat × Nat × Nat}

theorem State.tells_oflSignal : s.Tells OflKeys (s.oflSignal q) := by
  unfold State.oflSignal
  extract_lets x w
  exact .ite .refl (.ite (.modOfl .refl) (.emit .refl))

theorem State.tells_oflPost : s.Tells OflKeys (s.oflPost e).1 := by
  unfold State.oflPost
  split
  · exact .refl
  split
  · exact .refl
  split
  · exact .refl
  split
  · exact .refl
  extract_lets b u last c' w
  have hw : s.Tells OflKeys w := .modOfl (.ohostWrite .refl)
  exact .ite (hw.trans State.tells_oflSignal) hw

theorem State.tells_oflPostAll : s.Tells OflKeys s.oflPostAll := by
  unfold State.oflPostAll
  extract_lets l u
  have hu : s.Tells OflKeys u := .modOfl .refl
  exact hu.trans (.foldl fun t e => .ite State.tells_oflPost (.modOfl State.tells_oflPost))

theorem State.tells_oflShow : s.Tells OflKeys s.oflShow := by
  unfold State.oflShow
  extract_lets x io a b c
  have ha : s.Tells OflKeys a := .put (.put .refl ⟨by decide, by decide⟩) ⟨by decide, by decide⟩
  have hb : s.Tells OflKeys b := .put (.put ha ⟨by decide, by decide⟩) ⟨by decide, by decide⟩
  have hc : s.Tells OflKeys c := .put (.put hb ⟨by decide, by decide⟩) ⟨by decide, by decide⟩
  exact .put (.put hc ⟨by decide, by decide⟩) ⟨by decide, by decide⟩

theorem State.tells_oflComplete : s.Tells OflKeys (s.oflComplete id dw0 status) := by
  unfold State.oflComplete
  split
  · exact .refl
  extract_lets u w
  have hu : s.Tells OflKeys u := .modOfl .refl
  have hw : s.Tells OflKeys w := .ite hu (.ite (.inc hu ⟨by decide, by decide⟩) (.inc hu ⟨by decide, by decide⟩))
  exact hw.trans (State.tells_oflPostAll.trans State.tells_oflShow)

theorem State.tells_oflEvents : s.Tells OflKeys (s.oflEvents n) := by
  induction n generalizing s with
  | zero => exact .refl
  | succ n ih =>
    unfold State.oflEvents
    split
    · exact (State.Tells.refl.modOfl.trans State.tells_oflComplete).trans ih
    · exact .refl

theorem State.tells_oflEvent : s.Tells OflKeys (s.oflEvent typ info page) := by
  unfold State.oflEvent
  extract_lets e
  exact .ite .refl (State.Tells.refl.modOfl.trans State.tells_oflEvents)

theorem State.tells_oflCommitNotice : s.Tells OflKeys s.oflCommitNotice := .ite State.tells_oflEvent .refl

theorem State.tells_testEnd : s.Tells OflKeys (s.testEnd result) := by
  unfold State.testEnd
  split
  · exact .refl
  extract_lets seg lba b u w
  have hw : s.Tells OflKeys w := .put (.put (.put (.modOfl .refl) ⟨by decide, by decide⟩) ⟨by decide, by decide⟩) ⟨by decide, by decide⟩
  exact .ev (hw.put ⟨by decide, by decide⟩)

theorem State.tells_nsSync : s.Tells OflKeys s.nsSync := by
  unfold State.nsSync
  extract_lets st one two d1 d2 u add w hit x
  have hu : s.Tells OflKeys u := .put (.put .refl ⟨by decide, by decide⟩) ⟨by decide, by decide⟩
  have hw : s.Tells OflKeys w := hu.modOfl
  have hx : s.Tells OflKeys x := .ite (hw.trans State.tells_testEnd) hw
  exact .ite .refl (.ite (.ite (hx.trans State.tells_oflEvent) hx) hu)

/-- The registers in which the recorder shows its state (R297), and those of OFL. -/
def ShownKeys (k : Nat) : Prop := Keys 0x600010 0x60001c k ∨ Keys 0x600028 0x600030 k ∨ OflKeys k

/-- The takes that record. -/
def State.anyTake (s : State) : Bool := s.rs.takes.any fun t => t.closed.isNone

/-- What REC_STAT.state shows (R297). -/
def State.recState (s : State) : Nat :=
  let failed : Nat := (s.rs.vol.map fun v => v.failed).getD 0
  let rebuilding : Nat := (s.rs.vol.map fun v => v.rebuilding).getD 0
  if s.rs.landed then 7 else if s.rs.dead then 6 else if rebuilding ≠ 0 then 5 else if failed ≠ 0 then 4
    else if s.anyTake then 3 else if s.rs.vol.isSome then 2 else if s.rs.scanned then 1 else 0

/-- The recorder shows its state in REC_STAT first, then in the registers after it and to the offload port. -/
theorem State.recShow_shown : ∃ fault u, s.recShow = State.nsSync u ∧
    (((s.put Fl.REC_STAT_state [] s.recState).put Fl.REC_STAT_recording [] (b2n s.anyTake)).put
      Fl.REC_STAT_member_fault [] fault).Tells (fun k => ShownKeys k ∧ k ≠ R.REC_STAT.key []) u := by
  unfold State.recShow
  extract_lets x anyTake failed rebuilding st a b free c k done
  refine ⟨b2n (failed ≠ 0 || rebuilding ≠ 0), _, rfl, ?_⟩
  have hb : State.Tells (fun k => ShownKeys k ∧ k ≠ R.REC_STAT.key []) (a.put Fl.REC_STAT_member_fault [] _) b :=
    .wr .refl ⟨.inl ⟨by decide, by decide⟩, by decide⟩
  have hc : State.Tells (fun k => ShownKeys k ∧ k ≠ R.REC_STAT.key []) (a.put Fl.REC_STAT_member_fault [] _) c :=
    hb.wr64 ⟨.inr (.inl ⟨by decide, by decide⟩), by decide⟩ ⟨.inr (.inl ⟨by decide, by decide⟩), by decide⟩
  have hrebuild : ShownKeys (R.REC_REBUILD.key []) ∧ R.REC_REBUILD.key [] ≠ R.REC_STAT.key [] := ⟨.inl ⟨by decide, by decide⟩, by decide⟩
  exact ((hc.put hrebuild).put hrebuild).put hrebuild

theorem State.tells_recShow : s.Tells ShownKeys s.recShow := by
  obtain ⟨fault, u, heq, hu⟩ := s.recShow_shown
  have hstat : ShownKeys (R.REC_STAT.key []) := .inl ⟨by decide, by decide⟩
  rw [heq]
  exact (((State.Tells.refl.put hstat).put hstat).put hstat).trans
    ((hu.mono fun _ h => h.1).trans (State.tells_nsSync.mono fun _ h => .inr (.inr h)))

/-- A field of REC_STAT that stands once the three fields are put stands after the report. -/
theorem State.Shows.recShow {d : Fld} {n : Nat} (hd : d.reg = R.REC_STAT)
    (h : ∀ fault, (((s.put Fl.REC_STAT_state [] s.recState).put Fl.REC_STAT_recording [] (b2n s.anyTake)).put
      Fl.REC_STAT_member_fault [] fault).Shows d [] n) : s.recShow.Shows d [] n := by
  obtain ⟨fault, u, heq, hu⟩ := s.recShow_shown
  have hkey : ¬OflKeys (d.reg.key []) := by rw [hd]; exact fun h => absurd h.1 (by decide)
  have hnot : ¬(ShownKeys (d.reg.key []) ∧ d.reg.key [] ≠ R.REC_STAT.key []) := fun h => h.2 (by rw [hd])
  have hns : u.Tells OflKeys u.nsSync := State.tells_nsSync
  rw [heq]
  exact ⟨hns.regs.rising (hu.regs.rising (h fault).rising),
    (State.get_of_changedIn hns.regs hkey).trans ((State.get_of_changedIn hu.regs hnot).trans (h fault).get)⟩

theorem State.recState_lt : s.recState < 16 := by
  unfold State.recState
  extract_lets failed rebuilding
  split_ifs <;> decide

theorem State.recShow_state (hr : rising s.regs = true) : s.recShow.Shows Fl.REC_STAT_state [] s.recState := by
  have hlt : s.recState < 2 ^ (Fl.REC_STAT_state.hi + 1 - Fl.REC_STAT_state.lo) := State.recState_lt
  refine .recShow rfl fun fault => ?_
  have hput : (s.put Fl.REC_STAT_state [] s.recState).Shows Fl.REC_STAT_state [] s.recState := .of_put hr (by decide) (by decide) hlt
  exact .put (.put hput (.inr ⟨rfl, rfl, by decide⟩)) (.inr ⟨rfl, rfl, by decide⟩)

theorem State.recShow_recording (hr : rising s.regs = true) : s.recShow.flag Fl.REC_STAT_recording = s.anyTake := by
  have hlt : b2n s.anyTake < 2 ^ (Fl.REC_STAT_recording.hi + 1 - Fl.REC_STAT_recording.lo) := by cases s.anyTake <;> decide
  have hshown : s.recShow.Shows Fl.REC_STAT_recording [] (b2n s.anyTake) := .recShow rfl fun fault =>
    (State.Shows.of_put (State.rising_put hr) (by decide) (by decide) hlt).put (.inr ⟨rfl, rfl, by decide⟩)
  exact hshown.flag_b2n

theorem State.recShow_duskDone {n : Nat} (h : s.Shows Fl.REC_STAT_dusk_done [] n) : s.recShow.Shows Fl.REC_STAT_dusk_done [] n :=
  .recShow rfl fun _ => .put (.put (.put h (.inr ⟨rfl, rfl, by decide⟩)) (.inr ⟨rfl, rfl, by decide⟩)) (.inr ⟨rfl, rfl, by decide⟩)

end

end Sys2Proof.Machine
namespace Sys2Proof.Machine

/-! ### Takes end (R279, R280, R287) -/

/-- How many members the volume has, and which of them have failed. -/
def State.members (s : State) : Option (Nat × Nat) := s.rs.vol.map fun v => (v.m, v.failed)

/-- A take keeps its number, and once it has ended it stays so. -/
structure LiveTake.Goes (x y : LiveTake) : Prop where
  num : y.num = x.num
  closed : x.closed.isSome = true → y.closed.isSome = true

/-- Each take of a list goes on in its place. -/
def TakesGo (l l' : List LiveTake) : Prop := ∃ f : LiveTake → LiveTake, (∀ x : LiveTake, x.Goes (f x)) ∧ l' = l.map f

theorem TakesGo.refl {l : List LiveTake} : TakesGo l l := ⟨id, fun _ => ⟨rfl, id⟩, (List.map_id _).symm⟩

theorem TakesGo.trans {l l' l'' : List LiveTake} (h₁ : TakesGo l l') (h₂ : TakesGo l' l'') : TakesGo l l'' := by
  obtain ⟨f, hf, rfl⟩ := h₁
  obtain ⟨g, hg, rfl⟩ := h₂
  exact ⟨g ∘ f, fun x => ⟨(hg _).num.trans (hf x).num, fun hx => (hg _).closed ((hf x).closed hx)⟩, List.map_map⟩

/-- The state but for what a report touches, and for the takes, their place in the volume, their jobs and their rows in flight. -/
def State.unrecorded (s : State) : State :=
  { s.unreported with recorder := { s.recorder with takes := [], vol := none, jobs := [], flight := [] } }

/-- `t` is `s` after the takes have gone on, ended or sent rows out. -/
structure State.Records (s t : State) : Prop where
  rest : t.unrecorded = s.unrecorded
  members : t.members = s.members
  takes : TakesGo s.rs.takes t.rs.takes
  raised : s.raised <+: t.raised

namespace State.Records

variable {s t u : State} {n : Nat} {x y : LiveTake} {e : Rec} {K : Nat → Prop}

theorem refl : Records s s := ⟨rfl, rfl, .refl, List.prefix_rfl⟩

theorem trans (h₁ : Records s t) (h₂ : Records t u) : Records s u :=
  ⟨h₂.rest.trans h₁.rest, h₂.members.trans h₁.members, h₁.takes.trans h₂.takes, h₁.raised.trans h₂.raised⟩

theorem of_tells (h : s.Tells K t) : Records s t := by
  refine ⟨?_, ?_, h.rs ▸ .refl, h.raised⟩
  · exact congrArg (fun v : State => { v with recorder := { v.recorder with takes := [], vol := none, jobs := [], flight := [] } }) h.rest
  · rw [State.members, State.members, h.rs]

theorem modTake {f : LiveTake → LiveTake} (hf : ∀ x : LiveTake, x.Goes (f x)) : Records s (s.modTake n f) := by
  refine ⟨rfl, rfl, ⟨fun x => if x.num = n then f x else x, fun x => ?_, rfl⟩, List.prefix_rfl⟩
  dsimp only
  split
  · exact hf x
  · exact ⟨rfl, id⟩

theorem modVol {f : Volume → Volume} (hf : ∀ v, (f v).m = v.m ∧ (f v).failed = v.failed) : Records s (s.modVol f) := by
  refine ⟨rfl, ?_, .refl, List.prefix_rfl⟩
  rw [State.members, State.members]
  show (s.rs.vol.map f).map _ = _
  rw [Option.map_map]
  exact congrArg (Option.map · s.rs.vol) (funext fun v => Prod.ext (hf v).1 (hf v).2)

theorem issue {row kind take : Nat} {data : Bytes} (h : Records s t) : Records s (t.issue row kind take data) :=
  ⟨h.rest, h.members, h.takes, h.raised⟩

theorem ite {c : Prop} [Decidable c] (ht : Records s t) (hu : Records s u) : Records s (if c then t else u) := by
  split
  · exact ht
  · exact hu

theorem foldl {α : Type} {step : State → α → State} {l : List α} (hs : ∀ u x, Records u (step u x)) : Records s (l.foldl step s) :=
  List.foldlRecOn l step (motive := Records s) refl fun u hu x _ => hu.trans (hs u x)

theorem packets (h : Records s t) : t.packets = s.packets := (congrArg State.packets h.rest :)

theorem media (h : Records s t) : t.media = s.media := (congrArg State.media h.rest :)

theorem time (h : Records s t) : t.time = s.time := (congrArg State.time h.rest :)

theorem rest_rs (h : Records s t) : { t.rs with takes := [], vol := none, jobs := [], flight := [] } =
    { s.rs with takes := [], vol := none, jobs := [], flight := [] } := (congrArg State.recorder h.rest :)

theorem waiters (h : Records s t) : t.rs.waiters = s.rs.waiters := (congrArg RecSt.waiters h.rest_rs :)

theorem landed (h : Records s t) : t.rs.landed = s.rs.landed := (congrArg RecSt.landed h.rest_rs :)

theorem dusk (h : Records s t) : t.rs.dusk = s.rs.dusk := (congrArg RecSt.dusk h.rest_rs :)

theorem dead (h : Records s t) : t.rs.dead = s.rs.dead := (congrArg RecSt.dead h.rest_rs :)

theorem phase (h : Records s t) : t.rs.phase = s.rs.phase := (congrArg RecSt.phase h.rest_rs :)

theorem fenceAt (h : Records s t) : t.rs.fenceAt = s.rs.fenceAt := (congrArg RecSt.fenceAt h.rest_rs :)

theorem jIdx (h : Records s t) : t.rs.jIdx = s.rs.jIdx := (congrArg RecSt.jIdx h.rest_rs :)

theorem losts (h : Records s t) : t.rs.losts = s.rs.losts := (congrArg RecSt.losts h.rest_rs :)

theorem vol_isSome (h : Records s t) : t.rs.vol.isSome = s.rs.vol.isSome := by
  simpa [State.members] using congrArg Option.isSome h.members

end State.Records

/-- The take of a number has ended, if there is one. -/
def State.TakeEnded (s : State) (n : Nat) : Prop := ∀ y, s.takeOf n = some y → y.closed.isSome = true

section

variable {s t u : State} {v : Volume} {x l : LiveTake} {n kind fid time epoch fsw cert len cause rows fuel : Nat} {b : Bytes} {found : Bool}

/-- The take of a number goes on as the take of that number. -/
theorem TakesGo.takeOf (h : TakesGo s.rs.takes t.rs.takes) : ∃ f : LiveTake → LiveTake, (∀ x : LiveTake, x.Goes (f x)) ∧
    t.takeOf n = (s.takeOf n).map f := by
  obtain ⟨f, hf, htakes⟩ := h
  have hsame : ((fun y : LiveTake => decide (y.num = n)) ∘ f) = fun y => decide (y.num = n) := funext fun y => by
    rw [Function.comp, (hf y).num]
  exact ⟨f, hf, by rw [State.takeOf, State.takeOf, htakes, List.find?_map, hsame]⟩

theorem TakesGo.takeEnded (h : TakesGo s.rs.takes t.rs.takes) (hs : s.TakeEnded n) : t.TakeEnded n := by
  obtain ⟨f, hf, htake⟩ := h.takeOf (n := n)
  intro y hy
  rw [htake, Option.map_eq_some_iff] at hy
  obtain ⟨x, hx, rfl⟩ := hy
  exact (hf x).closed (hs x hx)

theorem TakesGo.nums (h : TakesGo s.rs.takes t.rs.takes) : t.rs.takes.map (fun x => x.num) = s.rs.takes.map fun x => x.num := by
  obtain ⟨f, hf, htakes⟩ := h
  rw [htakes, List.map_map]
  exact List.map_congr_left fun x _ => (hf x).num

/-- The change of a take shows in the take of its number alone. -/
theorem State.takeOf_modTake {f : LiveTake → LiveTake} (hf : ∀ x, (f x).num = x.num) (h : s.takeOf n = some x) :
    (s.modTake n f).takeOf n = some (f x) := by
  have hnum : x.num = n := by simpa using List.find?_some h
  have hsame : ((fun y : LiveTake => decide (y.num = n)) ∘ fun y => if y.num = n then f y else y) = fun y => decide (y.num = n) := by
    funext y
    by_cases hy : y.num = n <;> simp [hy, hf]
  show List.find? _ (s.rs.takes.map _) = _
  rw [List.find?_map, hsame]
  show Option.map _ (s.takeOf n) = _
  rw [h, Option.map_some, if_pos hnum]

theorem State.closeTake_records : s.Records (s.closeTake n cause) := by
  unfold State.closeTake
  split
  · extract_lets u w
    have hu : s.Records u := .modTake fun x => ⟨rfl, fun _ => rfl⟩
    have hw : u.Records w := .modVol fun v => ⟨rfl, rfl⟩
    exact .ite .refl (hu.trans (hw.trans (.of_tells (.trans (.ev .refl) State.tells_recShow))))
  · exact .refl

/-- Whatever the cause, the take has ended. -/
theorem State.closeTake_ended : (s.closeTake n cause).TakeEnded n := by
  unfold State.closeTake
  split
  case h_1 x hx =>
    split
    case isTrue hclosed =>
      intro y hy
      exact Option.some.inj (hx.symm.trans hy) ▸ hclosed
    case isFalse =>
      extract_lets u w
      have hu : u.TakeEnded n := fun y hy => by
        have hmod : u.takeOf n = some { x with closed := some cause } := State.takeOf_modTake (fun _ => rfl) hx
        exact Option.some.inj (hmod.symm.trans hy) ▸ rfl
      have hw : u.Records w := .modVol fun v => ⟨rfl, rfl⟩
      exact (hw.trans (.of_tells (.trans (.ev .refl) State.tells_recShow))).takes.takeEnded hu
  case h_2 hnone =>
    intro y hy
    exact absurd (hnone.symm.trans hy) nofun

theorem State.allocExtent_records : s.Records (s.allocExtent n).1 := by
  unfold State.allocExtent
  split
  · extract_lets free
    split
    · exact .refl
    next c k seq exts u hroom =>
      have hu : s.Records u := .modVol fun v => ⟨rfl, rfl⟩
      exact hu.trans (.modTake fun x => ⟨rfl, id⟩)
  · exact .refl

theorem State.ensureRows_records : s.Records (s.ensureRows n rows fuel).1 := by
  induction fuel generalizing s with
  | zero => exact .refl
  | succ fuel ih =>
    unfold State.ensureRows
    split
    · split
      · exact .refl
      · extract_lets a
        have ha : s.Records a.1 := State.allocExtent_records
        split
        · exact ha.trans ih
        · exact ha
    · exact .refl

theorem State.placeChunk_records : s.Records (s.placeChunk found v l kind fid time epoch fsw cert len b) := by
  unfold State.placeChunk
  split
  · exact State.closeTake_records
  · split
    · exact .modTake fun x => ⟨rfl, id⟩
    · exact .refl

theorem State.addChunk_records : s.Records (s.addChunk n kind fid time epoch fsw cert b) := by
  unfold State.addChunk
  split
  · exact State.ensureRows_records.trans State.placeChunk_records
  · exact .refl

theorem State.intervalEnd_records : s.Records (s.intervalEnd x) := by
  unfold State.intervalEnd
  extract_lets e job u w
  have hu : s.Records u := .ite .refl ⟨rfl, rfl, .refl, List.prefix_rfl⟩
  have hw : u.Records w := .foldl fun t a => .ite .refl State.addChunk_records
  exact (hu.trans hw).trans (.modTake fun x => ⟨rfl, id⟩)

theorem State.endTake_records : s.Records (s.endTake n) := by
  unfold State.endTake
  split
  · exact .ite .refl (State.intervalEnd_records.trans State.closeTake_records)
  · exact .refl

theorem State.endTake_ended : (s.endTake n).TakeEnded n := by
  unfold State.endTake
  split
  case h_1 x hx =>
    split
    case isTrue hclosed =>
      intro y hy
      exact Option.some.inj (hx.symm.trans hy) ▸ hclosed
    case isFalse => exact State.closeTake_ended
  case h_2 hnone =>
    intro y hy
    exact absurd (hnone.symm.trans hy) nofun

/-- All the takes end, one after the other. -/
theorem State.endTakes_ended {ls : List LiveTake} : s.Records (ls.foldl (fun t x => t.endTake x.num) s) ∧
    ∀ x ∈ ls, (ls.foldl (fun t x => t.endTake x.num) s).TakeEnded x.num := by
  induction ls generalizing s with
  | nil => exact ⟨.refl, fun x hx => absurd hx List.not_mem_nil⟩
  | cons z ls ih =>
    obtain ⟨hrecords, hended⟩ := ih (s := s.endTake z.num)
    refine ⟨State.endTake_records.trans hrecords, fun x hx => ?_⟩
    rcases List.mem_cons.mp hx with rfl | hx
    · exact hrecords.takes.takeEnded State.endTake_ended
    · exact hended x hx

/-- A pipeline records none of the takes that have ended. -/
theorem State.liveTake_none {p : Nat} (hnodup : (s.rs.takes.map fun x => x.num).Nodup) (h : ∀ x ∈ s.rs.takes, s.TakeEnded x.num) :
    s.liveTake p = none := by
  refine List.find?_eq_none.mpr fun x hx => ?_
  have hfound : s.takeOf x.num = some x := by
    obtain ⟨y, hy⟩ := Option.isSome_iff_exists.mp (List.find?_isSome.mpr ⟨x, hx, decide_eq_true rfl⟩ :
      (s.rs.takes.find? fun t => t.num = x.num).isSome = true)
    have hnum : y.num = x.num := by simpa using List.find?_some hy
    exact hy.trans (congrArg some (List.inj_on_of_nodup_map hnodup (List.mem_of_find?_eq_some hy) hx hnum))
  simp [Option.isNone_eq_false_iff.mpr (h x hx x hfound)]

end

end Sys2Proof.Machine
namespace Sys2Proof.Machine

/-! ### A commit begins (R276) -/

section

variable {s t u : State} {v : Volume} {n id k : Nat}

theorem State.issueRow_records : s.Records (s.issueRow n) := by
  unfold State.issueRow
  split
  · split
    · exact .issue (.modTake fun x => ⟨rfl, id⟩)
    · exact .refl
  · exact .refl

theorem State.closeRow_records : s.Records (s.closeRow n) := by
  unfold State.closeRow
  split
  · extract_lets len u
    have hu : s.Records u := .modTake fun x => ⟨rfl, id⟩
    exact hu.trans (.foldl fun t _ => State.issueRow_records)
  · exact .refl

/-- The cut holds lost entries, and chunks whose rows have all been written (R276). -/
theorem State.takeCut_eq (hv : s.rs.vol = some v) : ∃ jt ji je, (∀ c ∈ ji, c ∈ s.rs.losts ∨ c.rows = []) ∧
    s.takeCut = s.modRec fun x => { x with jTakes := jt, jIdx := ji, jExts := je, phase := 1, fenceAt := s.time.clk } := by
  unfold State.takeCut
  rw [hv]
  dsimp -zeta only
  extract_lets ready entries exts images takes
  refine ⟨_, entries, _, fun c hc => ?_, rfl⟩
  rcases List.mem_append.mp (List.mem_of_mem_take hc) with hlost | hready
  · exact .inl hlost
  · obtain ⟨x, -, hx⟩ := List.mem_flatMap.mp hready
    exact .inr (List.isEmpty_iff.mp (List.mem_filter.mp hx).2)

/-- Every take that records has closed its interval. -/
def State.intervalsEnded (s : State) : State :=
  s.rs.takes.foldl (fun t x => if x.closed.isNone then t.intervalEnd x else t) s

theorem State.intervalsEnded_records : s.Records s.intervalsEnded := .foldl fun _ _ => .ite State.intervalEnd_records .refl

/-- A commit can begin. -/
structure State.CanCommit (s : State) : Prop where
  vol : s.rs.vol.isSome = true
  landed : s.rs.landed = false
  phase : s.rs.phase = 0
  dusk : s.rs.dusk = false
  dead : s.rs.dead = false

theorem State.recCommit_idle (h : ¬s.CanCommit) : s.recCommit = s := by
  refine if_pos ?_
  contrapose! h
  simp only [ne_eq, Bool.or_eq_true, not_or, Bool.not_eq_true, decide_eq_true_eq, not_not, Option.isNone_eq_false_iff] at h
  obtain ⟨⟨⟨⟨hvol, hlanded⟩, hphase⟩, hdusk⟩, hdead⟩ := h
  exact ⟨hvol, hlanded, hphase, hdusk, hdead⟩

theorem State.recCommit_runs (h : s.CanCommit) : s.recCommit =
    s.intervalsEnded.takeCut.rs.takes.foldl (fun t x => t.closeRow x.num) s.intervalsEnded.takeCut := by
  obtain ⟨hvol, hlanded, hphase, hdusk, hdead⟩ := h
  have hnone : s.rs.vol.isNone = false := by simpa [Option.isNone_eq_false_iff] using hvol
  exact if_neg (by simp [hnone, hlanded, hphase, hdusk, hdead])

/-- A commit that begins has its cut; the packets that wait, and those that run, go on. -/
structure State.Begins (s t : State) : Prop where
  packets : t.packets = s.packets
  waiters : t.rs.waiters = s.rs.waiters
  takes : TakesGo s.rs.takes t.rs.takes
  cut : s.CanCommit → t.rs.phase = 1 ∧ t.rs.fenceAt = s.time.clk ∧ ∀ c ∈ t.rs.jIdx, c ∈ s.rs.losts ∨ c.rows = []

theorem State.recCommit_begins : s.Begins s.recCommit := by
  by_cases h : s.CanCommit
  case neg =>
    rw [State.recCommit_idle h]
    exact ⟨rfl, rfl, .refl, fun hs => absurd hs h⟩
  case pos =>
    have hends := s.intervalsEnded_records
    obtain ⟨v, hv⟩ := Option.isSome_iff_exists.mp (hends.vol_isSome.trans h.vol)
    obtain ⟨jt, ji, je, hji, hcut⟩ := State.takeCut_eq hv
    have hrows : s.intervalsEnded.takeCut.Records s.recCommit := by
      rw [State.recCommit_runs h]
      exact .foldl fun t x => State.closeRow_records
    rw [hcut] at hrows
    refine ⟨hrows.packets.trans hends.packets, hrows.waiters.trans hends.waiters, hends.takes.trans hrows.takes, fun _ => ⟨hrows.phase, ?_, ?_⟩⟩
    · exact hrows.fenceAt.trans (congrArg TimeSt.clk hends.time)
    · intro c hc
      rw [hrows.jIdx] at hc
      rw [← hends.losts]
      exact hji c hc

/-- A packet waits for the checkpoint that follows the commit which begins (R278). -/
theorem State.Records.lastCommit (h : s.Records u) :
    let t := (u.modRec fun x => { x with waiters := x.waiters ++ [(id, k)] }).recCommit
    t.packets = s.packets ∧ t.rs.waiters = s.rs.waiters ++ [(id, k)] ∧ TakesGo u.rs.takes t.rs.takes ∧ (s.CanCommit → t.rs.phase = 1) := by
  intro t
  obtain ⟨hpackets, hwaiters, htakes, hcut⟩ :=
    State.recCommit_begins (s := u.modRec fun x => { x with waiters := x.waiters ++ [(id, k)] })
  refine ⟨hpackets.trans h.packets, hwaiters.trans ?_, htakes, fun hs => (hcut ?_).1⟩
  · exact congrArg (· ++ [(id, k)]) h.waiters
  · exact ⟨h.vol_isSome.trans hs.vol, h.landed.trans hs.landed, h.phase.trans hs.phase, h.dusk.trans hs.dusk, h.dead.trans hs.dead⟩

end

/-! ### Packets of the recorder (R289) -/

section

variable {s t u : State} {id op st n : Nat} {q : Packet} {f : Packet → State} {always : Bool}

theorem State.recPacket_runs (h : s.started id op = some q) (hlanded : s.rs.landed = false) (hdusk : s.rs.dusk = false) :
    s.recPacket id op always f = f q := by
  rw [State.recPacket, h]
  exact if_neg (by simp [hlanded, hdusk])

theorem State.recPacket_always (h : s.started id op = some q) : s.recPacket id op true f = f q := by
  rw [State.recPacket, h]
  exact if_neg (by simp)

theorem State.setResult_rs : (s.setResult id st n).rs = s.rs := rfl

theorem State.setResult_media : (s.setResult id st n).media = s.media := rfl

theorem State.setResult_packets (h : t.packets = s.packets) : (t.setResult id st n).packets = (s.setResult id st n).packets := by
  simp only [State.setResult, h]

end

/-! ### MEDIA_SCAN (R261) -/

section

variable {α : Type} {lt : α → α → Bool} {x y : α} {l acc : List α}

theorem mem_insertBy : x ∈ insertBy lt y l ↔ x = y ∨ x ∈ l := by
  induction l with
  | nil => exact List.mem_cons
  | cons z l ih =>
    show x ∈ (if lt y z then y :: z :: l else z :: insertBy lt y l) ↔ _
    split
    · exact List.mem_cons
    · simp only [List.mem_cons, ih]
      tauto

theorem mem_of_mem_foldl_insertBy (h : x ∈ l.foldl (fun acc x => insertBy lt x acc) acc) : x ∈ acc ∨ x ∈ l := by
  induction l generalizing acc with
  | nil => exact .inl h
  | cons y l ih =>
    rcases ih h with h | h
    · rcases mem_insertBy.mp h with rfl | h
      · exact .inr List.mem_cons_self
      · exact .inl h
    · exact .inr (List.mem_cons_of_mem _ h)

theorem mem_of_mem_sortBy (h : x ∈ sortBy lt l) : x ∈ l := (mem_of_mem_foldl_insertBy h).resolve_left List.not_mem_nil

end

/-- The candidates of a scan, in the order in which they are listed. -/
def State.scanCands (s : State) (ports : List MediaPort) : List Cand :=
  ((sortBy (fun a b => a.port < b.port || (a.port = b.port && a.nsid < b.nsid)) (ports.filter fun c => s.graph.portOn 3 c.port)).take
    32).map State.candOf

theorem State.mem_scanCands {s : State} {ports : List MediaPort} {c : Cand} (h : c ∈ s.scanCands ports) :
    ∃ m ∈ ports, c = State.candOf m ∧ s.graph.portOn 3 m.port = true := by
  obtain ⟨m, hm, rfl⟩ := List.mem_map.mp h
  obtain ⟨hport, hon⟩ := List.mem_filter.mp (mem_of_mem_sortBy (List.mem_of_mem_take hm))
  exact ⟨m, hport, rfl, hon⟩

theorem State.mediaScan_eq {s : State} {id : Nat} {ports : List MediaPort} {q : Packet} (h : s.started id 0x100 = some q) : ∃ u,
    s.Tells ShownKeys u ∧ s.mediaScan id ports = (u.modRec fun x => { x with cands := s.scanCands ports, scanned := true }).recShow.setResult
      id stOk ((s.scanCands ports).filter fun c => c.eligible).length := by
  rw [State.mediaScan, State.recPacket_always h]
  exact ⟨_, .ite (.put .refl (.inl ⟨by decide, by decide⟩)) .refl, rfl⟩

end Sys2Proof.Machine
namespace Sys2Proof.Machine

/-! ### What the members hold (R259, R263, R264, R283) -/

theorem length_crcBlock {b : Bytes} (h : b.length ≤ 4092) : (crcBlock b).length = 4096 := by
  simp only [crcBlock, blk4k, List.length_append, List.length_replicate, length_leBytes]
  omega

theorem length_labelBytes (index m r uuid id : Nat) : (labelBytes index m r uuid id).length = 4096 :=
  length_crcBlock (by simp [length_leBytes])

theorem length_rowUnits {m r row : Nat} {data : Bytes} {u : Nat × Bytes} (h : u ∈ rowUnits m r row data) : u.2.length ≤ unitBytes := by
  unfold rowUnits at h
  simp only [List.mem_append] at h
  rcases h with (hdata | hp) | hq
  · obtain ⟨j, -, rfl⟩ := List.mem_map.mp hdata
    dsimp only
    rw [List.getD_eq_getElem?_getD, List.getElem?_map]
    cases (List.range (m - r))[j]? with
    | none => exact Nat.zero_le _
    | some i =>
      rw [Option.map_some, Option.getD_some]
      exact List.length_take_le ..
  · split at hp
    · rw [List.mem_singleton.mp hp]
      simp [xorAll]
    · exact absurd hp List.not_mem_nil
  · split at hq
    · rw [List.mem_singleton.mp hq]
      simp [parityQ]
    · exact absurd hq List.not_mem_nil

theorem Mem.get_zero_in {m : Mem} {a n a' : Nat} (hlo : a ≤ a') (hhi : a' < a + n) : (m.zero a n).get a' = 0 := by
  induction m with
  | nil => rfl
  | cons e m ih =>
    rw [Mem.zero, List.filter_cons]
    split
    case isTrue he =>
      have hne : e.1 ≠ a' := by
        simp only [decide_eq_true_eq] at he
        omega
      rw [Mem.get, lookAt, if_neg hne]
      exact ih
    case isFalse => exact ih

theorem Mem.read_zero_in {m : Mem} {a n k : Nat} (h : k ≤ n) : (m.zero a n).read a k = List.replicate k 0 := by
  refine List.eq_replicate_iff.mpr ⟨by simp [Mem.read], fun b hb => ?_⟩
  obtain ⟨i, hi, rfl⟩ := List.mem_map.mp hb
  have hik : i < k := List.mem_range.mp hi
  exact Mem.get_zero_in (Nat.le_add_right ..) (by omega)

section

variable {s t : State} {v : Volume} {c : Cand} {cs : List Cand} {unit_ row k n lba lba' unit' : Nat} {b data : Bytes} {skip : List Nat}
  {f : Cand × Nat → Bytes} {l : List (Cand × Nat)}

theorem State.mediaRead_congr (h : t.media = s.media) : t.mediaRead unit_ lba n = s.mediaRead unit_ lba n := by
  rw [State.mediaRead, State.mediaRead, h]

theorem State.mediaWrite_rising (h : rising s.media = true) : rising (s.mediaWrite unit_ lba b).media = true := Mem.rising_write h

theorem State.mediaRead_mediaWrite_same (h : rising s.media = true) (hn : b.length = n) : (s.mediaWrite unit_ lba b).mediaRead unit_ lba n = b :=
  Mem.read_write_same h hn

/-- The blocks of a unit lie before those of the units that follow it. -/
theorem State.mediaAt_add_le {lba' n : Nat} (h : unit_ < unit') (hlen : lba * 4096 + n ≤ 2 ^ 60) : mediaAt unit_ lba + n ≤ mediaAt unit' lba' :=
  have hmul : unit_ * 2 ^ 60 + 2 ^ 60 ≤ unit' * 2 ^ 60 := (Nat.succ_mul ..).symm.trans_le (Nat.mul_le_mul_right _ h)
  calc mediaAt unit_ lba + n = unit_ * 2 ^ 60 + (lba * 4096 + n) := Nat.add_assoc ..
    _ ≤ unit_ * 2 ^ 60 + 2 ^ 60 := Nat.add_le_add_left hlen _
    _ ≤ unit' * 2 ^ 60 := hmul
    _ ≤ mediaAt unit' lba' := Nat.le_add_right ..

/-- A block 0 stands while something that is no longer than a unit is written elsewhere. -/
theorem State.mediaRead_mediaWrite_apart (hb : b.length ≤ 0x100000) (h : unit_ ≠ unit' ∨ 1 ≤ lba) (hlba : lba ≤ 2 ^ 47) :
    (s.mediaWrite unit_ lba b).mediaRead unit' 0 4096 = s.mediaRead unit' 0 4096 := by
  refine Mem.read_write_out ?_
  rcases Nat.lt_trichotomy unit' unit_ with hlt | rfl | hgt
  · exact .inl (State.mediaAt_add_le hlt (by decide))
  · have hlater : 4096 ≤ lba * 4096 := Nat.le_mul_of_pos_left 4096 (h.resolve_left fun hne => hne rfl)
    refine .inl ?_
    rw [State.mediaAt, State.mediaAt, Nat.zero_mul, Nat.add_zero]
    exact Nat.add_le_add_left hlater _
  · exact .inr (State.mediaAt_add_le hgt ((Nat.add_le_add (Nat.mul_le_mul_right 4096 hlba) hb).trans (by decide)))

theorem State.rowStore_label (hrow : row ≤ 2 ^ 32) :
    (s.rowStore v row data skip).mediaRead unit_ 0 4096 = s.mediaRead unit_ 0 4096 := by
  unfold State.rowStore
  refine List.foldlRecOn _ _ (motive := fun t : State => t.mediaRead unit_ 0 4096 = s.mediaRead unit_ 0 4096) rfl fun t ht u hu => ?_
  split
  · exact ht
  split
  · have hlen : u.2.length ≤ 0x100000 := length_rowUnits hu
    exact (State.mediaRead_mediaWrite_apart hlen (.inr (by omega)) (by omega)).trans ht
  · exact ht

/-- The state but for what the members hold. -/
def State.unstored (s : State) : State := { s with media := [] }

theorem State.packets_of_unstored (h : t.unstored = s.unstored) : t.packets = s.packets := (congrArg State.packets h :)

theorem State.mediaWrite_unstored : (s.mediaWrite unit_ lba b).unstored = s.unstored := rfl

theorem State.rowStore_unstored : (s.rowStore v row data skip).unstored = s.unstored := by
  unfold State.rowStore
  refine List.foldlRecOn _ _ (motive := fun t : State => t.unstored = s.unstored) rfl fun t ht u _ => ?_
  split
  · exact ht
  split
  · exact State.mediaWrite_unstored.trans ht
  · exact ht

theorem State.labels_other (hlen : ∀ x, (f x).length = 4096) (h : ∀ x ∈ l, x.1.unit_ ≠ unit_) :
    (l.foldl (fun (t : State) x => t.mediaWrite x.1.unit_ 0 (f x)) s).mediaRead unit_ 0 4096 = s.mediaRead unit_ 0 4096 :=
  List.foldlRecOn l _ (motive := fun t : State => t.mediaRead unit_ 0 4096 = s.mediaRead unit_ 0 4096) rfl fun _ ht x hx =>
    (State.mediaRead_mediaWrite_apart (by rw [hlen]; decide) (.inl (h x hx)) (Nat.zero_le _)).trans ht

/-- Labels on different units stand beside each other. -/
theorem State.labels_read {x : Cand × Nat} (hlen : ∀ x, (f x).length = 4096) (hnodup : (l.map fun x => x.1.unit_).Nodup)
    (hr : rising s.media = true) (hx : x ∈ l) :
    (l.foldl (fun (t : State) x => t.mediaWrite x.1.unit_ 0 (f x)) s).mediaRead x.1.unit_ 0 4096 = f x := by
  induction l generalizing s with
  | nil => exact absurd hx List.not_mem_nil
  | cons y l ih =>
    obtain ⟨hy, hl⟩ := List.nodup_cons.mp hnodup
    rw [List.foldl_cons]
    rcases List.mem_cons.mp hx with rfl | hx
    · refine (State.labels_other hlen fun z hz heq => hy (List.mem_map.mpr ⟨z, hz, heq⟩)).trans ?_
      exact State.mediaRead_mediaWrite_same hr (hlen x)
    · exact ih hl (State.mediaWrite_rising hr) hx

/-! ### MEDIA_FORMAT (R266) -/

/-- The members of a new volume with their labels, the rest of their tables zero. -/
def State.labelled (s : State) (v : Volume) (cs : List Cand) : State :=
  cs.zipIdx.foldl (fun (t : State) c => t.mediaWrite c.1.unit_ 0 (labelBytes c.2 v.m v.r v.uuid (memberId c.1.identity))) (s.formatZero v)

/-- A new volume: its labels, and the first row and the last with their superblocks. -/
def State.formatted (s : State) (v : Volume) (cs : List Cand) : State :=
  ((s.labelled v cs).rowStore v 0 (superRow v true) []).rowStore v (v.rows - 1) (superRow v false) []

/-- The new volume written, and not open. -/
def State.volumeWritten (s : State) (v : Volume) (cs : List Cand) : State :=
  ((s.formatted v cs).modRec fun x => { x with vol := none, dead := false }).recShow

theorem State.formatted_unstored : (s.formatted v cs).unstored = s.unstored := by
  have hlabelled : (s.labelled v cs).unstored = s.unstored :=
    List.foldlRecOn _ _ (motive := fun t : State => t.unstored = s.unstored) rfl fun _ ht _ _ => State.mediaWrite_unstored.trans ht
  exact State.rowStore_unstored.trans (State.rowStore_unstored.trans hlabelled)

theorem State.volumeWritten_vol : (s.volumeWritten v cs).rs.vol = none := by
  rw [State.volumeWritten, State.tells_recShow.rs]
  rfl

theorem State.volumeWritten_packets : (s.volumeWritten v cs).packets = s.packets := by
  rw [State.volumeWritten, State.tells_recShow.packets, State.modRec_packets]
  exact State.packets_of_unstored State.formatted_unstored

theorem State.volumeWritten_media : (s.volumeWritten v cs).media = (s.formatted v cs).media := by
  rw [State.volumeWritten, State.tells_recShow.media]
  rfl

theorem State.formatted_label (hr : rising s.media = true) (hnodup : (cs.map fun c => c.unit_).Nodup) (hrows : v.rows ≤ 2 ^ 32)
    (hk : cs[k]? = some c) : (s.formatted v cs).mediaRead c.unit_ 0 4096 = labelBytes k v.m v.r v.uuid (memberId c.identity) := by
  have hzero : rising (s.formatZero v).media = true := rising_filter hr
  have hunits : (cs.zipIdx.map fun x => x.1.unit_).Nodup := by
    have hmap : (cs.zipIdx.map fun x => x.1.unit_) = cs.map fun c => c.unit_ := by
      rw [← List.zipIdx_map_fst 0 cs, List.map_map]
      simp [Function.comp_def]
    rwa [hmap]
  rw [State.formatted, State.rowStore_label (by omega), State.rowStore_label (by omega)]
  exact State.labels_read (x := (c, k)) (f := fun c => labelBytes c.2 v.m v.r v.uuid (memberId c.1.identity))
    (fun x => length_labelBytes ..) hunits hzero (List.mk_mem_zipIdx_iff_getElem?.mpr hk)

theorem volumeRows_le {blocks : List Nat} {d : Nat} (hd : 1 ≤ d) : volumeRows blocks d ≤ 2 ^ 32 := by
  have h : 2 ^ 40 / (d * 256) ≤ 2 ^ 40 / 256 := Nat.div_le_div_left (by omega) (by decide)
  exact (Nat.min_le_right ..).trans (h.trans (by decide))

/-- The arguments of a format that is carried out. -/
structure FormatArgs (s : State) (q : Packet) (idx : List Nat) (cs : List Cand) : Prop where
  some_ : 2 ≤ idx.length
  parity : fieldLe q.body 20 1 ≤ 2
  data : fieldLe q.body 20 1 < idx.length
  listed : cs.length = idx.length
  eligible : ∀ c ∈ cs, c.eligible = true
  cands : ∀ c ∈ cs, c ∈ s.rs.cands
  index : fieldLe q.body 21 1 = 0 ∨ (20 ≤ fieldLe q.body 21 1 ∧ fieldLe q.body 21 1 ≤ 32)
  journal : fieldLe q.body 22 2 = 0 ∨ 64 ≤ fieldLe q.body 22 2
  exch : fieldLe q.body 32 8 ≤ 268435456

theorem State.mediaFormat_eq {id uuid now : Nat} {q : Packet} (hq : s.started id 0x101 = some q) (hlanded : s.rs.landed = false)
    (hdusk : s.rs.dusk = false) (htakes : s.rs.takes = []) :
    let idx := (List.range 32).filter fun i => bit (fieldLe q.body 16 4) i
    let cs := idx.filterMap fun i => s.rs.cands[i]?
    let rows := volumeRows (cs.map fun c => c.blocks) (idx.length - fieldLe q.body 20 1)
    let rb := (idx.length - fieldLe q.body 20 1) * 256
    FormatArgs s q idx cs →
    ((layRegions rows rb (if fieldLe q.body 21 1 = 0 then 27 else fieldLe q.body 21 1)
      (if fieldLe q.body 22 2 = 0 then 1024 else fieldLe q.body 22 2) (fieldLe q.body 24 8) (fieldLe q.body 32 8)).getD 6 (0, 0)).1 + rb
      < rows * rb →
    ∃ v : Volume, v.m = idx.length ∧ v.r = fieldLe q.body 20 1 ∧ v.uuid = uuid % 2 ^ 128 ∧ v.rows = rows ∧
      s.mediaFormat id uuid now = (s.volumeWritten v cs).setResult id stOk idx.length := by
  intro idx cs rows rb hargs hfit
  obtain ⟨hsome, hparity, hdata, hlisted, heligible, hcands, hindex, hjournal, hexch⟩ := hargs
  have hany : (s.rs.cands.any fun c => c.eligible) = true := by
    obtain ⟨c, hc⟩ := List.exists_mem_of_length_pos (show 0 < cs.length by omega)
    exact List.any_eq_true.mpr ⟨c, hcands c hc, heligible c hc⟩
  have hall : (cs.any fun c => !c.eligible) = false := List.any_eq_false.mpr fun c hc => by simp [heligible c hc]
  rw [State.mediaFormat, State.recPacket_runs hq hlanded hdusk]
  extract_lets a mask idx' cs' m r n j n' j' rows' rb' regions v u w
  have hn : ¬n' < 20 ∧ ¬32 < n' := by
    dsimp only [n', n, a]
    split
    case isTrue => decide
    case isFalse h0 => exact ⟨Nat.not_lt.mpr (hindex.resolve_left h0).1, Nat.not_lt.mpr (hindex.resolve_left h0).2⟩
  have hj : ¬j' < 64 := by
    dsimp only [j', j, a]
    split
    case isTrue => decide
    case isFalse h0 => exact Nat.not_lt.mpr (hjournal.resolve_left h0)
  refine ⟨v, rfl, rfl, rfl, rfl, Eq.trans (if_neg (by simp [htakes])) (Eq.trans (if_neg ?_) (Eq.trans (if_neg ?_) (if_neg ?_)))⟩
  · simp only [hany, Bool.not_true, Bool.or_false, decide_eq_true_eq]
    exact fun h0 : idx.length = 0 => absurd (h0 ▸ hsome) (by decide)
  · simp only [Bool.or_eq_true, decide_eq_true_eq, not_or]
    refine ⟨⟨⟨⟨⟨⟨⟨⟨?_, ?_⟩, ?_⟩, ?_⟩, ?_⟩, hn.1⟩, hn.2⟩, hj⟩, ?_⟩
    · exact Nat.not_lt.mpr hsome
    · exact Nat.not_lt.mpr hparity
    · exact Nat.not_le.mpr hdata
    · exact not_not.mpr hlisted
    · exact Bool.eq_false_iff.mp hall
    · exact Nat.not_lt.mpr hexch
  · exact Nat.not_le.mpr hfit

end

end Sys2Proof.Machine
namespace Sys2Proof.Machine

/-! ### MEDIA_OPEN (R268, R274, R289) -/

section

variable {s : State} {v blank : Volume} {uuid top absent typ slot n fuel id st m : Nat} {b : Bytes} {units : List Nat} {q : Packet}

/-- A superblock that counts names as many members as the labels do. -/
theorem State.superblock_members (h : s.superblock blank uuid top = some b) : fieldLe b 6 1 = blank.m := by
  unfold State.superblock at h
  extract_lets ok rb head tailAt at h
  have hok : ∀ c, ok c = true → fieldLe c 6 1 = blank.m := fun c hc => by
    simp only [ok, Bool.and_eq_true, decide_eq_true_eq] at hc
    obtain ⟨⟨⟨-, hm⟩, -⟩, -⟩ := hc
    exact hm
  by_cases hhead : ok head = true
  · rw [if_pos hhead] at h
    obtain rfl := Option.some.inj h
    split
    case isTrue htail => exact hok _ (Bool.and_eq_true_iff.mp htail).1
    case isFalse => exact hok _ hhead
  · rw [if_neg hhead] at h
    obtain ⟨i, hi, rfl⟩ := Option.map_eq_some_iff.mp h
    have hfound := List.find?_some hi
    exact hok _ (Bool.and_eq_true_iff.mp hfound).1

theorem leNat_lt (b : Bytes) : leNat b < 256 ^ b.length := by
  induction b with
  | nil => exact Nat.one_pos
  | cons x b ih =>
    have hx : x.toNat < 256 := x.isLt
    calc x.toNat + 256 * leNat b < 256 + 256 * leNat b := Nat.add_lt_add_right hx _
      _ = 256 * (leNat b + 1) := by rw [Nat.mul_succ, Nat.add_comm]
      _ ≤ 256 * 256 ^ b.length := Nat.mul_le_mul_left 256 ih
      _ = 256 ^ (x :: b).length := Nat.pow_succ'.symm

theorem fieldLe_lt {i n : Nat} : fieldLe b i n < 256 ^ n :=
  Nat.lt_of_lt_of_le (leNat_lt _) (Nat.pow_le_pow_right (by decide) (List.length_take_le ..))

theorem State.applyRec_m : (State.applyRec absent v typ slot b).m = v.m := by
  unfold State.applyRec
  split <;> rfl

theorem State.applyRecs_m : (State.applyRecs absent v n b).m = v.m := by
  induction n generalizing v b with
  | zero => rfl
  | succ n ih => exact ih.trans State.applyRec_m

theorem State.replay_m : (s.replay absent v fuel).m = v.m := by
  induction fuel generalizing v with
  | zero => rfl
  | succ fuel ih =>
    rw [State.replay]
    split
    · rfl
    · extract_lets recs w
      split
      · rfl
      · exact ih.trans State.applyRecs_m

/-- The member count of a group, read back from the bytes that stand for its labels. -/
theorem superDecode_blank_m {r : Nat} (hm : m < 256) :
    (State.superDecode (crcBlock (List.replicate 6 0 ++ leBytes 1 m ++ leBytes 1 r)) units absent).m = m := by
  show fieldLe (crcBlock (List.replicate 6 0 ++ leBytes 1 m ++ leBytes 1 r)) 6 1 = m
  rw [fieldLe, crcBlock, blk4k]
  simp only [List.append_assoc]
  rw [List.drop_left' (List.length_replicate ..), List.take_left' (length_leBytes ..), leNat_leBytes]
  exact Nat.mod_eq_of_lt hm

theorem State.tells_volumeOpened : ∃ u, s.volumeOpened v = State.recShow u ∧ u.packets = s.packets ∧ u.media = s.media ∧
    v.uuid ∈ u.nv.unclosed ∧ u.rs.vol = some v ∧ u.rs.takes = [] ∧ u.rs.landed = false ∧ u.rs.dusk = false ∧ u.rs.phase = 0 :=
  ⟨_, rfl, rfl, rfl, List.mem_cons_self, rfl, rfl, rfl, rfl, rfl⟩

/-- How an open ends: with its result and, when that is ST_OK, with a volume of `n` members. -/
structure State.OpenEnds (s t : State) (id st n : Nat) : Prop where
  packets : t.packets = (s.setResult id st n).packets
  media : t.media = s.media
  code : st = stOk ∨ st = stDenied ∨ st = stBusy ∨ st = stNoMedia ∨ st = stVolBad
  refused : st ≠ stOk → t = { s with packets := t.packets }
  opened : st = stOk → ∃ v, t.rs.vol = some v ∧ v.m = n ∧ v.uuid ∈ t.nv.unclosed ∧ t.rs.takes = [] ∧ t.rs.landed = false ∧ t.rs.dusk = false ∧
    t.rs.phase = 0

theorem State.OpenEnds.refusal (h : st = stDenied ∨ st = stBusy ∨ st = stNoMedia ∨ st = stVolBad) : s.OpenEnds (s.setResult id st 0) id st 0 := by
  have hne : st ≠ stOk := by rcases h with rfl | rfl | rfl | rfl <;> decide
  exact ⟨rfl, rfl, .inr h, fun _ => rfl, fun hok => absurd hok hne⟩

theorem State.OpenEnds.success (hm : v.m = n) : s.OpenEnds ((s.volumeOpened v).setResult id stOk n) id stOk n := by
  obtain ⟨u, heq, hpackets, hmedia, hmem, hvol, htakes, hlanded, hdusk, hphase⟩ := State.tells_volumeOpened (s := s) (v := v)
  have htells : u.Tells ShownKeys u.recShow := State.tells_recShow
  rw [heq]
  refine ⟨State.setResult_packets (htells.packets.trans hpackets), htells.media.trans hmedia, .inl rfl, fun hne => absurd rfl hne, fun _ => ⟨v, ?_⟩⟩
  have hrs : (u.recShow.setResult id stOk n).rs = u.rs := htells.rs
  have hnv : (u.recShow.setResult id stOk n).nv = u.nv := htells.nv
  rw [hrs, hnv]
  exact ⟨hvol, hm, hmem, htakes, hlanded, hdusk, hphase⟩

/-- The result of an open that finds the recorder landing, takes live or no candidate to open (R266). -/
structure State.OpenCode (s : State) (st : Nat) : Prop where
  lands : s.rs.dusk = true → st = stDenied
  busy : s.rs.dusk = false → s.rs.landed = false → s.rs.takes ≠ [] → st = stBusy
  none_ : (∀ c ∈ s.rs.cands, c.eligible = false) → s.rs.dusk = false → s.rs.landed = false → s.rs.takes = [] → st = stNoMedia

/-- What an open answers: it is refused while REC lands, while takes drain, and without a candidate, in this order; else it finds a
volume, or none. -/
theorem State.mediaOpen_ends (h : s.started id 0x102 = some q) : ∃ st n, s.OpenEnds (s.mediaOpen id) id st n ∧ s.OpenCode st := by
  rw [State.mediaOpen, State.recPacket_always h]
  split
  case isTrue hlands =>
    refine ⟨stDenied, 0, .refusal (.inl rfl), fun _ => rfl, fun hdusk hlanded => ?_, fun _ hdusk hlanded => ?_⟩
    all_goals simp [hdusk, hlanded] at hlands
  case isFalse hlands =>
    have hup : ¬s.rs.dusk = true := fun hdusk => hlands (by rw [hdusk]; rfl)
    split
    case isTrue htakes =>
      exact ⟨stBusy, 0, .refusal (.inr (.inl rfl)), fun h => absurd h hup, fun _ _ _ => rfl, fun _ _ _ hnone => by simp [hnone] at htakes⟩
    case isFalse htakes =>
      have hnone : s.rs.takes = [] := by simpa using htakes
      extract_lets labels good
      split
      case isTrue hcands =>
        exact ⟨stNoMedia, 0, .refusal (.inr (.inr (.inl rfl))), fun h => absurd h hup, fun _ _ hsome => absurd hnone hsome, fun _ _ _ _ => rfl⟩
      case isFalse hcands =>
        have hcode (st : Nat) : s.OpenCode st := by
          refine ⟨fun h => absurd h hup, fun _ _ hsome => absurd hnone hsome, fun hall => ?_⟩
          have hany : (s.rs.cands.any fun c => c.eligible) = false := List.any_eq_false.mpr fun c hc => by simp [hall c hc]
          exact absurd (by rw [hany]; rfl) hcands
        have hbad : s.OpenEnds (s.setResult id stVolBad 0) id stVolBad 0 := .refusal (.inr (.inr (.inr rfl)))
        split
        · exact ⟨_, _, hbad, hcode _⟩
        next l0 hl0 =>
          extract_lets uuid m r member absent missing units blank top
          split
          · exact ⟨_, _, hbad, hcode _⟩
          split
          · exact ⟨_, _, hbad, hcode _⟩
          next b hb =>
            extract_lets v w
            have hv : v.m = blank.m := State.superblock_members hb
            have hlt : m < 256 := fieldLe_lt (n := 1)
            have hm : w.m = m := State.replay_m.trans (hv.trans (superDecode_blank_m hlt))
            exact ⟨_, _, .success hm, hcode _⟩

end

end Sys2Proof.Machine
namespace Sys2Proof.Machine

/-! ### MEDIA_CLOSE (R278), REBUILD and REBUILD_ROW (R282, R283) -/

section

variable {s : State} {v : Volume} {c : Cand} {id k unit_ n : Nat} {q : Packet} {label : Bytes}

/-- The takes end one after the other, and the last commit begins, with the close waiting for its checkpoint. -/
theorem State.mediaClose_eq (hq : s.started id 0x103 = some q) (hlanded : s.rs.landed = false) (hdusk : s.rs.dusk = false)
    (hvol : s.rs.vol.isSome = true) (hdead : s.rs.dead = false) : s.mediaClose id =
      ((s.rs.takes.foldl (fun t x => t.endTake x.num) s).modRec fun x => { x with waiters := x.waiters ++ [(id, 1)] }).recCommit := by
  have hnone : s.rs.vol.isNone = false := by simpa [Option.isNone_eq_false_iff] using hvol
  rw [State.mediaClose, State.recPacket_runs hq hlanded hdusk, if_neg (by simp [hnone]), State.volumeClose, if_neg (by simp [hdead])]

theorem State.labelUnit_label (hr : rising s.media = true) (hn : label.length = 4096) :
    (s.labelUnit unit_ label).mediaRead unit_ 0 4096 = label :=
  State.mediaRead_mediaWrite_same (rising_filter hr) hn

theorem State.labelUnit_zeros (hn : label.length = 4096) :
    (s.labelUnit unit_ label).mediaRead unit_ 1 (255 * 4096) = List.replicate (255 * 4096) 0 := by
  have hapart : State.mediaAt unit_ 0 + label.length ≤ State.mediaAt unit_ 1 := by
    rw [hn, State.mediaAt, State.mediaAt]
  exact (Mem.read_write_out (.inr hapart)).trans (Mem.read_zero_in (Nat.le_refl _))

/-- The volume with its new member, none of which is rebuilt yet. -/
def Volume.replaced (v : Volume) (k : Nat) (c : Cand) : Volume :=
  { v with
    ports := v.ports.set k c.unit_, ids := v.ids.set k (memberId c.identity), failed := v.failed - 2 ^ k, rebuilding := 2 ^ k, progress := 0 }

/-- The replacement has its label, and its rebuild begins. -/
def State.rebuildBegun (s : State) (k : Nat) (c : Cand) (label : Bytes) : State :=
  (((s.labelUnit c.unit_ label).modVol fun v => v.replaced k c).modRec fun x => { x with rebuild := some k, dirtyMembers := true }).recShow

theorem State.rebuildBegun_rs : (s.rebuildBegun k c label).rs =
    { s.rs with vol := s.rs.vol.map fun v => v.replaced k c, rebuild := some k, dirtyMembers := true } := State.tells_recShow.rs

theorem State.rebuildBegun_packets : (s.rebuildBegun k c label).packets = s.packets := State.tells_recShow.packets

theorem State.rebuildBegun_media : (s.rebuildBegun k c label).media = (s.labelUnit c.unit_ label).media := State.tells_recShow.media

theorem State.rebuildPkt_eq (hq : s.started id 0x107 = some q) (hlanded : s.rs.landed = false) (hdusk : s.rs.dusk = false)
    (hvol : s.rs.vol = some v) (hcand : s.rs.cands[fieldLe q.body 17 1]? = some c) (hk : fieldLe q.body 16 1 = k) (hlt : k < v.m)
    (hfailed : bit v.failed k = true) (heligible : c.eligible = true) (hnew : v.ports.contains c.unit_ = false)
    (hrows : v.rows ≤ (c.blocks - 256) / 256) (hidle : v.rebuilding = 0) :
    s.rebuildPkt id = (s.rebuildBegun k c (labelBytes k v.m v.r v.uuid (memberId c.identity))).setResult id stOk 0 := by
  subst hk
  rw [State.rebuildPkt, State.recPacket_runs hq hlanded hdusk, hvol, hcand]
  dsimp -zeta only
  rw [if_neg (by simpa [hfailed, heligible, Nat.not_le.mpr hlt, Nat.not_lt.mpr hrows] using hnew), if_neg (by simp [hidle])]
  rfl

/-- A record raised before the recorder shows its state stands after it. -/
theorem State.recShow_ev {typ src inst payload : Nat} : ∃ e ∈ (s.ev typ src inst payload).recShow.raised, e.typ = typ ∧ e.src = src ∧
    e.inst = inst := by
  obtain ⟨e, hraised, htyp, hsrc, hinst⟩ := s.ev_appends (typ := typ) (src := src) (inst := inst) (payload := payload)
  have hmem : e ∈ (s.ev typ src inst payload).raised := hraised ▸ List.mem_append_right _ List.mem_cons_self
  exact ⟨e, State.tells_recShow.mem_raised hmem, htyp, hsrc, hinst⟩

/-- A row is rebuilt: it is written, the volume is one row on, and the last one ends the rebuild with its event (R289). -/
theorem State.rebuildRow_eq {units : List Bytes} (hvol : s.rs.vol = some v) (hk : s.rs.rebuild = some k) (hmore : v.progress < v.rows)
    (hlanded : s.rs.landed = false) (hdusk : s.rs.dusk = false) (hdead : s.rs.dead = false)
    (hunits : rebuildData v.m v.r v.progress unitBytes (fun m => if m = k then none else s.memberUnit v v.progress m) = some units) :
    ∃ w y : State, s.rebuildRow [] = (if v.progress + 1 = v.rows then (y.ev 0x0082 srcREC k k).recShow else w.recShow) ∧
      (∃ v', w.rs.vol = some v' ∧ v'.progress = v.progress + 1) ∧ (∃ v', y.rs.vol = some v' ∧ v'.progress = v.progress + 1) ∧
      y.rs.rebuild = none := by
  unfold State.rebuildRow
  rw [hvol, hk]
  dsimp -zeta only
  extract_lets row get
  have hget : get = fun m => if m = k then none else s.memberUnit v v.progress m := by
    funext m
    simp [get, row]
  rw [if_neg (by simpa [hlanded, hdusk, hdead] using hmore), hget, show row = v.progress from rfl, hunits]
  dsimp -zeta only
  extract_lets own u w x y
  have huvol : u.rs.vol = some v := by
    dsimp only [u]
    split <;> exact hvol
  have hwvol : w.rs.vol = some { v with progress := v.progress + 1 } := congrArg (Option.map _) huvol
  exact ⟨_, y, rfl, ⟨_, hwvol, rfl⟩, ⟨_, congrArg (Option.map _) hwvol, rfl⟩, rfl⟩

theorem State.rebuildRow_advances {units : List Bytes} (hvol : s.rs.vol = some v) (hk : s.rs.rebuild = some k) (hmore : v.progress < v.rows)
    (hlanded : s.rs.landed = false) (hdusk : s.rs.dusk = false) (hdead : s.rs.dead = false)
    (hunits : rebuildData v.m v.r v.progress unitBytes (fun m => if m = k then none else s.memberUnit v v.progress m) = some units) :
    ∃ w, (s.rebuildRow []).rs.vol = some w ∧ w.progress = v.progress + 1 ∧ (v.progress + 1 = v.rows →
      (s.rebuildRow []).rs.rebuild = none ∧ ∃ e ∈ (s.rebuildRow []).raised, e.typ = 0x0082 ∧ e.src = srcREC) := by
  obtain ⟨w, y, heq, ⟨vw, hw, hwprogress⟩, ⟨vy, hy, hyprogress⟩, hend⟩ := State.rebuildRow_eq hvol hk hmore hlanded hdusk hdead hunits
  rw [heq]
  split
  case isTrue hlast =>
    have hshow : (y.ev 0x0082 srcREC k k).Tells ShownKeys (State.recShow _) := State.tells_recShow
    obtain ⟨e, he, htyp, hsrc, -⟩ := State.recShow_ev (s := y) (typ := 0x0082) (src := srcREC) (inst := k) (payload := k)
    rw [hshow.rs]
    exact ⟨vy, hy, hyprogress, fun _ => ⟨hend, e, he, htyp, hsrc⟩⟩
  case isFalse hmore =>
    rw [State.tells_recShow.rs]
    exact ⟨vw, hw, hwprogress, fun hlast => absurd hlast hmore⟩

end

/-- Settles O34: each command's equation, with what its report leaves: the recorder, the packets and the media. -/
theorem recorderVolumes : Obligations.RecorderVolumes := by
  refine ⟨?_, ?_, ?_, ?_, ?_, ?_⟩
  · intro id ports q s hq
    obtain ⟨u, hu, heq⟩ := State.mediaScan_eq (ports := ports) hq
    have hshow : (u.modRec fun x => { x with cands := s.scanCands ports, scanned := true }).Tells ShownKeys (State.recShow _) :=
      State.tells_recShow
    have hrs : (s.mediaScan id ports).rs = { u.rs with cands := s.scanCands ports, scanned := true } := by
      rw [heq]
      exact hshow.rs
    refine ⟨_, exec_mediaScan .., ?_, ?_, fun c hc => ?_, ?_, ?_⟩
    · rw [hrs]
    · rw [hrs]
      exact (List.length_map ..).trans_le (List.length_take_le ..)
    · rw [hrs] at hc
      exact State.mem_scanCands hc
    · rw [hrs, heq]
      exact State.setResult_packets (hshow.packets.trans hu.packets)
    · rw [heq]
      exact hshow.media.trans hu.media
  · intro id uuid now q s hq hlanded hdusk htakes hr a idx cs rows rb h2 hpar hdata hlen helig hnodup hindex hjournal hexch hfit
    have hcands : ∀ c ∈ cs, c ∈ s.rs.cands := fun c hc => by
      obtain ⟨i, -, hi⟩ := List.mem_filterMap.mp hc
      exact List.mem_of_getElem? hi
    obtain ⟨v, hm, hvr, huuid, hrows, heq⟩ := State.mediaFormat_eq (uuid := uuid) (now := now) hq hlanded hdusk htakes
      ⟨h2, hpar, hdata, hlen, helig, hcands, hindex, hjournal, hexch⟩ hfit
    have hle : v.rows ≤ 2 ^ 32 := hrows.trans_le (volumeRows_le (Nat.sub_pos_of_lt hdata))
    refine ⟨_, exec_mediaFormat .., ?_, ?_, fun k c hk => ?_⟩
    · rw [heq]
      exact State.volumeWritten_vol
    · rw [heq]
      exact State.setResult_packets State.volumeWritten_packets
    · have hlabel := State.formatted_label hr hnodup hle hk
      rw [hm, hvr, huuid] at hlabel
      rw [heq]
      exact (State.mediaRead_congr (State.setResult_media.trans State.volumeWritten_media)).trans hlabel
  · intro id q s hq
    obtain ⟨st, n, hends, hcode⟩ := State.mediaOpen_ends hq
    exact ⟨_, st, n, exec_mediaOpen .., hends.packets, hends.media, hends.code, hends.refused, hends.opened, hcode.lands, hcode.busy,
      hcode.none_⟩
  · intro id q s hq hlanded hdusk hvol hdead hnodup
    have heq := State.mediaClose_eq hq hlanded hdusk hvol hdead
    obtain ⟨hrecords, hended⟩ := State.endTakes_ended (s := s) (ls := s.rs.takes)
    obtain ⟨hpackets, hwaiters, htakes, hphase⟩ := hrecords.lastCommit (id := id) (k := 1)
    rw [← heq] at hpackets hwaiters htakes hphase
    have hall : TakesGo s.rs.takes (s.mediaClose id).rs.takes := hrecords.takes.trans htakes
    refine ⟨_, exec_mediaClose .., hwaiters, hpackets, fun p => State.liveTake_none (hall.nums ▸ hnodup) fun y hy => ?_, fun h0 => ?_⟩
    · obtain ⟨x, hx, hnum⟩ := List.mem_map.mp (hall.nums ▸ List.mem_map_of_mem hy : y.num ∈ s.rs.takes.map fun x => x.num)
      exact hnum ▸ htakes.takeEnded (hended x hx)
    · exact hphase ⟨hvol, hlanded, h0, hdusk, hdead⟩
  · intro id q v c s hq hlanded hdusk hvol hcand hr k hk hfailed helig hnew hrows hidle
    have heq := State.rebuildPkt_eq hq hlanded hdusk hvol hcand rfl hk hfailed helig hnew hrows hidle
    have hlabel : (labelBytes k v.m v.r v.uuid (memberId c.identity)).length = 4096 := length_labelBytes ..
    generalize labelBytes k v.m v.r v.uuid (memberId c.identity) = label at heq hlabel ⊢
    refine ⟨_, v.replaced k c, exec_rebuild .., ?_, rfl, rfl, rfl, ?_, ?_, ?_, ?_⟩
    all_goals rw [heq]
    · rw [State.setResult_rs, State.rebuildBegun_rs, hvol, Option.map_some]
    · rw [State.setResult_rs, State.rebuildBegun_rs]
    · exact State.setResult_packets State.rebuildBegun_packets
    · exact (State.mediaRead_congr (State.setResult_media.trans State.rebuildBegun_media)).trans (State.labelUnit_label hr hlabel)
    · exact (State.mediaRead_congr (State.setResult_media.trans State.rebuildBegun_media)).trans
        (State.labelUnit_zeros hlabel)
  · intro k v units s hon hvol hk hmore hlanded hdusk hdead hunits
    obtain ⟨w, hw, hprogress, hlast⟩ := State.rebuildRow_advances hvol hk hmore hlanded hdusk hdead hunits
    refine ⟨_, w, ?_, hw, hprogress, hlast⟩
    rw [exec_rebuildRow, execRebuildRow, State.onRec, if_pos hon]

end Sys2Proof.Machine
namespace Sys2Proof.Machine

/-! ### Takes start and stop (R280) -/

section

variable {s t : State} {v : Volume} {x : LiveTake} {q : Packet} {id p fid row : Nat} {more : List Nat}

theorem State.modVol_of_vol {f : Volume → Volume} (h : s.rs.vol = some v) : s.modVol f = s.modRec fun r => { r with vol := some (f v) } := by
  rw [State.modVol, State.modRec, State.modRec, show s.recorder.vol = some v from h, Option.map_some]

/-- The state but for the recorder. -/
def State.besideRec (s : State) : State := { s with recorder := RecSt.init }

theorem State.eq_of_besideRec (h : t.besideRec = s.besideRec) : t = { s with recorder := t.recorder } :=
  (congrArg (fun u : State => { u with recorder := t.recorder }) h :)

/-- A take enters: the table counts it, and it joins the takes that record. -/
structure State.TakeEnters (s : State) (v : Volume) (p : Nat) (w : Volume) (x : LiveTake) (u : State) : Prop where
  next : w.nextTake = v.nextTake + 1
  num : x.num = v.nextTake
  closed : x.closed = none
  pipe : x.pipe = p
  vol : u.rs.vol = some w
  takes : u.rs.takes = s.rs.takes ++ [x]
  beside : u.besideRec = s.besideRec

/-- A take starts: it enters, and its event and REC_STAT tell of it. -/
theorem State.takeStart_eq (hq : s.started id 0x104 = some q) (hlanded : s.rs.landed = false) (hvol : s.rs.vol = some v)
    (hdead : s.rs.dead = false) (hdusk : s.rs.dusk = false) (hp : fieldLe q.body 16 1 = p) (hp7 : p ≤ 7) (hpipe : (s.graph.pipe? p).isSome = true)
    (hstreams : fieldLe q.body 17 1 ≤ 15) (hcore : fieldLe q.body 18 1 ≤ 3) (hlive : s.liveTake p = none) (hnum : v.nextTake ≤ 65535)
    (hroom : v.nextRow < v.rows - 1) : ∃ w x u, s.TakeEnters v p w x u ∧
      s.takeStart id = ((u.evTake p v.nextTake 0 false).recShow).setResult id stOk v.nextTake := by
  subst hp
  rw [State.takeStart, State.recPacket_runs hq hlanded hdusk]
  extract_lets a p
  rw [hvol]
  dsimp -zeta only
  have hargs : ¬(decide (7 < p) || (s.graph.pipe? p).isNone || decide (15 < a 17 1) || decide (3 < a 18 1)) = true := by
    simp only [Bool.or_eq_true, decide_eq_true_eq, not_or, Bool.not_eq_true, Option.isNone_eq_false_iff]
    exact ⟨⟨⟨Nat.not_lt.mpr hp7, hpipe⟩, Nat.not_lt.mpr hstreams⟩, Nat.not_lt.mpr hcore⟩
  rw [if_neg (by simp [hdead]), if_neg hargs, if_neg (by rw [State.recording, hlive]; decide),
    if_neg (by simp only [Bool.or_eq_true, decide_eq_true_eq, not_or]; exact ⟨Nat.not_lt.mpr hnum, Nat.not_le.mpr hroom⟩)]
  extract_lets n e u live w
  have hu : u = s.modRec fun r => { r with vol := some { v with takes := v.takes ++ [e], nextTake := n + 1 } } := State.modVol_of_vol hvol
  refine ⟨{ v with takes := v.takes ++ [e], nextTake := n + 1 }, live, w, ⟨rfl, rfl, rfl, rfl, ?_, ?_, ?_⟩, rfl⟩
  all_goals
    dsimp only [w]
    rw [hu]
    rfl

theorem State.liveTake_start (hlive : s.liveTake x.pipe = none) (hclosed : x.closed = none)
    (ht : t.rs.takes = s.rs.takes ++ [x]) : t.liveTake x.pipe = some x ∧ ∀ p', p' ≠ x.pipe → t.liveTake p' = s.liveTake p' := by
  unfold State.liveTake at hlive ⊢
  rw [ht]
  refine ⟨?_, fun p' hp' => ?_⟩
  · rw [List.find?_append, hlive]
    simp [hclosed]
  · rw [List.find?_append]
    simp [Ne.symm hp']

theorem State.anyTake_of_takes {l : List LiveTake} (ht : t.rs.takes = l ++ [x]) (hclosed : x.closed = none) : t.anyTake = true := by
  rw [State.anyTake, ht, List.any_append, Bool.or_eq_true]
  exact .inr (by rw [List.any_cons, hclosed]; rfl)

/-- A take whose last frame has been seen ends, and the last commit of it begins; else it notes its last frame. -/
theorem State.takeStop_eq (hq : s.started id 0x105 = some q) (hlanded : s.rs.landed = false) (hdusk : s.rs.dusk = false)
    (hlive : s.liveTake (fieldLe q.body 16 1) = some x) (hfid : fieldLe q.body 24 8 = fid) : s.takeStop id =
      if (fid = noFrame || x.last.any fun l => decide (fid ≤ l.1)) = true then
        (((s.modTake x.num fun y => { y with stopAt := some fid }).endTake x.num).modRec fun r =>
          { r with waiters := r.waiters ++ [(id, 16 + x.num)] }).recCommit
      else (s.modTake x.num fun y => { y with stopAt := some fid }).modRec fun r => { r with waiters := r.waiters ++ [(id, 16 + x.num)] } := by
  subst hfid
  rw [State.takeStop, State.recPacket_runs hq hlanded hdusk]
  extract_lets p fid
  rw [show s.liveTake p = some x from hlive]
  dsimp only [fid]
  generalize (decide (fieldLe q.body 24 8 = noFrame) || x.last.any fun l => decide (fieldLe q.body 24 8 ≤ l.1)) = passed
  cases passed <;> rfl

/-! ### Rows and checkpoints (R275, R278) -/

theorem State.rowIssue_eq (hvol : s.rs.vol = some v)
    (hfind : (s.rs.takes.find? fun t => t.pipe = p && decide (v.rowBytes ≤ t.buf.length) && decide (s.inFlight t.num < 8)) = some x)
    (htake : s.takeOf x.num = some x) (hdusk : s.rs.dusk = false) (hlanded : s.rs.landed = false) (hdead : s.rs.dead = false)
    (hrows : x.rows = row :: more) : s.rowIssue p =
      (s.modTake x.num fun y => { y with buf := y.buf.drop v.rowBytes, rows := more }).issue row 0 x.num (x.buf.take v.rowBytes) := by
  unfold State.rowIssue
  rw [hvol]
  dsimp only
  rw [hfind]
  dsimp only
  rw [if_neg (by simp [hdusk, hlanded, hdead]), State.issueRow, hvol, htake]
  dsimp only
  rw [hrows]

/-- Rows that are issued one after the other join those in flight. -/
theorem State.issues_eq {α : Type} {l : List α} {row : α → Nat} {data : α → Bytes} : ∃ rows,
    l.foldl (fun (t : State) r => t.issue (row r) 2 0 (data r)) s = s.modRec fun x => { x with flight := x.flight ++ rows } := by
  induction l generalizing s with
  | nil => exact ⟨[], congrArg (fun f => s.modRec fun x => { x with flight := f }) (List.append_nil s.rs.flight).symm⟩
  | cons r l ih =>
    obtain ⟨rows, h⟩ := ih (s := s.issue (row r) 2 0 (data r))
    refine ⟨⟨row r, 2, 0, data r, s.time.clk, []⟩ :: rows, ?_⟩
    rw [List.foldl_cons, h]
    exact congrArg (fun f => s.modRec fun x => { x with flight := f }) (List.append_assoc s.rs.flight [_] rows)

/-- A checkpoint begins if none is under way, and nothing keeps it from beginning. -/
theorem State.startCkpt_cases : (s.startCkpt = s ∧ (s.rs.vol.isSome = true → s.rs.landed = false → s.rs.dusk = false → s.rs.dead = false →
    s.rs.cphase ≠ 0)) ∨ ∃ stage at_ rows, stage ≠ 0 ∧ s.startCkpt = s.modRec fun x =>
    { x with
      dirtyEntries := [], wantCkpt := false, cphase := stage, ckptAt := at_, fenceAt := s.time.clk
      serving := x.waiters.filter s.servesNow, flight := x.flight ++ rows } := by
  unfold State.startCkpt
  split
  case h_1 v hvol =>
    split
    case isTrue hstays => exact .inl ⟨rfl, fun _ hlanded hdusk hdead => by simpa [hlanded, hdusk, hdead] using hstays⟩
    case isFalse hidle =>
      extract_lets rows u
      obtain ⟨issued, h⟩ := State.issues_eq (s := u) (l := rows) (row := fun r => regionRow v r.1 + r.2)
        (data := fun r => tableRow (u.durableTables v) r.1 r.2)
      refine .inr ⟨if rows.isEmpty then 2 else 1, v.seq, issued, by split <;> decide, ?_⟩
      rw [h]
      rfl
  case h_2 hnone => exact .inl ⟨rfl, fun hvol => absurd hvol (by rw [hnone]; decide)⟩

/-- A checkpoint that begins leaves the volume and the commits as they are. -/
theorem State.startCkpt_keeps : s.startCkpt.rs.vol = s.rs.vol ∧ s.startCkpt.rs.phase = s.rs.phase ∧ s.startCkpt.rs.dusk = s.rs.dusk ∧
    s.startCkpt.rs.waiters = s.rs.waiters ∧ s.startCkpt.besideRec = s.besideRec := by
  obtain ⟨h, _⟩ | ⟨stage, at_, rows, _, h⟩ := s.startCkpt_cases <;> rw [h] <;> exact ⟨rfl, rfl, rfl, rfl, rfl⟩

/-- The packet of a checkpoint joins those that wait for one. -/
def State.awaitCkpt (s : State) (id : Nat) : State := s.modRec fun x => { x with waiters := x.waiters ++ [(id, 0)] }

theorem State.checkpointPkt_eq (hq : s.started id 0x106 = some q) (hlanded : s.rs.landed = false) (hdusk : s.rs.dusk = false)
    (hvol : s.rs.vol.isSome = true) (hdead : s.rs.dead = false) :
    s.checkpointPkt id = if s.rs.phase = 0 then (s.awaitCkpt id).startCkpt else s.awaitCkpt id := by
  rw [State.checkpointPkt, State.recPacket_runs hq hlanded hdusk,
    if_neg (by simp [hdead, Option.isSome_iff_ne_none.mp hvol])]
  rfl

/-- A checkpoint that begins serves the packet that just asked for it. -/
theorem State.startCkpt_serves (hcphase : s.rs.cphase = 0) (hvol : s.rs.vol.isSome = true) (hlanded : s.rs.landed = false)
    (hdusk : s.rs.dusk = false) (hdead : s.rs.dead = false) : (id, 0) ∈ (s.awaitCkpt id).startCkpt.rs.serving := by
  obtain ⟨_, hbusy⟩ | ⟨stage, at_, rows, _, h⟩ := (s.awaitCkpt id).startCkpt_cases
  · exact absurd hcphase (hbusy hvol hlanded hdusk hdead)
  · rw [h]
    exact List.mem_filter.mpr ⟨List.mem_append_right _ (List.mem_singleton_self _), rfl⟩

theorem State.startCkpt_cphase (hvol : s.rs.vol.isSome = true) (hlanded : s.rs.landed = false) (hdusk : s.rs.dusk = false)
    (hdead : s.rs.dead = false) : s.startCkpt.rs.cphase ≠ 0 := by
  obtain ⟨h, hbusy⟩ | ⟨stage, at_, rows, hstage, h⟩ := s.startCkpt_cases <;> rw [h]
  · exact hbusy hvol hlanded hdusk hdead
  · exact hstage

/-! ### Fences (R276, R278) -/

theorem State.duskAdvance_idle (h : s.rs.dusk = false ∨ s.rs.phase ≠ 0) : s.duskAdvance = s := by
  refine if_neg ?_
  rcases h with h | h <;> simp [h]

theorem State.ckptFence_idle (h2 : s.rs.cphase ≠ 2) (h5 : s.rs.cphase ≠ 5) : s.ckptFence = s := by
  unfold State.ckptFence
  split
  case h_1 h _ => exact absurd h h2
  case h_2 h _ => exact absurd h h5
  case h_3 => rfl

/-- The first fence of a commit is complete: its journal row goes out (R276). -/
theorem State.commitFence_first (hphase : s.rs.phase = 1) :
    s.commitFence v = (((s.modRec fun x => { x with phase := 2 }).issue (regionRow v 3 + v.seq % max (journalRows v) 1) 1 0
      (s.journalRow v)).modRec fun x => { x with dirtyMembers := false }) := by
  rw [State.commitFence, hphase]
  rfl

/-- A fence that leaves a commit's row in flight begins nothing else. -/
theorem State.fenceDone_of_phase_two (hvol : s.rs.vol = some v) (h2 : (s.commitFence v).rs.cphase ≠ 2) (h5 : (s.commitFence v).rs.cphase ≠ 5)
    (hphase : (s.commitFence v).rs.phase = 2) : s.fenceDone = s.commitFence v := by
  rw [State.fenceDone, hvol]
  dsimp only
  rw [State.ckptFence_idle h2 h5, if_neg (by simp [hphase]), State.duskAdvance_idle (.inr (by simp [hphase]))]

theorem State.rd64_wr64_mod {lo hi : Reg} {ix : List Nat} {n : Nat} (hr : rising s.regs = true) (hne : lo.key ix ≠ hi.key ix) :
    (s.wr64 lo hi ix n).rd64 lo hi ix = n % 2 ^ 64 := by
  rw [State.rd64, State.wr64, State.rd_wr_ne hne.symm, State.rd_wr_same hr, State.rd_wr_same (State.rising_wr hr), Nat.mod_mod, Nat.mod_mod]
  exact Nat.mod_mul.symm

/-- Telling of a commit leaves its sequence number on show. -/
theorem State.rd64_commitSeq_of_tells (h : s.Tells ShownKeys t) :
    t.rd64 R.REC_COMMIT_SEQ_LO R.REC_COMMIT_SEQ_HI = s.rd64 R.REC_COMMIT_SEQ_LO R.REC_COMMIT_SEQ_HI :=
  State.rd64_of_changedIn h.regs (by simp [ShownKeys, OflKeys, Keys, Reg.key, R.REC_COMMIT_SEQ_LO, instOffset])
    (by simp [ShownKeys, OflKeys, Keys, Reg.key, R.REC_COMMIT_SEQ_HI, instOffset])

/-- What is told of a durable commit: its event, what REC_STAT shows and the notice to a peer. -/
theorem State.tells_durable {n : Nat} : s.Tells ShownKeys (((s.ev 0x0080 srcREC 0 n).recShow).oflCommitNotice) :=
  (State.Tells.refl.ev.trans State.tells_recShow).trans (State.tells_oflCommitNotice.mono fun _ h => .inr (.inr h))

/-- A commit that is durable ends: its sequence number shows, the volume holds it, and its event is raised (R276). -/
theorem State.commitDurable_ends (hvol : s.rs.vol = some v) (hr : rising s.regs = true) :
    s.commitDurable.rs.phase = 0 ∧ s.commitDurable.rs.vol = some (v.committed s.rs) ∧ s.commitDurable.rs.cphase = s.rs.cphase ∧
      s.commitDurable.rs.dusk = s.rs.dusk ∧ s.commitDurable.rd64 R.REC_COMMIT_SEQ_LO R.REC_COMMIT_SEQ_HI = v.seq % 2 ^ 64 ∧
      ∃ e ∈ s.commitDurable.raised, e.typ = 0x0080 ∧ e.src = srcREC := by
  unfold State.commitDurable
  rw [hvol]
  dsimp -zeta only
  extract_lets x dirty a b c d e
  have hc : b.Tells (fun _ => True) c := .foldl fun t y => by
    split
    · exact .wr64 .refl trivial trivial
    · exact .refl
  have ha : a = s.modRec fun r => { r with vol := some (v.committed x) } := State.modVol_of_vol hvol
  have hb : b.rs.phase = 0 ∧ b.rs.vol = some (v.committed x) ∧ b.rs.cphase = s.rs.cphase ∧ b.rs.dusk = s.rs.dusk := by
    dsimp only [b]
    rw [ha]
    exact ⟨rfl, rfl, rfl, rfl⟩
  have hregs : b.regs = s.regs := by
    dsimp only [b]
    rw [ha]
    rfl
  have hd : rising d.regs = true := hc.regs.rising (hregs ▸ hr)
  have htold := State.tells_durable (s := e) (n := v.seq % 2 ^ 32)
  have hrs : e.rs = { c.rs with takes := d.rs.takes } := rfl
  obtain ⟨hphase, hv, hcphase, hdusk⟩ := hb
  rw [htold.rs, State.rd64_commitSeq_of_tells htold, hrs, hc.rs]
  refine ⟨hphase, hv, hcphase, hdusk, State.rd64_wr64_mod hd (by decide), ?_⟩
  obtain ⟨r, hr, htyp, hsrc, _⟩ := State.recShow_ev (s := e) (typ := 0x0080) (src := srcREC) (inst := 0) (payload := v.seq % 2 ^ 32)
  exact ⟨r, State.tells_oflCommitNotice.mem_raised hr, htyp, hsrc⟩

/-- A fence that leaves no commit under way may begin a checkpoint, which leaves the commits as they are. -/
theorem State.fenceDone_of_phase_zero (hvol : s.rs.vol = some v) (h2 : (s.commitFence v).rs.cphase ≠ 2) (h5 : (s.commitFence v).rs.cphase ≠ 5)
    (hdusk : (s.commitFence v).rs.dusk = false) : s.fenceDone.rs.phase = (s.commitFence v).rs.phase ∧
      s.fenceDone.rs.vol = (s.commitFence v).rs.vol ∧ s.fenceDone.regs = (s.commitFence v).regs ∧
      s.fenceDone.raised = (s.commitFence v).raised := by
  obtain ⟨u, hu, heq⟩ : ∃ u : State, (u = s.commitFence v ∨ u = (s.commitFence v).startCkpt) ∧ s.fenceDone = u.duskAdvance := by
    rw [State.fenceDone, hvol]
    dsimp only
    rw [State.ckptFence_idle h2 h5]
    split
    · exact ⟨_, .inr rfl, rfl⟩
    · exact ⟨_, .inl rfl, rfl⟩
  obtain ⟨hv, hphase, hd, _, hframe⟩ := (s.commitFence v).startCkpt_keeps
  rcases hu with rfl | rfl
  · rw [heq, State.duskAdvance_idle (.inl hdusk)]
    exact ⟨rfl, rfl, rfl, rfl⟩
  · rw [heq, State.duskAdvance_idle (.inl (hd.trans hdusk))]
    exact ⟨hphase, hv, (congrArg State.regs hframe :), (congrArg State.raised hframe :)⟩

end

/-- Settles O35: each packet, row and fence by its equation; a take goes on through the commit that follows. -/
theorem takesAndCommits : Obligations.TakesAndCommits := by
  refine ⟨?_, ?_, ?_, ?_, ?_, ?_, ?_, ?_⟩
  · intro id q v s hq hlanded hvol hdead hdusk hr p hp hpipe hstreams hcore hlive hnum hroom
    obtain ⟨w, x, u, hu, heq⟩ :=
      State.takeStart_eq (p := p) hq hlanded hvol hdead hdusk rfl hp hpipe hstreams hcore hlive hnum hroom
    have hany : (u.evTake p v.nextTake 0 false).anyTake = true := State.anyTake_of_takes hu.takes hu.closed
    have hregs : u.regs = s.regs := (congrArg State.regs hu.beside :)
    have hshow : u.Tells ShownKeys (u.evTake p v.nextTake 0 false).recShow := .trans (.ev .refl) State.tells_recShow
    have htrs : (s.takeStart id).rs = u.rs := by rw [heq]; exact hshow.rs
    have hlive' := State.liveTake_start (t := s.takeStart id) (hu.pipe ▸ hlive) hu.closed (htrs ▸ hu.takes)
    rw [hu.pipe] at hlive'
    refine ⟨_, w, x, exec_takeStart .., htrs ▸ hu.vol, hu.next, hlive'.1, hu.num, hu.closed, hlive'.2, ?_, ?_, ?_, ?_⟩ <;> rw [heq]
    · exact (State.recShow_recording (s := u.evTake p v.nextTake 0 false) (hregs ▸ hr)).trans hany
    · exact State.recShow_ev
    · exact State.setResult_packets (hshow.packets.trans (congrArg State.packets hu.beside :))
    · exact hshow.media.trans (congrArg State.media hu.beside :)
  · intro id q x s hq hlanded hdusk hlive htake hfid
    have heq := State.takeStop_eq hq hlanded hdusk hlive hfid
    rw [if_pos (by simp)] at heq
    have hstop : s.Records (s.modTake x.num fun y => { y with stopAt := some noFrame }) := .modTake fun _ => ⟨rfl, fun h => h⟩
    have hends := hstop.trans (State.endTake_records (n := x.num))
    obtain ⟨hpackets, hwaiters, htakes, hphase⟩ := hends.lastCommit (id := id) (k := 16 + x.num)
    rw [← heq] at hpackets hwaiters htakes hphase
    obtain ⟨f, hf, hfound⟩ := (hends.takes.trans htakes).takeOf (n := x.num)
    rw [htake] at hfound
    refine ⟨_, f x, exec_takeStop .., hfound, htakes.takeEnded State.endTake_ended _ hfound, hwaiters, hpackets, fun h0 hdead hvol => ?_⟩
    exact hphase ⟨hvol, hlanded, h0, hdusk, hdead⟩
  · intro id q x s hq hlanded hdusk hlive htake hfid hlast
    have heq := State.takeStop_eq hq hlanded hdusk hlive rfl
    have hany : (x.last.any fun l => decide (fieldLe q.body 24 8 ≤ l.1)) = false := by
      cases h : x.last with
      | none => rfl
      | some l => exact decide_eq_false (Nat.not_le.mpr (hlast l h))
    rw [if_neg (by simp [hfid, hany])] at heq
    have hexec : exec (.takeStop id) s = .next (s.takeStop id) := exec_takeStop ..
    rw [heq] at hexec
    exact ⟨_, hexec, State.takeOf_modTake (fun _ => rfl) htake, rfl, rfl⟩
  · intro id q s hq hlanded hdusk hvol hdead
    have heq := State.checkpointPkt_eq hq hlanded hdusk hvol hdead
    have hexec : exec (.checkpoint id) s = .next (s.checkpointPkt id) := exec_checkpoint ..
    rw [heq] at hexec
    by_cases h0 : s.rs.phase = 0
    · rw [if_pos h0] at hexec
      obtain ⟨_, _, _, hwaiters, hframe⟩ := (s.awaitCkpt id).startCkpt_keeps
      refine ⟨_, hexec, hwaiters, fun _ => State.startCkpt_cphase hvol hlanded hdusk hdead, fun _ hc0 => ?_, State.eq_of_besideRec hframe⟩
      exact State.startCkpt_serves hc0 hvol hlanded hdusk hdead
    · rw [if_neg h0] at hexec
      exact ⟨_, hexec, rfl, fun h => absurd h h0, fun h => absurd h h0, rfl⟩
  · intro p row v x more s hon hvol hfind htake hdusk hlanded hdead hrows
    have heq := State.rowIssue_eq hvol hfind htake hdusk hlanded hdead hrows
    have hexec : exec (.rowIssue p) s = .next (s.rowIssue p) := by rw [exec_rowIssue, execRowIssue, State.onRec, if_pos hon]
    rw [heq] at hexec
    exact ⟨_, hexec, rfl,
      State.takeOf_modTake (f := fun y => { y with buf := y.buf.drop v.rowBytes, rows := more }) (fun _ => rfl) htake, rfl⟩
  · intro s hon hvol hlanded hphase hdusk hdead
    obtain ⟨hbegun, hfence, hidx⟩ := State.recCommit_begins.cut ⟨hvol, hlanded, hphase, hdusk, hdead⟩
    refine ⟨s.recCommit, ?_, hbegun, hfence, hidx⟩
    rw [exec_recCommit, execRecCommit, State.onRec, if_pos hon]
  · intro v s hvol hphase h2 h5
    have heq := State.commitFence_first (v := v) hphase
    rw [exec_mediaFenceComplete, execMediaFenceComplete,
      State.fenceDone_of_phase_two hvol (by rw [heq]; exact h2) (by rw [heq]; exact h5) (by rw [heq]; rfl), heq]
    generalize s.journalRow v = data
    exact ⟨_, ⟨regionRow v 3 + v.seq % max (State.journalRows v) 1, 1, 0, data, s.time.clk, []⟩, rfl, rfl, rfl, rfl, rfl, rfl, rfl⟩
  · intro v s hvol hphase h2 h5 hdusk hr
    have hcommit : s.commitFence v = s.commitDurable := by
      rw [State.commitFence, hphase]
      rfl
    obtain ⟨hphase', hvol', hcphase, hdusk', hseq, hevent⟩ := State.commitDurable_ends hvol hr
    rw [← hcommit] at hphase' hvol' hcphase hdusk' hseq hevent
    obtain ⟨hp, hv, hregs, hraised⟩ := State.fenceDone_of_phase_zero hvol (hcphase ▸ h2) (hcphase ▸ h5) (hdusk'.trans hdusk)
    refine ⟨_, exec_mediaFenceComplete .., hp.trans hphase', hv.trans hvol', rfl, (State.rd64_congr hregs).trans hseq, ?_⟩
    rw [hraised]
    exact hevent

end Sys2Proof.Machine
namespace Sys2Proof.Machine

/-! ### What a member's failure leaves standing (R262, R284) -/

/-- The volume keeps its members and those that have failed, and every record raised stays raised. -/
structure State.KeepsMembers (s t : State) : Prop where
  members : t.members = s.members
  raised : s.raised <+: t.raised

/-- `t` is `s` after takes closed, frames were given up and packets answered: the rows in flight, the media and the time stand. -/
structure State.HoldsRows (s t : State) : Prop extends State.KeepsMembers s t where
  flight : t.rs.flight = s.rs.flight
  dusk : t.rs.dusk = s.rs.dusk
  media : t.media = s.media
  time : t.time = s.time

theorem State.KeepsMembers.trans {s t u : State} (h₁ : s.KeepsMembers t) (h₂ : t.KeepsMembers u) : s.KeepsMembers u :=
  ⟨h₂.members.trans h₁.members, h₁.raised.trans h₂.raised⟩

namespace State.HoldsRows

variable {s t u : State} {K : Nat → Prop} {n : Nat} {d : Fld} {ix : List Nat}

theorem refl : HoldsRows s s := ⟨⟨rfl, List.prefix_rfl⟩, rfl, rfl, rfl, rfl⟩

theorem trans (h₁ : HoldsRows s t) (h₂ : HoldsRows t u) : HoldsRows s u :=
  ⟨h₁.toKeepsMembers.trans h₂.toKeepsMembers, h₂.flight.trans h₁.flight, h₂.dusk.trans h₁.dusk, h₂.media.trans h₁.media, h₂.time.trans h₁.time⟩

theorem of_tells (h : s.Tells K t) : HoldsRows s t :=
  ⟨⟨by rw [State.members, State.members, h.rs], h.raised⟩, by rw [h.rs], by rw [h.rs], h.media, h.time⟩

theorem modRec {f : RecSt → RecSt} (hflight : ∀ x, (f x).flight = x.flight := by intro x; rfl)
    (hdusk : ∀ x, (f x).dusk = x.dusk := by intro x; rfl) (hvol : ∀ x, (f x).vol = x.vol := by intro x; rfl) : HoldsRows s (s.modRec f) :=
  ⟨⟨congrArg (Option.map fun v : Volume => (v.m, v.failed)) (hvol s.recorder), List.prefix_rfl⟩, hflight s.recorder, hdusk s.recorder, rfl, rfl⟩

theorem modTake {f : LiveTake → LiveTake} : HoldsRows s (s.modTake n f) := .modRec

theorem modEntry {f : Take → Take} : HoldsRows s (s.modEntry n f) :=
  have hvol : s.Records (s.modEntry n f) := .modVol fun _ => ⟨rfl, rfl⟩
  ⟨⟨hvol.members, hvol.raised⟩, rfl, rfl, rfl, rfl⟩

theorem bufFree {p fid : Nat} : HoldsRows s (s.bufFree p fid) := .modRec

theorem inc : HoldsRows s (s.inc d ix n) := ⟨⟨rfl, List.prefix_rfl⟩, rfl, rfl, rfl, rfl⟩

theorem raise {r : Rec} : HoldsRows s (s.raise r) := ⟨⟨rfl, List.prefix_append ..⟩, rfl, rfl, rfl, rfl⟩

theorem setResult {st data : Nat} : HoldsRows s (s.setResult n st data) := ⟨⟨rfl, List.prefix_rfl⟩, rfl, rfl, rfl, rfl⟩

theorem ite {c : Prop} [Decidable c] (ht : HoldsRows s t) (hu : HoldsRows s u) : HoldsRows s (if c then t else u) := by
  split
  · exact ht
  · exact hu

theorem foldl {α : Type} {step : State → α → State} {l : List α} (hs : ∀ u x, HoldsRows u (step u x)) : HoldsRows s (l.foldl step s) :=
  List.foldlRecOn l step (motive := HoldsRows s) refl fun u hu x _ => hu.trans (hs u x)

end State.HoldsRows

section

variable {s t u : State} {v : Volume} {x : LiveTake} {r : MediaRow} {n p fid cause time epoch row st k : Nat} {degraded commit : Bool}

theorem State.recLost_holdsRows : s.HoldsRows (s.recLost n p fid cause time epoch) :=
  have hlost : s.HoldsRows (s.addLost n p fid cause time epoch) := .trans .modRec .modEntry
  hlost.trans (.trans .inc .raise)

theorem State.closeTake_holdsRows : s.HoldsRows (s.closeTake n cause) := by
  unfold State.closeTake
  split
  · exact .ite .refl (.trans .modTake (.trans .modEntry (.trans .raise (.of_tells State.tells_recShow))))
  · exact .refl

theorem State.takeDrop_holdsRows : s.HoldsRows (s.takeDrop x) := .trans .modTake (.foldl fun _ _ => .bufFree)

theorem State.waitersEnd_holdsRows : s.HoldsRows (s.waitersEnd st) := by
  unfold State.waitersEnd
  extract_lets u
  have hu : s.HoldsRows u := .foldl fun _ _ => .setResult
  exact hu.trans .modRec

/-- The state but for the packets and those that wait. -/
def State.unanswered (s : State) : State := { s with packets := [], recorder := { s.recorder with waiters := [], serving := [] } }

theorem State.waitersEnd_unanswered : (s.waitersEnd st).unanswered = s.unanswered := by
  unfold State.waitersEnd
  extract_lets u
  have hu : u.unanswered = s.unanswered := List.foldlRecOn _ _ (motive := fun t : State => t.unanswered = s.unanswered) rfl fun _ ht _ _ => ht
  exact hu

/-- A volume that can lose no more members closes its takes and answers its packets (R284). -/
theorem State.deadCheck_holdsRows : s.HoldsRows s.deadCheck := by
  unfold State.deadCheck
  split
  case h_1 v hv =>
    extract_lets count dead closed dropped
    have hclosed : s.HoldsRows closed := .trans .modRec (.foldl fun _ _ => State.closeTake_holdsRows.trans State.takeDrop_holdsRows)
    have hdropped : closed.HoldsRows dropped := .trans .modRec State.waitersEnd_holdsRows
    exact .ite (hclosed.trans (hdropped.trans (.trans .raise (.of_tells State.tells_recShow)))) .refl
  case h_2 => exact .refl

theorem State.failureShown_holdsRows : s.HoldsRows (s.recShow).deadCheck := .trans (.of_tells State.tells_recShow) State.deadCheck_holdsRows

theorem State.rowDone_holdsRows : s.HoldsRows (s.rowDone n row degraded) := by
  unfold State.rowDone
  split
  case h_1 x hx =>
    extract_lets u w
    have hw : s.HoldsRows w := .trans .modTake (.foldl fun _ _ => .ite .bufFree .refl)
    exact .ite (hw.trans .modEntry) hw
  case h_2 => exact .refl

theorem State.loseRow_holdsRows : s.HoldsRows (s.loseRow n row) := by
  unfold State.loseRow
  split
  case h_1 x hx =>
    extract_lets hit lost u
    exact .trans (.modTake (s := s)) (.foldl fun _ _ => .ite (State.recLost_holdsRows.trans .bufFree) .refl)
  case h_2 => exact .refl

theorem State.rowStage_keeps : s.KeepsMembers (s.rowStage r) := by
  unfold State.rowStage
  split
  · exact ⟨rfl, List.prefix_rfl⟩
  · split <;> exact ⟨rfl, List.prefix_rfl⟩
  · split
    · split_ifs <;> exact ⟨rfl, List.prefix_rfl⟩
    · exact ⟨rfl, List.prefix_rfl⟩
  · exact ⟨rfl, List.prefix_rfl⟩

theorem State.stageLost_keeps : s.KeepsMembers (s.stageLost commit) := by
  cases commit <;> exact ⟨rfl, List.prefix_rfl⟩

theorem State.duskAdvance_keeps : s.KeepsMembers s.duskAdvance := by
  unfold State.duskAdvance
  split
  case isTrue =>
    cases hv : s.rs.vol with
    | none =>
      rw [State.takeCut, hv]
      exact ⟨rfl, List.prefix_rfl⟩
    | some v =>
      obtain ⟨_, _, _, _, h⟩ := State.takeCut_eq hv
      rw [h]
      exact ⟨rfl, List.prefix_rfl⟩
  case isFalse => exact ⟨rfl, List.prefix_rfl⟩

theorem State.keepsMembers_of_unstored (h : t.unstored = s.unstored) : s.KeepsMembers t := by
  have hrs : t.rs = s.rs := (congrArg State.recorder h :)
  have hraised : t.raised = s.raised := (congrArg State.raised h :)
  exact ⟨by rw [State.members, State.members, hrs], hraised ▸ List.prefix_rfl⟩

/-! ### Members fail (R284) -/

/-- A member has failed, and its event has been raised. -/
structure State.Reported (s : State) (k : Nat) : Prop where
  failed : ∃ m f, s.members = some (m, f) ∧ bit f k = true
  event : ∃ e ∈ s.raised, e.typ = 0x4080 ∧ e.src = srcREC ∧ e.inst = k

theorem State.Reported.keep (h : s.Reported k) (ht : s.KeepsMembers t) : t.Reported k := by
  obtain ⟨e, he, hrest⟩ := h.event
  exact ⟨ht.members ▸ h.failed, e, ht.raised.mem he, hrest⟩

theorem State.Reported.vol (h : s.Reported k) : ∃ w, s.rs.vol = some w ∧ bit w.failed k = true := by
  obtain ⟨m, f, hm, hf⟩ := h.failed
  obtain ⟨w, hw, heq⟩ := Option.map_eq_some_iff.mp hm
  obtain ⟨rfl, rfl⟩ := Prod.mk.inj heq
  exact ⟨w, hw, hf⟩

theorem State.members_of_vol (h : s.rs.vol = some v) : s.members = some (v.m, v.failed) := by rw [State.members, h, Option.map_some]

/-- One member of a list fails, with its cause, unless it has failed already or the volume has no such member. -/
def State.failMember (t : State) (k : Nat × Nat) : State :=
  match t.rs.vol with
  | some v =>
    if bit v.failed k.1 || v.m ≤ k.1 then t
    else
      let t := t.modVol fun v => { v with failed := setBit v.failed k.1, rebuilding := v.rebuilding &&& (0xFFFFFFFF - 2 ^ k.1) }
      let t := t.modRec fun x => { x with dirtyMembers := true, rebuild := if x.rebuild = some k.1 then none else x.rebuild }
      t.ev 0x4080 srcREC k.1 (k.1 + 2 ^ 8 * k.2)
  | none => t

theorem State.failMembers_eq {l : List (Nat × Nat)} : s.failMembers l = ((l.foldl State.failMember s).recShow).deadCheck := rfl

/-- A member that can fail does, and its event follows; any other stays as it is. -/
theorem State.failMember_cases {x : Nat × Nat} (h : s.members = some (n, k)) :
    s.failMember x = s ∧ (x.1 < n → bit k x.1 = true) ∨
      (s.failMember x).members = some (n, setBit k x.1) ∧
        ∃ e, (s.failMember x).raised = s.raised ++ [e] ∧ e.typ = 0x4080 ∧ e.src = srcREC ∧ e.inst = x.1 := by
  obtain ⟨v, hv, heq⟩ := Option.map_eq_some_iff.mp h
  obtain ⟨rfl, rfl⟩ := Prod.mk.inj heq
  rw [State.failMember, hv]
  dsimp only
  split
  case isTrue hno => exact .inl ⟨rfl, fun hlt => (by simpa [Nat.not_le.mpr hlt] using hno)⟩
  case isFalse =>
    rw [State.modVol_of_vol hv]
    exact .inr ⟨rfl, _, rfl, rfl, rfl, rfl⟩

theorem State.Reported.failMember {x : Nat × Nat} (h : s.Reported k) : (s.failMember x).Reported k := by
  obtain ⟨m, f, hm, hf⟩ := h.failed
  obtain ⟨heq, _⟩ | ⟨hm', e, hraised, _⟩ := State.failMember_cases (x := x) hm
  · rwa [heq]
  · obtain ⟨e, he, hrest⟩ := h.event
    exact ⟨⟨m, _, hm', bit_setBit_of_bit hf⟩, e, hraised ▸ List.mem_append_left _ he, hrest⟩

theorem State.Reported.failMembers {l : List (Nat × Nat)} (h : s.Reported k) : (s.failMembers l).Reported k := by
  have hfold : (l.foldl State.failMember s).Reported k := List.foldlRecOn l _ (motive := fun t : State => t.Reported k) h fun _ ht _ _ => ht.failMember
  exact hfold.keep State.failureShown_holdsRows.toKeepsMembers

/-- Each member of a list that is named for the first time has failed and been reported at the list's end. -/
theorem State.failMembers_reported {l : List (Nat × Nat)} {m f : Nat} (hm : s.members = some (m, f)) (hk : k < m) (hf : bit f k = false)
    (hmem : k ∈ l.map fun x => x.1) : (s.failMembers l).Reported k := by
  have hfold : (l.foldl State.failMember s).Reported k := by
    induction l generalizing s f with
    | nil => cases hmem
    | cons x l ih =>
      rw [List.foldl_cons]
      obtain ⟨heq, hwas⟩ | ⟨hm', e, hraised, hevent⟩ := State.failMember_cases (x := x) hm
      · have hne : x.1 ≠ k := fun hx => by
          subst hx
          rw [hwas hk] at hf
          cases hf
        rw [heq]
        exact ih hm hf ((List.mem_cons.mp hmem).resolve_left (Ne.symm hne))
      · by_cases hx : x.1 = k
        · subst hx
          have hnow : (s.failMember x).Reported x.1 :=
            ⟨⟨m, _, hm', by rw [bit_setBit, decide_eq_true rfl, Bool.or_true]⟩, e, hraised ▸ List.mem_append_right _ List.mem_cons_self, hevent⟩
          exact List.foldlRecOn l _ (motive := fun t : State => t.Reported x.1) hnow fun _ ht _ _ => ht.failMember
        · exact ih hm' (by rw [bit_setBit, hf, decide_eq_false hx, Bool.or_false]) ((List.mem_cons.mp hmem).resolve_left (Ne.symm hx))
  exact hfold.keep State.failureShown_holdsRows.toKeepsMembers

theorem State.failMembers_time {l : List (Nat × Nat)} : (s.failMembers l).time = s.time := by
  have hfold : (l.foldl State.failMember s).time = s.time := by
    refine List.foldlRecOn l _ (motive := fun t : State => t.time = s.time) rfl fun t ht x _ => ?_
    unfold State.failMember
    split
    · split <;> exact ht
    · exact ht
  exact State.failureShown_holdsRows.time.trans hfold

/-! ### Rows complete (R281, R284) -/

/-- The members that a row's completion fails: those named and those that are late, unless they have failed already. -/
def Volume.newlyFailed (v : Volume) (failed : List (Nat × Nat)) (late : List Nat) : List (Nat × Nat) :=
  (failed ++ late.map fun k => (k, 2)).filter fun k => k.1 < v.m && !(bit v.failed k.1)

theorem Volume.mem_newlyFailed {failed : List (Nat × Nat)} {late : List Nat} (hmem : k ∈ failed.map fun x => x.1) (hk : k < v.m)
    (hf : bit v.failed k = false) : k ∈ (v.newlyFailed failed late).map fun x => x.1 := by
  obtain ⟨x, hx, rfl⟩ := List.mem_map.mp hmem
  exact List.mem_map_of_mem (List.mem_filter.mpr ⟨List.mem_append_left _ hx, by simp [hk, hf]⟩)

/-- A row that completes is stored and its take or its stage goes on; then the members it fails, fail. -/
theorem State.rowComplete_cases {failed : List (Nat × Nat)} {rest : List MediaRow} (hvol : s.rs.vol = some v)
    (hrow : takeFirst (fun (x : MediaRow) => x.row = row) s.rs.flight = some (r, rest)) : ∃ u, s.KeepsMembers u ∧
      s.rowComplete row failed = (if v.r = 0 then u else u.failMembers (v.newlyFailed failed r.late)).duskAdvance := by
  rw [State.rowComplete, hvol, hrow]
  dsimp -zeta only
  extract_lets a bad gone down b lost c
  refine ⟨c, ?_, rfl⟩
  have ha : s.KeepsMembers a := ⟨rfl, List.prefix_rfl⟩
  have hb : s.KeepsMembers b := ha.trans (State.keepsMembers_of_unstored State.rowStore_unstored)
  refine hb.trans ?_
  dsimp only [c]
  split_ifs
  · exact State.loseRow_holdsRows.toKeepsMembers
  · exact State.rowDone_holdsRows.toKeepsMembers
  · exact State.stageLost_keeps
  · exact State.rowStage_keeps

theorem State.rowComplete_reported {failed : List (Nat × Nat)} {rest : List MediaRow} (hvol : s.rs.vol = some v)
    (hrow : takeFirst (fun (x : MediaRow) => x.row = row) s.rs.flight = some (r, rest)) (hk : k < v.m) (hf : bit v.failed k = false)
    (hr : v.r ≠ 0) (hmem : k ∈ failed.map fun x => x.1) : (s.rowComplete row failed).Reported k := by
  obtain ⟨u, hu, heq⟩ := State.rowComplete_cases (failed := failed) hvol hrow
  rw [heq, if_neg hr]
  exact (State.failMembers_reported (hu.members.trans (State.members_of_vol hvol)) hk hf (v.mem_newlyFailed hmem hk hf)).keep
    State.duskAdvance_keeps

theorem State.Reported.rowComplete {failed : List (Nat × Nat)} (h : s.Reported k) : (s.rowComplete row failed).Reported k := by
  obtain ⟨v, hvol, _⟩ := h.vol
  cases hrow : takeFirst (fun (x : MediaRow) => x.row = row) s.rs.flight with
  | none =>
    rw [State.rowComplete, hvol, hrow]
    exact h
  | some x =>
    obtain ⟨u, hu, heq⟩ := State.rowComplete_cases (failed := failed) hvol hrow
    rw [heq]
    refine State.Reported.keep ?_ State.duskAdvance_keeps
    split
    · exact h.keep hu
    · exact (h.keep hu).failMembers

theorem State.rowStore_modRec {f : RecSt → RecSt} {data : Bytes} {skip : List Nat} :
    (s.modRec f).rowStore v row data skip = (s.rowStore v row data skip).modRec f := by
  refine List.foldl_hom (fun t : State => t.modRec f) fun t u => ?_
  split
  · rfl
  · split <;> rfl

theorem State.rowDone_besideRec : (s.rowDone n row degraded).besideRec = s.besideRec := by
  unfold State.rowDone
  split
  case h_1 x hx =>
    extract_lets u w
    have hw : w.besideRec = s.besideRec :=
      List.foldlRecOn _ _ (motive := fun t : State => t.besideRec = s.besideRec) rfl fun t ht c _ => by split <;> exact ht
    split <;> exact hw
  case h_2 => rfl

theorem State.eq_of_besideRec_unstored (h : t.unstored.besideRec = s.unstored.besideRec) :
    t = { s with recorder := t.recorder, media := t.media } :=
  (congrArg (fun u : State => { u with recorder := t.recorder, media := t.media }) h :)

/-- A row that its members all wrote leaves the flight and stands on them (R281). -/
theorem State.rowComplete_wrote {rest : List MediaRow} (hvol : s.rs.vol = some v)
    (hrow : takeFirst (fun (x : MediaRow) => x.row = row) s.rs.flight = some (r, rest)) (hkind : r.kind = 0) (hlate : r.late = [])
    (hdusk : s.rs.dusk = false) : (s.rowComplete row []).rs.flight = rest ∧
      (s.rowComplete row []).media = (s.rowStore v row r.data []).media ∧
      (v.r = 0 → s.rowComplete row [] = { s with recorder := (s.rowComplete row []).recorder, media := (s.rowComplete row []).media }) := by
  generalize hu : s.rowStore v row r.data [] = u
  have hstored : u.unstored = s.unstored := hu ▸ State.rowStore_unstored
  have hrs : u.rs = s.rs := (congrArg State.recorder hstored :)
  obtain ⟨degraded, w, hw, heq⟩ : ∃ degraded w, w = (u.modRec fun x => { x with flight := rest }) ∧ s.rowComplete row [] =
      (if v.r = 0 then w.rowDone r.take row degraded else ((w.rowDone r.take row degraded).recShow).deadCheck).duskAdvance := by
    rw [State.rowComplete, hvol, hrow]
    dsimp only
    rw [hlate, if_pos hkind, ← hu, ← State.rowStore_modRec]
    exact ⟨_, _, rfl, rfl⟩
  have hflight : w.rs.flight = rest := hw ▸ rfl
  have hdusk' : w.rs.dusk = false := by rw [hw]; exact (congrArg RecSt.dusk hrs).trans hdusk
  have hmedia : w.media = u.media := hw ▸ rfl
  have hdone : w.HoldsRows (if v.r = 0 then w.rowDone r.take row degraded else ((w.rowDone r.take row degraded).recShow).deadCheck) :=
    .ite State.rowDone_holdsRows (State.rowDone_holdsRows.trans State.failureShown_holdsRows)
  rw [State.duskAdvance_idle (.inl (hdone.dusk.trans hdusk'))] at heq
  rw [← heq] at hdone
  refine ⟨hdone.flight.trans hflight, hdone.media.trans hmedia, fun h0 => State.eq_of_besideRec_unstored ?_⟩
  rw [if_pos h0] at heq
  have hbeside : w.besideRec = u.besideRec := hw ▸ rfl
  have hrest : (s.rowComplete row []).besideRec = u.besideRec := heq ▸ State.rowDone_besideRec.trans hbeside
  exact (congrArg State.unstored hrest).trans (congrArg State.besideRec hstored)

/-! ### Timeouts (R284) -/

/-- The instant at which a command that began at an instant times out: while a take records, its timeout has passed. -/
def State.timedOut (s : State) (since : Nat) : State :=
  if s.anyTake then s.reachClk (since + s.get Fl.REC_CFG_tmo_ms * 1000000) else s

theorem State.reachClk_rs : (s.reachClk n).rs = s.rs := (congrArg State.recorder State.elapsed_reachClk.frame :)

theorem State.timedOut_rs : (s.timedOut n).rs = s.rs := by
  unfold State.timedOut
  split
  · exact State.reachClk_rs
  · rfl

theorem State.le_clk_timedOut (h : s.anyTake = true) : n + s.get Fl.REC_CFG_tmo_ms * 1000000 ≤ (s.timedOut n).time.clk := by
  rw [State.timedOut, if_pos h]
  exact State.le_clk_reachClk

/-- A member that is late with a row is noted, once its timeout has passed while a take records. -/
theorem State.memberTimeout_row (hvol : s.rs.vol = some v) (hrow : (s.rs.flight.find? fun x => x.row = row) = some r) (hk : k < v.m)
    (hf : bit v.failed k = false) (hlate : r.late.contains k = false) : s.memberTimeout k (some row) =
      (s.timedOut r.at_).modRec fun x => { x with flight := x.flight.map fun q => if q.row = row then { q with late := q.late ++ [k] } else q } := by
  unfold State.memberTimeout
  rw [hvol]
  dsimp only
  rw [hrow]
  dsimp only
  rw [if_neg (by simpa [hf, Nat.not_le.mpr hk] using hlate)]
  rfl

/-- A member that is late with a flush has failed (R284). -/
theorem State.memberTimeout_flush (hvol : s.rs.vol = some v) (hk : k < v.m) (hf : bit v.failed k = false) (hr : v.r ≠ 0)
    (howed : s.flushOwed = true) : s.memberTimeout k none = (s.timedOut s.rs.fenceAt).failMembers [(k, 2)] := by
  unfold State.memberTimeout
  rw [hvol]
  dsimp only
  rw [if_neg (by simp [hf, howed, Nat.not_le.mpr hk]), if_neg hr]
  rfl

theorem MediaRow.mem_late_of_mem_map {l : List MediaRow} {y : MediaRow}
    (hy : y ∈ l.map fun q => if q.row = row then { q with late := q.late ++ [k] } else q) (hrow : y.row = row) : k ∈ y.late := by
  obtain ⟨q, -, rfl⟩ := List.mem_map.mp hy
  by_cases hq : q.row = row
  · rw [if_pos hq]
    exact List.mem_append_right _ List.mem_cons_self
  · rw [if_neg hq] at hrow
    exact absurd hrow hq

/-! ### The landing (R262) -/

theorem takeFirst_of_mem {α : Type} {test : α → Bool} {l : List α} {y : α} (hy : y ∈ l) (htest : test y = true) :
    ∃ z rest, takeFirst test l = some (z, rest) := by
  induction l with
  | nil => cases hy
  | cons z l ih =>
    by_cases hz : test z = true
    · exact ⟨z, l, if_pos hz⟩
    · have hne : y ≠ z := fun h => hz (h ▸ htest)
      obtain ⟨w, rest, h⟩ := ih ((List.mem_cons.mp hy).resolve_left hne)
      exact ⟨w, z :: rest, (if_neg hz).trans (congrArg (Option.map _) h)⟩

/-- A member that owes a write at the landing's deadline fails with the first data row in flight (R262). -/
theorem State.landingDeadline_reported {owing : List Nat} (hdusk : s.rs.dusk = true) (hvol : s.rs.vol = some v) (hmem : k ∈ owing)
    (hk : k < v.m) (hf : bit v.failed k = false) (hr : v.r ≠ 0) (hrow : ∃ r ∈ s.rs.flight, r.kind = 0) :
    (s.landingDeadline owing).Reported k := by
  rw [State.landingDeadline, if_neg (by simp [hdusk])]
  obtain ⟨r, hr0, hkind⟩ := hrow
  have hdata : r ∈ s.rs.flight.filter fun r => r.kind = 0 := List.mem_filter.mpr ⟨hr0, decide_eq_true hkind⟩
  cases hrows : s.rs.flight.filter fun r => r.kind = 0 with
  | nil => rw [hrows] at hdata; cases hdata
  | cons first more =>
    have hfirst : first ∈ s.rs.flight := (List.mem_filter.mp (hrows ▸ List.mem_cons_self :
      first ∈ s.rs.flight.filter fun r => r.kind = 0)).1
    obtain ⟨_, _, htaken⟩ := takeFirst_of_mem (test := fun x : MediaRow => x.row = first.row) hfirst (decide_eq_true rfl)
    have howes : k ∈ (owing.map fun k => (k, 2)).map fun x => x.1 := by simpa using hmem
    rw [List.foldl_cons]
    exact List.foldlRecOn more _ (motive := fun t : State => t.Reported k) (State.rowComplete_reported hvol htaken hk hf hr howes)
      fun _ ht _ _ => ht.rowComplete

/-- The landing is done: the recorder shows that it has landed (R262). -/
theorem State.landingDone_lands (hdusk : s.rs.dusk = true) (hphase : s.rs.phase = 0) (hrows : ∀ r ∈ s.rs.flight, r.kind ≠ 0)
    (hr : rising s.regs = true) : s.landingDone.rs.landed = true ∧ s.landingDone.rs.dusk = false ∧ s.landingDone.rs.flight = [] ∧
      s.landingDone.rs.takes = [] ∧ s.landingDone.cpr = s.cpr ∧ s.landingDone.Shows Fl.REC_STAT_dusk_done [] 1 ∧
      s.landingDone.Shows Fl.REC_STAT_state [] 7 := by
  have hnone : (s.rs.flight.any fun r => r.kind = 0) = false := by simpa using hrows
  rw [State.landingDone, if_pos (by simp [hdusk, hphase, hnone])]
  extract_lets u
  have hanswered : (u.waitersEnd stDenied).unanswered = u.unanswered := State.waitersEnd_unanswered
  generalize u.waitersEnd stDenied = w at hanswered
  have hlanded : w.rs.landed = true := (congrArg (fun t : State => t.recorder.landed) hanswered :)
  have hdusk' : w.rs.dusk = false := (congrArg (fun t : State => t.recorder.dusk) hanswered :)
  have hflight : w.rs.flight = [] := (congrArg (fun t : State => t.recorder.flight) hanswered :)
  have htakes : w.rs.takes = [] := (congrArg (fun t : State => t.recorder.takes) hanswered :)
  have hcpr : w.cpr = s.cpr := (congrArg State.cpr hanswered :)
  have hregs : w.regs = s.regs := (congrArg State.regs hanswered :)
  generalize hx : w.put Fl.REC_STAT_dusk_done [] 1 = x
  have hshows : x.Shows Fl.REC_STAT_dusk_done [] 1 := hx ▸ .of_put (hregs ▸ hr) (by decide) (by decide) (by decide)
  have hxrs : x.rs = w.rs := hx ▸ rfl
  have hxcpr : x.cpr = w.cpr := hx ▸ rfl
  have hstate : x.recState = 7 := by rw [State.recState, hxrs, hlanded, if_pos rfl]
  have htold : x.Tells ShownKeys x.recShow := State.tells_recShow
  rw [htold.rs, htold.cpr, hxrs, hxcpr]
  exact ⟨hlanded, hdusk', hflight, htakes, hcpr, State.recShow_duskDone hshows, hstate ▸ State.recShow_state hshows.rising⟩

/-- With no reset due, what has landed is shown in CPR alone. -/
theorem State.landedShow_cases (h : s.cpr.resetDue = false) : s.landedShow = s ∨ s.landedShow = s.put Fl.CPR_DUSK_STAT_landed [] 1 := by
  unfold State.landedShow
  extract_lets done sealed_ u
  split
  · exact .inr (if_neg (by rw [show u.cpr.resetDue = false from h]; decide))
  · exact .inl rfl

theorem State.Shows.landedShow {d : Fld} (h : s.Shows d [] n) (hreset : s.cpr.resetDue = false)
    (hd : Fl.CPR_DUSK_STAT_landed.Spares [] d []) : s.landedShow.Shows d [] n := by
  obtain heq | heq := State.landedShow_cases hreset <;> rw [heq]
  · exact h
  · exact .put h hd

theorem State.landedShow_rs (h : s.cpr.resetDue = false) : s.landedShow.rs = s.rs := by
  obtain heq | heq := State.landedShow_cases h <;> rw [heq]
  rfl

end

/-- Settles O36: a row that completes, and the members that fail with it; a member that is late; the recorder's landing. -/
theorem membersFailAndLand : Obligations.MembersFailAndLand := by
  refine ⟨?_, ?_, ?_, ?_, ?_, ?_⟩
  · intro row v r rest s hvol hrow hkind hlate hdusk
    obtain ⟨hflight, hmedia, hframe⟩ := State.rowComplete_wrote hvol hrow hkind hlate hdusk
    exact ⟨_, exec_rowWriteComplete .., hflight, hmedia, hframe⟩
  · intro row k v r rest s hvol hrow hk hf hr
    have hrep := State.rowComplete_reported (failed := [(k, 1)]) hvol hrow hk hf hr List.mem_cons_self
    obtain ⟨w, hw, hwf⟩ := hrep.vol
    exact ⟨_, w, exec_rowWriteComplete .., hw, hwf, hrep.event⟩
  · intro row k v r s hvol hrow hk hf hlate recs due u
    have heq := State.memberTimeout_row hvol hrow hk hf hlate
    have hexec : exec (.memberCommandTimeout k (some row)) s = .next (s.memberTimeout k (some row)) := exec_memberCommandTimeout ..
    rw [heq] at hexec
    exact ⟨_, hexec, fun x hx hxrow => MediaRow.mem_late_of_mem_map hx hxrow, State.le_clk_timedOut, rfl⟩
  · intro k v s hvol hk hf hr howed
    have heq := State.memberTimeout_flush hvol hk hf hr howed
    have hmembers := State.members_of_vol (State.timedOut_rs (n := s.rs.fenceAt) ▸ hvol)
    have hrep := State.failMembers_reported (l := [(k, 2)]) hmembers hk hf List.mem_cons_self
    rw [← heq] at hrep
    obtain ⟨w, hw, hwf⟩ := hrep.vol
    refine ⟨_, w, exec_memberCommandTimeout .., hw, hwf, fun hrecs => ?_, hrep.event⟩
    rw [heq, State.failMembers_time]
    exact State.le_clk_timedOut hrecs
  · intro k owing v s hdusk hvol hmem hk hf hr hrow
    have hrep := State.landingDeadline_reported hdusk hvol hmem hk hf hr hrow
    obtain ⟨w, hw, hwf⟩ := hrep.vol
    exact ⟨_, w, exec_landingWriteDeadline .., hw, hwf, hrep.event⟩
  · intro s hdusk hphase hrows hr hreset
    obtain ⟨hlanded, hdusk', hflight, htakes, hcpr, hdone, hstate⟩ := State.landingDone_lands hdusk hphase hrows hr
    have hreset' : s.landingDone.cpr.resetDue = false := hcpr ▸ hreset
    have hrs := State.landedShow_rs hreset'
    refine ⟨s.landingDone.landedShow, ?_, hrs ▸ hlanded, hrs ▸ hdusk', hrs ▸ hflight, hrs ▸ htakes, ?_, ?_⟩
    · rw [exec_duskLandingDone, execDuskLandingDone, if_pos (by simp [hdusk])]
    · exact (hdone.landedShow hreset' (.inl (by decide))).flag_true
    · exact (hstate.landedShow hreset' (.inl (by decide))).get

end Sys2Proof.Machine


/-! The branch frames of spec/09_rolore_development.md: a slot descriptor that is not the one announced. -/

namespace Sys2Proof.Machine

/-! ### A spare whose status word lies on the control word of a branch (R143, R324) -/

/-- A class 0 tile shows that it is busy in DVT_STATUS; of a tile 16, which the chip does not have, that word is OUTF_CTRL of
branch 2. -/
theorem key_dvtStatus_eq_outfCtrl : R.DVT_STATUS.key [16] = R.OUTF_CTRL.key [2] := by decide

/-- A frame of pipeline 0 that only branch 2 still has to take. -/
noncomputable def sparedFrame : Frame where
  pipe := 0
  stream := 0
  fid := 5
  epoch := 0
  time := 0
  fsw := 0
  slot := 0
  width := 64
  height := 2
  embed := []
  units := [.branch 2]
  entered := []
  words := []
  stats := []
  obStale := []
  tempEmbed := none
  coded := []
  cert := 0
  summary := none
  model := none
  waiting := false
  owes := []
  looks := []
  tnrRead := none
  tnrWrite := none
  origEpoch := 0
  results := []
  spill := []

/-- Branch 2 of pipeline 0: 2 × 2 pixels for DISP. -/
noncomputable def sparedBranch : BranchRec := ⟨0, 2, 0, 0, 2, 2, srcDISP, 0⟩

/-- Its edge, into buffer 2. -/
noncomputable def sparedEdge : EdgeRec := ⟨0x302, 0x400, 1, 2, 0, 0⟩

/-- Its buffer, of four slots in partition 1. -/
noncomputable def sparedBuffer : BufferRec := ⟨2, 1, 4, 0x100000⟩

/-- The branch with a class 0 tile of its pipeline. -/
noncomputable def sparedGraph : Graph :=
  { Graph.empty with
    edges := [sparedEdge], buffers := [sparedBuffer], parts := [⟨1, false, true, false, 0xFF, 0x200000, 0x400000⟩],
    tiles := [⟨0, 0, 1⟩], branches := [sparedBranch] }

/-- No epoch is recorded, so the live registers count: every domain has power, and slots of branch 2 are 8,192 bytes long. Spare 16 stands
in for the class 0 tile. -/
noncomputable def spared : State :=
  { State.reset with
    regs := [(R.CPR_PD_STAT.key [], 0xFFFFFF), (R.OUTF_STRIDE.key [2], 2)], undef := [], epochs := [],
    frames := [sparedFrame], graph := sparedGraph, subst := [⟨0, 0, 0, 16, none⟩] }

theorem spared_shaped : spared.Shaped := { reset_shaped with }

/-- The premises of the first clause hold of the state. -/
theorem spared_takes : spared.frameIn (.branch 2) 0 5 = some sparedFrame ∧ (spared.epochRec 0).graph.branch? 0 2 = some sparedBranch ∧
    (spared.epochRec 0).graph.branchEdge? 0 2 = some sparedEdge ∧ spared.powered .outf = true ∧
    (spared.epochRec 0).graph.buffer? 2 = some sparedBuffer ∧
    spared.outfNeed 2 0 sparedBranch ≤ spared.eff 0 Fl.OUTF_STRIDE_value [2] * 4096 ∧ spared.batchN 2 0 = 1 ∧
    (spared.outf 2).batch = none ∧
    (((List.range 4).map fun k => ((spared.outf 2).next + k) % 4).find? fun k => !((spared.heldSlots 2).contains k)) = some 0 := by
  decide

/-- Slot 0 of the branch. -/
theorem spared_base : (spared.graphOf 0).bufferBase sparedBuffer + 0 * (spared.eff 0 Fl.OUTF_STRIDE_value [2] * 4096) = 0x300000 := by
  decide

/-- The descriptor of the statement, made from the state before the command: byte 32 is the format (R324). -/
noncomputable def sparedDesc : Bytes := (spared.outfDesc 2 sparedFrame sparedBranch (2 * (spared.outf 2).k + 1) sparedFrame.fid 1).encode

theorem sparedDesc_fmt : sparedDesc[32]? = some 0 := by decide

/-- The descriptor that the command writes: by `key_dvtStatus_eq_outfCtrl` the busy spare has made the format 1. -/
theorem spared_written_fmt : ((spared.outfFrame 0 2 5 true).hbmRead 0x300000 sparedDesc.length)[32]? = some 1 := by decide

/-- Refutes O32: the busy flag of a spare that the chip does not have, which `Shaped` does not exclude, overwrites the branch's format
between the state before the command and the descriptor. -/
theorem not_branchFramesArePublished : ¬ Obligations.BranchFramesArePublished := by
  unfold Obligations.BranchFramesArePublished
  rintro ⟨hframe, -⟩
  obtain ⟨hin, hbranch, hedge, hon, hbuffer, hfits, hbatch, hnone, hslot⟩ := spared_takes
  obtain ⟨t, hexec, hread, -⟩ := hframe 0 2 5 0 true sparedFrame sparedBranch sparedEdge sparedBuffer spared (by decide) (by decide)
    spared_shaped hin hbranch hedge (by decide) (fun h => absurd h (by decide)) hon (by decide) hbuffer rfl hfits hbatch hnone hslot
    rfl rfl rfl
  have hnext : exec (.outfFrame 0 2 5 true) spared = .next (spared.outfFrame 0 2 5 true) := by
    rw [exec_outfFrame, execOutfFrame, if_pos ⟨by decide, by decide⟩]
  have ht : spared.outfFrame 0 2 5 true = t := Host.Outcome.next.inj (hnext.symm.trans hexec)
  have hdesc : (spared.outfFrame 0 2 5 true).hbmRead 0x300000 sparedDesc.length = sparedDesc := by
    rw [ht, ← spared_base]
    exact hread
  have hsame : some (1 : Byte) = some 0 := spared_written_fmt.symm.trans ((congrArg (·[32]?) hdesc).trans sparedDesc_fmt)
  exact absurd hsame (by decide)

end Sys2Proof.Machine
